-- ==== Sys2Proof/Word.lean ====
section
/-! DEFINITION. The word types of the JK12800: bytes of addressed memories, and 32-bit register words as a host
writes them (R423). -/

namespace Sys2Proof

/-- A byte of an addressed memory. -/
abbrev Byte := BitVec 8

/-- A register word: BAR0 is accessed in aligned 32-bit words (R423). -/
abbrev Word := BitVec 32

/-- The line-mode parameter block of R265. -/
structure Block where
  mode : Nat
  code : Nat
  roll : Nat
  rs : Nat
  fmt : Nat
  hx : Nat
  tslots : Nat
  deriving DecidableEq, Repr

/-- A token transfer of one of the channel's links (Table 2.8), as the sending end offers it. -/
inductive TokenMove where
  /-- HST completes a token of a client, on HST→TRB: whether its staging buffer is full, whether the host sends Local
  Fault, and its payload, byte 0 in the lowest bits -/
  | offer (client : Fin 256) (full lf : Bool) (data : BitVec 512)
  /-- a staged token of a tributary enters TRB -/
  | enterTrib (trib : Fin 1024)
  /-- TRB→SEC -/
  | toSec (trib : Fin 1024)
  /-- a data position of a tributary finds its justification buffer empty (R217) -/
  | mapperEmpty (trib : Fin 1024)
  /-- SEC→LFR -/
  | toLfr (trib : Fin 1024)
  /-- the framer's demultiplexer forms a token for a tributary, on LFR→SEC -/
  | demux (trib : Fin 1024)
  /-- SEC→TRB, for a tributary that is not encrypted -/
  | fromSec (trib : Fin 1024)
  /-- LFR→FEC, link 0x04: a LINE token of data bits -/
  | toFec
  /-- FEC→LDS, link 0x05: a LINE token of encoded bits -/
  | toLds
  /-- FEC→LFR, link 0x12: a LINE token of decoded bits -/
  | fromFec
  deriving DecidableEq, Repr

/-- Tokens of one tenant that a cipher pipeline holds as it is fenced (R279). -/
structure PipeHeld where
  /-- the open half -/
  rx : Bool
  trib : Fin 1024
  held : Nat
  deriving DecidableEq, Repr

/-- A line of a protected bank: 64 data bytes, byte i in bits 8i+7:8i, 64 parity bits and the check byte (R385). -/
structure SramLine where
  data : BitVec 512
  parity : BitVec 64
  check : BitVec 8
  deriving DecidableEq, Repr

/-- What a line holds, as the consequence of an uncorrectable one asks (Table 17.2): tokens, LLRs and LINE data in a datapath
bank, the rest in a bank of the control plane (R23). -/
inductive Holds where
  /-- data of tokens of the bank's channel: (receive, tributary) for each -/
  | tokens (l : List (Bool × Fin 1024))
  /-- receive LLRs or decoder window state of the bank's channel: codeword number and coded bits -/
  | llrs (l : List (Nat × Nat))
  /-- transmit LINE data, or what nothing in this list names -/
  | line
  | tribEntry (n : Fin 4) (t : Fin 1024)
  | clientEntry (n : Fin 4) (c : Fin 256)
  | tenantEntry (n : Fin 4) (t : Fin 1024)
  /-- table space that a host read asks for, at an address -/
  | hostRead (addr : Nat)
  | supervisor (i : Fin 3)
  | casting
  deriving DecidableEq, Repr

/-- Link speeds in GT/s (Table 19.1). -/
inductive LinkSpeed where
  | g2_5
  | g5
  | g8
  | g16
  | g32
  deriving DecidableEq, Repr

/-- MGT_STAT.SPEED. -/
def LinkSpeed.code : LinkSpeed → Nat
  | .g2_5 => 1
  | .g5 => 2
  | .g8 => 3
  | .g16 => 4
  | .g32 => 5

/-- Link widths (Table 19.1). -/
inductive LinkWidth where
  | x1
  | x2
  | x4
  deriving DecidableEq, Repr

/-- MGT_STAT.WIDTH. -/
def LinkWidth.lanes : LinkWidth → Nat
  | .x1 => 1
  | .x2 => 2
  | .x4 => 4

/-- A configuration write of one of the controls that the port follows (R421, R422). -/
inductive ConfigWrite where
  | busMaster (on : Bool)
  /-- Maximum Read Request Size, 128 bytes times 2 to the code, and Relaxed Ordering -/
  | deviceControl (mrrs : Fin 6) (relax : Bool)
  /-- in us -/
  | completionTimeout (us : Nat)
  | msix (enable mask : Bool)
  | powerState (d3 : Bool)
  deriving DecidableEq, Repr

end Sys2Proof
end

