-- ==== Sys2Proof/Syntax.lean ====
section
/-! DEFINITION. The commands of the JK12800: one constructor for each row of spec/opcode_table.json, with the operands that the
spec's words or the measured outcome of the event need (log entry 3).  `win` is the window of a register access (R438), `be`
its byte enables, `n` a channel. -/

namespace Sys2Proof

inductive Instr where
  /-- A host write of a register word that has no row of its own is applied field by field according to each field's configuration class (R14). -/
  | registerWrite (win : Fin 7) (addr value : Word) (be : Fin 16)
  /-- A read of an RC counter returns its value and clears it, and an increment in the same arbitration is counted after the clear (R13). -/
  | rcCounterRead (win : Fin 7) (addr : Word)
  /-- A read of the low word of a split register, such as DEV_TIME_LO, latches the high word for a later read (R461). -/
  | latchingLowWordRead (win : Fin 7) (addr : Word)
  /-- One indivisible handshake moves a token from the sending stage to the receiving stage (R46). -/
  | tokenTransfer (n : Fin 4) (m : TokenMove)
  /-- Every 10 µs the replica loops update FAB_SLACK_Cn.NOW and MIN for each channel (R49). -/
  | slackMeasurement (s0 s1 s2 s3 : Nat)
  /-- Every 50 µs the governor evaluates Table 2.3 and sends a clamped VCORE request (R51). -/
  | governorEvaluation
  /-- Every 10 µs while s is below 266, the governor raises VREQ by 25 mV and sets EMERG (R51). -/
  | governorEmergencyRaise
  /-- An AVSBus or PMBus request ends acknowledged or failed, and three consecutive failures set AVS_ERR (R54). -/
  | regulatorRequestResult (ok : Bool)
  /-- Every 1 ms while AVS_ERR holds, the governor repeats its request (R54). -/
  | regulatorRetry
  /-- When s stays below 256 for 1 ms with VREQ at VMAX, FLOOR sets and the slack-floor source is raised (R55). -/
  | slackFloorTimeout
  /-- A write of FAB_SNAP_REQ starts a ledger snapshot of each named channel, or sets COLLIDE (R61). -/
  | ledgerSnapshotRequest (win : Fin 7) (value : Word) (be : Fin 16)
  /-- Every link of the channel holds, and all counters and occupancies are latched and the links released (R61). -/
  | snapshotHoldComplete (n : Fin 4)
  /-- A link that has not acknowledged the hold 1 µs after the request releases the hold, sets TIMEOUT, and no record is written (R61). -/
  | snapshotHoldTimeout (n : Fin 4)
  /-- FAB_LEDGER[n] is written whole, SEQ increments, DONE sets and the snapshot-done source is raised (R62). -/
  | snapshotRecordWritten (n : Fin 4)
  /-- A write of FAB_PERT_CTRL enables, changes or ends the test perturbation of one link, subject to its refusal conditions (R63). -/
  | perturbationControlWrite (win : Fin 7) (value : Word) (be : Fin 16)
  /-- A write of LDS_LMODE.PROFILE selects the active profile, at once while DARK and otherwise at the next transmit multiframe (R76). -/
  | profileWrite (win : Fin 7) (n : Fin 4) (value : Word) (be : Fin 16)
  /-- Every 100 ms an end that has not agreed queues a MODE_OFFER (R266). -/
  | modeOfferTimer (n : Fin 4)
  /-- A received MODE_OFFER is compared with the local offer, and the end agrees, adopts the peer's profile, or offers again (R266). -/
  | modeOfferReceived (n : Fin 4) (seq : Fin 256) (rep : Fin 4) (block : Block) (agreed indoubt : Bool) (profile peer : Nat)
  /-- A write of LDS_RSZ_CTRL.GO is checked, and either starts a resize with a latched target MFN or is refused with a cause (R78). -/
  | resizeGo (win : Fin 7) (n : Fin 4) (value : Word) (be : Fin 16)
  /-- The peer checks a received RESIZE_PROPOSE and queues RESIZE_ACCEPT or RESIZE_REFUSE (R79). -/
  | resizeProposeReceived (n : Fin 4) (seq : Fin 256) (rep : Fin 4) (block : Block) (trib : Bool) (tA : Nat)
  /-- The proposer receives RESIZE_ACCEPT before target − 16 and requests its arm vote (R79). -/
  | resizeAcceptReceived (n : Fin 4) (seq : Fin 256) (rep : Fin 4) (tA tB : Nat)
  /-- A received RESIZE_REFUSE fails the resize, or is ignored, according to the time left before the receiving end's target (R490). -/
  | resizeRefuseReceived (n : Fin 4) (seq : Fin 256) (rep : Fin 4) (tA : Nat) (cause : Fin 16)
  /-- A received RESIZE_CONFIRM arms the accepting end, or a CANCEL makes it withdraw under R490 (R79). -/
  | resizeConfirmReceived (n : Fin 4) (seq : Fin 256) (rep : Fin 4) (tA tB : Nat) (cancel : Bool)
  /-- At target − 16 with no ACCEPT, the proposer sends CONFIRM with CANCEL and fails with cause 0xA (R79). -/
  | resizeAcceptDeadline (n : Fin 4)
  /-- At target − 8 with no CONFIRM, the accepting end fails with cause 0xA and sets INDOUBT (R79). -/
  | resizeConfirmDeadline (n : Fin 4)
  /-- At the target multiframe both transmitters switch to the target profile, CONVERGED clears and the channel becomes RESIZING (R174). -/
  | resizeTargetReached (n : Fin 4)
  /-- At the received target MFN the receive stages load the target profile and carry over their state (R150). -/
  | resizeReceiverSwitch (n : Fin 4)
  /-- With no convergence 50 ms after the target, the resize fails with cause 0xD and the channel goes ACQUIRING, or stays LOCKED (R79). -/
  | resizeConvergenceTimeout (n : Fin 4)
  /-- A write of OPT_CMD.ENABLE requests a laser-enable commit, or is held, ignored or refused under R25 and R92 (R92). -/
  | laserEnable (win : Fin 7) (n : Fin 4) (value : Word) (be : Fin 16)
  /-- A write of OPT_CMD.DISABLE turns the laser off or starts RAMP_DOWN at once without a vote, and the channel goes DARK (R92). -/
  | laserDisable (win : Fin 7) (n : Fin 4) (value : Word) (be : Fin 16)
  /-- The locker holds the laser within ±1.0 GHz for 100 µs, ON_FREQ sets and the enable ramp begins (R89). -/
  | tuneComplete (n : Fin 4) (us : Nat)
  /-- With no ON_FREQ 250 ms after a tune started, the laser turns off and retries once, and a second timeout fences the channel (R89). -/
  | tuneTimeout (n : Fin 4)
  /-- At each step interval of the profile, the launched power moves one of its 64 steps (R94). -/
  | rampStep (n : Fin 4)
  /-- A write of OPT_TX_PWR.SET is stored, or starts or retargets a ramp (R93). -/
  | txPowerWrite (win : Fin 7) (n : Fin 4) (value : Word) (be : Fin 16)
  /-- A write of OPT_FREQ.N is accepted only while PHASE is OFF and the slot fits the band, otherwise it is refused (R87). -/
  | optFreqWrite (win : Fin 7) (n : Fin 4) (value : Word) (be : Fin 16)
  /-- The AGC reaches ±0.5 dB of its target, and SETTLED sets (R96). -/
  | agcSettled (n : Fin 4) (gain : Nat)
  /-- 1 ms after loss of frame with no new frame detection, the AGC unfreezes (R30). -/
  | agcUnfreezeTimeout (n : Fin 4)
  /-- Every 10 µs the transmit and receive power monitors update, including the overload flag (R105). -/
  | opticalPowerMonitorUpdate (n : Fin 4) (tx rx : Int) (gain : Nat)
  /-- Received power below THRESH for 10 µs declares LOS, and a channel in LOCKED, IN_SERVICE or RESIZING goes ACQUIRING (R98). -/
  | opticalLosDeclare (n : Fin 4)
  /-- Received power at or above THRESH + HYST for 100 µs clears LOS (R98). -/
  | opticalLosClear (n : Fin 4)
  /-- A safety input going active cuts the laser of every lit channel and starts the discrepancy timer when the pair disagrees (R99). -/
  | safetyInputActive (input : Fin 2) (l0 l1 l2 l3 : Nat)
  /-- A safety input returning inactive ends or starts a disagreement, and the laser stays off (R100). -/
  | safetyInputInactive (input : Fin 2)
  /-- A disagreement that lasts DISC latches SAFETY_DISCREPANCY, holds FAULT_N low and raises its source (R100). -/
  | safetyDiscrepancyTimeout (n : Fin 4)
  /-- A write of 1 to OPT_SAFE_STAT.DISC clears the latch only when both inputs are inactive (R102). -/
  | discrepancyClear (win : Fin 7) (n : Fin 4) (value : Word) (be : Fin 16)
  /-- A locker or gain-current error beyond limits for its time fences the channel whole (R104). -/
  | laserFault (n : Fin 4)
  /-- Laser temperature more than 2.0 °C from its set point for 1 s fences the channel (R104). -/
  | coolerFault (n : Fin 4)
  /-- Booster output more than 3 dB from the ramp target for 1 ms fences the channel (R104). -/
  | boosterFault (n : Fin 4)
  /-- Driver supply or swing outside limits for 10 µs fences the channel (R104). -/
  | driverFault (n : Fin 4)
  /-- A receiver front-end self-test failure sets or clears OPT_FAULT.RX with no fence (R104). -/
  | receiverFrontEndFault (n : Fin 4) (fail : Bool)
  /-- An ADC slice returning one code for 1,024 samples faults and is concealed (R112). -/
  | sliceStuckCode (n : Fin 4) (k : Fin 544)
  /-- A working correction reaching a limit of its range faults the slice (R112). -/
  | sliceRangeFault (n : Fin 4) (k : Fin 544)
  /-- A working correction leaving its drift window faults the slice (R112). -/
  | sliceDriftFault (n : Fin 4) (k : Fin 544)
  /-- Comparator timing errors above 1e-6 over 1 ms fault the slice (R112). -/
  | sliceTimingFault (n : Fin 4) (k : Fin 544)
  /-- A DAC sense-path error above 3% over 1 ms faults the slice (R112). -/
  | sliceSenseFault (n : Fin 4) (k : Fin 544)
  /-- A write of CNV_SLC_CMD.FORCE faults the selected slice with CAUSE 0x7, or is refused (R124). -/
  | sliceForce (win : Fin 7) (n : Fin 4) (value : Word) (be : Fin 16)
  /-- A spare's shadow calibration converges and takes its reference values (R114). -/
  | shadowCalibrationConverged (n : Fin 4) (c : Fin 8) (offset gain skew bw : Int)
  /-- A spare not converged after 500 µs is fenced, and the next spare is tried (R114). -/
  | shadowCalibrationTimeout (n : Fin 4) (c : Fin 8)
  /-- At the next apply boundary the spare becomes ACTIVE, concealment ends and the failed slice is fenced (R114). -/
  | spareSubstitution (n : Fin 4) (c : Fin 8)
  /-- At the next apply boundary with no spare free, the converters of a direction respace to 64 − k positions and MAXRS and MAXMODE are recomputed (R117). -/
  | respacing (n : Fin 4) (dir : Fin 2)
  /-- At an apply boundary the converter applies pending substitutions, calibration entries and background steps (R110). -/
  | converterApplyBoundary (n : Fin 4) (dir : Fin 2) (moves : List (Nat × Nat × Bool))
  /-- A converter PLL frequency or phase error beyond limits for 1 µs declares loss of lock (R119). -/
  | converterPllLossOfLock (n : Fin 4) (dir : Fin 2)
  /-- A PLL within limits for 100 µs clears loss of lock (R119). -/
  | converterPllLock (n : Fin 4) (dir : Fin 2)
  /-- No LREFCLKn edge for 20 ns sets REFLOSS and causes loss of lock in both PLLs (R119). -/
  | converterReferenceLoss (n : Fin 4)
  /-- A PLL out of lock for 10 ms sets FAULT, MAXMODE becomes 0 and the channel is fenced whole (R120). -/
  | converterPllFault (n : Fin 4) (dir : Fin 2)
  /-- All four ADCs below THRESH for 10 µs declare CNV LOS (R121). -/
  | adcLosDeclare (n : Fin 4)
  /-- Any ADC at or above THRESH + HYST for 100 µs clears CNV LOS (R121). -/
  | adcLosClear (n : Fin 4)
  /-- CNV LOS for 1 ms while the laser is LIT and optical LOS is 0 sets FE_MISMATCH (R121). -/
  | frontEndMismatch (n : Fin 4)
  /-- The coarse estimator finds a result and writes EST, VALID, OOR and LDS_RS_EST together (R130). -/
  | coarseEstimateComplete (n : Fin 4) (est : Int) (rs : Nat)
  /-- With no result in 20 ms, the estimator sets FAIL, raises its source and starts again (R130). -/
  | coarseEstimateTimeout (n : Fin 4)
  /-- Every 10 µs while TRACK is 1 after LOCKED, the CD target moves at most 1 ps/nm (R129). -/
  | cdTrackStep (n : Fin 4) (dir : Fin 3)
  /-- The rms timing error below 0.05 UI for 100 µs declares clock lock (R133). -/
  | clockRecoveryLock (n : Fin 4) (ppm : Int)
  /-- The rms timing error above 0.15 UI for 10 µs declares loss of lock, which costs the frame (R133). -/
  | clockRecoveryLoss (n : Fin 4)
  /-- A pilot showing the phase off by more than 45° marks a slip, which is corrected and counted (R136). -/
  | cycleSlip (n : Fin 4) (symbols : Fin 65)
  /-- A step of main-receiver acquisition completes, and the next step starts (R146). -/
  | acquisitionStepComplete (n : Fin 4) (fofs : Int) (adc : List (List Int))
  /-- A step that exceeds its bound records LAST_FAIL and restarts acquisition warm or cold (R147). -/
  | acquisitionStepTimeout (n : Fin 4)
  /-- A single residue mismatch discards the block's output and increments ERRCNT (R142). -/
  | tileResidueMismatch (n : Fin 4) (t : Fin 96)
  /-- More than 16 residue mismatches in 1 ms fence the tile (R143). -/
  | tileResidueFault (n : Fin 4) (t : Fin 96)
  /-- A tile withholding its acknowledge for 1 µs while its stage progresses is fenced (R142). -/
  | tileHandshakeFault (n : Fin 4) (t : Fin 96)
  /-- A write of LDS_TILE_CMD.FORCE faults the selected tile with CAUSE 0x4, or is refused (R144). -/
  | tileForce (win : Fin 7) (n : Fin 4) (value : Word) (be : Fin 16)
  /-- The stage finishes repartitioning its work over its remaining active tiles within 20 µs (R143). -/
  | tileRepartitionComplete (n : Fin 4)
  /-- At the end of each convergence window WINOK is updated, and CONVERGED sets when it reaches 8 (R149). -/
  | convergenceWindowEnd (n : Fin 4)
  /-- 50 ms after LOCKED without convergence, NOCONV sets and its source is raised (R151). -/
  | noConvergenceTimeout (n : Fin 4)
  /-- At each window end the link-quality figures are latched, SEQ increments and SD is evaluated (R152). -/
  | linkQualityWindowEnd (n : Fin 4)
  /-- A missing LINE token at the transmit DSP is replaced by a substitute span and counted (R173). -/
  | txUnderrun (n : Fin 4) (k : Nat)
  /-- More than 1e-5 of a lane's samples clipped within 1 ms sets CLIP_EV and raises its source (R171). -/
  | txClipExcess (n : Fin 4) (lane : Fin 4)
  /-- A write of LDS_TX_TEST.PATTERN selects a test signal, or is refused while the channel is in service (R177). -/
  | testPatternWrite (win : Fin 7) (n : Fin 4) (value : Word) (be : Fin 16)
  /-- At each transmit multiframe boundary MFN increments and the work of the boundary is done (R206). -/
  | txMultiframeBoundary (n : Fin 4) (late : Bool)
  /-- A codeword's LLRs are assembled or overrun, it is counted in FEC_CW_IN and dispatched or dropped against EFF (R188). -/
  | codewordAssembled (n : Fin 4) (overrun : Bool) (adc : List (List Int))
  /-- An engine completes one layered pass of a codeword, and release is judged (R186). -/
  | enginePassComplete (n : Fin 4) (e : Fin 24)
  /-- A single residue mismatch discards and repeats the pass and increments ERRCNT (R195). -/
  | engineResidueMismatch (n : Fin 4) (e : Fin 24)
  /-- More than 16 mismatches in 1 ms fence the engine, and its codeword is replaced by fill (R196). -/
  | engineResidueFault (n : Fin 4) (e : Fin 24)
  /-- An engine holding a pass for more than 1 µs is fenced (R196). -/
  | engineHandshakeFault (n : Fin 4) (e : Fin 24)
  /-- A write of FEC_ENG_CMD.FORCE faults the selected engine, or is refused (R197). -/
  | engineForce (win : Fin 7) (n : Fin 4) (value : Word) (be : Fin 16)
  /-- An encoder parity mismatch recomputes the codeword, and a second one fences the channel (R198). -/
  | encoderParityMismatch (n : Fin 4) (second : Bool)
  /-- A candidate start with fewer than 10% unsatisfied checks over 16 codewords sets CW_ALIGN and dispatch begins (R193). -/
  | codewordAlignment (n : Fin 4) (offset : Fin 3500)
  /-- At each degrade window end DEG is set or cleared against THR (R194). -/
  | fecDegradeWindowEnd (n : Fin 4)
  /-- A write of FEC_ITER_CTRL is judged as one value and applied or refused whole (R204). -/
  | iterationControlWrite (win : Fin 7) (n : Fin 4) (value : Word) (be : Fin 16)
  /-- A received header at an expected or candidate position advances delineation and updates BIP, REI, SR and BDI (R209). -/
  | frameHeaderReceived (n : Fin 4) (locked : Bool)
  /-- A tributary overhead record copy is checked for CRC and TRIB under multiframe lock (R215). -/
  | torCopyReceived (n : Fin 4)
  /-- At each received multiframe boundary, the tributary records for the next multiframe are accepted or not (R215). -/
  | rxMultiframeBoundary (n : Fin 4)
  /-- A write of TRB_CMT.GO latches and checks the shadow table and requests an activation vote, or is refused (R220). -/
  | tributaryCommitGo (win : Fin 7) (n : Fin 4) (value : Word) (be : Fin 16)
  /-- A received sealed unit is opened with the key slot that KI_RX selects and released or discarded on its tag (R290). -/
  | sealedUnitReceived (n : Fin 4) (t : Fin 1024)
  /-- Lane amplitude below 60 mV for 10 µs declares LOS and LOL (R241). -/
  | hostLaneLosDeclare (n : Fin 4) (l : Fin 16)
  /-- Lane amplitude at or above 100 mV for 100 µs clears LOS (R241). -/
  | hostLaneLosClear (n : Fin 4) (l : Fin 16)
  /-- A recovered clock beyond 300 ppm or slipping for 1 µs declares LOL (R241). -/
  | hostLaneLolDeclare (n : Fin 4) (l : Fin 16)
  /-- 100 µs within limits clears LOL (R241). -/
  | hostLaneLolClear (n : Fin 4) (l : Fin 16)
  /-- Codeword and alignment-marker lock on every PCS lane deskews the port and sets AM_LOCK (R240). -/
  | hostAlignmentLock (n : Fin 4) (p : Fin 16) (skew : List Nat)
  /-- Loss of alignment-marker lock, or a skew change beyond ±4 ns, costs alignment (R242). -/
  | hostAlignmentLoss (n : Fin 4) (p : Fin 16)
  /-- After its conditions are absent for 100 µs, the client returns to UP at the next idle block (R239). -/
  | clientReplaceEnd (n : Fin 4) (c : Fin 256)
  /-- A FlexE member locks its overhead, or loses lock, a PHY-number check or the group number (R234). -/
  | flexeOverheadLock (n : Fin 4) (l : Fin 16) (lock : Bool) (phy gnum : Nat)
  /-- An uncorrectable host RS-FEC codeword has its blocks forwarded as error blocks and counted (R243). -/
  | hostFecCodeword (n : Fin 4) (p : Fin 16) (corrected : Nat) (uncorr : Bool) (errs : List (Fin 256 × Nat))
  /-- An egress FIFO empty for 1 µs with no token arriving puts the client into LF (R244). -/
  | egressFifoEmptyTimeout (n : Fin 4) (c : Fin 256)
  /-- A token arriving at a client's egress FIFO is queued, resumes DATA, or is discarded on overflow (R246). -/
  | egressTokenArrival (n : Fin 4) (t : Fin 1024) (sent ins del : Nat) (ppm : Int)
  /-- A write of the unused side of HST_CAL is accepted, or refused for capacity or client (R247). -/
  | calendarEntryWrite (win : Fin 7) (n : Fin 4) (g : Fin 8) (i : Fin 640) (value : Word) (be : Fin 16)
  /-- A write of HST_FLX_CMD.SWITCH sends the calendar request in the FlexE overhead (R247). -/
  | flexeCalendarSwitchRequest (win : Fin 7) (n : Fin 4) (value : Word) (be : Fin 16)
  /-- The host's acknowledgement arms the egress switch for the overhead multiframe boundary (R247). -/
  | flexeCalendarAck (n : Fin 4) (g : Fin 8)
  /-- At the overhead multiframe boundary the egress calendar switches and SW_EV sets (R247). -/
  | flexeCalendarSwitch (n : Fin 4) (g : Fin 8)
  /-- With no acknowledgement 100 ms after the request, CA_TIMEOUT sets and the old calendar stays (R247). -/
  | flexeCalendarTimeout (n : Fin 4) (g : Fin 8)
  /-- A host's calendar request is acknowledged at once, or withheld with CAL_BAD (R247). -/
  | flexeHostCalendarRequest (n : Fin 4) (g : Fin 8) (b : Fin 2)
  /-- A lane's output outside limits for 10 µs fences the lane (R248). -/
  | hostLaneTransmitterFault (n : Fin 4) (l : Fin 16)
  /-- A lane's receiver self-check failure fences the lane (R248). -/
  | hostLaneReceiverFault (n : Fin 4) (l : Fin 16)
  /-- A write of HST_LANE_CMD.FORCE fences the named lane, or is refused when it is already fenced (R249). -/
  | laneForce (win : Fin 7) (n : Fin 4) (value : Word) (be : Fin 16)
  /-- A host PLL error beyond 200 ppm, or a missing reference, for 1 µs declares loss of lock (R250). -/
  | hostPllLossOfLock (n : Fin 4) (ref : Bool)
  /-- 100 µs within limits clears host PLL loss of lock (R250). -/
  | hostPllLock (n : Fin 4)
  /-- Loss of lock for 10 ms, or three within 1 s, sets FAULT and fences all 16 lanes (R250). -/
  | hostPllFault (n : Fin 4)
  /-- A correlation peak held for 16 periods declares chip lock (R259). -/
  | iscChipLock (n : Fin 4) (code : Fin 32) (fofs : Int) (qual : Nat)
  /-- A peak below threshold for 64 periods loses chip lock and returns to SEARCH (R259). -/
  | iscChipLockLoss (n : Fin 4)
  /-- At each message boundary the transmitter starts the highest-priority waiting message, or a HEARTBEAT (R263). -/
  | iscMessageBoundary (n : Fin 4)
  /-- A received message with a bad CRC is discarded and counted (R262). -/
  | iscMessageCrcError (n : Fin 4)
  /-- A valid message of an unknown TYPE is counted and discarded (R262). -/
  | iscUnknownMessage (n : Fin 4) (seq : Fin 256) (rep : Fin 4)
  /-- A received HEARTBEAT refreshes peer presence and records the peer's identity (R269). -/
  | heartbeatReceived (n : Fin 4) (seq : Fin 256) (rep : Fin 4) (ident nonce : Nat)
  /-- A received TELEMETRY updates ISC_PEER_LQ0 to LQ3 together and clears AGE (R271). -/
  | telemetryReceived (n : Fin 4) (seq : Fin 256) (rep : Fin 4) (snr ber margin rxpwr unc lqseq : Nat)
  /-- A received HOST message fills ISC_HRX and raises its source, or is discarded with HRX_OVR (R271). -/
  | hostMessageReceived (n : Fin 4) (seq : Fin 256) (rep : Fin 4) (w0 w1 w2 w3 : Nat)
  /-- A write of ISC_HCMD.SEND queues the HTX bytes as one HOST message, or is refused while busy (R271). -/
  | iscHostSend (win : Fin 7) (n : Fin 4) (value : Word) (be : Fin 16)
  /-- A read of ISC_HRX3 clears HRX_FULL (R271). -/
  | hostMessageRead (win : Fin 7) (n : Fin 4)
  /-- Each 100 ms without a valid message increments MISSED (R269). -/
  | iscHeartbeatMissed (n : Fin 4)
  /-- Every 1 ms the entropy source reseeds the mask generator and runs its health tests (R276). -/
  | entropyReseed (ok : Bool)
  /-- A pipeline's duplicated result mismatch invalidates or discards the sealed unit and is counted (R277). -/
  | cipherMismatch (n : Fin 4) (t : Fin 1024) (p : Fin 16) (opn : Bool) (held : List PipeHeld)
  /-- A pipeline half holding a token for more than 1 µs is fenced (R279). -/
  | pipelineHoldFault (n : Fin 4) (p : Fin 16) (held : List PipeHeld)
  /-- A write of SEC_PIPE_CMD.FORCE fences the named pipeline, or is refused (R279). -/
  | pipelineForce (win : Fin 7) (n : Fin 4) (value : Word) (be : Fin 16) (held : List PipeHeld)
  /-- A write of KEY_ENG_CMD.FORCE fences the named iterated engine (R279). -/
  | iteratedEngineForce (win : Fin 7) (value : Word) (be : Fin 16) (working : Bool)
  /-- KEY_ROOT_CMD.OP PROVISION loads the root key after an approved vote, or is refused, and clears the DATA registers (R283). -/
  | rootProvision (win : Fin 7) (value : Word) (be : Fin 16)
  /-- KEY_ROOT_CMD.OP ERASE_ARM arms a root erase for 1 s after an approved vote (R298). -/
  | rootEraseArm (win : Fin 7) (value : Word) (be : Fin 16)
  /-- KEY_ROOT_CMD.OP ERASE_CONFIRM with a live arm and an approved vote zeroises and erases the root key (R298). -/
  | rootEraseConfirm (win : Fin 7) (value : Word) (be : Fin 16)
  /-- An ERASE_ARM not confirmed within 1 s clears ARMED (R298). -/
  | rootEraseArmExpiry
  /-- KEY_BULK_CTRL.GO with OP LOAD starts loading wrapped keys from host records (R285). -/
  | keyBulkLoad (win : Fin 7) (value : Word) (be : Fin 16)
  /-- KEY_BULK_CTRL.GO with OP SAVE starts saving wrapped tenant contexts of channel CH (R296). -/
  | keyBulkSave (win : Fin 7) (value : Word) (be : Fin 16)
  /-- KEY_BULK_CTRL.GO with OP RESTORE starts restoring tenant contexts into channel CH (R297). -/
  | keyBulkRestore (win : Fin 7) (value : Word) (be : Fin 16)
  /-- KEY_BULK_CTRL.RESUME continues a faulted operation from NEXT (R285). -/
  | keyBulkResume (win : Fin 7) (value : Word) (be : Fin 16)
  /-- KEY_BULK_CTRL.ABORT ends the operation with STATE ABORTED (R285). -/
  | keyBulkAbort (win : Fin 7) (value : Word) (be : Fin 16)
  /-- An iterated engine completes one record, which commits whole, or faults with a cause and stops the operation (R285). -/
  | keyElementComplete (e : Fin 4) (fetched : Option (List Byte)) (mismatch : Bool)
  /-- A write of KEY_SLOT_CMD.ERASE empties one key slot, or is refused when it is in use (R286). -/
  | keySlotErase (win : Fin 7) (value : Word) (be : Fin 16)
  /-- A write of KEY_ZEROISE.GO with CODE 0xC3 enters LOCKDOWN and erases every volatile key (R298). -/
  | zeroiseCommand (win : Fin 7) (value : Word) (be : Fin 16)
  /-- TAMPER_N going active enters LOCKDOWN where rails allow and erases every key, root included (R298). -/
  | tamperInput (active : Bool)
  /-- ZEROISE_N going active enters LOCKDOWN and erases every volatile key (R298). -/
  | zeroiseInput (active : Bool)
  /-- VKEEP below 2.0 V for 1 ms with VIO out of range loses the root key (R299). -/
  | vkeepLow (written : Bool)
  /-- A write of SEC_ROLL_CTRL.GO starts a rollover batch and announces it, or is refused with a cause (R292). -/
  | rolloverGo (win : Fin 7) (n : Fin 4) (value : Word) (be : Fin 16)
  /-- The peer checks each announced tenant, latches M_B, arms and sends ROLLOVER_ACK (R293). -/
  | rolloverAnnounceReceived (n : Fin 4) (seq : Fin 256) (rep : Fin 4) (m : BitVec 32) (base : Fin 1024) (map : BitVec 64)
  /-- The announcer forms the batch from both maps and arms it (R293). -/
  | rolloverAckReceived (n : Fin 4) (seq : Fin 256) (rep : Fin 4) (m : BitVec 32) (base : Fin 1024) (map : BitVec 64)
  /-- At M − 16 with no usable ACK, the batch fails (R293). -/
  | rolloverAckDeadline (n : Fin 4)
  /-- At the end of each conversion period the monitor yields one result per input and delivers to consumers and MON_RES (R303). -/
  | monitorConversionEnd (b : Fin 5) (codes : List (List Int))
  /-- A read of MON_RES returns the held result and clears FULL (R312). -/
  | monitorResultRead (win : Fin 7) (b : Fin 5)
  /-- A write of MON_URG.GO asks for one input's result at the end of the current period, or is refused while pending (R313). -/
  | monitorUrgentRequest (win : Fin 7) (b : Fin 5) (value : Word) (be : Fin 16)
  /-- A write of MON_CTRL.PRESET takes effect at the period end and restarts every CIC (R305). -/
  | monitorPresetChange (win : Fin 7) (b : Fin 5) (value : Word) (be : Fin 16)
  /-- A write of MON_CTRL.CS starts a 16-result cross-fade, or is refused during a fade (R311). -/
  | compensationSetChange (win : Fin 7) (b : Fin 5) (value : Word) (be : Fin 16)
  /-- A write of MON_COEF_DATA sets a tap of set 2 or 3, or is refused for the set in use (R310). -/
  | coefficientWrite (win : Fin 7) (b : Fin 5) (value : Word) (be : Fin 16)
  /-- At the end of a 16-result block each loop computes its error and updates or skips its bias (R318). -/
  | biasBlockEnd (n : Fin 4) (tap : Fin 2) (vpi : List Nat)
  /-- Monitor PLL loss or LREFCLK absent for 20 ns sets CLK_LOSS and stops results (R315). -/
  | monitorClockLoss (b : Fin 5)
  /-- The monitor PLL relocks, CLK_LOSS clears and every input restarts unsettled (R315). -/
  | monitorClockRelock (b : Fin 5)
  /-- CAL_CMD.GO with TYPE FULL starts a loopback calibration of a dark channel or the module, or is refused (R330). -/
  | calFull (win : Fin 7) (value : Word) (be : Fin 16)
  /-- CAL_CMD.GO with TYPE TRACK starts an in-service tracking calibration, or is refused (R328). -/
  | calTrack (win : Fin 7) (value : Word) (be : Fin 16)
  /-- CAL_CMD.GO with TYPE LOAD applies a set from the store copy that SRC names (R328). -/
  | calLoad (win : Fin 7) (value : Word) (be : Fin 16)
  /-- CAL_CMD.GO with TYPE REWRITE writes the set in force to both store copies (R328). -/
  | calRewrite (win : Fin 7) (value : Word) (be : Fin 16)
  /-- A run's measurements complete and plausibility is checked, then the apply vote is requested or the run fails (R331). -/
  | calMeasurementComplete (data : List Host.Cell) (temp : Int) (vref : Nat) (lppm : Int)
  /-- A needed monitor result not settled within 100 ms fails the run with cause 0x6 (R329). -/
  | calMonitorTimeout
  /-- A region write of the store completes or fails its read-back, and the run goes on to apply (R324). -/
  | calStoreWriteComplete (ok : Bool)
  /-- While DARK, a calibration element takes effect as it is reached, and the last completes the run (R332). -/
  | calApplyElement
  /-- A scope's set older than TRACK_PER hours triggers a TRACK run (R338). -/
  | calPolicyAgeTrigger (sc : Fin 5)
  /-- Every 1 s a channel's ENG_TEMP is compared with its set's TEMP and may trigger a TRACK run (R338). -/
  | calPolicyTemperatureCheck (n : Fin 4) (engTemp : Int)
  /-- A triggered run that was waiting starts when its scope meets R328 (R338). -/
  | calTriggeredRunStart (sc : Fin 5)
  /-- A supervisor sends its heartbeat to the arbiter (R346). -/
  | supervisorHeartbeat (i : Fin 3)
  /-- No heartbeat for 10 ms declares the supervisor failed with cause 0x2 (R346). -/
  | supervisorHeartbeatTimeout (i : Fin 3)
  /-- Every 10 ms the leader opens a checkpoint vote on the mirrored state (R346). -/
  | checkpointTimer
  /-- A requested vote opens, at once or when the vote before it is decided (R344). -/
  | voteOpen
  /-- The arbiter decides an open vote under Table 15.3, and the approved action takes effect in hardware (R344). -/
  | voteDecision (d0 d1 d2 : Option Nat)
  /-- After a two-supervisor disagreement, the self-test results fail one supervisor or freeze commits (R344). -/
  | supervisorSelfTestResult (good0 good1 good2 : Bool)
  /-- 100 ms after its declaration a failed supervisor is released from reset and begins its return (R348). -/
  | supervisorRelease (i : Fin 3)
  /-- A supervisor's firmware authentication of its slots completes and the image digest is voted (R355). -/
  | firmwareAuthenticationComplete (i : Fin 3) (ok agrees : Bool) (cfg : List (Nat × Nat × Bool × Bool))
  /-- The mirrored state is transferred, and the supervisor enters PROBATION when its first checkpoint matches (R348). -/
  | supervisorStateTransferComplete (i : Fin 3) (good : Bool)
  /-- When the mailbox has drained and no vote is open, leadership passes back to SUP0 (R348). -/
  | supervisorHandback
  /-- Every 1 ms the arbiter runs a known-answer vote, and a failure freezes commits (R352). -/
  | arbiterSelfTest (ok irq : Bool)
  /-- An admin write of SUP_CPLX_RST.GO with CODE 0xA5 resets the supervisors, arbiter and interrupt controller without disturbing traffic (R353). -/
  | supervisorComplexReset (win : Fin 7) (value : Word) (be : Fin 16)
  /-- The rebuilt complex chooses a leader, SUP_RESTART clears and the mailbox serves again (R353). -/
  | supervisorComplexResetComplete
  /-- A write of SUP_MBX_CMD_PI posts commands, or is refused when it would overfill the ring (R357). -/
  | mailboxCommandPost (win : Fin 7) (value : Word) (be : Fin 16)
  /-- When the mailbox serves and has room, the next command is accepted and checked for generation, tag and privilege (R358). -/
  | mailboxCommandAccept
  /-- A write of SUP_MBX_RSP_CI frees response-ring entries (R358). -/
  | mailboxResponseConsume (win : Fin 7) (value : Word) (be : Fin 16)
  /-- The ECHO command returns its payload words (R357). -/
  | echo (tag gen : Fin 256)
  /-- The SUP_STATUS command returns the supervisor and arbiter status registers (R357). -/
  | supStatus (tag gen : Fin 256)
  /-- The FENCE_CLEAR command retests a fenced unit under a vote and lifts its fence when it passes (R44). -/
  | fenceClear (tag gen : Fin 256)
  /-- The SUP_RESTORE command clears ATTEMPTS of a HELD supervisor and starts its return (R349). -/
  | supRestore (tag gen : Fin 256)
  /-- The LOG_READ command writes supervisor log entries to host memory (R357). -/
  | logRead (tag gen : Fin 256) (data : Option (List Byte))
  /-- The FW_INFO command returns the state of both firmware slots and SVN_MIN (R356). -/
  | fwInfo (tag gen : Fin 256)
  /-- The FW_LOAD command erases a slot and writes an image fetched by DMA (R356). -/
  | fwLoad (tag gen : Fin 256) (image : Option (List Byte))
  /-- The FW_VERIFY command authenticates a slot and returns its VERSION and SVN (R355). -/
  | fwVerify (tag gen : Fin 256)
  /-- The FW_ACTIVATE command names a verified slot for the next boot under a vote, raising SVN_MIN when LOCK_SVN is set (R356). -/
  | fwActivate (tag gen : Fin 256)
  /-- A write of IRQ_PEND_SET sets host pending bits as a raise does (R366). -/
  | irqPendSet (win : Fin 7) (w : Fin 64) (value : Word) (be : Fin 16)
  /-- A write of IRQ_PEND_CLR clears host pending bits and their arrival counts (R366). -/
  | irqPendClear (win : Fin 7) (w : Fin 64) (value : Word) (be : Fin 16)
  /-- A write of IRQ_MASK_SET masks host sources from the next selection (R367). -/
  | irqMaskSet (win : Fin 7) (w : Fin 64) (value : Word) (be : Fin 16)
  /-- A write of IRQ_MASK_CLR unmasks host sources from the next selection (R367). -/
  | irqMaskClear (win : Fin 7) (w : Fin 64) (value : Word) (be : Fin 16)
  /-- The controller samples eligibility and selects the highest level above the running priority for a target (R368). -/
  | interruptSelection (target : Fin 4)
  /-- The selected level is pushed onto the target's stack and the target is signalled by MSI-X or its input (R368). -/
  | interruptCommit (target : Fin 4)
  /-- A write of IRQ_EOI pops the top of the host stack, or sets EOI_UNDER when it is empty (R369). -/
  | irqEoi (win : Fin 7) (value : Word) (be : Fin 16)
  /-- A mismatch between the duplicated controller copies stops delivery and holds FAULT_N low (R374). -/
  | interruptControllerFault
  /-- A write of PMC_CH_CFG selects a counter's event, filter and threshold, or is refused (R379). -/
  | pmcConfigWrite (win : Fin 7) (b : Fin 5) (value : Word) (be : Fin 16)
  /-- A write of PMC_CH_VAL_HI completes a counter value write (R380). -/
  | pmcValueWrite (win : Fin 7) (b : Fin 5) (value : Word) (be : Fin 16)
  /-- A write of PMC_SNAP_REQ starts a counter snapshot of each named scope, or sets COLLIDE (R381). -/
  | pmcSnapshotRequest (win : Fin 7) (value : Word) (be : Fin 16)
  /-- The scope's area is written whole, DONE sets and source 145 is raised (R381). -/
  | pmcSnapshotWritten (k : Fin 5)
  /-- A line read is checked and delivered, corrected and written back, or found uncorrectable (R387). -/
  | memoryLineRead (bank : Fin 68) (line : Fin 40960) (src : Fin 7) (holds : Holds) (upset : SramLine) (stuck : Bool)
  /-- A line write recomputes its parity bits and check byte (R385). -/
  | memoryLineWrite (bank : Fin 68) (line : Fin 40960) (src : Fin 7) (holds : Holds) (upset : SramLine) (data : BitVec 512) (mask : BitVec 64)
  /-- An admin write of MEM_SCRUB_CTRL.GO starts a scrub over START to END, or is refused (R390). -/
  | scrubStart (win : Fin 7) (value : Word) (be : Fin 16)
  /-- At the scrub rate the next line is read through the check and NEXT advances (R391). -/
  | scrubLine (holds : Holds) (upset : SramLine) (stuck : Bool)
  /-- A write of MEM_SCRUB_CTRL.PAUSE pauses the scrub at a line boundary (R391). -/
  | scrubPause (win : Fin 7) (value : Word) (be : Fin 16)
  /-- A write of MEM_SCRUB_CTRL.RESUME resumes a software-paused scrub (R391). -/
  | scrubResume (win : Fin 7) (value : Word) (be : Fin 16)
  /-- A write of MEM_SCRUB_CTRL.ABORT ends the scrub at the next line with an aborted summary (R391). -/
  | scrubAbort (win : Fin 7) (value : Word) (be : Fin 16)
  /-- An admin write of MEM_RET_CTRL.GO starts copying a bank to a spare, or is refused (R393). -/
  | bankRetirementStart (win : Fin 7) (value : Word) (be : Fin 16)
  /-- One line of the bank is read and written to the spare, or the spare write fails and the retirement fails (R394). -/
  | retirementCopyLine (holds : Holds) (upset : SramLine) (stuck fails : Bool)
  /-- After the copy, accesses are held and the bank map switches to the spare (R393). -/
  | retirementSwitch
  /-- CST_CMD.GO with OP SUBMIT starts fetching an image, or is refused (R415). -/
  | castingSubmit (win : Fin 7) (value : Word) (be : Fin 16)
  /-- CST_CMD.GO with OP STORE writes a checked image into the boot casting region (R419). -/
  | castingStore (win : Fin 7) (value : Word) (be : Fin 16)
  /-- CST_CMD.GO with OP ERASE_STORE empties the boot casting region (R419). -/
  | castingEraseStore (win : Fin 7) (value : Word) (be : Fin 16)
  /-- A write of CST_CMD.PAUSE pauses the apply at the next element boundary (R417). -/
  | castingPause (win : Fin 7) (value : Word) (be : Fin 16)
  /-- A write of CST_CMD.RESUME resumes a software-paused apply (R417). -/
  | castingResume (win : Fin 7) (value : Word) (be : Fin 16)
  /-- A write of CST_CMD.ABORT abandons the image at the next element boundary (R417). -/
  | castingAbort (win : Fin 7) (value : Word) (be : Fin 16)
  /-- The image has been read from host memory or the staging buffer, and checking begins (R415). -/
  | castingFetchComplete (bytes : Option (List Byte))
  /-- The image checks end, and the image is refused, reported as a maquette, or put to the vote (R409). -/
  | castingCheckComplete
  /-- One element of an approved image is applied whole according to its fields' classes (R416). -/
  | castingApplyElement
  /-- A full casting's profiles and calibration sets are loaded and DEV_MODE becomes READY (R415). -/
  | castingLoadComplete
  /-- A boot-casting region write completes and STORE_EV sets (R419). -/
  | castingStoreComplete
  /-- A casting engine self-check failure sets FAULT, abandons the image and refuses later submissions (R418). -/
  | castingEngineFault
  /-- A function-level reset clears configuration space and MSI-X and aborts outstanding device reads (R434). -/
  | pcieFunctionLevelReset
  /-- A hot reset acts as a function-level reset and retrains the link (R434). -/
  | pcieHotReset
  /-- The link going down acts as a function-level reset and sets LINK_EV (R434). -/
  | pcieLinkDown
  /-- The link trains to L0 and LINK_UP sets (R422). -/
  | pcieLinkUp (speed : LinkSpeed) (width : LinkWidth)
  /-- Clearing Bus Master Enable stops new device requests and faults an element that needs one (R434). -/
  | busMasterEnableClear
  /-- A completion for a device read delivers data to its client, ends in error, or is discarded as late (R428). -/
  | dmaReadCompletion (c : Fin 7) (ok : Bool)
  /-- A device read with no completion within the timeout ends in error for its client (R428). -/
  | dmaCompletionTimeout (c : Fin 7)
  /-- A write of MGT_DQ_PI posts descriptors to a queue, or is refused when it would overfill the ring (R430). -/
  | dmaQueuePost (win : Fin 7) (q : Fin 4) (value : Word) (be : Fin 16)
  /-- An enabled queue with a posted descriptor starts it and clears its STATUS (R430). -/
  | dmaDescriptorStart (q : Fin 4)
  /-- A GATHER element writes one table entry whole in one arbitration, or faults (R431). -/
  | dmaGatherElement (q : Fin 4) (taddr len : Word) (bytes : List Byte)
  /-- A SCATTER element copies table-space bytes to host memory from one version of each record, or faults (R432). -/
  | dmaScatterElement (q : Fin 4) (host : BitVec 64) (taddr len : Word) (poison : Bool)
  /-- MGT_DQ_CMD.RESUME rereads the halted descriptor and restarts at ERRIDX (R433). -/
  | dmaQueueResume (win : Fin 7) (q : Fin 4) (value : Word) (be : Fin 16)
  /-- MGT_DQ_CMD.SKIP completes the halted descriptor with its cause and goes on (R433). -/
  | dmaQueueSkip (win : Fin 7) (q : Fin 4) (value : Word) (be : Fin 16)
  /-- MGT_DQ_CMD.ABORT, or clearing EN, stops the running descriptor at the next element with cause 0x8 (R433). -/
  | dmaQueueAbort (win : Fin 7) (q : Fin 4) (ctrl : Bool) (value : Word) (be : Fin 16)
  /-- An SPI data word other than the last commits its write or read at its 32nd edge (R436). -/
  | spiDataWord (value : BitVec 32)
  /-- The rise of SPI_CS_N commits the last word of a well-formed frame, or discards a partial or extra-edged word (R437). -/
  | spiChipSelectRise (edges : Nat) (value : BitVec 32)
  /-- A main rail out of range for 1 µs enters KEEP, or the unpowered state without VKEEP (R445). -/
  | mainRailLoss (r : Fin 5) (brief : Bool)
  /-- The last main rail comes into range with RESET_N asserted and the device enters RESET (R447). -/
  | mainRailsUp
  /-- The internal reset ends 10 ms after the last main rail is in range (R447). -/
  | internalResetEnd
  /-- RESET_N asserted for 1 µs or longer enters RESET as a device reset (R450). -/
  | resetNAssert
  /-- RESET_N released with the rails in range and the internal reset ended enters BOOT (R447). -/
  | resetNRelease
  /-- An admin write of DEV_RST_CMD.GO with CODE 0x5A enters RESET within 2 µs (R451). -/
  | deviceResetCommand (win : Fin 7) (value : Word) (be : Fin 16)
  /-- After 1 ms in RESET following DEV_RST_CMD, the device enters BOOT (R451). -/
  | deviceResetHoldEnd
  /-- A boot step completes, and the next begins, or the device is held in BOOT, enters LOCKDOWN or enters CAST (R453). -/
  | bootStepComplete (root : Bool) (banks : List Nat) (units : List (Nat × Nat × Nat))
  /-- PWR_WARN_N going active refuses writes, stops long operations and takes the power-loss snapshots (R455). -/
  | powerWarning (short : Bool)
  /-- The power-loss record is programmed into the store with its check word last (R457). -/
  | powerLossRecordProgrammed
  /-- PWR_WARN_N inactive for 10 ms with the rails up ends the warning and sets WARN_ABORT (R459). -/
  | powerWarningEnd
  /-- The retest that an approved FENCE_CLEAR vote started ends, and the unit returns or stays fenced, the channel going DARK where its whole fence lifts (R44). -/
  | fenceRetestComplete (tag gen : Fin 256) (fails : List (Nat × Nat))
  /-- A client's egress FIFO empties within a packet, so HST sends error control blocks, increments UNDER and sets UNDER_EV (R246). -/
  | egressFifoEmptyInPacket (n : Fin 4) (c : Fin 256)
  /-- The host switches its calendar at the overhead multiframe boundary, HST follows on ingress and RX_CAL changes (R247). -/
  | flexeIngressCalendarSwitch (n : Fin 4) (g : Fin 8)
  /-- A configuration write sets Bus Master Enable, Device Control, the MSI-X enables or the D-state, changing MGT_STAT and what the port may send (R422). -/
  | pcieConfigurationWrite (w : ConfigWrite)
  /-- SPI_CS_N falling begins a frame and latches SPI_STAT for output during H0 (R435). -/
  | spiChipSelectFall
  /-- The header words of an SPI frame are taken, and a bad header sets HDR_ERR and ABORT so that no word of the frame commits (R437). -/
  | spiHeaderWord (value : BitVec 32)
  /-- VKEEP leaves range while the main rails are up, and VKEEP_OK and its RAIL_OK bit clear (R446). -/
  | vkeepAbsent
  /-- VKEEP returns to range while the main rails are up, and VKEEP_OK sets again (R446). -/
  | vkeepRestored
  /-- MREFCLK goes absent, so DEV_TIME and the module monitor change to LREFCLK0 or the on-die oscillator, and TSRC and OSC change (R461). -/
  | mrefclkLoss (lref : Bool)
  /-- MREFCLK returns, and DEV_TIME and the module monitor go back to it with a continuous count (R461). -/
  | mrefclkRestored
  /-- While ID_CLASH holds and agreement is not sought, NEG_FAIL sets after 1 s (R266). -/
  | idClashNegotiationTimeout (n : Fin 4)
  /-- An ADC's clipped samples exceed 1e-4 of the last 1 ms, or fall back below it, and CLIP_HI bit a sets or clears (R122). -/
  | adcClipExcess (n : Fin 4) (a : Fin 4) (clipped : Nat)
  deriving DecidableEq, Repr

end Sys2Proof
end

