-- ==== Sys2Proof/Config.lean ====
section
/-! DEFINITION. What an implementation fixes and the spec leaves open: constants with no body, so that nothing in Lean
can see their value. -/

namespace Sys2Proof

/-- A value the spec leaves open, fresh at each draw: the draw's number selects it (log entry 2). -/
opaque Config.freeValue : Nat → Nat

/-- Whether a quotient that is not whole is rounded up, where the spec gives no rounding: of a numerator and a denominator
(log entry 2). -/
opaque Config.roundUp : Int → Nat → Bool

/-- Taps c0 to c4 of the built-in droop correction of a monitor preset (R310), in 2^-16 (log entry 2). -/
opaque Config.droopTap : Nat → Nat → Int

/-- Offset of the offset-min-sum pass (R186), in steps of an LLR (log entry 2). -/
opaque Config.minSumOffset : Nat

/-- The vendor key digest fixed in the boot ROM (R354, log entry 2): the spec gives no value. -/
opaque Config.vendorKey : Nat

/-- Decoding of a CFEC (2) or oFEC (3) block from its LLRs: its data bits, and whether its syndrome is zero (R200, log
entry 4). -/
opaque Config.blockDecode : Nat → List Int → List Bool × Bool

/-- Encoding of a CFEC (2) or oFEC (3) block from its data bits (R200, log entry 4). -/
opaque Config.blockEncode : Nat → List Bool → List Bool

/-- Data bits and coded bits of a CFEC (2) or oFEC (3) block (R200, log entry 4). -/
opaque Config.blockData : Nat → Nat
opaque Config.blockCoded : Nat → Nat

/-- LLR of bit i of the test that LLR_INJECT makes, in steps of an LLR before the limit of R138: of the draw that stands for
its noise, the bit, and Es/N0 in 0.01 dB (R201, log entry 2). -/
opaque Config.noisyLlr : Nat → Nat → Int → Int

/-- Natural logarithm of a count, in 2^-16: its rounding is open (R138, log entry 2). -/
opaque Config.lnCount : Nat → Int

/-- The demapper's correction table: the width of one of its 8 steps and the entries, in 2^-16 (R138, log entry 2). -/
opaque Config.corrStep : Nat
opaque Config.corrEntry : Nat → Int

/-- log2(1 + e^-x) for x in 2^-16, in 2^-10: its rounding is open (Table 6.5, log entry 2). -/
opaque Config.softBits : Int → Nat

/-- The unit phasor of an angle in 2^-32 of a turn, and the angle of a complex number: their rounding is open (R136, log
entry 2). -/
opaque Config.phasorRe : Int → Int
opaque Config.phasorIm : Int → Int
opaque Config.angle : Int → Int → Int

/-- The 16 test phases of the blind search, in 2^-32 of a turn (R136, log entry 2). -/
opaque Config.testPhase : Nat → Int

/-- Samples delayed by a number of 0.1 ps at a sample rate in 0.01 GS/s (R126, R170, log entry 2). -/
opaque Config.delayed : Int → Nat → List Int → List Int

/-- Samples resampled from one rate to another, both in kHz (R127, R167, log entry 2). -/
opaque Config.resampled : Nat → Nat → List Int → List Int

/-- One overlap-save block of the dispersion filter for a target in ps/nm and a symbol rate in 0.01 GBd, at an FFT length:
the samples that it delivers (R128, log entry 2). -/
opaque Config.cdBlock : Int → Nat → Nat → List (Int × Int) → List (Int × Int)

/-- Taps of the equaliser after the blind regime of acquisition: of the draw that stands for the signal seen, the filter and
the tap, in 2^-20 (R134, log entry 2). -/
opaque Config.blindTap : Nat → Nat → Nat → Int × Int

/-- Perturbation coefficients of a profile's link: number i of its triplet set, as m, n and C(m,n) in 2^-20 (R137, log entry
2).  Of the mode, the symbol rate and the dispersion limit. -/
opaque Config.triplet : Nat → Nat → Nat → Nat → Int × Int × Int × Int

/-- Taps of a filter interpolated from the sampling grid of one symbol rate to that of another, in 0.01 GBd (R150, log entry 2). -/
opaque Config.regridded : Nat → Nat → List (Int × Int) → List (Int × Int)

/-- Step of the adaptation of α, as a power of two to divide by (R137, log entry 2). -/
opaque Config.alphaStep : Nat

/-- Tap k of the root-raised-cosine filter of a roll-off code at an offset in 2^-10 of a symbol (R167, log entry 2), and
the filter of the supervisory chips (R255). -/
opaque Config.shapeTap : Nat → Int → Int
opaque Config.chipTap : Int → Int

/-- Pre-emphasis of a lane: the linear-phase filter whose gains in 0.01 dB at 0, 12, … 192 GHz are given, and linear in dB
between them (R168, log entry 2). -/
opaque Config.emphasised : List Int → List Int → List Int

/-- 10^(x/2000) in 2^-20 for x in 0.01 dB: its rounding is open (R170 to R172, log entry 2). -/
opaque Config.gain : Int → Int

/-- Sine and cosine of an angle in 0.01 degree, in 2^-20 (R170, log entry 2). -/
opaque Config.sine : Int → Int
opaque Config.cosine : Int → Int

/-- The inverse-sine characteristic for a ratio of peak drive to Vπ (R169, log entry 2). -/
opaque Config.inverseSine : Nat → Int → Int

/-- Sample i of a tone at 20 GHz at a sample rate in 0.01 GS/s (R177, log entry 2). -/
opaque Config.tone : Nat → Nat → Int

/-- The standard framing of an interoperable mode: client bytes of a block's data bits, and the data bits of the next block
for client bytes (R227, log entry 4). -/
opaque Config.standardUnpack : Nat → List Bool → List Byte
opaque Config.standardPack : Nat → List Byte → List Bool

/-- Symbols of a block of an interoperable code, with the pilot and training symbols of the mode: X and Y, in phase and
quadrature, in 2^-20 (R163, R166, log entry 4). -/
opaque Config.standardSymbols : Nat → List Bool → List (Int × Int × Int × Int)

/-- LLRs of an interoperable mode's coded bits from its equalised symbols, in 2^-16 (R139, log entry 4). -/
opaque Config.standardLlrs : Nat → List (Int × Int × Int × Int) → List Int

end Sys2Proof
end

