-- ==== Sys2Proof/Machine/Mem.lean ====
section
/-! DEFINITION. Addressed memories: lists of (address, byte) in one canonical form.  Addresses rise strictly, and no entry
is 0, which is what an unlisted address reads as (log entry 5). -/

namespace Sys2Proof.Machine

/-- The byte at an address. -/
def memRead (a : Nat) : List Host.Cell → Byte
  | [] => 0
  | (k, b) :: l => if k = a then b else memRead a l

/-- The memory without an address. -/
def memErase (a : Nat) : List Host.Cell → List Host.Cell
  | [] => []
  | (k, b) :: l => if k = a then memErase a l else (k, b) :: memErase a l

/-- Insertion before the first greater address. -/
def memInsert (a : Nat) (b : Byte) : List Host.Cell → List Host.Cell
  | [] => [(a, b)]
  | (k, c) :: l => if a < k then (a, b) :: (k, c) :: l else (k, c) :: memInsert a b l

/-- The memory with a byte stored at an address. -/
def memWrite (a : Nat) (b : Byte) (m : List Host.Cell) : List Host.Cell :=
  if b = 0 then memErase a m else memInsert a b (memErase a m)

/-- The canonical form: addresses from `lo` on rise strictly, and no byte is 0. -/
def memWfFrom : Nat → List Host.Cell → Bool
  | _, [] => true
  | lo, (a, b) :: l => decide (lo ≤ a) && decide (b ≠ 0) && memWfFrom (a + 1) l

def memWf (m : List Host.Cell) : Bool := memWfFrom 0 m

/-- Bytes stored from an address up. -/
def memFill (a : Nat) : List Byte → List Host.Cell → List Host.Cell
  | [], m => m
  | b :: bs, m => memFill (a + 1) bs (memWrite a b m)

/-- k bytes from an address up. -/
def memBytes (m : List Host.Cell) (a : Nat) : Nat → List Byte
  | 0 => []
  | k + 1 => memRead a m :: memBytes m (a + 1) k

/-- k bytes of `src` from a copied to b. -/
def memCopy (src : List Host.Cell) (a b k : Nat) (m : List Host.Cell) : List Host.Cell := memFill b (memBytes src a k) m

/-- A little-endian number of k bytes. -/
def memLe (m : List Host.Cell) (a : Nat) : Nat → Nat
  | 0 => 0
  | k + 1 => (memRead a m).toNat + 256 * memLe m (a + 1) k

/-- The k bytes of a number, low byte first. -/
def leBytes : Nat → Nat → List Byte
  | 0, _ => []
  | k + 1, v => BitVec.ofNat 8 v :: leBytes k (v / 256)

/-- Stores a number as k little-endian bytes. -/
def memPut (a k v : Nat) (m : List Host.Cell) : List Host.Cell := memFill a (leBytes k v) m

/-- One bit of the reflected CRC-32C. -/
def crcBit (c : BitVec 32) : BitVec 32 := if c.getLsbD 0 then (c >>> 1) ^^^ 0x82F63B78#32 else c >>> 1

/-- One byte of the reflected CRC-32C. -/
def crcByte (c : BitVec 32) (b : Byte) : BitVec 32 :=
  crcBit (crcBit (crcBit (crcBit (crcBit (crcBit (crcBit (crcBit (c ^^^ b.zeroExtend 32))))))))

/-- CRC-32C of R326: polynomial 0x1EDC_6F41, reflected in and out, initial value and final XOR all ones. -/
def crc32c (l : List Byte) : Nat := ((l.foldl crcByte 0xFFFFFFFF#32) ^^^ 0xFFFFFFFF#32).toNat

end Sys2Proof.Machine
end

