-- ==== Sys2Proof/Machine/Crypto.lean ====
section
/-! DEFINITION. The cryptographic functions that chapters 12, 15 and 18 of spec/ name by their standards (log entry 4):
SHA-256 and HMAC-SHA-256 (FIPS 180-4, FIPS 198-1), AES-256 (FIPS 197) and AES key wrap (SP 800-38F, KW). -/

namespace Sys2Proof.Machine

/-! ## SHA-256 -/

/-- The round constants. -/
def shaK : List (BitVec 32) :=
  ([0x428A2F98, 0x71374491, 0xB5C0FBCF, 0xE9B5DBA5, 0x3956C25B, 0x59F111F1, 0x923F82A4, 0xAB1C5ED5,
   0xD807AA98, 0x12835B01, 0x243185BE, 0x550C7DC3, 0x72BE5D74, 0x80DEB1FE, 0x9BDC06A7, 0xC19BF174,
   0xE49B69C1, 0xEFBE4786, 0x0FC19DC6, 0x240CA1CC, 0x2DE92C6F, 0x4A7484AA, 0x5CB0A9DC, 0x76F988DA,
   0x983E5152, 0xA831C66D, 0xB00327C8, 0xBF597FC7, 0xC6E00BF3, 0xD5A79147, 0x06CA6351, 0x14292967] : List Nat).map (BitVec.ofNat 32)
  ++ ([0x27B70A85, 0x2E1B2138, 0x4D2C6DFC, 0x53380D13, 0x650A7354, 0x766A0ABB, 0x81C2C92E, 0x92722C85,
   0xA2BFE8A1, 0xA81A664B, 0xC24B8B70, 0xC76C51A3, 0xD192E819, 0xD6990624, 0xF40E3585, 0x106AA070,
   0x19A4C116, 0x1E376C08, 0x2748774C, 0x34B0BCB5, 0x391C0CB3, 0x4ED8AA4A, 0x5B9CCA4F, 0x682E6FF3,
   0x748F82EE, 0x78A5636F, 0x84C87814, 0x8CC70208, 0x90BEFFFA, 0xA4506CEB, 0xBEF9A3F7, 0xC67178F2] : List Nat).map (BitVec.ofNat 32)

/-- The initial hash value. -/
def shaInit : List (BitVec 32) :=
  ([0x6A09E667, 0xBB67AE85, 0x3C6EF372, 0xA54FF53A, 0x510E527F, 0x9B05688C, 0x1F83D9AB, 0x5BE0CD19] : List Nat).map (BitVec.ofNat 32)

def bigWord (a b c d : Byte) : BitVec 32 := a ++ b ++ c ++ d

/-- Bytes as big-endian words. -/
def wordsOf : List Byte → List (BitVec 32)
  | a :: b :: c :: d :: l => bigWord a b c d :: wordsOf l
  | _ => []

/-- The bytes of a number of k bytes, most significant first. -/
def beBytes (k v : Nat) : List Byte := (leBytes k v).reverse

/-- The padded message. -/
def shaPad (m : List Byte) : List Byte :=
  m ++ 0x80#8 :: List.replicate ((119 - m.length % 64) % 64) 0#8 ++ beBytes 8 (8 * m.length)

/-- The message schedule, newest word first: k more words. -/
def shaExpand : Nat → List (BitVec 32) → List (BitVec 32)
  | 0, w => w
  | k + 1, w =>
    let x := w.getD 1 0
    let y := w.getD 14 0
    let s1 := x.rotateRight 17 ^^^ x.rotateRight 19 ^^^ (x >>> 10)
    let s0 := y.rotateRight 7 ^^^ y.rotateRight 18 ^^^ (y >>> 3)
    shaExpand k ((s1 + w.getD 6 0 + s0 + w.getD 15 0) :: w)

/-- One round: schedule word plus constant. -/
def shaRound (h : List (BitVec 32)) (kw : BitVec 32) : List (BitVec 32) :=
  match h with
  | [a, b, c, d, e, f, g, i] =>
    let t1 := i + (e.rotateRight 6 ^^^ e.rotateRight 11 ^^^ e.rotateRight 25) + ((e &&& f) ^^^ (~~~e &&& g)) + kw
    let t2 := (a.rotateRight 2 ^^^ a.rotateRight 13 ^^^ a.rotateRight 22) + ((a &&& b) ^^^ (a &&& c) ^^^ (b &&& c))
    [t1 + t2, a, b, c, d + t1, e, f, g]
  | _ => h

/-- One 64-byte block. -/
def shaBlock (h w : List (BitVec 32)) : List (BitVec 32) :=
  let sched := (shaExpand 48 w.reverse).reverse
  List.zipWith (· + ·) h ((List.zipWith (· + ·) sched shaK).foldl shaRound h)

/-- k blocks. -/
def shaBlocks : Nat → List (BitVec 32) → List (BitVec 32) → List (BitVec 32)
  | 0, h, _ => h
  | k + 1, h, w => shaBlocks k (shaBlock h (w.take 16)) (w.drop 16)

/-- The digest as eight words, first bytes in the high bits of the first word. -/
def sha256Words (m : List Byte) : List (BitVec 32) :=
  let p := shaPad m
  shaBlocks (p.length / 64) shaInit (wordsOf p)

/-- The digest as 32 bytes. -/
def sha256 (m : List Byte) : List Byte := (sha256Words m).flatMap (fun w => beBytes 4 w.toNat)

/-- HMAC-SHA-256 under a 32-byte key. -/
def hmac (key : List Byte) (m : List Byte) : List Byte :=
  let k := key ++ List.replicate (64 - key.length) 0#8
  sha256 (k.map (· ^^^ 0x5C#8) ++ sha256 (k.map (· ^^^ 0x36#8) ++ m))

/-- A number from its bytes, most significant first. -/
def ofBytes (l : List Byte) : Nat := l.foldl (fun n b => 256 * n + b.toNat) 0

/-! ## AES-256: a block is a number of 16 bytes, first byte in the high bits, column by column -/

/-- Rows of a table as one number. -/
def tableOf (rows : List Nat) : Nat := rows.foldl (fun n r => n * 2 ^ 128 + r) 0

/-- The S-box by rows: the substitution value of 0xXY is byte Y of row X. -/
def sboxTable : Nat := tableOf
  [0x637C777BF26B6FC53001672BFED7AB76, 0xCA82C97DFA5947F0ADD4A2AF9CA472C0, 0xB7FD9326363FF7CC34A5E5F171D83115,
   0x04C723C31896059A071280E2EB27B275, 0x09832C1A1B6E5AA0523BD6B329E32F84, 0x53D100ED20FCB15B6ACBBE394A4C58CF,
   0xD0EFAAFB434D338545F9027F503C9FA8, 0x51A3408F929D38F5BCB6DA2110FFF3D2, 0xCD0C13EC5F974417C4A77E3D645D1973,
   0x60814FDC222A908846EEB814DE5E0BDB, 0xE0323A0A4906245CC2D3AC629195E479, 0xE7C8376D8DD54EA96C56F4EA657AAE08,
   0xBA78252E1CA6B4C6E8DD741F4BBD8B8A, 0x703EB5664803F60E613557B986C11D9E, 0xE1F8981169D98E949B1E87E9CE5528DF,
   0x8CA1890DBFE6426841992D0FB054BB16]

/-- The inverse S-box by rows. -/
def sboxInvTable : Nat := tableOf
  [0x52096AD53036A538BF40A39E81F3D7FB, 0x7CE339829B2FFF87348E4344C4DEE9CB, 0x547B9432A6C2233DEE4C950B42FAC34E,
   0x082EA16628D924B2765BA2496D8BD125, 0x72F8F66486689816D4A45CCC5D65B692, 0x6C704850FDEDB9DA5E154657A78D9D84,
   0x90D8AB008CBCD30AF7E45805B8B34506, 0xD02C1E8FCA3F0F02C1AFBD0301138A6B, 0x3A9111414F67DCEA97F2CFCEF0B4E673,
   0x96AC7422E7AD3585E2F937E81C75DF6E, 0x47F11A711D29C5896FB7620EAA18BE1B, 0xFC563E4BC6D279209ADBC0FE78CD5AF4,
   0x1FDDA8338807C731B11210592780EC5F, 0x60517FA919B54A0D2DE57A9F93C99CEF, 0xA0E03B4DAE2AF5B0C8EBBB3C83539961,
   0x172B047EBA77D626E169146355210C7D]

/-- Byte x of a table of 256 bytes. -/
def tableByte (table x : Nat) : Nat := table / 256 ^ (255 - x) % 256

/-- Byte i of a block. -/
def blockByte (v i : Nat) : Nat := v / 256 ^ (15 - i) % 256

/-- SubBytes by a table after ShiftRows by d (1 forward, 3 back): byte 4c + r comes from column c + d r. -/
def subShift (table d v : Nat) : Nat :=
  (List.range 16).foldl (fun n i => 256 * n + tableByte table (blockByte v ((i + 4 * d * (i % 4)) % 16))) 0

/-- Every byte of a block times x in the field of AES. -/
def xtimes (v : Nat) : Nat :=
  let hi := v &&& 0x80808080808080808080808080808080
  ((v ^^^ hi) * 2) ^^^ (hi / 128 * 0x1B)

/-- Every column rotated by one byte, its first byte last. -/
def turn (v : Nat) : Nat :=
  (v &&& 0x00FFFFFF00FFFFFF00FFFFFF00FFFFFF) * 256 ^^^ (v &&& 0xFF000000FF000000FF000000FF000000) / 2 ^ 24

/-- MixColumns, of the matrix 2, 3, 1, 1. -/
def mixColumns (v : Nat) : Nat :=
  let r := turn v
  xtimes (v ^^^ r) ^^^ r ^^^ turn r ^^^ turn (turn r)

/-- Its inverse, of the matrix 14, 11, 13, 9, which is 5, 0, 4, 0 before 2, 3, 1, 1. -/
def mixColumnsInv (v : Nat) : Nat := mixColumns (v ^^^ xtimes (xtimes (v ^^^ turn (turn v))))

/-- The S-box on the four bytes of a word. -/
def subWord (w : Nat) : Nat := (List.range 4).foldl (fun n i => 256 * n + tableByte sboxTable (w / 256 ^ (3 - i) % 256)) 0

/-- Words of the key schedule, newest first: words i, i + 1, …, k of them. -/
def keyExpand : Nat → Nat → List Nat → List Nat
  | 0, _, w => w
  | k + 1, i, w =>
    let x := w.headD 0
    let t := if i % 8 = 0 then subWord (x * 256 % 2 ^ 32 + x / 2 ^ 24) ^^^ 2 ^ (i / 8 + 23) else if i % 8 = 4 then subWord x else x
    keyExpand k (i + 1) ((w.getD 7 0 ^^^ t) :: w)

/-- Words in blocks. -/
def wordBlocks : List Nat → List Nat
  | a :: b :: c :: d :: l => (((a * 2 ^ 32 + b) * 2 ^ 32 + c) * 2 ^ 32 + d) :: wordBlocks l
  | _ => []

/-- The 15 round keys of a 256-bit key. -/
def roundKeys (key : Nat) : List Nat :=
  wordBlocks (keyExpand 52 8 ((List.range 8).map (fun i => key / 2 ^ (32 * i) % 2 ^ 32))).reverse

/-- The inner rounds of encryption, and the last. -/
def aesRounds : List Nat → Nat → Nat
  | [], s => s
  | [k], s => subShift sboxTable 1 s ^^^ k
  | k :: ks, s => aesRounds ks (mixColumns (subShift sboxTable 1 s) ^^^ k)

/-- AES-256 encryption of a 128-bit block. -/
def aesEncrypt (key block : Nat) : Nat :=
  match roundKeys key with
  | [] => block
  | k :: ks => aesRounds ks (block % 2 ^ 128 ^^^ k)

/-- The inner rounds of decryption, and the last, over the round keys in reverse. -/
def aesBack : List Nat → Nat → Nat
  | [], s => s
  | [k], s => subShift sboxInvTable 3 s ^^^ k
  | k :: ks, s => aesBack ks (mixColumnsInv (subShift sboxInvTable 3 s ^^^ k))

/-- AES-256 decryption of a 128-bit block. -/
def aesDecrypt (key block : Nat) : Nat :=
  match (roundKeys key).reverse with
  | [] => block
  | k :: ks => aesBack ks (block % 2 ^ 128 ^^^ k)

/-! ## AES key wrap -/

/-- The default initial value. -/
def kwInit : Nat := 0xA6A6A6A6A6A6A6A6

/-- One pass over the blocks, from step t on. -/
def kwPass (kek : Nat) : Nat → Nat → List Nat → Nat × List Nat
  | _, a, [] => (a, [])
  | t, a, r :: rs =>
    let b := aesEncrypt kek (a * 2 ^ 64 + r)
    let p := kwPass kek (t + 1) ((b / 2 ^ 64) ^^^ t) rs
    (p.1, b % 2 ^ 64 :: p.2)

/-- k passes from step t on. -/
def kwPasses (kek : Nat) : Nat → Nat → Nat → List Nat → Nat × List Nat
  | 0, _, a, rs => (a, rs)
  | k + 1, t, a, rs =>
    let p := kwPass kek t a rs
    kwPasses kek k (t + rs.length) p.1 p.2

/-- A number of n 64-bit blocks, first block in the high bits. -/
def blocksOf : Nat → Nat → List Nat
  | 0, _ => []
  | n + 1, v => v / 2 ^ (64 * n) % 2 ^ 64 :: blocksOf n v

def ofBlocks (l : List Nat) : Nat := l.foldl (fun n b => 2 ^ 64 * n + b) 0

/-- KW wrap of n blocks: n + 1 blocks. -/
def kwWrap (kek n clear : Nat) : Nat :=
  let p := kwPasses kek 6 1 kwInit (blocksOf n clear)
  ofBlocks (p.1 :: p.2)

/-- One pass of the unwrapping, over the blocks from the last, down from step t. -/
def kwUnpass (kek : Nat) : Nat → Nat → List Nat → Nat × List Nat
  | _, a, [] => (a, [])
  | t, a, r :: rs =>
    let b := aesDecrypt kek ((a ^^^ t) * 2 ^ 64 + r)
    let p := kwUnpass kek (t - 1) (b / 2 ^ 64) rs
    (p.1, b % 2 ^ 64 :: p.2)

/-- k passes of the unwrapping, down from step t. -/
def kwUnpasses (kek : Nat) : Nat → Nat → Nat → List Nat → Nat × List Nat
  | 0, _, a, rs => (a, rs)
  | k + 1, t, a, rs =>
    let p := kwUnpass kek t a rs
    kwUnpasses kek k (t - rs.length) p.1 p.2

/-- KW unwrap of n + 1 blocks: the n clear blocks, when the integrity check passes. -/
def kwUnwrap (kek n wrapped : Nat) : Option Nat :=
  let bs := blocksOf (n + 1) wrapped
  let p := kwUnpasses kek 6 (6 * n) (bs.headD 0) bs.tail.reverse
  if p.1 = kwInit then some (ofBlocks p.2.reverse) else none

end Sys2Proof.Machine
end

