-- ==== Sys2Proof/Machine/Field.lean ====
section
/-! DEFINITION. Register fields and host-access rows: the shape of the field maps of spec/ (R14 to R17, R478 to R482),
and the cells of the model that hold state the spec names but gives no BAR0 address. -/

namespace Sys2Proof.Machine

/-- One field of a field map: the word's byte address, its lowest bit, its width in bits, and its value while the device
is in RESET (R17). -/
structure Field where
  addr : Nat
  lo : Nat
  width : Nat
  reset : Nat
  deriving DecidableEq, Repr

/-- The field's bit address.  No two fields of the layout share one. -/
def Field.key (f : Field) : Nat := 8 * f.addr + f.lo

/-- The same field of another instance of its register, `d` bytes further. -/
def Field.shift (f : Field) (d : Nat) : Field := { f with addr := f.addr + d }

/-- Access codes of Table 0.6 (R12). -/
inductive Acc where
  | rw | ro | w1c | w1s | wo | rc | rwl
  deriving DecidableEq, Repr

/-- Configuration classes of Table 0.7 (R14). -/
inductive Cls where
  | live | framed | static
  deriving DecidableEq, Repr

/-- The range or codes a field's description states. -/
inductive Lim where
  /-- every value of the field -/
  | any
  /-- unsigned range -/
  | rng (lo hi : Nat)
  /-- two's-complement range -/
  | srng (lo hi : Int)
  /-- multiples of a number -/
  | mult (m : Nat)
  deriving DecidableEq, Repr

/-- A field with its access code, class, lowest privilege that may write it (R439: 1 observer, 2 operator, 3 admin)
and range. -/
structure FSpec where
  fld : Field
  acc : Acc
  cls : Cls
  wpriv : Nat
  lim : Lim
  deriving DecidableEq, Repr

/-- How a register finds the unit it shows: directly by its address, or through a selection register. -/
inductive Sel where
  | plain | tile | engine | slice | counter | coef
  deriving DecidableEq, Repr

/-- One register of the map: the address of its first instance, its index dimensions (count, stride), the lowest
privilege that may read it, its selection, and its fields from high bits to low. -/
structure Reg where
  base : Nat
  dims : List (Nat × Nat)
  rpriv : Nat
  sel : Sel
  fields : List FSpec
  deriving DecidableEq, Repr

/-- Bytes from one channel window to the next (R480). -/
def chanStride : Nat := 0x1000000

/-- Base of the MON block of channel b, or of the module converter for b = 4 (Tables 22.2, 22.3). -/
def monBase (b : Nat) : Nat := if b < 4 then 0x1800000 + chanStride * b else 0x60000

/-- Base of the PMC block of channel b, or of the global block for b = 4 (Tables 22.2, 22.3). -/
def pmcBase (b : Nat) : Nat := if b < 4 then 0x1900000 + chanStride * b else 0x40000

/-- A cell of the model, outside BAR0: state the spec names and gives no address.  A bank holds 2^18 cells. -/
def cell (bank i width reset : Nat) : Field := ⟨0x20000000 + 0x100000 * bank + 4 * (i % 0x40000), 0, width, reset⟩

/-- Value in force of a framed field, while the register itself reads the last value written (R14, R175). -/
def Field.inForce (f : Field) : Field := { f with addr := f.addr + 0x30000000 }

/-- Position that slice k of a channel holds at device reset: slices 0 to 63 of each converter (R106). -/
def slicePos (k : Nat) : Nat := if k % 68 < 64 then k % 68 else 0

/-- State of slice k at device reset: ACTIVE, or SPARE for slices 64 to 67 (R106). -/
def sliceInit (k : Nat) : Nat := if k % 68 < 64 then 0 else 1

/-- One 32-bit word of a table-space record (R487). -/
def tableWord (a : Nat) : Field := ⟨a, 0, 32, 0⟩

/-! ## Bits of values -/

/-- Bit i of v. -/
def bit (v i : Nat) : Nat := v / 2 ^ i % 2

/-- Bits lo+w-1 .. lo of v. -/
def bits (v lo w : Nat) : Nat := v / 2 ^ lo % 2 ^ w

/-- v with bit i set. -/
def setBit (v i : Nat) : Nat := if bit v i = 0 then v + 2 ^ i else v

/-- v with bit i clear. -/
def clrBit (v i : Nat) : Nat := if bit v i = 1 then v - 2 ^ i else v

/-- v read as a two's-complement number of w bits. -/
def toSigned (w v : Nat) : Int := if v < 2 ^ (w - 1) then v else (v : Int) - 2 ^ w

/-- i as a two's-complement number of w bits. -/
def ofSigned (w : Nat) (i : Int) : Nat := (i % (2 ^ w : Nat)).toNat

/-- Whether a value of a field of width w meets its range (R12, Tables 2.9 to 20.10). -/
def Lim.ok (l : Lim) (w v : Nat) : Bool :=
  match l with
  | .any => true
  | .rng lo hi => lo ≤ v && v ≤ hi
  | .srng lo hi => lo ≤ toSigned w v && toSigned w v ≤ hi
  | .mult m => v % m = 0

/-- Number of 1 bits among the lowest n of v. -/
def popcount (v : Nat) : Nat → Nat
  | 0 => 0
  | n + 1 => popcount v n + bit v n

/-- A number formed from its bits, lowest first. -/
def ofBits : List Bool → Nat
  | [] => 0
  | b :: bs => (if b then 1 else 0) + 2 * ofBits bs

/-- Index of a register instance: the offset that a byte distance d spells in the dimensions, when it spells one. -/
def dimsMatch : List (Nat × Nat) → Nat → Bool
  | [], d => d = 0
  | (c, st) :: ds, d => let i := Nat.min (c - 1) (d / st); dimsMatch ds (d - i * st)

/-- The byte distance of address a from a register's first instance, when a names an instance. -/
def Reg.distance (r : Reg) (a : Nat) : Option Nat :=
  if r.base ≤ a && dimsMatch r.dims (a - r.base) then some (a - r.base) else none

end Sys2Proof.Machine
end

