-- ==== Sys2Proof/Machine/Cells.lean ====
section
/-! DEFINITION. The model's cells: numeric state that the spec gives the machine and no BAR0 address.  A cell is a
`Field` outside BAR0 (above 0x2000_0000), held in the same store as the registers. -/

namespace Sys2Proof.Machine

/-! ## Interrupt controller (R366 to R373) -/

/-- Host pending bit of source N: bit N mod 32 of IRQ_PEND_w (Table 16.5). -/
def IRQ_PEND (N : Nat) : Field := ⟨0x30400 + 4 * (N / 32), N % 32, 1, 0⟩
/-- Host mask bit of source N: bit N mod 32 of IRQ_MASK_w (Table 16.5). -/
def IRQ_MASK (N : Nat) : Field := ⟨0x30700 + 4 * (N / 32), N % 32, 1, 1⟩
/-- Pending bit of source N for supervisor i (R366). -/
def SUPC.PEND (i N : Nat) : Field := cell 1 (2048 * i + N) 1 0
/-- Mask bit of source N for supervisor i (R366). -/
def SUPC.MASK (i N : Nat) : Field := cell 2 (2048 * i + N) 1 1
/-- Arrivals of source N since supervisor i last cleared it (R366). -/
def SUPC.ARRIVE (i N : Nat) : Field := cell 3 (2048 * i + N) 4 0
/-- State of supervisor i: SUP_STAT.S0, S1 or S2 (Table 15.12). -/
def SUPC.STATE (i : Nat) : Field := ⟨0x20000, 4 * i, 4, 0⟩

/-! ## Performance counters (R376 to R383) -/

/-- Value of counter i of scope b (channels 0 to 3, global 4); the fixed counters 0 to 59 are the ledger's. -/
def PMC.CNT (b i : Nat) : Field := cell 4 (512 * b + i) 48 0
/-- STICKY bit of counter i of scope b. -/
def PMC.STICKY (b i : Nat) : Field := cell 5 (512 * b + i) 1 0

/-! ## Fabric (R57, R59) -/

/-- Sticky WRAP bits of channel n's next ledger record (Table 2.7). -/
def FABC.WRAP (n : Nat) : Field := cell 6 n 8 0
/-- Byte of channel n in FAB_COND (Table 2.16). -/
def FABC.COND (n : Nat) : Field := ⟨0x1004C, 8 * n, 8, 0⟩

/-- Channels whose pre-boost is in force (R52), one bit each. -/
def FABC.BOOST : Field := cell 6 8 4 0
/-- A request to the regulator awaits its result (R54). -/
def FABC.REQ : Field := cell 6 9 1 0
/-- Consecutive failed attempts (R54). -/
def FABC.AVS_FAILS : Field := cell 6 10 2 0

/-- Records of channel n written since device reset (Table 2.7, SEQ). -/
def FABC.SEQ (n : Nat) : Field := cell 6 (16 + n) 32 0
/-- DEV_TIME + 1 in ns of channel n's last DONE; 0 none (Table 2.6 step 1). -/
def FABC.DONE_AT (n : Nat) : Field := cell 6 (24 + 2 * n) 64 0
/-- Channels whose casting is in a mixed state (Table 2.4, bit 0), one bit each. -/
def FABC.MIXED : Field := cell 6 32 4 0

/-! ## Optical engines and safety inputs (R88 to R101) -/

/-- Frequency index the tune in progress or the lit laser is set to (R87, R88). -/
def OPTC.TARGET (n : Nat) : Field := cell 7 n 12 0
/-- Consecutive tune timeouts (R89). -/
def OPTC.TUNE_FAILS (n : Nat) : Field := cell 7 (8 + n) 2 0
/-- A ramp runs (R94). -/
def OPTC.RAMPING (n : Nat) : Field := cell 7 (16 + n) 1 0
/-- Steps of the ramp taken, 0 to 64. -/
def OPTC.RAMP_K (n : Nat) : Field := cell 7 (24 + n) 7 0
/-- Profile the ramp took at its start. -/
def OPTC.RAMP_PROF (n : Nat) : Field := cell 7 (32 + n) 3 0
/-- Power at the ramp's start, in 10^-6 dBm, two's complement. -/
def OPTC.RAMP_FROM (n : Nat) : Field := cell 7 (40 + n) 40 0
/-- Power at the ramp's end, in 10^-6 dBm, two's complement. -/
def OPTC.RAMP_TO (n : Nat) : Field := cell 7 (48 + n) 40 0
/-- Present launched power set by the booster and VOA, in 10^-6 dBm, two's complement; -35 dBm while dark. -/
def OPTC.POWER (n : Nat) : Field := cell 7 (56 + n) 40 (2 ^ 40 - 35000000)
/-- The pending ENABLE awaits its vote, rather than the end of RAMP_DOWN (R92). -/
def OPTC.VOTING (n : Nat) : Field := cell 7 (64 + n) 1 0
/-- Level of the receive power when the AGC froze, in 0.01 dBm, two's complement (R96). -/
def OPTC.FREEZE_LVL (n : Nat) : Field := cell 7 (72 + n) 32 0
/-- An ENABLE's vote is held until a FULL calibration run ends (R330). -/
def OPTC.HOLD (n : Nat) : Field := cell 7 (80 + n) 1 0
/-- OPT_RX_PWR.MIN was read: the next NOW replaces it (Table 4.16). -/
def OPTC.MIN_READ (n : Nat) : Field := cell 7 (88 + n) 1 0
/-- Received power as last measured, in 0.01 dBm, two's complement, below the monitor's floor too (R96). -/
def OPTC.RX (n : Nat) : Field := cell 7 (96 + n) 32 (2 ^ 32 - 32768)

/-! ## Pins -/

/-- SAFE_A_N is active, after glitch rejection (R99). -/
def PIN.SAFE_A : Field := cell 8 0 1 0
/-- SAFE_B_N is active. -/
def PIN.SAFE_B : Field := cell 8 1 1 0
/-- TAMPER_N, ZEROISE_N, RESET_N, PWR_WARN_N are active. -/
def PIN.TAMPER : Field := cell 8 2 1 0
def PIN.ZEROISE : Field := cell 8 3 1 0
def PIN.RESET : Field := cell 8 4 1 1
def PIN.WARN : Field := cell 8 5 1 0

/-! ## Power and reset (R445 to R461) -/

/-- Rails out of range, one bit each as RAIL_OK names them: 5 VCORE, 4 VSER, 3 VANA, 2 VIO, 1 VOPT, 0 VKEEP. -/
def PWRC.OUT : Field := cell 34 0 6 0
/-- The internal reset is active (R447). -/
def PWRC.INT : Field := cell 34 1 1 1
/-- RESET is held after DEV_RST_CMD (R451). -/
def PWRC.HOLD : Field := cell 34 2 1 0
/-- Kind of the last entry to RESET, and device resets since the last power-on reset (Table 20.10). -/
def PWRC.CAUSE : Field := cell 34 3 4 1
def PWRC.COUNT : Field := cell 34 4 16 0
/-- MREFCLK and LREFCLK0 are absent (R461). -/
def PWRC.NO_MREF : Field := cell 34 5 1 0
def PWRC.NO_LREF : Field := cell 34 6 1 0
/-- The store holds a power-loss record, and its words (R457). -/
def PWRC.PLR : Field := cell 34 7 1 0
def PWRC.WORD (i : Nat) : Field := cell 34 (4096 + i) 32 0
/-- A warning's record is still to be programmed; bytes 0x05, 0x08 to 0x0F and 0x10 to 0x13 of it, and the sequence number
of each ledger record and counter snapshot as the warning found it (R456). -/
def PWRC.DUE : Field := cell 34 8 1 0
def PWRC.FLAGS : Field := cell 34 9 8 0
def PWRC.T0 : Field := cell 34 10 64 0
def PWRC.RTC0 : Field := cell 34 12 32 0
def PWRC.LSEQ (n : Nat) : Field := cell 34 (16 + n) 32 0
def PWRC.CSEQ (k : Nat) : Field := cell 34 (24 + k) 32 0
/-- The module serial number in the fuses (R484). -/
def PWRC.SN_LO : Field := cell 34 32 32 0
def PWRC.SN_HI : Field := cell 34 33 32 0
/-- ns of the present second of KEY_RTC. -/
def KEYC.SUB : Field := cell 20 8312 30 0

/-! ## Register access (R12) -/

/-- The device has left CAST since the last entry to BOOT: RWL fields are locked (R12). -/
def MGTC.LOCKED : Field := cell 8 8 1 0

/-! ## Management port (R421 to R437) -/

/-- MSI-X enable and function mask of configuration space (R425). -/
def MGTC.MSIX_EN : Field := cell 33 0 1 0
def MGTC.FMASK : Field := cell 33 1 1 0
/-- MSI-X table: a word of entry v, and its vector mask (Table 19.3).  BAR2 offset x lies at 0x5000_0000 + x. -/
def MSIX.ADDR_LO (v : Nat) : Field := ⟨0x50000000 + 16 * v, 0, 32, 0⟩
def MSIX.ADDR_HI (v : Nat) : Field := ⟨0x50000004 + 16 * v, 0, 32, 0⟩
def MSIX.DATA (v : Nat) : Field := ⟨0x50000008 + 16 * v, 0, 32, 0⟩
def MSIX.MASK (v : Nat) : Field := ⟨0x5000000C + 16 * v, 0, 1, 1⟩
/-- MSI-X pending-bit array. -/
def MSIX.PEND (v : Nat) : Field := ⟨0x50000800 + 4 * (v / 32), v % 32, 1, 0⟩
/-- Device Control: Maximum Read Request Size code (128 bytes times a power of two), Relaxed Ordering enable; completion
timeout in us. -/
def MGTC.MRRS : Field := cell 33 2 3 2
def MGTC.RELAX : Field := cell 33 3 1 1
def MGTC.TIMEOUT : Field := cell 33 4 32 50000
/-- Device reads of client c outstanding, and the bytes it has still to request: 0 to 3 the DMA queues, 4 the KEY bulk
operation, 5 the casting fetch, 6 SUP (Table 19.4); the client last served. -/
def DMAC.OUT (c : Nat) : Field := cell 33 (16 + c) 10 0
def DMAC.NEED (c : Nat) : Field := cell 33 (24 + c) 32 0
def DMAC.LAST : Field := cell 33 31 3 0
/-- A read of the SUP client ended in error. -/
def DMAC.SUP_ERR : Field := cell 33 32 1 0
/-- Window of the write that posted descriptor i of queue q (R438). -/
def DMAC.WIN (q i : Nat) : Field := cell 33 (64 + 256 * q + i) 3 0
/-- SPI frame in progress (R435): phase (0 none, 1 to H0, 2 to H1, 3 data), the header, data words done, header refused,
SPI_STAT as latched, and the two values latched for the next data words of a read. -/
def SPIC.PH : Field := cell 33 2048 2 0
def SPIC.H0 : Field := cell 33 2049 32 0
def SPIC.H1 : Field := cell 33 2050 32 0
def SPIC.DONE : Field := cell 33 2051 7 0
def SPIC.BAD : Field := cell 33 2052 1 0
def SPIC.STAT : Field := cell 33 2053 32 0
def SPIC.VAL (j : Nat) : Field := cell 33 (2054 + j) 32 0

/-! ## Interrupt controller (R368) -/

/-- Level selected for target t and not yet committed, plus 1: 0 the host, 1 to 3 the supervisors. -/
def IRQC.SEL (t : Nat) : Field := cell 35 t 5 0

/-! ## Counter snapshots (R381) -/

/-- Snapshots of scope k written. -/
def PMC.SEQ (k : Nat) : Field := cell 35 (16 + k) 32 0
/-- DEV_TIME as scope k latched. -/
def PMC.LATCHED (k : Nat) : Field := cell 35 (32 + 2 * k) 64 0

/-! ## Line converters (R106 to R120): slice k is 68 c + the slice's number in converter c -/

/-- Slices of channel n that are FENCED. -/
def CNVC.FENCED (n : Nat) : Field := cell 9 n 10 0
/-- Reference values of slice k: offset, gain, skew, bandwidth (R108). -/
def CNVC.REF (n k j : Nat) : Field := cell 11 (4096 * n + 4 * k + j) 16 0
/-- DEV_TIME + 1 in ns of the last and the last but one declaration of loss of lock by PLL p (0 TX, 1 RX); 0 none (R120). -/
def CNVC.LOL_LAST (n p : Nat) : Field := cell 24 (8 * n + 2 * p) 64 0
def CNVC.LOL_PREV (n p : Nat) : Field := cell 24 (64 + 8 * n + 2 * p) 64 0

/-! ## Receive DSP and mode agreement (R127 to R154, R266) -/

/-- Consecutive failed acquisition attempts (R147), saturating. -/
def LDSC.FAILS (n : Nat) : Field := cell 10 n 8 0
/-- A line mode is agreed (R77, R148). -/
def LDSC.AGREED (n : Nat) : Field := cell 10 (8 + n) 1 0
/-- Acquisition waits for optical LOS or RX PLL loss of lock to clear (R148). -/
def LDSC.WAIT (n : Nat) : Field := cell 10 (16 + n) 1 0
/-- The peer was declared absent since the last agreement (R148). -/
def LDSC.ABSENT (n : Nat) : Field := cell 10 (24 + n) 1 0
/-- Profile loaded in the receive stages (Table 6.4 step 1, R150). -/
def LDSC.RXPROF (n : Nat) : Field := cell 10 (32 + n) 2 0
/-- LDS_CD_CTRL.SRC as sampled at the last coarse estimate (R129). -/
def LDSC.SRC (n : Nat) : Field := cell 10 (40 + n) 1 0
/-- The coarse estimator runs (R130). -/
def LDSC.EST_RUN (n : Nat) : Field := cell 10 (48 + n) 1 0
/-- This end has sent an offer with AGREED = 1 (R266). -/
def LDSC.SENT_AG (n : Nat) : Field := cell 10 (56 + n) 1 0
/-- An offer with AGREED = 1 and an identical block was received. -/
def LDSC.RCVD_AG (n : Nat) : Field := cell 10 (64 + n) 1 0
/-- The next offer carries AGREED = 1. -/
def LDSC.NEXT_AG (n : Nat) : Field := cell 10 (72 + n) 1 0
/-- LDS_LQ_SNR.MIN was read: the next latched SNR replaces it (Table 6.14). -/
def LDSC.MIN_READ (n : Nat) : Field := cell 10 (80 + n) 1 0
/-- The link-quality window in progress overlaps a resize (R152). -/
def LDSC.RSZ_WIN (n : Nat) : Field := cell 10 (88 + n) 1 0
/-- A stage repartitions its work (R143). -/
def LDSC.REPART (n : Nat) : Field := cell 10 (264 + n) 1 0
/-- Peak ratio of drive to Vπ that the bias loop of lane l last reported and the transmitter has not yet taken (R169). -/
def LDSC.DRIVE_NEW (n l : Nat) : Field := cell 10 (128 + 4 * n + l) 16 0
/-- That ratio as the inverse-sine characteristic has it in force. -/
def LDSC.DRIVE (n l : Nat) : Field := cell 10 (160 + 4 * n + l) 16 0

/-! ## Decoder (R194, R202) -/

/-- Uncorrectable releases in the degrade window in progress. -/
def FECC.WINCNT (n : Nat) : Field := cell 10 (192 + n) 32 0
/-- The last degrade window was below THR. -/
def FECC.LOWWIN (n : Nat) : Field := cell 10 (200 + n) 1 0
/-- Dispatches in the sampling period in progress, and the one that RND chose in it. -/
def FECC.SMPCNT (n : Nat) : Field := cell 10 (208 + n) 16 0
def FECC.PICK (n : Nat) : Field := cell 10 (216 + n) 16 0
/-- Decoding-gap counts (R201). -/
def FECC.BITS (n : Nat) : Field := cell 10 (224 + 2 * n) 48 0
def FECC.ERRS (n : Nat) : Field := cell 10 (240 + 2 * n) 48 0
/-- A codeword was released uncorrectable since the last convergence window ended (R149). -/
def LDSC.WIN_UNC (n : Nat) : Field := cell 10 (256 + n) 1 0

/-! ## Supervisory channel (R257 to R271) -/

/-- Sequence number of the next message sent. -/
def ISCC.SEQ (n : Nat) : Field := cell 12 n 8 0
/-- NONCE: low 16 bits of DEV_TIME at the last laser enable. -/
def ISCC.NONCE (n : Nat) : Field := cell 12 (8 + n) 16 0
/-- Uncorrectable codewords since the last laser enable. -/
def ISCC.UNC (n : Nat) : Field := cell 12 (16 + n) 32 0
/-- SEQ of the last valid message. -/
def ISCC.RXSEQ (n : Nat) : Field := cell 12 (24 + n) 8 0
/-- A valid message was received since CHIP last left OFF or WAIT. -/
def ISCC.RXSEQV (n : Nat) : Field := cell 12 (32 + n) 1 0
/-- Consecutive messages that were not HEARTBEATs. -/
def ISCC.RUN (n : Nat) : Field := cell 12 (40 + n) 3 0
/-- Messages that were or would have been a HEARTBEAT, modulo 4 (R263). -/
def ISCC.IDLE4 (n : Nat) : Field := cell 12 (48 + n) 2 0
/-- DEV_TIME + 1 in ns of the last TELEMETRY; 0 none (R271). -/
def ISCC.TEL_AT (n : Nat) : Field := cell 12 (64 + 2 * n) 64 0
/-- REP in force, from the last message boundary (R257). -/
def ISCC.REP (n : Nat) : Field := cell 12 (56 + n) 2 2

/-! ## Host ports (R244, R245) -/

/-- Tokens in client c's egress FIFO. -/
def HSTC.FIFO (n c : Nat) : Field := cell 19 (256 * n + c) 7 0

/-- The overhead last received on the member whose first lane is l carries another group number (R234). -/
def HSTC.GNBAD (n l : Nat) : Field := cell 10 (272 + 16 * n + l) 1 0
/-- DEV_TIME + 1 in ns of the host PLL's last and last but one declaration of loss of lock; 0 none (R250). -/
def HSTC.LOL_LAST (n : Nat) : Field := cell 24 (128 + 2 * n) 64 0
def HSTC.LOL_PREV (n : Nat) : Field := cell 24 (144 + 2 * n) 64 0

/-! ## Keys (R274, R280, R281, R290, R291) -/

/-- The 256-bit key in tenant key slot g: no access reads it. -/
def KEYC.KEY (g : Nat) : Field := cell 20 g 256 0
/-- Seals made on the key in slot g. -/
def SECC.SEALS (g : Nat) : Field := cell 21 g 33 0
/-- Last SEQ accepted on slot g, and whether one was. -/
def SECC.RXSEQ (g : Nat) : Field := cell 22 g 32 0
def SECC.RXSEQV (g : Nat) : Field := cell 23 g 1 0

/-- KEK in slot j, and the root key: no access reads them (R274, R280). -/
def KEYC.KEK (j : Nat) : Field := cell 20 (8192 + j) 256 0
def KEYC.ROOT : Field := cell 20 8256 256 0
/-- KEY_ROOT_DATAw as written, until a root command clears it (R283). -/
def KEYC.DATA (w : Nat) : Field := cell 20 (8272 + w) 32 0
/-- Root command whose vote is pending: 0 none, or OP; and the window that wrote it (R283, R298). -/
def KEYC.ROOTOP : Field := cell 20 8288 2 0
def KEYC.ROOTWIN : Field := cell 20 8289 3 0
/-- The plinth's own state of the root key, coded as KEY_STAT.ROOT (R299). -/
def KEYC.ROOTST : Field := cell 20 8290 2 0
/-- Consecutive reseed periods passed since a health failure (R276). -/
def KEYC.ENTRUN : Field := cell 20 8291 4 0
/-- DEV_TIME + 1 in ns of iterated engine e's last mismatch; 0 none (Table 12.1). -/
def KEYC.ENG_MIS (e : Nat) : Field := cell 20 (8296 + 2 * e) 64 0
/-- Tenants of channel n's rollover batch: bit i names BASE + i; with BASE, the peer's M, and an empty ACK heard (Table 12.6). -/
def SECC.BATCH (n : Nat) : Field := cell 21 (8192 + 2 * n) 64 0
def SECC.BASE (n : Nat) : Field := cell 21 (8208 + n) 10 0
def SECC.PEERM (n : Nat) : Field := cell 21 (8216 + n) 32 0
def SECC.EMPTYACK (n : Nat) : Field := cell 21 (8224 + n) 1 0
/-- Tenants whose KI_TX inverts at M (Table 12.6 step 5). -/
def SECC.FLIP (n : Nat) : Field := cell 21 (8232 + 2 * n) 64 0
/-- Transmit MFN + 1 at which slot g became RETAINED (R295). -/
def SECC.RETMF (g : Nat) : Field := cell 21 (16384 + 2 * g) 33 0
/-- DEV_TIME + 1 in ns of the last four mismatches of pipeline p of channel n, newest first; 0 none (Table 12.1). -/
def SECC.MIS (n p j : Nat) : Field := cell 21 (40000 + (16 * n + p) * 8 + 2 * j) 64 0

/-! ## Casting engine (R404 to R419) -/

/-- Reports since device reset (Table 18.7). -/
def CSTC.SEQ : Field := cell 29 0 32 0
/-- LENGTH and ID of the casting in force. -/
def CSTC.LENGTH : Field := cell 29 1 32 0
def CSTC.ID : Field := cell 29 2 64 0
/-- OP and SRC of the submission in progress. -/
def CSTC.OP : Field := cell 29 4 4 0
def CSTC.SRC : Field := cell 29 5 1 0
/-- The image is the stored casting, which the engine submitted itself (R419). -/
def CSTC.BOOT : Field := cell 29 6 1 0
/-- Value + 1 that a record of the image gives AUTH_REQ; 0 none (R408). -/
def CSTC.AUTH : Field := cell 29 7 2 0
/-- The recast's framed fields of channel n wait for their boundary (Table 18.9 step 6). -/
def CSTC.RMF (n : Nat) : Field := cell 29 (8 + n) 1 0

/-! ## Memory (R388, R390 to R394) -/

/-- The entry of tributary t, client c or tenant t of channel n lies in an uncorrectable line and is not used until it is
rewritten (Table 17.2). -/
def MEMC.BAD_TRB (n t : Nat) : Field := cell 32 (1024 * n + t) 1 0
def MEMC.BAD_CLI (n c : Nat) : Field := cell 32 (8192 + 256 * n + c) 1 0
def MEMC.BAD_TEN (n t : Nat) : Field := cell 32 (16384 + 1024 * n + t) 1 0
/-- The scrub in progress: its first and last line, and what its summary counts (Table 17.4). -/
def MEMC.START : Field := cell 32 32768 23 0
def MEMC.END : Field := cell 32 32769 23 0
def MEMC.LINES : Field := cell 32 32770 32 0
def MEMC.CORR : Field := cell 32 32771 32 0
def MEMC.UNC : Field := cell 32 32772 32 0
def MEMC.LASTREAD : Field := cell 32 32773 23 0
def MEMC.FAILV : Field := cell 32 32774 1 0
def MEMC.FIRST : Field := cell 32 32775 23 0
def MEMC.LASTF : Field := cell 32 32776 23 0
/-- Summaries since device reset. -/
def MEMC.SEQ : Field := cell 32 32777 32 0
/-- Bank and spare of the retirement in progress. -/
def MEMC.RBANK : Field := cell 32 32778 7 0
def MEMC.RSPARE : Field := cell 32 32779 2 0

/-! ## Whole-channel fences (R44, Table 1.10) -/

/-- The framer's transmit pipeline of channel n has failed (R198). -/
def FNC.TXP (n : Nat) : Field := cell 30 (64 + n) 1 0
/-- The key-slot bank of channel n has failed its self-test (Table 12.1). -/
def FNC.BANK (n : Nat) : Field := cell 30 (68 + n) 1 0
/-- Datapath banks of channel n that failed their self-test with no spare free, 14n + i under bit i (R395). -/
def FNC.MEM (n : Nat) : Field := cell 30 (72 + n) 14 0

/-! ## Supervisor complex (R344 to R361) -/

/-- DEV_TIME + 1 in ns of supervisor i's last heartbeat; 0 none since it left reset (R346). -/
def SUPC.HB (i : Nat) : Field := cell 30 (2 * i) 64 0
/-- DEV_TIME + 1 of supervisor i's last and last but one failed return; 0 none (R349). -/
def SUPC.FAIL_AT (i k : Nat) : Field := cell 30 (8 + 4 * i + 2 * k) 64 0
/-- Supervisor i is in a return (R348). -/
def SUPC.RETURN (i : Nat) : Field := cell 30 (24 + i) 1 0
/-- Slot + 1 of the image that supervisor i authenticated; 0 none (R355). -/
def SUPC.IMG (i : Nat) : Field := cell 30 (28 + i) 2 0
/-- Consecutive agreed votes of supervisor i in PROBATION. -/
def SUPC.AGREED (i : Nat) : Field := cell 30 (32 + i) 7 0
/-- The two supervisors that run self-test after a disagreement, one bit each (Table 15.3). -/
def SUPC.TESTING : Field := cell 30 36 3 0
/-- SUP0 waits for the mailbox to drain, and since when: DEV_TIME + 1 (R348). -/
def SUPC.DRAIN : Field := cell 30 37 1 0
def SUPC.DRAIN_AT : Field := cell 30 38 64 0
/-- Complex reset: 1 before its arbiter self-test, 2 after it; 0 none (Table 15.7). -/
def SUPC.CPLX : Field := cell 30 40 2 0
/-- Fewer than two supervisors authenticated: only ECHO and SUP_STATUS are served (R353). -/
def SUPC.LIMITED : Field := cell 30 41 1 0
/-- Window through which command-ring entry i was posted (R358). -/
def MBXC.WIN (i : Nat) : Field := cell 31 i 3 0

/-! ## Calibration (R330) -/

/-- The loopback light of a FULL run is on. -/
def CALC.LIGHT : Field := cell 17 0 1 0
/-- IGN_STEP and SRC of the operation in progress (R328). -/
def CALC.IGN : Field := cell 17 1 1 0
def CALC.SRC : Field := cell 17 2 2 0
/-- Region that the write in progress fills: 1 A, 2 B (R324). -/
def CALC.REGION : Field := cell 17 3 2 0
/-- Region writes that a REWRITE has completed. -/
def CALC.PASS : Field := cell 17 4 1 0
/-- The set of the operation is in the store already: a LOAD of the newest valid copy (R328). -/
def CALC.NOWRITE : Field := cell 17 5 1 0
/-- Scopes with a triggered run that waits: TRACK, and FULL at the first READY (R338). -/
def CALC.WAIT_TRACK : Field := cell 17 6 5 0
def CALC.WAIT_FULL : Field := cell 17 7 4 0
/-- KEY_RTC + 1 at which scope s last started a triggered run; 0 none (R338). -/
def CALC.LAST (s : Nat) : Field := cell 25 s 33 0

/-! ## Monitor converters (R303 to R316) -/

/-- Results of input i that are still unsettled (R307). -/
def MONC.UNS (b i : Nat) : Field := cell 27 (32 * b + i) 5 0
/-- Settled result that drives RATIO of lane l: the last of DRV_Ll, two's complement (R320). -/
def MONC.DRV (n l : Nat) : Field := cell 27 (256 + 4 * n + l) 24 0
/-- Inputs whose gain or source changes at the end of the conversion period in progress. -/
def MONC.CHG (b : Nat) : Field := cell 28 b 32 0
/-- Inputs whose mean is preloaded with their next settled result (R309). -/
def MONC.PRELOAD (b : Nat) : Field := cell 28 (8 + b) 32 0
/-- Compensation set in force, and the one that a cross-fade leaves (R311). -/
def MONC.CS_ACT (b : Nat) : Field := cell 28 (16 + b) 2 1
def MONC.CS_OLD (b : Nat) : Field := cell 28 (24 + b) 2 1
/-- Number r of the next result of the cross-fade; 0 none. -/
def MONC.FADE (b : Nat) : Field := cell 28 (32 + b) 5 0
/-- Input last delivered in the scheduled order (R312). -/
def MONC.LASTIN (b : Nat) : Field := cell 28 (40 + b) 5 31
/-- Input of the pending urgent request (R313). -/
def MONC.URG_IN (b : Nat) : Field := cell 28 (48 + b) 5 0

/-! ## Bias loops (R317 to R320) -/

/-- State of loop b: 0 HOLD, 1 ACQ, 2 LOCK. -/
def BIASC.STATE (n b : Nat) : Field := cell 26 (8 * n + b) 2 0
/-- Consecutive updates with a small error, in ACQ. -/
def BIASC.SMALL (n b : Nat) : Field := cell 26 (32 + 8 * n + b) 4 0
/-- Updates since the loop entered ACQ. -/
def BIASC.TRIES (n b : Nat) : Field := cell 26 (64 + 8 * n + b) 12 0
/-- Consecutive updates with a large error, in LOCK. -/
def BIASC.LARGE (n b : Nat) : Field := cell 26 (96 + 8 * n + b) 7 0
/-- Consecutive updates with the bias at a rail. -/
def BIASC.RAIL (n b : Nat) : Field := cell 26 (128 + 8 * n + b) 5 0
/-- Updates modulo 64: every 64th runs at twice the dither (R320). -/
def BIASC.UPD (n b : Nat) : Field := cell 26 (160 + 8 * n + b) 6 0
/-- Consecutive Vπ estimates out of range. -/
def BIASC.VPI_BAD (n b : Nat) : Field := cell 26 (192 + 8 * n + b) 3 0

/-! ## Line framer (R209 to R215) -/

/-- Good headers in a row in PRESYNC. -/
def LFRC.GOOD (n : Nat) : Field := cell 13 n 2 0
/-- Bad headers in a row in SYNC. -/
def LFRC.BAD (n : Nat) : Field := cell 13 (8 + n) 3 0
/-- FN of the last header position. -/
def LFRC.FN (n : Nat) : Field := cell 13 (16 + n) 12 0
/-- MFN of the last header, when it was good. -/
def LFRC.MFN (n : Nat) : Field := cell 13 (24 + n) 32 0
def LFRC.MFNV (n : Nat) : Field := cell 13 (32 + n) 1 0
/-- BDI value that a run of good headers carries, and its length. -/
def LFRC.BDI (n : Nat) : Field := cell 13 (40 + n) 1 0
def LFRC.BDIRUN (n : Nat) : Field := cell 13 (48 + n) 2 0
/-- SR value that a run of good headers carries, and its length. -/
def LFRC.SR (n : Nat) : Field := cell 13 (56 + n) 32 0
def LFRC.SRRUN (n : Nat) : Field := cell 13 (64 + n) 2 0
/-- Good headers since the last acceptance. -/
def LFRC.SRAGE (n : Nat) : Field := cell 13 (72 + n) 6 0
/-- REI to send: the BIP errors of the last received frame (R210). -/
def LFRC.REI (n : Nat) : Field := cell 13 (80 + n) 5 0
/-- RESIZE flag on transmit (R207). -/
def LFRC.TX_RESIZE (n : Nat) : Field := cell 13 (88 + n) 1 0

/-! ## Tributaries (R217, R220) -/

/-- A commit was approved during the present transmit multiframe (Table 9.6 step 4). -/
def TRBC.FRESH (n : Nat) : Field := cell 17 (8 + n) 1 0
/-- CM in force for the present transmit multiframe. -/
def TRBC.CMNOW (n t : Nat) : Field := cell 18 (1024 * n + t) 30 0
/-- Client bytes of tributary t that arrived in the present transmit multiframe. -/
def TRBC.ARR (n t : Nat) : Field := cell 14 (1024 * n + t) 40 0
/-- Multiframes since the entry entered QUARANTINE. -/
def TRBC.QUAR (n t : Nat) : Field := cell 15 (1024 * n + t) 2 0
/-- The entry SUSPENDED clears CARRY at the next boundary but one (Table 9.7). -/
def TRBC.SUSP (n t : Nat) : Field := cell 16 (1024 * n + t) 2 0
/-- client bytes that the present multiframe still takes from the justification buffer, signed: below 0 they belong to the next
(R217) -/
def TRBC.LEFT (n t : Nat) : Field := cell 36 (1024 * n + t) 32 0
/-- client whose credits an entry that leaves service gives back (Table 9.6 step 5) -/
def TRBC.OLD (n t : Nat) : Field := cell 37 (1024 * n + t) 8 0

end Sys2Proof.Machine
end

