-- ==== Sys2Proof/Machine/RegsChannel.lean ====
section
/-! DEFINITION. The register fields of the channel blocks FEC, LFR, TRB, HST, ISC, and MON and PMC, which also have a device-global instance, from the field maps of the chapters of spec/
(the tables each comment names): word address in BAR0, lowest bit, width and reset value of each field, and the
rows by which a host access of a register word is judged.  Reserved fields are absent: they read 0 (R16). -/

namespace Sys2Proof.Machine

/-- FEC_STAT, Table 8.9 (R204). -/
def FEC_STAT.CODE (n : Nat) : Field := ⟨0x1300000 + 0x1000000 * n, 16, 2, 0⟩
def FEC_STAT.FENCE_EV (n : Nat) : Field := ⟨0x1300000 + 0x1000000 * n, 7, 1, 0⟩
def FEC_STAT.DEG_EV (n : Nat) : Field := ⟨0x1300000 + 0x1000000 * n, 6, 1, 0⟩
def FEC_STAT.DEG (n : Nat) : Field := ⟨0x1300000 + 0x1000000 * n, 5, 1, 0⟩
def FEC_STAT.DROP_EV (n : Nat) : Field := ⟨0x1300000 + 0x1000000 * n, 4, 1, 0⟩
def FEC_STAT.COMP_EV (n : Nat) : Field := ⟨0x1300000 + 0x1000000 * n, 3, 1, 0⟩
def FEC_STAT.UNC_EV (n : Nat) : Field := ⟨0x1300000 + 0x1000000 * n, 2, 1, 0⟩
def FEC_STAT.ENC_EV (n : Nat) : Field := ⟨0x1300000 + 0x1000000 * n, 1, 1, 0⟩
def FEC_STAT.CW_ALIGN (n : Nat) : Field := ⟨0x1300000 + 0x1000000 * n, 0, 1, 0⟩
/-- FEC_ITER_CTRL, Table 8.10 (R204). -/
def FEC_ITER_CTRL.HWM (n : Nat) : Field := ⟨0x1300004 + 0x1000000 * n, 16, 11, 0x80⟩
def FEC_ITER_CTRL.MIN (n : Nat) : Field := ⟨0x1300004 + 0x1000000 * n, 8, 5, 2⟩
def FEC_ITER_CTRL.EARLY (n : Nat) : Field := ⟨0x1300004 + 0x1000000 * n, 5, 1, 1⟩
def FEC_ITER_CTRL.MAX (n : Nat) : Field := ⟨0x1300004 + 0x1000000 * n, 0, 5, 0x10⟩
/-- FEC_BUDGET, Table 8.10 (R204). -/
def FEC_BUDGET.ENG (n : Nat) : Field := ⟨0x1300008 + 0x1000000 * n, 16, 13, 0⟩
def FEC_BUDGET.EFF (n : Nat) : Field := ⟨0x1300008 + 0x1000000 * n, 0, 13, 0⟩
/-- FEC_OCC, Table 8.10 (R204). -/
def FEC_OCC.MAX (n : Nat) : Field := ⟨0x130000C + 0x1000000 * n, 16, 13, 0⟩
def FEC_OCC.OCC (n : Nat) : Field := ⟨0x130000C + 0x1000000 * n, 0, 13, 0⟩
/-- FEC_ENG_ACT, Table 8.11 (R204). -/
def FEC_ENG_ACT.ACTIVE (n : Nat) : Field := ⟨0x1300010 + 0x1000000 * n, 0, 24, 0⟩
/-- FEC_ENG_FNC, Table 8.11 (R204). -/
def FEC_ENG_FNC.FENCED (n : Nat) : Field := ⟨0x1300014 + 0x1000000 * n, 0, 24, 0⟩
/-- FEC_ENG_SEL, Table 8.11 (R204). -/
def FEC_ENG_SEL.ENGINE (n : Nat) : Field := ⟨0x1300018 + 0x1000000 * n, 0, 5, 0⟩
/-- FEC_ENG_STAT, Table 8.11 (R204). -/
def FEC_ENG_STAT.CAUSE (n e : Nat) : Field := ⟨0x10100000 + 0x1000 * n + 4 * e, 28, 4, 0⟩
def FEC_ENG_STAT.ERRCNT (n e : Nat) : Field := ⟨0x10100000 + 0x1000 * n + 4 * e, 16, 8, 0⟩
def FEC_ENG_STAT.STATE (n e : Nat) : Field := ⟨0x10100000 + 0x1000 * n + 4 * e, 0, 3, 1⟩
/-- FEC_ENG_CMD, Table 8.11 (R204). -/
def FEC_ENG_CMD.FORCE (n : Nat) : Field := ⟨0x1300020 + 0x1000000 * n, 0, 1, 0⟩
/-- FEC_DEG_CFG, Table 8.12 (R204). -/
def FEC_DEG_CFG.WIN (n : Nat) : Field := ⟨0x1300024 + 0x1000000 * n, 16, 2, 0⟩
def FEC_DEG_CFG.THR (n : Nat) : Field := ⟨0x1300024 + 0x1000000 * n, 0, 16, 0⟩
/-- FEC_CNT_UNC, Table 8.12 (R204). -/
def FEC_CNT_UNC.COUNT (n : Nat) : Field := ⟨0x1300028 + 0x1000000 * n, 0, 32, 0⟩
/-- FEC_CNT_DROP, Table 8.12 (R204). -/
def FEC_CNT_DROP.COMP (n : Nat) : Field := ⟨0x130002C + 0x1000000 * n, 16, 16, 0⟩
def FEC_CNT_DROP.FILL (n : Nat) : Field := ⟨0x130002C + 0x1000000 * n, 0, 16, 0⟩
/-- FEC_SMP_CTRL, Table 8.13 (R204). -/
def FEC_SMP_CTRL.PERIOD (n : Nat) : Field := ⟨0x1300040 + 0x1000000 * n, 16, 16, 1⟩
def FEC_SMP_CTRL.ITHR (n : Nat) : Field := ⟨0x1300040 + 0x1000000 * n, 8, 5, 0x10⟩
def FEC_SMP_CTRL.FILT (n : Nat) : Field := ⟨0x1300040 + 0x1000000 * n, 4, 2, 0⟩
def FEC_SMP_CTRL.RND (n : Nat) : Field := ⟨0x1300040 + 0x1000000 * n, 2, 1, 0⟩
def FEC_SMP_CTRL.MODE (n : Nat) : Field := ⟨0x1300040 + 0x1000000 * n, 1, 1, 0⟩
def FEC_SMP_CTRL.ARM (n : Nat) : Field := ⟨0x1300040 + 0x1000000 * n, 0, 1, 0⟩
/-- FEC_SMP_STAT, Table 8.13 (R204). -/
def FEC_SMP_STAT.FULL (n : Nat) : Field := ⟨0x1300044 + 0x1000000 * n, 17, 1, 0⟩
def FEC_SMP_STAT.RUN (n : Nat) : Field := ⟨0x1300044 + 0x1000000 * n, 16, 1, 0⟩
def FEC_SMP_STAT.PTR (n : Nat) : Field := ⟨0x1300044 + 0x1000000 * n, 0, 12, 0⟩
/-- FEC_TST_BITS_LO, Table 8.13 (R204). -/
def FEC_TST_BITS_LO.LO (n : Nat) : Field := ⟨0x1300050 + 0x1000000 * n, 0, 32, 0⟩
/-- FEC_TST_BITS_HI, Table 8.13 (R204). -/
def FEC_TST_BITS_HI.HI (n : Nat) : Field := ⟨0x1300054 + 0x1000000 * n, 0, 16, 0⟩
/-- FEC_TST_ERR_LO, Table 8.13 (R204). -/
def FEC_TST_ERR_LO.LO (n : Nat) : Field := ⟨0x1300058 + 0x1000000 * n, 0, 32, 0⟩
/-- FEC_TST_ERR_HI, Table 8.13 (R204). -/
def FEC_TST_ERR_HI.HI (n : Nat) : Field := ⟨0x130005C + 0x1000000 * n, 0, 16, 0⟩

/-- Host-access rows of the FEC block. -/
def regsFec : List Reg := [
  ⟨0x1300000, [(4, 0x1000000)], 1, .plain, [⟨(FEC_STAT.CODE 0), .ro, .live, 2, .any⟩,
    ⟨(FEC_STAT.FENCE_EV 0), .w1c, .live, 2, .any⟩,
    ⟨(FEC_STAT.DEG_EV 0), .w1c, .live, 2, .any⟩,
    ⟨(FEC_STAT.DEG 0), .ro, .live, 2, .any⟩,
    ⟨(FEC_STAT.DROP_EV 0), .w1c, .live, 2, .any⟩,
    ⟨(FEC_STAT.COMP_EV 0), .w1c, .live, 2, .any⟩,
    ⟨(FEC_STAT.UNC_EV 0), .w1c, .live, 2, .any⟩,
    ⟨(FEC_STAT.ENC_EV 0), .w1c, .live, 2, .any⟩,
    ⟨(FEC_STAT.CW_ALIGN 0), .ro, .live, 2, .any⟩]⟩,
  ⟨0x1300004, [(4, 0x1000000)], 1, .plain, [⟨(FEC_ITER_CTRL.HWM 0), .rw, .live, 2, .rng 16 1024⟩,
    ⟨(FEC_ITER_CTRL.MIN 0), .rw, .live, 2, .rng 1 31⟩,
    ⟨(FEC_ITER_CTRL.EARLY 0), .rw, .live, 2, .any⟩,
    ⟨(FEC_ITER_CTRL.MAX 0), .rw, .live, 2, .rng 1 31⟩]⟩,
  ⟨0x1300008, [(4, 0x1000000)], 1, .plain, [⟨(FEC_BUDGET.ENG 0), .ro, .live, 2, .any⟩,
    ⟨(FEC_BUDGET.EFF 0), .ro, .live, 2, .any⟩]⟩,
  ⟨0x130000C, [(4, 0x1000000)], 1, .plain, [⟨(FEC_OCC.MAX 0), .rc, .live, 2, .any⟩,
    ⟨(FEC_OCC.OCC 0), .ro, .live, 2, .any⟩]⟩,
  ⟨0x1300010, [(4, 0x1000000)], 1, .plain, [⟨(FEC_ENG_ACT.ACTIVE 0), .ro, .live, 2, .any⟩]⟩,
  ⟨0x1300014, [(4, 0x1000000)], 1, .plain, [⟨(FEC_ENG_FNC.FENCED 0), .ro, .live, 2, .any⟩]⟩,
  ⟨0x1300018, [(4, 0x1000000)], 1, .plain, [⟨(FEC_ENG_SEL.ENGINE 0), .rw, .live, 3, .rng 0 23⟩]⟩,
  ⟨0x130001C, [(4, 0x1000000)], 1, .engine, [⟨(FEC_ENG_STAT.CAUSE 0 0), .ro, .live, 2, .any⟩,
    ⟨(FEC_ENG_STAT.ERRCNT 0 0), .rc, .live, 2, .any⟩,
    ⟨(FEC_ENG_STAT.STATE 0 0), .ro, .live, 2, .any⟩]⟩,
  ⟨0x1300020, [(4, 0x1000000)], 1, .plain, [⟨(FEC_ENG_CMD.FORCE 0), .wo, .live, 3, .any⟩]⟩,
  ⟨0x1300024, [(4, 0x1000000)], 1, .plain, [⟨(FEC_DEG_CFG.WIN 0), .rw, .live, 2, .any⟩,
    ⟨(FEC_DEG_CFG.THR 0), .rw, .live, 2, .any⟩]⟩,
  ⟨0x1300028, [(4, 0x1000000)], 1, .plain, [⟨(FEC_CNT_UNC.COUNT 0), .rc, .live, 2, .any⟩]⟩,
  ⟨0x130002C, [(4, 0x1000000)], 1, .plain, [⟨(FEC_CNT_DROP.COMP 0), .rc, .live, 2, .any⟩,
    ⟨(FEC_CNT_DROP.FILL 0), .rc, .live, 2, .any⟩]⟩,
  ⟨0x1300040, [(4, 0x1000000)], 3, .plain, [⟨(FEC_SMP_CTRL.PERIOD 0), .rw, .live, 3, .rng 1 65535⟩,
    ⟨(FEC_SMP_CTRL.ITHR 0), .rw, .live, 3, .any⟩,
    ⟨(FEC_SMP_CTRL.FILT 0), .rw, .live, 3, .any⟩,
    ⟨(FEC_SMP_CTRL.RND 0), .rw, .live, 3, .any⟩,
    ⟨(FEC_SMP_CTRL.MODE 0), .rw, .live, 3, .any⟩,
    ⟨(FEC_SMP_CTRL.ARM 0), .rw, .live, 3, .any⟩]⟩,
  ⟨0x1300044, [(4, 0x1000000)], 3, .plain, [⟨(FEC_SMP_STAT.FULL 0), .w1c, .live, 3, .any⟩,
    ⟨(FEC_SMP_STAT.RUN 0), .ro, .live, 3, .any⟩,
    ⟨(FEC_SMP_STAT.PTR 0), .ro, .live, 3, .any⟩]⟩,
  ⟨0x1300050, [(4, 0x1000000)], 3, .plain, [⟨(FEC_TST_BITS_LO.LO 0), .ro, .live, 3, .any⟩]⟩,
  ⟨0x1300054, [(4, 0x1000000)], 3, .plain, [⟨(FEC_TST_BITS_HI.HI 0), .ro, .live, 3, .any⟩]⟩,
  ⟨0x1300058, [(4, 0x1000000)], 3, .plain, [⟨(FEC_TST_ERR_LO.LO 0), .ro, .live, 3, .any⟩]⟩,
  ⟨0x130005C, [(4, 0x1000000)], 3, .plain, [⟨(FEC_TST_ERR_HI.HI 0), .ro, .live, 3, .any⟩]⟩]

/-- LFR_CTRL, Table 9.9 (R229). -/
def LFR_CTRL.G2 (n : Nat) : Field := ⟨0x1400000 + 0x1000000 * n, 8, 1, 0⟩
def LFR_CTRL.BDI_FORCE (n : Nat) : Field := ⟨0x1400000 + 0x1000000 * n, 1, 1, 0⟩
/-- LFR_STAT, Table 9.9 (R229). -/
def LFR_STAT.RX_MODE (n : Nat) : Field := ⟨0x1400004 + 0x1000000 * n, 24, 8, 0⟩
def LFR_STAT.G2_ACT (n : Nat) : Field := ⟨0x1400004 + 0x1000000 * n, 16, 1, 0⟩
def LFR_STAT.TOR_EV (n : Nat) : Field := ⟨0x1400004 + 0x1000000 * n, 12, 1, 0⟩
def LFR_STAT.SR_UNSTABLE (n : Nat) : Field := ⟨0x1400004 + 0x1000000 * n, 11, 1, 0⟩
def LFR_STAT.SR_EV (n : Nat) : Field := ⟨0x1400004 + 0x1000000 * n, 10, 1, 0⟩
def LFR_STAT.LOF_EV (n : Nat) : Field := ⟨0x1400004 + 0x1000000 * n, 9, 1, 0⟩
def LFR_STAT.FD_EV (n : Nat) : Field := ⟨0x1400004 + 0x1000000 * n, 8, 1, 0⟩
def LFR_STAT.SR_VALID (n : Nat) : Field := ⟨0x1400004 + 0x1000000 * n, 5, 1, 0⟩
def LFR_STAT.RX_RESIZE (n : Nat) : Field := ⟨0x1400004 + 0x1000000 * n, 4, 1, 0⟩
def LFR_STAT.RX_BDI (n : Nat) : Field := ⟨0x1400004 + 0x1000000 * n, 3, 1, 0⟩
def LFR_STAT.MF_LOCK (n : Nat) : Field := ⟨0x1400004 + 0x1000000 * n, 2, 1, 0⟩
def LFR_STAT.FSTATE (n : Nat) : Field := ⟨0x1400004 + 0x1000000 * n, 0, 2, 0⟩
/-- LFR_MFN_TX, Table 9.10 (R229). -/
def LFR_MFN_TX.MFN (n : Nat) : Field := ⟨0x1400008 + 0x1000000 * n, 0, 32, 0⟩
/-- LFR_MFN_RX, Table 9.10 (R229). -/
def LFR_MFN_RX.MFN (n : Nat) : Field := ⟨0x140000C + 0x1000000 * n, 0, 32, 0⟩
/-- LFR_SR_TX, Table 9.10 (R229). -/
def LFR_SR_TX.SR (n : Nat) : Field := ⟨0x1400010 + 0x1000000 * n, 0, 32, 0⟩
/-- LFR_SR_RX, Table 9.10 (R229). -/
def LFR_SR_RX.SR (n : Nat) : Field := ⟨0x1400014 + 0x1000000 * n, 0, 32, 0⟩
/-- LFR_SR_RAW, Table 9.10 (R229). -/
def LFR_SR_RAW.SR (n : Nat) : Field := ⟨0x1400018 + 0x1000000 * n, 0, 32, 0⟩
/-- LFR_GEOM0, Table 9.10 (R229). -/
def LFR_GEOM0.FBYTES (n : Nat) : Field := ⟨0x140001C + 0x1000000 * n, 0, 18, 0⟩
/-- LFR_GEOM1, Table 9.10 (R229). -/
def LFR_GEOM1.CWMF (n : Nat) : Field := ⟨0x1400020 + 0x1000000 * n, 0, 18, 0x24000⟩
/-- LFR_CNT_BIP, Table 9.10 (R229). -/
def LFR_CNT_BIP.COUNT (n : Nat) : Field := ⟨0x1400024 + 0x1000000 * n, 0, 32, 0⟩
/-- LFR_CNT_REI, Table 9.10 (R229). -/
def LFR_CNT_REI.COUNT (n : Nat) : Field := ⟨0x1400028 + 0x1000000 * n, 0, 32, 0⟩
/-- LFR_CNT_FRM, Table 9.10 (R229). -/
def LFR_CNT_FRM.LOF (n : Nat) : Field := ⟨0x140002C + 0x1000000 * n, 16, 16, 0⟩
def LFR_CNT_FRM.HCS (n : Nat) : Field := ⟨0x140002C + 0x1000000 * n, 0, 16, 0⟩
/-- LFR_CNT_TOR, Table 9.10 (R229). -/
def LFR_CNT_TOR.NOJC (n : Nat) : Field := ⟨0x1400030 + 0x1000000 * n, 16, 16, 0⟩
def LFR_CNT_TOR.CRC (n : Nat) : Field := ⟨0x1400030 + 0x1000000 * n, 0, 16, 0⟩

/-- Host-access rows of the LFR block. -/
def regsLfr : List Reg := [
  ⟨0x1400000, [(4, 0x1000000)], 1, .plain, [⟨(LFR_CTRL.G2 0), .rw, .static, 2, .any⟩,
    ⟨(LFR_CTRL.BDI_FORCE 0), .rw, .live, 2, .any⟩]⟩,
  ⟨0x1400004, [(4, 0x1000000)], 1, .plain, [⟨(LFR_STAT.RX_MODE 0), .ro, .live, 2, .any⟩,
    ⟨(LFR_STAT.G2_ACT 0), .ro, .live, 2, .any⟩,
    ⟨(LFR_STAT.TOR_EV 0), .w1c, .live, 2, .any⟩,
    ⟨(LFR_STAT.SR_UNSTABLE 0), .ro, .live, 2, .any⟩,
    ⟨(LFR_STAT.SR_EV 0), .w1c, .live, 2, .any⟩,
    ⟨(LFR_STAT.LOF_EV 0), .w1c, .live, 2, .any⟩,
    ⟨(LFR_STAT.FD_EV 0), .w1c, .live, 2, .any⟩,
    ⟨(LFR_STAT.SR_VALID 0), .ro, .live, 2, .any⟩,
    ⟨(LFR_STAT.RX_RESIZE 0), .ro, .live, 2, .any⟩,
    ⟨(LFR_STAT.RX_BDI 0), .ro, .live, 2, .any⟩,
    ⟨(LFR_STAT.MF_LOCK 0), .ro, .live, 2, .any⟩,
    ⟨(LFR_STAT.FSTATE 0), .ro, .live, 2, .any⟩]⟩,
  ⟨0x1400008, [(4, 0x1000000)], 1, .plain, [⟨(LFR_MFN_TX.MFN 0), .ro, .live, 2, .any⟩]⟩,
  ⟨0x140000C, [(4, 0x1000000)], 1, .plain, [⟨(LFR_MFN_RX.MFN 0), .ro, .live, 2, .any⟩]⟩,
  ⟨0x1400010, [(4, 0x1000000)], 1, .plain, [⟨(LFR_SR_TX.SR 0), .rw, .live, 2, .any⟩]⟩,
  ⟨0x1400014, [(4, 0x1000000)], 1, .plain, [⟨(LFR_SR_RX.SR 0), .ro, .live, 2, .any⟩]⟩,
  ⟨0x1400018, [(4, 0x1000000)], 1, .plain, [⟨(LFR_SR_RAW.SR 0), .ro, .live, 2, .any⟩]⟩,
  ⟨0x140001C, [(4, 0x1000000)], 1, .plain, [⟨(LFR_GEOM0.FBYTES 0), .ro, .live, 2, .any⟩]⟩,
  ⟨0x1400020, [(4, 0x1000000)], 1, .plain, [⟨(LFR_GEOM1.CWMF 0), .ro, .live, 2, .any⟩]⟩,
  ⟨0x1400024, [(4, 0x1000000)], 1, .plain, [⟨(LFR_CNT_BIP.COUNT 0), .rc, .live, 2, .any⟩]⟩,
  ⟨0x1400028, [(4, 0x1000000)], 1, .plain, [⟨(LFR_CNT_REI.COUNT 0), .rc, .live, 2, .any⟩]⟩,
  ⟨0x140002C, [(4, 0x1000000)], 1, .plain, [⟨(LFR_CNT_FRM.LOF 0), .rc, .live, 2, .any⟩,
    ⟨(LFR_CNT_FRM.HCS 0), .rc, .live, 2, .any⟩]⟩,
  ⟨0x1400030, [(4, 0x1000000)], 1, .plain, [⟨(LFR_CNT_TOR.NOJC 0), .rc, .live, 2, .any⟩,
    ⟨(LFR_CNT_TOR.CRC 0), .rc, .live, 2, .any⟩]⟩]

/-- TRB_CTRL, Table 9.11 (R230). -/
def TRB_CTRL.AUTO_RESUME (n : Nat) : Field := ⟨0x1500000 + 0x1000000 * n, 0, 1, 1⟩
/-- TRB_CMT, Table 9.11 (R230). -/
def TRB_CMT.GO (n : Nat) : Field := ⟨0x1500004 + 0x1000000 * n, 31, 1, 0⟩
/-- TRB_CMT_STAT, Table 9.11 (R230). -/
def TRB_CMT_STAT.ENTRY (n : Nat) : Field := ⟨0x1500008 + 0x1000000 * n, 16, 10, 0⟩
def TRB_CMT_STAT.CAUSE (n : Nat) : Field := ⟨0x1500008 + 0x1000000 * n, 12, 4, 0⟩
def TRB_CMT_STAT.FAIL_EV (n : Nat) : Field := ⟨0x1500008 + 0x1000000 * n, 9, 1, 0⟩
def TRB_CMT_STAT.DONE_EV (n : Nat) : Field := ⟨0x1500008 + 0x1000000 * n, 8, 1, 0⟩
def TRB_CMT_STAT.STATE (n : Nat) : Field := ⟨0x1500008 + 0x1000000 * n, 0, 3, 0⟩
/-- TRB_CMT_MF, Table 9.11 (R230). -/
def TRB_CMT_MF.MFN (n : Nat) : Field := ⟨0x150000C + 0x1000000 * n, 0, 32, 0⟩
/-- TRB_STAT, Table 9.11 (R230). -/
def TRB_STAT.ENC_SLOTS (n : Nat) : Field := ⟨0x1500010 + 0x1000000 * n, 16, 11, 0⟩
def TRB_STAT.ACTIVE (n : Nat) : Field := ⟨0x1500010 + 0x1000000 * n, 0, 11, 0⟩
/-- TRB_CNT, Table 9.11 (R230). -/
def TRB_CNT.UNDER (n : Nat) : Field := ⟨0x1500014 + 0x1000000 * n, 16, 16, 0⟩
def TRB_CNT.AUTO (n : Nat) : Field := ⟨0x1500014 + 0x1000000 * n, 0, 16, 0⟩

/-- Host-access rows of the TRB block. -/
def regsTrb : List Reg := [
  ⟨0x1500000, [(4, 0x1000000)], 1, .plain, [⟨(TRB_CTRL.AUTO_RESUME 0), .rw, .live, 2, .any⟩]⟩,
  ⟨0x1500004, [(4, 0x1000000)], 1, .plain, [⟨(TRB_CMT.GO 0), .wo, .live, 2, .any⟩]⟩,
  ⟨0x1500008, [(4, 0x1000000)], 1, .plain, [⟨(TRB_CMT_STAT.ENTRY 0), .ro, .live, 2, .any⟩,
    ⟨(TRB_CMT_STAT.CAUSE 0), .ro, .live, 2, .any⟩,
    ⟨(TRB_CMT_STAT.FAIL_EV 0), .w1c, .live, 2, .any⟩,
    ⟨(TRB_CMT_STAT.DONE_EV 0), .w1c, .live, 2, .any⟩,
    ⟨(TRB_CMT_STAT.STATE 0), .ro, .live, 2, .any⟩]⟩,
  ⟨0x150000C, [(4, 0x1000000)], 1, .plain, [⟨(TRB_CMT_MF.MFN 0), .ro, .live, 2, .any⟩]⟩,
  ⟨0x1500010, [(4, 0x1000000)], 1, .plain, [⟨(TRB_STAT.ENC_SLOTS 0), .ro, .live, 2, .any⟩,
    ⟨(TRB_STAT.ACTIVE 0), .ro, .live, 2, .any⟩]⟩,
  ⟨0x1500014, [(4, 0x1000000)], 1, .plain, [⟨(TRB_CNT.UNDER 0), .rc, .live, 2, .any⟩,
    ⟨(TRB_CNT.AUTO 0), .rc, .live, 2, .any⟩]⟩]

/-- HST_STAT, Table 10.7 (R254). -/
def HST_STAT.FLX_EV (n : Nat) : Field := ⟨0x1600000 + 0x1000000 * n, 8, 1, 0⟩
def HST_STAT.FENCE_EV (n : Nat) : Field := ⟨0x1600000 + 0x1000000 * n, 7, 1, 0⟩
def HST_STAT.OVF_EV (n : Nat) : Field := ⟨0x1600000 + 0x1000000 * n, 6, 1, 0⟩
def HST_STAT.UNDER_EV (n : Nat) : Field := ⟨0x1600000 + 0x1000000 * n, 5, 1, 0⟩
def HST_STAT.REPL_EV (n : Nat) : Field := ⟨0x1600000 + 0x1000000 * n, 4, 1, 0⟩
def HST_STAT.LANE_EV (n : Nat) : Field := ⟨0x1600000 + 0x1000000 * n, 3, 1, 0⟩
def HST_STAT.REFLOSS (n : Nat) : Field := ⟨0x1600000 + 0x1000000 * n, 1, 1, 0⟩
def HST_STAT.LOL (n : Nat) : Field := ⟨0x1600000 + 0x1000000 * n, 0, 1, 1⟩
/-- HST_LANES, Table 10.7 (R254). -/
def HST_LANES.FENCED (n : Nat) : Field := ⟨0x1600004 + 0x1000000 * n, 16, 16, 0⟩
def HST_LANES.RX_UP (n : Nat) : Field := ⟨0x1600004 + 0x1000000 * n, 0, 16, 0⟩
/-- HST_PLL_STAT, Table 10.7 (R254). -/
def HST_PLL_STAT.LOL_CNT (n : Nat) : Field := ⟨0x1600008 + 0x1000000 * n, 24, 8, 0⟩
def HST_PLL_STAT.FAULT (n : Nat) : Field := ⟨0x1600008 + 0x1000000 * n, 1, 1, 0⟩
def HST_PLL_STAT.LOCK (n : Nat) : Field := ⟨0x1600008 + 0x1000000 * n, 0, 1, 0⟩
/-- HST_RM_CTRL, Table 10.7 (R254). -/
def HST_RM_CTRL.START (n : Nat) : Field := ⟨0x1600010 + 0x1000000 * n, 0, 6, 8⟩
/-- HST_LANE_CMD, Table 10.7 (R254). -/
def HST_LANE_CMD.FORCE (n : Nat) : Field := ⟨0x1600020 + 0x1000000 * n, 31, 1, 0⟩
def HST_LANE_CMD.LANE (n : Nat) : Field := ⟨0x1600020 + 0x1000000 * n, 0, 4, 0⟩
/-- HST_FLX_CMD, Table 10.7 (R254). -/
def HST_FLX_CMD.SWITCH (n : Nat) : Field := ⟨0x1600030 + 0x1000000 * n, 31, 1, 0⟩
def HST_FLX_CMD.GROUP (n : Nat) : Field := ⟨0x1600030 + 0x1000000 * n, 0, 3, 0⟩
/-- HST_LANE_Ll, Table 10.8 (R254). -/
def HST_LANE_L.TYPE (n l : Nat) : Field := ⟨0x1600100 + 0x1000000 * n + 4 * l, 9, 3, 0⟩
def HST_LANE_L.FLEXE (n l : Nat) : Field := ⟨0x1600100 + 0x1000000 * n + 4 * l, 8, 1, 0⟩
def HST_LANE_L.GROUP (n l : Nat) : Field := ⟨0x1600100 + 0x1000000 * n + 4 * l, 4, 3, 0⟩
def HST_LANE_L.TX_EN (n l : Nat) : Field := ⟨0x1600100 + 0x1000000 * n + 4 * l, 2, 1, 1⟩
def HST_LANE_L.TX_INV (n l : Nat) : Field := ⟨0x1600100 + 0x1000000 * n + 4 * l, 1, 1, 0⟩
def HST_LANE_L.RX_INV (n l : Nat) : Field := ⟨0x1600100 + 0x1000000 * n + 4 * l, 0, 1, 0⟩
/-- HST_LSTAT_Ll, Table 10.8 (R254). -/
def HST_LSTAT_L.CAUSE (n l : Nat) : Field := ⟨0x1600140 + 0x1000000 * n + 4 * l, 28, 4, 0⟩
def HST_LSTAT_L.SKEW (n l : Nat) : Field := ⟨0x1600140 + 0x1000000 * n + 4 * l, 16, 8, 0⟩
def HST_LSTAT_L.LOS_EV (n l : Nat) : Field := ⟨0x1600140 + 0x1000000 * n + 4 * l, 7, 1, 0⟩
def HST_LSTAT_L.LOL_EV (n l : Nat) : Field := ⟨0x1600140 + 0x1000000 * n + 4 * l, 6, 1, 0⟩
def HST_LSTAT_L.FENCED (n l : Nat) : Field := ⟨0x1600140 + 0x1000000 * n + 4 * l, 4, 1, 0⟩
def HST_LSTAT_L.AM_LOCK (n l : Nat) : Field := ⟨0x1600140 + 0x1000000 * n + 4 * l, 3, 1, 0⟩
def HST_LSTAT_L.LOL (n l : Nat) : Field := ⟨0x1600140 + 0x1000000 * n + 4 * l, 2, 1, 1⟩
def HST_LSTAT_L.LOS (n l : Nat) : Field := ⟨0x1600140 + 0x1000000 * n + 4 * l, 1, 1, 1⟩
/-- HST_LCNT_Ll, Table 10.8 (R254). -/
def HST_LCNT_L.LOS (n l : Nat) : Field := ⟨0x1600180 + 0x1000000 * n + 4 * l, 16, 16, 0⟩
def HST_LCNT_L.LOL (n l : Nat) : Field := ⟨0x1600180 + 0x1000000 * n + 4 * l, 0, 16, 0⟩
/-- HST_TXEQ_Ll, Table 10.8 (R254). -/
def HST_TXEQ_L.POST1 (n l : Nat) : Field := ⟨0x16001C0 + 0x1000000 * n + 4 * l, 24, 8, 0⟩
def HST_TXEQ_L.MAIN (n l : Nat) : Field := ⟨0x16001C0 + 0x1000000 * n + 4 * l, 16, 8, 0x40⟩
def HST_TXEQ_L.PRE1 (n l : Nat) : Field := ⟨0x16001C0 + 0x1000000 * n + 4 * l, 8, 8, 0⟩
def HST_TXEQ_L.PRE2 (n l : Nat) : Field := ⟨0x16001C0 + 0x1000000 * n + 4 * l, 0, 8, 0⟩
/-- HST_FEC_CORR_Pp, Table 10.9 (R254). -/
def HST_FEC_CORR_P.COUNT (n p : Nat) : Field := ⟨0x1600200 + 0x1000000 * n + 8 * p, 0, 32, 0⟩
/-- HST_FEC_UNC_Pp, Table 10.9 (R254). -/
def HST_FEC_UNC_P.COUNT (n p : Nat) : Field := ⟨0x1600204 + 0x1000000 * n + 8 * p, 0, 32, 0⟩
/-- HST_FLX_CFG_Gg, Table 10.9 (R254). -/
def HST_FLX_CFG_G.GNUM (n g : Nat) : Field := ⟨0x1600280 + 0x1000000 * n + 8 * g, 0, 20, 0⟩
/-- HST_FLX_STAT_Gg, Table 10.9 (R254). -/
def HST_FLX_STAT_G.OH_LOCK (n g : Nat) : Field := ⟨0x1600284 + 0x1000000 * n + 8 * g, 16, 16, 0⟩
def HST_FLX_STAT_G.CAL_BAD (n g : Nat) : Field := ⟨0x1600284 + 0x1000000 * n + 8 * g, 12, 1, 0⟩
def HST_FLX_STAT_G.CA_TIMEOUT (n g : Nat) : Field := ⟨0x1600284 + 0x1000000 * n + 8 * g, 11, 1, 0⟩
def HST_FLX_STAT_G.GNUM_MISMATCH (n g : Nat) : Field := ⟨0x1600284 + 0x1000000 * n + 8 * g, 10, 1, 0⟩
def HST_FLX_STAT_G.SW_EV (n g : Nat) : Field := ⟨0x1600284 + 0x1000000 * n + 8 * g, 9, 1, 0⟩
def HST_FLX_STAT_G.SW_STATE (n g : Nat) : Field := ⟨0x1600284 + 0x1000000 * n + 8 * g, 4, 2, 0⟩
def HST_FLX_STAT_G.RX_CAL (n g : Nat) : Field := ⟨0x1600284 + 0x1000000 * n + 8 * g, 2, 1, 0⟩
def HST_FLX_STAT_G.TX_CAL (n g : Nat) : Field := ⟨0x1600284 + 0x1000000 * n + 8 * g, 1, 1, 0⟩
def HST_FLX_STAT_G.ACTIVE (n g : Nat) : Field := ⟨0x1600284 + 0x1000000 * n + 8 * g, 0, 1, 0⟩

/-- Host-access rows of the HST block. -/
def regsHst : List Reg := [
  ⟨0x1600000, [(4, 0x1000000)], 1, .plain, [⟨(HST_STAT.FLX_EV 0), .w1c, .live, 2, .any⟩,
    ⟨(HST_STAT.FENCE_EV 0), .w1c, .live, 2, .any⟩,
    ⟨(HST_STAT.OVF_EV 0), .w1c, .live, 2, .any⟩,
    ⟨(HST_STAT.UNDER_EV 0), .w1c, .live, 2, .any⟩,
    ⟨(HST_STAT.REPL_EV 0), .w1c, .live, 2, .any⟩,
    ⟨(HST_STAT.LANE_EV 0), .w1c, .live, 2, .any⟩,
    ⟨(HST_STAT.REFLOSS 0), .ro, .live, 2, .any⟩,
    ⟨(HST_STAT.LOL 0), .ro, .live, 2, .any⟩]⟩,
  ⟨0x1600004, [(4, 0x1000000)], 1, .plain, [⟨(HST_LANES.FENCED 0), .ro, .live, 2, .any⟩,
    ⟨(HST_LANES.RX_UP 0), .ro, .live, 2, .any⟩]⟩,
  ⟨0x1600008, [(4, 0x1000000)], 1, .plain, [⟨(HST_PLL_STAT.LOL_CNT 0), .rc, .live, 2, .any⟩,
    ⟨(HST_PLL_STAT.FAULT 0), .ro, .live, 2, .any⟩,
    ⟨(HST_PLL_STAT.LOCK 0), .ro, .live, 2, .any⟩]⟩,
  ⟨0x1600010, [(4, 0x1000000)], 1, .plain, [⟨(HST_RM_CTRL.START 0), .rw, .live, 2, .rng 4 32⟩]⟩,
  ⟨0x1600020, [(4, 0x1000000)], 1, .plain, [⟨(HST_LANE_CMD.FORCE 0), .wo, .live, 3, .any⟩,
    ⟨(HST_LANE_CMD.LANE 0), .wo, .live, 3, .any⟩]⟩,
  ⟨0x1600030, [(4, 0x1000000)], 1, .plain, [⟨(HST_FLX_CMD.SWITCH 0), .wo, .live, 2, .any⟩,
    ⟨(HST_FLX_CMD.GROUP 0), .wo, .live, 2, .any⟩]⟩,
  ⟨0x1600100, [(4, 0x1000000), (16, 4)], 1, .plain, [⟨(HST_LANE_L.TYPE 0 0), .rw, .static, 2, .rng 0 4⟩,
    ⟨(HST_LANE_L.FLEXE 0 0), .rw, .static, 2, .any⟩,
    ⟨(HST_LANE_L.GROUP 0 0), .rw, .static, 2, .any⟩,
    ⟨(HST_LANE_L.TX_EN 0 0), .rw, .live, 2, .any⟩,
    ⟨(HST_LANE_L.TX_INV 0 0), .rw, .live, 2, .any⟩,
    ⟨(HST_LANE_L.RX_INV 0 0), .rw, .live, 2, .any⟩]⟩,
  ⟨0x1600140, [(4, 0x1000000), (16, 4)], 1, .plain, [⟨(HST_LSTAT_L.CAUSE 0 0), .ro, .live, 2, .any⟩,
    ⟨(HST_LSTAT_L.SKEW 0 0), .ro, .live, 2, .any⟩,
    ⟨(HST_LSTAT_L.LOS_EV 0 0), .w1c, .live, 2, .any⟩,
    ⟨(HST_LSTAT_L.LOL_EV 0 0), .w1c, .live, 2, .any⟩,
    ⟨(HST_LSTAT_L.FENCED 0 0), .ro, .live, 2, .any⟩,
    ⟨(HST_LSTAT_L.AM_LOCK 0 0), .ro, .live, 2, .any⟩,
    ⟨(HST_LSTAT_L.LOL 0 0), .ro, .live, 2, .any⟩,
    ⟨(HST_LSTAT_L.LOS 0 0), .ro, .live, 2, .any⟩]⟩,
  ⟨0x1600180, [(4, 0x1000000), (16, 4)], 1, .plain, [⟨(HST_LCNT_L.LOS 0 0), .rc, .live, 2, .any⟩,
    ⟨(HST_LCNT_L.LOL 0 0), .rc, .live, 2, .any⟩]⟩,
  ⟨0x16001C0, [(4, 0x1000000), (16, 4)], 1, .plain, [⟨(HST_TXEQ_L.POST1 0 0), .rw, .live, 2, .any⟩,
    ⟨(HST_TXEQ_L.MAIN 0 0), .rw, .live, 2, .any⟩,
    ⟨(HST_TXEQ_L.PRE1 0 0), .rw, .live, 2, .any⟩,
    ⟨(HST_TXEQ_L.PRE2 0 0), .rw, .live, 2, .any⟩]⟩,
  ⟨0x1600200, [(4, 0x1000000), (16, 8)], 1, .plain, [⟨(HST_FEC_CORR_P.COUNT 0 0), .rc, .live, 2, .any⟩]⟩,
  ⟨0x1600204, [(4, 0x1000000), (16, 8)], 1, .plain, [⟨(HST_FEC_UNC_P.COUNT 0 0), .rc, .live, 2, .any⟩]⟩,
  ⟨0x1600280, [(4, 0x1000000), (8, 8)], 1, .plain, [⟨(HST_FLX_CFG_G.GNUM 0 0), .rw, .static, 2, .rng 0 0xFFFFE⟩]⟩,
  ⟨0x1600284, [(4, 0x1000000), (8, 8)], 1, .plain, [⟨(HST_FLX_STAT_G.OH_LOCK 0 0), .ro, .live, 2, .any⟩,
    ⟨(HST_FLX_STAT_G.CAL_BAD 0 0), .ro, .live, 2, .any⟩,
    ⟨(HST_FLX_STAT_G.CA_TIMEOUT 0 0), .w1c, .live, 2, .any⟩,
    ⟨(HST_FLX_STAT_G.GNUM_MISMATCH 0 0), .ro, .live, 2, .any⟩,
    ⟨(HST_FLX_STAT_G.SW_EV 0 0), .w1c, .live, 2, .any⟩,
    ⟨(HST_FLX_STAT_G.SW_STATE 0 0), .ro, .live, 2, .any⟩,
    ⟨(HST_FLX_STAT_G.RX_CAL 0 0), .ro, .live, 2, .any⟩,
    ⟨(HST_FLX_STAT_G.TX_CAL 0 0), .ro, .live, 2, .any⟩,
    ⟨(HST_FLX_STAT_G.ACTIVE 0 0), .ro, .live, 2, .any⟩]⟩]

/-- ISC_CTRL, Table 11.8 (R273). -/
def ISC_CTRL.TEL_EN (n : Nat) : Field := ⟨0x1700000 + 0x1000000 * n, 7, 1, 1⟩
def ISC_CTRL.RX_ANY (n : Nat) : Field := ⟨0x1700000 + 0x1000000 * n, 6, 1, 0⟩
def ISC_CTRL.REP (n : Nat) : Field := ⟨0x1700000 + 0x1000000 * n, 1, 2, 2⟩
def ISC_CTRL.TX_EN (n : Nat) : Field := ⟨0x1700000 + 0x1000000 * n, 0, 1, 1⟩
/-- ISC_CFG, Table 11.8 (R273). -/
def ISC_CFG.RX_CODE (n : Nat) : Field := ⟨0x1700004 + 0x1000000 * n, 8, 5, 0⟩
def ISC_CFG.TX_CODE (n : Nat) : Field := ⟨0x1700004 + 0x1000000 * n, 0, 5, 0⟩
/-- ISC_STATION, Table 11.8 (R273). -/
def ISC_STATION.ID (n : Nat) : Field := ⟨0x1700008 + 0x1000000 * n, 0, 32, 0⟩
/-- ISC_PEER, Table 11.8 (R273). -/
def ISC_PEER.ID (n : Nat) : Field := ⟨0x170000C + 0x1000000 * n, 0, 32, 0⟩
/-- ISC_STAT, Table 11.9 (R273). -/
def ISC_STAT.CODE_FOUND (n : Nat) : Field := ⟨0x1700010 + 0x1000000 * n, 27, 5, 0⟩
def ISC_STAT.RX_REP (n : Nat) : Field := ⟨0x1700010 + 0x1000000 * n, 22, 2, 0⟩
def ISC_STAT.COH (n : Nat) : Field := ⟨0x1700010 + 0x1000000 * n, 15, 1, 0⟩
def ISC_STAT.ID_CLASH (n : Nat) : Field := ⟨0x1700010 + 0x1000000 * n, 14, 1, 0⟩
def ISC_STAT.LOOPBACK (n : Nat) : Field := ⟨0x1700010 + 0x1000000 * n, 13, 1, 0⟩
def ISC_STAT.LOOP_EV (n : Nat) : Field := ⟨0x1700010 + 0x1000000 * n, 11, 1, 0⟩
def ISC_STAT.HRX_EV (n : Nat) : Field := ⟨0x1700010 + 0x1000000 * n, 10, 1, 0⟩
def ISC_STAT.ABS_EV (n : Nat) : Field := ⟨0x1700010 + 0x1000000 * n, 9, 1, 0⟩
def ISC_STAT.PRES_EV (n : Nat) : Field := ⟨0x1700010 + 0x1000000 * n, 8, 1, 0⟩
def ISC_STAT.MISSED (n : Nat) : Field := ⟨0x1700010 + 0x1000000 * n, 6, 2, 0⟩
def ISC_STAT.PEER (n : Nat) : Field := ⟨0x1700010 + 0x1000000 * n, 4, 2, 0⟩
def ISC_STAT.CHIP (n : Nat) : Field := ⟨0x1700010 + 0x1000000 * n, 0, 3, 0⟩
/-- ISC_FOFS, Table 11.9 (R273). -/
def ISC_FOFS.QUAL (n : Nat) : Field := ⟨0x1700014 + 0x1000000 * n, 24, 8, 0⟩
def ISC_FOFS.FOFS (n : Nat) : Field := ⟨0x1700014 + 0x1000000 * n, 0, 24, 0x800000⟩
/-- ISC_CNT_RX, Table 11.9 (R273). -/
def ISC_CNT_RX.CRC (n : Nat) : Field := ⟨0x1700018 + 0x1000000 * n, 16, 16, 0⟩
def ISC_CNT_RX.GOOD (n : Nat) : Field := ⟨0x1700018 + 0x1000000 * n, 0, 16, 0⟩
/-- ISC_CNT_EV, Table 11.9 (R273). -/
def ISC_CNT_EV.ABSENT (n : Nat) : Field := ⟨0x170001C + 0x1000000 * n, 24, 8, 0⟩
def ISC_CNT_EV.LOCKLOSS (n : Nat) : Field := ⟨0x170001C + 0x1000000 * n, 16, 8, 0⟩
def ISC_CNT_EV.LOST (n : Nat) : Field := ⟨0x170001C + 0x1000000 * n, 0, 16, 0⟩
/-- ISC_CNT_TX, Table 11.9 (R273). -/
def ISC_CNT_TX.SENT (n : Nat) : Field := ⟨0x1700020 + 0x1000000 * n, 0, 32, 0⟩
/-- ISC_HCMD, Table 11.10 (R273). -/
def ISC_HCMD.SEND (n : Nat) : Field := ⟨0x1700030 + 0x1000000 * n, 31, 1, 0⟩
/-- ISC_HSTAT, Table 11.10 (R273). -/
def ISC_HSTAT.HRX_OVR (n : Nat) : Field := ⟨0x1700034 + 0x1000000 * n, 2, 1, 0⟩
def ISC_HSTAT.HRX_FULL (n : Nat) : Field := ⟨0x1700034 + 0x1000000 * n, 1, 1, 0⟩
def ISC_HSTAT.HTX_BUSY (n : Nat) : Field := ⟨0x1700034 + 0x1000000 * n, 0, 1, 0⟩
/-- ISC_HTXw, Table 11.10 (R273). -/
def ISC_HTX.DATA (n w : Nat) : Field := ⟨0x1700040 + 0x1000000 * n + 4 * w, 0, 32, 0⟩
/-- ISC_HTX3, Table 11.10 (R273). -/
def ISC_HTX3.DATA (n : Nat) : Field := ⟨0x170004C + 0x1000000 * n, 16, 16, 0⟩
/-- ISC_HRXw, Table 11.10 (R273). -/
def ISC_HRX.DATA (n w : Nat) : Field := ⟨0x1700050 + 0x1000000 * n + 4 * w, 0, 32, 0⟩
/-- ISC_HRX3, Table 11.10 (R273). -/
def ISC_HRX3.DATA (n : Nat) : Field := ⟨0x170005C + 0x1000000 * n, 16, 16, 0⟩
/-- ISC_PEER_LQ0, Table 11.10 (R273). -/
def ISC_PEER_LQ0.BER_LOG (n : Nat) : Field := ⟨0x1700060 + 0x1000000 * n, 16, 16, 0x8000⟩
def ISC_PEER_LQ0.SNR (n : Nat) : Field := ⟨0x1700060 + 0x1000000 * n, 0, 16, 0xFFFF⟩
/-- ISC_PEER_LQ1, Table 11.10 (R273). -/
def ISC_PEER_LQ1.RXPWR (n : Nat) : Field := ⟨0x1700064 + 0x1000000 * n, 16, 16, 0x8000⟩
def ISC_PEER_LQ1.MARGIN (n : Nat) : Field := ⟨0x1700064 + 0x1000000 * n, 0, 16, 0x8000⟩
/-- ISC_PEER_LQ2, Table 11.10 (R273). -/
def ISC_PEER_LQ2.UNC (n : Nat) : Field := ⟨0x1700068 + 0x1000000 * n, 0, 32, 0⟩
/-- ISC_PEER_LQ3, Table 11.10 (R273). -/
def ISC_PEER_LQ3.LQSEQ (n : Nat) : Field := ⟨0x170006C + 0x1000000 * n, 16, 16, 0⟩
def ISC_PEER_LQ3.AGE (n : Nat) : Field := ⟨0x170006C + 0x1000000 * n, 0, 16, 0xFFFF⟩

/-- Host-access rows of the ISC block. -/
def regsIsc : List Reg := [
  ⟨0x1700000, [(4, 0x1000000)], 1, .plain, [⟨(ISC_CTRL.TEL_EN 0), .rw, .live, 2, .any⟩,
    ⟨(ISC_CTRL.RX_ANY 0), .rw, .live, 2, .any⟩,
    ⟨(ISC_CTRL.REP 0), .rw, .live, 2, .any⟩,
    ⟨(ISC_CTRL.TX_EN 0), .rw, .live, 3, .any⟩]⟩,
  ⟨0x1700004, [(4, 0x1000000)], 1, .plain, [⟨(ISC_CFG.RX_CODE 0), .rw, .static, 2, .any⟩,
    ⟨(ISC_CFG.TX_CODE 0), .rw, .static, 2, .any⟩]⟩,
  ⟨0x1700008, [(4, 0x1000000)], 1, .plain, [⟨(ISC_STATION.ID 0), .rw, .static, 2, .any⟩]⟩,
  ⟨0x170000C, [(4, 0x1000000)], 1, .plain, [⟨(ISC_PEER.ID 0), .ro, .live, 2, .any⟩]⟩,
  ⟨0x1700010, [(4, 0x1000000)], 1, .plain, [⟨(ISC_STAT.CODE_FOUND 0), .ro, .live, 2, .any⟩,
    ⟨(ISC_STAT.RX_REP 0), .ro, .live, 2, .any⟩,
    ⟨(ISC_STAT.COH 0), .ro, .live, 2, .any⟩,
    ⟨(ISC_STAT.ID_CLASH 0), .ro, .live, 2, .any⟩,
    ⟨(ISC_STAT.LOOPBACK 0), .ro, .live, 2, .any⟩,
    ⟨(ISC_STAT.LOOP_EV 0), .w1c, .live, 2, .any⟩,
    ⟨(ISC_STAT.HRX_EV 0), .w1c, .live, 2, .any⟩,
    ⟨(ISC_STAT.ABS_EV 0), .w1c, .live, 2, .any⟩,
    ⟨(ISC_STAT.PRES_EV 0), .w1c, .live, 2, .any⟩,
    ⟨(ISC_STAT.MISSED 0), .ro, .live, 2, .any⟩,
    ⟨(ISC_STAT.PEER 0), .ro, .live, 2, .any⟩,
    ⟨(ISC_STAT.CHIP 0), .ro, .live, 2, .any⟩]⟩,
  ⟨0x1700014, [(4, 0x1000000)], 1, .plain, [⟨(ISC_FOFS.QUAL 0), .ro, .live, 2, .any⟩,
    ⟨(ISC_FOFS.FOFS 0), .ro, .live, 2, .any⟩]⟩,
  ⟨0x1700018, [(4, 0x1000000)], 1, .plain, [⟨(ISC_CNT_RX.CRC 0), .rc, .live, 2, .any⟩,
    ⟨(ISC_CNT_RX.GOOD 0), .rc, .live, 2, .any⟩]⟩,
  ⟨0x170001C, [(4, 0x1000000)], 1, .plain, [⟨(ISC_CNT_EV.ABSENT 0), .rc, .live, 2, .any⟩,
    ⟨(ISC_CNT_EV.LOCKLOSS 0), .rc, .live, 2, .any⟩,
    ⟨(ISC_CNT_EV.LOST 0), .rc, .live, 2, .any⟩]⟩,
  ⟨0x1700020, [(4, 0x1000000)], 1, .plain, [⟨(ISC_CNT_TX.SENT 0), .rc, .live, 2, .any⟩]⟩,
  ⟨0x1700030, [(4, 0x1000000)], 1, .plain, [⟨(ISC_HCMD.SEND 0), .wo, .live, 2, .any⟩]⟩,
  ⟨0x1700034, [(4, 0x1000000)], 1, .plain, [⟨(ISC_HSTAT.HRX_OVR 0), .w1c, .live, 2, .any⟩,
    ⟨(ISC_HSTAT.HRX_FULL 0), .ro, .live, 2, .any⟩,
    ⟨(ISC_HSTAT.HTX_BUSY 0), .ro, .live, 2, .any⟩]⟩,
  ⟨0x1700040, [(4, 0x1000000), (3, 4)], 1, .plain, [⟨(ISC_HTX.DATA 0 0), .rw, .live, 2, .any⟩]⟩,
  ⟨0x170004C, [(4, 0x1000000)], 1, .plain, [⟨(ISC_HTX3.DATA 0), .rw, .live, 2, .any⟩]⟩,
  ⟨0x1700050, [(4, 0x1000000), (3, 4)], 1, .plain, [⟨(ISC_HRX.DATA 0 0), .ro, .live, 2, .any⟩]⟩,
  ⟨0x170005C, [(4, 0x1000000)], 1, .plain, [⟨(ISC_HRX3.DATA 0), .ro, .live, 2, .any⟩]⟩,
  ⟨0x1700060, [(4, 0x1000000)], 1, .plain, [⟨(ISC_PEER_LQ0.BER_LOG 0), .ro, .live, 2, .any⟩,
    ⟨(ISC_PEER_LQ0.SNR 0), .ro, .live, 2, .any⟩]⟩,
  ⟨0x1700064, [(4, 0x1000000)], 1, .plain, [⟨(ISC_PEER_LQ1.RXPWR 0), .ro, .live, 2, .any⟩,
    ⟨(ISC_PEER_LQ1.MARGIN 0), .ro, .live, 2, .any⟩]⟩,
  ⟨0x1700068, [(4, 0x1000000)], 1, .plain, [⟨(ISC_PEER_LQ2.UNC 0), .ro, .live, 2, .any⟩]⟩,
  ⟨0x170006C, [(4, 0x1000000)], 1, .plain, [⟨(ISC_PEER_LQ3.LQSEQ 0), .ro, .live, 2, .any⟩,
    ⟨(ISC_PEER_LQ3.AGE 0), .ro, .live, 2, .any⟩]⟩]

/-- MON_CTRL, Table 13.7 (R322). -/
def MON_CTRL.DCK (b : Nat) : Field := ⟨monBase b, 8, 5, 8⟩
def MON_CTRL.CS (b : Nat) : Field := ⟨monBase b, 4, 2, 1⟩
def MON_CTRL.PRESET (b : Nat) : Field := ⟨monBase b, 0, 2, 1⟩
/-- MON_STAT, Table 13.7 (R322). -/
def MON_STAT.SEQ (b : Nat) : Field := ⟨4 + monBase b, 16, 16, 0⟩
def MON_STAT.OSC (b : Nat) : Field := ⟨4 + monBase b, 8, 1, 0⟩
def MON_STAT.CLK_LOSS (b : Nat) : Field := ⟨4 + monBase b, 7, 1, 0⟩
def MON_STAT.CLK_EV (b : Nat) : Field := ⟨4 + monBase b, 6, 1, 0⟩
def MON_STAT.XFADE (b : Nat) : Field := ⟨4 + monBase b, 5, 1, 0⟩
def MON_STAT.URG_PEND (b : Nat) : Field := ⟨4 + monBase b, 4, 1, 0⟩
def MON_STAT.OVR (b : Nat) : Field := ⟨4 + monBase b, 3, 1, 0⟩
def MON_STAT.FULL (b : Nat) : Field := ⟨4 + monBase b, 2, 1, 0⟩
def MON_STAT.PRESET_ACT (b : Nat) : Field := ⟨4 + monBase b, 0, 2, 1⟩
/-- MON_RES, Table 13.7 (R322). -/
def MON_RES.URGENT (b : Nat) : Field := ⟨8 + monBase b, 31, 1, 0⟩
def MON_RES.UNSETTLED (b : Nat) : Field := ⟨8 + monBase b, 30, 1, 0⟩
def MON_RES.CLIP (b : Nat) : Field := ⟨8 + monBase b, 29, 1, 0⟩
def MON_RES.INPUT (b : Nat) : Field := ⟨8 + monBase b, 24, 5, 0⟩
def MON_RES.VALUE (b : Nat) : Field := ⟨8 + monBase b, 0, 24, 0⟩
/-- MON_URG, Table 13.7 (R322). -/
def MON_URG.GO (b : Nat) : Field := ⟨0xC + monBase b, 31, 1, 0⟩
def MON_URG.INPUT (b : Nat) : Field := ⟨0xC + monBase b, 0, 5, 0⟩
/-- MON_DLV, Table 13.7 (R322). -/
def MON_DLV.MASK (b : Nat) : Field := ⟨0x10 + monBase b, 0, 32, 0⟩
/-- MON_CNT, Table 13.7 (R322). -/
def MON_CNT.OVR (b : Nat) : Field := ⟨0x14 + monBase b, 0, 16, 0⟩
/-- MON_GAINw, Table 13.8 (R322). -/
def MON_GAIN.G (b w : Nat) : Field := ⟨0x18 + monBase b + 4 * w, 0, 32, 0⟩
/-- MON_SRC, Table 13.8 (R322). -/
def MON_SRC.SRC (b : Nat) : Field := ⟨0x20 + monBase b, 0, 24, 0⟩
/-- MON_DCB_EN, Table 13.8 (R322). -/
def MON_DCB_EN.EN (b : Nat) : Field := ⟨0x24 + monBase b, 0, 32, 0⟩
/-- MON_DCB_FRZ, Table 13.8 (R322). -/
def MON_DCB_FRZ.FRZ (b : Nat) : Field := ⟨0x28 + monBase b, 0, 32, 0⟩
/-- MON_COEF_SEL, Table 13.8 (R322). -/
def MON_COEF_SEL.SET (b : Nat) : Field := ⟨0x30 + monBase b, 4, 1, 0⟩
def MON_COEF_SEL.TAP (b : Nat) : Field := ⟨0x30 + monBase b, 0, 3, 0⟩
/-- MON_COEF_DATA, Table 13.8 (R322). -/
def MON_COEF_DATA.COEF (b i : Nat) : Field := ⟨0x10400000 + 0x1000 * b + 4 * i, 0, 18, 0⟩
/-- MON_LIM_LOk, Table 13.9 (R322). -/
def MON_LIM_LO.EN (b k : Nat) : Field := ⟨0x40 + monBase b + 8 * k, 31, 1, 0⟩
def MON_LIM_LO.INPUT (b k : Nat) : Field := ⟨0x40 + monBase b + 8 * k, 24, 5, 0⟩
def MON_LIM_LO.LO (b k : Nat) : Field := ⟨0x40 + monBase b + 8 * k, 0, 24, 0x800000⟩
/-- MON_LIM_HIk, Table 13.9 (R322). -/
def MON_LIM_HI.HI (b k : Nat) : Field := ⟨0x44 + monBase b + 8 * k, 0, 24, 0x7FFFFF⟩
/-- MON_LIM_STAT, Table 13.9 (R322). -/
def MON_LIM_STAT.ACT (b : Nat) : Field := ⟨0x80 + monBase b, 8, 8, 0⟩
def MON_LIM_STAT.EV (b : Nat) : Field := ⟨0x80 + monBase b, 0, 8, 0⟩
/-- MON_BIAS_CTRL, Table 13.10 (R322). -/
def MON_BIAS_CTRL.DITH (b : Nat) : Field := ⟨0x100 + monBase b, 24, 8, 0x32⟩
def MON_BIAS_CTRL.GAIN (b : Nat) : Field := ⟨0x100 + monBase b, 16, 4, 4⟩
def MON_BIAS_CTRL.LOCK_THR (b : Nat) : Field := ⟨0x100 + monBase b, 1, 15, 0x40⟩
def MON_BIAS_CTRL.EN (b : Nat) : Field := ⟨0x100 + monBase b, 0, 1, 1⟩
/-- MON_BIAS_STAT, Table 13.10 (R322). -/
def MON_BIAS_STAT.SKIP (b : Nat) : Field := ⟨0x104 + monBase b, 16, 16, 0⟩
def MON_BIAS_STAT.LOSS_CAUSE (b : Nat) : Field := ⟨0x104 + monBase b, 12, 4, 0⟩
def MON_BIAS_STAT.LOSS_LOOP (b : Nat) : Field := ⟨0x104 + monBase b, 9, 3, 0⟩
def MON_BIAS_STAT.LOSS_EV (b : Nat) : Field := ⟨0x104 + monBase b, 8, 1, 0⟩
def MON_BIAS_STAT.STATE (b : Nat) : Field := ⟨0x104 + monBase b, 6, 2, 0⟩
def MON_BIAS_STAT.LOCK (b : Nat) : Field := ⟨0x104 + monBase b, 0, 6, 0⟩
/-- MON_BIAS_Bb, Table 13.10 (R322). -/
def MON_BIAS_B.V (b i : Nat) : Field := ⟨0x110 + monBase b + 4 * i, 16, 16, 0⟩
def MON_BIAS_B.ERR (b i : Nat) : Field := ⟨0x110 + monBase b + 4 * i, 0, 16, 0⟩
/-- MON_BIAS_Rl, Table 13.10 (R322). -/
def MON_BIAS_R.VPI (b l : Nat) : Field := ⟨0x130 + monBase b + 4 * l, 16, 16, 0⟩
def MON_BIAS_R.RATIO (b l : Nat) : Field := ⟨0x130 + monBase b + 4 * l, 0, 16, 0⟩

/-- Host-access rows of the MON block. -/
def regsMon (b : Nat) : List Reg := [
  ⟨monBase b + 0, [], 1, .plain, [⟨(MON_CTRL.DCK b), .rw, .live, 2, .rng 4 16⟩,
    ⟨(MON_CTRL.CS b), .rw, .live, 2, .any⟩,
    ⟨(MON_CTRL.PRESET b), .rw, .live, 2, .any⟩]⟩,
  ⟨monBase b + 4, [], 1, .plain, [⟨(MON_STAT.SEQ b), .ro, .live, 2, .any⟩,
    ⟨(MON_STAT.OSC b), .ro, .live, 2, .any⟩,
    ⟨(MON_STAT.CLK_LOSS b), .ro, .live, 2, .any⟩,
    ⟨(MON_STAT.CLK_EV b), .w1c, .live, 2, .any⟩,
    ⟨(MON_STAT.XFADE b), .ro, .live, 2, .any⟩,
    ⟨(MON_STAT.URG_PEND b), .ro, .live, 2, .any⟩,
    ⟨(MON_STAT.OVR b), .w1c, .live, 2, .any⟩,
    ⟨(MON_STAT.FULL b), .ro, .live, 2, .any⟩,
    ⟨(MON_STAT.PRESET_ACT b), .ro, .live, 2, .any⟩]⟩,
  ⟨monBase b + 8, [], 1, .plain, [⟨(MON_RES.URGENT b), .ro, .live, 2, .any⟩,
    ⟨(MON_RES.UNSETTLED b), .ro, .live, 2, .any⟩,
    ⟨(MON_RES.CLIP b), .ro, .live, 2, .any⟩,
    ⟨(MON_RES.INPUT b), .ro, .live, 2, .any⟩,
    ⟨(MON_RES.VALUE b), .ro, .live, 2, .any⟩]⟩,
  ⟨monBase b + 0xC, [], 1, .plain, [⟨(MON_URG.GO b), .wo, .live, 2, .any⟩,
    ⟨(MON_URG.INPUT b), .wo, .live, 2, .any⟩]⟩,
  ⟨monBase b + 0x10, [], 1, .plain, [⟨(MON_DLV.MASK b), .rw, .live, 2, .any⟩]⟩,
  ⟨monBase b + 0x14, [], 1, .plain, [⟨(MON_CNT.OVR b), .rc, .live, 2, .any⟩]⟩,
  ⟨monBase b + 0x18, [(2, 4)], 1, .plain, [⟨(MON_GAIN.G b 0), .rw, .live, 2, .any⟩]⟩,
  ⟨monBase b + 0x20, [], 1, .plain, [⟨(MON_SRC.SRC b), .rw, .live, 2, .any⟩]⟩,
  ⟨monBase b + 0x24, [], 1, .plain, [⟨(MON_DCB_EN.EN b), .rw, .live, 2, .any⟩]⟩,
  ⟨monBase b + 0x28, [], 1, .plain, [⟨(MON_DCB_FRZ.FRZ b), .rw, .live, 2, .any⟩]⟩,
  ⟨monBase b + 0x30, [], 1, .plain, [⟨(MON_COEF_SEL.SET b), .rw, .live, 2, .any⟩,
    ⟨(MON_COEF_SEL.TAP b), .rw, .live, 2, .rng 0 4⟩]⟩,
  ⟨monBase b + 0x34, [], 1, .coef, [⟨(MON_COEF_DATA.COEF b 0), .rw, .live, 2, .any⟩]⟩,
  ⟨monBase b + 0x40, [(8, 8)], 1, .plain, [⟨(MON_LIM_LO.EN b 0), .rw, .live, 2, .any⟩,
    ⟨(MON_LIM_LO.INPUT b 0), .rw, .live, 2, .any⟩,
    ⟨(MON_LIM_LO.LO b 0), .rw, .live, 2, .any⟩]⟩,
  ⟨monBase b + 0x44, [(8, 8)], 1, .plain, [⟨(MON_LIM_HI.HI b 0), .rw, .live, 2, .any⟩]⟩,
  ⟨monBase b + 0x80, [], 1, .plain, [⟨(MON_LIM_STAT.ACT b), .ro, .live, 2, .any⟩,
    ⟨(MON_LIM_STAT.EV b), .w1c, .live, 2, .any⟩]⟩,
  ⟨monBase b + 0x100, [], 1, .plain, [⟨(MON_BIAS_CTRL.DITH b), .rw, .live, 3, .rng 10 200⟩,
    ⟨(MON_BIAS_CTRL.GAIN b), .rw, .live, 3, .rng 1 12⟩,
    ⟨(MON_BIAS_CTRL.LOCK_THR b), .rw, .live, 3, .rng 8 4096⟩,
    ⟨(MON_BIAS_CTRL.EN b), .rw, .live, 3, .any⟩]⟩,
  ⟨monBase b + 0x104, [], 1, .plain, [⟨(MON_BIAS_STAT.SKIP b), .rc, .live, 2, .any⟩,
    ⟨(MON_BIAS_STAT.LOSS_CAUSE b), .ro, .live, 2, .any⟩,
    ⟨(MON_BIAS_STAT.LOSS_LOOP b), .ro, .live, 2, .any⟩,
    ⟨(MON_BIAS_STAT.LOSS_EV b), .w1c, .live, 2, .any⟩,
    ⟨(MON_BIAS_STAT.STATE b), .ro, .live, 2, .any⟩,
    ⟨(MON_BIAS_STAT.LOCK b), .ro, .live, 2, .any⟩]⟩,
  ⟨monBase b + 0x110, [(6, 4)], 1, .plain, [⟨(MON_BIAS_B.V b 0), .ro, .live, 2, .any⟩,
    ⟨(MON_BIAS_B.ERR b 0), .ro, .live, 2, .any⟩]⟩,
  ⟨monBase b + 0x130, [(4, 4)], 1, .plain, [⟨(MON_BIAS_R.VPI b 0), .ro, .live, 2, .any⟩,
    ⟨(MON_BIAS_R.RATIO b 0), .ro, .live, 2, .any⟩]⟩]

/-- PMC_CH_CTRL, Table 16.8 (R384). -/
def PMC_CH_CTRL.RUN (b : Nat) : Field := ⟨pmcBase b, 0, 1, 1⟩
/-- PMC_CH_STAT, Table 16.8 (R384). -/
def PMC_CH_STAT.WRAP_EV (b : Nat) : Field := ⟨4 + pmcBase b, 1, 1, 0⟩
def PMC_CH_STAT.OVF_EV (b : Nat) : Field := ⟨4 + pmcBase b, 0, 1, 0⟩
/-- PMC_CH_SEL, Table 16.8 (R384). -/
def PMC_CH_SEL.COUNTER (b : Nat) : Field := ⟨8 + pmcBase b, 0, 9, 0⟩
/-- PMC_CH_CFG, Table 16.8 (R384). -/
def PMC_CH_CFG.THR (b i : Nat) : Field := ⟨0x10300000 + 0x10000 * b + 4 * i, 19, 13, 0⟩
def PMC_CH_CFG.FEN (b i : Nat) : Field := ⟨0x10300000 + 0x10000 * b + 4 * i, 18, 1, 0⟩
def PMC_CH_CFG.FILTER (b i : Nat) : Field := ⟨0x10300000 + 0x10000 * b + 4 * i, 6, 10, 0⟩
def PMC_CH_CFG.EVENT (b i : Nat) : Field := ⟨0x10300000 + 0x10000 * b + 4 * i, 0, 6, 0⟩
/-- PMC_CH_VAL_LO, Table 16.8 (R384). -/
def PMC_CH_VAL_LO.LO (b : Nat) : Field := ⟨0x10 + pmcBase b, 0, 32, 0⟩
/-- PMC_CH_VAL_HI, Table 16.8 (R384). -/
def PMC_CH_VAL_HI.STICKY (b : Nat) : Field := ⟨0x14 + pmcBase b, 31, 1, 0⟩
def PMC_CH_VAL_HI.HI (b : Nat) : Field := ⟨0x14 + pmcBase b, 0, 16, 0⟩

/-- Host-access rows of the PMC block. -/
def regsPmc (b : Nat) : List Reg := [
  ⟨pmcBase b + 0, [], 3, .plain, [⟨(PMC_CH_CTRL.RUN b), .rw, .live, 3, .any⟩]⟩,
  ⟨pmcBase b + 4, [], 3, .plain, [⟨(PMC_CH_STAT.WRAP_EV b), .w1c, .live, 3, .any⟩,
    ⟨(PMC_CH_STAT.OVF_EV b), .w1c, .live, 3, .any⟩]⟩,
  ⟨pmcBase b + 8, [], 3, .plain, [⟨(PMC_CH_SEL.COUNTER b), .rw, .live, 3, .any⟩]⟩,
  ⟨pmcBase b + 0xC, [], 3, .counter, [⟨(PMC_CH_CFG.THR b 0), .rw, .live, 3, .any⟩,
    ⟨(PMC_CH_CFG.FEN b 0), .rw, .live, 3, .any⟩,
    ⟨(PMC_CH_CFG.FILTER b 0), .rw, .live, 3, .any⟩,
    ⟨(PMC_CH_CFG.EVENT b 0), .rw, .live, 3, .any⟩]⟩,
  ⟨pmcBase b + 0x10, [], 3, .plain, [⟨(PMC_CH_VAL_LO.LO b), .rw, .live, 3, .any⟩]⟩,
  ⟨pmcBase b + 0x14, [], 3, .plain, [⟨(PMC_CH_VAL_HI.STICKY b), .w1c, .live, 3, .any⟩,
    ⟨(PMC_CH_VAL_HI.HI b), .rw, .live, 3, .any⟩]⟩]

end Sys2Proof.Machine
end

