-- ==== Sys2Proof/Machine/RegsGlobal.lean ====
section
/-! DEFINITION. The register fields of the device-global blocks DEV, FAB, SUP, IRQ, CAL, MEM, CST, MGT, from the field maps of the chapters of spec/
(the tables each comment names): word address in BAR0, lowest bit, width and reset value of each field, and the
rows by which a host access of a register word is judged.  Reserved fields are absent: they read 0 (R16). -/

namespace Sys2Proof.Machine

/-- DEV_MODE, Table 1.6 (R35, R36). -/
def DEV_MODE.CH_FENCED : Field := ⟨0x10, 20, 4, 0⟩
def DEV_MODE.CH_SERVICE : Field := ⟨0x10, 16, 4, 0⟩
def DEV_MODE.SUP_RESTART : Field := ⟨0x10, 8, 1, 0⟩
def DEV_MODE.MODE : Field := ⟨0x10, 0, 4, 1⟩
/-- DEV_RST_CMD, Table 20.10 (R462, R483 to R486). -/
def DEV_RST_CMD.GO : Field := ⟨0x40, 31, 1, 0⟩
def DEV_RST_CMD.CODE : Field := ⟨0x40, 0, 8, 0⟩
/-- DEV_RST_STAT, Table 20.10 (R462, R483 to R486). -/
def DEV_RST_STAT.CAUSE : Field := ⟨0x44, 28, 4, 0⟩
def DEV_RST_STAT.COUNT : Field := ⟨0x44, 0, 16, 0⟩
/-- DEV_BOOT_STAT, Table 20.10 (R462, R483 to R486). -/
def DEV_BOOT_STAT.STEP : Field := ⟨0x48, 28, 4, 0⟩
def DEV_BOOT_STAT.HOLD : Field := ⟨0x48, 20, 4, 0⟩
def DEV_BOOT_STAT.PLR_VALID : Field := ⟨0x48, 2, 1, 0⟩
def DEV_BOOT_STAT.CAST_STORED : Field := ⟨0x48, 1, 1, 0⟩
/-- DEV_PWR_STAT, Table 20.10 (R462, R483 to R486). -/
def DEV_PWR_STAT.RAIL_OK : Field := ⟨0x4C, 26, 6, 0⟩
def DEV_PWR_STAT.VKEEP_OK : Field := ⟨0x4C, 25, 1, 0⟩
def DEV_PWR_STAT.FAULT_SRC : Field := ⟨0x4C, 16, 4, 0⟩
def DEV_PWR_STAT.TSRC : Field := ⟨0x4C, 8, 2, 0⟩
def DEV_PWR_STAT.PLR_DONE : Field := ⟨0x4C, 3, 1, 0⟩
def DEV_PWR_STAT.WARN_ABORT : Field := ⟨0x4C, 2, 1, 0⟩
def DEV_PWR_STAT.WARN_EV : Field := ⟨0x4C, 1, 1, 0⟩
def DEV_PWR_STAT.WARN : Field := ⟨0x4C, 0, 1, 0⟩
/-- DEV_TIME_LO, Table 20.10 (R462, R483 to R486). -/
def DEV_TIME_LO.LO : Field := ⟨0x50, 0, 32, 0⟩
/-- DEV_TIME_HI, Table 20.10 (R462, R483 to R486). -/
def DEV_TIME_HI.HI : Field := ⟨0x54, 0, 32, 0⟩
/-- DEV_ID, Table 22.7 (R462, R483 to R486). -/
def DEV_ID.FAMILY : Field := ⟨0, 16, 16, 0x4A4B⟩
def DEV_ID.PART : Field := ⟨0, 0, 16, 0x3280⟩
/-- DEV_REV, Table 22.7 (R462, R483 to R486). -/
def DEV_REV.LETTER : Field := ⟨4, 4, 4, 0xB⟩
def DEV_REV.NUMBER : Field := ⟨4, 0, 4, 0⟩
/-- DEV_SERIAL_LO, Table 22.7 (R462, R483 to R486). -/
def DEV_SERIAL_LO.SN : Field := ⟨8, 0, 32, 0⟩
/-- DEV_SERIAL_HI, Table 22.7 (R462, R483 to R486). -/
def DEV_SERIAL_HI.SN : Field := ⟨0xC, 0, 32, 0⟩
/-- DEV_PARAM0, Table 22.8 (R462, R483 to R486). -/
def DEV_PARAM0.CHANNELS : Field := ⟨0x20, 24, 8, 4⟩
def DEV_PARAM0.TILES : Field := ⟨0x20, 16, 8, 0x60⟩
def DEV_PARAM0.FEC_ENG : Field := ⟨0x20, 8, 8, 0x18⟩
def DEV_PARAM0.PIPES : Field := ⟨0x20, 0, 8, 0x10⟩
/-- DEV_PARAM1, Table 22.8 (R462, R483 to R486). -/
def DEV_PARAM1.HOST_LANES : Field := ⟨0x24, 24, 8, 0x10⟩
def DEV_PARAM1.ITER_ENG : Field := ⟨0x24, 16, 8, 4⟩
def DEV_PARAM1.TENANTS : Field := ⟨0x24, 0, 16, 0x400⟩
/-- DEV_PARAM2, Table 22.8 (R462, R483 to R486). -/
def DEV_PARAM2.CW_FLIGHT : Field := ⟨0x28, 16, 16, 0x1000⟩
def DEV_PARAM2.KEY_SLOTS : Field := ⟨0x28, 0, 16, 0x2000⟩
/-- DEV_PARAM3, Table 22.8 (R462, R483 to R486). -/
def DEV_PARAM3.KEK_SLOTS : Field := ⟨0x2C, 24, 8, 0x40⟩
def DEV_PARAM3.BANKS : Field := ⟨0x2C, 16, 8, 0x40⟩
def DEV_PARAM3.BANK_SPARES : Field := ⟨0x2C, 8, 8, 4⟩
def DEV_PARAM3.PMC_GLOBAL : Field := ⟨0x2C, 0, 8, 0x40⟩
/-- DEV_PARAM4, Table 22.8 (R462, R483 to R486). -/
def DEV_PARAM4.CONV_ACTIVE : Field := ⟨0x30, 24, 8, 0x40⟩
def DEV_PARAM4.CONV_SPARES : Field := ⟨0x30, 16, 8, 4⟩
def DEV_PARAM4.MAXRS : Field := ⟨0x30, 0, 16, 0x84D0⟩
/-- DEV_PARAM5, Table 22.8 (R462, R483 to R486). -/
def DEV_PARAM5.IRQ_SOURCES : Field := ⟨0x34, 16, 16, 0x800⟩
def DEV_PARAM5.PMC_CHANNEL : Field := ⟨0x34, 0, 16, 0x180⟩
/-- DEV_GPIO, Table 22.9 (R462, R483 to R486). -/
def DEV_GPIO.LEVEL : Field := ⟨0x58, 0, 8, 0⟩
/-- DEV_PCI_ID, Table 22.9 (R462, R483 to R486). -/
def DEV_PCI_ID.DEVICE : Field := ⟨0x5C, 16, 16, 0x3280⟩
def DEV_PCI_ID.VENDOR : Field := ⟨0x5C, 0, 16, 0x1FD4⟩
/-- DEV_PCI_SUB, Table 22.9 (R462, R483 to R486). -/
def DEV_PCI_SUB.SUBSYS : Field := ⟨0x60, 16, 16, 1⟩
def DEV_PCI_SUB.SUBVEN : Field := ⟨0x60, 0, 16, 0x1FD4⟩

/-- Host-access rows of the DEV block. -/
def regsDev : List Reg := [
  ⟨0x10, [], 1, .plain, [⟨DEV_MODE.CH_FENCED, .ro, .live, 2, .any⟩,
    ⟨DEV_MODE.CH_SERVICE, .ro, .live, 2, .any⟩,
    ⟨DEV_MODE.SUP_RESTART, .ro, .live, 2, .any⟩,
    ⟨DEV_MODE.MODE, .ro, .live, 2, .any⟩]⟩,
  ⟨0x40, [], 1, .plain, [⟨DEV_RST_CMD.GO, .wo, .live, 3, .any⟩,
    ⟨DEV_RST_CMD.CODE, .wo, .live, 3, .any⟩]⟩,
  ⟨0x44, [], 1, .plain, [⟨DEV_RST_STAT.CAUSE, .ro, .live, 2, .any⟩,
    ⟨DEV_RST_STAT.COUNT, .ro, .live, 2, .any⟩]⟩,
  ⟨0x48, [], 1, .plain, [⟨DEV_BOOT_STAT.STEP, .ro, .live, 2, .any⟩,
    ⟨DEV_BOOT_STAT.HOLD, .ro, .live, 2, .any⟩,
    ⟨DEV_BOOT_STAT.PLR_VALID, .ro, .live, 2, .any⟩,
    ⟨DEV_BOOT_STAT.CAST_STORED, .ro, .live, 2, .any⟩]⟩,
  ⟨0x4C, [], 1, .plain, [⟨DEV_PWR_STAT.RAIL_OK, .ro, .live, 2, .any⟩,
    ⟨DEV_PWR_STAT.VKEEP_OK, .ro, .live, 2, .any⟩,
    ⟨DEV_PWR_STAT.FAULT_SRC, .ro, .live, 2, .any⟩,
    ⟨DEV_PWR_STAT.TSRC, .ro, .live, 2, .any⟩,
    ⟨DEV_PWR_STAT.PLR_DONE, .ro, .live, 2, .any⟩,
    ⟨DEV_PWR_STAT.WARN_ABORT, .w1c, .live, 2, .any⟩,
    ⟨DEV_PWR_STAT.WARN_EV, .w1c, .live, 2, .any⟩,
    ⟨DEV_PWR_STAT.WARN, .ro, .live, 2, .any⟩]⟩,
  ⟨0x50, [], 1, .plain, [⟨DEV_TIME_LO.LO, .ro, .live, 2, .any⟩]⟩,
  ⟨0x54, [], 1, .plain, [⟨DEV_TIME_HI.HI, .ro, .live, 2, .any⟩]⟩,
  ⟨0, [], 1, .plain, [⟨DEV_ID.FAMILY, .ro, .live, 2, .any⟩,
    ⟨DEV_ID.PART, .ro, .live, 2, .any⟩]⟩,
  ⟨4, [], 1, .plain, [⟨DEV_REV.LETTER, .ro, .live, 2, .any⟩,
    ⟨DEV_REV.NUMBER, .ro, .live, 2, .any⟩]⟩,
  ⟨8, [], 1, .plain, [⟨DEV_SERIAL_LO.SN, .ro, .live, 2, .any⟩]⟩,
  ⟨0xC, [], 1, .plain, [⟨DEV_SERIAL_HI.SN, .ro, .live, 2, .any⟩]⟩,
  ⟨0x20, [], 1, .plain, [⟨DEV_PARAM0.CHANNELS, .ro, .live, 2, .any⟩,
    ⟨DEV_PARAM0.TILES, .ro, .live, 2, .any⟩,
    ⟨DEV_PARAM0.FEC_ENG, .ro, .live, 2, .any⟩,
    ⟨DEV_PARAM0.PIPES, .ro, .live, 2, .any⟩]⟩,
  ⟨0x24, [], 1, .plain, [⟨DEV_PARAM1.HOST_LANES, .ro, .live, 2, .any⟩,
    ⟨DEV_PARAM1.ITER_ENG, .ro, .live, 2, .any⟩,
    ⟨DEV_PARAM1.TENANTS, .ro, .live, 2, .any⟩]⟩,
  ⟨0x28, [], 1, .plain, [⟨DEV_PARAM2.CW_FLIGHT, .ro, .live, 2, .any⟩,
    ⟨DEV_PARAM2.KEY_SLOTS, .ro, .live, 2, .any⟩]⟩,
  ⟨0x2C, [], 1, .plain, [⟨DEV_PARAM3.KEK_SLOTS, .ro, .live, 2, .any⟩,
    ⟨DEV_PARAM3.BANKS, .ro, .live, 2, .any⟩,
    ⟨DEV_PARAM3.BANK_SPARES, .ro, .live, 2, .any⟩,
    ⟨DEV_PARAM3.PMC_GLOBAL, .ro, .live, 2, .any⟩]⟩,
  ⟨0x30, [], 1, .plain, [⟨DEV_PARAM4.CONV_ACTIVE, .ro, .live, 2, .any⟩,
    ⟨DEV_PARAM4.CONV_SPARES, .ro, .live, 2, .any⟩,
    ⟨DEV_PARAM4.MAXRS, .ro, .live, 2, .any⟩]⟩,
  ⟨0x34, [], 1, .plain, [⟨DEV_PARAM5.IRQ_SOURCES, .ro, .live, 2, .any⟩,
    ⟨DEV_PARAM5.PMC_CHANNEL, .ro, .live, 2, .any⟩]⟩,
  ⟨0x58, [], 1, .plain, [⟨DEV_GPIO.LEVEL, .ro, .live, 2, .any⟩]⟩,
  ⟨0x5C, [], 1, .plain, [⟨DEV_PCI_ID.DEVICE, .ro, .live, 2, .any⟩,
    ⟨DEV_PCI_ID.VENDOR, .ro, .live, 2, .any⟩]⟩,
  ⟨0x60, [], 1, .plain, [⟨DEV_PCI_SUB.SUBSYS, .ro, .live, 2, .any⟩,
    ⟨DEV_PCI_SUB.SUBVEN, .ro, .live, 2, .any⟩]⟩]

/-- FAB_GOV_CTRL, Table 2.9 (R65). -/
def FAB_GOV_CTRL.PREBOOST : Field := ⟨0x10000, 16, 8, 0x32⟩
def FAB_GOV_CTRL.BUS : Field := ⟨0x10000, 2, 2, 0⟩
def FAB_GOV_CTRL.MODE : Field := ⟨0x10000, 0, 2, 0⟩
/-- FAB_VCORE_LIM, Table 2.10 (R65). -/
def FAB_VCORE_LIM.VMAX : Field := ⟨0x10008, 20, 10, 0x352⟩
def FAB_VCORE_LIM.VMIN : Field := ⟨0x10008, 10, 10, 0x226⟩
def FAB_VCORE_LIM.IDLE : Field := ⟨0x10008, 0, 10, 0x258⟩
/-- FAB_VCORE_FIX, Table 2.11 (R65). -/
def FAB_VCORE_FIX.FIXED : Field := ⟨0x1000C, 0, 10, 0x2D0⟩
/-- FAB_GOV_STAT, Table 2.12 (R65). -/
def FAB_GOV_STAT.VREQ : Field := ⟨0x10010, 20, 10, 0⟩
def FAB_GOV_STAT.LIMITING : Field := ⟨0x10010, 16, 4, 0⟩
def FAB_GOV_STAT.AT_VMAX : Field := ⟨0x10010, 8, 1, 0⟩
def FAB_GOV_STAT.FLOOR : Field := ⟨0x10010, 7, 1, 0⟩
def FAB_GOV_STAT.EMERG : Field := ⟨0x10010, 6, 1, 0⟩
def FAB_GOV_STAT.AVS_ERR : Field := ⟨0x10010, 5, 1, 0⟩
def FAB_GOV_STAT.MODE_ACT : Field := ⟨0x10010, 0, 2, 0⟩
/-- FAB_SLACK_Cn, Table 2.13 (R65). -/
def FAB_SLACK_C.MIN (c : Nat) : Field := ⟨0x10020 + 4 * c, 16, 16, 0xFFFF⟩
def FAB_SLACK_C.NOW (c : Nat) : Field := ⟨0x10020 + 4 * c, 0, 16, 0xFFFF⟩
/-- FAB_SNAP_REQ, Table 2.14 (R65). -/
def FAB_SNAP_REQ.CH : Field := ⟨0x10040, 0, 4, 0⟩
/-- FAB_SNAP_STAT, Table 2.15 (R65). -/
def FAB_SNAP_STAT.TIMEOUT : Field := ⟨0x10044, 24, 4, 0⟩
def FAB_SNAP_STAT.COLLIDE : Field := ⟨0x10044, 20, 4, 0⟩
def FAB_SNAP_STAT.DONE : Field := ⟨0x10044, 12, 4, 0⟩
def FAB_SNAP_STAT.BUSY : Field := ⟨0x10044, 0, 4, 0⟩
/-- FAB_COND, Table 2.16 (R65). -/
def FAB_COND.CH3 : Field := ⟨0x1004C, 24, 8, 0⟩
def FAB_COND.CH2 : Field := ⟨0x1004C, 16, 8, 0⟩
def FAB_COND.CH1 : Field := ⟨0x1004C, 8, 8, 0⟩
def FAB_COND.CH0 : Field := ⟨0x1004C, 0, 8, 0⟩
/-- FAB_PERT_CTRL, Table 2.17 (R65). -/
def FAB_PERT_CTRL.LINK : Field := ⟨0x10080, 16, 8, 0⟩
def FAB_PERT_CTRL.TYPE : Field := ⟨0x10080, 8, 4, 0⟩
def FAB_PERT_CTRL.CH : Field := ⟨0x10080, 4, 2, 0⟩
def FAB_PERT_CTRL.EN : Field := ⟨0x10080, 0, 1, 0⟩
/-- FAB_PERT_TIMING, Table 2.18 (R65). -/
def FAB_PERT_TIMING.EXTRA : Field := ⟨0x10084, 0, 8, 0⟩
/-- FAB_PERT_BP, Table 2.18 (R65). -/
def FAB_PERT_BP.PERIOD : Field := ⟨0x10088, 16, 16, 0⟩
def FAB_PERT_BP.HOLD : Field := ⟨0x10088, 0, 16, 0⟩
/-- FAB_PERT_DELAY, Table 2.19 (R65). -/
def FAB_PERT_DELAY.DELAY : Field := ⟨0x1008C, 0, 14, 0⟩
/-- FAB_PERT_LLR, Table 2.19 (R65). -/
def FAB_PERT_LLR.ESN0 : Field := ⟨0x10090, 0, 16, 0⟩

/-- Host-access rows of the FAB block. -/
def regsFab : List Reg := [
  ⟨0x10000, [], 1, .plain, [⟨FAB_GOV_CTRL.PREBOOST, .rw, .live, 2, .any⟩,
    ⟨FAB_GOV_CTRL.BUS, .rwl, .live, 2, .rng 0 1⟩,
    ⟨FAB_GOV_CTRL.MODE, .rw, .live, 2, .any⟩]⟩,
  ⟨0x10008, [], 1, .plain, [⟨FAB_VCORE_LIM.VMAX, .rw, .live, 2, .any⟩,
    ⟨FAB_VCORE_LIM.VMIN, .rw, .live, 2, .any⟩,
    ⟨FAB_VCORE_LIM.IDLE, .rw, .live, 2, .any⟩]⟩,
  ⟨0x1000C, [], 1, .plain, [⟨FAB_VCORE_FIX.FIXED, .rw, .live, 2, .any⟩]⟩,
  ⟨0x10010, [], 1, .plain, [⟨FAB_GOV_STAT.VREQ, .ro, .live, 2, .any⟩,
    ⟨FAB_GOV_STAT.LIMITING, .ro, .live, 2, .any⟩,
    ⟨FAB_GOV_STAT.AT_VMAX, .ro, .live, 2, .any⟩,
    ⟨FAB_GOV_STAT.FLOOR, .w1c, .live, 2, .any⟩,
    ⟨FAB_GOV_STAT.EMERG, .w1c, .live, 2, .any⟩,
    ⟨FAB_GOV_STAT.AVS_ERR, .w1c, .live, 2, .any⟩,
    ⟨FAB_GOV_STAT.MODE_ACT, .ro, .live, 2, .any⟩]⟩,
  ⟨0x10020, [(4, 4)], 1, .plain, [⟨(FAB_SLACK_C.MIN 0), .rc, .live, 2, .any⟩,
    ⟨(FAB_SLACK_C.NOW 0), .ro, .live, 2, .any⟩]⟩,
  ⟨0x10040, [], 3, .plain, [⟨FAB_SNAP_REQ.CH, .wo, .live, 3, .any⟩]⟩,
  ⟨0x10044, [], 1, .plain, [⟨FAB_SNAP_STAT.TIMEOUT, .w1c, .live, 2, .any⟩,
    ⟨FAB_SNAP_STAT.COLLIDE, .w1c, .live, 2, .any⟩,
    ⟨FAB_SNAP_STAT.DONE, .w1c, .live, 2, .any⟩,
    ⟨FAB_SNAP_STAT.BUSY, .ro, .live, 2, .any⟩]⟩,
  ⟨0x1004C, [], 3, .plain, [⟨FAB_COND.CH3, .ro, .live, 3, .any⟩,
    ⟨FAB_COND.CH2, .ro, .live, 3, .any⟩,
    ⟨FAB_COND.CH1, .ro, .live, 3, .any⟩,
    ⟨FAB_COND.CH0, .ro, .live, 3, .any⟩]⟩,
  ⟨0x10080, [], 3, .plain, [⟨FAB_PERT_CTRL.LINK, .rw, .live, 3, .any⟩,
    ⟨FAB_PERT_CTRL.TYPE, .rw, .live, 3, .any⟩,
    ⟨FAB_PERT_CTRL.CH, .rw, .live, 3, .any⟩,
    ⟨FAB_PERT_CTRL.EN, .rw, .live, 3, .any⟩]⟩,
  ⟨0x10084, [], 3, .plain, [⟨FAB_PERT_TIMING.EXTRA, .rw, .live, 3, .any⟩]⟩,
  ⟨0x10088, [], 3, .plain, [⟨FAB_PERT_BP.PERIOD, .rw, .live, 3, .any⟩,
    ⟨FAB_PERT_BP.HOLD, .rw, .live, 3, .any⟩]⟩,
  ⟨0x1008C, [], 3, .plain, [⟨FAB_PERT_DELAY.DELAY, .rw, .live, 3, .any⟩]⟩,
  ⟨0x10090, [], 3, .plain, [⟨FAB_PERT_LLR.ESN0, .rw, .live, 3, .any⟩]⟩]

/-- SUP_STAT, Table 15.12 (R362). -/
def SUP_STAT.FREEZE_CAUSE : Field := ⟨0x20000, 28, 4, 0⟩
def SUP_STAT.FROZEN : Field := ⟨0x20000, 27, 1, 0⟩
def SUP_STAT.LEADER : Field := ⟨0x20000, 24, 2, 3⟩
def SUP_STAT.FAILOVER_EV : Field := ⟨0x20000, 23, 1, 0⟩
def SUP_STAT.HANDBACK_EV : Field := ⟨0x20000, 22, 1, 0⟩
def SUP_STAT.FAIL_EV : Field := ⟨0x20000, 21, 1, 0⟩
def SUP_STAT.FREEZE_EV : Field := ⟨0x20000, 20, 1, 0⟩
def SUP_STAT.S2 : Field := ⟨0x20000, 8, 4, 0⟩
def SUP_STAT.S1 : Field := ⟨0x20000, 4, 4, 0⟩
def SUP_STAT.S0 : Field := ⟨0x20000, 0, 4, 0⟩
/-- SUP_FAIL_Ss, Table 15.12 (R362). -/
def SUP_FAIL_S.CAUSE (s : Nat) : Field := ⟨0x20010 + 4 * s, 28, 4, 0⟩
def SUP_FAIL_S.ATTEMPTS (s : Nat) : Field := ⟨0x20010 + 4 * s, 16, 8, 0⟩
def SUP_FAIL_S.COUNT (s : Nat) : Field := ⟨0x20010 + 4 * s, 0, 16, 0⟩
/-- SUP_ARB_STAT, Table 15.12 (R362). -/
def SUP_ARB_STAT.LAST_KIND : Field := ⟨0x20020, 20, 4, 0⟩
def SUP_ARB_STAT.SELFTEST_FAIL : Field := ⟨0x20020, 7, 1, 0⟩
def SUP_ARB_STAT.VOTE_OPEN : Field := ⟨0x20020, 6, 1, 0⟩
def SUP_ARB_STAT.LAST : Field := ⟨0x20020, 4, 2, 0⟩
/-- SUP_VOTE_CNT, Table 15.12 (R362). -/
def SUP_VOTE_CNT.REFUSED : Field := ⟨0x20024, 16, 16, 0⟩
def SUP_VOTE_CNT.APPROVED : Field := ⟨0x20024, 0, 16, 0⟩
/-- SUP_PROB, Table 15.12 (R362). -/
def SUP_PROB.AGREED : Field := ⟨0x20028, 0, 7, 0⟩
/-- SUP_CPLX_RST, Table 15.12 (R362). -/
def SUP_CPLX_RST.GO : Field := ⟨0x20030, 31, 1, 0⟩
def SUP_CPLX_RST.CODE : Field := ⟨0x20030, 0, 8, 0⟩
/-- SUP_CPLX_CNT, Table 15.12 (R362). -/
def SUP_CPLX_CNT.COUNT : Field := ⟨0x20034, 0, 16, 0⟩
/-- SUP_FW_STAT, Table 15.12 (R362). -/
def SUP_FW_STAT.RUN_SLOT : Field := ⟨0x20040, 31, 1, 0⟩
def SUP_FW_STAT.NEXT_SLOT : Field := ⟨0x20040, 30, 1, 0⟩
def SUP_FW_STAT.SVN_MIN : Field := ⟨0x20040, 24, 6, 0⟩
def SUP_FW_STAT.S1_VALID : Field := ⟨0x20040, 1, 1, 0⟩
def SUP_FW_STAT.S0_VALID : Field := ⟨0x20040, 0, 1, 0⟩
/-- SUP_FW_VER, Table 15.12 (R362). -/
def SUP_FW_VER.VERSION : Field := ⟨0x20044, 0, 32, 0⟩
/-- SUP_MBX_GEN, Table 15.13 (R362). -/
def SUP_MBX_GEN.GEN : Field := ⟨0x20100, 0, 8, 0⟩
/-- SUP_MBX_CMD_PI, Table 15.13 (R362). -/
def SUP_MBX_CMD_PI.PI : Field := ⟨0x20104, 0, 6, 0⟩
/-- SUP_MBX_CMD_CI, Table 15.13 (R362). -/
def SUP_MBX_CMD_CI.CI : Field := ⟨0x20108, 0, 6, 0⟩
/-- SUP_MBX_RSP_PI, Table 15.13 (R362). -/
def SUP_MBX_RSP_PI.PI : Field := ⟨0x2010C, 0, 6, 0⟩
/-- SUP_MBX_RSP_CI, Table 15.13 (R362). -/
def SUP_MBX_RSP_CI.CI : Field := ⟨0x20110, 0, 6, 0⟩
/-- SUP_MBX_STAT, Table 15.13 (R362). -/
def SUP_MBX_STAT.LOST : Field := ⟨0x20114, 24, 8, 0⟩
def SUP_MBX_STAT.OUTST : Field := ⟨0x20114, 8, 8, 0⟩
def SUP_MBX_STAT.SERVING : Field := ⟨0x20114, 4, 1, 0⟩
def SUP_MBX_STAT.RSP_EV : Field := ⟨0x20114, 3, 1, 0⟩
def SUP_MBX_STAT.STALE_EV : Field := ⟨0x20114, 1, 1, 0⟩
def SUP_MBX_STAT.ABORT_EV : Field := ⟨0x20114, 0, 1, 0⟩
/-- SUP_MBX_CNT, Table 15.13 (R362). -/
def SUP_MBX_CNT.STALE : Field := ⟨0x20118, 16, 16, 0⟩
def SUP_MBX_CNT.ABORTED : Field := ⟨0x20118, 0, 16, 0⟩

/-- Host-access rows of the SUP block. -/
def regsSup : List Reg := [
  ⟨0x20000, [], 1, .plain, [⟨SUP_STAT.FREEZE_CAUSE, .ro, .live, 2, .any⟩,
    ⟨SUP_STAT.FROZEN, .ro, .live, 2, .any⟩,
    ⟨SUP_STAT.LEADER, .ro, .live, 2, .any⟩,
    ⟨SUP_STAT.FAILOVER_EV, .w1c, .live, 2, .any⟩,
    ⟨SUP_STAT.HANDBACK_EV, .w1c, .live, 2, .any⟩,
    ⟨SUP_STAT.FAIL_EV, .w1c, .live, 2, .any⟩,
    ⟨SUP_STAT.FREEZE_EV, .w1c, .live, 2, .any⟩,
    ⟨SUP_STAT.S2, .ro, .live, 2, .any⟩,
    ⟨SUP_STAT.S1, .ro, .live, 2, .any⟩,
    ⟨SUP_STAT.S0, .ro, .live, 2, .any⟩]⟩,
  ⟨0x20010, [(3, 4)], 1, .plain, [⟨(SUP_FAIL_S.CAUSE 0), .ro, .live, 2, .any⟩,
    ⟨(SUP_FAIL_S.ATTEMPTS 0), .ro, .live, 2, .any⟩,
    ⟨(SUP_FAIL_S.COUNT 0), .rc, .live, 2, .any⟩]⟩,
  ⟨0x20020, [], 1, .plain, [⟨SUP_ARB_STAT.LAST_KIND, .ro, .live, 2, .any⟩,
    ⟨SUP_ARB_STAT.SELFTEST_FAIL, .ro, .live, 2, .any⟩,
    ⟨SUP_ARB_STAT.VOTE_OPEN, .ro, .live, 2, .any⟩,
    ⟨SUP_ARB_STAT.LAST, .ro, .live, 2, .any⟩]⟩,
  ⟨0x20024, [], 1, .plain, [⟨SUP_VOTE_CNT.REFUSED, .rc, .live, 2, .any⟩,
    ⟨SUP_VOTE_CNT.APPROVED, .rc, .live, 2, .any⟩]⟩,
  ⟨0x20028, [], 1, .plain, [⟨SUP_PROB.AGREED, .ro, .live, 2, .any⟩]⟩,
  ⟨0x20030, [], 1, .plain, [⟨SUP_CPLX_RST.GO, .wo, .live, 3, .any⟩,
    ⟨SUP_CPLX_RST.CODE, .wo, .live, 3, .any⟩]⟩,
  ⟨0x20034, [], 1, .plain, [⟨SUP_CPLX_CNT.COUNT, .rc, .live, 2, .any⟩]⟩,
  ⟨0x20040, [], 1, .plain, [⟨SUP_FW_STAT.RUN_SLOT, .ro, .live, 2, .any⟩,
    ⟨SUP_FW_STAT.NEXT_SLOT, .ro, .live, 2, .any⟩,
    ⟨SUP_FW_STAT.SVN_MIN, .ro, .live, 2, .any⟩,
    ⟨SUP_FW_STAT.S1_VALID, .ro, .live, 2, .any⟩,
    ⟨SUP_FW_STAT.S0_VALID, .ro, .live, 2, .any⟩]⟩,
  ⟨0x20044, [], 1, .plain, [⟨SUP_FW_VER.VERSION, .ro, .live, 2, .any⟩]⟩,
  ⟨0x20100, [], 1, .plain, [⟨SUP_MBX_GEN.GEN, .ro, .live, 2, .any⟩]⟩,
  ⟨0x20104, [], 1, .plain, [⟨SUP_MBX_CMD_PI.PI, .rw, .live, 1, .any⟩]⟩,
  ⟨0x20108, [], 1, .plain, [⟨SUP_MBX_CMD_CI.CI, .ro, .live, 2, .any⟩]⟩,
  ⟨0x2010C, [], 1, .plain, [⟨SUP_MBX_RSP_PI.PI, .ro, .live, 2, .any⟩]⟩,
  ⟨0x20110, [], 1, .plain, [⟨SUP_MBX_RSP_CI.CI, .rw, .live, 1, .any⟩]⟩,
  ⟨0x20114, [], 1, .plain, [⟨SUP_MBX_STAT.LOST, .ro, .live, 2, .any⟩,
    ⟨SUP_MBX_STAT.OUTST, .ro, .live, 2, .any⟩,
    ⟨SUP_MBX_STAT.SERVING, .ro, .live, 2, .any⟩,
    ⟨SUP_MBX_STAT.RSP_EV, .w1c, .live, 2, .any⟩,
    ⟨SUP_MBX_STAT.STALE_EV, .w1c, .live, 2, .any⟩,
    ⟨SUP_MBX_STAT.ABORT_EV, .w1c, .live, 2, .any⟩]⟩,
  ⟨0x20118, [], 1, .plain, [⟨SUP_MBX_CNT.STALE, .rc, .live, 2, .any⟩,
    ⟨SUP_MBX_CNT.ABORTED, .rc, .live, 2, .any⟩]⟩]

/-- IRQ_CTRL, Table 16.4 (R375). -/
def IRQ_CTRL.INTN_EN : Field := ⟨0x30000, 1, 1, 1⟩
def IRQ_CTRL.EN : Field := ⟨0x30000, 0, 1, 0⟩
/-- IRQ_STAT, Table 16.4 (R375). -/
def IRQ_STAT.FAULT : Field := ⟨0x30004, 3, 1, 0⟩
def IRQ_STAT.FAULT_EV : Field := ⟨0x30004, 2, 1, 0⟩
def IRQ_STAT.EOI_UNDER : Field := ⟨0x30004, 1, 1, 0⟩
/-- IRQ_LVL, Table 16.4 (R375). -/
def IRQ_LVL.ELIG : Field := ⟨0x30010, 0, 16, 0⟩
/-- IRQ_HSTK, Table 16.4 (R375). -/
def IRQ_HSTK.TOP : Field := ⟨0x30014, 28, 4, 0⟩
def IRQ_HSTK.DEPTH : Field := ⟨0x30014, 16, 5, 0⟩
def IRQ_HSTK.LEVELS : Field := ⟨0x30014, 0, 16, 0⟩
/-- IRQ_EOI, Table 16.4 (R375). -/
def IRQ_EOI.EOI : Field := ⟨0x30018, 0, 32, 0⟩
/-- IRQ_CNT, Table 16.4 (R375). -/
def IRQ_CNT.DLV : Field := ⟨0x30020, 16, 16, 0⟩
def IRQ_CNT.DAM : Field := ⟨0x30020, 0, 16, 0⟩
/-- IRQ_WSUM0, Table 16.4 (R375). -/
def IRQ_WSUM0.W : Field := ⟨0x30028, 0, 32, 0⟩
/-- IRQ_WSUM1, Table 16.4 (R375). -/
def IRQ_WSUM1.W : Field := ⟨0x3002C, 0, 32, 0⟩
/-- IRQ_SSTK_s, Table 16.4 (R375). -/
def IRQ_SSTK.W (s : Nat) : Field := ⟨0x30030 + 4 * s, 0, 32, 0⟩
/-- IRQ_CFG, Table 16.5 (R375). -/
def IRQ_CFG.ARRIVE (N : Nat) : Field := ⟨0x32000 + 4 * N, 24, 4, 0⟩
def IRQ_CFG.SPRIO (N : Nat) : Field := ⟨0x32000 + 4 * N, 12, 4, 0⟩
def IRQ_CFG.SROUTE (N : Nat) : Field := ⟨0x32000 + 4 * N, 9, 1, 0⟩
def IRQ_CFG.HROUTE (N : Nat) : Field := ⟨0x32000 + 4 * N, 8, 1, 0⟩
def IRQ_CFG.HPRIO (N : Nat) : Field := ⟨0x32000 + 4 * N, 0, 4, 0⟩
/-- IRQ_PEND_SET_w, IRQ_PEND_CLR_w, IRQ_MASK_SET_w, IRQ_MASK_CLR_w, Table 16.5 (R375).  They store nothing: a write acts on
the bits of IRQ_PEND and IRQ_MASK. -/
def IRQ_PEND_SET.SET (w : Nat) : Field := ⟨0x30500 + 4 * w, 0, 32, 0⟩
def IRQ_PEND_CLR.CLR (w : Nat) : Field := ⟨0x30600 + 4 * w, 0, 32, 0⟩
def IRQ_MASK_SET.SET (w : Nat) : Field := ⟨0x30800 + 4 * w, 0, 32, 0⟩
def IRQ_MASK_CLR.CLR (w : Nat) : Field := ⟨0x30900 + 4 * w, 0, 32, 0⟩
/-- IRQ_PEND_w and IRQ_MASK_w as words: only names of the 32 bits that a read returns. -/
def IRQ_PEND_W.PEND (w : Nat) : Field := ⟨0x40030400 + 4 * w, 0, 32, 0⟩
def IRQ_MASK_W.MASK (w : Nat) : Field := ⟨0x40030700 + 4 * w, 0, 32, 0⟩

/-- Host-access rows of the IRQ block. -/
def regsIrq : List Reg := [
  ⟨0x30000, [], 1, .plain, [⟨IRQ_CTRL.INTN_EN, .rw, .live, 2, .any⟩,
    ⟨IRQ_CTRL.EN, .rw, .live, 2, .any⟩]⟩,
  ⟨0x30004, [], 1, .plain, [⟨IRQ_STAT.FAULT, .ro, .live, 2, .any⟩,
    ⟨IRQ_STAT.FAULT_EV, .w1c, .live, 2, .any⟩,
    ⟨IRQ_STAT.EOI_UNDER, .w1c, .live, 2, .any⟩]⟩,
  ⟨0x30010, [], 1, .plain, [⟨IRQ_LVL.ELIG, .ro, .live, 2, .any⟩]⟩,
  ⟨0x30014, [], 1, .plain, [⟨IRQ_HSTK.TOP, .ro, .live, 2, .any⟩,
    ⟨IRQ_HSTK.DEPTH, .ro, .live, 2, .any⟩,
    ⟨IRQ_HSTK.LEVELS, .ro, .live, 2, .any⟩]⟩,
  ⟨0x30018, [], 1, .plain, [⟨IRQ_EOI.EOI, .wo, .live, 2, .any⟩]⟩,
  ⟨0x30020, [], 1, .plain, [⟨IRQ_CNT.DLV, .rc, .live, 2, .any⟩,
    ⟨IRQ_CNT.DAM, .rc, .live, 2, .any⟩]⟩,
  ⟨0x30028, [], 1, .plain, [⟨IRQ_WSUM0.W, .ro, .live, 2, .any⟩]⟩,
  ⟨0x3002C, [], 1, .plain, [⟨IRQ_WSUM1.W, .ro, .live, 2, .any⟩]⟩,
  ⟨0x30030, [(3, 4)], 1, .plain, [⟨(IRQ_SSTK.W 0), .ro, .live, 2, .any⟩]⟩,
  ⟨0x32000, [(2048, 4)], 1, .plain, [⟨(IRQ_CFG.ARRIVE 0), .ro, .live, 2, .any⟩,
    ⟨(IRQ_CFG.SPRIO 0), .ro, .live, 2, .any⟩,
    ⟨(IRQ_CFG.SROUTE 0), .ro, .live, 2, .any⟩,
    ⟨(IRQ_CFG.HROUTE 0), .rw, .live, 2, .any⟩,
    ⟨(IRQ_CFG.HPRIO 0), .rw, .live, 2, .any⟩]⟩,
  ⟨0x30400, [(64, 4)], 1, .plain, [⟨(IRQ_PEND_W.PEND 0), .ro, .live, 2, .any⟩]⟩,
  ⟨0x30500, [(64, 4)], 1, .plain, [⟨(IRQ_PEND_SET.SET 0), .wo, .live, 2, .any⟩]⟩,
  ⟨0x30600, [(64, 4)], 1, .plain, [⟨(IRQ_PEND_CLR.CLR 0), .wo, .live, 2, .any⟩]⟩,
  ⟨0x30700, [(64, 4)], 1, .plain, [⟨(IRQ_MASK_W.MASK 0), .ro, .live, 2, .any⟩]⟩,
  ⟨0x30800, [(64, 4)], 1, .plain, [⟨(IRQ_MASK_SET.SET 0), .wo, .live, 2, .any⟩]⟩,
  ⟨0x30900, [(64, 4)], 1, .plain, [⟨(IRQ_MASK_CLR.CLR 0), .wo, .live, 2, .any⟩]⟩]

/-- CAL_CMD, Table 14.8 (R340). -/
def CAL_CMD.GO : Field := ⟨0x50000, 31, 1, 0⟩
def CAL_CMD.IGN_STEP : Field := ⟨0x50000, 30, 1, 0⟩
def CAL_CMD.TYPE : Field := ⟨0x50000, 16, 4, 0⟩
def CAL_CMD.SRC : Field := ⟨0x50000, 12, 2, 0⟩
def CAL_CMD.SCOPE : Field := ⟨0x50000, 0, 3, 0⟩
/-- CAL_RUN_STAT, Table 14.8 (R340). -/
def CAL_RUN_STAT.STATE : Field := ⟨0x50004, 28, 4, 0⟩
def CAL_RUN_STAT.CAUSE : Field := ⟨0x50004, 24, 4, 0⟩
def CAL_RUN_STAT.PAUSE : Field := ⟨0x50004, 20, 4, 0⟩
def CAL_RUN_STAT.SCOPE : Field := ⟨0x50004, 16, 3, 0⟩
def CAL_RUN_STAT.TYPE : Field := ⟨0x50004, 12, 4, 0⟩
def CAL_RUN_STAT.DONE_EV : Field := ⟨0x50004, 1, 1, 0⟩
def CAL_RUN_STAT.FAIL_EV : Field := ⟨0x50004, 0, 1, 0⟩
/-- CAL_PROG, Table 14.8 (R340). -/
def CAL_PROG.TOTAL : Field := ⟨0x50008, 16, 10, 0⟩
def CAL_PROG.NEXT : Field := ⟨0x50008, 0, 10, 0⟩
/-- CAL_FAIL, Table 14.8 (R340). -/
def CAL_FAIL.QTY : Field := ⟨0x5000C, 24, 8, 0⟩
def CAL_FAIL.INDEX : Field := ⟨0x5000C, 0, 16, 0⟩
/-- CAL_CTRL, Table 14.8 (R340). -/
def CAL_CTRL.PERMF : Field := ⟨0x50010, 0, 6, 8⟩
/-- CAL_POLICY, Table 14.8 (R340). -/
def CAL_POLICY.BOOT_FULL : Field := ⟨0x50014, 31, 1, 1⟩
def CAL_POLICY.TRACK_DT : Field := ⟨0x50014, 16, 8, 0xA⟩
def CAL_POLICY.TRACK_PER : Field := ⟨0x50014, 0, 16, 0x18⟩
/-- CAL_STORE, Table 14.8 (R340). -/
def CAL_STORE.STATE : Field := ⟨0x50018, 30, 2, 0⟩
def CAL_STORE.ERR_EV : Field := ⟨0x50018, 29, 1, 0⟩
def CAL_STORE.WRITES : Field := ⟨0x50018, 0, 24, 0⟩
/-- CAL_LOG_PTR, Table 14.8 (R340). -/
def CAL_LOG_PTR.WRAP : Field := ⟨0x5001C, 8, 1, 0⟩
def CAL_LOG_PTR.PTR : Field := ⟨0x5001C, 0, 8, 0⟩
/-- CAL_SEQ_Ss, Table 14.9 (R340). -/
def CAL_SEQ_S.SEQ (s : Nat) : Field := ⟨0x50040 + 0x10 * s, 0, 32, 0⟩
/-- CAL_CNT_Ss, Table 14.9 (R340). -/
def CAL_CNT_S.COUNT (s : Nat) : Field := ⟨0x50044 + 0x10 * s, 0, 32, 0⟩
/-- CAL_TIME_Ss, Table 14.9 (R340). -/
def CAL_TIME_S.RTC (s : Nat) : Field := ⟨0x50048 + 0x10 * s, 0, 32, 0⟩
/-- CAL_SSTAT_Ss, Table 14.9 (R340). -/
def CAL_SSTAT_S.TEMP (s : Nat) : Field := ⟨0x5004C + 0x10 * s, 22, 10, 0⟩
def CAL_SSTAT_S.INFORCE (s : Nat) : Field := ⟨0x5004C + 0x10 * s, 15, 1, 0⟩
def CAL_SSTAT_S.PARTIAL (s : Nat) : Field := ⟨0x5004C + 0x10 * s, 14, 1, 0⟩
def CAL_SSTAT_S.PEND_DARK (s : Nat) : Field := ⟨0x5004C + 0x10 * s, 13, 1, 0⟩
def CAL_SSTAT_S.UNSTORED (s : Nat) : Field := ⟨0x5004C + 0x10 * s, 12, 1, 0⟩
def CAL_SSTAT_S.FALLBACK (s : Nat) : Field := ⟨0x5004C + 0x10 * s, 11, 1, 0⟩
def CAL_SSTAT_S.VALID_F (s : Nat) : Field := ⟨0x5004C + 0x10 * s, 7, 1, 0⟩
def CAL_SSTAT_S.VALID_B (s : Nat) : Field := ⟨0x5004C + 0x10 * s, 6, 1, 0⟩
def CAL_SSTAT_S.VALID_A (s : Nat) : Field := ⟨0x5004C + 0x10 * s, 5, 1, 0⟩
def CAL_SSTAT_S.SRC (s : Nat) : Field := ⟨0x5004C + 0x10 * s, 0, 2, 0⟩

/-- Host-access rows of the CAL block. -/
def regsCal : List Reg := [
  ⟨0x50000, [], 1, .plain, [⟨CAL_CMD.GO, .wo, .live, 2, .any⟩,
    ⟨CAL_CMD.IGN_STEP, .wo, .live, 2, .any⟩,
    ⟨CAL_CMD.TYPE, .wo, .live, 2, .any⟩,
    ⟨CAL_CMD.SRC, .wo, .live, 2, .any⟩,
    ⟨CAL_CMD.SCOPE, .wo, .live, 2, .any⟩]⟩,
  ⟨0x50004, [], 1, .plain, [⟨CAL_RUN_STAT.STATE, .ro, .live, 2, .any⟩,
    ⟨CAL_RUN_STAT.CAUSE, .ro, .live, 2, .any⟩,
    ⟨CAL_RUN_STAT.PAUSE, .ro, .live, 2, .any⟩,
    ⟨CAL_RUN_STAT.SCOPE, .ro, .live, 2, .any⟩,
    ⟨CAL_RUN_STAT.TYPE, .ro, .live, 2, .any⟩,
    ⟨CAL_RUN_STAT.DONE_EV, .w1c, .live, 2, .any⟩,
    ⟨CAL_RUN_STAT.FAIL_EV, .w1c, .live, 2, .any⟩]⟩,
  ⟨0x50008, [], 1, .plain, [⟨CAL_PROG.TOTAL, .ro, .live, 2, .any⟩,
    ⟨CAL_PROG.NEXT, .ro, .live, 2, .any⟩]⟩,
  ⟨0x5000C, [], 1, .plain, [⟨CAL_FAIL.QTY, .ro, .live, 2, .any⟩,
    ⟨CAL_FAIL.INDEX, .ro, .live, 2, .any⟩]⟩,
  ⟨0x50010, [], 1, .plain, [⟨CAL_CTRL.PERMF, .rw, .live, 2, .rng 1 63⟩]⟩,
  ⟨0x50014, [], 1, .plain, [⟨CAL_POLICY.BOOT_FULL, .rwl, .live, 2, .any⟩,
    ⟨CAL_POLICY.TRACK_DT, .rwl, .live, 2, .any⟩,
    ⟨CAL_POLICY.TRACK_PER, .rwl, .live, 2, .any⟩]⟩,
  ⟨0x50018, [], 1, .plain, [⟨CAL_STORE.STATE, .ro, .live, 2, .any⟩,
    ⟨CAL_STORE.ERR_EV, .w1c, .live, 2, .any⟩,
    ⟨CAL_STORE.WRITES, .ro, .live, 2, .any⟩]⟩,
  ⟨0x5001C, [], 1, .plain, [⟨CAL_LOG_PTR.WRAP, .ro, .live, 2, .any⟩,
    ⟨CAL_LOG_PTR.PTR, .ro, .live, 2, .any⟩]⟩,
  ⟨0x50040, [(5, 0x10)], 1, .plain, [⟨(CAL_SEQ_S.SEQ 0), .ro, .live, 2, .any⟩]⟩,
  ⟨0x50044, [(5, 0x10)], 1, .plain, [⟨(CAL_CNT_S.COUNT 0), .ro, .live, 2, .any⟩]⟩,
  ⟨0x50048, [(5, 0x10)], 1, .plain, [⟨(CAL_TIME_S.RTC 0), .ro, .live, 2, .any⟩]⟩,
  ⟨0x5004C, [(5, 0x10)], 1, .plain, [⟨(CAL_SSTAT_S.TEMP 0), .ro, .live, 2, .any⟩,
    ⟨(CAL_SSTAT_S.INFORCE 0), .ro, .live, 2, .any⟩,
    ⟨(CAL_SSTAT_S.PARTIAL 0), .ro, .live, 2, .any⟩,
    ⟨(CAL_SSTAT_S.PEND_DARK 0), .ro, .live, 2, .any⟩,
    ⟨(CAL_SSTAT_S.UNSTORED 0), .ro, .live, 2, .any⟩,
    ⟨(CAL_SSTAT_S.FALLBACK 0), .ro, .live, 2, .any⟩,
    ⟨(CAL_SSTAT_S.VALID_F 0), .ro, .live, 2, .any⟩,
    ⟨(CAL_SSTAT_S.VALID_B 0), .ro, .live, 2, .any⟩,
    ⟨(CAL_SSTAT_S.VALID_A 0), .ro, .live, 2, .any⟩,
    ⟨(CAL_SSTAT_S.SRC 0), .ro, .live, 2, .any⟩]⟩]

/-- MEM_STAT, Table 17.7 (R397). -/
def MEM_STAT.BOOT_FAIL : Field := ⟨0x70000, 4, 1, 0⟩
def MEM_STAT.WBF_EV : Field := ⟨0x70000, 3, 1, 0⟩
def MEM_STAT.UNC_EV : Field := ⟨0x70000, 2, 1, 0⟩
def MEM_STAT.CORR_EV : Field := ⟨0x70000, 1, 1, 0⟩
/-- MEM_LOG_PTR, Table 17.7 (R397). -/
def MEM_LOG_PTR.WRAP : Field := ⟨0x70004, 10, 1, 0⟩
def MEM_LOG_PTR.PTR : Field := ⟨0x70004, 0, 10, 0⟩
/-- MEM_CNT, Table 17.7 (R397). -/
def MEM_CNT.UNC : Field := ⟨0x70008, 16, 16, 0⟩
def MEM_CNT.CORR : Field := ⟨0x70008, 0, 16, 0⟩
/-- MEM_SCRUB_CTRL, Table 17.7 (R397). -/
def MEM_SCRUB_CTRL.GO : Field := ⟨0x70010, 31, 1, 0⟩
def MEM_SCRUB_CTRL.RESUME : Field := ⟨0x70010, 30, 1, 0⟩
def MEM_SCRUB_CTRL.ABORT : Field := ⟨0x70010, 29, 1, 0⟩
def MEM_SCRUB_CTRL.PAUSE : Field := ⟨0x70010, 28, 1, 0⟩
def MEM_SCRUB_CTRL.RATE : Field := ⟨0x70010, 0, 6, 0x10⟩
/-- MEM_SCRUB_START, Table 17.7 (R397). -/
def MEM_SCRUB_START.MLA : Field := ⟨0x70014, 0, 23, 0⟩
/-- MEM_SCRUB_END, Table 17.7 (R397). -/
def MEM_SCRUB_END.MLA : Field := ⟨0x70018, 0, 23, 0x439FFF⟩
/-- MEM_SCRUB_STAT, Table 17.7 (R397). -/
def MEM_SCRUB_STAT.STATE : Field := ⟨0x7001C, 29, 3, 0⟩
def MEM_SCRUB_STAT.PAUSE : Field := ⟨0x7001C, 24, 4, 0⟩
def MEM_SCRUB_STAT.DONE_EV : Field := ⟨0x7001C, 0, 1, 0⟩
/-- MEM_SCRUB_NEXT, Table 17.7 (R397). -/
def MEM_SCRUB_NEXT.MLA : Field := ⟨0x70020, 0, 23, 0⟩
/-- MEM_RET_CTRL, Table 17.7 (R397). -/
def MEM_RET_CTRL.GO : Field := ⟨0x70030, 31, 1, 0⟩
def MEM_RET_CTRL.BANK : Field := ⟨0x70030, 8, 7, 0⟩
def MEM_RET_CTRL.SPARE : Field := ⟨0x70030, 0, 2, 0⟩
/-- MEM_RET_STAT, Table 17.7 (R397). -/
def MEM_RET_STAT.STATE : Field := ⟨0x70034, 29, 3, 0⟩
def MEM_RET_STAT.DONE_EV : Field := ⟨0x70034, 28, 1, 0⟩
def MEM_RET_STAT.FAIL_EV : Field := ⟨0x70034, 27, 1, 0⟩
def MEM_RET_STAT.CAUSE : Field := ⟨0x70034, 20, 4, 0⟩
def MEM_RET_STAT.NEXT : Field := ⟨0x70034, 0, 16, 0⟩
/-- MEM_MAP_b, Table 17.7 (R397). -/
def MEM_MAP.PHYS (b : Nat) : Field := ⟨0x70100 + 4 * b, 0, 7, b⟩
/-- MEM_SPARE_s, Table 17.7 (R397). -/
def MEM_SPARE.BANK (s : Nat) : Field := ⟨0x70200 + 4 * s, 8, 7, 0x7F⟩
def MEM_SPARE.STATE (s : Nat) : Field := ⟨0x70200 + 4 * s, 0, 3, 0⟩
/-- MEM_BCNT_p, Table 17.7 (R397). -/
def MEM_BCNT.CORR (p : Nat) : Field := ⟨0x70300 + 4 * p, 16, 16, 0⟩
def MEM_BCNT.UNC (p : Nat) : Field := ⟨0x70300 + 4 * p, 0, 16, 0⟩

/-- Host-access rows of the MEM block. -/
def regsMem : List Reg := [
  ⟨0x70000, [], 1, .plain, [⟨MEM_STAT.BOOT_FAIL, .ro, .live, 3, .any⟩,
    ⟨MEM_STAT.WBF_EV, .w1c, .live, 3, .any⟩,
    ⟨MEM_STAT.UNC_EV, .w1c, .live, 3, .any⟩,
    ⟨MEM_STAT.CORR_EV, .w1c, .live, 3, .any⟩]⟩,
  ⟨0x70004, [], 1, .plain, [⟨MEM_LOG_PTR.WRAP, .ro, .live, 3, .any⟩,
    ⟨MEM_LOG_PTR.PTR, .ro, .live, 3, .any⟩]⟩,
  ⟨0x70008, [], 1, .plain, [⟨MEM_CNT.UNC, .rc, .live, 3, .any⟩,
    ⟨MEM_CNT.CORR, .rc, .live, 3, .any⟩]⟩,
  ⟨0x70010, [], 1, .plain, [⟨MEM_SCRUB_CTRL.GO, .wo, .live, 3, .any⟩,
    ⟨MEM_SCRUB_CTRL.RESUME, .wo, .live, 3, .any⟩,
    ⟨MEM_SCRUB_CTRL.ABORT, .wo, .live, 3, .any⟩,
    ⟨MEM_SCRUB_CTRL.PAUSE, .wo, .live, 3, .any⟩,
    ⟨MEM_SCRUB_CTRL.RATE, .rw, .live, 3, .rng 1 64⟩]⟩,
  ⟨0x70014, [], 1, .plain, [⟨MEM_SCRUB_START.MLA, .rw, .live, 3, .any⟩]⟩,
  ⟨0x70018, [], 1, .plain, [⟨MEM_SCRUB_END.MLA, .rw, .live, 3, .any⟩]⟩,
  ⟨0x7001C, [], 1, .plain, [⟨MEM_SCRUB_STAT.STATE, .ro, .live, 3, .any⟩,
    ⟨MEM_SCRUB_STAT.PAUSE, .ro, .live, 3, .any⟩,
    ⟨MEM_SCRUB_STAT.DONE_EV, .w1c, .live, 3, .any⟩]⟩,
  ⟨0x70020, [], 1, .plain, [⟨MEM_SCRUB_NEXT.MLA, .ro, .live, 3, .any⟩]⟩,
  ⟨0x70030, [], 1, .plain, [⟨MEM_RET_CTRL.GO, .wo, .live, 3, .any⟩,
    ⟨MEM_RET_CTRL.BANK, .rw, .live, 3, .any⟩,
    ⟨MEM_RET_CTRL.SPARE, .rw, .live, 3, .any⟩]⟩,
  ⟨0x70034, [], 1, .plain, [⟨MEM_RET_STAT.STATE, .ro, .live, 3, .any⟩,
    ⟨MEM_RET_STAT.DONE_EV, .w1c, .live, 3, .any⟩,
    ⟨MEM_RET_STAT.FAIL_EV, .w1c, .live, 3, .any⟩,
    ⟨MEM_RET_STAT.CAUSE, .ro, .live, 3, .any⟩,
    ⟨MEM_RET_STAT.NEXT, .ro, .live, 3, .any⟩]⟩,
  ⟨0x70100, [(64, 4)], 1, .plain, [⟨(MEM_MAP.PHYS 0), .ro, .live, 3, .any⟩]⟩,
  ⟨0x70200, [(4, 4)], 1, .plain, [⟨(MEM_SPARE.BANK 0), .ro, .live, 3, .any⟩,
    ⟨(MEM_SPARE.STATE 0), .ro, .live, 3, .any⟩]⟩,
  ⟨0x70300, [(68, 4)], 1, .plain, [⟨(MEM_BCNT.CORR 0), .rc, .live, 3, .any⟩,
    ⟨(MEM_BCNT.UNC 0), .rc, .live, 3, .any⟩]⟩]

/-- CST_CMD, Table 18.10 (R420). -/
def CST_CMD.GO : Field := ⟨0x80000, 31, 1, 0⟩
def CST_CMD.RESUME : Field := ⟨0x80000, 30, 1, 0⟩
def CST_CMD.ABORT : Field := ⟨0x80000, 29, 1, 0⟩
def CST_CMD.PAUSE : Field := ⟨0x80000, 28, 1, 0⟩
def CST_CMD.OP : Field := ⟨0x80000, 16, 4, 0⟩
def CST_CMD.SRC : Field := ⟨0x80000, 8, 1, 0⟩
/-- CST_STAT, Table 18.10 (R420). -/
def CST_STAT.STATE : Field := ⟨0x80004, 28, 4, 0⟩
def CST_STAT.RESULT : Field := ⟨0x80004, 24, 4, 0⟩
def CST_STAT.PAUSE : Field := ⟨0x80004, 20, 4, 0⟩
def CST_STAT.FAULT : Field := ⟨0x80004, 7, 1, 0⟩
def CST_STAT.FAULT_EV : Field := ⟨0x80004, 6, 1, 0⟩
def CST_STAT.REFUSE_EV : Field := ⟨0x80004, 5, 1, 0⟩
def CST_STAT.DONE_EV : Field := ⟨0x80004, 4, 1, 0⟩
def CST_STAT.STORE_EV : Field := ⟨0x80004, 3, 1, 0⟩
/-- CST_ADDR_LO, Table 18.10 (R420). -/
def CST_ADDR_LO.LO : Field := ⟨0x80008, 0, 32, 0⟩
/-- CST_ADDR_HI, Table 18.10 (R420). -/
def CST_ADDR_HI.HI : Field := ⟨0x8000C, 0, 32, 0⟩
/-- CST_LEN, Table 18.10 (R420). -/
def CST_LEN.LEN : Field := ⟨0x80010, 0, 21, 0⟩
/-- CST_PROG, Table 18.10 (R420). -/
def CST_PROG.NEXT : Field := ⟨0x80014, 0, 20, 0⟩
/-- CST_TOTAL, Table 18.10 (R420). -/
def CST_TOTAL.TOTAL : Field := ⟨0x80018, 0, 20, 0⟩
/-- CST_INFO, Table 18.11 (R420). -/
def CST_INFO.AUTH_REQ : Field := ⟨0x8001C, 31, 1, 0⟩
def CST_INFO.LAST_AUTH : Field := ⟨0x8001C, 30, 1, 0⟩
def CST_INFO.MIXED : Field := ⟨0x8001C, 29, 1, 0⟩
def CST_INFO.STORE_VALID : Field := ⟨0x8001C, 28, 1, 0⟩
def CST_INFO.STORE_LEN : Field := ⟨0x8001C, 0, 21, 0⟩
/-- CST_CNT, Table 18.11 (R420). -/
def CST_CNT.APPLIED : Field := ⟨0x80020, 16, 16, 0⟩
def CST_CNT.REFUSED : Field := ⟨0x80020, 0, 16, 0⟩
/-- CST_DIGESTw, Table 18.11 (R420). -/
def CST_DIGEST.D (w : Nat) : Field := ⟨0x80040 + 4 * w, 0, 32, 0⟩
/-- CST_RMF_n, Table 18.11 (R420). -/
def CST_RMF.MFN (c : Nat) : Field := ⟨0x80060 + 4 * c, 0, 32, 0⟩

/-- Host-access rows of the CST block. -/
def regsCst : List Reg := [
  ⟨0x80000, [], 1, .plain, [⟨CST_CMD.GO, .wo, .live, 3, .any⟩,
    ⟨CST_CMD.RESUME, .wo, .live, 3, .any⟩,
    ⟨CST_CMD.ABORT, .wo, .live, 3, .any⟩,
    ⟨CST_CMD.PAUSE, .wo, .live, 3, .any⟩,
    ⟨CST_CMD.OP, .wo, .live, 3, .any⟩,
    ⟨CST_CMD.SRC, .wo, .live, 3, .any⟩]⟩,
  ⟨0x80004, [], 1, .plain, [⟨CST_STAT.STATE, .ro, .live, 3, .any⟩,
    ⟨CST_STAT.RESULT, .ro, .live, 3, .any⟩,
    ⟨CST_STAT.PAUSE, .ro, .live, 3, .any⟩,
    ⟨CST_STAT.FAULT, .ro, .live, 3, .any⟩,
    ⟨CST_STAT.FAULT_EV, .w1c, .live, 3, .any⟩,
    ⟨CST_STAT.REFUSE_EV, .w1c, .live, 3, .any⟩,
    ⟨CST_STAT.DONE_EV, .w1c, .live, 3, .any⟩,
    ⟨CST_STAT.STORE_EV, .w1c, .live, 3, .any⟩]⟩,
  ⟨0x80008, [], 1, .plain, [⟨CST_ADDR_LO.LO, .rw, .live, 3, .mult 4⟩]⟩,
  ⟨0x8000C, [], 1, .plain, [⟨CST_ADDR_HI.HI, .rw, .live, 3, .any⟩]⟩,
  ⟨0x80010, [], 1, .plain, [⟨CST_LEN.LEN, .rw, .live, 3, .rng 64 1048576⟩]⟩,
  ⟨0x80014, [], 1, .plain, [⟨CST_PROG.NEXT, .ro, .live, 3, .any⟩]⟩,
  ⟨0x80018, [], 1, .plain, [⟨CST_TOTAL.TOTAL, .ro, .live, 3, .any⟩]⟩,
  ⟨0x8001C, [], 1, .plain, [⟨CST_INFO.AUTH_REQ, .ro, .live, 3, .any⟩,
    ⟨CST_INFO.LAST_AUTH, .ro, .live, 3, .any⟩,
    ⟨CST_INFO.MIXED, .ro, .live, 3, .any⟩,
    ⟨CST_INFO.STORE_VALID, .ro, .live, 3, .any⟩,
    ⟨CST_INFO.STORE_LEN, .ro, .live, 3, .any⟩]⟩,
  ⟨0x80020, [], 1, .plain, [⟨CST_CNT.APPLIED, .rc, .live, 3, .any⟩,
    ⟨CST_CNT.REFUSED, .rc, .live, 3, .any⟩]⟩,
  ⟨0x80040, [(8, 4)], 1, .plain, [⟨(CST_DIGEST.D 0), .ro, .live, 3, .any⟩]⟩,
  ⟨0x80060, [(4, 4)], 1, .plain, [⟨(CST_RMF.MFN 0), .ro, .live, 3, .any⟩]⟩]

/-- MGT_STAT, Table 19.15 (R444). -/
def MGT_STAT.LINK_UP : Field := ⟨0x90000, 31, 1, 0⟩
def MGT_STAT.SPEED : Field := ⟨0x90000, 28, 3, 0⟩
def MGT_STAT.WIDTH : Field := ⟨0x90000, 25, 3, 0⟩
def MGT_STAT.BME : Field := ⟨0x90000, 24, 1, 0⟩
def MGT_STAT.DSTATE : Field := ⟨0x90000, 22, 2, 0⟩
def MGT_STAT.PWARN : Field := ⟨0x90000, 7, 1, 0⟩
def MGT_STAT.LINK_EV : Field := ⟨0x90000, 3, 1, 0⟩
def MGT_STAT.HOTRST_EV : Field := ⟨0x90000, 2, 1, 0⟩
def MGT_STAT.FLR_EV : Field := ⟨0x90000, 1, 1, 0⟩
/-- MGT_WINw, Table 19.15 (R444). -/
def MGT_WIN.PRIV (w : Nat) : Field := ⟨0x90010 + 4 * w, 0, 2, 3⟩
/-- MGT_REFUSE, Table 19.15 (R444). -/
def MGT_REFUSE.ADDR : Field := ⟨0x90040, 0, 28, 0⟩
/-- MGT_REFUSE_INFO, Table 19.15 (R444). -/
def MGT_REFUSE_INFO.COUNT : Field := ⟨0x90044, 16, 16, 0⟩
def MGT_REFUSE_INFO.RD : Field := ⟨0x90044, 12, 1, 0⟩
def MGT_REFUSE_INFO.WIN : Field := ⟨0x90044, 8, 3, 0⟩
def MGT_REFUSE_INFO.REASON : Field := ⟨0x90044, 0, 4, 0⟩
/-- MGT_RLOG_PTR, Table 19.15 (R444). -/
def MGT_RLOG_PTR.WRAP : Field := ⟨0x90048, 8, 1, 0⟩
def MGT_RLOG_PTR.PTR : Field := ⟨0x90048, 0, 8, 0⟩
/-- MGT_DMA_CTRL, Table 19.16 (R444). -/
def MGT_DMA_CTRL.RLX : Field := ⟨0x90050, 0, 1, 0⟩
/-- MGT_DMA_STAT, Table 19.16 (R444). -/
def MGT_DMA_STAT.OUTST : Field := ⟨0x90054, 16, 9, 0⟩
def MGT_DMA_STAT.ERR_EV : Field := ⟨0x90054, 1, 1, 0⟩
/-- MGT_DMA_CNT, Table 19.16 (R444). -/
def MGT_DMA_CNT.LATE : Field := ⟨0x90058, 16, 16, 0⟩
def MGT_DMA_CNT.ERR : Field := ⟨0x90058, 0, 16, 0⟩
/-- MGT_DQ_CTRL_q, Table 19.16 (R444). -/
def MGT_DQ_CTRL.VEC_EN (q : Nat) : Field := ⟨0x90100 + 0x20 * q, 1, 1, 0⟩
def MGT_DQ_CTRL.EN (q : Nat) : Field := ⟨0x90100 + 0x20 * q, 0, 1, 0⟩
/-- MGT_DQ_CMD_q, Table 19.16 (R444). -/
def MGT_DQ_CMD.RESUME (q : Nat) : Field := ⟨0x90104 + 0x20 * q, 31, 1, 0⟩
def MGT_DQ_CMD.SKIP (q : Nat) : Field := ⟨0x90104 + 0x20 * q, 30, 1, 0⟩
def MGT_DQ_CMD.ABORT (q : Nat) : Field := ⟨0x90104 + 0x20 * q, 29, 1, 0⟩
/-- MGT_DQ_PI_q, Table 19.16 (R444). -/
def MGT_DQ_PI.PI (q : Nat) : Field := ⟨0x90108 + 0x20 * q, 0, 8, 0⟩
/-- MGT_DQ_CI_q, Table 19.16 (R444). -/
def MGT_DQ_CI.CI (q : Nat) : Field := ⟨0x9010C + 0x20 * q, 0, 8, 0⟩
/-- MGT_DQ_STAT_q, Table 19.16 (R444). -/
def MGT_DQ_STAT.STATE (q : Nat) : Field := ⟨0x90110 + 0x20 * q, 29, 3, 0⟩
def MGT_DQ_STAT.DONE_EV (q : Nat) : Field := ⟨0x90110 + 0x20 * q, 28, 1, 0⟩
def MGT_DQ_STAT.FAULT_EV (q : Nat) : Field := ⟨0x90110 + 0x20 * q, 27, 1, 0⟩
def MGT_DQ_STAT.CAUSE (q : Nat) : Field := ⟨0x90110 + 0x20 * q, 20, 4, 0⟩
def MGT_DQ_STAT.ERRIDX (q : Nat) : Field := ⟨0x90110 + 0x20 * q, 16, 4, 0⟩
def MGT_DQ_STAT.DESC (q : Nat) : Field := ⟨0x90110 + 0x20 * q, 0, 8, 0⟩
/-- MGT_DQ_CNT_q, Table 19.16 (R444). -/
def MGT_DQ_CNT.FAULTS (q : Nat) : Field := ⟨0x90114 + 0x20 * q, 16, 16, 0⟩
def MGT_DQ_CNT.DONE (q : Nat) : Field := ⟨0x90114 + 0x20 * q, 0, 16, 0⟩
/-- SPI_STAT, Table 19.17 (R444). -/
def SPI_STAT.EDGES : Field := ⟨0x90200, 24, 8, 0⟩
def SPI_STAT.WORD : Field := ⟨0x90200, 16, 8, 0⟩
def SPI_STAT.ABORT : Field := ⟨0x90200, 7, 1, 0⟩
def SPI_STAT.HDR_ERR : Field := ⟨0x90200, 6, 1, 0⟩
def SPI_STAT.LAST_OK : Field := ⟨0x90200, 0, 1, 0⟩
/-- SPI_CNT, Table 19.17 (R444). -/
def SPI_CNT.ABORTS : Field := ⟨0x90204, 16, 16, 0⟩
def SPI_CNT.FRAMES : Field := ⟨0x90204, 0, 16, 0⟩

/-- Host-access rows of the MGT block. -/
def regsMgt : List Reg := [
  ⟨0x90000, [], 1, .plain, [⟨MGT_STAT.LINK_UP, .ro, .live, 2, .any⟩,
    ⟨MGT_STAT.SPEED, .ro, .live, 2, .any⟩,
    ⟨MGT_STAT.WIDTH, .ro, .live, 2, .any⟩,
    ⟨MGT_STAT.BME, .ro, .live, 2, .any⟩,
    ⟨MGT_STAT.DSTATE, .ro, .live, 2, .any⟩,
    ⟨MGT_STAT.PWARN, .ro, .live, 2, .any⟩,
    ⟨MGT_STAT.LINK_EV, .w1c, .live, 2, .any⟩,
    ⟨MGT_STAT.HOTRST_EV, .w1c, .live, 2, .any⟩,
    ⟨MGT_STAT.FLR_EV, .w1c, .live, 2, .any⟩]⟩,
  ⟨0x90010, [(7, 4)], 1, .plain, [⟨(MGT_WIN.PRIV 0), .rwl, .live, 3, .any⟩]⟩,
  ⟨0x90040, [], 1, .plain, [⟨MGT_REFUSE.ADDR, .ro, .live, 2, .any⟩]⟩,
  ⟨0x90044, [], 1, .plain, [⟨MGT_REFUSE_INFO.COUNT, .rc, .live, 2, .any⟩,
    ⟨MGT_REFUSE_INFO.RD, .ro, .live, 2, .any⟩,
    ⟨MGT_REFUSE_INFO.WIN, .ro, .live, 2, .any⟩,
    ⟨MGT_REFUSE_INFO.REASON, .ro, .live, 2, .any⟩]⟩,
  ⟨0x90048, [], 1, .plain, [⟨MGT_RLOG_PTR.WRAP, .ro, .live, 2, .any⟩,
    ⟨MGT_RLOG_PTR.PTR, .ro, .live, 2, .any⟩]⟩,
  ⟨0x90050, [], 1, .plain, [⟨MGT_DMA_CTRL.RLX, .rw, .live, 3, .any⟩]⟩,
  ⟨0x90054, [], 1, .plain, [⟨MGT_DMA_STAT.OUTST, .ro, .live, 2, .any⟩,
    ⟨MGT_DMA_STAT.ERR_EV, .w1c, .live, 2, .any⟩]⟩,
  ⟨0x90058, [], 1, .plain, [⟨MGT_DMA_CNT.LATE, .rc, .live, 2, .any⟩,
    ⟨MGT_DMA_CNT.ERR, .rc, .live, 2, .any⟩]⟩,
  ⟨0x90100, [(4, 0x20)], 1, .plain, [⟨(MGT_DQ_CTRL.VEC_EN 0), .rw, .live, 3, .any⟩,
    ⟨(MGT_DQ_CTRL.EN 0), .rw, .live, 3, .any⟩]⟩,
  ⟨0x90104, [(4, 0x20)], 1, .plain, [⟨(MGT_DQ_CMD.RESUME 0), .wo, .live, 3, .any⟩,
    ⟨(MGT_DQ_CMD.SKIP 0), .wo, .live, 3, .any⟩,
    ⟨(MGT_DQ_CMD.ABORT 0), .wo, .live, 3, .any⟩]⟩,
  ⟨0x90108, [(4, 0x20)], 1, .plain, [⟨(MGT_DQ_PI.PI 0), .rw, .live, 3, .any⟩]⟩,
  ⟨0x9010C, [(4, 0x20)], 1, .plain, [⟨(MGT_DQ_CI.CI 0), .ro, .live, 2, .any⟩]⟩,
  ⟨0x90110, [(4, 0x20)], 1, .plain, [⟨(MGT_DQ_STAT.STATE 0), .ro, .live, 2, .any⟩,
    ⟨(MGT_DQ_STAT.DONE_EV 0), .w1c, .live, 2, .any⟩,
    ⟨(MGT_DQ_STAT.FAULT_EV 0), .w1c, .live, 2, .any⟩,
    ⟨(MGT_DQ_STAT.CAUSE 0), .ro, .live, 2, .any⟩,
    ⟨(MGT_DQ_STAT.ERRIDX 0), .ro, .live, 2, .any⟩,
    ⟨(MGT_DQ_STAT.DESC 0), .ro, .live, 2, .any⟩]⟩,
  ⟨0x90114, [(4, 0x20)], 1, .plain, [⟨(MGT_DQ_CNT.FAULTS 0), .rc, .live, 2, .any⟩,
    ⟨(MGT_DQ_CNT.DONE 0), .rc, .live, 2, .any⟩]⟩,
  ⟨0x90200, [], 1, .plain, [⟨SPI_STAT.EDGES, .ro, .live, 2, .any⟩,
    ⟨SPI_STAT.WORD, .ro, .live, 2, .any⟩,
    ⟨SPI_STAT.ABORT, .w1c, .live, 2, .any⟩,
    ⟨SPI_STAT.HDR_ERR, .w1c, .live, 2, .any⟩,
    ⟨SPI_STAT.LAST_OK, .ro, .live, 2, .any⟩]⟩,
  ⟨0x90204, [], 1, .plain, [⟨SPI_CNT.ABORTS, .rc, .live, 2, .any⟩,
    ⟨SPI_CNT.FRAMES, .rc, .live, 2, .any⟩]⟩]

/-- PMC_SNAP_REQ, Table 16.8 (R384). -/
def PMC_SNAP_REQ.SCOPE : Field := ⟨0x40040, 0, 5, 0⟩
/-- PMC_SNAP_STAT, Table 16.8 (R384). -/
def PMC_SNAP_STAT.COLLIDE : Field := ⟨0x40044, 24, 5, 0⟩
def PMC_SNAP_STAT.DONE : Field := ⟨0x40044, 16, 5, 0⟩
def PMC_SNAP_STAT.BUSY : Field := ⟨0x40044, 0, 5, 0⟩

/-- Host-access rows of the PMCG block. -/
def regsPmcGlobal : List Reg := [
  ⟨0x40040, [], 3, .plain, [⟨PMC_SNAP_REQ.SCOPE, .wo, .live, 3, .any⟩]⟩,
  ⟨0x40044, [], 3, .plain, [⟨PMC_SNAP_STAT.COLLIDE, .w1c, .live, 3, .any⟩,
    ⟨PMC_SNAP_STAT.DONE, .w1c, .live, 3, .any⟩,
    ⟨PMC_SNAP_STAT.BUSY, .ro, .live, 3, .any⟩]⟩]

end Sys2Proof.Machine
end

