-- ==== Sys2Proof/Machine/RegsLine.lean ====
section
/-! DEFINITION. The register fields of the line-side channel blocks OPT, CNV, LDS, from the field maps of the chapters of spec/
(the tables each comment names): word address in BAR0, lowest bit, width and reset value of each field, and the
rows by which a host access of a register word is judged.  Reserved fields are absent: they read 0 (R16). -/

namespace Sys2Proof.Machine

/-- OPT_CMD, Table 4.9 (R105). -/
def OPT_CMD.DISABLE (n : Nat) : Field := ⟨0x1000000 + 0x1000000 * n, 1, 1, 0⟩
def OPT_CMD.ENABLE (n : Nat) : Field := ⟨0x1000000 + 0x1000000 * n, 0, 1, 0⟩
/-- OPT_STAT, Table 4.10 (R105). -/
def OPT_STAT.REFUSED (n : Nat) : Field := ⟨0x1000004 + 0x1000000 * n, 15, 1, 0⟩
def OPT_STAT.TUNE_FAIL (n : Nat) : Field := ⟨0x1000004 + 0x1000000 * n, 14, 1, 0⟩
def OPT_STAT.RAMP_DONE (n : Nat) : Field := ⟨0x1000004 + 0x1000000 * n, 13, 1, 0⟩
def OPT_STAT.ENA_PEND (n : Nat) : Field := ⟨0x1000004 + 0x1000000 * n, 12, 1, 0⟩
def OPT_STAT.OVERLOAD (n : Nat) : Field := ⟨0x1000004 + 0x1000000 * n, 9, 1, 0⟩
def OPT_STAT.LOS (n : Nat) : Field := ⟨0x1000004 + 0x1000000 * n, 8, 1, 0⟩
def OPT_STAT.ON_FREQ (n : Nat) : Field := ⟨0x1000004 + 0x1000000 * n, 4, 1, 0⟩
def OPT_STAT.PHASE (n : Nat) : Field := ⟨0x1000004 + 0x1000000 * n, 0, 3, 0⟩
/-- OPT_FREQ, Table 4.11 (R105). -/
def OPT_FREQ.N (n : Nat) : Field := ⟨0x1000008 + 0x1000000 * n, 0, 12, 0⟩
/-- OPT_TUNE_STAT, Table 4.12 (R105). -/
def OPT_TUNE_STAT.HELD (n : Nat) : Field := ⟨0x100000C + 0x1000000 * n, 20, 12, 0x800⟩
def OPT_TUNE_STAT.TIME (n : Nat) : Field := ⟨0x100000C + 0x1000000 * n, 0, 18, 0⟩
/-- OPT_TX_PWR, Table 4.13 (R105). -/
def OPT_TX_PWR.SET (n : Nat) : Field := ⟨0x1000010 + 0x1000000 * n, 0, 16, 0⟩
/-- OPT_TX_MON, Table 4.14 (R105). -/
def OPT_TX_MON.PWR (n : Nat) : Field := ⟨0x1000014 + 0x1000000 * n, 0, 16, 0x8000⟩
/-- OPT_RAMP, Table 4.15 (R105). -/
def OPT_RAMP.PROFILE (n : Nat) : Field := ⟨0x1000018 + 0x1000000 * n, 0, 3, 3⟩
/-- OPT_RX_PWR, Table 4.16 (R105). -/
def OPT_RX_PWR.MIN (n : Nat) : Field := ⟨0x1000020 + 0x1000000 * n, 16, 16, 0x8000⟩
def OPT_RX_PWR.NOW (n : Nat) : Field := ⟨0x1000020 + 0x1000000 * n, 0, 16, 0x8000⟩
/-- OPT_LOS_CFG, Table 4.17 (R105). -/
def OPT_LOS_CFG.HYST (n : Nat) : Field := ⟨0x1000024 + 0x1000000 * n, 16, 8, 0x14⟩
def OPT_LOS_CFG.THRESH (n : Nat) : Field := ⟨0x1000024 + 0x1000000 * n, 0, 16, 0xF704⟩
/-- OPT_AGC_STAT, Table 4.18 (R105). -/
def OPT_AGC_STAT.GAIN (n : Nat) : Field := ⟨0x1000028 + 0x1000000 * n, 16, 8, 0⟩
def OPT_AGC_STAT.OUT_WIN (n : Nat) : Field := ⟨0x1000028 + 0x1000000 * n, 3, 1, 0⟩
def OPT_AGC_STAT.UNFRZ_PEND (n : Nat) : Field := ⟨0x1000028 + 0x1000000 * n, 2, 1, 0⟩
def OPT_AGC_STAT.SETTLED (n : Nat) : Field := ⟨0x1000028 + 0x1000000 * n, 1, 1, 0⟩
def OPT_AGC_STAT.FROZEN (n : Nat) : Field := ⟨0x1000028 + 0x1000000 * n, 0, 1, 0⟩
/-- OPT_SAFE_CFG, Table 4.19 (R105). -/
def OPT_SAFE_CFG.DISC (n : Nat) : Field := ⟨0x1000030 + 0x1000000 * n, 0, 6, 0xA⟩
/-- OPT_SAFE_LAT, Table 4.19 (R105). -/
def OPT_SAFE_LAT.LAT (n : Nat) : Field := ⟨0x1000038 + 0x1000000 * n, 0, 16, 0⟩
/-- OPT_SAFE_STAT, Table 4.20 (R105). -/
def OPT_SAFE_STAT.SHUT_EV (n : Nat) : Field := ⟨0x1000034 + 0x1000000 * n, 7, 1, 0⟩
def OPT_SAFE_STAT.DISC (n : Nat) : Field := ⟨0x1000034 + 0x1000000 * n, 4, 1, 0⟩
def OPT_SAFE_STAT.DISC_RUN (n : Nat) : Field := ⟨0x1000034 + 0x1000000 * n, 3, 1, 0⟩
def OPT_SAFE_STAT.SHUT (n : Nat) : Field := ⟨0x1000034 + 0x1000000 * n, 2, 1, 0⟩
def OPT_SAFE_STAT.B_ACT (n : Nat) : Field := ⟨0x1000034 + 0x1000000 * n, 1, 1, 0⟩
def OPT_SAFE_STAT.A_ACT (n : Nat) : Field := ⟨0x1000034 + 0x1000000 * n, 0, 1, 0⟩
/-- OPT_CNT, Table 4.21 (R105). -/
def OPT_CNT.SAFE (n : Nat) : Field := ⟨0x100003C + 0x1000000 * n, 16, 16, 0⟩
def OPT_CNT.LOS (n : Nat) : Field := ⟨0x100003C + 0x1000000 * n, 0, 16, 0⟩
/-- OPT_FAULT, Table 4.21 (R105). -/
def OPT_FAULT.RX (n : Nat) : Field := ⟨0x1000040 + 0x1000000 * n, 6, 1, 0⟩
def OPT_FAULT.BIAS (n : Nat) : Field := ⟨0x1000040 + 0x1000000 * n, 5, 1, 0⟩
def OPT_FAULT.DRV (n : Nat) : Field := ⟨0x1000040 + 0x1000000 * n, 4, 1, 0⟩
def OPT_FAULT.SOA (n : Nat) : Field := ⟨0x1000040 + 0x1000000 * n, 3, 1, 0⟩
def OPT_FAULT.TEC (n : Nat) : Field := ⟨0x1000040 + 0x1000000 * n, 2, 1, 0⟩
def OPT_FAULT.LASER (n : Nat) : Field := ⟨0x1000040 + 0x1000000 * n, 1, 1, 0⟩
def OPT_FAULT.TUNE (n : Nat) : Field := ⟨0x1000040 + 0x1000000 * n, 0, 1, 0⟩

/-- Host-access rows of the OPT block. -/
def regsOpt : List Reg := [
  ⟨0x1000000, [(4, 0x1000000)], 1, .plain, [⟨(OPT_CMD.DISABLE 0), .wo, .live, 2, .any⟩,
    ⟨(OPT_CMD.ENABLE 0), .wo, .live, 2, .any⟩]⟩,
  ⟨0x1000004, [(4, 0x1000000)], 1, .plain, [⟨(OPT_STAT.REFUSED 0), .w1c, .live, 2, .any⟩,
    ⟨(OPT_STAT.TUNE_FAIL 0), .w1c, .live, 2, .any⟩,
    ⟨(OPT_STAT.RAMP_DONE 0), .w1c, .live, 2, .any⟩,
    ⟨(OPT_STAT.ENA_PEND 0), .ro, .live, 2, .any⟩,
    ⟨(OPT_STAT.OVERLOAD 0), .ro, .live, 2, .any⟩,
    ⟨(OPT_STAT.LOS 0), .ro, .live, 2, .any⟩,
    ⟨(OPT_STAT.ON_FREQ 0), .ro, .live, 2, .any⟩,
    ⟨(OPT_STAT.PHASE 0), .ro, .live, 2, .any⟩]⟩,
  ⟨0x1000008, [(4, 0x1000000)], 1, .plain, [⟨(OPT_FREQ.N 0), .rw, .live, 2, .any⟩]⟩,
  ⟨0x100000C, [(4, 0x1000000)], 1, .plain, [⟨(OPT_TUNE_STAT.HELD 0), .ro, .live, 2, .any⟩,
    ⟨(OPT_TUNE_STAT.TIME 0), .ro, .live, 2, .any⟩]⟩,
  ⟨0x1000010, [(4, 0x1000000)], 1, .plain, [⟨(OPT_TX_PWR.SET 0), .rw, .live, 2, .srng (-1000) 400⟩]⟩,
  ⟨0x1000014, [(4, 0x1000000)], 1, .plain, [⟨(OPT_TX_MON.PWR 0), .ro, .live, 2, .any⟩]⟩,
  ⟨0x1000018, [(4, 0x1000000)], 1, .plain, [⟨(OPT_RAMP.PROFILE 0), .rw, .live, 2, .any⟩]⟩,
  ⟨0x1000020, [(4, 0x1000000)], 1, .plain, [⟨(OPT_RX_PWR.MIN 0), .rc, .live, 2, .any⟩,
    ⟨(OPT_RX_PWR.NOW 0), .ro, .live, 2, .any⟩]⟩,
  ⟨0x1000024, [(4, 0x1000000)], 1, .plain, [⟨(OPT_LOS_CFG.HYST 0), .rw, .live, 2, .rng 5 50⟩,
    ⟨(OPT_LOS_CFG.THRESH 0), .rw, .live, 2, .srng (-3000) (-1800)⟩]⟩,
  ⟨0x1000028, [(4, 0x1000000)], 1, .plain, [⟨(OPT_AGC_STAT.GAIN 0), .ro, .live, 2, .any⟩,
    ⟨(OPT_AGC_STAT.OUT_WIN 0), .ro, .live, 2, .any⟩,
    ⟨(OPT_AGC_STAT.UNFRZ_PEND 0), .ro, .live, 2, .any⟩,
    ⟨(OPT_AGC_STAT.SETTLED 0), .ro, .live, 2, .any⟩,
    ⟨(OPT_AGC_STAT.FROZEN 0), .ro, .live, 2, .any⟩]⟩,
  ⟨0x1000030, [(4, 0x1000000)], 1, .plain, [⟨(OPT_SAFE_CFG.DISC 0), .rwl, .live, 3, .rng 2 50⟩]⟩,
  ⟨0x1000038, [(4, 0x1000000)], 1, .plain, [⟨(OPT_SAFE_LAT.LAT 0), .ro, .live, 2, .any⟩]⟩,
  ⟨0x1000034, [(4, 0x1000000)], 1, .plain, [⟨(OPT_SAFE_STAT.SHUT_EV 0), .w1c, .live, 2, .any⟩,
    ⟨(OPT_SAFE_STAT.DISC 0), .w1c, .live, 2, .any⟩,
    ⟨(OPT_SAFE_STAT.DISC_RUN 0), .ro, .live, 2, .any⟩,
    ⟨(OPT_SAFE_STAT.SHUT 0), .ro, .live, 2, .any⟩,
    ⟨(OPT_SAFE_STAT.B_ACT 0), .ro, .live, 2, .any⟩,
    ⟨(OPT_SAFE_STAT.A_ACT 0), .ro, .live, 2, .any⟩]⟩,
  ⟨0x100003C, [(4, 0x1000000)], 1, .plain, [⟨(OPT_CNT.SAFE 0), .rc, .live, 2, .any⟩,
    ⟨(OPT_CNT.LOS 0), .rc, .live, 2, .any⟩]⟩,
  ⟨0x1000040, [(4, 0x1000000)], 1, .plain, [⟨(OPT_FAULT.RX 0), .ro, .live, 2, .any⟩,
    ⟨(OPT_FAULT.BIAS 0), .ro, .live, 2, .any⟩,
    ⟨(OPT_FAULT.DRV 0), .ro, .live, 2, .any⟩,
    ⟨(OPT_FAULT.SOA 0), .ro, .live, 2, .any⟩,
    ⟨(OPT_FAULT.TEC 0), .ro, .live, 2, .any⟩,
    ⟨(OPT_FAULT.LASER 0), .ro, .live, 2, .any⟩,
    ⟨(OPT_FAULT.TUNE 0), .ro, .live, 2, .any⟩]⟩]

/-- CNV_STAT, Table 5.8 (R125). -/
def CNV_STAT.CLIP_HI (n : Nat) : Field := ⟨0x1100000 + 0x1000000 * n, 20, 4, 0⟩
def CNV_STAT.EXHAUST (n : Nat) : Field := ⟨0x1100000 + 0x1000000 * n, 11, 1, 0⟩
def CNV_STAT.SWAP_EV (n : Nat) : Field := ⟨0x1100000 + 0x1000000 * n, 10, 1, 0⟩
def CNV_STAT.SLC_EV (n : Nat) : Field := ⟨0x1100000 + 0x1000000 * n, 9, 1, 0⟩
def CNV_STAT.LOS_EV (n : Nat) : Field := ⟨0x1100000 + 0x1000000 * n, 8, 1, 0⟩
def CNV_STAT.FE_MISMATCH (n : Nat) : Field := ⟨0x1100000 + 0x1000000 * n, 5, 1, 0⟩
def CNV_STAT.LOS (n : Nat) : Field := ⟨0x1100000 + 0x1000000 * n, 4, 1, 0⟩
def CNV_STAT.SHADOW (n : Nat) : Field := ⟨0x1100000 + 0x1000000 * n, 3, 1, 0⟩
def CNV_STAT.REFLOSS (n : Nat) : Field := ⟨0x1100000 + 0x1000000 * n, 2, 1, 0⟩
def CNV_STAT.RX_LOL (n : Nat) : Field := ⟨0x1100000 + 0x1000000 * n, 1, 1, 0⟩
def CNV_STAT.TX_LOL (n : Nat) : Field := ⟨0x1100000 + 0x1000000 * n, 0, 1, 0⟩
/-- CNV_RATE, Table 5.9 (R125). -/
def CNV_RATE.TX_ACT (n : Nat) : Field := ⟨0x1100004 + 0x1000000 * n, 24, 8, 0x40⟩
def CNV_RATE.RX_ACT (n : Nat) : Field := ⟨0x1100004 + 0x1000000 * n, 16, 8, 0x40⟩
def CNV_RATE.MAXRS (n : Nat) : Field := ⟨0x1100004 + 0x1000000 * n, 0, 16, 0x84D0⟩
/-- CNV_SPARES, Table 5.10 (R125). -/
def CNV_SPARES.FREE (n : Nat) : Field := ⟨0x1100008 + 0x1000000 * n, 0, 24, 0x924924⟩
/-- CNV_LOOP_CTRL, Table 5.11 (R125). -/
def CNV_LOOP_CTRL.ADC_FRZ (n : Nat) : Field := ⟨0x1100010 + 0x1000000 * n, 4, 4, 0⟩
def CNV_LOOP_CTRL.DAC_FRZ (n : Nat) : Field := ⟨0x1100010 + 0x1000000 * n, 0, 4, 0⟩
/-- CNV_LOS_CFG, Table 5.12 (R125). -/
def CNV_LOS_CFG.HYST (n : Nat) : Field := ⟨0x1100014 + 0x1000000 * n, 8, 8, 0x14⟩
def CNV_LOS_CFG.THRESH (n : Nat) : Field := ⟨0x1100014 + 0x1000000 * n, 0, 8, 0x14⟩
/-- CNV_SLC_SEL, Table 5.13 (R125). -/
def CNV_SLC_SEL.CONV (n : Nat) : Field := ⟨0x1100020 + 0x1000000 * n, 8, 3, 0⟩
def CNV_SLC_SEL.SLICE (n : Nat) : Field := ⟨0x1100020 + 0x1000000 * n, 0, 7, 0⟩
/-- CNV_SLC_STAT, Table 5.14 (R125). -/
def CNV_SLC_STAT.CAUSE (n k : Nat) : Field := ⟨0x10200000 + 0x1000 * n + 4 * k, 28, 4, 0⟩
def CNV_SLC_STAT.POS (n k : Nat) : Field := ⟨0x10200000 + 0x1000 * n + 4 * k, 16, 6, slicePos k⟩
def CNV_SLC_STAT.DRIFT (n k : Nat) : Field := ⟨0x10200000 + 0x1000 * n + 4 * k, 8, 1, 0⟩
def CNV_SLC_STAT.STATE (n k : Nat) : Field := ⟨0x10200000 + 0x1000 * n + 4 * k, 0, 3, sliceInit k⟩
/-- CNV_SLC_COR0, Table 5.15 (R125). -/
def CNV_SLC_COR0.GAIN (n k : Nat) : Field := ⟨0x10210000 + 0x1000 * n + 4 * k, 22, 10, 0⟩
def CNV_SLC_COR0.OFFSET (n k : Nat) : Field := ⟨0x10210000 + 0x1000 * n + 4 * k, 13, 9, 0⟩
def CNV_SLC_COR0.SKEW (n k : Nat) : Field := ⟨0x10210000 + 0x1000 * n + 4 * k, 0, 9, 0⟩
/-- CNV_SLC_COR1, Table 5.15 (R125). -/
def CNV_SLC_COR1.BW (n k : Nat) : Field := ⟨0x10220000 + 0x1000 * n + 4 * k, 0, 8, 0⟩
/-- CNV_SLC_CMD, Table 5.15 (R125). -/
def CNV_SLC_CMD.FORCE (n : Nat) : Field := ⟨0x1100030 + 0x1000000 * n, 0, 1, 0⟩
/-- CNV_PLL_STAT, Table 5.16 (R125). -/
def CNV_PLL_STAT.RX_LOL_CNT (n : Nat) : Field := ⟨0x1100040 + 0x1000000 * n, 24, 8, 0⟩
def CNV_PLL_STAT.TX_LOL_CNT (n : Nat) : Field := ⟨0x1100040 + 0x1000000 * n, 16, 8, 0⟩
def CNV_PLL_STAT.RX_FAULT (n : Nat) : Field := ⟨0x1100040 + 0x1000000 * n, 3, 1, 0⟩
def CNV_PLL_STAT.TX_FAULT (n : Nat) : Field := ⟨0x1100040 + 0x1000000 * n, 2, 1, 0⟩
def CNV_PLL_STAT.RX_LOCK (n : Nat) : Field := ⟨0x1100040 + 0x1000000 * n, 1, 1, 0⟩
def CNV_PLL_STAT.TX_LOCK (n : Nat) : Field := ⟨0x1100040 + 0x1000000 * n, 0, 1, 0⟩
/-- CNV_CLIP_Aa, Table 5.16 (R125). -/
def CNV_CLIP_A.COUNT (n a : Nat) : Field := ⟨0x1100050 + 0x1000000 * n + 4 * a, 0, 32, 0⟩
/-- CNV_CNT, Table 5.16 (R125). -/
def CNV_CNT.RESPACE (n : Nat) : Field := ⟨0x1100060 + 0x1000000 * n, 16, 16, 0⟩
def CNV_CNT.SWAP (n : Nat) : Field := ⟨0x1100060 + 0x1000000 * n, 0, 16, 0⟩

/-- Host-access rows of the CNV block. -/
def regsCnv : List Reg := [
  ⟨0x1100000, [(4, 0x1000000)], 1, .plain, [⟨(CNV_STAT.CLIP_HI 0), .ro, .live, 2, .any⟩,
    ⟨(CNV_STAT.EXHAUST 0), .w1c, .live, 2, .any⟩,
    ⟨(CNV_STAT.SWAP_EV 0), .w1c, .live, 2, .any⟩,
    ⟨(CNV_STAT.SLC_EV 0), .w1c, .live, 2, .any⟩,
    ⟨(CNV_STAT.LOS_EV 0), .w1c, .live, 2, .any⟩,
    ⟨(CNV_STAT.FE_MISMATCH 0), .ro, .live, 2, .any⟩,
    ⟨(CNV_STAT.LOS 0), .ro, .live, 2, .any⟩,
    ⟨(CNV_STAT.SHADOW 0), .ro, .live, 2, .any⟩,
    ⟨(CNV_STAT.REFLOSS 0), .ro, .live, 2, .any⟩,
    ⟨(CNV_STAT.RX_LOL 0), .ro, .live, 2, .any⟩,
    ⟨(CNV_STAT.TX_LOL 0), .ro, .live, 2, .any⟩]⟩,
  ⟨0x1100004, [(4, 0x1000000)], 1, .plain, [⟨(CNV_RATE.TX_ACT 0), .ro, .live, 2, .any⟩,
    ⟨(CNV_RATE.RX_ACT 0), .ro, .live, 2, .any⟩,
    ⟨(CNV_RATE.MAXRS 0), .ro, .live, 2, .any⟩]⟩,
  ⟨0x1100008, [(4, 0x1000000)], 1, .plain, [⟨(CNV_SPARES.FREE 0), .ro, .live, 2, .any⟩]⟩,
  ⟨0x1100010, [(4, 0x1000000)], 1, .plain, [⟨(CNV_LOOP_CTRL.ADC_FRZ 0), .rw, .live, 2, .any⟩,
    ⟨(CNV_LOOP_CTRL.DAC_FRZ 0), .rw, .live, 2, .any⟩]⟩,
  ⟨0x1100014, [(4, 0x1000000)], 1, .plain, [⟨(CNV_LOS_CFG.HYST 0), .rw, .live, 2, .rng 5 100⟩,
    ⟨(CNV_LOS_CFG.THRESH 0), .rw, .live, 2, .rng 5 100⟩]⟩,
  ⟨0x1100020, [(4, 0x1000000)], 1, .plain, [⟨(CNV_SLC_SEL.CONV 0), .rw, .live, 2, .any⟩,
    ⟨(CNV_SLC_SEL.SLICE 0), .rw, .live, 2, .rng 0 67⟩]⟩,
  ⟨0x1100024, [(4, 0x1000000)], 1, .slice, [⟨(CNV_SLC_STAT.CAUSE 0 0), .ro, .live, 2, .any⟩,
    ⟨(CNV_SLC_STAT.POS 0 0), .ro, .live, 2, .any⟩,
    ⟨(CNV_SLC_STAT.DRIFT 0 0), .ro, .live, 2, .any⟩,
    ⟨(CNV_SLC_STAT.STATE 0 0), .ro, .live, 2, .any⟩]⟩,
  ⟨0x1100028, [(4, 0x1000000)], 1, .slice, [⟨(CNV_SLC_COR0.GAIN 0 0), .ro, .live, 2, .any⟩,
    ⟨(CNV_SLC_COR0.OFFSET 0 0), .ro, .live, 2, .any⟩,
    ⟨(CNV_SLC_COR0.SKEW 0 0), .ro, .live, 2, .any⟩]⟩,
  ⟨0x110002C, [(4, 0x1000000)], 1, .slice, [⟨(CNV_SLC_COR1.BW 0 0), .ro, .live, 2, .any⟩]⟩,
  ⟨0x1100030, [(4, 0x1000000)], 1, .plain, [⟨(CNV_SLC_CMD.FORCE 0), .wo, .live, 3, .any⟩]⟩,
  ⟨0x1100040, [(4, 0x1000000)], 1, .plain, [⟨(CNV_PLL_STAT.RX_LOL_CNT 0), .rc, .live, 2, .any⟩,
    ⟨(CNV_PLL_STAT.TX_LOL_CNT 0), .rc, .live, 2, .any⟩,
    ⟨(CNV_PLL_STAT.RX_FAULT 0), .ro, .live, 2, .any⟩,
    ⟨(CNV_PLL_STAT.TX_FAULT 0), .ro, .live, 2, .any⟩,
    ⟨(CNV_PLL_STAT.RX_LOCK 0), .ro, .live, 2, .any⟩,
    ⟨(CNV_PLL_STAT.TX_LOCK 0), .ro, .live, 2, .any⟩]⟩,
  ⟨0x1100050, [(4, 0x1000000), (4, 4)], 1, .plain, [⟨(CNV_CLIP_A.COUNT 0 0), .rc, .live, 2, .any⟩]⟩,
  ⟨0x1100060, [(4, 0x1000000)], 1, .plain, [⟨(CNV_CNT.RESPACE 0), .rc, .live, 2, .any⟩,
    ⟨(CNV_CNT.SWAP 0), .rc, .live, 2, .any⟩]⟩]

/-- LDS_CH_STATE, Table 1.8 (R39). -/
def LDS_CH_STATE.CAUSE (n : Nat) : Field := ⟨0x1200000 + 0x1000000 * n, 24, 4, 0⟩
def LDS_CH_STATE.MAXMODE (n : Nat) : Field := ⟨0x1200000 + 0x1000000 * n, 16, 8, 0⟩
def LDS_CH_STATE.CONVERGED (n : Nat) : Field := ⟨0x1200000 + 0x1000000 * n, 8, 1, 0⟩
def LDS_CH_STATE.STATE (n : Nat) : Field := ⟨0x1200000 + 0x1000000 * n, 0, 3, 0⟩
/-- LDS_LMODE, Table 3.8 (R84, R155, R178). -/
def LDS_LMODE.PROFILE (n : Nat) : Field := ⟨0x1200010 + 0x1000000 * n, 0, 2, 0⟩
/-- LDS_LMODE_STAT, Table 3.9 (R84, R155, R178). -/
def LDS_LMODE_STAT.NEG_FAIL (n : Nat) : Field := ⟨0x1200014 + 0x1000000 * n, 9, 1, 0⟩
def LDS_LMODE_STAT.ADOPTED (n : Nat) : Field := ⟨0x1200014 + 0x1000000 * n, 8, 1, 0⟩
def LDS_LMODE_STAT.DEFINED (n : Nat) : Field := ⟨0x1200014 + 0x1000000 * n, 4, 4, 0⟩
def LDS_LMODE_STAT.ACTIVE (n : Nat) : Field := ⟨0x1200014 + 0x1000000 * n, 0, 2, 0⟩
/-- LDS_PROF_Pp, Table 3.10 (R84, R155, R178). -/
def LDS_PROF_P.REACH (n p : Nat) : Field := ⟨0x1200020 + 0x1000000 * n + 4 * p, 31, 1, 0⟩
def LDS_PROF_P.MODE (n p : Nat) : Field := ⟨0x1200020 + 0x1000000 * n + 4 * p, 24, 4, 0⟩
def LDS_PROF_P.TILES (n p : Nat) : Field := ⟨0x1200020 + 0x1000000 * n + 4 * p, 16, 7, 0⟩
def LDS_PROF_P.TSLOTS (n p : Nat) : Field := ⟨0x1200020 + 0x1000000 * n + 4 * p, 0, 11, 0⟩
/-- LDS_PROF_RATE_Pp, Table 3.11 (R84, R155, R178). -/
def LDS_PROF_RATE_P.CODE (n p : Nat) : Field := ⟨0x1200030 + 0x1000000 * n + 4 * p, 30, 2, 0⟩
def LDS_PROF_RATE_P.HX100 (n p : Nat) : Field := ⟨0x1200030 + 0x1000000 * n + 4 * p, 16, 10, 0⟩
def LDS_PROF_RATE_P.RS (n p : Nat) : Field := ⟨0x1200030 + 0x1000000 * n + 4 * p, 0, 16, 0⟩
/-- LDS_RSZ_CTRL, Table 3.12 (R84, R155, R178). -/
def LDS_RSZ_CTRL.GO (n : Nat) : Field := ⟨0x1200040 + 0x1000000 * n, 31, 1, 0⟩
def LDS_RSZ_CTRL.TRIB (n : Nat) : Field := ⟨0x1200040 + 0x1000000 * n, 24, 1, 0⟩
def LDS_RSZ_CTRL.TARGET (n : Nat) : Field := ⟨0x1200040 + 0x1000000 * n, 16, 2, 0⟩
def LDS_RSZ_CTRL.LEAD (n : Nat) : Field := ⟨0x1200040 + 0x1000000 * n, 0, 16, 0x100⟩
/-- LDS_RSZ_MF, Table 3.13 (R84, R155, R178). -/
def LDS_RSZ_MF.MFN (n : Nat) : Field := ⟨0x1200044 + 0x1000000 * n, 0, 32, 0⟩
/-- LDS_RSZ_TIME, Table 3.13 (R84, R155, R178). -/
def LDS_RSZ_TIME.CONV (n : Nat) : Field := ⟨0x120004C + 0x1000000 * n, 0, 16, 0⟩
/-- LDS_RSZ_STAT, Table 3.14 (R84, R155, R178). -/
def LDS_RSZ_STAT.LATE (n : Nat) : Field := ⟨0x1200048 + 0x1000000 * n, 17, 1, 0⟩
def LDS_RSZ_STAT.INDOUBT (n : Nat) : Field := ⟨0x1200048 + 0x1000000 * n, 16, 1, 0⟩
def LDS_RSZ_STAT.CAUSE (n : Nat) : Field := ⟨0x1200048 + 0x1000000 * n, 8, 4, 0⟩
def LDS_RSZ_STAT.FAIL_EV (n : Nat) : Field := ⟨0x1200048 + 0x1000000 * n, 4, 1, 0⟩
def LDS_RSZ_STAT.DONE_EV (n : Nat) : Field := ⟨0x1200048 + 0x1000000 * n, 3, 1, 0⟩
def LDS_RSZ_STAT.STATE (n : Nat) : Field := ⟨0x1200048 + 0x1000000 * n, 0, 3, 0⟩
/-- LDS_CD_CTRL, Table 6.8 (R84, R155, R178). -/
def LDS_CD_CTRL.TRACK (n : Nat) : Field := ⟨0x1200100 + 0x1000000 * n, 28, 1, 1⟩
def LDS_CD_CTRL.FIXED (n : Nat) : Field := ⟨0x1200100 + 0x1000000 * n, 8, 20, 0⟩
def LDS_CD_CTRL.SRC (n : Nat) : Field := ⟨0x1200100 + 0x1000000 * n, 0, 1, 0⟩
/-- LDS_CD_EST, Table 6.8 (R84, R155, R178). -/
def LDS_CD_EST.VALID (n : Nat) : Field := ⟨0x1200104 + 0x1000000 * n, 31, 1, 0⟩
def LDS_CD_EST.FAIL (n : Nat) : Field := ⟨0x1200104 + 0x1000000 * n, 30, 1, 0⟩
def LDS_CD_EST.FINE (n : Nat) : Field := ⟨0x1200104 + 0x1000000 * n, 29, 1, 0⟩
def LDS_CD_EST.OOR (n : Nat) : Field := ⟨0x1200104 + 0x1000000 * n, 28, 1, 0⟩
def LDS_CD_EST.EST (n : Nat) : Field := ⟨0x1200104 + 0x1000000 * n, 0, 20, 0⟩
/-- LDS_RS_EST, Table 6.8 (R84, R155, R178). -/
def LDS_RS_EST.RS (n : Nat) : Field := ⟨0x1200108 + 0x1000000 * n, 0, 16, 0⟩
/-- LDS_EQ_CTRL, Table 6.9 (R84, R155, R178). -/
def LDS_EQ_CTRL.MU (n : Nat) : Field := ⟨0x1200110 + 0x1000000 * n, 0, 4, 0xB⟩
/-- LDS_EQ_STAT, Table 6.9 (R84, R155, R178). -/
def LDS_EQ_STAT.TAPS (n : Nat) : Field := ⟨0x1200114 + 0x1000000 * n, 16, 8, 0x41⟩
def LDS_EQ_STAT.WINOK (n : Nat) : Field := ⟨0x1200114 + 0x1000000 * n, 8, 4, 0⟩
def LDS_EQ_STAT.NOCONV (n : Nat) : Field := ⟨0x1200114 + 0x1000000 * n, 2, 1, 0⟩
def LDS_EQ_STAT.DFE (n : Nat) : Field := ⟨0x1200114 + 0x1000000 * n, 1, 1, 0⟩
def LDS_EQ_STAT.PSYNC (n : Nat) : Field := ⟨0x1200114 + 0x1000000 * n, 0, 1, 0⟩
/-- LDS_CR_STAT, Table 6.10 (R84, R155, R178). -/
def LDS_CR_STAT.FOFS (n : Nat) : Field := ⟨0x1200118 + 0x1000000 * n, 16, 16, 0x8000⟩
def LDS_CR_STAT.SLIP (n : Nat) : Field := ⟨0x1200118 + 0x1000000 * n, 0, 16, 0⟩
/-- LDS_CLK_STAT, Table 6.10 (R84, R155, R178). -/
def LDS_CLK_STAT.LOCK (n : Nat) : Field := ⟨0x120011C + 0x1000000 * n, 31, 1, 0⟩
def LDS_CLK_STAT.PPM (n : Nat) : Field := ⟨0x120011C + 0x1000000 * n, 0, 16, 0⟩
/-- LDS_NLC_CTRL, Table 6.11 (R84, R155, R178). -/
def LDS_NLC_CTRL.ADAPT (n : Nat) : Field := ⟨0x1200120 + 0x1000000 * n, 16, 1, 1⟩
def LDS_NLC_CTRL.ALPHA (n : Nat) : Field := ⟨0x1200120 + 0x1000000 * n, 0, 12, 0x400⟩
/-- LDS_NLC_STAT, Table 6.11 (R84, R155, R178). -/
def LDS_NLC_STAT.ALPHA_NOW (n : Nat) : Field := ⟨0x1200124 + 0x1000000 * n, 16, 12, 0⟩
def LDS_NLC_STAT.TRIPLETS (n : Nat) : Field := ⟨0x1200124 + 0x1000000 * n, 0, 3, 0⟩
/-- LDS_ACQ_STAT, Table 6.12 (R84, R155, R178). -/
def LDS_ACQ_STAT.LAST_FAIL (n : Nat) : Field := ⟨0x1200130 + 0x1000000 * n, 12, 4, 0⟩
def LDS_ACQ_STAT.COLD (n : Nat) : Field := ⟨0x1200130 + 0x1000000 * n, 7, 1, 0⟩
def LDS_ACQ_STAT.STEP (n : Nat) : Field := ⟨0x1200130 + 0x1000000 * n, 0, 4, 0⟩
/-- LDS_ACQ_CNT, Table 6.12 (R84, R155, R178). -/
def LDS_ACQ_CNT.COLD (n : Nat) : Field := ⟨0x1200134 + 0x1000000 * n, 16, 16, 0⟩
def LDS_ACQ_CNT.WARM (n : Nat) : Field := ⟨0x1200134 + 0x1000000 * n, 0, 16, 0⟩
/-- LDS_LQ_CTRL, Table 6.13 (R84, R155, R178). -/
def LDS_LQ_CTRL.SD_THR (n : Nat) : Field := ⟨0x1200140 + 0x1000000 * n, 16, 16, 0⟩
def LDS_LQ_CTRL.WIN (n : Nat) : Field := ⟨0x1200140 + 0x1000000 * n, 0, 2, 0⟩
/-- LDS_LQ_STAT, Table 6.13 (R84, R155, R178). -/
def LDS_LQ_STAT.SEQ (n : Nat) : Field := ⟨0x1200144 + 0x1000000 * n, 16, 16, 0⟩
def LDS_LQ_STAT.RSZ (n : Nat) : Field := ⟨0x1200144 + 0x1000000 * n, 7, 1, 0⟩
def LDS_LQ_STAT.ISC_CANC (n : Nat) : Field := ⟨0x1200144 + 0x1000000 * n, 6, 1, 0⟩
def LDS_LQ_STAT.BER_ZERO (n : Nat) : Field := ⟨0x1200144 + 0x1000000 * n, 5, 1, 0⟩
def LDS_LQ_STAT.BERV (n : Nat) : Field := ⟨0x1200144 + 0x1000000 * n, 4, 1, 0⟩
def LDS_LQ_STAT.VALID (n : Nat) : Field := ⟨0x1200144 + 0x1000000 * n, 3, 1, 0⟩
def LDS_LQ_STAT.SD (n : Nat) : Field := ⟨0x1200144 + 0x1000000 * n, 2, 1, 0⟩
def LDS_LQ_STAT.SD_EV (n : Nat) : Field := ⟨0x1200144 + 0x1000000 * n, 1, 1, 0⟩
def LDS_LQ_STAT.WIN_EV (n : Nat) : Field := ⟨0x1200144 + 0x1000000 * n, 0, 1, 0⟩
/-- LDS_LQ_SNR, Table 6.14 (R84, R155, R178). -/
def LDS_LQ_SNR.MIN (n : Nat) : Field := ⟨0x1200148 + 0x1000000 * n, 16, 16, 0xFFFF⟩
def LDS_LQ_SNR.SNR (n : Nat) : Field := ⟨0x1200148 + 0x1000000 * n, 0, 16, 0⟩
/-- LDS_LQ_SNRXY, Table 6.14 (R84, R155, R178). -/
def LDS_LQ_SNRXY.Y (n : Nat) : Field := ⟨0x120014C + 0x1000000 * n, 16, 16, 0⟩
def LDS_LQ_SNRXY.X (n : Nat) : Field := ⟨0x120014C + 0x1000000 * n, 0, 16, 0⟩
/-- LDS_LQ_EVM, Table 6.14 (R84, R155, R178). -/
def LDS_LQ_EVM.EVM (n : Nat) : Field := ⟨0x1200150 + 0x1000000 * n, 0, 16, 0⟩
/-- LDS_LQ_GMI, Table 6.14 (R84, R155, R178). -/
def LDS_LQ_GMI.MARGIN (n : Nat) : Field := ⟨0x1200154 + 0x1000000 * n, 16, 16, 0⟩
def LDS_LQ_GMI.GMI (n : Nat) : Field := ⟨0x1200154 + 0x1000000 * n, 0, 16, 0⟩
/-- LDS_LQ_BER, Table 6.14 (R84, R155, R178). -/
def LDS_LQ_BER.BER_LOG (n : Nat) : Field := ⟨0x1200158 + 0x1000000 * n, 0, 16, 0⟩
/-- LDS_TILE_SEL, Table 6.14 (R84, R155, R178). -/
def LDS_TILE_SEL.TILE (n : Nat) : Field := ⟨0x1200160 + 0x1000000 * n, 0, 7, 0⟩
/-- LDS_TILE_STAT, Table 6.14 (R84, R155, R178). -/
def LDS_TILE_STAT.CAUSE (n t : Nat) : Field := ⟨0x10000000 + 0x1000 * n + 4 * t, 28, 4, 0⟩
def LDS_TILE_STAT.ERRCNT (n t : Nat) : Field := ⟨0x10000000 + 0x1000 * n + 4 * t, 16, 8, 0⟩
def LDS_TILE_STAT.STAGE (n t : Nat) : Field := ⟨0x10000000 + 0x1000 * n + 4 * t, 4, 2, 0⟩
def LDS_TILE_STAT.STATE (n t : Nat) : Field := ⟨0x10000000 + 0x1000 * n + 4 * t, 0, 3, 0⟩
/-- LDS_TILE_SUM, Table 6.14 (R84, R155, R178). -/
def LDS_TILE_SUM.CD (n : Nat) : Field := ⟨0x1200168 + 0x1000000 * n, 24, 8, 0⟩
def LDS_TILE_SUM.MIMO (n : Nat) : Field := ⟨0x1200168 + 0x1000000 * n, 16, 8, 0⟩
def LDS_TILE_SUM.NLC (n : Nat) : Field := ⟨0x1200168 + 0x1000000 * n, 8, 8, 0⟩
def LDS_TILE_SUM.FENCED (n : Nat) : Field := ⟨0x1200168 + 0x1000000 * n, 0, 8, 0⟩
/-- LDS_TILE_BUF, Table 6.14 (R84, R155, R178). -/
def LDS_TILE_BUF.CWBUF (n : Nat) : Field := ⟨0x120016C + 0x1000000 * n, 0, 13, 0x800⟩
/-- LDS_TILE_CMD, Table 6.14 (R84, R155, R178). -/
def LDS_TILE_CMD.FORCE (n : Nat) : Field := ⟨0x1200170 + 0x1000000 * n, 0, 1, 0⟩
/-- LDS_TX_CTRL, Table 7.6 (R84, R155, R178). -/
def LDS_TX_CTRL.MAXBOOST (n : Nat) : Field := ⟨0x1200200 + 0x1000000 * n, 8, 8, 0x78⟩
def LDS_TX_CTRL.NLPD_EN (n : Nat) : Field := ⟨0x1200200 + 0x1000000 * n, 2, 1, 1⟩
def LDS_TX_CTRL.PREEMP_EN (n : Nat) : Field := ⟨0x1200200 + 0x1000000 * n, 1, 1, 1⟩
/-- LDS_TX_STAT, Table 7.7 (R84, R155, R178). -/
def LDS_TX_STAT.BOOST_LIM (n : Nat) : Field := ⟨0x1200204 + 0x1000000 * n, 20, 4, 0⟩
def LDS_TX_STAT.SKEW_LIM (n : Nat) : Field := ⟨0x1200204 + 0x1000000 * n, 16, 4, 0⟩
def LDS_TX_STAT.PEND (n : Nat) : Field := ⟨0x1200204 + 0x1000000 * n, 11, 1, 0⟩
def LDS_TX_STAT.UNDER_EV (n : Nat) : Field := ⟨0x1200204 + 0x1000000 * n, 10, 1, 0⟩
def LDS_TX_STAT.CLIP_EV (n : Nat) : Field := ⟨0x1200204 + 0x1000000 * n, 9, 1, 0⟩
def LDS_TX_STAT.SWITCH_EV (n : Nat) : Field := ⟨0x1200204 + 0x1000000 * n, 8, 1, 0⟩
def LDS_TX_STAT.ROLL (n : Nat) : Field := ⟨0x1200204 + 0x1000000 * n, 3, 3, 2⟩
def LDS_TX_STAT.ISC_INS (n : Nat) : Field := ⟨0x1200204 + 0x1000000 * n, 2, 1, 0⟩
def LDS_TX_STAT.SHAPED (n : Nat) : Field := ⟨0x1200204 + 0x1000000 * n, 1, 1, 0⟩
def LDS_TX_STAT.MUTED (n : Nat) : Field := ⟨0x1200204 + 0x1000000 * n, 0, 1, 1⟩
/-- LDS_TX_DM, Table 7.8 (R84, R155, R178). -/
def LDS_TX_DM.N (n : Nat) : Field := ⟨0x1200208 + 0x1000000 * n, 16, 12, 0x7D0⟩
def LDS_TX_DM.K (n : Nat) : Field := ⟨0x1200208 + 0x1000000 * n, 0, 12, 0⟩
/-- LDS_TX_COMP0, Table 7.8 (R84, R155, R178). -/
def LDS_TX_COMP0.CNT3 (n : Nat) : Field := ⟨0x120020C + 0x1000000 * n, 16, 11, 0⟩
def LDS_TX_COMP0.CNT1 (n : Nat) : Field := ⟨0x120020C + 0x1000000 * n, 0, 11, 0⟩
/-- LDS_TX_COMP1, Table 7.8 (R84, R155, R178). -/
def LDS_TX_COMP1.CNT7 (n : Nat) : Field := ⟨0x1200210 + 0x1000000 * n, 16, 11, 0⟩
def LDS_TX_COMP1.CNT5 (n : Nat) : Field := ⟨0x1200210 + 0x1000000 * n, 0, 11, 0⟩
/-- LDS_TX_SKEW_Ll, Table 7.9 (R84, R155, R178). -/
def LDS_TX_SKEW_L.TRIM (n l : Nat) : Field := ⟨0x1200220 + 0x1000000 * n + 4 * l, 16, 16, 0⟩
def LDS_TX_SKEW_L.CAL (n l : Nat) : Field := ⟨0x1200220 + 0x1000000 * n + 4 * l, 0, 16, 0⟩
/-- LDS_TX_IQ_Pp, Table 7.10 (R84, R155, R178). -/
def LDS_TX_IQ_P.PHASE (n p : Nat) : Field := ⟨0x1200230 + 0x1000000 * n + 4 * p, 16, 16, 0⟩
def LDS_TX_IQ_P.GAIN (n p : Nat) : Field := ⟨0x1200230 + 0x1000000 * n + 4 * p, 0, 16, 0⟩
/-- LDS_TX_DRV, Table 7.11 (R84, R155, R178). -/
def LDS_TX_DRV.CLIPR (n : Nat) : Field := ⟨0x1200238 + 0x1000000 * n, 0, 8, 0x5A⟩
/-- LDS_TX_ISC_LVL, Table 7.11 (R84, R155, R178). -/
def LDS_TX_ISC_LVL.LEVEL (n : Nat) : Field := ⟨0x120023C + 0x1000000 * n, 0, 9, 0x118⟩
/-- LDS_TX_TEST, Table 7.12 (R84, R155, R178). -/
def LDS_TX_TEST.PATTERN (n : Nat) : Field := ⟨0x1200240 + 0x1000000 * n, 0, 2, 0⟩
/-- LDS_TX_CNT, Table 7.12 (R84, R155, R178). -/
def LDS_TX_CNT.SWITCH (n : Nat) : Field := ⟨0x1200244 + 0x1000000 * n, 16, 16, 0⟩
def LDS_TX_CNT.UNDERRUN (n : Nat) : Field := ⟨0x1200244 + 0x1000000 * n, 0, 16, 0⟩
/-- LDS_TX_CLIP, Table 7.12 (R84, R155, R178). -/
def LDS_TX_CLIP.COUNT (n : Nat) : Field := ⟨0x1200248 + 0x1000000 * n, 0, 32, 0⟩

/-- Host-access rows of the LDS block. -/
def regsLdsA : List Reg := [
  ⟨0x1200000, [(4, 0x1000000)], 1, .plain, [⟨(LDS_CH_STATE.CAUSE 0), .ro, .live, 2, .any⟩,
    ⟨(LDS_CH_STATE.MAXMODE 0), .ro, .live, 2, .any⟩,
    ⟨(LDS_CH_STATE.CONVERGED 0), .ro, .live, 2, .any⟩,
    ⟨(LDS_CH_STATE.STATE 0), .ro, .live, 2, .any⟩]⟩,
  ⟨0x1200010, [(4, 0x1000000)], 1, .plain, [⟨(LDS_LMODE.PROFILE 0), .rw, .framed, 2, .any⟩]⟩,
  ⟨0x1200014, [(4, 0x1000000)], 1, .plain, [⟨(LDS_LMODE_STAT.NEG_FAIL 0), .w1c, .live, 2, .any⟩,
    ⟨(LDS_LMODE_STAT.ADOPTED 0), .w1c, .live, 2, .any⟩,
    ⟨(LDS_LMODE_STAT.DEFINED 0), .ro, .live, 2, .any⟩,
    ⟨(LDS_LMODE_STAT.ACTIVE 0), .ro, .live, 2, .any⟩]⟩,
  ⟨0x1200020, [(4, 0x1000000), (4, 4)], 1, .plain, [⟨(LDS_PROF_P.REACH 0 0), .ro, .live, 2, .any⟩,
    ⟨(LDS_PROF_P.MODE 0 0), .ro, .live, 2, .any⟩,
    ⟨(LDS_PROF_P.TILES 0 0), .ro, .live, 2, .any⟩,
    ⟨(LDS_PROF_P.TSLOTS 0 0), .ro, .live, 2, .any⟩]⟩,
  ⟨0x1200030, [(4, 0x1000000), (4, 4)], 1, .plain, [⟨(LDS_PROF_RATE_P.CODE 0 0), .ro, .live, 2, .any⟩,
    ⟨(LDS_PROF_RATE_P.HX100 0 0), .ro, .live, 2, .any⟩,
    ⟨(LDS_PROF_RATE_P.RS 0 0), .ro, .live, 2, .any⟩]⟩,
  ⟨0x1200040, [(4, 0x1000000)], 1, .plain, [⟨(LDS_RSZ_CTRL.GO 0), .wo, .live, 2, .any⟩,
    ⟨(LDS_RSZ_CTRL.TRIB 0), .rw, .live, 2, .any⟩,
    ⟨(LDS_RSZ_CTRL.TARGET 0), .rw, .live, 2, .any⟩,
    ⟨(LDS_RSZ_CTRL.LEAD 0), .rw, .live, 2, .any⟩]⟩,
  ⟨0x1200044, [(4, 0x1000000)], 1, .plain, [⟨(LDS_RSZ_MF.MFN 0), .ro, .live, 2, .any⟩]⟩,
  ⟨0x120004C, [(4, 0x1000000)], 1, .plain, [⟨(LDS_RSZ_TIME.CONV 0), .ro, .live, 2, .any⟩]⟩,
  ⟨0x1200048, [(4, 0x1000000)], 1, .plain, [⟨(LDS_RSZ_STAT.LATE 0), .ro, .live, 2, .any⟩,
    ⟨(LDS_RSZ_STAT.INDOUBT 0), .ro, .live, 2, .any⟩,
    ⟨(LDS_RSZ_STAT.CAUSE 0), .ro, .live, 2, .any⟩,
    ⟨(LDS_RSZ_STAT.FAIL_EV 0), .w1c, .live, 2, .any⟩,
    ⟨(LDS_RSZ_STAT.DONE_EV 0), .w1c, .live, 2, .any⟩,
    ⟨(LDS_RSZ_STAT.STATE 0), .ro, .live, 2, .any⟩]⟩,
  ⟨0x1200100, [(4, 0x1000000)], 1, .plain, [⟨(LDS_CD_CTRL.TRACK 0), .rw, .live, 2, .any⟩,
    ⟨(LDS_CD_CTRL.FIXED 0), .rw, .live, 2, .srng (-400000) 400000⟩,
    ⟨(LDS_CD_CTRL.SRC 0), .rw, .live, 2, .any⟩]⟩,
  ⟨0x1200104, [(4, 0x1000000)], 1, .plain, [⟨(LDS_CD_EST.VALID 0), .ro, .live, 2, .any⟩,
    ⟨(LDS_CD_EST.FAIL 0), .w1c, .live, 2, .any⟩,
    ⟨(LDS_CD_EST.FINE 0), .ro, .live, 2, .any⟩,
    ⟨(LDS_CD_EST.OOR 0), .ro, .live, 2, .any⟩,
    ⟨(LDS_CD_EST.EST 0), .ro, .live, 2, .any⟩]⟩,
  ⟨0x1200108, [(4, 0x1000000)], 1, .plain, [⟨(LDS_RS_EST.RS 0), .ro, .live, 2, .any⟩]⟩,
  ⟨0x1200110, [(4, 0x1000000)], 1, .plain, [⟨(LDS_EQ_CTRL.MU 0), .rw, .live, 2, .rng 8 15⟩]⟩,
  ⟨0x1200114, [(4, 0x1000000)], 1, .plain, [⟨(LDS_EQ_STAT.TAPS 0), .ro, .live, 2, .any⟩,
    ⟨(LDS_EQ_STAT.WINOK 0), .ro, .live, 2, .any⟩,
    ⟨(LDS_EQ_STAT.NOCONV 0), .w1c, .live, 2, .any⟩,
    ⟨(LDS_EQ_STAT.DFE 0), .ro, .live, 2, .any⟩,
    ⟨(LDS_EQ_STAT.PSYNC 0), .ro, .live, 2, .any⟩]⟩,
  ⟨0x1200118, [(4, 0x1000000)], 1, .plain, [⟨(LDS_CR_STAT.FOFS 0), .ro, .live, 2, .any⟩,
    ⟨(LDS_CR_STAT.SLIP 0), .rc, .live, 2, .any⟩]⟩,
  ⟨0x120011C, [(4, 0x1000000)], 1, .plain, [⟨(LDS_CLK_STAT.LOCK 0), .ro, .live, 2, .any⟩,
    ⟨(LDS_CLK_STAT.PPM 0), .ro, .live, 2, .any⟩]⟩,
  ⟨0x1200120, [(4, 0x1000000)], 1, .plain, [⟨(LDS_NLC_CTRL.ADAPT 0), .rw, .live, 2, .any⟩,
    ⟨(LDS_NLC_CTRL.ALPHA 0), .rw, .live, 2, .any⟩]⟩,
  ⟨0x1200124, [(4, 0x1000000)], 1, .plain, [⟨(LDS_NLC_STAT.ALPHA_NOW 0), .ro, .live, 2, .any⟩,
    ⟨(LDS_NLC_STAT.TRIPLETS 0), .ro, .live, 2, .any⟩]⟩,
  ⟨0x1200130, [(4, 0x1000000)], 1, .plain, [⟨(LDS_ACQ_STAT.LAST_FAIL 0), .ro, .live, 2, .any⟩,
    ⟨(LDS_ACQ_STAT.COLD 0), .ro, .live, 2, .any⟩,
    ⟨(LDS_ACQ_STAT.STEP 0), .ro, .live, 2, .any⟩]⟩,
  ⟨0x1200134, [(4, 0x1000000)], 1, .plain, [⟨(LDS_ACQ_CNT.COLD 0), .rc, .live, 2, .any⟩,
    ⟨(LDS_ACQ_CNT.WARM 0), .rc, .live, 2, .any⟩]⟩,
  ⟨0x1200140, [(4, 0x1000000)], 1, .plain, [⟨(LDS_LQ_CTRL.SD_THR 0), .rw, .live, 2, .any⟩,
    ⟨(LDS_LQ_CTRL.WIN 0), .rw, .live, 2, .any⟩]⟩,
  ⟨0x1200144, [(4, 0x1000000)], 1, .plain, [⟨(LDS_LQ_STAT.SEQ 0), .ro, .live, 2, .any⟩,
    ⟨(LDS_LQ_STAT.RSZ 0), .ro, .live, 2, .any⟩,
    ⟨(LDS_LQ_STAT.ISC_CANC 0), .ro, .live, 2, .any⟩,
    ⟨(LDS_LQ_STAT.BER_ZERO 0), .ro, .live, 2, .any⟩,
    ⟨(LDS_LQ_STAT.BERV 0), .ro, .live, 2, .any⟩,
    ⟨(LDS_LQ_STAT.VALID 0), .ro, .live, 2, .any⟩,
    ⟨(LDS_LQ_STAT.SD 0), .ro, .live, 2, .any⟩,
    ⟨(LDS_LQ_STAT.SD_EV 0), .w1c, .live, 2, .any⟩,
    ⟨(LDS_LQ_STAT.WIN_EV 0), .w1c, .live, 2, .any⟩]⟩,
  ⟨0x1200148, [(4, 0x1000000)], 1, .plain, [⟨(LDS_LQ_SNR.MIN 0), .rc, .live, 2, .any⟩,
    ⟨(LDS_LQ_SNR.SNR 0), .ro, .live, 2, .any⟩]⟩,
  ⟨0x120014C, [(4, 0x1000000)], 1, .plain, [⟨(LDS_LQ_SNRXY.Y 0), .ro, .live, 2, .any⟩,
    ⟨(LDS_LQ_SNRXY.X 0), .ro, .live, 2, .any⟩]⟩,
  ⟨0x1200150, [(4, 0x1000000)], 1, .plain, [⟨(LDS_LQ_EVM.EVM 0), .ro, .live, 2, .any⟩]⟩]

/-- Host-access rows of the LDS block. -/
def regsLdsB : List Reg := [
  ⟨0x1200154, [(4, 0x1000000)], 1, .plain, [⟨(LDS_LQ_GMI.MARGIN 0), .ro, .live, 2, .any⟩,
    ⟨(LDS_LQ_GMI.GMI 0), .ro, .live, 2, .any⟩]⟩,
  ⟨0x1200158, [(4, 0x1000000)], 1, .plain, [⟨(LDS_LQ_BER.BER_LOG 0), .ro, .live, 2, .any⟩]⟩,
  ⟨0x1200160, [(4, 0x1000000)], 1, .plain, [⟨(LDS_TILE_SEL.TILE 0), .rw, .live, 2, .rng 0 95⟩]⟩,
  ⟨0x1200164, [(4, 0x1000000)], 1, .tile, [⟨(LDS_TILE_STAT.CAUSE 0 0), .ro, .live, 2, .any⟩,
    ⟨(LDS_TILE_STAT.ERRCNT 0 0), .rc, .live, 2, .any⟩,
    ⟨(LDS_TILE_STAT.STAGE 0 0), .ro, .live, 2, .any⟩,
    ⟨(LDS_TILE_STAT.STATE 0 0), .ro, .live, 2, .any⟩]⟩,
  ⟨0x1200168, [(4, 0x1000000)], 1, .plain, [⟨(LDS_TILE_SUM.CD 0), .ro, .live, 2, .any⟩,
    ⟨(LDS_TILE_SUM.MIMO 0), .ro, .live, 2, .any⟩,
    ⟨(LDS_TILE_SUM.NLC 0), .ro, .live, 2, .any⟩,
    ⟨(LDS_TILE_SUM.FENCED 0), .ro, .live, 2, .any⟩]⟩,
  ⟨0x120016C, [(4, 0x1000000)], 1, .plain, [⟨(LDS_TILE_BUF.CWBUF 0), .ro, .live, 2, .any⟩]⟩,
  ⟨0x1200170, [(4, 0x1000000)], 1, .plain, [⟨(LDS_TILE_CMD.FORCE 0), .wo, .live, 3, .any⟩]⟩,
  ⟨0x1200200, [(4, 0x1000000)], 1, .plain, [⟨(LDS_TX_CTRL.MAXBOOST 0), .rw, .framed, 2, .rng 0 150⟩,
    ⟨(LDS_TX_CTRL.NLPD_EN 0), .rw, .framed, 2, .any⟩,
    ⟨(LDS_TX_CTRL.PREEMP_EN 0), .rw, .framed, 2, .any⟩]⟩,
  ⟨0x1200204, [(4, 0x1000000)], 1, .plain, [⟨(LDS_TX_STAT.BOOST_LIM 0), .ro, .live, 2, .any⟩,
    ⟨(LDS_TX_STAT.SKEW_LIM 0), .ro, .live, 2, .any⟩,
    ⟨(LDS_TX_STAT.PEND 0), .ro, .live, 2, .any⟩,
    ⟨(LDS_TX_STAT.UNDER_EV 0), .w1c, .live, 2, .any⟩,
    ⟨(LDS_TX_STAT.CLIP_EV 0), .w1c, .live, 2, .any⟩,
    ⟨(LDS_TX_STAT.SWITCH_EV 0), .w1c, .live, 2, .any⟩,
    ⟨(LDS_TX_STAT.ROLL 0), .ro, .live, 2, .any⟩,
    ⟨(LDS_TX_STAT.ISC_INS 0), .ro, .live, 2, .any⟩,
    ⟨(LDS_TX_STAT.SHAPED 0), .ro, .live, 2, .any⟩,
    ⟨(LDS_TX_STAT.MUTED 0), .ro, .live, 2, .any⟩]⟩,
  ⟨0x1200208, [(4, 0x1000000)], 1, .plain, [⟨(LDS_TX_DM.N 0), .ro, .live, 2, .any⟩,
    ⟨(LDS_TX_DM.K 0), .ro, .live, 2, .any⟩]⟩,
  ⟨0x120020C, [(4, 0x1000000)], 1, .plain, [⟨(LDS_TX_COMP0.CNT3 0), .ro, .live, 2, .any⟩,
    ⟨(LDS_TX_COMP0.CNT1 0), .ro, .live, 2, .any⟩]⟩,
  ⟨0x1200210, [(4, 0x1000000)], 1, .plain, [⟨(LDS_TX_COMP1.CNT7 0), .ro, .live, 2, .any⟩,
    ⟨(LDS_TX_COMP1.CNT5 0), .ro, .live, 2, .any⟩]⟩,
  ⟨0x1200220, [(4, 0x1000000), (4, 4)], 1, .plain, [⟨(LDS_TX_SKEW_L.TRIM 0 0), .rw, .framed, 2, .srng (-500) 500⟩,
    ⟨(LDS_TX_SKEW_L.CAL 0 0), .ro, .live, 2, .any⟩]⟩,
  ⟨0x1200230, [(4, 0x1000000), (2, 4)], 1, .plain, [⟨(LDS_TX_IQ_P.PHASE 0 0), .rw, .framed, 2, .srng (-500) 500⟩,
    ⟨(LDS_TX_IQ_P.GAIN 0 0), .rw, .framed, 2, .srng (-100) 100⟩]⟩,
  ⟨0x1200238, [(4, 0x1000000)], 1, .plain, [⟨(LDS_TX_DRV.CLIPR 0), .rw, .framed, 2, .rng 60 140⟩]⟩,
  ⟨0x120023C, [(4, 0x1000000)], 1, .plain, [⟨(LDS_TX_ISC_LVL.LEVEL 0), .rw, .framed, 2, .rng 200 360⟩]⟩,
  ⟨0x1200240, [(4, 0x1000000)], 1, .plain, [⟨(LDS_TX_TEST.PATTERN 0), .rw, .live, 3, .any⟩]⟩,
  ⟨0x1200244, [(4, 0x1000000)], 1, .plain, [⟨(LDS_TX_CNT.SWITCH 0), .rc, .live, 2, .any⟩,
    ⟨(LDS_TX_CNT.UNDERRUN 0), .rc, .live, 2, .any⟩]⟩,
  ⟨0x1200248, [(4, 0x1000000)], 1, .plain, [⟨(LDS_TX_CLIP.COUNT 0), .rc, .live, 2, .any⟩]⟩]

/-- Host-access rows of the LDS block. -/
def regsLds : List Reg := regsLdsA ++ regsLdsB

end Sys2Proof.Machine
end

