-- ==== Sys2Proof/Machine/RegsSecurity.lean ====
section
/-! DEFINITION. The register fields of the security island KEY and SEC, from the field maps of the chapters of spec/
(the tables each comment names): word address in BAR0, lowest bit, width and reset value of each field, and the
rows by which a host access of a register word is judged.  Reserved fields are absent: they read 0 (R16). -/

namespace Sys2Proof.Machine

/-- KEY_STAT, Table 12.11 (R301). -/
def KEY_STAT.ROOT : Field := ⟨0x5000000, 30, 2, 0⟩
def KEY_STAT.LOCKDOWN : Field := ⟨0x5000000, 29, 1, 0⟩
def KEY_STAT.ENT_OK : Field := ⟨0x5000000, 28, 1, 0⟩
def KEY_STAT.ENT_EV : Field := ⟨0x5000000, 27, 1, 0⟩
def KEY_STAT.ZERO_EV : Field := ⟨0x5000000, 26, 1, 0⟩
def KEY_STAT.TAMPER_PIN : Field := ⟨0x5000000, 25, 1, 0⟩
def KEY_STAT.ZEROISE_PIN : Field := ⟨0x5000000, 24, 1, 0⟩
def KEY_STAT.ENG_ACT : Field := ⟨0x5000000, 20, 4, 0⟩
def KEY_STAT.ENG_FNC : Field := ⟨0x5000000, 16, 4, 0⟩
/-- KEY_BULK_CTRL, Table 12.11 (R301). -/
def KEY_BULK_CTRL.GO : Field := ⟨0x5000010, 31, 1, 0⟩
def KEY_BULK_CTRL.RESUME : Field := ⟨0x5000010, 30, 1, 0⟩
def KEY_BULK_CTRL.ABORT : Field := ⟨0x5000010, 29, 1, 0⟩
def KEY_BULK_CTRL.OP : Field := ⟨0x5000010, 16, 4, 0⟩
def KEY_BULK_CTRL.CH : Field := ⟨0x5000010, 12, 2, 0⟩
def KEY_BULK_CTRL.KEK : Field := ⟨0x5000010, 0, 6, 0⟩
/-- KEY_BULK_ADDR_LO, Table 12.11 (R301). -/
def KEY_BULK_ADDR_LO.LO : Field := ⟨0x5000014, 0, 32, 0⟩
/-- KEY_BULK_ADDR_HI, Table 12.11 (R301). -/
def KEY_BULK_ADDR_HI.HI : Field := ⟨0x5000018, 0, 32, 0⟩
/-- KEY_BULK_CNT, Table 12.11 (R301). -/
def KEY_BULK_CNT.COUNT : Field := ⟨0x500001C, 0, 14, 0⟩
/-- KEY_BULK_STAT, Table 12.11 (R301). -/
def KEY_BULK_STAT.STATE : Field := ⟨0x5000020, 29, 3, 0⟩
def KEY_BULK_STAT.DONE_EV : Field := ⟨0x5000020, 28, 1, 0⟩
def KEY_BULK_STAT.FAULT_EV : Field := ⟨0x5000020, 27, 1, 0⟩
def KEY_BULK_STAT.CAUSE : Field := ⟨0x5000020, 20, 4, 0⟩
def KEY_BULK_STAT.NEXT : Field := ⟨0x5000020, 0, 14, 0⟩
/-- KEY_ROOT_CMD, Table 12.11 (R301). -/
def KEY_ROOT_CMD.REFUSED : Field := ⟨0x5000030, 9, 1, 0⟩
def KEY_ROOT_CMD.ARMED : Field := ⟨0x5000030, 8, 1, 0⟩
def KEY_ROOT_CMD.OP : Field := ⟨0x5000030, 0, 2, 0⟩
/-- KEY_ROOT_DATAw, Table 12.11 (R301). -/
def KEY_ROOT_DATA.DATA (w : Nat) : Field := ⟨0x5000040 + 4 * w, 0, 32, 0⟩
/-- KEY_ZEROISE, Table 12.11 (R301). -/
def KEY_ZEROISE.CODE : Field := ⟨0x5000060, 8, 8, 0⟩
def KEY_ZEROISE.GO : Field := ⟨0x5000060, 0, 1, 0⟩
/-- KEY_SLOT_CMD, Table 12.11 (R301). -/
def KEY_SLOT_CMD.ERASE : Field := ⟨0x5000064, 31, 1, 0⟩
def KEY_SLOT_CMD.KEK : Field := ⟨0x5000064, 15, 1, 0⟩
def KEY_SLOT_CMD.SLOT : Field := ⟨0x5000064, 0, 13, 0⟩
/-- KEY_SLOT_STAT, Table 12.11 (R301). -/
def KEY_SLOT_STAT.CAUSE : Field := ⟨0x5000068, 0, 4, 0⟩
/-- KEY_RTC, Table 12.11 (R301). -/
def KEY_RTC.SEC : Field := ⟨0x5000074, 0, 32, 0⟩
/-- KEY_PLOGi, Table 12.11 (R301). -/
def KEY_PLOG.CAUSE (i : Nat) : Field := ⟨0x5000080 + 4 * i, 28, 4, 0⟩
def KEY_PLOG.MODE (i : Nat) : Field := ⟨0x5000080 + 4 * i, 24, 4, 0⟩
def KEY_PLOG.TIME (i : Nat) : Field := ⟨0x5000080 + 4 * i, 0, 24, 0⟩
/-- KEY_CNT, Table 12.11 (R301). -/
def KEY_CNT.UNWRAP_FAIL : Field := ⟨0x50000A0, 16, 16, 0⟩
def KEY_CNT.ENG_MISMATCH : Field := ⟨0x50000A0, 0, 16, 0⟩
/-- KEY_ENG_CMD, Table 12.11 (R301). -/
def KEY_ENG_CMD.FORCE : Field := ⟨0x50000A4, 31, 1, 0⟩
def KEY_ENG_CMD.ENGINE : Field := ⟨0x50000A4, 0, 2, 0⟩

/-- Host-access rows of the KEY block. -/
def regsKey : List Reg := [
  ⟨0x5000000, [], 1, .plain, [⟨KEY_STAT.ROOT, .ro, .live, 3, .any⟩,
    ⟨KEY_STAT.LOCKDOWN, .ro, .live, 3, .any⟩,
    ⟨KEY_STAT.ENT_OK, .ro, .live, 3, .any⟩,
    ⟨KEY_STAT.ENT_EV, .w1c, .live, 2, .any⟩,
    ⟨KEY_STAT.ZERO_EV, .w1c, .live, 2, .any⟩,
    ⟨KEY_STAT.TAMPER_PIN, .ro, .live, 3, .any⟩,
    ⟨KEY_STAT.ZEROISE_PIN, .ro, .live, 3, .any⟩,
    ⟨KEY_STAT.ENG_ACT, .ro, .live, 3, .any⟩,
    ⟨KEY_STAT.ENG_FNC, .ro, .live, 3, .any⟩]⟩,
  ⟨0x5000010, [], 1, .plain, [⟨KEY_BULK_CTRL.GO, .wo, .live, 3, .any⟩,
    ⟨KEY_BULK_CTRL.RESUME, .wo, .live, 3, .any⟩,
    ⟨KEY_BULK_CTRL.ABORT, .wo, .live, 3, .any⟩,
    ⟨KEY_BULK_CTRL.OP, .rw, .live, 3, .rng 1 3⟩,
    ⟨KEY_BULK_CTRL.CH, .rw, .live, 3, .any⟩,
    ⟨KEY_BULK_CTRL.KEK, .rw, .live, 3, .rng 0 62⟩]⟩,
  ⟨0x5000014, [], 1, .plain, [⟨KEY_BULK_ADDR_LO.LO, .rw, .live, 3, .mult 64⟩]⟩,
  ⟨0x5000018, [], 1, .plain, [⟨KEY_BULK_ADDR_HI.HI, .rw, .live, 3, .any⟩]⟩,
  ⟨0x500001C, [], 1, .plain, [⟨KEY_BULK_CNT.COUNT, .rw, .live, 3, .rng 1 8192⟩]⟩,
  ⟨0x5000020, [], 1, .plain, [⟨KEY_BULK_STAT.STATE, .ro, .live, 3, .any⟩,
    ⟨KEY_BULK_STAT.DONE_EV, .w1c, .live, 2, .any⟩,
    ⟨KEY_BULK_STAT.FAULT_EV, .w1c, .live, 2, .any⟩,
    ⟨KEY_BULK_STAT.CAUSE, .ro, .live, 3, .any⟩,
    ⟨KEY_BULK_STAT.NEXT, .ro, .live, 3, .any⟩]⟩,
  ⟨0x5000030, [], 1, .plain, [⟨KEY_ROOT_CMD.REFUSED, .w1c, .live, 2, .any⟩,
    ⟨KEY_ROOT_CMD.ARMED, .ro, .live, 3, .any⟩,
    ⟨KEY_ROOT_CMD.OP, .wo, .live, 3, .any⟩]⟩,
  ⟨0x5000040, [(8, 4)], 1, .plain, [⟨(KEY_ROOT_DATA.DATA 0), .wo, .live, 3, .any⟩]⟩,
  ⟨0x5000060, [], 1, .plain, [⟨KEY_ZEROISE.CODE, .wo, .live, 3, .any⟩,
    ⟨KEY_ZEROISE.GO, .wo, .live, 3, .any⟩]⟩,
  ⟨0x5000064, [], 1, .plain, [⟨KEY_SLOT_CMD.ERASE, .wo, .live, 3, .any⟩,
    ⟨KEY_SLOT_CMD.KEK, .wo, .live, 3, .any⟩,
    ⟨KEY_SLOT_CMD.SLOT, .wo, .live, 3, .any⟩]⟩,
  ⟨0x5000068, [], 1, .plain, [⟨KEY_SLOT_STAT.CAUSE, .ro, .live, 3, .any⟩]⟩,
  ⟨0x5000074, [], 1, .plain, [⟨KEY_RTC.SEC, .ro, .live, 3, .any⟩]⟩,
  ⟨0x5000080, [(8, 4)], 1, .plain, [⟨(KEY_PLOG.CAUSE 0), .ro, .live, 3, .any⟩,
    ⟨(KEY_PLOG.MODE 0), .ro, .live, 3, .any⟩,
    ⟨(KEY_PLOG.TIME 0), .ro, .live, 3, .any⟩]⟩,
  ⟨0x50000A0, [], 1, .plain, [⟨KEY_CNT.UNWRAP_FAIL, .rc, .live, 3, .any⟩,
    ⟨KEY_CNT.ENG_MISMATCH, .rc, .live, 3, .any⟩]⟩,
  ⟨0x50000A4, [], 1, .plain, [⟨KEY_ENG_CMD.FORCE, .wo, .live, 3, .any⟩,
    ⟨KEY_ENG_CMD.ENGINE, .wo, .live, 3, .any⟩]⟩]

/-- SEC_STAT, Table 12.13 (R302). -/
def SEC_STAT.FENCE_EV (n : Nat) : Field := ⟨0x5010000 + 0x10000 * n, 8, 1, 0⟩
def SEC_STAT.ROLL_EV (n : Nat) : Field := ⟨0x5010000 + 0x10000 * n, 7, 1, 0⟩
def SEC_STAT.ROLLF_EV (n : Nat) : Field := ⟨0x5010000 + 0x10000 * n, 6, 1, 0⟩
def SEC_STAT.LIMIT_EV (n : Nat) : Field := ⟨0x5010000 + 0x10000 * n, 5, 1, 0⟩
def SEC_STAT.WARN_EV (n : Nat) : Field := ⟨0x5010000 + 0x10000 * n, 4, 1, 0⟩
def SEC_STAT.AUTH_EV (n : Nat) : Field := ⟨0x5010000 + 0x10000 * n, 3, 1, 0⟩
def SEC_STAT.FAULT_EV (n : Nat) : Field := ⟨0x5010000 + 0x10000 * n, 2, 1, 0⟩
def SEC_STAT.SUSP_EV (n : Nat) : Field := ⟨0x5010000 + 0x10000 * n, 1, 1, 0⟩
/-- SEC_CTRL, Table 12.13 (R302). -/
def SEC_CTRL.WARN (n : Nat) : Field := ⟨0x5010004 + 0x10000 * n, 16, 8, 0x10⟩
def SEC_CTRL.RETAIN (n : Nat) : Field := ⟨0x5010004 + 0x10000 * n, 8, 8, 8⟩
def SEC_CTRL.ERASE_REL (n : Nat) : Field := ⟨0x5010004 + 0x10000 * n, 0, 1, 1⟩
/-- SEC_PIPE, Table 12.13 (R302). -/
def SEC_PIPE.FENCED (n : Nat) : Field := ⟨0x5010008 + 0x10000 * n, 16, 16, 0⟩
def SEC_PIPE.ACTIVE (n : Nat) : Field := ⟨0x5010008 + 0x10000 * n, 0, 16, 0⟩
/-- SEC_PIPE_CMD, Table 12.13 (R302). -/
def SEC_PIPE_CMD.FORCE (n : Nat) : Field := ⟨0x501000C + 0x10000 * n, 31, 1, 0⟩
def SEC_PIPE_CMD.PIPE (n : Nat) : Field := ⟨0x501000C + 0x10000 * n, 0, 4, 0⟩
/-- SEC_ROLL_CTRL, Table 12.13 (R302). -/
def SEC_ROLL_CTRL.GO (n : Nat) : Field := ⟨0x5010010 + 0x10000 * n, 31, 1, 0⟩
def SEC_ROLL_CTRL.BASE (n : Nat) : Field := ⟨0x5010010 + 0x10000 * n, 16, 10, 0⟩
def SEC_ROLL_CTRL.LEAD (n : Nat) : Field := ⟨0x5010010 + 0x10000 * n, 0, 16, 0x100⟩
/-- SEC_ROLL_MAP0, Table 12.13 (R302). -/
def SEC_ROLL_MAP0.MAP (n : Nat) : Field := ⟨0x5010014 + 0x10000 * n, 0, 32, 0⟩
/-- SEC_ROLL_MAP1, Table 12.13 (R302). -/
def SEC_ROLL_MAP1.MAP (n : Nat) : Field := ⟨0x5010018 + 0x10000 * n, 0, 32, 0⟩
/-- SEC_ROLL_STAT, Table 12.13 (R302). -/
def SEC_ROLL_STAT.CAUSE (n : Nat) : Field := ⟨0x501001C + 0x10000 * n, 8, 4, 0⟩
def SEC_ROLL_STAT.PEER (n : Nat) : Field := ⟨0x501001C + 0x10000 * n, 4, 1, 0⟩
def SEC_ROLL_STAT.STATE (n : Nat) : Field := ⟨0x501001C + 0x10000 * n, 0, 3, 0⟩
/-- SEC_ROLL_MF, Table 12.13 (R302). -/
def SEC_ROLL_MF.M (n : Nat) : Field := ⟨0x5010020 + 0x10000 * n, 0, 32, 0⟩
/-- SEC_CNT, Table 12.13 (R302). -/
def SEC_CNT.AUTH (n : Nat) : Field := ⟨0x5010030 + 0x10000 * n, 16, 16, 0⟩
def SEC_CNT.FAULT (n : Nat) : Field := ⟨0x5010030 + 0x10000 * n, 0, 16, 0⟩

/-- Host-access rows of the SEC block. -/
def regsSec : List Reg := [
  ⟨0x5010000, [(4, 0x10000)], 1, .plain, [⟨(SEC_STAT.FENCE_EV 0), .w1c, .live, 2, .any⟩,
    ⟨(SEC_STAT.ROLL_EV 0), .w1c, .live, 2, .any⟩,
    ⟨(SEC_STAT.ROLLF_EV 0), .w1c, .live, 2, .any⟩,
    ⟨(SEC_STAT.LIMIT_EV 0), .w1c, .live, 2, .any⟩,
    ⟨(SEC_STAT.WARN_EV 0), .w1c, .live, 2, .any⟩,
    ⟨(SEC_STAT.AUTH_EV 0), .w1c, .live, 2, .any⟩,
    ⟨(SEC_STAT.FAULT_EV 0), .w1c, .live, 2, .any⟩,
    ⟨(SEC_STAT.SUSP_EV 0), .w1c, .live, 2, .any⟩]⟩,
  ⟨0x5010004, [(4, 0x10000)], 1, .plain, [⟨(SEC_CTRL.WARN 0), .rw, .live, 3, .rng 1 255⟩,
    ⟨(SEC_CTRL.RETAIN 0), .rw, .live, 3, .rng 4 255⟩,
    ⟨(SEC_CTRL.ERASE_REL 0), .rw, .live, 3, .any⟩]⟩,
  ⟨0x5010008, [(4, 0x10000)], 1, .plain, [⟨(SEC_PIPE.FENCED 0), .ro, .live, 3, .any⟩,
    ⟨(SEC_PIPE.ACTIVE 0), .ro, .live, 3, .any⟩]⟩,
  ⟨0x501000C, [(4, 0x10000)], 1, .plain, [⟨(SEC_PIPE_CMD.FORCE 0), .wo, .live, 3, .any⟩,
    ⟨(SEC_PIPE_CMD.PIPE 0), .wo, .live, 3, .any⟩]⟩,
  ⟨0x5010010, [(4, 0x10000)], 1, .plain, [⟨(SEC_ROLL_CTRL.GO 0), .wo, .live, 3, .any⟩,
    ⟨(SEC_ROLL_CTRL.BASE 0), .rw, .live, 3, .mult 64⟩,
    ⟨(SEC_ROLL_CTRL.LEAD 0), .rw, .live, 3, .any⟩]⟩,
  ⟨0x5010014, [(4, 0x10000)], 1, .plain, [⟨(SEC_ROLL_MAP0.MAP 0), .rw, .live, 3, .any⟩]⟩,
  ⟨0x5010018, [(4, 0x10000)], 1, .plain, [⟨(SEC_ROLL_MAP1.MAP 0), .rw, .live, 3, .any⟩]⟩,
  ⟨0x501001C, [(4, 0x10000)], 1, .plain, [⟨(SEC_ROLL_STAT.CAUSE 0), .ro, .live, 3, .any⟩,
    ⟨(SEC_ROLL_STAT.PEER 0), .ro, .live, 3, .any⟩,
    ⟨(SEC_ROLL_STAT.STATE 0), .ro, .live, 3, .any⟩]⟩,
  ⟨0x5010020, [(4, 0x10000)], 1, .plain, [⟨(SEC_ROLL_MF.M 0), .ro, .live, 3, .any⟩]⟩,
  ⟨0x5010030, [(4, 0x10000)], 1, .plain, [⟨(SEC_CNT.AUTH 0), .rc, .live, 3, .any⟩,
    ⟨(SEC_CNT.FAULT 0), .rc, .live, 3, .any⟩]⟩]

end Sys2Proof.Machine
end

