-- ==== Sys2Proof/Machine/RegsTables.lean ====
section
/-! DEFINITION. The register fields of the tables of table space whose entries software or hardware changes field by field (Table
22.10), from the entry maps of spec/, and the rows by which a host access of their words is judged. -/

namespace Sys2Proof.Machine

/-- TRB_TRIB, Table 9.5 (R230, R219: the active table). -/
def TRB_TRIB.EN (n t : Nat) : Field := ⟨0x8600000 + 0x10000 * n + 0x10 * t, 31, 1, 0⟩
def TRB_TRIB.ENC (n t : Nat) : Field := ⟨0x8600000 + 0x10000 * n + 0x10 * t, 30, 1, 0⟩
def TRB_TRIB.GEN (n t : Nat) : Field := ⟨0x8600000 + 0x10000 * n + 0x10 * t, 16, 8, 0⟩
def TRB_TRIB.START (n t : Nat) : Field := ⟨0x8600000 + 0x10000 * n + 0x10 * t, 0, 11, 0⟩
def TRB_TRIB.CLIENT (n t : Nat) : Field := ⟨0x8600004 + 0x10000 * n + 0x10 * t, 24, 8, 0⟩
def TRB_TRIB.LAST_GEN (n t : Nat) : Field := ⟨0x8600004 + 0x10000 * n + 0x10 * t, 16, 8, 0⟩
def TRB_TRIB.COUNT (n t : Nat) : Field := ⟨0x8600004 + 0x10000 * n + 0x10 * t, 0, 11, 0⟩
def TRB_TRIB.CM (n t : Nat) : Field := ⟨0x8600008 + 0x10000 * n + 0x10 * t, 0, 30, 0⟩
def TRB_TRIB.STATE (n t : Nat) : Field := ⟨0x860000C + 0x10000 * n + 0x10 * t, 29, 3, 0⟩
def TRB_TRIB.CARRY (n t : Nat) : Field := ⟨0x860000C + 0x10000 * n + 0x10 * t, 28, 1, 0⟩
def TRB_TRIB.KI_TX (n t : Nat) : Field := ⟨0x860000C + 0x10000 * n + 0x10 * t, 27, 1, 0⟩
def TRB_TRIB.KI_RX (n t : Nat) : Field := ⟨0x860000C + 0x10000 * n + 0x10 * t, 26, 1, 0⟩
def TRB_TRIB.REMOTE (n t : Nat) : Field := ⟨0x860000C + 0x10000 * n + 0x10 * t, 25, 1, 0⟩
def TRB_TRIB.LEARNED (n t : Nat) : Field := ⟨0x860000C + 0x10000 * n + 0x10 * t, 24, 1, 0⟩
def TRB_TRIB.RX_GEN (n t : Nat) : Field := ⟨0x860000C + 0x10000 * n + 0x10 * t, 16, 8, 0⟩
def TRB_TRIB.LASTV (n t : Nat) : Field := ⟨0x860000C + 0x10000 * n + 0x10 * t, 15, 1, 0⟩
def TRB_TRIB.PPM (n t : Nat) : Field := ⟨0x860000C + 0x10000 * n + 0x10 * t, 0, 15, 0⟩

/-- Host-access rows of TRB_TRIB. -/
def regsTrbTrib : List Reg := [
  ⟨0x8600000, [(4, 0x10000), (1024, 0x10)], 1, .plain, [⟨TRB_TRIB.EN 0 0, .ro, .live, 2, .any⟩,
    ⟨TRB_TRIB.ENC 0 0, .ro, .live, 2, .any⟩,
    ⟨TRB_TRIB.GEN 0 0, .ro, .live, 2, .any⟩,
    ⟨TRB_TRIB.START 0 0, .ro, .live, 2, .any⟩]⟩,
  ⟨0x8600004, [(4, 0x10000), (1024, 0x10)], 1, .plain, [⟨TRB_TRIB.CLIENT 0 0, .ro, .live, 2, .any⟩,
    ⟨TRB_TRIB.LAST_GEN 0 0, .ro, .live, 2, .any⟩,
    ⟨TRB_TRIB.COUNT 0 0, .ro, .live, 2, .any⟩]⟩,
  ⟨0x8600008, [(4, 0x10000), (1024, 0x10)], 1, .plain, [⟨TRB_TRIB.CM 0 0, .ro, .live, 2, .any⟩]⟩,
  ⟨0x860000C, [(4, 0x10000), (1024, 0x10)], 1, .plain, [⟨TRB_TRIB.STATE 0 0, .ro, .live, 2, .any⟩,
    ⟨TRB_TRIB.CARRY 0 0, .ro, .live, 2, .any⟩,
    ⟨TRB_TRIB.KI_TX 0 0, .ro, .live, 2, .any⟩,
    ⟨TRB_TRIB.KI_RX 0 0, .ro, .live, 2, .any⟩,
    ⟨TRB_TRIB.REMOTE 0 0, .ro, .live, 2, .any⟩,
    ⟨TRB_TRIB.LEARNED 0 0, .ro, .live, 2, .any⟩,
    ⟨TRB_TRIB.RX_GEN 0 0, .ro, .live, 2, .any⟩,
    ⟨TRB_TRIB.LASTV 0 0, .ro, .live, 2, .any⟩,
    ⟨TRB_TRIB.PPM 0 0, .ro, .live, 2, .any⟩]⟩]

/-- TRB_SHD, Table 9.5 (R230, R219: the shadow table). -/
def TRB_SHD.EN (n t : Nat) : Field := ⟨0x8608000 + 0x10000 * n + 0x10 * t, 31, 1, 0⟩
def TRB_SHD.ENC (n t : Nat) : Field := ⟨0x8608000 + 0x10000 * n + 0x10 * t, 30, 1, 0⟩
def TRB_SHD.GEN (n t : Nat) : Field := ⟨0x8608000 + 0x10000 * n + 0x10 * t, 16, 8, 0⟩
def TRB_SHD.START (n t : Nat) : Field := ⟨0x8608000 + 0x10000 * n + 0x10 * t, 0, 11, 0⟩
def TRB_SHD.CLIENT (n t : Nat) : Field := ⟨0x8608004 + 0x10000 * n + 0x10 * t, 24, 8, 0⟩
def TRB_SHD.LAST_GEN (n t : Nat) : Field := ⟨0x8608004 + 0x10000 * n + 0x10 * t, 16, 8, 0⟩
def TRB_SHD.COUNT (n t : Nat) : Field := ⟨0x8608004 + 0x10000 * n + 0x10 * t, 0, 11, 0⟩
def TRB_SHD.CM (n t : Nat) : Field := ⟨0x8608008 + 0x10000 * n + 0x10 * t, 0, 30, 0⟩
def TRB_SHD.STATE (n t : Nat) : Field := ⟨0x860800C + 0x10000 * n + 0x10 * t, 29, 3, 0⟩
def TRB_SHD.CARRY (n t : Nat) : Field := ⟨0x860800C + 0x10000 * n + 0x10 * t, 28, 1, 0⟩
def TRB_SHD.KI_TX (n t : Nat) : Field := ⟨0x860800C + 0x10000 * n + 0x10 * t, 27, 1, 0⟩
def TRB_SHD.KI_RX (n t : Nat) : Field := ⟨0x860800C + 0x10000 * n + 0x10 * t, 26, 1, 0⟩
def TRB_SHD.REMOTE (n t : Nat) : Field := ⟨0x860800C + 0x10000 * n + 0x10 * t, 25, 1, 0⟩
def TRB_SHD.LEARNED (n t : Nat) : Field := ⟨0x860800C + 0x10000 * n + 0x10 * t, 24, 1, 0⟩
def TRB_SHD.RX_GEN (n t : Nat) : Field := ⟨0x860800C + 0x10000 * n + 0x10 * t, 16, 8, 0⟩
def TRB_SHD.LASTV (n t : Nat) : Field := ⟨0x860800C + 0x10000 * n + 0x10 * t, 15, 1, 0⟩
def TRB_SHD.PPM (n t : Nat) : Field := ⟨0x860800C + 0x10000 * n + 0x10 * t, 0, 15, 0⟩

/-- Host-access rows of TRB_SHD. -/
def regsTrbShd : List Reg := [
  ⟨0x8608000, [(4, 0x10000), (1024, 0x10)], 1, .plain, [⟨TRB_SHD.EN 0 0, .rw, .live, 2, .any⟩,
    ⟨TRB_SHD.ENC 0 0, .rw, .live, 2, .any⟩,
    ⟨TRB_SHD.GEN 0 0, .ro, .live, 2, .any⟩,
    ⟨TRB_SHD.START 0 0, .rw, .live, 2, .rng 0 1279⟩]⟩,
  ⟨0x8608004, [(4, 0x10000), (1024, 0x10)], 1, .plain, [⟨TRB_SHD.CLIENT 0 0, .rw, .live, 2, .any⟩,
    ⟨TRB_SHD.LAST_GEN 0 0, .ro, .live, 2, .any⟩,
    ⟨TRB_SHD.COUNT 0 0, .rw, .live, 2, .rng 0 1280⟩]⟩,
  ⟨0x8608008, [(4, 0x10000), (1024, 0x10)], 1, .plain, [⟨TRB_SHD.CM 0 0, .ro, .live, 2, .any⟩]⟩,
  ⟨0x860800C, [(4, 0x10000), (1024, 0x10)], 1, .plain, [⟨TRB_SHD.STATE 0 0, .ro, .live, 2, .any⟩,
    ⟨TRB_SHD.CARRY 0 0, .ro, .live, 2, .any⟩,
    ⟨TRB_SHD.KI_TX 0 0, .ro, .live, 2, .any⟩,
    ⟨TRB_SHD.KI_RX 0 0, .ro, .live, 2, .any⟩,
    ⟨TRB_SHD.REMOTE 0 0, .ro, .live, 2, .any⟩,
    ⟨TRB_SHD.LEARNED 0 0, .ro, .live, 2, .any⟩,
    ⟨TRB_SHD.RX_GEN 0 0, .ro, .live, 2, .any⟩,
    ⟨TRB_SHD.LASTV 0 0, .ro, .live, 2, .any⟩,
    ⟨TRB_SHD.PPM 0 0, .ro, .live, 2, .any⟩]⟩]

/-- HST_CLI, Table 10.10 (R254: the client table). -/
def HST_CLI.EN (n c : Nat) : Field := ⟨0x8700000 + 0x10000 * n + 0x10 * c, 31, 1, 0⟩
def HST_CLI.KIND (n c : Nat) : Field := ⟨0x8700000 + 0x10000 * n + 0x10 * c, 30, 1, 0⟩
def HST_CLI.RATE5 (n c : Nat) : Field := ⟨0x8700000 + 0x10000 * n + 0x10 * c, 16, 9, 0⟩
def HST_CLI.HOME (n c : Nat) : Field := ⟨0x8700000 + 0x10000 * n + 0x10 * c, 0, 4, 0⟩
def HST_CLI.IN (n c : Nat) : Field := ⟨0x8700004 + 0x10000 * n + 0x10 * c, 30, 2, 0⟩
def HST_CLI.OUT (n c : Nat) : Field := ⟨0x8700004 + 0x10000 * n + 0x10 * c, 28, 2, 0⟩
def HST_CLI.MAPPED (n c : Nat) : Field := ⟨0x8700004 + 0x10000 * n + 0x10 * c, 27, 1, 0⟩
def HST_CLI.CREDITED (n c : Nat) : Field := ⟨0x8700004 + 0x10000 * n + 0x10 * c, 26, 1, 0⟩
def HST_CLI.LF_SEEN (n c : Nat) : Field := ⟨0x8700004 + 0x10000 * n + 0x10 * c, 25, 1, 0⟩
def HST_CLI.PPM (n c : Nat) : Field := ⟨0x8700004 + 0x10000 * n + 0x10 * c, 0, 16, 0⟩
def HST_CLI.ERRBLK (n c : Nat) : Field := ⟨0x8700008 + 0x10000 * n + 0x10 * c, 16, 16, 0⟩
def HST_CLI.UNDER (n c : Nat) : Field := ⟨0x8700008 + 0x10000 * n + 0x10 * c, 0, 16, 0⟩
def HST_CLI.OVF (n c : Nat) : Field := ⟨0x870000C + 0x10000 * n + 0x10 * c, 16, 16, 0⟩
def HST_CLI.REPL (n c : Nat) : Field := ⟨0x870000C + 0x10000 * n + 0x10 * c, 0, 16, 0⟩

/-- Host-access rows of HST_CLI. -/
def regsHstCli : List Reg := [
  ⟨0x8700000, [(4, 0x10000), (256, 0x10)], 1, .plain, [⟨HST_CLI.EN 0 0, .rw, .static, 2, .any⟩,
    ⟨HST_CLI.KIND 0 0, .rw, .static, 2, .any⟩,
    ⟨HST_CLI.RATE5 0 0, .ro, .live, 2, .any⟩,
    ⟨HST_CLI.HOME 0 0, .rw, .static, 2, .any⟩]⟩,
  ⟨0x8700004, [(4, 0x10000), (256, 0x10)], 1, .plain, [⟨HST_CLI.IN 0 0, .ro, .live, 2, .any⟩,
    ⟨HST_CLI.OUT 0 0, .ro, .live, 2, .any⟩,
    ⟨HST_CLI.MAPPED 0 0, .ro, .live, 2, .any⟩,
    ⟨HST_CLI.CREDITED 0 0, .ro, .live, 2, .any⟩,
    ⟨HST_CLI.LF_SEEN 0 0, .ro, .live, 2, .any⟩,
    ⟨HST_CLI.PPM 0 0, .ro, .live, 2, .any⟩]⟩,
  ⟨0x8700008, [(4, 0x10000), (256, 0x10)], 1, .plain, [⟨HST_CLI.ERRBLK 0 0, .rc, .live, 2, .any⟩,
    ⟨HST_CLI.UNDER 0 0, .rc, .live, 2, .any⟩]⟩,
  ⟨0x870000C, [(4, 0x10000), (256, 0x10)], 1, .plain, [⟨HST_CLI.OVF 0 0, .rc, .live, 2, .any⟩,
    ⟨HST_CLI.REPL 0 0, .rc, .live, 2, .any⟩]⟩]

/-- HST_CAL, Table 10.11 (R254: the FlexE calendars). -/
def HST_CAL.B_VALID (n g s : Nat) : Field := ⟨0x8701000 + 0x10000 * n + 0xA00 * g + 4 * s, 31, 1, 0⟩
def HST_CAL.B_CLIENT (n g s : Nat) : Field := ⟨0x8701000 + 0x10000 * n + 0xA00 * g + 4 * s, 16, 8, 0⟩
def HST_CAL.A_VALID (n g s : Nat) : Field := ⟨0x8701000 + 0x10000 * n + 0xA00 * g + 4 * s, 15, 1, 0⟩
def HST_CAL.A_CLIENT (n g s : Nat) : Field := ⟨0x8701000 + 0x10000 * n + 0xA00 * g + 4 * s, 0, 8, 0⟩

/-- Host-access rows of HST_CAL. -/
def regsHstCal : List Reg := [
  ⟨0x8701000, [(4, 0x10000), (8, 0xA00), (640, 4)], 1, .plain, [⟨HST_CAL.B_VALID 0 0 0, .rw, .live, 2, .any⟩,
    ⟨HST_CAL.B_CLIENT 0 0 0, .rw, .live, 2, .any⟩,
    ⟨HST_CAL.A_VALID 0 0 0, .rw, .live, 2, .any⟩,
    ⟨HST_CAL.A_CLIENT 0 0 0, .rw, .live, 2, .any⟩]⟩]

/-- SEC_TEN, Table 12.14 (R302: the tenant table). -/
def SEC_TEN.LIMIT (n t : Nat) : Field := ⟨0x8800000 + 0x10000 * n + 0x20 * t, 31, 1, 0⟩
def SEC_TEN.WARN (n t : Nat) : Field := ⟨0x8800000 + 0x10000 * n + 0x20 * t, 30, 1, 0⟩
def SEC_TEN.SUSP (n t : Nat) : Field := ⟨0x8800000 + 0x10000 * n + 0x20 * t, 29, 1, 0⟩
def SEC_TEN.KI_TX (n t : Nat) : Field := ⟨0x8800000 + 0x10000 * n + 0x20 * t, 28, 1, 0⟩
def SEC_TEN.KI_RX (n t : Nat) : Field := ⟨0x8800000 + 0x10000 * n + 0x20 * t, 27, 1, 0⟩
def SEC_TEN.DIR (n t : Nat) : Field := ⟨0x8800000 + 0x10000 * n + 0x20 * t, 26, 1, 0⟩
def SEC_TEN.ROLL_ERR (n t : Nat) : Field := ⟨0x8800000 + 0x10000 * n + 0x20 * t, 20, 4, 0⟩
def SEC_TEN.ROLLS (n t : Nat) : Field := ⟨0x8800000 + 0x10000 * n + 0x20 * t, 8, 8, 0⟩
def SEC_TEN.GEN (n t : Nat) : Field := ⟨0x8800000 + 0x10000 * n + 0x20 * t, 0, 8, 0⟩
def SEC_TEN.SEALS (n t : Nat) : Field := ⟨0x8800004 + 0x10000 * n + 0x20 * t, 0, 32, 0⟩
def SEC_TEN.SEALS_HI (n t : Nat) : Field := ⟨0x8800008 + 0x10000 * n + 0x20 * t, 0, 1, 0⟩
def SEC_TEN.AUTH (n t : Nat) : Field := ⟨0x880000C + 0x10000 * n + 0x20 * t, 16, 16, 0⟩
def SEC_TEN.REPLAY (n t : Nat) : Field := ⟨0x880000C + 0x10000 * n + 0x20 * t, 0, 16, 0⟩
def SEC_TEN.FAULT_RX (n t : Nat) : Field := ⟨0x8800010 + 0x10000 * n + 0x20 * t, 16, 16, 0⟩
def SEC_TEN.FAULT_TX (n t : Nat) : Field := ⟨0x8800010 + 0x10000 * n + 0x20 * t, 0, 16, 0⟩

/-- Host-access rows of SEC_TEN. -/
def regsSecTen : List Reg := [
  ⟨0x8800000, [(4, 0x10000), (1024, 0x20)], 1, .plain, [⟨SEC_TEN.LIMIT 0 0, .ro, .live, 2, .any⟩,
    ⟨SEC_TEN.WARN 0 0, .ro, .live, 2, .any⟩,
    ⟨SEC_TEN.SUSP 0 0, .ro, .live, 2, .any⟩,
    ⟨SEC_TEN.KI_TX 0 0, .ro, .live, 2, .any⟩,
    ⟨SEC_TEN.KI_RX 0 0, .ro, .live, 2, .any⟩,
    ⟨SEC_TEN.DIR 0 0, .ro, .live, 2, .any⟩,
    ⟨SEC_TEN.ROLL_ERR 0 0, .ro, .live, 2, .any⟩,
    ⟨SEC_TEN.ROLLS 0 0, .ro, .live, 2, .any⟩,
    ⟨SEC_TEN.GEN 0 0, .ro, .live, 2, .any⟩]⟩,
  ⟨0x8800004, [(4, 0x10000), (1024, 0x20)], 1, .plain, [⟨SEC_TEN.SEALS 0 0, .ro, .live, 2, .any⟩]⟩,
  ⟨0x8800008, [(4, 0x10000), (1024, 0x20)], 1, .plain, [⟨SEC_TEN.SEALS_HI 0 0, .ro, .live, 2, .any⟩]⟩,
  ⟨0x880000C, [(4, 0x10000), (1024, 0x20)], 1, .plain, [⟨SEC_TEN.AUTH 0 0, .rc, .live, 2, .any⟩,
    ⟨SEC_TEN.REPLAY 0 0, .rc, .live, 2, .any⟩]⟩,
  ⟨0x8800010, [(4, 0x10000), (1024, 0x20)], 1, .plain, [⟨SEC_TEN.FAULT_RX 0 0, .rc, .live, 2, .any⟩,
    ⟨SEC_TEN.FAULT_TX 0 0, .rc, .live, 2, .any⟩]⟩]

/-- KEY_SLOT, Table 12.12 (R301: tenant key slots). -/
def KEY_SLOT.STATE (g : Nat) : Field := ⟨0x8900000 + 8 * g, 29, 3, 0⟩
def KEY_SLOT.USE_TX (g : Nat) : Field := ⟨0x8900000 + 8 * g, 28, 1, 0⟩
def KEY_SLOT.USE_RX (g : Nat) : Field := ⟨0x8900000 + 8 * g, 27, 1, 0⟩
def KEY_SLOT.CASTING (g : Nat) : Field := ⟨0x8900000 + 8 * g, 26, 1, 0⟩
def KEY_SLOT.WRAP (g : Nat) : Field := ⟨0x8900000 + 8 * g, 16, 8, 0⟩
def KEY_SLOT.LOADS (g : Nat) : Field := ⟨0x8900000 + 8 * g, 0, 16, 0⟩
def KEY_SLOT.TIME (g : Nat) : Field := ⟨0x8900004 + 8 * g, 0, 32, 0⟩

/-- Host-access rows of KEY_SLOT. -/
def regsKeySlot : List Reg := [
  ⟨0x8900000, [(8192, 8)], 1, .plain, [⟨KEY_SLOT.STATE 0, .ro, .live, 2, .any⟩,
    ⟨KEY_SLOT.USE_TX 0, .ro, .live, 2, .any⟩,
    ⟨KEY_SLOT.USE_RX 0, .ro, .live, 2, .any⟩,
    ⟨KEY_SLOT.CASTING 0, .ro, .live, 2, .any⟩,
    ⟨KEY_SLOT.WRAP 0, .ro, .live, 2, .any⟩,
    ⟨KEY_SLOT.LOADS 0, .ro, .live, 2, .any⟩]⟩,
  ⟨0x8900004, [(8192, 8)], 1, .plain, [⟨KEY_SLOT.TIME 0, .ro, .live, 2, .any⟩]⟩]

/-- KEY_KEK, Table 12.12 (R301: KEK key slots). -/
def KEY_KEK.STATE (j : Nat) : Field := ⟨0x8910000 + 8 * j, 29, 3, 0⟩
def KEY_KEK.USE_TX (j : Nat) : Field := ⟨0x8910000 + 8 * j, 28, 1, 0⟩
def KEY_KEK.USE_RX (j : Nat) : Field := ⟨0x8910000 + 8 * j, 27, 1, 0⟩
def KEY_KEK.CASTING (j : Nat) : Field := ⟨0x8910000 + 8 * j, 26, 1, 0⟩
def KEY_KEK.WRAP (j : Nat) : Field := ⟨0x8910000 + 8 * j, 16, 8, 0⟩
def KEY_KEK.LOADS (j : Nat) : Field := ⟨0x8910000 + 8 * j, 0, 16, 0⟩
def KEY_KEK.TIME (j : Nat) : Field := ⟨0x8910004 + 8 * j, 0, 32, 0⟩

/-- Host-access rows of KEY_KEK. -/
def regsKeyKek : List Reg := [
  ⟨0x8910000, [(64, 8)], 1, .plain, [⟨KEY_KEK.STATE 0, .ro, .live, 2, .any⟩,
    ⟨KEY_KEK.USE_TX 0, .ro, .live, 2, .any⟩,
    ⟨KEY_KEK.USE_RX 0, .ro, .live, 2, .any⟩,
    ⟨KEY_KEK.CASTING 0, .ro, .live, 2, .any⟩,
    ⟨KEY_KEK.WRAP 0, .ro, .live, 2, .any⟩,
    ⟨KEY_KEK.LOADS 0, .ro, .live, 2, .any⟩]⟩,
  ⟨0x8910004, [(64, 8)], 1, .plain, [⟨KEY_KEK.TIME 0, .ro, .live, 2, .any⟩]⟩]

end Sys2Proof.Machine
end

