-- ==== Sys2Proof/Machine/State.lean ====
section
/-! DEFINITION. The state of the JK12800 block, plain data, and its value right after reset. -/

namespace Sys2Proof.Machine

/-- One value for each of the four channels (R22). -/
structure Quad (α : Type) where
  c0 : α
  c1 : α
  c2 : α
  c3 : α
  deriving DecidableEq, Repr

/-- Stage of a PAYLOAD token between its ledger's two counting points (Tables 1.2, 1.3, 2.5). -/
inductive Stage where
  /-- transmit: in a credited client's staging buffer of HST (R237) -/
  | txStaged
  /-- transmit: in TRB -/
  | txTrb
  /-- transmit: in SEC -/
  | txSec
  /-- receive: in SEC, after the framer's demultiplexer -/
  | rxSec
  /-- receive: in TRB -/
  | rxTrb
  deriving DecidableEq, Repr

/-- A PAYLOAD token inside the fabric: where it is, the fields of its tag (Table 2.1) and its 512 payload bits, the
earliest in payload bit 0 (R47, R236). -/
structure Token where
  stage : Stage
  trib : Nat
  poison : Bool
  uncorr : Bool
  data : BitVec 512
  deriving DecidableEq, Repr

/-- Geometry of a codeword (R179 to R182). -/
structure Geo where
  /-- labels of both polarisations, 7,000 in the device -/
  labels : Nat
  /-- bits of a label -/
  m : Nat
  /-- parity bits -/
  p : Nat
  /-- data bits of a matcher block -/
  k : Nat
  /-- 0 BLP15, 1 BLP25, 2 CFEC, 3 oFEC -/
  code : Nat
  /-- composition of a matcher block; none where no matcher runs -/
  counts : List Nat
  /-- symbol rate in 0.01 GBd, and roll-off code of Table 7.3 -/
  rs : Nat
  roll : Nat
  deriving DecidableEq, Repr

/-- A complex number, in 2^-20. -/
structure Cpx where
  re : Int
  im : Int
  deriving DecidableEq, Repr

/-- The counters of the four ledgers of one channel (Table 2.5).  Counts are exact; the value a register or record
shows is the count modulo 2^48, or modulo 2^96 for a drop pair (R59, R378). -/
structure Ledger where
  txIn : Nat
  txOut : Nat
  txOvf : Nat
  txNotrib : Nat
  txGmp : Nat
  txRetired : Nat
  txCap : Nat
  txLimit : Nat
  txFault : Nat
  txPoison : Nat
  txFence : Nat
  txFlush : Nat
  rxIn : Nat
  rxOut : Nat
  rxGen : Nat
  rxAuth : Nat
  rxCap : Nat
  rxFault : Nat
  rxNotrib : Nat
  rxGmp : Nat
  rxLane : Nat
  rxOvf : Nat
  rxPoison : Nat
  rxFence : Nat
  rxFlush : Nat
  cwIn : Nat
  cwOut : Nat
  cwBudget : Nat
  cwFence : Nat
  cwFlush : Nat
  cwUncorr : Nat
  crdIssued : Nat
  crdUsed : Nat
  crdReclaim : Nat
  deriving DecidableEq, Repr

/-- A codeword in the decoder window (R188, R189). -/
structure Codeword where
  /-- FEC_CW_IN at its dispatch -/
  seq : Nat
  /-- DEV_TIME in ns at its dispatch -/
  t0 : Nat
  /-- iterations done -/
  iter : Nat
  /-- engine that works on it, when one does -/
  engine : Option Nat
  /-- CD tile whose lent buffer holds its LLRs; none: the demapper's memory (R141) -/
  lent : Option Nat
  /-- engine of the last iteration -/
  last : Option Nat
  /-- sampling candidate (R202) -/
  cand : Bool
  geo : Geo
  /-- input LLRs in ascending e, as quantised (R138) -/
  llr : List Int
  /-- the same before quantisation, in 2^-16 -/
  soft : List Int
  /-- posterior LLRs -/
  post : List Int
  /-- what the last pass sent from each check to its bits -/
  msgs : List (List Int)
  deriving DecidableEq, Repr

/-- What is in flight in one channel's fabric, with the ledger that counts it (R56 to R60). -/
structure Flow where
  led : Ledger
  /-- PAYLOAD tokens between the counting points, oldest first -/
  tok : List Token
  /-- resident codewords, oldest first -/
  cws : List Codeword
  /-- credits outstanding: (client, credits), one entry a client -/
  crd : List (Nat × Nat)
  /-- false once LOCKDOWN has flushed the datapath without counting (Table 2.4, bit 3) -/
  whole : Bool
  deriving DecidableEq, Repr

def Ledger.zero : Ledger :=
  ⟨0, 0, 0, 0, 0, 0, 0, 0, 0, 0, 0, 0, 0, 0, 0, 0, 0, 0, 0, 0, 0, 0, 0, 0, 0, 0, 0, 0, 0, 0, 0, 0, 0, 0⟩

def Flow.empty : Flow := ⟨Ledger.zero, [], [], [], true⟩

/-- A mode profile of a channel (R76), with the tiles assigned to its stages (R411). -/
structure Profile where
  /-- mode code: 1 to 5 native, 6 custom, 7 ZR400, 8 ZRP400 (Table 3.10) -/
  mode : Nat
  /-- symbol rate in 0.01 GBd -/
  rs : Nat
  /-- bits per label per polarisation, m: 2, 4 or 6 -/
  m : Nat
  /-- 100 H -/
  hx : Nat
  /-- 0 BLP15, 1 BLP25, 2 CFEC, 3 oFEC -/
  code : Nat
  tslots : Nat
  /-- upper limit of the CD range in ns/nm -/
  cd : Nat
  /-- triplets, in units of 256 -/
  trip : Nat
  dfe : Bool
  /-- roll-off code of Table 7.3 -/
  roll : Nat
  /-- tiles allotted to a stage -/
  nCd : Nat
  nMimo : Nat
  nNlc : Nat
  /-- physical tiles assigned to a stage -/
  tCd : List Nat
  tMimo : List Nat
  tNlc : List Nat
  deriving DecidableEq, Repr

/-- The writable part of a tributary table entry (Table 9.5). -/
structure TribCfg where
  idx : Nat
  en : Bool
  enc : Bool
  start : Nat
  count : Nat
  client : Nat
  deriving DecidableEq, Repr

/-- A tributary overhead record (Table 9.4). -/
structure TorRec where
  act : Bool
  enc : Bool
  ki : Bool
  gen : Nat
  start : Nat
  count : Nat
  cm : Nat
  deriving DecidableEq, Repr

/-- A resize in progress, or the last one (R78 to R83). -/
structure Rsz where
  /-- this end proposed -/
  proposer : Bool
  target : Nat
  /-- TRIB = 1, with the shadow table as latched at the write (R78) -/
  trib : Bool
  table : List TribCfg
  /-- it changes tributaries only: the target is the active profile -/
  only : Bool
  /-- tributaries whose slots it changes -/
  resized : List Nat
  /-- the answer that this end's arm waits for has come: ACCEPT at the proposer, CONFIRM at its peer -/
  heard : Bool
  /-- the peer's target MFN, in the peer's transmit count (R267) -/
  peerMf : Nat
  /-- the receiver has switched (step 7), at this DEV_TIME -/
  rxAt : Option Nat
  /-- transmit MFN at which the last resize ended -/
  ended : Option Nat
  deriving DecidableEq, Repr

/-- A supervisory-channel message with the fields of its payload (Tables 11.4, 11.5). -/
inductive Msg where
  | heartbeat (id nonce state : Nat) (frame chip loop : Bool) (rep code : Nat)
  | telemetry (snr ber margin rxpwr unc lqseq : Nat)
  | host (w0 w1 w2 w3 : Nat)
  | modeOffer (block : Block) (agreed indoubt : Bool) (profile id : Nat)
  | resizePropose (block : Block) (trib : Bool) (tA : Nat)
  | resizeAccept (tA tB : Nat)
  | resizeRefuse (tA cause : Nat)
  | resizeConfirm (tA tB : Nat) (cancel : Bool)
  | rolloverAnnounce (m base map : Nat)
  | rolloverAck (m base map : Nat)
  deriving DecidableEq, Repr

/-- Where the replacement of a FAILING slice stands (Table 5.6). -/
inductive SwapStage where
  /-- waits for the converter's shadow calibration (step 2) -/
  | waiting
  /-- a spare is in SHADOW -/
  | shadow (spare : Nat)
  /-- the spare has converged and waits for the apply boundary (step 4) -/
  | ready (spare : Nat)
  /-- no spare: respacing at the next boundary (step 4a) -/
  | exhausted
  deriving DecidableEq, Repr

/-- One position of a channel to fill: that of a FAILING slice, in order of detection (R114), or one that a converter
regains while DARK (R118). -/
structure Swap where
  conv : Nat
  pos : Nat
  /-- the failed slice, as 68 conv + slice; none where a position is regained -/
  slice : Option Nat
  stage : SwapStage
  deriving DecidableEq, Repr

/-- A tenant's sealing in the present multiframe (R275, R287). -/
structure Sealing where
  trib : Nat
  /-- interval of its open unit; 1,024 after the last -/
  ix : Nat
  /-- plaintext that no unit holds yet, and whether a byte is replaced by 0x00 (R277) -/
  plain : List (Byte × Bool)
  /-- every later token of the open unit is replaced too (R277) -/
  bad : Bool
  deriving DecidableEq, Repr

/-- A received sealed unit whose tag is still to be checked (R290). -/
structure Sealed where
  /-- transmit MFN of the sender and interval -/
  mfn : Nat
  ix : Nat
  /-- bytes of ciphertext -/
  size : Nat
  seq : Nat
  tag : Nat
  /-- GEN and KI of the record in force -/
  gen : Nat
  ki : Bool
  /-- the positions held it whole -/
  whole : Bool
  deriving DecidableEq, Repr

/-- A tenant's opening (R287, R290). -/
structure Opening where
  trib : Nat
  /-- interval of the unit that is being received; 1,024 after the last -/
  ix : Nat
  /-- ciphertext that forms no token yet -/
  ct : List (Byte × Bool)
  /-- units whose tags are to be checked, oldest first -/
  due : List Sealed
  /-- place of the oldest unit's first byte in the tenant's oldest token -/
  off : Nat
  /-- tokens from there on that a fence has taken -/
  gone : Nat
  /-- the tenant's oldest token holds bytes of a unit that failed: by a fault (true), or otherwise -/
  spoilt : Option Bool
  /-- a fault of the open half meets the oldest unit (R277, R279) -/
  bad : Bool
  deriving DecidableEq, Repr

/-- The transmit line path of a channel, from LFR to the DACs (R156, R180 to R184, R205 to R217). -/
structure LineTx where
  /-- tributary records announced in the present multiframe, for the next one (R214) -/
  ann : List (Nat × TorRec)
  /-- those in force in the present multiframe -/
  now : List (Nat × TorRec)
  /-- number of the next frame of the multiframe; 4,096 when all are sent -/
  fn : Nat
  /-- BIP of the last frame sent (R210) -/
  bip : Nat
  sealing : List Sealing
  /-- bytes in LFR that wait for their tributary's data positions -/
  wait : List (Nat × List Byte)
  /-- bits in LFR that wait for link 0x04 -/
  bits4 : List Bool
  /-- sequence numbers of the next LINE tokens on links 0x04 and 0x05 (R182) -/
  seq4 : Nat
  seq5 : Nat
  /-- geometry of each codeword that has left LFR whole or in part and is not yet encoded -/
  geos : List Geo
  /-- data bits in the encoder -/
  enc : List Bool
  /-- information bits of the last four codewords encoded, newest first (R183) -/
  past : List (List Bool)
  /-- bits in the encoder that wait for link 0x05 -/
  bits5 : List Bool
  /-- geometry of each codeword that the transmit DSP has still to form, and of the last one it formed -/
  geos5 : List Geo
  geo : Option Geo
  /-- bits in the transmit DSP -/
  dsp : List Bool
  /-- pilot registers; none before the first pilot after PHASE becomes LIT (R165) -/
  pilot : Option (Nat × Nat)
  /-- symbols sent since PHASE became LIT -/
  sym : Nat
  /-- the last 96 symbols sent, oldest first, which the shaping filter still needs (R167) -/
  tail : List (Cpx × Cpx)
  /-- data symbols sent in substitute spans whose own tokens have not come yet (R173) -/
  late : Nat
  /-- samples of each lane clipped in the present 1 ms (R171) -/
  clips : List Nat
  /-- polarities of the code periods of the message being sent, oldest first, the symbol count at which its first began, and
  the polarity of the period before it (R257) -/
  periods : List Bool
  iscAt : Nat
  iscPol : Bool
  deriving DecidableEq, Repr

/-- A codeword that the decoder has let go, as later checks see it: its information bits, or none where they are erased, with
their number (R184, R186, R196). -/
structure PastCw where
  seq : Nat
  size : Nat
  info : Option (List Bool)
  deriving DecidableEq, Repr

/-- The receive line path of a channel, from the decoder to the framer's demultiplexer (R189 to R192, R205 to R218). -/
structure LineRx where
  /-- codewords let go, newest first -/
  past : List PastCw
  /-- every codeword before the chain's first is known to be all zero (R201) -/
  zero : Bool
  /-- output that waits for older codewords, under the codeword's number: data bits with UNCORR (R189) -/
  queue : List (Nat × List (Bool × Bool))
  /-- bits in the decoder that wait for link 0x12 -/
  bits12 : List (Bool × Bool)
  /-- sequence number of the next LINE token on link 0x12 -/
  seq12 : Nat
  /-- bits in LFR that are not yet framed -/
  bits : List (Bool × Bool)
  /-- the last frame header as received, and whether its frame's payload area, and its record, are still to be taken -/
  head : List Byte
  due : Bool
  tor : Bool
  /-- BIP of the frame before the header that comes next (R210) -/
  bip : Nat
  /-- client bytes extracted for each tributary, with UNCORR, that form no token yet -/
  got : List (Nat × List (Byte × Bool))
  opening : List Opening
  /-- number of the codeword that begins the frame at hand, or the next one -/
  base : Nat
  /-- that of the codeword which began the last multiframe reported (R185) -/
  mf : Option Nat
  /-- first codeword of the loaded profile, and the profile of those before it (R185) -/
  old : Option (Nat × Nat)
  deriving DecidableEq, Repr

/-- What the receive DSP of a channel adapts and measures (R132 to R138, R149, R152). -/
structure RxDsp where
  /-- 65 taps of each of the four filters XX, XY, YX, YY (R134) -/
  taps : List (List Cpx)
  /-- feedback taps of each of the four paths; none without decision feedback -/
  fb : List (List Cpx)
  /-- outputs exchanged, and quarter turns of X and of Y (R135) -/
  swap : Bool
  turnX : Nat
  turnY : Nat
  /-- pilot registers of the received sequences, once synchronised -/
  pilot : Option (Nat × Nat)
  /-- the last four decisions, newest first -/
  dec : List (Cpx × Cpx)
  /-- noise variance of X and of Y, and the sums towards the next one: pilots and error energy (R138) -/
  noise : Nat × Nat
  noiseSum : Nat × Nat × Nat
  /-- triplets and coefficients of the profile (R137) -/
  nlc : List (Int × Int × Cpx)
  /-- LLRs delivered for each coded bit and not yet assembled: quantised, and in 2^-16 -/
  llr : List (Int × Int)
  /-- tiles whose next block is discarded (R142) -/
  bad : List Nat
  /-- symbols whose LLRs are still to be erased (R136) -/
  slip : Nat
  /-- link-quality window: pilot energy and pilot error energy of X and Y; data symbols and their error energy; GMI terms,
  symbols of codewords released corrected, their coded bits and the bits that disagree (Table 6.5) -/
  px : Nat × Nat
  py : Nat × Nat
  evm : Nat × Nat
  gmi : Nat × Nat
  ber : Nat × Nat
  /-- convergence window: tap-update energy, and pilot energies of X and Y in it and in the one before (R149) -/
  update : Nat
  cx : Nat × Nat
  cy : Nat × Nat
  lastX : Nat × Nat
  lastY : Nat × Nat
  deriving DecidableEq, Repr

/-- What one channel holds beyond its registers and cells. -/
structure Chan where
  /-- profiles P0 to P3 (R76) -/
  prof : List (Option Profile)
  /-- framed values that wait for their boundary, oldest first (R14) -/
  framed : List (Field × Nat)
  rsz : Rsz
  /-- messages that wait for the supervisory transmitter, oldest first (R263) -/
  msgs : List Msg
  /-- message being sent -/
  sending : Option Msg
  /-- FAILING slices not yet replaced, in order of detection (R114) -/
  swaps : List Swap
  /-- shadow table as latched by the commit in progress or last made (R220) -/
  latched : List TribCfg
  /-- valid copies of the present received multiframe: the record they agree on, or none where they differ (R215) -/
  tor : List (Nat × Option TorRec)
  /-- records accepted for the present received multiframe (R215) -/
  recs : List (Nat × TorRec)
  /-- up to 16 last accepted CM values of a tributary, newest first (R218) -/
  cms : List (Nat × List Nat)
  /-- tokens in the clients' egress FIFOs, oldest first: client, UNCORR, payload (R244, R245) -/
  egress : List (Nat × Bool × BitVec 512)
  tx : LineTx
  rx : LineRx
  dsp : RxDsp
  deriving DecidableEq, Repr

/-- A request for the arbiter's vote (Table 15.2). -/
inductive Vote where
  /-- laser enable of channel n -/
  | laser (n : Nat)
  /-- arm of channel n's resize (R79) -/
  | resizeArm (n : Nat)
  /-- tributary activation of channel n (R220) -/
  | tribCommit (n : Nat)
  /-- loopback light of a FULL calibration run of channel n (R330) -/
  | loopback (n : Nat)
  /-- casting commit (R415) -/
  | casting
  /-- calibration apply (Table 14.5 step 4) -/
  | calApply
  /-- arm of channel n's rollover batch (Table 12.6) -/
  | rolloverArm (n : Nat)
  /-- root-key command (R283) -/
  | rootKey
  /-- fence clear of the mailbox command of a tag (R44) -/
  | fenceClear (tag : Nat)
  /-- firmware activation by the mailbox command of a tag (R356) -/
  | fwActivate (tag : Nat)
  /-- checkpoint (R346) -/
  | checkpoint
  /-- the requesting action was withdrawn while its vote was open -/
  | void (kind : Nat)
  deriving DecidableEq, Repr

/-- What the block sends outside. -/
inductive Out where
  /-- data of a read, in the order of its words (R423, R435) -/
  | readData (addr value : Nat)
  /-- a supervisory-channel message of channel n, sent whole (R263), spread with a code and each bit sent 2^rep times (R256,
  R257) -/
  | message (n seq : Nat) (m : Msg) (code rep : Nat)
  /-- codes to DACs 0 to 3 of channel n: XI, XQ, YI, YQ (R156) -/
  | dac (n : Nat) (codes : List (List Int))
  /-- the calendar request of channel n's FlexE group g for calendar b (0 A, 1 B), in the FlexE overhead (R247) -/
  | calendarRequest (n g b : Nat)
  /-- the acknowledgement of the host's calendar request (R247) -/
  | calendarAck (n g : Nat)
  /-- 64 bytes of client c's mapped stream on its lanes; where UNCORR was set, their blocks as error control blocks (R244) -/
  | hostToken (n c : Nat) (uncorr : Bool) (data : BitVec 512)
  /-- bytes that the device writes to host memory (R427) -/
  | hostMemory (addr : Nat) (bytes : List Byte)
  /-- an MSI-X message of a vector (R370) -/
  | msix (vector : Nat)
  /-- a 32-bit word on the SPI output (R435, R436) -/
  | spiWord (value : Nat)
  deriving DecidableEq, Repr

/-- One departure of an image from what it asks (Table 18.8). -/
structure RepEntry where
  sect : Nat
  sindex : Nat
  fid : Nat
  index : Nat
  reason : Nat
  detail : Nat
  req : Nat
  applied : Nat
  offset : Nat
  deriving DecidableEq, Repr

/-- One record of an image that the casting engine will apply: the word it writes (0 for a field of Table 18.6, which has no
address), the field, and the value as the field holds it (R403 to R406). -/
structure CastRec where
  sect : Nat
  sindex : Nat
  fid : Nat
  index : Nat
  addr : Nat
  fld : Field
  framed : Bool
  value : Nat
  /-- byte offset of the record -/
  offset : Nat
  deriving DecidableEq, Repr

/-- The image in the casting engine, as its check left it (R409 to R417). -/
structure CastPlan where
  recast : Bool
  auth : Bool
  maquette : Bool
  length : Nat
  id : Nat
  /-- SHA-256 of the image -/
  digest : List Byte
  /-- departures found, in the order found -/
  entries : List RepEntry
  /-- a section was refused -/
  refused : Bool
  /-- sections that passed, as (TYPE, INDEX) -/
  sections : List (Nat × Nat)
  /-- elements not yet applied, in order (R416) -/
  elems : List (List CastRec)
  /-- framed values held until step 6: (channel, field, value) (R416) -/
  framed : List (Nat × Field × Nat)
  deriving DecidableEq, Repr

/-- A firmware image in a slot, as R355 judges it: whether every check of R355 but the comparison of SVN passes. -/
structure FwSlot where
  good : Bool
  version : Nat
  svn : Nat
  deriving DecidableEq, Repr

/-- An accepted mailbox command that is not completed (R357, R358). -/
structure MbxCmd where
  tag : Nat
  gen : Nat
  op : Nat
  /-- payload words, LEN of them -/
  words : List Nat
  /-- its vote is open or waits, or its retest runs -/
  stage : Nat
  deriving DecidableEq, Repr

/-- A line of a protected bank (R385). -/
structure LineAt where
  /-- 65,536 times the physical bank, plus the line -/
  loc : Nat
  line : SramLine
  deriving DecidableEq, Repr

/-- A descriptor that a DMA queue carries out (R430): its element list as read, and where its DMA stands. -/
structure DmaRun where
  op : Nat
  notify : Bool
  id : Nat
  count : Nat
  list : Nat
  cpl : Nat
  deriving DecidableEq, Repr

/-- What a monitor converter's engine holds of one input: the CIC filter's integrators and comb delays (R303, R305), and
its last nine outputs, newest first (R310). -/
structure MonInput where
  integ : List Int
  comb : List Int
  hist : List Int
  deriving DecidableEq, Repr

structure State where
  pending : List Instr
  /-- register fields and model cells: (bit address, value), rising, no entry equal to its field's reset value -/
  regs : List (Nat × Nat)
  /-- DEV_TIME in ns (R461) -/
  time : Nat
  /-- the model's own: how many free values have been drawn -/
  free : Nat
  flow : Quad Flow
  /-- programmable counters whose EVENT is not OFF: (scope, counter) (R379) -/
  pmcOn : List (Nat × Nat)
  ch : Quad Chan
  /-- vote requests that wait, oldest first; the head is the open vote while SUP_ARB_STAT.VOTE_OPEN is 1 (R344) -/
  votes : List Vote
  /-- what the block has sent outside, newest first -/
  out : List Out
  /-- filters of a monitor input: input i of converter b under 32 b + i; none in zero state (R305, R310) -/
  monHist : List (Nat × MonInput)
  /-- mean of a DC-blocked input under the same key: (a, e) stands for a / 2^e (R309) -/
  monMean : List (Nat × Int × Nat)
  /-- last 16 results of tap t of channel n, newest first, with their UNSETTLED flags, under 2 n + t (R318) -/
  taps : List (Nat × List (Int × Bool))
  /-- calibration store, by store offset (R324) -/
  store : List Host.Cell
  /-- calibration sets in force: scope s at 0x2000 s (R323, R325) -/
  sets : List Host.Cell
  /-- values of those records that the hardware uses now, laid out as the sets (R332) -/
  applied : List Host.Cell
  /-- set of the calibration run in progress or last made (R331) -/
  runSet : List Host.Cell
  /-- snapshots latched and not yet written: words by record offset, the ledger of channel n under n, the counters of
  scope k under 8 + k (R61, R381) -/
  snaps : List (Nat × List (Nat × Nat))
  /-- elements that are committed and wait for their own boundary (R332) -/
  calWait : List Nat
  /-- image that the casting engine holds (R415) -/
  image : List Byte
  /-- boot casting region (R419) -/
  bootImage : List Byte
  /-- the image checked, in VOTE, APPLY or PAUSED (R415) -/
  plan : CastPlan
  /-- firmware slots S0 and S1 (R354) -/
  fw : List (Option FwSlot)
  /-- accepted and uncompleted mailbox commands, in the order of acceptance (R358) -/
  mbx : List MbxCmd
  /-- lines of the protected banks that are not all 0, by physical address, rising (R385) -/
  sram : List LineAt
  /-- descriptor in progress of each DMA queue, under its queue (R430) -/
  dma : List (Nat × DmaRun)
  deriving DecidableEq, Repr

/-- Why the machine stops: nothing does.  Every command leaves a state: one whose condition does not hold is an event
that did not happen, and one that the device turns away is answered by its refusal record (safe, log entry 3). -/
inductive Fault where
  deriving DecidableEq, Repr

/-- Why a command has no meaning. -/
inductive Refusal where
  /-- raised by an arm of `exec` whose command has no meaning yet; safe: the machine stops -/
  | notModelled (mnemonic : String)
  deriving DecidableEq, Repr

def Rsz.none : Rsz := ⟨false, 0, false, [], false, [], false, 0, Option.none, Option.none⟩

/-- Nothing on the transmit line path. -/
def LineTx.none : LineTx :=
  ⟨[], [], 0, 0, [], [], [], 0, 0, [], [], [], [], [], Option.none, [], Option.none, 0, [], 0, [], [], 0, false⟩

/-- Nothing on the receive line path. -/
def LineRx.none : LineRx := ⟨[], false, [], [], 0, [], [], false, false, 0, [], [], 0, Option.none, Option.none⟩

/-- Nothing adapted and nothing measured. -/
def RxDsp.none : RxDsp :=
  ⟨[], [], false, 0, 0, Option.none, [], (0, 0), (0, 0, 0), [], [], [], 0, (0, 0), (0, 0), (0, 0), (0, 0), (0, 0), 0,
    (0, 0), (0, 0), (0, 0), (0, 0)⟩

def Chan.reset : Chan :=
  ⟨[none, none, none, none], [], Rsz.none, [], none, [], [], [], [], [], [], LineTx.none, LineRx.none, RxDsp.none⟩

/-- A monitor input's filters in zero state. -/
def MonInput.zero : MonInput := ⟨[], [], []⟩

/-- No image. -/
def CastPlan.none : CastPlan := ⟨false, false, false, 0, 0, [], [], false, [], [], []⟩

/-- The block right after a power-on reset: in RESET, RESET_N asserted and the rails in range, every field at its reset
value.  Nothing is in flight, the store holds no set and no casting, and slot S0 holds a firmware image (log entry 6). -/
def State.reset : State :=
  { pending := [], regs := [], time := 0, free := 0,
    flow := ⟨Flow.empty, Flow.empty, Flow.empty, Flow.empty⟩, pmcOn := [],
    ch := ⟨Chan.reset, Chan.reset, Chan.reset, Chan.reset⟩, votes := [], out := [], monHist := [], monMean := [],
    taps := [], store := [], sets := [], applied := [], runSet := [], snaps := [], calWait := [], image := [],
    bootImage := [], plan := CastPlan.none, fw := [some ⟨true, 0, 0⟩, none], mbx := [], sram := [], dma := [] }

end Sys2Proof.Machine
end

