-- ==== Sys2Proof/Machine/Ops.lean ====
section
/-! DEFINITION. The named operations on the state: the register store, event bits and counters, interrupt raises,
performance-counter events, the in-flight flow and its ledger. -/

namespace Sys2Proof.Machine

/-! ## The store -/

/-- The value listed under a key. -/
def look (k : Nat) : List (Nat × Nat) → Option Nat
  | [] => none
  | (a, v) :: l => if a = k then some v else look k l

/-- The list without a key. -/
def dropKey (k : Nat) : List (Nat × Nat) → List (Nat × Nat)
  | [] => []
  | (a, v) :: l => if a = k then dropKey k l else (a, v) :: dropKey k l

/-- Insertion before the first greater key. -/
def insertKey (k v : Nat) : List (Nat × Nat) → List (Nat × Nat)
  | [] => [(k, v)]
  | (a, w) :: l => if k < a then (k, v) :: (a, w) :: l else (a, w) :: insertKey k v l

/-- The list with v under k, or without k when v is what an unlisted key reads as. -/
def setKey (k v d : Nat) (l : List (Nat × Nat)) : List (Nat × Nat) :=
  if v = d then dropKey k l else insertKey k v (dropKey k l)

/-- The present value of a field (R12): what was last put, or its reset value (R17), in the field's width. -/
def State.rd (s : State) (f : Field) : Nat := (look f.key s.regs).getD f.reset % 2 ^ f.width

/-- Sets a field, truncated to its width. -/
def State.put (f : Field) (v : Nat) (s : State) : State :=
  { s with regs := setKey f.key (v % 2 ^ f.width) f.reset s.regs }

/-- A 1-bit field as a Bool. -/
def State.on (s : State) (f : Field) : Bool := s.rd f = 1

/-- Sets a 1-bit field from a Bool. -/
def State.flag (f : Field) (b : Bool) (s : State) : State := s.put f (if b then 1 else 0)

/-- Adds to a counter that saturates at its field's highest value. -/
def State.addSat (f : Field) (c : Nat) (s : State) : State := s.put f (Nat.min (s.rd f + c) (2 ^ f.width - 1))

/-- One count of a saturating counter. -/
def State.bump (f : Field) (s : State) : State := s.addSat f 1

/-- Adds to a counter that wraps. -/
def State.addWrap (f : Field) (c : Nat) (s : State) : State := s.put f (s.rd f + c)

/-- Sets or clears bit i of a field. -/
def State.putBit (f : Field) (i : Nat) (b : Bool) (s : State) : State :=
  s.put f (if b then Sys2Proof.Machine.setBit (s.rd f) i else clrBit (s.rd f) i)

/-- Bit i of a field. -/
def State.rdBit (s : State) (f : Field) (i : Nat) : Bool := bit (s.rd f) i = 1

/-- A signed field. -/
def State.rdS (s : State) (f : Field) : Int := toSigned f.width (s.rd f)

/-- Sets a signed field. -/
def State.putS (f : Field) (i : Int) (s : State) : State := s.put f (ofSigned f.width i)

/-- Does f when b holds. -/
def State.when (b : Bool) (f : State → State) (s : State) : State := if b then f s else s

/-- Does f for each element of a list, in order. -/
def State.each {α : Type} (l : List α) (f : α → State → State) (s : State) : State := l.foldl (fun t a => f a t) s

/-- Returns fields to their reset values. -/
def State.clear (l : List Field) (s : State) : State := s.each l (fun f t => t.put f f.reset)

/-- An 8-byte little-endian word of a table-space record (R62, R382, R389, R441). -/
def State.put64 (a v : Nat) (s : State) : State :=
  (s.put (tableWord a) (v % 2 ^ 32)).put (tableWord (a + 4)) (v / 2 ^ 32)

/-- The next free value: a value the spec leaves open (log entry 2). -/
def State.draw (s : State) : Nat × State := (Config.freeValue s.free, { s with free := s.free + 1 })

/-- What the block sends outside, newest first. -/
def State.emit (o : Out) (s : State) : State := { s with out := o :: s.out }

/-! ## Quads -/

def Quad.get {α : Type} (q : Quad α) (n : Nat) : α :=
  match n with
  | 0 => q.c0
  | 1 => q.c1
  | 2 => q.c2
  | _ => q.c3

def Quad.set {α : Type} (q : Quad α) (n : Nat) (a : α) : Quad α :=
  match n with
  | 0 => { q with c0 := a }
  | 1 => { q with c1 := a }
  | 2 => { q with c2 := a }
  | _ => { q with c3 := a }

/-- The four channel numbers. -/
def channels : List Nat := [0, 1, 2, 3]

/-! ## Interrupt sources (R363 to R366) -/

/-- Device-global sources (Table 16.2). -/
def globalSources : List Nat :=
  [0, 1, 16, 17, 18, 32, 33, 34, 35, 48, 49, 50, 51, 64, 65, 66, 80, 81, 82, 96, 97, 98, 112, 113, 114, 128, 129, 130,
   144, 145]

/-- Local source numbers of every channel (Table 16.3). -/
def localSources : List Nat :=
  [0x00, 0x01, 0x02, 0x03, 0x04, 0x10, 0x11, 0x12, 0x13, 0x20, 0x21, 0x22, 0x23, 0x24, 0x25, 0x26, 0x27, 0x28, 0x29, 0x2A,
   0x30, 0x31, 0x32, 0x33, 0x40, 0x41, 0x42, 0x50, 0x51, 0x60, 0x61, 0x62, 0x63, 0x64, 0x70, 0x71, 0x72, 0x80, 0x81, 0x82,
   0x83, 0x90, 0x91, 0xA0, 0xA1, 0xA2, 0xA3, 0xA4, 0xA5, 0xA6]

/-- Source number of local source L of channel n (R363). -/
def sourceOf (n L : Nat) : Nat := if n < 3 then 512 * (n + 1) + L else 1792 + L

/-- All implemented source numbers, rising. -/
def allSources : List Nat :=
  globalSources ++ localSources.map (sourceOf 0) ++ localSources.map (sourceOf 1) ++ localSources.map (sourceOf 2)
    ++ localSources.map (sourceOf 3)

/-- Whether a source number is implemented (R363). -/
def implemented (N : Nat) : Bool := allSources.contains N

/-- A raise: sets the pending bits of all four targets and counts an arrival for each (R366). -/
def State.raise (N : Nat) (s : State) : State :=
  s.put (IRQ_PEND N) 1 |>.bump (IRQ_CFG.ARRIVE N)
    |>.put (SUPC.PEND 0 N) 1 |>.bump (SUPC.ARRIVE 0 N)
    |>.put (SUPC.PEND 1 N) 1 |>.bump (SUPC.ARRIVE 1 N)
    |>.put (SUPC.PEND 2 N) 1 |>.bump (SUPC.ARRIVE 2 N)

/-- Raises local source L of channel n. -/
def State.raiseCh (n L : Nat) (s : State) : State := s.raise (sourceOf n L)

/-! ## Performance counters (R376 to R380) -/

/-- Blocks that own performance counters (Table 16.6). -/
inductive PmcBlock where
  | opt | cnv | lds | fec | lfr | trb | hst | isc | sec | mon | fab | mem | key | sup
  deriving DecidableEq, Repr

/-- Block of programmable counter i of a scope (Table 16.6). -/
def pmcBlockOf (global : Bool) (i : Nat) : Option PmcBlock :=
  if global then
    if i ≤ 15 then some .fab else if i ≤ 31 then some .mem else if i ≤ 47 then some .key
    else if i ≤ 63 then some .sup else none
  else if i ≤ 67 then none else if i ≤ 75 then some .opt else if i ≤ 91 then some .cnv else if i ≤ 155 then some .lds
  else if i ≤ 187 then some .fec else if i ≤ 219 then some .lfr else if i ≤ 267 then some .trb
  else if i ≤ 331 then some .hst else if i ≤ 339 then some .isc else if i ≤ 371 then some .sec
  else if i ≤ 383 then some .mon else none

/-- EVENT code CHAIN (R379). -/
def evChain : Nat := 0x3F

/-- Overflow source of a scope: 144 for the global counters, local 0x90 of a channel (R378). -/
def pmcOvfSource (b : Nat) : Nat := if b = 4 then 144 else sourceOf b 0x90

/-- A counter past 2^48 - 1: STICKY and the overflow source (R378). -/
def State.pmcOverflow (b i : Nat) (s : State) : State :=
  s.put (PMC.STICKY b i) 1 |>.flag (PMC_CH_STAT.OVF_EV b) true |>.raise (pmcOvfSource b)

/-- Adds c to programmable counter i of scope b, with the carry into a chained upper half (R378). -/
def State.pmcAdd (b i c : Nat) (s : State) : State :=
  let v := s.rd (PMC.CNT b i) + c
  let s1 := s.put (PMC.CNT b i) v
  if v < 2 ^ 48 then s1
  else if i % 2 = 0 && s.rd (PMC_CH_CFG.EVENT b (i + 1)) = evChain then
    let h := s1.rd (PMC.CNT b (i + 1)) + 1
    let s2 := s1.put (PMC.CNT b (i + 1)) h
    if h < 2 ^ 48 then s2 else s2.pmcOverflow b (i + 1)
  else s1.pmcOverflow b i

/-- c events `ev` of a block in scope b, with the tributary or client `who` when the event names one: every
programmable counter that is configured for it counts them (R379, R380). -/
def State.countFor (b : Nat) (blk : PmcBlock) (ev c : Nat) (who : Option Nat) (s : State) : State :=
  s.each (s.pmcOn.filter (fun p => p.1 = b && pmcBlockOf (b = 4) p.2 = some blk)) (fun p t =>
    if t.rd (PMC_CH_CFG.EVENT b p.2) = ev && t.rd (PMC_CH_CTRL.RUN b) = 1
        && (t.rd (PMC_CH_CFG.FEN b p.2) = 0 || who = some (t.rd (PMC_CH_CFG.FILTER b p.2)) || who = none)
    then t.pmcAdd b p.2 c else t)

/-- One event that names no tributary and no client. -/
def State.count (b : Nat) (blk : PmcBlock) (ev : Nat) (s : State) : State := s.countFor b blk ev 1 none

/-- An occupancy event at c token boundaries: counters whose THR the occupancy exceeds count each of them (R379). -/
def State.countOcc (b : Nat) (blk : PmcBlock) (ev occ c : Nat) (s : State) : State :=
  s.each (s.pmcOn.filter (fun p => p.1 = b && pmcBlockOf (b = 4) p.2 = some blk)) (fun p t =>
    if t.rd (PMC_CH_CFG.EVENT b p.2) = ev && t.rd (PMC_CH_CTRL.RUN b) = 1 && t.rd (PMC_CH_CFG.THR b p.2) < occ
    then t.pmcAdd b p.2 c else t)

/-- An occupancy event of a block whose occupancies are those of tributaries or clients: a counter with FEN watches the one
that FILTER names, any other the one that the token boundary serves. -/
def State.countOccOf (b : Nat) (blk : PmcBlock) (ev : Nat) (occ : Nat → Nat) (cur : Nat) (s : State) : State :=
  s.each (s.pmcOn.filter (fun p => p.1 = b && pmcBlockOf (b = 4) p.2 = some blk)) (fun p t =>
    let who := if t.rd (PMC_CH_CFG.FEN b p.2) = 1 then t.rd (PMC_CH_CFG.FILTER b p.2) else cur
    if t.rd (PMC_CH_CFG.EVENT b p.2) = ev && t.rd (PMC_CH_CTRL.RUN b) = 1 && t.rd (PMC_CH_CFG.THR b p.2) < occ who
    then t.pmcAdd b p.2 1 else t)

/-- A privileged wrapping counter passed 2^48 - 1: STICKY and the channel's wrap source (R378). -/
def State.pmcWrap (n i : Nat) (s : State) : State :=
  s.put (PMC.STICKY n i) 1 |>.flag (PMC_CH_STAT.WRAP_EV n) true |>.raiseCh n 0x91

/-- Adds to security counter i (60 to 67) of channel n, a privileged counter (R377, R378). -/
def State.secCount (n i c : Nat) (s : State) : State :=
  let v := s.rd (PMC.CNT n i) + c
  (s.put (PMC.CNT n i) v).when (2 ^ 48 ≤ v) (fun t => t.pmcWrap n i)

/-! ## Quotients and keyed lists -/

/-- num / den where the spec gives no rounding: exact where it is whole, else one of the two nearest integers (log
entry 2). -/
def roundQ (num : Int) (den : Nat) : Int :=
  if num % den = 0 then num / den else num / den + (if Config.roundUp num den then 1 else 0)

/-- The entry of a key in a keyed list. -/
def keyed {α : Type} (k : Nat) (l : List (Nat × α)) : Option α := (l.find? (fun p => p.1 = k)).map (·.2)

/-- The list with a key's entry. -/
def setKeyed {α : Type} (k : Nat) (a : α) : List (Nat × α) → List (Nat × α)
  | [] => [(k, a)]
  | p :: l => if p.1 = k then (k, a) :: l else p :: setKeyed k a l

/-! ## The flow and its ledger (R56 to R60) -/

/-- Applies f to the flow of channel n. -/
def State.onFlow (n : Nat) (f : Flow → Flow) (s : State) : State :=
  { s with flow := s.flow.set n (f (s.flow.get n)) }

end Sys2Proof.Machine
end

