-- ==== Sys2Proof/Machine/Modes.lean ====
section
/-! DEFINITION. Line modes, rates and the tile budget: the formulas and tables of chapter 3 (R66 to R75), in integers.
Rates are in 0.01 GBd and dispersion limits in ns/nm, as the registers and the casting hold them. -/

namespace Sys2Proof.Machine

/-- Least integer not below a / b. -/
def ceilDiv (a b : Nat) : Nat := (a + b - 1) / b

/-- Native modes, highest first: code, Rs, m, 100 H, code (0 BLP15, 1 BLP25), tributary slots, CD range, triplets / 256,
decision feedback (Table 3.1, R73). -/
def nativeModes : List (Nat × Nat × Nat × Nat × Nat × Nat × Nat × Nat × Bool) :=
  [(5, 34000, 6, 561, 0, 1280, 4, 8, true),
   (4, 30000, 6, 489, 0, 960, 20, 4, true),
   (3, 30000, 4, 354, 1, 640, 80, 0, false),
   (2, 26000, 2, 200, 1, 320, 200, 0, false),
   (1, 13000, 2, 200, 1, 160, 400, 0, false)]

/-- Row of a native mode code. -/
def nativeRow (mode : Nat) : Option (Nat × Nat × Nat × Nat × Nat × Nat × Nat × Nat × Bool) :=
  nativeModes.find? (fun r => r.1 = mode)

/-- Parity bits per label per polarisation in 0.01 bit: 100 (1 − Rc) m (R67). -/
def parity100 (code m : Nat) : Nat := if code = 0 then 13 * m else 20 * m

/-- Most tributary slots with required ≤ net: floor(net / 2.522535 Gb/s), at most 1,280 (R67, Table 3.3 order 7). -/
def slotLimit (rs m hx code : Nat) : Nat :=
  Nat.min 1280 (126 * rs * (hx - parity100 code m) * 1000000 / (64 * 10000 * 2522535))

/-- Roll-off β of a code of Table 7.3, in 0.001. -/
def rollOf (code : Nat) : Nat :=
  match code with
  | 0 => 10
  | 1 => 20
  | 3 => 80
  | 4 => 100
  | 5 => 125
  | _ => 50

/-- Slot width in units of 12.5 GHz (R69); interoperable modes have 75 GHz (Table 3.2). -/
def slotWidth (p : Profile) : Nat :=
  if p.mode = 7 || p.mode = 8 then 6
  else ceilDiv (p.rs * (1000 + rollOf p.roll) + 1250000) 1250000

/-- CD compensation cost in tiles: ceil(N_CD / 1,280), N_CD = ceil(8.01e-6 · CD · Rs²) (Table 3.4). -/
def costCd (rs cd : Nat) : Nat := ceilDiv (ceilDiv (801 * (cd * 1000) * (rs * rs)) (10 ^ 12)) 1280

/-- MIMO FFE cost in tiles (Table 3.4). -/
def costMimo (rs : Nat) (dfe : Bool) : Nat := ceilDiv (rs * (if dfe then 3 else 2)) 8500

/-- Nonlinearity compensation cost in tiles (Table 3.4). -/
def costNlc (rs trip : Nat) : Nat := ceilDiv rs 4250 * trip

/-- Total minimum allocation of a native mode at its full CD range (Table 3.5). -/
def minTiles (mode : Nat) : Nat :=
  match nativeRow mode with
  | some (_, rs, _, _, _, _, cd, trip, dfe) => costCd rs cd + costMimo rs dfe + costNlc rs trip
  | none => 0

/-- A profile's own cost fits the tiles given per stage (R73, R74). -/
def Profile.covered (p : Profile) (cd mimo nlc : Nat) : Bool :=
  costCd p.rs p.cd ≤ cd && costMimo p.rs p.dfe ≤ mimo && costNlc p.rs p.trip ≤ nlc

def Profile.interop (p : Profile) : Bool := p.mode = 7 || p.mode = 8

/-- Format code of m (R265): 0 DP-QPSK, 1 PCS-16QAM, 2 PCS-64QAM. -/
def fmtOf (m : Nat) : Nat := if m = 6 then 2 else if m = 4 then 1 else 0

/-- The profile's parameter block (R265). -/
def Profile.block (p : Profile) : Block :=
  ⟨p.mode, p.code, p.roll, p.rs, fmtOf p.m, if p.interop then 0 else p.hx, if p.interop then 0 else p.tslots⟩

/-- D, the data bits of a codeword: 7,000 symbols a codeword over both polarisations (R182). -/
def Profile.dataBits (p : Profile) : Nat := 70 * (p.hx - parity100 p.code p.m)

/-- F, the bytes of a frame: 36 codewords (R205). -/
def Profile.frameBytes (p : Profile) : Nat := 9 * p.dataBits / 2

/-- Q, the bytes of a tributary slot in a multiframe (R212). -/
def slotBytes (rs : Nat) : Nat := 16498688000 / rs

/-- Latency cap B_lat: the codewords of 90 µs (R187). -/
def latencyCap (rs : Nat) : Nat := rs * 81 / 320

/-- The matcher runs: a shaped format with H above uniform (R158). -/
def Profile.shaped (p : Profile) : Bool := !p.interop && (p.m = 6 || (p.m = 4 && p.hx ≠ 400))

/-- Data bits of a matcher block, k = 1,000 (H − 2) (R158). -/
def Profile.matcherBits (p : Profile) : Nat := if p.shaped then 10 * (p.hx - 200) else 0

/-! ### Composition of a matcher block (R159), with e^x to 2^-200 -/

/-- One in the fixed point of the composition. -/
def compOne : Nat := 2 ^ 200

/-- e^(-1/1024) in that fixed point: its series, k terms from term i on. -/
def compBase (k i : Nat) (term : Nat) : Int :=
  match k with
  | 0 => 0
  | k + 1 => (if i % 2 = 0 then (term : Int) else -(term : Int)) + compBase k (i + 1) (term / (1024 * (i + 1)))

/-- b^j in the fixed point, by squaring over the k lowest bits of j. -/
def compPow : Nat → Nat → Nat → Nat
  | 0, _, _ => compOne
  | k + 1, b, j =>
    let r := compPow k (b * b / compOne) (j / 2)
    if j % 2 = 1 then r * b / compOne else r

/-- Index of the largest remainder, the smaller amplitude on a tie. -/
def argMax : List Nat → Nat → Nat → Nat → Nat
  | [], _, best, _ => best
  | r :: rs, i, best, v => if v < r then argMax rs (i + 1) i r else argMax rs (i + 1) best v

/-- Gives the missing amplitudes, one each, to the largest remainders. -/
def topUp : Nat → List Nat → List Nat → List Nat
  | 0, counts, _ => counts
  | k + 1, counts, rems =>
    let i := match rems with
      | [] => 0
      | r :: rs => argMax rs 1 0 r
    topUp k (counts.mapIdx (fun j c => if j = i then c + 1 else c)) (rems.mapIdx (fun j r => if j = i then 0 else r))

/-- Counts of 2,000 amplitudes for ν = j / 1,024. -/
def compCounts (base : Nat) (amps : List Nat) (j : Nat) : List Nat :=
  let w := amps.map (fun a => compPow 18 base (j * a * a))
  let tot := w.sum
  let counts := w.map (fun x => 2000 * x / tot)
  topUp (2000 - counts.sum) counts (w.map (fun x => 2000 * x % tot))

/-- i!, (i + 1)!, … : k factorials from f = i! on. -/
def facts : Nat → Nat → Nat → List Nat
  | 0, _, _ => []
  | k + 1, i, f => f :: facts k (i + 1) (f * (i + 1))

/-- The multinomial of the counts reaches 2^k, F being the factorials of 0 to 2,000. -/
def compFits (F : List Nat) (k : Nat) (counts : List Nat) : Bool :=
  2 ^ k * (counts.map (fun c => F.getD c 0)).foldl (· * ·) 1 ≤ F.getD 2000 0

/-- The first ν from j / 1,024 down whose composition holds k bits. -/
def compSearch (F : List Nat) (base k : Nat) (amps : List Nat) : Nat → List Nat
  | 0 => compCounts base amps 0
  | j + 1 =>
    let c := compCounts base amps (j + 1)
    if compFits F k c then c else compSearch F base k amps j

/-- Counts of amplitudes 1, 3, 5, 7 in a block of the profile. -/
def Profile.composition (p : Profile) : List Nat :=
  if p.shaped then
    compSearch (facts 2001 0 1) (compBase 30 0 compOne).toNat p.matcherBits (if p.m = 6 then [1, 3, 5, 7] else [1, 3]) 4096
  else []

/-! ## Profiles of the state -/

def State.chan (s : State) (n : Nat) : Chan := s.ch.get n

def State.onChan (n : Nat) (f : Chan → Chan) (s : State) : State := { s with ch := s.ch.set n (f (s.ch.get n)) }

/-- Profile p of channel n, when the casting defines it. -/
def State.profile (s : State) (n p : Nat) : Option Profile := (((s.chan n).prof)[p]?).join

/-- The profile in effect on the line (LDS_LMODE_STAT.ACTIVE). -/
def State.active (s : State) (n : Nat) : Option Profile := s.profile n (s.rd (LDS_LMODE_STAT.ACTIVE n))

/-- The active profile is interoperable (R71). -/
def State.interop (s : State) (n : Nat) : Bool :=
  match s.active n with
  | some p => p.interop
  | none => false

/-- Tiles of a list that are not FENCED. -/
def State.liveTiles (s : State) (n : Nat) (l : List Nat) : Nat := l.countP (fun t => s.rd (LDS_TILE_STAT.STATE n t) ≠ 2)

/-- Tiles of a list that are ACTIVE. -/
def State.activeTiles (s : State) (n : Nat) (l : List Nat) : Nat := l.countP (fun t => s.rd (LDS_TILE_STAT.STATE n t) = 0)

/-- REACH of a profile: its own allotment less its fenced tiles covers its own mode (R75). -/
def State.reachOf (s : State) (n : Nat) (p : Profile) : Bool :=
  p.covered (s.liveTiles n p.tCd) (s.liveTiles n p.tMimo) (s.liveTiles n p.tNlc)

/-- MAXMODE: highest native mode the channel's active units could carry (R75). -/
def State.maxModeOf (s : State) (n : Nat) : Nat :=
  let live := 96 - s.rd (LDS_TILE_SUM.FENCED n)
  if s.rd (CNV_PLL_STAT.RX_FAULT n) = 1 || s.rd (CNV_PLL_STAT.TX_FAULT n) = 1 || s.rd (FEC_ENG_ACT.ACTIVE n) = 0 then 0
  else match nativeModes.find? (fun r => minTiles r.1 ≤ live && r.2.1 ≤ s.rd (CNV_RATE.MAXRS n)) with
    | some r => r.1
    | none => 0

/-- Profile loaded in the receive stages (Table 6.4 step 1, R150). -/
def State.rxProfile (s : State) (n : Nat) : Option Profile := s.profile n (s.rd (LDSC.RXPROF n))

/-- B_buf (R141). -/
def State.bufBudget (s : State) (n : Nat) : Nat :=
  match s.rxProfile n with
  | some p => Nat.min 4096 (2048 + 256 * s.activeTiles n p.tCd)
  | none => 2048

/-- Recomputes B_buf, the engine budget and EFF (R141, R187). -/
def State.rebudget (n : Nat) (s : State) : State :=
  let buf := s.bufBudget n
  let eng := 4096 * popcount (s.rd (FEC_ENG_ACT.ACTIVE n)) 24 / 24
  let lat := match s.rxProfile n with
    | some p => if p.interop then 4096 else latencyCap p.rs
    | none => 4096
  s.put (LDS_TILE_BUF.CWBUF n) buf |>.put (FEC_BUDGET.ENG n) eng |>.put (FEC_BUDGET.EFF n) (Nat.min eng (Nat.min buf lat))

/-- Counts active tiles per stage (Table 6.14). -/
def State.tileSum (n : Nat) (s : State) : State :=
  match s.rxProfile n with
  | some p => s.put (LDS_TILE_SUM.CD n) (s.activeTiles n p.tCd) |>.put (LDS_TILE_SUM.MIMO n) (s.activeTiles n p.tMimo)
      |>.put (LDS_TILE_SUM.NLC n) (s.activeTiles n p.tNlc)
  | none => s

/-- Recomputes MAXMODE and every REACH (R75). -/
def State.recompute (n : Nat) (s : State) : State :=
  (s.put (LDS_CH_STATE.MAXMODE n) (s.maxModeOf n)).each [0, 1, 2, 3] (fun p t =>
    match s.profile n p with
    | some pr => t.flag (LDS_PROF_P.REACH n p) (s.reachOf n pr)
    | none => t.put (LDS_PROF_P.REACH n p) 0)

/-- Stage that a profile gives a tile: 0 none, 1 CD, 2 MIMO, 3 NLC. -/
def Profile.stageOf (p : Profile) (t : Nat) : Nat :=
  if p.tCd.contains t then 1 else if p.tMimo.contains t then 2 else if p.tNlc.contains t then 3 else 0

/-- Triplet code of LDS_NLC_STAT, from triplets in units of 256. -/
def tripCode (t : Nat) : Nat := if t = 0 then 0 else if t = 1 then 1 else if t = 2 then 2 else if t ≤ 4 then 3 else 4

/-- What the receive DSP carries into a profile at symbol rate pr.rs from one at `rs`: taps on the new grid, and the profile's
coefficients (R137, R150). -/
def RxDsp.load (pr : Profile) (rs : Nat) (d : RxDsp) : RxDsp :=
  { d with taps := if rs = pr.rs then d.taps
             else d.taps.map (fun w => (Config.regridded rs pr.rs (w.map (fun a => (a.re, a.im)))).map (fun v => ⟨v.1, v.2⟩)),
           nlc := (List.range (256 * pr.trip)).map (fun i =>
             let q := Config.triplet pr.mode pr.rs pr.cd i
             (q.1, q.2.1, ⟨q.2.2.1, q.2.2.2⟩)) }

/-- A profile load of the receive stages: tiles take their stages, α restarts, and the budgets follow (R140, R144, R150). -/
def State.loadRx (n p : Nat) (s : State) : State :=
  match s.profile n p with
  | some pr =>
    ((s.put (LDSC.RXPROF n) p).onChan n (fun c =>
        { c with dsp := c.dsp.load pr ((s.rxProfile n).elim pr.rs (·.rs)) })).each (List.range 96) (fun t u =>
        let st := u.rd (LDS_TILE_STAT.STATE n t)
        let g := pr.stageOf t
        (u.put (LDS_TILE_STAT.STAGE n t) g).when (st ≠ 2 && st ≠ 3) (·.put (LDS_TILE_STAT.STATE n t) (if g = 0 then 1 else 0)))
      |>.put (LDS_NLC_STAT.TRIPLETS n) (tripCode pr.trip) |>.put (LDS_NLC_STAT.ALPHA_NOW n) (s.rd (LDS_NLC_CTRL.ALPHA n))
      |>.put (FEC_STAT.CODE n) pr.code
      |>.tileSum n |>.rebudget n
  | none => s

/-- The transmitter takes a profile: matcher, roll-off and frame geometry (R158, R159, R167, R205).  SHAPED and K follow the profile
whatever PHASE is: the spec does not say what they read while the channel is not LIT (DESIGN CHOICE, log entry 43). -/
def State.loadTx (n p : Nat) (s : State) : State :=
  match s.profile n p with
  | some pr =>
    let c := pr.composition
    s.put (LDS_LMODE_STAT.ACTIVE n) p |>.put (LDS_TX_STAT.ROLL n) pr.roll |>.flag (LDS_TX_STAT.SHAPED n) pr.shaped
      |>.put (LDS_TX_DM.K n) pr.matcherBits
      |>.put (LDS_TX_COMP0.CNT1 n) (c.getD 0 0) |>.put (LDS_TX_COMP0.CNT3 n) (c.getD 1 0)
      |>.put (LDS_TX_COMP1.CNT5 n) (c.getD 2 0) |>.put (LDS_TX_COMP1.CNT7 n) (c.getD 3 0)
      |>.put (LFR_GEOM0.FBYTES n) (if pr.interop then 0 else pr.frameBytes)
  | none => s

/-- Writes the profile's registers (Tables 3.10, 3.11). -/
def State.showProfile (n p : Nat) (pr : Profile) (s : State) : State :=
  s.put (LDS_PROF_P.MODE n p) pr.mode |>.put (LDS_PROF_P.TILES n p) (pr.nCd + pr.nMimo + pr.nNlc)
    |>.put (LDS_PROF_P.TSLOTS n p) (if pr.interop then 0 else pr.tslots)
    |>.put (LDS_PROF_RATE_P.CODE n p) pr.code |>.put (LDS_PROF_RATE_P.HX100 n p) (if pr.interop then 0 else pr.hx)
    |>.put (LDS_PROF_RATE_P.RS n p) pr.rs

end Sys2Proof.Machine
end

