-- ==== Sys2Proof/Machine/Matcher.lean ====
section
/-! DEFINITION. Distribution matcher, labels, constellation and pilots: chapter 7 of spec/ (R158 to R166).  An amplitude is
held as its index: 0, 1, 2, 3 stand for 1, 3, 5, 7. -/

namespace Sys2Proof.Machine

/-! ## Matcher (R159, R160) -/

def fact : Nat → Nat
  | 0 => 1
  | k + 1 => (k + 1) * fact k

/-- Number of sequences of a composition. -/
def multinomial (counts : List Nat) : Nat := fact counts.sum / (counts.map fact).foldl (· * ·) 1

/-- The amplitude that stands first in sequence u of the w sequences that n places with these counts have, the sequences
that start with it, and u among those: amplitudes ascend from index i. -/
def firstAmp : List Nat → Nat → Nat → Nat → Nat → Nat × Nat × Nat
  | [], i, _, w, u => (i, w, u)
  | c :: cs, i, n, w, u => if u < w * c / n then (i, w * c / n, u) else firstAmp cs (i + 1) n w (u - w * c / n)

/-- One fewer of amplitude i. -/
def lessOne (i : Nat) (counts : List Nat) : List Nat := counts.mapIdx (fun j c => if j = i then c - 1 else c)

/-- Sequence u, in lexicographic order, of k places. -/
def unrank : Nat → List Nat → Nat → Nat → List Nat
  | 0, _, _, _ => []
  | k + 1, counts, w, u =>
    let r := firstAmp counts 0 (k + 1) w u
    r.1 :: unrank k (lessOne r.1 counts) r.2.1 r.2.2

/-- The amplitudes of a block with input u (R160). -/
def matched (counts : List Nat) (u : Nat) : List Nat := unrank counts.sum counts (multinomial counts) u

/-- Index of a sequence among those of its counts. -/
def rank : List Nat → List Nat → Nat → Nat
  | [], _, _ => 0
  | a :: l, counts, w =>
    w * (counts.take a).sum / counts.sum + rank l (lessOne a counts) (w * counts.getD a 0 / counts.sum)

/-- How often each of the amplitudes 0 to k - 1 stands in a sequence. -/
def countsOf (k : Nat) (l : List Nat) : List Nat := (List.range k).map (fun a => l.countP (· = a))

/-- The input of a block with these amplitudes; none where dematching fails (R190). -/
def unmatched (counts : List Nat) (k : Nat) (l : List Nat) : Option Nat :=
  if countsOf counts.length l = counts ∧ l.length = counts.sum then
    let u := rank l counts (multinomial counts)
    if u < 2 ^ k then some u else none
  else none

/-! ## Bits and bytes -/

/-- The lowest k bits of v, most significant first. -/
def msbBits : Nat → Nat → List Bool
  | 0, _ => []
  | k + 1, v => (v / 2 ^ k % 2 = 1) :: msbBits k v

/-- A number from its bits, most significant first. -/
def ofMsb (l : List Bool) : Nat := l.foldl (fun n b => 2 * n + b.toNat) 0

/-- c pieces of k elements from the front of a list. -/
def pieces {α : Type} (k : Nat) : Nat → List α → List (List α)
  | 0, _ => []
  | c + 1, l => l.take k :: pieces k c (l.drop k)

/-- Bits of bytes, each from bit 7 to bit 0 (R205). -/
def byteBits (l : List Byte) : List Bool := l.flatMap (fun b => msbBits 8 b.toNat)

/-- Bytes of bits, each filled from bit 7 to bit 0. -/
def bitBytes (l : List Bool) : List Byte := (pieces 8 (l.length / 8) l).map (fun p => BitVec.ofNat 8 (ofMsb p))

/-! ## Labels (R162, Table 7.2): one dimension holds its sign bit, then its amplitude bits -/

/-- Bits of one dimension after its sign: binary reflected Gray code of the amplitude. -/
def ampBits (m a : Nat) : List Bool := msbBits (m / 2 - 1) (a ^^^ a / 2)

/-- The amplitude that Gray bits name. -/
def ampOf (l : List Bool) : Nat := ofMsb (l.foldl (fun p b => (p.1 ++ [b != p.2], b != p.2)) (([], false) : List Bool × Bool)).1

/-- Signed amplitude of a dimension, from its sign bit and amplitude bits. -/
def levelOf (l : List Bool) : Int :=
  let a : Int := 2 * ampOf l.tail + 1
  if l.headD false then -a else a

/-- Label of m bits: dimension I, then dimension Q. -/
def labelPoint (m : Nat) (l : List Bool) : Int × Int := (levelOf (l.take (m / 2)), levelOf (l.drop (m / 2)))

/-- 1,000 E, E the mean energy of the active composition (R163); 2 for DP-QPSK and 10 for uniform PCS-16QAM. -/
def energy1000 (m : Nat) (counts : List Nat) : Nat :=
  if counts.isEmpty then (if m = 2 then 2000 else 10000)
  else (counts.mapIdx (fun i c => c * ((2 * i + 1) * (2 * i + 1)))).sum

/-! ## Pilots (R164, R165) -/

/-- A step of a pilot register: its output bit and its next state. -/
def pilotStep (r : Nat) : Bool × Nat := (bit r 10 = 1, r * 2 % 2048 + (bit r 10 + bit r 8) % 2)

/-- A pilot takes b_I and then b_Q: the signs of its two dimensions, and the register after it. -/
def pilotOf (r : Nat) : (Int × Int) × Nat :=
  let i := pilotStep r
  let q := pilotStep i.2
  ((if i.1 then -1 else 1, if q.1 then -1 else 1), q.2)

/-- Seeds of the X and Y registers. -/
def pilotSeedX : Nat := 0x7FF
def pilotSeedY : Nat := 0x0F0

/-- Symbol s is a pilot. -/
def isPilot (s : Nat) : Bool := s % 64 = 0

/-- Symbols of a multiframe: 16,384 periods of 32,000 (R166, R205). -/
def mfSymbols : Nat := 16384 * 32000

end Sys2Proof.Machine
end

