-- ==== Sys2Proof/Machine/Firmware.lean ====
section
/-! DEFINITION. What R355 checks of a firmware image: SHA-384 (FIPS 180-4) and ECDSA over P-384 (FIPS 186-5), which chapter 15 of
spec/ names by their standards (log entry 4), and the header of Table 15.8. -/

namespace Sys2Proof.Machine

/-! ## SHA-384 -/

/-- The round constants. -/
def sha384K : List (BitVec 64) :=
  (([0x428A2F98D728AE22, 0x7137449123EF65CD, 0xB5C0FBCFEC4D3B2F, 0xE9B5DBA58189DBBC,
   0x3956C25BF348B538, 0x59F111F1B605D019, 0x923F82A4AF194F9B, 0xAB1C5ED5DA6D8118,
   0xD807AA98A3030242, 0x12835B0145706FBE, 0x243185BE4EE4B28C, 0x550C7DC3D5FFB4E2,
   0x72BE5D74F27B896F, 0x80DEB1FE3B1696B1, 0x9BDC06A725C71235, 0xC19BF174CF692694,
   0xE49B69C19EF14AD2, 0xEFBE4786384F25E3, 0x0FC19DC68B8CD5B5, 0x240CA1CC77AC9C65,
   0x2DE92C6F592B0275, 0x4A7484AA6EA6E483, 0x5CB0A9DCBD41FBD4, 0x76F988DA831153B5,
   0x983E5152EE66DFAB, 0xA831C66D2DB43210, 0xB00327C898FB213F] : List Nat)
  ++ ([0xBF597FC7BEEF0EE4, 0xC6E00BF33DA88FC2, 0xD5A79147930AA725, 0x06CA6351E003826F,
   0x142929670A0E6E70, 0x27B70A8546D22FFC, 0x2E1B21385C26C926, 0x4D2C6DFC5AC42AED,
   0x53380D139D95B3DF, 0x650A73548BAF63DE, 0x766A0ABB3C77B2A8, 0x81C2C92E47EDAEE6,
   0x92722C851482353B, 0xA2BFE8A14CF10364, 0xA81A664BBC423001, 0xC24B8B70D0F89791,
   0xC76C51A30654BE30, 0xD192E819D6EF5218, 0xD69906245565A910, 0xF40E35855771202A,
   0x106AA07032BBD1B8, 0x19A4C116B8D2D0C8, 0x1E376C085141AB53, 0x2748774CDF8EEB99,
   0x34B0BCB5E19B48A8, 0x391C0CB3C5C95A63, 0x4ED8AA4AE3418ACB] : List Nat)
  ++ ([0x5B9CCA4F7763E373, 0x682E6FF3D6B2B8A3, 0x748F82EE5DEFB2FC, 0x78A5636F43172F60,
   0x84C87814A1F0AB72, 0x8CC702081A6439EC, 0x90BEFFFA23631E28, 0xA4506CEBDE82BDE9,
   0xBEF9A3F7B2C67915, 0xC67178F2E372532B, 0xCA273ECEEA26619C, 0xD186B8C721C0C207,
   0xEADA7DD6CDE0EB1E, 0xF57D4F7FEE6ED178, 0x06F067AA72176FBA, 0x0A637DC5A2C898A6,
   0x113F9804BEF90DAE, 0x1B710B35131C471B, 0x28DB77F523047D84, 0x32CAAB7B40C72493,
   0x3C9EBE0A15C9BEBC, 0x431D67C49C100D4C, 0x4CC5D4BECB3E42B6, 0x597F299CFC657E2A,
   0x5FCB6FAB3AD6FAEC, 0x6C44198C4A475817] : List Nat)).map (BitVec.ofNat 64)

/-- The initial hash value. -/
def sha384Init : List (BitVec 64) :=
  ([0xCBBB9D5DC1059ED8, 0x629A292A367CD507, 0x9159015A3070DD17, 0x152FECD8F70E5939,
   0x67332667FFC00B31, 0x8EB44A8768581511, 0xDB0C2E0D64F98FA7, 0x47B5481DBEFA4FA4] : List Nat).map (BitVec.ofNat 64)

/-- The padded message. -/
def sha384Pad (m : List Byte) : List Byte :=
  m ++ 0x80#8 :: List.replicate ((239 - m.length % 128) % 128) 0#8 ++ beBytes 16 (8 * m.length)

/-- The message schedule, newest word first: k more words. -/
def sha384Expand : Nat → List (BitVec 64) → List (BitVec 64)
  | 0, w => w
  | k + 1, w =>
    let x := w.getD 1 0
    let y := w.getD 14 0
    let s1 := x.rotateRight 19 ^^^ x.rotateRight 61 ^^^ (x >>> 6)
    let s0 := y.rotateRight 1 ^^^ y.rotateRight 8 ^^^ (y >>> 7)
    sha384Expand k ((s1 + w.getD 6 0 + s0 + w.getD 15 0) :: w)

/-- One round: schedule word plus constant. -/
def sha384Round (h : List (BitVec 64)) (kw : BitVec 64) : List (BitVec 64) :=
  match h with
  | [a, b, c, d, e, f, g, i] =>
    let t1 := i + (e.rotateRight 14 ^^^ e.rotateRight 18 ^^^ e.rotateRight 41) + ((e &&& f) ^^^ (~~~e &&& g)) + kw
    let t2 := (a.rotateRight 28 ^^^ a.rotateRight 34 ^^^ a.rotateRight 39) + ((a &&& b) ^^^ (a &&& c) ^^^ (b &&& c))
    [t1 + t2, a, b, c, d + t1, e, f, g]
  | _ => h

/-- One 128-byte block. -/
def sha384Block (h : List (BitVec 64)) (p : List Byte) : List (BitVec 64) :=
  let w := (pieces 8 16 p).map (fun b => BitVec.ofNat 64 (ofBytes b))
  let sched := (sha384Expand 64 w.reverse).reverse
  List.zipWith (· + ·) h ((List.zipWith (· + ·) sched sha384K).foldl sha384Round h)

/-- The digest as a number, its first byte in the high bits: the first six words of the hash. -/
def sha384 (m : List Byte) : Nat :=
  let p := sha384Pad m
  (((pieces 128 (p.length / 128) p).foldl sha384Block sha384Init).take 6).foldl (fun n w => 2 ^ 64 * n + w.toNat) 0

/-! ## ECDSA over P-384 -/

/-- The field, the order of the base point, and the constant b of the curve y² = x³ - 3x + b. -/
def p384 : Nat := 2 ^ 384 - 2 ^ 128 - 2 ^ 96 + 2 ^ 32 - 1
def p384Order : Nat := 0xFFFFFFFFFFFFFFFFFFFFFFFFFFFFFFFFFFFFFFFFFFFFFFFFC7634D81F4372DDF581A0DB248B0A77AECEC196ACCC52973
def p384B : Nat := 0xB3312FA7E23EE7E4988E056BE3F82D19181D9C6EFE8141120314088F5013875AC656398D8A2ED19D2A85C8EDD3EC2AEF

/-- The base point. -/
def p384X : Nat := 0xAA87CA22BE8B05378EB1C71EF320AD746E1D3B628BA79B9859F741E082542A385502F25DBF55296C3A545E3872760AB7
def p384Y : Nat := 0x3617DE4A96262C6F5D9E98BF9292DC29F8F41DBD289A147CE9DA3113B5F0B8C00A60B1CE1D7E819D7A431D7C90EA0E5F

/-- x to the power of e's k lowest bits, modulo m. -/
def powMod (m x e : Nat) : Nat → Nat
  | 0 => 1 % m
  | k + 1 =>
    let h := powMod m x (e / 2) k
    if e % 2 = 1 then h * h % m * x % m else h * h % m

/-- Inverse modulo a prime of 384 bits. -/
def invMod (m x : Nat) : Nat := powMod m x (m - 2) 384

/-- A point in Jacobian coordinates: x / z² and y / z³, and the point at infinity where z is 0. -/
structure JPoint where
  x : Nat
  y : Nat
  z : Nat

/-- Difference in the field. -/
def fSub (a b : Nat) : Nat := (a + (p384 - b)) % p384

def JPoint.double (a : JPoint) : JPoint :=
  if a.z = 0 then a
  else
    let d := a.z * a.z % p384
    let g := a.y * a.y % p384
    let b := a.x * g % p384
    let m := 3 * fSub a.x d * (a.x + d) % p384
    let x := fSub (m * m % p384) (8 * b % p384)
    ⟨x, fSub (m * fSub (4 * b % p384) x % p384) (8 * g * g % p384), 2 * a.y * a.z % p384⟩

def JPoint.add (a b : JPoint) : JPoint :=
  if a.z = 0 then b
  else if b.z = 0 then a
  else
    let za := a.z * a.z % p384
    let zb := b.z * b.z % p384
    let u := a.x * zb % p384
    let h := fSub (b.x * za % p384) u
    let s := a.y * (b.z * zb % p384) % p384
    let r := fSub (b.y * (a.z * za % p384) % p384) s
    if h = 0 then (if r = 0 then a.double else ⟨1, 1, 0⟩)
    else
      let hh := h * h % p384
      let c := h * hh % p384
      let v := u * hh % p384
      let x := fSub (fSub (r * r % p384) c) (2 * v % p384)
      ⟨x, fSub (r * fSub v x % p384) (s * c % p384), h * a.z % p384 * b.z % p384⟩

/-- k · a, over the c lowest bits of k. -/
def JPoint.times (a : JPoint) (k : Nat) : Nat → JPoint
  | 0 => ⟨1, 1, 0⟩
  | c + 1 =>
    let h := (JPoint.times a (k / 2) c).double
    if k % 2 = 1 then h.add a else h

/-- The signature r, s is that of digest e under the public key (x, y). -/
def ecdsaOk (x y e r s : Nat) : Bool :=
  let w := invMod p384Order s
  let q := ((JPoint.mk p384X p384Y 1).times (e * w % p384Order) 384).add ((JPoint.mk x y 1).times (r * w % p384Order) 384)
  let i := invMod p384 q.z
  x < p384 && y < p384 && (y * y % p384 = (x * x % p384 * x + 3 * (p384 - x) + p384B) % p384)
    && 0 < r && r < p384Order && 0 < s && s < p384Order && q.z ≠ 0 && q.x * (i * i % p384) % p384 % p384Order = r

/-! ## The image (R354, R355) -/

/-- k bytes at an offset of an image, most significant first. -/
def imageAt (l : List Byte) (a k : Nat) : Nat := ofBytes ((l.drop a).take k)

/-- Every check of R355 but that of SVN passes. -/
def imageGood (l : List Byte) : Bool :=
  let len := imageAt l 0x00C 4
  let body := (l.drop 512).take len
  let key := (l.drop 0x040).take 97
  imageAt l 0 4 = 0x4A4B4657 && imageAt l 0x009 1 = 1 && len % 64 = 0 && len ≤ 4193792 && 512 + len ≤ l.length
    && imageAt l 0x010 48 = sha384 body && sha384 key = Config.vendorKey && imageAt l 0x040 1 = 4
    && ecdsaOk (imageAt l 0x041 48) (imageAt l 0x071 48) (sha384 (l.take 256 ++ body)) (imageAt l 0x100 48) (imageAt l 0x130 48)

/-- What a slot holds after a load of an image. -/
def slotOf (l : List Byte) : FwSlot := ⟨imageGood l, imageAt l 4 4, imageAt l 8 1⟩

end Sys2Proof.Machine
end

