-- ==== Sys2Proof/Machine/Flow.lean ====
section
/-! DEFINITION. The in-flight flow of a channel and its four ledgers (R46, R56 to R60, Table 2.5): every token, codeword
and credit that enters is counted in, and leaves only by being counted out or into one drop counter. -/

namespace Sys2Proof.Machine

/-- Transmit drop counters (Table 2.5, 0x028 to 0x070). -/
inductive TxDrop where
  | ovf | notrib | gmp | retired | cap | limit | fault | poison | fence | flush
  deriving DecidableEq, Repr

/-- Receive drop counters (Table 2.5, 0x090 to 0x0E0). -/
inductive RxDrop where
  | gen | auth | cap | fault | notrib | gmp | lane | ovf | poison | fence | flush
  deriving DecidableEq, Repr

/-- Codeword drop counters (Table 2.5, 0x100 to 0x110). -/
inductive CwDrop where
  | budget | fence | flush
  deriving DecidableEq, Repr

def Ledger.txDrop (k : TxDrop) (c : Nat) (l : Ledger) : Ledger :=
  match k with
  | .ovf => { l with txOvf := l.txOvf + c }
  | .notrib => { l with txNotrib := l.txNotrib + c }
  | .gmp => { l with txGmp := l.txGmp + c }
  | .retired => { l with txRetired := l.txRetired + c }
  | .cap => { l with txCap := l.txCap + c }
  | .limit => { l with txLimit := l.txLimit + c }
  | .fault => { l with txFault := l.txFault + c }
  | .poison => { l with txPoison := l.txPoison + c }
  | .fence => { l with txFence := l.txFence + c }
  | .flush => { l with txFlush := l.txFlush + c }

def Ledger.rxDrop (k : RxDrop) (c : Nat) (l : Ledger) : Ledger :=
  match k with
  | .gen => { l with rxGen := l.rxGen + c }
  | .auth => { l with rxAuth := l.rxAuth + c }
  | .cap => { l with rxCap := l.rxCap + c }
  | .fault => { l with rxFault := l.rxFault + c }
  | .notrib => { l with rxNotrib := l.rxNotrib + c }
  | .gmp => { l with rxGmp := l.rxGmp + c }
  | .lane => { l with rxLane := l.rxLane + c }
  | .ovf => { l with rxOvf := l.rxOvf + c }
  | .poison => { l with rxPoison := l.rxPoison + c }
  | .fence => { l with rxFence := l.rxFence + c }
  | .flush => { l with rxFlush := l.rxFlush + c }

def Ledger.cwDrop (k : CwDrop) (c : Nat) (l : Ledger) : Ledger :=
  match k with
  | .budget => { l with cwBudget := l.cwBudget + c }
  | .fence => { l with cwFence := l.cwFence + c }
  | .flush => { l with cwFlush := l.cwFlush + c }

/-- The eight In and Out counters, in the order of R377. -/
def Ledger.io (l : Ledger) : List Nat :=
  [l.txIn, l.txOut, l.rxIn, l.rxOut, l.cwIn, l.cwOut, l.crdIssued, l.crdUsed]

/-- The counters of the 26 pairs, in the order of Table 2.5 (R377). -/
def Ledger.pairs (l : Ledger) : List Nat :=
  [l.txOvf, l.txNotrib, l.txGmp, l.txRetired, l.txCap, l.txLimit, l.txFault, l.txPoison, l.txFence, l.txFlush,
   l.rxGen, l.rxAuth, l.rxCap, l.rxFault, l.rxNotrib, l.rxGmp, l.rxLane, l.rxOvf, l.rxPoison, l.rxFence, l.rxFlush,
   l.cwBudget, l.cwFence, l.cwFlush, l.cwUncorr, l.crdReclaim]

def Stage.isTx : Stage → Bool
  | .txStaged | .txTrb | .txSec => true
  | .rxSec | .rxTrb => false

/-- FAB_TX_RES: PAYLOAD tokens between the transmit counting points. -/
def Flow.txRes (f : Flow) : Nat := f.tok.countP (fun t => t.stage.isTx)

/-- FAB_RX_RES. -/
def Flow.rxRes (f : Flow) : Nat := f.tok.countP (fun t => !t.stage.isTx)

/-- FEC_CW_RES. -/
def Flow.cwRes (f : Flow) : Nat := f.cws.length

/-- HST_CRD_OUT: credits granted and not yet used. -/
def Flow.crdRes (f : Flow) : Nat := (f.crd.map (·.2)).sum

/-- The tag of a token (Table 2.1), its fields in their places. -/
def tagOf (cls : Nat) (poison uncorr : Bool) (trib : Nat) : Nat :=
  cls * 2 ^ 14 + (if poison then 2 ^ 13 else 0) + (if uncorr then 2 ^ 12 else 0) + trib % 1024

/-- Tag of a PAYLOAD token. -/
def Token.tag (t : Token) : Nat := tagOf 0 t.poison t.uncorr t.trib

/-- Tag of the LINE token with a sequence number (R182). -/
def lineTag (uncorr : Bool) (seq : Nat) : Nat := tagOf 2 false uncorr seq

/-- A byte with its bits in the other order. -/
def mirror (b : Byte) : Byte := BitVec.ofNat 8 ((List.range 8).foldl (fun a i => 2 * a + b.toNat / 2 ^ i % 2) 0)

/-- The 64 bytes of a token's payload: its earliest bit is payload bit 0 (R236) and fills bit 7 of byte 0 (R205, log entry
40). -/
def tokenBytes (d : BitVec 512) : List Byte := (List.range 64).map (fun i => mirror (d.extractLsb' (8 * i) 8))

/-- The payload of 64 bytes. -/
def bytesToken (l : List Byte) : BitVec 512 := BitVec.ofNat 512 ((List.range 64).foldl (fun a i => a + (mirror (l.getD i 0)).toNat * 2 ^ (8 * i)) 0)

/-- The first element that meets p, and the list without it. -/
def takeFirst {α : Type} (p : α → Bool) : List α → Option (α × List α)
  | [] => none
  | a :: l => if p a then some (a, l) else (takeFirst p l).map (fun r => (r.1, a :: r.2))

/-! ## Transmit tokens -/

/-- A token is counted in and held at a stage. -/
def Flow.txEnter (st : Stage) (trib : Nat) (poison : Bool) (data : BitVec 512) (f : Flow) : Flow :=
  if st.isTx then
    { f with led := { f.led with txIn := f.led.txIn + 1 }, tok := f.tok ++ [⟨st, trib, poison, false, data⟩] }
  else f

/-- A token is counted in and dropped in the same event. -/
def Flow.txReject (k : TxDrop) (f : Flow) : Flow :=
  { f with led := Ledger.txDrop k 1 { f.led with txIn := f.led.txIn + 1 } }

/-- The oldest transmit token that meets p is consumed into the transmit frame. -/
def Flow.txLeave (p : Token → Bool) (f : Flow) : Flow :=
  match takeFirst (fun t => t.stage.isTx && p t) f.tok with
  | some (_, l) => { f with led := { f.led with txOut := f.led.txOut + 1 }, tok := l }
  | none => f

/-- Every transmit token that meets p is dropped into counter k. -/
def Flow.txDropAll (k : TxDrop) (p : Token → Bool) (f : Flow) : Flow :=
  { f with led := f.led.txDrop k (f.tok.countP (fun t => t.stage.isTx && p t)),
           tok := f.tok.filter (fun t => !(t.stage.isTx && p t)) }

/-- The oldest transmit token that meets p is dropped into counter k. -/
def Flow.txDropOne (k : TxDrop) (p : Token → Bool) (f : Flow) : Flow :=
  match takeFirst (fun t => t.stage.isTx && p t) f.tok with
  | some (_, l) => { f with led := f.led.txDrop k 1, tok := l }
  | none => f

/-! ## Receive tokens -/

def Flow.rxEnter (st : Stage) (trib : Nat) (poison uncorr : Bool) (data : BitVec 512) (f : Flow) : Flow :=
  if st.isTx then f
  else { f with led := { f.led with rxIn := f.led.rxIn + 1 }, tok := f.tok ++ [⟨st, trib, poison, uncorr, data⟩] }

/-- c tokens are counted in and dropped in the same event. -/
def Flow.rxReject (k : RxDrop) (c : Nat) (f : Flow) : Flow :=
  { f with led := Ledger.rxDrop k c { f.led with rxIn := f.led.rxIn + c } }

/-- The oldest receive token that meets p is accepted on the TRB→HST link. -/
def Flow.rxLeave (p : Token → Bool) (f : Flow) : Flow :=
  match takeFirst (fun t => !t.stage.isTx && p t) f.tok with
  | some (_, l) => { f with led := { f.led with rxOut := f.led.rxOut + 1 }, tok := l }
  | none => f

def Flow.rxDropAll (k : RxDrop) (p : Token → Bool) (f : Flow) : Flow :=
  { f with led := f.led.rxDrop k (f.tok.countP (fun t => !t.stage.isTx && p t)),
           tok := f.tok.filter (fun t => !(!t.stage.isTx && p t)) }

def Flow.rxDropOne (k : RxDrop) (p : Token → Bool) (f : Flow) : Flow :=
  match takeFirst (fun t => !t.stage.isTx && p t) f.tok with
  | some (_, l) => { f with led := f.led.rxDrop k 1, tok := l }
  | none => f

/-! ## Tokens of either direction -/

/-- The oldest token that meets p moves to another stage of its own direction (R46): it leaves the one occupancy and
enters the other in the same event. -/
def Flow.move (p : Token → Bool) (st : Stage) (f : Flow) : Flow :=
  match takeFirst (fun t => (t.stage.isTx == st.isTx) && p t) f.tok with
  | some (t, l) => { f with tok := l ++ [{ t with stage := st }] }
  | none => f

/-- Marks the oldest token that meets p as poisoned (R388, R47). -/
def Flow.poisonOne (p : Token → Bool) (f : Flow) : Flow :=
  match takeFirst p f.tok with
  | some (t, l) => { f with tok := { t with poison := true } :: l }
  | none => f

/-- New payloads for the tokens that meet p, in order. -/
def rewriteTokens (p : Token → Bool) : List (BitVec 512) → List Token → List Token
  | _, [] => []
  | [], l => l
  | d :: ds, t :: l => if p t then { t with data := d } :: rewriteTokens p ds l else t :: rewriteTokens p (d :: ds) l

/-- Changes the payload of tokens in place. -/
def Flow.rewrite (p : Token → Bool) (l : List (BitVec 512)) (f : Flow) : Flow := { f with tok := rewriteTokens p l f.tok }

/-! ## Codewords (R188 to R192) -/

/-- A codeword is presented for dispatch and enters the decoder window with its LLRs, each as quantised and before. -/
def Flow.cwEnter (t0 : Nat) (lent : Option Nat) (cand : Bool) (g : Geo) (l : List (Int × Int)) (f : Flow) : Flow :=
  { f with led := { f.led with cwIn := f.led.cwIn + 1 },
           cws := f.cws ++ [⟨f.led.cwIn + 1, t0, 0, none, lent, none, cand, g, l.map (·.1), l.map (·.2), l.map (·.1), []⟩] }

/-- A codeword is presented for dispatch and dropped (R188). -/
def Flow.cwReject (k : CwDrop) (f : Flow) : Flow :=
  { f with led := Ledger.cwDrop k 1 { f.led with cwIn := f.led.cwIn + 1 } }

/-- The first codeword that meets p is released. -/
def Flow.cwLeave (p : Codeword → Bool) (uncorr : Bool) (f : Flow) : Flow :=
  match takeFirst p f.cws with
  | some (_, l) =>
    { f with led := { f.led with cwOut := f.led.cwOut + 1, cwUncorr := f.led.cwUncorr + (if uncorr then 1 else 0) },
             cws := l }
  | none => f

/-- Every codeword that meets p is dropped into counter k. -/
def Flow.cwDropAll (k : CwDrop) (p : Codeword → Bool) (f : Flow) : Flow :=
  { f with led := f.led.cwDrop k (f.cws.countP p), cws := f.cws.filter (fun w => !p w) }

/-- Changes resident codewords in place. -/
def Flow.cwMap (g : Codeword → Codeword) (f : Flow) : Flow := { f with cws := f.cws.map g }

/-! ## Credits (R238) -/

/-- c more credits in the entry of a client. -/
def addCredit (client c : Nat) : List (Nat × Nat) → List (Nat × Nat)
  | [] => [(client, c)]
  | (a, k) :: l => if a = client then (a, k + c) :: l else (a, k) :: addCredit client c l

/-- c credits are issued to a client. -/
def Flow.crdIssue (client c : Nat) (f : Flow) : Flow :=
  { f with led := { f.led with crdIssued := f.led.crdIssued + c }, crd := addCredit client c f.crd }

/-- The first credit entry of a client that still holds a credit gives one. -/
def useCredit (client : Nat) : List (Nat × Nat) → Option (List (Nat × Nat))
  | [] => none
  | (a, c) :: l => if a = client ∧ 0 < c then some ((a, c - 1) :: l) else (useCredit client l).map ((a, c) :: ·)

/-- A client token consumes one credit, when one is outstanding. -/
def Flow.crdUse (client : Nat) (f : Flow) : Flow :=
  match useCredit client f.crd with
  | some l => { f with led := { f.led with crdUsed := f.led.crdUsed + 1 }, crd := l }
  | none => f

/-- The credits outstanding for the clients that meet p are withdrawn and counted. -/
def Flow.crdReclaim (p : Nat → Bool) (f : Flow) : Flow :=
  { f with led := { f.led with crdReclaim := f.led.crdReclaim + ((f.crd.filter (fun e => p e.1)).map (·.2)).sum },
           crd := f.crd.filter (fun e => !p e.1) }

/-! ## Flushes -/

/-- Everything in flight on transmit is flushed and counted (R60). -/
def Flow.flushTx (f : Flow) : Flow := f.txDropAll .flush (fun _ => true)

/-- Everything in flight on receive, codewords included, is flushed and counted (R60). -/
def Flow.flushRx (f : Flow) : Flow := (f.rxDropAll .flush (fun _ => true)).cwDropAll .flush (fun _ => true)

/-- LOCKDOWN flushes the datapath without counting (Table 2.4, bit 3). -/
def Flow.lose (f : Flow) : Flow := { f with tok := [], cws := [], crd := [], whole := false }

/-! ## On the state -/

/-- Indices i, from a start, at which two lists of counts differ in their multiple of m: counters that passed m - 1. -/
def wrapped (m : Nat) : Nat → List Nat → List Nat → List Nat
  | i, a :: as, b :: bs => if a / m = b / m then wrapped m (i + 1) as bs else i :: wrapped m (i + 1) as bs
  | _, _, _ => []

/-- Applies a flow operation to channel n; an In or Out counter that passes 2^48 - 1 sets its WRAP bit and STICKY, and a
pair that passes 2^96 - 1 its STICKY (R59, R378). -/
def State.flowOp (n : Nat) (f : Flow → Flow) (s : State) : State :=
  let a := (s.flow.get n).led
  let s1 := s.onFlow n f
  let b := (s1.flow.get n).led
  s1.each (wrapped (2 ^ 48) 0 a.io b.io) (fun i t => (t.putBit (FABC.WRAP n) i true).pmcWrap n i)
    |>.each (wrapped (2 ^ 96) 0 a.pairs b.pairs) (fun j t => t.pmcOverflow n (9 + 2 * j))

/-- Credits outstanding for one client: all its entries together. -/
def Flow.outstanding (f : Flow) (c : Nat) : Nat := ((f.crd.filter (fun e => e.1 = c)).map (·.2)).sum

end Sys2Proof.Machine
end

