-- ==== Sys2Proof/Machine/Codes.lean ====
section
/-! DEFINITION. Names of register codes, and the listed entries of a table. -/

namespace Sys2Proof.Machine

/-! ## Names of register codes -/

namespace Mode
def keep : Nat := 0
def reset : Nat := 1
def boot : Nat := 2
def cast : Nat := 3
def ready : Nat := 4
def service : Nat := 5
def degraded : Nat := 6
def lockdown : Nat := 7
end Mode

namespace ChSt
def dark : Nat := 0
def tuning : Nat := 1
def acquiring : Nat := 2
def locked : Nat := 3
def inService : Nat := 4
def resizing : Nat := 5
def fenced : Nat := 6
end ChSt

namespace Phase
def off : Nat := 0
def tuning : Nat := 1
def rampUp : Nat := 2
def lit : Nat := 3
def rampDown : Nat := 4
end Phase

namespace RszSt
def idle : Nat := 0
def proposed : Nat := 1
def accepted : Nat := 2
def armed : Nat := 3
def resizing : Nat := 4
def done : Nat := 5
def failed : Nat := 6
end RszSt

def State.mode (s : State) : Nat := s.rd DEV_MODE.MODE
def State.chSt (s : State) (n : Nat) : Nat := s.rd (LDS_CH_STATE.STATE n)
def State.phase (s : State) (n : Nat) : Nat := s.rd (OPT_STAT.PHASE n)

/-- The channel is LOCKED, IN_SERVICE or RESIZING. -/
def State.holdsLock (s : State) (n : Nat) : Bool := s.chSt n = 3 || s.chSt n = 4 || s.chSt n = 5

/-- The channel is IN_SERVICE or RESIZING. -/
def State.inTraffic (s : State) (n : Nat) : Bool := s.chSt n = 4 || s.chSt n = 5

/-! ## Listed entries of a table -/

/-- Indices i below `count`, rising, at which field `f`, repeated every `stride` bytes, holds other than its reset value. -/
def State.listed (s : State) (f : Field) (stride count : Nat) : List Nat :=
  s.regs.filterMap (fun p =>
    if f.key ≤ p.1 && (p.1 - f.key) % (8 * stride) = 0 && (p.1 - f.key) / (8 * stride) < count
    then some ((p.1 - f.key) / (8 * stride)) else none)

/-- Tributaries of channel n whose entry is not IDLE, rising. -/
def State.tribs (s : State) (n : Nat) : List Nat := s.listed (TRB_TRIB.STATE n 0) 16 1024

/-- Tributaries of channel n in one state. -/
def State.tribsIn (s : State) (n st : Nat) : List Nat := (s.tribs n).filter (fun t => s.rd (TRB_TRIB.STATE n t) = st)

namespace Trib
def idle : Nat := 0
def active : Nat := 1
def retiring : Nat := 2
def quarantine : Nat := 3
def held : Nat := 4
def suspended : Nat := 5
end Trib

/-- A list without repeats. -/
def uniq : List Nat → List Nat
  | [] => []
  | a :: l => if l.contains a then uniq l else a :: uniq l

/-- Indices i below `count` at which any field of the records at `base`, one every `stride` bytes, is not at reset. -/
def State.listedRows (s : State) (base stride count : Nat) : List Nat :=
  uniq (s.regs.filterMap (fun p =>
    if 8 * base ≤ p.1 && p.1 < 8 * (base + stride * count) then some ((p.1 - 8 * base) / (8 * stride)) else none))

end Sys2Proof.Machine
end

