-- ==== Sys2Proof/Machine/Clients.lean ====
section
/-! DEFINITION. Host ports, FlexE members and clients as the rest of the channel sees them: chapter 10 of spec/
(R231 to R239, R244). -/

namespace Sys2Proof.Machine

/-! ## Ports, members and calendars (R231 to R235) -/

/-- Lanes of a port of a TYPE (Table 10.1). -/
def typeLanes (ty : Nat) : Nat :=
  match ty with
  | 1 => 1
  | 2 => 2
  | 3 => 4
  | 4 => 8
  | _ => 0

/-- Lanes of the port whose first lane is p. -/
def State.portLanes (s : State) (n p : Nat) : List Nat :=
  (List.range (typeLanes (s.rd (HST_LANE_L.TYPE n p)))).map (· + p)

/-- First lane of the port that holds lane l: l cut to a multiple of the port's size. -/
def State.portOf (s : State) (n l : Nat) : Nat :=
  let k := typeLanes (s.rd (HST_LANE_L.TYPE n l))
  if k = 0 then l else l - l % k

/-- First lanes of the members of FlexE group g, in the order of their PHY numbers (R234). -/
def State.members (s : State) (n g : Nat) : List Nat :=
  (List.range 16).filter (fun l => s.portOf n l = l && s.rd (HST_LANE_L.TYPE n l) ≠ 0 && s.on (HST_LANE_L.FLEXE n l)
    && s.rd (HST_LANE_L.GROUP n l) = g)

/-- Calendar slots of one member of a TYPE (R234). -/
def memberSlots (ty : Nat) : Nat := if ty = 1 then 40 else if ty = 2 then 80 else 0

/-- Calendar slots of group g that calendar b (0 A, 1 B) gives client c. -/
def State.slotsOf (s : State) (n g b c : Nat) : List Nat :=
  if b = 0 then
    (s.listed (HST_CAL.A_VALID n g 0) 4 640).filter (fun i => s.rd (HST_CAL.A_CLIENT n g i) = c)
  else (s.listed (HST_CAL.B_VALID n g 0) 4 640).filter (fun i => s.rd (HST_CAL.B_CLIENT n g i) = c)

/-- First lane of the member that carries calendar slot i of group g. -/
def State.memberOf (s : State) (n g i : Nat) : Option Nat :=
  match s.members n g with
  | [] => none
  | m :: ms => (m :: ms)[i / Nat.max 1 (memberSlots (s.rd (HST_LANE_L.TYPE n m)))]?

/-- Nominal rate over 5 Gb/s that a client's home gives it (R235). -/
def State.rate5 (s : State) (n c : Nat) : Nat :=
  let h := s.rd (HST_CLI.HOME n c)
  if s.rd (HST_CLI.EN n c) = 0 then 0
  else if s.rd (HST_CLI.KIND n c) = 0 then 40 * typeLanes (s.rd (HST_LANE_L.TYPE n h))
  else Nat.max (s.slotsOf n h 0 c).length (s.slotsOf n h 1 c).length

/-- Clients whose table entry is enabled, rising. -/
def State.clients (s : State) (n : Nat) : List Nat := s.listed (HST_CLI.EN n 0) 16 256

/-- A client is defined (R235). -/
def State.defined (s : State) (n c : Nat) : Bool := s.on (HST_CLI.EN n c) && s.rate5 n c ≠ 0

/-- Lanes that a client uses in a direction: those of its port, or of the members that carry its slots in calendar b. -/
def State.clientLanes (s : State) (n c b : Nat) : List Nat :=
  let h := s.rd (HST_CLI.HOME n c)
  if s.rd (HST_CLI.KIND n c) = 0 then s.portLanes n h
  else (uniq ((s.slotsOf n h b c).filterMap (fun i => s.memberOf n h i))).flatMap (fun m => s.portLanes n m)

/-! ## Conditions (R239, R244) -/

/-- A lane keeps its clients from going UP. -/
def State.laneBad (s : State) (n l : Nat) : Bool :=
  s.on (HST_LSTAT_L.LOS n l) || s.on (HST_LSTAT_L.LOL n l) || !s.on (HST_LSTAT_L.AM_LOCK n l)
    || s.on (HST_LSTAT_L.FENCED n l)

/-- A condition of R239 holds for a defined client, or the host PLL is out of lock (R250), or the ingress calendar gives it
no slot (R247). -/
def State.mustReplace (s : State) (n c : Nat) : Bool :=
  let h := s.rd (HST_CLI.HOME n c)
  let lanes := s.clientLanes n c (s.rd (HST_FLX_STAT_G.RX_CAL n h))
  s.on (HST_STAT.LOL n) || lanes.isEmpty || lanes.any (fun l => s.laneBad n l)
    || (s.on (HST_CLI.KIND n c) && (s.on (HST_FLX_STAT_G.GNUM_MISMATCH n h)
        || lanes.any (fun l => s.portOf n l = l && !s.rdBit (HST_FLX_STAT_G.OH_LOCK n h) l)))

/-- A lane of the client's egress is fenced or has TX_EN = 0. -/
def State.laneDown (s : State) (n c : Nat) : Bool :=
  (s.clientLanes n c (s.rd (HST_FLX_STAT_G.TX_CAL n (s.rd (HST_CLI.HOME n c))))).any
    (fun l => s.on (HST_LSTAT_L.FENCED n l) || !s.on (HST_LANE_L.TX_EN n l))

/-- Entry of the active table with EN = 1 that names a client (R236). -/
def State.entryOf (s : State) (n c : Nat) : Option Nat :=
  (s.listed (TRB_TRIB.EN n 0) 16 1024).find? (fun t => s.rd (TRB_TRIB.CLIENT n t) = c)

/-- Entry with CARRY = 1 that names a client (R220). -/
def State.carryOf (s : State) (n c : Nat) : Option Nat :=
  (s.listed (TRB_TRIB.CARRY n 0) 16 1024).find? (fun t => s.rd (TRB_TRIB.CLIENT n t) = c)

/-- A client is credited: its entry is ACTIVE or HELD with CARRY = 1 (R236). -/
def State.credited (s : State) (n c : Nat) : Bool :=
  match s.entryOf n c with
  | some t => s.on (TRB_TRIB.CARRY n t) && (s.rd (TRB_TRIB.STATE n t) = Trib.active || s.rd (TRB_TRIB.STATE n t) = Trib.held)
  | none => false

/-- A condition of LF holds, the empty FIFO apart (R244). -/
def State.mustLf (s : State) (n c : Nat) : Bool :=
  match s.entryOf n c with
  | some t => s.rd (TRB_TRIB.STATE n t) ≠ Trib.active || (!s.interop n && s.rd (TRB_TRIB.REMOTE n t) = 0)
      || (s.rd (HST_CLI.KIND n c) = 1
          && (s.slotsOf n (s.rd (HST_CLI.HOME n c)) (s.rd (HST_FLX_STAT_G.TX_CAL n (s.rd (HST_CLI.HOME n c)))) c).isEmpty)
  | none => true

/-! ## Client state -/

/-- A client enters REPLACE: counted, with its event and source, and its credits withdrawn (R238, R239). -/
def State.replaceEnter (n c : Nat) (s : State) : State :=
  s.put (HST_CLI.IN n c) 2 |>.bump (HST_CLI.REPL n c) |>.put (HST_STAT.REPL_EV n) 1 |>.raiseCh n 0x61
    |>.count n .hst 0x06 |>.flowOp n (Flow.crdReclaim (fun x => x = c))

/-- The egress FIFO of client c is emptied: its tokens go nowhere. -/
def State.dropFifo (n c : Nat) (s : State) : State :=
  (s.put (HSTC.FIFO n c) 0).onChan n (fun h => { h with egress := h.egress.filter (fun e => e.1 ≠ c) })

/-- The entries of a list without the first k of client c. -/
def lessFirst (c : Nat) : Nat → List (Nat × Bool × BitVec 512) → List (Nat × Bool × BitVec 512)
  | _, [] => []
  | 0, l => l
  | k + 1, e :: l => if e.1 = c then lessFirst c k l else e :: lessFirst c (k + 1) l

/-- Lane l of channel n sends electrical idle, and otherwise its port's PCS (R251, Table 10.5). -/
def State.laneIdle (s : State) (n l : Nat) : Bool :=
  s.mode = Mode.keep || s.mode = Mode.reset || s.mode = Mode.boot || s.mode = Mode.lockdown || s.rd (HST_LANE_L.TYPE n l) = 0
    || !s.on (HST_LANE_L.TX_EN n l) || s.on (HST_LSTAT_L.FENCED n l) || s.on (HST_STAT.LOL n)

/-- The lanes take k tokens of client c from its egress FIFO. -/
def State.takeFifo (n c k : Nat) (s : State) : State :=
  let gone := ((s.chan n).egress.filter (fun e => e.1 = c)).take k
  let idle := (s.clientLanes n c (s.rd (HST_FLX_STAT_G.TX_CAL n (s.rd (HST_CLI.HOME n c))))).any (s.laneIdle n)
  ((s.put (HSTC.FIFO n c) (s.rd (HSTC.FIFO n c) - k)).onChan n (fun h => { h with egress := lessFirst c k h.egress })).when (!idle)
    (fun t => t.each gone (fun e u => u.emit (.hostToken n c e.2.1 e.2.2)))

/-- The tables' and lanes' changes reach one client: its ingress and egress states, MAPPED and CREDITED. -/
def State.clientRefresh (n c : Nat) (s : State) : State :=
  if !s.defined n c then
    (s.clear [HST_CLI.IN n c, HST_CLI.OUT n c, HST_CLI.MAPPED n c, HST_CLI.CREDITED n c]).dropFifo n c
  else
    let s1 := if s.mustReplace n c then s.when (s.rd (HST_CLI.IN n c) ≠ 2) (·.replaceEnter n c)
      else s.when (s.rd (HST_CLI.IN n c) = 0) (·.put (HST_CLI.IN n c) 1)
    let out := s.rd (HST_CLI.OUT n c)
    s1.put (HST_CLI.OUT n c) (if s.laneDown n c then 3 else if s.mustLf n c || out = 0 || out = 3 then 2 else out)
      |>.flag (HST_CLI.MAPPED n c) (s.entryOf n c).isSome
      |>.flag (HST_CLI.CREDITED n c) (s.credited n c && s1.rd (HST_CLI.IN n c) = 1)

/-- The same for every client of a channel (R252). -/
def State.hstRefresh (n : Nat) (s : State) : State := s.each (s.clients n) (fun c t => t.clientRefresh n c)

/-- RATE5 of every client, and each group's ACTIVE bit (R235, Table 10.9). -/
def State.hstRates (n : Nat) (s : State) : State :=
  s.each (s.clients n) (fun c t => t.put (HST_CLI.RATE5 n c) (t.rate5 n c))
    |>.each (List.range 8) (fun g t => t.flag (HST_FLX_STAT_G.ACTIVE n g) (!(t.members n g).isEmpty))

/-- RX_UP: lanes free of LOS and LOL, with AM_LOCK (Table 10.7). -/
def State.rxUp (n : Nat) (s : State) : State :=
  s.put (HST_LANES.RX_UP n) (ofBits ((List.range 16).map (fun l => s.on (HST_LSTAT_L.AM_LOCK n l)
    && !s.on (HST_LSTAT_L.LOS n l) && !s.on (HST_LSTAT_L.LOL n l))))

/-! ## Capacity (R217, R289) -/

/-- A client's mapped rate with its margin fits a slot count; rates in Gb/s times 2,560,000. -/
def fitsSlots (rate5 count : Nat) (enc : Bool) (rs : Nat) : Bool :=
  rate5 * 5 * 257 * 10002 + (if enc then 8 * rs else 0) ≤ count * 25175 * 256

/-- A table entry that governs tributary t lies in an uncorrectable line (Table 17.2). -/
def State.tainted (s : State) (n t : Nat) : Bool :=
  s.on (MEMC.BAD_TRB n t) || s.on (MEMC.BAD_TEN n t) || s.on (MEMC.BAD_CLI n (s.rd (TRB_TRIB.CLIENT n t)))

end Sys2Proof.Machine
end

