-- ==== Sys2Proof/Machine/Slices.lean ====
section
/-! DEFINITION. Converter slices of a channel: faults, shadow calibrations, substitutions and respacing: chapter 5 of spec/
(R106 to R118).  Slice k of a channel is 68 c + its number in converter c; converters 0 to 3 are DACs, 4 to 7 ADCs. -/

namespace Sys2Proof.Machine

namespace Slice
def active : Nat := 0
def spare : Nat := 1
def shadow : Nat := 2
def fenced : Nat := 3
def idle : Nat := 4
def failing : Nat := 5
end Slice

def State.slice (s : State) (n k : Nat) : Nat := s.rd (CNV_SLC_STAT.STATE n k)

/-- Physical slices of converter c. -/
def slicesOf (c : Nat) : List Nat := (List.range 68).map (· + 68 * c)

/-- Converters of a direction: 0 transmit, 1 receive. -/
def convsOf (dir : Nat) : List Nat := (List.range 4).map (· + 4 * dir)

/-! ## Corrections (R108, Table 5.3), in the units of their registers -/

/-- Working value of correction j of slice k: 0 offset, 1 gain, 2 skew, 3 bandwidth. -/
def corField (n k j : Nat) : Field :=
  match j with
  | 0 => CNV_SLC_COR0.OFFSET n k
  | 1 => CNV_SLC_COR0.GAIN n k
  | 2 => CNV_SLC_COR0.SKEW n k
  | _ => CNV_SLC_COR1.BW n k

/-- Limit of the range of correction j. -/
def corRange (adc : Bool) (j : Nat) : Int :=
  match j with
  | 0 => if adc then 128 else 32
  | 1 => 245
  | 2 => 128
  | _ => 126

/-- Drift window of correction j around its reference. -/
def corWindow (adc : Bool) (j : Nat) : Int :=
  match j with
  | 0 => if adc then 32 else 8
  | 1 => 40
  | 2 => 15
  | _ => 20

/-- Slice k belongs to an ADC. -/
def isAdc (k : Nat) : Bool := 272 ≤ k

def State.cor (s : State) (n k j : Nat) : Int := s.rdS (corField n k j)

/-- Distance of a working value from its reference. -/
def State.corDrift (s : State) (n k j : Nat) : Nat := (s.cor n k j - s.rdS (CNVC.REF n k j)).natAbs

/-- DRIFT: a working correction beyond half its window (R112). -/
def State.driftFlag (n k : Nat) (s : State) : State :=
  s.flag (CNV_SLC_STAT.DRIFT n k) ([0, 1, 2, 3].any (fun j => corWindow (isAdc k) j < 2 * (s.corDrift n k j : Int)))

/-- A value within the range of correction j (R108). -/
def corLimit (adc : Bool) (j : Nat) (v : Int) : Int := max (-(corRange adc j)) (min (corRange adc j) v)

/-- A slice takes four values as reference and working values (R111, R114). -/
def State.takeCor (n k : Nat) (v : List Int) (s : State) : State :=
  (s.each [0, 1, 2, 3] (fun j t =>
    let x := corLimit (isAdc k) j (v.getD j 0)
    (t.putS (corField n k j) x).putS (CNVC.REF n k j) x)).driftFlag n k

/-- A breach of a condition of conservation in channel n (R57). -/
def State.breach (n b : Nat) (s : State) : State := s.putBit (FABC.COND n) b true

/-- Slice k of channel n becomes FENCED (R115). -/
def State.fenceSlice (n k : Nat) (s : State) : State := (s.put (CNV_SLC_STAT.STATE n k) Slice.fenced).breach n 2

/-! ## Counts -/

/-- Spares of converter c in state SPARE. -/
def State.spares (s : State) (n c : Nat) : List Nat := (slicesOf c).filter (fun k => s.slice n k = Slice.spare)

/-- CNV_SPARES.FREE, CNV_STAT.SHADOW and the count of fenced slices. -/
def State.sliceSum (n : Nat) (s : State) : State :=
  s.put (CNV_SPARES.FREE n) (((List.range 8).map (fun c => 8 ^ c * Nat.min 4 (s.spares n c).length)).sum)
    |>.flag (CNV_STAT.SHADOW n) ((s.chan n).swaps.any (fun w => match w.stage with
        | .shadow _ => true
        | _ => false))
    |>.put (CNVC.FENCED n) ((List.range 544).countP (fun k => s.slice n k = Slice.fenced))

/-! ## Substitution (R114, Table 5.6) -/

/-- A shadow calibration runs on converter c. -/
def shadowing (c : Nat) (l : List Swap) : Bool := l.any (fun w => w.conv = c && (match w.stage with
  | .shadow _ => true
  | _ => false))

/-- Step 2 for one waiting position: the lowest spare enters SHADOW, or none is free. -/
def State.startShadow (n : Nat) (w : Swap) (s : State) : State × Swap :=
  match s.spares n w.conv with
  | sp :: _ =>
    ((s.put (CNV_SLC_STAT.STATE n sp) Slice.shadow).put (CNV_SLC_STAT.POS n sp) w.pos, { w with stage := .shadow sp })
  | [] => ((s.put (CNV_STAT.EXHAUST n) 1).raiseCh n 0x11, { w with stage := .exhausted })

/-- Step 2 for every position that can take it, in order: `done` holds the positions passed. -/
def State.shadowScan (n : Nat) : List Swap → List Swap → State → State
  | done, [], s => s.onChan n (fun c => { c with swaps := done })
  | done, w :: l, s =>
    if w.stage = .waiting && !shadowing w.conv (done ++ l) then
      let r := s.startShadow n w
      r.1.shadowScan n (done ++ [r.2]) l
    else s.shadowScan n (done ++ [w]) l

def State.startShadows (n : Nat) (s : State) : State := (s.shadowScan n [] (s.chan n).swaps).sliceSum n

/-- A slice fault with its detector: SLC_EV, its source and the event (R112, R113). -/
def State.sliceMark (n k cause : Nat) (s : State) : State :=
  (s.when (s.rd (CNV_SLC_STAT.CAUSE n k) = 0) (·.put (CNV_SLC_STAT.CAUSE n k) cause)).put (CNV_STAT.SLC_EV n) 1
    |>.raiseCh n 0x10 |>.count n .cnv 0x01

/-- The shadow calibration of spare k did not converge: step 3a. -/
def State.shadowFail (n k : Nat) (s : State) : State :=
  (s.fenceSlice n k).onChan n (fun c => { c with swaps := c.swaps.map (fun w =>
      if w.stage = .shadow k || w.stage = .ready k then { w with stage := .waiting } else w) })
    |>.startShadows n

/-- Slice k faults, except for what follows in the device mode: an ACTIVE slice is FAILING and concealed, a spare is
FENCED.  A slice that is FAILING, FENCED or IDLE does not fault. -/
def State.sliceFaultCore (n k cause : Nat) (s : State) : State :=
  let st := s.slice n k
  if st = Slice.active then
    (s.sliceMark n k cause |>.put (CNV_SLC_STAT.STATE n k) Slice.failing).onChan n (fun c =>
        { c with swaps := c.swaps ++ [⟨k / 68, s.rd (CNV_SLC_STAT.POS n k), some k, .waiting⟩] })
      |>.startShadows n
  else if st = Slice.spare then (s.sliceMark n k cause |>.fenceSlice n k).sliceSum n
  else if st = Slice.shadow then (s.sliceMark n k cause).shadowFail n k
  else s

/-- A fault of slice k fences it at once: it was not ACTIVE. -/
def State.fencesNow (s : State) (n k : Nat) : Bool := s.slice n k = Slice.spare || s.slice n k = Slice.shadow

/-- Converters whose channel may act at once (Table 5.4, row DARK or TUNING). -/
def State.actsAtOnce (s : State) (n : Nat) : Bool := s.chSt n = ChSt.dark || s.chSt n = ChSt.tuning

/-- No boundary from the target multiframe until CONVERGED sets (Table 5.4, row RESIZING).  The table has no row for FENCED:
there every boundary that is commanded takes place (DESIGN CHOICE, log entry 43). -/
def State.boundaryOpen (s : State) (n : Nat) : Bool := s.rd (LDS_RSZ_STAT.STATE n) ≠ RszSt.resizing

/-! ## Positions (R107, R117, R118) -/

/-- Insertion of a slice into a list in order of position. -/
def posInsert (x : Nat × Nat) : List (Nat × Nat) → List (Nat × Nat)
  | [] => [x]
  | y :: l => if x.1 < y.1 then x :: y :: l else y :: posInsert x l

/-- Slices of converter c that hold or may hold a position, in order of position: those parked come last. -/
def State.usable (s : State) (n c : Nat) : List Nat :=
  (((slicesOf c).filter (fun k => s.slice n k = Slice.active || s.slice n k = Slice.failing || s.slice n k = Slice.idle)).foldl
    (fun l k => posInsert (if s.slice n k = Slice.idle then 64 + k % 68 else s.rd (CNV_SLC_STAT.POS n k), k) l) []).map (·.2)

/-- Positions to fill in converter c, whose slices in order of position are u, numbered anew: those that it regains follow the
others, from `next` on. -/
def renumber (c : Nat) (u : List Nat) : Nat → List Swap → List Swap
  | _, [] => []
  | next, w :: l =>
    if w.conv ≠ c then w :: renumber c u next l
    else match w.slice with
      | some k => { w with pos := u.findIdx (· = k) } :: renumber c u next l
      | none => { w with pos := next } :: renumber c u (next + 1) l

/-- The spare that fills a position, in SHADOW, stands at its phase. -/
def State.placeSpare (n : Nat) (w : Swap) (s : State) : State :=
  match w.stage with
  | .shadow sp => s.put (CNV_SLC_STAT.POS n sp) w.pos
  | .ready sp => s.put (CNV_SLC_STAT.POS n sp) w.pos
  | _ => s

/-- The spare of a position that is no longer to be filled is free again. -/
def State.freeSwap (n : Nat) (w : Swap) (s : State) : State :=
  match w.stage with
  | .shadow sp => s.put (CNV_SLC_STAT.STATE n sp) Slice.spare
  | .ready sp => s.put (CNV_SLC_STAT.STATE n sp) Slice.spare
  | _ => s

/-- The positions of one converter are spaced anew: its first `act` usable slices take positions 0 up, and the rest are
parked; a parked FAILING slice is FENCED, its spare free again. -/
def State.spaceConv (n act c : Nat) (s : State) : State :=
  let u := s.usable n c
  let parked := u.drop act
  let lost := parked.filter (fun k => s.slice n k = Slice.failing)
  let gone (w : Swap) : Bool := w.slice.any (fun k => lost.contains k)
  let sw := (s.chan n).swaps
  let left := renumber c u u.length (sw.filter (fun w => !gone w))
  s.each (u.take act).zipIdx (fun p t => (t.put (CNV_SLC_STAT.POS n p.1) p.2).when (t.slice n p.1 = Slice.idle)
      (·.put (CNV_SLC_STAT.STATE n p.1) Slice.active))
    |>.each parked (fun k t => if lost.contains k then t.fenceSlice n k else t.put (CNV_SLC_STAT.STATE n k) Slice.idle)
    |>.each (sw.filter gone) (fun w t => t.freeSwap n w)
    |>.onChan n (fun ch => { ch with swaps := left })
    |>.each (left.filter (fun w => w.conv = c)) (fun w t => t.placeSpare n w)

/-- MAXRS: 340 × (64 − kmax) / 64 GBd, rounded down to 0.01 GBd (R107). -/
def maxRs (tx rx : Nat) : Nat := 34000 * Nat.min tx rx / 64

/-- Positions that the worst converter of a direction can fill. -/
def State.positions (s : State) (n dir : Nat) : Nat := ((convsOf dir).map (fun c => (s.usable n c).length)).foldl Nat.min 64

/-- TX_ACT, RX_ACT and MAXRS: a faulted PLL leaves its converters no usable position (R107, R120). -/
def State.convRates (n : Nat) (s : State) : State :=
  let tx := if s.on (CNV_PLL_STAT.TX_FAULT n) then 0 else s.positions n 0
  let rx := if s.on (CNV_PLL_STAT.RX_FAULT n) then 0 else s.positions n 1
  s.put (CNV_RATE.TX_ACT n) tx |>.put (CNV_RATE.RX_ACT n) rx |>.put (CNV_RATE.MAXRS n) (maxRs tx rx)

/-- The converters of a direction run as many positions as the worst of them can fill. -/
def State.spaceDir (n dir : Nat) (s : State) : State :=
  let act := s.positions n dir
  ((s.each (convsOf dir) (fun c t => t.spaceConv n act c)).convRates n).sliceSum n

/-- A direction has a FAILING slice and no spare for it. -/
def State.exhausted (s : State) (n dir : Nat) : Bool :=
  (s.chan n).swaps.any (fun w => w.stage = .exhausted && w.conv / 4 = dir)

/-- Step 4a for a direction: the FAILING slices without a spare are FENCED, and the positions spaced anew. -/
def State.respaceCore (n dir : Nat) (s : State) : State :=
  let sw := (s.chan n).swaps
  let gone := sw.filter (fun w => w.stage = .exhausted && w.conv / 4 = dir)
  s.each gone (fun w t => match w.slice with
      | some k => t.fenceSlice n k
      | none => t)
    |>.onChan n (fun c => { c with swaps := sw.filter (fun w => !(w.stage = .exhausted && w.conv / 4 = dir)) })
    |>.spaceDir n dir |>.bump (CNV_CNT.RESPACE n) |>.count n .cnv 0x03

/-- Step 4 for one position whose spare has converged: the spare is ACTIVE there and the failed slice FENCED.  A regained
position adds its slice to the converter (R118). -/
def State.substitute (n : Nat) (w : Swap) (s : State) : State :=
  match w.stage with
  | .ready sp =>
    let s1 := s.onChan n (fun c => { c with swaps := c.swaps.filter (· ≠ w) })
    match w.slice with
    | some k =>
      s1.put (CNV_SLC_STAT.STATE n sp) Slice.active |>.put (CNV_SLC_STAT.POS n sp) w.pos
        |>.fenceSlice n k |>.bump (CNV_CNT.SWAP n) |>.put (CNV_STAT.SWAP_EV n) 1
        |>.count n .cnv 0x02 |>.sliceSum n
    | none => (s1.put (CNV_SLC_STAT.STATE n sp) Slice.idle).spaceDir n (w.conv / 4)
  | _ => s

/-- Substitutions of a direction that can take place. -/
def State.readySwaps (s : State) (n dir : Nat) : List Swap :=
  (s.chan n).swaps.filter (fun w => w.conv / 4 = dir && (match w.stage with
    | .ready _ => true
    | _ => false))

/-- A channel is DARK: everything pending takes effect as it is ready, and converters regain positions (R116, R118). -/
def State.convDark (n : Nat) (s : State) : State :=
  let s1 := s.each (s.readySwaps n 0 ++ s.readySwaps n 1) (fun w t => t.substitute n w)
  (s1.when (s1.exhausted n 0) (·.respaceCore n 0)).when (s1.exhausted n 1) (·.respaceCore n 1)

/-- A channel leaves DARK: positions that it was regaining are regained no more, and their spares are free (R118, DESIGN CHOICE, log
entry 43). -/
def State.regainStop (n : Nat) (s : State) : State :=
  let l := (s.chan n).swaps.filter (fun w => w.slice.isNone)
  s.when (!l.isEmpty) (fun t =>
    ((t.each l (fun w u => u.freeSwap n w)).onChan n (fun c => { c with swaps := c.swaps.filter (fun w => w.slice.isSome) })).startShadows n)

/-- Positions that converter c lacks and a spare could fill, while DARK, are queued for shadow calibration (R118). -/
def State.regain (n c : Nat) (s : State) : State :=
  let act := (s.usable n c).length
  let queued := (s.chan n).swaps.countP (fun w => w.conv = c && w.slice.isNone)
  if s.chSt n = ChSt.dark && act + queued < 64 && !(s.spares n c).isEmpty then
    (s.onChan n (fun ch => { ch with swaps := ch.swaps ++ [⟨c, act + queued, none, .waiting⟩] })).startShadows n
  else s

end Sys2Proof.Machine
end

