-- ==== Sys2Proof/Machine/CalSets.lean ====
section
/-! DEFINITION. Calibration sets, their store, plausibility and apply: chapter 14 of spec/ (R323 to R339).  A set record is
laid out as Tables 14.1 and 14.2 give; values keep the units of its fields. -/

namespace Sys2Proof.Machine

/-- A lane's delay limit flag, from its sum of CAL and TRIM in force (R170). -/
def State.skewLimit (n l : Nat) (s : State) : State :=
  let d := s.rdS (LDS_TX_SKEW_L.CAL n l) + s.rdS (LDS_TX_SKEW_L.TRIM n l).inForce
  s.putBit (LDS_TX_STAT.SKEW_LIM n) l (600 ≤ d || d ≤ -600)

/-- Each lane's pre-emphasis limit flag (R168), from the gains in use, in 0.01 dB over the DC gain. -/
def State.boostLimit (n : Nat) (s : State) : State :=
  let lim : Int := 10 * s.rd (LDS_TX_CTRL.MAXBOOST n).inForce
  s.put (LDS_TX_STAT.BOOST_LIM n) (ofBits ((List.range 4).map (fun l => s.rd (LDS_TX_CTRL.PREEMP_EN n).inForce = 1
    && (List.range 17).any (fun f => lim ≤ toSigned 16 (memLe s.applied (0x2000 * n + 0x1140 + 2 * (17 * l + f)) 2)))))

/-! ## Log (R339) -/

/-- One CAL_LOG entry. -/
def State.calLog (event scope qty index : Nat) (value limit : Int) (s : State) : State :=
  let e := 0x8A00000 + 16 * s.rd CAL_LOG_PTR.PTR
  s.put64 e (s.rd KEY_RTC.SEC * 2 ^ 32 + event * 2 ^ 24 + scope * 2 ^ 21 + qty * 2 ^ 8)
    |>.put64 (e + 8) (index * 2 ^ 48 + ofSigned 24 value * 2 ^ 24 + ofSigned 24 limit)
    |>.when (s.rd CAL_LOG_PTR.PTR = 255) (·.put CAL_LOG_PTR.WRAP 1)
    |>.addWrap CAL_LOG_PTR.PTR 1

/-! ## Records (R325, R326) -/

/-- Scope s in the memories that hold one record a scope. -/
def setBase (sc : Nat) : Nat := 0x2000 * sc

/-- Region of a scope in the store: 0 F, 1 A, 2 B (R324). -/
def regionBase (sc r : Nat) : Nat := 0x6000 * sc + 0x2000 * r

/-- A field of a record: unsigned, and two's complement. -/
def setU (m : List Host.Cell) (off k : Nat) : Nat := memLe m off k
def setS (m : List Host.Cell) (off k : Nat) : Int := toSigned (8 * k) (memLe m off k)

/-- One plausibility check: quantity, index, where its value lies, its absolute limits and its step (R329). -/
structure Check where
  qty : Nat
  idx : Nat
  off : Nat
  width : Nat
  signed : Bool
  lo : Int
  hi : Int
  /-- 0: no step limit -/
  step : Int
  deriving DecidableEq, Repr

/-- Checks of the slice corrections of an ADC side (adc) or DAC side, correction j. -/
def sliceChecks (adc : Bool) (j : Nat) : List Check :=
  let lim : Int := match j with
    | 0 => if adc then 96 else 24
    | 1 => 184
    | 2 => 96
    | _ => 95
  let step : Int := match j with
    | 0 => if adc then 32 else 8
    | 1 => 40
    | 2 => 15
    | _ => 20
  (List.range 272).map (fun k =>
    ⟨(if adc then 1 else 5) + j, k, (if adc then 0x40 else 0x8C0) + 8 * k + 2 * j, 2, true, -lim, lim, step⟩)

/-- Checks of the quantities 0x0A to 0x12 of a channel set. -/
def laneChecks : List Check :=
  (List.range 4).map (fun l => ⟨0x0A, l, 0x1270 + 2 * l, 2, true, -200, 200, 50⟩)
    ++ (List.range 4).map (fun l => ⟨0x0B, l, 0x1268 + 2 * l, 2, true, -400, 400, 50⟩)
    ++ (List.range 68).map (fun i => ⟨0x0C, i / 17, 0x1140 + 2 * i, 2, true, 0, 1500, 150⟩)
    ++ (List.range 4).map (fun l => ⟨0x0D, l, 0x11C8 + 40 * l, 4, true, 13421773, 20971520, 838860⟩)
    ++ ((List.range 40).filter (fun i => i % 10 ≠ 0)).map (fun i => ⟨0x0E, i / 10, 0x11C8 + 4 * i, 4, true, -4194304, 4194304, 838860⟩)
    ++ (List.range 4).map (fun a => ⟨0x0F, a, 0x1278 + 2 * a, 2, true, -200, 200, 30⟩)
    ++ (List.range 2).map (fun i => ⟨0x10, i, 0x1280 + 2 * i, 2, true, -100, 100, 20⟩)
    ++ (List.range 2).map (fun i => ⟨0x11, i, 0x1284 + 2 * i, 2, true, -500, 500, 100⟩)
    ++ (List.range 6).map (fun b => ⟨0x12, b, 0x1288 + 2 * b, 2, true, -9500, 9500, 0⟩)

/-- Checks of the monitor inputs below a number: offset, then gain. -/
def monitorChecks (k : Nat) : List Check :=
  (List.range k).map (fun i => ⟨0x13, i, 0x1298 + 8 * i, 4, true, -16777, 16777, 1677⟩)
    ++ (List.range k).map (fun i => ⟨0x14, i, 0x129C + 8 * i, 4, true, -335544, 335544, 33554⟩)

/-- Checks of the optical engine section; the step of the tap responsivities is 10% of the value in force. -/
def opticalChecks (old : List Host.Cell) : List Check :=
  (List.range 2).map (fun i => ⟨0x15, i, 0x1398 + 2 * i, 2, false, 2000, 10000, Nat.max 1 (setU old (0x1398 + 2 * i) 2 / 10)⟩)
    ++ [⟨0x16, 0, 0x139C, 2, true, -300, 300, 50⟩, ⟨0x17, 0, 0x139E, 2, false, 2500, 5500, 200⟩,
        ⟨0x17, 1, 0x13A0, 2, true, -200, 200, 30⟩]

/-- Checks of the references, as the header records them. -/
def headerChecks (channel : Bool) : List Check :=
  ⟨0x18, 0, 0x1E, 4, false, 995000, 1005000, 0⟩ :: (if channel then [⟨0x19, 0, 0x22, 2, true, -2000, 2000, 0⟩] else [])

/-- The checks before and after the mean gain of the ADCs, in ascending quantity. -/
def checksLow : List Check :=
  sliceChecks true 0 ++ sliceChecks true 1 ++ sliceChecks true 2 ++ sliceChecks true 3
    ++ sliceChecks false 0 ++ sliceChecks false 1 ++ sliceChecks false 2 ++ sliceChecks false 3

def checksHigh (sc : Nat) (old : List Host.Cell) : List Check :=
  if sc < 4 then laneChecks ++ monitorChecks 32 ++ opticalChecks old ++ headerChecks true
  else monitorChecks 22 ++ headerChecks false

/-- Slice of a channel that an entry of the slice sections belongs to. -/
def sliceOfEntry (qty idx : Nat) : Nat := if qty ≤ 4 then 272 + idx else idx

/-- The value of a check in a record. -/
def Check.value (c : Check) (m : List Host.Cell) : Int :=
  if c.signed then setS m c.off c.width else setU m c.off c.width

/-- The limit that a value misses, when it misses one; `old` is the set in force where step limits apply. -/
def Check.missed (c : Check) (m : List Host.Cell) (old : Option (List Host.Cell)) : Option Int :=
  let v := c.value m
  if v < c.lo then some c.lo else if c.hi < v then some c.hi
  else match old with
    | none => none
    | some o =>
      let w := c.value o
      if c.step = 0 then none else if v < w - c.step then some (w - c.step) else if w + c.step < v then some (w + c.step) else none

/-- A value that failed: quantity, index, value and limit. -/
structure Miss where
  qty : Nat
  idx : Nat
  value : Int
  limit : Int
  deriving DecidableEq, Repr

/-- The first of a list of checks that fails. -/
def firstMiss (l : List Check) (m : List Host.Cell) (old : Option (List Host.Cell)) : Option Miss :=
  l.findSome? (fun c => (c.missed m old).map (fun lim => ⟨c.qty, c.idx, c.value m, lim⟩))

/-- Sum of the gains of the slices of ADC a in a list. -/
def gainSum (m : List Host.Cell) (a : Nat) (l : List Nat) : Int :=
  (l.map (fun k => setS m (0x42 + 8 * (68 * a + k)) 2)).foldl (· + ·) 0

/-- Quantity 0x09: mean gain over the active slices, within ±3.0% and a step of ±0.5% (in 1/4,096: 122.88 and 20.48). -/
def meanMiss (act : Nat → List Nat) (m : List Host.Cell) (old : Option (List Host.Cell)) : Option Miss :=
  (List.range 4).findSome? (fun a =>
    let k : Int := (act a).length
    let g := gainSum m a (act a)
    let mean := if k = 0 then 0 else g / k
    if 12288 * k < 100 * g.natAbs then some ⟨9, a, mean, if g < 0 then -122 else 122⟩
    else match old with
      | none => none
      | some o =>
        let h := gainSum o a (act a)
        if 2048 * k < 100 * (g - h).natAbs then
          some ⟨9, a, mean, (if k = 0 then 0 else h / k) + (if g < h then -20 else 20)⟩
        else none)

/-- Active slices of ADC a of a channel. -/
def State.adcActive (s : State) (n a : Nat) : List Nat :=
  (List.range 68).filter (fun k => s.slice n (272 + 68 * a + k) = Slice.active)

/-- Plausibility of a set of a scope (R329): entries of FENCED and FAILING slices are not checked. -/
def State.implausible (s : State) (sc : Nat) (m : List Host.Cell) (old : Option (List Host.Cell)) : Option Miss :=
  let low := if sc < 4 then checksLow.filter (fun c =>
    let st := s.slice sc (sliceOfEntry c.qty c.idx)
    st ≠ Slice.fenced && st ≠ Slice.failing) else []
  (firstMiss low m old).or ((if sc < 4 then meanMiss (s.adcActive sc) m old else none).or
    (firstMiss (checksHigh sc (old.getD [])) m old))

/-- A scope's set in force, as a record. -/
def State.setOf (s : State) (sc : Nat) : List Host.Cell := memCopy s.sets (setBase sc) 0 0x2000 []

/-- A stored copy, as a record. -/
def State.copyOf (s : State) (sc r : Nat) : List Host.Cell := memCopy s.store (regionBase sc r) 0 0x2000 []

/-- A stored copy is valid (R326). -/
def State.copyValid (s : State) (sc r : Nat) : Bool :=
  let m := s.copyOf sc r
  setU m 0x1FFC 4 = crc32c (memBytes m 0 0x1FFC) && memBytes m 0 6 = [0x4A, 0x43, 0x41, 0x4C, 0x01, BitVec.ofNat 8 sc]
    && setU m 0x24 4 = s.rd DEV_SERIAL_LO.SN
    && (firstMiss ((if sc < 4 then checksLow else []) ++ checksHigh sc []) m none).isNone
    && (if sc < 4 then meanMiss (fun _ => List.range 64) m none else none).isNone

/-- VALID flag of region r. -/
def validField (sc r : Nat) : Field :=
  match r with
  | 0 => CAL_SSTAT_S.VALID_F sc
  | 1 => CAL_SSTAT_S.VALID_A sc
  | _ => CAL_SSTAT_S.VALID_B sc

/-- SRC code of region r. -/
def srcCode (r : Nat) : Nat := if r = 0 then 3 else r

def State.regionSeq (s : State) (sc r : Nat) : Nat := memLe s.store (regionBase sc r + 8) 4

/-- The newest valid copy of A and B: the higher SEQ, compared as a signed difference (R327). -/
def State.newestAB (s : State) (sc : Nat) : Option Nat :=
  let a := s.on (CAL_SSTAT_S.VALID_A sc)
  let b := s.on (CAL_SSTAT_S.VALID_B sc)
  if a && b then
    some (if toSigned 32 ((s.regionSeq sc 1 + 2 ^ 32 - s.regionSeq sc 2) % 2 ^ 32) < 0 then 2 else 1)
  else if a then some 1 else if b then some 2 else none

/-- The newest valid copy, the factory set where neither A nor B is valid. -/
def State.newestCopy (s : State) (sc : Nat) : Option Nat :=
  (s.newestAB sc).or (if s.on (CAL_SSTAT_S.VALID_F sc) then some 0 else none)

/-- SEQ of the next new set: one above the newest. -/
def State.nextSeq (s : State) (sc : Nat) : Nat :=
  match s.newestCopy sc with
  | some r => (s.regionSeq sc r + 1) % 2 ^ 32
  | none => 1

/-- What a set in force gives the scope's registers (R336); `r` is the region it came from, when it is stored. -/
def State.showSet (sc : Nat) (r : Option Nat) (s : State) : State :=
  let m := s.sets
  let b := setBase sc
  s.put (CAL_SSTAT_S.INFORCE sc) 1 |>.put (CAL_SEQ_S.SEQ sc) (memLe m (b + 8) 4) |>.put (CAL_CNT_S.COUNT sc) (memLe m (b + 12) 4)
    |>.put (CAL_TIME_S.RTC sc) (memLe m (b + 16) 4)
    |>.putS (CAL_SSTAT_S.TEMP sc) ((toSigned 16 (memLe m (b + 0x1C) 2) + 25) / 50)
    |>.put (CAL_SSTAT_S.SRC sc) (r.elim 0 srcCode) |>.flag (CAL_SSTAT_S.FALLBACK sc) (r = some 0)

/-! ## Elements (R332, Table 14.6) -/

/-- Bytes of a record that an element covers: offset and length. -/
def elementRanges (sc e : Nat) : List (Nat × Nat) :=
  if 4 ≤ sc then [(0x1298, 0xB0)]
  else if e < 544 then [(0x40 + 8 * e, 8)]
  else if e < 548 then
    let l := e - 544
    [(0x1268 + 2 * l, 2), (0x1140 + 34 * l, 34), (0x11C8 + 40 * l, 40), (0x1270 + 2 * l, 2)]
  else if e = 548 then [(0x1278, 16)]
  else if e = 549 then [(0x1298, 0x100)]
  else if e = 550 then [(0x1288, 12)]
  else [(0x1398, 10)]

/-- Slice that element e below 544 carries. -/
def elementSlice (e : Nat) : Nat := if e < 272 then 272 + e else e - 272

/-- An element's values go into use: m is the record they come from, at address b. -/
def State.useElement (sc e : Nat) (m : List Host.Cell) (b : Nat) (s : State) : State :=
  let s1 := { s with applied := (elementRanges sc e).foldl (fun a r => memCopy m (b + r.1) (setBase sc + r.1) r.2 a) s.applied }
  if 4 ≤ sc then s1
  else if e < 544 then
    let k := elementSlice e
    s1.takeCor sc k ([0, 2, 4, 6].map (fun j => setS m (b + 0x40 + 8 * e + j) 2))
  else if e < 548 then
    ((s1.put (LDS_TX_SKEW_L.CAL sc (e - 544)) (setU m (b + 0x1268 + 2 * (e - 544)) 2)).skewLimit sc (e - 544)).boostLimit sc
  else if e = 550 then s1.each (List.range 6) (fun i t => t.put (MON_BIAS_B.V sc i) (setU m (b + 0x1288 + 2 * i) 2))
  else s1

/-- An element takes effect; that of a FENCED or FAILING slice is skipped and logged (R111). -/
def State.takeElement (sc e : Nat) (m : List Host.Cell) (b : Nat) (s : State) : State :=
  if sc < 4 && e < 544 && (s.slice sc (elementSlice e) = Slice.fenced || s.slice sc (elementSlice e) = Slice.failing) then
    s.calLog 3 sc (if e < 272 then 1 else 5) (e % 272) 0 0
  else s.useElement sc e m b

/-- Elements of a scope's set. -/
def totalOf (sc : Nat) : Nat := if sc < 4 then 552 else 1

/-- The elements that wait for a channel's next entry to DARK. -/
def deferred (e : Nat) : Bool := e = 550 || e = 551

/-- Step 7: the set is in force (R331, R336). -/
def State.calFinish (s : State) : State :=
  let sc := s.rd CAL_RUN_STAT.SCOPE
  { s with sets := memCopy s.runSet 0 (setBase sc) 0x2000 s.sets }
    |>.showSet sc (if s.on (CAL_SSTAT_S.UNSTORED sc) then none else some (s.rd CALC.REGION))
    |>.put (CAL_SSTAT_S.PARTIAL sc) 0 |>.put CAL_RUN_STAT.PAUSE 0
    |>.put CAL_RUN_STAT.STATE 7 |>.put CAL_RUN_STAT.DONE_EV 1 |>.calLog 1 sc 0 0 0 0 |>.raise 64

/-- The run is complete when every element is committed and none waits for its boundary. -/
def State.calCheckEnd (s : State) : State :=
  s.when (s.rd CAL_RUN_STAT.STATE = 5 && s.rd CAL_PROG.NEXT = s.rd CAL_PROG.TOTAL && s.calWait.isEmpty) State.calFinish

/-- The next element is reached and takes effect at once (R332, channel DARK or TUNING). -/
def State.calElementNow (s : State) : State :=
  let sc := s.rd CAL_RUN_STAT.SCOPE
  let e := s.rd CAL_PROG.NEXT
  s.when (e < s.rd CAL_PROG.TOTAL) (fun t => (t.takeElement sc e t.runSet 0).put CAL_PROG.NEXT (e + 1))

/-- The next element is committed in service: it waits for its own boundary, or for DARK. -/
def State.calElementCommit (s : State) : State :=
  let sc := s.rd CAL_RUN_STAT.SCOPE
  let e := s.rd CAL_PROG.NEXT
  if e < s.rd CAL_PROG.TOTAL then
    let s1 := s.put CAL_PROG.NEXT (e + 1)
    if deferred e then s1.put (CAL_SSTAT_S.PEND_DARK sc) 1 else { s1 with calWait := s1.calWait ++ [e] }
  else s

/-- A run of scope sc is applying, or paused. -/
def State.calApplying (s : State) (sc : Nat) : Bool :=
  s.rd CAL_RUN_STAT.SCOPE = sc && (s.rd CAL_RUN_STAT.STATE = 5 || s.rd CAL_RUN_STAT.STATE = 6)

/-- The committed elements that meet p reach their boundary. -/
def State.calBoundary (n : Nat) (p : Nat → Bool) (s : State) : State :=
  if s.calApplying n then
    let l := s.calWait.filter p
    ({ s with calWait := s.calWait.filter (fun e => !p e) }).each l (fun e t => t.takeElement n e t.runSet 0) |>.calCheckEnd
  else s

/-- An apply pauses at an element boundary (R333): 1 resize, 2 fence. -/
def State.calPause (n why : Nat) (s : State) : State :=
  s.when (s.calApplying n && s.rd CAL_RUN_STAT.PAUSE ≠ why) (fun t =>
    (t.put CAL_RUN_STAT.STATE 6).put CAL_RUN_STAT.PAUSE why |>.calLog 9 n 0 (t.rd CAL_PROG.NEXT) 0 0)

/-- Entry to DARK (R332, R333): elements that wait and those not yet reached take effect at once, and so do deferred ones. -/
def State.calDark (n : Nat) (s : State) : State :=
  let s1 := if s.calApplying n then
      let t := ({ s with calWait := [] }).each s.calWait (fun e u => u.takeElement n e u.runSet 0)
      (t.put CAL_RUN_STAT.STATE 5 |>.put CAL_RUN_STAT.PAUSE 0).each (List.range (t.rd CAL_PROG.TOTAL - t.rd CAL_PROG.NEXT))
        (fun _ u => u.calElementNow)
      |>.calCheckEnd
    else s
  s1.when (s1.on (CAL_SSTAT_S.PEND_DARK n)) (fun t =>
    (t.takeElement n 550 t.sets (setBase n)).takeElement n 551 t.sets (setBase n) |>.put (CAL_SSTAT_S.PEND_DARK n) 0)

end Sys2Proof.Machine
end

