-- ==== Sys2Proof/Machine/Control.lean ====
section
/-! DEFINITION. Operations that join the blocks: refusals and host writes, device mode, channel states with what every
block does at them, laser cuts, fences and vote requests. -/

namespace Sys2Proof.Machine

/-! ## Refusals (R441) -/

/-- One refused register access: MGT_REFUSE, one MGT_RLOG entry, COUNT and source 128. -/
def State.refuse (win addr value reason : Nat) (read : Bool) (s : State) : State :=
  let e := 0x8F00000 + 32 * s.rd MGT_RLOG_PTR.PTR
  s.put MGT_REFUSE.ADDR addr |>.flag MGT_REFUSE_INFO.RD read |>.put MGT_REFUSE_INFO.WIN win
    |>.put MGT_REFUSE_INFO.REASON reason |>.bump MGT_REFUSE_INFO.COUNT
    |>.put64 e s.time |>.put64 (e + 8) (value * 2 ^ 32 + addr % 2 ^ 28)
    |>.put64 (e + 16) ((if read then 2 ^ 12 else 0) + win * 256 + reason) |>.put64 (e + 24) 0
    |>.when (s.rd MGT_RLOG_PTR.PTR = 255) (·.put MGT_RLOG_PTR.WRAP 1)
    |>.addWrap MGT_RLOG_PTR.PTR 1
    |>.raise 128 |>.count 4 .sup 0x04

/-! ## Device mode (R35, R36) -/

/-- Enters a device mode; a change raises source 0. -/
def State.setMode (m : Nat) (s : State) : State :=
  if s.mode = m then s else (s.put DEV_MODE.MODE m).raise 0

/-- A unit of channel n is fenced (R36). -/
def State.unitFenced (s : State) (n : Nat) : Bool :=
  s.rd (LDS_TILE_SUM.FENCED n) ≠ 0 || s.rd (FEC_ENG_FNC.FENCED n) ≠ 0 || s.rd (SEC_PIPE.FENCED n) ≠ 0
    || s.rd (HST_LANES.FENCED n) ≠ 0 || s.rd (CNVC.FENCED n) ≠ 0 || s.rd (CNV_PLL_STAT.RX_FAULT n) = 1
    || s.rd (CNV_PLL_STAT.TX_FAULT n) = 1 || s.rd (HST_PLL_STAT.FAULT n) = 1

/-- The mode that R36 derives in the three operating modes. -/
def State.derivedMode (s : State) : Nat :=
  if channels.any (fun n => s.chSt n = ChSt.fenced || s.unitFenced n) then Mode.degraded
  else if channels.any (fun n => s.inTraffic n) then Mode.service else Mode.ready

/-- Re-evaluates DEV_MODE and its per-channel bits on a change of channel state or fence (R36, Table 1.6). -/
def State.evalMode (s : State) : State :=
  let s1 := s.put DEV_MODE.CH_FENCED (ofBits (channels.map (fun n => s.chSt n = ChSt.fenced)))
    |>.put DEV_MODE.CH_SERVICE (ofBits (channels.map (fun n => s.inTraffic n)))
  if s.mode = 4 || s.mode = 5 || s.mode = 6 then s1.setMode s.derivedMode else s1

/-! ## Tributary figures -/

/-- TRB_STAT: entries ACTIVE or HELD, and tributary slots of enabled encrypted entries (Table 9.11). -/
def State.trbStat (n : Nat) (s : State) : State :=
  s.put (TRB_STAT.ACTIVE n) ((s.tribs n).countP (fun t => s.rd (TRB_TRIB.STATE n t) = 1 || s.rd (TRB_TRIB.STATE n t) = 4))
    |>.put (TRB_STAT.ENC_SLOTS n) ((((s.listed (TRB_TRIB.EN n 0) 16 1024).filter (fun t =>
        s.on (TRB_TRIB.ENC n t))).map (fun t => s.rd (TRB_TRIB.COUNT n t))).sum)

/-- Outstanding credits of client c are withdrawn and counted (R238). -/
def State.reclaim (n c : Nat) (s : State) : State := s.flowOp n (Flow.crdReclaim (fun d => d = c))

/-! ## Votes (R32, R344) -/

/-- A commit asks for the arbiter's vote; requests wait in order. -/
def State.request (v : Vote) (s : State) : State := { s with votes := s.votes ++ [v] }

/-- Kind of Table 15.2. -/
def Vote.kind : Vote → Nat
  | .laser _ => 1
  | .loopback _ => 1
  | .tribCommit _ => 2
  | .casting => 3
  | .calApply => 4
  | .resizeArm _ => 5
  | .rolloverArm _ => 6
  | .rootKey => 7
  | .fenceClear _ => 8
  | .fwActivate _ => 9
  | .checkpoint => 15
  | .void k => k

/-- A request that is no longer wanted: a waiting one goes, an open one is decided without effect. -/
def State.withdraw (v : Vote) (s : State) : State :=
  match s.votes with
  | [] => s
  | w :: l =>
    let rest := l.filter (fun x => x ≠ v)
    if w = v then { s with votes := if s.on SUP_ARB_STAT.VOTE_OPEN then .void v.kind :: rest else rest }
    else { s with votes := w :: rest }

/-- Commits are frozen (R352). -/
def State.frozen (s : State) : Bool := s.on SUP_STAT.FROZEN

/-- The resident firmware runs: a leader leads and no complex reset is in progress (R264). -/
def State.firmware (s : State) : Bool := s.rd SUP_STAT.LEADER ≠ 3 && !s.on DEV_MODE.SUP_RESTART

/-! ## The governor's requests (R51, R52) -/

def State.vmin (s : State) : Nat := Nat.min 850 (Nat.max 550 (s.rd FAB_VCORE_LIM.VMIN))
def State.vmax (s : State) : Nat := Nat.max s.vmin (Nat.min 850 (s.rd FAB_VCORE_LIM.VMAX))

/-- A VCORE request, clamped and recorded (R51). -/
def State.requestV (v : Nat) (s : State) : State :=
  let c := Nat.max s.vmin (Nat.min s.vmax v)
  s.put FAB_GOV_STAT.VREQ c |>.flag FAB_GOV_STAT.AT_VMAX (c = s.vmax) |>.put FABC.REQ 1 |>.count 4 .fab 0x01

/-- A pre-boost of channel n; overlapping ones do not add (R52). -/
def State.boost (n : Nat) (s : State) : State :=
  (s.when (s.rd FAB_GOV_STAT.MODE_ACT = 0 && s.rd FABC.BOOST = 0)
    (fun t => t.requestV (t.rd FAB_GOV_STAT.VREQ + t.rd FAB_GOV_CTRL.PREBOOST))).putBit FABC.BOOST n true

/-- The pre-boost of a channel ends (R52). -/
def State.endBoost (n : Nat) (s : State) : State := s.putBit FABC.BOOST n false

/-! ## Messages (R263, R264) -/

/-- Queues a message for channel n; a firmware message waits while no supervisor path is available (R264, R272). -/
def State.queue (n : Nat) (m : Msg) (s : State) : State := s.onChan n (fun c => { c with msgs := c.msgs ++ [m] })

/-- Enters CHIP OFF or WAIT: the despreader stops, and PEER returns to NONE (R258, R269). -/
def State.chipRest (n st : Nat) (s : State) : State :=
  s.put (ISC_STAT.CHIP n) st |>.put (ISC_STAT.PEER n) 0 |>.put (ISC_STAT.MISSED n) 0 |>.put (ISC_STAT.COH n) 0
    |>.put (ISC_STAT.CODE_FOUND n) 0 |>.put (ISC_FOFS.FOFS n) 0x800000 |>.put (ISC_FOFS.QUAL n) 0
    |>.put (LDS_LQ_STAT.ISC_CANC n) 0 |>.put (ISCC.RXSEQV n) 0

/-- DARK or FENCED: insertion stops, CHIP OFF, and queued messages are discarded (R272). -/
def State.iscDark (n : Nat) (s : State) : State :=
  (s.chipRest n 0).onChan n (fun c => { c with msgs := [], sending := none })
    |>.put (ISC_HSTAT.HTX_BUSY n) 0 |>.put (LDS_TX_STAT.ISC_INS n) 0

/-- An estimate in ps/nm lies outside the active profile's CD range (R130). -/
def State.outOfRange (s : State) (n : Nat) (est : Int) : Bool :=
  match s.active n with
  | some p => decide (p.cd * 1000 < est.natAbs)
  | none => false

/-- OOR follows the active profile, and the estimator repeats while it is 1 (R131). -/
def State.oorRefresh (n : Nat) (s : State) : State :=
  if s.on (LDS_CD_EST.VALID n) then
    let oor := s.outOfRange n (s.rdS (LDS_CD_EST.EST n))
    (s.flag (LDS_CD_EST.OOR n) oor).when (s.chSt n = ChSt.acquiring && s.rd (LDS_ACQ_STAT.STEP n) = 0) (·.flag (LDSC.EST_RUN n) oor)
  else s

/-- The supervisory signal is inserted: LIT, enabled, no interoperable mode and no tone test (R172, R177, R255). -/
def State.iscInserts (s : State) (n : Nat) : Bool :=
  s.phase n = 3 && s.on (ISC_CTRL.TX_EN n) && !s.interop n && s.rd (LDS_TX_TEST.PATTERN n) ≠ 3

/-- The supervisory channel follows the active profile: none in an interoperable mode (R71, R272). -/
def State.iscMode (n : Nat) (s : State) : State :=
  if s.interop n then (s.chipRest n 0).put (LDS_TX_STAT.ISC_INS n) 0
  else if s.phase n = 3 && s.rd (ISC_STAT.CHIP n) = 0 then
    (s.chipRest n (if s.on (LDS_CD_EST.VALID n) then 2 else 1)).flag (LDS_TX_STAT.ISC_INS n) (s.iscInserts n)
  else s

/-! ## Framed fields (R14, R175) -/

/-- A framed value takes effect. -/
def State.takeFramed (n : Nat) (f : Field) (v : Nat) (s : State) : State :=
  let s1 := s.put f.inForce v
  if f = LDS_LMODE.PROFILE n then
    ((s1.loadTx n v).when (s.rd (LDSC.RXPROF n) ≠ v) (·.loadRx n v)).oorRefresh n |>.iscMode n
  else if f = LDS_TX_CTRL.MAXBOOST n || f = LDS_TX_CTRL.PREEMP_EN n then s1.boostLimit n
  else [0, 1, 2, 3].foldl (fun t l => t.when (f = LDS_TX_SKEW_L.TRIM n l) (·.skewLimit n l)) s1

/-- Framed values that wait take effect together (R14). -/
def State.applyFramed (n : Nat) (s : State) : State :=
  let l := (s.chan n).framed
  (s.onChan n (fun c => { c with framed := [] })).each l (fun p t => t.takeFramed n p.1 p.2)
    |>.put (LDS_TX_STAT.PEND n) 0

/-- PROFILE takes a profile without a write: resize switch, adoption (R76). -/
def State.selectProfile (n p : Nat) (s : State) : State :=
  s.put (LDS_LMODE.PROFILE n) p |>.put (LDS_LMODE.PROFILE n).inForce p |>.loadTx n p

/-! ## Resize outcomes (Tables 3.6, 3.7) -/

/-- The transmit MFN now. -/
def State.mfn (s : State) (n : Nat) : Nat := s.rd (LFR_MFN_TX.MFN n)

/-- a − b in the 2^32 count of multiframes. -/
def mfSub (a b : Nat) : Nat := (a + 2 ^ 32 - b % 2 ^ 32) % 2 ^ 32

/-- Multiframes left before the target MFN; 0 once it is reached. -/
def State.mfLeft (s : State) (n : Nat) : Nat :=
  let d := mfSub (s.rd (LDS_RSZ_MF.MFN n)) (s.mfn n)
  if d < 2 ^ 31 then d else 0

/-- A resize is in progress (R78). -/
def State.rszRunning (s : State) (n : Nat) : Bool :=
  let st := s.rd (LDS_RSZ_STAT.STATE n)
  st = 1 || st = 2 || st = 3 || st = 4

/-- A resize ends DONE (Table 3.6 step 8). -/
def State.rszDone (n : Nat) (s : State) : State :=
  s.put (LDS_RSZ_STAT.STATE n) RszSt.done |>.put (LDS_RSZ_STAT.DONE_EV n) 1 |>.raiseCh n 0x27
    |>.put (LFRC.TX_RESIZE n) 0
    |>.onChan n (fun c => { c with rsz := { c.rsz with ended := some (s.mfn n) } })

/-- A resize ends FAILED with a cause (Table 3.14): any arm is withdrawn. -/
def State.rszFail (n cause : Nat) (s : State) : State :=
  s.put (LDS_RSZ_STAT.STATE n) RszSt.failed |>.put (LDS_RSZ_STAT.CAUSE n) cause |>.put (LDS_RSZ_STAT.FAIL_EV n) 1
    |>.raiseCh n 0x28 |>.withdraw (.resizeArm n) |>.put (LFRC.TX_RESIZE n) 0 |>.put (LDS_RSZ_TIME.CONV n) 0xFFFF
    |>.onChan n (fun c => { c with rsz := { c.rsz with ended := some (s.mfn n) },
                                   msgs := c.msgs.filter (fun m => match m with
                                     | .resizeConfirm _ _ false => false
                                     | _ => true) })

/-- Tells the peer that this end withdraws: a proposer cancels, an accepting end refuses (Table 3.7). -/
def State.rszCancel (n cause : Nat) (s : State) : State :=
  let r := (s.chan n).rsz
  let own := s.rd (LDS_RSZ_MF.MFN n)
  if r.proposer then s.queue n (.resizeConfirm own r.peerMf true) else s.queue n (.resizeRefuse r.peerMf cause)

/-! ## Frame and alignment (R30, R209) -/

/-- The AGC freezes at frame detection (R30). -/
def State.agcFreeze (n : Nat) (s : State) : State :=
  if s.phase n = Phase.lit then
    (s.when (!s.on (OPT_AGC_STAT.FROZEN n)) (fun t =>
      t.put (OPT_AGC_STAT.FROZEN n) 1 |>.put (OPTC.FREEZE_LVL n) (t.rd (OPTC.RX n)) |>.count n .opt 0x05))
      |>.put (OPT_AGC_STAT.UNFRZ_PEND n) 0
  else s

/-- Extraction ends with multiframe lock: copies, records and bytes of the multiframe at hand go (R209, R215). -/
def Chan.unlock (c : Chan) : Chan :=
  { c with tor := [], recs := [], rx := { c.rx with got := [], opening := [], due := false, tor := false, mf := none } }

/-- Loss of frame is declared on leaving SYNC (R209), and the 1 ms unfreeze delay starts (R30). -/
def State.declareLof (n : Nat) (s : State) : State :=
  s.put (LFR_STAT.LOF_EV n) 1 |>.raiseCh n 0x41 |>.bump (LFR_CNT_FRM.LOF n) |>.put (LFR_STAT.SR_VALID n) 0
    |>.put (LFR_STAT.MF_LOCK n) 0 |>.put (LFRC.MFNV n) 0 |>.onChan n Chan.unlock
    |>.when (s.on (OPT_AGC_STAT.FROZEN n)) (·.put (OPT_AGC_STAT.UNFRZ_PEND n) 1)

/-- The framer returns to HUNT; from SYNC it declares loss of frame. -/
def State.hunt (n : Nat) (s : State) : State :=
  (s.put (LFR_STAT.FSTATE n) 0 |>.put (LFRC.GOOD n) 0 |>.put (LFRC.BAD n) 0).when (s.rd (LFR_STAT.FSTATE n) = 2)
    (·.declareLof n)

/-- CW_ALIGN clears (R193), which costs the frame. -/
def State.clearAlign (n : Nat) (s : State) : State := (s.put (FEC_STAT.CW_ALIGN n) 0).hunt n

/-! ## What each block does when a channel leaves service -/

/-- Receive data in flight goes: tokens and codewords are counted out, and the line path holds nothing (R60, R199). -/
def State.flushReceive (n : Nat) (s : State) : State :=
  ((s.flowOp n Flow.flushRx).put (FEC_OCC.OCC n) 0).onChan n (fun c => { c with rx := LineRx.none, dsp := { c.dsp with llr := [] } })

/-- Transmit data in flight goes, and with it the chain of codewords, the pilots and the tenants' open units (R60, R176, R184). -/
def State.flushTransmit (n : Nat) (s : State) : State :=
  (s.flowOp n Flow.flushTx).onChan n (fun c => { c with tx := LineTx.none })

/-- CONVERGED clears and WINOK restarts (R149). -/
def State.unconverge (n : Nat) (s : State) : State :=
  (s.put (LDS_CH_STATE.CONVERGED n) 0).put (LDS_EQ_STAT.WINOK n) 0

/-- Agreement is to be sought again (R147, R148). -/
def State.unagree (n : Nat) (s : State) : State :=
  s.clear [LDSC.AGREED n, LDSC.SENT_AG n, LDSC.RCVD_AG n, LDSC.NEXT_AG n]

/-- Stages stop: pilots, decision feedback, clock and figures (Table 6.4, R152). -/
def State.stagesStop (n : Nat) (s : State) : State :=
  s.clear [LDS_CLK_STAT.LOCK n, LDS_EQ_STAT.PSYNC n, LDS_EQ_STAT.DFE n, LDS_LQ_STAT.VALID n, LDS_LQ_STAT.BERV n,
    ISC_STAT.COH n]

/-- Receive DSP on entry to DARK or FENCED: all acquisition state is discarded and VALID clears (R131, R148, R154). -/
def State.ldsDark (n : Nat) (s : State) : State :=
  (s.unconverge n).unagree n |>.stagesStop n |>.clear [LDS_CD_EST.VALID n, LDS_ACQ_STAT.STEP n, LDS_ACQ_STAT.COLD n,
    LDSC.FAILS n, LDSC.WAIT n, LDSC.ABSENT n, LDSC.EST_RUN n, LDS_CR_STAT.FOFS n, LDS_CLK_STAT.PPM n, LDS_CD_EST.FINE n]
    |>.onChan n (fun c => { c with dsp := RxDsp.none })

/-- Resize on entry to DARK or FENCED: one in progress fails, and INDOUBT clears (R82, R83). -/
def State.rszDark (n cause : Nat) (s : State) : State :=
  (s.when (s.rszRunning n) (·.rszFail n (if cause = 5 then 0x7 else 0x8))).put (LDS_RSZ_STAT.INDOUBT n) 0

/-- Optical engine: with PHASE not LIT the AGC rests at minimum gain (R96). -/
def State.agcRest (n : Nat) (s : State) : State :=
  s.clear [OPT_AGC_STAT.GAIN n, OPT_AGC_STAT.OUT_WIN n, OPT_AGC_STAT.UNFRZ_PEND n, OPT_AGC_STAT.SETTLED n,
    OPT_AGC_STAT.FROZEN n]

/-- A tributary commit that is refused (Table 9.6). -/
def State.cmtRefuse (n cause : Nat) (s : State) : State :=
  s.put (TRB_CMT_STAT.STATE n) 6 |>.put (TRB_CMT_STAT.CAUSE n) cause |>.put (TRB_CMT_STAT.FAIL_EV n) 1 |>.raiseCh n 0x51
    |>.count n .trb 0x03 |>.withdraw (.tribCommit n)

/-- A commit is between CHECKING and LATCHED (R220). -/
def State.cmtRunning (s : State) (n : Nat) : Bool :=
  let st := s.rd (TRB_CMT_STAT.STATE n)
  st = 1 || st = 2 || st = 3 || st = 4

/-- Tributaries on entry to DARK or FENCED: a commit ends REFUSED, entries go IDLE at once and CARRY clears, with the
credits withdrawn (R220, R225, R238). -/
def State.tribsDark (n : Nat) (s : State) : State :=
  (s.when (s.cmtRunning n) (·.cmtRefuse n 0x1)).flowOp n (Flow.crdReclaim (fun _ => true))
    |>.each (s.tribs n) (fun t u => u.put (TRB_TRIB.STATE n t) 0 |>.put (TRB_TRIB.CARRY n t) 0 |>.put (TRBC.QUAR n t) 0
        |>.put (TRBC.SUSP n t) 0)
    |>.each (s.listed (TRBC.ARR n 0) 4 1024) (fun t u => u.put (TRBC.ARR n t) 0)
    |>.each (s.listed (TRBC.CMNOW n 0) 4 1024) (fun t u => u.put (TRBC.CMNOW n t) 0)
    |>.each (s.listed (TRBC.LEFT n 0) 4 1024) (fun t u => u.put (TRBC.LEFT n t) 0)
    |>.trbStat n |>.hstRefresh n

/-- A rollover batch ends FAILED (Table 12.6, R294). -/
def State.rollFail (n cause : Nat) (s : State) : State :=
  s.put (SEC_ROLL_STAT.STATE n) 5 |>.put (SEC_ROLL_STAT.CAUSE n) cause |>.put (SEC_STAT.ROLLF_EV n) 1 |>.raiseCh n 0xA5
    |>.withdraw (.rolloverArm n)

/-- A batch is announced or armed. -/
def State.rollRunning (s : State) (n : Nat) : Bool := s.rd (SEC_ROLL_STAT.STATE n) = 1 || s.rd (SEC_ROLL_STAT.STATE n) = 2

/-- All that a channel does as it enters DARK or FENCED, before it reports the state. -/
def State.leaveService (n cause : Nat) (s : State) : State :=
  (s.rszDark n cause).when (s.rollRunning n) (·.rollFail n 0x8) |>.flushTransmit n |>.flushReceive n |>.tribsDark n |>.applyFramed n
    |>.put (CSTC.RMF n) 0 |>.clearAlign n |>.ldsDark n |>.iscDark n |>.agcRest n |>.put (LDS_TX_STAT.MUTED n) 1
    |>.put (FAB_SLACK_C.NOW n) 0xFFFF

/-- Acquisition starts warm at step 2, or waits while optical LOS or RX PLL loss of lock lasts (R148). -/
def State.warmStart (n : Nat) (s : State) : State :=
  let s1 := (s.stagesStop n).put (LDS_ACQ_STAT.COLD n) 0
  if s.on (OPT_STAT.LOS n) || s.on (CNV_STAT.RX_LOL n) then (s1.put (LDSC.WAIT n) 1).put (LDS_ACQ_STAT.STEP n) 0
  else if s.on (LDSC.ABSENT n) then ((s1.unagree n).put (LDSC.WAIT n) 0).put (LDS_ACQ_STAT.STEP n) 0
  else (s1.put (LDSC.WAIT n) 0).put (LDS_ACQ_STAT.STEP n) 2

/-- Acquisition begins when the condition it waited for clears (R148). -/
def State.acqResume (n : Nat) (s : State) : State :=
  s.when (s.chSt n = ChSt.acquiring && s.on (LDSC.WAIT n)) (·.warmStart n)

/-- All that a channel does as it falls back to ACQUIRING from LOCKED, IN_SERVICE or RESIZING: the resize fails, receive
data is flushed, the frame is lost, entries are HELD and acquisition starts warm (R60, R82, R148, R199, R224). -/
def State.fallBack (n : Nat) (s : State) : State :=
  (s.when (s.rszRunning n) (·.rszFail n 0x8))
    |>.flushReceive n |>.unconverge n |>.clearAlign n
    |>.each (s.tribsIn n Trib.active) (fun t u => u.put (TRB_TRIB.STATE n t) Trib.held)
    |>.hstRefresh n |>.warmStart n

/-- The device is in one of the three operating modes. -/
def State.operating (s : State) : Bool := s.mode = 4 || s.mode = 5 || s.mode = 6

/-- What every block does as a channel enters a state. -/
def State.enter (n st cause : Nat) (s : State) : State :=
  if st = ChSt.dark then
    let t := (s.leaveService n cause).endBoost n |>.convDark n |>.calDark n
    t.when t.operating (·.recompute n)
  else if st = ChSt.fenced then (s.leaveService n cause).calPause n 2
  else if st = ChSt.acquiring then (if s.holdsLock n then s.fallBack n else (s.flushReceive n).clearAlign n) else s

/-! ## Bias loops at a change of the light, the channel or the clock (R319) -/

/-- The loops of a channel may run. -/
def State.biasRuns (s : State) (n : Nat) : Bool :=
  s.phase n ≠ Phase.off && s.on (MON_BIAS_CTRL.EN n) && s.chSt n ≠ ChSt.fenced && !s.on (MON_STAT.CLK_LOSS n)

/-- MON_BIAS_STAT: STATE of all loops, and the LOCK bits. -/
def State.biasShow (n : Nat) (s : State) : State :=
  let l := (List.range 6).map (fun b => s.rd (BIASC.STATE n b))
  s.put (MON_BIAS_STAT.STATE n) (if l.all (· = l.headD 0) then l.headD 0 else 3)
    |>.put (MON_BIAS_STAT.LOCK n) (ofBits (l.map (· = 2)))

/-- Loops hold where they may not run, every V kept; a loop that leaves HOLD enters ACQ. -/
def State.biasEval (n : Nat) (s : State) : State :=
  if s.biasRuns n then
    (s.each ((List.range 6).filter (fun b => s.rd (BIASC.STATE n b) = 0)) (fun b t =>
      t.put (BIASC.STATE n b) 1 |>.clear [BIASC.SMALL n b, BIASC.TRIES n b, BIASC.LARGE n b, BIASC.RAIL n b, BIASC.VPI_BAD n b])).biasShow n
  else (s.each (List.range 6) (fun b t => t.put (BIASC.STATE n b) 0)).biasShow n

/-- The laser gain current and booster bias are removed and the VOA closes: PHASE OFF at -35 dBm, any ramp ended, and an
ENABLE held for the end of RAMP_DOWN cancelled (R90, R92, R95). -/
def State.darken (n : Nat) (s : State) : State :=
  s.when (s.phase n = Phase.rampDown && s.rd (OPTC.VOTING n) = 0) (·.put (OPT_STAT.ENA_PEND n) 0)
    |>.put (OPT_STAT.PHASE n) Phase.off |>.put (OPT_STAT.ON_FREQ n) 0 |>.put (OPTC.RAMPING n) 0
    |>.putS (OPTC.POWER n) (-35000000) |>.put (OPTC.TUNE_FAILS n) 0 |>.put (CNV_STAT.FE_MISMATCH n) 0 |>.biasEval n

/-- A channel changes state (Table 1.9): what the blocks do at it, CAUSE, source 0x20 on a change of STATE, and the
device mode.  One that goes DARK by a respacing that leaves it no native mode is FENCED, its light cut (Tables 1.10, 4.3). -/
def State.setCh (n st cause : Nat) (s : State) : State :=
  let s1 := s.enter n st cause
  let gone := st = ChSt.dark && s1.operating && s1.rd (LDS_CH_STATE.MAXMODE n) = 0
  let st1 := if gone then ChSt.fenced else st
  (s1.put (LDS_CH_STATE.STATE n) st1 |>.put (LDS_CH_STATE.CAUSE n) (if gone then 5 else cause)).when (s.chSt n ≠ st1)
      (·.raiseCh n 0x20)
    |>.when gone (fun t => (t.putBit (FABC.COND n) 2 true).darken n)
    |>.when (st1 = ChSt.dark) (fun t => t.each (List.range 8) (fun c u => u.regain n c)) |>.when (st1 ≠ ChSt.dark) (·.regainStop n)
    |>.evalMode

/-- The receiver loses its frame: loss of frame, and ACQUIRING from a state that holds lock (R39). -/
def State.loseFrame (n : Nat) (s : State) : State :=
  if s.holdsLock n then s.setCh n ChSt.acquiring 0x4 else s.clearAlign n

/-! ## Cuts and fences (R41, R90, R99, R104) -/

/-- A cut with its cause: the channel goes DARK unless it is FENCED (Table 4.3, R40). -/
def State.cut (n cause : Nat) (s : State) : State :=
  (s.darken n).when (s.chSt n ≠ ChSt.fenced) (·.setCh n ChSt.dark cause)

/-- A whole-channel fence (R41): laser cut, FENCED with CAUSE 0x5, COND bit 2. -/
def State.fenceChannel (n : Nat) (s : State) : State :=
  ((s.breach n 2).darken n |>.setCh n ChSt.fenced 0x5).biasEval n

/-- The channel carries light or a receiver: it is neither DARK nor FENCED. -/
def State.lightUp (s : State) (n : Nat) : Bool := s.chSt n ≠ ChSt.dark && s.chSt n ≠ ChSt.fenced

/-- The channel refuses its mode and goes DARK with CAUSE 0x5 (Table 1.10). -/
def State.refuseMode (n : Nat) (s : State) : State := s.when (s.lightUp n) (·.cut n 0x5)

/-- A fence leaves the target profile of a resize in progress with REACH = 0 (Table 3.7). -/
def State.rszFence (n : Nat) (s : State) : State :=
  let st := s.rd (LDS_RSZ_STAT.STATE n)
  if s.rszRunning n && s.rd (LDS_PROF_P.REACH n (s.chan n).rsz.target) = 0 then
    if st = 4 || (st = 3 && s.mfLeft n ≤ 8) then s.refuseMode n
    else (s.rszFail n 0x7).rszCancel n 0x7
  else s

/-- A unit of channel n was fenced or lifted: COND bit 2 on a fence, MAXMODE and REACH, and the device mode (R36, R57, R75).
A channel with no native mode left is fenced whole (Table 1.10). -/
def State.unitChanged (n : Nat) (fence : Bool) (s : State) : State :=
  let s1 := (s.when fence (·.breach n 2)).recompute n
  if s.operating then
    let s2 := s1.when fence (·.rszFence n)
    if fence && s2.rd (LDS_CH_STATE.MAXMODE n) = 0 && s2.chSt n ≠ ChSt.fenced then s2.fenceChannel n else s2.evalMode
  else s1

/-! ## Laser enables (R25, R92) -/

/-- First condition of R25 that fails, as the code of Table 1.8; 0 when all hold.  The loopback enable of a FULL run is
free of the calibration condition. -/
def State.enableCause (s : State) (n : Nat) (loopback : Bool) : Nat :=
  if s.chSt n = ChSt.fenced then 0xF
  else if !(s.mode = 4 || s.mode = 5 || s.mode = 6) then 0xA
  else if s.on PIN.SAFE_A || s.on PIN.SAFE_B || s.on (OPT_SAFE_STAT.DISC n) then 0xB
  else if !loopback && (!s.on (CAL_SSTAT_S.INFORCE n) || s.rd CAL_STORE.STATE = 3) then 0x9
  else if (List.range 544).any (fun k => s.rd (CNV_SLC_STAT.STATE n k) = 5) then 0xD
  else if s.frozen || !s.firmware then 0xE else 0

/-- An enable is refused: REFUSED, CAUSE, and nothing pending (R25, R92). -/
def State.refuseEnable (n cause : Nat) (s : State) : State :=
  s.put (OPT_STAT.REFUSED n) 1 |>.put (LDS_CH_STATE.CAUSE n) cause |>.put (OPT_STAT.ENA_PEND n) 0
    |>.put (OPTC.VOTING n) 0 |>.put (OPTC.HOLD n) 0

/-- The laser-enable commit is requested, or refused (R25). -/
def State.requestEnable (n : Nat) (s : State) : State :=
  if s.enableCause n false = 0 then
    (s.put (OPT_STAT.ENA_PEND n) 1 |>.put (OPTC.VOTING n) 1 |>.put (OPTC.HOLD n) 0).request (.laser n)
  else s.refuseEnable n (s.enableCause n false)

/-- The vote that a run waits for is no longer wanted. -/
def State.withdrawCal (s : State) : State := (s.withdraw .calApply).withdraw (.loopback (s.rd CAL_RUN_STAT.SCOPE))

/-- A calibration run of a channel has ended: an ENABLE whose vote it held asks for it (R330). -/
def State.calRelease (s : State) : State :=
  let n := s.rd CAL_RUN_STAT.SCOPE
  s.when (n < 4 && s.on (OPTC.HOLD n)) (·.requestEnable n)

/-- A run enters FAILED (R331): its loopback light is off.  One that fails for other than plausibility is logged as
abandoned (R339). -/
def State.calFail (cause : Nat) (s : State) : State :=
  s.put CAL_RUN_STAT.STATE 8 |>.put CAL_RUN_STAT.CAUSE cause |>.put CAL_RUN_STAT.FAIL_EV 1 |>.raise 65
    |>.put CALC.LIGHT 0
    |>.when (cause ≠ 5) (fun t => t.calLog 8 (t.rd CAL_RUN_STAT.SCOPE) 0 cause 0 0)
    |>.withdrawCal |>.calRelease

/-- A FULL run of channel n is in one of the states from lo to hi (R330). -/
def State.calFull (s : State) (n lo hi : Nat) : Bool :=
  s.rd CAL_RUN_STAT.SCOPE = n && s.rd CAL_RUN_STAT.TYPE = 1 && lo ≤ s.rd CAL_RUN_STAT.STATE
    && s.rd CAL_RUN_STAT.STATE ≤ hi

/-! ## Acquisition before agreement (R129 to R131, R145, R146) -/

/-- The main receiver starts at step 1 of Table 6.4: the active profile is loaded, and step 2 is in progress. -/
def State.acqBegin (n : Nat) (s : State) : State :=
  (s.loadRx n (s.rd (LDS_LMODE_STAT.ACTIVE n))).put (LDS_ACQ_STAT.STEP n) 2

/-- A coarse estimate has its result (R129, R130): the despreader may search, and an interoperable mode goes on to step 1
at once (R145).  While OOR is 1 the estimator repeats (R131). -/
def State.coarseDone (n : Nat) (est : Int) (s : State) : State :=
  let oor := s.outOfRange n est
  s.putS (LDS_CD_EST.EST n) est |>.put (LDS_CD_EST.FINE n) 0 |>.put (LDS_CD_EST.VALID n) 1
    |>.flag (LDS_CD_EST.OOR n) oor |>.flag (LDSC.EST_RUN n) oor
    |>.when (s.rd (ISC_STAT.CHIP n) = 1) (·.put (ISC_STAT.CHIP n) 2)
    |>.when (s.interop n && !oor) (·.acqBegin n)

/-- A coarse estimate starts: SRC and FIXED are sampled, and a fixed target is valid at once (R129, R131). -/
def State.coarseStart (n : Nat) (s : State) : State :=
  let src := s.rd (LDS_CD_CTRL.SRC n)
  let s1 := s.when (src ≠ s.rd (LDSC.SRC n)) (fun t =>
      (t.put (LDS_CD_EST.VALID n) 0).when (2 ≤ t.rd (ISC_STAT.CHIP n)) (·.chipRest n 1))
    |>.put (LDSC.SRC n) src |>.put (LDSC.EST_RUN n) 1
  if src = 1 then s1.coarseDone n (s.rdS (LDS_CD_CTRL.FIXED n)) else s1

end Sys2Proof.Machine
end

