-- ==== Sys2Proof/Machine/Access.lean ====
section
/-! DEFINITION. A host write of one register word: which fields take it, which refuse it, and the one refusal record it
makes (R12 to R16, R423, R438 to R442).  A row with an effect of its own gives it as a hook. -/

namespace Sys2Proof.Machine

/-- Table space that no table of fields names: areas of 32-bit words that the device writes and a host reads, and the
casting staging buffer (Table 22.10; R62, R202, R339, R382, R389, R391, R413, R415, R441, R457). -/
def regsAreas : List Reg := [
  ⟨0x8400000, [(4, 0x200), (128, 4)], 3, .plain, [⟨tableWord 0x8400000, .ro, .live, 3, .any⟩]⟩,
  ⟨0x8500000, [(4, 0x10000), (16384, 4)], 3, .plain, [⟨tableWord 0x8500000, .ro, .live, 3, .any⟩]⟩,
  ⟨0x8A00000, [(1024, 4)], 1, .plain, [⟨tableWord 0x8A00000, .ro, .live, 3, .any⟩]⟩,
  ⟨0x8B00000, [(5, 0x1000), (784, 4)], 3, .plain, [⟨tableWord 0x8B00000, .ro, .live, 3, .any⟩]⟩,
  ⟨0x8C00000, [(4096, 4)], 1, .plain, [⟨tableWord 0x8C00000, .ro, .live, 3, .any⟩]⟩,
  ⟨0x8C10000, [(8, 4)], 1, .plain, [⟨tableWord 0x8C10000, .ro, .live, 3, .any⟩]⟩,
  ⟨0x8D00000, [(16384, 4)], 2, .plain, [⟨tableWord 0x8D00000, .ro, .live, 3, .any⟩]⟩,
  ⟨0x8E00000, [(262144, 4)], 2, .plain, [⟨tableWord 0x8E00000, .rw, .live, 3, .any⟩]⟩,
  ⟨0x8F00000, [(2048, 4)], 1, .plain, [⟨tableWord 0x8F00000, .ro, .live, 3, .any⟩]⟩,
  ⟨0x8F20000, [(3809, 4)], 3, .plain, [⟨tableWord 0x8F20000, .ro, .live, 3, .any⟩]⟩]

/-- The mailbox rings: commands writable through any window, responses read-only (R357, R362). -/
def regsMbx : List Reg := [
  ⟨0x21000, [(1024, 4)], 1, .plain, [⟨tableWord 0x21000, .rw, .live, 1, .any⟩]⟩,
  ⟨0x22000, [(1024, 4)], 1, .plain, [⟨tableWord 0x22000, .ro, .live, 3, .any⟩]⟩]

/-- The descriptor rings in BAR2, BAR2 offset x at 0x5000_0000 + x (Table 19.3). -/
def regsBar2 : List Reg := [
  ⟨0x50010000, [(4, 0x2000), (2048, 4)], 1, .plain, [⟨tableWord 0x50010000, .rw, .live, 2, .any⟩]⟩]

/-- The host-access rows of the block that an address lies in (Tables 22.1 to 22.4, 22.10). -/
def regsAt (a : Nat) : List Reg :=
  if a < 0xA0000 then
    match a / 0x10000 with
    | 0 => regsDev
    | 1 => regsFab
    | 2 => regsSup ++ regsMbx
    | 3 => regsIrq
    | 4 => regsPmc 4 ++ regsPmcGlobal
    | 5 => regsCal
    | 6 => regsMon 4
    | 7 => regsMem
    | 8 => regsCst
    | _ => regsMgt
  else if a < 0x1000000 then []
  else if a < 0x5000000 then
    match a / 0x100000 % 16 with
    | 0 => regsOpt
    | 1 => regsCnv
    | 2 => regsLds
    | 3 => regsFec
    | 4 => regsLfr
    | 5 => regsTrb
    | 6 => regsHst
    | 7 => regsIsc
    | 8 => regsMon (a / 0x1000000 - 1)
    | 9 => regsPmc (a / 0x1000000 - 1)
    | _ => []
  else if a < 0x5010000 then regsKey
  else if a < 0x5050000 then regsSec
  else
    match a / 0x100000 with
    | 0x86 => regsTrbTrib ++ regsTrbShd
    | 0x87 => regsHstCli ++ regsHstCal
    | 0x88 => regsSecTen
    | 0x89 => regsKeySlot ++ regsKeyKek
    | _ => if 0x50000000 ≤ a then regsBar2 else regsAreas

/-- The register at an address and its byte distance from the register's first instance. -/
def findReg (a : Nat) : Option (Reg × Nat) := (regsAt a).findSome? (fun r => (r.distance a).map (fun d => (r, d)))

/-- Slice that CNV_SLC_SEL selects in channel n, counted over all eight converters. -/
def State.sliceSel (s : State) (n : Nat) : Nat := 68 * s.rd (CNV_SLC_SEL.CONV n) + s.rd (CNV_SLC_SEL.SLICE n)

/-- Coefficient that MON_COEF_SEL selects: tap of set 2 or 3. -/
def State.coefSel (s : State) (b : Nat) : Nat := 8 * s.rd (MON_COEF_SEL.SET b) + s.rd (MON_COEF_SEL.TAP b)

/-- Channel of an address in a channel window. -/
def chanOf (a : Nat) : Nat := a / 0x1000000 - 1

/-- Scope of a PMC or MON address: its channel, or 4 for the device-global block. -/
def scopeOf (a : Nat) : Nat := if a < 0x1000000 then 4 else chanOf a

/-- How far the fields that an access at a reaches lie from those its row names. -/
def State.fieldShift (s : State) (r : Reg) (a d : Nat) : Nat :=
  match r.sel with
  | .plain => d
  | .tile => 0x1000 * chanOf a + 4 * s.rd (LDS_TILE_SEL.TILE (chanOf a))
  | .engine => 0x1000 * chanOf a + 4 * s.rd (FEC_ENG_SEL.ENGINE (chanOf a))
  | .slice => 0x1000 * chanOf a + 4 * s.sliceSel (chanOf a)
  | .counter => 4 * s.rd (PMC_CH_SEL.COUNTER (scopeOf a))
  | .coef => 4 * s.coefSel (scopeOf a)

/-- A field whose reset value depends on its index: a slice's state and position, a logical bank's map. -/
def Field.reseat (f : Field) : Field :=
  if 0x10200000 ≤ f.addr && f.addr < 0x10204000 then
    let k := f.addr % 0x1000 / 4
    if f.lo = 16 then { f with reset := slicePos k } else if f.lo = 0 then { f with reset := sliceInit k } else f
  else if 0x70100 ≤ f.addr && f.addr < 0x70200 then { f with reset := (f.addr - 0x70100) / 4 }
  else f

/-- The fields of the word at a, high bits first, as the selections stand. -/
def State.fieldsAt (s : State) (a : Nat) : List FSpec :=
  match findReg a with
  | some (r, d) => r.fields.map (fun f => { f with fld := (f.fld.shift (s.fieldShift r a d)).reseat })
  | none => []

/-- The management port and the SPI target answer: in every mode but KEEP and RESET (R435, Table 1.4). -/
def State.answers (s : State) : Bool := s.mode ≠ Mode.keep && s.mode ≠ Mode.reset

/-- Level of a window: 3 admin, 2 operator, 1 observer, 0 none (R438, R439). -/
def State.level (s : State) (win : Nat) : Nat := s.rd (MGT_WIN.PRIV win)

/-- A host write of one word: window, address, value and byte enables. -/
structure Wr where
  win : Nat
  addr : Nat
  value : Nat
  be : Nat
  deriving DecidableEq, Repr

/-- What a value carries for a field. -/
def Field.of (f : Field) (v : Nat) : Nat := bits v f.lo f.width

/-- Reason, or 0, for which the write of one field is refused (R12, R14, R15, R439). -/
def State.fieldReason (s : State) (lvl : Nat) (f : FSpec) (v : Nat) : Nat :=
  match f.acc with
  | .ro => 0
  | .rc => 0
  | .w1c => if v ≠ 0 && lvl < f.wpriv then 1 else 0
  | .w1s => if v ≠ 0 && lvl < f.wpriv then 1 else 0
  | .wo => if v ≠ 0 && lvl < f.wpriv then 1 else 0
  | .rw =>
    if f.cls = .static && s.rd f.fld = v then 0
    else if lvl < f.wpriv then 1
    else if f.cls = .static && s.mode ≠ Mode.cast then 2
    else if f.lim.ok f.fld.width v then 0 else 4
  | .rwl =>
    if s.rd f.fld = v then 0
    else if lvl < f.wpriv then 1
    else if s.on MGTC.LOCKED then 3
    else if f.lim.ok f.fld.width v then 0 else 4

/-- Where in the channel a framed field's write waits: nowhere while no multiframe runs (R14). -/
def State.framedWaits (s : State) (n : Nat) : Bool :=
  s.chSt n ≠ ChSt.dark && s.chSt n ≠ ChSt.tuning && s.chSt n ≠ ChSt.fenced

/-- The write of one accepted field. -/
def State.applyField (a : Nat) (f : FSpec) (v : Nat) (s : State) : State :=
  match f.acc with
  | .rw =>
    let s1 := s.put f.fld v
    if f.cls = .framed then
      if s.framedWaits (chanOf a) then
        (s1.onChan (chanOf a) (fun c => { c with framed := c.framed ++ [(f.fld, v)] })).put (LDS_TX_STAT.PEND (chanOf a)) 1
      else s1.takeFramed (chanOf a) f.fld v
    else s1
  | .rwl => s.put f.fld v
  | .w1c => s.put f.fld ((List.range f.fld.width).foldl (fun x i => if bit v i = 1 then clrBit x i else x) (s.rd f.fld))
  | .w1s => s.put f.fld ((List.range f.fld.width).foldl (fun x i => if bit v i = 1 then setBit x i else x) (s.rd f.fld))
  | .wo => s
  | .ro => s
  | .rc => s

/-- What a row adds to the write of its word: a reason for which one field is refused (0 none), and the action that
follows, with the fields accepted and their values; the action answers its own refusal reason. -/
structure Hook where
  reason : State → Field → Nat → Nat
  act : List (Field × Nat) → State → State × Nat

/-- A word that has no row of its own. -/
def Hook.plain : Hook := ⟨fun _ _ _ => 0, fun _ s => (s, 0)⟩

/-- Refusal reason STATE: the state of the unit does not allow it (Table 19.12). -/
def badState : Nat := 5

/-- What an accepted field was written with. -/
def wrote (l : List (Field × Nat)) (f : Field) : Option Nat := (l.find? (fun p => p.1 = f)).map (·.2)

/-- A 1-bit command field was written 1. -/
def wroteOne (l : List (Field × Nat)) (f : Field) : Bool := wrote l f = some 1

/-- Whether a field may be changed by a write at all. -/
def FSpec.writable (f : FSpec) : Bool := f.acc ≠ .ro && f.acc ≠ .rc

/-- Reason for which the access is refused whole, in the order 0x1, 0x8, 0x7 (R441). -/
def State.wholeReason (s : State) (w : Wr) (fs : List FSpec) : Nat :=
  let lvl := s.level w.win
  if lvl = 0 || (fs.any FSpec.writable && fs.all (fun f => !f.writable || lvl < f.wpriv)) then 1
  else if s.on MGT_STAT.PWARN then 8
  else if w.be ≠ 15 then 7 else 0

/-- A host write of one 32-bit word.  Nothing happens while the port does not answer, and an address that the block's map
does not name ignores it (R423). -/
def State.hostWrite (w : Wr) (h : Hook) (s : State) : State :=
  let fs := s.fieldsAt w.addr
  if !s.answers || fs.isEmpty then s
  else if s.wholeReason w fs ≠ 0 then s.refuse w.win w.addr w.value (s.wholeReason w fs) false
  else
    let judged := fs.map (fun f =>
      let v := f.fld.of w.value
      let r := s.fieldReason (s.level w.win) f v
      (f, v, if r = 0 && f.writable then h.reason s f.fld v else r))
    let taken := judged.filter (fun j => j.1.writable && j.2.2 = 0)
    let s1 := s.each taken (fun j t => t.applyField w.addr j.1 j.2.1)
    let res := h.act (taken.map (fun j => (j.1.fld, j.2.1))) s1
    match judged.find? (fun j => j.2.2 ≠ 0) with
    | some j => res.1.refuse w.win w.addr w.value j.2.2 false
    | none => if res.2 = 0 then res.1 else res.1.refuse w.win w.addr w.value res.2 false

/-- The value of the word at an address, its fields together. -/
def State.readWord (s : State) (a : Nat) : Nat := ((s.fieldsAt a).map (fun f => s.rd f.fld * 2 ^ f.fld.lo)).sum

/-- Lowest level that may read the word at an address. -/
def readLevel (a : Nat) : Nat :=
  match findReg a with
  | some (r, _) => r.rpriv
  | none => 1

/-- A host read of one 32-bit word: the data go out, and `act` is what the read does.  A refused read returns 0 (R440). -/
def State.hostRead (win addr : Nat) (view : State → Nat) (act : State → State) (s : State) : State :=
  if !s.answers then s
  else if s.level win < readLevel addr then (s.refuse win addr 0 1 true).emit (.readData addr 0)
  else act (s.emit (.readData addr (view s)))

end Sys2Proof.Machine
end

