-- ==== Sys2Proof/Machine/Optical.lean ====
section
/-! DEFINITION. Optical engines and laser safety: chapter 4 of spec/ (R85 to R105), with the AGC rules R30 and R96. -/

namespace Sys2Proof.Machine

/-- The outcome of a command. -/
abbrev Answer : Type := Host.Outcome State Fault Refusal

/-! ## Ramps (R94, R95) -/

/-- (1 − cos(π k / 64)) / 2 in 10^-9, k from 0 to 64: the raised-cosine profile at its step instants. -/
def rcShape : List Nat :=
  [0, 602272, 2407637, 5411745, 9607360, 14984373, 21529832, 29227967, 38060234, 48005353, 59039368, 71135695, 84265194,
   98396234, 113494773, 129524437, 146446609, 164220523, 182803358, 202150348, 222214883, 242948628, 264301632, 286222453,
   308658284, 331555073, 354857661, 378509910, 402454839, 426634763, 450991430, 475466163, 500000000, 524533837, 549008570,
   573365237, 597545161, 621490090, 645142339, 668444927, 691341716, 713777547, 735698368, 757051372, 777785117, 797849652,
   817196642, 835779477, 853553391, 870475563, 886505227, 901603766, 915734806, 928864305, 940960632, 951994647, 961939766,
   970772033, 978470168, 985015627, 990392640, 994588255, 997592363, 999397728, 1000000000]

/-- Power after step k of a ramp from p0 to p1, in 10^-6 dBm: profile 7 is RC, the others LIN (Table 4.4). -/
def rampPower (prof : Nat) (p0 p1 : Int) (k : Nat) : Int :=
  if prof = 7 then p0 + (p1 - p0) * (rcShape.getD k 0) / 10 ^ 9 else p0 + (p1 - p0) * k / 64

/-- Power of the ramp floor, −30 dBm (Table 4.1). -/
def rampFloor : Int := -30000000

/-- A ramp starts from the present power, under the profile now selected (R94). -/
def State.startRamp (n : Nat) (dest : Int) (s : State) : State :=
  s.put (OPTC.RAMPING n) 1 |>.put (OPTC.RAMP_K n) 0 |>.put (OPTC.RAMP_PROF n) (s.rd (OPT_RAMP.PROFILE n))
    |>.putS (OPTC.RAMP_FROM n) (s.rdS (OPTC.POWER n)) |>.putS (OPTC.RAMP_TO n) dest

/-- SET in 10^-6 dBm. -/
def State.setPower (s : State) (n : Nat) : Int := 10000 * s.rdS (OPT_TX_PWR.SET n)

/-! ## Enable and disable (R90 to R92) -/

/-- The laser-enable commit of channel n was approved: TUNING to the frequency that OPT_FREQ holds, when every condition of
R25 still holds (R92); pre-boost (R52). -/
def State.laserApproved (n : Nat) (s : State) : State :=
  let c := s.enableCause n false
  if s.rd (OPT_STAT.ENA_PEND n) = 0 then s
  else if c ≠ 0 then s.refuseEnable n c
  else s.put (OPT_STAT.ENA_PEND n) 0 |>.put (OPTC.VOTING n) 0 |>.put (OPT_STAT.PHASE n) Phase.tuning
    |>.put (OPTC.TARGET n) (s.rd (OPT_FREQ.N n)) |>.put (OPTC.TUNE_FAILS n) 0 |>.put (OPT_STAT.ON_FREQ n) 0
    |>.put (ISCC.NONCE n) s.time |>.put (ISCC.UNC n) 0
    |>.boost n |>.setCh n ChSt.tuning 0x1 |>.biasEval n

/-- PHASE becomes LIT: the line signal starts with nothing in flight, unless the TX PLL is out of lock; transmit MFN is 0, counted
anew, and the channel becomes ACQUIRING (R78, R96, R120, R157, R206, R255, R258). -/
def State.lit (n : Nat) (s : State) : State :=
  s.put (OPT_STAT.PHASE n) Phase.lit |>.flag (LDS_TX_STAT.MUTED n) (s.on (CNV_STAT.TX_LOL n)) |>.put (LFR_MFN_TX.MFN n) 0
    |>.onChan n (fun c => { c with tx := LineTx.none, rsz := { c.rsz with ended := none } })
    |>.flag (LDS_TX_STAT.ISC_INS n) (s.on (ISC_CTRL.TX_EN n) && !s.interop n && s.rd (LDS_TX_TEST.PATTERN n) ≠ 3)
    |>.put (ISCC.SEQ n) 0 |>.put (ISCC.RUN n) 0 |>.put (ISCC.IDLE4 n) 0 |>.put (ISCC.REP n) (s.rd (ISC_CTRL.REP n))
    |>.put (OPT_AGC_STAT.SETTLED n) 0
    |>.setCh n ChSt.acquiring 0x0
    |>.chipRest n (if s.interop n then 0 else 1)

/-- An ENABLE is written (R92, R330). -/
def State.enable (n : Nat) (s : State) : State :=
  let p := s.phase n
  if p = Phase.rampDown then s.put (OPT_STAT.ENA_PEND n) 1
  else if p ≠ Phase.off || s.on (OPT_STAT.ENA_PEND n) then s
  else if s.calFull n 1 1 then (s.calFail 0x4).requestEnable n
  else if s.calFull n 2 6 then (s.put (OPT_STAT.ENA_PEND n) 1 |>.put (OPTC.VOTING n) 1).put (OPTC.HOLD n) 1
  else s.requestEnable n

/-- A DISABLE is written (R92): it acts at once, with no vote. -/
def State.disable (n : Nat) (s : State) : State :=
  let p := s.phase n
  if p = Phase.off then
    if s.on (OPT_STAT.ENA_PEND n) then
      (s.put (OPT_STAT.ENA_PEND n) 0 |>.put (OPTC.VOTING n) 0 |>.put (OPTC.HOLD n) 0).withdraw (.laser n)
    else s
  else if p = Phase.tuning then s.cut n 0x1
  else if p = Phase.rampDown then s.put (OPT_STAT.ENA_PEND n) 0
  else (s.put (OPT_STAT.PHASE n) Phase.rampDown |>.put (CNV_STAT.FE_MISMATCH n) 0 |>.startRamp n rampFloor).setCh n ChSt.dark 0x1

/-- OPT_CMD: DISABLE wins over ENABLE (R92). -/
def laserHook (n : Nat) : Hook :=
  ⟨fun _ _ _ => 0, fun l s =>
    (if wroteOne l (OPT_CMD.DISABLE n) then s.disable n
     else if wroteOne l (OPT_CMD.ENABLE n) then s.enable n else s, 0)⟩

/-- Address of a channel's register at an offset of its window. -/
def chanAddr (n off : Nat) : Nat := 0x1000000 * (n + 1) + off

/-- A write of OPT_CMD that requests the laser-enable commit. -/
def execLaserEnable (win : Fin 7) (n : Fin 4) (value : Word) (be : Fin 16) (s : State) : Answer :=
  .next (s.hostWrite ⟨win, chanAddr n 0, value.toNat, be⟩ (laserHook n))

/-- A write of OPT_CMD that disables the laser. -/
def execLaserDisable (win : Fin 7) (n : Fin 4) (value : Word) (be : Fin 16) (s : State) : Answer :=
  .next (s.hostWrite ⟨win, chanAddr n 0, value.toNat, be⟩ (laserHook n))

/-! ## Tuning (R88, R89) -/

/-- The locker holds the laser on its target: ON_FREQ, the tune time in µs, and the enable ramp from the floor to SET. -/
def execTuneComplete (n : Fin 4) (us : Nat) (s : State) : Answer :=
  .next <| s.when (s.phase n = Phase.tuning) (fun t =>
    t.put (OPT_STAT.ON_FREQ n) 1 |>.put (OPT_TUNE_STAT.TIME n) us |>.put (OPT_TUNE_STAT.HELD n) (t.rd (OPTC.TARGET n))
      |>.put (OPTC.TUNE_FAILS n) 0 |>.count n .opt 0x04 |>.put (OPT_STAT.PHASE n) Phase.rampUp
      |>.putS (OPTC.POWER n) rampFloor |>.startRamp n (t.setPower n))

/-- A fault of Table 4.7 that fences the channel: its bit, its source, and the fence. -/
def State.opticalFence (n : Nat) (f : Field) (s : State) : State :=
  (s.put f 1 |>.raiseCh n 0x03).fenceChannel n

/-- No ON_FREQ 250 ms after a tune started: one retry, then the fence (R89). -/
def execTuneTimeout (n : Fin 4) (s : State) : Answer :=
  .next <| s.when (s.phase n = Phase.tuning) (fun t =>
    let t1 := t.put (OPT_STAT.TUNE_FAIL n) 1
    if t.rd (OPTC.TUNE_FAILS n) = 0 then t1.put (OPTC.TUNE_FAILS n) 1
    else (t1.put (OPT_TUNE_STAT.TIME n) 0x3FFFF).opticalFence n (OPT_FAULT.TUNE n))

/-- One of the 64 steps of a ramp (R94); the last one completes it (R95), and PHASE becomes LIT or OFF. -/
def execRampStep (n : Fin 4) (s : State) : Answer :=
  .next <| s.when (s.on (OPTC.RAMPING n)) (fun t =>
    let k := t.rd (OPTC.RAMP_K n) + 1
    let t1 := t.put (OPTC.RAMP_K n) k
      |>.putS (OPTC.POWER n) (rampPower (t.rd (OPTC.RAMP_PROF n)) (t.rdS (OPTC.RAMP_FROM n)) (t.rdS (OPTC.RAMP_TO n)) k)
    if k < 64 then t1
    else
      let t2 := t1.put (OPTC.RAMPING n) 0 |>.put (OPT_STAT.RAMP_DONE n) 1 |>.raiseCh n 0x00 |>.count n .opt 0x03
      if t.phase n = Phase.rampUp then t2.lit n
      else if t.phase n = Phase.rampDown then
        let held := t.on (OPT_STAT.ENA_PEND n)
        (t2.darken n).when held (·.requestEnable n)
      else t2)

/-! ## Power and frequency (R87, R93) -/

/-- A write of SET (R93). -/
def powerHook (n : Nat) : Hook :=
  ⟨fun _ _ _ => 0, fun l s =>
    match wrote l (OPT_TX_PWR.SET n) with
    | none => (s, 0)
    | some _ =>
      if s.phase n = Phase.rampUp then (s.startRamp n (s.setPower n), 0)
      else if s.phase n = Phase.lit then
        if (s.setPower n - s.rdS (OPTC.POWER n)).natAbs < 50000 then
          ((s.put (OPTC.RAMPING n) 0).putS (OPTC.POWER n) (s.setPower n), 0)
        else (s.startRamp n (s.setPower n), 0)
      else (s, 0)⟩

def execTxPowerWrite (win : Fin 7) (n : Fin 4) (value : Word) (be : Fin 16) (s : State) : Answer :=
  .next (s.hostWrite ⟨win, chanAddr n 0x10, value.toNat, be⟩ (powerHook n))

/-- A frequency index whose centre, plus or minus half the active profile's slot width, stays in 186.000 to 196.200 THz
(R86, R87): half the width in 6.25 GHz is the width in 12.5 GHz. -/
def State.freqFits (s : State) (n v : Nat) : Bool :=
  let w : Int := match s.active n with
    | some p => slotWidth p
    | none => 0
  let c := toSigned 12 v
  decide (-1136 ≤ c - w ∧ c + w ≤ 496)

/-- OPT_FREQ is writable only while PHASE is OFF, and refused where the slot leaves the band (R87). -/
def freqHook (n : Nat) : Hook :=
  ⟨fun s f v => if f ≠ OPT_FREQ.N n then 0 else if s.phase n ≠ Phase.off then 5 else if s.freqFits n v then 0 else 4,
   fun _ s => (s, 0)⟩

def execOptFreqWrite (win : Fin 7) (n : Fin 4) (value : Word) (be : Fin 16) (s : State) : Answer :=
  .next (s.hostWrite ⟨win, chanAddr n 8, value.toNat, be⟩ (freqHook n))

/-! ## Receive power, AGC and loss of signal (R30, R96, R98) -/

/-- The AGC settles; `gain` is its gain in 0.25 dB.  Step 4 of Table 1.4 is then complete, and the coarse estimate starts
where the channel has none yet (R26, R130). -/
def execAgcSettled (n : Fin 4) (gain : Nat) (s : State) : Answer :=
  .next <| s.when (s.phase n = Phase.lit && !s.on (OPT_AGC_STAT.SETTLED n) && !s.on (OPT_AGC_STAT.FROZEN n)
      && !s.on (OPT_STAT.LOS n))
    (fun t => ((t.put (OPT_AGC_STAT.SETTLED n) 1).put (OPT_AGC_STAT.GAIN n) gain).when
      (t.chSt n = ChSt.acquiring && !t.on (LDS_CD_EST.VALID n) && !t.on (LDSC.EST_RUN n)) (·.coarseStart n))

/-- The AGC acquires again. -/
def State.agcAcquire (n : Nat) (s : State) : State :=
  s.when (s.phase n = Phase.lit && !s.on (OPT_AGC_STAT.FROZEN n)) (·.put (OPT_AGC_STAT.SETTLED n) 0)

/-- 1 ms after loss of frame with no new detection, the AGC unfreezes (R30). -/
def execAgcUnfreezeTimeout (n : Fin 4) (s : State) : Answer :=
  .next <| s.when (s.on (OPT_AGC_STAT.UNFRZ_PEND n)) (fun t =>
    (t.clear [OPT_AGC_STAT.UNFRZ_PEND n, OPT_AGC_STAT.FROZEN n, OPT_AGC_STAT.OUT_WIN n]).agcAcquire n)

/-- A power in 0.01 dBm as a monitor shows it: 0x8000 below its floor. -/
def shown (floor p : Int) : Nat := if p < floor then 0x8000 else ofSigned 16 p

/-- A 10 µs update of the monitors with the measured launched power, received power and TIA gain (R96, R105). -/
def execOpticalPowerMonitorUpdate (n : Fin 4) (tx rx : Int) (gain : Nat) (s : State) : Answer :=
  .next <| s.when s.answers (fun t =>
    let now := shown (-3000) rx
    t.put (OPT_TX_MON.PWR n) (shown (-3500) tx) |>.put (OPT_RX_PWR.NOW n) now |>.putS (OPTC.RX n) rx
      |>.when (t.on (OPTC.MIN_READ n) || toSigned 16 now < t.rdS (OPT_RX_PWR.MIN n)) (·.put (OPT_RX_PWR.MIN n) now)
      |>.put (OPTC.MIN_READ n) 0
      |>.when (600 < rx) (·.put (OPT_STAT.OVERLOAD n) 1) |>.when (rx < 550) (·.put (OPT_STAT.OVERLOAD n) 0)
      |>.when (t.phase n = Phase.lit && t.on (OPT_AGC_STAT.SETTLED n) && !t.on (OPT_AGC_STAT.FROZEN n)
          && !t.on (OPT_STAT.LOS n)) (·.put (OPT_AGC_STAT.GAIN n) gain)
      |>.when (t.on (OPT_AGC_STAT.FROZEN n)) (·.flag (OPT_AGC_STAT.OUT_WIN n)
          (300 < (rx - t.rdS (OPTC.FREEZE_LVL n)).natAbs))
      |>.when (t.phase n = Phase.lit) (fun u => u.countFor n .opt 0x06 10 none))

/-- Received power below THRESH for 10 µs (R98). -/
def execOpticalLosDeclare (n : Fin 4) (s : State) : Answer :=
  .next <| s.when (s.answers && !s.on (OPT_STAT.LOS n)) (fun t =>
    (t.put (OPT_STAT.LOS n) 1 |>.put (CNV_STAT.FE_MISMATCH n) 0 |>.bump (OPT_CNT.LOS n) |>.raiseCh n 0x01 |>.count n .opt 0x01).when (t.holdsLock n)
      (·.setCh n ChSt.acquiring 0x3))

/-- Received power at or above THRESH + HYST for 100 µs (R98). -/
def execOpticalLosClear (n : Fin 4) (s : State) : Answer :=
  .next <| s.when (s.on (OPT_STAT.LOS n)) (fun t =>
    (t.put (OPT_STAT.LOS n) 0 |>.raiseCh n 0x01).agcAcquire n |>.acqResume n)

/-! ## Laser safety (R99 to R103) -/

/-- The safety inputs as each engine shows them (Table 4.20). -/
def State.safeShow (n : Nat) (s : State) : State :=
  let a := s.on PIN.SAFE_A
  let b := s.on PIN.SAFE_B
  s.flag (OPT_SAFE_STAT.A_ACT n) a |>.flag (OPT_SAFE_STAT.B_ACT n) b |>.flag (OPT_SAFE_STAT.SHUT n) (a || b)
    |>.flag (OPT_SAFE_STAT.DISC_RUN n) (a != b)

/-- A safety cut of channel n, with its measured input-to-dark time in 0.1 µs (R99). -/
def State.safetyCut (n lat : Nat) (s : State) : State :=
  s.put (OPT_SAFE_LAT.LAT n) lat |>.bump (OPT_CNT.SAFE n) |>.put (OPT_SAFE_STAT.SHUT_EV n) 1 |>.raiseCh n 0x04
    |>.count n .opt 0x02

/-- An input went active: each lit channel cuts its laser, and a loopback light is cut with its run failed (R99, R330). -/
def State.safetyActs (n lat : Nat) (s : State) : State :=
  let s1 := s.safeShow n
  if s.phase n ≠ Phase.off then (s1.safetyCut n lat).cut n 0x2
  else if s.calFull n 1 1 then (s1.when (s.on CALC.LIGHT) (·.safetyCut n lat)).calFail 0x3
  else s1

/-- Input 0 (SAFE_A_N) or 1 (SAFE_B_N). -/
def safetyPin (input : Nat) : Field := if input = 0 then PIN.SAFE_A else PIN.SAFE_B

/-- A safety input goes active, after glitch rejection; l0 to l3 are the times from input to dark that the channels
measure.  It acts in every mode other than KEEP (R100, R103). -/
def execSafetyInputActive (input : Fin 2) (l0 l1 l2 l3 : Nat) (s : State) : Answer :=
  .next <| (s.put (safetyPin input) 1).when (s.mode ≠ Mode.keep) (fun t =>
    t.safetyActs 0 l0 |>.safetyActs 1 l1 |>.safetyActs 2 l2 |>.safetyActs 3 l3)

/-- A safety input returns inactive: the laser stays off (R100, R102). -/
def execSafetyInputInactive (input : Fin 2) (s : State) : Answer :=
  .next <| (s.put (safetyPin input) 0).when (s.mode ≠ Mode.keep) (fun t => t.each channels State.safeShow)

/-- A disagreement that lasts DISC latches SAFETY_DISCREPANCY (R100). -/
def execSafetyDiscrepancyTimeout (n : Fin 4) (s : State) : Answer :=
  .next <| s.when (s.on (OPT_SAFE_STAT.DISC_RUN n) && !s.on (OPT_SAFE_STAT.DISC n)) (fun t =>
    (t.put (OPT_SAFE_STAT.DISC n) 1).raiseCh n 0x02)

/-- A write of OPT_SAFE_STAT: DISC clears only with both inputs inactive (R102); `s0` is the state before the write. -/
def discHook (n : Nat) (s0 : State) : Hook :=
  ⟨fun _ _ _ => 0, fun _ s =>
    (s.when (s.on PIN.SAFE_A || s.on PIN.SAFE_B) (·.put (OPT_SAFE_STAT.DISC n) (s0.rd (OPT_SAFE_STAT.DISC n))), 0)⟩

def execDiscrepancyClear (win : Fin 7) (n : Fin 4) (value : Word) (be : Fin 16) (s : State) : Answer :=
  .next (s.hostWrite ⟨win, chanAddr n 0x34, value.toNat, be⟩ (discHook n s))

/-! ## Faults (R104) -/

/-- Locker error or gain current beyond limits, while LIT. -/
def execLaserFault (n : Fin 4) (s : State) : Answer :=
  .next <| s.when (s.phase n = Phase.lit) (·.opticalFence n (OPT_FAULT.LASER n))

/-- Laser temperature off its set point for 1 s, outside TUNING. -/
def execCoolerFault (n : Fin 4) (s : State) : Answer :=
  .next <| s.when (s.answers && s.phase n ≠ Phase.tuning) (·.opticalFence n (OPT_FAULT.TEC n))

/-- Booster output off the ramp's present target for 1 ms. -/
def execBoosterFault (n : Fin 4) (s : State) : Answer :=
  .next <| s.when (2 ≤ s.phase n) (·.opticalFence n (OPT_FAULT.SOA n))

/-- Driver supply or swing outside limits for 10 µs. -/
def execDriverFault (n : Fin 4) (s : State) : Answer :=
  .next <| s.when s.answers (·.opticalFence n (OPT_FAULT.DRV n))

/-- The receiver front end's self-test: RX follows its condition, with no fence. -/
def execReceiverFrontEndFault (n : Fin 4) (fail : Bool) (s : State) : Answer :=
  .next <| s.when s.answers (fun t =>
    (t.flag (OPT_FAULT.RX n) fail).when (fail && !t.on (OPT_FAULT.RX n)) (·.raiseCh n 0x03))

end Sys2Proof.Machine
end

