-- ==== Sys2Proof/Machine/Tributary.lean ====
section
/-! DEFINITION. Tributary tables, commits and justification: chapter 9 of spec/ (R217, R219 to R225), and the transmit
multiframe work of TRB. -/

namespace Sys2Proof.Machine

/-! ## The tables (R219) -/

/-- Entry t of the active table, its writable part. -/
def State.trib (s : State) (n t : Nat) : TribCfg :=
  ⟨t, s.on (TRB_TRIB.EN n t), s.on (TRB_TRIB.ENC n t), s.rd (TRB_TRIB.START n t), s.rd (TRB_TRIB.COUNT n t),
    s.rd (TRB_TRIB.CLIENT n t)⟩

/-- Entry t of the shadow table. -/
def State.shadow (s : State) (n t : Nat) : TribCfg :=
  ⟨t, s.on (TRB_SHD.EN n t), s.on (TRB_SHD.ENC n t), s.rd (TRB_SHD.START n t), s.rd (TRB_SHD.COUNT n t),
    s.rd (TRB_SHD.CLIENT n t)⟩

/-- The active table's entries that are not at reset, in ascending index. -/
def State.activeTable (s : State) (n : Nat) : List TribCfg :=
  (s.listedRows (0x8600000 + 0x10000 * n) 16 1024).map (fun t => s.trib n t)

/-- The shadow table's entries that are not at reset, in ascending index. -/
def State.shadowTable (s : State) (n : Nat) : List TribCfg :=
  (s.listedRows (0x8608000 + 0x10000 * n) 16 1024).map (fun t => s.shadow n t)

/-- What a latched table gives entry t: the reset values where it lists none. -/
def cfgOf (l : List TribCfg) (t : Nat) : TribCfg := (l.find? (fun c => c.idx = t)).getD ⟨t, false, false, 0, 0, 0⟩

/-! ## Checks of a table (R221) -/

/-- Two entries share a tributary slot. -/
def TribCfg.overlaps (a b : TribCfg) : Bool := a.start < b.start + b.count && b.start < a.start + a.count

/-- Global number of a tenant's key slot (R280). -/
def keySlot (n t side : Nat) : Nat := 2048 * n + 2 * t + side

/-- Capacity of the enabled pipelines holds a number of encrypted slots (R42). -/
def cipherFits (pipes slots : Nat) : Bool := slots * 25175 ≤ pipes * 2125000

/-- Encrypted tributary slots of a list of entries. -/
def encSlots (l : List TribCfg) : Nat := ((l.filter (fun c => c.enc)).map (·.count)).sum

/-- Cause for which an enabled entry fails against profile p and the enabled entries `before` of lower index that passed;
0 when it passes.  `keys`: with the check of its key (R221, R412).  The spec gives no order where an entry fails several checks
at once: the model names a broken limit of the mode first, then takes the causes in the order of this list (DESIGN CHOICE, log entry 43). -/
def State.tribCause (s : State) (keys : Bool) (n : Nat) (p : Profile) (before : List TribCfg) (c : TribCfg) : Nat :=
  let st := s.rd (TRB_TRIB.STATE n c.idx)
  if p.interop && (c.idx ≠ 0 || c.enc || s.rd (HST_CLI.KIND n c.client) ≠ 0 || s.rate5 n c.client ≠ 80) then 0xA
  else if s.on (LFR_CTRL.G2 n) && (c.enc || 255 < c.idx) then 0x9
  else if !p.interop && (c.count = 0 || p.tslots < c.start + c.count || before.any (fun b => b.overlaps c)) then 0x2
  else if !p.interop && s.defined n c.client && !fitsSlots (s.rate5 n c.client) c.count c.enc p.rs then 0x3
  else if st = Trib.quarantine then 0x4
  else if keys && st = Trib.idle && c.enc && s.rd (KEY_SLOT.STATE (keySlot n c.idx (s.rd (TRB_TRIB.KI_TX n c.idx)))) ≠ 2 then 0x5
  else if c.enc && !cipherFits (popcount (s.rd (SEC_PIPE.ACTIVE n)) 16) (encSlots (before ++ [c])) then 0x6
  else if !s.defined n c.client || before.any (fun b => b.client = c.client) then 0xC
  else 0

/-- The first failing entry of a table against profile p, with its cause. -/
def State.tableFault (s : State) (n : Nat) (p : Profile) : List TribCfg → List TribCfg → Option (Nat × Nat)
  | _, [] => none
  | before, c :: l =>
    if !c.en then s.tableFault n p before l
    else
      let k := s.tribCause true n p before c
      if k = 0 then s.tableFault n p (before ++ [c]) l else some (c.idx, k)

/-! ## Commits (R220, Table 9.6) -/

/-- Why a GO is refused at step 1; 0 when it is not. -/
def State.cmtRefusal (s : State) (n : Nat) : Nat :=
  if !(s.chSt n = ChSt.locked || s.chSt n = ChSt.inService) then 0x1
  else if s.cmtRunning n || s.rszRunning n then 0x7
  else if (s.on FAB_PERT_CTRL.EN && s.rd FAB_PERT_CTRL.CH = n) || s.rd (LDS_TX_TEST.PATTERN n) ≠ 0 then 0xB
  else if s.frozen || !s.firmware then 0x8
  else 0

/-- GO: steps 1 and 2, and the request for the vote of step 3. -/
def State.commitGo (n : Nat) (s : State) : State :=
  let r := s.cmtRefusal n
  if r ≠ 0 then
    if s.cmtRunning n then
      s.put (TRB_CMT_STAT.CAUSE n) r |>.put (TRB_CMT_STAT.FAIL_EV n) 1 |>.raiseCh n 0x51 |>.count n .trb 0x03
    else s.cmtRefuse n r
  else
    let l := s.shadowTable n
    let s1 := (s.put (TRB_CMT_STAT.CAUSE n) 0).onChan n (fun c => { c with latched := l })
    match (s.active n).bind (fun p => s.tableFault n p [] l) with
    | some (t, k) => (s1.put (TRB_CMT_STAT.ENTRY n) t).cmtRefuse n k
    | none => (s1.put (TRB_CMT_STAT.STATE n) 2).request (.tribCommit n)

/-- The vote of step 3 approves; the arbiter refuses it while a perturbation names the channel (R63) or a test
pattern is sent (R177). -/
def State.commitApproved (n : Nat) (s : State) : State :=
  if s.rd (TRB_CMT_STAT.STATE n) ≠ 2 then s
  else if (s.on FAB_PERT_CTRL.EN && s.rd FAB_PERT_CTRL.CH = n) || s.rd (LDS_TX_TEST.PATTERN n) ≠ 0 then s.cmtRefuse n 0x8
  else (s.put (TRB_CMT_STAT.STATE n) 3).put (TRBC.FRESH n) 1

/-- The vote of step 3 is refused. -/
def State.commitRefused (n : Nat) (s : State) : State :=
  s.when (s.rd (TRB_CMT_STAT.STATE n) = 2) (·.cmtRefuse n 0x8)

/-- State that step 4 gives an entry. -/
def stepFour (st : Nat) (en : Bool) : Nat :=
  if en then
    if st = Trib.idle || st = Trib.held || st = Trib.suspended then Trib.active else st
  else if st = Trib.active || st = Trib.held || st = Trib.suspended then Trib.retiring else st

/-- The active table takes an entry; a generation begins where it is activated from IDLE (R222, R223). -/
def State.takeEntry (n : Nat) (c : TribCfg) (s : State) : State :=
  let fresh := c.en && s.rd (TRB_TRIB.STATE n c.idx) = Trib.idle
  s.clear [MEMC.BAD_TRB n c.idx, MEMC.BAD_TEN n c.idx] |>.flag (TRB_TRIB.EN n c.idx) c.en |>.flag (TRB_TRIB.ENC n c.idx) c.enc |>.put (TRB_TRIB.START n c.idx) c.start
    |>.put (TRB_TRIB.COUNT n c.idx) c.count |>.put (TRB_TRIB.CLIENT n c.idx) c.client
    |>.when fresh (fun t => t.addWrap (TRB_TRIB.GEN n c.idx) 1 |>.put (TRB_TRIB.LEARNED n c.idx) 0
        |>.put (TRB_TRIB.LASTV n c.idx) 0)

/-- IN_SERVICE while a tributary is ACTIVE, LOCKED while none is (R39). -/
def State.serviceEval (n : Nat) (s : State) : State :=
  let some := !(s.tribsIn n Trib.active).isEmpty
  if s.chSt n = ChSt.locked && some then s.setCh n ChSt.inService 0x0
  else if s.chSt n = ChSt.inService && !some then s.setCh n ChSt.locked 0x1
  else s

/-- Indices that a table or the active table lists. -/
def State.tribsOf (s : State) (n : Nat) (l : List TribCfg) : List Nat :=
  uniq (s.listedRows (0x8600000 + 0x10000 * n) 16 1024 ++ l.map (·.idx))

/-- Step 4: the active table takes the latched table, and entries change state. -/
def State.stepFourAt (n : Nat) (s : State) : State :=
  let l := (s.chan n).latched
  s.each (s.tribsOf n l) (fun t u =>
      let c := cfgOf l t
      ((u.put (TRBC.OLD n t) (u.rd (TRB_TRIB.CLIENT n t))).takeEntry n c).put (TRB_TRIB.STATE n t) (stepFour (u.rd (TRB_TRIB.STATE n t)) c.en))
    |>.trbStat n |>.put (TRB_CMT_STAT.STATE n) 4 |>.put (TRB_CMT_MF.MFN n) (s.mfn n + 1)
    |>.serviceEval n |>.hstRefresh n

/-- Justification buffer of an entry: B_cap (R217). -/
def State.bCap (s : State) (n t : Nat) : Nat := 4096 + 512 * s.rd (TRB_TRIB.COUNT n t)

/-- Tokens of tributary t at a stage. -/
def State.held (s : State) (n t : Nat) (st : Stage) : Nat := (s.flow.get n).tok.countP (fun k => k.stage = st && k.trib = t)

/-- Does f k times. -/
def State.times : Nat → (State → State) → State → State
  | 0, _, s => s
  | k + 1, f, s => State.times k f (f s)

/-- What lies beyond a moved entry's new B_cap is dropped (R220). -/
def State.trimBuffers (n t : Nat) (s : State) : State :=
  let room := s.bCap n t / 64
  s.times (s.held n t .txTrb - room) (·.flowOp n (Flow.txDropOne .retired (fun k => k.stage = .txTrb && k.trib = t)))
    |>.times (s.held n t .rxTrb - room) (·.flowOp n (Flow.rxDropOne .gmp (fun k => k.stage = .rxTrb && k.trib = t)))

/-- An entry loses CARRY: its buffered tokens are dropped and the credits of client c withdrawn (R220, R238). -/
def State.loseCarry (n t c : Nat) (k : TxDrop) (s : State) : State :=
  s.put (TRB_TRIB.CARRY n t) 0 |>.flowOp n (Flow.txDropAll k (fun x => x.stage = .txTrb && x.trib = t))
    |>.reclaim n c |>.put (TRBC.CMNOW n t) 0 |>.put (TRBC.LEFT n t) 0 |>.put (TRB_TRIB.CM n t) 0

/-- Step 5 for one entry; a resize drops no token of an entry that stays (R81). -/
def State.stepFive (n t : Nat) (trim : Bool) (s : State) : State :=
  let st := s.rd (TRB_TRIB.STATE n t)
  if st = Trib.active then (s.put (TRB_TRIB.CARRY n t) 1).when trim (·.trimBuffers n t)
  else if st = Trib.held then s.when trim (·.trimBuffers n t)
  else if st = Trib.retiring then
    (s.loseCarry n t (s.rd (TRBC.OLD n t)) .retired |>.put (TRB_TRIB.STATE n t) Trib.quarantine).put (TRBC.QUAR n t) 2
  else s

/-- Step 5 of a commit. -/
def State.stepFiveAt (n : Nat) (s : State) : State :=
  s.each (s.tribs n) (fun t u => u.stepFive n t true) |>.trbStat n |>.hstRefresh n
    |>.put (TRB_CMT_STAT.STATE n) 5 |>.put (TRB_CMT_STAT.DONE_EV n) 1 |>.raiseCh n 0x50 |>.count n .trb 0x02

/-- Both key slots of a tenant are erased (R286). -/
def State.eraseTenant (n t : Nat) (s : State) : State :=
  s.put (KEY_SLOT.STATE (keySlot n t 0)) 0 |>.put (KEY_SLOT.STATE (keySlot n t 1)) 0
    |>.put (KEYC.KEY (keySlot n t 0)) 0 |>.put (KEYC.KEY (keySlot n t 1)) 0

/-- Step 6: entries that have spent two multiframes in QUARANTINE go IDLE, their keys erased when ERASE_REL is set. -/
def State.quarantineEnd (n : Nat) (s : State) : State :=
  s.each (s.tribsIn n Trib.quarantine) (fun t u =>
    let q := u.rd (TRBC.QUAR n t)
    if q ≤ 1 then
      (u.put (TRBC.QUAR n t) 0 |>.put (TRB_TRIB.STATE n t) Trib.idle).when (u.on (SEC_CTRL.ERASE_REL n)) (·.eraseTenant n t)
    else u.put (TRBC.QUAR n t) (q - 1))

/-- SUSPENDED entries clear CARRY at the boundary that the announcements of ACT = 0 name (Table 9.7). -/
def State.suspendStep (n : Nat) (s : State) : State :=
  s.each (s.tribsIn n Trib.suspended) (fun t u =>
    let q := u.rd (TRBC.SUSP n t)
    (u.put (TRBC.SUSP n t) (q - 1)).when (q = 1) (·.loseCarry n t (u.rd (TRB_TRIB.CLIENT n t)) .cap))

/-! ## Justification (R217, R287, R291) -/

/-- CM that the copies of the multiframe now starting announce for entry t: `cur` is the profile of this multiframe and
`nxt` that of the next. -/
def State.cmOf (s : State) (n t : Nat) (cur nxt : Profile) : Nat :=
  let arr := s.rd (TRBC.ARR n t)
  let a := if cur.rs = nxt.rs then arr else arr * cur.rs / nxt.rs
  let cap := s.bCap n t
  let cm : Int := a + ((64 * s.held n t .txTrb : Nat) - (cap / 2 : Nat) : Int) / 16
  let p := s.rd (TRB_TRIB.COUNT n t) * slotBytes nxt.rs
  Nat.min (if s.on (TRB_TRIB.ENC n t) then p - 20480 else p) cm.toNat

/-- Seals left on the key that entry t seals under (R291). -/
def State.sealsLeft (s : State) (n t : Nat) : Nat :=
  2 ^ 32 - s.rd (SECC.SEALS (keySlot n t (s.rd (TRB_TRIB.KI_TX n t))))

/-- The entry carries data in the next multiframe: ACTIVE or HELD, neither stopped nor retiring. -/
def State.carriesNext (s : State) (n t : Nat) : Bool :=
  s.on (TRB_TRIB.EN n t) && (s.rd (TRB_TRIB.STATE n t) = Trib.active || s.rd (TRB_TRIB.STATE n t) = Trib.held)

/-- CM of every entry for the next multiframe; the announced value comes into force, and arrivals count from 0 again.
A tenant with fewer than 2,048 seals left announces 0, and LIMIT sets (R291); `renew t` says that the next multiframe
seals under a new key. -/
def State.announce (n : Nat) (cur nxt : Profile) (renew : Nat → Bool) (s : State) : State :=
  s.each (s.tribs n) (fun t u =>
      let stop := u.on (TRB_TRIB.ENC n t) && u.carriesNext n t && !renew t
        && (u.sealsLeft n t < 2048 || u.on (SEC_TEN.LIMIT n t))
      let cm := if u.carriesNext n t && !stop then u.cmOf n t cur nxt else 0
      (u.put (TRBC.CMNOW n t) (u.rd (TRB_TRIB.CM n t)) |>.put (TRB_TRIB.CM n t) cm).when
        (stop && !u.on (SEC_TEN.LIMIT n t))
        (fun w => w.put (SEC_TEN.LIMIT n t) 1 |>.put (SEC_STAT.LIMIT_EV n) 1 |>.raiseCh n 0xA6))
    |>.each (s.listed (TRBC.ARR n 0) 4 1024) (fun t u => u.put (TRBC.ARR n t) 0)

/-! ## Commands -/

/-- A write of TRB_CMT. -/
def commitHook (n : Nat) : Hook :=
  ⟨fun _ _ _ => 0, fun l s => (s.when (wroteOne l (TRB_CMT.GO n)) (·.commitGo n), 0)⟩

def execTributaryCommitGo (win : Fin 7) (n : Fin 4) (value : Word) (be : Fin 16) (s : State) : Answer :=
  .next (s.hostWrite ⟨win, chanAddr n 0x500004, value.toNat, be⟩ (commitHook n))

/-- A channel reaches LOCKED with the main receiver locked: acquisition is over, and with AUTO_RESUME the supervisors
request a commit of the shadow table (R147, R224). -/
def State.reachLocked (n : Nat) (s : State) : State :=
  let s1 := (s.setCh n ChSt.locked 0x0).put (LDS_ACQ_STAT.STEP n) 0xF |>.put (LDS_ACQ_STAT.COLD n) 0 |>.put (LDSC.FAILS n) 0
  if s1.on (TRB_CTRL.AUTO_RESUME n) && s1.firmware then (s1.bump (TRB_CNT.AUTO n)).commitGo n else s1

end Sys2Proof.Machine
end

