-- ==== Sys2Proof/Machine/Converters.lean ====
section
/-! DEFINITION. Line converter commands: chapter 5 of spec/ (R106 to R124). -/

namespace Sys2Proof.Machine

/-! ## Slice faults (R112, R113) -/

/-- Step 4a for a direction, and its consequences (R117): a symbol rate above the new MAXRS refuses the mode, and an ADC
respacing otherwise costs the frame. -/
def State.respaceDir (n dir : Nat) (s : State) : State :=
  let s1 := (s.respaceCore n dir).unitChanged n true
  if !s1.lightUp n then s1
  else if (s1.active n).any (fun p => s1.rd (CNV_RATE.MAXRS n) < p.rs) then s1.refuseMode n
  else if dir = 1 then s1.loseFrame n
  else s1

/-- Slice k of channel n faults with its detector's cause, and what follows from it: a fence where it was no active slice,
and a position that no spare fills acts at once while DARK or TUNING. -/
def State.sliceFault (n k cause : Nat) (s : State) : State :=
  let fenced := s.fencesNow n k
  let s1 := s.sliceFaultCore n k cause
  let dir := k / 272
  if s1.actsAtOnce n && s1.exhausted n dir then s1.respaceDir n dir else s1.when fenced (·.unitChanged n true)

/-- The ADCs, the PLLs and the sense path of channel n run: not while it is FENCED for a PLL fault (R123). -/
def State.convRuns (s : State) (n : Nat) : Bool :=
  s.answers && !(s.chSt n = ChSt.fenced && (s.on (CNV_PLL_STAT.TX_FAULT n) || s.on (CNV_PLL_STAT.RX_FAULT n)))

/-- An ADC slice that returns one code while LOS is 0. -/
def execSliceStuckCode (n : Fin 4) (k : Fin 544) (s : State) : Answer :=
  .next <| s.when (s.convRuns n && isAdc k && !s.on (CNV_STAT.LOS n)) (·.sliceFault n k 0x2)

/-- A working correction stands at a limit of its range. -/
def State.atLimit (s : State) (n k : Nat) : Bool :=
  [0, 1, 2, 3].any (fun j => corRange (isAdc k) j ≤ ((s.cor n k j).natAbs : Int))

def execSliceRangeFault (n : Fin 4) (k : Fin 544) (s : State) : Answer :=
  .next <| s.when (s.convRuns n && s.atLimit n k) (·.sliceFault n k 0x3)

/-- The loop of correction j is frozen on slice k's side (R109). -/
def State.loopFrozen (s : State) (n k j : Nat) : Bool :=
  s.rdBit (if isAdc k then CNV_LOOP_CTRL.ADC_FRZ n else CNV_LOOP_CTRL.DAC_FRZ n) j

/-- A working correction has left its drift window, with that loop not frozen. -/
def State.drifted (s : State) (n k : Nat) : Bool :=
  [0, 1, 2, 3].any (fun j => !s.loopFrozen n k j && corWindow (isAdc k) j < (s.corDrift n k j : Int))

def execSliceDriftFault (n : Fin 4) (k : Fin 544) (s : State) : Answer :=
  .next <| s.when (s.convRuns n && s.drifted n k) (·.sliceFault n k 0x4)

/-- Comparator timing errors of an ADC slice. -/
def execSliceTimingFault (n : Fin 4) (k : Fin 544) (s : State) : Answer :=
  .next <| s.when (s.convRuns n && isAdc k) (·.sliceFault n k 0x5)

/-- Sense-path error of a DAC slice. -/
def execSliceSenseFault (n : Fin 4) (k : Fin 544) (s : State) : Answer :=
  .next <| s.when (s.convRuns n && !isAdc k) (·.sliceFault n k 0x6)

/-- A forced fault is refused on a slice that is neither ACTIVE nor SPARE, and on an ACTIVE one whose converter has no
spare while the channel is not DARK (R124). -/
def State.forceRefused (s : State) (n k : Nat) : Bool :=
  !(s.slice n k = Slice.active || s.slice n k = Slice.spare)
    || (s.slice n k = Slice.active && (s.spares n (k / 68)).isEmpty && s.chSt n ≠ ChSt.dark)

/-- CNV_SLC_CMD. -/
def sliceForceHook (n : Nat) : Hook :=
  ⟨fun s f v => if f = CNV_SLC_CMD.FORCE n && v = 1 && s.forceRefused n (s.sliceSel n) then 5 else 0,
   fun l s => (s.when (wroteOne l (CNV_SLC_CMD.FORCE n)) (·.sliceFault n (s.sliceSel n) 0x7), 0)⟩

def execSliceForce (win : Fin 7) (n : Fin 4) (value : Word) (be : Fin 16) (s : State) : Answer :=
  .next (s.hostWrite ⟨win, chanAddr n 0x100030, value.toNat, be⟩ (sliceForceHook n))

/-! ## Substitution and respacing (R114, R117) -/

/-- Substitutions of a direction take place, with the fences they bring. -/
def State.substituteDir (n dir : Nat) (s : State) : State :=
  let l := s.readySwaps n dir
  (s.each l (fun w t => t.substitute n w)).when (!l.isEmpty) (·.unitChanged n (l.any (fun w => w.slice.isSome)))

/-- The shadow calibration of converter c converges, with the four values it measured. -/
def State.shadowDone (n c : Nat) (v : List Int) (s : State) : State :=
  match (s.chan n).swaps.find? (fun w => w.conv = c && (match w.stage with
      | .shadow _ => true
      | _ => false)) with
  | some w =>
    match w.stage with
    | .shadow sp =>
      let s1 := (s.takeCor n sp v).onChan n (fun ch => { ch with swaps := ch.swaps.map (fun x =>
        if x = w then { x with stage := .ready sp } else x) }) |>.startShadows n
      let s2 := s1.when (s1.actsAtOnce n) (fun t => t.substituteDir n (c / 4))
      (s2.when (s2.actsAtOnce n && s2.exhausted n (c / 4)) (·.respaceDir n (c / 4))).regain n c
    | _ => s
  | none => s

def execShadowCalibrationConverged (n : Fin 4) (c : Fin 8) (offset gain skew bw : Int) (s : State) : Answer :=
  .next (s.shadowDone n c [offset, gain, skew, bw])

/-- 500 µs without convergence: the spare of converter c is FENCED with CAUSE 0x8, and the next one is tried. -/
def execShadowCalibrationTimeout (n : Fin 4) (c : Fin 8) (s : State) : Answer :=
  .next <| match (s.chan n).swaps.findSome? (fun w => match w.stage with
      | .shadow sp => if w.conv = c.val then some sp else none
      | _ => none) with
    | some sp => s.sliceFault n sp 0x8
    | none => s

/-- The next apply boundary for converter c's converged spares. -/
def execSpareSubstitution (n : Fin 4) (c : Fin 8) (s : State) : Answer :=
  .next <| s.when (s.boundaryOpen n) (fun t =>
    let l := (t.readySwaps n (c / 4)).filter (fun w => w.conv = c.val)
    (t.each l (fun w u => u.substitute n w)).when (!l.isEmpty) (·.unitChanged n (l.any (fun w => w.slice.isSome))))

/-- The next apply boundary for a direction (0 transmit, 1 receive) with a FAILING slice and no spare. -/
def execRespacing (n : Fin 4) (dir : Fin 2) (s : State) : Answer :=
  .next <| s.when (s.boundaryOpen n && s.exhausted n dir) (·.respaceDir n dir)

/-! ## Apply boundaries (R109, R110) -/

/-- The background loops of slice k may step at a boundary (R109). -/
def State.loopsRun (s : State) (n k : Nat) : Bool :=
  s.slice n k = Slice.active && s.phase n = Phase.lit
    && (if isAdc k then (s.chSt n = ChSt.acquiring || s.holdsLock n) && !s.on (CNV_STAT.LOS n) && !s.on (CNV_STAT.RX_LOL n)
        else !s.on (CNV_STAT.TX_LOL n))

/-- One background step of correction j on slice k, within the range. -/
def State.loopStep (n k j : Nat) (up : Bool) (s : State) : State :=
  let v := s.cor n k j + (if up then 1 else -1)
  if s.loopsRun n k && !s.loopFrozen n k j && (v.natAbs : Int) ≤ corRange (isAdc k) j then
    (s.putS (corField n k j) v).driftFlag n k |>.count n .cnv 0x06
  else s

/-- Elements of a set that a converter boundary of a direction applies: its slices, and the lanes or the receive front end. -/
def boundaryElement (dir e : Nat) : Bool := if dir = 0 then 272 ≤ e && e < 548 else e < 272 || e = 548

/-- A background step. -/
structure LoopMove where
  k : Nat
  j : Nat
  up : Bool

/-- At most one step per correction per slice: the first called for. -/
def oneStep : List LoopMove → List LoopMove
  | [] => []
  | m :: l => m :: (oneStep l).filter (fun x => x.k ≠ m.k || x.j ≠ m.j)

/-- One apply boundary of a direction: substitutions and respacing, then calibration elements, then background steps on the
slices that took no element.  At a transmit boundary the pre-distortion takes the drive ratios that the bias loops last
reported (R169, R170). -/
def State.applyBoundary (n dir : Nat) (moves : List LoopMove) (s : State) : State :=
  let s1 := s.substituteDir n dir
  let s2 := s1.when (s1.exhausted n dir) (·.respaceDir n dir)
  let taken := if s2.calApplying n then (s2.calWait.filter (boundaryElement dir)).map elementSlice else []
  let s3 := s2.calBoundary n (boundaryElement dir)
  let s4 := s3.when (dir = 0) (fun t => t.each (List.range 4) (fun l u => u.put (LDSC.DRIVE n l) (u.rd (LDSC.DRIVE_NEW n l))))
  (s4.each ((oneStep moves).filter (fun m => m.k / 272 = dir && m.j < 4 && !taken.contains m.k)) (fun m t => t.loopStep n m.k m.j m.up)).calRelease

/-- An apply boundary of Table 5.4; `moves` are the steps that the loops call for: slice, correction, direction. -/
def execConverterApplyBoundary (n : Fin 4) (dir : Fin 2) (moves : List (Nat × Nat × Bool)) (s : State) : Answer :=
  .next <| s.when (s.answers && s.boundaryOpen n) (·.applyBoundary n dir (moves.map (fun m => ⟨m.1, m.2.1, m.2.2⟩)))

/-! ## Clocks (R119, R120) -/

/-- Fields of the PLL of a direction. -/
def pllLol (n dir : Nat) : Field := if dir = 0 then CNV_STAT.TX_LOL n else CNV_STAT.RX_LOL n
def pllLock (n dir : Nat) : Field := if dir = 0 then CNV_PLL_STAT.TX_LOCK n else CNV_PLL_STAT.RX_LOCK n
def pllFaultBit (n dir : Nat) : Field := if dir = 0 then CNV_PLL_STAT.TX_FAULT n else CNV_PLL_STAT.RX_FAULT n
def pllCount (n dir : Nat) : Field := if dir = 0 then CNV_PLL_STAT.TX_LOL_CNT n else CNV_PLL_STAT.RX_LOL_CNT n

/-- A PLL is faulted: no usable position, and the channel is fenced whole. -/
def State.pllFault (n dir : Nat) (s : State) : State :=
  let s1 := ((s.put (pllFaultBit n dir) 1).convRates n).unitChanged n true
  s1.when (s1.chSt n ≠ ChSt.fenced) (·.fenceChannel n)

/-- A PLL declares loss of lock.  The RX PLL costs the frame, the TX PLL holds the DACs at mid-scale (R120, R176); a third declaration within 1 s is a fault. -/
def State.pllLoss (n dir : Nat) (s : State) : State :=
  if s.on (pllLol n dir) || s.on (pllFaultBit n dir) then s
  else
    let third := s.rd (CNVC.LOL_PREV n dir) ≠ 0 && s.time + 1 - s.rd (CNVC.LOL_PREV n dir) ≤ 1000000000
    let s1 := s.put (pllLol n dir) 1 |>.put (pllLock n dir) 0 |>.bump (pllCount n dir) |>.raiseCh n 0x12
      |>.count n .cnv 0x05 |>.put (CNVC.LOL_PREV n dir) (s.rd (CNVC.LOL_LAST n dir)) |>.put (CNVC.LOL_LAST n dir) (s.time + 1)
    let s2 := if dir = 1 then s1.loseFrame n else s1.put (LDS_TX_STAT.MUTED n) 1
    s2.when third (·.pllFault n dir)

def execConverterPllLossOfLock (n : Fin 4) (dir : Fin 2) (s : State) : Answer :=
  .next <| s.when (s.convRuns n) (·.pllLoss n dir)

/-- 100 µs within both limits; a reference is then present, and REFLOSS clears (DESIGN CHOICE, log entry 43: the spec says only when
it sets). -/
def execConverterPllLock (n : Fin 4) (dir : Fin 2) (s : State) : Answer :=
  .next <| s.when (s.convRuns n && !s.on (pllFaultBit n dir)) (fun t =>
    (t.put (pllLol n dir) 0 |>.put (pllLock n dir) 1 |>.put (CNV_STAT.REFLOSS n) 0).when (dir = 1) (·.acqResume n))

/-- No edge of LREFCLKn for 20 ns: both PLLs lose lock. -/
def execConverterReferenceLoss (n : Fin 4) (s : State) : Answer :=
  .next <| s.when (s.convRuns n) (fun t => (t.put (CNV_STAT.REFLOSS n) 1).pllLoss n 0 |>.pllLoss n 1)

/-- Out of lock for 10 ms. -/
def execConverterPllFault (n : Fin 4) (dir : Fin 2) (s : State) : Answer :=
  .next <| s.when (s.on (pllLol n dir) && !s.on (pllFaultBit n dir)) (·.pllFault n dir)

/-! ## Signal detectors (R121, R122) -/

/-- All four ADCs below THRESH for 10 µs. -/
def execAdcLosDeclare (n : Fin 4) (s : State) : Answer :=
  .next <| s.when (s.convRuns n && !s.on (CNV_STAT.LOS n)) (fun t => (t.put (CNV_STAT.LOS n) 1).put (CNV_STAT.LOS_EV n) 1)

/-- An ADC at or above THRESH + HYST for 100 µs. -/
def execAdcLosClear (n : Fin 4) (s : State) : Answer :=
  .next <| s.when (s.convRuns n && s.on (CNV_STAT.LOS n)) (fun t => (t.put (CNV_STAT.LOS n) 0).put (CNV_STAT.FE_MISMATCH n) 0)

/-- CNV LOS for 1 ms with light at the receiver. -/
def execFrontEndMismatch (n : Fin 4) (s : State) : Answer :=
  .next <| s.when (s.on (CNV_STAT.LOS n) && s.phase n = Phase.lit && !s.on (OPT_STAT.LOS n) && !s.on (CNV_STAT.FE_MISMATCH n))
    (fun t => (t.put (CNV_STAT.FE_MISMATCH n) 1 |>.put (CNV_STAT.LOS_EV n) 1).raiseCh n 0x13)

/-- ADC a clipped `clipped` samples in the last 1 ms: more than 1e-4 of them, 600 for each active position, sets its
CLIP_HI bit. -/
def execAdcClipExcess (n : Fin 4) (a : Fin 4) (clipped : Nat) (s : State) : Answer :=
  .next <| s.when (s.convRuns n) (fun t =>
    t.addSat (CNV_CLIP_A.COUNT n a) clipped |>.countFor n .cnv 0x04 clipped none
      |>.putBit (CNV_STAT.CLIP_HI n) a (600 * t.rd (CNV_RATE.RX_ACT n) < clipped))

end Sys2Proof.Machine
end

