-- ==== Sys2Proof/Machine/Calibration.lean ====
section
/-! DEFINITION. Calibration commands: chapter 14 of spec/ (R328 to R338). -/

namespace Sys2Proof.Machine

/-! ## Starting an operation (R328) -/

/-- An operation is between MEASURE and PAUSED. -/
def State.calBusy (s : State) : Bool := 1 ≤ s.rd CAL_RUN_STAT.STATE && s.rd CAL_RUN_STAT.STATE ≤ 6

/-- The scope meets what a TYPE asks of it (Table 14.3). -/
def State.calScopeOk (s : State) (ty sc : Nat) : Bool :=
  if 4 ≤ sc then true
  else if ty = 1 then s.chSt sc = ChSt.dark && s.phase sc = Phase.off
  else if ty = 2 then s.chSt sc = ChSt.locked || s.chSt sc = ChSt.inService
  else true

/-- Region that a LOAD names, when it is valid: 0 the newest, 1 A, 2 B, 3 F. -/
def State.loadSource (s : State) (sc src : Nat) : Option Nat :=
  if src = 0 then s.newestCopy sc
  else
    let r := if src = 3 then 0 else src
    if s.on (validField sc r) then some r else none

/-- Why an operation cannot start, busy apart; 0 when it can. -/
def State.calRefusal (s : State) (ty sc src : Nat) : Nat :=
  if !s.operating then 0xC
  else if !s.calScopeOk ty sc then 0x2
  else if ty = 1 && sc < 4 && (s.on PIN.SAFE_A || s.on PIN.SAFE_B) then 0x3
  else if ty = 3 && s.rd CAL_STORE.STATE = 3 then 0xA
  else if ty = 3 && (s.loadSource sc src).isNone then 0x9
  else if ty = 4 && !s.on (CAL_SSTAT_S.INFORCE sc) then 0x9
  else 0

/-- A record with a new header: SEQ one above the newest, COUNT one above the set in force, and no check word yet. -/
def State.restamp (sc ty : Nat) (m : List Host.Cell) (s : State) : List Host.Cell :=
  memPut 0x1FFC 4 0 (memPut 6 2 (2 * ty) (memPut 8 4 (s.nextSeq sc) (memPut 12 4 (s.rd (CAL_CNT_S.COUNT sc) + 1) m)))

/-- An accepted operation starts: a measurement, or the vote of step 4. -/
def State.calBegin (ty sc src : Nat) (ign : Bool) (s : State) : State :=
  let s1 := s.put CAL_RUN_STAT.SCOPE sc |>.put CAL_RUN_STAT.TYPE ty |>.put CAL_RUN_STAT.CAUSE 0 |>.put CAL_RUN_STAT.PAUSE 0
    |>.flag CALC.IGN ign |>.put CALC.SRC src |>.put CALC.PASS 0 |>.put CALC.NOWRITE 0 |>.put CALC.LIGHT 0
    |>.put CAL_PROG.NEXT 0 |>.put CAL_PROG.TOTAL (totalOf sc)
  if ty = 1 || ty = 2 then
    (s1.put CAL_RUN_STAT.STATE 1).when (ty = 1 && sc < 4) (·.request (.loopback sc))
  else if ty = 3 then
    match s.loadSource sc src with
    | some r =>
      let m := s.copyOf sc r
      let newest := s.newestAB sc = some r
      ({ s1 with runSet := if newest then m else s.restamp sc 3 m }.put CAL_RUN_STAT.STATE 3 |>.flag CALC.NOWRITE newest
        |>.put CALC.REGION r).request .calApply
    | none => s1
  else ({ s1 with runSet := s.setOf sc }.put CAL_RUN_STAT.STATE 3).request .calApply

/-- GO: refused while another operation runs, which it leaves as it is; otherwise it starts or ends FAILED (step 1a). -/
def State.calGo (ty sc src : Nat) (ign : Bool) (s : State) : State :=
  if s.calBusy then s.put CAL_RUN_STAT.CAUSE 0x1
  else
    let r := s.calRefusal ty sc src
    if r = 0 then s.calBegin ty sc src ign
    else s.put CAL_RUN_STAT.SCOPE sc |>.put CAL_RUN_STAT.TYPE ty |>.put CAL_RUN_STAT.STATE 8 |>.put CAL_RUN_STAT.CAUSE r
      |>.put CAL_RUN_STAT.FAIL_EV 1 |>.raise 65

/-- CAL_CMD: with GO, a TYPE or SCOPE outside its range is refused (Table 14.8). -/
def calHook (value : Nat) : Hook :=
  let go := bit value 31 = 1
  ⟨fun _ f v => if go && ((f = CAL_CMD.TYPE && (v = 0 || 4 < v)) || (f = CAL_CMD.SCOPE && 4 < v)) then 4 else 0,
   fun l s =>
    let ty := (wrote l CAL_CMD.TYPE).getD 0
    let sc := (wrote l CAL_CMD.SCOPE).getD 5
    (s.when (wroteOne l CAL_CMD.GO && 1 ≤ ty && ty ≤ 4 && sc ≤ 4)
      (·.calGo ty sc ((wrote l CAL_CMD.SRC).getD 0) (wroteOne l CAL_CMD.IGN_STEP)), 0)⟩

def execCalFull (win : Fin 7) (value : Word) (be : Fin 16) (s : State) : Answer :=
  .next (s.hostWrite ⟨win, 0x50000, value.toNat, be⟩ (calHook value.toNat))

def execCalTrack (win : Fin 7) (value : Word) (be : Fin 16) (s : State) : Answer :=
  .next (s.hostWrite ⟨win, 0x50000, value.toNat, be⟩ (calHook value.toNat))

def execCalLoad (win : Fin 7) (value : Word) (be : Fin 16) (s : State) : Answer :=
  .next (s.hostWrite ⟨win, 0x50000, value.toNat, be⟩ (calHook value.toNat))

def execCalRewrite (win : Fin 7) (value : Word) (be : Fin 16) (s : State) : Answer :=
  .next (s.hostWrite ⟨win, 0x50000, value.toNat, be⟩ (calHook value.toNat))

/-! ## Measurement and plausibility (R329 to R331) -/

/-- The vote for a loopback light is decided (R330): R25 applies but for its calibration condition. -/
def State.loopbackApproved (n : Nat) (s : State) : State :=
  let c := s.enableCause n true
  if !s.calFull n 1 1 then s
  else if c = 0 then s.put CALC.LIGHT 1
  else s.calFail (if c = 0xB then 3 else 7)

/-- What a run measured. -/
structure Measured where
  /-- values, by record offset -/
  data : List Host.Cell
  /-- temperature in 0.01 °C -/
  temp : Int
  /-- VREFCAL in µV -/
  vref : Nat
  /-- LREFCLKn in 0.1 ppm -/
  lppm : Int

/-- The working values of every slice as record entries. -/
def State.sliceEntries (n : Nat) (m : List Host.Cell) (s : State) : List Host.Cell :=
  (List.range 544).foldl (fun a e =>
    [0, 1, 2, 3].foldl (fun b j => memPut (0x40 + 8 * e + 2 * j) 2 (ofSigned 16 (s.cor n (elementSlice e) j)) b) a) m

/-- The record of a FULL or TRACK run (Tables 14.1 to 14.3). -/
def State.measuredSet (ty sc : Nat) (x : Measured) (s : State) : List Host.Cell :=
  let body :=
    if ty = 1 then (if sc < 4 then memCopy x.data 0x40 0x40 0x1378 [] else memCopy x.data 0x1298 0x1298 0xB0 [])
    else if sc < 4 then
      memCopy x.data 0x1298 0x1298 0x100 (memCopy x.data 0x1280 0x1280 8 (memCopy x.data 0x1270 0x1270 8
        (s.sliceEntries sc (memCopy s.sets (setBase sc + 0x40) 0x40 0x1378 []))))
    else memCopy x.data 0x1298 0x1298 0xB0 (memCopy s.sets (setBase sc + 0x40) 0x40 0x1378 [])
  let head := memFill 0 [0x4A, 0x43, 0x41, 0x4C, 0x01, BitVec.ofNat 8 sc] body
  memPut 0x10 4 (s.rd KEY_RTC.SEC) (memPut 0x14 8 s.time (memPut 0x1C 2 (ofSigned 16 x.temp) (memPut 0x1E 4 x.vref
    (memPut 0x22 2 (if sc < 4 then ofSigned 16 x.lppm else 0) (memPut 0x24 4 (s.rd DEV_SERIAL_LO.SN)
      (s.restamp sc ty head))))))

/-- A set fails plausibility: CAL_FAIL, the log and FAILED. -/
def State.calImplausible (sc : Nat) (x : Miss) (s : State) : State :=
  s.put CAL_FAIL.QTY x.qty |>.put CAL_FAIL.INDEX x.idx |>.calLog 2 sc x.qty x.idx x.value x.limit |>.calFail 5

/-- Steps 2 to 4: the measurements end, plausibility is checked, and the apply asks for its vote.  Step limits need a set in
force, and a FULL run may ignore them. -/
def State.calMeasured (x : Measured) (s : State) : State :=
  let sc := s.rd CAL_RUN_STAT.SCOPE
  let ty := s.rd CAL_RUN_STAT.TYPE
  if s.rd CAL_RUN_STAT.STATE ≠ 1 || (ty = 1 && sc < 4 && !s.on CALC.LIGHT) then s
  else
    let m := s.measuredSet ty sc x
    let old := if s.on (CAL_SSTAT_S.INFORCE sc) && !(ty = 1 && s.on CALC.IGN) then some (s.setOf sc) else none
    let s1 := { s with runSet := m }.when (ty = 1 && sc < 4) (fun t =>
      (t.put (OPT_TUNE_STAT.HELD sc) (t.rd (OPT_FREQ.N sc))).put CALC.LIGHT 0) |>.put CAL_RUN_STAT.STATE 2
    match s1.implausible sc m old with
    | some e => s1.calImplausible sc e
    | none => (s1.put CAL_RUN_STAT.STATE 3).request .calApply

def execCalMeasurementComplete (data : List Host.Cell) (temp : Int) (vref : Nat) (lppm : Int) (s : State) : Answer :=
  .next (s.calMeasured ⟨data, temp, vref, lppm⟩)

/-- A monitor result that a run needs did not settle within 100 ms (R329). -/
def execCalMonitorTimeout (s : State) : Answer :=
  .next <| s.when (s.rd CAL_RUN_STAT.STATE = 1 || s.rd CAL_RUN_STAT.STATE = 2) (·.calFail 6)

/-! ## Store (R324, R331, R334) -/

/-- The store's state changes; DEGRADED and UNREADABLE raise its source. -/
def State.storeState (v : Nat) (s : State) : State :=
  (s.put CAL_STORE.STATE v).when (s.rd CAL_STORE.STATE ≠ v && 2 ≤ v) (fun t => (t.put CAL_STORE.ERR_EV 1).raise 66)

/-- A scope holds fewer than two valid copies of A and B. -/
def State.storeThin (s : State) : Bool :=
  (List.range 5).any (fun sc => !(s.on (CAL_SSTAT_S.VALID_A sc) && s.on (CAL_SSTAT_S.VALID_B sc)))

/-- A region write starts: the region is erased first. -/
def State.regionWrite (r : Nat) (s : State) : State :=
  let sc := s.rd CAL_RUN_STAT.SCOPE
  { s with store := s.store.filter (fun c => !(regionBase sc r ≤ c.1 && c.1 < regionBase sc r + 0x2000)) }
    |>.put (validField sc r) 0 |>.put CALC.REGION r |>.put CAL_RUN_STAT.STATE 4
    |>.when (s.rd CAL_STORE.STATE ≠ 3) (·.put CAL_STORE.STATE 1)

/-- The apply starts (step 6). -/
def State.calApplyStart (s : State) : State :=
  let sc := s.rd CAL_RUN_STAT.SCOPE
  let s1 := s.put CAL_RUN_STAT.STATE 5 |>.put CAL_PROG.NEXT 0 |>.put (CAL_SSTAT_S.PARTIAL sc) 1
  if sc < 4 && s1.chSt sc = ChSt.fenced then s1.calPause sc 2
  else if sc < 4 && !s1.boundaryOpen sc then s1.calPause sc 1
  else s1

/-- The calibration-apply commit is approved (step 4). -/
def State.calApproved (s : State) : State :=
  let sc := s.rd CAL_RUN_STAT.SCOPE
  if s.rd CAL_RUN_STAT.STATE ≠ 3 then s
  else if s.on CALC.NOWRITE then (s.put (CAL_SSTAT_S.UNSTORED sc) 0).calApplyStart
  else s.regionWrite (if s.newestAB sc = some 1 then 2 else 1)

/-- One region write has ended.  A failed write leaves the store unreadable; a run goes on to apply, and a REWRITE writes
its second copy and ends. -/
def State.storeWritten (ok : Bool) (s : State) : State :=
  let sc := s.rd CAL_RUN_STAT.SCOPE
  let r := s.rd CALC.REGION
  let rewrite := s.rd CAL_RUN_STAT.TYPE = 4
  if s.rd CAL_RUN_STAT.STATE ≠ 4 then s
  else
    let m := memPut 0x1FFC 4 (crc32c (memBytes s.runSet 0 0x1FFC)) s.runSet
    let s1 := s.bump CAL_STORE.WRITES
    if ok then
      let s2 := { s1 with store := memCopy m 0 (regionBase sc r) 0x2000 s1.store }.put (validField sc r) 1
        |>.put (CAL_SSTAT_S.UNSTORED sc) 0
      if rewrite && !s2.on CALC.PASS then (s2.put CALC.PASS 1).regionWrite (3 - r)
      else
        let s3 := s2.when (rewrite || s2.rd CAL_STORE.STATE ≠ 3) (fun t => t.storeState (if t.storeThin then 2 else 0))
        if rewrite then
          (s3.put CAL_RUN_STAT.STATE 7 |>.put CAL_RUN_STAT.DONE_EV 1 |>.put (CAL_SSTAT_S.SRC sc) r |>.raise 64).calRelease
        else s3.calApplyStart
    else
      let s2 := (s1.calLog 4 sc 0 r 0 0).storeState 3
      if rewrite then s2.calFail 0xA else (s2.put (CAL_SSTAT_S.UNSTORED sc) 1).calApplyStart

def execCalStoreWriteComplete (ok : Bool) (s : State) : Answer := .next (s.storeWritten ok)

/-! ## Apply (R332) -/

/-- While the channel is DARK or TUNING, the next element takes effect; the last completes the run. -/
def execCalApplyElement (s : State) : Answer :=
  let sc := s.rd CAL_RUN_STAT.SCOPE
  .next <| s.when (s.rd CAL_RUN_STAT.STATE = 5 && sc < 4 && s.actsAtOnce sc) (fun t => t.calElementNow.calCheckEnd.calRelease)

/-- A transmit multiframe boundary of channel n: a resize's pause ends, and in service the next PERMF elements are
committed. -/
def State.calCommit (n : Nat) (s : State) : State :=
  let s1 := s.when (s.calApplying n && s.rd CAL_RUN_STAT.PAUSE = 1 && s.boundaryOpen n) (fun t =>
    (t.put CAL_RUN_STAT.STATE 5).put CAL_RUN_STAT.PAUSE 0)
  s1.when (s1.rd CAL_RUN_STAT.STATE = 5 && s1.rd CAL_RUN_STAT.SCOPE = n && !s1.actsAtOnce n)
    (fun t => (t.times (t.rd CAL_CTRL.PERMF) State.calElementCommit).calCheckEnd.calRelease)

/-- The end of a monitor's conversion period (scope 4: the module's): its element takes effect. -/
def State.calMonitorPeriod (sc : Nat) (s : State) : State :=
  let s1 := s.when (sc = 4 && s.rd CAL_RUN_STAT.STATE = 5 && s.rd CAL_RUN_STAT.SCOPE = 4) State.calElementNow
  ((if sc = 4 then s1.calCheckEnd else s1.calBoundary sc (fun e => e = 549))).calRelease

/-! ## Policy (R338) -/

/-- A scope has started no triggered run within the last hour. -/
def State.hourPassed (s : State) (sc : Nat) : Bool :=
  s.rd (CALC.LAST sc) = 0 || 3600 ≤ s.rd KEY_RTC.SEC + 1 - s.rd (CALC.LAST sc)

/-- A time or temperature trigger asks for a TRACK run. -/
def State.trigger (sc : Nat) (s : State) : State := s.when (s.hourPassed sc) (·.putBit CALC.WAIT_TRACK sc true)

/-- The set in force of a scope is older than TRACK_PER hours. -/
def execCalPolicyAgeTrigger (sc : Fin 5) (s : State) : Answer :=
  .next <| s.when (s.operating && s.rd CAL_POLICY.TRACK_PER ≠ 0 && s.on (CAL_SSTAT_S.INFORCE sc)
      && s.rd CAL_POLICY.TRACK_PER * 3600 < s.rd KEY_RTC.SEC - s.rd (CAL_TIME_S.RTC sc)) (·.trigger sc)

/-- Every 1 s, ENG_TEMP (0.01 °C) is compared with the TEMP of the channel's set. -/
def execCalPolicyTemperatureCheck (n : Fin 4) (engTemp : Int) (s : State) : Answer :=
  .next <| s.when (s.operating && s.rd CAL_POLICY.TRACK_DT ≠ 0 && s.on (CAL_SSTAT_S.INFORCE n)
      && 50 * s.rd CAL_POLICY.TRACK_DT < (engTemp - 50 * s.rdS (CAL_SSTAT_S.TEMP n)).natAbs) (·.trigger n)

/-- A triggered run that waited starts, when its scope meets R328: BOOT_FULL runs first, from channel 0, then TRACK. -/
def State.triggeredStart (sc : Nat) (s : State) : State :=
  if s.calBusy then s
  else if sc < 4 && s.rdBit CALC.WAIT_FULL sc && s.calRefusal 1 sc 0 = 0 then
    (s.putBit CALC.WAIT_FULL sc false).calBegin 1 sc 0 false
  else if s.rdBit CALC.WAIT_TRACK sc && s.on (CAL_SSTAT_S.INFORCE sc) && s.calRefusal 2 sc 0 = 0 then
    (s.putBit CALC.WAIT_TRACK sc false |>.put (CALC.LAST sc) (s.rd KEY_RTC.SEC + 1)).calBegin 2 sc 0 false
  else s

def execCalTriggeredRunStart (sc : Fin 5) (s : State) : Answer := .next (s.triggeredStart sc)

end Sys2Proof.Machine
end

