-- ==== Sys2Proof/Machine/Code.lean ====
section
/-! DEFINITION. The code family BLP15 and BLP25: geometry, bit orders, checks and encoder of chapter 8 of spec/ (R179 to R185).
A codeword is a list of dimensions: number σ holds sign position σ and the amplitude bits after it, m / 2 bits in all, so
that coded bit e lies in dimension e / (m / 2). -/

namespace Sys2Proof.Machine

/-- Geometry of a profile's codewords (R179): 7,000 labels. -/
def Profile.geo (p : Profile) : Geo :=
  ⟨7000, p.m, 70 * parity100 p.code p.m, p.matcherBits, p.code, p.composition, p.rs, p.roll⟩

/-- Sign positions of a codeword, which are its dimensions. -/
def Geo.dims (g : Geo) : Nat := 2 * g.labels

/-- The code is CFEC or oFEC, whose blocks the standards define (R200). -/
def Geo.standard (g : Geo) : Bool := 2 ≤ g.code

/-- N, the coded bits. -/
def Geo.coded (g : Geo) : Nat := if g.standard then Config.blockCoded g.code else g.labels * g.m

/-- K, the information bits. -/
def Geo.info (g : Geo) : Nat := if g.standard then Config.blockData g.code else g.labels * g.m - g.p

/-- The matcher runs. -/
def Geo.shaped (g : Geo) : Bool := !g.standard && !g.counts.isEmpty

/-- Matcher blocks of a codeword. -/
def Geo.blocks (g : Geo) : Nat := g.dims / g.counts.sum

/-- D, the data bits (R182). -/
def Geo.data (g : Geo) : Nat := if g.shaped then g.blocks * g.k + g.dims - g.p else g.info

/-- Bits that a codeword takes on link 0x05 (R182). -/
def Geo.sent (g : Geo) : Nat := if g.shaped then g.blocks * g.k + g.dims else g.coded

/-- Parity bit that sign position σ carries (R181). -/
def Geo.parityAt (g : Geo) (s : Nat) : Option Nat :=
  if s * g.p / g.dims < (s + 1) * g.p / g.dims then some (s * g.p / g.dims) else none

/-- What each sign position carries, in order. -/
def Geo.signs (g : Geo) : List (Option Nat) := (List.range g.dims).map g.parityAt

/-! ## Weaving bits into a codeword (R181, R182) -/

/-- A codeword from what its dimensions carry, what stands for its information bits in ascending e, and what stands for its
parity bits, d where there is none; a dimension has h bits. -/
def weave {α : Type} (d : α) (h : Nat) (parity : List α) : List (Option Nat) → List α → List α
  | [], _ => []
  | some c :: l, info => parity.getD c d :: (info.take (h - 1) ++ weave d h parity l (info.drop (h - 1)))
  | none :: l, info => info.take h ++ weave d h parity l (info.drop h)

/-- Elements of a codeword, in ascending e, that are no parity. -/
def unweave {α : Type} (h : Nat) : List (Option Nat) → List α → List α
  | [], _ => []
  | some _ :: l, x => (x.take h).drop 1 ++ unweave h l (x.drop h)
  | none :: l, x => x.take h ++ unweave h l (x.drop h)

/-- Elements of a codeword that are its parity, in ascending c. -/
def parityPlaces {α : Type} (h : Nat) : List (Option Nat) → List α → List α
  | [], _ => []
  | some _ :: l, x => x.take 1 ++ parityPlaces h l (x.drop h)
  | none :: l, x => parityPlaces h l (x.drop h)

/-- Information bits of a shaped codeword: the amplitude bits of each dimension after the data sign it carries, if any. -/
def infoOfAmps (m : Nat) : List (Option Nat) → List Nat → List Bool → List Bool
  | some _ :: l, a :: as, signs => ampBits m a ++ infoOfAmps m l as signs
  | none :: l, a :: as, signs => signs.headD false :: (ampBits m a ++ infoOfAmps m l as signs.tail)
  | _, _, _ => []

/-- Amplitudes of a shaped codeword, from its matcher bits. -/
def Geo.amps (g : Geo) (bits : List Bool) : List Nat :=
  (pieces g.k g.blocks bits).flatMap (fun b => matched g.counts (ofMsb b))

/-- Information bits of the codeword that carries D data bits in the order of links 0x04 and 0x12 (R182). -/
def Geo.infoOf (g : Geo) (d : List Bool) : List Bool :=
  if g.shaped then infoOfAmps g.m g.signs (g.amps d) (d.drop (g.blocks * g.k)) else d

/-- Sign bit of each dimension, in ascending σ. -/
def Geo.signBits (g : Geo) (x : List Bool) : List Bool :=
  (pieces (g.m / 2) g.dims x).map (fun p => p.headD false)

/-! ## Checks (R183, Table 8.2) -/

/-- Constants g_j and a_j of a code. -/
def couple (code j : Nat) : Nat × Nat :=
  match code, j with
  | 0, 0 => (11, 0)
  | 0, 1 => (17, 211)
  | 0, 2 => (19, 433)
  | 0, 3 => (23, 877)
  | 0, _ => (29, 1753)
  | _, 0 => (31, 0)
  | _, 1 => (37, 307)
  | _, 2 => (41, 619)
  | _, 3 => (43, 1249)
  | _, _ => (47, 2503)

/-- h_j(i) for a checking codeword of geometry g. -/
def Geo.check (g : Geo) (j i : Nat) : Nat := ((couple g.code j).1 * (i % g.p) + (couple g.code j).2 * (i / g.p)) % g.p

/-- Numbers of the information bits, of K in codeword t − j, that check c of codeword t takes. -/
def Geo.taken (g : Geo) (c j k : Nat) : List Nat := (List.range k).filter (fun i => g.check j i = c)

/-- XOR of the information bits that check c takes; `past` holds the information bits of codewords t, t − 1, … t − 4. -/
def Geo.infoSum (g : Geo) (past : List (List Bool)) (c : Nat) : Bool :=
  (past.take 5).zipIdx.foldl (fun s q => (g.taken c q.2 q.1.length).foldl (fun r i => r != q.1.getD i false) s) false

/-- Running XOR. -/
def runXor : Bool → List Bool → List Bool
  | _, [] => []
  | a, b :: l => (a != b) :: runXor (a != b) l

/-- Parity of codeword t (R183). -/
def Geo.parity (g : Geo) (past : List (List Bool)) : List Bool := runXor false ((List.range g.p).map (g.infoSum past))

/-- Check c of codeword t is satisfied: `parity` holds the codeword's parity bits. -/
def Geo.satisfied (g : Geo) (past : List (List Bool)) (parity : List Bool) (c : Nat) : Bool :=
  (parity.getD c false != (0 < c && parity.getD (c - 1) false)) == g.infoSum past c

/-! ## Encoder -/

/-- A codeword of D data bits after those with the information bits `past`: its information bits, and its coded bits. -/
def Geo.encode (g : Geo) (past : List (List Bool)) (d : List Bool) : List Bool × List Bool :=
  let info := g.infoOf d
  if g.standard then (info, Config.blockEncode g.code d) else
  (info, weave false (g.m / 2) (g.parity (info :: past)) g.signs info)

/-- Bits of a codeword on link 0x05 (R182): matcher bits and all sign bits, or all coded bits. -/
def Geo.toLink5 (g : Geo) (d coded : List Bool) : List Bool :=
  if g.shaped then d.take (g.blocks * g.k) ++ g.signBits coded else coded

/-- Coded bits of the codeword that link 0x05 spells, which the transmit DSP forms with its own matcher (R156). -/
def Geo.ofLink5 (g : Geo) (x : List Bool) : List Bool :=
  if g.shaped then
    (List.zipWith (fun s a => s :: ampBits g.m a) (x.drop (g.blocks * g.k)) (g.amps x)).flatten
  else x

/-! ## Dematching (R190) -/

/-- Data bits of a decoded codeword in the order of link 0x12, and how many of its blocks fail dematching; a failed block
delivers zeros. -/
def Geo.dataOf (g : Geo) (coded : List Bool) : List Bool × Nat :=
  if g.shaped then
    let h := g.m / 2
    let ds := pieces h g.dims coded
    let us := (pieces g.counts.sum g.blocks ds).map (fun b => unmatched g.counts g.k (b.map (fun x => ampOf x.tail)))
    (us.flatMap (fun u => msbBits g.k (u.getD 0))
        ++ (List.zip ds g.signs).flatMap (fun x => if x.2.isNone then x.1.take 1 else []),
      us.countP (·.isNone))
  else (unweave (g.m / 2) g.signs coded, 0)

end Sys2Proof.Machine
end

