-- ==== Sys2Proof/Machine/Decoder.lean ====
section
/-! DEFINITION. The decoder's layered offset-min-sum pass and its hard decisions: chapter 8 of spec/ (R183 to R190, R200). -/

namespace Sys2Proof.Machine

/-- An LLR's hard decision: 1 where it is negative (R138). -/
def hard (x : Int) : Bool := decide (x < 0)

/-- How a codeword's bits appear to a check (R186): posterior LLRs, decisions fixed as known, or erased. -/
inductive Seen where
  | resident (post : List Int)
  | known (info : List Bool)
  | erased (k : Nat)
  deriving DecidableEq, Repr

/-- Information bits of a resident codeword, from what it holds for its coded bits. -/
def Geo.infoPart {α : Type} (g : Geo) (x : List α) : List α := unweave (g.m / 2) g.signs x

/-- Parity bits of a codeword, from what it holds for its coded bits. -/
def Geo.parityPart {α : Type} (g : Geo) (x : List α) : List α := parityPlaces (g.m / 2) g.signs x

/-! ## Satisfied checks (R189, R190) -/

/-- Hard decisions of the information bits of a codeword: an erased bit counts as 0 (log entry 39). -/
def Seen.decided (g : Geo) : Seen → List Bool
  | .resident post => (g.infoPart post).map hard
  | .known info => info
  | .erased k => List.replicate k false

/-! ## One pass (R186) -/

/-- An edge of a check: a bit of codeword t − j, by its number among the information bits, or a parity bit of codeword t. -/
inductive Edge where
  | info (j i : Nat)
  | par (c : Nat)
  deriving DecidableEq, Repr

/-- Edges of check c of a codeword of geometry g; `ks` holds the information bits of codewords t, t − 1, … t − 4. -/
def Geo.edges (g : Geo) (ks : List Nat) (c : Nat) : List Edge :=
  .par c :: (if 0 < c then [.par (c - 1)] else [])
    ++ (ks.take 5).zipIdx.flatMap (fun q => (g.taken c q.2 q.1).map (fun i => Edge.info q.2 i))

/-- Posteriors during a pass: parity bits of codeword t, and the information bits of codewords t, t − 1, … t − 4, with
whether each may change. -/
structure PassState where
  par : List Int
  infos : List (Bool × List Int)

/-- An LLR that stands for a known bit: no other magnitude in the window reaches it. -/
def knownLlr (b : Bool) : Int := if b then -(2 ^ 30) else 2 ^ 30

def PassState.get (p : PassState) : Edge → Int
  | .info j i => ((p.infos.getD j (false, [])).2).getD i 0
  | .par c => p.par.getD c 0

def PassState.put (p : PassState) (e : Edge) (v : Int) : PassState :=
  match e with
  | .info j i => { p with infos := p.infos.mapIdx (fun k x => if k = j && x.1 then (x.1, x.2.set i v) else x) }
  | .par c => { p with par := p.par.set c v }

/-- The message of a check to one of its bits, from the other bits' extrinsic values. -/
def minSum (others : List Int) : Int :=
  let mag := (others.map Int.natAbs).foldl Nat.min (2 ^ 30)
  let mag := mag - Config.minSumOffset
  if others.countP (fun x => decide (x < 0)) % 2 = 1 then -(mag : Int) else mag

/-- One check: `old` holds what it sent before; the answer holds what it sends now. -/
def checkStep (es : List Edge) (old : List Int) (p : PassState) : List Int × PassState :=
  let ext := es.mapIdx (fun k e => p.get e - old.getD k 0)
  let new := ext.mapIdx (fun k _ => minSum (ext.eraseIdx k))
  (new, (es.zip (ext.zip new)).foldl (fun q x => q.put x.1 (x.2.1 + x.2.2)) p)

/-- All checks of a codeword in ascending c. -/
def Geo.pass (g : Geo) (ks : List Nat) (old : List (List Int)) : List Nat → PassState → List (List Int) × PassState
  | [], p => ([], p)
  | c :: l, p =>
    let r := checkStep (g.edges ks c) (old.getD c []) p
    let q := g.pass ks old l r.2
    (r.1 :: q.1, q.2)

/-- Values of the information bits for the checks of a later codeword. -/
def Seen.llrs (g : Geo) : Seen → List Int
  | .resident post => g.infoPart post
  | .known info => info.map knownLlr
  | .erased k => List.replicate k 0

/-- Information bits that a codeword contributes to checks. -/
def Seen.count (g : Geo) : Seen → Nat
  | .resident _ => g.info
  | .known info => info.length
  | .erased k => k

end Sys2Proof.Machine
end

