-- ==== Sys2Proof/Machine/Demapper.lean ====
section
/-! DEFINITION. Complex arithmetic of the sample paths, and the demapper: chapter 6 of spec/ (R138, R139).  Logarithms and LLRs
are in 2^-16. -/

namespace Sys2Proof.Machine

/-- One, in the fixed point of a complex number. -/
def cpxOne : Int := 2 ^ 20

def Cpx.add (a b : Cpx) : Cpx := ⟨a.re + b.re, a.im + b.im⟩

def Cpx.sub (a b : Cpx) : Cpx := ⟨a.re - b.re, a.im - b.im⟩

def Cpx.conj (a : Cpx) : Cpx := ⟨a.re, -a.im⟩

def Cpx.mul (a b : Cpx) : Cpx :=
  ⟨roundQ (a.re * b.re - a.im * b.im) (2 ^ 20), roundQ (a.re * b.im + a.im * b.re) (2 ^ 20)⟩

/-- |a|², in 2^-40. -/
def Cpx.norm (a : Cpx) : Nat := (a.re * a.re + a.im * a.im).toNat

def Cpx.sum (l : List Cpx) : Cpx := l.foldl Cpx.add ⟨0, 0⟩

/-- k quarter turns. -/
def Cpx.turn (k : Nat) (a : Cpx) : Cpx :=
  match k % 4 with
  | 0 => a
  | 1 => ⟨-a.im, a.re⟩
  | 2 => ⟨-a.re, -a.im⟩
  | _ => ⟨a.im, -a.re⟩

/-- The phasor of an angle in 2^-32 of a turn. -/
def phasor (a : Int) : Cpx := ⟨Config.phasorRe a, Config.phasorIm a⟩

/-- Largest integer whose square does not exceed v. -/
def isqrt (v : Nat) : Nat :=
  (List.range 128).foldl (fun r i => if (r + 2 ^ (127 - i)) * (r + 2 ^ (127 - i)) ≤ v then r + 2 ^ (127 - i) else r) 0

/-- Amplitude 1 of the active constellation, so that data symbols have a mean energy of 1 (R163). -/
def unitOf (m : Nat) (counts : List Nat) : Int := isqrt (2 ^ 40 * 1000 / energy1000 m counts)

/-- The constellation point of two signed amplitudes. -/
def pointOf (u : Int) (p : Int × Int) : Cpx := ⟨p.1 * u, p.2 * u⟩

/-- The pilot of two signs (R164). -/
def pilotPoint (p : Int × Int) : Cpx := pointOf (isqrt (2 ^ 39)) p

/-- num / den to the nearest integer; a tie goes either way (log entry 2). -/
def nearest (num : Int) (den : Nat) : Int :=
  let r := num % den
  if 2 * r < den then num / den else if (den : Int) < 2 * r then num / den + 1
  else num / den + (if Config.roundUp num den then 1 else 0)

/-! ## LLRs (R138) -/

/-- Labels of m bits. -/
def labelsOf (m : Nat) : List (List Bool) := (List.range (2 ^ m)).map (msbBits m)

/-- ln P(s) of a label, but for a constant: the counts of its amplitudes; uniform without a matcher. -/
def lnPrior (m : Nat) (counts : List Nat) (l : List Bool) : Int :=
  if counts.isEmpty then 0
  else Config.lnCount (counts.getD (ampOf ((l.take (m / 2)).tail)) 0) + Config.lnCount (counts.getD (ampOf ((l.drop (m / 2)).tail)) 0)

/-- ln (P(s) e^(−|y − s|² / σ²)) of a label: `noise` is σ² in 2^-40. -/
def pointMetric (m : Nat) (counts : List Nat) (noise : Nat) (y : Cpx) (l : List Bool) : Int :=
  lnPrior m counts l - roundQ (2 ^ 16 * (y.sub (pointOf (unitOf m counts) (labelPoint m l))).norm : Nat) noise

/-- The max-log form of ln (e^a + e^b), with the 8-entry correction table. -/
def maxLog (a b : Int) : Int :=
  let i := (a - b).natAbs / (Config.corrStep + 1)
  (if a < b then b else a) + (if i < 8 then Config.corrEntry i else 0)

/-- The log-sum of a list of metrics; the labels are taken in ascending order (log entry 39). -/
def logSum : List Int → Int
  | [] => 0
  | a :: l => l.foldl maxLog a

/-- λ of each bit of a label (R138), before quantisation. -/
def softLlrs (m : Nat) (counts : List Nat) (noise : Nat) (y : Cpx) : List Int :=
  let pts := (labelsOf m).map (fun l => (l, pointMetric m counts noise y l))
  (List.range m).map (fun i =>
    logSum ((pts.filter (fun p => !p.1.getD i false)).map (·.2)) - logSum ((pts.filter (fun p => p.1.getD i false)).map (·.2)))

/-- The 6-bit value delivered: the nearest integer to 2 λ, limited to −31 to +31. -/
def quantise (soft : Int) : Int := max (-31) (min 31 (nearest (2 * soft) (2 ^ 16)))

/-- LLRs of one label, quantised and before quantisation; all are 0 where the symbol is erased. -/
def demap (m : Nat) (counts : List Nat) (noise : Nat) (ok : Bool) (y : Cpx) : List (Int × Int) :=
  if ok then (softLlrs m counts noise y).map (fun s => (quantise s, s)) else List.replicate m (0, 0)

/-- The nearest constellation point. -/
def decide2 (m : Nat) (counts : List Nat) (y : Cpx) : Cpx :=
  let pts := (labelsOf m).map (fun l => pointOf (unitOf m counts) (labelPoint m l))
  pts.foldl (fun b p => if (y.sub p).norm < (y.sub b).norm then p else b) (pts.headD ⟨0, 0⟩)

end Sys2Proof.Machine
end

