-- ==== Sys2Proof/Machine/RxPath.lean ====
section
/-! DEFINITION. The receive sample path: the stages of Table 6.1 in their order, chapter 6 of spec/ (R126 to R139). -/

namespace Sys2Proof.Machine

/-- A sample or symbol of both polarisations, and whether no failed tile output went into it (R142). -/
structure Smp where
  x : Cpx
  y : Cpx
  ok : Bool
  deriving DecidableEq, Repr

/-- What the stages take from the registers, the profile and the tiles. -/
structure RxCfg where
  /-- ADC delays in 0.1 ps (Table 14.1) -/
  delays : List Int
  /-- converter rate, and the symbol rate, in 0.01 GS/s and 0.01 GBd -/
  adcRate : Nat
  rs : Nat
  /-- clock offset in 0.01 ppm -/
  ppm : Int
  /-- dispersion target in ps/nm -/
  target : Int
  /-- active tiles of each stage -/
  cdTiles : List Nat
  mimoTiles : List Nat
  nlcTiles : List Nat
  /-- spreading code under chip lock, while cancellation is active -/
  cancel : Option (List Bool)
  /-- carrier offset in MHz -/
  fofs : Int
  /-- μ = 2^-MU -/
  mu : Nat
  /-- α in 2^-20, and whether it adapts -/
  alpha : Int
  adapt : Bool
  m : Nat
  counts : List Nat

/-! ## Stage 1: front end (R126, R127) -/

/-- DC removed. -/
def dcFree (l : List Int) : List Int := l.map (· - roundQ l.sum l.length)

/-- Q made orthogonal to I and equal in power. -/
def orthogonal (i q : List Int) : List Int :=
  let ii := (i.map (fun a => a * a)).sum.toNat
  let iq := (List.zipWith (· * ·) i q).sum
  let q1 := List.zipWith (fun a b => b - roundQ (iq * a) ii) i q
  let qq := (q1.map (fun a => a * a)).sum.toNat
  q1.map (fun a => roundQ (a * isqrt (2 ^ 40 * ii / qq)) (2 ^ 20))

/-- 9/8 of the symbol rate, with the clock offset, in kHz. -/
def RxCfg.sampleRate (c : RxCfg) : Nat := (9 * c.rs * 10 ^ 4 * ((10 ^ 8 + c.ppm).toNat)) / (8 * 10 ^ 8)

/-- Codes of the four ADCs, XI, XQ, YI, YQ, of 10 bits (Table 5.2), to samples at 9/8 a symbol; full scale is 1. -/
def frontEnd (c : RxCfg) (adc : List (List Int)) : List Smp :=
  let lane (a : Nat) : List Int := dcFree ((Config.delayed (c.delays.getD a 0) c.adcRate (adc.getD a [])).map (· * 2 ^ 11))
  let r (l : List Int) : List Int := Config.resampled (c.adcRate * 10 ^ 4) c.sampleRate l
  let xq := orthogonal (lane 0) (lane 1)
  let yq := orthogonal (lane 2) (lane 3)
  List.zipWith (fun a b => ⟨⟨a.1, a.2⟩, ⟨b.1, b.2⟩, true⟩) (List.zip (r (lane 0)) (r xq)) (List.zip (r (lane 2)) (r yq))

/-! ## Stage 2: dispersion (R128) -/

/-- Dispersive memory of a target in symbols: N_CD of Table 3.4, for ps/nm and 0.01 GBd. -/
def memoryOf (rs : Nat) (target : Int) : Nat := ceilDiv (801 * target.natAbs * (rs * rs)) (10 ^ 12)

/-- Overlap of the overlap-save filter in samples: the memory times 9/8 and the guard of 1.1, to the next whole sample. -/
def overlapOf (mem : Nat) : Nat := ceilDiv (99 * mem) 80

/-- The first of the powers of two from p on that reaches v, k of them tried. -/
def powerFrom : Nat → Nat → Nat → Nat
  | 0, p, _ => p
  | k + 1, p, v => if v ≤ p then p else powerFrom k (2 * p) v

/-- FFT length: the smallest power of two at least four times the overlap, and at least 1,024. -/
def fftOf (overlap : Nat) : Nat := powerFrom 64 1024 (4 * overlap)

/-- Overlap-save blocks: each has the overlap before the samples it delivers. -/
def savedBlocks {α : Type} (overlap step : Nat) : Nat → List α → List (List α)
  | 0, _ => []
  | k + 1, l => l.take (overlap + step) :: savedBlocks overlap step k (l.drop step)

/-- The tile that block b of a stage falls to, round-robin over its active tiles. -/
def tileOf (tiles : List Nat) (b : Nat) : Option Nat := if tiles.isEmpty then none else tiles[b % tiles.length]?

/-- A block whose tile's output is discarded (R142). -/
def discarded (bad tiles : List Nat) (b : Nat) : Bool := (tileOf tiles b).any bad.contains

def cdStage (c : RxCfg) (bad : List Nat) (l : List Smp) : List Smp :=
  let overlap := overlapOf (memoryOf c.rs c.target)
  let step := fftOf overlap - overlap
  (savedBlocks overlap step (ceilDiv (l.length - overlap) step) l).zipIdx.flatMap (fun b =>
    let f (g : Smp → Cpx) : List (Int × Int) := Config.cdBlock c.target c.rs (fftOf overlap) (b.1.map (fun s => ((g s).re, (g s).im)))
    List.zipWith (fun a d => ⟨⟨a.1, a.2⟩, ⟨d.1, d.2⟩, !discarded bad c.cdTiles b.2⟩) (f Smp.x) (f Smp.y))

/-! ## Stage 3: cancellation of the supervisory signal (R132) -/

/-- Chip of the code at sample i: 24 Mchip/s. -/
def spreadSign (c : RxCfg) (code : List Bool) (i : Nat) : Int :=
  if code.getD (i * 24000 / c.sampleRate % 1023) false then -1 else 1

/-- A polarisation less its correlation with the code, chip by chip. -/
def cancelOne (c : RxCfg) (code : List Bool) (l : List Cpx) : List Cpx :=
  let z := l.zipIdx.map (fun p => (⟨p.1.re * spreadSign c code p.2, p.1.im * spreadSign c code p.2⟩ : Cpx))
  let s := Cpx.sum z
  let a : Cpx := ⟨roundQ s.re l.length, roundQ s.im l.length⟩
  l.zipIdx.map (fun p => p.1.sub ⟨a.re * spreadSign c code p.2, a.im * spreadSign c code p.2⟩)

def iscStage (c : RxCfg) (l : List Smp) : List Smp :=
  match c.cancel with
  | none => l
  | some code =>
    List.zipWith (fun s p => { s with x := p.1, y := p.2 }) l
      (List.zip (cancelOne c code (l.map (·.x))) (cancelOne c code (l.map (·.y))))

/-! ## Stage 5: MIMO equaliser (R134, R135).  Stage 4 steers the resampler of stage 1 by its clock offset. -/

/-- Samples that symbol k draws on: 65 from the sample at 9 k / 8. -/
def tapWindow (l : List Smp) (k : Nat) : List Smp := (l.drop (9 * k / 8)).take 65

/-- A filter's output. -/
def fir (w : List Cpx) (x : List Cpx) : Cpx := Cpx.sum (List.zipWith Cpx.mul w x)

/-- Outputs of the butterfly at symbol k, swapped and turned as pilot synchronisation left it. -/
def butterfly (d : RxDsp) (l : List Smp) (k : Nat) : Smp :=
  let w := tapWindow l k
  let x := w.map (·.x)
  let y := w.map (·.y)
  let f (i : Nat) : List Cpx := d.taps.getD i []
  let a := (fir (f 0) x).add (fir (f 1) y)
  let b := (fir (f 2) x).add (fir (f 3) y)
  let p := if d.swap then (b, a) else (a, b)
  ⟨p.1.turn d.turnX, p.2.turn d.turnY, w.all (·.ok)⟩

def mimoStage (c : RxCfg) (d : RxDsp) (l : List Smp) : List Smp :=
  (List.range (8 * (l.length - 64) / 9)).map (fun k =>
    let s := butterfly d l k
    { s with ok := s.ok && !discarded d.bad c.mimoTiles (k / 64) })

/-! ## Stage 6: carrier recovery (R136) -/

/-- Frequency offset removed. -/
def derotate (c : RxCfg) (l : List Smp) : List Smp :=
  l.zipIdx.map (fun p =>
    let r := phasor (-(2 ^ 32 * c.fofs * p.2 / (10 * c.rs)))
    { p.1 with x := p.1.x.mul r, y := p.1.y.mul r })

/-- k pilots of a polarisation from a register on. -/
def pilotsFrom : Nat → Nat → List Cpx
  | 0, _ => []
  | k + 1, r => pilotPoint (pilotOf r).1 :: pilotsFrom k (pilotOf r).2

/-- The register after k pilots. -/
def pilotAfter : Nat → Nat → Nat
  | 0, r => r
  | k + 1, r => pilotAfter k (pilotOf r).2

/-- Angle in 2^-32 of a turn, of least magnitude. -/
def wrapAngle (a : Int) : Int := (a + 2 ^ 31) % 2 ^ 32 - 2 ^ 31

/-- Phase at each pilot: the products y p* averaged over the 15 pilots centred on it. -/
def pilotPhases (prods : List Cpx) : List Int :=
  (List.range prods.length).map (fun g =>
    let s := Cpx.sum ((prods.drop (g - 7)).take (if g < 7 then g + 8 else 15))
    Config.angle s.re s.im)

/-- Linear interpolation between pilots, at symbol k after the first. -/
def phaseAt (ph : List Int) (k : Nat) : Int :=
  let a := ph.getD (k / 64) 0
  a + wrapAngle (ph.getD (k / 64 + 1) a - a) * (k % 64 : Nat) / 64

/-- The test phase that leaves a block of 64 symbols nearest to its decisions. -/
def searchPhase (m : Nat) (counts : List Nat) (block : List Cpx) : Int :=
  let cost (i : Nat) : Nat := (block.map (fun y =>
    let z := y.mul (phasor (-(Config.testPhase i)))
    (z.sub (decide2 m counts z)).norm)).sum
  Config.testPhase ((List.range 16).foldl (fun b i => if cost i < cost b then i else b) 0)

/-- Phase of every symbol of a polarisation: pilots, interpolation and search over blocks of 64. -/
def symbolPhases (m : Nat) (counts : List Nat) (pilots : List Cpx) (l : List Cpx) : List Int :=
  let prods := pilots.mapIdx (fun g p => (l.getD (64 * g) ⟨0, 0⟩).mul p.conj)
  let ph := pilotPhases prods
  let first := l.mapIdx (fun k _ => phaseAt ph k)
  (pieces 64 (ceilDiv l.length 64) (List.zip l first)).flatMap (fun b =>
    let t := searchPhase m counts (b.map (fun p => p.1.mul (phasor (-p.2))))
    b.map (fun p => p.2 + t))

/-- A symbol after decision feedback and carrier recovery, with its decision: the known pilot, or the nearest point. -/
structure Sym where
  y : Cpx
  d : Cpx
  /-- the decision with the recovered phase restored, less the symbol before that phase was removed -/
  err : Cpx

/-- A symbol of both polarisations: whether no failed tile output went into it, and the decisions fed back to it. -/
structure SymPair where
  x : Sym
  y : Sym
  ok : Bool
  dec : List (Cpx × Cpx)

/-- Decision feedback of one polarisation's path pair from the last four decisions of both, newest first. -/
def feedback (own cross : List Cpx) (dec : List (Cpx × Cpx)) : Cpx :=
  (fir own (dec.map (·.1))).add (fir cross (dec.map (·.2)))

/-- Symbols in order: feedback, phase, decision; `pil` holds the pilot where symbol k is one. -/
def decideAll (c : RxCfg) (d : RxDsp) (pil : Nat → Option (Cpx × Cpx)) :
    Nat → List (Smp × Int × Int) → List (Cpx × Cpx) → List SymPair
  | _, [], _ => []
  | k, (s, a, b) :: l, dec =>
    let fb (i : Nat) : List Cpx := d.fb.getD i []
    let zx := s.x.add (feedback (fb 0) (fb 1) dec)
    let zy := s.y.add (feedback (fb 3) (fb 2) (dec.map (fun p => (p.2, p.1))) )
    let yx := zx.mul (phasor (-a))
    let yy := zy.mul (phasor (-b))
    let dx := ((pil k).map (·.1)).getD (decide2 c.m c.counts yx)
    let dy := ((pil k).map (·.2)).getD (decide2 c.m c.counts yy)
    let bx := dx.mul (phasor a)
    let by' := dy.mul (phasor b)
    ⟨⟨yx, dx, bx.sub zx⟩, ⟨yy, dy, by'.sub zy⟩, s.ok, dec⟩ :: decideAll c d pil (k + 1) l (((bx, by') :: dec).take 4)

/-! ## Stage 7: nonlinearity (R137) -/

/-- Σ C(m,n) (x_{k+m} x_{k+n} x*_{k+m+n} + y_{k+m} x_{k+n} y*_{k+m+n}), over decisions. -/
def tripletSum (nlc : List (Int × Int × Cpx)) (x y : Int → Cpx) (k : Int) : Cpx :=
  Cpx.sum (nlc.map (fun t =>
    let m := t.1
    let n := t.2.1
    t.2.2.mul ((((x (k + m)).mul (x (k + n))).mul (x (k + m + n)).conj).add
      (((y (k + m)).mul (x (k + n))).mul (y (k + m + n)).conj))))

/-- j α times a sum. -/
def perturbation (alpha : Int) (s : Cpx) : Cpx := ⟨-(roundQ (alpha * s.im) (2 ^ 20)), roundQ (alpha * s.re) (2 ^ 20)⟩

/-- An element of a list at an integer index; 0 outside it. -/
def cpxAt (l : List Cpx) (k : Int) : Cpx := if k < 0 then ⟨0, 0⟩ else l.getD k.toNat ⟨0, 0⟩

/-- Symbols less their perturbation; a discarded tile's terms are omitted (R142). -/
def nlcStage (c : RxCfg) (d : RxDsp) (l : List SymPair) : List Smp :=
  let dx := l.map (fun s => s.x.d)
  let dy := l.map (fun s => s.y.d)
  l.mapIdx (fun k s =>
    if d.nlc.isEmpty || discarded d.bad c.nlcTiles (k / 64) then ⟨s.x.y, s.y.y, s.ok⟩
    else ⟨s.x.y.sub (perturbation c.alpha (tripletSum d.nlc (cpxAt dx) (cpxAt dy) k)),
      s.y.y.sub (perturbation c.alpha (tripletSum d.nlc (cpxAt dy) (cpxAt dx) k)), s.ok⟩)

/-! ## Adaptation (R134, R137, R138) -/

/-- One LMS step of a filter: w + μ e x*. -/
def lms (mu : Nat) (w : List Cpx) (updates : List (Cpx × List Cpx)) : List Cpx :=
  updates.foldl (fun w u => List.zipWith (fun a x =>
    let g := u.1.mul x.conj
    a.add ⟨roundQ g.re (2 ^ mu), roundQ g.im (2 ^ mu)⟩) w u.2) w

/-- Energy of a list of taps. -/
def tapEnergy (t : List (List Cpx)) : Nat := ((t.flatten).map Cpx.norm).sum

/-- The taps after the LMS updates of a span, in the order of its symbols (log entry 39): errors are taken back through the turn
and the swap of R135. -/
def adaptTaps (c : RxCfg) (d : RxDsp) (l : List Smp) (syms : List SymPair) : List (List Cpx) :=
  let upd (g : SymPair → Cpx) (h : Smp → Cpx) : List (Cpx × List Cpx) :=
    syms.mapIdx (fun k s => (g s, (tapWindow l k).map h))
  let ex (s : SymPair) : Cpx := s.x.err.turn (4 - d.turnX % 4)
  let ey (s : SymPair) : Cpx := s.y.err.turn (4 - d.turnY % 4)
  let e0 := if d.swap then ey else ex
  let e1 := if d.swap then ex else ey
  [lms c.mu (d.taps.getD 0 []) (upd e0 Smp.x), lms c.mu (d.taps.getD 1 []) (upd e0 Smp.y),
    lms c.mu (d.taps.getD 2 []) (upd e1 Smp.x), lms c.mu (d.taps.getD 3 []) (upd e1 Smp.y)]

/-- The feedback taps after the same updates; none without decision feedback. -/
def adaptFeedback (c : RxCfg) (d : RxDsp) (syms : List SymPair) : List (List Cpx) :=
  let upd (g : SymPair → Cpx) (h : Cpx × Cpx → Cpx) : List (Cpx × List Cpx) := syms.map (fun s => (g s, s.dec.map h))
  if d.fb.isEmpty then []
  else [lms c.mu (d.fb.getD 0 []) (upd (·.x.err) (·.1)), lms c.mu (d.fb.getD 1 []) (upd (·.x.err) (·.2)),
    lms c.mu (d.fb.getD 2 []) (upd (·.y.err) (·.1)), lms c.mu (d.fb.getD 3 []) (upd (·.y.err) (·.2))]

/-- α after an LMS step on the error of each pilot: `pert` is the perturbation per unit of α there. -/
def adaptAlpha (alpha : Int) (l : List (Cpx × Cpx)) : Int :=
  l.foldl (fun a q => a + roundQ ((q.1.conj.mul q.2).re) (2 ^ Config.alphaStep)) alpha

/-! ## The whole path (Table 6.1) -/

/-- Data symbols of a span, pilots apart. -/
def dataSymbols {α : Type} (place : Nat) (l : List α) : List α :=
  (l.zipIdx.filter (fun p => !isPilot (place + p.2))).map (·.1)

/-- What a span of ADC codes gives: compensated symbols, their decisions, and the pilots' place in it. -/
structure Span where
  input : List Smp
  syms : List SymPair
  comp : List Smp
  /-- known pilot of each symbol that is one -/
  pil : List (Option (Cpx × Cpx))

/-- Stages 1 to 3. -/
def preStages (c : RxCfg) (bad : List Nat) (adc : List (List Int)) : List Smp := iscStage c (cdStage c bad (frontEnd c adc))

/-- Stages 1 to 7: the span begins at a pilot, and ADC codes before it fill the filters' memory. -/
def rxPath (c : RxCfg) (d : RxDsp) (adc : List (List Int)) : Span :=
  let input := preStages c d.bad adc
  let eq := derotate c (mimoStage c d input)
  let reg := d.pilot.getD (pilotSeedX, pilotSeedY)
  let px := pilotsFrom (ceilDiv eq.length 64) reg.1
  let py := pilotsFrom (ceilDiv eq.length 64) reg.2
  let known (k : Nat) : Option (Cpx × Cpx) :=
    if d.pilot.isSome && isPilot k then some (px.getD (k / 64) ⟨0, 0⟩, py.getD (k / 64) ⟨0, 0⟩) else none
  let ax := symbolPhases c.m c.counts px (eq.map (·.x))
  let ay := symbolPhases c.m c.counts py (eq.map (·.y))
  let syms := decideAll c d known 0 (List.zip eq (List.zip ax ay)) d.dec
  ⟨input, syms, nlcStage c d syms, (List.range eq.length).map known⟩

/-! ## Pilot synchronisation (R135, step 5 of Table 6.4) -/

/-- Energy of the correlation of a polarisation, from symbol o on, with the pilots of a register. -/
def syncScore (l : List Cpx) (reg o : Nat) : Nat :=
  let y := (l.drop o).zipIdx.filterMap (fun p => if isPilot p.2 then some p.1 else none)
  (Cpx.sum (List.zipWith (fun a p => a.mul p.conj) y (pilotsFrom y.length reg))).norm

/-- The first of a list with the highest score. -/
def bestBy {α : Type} (score : α → Nat) (l : List α) (a : α) : α := l.foldl (fun b x => if score b < score x then x else b) a

/-- Registers of a period of the sequence that starts from a seed. -/
def pilotRegs : Nat → Nat → List Nat
  | 0, _ => []
  | k + 1, r => r :: pilotRegs k (pilotOf r).2

/-- Where a seed's sequence stands in a polarisation: the offset of its pilots and the register at the first. -/
def syncOf (l : List Cpx) (seed : Nat) : Nat × Nat :=
  bestBy (fun p => syncScore l p.2 p.1) ((List.range 64).flatMap (fun o => (pilotRegs 2047 seed).map (fun r => (o, r)))) (0, seed)

/-- Quarter turns that bring a polarisation's pilots nearest to their sequence. -/
def turnsOf (l : List Cpx) (o reg : Nat) : Nat :=
  let y := (l.drop o).zipIdx.filterMap (fun p => if isPilot p.2 then some p.1 else none)
  let s := Cpx.sum (List.zipWith (fun a p => a.mul p.conj) y (pilotsFrom y.length reg))
  bestBy (fun k => ((s.turn k).re + 2 ^ 80).toNat) [1, 2, 3] 0

/-- The equaliser swaps its outputs or turns them once, as the two pilot sequences show. -/
def pilotSync (d : RxDsp) (l : List Smp) : RxDsp :=
  let x := l.map (·.x)
  let y := l.map (·.y)
  let straight := syncScore x (syncOf x pilotSeedX).2 (syncOf x pilotSeedX).1
  let crossed := syncScore y (syncOf y pilotSeedX).2 (syncOf y pilotSeedX).1
  let p := if straight < crossed then (y, x) else (x, y)
  let a := syncOf p.1 pilotSeedX
  let b := syncOf p.2 pilotSeedY
  { d with swap := straight < crossed, turnX := turnsOf p.1 a.1 a.2, turnY := turnsOf p.2 b.1 b.2, pilot := some (a.2, b.2) }

end Sys2Proof.Machine
end

