-- ==== Sys2Proof/Machine/Seal.lean ====
section
/-! DEFINITION. AES-256 in Galois/Counter Mode, which chapter 12 of spec/ names by its standard (SP 800-38D, log entry 4), and
sealed units (R287, R288).  A block is a number of 128 bits, first byte in the high bits. -/

namespace Sys2Proof.Machine

/-! ## GCM -/

/-- Product of x's k lowest bits, the highest first, with the running multiple v. -/
def gfSteps : Nat → Nat → Nat → Nat → Nat
  | 0, _, _, z => z
  | k + 1, x, v, z =>
    gfSteps k x (if v % 2 = 1 then (v / 2) ^^^ (0xE1 * 2 ^ 120) else v / 2) (if bit x k = 1 then z ^^^ v else z)

/-- Product in the field of GHASH. -/
def gfProd (x y : Nat) : Nat := gfSteps 128 x y 0

/-- Bytes in blocks of 16, the last filled with zeros. -/
def blocks16 (l : List Byte) : List Nat :=
  (pieces 16 (ceilDiv l.length 16) l).map (fun p => ofBytes (p ++ List.replicate (16 - p.length) 0))

/-- GHASH under a subkey, from a partial on. -/
def ghash (h y : Nat) (l : List Nat) : Nat := l.foldl (fun a b => gfProd (a ^^^ b) h) y

/-- The GHASH subkey of a key. -/
def subkey (key : Nat) : Nat := aesEncrypt key 0

/-- Counter block c of a 96-bit IV. -/
def counterBlock (iv c : Nat) : Nat := iv * 2 ^ 32 + c

/-- Bytes encrypted or decrypted under a key and IV. -/
def gcmText (key iv : Nat) (l : List Byte) : List Byte :=
  (pieces 16 (ceilDiv l.length 16) l).zipIdx.flatMap (fun p => List.zipWith (· ^^^ ·) p.1 (beBytes 16 (aesEncrypt key (counterBlock iv (p.2 + 2)))))

/-- The 128-bit tag of a ciphertext with additional data. -/
def gcmTag (key iv : Nat) (aad ct : List Byte) : Nat :=
  let h := subkey key
  gfProd (ghash h 0 (blocks16 aad ++ blocks16 ct) ^^^ (8 * aad.length * 2 ^ 64 + 8 * ct.length)) h
    ^^^ aesEncrypt key (counterBlock iv 1)

/-! ## Sealed units -/

/-- Plaintext bytes of interval i of a multiframe that carries cm of them. -/
def sealShare (cm i : Nat) : Nat := (i + 1) * cm / 1024 - i * cm / 1024

/-- What the IV and AAD of a unit name (Table 12.5). -/
structure UnitName where
  /-- this unit's sender has the higher station identifier -/
  dir : Bool
  trib : Nat
  gen : Nat
  ki : Bool
  /-- transmit MFN of the sender, and interval -/
  mfn : Nat
  ix : Nat
  seq : Nat

/-- The 96-bit IV. -/
def UnitName.iv (u : UnitName) : Nat :=
  ofBytes (beBytes 2 ((if u.dir then 0x8000 else 0) + u.trib) ++ beBytes 1 u.gen ++ beBytes 5 0 ++ beBytes 4 u.seq)

/-- The additional data. -/
def UnitName.aad (u : UnitName) : List Byte :=
  beBytes 2 u.trib ++ beBytes 1 u.gen ++ beBytes 1 u.ki.toNat ++ beBytes 4 u.mfn ++ beBytes 2 u.ix ++ [0, 0]

/-- Ciphertext of plaintext bytes; a replaced byte is 0x00 (R277). -/
def UnitName.cipher (key : Nat) (plain : List (Byte × Bool)) (u : UnitName) : List Byte :=
  List.zipWith (fun p c => if p.2 then 0 else c) plain (gcmText key u.iv (plain.map (·.1)))

/-- A unit as sent (Table 12.4): a replaced byte, or `bad`, inverts its tag (R277). -/
def UnitName.sealed (key : Nat) (bad : Bool) (plain : List (Byte × Bool)) (u : UnitName) : List Byte :=
  let ct := u.cipher key plain
  let tag := gcmTag key u.iv u.aad ct
  beBytes 4 u.seq ++ ct ++ beBytes 16 (if bad || plain.any (·.2) then 2 ^ 128 - 1 - tag else tag)

/-- GHASH partial of an open unit: its additional data, and the blocks of ciphertext that are whole (Table 12.8). -/
def UnitName.partialHash (key : Nat) (ct : List Byte) (u : UnitName) : Nat :=
  ghash (subkey key) 0 (blocks16 u.aad ++ blocks16 (ct.take (16 * (ct.length / 16))))

end Sys2Proof.Machine
end

