-- ==== Sys2Proof/Machine/Frame.lean ====
section
/-! DEFINITION. The line frame as bytes: header, scrambler, parity, tributary records, slot positions and justification of
chapter 9 of spec/ (R205 to R217, R228). -/

namespace Sys2Proof.Machine

/-! ## Checks and scrambler (R208, Table 9.8) -/

/-- A CRC of w bits with a polynomial and a start value, most significant bit first, no final XOR. -/
def crcBits (w poly start : Nat) (l : List Bool) : Nat :=
  l.foldl (fun r b =>
    let top := (bit r (w - 1) = 1) != b
    (r * 2 % 2 ^ w) ^^^ (if top then poly else 0)) start

/-- The CRC-16 of R208. -/
def crc16 (l : List Byte) : Nat := crcBits 16 0x1021 0xFFFF (byteBits l)

/-- The CRC-8 of Table 9.8. -/
def crc8 (l : List Byte) : Nat := crcBits 8 0x07 0 (byteBits l)

/-- Bits XORed with the generator x^w + x^t + 1 from register r on: the output leaves the top of the register. -/
def scrambleFrom (w t : Nat) : Nat → List Bool → List Bool
  | _, [] => []
  | r, b :: l => (b != (bit r (w - 1) = 1)) :: scrambleFrom w t (r * 2 % 2 ^ w + (bit r (w - 1) + bit r (t - 1)) % 2) l

/-- Bits of a frame from byte 6 on, scrambled or descrambled: the generator is all ones at byte 6. -/
def scramble (g2 : Bool) (l : List Bool) : List Bool :=
  if g2 then scrambleFrom 15 14 (2 ^ 15 - 1) l else scrambleFrom 23 18 (2 ^ 23 - 1) l

/-- Bytes of a frame from byte 6 on, scrambled or descrambled. -/
def scrambleBytes (g2 : Bool) (l : List Byte) : List Byte := bitBytes (scramble g2 (byteBits l))

/-- Bytes from byte 96 on, scrambled or descrambled. -/
def scrambleBody (g2 : Bool) (l : List Byte) : List Byte := (scrambleBytes g2 (List.replicate 90 0 ++ l)).drop 90

/-- BIP-16 over bytes taken in pairs, a last odd byte with 0x00 (R210). -/
def bip16 : List Byte → Nat
  | a :: b :: l => (256 * a.toNat + b.toNat) ^^^ bip16 l
  | [a] => 256 * a.toNat
  | [] => 0

/-- BIP-8 in the first of two bytes, which the G2 frame sends (Table 9.8). -/
def bip8 (l : List Byte) : Nat := 256 * l.foldl (fun x b => x ^^^ b.toNat) 0

def bipOf (g2 : Bool) (l : List Byte) : Nat := if g2 then bip8 l else bip16 l

/-! ## Tributary overhead record (R214, Table 9.4) -/

/-- Bytes 80 to 95 for tributary t; with ACT = 0 all but the tributary is 0.  G2 sends no GEN, ENC or KI (Table 9.8). -/
def torBytes (g2 : Bool) (t : Nat) (r : TorRec) : List Byte :=
  let f (b : Bool) (k : Nat) : Nat := if b then 2 ^ k else 0
  let on : Nat := if r.act then 1 else 0
  let l := beBytes 2 (f r.act 15 + f (r.enc && !g2) 14 + f (r.ki && !g2) 13 + t % 1024)
    ++ beBytes 1 (if g2 then 0 else r.gen) ++ [0] ++ beBytes 2 (on * r.start) ++ beBytes 2 (on * r.count)
    ++ beBytes 4 (on * r.cm) ++ [0, 0]
  l ++ beBytes 2 (crc16 l)

/-- A received copy: whether its CRC checks, its TRIB, and its record. -/
def torOf (g2 : Bool) (l : List Byte) : Bool × Nat × TorRec :=
  let w := ofBytes (l.take 2)
  (crc16 (l.take 14) = ofBytes (l.drop 14), w % 1024,
    ⟨bit w 15 = 1, bit w 14 = 1 && !g2, bit w 13 = 1 && !g2, if g2 then 0 else ofBytes ((l.drop 2).take 1),
      ofBytes ((l.drop 4).take 2) % 2048, ofBytes ((l.drop 6).take 2) % 2048, ofBytes ((l.drop 8).take 4) % 2 ^ 30⟩)

/-! ## Header (R207, Table 9.2) -/

/-- Bytes 0 to 5. -/
def fasOf (g2 : Bool) : List Byte :=
  if g2 then [0xB1, 0x4E, 0xB1, 0x4E, 0x27, 0xD8] else [0x3A, 0xC5, 0x96, 0x69, 0x5C, 0xA3]

/-- Bits in which two lists of bytes differ. -/
def bitsDiffer (a b : List Byte) : Nat := ((List.zipWith (fun x y => popcount (x.toNat ^^^ y.toNat) 8) a b)).sum

/-- What a header carries. -/
structure Header where
  /-- FAS bits that differ from the pattern -/
  fasErr : Nat
  /-- HCS checks -/
  hcs : Bool
  fn : Nat
  resize : Bool
  mfn : Nat
  mode : Nat
  sr : Nat
  /-- parity of the frame before, as sent -/
  bip : Nat
  rei : Nat
  bdi : Bool
  deriving DecidableEq, Repr

/-- Bytes 6 to 13 of a header. -/
def checkedBytes (g2 : Bool) (h : Header) : List Byte :=
  beBytes 2 (16 * h.fn + (if h.resize then 8 else 0)) ++ (if g2 then [0, 0] ++ beBytes 2 h.mfn else beBytes 4 h.mfn)
    ++ beBytes 1 h.mode ++ [0]

/-- Bytes 0 to 95 of a frame before scrambling, with the tributary overhead record `tor`. -/
def headerBytes (g2 : Bool) (h : Header) (tor : List Byte) : List Byte :=
  let c := checkedBytes g2 h
  fasOf g2 ++ c ++ (if g2 then beBytes 2 (crc8 c) else beBytes 2 (crc16 c)) ++ beBytes 4 h.sr ++ beBytes 2 h.bip
    ++ beBytes 1 h.rei ++ beBytes 1 (if h.bdi then 0x80 else 0) ++ List.replicate 56 0 ++ tor

/-- A frame as sent: bytes from byte 6 on scrambled. -/
def frameSent (g2 : Bool) (l : List Byte) : List Byte := l.take 6 ++ scrambleBytes g2 (l.drop 6)

/-- The header that 96 received bytes carry, and their bytes descrambled. -/
def headerOf (g2 : Bool) (raw : List Byte) : Header × List Byte :=
  let l := raw.take 6 ++ scrambleBytes g2 (raw.drop 6)
  let at_ (i k : Nat) : Nat := ofBytes ((l.drop i).take k)
  let c := (l.drop 6).take 8
  (⟨bitsDiffer (raw.take 6) (fasOf g2), if g2 then crc8 c = at_ 15 1 else crc16 c = at_ 14 2, at_ 6 2 / 16, bit (at_ 6 2) 3 = 1,
      if g2 then at_ 10 2 else at_ 8 4, at_ 12 1, at_ 16 4, if g2 then 256 * at_ 20 1 else at_ 20 2, at_ 22 1,
      bit (at_ 23 1) 7 = 1⟩, l)

/-! ## Positions (R212, R216) -/

/-- Number of the slot position that payload position p is, of S slots with Q bytes in L positions; none for fixed stuff. -/
def slotPos (S Q L p : Nat) : Option Nat :=
  if p * (S * Q) / L < (p + 1) * (S * Q) / L then some (p * (S * Q) / L) else none

/-- Bytes that a tributary carries in a multiframe: CM, with 20 bytes for each sealed unit of an encrypted one (R287). -/
def TorRec.carried (r : TorRec) : Nat := if r.enc then r.cm + 20 * Nat.min r.cm 1024 else r.cm

/-- Position j of P carries one of C bytes. -/
def dataPos (P C j : Nat) : Bool := j * C / P < (j + 1) * C / P

/-- The tributary whose byte payload position p carries under the records in force; none where it is stuff. -/
def byteOwner (S Q L : Nat) (recs : List (Nat × TorRec)) (p : Nat) : Option Nat :=
  (slotPos S Q L p).bind (fun u =>
    let slot := u % S
    (recs.find? (fun e => e.2.act && e.2.start ≤ slot && slot < e.2.start + e.2.count
        && dataPos (e.2.count * Q) e.2.carried (u / S * e.2.count + (slot - e.2.start)))).map (·.1))

/-- Owners of the payload bytes of frame fn, of F bytes, in order. -/
def frameOwners (S Q F : Nat) (recs : List (Nat × TorRec)) (fn : Nat) : List (Option Nat) :=
  (List.range (F - 96)).map (fun b => byteOwner S Q (4096 * (F - 96)) recs (fn * (F - 96) + b))

/-- The first element of a key's queue, and the queues without it. -/
def popKey {α : Type} (t : Nat) : List (Nat × List α) → Option (α × List (Nat × List α))
  | [] => none
  | (a, q) :: l =>
    if a = t then
      match q with
      | x :: q => some (x, (a, q) :: l)
      | [] => none
    else (popKey t l).map (fun r => (r.1, (a, q) :: r.2))

/-- Elements added to the end of a key's queue. -/
def pushKey {α : Type} (t : Nat) (x : List α) : List (Nat × List α) → List (Nat × List α)
  | [] => [(t, x)]
  | (a, q) :: l => if a = t then (a, q ++ x) :: l else (a, q) :: pushKey t x l

/-- The payload area of a frame from the bytes that wait for each tributary, and what is left of them; none while a byte is
missing.  Stuff is 0x00. -/
def frameBody : List (Option Nat) → List (Nat × List Byte) → Option (List Byte × List (Nat × List Byte))
  | [], q => some ([], q)
  | none :: l, q => (frameBody l q).map (fun r => (0 :: r.1, r.2))
  | some t :: l, q =>
    match popKey t q with
    | some (b, q1) => (frameBody l q1).map (fun r => (b :: r.1, r.2))
    | none => none

/-- The tributaries' bytes of a received payload area, added to their queues. -/
def takeBody {α : Type} : List (Option Nat) → List α → List (Nat × List α) → List (Nat × List α)
  | some t :: l, b :: x, q => takeBody l x (pushKey t [b] q)
  | none :: l, _ :: x, q => takeBody l x q
  | _, _, q => q

end Sys2Proof.Machine
end

