-- ==== Sys2Proof/Machine/IscCode.lean ====
section
/-! DEFINITION. What the supervisory channel sends: spreading codes, message bytes and chips, chapter 11 of spec/ (R255 to R265). -/

namespace Sys2Proof.Machine

/-! ## Spreading codes (R256) -/

/-- k terms of u from a state that holds u(i) to u(i + 9). -/
def uSeq : Nat → List Bool → List Bool
  | 0, _ => []
  | k + 1, w => w.headD false :: uSeq k (w.tail ++ [w.getD 3 false != w.headD false])

/-- u(0) to u(1,022). -/
def codeU : List Bool := uSeq 1023 (List.replicate 9 false ++ [true])

/-- v(i) = u(33 i mod 1,023). -/
def codeV (i : Nat) : Bool := codeU.getD (33 * i % 1023) false

/-- Chips of code c, 0 to 31. -/
def spreadCode (c : Nat) : List Bool :=
  if c = 31 then codeU else codeU.mapIdx (fun i b => b != codeV ((i + c) % 31))

/-! ## Messages (R262, R264, R265, Tables 11.3 to 11.5) -/

/-- TYPE of Table 11.4. -/
def Msg.type : Msg → Nat
  | .heartbeat .. => 0x01
  | .telemetry .. => 0x02
  | .host .. => 0x03
  | .modeOffer .. => 0x10
  | .resizePropose .. => 0x20
  | .resizeAccept .. => 0x21
  | .resizeRefuse .. => 0x22
  | .resizeConfirm .. => 0x23
  | .rolloverAnnounce .. => 0x30
  | .rolloverAck .. => 0x31

/-- The parameter block in bytes 0 to 7. -/
def blockBytes (b : Block) : List Byte :=
  beBytes 1 b.mode ++ beBytes 1 (64 * b.code + 8 * b.roll) ++ beBytes 2 b.rs ++ beBytes 2 (2 ^ 14 * b.fmt + b.hx)
    ++ beBytes 2 b.tslots

/-- Listed bytes of the PAYLOAD; what follows them is 0. -/
def Msg.content : Msg → List Byte
  | .heartbeat id nonce state frame chip loop rep code =>
    beBytes 4 id ++ beBytes 2 nonce ++ beBytes 1 state ++ beBytes 1 (frame.toNat + 2 * chip.toNat + 4 * loop.toNat)
      ++ beBytes 1 (rep + 8 * code)
  | .telemetry snr ber margin rxpwr unc lqseq =>
    beBytes 2 snr ++ beBytes 2 ber ++ beBytes 2 margin ++ beBytes 2 rxpwr ++ beBytes 4 unc ++ beBytes 2 lqseq
  | .host w0 w1 w2 w3 => beBytes 4 w0 ++ beBytes 4 w1 ++ beBytes 4 w2 ++ beBytes 2 w3
  | .modeOffer block agreed indoubt profile id =>
    blockBytes block ++ beBytes 1 (4 * agreed.toNat + 2 * indoubt.toNat) ++ beBytes 1 profile ++ beBytes 4 id
  | .resizePropose block trib tA => blockBytes block ++ beBytes 1 trib.toNat ++ [0] ++ beBytes 4 tA
  | .resizeAccept tA tB => beBytes 4 tA ++ beBytes 4 tB
  | .resizeRefuse tA cause => beBytes 4 tA ++ beBytes 1 cause
  | .resizeConfirm tA tB cancel => beBytes 4 tA ++ beBytes 4 tB ++ beBytes 1 cancel.toNat
  | .rolloverAnnounce m base map => beBytes 4 m ++ beBytes 2 base ++ beBytes 8 map
  | .rolloverAck m base map => beBytes 4 m ++ beBytes 2 base ++ beBytes 8 map

/-- The 20 bytes of a message with its SEQ. -/
def Msg.bytes (seq : Nat) (m : Msg) : List Byte :=
  let l := beBytes 1 m.type ++ beBytes 1 seq ++ (m.content ++ List.replicate (14 - m.content.length) 0)
  [0x9A, 0x7D] ++ l ++ beBytes 2 (crc16 l)

/-! ## Chips (R257) -/

/-- Polarity of each period after the polarity `p`: a 1 inverts, a 0 repeats. -/
def polarities : Bool → List Bool → List Bool
  | _, [] => []
  | p, b :: l => (p != b) :: polarities (p != b) l

/-- Times that each bit is sent, for a code of ISC_CTRL.REP. -/
def repOf (code : Nat) : Nat := 2 ^ code

/-- Period polarities of a message, each of its bits r times, after the polarity of the period before. -/
def Msg.periods (seq rep : Nat) (before : Bool) (m : Msg) : List Bool :=
  polarities before ((byteBits (m.bytes seq)).flatMap (fun b => List.replicate (repOf rep) b))

/-- Chip i of a stream of periods under a code, as it is sent: +1 or −1. -/
def chipAt (code : Nat) (periods : List Bool) (i : Nat) : Int :=
  if (spreadCode code).getD (i % 1023) false != periods.getD (i / 1023) false then -1 else 1

end Sys2Proof.Machine
end

