-- ==== Sys2Proof/Machine/TxPath.lean ====
section
/-! DEFINITION. The transmit sample path: the stages of Table 7.1 in their order, chapter 7 of spec/ (R156 to R177). -/

namespace Sys2Proof.Machine

/-- What the stages take from the registers, the calibration set and the channel. -/
structure TxCfg where
  m : Nat
  counts : List Nat
  /-- roll-off code of Table 7.3, symbol rate in 0.01 GBd and DAC rate in 0.01 GS/s -/
  roll : Nat
  rs : Nat
  dacRate : Nat
  /-- a standard mode has the filter, pilots and training symbols of its own specification (R166, R167) -/
  interop : Bool
  /-- level of the supervisory signal below the data in 0.1 dB, and its waveform in 2^-20 at a time from the span's start in
  2^-10 of a chip, while it is inserted (R172) -/
  isc : Option (Nat × (Int → Int))
  /-- data and pilots are sent as zero (R177) -/
  zero : Bool
  /-- gains of each lane in 0.01 dB, as MAXBOOST limits them; none with pre-emphasis off (R168) -/
  gains : Option (List (List Int))
  /-- lane delays in 0.1 ps, as limited (R170) -/
  delays : List Int
  /-- gain in 0.01 dB and quadrature phase in 0.01 degree of X and Y (R170) -/
  iq : List (Int × Int)
  /-- the ten coefficients of each lane in 2^-24, and its drive ratio; none with pre-distortion off (R169) -/
  nlpd : Option (List (List Int × Nat))
  /-- clip ratio in 0.1 dB (R171) -/
  clip : Nat

/-! ## Stages 1 to 3: matcher, mapper, pilots (R158 to R166) -/

/-- Data symbols of a codeword's coded bits: X label, then Y label (R181). -/
def mapSymbols (m : Nat) (counts : List Nat) (coded : List Bool) : List (Cpx × Cpx) :=
  let u := unitOf m counts
  (pieces (2 * m) (coded.length / (2 * m)) coded).map (fun l =>
    (pointOf u (labelPoint m (l.take m)), pointOf u (labelPoint m (l.drop m))))

/-- Data symbols with a pilot before every 63 of them, from symbol `sym` and the registers on: the symbols, the registers
after them. -/
def addPilots : Nat → Nat → Nat × Nat → List (Cpx × Cpx) → List (Cpx × Cpx) × (Nat × Nat)
  | 0, _, r, _ => ([], r)
  | k + 1, sym, r, l =>
    if isPilot sym then
      let a := pilotOf r.1
      let b := pilotOf r.2
      let q := addPilots k (sym + 1) (a.2, b.2) l
      ((pilotPoint a.1, pilotPoint b.1) :: q.1, q.2)
    else
      match l with
      | [] => ([], r)
      | s :: l =>
        let q := addPilots k (sym + 1) r l
        (s :: q.1, q.2)

/-- Data symbols drawn uniformly from the constellation by the pilot registers run on copies: k of them (R173, R177). -/
def drawnBits : Nat → Nat → List Bool × Nat
  | 0, r => ([], r)
  | k + 1, r => let s := pilotStep r; let q := drawnBits k s.2; (s.1 :: q.1, q.2)

def drawnSymbols (m : Nat) (counts : List Nat) : Nat → Nat × Nat → List (Cpx × Cpx)
  | 0, _ => []
  | k + 1, r =>
    let a := drawnBits m r.1
    let b := drawnBits m r.2
    let u := unitOf m counts
    (pointOf u (labelPoint m a.1), pointOf u (labelPoint m b.1)) :: drawnSymbols m counts k (a.2, b.2)

/-! ## Stage 4: pulse shaping and resampling (R167) -/

/-- Sum of the symbols within ±48 of a sample instant, in 2^-10 of a symbol, each times the filter's tap. -/
def shapedAt (roll : Nat) (l : List Int) (at_ : Int) : Int :=
  (l.mapIdx (fun k v =>
    let d := at_ - 1024 * (k : Int)
    if d.natAbs ≤ 48 * 1024 then v * Config.shapeTap roll d else 0)).sum / 2 ^ 20

/-- Four lanes, XI, XQ, YI, YQ, at 16 samples a symbol then resampled to the DAC rate: symbols `tail` before the span fill the
filter. -/
def shapeStage (c : TxCfg) (tail l : List (Cpx × Cpx)) : List (List Int) :=
  let all := tail ++ l
  let lane (f : Cpx × Cpx → Int) : List Int :=
    let v := all.map f
    let out := (List.range (16 * l.length)).map (fun (i : Nat) => shapedAt c.roll v (1024 * (tail.length : Int) - 48 * 1024 + 64 * (i : Int)))
    Config.resampled (16 * c.rs * 10 ^ 4) (c.dacRate * 10 ^ 4) out
  [lane (·.1.re), lane (·.1.im), lane (·.2.re), lane (·.2.im)]

/-! ## Stage 5: supervisory signal (R172) -/

/-- The waveform of chips, each shaped by the filter of R255, at a time in 2^-10 of a chip. -/
def chipWave (chip : Int → Int) (t : Int) : Int :=
  ((List.range 33).map (fun (i : Nat) =>
    let k : Int := t / 1024 - 16 + i
    chip k * Config.chipTap (t - 1024 * k))).sum

/-- The signal in phase and at equal power on X and Y, at its level below the mean power of the data lanes over the span (log
entry 41). -/
def iscInsert (c : TxCfg) (l : List (List Int)) : List (List Int) :=
  let data := if c.zero then l.map (fun v => v.map (fun _ => 0)) else l
  match c.isc with
  | none => data
  | some (level, wave) =>
    let power := (l.map (fun v => (v.map (fun a => a * a)).sum.toNat)).sum / (l.headD []).length
    let amp := roundQ (isqrt (power / 2) * Config.gain (-(10 * level))) (2 ^ 20)
    let add (v : List Int) : List Int :=
      v.mapIdx (fun i a => a + roundQ (amp * wave (i * 24576 / (10 * c.dacRate) : Nat)) (2 ^ 20))
    [add (data.getD 0 []), data.getD 1 [], add (data.getD 2 []), data.getD 3 []]

/-! ## Stage 6: pre-emphasis and lane delay (R168, R170) -/

def emphasis (c : TxCfg) (l : List (List Int)) : List (List Int) :=
  l.mapIdx (fun i v =>
    let w := match c.gains with
      | some g => Config.emphasised (g.getD i []) v
      | none => v
    Config.delayed (c.delays.getD i 0) c.dacRate w)

/-! ## Stage 7: IQ correction (R170) -/

/-- Q times its gain, and turned by the quadrature phase against I. -/
def iqOne (p : Int × Int) (i q : List Int) : List Int :=
  List.zipWith (fun a b => roundQ (roundQ (b * Config.gain p.1) (2 ^ 20) * Config.cosine p.2 + a * Config.sine p.2) (2 ^ 20)) i q

def iqStage (c : TxCfg) (l : List (List Int)) : List (List Int) :=
  [l.getD 0 [], iqOne (c.iq.getD 0 (0, 0)) (l.getD 0 []) (l.getD 1 []), l.getD 2 [],
    iqOne (c.iq.getD 1 (0, 0)) (l.getD 2 []) (l.getD 3 [])]

/-! ## Stage 8: pre-distortion (R169) -/

/-- Σ_{d=0..4} (c_{1,d} x[t−d] + c_{3,d} x[t−d] |x[t−d]|²): coefficients c_{1,0} to c_{1,4}, then c_{3,0} to c_{3,4}. -/
def memoryPoly (co x : List Int) (t : Nat) : Int :=
  roundQ (((List.range 5).map (fun d =>
    let v := if t < d then 0 else x.getD (t - d) 0
    co.getD d 0 * v + roundQ (co.getD (5 + d) 0 * v * (v * v)) (2 ^ 40))).sum) (2 ^ 24)

def distortStage (c : TxCfg) (l : List (List Int)) : List (List Int) :=
  match c.nlpd with
  | none => l
  | some n => l.mapIdx (fun i x =>
      let p := n.getD i ([], 0)
      (List.range x.length).map (fun t => Config.inverseSine p.2 (memoryPoly p.1 x t)))

/-! ## Stage 9: clip and quantise (R171) -/

/-- A lane scaled so that its rms lies the clip ratio below full scale, 128: codes, and samples beyond full scale. -/
def quantiseLane (clip : Nat) (x : List Int) : List Int × Nat :=
  let rms := isqrt ((x.map (fun a => a * a)).sum.toNat / x.length)
  let v := x.map (fun a => roundQ (128 * a * Config.gain (-(10 * clip))) (2 ^ 20 * rms))
  (v.map (fun a => max (-128) (min 127 a)), v.countP (fun a => decide (a < -128 ∨ 127 < a)))

/-- Stages 4 to 9 for a span of symbols: codes of the four lanes, and how many samples of each were clipped. -/
def txPath (c : TxCfg) (tail l : List (Cpx × Cpx)) : List (List Int) × List Nat :=
  let r := (distortStage c (iqStage c (emphasis c (iscInsert c (shapeStage c tail l))))).map (quantiseLane c.clip)
  (r.map (·.1), r.map (·.2))

/-- The tone of PATTERN 0x3 on every lane. -/
def toneCodes (c : TxCfg) (k : Nat) : List (List Int) := List.replicate 4 ((List.range k).map (Config.tone c.dacRate))

end Sys2Proof.Machine
end

