-- ==== Sys2Proof/Machine/Transmit.lean ====
section
/-! DEFINITION. The transmit line path of a channel: sealing, frames, LINE tokens, the encoder and the transmit DSP, chapters 7,
8, 9 and 12 of spec/ (R156 to R174, R182 to R184, R205 to R217, R287). -/

namespace Sys2Proof.Machine

/-- Changes the transmit line path of channel n. -/
def State.onTx (n : Nat) (f : LineTx → LineTx) (s : State) : State := s.onChan n (fun c => { c with tx := f c.tx })

/-- Changes the receive line path of channel n. -/
def State.onRx (n : Nat) (f : LineRx → LineRx) (s : State) : State := s.onChan n (fun c => { c with rx := f c.rx })

/-- Changes what the receive DSP of channel n adapts and measures. -/
def State.onDsp (n : Nat) (f : RxDsp → RxDsp) (s : State) : State := s.onChan n (fun c => { c with dsp := f c.dsp })

/-! ## Bound on data in flight (R24) -/

/-- Payload bits that the line mode of a profile carries in 120 µs: 27 Rs / 80 codewords of D data bits, Rs in 0.01 GBd, or
those of 400 Gb/s (log entry 42). -/
def Profile.flight (p : Profile) : Nat := if p.interop then 48000000 else 27 * p.rs * p.dataBits / 80

/-- One more token keeps the data in flight in one direction of channel n, `held` tokens, within that. -/
def State.withinLine (s : State) (n held : Nat) : Bool := (s.active n).elim true (fun p => 512 * (held + 1) ≤ p.flight)

/-! ## Sealing (R277, R287, R288, R291) -/

/-- A tenant's sealing; a new multiframe's where nothing is held. -/
def LineTx.sealOf (x : LineTx) (t : Nat) : Sealing := (x.sealing.find? (fun e => e.trib = t)).getD ⟨t, 0, [], false⟩

def LineTx.setSeal (e : Sealing) (x : LineTx) : LineTx :=
  { x with sealing := e :: x.sealing.filter (fun d => d.trib ≠ e.trib) }

/-- Seals left on a slot fall below the warning (R291). -/
def State.sealWarn (n t : Nat) (s : State) : State :=
  s.when (s.sealsLeft n t < s.rd (SEC_CTRL.WARN n) * 2 ^ 24 && !s.on (SEC_TEN.WARN n t)) (fun w =>
    w.put (SEC_TEN.WARN n t) 1 |>.put (SEC_STAT.WARN_EV n) 1 |>.raiseCh n 0xA2)

/-- Name of the unit that tenant t of channel n seals next. -/
def State.unitName (s : State) (n t ix : Nat) : UnitName :=
  let ki := s.on (TRB_TRIB.KI_TX n t)
  ⟨s.rd (ISC_PEER.ID n) < s.rd (ISC_STATION.ID n), t, s.rd (TRB_TRIB.GEN n t), ki, s.mfn n, ix,
    s.rd (SECC.SEALS (keySlot n t ki.toNat))⟩

/-- One unit is sealed, and waits for its positions. -/
def State.sealUnit (n : Nat) (e : Sealing) (q : Nat) (s : State) : State :=
  let u := s.unitName n e.trib e.ix
  let g := keySlot n e.trib u.ki.toNat
  s.onTx n (fun x => { (x.setSeal ⟨e.trib, e.ix + 1, e.plain.drop q, false⟩) with wait := pushKey e.trib (u.sealed (s.rd (KEYC.KEY g)) e.bad (e.plain.take q)) x.wait })
    |>.addSat (SECC.SEALS g) 1 |>.secCount n 60 1 |>.countFor n .sec 0x01 1 (some e.trib) |>.sealWarn n e.trib

/-- The units that the waiting plaintext of tenant t fills are sealed; k intervals are tried. -/
def State.sealUnits (n t : Nat) : Nat → State → State
  | 0, s => s
  | k + 1, s =>
    let e := (s.chan n).tx.sealOf t
    let q := sealShare (s.rd (TRBC.CMNOW n t)) e.ix
    if 1024 ≤ e.ix || e.plain.length < q then s
    else (if q = 0 then s.onTx n (LineTx.setSeal { e with ix := e.ix + 1 }) else s.sealUnit n e q).sealUnits n t k

/-- Bytes of tributary t go to its positions, through the sealing of an encrypted one; `spoilt`: they replace lost bytes. -/
def State.carryBytes (n t : Nat) (spoilt : Bool) (l : List Byte) (s : State) : State :=
  if s.on (TRB_TRIB.ENC n t) then
    (s.onTx n (fun x => let e := x.sealOf t; x.setSeal { e with plain := e.plain ++ l.map (fun b => (b, spoilt)) })).sealUnits n t 1025
  else s.onTx n (fun x => { x with wait := pushKey t l x.wait })

/-- 64 bytes of 0x00 stand for a token of tributary t that is lost behind the mapper (R277, log entry 41). -/
def State.carryLost (n t : Nat) (s : State) : State := s.carryBytes n t true (List.replicate 64 0)

/-- A seal half's mismatch: the oldest token of tenant t in SEC and every later one of its unit are replaced (R277). -/
def State.sealMismatch (n t : Nat) (s : State) : State :=
  let mine : Token → Bool := fun k => k.stage = .txSec && k.trib = t
  let ix := ((s.chan n).tx.sealOf t).ix
  let s1 := if (s.flow.get n).tok.any mine then (s.flowOp n (Flow.txDropOne .fault mine)).carryLost n t else s
  s1.onTx n (fun x => let e := x.sealOf t; if e.ix = ix then x.setSeal { e with bad := true } else x)

/-! ## Frames (R205 to R217) -/

/-- Tributaries whose records a channel's frames carry: 1,024, or 256 in G2 (Table 9.8). -/
def State.torCount (s : State) (n : Nat) : Nat := if s.on (LFR_CTRL.G2 n) then 256 else 1024

/-- A record with ACT = 0. -/
def TorRec.idle : TorRec := ⟨false, false, false, 0, 0, 0, 0⟩

/-- The header of the next frame (R207). -/
def State.nextHeader (s : State) (n : Nat) (p : Profile) : Header :=
  let x := (s.chan n).tx
  ⟨0, true, x.fn, s.on (LFRC.TX_RESIZE n), s.mfn n, p.mode, s.rd (LFR_SR_TX.SR n), x.bip, s.rd (LFRC.REI n),
    s.rd (LFR_STAT.FSTATE n) ≠ 2 || s.on (LFR_CTRL.BDI_FORCE n)⟩

/-- The next frame as sent, with a payload area. -/
def State.nextFrame (s : State) (n : Nat) (p : Profile) (body : List Byte) : List Byte :=
  let g2 := s.on (LFR_CTRL.G2 n)
  let x := (s.chan n).tx
  let t := x.fn % s.torCount n
  frameSent g2 (headerBytes g2 (s.nextHeader n p) (torBytes g2 t ((keyed t x.ann).getD TorRec.idle)) ++ body)

/-- The data bits of the next frame, or of the next block of an interoperable mode, wait for link 0x04 once all its bytes are
there. -/
def State.formFrame (n : Nat) (s : State) : State :=
  let x := (s.chan n).tx
  match s.active n with
  | none => s
  | some p =>
    if p.interop then
      let k := Config.blockData p.code / 8
      let q := (keyed 0 x.wait).getD []
      if k = 0 || q.length < k then s
      else s.onTx n (fun x => { x with wait := setKeyed 0 (q.drop k) x.wait, bits4 := x.bits4 ++ Config.standardPack p.code (q.take k), geos := x.geos ++ [p.geo] })
    else if 4096 ≤ x.fn then s
    else
      match frameBody (frameOwners p.tslots (slotBytes p.rs) p.frameBytes x.now x.fn) x.wait with
      | none => s
      | some (body, w) =>
        let f := s.nextFrame n p body
        s.onTx n (fun x => { x with wait := w, fn := x.fn + 1, bip := bipOf (s.on (LFR_CTRL.G2 n)) (f.drop 16), bits4 := x.bits4 ++ byteBits f,
                                    geos := x.geos ++ List.replicate 36 p.geo })

/-- A LINE token crosses link 0x04 (R182). -/
def LineTx.move4 (x : LineTx) : LineTx :=
  if x.bits4.length < 512 then x
  else { x with enc := x.enc ++ x.bits4.take 512, bits4 := x.bits4.drop 512, seq4 := (x.seq4 + 1) % 1024 }

/-! ## Encoder (R183, R184) -/

/-- The encoder encodes its next codeword, once it holds all its data bits. -/
def LineTx.encodeNext (x : LineTx) : LineTx :=
  match x.geos with
  | [] => x
  | g :: l =>
    if x.enc.length < g.data then x
    else
      let d := x.enc.take g.data
      let r := g.encode x.past d
      { x with geos := l, enc := x.enc.drop g.data, past := (r.1 :: x.past).take 4, bits5 := x.bits5 ++ g.toLink5 d r.2,
               geos5 := x.geos5 ++ [g] }

/-- A LINE token crosses link 0x05 (R182). -/
def LineTx.move5 (x : LineTx) : LineTx :=
  if x.bits5.length < 512 then x
  else { x with dsp := x.dsp ++ x.bits5.take 512, bits5 := x.bits5.drop 512, seq5 := (x.seq5 + 1) % 1024 }

/-! ## Transmit DSP (Table 7.1) -/

/-- The supervisory waveform from a symbol on (R255, R257). -/
def State.iscWave (s : State) (n rs : Nat) : Int → Int :=
  let x := (s.chan n).tx
  let at_ : Int := (x.sym - x.iscAt : Nat) * 24 * 1024 / (10 * rs : Nat)
  let code := s.rd (ISC_CFG.TX_CODE n)
  fun t => chipWave (fun k => if k < 0 then 0 else chipAt code x.periods k.toNat) (at_ + t)

/-- What the stages take (R167 to R172): framed fields at their values in force. -/
def State.txCfg (s : State) (n : Nat) (g : Geo) : TxCfg :=
  let rec4 (f : Nat → Int) : List Int := (List.range 4).map f
  let lim : Int := 10 * s.rd (LDS_TX_CTRL.MAXBOOST n).inForce
  let gains (l : Nat) : List Int := (List.range 17).map (fun f => min lim (toSigned 16 (memLe s.applied (0x2000 * n + 0x1140 + 2 * (17 * l + f)) 2)))
  let delay (l : Nat) : Int := max (-600) (min 600 (s.rdS (LDS_TX_SKEW_L.CAL n l) + s.rdS (LDS_TX_SKEW_L.TRIM n l).inForce))
  let poly (l : Nat) : List Int := (List.range 10).map (fun k => toSigned 32 (memLe s.applied (0x2000 * n + 0x11C8 + 4 * (10 * l + k)) 4))
  { m := g.m, counts := g.counts, roll := g.roll, rs := g.rs, dacRate := 600 * s.rd (CNV_RATE.TX_ACT n), interop := g.standard,
    isc := if s.on (LDS_TX_STAT.ISC_INS n) then some (s.rd (LDS_TX_ISC_LVL.LEVEL n).inForce, s.iscWave n g.rs) else none,
    zero := s.rd (LDS_TX_TEST.PATTERN n) = 1,
    gains := if s.rd (LDS_TX_CTRL.PREEMP_EN n).inForce = 1 then some ((List.range 4).map gains) else none,
    delays := rec4 delay,
    iq := [0, 1].map (fun p => (s.rdS (LDS_TX_IQ_P.GAIN n p).inForce, s.rdS (LDS_TX_IQ_P.PHASE n p).inForce)),
    nlpd := if s.rd (LDS_TX_CTRL.NLPD_EN n).inForce = 1 then some ((List.range 4).map (fun l => (poly l, s.rd (LDSC.DRIVE n l)))) else none,
    clip := s.rd (LDS_TX_DRV.CLIPR n).inForce }

/-- Codes reach the DACs, which a muted transmitter holds at mid-scale (R157).  Once the TX PLL is in lock again they resume at
the first pilot, `skip` samples on (Table 7.4). -/
def State.toDacs (n skip : Nat) (codes : List (List Int)) (s : State) : State :=
  if !s.on (LDS_TX_STAT.MUTED n) then s.emit (.dac n codes)
  else if s.phase n = Phase.lit && !s.on (CNV_STAT.TX_LOL n) then
    (s.put (LDS_TX_STAT.MUTED n) 0).emit (.dac n (codes.map (fun l => List.replicate (Nat.min skip l.length) 0 ++ l.drop skip)))
  else s

/-- Symbols are sent through the stages. -/
def State.sendSymbols (n : Nat) (g : Geo) (regs : Nat × Nat) (l : List (Cpx × Cpx)) (s : State) : State :=
  let x := (s.chan n).tx
  let tail := if x.geo.any (fun o => o.rs = g.rs && o.roll = g.roll && o.m = g.m && o.counts = g.counts) then x.tail else []
  let c := s.txCfg n g
  let r := if s.rd (LDS_TX_TEST.PATTERN n) = 3 then (toneCodes c (l.length * c.dacRate / g.rs), [0, 0, 0, 0]) else txPath c tail l
  let s1 := s.onTx n (fun x => { x with geo := some g, pilot := some regs, sym := x.sym + l.length,
                                        tail := (tail ++ l).drop ((tail ++ l).length - 96), clips := (List.range 4).map (fun i => x.clips.getD i 0 + r.2.getD i 0) })
    |>.addSat (LDS_TX_CLIP.COUNT n) r.2.sum |>.countFor n .lds 0x08 r.2.sum none
  s1.toDacs n ((64 - x.sym % 64) % 64 * c.dacRate / g.rs) r.1

/-- Data symbols are sent, with a pilot before every 63 of them; a standard mode's symbols hold its own pilots (R164, R166). -/
def State.sendData (n : Nat) (g : Geo) (l : List (Cpx × Cpx)) (s : State) : State :=
  let x := (s.chan n).tx
  let regs := x.pilot.getD (pilotSeedX, pilotSeedY)
  let p := if g.standard then (l, regs) else addPilots (l.length + l.length / 63 + 2) x.sym regs l
  s.sendSymbols n g p.2 p.1

/-- k data symbols drawn from the constellation by copies of the pilot registers (R173). -/
def LineTx.drawn (x : LineTx) (g : Geo) (k : Nat) : List (Cpx × Cpx) :=
  drawnSymbols g.m g.counts k (x.pilot.getD (pilotSeedX, pilotSeedY))

/-- Data symbols from the codeword's first to the place where normal symbols resume after a substitute span of `late` (R173): the
next matcher block, or the next pilot. -/
def resumeAt (g : Geo) (sym late : Nat) : Nat :=
  if late = 0 then 0
  else if g.shaped then ceilDiv late (g.counts.sum / 4) * (g.counts.sum / 4)
  else late + (if sym % 64 = 0 then 0 else 64 - sym % 64)

/-- Symbols of the codeword that the DSP holds whole. -/
def codewordSymbols (g : Geo) (bits : List Bool) : List (Cpx × Cpx) :=
  if g.standard then (Config.standardSymbols g.code bits).map (fun q => (⟨q.1, q.2.1⟩, ⟨q.2.2.1, q.2.2.2⟩))
  else mapSymbols g.m g.counts (g.ofLink5 bits)

/-- The DSP forms a codeword once it holds its bits: PATTERN 0x2 draws its symbols (R177). -/
def State.formCodeword (n : Nat) (s : State) : State :=
  let x := (s.chan n).tx
  match x.geos5 with
  | [] => s
  | g :: l =>
    if x.dsp.length < g.sent then s
    else
      let d := codewordSymbols g (x.dsp.take g.sent)
      let r := Nat.min d.length (resumeAt g x.sym x.late)
      let d1 := if s.rd (LDS_TX_TEST.PATTERN n) = 2 then x.drawn g (d.length - x.late)
        else x.drawn g (r - x.late) ++ d.drop (Nat.max r x.late)
      (s.onTx n (fun x => { x with geos5 := l, dsp := x.dsp.drop g.sent, late := x.late - d.length })).sendData n g d1

/-- Data symbols of k LINE tokens: 512 bits on link 0x05 each. -/
def tokenSymbols (g : Geo) (k : Nat) : Nat := ceilDiv (512 * k * (g.labels / 2)) g.sent

/-- k LINE tokens were missing: a substitute span is sent (R173). -/
def State.substituteSpan (n k : Nat) (s : State) : State :=
  let x := (s.chan n).tx
  match x.geos5.head?.or (x.geos.head?.or ((s.active n).map Profile.geo)) with
  | none => s
  | some g => (s.onTx n (fun x => { x with late := x.late + tokenSymbols g k })).sendData n g (x.drawn g (tokenSymbols g k))

/-- LFR→FEC. -/
def State.toFec (n : Nat) (s : State) : State :=
  (s.when ((s.chan n).tx.bits4.length < 512) (·.formFrame n)).onTx n LineTx.move4

/-- FEC→LDS. -/
def State.toLds (n : Nat) (s : State) : State :=
  ((s.onTx n (fun x => if x.bits5.length < 512 then x.encodeNext else x)).onTx n LineTx.move5).formCodeword n

/-! ## Multiframe boundary (R206, R214, R217) -/

/-- Records for the next multiframe: entries that carry in it, with the KI of that multiframe (R214, R226). -/
def State.announcements (s : State) (n : Nat) (flips : Nat → Bool) : List (Nat × TorRec) :=
  ((s.tribs n).filter (fun t => s.carriesNext n t)).map (fun t =>
    (t, ⟨true, s.on (TRB_TRIB.ENC n t), s.on (TRB_TRIB.KI_TX n t) != flips t, s.rd (TRB_TRIB.GEN n t), s.rd (TRB_TRIB.START n t),
      s.rd (TRB_TRIB.COUNT n t), s.rd (TRB_TRIB.CM n t)⟩))

/-- The mapper's count for a tributary in the multiframe that begins: what the last one left unmapped is lost with it, what it
took too much is kept. -/
def State.mapperStart (n t : Nat) (s : State) : State :=
  s.putS (TRBC.LEFT n t) ((s.rd (TRBC.CMNOW n t) : Int) + min 0 (s.rdS (TRBC.LEFT n t)))

/-- The line path at a transmit boundary, after the entries' announcements: `flips` names the tenants whose KI inverts at the next
one. -/
def State.lineBoundary (n : Nat) (flips : Nat → Bool) (s : State) : State :=
  let l := s.announcements n flips
  (s.onTx n (fun x => { x with fn := 0, now := x.ann, ann := l, sealing := x.sealing.map (fun e => { e with ix := 0, bad := false }) })).each
    (uniq (s.listed (TRBC.CMNOW n 0) 4 1024 ++ s.listed (TRBC.LEFT n 0) 4 1024)) (fun t u => u.mapperStart n t)

end Sys2Proof.Machine
end

