-- ==== Sys2Proof/Machine/Receive.lean ====
section
/-! DEFINITION. The receive DSP of a channel over its state: spans of ADC codes to LLRs, adaptation and accumulated figures,
chapter 6 of spec/ (R126 to R139, R149, R152). -/

namespace Sys2Proof.Machine

/-! ## Configuration -/

/-- What the receive stages take from the registers, the calibration set and the loaded profile.  A tile fenced since its stage was last
partitioned keeps its share (R143). -/
def State.rxCfg (s : State) (n : Nat) (p : Profile) : RxCfg :=
  let live (l : List Nat) : List Nat := l.filter (fun t => s.rd (LDS_TILE_STAT.STATE n t) = 0 || (s.chan n).dsp.bad.contains t)
  { delays := (List.range 4).map (fun a => toSigned 16 (memLe s.applied (0x2000 * n + 0x1278 + 2 * a) 2)),
    adcRate := 600 * s.rd (CNV_RATE.RX_ACT n), rs := p.rs, ppm := s.rdS (LDS_CLK_STAT.PPM n), target := s.rdS (LDS_CD_EST.EST n),
    cdTiles := live p.tCd, mimoTiles := live p.tMimo, nlcTiles := live p.tNlc,
    cancel := if s.on (LDS_LQ_STAT.ISC_CANC n) then some (spreadCode (s.rd (ISC_STAT.CODE_FOUND n))) else none,
    fofs := s.rdS (LDS_CR_STAT.FOFS n), mu := s.rd (LDS_EQ_CTRL.MU n), alpha := 1024 * s.rd (LDS_NLC_STAT.ALPHA_NOW n),
    adapt := s.on (LDS_NLC_CTRL.ADAPT n), m := p.m, counts := p.composition }

/-! ## One span -/

/-- Erases the first k of a list of symbols' marks. -/
def eraseFirst (k : Nat) (l : List Smp) : List Smp := l.mapIdx (fun i s => { s with ok := s.ok && decide (k ≤ i) })

/-- LLRs of a span's data symbols: X label, then Y label, in the order of R181. -/
def spanLlrs (p : Profile) (d : RxDsp) (c : RxCfg) (sp : Span) : List (Int × Int) :=
  let l := eraseFirst d.slip sp.comp
  if p.interop then
    (Config.standardLlrs p.code (l.map (fun s => (s.x.re, s.x.im, s.y.re, s.y.im)))).map (fun v => (quantise v, v))
  else (dataSymbols 0 l).flatMap (fun s => demap c.m c.counts d.noise.1 s.ok s.x ++ demap c.m c.counts d.noise.2 s.ok s.y)

/-- Energies of known pilots and of the compensated symbols' distance from them. -/
def pilotEnergy (l : List (Cpx × Cpx)) : Nat × Nat := ((l.map (fun q => q.2.norm)).sum, (l.map (fun q => (q.1.sub q.2).norm)).sum)

/-- Compensated symbols of a polarisation at the pilots, with the pilots. -/
def spanPilots (g : Smp → Cpx) (h : Cpx × Cpx → Cpx) (sp : Span) : List (Cpx × Cpx) :=
  (List.zip sp.comp sp.pil).filterMap (fun q => q.2.map (fun v => (g q.1, h v)))

def addPair (a b : Nat × Nat) : Nat × Nat := (a.1 + b.1, a.2 + b.2)

/-- Error energy of the data symbols from their nearest points, and their number. -/
def spanErrors (c : RxCfg) (sp : Span) : Nat × Nat :=
  let l := dataSymbols 0 sp.comp
  let e (y : Cpx) : Nat := (y.sub (decide2 c.m c.counts y)).norm
  (2 * l.length, (l.map (fun s => e s.x + e s.y)).sum)

/-- The noise estimate after a span's pilots: over windows of 4,096 pilots (R138). -/
def noiseNext (d : RxDsp) (k ex ey : Nat) : RxDsp :=
  let s := (d.noiseSum.1 + k, d.noiseSum.2.1 + ex, d.noiseSum.2.2 + ey)
  if 4096 ≤ s.1 then { d with noise := (s.2.1 / s.1, s.2.2 / s.1), noiseSum := (0, 0, 0) } else { d with noiseSum := s }

/-- Energy of the difference of two lists of filters. -/
def changeEnergy (a b : List (List Cpx)) : Nat :=
  ((List.zipWith (fun u v => (List.zipWith (fun x y => (x.sub y).norm) u v).sum) a b)).sum

/-- What the receive DSP holds after a span: adapted filters, advanced pilot registers, accumulated figures and new LLRs. -/
def spanNext (p : Profile) (c : RxCfg) (d : RxDsp) (sp : Span) : RxDsp :=
  let px := spanPilots Smp.x Prod.fst sp
  let py := spanPilots Smp.y Prod.snd sp
  let ex := pilotEnergy px
  let ey := pilotEnergy py
  let w := adaptTaps c d sp.input sp.syms
  let k := ceilDiv sp.syms.length 64
  let d1 := noiseNext d px.length ex.2 ey.2
  { d1 with taps := w, fb := adaptFeedback c d sp.syms, pilot := d.pilot.map (fun r => (pilotAfter k r.1, pilotAfter k r.2)),
            dec := (((sp.syms.drop (sp.syms.length - 4)).map (fun s => (s.x.d, s.y.d))).reverse ++ d.dec).take 4,
            llr := d.llr ++ spanLlrs p d c sp, bad := [], slip := d.slip - sp.comp.length,
            px := addPair d.px ex, py := addPair d.py ey, evm := addPair d.evm (spanErrors c sp),
            update := d.update + changeEnergy d.taps w, cx := addPair d.cx ex, cy := addPair d.cy ey }

/-- Drift of the carrier over a span in MHz: the mean turn of the X pilots' phases from one to the next (R136). -/
def spanDrift (c : RxCfg) (sp : Span) : Int :=
  let ph := pilotPhases ((spanPilots Smp.x Prod.fst sp).map (fun q => q.1.mul q.2.conj))
  let k := ph.length - 1
  roundQ ((List.zipWith (fun a b => wrapAngle (b - a)) ph ph.tail).sum * (10 * c.rs : Nat)) (k * 64 * 2 ^ 32)

/-- The pilots' errors with the perturbation per unit of α at each (R137). -/
def spanAlpha (d : RxDsp) (sp : Span) : List (Cpx × Cpx) :=
  let dx := sp.syms.map (fun s => s.x.d)
  let dy := sp.syms.map (fun s => s.y.d)
  (List.zip sp.comp sp.pil).zipIdx.filterMap (fun q => q.1.2.map (fun v =>
    (perturbation cpxOne (tripletSum d.nlc (cpxAt dx) (cpxAt dy) q.2), q.1.1.x.sub v.1)))

/-- A span of ADC codes passes the stages of Table 6.1 (R126). -/
def State.receiveSpan (n : Nat) (adc : List (List Int)) (s : State) : State :=
  match s.rxProfile n with
  | none => s
  | some p =>
    if adc.isEmpty then s
    else
      let c := s.rxCfg n p
      let d := (s.chan n).dsp
      let sp := rxPath c d adc
      let l := spanLlrs p d c sp
      (s.onDsp n (fun d => { spanNext p c d sp with bad := d.bad.filter (fun t => s.rd (LDS_TILE_STAT.STATE n t) = 2) })).countFor n .lds 0x05 (l.countP (fun v => v.1 = 0)) none
        |>.when d.pilot.isSome (fun t => t.putS (LDS_CR_STAT.FOFS n) (max (-3600) (min 3600 (c.fofs + spanDrift c sp))))
        |>.when (c.adapt && !d.nlc.isEmpty) (fun t =>
          t.put (LDS_NLC_STAT.ALPHA_NOW n) (max 0 (min 4095 (adaptAlpha c.alpha (spanAlpha d sp) / 1024))).toNat)

/-! ## What acquisition does with a span (Table 6.4) -/

/-- Step 3: the blind regime leaves taps that the signal alone decides (R134). -/
def State.blindTaps (n : Nat) (s : State) : State :=
  let k := s.draw.1
  let tap (f i : Nat) : Cpx := let v := Config.blindTap k f i; ⟨v.1, v.2⟩
  s.draw.2.onDsp n (fun d => { d with taps := (List.range 4).map (fun f => (List.range 65).map (tap f)) })

/-- Step 5: the two pilot sequences resolve the polarisations and their phases (R135). -/
def State.syncPilots (n : Nat) (adc : List (List Int)) (s : State) : State :=
  match s.rxProfile n with
  | none => s
  | some p =>
    let c := s.rxCfg n p
    s.onDsp n (fun d => pilotSync d (derotate c (mimoStage c { d with swap := false, turnX := 0, turnY := 0 } (preStages c d.bad adc))))

/-- Decision feedback starts with taps of 0, where the profile has it. -/
def RxDsp.feedbackOn (on : Bool) (d : RxDsp) : RxDsp :=
  { d with fb := if on then (if d.fb.isEmpty then List.replicate 4 (List.replicate 4 ⟨0, 0⟩) else d.fb) else [] }

end Sys2Proof.Machine
end

