-- ==== Sys2Proof/Machine/Fec.lean ====
section
/-! DEFINITION. Soft-decision decoder and encoder: chapter 8 of spec/ (R186 to R204). -/

namespace Sys2Proof.Machine

/-- LLR_INJECT feeds the decoder of channel n (R201). -/
def State.injecting (s : State) (n : Nat) : Bool :=
  s.on FAB_PERT_CTRL.EN && s.rd FAB_PERT_CTRL.CH = n && bit (s.rd FAB_PERT_CTRL.TYPE) 3 = 1

/-- Resident codewords of channel n, oldest first. -/
def State.cws (s : State) (n : Nat) : List Codeword := (s.flow.get n).cws

/-- FEC_OCC follows the occupancy. -/
def State.fecOcc (n : Nat) (s : State) : State :=
  let occ := (s.cws n).length
  (s.put (FEC_OCC.OCC n) occ).put (FEC_OCC.MAX n) (Nat.max occ (s.rd (FEC_OCC.MAX n)))

/-! ## Output (R189, R192) -/

/-- Adds the output of codeword q in its place. -/
def insertOut (q : Nat) (b : List (Bool × Bool)) : List (Nat × List (Bool × Bool)) → List (Nat × List (Bool × Bool))
  | [] => [(q, b)]
  | e :: l => if q < e.1 then (q, b) :: e :: l else e :: insertOut q b l

/-- The oldest codeword that has not left: the oldest resident, or the next to come. -/
def State.oldest (s : State) (n : Nat) : Nat :=
  match s.cws n with
  | [] => (s.flow.get n).led.cwIn + 1
  | w :: _ => w.seq

/-- Output that waits for no older codeword goes on; what no later check needs is forgotten. -/
def LineRx.drain (q : Nat) (x : LineRx) : LineRx :=
  { x with base := if x.bits.isEmpty && x.bits12.isEmpty && !x.due then ((x.queue.head?).elim x.base (·.1)) else x.base,
           bits12 := x.bits12 ++ ((x.queue.filter (fun e => e.1 < q)).map (·.2)).flatten,
           queue := x.queue.filter (fun e => !(e.1 < q)), past := x.past.filter (fun p => q ≤ p.seq + 4) }

/-- A LINE token crosses link 0x12: it carries UNCORR when any of its bits comes from a codeword that was not corrected. -/
def LineRx.move12 (x : LineRx) : LineRx :=
  if x.bits12.length < 512 then x
  else
    let t := x.bits12.take 512
    { x with bits := x.bits ++ t.map (fun b => (b.1, t.any (·.2))), bits12 := x.bits12.drop 512, seq12 := (x.seq12 + 1) % 1024 }

/-- Codeword q of geometry g is dropped, and its bits are erased for later checks (R196). -/
def State.eraseCw (n q : Nat) (g : Geo) (s : State) : State := s.onRx n (fun x => { x with past := ⟨q, g.info, none⟩ :: x.past })

/-- Codeword q of geometry g is replaced by fill (R192). -/
def State.fill (n q : Nat) (g : Geo) (s : State) : State :=
  (s.onRx n (fun x => { x with queue := insertOut q (List.replicate g.data (false, true)) x.queue })).bump (FEC_CNT_DROP.FILL n)
    |>.count n .fec 0x07

/-! ## Checks (R183 to R186, R189) -/

/-- How the codeword with number q appears to the checks of one of geometry g, with its own geometry where it is resident. -/
def seenAt (l : List Codeword) (x : LineRx) (g : Geo) (q : Nat) : Geo × Seen :=
  match l.find? (fun w => w.seq = q) with
  | some w => (w.geo, .resident w.post)
  | none =>
    match x.past.find? (fun p => p.seq = q) with
    | some p => (g, match p.info with
      | some i => .known i
      | none => .erased p.size)
    | none => (g, if x.zero then .known [] else .erased g.info)

/-- Codewords t, t − 1, … t − 4 as the checks of w see them. -/
def window (l : List Codeword) (x : LineRx) (w : Codeword) : List (Geo × Seen) :=
  (List.range 5).map (fun j => if w.seq < j then (w.geo, if x.zero then Seen.known [] else .erased w.geo.info) else seenAt l x w.geo (w.seq - j))

/-- Check c of w is satisfied by the hard decisions. -/
def checkHolds (l : List Codeword) (x : LineRx) (w : Codeword) (c : Nat) : Bool :=
  w.geo.satisfied ((window l x w).map (fun q => q.2.decided q.1)) ((w.geo.parityPart w.post).map hard) c

/-- The checks that condition 1 names are satisfied: those of w, and those of the resident codewords t + 1 to t + 4 that involve a
bit of w. -/
def goodCw (l : List Codeword) (x : LineRx) (w : Codeword) : Bool :=
  (List.range w.geo.p).all (checkHolds l x w)
    && (l.filter (fun v => w.seq < v.seq && v.seq ≤ w.seq + 4)).all (fun v =>
      (List.range v.geo.p).all (fun c => (v.geo.taken c (v.seq - w.seq) w.geo.info).isEmpty || checkHolds l x v c))

/-- One pass over the checks of w: what resident codewords hold after it (R186). -/
def passOver (l : List Codeword) (x : LineRx) (w : Codeword) : List Codeword :=
  let seen := window l x w
  let p0 : PassState := ⟨w.geo.parityPart w.post, seen.map (fun q => (match q.2 with
    | .resident _ => true
    | _ => false, q.2.llrs q.1))⟩
  let r := w.geo.pass (seen.map (fun q => q.2.count q.1)) w.msgs (List.range w.geo.p) p0
  let info (j : Nat) : List Int := (r.2.infos.getD j (false, [])).2
  l.map (fun v =>
    if v.seq = w.seq then { v with msgs := r.1, post := weave 0 (v.geo.m / 2) r.2.par v.geo.signs (info 0) }
    else if v.seq < w.seq && w.seq ≤ v.seq + 4 then
      { v with post := weave 0 (v.geo.m / 2) (v.geo.parityPart v.post) v.geo.signs (info (w.seq - v.seq)) }
    else v)

/-! ## Release (R189, R190) -/

/-- Why a codeword is released: under pressure, at MAX iterations, or by the fence of the tile that holds its LLRs (R143). -/
structure Rel where
  forced : Bool
  maxit : Bool
  lost : Bool

/-- Condition 1: the four codewords that follow the one with number q are resident. -/
def tailResident (q : Nat) (l : List Codeword) : Bool := [1, 2, 3, 4].all (fun k => l.any (fun w => w.seq = q + k))

/-- Conditions 1 and 2 for a codeword, pressure apart; in an interoperable mode a block is ready once its engine has
decoded it (R200). -/
def State.cwReady (s : State) (n : Nat) (l : List Codeword) (w : Codeword) : Bool :=
  if w.geo.standard then 0 < w.iter
  else (s.on (FEC_ITER_CTRL.EARLY n) && s.rd (FEC_ITER_CTRL.MIN n) ≤ w.iter && tailResident w.seq l && goodCw l (s.chan n).rx w)
    || s.rd (FEC_ITER_CTRL.MAX n) ≤ w.iter

/-- Condition 3: a pressure release. -/
def State.cwPressed (s : State) (n : Nat) (l : List Codeword) (w : Codeword) : Bool :=
  !w.geo.standard && s.rd (FEC_BUDGET.EFF n) ≤ l.length + s.rd (FEC_ITER_CTRL.HWM n) && s.rd (FEC_ITER_CTRL.MIN n) ≤ w.iter

/-- What a codeword gives at its release. -/
structure Released where
  /-- data bits in the order of link 0x12 -/
  data : List Bool
  /-- information bits, as later checks see them -/
  info : List Bool
  /-- coded bits as decided -/
  coded : List Bool
  /-- blocks that fail dematching -/
  comp : Nat
  uncorr : Bool

/-- Decides a codeword at its release; LLR_INJECT bypasses dematching (R201). -/
def State.decideCw (s : State) (n : Nat) (w : Codeword) (lost : Bool) : Released :=
  if w.geo.standard then
    let r := Config.blockDecode w.geo.code w.llr
    ⟨r.1, r.1, Config.blockEncode w.geo.code r.1, 0, lost || !r.2⟩
  else
    let x := w.post.map hard
    let info := w.geo.infoPart x
    let d := if s.injecting n then (info, 0) else w.geo.dataOf x
    ⟨d.1, info, x, d.2, lost || 0 < d.2 || !goodCw (s.cws n) (s.chan n).rx w⟩

/-- Input bits that disagree with the coded bits released; an LLR of 0 disagrees. -/
def disagree (llr : List Int) (coded : List Bool) : Nat := (List.zip llr coded).countP (fun q => q.1 = 0 || hard q.1 != q.2)

/-- Sum over a codeword's bits of log2(1 + e^(−(1 − 2b) λ)) (Table 6.5). -/
def gmiSum (soft : List Int) (coded : List Bool) : Nat :=
  ((List.zip soft coded).map (fun q => Config.softBits (if q.2 then -q.1 else q.1))).sum

/-- One sampling record (Table 8.7). -/
def State.sample (n : Nat) (w : Codeword) (r : Rel) (uncorr : Bool) (corr comp : Nat) (s : State) : State :=
  let p := s.rd (FEC_SMP_STAT.PTR n)
  let iter := if w.geo.standard then 0 else w.iter
  let e := 0x8500000 + 0x10000 * n + 16 * p
  let f (b : Bool) (k : Nat) : Nat := if b then 2 ^ k else 0
  let s1 := s.put64 (e + 8) (Nat.min corr 0xFFFF * 2 ^ 48 + iter % 32 * 2 ^ 43 + (s.time - w.t0) % 2 ^ 32)
    |>.put64 e (2 ^ 63 + f uncorr 62 + f r.forced 61 + f r.maxit 60 + f (0 < comp) 59 + n * 2 ^ 54
        + (w.last.getD 0x3F) * 2 ^ 48 + w.seq % 2 ^ 48)
    |>.addWrap (FEC_SMP_STAT.PTR n) 1
  s1.when (s.on (FEC_SMP_CTRL.MODE n) && p = 4095) (fun t =>
    (t.put (FEC_SMP_STAT.FULL n) 1 |>.put (FEC_SMP_STAT.RUN n) 0).raiseCh n 0x33)

/-- A candidate passes FILT (Table 8.13). -/
def State.filtered (s : State) (n : Nat) (w : Codeword) (r : Rel) (uncorr : Bool) : Bool :=
  match s.rd (FEC_SMP_CTRL.FILT n) with
  | 0 => true
  | 1 => uncorr
  | 2 => s.rd (FEC_SMP_CTRL.ITHR n) ≤ (if w.geo.standard then 0 else w.iter)
  | _ => uncorr || r.forced

/-- Counts and events of an uncorrectable release (R194). -/
def State.uncorrectable (n : Nat) (s : State) : State :=
  s.bump (FEC_CNT_UNC.COUNT n) |>.put (FEC_STAT.UNC_EV n) 1 |>.raiseCh n 0x30 |>.count n .fec 0x05
    |>.addSat (ISCC.UNC n) 1 |>.addSat (FECC.WINCNT n) 1 |>.put (LDSC.WIN_UNC n) 1

/-- A codeword released corrected enters the link-quality figures (Table 6.5). -/
def State.countBits (n : Nat) (w : Codeword) (coded : List Bool) (s : State) : State :=
  s.onDsp n (fun d => { d with gmi := addPair d.gmi (gmiSum w.soft coded, w.geo.labels),
                               ber := addPair d.ber (coded.length, disagree w.llr coded) })

/-- A codeword is released; the test of R201 delivers nothing to LFR. -/
def State.cwRelease (n : Nat) (w : Codeword) (r : Rel) (s : State) : State :=
  let d := s.decideCw n w r.lost
  let corr := disagree w.llr d.coded
  s.flowOp n (Flow.cwLeave (fun x => x.seq = w.seq) d.uncorr)
    |>.onRx n (fun x => { x with past := ⟨w.seq, w.geo.info, some d.info⟩ :: x.past })
    |>.when (!s.injecting n) (·.onRx n (fun x => { x with queue := insertOut w.seq (d.data.map (fun b => (b, d.uncorr))) x.queue }))
    |>.countFor n .fec 0x01 corr none
    |>.when r.forced (·.count n .fec 0x03) |>.when r.maxit (·.count n .fec 0x04)
    |>.when (0 < d.comp) (fun t => (t.addSat (FEC_CNT_DROP.COMP n) d.comp |>.put (FEC_STAT.COMP_EV n) 1).countFor n .fec 0x06 d.comp none)
    |>.when d.uncorr (·.uncorrectable n) |>.when (!d.uncorr && !s.injecting n) (·.countBits n w d.coded)
    |>.when (s.injecting n) (fun t => (t.addWrap (FECC.BITS n) w.geo.info).addWrap (FECC.ERRS n) (d.info.countP (· = true)))
    |>.when (w.cand && s.on (FEC_SMP_STAT.RUN n) && s.filtered n w r d.uncorr) (·.sample n w r d.uncorr corr d.comp)

/-- Releases in ascending order, at most k of them.  A release that condition 1 or 2 asks for is no pressure release, though
condition 3 holds too: the spec does not say (DESIGN CHOICE, log entry 43). -/
def State.releases (n : Nat) : Nat → State → State
  | 0, s => s
  | k + 1, s =>
    match s.cws n with
    | [] => s
    | w :: l =>
      let ready := s.cwReady n (w :: l) w
      if ready || s.cwPressed n (w :: l) w then
        (s.cwRelease n w ⟨!ready, !w.geo.standard && s.rd (FEC_ITER_CTRL.MAX n) ≤ w.iter, false⟩).releases n k
      else s

/-! ## Engines (R186) -/

/-- Engine e of channel n is ACTIVE and works on nothing. -/
def State.engineFree (s : State) (n e : Nat) : Bool :=
  s.rd (FEC_ENG_STAT.STATE n e) = 0 && s.rdBit (FEC_ENG_ACT.ACTIVE n) e && (s.cws n).all (fun w => w.engine ≠ some e)

/-- A free engine takes the oldest codeword that is not ready and lies five positions or more from every other engine's. -/
def State.assignEngine (n e : Nat) (s : State) : State :=
  if s.engineFree n e then
    let l := s.cws n
    let busy := l.filter (fun w => w.engine.isSome)
    match l.find? (fun w => w.engine.isNone && !s.cwReady n l w
        && busy.all (fun b => b.seq + 5 ≤ w.seq || w.seq + 5 ≤ b.seq)) with
    | some w => s.onFlow n (Flow.cwMap (fun x => if x.seq = w.seq then { x with engine := some e } else x))
    | none => s
  else s

/-- Output goes on as far as older codewords allow. -/
def State.drainOut (n : Nat) (s : State) : State := s.onRx n (LineRx.drain (s.oldest n))

/-- What follows an arrival or an engine completion: releases, then free engines take work. -/
def State.decoderTurn (n : Nat) (s : State) : State :=
  (((s.releases n (s.cws n).length).drainOut n).each (List.range 24) (fun e t => t.assignEngine n e)).fecOcc n

/-- Engine e's pass over the codeword that it holds; a block of an interoperable code is decoded as a whole (R200). -/
def State.passDone (n e : Nat) (w : Codeword) (s : State) : State :=
  (s.onFlow n (fun f => { f with cws := (if w.geo.standard then f.cws else passOver f.cws (s.chan n).rx w).map (fun v =>
      if v.engine = some e then { v with engine := none, iter := v.iter + 1, last := some e } else v) })).count n .fec 0x02

/-- An engine completes a pass (R186). -/
def execEnginePassComplete (n : Fin 4) (e : Fin 24) (s : State) : Answer :=
  .next <| match (s.cws n).find? (fun w => w.engine = some e.val) with
    | some w => (s.passDone n e w).decoderTurn n
    | none => s

/-! ## Dispatch (R141, R188) -/

/-- Where the LLRs of a codeword that begins its assembly are placed (R141). -/
def State.placement (s : State) (n : Nat) : Option Nat :=
  if (s.cws n).countP (fun w => w.lent.isNone) < 2048 then none
  else match s.rxProfile n with
    | some p => (List.range 96).find? (fun t => p.tCd.contains t && s.rd (LDS_TILE_STAT.STATE n t) = 0
        && (s.cws n).countP (fun w => w.lent = some t) < 256)
    | none => none

/-- The sampling period advances by one dispatch; the answer says whether it is the period's candidate (R202).  A period that PERIOD
is lowered below ends at this dispatch with no candidate: the spec does not say (DESIGN CHOICE, log entry 43). -/
def State.sampleTurn (n : Nat) (s : State) : Bool × State :=
  if s.on (FEC_SMP_STAT.RUN n) then
    let c := s.rd (FECC.SMPCNT n) + 1
    let per := s.rd (FEC_SMP_CTRL.PERIOD n)
    let s1 := if c = 1 then (s.draw.2).put (FECC.PICK n) (s.draw.1 % per) else s
    let pick := if s.on (FEC_SMP_CTRL.RND n) then c = s1.rd (FECC.PICK n) + 1 else c = per
    (pick, s1.put (FECC.SMPCNT n) (if per ≤ c then 0 else c))
  else (false, s)

/-- Takes k assembled LLRs; one that was not delivered is erased. -/
def State.takeLlrs (n k : Nat) (s : State) : List (Int × Int) × State :=
  let l := (s.chan n).dsp.llr
  (l.take k ++ List.replicate (k - l.length) (0, 0), s.onDsp n (fun d => { d with llr := d.llr.drop k }))

/-- LLRs of the all-zero codeword that LLR_INJECT makes (R201). -/
def State.injected (k : Nat) (s : State) : List (Int × Int) × State :=
  let v := s.draw.1
  ((List.range k).map (fun i =>
    let x := Config.noisyLlr v i (s.rdS FAB_PERT_LLR.ESN0)
    (max (-31) (min 31 x), 2 ^ 15 * x)), s.draw.2)

/-- LINE tokens that a codeword's 6-bit LLRs fill on link 0x11 (R138, log entry 39). -/
def llrTokens (k : Nat) : Nat := ceilDiv (6 * k) 512

/-- An assembled codeword is dispatched. -/
def State.dispatchCw (n : Nat) (g : Geo) (l : List (Int × Int)) (s : State) : State :=
  let c := s.sampleTurn n
  let s1 := c.2.flowOp n (Flow.cwEnter s.time (s.placement n) c.1 g l)
  s1.countOcc n .lds 0x09 ((s1.cws n).countP (fun w => w.lent.isNone)) 1

/-- A codeword is presented and dropped (R188). -/
def State.dropCw (n : Nat) (g : Geo) (s : State) : State :=
  let q := (s.flow.get n).led.cwIn + 1
  ((s.flowOp n (Flow.cwReject .budget)).eraseCw n q g |>.put (FEC_STAT.DROP_EV n) 1).when (s.holdsLock n) (·.fill n q g)

/-- A codeword's LLRs are assembled, or the demapper overruns the assembly (R188): `adc` holds the codes received since the last
one, XI, XQ, YI, YQ. -/
def execCodewordAssembled (n : Fin 4) (overrun : Bool) (adc : List (List Int)) (s : State) : Answer :=
  .next <| match s.rxProfile n with
    | none => s
    | some p => s.when (s.on (FEC_STAT.CW_ALIGN n)) (fun t0 =>
      let t := t0.when (!t0.injecting n) (·.receiveSpan n adc)
      let g := p.geo
      let r := if t.injecting n then t.injected g.coded else t.takeLlrs n g.coded
      let u := if overrun || t.rd (FEC_BUDGET.EFF n) ≤ (t.cws n).length then r.2.dropCw n g else r.2.dispatchCw n g r.1
      (u.countOcc n .fec 0x08 (u.cws n).length (llrTokens g.coded)).decoderTurn n)

/-- FEC_SMP_CTRL: ARM starts and stops sampling (R202). -/
def smpHook (n : Nat) (s0 : State) : Hook :=
  ⟨fun _ _ _ => 0, fun l s =>
    (match wrote l (FEC_SMP_CTRL.ARM n) with
     | some 1 => s.when (s0.rd (FEC_SMP_CTRL.ARM n) = 0) (fun t => (t.put (FEC_SMP_STAT.RUN n) 1).put (FECC.SMPCNT n) 0)
     | some _ => s.put (FEC_SMP_STAT.RUN n) 0
     | none => s, 0)⟩

/-- The 16 codewords that a candidate start gives, of the LLRs from there on. -/
def candidates (g : Geo) (offset : Nat) (l : List (Int × Int)) : List Codeword :=
  (pieces g.coded 16 (l.drop (2 * g.m * offset))).zipIdx.map (fun c =>
    ⟨c.2 + 1, 0, 0, none, none, none, false, g, c.1.map (·.1), c.1.map (·.2), c.1.map (·.1), []⟩)

/-- One iteration of each of a list of codewords, oldest first. -/
def iterateAll (x : LineRx) : List Nat → List Codeword → List Codeword
  | [], l => l
  | q :: qs, l =>
    match l.find? (fun w => w.seq = q) with
    | some w => iterateAll x qs (passOver l x w)
    | none => l

/-- Fewer than 10% of the checks of 16 consecutive codewords are unsatisfied after two iterations (R193). -/
def alignPasses (g : Geo) (offset : Nat) (l : List (Int × Int)) : Bool :=
  let order := (List.range 16).map (· + 1)
  let w := iterateAll LineRx.none (order ++ order) (candidates g offset l)
  decide (16 * g.coded + 2 * g.m * offset ≤ l.length)
    && decide (10 * (w.map (fun c => (List.range g.p).countP (fun k => !checkHolds w LineRx.none c k))).sum < 16 * g.p)

/-- Alignment is declared: LLRs before the first codeword are dropped, and knowledge of a chain begins, whose earlier bits are known
to be zero where LLR_INJECT makes it (R184, R201). -/
def State.aligned (n : Nat) (g : Geo) (offset : Nat) (s : State) : State :=
  (s.put (FEC_STAT.CW_ALIGN n) 1).onDsp n (fun d => { d with llr := d.llr.drop (2 * g.m * offset) })
    |>.onRx n (fun x => { x with zero := s.injecting n })

/-- A candidate start, at a data-symbol offset from the pilot grid, is tested (R193); the framing of an interoperable mode, or the
source of LLR_INJECT, decides by itself (R200, R201): step 7 of Table 6.4. -/
def execCodewordAlignment (n : Fin 4) (offset : Fin 3500) (s : State) : Answer :=
  .next <| match s.rxProfile n with
    | none => s
    | some p => s.when (!s.on (FEC_STAT.CW_ALIGN n)) (fun t =>
      if t.injecting n then t.aligned n p.geo 0
      else if t.chSt n = ChSt.acquiring && t.rd (LDS_ACQ_STAT.STEP n) = 7
          && (p.interop || alignPasses p.geo offset (t.chan n).dsp.llr) then
        (t.aligned n p.geo offset).put (LDS_ACQ_STAT.STEP n) 8
      else t)

/-! ## Engine faults (R195 to R197) -/

/-- A single residue mismatch: the pass is repeated and not counted. -/
def execEngineResidueMismatch (n : Fin 4) (e : Fin 24) (s : State) : Answer :=
  .next <| s.when ((s.cws n).any (fun w => w.engine = some e.val)) (·.bump (FEC_ENG_STAT.ERRCNT n e))

/-- Engine e is fenced with its detector. -/
def State.engineFence (n e cause : Nat) (s : State) : State :=
  let held := (s.cws n).filter (fun w => w.engine = some e)
  s.put (FEC_ENG_STAT.STATE n e) 2 |>.when (s.rd (FEC_ENG_STAT.CAUSE n e) = 0) (·.put (FEC_ENG_STAT.CAUSE n e) cause)
    |>.putBit (FEC_ENG_ACT.ACTIVE n) e false |>.putBit (FEC_ENG_FNC.FENCED n) e true
    |>.put (FEC_STAT.FENCE_EV n) 1 |>.raiseCh n 0x32
    |>.flowOp n (Flow.cwDropAll .fence (fun w => w.engine = some e))
    |>.each held (fun w t => (t.eraseCw n w.seq w.geo).fill n w.seq w.geo)
    |>.drainOut n |>.rebudget n |>.fecOcc n |>.unitChanged n true

/-- A detector of Table 8.5 fires on an engine that is ACTIVE or IDLE. -/
def State.engineFault (n e cause : Nat) (s : State) : State :=
  s.when (s.answers && s.rd (FEC_ENG_STAT.STATE n e) ≤ 1) (·.engineFence n e cause)

def execEngineResidueFault (n : Fin 4) (e : Fin 24) (s : State) : Answer := .next (s.engineFault n e 0x2)

def execEngineHandshakeFault (n : Fin 4) (e : Fin 24) (s : State) : Answer := .next (s.engineFault n e 0x3)

/-- FEC_ENG_CMD is refused on an engine that is neither ACTIVE nor IDLE, and on the last ACTIVE one while the channel is not
DARK. -/
def State.engineRefused (s : State) (n e : Nat) : Bool :=
  1 < s.rd (FEC_ENG_STAT.STATE n e)
    || (s.rdBit (FEC_ENG_ACT.ACTIVE n) e && popcount (s.rd (FEC_ENG_ACT.ACTIVE n)) 24 = 1 && s.chSt n ≠ ChSt.dark)

def engineForceHook (n : Nat) : Hook :=
  ⟨fun s f v => if f = FEC_ENG_CMD.FORCE n && v = 1 && s.engineRefused n (s.rd (FEC_ENG_SEL.ENGINE n)) then badState else 0,
   fun l s => (s.when (wroteOne l (FEC_ENG_CMD.FORCE n)) (fun t => t.engineFault n (t.rd (FEC_ENG_SEL.ENGINE n)) 0x4), 0)⟩

def execEngineForce (win : Fin 7) (n : Fin 4) (value : Word) (be : Fin 16) (s : State) : Answer :=
  .next (s.hostWrite ⟨win, chanAddr n 0x300020, value.toNat, be⟩ (engineForceHook n))

/-- The encoder's two parity computations differ; `second`: on the codeword computed again (R198). -/
def execEncoderParityMismatch (n : Fin 4) (second : Bool) (s : State) : Answer :=
  .next <| s.when (s.phase n = Phase.lit) (fun t =>
    ((t.put (FEC_STAT.ENC_EV n) 1).count n .fec 0x09).when second (fun u => (u.put (FNC.TXP n) 1).fenceChannel n))

/-! ## Degrade (R194) and control (R204) -/

/-- A window of FEC_DEG_CFG.WIN ends. -/
def execFecDegradeWindowEnd (n : Fin 4) (s : State) : Answer :=
  .next <| s.when s.answers (fun t =>
    let thr := t.rd (FEC_DEG_CFG.THR n)
    let c := t.rd (FECC.WINCNT n)
    let t1 := t.put (FECC.WINCNT n) 0
    if thr = 0 then t1.put (FECC.LOWWIN n) 0
    else if thr ≤ c then
      (t1.put (FECC.LOWWIN n) 0).when (!t.on (FEC_STAT.DEG n)) (fun u =>
        (u.put (FEC_STAT.DEG n) 1 |>.put (FEC_STAT.DEG_EV n) 1).raiseCh n 0x31)
    else (t1.put (FECC.LOWWIN n) 1).when (t.on (FECC.LOWWIN n)) (·.put (FEC_STAT.DEG n) 0))

/-- A write of FEC_ITER_CTRL is judged as one value: MIN from 1 to MAX, MAX from 1 to 31. -/
def iterHook (n value : Nat) : Hook :=
  let lo := (FEC_ITER_CTRL.MIN n).of value
  let hi := (FEC_ITER_CTRL.MAX n).of value
  ⟨fun _ _ _ => if 1 ≤ lo && lo ≤ hi then 0 else 4, fun _ s => (s, 0)⟩

def execIterationControlWrite (win : Fin 7) (n : Fin 4) (value : Word) (be : Fin 16) (s : State) : Answer :=
  .next (s.hostWrite ⟨win, chanAddr n 0x300004, value.toNat, be⟩ (iterHook n value.toNat))

end Sys2Proof.Machine
end

