-- ==== Sys2Proof/Machine/Framer.lean ====
section
/-! DEFINITION. Line framer on receive: chapter 9 of spec/ (R205 to R218, R223), and the separation of sealed units (R287).
-/

namespace Sys2Proof.Machine

/-! ## Delineation (R209) -/

/-- Frame detection on entry to SYNC (R209): the AGC freezes, and a receiver at step 8 of Table 6.4 is LOCKED. -/
def State.frameDetect (n : Nat) (s : State) : State :=
  let s1 := s.put (LFR_STAT.FSTATE n) 2 |>.put (LFR_STAT.FD_EV n) 1 |>.raiseCh n 0x40 |>.put (LFRC.BAD n) 0
    |>.put (LFRC.SRRUN n) 0 |>.put (LFRC.SRAGE n) 0 |>.put (LFRC.BDIRUN n) 0 |>.put (LFRC.MFNV n) 0 |>.agcFreeze n
  if s.chSt n = ChSt.acquiring && s.rd (LDS_ACQ_STAT.STEP n) = 8 then s1.reachLocked n else s1

/-- SYNC is left (R209): a channel that holds lock falls back to ACQUIRING (R39). -/
def State.leaveSync (n : Nat) (s : State) : State :=
  if s.holdsLock n then s.setCh n ChSt.acquiring 0x4 else s.hunt n

/-- The MFN that a header carries next to `prev`: 32 bits, or 16 bits extended by counting in G2 (R228). -/
def State.headerMfn (s : State) (n : Nat) (h : Header) (expected : Nat) : Nat :=
  if s.on (LFR_CTRL.G2 n) then
    if h.mfn % 65536 = expected % 65536 then expected else h.mfn % 65536
  else h.mfn

/-- Multiframe lock from two consecutive good headers that agree (R209). -/
def State.mfTrack (n : Nat) (h : Header) (s : State) : State :=
  let expected := (s.rd (LFRC.MFN n) + (if h.fn = 0 then 1 else 0)) % 2 ^ 32
  let m := s.headerMfn n h expected
  s.put (LFRC.MFN n) m |>.put (LFRC.MFNV n) 1
    |>.when (s.on (LFRC.MFNV n) && m = expected) (fun t => (t.put (LFR_STAT.MF_LOCK n) 1).put (LFR_MFN_RX.MFN n) m)

/-- Switching-request bytes of a good header in SYNC (R211). -/
def State.srTrack (n sr : Nat) (s : State) : State :=
  let run := if s.rd (LFRC.SRRUN n) ≠ 0 && s.rd (LFRC.SR n) = sr then Nat.min 3 (s.rd (LFRC.SRRUN n) + 1) else 1
  let s1 := s.put (LFR_SR_RAW.SR n) sr |>.put (LFRC.SR n) sr |>.put (LFRC.SRRUN n) run
  if run = 3 then
    s1.put (LFR_SR_RX.SR n) sr |>.put (LFR_STAT.SR_VALID n) 1 |>.put (LFR_STAT.SR_UNSTABLE n) 0 |>.put (LFRC.SRAGE n) 0
      |>.count n .lfr 0x06
      |>.when (s.rd (LFR_SR_RX.SR n) ≠ sr) (fun t => (t.put (LFR_STAT.SR_EV n) 1).raiseCh n 0x42)
  else
    let age := Nat.min 32 (s.rd (LFRC.SRAGE n) + 1)
    (s1.put (LFRC.SRAGE n) age).when (age = 32) (·.put (LFR_STAT.SR_UNSTABLE n) 1)

/-- Remote BDI, accepted when 3 consecutive good headers agree (R210). -/
def State.bdiTrack (n : Nat) (b : Bool) (s : State) : State :=
  let run := if s.rd (LFRC.BDIRUN n) ≠ 0 && s.on (LFRC.BDI n) = b then Nat.min 3 (s.rd (LFRC.BDIRUN n) + 1) else 1
  (s.flag (LFRC.BDI n) b |>.put (LFRC.BDIRUN n) run).when (run = 3) (·.flag (LFR_STAT.RX_BDI n) b)

/-- A good header in SYNC. -/
def State.goodHeader (n : Nat) (h : Header) (s : State) : State :=
  s.put (LFRC.BAD n) 0 |>.mfTrack n h |>.srTrack n h.sr |>.bdiTrack n h.bdi

/-- Fields of the last good header, in any state. -/
def State.lastHeader (n : Nat) (h : Header) (s : State) : State :=
  s.put (LFR_STAT.RX_MODE n) h.mode |>.flag (LFR_STAT.RX_RESIZE n) h.resize |>.count n .lfr 0x01

/-- A header at an expected or candidate position in native and custom modes (Table 9.3), with the violated parity bits of the frame
before it. -/
def State.header (n : Nat) (h : Header) (viol : Nat) (s : State) : State :=
  let st := s.rd (LFR_STAT.FSTATE n)
  if st = 0 then
    if h.fasErr ≤ 1 && h.hcs then
      (s.put (LFR_STAT.FSTATE n) 1 |>.put (LFRC.FN n) h.fn |>.put (LFRC.GOOD n) 0).lastHeader n h
    else s
  else
    let exp := (s.rd (LFRC.FN n) + 1) % 4096
    let good := h.fasErr ≤ 4 && h.hcs && h.fn = exp
    let s1 := (s.put (LFRC.FN n) exp).when good (·.lastHeader n h)
    if st = 1 then
      if !good then s1.hunt n
      else if s.rd (LFRC.GOOD n) = 0 then s1.put (LFRC.GOOD n) 1
      else s1.frameDetect n
    else
      let s2 := s1.addSat (LFR_CNT_BIP.COUNT n) viol |>.put (LFRC.REI n) viol |>.countFor n .lfr 0x03 viol none
        |>.addSat (LFR_CNT_REI.COUNT n) h.rei
        |>.when (!h.hcs) (fun t => (t.bump (LFR_CNT_FRM.HCS n)).count n .lfr 0x02)
      if good then s2.goodHeader n h
      else
        let b := s.rd (LFRC.BAD n) + 1
        let s3 := (s2.put (LFRC.BAD n) b).put (LFRC.MFNV n) 0
        if b < 5 then s3 else s3.leaveSync n

/-! ## Frames and units from the data stream (R205, R208, R210, R212, R216, R287) -/

/-- Profile of the frame at hand: one that a resize loads holds from its first codeword on (R185). -/
def State.lineProfile (s : State) (n : Nat) : Option Profile :=
  match (s.chan n).rx.old with
  | some (q, p) => if (s.chan n).rx.base < q then s.profile n p else s.rxProfile n
  | none => s.rxProfile n

/-- A byte of eight received bits carries UNCORR when any of them does. -/
def markedBytes (l : List (Bool × Bool)) : List (Byte × Bool) :=
  (pieces 8 (l.length / 8) l).map (fun p => (BitVec.ofNat 8 (ofMsb (p.map (·.1))), p.any (·.2)))

/-- The payload area of the frame at hand is taken once it has come: its parity, and with multiframe lock the tributaries' bytes. -/
def State.takeFrame (n : Nat) (p : Profile) (s : State) : State :=
  let x := (s.chan n).rx
  let k := 8 * (p.frameBytes - 96)
  if !x.due || x.bits.length < k then s
  else
    let g2 := s.on (LFR_CTRL.G2 n)
    let raw := markedBytes (x.bits.take k)
    let body := List.zip (scrambleBody g2 (raw.map (·.1))) (raw.map (·.2))
    let owners := frameOwners p.tslots (slotBytes p.rs) p.frameBytes (s.chan n).recs (s.rd (LFRC.FN n))
    s.onRx n (fun x => { x with bits := x.bits.drop k, due := false, base := x.base + 36,
                                bip := bipOf g2 (x.head.drop 16 ++ raw.map (·.1)),
                                got := if s.on (LFR_STAT.MF_LOCK n) then takeBody owners body x.got else x.got })

/-- A tenant's opening; a new multiframe's where nothing is held. -/
def LineRx.openingOf (x : LineRx) (t : Nat) : Opening :=
  (x.opening.find? (fun e => e.trib = t)).getD ⟨t, 0, [], [], 0, 0, Option.none, false⟩

def LineRx.setOpening (e : Opening) (x : LineRx) : LineRx :=
  { x with opening := e :: x.opening.filter (fun d => d.trib ≠ e.trib) }

/-- The units that a tenant's bytes hold whole: SEQ, ciphertext and TAG are separated (Table 12.4).  k intervals are tried. -/
def splitUnits (r : TorRec) (mfn : Nat) : Nat → Opening → List (Byte × Bool) → Opening × List (Byte × Bool)
  | 0, o, l => (o, l)
  | k + 1, o, l =>
    let q := sealShare r.cm o.ix
    if 1024 ≤ o.ix then (o, l)
    else if q = 0 then splitUnits r mfn k { o with ix := o.ix + 1 } l
    else if l.length < q + 20 then (o, l)
    else
      let b := l.map (·.1)
      let u : Sealed := ⟨mfn, o.ix, q, ofBytes (b.take 4), ofBytes ((b.drop (q + 4)).take 16), r.gen, r.ki, true⟩
      splitUnits r mfn k { o with ix := o.ix + 1, ct := o.ct ++ (l.drop 4).take q, due := o.due ++ [u] } (l.drop (q + 20))

/-- Separates what tenant t's bytes hold, under its record. -/
def LineRx.separate (t mfn : Nat) (r : TorRec) (x : LineRx) : LineRx :=
  let v := splitUnits r mfn 1025 (x.openingOf t) ((keyed t x.got).getD [])
  { x.setOpening v.1 with got := setKeyed t v.2 x.got }

/-- At the end of a multiframe, what is left of a tenant's bytes is a unit that its positions did not hold whole (R290). -/
def LineRx.closeUnits (mfn : Nat) (e : Nat × TorRec) (x : LineRx) : LineRx :=
  if e.2.enc && e.2.act then
    let x1 := x.separate e.1 mfn e.2
    let o := x1.openingOf e.1
    let l := (keyed e.1 x1.got).getD []
    let u : Sealed := ⟨mfn, o.ix, l.length - 4, ofBytes ((l.map (·.1)).take 4), 0, e.2.gen, e.2.ki, false⟩
    { x1.setOpening { o with ix := 0, ct := o.ct ++ l.drop 4, due := if l.isEmpty then o.due else o.due ++ [u] } with
        got := setKeyed e.1 [] x1.got }
  else x

/-- A native or custom mode's header is read from the data stream, after the payload area of the frame before it: 96 bytes at the
expected place, or in HUNT at each codeword boundary. -/
def State.readHeader (n : Nat) (p : Profile) (s : State) : State :=
  let x := (s.chan n).rx
  if x.due || x.bits.length < 768 then s
  else
    let raw := bitBytes ((x.bits.take 768).map (·.1))
    let h := (headerOf (s.on (LFR_CTRL.G2 n)) raw).1
    let t := s.header n h (popcount (x.bip ^^^ h.bip) 16)
    if t.rd (LFR_STAT.FSTATE n) = 0 then t.onRx n (fun x => { x with bits := x.bits.drop p.dataBits, base := x.base + 1 })
    else t.onRx n (fun x => { x with bits := x.bits.drop 768, head := raw, due := true, tor := true,
                                     mf := if t.on (LFR_STAT.MF_LOCK n) then some (x.base - 36 * t.rd (LFRC.FN n)) else none })

/-- In ZR400 and ZRP400 the standard framing of the mode runs; `locked` is its verdict (R97, R227).  In lock it takes the next block's
client bytes, which are tributary 0's. -/
def State.standardFraming (n : Nat) (p : Profile) (locked : Bool) (s : State) : State :=
  if locked then
    (s.when (s.rd (LFR_STAT.FSTATE n) ≠ 2) (·.frameDetect n)).onRx n (fun x =>
      let k := Config.blockData p.code
      if x.bits.length < k then x
      else
        let bad := (x.bits.take k).any (·.2)
        { x with bits := x.bits.drop k,
                 got := pushKey 0 ((Config.standardUnpack p.code ((x.bits.take k).map (·.1))).map (fun b => (b, bad))) x.got })
  else s.when (s.rd (LFR_STAT.FSTATE n) = 2) (·.leaveSync n)

/-- A frame header is received: in the data stream, or, in an interoperable mode, as the standard framing's verdict `locked`. -/
def execFrameHeaderReceived (n : Fin 4) (locked : Bool) (s : State) : Answer :=
  .next <| s.when (s.on (FEC_STAT.CW_ALIGN n)) (fun t =>
    match t.lineProfile n with
    | none => t
    | some p => if p.interop then t.standardFraming n p locked else (t.takeFrame n p).readHeader n p)

/-! ## Tributary overhead records (R214, R215) -/

/-- Enters a valid copy of tributary t's record: a copy that differs from an earlier one spoils it. -/
def torAdd (t : Nat) (r : TorRec) : List (Nat × Option TorRec) → List (Nat × Option TorRec)
  | [] => [(t, some r)]
  | (a, x) :: l => if a = t then (a, if x = some r then x else none) :: l else (a, x) :: torAdd t r l

/-- The copy of a record in the header at hand, once: frame FN carries that of FN modulo 1,024, or 256 in G2. -/
def State.takeCopy (n : Nat) (s : State) : State :=
  let g2 := s.on (LFR_CTRL.G2 n)
  let r := torOf g2 ((headerOf g2 (s.chan n).rx.head).2.drop 80)
  let u := s.onRx n (fun x => { x with tor := false })
  if !r.1 then (u.bump (LFR_CNT_TOR.CRC n)).count n .lfr 0x04
  else u.when (r.2.1 = s.rd (LFRC.FN n) % s.torCount n) (·.onChan n (fun c => { c with tor := torAdd r.2.1 r.2.2 c.tor }))

def execTorCopyReceived (n : Fin 4) (s : State) : Answer :=
  .next <| s.when (s.on (LFR_STAT.MF_LOCK n) && !s.interop n && (s.chan n).rx.tor) (·.takeCopy n)

/-! ## Generations (R223) -/

/-- What becomes of the tokens of a tributary whose record shows ACT = 1. -/
inductive RxFate where
  | deliver | gen | notrib | cap
  deriving DecidableEq, Repr

/-- The fate of a tributary's tokens under an accepted record with ACT = 1, and what is learned. -/
def State.rxFate (n t : Nat) (r : TorRec) (s : State) : RxFate × State :=
  let st := s.rd (TRB_TRIB.STATE n t)
  if st = Trib.suspended then (.cap, s)
  else if st ≠ Trib.active then (.notrib, s)
  else if s.on (LFR_CTRL.G2 n) then (.deliver, s)
  else if s.on (TRB_TRIB.LEARNED n t) then
    (if s.rd (TRB_TRIB.RX_GEN n t) = r.gen then .deliver else .gen, s)
  else if s.on (TRB_TRIB.LASTV n t) && s.rd (TRB_TRIB.LAST_GEN n t) = r.gen then (.gen, s)
  else (.deliver, (s.put (TRB_TRIB.RX_GEN n t) r.gen).put (TRB_TRIB.LEARNED n t) 1)

/-- The far end has retired its generation: a record with ACT = 0. -/
def State.unlearn (n t : Nat) (s : State) : State :=
  (s.when (s.on (TRB_TRIB.LEARNED n t)) (fun u =>
    (u.put (TRB_TRIB.LAST_GEN n t) (u.rd (TRB_TRIB.RX_GEN n t))).put (TRB_TRIB.LASTV n t) 1)).put (TRB_TRIB.LEARNED n t) 0

/-! ## Received multiframe boundary (R215, R218, R226) -/

/-- Mean client bytes a multiframe that a nominal rate gives, times the symbol rate: 32,896,000,000 × RATE5. -/
def nominalBytes (rate5 : Nat) : Nat := 32896000000 * rate5

/-- Offset in 0.1 ppm of the mean of CM values from the nominal count, nearest, within the field's range (R218). -/
def ppmOf (cms : List Nat) (rate5 rs : Nat) : Int :=
  let d : Int := nominalBytes rate5 * cms.length
  if d = 0 then 0
  else
    let x := (((cms.sum * rs : Nat) - d) * 20000000 + d) / (2 * d)
    if x < -16384 then -16384 else if 16383 < x then 16383 else x

/-- The last 16 values with one more. -/
def cmsAdd (t cm : Nat) : List (Nat × List Nat) → List (Nat × List Nat)
  | [] => [(t, [cm])]
  | (a, l) :: rest => if a = t then (a, (cm :: l).take 16) :: rest else (a, l) :: cmsAdd t cm rest

/-- An accepted record comes into force: REMOTE, KI_RX, the generation rules and the release rate. -/
def State.takeRecord (n t : Nat) (r : TorRec) (s : State) : State :=
  let s1 := (s.flag (TRB_TRIB.REMOTE n t) r.act).flag (TRB_TRIB.KI_RX n t) r.ki
  let s2 := if r.act then (s1.rxFate n t r).2 else s1.unlearn n t
  if r.act then
    let s3 := s2.onChan n (fun c => { c with cms := cmsAdd t r.cm c.cms })
    let l := ((s3.chan n).cms.find? (fun e => e.1 = t)).elim [] (·.2)
    s3.put (TRB_TRIB.PPM n t) (ofSigned 15 (ppmOf l (s.rate5 n (s.rd (TRB_TRIB.CLIENT n t)))
      ((s.rxProfile n).elim 1 (·.rs))))
  else s2

/-- Records that the copies of a multiframe agree on, with ascending tributary. -/
def accepted (l : List (Nat × Option TorRec)) : List (Nat × TorRec) := l.filterMap (fun e => e.2.map (fun r => (e.1, r)))

/-- The multiframe that ends gives its last bytes (R216, R287). -/
def State.endMultiframe (n : Nat) (s : State) : State :=
  match s.lineProfile n with
  | none => s
  | some p =>
    let t := if p.interop then s else s.takeFrame n p
    t.onRx n (fun x => ((t.chan n).recs).foldl (fun y e => y.closeUnits (t.rd (LFR_MFN_RX.MFN n)) e) x)

/-- A received multiframe boundary: the records for the multiframe that begins are accepted or not.  A tributary that sends ACT = 0
leaves no bytes for a later one. -/
def State.rxBoundary (n : Nat) (s : State) : State :=
  s.when (s.on (LFR_STAT.MF_LOCK n)) (fun s0 =>
    let u := s0.endMultiframe n
    let got := if u.interop n then [] else accepted (u.chan n).tor
    let missing := if u.interop n then []
      else (List.range (u.torCount n)).filter (fun t => !(got.any (fun e => e.1 = t)))
    u.addWrap (LFR_MFN_RX.MFN n) 1
      |>.onChan n (fun c => { c with tor := [], recs := got,
                                     rx := { c.rx with mf := some c.rx.base, got := c.rx.got.filter (fun e => !got.any (fun r => r.1 = e.1 && !r.2.act)) } })
      |>.when (!missing.isEmpty) (fun v => (v.addSat (LFR_CNT_TOR.NOJC n) missing.length).put (LFR_STAT.TOR_EV n) 1)
      |>.each missing (fun t v => v.countFor n .lfr 0x05 1 (some t))
      |>.each got (fun e v => v.takeRecord n e.1 e.2)
      |>.hstRefresh n)

end Sys2Proof.Machine
end

