-- ==== Sys2Proof/Machine/Fabric.lean ====
section
/-! DEFINITION. The self-timed fabric: token transfers, slack and its governor, ledger snapshots and the test
perturbation: chapter 2 of spec/ (R46 to R65), with the credits of R237 and R238. -/

namespace Sys2Proof.Machine

/-! ## Credits (R238) -/

/-- Tokens that TRB has room for in tributary t's justification buffer: floor((B_cap − fill) / 64).  In ZR400 and ZRP400, where R217
does not apply, the bound of R24 is the only one (log entry 42). -/
def State.room (s : State) (n t : Nat) : Nat :=
  if s.interop n then 93750 - (s.flow.get n).txRes else (s.bCap n t - 64 * s.held n t .txTrb) / 64

/-- TRB issues credits at its token boundary: every credited client that is UP gets what its room allows. -/
def State.issueCredits (n : Nat) (s : State) : State :=
  s.each (s.listed (TRB_TRIB.CARRY n 0) 16 1024) (fun t u =>
    let c := u.rd (TRB_TRIB.CLIENT n t)
    let want := u.room n t - (u.flow.get n).outstanding c
    u.when (u.entryOf n c = some t && u.credited n c && u.rd (HST_CLI.IN n c) = 1 && 0 < want)
      (·.flowOp n (Flow.crdIssue c want)))

/-! ## Transmit transfers -/

/-- A handshake on an input link of TRB: counted, occupancies sampled, credits issued. -/
def State.trbBoundary (n t : Nat) (s : State) : State :=
  s.count n .trb 0x3E |>.countOccOf n .trb 0x04 (fun i => s.held n i .txTrb) t |>.issueCredits n

/-- Client bytes of tributary t enter its justification buffer. -/
def State.arrive (n t : Nat) (s : State) : State := s.addWrap (TRBC.ARR n t) 64

/-- TRB takes no further token of tributary t: its buffer is full, or the channel holds all the data that R24 lets it. -/
def State.trbFull (s : State) (n t : Nat) : Bool := s.room n t = 0 || !s.withinLine n (s.flow.get n).txRes

/-- What TRB does with a token of a client without credit (R220, R237): it is counted in at TRB. -/
def State.uncredited (n c : Nat) (data : BitVec 512) (s : State) : State :=
  let accept (u : Nat) : State :=
    if s.trbFull n u then s.flowOp n (Flow.txReject .gmp) else (s.flowOp n (Flow.txEnter .txTrb u (s.tainted n u) data)).arrive n u
  match s.entryOf n c, s.carryOf n c with
  | some t, some u => if s.rd (TRB_TRIB.STATE n t) = Trib.suspended then s.flowOp n (Flow.txReject .cap) else accept u
  | some t, none => s.flowOp n (Flow.txReject (if s.rd (TRB_TRIB.STATE n t) = Trib.suspended then .cap else .notrib))
  | none, some u => accept u
  | none, none => s.flowOp n (Flow.txReject .notrib)

/-- A client is credited and UP. -/
def State.creditedUp (s : State) (n c : Nat) : Bool := s.credited n c && s.rd (HST_CLI.IN n c) = 1

/-- HST offers a token of client c (R237); staging takes no more than R24 lets the channel hold. -/
def State.offerToken (n c : Nat) (full : Bool) (data : BitVec 512) (s : State) : State :=
  match s.entryOf n c with
  | none => s
  | some t =>
    if s.creditedUp n c then
      s.flowOp n (if full || !s.withinLine n (s.flow.get n).txRes then Flow.txReject .ovf else Flow.txEnter .txStaged t (s.tainted n t) data)
    else (s.uncredited n c data).trbBoundary n t

/-- The next token of client c's mapped stream: the host's, or in REPLACE the Local Fault sequence that HST generates, whose bits the
PCS defines and not the spec (R239, log entry 2). -/
def State.offerStream (n c : Nat) (full : Bool) (data : BitVec 512) (s : State) : State :=
  if s.rd (HST_CLI.IN n c) = 2 then s.draw.2.offerToken n c full (BitVec.ofNat 512 s.draw.1) else s.offerToken n c full data

/-- Tenant t is stopped at its seal limit: from the first multiframe that its record announces empty (R291). -/
def State.sealStopped (s : State) (n t : Nat) : Bool :=
  s.on (TRB_TRIB.ENC n t) && s.on (SEC_TEN.LIMIT n t) && decide (s.rd (TRBC.CMNOW n t) = 0)

/-- A staged token of tributary t enters TRB: on a credit, or, after a withdrawal, as one of an uncredited client. -/
def State.enterTrib (n t : Nat) (s : State) : State :=
  let mine : Token → Bool := fun k => k.stage = .txStaged && k.trib = t
  let c := s.rd (TRB_TRIB.CLIENT n t)
  match (s.flow.get n).tok.find? mine with
  | none => s
  | some k =>
    if s.entryOf n c = some t && s.creditedUp n c then
      if (s.flow.get n).outstanding c = 0 then s
      else
        let s1 := s.flowOp n (Flow.crdUse c)
        (if k.poison then s1.flowOp n (Flow.txDropOne .poison mine)
          else if s.sealStopped n t then s1.flowOp n (Flow.txDropOne .limit mine)
          else if s.room n t = 0 then s1.flowOp n (Flow.txDropOne .gmp mine)
          else (s1.flowOp n (Flow.move mine .txTrb)).arrive n t).trbBoundary n t
    else if k.poison then (s.flowOp n (Flow.txDropOne .poison mine)).trbBoundary n t
    else if s.rd (TRB_TRIB.STATE n t) = Trib.suspended then (s.flowOp n (Flow.txDropOne .cap mine)).trbBoundary n t
    else if !s.on (TRB_TRIB.CARRY n t) then (s.flowOp n (Flow.txDropOne .notrib mine)).trbBoundary n t
    else if s.room n t = 0 then (s.flowOp n (Flow.txDropOne .gmp mine)).trbBoundary n t
    else ((s.flowOp n (Flow.move mine .txTrb)).arrive n t).trbBoundary n t

/-- The mapper may take a token of tributary t: data positions of the multiframe are left for it (R217), in an interoperable mode
always. -/
def State.mapperOpen (s : State) (n t : Nat) : Bool := s.interop n || decide (0 < s.rdS (TRBC.LEFT n t))

/-- A token of tributary t is mapped, its bytes off the multiframe's count. -/
def State.mapToken (n t : Nat) (s : State) : State :=
  ((s.flowOp n (Flow.move (fun k => k.stage = .txTrb && k.trib = t) .txSec)).putS (TRBC.LEFT n t) (s.rdS (TRBC.LEFT n t) - 64)).countFor n
    .trb 0x05 1 (some t)

/-- The oldest token of tributary t in TRB passes to SEC: mapped, unless its tenant is suspended or stopped. -/
def State.toSec (n t : Nat) (s : State) : State :=
  let mine : Token → Bool := fun k => k.stage = .txTrb && k.trib = t
  match (s.flow.get n).tok.find? mine with
  | none => s
  | some k =>
    let dropped (d : TxDrop) : State := (s.flowOp n (Flow.txDropOne d mine)).count n .sec 0x3E |>.issueCredits n
    if k.poison then dropped .poison
    else if s.rd (TRB_TRIB.STATE n t) = Trib.suspended then dropped .cap
    else if s.sealStopped n t then dropped .limit
    else if s.mapperOpen n t then (s.mapToken n t).count n .sec 0x3E |>.issueCredits n
    else s

/-- A data position of tributary t finds nothing to take: the mapper sends 0x00 (R217). -/
def State.mapperEmpty (n t : Nat) (s : State) : State :=
  s.when (s.on (TRB_TRIB.CARRY n t) && decide (0 < s.rdS (TRBC.LEFT n t)) && s.held n t .txTrb = 0 && s.held n t .txSec = 0) (fun u =>
    ((u.carryBytes n t false [0]).putS (TRBC.LEFT n t) (u.rdS (TRBC.LEFT n t) - 1) |>.bump (TRB_CNT.UNDER n)).countFor n .trb 0x01 1 (some t))

/-- The oldest token of tributary t in SEC is consumed into the transmit frame, or into the open unit of its tenant; behind a
mismatch in that unit it is replaced (R277).  A lost token's positions are filled with 0x00. -/
def State.toLfr (n t : Nat) (s : State) : State :=
  let mine : Token → Bool := fun k => k.stage = .txSec && k.trib = t
  let enc := s.on (TRB_TRIB.ENC n t)
  match (s.flow.get n).tok.find? mine with
  | none => s
  | some k =>
    (if k.poison then (s.flowOp n (Flow.txDropOne .poison mine)).carryLost n t
      else if enc && ((s.chan n).tx.sealOf t).bad then (s.flowOp n (Flow.txDropOne .fault mine)).carryLost n t
      else ((s.flowOp n (Flow.txLeave mine)).carryBytes n t false (tokenBytes k.data)).when enc (·.count n .sec 0x04)).count n
      .lfr 0x3E

/-! ## Receive transfers -/

/-- The tokens of tributary t are extracted: its record is accepted with ACT = 1, or the mode has no records (R215, R227). -/
def State.extracts (s : State) (n t : Nat) : Option TorRec :=
  if s.interop n then (if t = 0 then some { TorRec.idle with act := true } else none)
  else (keyed t (s.chan n).recs).bind (fun r => if r.act then some r else none)

/-- The next 64 bytes extracted for tributary t, with UNCORR, and the path without them: of a sealed tributary its ciphertext, as its
record says (R287, log entry 44). -/
def LineRx.nextToken (t mfn : Nat) (r : TorRec) (x : LineRx) : Option (List (Byte × Bool) × LineRx) :=
  let y := if r.enc then x.separate t mfn r else x
  let o := y.openingOf t
  let l := if r.enc then o.ct else (keyed t y.got).getD []
  if l.length < 64 then Option.none
  else some (l.take 64, if r.enc then y.setOpening { o with ct := l.drop 64 } else { y with got := setKeyed t (l.drop 64) y.got })

/-- Where a received token of tributary t goes as it leaves SEC for TRB: into the egress buffer, when the entry is ACTIVE
and the buffer holds less than B_cap (R218); a suspended tenant's is dropped in SEC (R42, R223). -/
def State.toEgress (n t : Nat) (mine : Token → Bool) (s : State) : State :=
  match (s.flow.get n).tok.find? mine with
  | none => s
  | some k =>
    (s.flowOp n (if k.poison then Flow.rxDropOne .poison mine
      else if s.rd (TRB_TRIB.STATE n t) = Trib.suspended then Flow.rxDropOne .cap mine
      else if s.rd (TRB_TRIB.STATE n t) ≠ Trib.active then Flow.rxDropOne .notrib mine
      else if !s.interop n && s.bCap n t < 64 * s.held n t .rxTrb + 64 then Flow.rxDropOne .gmp mine
      else Flow.move mine .rxTrb)).trbBoundary n t

/-- Units whose tokens are not delivered are not opened: the next one begins behind the bytes left of them, in a token that is lost with
them. -/
def LineRx.forget (t : Nat) (x : LineRx) : LineRx :=
  let o := x.openingOf t
  x.setOpening { o with due := [], off := o.ct.length, gone := 0, spoilt := if o.ct.isEmpty then Option.none else some false, bad := false }

/-- A token of tributary t does not reach SEC's opener: what SEC holds of its units passes unopened (R223). -/
def State.forgo (n t : Nat) (r : TorRec) (x : LineRx) (s : State) : State :=
  let u := s.onRx n (fun _ => if r.enc then x.forget t else x)
  u.when r.enc (fun w => w.times (w.held n t .rxSec) (·.toEgress n t (fun k => k.stage = .rxSec && k.trib = t)))

/-- The demultiplexer forms a token for tributary t, which is counted in and delivered to SEC or dropped (R216, R223).  Units of an
earlier multiframe are opened first. -/
def State.demux (n t : Nat) (s : State) : State :=
  match s.extracts n t with
  | none => s
  | some r =>
    let mfn := s.rd (LFR_MFN_RX.MFN n)
    match (s.chan n).rx.nextToken t mfn r with
    | none => s
    | some (l, x) =>
      let fate := if s.interop n then (if s.rd (TRB_TRIB.STATE n t) = Trib.active then RxFate.deliver else .notrib) else (s.rxFate n t r).1
      if fate = .deliver then
        if s.withinLine n (s.flow.get n).rxRes then
          ((s.onRx n (fun _ => x)).flowOp n (Flow.rxEnter .rxSec t (s.tainted n t) (l.any (·.2)) (bytesToken (l.map (·.1))))).count n .sec 0x3E
        else s
      else if (x.openingOf t).due.any (fun u => u.mfn ≠ mfn) then s
      else
        let u := s.forgo n t r x
        match fate with
        | .gen => (u.flowOp n (Flow.rxReject .gen 1)).countFor n .lfr 0x07 1 (some t)
        | .cap => (u.flowOp n (Flow.rxReject .cap 1)).count n .sec 0x3E
        | _ => (u.flowOp n (Flow.rxReject .notrib 1)).count n .sec 0x3E |>.count n .trb 0x3E

/-- SEC→TRB for a token that belongs to no sealed unit.  One of an ACTIVE entry that is encrypted has no tag to verify and fails
(log entry 44). -/
def State.fromSec (n t : Nat) (s : State) : State :=
  let mine : Token → Bool := fun k => k.stage = .rxSec && k.trib = t
  s.when ((s.chan n).rx.openingOf t).due.isEmpty (fun u =>
    if u.on (TRB_TRIB.ENC n t) && !u.interop n && u.rd (TRB_TRIB.STATE n t) = Trib.active then
      u.flowOp n (if ((u.flow.get n).tok.find? mine).any (·.poison) then Flow.rxDropOne .poison mine else Flow.rxDropOne .auth mine)
    else u.toEgress n t mine)

/-- One transfer of channel n. -/
def State.transfer (n : Nat) (m : TokenMove) (s : State) : State :=
  match m with
  | .offer c full lf d => (s.when (s.defined n c) (·.flag (HST_CLI.LF_SEEN n c) lf)).offerStream n c full d
  | .enterTrib t => s.enterTrib n t
  | .toSec t => s.toSec n t
  | .mapperEmpty t => s.mapperEmpty n t
  | .toLfr t => s.toLfr n t
  | .demux t => s.when (s.on (LFR_STAT.MF_LOCK n) || s.interop n && s.rd (LFR_STAT.FSTATE n) = 2) (·.demux n t)
  | .fromSec t => s.fromSec n t
  | .toFec => s.toFec n
  | .toLds => s.toLds n
  | .fromFec => s.when ((s.chan n).rx.bits12.length ≥ 512) (fun u => (u.onRx n LineRx.move12).count n .lfr 0x3E)

def execTokenTransfer (n : Fin 4) (m : TokenMove) (s : State) : Answer := .next <| s.when s.answers (·.transfer n m)

/-! ## Slack and the governor (R49 to R55) -/

/-- Channel n counts toward the governing slack. -/
def State.demands (s : State) (n : Nat) : Bool := s.chSt n = ChSt.acquiring || s.holdsLock n

/-- The governing slack s, when a channel counts toward it. -/
def State.slack (s : State) : Option Nat :=
  (channels.filter (fun n => s.demands n)).foldl (fun a n =>
    let v := s.rd (FAB_SLACK_C.NOW n)
    some (a.elim v (Nat.min v))) none

/-- NOW and MIN of one channel, from round(256 × slack): a slack above 255.99 reads 0xFFFF. -/
def State.slackOf (n v : Nat) (s : State) : State :=
  let now := if (s.chSt n = ChSt.acquiring || s.holdsLock n) && v < 65534 then v else 0xFFFF
  s.put (FAB_SLACK_C.NOW n) now |>.put (FAB_SLACK_C.MIN n) (Nat.min now (s.rd (FAB_SLACK_C.MIN n)))

/-- The replica loops are measured: `sk` is round(256 × slack) of channel k. -/
def execSlackMeasurement (s0 s1 s2 s3 : Nat) (s : State) : Answer :=
  .next <| s.when s.answers (fun t =>
    let u := t.slackOf 0 s0 |>.slackOf 1 s1 |>.slackOf 2 s2 |>.slackOf 3 s3
    u.put FAB_GOV_STAT.LIMITING (ofBits (channels.map (fun n => u.demands n && u.slack = some (u.rd (FAB_SLACK_C.NOW n))))))

/-- The governor steps: GOVERN, and the regulator answers (R51, R54). -/
def State.governs (s : State) : Bool := s.answers && s.rd FAB_GOV_STAT.MODE_ACT = 0 && s.rd FABC.AVS_FAILS ≠ 3

/-- A raise of 25 mV under 266 (Table 2.3). -/
def State.emergency (s : State) : State :=
  s.requestV (s.rd FAB_GOV_STAT.VREQ + 25) |>.put FAB_GOV_STAT.EMERG 1 |>.count 4 .fab 0x02

def execGovernorEvaluation (s : State) : Answer :=
  .next <| s.when s.governs (fun t =>
    match t.slack with
    | none => t.requestV (t.rd FAB_VCORE_LIM.IDLE)
    | some v =>
      if t.rd FABC.BOOST ≠ 0 then t
      else if v < 266 then t.emergency
      else if v < 287 then t.requestV (t.rd FAB_GOV_STAT.VREQ + 10)
      else if v ≤ 295 then t
      else t.requestV (t.rd FAB_GOV_STAT.VREQ - 5))

/-- The 10 µs repetition of the raise while s is below 266. -/
def execGovernorEmergencyRaise (s : State) : Answer :=
  .next <| s.when (s.governs && s.rd FABC.BOOST = 0 && s.slack.any (· < 266)) (·.emergency)

/-- The governor's requests on entry to a mode: FIXED asks once (R51). -/
def State.govMode (m : Nat) (s : State) : State :=
  let a := Nat.min m 2
  (s.put FAB_GOV_STAT.MODE_ACT a).when (a = 1 && s.rd FAB_GOV_STAT.MODE_ACT ≠ 1)
    (fun t => t.requestV (t.rd FAB_VCORE_FIX.FIXED))

/-- FAB_GOV_CTRL. -/
def govHook : Hook := ⟨fun _ _ _ => 0, fun _ s => (s.govMode (s.rd FAB_GOV_CTRL.MODE), 0)⟩

/-- VMAX and VMIN take their clamped values (Table 2.10). -/
def State.clampLimits (s : State) : State :=
  let lo := Nat.max 550 (s.rd FAB_VCORE_LIM.VMIN)
  (s.put FAB_VCORE_LIM.VMIN lo).put FAB_VCORE_LIM.VMAX s.vmax

/-- FAB_VCORE_LIM: the limits are clamped, and AT_VMAX compares VREQ with the new VMAX. -/
def limHook : Hook :=
  ⟨fun _ _ _ => 0, fun _ s => (s.clampLimits.flag FAB_GOV_STAT.AT_VMAX (s.rd FAB_GOV_STAT.VREQ = s.vmax), 0)⟩

/-- A request to the regulator ends acknowledged, or failed; the third failure in a row is an error (R54). -/
def execRegulatorRequestResult (ok : Bool) (s : State) : Answer :=
  .next <| s.when (s.on FABC.REQ) (fun t =>
    if ok then (t.put FABC.REQ 0).put FABC.AVS_FAILS 0
    else
      let k := t.rd FABC.AVS_FAILS
      let t1 := t.put FABC.AVS_FAILS (Nat.min 3 (k + 1))
      if k < 2 then t1
      else (t1.put FABC.REQ 0 |>.put FAB_GOV_STAT.AVS_ERR 1).when (k = 2) (fun u => (u.raise 16).count 4 .fab 0x03))

/-- The governor repeats its request every 1 ms until one succeeds (R54). -/
def execRegulatorRetry (s : State) : Answer :=
  .next <| s.when (s.answers && s.rd FABC.AVS_FAILS = 3) (fun t => (t.put FABC.REQ 1).count 4 .fab 0x01)

/-- s has stayed below 256 for 1 ms at VMAX (R55). -/
def execSlackFloorTimeout (s : State) : Answer :=
  .next <| s.when (s.slack.any (· < 256) && s.on FAB_GOV_STAT.AT_VMAX) (fun t => (t.put FAB_GOV_STAT.FLOOR 1).raise 17)

/-! ## Ledger snapshots (R61, R62) -/

/-- Step 1 or 1a for channel n: it is not BUSY, and 100 µs have passed since its last DONE. -/
def State.snapRequest (n : Nat) (s : State) : State :=
  let d := s.rd (FABC.DONE_AT n)
  if s.rdBit FAB_SNAP_STAT.BUSY n || (d ≠ 0 && s.time < d - 1 + 100000) then s.putBit FAB_SNAP_STAT.COLLIDE n true
  else s.putBit FAB_SNAP_STAT.BUSY n true

/-- FAB_SNAP_REQ. -/
def snapHook : Hook :=
  ⟨fun _ _ _ => 0, fun l s =>
    (s.each (channels.filter (fun n => bit ((wrote l FAB_SNAP_REQ.CH).getD 0) n = 1)) (fun n t => t.snapRequest n), 0)⟩

def execLedgerSnapshotRequest (win : Fin 7) (value : Word) (be : Fin 16) (s : State) : Answer :=
  .next (s.hostWrite ⟨win, 0x10040, value.toNat, be⟩ snapHook)

/-- The counter words of a record, by offset (Table 2.5). -/
def Flow.record (f : Flow) : List (Nat × Nat) :=
  let l := f.led
  let m := 2 ^ 48
  [(0x10, l.txIn % m), (0x18, l.txOut % m), (0x20, f.txRes % m),
   (0x28, l.txOvf % m), (0x30, l.txNotrib % m), (0x38, l.txGmp % m), (0x40, l.txRetired % m), (0x48, l.txCap % m),
   (0x50, l.txLimit % m), (0x58, l.txFault % m), (0x60, l.txPoison % m), (0x68, l.txFence % m), (0x70, l.txFlush % m),
   (0x78, l.rxIn % m), (0x80, l.rxOut % m), (0x88, f.rxRes % m),
   (0x90, l.rxGen % m), (0x98, l.rxAuth % m), (0xA0, l.rxCap % m), (0xA8, l.rxFault % m), (0xB0, l.rxNotrib % m),
   (0xB8, l.rxGmp % m), (0xC0, l.rxLane % m), (0xC8, l.rxOvf % m), (0xD0, l.rxPoison % m), (0xD8, l.rxFence % m),
   (0xE0, l.rxFlush % m),
   (0xE8, l.cwIn % m), (0xF0, l.cwOut % m), (0xF8, f.cwRes % m), (0x100, l.cwBudget % m), (0x108, l.cwFence % m),
   (0x110, l.cwFlush % m), (0x118, l.cwUncorr % m),
   (0x120, l.crdIssued % m), (0x128, l.crdUsed % m), (0x130, f.crdRes % m), (0x138, l.crdReclaim % m)]

/-- Conditions of Table 2.4 that stand, and so breach the interval that begins: bits 0, 3 and 4. -/
def State.standing (s : State) (n : Nat) : Nat :=
  (if s.rdBit FABC.MIXED n then 1 else 0) + (if s.mode = Mode.lockdown then 8 else 0)
    + (if s.on FAB_PERT_CTRL.EN && s.rd FAB_PERT_CTRL.CH = n then 16 else 0)

/-- Step 3: counters and occupancies are latched at one cut; COND and WRAP are copied and cleared. -/
def State.snapLatch (n : Nat) (s : State) : State :=
  { s with snaps := setKeyed n ((0, s.rd (FABC.COND n) * 65536 + s.rd (FABC.WRAP n) * 256 + n) :: (8, s.time)
      :: (s.flow.get n).record) s.snaps }
    |>.put (FABC.COND n) (s.standing n) |>.put (FABC.WRAP n) 0

/-- Address of FAB_LEDGER[n]. -/
def ledgerAt (n : Nat) : Nat := 0x8400000 + 0x200 * n

/-- Step 4: the record is written whole, with its SEQ. -/
def State.snapWrite (n : Nat) (l : List (Nat × Nat)) (s : State) : State :=
  let s1 := s.addWrap (FABC.SEQ n) 1
  (s1.each l (fun w t => t.put64 (ledgerAt n + w.1) (if w.1 = 0 then w.2 + s1.rd (FABC.SEQ n) * 2 ^ 32 else w.2)))
    |>.putBit FAB_SNAP_STAT.DONE n true |>.putBit FAB_SNAP_STAT.BUSY n false |>.put (FABC.DONE_AT n) (s.time + 1)
    |>.raise 18 |>.count 4 .fab 0x04

/-- The latched record under a key goes. -/
def State.unlatch (k : Nat) (s : State) : State := { s with snaps := s.snaps.filter (fun p => p.1 ≠ k) }

def execSnapshotHoldComplete (n : Fin 4) (s : State) : Answer :=
  .next <| s.when (s.rdBit FAB_SNAP_STAT.BUSY n && (keyed n.val s.snaps).isNone) (·.snapLatch n)

/-- Step 2a: a link has not acknowledged the hold. -/
def execSnapshotHoldTimeout (n : Fin 4) (s : State) : Answer :=
  .next <| s.when (s.rdBit FAB_SNAP_STAT.BUSY n && (keyed n.val s.snaps).isNone) (fun t =>
    (t.putBit FAB_SNAP_STAT.TIMEOUT n true).putBit FAB_SNAP_STAT.BUSY n false)

def execSnapshotRecordWritten (n : Fin 4) (s : State) : Answer :=
  .next <| match keyed n.val s.snaps with
    | some l => (s.snapWrite n l).unlatch n
    | none => s

/-! ## Test perturbation (R63) -/

/-- A link identifier of Table 2.8. -/
def linkUsed (l : Nat) : Bool := (1 ≤ l && l ≤ 5) || (0x11 ≤ l && l ≤ 0x15) || (0x20 ≤ l && l ≤ 0x7F)

/-- The decoder's input of a channel changes source: residents are flushed, and alignment is searched again on the new one (R199). -/
def State.inputChanged (n : Nat) (s : State) : State :=
  (s.flowOp n (Flow.cwDropAll .flush (fun _ => true)) |>.put (FEC_OCC.OCC n) 0 |>.loseFrame n).onChan n (fun c =>
    { c with rx := LineRx.none, dsp := { c.dsp with llr := [] } })

/-- A write of FAB_PERT_CTRL that sets EN is judged as one value; EN with CH = n breaches the interval (Table 2.4, bit 4),
and the test counts clear when it sets (R201). -/
def pertHook (value : Nat) (s0 : State) : Hook :=
  let en := FAB_PERT_CTRL.EN.of value = 1
  let c := FAB_PERT_CTRL.CH.of value
  ⟨fun s _ _ => if !en then 0 else if !linkUsed (FAB_PERT_CTRL.LINK.of value) then 4
      else if s.inTraffic c then badState else 0,
   fun _ s =>
    let s1 := s.when (s.on FAB_PERT_CTRL.EN) (fun t => t.breach (t.rd FAB_PERT_CTRL.CH) 4)
      |>.when (s.on FAB_PERT_CTRL.EN && !s0.on FAB_PERT_CTRL.EN) (·.clear [FECC.BITS c, FECC.ERRS c])
    (s1.each (channels.filter (fun n => s0.injecting n != s.injecting n)) (fun n t => t.inputChanged n), 0)⟩

def execPerturbationControlWrite (win : Fin 7) (value : Word) (be : Fin 16) (s : State) : Answer :=
  .next (s.hostWrite ⟨win, 0x10080, value.toNat, be⟩ (pertHook value.toNat s))

end Sys2Proof.Machine
end

