-- ==== Sys2Proof/Machine/HostPorts.lean ====
section
/-! DEFINITION. Host ports on the host side: chapter 10 of spec/ (R239 to R251). -/

namespace Sys2Proof.Machine

/-! ## Lanes (R240 to R243) -/

/-- What a change of a channel's lanes or members reaches: RX_UP and the clients (R239, R244). -/
def State.laneRefresh (n : Nat) (s : State) : State := (s.rxUp n).hstRefresh n

/-- A lane declares LOL. -/
def State.lolDeclare (n l : Nat) (s : State) : State :=
  s.put (HST_LSTAT_L.LOL n l) 1 |>.put (HST_LSTAT_L.LOL_EV n l) 1 |>.bump (HST_LCNT_L.LOL n l) |>.put (HST_STAT.LANE_EV n) 1
    |>.raiseCh n 0x60

/-- A lane declares LOS, and with it LOL when that is not declared already. -/
def execHostLaneLosDeclare (n : Fin 4) (l : Fin 16) (s : State) : Answer :=
  .next <| s.when (s.answers && !s.on (HST_LSTAT_L.LOS n l)) (fun t =>
    (t.put (HST_LSTAT_L.LOS n l) 1 |>.put (HST_LSTAT_L.LOS_EV n l) 1 |>.bump (HST_LCNT_L.LOS n l)
        |>.put (HST_STAT.LANE_EV n) 1 |>.raiseCh n 0x60).when (!t.on (HST_LSTAT_L.LOL n l)) (·.lolDeclare n l)
      |>.laneRefresh n)

def execHostLaneLosClear (n : Fin 4) (l : Fin 16) (s : State) : Answer :=
  .next <| s.when s.answers (fun t => (t.put (HST_LSTAT_L.LOS n l) 0).laneRefresh n)

def execHostLaneLolDeclare (n : Fin 4) (l : Fin 16) (s : State) : Answer :=
  .next <| s.when (s.answers && !s.on (HST_LSTAT_L.LOL n l)) (fun t => (t.lolDeclare n l).laneRefresh n)

/-- LOL clears only once LOS has cleared. -/
def execHostLaneLolClear (n : Fin 4) (l : Fin 16) (s : State) : Answer :=
  .next <| s.when (s.answers && !s.on (HST_LSTAT_L.LOS n l)) (fun t => (t.put (HST_LSTAT_L.LOL n l) 0).laneRefresh n)

/-- The port whose first lane is p locks its codewords and alignment markers; `skew` is each lane's, in ns, first lane first
(R242). -/
def execHostAlignmentLock (n : Fin 4) (p : Fin 16) (skew : List Nat) (s : State) : Answer :=
  let lanes := s.portLanes n p
  .next <| s.when (s.answers && !lanes.isEmpty && s.portOf n p = p && skew.all (· ≤ 200)
      && lanes.all (fun l => !s.on (HST_LSTAT_L.LOS n l) && !s.on (HST_LSTAT_L.LOL n l) && !s.on (HST_LSTAT_L.FENCED n l)))
    (fun t => (t.each lanes (fun l u => (u.put (HST_LSTAT_L.AM_LOCK n l) 1).put (HST_LSTAT_L.SKEW n l) (skew.getD (l - p.val) 0))).laneRefresh n)

/-- The port that holds a lane loses its alignment: it relocks under Table 10.3. -/
def State.unalign (n p : Nat) (s : State) : State :=
  (s.each (s.portLanes n (s.portOf n p)) (fun l t => t.put (HST_LSTAT_L.AM_LOCK n l) 0)).laneRefresh n

def execHostAlignmentLoss (n : Fin 4) (p : Fin 16) (s : State) : Answer := .next <| s.when s.answers (·.unalign n p)

/-- The conditions of REPLACE have been absent for 100 µs, and an idle or ordered-set block arrives. -/
def execClientReplaceEnd (n : Fin 4) (c : Fin 256) (s : State) : Answer :=
  .next <| s.when (s.answers && s.rd (HST_CLI.IN n c) = 2 && s.defined n c && !s.mustReplace n c) (fun t =>
    (t.put (HST_CLI.IN n c) 1).clientRefresh n c)

/-- An RS-FEC codeword of port p: corrected symbols, whether it cannot be corrected, and the error blocks forwarded for
each client (R243). -/
def execHostFecCodeword (n : Fin 4) (p : Fin 16) (corrected : Nat) (uncorr : Bool) (errs : List (Fin 256 × Nat)) (s : State) :
    Answer :=
  .next <| s.when (s.answers && s.portOf n p = p && s.rd (HST_LANE_L.TYPE n p) ≠ 0 && s.on (HST_LSTAT_L.AM_LOCK n p)) (fun t =>
    t.addSat (HST_FEC_CORR_P.COUNT n p) corrected |>.countFor n .hst 0x01 corrected none
      |>.when uncorr (fun u => (u.bump (HST_FEC_UNC_P.COUNT n p)).count n .hst 0x02)
      |>.each errs (fun e u => (u.addSat (HST_CLI.ERRBLK n e.1) e.2).countFor n .hst 0x03 e.2 (some e.1.val)))

/-! ## FlexE groups (R234, R247) -/

/-- The overhead of the member whose first lane is l: whether it locks, with the PHY number and group number it carries. -/
def execFlexeOverheadLock (n : Fin 4) (l : Fin 16) (lock : Bool) (phy gnum : Nat) (s : State) : Answer :=
  let g := s.rd (HST_LANE_L.GROUP n l)
  let ms := s.members n g
  .next <| s.when (s.answers && ms.contains l.val) (fun t =>
    let up := lock && t.on (HST_LSTAT_L.AM_LOCK n l)
    let t1 := t.putBit (HST_FLX_STAT_G.OH_LOCK n g) l (up && ms[phy - 1]? = some l.val && 0 < phy)
      |>.flag (HSTC.GNBAD n l) (up && gnum ≠ t.rd (HST_FLX_CFG_G.GNUM n g))
    (t1.flag (HST_FLX_STAT_G.GNUM_MISMATCH n g) (ms.any (fun m => t1.on (HSTC.GNBAD n m)))).hstRefresh n)

/-- A calendar of group g is in use in one of its directions: its side of HST_CAL is read-only. -/
def State.calInUse (s : State) (n g b : Nat) : Bool :=
  s.rd (HST_FLX_STAT_G.TX_CAL n g) = b || s.rd (HST_FLX_STAT_G.RX_CAL n g) = b

/-- The assignment (valid, client) of slot i on side b may not be written: the client is no FlexE client of the group, or
its RATE5 would rise beyond what its tributary carries (R247). -/
def State.calRefused (s : State) (n g b i : Nat) (valid : Bool) (c : Nat) : Bool :=
  valid && (!(s.on (HST_CLI.EN n c) && s.on (HST_CLI.KIND n c) && s.rd (HST_CLI.HOME n c) = g)
    || (let mine := (s.slotsOf n g b c).filter (fun j => s.on (if b = 0 then HST_CAL.A_VALID n g j else HST_CAL.B_VALID n g j) && j ≠ i)
        let r := Nat.max (mine.length + 1) (s.slotsOf n g (1 - b) c).length
        s.rate5 n c < r && (match s.entryOf n c, s.active n with
          | some t, some p => !fitsSlots r (s.rd (TRB_TRIB.COUNT n t)) (s.on (TRB_TRIB.ENC n t)) p.rs
          | _, _ => false)))

/-- Sides of an entry that keep their value through a write: those in use. -/
def State.calKeep (n g i : Nat) (s0 : State) (s : State) : State :=
  s.each [0, 1] (fun b t => t.when (s0.calInUse n g b) (fun u =>
    if b = 0 then (u.put (HST_CAL.A_VALID n g i) (s0.rd (HST_CAL.A_VALID n g i))).put (HST_CAL.A_CLIENT n g i) (s0.rd (HST_CAL.A_CLIENT n g i))
    else (u.put (HST_CAL.B_VALID n g i) (s0.rd (HST_CAL.B_VALID n g i))).put (HST_CAL.B_CLIENT n g i) (s0.rd (HST_CAL.B_CLIENT n g i))))

/-- HST_CAL[g][i]: each side is judged as its two fields together; a side in use ignores the write. -/
def calendarHook (n g i value : Nat) (s0 : State) : Hook :=
  let bad (s : State) (b : Nat) : Bool := !s.calInUse n g b &&
    (if b = 0 then s.calRefused n g 0 i ((HST_CAL.A_VALID n g i).of value = 1) ((HST_CAL.A_CLIENT n g i).of value)
     else s.calRefused n g 1 i ((HST_CAL.B_VALID n g i).of value = 1) ((HST_CAL.B_CLIENT n g i).of value))
  ⟨fun s f _ => if (f = HST_CAL.A_VALID n g i || f = HST_CAL.A_CLIENT n g i) && bad s 0 then badState
      else if (f = HST_CAL.B_VALID n g i || f = HST_CAL.B_CLIENT n g i) && bad s 1 then badState else 0,
   fun _ s => (((State.calKeep n g i s0 s).hstRates n).hstRefresh n, 0)⟩

/-- Address of HST_CAL[g][i]. -/
def calAddr (n g i : Nat) : Nat := 0x8701000 + 0x10000 * n + 4 * (640 * g + i)

def execCalendarEntryWrite (win : Fin 7) (n : Fin 4) (g : Fin 8) (i : Fin 640) (value : Word) (be : Fin 16) (s : State) : Answer :=
  .next (s.hostWrite ⟨win, calAddr n g i, value.toNat, be⟩ (calendarHook n g i value.toNat s))

/-- HST_FLX_CMD.SWITCH: the request for the other calendar goes out in the overhead of a group with members. -/
def switchHook (n value : Nat) : Hook :=
  let g := (HST_FLX_CMD.GROUP n).of value
  ⟨fun _ _ _ => 0, fun l s =>
    (s.when (wroteOne l (HST_FLX_CMD.SWITCH n) && s.rd (HST_FLX_STAT_G.SW_STATE n g) = 0 && s.on (HST_FLX_STAT_G.ACTIVE n g))
      (fun t => (t.put (HST_FLX_STAT_G.SW_STATE n g) 1).emit (.calendarRequest n g (1 - t.rd (HST_FLX_STAT_G.TX_CAL n g)))), 0)⟩

def execFlexeCalendarSwitchRequest (win : Fin 7) (n : Fin 4) (value : Word) (be : Fin 16) (s : State) : Answer :=
  .next (s.hostWrite ⟨win, chanAddr n 0x600030, value.toNat, be⟩ (switchHook n value.toNat))

def execFlexeCalendarAck (n : Fin 4) (g : Fin 8) (s : State) : Answer :=
  .next <| s.when (s.rd (HST_FLX_STAT_G.SW_STATE n g) = 1) (·.put (HST_FLX_STAT_G.SW_STATE n g) 2)

/-- A calendar has switched. -/
def State.calSwitched (n g : Nat) (s : State) : State :=
  s.put (HST_FLX_STAT_G.SW_EV n g) 1 |>.put (HST_STAT.FLX_EV n) 1 |>.raiseCh n 0x62 |>.hstRefresh n

/-- The overhead multiframe boundary after the acknowledgement. -/
def execFlexeCalendarSwitch (n : Fin 4) (g : Fin 8) (s : State) : Answer :=
  .next <| s.when (s.rd (HST_FLX_STAT_G.SW_STATE n g) = 2) (fun t =>
    (t.put (HST_FLX_STAT_G.SW_STATE n g) 0 |>.put (HST_FLX_STAT_G.TX_CAL n g) (1 - t.rd (HST_FLX_STAT_G.TX_CAL n g))).calSwitched n g)

/-- No acknowledgement in 100 ms: the old calendar stays. -/
def execFlexeCalendarTimeout (n : Fin 4) (g : Fin 8) (s : State) : Answer :=
  .next <| s.when (s.rd (HST_FLX_STAT_G.SW_STATE n g) = 1) (fun t =>
    t.put (HST_FLX_STAT_G.SW_STATE n g) 0 |>.put (HST_FLX_STAT_G.CA_TIMEOUT n g) 1 |>.put (HST_STAT.FLX_EV n) 1)

/-- Every slot of calendar b of group g names a defined client of the group or none. -/
def State.calGood (s : State) (n g b : Nat) : Bool :=
  if b = 0 then
    (s.listed (HST_CAL.A_VALID n g 0) 4 640).all (fun i =>
      let c := s.rd (HST_CAL.A_CLIENT n g i)
      s.defined n c && s.on (HST_CLI.KIND n c) && s.rd (HST_CLI.HOME n c) = g)
  else
    (s.listed (HST_CAL.B_VALID n g 0) 4 640).all (fun i =>
      let c := s.rd (HST_CAL.B_CLIENT n g i)
      s.defined n c && s.on (HST_CLI.KIND n c) && s.rd (HST_CLI.HOME n c) = g)

/-- The host requests calendar b (0 A, 1 B) on ingress: acknowledged, or withheld with CAL_BAD. -/
def execFlexeHostCalendarRequest (n : Fin 4) (g : Fin 8) (b : Fin 2) (s : State) : Answer :=
  .next <| s.when (s.answers && s.on (HST_FLX_STAT_G.ACTIVE n g)) (fun t =>
    if t.calGood n g b then (t.put (HST_FLX_STAT_G.CAL_BAD n g) 0).emit (.calendarAck n g)
    else (t.put (HST_FLX_STAT_G.CAL_BAD n g) 1).put (HST_STAT.FLX_EV n) 1)

/-- The host's overhead changes its calendar, and HST follows. -/
def execFlexeIngressCalendarSwitch (n : Fin 4) (g : Fin 8) (s : State) : Answer :=
  .next <| s.when (s.answers && s.on (HST_FLX_STAT_G.ACTIVE n g)) (fun t =>
    (t.put (HST_FLX_STAT_G.RX_CAL n g) (1 - t.rd (HST_FLX_STAT_G.RX_CAL n g))).calSwitched n g)

/-! ## Egress (R244 to R246) -/

/-- The egress FIFO of a client has been empty for 1 µs with no token arriving. -/
def execEgressFifoEmptyTimeout (n : Fin 4) (c : Fin 256) (s : State) : Answer :=
  .next <| s.when (s.rd (HST_CLI.OUT n c) = 1) (fun t => (t.takeFifo n c (t.rd (HSTC.FIFO n c))).put (HST_CLI.OUT n c) 2)

/-- Between two arrivals the lane has taken `sent` tokens of a client in DATA, and inserted or deleted idle blocks within
the fill that allows it (R245). -/
def State.egressDrain (n c sent ins del : Nat) (s : State) : State :=
  let k := s.rd (HSTC.FIFO n c)
  s.when (s.rd (HST_CLI.OUT n c) = 1) (·.takeFifo n c sent)
    |>.when (k < 16) (·.countFor n .hst 0x04 ins (some c))
    |>.when (48 < k) (·.countFor n .hst 0x05 del (some c))

/-- A token of tributary t, on TRB→HST: discarded when poisoned, when the client's lanes are down or when its egress FIFO is
full, else queued; at START tokens a client without a condition of LF sends DATA.  `ppm` is the release rate minus the
lane rate in 0.1 ppm. -/
def execEgressTokenArrival (n : Fin 4) (t : Fin 1024) (sent ins del : Nat) (ppm : Int) (s : State) : Answer :=
  let mine : Token → Bool := fun k => k.stage = .rxTrb && k.trib = t
  let c := s.rd (TRB_TRIB.CLIENT n t)
  .next <| match (s.flow.get n).tok.find? mine with
    | none => s
    | some k =>
      let s1 := (s.egressDrain n c sent ins del).putS (HST_CLI.PPM n c) ppm |>.count n .hst 0x3E
        |>.countOccOf n .hst 0x07 (fun i => s.rd (HSTC.FIFO n i)) c
      if k.poison then s1.flowOp n (Flow.rxDropOne .poison mine)
      else if s.laneDown n c || s.on (HST_STAT.LOL n) || !s.defined n c then s1.flowOp n (Flow.rxDropOne .lane mine)
      else if s1.rd (HSTC.FIFO n c) = 64 then
        s1.flowOp n (Flow.rxDropOne .ovf mine) |>.put (HST_STAT.OVF_EV n) 1 |>.bump (HST_CLI.OVF n c)
      else
        let fill := s1.rd (HSTC.FIFO n c) + 1
        ((s1.flowOp n (Flow.rxLeave mine) |>.put (HSTC.FIFO n c) fill).onChan n (fun h =>
            { h with egress := h.egress ++ [(c, k.uncorr, k.data)] })).when
          (s.rd (HST_CLI.OUT n c) = 2 && !s.mustLf n c && s.rd (HST_RM_CTRL.START n) ≤ fill) (·.put (HST_CLI.OUT n c) 1)

/-- The FIFO empties within a packet, which error control blocks carry on; no token is lost. -/
def execEgressFifoEmptyInPacket (n : Fin 4) (c : Fin 256) (s : State) : Answer :=
  .next <| s.when (s.rd (HST_CLI.OUT n c) = 1) (fun t =>
    t.takeFifo n c (t.rd (HSTC.FIFO n c)) |>.bump (HST_CLI.UNDER n c) |>.put (HST_STAT.UNDER_EV n) 1)

/-! ## Faults (R248 to R250) -/

/-- A lane is fenced, with the detector of Table 10.4. -/
def State.fenceLane (n l cause : Nat) (s : State) : State :=
  if s.on (HST_LSTAT_L.FENCED n l) then s
  else s.put (HST_LSTAT_L.CAUSE n l) cause |>.put (HST_LSTAT_L.FENCED n l) 1 |>.putBit (HST_LANES.FENCED n) l true
    |>.put (HST_STAT.FENCE_EV n) 1 |>.raiseCh n 0x63 |>.laneRefresh n |>.unitChanged n true

def execHostLaneTransmitterFault (n : Fin 4) (l : Fin 16) (s : State) : Answer :=
  .next <| s.when s.answers (·.fenceLane n l 2)

def execHostLaneReceiverFault (n : Fin 4) (l : Fin 16) (s : State) : Answer :=
  .next <| s.when s.answers (·.fenceLane n l 3)

/-- HST_LANE_CMD. -/
def laneForceHook (n value : Nat) : Hook :=
  let l := (HST_LANE_CMD.LANE n).of value
  ⟨fun s f v => if f = HST_LANE_CMD.FORCE n && v = 1 && s.on (HST_LSTAT_L.FENCED n l) then badState else 0,
   fun w s => (s.when (wroteOne w (HST_LANE_CMD.FORCE n)) (·.fenceLane n l 4), 0)⟩

def execLaneForce (win : Fin 7) (n : Fin 4) (value : Word) (be : Fin 16) (s : State) : Answer :=
  .next (s.hostWrite ⟨win, chanAddr n 0x600020, value.toNat, be⟩ (laneForceHook n value.toNat))

/-- The host PLL is faulted: all 16 lanes are fenced. -/
def State.hostPllFault (n : Nat) (s : State) : State :=
  if s.on (HST_PLL_STAT.FAULT n) then s
  else (s.put (HST_PLL_STAT.FAULT n) 1).each (List.range 16) (fun l t => t.fenceLane n l 5)

/-- The host PLL declares loss of lock, without reference edges when `ref` holds; a third declaration within 1 s is a
fault. -/
def execHostPllLossOfLock (n : Fin 4) (ref : Bool) (s : State) : Answer :=
  .next <| s.when (s.answers && !s.on (HST_STAT.LOL n)) (fun t =>
    let third := t.rd (HSTC.LOL_PREV n) ≠ 0 && t.time + 1 - t.rd (HSTC.LOL_PREV n) ≤ 1000000000
    let t1 := t.put (HST_STAT.LOL n) 1 |>.put (HST_PLL_STAT.LOCK n) 0 |>.bump (HST_PLL_STAT.LOL_CNT n)
      |>.when ref (·.put (HST_STAT.REFLOSS n) 1) |>.raiseCh n 0x64
      |>.put (HSTC.LOL_PREV n) (t.rd (HSTC.LOL_LAST n)) |>.put (HSTC.LOL_LAST n) (t.time + 1) |>.hstRefresh n
    t1.when third (·.hostPllFault n))

def execHostPllLock (n : Fin 4) (s : State) : Answer :=
  .next <| s.when s.answers (fun t =>
    t.put (HST_STAT.LOL n) 0 |>.put (HST_PLL_STAT.LOCK n) 1 |>.put (HST_STAT.REFLOSS n) 0 |>.hstRefresh n)

/-- Loss of lock has lasted 10 ms. -/
def execHostPllFault (n : Fin 4) (s : State) : Answer :=
  .next <| s.when (s.answers && s.on (HST_STAT.LOL n)) (·.hostPllFault n)

/-! ## Live and static fields (R252) -/

/-- HST_LANE_Ll: clients follow TX_EN and the port structure; a change of RX_INV relocks the port. -/
def laneHook (n l : Nat) (s0 : State) : Hook :=
  ⟨fun _ _ _ => 0, fun _ s =>
    (((s.when (s.rd (HST_LANE_L.RX_INV n l) ≠ s0.rd (HST_LANE_L.RX_INV n l)) (·.unalign n l)).hstRates n).laneRefresh n, 0)⟩

/-- HST_TXEQ_Ll: the magnitudes of the four taps sum to at most 64. -/
def txeqHook (n l value : Nat) : Hook :=
  let mag (f : Field) : Nat := (toSigned 8 (f.of value)).natAbs
  ⟨fun _ _ _ => if 64 < mag (HST_TXEQ_L.POST1 n l) + (HST_TXEQ_L.MAIN n l).of value + mag (HST_TXEQ_L.PRE1 n l)
      + mag (HST_TXEQ_L.PRE2 n l) then 4 else 0,
   fun _ s => (s, 0)⟩

/-- HST_CLI: a client is defined, or none any more; `s0` is the state before.  An entry that was lost is rewritten once a field of it
is written: not one that is refused, nor one that the write carries with its present value (R15). -/
def clientHook (n c : Nat) (s0 : State) : Hook :=
  ⟨fun _ _ _ => 0, fun l s =>
    (s.when ([HST_CLI.EN n c, HST_CLI.KIND n c, HST_CLI.HOME n c].any (fun f => (wrote l f).any (fun v => v ≠ s0.rd f))) (fun t =>
      (((t.put (MEMC.BAD_CLI n c) 0).hstRates n |>.put (HST_CLI.RATE5 n c) (t.rate5 n c) |>.clientRefresh n c).hstRefresh n)), 0)⟩

end Sys2Proof.Machine
end

