-- ==== Sys2Proof/Machine/Dma.lean ====
section
/-! DEFINITION. Device reads of the management port: who may send, and which reads are outstanding (R422, R428, R429, R434). -/

namespace Sys2Proof.Machine

/-- The port may send a posted write: link up, D0, Bus Master Enable (R422, R434). -/
def State.portSends (s : State) : Bool := s.on MGT_STAT.LINK_UP && s.rd MGT_STAT.DSTATE = 0 && s.on MGT_STAT.BME

/-- Reads that a client may have outstanding (Table 19.4). -/
def dmaCap (c : Nat) : Nat := if c = 6 then 32 else 64

/-- Device reads outstanding, of all clients. -/
def State.dmaOut (s : State) : Nat := ((List.range 7).map (fun c => s.rd (DMAC.OUT c))).sum

/-- Bytes of one read: the smallest of the Maximum Read Request Size, 4,096 bytes and what the client needs (R428). -/
def State.dmaSize (s : State) (c : Nat) : Nat :=
  Nat.min (Nat.min (128 * 2 ^ s.rd MGTC.MRRS) 4096) (s.rd (DMAC.NEED c))

/-- The client served next, round robin. -/
def State.dmaNext (s : State) : Option Nat :=
  if s.portSends && s.dmaOut < 256 then
    ((List.range 7).map (fun i => (s.rd DMAC.LAST + 1 + i) % 7)).find?
      (fun c => 0 < s.rd (DMAC.NEED c) && s.rd (DMAC.OUT c) < dmaCap c)
  else none

/-- Reads are issued while a client needs one and the pool has room (each is event 0x05 of the supervisors, Table 16.6). -/
def State.dmaIssueLoop : Nat → State → State
  | 0, s => s
  | k + 1, s => match s.dmaNext with
    | none => s
    | some c => State.dmaIssueLoop k
        (s.put (DMAC.NEED c) (s.rd (DMAC.NEED c) - s.dmaSize c) |>.put (DMAC.OUT c) (s.rd (DMAC.OUT c) + 1)
          |>.put DMAC.LAST c |>.count 4 .sup 0x05)

def State.dmaIssue (s : State) : State :=
  let t := State.dmaIssueLoop 256 s
  t.put MGT_DMA_STAT.OUTST t.dmaOut

/-- A client has a request of so many bytes ready. -/
def State.dmaNeed (c bytes : Nat) (s : State) : State := (s.put (DMAC.NEED c) bytes |>.put (DMAC.OUT c) 0).dmaIssue

/-- A client has its data, or gives its reads up. -/
def State.dmaGot (c : Nat) (s : State) : State := s.dmaNeed c 0

/-- One read of a client has ended. -/
def State.dmaRead (c : Nat) (s : State) : State := (s.put (DMAC.OUT c) (s.rd (DMAC.OUT c) - 1)).dmaIssue

/-- Every outstanding read is aborted. -/
def State.dmaAbort (s : State) : State :=
  (s.each (List.range 7) (fun c t => (t.put (DMAC.OUT c) 0).put (DMAC.NEED c) 0)).put MGT_DMA_STAT.OUTST 0

end Sys2Proof.Machine
end

