-- ==== Sys2Proof/Machine/Irq.lean ====
section
/-! DEFINITION. Interrupt controller: chapter 16 of spec/ (R363 to R374), and the MSI-X messages of the management port
(R425). -/

namespace Sys2Proof.Machine

/-! ## MSI-X (R372, R425, R434) -/

/-- An MSI-X message of vector v, held in the pending-bit array while the function or the vector is masked (R372). -/
def State.sendMsix (v : Nat) (s : State) : State :=
  if !s.on MGTC.MSIX_EN then s
  else if s.on MGTC.FMASK || s.on (MSIX.MASK v) then s.put (MSIX.PEND v) 1
  else s.when s.portSends (·.emit (.msix v))

/-- Held messages go once neither mask holds them. -/
def State.flushMsix (s : State) : State :=
  s.each ((List.range 20).filter (fun v => s.on (MSIX.PEND v) && s.on MGTC.MSIX_EN && !s.on MGTC.FMASK && !s.on (MSIX.MASK v)))
    (fun v t => (t.put (MSIX.PEND v) 0).sendMsix v)

/-! ## Eligibility (R367, R368) -/

/-- A source is eligible for a target: 0 the host, 1 to 3 the supervisors. -/
def State.eligible (s : State) (t N : Nat) : Bool :=
  if t = 0 then s.on (IRQ_PEND N) && s.on (IRQ_CFG.HROUTE N) && !s.on (IRQ_MASK N)
  else s.on (SUPC.PEND (t - 1) N) && s.on (IRQ_CFG.SROUTE N) && !s.on (SUPC.MASK (t - 1) N)

/-- Priority of a source for a target. -/
def State.irqPrio (s : State) (t N : Nat) : Nat := if t = 0 then s.rd (IRQ_CFG.HPRIO N) else s.rd (IRQ_CFG.SPRIO N)

/-- Levels at which some source is eligible for a target. -/
def State.eligLevels (s : State) (t : Nat) : List Nat := (allSources.filter (s.eligible t)).map (s.irqPrio t)

/-- Levels on a target's stack, bit L for level L. -/
def State.stack (s : State) (t : Nat) : Nat := if t = 0 then s.rd IRQ_HSTK.LEVELS else bits (s.rd (IRQ_SSTK.W (t - 1))) 0 16

/-- Number of the highest 1 bit among the lowest n, plus 1; 0 when there is none. -/
def topBit (v : Nat) : Nat → Nat
  | 0 => 0
  | n + 1 => if bit v n = 1 then n + 1 else topBit v n

/-- Running priority plus 1; 0 for an empty stack. -/
def State.running (s : State) (t : Nat) : Nat := topBit (s.stack t) 16

/-- A target's stack holds the levels of v. -/
def State.setStack (t v : Nat) (s : State) : State :=
  if t = 0 then s.put IRQ_HSTK.LEVELS v |>.put IRQ_HSTK.DEPTH (popcount v 16) |>.put IRQ_HSTK.TOP (topBit v 16 - 1)
  else s.put (IRQ_SSTK.W (t - 1)) ((topBit v 16 - 1) * 2 ^ 28 + popcount v 16 * 2 ^ 16 + v)

/-- The highest level of the stack is popped (R369). -/
def State.popStack (t : Nat) (s : State) : State := s.setStack t (clrBit (s.stack t) (s.running t - 1))

/-- A target takes deliveries: the host while EN, a supervisor unless OFF, FAILED or HELD (R368, R373). -/
def State.takesIrq (s : State) (t : Nat) : Bool :=
  if t = 0 then s.on IRQ_CTRL.EN
  else
    let st := s.rd (SUPC.STATE (t - 1))
    st ≠ 0 && st ≠ 5 && st ≠ 6

/-! ## Commands -/

/-- Sources of word w whose bit of a written value is 1 and that are implemented (R363). -/
def wordSources (w v : Nat) : List Nat := ((List.range 32).filter (fun b => bit v b = 1)).map (fun b => 32 * w + b) |>.filter implemented

/-- The write of one of the four word arrays: f is done for each source named. -/
def irqWordHook (w value : Nat) (f : Nat → State → State) : Hook := ⟨fun _ _ _ => 0, fun _ s => (s.each (wordSources w value) f, 0)⟩

/-- IRQ_PEND_SET (R366). -/
def execIrqPendSet (win : Fin 7) (w : Fin 64) (value : Word) (be : Fin 16) (s : State) : Answer :=
  .next (s.hostWrite ⟨win, 0x30500 + 4 * w, value.toNat, be⟩
    (irqWordHook w value.toNat (fun N t => (t.put (IRQ_PEND N) 1).bump (IRQ_CFG.ARRIVE N))))

/-- IRQ_PEND_CLEAR (R366). -/
def execIrqPendClear (win : Fin 7) (w : Fin 64) (value : Word) (be : Fin 16) (s : State) : Answer :=
  .next (s.hostWrite ⟨win, 0x30600 + 4 * w, value.toNat, be⟩
    (irqWordHook w value.toNat (fun N t => (t.put (IRQ_PEND N) 0).put (IRQ_CFG.ARRIVE N) 0)))

/-- IRQ_MASK_SET (R367). -/
def execIrqMaskSet (win : Fin 7) (w : Fin 64) (value : Word) (be : Fin 16) (s : State) : Answer :=
  .next (s.hostWrite ⟨win, 0x30800 + 4 * w, value.toNat, be⟩ (irqWordHook w value.toNat (fun N t => t.put (IRQ_MASK N) 1)))

/-- IRQ_MASK_CLEAR (R367). -/
def execIrqMaskClear (win : Fin 7) (w : Fin 64) (value : Word) (be : Fin 16) (s : State) : Answer :=
  .next (s.hostWrite ⟨win, 0x30900 + 4 * w, value.toNat, be⟩ (irqWordHook w value.toNat (fun N t => t.put (IRQ_MASK N) 0)))

/-- INTERRUPT_SELECTION (R368): the highest eligible level, when it is above the running priority, waits for its commit. -/
def execInterruptSelection (target : Fin 4) (s : State) : Answer :=
  let d := (s.eligLevels target).foldl (fun m l => Nat.max m (l + 1)) 0
  .next (s.when (s.takesIrq target && !s.on IRQ_STAT.FAULT && s.rd (IRQC.SEL target) = 0 && s.running target < d)
    (·.put (IRQC.SEL target) d))

/-- INTERRUPT_COMMIT (R368, R371, R372): the push, and the signal.  A controller fault or a supervisor that no longer runs
ends the selection. -/
def execInterruptCommit (target : Fin 4) (s : State) : Answer :=
  let sel := s.rd (IRQC.SEL target)
  let s1 := s.put (IRQC.SEL target) 0
  .next (if sel = 0 then s
    else if s.on IRQ_STAT.FAULT || (target ≠ 0 && !s.takesIrq target) then s1
    else
      let s2 := s1.setStack target (setBit (s1.stack target) (sel - 1))
      if target = 0 then
        ((s2.bump IRQ_CNT.DLV).when (!(s.eligLevels 0).contains (sel - 1)) (·.bump IRQ_CNT.DAM)).sendMsix (sel - 1)
      else s2)

/-- IRQ_EOI (R369): any write pops the host stack. -/
def execIrqEoi (win : Fin 7) (value : Word) (be : Fin 16) (s : State) : Answer :=
  .next (s.hostWrite ⟨win, 0x30018, value.toNat, be⟩ ⟨fun _ _ _ => 0, fun _ t =>
    (if t.stack 0 = 0 then t.put IRQ_STAT.EOI_UNDER 1 else t.popStack 0, 0)⟩)

/-- INTERRUPT_CONTROLLER_FAULT (R374): delivery stops for every target. -/
def execInterruptControllerFault (s : State) : Answer :=
  .next ((s.put IRQ_STAT.FAULT 1).when (!s.on IRQ_STAT.FAULT) (·.put IRQ_STAT.FAULT_EV 1)
    |>.clear [IRQC.SEL 0, IRQC.SEL 1, IRQC.SEL 2, IRQC.SEL 3])

end Sys2Proof.Machine
end

