-- ==== Sys2Proof/Machine/Isc.lean ====
section
/-! DEFINITION. In-band supervisory channel: chapter 11 of spec/ (R255 to R264, R269 to R273). -/

namespace Sys2Proof.Machine

/-! ## Transmitter (R263, R264) -/

/-- Place in the order RESIZE, ROLLOVER, MODE_OFFER, HOST. -/
def Msg.rank : Msg → Nat
  | .resizePropose .. => 0
  | .resizeAccept .. => 0
  | .resizeRefuse .. => 0
  | .resizeConfirm .. => 0
  | .rolloverAnnounce .. => 1
  | .rolloverAck .. => 1
  | .modeOffer .. => 2
  | _ => 3

/-- A message that the supervisors send (Table 11.4). -/
def Msg.isFirmware (m : Msg) : Bool := m.rank < 3

/-- The first message of the lowest rank in a list. -/
def bestOf : List Msg → Option Msg
  | [] => none
  | m :: l =>
    match bestOf l with
    | some b => if m.rank ≤ b.rank then some m else some b
    | none => some m

/-- The list without the first occurrence of a message. -/
def removeMsg (m : Msg) : List Msg → List Msg
  | [] => []
  | a :: l => if a = m then l else a :: removeMsg m l

/-- The HEARTBEAT of this end (Table 11.5). -/
def State.heartbeat (s : State) (n : Nat) : Msg :=
  .heartbeat (s.rd (ISC_STATION.ID n)) (s.rd (ISCC.NONCE n)) (s.chSt n) (s.rd (LFR_STAT.FSTATE n) = 2)
    (s.rd (ISC_STAT.CHIP n) = 3) (s.on (ISC_STAT.LOOPBACK n)) (s.rd (ISC_CTRL.REP n)) (s.rd (ISC_CFG.TX_CODE n))

/-- The TELEMETRY of this end: a figure whose window is not valid is sent as such. -/
def State.telemetry (s : State) (n : Nat) : Msg :=
  let berv := s.on (LDS_LQ_STAT.BERV n)
  .telemetry (if s.on (LDS_LQ_STAT.VALID n) then s.rd (LDS_LQ_SNR.SNR n) else 0xFFFF)
    (if berv then s.rd (LDS_LQ_BER.BER_LOG n) else 0x8000) (if berv then s.rd (LDS_LQ_GMI.MARGIN n) else 0x8000)
    (s.rd (OPT_RX_PWR.NOW n)) (s.rd (ISCC.UNC n)) (s.rd (LDS_LQ_STAT.SEQ n))

/-- The confirmation that an armed end's hardware repeats until its own target − 8 (R267). -/
def State.confirmNow (s : State) (n : Nat) : Option Msg :=
  if s.rd (LDS_RSZ_STAT.STATE n) = RszSt.armed && 8 < s.mfLeft n then
    let r := (s.chan n).rsz
    let own := s.rd (LDS_RSZ_MF.MFN n)
    some (if r.proposer then .resizeConfirm own r.peerMf false else .resizeConfirm r.peerMf own false)
  else none

/-- Starts a message: the polarities of its periods follow that of the period before (R257). -/
def State.startMsg (n : Nat) (m : Msg) (s : State) : State :=
  (s.onChan n (fun c => { c with sending := some m })).onTx n (fun x =>
    let p := x.periods.getLastD x.iscPol
    { x with periods := m.periods (s.rd (ISCC.SEQ n)) (s.rd (ISCC.REP n)) p, iscAt := x.sym, iscPol := p })

/-- Nothing waits: a HEARTBEAT, or every fourth time a TELEMETRY. -/
def State.startIdle (n : Nat) (s : State) : State :=
  let k := (s.rd (ISCC.IDLE4 n) + 1) % 4
  let s1 := s.put (ISCC.IDLE4 n) k
  if k = 0 && s.on (ISC_CTRL.TEL_EN n) then (s1.startMsg n (s.telemetry n)).put (ISCC.RUN n) (Nat.min 7 (s.rd (ISCC.RUN n) + 1))
  else (s1.startMsg n (s.heartbeat n)).put (ISCC.RUN n) 0

/-- The transmitter takes the next message. -/
def State.nextMsg (n : Nat) (s : State) : State :=
  match s.confirmNow n with
  | some m => (s.startMsg n m).put (ISCC.RUN n) (Nat.min 7 (s.rd (ISCC.RUN n) + 1))
  | none =>
    if s.rd (ISCC.RUN n) = 7 then (s.startMsg n (s.heartbeat n)).put (ISCC.RUN n) 0
    else match bestOf ((s.chan n).msgs.filter (fun m => !m.isFirmware || s.firmware)) with
      | some m => ((s.onChan n (fun c => { c with msgs := removeMsg m c.msgs })).startMsg n m).put (ISCC.RUN n) (s.rd (ISCC.RUN n) + 1)
      | none => s.startIdle n

/-! ## Agreement (R266) -/

/-- Both ends have sent and received AGREED = 1: the mode is agreed, and step 1 of Table 6.4 begins. -/
def State.agreeCheck (n : Nat) (s : State) : State :=
  if s.on (LDSC.SENT_AG n) && s.on (LDSC.RCVD_AG n) && !s.on (LDSC.AGREED n) then
    (s.put (LDSC.AGREED n) 1 |>.put (LDSC.ABSENT n) 0 |>.put (LDS_RSZ_STAT.INDOUBT n) 0).when
      (s.chSt n = ChSt.acquiring && s.rd (LDS_ACQ_STAT.STEP n) = 0 && !s.on (LDSC.WAIT n)) (·.acqBegin n)
  else s

/-- A message has been sent whole. -/
def State.msgSent (n : Nat) (m : Msg) (s : State) : State :=
  let s1 := s.emit (.message n (s.rd (ISCC.SEQ n)) m (s.rd (ISC_CFG.TX_CODE n)) (s.rd (ISCC.REP n))) |>.addWrap (ISCC.SEQ n) 1 |>.bump (ISC_CNT_TX.SENT n)
    |>.count n .isc 0x01 |>.onChan n (fun c => { c with sending := none })
  match m with
  | .host .. => s1.put (ISC_HSTAT.HTX_BUSY n) 0
  | .modeOffer _ true _ _ _ => (s1.put (LDSC.SENT_AG n) 1).agreeCheck n
  | _ => s1

/-- A message boundary: the message in progress is complete, REP and TX_EN take effect, and the next message starts. -/
def execIscMessageBoundary (n : Fin 4) (s : State) : Answer :=
  .next <| s.when (s.phase n = Phase.lit && !s.interop n) (fun t =>
    let t1 := match (t.chan n).sending with
      | some m => t.msgSent n m
      | none => t
    let t2 := (t1.put (ISCC.REP n) (t1.rd (ISC_CTRL.REP n))).flag (LDS_TX_STAT.ISC_INS n) (t1.iscInserts n)
    t2.when (t2.on (LDS_TX_STAT.ISC_INS n)) (·.nextMsg n))

/-! ## Chip lock (R259, R132) -/

/-- A correlation peak held for 16 periods: code, offset in kHz, despread SNR. -/
def execIscChipLock (n : Fin 4) (code : Fin 32) (fofs : Int) (qual : Nat) (s : State) : Answer :=
  .next <| s.when (s.rd (ISC_STAT.CHIP n) = 2 && (s.on (ISC_CTRL.RX_ANY n) || s.rd (ISC_CFG.RX_CODE n) = code)) (fun t =>
    t.put (ISC_STAT.CHIP n) 3 |>.put (ISC_STAT.CODE_FOUND n) code |>.putS (ISC_FOFS.FOFS n) fofs
      |>.put (ISC_FOFS.QUAL n) (Nat.min qual 255) |>.put (LDS_LQ_STAT.ISC_CANC n) 1)

def execIscChipLockLoss (n : Fin 4) (s : State) : Answer :=
  .next <| s.when (s.rd (ISC_STAT.CHIP n) = 3) (fun t =>
    t.put (ISC_STAT.CHIP n) 2 |>.bump (ISC_CNT_EV.LOCKLOSS n) |>.count n .isc 0x04
      |>.clear [ISC_STAT.CODE_FOUND n, ISC_FOFS.FOFS n, ISC_FOFS.QUAL n, LDS_LQ_STAT.ISC_CANC n])

/-! ## Reception (R262, R269) -/

/-- A valid message, of any type. -/
def State.validMsg (n seq rep : Nat) (s : State) : State :=
  let gap := (seq + 255 - s.rd (ISCC.RXSEQ n)) % 256
  s.bump (ISC_CNT_RX.GOOD n) |>.count n .isc 0x02 |>.put (ISC_STAT.RX_REP n) rep
    |>.when (s.on (ISCC.RXSEQV n)) (·.addSat (ISC_CNT_EV.LOST n) gap)
    |>.put (ISCC.RXSEQ n) seq |>.put (ISCC.RXSEQV n) 1 |>.put (ISC_STAT.MISSED n) 0
    |>.when (s.rd (ISC_STAT.PEER n) ≠ 1) (fun t => (t.put (ISC_STAT.PEER n) 1).put (ISC_STAT.PRES_EV n) 1)

/-- Reception of a valid message while chip lock holds, and what its type does. -/
def State.receive (n : Fin 4) (seq : Fin 256) (rep : Fin 4) (f : State → State) (s : State) : Answer :=
  .next <| s.when (s.rd (ISC_STAT.CHIP n) = 3) (fun t => f (t.validMsg n seq rep))

/-- What a firmware message does, while the firmware runs (R264). -/
def State.byFirmware (f : State → State) (s : State) : State := s.when s.firmware f

def execIscMessageCrcError (n : Fin 4) (s : State) : Answer :=
  .next <| s.when (s.rd (ISC_STAT.CHIP n) = 3) (fun t => (t.bump (ISC_CNT_RX.CRC n)).count n .isc 0x03)

def execIscUnknownMessage (n : Fin 4) (seq : Fin 256) (rep : Fin 4) (s : State) : Answer := s.receive n seq rep id

/-- A HEARTBEAT: the peer's identity, and the detection of this end's own (R270). -/
def execHeartbeatReceived (n : Fin 4) (seq : Fin 256) (rep : Fin 4) (ident nonce : Nat) (s : State) : Answer :=
  s.receive n seq rep (fun t =>
    let mine := t.rd (ISC_STATION.ID n) = ident % 2 ^ 32
    let same := t.rd (ISCC.NONCE n) = nonce % 2 ^ 16
    let loop := mine && same
    let clash := mine && !same
    (t.put (ISC_PEER.ID n) ident |>.flag (ISC_STAT.LOOPBACK n) loop |>.flag (ISC_STAT.ID_CLASH n) clash).when
      ((loop && !t.on (ISC_STAT.LOOPBACK n)) || (clash && !t.on (ISC_STAT.ID_CLASH n)))
      (fun u => (u.put (ISC_STAT.LOOP_EV n) 1).raiseCh n 0x71))

def execTelemetryReceived (n : Fin 4) (seq : Fin 256) (rep : Fin 4) (snr ber margin rxpwr unc lqseq : Nat) (s : State) : Answer :=
  s.receive n seq rep (fun t =>
    t.put (ISC_PEER_LQ0.SNR n) snr |>.put (ISC_PEER_LQ0.BER_LOG n) ber |>.put (ISC_PEER_LQ1.MARGIN n) margin
      |>.put (ISC_PEER_LQ1.RXPWR n) rxpwr |>.put (ISC_PEER_LQ2.UNC n) unc |>.put (ISC_PEER_LQ3.LQSEQ n) lqseq
      |>.put (ISCC.TEL_AT n) (t.time + 1))

/-- A HOST message fills ISC_HRX, or is discarded while the one before it is unread. -/
def execHostMessageReceived (n : Fin 4) (seq : Fin 256) (rep : Fin 4) (w0 w1 w2 w3 : Nat) (s : State) : Answer :=
  s.receive n seq rep (fun t =>
    if t.on (ISC_HSTAT.HRX_FULL n) then t.put (ISC_HSTAT.HRX_OVR n) 1
    else t.put (ISC_HRX.DATA n 0) w0 |>.put (ISC_HRX.DATA n 1) w1 |>.put (ISC_HRX.DATA n 2) w2 |>.put (ISC_HRX3.DATA n) w3
      |>.put (ISC_HSTAT.HRX_FULL n) 1 |>.put (ISC_STAT.HRX_EV n) 1 |>.raiseCh n 0x72)

/-! ## Presence (Table 11.6) -/

/-- The peer is declared absent: a resize or a rollover that has not armed fails (Table 3.7, R294). -/
def State.peerAbsent (n : Nat) (s : State) : State :=
  let st := s.rd (LDS_RSZ_STAT.STATE n)
  s.put (ISC_STAT.PEER n) 2 |>.put (ISC_STAT.ABS_EV n) 1 |>.bump (ISC_CNT_EV.ABSENT n) |>.raiseCh n 0x70
    |>.put (LDSC.ABSENT n) 1
    |>.when (st = 1 || st = 2) (·.rszFail n 0x5)
    |>.when (s.rd (SEC_ROLL_STAT.STATE n) = 1) (·.rollFail n 0x5)

/-- 100 ms without a valid message. -/
def execIscHeartbeatMissed (n : Fin 4) (s : State) : Answer :=
  .next <| s.when (s.rd (ISC_STAT.PEER n) = 1) (fun t =>
    let m := t.rd (ISC_STAT.MISSED n) + 1
    (t.put (ISC_STAT.MISSED n) m).when (m = 3) (·.peerAbsent n))

/-! ## Host messages (R271) -/

/-- ISC_HCMD: one HOST message at a time. -/
def hostSendHook (n : Nat) : Hook :=
  ⟨fun s f v => if f = ISC_HCMD.SEND n && v = 1 && s.on (ISC_HSTAT.HTX_BUSY n) then 6 else 0,
   fun l s => (s.when (wroteOne l (ISC_HCMD.SEND n)) (fun t =>
     (t.queue n (.host (t.rd (ISC_HTX.DATA n 0)) (t.rd (ISC_HTX.DATA n 1)) (t.rd (ISC_HTX.DATA n 2)) (t.rd (ISC_HTX3.DATA n)))).put
       (ISC_HSTAT.HTX_BUSY n) 1), 0)⟩

def execIscHostSend (win : Fin 7) (n : Fin 4) (value : Word) (be : Fin 16) (s : State) : Answer :=
  .next (s.hostWrite ⟨win, chanAddr n 0x700030, value.toNat, be⟩ (hostSendHook n))

/-- A read of ISC_HRX3. -/
def execHostMessageRead (win : Fin 7) (n : Fin 4) (s : State) : Answer :=
  .next (s.hostRead win (chanAddr n 0x70005C) (·.readWord (chanAddr n 0x70005C)) (·.put (ISC_HSTAT.HRX_FULL n) 0))

end Sys2Proof.Machine
end

