-- ==== Sys2Proof/Machine/Monitor.lean ====
section
/-! DEFINITION. Monitor converters and bias loops: chapter 13 of spec/ (R303 to R321).  Converter b is that of channel b, or
the module's for b = 4. -/

namespace Sys2Proof.Machine

/-! ## Filters (R306, R309 to R311) -/

/-- Unsettled results after a gain, source, preset or clock change (Table 13.4). -/
def settleCount (preset : Nat) : Nat :=
  match preset with
  | 0 => 11
  | 1 => 12
  | _ => 13

/-- Tap k of a compensation set, in 2^-16. -/
def State.compTap (s : State) (b set k : Nat) : Int :=
  match set with
  | 0 => if k = 0 then 65536 else 0
  | 1 => Config.droopTap (s.rd (MON_STAT.PRESET_ACT b)) k
  | _ => s.rdS (MON_COEF_DATA.COEF b (8 * (set - 2) + k))

/-- The 9-tap symmetric filter over the last CIC outputs, newest first; what lies before a restart is 0. -/
def State.compFilter (s : State) (b set : Nat) (h : List Int) : Int :=
  roundQ ((List.range 9).map (fun j => s.compTap b set (if j ≤ 4 then 4 - j else j - 4) * h.getD j 0)).sum 65536

/-- Order of a preset's CIC filter (Table 13.3). -/
def cicOrder (preset : Nat) : Nat :=
  match preset with
  | 0 => 3
  | 1 => 4
  | _ => 5

/-- Decimation of a preset (Table 13.3). -/
def decimation (preset : Nat) : Nat :=
  match preset with
  | 0 => 16
  | 1 => 64
  | 2 => 256
  | _ => 1024

/-- One modulator sample in a chain of integrators, each of which adds what the one before it holds. -/
def integrate (x : Int) : List Int → List Int
  | [] => []
  | a :: l => (a + x) :: integrate (a + x) l

/-- One value through a chain of combs: the output, and what they now delay. -/
def combs (x : Int) : List Int → Int × List Int
  | [] => (x, [])
  | z :: l => let r := combs (x - z) l; (r.1, x :: r.2)

/-- A chain of k stages, in zero state where nothing is held. -/
def chainOf (k : Nat) (l : List Int) : List Int := if l.length = k then l else List.replicate k 0

/-- A conversion period of an input under a preset: its modulator samples, in 2^-20 of full scale, pass the CIC filter
(R303, R305, log entry 39).  The output, in 2^-23 of full scale, comes first. -/
def MonInput.next (preset : Nat) (codes : List Int) (c : MonInput) : Int × MonInput :=
  let k := cicOrder preset
  let r := decimation preset
  let i := (codes.take r).foldl (fun l x => integrate x l) (chainOf k c.integ)
  let y := combs (i.getLast?.getD 0) (chainOf k c.comb)
  let cic := roundQ (y.1 * 2 ^ 23) (2 ^ 20 * r ^ k)
  (cic, ⟨i, y.2, (cic :: c.hist).take 9⟩)

/-- Limits a result at full scale. -/
def clipRes (x : Int) : Int := if x < -(2 ^ 23) then -(2 ^ 23) else if 2 ^ 23 - 1 < x then 2 ^ 23 - 1 else x

/-- One result of an input. -/
structure MonOut where
  /-- before the DC block -/
  raw : Int
  /-- as software sees it -/
  out : Int
  uns : Bool
  clip : Bool

/-- The result of an input after its filter, or its cross-fade (R311). -/
def State.monResult (s : State) (b : Nat) (h : List Int) : Int :=
  let r := s.rd (MONC.FADE b)
  let new := s.compFilter b (s.rd (MONC.CS_ACT b)) h
  if r = 0 then new else roundQ ((16 - (r : Int)) * s.compFilter b (s.rd (MONC.CS_OLD b)) h + r * new) 16

/-- One input's part of a conversion end: its filters, its result, its settling count and its mean. -/
def State.monInput (b i : Nat) (codes : List Int) (s : State) : MonOut × State :=
  let key := 32 * b + i
  let h := (((keyed key s.monHist).getD MonInput.zero).next (s.rd (MON_STAT.PRESET_ACT b)) codes).2
  let x := s.monResult b h.hist
  let raw := clipRes x
  let left := s.rd (MONC.UNS b i)
  let m := (keyed key s.monMean).getD (0, 0)
  let load := left = 0 && s.rdBit (MONC.PRELOAD b) i
  let m1 := if load then (raw, 0) else m
  let en := s.rdBit (MON_DCB_EN.EN b) i
  let out := if en then clipRes (raw - roundQ m1.1 (2 ^ m1.2)) else raw
  let k := s.rd (MON_CTRL.DCK b)
  let m2 := if en && left = 0 && !load && !s.rdBit (MON_DCB_FRZ.FRZ b) i then
      (m1.1 * 2 ^ k + raw * 2 ^ m1.2 - m1.1, m1.2 + k) else m1
  let s1 := { s with monHist := setKeyed key h s.monHist, monMean := setKeyed key m2 s.monMean }
    |>.put (MONC.UNS b i) (left - 1) |>.when load (·.putBit (MONC.PRELOAD b) i false)
  (⟨raw, out, left ≠ 0, raw ≠ x⟩, s1)

/-- All inputs' parts, in ascending order. -/
def State.monInputs (b : Nat) (codes : List (List Int)) : Nat → List MonOut → State → List MonOut × State
  | 0, acc, s => (acc.reverse, s)
  | k + 1, acc, s =>
    let r := s.monInput b acc.length (codes.getD acc.length [])
    r.2.monInputs b codes k (r.1 :: acc)

/-! ## Limit comparators (R314) -/

/-- Sources of the MON blocks: channel local numbers 0x80 to 0x82, or 80 to 82 of the module. -/
def State.raiseMon (b k : Nat) (s : State) : State := if b < 4 then s.raiseCh b (0x80 + k) else s.raise (80 + k)

/-- Comparator k checks the settled result of its input. -/
def State.limitCheck (b k : Nat) (outs : List MonOut) (s : State) : State :=
  match outs[s.rd (MON_LIM_LO.INPUT b k)]? with
  | some o =>
    let lo := s.rdS (MON_LIM_LO.LO b k)
    let hi := s.rdS (MON_LIM_HI.HI b k)
    let act := s.rdBit (MON_LIM_STAT.ACT b) k
    if !s.on (MON_LIM_LO.EN b k) || o.uns then s
    else if lo ≤ hi && (o.raw < lo || hi < o.raw) then
      (s.putBit (MON_LIM_STAT.ACT b) k true).when (!act) (fun t => (t.putBit (MON_LIM_STAT.EV b) k true).raiseMon b 1
        |>.when (b < 4) (·.count b .mon 0x06))
    else s.putBit (MON_LIM_STAT.ACT b) k false
  | none => s

/-! ## Delivery (R312, R313) -/

/-- The next input in ascending order after `last`, wrapping at 31, whose bit is 1. -/
def nextInput (mask last : Nat) : Option Nat :=
  ((List.range 32).map (fun d => (last + 1 + d) % 32)).find? (fun i => bit mask i = 1)

/-- One result is placed in MON_RES. -/
def State.deliver (b i : Nat) (urgent : Bool) (o : MonOut) (s : State) : State :=
  s.when (s.on (MON_STAT.FULL b)) (fun t => (t.put (MON_STAT.OVR b) 1).bump (MON_CNT.OVR b) |>.when (b < 4) (·.count b .mon 0x03))
    |>.flag (MON_RES.URGENT b) urgent |>.flag (MON_RES.UNSETTLED b) o.uns |>.flag (MON_RES.CLIP b) o.clip
    |>.put (MON_RES.INPUT b) i |>.putS (MON_RES.VALUE b) o.out |>.put (MON_STAT.FULL b) 1 |>.addWrap (MON_STAT.SEQ b) 1
    |>.raiseMon b 0

/-- The delivery of a conversion period: an urgent one in place of the scheduled one. -/
def State.monDeliver (b : Nat) (outs : List MonOut) (s : State) : State :=
  let zero : MonOut := ⟨0, 0, false, false⟩
  if s.on (MON_STAT.URG_PEND b) then
    (s.put (MON_STAT.URG_PEND b) 0).deliver b (s.rd (MONC.URG_IN b)) true (outs.getD (s.rd (MONC.URG_IN b)) zero)
  else
    match nextInput (s.rd (MON_DLV.MASK b)) (s.rd (MONC.LASTIN b)) with
    | some i => (s.put (MONC.LASTIN b) i).deliver b i false (outs.getD i zero)
    | none => s

/-! ## Changes at the end of a conversion period (R305, R307, R311) -/

/-- Every input restarts from zero state, unsettled. -/
def State.monRestart (b : Nat) (s : State) : State :=
  ({ s with monHist := s.monHist.filter (fun p => p.1 / 32 ≠ b) }).each (List.range 32) (fun i t =>
      t.put (MONC.UNS b i) (settleCount (s.rd (MON_STAT.PRESET_ACT b))))
    |>.put (MONC.PRELOAD b) (2 ^ 32 - 1)

/-- The changes that waited for the period's end: gains and sources, a cross-fade's start or step, and a preset last. -/
def State.monChanges (b : Nat) (s : State) : State :=
  let k := settleCount (s.rd (MON_STAT.PRESET_ACT b))
  let chg := s.rd (MONC.CHG b)
  let s1 := (s.each ((List.range 32).filter (fun i => bit chg i = 1)) (fun i t =>
      (t.put (MONC.UNS b i) k).putBit (MONC.PRELOAD b) i true)).put (MONC.CHG b) 0
  let r := s1.rd (MONC.FADE b)
  let s2 := if r = 0 then s1 else if r < 16 then s1.put (MONC.FADE b) (r + 1)
    else (s1.put (MONC.FADE b) 0).put (MON_STAT.XFADE b) 0
  let s3 := if s2.rd (MONC.FADE b) = 0 && s2.rd (MON_CTRL.CS b) ≠ s2.rd (MONC.CS_ACT b) then
      (s2.put (MONC.CS_OLD b) (s2.rd (MONC.CS_ACT b)) |>.put (MONC.CS_ACT b) (s2.rd (MON_CTRL.CS b)) |>.put (MONC.FADE b) 1
        |>.put (MON_STAT.XFADE b) 1).each (List.range 32) (fun i t => t.put (MONC.UNS b i) 16)
      |>.put (MONC.PRELOAD b) (2 ^ 32 - 1)
    else s2
  if s3.rd (MON_CTRL.PRESET b) ≠ s3.rd (MON_STAT.PRESET_ACT b) then
    (s3.put (MON_STAT.PRESET_ACT b) (s3.rd (MON_CTRL.PRESET b)) |>.put (MONC.FADE b) 0 |>.put (MON_STAT.XFADE b) 0).monRestart b
  else s3

/-- Results that the bias loops keep: the taps, and the drive swings. -/
def State.tapResults (n : Nat) (outs : List MonOut) (s : State) : State :=
  let zero : MonOut := ⟨0, 0, true, false⟩
  ({ s with taps := [0, 1].foldl (fun l t =>
        let o := outs.getD t zero
        setKeyed (2 * n + t) (((o.raw, o.uns) :: (keyed (2 * n + t) l).getD []).take 16) l) s.taps }).each (List.range 4)
    (fun l t => match outs[8 + l]? with
      | some o => if o.uns then t else t.putS (MONC.DRV n l) o.raw
      | none => t)

/-- The end of a conversion period: `codes` holds the modulator samples of the 32 inputs. -/
def State.monEnd (b : Nat) (codes : List (List Int)) (s : State) : State :=
  let r := s.monInputs b codes 32 []
  let outs := r.1
  r.2.when (b < 4) (fun t => (t.tapResults b outs).countFor b .mon 0x01 32 none
      |>.countFor b .mon 0x02 (outs.countP (·.uns)) none)
    |>.each (List.range 8) (fun k t => t.limitCheck b k outs)
    |>.monDeliver b outs |>.monChanges b |>.calMonitorPeriod b

/-- The converters run in every mode but KEEP and RESET, with their clock. -/
def execMonitorConversionEnd (b : Fin 5) (codes : List (List Int)) (s : State) : Answer :=
  .next <| s.when (s.answers && !s.on (MON_STAT.CLK_LOSS b)) (·.monEnd b codes)

/-- A read of MON_RES returns the held result and clears FULL. -/
def execMonitorResultRead (win : Fin 7) (b : Fin 5) (s : State) : Answer :=
  .next (s.hostRead win (8 + monBase b) (·.readWord (8 + monBase b)) (·.put (MON_STAT.FULL b) 0))

/-! ## Requests and configuration (R305, R310, R311, R313) -/

/-- MON_URG: a GO is refused while a request is pending. -/
def urgentHook (b : Nat) : Hook :=
  ⟨fun s f v => if f = MON_URG.GO b && v = 1 && s.on (MON_STAT.URG_PEND b) then 5 else 0,
   fun l s => (s.when (wroteOne l (MON_URG.GO b)) (fun t =>
      (t.put (MON_STAT.URG_PEND b) 1).put (MONC.URG_IN b) ((wrote l (MON_URG.INPUT b)).getD 0)), 0)⟩

def execMonitorUrgentRequest (win : Fin 7) (b : Fin 5) (value : Word) (be : Fin 16) (s : State) : Answer :=
  .next (s.hostWrite ⟨win, 0xC + monBase b, value.toNat, be⟩ (urgentHook b))

/-- MON_CTRL: a change of CS is refused during a fade. -/
def monCtrlHook (b : Nat) : Hook :=
  ⟨fun s f v => if f = MON_CTRL.CS b && s.on (MON_STAT.XFADE b) && s.rd (MON_CTRL.CS b) ≠ v then 5 else 0,
   fun _ s => (s, 0)⟩

def execMonitorPresetChange (win : Fin 7) (b : Fin 5) (value : Word) (be : Fin 16) (s : State) : Answer :=
  .next (s.hostWrite ⟨win, monBase b, value.toNat, be⟩ (monCtrlHook b))

def execCompensationSetChange (win : Fin 7) (b : Fin 5) (value : Word) (be : Fin 16) (s : State) : Answer :=
  .next (s.hostWrite ⟨win, monBase b, value.toNat, be⟩ (monCtrlHook b))

/-- A compensation set is in use: in force, selected, or left by a fade. -/
def State.setInUse (s : State) (b set : Nat) : Bool :=
  s.rd (MONC.CS_ACT b) = set || s.rd (MON_CTRL.CS b) = set || (s.on (MON_STAT.XFADE b) && s.rd (MONC.CS_OLD b) = set)

/-- MON_COEF_DATA: refused for the set in use, and where no tap is selected. -/
def coefHook (b : Nat) : Hook :=
  ⟨fun s _ _ => if s.setInUse b (2 + s.rd (MON_COEF_SEL.SET b)) then 5 else 0, fun _ s => (s, 0)⟩

def execCoefficientWrite (win : Fin 7) (b : Fin 5) (value : Word) (be : Fin 16) (s : State) : Answer :=
  .next (s.hostWrite ⟨win, 0x34 + monBase b, value.toNat, be⟩ (coefHook b))

/-- MON_GAINw: the inputs whose gain changes restart at the period's end (R307); `s0` is the state before the write. -/
def gainHook (b w : Nat) (s0 : State) : Hook :=
  ⟨fun _ _ _ => 0, fun _ s =>
    (s.each ((List.range 16).filter (fun j => bits (s0.rd (MON_GAIN.G b w)) (2 * j) 2 ≠ bits (s.rd (MON_GAIN.G b w)) (2 * j) 2))
      (fun j t => t.putBit (MONC.CHG b) (16 * w + j) true), 0)⟩

/-- MON_SRC: codes 0x8 to 0xF are refused (Table 13.2), and the positions whose source changes restart. -/
def srcHook (b : Nat) (s0 : State) : Hook :=
  ⟨fun _ _ v => if (List.range 6).any (fun g => 8 ≤ bits v (4 * g) 4) then 4 else 0, fun _ s =>
    (s.each ((List.range 6).filter (fun g => bits (s0.rd (MON_SRC.SRC b)) (4 * g) 4 ≠ bits (s.rd (MON_SRC.SRC b)) (4 * g) 4))
      (fun g t => t.putBit (MONC.CHG b) (24 + g) true), 0)⟩

/-- MON_DCB_EN: an input newly blocked preloads its mean from its next settled result (R309). -/
def dcbHook (b : Nat) (s0 : State) : Hook :=
  ⟨fun _ _ _ => 0, fun _ s =>
    (s.each ((List.range 32).filter (fun i => !s0.rdBit (MON_DCB_EN.EN b) i && s.rdBit (MON_DCB_EN.EN b) i))
      (fun i t => t.putBit (MONC.PRELOAD b) i true), 0)⟩

/-- MON_BIAS_CTRL: EN holds and starts the loops (R319). -/
def biasCtrlHook (n : Nat) : Hook := ⟨fun _ _ _ => 0, fun _ s => (s.biasEval n, 0)⟩

/-! ## Monitor clock (R315) -/

def execMonitorClockLoss (b : Fin 5) (s : State) : Answer :=
  .next <| s.when (s.answers && !s.on (MON_STAT.CLK_LOSS b)) (fun t =>
    (t.put (MON_STAT.CLK_LOSS b) 1 |>.put (MON_STAT.CLK_EV b) 1).raiseMon b 2 |>.when (b < 4) (·.biasEval b))

def execMonitorClockRelock (b : Fin 5) (s : State) : Answer :=
  .next <| s.when (s.on (MON_STAT.CLK_LOSS b)) (fun t =>
    (t.put (MON_STAT.CLK_LOSS b) 0).monRestart b |>.when (b < 4) (·.biasEval b))

/-! ## Bias loops (R317 to R320) -/

/-- Sign of chip c of loop b: the Walsh sequence of index b + 1. -/
def chipSign (b c : Nat) : Int := if popcount ((b + 1) &&& c) 3 % 2 = 0 then 1 else -1

/-- A loop loses its operating point. -/
def State.biasLoss (n b cause : Nat) (s : State) : State :=
  let s1 := s.when (s.rd (MON_BIAS_STAT.LOSS_CAUSE n) = 0) (fun t =>
      (t.put (MON_BIAS_STAT.LOSS_CAUSE n) cause).put (MON_BIAS_STAT.LOSS_LOOP n) b)
    |>.put (MON_BIAS_STAT.LOSS_EV n) 1 |>.raiseCh n 0x83
  s1.opticalFence n (OPT_FAULT.BIAS n)

/-- Lane of a child loop. -/
def childLane (b : Nat) : Option Nat :=
  match b with
  | 0 => some 0
  | 1 => some 1
  | 3 => some 2
  | 4 => some 3
  | _ => none

/-- Gain of a monitor input. -/
def State.monGain (s : State) (b i : Nat) : Nat := 2 ^ bits (s.rd (MON_GAIN.G b (i / 16))) (2 * (i % 16)) 2

/-- Every 64th update of a child loop estimates Vπ (mV) and reports the drive ratio (R320): drive in mV is the result times
4,000 / 2^23, over its gain. -/
def State.vpiEstimate (n b vpi : Nat) (s : State) : State :=
  match childLane b with
  | some l =>
    let ratio := if vpi = 0 then 0 else
      (roundQ (s.rdS (MONC.DRV n l) * 4000 * 4096) (2 ^ 23 * s.monGain n (8 + l) * vpi)).toNat
    s.put (MON_BIAS_R.VPI n l) vpi |>.put (MON_BIAS_R.RATIO n l) (Nat.min 65535 ratio)
      |>.put (LDSC.DRIVE_NEW n l) (Nat.min 65535 ratio)
      |>.put (BIASC.VPI_BAD n b) (if vpi < 1500 || 6000 < vpi then Nat.min 4 (s.rd (BIASC.VPI_BAD n b) + 1) else 0)
  | none => s

/-- One update of loop b with its error and the Vπ that a 64th update estimates. -/
def State.biasUpdate (n b : Nat) (e : Int) (vpi : Nat) (s : State) : State :=
  let thr := s.rd (MON_BIAS_CTRL.LOCK_THR n)
  let v0 := s.rdS (MON_BIAS_B.V n b) - roundQ (e * 10000) (65536 * 2 ^ s.rd (MON_BIAS_CTRL.GAIN n))
  let v := if v0 < -10000 then -10000 else if 10000 < v0 then 10000 else v0
  let est := s.rd (BIASC.UPD n b) = 63
  let st := s.rd (BIASC.STATE n b)
  let small := if st = 1 && e.natAbs < thr then s.rd (BIASC.SMALL n b) + 1 else 0
  let tries := if st = 1 then s.rd (BIASC.TRIES n b) + 1 else 0
  let large := if st = 2 && 4 * thr < e.natAbs then s.rd (BIASC.LARGE n b) + 1 else 0
  let rail := if v = 10000 || v = -10000 then Nat.min 16 (s.rd (BIASC.RAIL n b) + 1) else 0
  let s1 := s.putS (MON_BIAS_B.V n b) v |>.putS (MON_BIAS_B.ERR n b) (if e < -32768 then -32768 else if 32767 < e then 32767 else e)
    |>.addWrap (BIASC.UPD n b) 1 |>.put (BIASC.SMALL n b) small |>.put (BIASC.TRIES n b) (Nat.min 2048 tries)
    |>.put (BIASC.LARGE n b) large |>.put (BIASC.RAIL n b) rail |>.count n .mon 0x04
    |>.when est (·.vpiEstimate n b vpi)
  let s2 := s1.when (st = 1 && 8 ≤ small) (fun t => (t.put (BIASC.STATE n b) 2 |>.put (BIASC.LARGE n b) 0).biasShow n)
  if 16 ≤ rail then s2.biasLoss n b 1
  else if st = 1 && 2048 ≤ tries && small < 8 then s2.biasLoss n b 2
  else if 64 ≤ large then s2.biasLoss n b 3
  else if 4 ≤ s2.rd (BIASC.VPI_BAD n b) then s2.biasLoss n b 4
  else s2

/-- The end of a block of a tap (0 X, 1 Y): each of its loops that runs updates its bias, or the block is skipped; `vpi` are
the Vπ estimates in mV of its two child loops, when they are due. -/
def State.biasBlock (n tap : Nat) (vpi : List Nat) (s : State) : State :=
  let l := ((keyed (2 * n + tap) s.taps).getD []).reverse
  let sum := (l.map (·.1)).sum
  let loops := [3 * tap, 3 * tap + 1, 3 * tap + 2]
  if l.length < 16 || !s.biasRuns n then s
  else if l.any (·.2) || sum * 200 < 2 * 16 * 2 ^ 23 * (s.monGain n tap : Int) then
    (s.bump (MON_BIAS_STAT.SKIP n)).count n .mon 0x05
  else s.each loops (fun b t =>
    let e := roundQ ((l.zipIdx.map (fun p => p.1.1 * chipSign b (p.2 / 2))).sum * 65536) sum.natAbs
    if t.rd (BIASC.STATE n b) = 0 then t else t.biasUpdate n b e (vpi.getD (b % 3) 0))

def execBiasBlockEnd (n : Fin 4) (tap : Fin 2) (vpi : List Nat) (s : State) : Answer := .next (s.biasBlock n tap vpi)

end Sys2Proof.Machine
end

