-- ==== Sys2Proof/Machine/Pmc.lean ====
section
/-! DEFINITION. Performance-counter commands: chapter 16 of spec/ (R376 to R384). -/

namespace Sys2Proof.Machine

/-- Counters of a scope: 384 of a channel, 64 of scope 4 (R376). -/
def counters (b : Nat) : Nat := if b < 4 then 384 else 64

/-- A fixed counter (R377). -/
def fixedCounter (b c : Nat) : Bool := b < 4 && c < 68

/-- Value of counter c of scope b: ledger counters, drop pairs as halves, or the counter itself (R377). -/
def State.counterValue (s : State) (b c : Nat) : Nat :=
  if b < 4 && c < 8 then ((s.flow.get b).led.io.getD c 0) % 2 ^ 48
  else if b < 4 && c < 60 then
    let v := (s.flow.get b).led.pairs.getD ((c - 8) / 2) 0
    if c % 2 = 0 then v % 2 ^ 48 else v / 2 ^ 48 % 2 ^ 48
  else s.rd (PMC.CNT b c)

/-- Event codes that a block lists (Table 16.6, Table 8.4). -/
def PmcBlock.events : PmcBlock → List Nat
  | .opt => [1, 2, 3, 4, 5, 6]
  | .cnv => [1, 2, 3, 4, 5, 6]
  | .lds => [1, 2, 3, 4, 5, 6, 7, 8, 9]
  | .fec => [1, 2, 3, 4, 5, 6, 7, 8, 9]
  | .lfr => [1, 2, 3, 4, 5, 6, 7, 0x3E]
  | .trb => [1, 2, 3, 4, 5, 0x3E]
  | .hst => [1, 2, 3, 4, 5, 6, 7, 0x3E]
  | .isc => [1, 2, 3, 4]
  | .sec => [1, 2, 3, 4, 5, 0x3E]
  | .mon => [1, 2, 3, 4, 5, 6]
  | .fab => [1, 2, 3, 4]
  | .mem => [1, 2, 3]
  | .key => [1, 2, 3, 4, 5]
  | .sup => [1, 2, 3, 4, 5]

/-- An event that counter c of scope b may be given (R379). -/
def eventAllowed (b c ev : Nat) : Bool :=
  match pmcBlockOf (b = 4) c with
  | some blk => ev = 0 || (ev = evChain && c % 2 = 1) || blk.events.contains ev
  | none => false

/-- Counters that count something are kept on a list of their own. -/
def State.pmcTrack (b c : Nat) (s : State) : State :=
  let l := s.pmcOn.filter (fun p => p ≠ (b, c))
  { s with pmcOn := if s.rd (PMC_CH_CFG.EVENT b c) = 0 then l else l ++ [(b, c)] }

/-- The configuration of the counter that the window shows (R379). -/
def pmcCfgHook (b c : Nat) : Hook :=
  ⟨fun _ f v => if fixedCounter b c then badState
      else if f = PMC_CH_CFG.EVENT b c && !eventAllowed b c v then 4 else 0,
   fun _ s => (s.pmcTrack b c, 0)⟩

/-- PMC_CONFIG_WRITE (R379). -/
def execPmcConfigWrite (win : Fin 7) (b : Fin 5) (value : Word) (be : Fin 16) (s : State) : Answer :=
  .next (s.hostWrite ⟨win, pmcBase b + 0xC, value.toNat, be⟩ (pmcCfgHook b (s.rd (PMC_CH_SEL.COUNTER b))))

/-- PMC_CH_SEL.COUNTER stays below the counters of its scope (R384). -/
def pmcSelHook (b : Nat) : Hook := ⟨fun _ _ v => if v < counters b then 0 else 4, fun _ s => (s, 0)⟩

/-- PMC_CH_VAL_LO of a fixed counter refuses writes (Table 16.8). -/
def pmcLoHook (b c : Nat) : Hook := ⟨fun _ _ _ => if fixedCounter b c then badState else 0, fun _ s => (s, 0)⟩

/-- The write of PMC_CH_VAL_HI completes a value write; STICKY written 1 clears that of the counter (R380). -/
def pmcHiHook (b c : Nat) : Hook :=
  ⟨fun _ f _ => if fixedCounter b c && f = PMC_CH_VAL_HI.HI b then badState else 0,
   fun l s => ((s.when (wroteOne l (PMC_CH_VAL_HI.STICKY b)) (·.put (PMC.STICKY b c) 0)).when
      (wrote l (PMC_CH_VAL_HI.HI b)).isSome
      (fun t => t.put (PMC.CNT b c) (t.rd (PMC_CH_VAL_HI.HI b) * 2 ^ 32 + t.rd (PMC_CH_VAL_LO.LO b))), 0)⟩

/-- PMC_VALUE_WRITE (R380). -/
def execPmcValueWrite (win : Fin 7) (b : Fin 5) (value : Word) (be : Fin 16) (s : State) : Answer :=
  .next (s.hostWrite ⟨win, pmcBase b + 0x14, value.toNat, be⟩ (pmcHiHook b (s.rd (PMC_CH_SEL.COUNTER b))))

/-- What a read of PMC_CH_VAL_LO latches into VAL_HI (R380). -/
def State.pmcLatch (b : Nat) (s : State) : State :=
  let c := s.rd (PMC_CH_SEL.COUNTER b)
  s.put (PMC_CH_VAL_HI.HI b) (s.counterValue b c / 2 ^ 32) |>.put (PMC_CH_VAL_HI.STICKY b) (s.rd (PMC.STICKY b c))

/-! ## Snapshots (R381, R382) -/

/-- Area of scope k (R382). -/
def pmcArea (k : Nat) : Nat := 0x8B00000 + 0x1000 * k

/-- Step 1 and step 2 of Table 16.7 for scope k: the counters latch with their STICKY bits, which clear. -/
def State.pmcSnap (k : Nat) (s : State) : State :=
  if bit (s.rd PMC_SNAP_STAT.BUSY) k = 1 then s.putBit PMC_SNAP_STAT.COLLIDE k true
  else
    let words := (List.range (counters k)).map (fun c =>
      (0x40 + 8 * c, s.counterValue k c + 2 ^ 63 * s.rd (PMC.STICKY k c)))
    let s1 := (s.putBit PMC_SNAP_STAT.BUSY k true).each (s.listed (PMC.STICKY k 0) 4 (counters k))
      (fun c t => t.put (PMC.STICKY k c) 0)
    { s1 with snaps := setKeyed (8 + k) words s1.snaps }.put (PMC.LATCHED k) s.time

/-- PMC_SNAPSHOT_REQUEST (R381). -/
def execPmcSnapshotRequest (win : Fin 7) (value : Word) (be : Fin 16) (s : State) : Answer :=
  .next (s.hostWrite ⟨win, 0x40040, value.toNat, be⟩ ⟨fun _ _ _ => 0, fun l t =>
    (t.each ((List.range 5).filter (fun k => bit ((wrote l PMC_SNAP_REQ.SCOPE).getD 0) k = 1)) (fun k u => u.pmcSnap k), 0)⟩)

/-- PMC_SNAPSHOT_WRITTEN (R381, R382): step 3 for scope k. -/
def execPmcSnapshotWritten (k : Fin 5) (s : State) : Answer :=
  .next (if bit (s.rd PMC_SNAP_STAT.BUSY) k = 0 then s
    else
      let seq := (s.rd (PMC.SEQ k) + 1) % 2 ^ 32
      let words := (keyed (8 + k.val) s.snaps).getD []
      let s1 := s.put (PMC.SEQ k) seq |>.put64 (pmcArea k) (seq * 2 ^ 32 + counters k * 2 ^ 16 + k)
        |>.put64 (pmcArea k + 8) (s.rd (PMC.LATCHED k)) |>.each words (fun w t => t.put64 (pmcArea k + w.1) w.2)
      ({ s1 with snaps := s1.snaps.filter (fun p => p.1 ≠ 8 + k.val) }.putBit PMC_SNAP_STAT.DONE k true
        |>.putBit PMC_SNAP_STAT.BUSY k false |>.raise 145))

end Sys2Proof.Machine
end

