-- ==== Sys2Proof/Machine/LineModes.lean ====
section
/-! DEFINITION. Profile selection, mode agreement and in-service resize: chapter 3 of spec/ (R76 to R83, R490) with the
messages of R266 and R267. -/

namespace Sys2Proof.Machine

/-! ## Profile selection (R76) -/

/-- LDS_LMODE refuses a profile that is undefined or whose REACH is 0. -/
def profileHook (n : Nat) : Hook :=
  ⟨fun s f v => if f = LDS_LMODE.PROFILE n && s.rd (LDS_PROF_P.REACH n v) = 0 then badState else 0, fun _ s => (s, 0)⟩

def execProfileWrite (win : Fin 7) (n : Fin 4) (value : Word) (be : Fin 16) (s : State) : Answer :=
  .next (s.hostWrite ⟨win, chanAddr n 0x200010, value.toNat, be⟩ (profileHook n))

/-! ## Agreement (R77, R266, R83) -/

/-- This end seeks agreement: ACQUIRING with a usable estimate and a peer, and no identifier clash. -/
def State.seeking (s : State) (n : Nat) : Bool :=
  s.chSt n = ChSt.acquiring && !s.interop n && !s.on (LDSC.AGREED n) && s.rd (ISC_STAT.PEER n) = 1
    && !s.on (ISC_STAT.ID_CLASH n) && s.on (LDS_CD_EST.VALID n) && !s.on (LDS_CD_EST.OOR n)

/-- Queues an offer of the active profile. -/
def State.offer (n : Nat) (agreed : Bool) (s : State) : State :=
  match s.active n with
  | some p => s.queue n (.modeOffer p.block agreed (s.on (LDS_RSZ_STAT.INDOUBT n)) (s.rd (LDS_LMODE_STAT.ACTIVE n))
      (s.rd (ISC_STATION.ID n)))
  | none => s

/-- 100 ms since the last periodic offer. -/
def execModeOfferTimer (n : Fin 4) (s : State) : Answer :=
  .next <| s.when (s.firmware && s.seeking n) (fun t => t.offer n (t.on (LDSC.NEXT_AG n)))

/-- The lowest defined profile with a parameter block and REACH = 1. -/
def State.profileOf (s : State) (n : Nat) (b : Block) : Option Nat :=
  [0, 1, 2, 3].find? (fun p => ((s.profile n p).elim false (fun pr => pr.block = b)) && s.on (LDS_PROF_P.REACH n p))

/-- Adopts the peer's mode, and offers anew. -/
def State.adopt (n p : Nat) (s : State) : State :=
  (s.selectProfile n p |>.loadRx n p |>.put (LDS_LMODE_STAT.ADOPTED n) 1 |>.clear [LDSC.SENT_AG n, LDSC.RCVD_AG n, LDSC.NEXT_AG n]).onChan n
      (fun c => { c with msgs := c.msgs.filter (fun m => match m with
        | .modeOffer .. => false
        | _ => true) })
    |>.oorRefresh n |>.iscMode n |>.offer n false

/-- A block that differs from this end's is received while agreement is sought.  The spec does not say which end sets NEG_FAIL
when no common mode results: here the end with the higher identifier does, whose adoption fails (DESIGN CHOICE, log entry 43). -/
def State.offerDiffers (n : Nat) (b : Block) (agreed : Bool) (peer : Nat) (s : State) : State :=
  let s1 := s.clear [LDSC.RCVD_AG n, LDSC.NEXT_AG n]
  let t := (s.chan n).rsz.target
  let answer := s1.when (!agreed) (·.offer n false)
  if s.on (LDS_RSZ_STAT.INDOUBT n) && ((s.profile n t).elim false (fun p => p.block = b)) && s.on (LDS_PROF_P.REACH n t) then
    s1.adopt n t
  else if peer < s.rd (ISC_STATION.ID n) then
    match s.profileOf n b with
    | some p => s1.adopt n p
    | none => answer.put (LDS_LMODE_STAT.NEG_FAIL n) 1
  else answer

/-- What a received offer does: one with AGREED = 0 is answered at once, by an end that does not seek agreement yet too (R266).  The sender's INDOUBT bit is ignored: the spec gives it no effect at the receiver, so that an end
with the higher identifier may adopt the old profile of a peer in doubt (DESIGN CHOICE, log entry 43). -/
def State.offerReceived (n : Nat) (b : Block) (agreed : Bool) (peer : Nat) (s : State) : State :=
  match s.active n with
  | none => s
  | some p =>
    if s.on (LDSC.AGREED n) then s.when (!agreed) (·.offer n true)
    else if !s.seeking n then s.when (!agreed && s.chSt n = ChSt.acquiring && !s.on (ISC_STAT.ID_CLASH n)) (·.offer n false)
    else if p.block = b then
      (s.put (LDSC.NEXT_AG n) 1).when agreed (·.put (LDSC.RCVD_AG n) 1) |>.when (!agreed) (·.offer n true) |>.agreeCheck n
    else s.offerDiffers n b agreed peer

def execModeOfferReceived (n : Fin 4) (seq : Fin 256) (rep : Fin 4) (block : Block) (agreed indoubt : Bool)
    (profile peer : Nat) (s : State) : Answer :=
  let _ := (indoubt, profile)
  s.receive n seq rep (·.byFirmware (·.offerReceived n block agreed (peer % 2 ^ 32)))

/-- ID_CLASH has held for 1 s. -/
def execIdClashNegotiationTimeout (n : Fin 4) (s : State) : Answer :=
  .next <| s.when (s.chSt n = ChSt.acquiring && !s.interop n && !s.on (LDSC.AGREED n) && s.on (ISC_STAT.ID_CLASH n))
    (·.put (LDS_LMODE_STAT.NEG_FAIL n) 1)

/-! ## Conditions of a resize (R78) -/

/-- The table that a resize is checked on: the shadow table with TRIB, else the active one (R221). -/
def State.rszTable (s : State) (n : Nat) (trib : Bool) : List TribCfg := if trib then s.shadowTable n else s.activeTable n

/-- 16 transmit multiframes have not yet passed since the last resize ended. -/
def State.rszRecent (s : State) (n : Nat) : Bool :=
  match (s.chan n).rsz.ended with
  | some m => mfSub (s.mfn n) m < 16
  | none => false

/-- Cause of Table 3.14 for which a resize to profile t is refused; 0 when every condition holds.  `fresh` exempts the
answer to a proposal that won a collision from the spacing of 16 multiframes (R80). -/
def State.rszCause (s : State) (n t : Nat) (trib fresh : Bool) : Nat :=
  if s.interop n then 0x6
  else if !(s.chSt n = ChSt.locked || s.chSt n = ChSt.inService) then 0x1
  else match s.profile n t with
  | none => 0x2
  | some p =>
    if s.rd (LDS_PROF_P.REACH n t) = 0 then 0x2
    else if p.interop then 0x6
    else if s.rszRunning n || (s.rszRecent n && !fresh) then 0x3
    else if s.rollRunning n then 0x4
    else if s.cmtRunning n || (s.tableFault n p [] (s.rszTable n trib)).isSome then 0xB
    else 0

/-- Starts a resize at one end. -/
def State.rszBegin (n : Nat) (r : Rsz) (own st : Nat) (s : State) : State :=
  s.put (LDS_RSZ_STAT.STATE n) st |>.put (LDS_RSZ_STAT.LATE n) 0 |>.put (LDS_RSZ_MF.MFN n) own
    |>.onChan n (fun c => { c with rsz := r })

/-- GO is written (R78). -/
def State.resizeGo (n : Nat) (s : State) : State :=
  let t := s.rd (LDS_RSZ_CTRL.TARGET n)
  let trib := s.on (LDS_RSZ_CTRL.TRIB n)
  let c := s.rszCause n t trib false
  if c = 0 then
    let own := (s.mfn n + Nat.max 64 (s.rd (LDS_RSZ_CTRL.LEAD n))) % 2 ^ 32
    let r : Rsz := ⟨true, t, trib, s.rszTable n trib, t = s.rd (LDS_LMODE_STAT.ACTIVE n), [], false, 0, none, (s.chan n).rsz.ended⟩
    let s1 := (s.put (LDS_RSZ_STAT.CAUSE n) 0).rszBegin n r own RszSt.proposed
    match s.profile n t with
    | some p => s1.queue n (.resizePropose p.block trib own)
    | none => s1
  else
    (s.put (LDS_RSZ_STAT.CAUSE n) c |>.put (LDS_RSZ_STAT.FAIL_EV n) 1 |>.raiseCh n 0x28).when (!s.rszRunning n)
      (·.put (LDS_RSZ_STAT.STATE n) RszSt.failed)

def resizeHook (n : Nat) : Hook :=
  ⟨fun _ _ _ => 0, fun l s => (s.when (wroteOne l (LDS_RSZ_CTRL.GO n)) (·.resizeGo n), 0)⟩

def execResizeGo (win : Fin 7) (n : Fin 4) (value : Word) (be : Fin 16) (s : State) : Answer :=
  .next (s.hostWrite ⟨win, chanAddr n 0x200040, value.toNat, be⟩ (resizeHook n))

/-! ## Exchange (Table 3.6) -/

/-- A number of the peer's transmit count in this end's own (R267). -/
def State.translate (s : State) (n m : Nat) : Nat := (m + mfSub (s.mfn n) (s.rd (LFR_MFN_RX.MFN n))) % 2 ^ 32

/-- The proposal of this end is withdrawn after a collision: it is no resize that ended (R78, R80). -/
def State.rszLost (n : Nat) (s : State) : State :=
  let e := (s.chan n).rsz.ended
  (s.rszFail n 0x9).onChan n (fun c =>
    { c with rsz := { c.rsz with ended := e },
             msgs := c.msgs.filter (fun m => match m with
               | .resizePropose _ _ _ => false
               | _ => true) })

/-- Step 3: the peer's proposal is checked and answered. -/
def State.answerProposal (n : Nat) (b : Block) (trib : Bool) (tA : Nat) (fresh : Bool) (s : State) : State :=
  let own := s.translate n tA
  let left := mfSub own (s.mfn n)
  let t := (s.profileOf n b).getD 4
  let c := s.rszCause n t trib fresh
  if left < 16 || 2 ^ 31 ≤ left then s.queue n (.resizeRefuse tA 0xA)
  else if c ≠ 0 then s.queue n (.resizeRefuse tA c)
  else
    let r : Rsz := ⟨false, t, trib, s.rszTable n trib, t = s.rd (LDS_LMODE_STAT.ACTIVE n), [], false, tA, none, (s.chan n).rsz.ended⟩
    (s.rszBegin n r own RszSt.accepted).queue n (.resizeAccept tA own)

/-- The proposal this end sent waits for its answer. -/
def State.proposed (s : State) (n : Nat) : Bool := s.rd (LDS_RSZ_STAT.STATE n) = RszSt.proposed && (s.chan n).rsz.proposer

/-- The vote on an arm is requested, where the framer holds multiframe lock (R79). -/
def State.rszArmRequest (n : Nat) (s : State) : State :=
  if s.on (LFR_STAT.MF_LOCK n) then
    (s.onChan n (fun c => { c with rsz := { c.rsz with heard := true } })).request (.resizeArm n)
  else (s.rszFail n 0x8).when (s.chan n).rsz.proposer (·.rszCancel n 0x8)

/-- RESIZE_ACCEPT at the proposer (step 4). -/
def State.acceptReceived (n tA tB : Nat) (s : State) : State :=
  s.when (s.proposed n && !(s.chan n).rsz.heard && s.rd (LDS_RSZ_MF.MFN n) = tA && 16 < s.mfLeft n) (fun t =>
    (t.onChan n (fun c => { c with rsz := { c.rsz with peerMf := tB } })).rszArmRequest n)

/-- RESIZE_PROPOSE: a loopback takes its own as an ACCEPT (R270); crossing proposals are resolved (R80). -/
def State.proposeReceived (n : Nat) (b : Block) (trib : Bool) (tA : Nat) (s : State) : State :=
  if s.on (ISC_STAT.LOOPBACK n) then s.acceptReceived n tA tA
  else if s.proposed n && !(s.chan n).rsz.heard then
    let theirs := s.translate n tA
    let own := s.rd (LDS_RSZ_MF.MFN n)
    let yields := if theirs = own then s.rd (ISC_PEER.ID n) < s.rd (ISC_STATION.ID n) else 2 ^ 31 ≤ mfSub theirs own
    if yields then (s.rszLost n).answerProposal n b trib tA true else s
  else s.answerProposal n b trib tA false

def execResizeProposeReceived (n : Fin 4) (seq : Fin 256) (rep : Fin 4) (block : Block) (trib : Bool) (tA : Nat) (s : State) :
    Answer :=
  s.receive n seq rep (·.byFirmware (·.proposeReceived n block trib (tA % 2 ^ 32)))

def execResizeAcceptReceived (n : Fin 4) (seq : Fin 256) (rep : Fin 4) (tA tB : Nat) (s : State) : Answer :=
  s.receive n seq rep (·.byFirmware (·.acceptReceived n (tA % 2 ^ 32) (tB % 2 ^ 32)))

/-- A refusal or cancellation that names the resize of this end, before its own target − 8 (R490). -/
def State.rszWithdraw (n tA : Nat) (s : State) : State :=
  let r := (s.chan n).rsz
  let st := s.rd (LDS_RSZ_STAT.STATE n)
  let named := if r.proposer then s.rd (LDS_RSZ_MF.MFN n) = tA else r.peerMf = tA
  s.when ((st = 1 || st = 2 || st = 3) && named && 8 < s.mfLeft n) (fun t =>
    (t.rszFail n 0x5).when r.proposer (·.rszCancel n 0x5))

def execResizeRefuseReceived (n : Fin 4) (seq : Fin 256) (rep : Fin 4) (tA : Nat) (cause : Fin 16) (s : State) : Answer :=
  let _ := cause
  s.receive n seq rep (·.byFirmware (·.rszWithdraw n (tA % 2 ^ 32)))

/-- RESIZE_CONFIRM: the accepting end arms (step 5), or withdraws on CANCEL. -/
def State.confirmReceived (n tA tB : Nat) (cancel : Bool) (s : State) : State :=
  let r := (s.chan n).rsz
  if cancel then s.rszWithdraw n tA
  else s.when (s.rd (LDS_RSZ_STAT.STATE n) = RszSt.accepted && !r.heard && r.peerMf = tA && s.rd (LDS_RSZ_MF.MFN n) = tB
      && 8 < s.mfLeft n) (·.rszArmRequest n)

def execResizeConfirmReceived (n : Fin 4) (seq : Fin 256) (rep : Fin 4) (tA tB : Nat) (cancel : Bool) (s : State) : Answer :=
  s.receive n seq rep (·.byFirmware (·.confirmReceived n (tA % 2 ^ 32) (tB % 2 ^ 32) cancel))

/-- The arbiter cannot vote. -/
def State.voteDead (s : State) : Bool := s.frozen || !s.firmware

/-- Step 4a: no ACCEPT, or no arm, by target − 16. -/
def execResizeAcceptDeadline (n : Fin 4) (s : State) : Answer :=
  .next <| s.when (s.proposed n && s.mfLeft n ≤ 16 && (!s.votes.contains (.resizeArm n) || s.voteDead)) (fun t =>
    (t.rszFail n 0xA).rszCancel n 0xA)

/-- Step 5a: no CONFIRM, or no arm, by target − 8. -/
def execResizeConfirmDeadline (n : Fin 4) (s : State) : Answer :=
  .next <| s.when (s.rd (LDS_RSZ_STAT.STATE n) = RszSt.accepted && s.mfLeft n ≤ 8 && (!s.votes.contains (.resizeArm n) || s.voteDead))
    (fun t => (t.rszFail n 0xA).put (LDS_RSZ_STAT.INDOUBT n) 1)

/-- The target raises the channel's symbol rate or its enabled tiles (R52). -/
def State.rszRaises (s : State) (n : Nat) : Bool :=
  match s.active n, s.profile n (s.chan n).rsz.target with
  | some p, some q => p.rs < q.rs || p.nCd + p.nMimo + p.nNlc < q.nCd + q.nMimo + q.nNlc
  | _, _ => false

/-- The arm vote of channel n is approved. -/
def State.resizeApproved (n : Nat) (s : State) : State :=
  let st := s.rd (LDS_RSZ_STAT.STATE n)
  if (st = 1 || st = 2) && (s.chan n).rsz.heard then
    if s.on (LFR_STAT.MF_LOCK n) then (s.put (LDS_RSZ_STAT.STATE n) RszSt.armed).when (s.rszRaises n) (·.boost n)
    else (s.rszFail n 0x8).when (st = 1) (·.rszCancel n 0x8)
  else s

/-- The arm vote of channel n is refused by an arbiter that can vote. -/
def State.resizeRefused (n : Nat) (s : State) : State :=
  let st := s.rd (LDS_RSZ_STAT.STATE n)
  if st = 1 then (s.rszFail n 0xC).rszCancel n 0xC
  else if st = 2 then (s.rszFail n 0xC).put (LDS_RSZ_STAT.INDOUBT n) 1
  else s

/-! ## Switch (Table 3.6, steps 6 to 8) -/

/-- Entries take their new states at the target, which plays the part of step 5 of the commit sequence (R221). -/
def State.rszEntries (n : Nat) (s : State) : State :=
  if (s.chan n).rsz.trib then
    s.each (s.tribsOf n (s.chan n).rsz.table) (fun t u =>
        (u.put (TRB_TRIB.STATE n t) (stepFour (u.rd (TRB_TRIB.STATE n t)) (u.on (TRB_TRIB.EN n t)))).stepFive n t false)
      |>.trbStat n |>.hstRefresh n
  else s

/-- Step 6: the transmitter switches at the target multiframe. -/
def execResizeTargetReached (n : Fin 4) (s : State) : Answer :=
  .next <| s.when (s.rd (LDS_RSZ_STAT.STATE n) = RszSt.armed && s.mfLeft n = 0) (fun t =>
    let r := (t.chan n).rsz
    (t.put (LDS_RSZ_STAT.STATE n) RszSt.resizing |>.unconverge n).when (!r.only) (fun u =>
        u.selectProfile n r.target |>.put (LDS_TX_STAT.SWITCH_EV n) 1 |>.bump (LDS_TX_CNT.SWITCH n))
      |>.rszEntries n |>.put (LFRC.TX_RESIZE n) 1 |>.put (LDSC.RSZ_WIN n) 1
      |>.when (t.chSt n = ChSt.inService) (·.setCh n ChSt.resizing (if r.proposer then 0x6 else 0x7))
      |>.calPause n 1)

/-- Modulus of the received MFN: 65,536 in G2 (R228). -/
def State.mfModulus (s : State) (n : Nat) : Nat := if s.on (LFR_CTRL.G2 n) then 65536 else 2 ^ 32

/-- Multiframes from the received one to the peer's target. -/
def State.rxLeft (s : State) (n : Nat) : Nat :=
  let m := s.mfModulus n
  ((s.chan n).rsz.peerMf % m + m - s.rd (LFR_MFN_RX.MFN n) % m) % m

/-- First codeword of the peer's target multiframe, counted from the last boundary that LFR reported (R185). -/
def State.targetCodeword (s : State) (n : Nat) : Option Nat :=
  if s.rxLeft n < s.mfModulus n / 2 then (s.chan n).rx.mf.map (· + 147456 * s.rxLeft n) else none

/-- The received target: the next codeword is the first of the target multiframe, or LFR already reports that multiframe. -/
def State.atPeerTarget (s : State) (n : Nat) : Bool :=
  s.rxLeft n = 0 || (s.targetCodeword n).any (fun q => decide (q ≤ (s.flow.get n).led.cwIn + 1))

/-- The receive stages load the target profile: those that R150 names carry over, and codewords already assembled keep the old one. -/
def State.switchReceiver (n p : Nat) (s : State) : State :=
  let fb := (s.profile n p).elim false (·.dfe)
  let q := (s.targetCodeword n).getD ((s.flow.get n).led.cwIn + 1)
  let u := s.loadRx n p
  ((u.onRx n (fun x => { x with old := some (q, s.rd (LDSC.RXPROF n)) })).onDsp n (·.feedbackOn fb)).flag (LDS_EQ_STAT.DFE n) fb

/-- Step 7: the receive stages load the target profile (R150). -/
def execResizeReceiverSwitch (n : Fin 4) (s : State) : Answer :=
  .next <| s.when ((s.rd (LDS_RSZ_STAT.STATE n) = RszSt.armed || s.rd (LDS_RSZ_STAT.STATE n) = RszSt.resizing)
      && (s.chan n).rsz.rxAt.isNone && s.on (LFR_STAT.MF_LOCK n) && s.atPeerTarget n) (fun t =>
    let r := (t.chan n).rsz
    (t.onChan n (fun c => { c with rsz := { c.rsz with rxAt := some t.time } })).when (!r.only)
      (fun u => (u.switchReceiver n r.target).unconverge n))

/-- CONVERGED sets, between steps 6 and 7 of a resize not yet: the pre-boost ends in the new mode (R52), and a resize ends DONE
(step 8). -/
def State.converge (n : Nat) (s : State) : State :=
  let s1 := s.put (LDS_CH_STATE.CONVERGED n) 1
  if s.rd (LDS_RSZ_STAT.STATE n) = RszSt.resizing then
    match (s.chan n).rsz.rxAt with
    | none => s
    | some t0 =>
      let us := (s.time - t0) / 1000
      let s2 := (s1.put (LDS_RSZ_TIME.CONV n) (Nat.min us 0xFFFE) |>.flag (LDS_RSZ_STAT.LATE n) (10000 < us)
        |>.put (LDSC.RSZ_WIN n) 1).rszDone n |>.endBoost n
      s2.when (s.chSt n = ChSt.resizing) (fun t => (t.setCh n ChSt.inService 0x0).serviceEval n)
        |>.when (s.chSt n = ChSt.locked) (·.serviceEval n)
  else s1.when (s.rd (LDS_RSZ_STAT.STATE n) ≠ RszSt.armed) (·.endBoost n)

/-- Step 8b: 50 ms from the target without convergence. -/
def execResizeConvergenceTimeout (n : Fin 4) (s : State) : Answer :=
  .next <| s.when (s.rd (LDS_RSZ_STAT.STATE n) = RszSt.resizing) (fun t =>
    let t1 := (t.rszFail n 0xD)
    t1.when (t1.chSt n = ChSt.resizing) (·.setCh n ChSt.acquiring 0x8))

end Sys2Proof.Machine
end

