-- ==== Sys2Proof/Machine/ReceiveDsp.lean ====
section
/-! DEFINITION. Receive signal processing: chapter 6 of spec/ (R126 to R155). -/

namespace Sys2Proof.Machine

/-! ## Dispersion (R129 to R131) -/

/-- The estimator searches the widest CD range of the channel's defined profiles, and finds symbol rates of 56 to 340 GBd (R130). -/
def State.estimable (s : State) (n : Nat) (est : Int) (rs : Nat) : Bool :=
  est.natAbs ≤ 1000 * ([0, 1, 2, 3].foldl (fun m p => Nat.max m ((s.profile n p).elim 0 (·.cd))) 0) && 5600 ≤ rs && rs ≤ 34000

/-- The coarse estimator ends with a result: `est` in ps/nm and `rs` in 0.01 GBd.  While OOR holds it starts again. -/
def execCoarseEstimateComplete (n : Fin 4) (est : Int) (rs : Nat) (s : State) : Answer :=
  .next <| s.when (s.chSt n = ChSt.acquiring && s.on (LDSC.EST_RUN n)) (fun t =>
    if t.on (LDSC.SRC n) then t.coarseStart n
    else t.when (t.estimable n est rs) (fun u =>
      let t1 := (u.put (LDS_RS_EST.RS n) rs).coarseDone n est
      t1.when (t1.on (LDS_CD_EST.OOR n)) (·.coarseStart n)))

/-- No result in 20 ms; a fixed target, which needs none, is taken again (R131). -/
def execCoarseEstimateTimeout (n : Fin 4) (s : State) : Answer :=
  .next <| s.when (s.chSt n = ChSt.acquiring && s.on (LDSC.EST_RUN n)) (fun t =>
    (t.when (!t.on (LDSC.SRC n)) (fun u => (u.put (LDS_CD_EST.FAIL n) 1).raiseCh n 0x21)).coarseStart n)

/-- A tracking step of −1, 0 or +1 ps/nm (dir 0, 1, 2), never out of the active profile's range. -/
def execCdTrackStep (n : Fin 4) (dir : Fin 3) (s : State) : Answer :=
  .next <| s.when (s.holdsLock n && s.on (LDS_CD_CTRL.TRACK n) && s.on (LDS_CD_EST.VALID n)) (fun t =>
    let e := t.rdS (LDS_CD_EST.EST n) + (dir.val : Int) - 1
    (t.when (!t.outOfRange n e) (·.putS (LDS_CD_EST.EST n) e)).put (LDS_CD_EST.FINE n) 1)

/-! ## Clock and carrier (R133, R136) -/

/-- Clock recovery runs at an offset in 0.01 ppm, within its pull-in range of 200 ppm: it locks, which completes step 2 of Table 6.4, or
tracks the offset (R133). -/
def execClockRecoveryLock (n : Fin 4) (ppm : Int) (s : State) : Answer :=
  .next <| s.when (ppm.natAbs ≤ 20000 && (s.on (LDS_CLK_STAT.LOCK n) || (s.chSt n = ChSt.acquiring && 2 ≤ s.rd (LDS_ACQ_STAT.STEP n))))
    (fun t => ((t.put (LDS_CLK_STAT.LOCK n) 1).putS (LDS_CLK_STAT.PPM n) ppm).when
      (t.chSt n = ChSt.acquiring && t.rd (LDS_ACQ_STAT.STEP n) = 2) (·.put (LDS_ACQ_STAT.STEP n) 3))

/-- Clock recovery loses lock, which costs the frame. -/
def execClockRecoveryLoss (n : Fin 4) (s : State) : Answer :=
  .next <| s.when (s.on (LDS_CLK_STAT.LOCK n)) (fun t => (t.put (LDS_CLK_STAT.LOCK n) 0).loseFrame n)

/-- A cycle slip is corrected at the pilot that shows it: the LLRs of its `symbols` are 0 (R136). -/
def execCycleSlip (n : Fin 4) (symbols : Fin 65) (s : State) : Answer :=
  .next <| s.when (s.on (LDS_EQ_STAT.PSYNC n)) (fun t =>
    ((t.bump (LDS_CR_STAT.SLIP n)).count n .lds 0x01).onDsp n (fun d => { d with slip := d.slip + symbols.val }))

/-! ## Acquisition (Table 6.4, R147) -/

/-- A step of Table 6.4 completes, under its condition; `fofs` is the carrier offset in MHz at step 4, `adc` the codes received in the
step.  At step 6 demapping begins. -/
def State.acqStep (n : Nat) (fofs : Int) (adc : List (List Int)) (s : State) : State :=
  let go (k : Nat) (t : State) : State := t.put (LDS_ACQ_STAT.STEP n) k
  match s.rd (LDS_ACQ_STAT.STEP n) with
  | 2 => s.when (s.on (LDS_CLK_STAT.LOCK n)) (go 3)
  | 3 => go 4 (s.blindTaps n)
  | 4 => s.when (fofs.natAbs ≤ 3600) (fun t => go 5 (t.putS (LDS_CR_STAT.FOFS n) fofs))
  | 5 => go 6 (((s.syncPilots n adc).put (LDS_EQ_STAT.PSYNC n) 1).flag (ISC_STAT.COH n) (!s.interop n))
  | 6 =>
    let fb := ((s.rxProfile n).elim false (·.dfe)) && !s.interop n
    go 7 (((s.onDsp n (·.feedbackOn fb)).flag (LDS_EQ_STAT.DFE n) fb).receiveSpan n adc)
  | 7 => s.when (s.on (FEC_STAT.CW_ALIGN n)) (go 8)
  | 8 => s.when (s.rd (LFR_STAT.FSTATE n) = 2 && !s.on (OPT_FAULT.RX n)) (·.reachLocked n)
  | _ => s

def execAcquisitionStepComplete (n : Fin 4) (fofs : Int) (adc : List (List Int)) (s : State) : Answer :=
  .next <| s.when (s.chSt n = ChSt.acquiring) (·.acqStep n fofs adc)

/-- A warm restart: at step 2, with the CD target kept. -/
def State.warmRestart (n : Nat) (s : State) : State :=
  ((s.bump (LDS_ACQ_CNT.WARM n)).count n .lds 0x03).stagesStop n |>.put (LDS_ACQ_STAT.COLD n) 0 |>.put (LDSC.WAIT n) 0
    |>.put (LDS_ACQ_STAT.STEP n) 2

/-- A cold restart: the coarse estimate and agreement run again.  FOFS keeps its value until step 4 writes it: the spec does not say
(DESIGN CHOICE, log entry 43). -/
def State.coldRestart (n : Nat) (s : State) : State :=
  (s.bump (LDS_ACQ_CNT.COLD n)).count n .lds 0x04 |>.stagesStop n |>.put (LDS_CD_EST.VALID n) 0
    |>.put (LDS_ACQ_STAT.COLD n) 1 |>.put (LDS_ACQ_STAT.STEP n) 0 |>.unagree n
    |>.when (!s.interop n) (·.chipRest n 1) |>.coarseStart n

/-- A step exceeds its bound: after every odd failure in a row the restart is warm, after every even one cold. -/
def execAcquisitionStepTimeout (n : Fin 4) (s : State) : Answer :=
  let st := s.rd (LDS_ACQ_STAT.STEP n)
  .next <| s.when (s.chSt n = ChSt.acquiring && 2 ≤ st && st ≤ 8) (fun t =>
    let t1 := t.put (LDS_ACQ_STAT.LAST_FAIL n) st |>.addWrap (LDSC.FAILS n) 1 |>.raiseCh n 0x23
      |>.flushReceive n |>.clearAlign n
    if t1.rd (LDSC.FAILS n) % 2 = 1 then t1.warmRestart n else t1.coldRestart n)

/-! ## Tiles (R142 to R144) -/

/-- Tiles of a profile's stage g, and the stage's cost (Table 3.4). -/
def Profile.stageTiles (p : Profile) (g : Nat) : List Nat := if g = 1 then p.tCd else if g = 2 then p.tMimo else p.tNlc

def Profile.stageCost (p : Profile) (g : Nat) : Nat :=
  if g = 1 then costCd p.rs p.cd else if g = 2 then costMimo p.rs p.dfe else costNlc p.rs p.trip

/-- The active tiles of stage g cover its cost in the loaded profile. -/
def State.stageCovered (s : State) (n g : Nat) : Bool :=
  g = 0 || (s.rxProfile n).elim true (fun p => p.stageCost g ≤ s.activeTiles n (p.stageTiles g))

/-- Tile t is fenced with its detector: a CD tile's lent codewords are released at once with UNCORR, and the stage repartitions, its
share discarded until then, or the channel refuses its mode (R143). -/
def State.tileFence (n t cause : Nat) (s : State) : State :=
  let g := s.rd (LDS_TILE_STAT.STAGE n t)
  let served := s.rd (LDS_TILE_STAT.STATE n t) = 0 && g ≠ 0
  let lent := (s.cws n).filter (fun w => w.lent = some t)
  let s1 := s.put (LDS_TILE_STAT.STATE n t) 2 |>.when (s.rd (LDS_TILE_STAT.CAUSE n t) = 0) (·.put (LDS_TILE_STAT.CAUSE n t) cause)
    |>.put (LDS_TILE_SUM.FENCED n) (s.rd (LDS_TILE_SUM.FENCED n) + 1) |>.raiseCh n 0x22
    |>.each lent (fun w u => u.cwRelease n w ⟨false, false, true⟩)
    |>.drainOut n |>.tileSum n |>.rebudget n |>.fecOcc n |>.unitChanged n true
  if served && s1.lightUp n then
    if s1.stageCovered n g then ((s1.put (LDSC.REPART n) 1).onDsp n (fun d => { d with bad := t :: d.bad })).unconverge n else s1.refuseMode n
  else s1

/-- A detector of Table 6.3 fires on a tile that is ACTIVE or IDLE. -/
def State.tileFault (n t cause : Nat) (s : State) : State :=
  s.when (s.answers && s.rd (LDS_TILE_STAT.STATE n t) ≤ 1) (·.tileFence n t cause)

/-- One residue mismatch: the output of the tile's block is discarded, which in the CD and MIMO stages erases the LLRs that follow from
it and in the NLC stage omits the block's terms (R142). -/
def execTileResidueMismatch (n : Fin 4) (t : Fin 96) (s : State) : Answer :=
  .next <| s.when (s.rd (LDS_TILE_STAT.STATE n t) = 0 && s.rd (LDS_TILE_STAT.STAGE n t) ≠ 0) (fun u =>
    ((u.bump (LDS_TILE_STAT.ERRCNT n t)).count n .lds 0x02).onDsp n (fun d => { d with bad := t.val :: d.bad }))

def execTileResidueFault (n : Fin 4) (t : Fin 96) (s : State) : Answer := .next (s.tileFault n t 0x2)

def execTileHandshakeFault (n : Fin 4) (t : Fin 96) (s : State) : Answer := .next (s.tileFault n t 0x3)

/-- Forcing tile t would leave its stage below its cost. -/
def State.tileNeeded (s : State) (n t : Nat) : Bool :=
  !((s.put (LDS_TILE_STAT.STATE n t) 2).stageCovered n ((s.rxProfile n).elim 0 (·.stageOf t)))

/-- LDS_TILE_CMD is refused on a tile that is neither ACTIVE nor IDLE, and on an ACTIVE one that its stage cannot spare
while the channel is not DARK. -/
def State.tileRefused (s : State) (n t : Nat) : Bool :=
  1 < s.rd (LDS_TILE_STAT.STATE n t)
    || (s.rd (LDS_TILE_STAT.STATE n t) = 0 && s.chSt n ≠ ChSt.dark && s.tileNeeded n t)

def tileForceHook (n : Nat) : Hook :=
  ⟨fun s f v => if f = LDS_TILE_CMD.FORCE n && v = 1 && s.tileRefused n (s.rd (LDS_TILE_SEL.TILE n)) then badState else 0,
   fun l s => (s.when (wroteOne l (LDS_TILE_CMD.FORCE n)) (fun t => t.tileFault n (t.rd (LDS_TILE_SEL.TILE n)) 0x4), 0)⟩

def execTileForce (win : Fin 7) (n : Fin 4) (value : Word) (be : Fin 16) (s : State) : Answer :=
  .next (s.hostWrite ⟨win, chanAddr n 0x200170, value.toNat, be⟩ (tileForceHook n))

/-- The stage has repartitioned its work: CONVERGED is earned anew from here. -/
def execTileRepartitionComplete (n : Fin 4) (s : State) : Answer :=
  .next <| s.when (s.on (LDSC.REPART n)) (fun t =>
    ((t.put (LDSC.REPART n) 0).onDsp n (fun d => { d with bad := d.bad.filter (fun k => t.rd (LDS_TILE_STAT.STATE n k) = 0) })).unconverge n)

/-! ## Convergence (R149, R151) -/

/-- A resize that changes tributaries only converges by its own criterion (R79). -/
def State.tribOnly (s : State) (n : Nat) : Bool := s.rd (LDS_RSZ_STAT.STATE n) = RszSt.resizing && (s.chan n).rsz.only

/-- The pilot SNR of a window is less than 0.1 dB above or below another's: of (pilot energy, error energy). -/
def snrNear (a b : Nat × Nat) : Bool :=
  decide ((a.1 * b.2) ^ 100 < 10 * (b.1 * a.2) ^ 100) && decide ((b.1 * a.2) ^ 100 < 10 * (a.1 * b.2) ^ 100)

/-- What the receive DSP measured in the window meets R149: the normalised energy of its tap updates, and its SNR against the window
before. -/
def RxDsp.settled (d : RxDsp) : Bool :=
  decide (d.update * 2 ^ 14 < tapEnergy d.taps) && snrNear d.cx d.lastX && snrNear d.cy d.lastY

/-- The next convergence window begins. -/
def RxDsp.nextWindow (d : RxDsp) : RxDsp := { d with update := 0, lastX := d.cx, lastY := d.cy, cx := (0, 0), cy := (0, 0) }

/-- The receiver has not yet switched in the resize in progress. -/
def State.beforeSwitch (s : State) (n : Nat) : Bool := s.rd (LDS_RSZ_STAT.STATE n) = RszSt.resizing && (s.chan n).rsz.rxAt.isNone

/-- A convergence window ends.  Between steps 6 and 7 of a resize no window counts towards CONVERGED, which the switch would clear
again (Table 3.6). -/
def execConvergenceWindowEnd (n : Fin 4) (s : State) : Answer :=
  .next <| s.when (s.holdsLock n) (fun t =>
    let ok := (t.chan n).dsp.settled && !t.on (LDSC.WIN_UNC n) && t.rd (LFR_STAT.FSTATE n) = 2
    let k := if ok then Nat.min 15 (t.rd (LDS_EQ_STAT.WINOK n) + 1) else 0
    ((t.put (LDSC.WIN_UNC n) 0 |>.put (LDS_EQ_STAT.WINOK n) k).onDsp n RxDsp.nextWindow).when
      (8 ≤ k && !t.on (LDS_CH_STATE.CONVERGED n) && !t.tribOnly n && !t.beforeSwitch n) (·.converge n))

def execNoConvergenceTimeout (n : Fin 4) (s : State) : Answer :=
  .next <| s.when ((s.chSt n = ChSt.locked || s.chSt n = ChSt.inService) && !s.on (LDS_CH_STATE.CONVERGED n)) (fun t =>
    (t.put (LDS_EQ_STAT.NOCONV n) 1).raiseCh n 0x24)

/-! ## Link quality (R152, R153) -/

/-- Figures of a link-quality window: SNR over both polarisations, of X and of Y, in 0.01 dB; EVM in 0.01%; whether a codeword was
released corrected, GMI in 1/1,024 bit, 100 log10 of the pre-FEC BER, no disagreeing bit. -/
structure Quality where
  snr : Nat
  x : Nat
  y : Nat
  evm : Nat
  berv : Bool
  gmi : Nat
  ber : Int
  zero : Bool

/-- Digits of a number, less one; k bounds them. -/
def log10From : Nat → Nat → Nat
  | 0, _ => 0
  | k + 1, q => if q < 10 then 0 else 1 + log10From k (q / 10)

/-- Greatest integer not above k log10(a / b), of positive a and b. -/
def logRatio (k a b : Nat) : Int :=
  if b ≤ a then (log10From (a ^ k).log2 (a ^ k / b ^ k) : Int)
  else
    let q := ceilDiv (b ^ k) (a ^ k)
    Int.negSucc (log10From q.log2 (q - 1))

/-- SNR in 0.01 dB, of (pilot energy, error energy); where no error, or no pilot, or more error than signal leaves no value in the
field, it is open (log entry 2). -/
def State.snrOf (q : Nat × Nat) (s : State) : Nat × State :=
  if q.2 = 0 || q.1 < q.2 then s.draw
  else
    let v := logRatio 1000 q.1 q.2
    (v.toNat + (if q.1 ^ 1000 = 10 ^ v.toNat * q.2 ^ 1000 then 0 else if Config.roundUp v q.2 then 1 else 0), s)

/-- EVM in 0.01%, of (data symbols, error energy in 2^-40): its rounding is open (log entry 2). -/
def State.evmOf (q : Nat × Nat) (s : State) : Nat × State :=
  if q.1 = 0 then s.draw
  else
    let v := 10 ^ 8 * q.2 / (q.1 * 2 ^ 40)
    let r := isqrt v
    (r + (if r * r * (q.1 * 2 ^ 40) = 10 ^ 8 * q.2 then 0 else if Config.roundUp r q.1 then 1 else 0), s)

/-- GMI in 1/1,024 bit, of (sum of the terms in 2^-10, symbols per polarisation); an interoperable mode's H is its m. -/
def gmiOf (p : Profile) (q : Nat × Nat) : Nat :=
  (roundQ ((1024 * (if p.interop then 100 * p.m else p.hx) * q.2 : Nat) - (100 * q.1 : Nat)) (100 * q.2)).toNat

/-- 100 log10 of the pre-FEC BER, rounded, of (coded bits, those that disagree); with none, of one over the bits. -/
def berOf (q : Nat × Nat) : Int := (logRatio 200 (Nat.max 1 q.2) q.1 + 1) / 2

/-- The figures that the window's sums give (Table 6.5). -/
def State.quality (n : Nat) (s : State) : Quality × State :=
  let d := (s.chan n).dsp
  let a := s.snrOf (addPair d.px d.py)
  let b := a.2.snrOf d.px
  let c := b.2.snrOf d.py
  let e := c.2.evmOf d.evm
  (⟨a.1 % 2 ^ 16, b.1, c.1, e.1, 0 < d.ber.1, (s.rxProfile n).elim 0 (fun p => gmiOf p d.gmi), berOf d.ber, d.ber.2 = 0⟩, e.2)

/-- The next link-quality window begins. -/
def RxDsp.nextQuality (d : RxDsp) : RxDsp :=
  { d with px := (0, 0), py := (0, 0), evm := (0, 0), gmi := (0, 0), ber := (0, 0) }

/-- GMI margin in 1/1,024 bit (Table 6.5). -/
def gmiMargin (p : Profile) (gmi : Nat) : Int := gmi - ((2048 * (p.hx - parity100 p.code p.m) + 100) / 200 : Nat)

/-- GMI, margin and BER of a window with a codeword released corrected; R67 gives no margin for an interoperable code. -/
def State.berFigures (n : Nat) (q : Quality) (s : State) : State :=
  let s1 := s.put (LDS_LQ_GMI.GMI n) q.gmi |>.putS (LDS_LQ_BER.BER_LOG n) q.ber
  match s.rxProfile n with
  | some p => if p.interop then (s1.draw.2).put (LDS_LQ_GMI.MARGIN n) s1.draw.1 else s1.putS (LDS_LQ_GMI.MARGIN n) (gmiMargin p q.gmi)
  | none => s1

/-- SNR and EVM of a window with pilots.  SD keeps its value while SD_THR is 0: the spec does not say (DESIGN CHOICE, log entry 43). -/
def State.snrFigures (n : Nat) (q : Quality) (s : State) : State :=
  let low := s.on (LDSC.MIN_READ n) || q.snr < s.rd (LDS_LQ_SNR.MIN n)
  let thr := s.rd (LDS_LQ_CTRL.SD_THR n)
  s.put (LDS_LQ_SNR.SNR n) q.snr |>.when low (·.put (LDS_LQ_SNR.MIN n) q.snr) |>.put (LDSC.MIN_READ n) 0
    |>.put (LDS_LQ_SNRXY.X n) q.x |>.put (LDS_LQ_SNRXY.Y n) q.y |>.put (LDS_LQ_EVM.EVM n) q.evm
    |>.when (thr ≠ 0 && q.snr < thr && !s.on (LDS_LQ_STAT.SD n)) (fun t =>
        (t.put (LDS_LQ_STAT.SD n) 1 |>.put (LDS_LQ_STAT.SD_EV n) 1).raiseCh n 0x26)
    |>.when (thr ≠ 0 && thr + 50 ≤ q.snr) (·.put (LDS_LQ_STAT.SD n) 0)

/-- Figures are computed: ACQUIRING at step 5 of Table 6.4 or later, or in a state that holds lock. -/
def State.figures (s : State) (n : Nat) : Bool :=
  s.holdsLock n || (s.chSt n = ChSt.acquiring && 5 ≤ s.rd (LDS_ACQ_STAT.STEP n))

/-- A link-quality window ends: all its figures are latched together. -/
def State.lqWindow (n : Nat) (s0 : State) : State :=
  let valid := s0.on (LDS_EQ_STAT.PSYNC n)
  let rsz := s0.rd (LDS_RSZ_STAT.STATE n) = RszSt.resizing
  let r := s0.quality n
  let q := r.1
  let s := if valid then r.2 else s0
  s.when valid (·.snrFigures n q) |>.when q.berv (·.berFigures n q)
    |>.flag (LDS_LQ_STAT.VALID n) valid |>.flag (LDS_LQ_STAT.BERV n) q.berv |>.flag (LDS_LQ_STAT.BER_ZERO n) q.zero
    |>.flag (LDS_LQ_STAT.RSZ n) (s.on (LDSC.RSZ_WIN n) || rsz) |>.flag (LDSC.RSZ_WIN n) rsz
    |>.addWrap (LDS_LQ_STAT.SEQ n) 1 |>.put (LDS_LQ_STAT.WIN_EV n) 1 |>.raiseCh n 0x25 |>.count n .lds 0x06

def execLinkQualityWindowEnd (n : Fin 4) (s : State) : Answer :=
  .next <| (if s.figures n then s.lqWindow n else s.clear [LDS_LQ_STAT.VALID n, LDS_LQ_STAT.BERV n]).onDsp n RxDsp.nextQuality

/-! ## Live fields (Table 6.6) -/

/-- LDS_NLC_CTRL: α is held at ALPHA while ADAPT is 0. -/
def nlcHook (n : Nat) : Hook :=
  ⟨fun _ _ _ => 0, fun _ s => (s.when (!s.on (LDS_NLC_CTRL.ADAPT n)) (fun t =>
    t.put (LDS_NLC_STAT.ALPHA_NOW n) (t.rd (LDS_NLC_CTRL.ALPHA n))), 0)⟩

end Sys2Proof.Machine
end

