-- ==== Sys2Proof/Machine/Report.lean ====
section
/-! DEFINITION. The casting report and the plinth's event record: where the casting engine and the security island write
what they did (R299, R413, R414). -/

namespace Sys2Proof.Machine

/-- Register words and table words from `lo` up to before `hi` return to reset. -/
def State.clearRange (lo hi : Nat) (s : State) : State :=
  { s with regs := s.regs.filter (fun p => !(8 * lo ≤ p.1 && p.1 < 8 * hi)) }

/-- Consecutive 32-bit table words. -/
def State.putWords (a : Nat) : List Nat → State → State
  | [], s => s
  | w :: ws, s => (s.put (tableWord a) w).putWords (a + 4) ws

/-- Little-endian 32-bit words of a list of bytes. -/
def leWords : List Byte → List Nat
  | a :: b :: c :: d :: l => (a.toNat + 256 * b.toNat + 65536 * c.toNat + 16777216 * d.toNat) :: leWords l
  | _ => []

/-- Base of the report (R413). -/
def reportBase : Nat := 0x8D00000

/-- The eight words of an entry (Table 18.8). -/
def RepEntry.words (e : RepEntry) : List Nat :=
  [e.sect + 256 * e.sindex + 65536 * e.fid, e.index + 65536 * e.reason + 16777216 * e.detail,
   e.req % 2 ^ 32, e.req / 2 ^ 32, e.applied % 2 ^ 32, e.applied / 2 ^ 32, e.offset, 0]

/-- CST_DIGEST as bytes: byte 4w in bits 31:24 of word w (Table 18.11). -/
def State.digest (s : State) : List Byte := (List.range 8).flatMap (fun w => beBytes 4 (s.rd (CST_DIGEST.D w)))

/-- A report is written whole, and what it does not use is 0 (R413, Table 18.7); sources 112 and 113 (R414). -/
def State.writeReport (result kind length id : Nat) (digest : List Byte) (l : List RepEntry) (refused : Bool) (s : State) :
    State :=
  let seq := s.rd CSTC.SEQ + 1
  let tooMany := 2046 < l.length
  s.clearRange reportBase (reportBase + 0x10000)
    |>.putWords reportBase ([seq, result + 256 * kind + 65536 * (l.length % 65536), if tooMany then 1 else 0, length,
        s.time % 2 ^ 32, s.time / 2 ^ 32 % 2 ^ 32, id % 2 ^ 32, id / 2 ^ 32] ++ leWords digest
        ++ (l.take 2046).flatMap RepEntry.words)
    |>.put CSTC.SEQ seq |>.put CST_STAT.RESULT result |>.put CST_STAT.DONE_EV 1 |>.raise 112
    |>.when refused (fun t => (t.put CST_STAT.REFUSE_EV 1).raise 113)

/-- The plinth writes an event record, newest first (R299, Table 12.11). -/
def State.plinthRecord (cause : Nat) (s : State) : State :=
  (s.each [7, 6, 5, 4, 3, 2, 1] (fun i t =>
      t.put (KEY_PLOG.CAUSE i) (t.rd (KEY_PLOG.CAUSE (i - 1))) |>.put (KEY_PLOG.MODE i) (t.rd (KEY_PLOG.MODE (i - 1)))
        |>.put (KEY_PLOG.TIME i) (t.rd (KEY_PLOG.TIME (i - 1)))))
    |>.put (KEY_PLOG.CAUSE 0) cause |>.put (KEY_PLOG.MODE 0) s.mode |>.put (KEY_PLOG.TIME 0) (s.rd KEY_RTC.SEC)

end Sys2Proof.Machine
end

