-- ==== Sys2Proof/Machine/Security.lean ====
section
/-! DEFINITION. Cipher units, the key store and key rollover: chapter 12 of spec/ (R274 to R297). -/

namespace Sys2Proof.Machine

/-! ## Cipher pipelines (R277, R279, R42) -/

/-- Tokens that meet a stage and a tributary. -/
def inStage (st : Stage) (t : Nat) : Token → Bool := fun k => k.stage = st && k.trib = t

/-- Encrypted entries that carry: ACTIVE or HELD (R42). -/
def State.encLoad (s : State) (n : Nat) : List Nat :=
  (s.tribs n).filter (fun t => s.on (TRB_TRIB.ENC n t) && s.carriesNext n t)

/-- Tenants to suspend, the highest first, until the slots that are left fit the pipelines (R42). -/
def toSuspend (pipes : Nat) (count : Nat → Nat) : List Nat → List Nat
  | [] => []
  | t :: l => if cipherFits pipes (((t :: l).map count).sum) then [] else t :: toSuspend pipes count l

/-- The recheck of R42: tenants are suspended, and the RECHECK report says which (R414). -/
def State.recheck (n : Nat) (s : State) : State :=
  let l := toSuspend (popcount (s.rd (SEC_PIPE.ACTIVE n)) 16) (fun t => s.rd (TRB_TRIB.COUNT n t)) (s.encLoad n).reverse
  (s.each l (fun t u => u.put (TRB_TRIB.STATE n t) Trib.suspended |>.put (TRBC.SUSP n t) 2))
    |>.when (!l.isEmpty) (·.put (SEC_STAT.SUSP_EV n) 1)
    |>.trbStat n |>.serviceEval n |>.hstRefresh n
    |>.writeReport 5 1 (s.rd CSTC.LENGTH) (s.rd CSTC.ID) s.digest
        (l.map (fun t => ⟨4, n, 0x11F, t, 0x22, 0, 1, 0, 0⟩)) false

/-- Tokens that a fenced pipeline held (R279): on transmit their places are filled and the open unit is completed as a mismatch
completes it; on receive the units that they belonged to fail. -/
def State.pipeLoss (n : Nat) (h : PipeHeld) (s : State) : State :=
  let t := h.trib.val
  if h.rx then
    let c := Nat.min h.held (s.held n t .rxSec)
    (s.times c (·.flowOp n (Flow.rxDropOne .fence (inStage .rxSec t)))).onRx n (fun x =>
      let o := x.openingOf t
      x.setOpening { o with gone := o.gone + c })
  else
    let ix := ((s.chan n).tx.sealOf t).ix
    (s.times (Nat.min h.held (s.held n t .txSec)) (fun u => (u.flowOp n (Flow.txDropOne .fence (inStage .txSec t))).carryLost n t)).onTx n
        (fun x => let e := x.sealOf t; if e.ix = ix then x.setSeal { e with bad := true } else x)
      |>.bump (SEC_TEN.FAULT_TX n t)

/-- A pipeline is fenced (R279). -/
def State.pipeFence (n p : Nat) (held : List PipeHeld) (s : State) : State :=
  s.putBit (SEC_PIPE.FENCED n) p true |>.putBit (SEC_PIPE.ACTIVE n) p false |>.put (SEC_STAT.FENCE_EV n) 1 |>.raiseCh n 0xA4
    |>.each held (fun h t => t.pipeLoss n h) |>.unitChanged n true |>.recheck n

/-- The pipeline is in use. -/
def State.pipeUp (s : State) (n p : Nat) : Bool := s.rdBit (SEC_PIPE.ACTIVE n) p && !s.rdBit (SEC_PIPE.FENCED n) p

/-- An open half's mismatch: the unit that it opens, the oldest one, fails (R277). -/
def State.openMismatch (n t : Nat) (s : State) : State := s.onRx n (fun x => x.setOpening { x.openingOf t with bad := true })

/-- The mismatch of a pipeline half on a unit still in SEC; the fifth within 1 s fences the pipeline (R277, Table 12.1). -/
def State.cipherMismatch (n t p : Nat) (opn : Bool) (held : List PipeHeld) (s : State) : State :=
  let fourth := s.rd (SECC.MIS n p 3)
  let fence := fourth ≠ 0 && s.time + 1 < fourth + 1000000000
  (if opn then (s.openMismatch n t).bump (SEC_TEN.FAULT_RX n t) |>.secCount n 65 1
    else (s.sealMismatch n t).bump (SEC_TEN.FAULT_TX n t) |>.secCount n 64 1)
    |>.bump (SEC_CNT.FAULT n) |>.put (SEC_STAT.FAULT_EV n) 1 |>.raiseCh n 0xA0 |>.count n .sec 0x05
    |>.each [3, 2, 1] (fun j u => u.put (SECC.MIS n p j) (u.rd (SECC.MIS n p (j - 1))))
    |>.put (SECC.MIS n p 0) (s.time + 1)
    |>.when fence (·.pipeFence n p held)

def execCipherMismatch (n : Fin 4) (t : Fin 1024) (p : Fin 16) (opn : Bool) (held : List PipeHeld) (s : State) : Answer :=
  .next <| s.when (s.pipeUp n p && s.on (TRB_TRIB.ENC n t)) (·.cipherMismatch n t p opn held)

/-- A half holds a token for more than 1 µs. -/
def execPipelineHoldFault (n : Fin 4) (p : Fin 16) (held : List PipeHeld) (s : State) : Answer :=
  .next <| s.when (s.pipeUp n p) (·.pipeFence n p held)

/-- SEC_PIPE_CMD: FORCE is refused on a pipeline already fenced. -/
def pipeHook (n value : Nat) (held : List PipeHeld) : Hook :=
  let p := (SEC_PIPE_CMD.PIPE n).of value
  ⟨fun s f v => if f = SEC_PIPE_CMD.FORCE n && v = 1 && s.rdBit (SEC_PIPE.FENCED n) p then badState else 0,
   fun l s => (s.when (wroteOne l (SEC_PIPE_CMD.FORCE n)) (·.pipeFence n p held), 0)⟩

def execPipelineForce (win : Fin 7) (n : Fin 4) (value : Word) (be : Fin 16) (held : List PipeHeld) (s : State) : Answer :=
  .next (s.hostWrite ⟨win, 0x501000C + 0x10000 * n, value.toNat, be⟩ (pipeHook n value.toNat held))

/-! ## Entropy (R276) -/

/-- A 1 ms reseed period ends with its health tests passed, or a test fails. -/
def execEntropyReseed (ok : Bool) (s : State) : Answer :=
  .next <| s.when (s.mode ≠ Mode.keep && s.mode ≠ Mode.reset) (fun t =>
    if !ok then
      (t.put KEYC.ENTRUN 0).when (t.on KEY_STAT.ENT_OK) (fun u =>
        (u.put KEY_STAT.ENT_OK 0 |>.put KEY_STAT.ENT_EV 1).raise 48)
    else if t.on KEY_STAT.ENT_OK then t.count 4 .key 0x05
    else
      let r := t.rd KEYC.ENTRUN + 1
      if r = 10 then (t.put KEYC.ENTRUN 0).put KEY_STAT.ENT_OK 1 else t.put KEYC.ENTRUN r)

/-! ## Key slots (R280, R281, R286) -/

/-- A tenant key slot is in use (R281). -/
def State.slotInUse (s : State) (g : Nat) : Bool :=
  let n := g / 2048
  let t := g % 2048 / 2
  (s.rd (TRB_TRIB.STATE n t) ≠ Trib.idle && s.rd (TRB_TRIB.KI_TX n t) = g % 2)
    || (s.on (TRB_TRIB.REMOTE n t) && s.rd (TRB_TRIB.KI_RX n t) = g % 2)

/-- A tenant key slot is erased. -/
def State.eraseSlot (g : Nat) (s : State) : State :=
  s.clear [KEY_SLOT.STATE g, KEYC.KEY g, SECC.RETMF g]

/-- A KEK slot is erased. -/
def State.eraseKek (j : Nat) (s : State) : State := s.clear [KEY_KEK.STATE j, KEYC.KEK j]

/-- The device mode takes key operations (Table 12.3). -/
def State.keyMode (s : State) : Bool := s.mode = Mode.cast || s.operating

/-- Cause for which an erase is refused; 0 when it is not. -/
def State.eraseCause (s : State) (kek : Bool) (slot : Nat) : Nat :=
  if s.mode = Mode.lockdown then 0xB
  else if !s.keyMode then 0xC
  else if kek && 62 < slot then 0x3
  else if !kek && s.slotInUse slot then 0x4 else 0

/-- KEY_SLOT_CMD. -/
def slotHook (value : Nat) : Hook :=
  let kek := KEY_SLOT_CMD.KEK.of value = 1
  let slot := KEY_SLOT_CMD.SLOT.of value
  ⟨fun _ _ _ => 0, fun l s =>
    (s.when (wroteOne l KEY_SLOT_CMD.ERASE) (fun t =>
      let c := t.eraseCause kek slot
      (t.put KEY_SLOT_STAT.CAUSE c).when (c = 0) (fun u => if kek then u.eraseKek slot else u.eraseSlot slot)), 0)⟩

def execKeySlotErase (win : Fin 7) (value : Word) (be : Fin 16) (s : State) : Answer :=
  .next (s.hostWrite ⟨win, 0x5000064, value.toNat, be⟩ (slotHook value.toNat))

/-! ## Bulk operations (R285, Table 12.3) -/

namespace Bulk
def idle : Nat := 0
def run : Nat := 1
def paused : Nat := 2
def done : Nat := 3
def fault : Nat := 4
def aborted : Nat := 5
end Bulk

/-- The channel is in ZR400, ZRP400 or G2 (Table 12.3, cause 0xC). -/
def State.plainMode (s : State) (n : Nat) : Bool := s.interop n || s.on (LFR_CTRL.G2 n)

/-- Cause that stops every key operation; 0 when none does. -/
def State.keyCause (s : State) : Nat :=
  if s.mode = Mode.lockdown then 0xB
  else if !s.keyMode then 0xC
  else if s.rd KEY_STAT.ENG_ACT = 0 then 0x8
  else if !s.on KEY_STAT.ENT_OK then 0x9 else 0

/-- Cause with which an operation does not start. -/
def State.bulkCause (s : State) : Nat :=
  if s.keyCause ≠ 0 then s.keyCause
  else if s.rd KEY_BULK_CNT.COUNT = 0 then 0x3
  else if s.rd KEY_BULK_CTRL.OP ≠ 1 && s.plainMode (s.rd KEY_BULK_CTRL.CH) then 0xC else 0

/-- The operation stops on a fault of element NEXT. -/
def State.bulkFault (cause : Nat) (s : State) : State :=
  s.put KEY_BULK_STAT.STATE Bulk.fault |>.put KEY_BULK_STAT.CAUSE cause |>.put KEY_BULK_STAT.FAULT_EV 1 |>.raise 51 |>.dmaGot 4

/-- What element NEXT reads of its record: 64 bytes, 192 bytes, or a SAVE's bytes 0 and 1 as one word (R284, R296). -/
def State.bulkFetch (s : State) : State :=
  s.dmaNeed 4 (if s.rd KEY_BULK_CTRL.OP = 1 then 64 else if s.rd KEY_BULK_CTRL.OP = 2 then 192 else 4)

/-- GO. -/
def State.bulkGo (s : State) : State :=
  let c := s.bulkCause
  (s.put KEY_BULK_STAT.NEXT 0 |>.put KEY_BULK_STAT.CAUSE 0 |>.put KEY_BULK_STAT.STATE Bulk.run).bulkFetch.when (c ≠ 0) (·.bulkFault c)

/-- An operation is running or paused. -/
def State.bulkBusy (s : State) : Bool := s.rd KEY_BULK_STAT.STATE = Bulk.run || s.rd KEY_BULK_STAT.STATE = Bulk.paused

/-- KEY_BULK_CTRL: ABORT, GO and RESUME, in that order; GO is refused while an operation runs, and the others where there
is none to end or to continue. -/
def bulkHook : Hook :=
  ⟨fun s f v =>
     let st := s.rd KEY_BULK_STAT.STATE
     if v = 0 then 0
     else if f = KEY_BULK_CTRL.GO && s.bulkBusy then 6
     else if f = KEY_BULK_CTRL.RESUME && st ≠ Bulk.fault && st ≠ Bulk.paused then badState
     else if f = KEY_BULK_CTRL.ABORT && st ≠ Bulk.fault && !s.bulkBusy then badState else 0,
   fun l s =>
     (s.when (wroteOne l KEY_BULK_CTRL.ABORT) (fun t => (t.put KEY_BULK_STAT.STATE Bulk.aborted).dmaGot 4)
       |>.when (wroteOne l KEY_BULK_CTRL.GO && (wrote l KEY_BULK_CTRL.OP).isSome) State.bulkGo
       |>.when (wroteOne l KEY_BULK_CTRL.RESUME && !wroteOne l KEY_BULK_CTRL.GO && !wroteOne l KEY_BULK_CTRL.ABORT) (fun t =>
         if t.keyCause = 0 then ((t.put KEY_BULK_STAT.STATE Bulk.run).put KEY_BULK_STAT.CAUSE 0).bulkFetch else t.bulkFault t.keyCause), 0)⟩

def execKeyBulkLoad (win : Fin 7) (value : Word) (be : Fin 16) (s : State) : Answer :=
  .next (s.hostWrite ⟨win, 0x5000010, value.toNat, be⟩ bulkHook)

def execKeyBulkSave (win : Fin 7) (value : Word) (be : Fin 16) (s : State) : Answer :=
  .next (s.hostWrite ⟨win, 0x5000010, value.toNat, be⟩ bulkHook)

def execKeyBulkRestore (win : Fin 7) (value : Word) (be : Fin 16) (s : State) : Answer :=
  .next (s.hostWrite ⟨win, 0x5000010, value.toNat, be⟩ bulkHook)

def execKeyBulkResume (win : Fin 7) (value : Word) (be : Fin 16) (s : State) : Answer :=
  .next (s.hostWrite ⟨win, 0x5000010, value.toNat, be⟩ bulkHook)

def execKeyBulkAbort (win : Fin 7) (value : Word) (be : Fin 16) (s : State) : Answer :=
  .next (s.hostWrite ⟨win, 0x5000010, value.toNat, be⟩ bulkHook)

/-! ### Elements (R284, R296, R297) -/

/-- Big-endian number in bytes a to a + k − 1 of a record. -/
def recBe (l : List Byte) (a k : Nat) : Nat := ofBytes ((l.drop a).take k)

/-- Wrapping key w of a record: a KEK, or 0x80 the root key. -/
def State.wrapKey (s : State) (w : Nat) : Option Nat :=
  if w = 0x80 then (if s.rd KEY_STAT.ROOT = 1 then some (s.rd KEYC.ROOT) else none)
  else if s.rd (KEY_KEK.STATE w) = 2 then some (s.rd (KEYC.KEK w)) else none

/-- What one element yields: a cause, or its commit. -/
abbrev Element := Nat ⊕ (State → State)

/-- An unwrapped key enters a slot. -/
def State.loadSlot (g w key : Nat) (s : State) : State :=
  s.put (KEYC.KEY g) key |>.put (KEY_SLOT.STATE g) 2 |>.put (KEY_SLOT.WRAP g) w |>.bump (KEY_SLOT.LOADS g)
    |>.put (KEY_SLOT.TIME g) (s.time / 1000000) |>.clear [SECC.SEALS g, SECC.RXSEQ g, SECC.RXSEQV g, SECC.RETMF g]
    |>.secCount (g / 2048) 67 1

/-- An unwrapped KEK enters a slot. -/
def State.loadKek (j w key : Nat) (s : State) : State :=
  s.put (KEYC.KEK j) key |>.put (KEY_KEK.STATE j) 2 |>.put (KEY_KEK.WRAP j) w |>.bump (KEY_KEK.LOADS j)
    |>.put (KEY_KEK.TIME j) (s.time / 1000000)

/-- What the unwrapped key of a record does, when it unwraps: it enters its slot. -/
def loadUnwrapped (kek : Bool) (j w : Nat) : Option Nat → Element
  | none => .inl 0x1
  | some key => .inr (fun t => (if kek then t.loadKek j w key else t.loadSlot j w key).count 4 .key 0x01)

/-- A key record (Table 12.2). -/
def State.loadElement (s : State) (l : List Byte) : Element :=
  let tgt := recBe l 0 2
  let w := recBe l 2 1
  let kek := tgt / 0x8000 = 1
  let j := tgt % 0x8000
  if (62 < w && w ≠ 0x80) || (kek && 62 < j) || (!kek && (8191 < j || w = 0x80)) then .inl 0x3
  else if !kek && s.slotInUse j then .inl 0x4
  else match s.wrapKey w with
    | none => .inl 0x2
    | some k => loadUnwrapped kek j w (kwUnwrap k 4 (recBe l 8 40))

/-- Name of a received unit (Table 12.5): in LOOPBACK both ends are one sealer (R288). -/
def State.rxUnit (s : State) (n t : Nat) (u : Sealed) : UnitName :=
  ⟨s.rd (ISC_STATION.ID n) < s.rd (ISC_PEER.ID n), t, u.gen, u.ki, u.mfn, u.ix, u.seq⟩

/-- GHASH partial and byte count of the unit that tenant t seals; zero if none is open. -/
def State.txPartial (s : State) (n t : Nat) : Nat × Nat :=
  let e := (s.chan n).tx.sealOf t
  let u := s.unitName n t e.ix
  let key := s.rd (KEYC.KEY (keySlot n t u.ki.toNat))
  if 1024 ≤ e.ix || e.plain.isEmpty then (0, 0) else (u.partialHash key (u.cipher key e.plain), e.plain.length)

/-- GHASH partial and byte count of the unit that tenant t receives; zero if none is open. -/
def State.rxPartial (s : State) (n t : Nat) : Nat × Nat :=
  match s.extracts n t with
  | none => (0, 0)
  | some r =>
    let x := (s.chan n).rx.separate t (s.rd (LFR_MFN_RX.MFN n)) r
    let b := ((keyed t x.got).getD []).map (·.1)
    let u : Sealed := ⟨s.rd (LFR_MFN_RX.MFN n), (x.openingOf t).ix, 0, ofBytes (b.take 4), 0, r.gen, r.ki, true⟩
    let ct := (b.drop 4).take (sealShare r.cm u.ix)
    if !r.enc || ct.isEmpty then (0, 0) else ((s.rxUnit n t u).partialHash (s.rd (KEYC.KEY (keySlot n t r.ki.toNat))) ct, ct.length)

/-- The clear context of tenant t of channel n (Table 12.8). -/
def State.context (s : State) (n t : Nat) : List Byte :=
  let tx := s.txPartial n t
  let rx := s.rxPartial n t
  let a := keySlot n t 0
  let b := keySlot n t 1
  let valid (g : Nat) : Bool := s.rd (KEY_SLOT.STATE g) = 2 || s.rd (KEY_SLOT.STATE g) = 3
  let flags := ofBits [valid a, valid b, s.on (TRB_TRIB.KI_TX n t), s.on (TRB_TRIB.KI_RX n t), s.on (SEC_TEN.LIMIT n t),
    s.on (SECC.RXSEQV a), s.on (SECC.RXSEQV b)]
  let key (g : Nat) : Nat := if valid g then s.rd (KEYC.KEY g) else 0
  beBytes 4 0x4A435458 ++ [0x01#8] ++ beBytes 1 flags ++ beBytes 2 t ++ beBytes 1 (s.rd (TRB_TRIB.GEN n t)) ++ beBytes 1 n
    ++ beBytes 6 0 ++ beBytes 32 (key a) ++ beBytes 32 (key b) ++ beBytes 8 (s.rd (SECC.SEALS a)) ++ beBytes 8 (s.rd (SECC.SEALS b))
    ++ beBytes 4 (s.rd (SECC.RXSEQ a)) ++ beBytes 4 (s.rd (SECC.RXSEQ b)) ++ beBytes 16 tx.1
    ++ beBytes 16 rx.1 ++ beBytes 4 tx.2 ++ beBytes 4 rx.2 ++ beBytes 8 s.time ++ beBytes 8 0

/-- Host address of element i. -/
def State.bulkAddr (s : State) (i size : Nat) : Nat :=
  s.rd KEY_BULK_ADDR_HI.HI * 2 ^ 32 + s.rd KEY_BULK_ADDR_LO.LO + size * i

/-- A context capture: the record goes to host memory, and the context stays as it was (R296). -/
def State.saveElement (s : State) (l : List Byte) : Element :=
  let tgt := recBe l 0 2
  let w := s.rd KEY_BULK_CTRL.KEK
  let n := s.rd KEY_BULK_CTRL.CH
  if 1023 < tgt || 62 < w then .inl 0x3
  else match s.wrapKey w with
    | none => .inl 0x2
    | some k =>
      let body := beBytes 168 (kwWrap k 20 (ofBytes (s.context n tgt)))
      .inr (fun t => (t.emit (.hostMemory (t.bulkAddr (t.rd KEY_BULK_STAT.NEXT) 192 + 2)
        (beBytes 1 w ++ beBytes 5 0 ++ body ++ beBytes 16 0))).count 4 .key 0x02)

/-- One slot of a restored context. -/
def State.restoreSlot (g : Nat) (valid seqv : Bool) (key seals seq : Nat) (s : State) : State :=
  s.put (KEYC.KEY g) (if valid then key else 0) |>.put (KEY_SLOT.STATE g) (if valid then 2 else 0)
    |>.put (SECC.SEALS g) seals |>.flag (SECC.RXSEQV g) seqv |>.put (SECC.RXSEQ g) seq |>.put (SECC.RETMF g) 0

/-- What the unwrapped context of tenant t does, when it unwraps and its clear record is in order. -/
def restoreUnwrapped (n t a b : Nat) : Option Nat → Element
  | none => .inl 0x1
  | some c =>
    let d := beBytes 160 c
    let fl := recBe d 5 1
    if recBe d 0 4 ≠ 0x4A435458 || recBe d 4 1 ≠ 1 || recBe d 10 6 ≠ 0 || recBe d 0x98 8 ≠ 0 || 127 < fl then .inl 0x5
    else .inr (fun u =>
      u.restoreSlot a (bit fl 0 = 1) (bit fl 5 = 1) (recBe d 0x10 32) (recBe d 0x50 8) (recBe d 0x60 4)
        |>.restoreSlot b (bit fl 1 = 1) (bit fl 6 = 1) (recBe d 0x30 32) (recBe d 0x58 8) (recBe d 0x64 4)
        |>.put (TRB_TRIB.KI_TX n t) (bit fl 2) |>.put (SEC_TEN.LIMIT n t) (bit fl 4) |>.count 4 .key 0x02)

/-- A context record enters a tenant that is IDLE (R297). -/
def State.restoreElement (s : State) (l : List Byte) : Element :=
  let t := recBe l 0 2
  let w := recBe l 2 1
  let n := s.rd KEY_BULK_CTRL.CH
  let a := keySlot n t 0
  let b := keySlot n t 1
  if 1023 < t || 62 < w then .inl 0x3
  else if recBe l 3 5 ≠ 0 || recBe l 176 16 ≠ 0 then .inl 0x5
  else if s.rd (TRB_TRIB.STATE n t) ≠ Trib.idle then .inl 0x6
  else if s.slotInUse a || s.slotInUse b then .inl 0x4
  else match s.wrapKey w with
    | none => .inl 0x2
    | some k => restoreUnwrapped n t a b (kwUnwrap k 20 (recBe l 8 168))

/-- An iterated engine is fenced (R279). -/
def State.iterFence (e : Nat) (s : State) : State :=
  s.putBit KEY_STAT.ENG_FNC e true |>.putBit KEY_STAT.ENG_ACT e false |>.raise 49

/-- An inverse check disagrees; the second within 1 s on one engine fences it (R278, Table 12.1). -/
def State.iterMismatch (e : Nat) (s : State) : State :=
  let last := s.rd (KEYC.ENG_MIS e)
  (s.bump KEY_CNT.ENG_MISMATCH |>.count 4 .key 0x04 |>.put (KEYC.ENG_MIS e) (s.time + 1)).when
    (last ≠ 0 && s.time + 1 < last + 1000000000) (·.iterFence e)

/-- An element commits, and the operation ends after its last. -/
def State.elementDone (f : State → State) (s : State) : State :=
  let s1 := ((f s).addWrap KEY_BULK_STAT.NEXT 1).bulkFetch
  s1.when (s1.rd KEY_BULK_STAT.NEXT = s1.rd KEY_BULK_CNT.COUNT) (fun t =>
    (t.put KEY_BULK_STAT.STATE Bulk.done |>.put KEY_BULK_STAT.DONE_EV 1 |>.dmaGot 4).raise 50)

/-- Element NEXT of the running operation: its record as the device DMA fetched it, when it did. -/
def State.element (s : State) (fetched : Option (List Byte)) : Element :=
  if s.keyCause ≠ 0 then .inl s.keyCause
  else if s.rd KEY_BULK_CTRL.OP ≠ 1 && s.plainMode (s.rd KEY_BULK_CTRL.CH) then .inl 0xC
  else if !s.portSends then .inl 0xA
  else match fetched with
    | none => .inl 0xA
    | some l =>
      if s.rd KEY_BULK_CTRL.OP = 1 then s.loadElement l
      else if s.rd KEY_BULK_CTRL.OP = 3 then s.saveElement l else s.restoreElement l

/-- An iterated engine e completes element NEXT, or its inverse check disagrees (`mismatch`). -/
def execKeyElementComplete (e : Fin 4) (fetched : Option (List Byte)) (mismatch : Bool) (s : State) : Answer :=
  .next <| s.when (s.rd KEY_BULK_STAT.STATE = Bulk.run && (s.rdBit KEY_STAT.ENG_ACT e || s.rd KEY_STAT.ENG_ACT = 0)) (fun t =>
    match t.element fetched with
    | .inl c => (t.bulkFault c).when (c = 0x1) (fun v => (v.bump KEY_CNT.UNWRAP_FAIL).count 4 .key 0x03)
    | .inr f => if mismatch then (t.iterMismatch e).bulkFault 0x7 else t.elementDone f)

/-- KEY_ENG_CMD; `working`: the engine has an operation in progress, which ends with cause 0x7 (R279). -/
def iterHook' (value : Nat) (working : Bool) : Hook :=
  let e := KEY_ENG_CMD.ENGINE.of value
  ⟨fun s f v => if f = KEY_ENG_CMD.FORCE && v = 1 && s.rdBit KEY_STAT.ENG_FNC e then badState else 0,
   fun l s => (s.when (wroteOne l KEY_ENG_CMD.FORCE) (fun t =>
     (t.iterFence e).when (working && t.rd KEY_BULK_STAT.STATE = Bulk.run) (·.bulkFault 0x7)), 0)⟩

def execIteratedEngineForce (win : Fin 7) (value : Word) (be : Fin 16) (working : Bool) (s : State) : Answer :=
  .next (s.hostWrite ⟨win, 0x50000A4, value.toNat, be⟩ (iterHook' value.toNat working))

/-! ## The root key (R282, R283, R298) -/

/-- D0 or D1 of R282. -/
def castBlock (j : Nat) : Nat :=
  ofBytes ([0x4A, 0x41, 0x4C, 0x41, 0x4B, 0x20, 0x43, 0x41, 0x53, 0x54, 0x49, 0x4E, 0x47, 0x20, 0x4B] ++ [BitVec.ofNat 8 j])

/-- K63 holds the casting key while the root key is present, and is EMPTY otherwise (R282). -/
def State.deriveCasting (s : State) : State :=
  if s.rd KEY_STAT.ROOT = 1 then
    let k := s.rd KEYC.ROOT
    s.put (KEYC.KEK 63) (aesEncrypt k (castBlock 0) * 2 ^ 128 + aesEncrypt k (castBlock 1)) |>.put (KEY_KEK.STATE 63) 2
      |>.put (KEY_KEK.CASTING 63) 1
  else s.clear [KEYC.KEK 63, KEY_KEK.STATE 63, KEY_KEK.CASTING 63]

/-- The DATA registers are cleared (R283). -/
def State.clearData (s : State) : State := s.clear ((List.range 8).map KEYC.DATA ++ [KEYC.ROOTOP, KEYC.ROOTWIN])

/-- The conditions of PROVISION hold, apart from the vote (R283). -/
def State.provisionable (s : State) : Bool :=
  s.rd KEY_STAT.ROOT ≠ 1 && (s.mode = Mode.cast || s.mode = Mode.ready) && channels.all (fun n => s.chSt n = ChSt.dark)

/-- A vote is possible (R300). -/
def State.voteable (s : State) : Bool := s.firmware && !s.frozen

/-- A root command with operation op is accepted for its vote. -/
def State.rootAccepts (s : State) (op : Nat) : Bool :=
  s.voteable && (if op = 1 then s.provisionable
    else (s.mode = Mode.cast || s.operating) && (op = 2 || s.on KEY_ROOT_CMD.ARMED))

/-- A root command is refused: REFUSED sets, and CONFIRM clears ARMED (R298). -/
def State.rootRefused (op : Nat) (s : State) : State :=
  (s.put KEY_ROOT_CMD.REFUSED 1).when (op = 3) (·.put KEY_ROOT_CMD.ARMED 0) |>.clearData

/-- KEY_ROOT_CMD. -/
def rootHook (win value : Nat) : Hook :=
  let op := KEY_ROOT_CMD.OP.of value
  ⟨fun s f v => if f = KEY_ROOT_CMD.OP && v ≠ 0 && s.rd KEYC.ROOTOP ≠ 0 then 6 else 0,
   fun l s =>
     if op = 0 || wrote l KEY_ROOT_CMD.OP = none then (s, 0)
     else if s.rootAccepts op then (((s.put KEYC.ROOTOP op).put KEYC.ROOTWIN win).request .rootKey, 0)
     else (s.rootRefused op, badState)⟩

def execRootProvision (win : Fin 7) (value : Word) (be : Fin 16) (s : State) : Answer :=
  .next (s.hostWrite ⟨win, 0x5000030, value.toNat, be⟩ (rootHook win value.toNat))

def execRootEraseArm (win : Fin 7) (value : Word) (be : Fin 16) (s : State) : Answer :=
  .next (s.hostWrite ⟨win, 0x5000030, value.toNat, be⟩ (rootHook win value.toNat))

def execRootEraseConfirm (win : Fin 7) (value : Word) (be : Fin 16) (s : State) : Answer :=
  .next (s.hostWrite ⟨win, 0x5000030, value.toNat, be⟩ (rootHook win value.toNat))

/-- 1 s after ERASE_ARM with no CONFIRM. -/
def execRootEraseArmExpiry (s : State) : Answer :=
  .next <| s.when (s.on KEY_ROOT_CMD.ARMED && s.rd KEYC.ROOTOP ≠ 3) (·.put KEY_ROOT_CMD.ARMED 0)

/-- KEY_ROOT_DATAw: byte 0 of the root key in bits 31:24 of DATA0 (R283). -/
def rootDataHook (w value : Nat) : Hook :=
  ⟨fun _ _ _ => 0, fun l s => (s.when (wrote l (KEY_ROOT_DATA.DATA w)).isSome (·.put (KEYC.DATA w) value), 0)⟩

/-- The vote approves PROVISION: the plinth stores the key (R283). -/
def State.provision (s : State) : State :=
  if s.provisionable then
    (s.put KEYC.ROOT ((List.range 8).foldl (fun k w => k * 2 ^ 32 + s.rd (KEYC.DATA w)) 0) |>.put KEYC.ROOTST 1
      |>.put KEY_STAT.ROOT 1).clearData |>.deriveCasting |>.plinthRecord 5
  else (s.rootRefused 1).refuse (s.rd KEYC.ROOTWIN) 0x5000030 1 badState false

/-- The vote on a root command refuses it. -/
def State.rootVoteRefused (s : State) : State :=
  let op := s.rd KEYC.ROOTOP
  (s.rootRefused op).when (op = 1) (·.refuse (s.rd KEYC.ROOTWIN) 0x5000030 1 badState false)

/-! ## Sealed units (R290) -/

/-- How the check of a unit ends. -/
inductive UnitVerdict where
  | opens | auth | replay | fault
  deriving DecidableEq, Repr

/-- Tokens of tenant t that SEC holds on receive, oldest first. -/
def State.heldTokens (s : State) (n t : Nat) : List Token := (s.flow.get n).tok.filter (inStage .rxSec t)

/-- Bytes of a tenant's tokens in SEC, where a fence has taken some 0x00, and of the ciphertext behind them. -/
def State.unitStream (s : State) (n t : Nat) (o : Opening) : List Byte :=
  List.replicate (64 * o.gone) 0 ++ (s.heldTokens n t).flatMap (fun k => tokenBytes k.data) ++ o.ct.map (·.1)

/-- The verdict on a tenant's oldest unit, of ciphertext ct (R290, R277, R279). -/
def State.unitVerdict (s : State) (n t : Nat) (o : Opening) (u : Sealed) (ct : List Byte) : UnitVerdict :=
  let g := keySlot n t u.ki.toNat
  let st := s.rd (KEY_SLOT.STATE g)
  let name := s.rxUnit n t u
  if o.bad || 0 < o.gone then .fault
  else if (st ≠ 2 && st ≠ 3) || !u.whole || ct.length < u.size || gcmTag (s.rd (KEYC.KEY g)) name.iv name.aad ct ≠ u.tag then .auth
  else if s.on (SECC.RXSEQV g) && u.seq ≤ s.rd (SECC.RXSEQ g) then .replay
  else .opens

/-- What a verdict is counted as (R290, Table 12.14). -/
def State.unitCounts (n t : Nat) (u : Sealed) (v : UnitVerdict) (s : State) : State :=
  let g := keySlot n t u.ki.toNat
  match v with
  | .opens => s.put (SECC.RXSEQ g) u.seq |>.put (SECC.RXSEQV g) 1 |>.secCount n 61 1 |>.countFor n .sec 0x02 1 (some t)
  | .auth => s.put (SEC_STAT.AUTH_EV n) 1 |>.raiseCh n 0xA1 |>.bump (SEC_TEN.AUTH n t) |>.bump (SEC_CNT.AUTH n) |>.secCount n 62 1
      |>.countFor n .sec 0x03 1 (some t)
  | .replay => (s.put (SEC_STAT.AUTH_EV n) 1 |>.raiseCh n 0xA1 |>.bump (SEC_TEN.REPLAY n t)).secCount n 63 1
  | .fault => s

/-- The tokens and the ciphertext behind them take a unit's plaintext in place of its ciphertext. -/
def State.placePlain (n t : Nat) (o : Opening) (u : Sealed) (s : State) : State :=
  let b := s.unitStream n t o
  let name := s.rxUnit n t u
  let p := gcmText (s.rd (KEYC.KEY (keySlot n t u.ki.toNat))) name.iv ((b.drop o.off).take u.size)
  let d := b.take o.off ++ p ++ b.drop (o.off + u.size)
  let k := (s.heldTokens n t).length
  (s.flowOp n (Flow.rewrite (inStage .rxSec t) ((pieces 64 k d).map bytesToken))).onRx n (fun x =>
    x.setOpening { o with ct := List.zipWith (fun a c => (a, c.2)) (d.drop (64 * k)) o.ct })

/-- k tokens leave SEC, after a verdict: to TRB, but for a first one that an earlier unit's failure has spoilt, or into a drop
counter. -/
def State.unitTokens (n t k : Nat) (spoilt : Option Bool) (v : UnitVerdict) (s : State) : State :=
  let mine := inStage .rxSec t
  let lose (fault : Bool) (u : State) : State := u.flowOp n (Flow.rxDropOne (if fault then .fault else .auth) mine)
  match v, spoilt with
  | .opens, some f => s.when (0 < k) (lose f) |>.times (k - 1) (·.toEgress n t mine)
  | .opens, none => s.times k (·.toEgress n t mine)
  | .fault, _ => s.times k (lose true)
  | _, _ => s.times k (lose false)

/-- A unit of tenant t is checked: all its tokens are released in plaintext, or none; one that straddles two units goes when either
fails. -/
def State.openUnit (n t : Nat) (o : Opening) (u : Sealed) (s : State) : State :=
  let v := s.unitVerdict n t o u (((s.unitStream n t o).drop o.off).take u.size)
  let k := (o.off + u.size) / 64
  let spoilt := if v = .opens then (if k = 0 then o.spoilt else none)
    else if k = 0 && o.spoilt.isSome then o.spoilt else if (o.off + u.size) % 64 = 0 then none else some (v = .fault)
  (s.when (v = .opens) (·.placePlain n t o u)).unitCounts n t u v |>.unitTokens n t (k - o.gone) o.spoilt v
    |>.onRx n (fun x => x.setOpening { x.openingOf t with due := o.due.drop 1, off := (o.off + u.size) % 64, gone := o.gone - k,
                                                          spoilt := spoilt, bad := false })

/-- A unit of an entry that is not ACTIVE passes SEC unopened (R223). -/
def State.passUnit (n t : Nat) (o : Opening) (u : Sealed) (s : State) : State :=
  let k := (o.off + u.size) / 64
  (s.times (k - o.gone) (·.toEgress n t (inStage .rxSec t))).onRx n (fun x =>
    x.setOpening { o with due := o.due.drop 1, off := (o.off + u.size) % 64, gone := o.gone - k, spoilt := none, bad := false })

/-- The tag of tenant t's oldest received unit is checked, once all the unit's tokens are in SEC. -/
def execSealedUnitReceived (n : Fin 4) (t : Fin 1024) (s : State) : Answer :=
  let o := (s.chan n).rx.openingOf t
  .next <| match o.due with
    | [] => s
    | u :: _ => s.when (o.ct.length < 64 || (o.off + u.size) / 64 ≤ o.gone + (s.heldTokens n t).length) (fun w =>
        if w.rd (TRB_TRIB.STATE n t) = Trib.active then w.openUnit n t o u else w.passUnit n t o u)

/-! ## Rollover (R292 to R294, Table 12.6) -/

/-- The next slot of a tenant is VALID and its entry may roll over (R292). -/
def State.rollReady (s : State) (n t : Nat) : Bool :=
  t < 1024 && s.carriesNext n t && s.on (TRB_TRIB.ENC n t)
    && s.rd (KEY_SLOT.STATE (keySlot n t (1 - s.rd (TRB_TRIB.KI_TX n t)))) = 2

/-- Bits of a 64-bit map. -/
def mapBits (m : Nat) : List Nat := (List.range 64).filter (fun i => bit m i = 1)

/-- The map of some of its bits. -/
def mapOf (l : List Nat) : Nat := (l.map (2 ^ ·)).sum

/-- A resize stands between PROPOSED and RESIZING (R292). -/
def State.rollBusy (s : State) (n : Nat) : Bool := s.rollRunning n || s.rszRunning n

/-- Cause for which GO is refused; 0 when it is not. -/
def State.rollCause (s : State) (n : Nat) : Nat :=
  if !(s.chSt n = ChSt.locked || s.chSt n = ChSt.inService) then 0x7
  else if s.rollBusy n then 0x1
  else if s.plainMode n then 0x9
  else if !s.firmware then 0xB else 0

/-- Tenants of a map that are not ready take a cause in ROLL_ERR. -/
def State.rollErrs (n base cause : Nat) (l : List Nat) (s : State) : State :=
  s.each l (fun i t => t.when (base + i < 1024) (·.put (SEC_TEN.ROLL_ERR n (base + i)) cause))

/-- GO. -/
def State.rollGo (n : Nat) (s : State) : State :=
  let c := s.rollCause n
  if c ≠ 0 then
    if s.rollRunning n then s.put (SEC_ROLL_STAT.CAUSE n) c |>.put (SEC_STAT.ROLLF_EV n) 1 |>.raiseCh n 0xA5
    else (s.put (SEC_ROLL_STAT.PEER n) 0).rollFail n c
  else
    let base := s.rd (SEC_ROLL_CTRL.BASE n)
    let named := mapBits (s.rd (SEC_ROLL_MAP0.MAP n) + 2 ^ 32 * s.rd (SEC_ROLL_MAP1.MAP n))
    let ready := named.filter (fun i => s.rollReady n (base + i))
    let m := (s.mfn n + Nat.max 64 (s.rd (SEC_ROLL_CTRL.LEAD n))) % 2 ^ 32
    let s1 := (s.rollErrs n base 0 ready).rollErrs n base 0x2 (named.filter (fun i => !ready.contains i))
      |>.put (SEC_ROLL_STAT.PEER n) 0 |>.put (SEC_ROLL_STAT.CAUSE n) 0 |>.put (SECC.FLIP n) 0 |>.put (SECC.EMPTYACK n) 0
    if ready.isEmpty then s1.rollFail n 0x2
    else
      s1.put (SECC.BATCH n) (mapOf ready) |>.put (SECC.BASE n) base |>.put (SEC_ROLL_MF.M n) m
        |>.put (SEC_ROLL_STAT.STATE n) 1 |>.queue n (.rolloverAnnounce m base (mapOf ready))

/-- SEC_ROLL_CTRL. -/
def rollHook (n : Nat) : Hook := ⟨fun _ _ _ => 0, fun l s => (s.when (wroteOne l (SEC_ROLL_CTRL.GO n)) (·.rollGo n), 0)⟩

def execRolloverGo (win : Fin 7) (n : Fin 4) (value : Word) (be : Fin 16) (s : State) : Answer :=
  .next (s.hostWrite ⟨win, 0x5010010 + 0x10000 * n, value.toNat, be⟩ (rollHook n))

/-- Multiframes until M; 0 once it is reached. -/
def State.rollLeft (s : State) (n : Nat) : Nat :=
  let d := mfSub (s.rd (SEC_ROLL_MF.M n)) (s.mfn n)
  if d < 2 ^ 31 then d else 0

/-- M of the peer in this end's transmit count (R267). -/
def State.fromPeer (s : State) (n m : Nat) : Nat := (m + mfSub (s.mfn n) (s.rd (LFR_MFN_RX.MFN n))) % 2 ^ 32

/-- Crossing announcements: the peer's batch stands where its M is the earlier, or with equal M where its station
identifier is the lower (R294). -/
def State.peerWins (s : State) (n mB : Nat) : Bool :=
  let own := s.rollLeft n
  let d := mfSub mB (s.mfn n)
  d < own || (d = own && s.rd (ISC_PEER.ID n) < s.rd (ISC_STATION.ID n))

/-- The announced batch is checked and its arm vote requested, or it is answered with an empty map (Table 12.6 steps 3 and
3a). -/
def State.rollAnswer (n m base map mB : Nat) (s : State) : State :=
  let ready := (mapBits map).filter (fun i => s.rollReady n (base + i))
  let d := mfSub mB (s.mfn n)
  if d < 2 ^ 31 && 16 ≤ d && !s.rollBusy n && !s.plainMode n && !ready.isEmpty then
    s.rollErrs n base 0 ready |>.rollErrs n base 0x2 ((mapBits map).filter (fun i => !ready.contains i))
      |>.put (SEC_ROLL_STAT.PEER n) 1 |>.put (SEC_ROLL_STAT.CAUSE n) 0 |>.put (SEC_ROLL_STAT.STATE n) 1
      |>.put (SECC.BATCH n) (mapOf ready) |>.put (SECC.BASE n) base |>.put (SECC.PEERM n) m |>.put (SEC_ROLL_MF.M n) mB
      |>.put (SECC.FLIP n) 0 |>.put (SECC.EMPTYACK n) 0 |>.request (.rolloverArm n)
  else s.queue n (.rolloverAck m base 0)

/-- ROLLOVER_ANNOUNCE. -/
def execRolloverAnnounceReceived (n : Fin 4) (seq : Fin 256) (rep : Fin 4) (m : BitVec 32) (base : Fin 1024) (map : BitVec 64)
    (s : State) : Answer :=
  s.receive n seq rep (State.byFirmware (fun t =>
    let mB := t.fromPeer n m.toNat
    let crossing := t.rd (SEC_ROLL_STAT.STATE n) = 1 && !t.on (SEC_ROLL_STAT.PEER n)
    if crossing && !t.peerWins n mB then t
    else ((t.when crossing (·.rollFail n 0x6)).rollAnswer n m.toNat base map.toNat mB)))

/-- ROLLOVER_ACK at the announcer: the batch is what both maps hold (Table 12.6 step 4). -/
def State.rollAck (n m base map : Nat) (s : State) : State :=
  s.when (s.rd (SEC_ROLL_STAT.STATE n) = 1 && !s.on (SEC_ROLL_STAT.PEER n) && s.rd (SEC_ROLL_MF.M n) = m
      && s.rd (SECC.BASE n) = base && 16 < s.rollLeft n) (fun t =>
    if map = 0 then t.put (SECC.EMPTYACK n) 1
    else
      let mine := mapBits (t.rd (SECC.BATCH n))
      let both := mine.filter (fun i => bit map i = 1)
      let t1 := t.rollErrs n base 0x3 (mine.filter (fun i => bit map i = 0))
      if both.isEmpty then t1.put (SECC.EMPTYACK n) 1
      else (t1.put (SECC.BATCH n) (mapOf both)).request (.rolloverArm n))

def execRolloverAckReceived (n : Fin 4) (seq : Fin 256) (rep : Fin 4) (m : BitVec 32) (base : Fin 1024) (map : BitVec 64)
    (s : State) : Answer :=
  s.receive n seq rep (State.byFirmware (fun t => t.rollAck n m.toNat base map.toNat))

/-- M − 16 with the batch not armed (Table 12.6 step 4a). -/
def execRolloverAckDeadline (n : Fin 4) (s : State) : Answer :=
  .next <| s.when (s.rd (SEC_ROLL_STAT.STATE n) = 1 && !s.on (SEC_ROLL_STAT.PEER n) && s.rollLeft n ≤ 16) (fun t =>
    t.rollFail n (if t.on (SECC.EMPTYACK n) then 0x3 else 0x4))

/-- The arm vote of a batch approves: ARMED, and the answering end sends its map (Table 12.6 steps 3 and 4). -/
def State.rollArmed (n : Nat) (s : State) : State :=
  s.when (s.rd (SEC_ROLL_STAT.STATE n) = 1) (fun t =>
    (t.put (SEC_ROLL_STAT.STATE n) 2).when (t.on (SEC_ROLL_STAT.PEER n))
      (·.queue n (.rolloverAck (t.rd (SECC.PEERM n)) (t.rd (SECC.BASE n)) (t.rd (SECC.BATCH n)))))

/-- The arm vote refuses: the batch fails, and the answering end sends an empty map (Table 12.6 step 3a). -/
def State.rollArmRefused (n : Nat) (s : State) : State :=
  s.when (s.rd (SEC_ROLL_STAT.STATE n) = 1) (fun t =>
    (t.rollFail n 0xB).when (t.on (SEC_ROLL_STAT.PEER n)) (·.queue n (.rolloverAck (t.rd (SECC.PEERM n)) (t.rd (SECC.BASE n)) 0)))

/-- Tenants of the batch. -/
def State.batch (s : State) (n : Nat) : List Nat := (mapBits (s.rd (SECC.BATCH n))).map (· + s.rd (SECC.BASE n))

/-- At the boundary that begins M − 1: each tenant is checked, and one that fails keeps its KI (R226, step 5). -/
def State.rollCheck (n : Nat) (s : State) : State :=
  if s.rd (SEC_ROLL_STAT.STATE n) = 2 && mfSub (s.rd (SEC_ROLL_MF.M n)) (s.mfn n) = 1 then
    let base := s.rd (SECC.BASE n)
    let l := mapBits (s.rd (SECC.BATCH n))
    let good := l.filter (fun i => s.rollReady n (base + i))
    let s1 := (s.rollErrs n base 0xA (l.filter (fun i => !good.contains i))).put (SECC.FLIP n) (mapOf good)
    if good.isEmpty then s1.rollFail n 0xA else s1
  else s

/-- KI_TX of a tenant inverts, and its old slot is RETAINED (steps 6 and 8). -/
def State.flipKey (n t : Nat) (s : State) : State :=
  let old := s.rd (TRB_TRIB.KI_TX n t)
  s.put (TRB_TRIB.KI_TX n t) (1 - old) |>.put (KEY_SLOT.STATE (keySlot n t old)) 3
    |>.put (SECC.RETMF (keySlot n t old)) (s.mfn n + 1)
    |>.clear [SEC_TEN.LIMIT n t, SEC_TEN.WARN n t] |>.addWrap (SEC_TEN.ROLLS n t) 1 |>.put (SEC_TEN.ROLL_ERR n t) 0
    |>.secCount n 66 1

/-- At the boundary that begins M: steps 6 and 8, SWITCHED and at once DONE. -/
def State.rollFlip (n : Nat) (s : State) : State :=
  if s.rd (SEC_ROLL_STAT.STATE n) = 2 && s.rd (SEC_ROLL_MF.M n) = s.mfn n then
    (s.each (mapBits (s.rd (SECC.FLIP n))) (fun i t => t.flipKey n (s.rd (SECC.BASE n) + i)))
      |>.put (SECC.FLIP n) 0 |>.put (SEC_ROLL_STAT.STATE n) 4 |>.put (SEC_STAT.ROLL_EV n) 1 |>.raiseCh n 0xA3
  else s

/-- Tenants that seal under a new key from the next multiframe on. -/
def State.renews (s : State) (n t : Nat) : Bool :=
  s.rd (SEC_ROLL_STAT.STATE n) = 2 && mfSub (s.rd (SEC_ROLL_MF.M n)) (s.mfn n) = 1 && s.rd (SECC.BASE n) ≤ t
    && t < s.rd (SECC.BASE n) + 64 && bit (s.rd (SECC.FLIP n)) (t - s.rd (SECC.BASE n)) = 1

/-- RETAINED slots whose time is over, and that neither KI selects, become EMPTY (R295). -/
def State.retainedErase (n : Nat) (s : State) : State :=
  s.each ((s.listed (SECC.RETMF (2048 * n)) 8 2048).map (· + 2048 * n)) (fun g t =>
    let tr := g % 2048 / 2
    t.when (t.rd (KEY_SLOT.STATE g) = 3
        && t.rd (SEC_CTRL.RETAIN n) ≤ mfSub (t.mfn n) (t.rd (SECC.RETMF g) - 1)
        && t.rd (TRB_TRIB.KI_TX n tr) ≠ g % 2 && t.rd (TRB_TRIB.KI_RX n tr) ≠ g % 2) (·.eraseSlot g))

end Sys2Proof.Machine
end

