-- ==== Sys2Proof/Machine/TransmitDsp.lean ====
section
/-! DEFINITION. Transmit signal processing: chapter 7 of spec/ (R157 to R178); profile loads are in Modes.lean. -/

namespace Sys2Proof.Machine

/-- `k` LINE tokens were missing, and a substitute span is sent for them (R173). -/
def execTxUnderrun (n : Fin 4) (k : Nat) (s : State) : Answer :=
  .next <| s.when (s.phase n = Phase.lit && 0 < k) (fun t =>
    (t.addSat (LDS_TX_CNT.UNDERRUN n) k |>.put (LDS_TX_STAT.UNDER_EV n) 1).raiseCh n 0x2A |>.countFor n .lds 0x07 k none
      |>.substituteSpan n k)

/-- A lane's 1 ms has more than 1e-5 of its samples clipped, which is 60 for each active position (R171); its count begins
anew. -/
def execTxClipExcess (n : Fin 4) (lane : Fin 4) (s : State) : Answer :=
  .next <| s.when (s.phase n = Phase.lit && decide (60 * s.rd (CNV_RATE.TX_ACT n) < (s.chan n).tx.clips.getD lane 0)) (fun t =>
    ((t.onTx n (fun x => { x with clips := x.clips.set lane 0 })).put (LDS_TX_STAT.CLIP_EV n) 1).raiseCh n 0x29)

/-- LDS_TX_TEST: no pattern in service (R177); the tone carries no supervisory signal. -/
def testHook (n : Nat) : Hook :=
  ⟨fun s f v => if f = LDS_TX_TEST.PATTERN n && v ≠ 0 && s.inTraffic n then badState else 0,
   fun _ s => (s.when (s.phase n = Phase.lit) (fun t => t.flag (LDS_TX_STAT.ISC_INS n) (t.iscInserts n)), 0)⟩

def execTestPatternWrite (win : Fin 7) (n : Fin 4) (value : Word) (be : Fin 16) (s : State) : Answer :=
  .next (s.hostWrite ⟨win, chanAddr n 0x200240, value.toNat, be⟩ (testHook n))

end Sys2Proof.Machine
end

