-- ==== Sys2Proof/Machine/Hooks.lean ====
section
/-! DEFINITION. What a write of each register word adds to the write of its fields, by address: the map that a host write, a
casting element and a GATHER element share (R7, R14, R416, R431). -/

namespace Sys2Proof.Machine

/-- The hook listed under an offset. -/
def hookAt (off : Nat) (l : List (Nat × Hook)) : Hook := ((l.find? (fun p => p.1 = off)).map (·.2)).getD .plain

/-- TX_EN = 1 starts the insertion (R255); TX_EN = 0 ends it at the next message boundary (Table 11.7). -/
def iscCtrlHook (n : Nat) : Hook :=
  ⟨fun _ _ _ => 0, fun _ s => (s.when (s.iscInserts n) (·.put (LDS_TX_STAT.ISC_INS n) 1), 0)⟩

/-- MON block of scope b, at an offset of the block (Table 13.9). -/
def monHook (b off : Nat) (s0 : State) : Hook :=
  if off = 0 then monCtrlHook b
  else if off = 0xC then urgentHook b
  else if off = 0x18 || off = 0x1C then gainHook b ((off - 0x18) / 4) s0
  else if off = 0x20 then srcHook b s0
  else if off = 0x24 then dcbHook b s0
  else if off = 0x34 then coefHook b
  else if off = 0x100 && b < 4 then biasCtrlHook b
  else .plain

/-- PMC block of scope b, at an offset of the block (Table 16.8). -/
def pmcHook (b off : Nat) (s0 : State) : Hook :=
  let c := s0.rd (PMC_CH_SEL.COUNTER b)
  hookAt off [(8, pmcSelHook b), (0xC, pmcCfgHook b c), (0x10, pmcLoHook b c), (0x14, pmcHiHook b c)]

/-- Channel window n, at an offset of the window (Table 22.3). -/
def chanHook (n off value : Nat) (s0 : State) : Hook :=
  if 0x900000 ≤ off then pmcHook n (off - 0x900000) s0
  else if 0x800000 ≤ off then monHook n (off - 0x800000) s0
  else if 0x600100 ≤ off && off < 0x600140 then laneHook n ((off - 0x600100) / 4) s0
  else if 0x6001C0 ≤ off && off < 0x600200 then txeqHook n ((off - 0x6001C0) / 4) value
  else hookAt off [(0, laserHook n), (8, freqHook n), (0x10, powerHook n), (0x34, discHook n s0),
    (0x100030, sliceForceHook n), (0x200010, profileHook n), (0x200040, resizeHook n), (0x200120, nlcHook n), (0x200170, tileForceHook n),
    (0x200240, testHook n), (0x300004, iterHook n value), (0x300020, engineForceHook n), (0x300040, smpHook n s0),
    (0x500004, commitHook n), (0x600020, laneForceHook n value), (0x600030, switchHook n value), (0x700000, iscCtrlHook n),
    (0x700030, hostSendHook n)]

/-- Client and calendar tables of channel n, at an offset from 0x0870_0000 + n 0x1_0000 (Tables 10.9, 10.10). -/
def hostTableHook (n off value : Nat) (s0 : State) : Hook :=
  if off < 0x1000 then (if off % 16 = 0 then clientHook n (off / 16) s0 else .plain)
  else if off < 0x6000 then calendarHook n ((off - 0x1000) / 4 / 640) ((off - 0x1000) / 4 % 640) value s0
  else .plain

/-- IRQ word arrays and EOI (Table 16.5). -/
def irqHook (a value : Nat) : Hook :=
  let w := a % 0x100 / 4
  if a = 0x30018 then ⟨fun _ _ _ => 0, fun _ t => (if t.stack 0 = 0 then t.put IRQ_STAT.EOI_UNDER 1 else t.popStack 0, 0)⟩
  else if a / 0x100 = 0x305 then irqWordHook w value (fun N t => (t.put (IRQ_PEND N) 1).bump (IRQ_CFG.ARRIVE N))
  else if a / 0x100 = 0x306 then irqWordHook w value (fun N t => (t.put (IRQ_PEND N) 0).put (IRQ_CFG.ARRIVE N) 0)
  else if a / 0x100 = 0x308 then irqWordHook w value (fun N t => t.put (IRQ_MASK N) 1)
  else if a / 0x100 = 0x309 then irqWordHook w value (fun N t => t.put (IRQ_MASK N) 0)
  else .plain

/-- IRQ_CFG of a source that is not implemented ignores writes (R363). -/
def dropsWrite (a : Nat) : Bool := 0x32000 ≤ a && a < 0x34000 && !implemented ((a - 0x32000) / 4)

/-- The hook of a register word that the blocks up to the security island own; `win` is the window of the access. -/
def blockHook (win a value : Nat) (s0 : State) : Hook :=
  if a < 0x20000 then hookAt a [(0x10000, govHook), (0x10008, limHook), (0x10040, snapHook), (0x10080, pertHook value s0)]
  else if 0x30000 ≤ a && a < 0x40000 then irqHook a value
  else if a = 0x40040 then ⟨fun _ _ _ => 0, fun l t =>
    (t.each ((List.range 5).filter (fun k => bit ((wrote l PMC_SNAP_REQ.SCOPE).getD 0) k = 1)) (fun k u => u.pmcSnap k), 0)⟩
  else if 0x40000 ≤ a && a < 0x50000 then pmcHook 4 (a - 0x40000) s0
  else if a = 0x50000 then calHook value
  else if 0x60000 ≤ a && a < 0x70000 then monHook 4 (a - 0x60000) s0
  else if 0x1000000 ≤ a && a < 0x5000000 then chanHook (chanOf a) (a % 0x1000000) value s0
  else if 0x5000040 ≤ a && a < 0x5000060 then rootDataHook ((a - 0x5000040) / 4) value
  else if a < 0x5010000 then
    hookAt a [(0x5000010, bulkHook), (0x5000030, rootHook win value), (0x5000064, slotHook value), (0x50000A4, iterHook' value false)]
  else if a < 0x5050000 then
    hookAt (a % 0x10000) [(0xC, pipeHook (a / 0x10000 - 0x501) value []), (0x10, rollHook (a / 0x10000 - 0x501))]
  else if 0x8700000 ≤ a && a < 0x8740000 then hostTableHook (a / 0x10000 - 0x870) (a % 0x10000) value s0
  else .plain

end Sys2Proof.Machine
end

