-- ==== Sys2Proof/Machine/CastCheck.lean ====
section
/-! DEFINITION. The casting engine's check of an image: chapter 18 of spec/ (R398 to R412). -/

namespace Sys2Proof.Machine

/-! ## Bytes of an image -/

/-- Little-endian number of k bytes at an offset. -/
def imgLe (m : List Byte) (off : Nat) : Nat → Nat
  | 0 => 0
  | k + 1 => (m.getD off 0).toNat + 256 * imgLe m (off + 1) k

def imgSlice (m : List Byte) (off k : Nat) : List Byte := (m.drop off).take k

/-- CRC-32C of bytes as R407 takes it. -/
def imgCrc (m : List Byte) (off k : Nat) : Nat := crc32c (imgSlice m off k)

def imgLength (m : List Byte) : Nat := imgLe m 0xC 4
def imgFlag (m : List Byte) (b : Nat) : Bool := bit (imgLe m 0x10 2) b = 1
def imgMaquette (m : List Byte) : Bool := imgFlag m 0
def imgRecast (m : List Byte) : Bool := imgFlag m 1
def imgAuth (m : List Byte) : Bool := imgFlag m 2
def imgSects (m : List Byte) : Nat := imgLe m 0x12 2
/-- Where the image CRC stands (Table 18.1). -/
def imgCrcAt (m : List Byte) : Nat := imgLength m - (if imgAuth m then 36 else 4)

/-- An entry of the section table (R401). -/
structure SectEntry where
  ty : Nat
  idx : Nat
  off : Nat
  len : Nat
  crc : Nat
  /-- where the entry itself stands -/
  at0 : Nat
  deriving DecidableEq, Repr

def sectEntry (m : List Byte) (i : Nat) : SectEntry :=
  let b := 0x40 + 16 * i
  ⟨imgLe m b 1, imgLe m (b + 1) 1, imgLe m (b + 4) 4, imgLe m (b + 8) 4, imgLe m (b + 12) 4, b⟩

def sectTable (m : List Byte) : List SectEntry := (List.range (imgSects m)).map (sectEntry m)

/-! ## Stage 1 (R409, R398) -/

/-- LENGTH, NSECT and the span of every section (R399 to R401). -/
def layoutBad (m : List Byte) : Bool :=
  let n := imgSects m
  n < 1 || 17 < n || m.length < imgLength m || 1048576 < imgLength m || imgLength m % 4 ≠ 0
    || imgLength m < 0x40 + 16 * n + (if imgAuth m then 36 else 4)
    || (sectTable m).any (fun e => e.off < 0x40 + 16 * n || imgCrcAt m < e.off + e.len)

/-- A full casting in CAST, or a recast in the operating modes; a maquette of either kind in all of them (R398). -/
def State.kindFits (s : State) (m : List Byte) : Bool :=
  imgMaquette m || (if imgRecast m then s.operating else s.mode = Mode.cast)

/-- First failing image-level check, as its reason; 0 when all pass. -/
def State.imageReason (s : State) (m : List Byte) : Nat :=
  let k63 := s.rd (KEY_KEK.STATE 63) = 2
  if imgSlice m 0 5 ≠ [0x4A, 0x4B, 0x43, 0x53, 0x01] then 0x40
  else if imgLe m 6 2 ≠ 0x4A4B || imgLe m 8 2 ≠ 0x3280 || 0xB0 < imgLe m 0xA 1
      || (imgLe m 0x14 4 ≠ 0 && imgLe m 0x14 4 ≠ s.rd DEV_SERIAL_LO.SN) then 0x41
  else if !s.kindFits m then 0x45
  else if layoutBad m then 0x42
  else if imgLe m (imgCrcAt m) 4 ≠ imgCrc m 0 (imgCrcAt m) then 0x43
  else if (if imgAuth m then
      !k63 || imgSlice m (imgLength m - 32) 32 ≠ hmac (beBytes 32 (s.rd (KEYC.KEK 63))) (m.take (imgLength m - 32))
    else s.on CST_INFO.AUTH_REQ) then 0x44
  else if !imgRecast m && channels.any (fun n => !(sectTable m).any (fun e => e.ty = 2 && e.idx = n)) then 0x46
  else if imgRecast m && imgSlice m 0x20 32 ≠ s.digest then 0x45
  else 0

/-! ## Groups and fields (R404, R405) -/

/-- A register or table group (Table 18.5): base of its first instance for SINDEX 0, distance from one SINDEX to the next,
instances, their distance, and the words of one. -/
structure CastGroup where
  sect : Nat
  group : Nat
  base : Nat
  per : Nat
  count : Nat
  stride : Nat
  words : Nat
  deriving DecidableEq, Repr

/-- Groups of the DEVICE section and of the policies. -/
def groupsDevice : List CastGroup := [
  ⟨1, 0x01, 0x10000, 0, 1, 4, 1⟩, ⟨1, 0x02, 0x10008, 0, 1, 4, 1⟩, ⟨1, 0x03, 0x1000C, 0, 1, 4, 1⟩, ⟨1, 0x08, 0x90010, 0, 7, 4, 1⟩,
  ⟨1, 0x10, 0x60000, 0, 1, 4, 1⟩, ⟨1, 0x11, 0x60018, 0, 2, 4, 1⟩, ⟨1, 0x12, 0x60024, 0, 1, 4, 1⟩, ⟨1, 0x13, 0x60040, 0, 8, 8, 1⟩,
  ⟨1, 0x14, 0x60044, 0, 8, 8, 1⟩, ⟨5, 0x01, 0x30000, 0, 1, 4, 1⟩, ⟨5, 0x02, 0x32000, 0, 2048, 4, 1⟩,
  ⟨7, 0x01, 0x5010004, 0, 4, 0x10000, 1⟩, ⟨8, 0x01, 0x50014, 0, 1, 4, 1⟩, ⟨8, 0x02, 0x50010, 0, 1, 4, 1⟩]

/-- Groups of a CHANNEL section. -/
def groupsChannel : List CastGroup := [
  ⟨2, 0x01, 0x1000008, 0x1000000, 1, 4, 1⟩, ⟨2, 0x02, 0x1000010, 0x1000000, 1, 4, 1⟩, ⟨2, 0x03, 0x1000018, 0x1000000, 1, 4, 1⟩,
  ⟨2, 0x04, 0x1000024, 0x1000000, 1, 4, 1⟩, ⟨2, 0x05, 0x1000030, 0x1000000, 1, 4, 1⟩, ⟨2, 0x08, 0x1100010, 0x1000000, 1, 4, 1⟩,
  ⟨2, 0x09, 0x1100014, 0x1000000, 1, 4, 1⟩, ⟨2, 0x10, 0x1200100, 0x1000000, 1, 4, 1⟩, ⟨2, 0x11, 0x1200110, 0x1000000, 1, 4, 1⟩,
  ⟨2, 0x12, 0x1200120, 0x1000000, 1, 4, 1⟩, ⟨2, 0x13, 0x1200140, 0x1000000, 1, 4, 1⟩, ⟨2, 0x14, 0x1200200, 0x1000000, 1, 4, 1⟩,
  ⟨2, 0x15, 0x1200220, 0x1000000, 4, 4, 1⟩, ⟨2, 0x16, 0x1200230, 0x1000000, 2, 4, 1⟩, ⟨2, 0x17, 0x1200238, 0x1000000, 1, 4, 1⟩,
  ⟨2, 0x18, 0x120023C, 0x1000000, 1, 4, 1⟩, ⟨2, 0x20, 0x1300004, 0x1000000, 1, 4, 1⟩, ⟨2, 0x21, 0x1300024, 0x1000000, 1, 4, 1⟩,
  ⟨2, 0x28, 0x1400000, 0x1000000, 1, 4, 1⟩, ⟨2, 0x29, 0x1500000, 0x1000000, 1, 4, 1⟩, ⟨2, 0x30, 0x1700000, 0x1000000, 1, 4, 1⟩,
  ⟨2, 0x31, 0x1700004, 0x1000000, 1, 4, 1⟩, ⟨2, 0x32, 0x1700008, 0x1000000, 1, 4, 1⟩, ⟨2, 0x38, 0x1800000, 0x1000000, 1, 4, 1⟩,
  ⟨2, 0x39, 0x1800018, 0x1000000, 2, 4, 1⟩, ⟨2, 0x3A, 0x1800020, 0x1000000, 1, 4, 1⟩, ⟨2, 0x3B, 0x1800024, 0x1000000, 1, 4, 1⟩,
  ⟨2, 0x3C, 0x1800040, 0x1000000, 8, 8, 1⟩, ⟨2, 0x3D, 0x1800044, 0x1000000, 8, 8, 1⟩, ⟨2, 0x3E, 0x1800100, 0x1000000, 1, 4, 1⟩,
  ⟨2, 0x3F, 0x1800010, 0x1000000, 1, 4, 1⟩]

/-- Groups of the HOST and TRIB sections. -/
def groupsHost : List CastGroup := [
  ⟨3, 0x01, 0x1600100, 0x1000000, 16, 4, 1⟩, ⟨3, 0x02, 0x16001C0, 0x1000000, 16, 4, 1⟩, ⟨3, 0x03, 0x1600010, 0x1000000, 1, 4, 1⟩,
  ⟨3, 0x04, 0x1600280, 0x1000000, 8, 8, 1⟩, ⟨3, 0x10, 0x8700000, 0x10000, 256, 16, 4⟩, ⟨3, 0x11, 0x8701000, 0x10000, 5120, 4, 1⟩,
  ⟨4, 0x01, 0x8608000, 0x10000, 1024, 16, 4⟩]

def castGroups : List CastGroup := groupsDevice ++ groupsChannel ++ groupsHost

def findGroup (sect g : Nat) : Option CastGroup := castGroups.find? (fun x => x.sect = sect && x.group = g)

/-- The fields of the word at an address, each instance by its own address. -/
def specsAt (a : Nat) : List FSpec :=
  match findReg a with
  | some (r, d) => r.fields.map (fun f => { f with fld := (f.fld.shift d).reseat })
  | none => []

/-- Fields of PMC_CH_CFG of counter c of scope k. -/
def pmcSpecs (k c : Nat) : List FSpec :=
  [⟨PMC_CH_CFG.THR k c, .rw, .live, 3, .any⟩, ⟨PMC_CH_CFG.FEN k c, .rw, .live, 3, .any⟩,
   ⟨PMC_CH_CFG.FILTER k c, .rw, .live, 3, .any⟩, ⟨PMC_CH_CFG.EVENT k c, .rw, .live, 3, .any⟩]

/-- A casting-only field (Table 18.6) of channel n: its value as two's complement of 32 bits, plus 1; 0 where no record
gave it. -/
def castRaw (n g idx pos : Nat) : Field := cell 29 (0x2000 * (n + 1) + 2 * (0x100 * (g - 0x40) + 0x20 * idx + pos)) 33 0

/-- Last position, lowest and highest value, and width in bytes, of the fields of a casting-only group. -/
def rawField (g pos : Nat) : Option (Int × Int × Nat) :=
  match g, pos with
  | 0x40, 0 => some (0, 0xFFFFFF, 4)
  | 0x40, 1 => some (0, 0xFFFF, 2)
  | 0x40, 2 => some (0, 3, 1)
  | 0x41, 0 => some (1, 8, 1)
  | 0x41, 1 => some (0, 5, 1)
  | 0x41, 2 => some (5600, 34000, 2)
  | 0x41, 3 => some (0, 2, 1)
  | 0x41, 4 => some (0, 0xFFFF, 2)
  | 0x41, 5 => some (0, 1, 1)
  | 0x41, 6 => some (1, 1280, 2)
  | 0x41, 7 => some (0, 0xFFFF, 2)
  | 0x41, 8 => some (0, 96, 1)
  | 0x41, 9 => some (0, 96, 1)
  | 0x41, 10 => some (0, 96, 1)
  | 0x41, 11 => some (0, 4, 1)
  | 0x41, 12 => some (0, 1, 1)
  | 0x42, 0 => some (1, 255, 1)
  | 0x42, 1 => some (1, 2000, 2)
  | 0x42, 2 => some (0, 3000, 2)
  | 0x42, 3 => some (100, 3000, 2)
  | 0x42, 4 => some (100, 400, 2)
  | 0x42, 5 => some (-1000, 1000, 2)
  | _, _ => none

/-- Casting-only fields whose description lists codes. -/
def rawEnum (g pos : Nat) : Bool := g = 0x41 && (pos = 0 || pos = 1 || pos = 3 || pos = 5 || pos = 11 || pos = 12)

/-- Fields of registers that list codes, beside those of one bit: (section, group, position). -/
def enumFields : List (Nat × Nat × Nat) :=
  [(1, 0x01, 2), (1, 0x01, 0), (1, 0x08, 0), (1, 0x10, 4), (1, 0x10, 0), (2, 0x38, 4), (2, 0x38, 0), (2, 0x03, 0),
   (2, 0x13, 0), (2, 0x21, 16), (3, 0x01, 9), (2, 0x30, 1), (6, 0x02, 0)]

/-- Fields that are two's complement without a range of their own. -/
def signedFields : List (Nat × Nat × Nat) :=
  [(1, 0x13, 0), (1, 0x14, 0), (2, 0x3C, 0), (2, 0x3D, 0), (3, 0x02, 24), (3, 0x02, 8), (3, 0x02, 0)]

/-- The field is two's complement, with its lowest and highest value. -/
def fieldRange (sect g pos : Nat) (f : FSpec) : Bool × Int × Int :=
  let w := f.fld.width
  if sect = 2 && g = 0x01 then (true, -1136, 496)
  else match f.lim with
    | .srng lo hi => (true, lo, hi)
    | .rng lo hi => (false, lo, hi)
    | _ => if signedFields.contains (sect, g, pos) then (true, -(2 ^ (w - 1) : Nat), 2 ^ (w - 1) - 1) else (false, 0, 2 ^ w - 1)

/-! ## Records (R403, R406) -/

/-- A record as the section holds it. -/
structure RawRec where
  fid : Nat
  index : Nat
  width : Nat
  off : Nat
  /-- value bytes as a little-endian number -/
  value : Nat
  deriving DecidableEq, Repr

/-- Records from an offset to a section's end; none where one runs past it.  k bounds their number. -/
def readRecords (m : List Byte) (stop : Nat) : Nat → Nat → Option (List RawRec)
  | 0, _ => some []
  | k + 1, off =>
    if stop ≤ off then some []
    else
      let w := imgLe m (off + 4) 1
      let next := off + 8 + (w + 3) / 4 * 4
      if stop < off + 8 || stop < next then none
      else (readRecords m stop k next).map (⟨imgLe m off 2, imgLe m (off + 2) 2, w, off, imgLe m (off + 8) w⟩ :: ·)

/-- What the check of a record comes to: its reason (0 none), what is applied, and the values that an entry shows. -/
structure Judged where
  reason : Nat
  out : Option CastRec
  req : Int
  applied : Int
  deriving DecidableEq, Repr

/-- A record that is not applied. -/
def Judged.no (reason : Nat) (req : Int) : Judged := ⟨reason, none, req, 0⟩

/-- Value of a record, as R406 reads it. -/
def RawRec.read (r : RawRec) (signed : Bool) : Int := if signed && 0 < r.width then toSigned (8 * r.width) r.value else r.value

/-- WIDTH is 1, 2, 4 or 8 and holds the field. -/
def widthOk (w need : Nat) : Bool := (w = 1 || w = 2 || w = 4 || w = 8) && need ≤ w

/-- A value against its range: clamped, or not among the codes. -/
def clampTo (enum : Bool) (lo hi v : Int) : Nat × Int :=
  if v < lo then (if enum then 0x14 else 1, lo) else if hi < v then (if enum then 0x14 else 1, hi) else (0, v)

/-- Channel of a section, where it has one. -/
def sectChan (sect sindex : Nat) : Option Nat := if sect = 2 || sect = 3 || sect = 4 then some sindex else none

/-- The device refuses a static field of a recast: its channel is not DARK, or it has none (0x16). -/
def State.staticOut (s : State) (recast : Bool) (sect sindex : Nat) : Bool :=
  recast && (match sectChan sect sindex with
    | some n => s.chSt n ≠ ChSt.dark
    | none => true)

/-- A record of a casting-only field. -/
def State.judgeRaw (s : State) (recast auth : Bool) (e : SectEntry) (r : RawRec) : Judged :=
  let g := r.fid / 256
  let pos := r.fid % 256
  if e.ty = 7 then
    let v := r.read false
    if pos ≠ 0 then .no 0x11 v
    else if !widthOk r.width 1 then .no 0x13 v
    else if r.index ≠ 0 then .no 0x15 v
    else if !auth then .no 0x18 v
    else if 1 < v then .no 0x14 v
    else ⟨0, some ⟨7, e.idx, r.fid, 0, 0, CST_INFO.AUTH_REQ, false, r.value, r.off⟩, v, v⟩
  else
    match rawField g pos with
    | none => .no 0x11 (r.read false)
    | some (lo, hi, need) =>
      let v := r.read (g = 0x42 && pos = 5)
      if !widthOk r.width need then .no 0x13 v
      else if (if g = 0x40 then 0 else 3) < r.index then .no 0x15 v
      else if s.staticOut recast 2 e.idx then .no 0x16 v
      else
        let c := clampTo (rawEnum g pos) lo hi v
        if c.1 = 0x14 then .no 0x14 v
        else ⟨if g = 0x41 && (pos = 4 || pos = 7) then 0 else c.1,
          some ⟨2, e.idx, r.fid, r.index, 0, castRaw e.idx g r.index pos, false, ofSigned 32 c.2 + 1, r.off⟩, v, c.2⟩

/-- A record that names a field f of the word at address a. -/
def State.judgeField (s : State) (recast : Bool) (e : SectEntry) (r : RawRec) (a : Nat) (f : FSpec) : Judged :=
  let g := r.fid / 256
  let pos := r.fid % 256
  let range := fieldRange e.ty g pos f
  let v := r.read range.1
  if !widthOk r.width ((f.fld.width + 7) / 8) then .no 0x13 v
  else if recast && f.acc = .rwl then .no 0x17 v
  else if f.cls = .static && s.staticOut recast e.ty e.idx then .no 0x16 v
  else if e.ty = 2 && g = 0x01 && s.phase e.idx ≠ Phase.off then .no 0x12 v
  else
    let c := clampTo (f.fld.width = 1 || enumFields.contains (e.ty, g, pos)) range.2.1 range.2.2 v
    if c.1 = 0x14 || (e.ty = 2 && g = 0x3A && (List.range 6).any (fun i => 8 ≤ bits c.2.toNat (4 * i) 4)) then .no 0x14 v
    else ⟨c.1, some ⟨e.ty, e.idx, r.fid, r.index, a, f.fld, f.cls = .framed, ofSigned f.fld.width c.2, r.off⟩, v, c.2⟩

/-- A record of a register or table group. -/
def State.judgeReg (s : State) (recast : Bool) (e : SectEntry) (g : CastGroup) (r : RawRec) : Judged :=
  let pos := r.fid % 256
  let off := g.base + g.per * e.idx + 4 * (pos / 32)
  if g.words ≤ pos / 32 then .no 0x11 r.value
  else match (specsAt off).find? (fun f => f.fld.lo = pos % 32) with
    | none => .no 0x12 r.value
    | some f0 =>
      if f0.acc ≠ .rw && f0.acc ≠ .rwl then .no 0x12 r.value
      else if !widthOk r.width ((f0.fld.width + 7) / 8) then .no 0x13 (r.read (fieldRange e.ty g.group pos f0).1)
      else if g.count ≤ r.index || (e.ty = 5 && g.group = 2 && !implemented r.index) then
        .no 0x15 (r.read (fieldRange e.ty g.group pos f0).1)
      else
        let a := off + g.stride * r.index
        match (specsAt a).find? (fun f => f.fld.lo = pos % 32) with
        | none => .no 0x12 r.value
        | some f =>
          if e.ty = 3 && g.group = 0x11 && recast && s.calInUse e.idx (r.index / 640) (if pos < 16 then 0 else 1) then
            .no 0x12 r.value
          else s.judgeField recast e r a f

/-- A record of the PMC section (Table 18.5). -/
def State.judgePmc (s : State) (recast : Bool) (e : SectEntry) (r : RawRec) : Judged :=
  let g := r.fid / 256
  let pos := r.fid % 256
  if g = 0x01 then
    if 32 ≤ pos then .no 0x11 r.value
    else if pos ≠ 0 then .no 0x12 r.value
    else if !widthOk r.width 1 then .no 0x13 r.value
    else if 4 < r.index then .no 0x15 r.value
    else s.judgeField recast e r (pmcBase r.index) ⟨PMC_CH_CTRL.RUN r.index, .rw, .live, 3, .any⟩
  else
    let k := r.index / 512
    let c := r.index % 512
    if 32 ≤ pos then .no 0x11 r.value
    else match (pmcSpecs k c).find? (fun f => f.fld.lo = pos) with
      | none => .no 0x12 r.value
      | some f =>
        if !widthOk r.width ((f.fld.width + 7) / 8) then .no 0x13 r.value
        else if 4 < k || counters k ≤ c then .no 0x15 r.value
        else if fixedCounter k c then .no 0x12 r.value
        else if f.fld = PMC_CH_CFG.EVENT k c && !eventAllowed k c r.value then .no 0x14 r.value
        else s.judgeField recast e r (pmcBase k + 0xC) f

/-- A host mask word: 32 bits, 1 masked. -/
def judgeMask (e : SectEntry) (r : RawRec) : Judged :=
  let pos := r.fid % 256
  if 32 ≤ pos then .no 0x11 r.value
  else if pos ≠ 0 then .no 0x12 r.value
  else if !widthOk r.width 4 then .no 0x13 r.value
  else if 64 ≤ r.index then .no 0x15 r.value
  else
    let c := clampTo false 0 (2 ^ 32 - 1) r.value
    ⟨c.1, some ⟨5, e.idx, r.fid, r.index, 0x30700 + 4 * r.index, IRQ_MASK_W.MASK r.index, false, c.2.toNat, r.off⟩, r.value, c.2⟩

/-- The check of one record. -/
def State.judge (s : State) (recast auth : Bool) (e : SectEntry) (r : RawRec) : Judged :=
  let g := r.fid / 256
  if g = 0xFF then .no 0 r.value
  else if 0xF0 ≤ g then .no 0x10 r.value
  else if (e.ty = 2 && 0x40 ≤ g && g ≤ 0x42) || (e.ty = 7 && g = 0x02) then s.judgeRaw recast auth e r
  else if e.ty = 5 && g = 0x03 then judgeMask e r
  else if e.ty = 6 && (g = 0x01 || g = 0x02) then s.judgePmc recast e r
  else match findGroup e.ty g with
    | some x => s.judgeReg recast e x r
    | none => .no 0x11 r.value

/-- The entry of a departure; values as 64-bit two's complement. -/
def repEntry (e : SectEntry) (fid index reason detail : Nat) (req applied : Int) (off : Nat) : RepEntry :=
  ⟨e.ty, e.idx, fid, index, reason, detail, ofSigned 64 req, ofSigned 64 applied, off⟩

/-- Records of a section, judged: a record that a later one repeats is replaced by it (R406). -/
def judgeAll (e : SectEntry) (j : RawRec → Judged) : List RawRec → List RepEntry × List (CastRec × Int)
  | [] => ([], [])
  | r :: l =>
    let rest := judgeAll e j l
    let x := j r
    match x.out with
    | none => (if x.reason = 0 then rest.1 else repEntry e r.fid r.index x.reason 0 x.req 0 r.off :: rest.1, rest.2)
    | some c =>
      match (l.filter (fun y => y.fid = r.fid && y.index = r.index)).getLast? with
      | some y => (repEntry e r.fid r.index 8 0 x.req (j y).applied r.off :: rest.1, rest.2)
      | none => (if x.reason = 0 then rest.1 else repEntry e r.fid r.index x.reason 0 x.req x.applied r.off :: rest.1,
          (c, x.req) :: rest.2)

/-! ## A trial state: what the section would leave -/

/-- A record's value is put, with no effect beside it. -/
def State.putRec (c : CastRec) (s : State) : State :=
  if c.sect = 5 && c.fid / 256 = 3 then
    s.each ((List.range 32).map (fun b => 32 * c.index + b) |>.filter implemented)
      (fun N t => t.put (IRQ_MASK N) (bit c.value (N % 32)))
  else s.put c.fld c.value

/-! ## Profiles (R72 to R74, R405, R410, R411) -/

/-- Value that records gave a casting-only field. -/
def State.raw (s : State) (n g idx pos : Nat) : Option Int :=
  let v := s.rd (castRaw n g idx pos)
  if v = 0 then none else some (toSigned 32 (v - 1))

/-- The same as a natural number, with the default of Table 18.6. -/
def State.rawNat (s : State) (n g idx pos d : Nat) : Nat := ((s.raw n g idx pos).map Int.toNat).getD d

/-- A parameter of a profile clamped by its check: order of Table 3.3 or 0x0B, position, and the value applied. -/
structure Clamp where
  reason : Nat
  detail : Nat
  pos : Nat
  asked : Int
  applied : Nat
  deriving DecidableEq, Repr

/-- A clamp is needed where the two differ. -/
def clampIf (reason detail pos asked applied : Nat) : List Clamp :=
  if asked = applied then [] else [⟨reason, detail, pos, asked, applied⟩]

/-- Triplets in units of 256 of a code of TRIPLETS. -/
def tripOf (code : Nat) : Nat :=
  match code with
  | 0 => 0
  | 1 => 1
  | 2 => 2
  | 3 => 4
  | _ => 8

/-- Tiles that may be assigned: those not fenced, in ascending number (R411). -/
def State.freeTiles (s : State) (n : Nat) : List Nat :=
  (List.range 96).filter (fun t => s.rd (LDS_TILE_STAT.STATE n t) ≠ 2 && s.rd (LDS_TILE_STAT.STATE n t) ≠ 3)

/-- Tiles assigned to the stages. -/
def Profile.assign (p : Profile) (free : List Nat) : Profile :=
  { p with tCd := free.take p.nCd, tMimo := (free.drop p.nCd).take p.nMimo, tNlc := (free.drop (p.nCd + p.nMimo)).take p.nNlc }

/-- Tile total, then the profile's own cost (R410 step 2). -/
def Profile.settle (p : Profile) (free : List Nat) (short : Nat) : Except Nat Profile :=
  if 96 < p.nCd + p.nMimo + p.nNlc then .error 0x0A
  else if p.covered p.nCd p.nMimo p.nNlc then .ok (p.assign free) else .error short

/-- A native or interoperable profile: its parameters follow from the mode. -/
def State.fixedProfile (s : State) (n p mode : Nat) : Except Nat Profile × List Clamp :=
  let row := (nativeRow mode).getD (mode, if mode = 7 then 5984 else 6014, 4, 400, if mode = 7 then 2 else 3, 0, 20, 0, false)
  let rs := row.2.1
  let cdMax := row.2.2.2.2.2.2.1
  let tripMin := row.2.2.2.2.2.2.2.1
  let dfeMin := row.2.2.2.2.2.2.2.2
  let cdAsk := s.rawNat n 0x41 p 7 cdMax
  let cd := if 7 ≤ mode then cdMax else Nat.min cdAsk cdMax
  let tripAsk := s.rawNat n 0x41 p 11 (tripCode tripMin)
  let trip := Nat.max tripAsk (tripCode tripMin)
  let dfeAsk := s.rawNat n 0x41 p 12 (if dfeMin then 1 else 0)
  let dfe := Nat.max dfeAsk (if dfeMin then 1 else 0)
  let pr : Profile := ⟨mode, rs, row.2.2.1, row.2.2.2.1, row.2.2.2.2.1, row.2.2.2.2.2.1, cd, tripOf trip, dfe = 1,
    s.rawNat n 0x41 p 1 2, s.rawNat n 0x41 p 8 (costCd rs cdMax), s.rawNat n 0x41 p 9 (costMimo rs dfeMin),
    s.rawNat n 0x41 p 10 (costNlc rs tripMin), [], [], []⟩
  (pr.settle (s.freeTiles n) 0x0B, clampIf 1 0 7 cdAsk cd ++ clampIf 3 0x0B 11 tripAsk trip ++ clampIf 3 0x0B 12 dfeAsk dfe)

/-- Largest CD range that n tiles cover at a symbol rate, at most `k`. -/
def cdCover (rs tiles : Nat) : Nat → Nat
  | 0 => 0
  | k + 1 => if costCd rs (k + 1) ≤ tiles then k + 1 else cdCover rs tiles k

/-- First quantity that a custom profile lacks, as its order in Table 3.3 (R405). -/
def State.missing (s : State) (n p : Nat) : Nat :=
  if (s.raw n 0x41 p 2).isNone then 1 else if (s.raw n 0x41 p 3).isNone then 4 else if (s.raw n 0x41 p 4).isNone then 5
  else if (s.raw n 0x41 p 5).isNone then 6 else if (s.raw n 0x41 p 6).isNone then 7 else 0

/-- A custom profile, checked in the order of Table 3.3.  Order 3 needs no clamp: the slack target is reachable at every
rate up to 340 GBd (R50). -/
def State.customProfile (s : State) (n p : Nat) : Except Nat Profile × List Clamp :=
  let k := s.missing n p
  if k ≠ 0 then (.error k, [])
  else
    let rsAsk := s.rawNat n 0x41 p 2 0
    let rs := Nat.min rsAsk (s.rd (CNV_RATE.MAXRS n))
    let m := match s.rawNat n 0x41 p 3 0 with
      | 0 => 2
      | 1 => 4
      | _ => 6
    let hAsk := s.rawNat n 0x41 p 4 0
    let h := if m = 2 then 200 else if m = 4 then Nat.max 250 (Nat.min 400 hAsk) else Nat.max 400 (Nat.min 580 hAsk)
    let code := s.rawNat n 0x41 p 5 0
    let tsAsk := s.rawNat n 0x41 p 6 0
    let ts := Nat.min tsAsk (slotLimit rs m h code)
    let nCd := s.rawNat n 0x41 p 8 0
    let cdAsk := s.rawNat n 0x41 p 7 400
    let cdIn := Nat.min 400 cdAsk
    let cd := cdCover rs nCd cdIn
    let clamps := clampIf 3 2 2 rsAsk rs ++ clampIf 3 5 4 hAsk h ++ clampIf 3 7 6 tsAsk ts
      ++ (if cd < cdIn then clampIf 3 8 7 cdAsk cd else clampIf 1 0 7 cdAsk cd)
    let pr : Profile := ⟨6, rs, m, h, code, ts, cd, tripOf (s.rawNat n 0x41 p 11 0), s.rawNat n 0x41 p 12 0 = 1,
      s.rawNat n 0x41 p 1 2, nCd, s.rawNat n 0x41 p 9 0, s.rawNat n 0x41 p 10 0, [], [], []⟩
    if ts = 0 then (.error 7, clamps) else (pr.settle (s.freeTiles n) 9, clamps)

/-- Profile p of channel n as its casting-only fields give it: none where no MODE is given. -/
def State.buildProfile (s : State) (n p : Nat) : Option (Except Nat Profile × List Clamp) :=
  (s.raw n 0x41 p 0).map (fun m => if m = 6 then s.customProfile n p else s.fixedProfile n p m.toNat)

/-- Records of RS to TSLOTS that a native or interoperable profile does not use (R405). -/
def State.unused (s : State) (n : Nat) (c : CastRec) : Bool :=
  c.fid / 256 = 0x41 && 2 ≤ c.fid % 256 && c.fid % 256 ≤ 6
    && (match s.raw n 0x41 c.index 0 with
      | some m => m ≠ 6
      | none => false)

/-- The profile takes its place in the channel. -/
def State.setProfile (n p : Nat) (o : Option Profile) (s : State) : State :=
  s.onChan n (fun c => { c with prof := c.prof.set p o })

/-- Widest slot of the defined profiles (R69, R410 step 5). -/
def State.widest (s : State) (n : Nat) : Nat :=
  [0, 1, 2, 3].foldl (fun w p => match s.profile n p with
    | some pr => Nat.max w (slotWidth pr)
    | none => w) 0

/-! ## The checks of a section (R410 to R412) -/

/-- What a section comes to: its entries, and, unless it is refused, its records and the trial state. -/
structure SectOut where
  entries : List RepEntry
  taken : Option (List CastRec × State)

/-- A refused section. -/
def SectOut.no (e : SectEntry) (l : List RepEntry) (reason detail : Nat) : SectOut :=
  ⟨l ++ [repEntry e 0xFFFF 0 reason detail 0 0 e.at0], none⟩

/-- The record of a list that gave a profile's field, with the value it asked for. -/
def askedBy (l : List (CastRec × Int)) (p pos : Nat) : Option (CastRec × Int) :=
  l.find? (fun x => x.1.fid = 0x4100 + pos && x.1.index = p)

/-- A CHANNEL section: `base` is the state in force, `v` the trial state that holds the records `l`. -/
def checkChannel (base : State) (recast : Bool) (e : SectEntry) (l : List (CastRec × Int)) (v : State) : SectOut :=
  let n := e.idx
  let drop := l.filter (fun x => v.unused n x.1)
  let l1 := l.filter (fun x => !v.unused n x.1)
  let e0 := drop.map (fun x => repEntry e x.1.fid x.1.index 0x12 0 x.2 0 x.1.offset)
  let touched := [0, 1, 2, 3].filter (fun p => !recast || l1.any (fun x => x.1.fid / 256 = 0x41 && x.1.index = p))
  let built := touched.map (fun p => (p, v.buildProfile n p))
  let e1 := built.flatMap (fun b => match b.2 with
    | none => []
    | some (res, cs) =>
      cs.map (fun c => match askedBy l1 b.1 c.pos with
        | some x => repEntry e (0x4100 + c.pos) b.1 c.reason c.detail x.2 c.applied x.1.offset
        | none => repEntry e (0x4100 + c.pos) b.1 c.reason c.detail c.asked c.applied e.at0)
      ++ (match res with
        | .error d => [repEntry e 0x4100 b.1 0x20 d ((v.raw n 0x41 b.1 0).getD 0) 0 (((askedBy l1 b.1 0).map (·.1.offset)).getD e.at0)]
        | .ok _ => []))
  let v1 := v.each built (fun b t => t.setProfile n b.1 (match b.2 with
    | some (.ok pr, _) => some pr
    | _ => none))
  let act := base.rd (LDS_LMODE_STAT.ACTIVE n)
  let lost := recast && base.chSt n ≠ ChSt.dark && (match base.profile n act with
    | some p => base.reachOf n p && !(match v1.profile n act with
      | some q => v1.reachOf n q
      | none => false)
    | none => false)
  let es := e0 ++ e1
  if v.rawNat n 0x40 0 0 0xFFFFFF = 0 then .no e es 0x32 3
  else if (v1.profile n (v1.rawNat n 0x40 0 2 0)).isNone then .no e es 0x32 4
  else if lost then .no e es 0x33 0
  else
    let w : Int := v1.widest n
    let c := toSigned 12 (v1.rd (OPT_FREQ.N n))
    let cl : Int := if c - w < -1136 then w - 1136 else if 496 < c + w then 496 - w else c
    let rec? := l1.find? (fun x => x.1.fid = 0x0100)
    let off := (rec?.map (·.1.offset)).getD e.at0
    let fix : CastRec := ⟨2, n, 0x0100, 0, chanAddr n 8, OPT_FREQ.N n, false, ofSigned 12 cl, off⟩
    if c ≠ cl then
      ⟨es ++ [repEntry e 0x0100 0 0x04 0 ((rec?.map (·.2)).getD c) cl off],
       some ((l1.map (·.1)).filter (fun x => x.fid ≠ 0x0100) ++ [fix], v1.putS (OPT_FREQ.N n) cl)⟩
    else ⟨es, some (l1.map (·.1), v1)⟩

/-- Port layout (R232): all lanes of a port hold the same TYPE, FLEXE and GROUP. -/
def State.layoutOk (s : State) (n : Nat) : Bool :=
  (List.range 16).all (fun l =>
    let p := s.portOf n l
    (s.portLanes n p).all (fun j => s.rd (HST_LANE_L.TYPE n j) = s.rd (HST_LANE_L.TYPE n l)
      && s.rd (HST_LANE_L.FLEXE n j) = s.rd (HST_LANE_L.FLEXE n l) && s.rd (HST_LANE_L.GROUP n j) = s.rd (HST_LANE_L.GROUP n l))
      && s.rd (HST_LANE_L.TYPE n p) = s.rd (HST_LANE_L.TYPE n l))

/-- FlexE limits (R234): members of 200 or 400 Gb/s, one type in a group, and clients of at most 320 slots. -/
def State.flexeOk (s : State) (n : Nat) : Bool :=
  (List.range 8).all (fun g =>
    let ty := (s.members n g).map (fun l => s.rd (HST_LANE_L.TYPE n l))
    ty.all (fun t => (t = 1 || t = 2) && t = ty.headD 0))
    && (s.clients n).all (fun c => s.rd (HST_CLI.KIND n c) = 0 || s.rate5 n c ≤ 320)

/-- Every enabled client names a home of its kind (R235). -/
def State.homesOk (s : State) (n : Nat) : Bool :=
  (s.clients n).all (fun c =>
    let h := s.rd (HST_CLI.HOME n c)
    if s.rd (HST_CLI.KIND n c) = 0 then
      s.portOf n h = h && s.rd (HST_LANE_L.TYPE n h) ≠ 0 && !s.on (HST_LANE_L.FLEXE n h)
        && (s.clients n).all (fun d => d = c || s.rd (HST_CLI.KIND n d) ≠ 0 || s.rd (HST_CLI.HOME n d) ≠ h)
    else h < 8 && !(s.members n h).isEmpty && s.rd (HST_FLX_CFG_G.GNUM n h) ≠ 0)

/-- A HOST section. -/
def checkHost (e : SectEntry) (l : List CastRec) (v : State) : SectOut :=
  if !v.layoutOk e.idx then .no e [] 0x32 1
  else if !v.flexeOk e.idx then .no e [] 0x32 2
  else if !v.homesOk e.idx then .no e [] 0x32 5
  else ⟨[], some (l, v)⟩

/-- Enabled entries that fail, with their causes, in ascending index (R412). -/
def State.shadowFaults (s : State) (n : Nat) (p : Profile) : List TribCfg → List TribCfg → List (Nat × Nat)
  | _, [] => []
  | before, c :: l =>
    if !c.en then s.shadowFaults n p before l
    else
      let k := s.tribCause false n p before c
      if k = 0 then s.shadowFaults n p (before ++ [c]) l else (c.idx, k) :: s.shadowFaults n p before l

/-- Pipelines that the casting enables and no fence takes (R411). -/
def State.pipesOf (s : State) (n : Nat) : Nat :=
  ofBits ((List.range 16).map (fun p => bit (s.rawNat n 0x40 0 1 0xFFFF) p = 1 && !s.rdBit (SEC_PIPE.FENCED n) p))

/-- A TRIB section: failing entries lose EN. -/
def checkTrib (recast : Bool) (e : SectEntry) (l : List CastRec) (v : State) : SectOut :=
  let n := e.idx
  let prof := if recast then v.active n else v.profile n (v.rawNat n 0x40 0 2 0)
  let v0 := (v.put (SEC_PIPE.ACTIVE n) (v.pipesOf n)).hstRates n
  match prof with
  | none => ⟨[], some (l, v)⟩
  | some p =>
    let bad := v0.shadowFaults n p [] (v0.shadowTable n)
    let offOf (t : Nat) : Nat := ((l.find? (fun x => x.fid = 0x011F && x.index = t)).map (·.offset)).getD e.at0
    let fix := bad.map (fun b => (⟨4, n, 0x011F, b.1, 0x8608000 + 0x10000 * n + 16 * b.1, TRB_SHD.EN n b.1, false, 0, offOf b.1⟩ : CastRec))
    ⟨bad.map (fun b => repEntry e 0x011F b.1 0x21 b.2 1 0 (offOf b.1)),
     some (l.filter (fun x => !(x.fid = 0x011F && bad.any (fun b => b.1 = x.index))) ++ fix,
       v.each bad (fun b t => t.put (TRB_SHD.EN n b.1) 0))⟩

/-- The channel of a section is busy with a resize or a tributary commit (R417). -/
def State.castBusy (s : State) (n : Nat) : Bool := s.rszRunning n || s.cmtRunning n

/-- The layout of entry i against the entries before it (R401, R402). -/
def entryBad (before : List SectEntry) (e : SectEntry) : Bool :=
  e.ty < 1 || 8 < e.ty || (if 2 ≤ e.ty && e.ty ≤ 4 then 3 else 0) < e.idx || e.off % 4 ≠ 0 || e.len % 4 ≠ 0
    || before.any (fun b => b.off < e.off + e.len && e.off < b.off + b.len)
    || (match before.getLast? with
      | some b => !(b.ty < e.ty || (b.ty = e.ty && b.idx < e.idx))
      | none => false)

/-- One section: CRC, layout, busy channel, records, and its own checks. -/
def checkSection (base : State) (m : List Byte) (before : List SectEntry) (e : SectEntry) (v : State) : SectOut :=
  let recast := imgRecast m
  if e.crc ≠ imgCrc m e.off e.len then .no e [] 0x30 0
  else if entryBad before e then .no e [] 0x31 0
  else match readRecords m (e.off + e.len) (e.len / 8) e.off with
    | none => .no e [] 0x31 0
    | some l =>
      if recast && (match sectChan e.ty e.idx with
        | some n => base.castBusy n
        | none => false) then .no e [] 0x34 0
      else
        let j := judgeAll e (base.judge recast (imgAuth m) e) l
        let recs := j.2.map (·.1)
        let v1 := v.each recs (fun c t => t.putRec c)
        let out := if e.ty = 2 then checkChannel base recast e j.2 v1
          else if e.ty = 3 then checkHost e recs v1
          else if e.ty = 4 then checkTrib recast e recs v1
          else ⟨[], some (recs, v1)⟩
        { out with entries := j.1 ++ out.entries }

/-- Stage 2: all sections in table order.  A refused section leaves the trial state as it was. -/
def checkSections (base : State) (m : List Byte) : List SectEntry → List SectEntry → State →
    List RepEntry × Bool × List (Nat × Nat) × List CastRec
  | _, [], _ => ([], false, [], [])
  | before, e :: l, v =>
    let o := checkSection base m before e v
    match o.taken with
    | none =>
      let r := checkSections base m (before ++ [e]) l v
      (o.entries ++ r.1, true, r.2.2.1, r.2.2.2)
    | some (recs, v1) =>
      let r := checkSections base m (before ++ [e]) l v1
      (o.entries ++ r.1, r.2.1, (e.ty, e.idx) :: r.2.2.1, recs ++ r.2.2.2)

/-! ## Elements (R416) -/

/-- Records that form one element: those of one table entry, one profile or one LINK instance. -/
def CastRec.joins (a b : CastRec) : Bool :=
  a.sect = b.sect && a.sindex = b.sindex && a.fid / 256 = b.fid / 256 && a.index = b.index
    && ((a.sect = 3 && (a.fid / 256 = 0x10 || a.fid / 256 = 0x11)) || a.sect = 4
      || (a.sect = 2 && (a.fid / 256 = 0x41 || a.fid / 256 = 0x42)))

/-- A record joins the element of the first of its kind, or stands alone at the end. -/
def addRec (c : CastRec) : List (List CastRec) → List (List CastRec)
  | [] => [[c]]
  | g :: l => if g.any (fun x => x.joins c) then (g ++ [c]) :: l else g :: addRec c l

def elements (l : List CastRec) : List (List CastRec) := l.foldl (fun acc c => addRec c acc) []

/-! ## What a full casting resets (R402) -/

/-- A word that a group of Table 18.5 names, or a cell of a casting-only field. -/
def castable (a : Nat) : Bool :=
  castGroups.any (fun g => (List.range (if g.per = 0 then 1 else 4)).any (fun k =>
    let b := g.base + g.per * k
    b ≤ a && a < b + g.stride * g.count && (a - b) % g.stride < 4 * g.words))
    || (0x30700 ≤ a && a < 0x30800) || [0, 1, 2, 3, 4].any (fun b => a = pmcBase b)
    || (0x10300000 ≤ a && a < 0x10350000) || ((castRaw 0 0x40 0 0).addr ≤ a && a < (castRaw 4 0x40 0 0).addr)

/-- Whether the field stored under a key is one that a casting may set. -/
def castableKey (k : Nat) : Bool :=
  let a := k / 32 * 4
  let a1 := if 0x30000000 ≤ a && a < 0x40000000 then a - 0x30000000 else a
  castable a1 && (!((specsAt a1).any (fun f => f.fld.lo = k % 32 && f.acc ≠ .rw && f.acc ≠ .rwl)))

/-- Every field that a casting may name returns to its reset value. -/
def State.castReset (s : State) : State :=
  { s with regs := s.regs.filter (fun p => !castableKey p.1), pmcOn := [] }

/-! ## The check of an image -/

/-- What the engine found: the image's own reason (0 none) and the plan. -/
def State.castCheck (s : State) (m : List Byte) : Nat × CastPlan :=
  let img := m.take (imgLength m)
  let reason := s.imageReason m
  let blank : CastPlan := ⟨imgRecast m, imgAuth m, imgMaquette m, imgLength m, imgLe m 0x18 8, sha256 img, [], false, [], [], []⟩
  if reason ≠ 0 then
    (reason, { blank with entries := [⟨0xFF, 0, 0xFFFF, 0, reason, 0, 0, 0, 0⟩], refused := true })
  else
    let r := checkSections s img [] (sectTable img) (if imgRecast m then s else s.castReset)
    (0, { blank with entries := r.1, refused := r.2.1, sections := r.2.2.1, elems := elements r.2.2.2 })

end Sys2Proof.Machine
end

