-- ==== Sys2Proof/Machine/Casting.lean ====
section
/-! DEFINITION. Submission, apply and storage of castings: chapter 18 of spec/ (R415 to R420). -/

namespace Sys2Proof.Machine

namespace Cst
def idle : Nat := 0
def fetch : Nat := 1
def check : Nat := 2
def vote : Nat := 3
def apply : Nat := 4
def paused : Nat := 5
def done : Nat := 6
def refused : Nat := 7
def abandoned : Nat := 8
def storing : Nat := 9
end Cst

/-- STATE of the casting engine. -/
def State.cst (s : State) : Nat := s.rd CST_STAT.STATE

/-! ## How an image ends -/

/-- An image-level entry. -/
def imageEntry (reason : Nat) : RepEntry := ⟨0xFF, 0, 0xFFFF, 0, reason, 0, 0, 0, 0⟩

/-- What a report says of the image itself: what its check found, or what its bytes say; a free value where no byte of it was read
(DESIGN CHOICE, log entry 43). -/
def State.castImage (s : State) : CastPlan × State :=
  let m := s.image
  if !s.plan.digest.isEmpty then (s.plan, s)
  else if !m.isEmpty then
    ({ s.plan with recast := imgRecast m, length := imgLength m, id := imgLe m 0x18 8, digest := sha256 (m.take (imgLength m)) }, s)
  else
    let k := s.draw.1
    ({ s.plan with recast := k % 2 = 1, length := k / 2 % 2 ^ 32, id := k / 2 ^ 33 % 2 ^ 64, digest := leBytes 32 (k / 2 ^ 97) }, s.draw.2)

/-- The report of the plan in hand, with more entries. -/
def State.castReport (result : Nat) (more : List RepEntry) (refused : Bool) (s : State) : State :=
  let p := s.castImage.1
  s.castImage.2.writeReport result (if p.recast then 1 else 0) p.length p.id p.digest (p.entries ++ more) refused

/-- Engine at rest in a STATE. -/
def State.castRest (st : Nat) (s : State) : State :=
  { s with image := [], plan := CastPlan.none }.put CST_STAT.STATE st |>.put CST_STAT.PAUSE 0 |>.put CSTC.OP 0
    |>.put CSTC.AUTH 0 |>.put CSTC.BOOT 0 |>.dmaGot 5

/-- A refused image (Table 18.9 steps 3a and 4a, R398).  A refused stored casting leaves the device waiting in CAST (Table
20.5 step 9a). -/
def State.castRefuse (more : List RepEntry) (s : State) : State :=
  s.castReport 3 more true |>.bump CST_CNT.REFUSED |>.when (s.on CSTC.BOOT) (·.put DEV_BOOT_STAT.HOLD 4)
    |>.castRest Cst.refused

/-- Channels whose sections the plan touches. -/
def State.castTouched (s : State) : List Nat :=
  if s.plan.recast then channels.filter (fun n => s.plan.sections.any (fun x => sectChan x.1 x.2 = some n)) else channels

/-- The channels are in a mixed state (R57, Table 2.4 bit 0). -/
def State.castMixed (s : State) : State := s.each s.castTouched (fun n t => (t.breach n 0).putBit FABC.MIXED n true)

/-- The image ends ABANDONED (R417, R418): what was applied remains. -/
def State.castAbandon (s : State) : State :=
  let st := s.cst
  let begun := (st = Cst.apply || st = Cst.paused) && 0 < s.rd CST_PROG.NEXT
  s.withdraw .casting |>.when begun State.castMixed |>.when (begun && s.plan.recast) (·.put CST_INFO.MIXED 1)
    |>.castReport 4 [imageEntry 0x49] s.plan.refused |>.bump CST_CNT.REFUSED
    |>.when (s.on CSTC.BOOT) (·.put DEV_BOOT_STAT.HOLD 4) |>.castRest Cst.abandoned

/-- An image is in the engine and elements of step 5 remain: what R417 may still end. -/
def State.castOpen (s : State) : Bool :=
  s.cst = Cst.fetch || s.cst = Cst.check || s.cst = Cst.vote
    || ((s.cst = Cst.apply || s.cst = Cst.paused) && !s.plan.elems.isEmpty)

/-- ABORT, PWR_WARN_N, TAMPER_N, ZEROISE_N and LOCKDOWN. -/
def State.castAbort (s : State) : State := s.when s.castOpen State.castAbandon

/-- LOCKDOWN also stops step 7 of a full casting; a recast past its elements completes. -/
def State.castLockdown (s : State) : State :=
  if s.castOpen || (s.cst = Cst.apply && !s.plan.recast) then s.castAbandon else s

/-! ## CST_CMD -/

/-- GO is accepted at rest only (Table 18.9 step 1). -/
def State.castFree (s : State) : Bool := s.cst = 0 || s.cst = Cst.done || s.cst = Cst.refused || s.cst = Cst.abandoned

/-- The device is in none of the modes in which images are accepted, or the engine is faulted (R398). -/
def State.castShut (s : State) : Bool := !(s.mode = Mode.cast || s.operating) || s.on CST_STAT.FAULT

/-- GO accepted. -/
def State.castGo (op src : Nat) (s : State) : State :=
  if op = 3 then s.put CSTC.OP 3 |>.put CST_STAT.STATE Cst.storing
  else if s.castShut then ({ s with plan := CastPlan.none }).castRefuse [imageEntry 0x48]
  else { s with plan := CastPlan.none, image := [] }.put CSTC.OP op |>.put CSTC.SRC src |>.put CST_STAT.STATE Cst.fetch
    |>.put CST_STAT.PAUSE 0 |>.put CST_PROG.NEXT 0 |>.put CST_TOTAL.TOTAL 0
    |>.when (src = 0) (fun t => t.dmaNeed 5 (t.rd CST_LEN.LEN))

/-- PAUSE 0x1 at the element boundary where the engine stands; nothing once the last element is applied (R417). -/
def State.castPause (s : State) : State :=
  s.when ((s.cst = Cst.apply || s.cst = Cst.paused) && !s.plan.elems.isEmpty) (fun t =>
    (t.put CST_STAT.STATE Cst.paused |>.put CST_STAT.PAUSE 1).when t.plan.recast State.castMixed)

/-- The apply goes on, and the channels are no longer mixed unless an abandoned recast left them so. -/
def State.castGoOn (s : State) : State :=
  (s.put CST_STAT.STATE Cst.apply |>.put CST_STAT.PAUSE 0).when (!s.on CST_INFO.MIXED) (·.put FABC.MIXED 0)

def State.castResume (s : State) : State := s.when (s.cst = Cst.paused && s.rd CST_STAT.PAUSE = 1) State.castGoOn

/-- CST_CMD: OP of GO among its codes, and GO at rest. -/
def castHook (value : Nat) : Hook :=
  let op := CST_CMD.OP.of value
  let go := CST_CMD.GO.of value = 1
  ⟨fun s f _ => if f = CST_CMD.GO && go && !s.castFree then 6 else if f = CST_CMD.OP && go && !(1 ≤ op && op ≤ 3) then 4 else 0,
   fun l s =>
    (s.when (wroteOne l CST_CMD.ABORT) State.castAbort |>.when (wroteOne l CST_CMD.PAUSE) State.castPause
      |>.when (wroteOne l CST_CMD.RESUME) State.castResume
      |>.when (wroteOne l CST_CMD.GO && 1 ≤ op && op ≤ 3) (·.castGo op (CST_CMD.SRC.of value)), 0)⟩

def execCastingSubmit (win : Fin 7) (value : Word) (be : Fin 16) (s : State) : Answer := .next (s.hostWrite ⟨win, 0x80000, value.toNat, be⟩ (castHook value.toNat))

def execCastingStore (win : Fin 7) (value : Word) (be : Fin 16) (s : State) : Answer := .next (s.hostWrite ⟨win, 0x80000, value.toNat, be⟩ (castHook value.toNat))

def execCastingEraseStore (win : Fin 7) (value : Word) (be : Fin 16) (s : State) : Answer :=
  .next (s.hostWrite ⟨win, 0x80000, value.toNat, be⟩ (castHook value.toNat))

def execCastingPause (win : Fin 7) (value : Word) (be : Fin 16) (s : State) : Answer := .next (s.hostWrite ⟨win, 0x80000, value.toNat, be⟩ (castHook value.toNat))

def execCastingResume (win : Fin 7) (value : Word) (be : Fin 16) (s : State) : Answer := .next (s.hostWrite ⟨win, 0x80000, value.toNat, be⟩ (castHook value.toNat))

def execCastingAbort (win : Fin 7) (value : Word) (be : Fin 16) (s : State) : Answer := .next (s.hostWrite ⟨win, 0x80000, value.toNat, be⟩ (castHook value.toNat))

/-! ## Fetch and check (Table 18.9 steps 2 to 4a) -/

/-- Bytes of the staging buffer, as many as the header it holds names. -/
def State.staged (s : State) : List Byte :=
  let n := Nat.min 1048576 (s.rd (tableWord 0x8E0000C))
  ((List.range ((n + 3) / 4)).flatMap (fun w => leBytes 4 (s.rd (tableWord (0x8E00000 + 4 * w))))).take n

/-- The image is in the engine: CHECK. -/
def State.castFetched (m : List Byte) (s : State) : State := ({ s with image := m }.put CST_STAT.STATE Cst.check).dmaGot 5

/-- A fetch ends: `bytes` is what device DMA delivered, none where it failed; the staging buffer needs none. -/
def execCastingFetchComplete (bytes : Option (List Byte)) (s : State) : Answer :=
  .next <| s.when (s.cst = Cst.fetch) (fun t =>
    if t.on CSTC.SRC then t.castFetched t.staged
    else match bytes with
      | some m => if t.portSends then t.castFetched (m.take (t.rd CST_LEN.LEN)) else t.castRefuse [imageEntry 0x43]
      | none => t.castRefuse [imageEntry 0x43])

/-- The check ends: a store write, a refusal, a maquette's report, or the vote. -/
def State.castChecked (s : State) : State :=
  if s.rd CSTC.OP = 2 then
    let r := s.imageReason s.image
    if r = 0 then s.put CST_STAT.STATE Cst.storing
    else { s with plan := { (s.castCheck s.image).2 with entries := [imageEntry r], refused := true } }.castRefuse []
  else
    let c := s.castCheck s.image
    let s1 := { s with plan := c.2 }
    if c.1 ≠ 0 || (!c.2.recast && c.2.refused) then s1.castRefuse []
    else if c.2.maquette then (s1.castReport 2 [] c.2.refused).castRest Cst.done
    else if s.voteDead then s1.castRefuse [imageEntry 0x47]
    else (s1.put CST_STAT.STATE Cst.vote |>.when (s.mode = Mode.cast) (·.put DEV_BOOT_STAT.STEP 0xA)).request .casting

def execCastingCheckComplete (s : State) : Answer := .next (s.when (s.cst = Cst.check) State.castChecked)

/-- Step 4a: not approved. -/
def State.castVoteRefused (s : State) : State := s.when (s.cst = Cst.vote) (·.castRefuse [imageEntry 0x47])

/-- Step 4 approved: the elements follow; a full casting starts from reset values (R402). -/
def State.castApproved (s : State) : State :=
  s.when (s.cst = Cst.vote) (fun t =>
    (t.when (!t.plan.recast) State.castReset).put CST_STAT.STATE Cst.apply |>.put CST_STAT.PAUSE 0 |>.put CST_PROG.NEXT 0
      |>.put CST_TOTAL.TOTAL t.plan.elems.length)

/-! ## Elements (R411, R416) -/

/-- FEC_EN and PIPE_EN set the active engines and pipelines; a fenced unit stays fenced (R411). -/
def State.castUnits (n : Nat) (s : State) : State :=
  let en := s.rawNat n 0x40 0 0 0xFFFFFF
  let on (e : Nat) : Bool := bit en e = 1 && !s.rdBit (FEC_ENG_FNC.FENCED n) e
  s.put (FEC_ENG_ACT.ACTIVE n) (ofBits ((List.range 24).map on))
    |>.each ((List.range 24).filter (fun e => !s.rdBit (FEC_ENG_FNC.FENCED n) e)) (fun e t =>
        t.put (FEC_ENG_STAT.STATE n e) (if on e then 0 else 1))
    |>.put (SEC_PIPE.ACTIVE n) (s.pipesOf n) |>.rebudget n

/-- Profile p as its fields give it, on the tiles that are not fenced now; one in use is loaded (R76, R411). -/
def State.castProfile (n p : Nat) (s : State) : State :=
  match s.buildProfile n p with
  | some (.ok pr, _) =>
    (s.setProfile n p (some pr)).showProfile n p pr |>.putBit (LDS_LMODE_STAT.DEFINED n) p true
      |>.when (s.rd (LDS_LMODE.PROFILE n) = p) (fun t => (t.takeFramed n (LDS_LMODE.PROFILE n) p).loadRx n p)
  | _ => (s.setProfile n p none).clear [LDS_PROF_P.MODE n p, LDS_PROF_P.TILES n p, LDS_PROF_P.TSLOTS n p,
      LDS_PROF_RATE_P.CODE n p, LDS_PROF_RATE_P.HX100 n p, LDS_PROF_RATE_P.RS n p, LDS_PROF_P.REACH n p]
      |>.putBit (LDS_LMODE_STAT.DEFINED n) p false

/-- The initial profile is loaded: PROFILE takes it. -/
def State.castInit (n : Nat) (s : State) : State :=
  let p := s.rawNat n 0x40 0 2 0
  (s.put (LDS_LMODE.PROFILE n) p |>.takeFramed n (LDS_LMODE.PROFILE n) p).loadRx n p

/-- Records of the casting-only fields.  A full casting loads what they say at step 7; a recast at once, in a DARK channel. -/
def State.applyRaw (l : List CastRec) (s : State) : State :=
  match l.head? with
  | none => s
  | some c =>
    let n := c.sindex
    let old := s.rawNat n 0x40 0 2 0
    let s1 := s.each l (fun r t => t.put r.fld r.value)
    if !s.plan.recast then s1
    else if c.fid / 256 = 0x41 then (s1.castProfile n c.index).recompute n
    else if c.fid / 256 = 0x40 then
      ((s1.castUnits n).when (s1.rawNat n 0x40 0 2 0 ≠ old) (·.castInit n)).recompute n
    else s1

/-- One word of an element: its live and static fields take effect, with what a write of them does; framed ones are held
in a recast (R416). -/
def State.applyWord (a : Nat) (l : List CastRec) (s : State) : State :=
  let hold (c : CastRec) : Bool := s.plan.recast && c.framed
  let s1 := s.each l (fun c t => t.put c.fld c.value)
  let s2 := s1.each (l.filter (fun c => c.framed && !hold c)) (fun c t => t.takeFramed (chanOf a) c.fld c.value)
  let held := (l.filter hold).map (fun c => (chanOf a, c.fld, c.value))
  let s3 := { s2 with plan := { s2.plan with framed := s2.plan.framed ++ held } }
  let now := (l.filter (fun c => !hold c)).map (fun c => (c.fld, c.value))
  if now.isEmpty then s3
  else if 0x8700000 ≤ a && a < 0x8740000 && a % 0x10000 ≥ 0x1000 && s.mode = Mode.cast then
    (s3.hstRates ((a - 0x8700000) / 0x10000)).hstRefresh ((a - 0x8700000) / 0x10000)
  else ((blockHook 0 a (s1.readWord a) s).act now s3).1

/-- One element, whole. -/
def State.applyElem (l : List CastRec) (s : State) : State :=
  match l.head? with
  | none => s
  | some c =>
    if c.sect = 7 && c.fid / 256 = 2 then s.put CSTC.AUTH (c.value + 1)
    else if c.sect = 2 && 0x40 ≤ c.fid / 256 then s.applyRaw l
    else if c.sect = 5 && c.fid / 256 = 3 then s.putRec c
    else if c.sect = 6 && c.fid / 256 = 2 then (s.putRec c).pmcTrack (c.index / 512) (c.index % 512)
    else s.each (uniq (l.map (·.addr))) (fun a t => t.applyWord a (l.filter (fun r => r.addr = a)))

/-- Step 8: the report, the digest and the identity of the casting in force. -/
def State.castFinish (s : State) : State :=
  let p := s.plan
  let auth := s.rd CSTC.AUTH
  s.castReport 1 [] p.refused
    |>.each (List.range 8) (fun w t => t.put (CST_DIGEST.D w) (ofBytes ((p.digest.drop (4 * w)).take 4)))
    |>.put CSTC.LENGTH p.length |>.put CSTC.ID p.id |>.flag CST_INFO.LAST_AUTH p.auth
    |>.when (p.auth && auth ≠ 0) (·.put CST_INFO.AUTH_REQ (auth - 1))
    |>.put CST_INFO.MIXED 0 |>.put FABC.MIXED 0 |>.bump CST_CNT.APPLIED |>.castRest Cst.done

/-- A recast is complete when every element is applied and no framed field waits. -/
def State.castCheckEnd (s : State) : State :=
  s.when (s.cst = Cst.apply && s.plan.recast && s.plan.elems.isEmpty && channels.all (fun n => !s.on (CSTC.RMF n))) State.castFinish

/-- Step 6 for channel n: its framed values go to its next boundary, or take effect at once; a later write of the same
field stands (R416). -/
def State.castCommitCh (l : List (Nat × Field × Nat)) (n : Nat) (s : State) : State :=
  let mine : List (Field × Nat) := (l.filter (fun x => x.1 = n)).map (fun x => (x.2.1, s.rd x.2.1))
  if mine.isEmpty then s
  else if s.framedWaits n then
    (s.onChan n (fun c => { c with framed := c.framed ++ mine })).put (LDS_TX_STAT.PEND n) 1 |>.put (CSTC.RMF n) 1
  else s.each mine (fun x u => u.takeFramed n x.1 x.2)

def State.castCommit (s : State) : State :=
  ({ s with plan := { s.plan with framed := [] } }).each channels (fun n t => t.castCommitCh s.plan.framed n)

/-- The next element's channel is busy with a resize or a commit (R417). -/
def State.castNextBusy (s : State) : Bool :=
  match s.plan.elems with
  | (c :: _) :: _ => s.plan.recast && (match sectChan c.sect c.sindex with
    | some n => s.castBusy n
    | none => false)
  | _ => false

/-- The next element is reached. -/
def State.castElement (s : State) : State :=
  match s.plan.elems with
  | [] => s.castCheckEnd
  | e :: rest =>
    if s.castNextBusy then (s.put CST_STAT.STATE Cst.paused |>.put CST_STAT.PAUSE 2).castMixed
    else
      let s1 := (if s.cst = Cst.paused then s.castGoOn else s).applyElem e
      let s2 := { s1 with plan := { s1.plan with elems := rest } }.addWrap CST_PROG.NEXT 1
      if rest.isEmpty && s.plan.recast then s2.castCommit.castCheckEnd
      else s2.when rest.isEmpty (·.put DEV_BOOT_STAT.STEP 0xB)

/-- The engine reaches an element boundary, and a pause for a busy channel ends by itself. -/
def execCastingApplyElement (s : State) : Answer :=
  .next <| s.when (s.cst = Cst.apply || (s.cst = Cst.paused && s.rd CST_STAT.PAUSE = 2)) State.castElement

/-! ## Loading a full casting (Table 18.9 step 7) -/

/-- The calibration set in force of a scope goes into use. -/
def State.loadSet (sc : Nat) (s : State) : State :=
  s.when (s.on (CAL_SSTAT_S.INFORCE sc)) (fun t =>
    t.each (List.range (totalOf sc)) (fun e u => u.takeElement sc e u.sets (setBase sc)))

/-- A channel of a full casting: units, profiles, the initial profile, its host ports, and its station identifier. -/
def State.loadChannel (n : Nat) (s : State) : State :=
  (s.castUnits n).each [0, 1, 2, 3] (fun p t => t.castProfile n p) |>.castInit n |>.recompute n |>.hstRates n |>.hstRefresh n
    |>.when (s.rd (ISC_STATION.ID n) = 0) (·.put (ISC_STATION.ID n) (s.rd DEV_SERIAL_LO.SN * 4 + n))

/-- READY: the locks of R12 close, and with BOOT_FULL the first entry calibrates each channel (R338). -/
def State.enterReady (s : State) : State :=
  ((s.setMode Mode.ready).put MGTC.LOCKED 1 |>.put DEV_BOOT_STAT.STEP 0xF |>.put DEV_BOOT_STAT.HOLD 0
      |>.when (s.on CSTC.BOOT) (·.put DEV_BOOT_STAT.CAST_STORED 1)
      |>.when (s.on CAL_POLICY.BOOT_FULL) (·.put CALC.WAIT_FULL 0xF))
    |>.each (channels.filter (fun n => s.rd (LDS_CH_STATE.MAXMODE n) = 0 && s.chSt n ≠ ChSt.fenced)) (fun n t => t.fenceChannel n)
    |>.evalMode

def State.castLoaded (s : State) : State :=
  (s.each channels (fun n t => t.loadChannel n)).each [0, 1, 2, 3, 4] (fun sc t => t.loadSet sc) |>.enterReady |>.castFinish

def execCastingLoadComplete (s : State) : Answer :=
  .next <| s.when (s.cst = Cst.apply && !s.plan.recast && s.plan.elems.isEmpty && s.mode = Mode.cast) State.castLoaded

/-! ## Boot casting region (R419) -/

/-- A store write ends: the region holds the image, or nothing after ERASE_STORE. -/
def State.castStored (s : State) : State :=
  let m := if s.rd CSTC.OP = 3 then [] else s.image.take (imgLength s.image)
  { s with bootImage := m }.flag CST_INFO.STORE_VALID (!m.isEmpty) |>.put CST_INFO.STORE_LEN m.length
    |>.put CST_STAT.STORE_EV 1 |>.castRest Cst.done

def execCastingStoreComplete (s : State) : Answer := .next (s.when (s.cst = Cst.storing) State.castStored)

/-- A store write cut off leaves no valid image. -/
def State.castStoreCut (s : State) : State :=
  s.when (s.cst = Cst.storing) (fun t => { t with bootImage := [] }.put CST_INFO.STORE_VALID 0 |>.put CST_INFO.STORE_LEN 0)

/-- R418: FAULT, source 114, and the image in progress is abandoned.  A store write that it cuts leaves no valid image. -/
def State.castFault (s : State) : State :=
  let t1 := s.put CST_STAT.FAULT 1 |>.put CST_STAT.FAULT_EV 1 |>.raise 114 |>.castStoreCut
  t1.when (!t1.castFree) State.castAbandon

def execCastingEngineFault (s : State) : Answer := .next (s.when s.answers State.castFault)

end Sys2Proof.Machine
end

