-- ==== Sys2Proof/Machine/Lockdown.lean ====
section
/-! DEFINITION. LOCKDOWN: tamper, zeroise and root erase, chapter 12 of spec/ (R298, R299, Tables 12.9 and 12.10). -/

namespace Sys2Proof.Machine

/-! ## Table 12.9 -/

/-- Step 3: every tenant slot and KEK is EMPTY, and ZERO_EV sets. -/
def State.zeroise (s : State) : State :=
  s.each (s.listed (KEY_SLOT.STATE 0) 8 8192 ++ s.listed (KEYC.KEY 0) 4 8192) (fun g t => t.eraseSlot g)
    |>.each (List.range 64) (fun j t => t.eraseKek j)
    |>.clear [KEY_KEK.CASTING 63] |>.clearData |>.put KEY_STAT.ZERO_EV 1

/-- Step 4: the root key is erased, and with it AUTH_REQ (R408). -/
def State.eraseRoot (s : State) : State :=
  s.clear [KEYC.ROOT, KEYC.ROOTST, KEY_STAT.ROOT, CST_INFO.AUTH_REQ, KEY_ROOT_CMD.ARMED]

/-- A calibration run that has not reached its store write ends, for the device mode. -/
def State.calLockdown (s : State) : State :=
  s.when (1 ≤ s.rd CAL_RUN_STAT.STATE && s.rd CAL_RUN_STAT.STATE ≤ 3) (·.calFail 0xC)

/-- Steps 2 and 5: DEV_MODE, every laser cut, the datapath flushed uncounted, and whatever was in progress ended. -/
def State.enterLockdown (s : State) : State :=
  ((s.setMode Mode.lockdown).when (s.mode = Mode.cast) (·.put MGTC.LOCKED 1)).put KEY_STAT.LOCKDOWN 1
    |>.each channels (fun n t => (t.onFlow n Flow.lose).breach n 3)
    |>.castLockdown |>.each channels (fun n t => t.cut n 0xC) |>.castCheckEnd
    |>.when s.bulkBusy (·.bulkFault 0xB) |>.calLockdown |>.withdraw .rootKey

/-- The reaction to a trigger: `cause` is that of the plinth record, `root` whether the root key goes (R298). -/
def State.lockdown (cause : Nat) (root : Bool) (s : State) : State :=
  let s0 := s.plinthRecord cause
  if s.mode = Mode.keep then s0.when root State.eraseRoot
  else
    ((if s.mode = Mode.reset then s0 else s0.enterLockdown).when root State.eraseRoot).zeroise

/-! ## Triggers -/

/-- KEY_ZEROISE takes GO with CODE 0xC3 and nothing else. -/
def zeroiseHook (value : Nat) : Hook :=
  let ok := KEY_ZEROISE.GO.of value = 1 && KEY_ZEROISE.CODE.of value = 0xC3
  ⟨fun _ f _ => if f = KEY_ZEROISE.GO && !ok then 4 else 0,
   fun l s => (s.when (wroteOne l KEY_ZEROISE.GO && ok) (·.lockdown 3 false), 0)⟩

def execZeroiseCommand (win : Fin 7) (value : Word) (be : Fin 16) (s : State) : Answer :=
  .next (s.hostWrite ⟨win, 0x5000060, value.toNat, be⟩ (zeroiseHook value.toNat))

/-- TAMPER_N goes active, in any device mode, or inactive. -/
def execTamperInput (active : Bool) (s : State) : Answer :=
  .next <| ((s.flag PIN.TAMPER active).flag KEY_STAT.TAMPER_PIN active).when (active && !s.on PIN.TAMPER) (·.lockdown 1 true)

/-- ZEROISE_N goes active, with the main rails up, or inactive. -/
def execZeroiseInput (active : Bool) (s : State) : Answer :=
  .next <| ((s.flag PIN.ZEROISE active).flag KEY_STAT.ZEROISE_PIN active).when
    (active && !s.on PIN.ZEROISE && s.mode ≠ Mode.keep) (·.lockdown 2 false)

/-- VIO is in range. -/
def State.vioOk (s : State) : Bool := !s.rdBit PWRC.OUT 2

/-- The root key is lost (R299). -/
def State.rootLost (s : State) : State := s.put KEYC.ROOT 0 |>.put KEYC.ROOTST 2 |>.put KEY_STAT.ROOT 2

/-- VKEEP below 2.0 V for 1 ms with VIO out of range; `written`: the plinth can still write its record. -/
def execVkeepLow (written : Bool) (s : State) : Answer :=
  .next <| s.when (!s.vioOk) (fun t => (t.when written (·.plinthRecord 6)).rootLost)

/-! ## Root commands approved (R298) -/

/-- The vote on a root command approves: PROVISION, ERASE_ARM, or ERASE_CONFIRM with a live arm. -/
def State.rootApproved (s : State) : State :=
  let op := s.rd KEYC.ROOTOP
  if op = 1 then s.provision
  else if op = 2 then (s.clearData).put KEY_ROOT_CMD.ARMED 1
  else if op = 3 then
    if s.on KEY_ROOT_CMD.ARMED then (s.put KEY_ROOT_CMD.ARMED 0).lockdown 4 true else s.rootRefused 3
  else s

end Sys2Proof.Machine
end

