-- ==== Sys2Proof/Machine/Votes.lean ====
section
/-! DEFINITION. The arbiter's votes, failures of supervisors, and the mailbox's completions: chapter 15 of spec/ (R341 to
R352, R359, R360). -/

namespace Sys2Proof.Machine

/-! ## Completions of mailbox commands (R358 to R360) -/

/-! Status codes (Table 15.11). -/
namespace Mbx
def ok : Nat := 0x00
def unknownOp : Nat := 0x01
def badLen : Nat := 0x02
def privilege : Nat := 0x03
def tagBusy : Nat := 0x04
def staleGen : Nat := 0x05
def badArg : Nat := 0x06
def badState : Nat := 0x07
def voteRefused : Nat := 0x08
def noVote : Nat := 0x09
def retestFailed : Nat := 0x0A
def dmaError : Nat := 0x0B
def authFailed : Nat := 0x0C
def busy : Nat := 0x0D
def aborted : Nat := 0x0E
end Mbx

/-- A response entry is written, and RSP_PI advances. -/
def State.mbxPost (status tag gen : Nat) (l : List Nat) (s : State) : State :=
  let p := s.rd SUP_MBX_RSP_PI.PI
  s.putWords (0x22000 + 64 * p) ((status * 2 ^ 24 + tag * 2 ^ 16 + gen * 2 ^ 8 + l.length) :: (l ++ List.replicate (15 - l.length) 0))
    |>.put SUP_MBX_RSP_PI.PI (p + 1) |>.put SUP_MBX_STAT.RSP_EV 1 |>.raise 35

/-- The accepted command of a tag. -/
def State.mbxCmd (s : State) (tag : Nat) : Option MbxCmd := s.mbx.find? (fun c => c.tag = tag)

/-- A tag leaves the map. -/
def State.mbxDrop (tag : Nat) (s : State) : State :=
  let l := s.mbx.filter (fun c => c.tag ≠ tag)
  { s with mbx := l }.put SUP_MBX_STAT.OUTST l.length

/-- A command completes.  `gen` is the generation of the supervisor that posts: one that differs from SUP_MBX_GEN is
discarded (R359). -/
def State.mbxDone (c : MbxCmd) (gen status : Nat) (l : List Nat) (s : State) : State :=
  let s1 := s.mbxDrop c.tag
  if gen = s.rd SUP_MBX_GEN.GEN then s1.mbxPost status c.tag c.gen l
  else s1.bump SUP_MBX_CNT.STALE |>.put SUP_MBX_STAT.STALE_EV 1

/-- The leader completes the command of a tag. -/
def State.mbxEnd (tag status : Nat) (l : List Nat) (s : State) : State :=
  match s.mbxCmd tag with
  | some c => s.mbxDone c (s.rd SUP_MBX_GEN.GEN) status l
  | none => s

/-- The command of a tag waits at a stage. -/
def State.mbxStage (tag k : Nat) (s : State) : State :=
  { s with mbx := s.mbx.map (fun c => if c.tag = tag then { c with stage := k } else c) }

/-- Every accepted command completes ABORTED, by the mailbox hardware (R360). -/
def State.mbxAbort (s : State) : State :=
  (s.each s.mbx (fun c t => (t.mbxDrop c.tag).mbxPost Mbx.aborted c.tag c.gen []))
    |>.put SUP_MBX_STAT.LOST s.mbx.length |>.when (!s.mbx.isEmpty) (·.put SUP_MBX_STAT.ABORT_EV 1)
    |>.addSat SUP_MBX_CNT.ABORTED s.mbx.length

/-- SUP_MBX_GEN increments, 0x00 skipped (R359). -/
def State.nextGen (s : State) : State :=
  let g := (s.rd SUP_MBX_GEN.GEN + 1) % 256
  s.put SUP_MBX_GEN.GEN (if g = 0 then 1 else g)

/-! ## Outcomes of votes (R343 to R345) -/

/-- SVN of a slot. -/
def State.fwSlot (s : State) (k : Nat) : Option FwSlot := (s.fw[k]?).join

/-- FW_ACTIVATE approved: the next slot, and with LOCK_SVN the fuses rise to the image's SVN (R356). -/
def State.fwActivated (tag : Nat) (s : State) : State :=
  match s.mbxCmd tag with
  | none => s
  | some c =>
    let w := c.words.getD 0 0
    let svn := ((s.fwSlot (w % 2)).map (·.svn)).getD 0
    (s.put SUP_FW_STAT.NEXT_SLOT (w % 2)).when (bit w 8 = 1) (·.put SUP_FW_STAT.SVN_MIN (Nat.max (s.rd SUP_FW_STAT.SVN_MIN) svn))
      |>.mbxEnd tag Mbx.ok []

/-- An approved action takes effect in hardware. -/
def State.approve (v : Vote) (s : State) : State :=
  match v with
  | .laser n => s.laserApproved n
  | .resizeArm n => s.resizeApproved n
  | .tribCommit n => s.commitApproved n
  | .loopback n => s.loopbackApproved n
  | .casting => s.castApproved
  | .calApply => s.calApproved
  | .rolloverArm n => s.rollArmed n
  | .rootKey => s.rootApproved
  | .fenceClear tag => s.mbxStage tag 2
  | .fwActivate tag => s.fwActivated tag
  | .checkpoint => s
  | .void _ => s

/-- Why a vote ends refused. -/
inductive Lost where
  /-- the arbiter refused it -/
  | refused
  /-- a failover began, or the complex was reset (R345) -/
  | failover
  /-- commits froze -/
  | frozen
  deriving DecidableEq, Repr

/-- A refused action has no effect, and its rule reports its own cause.  An arm continues from its mirrored state after a
failover, and meets its deadline while no vote is possible (R79, R294, Table 3.7). -/
def State.deny (v : Vote) (k : Lost) (s : State) : State :=
  match v with
  | .laser n => s.refuseEnable n 0xE
  | .resizeArm n =>
    match k with
    | .refused => s.resizeRefused n
    | .failover => s.request (.resizeArm n)
    | .frozen => s
  | .tribCommit n => s.commitRefused n
  | .loopback n => s.when (s.calFull n 1 1) (·.calFail (if k = .refused then 7 else 8))
  | .casting => s.castVoteRefused
  | .calApply => s.when (s.rd CAL_RUN_STAT.STATE = 3) (·.calFail (if k = .refused then 7 else 8))
  | .rolloverArm n =>
    match k with
    | .refused => s.rollArmRefused n
    | .failover => s.request (.rolloverArm n)
    | .frozen => s.when (s.on (SEC_ROLL_STAT.PEER n)) (·.rollArmRefused n)
  | .rootKey => s.rootVoteRefused
  | .fenceClear tag => s.mbxEnd tag Mbx.voteRefused []
  | .fwActivate tag => s.mbxEnd tag Mbx.voteRefused []
  | .checkpoint => s
  | .void _ => s

/-- The vote at the head is decided: LAST, its counts, and its effect. -/
def State.decide (yes : Bool) (k : Lost) (s : State) : State :=
  match s.votes with
  | [] => s
  | v :: l =>
    let s1 := { s with votes := l }.put SUP_ARB_STAT.VOTE_OPEN 0 |>.put SUP_ARB_STAT.LAST (if yes then 1 else 2)
      |>.put SUP_ARB_STAT.LAST_KIND v.kind
      |>.when (v.kind ≠ 15) (·.bump (if yes then SUP_VOTE_CNT.APPROVED else SUP_VOTE_CNT.REFUSED))
      |>.count 4 .sup (if yes then 0x01 else 0x02)
    if yes then s1.approve v else s1.deny v k

/-! ## Supervisors (R341, R346 to R349, R352) -/

namespace Sup
def off : Nat := 0
def boot : Nat := 1
def leader : Nat := 2
def follower : Nat := 3
def probation : Nat := 4
def failed : Nat := 5
def held : Nat := 6
end Sup

/-- State of supervisor i. -/
def State.sup (s : State) (i : Nat) : Nat := s.rd (SUPC.STATE i)

/-- Supervisors whose votes count. -/
def State.counted (s : State) : List Nat := [0, 1, 2].filter (fun i => s.sup i = Sup.leader || s.sup i = Sup.follower)

/-- A run still in MEASURE or CHECK ends with cause 0x8 (R331). -/
def State.calSupLost (s : State) : State :=
  s.when (s.rd CAL_RUN_STAT.STATE = 1 || s.rd CAL_RUN_STAT.STATE = 2) (·.calFail 8)

/-- Commits freeze: every vote is refused from here on (R352). -/
def State.freeze (cause : Nat) (s : State) : State :=
  if s.frozen then s
  else
    let s1 := s.put SUP_STAT.FROZEN 1 |>.put SUP_STAT.FREEZE_CAUSE cause |>.put SUP_STAT.FREEZE_EV 1 |>.raise 34
    s1.each s1.votes (fun _ t => t.decide false .frozen)

/-- SUP_PROB shows the run of the supervisor in PROBATION. -/
def State.showProb (s : State) : State :=
  match [0, 1, 2].find? (fun i => s.sup i = Sup.probation) with
  | some i => s.put SUP_PROB.AGREED (s.rd (SUPC.AGREED i))
  | none => s

/-- A tributary commit in VOTING ends REFUSED at a failover (Table 9.7). -/
def State.commitsLost (s : State) : State :=
  s.each channels (fun n t => t.when (t.rd (TRB_CMT_STAT.STATE n) = 2) (·.cmtRefuse n 0x8))

/-- Failover: the open vote ends refused, accepted commands are aborted, and the lowest FOLLOWER leads (R345, R347, R359,
R360). -/
def State.failover (s : State) : State :=
  let s1 := (s.when (s.on SUP_ARB_STAT.VOTE_OPEN) (·.decide false .failover)).commitsLost.calSupLost.mbxAbort.nextGen
    |>.put SUP_STAT.FAILOVER_EV 1 |>.raise 33 |>.put SUPC.DRAIN 0
  match [0, 1, 2].find? (fun i => s.sup i = Sup.follower) with
  | some i => s1.put SUP_STAT.LEADER i |>.put (SUPC.STATE i) Sup.leader |>.put SUP_MBX_STAT.SERVING 1
  | none => s1.put SUP_STAT.LEADER 3 |>.put SUP_MBX_STAT.SERVING 0

/-- A return fails: the third within 1 h leaves the supervisor HELD with cause 0x7 (R349). -/
def State.returnFailed (i : Nat) (s : State) : State :=
  let older := s.rd (SUPC.FAIL_AT i 1)
  (s.bump (SUP_FAIL_S.ATTEMPTS i) |>.put (SUPC.FAIL_AT i 1) (s.rd (SUPC.FAIL_AT i 0)) |>.put (SUPC.FAIL_AT i 0) (s.time + 1)).when
    (older ≠ 0 && s.time + 1 - older < 3600000000000) (fun t =>
      (t.put (SUPC.STATE i) Sup.held).put (SUP_FAIL_S.CAUSE i) 7)

/-- A supervisor is declared failed and held in reset (R346); a leader's failure begins a failover. -/
def State.declare (i cause : Nat) (s : State) : State :=
  let st := s.sup i
  if st = Sup.off || st = Sup.failed || st = Sup.held then s
  else
    let s1 := s.put (SUPC.STATE i) Sup.failed |>.put (SUP_FAIL_S.CAUSE i) cause |>.bump (SUP_FAIL_S.COUNT i)
      |>.put SUP_STAT.FAIL_EV 1 |>.raise 32 |>.when (s.on (SUPC.RETURN i)) (·.returnFailed i)
      |>.clear [SUPC.RETURN i, SUPC.IMG i, SUPC.AGREED i, IRQC.SEL (i + 1)] |>.setStack (i + 1) 0 |>.showProb
    let s2 := s1.when (st = Sup.leader) State.failover
    s2.when ((st = Sup.leader || st = Sup.follower) && s2.counted.length < 2) (·.freeze 2)

/-! ## Table 15.3 -/

/-- Descriptor that supervisor i submits, none where it is absent. -/
abbrev Ballots := List (Option Nat)

/-- The descriptor that two of the counted supervisors share, with the one that does not. -/
def majority (l : List (Nat × Option Nat)) : Option (Nat × Option Nat) :=
  match l with
  | [(i, a), (j, b), (k, c)] =>
    if a.isSome && a = b then some (a.getD 0, if c = a then none else some k)
    else if a.isSome && a = c then some (a.getD 0, some j)
    else if b.isSome && b = c then some (b.getD 0, some i) else none
  | _ => none

/-- A supervisor in PROBATION is compared with the winning descriptor: 64 in a row make it a FOLLOWER, and SUP0 then takes
leadership back (R348). -/
def State.probe (w : Nat) (i : Nat) (d : Option Nat) (s : State) : State :=
  if d ≠ some w then s.declare i 4
  else
    let a := s.rd (SUPC.AGREED i) + 1
    let s1 := (s.put (SUPC.AGREED i) a).showProb
    if a < 64 then s1
    else
      s1.put (SUPC.STATE i) Sup.follower |>.put (SUP_FAIL_S.ATTEMPTS i) 0
        |>.clear [SUPC.RETURN i, SUPC.FAIL_AT i 0, SUPC.FAIL_AT i 1]
        |>.when (i = 0) (fun t => (t.put SUPC.DRAIN 1).put SUPC.DRAIN_AT (t.time + 1))

/-- The open vote is decided on the descriptors. -/
def State.tally (d : Ballots) (s : State) : State :=
  let l := s.counted.map (fun i => (i, d.getD i none))
  let prob := [0, 1, 2].filter (fun i => s.sup i = Sup.probation)
  let compare (w : Nat) (t : State) : State := t.each prob (fun i u => u.probe w i (d.getD i none))
  if l.length = 3 then
    match majority l with
    | none => (s.decide false .refused).freeze 3
    | some (w, none) => compare w (s.decide true .refused)
    | some (w, some x) =>
      if s.sup x = Sup.leader then (s.decide false .refused).declare x 1 else compare w ((s.decide true .refused).declare x 1)
  else
    match l with
    | [(i, a), (j, b)] =>
      if a.isSome && a = b then compare (a.getD 0) (s.decide true .refused)
      else (s.decide false .refused).put SUPC.TESTING (2 ^ i + 2 ^ j)
    | _ => (s.decide false .refused).freeze 2

end Sys2Proof.Machine
end

