-- ==== Sys2Proof/Machine/Supervisor.lean ====
section
/-! DEFINITION. Commands of the supervisor complex: votes, failure detection, returns and the complex reset, chapter 15 of
spec/ (R341 to R356). -/

namespace Sys2Proof.Machine

/-! ## Votes (R344) -/

/-- Waiting requests in the order in which they open: a checkpoint gives way. -/
def voteOrder (l : List Vote) : List Vote := l.filter (fun v => v ≠ .checkpoint) ++ l.filter (fun v => v = .checkpoint)

/-- The oldest waiting request opens; while commits are frozen it is refused. -/
def execVoteOpen (s : State) : Answer :=
  .next <| s.when (!s.on SUP_ARB_STAT.VOTE_OPEN && !s.votes.isEmpty && s.rd SUPC.TESTING = 0) (fun t =>
    let t1 := { t with votes := voteOrder t.votes }
    if t1.frozen then t1.decide false .frozen
    else t1.when t1.firmware (·.put SUP_ARB_STAT.VOTE_OPEN 1))

/-- The open vote is decided on the descriptors that SUP0, SUP1 and SUP2 submit, none where one is absent.  After a
checkpoint, SUP0 as a FOLLOWER tries again to lead (R348). -/
def execVoteDecision (d0 d1 d2 : Option Nat) (s : State) : Answer :=
  .next <| s.when (s.on SUP_ARB_STAT.VOTE_OPEN) (fun t =>
    let check := t.votes.head? = some .checkpoint
    let t1 := t.tally [d0, d1, d2]
    t1.when (check && t1.sup 0 = Sup.follower && !t1.on SUPC.DRAIN) (fun u => (u.put SUPC.DRAIN 1).put SUPC.DRAIN_AT (u.time + 1)))

/-- Every 10 ms the leader opens a checkpoint, unless a vote is open or waits.  A hand-back that has waited 100 ms ends its
attempt. -/
def execCheckpointTimer (s : State) : Answer :=
  .next <| s.when (s.firmware) (fun t =>
    (t.when (t.on SUPC.DRAIN && 100000000 ≤ t.time + 1 - t.rd SUPC.DRAIN_AT) (·.put SUPC.DRAIN 0)).when
      (!t.on SUP_ARB_STAT.VOTE_OPEN && t.votes.isEmpty && !t.frozen) (·.request .checkpoint))

/-! ## Failures (R346, Table 15.3) -/

/-- The supervisor runs. -/
def State.supRuns (s : State) (i : Nat) : Bool := s.sup i = Sup.leader || s.sup i = Sup.follower || s.sup i = Sup.probation

def execSupervisorHeartbeat (i : Fin 3) (s : State) : Answer := .next (s.when (s.supRuns i) (·.put (SUPC.HB i) (s.time + 1)))

/-- No heartbeat for 10 ms. -/
def execSupervisorHeartbeatTimeout (i : Fin 3) (s : State) : Answer :=
  .next <| s.when (s.supRuns i && (s.rd (SUPC.HB i) = 0 || 10000000 ≤ s.time + 1 - s.rd (SUPC.HB i))) (·.declare i 2)

/-- The two supervisors that disagreed end their self-test: `good` says of each supervisor whether it passes. -/
def execSupervisorSelfTestResult (good0 good1 good2 : Bool) (s : State) : Answer :=
  let good (i : Nat) : Bool := if i = 0 then good0 else if i = 1 then good1 else good2
  .next <| s.when (s.rd SUPC.TESTING ≠ 0) (fun t =>
    let two := [0, 1, 2].filter (fun i => t.rdBit SUPC.TESTING i)
    let t1 := t.put SUPC.TESTING 0
    match two.filter (fun i => !good i) with
    | [i] => t1.declare i 3
    | _ => t1.freeze 3)

/-! ## Returns (R348, R349, R355) -/

/-- A supervisor leaves reset for its boot ROM: nothing pends for it, and all its sources are masked. -/
def State.supRelease (i : Nat) (s : State) : State :=
  s.put (SUPC.STATE i) Sup.boot |>.put (SUPC.RETURN i) 1 |>.put (SUPC.IMG i) 0 |>.put (SUPC.HB i) 0
    |>.each allSources (fun N t => t.clear [SUPC.PEND i N, SUPC.MASK i N, SUPC.ARRIVE i N]) |>.setStack (i + 1) 0

def execSupervisorRelease (i : Fin 3) (s : State) : Answer := .next (s.when (s.sup i = Sup.failed) (·.supRelease i))

/-- A slot holds a valid image (R355). -/
def State.slotValid (s : State) (k : Nat) : Bool :=
  match s.fwSlot k with
  | some w => w.good && s.rd SUP_FW_STAT.SVN_MIN ≤ w.svn
  | none => false

/-- Slot whose image a supervisor loads: the next slot, else the other. -/
def State.slotFor (s : State) : Option Nat :=
  let k := s.rd SUP_FW_STAT.NEXT_SLOT
  if s.slotValid k then some k else if s.slotValid (1 - k) then some (1 - k) else none

/-- A supervisor's authentication ends.  `ok`: it finds what the slots hold; `agrees`: its image is the one that the arbiter's
vote of the digests wins.  `cfg`: what its firmware then writes for its sources: number, priority, route, mask (R367). -/
def execFirmwareAuthenticationComplete (i : Fin 3) (ok agrees : Bool) (cfg : List (Nat × Nat × Bool × Bool)) (s : State) : Answer :=
  .next <| s.when (s.sup i = Sup.boot && s.rd (SUPC.IMG i) = 0) (fun t =>
    match t.slotFor with
    | none => t.declare i 5
    | some k =>
      if ok && agrees then
        t.put (SUPC.IMG i) (k + 1) |>.each (cfg.filter (fun c => implemented c.1)) (fun c u =>
          u.put (IRQ_CFG.SPRIO c.1) c.2.1 |>.flag (IRQ_CFG.SROUTE c.1) c.2.2.1 |>.flag (SUPC.MASK i c.1) c.2.2.2)
      else t.declare i 5)

/-- The mirrored state is transferred; `good`: the first checkpoint descriptor equals the leader's (R348). -/
def execSupervisorStateTransferComplete (i : Fin 3) (good : Bool) (s : State) : Answer :=
  .next <| s.when (s.sup i = Sup.boot && s.on (SUPC.RETURN i) && s.rd (SUPC.IMG i) ≠ 0 && s.rd SUP_STAT.LEADER ≠ 3) (fun t =>
    if good then (t.put (SUPC.STATE i) Sup.probation |>.put (SUPC.AGREED i) 0).showProb else t.declare i 4)

/-- Leadership passes back to SUP0 between two votes, when the mailbox has drained (R348). -/
def execSupervisorHandback (s : State) : Answer :=
  .next <| s.when (s.on SUPC.DRAIN && s.sup 0 = Sup.follower && s.mbx.isEmpty && !s.on SUP_ARB_STAT.VOTE_OPEN) (fun t =>
    let l := t.rd SUP_STAT.LEADER
    (t.when (l < 3) (·.put (SUPC.STATE l) Sup.follower)).put (SUPC.STATE 0) Sup.leader |>.put SUP_STAT.LEADER 0
      |>.put SUP_STAT.HANDBACK_EV 1 |>.put SUPC.DRAIN 0)

/-! ## Frozen commits and the complex reset (R352, R353, Table 15.7) -/

/-- Step 1: supervisors OFF, the open vote refused, accepted commands aborted. -/
def State.cplxStart (s : State) : State :=
  let s1 := s.put DEV_MODE.SUP_RESTART 1 |>.put SUPC.CPLX 1 |>.put SUP_MBX_STAT.SERVING 0 |>.put SUP_STAT.LEADER 3
    |>.each [0, 1, 2] (fun i t => t.put (SUPC.STATE i) Sup.off |>.clear [SUPC.RETURN i, SUPC.IMG i, SUPC.AGREED i, SUPC.HB i])
    |>.clear [SUPC.TESTING, SUPC.DRAIN]
  let s2 := s1.when (s.on SUP_ARB_STAT.VOTE_OPEN) (·.decide false .frozen)
  ({ s2 with votes := [] }).each s2.votes (fun v t => t.deny v .frozen) |>.commitsLost |>.calSupLost |>.mbxAbort

/-- SUP_CPLX_RST; while a reset runs GO is ignored. -/
def cplxHook (value : Nat) : Hook :=
  let go := SUP_CPLX_RST.GO.of value = 1
  ⟨fun s f v =>
     if f = SUP_CPLX_RST.CODE && go && v ≠ 0xA5 then 4
     else if f = SUP_CPLX_RST.GO && go && SUP_CPLX_RST.CODE.of value = 0xA5 && s.mode = Mode.boot then badState else 0,
   fun l s => (s.when (wroteOne l SUP_CPLX_RST.GO && SUP_CPLX_RST.CODE.of value = 0xA5 && s.rd SUPC.CPLX = 0) State.cplxStart, 0)⟩

def execSupervisorComplexReset (win : Fin 7) (value : Word) (be : Fin 16) (s : State) : Answer :=
  .next (s.hostWrite ⟨win, 0x20030, value.toNat, be⟩ (cplxHook value.toNat))

/-- The interrupt controller restarts: stacks empty, and a fault clears when the retest passes (R374). -/
def State.irqRestart (ok : Bool) (s : State) : State :=
  (s.when ok (·.put IRQ_STAT.FAULT 0)).each [1, 2, 3] (fun t u => u.setStack t 0) |>.each [0, 1, 2, 3] (fun t u => u.put (IRQC.SEL t) 0)

/-- Steps 2 and 2a of a complex reset. -/
def State.cplxTested (ok irq : Bool) (s : State) : State :=
  if ok then
    s.put SUPC.CPLX 2 |>.clear [SUP_STAT.FROZEN, SUP_STAT.FREEZE_CAUSE, SUP_ARB_STAT.SELFTEST_FAIL, SUPC.LIMITED] |>.irqRestart irq
      |>.each [0, 1, 2] (fun i t => (t.supRelease i).put (SUPC.RETURN i) 0)
  else
    (s.put SUPC.CPLX 0 |>.put DEV_MODE.SUP_RESTART 0 |>.put SUP_ARB_STAT.SELFTEST_FAIL 1 |>.put SUP_STAT.FROZEN 0).freeze 1

/-- The arbiter's known-answer vote: every 1 ms, and at step 2 of a complex reset, where `irq` is the retest of the
interrupt controller. -/
def execArbiterSelfTest (ok irq : Bool) (s : State) : Answer :=
  .next <|
    if s.rd SUPC.CPLX = 1 then s.cplxTested ok irq
    else s.when (!ok && s.answers && s.rd SUPC.CPLX = 0) (fun t => (t.put SUP_ARB_STAT.SELFTEST_FAIL 1).freeze 1 |>.calSupLost)

/-- The complex serves: the lowest authenticated supervisor leads, the others follow (R342, R353, R359).  With fewer than
two, commits are frozen and only ECHO and SUP_STATUS are served. -/
def State.cplxServe (s : State) : State :=
  let l := [0, 1, 2].filter (fun i => s.sup i = Sup.boot && s.rd (SUPC.IMG i) ≠ 0)
  let s1 := (s.each l (fun i t => t.put (SUPC.STATE i) (if some i = l.head? then Sup.leader else Sup.follower))).nextGen
  let s2 := match l.head? with
    | some i =>
      let k : Nat := s.rd (SUPC.IMG i) - 1
      s1.put SUP_STAT.LEADER i |>.put SUP_MBX_STAT.SERVING 1 |>.put SUP_FW_STAT.RUN_SLOT k
        |>.put SUP_FW_VER.VERSION (((s.fwSlot k).map FwSlot.version).getD 0)
    | none => s1.put SUP_STAT.LEADER 3 |>.put SUP_MBX_STAT.SERVING 0
  s2.when (l.length < 2) (fun t => (t.freeze 2).put SUPC.LIMITED 1)

/-- Every supervisor has ended its authentication. -/
def State.supsReady (s : State) : Bool := [0, 1, 2].all (fun i => s.sup i ≠ Sup.boot || s.rd (SUPC.IMG i) ≠ 0)

/-- Steps 4 and 5. -/
def execSupervisorComplexResetComplete (s : State) : Answer :=
  .next <| s.when (s.rd SUPC.CPLX = 2 && s.supsReady) (fun t =>
    (t.put SUPC.CPLX 0 |>.put DEV_MODE.SUP_RESTART 0 |>.bump SUP_CPLX_CNT.COUNT).cplxServe)

end Sys2Proof.Machine
end

