-- ==== Sys2Proof/Machine/Mailbox.lean ====
section
/-! DEFINITION. The mailbox: posting, acceptance and the commands of Table 15.10, with the retests of FENCE_CLEAR: chapter 15
of spec/ (R354 to R361) and R44. -/

namespace Sys2Proof.Machine

/-! ## The rings (R357, R358) -/

/-- SUP_MBX_CMD_PI: refused where it would overfill the ring; each entry posted keeps its window. -/
def mbxPostHook (win : Nat) (s0 : State) : Hook :=
  let old := s0.rd SUP_MBX_CMD_PI.PI
  let count (v : Nat) : Nat := (v + 64 - old) % 64
  ⟨fun s f v => if f = SUP_MBX_CMD_PI.PI && 63 - (old + 64 - s.rd SUP_MBX_CMD_CI.CI) % 64 < count v then 4 else 0,
   fun l s => (match wrote l SUP_MBX_CMD_PI.PI with
     | some v => s.each (List.range (count v)) (fun k t => t.put (MBXC.WIN ((old + k) % 64)) win)
     | none => s, 0)⟩

def execMailboxCommandPost (win : Fin 7) (value : Word) (be : Fin 16) (s : State) : Answer :=
  .next (s.hostWrite ⟨win, 0x20104, value.toNat, be⟩ (mbxPostHook win s))

def execMailboxResponseConsume (win : Fin 7) (value : Word) (be : Fin 16) (s : State) : Answer :=
  .next (s.hostWrite ⟨win, 0x20110, value.toNat, be⟩ .plain)

/-- Lowest privilege and payload words of an opcode (Table 15.10). -/
def mbxOp (op : Nat) : Option (Nat × Nat) :=
  match op with
  | 0x01 => some (1, 0)
  | 0x02 => some (1, 0)
  | 0x03 => some (2, 1)
  | 0x04 => some (3, 1)
  | 0x05 => some (2, 5)
  | 0x10 => some (1, 0)
  | 0x11 => some (3, 4)
  | 0x12 => some (3, 1)
  | 0x13 => some (3, 1)
  | _ => none

/-- What acceptance checks, in its order; none where the leader takes the command. -/
def State.mbxCheck (s : State) (win op tag gen len : Nat) : Option Nat :=
  let lvl := s.level win
  if gen ≠ s.rd SUP_MBX_GEN.GEN then some Mbx.staleGen
  else if (s.mbxCmd tag).isSome then some Mbx.tagBusy
  else match mbxOp op with
    | none => some Mbx.unknownOp
    | some (low, need) =>
      if lvl < low then some Mbx.privilege
      else if s.on SUPC.LIMITED && op ≠ 1 && op ≠ 2 then some Mbx.badState
      else if len < need then some Mbx.badLen else none

/-- The next command of the ring is accepted. -/
def State.mbxAccept (s : State) : State :=
  let i := s.rd SUP_MBX_CMD_CI.CI
  let a := 0x21000 + 64 * i
  let w := s.rd (tableWord a)
  let op := bits w 24 8
  let tag := bits w 16 8
  let gen := bits w 8 8
  let len := bits w 0 4
  let s1 := (s.put SUP_MBX_CMD_CI.CI (i + 1)).count 4 .sup 0x03
  match s.mbxCheck (s.rd (MBXC.WIN i)) op tag gen len with
  | some status => s1.mbxPost status tag gen []
  | none =>
    let words := (List.range len).map (fun k => s.rd (tableWord (a + 4 + 4 * k)))
    ({ s1 with mbx := s1.mbx ++ [MbxCmd.mk tag gen op words 0] }.put SUP_MBX_STAT.OUTST (s1.mbx.length + 1)).when (op = 0x11)
      (fun t => (t.dmaNeed 6 (words.getD 3 0)).put DMAC.SUP_ERR 0)

/-- The mailbox serves, no hand-back drains it, and there is room (R348, R358). -/
def State.mbxOpen (s : State) : Bool :=
  s.on SUP_MBX_STAT.SERVING && !s.on SUPC.DRAIN && s.mbx.length < 16
    && s.mbx.length + 1 ≤ 63 - (s.rd SUP_MBX_RSP_PI.PI + 64 - s.rd SUP_MBX_RSP_CI.CI) % 64

def execMailboxCommandAccept (s : State) : Answer :=
  .next (s.when (s.mbxOpen && s.rd SUP_MBX_CMD_CI.CI ≠ s.rd SUP_MBX_CMD_PI.PI) State.mbxAccept)

/-! ## Commands (Table 15.10): `tag` is that of an accepted command, `gen` the generation of the supervisor that runs it -/

/-- What a command that is not yet under way does. -/
def State.mbxRun (op tag : Nat) (f : MbxCmd → State → State) (s : State) : State :=
  match s.mbxCmd tag with
  | some c => if c.op = op && c.stage = 0 then f c s else s
  | none => s

def execEcho (tag gen : Fin 256) (s : State) : Answer := .next (s.mbxRun 0x01 tag (fun c t => t.mbxDone c gen Mbx.ok c.words))

def execSupStatus (tag gen : Fin 256) (s : State) : Answer :=
  .next (s.mbxRun 0x02 tag (fun c t => t.mbxDone c gen Mbx.ok ([0x20000, 0x20010, 0x20014, 0x20018, 0x20020, 0x20028].map t.readWord)))

/-! ### FENCE_CLEAR (R44) -/

/-- A unit that a retest names: class of Table 15.10, or 9 optical engine, 10 key-slot bank, 11 transmit framer, 12 converter
PLL, 13 memory bank; and its index. -/
abbrev FenceUnit := Nat × Nat

/-- Optical faults that fence the channel (Table 4.7). -/
def optFaults (n : Nat) : List Field :=
  [OPT_FAULT.TUNE n, OPT_FAULT.LASER n, OPT_FAULT.TEC n, OPT_FAULT.SOA n, OPT_FAULT.DRV n, OPT_FAULT.BIAS n]

/-- The unit of a class is fenced, its index in range. -/
def State.unitIsFenced (s : State) (n cls i : Nat) : Bool :=
  match cls with
  | 1 => i < 544 && s.slice n i = Slice.fenced
  | 2 => i < 96 && s.rd (LDS_TILE_STAT.STATE n i) = 2
  | 3 => i < 24 && s.rdBit (FEC_ENG_FNC.FENCED n) i
  | 4 => i < 16 && s.rdBit (SEC_PIPE.FENCED n) i
  | 5 => i < 4 && s.rdBit KEY_STAT.ENG_FNC i
  | 6 => i < 16 && s.on (HST_LSTAT_L.FENCED n i)
  | 7 => s.chSt n = ChSt.fenced
  | 8 => s.on (HST_PLL_STAT.FAULT n)
  | _ => false

/-- Units whose faults alone fenced the channel whole; none where it lost every native mode.  A bank that R395 fenced the channel for
is one of them (R44, DEDUCED, log entry 43). -/
def State.wholeUnits (s : State) (n : Nat) : List FenceUnit :=
  (if (optFaults n).any s.on then [(9, 0)] else []) ++ (if s.on (FNC.BANK n) then [(10, 0)] else [])
    ++ (if s.on (FNC.TXP n) then [(11, 0)] else []) ++ ([0, 1].filter (fun d => s.on (pllFaultBit n d))).map (fun d => (12, d))
    ++ ((List.range 14).filter (fun b => s.rdBit (FNC.MEM n) b)).map (fun b => (13, b))

/-- Every fenced tile, slice, converter PLL and engine of the channel. -/
def State.modeUnits (s : State) (n : Nat) : List FenceUnit :=
  ((List.range 544).filter (s.unitIsFenced n 1)).map (fun k => (1, k)) ++ ((List.range 96).filter (s.unitIsFenced n 2)).map (fun t => (2, t))
    ++ ((List.range 24).filter (s.unitIsFenced n 3)).map (fun e => (3, e))
    ++ ([0, 1].filter (fun d => s.on (pllFaultBit n d))).map (fun d => (12, d))

/-- What a FENCE_CLEAR retests. -/
def State.retestUnits (s : State) (n cls i : Nat) : List FenceUnit :=
  if cls = 7 then (if (s.wholeUnits n).isEmpty then s.modeUnits n else s.wholeUnits n)
  else if cls = 8 then (8, 0) :: ((List.range 16).filter (s.unitIsFenced n 6)).map (fun l => (6, l))
  else [(cls, i)]

/-- A unit that passed returns, as its own rule gives: a slice as a SPARE, a tile IDLE, an engine or pipeline active where the
casting enables it, a host lane with its configuration (R115, R144, R196, R248). -/
def State.liftUnit (n : Nat) (u : FenceUnit) (s : State) : State :=
  match u.1 with
  | 1 => (s.put (CNV_SLC_STAT.STATE n u.2) Slice.spare |>.put (CNV_SLC_STAT.CAUSE n u.2) 0 |>.sliceSum n |>.startShadows n).regain n (u.2 / 68)
  | 2 => (s.put (LDS_TILE_STAT.STATE n u.2) 1 |>.put (LDS_TILE_STAT.CAUSE n u.2) 0
      |>.put (LDS_TILE_SUM.FENCED n) (s.rd (LDS_TILE_SUM.FENCED n) - 1)).tileSum n |>.rebudget n
  | 3 =>
    let on := bit (s.rawNat n 0x40 0 0 0xFFFFFF) u.2 = 1
    (s.putBit (FEC_ENG_FNC.FENCED n) u.2 false |>.putBit (FEC_ENG_ACT.ACTIVE n) u.2 on
      |>.put (FEC_ENG_STAT.STATE n u.2) (if on then 0 else 1) |>.put (FEC_ENG_STAT.CAUSE n u.2) 0).rebudget n |>.fecOcc n
  | 4 => (s.putBit (SEC_PIPE.FENCED n) u.2 false).putBit (SEC_PIPE.ACTIVE n) u.2 (bit (s.rawNat n 0x40 0 1 0xFFFF) u.2 = 1)
  | 5 => (s.putBit KEY_STAT.ENG_FNC u.2 false).putBit KEY_STAT.ENG_ACT u.2 true
  | 6 => (s.put (HST_LSTAT_L.FENCED n u.2) 0 |>.put (HST_LSTAT_L.CAUSE n u.2) 0 |>.putBit (HST_LANES.FENCED n) u.2 false).laneRefresh n
  | 8 => s.put (HST_PLL_STAT.FAULT n) 0
  | 9 => s.clear (optFaults n)
  | 10 => s.put (FNC.BANK n) 0
  | 11 => s.put (FNC.TXP n) 0
  | 12 => (s.put (pllFaultBit n u.2) 0).convRates n
  | 13 => s.putBit (FNC.MEM n) u.2 false
  | _ => s

/-- The detector of a unit that fails its retest fires again, with its event and source (Tables 5.5, 6.3, 8.5, 10.4, 12.1; DEDUCED,
log entry 43). -/
def State.retestFail (n : Nat) (u : FenceUnit) (s : State) : State :=
  match u.1 with
  | 1 => s.sliceMark n u.2 1
  | 2 => s.raiseCh n 0x22
  | 3 => (s.put (FEC_STAT.FENCE_EV n) 1).raiseCh n 0x32
  | 4 => (s.put (SEC_STAT.FENCE_EV n) 1).raiseCh n 0xA4
  | 5 => s.raise 49
  | 6 => (s.put (HST_STAT.FENCE_EV n) 1).raiseCh n 0x63
  | _ => s

/-- Fault CAUSE of a unit, where a register holds it; the spec names none for the others. -/
def State.unitCause (s : State) (n cls i : Nat) : Option Nat :=
  match cls with
  | 1 => some (s.rd (CNV_SLC_STAT.CAUSE n i))
  | 2 => some (s.rd (LDS_TILE_STAT.CAUSE n i))
  | 3 => some (s.rd (FEC_ENG_STAT.CAUSE n i))
  | 6 => some (s.rd (HST_LSTAT_L.CAUSE n i))
  | 7 => some (s.rd (LDS_CH_STATE.CAUSE n))
  | _ => none

/-- CLASS, CH and INDEX of a FENCE_CLEAR. -/
def fenceArgs (c : MbxCmd) : Nat × Nat × Nat :=
  let w := c.words.getD 0 0
  (bits w 24 8, bits w 16 2, bits w 0 16)

/-- The argument, the freeze, and the vote. -/
def execFenceClear (tag gen : Fin 256) (s : State) : Answer :=
  .next <| s.mbxRun 0x03 tag (fun c t =>
    let a := fenceArgs c
    if !t.unitIsFenced a.2.1 a.1 a.2.2 then t.mbxDone c gen Mbx.badArg []
    else if t.frozen then t.mbxDone c gen Mbx.noVote []
    else (t.mbxStage tag 1).request (.fenceClear tag))

/-- The retest of a unit: those of `fails` fail it, and the others return.  A channel fenced whole goes DARK when every unit
that fenced it has passed, or when it has a native mode again. -/
def State.retest (n cls i : Nat) (fails : List FenceUnit) (s : State) : Bool × State :=
  let units := s.retestUnits n cls i
  let good := units.filter (fun u => !fails.contains u)
  let bad := units.filter fails.contains
  let s1 := ((s.each good (fun u t => t.liftUnit n u)).each bad (fun u t => t.retestFail n u)).unitChanged n false
  if cls = 7 then
    let whole := s.wholeUnits n
    let up := if whole.isEmpty then s1.rd (LDS_CH_STATE.MAXMODE n) ≠ 0 else whole.all (fun u => !fails.contains u)
    if up then (true, s1.setCh n ChSt.dark 0x1) else (false, s1)
  else (bad.isEmpty, s1.evalMode)

/-- The retest that an approved vote started ends. -/
def execFenceRetestComplete (tag gen : Fin 256) (fails : List (Nat × Nat)) (s : State) : Answer :=
  .next <| match s.mbxCmd tag with
  | none => s
  | some c =>
    if c.op = 0x03 && c.stage = 2 then
      let a := fenceArgs c
      let r := s.retest a.2.1 a.1 a.2.2 fails
      if r.1 then r.2.mbxDone c gen Mbx.ok [0]
      else match s.unitCause a.2.1 a.1 a.2.2 with
        | some k => r.2.mbxDone c gen Mbx.retestFailed [k]
        | none => r.2.draw.2.mbxDone c gen Mbx.retestFailed [r.2.draw.1 % 2 ^ 32]
    else s

/-! ### The other commands -/

/-- A HELD supervisor returns (R349). -/
def execSupRestore (tag gen : Fin 256) (s : State) : Answer :=
  .next <| s.mbxRun 0x04 tag (fun c t =>
    let i := c.words.getD 0 0
    if 2 < i then t.mbxDone c gen Mbx.badArg []
    else if t.sup i ≠ Sup.held then t.mbxDone c gen Mbx.badState []
    else (t.clear [SUP_FAIL_S.ATTEMPTS i, SUPC.FAIL_AT i 0, SUPC.FAIL_AT i 1] |>.supRelease i).mbxDone c gen Mbx.ok [])

/-- Log entries of a supervisor, 16 bytes each, go to host memory; `data`: those it holds from the first one named, none where
the transfer fails. -/
def execLogRead (tag gen : Fin 256) (data : Option (List Byte)) (s : State) : Answer :=
  .next <| s.mbxRun 0x05 tag (fun c t =>
    let w (k : Nat) : Nat := c.words.getD k 0
    if 2 < w 0 || 1023 < w 1 || w 4 < 1 || 1024 < w 4 then t.mbxDone c gen Mbx.badArg []
    else match data with
      | some l =>
        if t.portSends then
          let k := Nat.min (w 4) (l.length / 16)
          (t.emit (.hostMemory (w 3 * 2 ^ 32 + w 2) (l.take (16 * k)))).mbxDone c gen Mbx.ok [k]
        else t.mbxDone c gen Mbx.dmaError []
      | none => t.mbxDone c gen Mbx.dmaError [])

/-- The slot was found valid since its last load. -/
def verified (k : Nat) : Field := if k = 0 then SUP_FW_STAT.S0_VALID else SUP_FW_STAT.S1_VALID

def execFwInfo (tag gen : Fin 256) (s : State) : Answer :=
  .next <| s.mbxRun 0x10 tag (fun c t =>
    let slot (k : Nat) : List Nat := [t.rd (verified k), ((t.fwSlot k).map FwSlot.version).getD 0, ((t.fwSlot k).map FwSlot.svn).getD 0]
    t.mbxDone c gen Mbx.ok (slot 0 ++ slot 1 ++ [t.rd SUP_FW_STAT.RUN_SLOT, t.rd SUP_FW_STAT.NEXT_SLOT, t.rd SUP_FW_STAT.SVN_MIN]))

/-- The slot takes a content. -/
def State.setSlot (k : Nat) (w : Option FwSlot) (s : State) : State := { s with fw := s.fw.set k w }.put (verified k) 0

/-- The slot is erased and written with the image that device DMA fetched, none where the fetch failed. -/
def execFwLoad (tag gen : Fin 256) (image : Option (List Byte)) (s : State) : Answer :=
  .next <| s.mbxRun 0x11 tag (fun c t0 =>
    let t := t0.dmaGot 6
    let k := c.words.getD 0 0
    let n := c.words.getD 3 0
    if 1 < k || n < 1 || 4194304 < n then t.mbxDone c gen Mbx.badArg []
    else if k = t.rd SUP_FW_STAT.RUN_SLOT || k = t.rd SUP_FW_STAT.NEXT_SLOT then t.mbxDone c gen Mbx.badState []
    else match image with
      | some w =>
        if t.portSends && !t.on DMAC.SUP_ERR then (t.setSlot k (some (slotOf (w.take n)))).mbxDone c gen Mbx.ok []
        else (t.setSlot k none).mbxDone c gen Mbx.dmaError []
      | none => (t.setSlot k none).mbxDone c gen Mbx.dmaError [])

def execFwVerify (tag gen : Fin 256) (s : State) : Answer :=
  .next <| s.mbxRun 0x12 tag (fun c t =>
    let k := c.words.getD 0 0
    if 1 < k then t.mbxDone c gen Mbx.badArg []
    else if t.slotValid k then
      (t.put (verified k) 1).mbxDone c gen Mbx.ok [((t.fwSlot k).map FwSlot.version).getD 0, ((t.fwSlot k).map FwSlot.svn).getD 0]
    else (t.put (verified k) 0).mbxDone c gen Mbx.authFailed [])

/-- A slot that FW_VERIFY has found valid is voted for the next boot. -/
def execFwActivate (tag gen : Fin 256) (s : State) : Answer :=
  .next <| s.mbxRun 0x13 tag (fun c t =>
    if !t.on (verified (c.words.getD 0 0 % 2)) then t.mbxDone c gen Mbx.badState []
    else if t.frozen then t.mbxDone c gen Mbx.noVote []
    else (t.mbxStage tag 1).request (.fwActivate tag))

end Sys2Proof.Machine
end

