-- ==== Sys2Proof/Machine/Memory.lean ====
section
/-! DEFINITION. Memory protection, scrubbing and bank retirement: chapter 17 of spec/ (R385 to R397). -/

namespace Sys2Proof.Machine

/-! ## Lines (R385, R386) -/

/-- XOR of the bits of a byte. -/
def parityOf (b : Byte) : Bool := popcount b.toNat 8 % 2 = 1

/-- Outcome of a read. -/
inductive Verdict where
  | clean
  /-- log KIND, BYTE, size of F, and the line as corrected -/
  | fixed (kind byte nbytes : Nat) (line : SramLine)
  /-- size of F and its lowest byte -/
  | bad (nbytes byte : Nat)
  deriving DecidableEq, Repr

end Sys2Proof.Machine

namespace Sys2Proof

open Sys2Proof.Machine

def SramLine.zero : SramLine := ⟨0, 0, 0⟩

/-- Data byte i. -/
def SramLine.byte (l : SramLine) (i : Nat) : Byte := l.data.extractLsb' (8 * i) 8

/-- XOR of all data bytes. -/
def SramLine.sum (l : SramLine) : Byte := (List.range 64).foldl (fun c i => c ^^^ l.byte i) 0

/-- The line of 64 data bytes with its parity bits and check byte. -/
def SramLine.of (d : BitVec 512) : SramLine :=
  let l : SramLine := ⟨d, 0, 0⟩
  ⟨d, BitVec.ofNat 64 (ofBits ((List.range 64).map (fun i => parityOf (l.byte i)))), l.sum⟩

/-- Bits that have changed in the array since the line was written. -/
def SramLine.flip (l u : SramLine) : SramLine := ⟨l.data ^^^ u.data, l.parity ^^^ u.parity, l.check ^^^ u.check⟩

/-- Bytes whose parity does not check. -/
def SramLine.failing (l : SramLine) : List Nat := (List.range 64).filter (fun i => parityOf (l.byte i) ≠ l.parity.getLsbD i)

/-- The syndrome S. -/
def SramLine.syndrome (l : SramLine) : Byte := l.check ^^^ l.sum

def SramLine.verdict (l : SramLine) : Verdict :=
  let x := l.syndrome
  match l.failing with
  | [] => if x = 0 then .clean else .fixed 1 64 0 { l with check := l.check ^^^ x }
  | [b] =>
    if x = 0 then .fixed 1 b 1 { l with parity := l.parity ^^^ (1#64 <<< b) }
    else if parityOf (l.byte b ^^^ x) = l.parity.getLsbD b then .fixed 0 b 1 { l with data := l.data ^^^ (x.setWidth 512 <<< (8 * b)) }
    else .bad 1 b
  | b :: rest => .bad (rest.length + 1) b

end Sys2Proof

namespace Sys2Proof.Machine

/-- Location of a line in the array. -/
def lineLoc (phys line : Nat) : Nat := 65536 * phys + line

/-- Physical bank behind a bank value of an MLA (R386, R395). -/
def State.physOf (s : State) (bank : Nat) : Nat := if bank < 64 then s.rd (MEM_MAP.PHYS bank) else bank

/-- The line at a location. -/
def lineAt (loc : Nat) : List LineAt → SramLine
  | [] => SramLine.zero
  | x :: l => if x.loc = loc then x.line else lineAt loc l

/-- The list without a location. -/
def dropLine (loc : Nat) : List LineAt → List LineAt
  | [] => []
  | x :: l => if x.loc = loc then dropLine loc l else x :: dropLine loc l

/-- Insertion before the first greater location. -/
def insertLine (loc : Nat) (v : SramLine) : List LineAt → List LineAt
  | [] => [⟨loc, v⟩]
  | x :: l => if loc < x.loc then ⟨loc, v⟩ :: x :: l else x :: insertLine loc v l

/-- The list with a line at a location; one that is all 0 is not listed. -/
def setLine (loc : Nat) (v : SramLine) (l : List LineAt) : List LineAt :=
  if v = SramLine.zero then dropLine loc l else insertLine loc v (dropLine loc l)

/-- A physical line takes a value. -/
def State.putPhys (phys line : Nat) (v : SramLine) (s : State) : State := { s with sram := setLine (lineLoc phys line) v s.sram }

/-- The bank's retirement copy runs. -/
def State.copying (s : State) (bank : Nat) : Bool := s.rd MEM_RET_STAT.STATE = 1 && s.rd MEMC.RBANK = bank

/-- A line of a bank is written: while its retirement copy runs, the write lands in the spare as well (R394). -/
def State.putLine (bank line : Nat) (v : SramLine) (s : State) : State :=
  (s.putPhys (s.physOf bank) line v).when (s.copying bank) (fun t => t.putPhys (64 + t.rd MEMC.RSPARE) line v)

def State.getLine (s : State) (bank line : Nat) : SramLine := lineAt (lineLoc (s.physOf bank) line) s.sram

/-! ## Checking (R387, Table 17.1) -/

/-! ## Error log (R389, Table 17.3) -/

/-- One event: a repeat of the newest entry's MLA and KIND is merged into it. -/
def State.memLog (kind src nbytes byte phys mla : Nat) (s : State) : State :=
  let at0 (e : Nat) : Nat := 0x8C00000 + 16 * (e % 1024)
  let p := s.rd MEM_LOG_PTR.PTR
  let last := at0 (p + 1023)
  let w1 := s.rd (tableWord (last + 8)) + 2 ^ 32 * s.rd (tableWord (last + 12))
  let newest := p ≠ 0 || s.on MEM_LOG_PTR.WRAP
  if newest && bits w1 62 2 = kind && bits w1 0 23 = mla then
    (s.put64 last s.time).when (bits w1 37 8 < 255) (·.put64 (last + 8) (w1 + 2 ^ 37))
  else
    s.put64 (at0 p) s.time
      |>.put64 (at0 p + 8) (kind * 2 ^ 62 + src * 2 ^ 59 + nbytes * 2 ^ 52 + byte * 2 ^ 45 + phys * 2 ^ 30 + mla)
      |>.when (p = 1023) (·.put MEM_LOG_PTR.WRAP 1) |>.put MEM_LOG_PTR.PTR (p + 1)
      |>.raise (if kind ≤ 1 then 96 else 97)

/-- The counts and event bits of an event (R389, Table 17.7). -/
def State.memCount (kind phys : Nat) (s : State) : State :=
  if kind ≤ 1 then (s.bump MEM_CNT.CORR |>.bump (MEM_BCNT.CORR phys) |>.put MEM_STAT.CORR_EV 1).count 4 .mem 0x01
  else if kind = 2 then (s.bump MEM_CNT.UNC |>.bump (MEM_BCNT.UNC phys) |>.put MEM_STAT.UNC_EV 1).count 4 .mem 0x02
  else s.put MEM_STAT.WBF_EV 1

/-! ## Uncorrectable lines (R388, Table 17.2) -/

/-- The bank whose work a bank does: a spare's is that of the bank it replaces (R23). -/
def State.bankOf (s : State) (bank : Nat) : Nat := if bank < 64 then bank else s.rd (MEM_SPARE.BANK (bank - 64))

/-- The channel that a datapath bank serves: banks 14n to 14n + 13 serve channel n (R23). -/
def State.bankChannel (s : State) (bank : Nat) : Option Nat := if s.bankOf bank < 56 then some (s.bankOf bank / 14) else none

/-- A bank of the control plane (R23). -/
def State.bankControl (s : State) (bank : Nat) : Bool := 56 ≤ s.bankOf bank && s.bankOf bank < 64

/-- Channels whose ledger records carry COND bit 1: the owner of the bank, or all. -/
def State.owners (s : State) (bank : Nat) : List Nat :=
  match s.bankChannel bank with
  | some n => [n]
  | none => if s.bankControl bank then channels else []

/-- A token of a tributary that has a byte in the line carries POISON. -/
def State.poisonToken (n : Nat) (rx : Bool) (t : Nat) (s : State) : State :=
  s.onFlow n (Flow.poisonOne (fun k => k.trib = t && k.stage.isTx = !rx && !k.poison))

/-- Every token that a table entry governs carries POISON. -/
def State.poisonTrib (n t : Nat) (s : State) : State :=
  s.onFlow n (fun f => { f with tok := f.tok.map (fun k => if k.trib = t then { k with poison := true } else k) })

/-- Sets element i of a list, where it has one. -/
def zeroAt {α : Type} (z : α) (i : Nat) (l : List α) : List α := l.mapIdx (fun j v => if j = i then z else v)

/-- Coded bit i of a codeword is erased. -/
def Codeword.erase (i : Nat) (w : Codeword) : Codeword := { w with llr := zeroAt 0 i w.llr, soft := zeroAt 0 i w.soft, post := zeroAt 0 i w.post }

/-- LLR i of codeword q reaches the decoder as 0, in the window or before its assembly. -/
def State.eraseLlr (n q i : Nat) (s : State) : State :=
  if q = (s.flow.get n).led.cwIn + 1 then s.onDsp n (fun d => { d with llr := zeroAt (0, 0) i d.llr })
  else s.onFlow n (Flow.cwMap (fun w => if w.seq = q then w.erase i else w))

/-- What follows from what a line of a datapath bank of channel n holds. -/
def State.datapathLost (n : Nat) (h : Holds) (s : State) : State :=
  match h with
  | .tokens l => s.each l (fun x t => t.poisonToken n x.1 x.2)
  | .llrs l => s.each l (fun x t => t.eraseLlr n x.1 x.2)
  | _ => s

/-- What follows from what a line of a control bank holds. -/
def State.controlLost (h : Holds) (s : State) : State :=
  match h with
  | .tribEntry n t => (s.put (MEMC.BAD_TRB n t) 1).poisonTrib n t
  | .clientEntry n c =>
    let s1 := s.put (MEMC.BAD_CLI n c) 1
    match s.entryOf n c with
    | some t => s1.poisonTrib n t
    | none => s1
  | .tenantEntry n t => (s.put (MEMC.BAD_TEN n t) 1).poisonTrib n t
  | .hostRead addr => s.emit (.readData addr 0xFFFFFFFF)
  | .supervisor i => s.declare i 6
  | .casting => s.castFault
  | _ => s

/-- What follows from what the line holds: nothing that a bank of its kind cannot hold (R23). -/
def State.lineLost (bank : Nat) (h : Holds) (s : State) : State :=
  match s.bankChannel bank with
  | some n => s.datapathLost n h
  | none => s.when (s.bankControl bank) (·.controlLost h)

/-! ## Reads and writes -/

/-- One read of a line.  `upset`: bits that changed in the array before it; `stuck`: a write-back does not hold. -/
def State.lineRead (bank line src : Nat) (h : Holds) (upset : SramLine) (stuck : Bool) (s : State) : State × Verdict :=
  let phys := s.physOf bank
  let mla := 65536 * bank + line
  let l := (s.getLine bank line).flip upset
  let s1 := s.putPhys phys line l
  let v := l.verdict
  (match v with
    | .clean => s1
    | .fixed kind byte nb good =>
      let s2 := (s1.memCount kind phys).memLog kind src nb byte phys mla
      if stuck then (s2.memCount 3 phys).memLog 3 src nb byte phys mla else s2.putLine bank line good
    | .bad nb byte =>
      ((s1.memCount 2 phys).memLog 2 src nb byte phys mla).each (s1.owners bank) (fun n t => t.breach n 1) |>.lineLost bank h, v)

/-- The banks hold their contents while the main rails are up. -/
def State.powered (s : State) : Bool := s.mode ≠ Mode.keep

def execMemoryLineRead (bank : Fin 68) (line : Fin 40960) (src : Fin 7) (holds : Holds) (upset : SramLine) (stuck : Bool) (s : State) :
    Answer :=
  .next (s.when s.powered (fun t => (t.lineRead bank line src holds upset stuck).1))

/-- Bits of the bytes that a write names. -/
def byteMask (mask : BitVec 64) : BitVec 512 :=
  (List.range 64).foldl (fun m i => if mask.getLsbD i then m ||| (0xFF#512 <<< (8 * i)) else m) 0

/-- A write of a whole line replaces it; one of a part reads, corrects and merges first, and leaves an uncorrectable line as
it is (R385, R388). -/
def execMemoryLineWrite (bank : Fin 68) (line : Fin 40960) (src : Fin 7) (holds : Holds) (upset : SramLine) (data : BitVec 512)
    (mask : BitVec 64) (s : State) : Answer :=
  .next <| s.when s.powered (fun t =>
    if mask = BitVec.allOnes 64 then t.putLine bank line (SramLine.of data)
    else
      let r := t.lineRead bank line src holds upset false
      let m := byteMask mask
      let merged (l : SramLine) : State := r.1.putLine bank line (SramLine.of ((l.data &&& ~~~m) ||| (data &&& m)))
      match r.2 with
      | .clean => merged (r.1.getLine bank line)
      | .fixed _ _ _ good => merged good
      | .bad _ _ => r.1)

/-! ## Scrubbing (R390 to R392) -/

/-- The summary is written and the scrub ends: 1 complete, 2 aborted. -/
def State.scrubEnd (how : Nat) (s : State) : State :=
  let q := s.rd MEMC.SEQ + 1
  s.put MEMC.SEQ q
    |>.put64 0x8C10000 (q * 2 ^ 32 + how * 2 ^ 30 + s.rd MEMC.START)
    |>.put64 0x8C10008 (s.rd MEMC.LINES * 2 ^ 32 + s.rd MEMC.CORR)
    |>.put64 0x8C10010 (s.rd MEMC.UNC * 2 ^ 32 + s.rd MEMC.LASTREAD)
    |>.put64 0x8C10018 (s.rd MEMC.FAILV * 2 ^ 63 + s.rd MEMC.LASTF * 2 ^ 32 + s.rd MEMC.FIRST)
    |>.put MEM_SCRUB_STAT.STATE (if how = 1 then 3 else 4) |>.put MEM_SCRUB_STAT.PAUSE 0
    |>.put MEM_SCRUB_STAT.DONE_EV 1 |>.raise 98

/-- The scrubber is in RUN or PAUSED. -/
def State.scrubBusy (s : State) : Bool := s.rd MEM_SCRUB_STAT.STATE = 1 || s.rd MEM_SCRUB_STAT.STATE = 2

/-- A range that GO accepts. -/
def State.scrubRange (s : State) : Bool :=
  let a := s.rd MEM_SCRUB_START.MLA
  let b := s.rd MEM_SCRUB_END.MLA
  a / 65536 ≤ 67 && b / 65536 ≤ 67 && a ≤ b

def State.scrubStart (s : State) : State :=
  s.put MEM_SCRUB_STAT.STATE 1 |>.put MEM_SCRUB_STAT.PAUSE 0 |>.put MEM_SCRUB_NEXT.MLA (s.rd MEM_SCRUB_START.MLA)
    |>.put MEMC.START (s.rd MEM_SCRUB_START.MLA) |>.put MEMC.END (s.rd MEM_SCRUB_END.MLA)
    |>.clear [MEMC.LINES, MEMC.CORR, MEMC.UNC, MEMC.LASTREAD, MEMC.FAILV, MEMC.FIRST, MEMC.LASTF]

/-- MEM_SCRUB_CTRL. -/
def scrubHook : Hook :=
  ⟨fun s f v => if f = MEM_SCRUB_CTRL.GO && v = 1 then (if s.scrubBusy then 6 else if !s.scrubRange then badState else 0) else 0,
   fun l s =>
    let st := s.rd MEM_SCRUB_STAT.STATE
    (s.when (wroteOne l MEM_SCRUB_CTRL.ABORT && s.scrubBusy) (·.scrubEnd 2)
      |>.when (wroteOne l MEM_SCRUB_CTRL.PAUSE && (st = 1 || (st = 2 && s.rd MEM_SCRUB_STAT.PAUSE = 1))) (fun t =>
          t.when t.scrubBusy (fun u => (u.put MEM_SCRUB_STAT.STATE 2).put MEM_SCRUB_STAT.PAUSE 2))
      |>.when (wroteOne l MEM_SCRUB_CTRL.RESUME && st = 2 && s.rd MEM_SCRUB_STAT.PAUSE = 2) (fun t =>
          t.when t.scrubBusy (fun u => (u.put MEM_SCRUB_STAT.STATE 1).put MEM_SCRUB_STAT.PAUSE 0))
      |>.when (wroteOne l MEM_SCRUB_CTRL.GO) State.scrubStart, 0)⟩

def execScrubStart (win : Fin 7) (value : Word) (be : Fin 16) (s : State) : Answer := .next (s.hostWrite ⟨win, 0x70010, value.toNat, be⟩ scrubHook)

def execScrubPause (win : Fin 7) (value : Word) (be : Fin 16) (s : State) : Answer := .next (s.hostWrite ⟨win, 0x70010, value.toNat, be⟩ scrubHook)

def execScrubResume (win : Fin 7) (value : Word) (be : Fin 16) (s : State) : Answer := .next (s.hostWrite ⟨win, 0x70010, value.toNat, be⟩ scrubHook)

def execScrubAbort (win : Fin 7) (value : Word) (be : Fin 16) (s : State) : Answer := .next (s.hostWrite ⟨win, 0x70010, value.toNat, be⟩ scrubHook)

/-- The first line at or after an MLA that exists and that a scrub reads: spares in IN_USE are left out.  `k` bounds the
banks passed. -/
def State.scrubNext (s : State) : Nat → Nat → Nat
  | 0, m => m
  | k + 1, m =>
    let bank := m / 65536
    if 40960 ≤ m % 65536 || (64 ≤ bank && bank ≤ 67 && s.rd (MEM_SPARE.STATE (bank - 64)) = 2) then s.scrubNext k (65536 * (bank + 1))
    else m

/-- A failing line in the summary. -/
def State.scrubFail (m : Nat) (f : Field) (s : State) : State :=
  (s.addWrap f 1).when (!s.on MEMC.FAILV) (fun t => (t.put MEMC.FAILV 1).put MEMC.FIRST m) |>.put MEMC.LASTF m

/-- The next line of the scrub is read. -/
def State.scrubLine (h : Holds) (upset : SramLine) (stuck : Bool) (s : State) : State :=
  let m := s.scrubNext 8 (s.rd MEM_SCRUB_NEXT.MLA)
  if s.rd MEMC.END < m then s.scrubEnd 1
  else if s.copying (m / 65536) then s.put MEM_SCRUB_NEXT.MLA m |>.put MEM_SCRUB_STAT.STATE 2 |>.put MEM_SCRUB_STAT.PAUSE 1
  else
    let r := s.lineRead (m / 65536) (m % 65536) 4 h upset stuck
    let s1 := (r.1.addWrap MEMC.LINES 1 |>.put MEMC.LASTREAD m |>.put MEM_SCRUB_STAT.STATE 1 |>.put MEM_SCRUB_STAT.PAUSE 0).count 4 .mem 0x03
    let s2 := match r.2 with
      | .clean => s1
      | .fixed _ _ _ _ => s1.scrubFail m MEMC.CORR
      | .bad _ _ => s1.scrubFail m MEMC.UNC
    let next := s2.scrubNext 8 (m + 1)
    (s2.put MEM_SCRUB_NEXT.MLA next).when (s.rd MEMC.END < next) (·.scrubEnd 1)

/-- The scrub runs, or its pause for a retirement copy may be over. -/
def execScrubLine (holds : Holds) (upset : SramLine) (stuck : Bool) (s : State) : Answer :=
  .next <| s.when (s.rd MEM_SCRUB_STAT.STATE = 1 || (s.rd MEM_SCRUB_STAT.STATE = 2 && s.rd MEM_SCRUB_STAT.PAUSE = 1))
    (·.scrubLine holds upset stuck)

/-! ## Bank retirement (R393, R394, Table 17.5) -/

/-- A retirement is in progress. -/
def State.retiring (s : State) : Bool := s.rd MEM_RET_STAT.STATE = 1 || s.rd MEM_RET_STAT.STATE = 2

/-- GO: the cause that refuses it and the reason of its refusal record. -/
def State.retireCause (s : State) : Nat × Nat :=
  if s.retiring then (1, 6)
  else if s.rd (MEM_SPARE.STATE (s.rd MEM_RET_CTRL.SPARE)) ≠ 0 then (2, badState)
  else if 63 < s.rd MEM_RET_CTRL.BANK then (3, 4) else (0, 0)

/-- MEM_RET_CTRL. -/
def retireHook : Hook :=
  ⟨fun _ _ _ => 0, fun l s =>
    if !wroteOne l MEM_RET_CTRL.GO then (s, 0)
    else
      let c := s.retireCause
      if c.1 ≠ 0 then (s.put MEM_RET_STAT.CAUSE c.1 |>.put MEM_RET_STAT.FAIL_EV 1, c.2)
      else (s.put MEM_RET_STAT.STATE 1 |>.put MEM_RET_STAT.CAUSE 0 |>.put MEM_RET_STAT.NEXT 0 |>.put MEMC.RBANK (s.rd MEM_RET_CTRL.BANK)
        |>.put MEMC.RSPARE (s.rd MEM_RET_CTRL.SPARE) |>.put (MEM_SPARE.STATE (s.rd MEM_RET_CTRL.SPARE)) 1, 0)⟩

def execBankRetirementStart (win : Fin 7) (value : Word) (be : Fin 16) (s : State) : Answer :=
  .next (s.hostWrite ⟨win, 0x70030, value.toNat, be⟩ retireHook)

/-- A retirement fails: the spare is FAILED and the map unchanged. -/
def State.retireFail (cause : Nat) (s : State) : State :=
  s.put MEM_RET_STAT.STATE 4 |>.put MEM_RET_STAT.CAUSE cause |>.put MEM_RET_STAT.FAIL_EV 1
    |>.put (MEM_SPARE.STATE (s.rd MEMC.RSPARE)) (if cause = 4 then 3 else 0)

/-- What is copied of a line: one that is uncorrectable stays so (R394). -/
def copyOfLine (l : SramLine) : Verdict → SramLine
  | .clean => l
  | .fixed _ _ _ good => good
  | .bad _ _ => { SramLine.of l.data with parity := (SramLine.of l.data).parity ^^^ 3#64 }

/-- Line NEXT is read and written to the spare; `fails`: that write fails its read-back. -/
def execRetirementCopyLine (holds : Holds) (upset : SramLine) (stuck fails : Bool) (s : State) : Answer :=
  .next <| s.when (s.rd MEM_RET_STAT.STATE = 1) (fun t =>
    let b := t.rd MEMC.RBANK
    let k := t.rd MEM_RET_STAT.NEXT
    let r := t.lineRead b k 6 holds upset stuck
    if fails then r.1.retireFail 4
    else
      (r.1.putPhys (64 + t.rd MEMC.RSPARE) k (copyOfLine (r.1.getLine b k) r.2)).put MEM_RET_STAT.NEXT (k + 1)
        |>.when (k + 1 = 40960) (·.put MEM_RET_STAT.STATE 2))

/-- Accesses are held, and the map names the spare; a spare that the bank ran on before is FAILED. -/
def execRetirementSwitch (s : State) : Answer :=
  .next <| s.when (s.rd MEM_RET_STAT.STATE = 2) (fun t =>
    let b := t.rd MEMC.RBANK
    let sp := t.rd MEMC.RSPARE
    let old := t.rd (MEM_MAP.PHYS b)
    t.when (64 ≤ old) (·.put (MEM_SPARE.STATE (old - 64)) 3)
      |>.put (MEM_MAP.PHYS b) (64 + sp) |>.put (MEM_SPARE.STATE sp) 2 |>.put (MEM_SPARE.BANK sp) b
      |>.put MEM_RET_STAT.STATE 3 |>.put MEM_RET_STAT.DONE_EV 1)

end Sys2Proof.Machine
end

