-- ==== Sys2Proof/Machine/Boundary.lean ====
section
/-! DEFINITION. Multiframe boundaries of the transmitter and the receiver (R14, R206, R215 to R226, R332). -/

namespace Sys2Proof.Machine

/-- A table entry differs from the active table's. -/
def State.entryMoves (s : State) (n t : Nat) (l : List TribCfg) : Bool := cfgOf l t ≠ s.trib n t

/-- The boundary one multiframe before the target of a resize with TRIB = 1: the active table takes the shadow table as
latched (R221). -/
def State.rszTableAt (n : Nat) (s : State) : State :=
  let r := (s.chan n).rsz
  if s.rd (LDS_RSZ_STAT.STATE n) = RszSt.armed && r.trib && s.mfLeft n = 1 then
    let l := s.tribsOf n r.table
    let moved := l.filter (fun t => s.entryMoves n t r.table)
    (s.onChan n (fun c => { c with rsz := { c.rsz with resized := moved } })).each l (fun t u =>
        (u.put (TRBC.OLD n t) (u.rd (TRB_TRIB.CLIENT n t))).takeEntry n (cfgOf r.table t))
      |>.trbStat n |>.hstRefresh n
  else s

/-- Framed values wait while the channel is RESIZING, from the target boundary until CONVERGED sets (R175).  In a resize that runs in
LOCKED, whose channel state is not RESIZING, they wait too: the spec does not say (DESIGN CHOICE, log entry 43). -/
def State.framedHeld (s : State) (n : Nat) : Bool :=
  (s.rd (LDS_RSZ_STAT.STATE n) = RszSt.resizing && !s.on (LDS_CH_STATE.CONVERGED n))
    || (s.rd (LDS_RSZ_STAT.STATE n) = RszSt.armed && s.mfLeft n = 0)

/-- The boundary applies what waits for it, a recast's values among it (R14, R416). -/
def State.framedAt (n : Nat) (s : State) : State :=
  if s.framedHeld n then s
  else (s.applyFramed n).when (s.on (CSTC.RMF n)) (fun t =>
    (t.put (CST_RMF.MFN n) (t.mfn n)).put (CSTC.RMF n) 0)

/-- Profile of the multiframe that begins, and of the next: a resize that is armed changes it at its target. -/
def State.profileAt (s : State) (n left : Nat) : Option Profile :=
  let r := (s.chan n).rsz
  if s.rd (LDS_RSZ_STAT.STATE n) = RszSt.armed && !r.only && s.mfLeft n ≤ left then s.profile n r.target else s.active n

/-- CM of the entries for the next multiframe (R217). -/
def State.announceAt (n : Nat) (s : State) : State :=
  match s.profileAt n 0, s.profileAt n 1 with
  | some p, some q => if s.interop n then s else s.announce n p q (fun t => s.renews n t)
  | _, _ => s

/-- The line path begins its multiframe: tenants of a batch at M − 1 announce the inverted KI (R226). -/
def State.lineAt (n : Nat) (s : State) : State := s.lineBoundary n (fun t => s.renews n t)

/-- Steps 4 and 5 of a tributary commit at the boundary; `late`: its vote approved less than 10 µs before (R220). -/
def State.commitAt (n : Nat) (late : Bool) (s : State) : State :=
  let st := s.rd (TRB_CMT_STAT.STATE n)
  (if st = 4 then s.stepFiveAt n
   else if st = 3 && !(s.on (TRBC.FRESH n) && late) then s.stepFourAt n
   else s).put (TRBC.FRESH n) 0

/-- A transmit multiframe boundary of channel n, which runs while the channel is lit. -/
def State.txBoundary (n : Nat) (late : Bool) (s : State) : State :=
  s.addWrap (LFR_MFN_TX.MFN n) 1 |>.framedAt n |>.quarantineEnd n |>.suspendStep n |>.rszTableAt n
    |>.commitAt n late |>.rollCheck n |>.rollFlip n |>.retainedErase n |>.announceAt n |>.lineAt n |>.issueCredits n
    |>.calCommit n |>.castCheckEnd

def execTxMultiframeBoundary (n : Fin 4) (late : Bool) (s : State) : Answer :=
  .next <| s.when (s.phase n = Phase.lit) (·.txBoundary n late)

/-- A resize of tributaries alone has converged: every resized tributary's justification control is valid (R79). -/
def State.rszAgrees (s : State) (n : Nat) : Bool :=
  let c := s.chan n
  s.rd (LDS_RSZ_STAT.STATE n) = RszSt.resizing && c.rsz.only && c.rsz.rxAt.isSome
    && c.rsz.resized.all (fun t => c.recs.any (fun e => e.1 = t))

/-- A received multiframe boundary. -/
def execRxMultiframeBoundary (n : Fin 4) (s : State) : Answer :=
  let s1 := s.rxBoundary n
  .next <| s1.when (s.on (LFR_STAT.MF_LOCK n) && s1.rszAgrees n) (·.converge n)

end Sys2Proof.Machine
end

