-- ==== Sys2Proof/Machine/Queues.lean ====
section
/-! DEFINITION. DMA queues and what the PCI Express resets do to the port: chapter 19 of spec/ (R421 to R434). -/

namespace Sys2Proof.Machine

/-! ## Descriptors (R430, Tables 19.5 and 19.6) -/

/-- Word at byte offset `off` of the descriptor in entry i of queue q's ring. -/
def descWord (q i off : Nat) : Field := tableWord (0x50010000 + 0x2000 * q + 32 * i + off)

/-- Descriptor i of queue q, as the ring holds it. -/
def State.descriptor (s : State) (q i : Nat) : DmaRun :=
  let w (off : Nat) : Nat := s.rd (descWord q i off)
  ⟨bits (w 0) 28 4, bit (w 0) 24 = 1, bits (w 0) 8 16, bits (w 0) 0 5, w 8 + 2 ^ 32 * w 0xC, w 0x10 + 2 ^ 32 * w 0x14⟩

/-- The descriptor of entry i is none that Table 19.8 lets run: BAD_DESC. -/
def State.badDesc (s : State) (q i : Nat) : Bool :=
  let d := s.descriptor q i
  let c := s.rd (descWord q i 0)
  !(d.op = 1 || d.op = 2) || d.count < 1 || 16 < d.count || d.list % 16 ≠ 0 || d.cpl % 16 ≠ 0
    || bits c 25 3 ≠ 0 || bits c 5 3 ≠ 0 || s.rd (descWord q i 4) ≠ 0 || s.rd (descWord q i 0x1C) ≠ 0

/-- The descriptor that a queue carries out or has halted. -/
def State.dmaOf (s : State) (q : Nat) : DmaRun := (keyed q s.dma).getD ⟨0, false, 0, 0, 0, 0⟩

def State.setDma (q : Nat) (d : DmaRun) (s : State) : State := { s with dma := setKeyed q d s.dma }

/-- STATUS and the completion record of the descriptor (Tables 19.5, 19.6). -/
def State.dmaRecord (q : Nat) (done : Bool) (s : State) : State :=
  let i := s.rd (MGT_DQ_STAT.DESC q)
  let cause := s.rd (MGT_DQ_STAT.CAUSE q)
  let e := s.rd (MGT_DQ_STAT.ERRIDX q)
  let d := s.dmaOf q
  s.put (descWord q i 0x18) ((if done then 2 ^ 31 else 0) + cause * 2 ^ 20 + e * 2 ^ 16)
    |>.when (d.cpl ≠ 0 && s.portSends) (·.emit (.hostMemory d.cpl
      (leBytes 2 d.id ++ leBytes 1 cause ++ leBytes 1 e ++ leBytes 1 i ++ leBytes 1 q ++ leBytes 2 0 ++ leBytes 8 s.time)))

/-- The descriptor completes: STATUS, the record, CI and its count, then the vector. -/
def State.dmaComplete (q : Nat) (s : State) : State :=
  let d := s.dmaOf q
  s.dmaRecord q true |>.addWrap (MGT_DQ_CI.CI q) 1 |>.bump (MGT_DQ_CNT.DONE q) |>.put (MGT_DQ_STAT.DONE_EV q) 1
    |>.put (MGT_DQ_STAT.STATE q) 0 |>.dmaGot q |>.when (d.notify && s.on (MGT_DQ_CTRL.VEC_EN q)) (·.sendMsix (16 + q))

/-- The element that ERRIDX names faults, and the queue halts (R433). -/
def State.dmaFault (q cause : Nat) (s : State) : State :=
  s.put (MGT_DQ_STAT.STATE q) 2 |>.put (MGT_DQ_STAT.CAUSE q) cause |>.dmaRecord q false |>.bump (MGT_DQ_CNT.FAULTS q)
    |>.put (MGT_DQ_STAT.FAULT_EV q) 1 |>.raise 129 |>.dmaGot q

def State.dmaRuns (s : State) (q : Nat) : Bool := s.rd (MGT_DQ_STAT.STATE q) = 1

/-- Every queue with a running descriptor faults. -/
def State.dmaFaultAll (cause : Nat) (s : State) : State := s.each [0, 1, 2, 3] (fun q t => t.when (t.dmaRuns q) (·.dmaFault q cause))

/-- The descriptor of entry i is read, with its list, and its elements start at ERRIDX. -/
def State.dmaBegin (q i : Nat) (s : State) : State :=
  let s1 := (s.setDma q (s.descriptor q i)).put (MGT_DQ_STAT.DESC q) i |>.put (MGT_DQ_STAT.CAUSE q) 0
    |>.put (MGT_DQ_STAT.STATE q) 1
  if s.badDesc q i then s1.dmaFault q 9
  else if !s.on MGT_STAT.BME then s1.dmaFault q 7
  else s1.dmaNeed q (16 * (s.descriptor q i).count)

/-- The next posted descriptor starts. -/
def execDmaDescriptorStart (q : Fin 4) (s : State) : Answer :=
  let ci := s.rd (MGT_DQ_CI.CI q)
  .next <| s.when (s.answers && s.on (MGT_DQ_CTRL.EN q) && s.rd (MGT_DQ_STAT.STATE q) = 0
      && ci ≠ s.rd (MGT_DQ_PI.PI q) && !s.on MGT_STAT.PWARN) (fun t =>
    (t.put (descWord q ci 0x18) 0 |>.put (MGT_DQ_STAT.ERRIDX q) 0).dmaBegin q ci)

/-! ## Queue registers (R430, R433) -/

/-- MGT_DQ_CTRL: clearing EN acts as ABORT does. -/
def queueCtrlHook (q : Nat) : Hook :=
  ⟨fun _ _ _ => 0, fun _ s => (s.when (s.dmaRuns q && !s.on (MGT_DQ_CTRL.EN q)) (·.dmaFault q 8), 0)⟩

/-- MGT_DQ_PI: descriptors are posted when the ring has room for them; each keeps the window that posted it (R438). -/
def postHook (win q : Nat) (s0 : State) : Hook :=
  let old := s0.rd (MGT_DQ_PI.PI q)
  let posted (v : Nat) : Nat := (v + 256 - old) % 256
  ⟨fun s _ v => if 255 - (old + 256 - s.rd (MGT_DQ_CI.CI q)) % 256 < posted v then 4 else 0,
   fun l s => match wrote l (MGT_DQ_PI.PI q) with
    | some v => (s.each (List.range (posted v)) (fun k t => t.put (DMAC.WIN q ((old + k) % 256)) win), 0)
    | none => (s, 0)⟩

/-- MGT_DQ_CMD: ABORT of a running descriptor; RESUME and SKIP of a halted one, while EN is 1. -/
def queueCmdHook (q : Nat) : Hook :=
  ⟨fun s f v =>
     if v = 0 then 0
     else if f = MGT_DQ_CMD.ABORT q then (if s.dmaRuns q then 0 else badState)
     else if s.rd (MGT_DQ_STAT.STATE q) = 2 && s.on (MGT_DQ_CTRL.EN q) then 0 else badState,
   fun l s =>
    (if wroteOne l (MGT_DQ_CMD.ABORT q) then s.dmaFault q 8
     else if wroteOne l (MGT_DQ_CMD.RESUME q) then s.dmaBegin q (s.rd (MGT_DQ_STAT.DESC q))
     else if wroteOne l (MGT_DQ_CMD.SKIP q) then s.dmaComplete q
     else s, 0)⟩

def queueAddr (q off : Nat) : Nat := 0x90100 + 0x20 * q + off

def execDmaQueuePost (win : Fin 7) (q : Fin 4) (value : Word) (be : Fin 16) (s : State) : Answer :=
  .next (s.hostWrite ⟨win, queueAddr q 8, value.toNat, be⟩ (postHook win q s))

def execDmaQueueResume (win : Fin 7) (q : Fin 4) (value : Word) (be : Fin 16) (s : State) : Answer :=
  .next (s.hostWrite ⟨win, queueAddr q 4, value.toNat, be⟩ (queueCmdHook q))

def execDmaQueueSkip (win : Fin 7) (q : Fin 4) (value : Word) (be : Fin 16) (s : State) : Answer :=
  .next (s.hostWrite ⟨win, queueAddr q 4, value.toNat, be⟩ (queueCmdHook q))

/-- ABORT, or a write of MGT_DQ_CTRL that clears EN (`ctrl`). -/
def execDmaQueueAbort (win : Fin 7) (q : Fin 4) (ctrl : Bool) (value : Word) (be : Fin 16) (s : State) : Answer :=
  .next (if ctrl then s.hostWrite ⟨win, queueAddr q 0, value.toNat, be⟩ (queueCtrlHook q)
    else s.hostWrite ⟨win, queueAddr q 4, value.toNat, be⟩ (queueCmdHook q))

/-! ## Completions of device reads (R428, R429) -/

/-- The client's own error of a read that ended in error (Table 19.4); `cause`: 0x1, or 0x2 for a timeout. -/
def State.readError (c cause : Nat) (s : State) : State :=
  let s1 := s.bump MGT_DMA_CNT.ERR |>.put MGT_DMA_STAT.ERR_EV 1
  if c < 4 then
    if s1.dmaRuns c then s1.dmaFault c cause else s1.raise 129
  else
    let s2 := s1.raise 129
    if c = 4 then s2.when (s2.rd KEY_BULK_STAT.STATE = Bulk.run || s2.rd KEY_BULK_STAT.STATE = Bulk.paused) (·.bulkFault 0xA)
    else if c = 5 then s2.when (s2.cst = Cst.fetch) (·.castRefuse [imageEntry 0x43])
    else s2.put DMAC.SUP_ERR 1

/-- A completion for a read of client c: its data, or an error; one that belongs to no outstanding read is discarded. -/
def execDmaReadCompletion (c : Fin 7) (ok : Bool) (s : State) : Answer :=
  .next <| s.when s.answers (fun t =>
    if t.rd (DMAC.OUT c) = 0 then t.bump MGT_DMA_CNT.LATE
    else (t.dmaRead c).when (!ok) (·.readError c 0x1))

/-- A read of client c has had no completion within the timeout. -/
def execDmaCompletionTimeout (c : Fin 7) (s : State) : Answer :=
  .next <| s.when (s.answers && s.rd (DMAC.OUT c) ≠ 0) (fun t => (t.dmaRead c).readError c 0x2)

/-! ## Link and configuration space (R422, R434, Table 19.9) -/

/-- Clients that wait for device reads take their errors. -/
def State.clientErrors (s : State) : State :=
  s.dmaFaultAll 7
    |>.when (s.rd KEY_BULK_STAT.STATE = Bulk.run) (·.bulkFault 0xA)
    |>.when (s.cst = Cst.fetch && !s.on CSTC.SRC) (·.castRefuse [imageEntry 0x43])
    |>.when (s.rd (DMAC.OUT 6) ≠ 0 || s.rd (DMAC.NEED 6) ≠ 0) (·.put DMAC.SUP_ERR 1)
    |>.dmaAbort

/-- Configuration space and the MSI-X table to their reset values. -/
def State.configReset (s : State) : State :=
  s.clear [MGT_STAT.BME, MGT_STAT.DSTATE, MGTC.MSIX_EN, MGTC.FMASK] |>.put MGTC.MRRS 2 |>.put MGTC.RELAX 1
    |>.put MGTC.TIMEOUT 50000
    |>.each (List.range 64) (fun v t => t.clear [MSIX.ADDR_LO v, MSIX.ADDR_HI v, MSIX.DATA v, MSIX.PEND v] |>.put (MSIX.MASK v) 1)

/-- What each PCI Express reset does. -/
def State.portReset (s : State) : State := s.configReset.clientErrors

/-- The link is down. -/
def State.linkOff (s : State) : State := s.clear [MGT_STAT.LINK_UP, MGT_STAT.SPEED, MGT_STAT.WIDTH]

def execPcieFunctionLevelReset (s : State) : Answer :=
  .next <| s.when (s.answers && s.on MGT_STAT.LINK_UP) (fun t => (t.put MGT_STAT.FLR_EV 1).portReset)

/-- The link retrains, which PCIE_LINK_UP ends. -/
def execPcieHotReset (s : State) : Answer :=
  .next <| s.when (s.answers && s.on MGT_STAT.LINK_UP) (fun t => (t.put MGT_STAT.HOTRST_EV 1 |>.linkOff).portReset)

def execPcieLinkDown (s : State) : Answer :=
  .next <| s.when (s.answers && s.on MGT_STAT.LINK_UP) (fun t => (t.put MGT_STAT.LINK_EV 1 |>.linkOff).portReset)

/-- The link trains to L0, at a speed and width of Table 19.1. -/
def execPcieLinkUp (speed : LinkSpeed) (width : LinkWidth) (s : State) : Answer :=
  .next <| s.when (s.answers && !s.on MGT_STAT.LINK_UP) (fun t =>
    t.put MGT_STAT.LINK_UP 1 |>.put MGT_STAT.SPEED speed.code |>.put MGT_STAT.WIDTH width.lanes)

/-- Bus Master Enable is cleared: no new device request. -/
def State.busMasterOff (s : State) : State :=
  (s.put MGT_STAT.BME 0).dmaFaultAll 7

def execBusMasterEnableClear (s : State) : Answer :=
  .next <| s.when (s.answers && s.on MGT_STAT.LINK_UP) State.busMasterOff

/-- A configuration write of one of the controls that the port follows. -/
def execPcieConfigurationWrite (w : ConfigWrite) (s : State) : Answer :=
  .next <| s.when (s.answers && s.on MGT_STAT.LINK_UP) (fun t => match w with
    | .busMaster true => (t.put MGT_STAT.BME 1).dmaIssue
    | .busMaster false => t.busMasterOff
    | .deviceControl mrrs relax => t.put MGTC.MRRS mrrs.val |>.flag MGTC.RELAX relax
    | .completionTimeout us => t.put MGTC.TIMEOUT us
    | .msix en mask => (t.flag MGTC.MSIX_EN en |>.flag MGTC.FMASK mask).flushMsix
    | .powerState d3 => (t.put MGT_STAT.DSTATE (if d3 then 3 else 0)).dmaIssue)

end Sys2Proof.Machine
end

