-- ==== Sys2Proof/Machine/Power.lean ====
section
/-! DEFINITION. Power, resets, boot and the power warning: chapter 20 of spec/ (R445 to R462, R487 to R489). -/

namespace Sys2Proof.Machine

/-! ## What a reset keeps (Tables 20.4 and 22.11) -/

/-- Fields that outlive a device reset: the pins, the rails and clocks, the reset controller, the plinth, fuses, and what
the store holds. -/
def keptFields : List Field :=
  [PIN.SAFE_A, PIN.SAFE_B, PIN.TAMPER, PIN.ZEROISE, PIN.RESET, PIN.WARN, PWRC.OUT, PWRC.INT, PWRC.HOLD, PWRC.CAUSE,
   PWRC.COUNT, PWRC.NO_MREF, PWRC.NO_LREF, PWRC.PLR, PWRC.SN_LO, PWRC.SN_HI, KEYC.SUB, KEYC.ROOT, KEYC.ROOTST,
   KEY_RTC.SEC, CST_INFO.AUTH_REQ, SUP_FW_STAT.SVN_MIN, SUP_FW_STAT.NEXT_SLOT, CAL_LOG_PTR.WRAP, CAL_LOG_PTR.PTR,
   CAL_STORE.WRITES]
  ++ ([0, 1, 2, 3, 4, 5, 6, 7].flatMap (fun i => [KEY_PLOG.CAUSE i, KEY_PLOG.MODE i, KEY_PLOG.TIME i]))

/-- The bit address lies in an area of words that starts at a and holds so many bytes. -/
def inArea (a bytes k : Nat) : Bool := 8 * a ≤ k && k < 8 * (a + bytes)

/-- What a reset keeps of the numeric state; a power-on reset loses the memory error log. -/
def keepsKey (power : Bool) (k : Nat) : Bool :=
  keptFields.any (fun f => f.key = k) || inArea 0x8A00000 0x1000 k || inArea (PWRC.WORD 0).addr 0x4000 k
    || (!power && (inArea 0x8C00000 0x4000 k || k = MEM_LOG_PTR.WRAP.key || k = MEM_LOG_PTR.PTR.key))

/-- Everything volatile takes its reset value. -/
def State.wipe (power : Bool) (s : State) : State :=
  { State.reset with
    pending := s.pending, regs := s.regs.filter (fun p => keepsKey power p.1), free := s.free, out := s.out,
    store := s.store, fw := s.fw, bootImage := s.bootImage }

/-- A write of the boot casting region that a reset or a power loss cuts leaves it without a valid image (R419, R452). -/
def State.cutWrites (s : State) : State := s.castStoreCut

/-- RESET as a device reset, of a kind of Table 20.10 (R450); the engines show the safety inputs as they stand (R100, R105). -/
def State.deviceReset (cause : Nat) (s : State) : State :=
  if s.mode = Mode.keep || s.mode = Mode.reset then s
  else (s.cutWrites.wipe false |>.put PWRC.CAUSE cause |>.bump PWRC.COUNT).each channels (fun n t => t.safeShow n)

/-- KEEP, or the unpowered state, with every effect of an entry to RESET (R445). -/
def State.enterKeep (s : State) : State := (s.cutWrites.wipe true |>.put PWRC.HOLD 0).put DEV_MODE.MODE Mode.keep

/-- The plinth has lost both its supplies: the root key, its clock, its record and AUTH_REQ are gone (R446). -/
def State.plinthLost (s : State) : State :=
  (s.rootLost.clear [KEY_RTC.SEC, KEYC.SUB, CST_INFO.AUTH_REQ]).each [0, 1, 2, 3, 4, 5, 6, 7] (fun i t =>
    t.clear [KEY_PLOG.CAUSE i, KEY_PLOG.MODE i, KEY_PLOG.TIME i])

/-- DEV_PWR_STAT shows the rails and the time source. -/
def State.showPower (s : State) : State :=
  s.when s.answers (fun t =>
    t.put DEV_PWR_STAT.RAIL_OK (63 - t.rd PWRC.OUT) |>.flag DEV_PWR_STAT.VKEEP_OK (!t.rdBit PWRC.OUT 0)
      |>.put DEV_PWR_STAT.TSRC (if !t.on PWRC.NO_MREF then 0 else if !t.on PWRC.NO_LREF then 1 else 2)
      |>.flag (MON_STAT.OSC 4) (t.on PWRC.NO_MREF))

/-! ## Rails (R445 to R447) -/

/-- Every main rail is in range. -/
def State.railsUp (s : State) : Bool := s.rd PWRC.OUT / 2 = 0

/-- Main rail r + 1 of RAIL_OK leaves range.  The internal reset acts at once; `brief`: the rail is back before 1 µs, so
that the device stays in RESET; otherwise KEEP, or the unpowered state where VKEEP is out too. -/
def execMainRailLoss (r : Fin 5) (brief : Bool) (s : State) : Answer :=
  let s1 := s.put PWRC.INT 1
  .next <| if brief then s1.deviceReset (if s.on PIN.RESET then 2 else 4)
    else
      let s2 := s1.putBit PWRC.OUT (r + 1) true
      (if s.mode = Mode.keep then s2 else s2.enterKeep).when (!s2.vioOk && s2.rdBit PWRC.OUT 0) State.plinthLost

/-- The last main rail comes into range: a power-on reset. -/
def execMainRailsUp (s : State) : Answer :=
  .next <| s.when (s.mode = Mode.keep) (fun t =>
    t.put PWRC.OUT (t.rd PWRC.OUT % 2) |>.put PWRC.INT 1 |>.put PWRC.CAUSE 1 |>.put PWRC.COUNT 0
      |>.put DEV_MODE.MODE Mode.reset |>.each channels (fun n u => u.safeShow n))

def execVkeepAbsent (s : State) : Answer :=
  .next <| s.when s.railsUp (fun t => (t.putBit PWRC.OUT 0 true).showPower)

def execVkeepRestored (s : State) : Answer :=
  .next <| s.when s.railsUp (fun t => (t.putBit PWRC.OUT 0 false).showPower)

/-! ## Clocks (R461) -/

/-- MREFCLK goes absent; `lref`: LREFCLK0 is present. -/
def execMrefclkLoss (lref : Bool) (s : State) : Answer :=
  .next ((s.put PWRC.NO_MREF 1).flag PWRC.NO_LREF (!lref)).showPower

def execMrefclkRestored (s : State) : Answer := .next (s.put PWRC.NO_MREF 0).showPower

/-! ## Boot (R453, Table 20.5) -/

/-- Step 1: BOOT, DEV_TIME from 0, and the first request to the regulator; the link trains.  A TAMPER_N or ZEROISE_N that is
still active enters LOCKDOWN again (R299). -/
def State.enterBoot (s : State) : State :=
  ({ s with time := 0 }.setMode Mode.boot |>.put DEV_RST_STAT.CAUSE (s.rd PWRC.CAUSE)
    |>.put DEV_RST_STAT.COUNT (s.rd PWRC.COUNT) |>.put DEV_SERIAL_LO.SN (s.rd PWRC.SN_LO)
    |>.put DEV_BOOT_STAT.STEP 1 |>.showPower
    |>.flag KEY_STAT.TAMPER_PIN (s.on PIN.TAMPER) |>.flag KEY_STAT.ZEROISE_PIN (s.on PIN.ZEROISE)
    |>.requestV (s.rd FAB_VCORE_LIM.IDLE)).when (s.on PIN.TAMPER || s.on PIN.ZEROISE) State.enterLockdown

/-- RESET ends: the rails are up, RESET_N is released, and neither the internal reset nor the hold of R451 lasts. -/
def State.tryBoot (s : State) : State :=
  s.when (s.mode = Mode.reset && s.railsUp && !s.on PIN.RESET && !s.on PWRC.INT && !s.on PWRC.HOLD) State.enterBoot

def execInternalResetEnd (s : State) : Answer := .next (s.when s.railsUp (fun t => (t.put PWRC.INT 0).tryBoot))

def execResetNAssert (s : State) : Answer := .next ((s.put PIN.RESET 1).deviceReset 2)

def execResetNRelease (s : State) : Answer := .next (s.put PIN.RESET 0).tryBoot

/-- DEV_RST_CMD: GO with CODE 0x5A (R451). -/
def resetHook (value : Nat) : Hook :=
  let ok := DEV_RST_CMD.CODE.of value = 0x5A
  ⟨fun _ f v => if f = DEV_RST_CMD.GO && v = 1 && !ok then 4 else 0,
   fun l s => (s.when (wroteOne l DEV_RST_CMD.GO && ok) (fun t => (t.deviceReset 3).put PWRC.HOLD 1), 0)⟩

def execDeviceResetCommand (win : Fin 7) (value : Word) (be : Fin 16) (s : State) : Answer :=
  .next (s.hostWrite ⟨win, 0x40, value.toNat, be⟩ (resetHook value.toNat))

def execDeviceResetHoldEnd (s : State) : Answer := .next (s.put PWRC.HOLD 0).tryBoot

/-- Step 2: the root key, AUTH_REQ and the casting key; `good`: the root key passes its check word (R282, R299). -/
def State.bootPlinth (good : Bool) (s : State) : State :=
  let s1 := s.put KEY_STAT.ROOT (s.rd KEYC.ROOTST)
  (s1.when (s.rd KEYC.ROOTST = 1 && !good) (fun t => (t.plinthRecord 7).rootLost)).deriveCasting

/-- The lowest spare bank that is FREE. -/
def State.freeSpare (s : State) : Option Nat := [0, 1, 2, 3].find? (fun k => s.rd (MEM_SPARE.STATE k) = 0)

/-- A bank that fails its self-test runs on the lowest FREE spare, without a copy; without one its channel is fenced, or the
device is held in BOOT (R395). -/
def State.bootBank (b : Nat) (s : State) : State :=
  match s.freeSpare with
  | some k => s.put (MEM_MAP.PHYS b) (64 + k) |>.put (MEM_SPARE.STATE k) 2 |>.put (MEM_SPARE.BANK k) b
  | none =>
    let s1 := s.put MEM_STAT.BOOT_FAIL 1
    if b < 56 then (s1.putBit (FNC.MEM (b / 14)) (b % 14) true).fenceChannel (b / 14) else s1.put DEV_BOOT_STAT.HOLD 1

/-- Step 3: `banks` fail, of the 64 banks and the spares 64 to 67. -/
def State.bootBanks (banks : List Nat) (s : State) : State :=
  (s.each ((List.range 4).filter (fun k => banks.contains (64 + k))) (fun k t => t.put (MEM_SPARE.STATE k) 3)).each
    ((List.range 64).filter (fun b => banks.contains b)) (fun b t => t.bootBank b)

/-- Step 4: a unit of channel n fails its self-test, by the classes of FENCE_CLEAR. -/
def State.bootUnit (n : Nat) (u : FenceUnit) (s : State) : State :=
  match u.1 with
  | 1 => s.when (u.2 < 544) (·.sliceFault n u.2 1)
  | 2 => s.when (u.2 < 96 && s.rd (LDS_TILE_STAT.STATE n u.2) ≠ 2) (·.tileFence n u.2 1)
  | 3 => s.when (u.2 < 24 && s.rd (FEC_ENG_STAT.STATE n u.2) ≠ 2) (·.engineFence n u.2 1)
  | 4 => s.when (u.2 < 16) (·.pipeFence n u.2 [])
  | 5 => s.when (u.2 < 4) (·.iterFence u.2)
  | 6 => s.when (u.2 < 16) (·.fenceLane n u.2 1)
  | 8 => s.hostPllFault n
  | 10 => (s.put (FNC.BANK n) 1).fenceChannel n
  | 12 => s.when (u.2 < 2 && !s.on (pllFaultBit n u.2)) (·.pllFault n u.2)
  | _ => s

/-- Self-test failures in the order taken: slices by converter position, the spares first (R114), then the others as they come. -/
def bootOrder (units : List (Nat × Nat × Nat)) : List (Nat × Nat × Nat) :=
  let l := units.filter (fun u => u.1 < 4)
  let slices := channels.flatMap (fun n => (List.range 544).filterMap (fun k => if l.contains (n, 1, k) then some (n, 1, k) else none))
  slices.filter (fun u => 64 ≤ u.2.2 % 68) ++ slices.filter (fun u => u.2.2 % 68 < 64) ++ l.filter (fun u => u.2.1 ≠ 1)

/-- Step 5 for scope sc: its regions are read, and its set in force selected (R327). -/
def State.bootScope (sc : Nat) (s : State) : State :=
  let s1 := s.each [0, 1, 2] (fun r t =>
    let v := t.copyValid sc r
    (t.flag (validField sc r) v).when (!v) (·.calLog 5 sc 0 r 0 0))
  match s1.newestCopy sc with
  | some r =>
    let s2 := { s1 with sets := memCopy s1.store (regionBase sc r) (setBase sc) 0x2000 s1.sets }.showSet sc (some r)
    s2.when (r = 0) (·.calLog 6 sc 0 0 0 0)
  | none => s1.calLog 7 sc 0 0 0 0

/-- A valid power-loss record is copied to table space, and its region erased again (R457). -/
def State.bootRecord (s : State) : State :=
  s.when (s.on PWRC.PLR) (fun t =>
    (t.each (List.range 3809) (fun i u => (u.put (tableWord (0x8F20000 + 4 * i)) (u.rd (PWRC.WORD i))).put (PWRC.WORD i) 0))
      |>.put DEV_BOOT_STAT.PLR_VALID 1 |>.put PWRC.PLR 0)

/-- Step 5. -/
def State.bootStore (s : State) : State :=
  let s1 := s.each [0, 1, 2, 3, 4] (fun sc t => t.bootScope sc)
  (s1.when s1.storeThin (·.storeState 2)).bootRecord

/-- Step 6 begins: the supervisors leave reset and load their images. -/
def State.supsBoot (s : State) : State := s.each [0, 1, 2] (fun i t => (t.supRelease i).put (SUPC.RETURN i) 0)

/-- Step 6 ends: without a valid image the device goes to LOCKDOWN (step 6a). -/
def State.bootFirmware (s : State) : State :=
  if [0, 1, 2].any (fun i => s.sup i = Sup.boot && s.rd (SUPC.IMG i) ≠ 0) then s.put DEV_BOOT_STAT.STEP 7
  else (s.put DEV_BOOT_STAT.HOLD 2).enterLockdown

/-- Step 8: CAST, and the stored casting, a full one that is not a maquette, goes to its check (R419). -/
def State.bootCast (s : State) : State :=
  let m := s.bootImage
  let s1 := s.setMode Mode.cast |>.put DEV_BOOT_STAT.STEP 9 |>.flag CST_INFO.STORE_VALID (!m.isEmpty)
    |>.put CST_INFO.STORE_LEN m.length
  if m.isEmpty || imgRecast m || imgMaquette m then s1.put DEV_BOOT_STAT.HOLD 3
  else { s1 with image := m }.put CSTC.BOOT 1 |>.put CSTC.OP 1 |>.put CST_STAT.STATE Cst.check

/-- The boot step in progress completes, and the next begins.  What the self-tests found: `root`, the root key's check word
is right; `banks` and `units` (of a channel: class and index) that fail.  Steps 9 to 11 are the casting's own commands. -/
def execBootStepComplete (root : Bool) (banks : List Nat) (units : List (Nat × Nat × Nat)) (s : State) : Answer :=
  .next <| s.when (s.mode = Mode.boot && s.rd DEV_BOOT_STAT.HOLD ≠ 1) (fun t =>
    match t.rd DEV_BOOT_STAT.STEP with
    | 1 => t.put DEV_BOOT_STAT.STEP 2
    | 2 => (t.bootPlinth root).put DEV_BOOT_STAT.STEP 3
    | 3 => let u := t.bootBanks banks
           u.when (u.rd DEV_BOOT_STAT.HOLD ≠ 1) (·.put DEV_BOOT_STAT.STEP 4)
    | 4 => (t.each (bootOrder units) (fun u v => v.bootUnit u.1 u.2)).put DEV_BOOT_STAT.STEP 5
    | 5 => (t.bootStore.put DEV_BOOT_STAT.STEP 6).supsBoot
    | 6 => t.when t.supsReady State.bootFirmware
    | 7 => (t.cplxServe).put DEV_BOOT_STAT.STEP 8
    | 8 => t.bootCast
    | _ => t)

/-! ## Power warning (R455 to R459, Table 20.6) -/

/-- Step 2: what runs stops, pauses or ends. -/
def State.warnStop (s : State) : State :=
  s.dmaFaultAll 0xA
    |>.when (s.rd KEY_BULK_STAT.STATE = Bulk.run) (·.put KEY_BULK_STAT.STATE Bulk.paused)
    |>.when s.scrubBusy (fun t => (t.put MEM_SCRUB_STAT.STATE 2).put MEM_SCRUB_STAT.PAUSE 3)
    |>.when (s.rd MEM_RET_STAT.STATE = 1 || s.rd MEM_RET_STAT.STATE = 2) (·.retireFail 5)
    |>.when (s.rd CAL_RUN_STAT.STATE = 5 || s.rd CAL_RUN_STAT.STATE = 6) (·.calFail 0xB)
    |>.castAbort

/-- Step 3: the device's own snapshots; one that is BUSY completes as it is (R456). -/
def State.warnSnaps (s : State) : State :=
  (s.each channels (fun n t => (t.put (PWRC.LSEQ n) (t.rd (FABC.SEQ n))).putBit FAB_SNAP_STAT.BUSY n true)).each
    [0, 1, 2, 3, 4] (fun k t => (t.put (PWRC.CSEQ k) (t.rd (PMC.SEQ k))).when (bit (t.rd PMC_SNAP_STAT.BUSY) k = 0) (·.pmcSnap k))

/-- Step 4: a write of the store in progress is completed when no more than 1 ms of it remains (`short`), and is otherwise
abandoned (R335). -/
def State.warnStore (short : Bool) (s : State) : State :=
  if s.rd CAL_RUN_STAT.STATE = 4 then
    if short then
      let t := s.storeWritten true
      t.when (t.rd CAL_RUN_STAT.STATE = 4) (·.calLog 0xA (t.rd CAL_RUN_STAT.SCOPE) 0 (t.rd CALC.REGION) 0 0)
        |>.when (4 ≤ t.rd CAL_RUN_STAT.STATE && t.rd CAL_RUN_STAT.STATE ≤ 6) (·.calFail 0xB)
    else (s.calLog 0xA (s.rd CAL_RUN_STAT.SCOPE) 0 (s.rd CALC.REGION) 0 0 |>.calFail 0xB).putBit PWRC.FLAGS 0 true
  else if s.cst = Cst.storing then
    if short then s.castStored else (s.castStoreCut.castAbandon).putBit PWRC.FLAGS 0 true
  else s

/-- PWR_WARN_N goes active. -/
def execPowerWarning (short : Bool) (s : State) : Answer :=
  .next <| (s.put PIN.WARN 1).when (s.answers && !s.on DEV_PWR_STAT.WARN) (fun t =>
    let recast := t.castOpen && t.plan.recast
    t.put DEV_PWR_STAT.WARN 1 |>.put DEV_PWR_STAT.WARN_EV 1 |>.put MGT_STAT.PWARN 1 |>.put DEV_PWR_STAT.PLR_DONE 0
      |>.raise 1 |>.put PWRC.DUE 1 |>.put PWRC.FLAGS (if recast then 2 else 0) |>.put PWRC.T0 t.time
      |>.put PWRC.RTC0 (t.rd KEY_RTC.SEC) |>.warnStop |>.warnSnaps |>.warnStore short)

/-- The words of the power-loss record, the check word apart (Table 20.7). -/
def State.plrWords (s : State) : List Nat :=
  let area (a k : Nat) : List Nat := (List.range k).map (fun i => s.rd (tableWord (a + 4 * i)))
  let l := ofBits (channels.map (fun n => s.rd (FABC.SEQ n) ≠ s.rd (PWRC.LSEQ n)))
  let c := ofBits ([0, 1, 2, 3, 4].map (fun k => s.rd (PMC.SEQ k) ≠ s.rd (PWRC.CSEQ k)))
  [0x524C504A, 1 + 256 * s.rd PWRC.FLAGS, s.rd PWRC.T0 % 2 ^ 32, s.rd PWRC.T0 / 2 ^ 32, s.rd PWRC.RTC0, l + 256 * c]
    ++ List.replicate 10 0 ++ area 0x8400000 512 ++ [0, 1, 2, 3].flatMap (fun k => area (pmcArea k) 784) ++ area (pmcArea 4) 144

/-- The record is programmed, its check word last. -/
def State.plrProgram (s : State) : State :=
  let w := s.plrWords
  (s.putWords (PWRC.WORD 0).addr (w ++ [crc32c (w.flatMap (leBytes 4))])).put PWRC.PLR 1 |>.put DEV_PWR_STAT.PLR_DONE 1 |>.put PWRC.DUE 0

def execPowerLossRecordProgrammed (s : State) : Answer :=
  .next <| s.when (s.on DEV_PWR_STAT.WARN && s.on PWRC.DUE) State.plrProgram

/-- PWR_WARN_N has been inactive for 10 ms with the rails up. -/
def execPowerWarningEnd (s : State) : Answer :=
  .next <| (s.put PIN.WARN 0).when (s.on DEV_PWR_STAT.WARN && s.railsUp) (fun t =>
    t.put MGT_STAT.PWARN 0 |>.put DEV_PWR_STAT.WARN 0 |>.put DEV_PWR_STAT.WARN_ABORT 1)

end Sys2Proof.Machine
end

