-- ==== Sys2Proof/Machine/Host.lean ====
section
/-! DEFINITION. The whole register map as the host meets it: what a write of any word does, what a read returns, and what it
leaves behind (R12 to R16, R423, R424, R440, R461). -/

namespace Sys2Proof.Machine

/-! ## Writes -/

/-- MGT block, at an address. -/
def mgtHook (win a : Nat) (s0 : State) : Hook :=
  let q := (a - 0x90100) / 0x20
  if a < 0x90100 || 0x90180 ≤ a then .plain
  else hookAt ((a - 0x90100) % 0x20) [(0, queueCtrlHook q), (4, queueCmdHook q), (8, postHook win q s0)]

/-- The hook of any word of the map. -/
def hookOf (win a value : Nat) (s0 : State) : Hook :=
  if a = 0x40 then resetHook value
  else if 0x90000 ≤ a && a < 0xA0000 then mgtHook win a s0
  else if a = 0x5000060 then zeroiseHook value
  else if 0x20000 ≤ a && a < 0x30000 then hookAt a [(0x20030, cplxHook value), (0x20104, mbxPostHook win s0)]
  else if 0x70000 ≤ a && a < 0x90000 then hookAt a [(0x70010, scrubHook), (0x70030, retireHook), (0x80000, castHook value)]
  else blockHook win a value s0

/-- The MSI-X table, which no window guards (R425, Table 19.3). -/
def inMsixTable (a : Nat) : Bool := 0x50000000 ≤ a && a < 0x50000400

/-- A write of one word of the MSI-X table. -/
def State.msixWrite (a value : Nat) (s : State) : State :=
  if a % 16 = 12 then (s.put (MSIX.MASK ((a - 0x50000000) / 16)) value).flushMsix else s.put (tableWord a) value

/-- A host write of a word at any address: BAR0, or BAR2 at 0x5000_0000. -/
def State.writeAt (w : Wr) (s : State) : State :=
  if inMsixTable w.addr then s.when (s.answers && s.on MGT_STAT.LINK_UP && w.be = 15) (·.msixWrite w.addr w.value)
  else if dropsWrite w.addr then s
  else s.hostWrite w (hookOf w.win w.addr w.value s)

def execRegisterWrite (win : Fin 7) (addr value : Word) (be : Fin 16) (s : State) : Answer :=
  .next (s.writeAt ⟨win, addr.toNat, value.toNat, be⟩)

/-! ## What a read returns -/

/-- Sources of word w that a test holds for, as a word. -/
def sourceWord (w : Nat) (p : Nat → Bool) : Nat := ofBits ((List.range 32).map (fun b => p (32 * w + b)))

/-- IRQ words: pending and mask bits, the levels and the words with an eligible source (Table 16.5). -/
def State.irqView (s : State) (a : Nat) : Nat :=
  let w := a % 0x100 / 4
  if a / 0x100 = 0x304 then sourceWord w (fun N => s.on (IRQ_PEND N))
  else if a / 0x100 = 0x307 then sourceWord w (fun N => s.on (IRQ_MASK N))
  else if a = 0x30010 then ofBits ((List.range 16).map (fun l => (s.eligLevels 0).contains l))
  else if a = 0x30028 || a = 0x3002C then
    ofBits ((List.range 32).map (fun i => allSources.any (fun N => N / 32 = i + 8 * (a - 0x30028) && s.eligible 0 N)))
  else s.readWord a

/-- Time since the last TELEMETRY in 10 ms, saturating (Table 11.10). -/
def State.telAge (s : State) (n : Nat) : Nat :=
  let t := s.rd (ISCC.TEL_AT n)
  if t = 0 then 0xFFFF else Nat.min 0xFFFF ((s.time + 1 - t) / 10000000)

/-- Word of a channel's windows (Table 22.3). -/
def State.chanView (s : State) (n a : Nat) : Nat :=
  let off := a % 0x1000000
  if off = 0x300050 then s.rd (FECC.BITS n) % 2 ^ 32
  else if off = 0x300058 then s.rd (FECC.ERRS n) % 2 ^ 32
  else if off = 0x400004 then s.readWord a + (if s.on (LFR_CTRL.G2 n) then 2 ^ 16 else 0)
  else if off = 0x70006C then s.rd (ISC_PEER_LQ3.LQSEQ n) * 2 ^ 16 + s.telAge n
  else if off = 0x900010 then s.counterValue n (s.rd (PMC_CH_SEL.COUNTER n)) % 2 ^ 32
  else s.readWord a

/-- Word w of SEC_TEN[t] of channel n, with what it mirrors (Table 12.14). -/
def State.tenantView (s : State) (n t w : Nat) : Nat :=
  let a := 0x8800000 + 0x10000 * n + 32 * t + 4 * w
  let seals := s.rd (SECC.SEALS (keySlot n t (s.rd (TRB_TRIB.KI_TX n t))))
  match w with
  | 0 => s.readWord a + (if s.rd (TRB_TRIB.STATE n t) = Trib.suspended then 2 ^ 29 else 0)
      + s.rd (TRB_TRIB.KI_TX n t) * 2 ^ 28 + s.rd (TRB_TRIB.KI_RX n t) * 2 ^ 27
      + (if s.rd (ISC_PEER.ID n) < s.rd (ISC_STATION.ID n) then 2 ^ 26 else 0) + s.rd (TRB_TRIB.GEN n t)
  | 1 => seals % 2 ^ 32
  | 2 => seals / 2 ^ 32
  | _ => s.readWord a

/-- Word of KEY_SLOT, with its use (R281). -/
def State.slotView (s : State) (a : Nat) : Nat :=
  let g := (a - 0x8900000) / 8
  if a % 8 ≠ 0 then s.readWord a
  else
    let n := g / 2048
    let t := g % 2048 / 2
    let tx := s.rd (TRB_TRIB.STATE n t) ≠ Trib.idle && s.rd (TRB_TRIB.KI_TX n t) = g % 2
    let rx := s.on (TRB_TRIB.REMOTE n t) && s.rd (TRB_TRIB.KI_RX n t) = g % 2
    s.readWord a + (if tx then 2 ^ 28 else 0) + (if rx then 2 ^ 27 else 0)

/-- What holds FAULT_N low, as DEV_PWR_STAT.FAULT_SRC (R454). -/
def State.faultSource (s : State) : Nat :=
  ofBits [channels.any (fun n => s.on (OPT_SAFE_STAT.DISC n)), s.frozen, s.on IRQ_STAT.FAULT, s.on MEM_STAT.BOOT_FAIL]

/-- The word at an address, as a read returns it; an address that no map names reads 0 (R423). -/
def State.view (s : State) (a : Nat) : Nat :=
  if a = 0x4C then s.readWord a + s.faultSource * 2 ^ 16
  else if a = 0x50 then s.time % 2 ^ 32
  else if 0x30000 ≤ a && a < 0x40000 then s.irqView a
  else if a = 0x40010 then s.counterValue 4 (s.rd (PMC_CH_SEL.COUNTER 4)) % 2 ^ 32
  else if 0x1000000 ≤ a && a < 0x5000000 then s.chanView (chanOf a) a
  else if 0x8800000 ≤ a && a < 0x8840000 then s.tenantView (a / 0x10000 % 4) (a % 0x10000 / 32) (a % 32 / 4)
  else if 0x8900000 ≤ a && a < 0x8910000 then s.slotView a
  else s.readWord a

/-- INT_N is asserted (R372): a supervisor's stack does not matter. -/
def State.intN (s : State) : Bool := s.on IRQ_CTRL.INTN_EN && s.rd IRQ_HSTK.LEVELS ≠ 0 && s.answers

/-- FAULT_N is low: until READY, and while one of its sources holds (R454). -/
def State.faultN (s : State) : Bool := s.faultSource ≠ 0 || s.rd DEV_BOOT_STAT.STEP ≠ 0xF

/-! ## What a read leaves behind -/

/-- An RC field that holds an extreme and no count: a read starts it again. -/
def gauge (f : Field) : Bool := f.reset ≠ 0 || f = FEC_OCC.MAX (chanOf f.addr)

/-- An RC field is read with a value: a counter is reduced by it, and an extreme clears if it still holds it (R13, R436). -/
def State.rcRead (f : Field) (v : Nat) (s : State) : State :=
  if gauge f then s.when (s.rd f = v) (·.put f f.reset) else s.put f (s.rd f - v)

/-- The fields of a word that a read clears or latches, besides its RC fields: the word was delivered as v. -/
def State.readLatch (a v : Nat) (s : State) : State :=
  let n := chanOf a
  let off := a % 0x1000000
  if a = 0x8 then s.put DEV_SERIAL_HI.SN (s.rd PWRC.SN_HI)
  else if a = 0x50 then s.put DEV_TIME_HI.HI (s.time / 2 ^ 32)
  else if a = 0x40010 then s.pmcLatch 4
  else if a = 0x60008 then s.when (s.readWord a = v) (·.put (MON_STAT.FULL 4) 0)
  else if 0x1000000 ≤ a && a < 0x5000000 then
    if off = 0x900010 then s.pmcLatch n
    else if off = 0x800008 then s.when (s.readWord a = v) (·.put (MON_STAT.FULL n) 0)
    else if off = 0x70005C then s.when (s.readWord a = v) (·.put (ISC_HSTAT.HRX_FULL n) 0)
    else if off = 0x300050 then s.put (FEC_TST_BITS_HI.HI n) (s.rd (FECC.BITS n) / 2 ^ 32)
    else if off = 0x300058 then s.put (FEC_TST_ERR_HI.HI n) (s.rd (FECC.ERRS n) / 2 ^ 32)
    else if off = (OPT_RX_PWR.MIN 0).addr % 0x1000000 then s.put (OPTC.MIN_READ n) 1
    else if off = (LDS_LQ_SNR.MIN 0).addr % 0x1000000 then s.put (LDSC.MIN_READ n) 1
    else s
  else s

/-- What the read of a word does, which was delivered as v. -/
def State.readEffect (a v : Nat) (s : State) : State :=
  (s.each ((s.fieldsAt a).filter (fun f => f.acc = .rc)) (fun f t => t.rcRead f.fld (f.fld.of v))).readLatch a v

/-- The table-space address that the snapshot alias mirrors (Table 19.3). -/
def aliasOf (a : Nat) : Nat := a - 0x52000000 + 0x8000000

/-- A host read of a word at any address: through the alias it has no effect, and the MSI-X table is not guarded. -/
def State.readAt (win a : Nat) (s : State) : State :=
  if 0x52000000 ≤ a then s.hostRead win (aliasOf a) (·.view (aliasOf a)) (fun t => t)
  else if 0x50000000 ≤ a && a < 0x50001000 then
    s.when s.answers (·.emit (.readData a (if a % 16 = 12 && inMsixTable a then s.rd (MSIX.MASK ((a - 0x50000000) / 16))
      else if inMsixTable a then s.rd (tableWord a)
      else if a = 0x50000800 then ofBits ((List.range 20).map (fun v => s.on (MSIX.PEND v))) else 0)))
  else s.hostRead win a (·.view a) (·.readEffect a (s.view a))

/-- A read of a word, which clears the RC counters in it. -/
def execRcCounterRead (win : Fin 7) (addr : Word) (s : State) : Answer := .next (s.readAt win addr.toNat)

/-- A read of the low word of a split register. -/
def execLatchingLowWordRead (win : Fin 7) (addr : Word) (s : State) : Answer := .next (s.readAt win addr.toNat)

end Sys2Proof.Machine
end

