-- ==== Sys2Proof/Machine/Mgmt.lean ====
section
/-! DEFINITION. DMA elements and the SPI target: chapter 19 of spec/ (R431 to R437). -/

namespace Sys2Proof.Machine

/-! ## GATHER (R431, Table 19.7) -/

/-- The entry that starts at an address has so many bytes; 0 where none does. -/
def gatherSize (a : Nat) : Nat :=
  let off := a % 0x10000
  if 0x8600000 ≤ a && a < 0x8640000 then (if 0x8000 ≤ off && off < 0xC000 && a % 16 = 0 then 16 else 0)
  else if 0x8700000 ≤ a && a < 0x8740000 then
    if off < 0x1000 then (if a % 16 = 0 then 16 else 0)
    else if off < 0x6000 && a % 4 = 0 then 4 else 0
  else if 0x8E00000 ≤ a && a < 0x8F00000 && a % 4096 = 0 then 4096 else 0

/-- Level that the descriptor of queue q acts at: the lower of its posting window's and its queue's own (R438). -/
def State.queueLevel (s : State) (q : Nat) : Nat :=
  Nat.min (s.level (s.rd (DMAC.WIN q (s.rd (MGT_DQ_STAT.DESC q))))) (s.level (3 + q))

/-- The words of an entry with their addresses. -/
def entryWords (a : Nat) (bytes : List Byte) : List (Nat × Nat) :=
  (leWords bytes).zipIdx.map (fun x => (a + 4 * x.2, x.1))

/-- The fields of one word of an entry, each with its value and the reason it is refused for, or 0. -/
def State.judgeWord (s : State) (lvl win a v : Nat) : List (FSpec × Nat × Nat) :=
  (s.fieldsAt a).map (fun f =>
    let x := f.fld.of v
    let r := if lvl < f.wpriv && f.writable then 1 else s.fieldReason lvl f x
    (f, x, if r = 0 && f.writable then (hookOf win a v s).reason s f.fld x else r))

/-- The first refused field of an entry: the word's address, its value and the reason. -/
def State.firstRefused (s : State) (lvl win : Nat) : List (Nat × Nat) → Option (Nat × Nat × Nat)
  | [] => none
  | w :: l => match (s.judgeWord lvl win w.1 w.2).find? (fun j => j.2.2 ≠ 0) with
    | some j => some (w.1, w.2, j.2.2)
    | none => s.firstRefused lvl win l

/-- One word of an entry is written; the hook sees the state before the entry. -/
def State.entryWord (s0 : State) (win : Nat) (w : Nat × Nat) (s : State) : State :=
  let l := (s0.fieldsAt w.1).filter FSpec.writable
  ((hookOf win w.1 w.2 s0).act (l.map (fun f => (f.fld, f.fld.of w.2)))
    (s.each l (fun f t => t.applyField w.1 f (f.fld.of w.2)))).1

/-- The element that ERRIDX names commits, and the descriptor completes after its last. -/
def State.elementCommitted (q : Nat) (s : State) : State :=
  let i := s.rd (MGT_DQ_STAT.ERRIDX q) + 1
  if (s.dmaOf q).count ≤ i then (s.put (MGT_DQ_STAT.ERRIDX q) 0).dmaComplete q
  else (s.put (MGT_DQ_STAT.ERRIDX q) i).dmaGot q

/-- A running descriptor of an operation, whose device may send requests. -/
def State.elementRuns (s : State) (q op : Nat) : Bool := s.answers && s.dmaRuns q && (s.dmaOf q).op = op

/-- The element names the entry at `taddr` with a length, and `bytes` is what the device fetched for it. -/
def State.gather (q taddr len : Nat) (bytes : List Byte) (s : State) : State :=
  let win := 3 + q
  let ws := entryWords taddr (bytes.take len)
  if gatherSize taddr = 0 || len ≠ gatherSize taddr || bytes.length < len then s.dmaFault q 3
  else match s.firstRefused (s.queueLevel q) win ws with
    | some r => (s.refuse win r.1 r.2.1 r.2.2 false).dmaFault q (if r.2.2 = 1 then 4 else 5)
    | none => (s.each ws (fun w t => State.entryWord s win w t)).elementCommitted q

def execDmaGatherElement (q : Fin 4) (taddr len : Word) (bytes : List Byte) (s : State) : Answer :=
  .next <| s.when (s.elementRuns q 1) (fun t => if t.portSends then t.gather q taddr.toNat len.toNat bytes else t.dmaFault q 7)

/-! ## SCATTER (R432) -/

/-- Table space (Table 22.1). -/
def inTableSpace (a len : Nat) : Bool := 0x8000000 ≤ a && a + len ≤ 0x10000000

/-- The bytes of table space from a on, as reads return them: nothing changes meanwhile, so every record is of one version. -/
def State.tableBytes (s : State) (a len : Nat) : List Byte :=
  (List.range (len / 4)).flatMap (fun i => leBytes 4 (s.view (a + 4 * i)))

/-- The lowest level that may read every word of a stretch of table space. -/
def stretchLevel (a len : Nat) : Nat := (List.range (len / 4)).foldl (fun m i => Nat.max m (readLevel (a + 4 * i))) 1

/-- A line of the source is known to be uncorrectable (Table 17.2). -/
def State.sourceBad (s : State) (a : Nat) : Bool :=
  let n := a / 0x10000 % 4
  let off := a % 0x10000
  if 0x8600000 ≤ a && a < 0x8640000 && off < 0x4000 then s.on (MEMC.BAD_TRB n (off / 16))
  else if 0x8700000 ≤ a && a < 0x8740000 && off < 0x1000 then s.on (MEMC.BAD_CLI n (off / 16))
  else if 0x8800000 ≤ a && a < 0x8840000 && off < 0x8000 then s.on (MEMC.BAD_TEN n (off / 32))
  else false

/-- The element copies table space to host memory; `poison`: a line of it is found uncorrectable. -/
def State.scatter (q host taddr len : Nat) (poison : Bool) (s : State) : State :=
  if !inTableSpace taddr len || taddr % 4 ≠ 0 || host % 4 ≠ 0 || len % 4 ≠ 0 || len < 4 || 65536 < len then s.dmaFault q 3
  else if s.queueLevel q < stretchLevel taddr len then (s.refuse (3 + q) taddr 0 1 true).dmaFault q 4
  else if poison || (List.range (len / 4)).any (fun i => s.sourceBad (taddr + 4 * i)) then s.dmaFault q 6
  else (s.emit (.hostMemory host (s.tableBytes taddr len))).elementCommitted q

def execDmaScatterElement (q : Fin 4) (host : BitVec 64) (taddr len : Word) (poison : Bool) (s : State) : Answer :=
  .next <| s.when (s.elementRuns q 2) (fun t => if t.portSends then t.scatter q host.toNat taddr.toNat len.toNat poison else t.dmaFault q 7)

/-! ## SPI frames (R435, Table 19.10) -/

/-- SPI_CS_N falls: SPI_STAT is latched for H0. -/
def execSpiChipSelectFall (s : State) : Answer :=
  .next <| s.when (s.answers && s.rd SPIC.PH = 0) (fun t =>
    t.put SPIC.STAT (t.readWord 0x90200) |>.put SPIC.PH 1 |>.put SPIC.DONE 0 |>.put SPIC.BAD 0)

/-- The frame reads. -/
def State.spiRead (s : State) : Bool := bit (s.rd SPIC.H0) 31 = 1

/-- Data words of the frame. -/
def State.spiLen (s : State) : Nat := bits (s.rd SPIC.H0) 0 6 + 1

/-- Address of data word k, counted from 0. -/
def State.spiAddr (s : State) (k : Nat) : Nat := s.rd SPIC.H1 + (if bit (s.rd SPIC.H0) 30 = 1 then 4 * k else 0)

/-- A header that commits nothing: reserved bits, address bits 1:0, or an address beyond the map (R437). -/
def State.spiBad (s : State) : Bool :=
  bits (s.rd SPIC.H0) 6 24 ≠ 0 || s.rd SPIC.H1 / 2 ^ 28 ≠ 0 || s.rd SPIC.H1 % 4 ≠ 0
    || 0xFFFFFFC < s.spiAddr (s.spiLen - 1)

/-- A word is discarded: its index in the frame and the edges it received. -/
def State.spiDiscard (word edges : Nat) (s : State) : State :=
  s.put SPI_STAT.ABORT 1 |>.put SPI_STAT.WORD word |>.put SPI_STAT.EDGES (Nat.min 255 edges) |>.bump SPI_CNT.ABORTS |>.raise 130

/-- The value of data word k that SPI_SDO is to deliver, as it stands now; a frame that commits nothing reads 0, and so does
a word that the window does not allow. -/
def State.spiValue (s : State) (k : Nat) : Nat :=
  let a := s.spiAddr k
  if s.on SPIC.BAD || s.level 2 < readLevel a then 0 else s.view a

/-- One header word, at its 32nd edge. -/
def State.spiHeader (v : Nat) (s : State) : State :=
  if s.rd SPIC.PH = 1 then (s.emit (.spiWord (s.rd SPIC.STAT))).put SPIC.H0 v |>.put SPIC.PH 2
  else
    let s1 := (s.emit (.spiWord 0)).put SPIC.H1 v |>.put SPIC.PH 3
    let s2 := s1.when s1.spiBad (fun t =>
      t.put SPIC.BAD 1 |>.put SPI_STAT.HDR_ERR 1 |>.put SPI_STAT.ABORT 1 |>.bump SPI_CNT.ABORTS |>.raise 130)
    s2.when s2.spiRead (fun t => (t.emit (.spiWord 0)).put (SPIC.VAL 0) (t.spiValue 0) |>.put (SPIC.VAL 1) (t.spiValue 1))

def execSpiHeaderWord (value : BitVec 32) (s : State) : Answer :=
  .next <| s.when (s.answers && (s.rd SPIC.PH = 1 || s.rd SPIC.PH = 2)) (·.spiHeader value.toNat)

/-- A read is refused, or its word takes its effect with the value delivered (R436, R440). -/
def State.spiReadCommit (a v : Nat) (s : State) : State :=
  if s.level 2 < readLevel a then s.refuse 2 a 0 1 true else s.readEffect a v

/-- Data word k commits. -/
def State.spiCommit (k v : Nat) (s : State) : State :=
  if s.on SPIC.BAD then s
  else if s.spiRead then s.spiReadCommit (s.spiAddr k) (s.rd (SPIC.VAL 0))
  else s.writeAt ⟨2, s.spiAddr k, v, 15⟩

/-- SPI_SDO has delivered data word k of a read, and the next ones are latched. -/
def State.spiDeliver (k : Nat) (s : State) : State :=
  s.when s.spiRead (fun t => (t.emit (.spiWord (t.rd (SPIC.VAL 0)))).put (SPIC.VAL 0) (t.rd (SPIC.VAL 1))
    |>.put (SPIC.VAL 1) (t.spiValue (k + 2)))

/-- A data word other than the last, at its 32nd edge; `value` is what SPI_SDI carried. -/
def execSpiDataWord (value : BitVec 32) (s : State) : Answer :=
  .next <| s.when (s.answers && s.rd SPIC.PH = 3 && s.rd SPIC.DONE + 1 < s.spiLen) (fun t =>
    let u := t.spiCommit (t.rd SPIC.DONE) value.toNat
    u.when (u.rd SPIC.PH = 3) (fun w => (w.spiDeliver (w.rd SPIC.DONE)).addWrap SPIC.DONE 1))

/-- The index in the frame of data word k. -/
def State.spiIndex (s : State) (k : Nat) : Nat := k + (if s.spiRead then 3 else 2)

/-- SPI_CS_N rises in the data words, so many edges after the last word that had its own command; the turnaround word of a
read has none. -/
def State.spiEnd (v edges : Nat) (s : State) : State :=
  let k := s.rd SPIC.DONE
  let turn := if s.spiRead && k = 0 then 32 else 0
  if edges < turn then s.spiDiscard 2 edges
  else
    let e := edges - turn
    let s1 := s.when (32 ≤ e && s.spiRead) (·.emit (.spiWord (s.rd (SPIC.VAL 0))))
    if e = 32 && k + 1 = s.spiLen then (s1.put SPI_STAT.LAST_OK 1).spiCommit k v
    else s1.spiDiscard (s.spiIndex k) e

/-- SPI_CS_N rises: the frame ends.  `edges` are those since the last whole word before, and `value` what SPI_SDI carried
in the last data word. -/
def execSpiChipSelectRise (edges : Nat) (value : BitVec 32) (s : State) : Answer :=
  .next <| s.when (s.answers && s.rd SPIC.PH ≠ 0) (fun t =>
    let t1 := (t.bump SPI_CNT.FRAMES).put SPI_STAT.LAST_OK 0
    (if t.rd SPIC.PH < 3 then t1.spiDiscard (t.rd SPIC.PH - 1) edges
     else if t.on SPIC.BAD then t1
     else t1.spiEnd value.toNat edges).put SPIC.PH 0)

end Sys2Proof.Machine
end

