-- ==== Sys2Proof/Machine/Dispatch.lean ====
section
/-! DEFINITION. The meaning of each command: one call for each constructor. -/

namespace Sys2Proof.Machine

def exec (i : Instr) (s : State) : Host.Outcome State Fault Refusal :=
  match i with
  | .registerWrite win addr value be => Sys2Proof.Machine.execRegisterWrite win addr value be s
  | .rcCounterRead win addr => Sys2Proof.Machine.execRcCounterRead win addr s
  | .latchingLowWordRead win addr => Sys2Proof.Machine.execLatchingLowWordRead win addr s
  | .tokenTransfer n m => Sys2Proof.Machine.execTokenTransfer n m s
  | .slackMeasurement s0 s1 s2 s3 => Sys2Proof.Machine.execSlackMeasurement s0 s1 s2 s3 s
  | .governorEvaluation => Sys2Proof.Machine.execGovernorEvaluation s
  | .governorEmergencyRaise => Sys2Proof.Machine.execGovernorEmergencyRaise s
  | .regulatorRequestResult ok => Sys2Proof.Machine.execRegulatorRequestResult ok s
  | .regulatorRetry => Sys2Proof.Machine.execRegulatorRetry s
  | .slackFloorTimeout => Sys2Proof.Machine.execSlackFloorTimeout s
  | .ledgerSnapshotRequest win value be => Sys2Proof.Machine.execLedgerSnapshotRequest win value be s
  | .snapshotHoldComplete n => Sys2Proof.Machine.execSnapshotHoldComplete n s
  | .snapshotHoldTimeout n => Sys2Proof.Machine.execSnapshotHoldTimeout n s
  | .snapshotRecordWritten n => Sys2Proof.Machine.execSnapshotRecordWritten n s
  | .perturbationControlWrite win value be => Sys2Proof.Machine.execPerturbationControlWrite win value be s
  | .profileWrite win n value be => Sys2Proof.Machine.execProfileWrite win n value be s
  | .modeOfferTimer n => Sys2Proof.Machine.execModeOfferTimer n s
  | .modeOfferReceived n seq rep block agreed indoubt profile peer => Sys2Proof.Machine.execModeOfferReceived n seq rep block agreed indoubt profile peer s
  | .resizeGo win n value be => Sys2Proof.Machine.execResizeGo win n value be s
  | .resizeProposeReceived n seq rep block trib tA => Sys2Proof.Machine.execResizeProposeReceived n seq rep block trib tA s
  | .resizeAcceptReceived n seq rep tA tB => Sys2Proof.Machine.execResizeAcceptReceived n seq rep tA tB s
  | .resizeRefuseReceived n seq rep tA cause => Sys2Proof.Machine.execResizeRefuseReceived n seq rep tA cause s
  | .resizeConfirmReceived n seq rep tA tB cancel => Sys2Proof.Machine.execResizeConfirmReceived n seq rep tA tB cancel s
  | .resizeAcceptDeadline n => Sys2Proof.Machine.execResizeAcceptDeadline n s
  | .resizeConfirmDeadline n => Sys2Proof.Machine.execResizeConfirmDeadline n s
  | .resizeTargetReached n => Sys2Proof.Machine.execResizeTargetReached n s
  | .resizeReceiverSwitch n => Sys2Proof.Machine.execResizeReceiverSwitch n s
  | .resizeConvergenceTimeout n => Sys2Proof.Machine.execResizeConvergenceTimeout n s
  | .laserEnable win n value be => Sys2Proof.Machine.execLaserEnable win n value be s
  | .laserDisable win n value be => Sys2Proof.Machine.execLaserDisable win n value be s
  | .tuneComplete n us => Sys2Proof.Machine.execTuneComplete n us s
  | .tuneTimeout n => Sys2Proof.Machine.execTuneTimeout n s
  | .rampStep n => Sys2Proof.Machine.execRampStep n s
  | .txPowerWrite win n value be => Sys2Proof.Machine.execTxPowerWrite win n value be s
  | .optFreqWrite win n value be => Sys2Proof.Machine.execOptFreqWrite win n value be s
  | .agcSettled n gain => Sys2Proof.Machine.execAgcSettled n gain s
  | .agcUnfreezeTimeout n => Sys2Proof.Machine.execAgcUnfreezeTimeout n s
  | .opticalPowerMonitorUpdate n tx rx gain => Sys2Proof.Machine.execOpticalPowerMonitorUpdate n tx rx gain s
  | .opticalLosDeclare n => Sys2Proof.Machine.execOpticalLosDeclare n s
  | .opticalLosClear n => Sys2Proof.Machine.execOpticalLosClear n s
  | .safetyInputActive input l0 l1 l2 l3 => Sys2Proof.Machine.execSafetyInputActive input l0 l1 l2 l3 s
  | .safetyInputInactive input => Sys2Proof.Machine.execSafetyInputInactive input s
  | .safetyDiscrepancyTimeout n => Sys2Proof.Machine.execSafetyDiscrepancyTimeout n s
  | .discrepancyClear win n value be => Sys2Proof.Machine.execDiscrepancyClear win n value be s
  | .laserFault n => Sys2Proof.Machine.execLaserFault n s
  | .coolerFault n => Sys2Proof.Machine.execCoolerFault n s
  | .boosterFault n => Sys2Proof.Machine.execBoosterFault n s
  | .driverFault n => Sys2Proof.Machine.execDriverFault n s
  | .receiverFrontEndFault n fail => Sys2Proof.Machine.execReceiverFrontEndFault n fail s
  | .sliceStuckCode n k => Sys2Proof.Machine.execSliceStuckCode n k s
  | .sliceRangeFault n k => Sys2Proof.Machine.execSliceRangeFault n k s
  | .sliceDriftFault n k => Sys2Proof.Machine.execSliceDriftFault n k s
  | .sliceTimingFault n k => Sys2Proof.Machine.execSliceTimingFault n k s
  | .sliceSenseFault n k => Sys2Proof.Machine.execSliceSenseFault n k s
  | .sliceForce win n value be => Sys2Proof.Machine.execSliceForce win n value be s
  | .shadowCalibrationConverged n c offset gain skew bw => Sys2Proof.Machine.execShadowCalibrationConverged n c offset gain skew bw s
  | .shadowCalibrationTimeout n c => Sys2Proof.Machine.execShadowCalibrationTimeout n c s
  | .spareSubstitution n c => Sys2Proof.Machine.execSpareSubstitution n c s
  | .respacing n dir => Sys2Proof.Machine.execRespacing n dir s
  | .converterApplyBoundary n dir moves => Sys2Proof.Machine.execConverterApplyBoundary n dir moves s
  | .converterPllLossOfLock n dir => Sys2Proof.Machine.execConverterPllLossOfLock n dir s
  | .converterPllLock n dir => Sys2Proof.Machine.execConverterPllLock n dir s
  | .converterReferenceLoss n => Sys2Proof.Machine.execConverterReferenceLoss n s
  | .converterPllFault n dir => Sys2Proof.Machine.execConverterPllFault n dir s
  | .adcLosDeclare n => Sys2Proof.Machine.execAdcLosDeclare n s
  | .adcLosClear n => Sys2Proof.Machine.execAdcLosClear n s
  | .frontEndMismatch n => Sys2Proof.Machine.execFrontEndMismatch n s
  | .coarseEstimateComplete n est rs => Sys2Proof.Machine.execCoarseEstimateComplete n est rs s
  | .coarseEstimateTimeout n => Sys2Proof.Machine.execCoarseEstimateTimeout n s
  | .cdTrackStep n dir => Sys2Proof.Machine.execCdTrackStep n dir s
  | .clockRecoveryLock n ppm => Sys2Proof.Machine.execClockRecoveryLock n ppm s
  | .clockRecoveryLoss n => Sys2Proof.Machine.execClockRecoveryLoss n s
  | .cycleSlip n zeros => Sys2Proof.Machine.execCycleSlip n zeros s
  | .acquisitionStepComplete n fofs adc => Sys2Proof.Machine.execAcquisitionStepComplete n fofs adc s
  | .acquisitionStepTimeout n => Sys2Proof.Machine.execAcquisitionStepTimeout n s
  | .tileResidueMismatch n t => Sys2Proof.Machine.execTileResidueMismatch n t s
  | .tileResidueFault n t => Sys2Proof.Machine.execTileResidueFault n t s
  | .tileHandshakeFault n t => Sys2Proof.Machine.execTileHandshakeFault n t s
  | .tileForce win n value be => Sys2Proof.Machine.execTileForce win n value be s
  | .tileRepartitionComplete n => Sys2Proof.Machine.execTileRepartitionComplete n s
  | .convergenceWindowEnd n => Sys2Proof.Machine.execConvergenceWindowEnd n s
  | .noConvergenceTimeout n => Sys2Proof.Machine.execNoConvergenceTimeout n s
  | .linkQualityWindowEnd n => Sys2Proof.Machine.execLinkQualityWindowEnd n s
  | .txUnderrun n k => Sys2Proof.Machine.execTxUnderrun n k s
  | .txClipExcess n lane => Sys2Proof.Machine.execTxClipExcess n lane s
  | .testPatternWrite win n value be => Sys2Proof.Machine.execTestPatternWrite win n value be s
  | .txMultiframeBoundary n late => Sys2Proof.Machine.execTxMultiframeBoundary n late s
  | .codewordAssembled n overrun info => Sys2Proof.Machine.execCodewordAssembled n overrun info s
  | .enginePassComplete n e => Sys2Proof.Machine.execEnginePassComplete n e s
  | .engineResidueMismatch n e => Sys2Proof.Machine.execEngineResidueMismatch n e s
  | .engineResidueFault n e => Sys2Proof.Machine.execEngineResidueFault n e s
  | .engineHandshakeFault n e => Sys2Proof.Machine.execEngineHandshakeFault n e s
  | .engineForce win n value be => Sys2Proof.Machine.execEngineForce win n value be s
  | .encoderParityMismatch n second => Sys2Proof.Machine.execEncoderParityMismatch n second s
  | .codewordAlignment n offset => Sys2Proof.Machine.execCodewordAlignment n offset s
  | .fecDegradeWindowEnd n => Sys2Proof.Machine.execFecDegradeWindowEnd n s
  | .iterationControlWrite win n value be => Sys2Proof.Machine.execIterationControlWrite win n value be s
  | .frameHeaderReceived n locked => Sys2Proof.Machine.execFrameHeaderReceived n locked s
  | .torCopyReceived n => Sys2Proof.Machine.execTorCopyReceived n s
  | .rxMultiframeBoundary n => Sys2Proof.Machine.execRxMultiframeBoundary n s
  | .tributaryCommitGo win n value be => Sys2Proof.Machine.execTributaryCommitGo win n value be s
  | .sealedUnitReceived n t => Sys2Proof.Machine.execSealedUnitReceived n t s
  | .hostLaneLosDeclare n l => Sys2Proof.Machine.execHostLaneLosDeclare n l s
  | .hostLaneLosClear n l => Sys2Proof.Machine.execHostLaneLosClear n l s
  | .hostLaneLolDeclare n l => Sys2Proof.Machine.execHostLaneLolDeclare n l s
  | .hostLaneLolClear n l => Sys2Proof.Machine.execHostLaneLolClear n l s
  | .hostAlignmentLock n p skew => Sys2Proof.Machine.execHostAlignmentLock n p skew s
  | .hostAlignmentLoss n p => Sys2Proof.Machine.execHostAlignmentLoss n p s
  | .clientReplaceEnd n c => Sys2Proof.Machine.execClientReplaceEnd n c s
  | .flexeOverheadLock n l lock phy gnum => Sys2Proof.Machine.execFlexeOverheadLock n l lock phy gnum s
  | .hostFecCodeword n p corrected uncorr errs => Sys2Proof.Machine.execHostFecCodeword n p corrected uncorr errs s
  | .egressFifoEmptyTimeout n c => Sys2Proof.Machine.execEgressFifoEmptyTimeout n c s
  | .egressTokenArrival n t sent ins del ppm => Sys2Proof.Machine.execEgressTokenArrival n t sent ins del ppm s
  | .calendarEntryWrite win n g e value be => Sys2Proof.Machine.execCalendarEntryWrite win n g e value be s
  | .flexeCalendarSwitchRequest win n value be => Sys2Proof.Machine.execFlexeCalendarSwitchRequest win n value be s
  | .flexeCalendarAck n g => Sys2Proof.Machine.execFlexeCalendarAck n g s
  | .flexeCalendarSwitch n g => Sys2Proof.Machine.execFlexeCalendarSwitch n g s
  | .flexeCalendarTimeout n g => Sys2Proof.Machine.execFlexeCalendarTimeout n g s
  | .flexeHostCalendarRequest n g b => Sys2Proof.Machine.execFlexeHostCalendarRequest n g b s
  | .hostLaneTransmitterFault n l => Sys2Proof.Machine.execHostLaneTransmitterFault n l s
  | .hostLaneReceiverFault n l => Sys2Proof.Machine.execHostLaneReceiverFault n l s
  | .laneForce win n value be => Sys2Proof.Machine.execLaneForce win n value be s
  | .hostPllLossOfLock n ref => Sys2Proof.Machine.execHostPllLossOfLock n ref s
  | .hostPllLock n => Sys2Proof.Machine.execHostPllLock n s
  | .hostPllFault n => Sys2Proof.Machine.execHostPllFault n s
  | .iscChipLock n code fofs qual => Sys2Proof.Machine.execIscChipLock n code fofs qual s
  | .iscChipLockLoss n => Sys2Proof.Machine.execIscChipLockLoss n s
  | .iscMessageBoundary n => Sys2Proof.Machine.execIscMessageBoundary n s
  | .iscMessageCrcError n => Sys2Proof.Machine.execIscMessageCrcError n s
  | .iscUnknownMessage n seq rep => Sys2Proof.Machine.execIscUnknownMessage n seq rep s
  | .heartbeatReceived n seq rep ident nonce => Sys2Proof.Machine.execHeartbeatReceived n seq rep ident nonce s
  | .telemetryReceived n seq rep snr ber margin rxpwr unc lqseq => Sys2Proof.Machine.execTelemetryReceived n seq rep snr ber margin rxpwr unc lqseq s
  | .hostMessageReceived n seq rep w0 w1 w2 w3 => Sys2Proof.Machine.execHostMessageReceived n seq rep w0 w1 w2 w3 s
  | .iscHostSend win n value be => Sys2Proof.Machine.execIscHostSend win n value be s
  | .hostMessageRead win n => Sys2Proof.Machine.execHostMessageRead win n s
  | .iscHeartbeatMissed n => Sys2Proof.Machine.execIscHeartbeatMissed n s
  | .entropyReseed ok => Sys2Proof.Machine.execEntropyReseed ok s
  | .cipherMismatch n t p opn held => Sys2Proof.Machine.execCipherMismatch n t p opn held s
  | .pipelineHoldFault n p held => Sys2Proof.Machine.execPipelineHoldFault n p held s
  | .pipelineForce win n value be held => Sys2Proof.Machine.execPipelineForce win n value be held s
  | .iteratedEngineForce win value be working => Sys2Proof.Machine.execIteratedEngineForce win value be working s
  | .rootProvision win value be => Sys2Proof.Machine.execRootProvision win value be s
  | .rootEraseArm win value be => Sys2Proof.Machine.execRootEraseArm win value be s
  | .rootEraseConfirm win value be => Sys2Proof.Machine.execRootEraseConfirm win value be s
  | .rootEraseArmExpiry => Sys2Proof.Machine.execRootEraseArmExpiry s
  | .keyBulkLoad win value be => Sys2Proof.Machine.execKeyBulkLoad win value be s
  | .keyBulkSave win value be => Sys2Proof.Machine.execKeyBulkSave win value be s
  | .keyBulkRestore win value be => Sys2Proof.Machine.execKeyBulkRestore win value be s
  | .keyBulkResume win value be => Sys2Proof.Machine.execKeyBulkResume win value be s
  | .keyBulkAbort win value be => Sys2Proof.Machine.execKeyBulkAbort win value be s
  | .keyElementComplete e fetched mismatch => Sys2Proof.Machine.execKeyElementComplete e fetched mismatch s
  | .keySlotErase win value be => Sys2Proof.Machine.execKeySlotErase win value be s
  | .zeroiseCommand win value be => Sys2Proof.Machine.execZeroiseCommand win value be s
  | .tamperInput active => Sys2Proof.Machine.execTamperInput active s
  | .zeroiseInput active => Sys2Proof.Machine.execZeroiseInput active s
  | .vkeepLow written => Sys2Proof.Machine.execVkeepLow written s
  | .rolloverGo win n value be => Sys2Proof.Machine.execRolloverGo win n value be s
  | .rolloverAnnounceReceived n seq rep m base map => Sys2Proof.Machine.execRolloverAnnounceReceived n seq rep m base map s
  | .rolloverAckReceived n seq rep m base map => Sys2Proof.Machine.execRolloverAckReceived n seq rep m base map s
  | .rolloverAckDeadline n => Sys2Proof.Machine.execRolloverAckDeadline n s
  | .monitorConversionEnd b codes => Sys2Proof.Machine.execMonitorConversionEnd b codes s
  | .monitorResultRead win b => Sys2Proof.Machine.execMonitorResultRead win b s
  | .monitorUrgentRequest win b value be => Sys2Proof.Machine.execMonitorUrgentRequest win b value be s
  | .monitorPresetChange win b value be => Sys2Proof.Machine.execMonitorPresetChange win b value be s
  | .compensationSetChange win b value be => Sys2Proof.Machine.execCompensationSetChange win b value be s
  | .coefficientWrite win b value be => Sys2Proof.Machine.execCoefficientWrite win b value be s
  | .biasBlockEnd n tap vpi => Sys2Proof.Machine.execBiasBlockEnd n tap vpi s
  | .monitorClockLoss b => Sys2Proof.Machine.execMonitorClockLoss b s
  | .monitorClockRelock b => Sys2Proof.Machine.execMonitorClockRelock b s
  | .calFull win value be => Sys2Proof.Machine.execCalFull win value be s
  | .calTrack win value be => Sys2Proof.Machine.execCalTrack win value be s
  | .calLoad win value be => Sys2Proof.Machine.execCalLoad win value be s
  | .calRewrite win value be => Sys2Proof.Machine.execCalRewrite win value be s
  | .calMeasurementComplete data temp vref lppm => Sys2Proof.Machine.execCalMeasurementComplete data temp vref lppm s
  | .calMonitorTimeout => Sys2Proof.Machine.execCalMonitorTimeout s
  | .calStoreWriteComplete ok => Sys2Proof.Machine.execCalStoreWriteComplete ok s
  | .calApplyElement => Sys2Proof.Machine.execCalApplyElement s
  | .calPolicyAgeTrigger sc => Sys2Proof.Machine.execCalPolicyAgeTrigger sc s
  | .calPolicyTemperatureCheck n engTemp => Sys2Proof.Machine.execCalPolicyTemperatureCheck n engTemp s
  | .calTriggeredRunStart sc => Sys2Proof.Machine.execCalTriggeredRunStart sc s
  | .supervisorHeartbeat j => Sys2Proof.Machine.execSupervisorHeartbeat j s
  | .supervisorHeartbeatTimeout j => Sys2Proof.Machine.execSupervisorHeartbeatTimeout j s
  | .checkpointTimer => Sys2Proof.Machine.execCheckpointTimer s
  | .voteOpen => Sys2Proof.Machine.execVoteOpen s
  | .voteDecision d0 d1 d2 => Sys2Proof.Machine.execVoteDecision d0 d1 d2 s
  | .supervisorSelfTestResult good0 good1 good2 => Sys2Proof.Machine.execSupervisorSelfTestResult good0 good1 good2 s
  | .supervisorRelease j => Sys2Proof.Machine.execSupervisorRelease j s
  | .firmwareAuthenticationComplete j ok agrees cfg => Sys2Proof.Machine.execFirmwareAuthenticationComplete j ok agrees cfg s
  | .supervisorStateTransferComplete j good => Sys2Proof.Machine.execSupervisorStateTransferComplete j good s
  | .supervisorHandback => Sys2Proof.Machine.execSupervisorHandback s
  | .arbiterSelfTest ok irq => Sys2Proof.Machine.execArbiterSelfTest ok irq s
  | .supervisorComplexReset win value be => Sys2Proof.Machine.execSupervisorComplexReset win value be s
  | .supervisorComplexResetComplete => Sys2Proof.Machine.execSupervisorComplexResetComplete s
  | .mailboxCommandPost win value be => Sys2Proof.Machine.execMailboxCommandPost win value be s
  | .mailboxCommandAccept => Sys2Proof.Machine.execMailboxCommandAccept s
  | .mailboxResponseConsume win value be => Sys2Proof.Machine.execMailboxResponseConsume win value be s
  | .echo tag gen => Sys2Proof.Machine.execEcho tag gen s
  | .supStatus tag gen => Sys2Proof.Machine.execSupStatus tag gen s
  | .fenceClear tag gen => Sys2Proof.Machine.execFenceClear tag gen s
  | .supRestore tag gen => Sys2Proof.Machine.execSupRestore tag gen s
  | .logRead tag gen data => Sys2Proof.Machine.execLogRead tag gen data s
  | .fwInfo tag gen => Sys2Proof.Machine.execFwInfo tag gen s
  | .fwLoad tag gen image => Sys2Proof.Machine.execFwLoad tag gen image s
  | .fwVerify tag gen => Sys2Proof.Machine.execFwVerify tag gen s
  | .fwActivate tag gen => Sys2Proof.Machine.execFwActivate tag gen s
  | .irqPendSet win w value be => Sys2Proof.Machine.execIrqPendSet win w value be s
  | .irqPendClear win w value be => Sys2Proof.Machine.execIrqPendClear win w value be s
  | .irqMaskSet win w value be => Sys2Proof.Machine.execIrqMaskSet win w value be s
  | .irqMaskClear win w value be => Sys2Proof.Machine.execIrqMaskClear win w value be s
  | .interruptSelection target => Sys2Proof.Machine.execInterruptSelection target s
  | .interruptCommit target => Sys2Proof.Machine.execInterruptCommit target s
  | .irqEoi win value be => Sys2Proof.Machine.execIrqEoi win value be s
  | .interruptControllerFault => Sys2Proof.Machine.execInterruptControllerFault s
  | .pmcConfigWrite win b value be => Sys2Proof.Machine.execPmcConfigWrite win b value be s
  | .pmcValueWrite win b value be => Sys2Proof.Machine.execPmcValueWrite win b value be s
  | .pmcSnapshotRequest win value be => Sys2Proof.Machine.execPmcSnapshotRequest win value be s
  | .pmcSnapshotWritten k => Sys2Proof.Machine.execPmcSnapshotWritten k s
  | .memoryLineRead bank line src holds upset stuck => Sys2Proof.Machine.execMemoryLineRead bank line src holds upset stuck s
  | .memoryLineWrite bank line src holds upset data mask => Sys2Proof.Machine.execMemoryLineWrite bank line src holds upset data mask s
  | .scrubStart win value be => Sys2Proof.Machine.execScrubStart win value be s
  | .scrubLine holds upset stuck => Sys2Proof.Machine.execScrubLine holds upset stuck s
  | .scrubPause win value be => Sys2Proof.Machine.execScrubPause win value be s
  | .scrubResume win value be => Sys2Proof.Machine.execScrubResume win value be s
  | .scrubAbort win value be => Sys2Proof.Machine.execScrubAbort win value be s
  | .bankRetirementStart win value be => Sys2Proof.Machine.execBankRetirementStart win value be s
  | .retirementCopyLine holds upset stuck fails => Sys2Proof.Machine.execRetirementCopyLine holds upset stuck fails s
  | .retirementSwitch => Sys2Proof.Machine.execRetirementSwitch s
  | .castingSubmit win value be => Sys2Proof.Machine.execCastingSubmit win value be s
  | .castingStore win value be => Sys2Proof.Machine.execCastingStore win value be s
  | .castingEraseStore win value be => Sys2Proof.Machine.execCastingEraseStore win value be s
  | .castingPause win value be => Sys2Proof.Machine.execCastingPause win value be s
  | .castingResume win value be => Sys2Proof.Machine.execCastingResume win value be s
  | .castingAbort win value be => Sys2Proof.Machine.execCastingAbort win value be s
  | .castingFetchComplete bytes => Sys2Proof.Machine.execCastingFetchComplete bytes s
  | .castingCheckComplete => Sys2Proof.Machine.execCastingCheckComplete s
  | .castingApplyElement => Sys2Proof.Machine.execCastingApplyElement s
  | .castingLoadComplete => Sys2Proof.Machine.execCastingLoadComplete s
  | .castingStoreComplete => Sys2Proof.Machine.execCastingStoreComplete s
  | .castingEngineFault => Sys2Proof.Machine.execCastingEngineFault s
  | .pcieFunctionLevelReset => Sys2Proof.Machine.execPcieFunctionLevelReset s
  | .pcieHotReset => Sys2Proof.Machine.execPcieHotReset s
  | .pcieLinkDown => Sys2Proof.Machine.execPcieLinkDown s
  | .pcieLinkUp speed width => Sys2Proof.Machine.execPcieLinkUp speed width s
  | .busMasterEnableClear => Sys2Proof.Machine.execBusMasterEnableClear s
  | .dmaReadCompletion c ok => Sys2Proof.Machine.execDmaReadCompletion c ok s
  | .dmaCompletionTimeout c => Sys2Proof.Machine.execDmaCompletionTimeout c s
  | .dmaQueuePost win q value be => Sys2Proof.Machine.execDmaQueuePost win q value be s
  | .dmaDescriptorStart q => Sys2Proof.Machine.execDmaDescriptorStart q s
  | .dmaGatherElement q taddr len bytes => Sys2Proof.Machine.execDmaGatherElement q taddr len bytes s
  | .dmaScatterElement q host taddr len poison => Sys2Proof.Machine.execDmaScatterElement q host taddr len poison s
  | .dmaQueueResume win q value be => Sys2Proof.Machine.execDmaQueueResume win q value be s
  | .dmaQueueSkip win q value be => Sys2Proof.Machine.execDmaQueueSkip win q value be s
  | .dmaQueueAbort win q ctrl value be => Sys2Proof.Machine.execDmaQueueAbort win q ctrl value be s
  | .spiDataWord value => Sys2Proof.Machine.execSpiDataWord value s
  | .spiChipSelectRise edges value => Sys2Proof.Machine.execSpiChipSelectRise edges value s
  | .mainRailLoss r brief => Sys2Proof.Machine.execMainRailLoss r brief s
  | .mainRailsUp => Sys2Proof.Machine.execMainRailsUp s
  | .internalResetEnd => Sys2Proof.Machine.execInternalResetEnd s
  | .resetNAssert => Sys2Proof.Machine.execResetNAssert s
  | .resetNRelease => Sys2Proof.Machine.execResetNRelease s
  | .deviceResetCommand win value be => Sys2Proof.Machine.execDeviceResetCommand win value be s
  | .deviceResetHoldEnd => Sys2Proof.Machine.execDeviceResetHoldEnd s
  | .bootStepComplete root banks units => Sys2Proof.Machine.execBootStepComplete root banks units s
  | .powerWarning short => Sys2Proof.Machine.execPowerWarning short s
  | .powerLossRecordProgrammed => Sys2Proof.Machine.execPowerLossRecordProgrammed s
  | .powerWarningEnd => Sys2Proof.Machine.execPowerWarningEnd s
  | .fenceRetestComplete tag gen fails => Sys2Proof.Machine.execFenceRetestComplete tag gen fails s
  | .egressFifoEmptyInPacket n c => Sys2Proof.Machine.execEgressFifoEmptyInPacket n c s
  | .flexeIngressCalendarSwitch n g => Sys2Proof.Machine.execFlexeIngressCalendarSwitch n g s
  | .pcieConfigurationWrite w => Sys2Proof.Machine.execPcieConfigurationWrite w s
  | .spiChipSelectFall => Sys2Proof.Machine.execSpiChipSelectFall s
  | .spiHeaderWord value => Sys2Proof.Machine.execSpiHeaderWord value s
  | .vkeepAbsent => Sys2Proof.Machine.execVkeepAbsent s
  | .vkeepRestored => Sys2Proof.Machine.execVkeepRestored s
  | .mrefclkLoss lref => Sys2Proof.Machine.execMrefclkLoss lref s
  | .mrefclkRestored => Sys2Proof.Machine.execMrefclkRestored s
  | .idClashNegotiationTimeout n => Sys2Proof.Machine.execIdClashNegotiationTimeout n s
  | .adcClipExcess n a clipped => Sys2Proof.Machine.execAdcClipExcess n a clipped s

end Sys2Proof.Machine
end

