-- ==== Sys2Proof/Machine/Time.lean ====
section
/-! DEFINITION. What a nanosecond changes: DEV_TIME and the plinth clock (R301, R461). -/

namespace Sys2Proof.Machine

/-- KEY_RTC counts seconds, in every mode (R301). -/
def State.rtcTick (s : State) : State :=
  if s.rd KEYC.SUB + 1 = 1000000000 then (s.put KEYC.SUB 0).put KEY_RTC.SEC (s.rd KEY_RTC.SEC + 1)
  else s.put KEYC.SUB (s.rd KEYC.SUB + 1)

/-- One nanosecond: DEV_TIME counts from the entry to BOOT on. -/
def State.tick (s : State) : State :=
  ((if s.answers then { s with time := (s.time + 1) % 2 ^ 64 } else s).rtcTick).castCheckEnd

end Sys2Proof.Machine
end

