-- ==== Sys2Proof/Safety.lean ====
section
/-! DEFINITION. What claims about the block are stated in: the ledger balances, the canonical forms of its tables, and what
two states have in common. -/

namespace Sys2Proof.Machine

/-! ## Conservation (R56, R57, R60) -/

/-- Transmit tokens that the ledger counts as dropped. -/
def Ledger.txDrops (l : Ledger) : Nat :=
  l.txOvf + l.txNotrib + l.txGmp + l.txRetired + l.txCap + l.txLimit + l.txFault + l.txPoison + l.txFence + l.txFlush

/-- Receive tokens that the ledger counts as dropped. -/
def Ledger.rxDrops (l : Ledger) : Nat :=
  l.rxGen + l.rxAuth + l.rxCap + l.rxFault + l.rxNotrib + l.rxGmp + l.rxLane + l.rxOvf + l.rxPoison + l.rxFence + l.rxFlush

/-- Codewords that the ledger counts as dropped. -/
def Ledger.cwDrops (l : Ledger) : Nat := l.cwBudget + l.cwFence + l.cwFlush

/-- The four laws of R57, of exact counts: what came in is out, dropped or resident. -/
def Flow.balanced (f : Flow) : Prop :=
  f.led.txIn = f.led.txOut + f.led.txDrops + f.txRes ∧ f.led.rxIn = f.led.rxOut + f.led.rxDrops + f.rxRes ∧
  f.led.cwIn = f.led.cwOut + f.led.cwDrops + f.cwRes ∧ f.led.crdIssued = f.led.crdUsed + f.led.crdReclaim + f.crdRes

/-- The laws hold unless LOCKDOWN flushed the channel without counting (Table 2.4, bit 3). -/
def Flow.conserved (f : Flow) : Prop := f.whole = true → f.balanced

/-- The laws hold in every channel. -/
def State.conserves (s : State) : Prop := ∀ n, (s.flow.get n).conserved

/-! ## Canonical forms -/

/-- The keys of a list of pairs rise strictly. -/
def keysRise {α : Type} (l : List (Nat × α)) : Prop := (l.map (·.1)).Pairwise (· < ·)

/-- The locations of the listed lines rise strictly. -/
def linesRise (l : List LineAt) : Prop := (l.map (·.loc)).Pairwise (· < ·)

/-- Every table of the state is in its canonical form: the fields and the memories' lines by rising keys, and the four
byte memories without a listed 0. -/
structure State.canonical (s : State) : Prop where
  regs : keysRise s.regs
  sram : linesRise s.sram
  store : memWf s.store = true
  sets : memWf s.sets = true
  applied : memWf s.applied = true
  runSet : memWf s.runSet = true

/-! ## What two states have in common -/

/-- The parts of the state that are tables of their own, and not fields of the register store. -/
inductive Area where
  /-- DEV_TIME -/
  | time
  /-- free values drawn -/
  | free
  /-- tokens, codewords and credits in flight, with the ledgers -/
  | flow
  /-- counters that are configured -/
  | pmcOn
  /-- profiles, held framed values, resizes, messages, slice replacements and received records of the channels -/
  | ch
  | votes
  /-- what is sent outside -/
  | out
  /-- histories of the monitors -/
  | mon
  /-- calibration store -/
  | store
  /-- calibration sets in force -/
  | sets
  /-- calibration values in use -/
  | applied
  /-- set of the calibration run -/
  | runSet
  | snaps
  /-- calibration elements that wait for a boundary -/
  | calWait
  /-- image and plan of the casting engine -/
  | cast
  /-- boot casting region -/
  | bootImage
  /-- firmware slots -/
  | fw
  /-- mailbox commands that run -/
  | mbx
  /-- lines of the protected memories -/
  | sram
  /-- descriptors that run -/
  | dma
  deriving DecidableEq, Repr

/-- The part is the same in both states. -/
def SameArea (s t : State) : Area → Prop
  | .time => t.time = s.time
  | .free => t.free = s.free
  | .flow => t.flow = s.flow
  | .pmcOn => t.pmcOn = s.pmcOn
  | .ch => t.ch = s.ch
  | .votes => t.votes = s.votes
  | .out => t.out = s.out
  | .mon => t.monHist = s.monHist ∧ t.monMean = s.monMean ∧ t.taps = s.taps
  | .store => t.store = s.store
  | .sets => t.sets = s.sets
  | .applied => t.applied = s.applied
  | .runSet => t.runSet = s.runSet
  | .snaps => t.snaps = s.snaps
  | .calWait => t.calWait = s.calWait
  | .cast => t.image = s.image ∧ t.plan = s.plan
  | .bootImage => t.bootImage = s.bootImage
  | .fw => t.fw = s.fw
  | .mbx => t.mbx = s.mbx
  | .sram => t.sram = s.sram
  | .dma => t.dma = s.dma

/-- Every field outside the list reads as before. -/
def SameFields (l : List Field) (s t : State) : Prop :=
  ∀ f : Field, (∀ g ∈ l, g.key ≠ f.key) → t.rd f = s.rd f

/-! ## What a command may touch -/

/-- The tables that a command may change, besides the register fields and the queue. -/
def areasOf : Instr → List Area
  | .registerWrite .. | .dmaGatherElement .. | .spiDataWord .. | .spiChipSelectRise .. =>
    [.time, .free, .flow, .pmcOn, .ch, .votes, .out, .mon, .store, .sets, .applied, .runSet, .snaps, .calWait, .cast, .bootImage, .mbx, .sram, .dma]
  | .rcCounterRead .. | .latchingLowWordRead .. | .flexeHostCalendarRequest .. | .hostMessageRead ..
    | .keyElementComplete .. | .monitorResultRead .. | .interruptCommit .. | .busMasterEnableClear
    | .dmaScatterElement .. | .pcieConfigurationWrite .. | .spiHeaderWord .. => [.out]
  | .tokenTransfer .. => [.free, .flow, .ch, .out]
  | .slackMeasurement .. | .governorEvaluation | .governorEmergencyRaise | .regulatorRequestResult ..
    | .regulatorRetry | .slackFloorTimeout | .snapshotHoldTimeout .. | .tuneComplete .. | .agcUnfreezeTimeout ..
    | .opticalPowerMonitorUpdate .. | .opticalLosClear .. | .safetyInputInactive ..
    | .safetyDiscrepancyTimeout .. | .receiverFrontEndFault .. | .converterPllLock .. | .adcLosDeclare ..
    | .adcLosClear .. | .frontEndMismatch .. | .cdTrackStep .. | .clockRecoveryLock ..
    | .noConvergenceTimeout .. | .engineResidueMismatch .. | .fecDegradeWindowEnd .. | .hostFecCodeword ..
    | .flexeCalendarAck .. | .flexeCalendarTimeout .. | .iscChipLock .. | .iscChipLockLoss ..
    | .iscMessageCrcError .. | .iscUnknownMessage .. | .heartbeatReceived .. | .telemetryReceived ..
    | .hostMessageReceived .. | .entropyReseed .. | .rootEraseArmExpiry | .vkeepLow .. | .monitorClockLoss ..
    | .calPolicyAgeTrigger .. | .calPolicyTemperatureCheck .. | .supervisorHeartbeat .. | .supervisorRelease ..
    | .supervisorHandback | .interruptSelection .. | .interruptControllerFault | .retirementSwitch
    | .pcieLinkUp .. | .mainRailsUp | .powerLossRecordProgrammed | .powerWarningEnd | .spiChipSelectFall
    | .vkeepAbsent | .vkeepRestored | .mrefclkLoss .. | .mrefclkRestored | .idClashNegotiationTimeout ..
    | .adcClipExcess .. => []
  | .ledgerSnapshotRequest .. | .profileWrite .. | .modeOfferTimer .. | .modeOfferReceived .. | .resizeGo ..
    | .resizeReceiverSwitch .. | .txPowerWrite .. | .optFreqWrite .. | .agcSettled .. | .discrepancyClear ..
    | .coarseEstimateComplete .. | .coarseEstimateTimeout .. | .cycleSlip .. | .tileResidueMismatch ..
    | .tileRepartitionComplete .. | .txClipExcess .. | .testPatternWrite .. | .codewordAlignment ..
    | .iterationControlWrite .. | .torCopyReceived .. | .iscHostSend .. | .iteratedEngineForce ..
    | .keyBulkLoad .. | .keyBulkSave .. | .keyBulkRestore .. | .keyBulkResume .. | .keyBulkAbort ..
    | .keySlotErase .. | .monitorUrgentRequest .. | .monitorPresetChange .. | .compensationSetChange ..
    | .coefficientWrite .. | .mailboxCommandPost .. | .mailboxResponseConsume .. | .irqPendSet ..
    | .irqPendClear .. | .irqMaskSet .. | .irqMaskClear .. | .irqEoi .. | .pmcValueWrite .. | .scrubStart ..
    | .scrubPause .. | .scrubResume .. | .scrubAbort .. | .bankRetirementStart .. | .dmaQueuePost .. => [.ch]
  | .snapshotHoldComplete .. | .snapshotRecordWritten .. | .pmcSnapshotWritten .. => [.snaps]
  | .perturbationControlWrite .. | .resizeTargetReached .. | .resizeConvergenceTimeout .. | .laserEnable ..
    | .laserDisable .. | .tuneTimeout .. | .rampStep .. | .opticalLosDeclare .. | .safetyInputActive ..
    | .laserFault .. | .coolerFault .. | .boosterFault .. | .driverFault .. | .sliceStuckCode ..
    | .sliceRangeFault .. | .sliceDriftFault .. | .sliceTimingFault .. | .sliceSenseFault .. | .sliceForce ..
    | .shadowCalibrationConverged .. | .shadowCalibrationTimeout .. | .spareSubstitution .. | .respacing ..
    | .converterApplyBoundary .. | .converterPllLossOfLock .. | .converterReferenceLoss ..
    | .converterPllFault .. | .clockRecoveryLoss .. | .tileResidueFault .. | .tileHandshakeFault ..
    | .tileForce .. | .convergenceWindowEnd .. | .engineResidueFault .. | .engineHandshakeFault ..
    | .engineForce .. | .encoderParityMismatch .. | .frameHeaderReceived .. | .rxMultiframeBoundary ..
    | .hostLaneTransmitterFault .. | .hostLaneReceiverFault .. | .laneForce .. | .hostPllLossOfLock ..
    | .hostPllFault .. | .cipherMismatch .. | .pipelineHoldFault .. | .pipelineForce .. | .biasBlockEnd .. =>
    [.flow, .ch, .votes, .sets, .applied, .calWait]
  | .resizeProposeReceived .. | .resizeAcceptReceived .. | .resizeRefuseReceived .. | .resizeConfirmReceived ..
    | .resizeAcceptDeadline .. | .resizeConfirmDeadline .. | .tributaryCommitGo .. | .iscHeartbeatMissed ..
    | .rootProvision .. | .rootEraseArm .. | .rootEraseConfirm .. | .rolloverGo ..
    | .rolloverAnnounceReceived .. => [.ch, .votes]
  | .acquisitionStepComplete .. => [.free, .flow, .ch, .votes, .sets, .applied, .calWait]
  | .acquisitionStepTimeout .. | .enginePassComplete .. | .sealedUnitReceived .. | .hostLaneLosDeclare ..
    | .hostLaneLosClear .. | .hostLaneLolDeclare .. | .hostLaneLolClear .. | .hostAlignmentLock ..
    | .hostAlignmentLoss .. | .clientReplaceEnd .. | .flexeOverheadLock .. | .calendarEntryWrite ..
    | .flexeCalendarSwitch .. | .hostPllLock .. | .flexeIngressCalendarSwitch .. => [.flow, .ch]
  | .linkQualityWindowEnd .. => [.free, .ch]
  | .txUnderrun .. | .egressFifoEmptyTimeout .. | .flexeCalendarSwitchRequest .. | .iscMessageBoundary ..
    | .egressFifoEmptyInPacket .. => [.ch, .out]
  | .txMultiframeBoundary .. | .zeroiseCommand .. | .tamperInput .. | .zeroiseInput .. | .castingLoadComplete =>
    [.free, .flow, .ch, .votes, .sets, .applied, .calWait, .cast]
  | .codewordAssembled .. => [.free, .flow, .ch]
  | .egressTokenArrival .. => [.flow, .ch, .out]
  | .rolloverAckReceived .. | .rolloverAckDeadline .. | .calMonitorTimeout | .checkpointTimer => [.votes]
  | .monitorConversionEnd .. => [.votes, .mon, .sets, .applied, .calWait]
  | .monitorClockRelock .. => [.mon]
  | .calFull .. | .calTrack .. | .calLoad .. | .calRewrite .. => [.ch, .votes, .runSet]
  | .calMeasurementComplete .. | .calTriggeredRunStart .. => [.votes, .runSet]
  | .calStoreWriteComplete .. => [.votes, .store]
  | .calApplyElement => [.votes, .sets, .applied]
  | .supervisorHeartbeatTimeout .. | .voteOpen | .voteDecision .. | .supervisorSelfTestResult ..
    | .firmwareAuthenticationComplete .. | .supervisorStateTransferComplete .. | .arbiterSelfTest ..
    | .supervisorComplexReset .. | .supervisorComplexResetComplete | .bootStepComplete .. =>
    [.free, .flow, .pmcOn, .ch, .votes, .store, .sets, .applied, .calWait, .cast, .mbx]
  | .mailboxCommandAccept | .echo .. | .supStatus .. | .supRestore .. | .fwInfo .. | .fwVerify .. => [.mbx]
  | .fenceClear .. | .fwActivate .. => [.votes, .mbx]
  | .logRead .. => [.out, .mbx]
  | .fwLoad .. => [.fw, .mbx]
  | .pmcConfigWrite .. => [.pmcOn, .ch]
  | .pmcSnapshotRequest .. => [.ch, .snaps]
  | .memoryLineRead .. | .memoryLineWrite .. | .scrubLine .. | .retirementCopyLine .. =>
    [.free, .flow, .pmcOn, .ch, .votes, .out, .store, .sets, .applied, .calWait, .cast, .bootImage, .mbx, .sram]
  | .castingSubmit .. | .castingStore .. | .castingEraseStore .. | .castingPause .. | .castingResume ..
    | .castingAbort .. => [.free, .ch, .votes, .cast]
  | .castingFetchComplete .. => [.free, .cast]
  | .castingCheckComplete => [.free, .votes, .cast]
  | .castingApplyElement =>
    [.free, .flow, .pmcOn, .ch, .votes, .out, .sets, .applied, .runSet, .snaps, .calWait, .cast]
  | .castingStoreComplete => [.cast, .bootImage]
  | .castingEngineFault => [.free, .votes, .cast, .bootImage]
  | .pcieFunctionLevelReset | .pcieHotReset | .pcieLinkDown | .dmaReadCompletion .. | .dmaCompletionTimeout .. =>
    [.free, .out, .cast]
  | .dmaDescriptorStart .. => [.out, .dma]
  | .dmaQueueResume .. | .dmaQueueSkip .. | .dmaQueueAbort .. => [.ch, .out, .dma]
  | .mainRailLoss .. | .resetNAssert | .deviceResetCommand .. =>
    [.time, .flow, .pmcOn, .ch, .votes, .mon, .sets, .applied, .runSet, .snaps, .calWait, .cast, .bootImage, .mbx, .sram, .dma]
  | .internalResetEnd | .resetNRelease | .deviceResetHoldEnd =>
    [.time, .free, .flow, .ch, .votes, .sets, .applied, .calWait, .cast]
  | .powerWarning .. => [.free, .votes, .out, .store, .snaps, .cast, .bootImage]
  | .fenceRetestComplete .. => [.free, .flow, .ch, .votes, .sets, .applied, .calWait, .mbx]

/-! ## Fields -/

/-- Sources that an overflow or a wrap of a performance counter of a scope raises (R378). -/
def overflowSources (b : Nat) : List Nat := if b < 4 then [pmcOvfSource b, sourceOf b 0x91] else [pmcOvfSource b]

/-- Keys of the fields by which an event is noticed: the pending bits and arrival counters of the sources `src`, for the host
and the three supervisors (R366), and the performance counters of the scopes `pmc` with what their overflow sets (R378, R379). -/
def noticeKey (src pmc : List Nat) (k : Nat) : Prop :=
  (∃ N ∈ src ++ pmc.flatMap overflowSources, k = (IRQ_PEND N).key ∨ k = (IRQ_CFG.ARRIVE N).key ∨
    ∃ i < 3, k = (SUPC.PEND i N).key ∨ k = (SUPC.ARRIVE i N).key) ∨
  (∃ b ∈ pmc, k = (PMC_CH_STAT.OVF_EV b).key ∨ k = (PMC_CH_STAT.WRAP_EV b).key ∨
    ∃ i < 512, k = (PMC.CNT b i).key ∨ k = (PMC.STICKY b i).key)

/-- Every field outside the list reads as before, but for the pending bits and arrival counters of the sources `src` and the
performance counters of the scopes `pmc`. -/
def FieldsKept (l : List Field) (src pmc : List Nat) (s t : State) : Prop :=
  ∀ f : Field, ¬ noticeKey src pmc f.key → (∀ g ∈ l, g.key ≠ f.key) → t.rd f = s.rd f

/-- Fields that the reception of any valid supervisory message of channel n sets (R262, R269). -/
def messageFields (n : Nat) : List Field :=
  [ISC_CNT_RX.GOOD n, ISC_STAT.RX_REP n, ISC_CNT_EV.LOST n, ISCC.RXSEQ n, ISCC.RXSEQV n, ISC_STAT.MISSED n, ISC_STAT.PEER n,
   ISC_STAT.PRES_EV n]

/-- Fields that show a profile in the transmitter (R76, R158, R159, R167, R205). -/
def txProfileFields (n : Nat) : List Field :=
  [LDS_LMODE.PROFILE n, (LDS_LMODE.PROFILE n).inForce, LDS_LMODE_STAT.ACTIVE n, LDS_TX_STAT.ROLL n, LDS_TX_STAT.SHAPED n,
   LDS_TX_DM.K n, LDS_TX_COMP0.CNT1 n, LDS_TX_COMP0.CNT3 n, LDS_TX_COMP1.CNT5 n, LDS_TX_COMP1.CNT7 n, LFR_GEOM0.FBYTES n]

/-- Fields that show a profile in the receive stages, the tiles and the decoder's budgets (R140, R141, R144, R150, R187). -/
def rxProfileFields (n : Nat) : List Field :=
  [LDSC.RXPROF n, LDS_NLC_STAT.TRIPLETS n, LDS_NLC_STAT.ALPHA_NOW n, FEC_STAT.CODE n, LDS_TILE_SUM.CD n, LDS_TILE_SUM.MIMO n,
   LDS_TILE_SUM.NLC n, LDS_TILE_BUF.CWBUF n, FEC_BUDGET.ENG n, FEC_BUDGET.EFF n] ++
  (List.range 96).flatMap (fun k => [LDS_TILE_STAT.STAGE n k, LDS_TILE_STAT.STATE n k])

/-- Fields of the supervisory receiver that return to rest as it stops or starts (R258, R269). -/
def chipFields (n : Nat) : List Field :=
  [ISC_STAT.CHIP n, ISC_STAT.PEER n, ISC_STAT.MISSED n, ISC_STAT.COH n, ISC_STAT.CODE_FOUND n, ISC_FOFS.FOFS n, ISC_FOFS.QUAL n,
   LDS_LQ_STAT.ISC_CANC n, ISCC.RXSEQV n, LDS_TX_STAT.ISC_INS n]

/-- The other channels keep their tokens, their line data, their state and their light (R33). -/
def OthersKept (n : Nat) (s t : State) : Prop :=
  ∀ m : Fin 4, m.val ≠ n → t.flow.get m = s.flow.get m ∧ t.ch.get m = s.ch.get m ∧ t.chSt m = s.chSt m ∧ t.phase m = s.phase m

/-- Fields of the receive path that a warm start sets, and the marks of the agreement (R147, R148). -/
def warmFields (n : Nat) : List Field :=
  [LDS_CLK_STAT.LOCK n, LDS_EQ_STAT.PSYNC n, LDS_EQ_STAT.DFE n, LDS_LQ_STAT.VALID n, LDS_LQ_STAT.BERV n, ISC_STAT.COH n,
   LDS_ACQ_STAT.COLD n, LDS_ACQ_STAT.STEP n, LDSC.WAIT n, LDSC.AGREED n, LDSC.SENT_AG n, LDSC.RCVD_AG n, LDSC.NEXT_AG n]

/-- Fields of the slices of channel n, their corrections apart: states, positions, spares and what a fault of one shows (R112 to
R114). -/
def sliceFields (n : Nat) : List Field :=
  [CNV_STAT.SLC_EV n, CNV_STAT.EXHAUST n, CNV_STAT.SHADOW n, CNV_SPARES.FREE n, CNVC.FENCED n] ++
  (List.range 544).flatMap (fun k => [CNV_SLC_STAT.STATE n k, CNV_SLC_STAT.POS n k])

/-- Fields that the end of a link-quality window latches (Table 6.13, R152, R153). -/
def qualityFields (n : Nat) : List Field :=
  [LDS_LQ_SNR.SNR n, LDS_LQ_SNR.MIN n, LDSC.MIN_READ n, LDS_LQ_SNRXY.X n, LDS_LQ_SNRXY.Y n, LDS_LQ_EVM.EVM n, LDS_LQ_STAT.SD n,
   LDS_LQ_STAT.SD_EV n, LDS_LQ_GMI.GMI n, LDS_LQ_GMI.MARGIN n, LDS_LQ_BER.BER_LOG n, LDS_LQ_STAT.VALID n, LDS_LQ_STAT.BERV n,
   LDS_LQ_STAT.BER_ZERO n, LDS_LQ_STAT.RSZ n, LDSC.RSZ_WIN n, LDS_LQ_STAT.SEQ n, LDS_LQ_STAT.WIN_EV n]

/-- Fields of a ramp of the launched power (R94). -/
def rampFields (n : Nat) : List Field :=
  [OPTC.RAMPING n, OPTC.RAMP_K n, OPTC.RAMP_PROF n, OPTC.RAMP_FROM n, OPTC.RAMP_TO n]

/-- Fields of the safety inputs that every engine shows (Table 4.20). -/
def safeFields : List Field :=
  channels.flatMap (fun k => [OPT_SAFE_STAT.A_ACT k, OPT_SAFE_STAT.B_ACT k, OPT_SAFE_STAT.SHUT k, OPT_SAFE_STAT.DISC_RUN k])

/-- Fields that the end of a resize in FAILED sets (Table 3.14). -/
def failFields (n : Nat) : List Field :=
  [LDS_RSZ_STAT.STATE n, LDS_RSZ_STAT.CAUSE n, LDS_RSZ_STAT.FAIL_EV n, LDS_RSZ_TIME.CONV n, LFRC.TX_RESIZE n]

/-- Fields of the clients of channel n that a change of its lanes, members or calendars reaches (R239, R244, R252). -/
def clientFields (n : Nat) : List Field :=
  HST_STAT.REPL_EV n :: (List.range 256).flatMap (fun c => [HST_CLI.IN n c, HST_CLI.OUT n c, HST_CLI.REPL n c,
    HST_CLI.MAPPED n c, HST_CLI.CREDITED n c, HSTC.FIFO n c])

/-- Fields of the pool of device reads (R428). -/
def poolFields : List Field :=
  DMAC.LAST :: MGT_DMA_STAT.OUTST :: (List.range 7).flatMap (fun c => [DMAC.OUT c, DMAC.NEED c])

/-- Fields that the end of an image in the casting engine sets: its report, and the engine's own (R413, R414, R415). -/
def castEndFields : List Field :=
  [CSTC.SEQ, CST_STAT.RESULT, CST_STAT.DONE_EV, CST_STAT.REFUSE_EV, CST_STAT.STATE, CST_STAT.PAUSE, CSTC.OP, CSTC.AUTH, CSTC.BOOT,
   DEV_BOOT_STAT.HOLD, CST_CNT.REFUSED] ++
  (List.range 16384).map (fun k => tableWord (0x8D00000 + 4 * k)) ++ poolFields

/-- Fields of the plinth's event records (R299). -/
def plinthFields : List Field := (List.range 8).flatMap (fun i => [KEY_PLOG.CAUSE i, KEY_PLOG.MODE i, KEY_PLOG.TIME i])

/-- Fields of queue q that an end or a fault of its descriptor reaches (R430, R433). -/
def queueFields (q : Nat) : List Field :=
  [MGT_DQ_STAT.STATE q, MGT_DQ_STAT.DONE_EV q, MGT_DQ_STAT.FAULT_EV q, MGT_DQ_STAT.CAUSE q, MGT_DQ_STAT.ERRIDX q,
   MGT_DQ_STAT.DESC q, MGT_DQ_CI.CI q, MGT_DQ_CNT.FAULTS q, MGT_DQ_CNT.DONE q] ++
  (List.range 256).map (fun i => descWord q i 0x18)

/-- Fields of configuration space, the MSI-X table and the device reads, which a PCI Express reset clears (R434). -/
def portFields : List Field :=
  [MGT_STAT.BME, MGT_STAT.DSTATE, MGTC.MSIX_EN, MGTC.FMASK, MGTC.MRRS, MGTC.RELAX, MGTC.TIMEOUT, DMAC.SUP_ERR] ++
  (List.range 64).flatMap (fun v => [MSIX.ADDR_LO v, MSIX.ADDR_HI v, MSIX.DATA v, MSIX.PEND v, MSIX.MASK v]) ++ poolFields

/-- The completion record of a descriptor, as it leaves the device; none without CPL, or when the port sends nothing. -/
def State.recordSent (s : State) (q cause : Nat) : List Out :=
  let d := s.dmaOf q
  if d.cpl ≠ 0 ∧ s.portSends = true then
    [.hostMemory d.cpl (leBytes 2 d.id ++ leBytes 1 cause ++ leBytes 1 (s.rd (MGT_DQ_STAT.ERRIDX q)) ++
      leBytes 1 (s.rd (MGT_DQ_STAT.DESC q)) ++ leBytes 1 q ++ leBytes 2 0 ++ leBytes 8 s.time)]
  else []

/-- The state after a command. -/
def State.after (s : State) (c : Instr) : State :=
  match exec c s with
  | .next t => t
  | _ => s

/-- A mailbox command has been answered: its tag is free, and the next entry of the response ring holds its status, tag,
generation and result words (R358, R359, Table 15.11). -/
def State.repliesTo (s t : State) (c : MbxCmd) (status : Nat) (l : List Nat) : Prop :=
  t.mbx = s.mbx.filter (fun x => x.tag ≠ c.tag) ∧ t.rd SUP_MBX_STAT.OUTST = t.mbx.length % 256 ∧
  t.rd (tableWord (0x22000 + 64 * s.rd SUP_MBX_RSP_PI.PI)) =
    (status * 2 ^ 24 + c.tag * 2 ^ 16 + c.gen * 2 ^ 8 + l.length) % 2 ^ 32 ∧
  (∀ k : Fin 15, t.rd (tableWord (0x22004 + 64 * s.rd SUP_MBX_RSP_PI.PI + 4 * k)) = l.getD k 0 % 2 ^ 32) ∧
  t.rd SUP_MBX_RSP_PI.PI = (s.rd SUP_MBX_RSP_PI.PI + 1) % 64 ∧ t.rd SUP_MBX_STAT.RSP_EV = 1 ∧ t.rd (IRQ_PEND 35) = 1

/-! ## Resets (Table 20.4) -/

/-- A reset has left the state: everything is as right after reset, but for what a reset keeps and the fields of `l`, which this
one sets itself.  `power`: a power-on reset. -/
def ResetTo (power : Bool) (l : List Field) (s t : State) : Prop :=
  { t with regs := [] } = { State.reset with
      regs := [], pending := s.pending, free := s.free, out := s.out, store := s.store, fw := s.fw,
      bootImage := s.cutWrites.bootImage } ∧
  ∀ f : Field, (∀ g ∈ l, g.key ≠ f.key) → t.rd f = if keepsKey power f.key then s.rd f else State.reset.rd f

/-! ## The received line (R209) -/

/-- Header h stands next in the data stream of channel n, under profile p of a native or custom mode: its codewords are aligned, the
payload area of the frame before is there, if one is awaited, and 96 bytes after it. -/
def State.headerHere (s : State) (n : Nat) (p : Profile) (h : Header) : Prop :=
  let x := ((s.takeFrame n p).chan n).rx
  s.on (FEC_STAT.CW_ALIGN n) = true ∧ s.lineProfile n = some p ∧ p.interop = false ∧ x.due = false ∧ 768 ≤ x.bits.length ∧
  h = (headerOf (s.on (LFR_CTRL.G2 n)) (bitBytes ((x.bits.take 768).map (·.1)))).1

/-- Violated parity bits of the frame before header h (R210). -/
def State.parityErrors (s : State) (n : Nat) (p : Profile) (h : Header) : Nat :=
  popcount (((s.takeFrame n p).chan n).rx.bip ^^^ h.bip) 16

/-- A header that the framer takes as good in PRESYNC and SYNC: at most 4 FAS errors, HCS correct, FN as expected (R209). -/
def State.goodHere (s : State) (n : Nat) (h : Header) : Bool :=
  h.fasErr ≤ 4 && h.hcs && h.fn = (s.rd (LFRC.FN n) + 1) % 4096

/-! ## Who may write -/

/-- A host write through a window is judged by its fields alone: the port answers, the window has the level that the
word asks, and no power warning holds writes off (R438, R439, R441, R456). -/
def State.writeOpen (s : State) (win lvl : Nat) : Prop :=
  s.answers = true ∧ lvl ≤ s.level win ∧ s.on MGT_STAT.PWARN = false

/-- One count of a counter that saturates. -/
def State.oneMore (s : State) (f : Field) : Nat := Nat.min (s.rd f + 1) (2 ^ f.width - 1)

/-- Fields that the record of a refusal writes (R441). -/
def State.refuseFields (s : State) : List Field :=
  [MGT_REFUSE.ADDR, MGT_REFUSE_INFO.RD, MGT_REFUSE_INFO.WIN, MGT_REFUSE_INFO.REASON, MGT_REFUSE_INFO.COUNT,
   MGT_RLOG_PTR.WRAP, MGT_RLOG_PTR.PTR] ++
  (List.range 8).map (fun i => tableWord (0x8F00000 + 32 * s.rd MGT_RLOG_PTR.PTR + 4 * i))

/-- An access has been refused: MGT_REFUSE names it with its reason, and nothing else has changed but the record and the
notice of it (R441). -/
def State.refusedAs (s t : State) (win a reason : Nat) (read : Bool) : Prop :=
  t.rd MGT_REFUSE.ADDR = a % 2 ^ 28 ∧ t.on MGT_REFUSE_INFO.RD = read ∧ t.rd MGT_REFUSE_INFO.WIN = win ∧
  t.rd MGT_REFUSE_INFO.REASON = reason ∧ t.rd MGT_REFUSE_INFO.COUNT = s.oneMore MGT_REFUSE_INFO.COUNT ∧
  t.rd (IRQ_PEND 128) = 1 ∧ FieldsKept s.refuseFields [128] [4] s t

end Sys2Proof.Machine
end

