-- ==== Sys2Proof/Certificates/Slice0/Obligations.lean ====
section
/-! DEFINITION. The obligations: what the provers are to show of the model. -/

open Sys2Proof Sys2Proof.Machine

/-- O1. For every command c and every state whose queue begins with c, step answers what exec c answers on the state
  with
the rest of the queue. That a command waits in a queue is the model's interface (log 1).  (95_what_each_step_holds.md)
  -/
def Obligations.StepRunsFront : Prop :=
  ∀ (c : Instr) (s : State) (rest : List Instr), s.pending = c :: rest →
    step s = exec c { s with pending := rest }

/-- O2. On an empty queue, with the casting engine at rest, step answers a next state in which DEV_TIME has counted one
nanosecond while the device answers, the plinth clock has counted one in every mode, a second after 10^9, and nothing
else has changed. That an idle step is a nanosecond is the model's choice (log 7).  (20_power_and_reset.md,
12_security.md) -/
def Obligations.EmptyQueueTicks : Prop :=
  ∀ s : State, s.pending = [] → s.cst ≠ Cst.apply →
    ∃ t, step s = .next t ∧ t.pending = [] ∧ t.out = s.out ∧
      t.time = (if s.answers = true then (s.time + 1) % 2 ^ 64 else s.time) ∧
      (s.rd KEYC.SUB + 1 < 1000000000 → t.rd KEYC.SUB = s.rd KEYC.SUB + 1 ∧ t.rd KEY_RTC.SEC = s.rd KEY_RTC.SEC) ∧
      (s.rd KEYC.SUB + 1 = 1000000000 → t.rd KEYC.SUB = 0 ∧ t.rd KEY_RTC.SEC = (s.rd KEY_RTC.SEC + 1) % 2 ^ 32) ∧
      SameFields [KEYC.SUB, KEY_RTC.SEC] s t ∧ ∀ x, x ≠ .time → SameArea s t x

/-- O3. State.reset is in mode RESET with DEV_TIME 0 and an empty queue; every field of the register map reads its reset
value; every ledger counter is 0 and no token, codeword or credit is in flight; no vote is open and no mailbox command
waits. Reset values that the spec does not give are the model's choice (log 6).  (22_register_map.md,
01_architecture.md, 02_fabric_and_conservation.md, 20_power_and_reset.md) -/
def Obligations.ResetHoldsResetColumn : Prop :=
  State.reset.mode = Mode.reset ∧ State.reset.time = 0 ∧ State.reset.pending = [] ∧
  (∀ f : Field, f.addr < 0x10000000 → State.reset.rd f = f.reset) ∧
  (∀ n, State.reset.flow.get n = Flow.empty) ∧ State.reset.votes = [] ∧ State.reset.mbx = []

/-- O4. In State.reset every channel's transmit, receive, codeword and credit ledger satisfies in = out + drops +
resident, and the register store, the protected memories' lines and the four byte memories are in their canonical
form, which is the model's own (log 1).  (02_fabric_and_conservation.md, 22_register_map.md) -/
def Obligations.InvariantsHoldAtReset : Prop :=
  State.reset.conserves ∧ State.reset.canonical

/-- O5. From every state in which each channel's four ledgers balance (in = out + drops + resident, in exact counts,
unless LOCKDOWN has flushed the channel without counting), a step that answers a next state answers one in which they
balance, whichever command stands at the front of the queue, and on an empty queue.  (02_fabric_and_conservation.md,
01_architecture.md) -/
def Obligations.LedgersBalanceAlways : Prop :=
  ∀ s t : State, s.conserves → step s = .next t → t.conserves

/-- O6. From every state whose tables are in canonical form (strictly rising keys, no listed value equal to what an
unlisted place reads), a step that answers a next state answers one whose tables are: equal contents stay equal data.
The form is the model's own (log 1).  (14_calibration.md, 17_memory_integrity.md, 22_register_map.md) -/
def Obligations.TablesStayCanonical : Prop :=
  ∀ s t : State, s.canonical → step s = .next t → t.canonical

/-- O7. When a command answers a next state, the queue is as it was, everything that was sent outside is still there
  with
what the command sent before it, and the count of drawn free values has not gone down.  (19_management_port.md) -/
def Obligations.QueueAndOutputsGrowOnly : Prop :=
  ∀ (c : Instr) (s t : State), exec c s = .next t →
    t.pending = s.pending ∧ (∃ l, t.out = l ++ s.out) ∧ s.free ≤ t.free

/-- O8. For every command and state, when exec answers a next state, each part of the state that areasOf does not list
  for
the command is unchanged: time, tokens, counters configured, channel records, votes, outputs, monitor histories,
calibration store and sets, snapshots, the casting image, firmware, mailbox, protected memories and descriptors.
(01_architecture.md, 19_management_port.md, 20_power_and_reset.md, 95_what_each_step_holds.md) -/
def Obligations.CommandsTouchOnlyTheirTables : Prop :=
  ∀ (c : Instr) (s t : State), exec c s = .next t → ∀ x, x ∉ areasOf c → SameArea s t x

/-- O9. (1) The first 96 bytes of a frame, sent and received, give its header with no FAS error and a good HCS, for a
header whose fields are within their widths. (2) A tributary record within its widths reads back with a good CRC; with
ACT 0 its START, COUNT and CM read 0, and G2 carries no ENC, KI or GEN (Table 9.8). (3) The scrambler undoes itself.
(4) AES-GCM text under one key and IV undoes itself. (5) The bytes that a payload area takes from each tributary are,
in order, those that its receiver hands to that tributary, and the others still wait.  (09_line_framer.md,
12_security.md) -/
def Obligations.FramesReadBack : Prop :=
  (∀ (g2 : Bool) (h : Header) (t : Nat) (r : TorRec),
    h.fn < 4096 → h.mfn < (if g2 then 2 ^ 16 else 2 ^ 32) → h.mode < 256 → h.sr < 2 ^ 32 → h.bip < 2 ^ 16 →
    (g2 = true → h.bip % 256 = 0) → h.rei < 256 →
    headerOf g2 (frameSent g2 (headerBytes g2 h (torBytes g2 t r))) =
      ({ h with fasErr := 0, hcs := true }, headerBytes g2 h (torBytes g2 t r)) ∧
    (headerBytes g2 h (torBytes g2 t r)).drop 80 = torBytes g2 t r) ∧
  (∀ (g2 : Bool) (t : Nat) (r : TorRec), t < 1024 → r.gen < 256 → r.start < 2048 → r.count < 2048 → r.cm < 2 ^ 30 →
    torOf g2 (torBytes g2 t r) = (true, t,
      { act := r.act, enc := r.enc && !g2, ki := r.ki && !g2, gen := if g2 then 0 else r.gen,
        start := if r.act then r.start else 0, count := if r.act then r.count else 0, cm := if r.act then r.cm else 0
          })) ∧
  (∀ (g2 : Bool) (l : List Byte), scrambleBytes g2 (scrambleBytes g2 l) = l) ∧
  (∀ (key iv : Nat) (l : List Byte), gcmText key iv (gcmText key iv l) = l) ∧
  (∀ (owners : List (Option Nat)) (q rest : List (Nat × List Byte)) (body : List Byte),
    frameBody owners q = some (body, rest) →
    ∀ t, (q.lookup t).getD [] = ((takeBody owners body []).lookup t).getD [] ++ (rest.lookup t).getD [])

/-- O10. Each is a transfer of channel n of a device that answers. The bound of R24 that the hypotheses name is log
  entry
42's. (1) offer: a token of a credited client that is UP, whose staging buffer has room, is counted in and staged with
its payload for the client's tributary (R46, R237), and LF_SEEN of a defined client shows what the host sends. (2)
offer with the staging buffer full: the token is counted in and dropped into HST_TX_DROP_OVF (R58, R237). (3)
enterTrib: the oldest staged token of tributary b, not poisoned, enters TRB on one credit of its client where the
justification buffer has room (R237, R238): one more credit is used, no token is counted, and 64 bytes have arrived.
(4) toSec: the oldest token of tributary b in TRB, not poisoned, passes to SEC while the multiframe leaves positions
for it and its tenant is not suspended or stopped (R46, R217): nothing is counted in, out or dropped. (5) mapperEmpty:
a data position of a carried tributary with nothing in TRB or SEC is counted in TRB_CNT.UNDER (R217), and no token is
counted. (6) toLfr: the oldest token of a tributary in SEC, not poisoned nor in a spoilt unit, is consumed into the
transmit frame: it leaves the occupancy and is counted out (R46, R58). (7) demux: 64 bytes extracted for a tributary
whose token the entry delivers become a token in SEC, counted in, with UNCORR where one of its bytes has it (R216,
R223). (8) fromSec: the oldest token of an unencrypted ACTIVE tributary in SEC, not poisoned and in no unit, passes to
TRB's egress buffer where B_cap leaves room (R218), counted nowhere. (9) toFec: where LFR holds 512 bits for it, one
LINE token crosses link 0x04, its sequence number counting modulo 1,024 (R182). (10) toLds: where the encoder holds
512 bits for it and the DSP no codeword to form, one crosses link 0x05 in the same way. (11) fromFec: where the
decoder holds 512 bits for it, one crosses link 0x12, with UNCORR on all its bits where one has it.
(02_fabric_and_conservation.md, 09_line_framer.md, 10_host_ports.md) -/
def Obligations.TokenTransfersCounted : Prop :=
  (∀ (s : State) (n : Fin 4) (c : Fin 256) (lf : Bool) (k : Nat) (d : BitVec 512),
      s.answers = true → s.entryOf n c = some k → s.creditedUp n c = true →
      s.withinLine n (s.flow.get n).txRes = true →
      ∃ t, exec (.tokenTransfer n (.offer c false lf d)) s = .next t ∧
        t.flow = s.flow.set n (Flow.txEnter .txStaged k (s.tainted n k) d (s.flow.get n)) ∧
        (t.flow.get n).led.txIn = (s.flow.get n).led.txIn + 1 ∧ (t.flow.get n).txRes = (s.flow.get n).txRes + 1 ∧
        (t.on (HST_CLI.LF_SEEN n c) = (if s.defined n c = true then lf else s.on (HST_CLI.LF_SEEN n c))) ∧
        t.ch = s.ch ∧ FieldsKept [HST_CLI.LF_SEEN n c, FABC.WRAP n] [] [n] s t) ∧
  (∀ (s : State) (n : Fin 4) (c : Fin 256) (lf : Bool) (k : Nat) (d : BitVec 512),
      s.answers = true → s.entryOf n c = some k → s.creditedUp n c = true →
      ∃ t, exec (.tokenTransfer n (.offer c true lf d)) s = .next t ∧
        t.flow = s.flow.set n (Flow.txReject .ovf (s.flow.get n)) ∧
        (t.flow.get n).led.txIn = (s.flow.get n).led.txIn + 1 ∧
        (t.flow.get n).led.txOvf = (s.flow.get n).led.txOvf + 1 ∧ (t.flow.get n).txRes = (s.flow.get n).txRes ∧
        t.ch = s.ch ∧ FieldsKept [HST_CLI.LF_SEEN n c, FABC.WRAP n] [] [n] s t) ∧
  (∀ (s : State) (n : Fin 4) (b : Fin 1024) (k : Token),
      s.answers = true → ((s.flow.get n).tok.find? (fun x => x.stage = .txStaged && x.trib = b.val) = some k) →
      k.poison = false → s.entryOf n (s.rd (TRB_TRIB.CLIENT n b)) = some b.val →
      s.creditedUp n (s.rd (TRB_TRIB.CLIENT n b)) = true →
      (s.flow.get n).outstanding (s.rd (TRB_TRIB.CLIENT n b)) ≠ 0 → s.sealStopped n b = false → s.room n b ≠ 0 →
      ∃ t, exec (.tokenTransfer n (.enterTrib b)) s = .next t ∧
        (t.flow.get n).led.crdUsed = (s.flow.get n).led.crdUsed + 1 ∧
        { k with stage := .txTrb } ∈ (t.flow.get n).tok ∧ (t.flow.get n).txRes = (s.flow.get n).txRes ∧
        (t.flow.get n).led.txIn = (s.flow.get n).led.txIn ∧ (t.flow.get n).led.txOut = (s.flow.get n).led.txOut ∧
        (t.flow.get n).led.txDrops = (s.flow.get n).led.txDrops ∧
        t.rd (TRBC.ARR n b) = (s.rd (TRBC.ARR n b) + 64) % 2 ^ 32 ∧ t.ch = s.ch ∧
        FieldsKept [TRBC.ARR n b, FABC.WRAP n] [] [n] s t) ∧
  (∀ (s : State) (n : Fin 4) (b : Fin 1024) (k : Token),
      s.answers = true → ((s.flow.get n).tok.find? (fun x => x.stage = .txTrb && x.trib = b.val) = some k) →
      k.poison = false → s.rd (TRB_TRIB.STATE n b) ≠ Trib.suspended → s.sealStopped n b = false →
      s.mapperOpen n b = true →
      ∃ t, exec (.tokenTransfer n (.toSec b)) s = .next t ∧ { k with stage := .txSec } ∈ (t.flow.get n).tok ∧
        (t.flow.get n).txRes = (s.flow.get n).txRes ∧ (t.flow.get n).led.txIn = (s.flow.get n).led.txIn ∧
        (t.flow.get n).led.txOut = (s.flow.get n).led.txOut ∧
        (t.flow.get n).led.txDrops = (s.flow.get n).led.txDrops ∧ t.ch = s.ch ∧
        FieldsKept [TRBC.LEFT n b, FABC.WRAP n] [] [n] s t) ∧
  (∀ (s : State) (n : Fin 4) (b : Fin 1024),
      s.answers = true → s.on (TRB_TRIB.CARRY n b) = true → 0 < s.rdS (TRBC.LEFT n b) → s.held n b .txTrb = 0 →
      s.held n b .txSec = 0 →
      ∃ t, exec (.tokenTransfer n (.mapperEmpty b)) s = .next t ∧
        t.rd (TRB_CNT.UNDER n) = s.oneMore (TRB_CNT.UNDER n) ∧ t.flow = s.flow ∧
        FieldsKept [TRB_CNT.UNDER n, TRBC.LEFT n b] [] [n] s t) ∧
  (∀ (s : State) (n : Fin 4) (b : Fin 1024) (k : Token),
      s.answers = true → ((s.flow.get n).tok.find? (fun x => x.stage = .txSec && x.trib = b.val) = some k) →
      k.poison = false → (s.on (TRB_TRIB.ENC n b) = true → ((s.chan n).tx.sealOf b).bad = false) →
      ∃ t, exec (.tokenTransfer n (.toLfr b)) s = .next t ∧
        (t.flow = s.flow.set n (Flow.txLeave (fun x => x.stage = .txSec && x.trib = b.val) (s.flow.get n))) ∧
        (t.flow.get n).led.txOut = (s.flow.get n).led.txOut + 1 ∧ (t.flow.get n).txRes + 1 = (s.flow.get n).txRes ∧
        FieldsKept [FABC.WRAP n] [] [n] s t) ∧
  (∀ (s : State) (n : Fin 4) (b : Fin 1024) (r : TorRec) (l : List (Byte × Bool)) (y : LineRx),
      s.answers = true → s.on (LFR_STAT.MF_LOCK n) = true → s.interop n = false → s.extracts n b = some r →
      (s.chan n).rx.nextToken b (s.rd (LFR_MFN_RX.MFN n)) r = some (l, y) → (s.rxFate n b r).1 = .deliver →
      s.withinLine n (s.flow.get n).rxRes = true →
      ∃ t, exec (.tokenTransfer n (.demux b)) s = .next t ∧
        t.flow = s.flow.set n (Flow.rxEnter .rxSec b (s.tainted n b) (l.any (·.2)) (bytesToken (l.map (·.1)))
          (s.flow.get n)) ∧
        (t.flow.get n).led.rxIn = (s.flow.get n).led.rxIn + 1 ∧ (t.flow.get n).rxRes = (s.flow.get n).rxRes + 1 ∧
        t.ch = s.ch.set n { s.ch.get n with rx := y } ∧ FieldsKept [FABC.WRAP n] [] [n] s t) ∧
  (∀ (s : State) (n : Fin 4) (b : Fin 1024) (k : Token),
      s.answers = true → s.on (TRB_TRIB.ENC n b) = false → ((s.chan n).rx.openingOf b).due = [] →
      ((s.flow.get n).tok.find? (fun x => x.stage = .rxSec && x.trib = b.val) = some k) → k.poison = false →
      s.rd (TRB_TRIB.STATE n b) = Trib.active → 64 * s.held n b .rxTrb + 64 ≤ s.bCap n b →
      ∃ t, exec (.tokenTransfer n (.fromSec b)) s = .next t ∧ { k with stage := .rxTrb } ∈ (t.flow.get n).tok ∧
        (t.flow.get n).rxRes = (s.flow.get n).rxRes ∧ (t.flow.get n).led.rxIn = (s.flow.get n).led.rxIn ∧
        (t.flow.get n).led.rxOut = (s.flow.get n).led.rxOut ∧
        (t.flow.get n).led.rxDrops = (s.flow.get n).led.rxDrops ∧ t.ch = s.ch ∧ FieldsKept [FABC.WRAP n] [] [n] s t) ∧
  (∀ (s : State) (n : Fin 4),
      s.answers = true → 512 ≤ (s.chan n).tx.bits4.length →
      ∃ t, exec (.tokenTransfer n .toFec) s = .next t ∧
        t.ch = s.ch.set n { s.ch.get n with tx := (s.chan n).tx.move4 } ∧
        ((t.chan n).tx.enc = (s.chan n).tx.enc ++ (s.chan n).tx.bits4.take 512) ∧
        (t.chan n).tx.seq4 = ((s.chan n).tx.seq4 + 1) % 1024 ∧ t.flow = s.flow ∧ FieldsKept [] [] [] s t) ∧
  (∀ (s : State) (n : Fin 4),
      s.answers = true → 512 ≤ (s.chan n).tx.bits5.length → (s.chan n).tx.geos5 = [] →
      ∃ t, exec (.tokenTransfer n .toLds) s = .next t ∧
        t.ch = s.ch.set n { s.ch.get n with tx := (s.chan n).tx.move5 } ∧
        ((t.chan n).tx.dsp = (s.chan n).tx.dsp ++ (s.chan n).tx.bits5.take 512) ∧
        (t.chan n).tx.seq5 = ((s.chan n).tx.seq5 + 1) % 1024 ∧ t.flow = s.flow ∧ FieldsKept [] [] [] s t) ∧
  (∀ (s : State) (n : Fin 4),
      s.answers = true → 512 ≤ (s.chan n).rx.bits12.length →
      ∃ t, exec (.tokenTransfer n .fromFec) s = .next t ∧
        t.ch = s.ch.set n { s.ch.get n with rx := (s.chan n).rx.move12 } ∧
        (t.chan n).rx.seq12 = ((s.chan n).rx.seq12 + 1) % 1024 ∧ t.flow = s.flow ∧ FieldsKept [] [] [n] s t)

/-- O11. In GOVERN, with the regulator answering, s the lowest slack (R51). (1) a measurement shows each channel's slack
in NOW, 0xFFFF for one that is DARK, TUNING or FENCED or above 255.99 (65,534 or more in units of 1/256), keeps the
least seen in MIN, and names in LIMITING the channels whose slack is the lowest (R49). (2) without demand it requests
IDLE. (3) with a pre-boost in force it leaves everything (R52). (4) with s below 266 it requests 25 mV more and sets
EMERG. (5) from 266 to below 287, 10 mV more. (6) from 287 to 295, nothing. (7) above 295, 5 mV less, all requests
clamped to VMIN and VMAX (Table 2.3). (8) the 10 µs repetition below 266 requests 25 mV more and sets EMERG. (9) a
pending request that the regulator acknowledges ends, and the failures in a row are forgotten (R54). (10) a first or
second failure in a row is counted. (11) the third sets AVS_ERR and raises source 16. (12) after three failures the
retry asks again, with VREQ as it is. (13) with s below 256 while VREQ is at VMAX, the floor timeout sets FLOOR and
raises source 17 (R55).  (02_fabric_and_conservation.md) -/
def Obligations.GovernorFollowsSlack : Prop :=
  (∀ (s : State) (s0 s1 s2 s3 : Nat),
      s.answers = true →
      ∃ t, exec (.slackMeasurement s0 s1 s2 s3) s = .next t ∧
        (∀ p ∈ [(0, s0), (1, s1), (2, s2), (3, s3)], t.rd (FAB_SLACK_C.NOW p.1) = (if s.demands p.1 ∧ p.2 < 65534 then
          p.2 else 65535)) ∧
        (∀ n ∈ channels, t.rd (FAB_SLACK_C.MIN n) = Nat.min (t.rd (FAB_SLACK_C.NOW n)) (s.rd (FAB_SLACK_C.MIN n))) ∧
        (∀ n ∈ channels, t.rdBit FAB_GOV_STAT.LIMITING n = (s.demands n && t.slack = some (t.rd (FAB_SLACK_C.NOW n)))) ∧
        (FieldsKept ((channels.map FAB_SLACK_C.NOW) ++ (channels.map FAB_SLACK_C.MIN) ++ [FAB_GOV_STAT.LIMITING]) []
          [] s t)) ∧
  (∀ (s : State),
      s.governs = true → s.slack = none →
      ∃ t, exec (.governorEvaluation) s = .next t ∧
        t.rd FAB_GOV_STAT.VREQ = Nat.max s.vmin (Nat.min s.vmax (s.rd FAB_VCORE_LIM.IDLE)) ∧ t.rd FABC.REQ = 1 ∧
        FieldsKept [FAB_GOV_STAT.VREQ, FAB_GOV_STAT.AT_VMAX, FABC.REQ] [] [4] s t) ∧
  (∀ (s : State) (v : Nat),
      s.governs = true → s.slack = some v → s.rd FABC.BOOST ≠ 0 →
      ∃ t, exec (.governorEvaluation) s = .next t ∧ t = s) ∧
  (∀ (s : State) (v : Nat),
      s.governs = true → s.slack = some v → s.rd FABC.BOOST = 0 → v < 266 →
      ∃ t, exec (.governorEvaluation) s = .next t ∧
        t.rd FAB_GOV_STAT.VREQ = Nat.max s.vmin (Nat.min s.vmax (s.rd FAB_GOV_STAT.VREQ + 25)) ∧
        t.rd FAB_GOV_STAT.EMERG = 1 ∧ t.rd FABC.REQ = 1 ∧
        FieldsKept [FAB_GOV_STAT.VREQ, FAB_GOV_STAT.AT_VMAX, FABC.REQ, FAB_GOV_STAT.EMERG] [] [4] s t) ∧
  (∀ (s : State) (v : Nat),
      s.governs = true → s.slack = some v → s.rd FABC.BOOST = 0 → 266 ≤ v → v < 287 →
      ∃ t, exec (.governorEvaluation) s = .next t ∧
        t.rd FAB_GOV_STAT.VREQ = Nat.max s.vmin (Nat.min s.vmax (s.rd FAB_GOV_STAT.VREQ + 10)) ∧ t.rd FABC.REQ = 1 ∧
        FieldsKept [FAB_GOV_STAT.VREQ, FAB_GOV_STAT.AT_VMAX, FABC.REQ] [] [4] s t) ∧
  (∀ (s : State) (v : Nat),
      s.governs = true → s.slack = some v → s.rd FABC.BOOST = 0 → 287 ≤ v → v ≤ 295 →
      ∃ t, exec (.governorEvaluation) s = .next t ∧ t = s) ∧
  (∀ (s : State) (v : Nat),
      s.governs = true → s.slack = some v → s.rd FABC.BOOST = 0 → 295 < v →
      ∃ t, exec (.governorEvaluation) s = .next t ∧
        t.rd FAB_GOV_STAT.VREQ = Nat.max s.vmin (Nat.min s.vmax (s.rd FAB_GOV_STAT.VREQ - 5)) ∧ t.rd FABC.REQ = 1 ∧
        FieldsKept [FAB_GOV_STAT.VREQ, FAB_GOV_STAT.AT_VMAX, FABC.REQ] [] [4] s t) ∧
  (∀ (s : State) (v : Nat),
      s.governs = true → s.slack = some v → s.rd FABC.BOOST = 0 → v < 266 →
      ∃ t, exec (.governorEmergencyRaise) s = .next t ∧
        t.rd FAB_GOV_STAT.VREQ = Nat.max s.vmin (Nat.min s.vmax (s.rd FAB_GOV_STAT.VREQ + 25)) ∧
        t.rd FAB_GOV_STAT.EMERG = 1 ∧ t.rd FABC.REQ = 1 ∧
        FieldsKept [FAB_GOV_STAT.VREQ, FAB_GOV_STAT.AT_VMAX, FABC.REQ, FAB_GOV_STAT.EMERG] [] [4] s t) ∧
  (∀ (s : State),
      s.on FABC.REQ = true →
      ∃ t, exec (.regulatorRequestResult true) s = .next t ∧ t.rd FABC.REQ = 0 ∧ t.rd FABC.AVS_FAILS = 0 ∧
        SameFields [FABC.REQ, FABC.AVS_FAILS] s t) ∧
  (∀ (s : State),
      s.on FABC.REQ = true → s.rd FABC.AVS_FAILS < 2 →
      ∃ t, exec (.regulatorRequestResult false) s = .next t ∧ t.rd FABC.AVS_FAILS = s.rd FABC.AVS_FAILS + 1 ∧
        SameFields [FABC.AVS_FAILS] s t) ∧
  (∀ (s : State),
      s.on FABC.REQ = true → s.rd FABC.AVS_FAILS = 2 →
      ∃ t, exec (.regulatorRequestResult false) s = .next t ∧ t.rd FABC.AVS_FAILS = 3 ∧
        t.rd FAB_GOV_STAT.AVS_ERR = 1 ∧ t.rd (IRQ_PEND 16) = 1 ∧
        FieldsKept [FABC.AVS_FAILS, FABC.REQ, FAB_GOV_STAT.AVS_ERR] [16] [4] s t) ∧
  (∀ (s : State),
      s.answers = true → s.rd FABC.AVS_FAILS = 3 →
      ∃ t, exec (.regulatorRetry) s = .next t ∧ t.rd FABC.REQ = 1 ∧ FieldsKept [FABC.REQ] [] [4] s t) ∧
  (∀ (s : State) (v : Nat),
      s.slack = some v → v < 256 → s.on FAB_GOV_STAT.AT_VMAX = true →
      ∃ t, exec (.slackFloorTimeout) s = .next t ∧ t.rd FAB_GOV_STAT.FLOOR = 1 ∧ t.rd (IRQ_PEND 17) = 1 ∧
        FieldsKept [FAB_GOV_STAT.FLOOR] [17] [] s t)

/-- O12. n is a channel that the word names. An admitted write is one that R438 to R441 let through. (1) an admitted
  write
of FAB_SNAP_REQ that names a channel without a snapshot in progress, 100 µs or more after its last DONE, if any,
starts its snapshot: BUSY sets (R61, step 1), and the other channels that the word does not name keep their BUSY and
COLLIDE bits. (2) one that names a channel whose snapshot is in progress sets its COLLIDE alone (step 1a). (3) when
every link of a requested channel holds, its counters, occupancies, COND, WRAP and DEV_TIME are latched at one cut as
the record's words; WRAP clears and COND keeps only the conditions that still stand (R57, R61, step 3). (4) a hold
that a link does not acknowledge in time ends: TIMEOUT sets, BUSY clears, and nothing is latched or written (step 2a).
(5) the record of a latched channel is written whole to FAB_LEDGER[n], word by word with the next SEQ in its header;
DONE sets, BUSY clears, source 18 is raised, and the latched copy is gone (R62, step 4). (6) the record of the cut
that clause above latched shows that cut's FAB_TX_IN at offset 0x10, as the other words show theirs. (7) an admitted
write of FAB_PERT_CTRL without EN, while EN is 0, sets its fields alone (R63). (8) one with EN = 1 that names a link
of Table 2.8 and a channel that carries no traffic enables the perturbation and sets bit 4 of that channel's COND.
(02_fabric_and_conservation.md) -/
def Obligations.LedgerSnapshotSteps : Prop :=
  (∀ (s : State) (win : Fin 7) (n : Fin 4) (value : Word),
      s.writeOpen win 3 → bit value.toNat n = 1 → s.rdBit FAB_SNAP_STAT.BUSY n = false →
      (s.rd (FABC.DONE_AT n) = 0 ∨ s.rd (FABC.DONE_AT n) - 1 + 100000 ≤ s.time) →
      ∃ t, exec (.ledgerSnapshotRequest win value 15) s = .next t ∧ t.rdBit FAB_SNAP_STAT.BUSY n = true ∧
        t.rdBit FAB_SNAP_STAT.COLLIDE n = s.rdBit FAB_SNAP_STAT.COLLIDE n ∧
        (∀ m ∈ channels, bit value.toNat m = 0 → t.rdBit FAB_SNAP_STAT.BUSY m = s.rdBit FAB_SNAP_STAT.BUSY m ∧ t.rdBit
          FAB_SNAP_STAT.COLLIDE m = s.rdBit FAB_SNAP_STAT.COLLIDE m) ∧
        t.snaps = s.snaps ∧ t.flow = s.flow ∧ SameFields [FAB_SNAP_STAT.BUSY, FAB_SNAP_STAT.COLLIDE] s t) ∧
  (∀ (s : State) (win : Fin 7) (n : Fin 4) (value : Word),
      s.writeOpen win 3 → value.toNat = 2 ^ n.val → s.rdBit FAB_SNAP_STAT.BUSY n = true →
      ∃ t, exec (.ledgerSnapshotRequest win value 15) s = .next t ∧ t.rdBit FAB_SNAP_STAT.COLLIDE n = true ∧
        t.rd FAB_SNAP_STAT.BUSY = s.rd FAB_SNAP_STAT.BUSY ∧ SameFields [FAB_SNAP_STAT.COLLIDE] s t) ∧
  (∀ (s : State) (n : Fin 4),
      s.rdBit FAB_SNAP_STAT.BUSY n = true → keyed n.val s.snaps = none →
      ∃ t, exec (.snapshotHoldComplete n) s = .next t ∧
        (t.snaps = setKeyed n ((0, s.rd (FABC.COND n) * 65536 + s.rd (FABC.WRAP n) * 256 + n) :: (8, s.time) ::
          (s.flow.get n).record) s.snaps) ∧
        t.rd (FABC.WRAP n) = 0 ∧ t.rd (FABC.COND n) = s.standing n ∧ t.flow = s.flow ∧
        SameFields [FABC.COND n, FABC.WRAP n] s t) ∧
  (∀ (s : State) (n : Fin 4),
      s.rdBit FAB_SNAP_STAT.BUSY n = true → keyed n.val s.snaps = none →
      ∃ t, exec (.snapshotHoldTimeout n) s = .next t ∧ t.rdBit FAB_SNAP_STAT.TIMEOUT n = true ∧
        t.rdBit FAB_SNAP_STAT.BUSY n = false ∧
        (∀ m ∈ channels, m ≠ n.val → t.rdBit FAB_SNAP_STAT.TIMEOUT m = s.rdBit FAB_SNAP_STAT.TIMEOUT m ∧ t.rdBit
          FAB_SNAP_STAT.BUSY m = s.rdBit FAB_SNAP_STAT.BUSY m) ∧
        t.snaps = s.snaps ∧ t.flow = s.flow ∧ SameFields [FAB_SNAP_STAT.TIMEOUT, FAB_SNAP_STAT.BUSY] s t) ∧
  (∀ (s : State) (n : Fin 4) (l : List (Nat × Nat)),
      keyed n.val s.snaps = some l →
      ∃ t, exec (.snapshotRecordWritten n) s = .next t ∧ t.rd (FABC.SEQ n) = (s.rd (FABC.SEQ n) + 1) % 2 ^ 32 ∧
        (t.snaps = s.snaps.filter (fun p => p.1 ≠ n.val)) ∧ t.rdBit FAB_SNAP_STAT.DONE n = true ∧
        t.rdBit FAB_SNAP_STAT.BUSY n = false ∧ t.rd (FABC.DONE_AT n) = (s.time + 1) % 2 ^ 64 ∧
        t.rd (IRQ_PEND 18) = 1 ∧ t.flow = s.flow ∧
        (FieldsKept ([FABC.SEQ n, FAB_SNAP_STAT.DONE, FAB_SNAP_STAT.BUSY, FABC.DONE_AT n] ++ l.flatMap (fun w =>
          [tableWord (ledgerAt n + w.1), tableWord (ledgerAt n + w.1 + 4)])) [18] [4] s t)) ∧
  (∀ (s : State) (n : Fin 4) (v : Nat),
      (keyed n.val s.snaps = some ((0, n.val) :: (8, v) :: (s.flow.get n).record)) →
      ∃ t, exec (.snapshotRecordWritten n) s = .next t ∧
        (∀ w ∈ (s.flow.get n).record, t.rd (tableWord (ledgerAt n + w.1)) = w.2 % 2 ^ 32 ∧ t.rd (tableWord (ledgerAt n
          + w.1 + 4)) = w.2 / 2 ^ 32 % 2 ^ 32) ∧
        t.rd (tableWord (ledgerAt n)) = n.val ∧ t.rd (tableWord (ledgerAt n + 4)) = (s.rd (FABC.SEQ n) + 1) % 2 ^ 32) ∧
  (∀ (s : State) (win : Fin 7) (value : Word),
      s.writeOpen win 3 → s.on FAB_PERT_CTRL.EN = false → value.toNat % 2 = 0 →
      ∃ t, exec (.perturbationControlWrite win value 15) s = .next t ∧
        t.rd FAB_PERT_CTRL.LINK = FAB_PERT_CTRL.LINK.of value.toNat ∧
        t.rd FAB_PERT_CTRL.TYPE = FAB_PERT_CTRL.TYPE.of value.toNat ∧
        t.rd FAB_PERT_CTRL.CH = FAB_PERT_CTRL.CH.of value.toNat ∧ t.rd FAB_PERT_CTRL.EN = 0 ∧ t.flow = s.flow ∧
        SameFields [FAB_PERT_CTRL.LINK, FAB_PERT_CTRL.TYPE, FAB_PERT_CTRL.CH] s t) ∧
  (∀ (s : State) (win : Fin 7) (value : Word),
      s.writeOpen win 3 → s.on FAB_PERT_CTRL.EN = false → value.toNat % 2 = 1 →
      linkUsed (FAB_PERT_CTRL.LINK.of value.toNat) = true → s.inTraffic (FAB_PERT_CTRL.CH.of value.toNat) = false →
      ∃ t, exec (.perturbationControlWrite win value 15) s = .next t ∧ t.rd FAB_PERT_CTRL.EN = 1 ∧
        t.rd FAB_PERT_CTRL.LINK = FAB_PERT_CTRL.LINK.of value.toNat ∧
        t.rd FAB_PERT_CTRL.TYPE = FAB_PERT_CTRL.TYPE.of value.toNat ∧
        t.rd FAB_PERT_CTRL.CH = FAB_PERT_CTRL.CH.of value.toNat ∧
        t.rdBit (FABC.COND (FAB_PERT_CTRL.CH.of value.toNat)) 4 = true)

/-- O13. An admitted write is one that R438 to R441 let through; a message is received with chip lock and the firmware
running; this end seeks agreement when it is ACQUIRING in a native or custom mode, not agreed, with a peer present, no
identifier clash and a usable CD estimate. (1) an admitted write of LDS_LMODE.PROFILE that names a profile with REACH
= 1 is read back at once and waits for the multiframe boundary, with PEND set, while multiframes run (R14, R76). (2)
in DARK, TUNING or FENCED the profile is in force at once: ACTIVE names it, the transmitter shows its roll-off,
matcher and frame size, and the receive stages hold it. (3) while agreement is sought, the timer queues an offer of
the active profile's parameters, with AGREED = 1 where the peer's block has been seen to equal it (R77, R266). (4) an
offer of this end's own parameters with AGREED = 1, before this end has sent its own AGREED = 1, is noted, and makes
this end's next offer AGREED. (5) once this end has sent AGREED = 1, such an offer completes the agreement: INDOUBT
clears, and acquisition that stood at step 0 and waits for nothing has loaded the profile (step 1 of Table 6.4) and
stands at step 2 (R83, R146, R266). (6) an offer of this end's own parameters with AGREED = 0 is answered by one with
AGREED = 1. (7) an offer of other parameters, at the end with the higher identifier that has a defined profile p with
them and REACH = 1 and is not in doubt, is adopted: PROFILE and ACTIVE take p, ADOPTED sets, and agreement starts
anew. (8) where the end with the higher identifier has no such profile, NEG_FAIL sets and the offer is answered by
this end's own (which end sets NEG_FAIL is the model's choice, log entry 43). (9) an identifier clash of 1 s in
ACQUIRING, before agreement, sets NEG_FAIL alone (R269, R270).  (03_line_modes.md, 11_supervisory_channel.md) -/
def Obligations.ModeAgreementSteps : Prop :=
  (∀ (s : State) (win : Fin 7) (n : Fin 4) (value : Word),
      s.writeOpen win 2 → s.rd (LDS_PROF_P.REACH n ((LDS_LMODE.PROFILE n).of value.toNat)) = 1 →
      s.framedWaits n = true →
      ∃ t, exec (.profileWrite win n value 15) s = .next t ∧
        t.rd (LDS_LMODE.PROFILE n) = (LDS_LMODE.PROFILE n).of value.toNat ∧ t.rd (LDS_TX_STAT.PEND n) = 1 ∧
        (t.ch = s.ch.set n { s.ch.get n with framed := (s.chan n).framed ++ [(LDS_LMODE.PROFILE n, (LDS_LMODE.PROFILE
          n).of value.toNat)] }) ∧
        t.flow = s.flow ∧ SameFields [LDS_LMODE.PROFILE n, LDS_TX_STAT.PEND n] s t) ∧
  (∀ (s : State) (win : Fin 7) (n : Fin 4) (value : Word) (q : Profile),
      s.writeOpen win 2 → s.rd (LDS_PROF_P.REACH n ((LDS_LMODE.PROFILE n).of value.toNat)) = 1 →
      s.profile n ((LDS_LMODE.PROFILE n).of value.toNat) = some q → s.framedWaits n = false →
      ∃ t, exec (.profileWrite win n value 15) s = .next t ∧
        t.rd (LDS_LMODE.PROFILE n).inForce = (LDS_LMODE.PROFILE n).of value.toNat ∧
        t.rd (LDS_LMODE_STAT.ACTIVE n) = (LDS_LMODE.PROFILE n).of value.toNat ∧
        t.rd (LDS_TX_STAT.ROLL n) = q.roll % 8 ∧ t.rd (LDS_TX_DM.K n) = q.matcherBits % 2 ^ (LDS_TX_DM.K n).width ∧
        (t.rd (LDS_TX_STAT.SHAPED n) = (if q.shaped then 1 else 0)) ∧
        (t.rd (LFR_GEOM0.FBYTES n) = (if q.interop then 0 else q.frameBytes % 2 ^ (LFR_GEOM0.FBYTES n).width)) ∧
        t.rd (LDSC.RXPROF n) = (LDS_LMODE.PROFILE n).of value.toNat ∧ t.flow = s.flow ∧
        (SameFields (txProfileFields n ++ rxProfileFields n ++ chipFields n ++ [LDS_CD_EST.OOR n, LDSC.EST_RUN n]) s
          t)) ∧
  (∀ (s : State) (n : Fin 4) (q : Profile),
      s.firmware = true → s.seeking n = true → s.active n = some q →
      ∃ t, exec (.modeOfferTimer n) s = .next t ∧
        (t.ch = s.ch.set n { s.ch.get n with msgs := (s.chan n).msgs ++ [.modeOffer q.block (s.on (LDSC.NEXT_AG n))
          (s.on (LDS_RSZ_STAT.INDOUBT n)) (s.rd (LDS_LMODE_STAT.ACTIVE n)) (s.rd (ISC_STATION.ID n))] }) ∧
        t.regs = s.regs ∧ t.flow = s.flow) ∧
  (∀ (s : State) (n : Fin 4) (seq : Fin 256) (rep : Fin 4) (q : Profile) (indoubt : Bool) (pr peer : Nat),
      s.rd (ISC_STAT.CHIP n) = 3 → s.firmware = true → s.seeking n = true → s.active n = some q →
      s.on (LDSC.SENT_AG n) = false →
      ∃ t, exec (.modeOfferReceived n seq rep q.block true indoubt pr peer) s = .next t ∧ t.rd (LDSC.RCVD_AG n) = 1 ∧
        t.rd (LDSC.NEXT_AG n) = 1 ∧ t.ch = s.ch ∧ t.flow = s.flow ∧
        (FieldsKept (LDSC.RCVD_AG n :: LDSC.NEXT_AG n :: messageFields n) [] [n] s t)) ∧
  (∀ (s : State) (n : Fin 4) (seq : Fin 256) (rep : Fin 4) (q : Profile) (indoubt : Bool) (pr peer : Nat),
      s.rd (ISC_STAT.CHIP n) = 3 → s.firmware = true → s.seeking n = true → s.active n = some q →
      s.on (LDSC.SENT_AG n) = true →
      ∃ t, exec (.modeOfferReceived n seq rep q.block true indoubt pr peer) s = .next t ∧ t.rd (LDSC.AGREED n) = 1 ∧
        t.rd (LDS_RSZ_STAT.INDOUBT n) = 0 ∧
        (t.rd (LDS_ACQ_STAT.STEP n) = (if s.rd (LDS_ACQ_STAT.STEP n) = 0 ∧ s.on (LDSC.WAIT n) = false then 2 else s.rd
          (LDS_ACQ_STAT.STEP n))) ∧
        t.flow = s.flow) ∧
  (∀ (s : State) (n : Fin 4) (seq : Fin 256) (rep : Fin 4) (q : Profile) (indoubt : Bool) (pr peer : Nat),
      s.rd (ISC_STAT.CHIP n) = 3 → s.firmware = true → s.seeking n = true → s.active n = some q →
      (s.on (LDSC.SENT_AG n) && s.on (LDSC.RCVD_AG n)) = false →
      ∃ t, exec (.modeOfferReceived n seq rep q.block false indoubt pr peer) s = .next t ∧ t.rd (LDSC.NEXT_AG n) = 1 ∧
        (t.ch = s.ch.set n { s.ch.get n with msgs := (s.chan n).msgs ++ [.modeOffer q.block true (s.on
          (LDS_RSZ_STAT.INDOUBT n)) (s.rd (LDS_LMODE_STAT.ACTIVE n)) (s.rd (ISC_STATION.ID n))] }) ∧
        t.flow = s.flow ∧ (FieldsKept (LDSC.NEXT_AG n :: messageFields n) [] [n] s t)) ∧
  (∀ (s : State) (n : Fin 4) (seq : Fin 256) (rep : Fin 4) (b : Block) (q : Profile) (p : Nat) (agreed indoubt : Bool)
    (pr peer : Nat),
      s.rd (ISC_STAT.CHIP n) = 3 → s.firmware = true → s.seeking n = true → s.active n = some q → q.block ≠ b →
      s.on (LDS_RSZ_STAT.INDOUBT n) = false → peer % 2 ^ 32 < s.rd (ISC_STATION.ID n) → s.profileOf n b = some p →
      ∃ t, exec (.modeOfferReceived n seq rep b agreed indoubt pr peer) s = .next t ∧ t.rd (LDS_LMODE.PROFILE n) = p ∧
        t.rd (LDS_LMODE_STAT.ACTIVE n) = p ∧ t.rd (LDSC.RXPROF n) = p ∧ t.rd (LDS_LMODE_STAT.ADOPTED n) = 1 ∧
        t.rd (LDSC.SENT_AG n) = 0 ∧ t.rd (LDSC.RCVD_AG n) = 0 ∧ t.rd (LDSC.NEXT_AG n) = 0 ∧ t.flow = s.flow ∧
        (FieldsKept (txProfileFields n ++ rxProfileFields n ++ chipFields n ++ messageFields n ++
          [LDS_LMODE_STAT.ADOPTED n, LDSC.SENT_AG n, LDSC.RCVD_AG n, LDSC.NEXT_AG n, LDS_CD_EST.OOR n, LDSC.EST_RUN
          n]) [] [n] s t)) ∧
  (∀ (s : State) (n : Fin 4) (seq : Fin 256) (rep : Fin 4) (b : Block) (q : Profile) (indoubt : Bool) (pr peer : Nat),
      s.rd (ISC_STAT.CHIP n) = 3 → s.firmware = true → s.seeking n = true → s.active n = some q → q.block ≠ b →
      s.on (LDS_RSZ_STAT.INDOUBT n) = false → peer % 2 ^ 32 < s.rd (ISC_STATION.ID n) → s.profileOf n b = none →
      ∃ t, exec (.modeOfferReceived n seq rep b false indoubt pr peer) s = .next t ∧
        t.rd (LDS_LMODE_STAT.NEG_FAIL n) = 1 ∧
        (t.ch = s.ch.set n { s.ch.get n with msgs := (s.chan n).msgs ++ [.modeOffer q.block false (s.on
          (LDS_RSZ_STAT.INDOUBT n)) (s.rd (LDS_LMODE_STAT.ACTIVE n)) (s.rd (ISC_STATION.ID n))] }) ∧
        t.flow = s.flow ∧
        (FieldsKept ([LDS_LMODE_STAT.NEG_FAIL n, LDSC.RCVD_AG n, LDSC.NEXT_AG n] ++ messageFields n) [] [n] s t)) ∧
  (∀ (s : State) (n : Fin 4),
      s.chSt n = ChSt.acquiring → s.interop n = false → s.on (LDSC.AGREED n) = false →
      s.on (ISC_STAT.ID_CLASH n) = true →
      ∃ t, exec (.idClashNegotiationTimeout n) s = .next t ∧ t.rd (LDS_LMODE_STAT.NEG_FAIL n) = 1 ∧ t.ch = s.ch ∧
        t.flow = s.flow ∧ SameFields [LDS_LMODE_STAT.NEG_FAIL n] s t)

/-- O14. A message is received with chip lock and the firmware running. The CAUSE of a condition that fails is that of
Table 3.14, 0 when all hold. (1) GO with every condition of R78 met puts the channel in PROPOSED, with the target
multiframe LEAD or at least 64 ahead and the table to check on latched, and queues the proposal. (2) GO with a
condition unmet sends nothing and sets CAUSE, FAIL_EV and its source; STATE becomes FAILED unless a resize is in
progress, whose STATE stays. (3) a proposal received 16 or more multiframes before its translated target, of a profile
and tributaries that meet the conditions here, while no proposal of this end waits, is ACCEPTED and answered with both
target numbers (step 3). (4) one received with fewer than 16 multiframes left is refused with cause 0xA, and this
end's state stays as it is (step 3a). (5) the ACCEPT that names this end's proposal, before its target − 16 and with
multiframe lock, requests the arm vote and notes the peer's target (step 4). (6) the first CONFIRM that names both
numbers of an accepted resize, before this end's target − 8 and with multiframe lock, requests the arm vote (step 5).
(7) a CONFIRM with CANCEL that names the resize an accepting end has accepted or armed, before its own target − 8,
withdraws any arm and ends it FAILED with CAUSE 0x5 (R490). (8) a REFUSE that names the resize a proposer has proposed
or armed, before its target − 8, ends it FAILED with CAUSE 0x5, and the proposer queues a CONFIRM with CANCEL (step
4a, R490).  (03_line_modes.md, 11_supervisory_channel.md) -/
def Obligations.ResizeProposalExchange : Prop :=
  (∀ (s : State) (win : Fin 7) (n : Fin 4) (value : Word) (q : Profile),
      s.writeOpen win 2 → (LDS_RSZ_CTRL.GO n).of value.toNat = 1 →
      s.rszCause n ((LDS_RSZ_CTRL.TARGET n).of value.toNat) ((LDS_RSZ_CTRL.TRIB n).of value.toNat = 1) false = 0 →
      s.profile n ((LDS_RSZ_CTRL.TARGET n).of value.toNat) = some q →
      ∃ t, exec (.resizeGo win n value 15) s = .next t ∧ t.rd (LDS_RSZ_STAT.STATE n) = RszSt.proposed ∧
        t.rd (LDS_RSZ_STAT.CAUSE n) = 0 ∧
        t.rd (LDS_RSZ_MF.MFN n) = (s.mfn n + Nat.max 64 ((LDS_RSZ_CTRL.LEAD n).of value.toNat)) % 2 ^ 32 ∧
        (t.ch = s.ch.set n { s.ch.get n with rsz := ⟨true, (LDS_RSZ_CTRL.TARGET n).of value.toNat, (LDS_RSZ_CTRL.TRIB
          n).of value.toNat = 1, s.rszTable n ((LDS_RSZ_CTRL.TRIB n).of value.toNat = 1), (LDS_RSZ_CTRL.TARGET n).of
          value.toNat = s.rd (LDS_LMODE_STAT.ACTIVE n), [], false, 0, none, (s.chan n).rsz.ended⟩, msgs := (s.chan
          n).msgs ++ [.resizePropose q.block ((LDS_RSZ_CTRL.TRIB n).of value.toNat = 1) (t.rd (LDS_RSZ_MF.MFN n))] }) ∧
        t.flow = s.flow ∧
        SameFields [LDS_RSZ_CTRL.TARGET n, LDS_RSZ_CTRL.TRIB n, LDS_RSZ_CTRL.LEAD n, LDS_RSZ_STAT.STATE n,
          LDS_RSZ_STAT.CAUSE n, LDS_RSZ_STAT.LATE n, LDS_RSZ_MF.MFN n] s t) ∧
  (∀ (s : State) (win : Fin 7) (n : Fin 4) (value : Word),
      s.writeOpen win 2 → (LDS_RSZ_CTRL.GO n).of value.toNat = 1 →
      s.rszCause n ((LDS_RSZ_CTRL.TARGET n).of value.toNat) ((LDS_RSZ_CTRL.TRIB n).of value.toNat = 1) false ≠ 0 →
      ∃ t, exec (.resizeGo win n value 15) s = .next t ∧
        t.rd (LDS_RSZ_STAT.CAUSE n) = s.rszCause n ((LDS_RSZ_CTRL.TARGET n).of value.toNat) ((LDS_RSZ_CTRL.TRIB n).of
          value.toNat = 1) false ∧
        (t.rd (LDS_RSZ_STAT.STATE n) = (if s.rszRunning n = true then s.rd (LDS_RSZ_STAT.STATE n) else RszSt.failed)) ∧
        t.rd (LDS_RSZ_STAT.FAIL_EV n) = 1 ∧ t.rd (IRQ_PEND (sourceOf n 0x28)) = 1 ∧ t.ch = s.ch ∧ t.flow = s.flow ∧
        FieldsKept [LDS_RSZ_CTRL.TARGET n, LDS_RSZ_CTRL.TRIB n, LDS_RSZ_CTRL.LEAD n, LDS_RSZ_STAT.STATE n,
          LDS_RSZ_STAT.CAUSE n, LDS_RSZ_STAT.FAIL_EV n] [sourceOf n 0x28] [4] s t) ∧
  (∀ (s : State) (n : Fin 4) (seq : Fin 256) (rep : Fin 4) (block : Block) (trib : Bool) (tA k : Nat),
      s.rd (ISC_STAT.CHIP n) = 3 → s.firmware = true → s.on (ISC_STAT.LOOPBACK n) = false → s.proposed n = false →
      s.profileOf n block = some k → s.rszCause n k trib false = 0 →
      16 ≤ mfSub (s.translate n (tA % 2 ^ 32)) (s.mfn n) → mfSub (s.translate n (tA % 2 ^ 32)) (s.mfn n) < 2 ^ 31 →
      ∃ t, exec (.resizeProposeReceived n seq rep block trib tA) s = .next t ∧
        t.rd (LDS_RSZ_STAT.STATE n) = RszSt.accepted ∧ t.rd (LDS_RSZ_MF.MFN n) = s.translate n (tA % 2 ^ 32) ∧
        (t.ch = s.ch.set n { s.ch.get n with rsz := ⟨false, k, trib, s.rszTable n trib, k = s.rd
          (LDS_LMODE_STAT.ACTIVE n), [], false, tA % 2 ^ 32, none, (s.chan n).rsz.ended⟩, msgs := (s.chan n).msgs ++
          [.resizeAccept (tA % 2 ^ 32) (s.translate n (tA % 2 ^ 32))] }) ∧
        t.flow = s.flow ∧
        (FieldsKept (LDS_RSZ_STAT.STATE n :: LDS_RSZ_STAT.LATE n :: LDS_RSZ_MF.MFN n :: messageFields n) [] [n] s t)) ∧
  (∀ (s : State) (n : Fin 4) (seq : Fin 256) (rep : Fin 4) (block : Block) (trib : Bool) (tA : Nat),
      s.rd (ISC_STAT.CHIP n) = 3 → s.firmware = true → s.on (ISC_STAT.LOOPBACK n) = false → s.proposed n = false →
      mfSub (s.translate n (tA % 2 ^ 32)) (s.mfn n) < 16 →
      ∃ t, exec (.resizeProposeReceived n seq rep block trib tA) s = .next t ∧
        (t.ch = s.ch.set n { s.ch.get n with msgs := (s.chan n).msgs ++ [.resizeRefuse (tA % 2 ^ 32) 0xA] }) ∧
        t.flow = s.flow ∧ FieldsKept (messageFields n) [] [n] s t) ∧
  (∀ (s : State) (n : Fin 4) (seq : Fin 256) (rep : Fin 4) (tA tB : Nat),
      s.rd (ISC_STAT.CHIP n) = 3 → s.firmware = true → s.proposed n = true → (s.chan n).rsz.heard = false →
      s.rd (LDS_RSZ_MF.MFN n) = tA % 2 ^ 32 → 16 < s.mfLeft n → s.on (LFR_STAT.MF_LOCK n) = true →
      ∃ t, exec (.resizeAcceptReceived n seq rep tA tB) s = .next t ∧ (t.votes = s.votes ++ [.resizeArm n]) ∧
        t.ch = s.ch.set n { s.ch.get n with rsz := { (s.chan n).rsz with heard := true, peerMf := tB % 2 ^ 32 } } ∧
        t.flow = s.flow ∧ FieldsKept (messageFields n) [] [n] s t) ∧
  (∀ (s : State) (n : Fin 4) (seq : Fin 256) (rep : Fin 4) (tA tB : Nat),
      s.rd (ISC_STAT.CHIP n) = 3 → s.firmware = true → s.rd (LDS_RSZ_STAT.STATE n) = RszSt.accepted →
      (s.chan n).rsz.heard = false → (s.chan n).rsz.peerMf = tA % 2 ^ 32 → s.rd (LDS_RSZ_MF.MFN n) = tB % 2 ^ 32 →
      8 < s.mfLeft n → s.on (LFR_STAT.MF_LOCK n) = true →
      ∃ t, exec (.resizeConfirmReceived n seq rep tA tB false) s = .next t ∧ (t.votes = s.votes ++ [.resizeArm n]) ∧
        t.ch = s.ch.set n { s.ch.get n with rsz := { (s.chan n).rsz with heard := true } } ∧ t.flow = s.flow ∧
        FieldsKept (messageFields n) [] [n] s t) ∧
  (∀ (s : State) (n : Fin 4) (seq : Fin 256) (rep : Fin 4) (tA tB : Nat),
      s.rd (ISC_STAT.CHIP n) = 3 → s.firmware = true →
      (s.rd (LDS_RSZ_STAT.STATE n) = RszSt.accepted ∨ s.rd (LDS_RSZ_STAT.STATE n) = RszSt.armed) →
      (s.chan n).rsz.proposer = false → (s.chan n).rsz.peerMf = tA % 2 ^ 32 → 8 < s.mfLeft n →
      ∃ t, exec (.resizeConfirmReceived n seq rep tA tB true) s = .next t ∧
        t.rd (LDS_RSZ_STAT.STATE n) = RszSt.failed ∧ t.rd (LDS_RSZ_STAT.CAUSE n) = 5 ∧
        t.rd (LDS_RSZ_STAT.FAIL_EV n) = 1 ∧ t.rd (IRQ_PEND (sourceOf n 0x28)) = 1 ∧
        t.votes.contains (.resizeArm n) = false ∧ (t.chan n).rsz = { (s.chan n).rsz with ended := some (s.mfn n) } ∧
        t.flow = s.flow ∧ (FieldsKept (failFields n ++ messageFields n) [sourceOf n 0x28] [n, 4] s t)) ∧
  (∀ (s : State) (n : Fin 4) (seq : Fin 256) (rep : Fin 4) (tA : Nat) (cause : Fin 16),
      s.rd (ISC_STAT.CHIP n) = 3 → s.firmware = true →
      (s.rd (LDS_RSZ_STAT.STATE n) = RszSt.proposed ∨ s.rd (LDS_RSZ_STAT.STATE n) = RszSt.armed) →
      (s.chan n).rsz.proposer = true → s.rd (LDS_RSZ_MF.MFN n) = tA % 2 ^ 32 → 8 < s.mfLeft n →
      ∃ t, exec (.resizeRefuseReceived n seq rep tA cause) s = .next t ∧ t.rd (LDS_RSZ_STAT.STATE n) = RszSt.failed ∧
        t.rd (LDS_RSZ_STAT.CAUSE n) = 5 ∧ t.rd (LDS_RSZ_STAT.FAIL_EV n) = 1 ∧ t.rd (IRQ_PEND (sourceOf n 0x28)) = 1 ∧
        t.votes.contains (.resizeArm n) = false ∧
        (t.chan n).msgs.getLast? = some (.resizeConfirm (s.rd (LDS_RSZ_MF.MFN n)) (s.chan n).rsz.peerMf true) ∧
        (t.chan n).rsz = { (s.chan n).rsz with ended := some (s.mfn n) } ∧ t.flow = s.flow ∧
        (FieldsKept (failFields n ++ messageFields n) [sourceOf n 0x28] [n, 4] s t))

/-- O15. Steps are those of Table 3.6. (1) with no ACCEPT by target − 16, so that no arm vote waits, a proposed resize
ends FAILED with CAUSE 0xA, and a CONFIRM with CANCEL is queued (step 4a). (2) with no CONFIRM by target − 8, so that
no arm vote waits, an accepted resize ends FAILED with CAUSE 0xA and INDOUBT (step 5a). (3) at its target an armed
resize to another profile is RESIZING: PROFILE and ACTIVE take the target, SWITCH_EV sets and LDS_TX_CNT.SWITCH
counts, CONVERGED clears, the RESIZE flag is in the transmitted header, and a channel IN_SERVICE enters RESIZING with
CAUSE 0x6 at the proposer and 0x7 at its peer (step 6, R174). (4) one that changes tributaries alone leaves PROFILE
and ACTIVE and clears CONVERGED all the same. (5) at the peer's target the receiver of an armed or running resize to
another profile notes the time, holds the target profile in its stages, and clears CONVERGED (step 7, R150); codewords
already assembled keep the old profile (R185). (6) a resize in LOCKED that has not converged 50 ms after its target
ends FAILED with CAUSE 0xD, and the channel stays as it is (step 8b, R79). (7) a channel in RESIZING falls back to
ACQUIRING with CAUSE 0x8 besides, its resize FAILED with CAUSE 0xD, its frame lost and the tokens of the receive
direction flushed into its drops (R39, R60).  (03_line_modes.md, 06_receive_dsp.md, 09_line_framer.md) -/
def Obligations.ResizeDeadlinesAndSwitch : Prop :=
  (∀ (s : State) (n : Fin 4),
      s.proposed n = true → s.mfLeft n ≤ 16 → s.votes.contains (.resizeArm n) = false →
      ∃ t, exec (.resizeAcceptDeadline n) s = .next t ∧ t.rd (LDS_RSZ_STAT.STATE n) = RszSt.failed ∧
        t.rd (LDS_RSZ_STAT.CAUSE n) = 0xA ∧ t.rd (LDS_RSZ_STAT.FAIL_EV n) = 1 ∧
        t.rd (IRQ_PEND (sourceOf n 0x28)) = 1 ∧
        (t.chan n).msgs.getLast? = some (.resizeConfirm (s.rd (LDS_RSZ_MF.MFN n)) (s.chan n).rsz.peerMf true) ∧
        (t.chan n).rsz = { (s.chan n).rsz with ended := some (s.mfn n) } ∧ t.flow = s.flow ∧
        FieldsKept (failFields n) [sourceOf n 0x28] [4] s t) ∧
  (∀ (s : State) (n : Fin 4),
      s.rd (LDS_RSZ_STAT.STATE n) = RszSt.accepted → s.mfLeft n ≤ 8 → s.votes.contains (.resizeArm n) = false →
      ∃ t, exec (.resizeConfirmDeadline n) s = .next t ∧ t.rd (LDS_RSZ_STAT.STATE n) = RszSt.failed ∧
        t.rd (LDS_RSZ_STAT.CAUSE n) = 0xA ∧ t.rd (LDS_RSZ_STAT.INDOUBT n) = 1 ∧ t.rd (LDS_RSZ_STAT.FAIL_EV n) = 1 ∧
        t.rd (IRQ_PEND (sourceOf n 0x28)) = 1 ∧ (t.chan n).rsz = { (s.chan n).rsz with ended := some (s.mfn n) } ∧
        t.flow = s.flow ∧ (FieldsKept (LDS_RSZ_STAT.INDOUBT n :: failFields n) [sourceOf n 0x28] [4] s t)) ∧
  (∀ (s : State) (n : Fin 4) (q : Profile),
      s.rd (LDS_RSZ_STAT.STATE n) = RszSt.armed → s.mfLeft n = 0 → (s.chan n).rsz.only = false →
      (s.chan n).rsz.target < 4 → s.profile n (s.chan n).rsz.target = some q →
      ∃ t, exec (.resizeTargetReached n) s = .next t ∧ t.rd (LDS_RSZ_STAT.STATE n) = RszSt.resizing ∧
        t.rd (LDS_LMODE.PROFILE n) = (s.chan n).rsz.target ∧ t.rd (LDS_LMODE_STAT.ACTIVE n) = (s.chan n).rsz.target ∧
        t.rd (LDS_TX_STAT.SWITCH_EV n) = 1 ∧ t.rd (LDS_TX_CNT.SWITCH n) = s.oneMore (LDS_TX_CNT.SWITCH n) ∧
        t.rd (LDS_CH_STATE.CONVERGED n) = 0 ∧ t.rd (LFRC.TX_RESIZE n) = 1 ∧
        (s.chSt n = ChSt.inService → t.rd (LDS_CH_STATE.STATE n) = ChSt.resizing ∧ t.rd (LDS_CH_STATE.CAUSE n) = if
          (s.chan n).rsz.proposer then 6 else 7) ∧
        (s.chSt n = ChSt.locked → t.rd (LDS_CH_STATE.STATE n) = ChSt.locked)) ∧
  (∀ (s : State) (n : Fin 4),
      s.rd (LDS_RSZ_STAT.STATE n) = RszSt.armed → s.mfLeft n = 0 → (s.chan n).rsz.only = true →
      ∃ t, exec (.resizeTargetReached n) s = .next t ∧ t.rd (LDS_RSZ_STAT.STATE n) = RszSt.resizing ∧
        t.rd (LDS_LMODE.PROFILE n) = s.rd (LDS_LMODE.PROFILE n) ∧
        t.rd (LDS_LMODE_STAT.ACTIVE n) = s.rd (LDS_LMODE_STAT.ACTIVE n) ∧
        t.rd (LDS_TX_CNT.SWITCH n) = s.rd (LDS_TX_CNT.SWITCH n) ∧ t.rd (LDS_CH_STATE.CONVERGED n) = 0 ∧
        t.rd (LFRC.TX_RESIZE n) = 1 ∧ (s.chSt n = ChSt.inService → t.rd (LDS_CH_STATE.STATE n) = ChSt.resizing)) ∧
  (∀ (s : State) (n : Fin 4) (q : Profile),
      (s.rd (LDS_RSZ_STAT.STATE n) = RszSt.armed ∨ s.rd (LDS_RSZ_STAT.STATE n) = RszSt.resizing) →
      (s.chan n).rsz.rxAt = none → s.on (LFR_STAT.MF_LOCK n) = true → s.atPeerTarget n = true →
      (s.chan n).rsz.only = false → (s.chan n).rsz.target < 4 → s.profile n (s.chan n).rsz.target = some q →
      ∃ t, exec (.resizeReceiverSwitch n) s = .next t ∧ (t.chan n).rsz = { (s.chan n).rsz with rxAt := some s.time } ∧
        t.rd (LDSC.RXPROF n) = (s.chan n).rsz.target ∧ (t.chan n).rx.old.map (·.2) = some (s.rd (LDSC.RXPROF n)) ∧
        (t.rd (LDS_EQ_STAT.DFE n) = (if q.dfe then 1 else 0)) ∧ t.rd (LDS_CH_STATE.CONVERGED n) = 0 ∧
        t.flow = s.flow ∧
        (SameFields (rxProfileFields n ++ [LDS_EQ_STAT.DFE n, LDS_CH_STATE.CONVERGED n, LDS_EQ_STAT.WINOK n]) s t)) ∧
  (∀ (s : State) (n : Fin 4),
      s.rd (LDS_RSZ_STAT.STATE n) = RszSt.resizing → s.chSt n ≠ ChSt.resizing →
      ∃ t, exec (.resizeConvergenceTimeout n) s = .next t ∧ t.rd (LDS_RSZ_STAT.STATE n) = RszSt.failed ∧
        t.rd (LDS_RSZ_STAT.CAUSE n) = 0xD ∧ t.rd (LDS_RSZ_STAT.FAIL_EV n) = 1 ∧ t.rd (LDS_RSZ_TIME.CONV n) = 0xFFFF ∧
        t.rd (LDS_CH_STATE.STATE n) = s.rd (LDS_CH_STATE.STATE n) ∧ t.rd (IRQ_PEND (sourceOf n 0x28)) = 1 ∧
        (t.chan n).rsz = { (s.chan n).rsz with ended := some (s.mfn n) } ∧ t.flow = s.flow ∧
        FieldsKept (failFields n) [sourceOf n 0x28] [4] s t) ∧
  (∀ (s : State) (n : Fin 4),
      s.rd (LDS_RSZ_STAT.STATE n) = RszSt.resizing → s.chSt n = ChSt.resizing →
      ∃ t, exec (.resizeConvergenceTimeout n) s = .next t ∧ t.rd (LDS_CH_STATE.STATE n) = ChSt.acquiring ∧
        t.rd (LDS_CH_STATE.CAUSE n) = 8 ∧ t.rd (LDS_RSZ_STAT.STATE n) = RszSt.failed ∧
        t.rd (LDS_RSZ_STAT.CAUSE n) = 0xD ∧ t.rd (LFR_STAT.FSTATE n) = 0 ∧ (t.flow.get n).rxRes = 0)

/-- O16. An admitted write is one that R438 to R441 let through. Where a channel would go DARK without a native mode
  left,
it is FENCED with CAUSE 0x5 and its light cut (Tables 1.10, 4.3). (1) an admitted ENABLE without DISABLE, with PHASE
OFF, no enable pending, no calibration run of the channel in the way and every condition of R25 met, asks for the
arbiter's vote and sets ENA_PEND (R92). (2) an ENABLE in RAMP_DOWN is held in ENA_PEND. (3) a DISABLE with PHASE OFF
cancels a pending enable and its vote. (4) a DISABLE in LIT or RAMP_UP takes the channel to DARK with CAUSE 0x1 at the
start of RAMP_DOWN, whose ramp starts, with the tokens of both directions flushed (R91); the other channels are
untouched. (5) a DISABLE in TUNING puts the laser off at once, and the channel DARK with CAUSE 0x1 unless it is
FENCED. (6) OPT_FREQ takes an admitted frequency whose slot fits the band while PHASE is OFF (R87). (7) at any other
PHASE it is refused with reason 0x5, N unchanged. (8) an admitted SET in range is stored while PHASE is not RAMP_UP
nor LIT (R93). (9) in RAMP_UP it restarts the ramp from the present power to SET, under the PROFILE now in force (R93,
R94). (10) while LIT a change of less than 0.05 dB is applied in one step. (11) ON_FREQ in TUNING records the tune
time and the frequency held, and starts the ramp from the floor of −30 dBm to SET (R88, R89, R94). (12) a first
timeout in TUNING sets TUNE_FAIL, and the tune goes on with a retry (R89). (13) the second fences the whole channel:
FENCED with CAUSE 0x5, OPT_FAULT.TUNE set, PHASE OFF, TIME 0x3FFFF (R89, R104). (14) each of the first 63 steps of a
ramp moves the launched power to that step's value of the profile (R94). (15) step 64 of a ramp in RAMP_UP makes PHASE
LIT and the channel ACQUIRING with CAUSE 0x0: MFN 0, the supervisory receiver waiting for a CD estimate in a native or
custom mode, and RAMP_DONE (R95, R206, R258). (16) step 64 in RAMP_DOWN, with no enable held, makes PHASE OFF at −35
dBm, with RAMP_DONE.  (04_optical_engine.md, 01_architecture.md, 02_fabric_and_conservation.md) -/
def Obligations.LaserEnableToLight : Prop :=
  (∀ (s : State) (win : Fin 7) (n : Fin 4) (value : Word),
      s.writeOpen win 2 → value.toNat % 4 = 1 → s.phase n = Phase.off → s.on (OPT_STAT.ENA_PEND n) = false →
      s.calFull n 1 6 = false → s.enableCause n false = 0 →
      ∃ t, exec (.laserEnable win n value 15) s = .next t ∧ (t.votes = s.votes ++ [.laser n]) ∧
        t.rd (OPT_STAT.ENA_PEND n) = 1 ∧ t.ch = s.ch ∧ t.flow = s.flow ∧
        SameFields [OPT_STAT.ENA_PEND n, OPTC.VOTING n, OPTC.HOLD n] s t) ∧
  (∀ (s : State) (win : Fin 7) (n : Fin 4) (value : Word),
      s.writeOpen win 2 → value.toNat % 4 = 1 → s.phase n = Phase.rampDown →
      ∃ t, exec (.laserEnable win n value 15) s = .next t ∧ t.rd (OPT_STAT.ENA_PEND n) = 1 ∧ t.votes = s.votes ∧
        t.ch = s.ch ∧ t.flow = s.flow ∧ SameFields [OPT_STAT.ENA_PEND n] s t) ∧
  (∀ (s : State) (win : Fin 7) (n : Fin 4) (value : Word),
      s.writeOpen win 2 → bit value.toNat 1 = 1 → s.phase n = Phase.off → s.on (OPT_STAT.ENA_PEND n) = true →
      ∃ t, exec (.laserDisable win n value 15) s = .next t ∧ t.rd (OPT_STAT.ENA_PEND n) = 0 ∧
        t.votes.contains (.laser n) = false ∧ t.ch = s.ch ∧ t.flow = s.flow ∧
        SameFields [OPT_STAT.ENA_PEND n, OPTC.VOTING n, OPTC.HOLD n] s t) ∧
  (∀ (s : State) (win : Fin 7) (n : Fin 4) (value : Word),
      s.writeOpen win 2 → bit value.toNat 1 = 1 → (s.phase n = Phase.lit ∨ s.phase n = Phase.rampUp) →
      ∃ t, exec (.laserDisable win n value 15) s = .next t ∧
        (t.chSt n = ChSt.dark ∧ t.rd (LDS_CH_STATE.CAUSE n) = 1 ∧ t.phase n = Phase.rampDown ∧ t.on (OPTC.RAMPING n) =
          true ∨ t.chSt n = ChSt.fenced ∧ t.rd (LDS_CH_STATE.CAUSE n) = 5 ∧ t.phase n = Phase.off ∧ t.rd
          (LDS_CH_STATE.MAXMODE n) = 0) ∧
        (t.flow.get n).txRes = 0 ∧ (t.flow.get n).rxRes = 0 ∧ OthersKept n s t) ∧
  (∀ (s : State) (win : Fin 7) (n : Fin 4) (value : Word),
      s.writeOpen win 2 → bit value.toNat 1 = 1 → s.phase n = Phase.tuning → s.chSt n ≠ ChSt.fenced →
      ∃ t, exec (.laserDisable win n value 15) s = .next t ∧ t.phase n = Phase.off ∧
        (t.chSt n = ChSt.dark ∧ t.rd (LDS_CH_STATE.CAUSE n) = 1 ∨ t.chSt n = ChSt.fenced ∧ t.rd (LDS_CH_STATE.CAUSE n)
          = 5 ∧ t.rd (LDS_CH_STATE.MAXMODE n) = 0) ∧
        OthersKept n s t) ∧
  (∀ (s : State) (win : Fin 7) (n : Fin 4) (value : Word),
      s.writeOpen win 2 → s.phase n = Phase.off → s.freqFits n ((OPT_FREQ.N n).of value.toNat) = true →
      ∃ t, exec (.optFreqWrite win n value 15) s = .next t ∧ t.rd (OPT_FREQ.N n) = (OPT_FREQ.N n).of value.toNat ∧
        t.ch = s.ch ∧ t.flow = s.flow ∧ SameFields [OPT_FREQ.N n] s t) ∧
  (∀ (s : State) (win : Fin 7) (n : Fin 4) (value : Word),
      s.writeOpen win 2 → s.phase n ≠ Phase.off →
      ∃ t, exec (.optFreqWrite win n value 15) s = .next t ∧ s.refusedAs t win (chanAddr n 8) 5 false ∧
        t.rd (OPT_FREQ.N n) = s.rd (OPT_FREQ.N n)) ∧
  (∀ (s : State) (win : Fin 7) (n : Fin 4) (value : Word),
      s.writeOpen win 2 → -1000 ≤ toSigned 16 ((OPT_TX_PWR.SET n).of value.toNat) →
      toSigned 16 ((OPT_TX_PWR.SET n).of value.toNat) ≤ 400 → s.phase n ≠ Phase.rampUp → s.phase n ≠ Phase.lit →
      ∃ t, exec (.txPowerWrite win n value 15) s = .next t ∧
        t.rd (OPT_TX_PWR.SET n) = (OPT_TX_PWR.SET n).of value.toNat ∧ t.ch = s.ch ∧ t.flow = s.flow ∧
        SameFields [OPT_TX_PWR.SET n] s t) ∧
  (∀ (s : State) (win : Fin 7) (n : Fin 4) (value : Word),
      s.writeOpen win 2 → -1000 ≤ toSigned 16 ((OPT_TX_PWR.SET n).of value.toNat) →
      toSigned 16 ((OPT_TX_PWR.SET n).of value.toNat) ≤ 400 → s.phase n = Phase.rampUp →
      ∃ t, exec (.txPowerWrite win n value 15) s = .next t ∧
        t.rd (OPT_TX_PWR.SET n) = (OPT_TX_PWR.SET n).of value.toNat ∧ t.rd (OPTC.RAMPING n) = 1 ∧
        t.rd (OPTC.RAMP_K n) = 0 ∧ t.rd (OPTC.RAMP_PROF n) = s.rd (OPT_RAMP.PROFILE n) ∧
        t.rdS (OPTC.RAMP_FROM n) = s.rdS (OPTC.POWER n) ∧
        t.rdS (OPTC.RAMP_TO n) = 10000 * toSigned 16 ((OPT_TX_PWR.SET n).of value.toNat) ∧ t.ch = s.ch ∧
        t.flow = s.flow ∧ (SameFields (OPT_TX_PWR.SET n :: rampFields n) s t)) ∧
  (∀ (s : State) (win : Fin 7) (n : Fin 4) (value : Word),
      s.writeOpen win 2 → -1000 ≤ toSigned 16 ((OPT_TX_PWR.SET n).of value.toNat) →
      toSigned 16 ((OPT_TX_PWR.SET n).of value.toNat) ≤ 400 → s.phase n = Phase.lit →
      (10000 * toSigned 16 ((OPT_TX_PWR.SET n).of value.toNat) - s.rdS (OPTC.POWER n)).natAbs < 50000 →
      ∃ t, exec (.txPowerWrite win n value 15) s = .next t ∧
        t.rd (OPT_TX_PWR.SET n) = (OPT_TX_PWR.SET n).of value.toNat ∧ t.rd (OPTC.RAMPING n) = 0 ∧
        t.rdS (OPTC.POWER n) = 10000 * toSigned 16 ((OPT_TX_PWR.SET n).of value.toNat) ∧ t.ch = s.ch ∧
        t.flow = s.flow ∧ SameFields [OPT_TX_PWR.SET n, OPTC.RAMPING n, OPTC.POWER n] s t) ∧
  (∀ (s : State) (n : Fin 4) (us : Nat),
      s.phase n = Phase.tuning →
      ∃ t, exec (.tuneComplete n us) s = .next t ∧ t.phase n = Phase.rampUp ∧ t.rd (OPT_STAT.ON_FREQ n) = 1 ∧
        t.rd (OPT_TUNE_STAT.TIME n) = us % 2 ^ 18 ∧ t.rd (OPT_TUNE_STAT.HELD n) = s.rd (OPTC.TARGET n) ∧
        t.rd (OPTC.RAMPING n) = 1 ∧ t.rd (OPTC.RAMP_K n) = 0 ∧ t.rdS (OPTC.POWER n) = rampFloor ∧
        t.rdS (OPTC.RAMP_FROM n) = rampFloor ∧ t.rdS (OPTC.RAMP_TO n) = s.setPower n ∧ t.ch = s.ch ∧ t.flow = s.flow ∧
        (FieldsKept ([OPT_STAT.PHASE n, OPT_STAT.ON_FREQ n, OPT_TUNE_STAT.TIME n, OPT_TUNE_STAT.HELD n,
          OPTC.TUNE_FAILS n, OPTC.POWER n] ++ rampFields n) [] [n] s t)) ∧
  (∀ (s : State) (n : Fin 4),
      s.phase n = Phase.tuning → s.rd (OPTC.TUNE_FAILS n) = 0 →
      ∃ t, exec (.tuneTimeout n) s = .next t ∧ t.rd (OPT_STAT.TUNE_FAIL n) = 1 ∧ t.rd (OPTC.TUNE_FAILS n) = 1 ∧
        t.ch = s.ch ∧ t.flow = s.flow ∧ SameFields [OPT_STAT.TUNE_FAIL n, OPTC.TUNE_FAILS n] s t) ∧
  (∀ (s : State) (n : Fin 4),
      s.phase n = Phase.tuning → s.rd (OPTC.TUNE_FAILS n) ≠ 0 →
      ∃ t, exec (.tuneTimeout n) s = .next t ∧ t.chSt n = ChSt.fenced ∧ t.rd (LDS_CH_STATE.CAUSE n) = 5 ∧
        t.on (OPT_FAULT.TUNE n) = true ∧ t.on (OPT_STAT.TUNE_FAIL n) = true ∧ t.phase n = Phase.off ∧
        t.rd (OPT_TUNE_STAT.TIME n) = 0x3FFFF ∧ t.rd (IRQ_PEND (sourceOf n 3)) = 1 ∧ OthersKept n s t) ∧
  (∀ (s : State) (n : Fin 4),
      s.on (OPTC.RAMPING n) = true → s.rd (OPTC.RAMP_K n) < 63 →
      ∃ t, exec (.rampStep n) s = .next t ∧ t.rd (OPTC.RAMP_K n) = s.rd (OPTC.RAMP_K n) + 1 ∧
        t.rd (OPTC.POWER n) = ofSigned (OPTC.POWER n).width (rampPower (s.rd (OPTC.RAMP_PROF n)) (s.rdS
          (OPTC.RAMP_FROM n)) (s.rdS (OPTC.RAMP_TO n)) (s.rd (OPTC.RAMP_K n) + 1)) ∧
        t.ch = s.ch ∧ t.flow = s.flow ∧ SameFields [OPTC.RAMP_K n, OPTC.POWER n] s t) ∧
  (∀ (s : State) (n : Fin 4),
      s.on (OPTC.RAMPING n) = true → s.rd (OPTC.RAMP_K n) = 63 → s.phase n = Phase.rampUp →
      ∃ t, exec (.rampStep n) s = .next t ∧ t.phase n = Phase.lit ∧ t.rd (OPTC.RAMPING n) = 0 ∧
        t.on (OPT_STAT.RAMP_DONE n) = true ∧ t.rd (IRQ_PEND (sourceOf n 0)) = 1 ∧
        t.on (LDS_TX_STAT.MUTED n) = s.on (CNV_STAT.TX_LOL n) ∧ t.rd (LFR_MFN_TX.MFN n) = 0 ∧
        t.chSt n = ChSt.acquiring ∧ t.rd (LDS_CH_STATE.CAUSE n) = 0 ∧
        (t.rd (ISC_STAT.CHIP n) = if s.interop n then 0 else 1) ∧ OthersKept n s t) ∧
  (∀ (s : State) (n : Fin 4),
      s.on (OPTC.RAMPING n) = true → s.rd (OPTC.RAMP_K n) = 63 → s.phase n = Phase.rampDown →
      s.on (OPT_STAT.ENA_PEND n) = false →
      ∃ t, exec (.rampStep n) s = .next t ∧ t.phase n = Phase.off ∧ t.rd (OPT_STAT.ON_FREQ n) = 0 ∧
        t.rd (OPTC.RAMPING n) = 0 ∧ t.on (OPT_STAT.RAMP_DONE n) = true ∧ t.rd (IRQ_PEND (sourceOf n 0)) = 1 ∧
        t.rdS (OPTC.POWER n) = -35000000 ∧ t.flow = s.flow ∧ OthersKept n s t)

/-- O17. (1) an update shows the launched and the received power in 0.01 dBm, 0x8000 below −35.00 and −30.00 dBm;
  OVERLOAD
sets above +6.00 and clears below +5.50 dBm; a tracking AGC shows its gain; and OUT_WIN shows whether the input stands
more than 3 dB from its level at the freeze of a frozen one (R96, R105). (2) an acquiring AGC of a LIT channel without
LOS settles: SETTLED sets and GAIN shows its gain (R96); where the channel is not ACQUIRING nothing more happens. (3)
in ACQUIRING without an estimate the coarse estimate starts from the spectrum, or at once from FIXED where SRC is 1
(R26, R129, R130). (4) 1 ms after loss of frame the AGC unfreezes and, while LIT, acquires again (R30, R96). (5) a
declaration of loss of signal sets LOS, counts it, clears FE_MISMATCH and raises source 0x01; a channel that does not
hold lock keeps its state (R98). (6) a channel in LOCKED, IN_SERVICE or RESIZING goes to ACQUIRING with CAUSE 0x3
besides (R39), its receive direction flushed. (7) its end clears LOS and raises the same source, the AGC of a LIT
channel that is not frozen acquires again (R96, R98), and an acquisition that waited for it begins (R148).
(04_optical_engine.md, 01_architecture.md, 06_receive_dsp.md) -/
def Obligations.ReceivedLightFollowed : Prop :=
  (∀ (s : State) (n : Fin 4) (tx rx : Int) (gain : Nat),
      s.answers = true →
      ∃ t, exec (.opticalPowerMonitorUpdate n tx rx gain) s = .next t ∧
        (t.rd (OPT_TX_MON.PWR n) = (if tx < -3500 then 0x8000 else ofSigned 16 tx)) ∧
        (t.rd (OPT_RX_PWR.NOW n) = (if rx < -3000 then 0x8000 else ofSigned 16 rx)) ∧
        (t.on (OPT_STAT.OVERLOAD n) = (if 600 < rx then true else if rx < 550 then false else s.on (OPT_STAT.OVERLOAD
          n))) ∧
        (s.on (OPT_AGC_STAT.FROZEN n) = true → t.on (OPT_AGC_STAT.OUT_WIN n) = decide (300 < (rx - s.rdS
          (OPTC.FREEZE_LVL n)).natAbs)) ∧
        (s.phase n = Phase.lit → s.on (OPT_AGC_STAT.SETTLED n) = true → s.on (OPT_AGC_STAT.FROZEN n) = false → s.on
          (OPT_STAT.LOS n) = false → t.rd (OPT_AGC_STAT.GAIN n) = gain % 256) ∧
        t.ch = s.ch ∧ t.flow = s.flow ∧
        FieldsKept [OPT_TX_MON.PWR n, OPT_RX_PWR.NOW n, OPT_RX_PWR.MIN n, OPTC.MIN_READ n, OPTC.RX n,
          OPT_STAT.OVERLOAD n, OPT_AGC_STAT.GAIN n, OPT_AGC_STAT.OUT_WIN n] [] [n] s t) ∧
  (∀ (s : State) (n : Fin 4) (gain : Nat),
      s.phase n = Phase.lit → s.on (OPT_AGC_STAT.SETTLED n) = false → s.on (OPT_AGC_STAT.FROZEN n) = false →
      s.on (OPT_STAT.LOS n) = false → s.chSt n ≠ ChSt.acquiring →
      ∃ t, exec (.agcSettled n gain) s = .next t ∧ t.rd (OPT_AGC_STAT.SETTLED n) = 1 ∧
        t.rd (OPT_AGC_STAT.GAIN n) = gain % 256 ∧ t.ch = s.ch ∧ t.flow = s.flow ∧
        SameFields [OPT_AGC_STAT.SETTLED n, OPT_AGC_STAT.GAIN n] s t) ∧
  (∀ (s : State) (n : Fin 4) (gain : Nat),
      s.phase n = Phase.lit → s.on (OPT_AGC_STAT.SETTLED n) = false → s.on (OPT_AGC_STAT.FROZEN n) = false →
      s.on (OPT_STAT.LOS n) = false → s.chSt n = ChSt.acquiring → s.on (LDS_CD_EST.VALID n) = false →
      s.on (LDSC.EST_RUN n) = false →
      ∃ t, exec (.agcSettled n gain) s = .next t ∧ t.rd (OPT_AGC_STAT.SETTLED n) = 1 ∧
        t.rd (OPT_AGC_STAT.GAIN n) = gain % 256 ∧ t.rd (LDSC.SRC n) = s.rd (LDS_CD_CTRL.SRC n) ∧
        (s.rd (LDS_CD_CTRL.SRC n) ≠ 1 → t.rd (LDSC.EST_RUN n) = 1 ∧ t.on (LDS_CD_EST.VALID n) = false) ∧
        (s.rd (LDS_CD_CTRL.SRC n) = 1 → t.on (LDS_CD_EST.VALID n) = true) ∧ t.flow = s.flow) ∧
  (∀ (s : State) (n : Fin 4),
      s.on (OPT_AGC_STAT.UNFRZ_PEND n) = true →
      ∃ t, exec (.agcUnfreezeTimeout n) s = .next t ∧ t.rd (OPT_AGC_STAT.FROZEN n) = 0 ∧
        t.rd (OPT_AGC_STAT.UNFRZ_PEND n) = 0 ∧ t.rd (OPT_AGC_STAT.OUT_WIN n) = 0 ∧
        (s.phase n = Phase.lit → t.rd (OPT_AGC_STAT.SETTLED n) = 0) ∧ t.ch = s.ch ∧ t.flow = s.flow ∧
        SameFields [OPT_AGC_STAT.UNFRZ_PEND n, OPT_AGC_STAT.FROZEN n, OPT_AGC_STAT.OUT_WIN n, OPT_AGC_STAT.SETTLED n]
          s t) ∧
  (∀ (s : State) (n : Fin 4),
      s.answers = true → s.on (OPT_STAT.LOS n) = false → s.holdsLock n = false →
      ∃ t, exec (.opticalLosDeclare n) s = .next t ∧ t.rd (OPT_STAT.LOS n) = 1 ∧
        t.rd (OPT_CNT.LOS n) = s.oneMore (OPT_CNT.LOS n) ∧ t.rd (CNV_STAT.FE_MISMATCH n) = 0 ∧
        t.rd (IRQ_PEND (sourceOf n 1)) = 1 ∧ t.ch = s.ch ∧ t.flow = s.flow ∧
        FieldsKept [OPT_STAT.LOS n, OPT_CNT.LOS n, CNV_STAT.FE_MISMATCH n] [sourceOf n 1] [n] s t) ∧
  (∀ (s : State) (n : Fin 4),
      s.answers = true → s.on (OPT_STAT.LOS n) = false → s.holdsLock n = true →
      ∃ t, exec (.opticalLosDeclare n) s = .next t ∧ t.rd (OPT_STAT.LOS n) = 1 ∧
        t.rd (OPT_CNT.LOS n) = s.oneMore (OPT_CNT.LOS n) ∧ t.rd (IRQ_PEND (sourceOf n 1)) = 1 ∧
        t.chSt n = ChSt.acquiring ∧ t.rd (LDS_CH_STATE.CAUSE n) = 3 ∧ (t.flow.get n).rxRes = 0 ∧ OthersKept n s t) ∧
  (∀ (s : State) (n : Fin 4),
      s.on (OPT_STAT.LOS n) = true →
      ∃ t, exec (.opticalLosClear n) s = .next t ∧ t.rd (OPT_STAT.LOS n) = 0 ∧ t.rd (IRQ_PEND (sourceOf n 1)) = 1 ∧
        (s.phase n = Phase.lit → s.on (OPT_AGC_STAT.FROZEN n) = false → t.rd (OPT_AGC_STAT.SETTLED n) = 0) ∧
        (s.chSt n = ChSt.acquiring → s.on (LDSC.WAIT n) = true → s.on (CNV_STAT.RX_LOL n) = false → s.on (LDSC.ABSENT
          n) = false → t.rd (LDS_ACQ_STAT.STEP n) = 2) ∧
        t.ch = s.ch ∧ t.flow = s.flow ∧
        (FieldsKept (OPT_STAT.LOS n :: OPT_AGC_STAT.SETTLED n :: warmFields n) [sourceOf n 1] [4] s t))

/-- O18. (1) a safety input that goes active, with every laser off and no loopback light, shows on every channel, and
DISC_RUN shows whether the pair disagrees (R100). (2) it cuts the light of a lit channel, 3 here with the other lasers
off: PHASE OFF, DARK with CAUSE 0x2, or FENCED without a native mode left, the time from input to dark recorded, the
cut counted and its source raised (R90, R99). (3) returning inactive leaves every laser off as it is, and SHUT shows
whether the other input is still active (R100, R102). (4) a disagreement that lasts DISC latches DISC and raises
source 0x02. (5) a write of 1 to DISC clears it with both inputs inactive (R102). (6) while either input is active it
has no effect on DISC. (7) a laser fault while LIT cuts the laser and fences the channel: FENCED with CAUSE 0x5, its
bit of OPT_FAULT and source 0x03 (R104). (8) a cooler fault outside TUNING does so. (9) a booster fault while it
emits, in RAMP_UP, LIT or RAMP_DOWN, does so. (10) a driver fault does so. (11) a failed self-test of the receiver
front end shows in OPT_FAULT.RX, with source 0x03 as it begins and no fence, and a passed one clears it.
(04_optical_engine.md, 01_architecture.md, 14_calibration.md) -/
def Obligations.SafetyInputsAndOpticalFaults : Prop :=
  (∀ (s : State) (input : Fin 2) (l0 l1 l2 l3 : Nat) (n : Fin 4),
      s.mode ≠ Mode.keep → (∀ k : Fin 4, s.phase k = Phase.off) → s.rd CAL_RUN_STAT.STATE ≠ 1 →
      ∃ t, exec (.safetyInputActive input l0 l1 l2 l3) s = .next t ∧ t.rd (safetyPin input) = 1 ∧
        t.rd (OPT_SAFE_STAT.SHUT n) = 1 ∧ t.on (OPT_SAFE_STAT.DISC_RUN n) = !s.on (safetyPin (1 - input.val)) ∧
        t.ch = s.ch ∧ t.flow = s.flow ∧ (SameFields (safetyPin input :: safeFields) s t)) ∧
  (∀ (s : State) (input : Fin 2) (l0 l1 l2 l3 : Nat),
      s.mode ≠ Mode.keep → (∀ k : Fin 3, s.phase k = Phase.off) → s.rd CAL_RUN_STAT.STATE ≠ 1 →
      s.phase 3 ≠ Phase.off → s.chSt 3 ≠ ChSt.fenced →
      ∃ t, exec (.safetyInputActive input l0 l1 l2 l3) s = .next t ∧ t.phase 3 = Phase.off ∧
        (t.chSt 3 = ChSt.dark ∧ t.rd (LDS_CH_STATE.CAUSE 3) = 2 ∨ t.chSt 3 = ChSt.fenced ∧ t.rd (LDS_CH_STATE.CAUSE 3)
          = 5 ∧ t.rd (LDS_CH_STATE.MAXMODE 3) = 0) ∧
        t.rd (OPT_SAFE_LAT.LAT 3) = l3 % 2 ^ (OPT_SAFE_LAT.LAT 3).width ∧
        t.rd (OPT_CNT.SAFE 3) = s.oneMore (OPT_CNT.SAFE 3) ∧ t.on (OPT_SAFE_STAT.SHUT_EV 3) = true ∧
        t.rd (IRQ_PEND (sourceOf 3 4)) = 1 ∧ OthersKept 3 s t) ∧
  (∀ (s : State) (input : Fin 2) (n : Fin 4),
      s.mode ≠ Mode.keep →
      ∃ t, exec (.safetyInputInactive input) s = .next t ∧ t.rd (safetyPin input) = 0 ∧
        (t.rd (OPT_SAFE_STAT.SHUT n) = if s.on (safetyPin (1 - input.val)) then 1 else 0) ∧
        t.on (OPT_SAFE_STAT.DISC_RUN n) = s.on (safetyPin (1 - input.val)) ∧ t.ch = s.ch ∧ t.flow = s.flow ∧
        (SameFields (safetyPin input :: safeFields) s t)) ∧
  (∀ (s : State) (n : Fin 4),
      s.on (OPT_SAFE_STAT.DISC_RUN n) = true → s.on (OPT_SAFE_STAT.DISC n) = false →
      ∃ t, exec (.safetyDiscrepancyTimeout n) s = .next t ∧ t.rd (OPT_SAFE_STAT.DISC n) = 1 ∧
        t.rd (IRQ_PEND (sourceOf n 2)) = 1 ∧ t.ch = s.ch ∧ t.flow = s.flow ∧
        FieldsKept [OPT_SAFE_STAT.DISC n] [sourceOf n 2] [4] s t) ∧
  (∀ (s : State) (win : Fin 7) (n : Fin 4) (value : Word),
      s.writeOpen win 2 → bit value.toNat 4 = 1 → s.on PIN.SAFE_A = false → s.on PIN.SAFE_B = false →
      ∃ t, exec (.discrepancyClear win n value 15) s = .next t ∧ t.rd (OPT_SAFE_STAT.DISC n) = 0 ∧ t.ch = s.ch ∧
        t.flow = s.flow ∧ SameFields [OPT_SAFE_STAT.DISC n, OPT_SAFE_STAT.SHUT_EV n] s t) ∧
  (∀ (s : State) (win : Fin 7) (n : Fin 4) (value : Word),
      s.writeOpen win 2 → bit value.toNat 4 = 1 → (s.on PIN.SAFE_A = true ∨ s.on PIN.SAFE_B = true) →
      ∃ t, exec (.discrepancyClear win n value 15) s = .next t ∧
        t.rd (OPT_SAFE_STAT.DISC n) = s.rd (OPT_SAFE_STAT.DISC n) ∧ t.ch = s.ch ∧ t.flow = s.flow ∧
        SameFields [OPT_SAFE_STAT.SHUT_EV n] s t) ∧
  (∀ (s : State) (n : Fin 4),
      s.phase n = Phase.lit →
      ∃ t, exec (.laserFault n) s = .next t ∧ t.chSt n = ChSt.fenced ∧ t.rd (LDS_CH_STATE.CAUSE n) = 5 ∧
        t.phase n = Phase.off ∧ t.on (OPT_FAULT.LASER n) = true ∧ t.rd (IRQ_PEND (sourceOf n 3)) = 1 ∧
        OthersKept n s t) ∧
  (∀ (s : State) (n : Fin 4),
      s.answers = true → s.phase n ≠ Phase.tuning →
      ∃ t, exec (.coolerFault n) s = .next t ∧ t.chSt n = ChSt.fenced ∧ t.rd (LDS_CH_STATE.CAUSE n) = 5 ∧
        t.phase n = Phase.off ∧ t.on (OPT_FAULT.TEC n) = true ∧ t.rd (IRQ_PEND (sourceOf n 3)) = 1 ∧
        OthersKept n s t) ∧
  (∀ (s : State) (n : Fin 4),
      (s.phase n = Phase.rampUp ∨ s.phase n = Phase.lit ∨ s.phase n = Phase.rampDown) →
      ∃ t, exec (.boosterFault n) s = .next t ∧ t.chSt n = ChSt.fenced ∧ t.rd (LDS_CH_STATE.CAUSE n) = 5 ∧
        t.phase n = Phase.off ∧ t.on (OPT_FAULT.SOA n) = true ∧ t.rd (IRQ_PEND (sourceOf n 3)) = 1 ∧
        OthersKept n s t) ∧
  (∀ (s : State) (n : Fin 4),
      s.answers = true →
      ∃ t, exec (.driverFault n) s = .next t ∧ t.chSt n = ChSt.fenced ∧ t.rd (LDS_CH_STATE.CAUSE n) = 5 ∧
        t.phase n = Phase.off ∧ t.on (OPT_FAULT.DRV n) = true ∧ t.rd (IRQ_PEND (sourceOf n 3)) = 1 ∧
        OthersKept n s t) ∧
  (∀ (s : State) (n : Fin 4) (fail : Bool),
      s.answers = true →
      ∃ t, exec (.receiverFrontEndFault n fail) s = .next t ∧ (t.rd (OPT_FAULT.RX n) = (if fail then 1 else 0)) ∧
        (fail = true → s.on (OPT_FAULT.RX n) = false → t.rd (IRQ_PEND (sourceOf n 3)) = 1) ∧ t.ch = s.ch ∧
        t.flow = s.flow ∧ FieldsKept [OPT_FAULT.RX n] [sourceOf n 3] [4] s t)

/-- O19. Clauses 1 to 6 are of an ACTIVE slice of a channel that is not DARK or TUNING, or with no position waiting
  and a
spare free in its converter. Such a slice becomes FAILING; SLC_EV sets with source 0x10; CAUSE keeps the first
detector; and where no position waits, the lowest spare enters SHADOW at its position (R112 to R114). (1) an ADC slice
that returns one code while LOS is 0 is FAILING with CAUSE 0x2. (2) a slice with a working correction at a limit of
its range is so with CAUSE 0x3. (3) a slice with a working correction beyond its drift window, that loop not frozen,
is so with CAUSE 0x4. (4) an ADC slice with comparator timing errors is so with CAUSE 0x5. (5) a DAC slice with a
sense-path error is so with CAUSE 0x6. (6) one forced by an admitted write, where a spare of its converter is free, is
so with CAUSE 0x7 (R124). (7) a forced SPARE is FENCED (R116). (8) a force of a slice that is neither ACTIVE nor SPARE
is refused with reason 0x5.  (05_line_converters.md, 02_fabric_and_conservation.md) -/
def Obligations.SliceFaultsConcealed : Prop :=
  (∀ (s : State) (n : Fin 4) (k : Fin 544),
      s.convRuns n = true → isAdc k = true → s.on (CNV_STAT.LOS n) = false → s.slice n k = Slice.active →
      (s.actsAtOnce n = false ∨ (s.chan n).swaps = [] ∧ s.spares n (k.val / 68) ≠ []) →
      ∃ t, exec (.sliceStuckCode n k) s = .next t ∧ t.slice n k.val = Slice.failing ∧
        (t.rd (CNV_SLC_STAT.CAUSE n k.val) = (if s.rd (CNV_SLC_STAT.CAUSE n k.val) = 0 then 2 else s.rd
          (CNV_SLC_STAT.CAUSE n k.val))) ∧
        t.rd (CNV_STAT.SLC_EV n) = 1 ∧ t.rd (IRQ_PEND (sourceOf n 0x10)) = 1 ∧
        ((s.chan n).swaps = [] → (s.spares n (k.val / 68)).head?.all (fun sp => t.slice n sp = Slice.shadow && t.rd
          (CNV_SLC_STAT.POS n sp) = s.rd (CNV_SLC_STAT.POS n k.val)) = true) ∧
        t.flow = s.flow ∧
        (FieldsKept (CNV_SLC_STAT.CAUSE n k.val :: sliceFields n) [sourceOf n 0x10, sourceOf n 0x11] [n, 4] s t)) ∧
  (∀ (s : State) (n : Fin 4) (k : Fin 544),
      s.convRuns n = true → s.atLimit n k = true → s.slice n k = Slice.active →
      (s.actsAtOnce n = false ∨ (s.chan n).swaps = [] ∧ s.spares n (k.val / 68) ≠ []) →
      ∃ t, exec (.sliceRangeFault n k) s = .next t ∧ t.slice n k.val = Slice.failing ∧
        (t.rd (CNV_SLC_STAT.CAUSE n k.val) = (if s.rd (CNV_SLC_STAT.CAUSE n k.val) = 0 then 3 else s.rd
          (CNV_SLC_STAT.CAUSE n k.val))) ∧
        t.rd (CNV_STAT.SLC_EV n) = 1 ∧ t.rd (IRQ_PEND (sourceOf n 0x10)) = 1 ∧
        ((s.chan n).swaps = [] → (s.spares n (k.val / 68)).head?.all (fun sp => t.slice n sp = Slice.shadow && t.rd
          (CNV_SLC_STAT.POS n sp) = s.rd (CNV_SLC_STAT.POS n k.val)) = true) ∧
        t.flow = s.flow ∧
        (FieldsKept (CNV_SLC_STAT.CAUSE n k.val :: sliceFields n) [sourceOf n 0x10, sourceOf n 0x11] [n, 4] s t)) ∧
  (∀ (s : State) (n : Fin 4) (k : Fin 544),
      s.convRuns n = true → s.drifted n k = true → s.slice n k = Slice.active →
      (s.actsAtOnce n = false ∨ (s.chan n).swaps = [] ∧ s.spares n (k.val / 68) ≠ []) →
      ∃ t, exec (.sliceDriftFault n k) s = .next t ∧ t.slice n k.val = Slice.failing ∧
        (t.rd (CNV_SLC_STAT.CAUSE n k.val) = (if s.rd (CNV_SLC_STAT.CAUSE n k.val) = 0 then 4 else s.rd
          (CNV_SLC_STAT.CAUSE n k.val))) ∧
        t.rd (CNV_STAT.SLC_EV n) = 1 ∧ t.rd (IRQ_PEND (sourceOf n 0x10)) = 1 ∧
        ((s.chan n).swaps = [] → (s.spares n (k.val / 68)).head?.all (fun sp => t.slice n sp = Slice.shadow && t.rd
          (CNV_SLC_STAT.POS n sp) = s.rd (CNV_SLC_STAT.POS n k.val)) = true) ∧
        t.flow = s.flow ∧
        (FieldsKept (CNV_SLC_STAT.CAUSE n k.val :: sliceFields n) [sourceOf n 0x10, sourceOf n 0x11] [n, 4] s t)) ∧
  (∀ (s : State) (n : Fin 4) (k : Fin 544),
      s.convRuns n = true → isAdc k = true → s.slice n k = Slice.active →
      (s.actsAtOnce n = false ∨ (s.chan n).swaps = [] ∧ s.spares n (k.val / 68) ≠ []) →
      ∃ t, exec (.sliceTimingFault n k) s = .next t ∧ t.slice n k.val = Slice.failing ∧
        (t.rd (CNV_SLC_STAT.CAUSE n k.val) = (if s.rd (CNV_SLC_STAT.CAUSE n k.val) = 0 then 5 else s.rd
          (CNV_SLC_STAT.CAUSE n k.val))) ∧
        t.rd (CNV_STAT.SLC_EV n) = 1 ∧ t.rd (IRQ_PEND (sourceOf n 0x10)) = 1 ∧
        ((s.chan n).swaps = [] → (s.spares n (k.val / 68)).head?.all (fun sp => t.slice n sp = Slice.shadow && t.rd
          (CNV_SLC_STAT.POS n sp) = s.rd (CNV_SLC_STAT.POS n k.val)) = true) ∧
        t.flow = s.flow ∧
        (FieldsKept (CNV_SLC_STAT.CAUSE n k.val :: sliceFields n) [sourceOf n 0x10, sourceOf n 0x11] [n, 4] s t)) ∧
  (∀ (s : State) (n : Fin 4) (k : Fin 544),
      s.convRuns n = true → isAdc k = false → s.slice n k = Slice.active →
      (s.actsAtOnce n = false ∨ (s.chan n).swaps = [] ∧ s.spares n (k.val / 68) ≠ []) →
      ∃ t, exec (.sliceSenseFault n k) s = .next t ∧ t.slice n k.val = Slice.failing ∧
        (t.rd (CNV_SLC_STAT.CAUSE n k.val) = (if s.rd (CNV_SLC_STAT.CAUSE n k.val) = 0 then 6 else s.rd
          (CNV_SLC_STAT.CAUSE n k.val))) ∧
        t.rd (CNV_STAT.SLC_EV n) = 1 ∧ t.rd (IRQ_PEND (sourceOf n 0x10)) = 1 ∧
        ((s.chan n).swaps = [] → (s.spares n (k.val / 68)).head?.all (fun sp => t.slice n sp = Slice.shadow && t.rd
          (CNV_SLC_STAT.POS n sp) = s.rd (CNV_SLC_STAT.POS n k.val)) = true) ∧
        t.flow = s.flow ∧
        (FieldsKept (CNV_SLC_STAT.CAUSE n k.val :: sliceFields n) [sourceOf n 0x10, sourceOf n 0x11] [n, 4] s t)) ∧
  (∀ (s : State) (win : Fin 7) (n : Fin 4) (value : Word),
      s.writeOpen win 3 → bit value.toNat 0 = 1 → s.sliceSel n < 544 → s.slice n (s.sliceSel n) = Slice.active →
      s.spares n (s.sliceSel n / 68) ≠ [] → (s.actsAtOnce n = false ∨ (s.chan n).swaps = []) →
      ∃ t, exec (.sliceForce win n value 15) s = .next t ∧ t.slice n (s.sliceSel n) = Slice.failing ∧
        (t.rd (CNV_SLC_STAT.CAUSE n (s.sliceSel n)) = (if s.rd (CNV_SLC_STAT.CAUSE n (s.sliceSel n)) = 0 then 7 else
          s.rd (CNV_SLC_STAT.CAUSE n (s.sliceSel n)))) ∧
        t.rd (CNV_STAT.SLC_EV n) = 1 ∧ t.rd (IRQ_PEND (sourceOf n 0x10)) = 1 ∧
        ((s.chan n).swaps = [] → (s.spares n ((s.sliceSel n) / 68)).head?.all (fun sp => t.slice n sp = Slice.shadow
          && t.rd (CNV_SLC_STAT.POS n sp) = s.rd (CNV_SLC_STAT.POS n (s.sliceSel n))) = true) ∧
        t.flow = s.flow ∧
        (FieldsKept (CNV_SLC_STAT.CAUSE n (s.sliceSel n) :: sliceFields n) [sourceOf n 0x10, sourceOf n 0x11] [n, 4] s
          t)) ∧
  (∀ (s : State) (win : Fin 7) (n : Fin 4) (value : Word),
      s.writeOpen win 3 → bit value.toNat 0 = 1 → s.sliceSel n < 544 → s.slice n (s.sliceSel n) = Slice.spare →
      ∃ t, exec (.sliceForce win n value 15) s = .next t ∧ t.slice n (s.sliceSel n) = Slice.fenced ∧
        (t.rd (CNV_SLC_STAT.CAUSE n (s.sliceSel n)) = (if s.rd (CNV_SLC_STAT.CAUSE n (s.sliceSel n)) = 0 then 7 else
          s.rd (CNV_SLC_STAT.CAUSE n (s.sliceSel n)))) ∧
        t.rd (CNV_STAT.SLC_EV n) = 1 ∧ t.rdBit (FABC.COND n) 2 = true ∧ OthersKept n s t) ∧
  (∀ (s : State) (win : Fin 7) (n : Fin 4) (value : Word),
      s.writeOpen win 3 → bit value.toNat 0 = 1 → s.slice n (s.sliceSel n) ≠ Slice.active →
      s.slice n (s.sliceSel n) ≠ Slice.spare →
      ∃ t, exec (.sliceForce win n value 15) s = .next t ∧ s.refusedAs t win (chanAddr n 0x100030) 5 false)

/-- O20. A boundary is one of Table 5.4. In clauses 5 to 7 no resize runs and a native mode is left. (1) a shadow
calibration that converges gives its spare the four measured values, each held within its range, as working and
reference values (R108, R114); outside DARK and TUNING the spare is then ready for the next boundary. (2) in DARK, the
only position that waits being that of failed slice k, the spare is ACTIVE there at once and k FENCED (R116). (3) one
that does not converge in 500 µs fences the spare, CAUSE 0x8 where it had none, and SLC_EV sets (step 3a). (4) at a
boundary a ready spare is ACTIVE at the position and the failed slice FENCED; SWAP counts and SWAP_EV sets (step 4).
(5) a direction with a FAILING slice and no spare respaces at a boundary (R117): RESPACE counts and MAXRS follows the
positions left; where the active profile still fits, a transmit respacing, or one of a channel that holds no lock,
leaves its state. (6) a receive respacing of a channel that holds lock, where its profile still fits, costs the frame:
ACQUIRING with CAUSE 0x4. (7) one that leaves MAXRS below the active profile's rate refuses the mode: PHASE OFF, DARK
or FENCED, CAUSE 0x5. (8) at a boundary with nothing else to apply, a background step that the loop of an ACTIVE slice
calls for, not frozen and within its range, moves the correction by one (R108, R109). (9) whatever its loops call for
there, no correction moves by more than one step.  (05_line_converters.md, 02_fabric_and_conservation.md) -/
def Obligations.SlicesSubstitutedAndRespaced : Prop :=
  (∀ (s : State) (n : Fin 4) (c : Fin 8) (offset gain skew bw : Int) (w : Swap) (sp : Nat),
      ((s.chan n).swaps.find? (fun w => w.conv = c.val && (match w.stage with | .shadow _ => true | _ => false)) = some w) →
      w.stage = .shadow sp → sp < 544 → s.actsAtOnce n = false →
      ∃ t, exec (.shadowCalibrationConverged n c offset gain skew bw) s = .next t ∧
        { w with stage := .ready sp } ∈ (t.chan n).swaps ∧ t.cor n sp 0 = corLimit (isAdc sp) 0 offset ∧
        t.cor n sp 1 = corLimit (isAdc sp) 1 gain ∧ t.cor n sp 2 = corLimit (isAdc sp) 2 skew ∧
        t.cor n sp 3 = corLimit (isAdc sp) 3 bw ∧ t.rdS (CNVC.REF n sp 0) = corLimit (isAdc sp) 0 offset ∧
        t.rdS (CNVC.REF n sp 1) = corLimit (isAdc sp) 1 gain ∧ t.rdS (CNVC.REF n sp 2) = corLimit (isAdc sp) 2 skew ∧
        t.rdS (CNVC.REF n sp 3) = corLimit (isAdc sp) 3 bw ∧ t.flow = s.flow ∧
        (FieldsKept ([CNV_SLC_STAT.DRIFT n sp, corField n sp 0, corField n sp 1, corField n sp 2, corField n sp 3,
          CNVC.REF n sp 0, CNVC.REF n sp 1, CNVC.REF n sp 2, CNVC.REF n sp 3] ++ sliceFields n) [sourceOf n 0x11] [4]
          s t)) ∧
  (∀ (s : State) (n : Fin 4) (c : Fin 8) (offset gain skew bw : Int) (w : Swap) (sp k : Nat),
      (s.chan n).swaps = [w] → w.conv = c.val → w.stage = .shadow sp → w.slice = some k → sp < 544 → k < 544 →
      sp ≠ k → s.chSt n = ChSt.dark →
      ∃ t, exec (.shadowCalibrationConverged n c offset gain skew bw) s = .next t ∧ t.slice n sp = Slice.active ∧
        t.slice n k = Slice.fenced ∧ t.cor n sp 1 = corLimit (isAdc sp) 1 gain ∧
        t.rd (CNV_CNT.SWAP n) = s.oneMore (CNV_CNT.SWAP n) ∧ t.rd (CNV_STAT.SWAP_EV n) = 1 ∧ OthersKept n s t) ∧
  (∀ (s : State) (n : Fin 4) (c : Fin 8) (sp : Nat),
      ((s.chan n).swaps.findSome? (fun w => match w.stage with | .shadow sp => if w.conv = c.val then some sp else none | _ => none) = some sp) →
      sp < 544 → s.slice n sp = Slice.shadow →
      ∃ t, exec (.shadowCalibrationTimeout n c) s = .next t ∧ t.slice n sp = Slice.fenced ∧
        (t.rd (CNV_SLC_STAT.CAUSE n sp) = (if s.rd (CNV_SLC_STAT.CAUSE n sp) = 0 then 8 else s.rd (CNV_SLC_STAT.CAUSE
          n sp))) ∧
        t.rd (CNV_STAT.SLC_EV n) = 1 ∧ t.rdBit (FABC.COND n) 2 = true ∧ OthersKept n s t) ∧
  (∀ (s : State) (n : Fin 4) (c : Fin 8) (w : Swap) (sp k : Nat),
      s.boundaryOpen n = true → ((s.readySwaps n (c / 4)).filter (fun w => w.conv = c.val) = [w]) →
      w.stage = .ready sp → w.slice = some k → sp < 544 → k < 544 → sp ≠ k → s.exhausted n 0 = false →
      s.exhausted n 1 = false →
      ∃ t, exec (.spareSubstitution n c) s = .next t ∧ t.slice n sp = Slice.active ∧ t.slice n k = Slice.fenced ∧
        t.rd (CNV_SLC_STAT.POS n sp) = w.pos % 2 ^ (CNV_SLC_STAT.POS n sp).width ∧
        t.rd (CNV_CNT.SWAP n) = s.oneMore (CNV_CNT.SWAP n) ∧ t.rd (CNV_STAT.SWAP_EV n) = 1 ∧
        t.rdBit (FABC.COND n) 2 = true ∧ OthersKept n s t) ∧
  (∀ (s : State) (n : Fin 4) (dir : Fin 2),
      s.boundaryOpen n = true → s.exhausted n dir = true → s.rszRunning n = false →
      (s.respaceCore n dir).maxModeOf n ≠ 0 →
      ((s.active n).all (fun q => q.rs ≤ (s.respaceCore n dir).rd (CNV_RATE.MAXRS n)) = true) →
      (dir = 0 ∨ s.holdsLock n = false ∧ s.lightUp n = false) →
      ∃ t, exec (.respacing n dir) s = .next t ∧ t.rd (CNV_CNT.RESPACE n) = s.oneMore (CNV_CNT.RESPACE n) ∧
        t.rd (CNV_RATE.MAXRS n) = (s.respaceCore n dir).rd (CNV_RATE.MAXRS n) ∧ t.chSt n = s.chSt n ∧
        t.flow = s.flow) ∧
  (∀ (s : State) (n : Fin 4),
      s.boundaryOpen n = true → s.exhausted n 1 = true → s.rszRunning n = false →
      (s.respaceCore n 1).maxModeOf n ≠ 0 →
      ((s.active n).all (fun q => q.rs ≤ (s.respaceCore n 1).rd (CNV_RATE.MAXRS n)) = true) →
      s.holdsLock n = true →
      ∃ t, exec (.respacing n 1) s = .next t ∧ t.rd (CNV_CNT.RESPACE n) = s.oneMore (CNV_CNT.RESPACE n) ∧
        t.chSt n = ChSt.acquiring ∧ t.rd (LDS_CH_STATE.CAUSE n) = 4 ∧ OthersKept n s t) ∧
  (∀ (s : State) (n : Fin 4) (dir : Fin 2),
      s.boundaryOpen n = true → s.exhausted n dir = true → s.rszRunning n = false →
      (s.respaceCore n dir).maxModeOf n ≠ 0 →
      ((s.active n).any (fun q => (s.respaceCore n dir).rd (CNV_RATE.MAXRS n) < q.rs) = true) →
      s.lightUp n = true →
      ∃ t, exec (.respacing n dir) s = .next t ∧ t.phase n = Phase.off ∧
        (t.chSt n = ChSt.dark ∨ t.chSt n = ChSt.fenced) ∧ t.rd (LDS_CH_STATE.CAUSE n) = 5 ∧ OthersKept n s t) ∧
  (∀ (s : State) (n : Fin 4) (dir : Fin 2) (k : Fin 544) (j : Fin 4) (up : Bool),
      s.answers = true → s.boundaryOpen n = true → s.readySwaps n dir = [] → s.exhausted n dir = false →
      s.calApplying n = false → s.on (OPTC.HOLD (s.rd CAL_RUN_STAT.SCOPE)) = false → k.val / 272 = dir.val →
      s.loopsRun n k = true → s.loopFrozen n k j = false →
      (((s.cor n k j + (if up then 1 else -1)).natAbs : Int) ≤ corRange (isAdc k) j) →
      ∃ t, exec (.converterApplyBoundary n dir [(k, j, up)]) s = .next t ∧
        (t.cor n k j = s.cor n k j + (if up then 1 else -1)) ∧ t.ch = s.ch ∧ t.flow = s.flow ∧
        FieldsKept [corField n k j, CNV_SLC_STAT.DRIFT n k, LDSC.DRIVE n 0, LDSC.DRIVE n 1, LDSC.DRIVE n 2, LDSC.DRIVE
          n 3] [] [n] s t) ∧
  (∀ (s : State) (n : Fin 4) (dir : Fin 2) (moves : List (Nat × Nat × Bool)) (k : Fin 544) (j : Fin 4),
      s.answers = true → s.boundaryOpen n = true → s.readySwaps n dir = [] → s.exhausted n dir = false →
      s.calApplying n = false → s.on (OPTC.HOLD (s.rd CAL_RUN_STAT.SCOPE)) = false →
      ∃ t, exec (.converterApplyBoundary n dir moves) s = .next t ∧ (t.cor n k j - s.cor n k j).natAbs ≤ 1 ∧
        t.flow = s.flow)

/-- O21. The converter runs while the device answers and the channel is not FENCED for a PLL fault (R123). A third
  loss of
lock of a PLL within 1 s is a fault (R120); clauses 1 to 3 and 5 are of the others. (1) loss of lock of the transmit
PLL shows in CNV_STAT and CNV_PLL_STAT, is counted, raises source 0x12, and holds the DACs at mid-scale (MUTED, R120);
the channel state stays. (2) that of the receive PLL takes a channel that holds lock to ACQUIRING with CAUSE 0x4. (3)
and leaves the state of one that does not. (4) lock clears the loss and shows in CNV_PLL_STAT; that it clears REFLOSS
is the model's choice (log entry 43); an acquisition that waited for the receive PLL begins (R148). (5) loss of the
reference sets REFLOSS and drops both PLLs, each counted (R119). (6) a PLL out of lock for 10 ms is faulted: its
converters have no usable position, MAXRS is 0, and in the operating modes the channel is FENCED whole with CAUSE 0x5
(R120). (7) the ADCs' loss of signal sets LOS and LOS_EV alone (R121). (8) its end clears LOS and FE_MISMATCH. (9)
electrical loss for 1 ms while LIT with light at the receiver sets FE_MISMATCH and LOS_EV and raises source 0x13. (10)
the samples that an ADC clipped add to its saturating COUNT, and CLIP_HI shows whether they are more than 1e-4 of a
millisecond's 6,000,000 for each active position (R122).  (05_line_converters.md, 01_architecture.md) -/
def Obligations.ConverterClocksAndSignal : Prop :=
  (∀ (s : State) (n : Fin 4),
      s.convRuns n = true → s.on (CNV_STAT.TX_LOL n) = false → s.on (CNV_PLL_STAT.TX_FAULT n) = false →
      (s.rd (CNVC.LOL_PREV n 0) = 0 ∨ s.rd (CNVC.LOL_PREV n 0) + 1000000000 < s.time + 1) →
      ∃ t, exec (.converterPllLossOfLock n 0) s = .next t ∧ t.rd (CNV_STAT.TX_LOL n) = 1 ∧
        t.rd (CNV_PLL_STAT.TX_LOCK n) = 0 ∧ t.rd (CNV_PLL_STAT.TX_LOL_CNT n) = s.oneMore (CNV_PLL_STAT.TX_LOL_CNT n) ∧
        t.rd (LDS_TX_STAT.MUTED n) = 1 ∧ t.rd (IRQ_PEND (sourceOf n 0x12)) = 1 ∧ t.ch = s.ch ∧ t.flow = s.flow ∧
        FieldsKept [CNV_STAT.TX_LOL n, CNV_PLL_STAT.TX_LOCK n, CNV_PLL_STAT.TX_LOL_CNT n, LDS_TX_STAT.MUTED n,
          CNVC.LOL_PREV n 0, CNVC.LOL_LAST n 0] [sourceOf n 0x12] [n] s t) ∧
  (∀ (s : State) (n : Fin 4),
      s.convRuns n = true → s.on (CNV_STAT.RX_LOL n) = false → s.on (CNV_PLL_STAT.RX_FAULT n) = false →
      (s.rd (CNVC.LOL_PREV n 1) = 0 ∨ s.rd (CNVC.LOL_PREV n 1) + 1000000000 < s.time + 1) → s.holdsLock n = true →
      ∃ t, exec (.converterPllLossOfLock n 1) s = .next t ∧ t.rd (CNV_STAT.RX_LOL n) = 1 ∧
        t.rd (CNV_PLL_STAT.RX_LOCK n) = 0 ∧ t.rd (CNV_PLL_STAT.RX_LOL_CNT n) = s.oneMore (CNV_PLL_STAT.RX_LOL_CNT n) ∧
        t.rd (IRQ_PEND (sourceOf n 0x12)) = 1 ∧ t.chSt n = ChSt.acquiring ∧ t.rd (LDS_CH_STATE.CAUSE n) = 4 ∧
        OthersKept n s t) ∧
  (∀ (s : State) (n : Fin 4),
      s.convRuns n = true → s.on (CNV_STAT.RX_LOL n) = false → s.on (CNV_PLL_STAT.RX_FAULT n) = false →
      (s.rd (CNVC.LOL_PREV n 1) = 0 ∨ s.rd (CNVC.LOL_PREV n 1) + 1000000000 < s.time + 1) → s.holdsLock n = false →
      ∃ t, exec (.converterPllLossOfLock n 1) s = .next t ∧ t.rd (CNV_STAT.RX_LOL n) = 1 ∧
        t.rd (CNV_PLL_STAT.RX_LOCK n) = 0 ∧ t.rd (CNV_PLL_STAT.RX_LOL_CNT n) = s.oneMore (CNV_PLL_STAT.RX_LOL_CNT n) ∧
        t.rd (IRQ_PEND (sourceOf n 0x12)) = 1 ∧ t.chSt n = s.chSt n ∧ OthersKept n s t) ∧
  (∀ (s : State) (n : Fin 4) (dir : Fin 2),
      s.convRuns n = true → s.on (pllFaultBit n dir) = false →
      ∃ t, exec (.converterPllLock n dir) s = .next t ∧ t.rd (pllLol n dir) = 0 ∧ t.rd (pllLock n dir) = 1 ∧
        t.rd (CNV_STAT.REFLOSS n) = 0 ∧
        (dir = 1 → s.chSt n = ChSt.acquiring → s.on (LDSC.WAIT n) = true → s.on (OPT_STAT.LOS n) = false → s.on
          (LDSC.ABSENT n) = false → t.rd (LDS_ACQ_STAT.STEP n) = 2) ∧
        t.ch = s.ch ∧ t.flow = s.flow ∧
        (SameFields (pllLol n dir :: pllLock n dir :: CNV_STAT.REFLOSS n :: warmFields n) s t)) ∧
  (∀ (s : State) (n : Fin 4),
      s.convRuns n = true → (∀ d : Fin 2, s.on (pllLol n d) = false) →
      (∀ d : Fin 2, s.on (pllFaultBit n d) = false) →
      (∀ d : Fin 2, s.rd (CNVC.LOL_PREV n d) = 0 ∨ s.rd (CNVC.LOL_PREV n d) + 1000000000 < s.time + 1) →
      ∃ t, exec (.converterReferenceLoss n) s = .next t ∧ t.rd (CNV_STAT.REFLOSS n) = 1 ∧
        t.rd (CNV_STAT.TX_LOL n) = 1 ∧ t.rd (CNV_STAT.RX_LOL n) = 1 ∧
        t.rd (CNV_PLL_STAT.TX_LOL_CNT n) = s.oneMore (CNV_PLL_STAT.TX_LOL_CNT n) ∧
        t.rd (CNV_PLL_STAT.RX_LOL_CNT n) = s.oneMore (CNV_PLL_STAT.RX_LOL_CNT n) ∧
        (t.chSt n = (if s.holdsLock n then ChSt.acquiring else s.chSt n)) ∧ OthersKept n s t) ∧
  (∀ (s : State) (n : Fin 4) (dir : Fin 2),
      s.operating = true → s.on (pllLol n dir) = true → s.on (pllFaultBit n dir) = false → s.chSt n ≠ ChSt.fenced →
      ∃ t, exec (.converterPllFault n dir) s = .next t ∧ t.on (pllFaultBit n dir) = true ∧
        t.rd (CNV_RATE.MAXRS n) = 0 ∧ t.rd (LDS_CH_STATE.MAXMODE n) = 0 ∧ t.chSt n = ChSt.fenced ∧
        t.rd (LDS_CH_STATE.CAUSE n) = 5 ∧ t.phase n = Phase.off ∧ OthersKept n s t) ∧
  (∀ (s : State) (n : Fin 4),
      s.convRuns n = true → s.on (CNV_STAT.LOS n) = false →
      ∃ t, exec (.adcLosDeclare n) s = .next t ∧ t.rd (CNV_STAT.LOS n) = 1 ∧ t.rd (CNV_STAT.LOS_EV n) = 1 ∧
        t.ch = s.ch ∧ t.flow = s.flow ∧ SameFields [CNV_STAT.LOS n, CNV_STAT.LOS_EV n] s t) ∧
  (∀ (s : State) (n : Fin 4),
      s.convRuns n = true → s.on (CNV_STAT.LOS n) = true →
      ∃ t, exec (.adcLosClear n) s = .next t ∧ t.rd (CNV_STAT.LOS n) = 0 ∧ t.rd (CNV_STAT.FE_MISMATCH n) = 0 ∧
        t.ch = s.ch ∧ t.flow = s.flow ∧ SameFields [CNV_STAT.LOS n, CNV_STAT.FE_MISMATCH n] s t) ∧
  (∀ (s : State) (n : Fin 4),
      s.on (CNV_STAT.LOS n) = true → s.phase n = Phase.lit → s.on (OPT_STAT.LOS n) = false →
      s.on (CNV_STAT.FE_MISMATCH n) = false →
      ∃ t, exec (.frontEndMismatch n) s = .next t ∧ t.rd (CNV_STAT.FE_MISMATCH n) = 1 ∧ t.rd (CNV_STAT.LOS_EV n) = 1 ∧
        t.rd (IRQ_PEND (sourceOf n 0x13)) = 1 ∧ t.ch = s.ch ∧ t.flow = s.flow ∧
        FieldsKept [CNV_STAT.FE_MISMATCH n, CNV_STAT.LOS_EV n] [sourceOf n 0x13] [4] s t) ∧
  (∀ (s : State) (n : Fin 4) (a : Fin 4) (clipped : Nat),
      s.convRuns n = true →
      ∃ t, exec (.adcClipExcess n a clipped) s = .next t ∧
        t.rd (CNV_CLIP_A.COUNT n a) = Nat.min (s.rd (CNV_CLIP_A.COUNT n a) + clipped) (2 ^ (CNV_CLIP_A.COUNT n
          a).width - 1) ∧
        t.rdBit (CNV_STAT.CLIP_HI n) a = decide (6000000 * s.rd (CNV_RATE.RX_ACT n) < 10000 * clipped) ∧
        (∀ b : Fin 4, b ≠ a → t.rdBit (CNV_STAT.CLIP_HI n) b = s.rdBit (CNV_STAT.CLIP_HI n) b) ∧ t.ch = s.ch ∧
        t.flow = s.flow ∧ FieldsKept [CNV_CLIP_A.COUNT n a, CNV_STAT.CLIP_HI n] [] [n] s t)

/-- O22. The channel is ACQUIRING where a clause does not say otherwise. EST_RUN shows that the coarse estimator runs,
  SRC
its source as sampled. (1) a coarse estimate within the widest CD range of the defined profiles and 56 to 340 GBd, and
within the active profile's range, is valid and ends the estimator; in a native or custom mode the despreader may then
search (R129, R130). (2) one outside the active profile's range shows OOR, and the estimator runs again (R131). (3) in
an interoperable mode one in range goes on at once to step 1 of Table 6.4: the profile is loaded and step 2 is in
progress (R145). (4) one that finds nothing in 20 ms sets FAIL with source 0x21 and starts again (R130). (5) in a
state that holds lock, with TRACK, a tracking step of −1, 0 or +1 ps/nm within the active profile's range moves the
estimate, and FINE sets (R129). (6) one that would leave that range does not move it. (7) from step 2 of Table 6.4 on,
clock recovery within its pull-in range of 200 ppm locks at an offset that PPM shows, which completes step 2 (R133,
R146). (8) and, once locked in any state other than ACQUIRING, it tracks an offset within that range. (9) losing lock
costs codeword alignment and the frame, the channel state unchanged where it holds no lock. (10) and takes a channel
that holds lock to ACQUIRING with CAUSE 0x4, its receive direction flushed (R39). (11) a cycle slip is counted in
SLIP, and its symbols are erased at the demapper (R136).  (06_receive_dsp.md, 01_architecture.md) -/
def Obligations.AcquisitionProgresses : Prop :=
  (∀ (s : State) (n : Fin 4) (est : Int) (rs : Nat),
      s.chSt n = ChSt.acquiring → s.on (LDSC.EST_RUN n) = true → s.on (LDSC.SRC n) = false →
      s.estimable n est rs = true → s.outOfRange n est = false → s.interop n = false →
      ∃ t, exec (.coarseEstimateComplete n est rs) s = .next t ∧
        t.rd (LDS_CD_EST.EST n) = ofSigned (LDS_CD_EST.EST n).width est ∧ t.rd (LDS_RS_EST.RS n) = rs ∧
        t.rd (LDS_CD_EST.VALID n) = 1 ∧ t.rd (LDS_CD_EST.OOR n) = 0 ∧ t.rd (LDS_CD_EST.FINE n) = 0 ∧
        t.rd (LDSC.EST_RUN n) = 0 ∧
        (t.rd (ISC_STAT.CHIP n) = (if s.rd (ISC_STAT.CHIP n) = 1 then 2 else s.rd (ISC_STAT.CHIP n))) ∧ t.ch = s.ch ∧
        t.flow = s.flow ∧
        SameFields [LDS_RS_EST.RS n, LDS_CD_EST.EST n, LDS_CD_EST.FINE n, LDS_CD_EST.VALID n, LDS_CD_EST.OOR n,
          LDSC.EST_RUN n, ISC_STAT.CHIP n] s t) ∧
  (∀ (s : State) (n : Fin 4) (est : Int) (rs : Nat),
      s.chSt n = ChSt.acquiring → s.on (LDSC.EST_RUN n) = true → s.on (LDSC.SRC n) = false →
      s.on (LDS_CD_CTRL.SRC n) = false → s.estimable n est rs = true → s.outOfRange n est = true →
      ∃ t, exec (.coarseEstimateComplete n est rs) s = .next t ∧
        t.rd (LDS_CD_EST.EST n) = ofSigned (LDS_CD_EST.EST n).width est ∧ t.rd (LDS_RS_EST.RS n) = rs ∧
        t.rd (LDS_CD_EST.VALID n) = 1 ∧ t.rd (LDS_CD_EST.OOR n) = 1 ∧ t.rd (LDSC.EST_RUN n) = 1 ∧ t.ch = s.ch ∧
        t.flow = s.flow ∧
        SameFields [LDS_RS_EST.RS n, LDS_CD_EST.EST n, LDS_CD_EST.FINE n, LDS_CD_EST.VALID n, LDS_CD_EST.OOR n,
          ISC_STAT.CHIP n, LDSC.SRC n, LDSC.EST_RUN n] s t) ∧
  (∀ (s : State) (n : Fin 4) (est : Int) (rs : Nat),
      s.chSt n = ChSt.acquiring → s.on (LDSC.EST_RUN n) = true → s.on (LDSC.SRC n) = false →
      s.estimable n est rs = true → s.outOfRange n est = false → s.interop n = true →
      ∃ t, exec (.coarseEstimateComplete n est rs) s = .next t ∧ t.rd (LDS_CD_EST.VALID n) = 1 ∧
        t.rd (LDS_ACQ_STAT.STEP n) = 2 ∧ t.rd (LDSC.RXPROF n) = s.rd (LDS_LMODE_STAT.ACTIVE n) ∧ t.flow = s.flow) ∧
  (∀ (s : State) (n : Fin 4),
      s.chSt n = ChSt.acquiring → s.on (LDSC.EST_RUN n) = true → s.on (LDSC.SRC n) = false →
      s.on (LDS_CD_CTRL.SRC n) = false →
      ∃ t, exec (.coarseEstimateTimeout n) s = .next t ∧ t.rd (LDS_CD_EST.FAIL n) = 1 ∧ t.rd (LDSC.EST_RUN n) = 1 ∧
        t.rd (IRQ_PEND (sourceOf n 0x21)) = 1 ∧ t.ch = s.ch ∧ t.flow = s.flow ∧
        FieldsKept [LDS_CD_EST.FAIL n] [sourceOf n 0x21] [4] s t) ∧
  (∀ (s : State) (n : Fin 4) (dir : Fin 3),
      s.holdsLock n = true → s.on (LDS_CD_CTRL.TRACK n) = true → s.on (LDS_CD_EST.VALID n) = true →
      s.outOfRange n (s.rdS (LDS_CD_EST.EST n) + (dir.val : Int) - 1) = false →
      ∃ t, exec (.cdTrackStep n dir) s = .next t ∧
        t.rd (LDS_CD_EST.EST n) = ofSigned (LDS_CD_EST.EST n).width (s.rdS (LDS_CD_EST.EST n) + (dir.val : Int) - 1) ∧
        t.rd (LDS_CD_EST.FINE n) = 1 ∧ t.ch = s.ch ∧ t.flow = s.flow ∧
        SameFields [LDS_CD_EST.EST n, LDS_CD_EST.FINE n] s t) ∧
  (∀ (s : State) (n : Fin 4) (dir : Fin 3),
      s.holdsLock n = true → s.on (LDS_CD_CTRL.TRACK n) = true → s.on (LDS_CD_EST.VALID n) = true →
      s.outOfRange n (s.rdS (LDS_CD_EST.EST n) + (dir.val : Int) - 1) = true →
      ∃ t, exec (.cdTrackStep n dir) s = .next t ∧ t.rd (LDS_CD_EST.EST n) = s.rd (LDS_CD_EST.EST n) ∧
        t.rd (LDS_CD_EST.FINE n) = 1 ∧ t.ch = s.ch ∧ t.flow = s.flow ∧ SameFields [LDS_CD_EST.FINE n] s t) ∧
  (∀ (s : State) (n : Fin 4) (ppm : Int),
      s.chSt n = ChSt.acquiring → 2 ≤ s.rd (LDS_ACQ_STAT.STEP n) → ppm.natAbs ≤ 20000 →
      ∃ t, exec (.clockRecoveryLock n ppm) s = .next t ∧ t.rd (LDS_CLK_STAT.LOCK n) = 1 ∧
        t.rd (LDS_CLK_STAT.PPM n) = ofSigned (LDS_CLK_STAT.PPM n).width ppm ∧
        (t.rd (LDS_ACQ_STAT.STEP n) = (if s.rd (LDS_ACQ_STAT.STEP n) = 2 then 3 else s.rd (LDS_ACQ_STAT.STEP n))) ∧
        t.ch = s.ch ∧ t.flow = s.flow ∧
        SameFields [LDS_CLK_STAT.LOCK n, LDS_CLK_STAT.PPM n, LDS_ACQ_STAT.STEP n] s t) ∧
  (∀ (s : State) (n : Fin 4) (ppm : Int),
      s.chSt n ≠ ChSt.acquiring → s.on (LDS_CLK_STAT.LOCK n) = true → ppm.natAbs ≤ 20000 →
      ∃ t, exec (.clockRecoveryLock n ppm) s = .next t ∧
        t.rd (LDS_CLK_STAT.PPM n) = ofSigned (LDS_CLK_STAT.PPM n).width ppm ∧ t.ch = s.ch ∧ t.flow = s.flow ∧
        SameFields [LDS_CLK_STAT.PPM n] s t) ∧
  (∀ (s : State) (n : Fin 4),
      s.on (LDS_CLK_STAT.LOCK n) = true → s.holdsLock n = false →
      ∃ t, exec (.clockRecoveryLoss n) s = .next t ∧ t.rd (LDS_CLK_STAT.LOCK n) = 0 ∧ t.rd (FEC_STAT.CW_ALIGN n) = 0 ∧
        t.rd (LFR_STAT.FSTATE n) = 0 ∧ t.chSt n = s.chSt n ∧ t.flow = s.flow ∧ OthersKept n s t) ∧
  (∀ (s : State) (n : Fin 4),
      s.on (LDS_CLK_STAT.LOCK n) = true → s.holdsLock n = true →
      ∃ t, exec (.clockRecoveryLoss n) s = .next t ∧ t.rd (LDS_CLK_STAT.LOCK n) = 0 ∧ t.chSt n = ChSt.acquiring ∧
        t.rd (LDS_CH_STATE.CAUSE n) = 4 ∧ (t.flow.get n).rxRes = 0 ∧ OthersKept n s t) ∧
  (∀ (s : State) (n : Fin 4) (k : Fin 65),
      s.on (LDS_EQ_STAT.PSYNC n) = true →
      ∃ t, exec (.cycleSlip n k) s = .next t ∧ t.rd (LDS_CR_STAT.SLIP n) = s.oneMore (LDS_CR_STAT.SLIP n) ∧
        t.ch = s.ch.set n { s.ch.get n with dsp := { (s.chan n).dsp with slip := (s.chan n).dsp.slip + k.val } } ∧
        t.flow = s.flow ∧ FieldsKept [LDS_CR_STAT.SLIP n] [] [n] s t)

/-- O23. The channel is ACQUIRING, and STEP shows the step in progress. (1) step 2 completes with clock recovery locked.
(2) step 3 leaves the blind taps, 65 of each of the four filters (R134). (3) step 4 acquires a carrier offset within
±3.6 GHz, which FOFS shows in MHz. (4) step 5 synchronises the pilots: PSYNC sets, and the pilot registers of a loaded
profile run (R135). (5) step 6 turns decision feedback on where a native or custom profile has it, which DFE shows,
and the demapper delivers. (6) step 7 completes with codeword alignment. (7) step 8, with the frame detected and the
receiver front end without fault (Table 4.7), makes the channel LOCKED with STEP 0xF, and the count of failures
restarts (R147). (8) a step over its bound, odd in the row of failures, is recorded in LAST_FAIL, flushes the receive
direction, is counted in WARM with source 0x23, and acquisition restarts at step 2 (R147). (9) one even in the row
restarts cold: counted in COLD, VALID clears, agreement is to be sought again, and the coarse estimate runs again;
here with SRC = 0.  (06_receive_dsp.md, 01_architecture.md) -/
def Obligations.AcquisitionSteps : Prop :=
  (∀ (s : State) (n : Fin 4) (fofs : Int) (adc : List (List Int)),
      s.chSt n = ChSt.acquiring → s.rd (LDS_ACQ_STAT.STEP n) = 2 → s.on (LDS_CLK_STAT.LOCK n) = true →
      ∃ t, exec (.acquisitionStepComplete n fofs adc) s = .next t ∧ t.rd (LDS_ACQ_STAT.STEP n) = 3 ∧ t.ch = s.ch ∧
        t.flow = s.flow ∧ SameFields [LDS_ACQ_STAT.STEP n] s t) ∧
  (∀ (s : State) (n : Fin 4) (fofs : Int) (adc : List (List Int)),
      s.chSt n = ChSt.acquiring → s.rd (LDS_ACQ_STAT.STEP n) = 3 →
      ∃ t, exec (.acquisitionStepComplete n fofs adc) s = .next t ∧ t.rd (LDS_ACQ_STAT.STEP n) = 4 ∧
        (t.chan n).dsp.taps.map List.length = [65, 65, 65, 65] ∧
        t.ch = s.ch.set n { s.ch.get n with dsp := { (s.chan n).dsp with taps := (t.chan n).dsp.taps } } ∧
        t.flow = s.flow ∧ SameFields [LDS_ACQ_STAT.STEP n] s t) ∧
  (∀ (s : State) (n : Fin 4) (fofs : Int) (adc : List (List Int)),
      s.chSt n = ChSt.acquiring → s.rd (LDS_ACQ_STAT.STEP n) = 4 → fofs.natAbs ≤ 3600 →
      ∃ t, exec (.acquisitionStepComplete n fofs adc) s = .next t ∧ t.rd (LDS_ACQ_STAT.STEP n) = 5 ∧
        t.rd (LDS_CR_STAT.FOFS n) = ofSigned (LDS_CR_STAT.FOFS n).width fofs ∧ t.ch = s.ch ∧ t.flow = s.flow ∧
        SameFields [LDS_ACQ_STAT.STEP n, LDS_CR_STAT.FOFS n] s t) ∧
  (∀ (s : State) (n : Fin 4) (fofs : Int) (adc : List (List Int)),
      s.chSt n = ChSt.acquiring → s.rd (LDS_ACQ_STAT.STEP n) = 5 →
      ∃ t, exec (.acquisitionStepComplete n fofs adc) s = .next t ∧ t.rd (LDS_ACQ_STAT.STEP n) = 6 ∧
        t.rd (LDS_EQ_STAT.PSYNC n) = 1 ∧ ((s.rxProfile n).isSome = true → (t.chan n).dsp.pilot.isSome = true) ∧
        t.flow = s.flow ∧ SameFields [LDS_ACQ_STAT.STEP n, LDS_EQ_STAT.PSYNC n, ISC_STAT.COH n] s t) ∧
  (∀ (s : State) (n : Fin 4) (fofs : Int) (adc : List (List Int)),
      s.chSt n = ChSt.acquiring → s.rd (LDS_ACQ_STAT.STEP n) = 6 →
      ∃ t, exec (.acquisitionStepComplete n fofs adc) s = .next t ∧ t.rd (LDS_ACQ_STAT.STEP n) = 7 ∧
        t.on (LDS_EQ_STAT.DFE n) = ((s.rxProfile n).elim false (·.dfe) && !s.interop n) ∧ t.flow = s.flow ∧
        FieldsKept [LDS_ACQ_STAT.STEP n, LDS_EQ_STAT.DFE n, LDS_CR_STAT.FOFS n, LDS_NLC_STAT.ALPHA_NOW n] [] [n] s t) ∧
  (∀ (s : State) (n : Fin 4) (fofs : Int) (adc : List (List Int)),
      s.chSt n = ChSt.acquiring → s.rd (LDS_ACQ_STAT.STEP n) = 7 → s.on (FEC_STAT.CW_ALIGN n) = true →
      ∃ t, exec (.acquisitionStepComplete n fofs adc) s = .next t ∧ t.rd (LDS_ACQ_STAT.STEP n) = 8 ∧ t.ch = s.ch ∧
        t.flow = s.flow ∧ SameFields [LDS_ACQ_STAT.STEP n] s t) ∧
  (∀ (s : State) (n : Fin 4) (fofs : Int) (adc : List (List Int)),
      s.chSt n = ChSt.acquiring → s.rd (LDS_ACQ_STAT.STEP n) = 8 → s.rd (LFR_STAT.FSTATE n) = 2 →
      s.on (OPT_FAULT.RX n) = false →
      ∃ t, exec (.acquisitionStepComplete n fofs adc) s = .next t ∧ t.chSt n = ChSt.locked ∧
        t.rd (LDS_CH_STATE.CAUSE n) = 0 ∧ t.rd (LDS_ACQ_STAT.STEP n) = 0xF ∧ t.rd (LDS_ACQ_STAT.COLD n) = 0 ∧
        t.rd (LDSC.FAILS n) = 0 ∧ t.rd (IRQ_PEND (sourceOf n 0x20)) = 1 ∧ t.flow = s.flow) ∧
  (∀ (s : State) (n : Fin 4),
      s.chSt n = ChSt.acquiring → 2 ≤ s.rd (LDS_ACQ_STAT.STEP n) → s.rd (LDS_ACQ_STAT.STEP n) ≤ 8 →
      s.rd (LDSC.FAILS n) % 2 = 0 →
      ∃ t, exec (.acquisitionStepTimeout n) s = .next t ∧
        t.rd (LDS_ACQ_STAT.LAST_FAIL n) = s.rd (LDS_ACQ_STAT.STEP n) ∧
        t.rd (LDS_ACQ_CNT.WARM n) = s.oneMore (LDS_ACQ_CNT.WARM n) ∧
        t.rd (LDS_ACQ_CNT.COLD n) = s.rd (LDS_ACQ_CNT.COLD n) ∧ t.rd (LDS_ACQ_STAT.STEP n) = 2 ∧
        t.rd (LDS_ACQ_STAT.COLD n) = 0 ∧ t.rd (LDS_CD_EST.VALID n) = s.rd (LDS_CD_EST.VALID n) ∧
        t.rd (IRQ_PEND (sourceOf n 0x23)) = 1 ∧ (t.flow.get n).rxRes = 0 ∧
        (t.flow.get n).led.rxFlush = (s.flow.get n).led.rxFlush + (s.flow.get n).rxRes ∧ OthersKept n s t) ∧
  (∀ (s : State) (n : Fin 4),
      s.chSt n = ChSt.acquiring → 2 ≤ s.rd (LDS_ACQ_STAT.STEP n) → s.rd (LDS_ACQ_STAT.STEP n) ≤ 8 →
      s.rd (LDSC.FAILS n) % 2 = 1 → s.on (LDS_CD_CTRL.SRC n) = false →
      ∃ t, exec (.acquisitionStepTimeout n) s = .next t ∧
        t.rd (LDS_ACQ_STAT.LAST_FAIL n) = s.rd (LDS_ACQ_STAT.STEP n) ∧
        t.rd (LDS_ACQ_CNT.COLD n) = s.oneMore (LDS_ACQ_CNT.COLD n) ∧
        t.rd (LDS_ACQ_CNT.WARM n) = s.rd (LDS_ACQ_CNT.WARM n) ∧ t.rd (LDS_ACQ_STAT.STEP n) = 0 ∧
        t.rd (LDS_ACQ_STAT.COLD n) = 1 ∧ t.rd (LDS_CD_EST.VALID n) = 0 ∧ t.rd (LDSC.EST_RUN n) = 1 ∧
        t.rd (LDSC.AGREED n) = 0 ∧ t.rd (IRQ_PEND (sourceOf n 0x23)) = 1 ∧ (t.flow.get n).rxRes = 0 ∧
        OthersKept n s t)

/-- O24. A tile is at work while it is ACTIVE in a stage. Its stage stays covered where the other active tiles of it
  reach
its cost (Table 3.4). CAUSE keeps the first detector of Table 6.3. (1) a residue mismatch of a tile at work is
counted, and its next block is discarded (R142). (2) a residue fault of a tile at work in a channel that is not DARK
or FENCED fences it with CAUSE 0x2 and source 0x22; where its stage stays covered, no resize runs and a native mode is
left, the stage repartitions with CONVERGED and WINOK cleared, and the channel keeps its state (R143). (3) where its
stage is not covered any more, the channel refuses its mode: PHASE OFF, DARK or FENCED with CAUSE 0x5 (Table 1.10).
(4) a handshake fault of a tile at work in a channel that is not DARK or FENCED fences it with CAUSE 0x3 and source
0x22; where its stage stays covered, no resize runs and a native mode is left, the stage repartitions with CONVERGED
and WINOK cleared, and the channel keeps its state (R143). (5) where its stage is not covered any more, the channel
refuses its mode: PHASE OFF, DARK or FENCED with CAUSE 0x5 (Table 1.10). (6) an admitted force of an IDLE tile, or of
an ACTIVE one that its stage can spare, fences it with CAUSE 0x4 (R144). (7) one of a tile that is neither is refused
with reason 0x5, and so is one of an ACTIVE tile that its stage needs in a channel that is not DARK. (8) when the
stage has repartitioned its work CONVERGED is earned anew: it clears with WINOK (R143, R149).  (06_receive_dsp.md,
01_architecture.md) -/
def Obligations.TilesFenced : Prop :=
  (∀ (s : State) (n : Fin 4) (k : Fin 96),
      s.rd (LDS_TILE_STAT.STATE n k) = 0 → s.rd (LDS_TILE_STAT.STAGE n k) ≠ 0 →
      ∃ t, exec (.tileResidueMismatch n k) s = .next t ∧
        t.rd (LDS_TILE_STAT.ERRCNT n k) = s.oneMore (LDS_TILE_STAT.ERRCNT n k) ∧
        (t.ch = s.ch.set n { s.ch.get n with dsp := { (s.chan n).dsp with bad := k.val :: (s.chan n).dsp.bad } }) ∧
        t.flow = s.flow ∧ FieldsKept [LDS_TILE_STAT.ERRCNT n k] [] [n] s t) ∧
  (∀ (s : State) (n : Fin 4) (k : Fin 96),
      s.answers = true → s.rd (LDS_TILE_STAT.STATE n k) = 0 → s.rd (LDS_TILE_STAT.STAGE n k) ≠ 0 →
      s.lightUp n = true →
      (s.put (LDS_TILE_STAT.STATE n k) 2).stageCovered n (s.rd (LDS_TILE_STAT.STAGE n k)) = true →
      s.rszRunning n = false → (s.put (LDS_TILE_SUM.FENCED n) (s.rd (LDS_TILE_SUM.FENCED n) + 1)).maxModeOf n ≠ 0 →
      ∃ t, exec (.tileResidueFault n k) s = .next t ∧ t.rd (LDS_TILE_STAT.STATE n k) = 2 ∧
        (t.rd (LDS_TILE_STAT.CAUSE n k) = (if s.rd (LDS_TILE_STAT.CAUSE n k) = 0 then 2 else s.rd (LDS_TILE_STAT.CAUSE
          n k))) ∧
        t.rd (IRQ_PEND (sourceOf n 0x22)) = 1 ∧ t.rd (LDSC.REPART n) = 1 ∧ t.rd (LDS_CH_STATE.CONVERGED n) = 0 ∧
        t.rd (LDS_EQ_STAT.WINOK n) = 0 ∧ t.chSt n = s.chSt n ∧ t.rdBit (FABC.COND n) 2 = true ∧ OthersKept n s t) ∧
  (∀ (s : State) (n : Fin 4) (k : Fin 96),
      s.answers = true → s.rd (LDS_TILE_STAT.STATE n k) = 0 → s.rd (LDS_TILE_STAT.STAGE n k) ≠ 0 →
      s.lightUp n = true →
      (s.put (LDS_TILE_STAT.STATE n k) 2).stageCovered n (s.rd (LDS_TILE_STAT.STAGE n k)) = false →
      s.rszRunning n = false → (s.put (LDS_TILE_SUM.FENCED n) (s.rd (LDS_TILE_SUM.FENCED n) + 1)).maxModeOf n ≠ 0 →
      ∃ t, exec (.tileResidueFault n k) s = .next t ∧ t.rd (LDS_TILE_STAT.STATE n k) = 2 ∧ t.phase n = Phase.off ∧
        (t.chSt n = ChSt.dark ∨ t.chSt n = ChSt.fenced) ∧ t.rd (LDS_CH_STATE.CAUSE n) = 5 ∧ OthersKept n s t) ∧
  (∀ (s : State) (n : Fin 4) (k : Fin 96),
      s.answers = true → s.rd (LDS_TILE_STAT.STATE n k) = 0 → s.rd (LDS_TILE_STAT.STAGE n k) ≠ 0 →
      s.lightUp n = true →
      (s.put (LDS_TILE_STAT.STATE n k) 2).stageCovered n (s.rd (LDS_TILE_STAT.STAGE n k)) = true →
      s.rszRunning n = false → (s.put (LDS_TILE_SUM.FENCED n) (s.rd (LDS_TILE_SUM.FENCED n) + 1)).maxModeOf n ≠ 0 →
      ∃ t, exec (.tileHandshakeFault n k) s = .next t ∧ t.rd (LDS_TILE_STAT.STATE n k) = 2 ∧
        (t.rd (LDS_TILE_STAT.CAUSE n k) = (if s.rd (LDS_TILE_STAT.CAUSE n k) = 0 then 3 else s.rd (LDS_TILE_STAT.CAUSE
          n k))) ∧
        t.rd (IRQ_PEND (sourceOf n 0x22)) = 1 ∧ t.rd (LDSC.REPART n) = 1 ∧ t.rd (LDS_CH_STATE.CONVERGED n) = 0 ∧
        t.rd (LDS_EQ_STAT.WINOK n) = 0 ∧ t.chSt n = s.chSt n ∧ t.rdBit (FABC.COND n) 2 = true ∧ OthersKept n s t) ∧
  (∀ (s : State) (n : Fin 4) (k : Fin 96),
      s.answers = true → s.rd (LDS_TILE_STAT.STATE n k) = 0 → s.rd (LDS_TILE_STAT.STAGE n k) ≠ 0 →
      s.lightUp n = true →
      (s.put (LDS_TILE_STAT.STATE n k) 2).stageCovered n (s.rd (LDS_TILE_STAT.STAGE n k)) = false →
      s.rszRunning n = false → (s.put (LDS_TILE_SUM.FENCED n) (s.rd (LDS_TILE_SUM.FENCED n) + 1)).maxModeOf n ≠ 0 →
      ∃ t, exec (.tileHandshakeFault n k) s = .next t ∧ t.rd (LDS_TILE_STAT.STATE n k) = 2 ∧ t.phase n = Phase.off ∧
        (t.chSt n = ChSt.dark ∨ t.chSt n = ChSt.fenced) ∧ t.rd (LDS_CH_STATE.CAUSE n) = 5 ∧ OthersKept n s t) ∧
  (∀ (s : State) (win : Fin 7) (n : Fin 4) (value : Word) (k : Fin 96),
      s.writeOpen win 3 → bit value.toNat 0 = 1 → s.rd (LDS_TILE_SEL.TILE n) = k.val →
      (s.rd (LDS_TILE_STAT.STATE n k) = 1 ∨ s.rd (LDS_TILE_STAT.STATE n k) = 0 ∧ s.tileNeeded n k = false) →
      ∃ t, exec (.tileForce win n value 15) s = .next t ∧ t.rd (LDS_TILE_STAT.STATE n k) = 2 ∧
        (t.rd (LDS_TILE_STAT.CAUSE n k) = (if s.rd (LDS_TILE_STAT.CAUSE n k) = 0 then 4 else s.rd (LDS_TILE_STAT.CAUSE
          n k))) ∧
        t.rd (IRQ_PEND (sourceOf n 0x22)) = 1 ∧ t.rdBit (FABC.COND n) 2 = true ∧ OthersKept n s t) ∧
  (∀ (s : State) (win : Fin 7) (n : Fin 4) (value : Word) (k : Fin 96),
      s.writeOpen win 3 → bit value.toNat 0 = 1 → s.rd (LDS_TILE_SEL.TILE n) = k.val →
      (1 < s.rd (LDS_TILE_STAT.STATE n k) ∨ s.rd (LDS_TILE_STAT.STATE n k) = 0 ∧ s.chSt n ≠ ChSt.dark ∧ s.tileNeeded n
        k = true) →
      ∃ t, exec (.tileForce win n value 15) s = .next t ∧ s.refusedAs t win (chanAddr n 0x200170) 5 false) ∧
  (∀ (s : State) (n : Fin 4),
      s.on (LDSC.REPART n) = true →
      ∃ t, exec (.tileRepartitionComplete n) s = .next t ∧ t.rd (LDSC.REPART n) = 0 ∧
        t.rd (LDS_CH_STATE.CONVERGED n) = 0 ∧ t.rd (LDS_EQ_STAT.WINOK n) = 0 ∧
        (t.ch = s.ch.set n { s.ch.get n with dsp := { (s.chan n).dsp with bad := (s.chan n).dsp.bad.filter (fun k =>
          s.rd (LDS_TILE_STAT.STATE n k) = 0) } }) ∧
        t.flow = s.flow ∧ SameFields [LDSC.REPART n, LDS_CH_STATE.CONVERGED n, LDS_EQ_STAT.WINOK n] s t)

/-- O25. A convergence window is quiet where the energy of the tap updates and the pilot SNR meet R149; it meets the
criterion where also no codeword was released with UNCORR in it and the framer is in SYNC. The states that hold lock
are LOCKED, IN_SERVICE and RESIZING. (1) a window of a channel that holds lock that misses the criterion restarts
WINOK, and CONVERGED keeps its value. (2) one that meets it counts. (3) the eighth in a row, with no resize at its
switch, sets CONVERGED. (4) in a resize of the mode whose receiver has switched it ends the resize DONE and restores
IN_SERVICE, with the time since the switch in µs in CONV and LATE beyond 10 ms (Table 3.6, steps 8 and 8a). (5) 50 ms
in LOCKED or IN_SERVICE without CONVERGED set NOCONV with source 0x24 alone (R151). (6) a link-quality window with
pilots, while figures are computed, latches VALID and the SNR of its pilots in 0.01 dB, rounded down or up (log entry
2), BERV where a codeword was released corrected in it, counts SEQ, and sets WIN_EV with source 0x25 (R152). (7)
without pilot synchronisation it latches VALID = 0 and neither SNR, EVM nor SD change (R153). (8) while no figures are
computed, VALID and BERV are 0 and the other figures keep their values.  (06_receive_dsp.md, 03_line_modes.md) -/
def Obligations.TilesAndLinkQuality : Prop :=
  (∀ (s : State) (n : Fin 4),
      s.holdsLock n = true →
      ((s.chan n).dsp.settled && !s.on (LDSC.WIN_UNC n) && s.rd (LFR_STAT.FSTATE n) = 2) = false →
      ∃ t, exec (.convergenceWindowEnd n) s = .next t ∧ t.rd (LDS_EQ_STAT.WINOK n) = 0 ∧
        t.ch = s.ch.set n { s.ch.get n with dsp := (s.chan n).dsp.nextWindow } ∧ t.flow = s.flow ∧
        SameFields [LDS_EQ_STAT.WINOK n, LDSC.WIN_UNC n] s t) ∧
  (∀ (s : State) (n : Fin 4),
      s.holdsLock n = true → (s.chan n).dsp.settled = true → s.on (LDSC.WIN_UNC n) = false →
      s.rd (LFR_STAT.FSTATE n) = 2 → s.rd (LDS_EQ_STAT.WINOK n) < 7 →
      ∃ t, exec (.convergenceWindowEnd n) s = .next t ∧ t.rd (LDS_EQ_STAT.WINOK n) = s.rd (LDS_EQ_STAT.WINOK n) + 1 ∧
        t.ch = s.ch.set n { s.ch.get n with dsp := (s.chan n).dsp.nextWindow } ∧ t.flow = s.flow ∧
        SameFields [LDS_EQ_STAT.WINOK n, LDSC.WIN_UNC n] s t) ∧
  (∀ (s : State) (n : Fin 4),
      s.holdsLock n = true → (s.chan n).dsp.settled = true → s.on (LDSC.WIN_UNC n) = false →
      s.rd (LFR_STAT.FSTATE n) = 2 → 7 ≤ s.rd (LDS_EQ_STAT.WINOK n) →
      s.rd (LDS_RSZ_STAT.STATE n) ≠ RszSt.resizing →
      ∃ t, exec (.convergenceWindowEnd n) s = .next t ∧ t.rd (LDS_CH_STATE.CONVERGED n) = 1 ∧
        t.ch = s.ch.set n { s.ch.get n with dsp := (s.chan n).dsp.nextWindow } ∧ t.flow = s.flow ∧
        SameFields [LDS_EQ_STAT.WINOK n, LDSC.WIN_UNC n, LDS_CH_STATE.CONVERGED n, FABC.BOOST] s t) ∧
  (∀ (s : State) (n : Fin 4) (t0 : Nat),
      s.chSt n = ChSt.resizing → (s.chan n).dsp.settled = true → s.on (LDSC.WIN_UNC n) = false →
      s.rd (LFR_STAT.FSTATE n) = 2 → 7 ≤ s.rd (LDS_EQ_STAT.WINOK n) → s.on (LDS_CH_STATE.CONVERGED n) = false →
      s.rd (LDS_RSZ_STAT.STATE n) = RszSt.resizing → (s.chan n).rsz.only = false → (s.chan n).rsz.rxAt = some t0 →
      ∃ t, exec (.convergenceWindowEnd n) s = .next t ∧ t.rd (LDS_CH_STATE.CONVERGED n) = 1 ∧
        t.rd (LDS_RSZ_STAT.STATE n) = RszSt.done ∧
        t.rd (LDS_RSZ_TIME.CONV n) = Nat.min ((s.time - t0) / 1000) 0xFFFE ∧
        t.on (LDS_RSZ_STAT.LATE n) = decide (10000 < (s.time - t0) / 1000) ∧ t.rd (LDS_RSZ_STAT.DONE_EV n) = 1 ∧
        t.rd (IRQ_PEND (sourceOf n 0x27)) = 1 ∧ t.rd (LFRC.TX_RESIZE n) = 0 ∧ t.flow = s.flow ∧ OthersKept n s t) ∧
  (∀ (s : State) (n : Fin 4),
      (s.chSt n = ChSt.locked ∨ s.chSt n = ChSt.inService) → s.on (LDS_CH_STATE.CONVERGED n) = false →
      ∃ t, exec (.noConvergenceTimeout n) s = .next t ∧ t.rd (LDS_EQ_STAT.NOCONV n) = 1 ∧
        t.rd (IRQ_PEND (sourceOf n 0x24)) = 1 ∧ t.ch = s.ch ∧ t.flow = s.flow ∧
        FieldsKept [LDS_EQ_STAT.NOCONV n] [sourceOf n 0x24] [4] s t) ∧
  (∀ (s : State) (n : Fin 4),
      s.figures n = true → s.on (LDS_EQ_STAT.PSYNC n) = true →
      ∃ t, exec (.linkQualityWindowEnd n) s = .next t ∧ t.rd (LDS_LQ_STAT.VALID n) = 1 ∧
        t.on (LDS_LQ_STAT.BERV n) = decide (0 < (s.chan n).dsp.ber.1) ∧
        (0 < (s.chan n).dsp.px.2 + (s.chan n).dsp.py.2 → (s.chan n).dsp.px.2 + (s.chan n).dsp.py.2 ≤ (s.chan
          n).dsp.px.1 + (s.chan n).dsp.py.1 → t.rd (LDS_LQ_SNR.SNR n) = (logRatio 1000 ((s.chan n).dsp.px.1 + (s.chan
          n).dsp.py.1) ((s.chan n).dsp.px.2 + (s.chan n).dsp.py.2)).toNat % 2 ^ 16 ∨ t.rd (LDS_LQ_SNR.SNR n) =
          ((logRatio 1000 ((s.chan n).dsp.px.1 + (s.chan n).dsp.py.1) ((s.chan n).dsp.px.2 + (s.chan
          n).dsp.py.2)).toNat + 1) % 2 ^ 16) ∧
        t.rd (LDS_LQ_STAT.SEQ n) = (s.rd (LDS_LQ_STAT.SEQ n) + 1) % 2 ^ (LDS_LQ_STAT.SEQ n).width ∧
        t.rd (LDS_LQ_STAT.WIN_EV n) = 1 ∧ t.rd (IRQ_PEND (sourceOf n 0x25)) = 1 ∧
        t.ch = s.ch.set n { s.ch.get n with dsp := (s.chan n).dsp.nextQuality } ∧ t.flow = s.flow ∧
        FieldsKept (qualityFields n) [sourceOf n 0x25, sourceOf n 0x26] [n] s t) ∧
  (∀ (s : State) (n : Fin 4),
      s.figures n = true → s.on (LDS_EQ_STAT.PSYNC n) = false →
      ∃ t, exec (.linkQualityWindowEnd n) s = .next t ∧ t.rd (LDS_LQ_STAT.VALID n) = 0 ∧
        t.rd (LDS_LQ_SNR.SNR n) = s.rd (LDS_LQ_SNR.SNR n) ∧ t.rd (LDS_LQ_EVM.EVM n) = s.rd (LDS_LQ_EVM.EVM n) ∧
        t.rd (LDS_LQ_STAT.SD n) = s.rd (LDS_LQ_STAT.SD n) ∧
        t.rd (LDS_LQ_STAT.SEQ n) = (s.rd (LDS_LQ_STAT.SEQ n) + 1) % 2 ^ (LDS_LQ_STAT.SEQ n).width ∧
        t.rd (LDS_LQ_STAT.WIN_EV n) = 1 ∧ t.flow = s.flow ∧ FieldsKept (qualityFields n) [sourceOf n 0x25] [n] s t) ∧
  (∀ (s : State) (n : Fin 4),
      s.figures n = false →
      ∃ t, exec (.linkQualityWindowEnd n) s = .next t ∧ t.rd (LDS_LQ_STAT.VALID n) = 0 ∧
        t.rd (LDS_LQ_STAT.BERV n) = 0 ∧ t.flow = s.flow ∧ SameFields [LDS_LQ_STAT.VALID n, LDS_LQ_STAT.BERV n] s t)

/-- O26. The first clauses are of a channel whose PHASE is LIT. (1) k missing LINE tokens are counted in UNDERRUN, set
UNDER_EV with source 0x2A, and as many data symbols as they carry are sent as a substitute span (R173). (2) more than
1e-5 of a lane's samples of a millisecond clipped, 60 for each active position, set CLIP_EV with source 0x29 (R171);
the lane's count of the millisecond begins anew. (3) an admitted write of LDS_TX_TEST at admin level, of the normal
signal or of a channel not IN_SERVICE or RESIZING, takes the pattern (R177). (4) one of a pattern in those states is
refused for the state.  (07_transmit_dsp.md) -/
def Obligations.TransmitSignalEvents : Prop :=
  (∀ (s : State) (n : Fin 4) (k : Nat) (g : Geo),
      s.phase n = Phase.lit → 0 < k →
      (s.chan n).tx.geos5.head?.or ((s.chan n).tx.geo.or ((s.active n).map Profile.geo)) = some g →
      ∃ t, exec (.txUnderrun n k) s = .next t ∧
        t.rd (LDS_TX_CNT.UNDERRUN n) = Nat.min (s.rd (LDS_TX_CNT.UNDERRUN n) + k) (2 ^ (LDS_TX_CNT.UNDERRUN n).width -
          1) ∧
        t.rd (LDS_TX_STAT.UNDER_EV n) = 1 ∧ t.rd (IRQ_PEND (sourceOf n 0x2A)) = 1 ∧
        (t.chan n).tx.late = (s.chan n).tx.late + tokenSymbols g k ∧ (t.chan n).tx.geos5 = (s.chan n).tx.geos5 ∧
        (t.chan n).tx.bits5 = (s.chan n).tx.bits5 ∧ t.ch = s.ch.set n { s.chan n with tx := (t.chan n).tx } ∧
        t.flow = s.flow ∧
        FieldsKept [LDS_TX_CNT.UNDERRUN n, LDS_TX_STAT.UNDER_EV n, LDS_TX_CLIP.COUNT n, LDS_TX_STAT.MUTED n] [sourceOf
          n 0x2A] [n] s t) ∧
  (∀ (s : State) (n : Fin 4) (lane : Fin 4),
      s.phase n = Phase.lit → 60 * s.rd (CNV_RATE.TX_ACT n) < (s.chan n).tx.clips.getD lane 0 →
      ∃ t, exec (.txClipExcess n lane) s = .next t ∧ t.rd (LDS_TX_STAT.CLIP_EV n) = 1 ∧
        t.rd (IRQ_PEND (sourceOf n 0x29)) = 1 ∧
        t.ch = s.ch.set n { s.chan n with tx := { (s.chan n).tx with clips := (s.chan n).tx.clips.set lane 0 } } ∧
        t.flow = s.flow ∧ FieldsKept [LDS_TX_STAT.CLIP_EV n] [sourceOf n 0x29] [4] s t) ∧
  (∀ (s : State) (win : Fin 7) (n : Fin 4) (value : Word),
      s.writeOpen win 3 → (s.inTraffic n = false ∨ (LDS_TX_TEST.PATTERN n).of value.toNat = 0) →
      ∃ t, exec (.testPatternWrite win n value 15) s = .next t ∧
        t.rd (LDS_TX_TEST.PATTERN n) = (LDS_TX_TEST.PATTERN n).of value.toNat ∧
        (s.phase n = Phase.lit → t.on (LDS_TX_STAT.ISC_INS n) = t.iscInserts n) ∧ t.flow = s.flow ∧
        SameFields [LDS_TX_TEST.PATTERN n, LDS_TX_STAT.ISC_INS n] s t) ∧
  (∀ (s : State) (win : Fin 7) (n : Fin 4) (value : Word),
      s.writeOpen win 3 → s.inTraffic n = true → (LDS_TX_TEST.PATTERN n).of value.toNat ≠ 0 →
      ∃ t, exec (.testPatternWrite win n value 15) s = .next t ∧ s.refusedAs t win (chanAddr n 0x200240) 5 false ∧
        t.flow = s.flow)

/-- O27. A codeword is resident from its dispatch to its release. (1) while CW_ALIGN holds, a codeword that overruns the
assembly, or finds EFF codewords resident, is presented and dropped as budget, with DROP_EV (R188). (2) any other is
dispatched. (3) a completed pass of the engine that works on codeword q adds an iteration, with that engine its last;
or q, the oldest, is released and counted out (R186, R189). (4) a residue mismatch of an engine at work is counted in
ERRCNT, and the pass counts for nothing (R195). (5) while ACQUIRING in step 7, a candidate start whose 16 codewords
pass two iterations with fewer than 10% of their checks unsatisfied, or any in an interoperable mode, sets CW_ALIGN
and ends the step; the LLRs before it are dropped (R193, R200). (6) under LLR_INJECT CW_ALIGN sets at once, with
earlier codewords known to be zero (R201). (7) a window with at least THR uncorrectable codewords, THR not 0, sets
DEG, with DEG_EV and source 0x31 as it sets (R194). (8) the second in a row with fewer clears it. (9) and the first
leaves it. (10) an admitted write of FEC_ITER_CTRL with MIN from 1 to MAX and HWM from 16 to 1,024 is taken (Table
8.9). (11) one with MIN 0 or above MAX is refused as out of range.  (08_soft_decision_fec.md) -/
def Obligations.DecoderAccountsForCodewords : Prop :=
  (∀ (s : State) (n : Fin 4) (adc : List (List Int)) (overrun : Bool),
      (s.rxProfile n).isSome = true → s.on (FEC_STAT.CW_ALIGN n) = true →
      (overrun = true ∨ s.rd (FEC_BUDGET.EFF n) ≤ (s.cws n).length) →
      ∃ t, exec (.codewordAssembled n overrun adc) s = .next t ∧
        (t.flow.get n).led.cwIn = (s.flow.get n).led.cwIn + 1 ∧
        (t.flow.get n).led.cwBudget = (s.flow.get n).led.cwBudget + 1 ∧ t.rd (FEC_STAT.DROP_EV n) = 1 ∧
        OthersKept n s t) ∧
  (∀ (s : State) (n : Fin 4) (adc : List (List Int)),
      (s.rxProfile n).isSome = true → s.on (FEC_STAT.CW_ALIGN n) = true →
      (s.cws n).length < s.rd (FEC_BUDGET.EFF n) →
      ∃ t, exec (.codewordAssembled n false adc) s = .next t ∧ (t.flow.get n).led.cwIn = (s.flow.get n).led.cwIn + 1 ∧
        (t.flow.get n).led.cwBudget = (s.flow.get n).led.cwBudget ∧
        t.rd (FEC_STAT.DROP_EV n) = s.rd (FEC_STAT.DROP_EV n) ∧ OthersKept n s t) ∧
  (∀ (s : State) (n : Fin 4) (e : Fin 24) (w : Codeword),
      ((s.cws n).find? (fun v => v.engine = some e.val) = some w) →
      ((s.cws n).countP (fun v => v.seq = w.seq) = 1) →
      ∃ t, exec (.enginePassComplete n e) s = .next t ∧
        ((t.cws n).any (fun v => v.seq = w.seq && v.iter = w.iter + 1 && v.last = some e.val) = true ∨ ((t.cws n).all
          (fun v => v.seq ≠ w.seq) = true ∧ (s.flow.get n).led.cwOut < (t.flow.get n).led.cwOut)) ∧
        (t.flow.get n).led.cwIn = (s.flow.get n).led.cwIn ∧ (t.flow.get n).led.cwDrops = (s.flow.get n).led.cwDrops ∧
        OthersKept n s t) ∧
  (∀ (s : State) (n : Fin 4) (e : Fin 24),
      ((s.cws n).any (fun v => v.engine = some e.val) = true) →
      ∃ t, exec (.engineResidueMismatch n e) s = .next t ∧
        t.rd (FEC_ENG_STAT.ERRCNT n e) = s.oneMore (FEC_ENG_STAT.ERRCNT n e) ∧ t.ch = s.ch ∧ t.flow = s.flow ∧
        SameFields [FEC_ENG_STAT.ERRCNT n e] s t) ∧
  (∀ (s : State) (n : Fin 4) (offset : Fin 3500) (q : Profile),
      s.rxProfile n = some q → s.on (FEC_STAT.CW_ALIGN n) = false → s.injecting n = false →
      s.chSt n = ChSt.acquiring → s.rd (LDS_ACQ_STAT.STEP n) = 7 →
      (q.interop = true ∨ alignPasses q.geo offset (s.chan n).dsp.llr = true) →
      ∃ t, exec (.codewordAlignment n offset) s = .next t ∧ t.rd (FEC_STAT.CW_ALIGN n) = 1 ∧
        t.rd (LDS_ACQ_STAT.STEP n) = 8 ∧ (t.chan n).dsp.llr = (s.chan n).dsp.llr.drop (2 * q.geo.m * offset) ∧
        (t.chan n).rx.zero = false ∧ t.ch = s.ch.set n { s.chan n with dsp := (t.chan n).dsp, rx := (t.chan n).rx } ∧
        t.flow = s.flow ∧ SameFields [FEC_STAT.CW_ALIGN n, LDS_ACQ_STAT.STEP n] s t) ∧
  (∀ (s : State) (n : Fin 4) (offset : Fin 3500),
      (s.rxProfile n).isSome = true → s.on (FEC_STAT.CW_ALIGN n) = false → s.injecting n = true →
      ∃ t, exec (.codewordAlignment n offset) s = .next t ∧ t.rd (FEC_STAT.CW_ALIGN n) = 1 ∧
        (t.chan n).dsp.llr = (s.chan n).dsp.llr ∧ (t.chan n).rx.zero = true ∧
        t.ch = s.ch.set n { s.chan n with dsp := (t.chan n).dsp, rx := (t.chan n).rx } ∧ t.flow = s.flow ∧
        SameFields [FEC_STAT.CW_ALIGN n] s t) ∧
  (∀ (s : State) (n : Fin 4),
      s.answers = true → s.rd (FEC_DEG_CFG.THR n) ≠ 0 → s.rd (FEC_DEG_CFG.THR n) ≤ s.rd (FECC.WINCNT n) →
      ∃ t, exec (.fecDegradeWindowEnd n) s = .next t ∧ t.rd (FEC_STAT.DEG n) = 1 ∧
        (s.on (FEC_STAT.DEG n) = false → t.rd (FEC_STAT.DEG_EV n) = 1 ∧ t.rd (IRQ_PEND (sourceOf n 0x31)) = 1) ∧
        t.rd (FECC.WINCNT n) = 0 ∧ t.rd (FECC.LOWWIN n) = 0 ∧ t.ch = s.ch ∧ t.flow = s.flow ∧
        FieldsKept [FECC.WINCNT n, FECC.LOWWIN n, FEC_STAT.DEG n, FEC_STAT.DEG_EV n] [sourceOf n 0x31] [4] s t) ∧
  (∀ (s : State) (n : Fin 4),
      s.answers = true → s.rd (FECC.WINCNT n) < s.rd (FEC_DEG_CFG.THR n) → s.on (FECC.LOWWIN n) = true →
      ∃ t, exec (.fecDegradeWindowEnd n) s = .next t ∧ t.rd (FEC_STAT.DEG n) = 0 ∧ t.rd (FECC.WINCNT n) = 0 ∧
        t.ch = s.ch ∧ t.flow = s.flow ∧ SameFields [FECC.WINCNT n, FECC.LOWWIN n, FEC_STAT.DEG n] s t) ∧
  (∀ (s : State) (n : Fin 4),
      s.answers = true → s.rd (FECC.WINCNT n) < s.rd (FEC_DEG_CFG.THR n) → s.on (FECC.LOWWIN n) = false →
      ∃ t, exec (.fecDegradeWindowEnd n) s = .next t ∧ t.rd (FECC.LOWWIN n) = 1 ∧ t.rd (FECC.WINCNT n) = 0 ∧
        t.ch = s.ch ∧ t.flow = s.flow ∧ SameFields [FECC.WINCNT n, FECC.LOWWIN n] s t) ∧
  (∀ (s : State) (win : Fin 7) (n : Fin 4) (value : Word),
      s.writeOpen win 2 → 16 ≤ (FEC_ITER_CTRL.HWM n).of value.toNat → (FEC_ITER_CTRL.HWM n).of value.toNat ≤ 1024 →
      1 ≤ (FEC_ITER_CTRL.MIN n).of value.toNat →
      (FEC_ITER_CTRL.MIN n).of value.toNat ≤ (FEC_ITER_CTRL.MAX n).of value.toNat →
      ∃ t, exec (.iterationControlWrite win n value 15) s = .next t ∧
        t.rd (FEC_ITER_CTRL.HWM n) = (FEC_ITER_CTRL.HWM n).of value.toNat ∧
        t.rd (FEC_ITER_CTRL.MIN n) = (FEC_ITER_CTRL.MIN n).of value.toNat ∧
        t.rd (FEC_ITER_CTRL.MAX n) = (FEC_ITER_CTRL.MAX n).of value.toNat ∧
        t.rd (FEC_ITER_CTRL.EARLY n) = (FEC_ITER_CTRL.EARLY n).of value.toNat ∧ t.flow = s.flow ∧
        SameFields [FEC_ITER_CTRL.HWM n, FEC_ITER_CTRL.MIN n, FEC_ITER_CTRL.MAX n, FEC_ITER_CTRL.EARLY n] s t) ∧
  (∀ (s : State) (win : Fin 7) (n : Fin 4) (value : Word),
      s.writeOpen win 2 →
      ((FEC_ITER_CTRL.MIN n).of value.toNat = 0 ∨ (FEC_ITER_CTRL.MAX n).of value.toNat < (FEC_ITER_CTRL.MIN n).of
        value.toNat) →
      ∃ t, exec (.iterationControlWrite win n value 15) s = .next t ∧
        s.refusedAs t win (chanAddr n 0x300004) 4 false ∧ t.flow = s.flow)

/-- O28. A fenced engine shows STATE FENCED, leaves FEC_ENG_ACT and enters FEC_ENG_FNC, with its first detector's cause,
FENCE_EV and source 0x32; the codewords it held are counted as dropped for the fence (R195 to R197). The channels
beside it are untouched. (1) two consecutive mismatches fence an ACTIVE or IDLE engine, where engines are left for a
mode, with no resize running. (2) so does a handshake fault. (3) and an admitted forced fault at admin level of the
engine that FEC_ENG_SEL names, unless it is the last ACTIVE one of a channel not DARK. (4) in that case, and for a
FENCED engine, the write is refused for the state. (5) while PHASE is LIT, a first parity mismatch of the encoder sets
ENC_EV, and the codeword is computed again (R198). (6) a second one fences the channel: DISABLE's ramp does not apply,
and its codewords, tokens and credits are dropped.  (08_soft_decision_fec.md, 01_architecture.md) -/
def Obligations.EngineFaultsFence : Prop :=
  (∀ (s : State) (n : Fin 4) (e : Fin 24),
      s.answers = true → s.rd (FEC_ENG_STAT.STATE n e) ≤ 1 → s.rszRunning n = false →
      (s.putBit (FEC_ENG_ACT.ACTIVE n) e false).maxModeOf n ≠ 0 →
      ∃ t, exec (.engineResidueFault n e) s = .next t ∧ t.rd (FEC_ENG_STAT.STATE n e) = 2 ∧
        (t.rd (FEC_ENG_STAT.CAUSE n e) = (if s.rd (FEC_ENG_STAT.CAUSE n e) = 0 then 2 else s.rd (FEC_ENG_STAT.CAUSE n
          e))) ∧
        t.rdBit (FEC_ENG_ACT.ACTIVE n) e = false ∧ t.rdBit (FEC_ENG_FNC.FENCED n) e = true ∧
        t.rd (FEC_STAT.FENCE_EV n) = 1 ∧ t.rd (IRQ_PEND (sourceOf n 0x32)) = 1 ∧
        ((t.flow.get n).led.cwFence = (s.flow.get n).led.cwFence + (s.cws n).countP (fun v => v.engine = some e.val)) ∧
        ((t.cws n) = (s.cws n).filter (fun v => v.engine ≠ some e.val)) ∧ OthersKept n s t) ∧
  (∀ (s : State) (n : Fin 4) (e : Fin 24),
      s.answers = true → s.rd (FEC_ENG_STAT.STATE n e) ≤ 1 → s.rszRunning n = false →
      (s.putBit (FEC_ENG_ACT.ACTIVE n) e false).maxModeOf n ≠ 0 →
      ∃ t, exec (.engineHandshakeFault n e) s = .next t ∧ t.rd (FEC_ENG_STAT.STATE n e) = 2 ∧
        (t.rd (FEC_ENG_STAT.CAUSE n e) = (if s.rd (FEC_ENG_STAT.CAUSE n e) = 0 then 3 else s.rd (FEC_ENG_STAT.CAUSE n
          e))) ∧
        t.rdBit (FEC_ENG_ACT.ACTIVE n) e = false ∧ t.rdBit (FEC_ENG_FNC.FENCED n) e = true ∧
        t.rd (FEC_STAT.FENCE_EV n) = 1 ∧ t.rd (IRQ_PEND (sourceOf n 0x32)) = 1 ∧
        ((t.flow.get n).led.cwFence = (s.flow.get n).led.cwFence + (s.cws n).countP (fun v => v.engine = some e.val)) ∧
        ((t.cws n) = (s.cws n).filter (fun v => v.engine ≠ some e.val)) ∧ OthersKept n s t) ∧
  (∀ (s : State) (win : Fin 7) (n : Fin 4) (value : Word) (e : Fin 24),
      s.writeOpen win 3 → bit value.toNat 0 = 1 → s.rd (FEC_ENG_SEL.ENGINE n) = e.val →
      (s.rdBit (FEC_ENG_ACT.ACTIVE n) e = false ∨ popcount (s.rd (FEC_ENG_ACT.ACTIVE n)) 24 ≠ 1 ∨ s.chSt n =
        ChSt.dark) →
      s.rd (FEC_ENG_STAT.STATE n e) ≤ 1 → s.rszRunning n = false →
      (s.putBit (FEC_ENG_ACT.ACTIVE n) e false).maxModeOf n ≠ 0 →
      ∃ t, exec (.engineForce win n value 15) s = .next t ∧ t.rd (FEC_ENG_STAT.STATE n e) = 2 ∧
        (t.rd (FEC_ENG_STAT.CAUSE n e) = (if s.rd (FEC_ENG_STAT.CAUSE n e) = 0 then 4 else s.rd (FEC_ENG_STAT.CAUSE n
          e))) ∧
        t.rdBit (FEC_ENG_ACT.ACTIVE n) e = false ∧ t.rdBit (FEC_ENG_FNC.FENCED n) e = true ∧
        t.rd (FEC_STAT.FENCE_EV n) = 1 ∧ t.rd (IRQ_PEND (sourceOf n 0x32)) = 1 ∧
        ((t.flow.get n).led.cwFence = (s.flow.get n).led.cwFence + (s.cws n).countP (fun v => v.engine = some e.val)) ∧
        ((t.cws n) = (s.cws n).filter (fun v => v.engine ≠ some e.val)) ∧ OthersKept n s t) ∧
  (∀ (s : State) (win : Fin 7) (n : Fin 4) (value : Word) (e : Fin 24),
      s.writeOpen win 3 → bit value.toNat 0 = 1 → s.rd (FEC_ENG_SEL.ENGINE n) = e.val →
      s.engineRefused n e = true →
      ∃ t, exec (.engineForce win n value 15) s = .next t ∧ s.refusedAs t win (chanAddr n 0x300020) 5 false ∧
        t.flow = s.flow) ∧
  (∀ (s : State) (n : Fin 4),
      s.phase n = Phase.lit →
      ∃ t, exec (.encoderParityMismatch n false) s = .next t ∧ t.rd (FEC_STAT.ENC_EV n) = 1 ∧ t.ch = s.ch ∧
        t.flow = s.flow ∧ FieldsKept [FEC_STAT.ENC_EV n] [] [n] s t) ∧
  (∀ (s : State) (n : Fin 4),
      s.phase n = Phase.lit → s.chSt n ≠ ChSt.fenced →
      ∃ t, exec (.encoderParityMismatch n true) s = .next t ∧ t.rd (FEC_STAT.ENC_EV n) = 1 ∧ t.chSt n = ChSt.fenced ∧
        t.rd (LDS_CH_STATE.CAUSE n) = 5 ∧ t.phase n = Phase.off ∧ t.cws n = [] ∧ (t.flow.get n).tok = [] ∧
        (t.flow.get n).crd = [] ∧ t.rd (IRQ_PEND (sourceOf n 0x20)) = 1 ∧ OthersKept n s t)

/-- O29. Of header h, the next in the data stream of a native or custom mode, h.fasErr counts the FAS bits in error and
hcs says that HCS checks (R209). (1) in HUNT at most one FAS error with HCS correct enters PRESYNC and sets the
expected FN. (2) any other there leaves HUNT, and the next codeword boundary is the candidate. (3) in PRESYNC a header
that is not good returns to HUNT. (4) the first good one there is counted. (5) the second enters SYNC with FD_EV and
source 0x40, and a receiver at step 8 of Table 6.4 is LOCKED. (6) in SYNC a good one ends the run of bad ones, adds
its parity errors and REI, shows its switching-request bytes, and, where the multiframe number agrees with the last
header's, holds multiframe lock (R210, R211). (7) fewer than five bad ones in a row stay in SYNC. (8) the fifth takes
a channel that holds lock to ACQUIRING with CAUSE 0x4 (R39). (9) in an interoperable mode the lock of the standard
framing enters SYNC. (10) and its loss takes a channel that holds lock to ACQUIRING (R227).  (09_line_framer.md,
01_architecture.md) -/
def Obligations.FrameDelineation : Prop :=
  (∀ (s : State) (n : Fin 4) (locked : Bool) (q : Profile) (h : Header),
      s.headerHere n q h → s.rd (LFR_STAT.FSTATE n) = 0 → h.fasErr ≤ 1 → h.hcs = true →
      ∃ t, exec (.frameHeaderReceived n locked) s = .next t ∧ t.rd (LFR_STAT.FSTATE n) = 1 ∧
        t.rd (LFRC.FN n) = h.fn % 4096 ∧ t.rd (LFR_STAT.RX_MODE n) = h.mode % 2 ^ (LFR_STAT.RX_MODE n).width ∧
        t.on (LFR_STAT.RX_RESIZE n) = h.resize ∧ t.ch = s.ch.set n { s.chan n with rx := (t.chan n).rx } ∧
        t.flow = s.flow ∧
        FieldsKept [LFR_STAT.FSTATE n, LFRC.FN n, LFRC.GOOD n, LFR_STAT.RX_MODE n, LFR_STAT.RX_RESIZE n] [] [n] s t) ∧
  (∀ (s : State) (n : Fin 4) (locked : Bool) (q : Profile) (h : Header),
      s.headerHere n q h → s.rd (LFR_STAT.FSTATE n) = 0 → (1 < h.fasErr ∨ h.hcs = false) →
      ∃ t, exec (.frameHeaderReceived n locked) s = .next t ∧ t.rd (LFR_STAT.FSTATE n) = 0 ∧
        (t.chan n).rx.bits = ((s.takeFrame n q).chan n).rx.bits.drop q.dataBits ∧
        t.ch = s.ch.set n { s.chan n with rx := (t.chan n).rx } ∧ t.flow = s.flow ∧ SameFields [] s t) ∧
  (∀ (s : State) (n : Fin 4) (locked : Bool) (q : Profile) (h : Header),
      s.headerHere n q h → s.rd (LFR_STAT.FSTATE n) = 1 → s.goodHere n h = false →
      ∃ t, exec (.frameHeaderReceived n locked) s = .next t ∧ t.rd (LFR_STAT.FSTATE n) = 0 ∧
        t.ch = s.ch.set n { s.chan n with rx := (t.chan n).rx } ∧ t.flow = s.flow ∧
        SameFields [LFR_STAT.FSTATE n, LFRC.FN n, LFRC.GOOD n, LFRC.BAD n] s t) ∧
  (∀ (s : State) (n : Fin 4) (locked : Bool) (q : Profile) (h : Header),
      s.headerHere n q h → s.rd (LFR_STAT.FSTATE n) = 1 → s.goodHere n h = true → s.rd (LFRC.GOOD n) = 0 →
      ∃ t, exec (.frameHeaderReceived n locked) s = .next t ∧ t.rd (LFRC.GOOD n) = 1 ∧ t.rd (LFR_STAT.FSTATE n) = 1 ∧
        t.ch = s.ch.set n { s.chan n with rx := (t.chan n).rx } ∧ t.flow = s.flow ∧
        FieldsKept [LFRC.GOOD n, LFRC.FN n, LFR_STAT.RX_MODE n, LFR_STAT.RX_RESIZE n] [] [n] s t) ∧
  (∀ (s : State) (n : Fin 4) (locked : Bool) (q : Profile) (h : Header),
      s.headerHere n q h → s.rd (LFR_STAT.FSTATE n) = 1 → s.goodHere n h = true → s.rd (LFRC.GOOD n) ≠ 0 →
      ∃ t, exec (.frameHeaderReceived n locked) s = .next t ∧ t.rd (LFR_STAT.FSTATE n) = 2 ∧
        t.rd (LFR_STAT.FD_EV n) = 1 ∧ t.rd (IRQ_PEND (sourceOf n 0x40)) = 1 ∧ t.rd (LFRC.BAD n) = 0 ∧
        (t.chSt n = (if s.chSt n = ChSt.acquiring ∧ s.rd (LDS_ACQ_STAT.STEP n) = 8 then ChSt.locked else s.chSt n)) ∧
        OthersKept n s t) ∧
  (∀ (s : State) (n : Fin 4) (locked : Bool) (q : Profile) (h : Header),
      s.headerHere n q h → s.rd (LFR_STAT.FSTATE n) = 2 → s.goodHere n h = true → s.on (LFR_CTRL.G2 n) = false →
      ∃ t, exec (.frameHeaderReceived n locked) s = .next t ∧ t.rd (LFR_STAT.FSTATE n) = 2 ∧ t.rd (LFRC.BAD n) = 0 ∧
        t.rd (LFR_CNT_BIP.COUNT n) = Nat.min (s.rd (LFR_CNT_BIP.COUNT n) + s.parityErrors n q h) (2 ^
          (LFR_CNT_BIP.COUNT n).width - 1) ∧
        t.rd (LFR_CNT_REI.COUNT n) = Nat.min (s.rd (LFR_CNT_REI.COUNT n) + h.rei) (2 ^ (LFR_CNT_REI.COUNT n).width -
          1) ∧
        t.rd (LFR_SR_RAW.SR n) = h.sr % 2 ^ 32 ∧
        ((s.on (LFRC.MFNV n) = true ∧ h.mfn % 2 ^ 32 = (s.rd (LFRC.MFN n) + (if h.fn = 0 then 1 else 0)) % 2 ^ 32) →
          t.rd (LFR_STAT.MF_LOCK n) = 1 ∧ t.rd (LFR_MFN_RX.MFN n) = h.mfn % 2 ^ 32) ∧
        t.flow = s.flow ∧ OthersKept n s t) ∧
  (∀ (s : State) (n : Fin 4) (locked : Bool) (q : Profile) (h : Header),
      s.headerHere n q h → s.rd (LFR_STAT.FSTATE n) = 2 → s.goodHere n h = false → s.rd (LFRC.BAD n) < 4 →
      ∃ t, exec (.frameHeaderReceived n locked) s = .next t ∧ t.rd (LFR_STAT.FSTATE n) = 2 ∧
        t.rd (LFRC.BAD n) = s.rd (LFRC.BAD n) + 1 ∧ t.ch = s.ch.set n { s.chan n with rx := (t.chan n).rx } ∧
        t.flow = s.flow ∧
        FieldsKept [LFRC.BAD n, LFRC.FN n, LFRC.MFNV n, LFRC.REI n, LFR_CNT_BIP.COUNT n, LFR_CNT_REI.COUNT n,
          LFR_CNT_FRM.HCS n] [] [n] s t) ∧
  (∀ (s : State) (n : Fin 4) (locked : Bool) (q : Profile) (h : Header),
      s.headerHere n q h → s.rd (LFR_STAT.FSTATE n) = 2 → s.goodHere n h = false → s.rd (LFRC.BAD n) = 4 →
      s.holdsLock n = true →
      ∃ t, exec (.frameHeaderReceived n locked) s = .next t ∧ t.chSt n = ChSt.acquiring ∧
        t.rd (LDS_CH_STATE.CAUSE n) = 4 ∧ t.rd (LFR_STAT.FSTATE n) = 0 ∧ t.rd (LFR_STAT.MF_LOCK n) = 0 ∧
        t.rd (IRQ_PEND (sourceOf n 0x20)) = 1 ∧ OthersKept n s t) ∧
  (∀ (s : State) (n : Fin 4) (q : Profile),
      s.on (FEC_STAT.CW_ALIGN n) = true → s.lineProfile n = some q → q.interop = true →
      s.rd (LFR_STAT.FSTATE n) ≠ 2 →
      ∃ t, exec (.frameHeaderReceived n true) s = .next t ∧ t.rd (LFR_STAT.FSTATE n) = 2 ∧
        t.rd (LFR_STAT.FD_EV n) = 1 ∧ t.rd (IRQ_PEND (sourceOf n 0x40)) = 1 ∧
        (t.chSt n = (if s.chSt n = ChSt.acquiring ∧ s.rd (LDS_ACQ_STAT.STEP n) = 8 then ChSt.locked else s.chSt n)) ∧
        OthersKept n s t) ∧
  (∀ (s : State) (n : Fin 4) (q : Profile),
      s.on (FEC_STAT.CW_ALIGN n) = true → s.lineProfile n = some q → q.interop = true →
      s.rd (LFR_STAT.FSTATE n) = 2 → s.holdsLock n = true →
      ∃ t, exec (.frameHeaderReceived n false) s = .next t ∧ t.chSt n = ChSt.acquiring ∧
        t.rd (LDS_CH_STATE.CAUSE n) = 4 ∧ t.rd (LFR_STAT.FSTATE n) = 0 ∧ OthersKept n s t)

/-- O30. With multiframe lock, in a native or custom mode, the record copy of each header is taken once; r is that of
  the
header at hand (R214, R215). (1) a copy whose CRC checks and whose TRIB is that of its frame joins the copies of the
multiframe. (2) one whose CRC fails is counted in LFR_CNT_TOR.CRC. (3) a received boundary with multiframe lock counts
the received MFN, and the records that a multiframe's valid copies agree on come into force; the copies begin anew.
(4) a transmit boundary of a lit channel with no framed value waiting counts MFN (R206); a commit whose vote approved
at least 10 µs before takes the table as latched, with the MFN of the next boundary (R220). (5) where besides no
entry, resize, commit, rollover, calibration or casting is at work, that is all that the fields show. (6) an admitted
GO of a table that passes every check is CHECKING, its shadow table latched, and asks for the vote. (7) one whose
entry fails a check is REFUSED with its cause and the entry (R221).  (09_line_framer.md, 03_line_modes.md) -/
def Obligations.MultiframesAndCommits : Prop :=
  (∀ (s : State) (n : Fin 4) (r : Bool × Nat × TorRec),
      s.on (LFR_STAT.MF_LOCK n) = true → s.interop n = false → (s.chan n).rx.tor = true →
      r = torOf (s.on (LFR_CTRL.G2 n)) ((headerOf (s.on (LFR_CTRL.G2 n)) (s.chan n).rx.head).2.drop 80) →
      r.1 = true → r.2.1 = s.rd (LFRC.FN n) % s.torCount n →
      ∃ t, exec (.torCopyReceived n) s = .next t ∧ (t.chan n).tor = torAdd r.2.1 r.2.2 (s.chan n).tor ∧
        (t.chan n).rx.tor = false ∧ t.ch = s.ch.set n { s.chan n with tor := (t.chan n).tor, rx := (t.chan n).rx } ∧
        t.flow = s.flow ∧ SameFields [] s t) ∧
  (∀ (s : State) (n : Fin 4) (r : Bool × Nat × TorRec),
      s.on (LFR_STAT.MF_LOCK n) = true → s.interop n = false → (s.chan n).rx.tor = true →
      r = torOf (s.on (LFR_CTRL.G2 n)) ((headerOf (s.on (LFR_CTRL.G2 n)) (s.chan n).rx.head).2.drop 80) →
      r.1 = false →
      ∃ t, exec (.torCopyReceived n) s = .next t ∧ t.rd (LFR_CNT_TOR.CRC n) = s.oneMore (LFR_CNT_TOR.CRC n) ∧
        (t.chan n).tor = (s.chan n).tor ∧ t.ch = s.ch.set n { s.chan n with rx := (t.chan n).rx } ∧ t.flow = s.flow ∧
        FieldsKept [LFR_CNT_TOR.CRC n] [] [n] s t) ∧
  (∀ (s : State) (n : Fin 4),
      s.on (LFR_STAT.MF_LOCK n) = true → s.interop n = false → s.rd (LDS_RSZ_STAT.STATE n) ≠ RszSt.resizing →
      ∃ t, exec (.rxMultiframeBoundary n) s = .next t ∧
        t.rd (LFR_MFN_RX.MFN n) = (s.rd (LFR_MFN_RX.MFN n) + 1) % 2 ^ 32 ∧ (t.chan n).recs = accepted (s.chan n).tor ∧
        (t.chan n).tor = [] ∧
        ((List.range (s.torCount n)).any (fun k => !(accepted (s.chan n).tor).any (fun e => e.1 = k)) = true → t.rd
          (LFR_STAT.TOR_EV n) = 1) ∧
        OthersKept n s t) ∧
  (∀ (s : State) (n : Fin 4) (late : Bool),
      s.phase n = Phase.lit → (s.chan n).framed = [] →
      ∃ t, exec (.txMultiframeBoundary n late) s = .next t ∧
        t.rd (LFR_MFN_TX.MFN n) = (s.rd (LFR_MFN_TX.MFN n) + 1) % 2 ^ 32 ∧
        ((s.rd (TRB_CMT_STAT.STATE n) = 3 ∧ late = false) → t.rd (TRB_CMT_STAT.STATE n) = 4 ∧ t.rd (TRB_CMT_MF.MFN n)
          = (s.rd (LFR_MFN_TX.MFN n) + 2) % 2 ^ 32) ∧
        ((s.rd (TRB_CMT_STAT.STATE n) = 3 ∧ s.on (TRBC.FRESH n) = true ∧ late = true) → t.rd (TRB_CMT_STAT.STATE n) =
          3) ∧
        (s.rd (TRB_CMT_STAT.STATE n) = 4 → t.rd (TRB_CMT_STAT.STATE n) = 5 ∧ t.rd (TRB_CMT_STAT.DONE_EV n) = 1 ∧ t.rd
          (IRQ_PEND (sourceOf n 0x50)) = 1) ∧
        (t.chan n).tx.fn = 0 ∧ (t.chan n).tx.now = (s.chan n).tx.ann) ∧
  (∀ (s : State) (n : Fin 4) (late : Bool),
      s.phase n = Phase.lit → (s.chan n).framed = [] → s.on (CSTC.RMF n) = false → s.tribs n = [] →
      s.listed (TRBC.CMNOW n 0) 4 1024 = [] → s.listed (TRBC.LEFT n 0) 4 1024 = [] →
      s.listed (TRBC.ARR n 0) 4 1024 = [] → s.listed (TRB_TRIB.CARRY n 0) 16 1024 = [] →
      s.listed (SECC.RETMF (2048 * n)) 8 2048 = [] → s.rd (LDS_RSZ_STAT.STATE n) = RszSt.idle →
      s.rd (TRB_CMT_STAT.STATE n) = 0 → s.rd (SEC_ROLL_STAT.STATE n) = 0 → s.rd CAL_RUN_STAT.STATE = 0 →
      s.cst ≠ Cst.apply →
      ∃ t, exec (.txMultiframeBoundary n late) s = .next t ∧
        t.rd (LFR_MFN_TX.MFN n) = (s.rd (LFR_MFN_TX.MFN n) + 1) % 2 ^ 32 ∧
        t.ch = s.ch.set n { s.chan n with tx := (t.chan n).tx } ∧ t.flow = s.flow ∧
        SameFields [LFR_MFN_TX.MFN n, LDS_TX_STAT.PEND n, TRBC.FRESH n] s t) ∧
  (∀ (s : State) (win : Fin 7) (n : Fin 4) (value : Word),
      s.writeOpen win 2 → bit value.toNat 31 = 1 → s.cmtRefusal n = 0 →
      (((s.active n).bind (fun q => s.tableFault n q [] (s.shadowTable n))) = none) →
      ∃ t, exec (.tributaryCommitGo win n value 15) s = .next t ∧ t.rd (TRB_CMT_STAT.STATE n) = 2 ∧
        t.rd (TRB_CMT_STAT.CAUSE n) = 0 ∧ (t.votes = s.votes ++ [.tribCommit n]) ∧
        t.ch = s.ch.set n { s.chan n with latched := s.shadowTable n } ∧ t.flow = s.flow ∧
        SameFields [TRB_CMT_STAT.STATE n, TRB_CMT_STAT.CAUSE n] s t) ∧
  (∀ (s : State) (win : Fin 7) (n : Fin 4) (value : Word) (e k : Nat),
      s.writeOpen win 2 → bit value.toNat 31 = 1 → s.cmtRefusal n = 0 →
      (((s.active n).bind (fun q => s.tableFault n q [] (s.shadowTable n))) = some (e, k)) →
      ∃ t, exec (.tributaryCommitGo win n value 15) s = .next t ∧ t.rd (TRB_CMT_STAT.STATE n) = 6 ∧
        t.rd (TRB_CMT_STAT.CAUSE n) = k % 16 ∧ t.rd (TRB_CMT_STAT.ENTRY n) = e % 1024 ∧
        t.rd (TRB_CMT_STAT.FAIL_EV n) = 1 ∧ t.rd (IRQ_PEND (sourceOf n 0x51)) = 1 ∧
        t.ch = s.ch.set n { s.chan n with latched := s.shadowTable n } ∧ t.flow = s.flow ∧
        FieldsKept [TRB_CMT_STAT.STATE n, TRB_CMT_STAT.CAUSE n, TRB_CMT_STAT.ENTRY n, TRB_CMT_STAT.FAIL_EV n]
          [sourceOf n 0x51] [n] s t)

/-- O31. The device answers. Besides its own fields a lane's change reaches RX_UP and the clients of the channel (R239,
R252): their states, with source 0x61 and their credits where one enters REPLACE, and the tokens of one that is no
more. (1) a lane that declares LOS shows and counts it, with its event bits and source 0x60, and declares LOL with it
(R240, Table 10.3). (2) LOS clears with LOL as it was. (3) a lane that declares LOL likewise. (4) LOL clears once LOS
has. (5) and not before. (6) the port whose first lane is q aligns when no lane of it is lost or fenced and each skew
is at most 200 ns, and reports each lane's (R242). (7) a port that loses alignment clears AM_LOCK on all its lanes.
(8) a client in REPLACE goes UP once no condition of R239 holds. (9) corrected symbols, uncorrectable codewords and
forwarded error blocks of an aligned port are counted, and saturate (R243). (10) the host PLL out of lock shows and
counts LOL, with REFLOSS where its reference is lost, and source 0x64; here no earlier loss is within 1 s (R250). (11)
its lock clears them.  (10_host_ports.md) -/
def Obligations.HostLanesReportAndAlign : Prop :=
  (∀ (s : State) (n : Fin 4) (l : Fin 16),
      s.answers = true → s.on (HST_LSTAT_L.LOS n l) = false →
      ∃ t, exec (.hostLaneLosDeclare n l) s = .next t ∧ t.rd (HST_LSTAT_L.LOS n l) = 1 ∧
        t.rd (HST_LSTAT_L.LOS_EV n l) = 1 ∧ t.rd (HST_LCNT_L.LOS n l) = s.oneMore (HST_LCNT_L.LOS n l) ∧
        t.rd (HST_LSTAT_L.LOL n l) = 1 ∧
        (s.on (HST_LSTAT_L.LOL n l) = false → t.rd (HST_LSTAT_L.LOL_EV n l) = 1 ∧ t.rd (HST_LCNT_L.LOL n l) =
          s.oneMore (HST_LCNT_L.LOL n l)) ∧
        t.rd (HST_STAT.LANE_EV n) = 1 ∧ t.rd (IRQ_PEND (sourceOf n 0x60)) = 1 ∧
        t.rdBit (HST_LANES.RX_UP n) l = false ∧ t.ch = s.ch.set n { s.chan n with egress := (t.chan n).egress } ∧
        (t.flow.get n).tok = (s.flow.get n).tok ∧ OthersKept n s t ∧
        (FieldsKept ([HST_LSTAT_L.LOS n l, HST_LSTAT_L.LOS_EV n l, HST_LCNT_L.LOS n l, HST_LSTAT_L.LOL n l,
          HST_LSTAT_L.LOL_EV n l, HST_LCNT_L.LOL n l, HST_STAT.LANE_EV n, HST_LANES.RX_UP n] ++ clientFields n)
          [sourceOf n 0x60, sourceOf n 0x61] [n, 4] s t)) ∧
  (∀ (s : State) (n : Fin 4) (l : Fin 16),
      s.answers = true →
      ∃ t, exec (.hostLaneLosClear n l) s = .next t ∧ t.rd (HST_LSTAT_L.LOS n l) = 0 ∧
        t.rd (HST_LSTAT_L.LOL n l) = s.rd (HST_LSTAT_L.LOL n l) ∧
        t.ch = s.ch.set n { s.chan n with egress := (t.chan n).egress } ∧ (t.flow.get n).tok = (s.flow.get n).tok ∧
        OthersKept n s t ∧
        (FieldsKept ([HST_LSTAT_L.LOS n l, HST_LANES.RX_UP n] ++ clientFields n) [sourceOf n 0x61] [n, 4] s t)) ∧
  (∀ (s : State) (n : Fin 4) (l : Fin 16),
      s.answers = true → s.on (HST_LSTAT_L.LOL n l) = false →
      ∃ t, exec (.hostLaneLolDeclare n l) s = .next t ∧ t.rd (HST_LSTAT_L.LOL n l) = 1 ∧
        t.rd (HST_LSTAT_L.LOL_EV n l) = 1 ∧ t.rd (HST_LCNT_L.LOL n l) = s.oneMore (HST_LCNT_L.LOL n l) ∧
        t.rd (HST_STAT.LANE_EV n) = 1 ∧ t.rd (IRQ_PEND (sourceOf n 0x60)) = 1 ∧
        t.rdBit (HST_LANES.RX_UP n) l = false ∧ t.ch = s.ch.set n { s.chan n with egress := (t.chan n).egress } ∧
        (t.flow.get n).tok = (s.flow.get n).tok ∧ OthersKept n s t ∧
        (FieldsKept ([HST_LSTAT_L.LOL n l, HST_LSTAT_L.LOL_EV n l, HST_LCNT_L.LOL n l, HST_STAT.LANE_EV n,
          HST_LANES.RX_UP n] ++ clientFields n) [sourceOf n 0x60, sourceOf n 0x61] [n, 4] s t)) ∧
  (∀ (s : State) (n : Fin 4) (l : Fin 16),
      s.answers = true → s.on (HST_LSTAT_L.LOS n l) = false →
      ∃ t, exec (.hostLaneLolClear n l) s = .next t ∧ t.rd (HST_LSTAT_L.LOL n l) = 0 ∧
        t.rdBit (HST_LANES.RX_UP n) l = s.on (HST_LSTAT_L.AM_LOCK n l) ∧
        t.ch = s.ch.set n { s.chan n with egress := (t.chan n).egress } ∧ (t.flow.get n).tok = (s.flow.get n).tok ∧
        OthersKept n s t ∧
        (FieldsKept ([HST_LSTAT_L.LOL n l, HST_LANES.RX_UP n] ++ clientFields n) [sourceOf n 0x61] [n, 4] s t)) ∧
  (∀ (s : State) (n : Fin 4) (l : Fin 16),
      s.answers = true → s.on (HST_LSTAT_L.LOS n l) = true →
      ∃ t, exec (.hostLaneLolClear n l) s = .next t ∧ t = s) ∧
  (∀ (s : State) (n : Fin 4) (q : Fin 16) (skew : List Nat),
      s.answers = true → s.portLanes n q ≠ [] → s.portOf n q = q → skew.all (· ≤ 200) = true →
      ((s.portLanes n q).all (fun l => !s.on (HST_LSTAT_L.LOS n l) && !s.on (HST_LSTAT_L.LOL n l) && !s.on
        (HST_LSTAT_L.FENCED n l)) = true) →
      ∃ t, exec (.hostAlignmentLock n q skew) s = .next t ∧
        (∀ l ∈ s.portLanes n q, t.rd (HST_LSTAT_L.AM_LOCK n l) = 1 ∧ t.rd (HST_LSTAT_L.SKEW n l) = skew.getD (l -
          q.val) 0 % 256) ∧
        t.ch = s.ch.set n { s.chan n with egress := (t.chan n).egress } ∧ (t.flow.get n).tok = (s.flow.get n).tok ∧
        OthersKept n s t ∧
        (FieldsKept ((s.portLanes n q).flatMap (fun l => [HST_LSTAT_L.AM_LOCK n l, HST_LSTAT_L.SKEW n l]) ++
          HST_LANES.RX_UP n :: clientFields n) [sourceOf n 0x61] [n, 4] s t)) ∧
  (∀ (s : State) (n : Fin 4) (q : Fin 16),
      s.answers = true →
      ∃ t, exec (.hostAlignmentLoss n q) s = .next t ∧
        (∀ l ∈ s.portLanes n (s.portOf n q), t.rd (HST_LSTAT_L.AM_LOCK n l) = 0) ∧
        t.ch = s.ch.set n { s.chan n with egress := (t.chan n).egress } ∧ (t.flow.get n).tok = (s.flow.get n).tok ∧
        OthersKept n s t ∧
        (FieldsKept ((s.portLanes n (s.portOf n q)).map (fun l => HST_LSTAT_L.AM_LOCK n l) ++ HST_LANES.RX_UP n ::
          clientFields n) [sourceOf n 0x61] [n, 4] s t)) ∧
  (∀ (s : State) (n : Fin 4) (c : Fin 256),
      s.answers = true → s.rd (HST_CLI.IN n c) = 2 → s.defined n c = true → s.mustReplace n c = false →
      ∃ t, exec (.clientReplaceEnd n c) s = .next t ∧ t.rd (HST_CLI.IN n c) = 1 ∧ t.ch = s.ch ∧ t.flow = s.flow ∧
        SameFields [HST_CLI.IN n c, HST_CLI.OUT n c, HST_CLI.MAPPED n c, HST_CLI.CREDITED n c] s t) ∧
  (∀ (s : State) (n : Fin 4) (q : Fin 16) (corrected : Nat) (uncorr : Bool) (errs : List (Fin 256 × Nat)),
      s.answers = true → s.portOf n q = q → s.rd (HST_LANE_L.TYPE n q) ≠ 0 →
      s.on (HST_LSTAT_L.AM_LOCK n q) = true →
      ∃ t, exec (.hostFecCodeword n q corrected uncorr errs) s = .next t ∧
        t.rd (HST_FEC_CORR_P.COUNT n q) = Nat.min (s.rd (HST_FEC_CORR_P.COUNT n q) + corrected) (2 ^ 32 - 1) ∧
        (t.rd (HST_FEC_UNC_P.COUNT n q) = if uncorr then s.oneMore (HST_FEC_UNC_P.COUNT n q) else s.rd
          (HST_FEC_UNC_P.COUNT n q)) ∧
        (∀ e ∈ errs.head?.toList, errs.tail = [] → t.rd (HST_CLI.ERRBLK n e.1) = Nat.min (s.rd (HST_CLI.ERRBLK n e.1)
          + e.2) (2 ^ (HST_CLI.ERRBLK n e.1).width - 1)) ∧
        t.ch = s.ch ∧ t.flow = s.flow ∧
        (FieldsKept ([HST_FEC_CORR_P.COUNT n q, HST_FEC_UNC_P.COUNT n q] ++ errs.map (fun e => HST_CLI.ERRBLK n e.1))
          [] [n] s t)) ∧
  (∀ (s : State) (n : Fin 4) (ref : Bool),
      s.answers = true → s.on (HST_STAT.LOL n) = false →
      (s.rd (HSTC.LOL_PREV n) = 0 ∨ s.rd (HSTC.LOL_PREV n) + 1000000000 < s.time + 1) →
      ∃ t, exec (.hostPllLossOfLock n ref) s = .next t ∧ t.rd (HST_STAT.LOL n) = 1 ∧ t.rd (HST_PLL_STAT.LOCK n) = 0 ∧
        t.rd (HST_PLL_STAT.LOL_CNT n) = s.oneMore (HST_PLL_STAT.LOL_CNT n) ∧
        (t.rd (HST_STAT.REFLOSS n) = if ref then 1 else s.rd (HST_STAT.REFLOSS n)) ∧
        t.rd (IRQ_PEND (sourceOf n 0x64)) = 1 ∧ t.ch = s.ch.set n { s.chan n with egress := (t.chan n).egress } ∧
        (t.flow.get n).tok = (s.flow.get n).tok ∧ OthersKept n s t ∧
        (FieldsKept ([HST_STAT.LOL n, HST_PLL_STAT.LOCK n, HST_PLL_STAT.LOL_CNT n, HST_STAT.REFLOSS n, HSTC.LOL_PREV
          n, HSTC.LOL_LAST n] ++ clientFields n) [sourceOf n 0x64, sourceOf n 0x61] [n, 4] s t)) ∧
  (∀ (s : State) (n : Fin 4),
      s.answers = true →
      ∃ t, exec (.hostPllLock n) s = .next t ∧ t.rd (HST_STAT.LOL n) = 0 ∧ t.rd (HST_PLL_STAT.LOCK n) = 1 ∧
        t.rd (HST_STAT.REFLOSS n) = 0 ∧ t.ch = s.ch.set n { s.chan n with egress := (t.chan n).egress } ∧
        (t.flow.get n).tok = (s.flow.get n).tok ∧ OthersKept n s t ∧
        (FieldsKept ([HST_STAT.LOL n, HST_PLL_STAT.LOCK n, HST_STAT.REFLOSS n] ++ clientFields n) [sourceOf n 0x61]
          [n, 4] s t))

/-- O32. g is a FlexE group, c the client of tributary b. (1) overhead with the member's own PHY number locks on an
aligned lane; another group number sets GNUM_MISMATCH (R234). (2) without it OH_LOCK clears. (3) an admitted switch
request of an ACTIVE group at rest goes out in the overhead and waits (R247). (4) acknowledged, it waits for the
boundary. (5) which switches the transmit calendar with SW_EV and source 0x62. (6) 100 ms without acknowledgement
leave it, with CA_TIMEOUT. (7) a host's request for a calendar whose every slot names a defined client of the group is
acknowledged. (8) of any other withheld with CAL_BAD. (9) its switch is followed. (10) 1 µs of empty FIFO turns a
client of DATA to LF (R244). (11) one that empties inside a packet counts UNDER and loses no token (R246). (12) a good
token of a client whose lanes are down is dropped into the lane count. (13) one with no such fault and room in the
FIFO queues with its payload. (14) a full FIFO drops one, with OVF_EV. (15) an admitted write of a calendar entry that
leaves the slot of B free, with A alone in use, is taken in B.  (10_host_ports.md) -/
def Obligations.FlexeCalendarsAndEgress : Prop :=
  (∀ (s : State) (n : Fin 4) (l : Fin 16) (phy gnum : Nat),
      s.answers = true → (s.members n (s.rd (HST_LANE_L.GROUP n l))).contains l.val = true →
      s.on (HST_LSTAT_L.AM_LOCK n l) = true → 0 < phy →
      (s.members n (s.rd (HST_LANE_L.GROUP n l)))[phy - 1]? = some l.val →
      ∃ t, exec (.flexeOverheadLock n l true phy gnum) s = .next t ∧
        t.rdBit (HST_FLX_STAT_G.OH_LOCK n (s.rd (HST_LANE_L.GROUP n l))) l = true ∧
        (gnum ≠ s.rd (HST_FLX_CFG_G.GNUM n (s.rd (HST_LANE_L.GROUP n l))) → t.rd (HST_FLX_STAT_G.GNUM_MISMATCH n (s.rd
          (HST_LANE_L.GROUP n l))) = 1) ∧
        t.ch = s.ch.set n { s.chan n with egress := (t.chan n).egress } ∧ (t.flow.get n).tok = (s.flow.get n).tok ∧
        OthersKept n s t ∧
        (FieldsKept ([HST_FLX_STAT_G.OH_LOCK n (s.rd (HST_LANE_L.GROUP n l)), HST_FLX_STAT_G.GNUM_MISMATCH n (s.rd
          (HST_LANE_L.GROUP n l)), HSTC.GNBAD n l] ++ clientFields n) [sourceOf n 0x61] [n, 4] s t)) ∧
  (∀ (s : State) (n : Fin 4) (l : Fin 16) (lock : Bool) (phy gnum : Nat),
      s.answers = true → (s.members n (s.rd (HST_LANE_L.GROUP n l))).contains l.val = true →
      (lock = false ∨ s.on (HST_LSTAT_L.AM_LOCK n l) = false ∨ (s.members n (s.rd (HST_LANE_L.GROUP n l)))[phy - 1]? ≠
        some l.val) →
      ∃ t, exec (.flexeOverheadLock n l lock phy gnum) s = .next t ∧
        t.rdBit (HST_FLX_STAT_G.OH_LOCK n (s.rd (HST_LANE_L.GROUP n l))) l = false ∧
        t.ch = s.ch.set n { s.chan n with egress := (t.chan n).egress } ∧ (t.flow.get n).tok = (s.flow.get n).tok ∧
        OthersKept n s t ∧
        (FieldsKept ([HST_FLX_STAT_G.OH_LOCK n (s.rd (HST_LANE_L.GROUP n l)), HST_FLX_STAT_G.GNUM_MISMATCH n (s.rd
          (HST_LANE_L.GROUP n l)), HSTC.GNBAD n l] ++ clientFields n) [sourceOf n 0x61] [n, 4] s t)) ∧
  (∀ (s : State) (win : Fin 7) (n : Fin 4) (value : Word) (g : Fin 8),
      s.writeOpen win 2 → (HST_FLX_CMD.SWITCH n).of value.toNat = 1 →
      (HST_FLX_CMD.GROUP n).of value.toNat = g.val → s.rd (HST_FLX_STAT_G.SW_STATE n g) = 0 →
      s.on (HST_FLX_STAT_G.ACTIVE n g) = true →
      ∃ t, exec (.flexeCalendarSwitchRequest win n value 15) s = .next t ∧ t.rd (HST_FLX_STAT_G.SW_STATE n g) = 1 ∧
        (t.out = .calendarRequest n g (1 - s.rd (HST_FLX_STAT_G.TX_CAL n g)) :: s.out) ∧ t.ch = s.ch ∧
        t.flow = s.flow ∧ SameFields [HST_FLX_STAT_G.SW_STATE n g, HST_FLX_CMD.SWITCH n, HST_FLX_CMD.GROUP n] s t) ∧
  (∀ (s : State) (n : Fin 4) (g : Fin 8),
      s.rd (HST_FLX_STAT_G.SW_STATE n g) = 1 →
      ∃ t, exec (.flexeCalendarAck n g) s = .next t ∧ t.rd (HST_FLX_STAT_G.SW_STATE n g) = 2 ∧ t.ch = s.ch ∧
        t.flow = s.flow ∧ SameFields [HST_FLX_STAT_G.SW_STATE n g] s t) ∧
  (∀ (s : State) (n : Fin 4) (g : Fin 8),
      s.rd (HST_FLX_STAT_G.SW_STATE n g) = 2 →
      ∃ t, exec (.flexeCalendarSwitch n g) s = .next t ∧ t.rd (HST_FLX_STAT_G.SW_STATE n g) = 0 ∧
        t.rd (HST_FLX_STAT_G.TX_CAL n g) = 1 - s.rd (HST_FLX_STAT_G.TX_CAL n g) ∧
        t.rd (HST_FLX_STAT_G.SW_EV n g) = 1 ∧ t.rd (HST_STAT.FLX_EV n) = 1 ∧ t.rd (IRQ_PEND (sourceOf n 0x62)) = 1 ∧
        t.ch = s.ch.set n { s.chan n with egress := (t.chan n).egress } ∧ (t.flow.get n).tok = (s.flow.get n).tok ∧
        OthersKept n s t ∧
        (FieldsKept ([HST_FLX_STAT_G.SW_STATE n g, HST_FLX_STAT_G.TX_CAL n g, HST_FLX_STAT_G.SW_EV n g,
          HST_STAT.FLX_EV n] ++ clientFields n) [sourceOf n 0x62, sourceOf n 0x61] [n, 4] s t)) ∧
  (∀ (s : State) (n : Fin 4) (g : Fin 8),
      s.rd (HST_FLX_STAT_G.SW_STATE n g) = 1 →
      ∃ t, exec (.flexeCalendarTimeout n g) s = .next t ∧ t.rd (HST_FLX_STAT_G.SW_STATE n g) = 0 ∧
        t.rd (HST_FLX_STAT_G.TX_CAL n g) = s.rd (HST_FLX_STAT_G.TX_CAL n g) ∧
        t.rd (HST_FLX_STAT_G.CA_TIMEOUT n g) = 1 ∧ t.rd (HST_STAT.FLX_EV n) = 1 ∧ t.ch = s.ch ∧ t.flow = s.flow ∧
        SameFields [HST_FLX_STAT_G.SW_STATE n g, HST_FLX_STAT_G.CA_TIMEOUT n g, HST_STAT.FLX_EV n] s t) ∧
  (∀ (s : State) (n : Fin 4) (g : Fin 8) (b : Fin 2),
      s.answers = true → s.on (HST_FLX_STAT_G.ACTIVE n g) = true → s.calGood n g b = true →
      ∃ t, exec (.flexeHostCalendarRequest n g b) s = .next t ∧ t.rd (HST_FLX_STAT_G.CAL_BAD n g) = 0 ∧
        (t.out = .calendarAck n g :: s.out) ∧ t.ch = s.ch ∧ t.flow = s.flow ∧
        SameFields [HST_FLX_STAT_G.CAL_BAD n g] s t) ∧
  (∀ (s : State) (n : Fin 4) (g : Fin 8) (b : Fin 2),
      s.answers = true → s.on (HST_FLX_STAT_G.ACTIVE n g) = true → s.calGood n g b = false →
      ∃ t, exec (.flexeHostCalendarRequest n g b) s = .next t ∧ t.rd (HST_FLX_STAT_G.CAL_BAD n g) = 1 ∧
        t.rd (HST_STAT.FLX_EV n) = 1 ∧ t.out = s.out ∧ t.ch = s.ch ∧ t.flow = s.flow ∧
        SameFields [HST_FLX_STAT_G.CAL_BAD n g, HST_STAT.FLX_EV n] s t) ∧
  (∀ (s : State) (n : Fin 4) (g : Fin 8),
      s.answers = true → s.on (HST_FLX_STAT_G.ACTIVE n g) = true →
      ∃ t, exec (.flexeIngressCalendarSwitch n g) s = .next t ∧
        t.rd (HST_FLX_STAT_G.RX_CAL n g) = 1 - s.rd (HST_FLX_STAT_G.RX_CAL n g) ∧
        t.rd (HST_FLX_STAT_G.SW_EV n g) = 1 ∧ t.rd (IRQ_PEND (sourceOf n 0x62)) = 1 ∧
        t.ch = s.ch.set n { s.chan n with egress := (t.chan n).egress } ∧ (t.flow.get n).tok = (s.flow.get n).tok ∧
        OthersKept n s t ∧
        (FieldsKept ([HST_FLX_STAT_G.RX_CAL n g, HST_FLX_STAT_G.SW_EV n g, HST_STAT.FLX_EV n] ++ clientFields n)
          [sourceOf n 0x62, sourceOf n 0x61] [n, 4] s t)) ∧
  (∀ (s : State) (n : Fin 4) (c : Fin 256),
      s.rd (HST_CLI.OUT n c) = 1 →
      ∃ t, exec (.egressFifoEmptyTimeout n c) s = .next t ∧ t.rd (HST_CLI.OUT n c) = 2 ∧ t.rd (HSTC.FIFO n c) = 0 ∧
        t.ch = s.ch.set n { s.chan n with egress := (t.chan n).egress } ∧ t.flow = s.flow ∧
        SameFields [HST_CLI.OUT n c, HSTC.FIFO n c] s t) ∧
  (∀ (s : State) (n : Fin 4) (c : Fin 256),
      s.rd (HST_CLI.OUT n c) = 1 →
      ∃ t, exec (.egressFifoEmptyInPacket n c) s = .next t ∧ t.rd (HST_CLI.OUT n c) = 1 ∧
        t.rd (HST_CLI.UNDER n c) = s.oneMore (HST_CLI.UNDER n c) ∧ t.rd (HST_STAT.UNDER_EV n) = 1 ∧
        t.ch = s.ch.set n { s.chan n with egress := (t.chan n).egress } ∧ t.flow = s.flow ∧
        SameFields [HSTC.FIFO n c, HST_CLI.UNDER n c, HST_STAT.UNDER_EV n] s t) ∧
  (∀ (s : State) (n : Fin 4) (b : Fin 1024) (sent ins del : Nat) (ppm : Int) (tk : Token),
      ((s.flow.get n).tok.find? (fun k => k.stage = .rxTrb && k.trib = b.val) = some tk) → tk.poison = false →
      (s.laneDown n (s.rd (TRB_TRIB.CLIENT n b)) = true ∨ s.on (HST_STAT.LOL n) = true ∨ s.defined n (s.rd
        (TRB_TRIB.CLIENT n b)) = false) →
      ∃ t, exec (.egressTokenArrival n b sent ins del ppm) s = .next t ∧
        (t.flow.get n).led = { (s.flow.get n).led with rxLane := (s.flow.get n).led.rxLane + 1 } ∧
        (t.flow.get n).rxRes + 1 = (s.flow.get n).rxRes ∧ OthersKept n s t ∧
        FieldsKept [HSTC.FIFO n (s.rd (TRB_TRIB.CLIENT n b)), HST_CLI.PPM n (s.rd (TRB_TRIB.CLIENT n b))] [] [n] s t) ∧
  (∀ (s : State) (n : Fin 4) (b : Fin 1024) (sent ins del : Nat) (ppm : Int) (tk : Token),
      ((s.flow.get n).tok.find? (fun k => k.stage = .rxTrb && k.trib = b.val) = some tk) → tk.poison = false →
      s.laneDown n (s.rd (TRB_TRIB.CLIENT n b)) = false → s.on (HST_STAT.LOL n) = false →
      s.defined n (s.rd (TRB_TRIB.CLIENT n b)) = true → s.rd (HST_CLI.OUT n (s.rd (TRB_TRIB.CLIENT n b))) ≠ 1 →
      s.rd (HSTC.FIFO n (s.rd (TRB_TRIB.CLIENT n b))) < 64 →
      ∃ t, exec (.egressTokenArrival n b sent ins del ppm) s = .next t ∧
        (t.flow.get n).led = { (s.flow.get n).led with rxOut := (s.flow.get n).led.rxOut + 1 } ∧
        (t.flow.get n).rxRes + 1 = (s.flow.get n).rxRes ∧
        t.rd (HSTC.FIFO n (s.rd (TRB_TRIB.CLIENT n b))) = s.rd (HSTC.FIFO n (s.rd (TRB_TRIB.CLIENT n b))) + 1 ∧
        (t.ch = s.ch.set n { s.chan n with egress := (s.chan n).egress ++ [((s.rd (TRB_TRIB.CLIENT n b)), tk.uncorr,
          tk.data)] }) ∧
        OthersKept n s t ∧
        FieldsKept [HSTC.FIFO n (s.rd (TRB_TRIB.CLIENT n b)), HST_CLI.OUT n (s.rd (TRB_TRIB.CLIENT n b)), HST_CLI.PPM
          n (s.rd (TRB_TRIB.CLIENT n b))] [] [n] s t) ∧
  (∀ (s : State) (n : Fin 4) (b : Fin 1024) (sent ins del : Nat) (ppm : Int) (tk : Token),
      ((s.flow.get n).tok.find? (fun k => k.stage = .rxTrb && k.trib = b.val) = some tk) → tk.poison = false →
      s.laneDown n (s.rd (TRB_TRIB.CLIENT n b)) = false → s.on (HST_STAT.LOL n) = false →
      s.defined n (s.rd (TRB_TRIB.CLIENT n b)) = true → s.rd (HST_CLI.OUT n (s.rd (TRB_TRIB.CLIENT n b))) ≠ 1 →
      s.rd (HSTC.FIFO n (s.rd (TRB_TRIB.CLIENT n b))) = 64 →
      ∃ t, exec (.egressTokenArrival n b sent ins del ppm) s = .next t ∧
        (t.flow.get n).led = { (s.flow.get n).led with rxOvf := (s.flow.get n).led.rxOvf + 1 } ∧
        t.rd (HST_CLI.OVF n (s.rd (TRB_TRIB.CLIENT n b))) = s.oneMore (HST_CLI.OVF n (s.rd (TRB_TRIB.CLIENT n b))) ∧
        t.rd (HST_STAT.OVF_EV n) = 1 ∧ t.ch = s.ch ∧ OthersKept n s t ∧
        FieldsKept [HST_CLI.OVF n (s.rd (TRB_TRIB.CLIENT n b)), HST_STAT.OVF_EV n, HST_CLI.PPM n (s.rd
          (TRB_TRIB.CLIENT n b))] [] [n] s t) ∧
  (∀ (s : State) (win : Fin 7) (n : Fin 4) (g : Fin 8) (k : Fin 640) (value : Word),
      s.writeOpen win 2 → s.calInUse n g 0 = true → s.calInUse n g 1 = false →
      (HST_CAL.B_VALID n g k).of value.toNat = 0 →
      ∃ t, exec (.calendarEntryWrite win n g k value 15) s = .next t ∧ t.rd (HST_CAL.B_VALID n g k) = 0 ∧
        t.rd (HST_CAL.B_CLIENT n g k) = (HST_CAL.B_CLIENT n g k).of value.toNat ∧
        t.rd (HST_CAL.A_VALID n g k) = s.rd (HST_CAL.A_VALID n g k) ∧
        t.rd (HST_CAL.A_CLIENT n g k) = s.rd (HST_CAL.A_CLIENT n g k) ∧
        t.ch = s.ch.set n { s.chan n with egress := (t.chan n).egress } ∧ OthersKept n s t)

/-- O33. No resize runs, and the channel has capability left: its state then stays as it is, its ledger interval is
  marked
with the fence, and the other channels are untouched (R33, R57). A fence of a lane shows FENCED with its detector,
FENCE_EV and source 0x63. (1) a transmitter fault fences a lane with detector 2. (2) a receiver fault with detector 3.
(3) an admitted forced fence at admin level with detector 4. (4) 10 ms out of lock fault the host PLL, which fences
every lane with detector 5 (R250).  (10_host_ports.md, 01_architecture.md) -/
def Obligations.HostLaneFences : Prop :=
  (∀ (s : State) (n : Fin 4) (l : Fin 16),
      s.answers = true → s.maxModeOf n ≠ 0 → s.rszRunning n = false → s.on (HST_LSTAT_L.FENCED n l) = false →
      ∃ t, exec (.hostLaneTransmitterFault n l) s = .next t ∧ t.rd (HST_LSTAT_L.FENCED n l) = 1 ∧
        t.rd (HST_LSTAT_L.CAUSE n l) = 2 ∧ t.rdBit (HST_LANES.FENCED n) l = true ∧ t.rd (HST_STAT.FENCE_EV n) = 1 ∧
        t.rd (IRQ_PEND (sourceOf n 0x63)) = 1 ∧ t.rdBit (FABC.COND n) 2 = true ∧ t.chSt n = s.chSt n ∧
        (t.flow.get n).tok = (s.flow.get n).tok ∧ OthersKept n s t) ∧
  (∀ (s : State) (n : Fin 4) (l : Fin 16),
      s.answers = true → s.maxModeOf n ≠ 0 → s.rszRunning n = false → s.on (HST_LSTAT_L.FENCED n l) = false →
      ∃ t, exec (.hostLaneReceiverFault n l) s = .next t ∧ t.rd (HST_LSTAT_L.FENCED n l) = 1 ∧
        t.rd (HST_LSTAT_L.CAUSE n l) = 3 ∧ t.rdBit (HST_LANES.FENCED n) l = true ∧ t.rd (HST_STAT.FENCE_EV n) = 1 ∧
        t.rd (IRQ_PEND (sourceOf n 0x63)) = 1 ∧ t.rdBit (FABC.COND n) 2 = true ∧ t.chSt n = s.chSt n ∧
        (t.flow.get n).tok = (s.flow.get n).tok ∧ OthersKept n s t) ∧
  (∀ (s : State) (win : Fin 7) (n : Fin 4) (value : Word) (l : Fin 16),
      s.writeOpen win 3 → s.maxModeOf n ≠ 0 → s.rszRunning n = false → (HST_LANE_CMD.FORCE n).of value.toNat = 1 →
      (HST_LANE_CMD.LANE n).of value.toNat = l.val → s.on (HST_LSTAT_L.FENCED n l) = false →
      ∃ t, exec (.laneForce win n value 15) s = .next t ∧ t.rd (HST_LSTAT_L.FENCED n l) = 1 ∧
        t.rd (HST_LSTAT_L.CAUSE n l) = 4 ∧ t.rdBit (HST_LANES.FENCED n) l = true ∧ t.rd (HST_STAT.FENCE_EV n) = 1 ∧
        t.rd (IRQ_PEND (sourceOf n 0x63)) = 1 ∧ t.rdBit (FABC.COND n) 2 = true ∧ t.chSt n = s.chSt n ∧
        (t.flow.get n).tok = (s.flow.get n).tok ∧ OthersKept n s t) ∧
  (∀ (s : State) (n : Fin 4),
      s.answers = true → s.maxModeOf n ≠ 0 → s.rszRunning n = false → s.on (HST_STAT.LOL n) = true →
      s.on (HST_PLL_STAT.FAULT n) = false →
      ∃ t, exec (.hostPllFault n) s = .next t ∧ t.rd (HST_PLL_STAT.FAULT n) = 1 ∧
        (∀ l : Fin 16, t.rd (HST_LSTAT_L.FENCED n l) = 1 ∧ (s.on (HST_LSTAT_L.FENCED n l) = false → t.rd
          (HST_LSTAT_L.CAUSE n l) = 5 ∧ t.rd (HST_STAT.FENCE_EV n) = 1 ∧ t.rd (IRQ_PEND (sourceOf n 0x63)) = 1)) ∧
        t.chSt n = s.chSt n ∧ (t.flow.get n).tok = (s.flow.get n).tok ∧ OthersKept n s t)

/-- O34. Message boundaries are those of a channel whose PHASE is LIT in a native or custom mode. (1) the message in
progress goes out whole, with the next sequence number, TX_CODE and the REP it began with, and is counted; then REP
takes effect (R257, R262, R263). (2) the end of a HOST message clears HTX_BUSY (R271). (3) where none is in progress
and the ISC inserts, seven messages since the last HEARTBEAT start one (R263). (4) else the first of the waiting
messages of the best rank starts. (5) and with none waiting a HEARTBEAT, or as the fourth time a TELEMETRY where
TEL_EN is set (Table 11.4). (6) in SEARCH, chip lock on RX_CODE, or on any code with RX_ANY, reports code, offset and
quality (R259). (7) its loss is counted, clears them and searches again (R258). (8) an admitted SEND with HTX_BUSY
clear queues the HOST message that ISC_HTX holds and sets it. (9) while it is set the write is refused as busy. (10) a
read of ISC_HRX3 gives its word and clears HRX_FULL.  (11_supervisory_channel.md) -/
def Obligations.SupervisoryChannelTransmits : Prop :=
  (∀ (s : State) (n : Fin 4) (m : Msg),
      s.phase n = Phase.lit → s.interop n = false → (s.chan n).sending = some m →
      ∃ t, exec (.iscMessageBoundary n) s = .next t ∧
        (t.out = .message n (s.rd (ISCC.SEQ n)) m (s.rd (ISC_CFG.TX_CODE n)) (s.rd (ISCC.REP n)) :: s.out) ∧
        t.rd (ISCC.SEQ n) = (s.rd (ISCC.SEQ n) + 1) % 256 ∧ t.rd (ISC_CNT_TX.SENT n) = s.oneMore (ISC_CNT_TX.SENT n) ∧
        t.rd (ISCC.REP n) = s.rd (ISC_CTRL.REP n) ∧ t.flow = s.flow ∧ OthersKept n s t) ∧
  (∀ (s : State) (n : Fin 4) (w0 w1 w2 w3 : Nat),
      s.phase n = Phase.lit → s.interop n = false → (s.chan n).sending = some (.host w0 w1 w2 w3) →
      ∃ t, exec (.iscMessageBoundary n) s = .next t ∧ t.rd (ISC_HSTAT.HTX_BUSY n) = 0 ∧
        t.ch = s.ch.set n { s.chan n with sending := (t.chan n).sending, msgs := (t.chan n).msgs, tx := (t.chan n).tx
          } ∧
        FieldsKept [ISCC.SEQ n, ISC_CNT_TX.SENT n, ISC_HSTAT.HTX_BUSY n, ISCC.REP n, LDS_TX_STAT.ISC_INS n, ISCC.RUN
          n, ISCC.IDLE4 n] [] [n] s t) ∧
  (∀ (s : State) (n : Fin 4),
      s.phase n = Phase.lit → s.interop n = false → (s.chan n).sending = none → s.iscInserts n = true →
      s.confirmNow n = none → s.rd (ISCC.RUN n) = 7 →
      ∃ t, exec (.iscMessageBoundary n) s = .next t ∧ (t.chan n).sending = some (s.heartbeat n) ∧
        t.rd (ISCC.RUN n) = 0 ∧
        t.ch = s.ch.set n { s.chan n with sending := some (s.heartbeat n), tx := (t.chan n).tx } ∧ t.flow = s.flow ∧
        t.out = s.out ∧ SameFields [ISCC.REP n, LDS_TX_STAT.ISC_INS n, ISCC.RUN n] s t) ∧
  (∀ (s : State) (n : Fin 4) (m : Msg),
      s.phase n = Phase.lit → s.interop n = false → (s.chan n).sending = none → s.iscInserts n = true →
      s.confirmNow n = none → s.rd (ISCC.RUN n) ≠ 7 →
      (bestOf ((s.chan n).msgs.filter (fun k => !k.isFirmware || s.firmware)) = some m) →
      ∃ t, exec (.iscMessageBoundary n) s = .next t ∧
        t.ch = s.ch.set n { s.chan n with sending := some m, msgs := removeMsg m (s.chan n).msgs, tx := (t.chan n).tx
          } ∧
        t.rd (ISCC.RUN n) = s.rd (ISCC.RUN n) + 1 ∧ t.flow = s.flow ∧ t.out = s.out ∧
        SameFields [ISCC.REP n, LDS_TX_STAT.ISC_INS n, ISCC.RUN n] s t) ∧
  (∀ (s : State) (n : Fin 4),
      s.phase n = Phase.lit → s.interop n = false → (s.chan n).sending = none → s.iscInserts n = true →
      s.confirmNow n = none → s.rd (ISCC.RUN n) ≠ 7 → (s.chan n).msgs = [] →
      ∃ t, exec (.iscMessageBoundary n) s = .next t ∧
        ((t.chan n).sending = some (if s.rd (ISCC.IDLE4 n) = 3 ∧ s.on (ISC_CTRL.TEL_EN n) = true then s.telemetry n
          else s.heartbeat n)) ∧
        t.rd (ISCC.IDLE4 n) = (s.rd (ISCC.IDLE4 n) + 1) % 4 ∧ t.flow = s.flow ∧ t.out = s.out ∧
        SameFields [ISCC.REP n, LDS_TX_STAT.ISC_INS n, ISCC.RUN n, ISCC.IDLE4 n] s t) ∧
  (∀ (s : State) (n : Fin 4) (code : Fin 32) (fofs : Int) (qual : Nat),
      s.rd (ISC_STAT.CHIP n) = 2 → (s.on (ISC_CTRL.RX_ANY n) = true ∨ s.rd (ISC_CFG.RX_CODE n) = code.val) →
      -(2 ^ 23) ≤ fofs → fofs < 2 ^ 23 →
      ∃ t, exec (.iscChipLock n code fofs qual) s = .next t ∧ t.rd (ISC_STAT.CHIP n) = 3 ∧
        t.rd (ISC_STAT.CODE_FOUND n) = code.val ∧ t.rdS (ISC_FOFS.FOFS n) = fofs ∧
        t.rd (ISC_FOFS.QUAL n) = Nat.min qual 255 ∧ t.rd (LDS_LQ_STAT.ISC_CANC n) = 1 ∧ t.ch = s.ch ∧
        t.flow = s.flow ∧
        SameFields [ISC_STAT.CHIP n, ISC_STAT.CODE_FOUND n, ISC_FOFS.FOFS n, ISC_FOFS.QUAL n, LDS_LQ_STAT.ISC_CANC n]
          s t) ∧
  (∀ (s : State) (n : Fin 4),
      s.rd (ISC_STAT.CHIP n) = 3 →
      ∃ t, exec (.iscChipLockLoss n) s = .next t ∧ t.rd (ISC_STAT.CHIP n) = 2 ∧
        t.rd (ISC_CNT_EV.LOCKLOSS n) = s.oneMore (ISC_CNT_EV.LOCKLOSS n) ∧ t.rd (LDS_LQ_STAT.ISC_CANC n) = 0 ∧
        t.rd (ISC_STAT.CODE_FOUND n) = (ISC_STAT.CODE_FOUND n).reset ∧ t.rd (ISC_FOFS.FOFS n) = 0x800000 ∧
        t.rd (ISC_FOFS.QUAL n) = (ISC_FOFS.QUAL n).reset ∧ t.ch = s.ch ∧ t.flow = s.flow ∧
        FieldsKept [ISC_STAT.CHIP n, ISC_CNT_EV.LOCKLOSS n, ISC_STAT.CODE_FOUND n, ISC_FOFS.FOFS n, ISC_FOFS.QUAL n,
          LDS_LQ_STAT.ISC_CANC n] [] [n] s t) ∧
  (∀ (s : State) (win : Fin 7) (n : Fin 4) (value : Word),
      s.writeOpen win 2 → (ISC_HCMD.SEND n).of value.toNat = 1 → s.on (ISC_HSTAT.HTX_BUSY n) = false →
      ∃ t, exec (.iscHostSend win n value 15) s = .next t ∧ t.rd (ISC_HSTAT.HTX_BUSY n) = 1 ∧
        (t.ch = s.ch.set n { s.chan n with msgs := (s.chan n).msgs ++ [.host (s.rd (ISC_HTX.DATA n 0)) (s.rd
          (ISC_HTX.DATA n 1)) (s.rd (ISC_HTX.DATA n 2)) (s.rd (ISC_HTX3.DATA n))] }) ∧
        t.flow = s.flow ∧ SameFields [ISC_HSTAT.HTX_BUSY n, ISC_HCMD.SEND n] s t) ∧
  (∀ (s : State) (win : Fin 7) (n : Fin 4) (value : Word),
      s.writeOpen win 2 → (ISC_HCMD.SEND n).of value.toNat = 1 → s.on (ISC_HSTAT.HTX_BUSY n) = true →
      ∃ t, exec (.iscHostSend win n value 15) s = .next t ∧ s.refusedAs t win (chanAddr n 0x700030) 6 false ∧
        t.ch = s.ch ∧ t.flow = s.flow) ∧
  (∀ (s : State) (win : Fin 7) (n : Fin 4),
      s.answers = true → 1 ≤ s.level win →
      ∃ t, exec (.hostMessageRead win n) s = .next t ∧ t.rd (ISC_HSTAT.HRX_FULL n) = 0 ∧
        (t.out = .readData (chanAddr n 0x70005C) (s.rd (ISC_HRX3.DATA n) * 65536) :: s.out) ∧ t.ch = s.ch ∧
        t.flow = s.flow ∧ SameFields [ISC_HSTAT.HRX_FULL n] s t)

/-- O35. A message changes nothing without chip lock. With it, every valid one is counted GOOD, its gap of SEQ joins
  LOST,
and it shows the peer PRESENT with MISSED 0 (R262, R269). (1) a message with a bad CRC is counted in CRC alone. (2)
without chip lock it is not. (3) one of unknown TYPE has no further effect. (4) without chip lock none. (5) a
HEARTBEAT shows the peer's identity; one with this end's own sets LOOPBACK where the NONCE is its own and ID_CLASH
where it is not, and either, as it sets, LOOP_EV with source 0x71 (R270). (6) a TELEMETRY shows the peer's figures
(R271). (7) a HOST message fills ISC_HRX with HRX_EV and source 0x72 where HRX_FULL is clear. (8) and is lost to an
unread one with HRX_OVR. (9) the third missed heartbeat of a PRESENT peer declares it ABSENT, with source 0x70; here
neither a resize nor a rollover is before its arming (Table 11.6). (10) a resize not yet armed then FAILS with CAUSE
0x5 (Table 3.7). (11) an earlier one is counted in MISSED.  (11_supervisory_channel.md) -/
def Obligations.SupervisoryChannelReceives : Prop :=
  (∀ (s : State) (n : Fin 4),
      s.rd (ISC_STAT.CHIP n) = 3 →
      ∃ t, exec (.iscMessageCrcError n) s = .next t ∧ t.rd (ISC_CNT_RX.CRC n) = s.oneMore (ISC_CNT_RX.CRC n) ∧
        t.ch = s.ch ∧ t.flow = s.flow ∧ FieldsKept [ISC_CNT_RX.CRC n] [] [n] s t) ∧
  (∀ (s : State) (n : Fin 4),
      s.rd (ISC_STAT.CHIP n) ≠ 3 →
      ∃ t, exec (.iscMessageCrcError n) s = .next t ∧ t = s) ∧
  (∀ (s : State) (n : Fin 4) (seq : Fin 256) (rep : Fin 4),
      s.rd (ISC_STAT.CHIP n) = 3 →
      ∃ t, exec (.iscUnknownMessage n seq rep) s = .next t ∧
        t.rd (ISC_CNT_RX.GOOD n) = s.oneMore (ISC_CNT_RX.GOOD n) ∧
        (t.rd (ISC_CNT_EV.LOST n) = (if s.on (ISCC.RXSEQV n) = true then Nat.min (s.rd (ISC_CNT_EV.LOST n) + (seq.val
          + 255 - s.rd (ISCC.RXSEQ n)) % 256) 65535 else s.rd (ISC_CNT_EV.LOST n))) ∧
        t.rd (ISC_STAT.RX_REP n) = rep.val ∧ t.rd (ISC_STAT.PEER n) = 1 ∧ t.rd (ISC_STAT.MISSED n) = 0 ∧ t.ch = s.ch ∧
        t.flow = s.flow ∧ FieldsKept (messageFields n) [] [n] s t) ∧
  (∀ (s : State) (n : Fin 4) (seq : Fin 256) (rep : Fin 4),
      s.rd (ISC_STAT.CHIP n) ≠ 3 →
      ∃ t, exec (.iscUnknownMessage n seq rep) s = .next t ∧ t = s) ∧
  (∀ (s : State) (n : Fin 4) (seq : Fin 256) (rep : Fin 4) (ident nonce : Nat),
      s.rd (ISC_STAT.CHIP n) = 3 → ident < 2 ^ 32 → nonce < 2 ^ 16 →
      ∃ t, exec (.heartbeatReceived n seq rep ident nonce) s = .next t ∧ t.rd (ISC_PEER.ID n) = ident ∧
        (t.rd (ISC_STAT.LOOPBACK n) = 1 ↔ s.rd (ISC_STATION.ID n) = ident ∧ s.rd (ISCC.NONCE n) = nonce) ∧
        (t.rd (ISC_STAT.ID_CLASH n) = 1 ↔ s.rd (ISC_STATION.ID n) = ident ∧ s.rd (ISCC.NONCE n) ≠ nonce) ∧
        (((s.on (ISC_STAT.LOOPBACK n) = false ∧ t.on (ISC_STAT.LOOPBACK n) = true) ∨ (s.on (ISC_STAT.ID_CLASH n) =
          false ∧ t.on (ISC_STAT.ID_CLASH n) = true)) → t.rd (ISC_STAT.LOOP_EV n) = 1 ∧ t.rd (IRQ_PEND (sourceOf n
          0x71)) = 1) ∧
        t.rd (ISC_CNT_RX.GOOD n) = s.oneMore (ISC_CNT_RX.GOOD n) ∧
        (t.rd (ISC_CNT_EV.LOST n) = (if s.on (ISCC.RXSEQV n) = true then Nat.min (s.rd (ISC_CNT_EV.LOST n) + (seq.val
          + 255 - s.rd (ISCC.RXSEQ n)) % 256) 65535 else s.rd (ISC_CNT_EV.LOST n))) ∧
        t.rd (ISC_STAT.RX_REP n) = rep.val ∧ t.rd (ISC_STAT.PEER n) = 1 ∧ t.rd (ISC_STAT.MISSED n) = 0 ∧ t.ch = s.ch ∧
        t.flow = s.flow ∧
        (FieldsKept (messageFields n ++ [ISC_PEER.ID n, ISC_STAT.LOOPBACK n, ISC_STAT.ID_CLASH n, ISC_STAT.LOOP_EV n])
          [sourceOf n 0x71] [n, 4] s t)) ∧
  (∀ (s : State) (n : Fin 4) (seq : Fin 256) (rep : Fin 4) (snr ber margin rxpwr unc lqseq : Nat),
      s.rd (ISC_STAT.CHIP n) = 3 →
      (snr < 65536 ∧ ber < 65536 ∧ margin < 65536 ∧ rxpwr < 65536 ∧ unc < 2 ^ 32 ∧ lqseq < 65536) →
      ∃ t, exec (.telemetryReceived n seq rep snr ber margin rxpwr unc lqseq) s = .next t ∧
        (t.rd (ISC_PEER_LQ0.SNR n) = snr ∧ t.rd (ISC_PEER_LQ0.BER_LOG n) = ber ∧ t.rd (ISC_PEER_LQ1.MARGIN n) =
          margin) ∧
        (t.rd (ISC_PEER_LQ1.RXPWR n) = rxpwr ∧ t.rd (ISC_PEER_LQ2.UNC n) = unc ∧ t.rd (ISC_PEER_LQ3.LQSEQ n) = lqseq) ∧
        t.rd (ISC_CNT_RX.GOOD n) = s.oneMore (ISC_CNT_RX.GOOD n) ∧
        (t.rd (ISC_CNT_EV.LOST n) = (if s.on (ISCC.RXSEQV n) = true then Nat.min (s.rd (ISC_CNT_EV.LOST n) + (seq.val
          + 255 - s.rd (ISCC.RXSEQ n)) % 256) 65535 else s.rd (ISC_CNT_EV.LOST n))) ∧
        t.rd (ISC_STAT.RX_REP n) = rep.val ∧ t.rd (ISC_STAT.PEER n) = 1 ∧ t.rd (ISC_STAT.MISSED n) = 0 ∧ t.ch = s.ch ∧
        t.flow = s.flow ∧
        (FieldsKept (messageFields n ++ [ISC_PEER_LQ0.SNR n, ISC_PEER_LQ0.BER_LOG n, ISC_PEER_LQ1.MARGIN n,
          ISC_PEER_LQ1.RXPWR n, ISC_PEER_LQ2.UNC n, ISC_PEER_LQ3.LQSEQ n, ISCC.TEL_AT n]) [] [n] s t)) ∧
  (∀ (s : State) (n : Fin 4) (seq : Fin 256) (rep : Fin 4) (w0 w1 w2 w3 : Nat),
      s.rd (ISC_STAT.CHIP n) = 3 → s.on (ISC_HSTAT.HRX_FULL n) = false →
      (w0 < 2 ^ 32 ∧ w1 < 2 ^ 32 ∧ w2 < 2 ^ 32 ∧ w3 < 65536) →
      ∃ t, exec (.hostMessageReceived n seq rep w0 w1 w2 w3) s = .next t ∧
        (t.rd (ISC_HRX.DATA n 0) = w0 ∧ t.rd (ISC_HRX.DATA n 1) = w1 ∧ t.rd (ISC_HRX.DATA n 2) = w2 ∧ t.rd
          (ISC_HRX3.DATA n) = w3) ∧
        t.rd (ISC_HSTAT.HRX_FULL n) = 1 ∧ t.rd (ISC_STAT.HRX_EV n) = 1 ∧ t.rd (IRQ_PEND (sourceOf n 0x72)) = 1 ∧
        t.rd (ISC_CNT_RX.GOOD n) = s.oneMore (ISC_CNT_RX.GOOD n) ∧
        (t.rd (ISC_CNT_EV.LOST n) = (if s.on (ISCC.RXSEQV n) = true then Nat.min (s.rd (ISC_CNT_EV.LOST n) + (seq.val
          + 255 - s.rd (ISCC.RXSEQ n)) % 256) 65535 else s.rd (ISC_CNT_EV.LOST n))) ∧
        t.rd (ISC_STAT.RX_REP n) = rep.val ∧ t.rd (ISC_STAT.PEER n) = 1 ∧ t.rd (ISC_STAT.MISSED n) = 0 ∧ t.ch = s.ch ∧
        t.flow = s.flow ∧
        (FieldsKept (messageFields n ++ [ISC_HRX.DATA n 0, ISC_HRX.DATA n 1, ISC_HRX.DATA n 2, ISC_HRX3.DATA n,
          ISC_HSTAT.HRX_FULL n, ISC_STAT.HRX_EV n]) [sourceOf n 0x72] [n, 4] s t)) ∧
  (∀ (s : State) (n : Fin 4) (seq : Fin 256) (rep : Fin 4) (w0 w1 w2 w3 : Nat),
      s.rd (ISC_STAT.CHIP n) = 3 → s.on (ISC_HSTAT.HRX_FULL n) = true →
      ∃ t, exec (.hostMessageReceived n seq rep w0 w1 w2 w3) s = .next t ∧ t.rd (ISC_HSTAT.HRX_OVR n) = 1 ∧
        t.rd (ISC_CNT_RX.GOOD n) = s.oneMore (ISC_CNT_RX.GOOD n) ∧
        (t.rd (ISC_CNT_EV.LOST n) = (if s.on (ISCC.RXSEQV n) = true then Nat.min (s.rd (ISC_CNT_EV.LOST n) + (seq.val
          + 255 - s.rd (ISCC.RXSEQ n)) % 256) 65535 else s.rd (ISC_CNT_EV.LOST n))) ∧
        t.rd (ISC_STAT.RX_REP n) = rep.val ∧ t.rd (ISC_STAT.PEER n) = 1 ∧ t.rd (ISC_STAT.MISSED n) = 0 ∧ t.ch = s.ch ∧
        t.flow = s.flow ∧ (FieldsKept (messageFields n ++ [ISC_HSTAT.HRX_OVR n]) [] [n] s t)) ∧
  (∀ (s : State) (n : Fin 4),
      s.rd (ISC_STAT.PEER n) = 1 → s.rd (ISC_STAT.MISSED n) = 2 →
      (s.rd (LDS_RSZ_STAT.STATE n) ≠ 1 ∧ s.rd (LDS_RSZ_STAT.STATE n) ≠ 2) → s.rd (SEC_ROLL_STAT.STATE n) ≠ 1 →
      ∃ t, exec (.iscHeartbeatMissed n) s = .next t ∧ t.rd (ISC_STAT.PEER n) = 2 ∧ t.rd (ISC_STAT.ABS_EV n) = 1 ∧
        t.rd (ISC_CNT_EV.ABSENT n) = s.oneMore (ISC_CNT_EV.ABSENT n) ∧ t.rd (ISC_STAT.MISSED n) = 3 ∧
        t.rd (IRQ_PEND (sourceOf n 0x70)) = 1 ∧ t.ch = s.ch ∧ t.flow = s.flow ∧
        FieldsKept [ISC_STAT.PEER n, ISC_STAT.ABS_EV n, ISC_STAT.MISSED n, ISC_CNT_EV.ABSENT n, LDSC.ABSENT n]
          [sourceOf n 0x70] [4] s t) ∧
  (∀ (s : State) (n : Fin 4),
      s.rd (ISC_STAT.PEER n) = 1 → s.rd (ISC_STAT.MISSED n) = 2 →
      (s.rd (LDS_RSZ_STAT.STATE n) = 1 ∨ s.rd (LDS_RSZ_STAT.STATE n) = 2) →
      ∃ t, exec (.iscHeartbeatMissed n) s = .next t ∧ t.rd (ISC_STAT.PEER n) = 2 ∧
        t.rd (LDS_RSZ_STAT.STATE n) = RszSt.failed ∧ t.rd (LDS_RSZ_STAT.CAUSE n) = 5 ∧
        t.rd (IRQ_PEND (sourceOf n 0x28)) = 1 ∧ (t.votes = s.votes.filter (fun v => v ≠ .resizeArm n)) ∧
        t.rd (IRQ_PEND (sourceOf n 0x70)) = 1 ∧ OthersKept n s t ∧ t.flow = s.flow) ∧
  (∀ (s : State) (n : Fin 4),
      s.rd (ISC_STAT.PEER n) = 1 → s.rd (ISC_STAT.MISSED n) < 2 →
      ∃ t, exec (.iscHeartbeatMissed n) s = .next t ∧ t.rd (ISC_STAT.MISSED n) = s.rd (ISC_STAT.MISSED n) + 1 ∧
        t.ch = s.ch ∧ t.flow = s.flow ∧ SameFields [ISC_STAT.MISSED n] s t)

/-- O36. A pipeline is in use while SEC_PIPE lists it ACTIVE and not FENCED; o is the opening of tenant b, u its oldest
unit, ct the ciphertext of u. (1) a mismatch of an open half is counted at its tenant and channel, with source 0xA0,
and its unit fails (R277); here fewer than five are within 1 s. (2) one of a seal half likewise; its token in SEC is
dropped as a fault and replaced, and the rest of its unit follows it. (3) a unit held for over 1 µs fences its
pipeline, with source 0xA4 (R279). (4) and an admitted FORCE one not yet fenced. (5) once its tokens are in SEC, a
unit whose tag verifies under its valid slot, with a sequence number above the last, opens: its tokens go on and the
number is taken (R290). (6) one that does not verify is dropped whole as an authentication failure, with source 0xA1.
(7) one whose number does not rise is dropped as a replay, and the number stays. (8) a reseed that fails its tests
loses the entropy source with source 48. (9) the tenth healthy one in a row restores it (R276). (10) an admitted FORCE
fences an iterated engine, with source 49. (11) where it works on the running operation, that stops with cause 0x7
(R279).  (12_security.md) -/
def Obligations.CipherUnitsAndEntropy : Prop :=
  (∀ (s : State) (n : Fin 4) (b : Fin 1024) (pp : Fin 16) (held : List PipeHeld),
      s.pipeUp n pp = true → s.on (TRB_TRIB.ENC n b) = true →
      (s.rd (SECC.MIS n pp 3) = 0 ∨ s.rd (SECC.MIS n pp 3) + 1000000000 ≤ s.time + 1) →
      ∃ t, exec (.cipherMismatch n b pp true held) s = .next t ∧
        t.rd (SEC_TEN.FAULT_RX n b) = s.oneMore (SEC_TEN.FAULT_RX n b) ∧
        t.rd (SEC_CNT.FAULT n) = s.oneMore (SEC_CNT.FAULT n) ∧ t.rd (SEC_STAT.FAULT_EV n) = 1 ∧
        t.rd (IRQ_PEND (sourceOf n 0xA0)) = 1 ∧ t.rd (SECC.MIS n pp 0) = (s.time + 1) % 2 ^ 64 ∧
        ((t.chan n).rx.openingOf b).bad = true ∧ t.ch = s.ch.set n { s.chan n with rx := (t.chan n).rx } ∧
        t.flow = s.flow ∧
        FieldsKept [SEC_TEN.FAULT_RX n b, SEC_CNT.FAULT n, SEC_STAT.FAULT_EV n, SECC.MIS n pp 0, SECC.MIS n pp 1,
          SECC.MIS n pp 2, SECC.MIS n pp 3] [sourceOf n 0xA0] [n, 4] s t) ∧
  (∀ (s : State) (n : Fin 4) (b : Fin 1024) (pp : Fin 16) (held : List PipeHeld),
      s.pipeUp n pp = true → s.on (TRB_TRIB.ENC n b) = true →
      (s.rd (SECC.MIS n pp 3) = 0 ∨ s.rd (SECC.MIS n pp 3) + 1000000000 ≤ s.time + 1) →
      ∃ t, exec (.cipherMismatch n b pp false held) s = .next t ∧
        t.rd (SEC_TEN.FAULT_TX n b) = s.oneMore (SEC_TEN.FAULT_TX n b) ∧
        t.rd (SEC_CNT.FAULT n) = s.oneMore (SEC_CNT.FAULT n) ∧ t.rd (SEC_STAT.FAULT_EV n) = 1 ∧
        t.rd (IRQ_PEND (sourceOf n 0xA0)) = 1 ∧ t.rd (SECC.MIS n pp 0) = (s.time + 1) % 2 ^ 64 ∧
        ((t.flow.get n).led.txFault = (s.flow.get n).led.txFault + (if (s.flow.get n).tok.any (fun k => k.stage =
          .txSec && k.trib = b.val) then 1 else 0)) ∧
        OthersKept n s t ∧
        FieldsKept [SEC_TEN.FAULT_TX n b, SEC_CNT.FAULT n, SEC_STAT.FAULT_EV n, SEC_TEN.WARN n b, SEC_STAT.WARN_EV n,
          SECC.SEALS (keySlot n b 0), SECC.SEALS (keySlot n b 1), SECC.MIS n pp 0, SECC.MIS n pp 1, SECC.MIS n pp 2,
          SECC.MIS n pp 3] [sourceOf n 0xA0, sourceOf n 0xA2] [n, 4] s t) ∧
  (∀ (s : State) (n : Fin 4) (pp : Fin 16) (held : List PipeHeld),
      s.pipeUp n pp = true → s.rszRunning n = false → s.maxModeOf n ≠ 0 →
      ∃ t, exec (.pipelineHoldFault n pp held) s = .next t ∧ t.rdBit (SEC_PIPE.FENCED n) pp = true ∧
        t.rdBit (SEC_PIPE.ACTIVE n) pp = false ∧ t.rd (SEC_STAT.FENCE_EV n) = 1 ∧
        t.rd (IRQ_PEND (sourceOf n 0xA4)) = 1 ∧ t.rdBit (FABC.COND n) 2 = true ∧ OthersKept n s t) ∧
  (∀ (s : State) (win : Fin 7) (n : Fin 4) (value : Word) (pp : Fin 16) (held : List PipeHeld),
      s.writeOpen win 3 → (SEC_PIPE_CMD.FORCE n).of value.toNat = 1 →
      (SEC_PIPE_CMD.PIPE n).of value.toNat = pp.val → s.rdBit (SEC_PIPE.FENCED n) pp = false →
      s.rszRunning n = false → s.maxModeOf n ≠ 0 →
      ∃ t, exec (.pipelineForce win n value 15 held) s = .next t ∧ t.rdBit (SEC_PIPE.FENCED n) pp = true ∧
        t.rdBit (SEC_PIPE.ACTIVE n) pp = false ∧ t.rd (SEC_STAT.FENCE_EV n) = 1 ∧
        t.rd (IRQ_PEND (sourceOf n 0xA4)) = 1 ∧ t.rdBit (FABC.COND n) 2 = true ∧ OthersKept n s t) ∧
  (∀ (s : State) (n : Fin 4) (b : Fin 1024) (u : Sealed) (o : Opening),
      o = (s.chan n).rx.openingOf b → o.due.head? = some u → s.rd (TRB_TRIB.STATE n b) = Trib.active →
      (o.ct.length < 64 ∨ (o.off + u.size) / 64 ≤ o.gone + (s.heldTokens n b).length) →
      s.unitVerdict n b o u (((s.unitStream n b o).drop o.off).take u.size) = .opens →
      ∃ t, exec (.sealedUnitReceived n b) s = .next t ∧
        t.rd (SECC.RXSEQ (keySlot n b u.ki.toNat)) = u.seq % 2 ^ (SECC.RXSEQ (keySlot n b u.ki.toNat)).width ∧
        t.rd (SECC.RXSEQV (keySlot n b u.ki.toNat)) = 1 ∧
        ((t.flow.get n).led.rxAuth = (s.flow.get n).led.rxAuth + (if o.spoilt = some false ∧ 0 < (o.off + u.size) / 64
          - o.gone then 1 else 0)) ∧
        ((t.chan n).rx.openingOf b).due = o.due.drop 1 ∧
        (t.heldTokens n b).length = (s.heldTokens n b).length - ((o.off + u.size) / 64 - o.gone) ∧
        t.ch = s.ch.set n { s.chan n with rx := (t.chan n).rx } ∧ OthersKept n s t ∧
        FieldsKept [SECC.RXSEQ (keySlot n b u.ki.toNat), SECC.RXSEQV (keySlot n b u.ki.toNat)] [] [n] s t) ∧
  (∀ (s : State) (n : Fin 4) (b : Fin 1024) (u : Sealed) (o : Opening),
      o = (s.chan n).rx.openingOf b → o.due.head? = some u → s.rd (TRB_TRIB.STATE n b) = Trib.active →
      (o.ct.length < 64 ∨ (o.off + u.size) / 64 ≤ o.gone + (s.heldTokens n b).length) →
      s.unitVerdict n b o u (((s.unitStream n b o).drop o.off).take u.size) = .auth →
      ∃ t, exec (.sealedUnitReceived n b) s = .next t ∧ t.rd (SEC_TEN.AUTH n b) = s.oneMore (SEC_TEN.AUTH n b) ∧
        t.rd (SEC_CNT.AUTH n) = s.oneMore (SEC_CNT.AUTH n) ∧ t.rd (SEC_STAT.AUTH_EV n) = 1 ∧
        t.rd (IRQ_PEND (sourceOf n 0xA1)) = 1 ∧
        (t.flow.get n).led.rxAuth = (s.flow.get n).led.rxAuth + Nat.min (s.heldTokens n b).length ((o.off + u.size) /
          64 - o.gone) ∧
        ((t.chan n).rx.openingOf b).due = o.due.drop 1 ∧
        (t.heldTokens n b).length = (s.heldTokens n b).length - ((o.off + u.size) / 64 - o.gone) ∧
        t.ch = s.ch.set n { s.chan n with rx := (t.chan n).rx } ∧ OthersKept n s t ∧
        FieldsKept [SEC_TEN.AUTH n b, SEC_CNT.AUTH n, SEC_STAT.AUTH_EV n] [sourceOf n 0xA1] [n, 4] s t) ∧
  (∀ (s : State) (n : Fin 4) (b : Fin 1024) (u : Sealed) (o : Opening),
      o = (s.chan n).rx.openingOf b → o.due.head? = some u → s.rd (TRB_TRIB.STATE n b) = Trib.active →
      (o.ct.length < 64 ∨ (o.off + u.size) / 64 ≤ o.gone + (s.heldTokens n b).length) →
      s.unitVerdict n b o u (((s.unitStream n b o).drop o.off).take u.size) = .replay →
      ∃ t, exec (.sealedUnitReceived n b) s = .next t ∧ t.rd (SEC_TEN.REPLAY n b) = s.oneMore (SEC_TEN.REPLAY n b) ∧
        t.rd (SEC_STAT.AUTH_EV n) = 1 ∧ t.rd (IRQ_PEND (sourceOf n 0xA1)) = 1 ∧
        t.rd (SECC.RXSEQ (keySlot n b u.ki.toNat)) = s.rd (SECC.RXSEQ (keySlot n b u.ki.toNat)) ∧
        (t.flow.get n).led.rxAuth = (s.flow.get n).led.rxAuth + Nat.min (s.heldTokens n b).length ((o.off + u.size) /
          64 - o.gone) ∧
        ((t.chan n).rx.openingOf b).due = o.due.drop 1 ∧
        (t.heldTokens n b).length = (s.heldTokens n b).length - ((o.off + u.size) / 64 - o.gone) ∧
        t.ch = s.ch.set n { s.chan n with rx := (t.chan n).rx } ∧ OthersKept n s t ∧
        FieldsKept [SEC_TEN.REPLAY n b, SEC_STAT.AUTH_EV n] [sourceOf n 0xA1] [n, 4] s t) ∧
  (∀ (s : State),
      s.mode ≠ Mode.keep → s.mode ≠ Mode.reset → s.on KEY_STAT.ENT_OK = true →
      ∃ t, exec (.entropyReseed false) s = .next t ∧ t.rd KEY_STAT.ENT_OK = 0 ∧ t.rd KEY_STAT.ENT_EV = 1 ∧
        t.rd (IRQ_PEND 48) = 1 ∧ t.ch = s.ch ∧ t.flow = s.flow ∧
        FieldsKept [KEY_STAT.ENT_OK, KEY_STAT.ENT_EV, KEYC.ENTRUN] [48] [4] s t) ∧
  (∀ (s : State),
      s.mode ≠ Mode.keep → s.mode ≠ Mode.reset → s.on KEY_STAT.ENT_OK = false → s.rd KEYC.ENTRUN = 9 →
      ∃ t, exec (.entropyReseed true) s = .next t ∧ t.rd KEY_STAT.ENT_OK = 1 ∧ t.ch = s.ch ∧ t.flow = s.flow ∧
        SameFields [KEY_STAT.ENT_OK, KEYC.ENTRUN] s t) ∧
  (∀ (s : State) (win : Fin 7) (value : Word) (e : Fin 4),
      s.writeOpen win 3 → KEY_ENG_CMD.FORCE.of value.toNat = 1 → KEY_ENG_CMD.ENGINE.of value.toNat = e.val →
      s.rdBit KEY_STAT.ENG_FNC e = false →
      ∃ t, exec (.iteratedEngineForce win value 15 false) s = .next t ∧ t.rdBit KEY_STAT.ENG_FNC e = true ∧
        t.rdBit KEY_STAT.ENG_ACT e = false ∧ t.rd (IRQ_PEND 49) = 1 ∧ t.ch = s.ch ∧ t.flow = s.flow ∧
        FieldsKept [KEY_STAT.ENG_FNC, KEY_STAT.ENG_ACT, KEY_ENG_CMD.FORCE, KEY_ENG_CMD.ENGINE] [49] [4] s t) ∧
  (∀ (s : State) (win : Fin 7) (value : Word) (e : Fin 4),
      s.writeOpen win 3 → KEY_ENG_CMD.FORCE.of value.toNat = 1 → KEY_ENG_CMD.ENGINE.of value.toNat = e.val →
      s.rdBit KEY_STAT.ENG_FNC e = false → s.rd KEY_BULK_STAT.STATE = Bulk.run →
      ∃ t, exec (.iteratedEngineForce win value 15 true) s = .next t ∧ t.rdBit KEY_STAT.ENG_FNC e = true ∧
        t.rd KEY_BULK_STAT.STATE = Bulk.fault ∧ t.rd KEY_BULK_STAT.CAUSE = 7 ∧ t.rd KEY_BULK_STAT.FAULT_EV = 1 ∧
        t.rd KEY_BULK_STAT.NEXT = s.rd KEY_BULK_STAT.NEXT ∧ t.rd (IRQ_PEND 51) = 1 ∧ t.ch = s.ch ∧ t.flow = s.flow ∧
        (FieldsKept ([KEY_STAT.ENG_FNC, KEY_STAT.ENG_ACT, KEY_ENG_CMD.FORCE, KEY_ENG_CMD.ENGINE, KEY_BULK_STAT.STATE,
          KEY_BULK_STAT.CAUSE, KEY_BULK_STAT.FAULT_EV] ++ poolFields) [49, 51] [4] s t))

/-- O37. Writes are admitted, at admin level. No key cause holds: the device is in CAST or operating and not in
  LOCKDOWN,
an iterated engine is ACTIVE and the entropy source is good. l is a record as fetched. (1) ERASE of a tenant slot that
is not in use empties it (R286). (2) of one in use leaves it, with cause 0x4. (3) of a KEK, 0 to 62, empties it. (4)
GO with OP 1, a KEK up to 62, COUNT not 0 and no operation running or paused starts a LOAD at element 0 (R285). (5)
with OP 3, outside the interoperable modes and G2, a SAVE. (6) with OP 2 a RESTORE. (7) RESUME continues a paused or
faulted one at NEXT. (8) ABORT ends one. (9) a LOAD element with a free tenant slot and a wrapping key present puts
the key that unwraps in its slot, VALID with its counts at 0, and advances NEXT (R284). (10) one that does not unwrap
stops the operation at that element with cause 0x1. (11) the last element of a SAVE sends its tenant's wrapped context
to the host, keeps the context, and ends the operation with source 50 (R296). (12) a root command asks for its vote:
PROVISION with the root key absent, in CAST or READY, every channel DARK (R283). (13) ERASE_ARM. (14) and, while
ARMED, ERASE_CONFIRM (R298). (15) the arm expires after 1 s unless a confirmation waits.  (12_security.md) -/
def Obligations.KeyStoreOperations : Prop :=
  (∀ (s : State) (win : Fin 7) (value : Word) (g : Fin 8192),
      s.writeOpen win 3 → KEY_SLOT_CMD.ERASE.of value.toNat = 1 → KEY_SLOT_CMD.KEK.of value.toNat = 0 →
      KEY_SLOT_CMD.SLOT.of value.toNat = g.val → s.keyMode = true → s.slotInUse g = false →
      ∃ t, exec (.keySlotErase win value 15) s = .next t ∧ t.rd (KEY_SLOT.STATE g) = 0 ∧ t.rd (KEYC.KEY g) = 0 ∧
        t.rd KEY_SLOT_STAT.CAUSE = 0 ∧ t.ch = s.ch ∧ t.flow = s.flow ∧
        SameFields [KEY_SLOT.STATE g, KEYC.KEY g, SECC.RETMF g, KEY_SLOT_STAT.CAUSE, KEY_SLOT_CMD.ERASE,
          KEY_SLOT_CMD.KEK, KEY_SLOT_CMD.SLOT] s t) ∧
  (∀ (s : State) (win : Fin 7) (value : Word) (g : Fin 8192),
      s.writeOpen win 3 → KEY_SLOT_CMD.ERASE.of value.toNat = 1 → KEY_SLOT_CMD.KEK.of value.toNat = 0 →
      KEY_SLOT_CMD.SLOT.of value.toNat = g.val → s.keyMode = true → s.slotInUse g = true →
      ∃ t, exec (.keySlotErase win value 15) s = .next t ∧ t.rd KEY_SLOT_STAT.CAUSE = 4 ∧ t.ch = s.ch ∧
        t.flow = s.flow ∧
        SameFields [KEY_SLOT_STAT.CAUSE, KEY_SLOT_CMD.ERASE, KEY_SLOT_CMD.KEK, KEY_SLOT_CMD.SLOT] s t) ∧
  (∀ (s : State) (win : Fin 7) (value : Word) (g : Fin 63),
      s.writeOpen win 3 → KEY_SLOT_CMD.ERASE.of value.toNat = 1 → KEY_SLOT_CMD.KEK.of value.toNat = 1 →
      KEY_SLOT_CMD.SLOT.of value.toNat = g.val → s.keyMode = true →
      ∃ t, exec (.keySlotErase win value 15) s = .next t ∧ t.rd (KEY_KEK.STATE g) = 0 ∧ t.rd (KEYC.KEK g) = 0 ∧
        t.rd KEY_SLOT_STAT.CAUSE = 0 ∧ t.ch = s.ch ∧ t.flow = s.flow ∧
        SameFields [KEY_KEK.STATE g, KEYC.KEK g, KEY_SLOT_STAT.CAUSE, KEY_SLOT_CMD.ERASE, KEY_SLOT_CMD.KEK,
          KEY_SLOT_CMD.SLOT] s t) ∧
  (∀ (s : State) (win : Fin 7) (value : Word),
      s.writeOpen win 3 →
      (KEY_BULK_CTRL.GO.of value.toNat = 1 ∧ KEY_BULK_CTRL.RESUME.of value.toNat = 0 ∧ KEY_BULK_CTRL.ABORT.of
        value.toNat = 0) →
      KEY_BULK_CTRL.OP.of value.toNat = 1 → KEY_BULK_CTRL.KEK.of value.toNat ≤ 62 → s.bulkBusy = false →
      s.keyCause = 0 → s.rd KEY_BULK_CNT.COUNT ≠ 0 →
      ∃ t, exec (.keyBulkLoad win value 15) s = .next t ∧ t.rd KEY_BULK_STAT.STATE = Bulk.run ∧
        t.rd KEY_BULK_STAT.NEXT = 0 ∧ t.rd KEY_BULK_STAT.CAUSE = 0 ∧ t.rd KEY_BULK_CTRL.OP = 1 ∧ t.ch = s.ch ∧
        t.flow = s.flow ∧
        (FieldsKept ([KEY_BULK_STAT.STATE, KEY_BULK_STAT.NEXT, KEY_BULK_STAT.CAUSE, KEY_BULK_CTRL.GO,
          KEY_BULK_CTRL.RESUME, KEY_BULK_CTRL.ABORT, KEY_BULK_CTRL.OP, KEY_BULK_CTRL.CH, KEY_BULK_CTRL.KEK] ++
          poolFields) [] [4] s t)) ∧
  (∀ (s : State) (win : Fin 7) (value : Word),
      s.writeOpen win 3 →
      (KEY_BULK_CTRL.GO.of value.toNat = 1 ∧ KEY_BULK_CTRL.RESUME.of value.toNat = 0 ∧ KEY_BULK_CTRL.ABORT.of
        value.toNat = 0) →
      KEY_BULK_CTRL.OP.of value.toNat = 3 → KEY_BULK_CTRL.KEK.of value.toNat ≤ 62 → s.bulkBusy = false →
      s.keyCause = 0 → s.rd KEY_BULK_CNT.COUNT ≠ 0 → s.plainMode (KEY_BULK_CTRL.CH.of value.toNat) = false →
      ∃ t, exec (.keyBulkSave win value 15) s = .next t ∧ t.rd KEY_BULK_STAT.STATE = Bulk.run ∧
        t.rd KEY_BULK_STAT.NEXT = 0 ∧ t.rd KEY_BULK_STAT.CAUSE = 0 ∧ t.rd KEY_BULK_CTRL.OP = 3 ∧ t.ch = s.ch ∧
        t.flow = s.flow ∧
        (FieldsKept ([KEY_BULK_STAT.STATE, KEY_BULK_STAT.NEXT, KEY_BULK_STAT.CAUSE, KEY_BULK_CTRL.GO,
          KEY_BULK_CTRL.RESUME, KEY_BULK_CTRL.ABORT, KEY_BULK_CTRL.OP, KEY_BULK_CTRL.CH, KEY_BULK_CTRL.KEK] ++
          poolFields) [] [4] s t)) ∧
  (∀ (s : State) (win : Fin 7) (value : Word),
      s.writeOpen win 3 →
      (KEY_BULK_CTRL.GO.of value.toNat = 1 ∧ KEY_BULK_CTRL.RESUME.of value.toNat = 0 ∧ KEY_BULK_CTRL.ABORT.of
        value.toNat = 0) →
      KEY_BULK_CTRL.OP.of value.toNat = 2 → KEY_BULK_CTRL.KEK.of value.toNat ≤ 62 → s.bulkBusy = false →
      s.keyCause = 0 → s.rd KEY_BULK_CNT.COUNT ≠ 0 → s.plainMode (KEY_BULK_CTRL.CH.of value.toNat) = false →
      ∃ t, exec (.keyBulkRestore win value 15) s = .next t ∧ t.rd KEY_BULK_STAT.STATE = Bulk.run ∧
        t.rd KEY_BULK_STAT.NEXT = 0 ∧ t.rd KEY_BULK_STAT.CAUSE = 0 ∧ t.rd KEY_BULK_CTRL.OP = 2 ∧ t.ch = s.ch ∧
        t.flow = s.flow ∧
        (FieldsKept ([KEY_BULK_STAT.STATE, KEY_BULK_STAT.NEXT, KEY_BULK_STAT.CAUSE, KEY_BULK_CTRL.GO,
          KEY_BULK_CTRL.RESUME, KEY_BULK_CTRL.ABORT, KEY_BULK_CTRL.OP, KEY_BULK_CTRL.CH, KEY_BULK_CTRL.KEK] ++
          poolFields) [] [4] s t)) ∧
  (∀ (s : State) (win : Fin 7) (value : Word),
      s.writeOpen win 3 →
      (KEY_BULK_CTRL.GO.of value.toNat = 0 ∧ KEY_BULK_CTRL.RESUME.of value.toNat = 1 ∧ KEY_BULK_CTRL.ABORT.of
        value.toNat = 0) →
      (1 ≤ KEY_BULK_CTRL.OP.of value.toNat ∧ KEY_BULK_CTRL.OP.of value.toNat ≤ 3) →
      KEY_BULK_CTRL.KEK.of value.toNat ≤ 62 →
      (s.rd KEY_BULK_STAT.STATE = Bulk.fault ∨ s.rd KEY_BULK_STAT.STATE = Bulk.paused) → s.keyCause = 0 →
      ∃ t, exec (.keyBulkResume win value 15) s = .next t ∧ t.rd KEY_BULK_STAT.STATE = Bulk.run ∧
        t.rd KEY_BULK_STAT.NEXT = s.rd KEY_BULK_STAT.NEXT ∧ t.rd KEY_BULK_STAT.CAUSE = 0 ∧ t.ch = s.ch ∧
        t.flow = s.flow ∧
        (FieldsKept ([KEY_BULK_STAT.STATE, KEY_BULK_STAT.CAUSE, KEY_BULK_CTRL.GO, KEY_BULK_CTRL.RESUME,
          KEY_BULK_CTRL.ABORT, KEY_BULK_CTRL.OP, KEY_BULK_CTRL.CH, KEY_BULK_CTRL.KEK] ++ poolFields) [] [4] s t)) ∧
  (∀ (s : State) (win : Fin 7) (value : Word),
      s.writeOpen win 3 →
      (KEY_BULK_CTRL.GO.of value.toNat = 0 ∧ KEY_BULK_CTRL.RESUME.of value.toNat = 0 ∧ KEY_BULK_CTRL.ABORT.of
        value.toNat = 1) →
      (1 ≤ KEY_BULK_CTRL.OP.of value.toNat ∧ KEY_BULK_CTRL.OP.of value.toNat ≤ 3) →
      KEY_BULK_CTRL.KEK.of value.toNat ≤ 62 → (s.bulkBusy = true ∨ s.rd KEY_BULK_STAT.STATE = Bulk.fault) →
      ∃ t, exec (.keyBulkAbort win value 15) s = .next t ∧ t.rd KEY_BULK_STAT.STATE = Bulk.aborted ∧
        t.rd KEY_BULK_STAT.NEXT = s.rd KEY_BULK_STAT.NEXT ∧ t.ch = s.ch ∧ t.flow = s.flow ∧
        (FieldsKept ([KEY_BULK_STAT.STATE, KEY_BULK_CTRL.GO, KEY_BULK_CTRL.RESUME, KEY_BULK_CTRL.ABORT,
          KEY_BULK_CTRL.OP, KEY_BULK_CTRL.CH, KEY_BULK_CTRL.KEK] ++ poolFields) [] [4] s t)) ∧
  (∀ (s : State) (e : Fin 4) (l : List Byte) (kek key : Nat),
      s.rd KEY_BULK_STAT.STATE = Bulk.run → s.rdBit KEY_STAT.ENG_ACT e = true → s.keyCause = 0 →
      s.portSends = true → s.rd KEY_BULK_CTRL.OP = 1 → recBe l 0 2 < 8192 → recBe l 2 1 ≤ 62 →
      s.slotInUse (recBe l 0 2) = false → s.wrapKey (recBe l 2 1) = some kek →
      kwUnwrap kek 4 (recBe l 8 40) = some key → s.rd KEY_BULK_STAT.NEXT + 1 < s.rd KEY_BULK_CNT.COUNT →
      ∃ t, exec (.keyElementComplete e (some l) false) s = .next t ∧ t.rd (KEYC.KEY (recBe l 0 2)) = key % 2 ^ 256 ∧
        t.rd (KEY_SLOT.STATE (recBe l 0 2)) = 2 ∧
        t.rd (KEY_SLOT.LOADS (recBe l 0 2)) = s.oneMore (KEY_SLOT.LOADS (recBe l 0 2)) ∧
        t.rd (SECC.SEALS (recBe l 0 2)) = 0 ∧ t.rd (SECC.RXSEQV (recBe l 0 2)) = 0 ∧
        t.rd KEY_BULK_STAT.NEXT = s.rd KEY_BULK_STAT.NEXT + 1 ∧ t.rd KEY_BULK_STAT.STATE = Bulk.run ∧ t.ch = s.ch ∧
        t.flow = s.flow ∧
        (FieldsKept ([KEYC.KEY (recBe l 0 2), KEY_SLOT.STATE (recBe l 0 2), KEY_SLOT.WRAP (recBe l 0 2),
          KEY_SLOT.LOADS (recBe l 0 2), KEY_SLOT.TIME (recBe l 0 2), SECC.SEALS (recBe l 0 2), SECC.RXSEQ (recBe l 0
          2), SECC.RXSEQV (recBe l 0 2), SECC.RETMF (recBe l 0 2), KEY_BULK_STAT.NEXT] ++ poolFields) [] [recBe l 0 2
          / 2048, 4] s t)) ∧
  (∀ (s : State) (e : Fin 4) (l : List Byte) (kek : Nat),
      s.rd KEY_BULK_STAT.STATE = Bulk.run → s.rdBit KEY_STAT.ENG_ACT e = true → s.keyCause = 0 →
      s.portSends = true → s.rd KEY_BULK_CTRL.OP = 1 → recBe l 0 2 < 8192 → recBe l 2 1 ≤ 62 →
      s.slotInUse (recBe l 0 2) = false → s.wrapKey (recBe l 2 1) = some kek →
      kwUnwrap kek 4 (recBe l 8 40) = none →
      ∃ t, exec (.keyElementComplete e (some l) false) s = .next t ∧ t.rd KEY_BULK_STAT.STATE = Bulk.fault ∧
        t.rd KEY_BULK_STAT.CAUSE = 1 ∧ t.rd KEY_BULK_STAT.FAULT_EV = 1 ∧ t.rd (IRQ_PEND 51) = 1 ∧
        t.rd KEY_CNT.UNWRAP_FAIL = s.oneMore KEY_CNT.UNWRAP_FAIL ∧ t.ch = s.ch ∧ t.flow = s.flow ∧
        (FieldsKept ([KEY_BULK_STAT.STATE, KEY_BULK_STAT.CAUSE, KEY_BULK_STAT.FAULT_EV, KEY_CNT.UNWRAP_FAIL] ++
          poolFields) [51] [4] s t)) ∧
  (∀ (s : State) (e : Fin 4) (l : List Byte) (kek : Nat),
      s.rd KEY_BULK_STAT.STATE = Bulk.run → s.rdBit KEY_STAT.ENG_ACT e = true → s.keyCause = 0 →
      s.portSends = true → s.rd KEY_BULK_CTRL.OP = 3 → s.plainMode (s.rd KEY_BULK_CTRL.CH) = false →
      recBe l 0 2 < 1024 → s.rd KEY_BULK_CTRL.KEK ≤ 62 → s.wrapKey (s.rd KEY_BULK_CTRL.KEK) = some kek →
      s.rd KEY_BULK_STAT.NEXT + 1 = s.rd KEY_BULK_CNT.COUNT →
      ∃ t, exec (.keyElementComplete e (some l) false) s = .next t ∧
        (t.out = .hostMemory (s.bulkAddr (s.rd KEY_BULK_STAT.NEXT) 192 + 2) (beBytes 1 (s.rd KEY_BULK_CTRL.KEK) ++
          beBytes 5 0 ++ beBytes 168 (kwWrap kek 20 (ofBytes (s.context (s.rd KEY_BULK_CTRL.CH) (recBe l 0 2)))) ++
          beBytes 16 0) :: s.out) ∧
        t.rd KEY_BULK_STAT.NEXT = s.rd KEY_BULK_CNT.COUNT ∧ t.rd KEY_BULK_STAT.STATE = Bulk.done ∧
        t.rd KEY_BULK_STAT.DONE_EV = 1 ∧ t.rd (IRQ_PEND 50) = 1 ∧ t.ch = s.ch ∧ t.flow = s.flow ∧
        (FieldsKept ([KEY_BULK_STAT.NEXT, KEY_BULK_STAT.STATE, KEY_BULK_STAT.DONE_EV] ++ poolFields) [50] [4] s t)) ∧
  (∀ (s : State) (win : Fin 7) (value : Word),
      s.writeOpen win 3 → KEY_ROOT_CMD.OP.of value.toNat = 1 → s.rd KEYC.ROOTOP = 0 → s.voteable = true →
      s.provisionable = true →
      ∃ t, exec (.rootProvision win value 15) s = .next t ∧ (t.votes = s.votes ++ [.rootKey]) ∧ t.rd KEYC.ROOTOP = 1 ∧
        t.rd KEYC.ROOTWIN = win.val ∧ t.ch = s.ch ∧ t.flow = s.flow ∧
        SameFields [KEYC.ROOTOP, KEYC.ROOTWIN, KEY_ROOT_CMD.OP, KEY_ROOT_CMD.REFUSED] s t) ∧
  (∀ (s : State) (win : Fin 7) (value : Word),
      s.writeOpen win 3 → KEY_ROOT_CMD.OP.of value.toNat = 2 → s.rd KEYC.ROOTOP = 0 → s.voteable = true →
      s.keyMode = true →
      ∃ t, exec (.rootEraseArm win value 15) s = .next t ∧ (t.votes = s.votes ++ [.rootKey]) ∧ t.rd KEYC.ROOTOP = 2 ∧
        t.rd KEYC.ROOTWIN = win.val ∧ t.ch = s.ch ∧ t.flow = s.flow ∧
        SameFields [KEYC.ROOTOP, KEYC.ROOTWIN, KEY_ROOT_CMD.OP, KEY_ROOT_CMD.REFUSED] s t) ∧
  (∀ (s : State) (win : Fin 7) (value : Word),
      s.writeOpen win 3 → KEY_ROOT_CMD.OP.of value.toNat = 3 → s.rd KEYC.ROOTOP = 0 → s.voteable = true →
      s.keyMode = true → s.on KEY_ROOT_CMD.ARMED = true →
      ∃ t, exec (.rootEraseConfirm win value 15) s = .next t ∧ (t.votes = s.votes ++ [.rootKey]) ∧
        t.rd KEYC.ROOTOP = 3 ∧ t.rd KEYC.ROOTWIN = win.val ∧ t.ch = s.ch ∧ t.flow = s.flow ∧
        SameFields [KEYC.ROOTOP, KEYC.ROOTWIN, KEY_ROOT_CMD.OP, KEY_ROOT_CMD.REFUSED] s t) ∧
  (∀ (s : State),
      s.on KEY_ROOT_CMD.ARMED = true → s.rd KEYC.ROOTOP ≠ 3 →
      ∃ t, exec (.rootEraseArmExpiry) s = .next t ∧ t.rd KEY_ROOT_CMD.ARMED = 0 ∧ t.ch = s.ch ∧ t.flow = s.flow ∧
        SameFields [KEY_ROOT_CMD.ARMED] s t)

/-- O38. A tenant is ready when its entry carries, is encrypted and its next slot is VALID (R292). M is the multiframe
  of
the change. (1) an admitted GO forms the batch of the named tenants that are ready, sets M at the lead and announces
it. (2) an announcement received, with M at least 16 ahead in this end's count and tenants of it ready here, asks for
the arm vote on those. (3) with none ready it is answered with an empty map. (4) its own answer, more than 16 before
M, cuts the batch to what both ends hold and asks for the vote. (5) an empty one is noted. (6) an announcer's batch
not armed at M − 16 fails with cause 0x4, or 0x3 after an empty answer, with source 0xA5 (Table 12.6).
(12_security.md) -/
def Obligations.KeyRollover : Prop :=
  (∀ (s : State) (win : Fin 7) (n : Fin 4) (value : Word) (m : Nat),
      s.writeOpen win 3 → (SEC_ROLL_CTRL.GO n).of value.toNat = 1 →
      (SEC_ROLL_CTRL.BASE n).of value.toNat % 64 = 0 → s.rollCause n = 0 →
      (m = mapOf ((mapBits (s.rd (SEC_ROLL_MAP0.MAP n) + 2 ^ 32 * s.rd (SEC_ROLL_MAP1.MAP n))).filter (fun k =>
        s.rollReady n (((SEC_ROLL_CTRL.BASE n).of value.toNat) + k)))) →
      m ≠ 0 →
      ∃ t, exec (.rolloverGo win n value 15) s = .next t ∧ t.rd (SEC_ROLL_STAT.STATE n) = 1 ∧
        t.rd (SEC_ROLL_STAT.PEER n) = 0 ∧ t.rd (SEC_ROLL_STAT.CAUSE n) = 0 ∧
        t.rd (SEC_ROLL_MF.M n) = ((s.mfn n + Nat.max 64 ((SEC_ROLL_CTRL.LEAD n).of value.toNat)) % 2 ^ 32) ∧
        t.rd (SECC.BATCH n) = m ∧
        (t.ch = s.ch.set n { s.chan n with msgs := (s.chan n).msgs ++ [.rolloverAnnounce ((s.mfn n + Nat.max 64
          ((SEC_ROLL_CTRL.LEAD n).of value.toNat)) % 2 ^ 32) ((SEC_ROLL_CTRL.BASE n).of value.toNat) m] }) ∧
        t.votes = s.votes ∧ t.flow = s.flow ∧
        (SameFields ([SEC_ROLL_STAT.PEER n, SEC_ROLL_STAT.CAUSE n, SEC_ROLL_STAT.STATE n, SECC.BATCH n, SECC.BASE n,
          SEC_ROLL_MF.M n, SECC.FLIP n, SECC.EMPTYACK n, SEC_ROLL_CTRL.GO n, SEC_ROLL_CTRL.BASE n, SEC_ROLL_CTRL.LEAD
          n] ++ (List.range 1024).map (fun k => SEC_TEN.ROLL_ERR n k)) s t)) ∧
  (∀ (s : State) (n : Fin 4) (seq : Fin 256) (rep : Fin 4) (m : BitVec 32) (base : Fin 1024) (map : BitVec 64) (r :
    Nat),
      s.rd (ISC_STAT.CHIP n) = 3 → s.firmware = true → s.rollBusy n = false → s.plainMode n = false →
      16 ≤ mfSub (s.fromPeer n m.toNat) (s.mfn n) → mfSub (s.fromPeer n m.toNat) (s.mfn n) < 2 ^ 31 →
      (r = mapOf ((mapBits map.toNat).filter (fun k => s.rollReady n (base + k)))) → r ≠ 0 →
      ∃ t, exec (.rolloverAnnounceReceived n seq rep m base map) s = .next t ∧
        (t.votes = s.votes ++ [.rolloverArm n]) ∧ t.rd (SEC_ROLL_STAT.STATE n) = 1 ∧ t.rd (SEC_ROLL_STAT.PEER n) = 1 ∧
        t.rd (SEC_ROLL_STAT.CAUSE n) = 0 ∧ t.rd (SEC_ROLL_MF.M n) = s.fromPeer n m.toNat ∧ t.rd (SECC.BATCH n) = r ∧
        t.rd (SECC.PEERM n) = m.toNat ∧ t.ch = s.ch ∧ t.flow = s.flow ∧
        (FieldsKept (messageFields n ++ [SEC_ROLL_STAT.PEER n, SEC_ROLL_STAT.CAUSE n, SEC_ROLL_STAT.STATE n,
          SECC.BATCH n, SECC.BASE n, SEC_ROLL_MF.M n, SECC.FLIP n, SECC.EMPTYACK n, SECC.PEERM n] ++ (List.range
          1024).map (fun k => SEC_TEN.ROLL_ERR n k)) [] [n] s t)) ∧
  (∀ (s : State) (n : Fin 4) (seq : Fin 256) (rep : Fin 4) (m : BitVec 32) (base : Fin 1024) (map : BitVec 64),
      s.rd (ISC_STAT.CHIP n) = 3 → s.firmware = true → s.rollBusy n = false →
      ((mapBits map.toNat).all (fun k => !s.rollReady n (base + k)) = true) →
      ∃ t, exec (.rolloverAnnounceReceived n seq rep m base map) s = .next t ∧ t.votes = s.votes ∧
        (t.ch = s.ch.set n { s.chan n with msgs := (s.chan n).msgs ++ [.rolloverAck m.toNat base 0] }) ∧
        t.flow = s.flow ∧ FieldsKept (messageFields n) [] [n] s t) ∧
  (∀ (s : State) (n : Fin 4) (seq : Fin 256) (rep : Fin 4) (m : BitVec 32) (base : Fin 1024) (map : BitVec 64) (r :
    Nat),
      s.rd (ISC_STAT.CHIP n) = 3 → s.firmware = true → s.rd (SEC_ROLL_STAT.STATE n) = 1 →
      s.on (SEC_ROLL_STAT.PEER n) = false → s.rd (SEC_ROLL_MF.M n) = m.toNat → s.rd (SECC.BASE n) = base.val →
      16 < s.rollLeft n → (r = mapOf ((mapBits (s.rd (SECC.BATCH n))).filter (fun k => bit map.toNat k = 1))) →
      r ≠ 0 →
      ∃ t, exec (.rolloverAckReceived n seq rep m base map) s = .next t ∧ (t.votes = s.votes ++ [.rolloverArm n]) ∧
        t.rd (SECC.BATCH n) = r ∧ t.rd (SEC_ROLL_STAT.STATE n) = 1 ∧ t.ch = s.ch ∧ t.flow = s.flow ∧
        (FieldsKept (messageFields n ++ [SECC.BATCH n] ++ (List.range 1024).map (fun k => SEC_TEN.ROLL_ERR n k)) []
          [n] s t)) ∧
  (∀ (s : State) (n : Fin 4) (seq : Fin 256) (rep : Fin 4) (m : BitVec 32) (base : Fin 1024),
      s.rd (ISC_STAT.CHIP n) = 3 → s.firmware = true → s.rd (SEC_ROLL_STAT.STATE n) = 1 →
      s.on (SEC_ROLL_STAT.PEER n) = false → s.rd (SEC_ROLL_MF.M n) = m.toNat → s.rd (SECC.BASE n) = base.val →
      16 < s.rollLeft n →
      ∃ t, exec (.rolloverAckReceived n seq rep m base 0#64) s = .next t ∧ t.votes = s.votes ∧
        t.rd (SECC.EMPTYACK n) = 1 ∧ t.ch = s.ch ∧ t.flow = s.flow ∧
        (FieldsKept (messageFields n ++ [SECC.EMPTYACK n]) [] [n] s t)) ∧
  (∀ (s : State) (n : Fin 4),
      s.rd (SEC_ROLL_STAT.STATE n) = 1 → s.on (SEC_ROLL_STAT.PEER n) = false → s.rollLeft n ≤ 16 →
      ∃ t, exec (.rolloverAckDeadline n) s = .next t ∧ t.rd (SEC_ROLL_STAT.STATE n) = 5 ∧
        (t.rd (SEC_ROLL_STAT.CAUSE n) = if s.on (SECC.EMPTYACK n) then 3 else 4) ∧ t.rd (SEC_STAT.ROLLF_EV n) = 1 ∧
        t.rd (IRQ_PEND (sourceOf n 0xA5)) = 1 ∧ t.ch = s.ch ∧ t.flow = s.flow ∧
        FieldsKept [SEC_ROLL_STAT.STATE n, SEC_ROLL_STAT.CAUSE n, SEC_STAT.ROLLF_EV n] [sourceOf n 0xA5] [4] s t)

/-- O39. The erasure leaves every tenant slot and KEK EMPTY with no key, and sets ZERO_EV; each event is the newest
  record
of the plinth's log (R298, R299). (1) KEY_ZEROISE with its code at admin level erases, keeps the root key, and takes a
device that operates to LOCKDOWN with every laser off. (2) so does ZEROISE_N in any mode but RESET and KEEP. (3) its
end shows in KEY_STAT alone. (4) TAMPER_N does the same and erases the root key. (5) in RESET it erases them with no
change of mode. (6) in KEEP it erases the root key, with the record. (7) VKEEP low with VIO gone loses the root key,
with a record. (8) and without one where the plinth can no longer write.  (12_security.md) -/
def Obligations.LockdownErasesEveryKey : Prop :=
  (∀ (s : State) (win : Fin 7) (value : Word),
      s.writeOpen win 3 → KEY_ZEROISE.GO.of value.toNat = 1 → KEY_ZEROISE.CODE.of value.toNat = 0xC3 →
      s.operating = true →
      ∃ t, exec (.zeroiseCommand win value 15) s = .next t ∧
        (∀ g : Fin 8192, t.rd (KEY_SLOT.STATE g) = 0 ∧ t.rd (KEYC.KEY g) = 0) ∧
        (∀ j : Fin 64, t.rd (KEY_KEK.STATE j) = 0 ∧ t.rd (KEYC.KEK j) = 0) ∧ t.rd KEY_STAT.ZERO_EV = 1 ∧
        t.mode = Mode.lockdown ∧ (∀ n : Fin 4, t.phase n = Phase.off) ∧ t.rd KEYC.ROOT = s.rd KEYC.ROOT ∧
        t.rd (KEY_PLOG.CAUSE 0) = 3) ∧
  (∀ (s : State),
      s.on PIN.ZEROISE = false → s.mode ≠ Mode.keep → s.mode ≠ Mode.reset →
      ∃ t, exec (.zeroiseInput true) s = .next t ∧
        (∀ g : Fin 8192, t.rd (KEY_SLOT.STATE g) = 0 ∧ t.rd (KEYC.KEY g) = 0) ∧
        (∀ j : Fin 64, t.rd (KEY_KEK.STATE j) = 0 ∧ t.rd (KEYC.KEK j) = 0) ∧ t.rd KEY_STAT.ZERO_EV = 1 ∧
        t.mode = Mode.lockdown ∧ (∀ n : Fin 4, t.phase n = Phase.off) ∧ t.rd KEYC.ROOT = s.rd KEYC.ROOT ∧
        t.rd (KEY_PLOG.CAUSE 0) = 2) ∧
  (∀ (s : State),
      ∃ t, exec (.zeroiseInput false) s = .next t ∧ t.rd KEY_STAT.ZEROISE_PIN = 0 ∧ t.rd PIN.ZEROISE = 0 ∧
        t.ch = s.ch ∧ t.flow = s.flow ∧ SameFields [KEY_STAT.ZEROISE_PIN, PIN.ZEROISE] s t) ∧
  (∀ (s : State),
      s.on PIN.TAMPER = false → s.mode ≠ Mode.keep → s.mode ≠ Mode.reset →
      ∃ t, exec (.tamperInput true) s = .next t ∧
        (∀ g : Fin 8192, t.rd (KEY_SLOT.STATE g) = 0 ∧ t.rd (KEYC.KEY g) = 0) ∧
        (∀ j : Fin 64, t.rd (KEY_KEK.STATE j) = 0 ∧ t.rd (KEYC.KEK j) = 0) ∧ t.rd KEY_STAT.ZERO_EV = 1 ∧
        t.mode = Mode.lockdown ∧ (∀ n : Fin 4, t.phase n = Phase.off) ∧ t.rd KEYC.ROOT = 0 ∧ t.rd KEY_STAT.ROOT = 0 ∧
        t.rd CST_INFO.AUTH_REQ = 0 ∧ t.rd (KEY_PLOG.CAUSE 0) = 1) ∧
  (∀ (s : State),
      s.on PIN.TAMPER = false → s.mode = Mode.reset →
      ∃ t, exec (.tamperInput true) s = .next t ∧
        (∀ g : Fin 8192, t.rd (KEY_SLOT.STATE g) = 0 ∧ t.rd (KEYC.KEY g) = 0) ∧
        (∀ j : Fin 64, t.rd (KEY_KEK.STATE j) = 0 ∧ t.rd (KEYC.KEK j) = 0) ∧ t.rd KEY_STAT.ZERO_EV = 1 ∧
        t.mode = Mode.reset ∧ t.rd KEYC.ROOT = 0 ∧ t.rd KEY_STAT.ROOT = 0 ∧ t.rd (KEY_PLOG.CAUSE 0) = 1 ∧
        t.ch = s.ch ∧ t.flow = s.flow) ∧
  (∀ (s : State),
      s.on PIN.TAMPER = false → s.mode = Mode.keep →
      ∃ t, exec (.tamperInput true) s = .next t ∧ t.rd KEYC.ROOT = 0 ∧ t.rd KEY_STAT.ROOT = 0 ∧
        (t.rd (KEY_PLOG.CAUSE 0) = 1 ∧ t.rd (KEY_PLOG.MODE 0) = Mode.keep ∧ t.rd (KEY_PLOG.TIME 0) = s.rd KEY_RTC.SEC
          % 2 ^ 24) ∧
        t.rd (KEY_PLOG.CAUSE 7) = s.rd (KEY_PLOG.CAUSE 6) ∧ t.ch = s.ch ∧ t.flow = s.flow ∧
        (SameFields (plinthFields ++ [PIN.TAMPER, KEY_STAT.TAMPER_PIN, KEYC.ROOT, KEYC.ROOTST, KEY_STAT.ROOT,
          CST_INFO.AUTH_REQ, KEY_ROOT_CMD.ARMED]) s t)) ∧
  (∀ (s : State),
      s.vioOk = false →
      ∃ t, exec (.vkeepLow true) s = .next t ∧ t.rd KEYC.ROOT = 0 ∧ t.rd KEY_STAT.ROOT = 2 ∧
        t.rd (KEY_PLOG.CAUSE 0) = 6 ∧ t.rd (KEY_PLOG.CAUSE 1) = s.rd (KEY_PLOG.CAUSE 0) ∧ t.ch = s.ch ∧
        t.flow = s.flow ∧ (SameFields (plinthFields ++ [KEYC.ROOT, KEYC.ROOTST, KEY_STAT.ROOT]) s t)) ∧
  (∀ (s : State),
      s.vioOk = false →
      ∃ t, exec (.vkeepLow false) s = .next t ∧ t.rd KEY_STAT.ROOT = 2 ∧ t.rd KEYC.ROOT = 0 ∧ t.ch = s.ch ∧
        t.flow = s.flow ∧ SameFields [KEYC.ROOT, KEYC.ROOTST, KEY_STAT.ROOT] s t)

/-- O40. Converter b is that of channel b, or for b = 4 the module's; its sources are 0x80 to 0x82 of the channel, or 80
to 82. (1) with the flat set in force, no fade, no DC block, no calibration at work, the end of a conversion delivers
to MON_RES, settled, the output at the filter's centre, four conversions back, of the input that an urgent request
named, else of the next one that MON_DLV lists (R310 to R313). (2) without its clock it does nothing. (3) the CIC
filter of each input takes the input's modulator samples under the preset in force (R303, R305); here no change of
preset waits. (4) a read of MON_RES returns it and clears FULL. (5) an admitted urgent request, with none pending,
waits for the period's end. (6) with one pending it is refused. (7) a preset is taken and comes into force at the
period's end; DCK is 4 to 16. (8) so is a compensation set outside a fade. (9) a coefficient is written in a set not
in use. (10) loss of the clock shows with CLK_EV and its source, and holds a channel's bias loops (R315). (11) relock
clears it with every input unsettled. (12) while the loops run, a block of 16 results l of a tap with an unsettled
one, or with a mean below 1% of full scale over its gain, is skipped and counted (R317). (13) any other moves a locked
loop, here the tap's first with the other two held, against its demodulated error e scaled by GAIN; short of 10 V and
of a loss of its operating point it stays locked (R318, R319). (14) the sixteenth update in a row at the rail of 10 V
loses it: LOSS_EV with source 0x83, and the channel's bias fault (Table 13.7).  (13_monitor_and_bias.md) -/
def Obligations.MonitorConvertersDeliver : Prop :=
  (∀ (s : State) (b : Fin 5) (codes : List (List Int)) (k : Fin 32) (v : Int),
      s.answers = true → s.on (MON_STAT.CLK_LOSS b) = false → s.rd (MONC.CS_ACT b) = 0 → s.rd (MONC.FADE b) = 0 →
      ((if s.on (MON_STAT.URG_PEND b) = true then some (s.rd (MONC.URG_IN b)) else nextInput (s.rd (MON_DLV.MASK b))
        (s.rd (MONC.LASTIN b))) = some k.val) →
      s.rdBit (MON_DCB_EN.EN b) k = false → s.rd (MONC.UNS b k) = 0 →
      v = ((keyed (32 * b.val + k.val) s.monHist).getD MonInput.zero).hist.getD 3 0 →
      (-(2 ^ 23) ≤ v ∧ v < 2 ^ 23) → s.rd CAL_RUN_STAT.STATE = 0 →
      ∃ t, exec (.monitorConversionEnd b codes) s = .next t ∧ t.rdS (MON_RES.VALUE b) = v ∧
        t.rd (MON_RES.INPUT b) = k.val ∧
        (t.rd (MON_RES.URGENT b) = s.rd (MON_STAT.URG_PEND b) ∧ t.rd (MON_RES.UNSETTLED b) = 0 ∧ t.rd (MON_RES.CLIP b)
          = 0) ∧
        t.rd (MON_STAT.FULL b) = 1 ∧
        (s.on (MON_STAT.FULL b) = true → t.rd (MON_STAT.OVR b) = 1 ∧ t.rd (MON_CNT.OVR b) = s.oneMore (MON_CNT.OVR b)) ∧
        t.rd (MON_STAT.URG_PEND b) = 0 ∧
        t.rd (MON_STAT.SEQ b) = (s.rd (MON_STAT.SEQ b) + 1) % 2 ^ (MON_STAT.SEQ b).width ∧
        (t.rd (IRQ_PEND (if b < 4 then sourceOf b 0x80 else 80)) = 1) ∧ t.flow = s.flow) ∧
  (∀ (s : State) (b : Fin 5) (codes : List (List Int)),
      (s.answers = false ∨ s.on (MON_STAT.CLK_LOSS b) = true) →
      ∃ t, exec (.monitorConversionEnd b codes) s = .next t ∧ t = s) ∧
  (∀ (s : State) (b : Fin 5) (codes : List (List Int)) (k : Fin 32),
      s.answers = true → s.on (MON_STAT.CLK_LOSS b) = false →
      s.rd (MON_CTRL.PRESET b) = s.rd (MON_STAT.PRESET_ACT b) →
      ∃ t, exec (.monitorConversionEnd b codes) s = .next t ∧
        keyed (32 * b.val + k.val) t.monHist = some (((keyed (32 * b.val + k.val) s.monHist).getD MonInput.zero).next
          (s.rd (MON_STAT.PRESET_ACT b)) (codes.getD k [])).2 ∧
        t.flow = s.flow) ∧
  (∀ (s : State) (win : Fin 7) (b : Fin 5),
      s.answers = true → readLevel (8 + monBase b) ≤ s.level win →
      ∃ t, exec (.monitorResultRead win b) s = .next t ∧
        (t.out = .readData (8 + monBase b) (s.readWord (8 + monBase b)) :: s.out) ∧ t.rd (MON_STAT.FULL b) = 0 ∧
        t.ch = s.ch ∧ t.flow = s.flow ∧ SameFields [MON_STAT.FULL b] s t) ∧
  (∀ (s : State) (win : Fin 7) (b : Fin 5) (value : Word),
      s.writeOpen win 2 → (MON_URG.GO b).of value.toNat = 1 → s.on (MON_STAT.URG_PEND b) = false →
      ∃ t, exec (.monitorUrgentRequest win b value 15) s = .next t ∧ t.rd (MON_STAT.URG_PEND b) = 1 ∧
        t.rd (MONC.URG_IN b) = (MON_URG.INPUT b).of value.toNat ∧ t.ch = s.ch ∧ t.flow = s.flow ∧
        SameFields [MON_STAT.URG_PEND b, MONC.URG_IN b] s t) ∧
  (∀ (s : State) (win : Fin 7) (b : Fin 5) (value : Word),
      s.writeOpen win 2 → (MON_URG.GO b).of value.toNat = 1 → s.on (MON_STAT.URG_PEND b) = true →
      ∃ t, exec (.monitorUrgentRequest win b value 15) s = .next t ∧ s.refusedAs t win (0xC + monBase b) 5 false ∧
        t.ch = s.ch ∧ t.flow = s.flow) ∧
  (∀ (s : State) (win : Fin 7) (b : Fin 5) (value : Word),
      s.writeOpen win 2 →
      ((MON_CTRL.CS b).of value.toNat = s.rd (MON_CTRL.CS b) ∨ s.on (MON_STAT.XFADE b) = false) →
      (4 ≤ (MON_CTRL.DCK b).of value.toNat ∧ (MON_CTRL.DCK b).of value.toNat ≤ 16) →
      ∃ t, exec (.monitorPresetChange win b value 15) s = .next t ∧
        t.rd (MON_CTRL.PRESET b) = (MON_CTRL.PRESET b).of value.toNat ∧
        t.rd (MON_STAT.PRESET_ACT b) = s.rd (MON_STAT.PRESET_ACT b) ∧
        t.rd (MON_CTRL.CS b) = (MON_CTRL.CS b).of value.toNat ∧
        t.rd (MON_CTRL.DCK b) = (MON_CTRL.DCK b).of value.toNat ∧ t.ch = s.ch ∧ t.flow = s.flow ∧
        SameFields [MON_CTRL.PRESET b, MON_CTRL.CS b, MON_CTRL.DCK b] s t) ∧
  (∀ (s : State) (win : Fin 7) (b : Fin 5) (value : Word),
      s.writeOpen win 2 → s.on (MON_STAT.XFADE b) = false →
      (4 ≤ (MON_CTRL.DCK b).of value.toNat ∧ (MON_CTRL.DCK b).of value.toNat ≤ 16) →
      ∃ t, exec (.compensationSetChange win b value 15) s = .next t ∧
        t.rd (MON_CTRL.CS b) = (MON_CTRL.CS b).of value.toNat ∧ t.rd (MONC.CS_ACT b) = s.rd (MONC.CS_ACT b) ∧
        t.rd (MON_CTRL.PRESET b) = (MON_CTRL.PRESET b).of value.toNat ∧
        t.rd (MON_CTRL.DCK b) = (MON_CTRL.DCK b).of value.toNat ∧ t.ch = s.ch ∧ t.flow = s.flow ∧
        SameFields [MON_CTRL.PRESET b, MON_CTRL.CS b, MON_CTRL.DCK b] s t) ∧
  (∀ (s : State) (win : Fin 7) (b : Fin 5) (value : Word) (set : Fin 2) (tap : Fin 5),
      s.writeOpen win 2 → s.rd (MON_COEF_SEL.SET b) = set.val → s.rd (MON_COEF_SEL.TAP b) = tap.val →
      s.setInUse b (2 + set) = false →
      ∃ t, exec (.coefficientWrite win b value 15) s = .next t ∧
        t.rd (MON_COEF_DATA.COEF b (8 * set + tap)) = value.toNat % 2 ^ 18 ∧ t.ch = s.ch ∧ t.flow = s.flow ∧
        SameFields [MON_COEF_DATA.COEF b (8 * set + tap)] s t) ∧
  (∀ (s : State) (b : Fin 5),
      s.answers = true → s.on (MON_STAT.CLK_LOSS b) = false →
      ∃ t, exec (.monitorClockLoss b) s = .next t ∧ t.rd (MON_STAT.CLK_LOSS b) = 1 ∧ t.rd (MON_STAT.CLK_EV b) = 1 ∧
        (t.rd (IRQ_PEND (if b < 4 then sourceOf b 0x82 else 82)) = 1) ∧
        (b < 4 → t.rd (MON_BIAS_STAT.LOCK b) = 0 ∧ ∀ l : Fin 6, t.rd (BIASC.STATE b l) = 0 ∧ t.rd (MON_BIAS_B.V b l) =
          s.rd (MON_BIAS_B.V b l)) ∧
        t.ch = s.ch ∧ t.flow = s.flow) ∧
  (∀ (s : State) (b : Fin 5) (k : Fin 32),
      s.on (MON_STAT.CLK_LOSS b) = true →
      ∃ t, exec (.monitorClockRelock b) s = .next t ∧ t.rd (MON_STAT.CLK_LOSS b) = 0 ∧
        t.rd (MONC.UNS b k) = settleCount (s.rd (MON_STAT.PRESET_ACT b)) ∧ t.rdBit (MONC.PRELOAD b) k = true ∧
        t.ch = s.ch ∧ t.flow = s.flow) ∧
  (∀ (s : State) (n : Fin 4) (tap : Fin 2) (vpi : List Nat) (l : List (Int × Bool)),
      s.biasRuns n = true → keyed (2 * n + tap) s.taps = some l → l.length = 16 →
      (l.any Prod.snd = true ∨ (l.map Prod.fst).sum * 200 < 2 * 16 * 2 ^ 23 * (s.monGain n tap : Int)) →
      ∃ t, exec (.biasBlockEnd n tap vpi) s = .next t ∧
        t.rd (MON_BIAS_STAT.SKIP n) = s.oneMore (MON_BIAS_STAT.SKIP n) ∧ t.ch = s.ch ∧ t.flow = s.flow ∧
        FieldsKept [MON_BIAS_STAT.SKIP n] [] [n] s t) ∧
  (∀ (s : State) (n : Fin 4) (tap : Fin 2) (vpi : List Nat) (l : List (Int × Bool)) (e v : Int),
      s.biasRuns n = true → keyed (2 * n + tap) s.taps = some l → l.length = 16 → l.any Prod.snd = false →
      2 * 16 * 2 ^ 23 * (s.monGain n tap : Int) ≤ (l.map Prod.fst).sum * 200 →
      s.rd (BIASC.STATE n (3 * tap + 1)) = 0 → s.rd (BIASC.STATE n (3 * tap + 2)) = 0 →
      (e = roundQ ((l.reverse.zipIdx.map (fun (p : (Int × Bool) × Nat) => p.1.1 * chipSign (3 * tap) (p.2 / 2))).sum *
        65536) (l.reverse.map Prod.fst).sum.natAbs) →
      v = s.rdS (MON_BIAS_B.V n (3 * tap)) - roundQ (e * 10000) (65536 * 2 ^ s.rd (MON_BIAS_CTRL.GAIN n)) →
      s.rd (BIASC.STATE n (3 * tap)) = 2 → (-10000 < v ∧ v < 10000) →
      e.natAbs ≤ 4 * s.rd (MON_BIAS_CTRL.LOCK_THR n) → (-32768 ≤ e ∧ e < 32768) →
      s.rd (BIASC.UPD n (3 * tap)) ≠ 63 → s.rd (BIASC.VPI_BAD n (3 * tap)) < 4 →
      ∃ t, exec (.biasBlockEnd n tap vpi) s = .next t ∧ t.rdS (MON_BIAS_B.V n (3 * tap)) = v ∧
        t.rdS (MON_BIAS_B.ERR n (3 * tap)) = e ∧ t.rd (BIASC.STATE n (3 * tap)) = 2 ∧
        t.rd (BIASC.LARGE n (3 * tap)) = 0 ∧ t.ch = s.ch ∧ t.flow = s.flow ∧
        FieldsKept [MON_BIAS_B.V n (3 * tap), MON_BIAS_B.ERR n (3 * tap), BIASC.UPD n (3 * tap), BIASC.SMALL n (3 *
          tap), BIASC.TRIES n (3 * tap), BIASC.LARGE n (3 * tap), BIASC.RAIL n (3 * tap)] [] [n] s t) ∧
  (∀ (s : State) (n : Fin 4) (tap : Fin 2) (vpi : List Nat) (l : List (Int × Bool)) (e v : Int),
      s.biasRuns n = true → keyed (2 * n + tap) s.taps = some l → l.length = 16 → l.any Prod.snd = false →
      2 * 16 * 2 ^ 23 * (s.monGain n tap : Int) ≤ (l.map Prod.fst).sum * 200 →
      s.rd (BIASC.STATE n (3 * tap + 1)) = 0 → s.rd (BIASC.STATE n (3 * tap + 2)) = 0 →
      (e = roundQ ((l.reverse.zipIdx.map (fun (p : (Int × Bool) × Nat) => p.1.1 * chipSign (3 * tap) (p.2 / 2))).sum *
        65536) (l.reverse.map Prod.fst).sum.natAbs) →
      v = s.rdS (MON_BIAS_B.V n (3 * tap)) - roundQ (e * 10000) (65536 * 2 ^ s.rd (MON_BIAS_CTRL.GAIN n)) →
      s.rd (BIASC.STATE n (3 * tap)) ≠ 0 → (v ≤ -10000 ∨ 10000 ≤ v) → s.rd (BIASC.RAIL n (3 * tap)) = 15 →
      ∃ t, exec (.biasBlockEnd n tap vpi) s = .next t ∧ t.rd (MON_BIAS_STAT.LOSS_EV n) = 1 ∧
        t.rd (IRQ_PEND (sourceOf n 0x83)) = 1 ∧
        (s.rd (MON_BIAS_STAT.LOSS_CAUSE n) = 0 → t.rd (MON_BIAS_STAT.LOSS_CAUSE n) = 1 ∧ t.rd (MON_BIAS_STAT.LOSS_LOOP
          n) = 3 * tap) ∧
        t.rd (OPT_FAULT.BIAS n) = 1)

/-- O41. No operation runs; calRefusal is 0 when Table 14.3 and R328 let the operation start. Fields that the run has
named are those of CAL_RUN_STAT and CAL_PROG. (1) FULL of a channel measures, and asks the vote for its loopback light
(R330). (2) of the module it needs no light. (3) TRACK measures. (4) LOAD of copy r asks the apply vote; of the newest
it writes nothing, of another its record gets a new header. (5) REWRITE takes the set in force and asks the same vote.
(6) under an operation a GO gives cause 0x1 and changes no more. (7) one that may not start ends FAILED with its cause
and source 65. (8) a set in force older than TRACK_PER hours asks for a TRACK run, one an hour (R338). (9) so does an
ENG_TEMP more than TRACK_DT from its TEMP. (10) one within TRACK_DT does nothing. (11) a waiting TRACK run starts once
its scope meets R328. (12) a waiting FULL run of a channel starts before it.  (14_calibration.md) -/
def Obligations.CalibrationRunsStart : Prop :=
  (∀ (s : State) (win : Fin 7) (value : Word) (n : Fin 4),
      s.writeOpen win 2 →
      (CAL_CMD.GO.of value.toNat = 1 ∧ CAL_CMD.TYPE.of value.toNat = 1 ∧ CAL_CMD.SCOPE.of value.toNat = n.val) →
      s.calBusy = false → s.calRefusal 1 n (CAL_CMD.SRC.of value.toNat) = 0 →
      ∃ t, exec (.calFull win value 15) s = .next t ∧
        (t.rd CAL_RUN_STAT.STATE = 1 ∧ t.rd CAL_RUN_STAT.TYPE = 1 ∧ t.rd CAL_RUN_STAT.SCOPE = n.val ∧ t.rd
          CAL_RUN_STAT.CAUSE = 0) ∧
        (t.rd CAL_PROG.NEXT = 0 ∧ t.rd CAL_PROG.TOTAL = 552) ∧ t.rd CALC.IGN = CAL_CMD.IGN_STEP.of value.toNat ∧
        (t.votes = s.votes ++ [.loopback n]) ∧ t.ch = s.ch ∧ t.flow = s.flow ∧
        SameFields [CAL_RUN_STAT.SCOPE, CAL_RUN_STAT.TYPE, CAL_RUN_STAT.CAUSE, CAL_RUN_STAT.PAUSE, CAL_RUN_STAT.STATE,
          CALC.IGN, CALC.SRC, CALC.PASS, CALC.NOWRITE, CALC.LIGHT, CAL_PROG.NEXT, CAL_PROG.TOTAL] s t) ∧
  (∀ (s : State) (win : Fin 7) (value : Word) (n : Fin 5),
      s.writeOpen win 2 →
      (CAL_CMD.GO.of value.toNat = 1 ∧ CAL_CMD.TYPE.of value.toNat = 1 ∧ CAL_CMD.SCOPE.of value.toNat = n.val) →
      s.calBusy = false → s.calRefusal 1 n (CAL_CMD.SRC.of value.toNat) = 0 → n = 4 →
      ∃ t, exec (.calFull win value 15) s = .next t ∧
        (t.rd CAL_RUN_STAT.STATE = 1 ∧ t.rd CAL_RUN_STAT.TYPE = 1 ∧ t.rd CAL_RUN_STAT.SCOPE = n.val ∧ t.rd
          CAL_RUN_STAT.CAUSE = 0) ∧
        (t.rd CAL_PROG.NEXT = 0 ∧ t.rd CAL_PROG.TOTAL = 1) ∧ t.rd CALC.IGN = CAL_CMD.IGN_STEP.of value.toNat ∧
        t.votes = s.votes ∧ t.ch = s.ch ∧ t.flow = s.flow ∧
        SameFields [CAL_RUN_STAT.SCOPE, CAL_RUN_STAT.TYPE, CAL_RUN_STAT.CAUSE, CAL_RUN_STAT.PAUSE, CAL_RUN_STAT.STATE,
          CALC.IGN, CALC.SRC, CALC.PASS, CALC.NOWRITE, CALC.LIGHT, CAL_PROG.NEXT, CAL_PROG.TOTAL] s t) ∧
  (∀ (s : State) (win : Fin 7) (value : Word) (sc : Fin 5),
      s.writeOpen win 2 →
      (CAL_CMD.GO.of value.toNat = 1 ∧ CAL_CMD.TYPE.of value.toNat = 2 ∧ CAL_CMD.SCOPE.of value.toNat = sc.val) →
      s.calBusy = false → s.calRefusal 2 sc (CAL_CMD.SRC.of value.toNat) = 0 →
      ∃ t, exec (.calTrack win value 15) s = .next t ∧
        (t.rd CAL_RUN_STAT.STATE = 1 ∧ t.rd CAL_RUN_STAT.TYPE = 2 ∧ t.rd CAL_RUN_STAT.SCOPE = sc.val ∧ t.rd
          CAL_RUN_STAT.CAUSE = 0) ∧
        (t.rd CAL_PROG.NEXT = 0 ∧ t.rd CAL_PROG.TOTAL = if sc.val < 4 then 552 else 1) ∧ t.votes = s.votes ∧
        t.ch = s.ch ∧ t.flow = s.flow ∧
        SameFields [CAL_RUN_STAT.SCOPE, CAL_RUN_STAT.TYPE, CAL_RUN_STAT.CAUSE, CAL_RUN_STAT.PAUSE, CAL_RUN_STAT.STATE,
          CALC.IGN, CALC.SRC, CALC.PASS, CALC.NOWRITE, CALC.LIGHT, CAL_PROG.NEXT, CAL_PROG.TOTAL] s t) ∧
  (∀ (s : State) (win : Fin 7) (value : Word) (sc : Fin 5) (r : Nat),
      s.writeOpen win 2 →
      (CAL_CMD.GO.of value.toNat = 1 ∧ CAL_CMD.TYPE.of value.toNat = 3 ∧ CAL_CMD.SCOPE.of value.toNat = sc.val) →
      s.calBusy = false → s.calRefusal 3 sc (CAL_CMD.SRC.of value.toNat) = 0 →
      s.loadSource sc (CAL_CMD.SRC.of value.toNat) = some r →
      ∃ t, exec (.calLoad win value 15) s = .next t ∧
        (t.rd CAL_RUN_STAT.STATE = 3 ∧ t.rd CAL_RUN_STAT.TYPE = 3 ∧ t.rd CAL_RUN_STAT.SCOPE = sc.val ∧ t.rd
          CAL_RUN_STAT.CAUSE = 0) ∧
        (t.rd CAL_PROG.NEXT = 0 ∧ t.rd CAL_PROG.TOTAL = if sc.val < 4 then 552 else 1) ∧
        (t.votes = s.votes ++ [.calApply]) ∧
        (s.newestAB sc = some r → t.runSet = s.copyOf sc r ∧ t.rd CALC.NOWRITE = 1) ∧
        (s.newestAB sc ≠ some r → t.runSet = s.restamp sc 3 (s.copyOf sc r) ∧ t.rd CALC.NOWRITE = 0) ∧ t.ch = s.ch ∧
        t.flow = s.flow ∧
        SameFields [CAL_RUN_STAT.SCOPE, CAL_RUN_STAT.TYPE, CAL_RUN_STAT.CAUSE, CAL_RUN_STAT.PAUSE, CAL_RUN_STAT.STATE,
          CALC.IGN, CALC.SRC, CALC.PASS, CALC.NOWRITE, CALC.LIGHT, CAL_PROG.NEXT, CAL_PROG.TOTAL, CALC.REGION] s t) ∧
  (∀ (s : State) (win : Fin 7) (value : Word) (sc : Fin 5),
      s.writeOpen win 2 →
      (CAL_CMD.GO.of value.toNat = 1 ∧ CAL_CMD.TYPE.of value.toNat = 4 ∧ CAL_CMD.SCOPE.of value.toNat = sc.val) →
      s.calBusy = false → s.calRefusal 4 sc (CAL_CMD.SRC.of value.toNat) = 0 →
      ∃ t, exec (.calRewrite win value 15) s = .next t ∧
        (t.rd CAL_RUN_STAT.STATE = 3 ∧ t.rd CAL_RUN_STAT.TYPE = 4 ∧ t.rd CAL_RUN_STAT.SCOPE = sc.val ∧ t.rd
          CAL_RUN_STAT.CAUSE = 0) ∧
        (t.rd CAL_PROG.NEXT = 0 ∧ t.rd CAL_PROG.TOTAL = if sc.val < 4 then 552 else 1) ∧ t.runSet = s.setOf sc ∧
        (t.votes = s.votes ++ [.calApply]) ∧ t.ch = s.ch ∧ t.flow = s.flow ∧
        SameFields [CAL_RUN_STAT.SCOPE, CAL_RUN_STAT.TYPE, CAL_RUN_STAT.CAUSE, CAL_RUN_STAT.PAUSE, CAL_RUN_STAT.STATE,
          CALC.IGN, CALC.SRC, CALC.PASS, CALC.NOWRITE, CALC.LIGHT, CAL_PROG.NEXT, CAL_PROG.TOTAL] s t) ∧
  (∀ (s : State) (win : Fin 7) (value : Word) (sc : Fin 5),
      s.writeOpen win 2 →
      (CAL_CMD.GO.of value.toNat = 1 ∧ CAL_CMD.TYPE.of value.toNat = 2 ∧ CAL_CMD.SCOPE.of value.toNat = sc.val) →
      s.calBusy = true →
      ∃ t, exec (.calTrack win value 15) s = .next t ∧ t.rd CAL_RUN_STAT.CAUSE = 1 ∧ t.votes = s.votes ∧ t.ch = s.ch ∧
        t.flow = s.flow ∧ SameFields [CAL_RUN_STAT.CAUSE] s t) ∧
  (∀ (s : State) (win : Fin 7) (value : Word) (sc : Fin 5) (k : Nat),
      s.writeOpen win 2 →
      (CAL_CMD.GO.of value.toNat = 1 ∧ CAL_CMD.TYPE.of value.toNat = 2 ∧ CAL_CMD.SCOPE.of value.toNat = sc.val) →
      s.calBusy = false → s.calRefusal 2 sc (CAL_CMD.SRC.of value.toNat) = k + 1 →
      ∃ t, exec (.calTrack win value 15) s = .next t ∧
        (t.rd CAL_RUN_STAT.STATE = 8 ∧ t.rd CAL_RUN_STAT.CAUSE = k + 1 ∧ t.rd CAL_RUN_STAT.TYPE = 2 ∧ t.rd
          CAL_RUN_STAT.SCOPE = sc.val) ∧
        t.rd CAL_RUN_STAT.FAIL_EV = 1 ∧ t.rd (IRQ_PEND 65) = 1 ∧ t.votes = s.votes ∧ t.ch = s.ch ∧ t.flow = s.flow ∧
        FieldsKept [CAL_RUN_STAT.SCOPE, CAL_RUN_STAT.TYPE, CAL_RUN_STAT.CAUSE, CAL_RUN_STAT.STATE,
          CAL_RUN_STAT.FAIL_EV] [65] [] s t) ∧
  (∀ (s : State) (sc : Fin 5),
      s.operating = true → s.rd CAL_POLICY.TRACK_PER ≠ 0 → s.on (CAL_SSTAT_S.INFORCE sc) = true →
      s.rd CAL_POLICY.TRACK_PER * 3600 < s.rd KEY_RTC.SEC - s.rd (CAL_TIME_S.RTC sc) → s.hourPassed sc = true →
      ∃ t, exec (.calPolicyAgeTrigger sc) s = .next t ∧ t.rdBit CALC.WAIT_TRACK sc = true ∧ t.ch = s.ch ∧
        t.flow = s.flow ∧ SameFields [CALC.WAIT_TRACK] s t) ∧
  (∀ (s : State) (n : Fin 4) (temp : Int),
      s.operating = true → s.rd CAL_POLICY.TRACK_DT ≠ 0 → s.on (CAL_SSTAT_S.INFORCE n) = true →
      50 * s.rd CAL_POLICY.TRACK_DT < (temp - 50 * s.rdS (CAL_SSTAT_S.TEMP n)).natAbs → s.hourPassed n = true →
      ∃ t, exec (.calPolicyTemperatureCheck n temp) s = .next t ∧ t.rdBit CALC.WAIT_TRACK n = true ∧ t.ch = s.ch ∧
        t.flow = s.flow ∧ SameFields [CALC.WAIT_TRACK] s t) ∧
  (∀ (s : State) (n : Fin 4) (temp : Int),
      (temp - 50 * s.rdS (CAL_SSTAT_S.TEMP n)).natAbs ≤ 50 * s.rd CAL_POLICY.TRACK_DT →
      ∃ t, exec (.calPolicyTemperatureCheck n temp) s = .next t ∧ t = s) ∧
  (∀ (s : State) (sc : Fin 5),
      s.calBusy = false → (s.rdBit CALC.WAIT_FULL sc = false ∨ sc = 4) → s.rdBit CALC.WAIT_TRACK sc = true →
      s.on (CAL_SSTAT_S.INFORCE sc) = true → s.calRefusal 2 sc 0 = 0 →
      ∃ t, exec (.calTriggeredRunStart sc) s = .next t ∧
        (t.rd CAL_RUN_STAT.STATE = 1 ∧ t.rd CAL_RUN_STAT.TYPE = 2 ∧ t.rd CAL_RUN_STAT.SCOPE = sc.val ∧ t.rd
          CAL_RUN_STAT.CAUSE = 0) ∧
        (t.rd CAL_PROG.NEXT = 0 ∧ t.rd CAL_PROG.TOTAL = if sc.val < 4 then 552 else 1) ∧
        t.rdBit CALC.WAIT_TRACK sc = false ∧ t.rd (CALC.LAST sc) = (s.rd KEY_RTC.SEC + 1) % 2 ^ (CALC.LAST sc).width ∧
        t.votes = s.votes ∧ t.ch = s.ch ∧ t.flow = s.flow ∧
        SameFields [CAL_RUN_STAT.SCOPE, CAL_RUN_STAT.TYPE, CAL_RUN_STAT.CAUSE, CAL_RUN_STAT.PAUSE, CAL_RUN_STAT.STATE,
          CALC.IGN, CALC.SRC, CALC.PASS, CALC.NOWRITE, CALC.LIGHT, CAL_PROG.NEXT, CAL_PROG.TOTAL, CALC.WAIT_TRACK,
          CALC.LAST sc] s t) ∧
  (∀ (s : State) (n : Fin 4),
      s.calBusy = false → s.rdBit CALC.WAIT_FULL n = true → s.calRefusal 1 n 0 = 0 →
      ∃ t, exec (.calTriggeredRunStart ⟨n.val, by omega⟩) s = .next t ∧
        (t.rd CAL_RUN_STAT.STATE = 1 ∧ t.rd CAL_RUN_STAT.TYPE = 1 ∧ t.rd CAL_RUN_STAT.SCOPE = n.val ∧ t.rd
          CAL_RUN_STAT.CAUSE = 0) ∧
        (t.rd CAL_PROG.NEXT = 0 ∧ t.rd CAL_PROG.TOTAL = 552) ∧ t.rdBit CALC.WAIT_FULL n = false ∧
        (t.votes = s.votes ++ [.loopback n]) ∧ t.ch = s.ch ∧ t.flow = s.flow ∧
        SameFields [CAL_RUN_STAT.SCOPE, CAL_RUN_STAT.TYPE, CAL_RUN_STAT.CAUSE, CAL_RUN_STAT.PAUSE, CAL_RUN_STAT.STATE,
          CALC.IGN, CALC.SRC, CALC.PASS, CALC.NOWRITE, CALC.LIGHT, CAL_PROG.NEXT, CAL_PROG.TOTAL, CALC.WAIT_FULL] s t)

/-- O42. A run's set is runSet; sc is CAL_RUN_STAT.SCOPE. Steps are those of Table 14.5. (1) a measured set within every
limit, the step limits against the set in force where they apply, asks the apply vote; a channel's FULL run holds its
loopback frequency and ends its light. (2) one outside fails the run: cause 0x5, the quantity and index in CAL_FAIL,
event 0x02 in the log, source 65, and the set in force stays. (3) a monitor result that does not settle fails it with
cause 0x6. (4) a copy written, with its check word, is valid; the module's run goes on to apply, as one of a channel
where its boundaries are open (R324, R332). (5) a REWRITE's first copy is followed by its other region, erased. (6)
its second completes it: DONE with source 64, and the store OK, or DEGRADED while a scope lacks two copies (R334). (7)
one that fails leaves the store UNREADABLE and a REWRITE FAILED with cause 0xA. (8) another run goes on to apply with
its set UNSTORED (step 5a). (9) in DARK or TUNING an apply takes its next element, here that of a slice: its
corrections go into use. (10) the element of a FENCED or FAILING slice is skipped with event 0x03 (R111). (11) the
last ends the run: the set is in force, DONE_EV and source 64, event 0x01 (R331, step 7).  (14_calibration.md) -/
def Obligations.CalibrationRunsApplyAndStore : Prop :=
  (∀ (s : State) (data : List Host.Cell) (temp : Int) (vref : Nat) (lppm : Int) (sc : Fin 5) (old : Option (List
    Host.Cell)),
      s.rd CAL_RUN_STAT.STATE = 1 → s.rd CAL_RUN_STAT.SCOPE = sc.val →
      (s.rd CAL_RUN_STAT.TYPE = 1 → sc.val < 4 → s.on CALC.LIGHT = true) →
      (old = if s.on (CAL_SSTAT_S.INFORCE sc) = true ∧ ¬(s.rd CAL_RUN_STAT.TYPE = 1 ∧ s.on CALC.IGN = true) then some
        (s.setOf sc) else none) →
      s.implausible sc (s.measuredSet (s.rd CAL_RUN_STAT.TYPE) sc ⟨data, temp, vref, lppm⟩) old = none →
      ∃ t, exec (.calMeasurementComplete data temp vref lppm) s = .next t ∧ t.rd CAL_RUN_STAT.STATE = 3 ∧
        t.runSet = s.measuredSet (s.rd CAL_RUN_STAT.TYPE) sc ⟨data, temp, vref, lppm⟩ ∧
        (t.votes = s.votes ++ [.calApply]) ∧
        (sc.val < 4 → s.rd CAL_RUN_STAT.TYPE = 1 → t.rd (OPT_TUNE_STAT.HELD sc) = s.rd (OPT_FREQ.N sc) ∧ t.rd
          CALC.LIGHT = 0) ∧
        t.ch = s.ch ∧ t.flow = s.flow ∧ SameFields [CAL_RUN_STAT.STATE, CALC.LIGHT, OPT_TUNE_STAT.HELD sc] s t) ∧
  (∀ (s : State) (data : List Host.Cell) (temp : Int) (vref : Nat) (lppm : Int) (sc : Fin 5) (old : Option (List
    Host.Cell)) (x : Miss),
      s.rd CAL_RUN_STAT.STATE = 1 → s.rd CAL_RUN_STAT.SCOPE = sc.val →
      (s.rd CAL_RUN_STAT.TYPE = 1 → sc.val < 4 → s.on CALC.LIGHT = true) →
      (old = if s.on (CAL_SSTAT_S.INFORCE sc) = true ∧ ¬(s.rd CAL_RUN_STAT.TYPE = 1 ∧ s.on CALC.IGN = true) then some
        (s.setOf sc) else none) →
      s.implausible sc (s.measuredSet (s.rd CAL_RUN_STAT.TYPE) sc ⟨data, temp, vref, lppm⟩) old = some x →
      ∃ t, exec (.calMeasurementComplete data temp vref lppm) s = .next t ∧
        (t.rd CAL_RUN_STAT.STATE = 8 ∧ t.rd CAL_RUN_STAT.CAUSE = 5) ∧
        (t.rd CAL_FAIL.QTY = x.qty % 256 ∧ t.rd CAL_FAIL.INDEX = x.idx % 65536) ∧
        (t.rd (tableWord (0x8A00000 + 16 * s.rd CAL_LOG_PTR.PTR)) = (2 * 2 ^ 24 + sc.val * 2 ^ 21 + x.qty * 2 ^ 8) % 2
          ^ 32 ∧ t.rd (tableWord (0x8A00000 + 16 * s.rd CAL_LOG_PTR.PTR + 4)) = s.rd KEY_RTC.SEC % 2 ^ 32) ∧
        t.rd CAL_LOG_PTR.PTR = (s.rd CAL_LOG_PTR.PTR + 1) % 256 ∧ t.rd CAL_RUN_STAT.FAIL_EV = 1 ∧
        t.rd (IRQ_PEND 65) = 1 ∧ (t.sets = s.sets ∧ t.store = s.store) ∧ t.ch = s.ch ∧ t.flow = s.flow) ∧
  (∀ (s : State),
      (s.rd CAL_RUN_STAT.STATE = 1 ∨ s.rd CAL_RUN_STAT.STATE = 2) →
      ∃ t, exec (.calMonitorTimeout) s = .next t ∧ (t.rd CAL_RUN_STAT.STATE = 8 ∧ t.rd CAL_RUN_STAT.CAUSE = 6) ∧
        t.rd CAL_RUN_STAT.FAIL_EV = 1 ∧ t.rd (IRQ_PEND 65) = 1 ∧ t.rd CALC.LIGHT = 0 ∧
        (t.sets = s.sets ∧ t.store = s.store) ∧ t.ch = s.ch ∧ t.flow = s.flow) ∧
  (∀ (s : State) (sc : Fin 5),
      s.rd CAL_RUN_STAT.STATE = 4 → s.rd CAL_RUN_STAT.SCOPE = sc.val → s.rd CAL_RUN_STAT.TYPE ≠ 4 →
      (sc.val < 4 → s.chSt sc ≠ ChSt.fenced ∧ s.boundaryOpen sc = true) →
      ∃ t, exec (.calStoreWriteComplete true) s = .next t ∧ t.rd CAL_RUN_STAT.STATE = 5 ∧
        t.rd (validField sc (s.rd CALC.REGION)) = 1 ∧
        t.store = memCopy (memPut 0x1FFC 4 (crc32c (memBytes s.runSet 0 0x1FFC)) s.runSet) 0 (regionBase sc (s.rd
          CALC.REGION)) 0x2000 s.store ∧
        t.rd (CAL_SSTAT_S.PARTIAL sc) = 1 ∧ t.rd (CAL_SSTAT_S.UNSTORED sc) = 0 ∧ t.rd CAL_PROG.NEXT = 0 ∧
        t.rd CAL_STORE.WRITES = s.oneMore CAL_STORE.WRITES ∧ (t.runSet = s.runSet ∧ t.sets = s.sets) ∧ t.ch = s.ch ∧
        t.flow = s.flow ∧
        FieldsKept [CAL_RUN_STAT.STATE, validField sc (s.rd CALC.REGION), CAL_SSTAT_S.PARTIAL sc, CAL_SSTAT_S.UNSTORED
          sc, CAL_PROG.NEXT, CAL_STORE.WRITES, CAL_STORE.STATE, CAL_STORE.ERR_EV] [66] [] s t) ∧
  (∀ (s : State) (sc : Fin 5),
      s.rd CAL_RUN_STAT.STATE = 4 → s.rd CAL_RUN_STAT.SCOPE = sc.val → s.rd CAL_RUN_STAT.TYPE = 4 →
      s.on CALC.PASS = false →
      ∃ t, exec (.calStoreWriteComplete true) s = .next t ∧ t.rd CAL_RUN_STAT.STATE = 4 ∧
        t.rd CALC.REGION = (3 - s.rd CALC.REGION) % 2 ^ CALC.REGION.width ∧
        t.rd (validField sc (3 - s.rd CALC.REGION)) = 0 ∧ t.on CALC.PASS = true ∧ t.ch = s.ch ∧ t.flow = s.flow) ∧
  (∀ (s : State) (sc : Fin 5),
      s.rd CAL_RUN_STAT.STATE = 4 → s.rd CAL_RUN_STAT.SCOPE = sc.val → s.rd CAL_RUN_STAT.TYPE = 4 →
      s.on CALC.PASS = true →
      ∃ t, exec (.calStoreWriteComplete true) s = .next t ∧ t.rd CAL_RUN_STAT.STATE = 7 ∧
        t.rd CAL_RUN_STAT.DONE_EV = 1 ∧ t.rd (validField sc (s.rd CALC.REGION)) = 1 ∧
        t.store = memCopy (memPut 0x1FFC 4 (crc32c (memBytes s.runSet 0 0x1FFC)) s.runSet) 0 (regionBase sc (s.rd
          CALC.REGION)) 0x2000 s.store ∧
        t.rd (CAL_SSTAT_S.UNSTORED sc) = 0 ∧ (t.rd CAL_STORE.STATE = if t.storeThin then 2 else 0) ∧
        t.rd (IRQ_PEND 64) = 1 ∧ t.ch = s.ch ∧ t.flow = s.flow) ∧
  (∀ (s : State) (sc : Fin 5),
      s.rd CAL_RUN_STAT.STATE = 4 → s.rd CAL_RUN_STAT.SCOPE = sc.val → s.rd CAL_RUN_STAT.TYPE = 4 →
      ∃ t, exec (.calStoreWriteComplete false) s = .next t ∧
        (t.rd CAL_RUN_STAT.STATE = 8 ∧ t.rd CAL_RUN_STAT.CAUSE = 0xA) ∧ t.rd CAL_STORE.STATE = 3 ∧
        t.rd (IRQ_PEND 65) = 1 ∧ (s.rd CAL_STORE.STATE ≠ 3 → t.rd CAL_STORE.ERR_EV = 1 ∧ t.rd (IRQ_PEND 66) = 1) ∧
        t.store = s.store ∧ t.ch = s.ch ∧ t.flow = s.flow) ∧
  (∀ (s : State) (sc : Fin 5),
      s.rd CAL_RUN_STAT.STATE = 4 → s.rd CAL_RUN_STAT.SCOPE = sc.val → s.rd CAL_RUN_STAT.TYPE ≠ 4 →
      (sc.val < 4 → s.chSt sc ≠ ChSt.fenced ∧ s.boundaryOpen sc = true) →
      ∃ t, exec (.calStoreWriteComplete false) s = .next t ∧ t.rd CAL_RUN_STAT.STATE = 5 ∧
        t.rd (CAL_SSTAT_S.UNSTORED sc) = 1 ∧ t.rd CAL_STORE.STATE = 3 ∧ t.store = s.store ∧ t.ch = s.ch ∧
        t.flow = s.flow) ∧
  (∀ (s : State) (n : Fin 4),
      s.rd CAL_RUN_STAT.STATE = 5 → s.rd CAL_RUN_STAT.SCOPE = n.val → s.actsAtOnce n = true →
      s.rd CAL_PROG.NEXT + 1 < s.rd CAL_PROG.TOTAL → s.on (OPTC.HOLD n) = false → s.rd CAL_PROG.NEXT < 544 →
      s.slice n (elementSlice (s.rd CAL_PROG.NEXT)) ≠ Slice.fenced →
      s.slice n (elementSlice (s.rd CAL_PROG.NEXT)) ≠ Slice.failing →
      ∃ t, exec (.calApplyElement) s = .next t ∧ t.rd CAL_PROG.NEXT = s.rd CAL_PROG.NEXT + 1 ∧
        t.rd CAL_RUN_STAT.STATE = 5 ∧
        t.applied = memCopy s.runSet (0x40 + 8 * s.rd CAL_PROG.NEXT) (setBase n + (0x40 + 8 * s.rd CAL_PROG.NEXT)) 8
          s.applied ∧
        (∀ j : Fin 4, t.cor n (elementSlice (s.rd CAL_PROG.NEXT)) j = corLimit (isAdc (elementSlice (s.rd
          CAL_PROG.NEXT))) j (setS s.runSet (0x40 + 8 * s.rd CAL_PROG.NEXT + 2 * j.val) 2)) ∧
        (t.runSet = s.runSet ∧ t.sets = s.sets) ∧ t.ch = s.ch ∧ t.flow = s.flow) ∧
  (∀ (s : State) (n : Fin 4),
      s.rd CAL_RUN_STAT.STATE = 5 → s.rd CAL_RUN_STAT.SCOPE = n.val → s.actsAtOnce n = true →
      s.rd CAL_PROG.NEXT + 1 < s.rd CAL_PROG.TOTAL → s.on (OPTC.HOLD n) = false → s.rd CAL_PROG.NEXT < 544 →
      (s.slice n (elementSlice (s.rd CAL_PROG.NEXT)) = Slice.fenced ∨ s.slice n (elementSlice (s.rd CAL_PROG.NEXT)) =
        Slice.failing) →
      ∃ t, exec (.calApplyElement) s = .next t ∧ t.rd CAL_PROG.NEXT = s.rd CAL_PROG.NEXT + 1 ∧ t.applied = s.applied ∧
        (t.rd (tableWord (0x8A00000 + 16 * s.rd CAL_LOG_PTR.PTR)) = (3 * 2 ^ 24 + n.val * 2 ^ 21 + (if s.rd
          CAL_PROG.NEXT < 272 then 1 else 5) * 2 ^ 8) % 2 ^ 32 ∧ t.rd (tableWord (0x8A00000 + 16 * s.rd
          CAL_LOG_PTR.PTR + 4)) = s.rd KEY_RTC.SEC % 2 ^ 32) ∧
        t.rd CAL_LOG_PTR.PTR = (s.rd CAL_LOG_PTR.PTR + 1) % 256 ∧ t.ch = s.ch ∧ t.flow = s.flow) ∧
  (∀ (s : State) (n : Fin 4),
      s.rd CAL_RUN_STAT.STATE = 5 → s.rd CAL_RUN_STAT.SCOPE = n.val → s.actsAtOnce n = true →
      s.rd CAL_PROG.NEXT = 551 → s.rd CAL_PROG.TOTAL = 552 → s.calWait = [] → s.on (OPTC.HOLD n) = false →
      ∃ t, exec (.calApplyElement) s = .next t ∧ (t.rd CAL_RUN_STAT.STATE = 7 ∧ t.rd CAL_RUN_STAT.DONE_EV = 1) ∧
        (t.rd (CAL_SSTAT_S.INFORCE n) = 1 ∧ t.rd (CAL_SSTAT_S.PARTIAL n) = 0) ∧
        t.sets = memCopy s.runSet 0 (setBase n) 0x2000 s.sets ∧ t.rd (IRQ_PEND 64) = 1 ∧
        (t.rd (tableWord (0x8A00000 + 16 * s.rd CAL_LOG_PTR.PTR)) = (2 ^ 24 + n.val * 2 ^ 21) % 2 ^ 32 ∧ t.rd
          (tableWord (0x8A00000 + 16 * s.rd CAL_LOG_PTR.PTR + 4)) = s.rd KEY_RTC.SEC % 2 ^ 32) ∧
        t.ch = s.ch ∧ t.flow = s.flow)

/-- O43. The request at the head of votes is the one that is open, when VOTE_OPEN is set. Descriptors are those of SUP0,
SUP1 and SUP2, none where one is absent. (1) while the firmware runs and nothing is frozen, the oldest waiting request
opens, a checkpoint after every other (R344). (2) three equal descriptors approve, here a calibration apply, whose set
is written. (3) where one of three differs and the leader does not, the vote is approved, here a FENCE_CLEAR's, and
that supervisor is declared failed, cause 0x1 with source 32. (4) where the leader differs, it is refused, the leader
is failed and the lowest follower leads with a new generation (R347, R359). (5) no two equal refuse it and freeze
commits, cause 0x3. (6) two that differ refuse it, and both run their self-test. (7) a checkpoint is asked for when
nothing is open and nothing waits (R346). (8) none while a request waits.  (15_supervisor_complex.md) -/
def Obligations.VotesAreTakenAndDecided : Prop :=
  (∀ (s : State),
      s.on SUP_ARB_STAT.VOTE_OPEN = false → s.votes ≠ [] → s.rd SUPC.TESTING = 0 → s.frozen = false →
      s.firmware = true →
      ∃ t, exec (.voteOpen) s = .next t ∧ t.rd SUP_ARB_STAT.VOTE_OPEN = 1 ∧
        (t.votes = s.votes.filter (fun v => v ≠ .checkpoint) ++ s.votes.filter (fun v => v = .checkpoint)) ∧
        t.ch = s.ch ∧ t.flow = s.flow ∧ SameFields [SUP_ARB_STAT.VOTE_OPEN] s t) ∧
  (∀ (s : State) (v : Nat) (sc : Fin 5),
      s.on SUP_ARB_STAT.VOTE_OPEN = true → s.votes.head? = some .calApply → s.counted = [0, 1, 2] →
      s.rd CAL_RUN_STAT.STATE = 3 → s.rd CAL_RUN_STAT.SCOPE = sc.val → s.on CALC.NOWRITE = false →
      ∃ t, exec (.voteDecision (some v) (some v) (some v)) s = .next t ∧ t.rd SUP_ARB_STAT.VOTE_OPEN = 0 ∧
        (t.rd SUP_ARB_STAT.LAST = 1 ∧ t.rd SUP_ARB_STAT.LAST_KIND = 4) ∧
        t.rd SUP_VOTE_CNT.APPROVED = s.oneMore SUP_VOTE_CNT.APPROVED ∧ t.votes = s.votes.tail ∧
        t.rd CAL_RUN_STAT.STATE = 4 ∧ (t.rd CALC.REGION = if s.newestAB sc = some 1 then 2 else 1) ∧ t.ch = s.ch ∧
        t.flow = s.flow ∧
        (FieldsKept [SUP_ARB_STAT.VOTE_OPEN, SUP_ARB_STAT.LAST, SUP_ARB_STAT.LAST_KIND, SUP_VOTE_CNT.APPROVED,
          CAL_RUN_STAT.STATE, CALC.REGION, CAL_STORE.STATE, validField sc (if s.newestAB sc = some 1 then 2 else 1)]
          [] [4] s t)) ∧
  (∀ (s : State) (u v tag : Nat),
      s.on SUP_ARB_STAT.VOTE_OPEN = true → s.votes.head? = some (.fenceClear tag) → s.counted = [0, 1, 2] →
      s.sup 2 = Sup.follower → s.on (SUPC.RETURN 2) = false → u ≠ v →
      ∃ t, exec (.voteDecision (some v) (some v) (some u)) s = .next t ∧ t.rd SUP_ARB_STAT.VOTE_OPEN = 0 ∧
        (t.rd SUP_ARB_STAT.LAST = 1 ∧ t.rd SUP_ARB_STAT.LAST_KIND = 8) ∧
        t.rd SUP_VOTE_CNT.APPROVED = s.oneMore SUP_VOTE_CNT.APPROVED ∧ t.votes = s.votes.tail ∧
        (t.mbx = s.mbx.map (fun m => if m.tag = tag then { m with stage := 2 } else m)) ∧ t.sup 2 = Sup.failed ∧
        (t.rd (SUP_FAIL_S.CAUSE 2) = 1 ∧ t.rd (SUP_FAIL_S.COUNT 2) = s.oneMore (SUP_FAIL_S.COUNT 2)) ∧
        t.rd SUP_STAT.FAIL_EV = 1 ∧ t.rd (IRQ_PEND 32) = 1 ∧ t.frozen = s.frozen ∧ t.ch = s.ch ∧ t.flow = s.flow) ∧
  (∀ (s : State) (u v : Nat),
      s.on SUP_ARB_STAT.VOTE_OPEN = true → s.votes = [.checkpoint] →
      (s.sup 0 = Sup.leader ∧ s.sup 1 = Sup.follower ∧ s.sup 2 = Sup.follower) → s.on (SUPC.RETURN 0) = false →
      s.mbx = [] → s.calBusy = false → (∀ n : Fin 4, s.rd (TRB_CMT_STAT.STATE n) ≠ 2) → u ≠ v →
      ∃ t, exec (.voteDecision (some u) (some v) (some v)) s = .next t ∧ t.rd SUP_ARB_STAT.VOTE_OPEN = 0 ∧
        t.rd SUP_ARB_STAT.LAST = 2 ∧ (t.sup 0 = Sup.failed ∧ t.rd (SUP_FAIL_S.CAUSE 0) = 1) ∧
        (t.sup 1 = Sup.leader ∧ t.rd SUP_STAT.LEADER = 1) ∧
        (t.rd SUP_MBX_GEN.GEN = (if (s.rd SUP_MBX_GEN.GEN + 1) % 256 = 0 then 1 else (s.rd SUP_MBX_GEN.GEN + 1) %
          256)) ∧
        t.rd SUP_STAT.FAILOVER_EV = 1 ∧ (t.rd (IRQ_PEND 33) = 1 ∧ t.rd (IRQ_PEND 32) = 1) ∧ t.ch = s.ch ∧
        t.flow = s.flow) ∧
  (∀ (s : State) (u v w : Nat),
      s.on SUP_ARB_STAT.VOTE_OPEN = true → s.votes = [.checkpoint] → s.counted = [0, 1, 2] → s.frozen = false →
      s.sup 0 = Sup.leader → (u ≠ v ∧ v ≠ w ∧ u ≠ w) →
      ∃ t, exec (.voteDecision (some u) (some v) (some w)) s = .next t ∧ t.rd SUP_ARB_STAT.LAST = 2 ∧
        (t.rd SUP_STAT.FROZEN = 1 ∧ t.rd SUP_STAT.FREEZE_CAUSE = 3) ∧ t.rd SUP_STAT.FREEZE_EV = 1 ∧
        t.rd (IRQ_PEND 34) = 1 ∧ t.votes = [] ∧ t.ch = s.ch ∧ t.flow = s.flow ∧
        FieldsKept [SUP_ARB_STAT.VOTE_OPEN, SUP_ARB_STAT.LAST, SUP_ARB_STAT.LAST_KIND, SUP_STAT.FROZEN,
          SUP_STAT.FREEZE_CAUSE, SUP_STAT.FREEZE_EV] [34] [4] s t) ∧
  (∀ (s : State) (u v : Nat),
      s.on SUP_ARB_STAT.VOTE_OPEN = true → s.votes.head? = some .checkpoint → s.counted = [0, 1] →
      s.sup 0 = Sup.leader → u ≠ v →
      ∃ t, exec (.voteDecision (some u) (some v) none) s = .next t ∧ t.rd SUP_ARB_STAT.VOTE_OPEN = 0 ∧
        t.rd SUP_ARB_STAT.LAST = 2 ∧ t.rd SUPC.TESTING = 3 ∧ t.votes = s.votes.tail ∧ t.ch = s.ch ∧ t.flow = s.flow ∧
        FieldsKept [SUP_ARB_STAT.VOTE_OPEN, SUP_ARB_STAT.LAST, SUP_ARB_STAT.LAST_KIND, SUPC.TESTING] [] [4] s t) ∧
  (∀ (s : State),
      s.firmware = true → s.on SUPC.DRAIN = false → s.on SUP_ARB_STAT.VOTE_OPEN = false → s.votes = [] →
      s.frozen = false →
      ∃ t, exec (.checkpointTimer) s = .next t ∧ t.votes = [.checkpoint] ∧ t.regs = s.regs ∧ t.ch = s.ch ∧
        t.flow = s.flow) ∧
  (∀ (s : State),
      s.on SUPC.DRAIN = false → s.votes ≠ [] →
      ∃ t, exec (.checkpointTimer) s = .next t ∧ t = s)

/-- O44. Supervisor states are those of Table 15.1. A supervisor counts when it leads or follows. (1) a heartbeat is
noted. (2) none for 10 ms fails a follower, cause 0x2 and source 32; two are left and nothing freezes. (3) the
leader's hands over to the lowest follower: FAILOVER_EV with source 33, and a new generation, 0x00 skipped. (4) after
a disagreement of two, the one that fails its self-test is failed with cause 0x3; one alone freezes commits with cause
0x2. (5) when both pass, or both fail, commits freeze with cause 0x3. (6) a failed one is released to its boot ROM,
nothing pending for it and every source masked. (7) it authenticates the next slot, or else the other (R355). (8) with
no valid image, a returning one is failed with cause 0x5, its attempt counted (R349). (9) with the mirrored state and
a matching checkpoint it serves in PROBATION. (10) SUP0 takes leadership back once the mailbox has drained (R348).
(11) GO with CODE 0xA5 stops the three and the mailbox (step 1). (12) a passing self-test restarts the interrupt
controller and boots the three (step 2). (13) a failing one ends the reset with commits frozen, cause 0x1 (step 2a).
(14) outside a reset a failing one freezes them the same way (R352). (15) a passing one does nothing. (16) the complex
serves again: SUP0, authenticated, leads and the others follow, under a new generation (steps 4 and 5).
(15_supervisor_complex.md) -/
def Obligations.SupervisorsFailAndReturn : Prop :=
  (∀ (s : State) (i : Fin 3),
      s.supRuns i = true →
      ∃ t, exec (.supervisorHeartbeat i) s = .next t ∧ t.rd (SUPC.HB i) = (s.time + 1) % 2 ^ 64 ∧ t.votes = s.votes ∧
        t.ch = s.ch ∧ t.flow = s.flow ∧ SameFields [SUPC.HB i] s t) ∧
  (∀ (s : State) (i : Fin 3),
      s.counted = [0, 1, 2] → s.sup i = Sup.follower →
      (s.rd (SUPC.HB i) = 0 ∨ 10000000 ≤ s.time + 1 - s.rd (SUPC.HB i)) → s.on (SUPC.RETURN i) = false →
      s.sup 0 = Sup.leader →
      ∃ t, exec (.supervisorHeartbeatTimeout i) s = .next t ∧ t.sup i = Sup.failed ∧ t.rd (SUP_FAIL_S.CAUSE i) = 2 ∧
        t.rd (SUP_FAIL_S.COUNT i) = s.oneMore (SUP_FAIL_S.COUNT i) ∧ t.rd SUP_STAT.FAIL_EV = 1 ∧
        t.rd (IRQ_PEND 32) = 1 ∧ t.frozen = s.frozen ∧ t.votes = s.votes ∧ t.ch = s.ch ∧ t.flow = s.flow) ∧
  (∀ (s : State),
      s.counted = [0, 1, 2] → s.sup 0 = Sup.leader → s.rd (SUPC.HB 0) = 0 → s.on (SUPC.RETURN 0) = false →
      s.on SUP_ARB_STAT.VOTE_OPEN = false → s.mbx = [] → s.calBusy = false →
      (∀ n : Fin 4, s.rd (TRB_CMT_STAT.STATE n) ≠ 2) → s.sup 1 = Sup.follower →
      ∃ t, exec (.supervisorHeartbeatTimeout 0) s = .next t ∧ (t.sup 0 = Sup.failed ∧ t.rd (SUP_FAIL_S.CAUSE 0) = 2) ∧
        (t.sup 1 = Sup.leader ∧ t.rd SUP_STAT.LEADER = 1) ∧ t.rd SUP_STAT.FAILOVER_EV = 1 ∧
        (t.rd SUP_MBX_GEN.GEN = (if (s.rd SUP_MBX_GEN.GEN + 1) % 256 = 0 then 1 else (s.rd SUP_MBX_GEN.GEN + 1) %
          256)) ∧
        t.rd (IRQ_PEND 33) = 1 ∧ t.votes = s.votes ∧ t.ch = s.ch ∧ t.flow = s.flow) ∧
  (∀ (s : State),
      s.rd SUPC.TESTING = 3 → s.counted = [0, 1] → s.sup 1 = Sup.follower → s.on (SUPC.RETURN 1) = false →
      s.votes = [] → s.frozen = false →
      ∃ t, exec (.supervisorSelfTestResult true false true) s = .next t ∧
        (t.sup 1 = Sup.failed ∧ t.rd (SUP_FAIL_S.CAUSE 1) = 3) ∧
        (t.rd SUP_STAT.FROZEN = 1 ∧ t.rd SUP_STAT.FREEZE_CAUSE = 2) ∧ t.rd SUPC.TESTING = 0 ∧ t.rd (IRQ_PEND 34) = 1 ∧
        t.ch = s.ch ∧ t.flow = s.flow) ∧
  (∀ (s : State) (good : Bool),
      s.rd SUPC.TESTING = 3 → s.votes = [] → s.frozen = false →
      ∃ t, exec (.supervisorSelfTestResult good good good) s = .next t ∧
        (t.rd SUP_STAT.FROZEN = 1 ∧ t.rd SUP_STAT.FREEZE_CAUSE = 3) ∧ t.rd SUPC.TESTING = 0 ∧ t.rd (IRQ_PEND 34) = 1 ∧
        t.ch = s.ch ∧ t.flow = s.flow ∧
        FieldsKept [SUPC.TESTING, SUP_STAT.FROZEN, SUP_STAT.FREEZE_CAUSE, SUP_STAT.FREEZE_EV] [34] [] s t) ∧
  (∀ (s : State) (i : Fin 3),
      s.sup i = Sup.failed →
      ∃ t, exec (.supervisorRelease i) s = .next t ∧ t.sup i = Sup.boot ∧ t.rd (SUPC.RETURN i) = 1 ∧
        t.rd (SUPC.IMG i) = 0 ∧ (∀ N ∈ allSources, t.rd (SUPC.PEND i N) = 0 ∧ t.rd (SUPC.MASK i N) = 1) ∧
        t.votes = s.votes ∧ t.ch = s.ch ∧ t.flow = s.flow) ∧
  (∀ (s : State) (i : Fin 3) (cfg : List (Nat × Nat × Bool × Bool)) (k : Nat),
      s.sup i = Sup.boot → s.rd (SUPC.IMG i) = 0 → s.slotFor = some k →
      ∃ t, exec (.firmwareAuthenticationComplete i true true cfg) s = .next t ∧ t.rd (SUPC.IMG i) = k + 1 ∧
        t.sup i = Sup.boot ∧ t.votes = s.votes ∧ t.ch = s.ch ∧ t.flow = s.flow) ∧
  (∀ (s : State) (i : Fin 3) (ok agrees : Bool) (cfg : List (Nat × Nat × Bool × Bool)),
      s.sup i = Sup.boot → s.rd (SUPC.IMG i) = 0 → s.slotFor = none → s.on (SUPC.RETURN i) = true →
      s.rd (SUPC.FAIL_AT i 1) = 0 →
      ∃ t, exec (.firmwareAuthenticationComplete i ok agrees cfg) s = .next t ∧
        (t.sup i = Sup.failed ∧ t.rd (SUP_FAIL_S.CAUSE i) = 5) ∧
        t.rd (SUP_FAIL_S.ATTEMPTS i) = s.oneMore (SUP_FAIL_S.ATTEMPTS i) ∧ t.rd (IRQ_PEND 32) = 1 ∧
        t.votes = s.votes ∧ t.ch = s.ch ∧ t.flow = s.flow) ∧
  (∀ (s : State) (i : Fin 3),
      s.sup i = Sup.boot → s.on (SUPC.RETURN i) = true → s.rd (SUPC.IMG i) ≠ 0 → s.rd SUP_STAT.LEADER ≠ 3 →
      ∃ t, exec (.supervisorStateTransferComplete i true) s = .next t ∧ t.sup i = Sup.probation ∧
        t.rd (SUPC.AGREED i) = 0 ∧ t.votes = s.votes ∧ t.ch = s.ch ∧ t.flow = s.flow ∧
        SameFields [SUPC.STATE i, SUPC.AGREED i, SUP_PROB.AGREED] s t) ∧
  (∀ (s : State) (l : Nat),
      s.on SUPC.DRAIN = true → s.sup 0 = Sup.follower → s.mbx = [] → s.on SUP_ARB_STAT.VOTE_OPEN = false →
      s.rd SUP_STAT.LEADER = l → (0 < l ∧ l < 3) →
      ∃ t, exec (.supervisorHandback) s = .next t ∧ t.sup 0 = Sup.leader ∧ t.sup l = Sup.follower ∧
        t.rd SUP_STAT.LEADER = 0 ∧ t.rd SUP_STAT.HANDBACK_EV = 1 ∧ t.rd SUPC.DRAIN = 0 ∧ t.votes = s.votes ∧
        t.ch = s.ch ∧ t.flow = s.flow ∧
        SameFields [SUPC.STATE 0, SUPC.STATE l, SUP_STAT.LEADER, SUP_STAT.HANDBACK_EV, SUPC.DRAIN] s t) ∧
  (∀ (s : State) (win : Fin 7) (value : Word),
      s.writeOpen win 3 → SUP_CPLX_RST.GO.of value.toNat = 1 → SUP_CPLX_RST.CODE.of value.toNat = 0xA5 →
      s.mode ≠ Mode.boot → s.rd SUPC.CPLX = 0 → s.on SUP_ARB_STAT.VOTE_OPEN = false → s.votes = [] → s.mbx = [] →
      s.calBusy = false → (∀ n : Fin 4, s.rd (TRB_CMT_STAT.STATE n) ≠ 2) →
      ∃ t, exec (.supervisorComplexReset win value 15) s = .next t ∧ t.rd DEV_MODE.SUP_RESTART = 1 ∧
        t.rd SUPC.CPLX = 1 ∧ t.rd SUP_STAT.LEADER = 3 ∧ t.rd SUP_MBX_STAT.SERVING = 0 ∧
        (∀ i : Fin 3, t.sup i = Sup.off) ∧ t.votes = [] ∧ t.ch = s.ch ∧ t.flow = s.flow ∧
        (FieldsKept ([DEV_MODE.SUP_RESTART, SUPC.CPLX, SUP_STAT.LEADER, SUP_MBX_STAT.SERVING, SUP_MBX_STAT.LOST,
          SUP_MBX_STAT.OUTST, SUPC.TESTING, SUPC.DRAIN] ++ [0, 1, 2].flatMap (fun i => [SUPC.STATE i, SUPC.RETURN i,
          SUPC.IMG i, SUPC.AGREED i, SUPC.HB i])) [] [] s t)) ∧
  (∀ (s : State) (irq : Bool),
      s.rd SUPC.CPLX = 1 →
      ∃ t, exec (.arbiterSelfTest true irq) s = .next t ∧ t.rd SUPC.CPLX = 2 ∧ t.rd SUP_STAT.FROZEN = 0 ∧
        t.rd SUP_ARB_STAT.SELFTEST_FAIL = 0 ∧ (∀ i : Fin 3, t.sup i = Sup.boot) ∧
        (t.rd IRQ_STAT.FAULT = if irq then 0 else s.rd IRQ_STAT.FAULT) ∧ t.votes = s.votes ∧ t.ch = s.ch ∧
        t.flow = s.flow) ∧
  (∀ (s : State) (irq : Bool),
      s.rd SUPC.CPLX = 1 → s.votes = [] →
      ∃ t, exec (.arbiterSelfTest false irq) s = .next t ∧ (t.rd SUPC.CPLX = 0 ∧ t.rd DEV_MODE.SUP_RESTART = 0) ∧
        t.rd SUP_ARB_STAT.SELFTEST_FAIL = 1 ∧ (t.rd SUP_STAT.FROZEN = 1 ∧ t.rd SUP_STAT.FREEZE_CAUSE = 1) ∧
        t.rd (IRQ_PEND 34) = 1 ∧ t.ch = s.ch ∧ t.flow = s.flow ∧
        FieldsKept [SUPC.CPLX, DEV_MODE.SUP_RESTART, SUP_ARB_STAT.SELFTEST_FAIL, SUP_STAT.FROZEN,
          SUP_STAT.FREEZE_CAUSE, SUP_STAT.FREEZE_EV] [34] [] s t) ∧
  (∀ (s : State) (irq : Bool),
      s.rd SUPC.CPLX = 0 → s.answers = true → s.votes = [] → s.frozen = false → s.calBusy = false →
      ∃ t, exec (.arbiterSelfTest false irq) s = .next t ∧ t.rd SUP_ARB_STAT.SELFTEST_FAIL = 1 ∧
        (t.rd SUP_STAT.FROZEN = 1 ∧ t.rd SUP_STAT.FREEZE_CAUSE = 1) ∧ t.rd SUP_STAT.FREEZE_EV = 1 ∧
        t.rd (IRQ_PEND 34) = 1 ∧ t.ch = s.ch ∧ t.flow = s.flow ∧
        FieldsKept [SUP_ARB_STAT.SELFTEST_FAIL, SUP_STAT.FROZEN, SUP_STAT.FREEZE_CAUSE, SUP_STAT.FREEZE_EV] [34] [] s
          t) ∧
  (∀ (s : State) (irq : Bool),
      s.rd SUPC.CPLX = 0 →
      ∃ t, exec (.arbiterSelfTest true irq) s = .next t ∧ t = s) ∧
  (∀ (s : State),
      s.rd SUPC.CPLX = 2 → (∀ i : Fin 3, s.sup i = Sup.boot ∧ s.rd (SUPC.IMG i) = 1) →
      ∃ t, exec (.supervisorComplexResetComplete) s = .next t ∧ t.rd SUPC.CPLX = 0 ∧ t.rd DEV_MODE.SUP_RESTART = 0 ∧
        t.rd SUP_CPLX_CNT.COUNT = s.oneMore SUP_CPLX_CNT.COUNT ∧ t.rd SUP_STAT.LEADER = 0 ∧
        (t.sup 0 = Sup.leader ∧ t.sup 1 = Sup.follower ∧ t.sup 2 = Sup.follower) ∧ t.rd SUP_MBX_STAT.SERVING = 1 ∧
        (t.rd SUP_MBX_GEN.GEN = (if (s.rd SUP_MBX_GEN.GEN + 1) % 256 = 0 then 1 else (s.rd SUP_MBX_GEN.GEN + 1) %
          256)) ∧
        t.rd SUP_FW_STAT.RUN_SLOT = 0 ∧ t.votes = s.votes ∧ t.ch = s.ch ∧ t.flow = s.flow ∧
        SameFields [SUPC.CPLX, DEV_MODE.SUP_RESTART, SUP_CPLX_CNT.COUNT, SUP_STAT.LEADER, SUPC.STATE 0, SUPC.STATE 1,
          SUPC.STATE 2, SUP_MBX_STAT.SERVING, SUP_MBX_GEN.GEN, SUP_FW_STAT.RUN_SLOT, SUP_FW_VER.VERSION] s t)

/-- O45. A command c is one of mbx, found by its tag; a reply (repliesTo) frees its tag and fills the next response
  entry
with its status, with source 35. Here gen is the generation of the supervisor that runs it, equal to SUP_MBX_GEN but
where a clause says otherwise (R359). (1) a producer index that fits the free entries posts them, each under the
window that wrote it. (2) one beyond them is refused with reason 0x4. (3) the host consumes responses. (4) the next
entry that passes the checks is accepted. (5) one that does not, here one of an old generation, completes at once with
STALE_GEN. (6) ECHO answers its words. (7) a completion of another generation is discarded and counted; its tag leaves
the map. (8) SUP_STATUS answers its six registers. (9) FENCE_CLEAR of a fenced unit waits for its vote. (10) of one
not fenced it completes BAD_ARG. (11) and in a freeze NO_VOTE. (12) an approved retest that passes lifts the fence,
here an iterated engine's, and answers 0. (13) one that fails leaves it with source 49, and answers RETEST_FAILED.
(14) SUP_RESTORE boots a HELD supervisor, its attempts cleared. (15) LOG_READ sends its entries, 16 bytes each, and
answers their number. (16) FW_INFO answers both slots and the fuses. (17) FW_LOAD puts the image that its DMA fetched
into a slot that neither runs nor is next, to be verified. (18) the slot that runs or is next completes STATE. (19)
FW_VERIFY judges a slot (R355): OK with its VERSION and SVN. (20) or AUTH_FAILED. (21) FW_ACTIVATE of a slot found
valid waits for its vote. (22) of another it completes STATE.  (15_supervisor_complex.md, 01_architecture.md) -/
def Obligations.MailboxCommandsAreServed : Prop :=
  (∀ (s : State) (win : Fin 7) (value : Word),
      s.writeOpen win 1 →
      (SUP_MBX_CMD_PI.PI.of value.toNat + 64 - s.rd SUP_MBX_CMD_PI.PI) % 64 ≤ 63 - (s.rd SUP_MBX_CMD_PI.PI + 64 - s.rd
        SUP_MBX_CMD_CI.CI) % 64 →
      ∃ t, exec (.mailboxCommandPost win value 15) s = .next t ∧
        t.rd SUP_MBX_CMD_PI.PI = SUP_MBX_CMD_PI.PI.of value.toNat ∧
        (∀ k : Fin 64, k.val < (SUP_MBX_CMD_PI.PI.of value.toNat + 64 - s.rd SUP_MBX_CMD_PI.PI) % 64 → t.rd (MBXC.WIN
          ((s.rd SUP_MBX_CMD_PI.PI + k) % 64)) = win.val) ∧
        t.ch = s.ch ∧ t.flow = s.flow ∧ (SameFields (SUP_MBX_CMD_PI.PI :: (List.range 64).map MBXC.WIN) s t)) ∧
  (∀ (s : State) (win : Fin 7) (value : Word),
      s.writeOpen win 1 →
      63 - (s.rd SUP_MBX_CMD_PI.PI + 64 - s.rd SUP_MBX_CMD_CI.CI) % 64 < (SUP_MBX_CMD_PI.PI.of value.toNat + 64 - s.rd
        SUP_MBX_CMD_PI.PI) % 64 →
      ∃ t, exec (.mailboxCommandPost win value 15) s = .next t ∧ s.refusedAs t win 0x20104 4 false ∧ t.ch = s.ch ∧
        t.flow = s.flow) ∧
  (∀ (s : State) (win : Fin 7) (value : Word),
      s.writeOpen win 1 →
      ∃ t, exec (.mailboxResponseConsume win value 15) s = .next t ∧
        t.rd SUP_MBX_RSP_CI.CI = SUP_MBX_RSP_CI.CI.of value.toNat ∧ t.ch = s.ch ∧ t.flow = s.flow ∧
        SameFields [SUP_MBX_RSP_CI.CI] s t) ∧
  (∀ (s : State) (a w : Nat),
      s.mbxOpen = true → s.rd SUP_MBX_CMD_CI.CI ≠ s.rd SUP_MBX_CMD_PI.PI →
      a = 0x21000 + 64 * s.rd SUP_MBX_CMD_CI.CI → w = s.rd (tableWord a) →
      s.mbxCheck (s.rd (MBXC.WIN (s.rd SUP_MBX_CMD_CI.CI))) (bits w 24 8) (bits w 16 8) (bits w 8 8) (bits w 0 4) =
        none →
      bits w 24 8 ≠ 0x11 →
      ∃ t, exec (.mailboxCommandAccept) s = .next t ∧ t.rd SUP_MBX_CMD_CI.CI = (s.rd SUP_MBX_CMD_CI.CI + 1) % 64 ∧
        (t.mbx = s.mbx ++ [⟨bits w 16 8, bits w 8 8, bits w 24 8, (List.range (bits w 0 4)).map (fun k => s.rd
          (tableWord (a + 4 + 4 * k))), 0⟩]) ∧
        t.ch = s.ch ∧ t.flow = s.flow ∧ FieldsKept [SUP_MBX_CMD_CI.CI, SUP_MBX_STAT.OUTST] [] [4] s t) ∧
  (∀ (s : State) (a w : Nat),
      s.mbxOpen = true → s.rd SUP_MBX_CMD_CI.CI ≠ s.rd SUP_MBX_CMD_PI.PI →
      a = 0x21000 + 64 * s.rd SUP_MBX_CMD_CI.CI → w = s.rd (tableWord a) → bits w 8 8 ≠ s.rd SUP_MBX_GEN.GEN →
      ∃ t, exec (.mailboxCommandAccept) s = .next t ∧ t.rd SUP_MBX_CMD_CI.CI = (s.rd SUP_MBX_CMD_CI.CI + 1) % 64 ∧
        t.rd (tableWord (0x22000 + 64 * s.rd SUP_MBX_RSP_PI.PI)) = 0x05000000 + bits w 16 8 * 2 ^ 16 + bits w 8 8 * 2
          ^ 8 ∧
        t.rd SUP_MBX_RSP_PI.PI = (s.rd SUP_MBX_RSP_PI.PI + 1) % 64 ∧ t.mbx = s.mbx ∧ t.rd (IRQ_PEND 35) = 1 ∧
        t.ch = s.ch ∧ t.flow = s.flow ∧
        (FieldsKept ([SUP_MBX_CMD_CI.CI, SUP_MBX_RSP_PI.PI, SUP_MBX_STAT.RSP_EV] ++ (List.range 16).map (fun k =>
          tableWord (0x22000 + 64 * s.rd SUP_MBX_RSP_PI.PI + 4 * k))) [35] [4] s t)) ∧
  (∀ (s : State) (tag gen : Fin 256) (q : MbxCmd),
      s.mbxCmd tag = some q → (q.op = 1 ∧ q.stage = 0) → q.words.length ≤ 15 → gen.val = s.rd SUP_MBX_GEN.GEN →
      ∃ t, exec (.echo tag gen) s = .next t ∧ s.repliesTo t q Mbx.ok q.words ∧ t.ch = s.ch ∧ t.flow = s.flow ∧
        (FieldsKept ([SUP_MBX_RSP_PI.PI, SUP_MBX_STAT.RSP_EV, SUP_MBX_STAT.OUTST] ++ (List.range 16).map (fun k =>
          tableWord (0x22000 + 64 * s.rd SUP_MBX_RSP_PI.PI + 4 * k))) [35] [] s t)) ∧
  (∀ (s : State) (tag gen : Fin 256) (q : MbxCmd),
      s.mbxCmd tag = some q → (q.op = 1 ∧ q.stage = 0) → gen.val ≠ s.rd SUP_MBX_GEN.GEN →
      ∃ t, exec (.echo tag gen) s = .next t ∧ (t.mbx = s.mbx.filter (fun x => x.tag ≠ q.tag)) ∧
        t.rd SUP_MBX_CNT.STALE = s.oneMore SUP_MBX_CNT.STALE ∧ t.rd SUP_MBX_STAT.STALE_EV = 1 ∧
        t.rd SUP_MBX_RSP_PI.PI = s.rd SUP_MBX_RSP_PI.PI ∧ t.ch = s.ch ∧ t.flow = s.flow ∧
        SameFields [SUP_MBX_CNT.STALE, SUP_MBX_STAT.STALE_EV, SUP_MBX_STAT.OUTST] s t) ∧
  (∀ (s : State) (tag gen : Fin 256) (q : MbxCmd),
      s.mbxCmd tag = some q → (q.op = 2 ∧ q.stage = 0) → gen.val = s.rd SUP_MBX_GEN.GEN →
      ∃ t, exec (.supStatus tag gen) s = .next t ∧
        s.repliesTo t q Mbx.ok ([0x20000, 0x20010, 0x20014, 0x20018, 0x20020, 0x20028].map s.readWord) ∧ t.ch = s.ch ∧
        t.flow = s.flow ∧
        (FieldsKept ([SUP_MBX_RSP_PI.PI, SUP_MBX_STAT.RSP_EV, SUP_MBX_STAT.OUTST] ++ (List.range 16).map (fun k =>
          tableWord (0x22000 + 64 * s.rd SUP_MBX_RSP_PI.PI + 4 * k))) [35] [] s t)) ∧
  (∀ (s : State) (tag gen : Fin 256) (q : MbxCmd),
      s.mbxCmd tag = some q → (q.op = 3 ∧ q.stage = 0) →
      s.unitIsFenced (fenceArgs q).2.1 (fenceArgs q).1 (fenceArgs q).2.2 = true → s.frozen = false →
      ∃ t, exec (.fenceClear tag gen) s = .next t ∧ (t.votes = s.votes ++ [.fenceClear tag]) ∧
        (t.mbx = s.mbx.map (fun m => if m.tag = tag.val then { m with stage := 1 } else m)) ∧ t.regs = s.regs ∧
        t.ch = s.ch ∧ t.flow = s.flow) ∧
  (∀ (s : State) (tag gen : Fin 256) (q : MbxCmd),
      s.mbxCmd tag = some q → (q.op = 3 ∧ q.stage = 0) →
      s.unitIsFenced (fenceArgs q).2.1 (fenceArgs q).1 (fenceArgs q).2.2 = false → gen.val = s.rd SUP_MBX_GEN.GEN →
      ∃ t, exec (.fenceClear tag gen) s = .next t ∧ s.repliesTo t q Mbx.badArg [] ∧ t.votes = s.votes ∧ t.ch = s.ch ∧
        t.flow = s.flow ∧
        (FieldsKept ([SUP_MBX_RSP_PI.PI, SUP_MBX_STAT.RSP_EV, SUP_MBX_STAT.OUTST] ++ (List.range 16).map (fun k =>
          tableWord (0x22000 + 64 * s.rd SUP_MBX_RSP_PI.PI + 4 * k))) [35] [] s t)) ∧
  (∀ (s : State) (tag gen : Fin 256) (q : MbxCmd),
      s.mbxCmd tag = some q → (q.op = 3 ∧ q.stage = 0) →
      s.unitIsFenced (fenceArgs q).2.1 (fenceArgs q).1 (fenceArgs q).2.2 = true → s.frozen = true →
      gen.val = s.rd SUP_MBX_GEN.GEN →
      ∃ t, exec (.fenceClear tag gen) s = .next t ∧ s.repliesTo t q Mbx.noVote [] ∧ t.votes = s.votes ∧ t.ch = s.ch ∧
        t.flow = s.flow ∧
        (FieldsKept ([SUP_MBX_RSP_PI.PI, SUP_MBX_STAT.RSP_EV, SUP_MBX_STAT.OUTST] ++ (List.range 16).map (fun k =>
          tableWord (0x22000 + 64 * s.rd SUP_MBX_RSP_PI.PI + 4 * k))) [35] [] s t)) ∧
  (∀ (s : State) (tag gen : Fin 256) (q : MbxCmd) (n e : Nat),
      s.mbxCmd tag = some q → (q.op = 3 ∧ q.stage = 2) → fenceArgs q = (5, n, e) → (n < 4 ∧ e < 4) →
      gen.val = s.rd SUP_MBX_GEN.GEN → s.mode ≠ Mode.degraded →
      ∃ t, exec (.fenceRetestComplete tag gen []) s = .next t ∧ t.rdBit KEY_STAT.ENG_FNC e = false ∧
        t.rdBit KEY_STAT.ENG_ACT e = true ∧ (t.mbx = s.mbx.filter (fun x => x.tag ≠ q.tag)) ∧
        (t.rd (tableWord (0x22000 + 64 * s.rd SUP_MBX_RSP_PI.PI)) = (q.tag * 2 ^ 16 + q.gen * 2 ^ 8 + 1) % 2 ^ 32 ∧
          t.rd (tableWord (0x22004 + 64 * s.rd SUP_MBX_RSP_PI.PI)) = 0) ∧
        t.ch = s.ch ∧ t.flow = s.flow) ∧
  (∀ (s : State) (tag gen : Fin 256) (q : MbxCmd) (n e : Nat),
      s.mbxCmd tag = some q → (q.op = 3 ∧ q.stage = 2) → fenceArgs q = (5, n, e) → (n < 4 ∧ e < 4) →
      gen.val = s.rd SUP_MBX_GEN.GEN →
      ∃ t, exec (.fenceRetestComplete tag gen [(5, e)]) s = .next t ∧
        t.rdBit KEY_STAT.ENG_FNC e = s.rdBit KEY_STAT.ENG_FNC e ∧ t.rd (IRQ_PEND 49) = 1 ∧
        (t.mbx = s.mbx.filter (fun x => x.tag ≠ q.tag)) ∧
        t.rd (tableWord (0x22000 + 64 * s.rd SUP_MBX_RSP_PI.PI)) = (0x0A000000 + q.tag * 2 ^ 16 + q.gen * 2 ^ 8 + 1) %
          2 ^ 32 ∧
        t.ch = s.ch ∧ t.flow = s.flow) ∧
  (∀ (s : State) (tag gen : Fin 256) (q : MbxCmd) (i : Fin 3),
      s.mbxCmd tag = some q → (q.op = 4 ∧ q.stage = 0) → q.words.getD 0 0 = i.val → s.sup i = Sup.held →
      gen.val = s.rd SUP_MBX_GEN.GEN →
      ∃ t, exec (.supRestore tag gen) s = .next t ∧ t.sup i = Sup.boot ∧ t.rd (SUP_FAIL_S.ATTEMPTS i) = 0 ∧
        s.repliesTo t q Mbx.ok [] ∧ t.ch = s.ch ∧ t.flow = s.flow) ∧
  (∀ (s : State) (tag gen : Fin 256) (q : MbxCmd) (l : List Byte),
      s.mbxCmd tag = some q → (q.op = 5 ∧ q.stage = 0) →
      (q.words.getD 0 0 ≤ 2 ∧ q.words.getD 1 0 ≤ 1023 ∧ 1 ≤ q.words.getD 4 0 ∧ q.words.getD 4 0 ≤ 1024) →
      s.portSends = true → gen.val = s.rd SUP_MBX_GEN.GEN →
      ∃ t, exec (.logRead tag gen (some l)) s = .next t ∧
        (t.out = .hostMemory (q.words.getD 3 0 * 2 ^ 32 + q.words.getD 2 0) (l.take (16 * Nat.min (q.words.getD 4 0)
          (l.length / 16))) :: s.out) ∧
        s.repliesTo t q Mbx.ok [Nat.min (q.words.getD 4 0) (l.length / 16)] ∧ t.ch = s.ch ∧ t.flow = s.flow ∧
        (FieldsKept ([SUP_MBX_RSP_PI.PI, SUP_MBX_STAT.RSP_EV, SUP_MBX_STAT.OUTST] ++ (List.range 16).map (fun k =>
          tableWord (0x22000 + 64 * s.rd SUP_MBX_RSP_PI.PI + 4 * k))) [35] [] s t)) ∧
  (∀ (s : State) (tag gen : Fin 256) (q : MbxCmd),
      s.mbxCmd tag = some q → (q.op = 0x10 ∧ q.stage = 0) → gen.val = s.rd SUP_MBX_GEN.GEN →
      ∃ t, exec (.fwInfo tag gen) s = .next t ∧
        s.repliesTo t q Mbx.ok [s.rd SUP_FW_STAT.S0_VALID, ((s.fwSlot 0).map FwSlot.version).getD 0, ((s.fwSlot 0).map
          FwSlot.svn).getD 0, s.rd SUP_FW_STAT.S1_VALID, ((s.fwSlot 1).map FwSlot.version).getD 0, ((s.fwSlot 1).map
          FwSlot.svn).getD 0, s.rd SUP_FW_STAT.RUN_SLOT, s.rd SUP_FW_STAT.NEXT_SLOT, s.rd SUP_FW_STAT.SVN_MIN] ∧
        t.ch = s.ch ∧ t.flow = s.flow ∧
        (FieldsKept ([SUP_MBX_RSP_PI.PI, SUP_MBX_STAT.RSP_EV, SUP_MBX_STAT.OUTST] ++ (List.range 16).map (fun k =>
          tableWord (0x22000 + 64 * s.rd SUP_MBX_RSP_PI.PI + 4 * k))) [35] [] s t)) ∧
  (∀ (s : State) (tag gen : Fin 256) (q : MbxCmd) (l : List Byte),
      s.mbxCmd tag = some q → (q.op = 0x11 ∧ q.stage = 0) →
      (q.words.getD 0 0 ≤ 1 ∧ 1 ≤ q.words.getD 3 0 ∧ q.words.getD 3 0 ≤ 4194304) →
      (q.words.getD 0 0 ≠ s.rd SUP_FW_STAT.RUN_SLOT ∧ q.words.getD 0 0 ≠ s.rd SUP_FW_STAT.NEXT_SLOT) →
      s.portSends = true → s.on DMAC.SUP_ERR = false → gen.val = s.rd SUP_MBX_GEN.GEN →
      ∃ t, exec (.fwLoad tag gen (some l)) s = .next t ∧
        t.fw = s.fw.set (q.words.getD 0 0) (some (slotOf (l.take (q.words.getD 3 0)))) ∧
        t.rd (verified (q.words.getD 0 0)) = 0 ∧ s.repliesTo t q Mbx.ok [] ∧ t.ch = s.ch ∧ t.flow = s.flow ∧
        (FieldsKept ([verified (q.words.getD 0 0)] ++ poolFields ++ [SUP_MBX_RSP_PI.PI, SUP_MBX_STAT.RSP_EV,
          SUP_MBX_STAT.OUTST] ++ (List.range 16).map (fun k => tableWord (0x22000 + 64 * s.rd SUP_MBX_RSP_PI.PI + 4 *
          k))) [35] [] s t)) ∧
  (∀ (s : State) (tag gen : Fin 256) (q : MbxCmd) (l : List Byte),
      s.mbxCmd tag = some q → (q.op = 0x11 ∧ q.stage = 0) →
      (q.words.getD 0 0 ≤ 1 ∧ 1 ≤ q.words.getD 3 0 ∧ q.words.getD 3 0 ≤ 4194304) →
      (q.words.getD 0 0 = s.rd SUP_FW_STAT.RUN_SLOT ∨ q.words.getD 0 0 = s.rd SUP_FW_STAT.NEXT_SLOT) →
      gen.val = s.rd SUP_MBX_GEN.GEN →
      ∃ t, exec (.fwLoad tag gen (some l)) s = .next t ∧ t.fw = s.fw ∧ s.repliesTo t q Mbx.badState [] ∧ t.ch = s.ch ∧
        t.flow = s.flow ∧
        (FieldsKept (poolFields ++ [SUP_MBX_RSP_PI.PI, SUP_MBX_STAT.RSP_EV, SUP_MBX_STAT.OUTST] ++ (List.range 16).map
          (fun k => tableWord (0x22000 + 64 * s.rd SUP_MBX_RSP_PI.PI + 4 * k))) [35] [] s t)) ∧
  (∀ (s : State) (tag gen : Fin 256) (q : MbxCmd) (v : FwSlot),
      s.mbxCmd tag = some q → (q.op = 0x12 ∧ q.stage = 0) → q.words.getD 0 0 ≤ 1 →
      s.slotValid (q.words.getD 0 0) = true → s.fwSlot (q.words.getD 0 0) = some v →
      gen.val = s.rd SUP_MBX_GEN.GEN →
      ∃ t, exec (.fwVerify tag gen) s = .next t ∧ t.rd (verified (q.words.getD 0 0)) = 1 ∧
        s.repliesTo t q Mbx.ok [v.version, v.svn] ∧ t.ch = s.ch ∧ t.flow = s.flow ∧
        (FieldsKept ([verified (q.words.getD 0 0)] ++ [SUP_MBX_RSP_PI.PI, SUP_MBX_STAT.RSP_EV, SUP_MBX_STAT.OUTST] ++
          (List.range 16).map (fun k => tableWord (0x22000 + 64 * s.rd SUP_MBX_RSP_PI.PI + 4 * k))) [35] [] s t)) ∧
  (∀ (s : State) (tag gen : Fin 256) (q : MbxCmd),
      s.mbxCmd tag = some q → (q.op = 0x12 ∧ q.stage = 0) → q.words.getD 0 0 ≤ 1 →
      s.slotValid (q.words.getD 0 0) = false → gen.val = s.rd SUP_MBX_GEN.GEN →
      ∃ t, exec (.fwVerify tag gen) s = .next t ∧ t.rd (verified (q.words.getD 0 0)) = 0 ∧
        s.repliesTo t q Mbx.authFailed [] ∧ t.ch = s.ch ∧ t.flow = s.flow ∧
        (FieldsKept ([verified (q.words.getD 0 0)] ++ [SUP_MBX_RSP_PI.PI, SUP_MBX_STAT.RSP_EV, SUP_MBX_STAT.OUTST] ++
          (List.range 16).map (fun k => tableWord (0x22000 + 64 * s.rd SUP_MBX_RSP_PI.PI + 4 * k))) [35] [] s t)) ∧
  (∀ (s : State) (tag gen : Fin 256) (q : MbxCmd),
      s.mbxCmd tag = some q → (q.op = 0x13 ∧ q.stage = 0) → s.on (verified (q.words.getD 0 0 % 2)) = true →
      s.frozen = false →
      ∃ t, exec (.fwActivate tag gen) s = .next t ∧ (t.votes = s.votes ++ [.fwActivate tag]) ∧
        (t.mbx = s.mbx.map (fun m => if m.tag = tag.val then { m with stage := 1 } else m)) ∧ t.regs = s.regs ∧
        t.ch = s.ch ∧ t.flow = s.flow) ∧
  (∀ (s : State) (tag gen : Fin 256) (q : MbxCmd),
      s.mbxCmd tag = some q → (q.op = 0x13 ∧ q.stage = 0) → s.on (verified (q.words.getD 0 0 % 2)) = false →
      gen.val = s.rd SUP_MBX_GEN.GEN →
      ∃ t, exec (.fwActivate tag gen) s = .next t ∧ s.repliesTo t q Mbx.badState [] ∧ t.votes = s.votes ∧
        t.ch = s.ch ∧ t.flow = s.flow ∧
        (FieldsKept ([SUP_MBX_RSP_PI.PI, SUP_MBX_STAT.RSP_EV, SUP_MBX_STAT.OUTST] ++ (List.range 16).map (fun k =>
          tableWord (0x22000 + 64 * s.rd SUP_MBX_RSP_PI.PI + 4 * k))) [35] [] s t))

/-- O46. Target 0 is the host, targets 1 to 3 the supervisors. A selection holds its level plus 1; a stack is a word
  with
bit L for level L. (1) a write of a pending or mask word acts on every implemented source whose bit is 1 and on no
other (R363, R366, R367): here it sets them pending. (2) so for clearing them. (3) for masking them. (4) and for
unmasking them. (5) selection takes the highest eligible level, when it is above the running priority (R368). (6) with
none above it nothing is selected. (7) commit pushes it and sends the host's MSI-X message of vector v (R371, R372).
(8) a masked message waits in the pending-bit array. (9) for a supervisor it pushes and nothing is sent. (10) EOI pops
the highest level of the host's stack (R369). (11) on an empty one it sets EOI_UNDER. (12) a controller fault stops
delivery and drops what was selected (R374).  (16_interrupts_and_counters.md, 19_management_port.md) -/
def Obligations.InterruptWordsAndDelivery : Prop :=
  (∀ (s : State) (win : Fin 7) (k : Fin 64) (value : Word),
      s.writeOpen win 2 →
      ∃ t, exec (.irqPendSet win k value 15) s = .next t ∧
        (∀ N ∈ allSources, t.rd (IRQ_PEND N) = if N / 32 = k.val ∧ bit value.toNat (N % 32) = 1 then 1 else s.rd
          (IRQ_PEND N)) ∧
        t.ch = s.ch ∧ t.flow = s.flow ∧
        (SameFields ((wordSources k value.toNat).flatMap (fun N => [IRQ_PEND N, IRQ_CFG.ARRIVE N])) s t)) ∧
  (∀ (s : State) (win : Fin 7) (k : Fin 64) (value : Word),
      s.writeOpen win 2 →
      ∃ t, exec (.irqPendClear win k value 15) s = .next t ∧
        (∀ N ∈ allSources, t.rd (IRQ_PEND N) = if N / 32 = k.val ∧ bit value.toNat (N % 32) = 1 then 0 else s.rd
          (IRQ_PEND N)) ∧
        t.ch = s.ch ∧ t.flow = s.flow ∧
        (SameFields ((wordSources k value.toNat).flatMap (fun N => [IRQ_PEND N, IRQ_CFG.ARRIVE N])) s t)) ∧
  (∀ (s : State) (win : Fin 7) (k : Fin 64) (value : Word),
      s.writeOpen win 2 →
      ∃ t, exec (.irqMaskSet win k value 15) s = .next t ∧
        (∀ N ∈ allSources, t.rd (IRQ_MASK N) = if N / 32 = k.val ∧ bit value.toNat (N % 32) = 1 then 1 else s.rd
          (IRQ_MASK N)) ∧
        t.ch = s.ch ∧ t.flow = s.flow ∧ SameFields ((wordSources k value.toNat).map IRQ_MASK) s t) ∧
  (∀ (s : State) (win : Fin 7) (k : Fin 64) (value : Word),
      s.writeOpen win 2 →
      ∃ t, exec (.irqMaskClear win k value 15) s = .next t ∧
        (∀ N ∈ allSources, t.rd (IRQ_MASK N) = if N / 32 = k.val ∧ bit value.toNat (N % 32) = 1 then 0 else s.rd
          (IRQ_MASK N)) ∧
        t.ch = s.ch ∧ t.flow = s.flow ∧ SameFields ((wordSources k value.toNat).map IRQ_MASK) s t) ∧
  (∀ (s : State) (target : Fin 4) (d : Nat),
      s.takesIrq target = true → s.on IRQ_STAT.FAULT = false → s.rd (IRQC.SEL target) = 0 → s.running target < d →
      (s.eligLevels target).contains (d - 1) = true → (∀ l ∈ s.eligLevels target, l < d) →
      ∃ t, exec (.interruptSelection target) s = .next t ∧ t.rd (IRQC.SEL target) = d ∧ t.out = s.out ∧ t.ch = s.ch ∧
        t.flow = s.flow ∧ SameFields [IRQC.SEL target] s t) ∧
  (∀ (s : State) (target : Fin 4),
      (∀ l ∈ s.eligLevels target, l < s.running target) →
      ∃ t, exec (.interruptSelection target) s = .next t ∧ t = s) ∧
  (∀ (s : State) (v : Nat),
      s.rd (IRQC.SEL 0) = v + 1 → v < 16 → s.on IRQ_STAT.FAULT = false → s.on MGTC.MSIX_EN = true →
      s.on MGTC.FMASK = false → s.on (MSIX.MASK v) = false → s.portSends = true →
      ∃ t, exec (.interruptCommit 0) s = .next t ∧ t.stack 0 = setBit (s.stack 0) v ∧
        t.rd IRQ_HSTK.DEPTH = popcount (setBit (s.stack 0) v) 16 % 2 ^ IRQ_HSTK.DEPTH.width ∧
        t.rd IRQ_CNT.DLV = s.oneMore IRQ_CNT.DLV ∧
        (t.rd IRQ_CNT.DAM = if (s.eligLevels 0).contains v then s.rd IRQ_CNT.DAM else s.oneMore IRQ_CNT.DAM) ∧
        t.rd (IRQC.SEL 0) = 0 ∧ (t.out = .msix v :: s.out) ∧ t.ch = s.ch ∧ t.flow = s.flow ∧
        SameFields [IRQC.SEL 0, IRQ_HSTK.LEVELS, IRQ_HSTK.DEPTH, IRQ_HSTK.TOP, IRQ_CNT.DLV, IRQ_CNT.DAM] s t) ∧
  (∀ (s : State) (v : Nat),
      s.rd (IRQC.SEL 0) = v + 1 → v < 16 → s.on IRQ_STAT.FAULT = false → s.on MGTC.MSIX_EN = true →
      (s.on MGTC.FMASK = true ∨ s.on (MSIX.MASK v) = true) →
      ∃ t, exec (.interruptCommit 0) s = .next t ∧ t.stack 0 = setBit (s.stack 0) v ∧
        t.rd IRQ_HSTK.DEPTH = popcount (setBit (s.stack 0) v) 16 % 2 ^ IRQ_HSTK.DEPTH.width ∧
        t.rd IRQ_CNT.DLV = s.oneMore IRQ_CNT.DLV ∧
        (t.rd IRQ_CNT.DAM = if (s.eligLevels 0).contains v then s.rd IRQ_CNT.DAM else s.oneMore IRQ_CNT.DAM) ∧
        t.rd (IRQC.SEL 0) = 0 ∧ t.rd (MSIX.PEND v) = 1 ∧ t.out = s.out ∧ t.ch = s.ch ∧ t.flow = s.flow ∧
        SameFields [IRQC.SEL 0, IRQ_HSTK.LEVELS, IRQ_HSTK.DEPTH, IRQ_HSTK.TOP, IRQ_CNT.DLV, IRQ_CNT.DAM, MSIX.PEND v]
          s t) ∧
  (∀ (s : State) (target : Fin 4) (v : Nat),
      target ≠ 0 → s.rd (IRQC.SEL target) = v + 1 → v < 16 → s.on IRQ_STAT.FAULT = false →
      s.takesIrq target = true →
      ∃ t, exec (.interruptCommit target) s = .next t ∧ t.stack target = setBit (s.stack target) v ∧
        t.rd (IRQC.SEL target) = 0 ∧ t.out = s.out ∧ t.ch = s.ch ∧ t.flow = s.flow ∧
        SameFields [IRQC.SEL target, IRQ_SSTK.W (target - 1)] s t) ∧
  (∀ (s : State) (win : Fin 7) (value : Word),
      s.writeOpen win 2 → s.stack 0 ≠ 0 →
      ∃ t, exec (.irqEoi win value 15) s = .next t ∧ t.stack 0 = clrBit (s.stack 0) (s.running 0 - 1) ∧ t.ch = s.ch ∧
        t.flow = s.flow ∧ SameFields [IRQ_HSTK.LEVELS, IRQ_HSTK.DEPTH, IRQ_HSTK.TOP] s t) ∧
  (∀ (s : State) (win : Fin 7) (value : Word),
      s.writeOpen win 2 → s.stack 0 = 0 →
      ∃ t, exec (.irqEoi win value 15) s = .next t ∧ t.rd IRQ_STAT.EOI_UNDER = 1 ∧ t.ch = s.ch ∧ t.flow = s.flow ∧
        SameFields [IRQ_STAT.EOI_UNDER] s t) ∧
  (∀ (s : State),
      ∃ t, exec (.interruptControllerFault) s = .next t ∧ t.rd IRQ_STAT.FAULT = 1 ∧
        (t.rd IRQ_STAT.FAULT_EV = if s.on IRQ_STAT.FAULT then s.rd IRQ_STAT.FAULT_EV else 1) ∧
        (∀ k : Fin 4, t.rd (IRQC.SEL k) = 0) ∧ t.ch = s.ch ∧ t.flow = s.flow ∧
        SameFields [IRQ_STAT.FAULT, IRQ_STAT.FAULT_EV, IRQC.SEL 0, IRQC.SEL 1, IRQC.SEL 2, IRQC.SEL 3] s t)

/-- O47. Scopes 0 to 3 are the channels, 4 the module; k is the counter that PMC_CH_SEL shows. counterValue is its
  value,
a ledger counter's own (R377). (1) a programmable counter takes an event that its block lists, and counts (R379). (2)
a fixed one refuses, reason 0x5. (3) a value write loads the 48 bits that the two halves hold (R380), and STICKY
written 1 clears. (4) a snapshot of a scope latches each counter with its sticky bit, which clears (R381). (5) while
one of the scope is not written yet it collides. (6) the record is written with the next sequence number: DONE and
source 145 (R382).  (16_interrupts_and_counters.md) -/
def Obligations.PerformanceCounters : Prop :=
  (∀ (s : State) (win : Fin 7) (b : Fin 5) (value : Word) (k : Nat),
      s.writeOpen win 3 → s.rd (PMC_CH_SEL.COUNTER b) = k → k < counters b → fixedCounter b k = false →
      eventAllowed b k ((PMC_CH_CFG.EVENT b k).of value.toNat) = true → (PMC_CH_CFG.EVENT b k).of value.toNat ≠ 0 →
      ∃ t, exec (.pmcConfigWrite win b value 15) s = .next t ∧
        t.rd (PMC_CH_CFG.EVENT b k) = (PMC_CH_CFG.EVENT b k).of value.toNat ∧
        t.rd (PMC_CH_CFG.FEN b k) = (PMC_CH_CFG.FEN b k).of value.toNat ∧
        t.rd (PMC_CH_CFG.THR b k) = (PMC_CH_CFG.THR b k).of value.toNat ∧
        t.rd (PMC_CH_CFG.FILTER b k) = (PMC_CH_CFG.FILTER b k).of value.toNat ∧ (b.val, k) ∈ t.pmcOn ∧ t.ch = s.ch ∧
        t.flow = s.flow ∧
        SameFields [PMC_CH_CFG.EVENT b k, PMC_CH_CFG.FEN b k, PMC_CH_CFG.THR b k, PMC_CH_CFG.FILTER b k] s t) ∧
  (∀ (s : State) (win : Fin 7) (b : Fin 5) (value : Word) (k : Nat),
      s.writeOpen win 3 → s.rd (PMC_CH_SEL.COUNTER b) = k → k < counters b → fixedCounter b k = true →
      ∃ t, exec (.pmcConfigWrite win b value 15) s = .next t ∧ s.refusedAs t win (pmcBase b + 0xC) 5 false ∧
        t.pmcOn = s.pmcOn ∧ t.ch = s.ch ∧ t.flow = s.flow) ∧
  (∀ (s : State) (win : Fin 7) (b : Fin 5) (value : Word) (k : Nat),
      s.writeOpen win 3 → s.rd (PMC_CH_SEL.COUNTER b) = k → k < counters b → fixedCounter b k = false →
      ∃ t, exec (.pmcValueWrite win b value 15) s = .next t ∧
        t.rd (PMC.CNT b k) % 2 ^ 48 = (PMC_CH_VAL_HI.HI b).of value.toNat * 2 ^ 32 + s.rd (PMC_CH_VAL_LO.LO b) ∧
        (t.rd (PMC.STICKY b k) = if (PMC_CH_VAL_HI.STICKY b).of value.toNat = 1 then 0 else s.rd (PMC.STICKY b k)) ∧
        t.ch = s.ch ∧ t.flow = s.flow ∧
        SameFields [PMC.CNT b k, PMC.STICKY b k, PMC_CH_VAL_HI.HI b, PMC_CH_VAL_HI.STICKY b] s t) ∧
  (∀ (s : State) (win : Fin 7) (value : Word) (k : Fin 5) (j : Nat),
      s.writeOpen win 3 → PMC_SNAP_REQ.SCOPE.of value.toNat = 2 ^ k.val → bit (s.rd PMC_SNAP_STAT.BUSY) k = 0 →
      j < counters k →
      ∃ t, exec (.pmcSnapshotRequest win value 15) s = .next t ∧ bit (t.rd PMC_SNAP_STAT.BUSY) k = 1 ∧
        t.rd (PMC.STICKY k j) = 0 ∧ t.rd (PMC.LATCHED k) = s.time % 2 ^ 64 ∧
        (0x40 + 8 * j, s.counterValue k j + 2 ^ 63 * s.rd (PMC.STICKY k j)) ∈ (keyed (8 + k.val) t.snaps).getD [] ∧
        t.ch = s.ch ∧ t.flow = s.flow ∧
        (SameFields ([PMC_SNAP_STAT.BUSY, PMC.LATCHED k] ++ (List.range (counters k)).map (PMC.STICKY k)) s t)) ∧
  (∀ (s : State) (win : Fin 7) (value : Word) (k : Fin 5),
      s.writeOpen win 3 → PMC_SNAP_REQ.SCOPE.of value.toNat = 2 ^ k.val → bit (s.rd PMC_SNAP_STAT.BUSY) k = 1 →
      ∃ t, exec (.pmcSnapshotRequest win value 15) s = .next t ∧ t.rdBit PMC_SNAP_STAT.COLLIDE k = true ∧
        t.snaps = s.snaps ∧ t.ch = s.ch ∧ t.flow = s.flow ∧ SameFields [PMC_SNAP_STAT.COLLIDE] s t) ∧
  (∀ (s : State) (k : Fin 5) (j : Nat) (v : Nat),
      bit (s.rd PMC_SNAP_STAT.BUSY) k = 1 → keyed (8 + k.val) s.snaps = some [(0x40 + 8 * j, v)] → j < counters k →
      ∃ t, exec (.pmcSnapshotWritten k) s = .next t ∧ t.rd (PMC.SEQ k) = (s.rd (PMC.SEQ k) + 1) % 2 ^ 32 ∧
        t.rd (tableWord (pmcArea k + (0x40 + 8 * j))) = v % 2 ^ 32 ∧ t.rdBit PMC_SNAP_STAT.DONE k = true ∧
        t.rdBit PMC_SNAP_STAT.BUSY k = false ∧ keyed (8 + k.val) t.snaps = none ∧ t.rd (IRQ_PEND 145) = 1 ∧
        t.ch = s.ch ∧ t.flow = s.flow ∧
        (FieldsKept ([PMC.SEQ k, PMC_SNAP_STAT.DONE, PMC_SNAP_STAT.BUSY] ++ [0, 4, 8, 12, 0x40 + 8 * j, 0x44 + 8 *
          j].map (fun a => tableWord (pmcArea k + a))) [145] [] s t))

/-- O48. The array's bits flip by upset before a read; a verdict is the outcome of Table 17.1; m is the line's address,
bank before line. (1) a read of a clean line changes nothing but the bits that flipped. (2) a correctable one is
counted, logged, here as the first entry, and written back corrected: CORR_EV and source 96. (3) one whose write-back
does not hold stays, and is logged again as write-back failed, source 97. (4) an uncorrectable one is counted and
logged, source 97, and stays; COND bit 1 sets for the bank's owner. (5) in a bank of channel n it poisons the oldest
token of the tributary whose byte it holds (R23, R388). (6) and in a control bank it fails the supervisor whose memory
it holds, cause 0x6. (7) a write of a whole line replaces it with fresh parity and check byte. (8) while the bank is
copied to a spare, it lands there as well (R394). (9) one of a part merges into what a clean read gives.
(17_memory_integrity.md, 01_architecture.md, 02_fabric_and_conservation.md) -/
def Obligations.MemoryLinesAreCorrected : Prop :=
  (∀ (s : State) (bank : Fin 68) (line : Fin 40960) (src : Fin 7) (holds : Holds) (upset : SramLine) (stuck : Bool),
      s.powered = true → ((s.getLine bank line).flip upset).verdict = .clean →
      ∃ t, exec (.memoryLineRead bank line src holds upset stuck) s = .next t ∧
        t.getLine bank line = (s.getLine bank line).flip upset ∧ t.regs = s.regs ∧ t.ch = s.ch ∧ t.flow = s.flow) ∧
  (∀ (s : State) (bank : Fin 68) (line : Fin 40960) (src : Fin 7) (holds : Holds) (upset : SramLine) (stuck : Bool)
    (good : SramLine) (kind byte nb : Nat),
      s.powered = true → s.copying bank = false →
      ((s.getLine bank line).flip upset).verdict = .fixed kind byte nb good → stuck = false →
      (s.rd MEM_LOG_PTR.PTR = 0 ∧ s.on MEM_LOG_PTR.WRAP = false) →
      ∃ t, exec (.memoryLineRead bank line src holds upset stuck) s = .next t ∧ t.getLine bank line = good ∧
        t.rd MEM_CNT.CORR = s.oneMore MEM_CNT.CORR ∧ t.rd MEM_STAT.CORR_EV = 1 ∧
        t.rd (MEM_BCNT.CORR (s.physOf bank)) = s.oneMore (MEM_BCNT.CORR (s.physOf bank)) ∧ t.rd (IRQ_PEND 96) = 1 ∧
        t.rd MEM_LOG_PTR.PTR = 1 ∧
        t.rd (tableWord (0x8C00000 + 16 * (s.rd MEM_LOG_PTR.PTR % 1024) + 8)) = (s.physOf bank * 2 ^ 30 + 65536 *
          bank.val + line.val) % 2 ^ 32 ∧
        t.ch = s.ch ∧ t.flow = s.flow ∧
        (FieldsKept ([MEM_CNT.CORR, MEM_STAT.CORR_EV, MEM_BCNT.CORR (s.physOf bank)] ++ [MEM_LOG_PTR.PTR] ++
          (List.range 4).map (fun k => tableWord (0x8C00000 + 16 * (s.rd MEM_LOG_PTR.PTR % 1024) + 4 * k))) [96] [4] s
          t)) ∧
  (∀ (s : State) (bank : Fin 68) (line : Fin 40960) (src : Fin 7) (holds : Holds) (upset : SramLine) (stuck : Bool)
    (good : SramLine) (kind byte nb : Nat),
      s.powered = true → ((s.getLine bank line).flip upset).verdict = .fixed kind byte nb good → stuck = true →
      (s.rd MEM_LOG_PTR.PTR = 0 ∧ s.on MEM_LOG_PTR.WRAP = false) →
      ∃ t, exec (.memoryLineRead bank line src holds upset stuck) s = .next t ∧
        t.getLine bank line = (s.getLine bank line).flip upset ∧ t.rd MEM_CNT.CORR = s.oneMore MEM_CNT.CORR ∧
        t.rd MEM_STAT.WBF_EV = 1 ∧ (t.rd (IRQ_PEND 96) = 1 ∧ t.rd (IRQ_PEND 97) = 1) ∧ t.rd MEM_LOG_PTR.PTR = 2 ∧
        t.ch = s.ch ∧ t.flow = s.flow) ∧
  (∀ (s : State) (bank : Fin 68) (line : Fin 40960) (src : Fin 7) (holds : Holds) (upset : SramLine) (stuck : Bool)
    (nb byte : Nat),
      s.powered = true → ((s.getLine bank line).flip upset).verdict = .bad nb byte → holds = .line →
      (s.rd MEM_LOG_PTR.PTR = 0 ∧ s.on MEM_LOG_PTR.WRAP = false) →
      ∃ t, exec (.memoryLineRead bank line src holds upset stuck) s = .next t ∧
        t.getLine bank line = (s.getLine bank line).flip upset ∧ t.rd MEM_CNT.UNC = s.oneMore MEM_CNT.UNC ∧
        t.rd MEM_STAT.UNC_EV = 1 ∧ t.rd (MEM_BCNT.UNC (s.physOf bank)) = s.oneMore (MEM_BCNT.UNC (s.physOf bank)) ∧
        t.rd (IRQ_PEND 97) = 1 ∧ (∀ n ∈ s.owners bank, t.rdBit (FABC.COND n) 1 = true) ∧ t.ch = s.ch ∧
        t.flow = s.flow ∧
        (FieldsKept ([MEM_CNT.UNC, MEM_STAT.UNC_EV, MEM_BCNT.UNC (s.physOf bank), FABC.COND 0, FABC.COND 1, FABC.COND
          2, FABC.COND 3] ++ [MEM_LOG_PTR.PTR] ++ (List.range 4).map (fun k => tableWord (0x8C00000 + 16 * (s.rd
          MEM_LOG_PTR.PTR % 1024) + 4 * k))) [97] [4] s t)) ∧
  (∀ (s : State) (bank : Fin 68) (line : Fin 40960) (src : Fin 7) (holds : Holds) (upset : SramLine) (stuck : Bool)
    (nb byte : Nat) (n : Fin 4) (k : Fin 1024),
      s.powered = true → ((s.getLine bank line).flip upset).verdict = .bad nb byte →
      s.bankChannel bank = some n.val → holds = .tokens [(true, k)] →
      ∃ t, exec (.memoryLineRead bank line src holds upset stuck) s = .next t ∧
        t.getLine bank line = (s.getLine bank line).flip upset ∧ t.rd MEM_CNT.UNC = s.oneMore MEM_CNT.UNC ∧
        t.rd MEM_STAT.UNC_EV = 1 ∧ t.rd (MEM_BCNT.UNC (s.physOf bank)) = s.oneMore (MEM_BCNT.UNC (s.physOf bank)) ∧
        (∀ m : Fin 4, (t.flow.get m).tok = (if m = n then (Flow.poisonOne (fun x => x.trib = k.val && x.stage.isTx =
          false && !x.poison) (s.flow.get n)).tok else (s.flow.get m).tok)) ∧
        t.ch = s.ch) ∧
  (∀ (s : State) (bank : Fin 68) (line : Fin 40960) (src : Fin 7) (holds : Holds) (upset : SramLine) (stuck : Bool)
    (nb byte : Nat) (j : Fin 3),
      s.powered = true → ((s.getLine bank line).flip upset).verdict = .bad nb byte → s.bankControl bank = true →
      holds = .supervisor j → s.counted = [0, 1, 2] → s.sup 0 = Sup.leader → s.sup j = Sup.follower →
      s.on (SUPC.RETURN j) = false →
      ∃ t, exec (.memoryLineRead bank line src holds upset stuck) s = .next t ∧
        t.getLine bank line = (s.getLine bank line).flip upset ∧ t.rd MEM_CNT.UNC = s.oneMore MEM_CNT.UNC ∧
        t.rd MEM_STAT.UNC_EV = 1 ∧ t.rd (MEM_BCNT.UNC (s.physOf bank)) = s.oneMore (MEM_BCNT.UNC (s.physOf bank)) ∧
        (t.sup j = Sup.failed ∧ t.rd (SUP_FAIL_S.CAUSE j) = 6) ∧ t.rd (IRQ_PEND 32) = 1 ∧ t.ch = s.ch ∧
        t.flow = s.flow) ∧
  (∀ (s : State) (bank : Fin 68) (line : Fin 40960) (src : Fin 7) (holds : Holds) (upset : SramLine) (data : BitVec
    512),
      s.powered = true → s.copying bank = false →
      ∃ t, exec (.memoryLineWrite bank line src holds upset data (BitVec.allOnes 64)) s = .next t ∧
        t.getLine bank line = SramLine.of data ∧ t.regs = s.regs ∧ t.ch = s.ch ∧ t.flow = s.flow) ∧
  (∀ (s : State) (bank : Fin 68) (line : Fin 40960) (src : Fin 7) (holds : Holds) (upset : SramLine) (data : BitVec
    512),
      s.powered = true → s.copying bank = true → s.physOf bank ≠ 64 + s.rd MEMC.RSPARE →
      ∃ t, exec (.memoryLineWrite bank line src holds upset data (BitVec.allOnes 64)) s = .next t ∧
        t.getLine bank line = SramLine.of data ∧
        lineAt (lineLoc (64 + s.rd MEMC.RSPARE) line) t.sram = SramLine.of data ∧ t.regs = s.regs ∧ t.ch = s.ch ∧
        t.flow = s.flow) ∧
  (∀ (s : State) (bank : Fin 68) (line : Fin 40960) (src : Fin 7) (holds : Holds) (upset : SramLine) (data : BitVec
    512) (mask : BitVec 64),
      s.powered = true → s.copying bank = false → mask ≠ BitVec.allOnes 64 →
      ((s.getLine bank line).flip upset).verdict = .clean →
      ∃ t, exec (.memoryLineWrite bank line src holds upset data mask) s = .next t ∧
        t.getLine bank line = SramLine.of ((((s.getLine bank line).flip upset).data &&& ~~~(byteMask mask)) ||| (data
          &&& byteMask mask)) ∧
        t.regs = s.regs ∧ t.ch = s.ch ∧ t.flow = s.flow)

/-- O49. The scrub's next line is scrubNext of MEM_SCRUB_NEXT: the first that exists, spares in IN_USE left out. (1)
  GO of
a valid range starts a scrub at its first line. (2) under another it is refused, reason 0x6. (3) PAUSE holds it. (4)
RESUME continues it. (5) ABORT ends it with its summary, END 0b10: DONE_EV and source 98 (R392). (6) a clean line is
counted and passed. (7) it waits where a retirement copies the line's bank. (8) past the last line the scrub is
complete. (9) a retirement of a bank to a FREE spare starts (R393). (10) of a spare that is not, it is refused with
cause 0x2. (11) a clean line is copied to the spare, and NEXT advances. (12) an uncorrectable one is copied with P0
and P1 inverted, and stays uncorrectable (R394). (13) a failed spare write fails the retirement, cause 0x4, and leaves
the map as it was. (14) the switch puts the spare in the bank's place. (15) of a bank that ran on a spare, the old
spare is FAILED.  (17_memory_integrity.md) -/
def Obligations.ScrubsAndRetirements : Prop :=
  (∀ (s : State) (win : Fin 7) (value : Word),
      s.writeOpen win 3 →
      (MEM_SCRUB_CTRL.GO.of value.toNat = 1 ∧ MEM_SCRUB_CTRL.RESUME.of value.toNat = 0 ∧ MEM_SCRUB_CTRL.ABORT.of
        value.toNat = 0 ∧ MEM_SCRUB_CTRL.PAUSE.of value.toNat = 0) →
      (1 ≤ MEM_SCRUB_CTRL.RATE.of value.toNat ∧ MEM_SCRUB_CTRL.RATE.of value.toNat ≤ 64) → s.scrubBusy = false →
      s.scrubRange = true →
      ∃ t, exec (.scrubStart win value 15) s = .next t ∧ t.rd MEM_SCRUB_STAT.STATE = 1 ∧
        t.rd MEM_SCRUB_NEXT.MLA = s.rd MEM_SCRUB_START.MLA ∧ t.rd MEMC.END = s.rd MEM_SCRUB_END.MLA ∧
        t.rd MEMC.LINES = 0 ∧ t.sram = s.sram ∧ t.ch = s.ch ∧ t.flow = s.flow ∧
        SameFields [MEM_SCRUB_CTRL.RATE, MEM_SCRUB_STAT.STATE, MEM_SCRUB_STAT.PAUSE, MEM_SCRUB_NEXT.MLA, MEMC.START,
          MEMC.END, MEMC.LINES, MEMC.CORR, MEMC.UNC, MEMC.LASTREAD, MEMC.FAILV, MEMC.FIRST, MEMC.LASTF] s t) ∧
  (∀ (s : State) (win : Fin 7) (value : Word),
      s.writeOpen win 3 →
      (MEM_SCRUB_CTRL.GO.of value.toNat = 1 ∧ MEM_SCRUB_CTRL.RESUME.of value.toNat = 0 ∧ MEM_SCRUB_CTRL.ABORT.of
        value.toNat = 0 ∧ MEM_SCRUB_CTRL.PAUSE.of value.toNat = 0) →
      (1 ≤ MEM_SCRUB_CTRL.RATE.of value.toNat ∧ MEM_SCRUB_CTRL.RATE.of value.toNat ≤ 64) → s.scrubBusy = true →
      ∃ t, exec (.scrubStart win value 15) s = .next t ∧ t.rd MGT_REFUSE_INFO.REASON = 6 ∧
        t.rd MGT_REFUSE.ADDR = 0x70010 ∧ t.rd (IRQ_PEND 128) = 1 ∧ t.ch = s.ch ∧ t.flow = s.flow ∧
        (FieldsKept (MEM_SCRUB_CTRL.RATE :: s.refuseFields) [128] [4] s t)) ∧
  (∀ (s : State) (win : Fin 7) (value : Word),
      s.writeOpen win 3 →
      (MEM_SCRUB_CTRL.GO.of value.toNat = 0 ∧ MEM_SCRUB_CTRL.RESUME.of value.toNat = 0 ∧ MEM_SCRUB_CTRL.ABORT.of
        value.toNat = 0 ∧ MEM_SCRUB_CTRL.PAUSE.of value.toNat = 1) →
      (1 ≤ MEM_SCRUB_CTRL.RATE.of value.toNat ∧ MEM_SCRUB_CTRL.RATE.of value.toNat ≤ 64) →
      s.rd MEM_SCRUB_STAT.STATE = 1 →
      ∃ t, exec (.scrubPause win value 15) s = .next t ∧ t.rd MEM_SCRUB_STAT.STATE = 2 ∧
        t.rd MEM_SCRUB_STAT.PAUSE = 2 ∧ t.sram = s.sram ∧ t.ch = s.ch ∧ t.flow = s.flow ∧
        SameFields [MEM_SCRUB_CTRL.RATE, MEM_SCRUB_STAT.STATE, MEM_SCRUB_STAT.PAUSE] s t) ∧
  (∀ (s : State) (win : Fin 7) (value : Word),
      s.writeOpen win 3 →
      (MEM_SCRUB_CTRL.GO.of value.toNat = 0 ∧ MEM_SCRUB_CTRL.RESUME.of value.toNat = 1 ∧ MEM_SCRUB_CTRL.ABORT.of
        value.toNat = 0 ∧ MEM_SCRUB_CTRL.PAUSE.of value.toNat = 0) →
      (1 ≤ MEM_SCRUB_CTRL.RATE.of value.toNat ∧ MEM_SCRUB_CTRL.RATE.of value.toNat ≤ 64) →
      s.rd MEM_SCRUB_STAT.STATE = 2 → s.rd MEM_SCRUB_STAT.PAUSE = 2 →
      ∃ t, exec (.scrubResume win value 15) s = .next t ∧ t.rd MEM_SCRUB_STAT.STATE = 1 ∧
        t.rd MEM_SCRUB_STAT.PAUSE = 0 ∧ t.sram = s.sram ∧ t.ch = s.ch ∧ t.flow = s.flow ∧
        SameFields [MEM_SCRUB_CTRL.RATE, MEM_SCRUB_STAT.STATE, MEM_SCRUB_STAT.PAUSE] s t) ∧
  (∀ (s : State) (win : Fin 7) (value : Word),
      s.writeOpen win 3 →
      (MEM_SCRUB_CTRL.GO.of value.toNat = 0 ∧ MEM_SCRUB_CTRL.RESUME.of value.toNat = 0 ∧ MEM_SCRUB_CTRL.ABORT.of
        value.toNat = 1 ∧ MEM_SCRUB_CTRL.PAUSE.of value.toNat = 0) →
      (1 ≤ MEM_SCRUB_CTRL.RATE.of value.toNat ∧ MEM_SCRUB_CTRL.RATE.of value.toNat ≤ 64) → s.scrubBusy = true →
      ∃ t, exec (.scrubAbort win value 15) s = .next t ∧ t.rd MEM_SCRUB_STAT.STATE = 4 ∧
        t.rd MEM_SCRUB_STAT.DONE_EV = 1 ∧ t.rd (tableWord 0x8C10000) = (2 ^ 31 + s.rd MEMC.START) % 2 ^ 32 ∧
        (t.rd (tableWord 0x8C10008) = s.rd MEMC.CORR ∧ t.rd (tableWord 0x8C1000C) = s.rd MEMC.LINES) ∧
        t.rd (IRQ_PEND 98) = 1 ∧ t.sram = s.sram ∧ t.ch = s.ch ∧ t.flow = s.flow ∧
        (FieldsKept ([MEM_SCRUB_CTRL.RATE, MEM_SCRUB_STAT.STATE, MEM_SCRUB_STAT.PAUSE, MEM_SCRUB_STAT.DONE_EV,
          MEMC.SEQ] ++ (List.range 8).map (fun k => tableWord (0x8C10000 + 4 * k))) [98] [] s t)) ∧
  (∀ (s : State) (holds : Holds) (upset : SramLine) (stuck : Bool) (m : Nat),
      s.rd MEM_SCRUB_STAT.STATE = 1 → m = s.scrubNext 8 (s.rd MEM_SCRUB_NEXT.MLA) → m < s.rd MEMC.END →
      s.copying (m / 65536) = false → ((s.getLine (m / 65536) (m % 65536)).flip upset).verdict = .clean →
      s.scrubNext 8 (m + 1) ≤ s.rd MEMC.END →
      ∃ t, exec (.scrubLine holds upset stuck) s = .next t ∧ t.rd MEMC.LASTREAD = m ∧
        t.rd MEM_SCRUB_NEXT.MLA = s.scrubNext 8 (m + 1) % 2 ^ MEM_SCRUB_NEXT.MLA.width ∧
        t.rd MEMC.LINES = (s.rd MEMC.LINES + 1) % 2 ^ MEMC.LINES.width ∧ t.rd MEM_SCRUB_STAT.STATE = 1 ∧ t.ch = s.ch ∧
        t.flow = s.flow ∧
        FieldsKept [MEMC.LASTREAD, MEM_SCRUB_NEXT.MLA, MEMC.LINES, MEM_SCRUB_STAT.STATE, MEM_SCRUB_STAT.PAUSE] [] [4]
          s t) ∧
  (∀ (s : State) (holds : Holds) (upset : SramLine) (stuck : Bool) (m : Nat),
      s.rd MEM_SCRUB_STAT.STATE = 1 → m = s.scrubNext 8 (s.rd MEM_SCRUB_NEXT.MLA) → m ≤ s.rd MEMC.END →
      s.copying (m / 65536) = true →
      ∃ t, exec (.scrubLine holds upset stuck) s = .next t ∧
        (t.rd MEM_SCRUB_STAT.STATE = 2 ∧ t.rd MEM_SCRUB_STAT.PAUSE = 1) ∧ t.sram = s.sram ∧ t.ch = s.ch ∧
        t.flow = s.flow ∧ SameFields [MEM_SCRUB_NEXT.MLA, MEM_SCRUB_STAT.STATE, MEM_SCRUB_STAT.PAUSE] s t) ∧
  (∀ (s : State) (holds : Holds) (upset : SramLine) (stuck : Bool),
      s.rd MEM_SCRUB_STAT.STATE = 1 → s.rd MEMC.END < s.scrubNext 8 (s.rd MEM_SCRUB_NEXT.MLA) →
      ∃ t, exec (.scrubLine holds upset stuck) s = .next t ∧ t.rd MEM_SCRUB_STAT.STATE = 3 ∧
        t.rd MEM_SCRUB_STAT.DONE_EV = 1 ∧ t.rd (IRQ_PEND 98) = 1 ∧ t.sram = s.sram ∧ t.ch = s.ch ∧ t.flow = s.flow ∧
        (FieldsKept ([MEM_SCRUB_STAT.STATE, MEM_SCRUB_STAT.PAUSE, MEM_SCRUB_STAT.DONE_EV, MEMC.SEQ] ++ (List.range
          8).map (fun k => tableWord (0x8C10000 + 4 * k))) [98] [] s t)) ∧
  (∀ (s : State) (win : Fin 7) (value : Word) (bank : Fin 64) (sp : Fin 4),
      s.writeOpen win 3 →
      (MEM_RET_CTRL.GO.of value.toNat = 1 ∧ MEM_RET_CTRL.BANK.of value.toNat = bank.val ∧ MEM_RET_CTRL.SPARE.of
        value.toNat = sp.val) →
      s.retiring = false → s.rd (MEM_SPARE.STATE sp) = 0 →
      ∃ t, exec (.bankRetirementStart win value 15) s = .next t ∧
        (t.rd MEM_RET_STAT.STATE = 1 ∧ t.rd MEM_RET_STAT.CAUSE = 0 ∧ t.rd MEM_RET_STAT.NEXT = 0) ∧
        (t.rd MEMC.RBANK = bank.val ∧ t.rd MEMC.RSPARE = sp.val) ∧ t.rd (MEM_SPARE.STATE sp) = 1 ∧ t.sram = s.sram ∧
        t.ch = s.ch ∧ t.flow = s.flow ∧
        SameFields [MEM_RET_CTRL.BANK, MEM_RET_CTRL.SPARE, MEM_RET_STAT.STATE, MEM_RET_STAT.CAUSE, MEM_RET_STAT.NEXT,
          MEMC.RBANK, MEMC.RSPARE, MEM_SPARE.STATE sp] s t) ∧
  (∀ (s : State) (win : Fin 7) (value : Word) (bank : Fin 64) (sp : Fin 4),
      s.writeOpen win 3 →
      (MEM_RET_CTRL.GO.of value.toNat = 1 ∧ MEM_RET_CTRL.BANK.of value.toNat = bank.val ∧ MEM_RET_CTRL.SPARE.of
        value.toNat = sp.val) →
      s.retiring = false → s.rd (MEM_SPARE.STATE sp) ≠ 0 →
      ∃ t, exec (.bankRetirementStart win value 15) s = .next t ∧
        (t.rd MEM_RET_STAT.STATE = s.rd MEM_RET_STAT.STATE ∧ t.rd MEM_RET_STAT.CAUSE = 2) ∧
        t.rd MEM_RET_STAT.FAIL_EV = 1 ∧ t.rd MGT_REFUSE.ADDR = 0x70030 ∧ t.sram = s.sram ∧ t.ch = s.ch ∧
        t.flow = s.flow ∧
        (FieldsKept ([MEM_RET_CTRL.BANK, MEM_RET_CTRL.SPARE, MEM_RET_STAT.CAUSE, MEM_RET_STAT.FAIL_EV] ++
          s.refuseFields) [128] [4] s t)) ∧
  (∀ (s : State) (holds : Holds) (upset : SramLine) (stuck : Bool) (b k sp : Nat),
      s.rd MEM_RET_STAT.STATE = 1 → (s.rd MEMC.RBANK = b ∧ s.rd MEM_RET_STAT.NEXT = k ∧ s.rd MEMC.RSPARE = sp) →
      (b < 64 ∧ k + 1 < 40960 ∧ sp < 4) → s.physOf b ≠ 64 + sp → ((s.getLine b k).flip upset).verdict = .clean →
      ∃ t, exec (.retirementCopyLine holds upset stuck false) s = .next t ∧ t.rd MEM_RET_STAT.NEXT = k + 1 ∧
        t.rd MEM_RET_STAT.STATE = 1 ∧ lineAt (lineLoc (64 + sp) k) t.sram = (s.getLine b k).flip upset ∧
        t.getLine b k = (s.getLine b k).flip upset ∧ t.ch = s.ch ∧ t.flow = s.flow ∧
        SameFields [MEM_RET_STAT.NEXT] s t) ∧
  (∀ (s : State) (holds : Holds) (upset : SramLine) (stuck : Bool) (b k sp nb byte : Nat),
      s.rd MEM_RET_STAT.STATE = 1 → (s.rd MEMC.RBANK = b ∧ s.rd MEM_RET_STAT.NEXT = k ∧ s.rd MEMC.RSPARE = sp) →
      (b < 64 ∧ k + 1 < 40960 ∧ sp < 4) → s.physOf b ≠ 64 + sp →
      ((s.getLine b k).flip upset).verdict = .bad nb byte → holds = .line →
      ∃ t, exec (.retirementCopyLine holds upset stuck false) s = .next t ∧ t.rd MEM_RET_STAT.NEXT = k + 1 ∧
        lineAt (lineLoc (64 + sp) k) t.sram = { SramLine.of ((s.getLine b k).flip upset).data with parity :=
          (SramLine.of ((s.getLine b k).flip upset).data).parity ^^^ 3#64 } ∧
        t.ch = s.ch ∧ t.flow = s.flow) ∧
  (∀ (s : State) (holds : Holds) (upset : SramLine) (stuck : Bool),
      s.rd MEM_RET_STAT.STATE = 1 →
      ((s.getLine (s.rd MEMC.RBANK) (s.rd MEM_RET_STAT.NEXT)).flip upset).verdict = .clean →
      ∃ t, exec (.retirementCopyLine holds upset stuck true) s = .next t ∧
        (t.rd MEM_RET_STAT.STATE = 4 ∧ t.rd MEM_RET_STAT.CAUSE = 4) ∧ t.rd MEM_RET_STAT.FAIL_EV = 1 ∧
        t.rd (MEM_SPARE.STATE (s.rd MEMC.RSPARE)) = 3 ∧
        (∀ b : Fin 64, t.rd (MEM_MAP.PHYS b) = s.rd (MEM_MAP.PHYS b)) ∧ t.ch = s.ch ∧ t.flow = s.flow ∧
        SameFields [MEM_RET_STAT.STATE, MEM_RET_STAT.CAUSE, MEM_RET_STAT.FAIL_EV, MEM_SPARE.STATE (s.rd MEMC.RSPARE)]
          s t) ∧
  (∀ (s : State) (b sp : Nat),
      s.rd MEM_RET_STAT.STATE = 2 → (s.rd MEMC.RBANK = b ∧ s.rd MEMC.RSPARE = sp) → (b < 64 ∧ sp < 4) →
      s.rd (MEM_MAP.PHYS b) < 64 →
      ∃ t, exec (.retirementSwitch) s = .next t ∧ t.physOf b = 64 + sp ∧
        (t.rd (MEM_SPARE.STATE sp) = 2 ∧ t.rd (MEM_SPARE.BANK sp) = b) ∧
        (t.rd MEM_RET_STAT.STATE = 3 ∧ t.rd MEM_RET_STAT.DONE_EV = 1) ∧ t.sram = s.sram ∧ t.ch = s.ch ∧
        t.flow = s.flow ∧
        SameFields [MEM_MAP.PHYS b, MEM_SPARE.STATE sp, MEM_SPARE.BANK sp, MEM_RET_STAT.STATE, MEM_RET_STAT.DONE_EV] s
          t) ∧
  (∀ (s : State) (b sp : Nat) (old : Fin 4),
      s.rd MEM_RET_STAT.STATE = 2 → (s.rd MEMC.RBANK = b ∧ s.rd MEMC.RSPARE = sp) → (b < 64 ∧ sp < 4) →
      s.rd (MEM_MAP.PHYS b) = 64 + old.val → sp ≠ old.val →
      ∃ t, exec (.retirementSwitch) s = .next t ∧ t.physOf b = 64 + sp ∧ t.rd (MEM_SPARE.STATE old) = 3 ∧
        t.rd (MEM_SPARE.STATE sp) = 2 ∧ t.sram = s.sram ∧ t.ch = s.ch ∧ t.flow = s.flow ∧
        SameFields [MEM_MAP.PHYS b, MEM_SPARE.STATE sp, MEM_SPARE.STATE old, MEM_SPARE.BANK sp, MEM_RET_STAT.STATE,
          MEM_RET_STAT.DONE_EV] s t)

/-- O50. The engine's state is CST_STAT.STATE; image is what it holds and plan what its check made of it. Steps are
  those
of Table 18.9. imageReason is 0 when every check of stage 1 passes (R409). (1) GO of SUBMIT at rest starts the fetch
(step 1). (2) elsewhere the write is refused, reason 0x6 (step 1a). (3) in another device mode, or with the engine
faulted, the image is refused, reason 0x48: REFUSED with its report, sources 112 and 113 (R398). (4) GO of STORE
starts the same for a store write. (5) GO of ERASE_STORE starts the erase. (6) PAUSE holds the apply at an element; a
recast sets COND bit 0 for its channels (R417). (7) RESUME continues it. (8) ABORT before any element ends the image:
ABANDONED with reason 0x49, counted, source 112. (9) of a recast part applied it leaves its channels mixed. (10) once
the last element is applied it does nothing. (11) what device DMA brought, at most CST_LEN of it, is checked next
(step 2). (12) or what the staging buffer holds. (13) a fetch that fails refuses it, reason 0x43. (14) a good image to
be stored goes to its store write (R419). (15) a maquette, here of a recast, ends DONE with its report; nothing is
voted (step 3b). (16) a recast to be applied asks for its vote (step 4). (17) an image that fails is refused with its
reason (step 3a). (18) the store write ends with the image in the region: STORE_EV. (19) an erase with nothing in it.
(18_casting.md) -/
def Obligations.CastingsAreSubmittedAndChecked : Prop :=
  (∀ (s : State) (win : Fin 7) (value : Word),
      s.writeOpen win 3 →
      (CST_CMD.GO.of value.toNat = 1 ∧ CST_CMD.RESUME.of value.toNat = 0 ∧ CST_CMD.ABORT.of value.toNat = 0 ∧
        CST_CMD.PAUSE.of value.toNat = 0) →
      CST_CMD.OP.of value.toNat = 1 → s.castFree = true → s.castShut = false →
      ∃ t, exec (.castingSubmit win value 15) s = .next t ∧ t.cst = Cst.fetch ∧
        (t.rd CSTC.OP = 1 ∧ t.rd CSTC.SRC = CST_CMD.SRC.of value.toNat) ∧ t.rd CST_PROG.NEXT = 0 ∧
        (t.image = [] ∧ t.plan = CastPlan.none) ∧ t.ch = s.ch ∧ t.flow = s.flow ∧
        (FieldsKept ([CST_STAT.STATE, CST_STAT.PAUSE, CSTC.OP, CSTC.SRC, CST_PROG.NEXT, CST_TOTAL.TOTAL] ++
          poolFields) [] [4] s t)) ∧
  (∀ (s : State) (win : Fin 7) (value : Word),
      s.writeOpen win 3 →
      (CST_CMD.GO.of value.toNat = 1 ∧ CST_CMD.RESUME.of value.toNat = 0 ∧ CST_CMD.ABORT.of value.toNat = 0 ∧
        CST_CMD.PAUSE.of value.toNat = 0) →
      CST_CMD.OP.of value.toNat = 1 → s.castFree = false →
      ∃ t, exec (.castingSubmit win value 15) s = .next t ∧ s.refusedAs t win 0x80000 6 false ∧
        (t.image = s.image ∧ t.plan = s.plan) ∧ t.ch = s.ch ∧ t.flow = s.flow) ∧
  (∀ (s : State) (win : Fin 7) (value : Word),
      s.writeOpen win 3 →
      (CST_CMD.GO.of value.toNat = 1 ∧ CST_CMD.RESUME.of value.toNat = 0 ∧ CST_CMD.ABORT.of value.toNat = 0 ∧
        CST_CMD.PAUSE.of value.toNat = 0) →
      CST_CMD.OP.of value.toNat = 1 → s.castFree = true → s.castShut = true →
      ∃ t, exec (.castingSubmit win value 15) s = .next t ∧ t.cst = Cst.refused ∧ t.rd CST_STAT.RESULT = 3 ∧
        (t.rd (tableWord 0x8D00040) = 0xFFFF00FF ∧ t.rd (tableWord 0x8D00044) = 0x00480000) ∧
        (t.rd (IRQ_PEND 112) = 1 ∧ t.rd (IRQ_PEND 113) = 1) ∧ t.rd CST_CNT.REFUSED = s.oneMore CST_CNT.REFUSED ∧
        t.ch = s.ch ∧ t.flow = s.flow ∧ FieldsKept (castEndFields) [112, 113] [4] s t) ∧
  (∀ (s : State) (win : Fin 7) (value : Word),
      s.writeOpen win 3 →
      (CST_CMD.GO.of value.toNat = 1 ∧ CST_CMD.RESUME.of value.toNat = 0 ∧ CST_CMD.ABORT.of value.toNat = 0 ∧
        CST_CMD.PAUSE.of value.toNat = 0) →
      CST_CMD.OP.of value.toNat = 2 → s.castFree = true → s.castShut = false →
      ∃ t, exec (.castingStore win value 15) s = .next t ∧ t.cst = Cst.fetch ∧ t.rd CSTC.OP = 2 ∧
        (t.image = [] ∧ t.plan = CastPlan.none) ∧ t.bootImage = s.bootImage ∧ t.ch = s.ch ∧ t.flow = s.flow ∧
        (FieldsKept ([CST_STAT.STATE, CST_STAT.PAUSE, CSTC.OP, CSTC.SRC, CST_PROG.NEXT, CST_TOTAL.TOTAL] ++
          poolFields) [] [4] s t)) ∧
  (∀ (s : State) (win : Fin 7) (value : Word),
      s.writeOpen win 3 →
      (CST_CMD.GO.of value.toNat = 1 ∧ CST_CMD.RESUME.of value.toNat = 0 ∧ CST_CMD.ABORT.of value.toNat = 0 ∧
        CST_CMD.PAUSE.of value.toNat = 0) →
      CST_CMD.OP.of value.toNat = 3 → s.castFree = true →
      ∃ t, exec (.castingEraseStore win value 15) s = .next t ∧ t.cst = Cst.storing ∧ t.rd CSTC.OP = 3 ∧
        t.bootImage = s.bootImage ∧ t.ch = s.ch ∧ t.flow = s.flow ∧ SameFields [CST_STAT.STATE, CSTC.OP] s t) ∧
  (∀ (s : State) (win : Fin 7) (value : Word),
      s.writeOpen win 3 →
      (CST_CMD.GO.of value.toNat = 0 ∧ CST_CMD.RESUME.of value.toNat = 0 ∧ CST_CMD.ABORT.of value.toNat = 0 ∧
        CST_CMD.PAUSE.of value.toNat = 1) →
      s.cst = Cst.apply → s.plan.elems ≠ [] →
      ∃ t, exec (.castingPause win value 15) s = .next t ∧ t.cst = Cst.paused ∧ t.rd CST_STAT.PAUSE = 1 ∧
        (s.plan.recast = true → ∀ n ∈ s.castTouched, t.rdBit (FABC.COND n) 0 = true) ∧
        (t.plan = s.plan ∧ t.image = s.image) ∧ t.ch = s.ch ∧ t.flow = s.flow ∧
        (SameFields ([CST_STAT.STATE, CST_STAT.PAUSE] ++ (if s.plan.recast then FABC.MIXED :: s.castTouched.map
          FABC.COND else [])) s t)) ∧
  (∀ (s : State) (win : Fin 7) (value : Word),
      s.writeOpen win 3 →
      (CST_CMD.GO.of value.toNat = 0 ∧ CST_CMD.RESUME.of value.toNat = 1 ∧ CST_CMD.ABORT.of value.toNat = 0 ∧
        CST_CMD.PAUSE.of value.toNat = 0) →
      s.cst = Cst.paused → s.rd CST_STAT.PAUSE = 1 →
      ∃ t, exec (.castingResume win value 15) s = .next t ∧ t.cst = Cst.apply ∧ t.rd CST_STAT.PAUSE = 0 ∧
        (t.rd FABC.MIXED = if s.on CST_INFO.MIXED then s.rd FABC.MIXED else 0) ∧ t.plan = s.plan ∧ t.ch = s.ch ∧
        t.flow = s.flow ∧ SameFields [CST_STAT.STATE, CST_STAT.PAUSE, FABC.MIXED] s t) ∧
  (∀ (s : State) (win : Fin 7) (value : Word),
      s.writeOpen win 3 →
      (CST_CMD.GO.of value.toNat = 0 ∧ CST_CMD.RESUME.of value.toNat = 0 ∧ CST_CMD.ABORT.of value.toNat = 1 ∧
        CST_CMD.PAUSE.of value.toNat = 0) →
      (s.cst = Cst.fetch ∨ s.cst = Cst.check) →
      ∃ t, exec (.castingAbort win value 15) s = .next t ∧ t.cst = Cst.abandoned ∧ t.rd CST_STAT.RESULT = 4 ∧
        t.rd CST_CNT.REFUSED = s.oneMore CST_CNT.REFUSED ∧ (t.image = [] ∧ t.plan = CastPlan.none) ∧
        t.rd (IRQ_PEND 112) = 1 ∧ t.rd FABC.MIXED = s.rd FABC.MIXED ∧ t.ch = s.ch ∧ t.flow = s.flow ∧
        FieldsKept (castEndFields) [112, 113] [4] s t) ∧
  (∀ (s : State) (win : Fin 7) (value : Word),
      s.writeOpen win 3 →
      (CST_CMD.GO.of value.toNat = 0 ∧ CST_CMD.RESUME.of value.toNat = 0 ∧ CST_CMD.ABORT.of value.toNat = 1 ∧
        CST_CMD.PAUSE.of value.toNat = 0) →
      s.cst = Cst.apply → s.plan.elems ≠ [] → s.plan.recast = true → 0 < s.rd CST_PROG.NEXT →
      ∃ t, exec (.castingAbort win value 15) s = .next t ∧ t.cst = Cst.abandoned ∧ t.rd CST_STAT.RESULT = 4 ∧
        t.rd CST_CNT.REFUSED = s.oneMore CST_CNT.REFUSED ∧ (t.image = [] ∧ t.plan = CastPlan.none) ∧
        t.rd (IRQ_PEND 112) = 1 ∧ t.rd CST_INFO.MIXED = 1 ∧ (∀ n ∈ s.castTouched, t.rdBit (FABC.COND n) 0 = true) ∧
        t.ch = s.ch ∧ t.flow = s.flow ∧
        (FieldsKept (castEndFields ++ [CST_INFO.MIXED, FABC.MIXED] ++ s.castTouched.map FABC.COND) [112, 113] [4] s
          t)) ∧
  (∀ (s : State) (win : Fin 7) (value : Word),
      s.writeOpen win 3 →
      (CST_CMD.GO.of value.toNat = 0 ∧ CST_CMD.RESUME.of value.toNat = 0 ∧ CST_CMD.ABORT.of value.toNat = 1 ∧
        CST_CMD.PAUSE.of value.toNat = 0) →
      s.cst = Cst.apply → s.plan.elems = [] →
      ∃ t, exec (.castingAbort win value 15) s = .next t ∧ (t.plan = s.plan ∧ t.image = s.image) ∧ t.regs = s.regs ∧
        t.ch = s.ch ∧ t.flow = s.flow) ∧
  (∀ (s : State) (l : List Byte),
      s.cst = Cst.fetch → s.on CSTC.SRC = false → s.portSends = true →
      ∃ t, exec (.castingFetchComplete (some l)) s = .next t ∧ t.cst = Cst.check ∧
        t.image = l.take (s.rd CST_LEN.LEN) ∧ t.ch = s.ch ∧ t.flow = s.flow ∧
        (FieldsKept (CST_STAT.STATE :: poolFields) [] [4] s t)) ∧
  (∀ (s : State) (b : Option (List Byte)),
      s.cst = Cst.fetch → s.on CSTC.SRC = true →
      ∃ t, exec (.castingFetchComplete b) s = .next t ∧ t.cst = Cst.check ∧ t.image = s.staged ∧ t.ch = s.ch ∧
        t.flow = s.flow ∧ (FieldsKept (CST_STAT.STATE :: poolFields) [] [4] s t)) ∧
  (∀ (s : State),
      s.cst = Cst.fetch → s.on CSTC.SRC = false → s.on CSTC.BOOT = false →
      ∃ t, exec (.castingFetchComplete none) s = .next t ∧ t.cst = Cst.refused ∧ t.rd CST_STAT.RESULT = 3 ∧
        t.rd CST_CNT.REFUSED = s.oneMore CST_CNT.REFUSED ∧ (t.rd (IRQ_PEND 112) = 1 ∧ t.rd (IRQ_PEND 113) = 1) ∧
        t.ch = s.ch ∧ t.flow = s.flow ∧ FieldsKept (castEndFields) [112, 113] [4] s t) ∧
  (∀ (s : State),
      s.cst = Cst.check → s.rd CSTC.OP = 2 → s.imageReason s.image = 0 →
      ∃ t, exec (.castingCheckComplete) s = .next t ∧ t.cst = Cst.storing ∧ t.image = s.image ∧ t.ch = s.ch ∧
        t.flow = s.flow ∧ SameFields [CST_STAT.STATE] s t) ∧
  (∀ (s : State),
      s.cst = Cst.check → s.rd CSTC.OP = 1 → s.imageReason s.image = 0 → imgMaquette s.image = true →
      imgRecast s.image = true →
      ∃ t, exec (.castingCheckComplete) s = .next t ∧ t.cst = Cst.done ∧ t.rd CST_STAT.RESULT = 2 ∧
        t.votes = s.votes ∧ (t.image = [] ∧ t.plan = CastPlan.none) ∧ t.rd (IRQ_PEND 112) = 1 ∧ t.ch = s.ch ∧
        t.flow = s.flow ∧ FieldsKept (castEndFields) [112, 113] [4] s t) ∧
  (∀ (s : State),
      s.cst = Cst.check → s.rd CSTC.OP = 1 → s.imageReason s.image = 0 → imgMaquette s.image = false →
      imgRecast s.image = true → s.voteDead = false → s.mode ≠ Mode.cast →
      ∃ t, exec (.castingCheckComplete) s = .next t ∧ t.cst = Cst.vote ∧ (t.votes = s.votes ++ [.casting]) ∧
        t.plan = (s.castCheck s.image).2 ∧ t.ch = s.ch ∧ t.flow = s.flow ∧ SameFields [CST_STAT.STATE] s t) ∧
  (∀ (s : State),
      s.cst = Cst.check → s.rd CSTC.OP = 1 → s.imageReason s.image ≠ 0 →
      ∃ t, exec (.castingCheckComplete) s = .next t ∧ t.cst = Cst.refused ∧ t.rd CST_STAT.RESULT = 3 ∧
        t.rd CST_CNT.REFUSED = s.oneMore CST_CNT.REFUSED ∧ t.votes = s.votes ∧
        (t.rd (IRQ_PEND 112) = 1 ∧ t.rd (IRQ_PEND 113) = 1) ∧ t.ch = s.ch ∧ t.flow = s.flow ∧
        FieldsKept (castEndFields) [112, 113] [4] s t) ∧
  (∀ (s : State),
      s.cst = Cst.storing → s.rd CSTC.OP = 2 → s.image.take (imgLength s.image) ≠ [] →
      ∃ t, exec (.castingStoreComplete) s = .next t ∧ t.bootImage = s.image.take (imgLength s.image) ∧
        t.rd CST_INFO.STORE_VALID = 1 ∧ t.rd CST_STAT.STORE_EV = 1 ∧ t.cst = Cst.done ∧ t.ch = s.ch ∧
        t.flow = s.flow ∧
        (FieldsKept (castEndFields ++ [CST_INFO.STORE_VALID, CST_INFO.STORE_LEN, CST_STAT.STORE_EV]) [] [4] s t)) ∧
  (∀ (s : State),
      s.cst = Cst.storing → s.rd CSTC.OP = 3 →
      ∃ t, exec (.castingStoreComplete) s = .next t ∧ t.bootImage = [] ∧
        (t.rd CST_INFO.STORE_VALID = 0 ∧ t.rd CST_INFO.STORE_LEN = 0) ∧ t.rd CST_STAT.STORE_EV = 1 ∧
        t.cst = Cst.done ∧ t.ch = s.ch ∧ t.flow = s.flow ∧
        (FieldsKept (castEndFields ++ [CST_INFO.STORE_VALID, CST_INFO.STORE_LEN, CST_STAT.STORE_EV]) [] [4] s t))

/-- O51. An element is a list of records r of one entry; it takes effect whole. (1) an element with others behind it
  takes
effect and is counted; here the authentication policy, which waits for the image's end (R408). (2) here a live field
of a recast, OPT_TX_PWR.SET of a dark channel n, which nothing ramps. (3) a recast waits, PAUSE 0x2, while the next
element's channel n is busy (R417). (4) the load that ends a full casting leaves the engine DONE, its report APPLIED
with source 112, and nothing mixed (steps 7 and 8). (5) a fault of the engine at rest shows with FAULT_EV and source
114 (R418). (6) with an image in it, that is abandoned too.  (18_casting.md) -/
def Obligations.CastingsAreApplied : Prop :=
  (∀ (s : State) (r : CastRec) (rest : List (List CastRec)),
      s.cst = Cst.apply → (s.plan.elems = [r] :: rest) → s.plan.recast = false → rest ≠ [] →
      (r.sect = 7 ∧ r.fid / 256 = 2) →
      ∃ t, exec (.castingApplyElement) s = .next t ∧ t.rd CSTC.AUTH = (r.value + 1) % 2 ^ CSTC.AUTH.width ∧
        t.plan.elems = rest ∧ t.rd CST_PROG.NEXT = (s.rd CST_PROG.NEXT + 1) % 2 ^ CST_PROG.NEXT.width ∧
        t.cst = Cst.apply ∧ t.ch = s.ch ∧ t.flow = s.flow ∧ SameFields [CSTC.AUTH, CST_PROG.NEXT] s t) ∧
  (∀ (s : State) (r : CastRec) (rest : List (List CastRec)) (n : Fin 4),
      s.cst = Cst.apply → (s.plan.elems = [r] :: rest) → s.plan.recast = true → rest ≠ [] →
      (r.sect = 2 ∧ r.fid = 0x200 ∧ r.sindex = n.val ∧ r.addr = (OPT_TX_PWR.SET n).addr ∧ r.fld = OPT_TX_PWR.SET n ∧
        r.framed = false) →
      s.castBusy n = false → s.phase n = Phase.off →
      ∃ t, exec (.castingApplyElement) s = .next t ∧
        t.rd (OPT_TX_PWR.SET n) = r.value % 2 ^ (OPT_TX_PWR.SET n).width ∧ t.plan.elems = rest ∧
        t.rd CST_PROG.NEXT = (s.rd CST_PROG.NEXT + 1) % 2 ^ CST_PROG.NEXT.width ∧ t.cst = Cst.apply ∧ t.ch = s.ch ∧
        t.flow = s.flow ∧ SameFields [OPT_TX_PWR.SET n, CST_PROG.NEXT] s t) ∧
  (∀ (s : State) (r : CastRec) (rest : List (List CastRec)) (n : Fin 4),
      s.cst = Cst.apply → (s.plan.elems = [r] :: rest) → s.plan.recast = true → (r.sect = 2 ∧ r.sindex = n.val) →
      s.castBusy n = true →
      ∃ t, exec (.castingApplyElement) s = .next t ∧ (t.cst = Cst.paused ∧ t.rd CST_STAT.PAUSE = 2) ∧
        t.plan = s.plan ∧ (∀ m ∈ s.castTouched, t.rdBit (FABC.COND m) 0 = true) ∧ t.ch = s.ch ∧ t.flow = s.flow ∧
        (SameFields ([CST_STAT.STATE, CST_STAT.PAUSE, FABC.MIXED] ++ s.castTouched.map FABC.COND) s t)) ∧
  (∀ (s : State),
      s.cst = Cst.apply → s.plan.recast = false → s.plan.elems = [] → s.mode = Mode.cast →
      ∃ t, exec (.castingLoadComplete) s = .next t ∧ t.cst = Cst.done ∧
        (t.rd FABC.MIXED = 0 ∧ t.rd CST_INFO.MIXED = 0) ∧ t.rd CST_STAT.RESULT = 1 ∧
        t.rd CST_CNT.APPLIED = s.oneMore CST_CNT.APPLIED ∧
        (t.digest = (List.range 8).flatMap (fun w => beBytes 4 (ofBytes ((s.plan.digest.drop (4 * w)).take 4) % 2 ^
          32))) ∧
        t.rd DEV_BOOT_STAT.STEP = 0xF ∧ t.rd MGTC.LOCKED = 1 ∧ t.rd (IRQ_PEND 112) = 1 ∧
        (t.plan = CastPlan.none ∧ t.image = [])) ∧
  (∀ (s : State),
      s.answers = true → s.castFree = true →
      ∃ t, exec (.castingEngineFault) s = .next t ∧ t.rd CST_STAT.FAULT = 1 ∧ t.rd CST_STAT.FAULT_EV = 1 ∧
        t.rd (IRQ_PEND 114) = 1 ∧ t.ch = s.ch ∧ t.flow = s.flow ∧
        FieldsKept [CST_STAT.FAULT, CST_STAT.FAULT_EV] [114] [] s t) ∧
  (∀ (s : State),
      s.answers = true → (s.cst = Cst.fetch ∨ s.cst = Cst.check) →
      ∃ t, exec (.castingEngineFault) s = .next t ∧ (t.rd CST_STAT.FAULT = 1 ∧ t.rd (IRQ_PEND 114) = 1) ∧
        t.cst = Cst.abandoned ∧ t.rd CST_STAT.RESULT = 4 ∧ t.rd CST_CNT.REFUSED = s.oneMore CST_CNT.REFUSED ∧
        (t.image = [] ∧ t.plan = CastPlan.none) ∧ t.rd (IRQ_PEND 112) = 1 ∧ t.ch = s.ch ∧ t.flow = s.flow ∧
        (FieldsKept ([CST_STAT.FAULT, CST_STAT.FAULT_EV] ++ castEndFields) [112, 113, 114] [4] s t))

/-- O52. dmaOf is the descriptor that a queue carries out or has halted. Where commands name an entry, its window and
  its
queue's have the level it asks. That ERRIDX is 0 after the last element is the model's choice (log 26): Table 19.8
names a faulted element only. (1) a queue with posted descriptors starts the one at CI. (2) a post is taken while the
ring has room for it, each descriptor under the window that posted it (R438). (3) RESUME restarts a halted descriptor
at ERRIDX (R433). (4) SKIP completes it with its cause: STATUS, the record, CI, and vector 16 + q where NOTIFY and
VEC_EN ask it. (5) ABORT halts a running one with cause 0x8, source 129. (6) so does clearing EN. (7) a completion
ends one read of its client. (8) one that belongs to no read is counted (R429). (9) a read that ends in error halts
its queue with cause 0x1, source 129. (10) a completion timeout does with cause 0x2. (11) and faults a key bulk
operation with cause 0xA, source 51 too. (12) a GATHER element writes its entry whole, here one of TRB_SHD, and ERRIDX
advances (R431). (13) one whose LEN is not that of the entry at TADDR halts with cause 0x3. (14) a SCATTER copy of
readable table space leaves for host memory (R432). (15) the last element completes the descriptor: CI advances, with
its record.  (19_management_port.md, 12_security.md, 09_line_framer.md) -/
def Obligations.DmaQueuesRunDescriptors : Prop :=
  (∀ (s : State) (q : Fin 4),
      s.answers = true → s.on (MGT_DQ_CTRL.EN q) = true → s.rd (MGT_DQ_STAT.STATE q) = 0 →
      s.rd (MGT_DQ_CI.CI q) ≠ s.rd (MGT_DQ_PI.PI q) → s.on MGT_STAT.PWARN = false → s.on MGT_STAT.BME = true →
      s.badDesc q (s.rd (MGT_DQ_CI.CI q)) = false →
      ∃ t, exec (.dmaDescriptorStart q) s = .next t ∧ t.rd (MGT_DQ_STAT.STATE q) = 1 ∧
        t.rd (MGT_DQ_STAT.DESC q) = s.rd (MGT_DQ_CI.CI q) ∧
        (t.rd (MGT_DQ_STAT.CAUSE q) = 0 ∧ t.rd (MGT_DQ_STAT.ERRIDX q) = 0) ∧
        t.rd (descWord q (s.rd (MGT_DQ_CI.CI q)) 0x18) = 0 ∧ t.dmaOf q = s.descriptor q (s.rd (MGT_DQ_CI.CI q)) ∧
        t.ch = s.ch ∧ t.flow = s.flow ∧
        (FieldsKept ([MGT_DQ_STAT.STATE q, MGT_DQ_STAT.DESC q, MGT_DQ_STAT.CAUSE q, MGT_DQ_STAT.ERRIDX q, descWord q
          (s.rd (MGT_DQ_CI.CI q)) 0x18] ++ poolFields) [] [4] s t)) ∧
  (∀ (s : State) (win : Fin 7) (q : Fin 4) (value : Word),
      s.writeOpen win 3 →
      ((MGT_DQ_PI.PI q).of value.toNat + 256 - s.rd (MGT_DQ_PI.PI q)) % 256 ≤ 255 - (s.rd (MGT_DQ_PI.PI q) + 256 -
        s.rd (MGT_DQ_CI.CI q)) % 256 →
      ∃ t, exec (.dmaQueuePost win q value 15) s = .next t ∧ t.rd (MGT_DQ_PI.PI q) = (MGT_DQ_PI.PI q).of value.toNat ∧
        (∀ d : Fin 256, d.val < ((MGT_DQ_PI.PI q).of value.toNat + 256 - s.rd (MGT_DQ_PI.PI q)) % 256 → t.rd (DMAC.WIN
          q ((s.rd (MGT_DQ_PI.PI q) + d.val) % 256)) = win.val) ∧
        t.ch = s.ch ∧ t.flow = s.flow ∧ (SameFields (MGT_DQ_PI.PI q :: (List.range 256).map (DMAC.WIN q)) s t)) ∧
  (∀ (s : State) (win : Fin 7) (q : Fin 4) (value : Word),
      s.writeOpen win 3 → (MGT_DQ_CMD.RESUME q).of value.toNat = 1 →
      ((MGT_DQ_CMD.SKIP q).of value.toNat = 0 ∧ (MGT_DQ_CMD.ABORT q).of value.toNat = 0) →
      s.rd (MGT_DQ_STAT.STATE q) = 2 → s.on (MGT_DQ_CTRL.EN q) = true → s.on MGT_STAT.BME = true →
      s.badDesc q (s.rd (MGT_DQ_STAT.DESC q)) = false →
      ∃ t, exec (.dmaQueueResume win q value 15) s = .next t ∧
        (t.rd (MGT_DQ_STAT.STATE q) = 1 ∧ t.rd (MGT_DQ_STAT.CAUSE q) = 0) ∧
        t.dmaOf q = s.descriptor q (s.rd (MGT_DQ_STAT.DESC q)) ∧ t.ch = s.ch ∧ t.flow = s.flow ∧
        (FieldsKept ([MGT_DQ_STAT.STATE q, MGT_DQ_STAT.CAUSE q] ++ poolFields) [] [4] s t)) ∧
  (∀ (s : State) (win : Fin 7) (q : Fin 4) (value : Word),
      s.writeOpen win 3 → (MGT_DQ_CMD.SKIP q).of value.toNat = 1 →
      ((MGT_DQ_CMD.RESUME q).of value.toNat = 0 ∧ (MGT_DQ_CMD.ABORT q).of value.toNat = 0) →
      s.rd (MGT_DQ_STAT.STATE q) = 2 → s.on (MGT_DQ_CTRL.EN q) = true →
      ∃ t, exec (.dmaQueueSkip win q value 15) s = .next t ∧
        (t.rd (MGT_DQ_STAT.STATE q) = 0 ∧ t.rd (MGT_DQ_STAT.DONE_EV q) = 1) ∧
        t.rd (MGT_DQ_CI.CI q) = (s.rd (MGT_DQ_CI.CI q) + 1) % 256 ∧
        t.rd (MGT_DQ_CNT.DONE q) = s.oneMore (MGT_DQ_CNT.DONE q) ∧
        t.rd (descWord q (s.rd (MGT_DQ_STAT.DESC q)) 0x18) = 2 ^ 31 + s.rd (MGT_DQ_STAT.CAUSE q) * 2 ^ 20 + s.rd
          (MGT_DQ_STAT.ERRIDX q) * 2 ^ 16 ∧
        (t.out = (if (s.dmaOf q).notify = true ∧ s.on (MGT_DQ_CTRL.VEC_EN q) = true ∧ s.on MGTC.MSIX_EN = true ∧ s.on
          MGTC.FMASK = false ∧ s.on (MSIX.MASK (16 + q)) = false ∧ s.portSends = true then [.msix (16 + q)] else [])
          ++ s.recordSent q (s.rd (MGT_DQ_STAT.CAUSE q)) ++ s.out) ∧
        t.ch = s.ch ∧ t.flow = s.flow ∧ (FieldsKept (MSIX.PEND (16 + q) :: poolFields ++ queueFields q) [] [4] s t)) ∧
  (∀ (s : State) (win : Fin 7) (q : Fin 4) (value : Word),
      s.writeOpen win 3 → (MGT_DQ_CMD.ABORT q).of value.toNat = 1 →
      ((MGT_DQ_CMD.RESUME q).of value.toNat = 0 ∧ (MGT_DQ_CMD.SKIP q).of value.toNat = 0) →
      s.rd (MGT_DQ_STAT.STATE q) = 1 →
      ∃ t, exec (.dmaQueueAbort win q false value 15) s = .next t ∧
        (t.rd (MGT_DQ_STAT.STATE q) = 2 ∧ t.rd (MGT_DQ_STAT.CAUSE q) = 8 ∧ t.rd (MGT_DQ_STAT.FAULT_EV q) = 1) ∧
        t.rd (MGT_DQ_CNT.FAULTS q) = s.oneMore (MGT_DQ_CNT.FAULTS q) ∧
        t.rd (descWord q (s.rd (MGT_DQ_STAT.DESC q)) 0x18) = 8 * 2 ^ 20 + s.rd (MGT_DQ_STAT.ERRIDX q) * 2 ^ 16 ∧
        t.rd (IRQ_PEND 129) = 1 ∧ (t.out = s.recordSent q 8 ++ s.out) ∧ t.ch = s.ch ∧ t.flow = s.flow ∧
        (FieldsKept (poolFields ++ queueFields q) [129] [4] s t)) ∧
  (∀ (s : State) (win : Fin 7) (q : Fin 4) (value : Word),
      s.writeOpen win 3 → (MGT_DQ_CTRL.EN q).of value.toNat = 0 → s.rd (MGT_DQ_STAT.STATE q) = 1 →
      ∃ t, exec (.dmaQueueAbort win q true value 15) s = .next t ∧
        (t.rd (MGT_DQ_CTRL.EN q) = 0 ∧ t.rd (MGT_DQ_CTRL.VEC_EN q) = (MGT_DQ_CTRL.VEC_EN q).of value.toNat) ∧
        (t.rd (MGT_DQ_STAT.STATE q) = 2 ∧ t.rd (MGT_DQ_STAT.CAUSE q) = 8 ∧ t.rd (MGT_DQ_STAT.FAULT_EV q) = 1) ∧
        t.rd (MGT_DQ_CNT.FAULTS q) = s.oneMore (MGT_DQ_CNT.FAULTS q) ∧ t.rd (IRQ_PEND 129) = 1 ∧
        (t.out = s.recordSent q 8 ++ s.out) ∧ t.ch = s.ch ∧ t.flow = s.flow ∧
        (FieldsKept ([MGT_DQ_CTRL.EN q, MGT_DQ_CTRL.VEC_EN q] ++ poolFields ++ queueFields q) [129] [4] s t)) ∧
  (∀ (s : State) (c : Fin 7),
      s.answers = true → s.rd (DMAC.OUT c) ≠ 0 → (∀ d : Fin 7, s.rd (DMAC.NEED d) = 0) →
      ∃ t, exec (.dmaReadCompletion c true) s = .next t ∧ t.rd (DMAC.OUT c) = s.rd (DMAC.OUT c) - 1 ∧
        t.rd MGT_DMA_STAT.OUTST = t.dmaOut % 512 ∧ t.ch = s.ch ∧ t.flow = s.flow ∧
        SameFields [DMAC.OUT c, MGT_DMA_STAT.OUTST] s t) ∧
  (∀ (s : State) (c : Fin 7) (ok : Bool),
      s.answers = true → s.rd (DMAC.OUT c) = 0 →
      ∃ t, exec (.dmaReadCompletion c ok) s = .next t ∧ t.rd MGT_DMA_CNT.LATE = s.oneMore MGT_DMA_CNT.LATE ∧
        t.ch = s.ch ∧ t.flow = s.flow ∧ SameFields [MGT_DMA_CNT.LATE] s t) ∧
  (∀ (s : State) (c : Fin 7),
      s.answers = true → c.val < 4 → s.rd (DMAC.OUT c) ≠ 0 → s.rd (MGT_DQ_STAT.STATE c) = 1 →
      ∃ t, exec (.dmaReadCompletion c false) s = .next t ∧
        (t.rd MGT_DMA_CNT.ERR = s.oneMore MGT_DMA_CNT.ERR ∧ t.rd MGT_DMA_STAT.ERR_EV = 1) ∧
        (t.rd (MGT_DQ_STAT.STATE c) = 2 ∧ t.rd (MGT_DQ_STAT.CAUSE c) = 1 ∧ t.rd (MGT_DQ_STAT.FAULT_EV c) = 1) ∧
        t.rd (IRQ_PEND 129) = 1 ∧ (t.out = s.recordSent c 1 ++ s.out) ∧ t.ch = s.ch ∧ t.flow = s.flow ∧
        (FieldsKept ([MGT_DMA_CNT.ERR, MGT_DMA_STAT.ERR_EV] ++ poolFields ++ queueFields c) [129] [4] s t)) ∧
  (∀ (s : State) (c : Fin 7),
      s.answers = true → c.val < 4 → s.rd (DMAC.OUT c) ≠ 0 → s.rd (MGT_DQ_STAT.STATE c) = 1 →
      ∃ t, exec (.dmaCompletionTimeout c) s = .next t ∧
        (t.rd MGT_DMA_CNT.ERR = s.oneMore MGT_DMA_CNT.ERR ∧ t.rd MGT_DMA_STAT.ERR_EV = 1) ∧
        (t.rd (MGT_DQ_STAT.STATE c) = 2 ∧ t.rd (MGT_DQ_STAT.CAUSE c) = 2 ∧ t.rd (MGT_DQ_STAT.FAULT_EV c) = 1) ∧
        t.rd (IRQ_PEND 129) = 1 ∧ (t.out = s.recordSent c 2 ++ s.out) ∧ t.ch = s.ch ∧ t.flow = s.flow ∧
        (FieldsKept ([MGT_DMA_CNT.ERR, MGT_DMA_STAT.ERR_EV] ++ poolFields ++ queueFields c) [129] [4] s t)) ∧
  (∀ (s : State),
      s.answers = true → s.rd (DMAC.OUT 4) ≠ 0 → s.rd KEY_BULK_STAT.STATE = Bulk.run →
      ∃ t, exec (.dmaCompletionTimeout 4) s = .next t ∧
        (t.rd MGT_DMA_CNT.ERR = s.oneMore MGT_DMA_CNT.ERR ∧ t.rd MGT_DMA_STAT.ERR_EV = 1) ∧
        (t.rd KEY_BULK_STAT.STATE = Bulk.fault ∧ t.rd KEY_BULK_STAT.CAUSE = 0xA ∧ t.rd KEY_BULK_STAT.FAULT_EV = 1) ∧
        (t.rd (IRQ_PEND 129) = 1 ∧ t.rd (IRQ_PEND 51) = 1) ∧ t.ch = s.ch ∧ t.flow = s.flow ∧
        (FieldsKept ([MGT_DMA_CNT.ERR, MGT_DMA_STAT.ERR_EV, KEY_BULK_STAT.STATE, KEY_BULK_STAT.CAUSE,
          KEY_BULK_STAT.FAULT_EV] ++ poolFields) [129, 51] [4] s t)) ∧
  (∀ (s : State) (q : Fin 4) (taddr len : Word) (bytes : List Byte) (n : Fin 4) (e : Fin 1024),
      s.elementRuns q 1 = true → s.portSends = true → taddr.toNat = 0x8608000 + 0x10000 * n + 16 * e →
      (len.toNat = 16 ∧ bytes.length = 16) → 2 ≤ s.queueLevel q →
      ((TRB_SHD.START n e).of ((leWords bytes).getD 0 0) ≤ 1279 ∧ (TRB_SHD.COUNT n e).of ((leWords bytes).getD 1 0) ≤
        1280) →
      (s.rd (MGT_DQ_STAT.ERRIDX q) + 1 < (s.dmaOf q).count ∧ (s.dmaOf q).count ≤ 16) →
      ∃ t, exec (.dmaGatherElement q taddr len bytes) s = .next t ∧
        t.rd (TRB_SHD.EN n e) = (TRB_SHD.EN n e).of ((leWords bytes).getD 0 0) ∧
        t.rd (TRB_SHD.ENC n e) = (TRB_SHD.ENC n e).of ((leWords bytes).getD 0 0) ∧
        t.rd (TRB_SHD.START n e) = (TRB_SHD.START n e).of ((leWords bytes).getD 0 0) ∧
        t.rd (TRB_SHD.CLIENT n e) = (TRB_SHD.CLIENT n e).of ((leWords bytes).getD 1 0) ∧
        t.rd (TRB_SHD.COUNT n e) = (TRB_SHD.COUNT n e).of ((leWords bytes).getD 1 0) ∧
        t.rd (MGT_DQ_STAT.ERRIDX q) = s.rd (MGT_DQ_STAT.ERRIDX q) + 1 ∧ t.ch = s.ch ∧ t.flow = s.flow ∧
        (FieldsKept ([TRB_SHD.EN n e, TRB_SHD.ENC n e, TRB_SHD.START n e, TRB_SHD.CLIENT n e, TRB_SHD.COUNT n e,
          MGT_DQ_STAT.ERRIDX q] ++ poolFields) [] [4] s t)) ∧
  (∀ (s : State) (q : Fin 4) (taddr len : Word) (bytes : List Byte),
      s.elementRuns q 1 = true → s.portSends = true → gatherSize taddr.toNat ≠ len.toNat →
      ∃ t, exec (.dmaGatherElement q taddr len bytes) s = .next t ∧
        (t.rd (MGT_DQ_STAT.STATE q) = 2 ∧ t.rd (MGT_DQ_STAT.CAUSE q) = 3 ∧ t.rd (MGT_DQ_STAT.FAULT_EV q) = 1) ∧
        (t.rd (MGT_DQ_STAT.ERRIDX q) = s.rd (MGT_DQ_STAT.ERRIDX q) ∧ t.rd (MGT_DQ_STAT.DESC q) = s.rd
          (MGT_DQ_STAT.DESC q) ∧ t.rd (MGT_DQ_CI.CI q) = s.rd (MGT_DQ_CI.CI q)) ∧
        t.rd (IRQ_PEND 129) = 1 ∧ (t.out = s.recordSent q 3 ++ s.out) ∧ t.ch = s.ch ∧ t.flow = s.flow ∧
        (FieldsKept (poolFields ++ queueFields q) [129] [4] s t)) ∧
  (∀ (s : State) (q : Fin 4) (host : BitVec 64) (taddr len : Word),
      s.elementRuns q 2 = true → s.portSends = true → inTableSpace taddr.toNat len.toNat = true →
      (taddr.toNat % 4 = 0 ∧ host.toNat % 4 = 0 ∧ len.toNat % 4 = 0 ∧ 4 ≤ len.toNat ∧ len.toNat ≤ 65536) →
      stretchLevel taddr.toNat len.toNat ≤ s.queueLevel q →
      ((List.range (len.toNat / 4)).all (fun d => !s.sourceBad (taddr.toNat + 4 * d)) = true) →
      (s.rd (MGT_DQ_STAT.ERRIDX q) + 1 < (s.dmaOf q).count ∧ (s.dmaOf q).count ≤ 16) →
      ∃ t, exec (.dmaScatterElement q host taddr len false) s = .next t ∧
        (t.out = .hostMemory host.toNat (s.tableBytes taddr.toNat len.toNat) :: s.out) ∧
        t.rd (MGT_DQ_STAT.ERRIDX q) = s.rd (MGT_DQ_STAT.ERRIDX q) + 1 ∧ t.ch = s.ch ∧ t.flow = s.flow ∧
        (FieldsKept (MGT_DQ_STAT.ERRIDX q :: poolFields) [] [4] s t)) ∧
  (∀ (s : State) (q : Fin 4) (host : BitVec 64) (taddr len : Word),
      s.elementRuns q 2 = true → s.portSends = true → inTableSpace taddr.toNat len.toNat = true →
      (taddr.toNat % 4 = 0 ∧ host.toNat % 4 = 0 ∧ len.toNat % 4 = 0 ∧ 4 ≤ len.toNat ∧ len.toNat ≤ 65536) →
      stretchLevel taddr.toNat len.toNat ≤ s.queueLevel q →
      ((List.range (len.toNat / 4)).all (fun d => !s.sourceBad (taddr.toNat + 4 * d)) = true) →
      s.rd (MGT_DQ_STAT.ERRIDX q) + 1 = (s.dmaOf q).count → (s.dmaOf q).notify = false →
      ∃ t, exec (.dmaScatterElement q host taddr len false) s = .next t ∧
        (t.rd (MGT_DQ_STAT.STATE q) = 0 ∧ t.rd (MGT_DQ_STAT.ERRIDX q) = 0 ∧ t.rd (MGT_DQ_STAT.DONE_EV q) = 1) ∧
        t.rd (MGT_DQ_CI.CI q) = (s.rd (MGT_DQ_CI.CI q) + 1) % 256 ∧
        (t.out = (s.put (MGT_DQ_STAT.ERRIDX q) 0).recordSent q (s.rd (MGT_DQ_STAT.CAUSE q)) ++ .hostMemory host.toNat
          (s.tableBytes taddr.toNat len.toNat) :: s.out) ∧
        t.ch = s.ch ∧ t.flow = s.flow ∧ (FieldsKept (poolFields ++ queueFields q) [] [4] s t))

/-- O53. Here no casting is fetched, and no key bulk operation runs but where a clause says so. (1) a function-level
  reset
sets its event, clears Bus Master Enable, the MSI-X table and every outstanding read, faults each running descriptor
with cause 0x7, and keeps queue indices (Table 19.9). (2) a hot reset does, and takes the link down. (3) so does a
loss of the link. (4) which faults a bulk operation that runs, cause 0xA and source 51. (5) the link comes up with its
speed and width. (6) clearing Bus Master Enable faults running descriptors, source 129. (7) a configuration write sets
read size and ordering. (8) it sets the completion timeout. (9) it sets the MSI-X controls, and messages that nothing
holds any more go. (10) it sets the power state. (11) it sets Bus Master Enable.  (19_management_port.md,
12_security.md) -/
def Obligations.PortResetsAndConfiguration : Prop :=
  (∀ (s : State),
      s.answers = true → s.on MGT_STAT.LINK_UP = true → s.rd KEY_BULK_STAT.STATE ≠ Bulk.run → s.cst ≠ Cst.fetch →
      ∃ t, exec (.pcieFunctionLevelReset) s = .next t ∧
        (t.rd MGT_STAT.FLR_EV = 1 ∧ t.rd MGT_STAT.LINK_UP = 1 ∧ t.rd MGT_STAT.BME = 0) ∧
        (∀ v : Fin 64, t.rd (MSIX.MASK v) = 1 ∧ t.rd (MSIX.DATA v) = 0 ∧ t.rd (MSIX.ADDR_LO v) = 0 ∧ t.rd
          (MSIX.ADDR_HI v) = 0) ∧
        (∀ d : Fin 7, t.rd (DMAC.OUT d) = 0) ∧
        (∀ q : Fin 4, s.rd (MGT_DQ_STAT.STATE q) = 1 → t.rd (MGT_DQ_STAT.STATE q) = 2 ∧ t.rd (MGT_DQ_STAT.CAUSE q) =
          7) ∧
        (∀ q : Fin 4, t.rd (MGT_DQ_CI.CI q) = s.rd (MGT_DQ_CI.CI q) ∧ t.rd (MGT_DQ_PI.PI q) = s.rd (MGT_DQ_PI.PI q)) ∧
        t.ch = s.ch ∧ t.flow = s.flow ∧
        (FieldsKept (MGT_STAT.FLR_EV :: portFields ++ [0, 1, 2, 3].flatMap queueFields) [129] [4] s t)) ∧
  (∀ (s : State),
      s.answers = true → s.on MGT_STAT.LINK_UP = true → s.rd KEY_BULK_STAT.STATE ≠ Bulk.run → s.cst ≠ Cst.fetch →
      ∃ t, exec (.pcieHotReset) s = .next t ∧
        (t.rd MGT_STAT.HOTRST_EV = 1 ∧ t.rd MGT_STAT.LINK_UP = 0 ∧ t.rd MGT_STAT.BME = 0) ∧
        (∀ v : Fin 64, t.rd (MSIX.MASK v) = 1 ∧ t.rd (MSIX.DATA v) = 0) ∧ (∀ d : Fin 7, t.rd (DMAC.OUT d) = 0) ∧
        (∀ q : Fin 4, s.rd (MGT_DQ_STAT.STATE q) = 1 → t.rd (MGT_DQ_STAT.STATE q) = 2 ∧ t.rd (MGT_DQ_STAT.CAUSE q) =
          7) ∧
        t.ch = s.ch ∧ t.flow = s.flow ∧
        (FieldsKept ([MGT_STAT.HOTRST_EV, MGT_STAT.LINK_UP, MGT_STAT.SPEED, MGT_STAT.WIDTH] ++ portFields ++ [0, 1, 2,
          3].flatMap queueFields) [129] [4] s t)) ∧
  (∀ (s : State),
      s.answers = true → s.on MGT_STAT.LINK_UP = true → s.rd KEY_BULK_STAT.STATE ≠ Bulk.run → s.cst ≠ Cst.fetch →
      ∃ t, exec (.pcieLinkDown) s = .next t ∧
        (t.rd MGT_STAT.LINK_EV = 1 ∧ t.rd MGT_STAT.LINK_UP = 0 ∧ t.rd MGT_STAT.SPEED = 0 ∧ t.rd MGT_STAT.BME = 0) ∧
        (∀ v : Fin 64, t.rd (MSIX.MASK v) = 1 ∧ t.rd (MSIX.DATA v) = 0) ∧ (∀ d : Fin 7, t.rd (DMAC.OUT d) = 0) ∧
        (∀ q : Fin 4, s.rd (MGT_DQ_STAT.STATE q) = 1 → t.rd (MGT_DQ_STAT.STATE q) = 2 ∧ t.rd (MGT_DQ_STAT.CAUSE q) =
          7) ∧
        t.ch = s.ch ∧ t.flow = s.flow ∧
        (FieldsKept ([MGT_STAT.LINK_EV, MGT_STAT.LINK_UP, MGT_STAT.SPEED, MGT_STAT.WIDTH] ++ portFields ++ [0, 1, 2,
          3].flatMap queueFields) [129] [4] s t)) ∧
  (∀ (s : State),
      s.answers = true → s.on MGT_STAT.LINK_UP = true → s.rd KEY_BULK_STAT.STATE = Bulk.run → s.cst ≠ Cst.fetch →
      ∃ t, exec (.pcieLinkDown) s = .next t ∧
        (t.rd KEY_BULK_STAT.STATE = Bulk.fault ∧ t.rd KEY_BULK_STAT.CAUSE = 0xA ∧ t.rd KEY_BULK_STAT.FAULT_EV = 1) ∧
        t.rd (IRQ_PEND 51) = 1 ∧ (t.rd MGT_STAT.LINK_UP = 0 ∧ t.rd MGT_STAT.BME = 0) ∧ t.ch = s.ch ∧ t.flow = s.flow) ∧
  (∀ (s : State) (speed : LinkSpeed) (width : LinkWidth),
      s.answers = true → s.on MGT_STAT.LINK_UP = false →
      ∃ t, exec (.pcieLinkUp speed width) s = .next t ∧
        (t.rd MGT_STAT.LINK_UP = 1 ∧ t.rd MGT_STAT.SPEED = speed.code ∧ t.rd MGT_STAT.WIDTH = width.lanes) ∧
        t.ch = s.ch ∧ t.flow = s.flow ∧ SameFields [MGT_STAT.LINK_UP, MGT_STAT.SPEED, MGT_STAT.WIDTH] s t) ∧
  (∀ (s : State),
      s.answers = true → s.on MGT_STAT.LINK_UP = true →
      ∃ t, exec (.busMasterEnableClear) s = .next t ∧ t.rd MGT_STAT.BME = 0 ∧
        (∀ q : Fin 4, s.rd (MGT_DQ_STAT.STATE q) = 1 → t.rd (MGT_DQ_STAT.STATE q) = 2 ∧ t.rd (MGT_DQ_STAT.CAUSE q) = 7
          ∧ t.rd (IRQ_PEND 129) = 1) ∧
        t.ch = s.ch ∧ t.flow = s.flow ∧
        (FieldsKept (MGT_STAT.BME :: poolFields ++ [0, 1, 2, 3].flatMap queueFields) [129] [4] s t)) ∧
  (∀ (s : State) (mrrs : Fin 6) (relax : Bool),
      s.answers = true → s.on MGT_STAT.LINK_UP = true →
      ∃ t, exec (.pcieConfigurationWrite (.deviceControl mrrs relax)) s = .next t ∧
        (t.rd MGTC.MRRS = mrrs.val ∧ t.on MGTC.RELAX = relax) ∧ t.ch = s.ch ∧ t.flow = s.flow ∧
        SameFields [MGTC.MRRS, MGTC.RELAX] s t) ∧
  (∀ (s : State) (us : Nat),
      s.answers = true → s.on MGT_STAT.LINK_UP = true → us < 2 ^ 32 →
      ∃ t, exec (.pcieConfigurationWrite (.completionTimeout us)) s = .next t ∧ t.rd MGTC.TIMEOUT = us ∧ t.ch = s.ch ∧
        t.flow = s.flow ∧ SameFields [MGTC.TIMEOUT] s t) ∧
  (∀ (s : State) (en mask : Bool),
      s.answers = true → s.on MGT_STAT.LINK_UP = true →
      ∃ t, exec (.pcieConfigurationWrite (.msix en mask)) s = .next t ∧
        (t.on MGTC.MSIX_EN = en ∧ t.on MGTC.FMASK = mask) ∧
        (∀ v : Fin 20, t.on (MSIX.PEND v) = (s.on (MSIX.PEND v) && !(en && !mask && !s.on (MSIX.MASK v)))) ∧
        t.ch = s.ch ∧ t.flow = s.flow ∧
        (SameFields ([MGTC.MSIX_EN, MGTC.FMASK] ++ (List.range 20).map MSIX.PEND) s t)) ∧
  (∀ (s : State) (d3 : Bool),
      s.answers = true → s.on MGT_STAT.LINK_UP = true →
      ∃ t, exec (.pcieConfigurationWrite (.powerState d3)) s = .next t ∧
        (t.rd MGT_STAT.DSTATE = if d3 then 3 else 0) ∧ t.ch = s.ch ∧ t.flow = s.flow ∧
        (FieldsKept (MGT_STAT.DSTATE :: poolFields) [] [4] s t)) ∧
  (∀ (s : State),
      s.answers = true → s.on MGT_STAT.LINK_UP = true →
      ∃ t, exec (.pcieConfigurationWrite (.busMaster true)) s = .next t ∧ t.rd MGT_STAT.BME = 1 ∧ t.ch = s.ch ∧
        t.flow = s.flow ∧ (FieldsKept (MGT_STAT.BME :: poolFields) [] [4] s t))

/-- O54. A frame is two header words, the turnaround word of a read, and data words. Values of a read are latched two
words ahead, and a bad header leaves WORD and EDGES: the model's choices (log 26). (1) the fall of SPI_CS_N latches
SPI_STAT. (2) which the first header word delivers. (3) a good second one opens the data words of a write. (4) or of a
read, whose first values are latched. (5) a bad one sets HDR_ERR and ABORT, source 130 (R437). (6) a data word of a
write does its write, here of MGT_DMA_CTRL. (7) any does what the same register write through window 2 does, where
that leaves the frame open. (8) a data word of a read of MGT_REFUSE_INFO delivers the latched value, and COUNT falls
by it (R436). (9) a rise with the exact edges commits the last word: LAST_OK. (10) any other discards a word, with its
index and edges, source 130.  (19_management_port.md) -/
def Obligations.SpiFramesCommit : Prop :=
  (∀ (s : State),
      s.answers = true → s.rd SPIC.PH = 0 →
      ∃ t, exec (.spiChipSelectFall) s = .next t ∧
        t.rd SPIC.STAT = s.rd SPI_STAT.EDGES * 2 ^ 24 + s.rd SPI_STAT.WORD * 2 ^ 16 + s.rd SPI_STAT.ABORT * 2 ^ 7 +
          s.rd SPI_STAT.HDR_ERR * 2 ^ 6 + s.rd SPI_STAT.LAST_OK ∧
        (t.rd SPIC.PH = 1 ∧ t.rd SPIC.DONE = 0 ∧ t.rd SPIC.BAD = 0) ∧ t.ch = s.ch ∧ t.flow = s.flow ∧
        SameFields [SPIC.STAT, SPIC.PH, SPIC.DONE, SPIC.BAD] s t) ∧
  (∀ (s : State) (value : BitVec 32),
      s.answers = true → s.rd SPIC.PH = 1 →
      ∃ t, exec (.spiHeaderWord value) s = .next t ∧ (t.out = .spiWord (s.rd SPIC.STAT) :: s.out) ∧
        (t.rd SPIC.H0 = value.toNat ∧ t.rd SPIC.PH = 2) ∧ t.ch = s.ch ∧ t.flow = s.flow ∧
        SameFields [SPIC.H0, SPIC.PH] s t) ∧
  (∀ (s : State) (value : BitVec 32),
      s.answers = true → s.rd SPIC.PH = 2 → (bits (s.rd SPIC.H0) 6 24 = 0 ∧ bit (s.rd SPIC.H0) 31 = 0) →
      (value.toNat / 2 ^ 28 = 0 ∧ value.toNat % 4 = 0) →
      (value.toNat + (if bit (s.rd SPIC.H0) 30 = 1 then 4 * bits (s.rd SPIC.H0) 0 6 else 0) ≤ 0xFFFFFFC) →
      ∃ t, exec (.spiHeaderWord value) s = .next t ∧ (t.out = .spiWord 0 :: s.out) ∧
        (t.rd SPIC.H1 = value.toNat ∧ t.rd SPIC.PH = 3) ∧ t.ch = s.ch ∧ t.flow = s.flow ∧
        SameFields [SPIC.H1, SPIC.PH] s t) ∧
  (∀ (s : State) (value : BitVec 32),
      s.answers = true → s.rd SPIC.PH = 2 → (bits (s.rd SPIC.H0) 6 24 = 0 ∧ bit (s.rd SPIC.H0) 31 = 1) →
      (value.toNat / 2 ^ 28 = 0 ∧ value.toNat % 4 = 0) →
      (value.toNat + (if bit (s.rd SPIC.H0) 30 = 1 then 4 * bits (s.rd SPIC.H0) 0 6 else 0) ≤ 0xFFFFFFC) →
      ∃ t, exec (.spiHeaderWord value) s = .next t ∧ (t.out = .spiWord 0 :: .spiWord 0 :: s.out) ∧
        (t.rd SPIC.H1 = value.toNat ∧ t.rd SPIC.PH = 3) ∧ t.ch = s.ch ∧ t.flow = s.flow ∧
        SameFields [SPIC.H1, SPIC.PH, SPIC.VAL 0, SPIC.VAL 1] s t) ∧
  (∀ (s : State) (value : BitVec 32),
      s.answers = true → s.rd SPIC.PH = 2 →
      (bits (s.rd SPIC.H0) 6 24 ≠ 0 ∨ value.toNat / 2 ^ 28 ≠ 0 ∨ value.toNat % 4 ≠ 0) →
      ∃ t, exec (.spiHeaderWord value) s = .next t ∧
        (t.rd SPI_STAT.HDR_ERR = 1 ∧ t.rd SPI_STAT.ABORT = 1 ∧ t.rd SPI_CNT.ABORTS = s.oneMore SPI_CNT.ABORTS) ∧
        t.rd (IRQ_PEND 130) = 1 ∧ t.rd SPIC.BAD = 1 ∧ t.ch = s.ch ∧ t.flow = s.flow ∧
        FieldsKept [SPIC.H1, SPIC.PH, SPIC.BAD, SPIC.VAL 0, SPIC.VAL 1, SPI_STAT.HDR_ERR, SPI_STAT.ABORT,
          SPI_CNT.ABORTS] [130] [] s t) ∧
  (∀ (s : State) (value : BitVec 32),
      s.answers = true → s.rd SPIC.PH = 3 → s.on SPIC.BAD = false → bit (s.rd SPIC.H0) 31 = 0 →
      s.rd SPIC.DONE + 1 < s.spiLen → s.spiAddr (s.rd SPIC.DONE) = 0x90050 → s.writeOpen 2 3 →
      ∃ t, exec (.spiDataWord value) s = .next t ∧ t.rd MGT_DMA_CTRL.RLX = bit value.toNat 0 ∧
        t.rd SPIC.DONE = s.rd SPIC.DONE + 1 ∧ t.out = s.out ∧ t.ch = s.ch ∧ t.flow = s.flow ∧
        SameFields [MGT_DMA_CTRL.RLX, SPIC.DONE] s t) ∧
  (∀ (s : State) (value : BitVec 32),
      s.answers = true → s.rd SPIC.PH = 3 → s.on SPIC.BAD = false → bit (s.rd SPIC.H0) 31 = 0 →
      s.rd SPIC.DONE + 1 < s.spiLen → s.spiAddr (s.rd SPIC.DONE) < 2 ^ 28 →
      (s.after (.registerWrite 2 (BitVec.ofNat 32 (s.spiAddr (s.rd SPIC.DONE))) value 15)).rd SPIC.PH = 3 →
      (s.after (.registerWrite 2 (BitVec.ofNat 32 (s.spiAddr (s.rd SPIC.DONE))) value 15)).rd SPIC.H0 = s.rd SPIC.H0 →
      ∃ t, exec (.spiDataWord value) s = .next t ∧
        SameFields [SPIC.DONE] (s.after (.registerWrite 2 (BitVec.ofNat 32 (s.spiAddr (s.rd SPIC.DONE))) value 15)) t ∧
        t.ch = (s.after (.registerWrite 2 (BitVec.ofNat 32 (s.spiAddr (s.rd SPIC.DONE))) value 15)).ch ∧
        t.flow = (s.after (.registerWrite 2 (BitVec.ofNat 32 (s.spiAddr (s.rd SPIC.DONE))) value 15)).flow) ∧
  (∀ (s : State) (value : BitVec 32),
      s.answers = true → s.rd SPIC.PH = 3 → s.on SPIC.BAD = false → bit (s.rd SPIC.H0) 31 = 1 →
      s.rd SPIC.DONE + 1 < s.spiLen → s.spiAddr (s.rd SPIC.DONE) = 0x90044 → 1 ≤ s.level 2 →
      ∃ t, exec (.spiDataWord value) s = .next t ∧
        t.rd MGT_REFUSE_INFO.COUNT = s.rd MGT_REFUSE_INFO.COUNT - s.rd (SPIC.VAL 0) / 2 ^ 16 ∧
        t.rd SPIC.DONE = s.rd SPIC.DONE + 1 ∧ t.rd (SPIC.VAL 0) = s.rd (SPIC.VAL 1) ∧
        (t.out = .spiWord (s.rd (SPIC.VAL 0)) :: s.out) ∧ t.ch = s.ch ∧ t.flow = s.flow ∧
        SameFields [MGT_REFUSE_INFO.COUNT, SPIC.DONE, SPIC.VAL 0, SPIC.VAL 1] s t) ∧
  (∀ (s : State) (value : BitVec 32),
      s.answers = true → s.rd SPIC.PH = 3 → s.on SPIC.BAD = false → bit (s.rd SPIC.H0) 31 = 0 →
      s.rd SPIC.DONE + 1 = s.spiLen → s.spiAddr (s.rd SPIC.DONE) = 0x90050 → s.writeOpen 2 3 →
      ∃ t, exec (.spiChipSelectRise 32 value) s = .next t ∧ t.rd MGT_DMA_CTRL.RLX = bit value.toNat 0 ∧
        (t.rd SPI_STAT.LAST_OK = 1 ∧ t.rd SPI_CNT.FRAMES = s.oneMore SPI_CNT.FRAMES ∧ t.rd SPIC.PH = 0) ∧
        t.out = s.out ∧ t.ch = s.ch ∧ t.flow = s.flow ∧
        SameFields [MGT_DMA_CTRL.RLX, SPI_STAT.LAST_OK, SPI_CNT.FRAMES, SPIC.PH] s t) ∧
  (∀ (s : State) (edges : Nat) (value : BitVec 32),
      s.answers = true → s.rd SPIC.PH = 3 → s.on SPIC.BAD = false → bit (s.rd SPIC.H0) 31 = 0 →
      (edges ≠ 32 ∨ s.rd SPIC.DONE + 1 ≠ s.spiLen) → s.rd SPIC.DONE < 64 →
      ∃ t, exec (.spiChipSelectRise edges value) s = .next t ∧
        (t.rd SPI_STAT.ABORT = 1 ∧ t.rd SPI_STAT.WORD = s.rd SPIC.DONE + 2 ∧ t.rd SPI_STAT.EDGES = Nat.min 255 edges) ∧
        (t.rd SPI_STAT.LAST_OK = 0 ∧ t.rd SPI_CNT.ABORTS = s.oneMore SPI_CNT.ABORTS ∧ t.rd SPI_CNT.FRAMES = s.oneMore
          SPI_CNT.FRAMES) ∧
        t.rd (IRQ_PEND 130) = 1 ∧ t.rd SPIC.PH = 0 ∧ t.ch = s.ch ∧ t.flow = s.flow ∧
        FieldsKept [SPI_STAT.ABORT, SPI_STAT.WORD, SPI_STAT.EDGES, SPI_STAT.LAST_OK, SPI_CNT.ABORTS, SPI_CNT.FRAMES,
          SPIC.PH] [130] [] s t)

/-- O55. Windows have the level that a word asks, but where a clause says otherwise. (1) a write of MGT_DMA_CTRL sets
  RLX.
(2) one of an MSI-X message word is stored, whatever the window's level (R425). (3) one of the snapshot alias is
ignored (R424). (4) a read of MGT_REFUSE_INFO returns the word and clears COUNT (R440). (5) a read through the alias
changes no field. (6) a read of DEV_TIME_LO returns the low half of DEV_TIME and latches the high half (R461). (7) a
write whose byte enables are not all set changes nothing and is refused, reason 0x7 (R423). (8) one through a window
below the word's level is refused, reason 0x1 (R438).  (19_management_port.md, 00_scope.md, 20_power_and_reset.md) -/
def Obligations.RegisterAccessesOfTheHost : Prop :=
  (∀ (s : State) (win : Fin 7) (value : Word),
      s.writeOpen win 3 →
      ∃ t, exec (.registerWrite win 0x90050#32 value 15) s = .next t ∧ t.rd MGT_DMA_CTRL.RLX = bit value.toNat 0 ∧
        t.out = s.out ∧ t.ch = s.ch ∧ t.flow = s.flow ∧ SameFields [MGT_DMA_CTRL.RLX] s t) ∧
  (∀ (s : State) (win : Fin 7) (addr value : Word) (v : Fin 64),
      s.answers = true → s.on MGT_STAT.LINK_UP = true → addr.toNat = 0x50000008 + 16 * v.val →
      ∃ t, exec (.registerWrite win addr value 15) s = .next t ∧ t.rd (MSIX.DATA v) = value.toNat ∧ t.out = s.out ∧
        t.ch = s.ch ∧ t.flow = s.flow ∧ SameFields [MSIX.DATA v] s t) ∧
  (∀ (s : State) (win : Fin 7) (addr value : Word) (be : Fin 16),
      (0x52000000 ≤ addr.toNat ∧ addr.toNat < 0x54000000) →
      ∃ t, exec (.registerWrite win addr value be) s = .next t ∧ t = s ∧ t.ch = s.ch ∧ t.flow = s.flow) ∧
  (∀ (s : State) (win : Fin 7),
      s.answers = true → 1 ≤ s.level win →
      ∃ t, exec (.rcCounterRead win 0x90044#32) s = .next t ∧
        (t.out = .readData 0x90044 (s.rd MGT_REFUSE_INFO.COUNT * 2 ^ 16 + s.rd MGT_REFUSE_INFO.RD * 2 ^ 12 + s.rd
          MGT_REFUSE_INFO.WIN * 2 ^ 8 + s.rd MGT_REFUSE_INFO.REASON) :: s.out) ∧
        t.rd MGT_REFUSE_INFO.COUNT = 0 ∧ t.ch = s.ch ∧ t.flow = s.flow ∧ SameFields [MGT_REFUSE_INFO.COUNT] s t) ∧
  (∀ (s : State) (win : Fin 7) (addr : Word),
      s.answers = true → (0x52000000 ≤ addr.toNat ∧ addr.toNat < 0x54000000) →
      readLevel (aliasOf addr.toNat) ≤ s.level win →
      ∃ t, exec (.rcCounterRead win addr) s = .next t ∧
        (t.out = .readData (aliasOf addr.toNat) (s.view (aliasOf addr.toNat)) :: s.out) ∧ t.regs = s.regs ∧
        t.ch = s.ch ∧ t.flow = s.flow) ∧
  (∀ (s : State) (win : Fin 7),
      s.answers = true → 1 ≤ s.level win →
      ∃ t, exec (.latchingLowWordRead win 0x50#32) s = .next t ∧ (t.out = .readData 0x50 (s.time % 2 ^ 32) :: s.out) ∧
        t.rd DEV_TIME_HI.HI = s.time / 2 ^ 32 % 2 ^ 32 ∧ t.ch = s.ch ∧ t.flow = s.flow ∧
        SameFields [DEV_TIME_HI.HI] s t) ∧
  (∀ (s : State) (win : Fin 7) (value : Word) (be : Fin 16),
      s.writeOpen win 3 → be ≠ 15 →
      ∃ t, exec (.registerWrite win 0x90050#32 value be) s = .next t ∧ s.refusedAs t win 0x90050 7 false ∧
        t.ch = s.ch ∧ t.flow = s.flow) ∧
  (∀ (s : State) (win : Fin 7) (value : Word),
      s.answers = true → s.level win < 3 → 1 ≤ s.level win → s.on MGT_STAT.PWARN = false →
      ∃ t, exec (.registerWrite win 0x90050#32 value 15) s = .next t ∧ s.refusedAs t win 0x90050 1 false ∧
        t.ch = s.ch ∧ t.flow = s.flow)

/-- O56. ResetTo says that everything is as right after reset, but for what Tables 20.4 and 22.11 keep. Which fields
  those
are, that a rail back within 1 us leaves CAUSE 0x4, and that pins, rails and clocks stand are the model's choices (log
26). (1) a main rail that stays out takes the device to KEEP, a power-on reset (R445). (2) one that is back within 1
us, to RESET, CAUSE 0x4, with the safety inputs as they stand. (3) the last main rail in range ends KEEP: RESET, CAUSE
0x1. (4) VKEEP out of range shows. (5) and so does its return. (6) MREFCLK absent turns the time source, and the count
goes on (R461). (7) its return turns it back. (8) the internal reset ends in BOOT: DEV_TIME 0, step 1, the first VCORE
request, source 0 (R453). (9) with RESET_N active the device stays in RESET. (10) RESET_N is a device reset of CAUSE
0x2 that keeps the plinth. (11) its release ends in BOOT. (12) GO with CODE 0x5A is a device reset of CAUSE 0x3, held
for 1 ms (R451). (13) the end of the hold ends in BOOT. (14) VIO out while VKEEP is out leaves the device unpowered:
the root key, its clock, its records and AUTH_REQ are lost too (R446). (15) a casting store write that a reset cuts
leaves no valid image (R419).  (20_power_and_reset.md, 22_register_map.md, 04_optical_engine.md) -/
def Obligations.ResetsAndRails : Prop :=
  (∀ (s : State) (r : Fin 5),
      s.mode ≠ Mode.keep → s.rdBit PWRC.OUT 0 = false →
      ∃ t, exec (.mainRailLoss r false) s = .next t ∧ t.mode = Mode.keep ∧ (t.rd PWRC.INT = 1 ∧ t.rd PWRC.HOLD = 0) ∧
        (∀ k : Fin 6, t.rdBit PWRC.OUT k = (k.val == r.val + 1 || s.rdBit PWRC.OUT k)) ∧
        ResetTo true [PWRC.INT, PWRC.HOLD, PWRC.OUT, DEV_MODE.MODE] s t) ∧
  (∀ (s : State) (r : Fin 5),
      s.mode ≠ Mode.keep → s.mode ≠ Mode.reset → s.on PIN.RESET = false →
      ∃ t, exec (.mainRailLoss r true) s = .next t ∧ t.mode = Mode.reset ∧
        (t.rd PWRC.INT = 1 ∧ t.rd PWRC.CAUSE = 4 ∧ t.rd PWRC.COUNT = s.oneMore PWRC.COUNT) ∧
        (∀ k : Fin 4, t.rd (OPT_SAFE_STAT.A_ACT k) = s.rd PIN.SAFE_A ∧ t.rd (OPT_SAFE_STAT.B_ACT k) = s.rd PIN.SAFE_B) ∧
        (ResetTo false ([PWRC.INT, PWRC.CAUSE, PWRC.COUNT] ++ safeFields) s t)) ∧
  (∀ (s : State),
      s.mode = Mode.keep →
      ∃ t, exec (.mainRailsUp) s = .next t ∧ t.mode = Mode.reset ∧ t.railsUp = true ∧
        (t.rd PWRC.INT = 1 ∧ t.rd PWRC.CAUSE = 1 ∧ t.rd PWRC.COUNT = 0) ∧
        (∀ k : Fin 4, t.rd (OPT_SAFE_STAT.A_ACT k) = s.rd PIN.SAFE_A ∧ t.rd (OPT_SAFE_STAT.B_ACT k) = s.rd PIN.SAFE_B) ∧
        t.ch = s.ch ∧ t.flow = s.flow ∧
        (SameFields ([PWRC.OUT, PWRC.INT, PWRC.CAUSE, PWRC.COUNT, DEV_MODE.MODE] ++ safeFields) s t)) ∧
  (∀ (s : State),
      s.answers = true → s.railsUp = true →
      ∃ t, exec (.vkeepAbsent) s = .next t ∧ (t.rd DEV_PWR_STAT.VKEEP_OK = 0 ∧ t.rdBit PWRC.OUT 0 = true) ∧
        t.rd DEV_PWR_STAT.RAIL_OK = 62 ∧ t.ch = s.ch ∧ t.flow = s.flow ∧
        SameFields [PWRC.OUT, DEV_PWR_STAT.RAIL_OK, DEV_PWR_STAT.VKEEP_OK, DEV_PWR_STAT.TSRC, MON_STAT.OSC 4] s t) ∧
  (∀ (s : State),
      s.answers = true → s.railsUp = true →
      ∃ t, exec (.vkeepRestored) s = .next t ∧ (t.rd DEV_PWR_STAT.VKEEP_OK = 1 ∧ t.rdBit PWRC.OUT 0 = false) ∧
        t.rd DEV_PWR_STAT.RAIL_OK = 63 ∧ t.ch = s.ch ∧ t.flow = s.flow ∧
        SameFields [PWRC.OUT, DEV_PWR_STAT.RAIL_OK, DEV_PWR_STAT.VKEEP_OK, DEV_PWR_STAT.TSRC, MON_STAT.OSC 4] s t) ∧
  (∀ (s : State) (lref : Bool),
      s.answers = true →
      ∃ t, exec (.mrefclkLoss lref) s = .next t ∧ (t.rd DEV_PWR_STAT.TSRC = if lref then 1 else 2) ∧
        t.rd (MON_STAT.OSC 4) = 1 ∧ t.time = s.time ∧ t.ch = s.ch ∧ t.flow = s.flow ∧
        SameFields [PWRC.NO_MREF, PWRC.NO_LREF, DEV_PWR_STAT.RAIL_OK, DEV_PWR_STAT.VKEEP_OK, DEV_PWR_STAT.TSRC,
          MON_STAT.OSC 4] s t) ∧
  (∀ (s : State),
      s.answers = true →
      ∃ t, exec (.mrefclkRestored) s = .next t ∧ t.rd DEV_PWR_STAT.TSRC = 0 ∧ t.rd (MON_STAT.OSC 4) = 0 ∧
        t.time = s.time ∧ t.ch = s.ch ∧ t.flow = s.flow ∧
        SameFields [PWRC.NO_MREF, DEV_PWR_STAT.RAIL_OK, DEV_PWR_STAT.VKEEP_OK, DEV_PWR_STAT.TSRC, MON_STAT.OSC 4] s t) ∧
  (∀ (s : State),
      s.mode = Mode.reset → s.railsUp = true → (s.on PIN.RESET = false ∧ s.on PWRC.HOLD = false) →
      (s.on PIN.TAMPER = false ∧ s.on PIN.ZEROISE = false) →
      ∃ t, exec (.internalResetEnd) s = .next t ∧ (t.mode = Mode.boot ∧ t.time = 0) ∧
        (t.rd DEV_BOOT_STAT.STEP = 1 ∧ t.rd DEV_RST_STAT.CAUSE = s.rd PWRC.CAUSE ∧ t.rd DEV_RST_STAT.COUNT = s.rd
          PWRC.COUNT) ∧
        t.rd FAB_GOV_STAT.VREQ = Nat.max s.vmin (Nat.min s.vmax (s.rd FAB_VCORE_LIM.IDLE)) % 1024 ∧
        t.rd (IRQ_PEND 0) = 1 ∧ t.ch = s.ch ∧ t.flow = s.flow ∧
        FieldsKept [PWRC.INT, DEV_MODE.MODE, DEV_RST_STAT.CAUSE, DEV_RST_STAT.COUNT, DEV_SERIAL_LO.SN,
          DEV_BOOT_STAT.STEP, DEV_PWR_STAT.RAIL_OK, DEV_PWR_STAT.VKEEP_OK, DEV_PWR_STAT.TSRC, MON_STAT.OSC 4,
          KEY_STAT.TAMPER_PIN, KEY_STAT.ZEROISE_PIN, FAB_GOV_STAT.VREQ, FAB_GOV_STAT.AT_VMAX, FABC.REQ] [0] [4] s t) ∧
  (∀ (s : State),
      s.railsUp = true → s.on PIN.RESET = true →
      ∃ t, exec (.internalResetEnd) s = .next t ∧ t.rd PWRC.INT = 0 ∧ t.ch = s.ch ∧ t.flow = s.flow ∧
        SameFields [PWRC.INT] s t) ∧
  (∀ (s : State),
      s.mode ≠ Mode.keep → s.mode ≠ Mode.reset →
      ∃ t, exec (.resetNAssert) s = .next t ∧ t.mode = Mode.reset ∧
        (t.rd PIN.RESET = 1 ∧ t.rd PWRC.CAUSE = 2 ∧ t.rd PWRC.COUNT = s.oneMore PWRC.COUNT) ∧
        (t.rd KEY_RTC.SEC = s.rd KEY_RTC.SEC ∧ t.rd KEYC.ROOT = s.rd KEYC.ROOT) ∧
        (∀ k : Fin 4, t.rd (OPT_SAFE_STAT.A_ACT k) = s.rd PIN.SAFE_A ∧ t.rd (OPT_SAFE_STAT.B_ACT k) = s.rd PIN.SAFE_B) ∧
        (ResetTo false ([PIN.RESET, PWRC.CAUSE, PWRC.COUNT] ++ safeFields) s t)) ∧
  (∀ (s : State),
      s.mode = Mode.reset → s.railsUp = true → (s.on PWRC.INT = false ∧ s.on PWRC.HOLD = false) →
      (s.on PIN.TAMPER = false ∧ s.on PIN.ZEROISE = false) →
      ∃ t, exec (.resetNRelease) s = .next t ∧ (t.mode = Mode.boot ∧ t.time = 0) ∧
        (t.rd DEV_BOOT_STAT.STEP = 1 ∧ t.rd DEV_RST_STAT.CAUSE = s.rd PWRC.CAUSE) ∧ t.rd (IRQ_PEND 0) = 1 ∧
        t.ch = s.ch ∧ t.flow = s.flow ∧
        FieldsKept [PIN.RESET, DEV_MODE.MODE, DEV_RST_STAT.CAUSE, DEV_RST_STAT.COUNT, DEV_SERIAL_LO.SN,
          DEV_BOOT_STAT.STEP, DEV_PWR_STAT.RAIL_OK, DEV_PWR_STAT.VKEEP_OK, DEV_PWR_STAT.TSRC, MON_STAT.OSC 4,
          KEY_STAT.TAMPER_PIN, KEY_STAT.ZEROISE_PIN, FAB_GOV_STAT.VREQ, FAB_GOV_STAT.AT_VMAX, FABC.REQ] [0] [4] s t) ∧
  (∀ (s : State) (win : Fin 7) (value : Word),
      s.writeOpen win 3 → DEV_RST_CMD.GO.of value.toNat = 1 → DEV_RST_CMD.CODE.of value.toNat = 0x5A →
      ∃ t, exec (.deviceResetCommand win value 15) s = .next t ∧ t.mode = Mode.reset ∧
        (t.rd PWRC.CAUSE = 3 ∧ t.rd PWRC.COUNT = s.oneMore PWRC.COUNT ∧ t.rd PWRC.HOLD = 1) ∧
        (∀ k : Fin 4, t.rd (OPT_SAFE_STAT.A_ACT k) = s.rd PIN.SAFE_A ∧ t.rd (OPT_SAFE_STAT.B_ACT k) = s.rd PIN.SAFE_B) ∧
        (ResetTo false ([PWRC.HOLD, PWRC.CAUSE, PWRC.COUNT] ++ safeFields) s t)) ∧
  (∀ (s : State),
      s.mode = Mode.reset → s.railsUp = true → (s.on PIN.RESET = false ∧ s.on PWRC.INT = false) →
      (s.on PIN.TAMPER = false ∧ s.on PIN.ZEROISE = false) →
      ∃ t, exec (.deviceResetHoldEnd) s = .next t ∧ (t.mode = Mode.boot ∧ t.time = 0) ∧
        (t.rd DEV_BOOT_STAT.STEP = 1 ∧ t.rd DEV_RST_STAT.CAUSE = s.rd PWRC.CAUSE) ∧ t.rd (IRQ_PEND 0) = 1 ∧
        t.ch = s.ch ∧ t.flow = s.flow ∧
        FieldsKept [PWRC.HOLD, DEV_MODE.MODE, DEV_RST_STAT.CAUSE, DEV_RST_STAT.COUNT, DEV_SERIAL_LO.SN,
          DEV_BOOT_STAT.STEP, DEV_PWR_STAT.RAIL_OK, DEV_PWR_STAT.VKEEP_OK, DEV_PWR_STAT.TSRC, MON_STAT.OSC 4,
          KEY_STAT.TAMPER_PIN, KEY_STAT.ZEROISE_PIN, FAB_GOV_STAT.VREQ, FAB_GOV_STAT.AT_VMAX, FABC.REQ] [0] [4] s t) ∧
  (∀ (s : State),
      s.mode ≠ Mode.keep → s.rdBit PWRC.OUT 0 = true →
      ∃ t, exec (.mainRailLoss 1 false) s = .next t ∧ t.mode = Mode.keep ∧
        (t.rd KEYC.ROOT = 0 ∧ t.rd KEYC.ROOTST = 2 ∧ t.rd KEY_RTC.SEC = 0 ∧ t.rd CST_INFO.AUTH_REQ = 0) ∧
        (ResetTo true ([PWRC.INT, PWRC.HOLD, PWRC.OUT, DEV_MODE.MODE, KEYC.ROOT, KEYC.ROOTST, KEY_STAT.ROOT,
          KEY_RTC.SEC, KEYC.SUB, CST_INFO.AUTH_REQ] ++ plinthFields) s t)) ∧
  (∀ (s : State),
      s.mode ≠ Mode.keep → s.mode ≠ Mode.reset → s.cst = Cst.storing →
      ∃ t, exec (.resetNAssert) s = .next t ∧ t.bootImage = [] ∧ t.mode = Mode.reset)

/-- O57. The device is in BOOT, with no bank failed without a spare. (1) step 1 ends in step 2. (2) at step 2, a root
  key
that fails its check word is lost, with plinth record 0x7 (R299). (3) one that passes gives the casting key (R282).
(4) at step 3, a bank that fails runs on the lowest free spare (R395). (5) a control bank that fails without one holds
the device in BOOT. (6) step 4 without failures ends in step 5. (7) step 5 reads the store and releases the
supervisors. (8) step 6 ends once a supervisor has a valid image. (9) and without one in LOCKDOWN, HOLD 2. (10) step 7
makes the lowest one the leader, and the mailbox serves. (11) step 8 ends in CAST, HOLD 3 without a stored casting
(R419). (12) and with a stored full one in its check. (13) at step 3, a bank of channel n that fails without a spare
fences the channel. (14) at step 4, an engine that fails is fenced (Table 8.9).  (20_power_and_reset.md,
12_security.md, 17_memory_integrity.md, 18_casting.md, 15_supervisor_complex.md) -/
def Obligations.BootStepsFollowInOrder : Prop :=
  (∀ (s : State) (root : Bool) (banks : List Nat) (units : List (Nat × Nat × Nat)),
      s.mode = Mode.boot → s.rd DEV_BOOT_STAT.HOLD ≠ 1 → s.rd DEV_BOOT_STAT.STEP = 1 →
      ∃ t, exec (.bootStepComplete root banks units) s = .next t ∧ t.rd DEV_BOOT_STAT.STEP = 2 ∧ t.ch = s.ch ∧
        t.flow = s.flow ∧ SameFields [DEV_BOOT_STAT.STEP] s t) ∧
  (∀ (s : State) (banks : List Nat) (units : List (Nat × Nat × Nat)),
      s.mode = Mode.boot → s.rd DEV_BOOT_STAT.HOLD ≠ 1 → s.rd DEV_BOOT_STAT.STEP = 2 → s.rd KEYC.ROOTST = 1 →
      ∃ t, exec (.bootStepComplete false banks units) s = .next t ∧ t.rd DEV_BOOT_STAT.STEP = 3 ∧
        (t.rd KEY_STAT.ROOT = 2 ∧ t.rd KEYC.ROOTST = 2 ∧ t.rd KEYC.ROOT = 0) ∧
        (t.rd (KEY_PLOG.CAUSE 0) = 7 ∧ t.rd (KEY_PLOG.MODE 0) = Mode.boot ∧ t.rd (KEY_PLOG.TIME 0) = s.rd KEY_RTC.SEC) ∧
        t.rd (KEY_KEK.STATE 63) = 0 ∧ t.ch = s.ch ∧ t.flow = s.flow ∧
        (SameFields ([DEV_BOOT_STAT.STEP, KEY_STAT.ROOT, KEYC.ROOTST, KEYC.ROOT, KEYC.KEK 63, KEY_KEK.STATE 63,
          KEY_KEK.CASTING 63] ++ plinthFields) s t)) ∧
  (∀ (s : State) (banks : List Nat) (units : List (Nat × Nat × Nat)),
      s.mode = Mode.boot → s.rd DEV_BOOT_STAT.HOLD ≠ 1 → s.rd DEV_BOOT_STAT.STEP = 2 → s.rd KEYC.ROOTST = 1 →
      ∃ t, exec (.bootStepComplete true banks units) s = .next t ∧ t.rd DEV_BOOT_STAT.STEP = 3 ∧
        t.rd KEY_STAT.ROOT = 1 ∧ (t.rd (KEY_KEK.STATE 63) = 2 ∧ t.rd (KEY_KEK.CASTING 63) = 1) ∧ t.ch = s.ch ∧
        t.flow = s.flow ∧
        SameFields [DEV_BOOT_STAT.STEP, KEY_STAT.ROOT, KEYC.KEK 63, KEY_KEK.STATE 63, KEY_KEK.CASTING 63] s t) ∧
  (∀ (s : State) (root : Bool) (units : List (Nat × Nat × Nat)) (b : Fin 64),
      s.mode = Mode.boot → s.rd DEV_BOOT_STAT.HOLD ≠ 1 → s.rd DEV_BOOT_STAT.STEP = 3 →
      s.rd (MEM_SPARE.STATE 0) = 0 →
      ∃ t, exec (.bootStepComplete root [b.val] units) s = .next t ∧ t.rd DEV_BOOT_STAT.STEP = 4 ∧
        (t.rd (MEM_MAP.PHYS b) = 64 ∧ t.rd (MEM_SPARE.STATE 0) = 2 ∧ t.rd (MEM_SPARE.BANK 0) = b.val) ∧ t.ch = s.ch ∧
        t.flow = s.flow ∧ SameFields [DEV_BOOT_STAT.STEP, MEM_MAP.PHYS b, MEM_SPARE.STATE 0, MEM_SPARE.BANK 0] s t) ∧
  (∀ (s : State) (root : Bool) (units : List (Nat × Nat × Nat)) (b : Fin 64),
      s.mode = Mode.boot → s.rd DEV_BOOT_STAT.HOLD ≠ 1 → s.rd DEV_BOOT_STAT.STEP = 3 → 56 ≤ b.val →
      (∀ d : Fin 4, s.rd (MEM_SPARE.STATE d) ≠ 0) →
      ∃ t, exec (.bootStepComplete root [b.val] units) s = .next t ∧
        (t.rd MEM_STAT.BOOT_FAIL = 1 ∧ t.rd DEV_BOOT_STAT.HOLD = 1 ∧ t.rd DEV_BOOT_STAT.STEP = 3) ∧ t.ch = s.ch ∧
        t.flow = s.flow ∧ SameFields [MEM_STAT.BOOT_FAIL, DEV_BOOT_STAT.HOLD] s t) ∧
  (∀ (s : State) (root : Bool) (banks : List Nat),
      s.mode = Mode.boot → s.rd DEV_BOOT_STAT.HOLD ≠ 1 → s.rd DEV_BOOT_STAT.STEP = 4 →
      ∃ t, exec (.bootStepComplete root banks []) s = .next t ∧ t.rd DEV_BOOT_STAT.STEP = 5 ∧ t.ch = s.ch ∧
        t.flow = s.flow ∧ SameFields [DEV_BOOT_STAT.STEP] s t) ∧
  (∀ (s : State) (root : Bool) (banks : List Nat) (units : List (Nat × Nat × Nat)),
      s.mode = Mode.boot → s.rd DEV_BOOT_STAT.HOLD ≠ 1 → s.rd DEV_BOOT_STAT.STEP = 5 →
      ∃ t, exec (.bootStepComplete root banks units) s = .next t ∧ t.rd DEV_BOOT_STAT.STEP = 6 ∧
        (∀ i : Fin 3, t.sup i = Sup.boot ∧ t.rd (SUPC.IMG i) = 0) ∧ t.mode = Mode.boot ∧ t.ch = s.ch ∧
        t.flow = s.flow) ∧
  (∀ (s : State) (root : Bool) (banks : List Nat) (units : List (Nat × Nat × Nat)),
      s.mode = Mode.boot → s.rd DEV_BOOT_STAT.HOLD ≠ 1 → s.rd DEV_BOOT_STAT.STEP = 6 → s.supsReady = true →
      (∃ i : Fin 3, s.sup i = Sup.boot ∧ s.rd (SUPC.IMG i) ≠ 0) →
      ∃ t, exec (.bootStepComplete root banks units) s = .next t ∧ t.rd DEV_BOOT_STAT.STEP = 7 ∧ t.ch = s.ch ∧
        t.flow = s.flow ∧ SameFields [DEV_BOOT_STAT.STEP] s t) ∧
  (∀ (s : State) (root : Bool) (banks : List Nat) (units : List (Nat × Nat × Nat)),
      s.mode = Mode.boot → s.rd DEV_BOOT_STAT.HOLD ≠ 1 → s.rd DEV_BOOT_STAT.STEP = 6 → s.supsReady = true →
      (∀ i : Fin 3, s.sup i ≠ Sup.boot) → s.cst = Cst.idle → s.bulkBusy = false → s.calBusy = false →
      s.votes = [] →
      ∃ t, exec (.bootStepComplete root banks units) s = .next t ∧ t.mode = Mode.lockdown ∧
        t.rd DEV_BOOT_STAT.HOLD = 2 ∧ t.rd KEY_STAT.LOCKDOWN = 1) ∧
  (∀ (s : State) (root : Bool) (banks : List Nat) (units : List (Nat × Nat × Nat)),
      s.mode = Mode.boot → s.rd DEV_BOOT_STAT.HOLD ≠ 1 → s.rd DEV_BOOT_STAT.STEP = 7 →
      (s.sup 0 = Sup.boot ∧ s.rd (SUPC.IMG 0) ≠ 0) → s.mbx = [] → s.votes = [] →
      ∃ t, exec (.bootStepComplete root banks units) s = .next t ∧ t.rd DEV_BOOT_STAT.STEP = 8 ∧
        t.sup 0 = Sup.leader ∧ (t.rd SUP_STAT.LEADER = 0 ∧ t.rd SUP_MBX_STAT.SERVING = 1) ∧
        (t.rd SUP_MBX_GEN.GEN = (if (s.rd SUP_MBX_GEN.GEN + 1) % 256 = 0 then 1 else (s.rd SUP_MBX_GEN.GEN + 1) %
          256)) ∧
        t.flow = s.flow) ∧
  (∀ (s : State) (root : Bool) (banks : List Nat) (units : List (Nat × Nat × Nat)),
      s.mode = Mode.boot → s.rd DEV_BOOT_STAT.HOLD ≠ 1 → s.rd DEV_BOOT_STAT.STEP = 8 → s.bootImage = [] →
      ∃ t, exec (.bootStepComplete root banks units) s = .next t ∧ t.mode = Mode.cast ∧
        (t.rd DEV_BOOT_STAT.STEP = 9 ∧ t.rd DEV_BOOT_STAT.HOLD = 3) ∧ t.rd CST_INFO.STORE_VALID = 0 ∧
        t.rd (IRQ_PEND 0) = 1 ∧ t.ch = s.ch ∧ t.flow = s.flow ∧
        FieldsKept [DEV_MODE.MODE, DEV_BOOT_STAT.STEP, DEV_BOOT_STAT.HOLD, CST_INFO.STORE_VALID, CST_INFO.STORE_LEN]
          [0] [] s t) ∧
  (∀ (s : State) (root : Bool) (banks : List Nat) (units : List (Nat × Nat × Nat)),
      s.mode = Mode.boot → s.rd DEV_BOOT_STAT.HOLD ≠ 1 → s.rd DEV_BOOT_STAT.STEP = 8 → s.bootImage ≠ [] →
      (imgRecast s.bootImage = false ∧ imgMaquette s.bootImage = false) →
      ∃ t, exec (.bootStepComplete root banks units) s = .next t ∧ t.mode = Mode.cast ∧ t.rd DEV_BOOT_STAT.STEP = 9 ∧
        (t.cst = Cst.check ∧ t.image = s.bootImage) ∧ t.rd CST_INFO.STORE_VALID = 1 ∧ t.ch = s.ch ∧ t.flow = s.flow ∧
        FieldsKept [DEV_MODE.MODE, DEV_BOOT_STAT.STEP, CST_INFO.STORE_VALID, CST_INFO.STORE_LEN, CSTC.BOOT, CSTC.OP,
          CST_STAT.STATE] [0] [] s t) ∧
  (∀ (s : State) (root : Bool) (units : List (Nat × Nat × Nat)) (b : Fin 64),
      s.mode = Mode.boot → s.rd DEV_BOOT_STAT.HOLD ≠ 1 → s.rd DEV_BOOT_STAT.STEP = 3 → b.val < 56 →
      (∀ d : Fin 4, s.rd (MEM_SPARE.STATE d) ≠ 0) →
      ∃ t, exec (.bootStepComplete root [b.val] units) s = .next t ∧ t.chSt (b.val / 14) = ChSt.fenced ∧
        (t.rd MEM_STAT.BOOT_FAIL = 1 ∧ t.rdBit (FNC.MEM (b.val / 14)) (b.val % 14) = true) ∧
        t.rd DEV_BOOT_STAT.STEP = 4) ∧
  (∀ (s : State) (root : Bool) (banks : List Nat) (n : Fin 4) (e : Fin 24),
      s.mode = Mode.boot → s.rd DEV_BOOT_STAT.HOLD ≠ 1 → s.rd DEV_BOOT_STAT.STEP = 4 →
      s.rd (FEC_ENG_STAT.STATE n e) ≠ 2 →
      ∃ t, exec (.bootStepComplete root banks [(n.val, 3, e.val)]) s = .next t ∧ t.rd (FEC_ENG_STAT.STATE n e) = 2 ∧
        t.rd DEV_BOOT_STAT.STEP = 5)

/-- O58. No other long operation runs as the warning comes. (1) PWR_WARN_N sets WARN, WARN_EV and PWARN, raises source
  1,
halts queues with cause 0xA, pauses a bulk operation and a scrub, and every ledger and every scope's counters are
being snapshot (R455, R456). (2) the record holds DEV_TIME and KEY_RTC of the warning and the ledger records, and ends
in its check word (R457). (3) the end of the warning clears PWARN and WARN and sets WARN_ABORT (R459).
(20_power_and_reset.md, 12_security.md, 17_memory_integrity.md, 19_management_port.md, 16_interrupts_and_counters.md) -/
def Obligations.PowerWarningStopsAndRecords : Prop :=
  (∀ (s : State) (short : Bool),
      s.answers = true → s.on DEV_PWR_STAT.WARN = false → s.rd MEM_RET_STAT.STATE = 0 →
      s.rd CAL_RUN_STAT.STATE = 0 → s.cst = Cst.idle →
      ∃ t, exec (.powerWarning short) s = .next t ∧
        (t.rd DEV_PWR_STAT.WARN = 1 ∧ t.rd DEV_PWR_STAT.WARN_EV = 1 ∧ t.rd MGT_STAT.PWARN = 1 ∧ t.rd
          DEV_PWR_STAT.PLR_DONE = 0) ∧
        t.rd (IRQ_PEND 1) = 1 ∧ (t.rd FAB_SNAP_STAT.BUSY = 15 ∧ t.rd PMC_SNAP_STAT.BUSY = 31) ∧
        (∀ q : Fin 4, s.rd (MGT_DQ_STAT.STATE q) = 1 → t.rd (MGT_DQ_STAT.STATE q) = 2 ∧ t.rd (MGT_DQ_STAT.CAUSE q) =
          0xA) ∧
        (s.rd KEY_BULK_STAT.STATE = Bulk.run → t.rd KEY_BULK_STAT.STATE = Bulk.paused) ∧
        (s.scrubBusy = true → t.rd MEM_SCRUB_STAT.STATE = 2 ∧ t.rd MEM_SCRUB_STAT.PAUSE = 3) ∧
        (t.time = s.time ∧ t.rd PWRC.T0 = s.time % 2 ^ 64) ∧ t.ch = s.ch ∧ t.flow = s.flow) ∧
  (∀ (s : State),
      s.on DEV_PWR_STAT.WARN = true → s.on PWRC.DUE = true →
      ∃ t, exec (.powerLossRecordProgrammed) s = .next t ∧
        (t.rd DEV_PWR_STAT.PLR_DONE = 1 ∧ t.rd PWRC.PLR = 1 ∧ t.rd PWRC.DUE = 0) ∧ t.rd (PWRC.WORD 0) = 0x524C504A ∧
        (t.rd (PWRC.WORD 2) = s.rd PWRC.T0 % 2 ^ 32 ∧ t.rd (PWRC.WORD 3) = s.rd PWRC.T0 / 2 ^ 32 ∧ t.rd (PWRC.WORD 4)
          = s.rd PWRC.RTC0) ∧
        (∀ d : Fin 512, t.rd (PWRC.WORD (16 + d)) = s.rd (tableWord (0x8400000 + 4 * d))) ∧
        (t.rd (PWRC.WORD 3808) = crc32c ((List.range 3808).flatMap (fun k => leBytes 4 (t.rd (PWRC.WORD k))))) ∧
        t.ch = s.ch ∧ t.flow = s.flow ∧
        (SameFields ([DEV_PWR_STAT.PLR_DONE, PWRC.PLR, PWRC.DUE] ++ (List.range 3809).map PWRC.WORD) s t)) ∧
  (∀ (s : State),
      s.on DEV_PWR_STAT.WARN = true → s.railsUp = true →
      ∃ t, exec (.powerWarningEnd) s = .next t ∧
        (t.rd MGT_STAT.PWARN = 0 ∧ t.rd DEV_PWR_STAT.WARN = 0 ∧ t.rd DEV_PWR_STAT.WARN_ABORT = 1 ∧ t.rd PIN.WARN = 0) ∧
        t.ch = s.ch ∧ t.flow = s.flow ∧
        SameFields [MGT_STAT.PWARN, DEV_PWR_STAT.WARN, DEV_PWR_STAT.WARN_ABORT, PIN.WARN] s t)

/-- O59. Each refusal changes nothing but the record of it: with reason 0x1 for the window, and for FORCE, written by a
window that may write it, with 0x5. (1) a read of a word above the window's level returns 0. (2) so does one of a word
whose read latches another. (3) a write of a word with writable fields, none of which the window may write, changes
nothing. (4) FORCE when the selected engine is neither ACTIVE nor IDLE (STATE codes of Table 8.9). (5) when it is the
last ACTIVE one and the channel is not DARK. (6) FORCE of a lane that is already fenced.  (R440, R197, R249) -/
def Obligations.WindowRefusals : Prop :=
  (∀ (s : State) (win : Fin 7) (addr : Word),
      s.answers = true → addr.toNat < 0x50000000 → s.level win < readLevel addr.toNat →
      ∃ t, exec (.rcCounterRead win addr) s = .next t ∧ (t.out = .readData addr.toNat 0 :: s.out) ∧
        s.refusedAs t win addr.toNat 1 true ∧ t.ch = s.ch ∧ t.flow = s.flow) ∧
  (∀ (s : State) (win : Fin 7) (addr : Word),
      s.answers = true → addr.toNat < 0x50000000 → s.level win < readLevel addr.toNat →
      ∃ t, exec (.latchingLowWordRead win addr) s = .next t ∧ (t.out = .readData addr.toNat 0 :: s.out) ∧
        s.refusedAs t win addr.toNat 1 true ∧ t.ch = s.ch ∧ t.flow = s.flow) ∧
  (∀ (s : State) (win : Fin 7) (addr value : Word) (be : Fin 16),
      s.answers = true → addr.toNat < 0x50000000 → dropsWrite addr.toNat = false →
      (s.fieldsAt addr.toNat).any FSpec.writable = true →
      (∀ f ∈ s.fieldsAt addr.toNat, f.writable = true → s.level win < f.wpriv) →
      ∃ t, exec (.registerWrite win addr value be) s = .next t ∧ t.out = s.out ∧
        s.refusedAs t win addr.toNat 1 false ∧ t.ch = s.ch ∧ t.flow = s.flow) ∧
  (∀ (s : State) (win : Fin 7) (n : Fin 4) (value : Word) (e : Fin 24),
      s.writeOpen win 3 → (FEC_ENG_CMD.FORCE n).of value.toNat = 1 → s.rd (FEC_ENG_SEL.ENGINE n) = e.val →
      (s.rd (FEC_ENG_STAT.STATE n e) ≠ 0 ∧ s.rd (FEC_ENG_STAT.STATE n e) ≠ 1) →
      ∃ t, exec (.engineForce win n value 15) s = .next t ∧ s.refusedAs t win (0x1300020 + 0x1000000 * n) 5 false ∧
        t.out = s.out ∧ t.ch = s.ch ∧ t.flow = s.flow) ∧
  (∀ (s : State) (win : Fin 7) (n : Fin 4) (value : Word) (e : Fin 24),
      s.writeOpen win 3 → (FEC_ENG_CMD.FORCE n).of value.toNat = 1 → s.rd (FEC_ENG_SEL.ENGINE n) = e.val →
      (∀ d : Fin 24, s.rdBit (FEC_ENG_ACT.ACTIVE n) d = (d == e)) → s.chSt n ≠ ChSt.dark →
      ∃ t, exec (.engineForce win n value 15) s = .next t ∧ s.refusedAs t win (0x1300020 + 0x1000000 * n) 5 false ∧
        t.out = s.out ∧ t.ch = s.ch ∧ t.flow = s.flow) ∧
  (∀ (s : State) (win : Fin 7) (n : Fin 4) (value : Word) (l : Fin 16),
      s.writeOpen win 3 → (HST_LANE_CMD.FORCE n).of value.toNat = 1 →
      (HST_LANE_CMD.LANE n).of value.toNat = l.val → s.on (HST_LSTAT_L.FENCED n l) = true →
      ∃ t, exec (.laneForce win n value 15) s = .next t ∧ s.refusedAs t win (0x1600020 + 0x1000000 * n) 5 false ∧
        t.out = s.out ∧ t.ch = s.ch ∧ t.flow = s.flow)

/-- O60. (1) with SD_THR not 0, a window that shows an SNR below SD_THR sets SD; a setting sets SD_EV and raises source
0x26; one at SD_THR + 50 or above clears SD; one between keeps it, and so does one with VALID = 0.  (R153) -/
def Obligations.SignalDegradeFollowsSnr : Prop :=
  (∀ (s : State) (n : Fin 4),
      s.rd (LDS_LQ_CTRL.SD_THR n) ≠ 0 →
      ∃ t, exec (.linkQualityWindowEnd n) s = .next t ∧
        (t.rd (LDS_LQ_STAT.VALID n) = 1 → t.rd (LDS_LQ_SNR.SNR n) < s.rd (LDS_LQ_CTRL.SD_THR n) → t.rd (LDS_LQ_STAT.SD
          n) = 1) ∧
        (t.rd (LDS_LQ_STAT.SD n) = 1 → s.rd (LDS_LQ_STAT.SD n) = 0 → t.rd (LDS_LQ_STAT.SD_EV n) = 1 ∧ t.rd (IRQ_PEND
          (sourceOf n 0x26)) = 1) ∧
        (t.rd (LDS_LQ_STAT.VALID n) = 1 → s.rd (LDS_LQ_CTRL.SD_THR n) + 50 ≤ t.rd (LDS_LQ_SNR.SNR n) → t.rd
          (LDS_LQ_STAT.SD n) = 0) ∧
        (t.rd (LDS_LQ_STAT.VALID n) = 1 → s.rd (LDS_LQ_CTRL.SD_THR n) ≤ t.rd (LDS_LQ_SNR.SNR n) → t.rd (LDS_LQ_SNR.SNR
          n) < s.rd (LDS_LQ_CTRL.SD_THR n) + 50 → t.rd (LDS_LQ_STAT.SD n) = s.rd (LDS_LQ_STAT.SD n)) ∧
        (t.rd (LDS_LQ_STAT.VALID n) = 0 → t.rd (LDS_LQ_STAT.SD n) = s.rd (LDS_LQ_STAT.SD n)))
end

