-- ==== Sys2Proof/Laws/Memory.lean ====
section
/-! SUPPORT. The tables in canonical form: what their operations do to a look-up, and that each keeps the form. -/

namespace Sys2Proof.Machine

/-! ## Byte memories -/

theorem memWfFrom_mono {lo lo' : Nat} {m : List Host.Cell} (h : memWfFrom lo m = true) (hl : lo' ≤ lo) :
    memWfFrom lo' m = true := by
  cases m with
  | nil => rfl
  | cons p l => simp only [memWfFrom, Bool.and_eq_true, decide_eq_true_eq] at h ⊢; exact ⟨⟨by omega, h.1.2⟩, h.2⟩

theorem memErase_wf {lo a : Nat} {m : List Host.Cell} (h : memWfFrom lo m = true) : memWfFrom lo (memErase a m) = true := by
  induction m generalizing lo with
  | nil => rfl
  | cons p l ih =>
    simp only [memWfFrom, Bool.and_eq_true, decide_eq_true_eq] at h
    simp only [memErase]
    split
    · exact ih (memWfFrom_mono h.2 (by omega))
    · simp only [memWfFrom, Bool.and_eq_true, decide_eq_true_eq]; exact ⟨h.1, ih h.2⟩

theorem memErase_read_same (a : Nat) (m : List Host.Cell) : memRead a (memErase a m) = 0 := by
  induction m with
  | nil => rfl
  | cons p l ih => simp only [memErase]; split <;> simp_all [memRead]

theorem memErase_read_other {a k : Nat} (m : List Host.Cell) (h : k ≠ a) : memRead k (memErase a m) = memRead k m := by
  induction m with
  | nil => rfl
  | cons p l ih => simp only [memErase]; split <;> simp_all [memRead]; omega

/-- No listed address of the memory is `a`. -/
theorem memErase_absent (a : Nat) (m : List Host.Cell) : ∀ p ∈ memErase a m, p.1 ≠ a := by
  induction m with
  | nil => simp [memErase]
  | cons p l ih =>
    simp only [memErase]
    split
    · exact ih
    · intro q hq
      rcases List.mem_cons.1 hq with rfl | hq
      · assumption
      · exact ih q hq

theorem memInsert_wf {lo a : Nat} {b : Byte} {m : List Host.Cell} (h : memWfFrom lo m = true) (hb : b ≠ 0) (ha : lo ≤ a)
    (hm : ∀ p ∈ m, p.1 ≠ a) : memWfFrom lo (memInsert a b m) = true := by
  induction m generalizing lo with
  | nil => simpa [memInsert, memWfFrom, ha] using hb
  | cons p l ih =>
    simp only [memWfFrom, Bool.and_eq_true, decide_eq_true_eq] at h
    have hp : p.1 ≠ a := hm p (by simp)
    simp only [memInsert]
    split
    · simp only [memWfFrom, Bool.and_eq_true, decide_eq_true_eq]
      exact ⟨⟨ha, hb⟩, ⟨by omega, h.1.2⟩, h.2⟩
    · simp only [memWfFrom, Bool.and_eq_true, decide_eq_true_eq]
      exact ⟨h.1, ih h.2 (by omega) (fun q hq => hm q (by simp [hq]))⟩

theorem memInsert_read_same {a : Nat} {b : Byte} (m : List Host.Cell) (hm : ∀ p ∈ m, p.1 ≠ a) :
    memRead a (memInsert a b m) = b := by
  induction m with
  | nil => simp [memInsert, memRead]
  | cons p l ih =>
    have hp : p.1 ≠ a := hm p (by simp)
    simp only [memInsert]
    split
    · simp [memRead]
    · simp only [memRead, if_neg hp]; exact ih (fun q hq => hm q (by simp [hq]))

theorem memInsert_read_other {a k : Nat} {b : Byte} (m : List Host.Cell) (h : k ≠ a) :
    memRead k (memInsert a b m) = memRead k m := by
  induction m with
  | nil => simp [memInsert, memRead, h.symm]
  | cons p l ih => simp only [memInsert]; split <;> simp_all [memRead]; omega

theorem memWrite_wf {a : Nat} {b : Byte} {m : List Host.Cell} (h : memWf m = true) : memWf (memWrite a b m) = true := by
  unfold memWrite
  split
  · exact memErase_wf h
  · exact memInsert_wf (memErase_wf h) ‹_› (by omega) (memErase_absent a m)

@[simp] theorem memWrite_read_same (a : Nat) (b : Byte) (m : List Host.Cell) : memRead a (memWrite a b m) = b := by
  unfold memWrite
  split
  · rename_i h; rw [memErase_read_same, h]
  · exact memInsert_read_same _ (memErase_absent a m)

theorem memWrite_read_other {a k : Nat} (b : Byte) (m : List Host.Cell) (h : k ≠ a) :
    memRead k (memWrite a b m) = memRead k m := by
  unfold memWrite
  split
  · exact memErase_read_other m h
  · rw [memInsert_read_other _ h, memErase_read_other m h]

theorem memFill_wf {a : Nat} {l : List Byte} {m : List Host.Cell} (h : memWf m = true) : memWf (memFill a l m) = true := by
  induction l generalizing a m with
  | nil => exact h
  | cons b l ih => exact ih (memWrite_wf h)

/-- Bytes outside those filled read as before. -/
theorem memFill_read_outside {a k : Nat} (l : List Byte) (m : List Host.Cell) (h : k < a ∨ a + l.length ≤ k) :
    memRead k (memFill a l m) = memRead k m := by
  induction l generalizing a m with
  | nil => rfl
  | cons b l ih =>
    simp only [List.length_cons] at h
    simp only [memFill]
    rw [ih _ (by omega), memWrite_read_other _ _ (by omega)]

theorem memCopy_wf {src m : List Host.Cell} {a b k : Nat} (h : memWf m = true) : memWf (memCopy src a b k m) = true :=
  memFill_wf h

theorem memPut_wf {a k v : Nat} {m : List Host.Cell} (h : memWf m = true) : memWf (memPut a k v m) = true := memFill_wf h

theorem memFilter_wf {lo : Nat} {m : List Host.Cell} (p : Host.Cell → Bool) (h : memWfFrom lo m = true) :
    memWfFrom lo (m.filter p) = true := by
  induction m generalizing lo with
  | nil => rfl
  | cons c l ih =>
    simp only [memWfFrom, Bool.and_eq_true, decide_eq_true_eq] at h
    simp only [List.filter]
    split
    · simp only [memWfFrom, Bool.and_eq_true, decide_eq_true_eq]; exact ⟨h.1, ih h.2⟩
    · exact ih (memWfFrom_mono h.2 (by omega))

/-! ## Register store -/

theorem keysRise_filter {α : Type} {l : List (Nat × α)} (p : Nat × α → Bool) (h : keysRise l) : keysRise (l.filter p) :=
  List.Pairwise.sublist (List.Sublist.map _ List.filter_sublist) h

theorem dropKey_eq (k : Nat) (l : List (Nat × Nat)) : dropKey k l = l.filter (fun p => p.1 ≠ k) := by
  induction l with
  | nil => rfl
  | cons p l ih => simp only [dropKey]; split <;> simp_all

theorem insertKey_mem {k v : Nat} {l : List (Nat × Nat)} {q : Nat × Nat} (h : q ∈ insertKey k v l) : q = (k, v) ∨ q ∈ l := by
  induction l with
  | nil => simpa [insertKey] using h
  | cons p l ih =>
    simp only [insertKey] at h
    split at h
    · simpa using h
    · rcases List.mem_cons.1 h with h | h
      · simp [h]
      · rcases ih h with h | h <;> simp [h]

theorem insertKey_rise {k v : Nat} {l : List (Nat × Nat)} (h : keysRise l) (hk : ∀ p ∈ l, p.1 ≠ k) :
    keysRise (insertKey k v l) := by
  induction l with
  | nil => simp [insertKey, keysRise]
  | cons p l ih =>
    simp only [keysRise, List.map_cons, List.pairwise_cons, List.mem_map] at h
    simp only [insertKey]
    split
    · rename_i hlt
      simp only [keysRise, List.map_cons, List.pairwise_cons, List.mem_cons, List.mem_map]
      refine ⟨?_, ?_, h.2⟩
      · rintro x (rfl | ⟨q, hq, rfl⟩)
        · exact hlt
        · exact Nat.lt_trans hlt (h.1 _ ⟨q, hq, rfl⟩)
      · exact h.1
    · simp only [keysRise, List.map_cons, List.pairwise_cons, List.mem_map]
      refine ⟨?_, ih h.2 (fun q hq => hk q (by simp [hq]))⟩
      rintro x ⟨q, hq, rfl⟩
      have := hk p (by simp)
      rcases insertKey_mem hq with rfl | hq
      · simp at this ⊢; omega
      · exact h.1 _ ⟨q, hq, rfl⟩

theorem setKey_rise {k v d : Nat} {l : List (Nat × Nat)} (h : keysRise l) : keysRise (setKey k v d l) := by
  unfold setKey
  rw [dropKey_eq]
  split
  · exact keysRise_filter _ h
  · exact insertKey_rise (keysRise_filter _ h) (by simp)

@[simp] theorem look_dropKey_same (k : Nat) (l : List (Nat × Nat)) : look k (dropKey k l) = none := by
  induction l with
  | nil => rfl
  | cons p l ih => simp only [dropKey]; split <;> simp_all [look]

theorem look_dropKey_other {a k : Nat} (l : List (Nat × Nat)) (h : k ≠ a) : look k (dropKey a l) = look k l := by
  induction l with
  | nil => rfl
  | cons p l ih => simp only [dropKey]; split <;> simp_all [look]; omega

theorem look_insertKey_same {k v : Nat} (l : List (Nat × Nat)) (h : ∀ p ∈ l, p.1 ≠ k) : look k (insertKey k v l) = some v := by
  induction l with
  | nil => simp [insertKey, look]
  | cons p l ih =>
    have hp : p.1 ≠ k := h p (by simp)
    simp only [insertKey]
    split
    · simp [look]
    · simp only [look, if_neg hp]; exact ih (fun q hq => h q (by simp [hq]))

theorem look_insertKey_other {a k v : Nat} (l : List (Nat × Nat)) (h : k ≠ a) : look k (insertKey a v l) = look k l := by
  induction l with
  | nil => simp [insertKey, look, h.symm]
  | cons p l ih => simp only [insertKey]; split <;> simp_all [look]; omega

theorem look_setKey_same (k v d : Nat) (l : List (Nat × Nat)) : (look k (setKey k v d l)).getD d = v := by
  unfold setKey
  split
  · simp_all
  · rw [dropKey_eq, look_insertKey_same _ (by simp)]; rfl

theorem look_setKey_other {a k v d : Nat} (l : List (Nat × Nat)) (h : k ≠ a) : look k (setKey a v d l) = look k l := by
  unfold setKey
  split
  · exact look_dropKey_other l h
  · rw [look_insertKey_other _ h, look_dropKey_other l h]

/-! ## Fields -/

@[simp] theorem rd_put_same (f : Field) (v : Nat) (s : State) : (s.put f v).rd f = v % 2 ^ f.width := by
  have := look_setKey_same f.key (v % 2 ^ f.width) f.reset s.regs
  simp only [State.rd, State.put, this, Nat.mod_mod]

/-- A field reads within its width. -/
theorem rd_lt (s : State) (f : Field) : s.rd f < 2 ^ f.width := Nat.mod_lt _ (Nat.two_pow_pos _)

/-- A write of one field leaves every field under another key. -/
theorem rd_put_other {f g : Field} (v : Nat) (s : State) (h : g.key ≠ f.key) : (s.put f v).rd g = s.rd g := by
  simp only [State.rd, State.put, look_setKey_other _ h]

end Sys2Proof.Machine
end

