-- ==== Sys2Proof/Laws/State.lean ====
section
/-! SUPPORT. What the primitive updates leave alone, one lemma per field and update, so that no later proof unfolds a
record update. -/

namespace Sys2Proof.Machine

variable (s : State)

/-! ## put -/

@[simp] theorem put_pending (f : Field) (v : Nat) : (s.put f v).pending = s.pending := rfl
@[simp] theorem put_time (f : Field) (v : Nat) : (s.put f v).time = s.time := rfl
@[simp] theorem put_free (f : Field) (v : Nat) : (s.put f v).free = s.free := rfl
@[simp] theorem put_flow (f : Field) (v : Nat) : (s.put f v).flow = s.flow := rfl
@[simp] theorem put_pmcOn (f : Field) (v : Nat) : (s.put f v).pmcOn = s.pmcOn := rfl
@[simp] theorem put_ch (f : Field) (v : Nat) : (s.put f v).ch = s.ch := rfl
@[simp] theorem put_votes (f : Field) (v : Nat) : (s.put f v).votes = s.votes := rfl
@[simp] theorem put_out (f : Field) (v : Nat) : (s.put f v).out = s.out := rfl
@[simp] theorem put_monHist (f : Field) (v : Nat) : (s.put f v).monHist = s.monHist := rfl
@[simp] theorem put_monMean (f : Field) (v : Nat) : (s.put f v).monMean = s.monMean := rfl
@[simp] theorem put_taps (f : Field) (v : Nat) : (s.put f v).taps = s.taps := rfl
@[simp] theorem put_store (f : Field) (v : Nat) : (s.put f v).store = s.store := rfl
@[simp] theorem put_sets (f : Field) (v : Nat) : (s.put f v).sets = s.sets := rfl
@[simp] theorem put_applied (f : Field) (v : Nat) : (s.put f v).applied = s.applied := rfl
@[simp] theorem put_runSet (f : Field) (v : Nat) : (s.put f v).runSet = s.runSet := rfl
@[simp] theorem put_snaps (f : Field) (v : Nat) : (s.put f v).snaps = s.snaps := rfl
@[simp] theorem put_calWait (f : Field) (v : Nat) : (s.put f v).calWait = s.calWait := rfl
@[simp] theorem put_image (f : Field) (v : Nat) : (s.put f v).image = s.image := rfl
@[simp] theorem put_bootImage (f : Field) (v : Nat) : (s.put f v).bootImage = s.bootImage := rfl
@[simp] theorem put_plan (f : Field) (v : Nat) : (s.put f v).plan = s.plan := rfl
@[simp] theorem put_fw (f : Field) (v : Nat) : (s.put f v).fw = s.fw := rfl
@[simp] theorem put_mbx (f : Field) (v : Nat) : (s.put f v).mbx = s.mbx := rfl
@[simp] theorem put_sram (f : Field) (v : Nat) : (s.put f v).sram = s.sram := rfl
@[simp] theorem put_dma (f : Field) (v : Nat) : (s.put f v).dma = s.dma := rfl

/-! ## flag -/

@[simp] theorem flag_pending (f : Field) (b : Bool) : (s.flag f b).pending = s.pending := rfl
@[simp] theorem flag_time (f : Field) (b : Bool) : (s.flag f b).time = s.time := rfl
@[simp] theorem flag_free (f : Field) (b : Bool) : (s.flag f b).free = s.free := rfl
@[simp] theorem flag_flow (f : Field) (b : Bool) : (s.flag f b).flow = s.flow := rfl
@[simp] theorem flag_pmcOn (f : Field) (b : Bool) : (s.flag f b).pmcOn = s.pmcOn := rfl
@[simp] theorem flag_ch (f : Field) (b : Bool) : (s.flag f b).ch = s.ch := rfl
@[simp] theorem flag_votes (f : Field) (b : Bool) : (s.flag f b).votes = s.votes := rfl
@[simp] theorem flag_out (f : Field) (b : Bool) : (s.flag f b).out = s.out := rfl
@[simp] theorem flag_monHist (f : Field) (b : Bool) : (s.flag f b).monHist = s.monHist := rfl
@[simp] theorem flag_monMean (f : Field) (b : Bool) : (s.flag f b).monMean = s.monMean := rfl
@[simp] theorem flag_taps (f : Field) (b : Bool) : (s.flag f b).taps = s.taps := rfl
@[simp] theorem flag_store (f : Field) (b : Bool) : (s.flag f b).store = s.store := rfl
@[simp] theorem flag_sets (f : Field) (b : Bool) : (s.flag f b).sets = s.sets := rfl
@[simp] theorem flag_applied (f : Field) (b : Bool) : (s.flag f b).applied = s.applied := rfl
@[simp] theorem flag_runSet (f : Field) (b : Bool) : (s.flag f b).runSet = s.runSet := rfl
@[simp] theorem flag_snaps (f : Field) (b : Bool) : (s.flag f b).snaps = s.snaps := rfl
@[simp] theorem flag_calWait (f : Field) (b : Bool) : (s.flag f b).calWait = s.calWait := rfl
@[simp] theorem flag_image (f : Field) (b : Bool) : (s.flag f b).image = s.image := rfl
@[simp] theorem flag_bootImage (f : Field) (b : Bool) : (s.flag f b).bootImage = s.bootImage := rfl
@[simp] theorem flag_plan (f : Field) (b : Bool) : (s.flag f b).plan = s.plan := rfl
@[simp] theorem flag_fw (f : Field) (b : Bool) : (s.flag f b).fw = s.fw := rfl
@[simp] theorem flag_mbx (f : Field) (b : Bool) : (s.flag f b).mbx = s.mbx := rfl
@[simp] theorem flag_sram (f : Field) (b : Bool) : (s.flag f b).sram = s.sram := rfl
@[simp] theorem flag_dma (f : Field) (b : Bool) : (s.flag f b).dma = s.dma := rfl

/-! ## addSat -/

@[simp] theorem addSat_pending (f : Field) (c : Nat) : (s.addSat f c).pending = s.pending := rfl
@[simp] theorem addSat_time (f : Field) (c : Nat) : (s.addSat f c).time = s.time := rfl
@[simp] theorem addSat_free (f : Field) (c : Nat) : (s.addSat f c).free = s.free := rfl
@[simp] theorem addSat_flow (f : Field) (c : Nat) : (s.addSat f c).flow = s.flow := rfl
@[simp] theorem addSat_pmcOn (f : Field) (c : Nat) : (s.addSat f c).pmcOn = s.pmcOn := rfl
@[simp] theorem addSat_ch (f : Field) (c : Nat) : (s.addSat f c).ch = s.ch := rfl
@[simp] theorem addSat_votes (f : Field) (c : Nat) : (s.addSat f c).votes = s.votes := rfl
@[simp] theorem addSat_out (f : Field) (c : Nat) : (s.addSat f c).out = s.out := rfl
@[simp] theorem addSat_monHist (f : Field) (c : Nat) : (s.addSat f c).monHist = s.monHist := rfl
@[simp] theorem addSat_monMean (f : Field) (c : Nat) : (s.addSat f c).monMean = s.monMean := rfl
@[simp] theorem addSat_taps (f : Field) (c : Nat) : (s.addSat f c).taps = s.taps := rfl
@[simp] theorem addSat_store (f : Field) (c : Nat) : (s.addSat f c).store = s.store := rfl
@[simp] theorem addSat_sets (f : Field) (c : Nat) : (s.addSat f c).sets = s.sets := rfl
@[simp] theorem addSat_applied (f : Field) (c : Nat) : (s.addSat f c).applied = s.applied := rfl
@[simp] theorem addSat_runSet (f : Field) (c : Nat) : (s.addSat f c).runSet = s.runSet := rfl
@[simp] theorem addSat_snaps (f : Field) (c : Nat) : (s.addSat f c).snaps = s.snaps := rfl
@[simp] theorem addSat_calWait (f : Field) (c : Nat) : (s.addSat f c).calWait = s.calWait := rfl
@[simp] theorem addSat_image (f : Field) (c : Nat) : (s.addSat f c).image = s.image := rfl
@[simp] theorem addSat_bootImage (f : Field) (c : Nat) : (s.addSat f c).bootImage = s.bootImage := rfl
@[simp] theorem addSat_plan (f : Field) (c : Nat) : (s.addSat f c).plan = s.plan := rfl
@[simp] theorem addSat_fw (f : Field) (c : Nat) : (s.addSat f c).fw = s.fw := rfl
@[simp] theorem addSat_mbx (f : Field) (c : Nat) : (s.addSat f c).mbx = s.mbx := rfl
@[simp] theorem addSat_sram (f : Field) (c : Nat) : (s.addSat f c).sram = s.sram := rfl
@[simp] theorem addSat_dma (f : Field) (c : Nat) : (s.addSat f c).dma = s.dma := rfl

/-! ## bump -/

@[simp] theorem bump_pending (f : Field) : (s.bump f).pending = s.pending := rfl
@[simp] theorem bump_time (f : Field) : (s.bump f).time = s.time := rfl
@[simp] theorem bump_free (f : Field) : (s.bump f).free = s.free := rfl
@[simp] theorem bump_flow (f : Field) : (s.bump f).flow = s.flow := rfl
@[simp] theorem bump_pmcOn (f : Field) : (s.bump f).pmcOn = s.pmcOn := rfl
@[simp] theorem bump_ch (f : Field) : (s.bump f).ch = s.ch := rfl
@[simp] theorem bump_votes (f : Field) : (s.bump f).votes = s.votes := rfl
@[simp] theorem bump_out (f : Field) : (s.bump f).out = s.out := rfl
@[simp] theorem bump_monHist (f : Field) : (s.bump f).monHist = s.monHist := rfl
@[simp] theorem bump_monMean (f : Field) : (s.bump f).monMean = s.monMean := rfl
@[simp] theorem bump_taps (f : Field) : (s.bump f).taps = s.taps := rfl
@[simp] theorem bump_store (f : Field) : (s.bump f).store = s.store := rfl
@[simp] theorem bump_sets (f : Field) : (s.bump f).sets = s.sets := rfl
@[simp] theorem bump_applied (f : Field) : (s.bump f).applied = s.applied := rfl
@[simp] theorem bump_runSet (f : Field) : (s.bump f).runSet = s.runSet := rfl
@[simp] theorem bump_snaps (f : Field) : (s.bump f).snaps = s.snaps := rfl
@[simp] theorem bump_calWait (f : Field) : (s.bump f).calWait = s.calWait := rfl
@[simp] theorem bump_image (f : Field) : (s.bump f).image = s.image := rfl
@[simp] theorem bump_bootImage (f : Field) : (s.bump f).bootImage = s.bootImage := rfl
@[simp] theorem bump_plan (f : Field) : (s.bump f).plan = s.plan := rfl
@[simp] theorem bump_fw (f : Field) : (s.bump f).fw = s.fw := rfl
@[simp] theorem bump_mbx (f : Field) : (s.bump f).mbx = s.mbx := rfl
@[simp] theorem bump_sram (f : Field) : (s.bump f).sram = s.sram := rfl
@[simp] theorem bump_dma (f : Field) : (s.bump f).dma = s.dma := rfl

/-! ## addWrap -/

@[simp] theorem addWrap_pending (f : Field) (c : Nat) : (s.addWrap f c).pending = s.pending := rfl
@[simp] theorem addWrap_time (f : Field) (c : Nat) : (s.addWrap f c).time = s.time := rfl
@[simp] theorem addWrap_free (f : Field) (c : Nat) : (s.addWrap f c).free = s.free := rfl
@[simp] theorem addWrap_flow (f : Field) (c : Nat) : (s.addWrap f c).flow = s.flow := rfl
@[simp] theorem addWrap_pmcOn (f : Field) (c : Nat) : (s.addWrap f c).pmcOn = s.pmcOn := rfl
@[simp] theorem addWrap_ch (f : Field) (c : Nat) : (s.addWrap f c).ch = s.ch := rfl
@[simp] theorem addWrap_votes (f : Field) (c : Nat) : (s.addWrap f c).votes = s.votes := rfl
@[simp] theorem addWrap_out (f : Field) (c : Nat) : (s.addWrap f c).out = s.out := rfl
@[simp] theorem addWrap_monHist (f : Field) (c : Nat) : (s.addWrap f c).monHist = s.monHist := rfl
@[simp] theorem addWrap_monMean (f : Field) (c : Nat) : (s.addWrap f c).monMean = s.monMean := rfl
@[simp] theorem addWrap_taps (f : Field) (c : Nat) : (s.addWrap f c).taps = s.taps := rfl
@[simp] theorem addWrap_store (f : Field) (c : Nat) : (s.addWrap f c).store = s.store := rfl
@[simp] theorem addWrap_sets (f : Field) (c : Nat) : (s.addWrap f c).sets = s.sets := rfl
@[simp] theorem addWrap_applied (f : Field) (c : Nat) : (s.addWrap f c).applied = s.applied := rfl
@[simp] theorem addWrap_runSet (f : Field) (c : Nat) : (s.addWrap f c).runSet = s.runSet := rfl
@[simp] theorem addWrap_snaps (f : Field) (c : Nat) : (s.addWrap f c).snaps = s.snaps := rfl
@[simp] theorem addWrap_calWait (f : Field) (c : Nat) : (s.addWrap f c).calWait = s.calWait := rfl
@[simp] theorem addWrap_image (f : Field) (c : Nat) : (s.addWrap f c).image = s.image := rfl
@[simp] theorem addWrap_bootImage (f : Field) (c : Nat) : (s.addWrap f c).bootImage = s.bootImage := rfl
@[simp] theorem addWrap_plan (f : Field) (c : Nat) : (s.addWrap f c).plan = s.plan := rfl
@[simp] theorem addWrap_fw (f : Field) (c : Nat) : (s.addWrap f c).fw = s.fw := rfl
@[simp] theorem addWrap_mbx (f : Field) (c : Nat) : (s.addWrap f c).mbx = s.mbx := rfl
@[simp] theorem addWrap_sram (f : Field) (c : Nat) : (s.addWrap f c).sram = s.sram := rfl
@[simp] theorem addWrap_dma (f : Field) (c : Nat) : (s.addWrap f c).dma = s.dma := rfl

/-! ## putBit -/

@[simp] theorem putBit_pending (f : Field) (i : Nat) (b : Bool) : (s.putBit f i b).pending = s.pending := rfl
@[simp] theorem putBit_time (f : Field) (i : Nat) (b : Bool) : (s.putBit f i b).time = s.time := rfl
@[simp] theorem putBit_free (f : Field) (i : Nat) (b : Bool) : (s.putBit f i b).free = s.free := rfl
@[simp] theorem putBit_flow (f : Field) (i : Nat) (b : Bool) : (s.putBit f i b).flow = s.flow := rfl
@[simp] theorem putBit_pmcOn (f : Field) (i : Nat) (b : Bool) : (s.putBit f i b).pmcOn = s.pmcOn := rfl
@[simp] theorem putBit_ch (f : Field) (i : Nat) (b : Bool) : (s.putBit f i b).ch = s.ch := rfl
@[simp] theorem putBit_votes (f : Field) (i : Nat) (b : Bool) : (s.putBit f i b).votes = s.votes := rfl
@[simp] theorem putBit_out (f : Field) (i : Nat) (b : Bool) : (s.putBit f i b).out = s.out := rfl
@[simp] theorem putBit_monHist (f : Field) (i : Nat) (b : Bool) : (s.putBit f i b).monHist = s.monHist := rfl
@[simp] theorem putBit_monMean (f : Field) (i : Nat) (b : Bool) : (s.putBit f i b).monMean = s.monMean := rfl
@[simp] theorem putBit_taps (f : Field) (i : Nat) (b : Bool) : (s.putBit f i b).taps = s.taps := rfl
@[simp] theorem putBit_store (f : Field) (i : Nat) (b : Bool) : (s.putBit f i b).store = s.store := rfl
@[simp] theorem putBit_sets (f : Field) (i : Nat) (b : Bool) : (s.putBit f i b).sets = s.sets := rfl
@[simp] theorem putBit_applied (f : Field) (i : Nat) (b : Bool) : (s.putBit f i b).applied = s.applied := rfl
@[simp] theorem putBit_runSet (f : Field) (i : Nat) (b : Bool) : (s.putBit f i b).runSet = s.runSet := rfl
@[simp] theorem putBit_snaps (f : Field) (i : Nat) (b : Bool) : (s.putBit f i b).snaps = s.snaps := rfl
@[simp] theorem putBit_calWait (f : Field) (i : Nat) (b : Bool) : (s.putBit f i b).calWait = s.calWait := rfl
@[simp] theorem putBit_image (f : Field) (i : Nat) (b : Bool) : (s.putBit f i b).image = s.image := rfl
@[simp] theorem putBit_bootImage (f : Field) (i : Nat) (b : Bool) : (s.putBit f i b).bootImage = s.bootImage := rfl
@[simp] theorem putBit_plan (f : Field) (i : Nat) (b : Bool) : (s.putBit f i b).plan = s.plan := rfl
@[simp] theorem putBit_fw (f : Field) (i : Nat) (b : Bool) : (s.putBit f i b).fw = s.fw := rfl
@[simp] theorem putBit_mbx (f : Field) (i : Nat) (b : Bool) : (s.putBit f i b).mbx = s.mbx := rfl
@[simp] theorem putBit_sram (f : Field) (i : Nat) (b : Bool) : (s.putBit f i b).sram = s.sram := rfl
@[simp] theorem putBit_dma (f : Field) (i : Nat) (b : Bool) : (s.putBit f i b).dma = s.dma := rfl

/-! ## putS -/

@[simp] theorem putS_pending (f : Field) (i : Int) : (s.putS f i).pending = s.pending := rfl
@[simp] theorem putS_time (f : Field) (i : Int) : (s.putS f i).time = s.time := rfl
@[simp] theorem putS_free (f : Field) (i : Int) : (s.putS f i).free = s.free := rfl
@[simp] theorem putS_flow (f : Field) (i : Int) : (s.putS f i).flow = s.flow := rfl
@[simp] theorem putS_pmcOn (f : Field) (i : Int) : (s.putS f i).pmcOn = s.pmcOn := rfl
@[simp] theorem putS_ch (f : Field) (i : Int) : (s.putS f i).ch = s.ch := rfl
@[simp] theorem putS_votes (f : Field) (i : Int) : (s.putS f i).votes = s.votes := rfl
@[simp] theorem putS_out (f : Field) (i : Int) : (s.putS f i).out = s.out := rfl
@[simp] theorem putS_monHist (f : Field) (i : Int) : (s.putS f i).monHist = s.monHist := rfl
@[simp] theorem putS_monMean (f : Field) (i : Int) : (s.putS f i).monMean = s.monMean := rfl
@[simp] theorem putS_taps (f : Field) (i : Int) : (s.putS f i).taps = s.taps := rfl
@[simp] theorem putS_store (f : Field) (i : Int) : (s.putS f i).store = s.store := rfl
@[simp] theorem putS_sets (f : Field) (i : Int) : (s.putS f i).sets = s.sets := rfl
@[simp] theorem putS_applied (f : Field) (i : Int) : (s.putS f i).applied = s.applied := rfl
@[simp] theorem putS_runSet (f : Field) (i : Int) : (s.putS f i).runSet = s.runSet := rfl
@[simp] theorem putS_snaps (f : Field) (i : Int) : (s.putS f i).snaps = s.snaps := rfl
@[simp] theorem putS_calWait (f : Field) (i : Int) : (s.putS f i).calWait = s.calWait := rfl
@[simp] theorem putS_image (f : Field) (i : Int) : (s.putS f i).image = s.image := rfl
@[simp] theorem putS_bootImage (f : Field) (i : Int) : (s.putS f i).bootImage = s.bootImage := rfl
@[simp] theorem putS_plan (f : Field) (i : Int) : (s.putS f i).plan = s.plan := rfl
@[simp] theorem putS_fw (f : Field) (i : Int) : (s.putS f i).fw = s.fw := rfl
@[simp] theorem putS_mbx (f : Field) (i : Int) : (s.putS f i).mbx = s.mbx := rfl
@[simp] theorem putS_sram (f : Field) (i : Int) : (s.putS f i).sram = s.sram := rfl
@[simp] theorem putS_dma (f : Field) (i : Int) : (s.putS f i).dma = s.dma := rfl

/-! ## put64 -/

@[simp] theorem put64_pending (a v : Nat) : (s.put64 a v).pending = s.pending := rfl
@[simp] theorem put64_time (a v : Nat) : (s.put64 a v).time = s.time := rfl
@[simp] theorem put64_free (a v : Nat) : (s.put64 a v).free = s.free := rfl
@[simp] theorem put64_flow (a v : Nat) : (s.put64 a v).flow = s.flow := rfl
@[simp] theorem put64_pmcOn (a v : Nat) : (s.put64 a v).pmcOn = s.pmcOn := rfl
@[simp] theorem put64_ch (a v : Nat) : (s.put64 a v).ch = s.ch := rfl
@[simp] theorem put64_votes (a v : Nat) : (s.put64 a v).votes = s.votes := rfl
@[simp] theorem put64_out (a v : Nat) : (s.put64 a v).out = s.out := rfl
@[simp] theorem put64_monHist (a v : Nat) : (s.put64 a v).monHist = s.monHist := rfl
@[simp] theorem put64_monMean (a v : Nat) : (s.put64 a v).monMean = s.monMean := rfl
@[simp] theorem put64_taps (a v : Nat) : (s.put64 a v).taps = s.taps := rfl
@[simp] theorem put64_store (a v : Nat) : (s.put64 a v).store = s.store := rfl
@[simp] theorem put64_sets (a v : Nat) : (s.put64 a v).sets = s.sets := rfl
@[simp] theorem put64_applied (a v : Nat) : (s.put64 a v).applied = s.applied := rfl
@[simp] theorem put64_runSet (a v : Nat) : (s.put64 a v).runSet = s.runSet := rfl
@[simp] theorem put64_snaps (a v : Nat) : (s.put64 a v).snaps = s.snaps := rfl
@[simp] theorem put64_calWait (a v : Nat) : (s.put64 a v).calWait = s.calWait := rfl
@[simp] theorem put64_image (a v : Nat) : (s.put64 a v).image = s.image := rfl
@[simp] theorem put64_bootImage (a v : Nat) : (s.put64 a v).bootImage = s.bootImage := rfl
@[simp] theorem put64_plan (a v : Nat) : (s.put64 a v).plan = s.plan := rfl
@[simp] theorem put64_fw (a v : Nat) : (s.put64 a v).fw = s.fw := rfl
@[simp] theorem put64_mbx (a v : Nat) : (s.put64 a v).mbx = s.mbx := rfl
@[simp] theorem put64_sram (a v : Nat) : (s.put64 a v).sram = s.sram := rfl
@[simp] theorem put64_dma (a v : Nat) : (s.put64 a v).dma = s.dma := rfl

/-! ## raise -/

@[simp] theorem raise_pending (N : Nat) : (s.raise N).pending = s.pending := by simp [State.raise]
@[simp] theorem raise_time (N : Nat) : (s.raise N).time = s.time := by simp [State.raise]
@[simp] theorem raise_free (N : Nat) : (s.raise N).free = s.free := by simp [State.raise]
@[simp] theorem raise_flow (N : Nat) : (s.raise N).flow = s.flow := by simp [State.raise]
@[simp] theorem raise_pmcOn (N : Nat) : (s.raise N).pmcOn = s.pmcOn := by simp [State.raise]
@[simp] theorem raise_ch (N : Nat) : (s.raise N).ch = s.ch := by simp [State.raise]
@[simp] theorem raise_votes (N : Nat) : (s.raise N).votes = s.votes := by simp [State.raise]
@[simp] theorem raise_out (N : Nat) : (s.raise N).out = s.out := by simp [State.raise]
@[simp] theorem raise_monHist (N : Nat) : (s.raise N).monHist = s.monHist := by simp [State.raise]
@[simp] theorem raise_monMean (N : Nat) : (s.raise N).monMean = s.monMean := by simp [State.raise]
@[simp] theorem raise_taps (N : Nat) : (s.raise N).taps = s.taps := by simp [State.raise]
@[simp] theorem raise_store (N : Nat) : (s.raise N).store = s.store := by simp [State.raise]
@[simp] theorem raise_sets (N : Nat) : (s.raise N).sets = s.sets := by simp [State.raise]
@[simp] theorem raise_applied (N : Nat) : (s.raise N).applied = s.applied := by simp [State.raise]
@[simp] theorem raise_runSet (N : Nat) : (s.raise N).runSet = s.runSet := by simp [State.raise]
@[simp] theorem raise_snaps (N : Nat) : (s.raise N).snaps = s.snaps := by simp [State.raise]
@[simp] theorem raise_calWait (N : Nat) : (s.raise N).calWait = s.calWait := by simp [State.raise]
@[simp] theorem raise_image (N : Nat) : (s.raise N).image = s.image := by simp [State.raise]
@[simp] theorem raise_bootImage (N : Nat) : (s.raise N).bootImage = s.bootImage := by simp [State.raise]
@[simp] theorem raise_plan (N : Nat) : (s.raise N).plan = s.plan := by simp [State.raise]
@[simp] theorem raise_fw (N : Nat) : (s.raise N).fw = s.fw := by simp [State.raise]
@[simp] theorem raise_mbx (N : Nat) : (s.raise N).mbx = s.mbx := by simp [State.raise]
@[simp] theorem raise_sram (N : Nat) : (s.raise N).sram = s.sram := by simp [State.raise]
@[simp] theorem raise_dma (N : Nat) : (s.raise N).dma = s.dma := by simp [State.raise]

/-! ## raiseCh -/

@[simp] theorem raiseCh_pending (n L : Nat) : (s.raiseCh n L).pending = s.pending := raise_pending _ _
@[simp] theorem raiseCh_time (n L : Nat) : (s.raiseCh n L).time = s.time := raise_time _ _
@[simp] theorem raiseCh_free (n L : Nat) : (s.raiseCh n L).free = s.free := raise_free _ _
@[simp] theorem raiseCh_flow (n L : Nat) : (s.raiseCh n L).flow = s.flow := raise_flow _ _
@[simp] theorem raiseCh_pmcOn (n L : Nat) : (s.raiseCh n L).pmcOn = s.pmcOn := raise_pmcOn _ _
@[simp] theorem raiseCh_ch (n L : Nat) : (s.raiseCh n L).ch = s.ch := raise_ch _ _
@[simp] theorem raiseCh_votes (n L : Nat) : (s.raiseCh n L).votes = s.votes := raise_votes _ _
@[simp] theorem raiseCh_out (n L : Nat) : (s.raiseCh n L).out = s.out := raise_out _ _
@[simp] theorem raiseCh_monHist (n L : Nat) : (s.raiseCh n L).monHist = s.monHist := raise_monHist _ _
@[simp] theorem raiseCh_monMean (n L : Nat) : (s.raiseCh n L).monMean = s.monMean := raise_monMean _ _
@[simp] theorem raiseCh_taps (n L : Nat) : (s.raiseCh n L).taps = s.taps := raise_taps _ _
@[simp] theorem raiseCh_store (n L : Nat) : (s.raiseCh n L).store = s.store := raise_store _ _
@[simp] theorem raiseCh_sets (n L : Nat) : (s.raiseCh n L).sets = s.sets := raise_sets _ _
@[simp] theorem raiseCh_applied (n L : Nat) : (s.raiseCh n L).applied = s.applied := raise_applied _ _
@[simp] theorem raiseCh_runSet (n L : Nat) : (s.raiseCh n L).runSet = s.runSet := raise_runSet _ _
@[simp] theorem raiseCh_snaps (n L : Nat) : (s.raiseCh n L).snaps = s.snaps := raise_snaps _ _
@[simp] theorem raiseCh_calWait (n L : Nat) : (s.raiseCh n L).calWait = s.calWait := raise_calWait _ _
@[simp] theorem raiseCh_image (n L : Nat) : (s.raiseCh n L).image = s.image := raise_image _ _
@[simp] theorem raiseCh_bootImage (n L : Nat) : (s.raiseCh n L).bootImage = s.bootImage := raise_bootImage _ _
@[simp] theorem raiseCh_plan (n L : Nat) : (s.raiseCh n L).plan = s.plan := raise_plan _ _
@[simp] theorem raiseCh_fw (n L : Nat) : (s.raiseCh n L).fw = s.fw := raise_fw _ _
@[simp] theorem raiseCh_mbx (n L : Nat) : (s.raiseCh n L).mbx = s.mbx := raise_mbx _ _
@[simp] theorem raiseCh_sram (n L : Nat) : (s.raiseCh n L).sram = s.sram := raise_sram _ _
@[simp] theorem raiseCh_dma (n L : Nat) : (s.raiseCh n L).dma = s.dma := raise_dma _ _

/-! ## emit -/

@[simp] theorem emit_regs (o : Out) : (s.emit o).regs = s.regs := rfl
@[simp] theorem emit_pending (o : Out) : (s.emit o).pending = s.pending := rfl
@[simp] theorem emit_time (o : Out) : (s.emit o).time = s.time := rfl
@[simp] theorem emit_free (o : Out) : (s.emit o).free = s.free := rfl
@[simp] theorem emit_flow (o : Out) : (s.emit o).flow = s.flow := rfl
@[simp] theorem emit_pmcOn (o : Out) : (s.emit o).pmcOn = s.pmcOn := rfl
@[simp] theorem emit_ch (o : Out) : (s.emit o).ch = s.ch := rfl
@[simp] theorem emit_votes (o : Out) : (s.emit o).votes = s.votes := rfl
@[simp] theorem emit_monHist (o : Out) : (s.emit o).monHist = s.monHist := rfl
@[simp] theorem emit_monMean (o : Out) : (s.emit o).monMean = s.monMean := rfl
@[simp] theorem emit_taps (o : Out) : (s.emit o).taps = s.taps := rfl
@[simp] theorem emit_store (o : Out) : (s.emit o).store = s.store := rfl
@[simp] theorem emit_sets (o : Out) : (s.emit o).sets = s.sets := rfl
@[simp] theorem emit_applied (o : Out) : (s.emit o).applied = s.applied := rfl
@[simp] theorem emit_runSet (o : Out) : (s.emit o).runSet = s.runSet := rfl
@[simp] theorem emit_snaps (o : Out) : (s.emit o).snaps = s.snaps := rfl
@[simp] theorem emit_calWait (o : Out) : (s.emit o).calWait = s.calWait := rfl
@[simp] theorem emit_image (o : Out) : (s.emit o).image = s.image := rfl
@[simp] theorem emit_bootImage (o : Out) : (s.emit o).bootImage = s.bootImage := rfl
@[simp] theorem emit_plan (o : Out) : (s.emit o).plan = s.plan := rfl
@[simp] theorem emit_fw (o : Out) : (s.emit o).fw = s.fw := rfl
@[simp] theorem emit_mbx (o : Out) : (s.emit o).mbx = s.mbx := rfl
@[simp] theorem emit_sram (o : Out) : (s.emit o).sram = s.sram := rfl
@[simp] theorem emit_dma (o : Out) : (s.emit o).dma = s.dma := rfl

/-! ## onFlow -/

@[simp] theorem onFlow_regs (n : Nat) (f : Flow → Flow) : (s.onFlow n f).regs = s.regs := rfl
@[simp] theorem onFlow_pending (n : Nat) (f : Flow → Flow) : (s.onFlow n f).pending = s.pending := rfl
@[simp] theorem onFlow_time (n : Nat) (f : Flow → Flow) : (s.onFlow n f).time = s.time := rfl
@[simp] theorem onFlow_free (n : Nat) (f : Flow → Flow) : (s.onFlow n f).free = s.free := rfl
@[simp] theorem onFlow_pmcOn (n : Nat) (f : Flow → Flow) : (s.onFlow n f).pmcOn = s.pmcOn := rfl
@[simp] theorem onFlow_ch (n : Nat) (f : Flow → Flow) : (s.onFlow n f).ch = s.ch := rfl
@[simp] theorem onFlow_votes (n : Nat) (f : Flow → Flow) : (s.onFlow n f).votes = s.votes := rfl
@[simp] theorem onFlow_out (n : Nat) (f : Flow → Flow) : (s.onFlow n f).out = s.out := rfl
@[simp] theorem onFlow_monHist (n : Nat) (f : Flow → Flow) : (s.onFlow n f).monHist = s.monHist := rfl
@[simp] theorem onFlow_monMean (n : Nat) (f : Flow → Flow) : (s.onFlow n f).monMean = s.monMean := rfl
@[simp] theorem onFlow_taps (n : Nat) (f : Flow → Flow) : (s.onFlow n f).taps = s.taps := rfl
@[simp] theorem onFlow_store (n : Nat) (f : Flow → Flow) : (s.onFlow n f).store = s.store := rfl
@[simp] theorem onFlow_sets (n : Nat) (f : Flow → Flow) : (s.onFlow n f).sets = s.sets := rfl
@[simp] theorem onFlow_applied (n : Nat) (f : Flow → Flow) : (s.onFlow n f).applied = s.applied := rfl
@[simp] theorem onFlow_runSet (n : Nat) (f : Flow → Flow) : (s.onFlow n f).runSet = s.runSet := rfl
@[simp] theorem onFlow_snaps (n : Nat) (f : Flow → Flow) : (s.onFlow n f).snaps = s.snaps := rfl
@[simp] theorem onFlow_calWait (n : Nat) (f : Flow → Flow) : (s.onFlow n f).calWait = s.calWait := rfl
@[simp] theorem onFlow_image (n : Nat) (f : Flow → Flow) : (s.onFlow n f).image = s.image := rfl
@[simp] theorem onFlow_bootImage (n : Nat) (f : Flow → Flow) : (s.onFlow n f).bootImage = s.bootImage := rfl
@[simp] theorem onFlow_plan (n : Nat) (f : Flow → Flow) : (s.onFlow n f).plan = s.plan := rfl
@[simp] theorem onFlow_fw (n : Nat) (f : Flow → Flow) : (s.onFlow n f).fw = s.fw := rfl
@[simp] theorem onFlow_mbx (n : Nat) (f : Flow → Flow) : (s.onFlow n f).mbx = s.mbx := rfl
@[simp] theorem onFlow_sram (n : Nat) (f : Flow → Flow) : (s.onFlow n f).sram = s.sram := rfl
@[simp] theorem onFlow_dma (n : Nat) (f : Flow → Flow) : (s.onFlow n f).dma = s.dma := rfl

/-! ## onChan -/

@[simp] theorem onChan_regs (n : Nat) (f : Chan → Chan) : (s.onChan n f).regs = s.regs := rfl
@[simp] theorem onChan_pending (n : Nat) (f : Chan → Chan) : (s.onChan n f).pending = s.pending := rfl
@[simp] theorem onChan_time (n : Nat) (f : Chan → Chan) : (s.onChan n f).time = s.time := rfl
@[simp] theorem onChan_free (n : Nat) (f : Chan → Chan) : (s.onChan n f).free = s.free := rfl
@[simp] theorem onChan_flow (n : Nat) (f : Chan → Chan) : (s.onChan n f).flow = s.flow := rfl
@[simp] theorem onChan_pmcOn (n : Nat) (f : Chan → Chan) : (s.onChan n f).pmcOn = s.pmcOn := rfl
@[simp] theorem onChan_votes (n : Nat) (f : Chan → Chan) : (s.onChan n f).votes = s.votes := rfl
@[simp] theorem onChan_out (n : Nat) (f : Chan → Chan) : (s.onChan n f).out = s.out := rfl
@[simp] theorem onChan_monHist (n : Nat) (f : Chan → Chan) : (s.onChan n f).monHist = s.monHist := rfl
@[simp] theorem onChan_monMean (n : Nat) (f : Chan → Chan) : (s.onChan n f).monMean = s.monMean := rfl
@[simp] theorem onChan_taps (n : Nat) (f : Chan → Chan) : (s.onChan n f).taps = s.taps := rfl
@[simp] theorem onChan_store (n : Nat) (f : Chan → Chan) : (s.onChan n f).store = s.store := rfl
@[simp] theorem onChan_sets (n : Nat) (f : Chan → Chan) : (s.onChan n f).sets = s.sets := rfl
@[simp] theorem onChan_applied (n : Nat) (f : Chan → Chan) : (s.onChan n f).applied = s.applied := rfl
@[simp] theorem onChan_runSet (n : Nat) (f : Chan → Chan) : (s.onChan n f).runSet = s.runSet := rfl
@[simp] theorem onChan_snaps (n : Nat) (f : Chan → Chan) : (s.onChan n f).snaps = s.snaps := rfl
@[simp] theorem onChan_calWait (n : Nat) (f : Chan → Chan) : (s.onChan n f).calWait = s.calWait := rfl
@[simp] theorem onChan_image (n : Nat) (f : Chan → Chan) : (s.onChan n f).image = s.image := rfl
@[simp] theorem onChan_bootImage (n : Nat) (f : Chan → Chan) : (s.onChan n f).bootImage = s.bootImage := rfl
@[simp] theorem onChan_plan (n : Nat) (f : Chan → Chan) : (s.onChan n f).plan = s.plan := rfl
@[simp] theorem onChan_fw (n : Nat) (f : Chan → Chan) : (s.onChan n f).fw = s.fw := rfl
@[simp] theorem onChan_mbx (n : Nat) (f : Chan → Chan) : (s.onChan n f).mbx = s.mbx := rfl
@[simp] theorem onChan_sram (n : Nat) (f : Chan → Chan) : (s.onChan n f).sram = s.sram := rfl
@[simp] theorem onChan_dma (n : Nat) (f : Chan → Chan) : (s.onChan n f).dma = s.dma := rfl

/-! ## setDma -/

@[simp] theorem setDma_regs (q : Nat) (d : DmaRun) : (s.setDma q d).regs = s.regs := rfl
@[simp] theorem setDma_pending (q : Nat) (d : DmaRun) : (s.setDma q d).pending = s.pending := rfl
@[simp] theorem setDma_time (q : Nat) (d : DmaRun) : (s.setDma q d).time = s.time := rfl
@[simp] theorem setDma_free (q : Nat) (d : DmaRun) : (s.setDma q d).free = s.free := rfl
@[simp] theorem setDma_flow (q : Nat) (d : DmaRun) : (s.setDma q d).flow = s.flow := rfl
@[simp] theorem setDma_pmcOn (q : Nat) (d : DmaRun) : (s.setDma q d).pmcOn = s.pmcOn := rfl
@[simp] theorem setDma_ch (q : Nat) (d : DmaRun) : (s.setDma q d).ch = s.ch := rfl
@[simp] theorem setDma_votes (q : Nat) (d : DmaRun) : (s.setDma q d).votes = s.votes := rfl
@[simp] theorem setDma_out (q : Nat) (d : DmaRun) : (s.setDma q d).out = s.out := rfl
@[simp] theorem setDma_monHist (q : Nat) (d : DmaRun) : (s.setDma q d).monHist = s.monHist := rfl
@[simp] theorem setDma_monMean (q : Nat) (d : DmaRun) : (s.setDma q d).monMean = s.monMean := rfl
@[simp] theorem setDma_taps (q : Nat) (d : DmaRun) : (s.setDma q d).taps = s.taps := rfl
@[simp] theorem setDma_store (q : Nat) (d : DmaRun) : (s.setDma q d).store = s.store := rfl
@[simp] theorem setDma_sets (q : Nat) (d : DmaRun) : (s.setDma q d).sets = s.sets := rfl
@[simp] theorem setDma_applied (q : Nat) (d : DmaRun) : (s.setDma q d).applied = s.applied := rfl
@[simp] theorem setDma_runSet (q : Nat) (d : DmaRun) : (s.setDma q d).runSet = s.runSet := rfl
@[simp] theorem setDma_snaps (q : Nat) (d : DmaRun) : (s.setDma q d).snaps = s.snaps := rfl
@[simp] theorem setDma_calWait (q : Nat) (d : DmaRun) : (s.setDma q d).calWait = s.calWait := rfl
@[simp] theorem setDma_image (q : Nat) (d : DmaRun) : (s.setDma q d).image = s.image := rfl
@[simp] theorem setDma_bootImage (q : Nat) (d : DmaRun) : (s.setDma q d).bootImage = s.bootImage := rfl
@[simp] theorem setDma_plan (q : Nat) (d : DmaRun) : (s.setDma q d).plan = s.plan := rfl
@[simp] theorem setDma_fw (q : Nat) (d : DmaRun) : (s.setDma q d).fw = s.fw := rfl
@[simp] theorem setDma_mbx (q : Nat) (d : DmaRun) : (s.setDma q d).mbx = s.mbx := rfl
@[simp] theorem setDma_sram (q : Nat) (d : DmaRun) : (s.setDma q d).sram = s.sram := rfl

/-! ## onTx -/

@[simp] theorem onTx_regs (n : Nat) (f : LineTx → LineTx) : (s.onTx n f).regs = s.regs := rfl
@[simp] theorem onTx_pending (n : Nat) (f : LineTx → LineTx) : (s.onTx n f).pending = s.pending := rfl
@[simp] theorem onTx_time (n : Nat) (f : LineTx → LineTx) : (s.onTx n f).time = s.time := rfl
@[simp] theorem onTx_free (n : Nat) (f : LineTx → LineTx) : (s.onTx n f).free = s.free := rfl
@[simp] theorem onTx_flow (n : Nat) (f : LineTx → LineTx) : (s.onTx n f).flow = s.flow := rfl
@[simp] theorem onTx_pmcOn (n : Nat) (f : LineTx → LineTx) : (s.onTx n f).pmcOn = s.pmcOn := rfl
@[simp] theorem onTx_votes (n : Nat) (f : LineTx → LineTx) : (s.onTx n f).votes = s.votes := rfl
@[simp] theorem onTx_out (n : Nat) (f : LineTx → LineTx) : (s.onTx n f).out = s.out := rfl
@[simp] theorem onTx_monHist (n : Nat) (f : LineTx → LineTx) : (s.onTx n f).monHist = s.monHist := rfl
@[simp] theorem onTx_monMean (n : Nat) (f : LineTx → LineTx) : (s.onTx n f).monMean = s.monMean := rfl
@[simp] theorem onTx_taps (n : Nat) (f : LineTx → LineTx) : (s.onTx n f).taps = s.taps := rfl
@[simp] theorem onTx_store (n : Nat) (f : LineTx → LineTx) : (s.onTx n f).store = s.store := rfl
@[simp] theorem onTx_sets (n : Nat) (f : LineTx → LineTx) : (s.onTx n f).sets = s.sets := rfl
@[simp] theorem onTx_applied (n : Nat) (f : LineTx → LineTx) : (s.onTx n f).applied = s.applied := rfl
@[simp] theorem onTx_runSet (n : Nat) (f : LineTx → LineTx) : (s.onTx n f).runSet = s.runSet := rfl
@[simp] theorem onTx_snaps (n : Nat) (f : LineTx → LineTx) : (s.onTx n f).snaps = s.snaps := rfl
@[simp] theorem onTx_calWait (n : Nat) (f : LineTx → LineTx) : (s.onTx n f).calWait = s.calWait := rfl
@[simp] theorem onTx_image (n : Nat) (f : LineTx → LineTx) : (s.onTx n f).image = s.image := rfl
@[simp] theorem onTx_bootImage (n : Nat) (f : LineTx → LineTx) : (s.onTx n f).bootImage = s.bootImage := rfl
@[simp] theorem onTx_plan (n : Nat) (f : LineTx → LineTx) : (s.onTx n f).plan = s.plan := rfl
@[simp] theorem onTx_fw (n : Nat) (f : LineTx → LineTx) : (s.onTx n f).fw = s.fw := rfl
@[simp] theorem onTx_mbx (n : Nat) (f : LineTx → LineTx) : (s.onTx n f).mbx = s.mbx := rfl
@[simp] theorem onTx_sram (n : Nat) (f : LineTx → LineTx) : (s.onTx n f).sram = s.sram := rfl
@[simp] theorem onTx_dma (n : Nat) (f : LineTx → LineTx) : (s.onTx n f).dma = s.dma := rfl

/-! ## onRx -/

@[simp] theorem onRx_regs (n : Nat) (f : LineRx → LineRx) : (s.onRx n f).regs = s.regs := rfl
@[simp] theorem onRx_pending (n : Nat) (f : LineRx → LineRx) : (s.onRx n f).pending = s.pending := rfl
@[simp] theorem onRx_time (n : Nat) (f : LineRx → LineRx) : (s.onRx n f).time = s.time := rfl
@[simp] theorem onRx_free (n : Nat) (f : LineRx → LineRx) : (s.onRx n f).free = s.free := rfl
@[simp] theorem onRx_flow (n : Nat) (f : LineRx → LineRx) : (s.onRx n f).flow = s.flow := rfl
@[simp] theorem onRx_pmcOn (n : Nat) (f : LineRx → LineRx) : (s.onRx n f).pmcOn = s.pmcOn := rfl
@[simp] theorem onRx_votes (n : Nat) (f : LineRx → LineRx) : (s.onRx n f).votes = s.votes := rfl
@[simp] theorem onRx_out (n : Nat) (f : LineRx → LineRx) : (s.onRx n f).out = s.out := rfl
@[simp] theorem onRx_monHist (n : Nat) (f : LineRx → LineRx) : (s.onRx n f).monHist = s.monHist := rfl
@[simp] theorem onRx_monMean (n : Nat) (f : LineRx → LineRx) : (s.onRx n f).monMean = s.monMean := rfl
@[simp] theorem onRx_taps (n : Nat) (f : LineRx → LineRx) : (s.onRx n f).taps = s.taps := rfl
@[simp] theorem onRx_store (n : Nat) (f : LineRx → LineRx) : (s.onRx n f).store = s.store := rfl
@[simp] theorem onRx_sets (n : Nat) (f : LineRx → LineRx) : (s.onRx n f).sets = s.sets := rfl
@[simp] theorem onRx_applied (n : Nat) (f : LineRx → LineRx) : (s.onRx n f).applied = s.applied := rfl
@[simp] theorem onRx_runSet (n : Nat) (f : LineRx → LineRx) : (s.onRx n f).runSet = s.runSet := rfl
@[simp] theorem onRx_snaps (n : Nat) (f : LineRx → LineRx) : (s.onRx n f).snaps = s.snaps := rfl
@[simp] theorem onRx_calWait (n : Nat) (f : LineRx → LineRx) : (s.onRx n f).calWait = s.calWait := rfl
@[simp] theorem onRx_image (n : Nat) (f : LineRx → LineRx) : (s.onRx n f).image = s.image := rfl
@[simp] theorem onRx_bootImage (n : Nat) (f : LineRx → LineRx) : (s.onRx n f).bootImage = s.bootImage := rfl
@[simp] theorem onRx_plan (n : Nat) (f : LineRx → LineRx) : (s.onRx n f).plan = s.plan := rfl
@[simp] theorem onRx_fw (n : Nat) (f : LineRx → LineRx) : (s.onRx n f).fw = s.fw := rfl
@[simp] theorem onRx_mbx (n : Nat) (f : LineRx → LineRx) : (s.onRx n f).mbx = s.mbx := rfl
@[simp] theorem onRx_sram (n : Nat) (f : LineRx → LineRx) : (s.onRx n f).sram = s.sram := rfl
@[simp] theorem onRx_dma (n : Nat) (f : LineRx → LineRx) : (s.onRx n f).dma = s.dma := rfl

/-! ## onDsp -/

@[simp] theorem onDsp_regs (n : Nat) (f : RxDsp → RxDsp) : (s.onDsp n f).regs = s.regs := rfl
@[simp] theorem onDsp_pending (n : Nat) (f : RxDsp → RxDsp) : (s.onDsp n f).pending = s.pending := rfl
@[simp] theorem onDsp_time (n : Nat) (f : RxDsp → RxDsp) : (s.onDsp n f).time = s.time := rfl
@[simp] theorem onDsp_free (n : Nat) (f : RxDsp → RxDsp) : (s.onDsp n f).free = s.free := rfl
@[simp] theorem onDsp_flow (n : Nat) (f : RxDsp → RxDsp) : (s.onDsp n f).flow = s.flow := rfl
@[simp] theorem onDsp_pmcOn (n : Nat) (f : RxDsp → RxDsp) : (s.onDsp n f).pmcOn = s.pmcOn := rfl
@[simp] theorem onDsp_votes (n : Nat) (f : RxDsp → RxDsp) : (s.onDsp n f).votes = s.votes := rfl
@[simp] theorem onDsp_out (n : Nat) (f : RxDsp → RxDsp) : (s.onDsp n f).out = s.out := rfl
@[simp] theorem onDsp_monHist (n : Nat) (f : RxDsp → RxDsp) : (s.onDsp n f).monHist = s.monHist := rfl
@[simp] theorem onDsp_monMean (n : Nat) (f : RxDsp → RxDsp) : (s.onDsp n f).monMean = s.monMean := rfl
@[simp] theorem onDsp_taps (n : Nat) (f : RxDsp → RxDsp) : (s.onDsp n f).taps = s.taps := rfl
@[simp] theorem onDsp_store (n : Nat) (f : RxDsp → RxDsp) : (s.onDsp n f).store = s.store := rfl
@[simp] theorem onDsp_sets (n : Nat) (f : RxDsp → RxDsp) : (s.onDsp n f).sets = s.sets := rfl
@[simp] theorem onDsp_applied (n : Nat) (f : RxDsp → RxDsp) : (s.onDsp n f).applied = s.applied := rfl
@[simp] theorem onDsp_runSet (n : Nat) (f : RxDsp → RxDsp) : (s.onDsp n f).runSet = s.runSet := rfl
@[simp] theorem onDsp_snaps (n : Nat) (f : RxDsp → RxDsp) : (s.onDsp n f).snaps = s.snaps := rfl
@[simp] theorem onDsp_calWait (n : Nat) (f : RxDsp → RxDsp) : (s.onDsp n f).calWait = s.calWait := rfl
@[simp] theorem onDsp_image (n : Nat) (f : RxDsp → RxDsp) : (s.onDsp n f).image = s.image := rfl
@[simp] theorem onDsp_bootImage (n : Nat) (f : RxDsp → RxDsp) : (s.onDsp n f).bootImage = s.bootImage := rfl
@[simp] theorem onDsp_plan (n : Nat) (f : RxDsp → RxDsp) : (s.onDsp n f).plan = s.plan := rfl
@[simp] theorem onDsp_fw (n : Nat) (f : RxDsp → RxDsp) : (s.onDsp n f).fw = s.fw := rfl
@[simp] theorem onDsp_mbx (n : Nat) (f : RxDsp → RxDsp) : (s.onDsp n f).mbx = s.mbx := rfl
@[simp] theorem onDsp_sram (n : Nat) (f : RxDsp → RxDsp) : (s.onDsp n f).sram = s.sram := rfl
@[simp] theorem onDsp_dma (n : Nat) (f : RxDsp → RxDsp) : (s.onDsp n f).dma = s.dma := rfl

/-! ## What they set -/

@[simp] theorem emit_out (o : Out) : (s.emit o).out = o :: s.out := rfl
@[simp] theorem onFlow_flow (n : Nat) (f : Flow → Flow) : (s.onFlow n f).flow = s.flow.set n (f (s.flow.get n)) := rfl
@[simp] theorem onChan_ch (n : Nat) (f : Chan → Chan) : (s.onChan n f).ch = s.ch.set n (f (s.ch.get n)) := rfl
@[simp] theorem setDma_dma (q : Nat) (d : DmaRun) : (s.setDma q d).dma = setKeyed q d s.dma := rfl
@[simp] theorem draw_fst : s.draw.1 = Config.freeValue s.free := rfl
@[simp] theorem draw_regs : s.draw.2.regs = s.regs := rfl

/-! ## Reading a field past an update of a table -/

@[simp] theorem emit_rd (o : Out) (f : Field) : (s.emit o).rd f = s.rd f := rfl
@[simp] theorem onFlow_rd (n : Nat) (g : Flow → Flow) (f : Field) : (s.onFlow n g).rd f = s.rd f := rfl
@[simp] theorem onChan_rd (n : Nat) (g : Chan → Chan) (f : Field) : (s.onChan n g).rd f = s.rd f := rfl
@[simp] theorem setDma_rd (q : Nat) (d : DmaRun) (f : Field) : (s.setDma q d).rd f = s.rd f := rfl
@[simp] theorem draw_rd (f : Field) : s.draw.2.rd f = s.rd f := rfl
@[simp] theorem onTx_rd (n : Nat) (g : LineTx → LineTx) (f : Field) : (s.onTx n g).rd f = s.rd f := rfl
@[simp] theorem onRx_rd (n : Nat) (g : LineRx → LineRx) (f : Field) : (s.onRx n g).rd f = s.rd f := rfl
@[simp] theorem onDsp_rd (n : Nat) (g : RxDsp → RxDsp) (f : Field) : (s.onDsp n g).rd f = s.rd f := rfl
@[simp] theorem when_true (f : State → State) : s.when true f = f s := rfl
@[simp] theorem when_false (f : State → State) : s.when false f = s := rfl

/-! ## Quads -/

theorem quad_get_set_same {α : Type} (q : Quad α) (n : Nat) (a : α) : (q.set n a).get n = a := by
  match n with
  | 0 | 1 | 2 => rfl
  | _ + 3 => rfl

theorem quad_get_set_other {α : Type} (q : Quad α) {n m : Nat} (a : α) (hn : n < 4) (hm : m < 4) (h : n ≠ m) :
    (q.set n a).get m = q.get m := by
  match n, hn with
  | 0, _ | 1, _ | 2, _ | 3, _ => match m, hm with
    | 0, _ | 1, _ | 2, _ | 3, _ => first | rfl | exact absurd rfl h

/-! ## The records of one channel -/

@[simp] theorem onChan_chan (n : Nat) (f : Chan → Chan) : (s.onChan n f).chan n = f (s.chan n) := quad_get_set_same ..

theorem onChan_chan_other {n m : Nat} (f : Chan → Chan) (hn : n < 4) (hm : m < 4) (h : n ≠ m) :
    (s.onChan n f).chan m = s.chan m := quad_get_set_other _ _ hn hm h

@[simp] theorem onTx_chan (n : Nat) (f : LineTx → LineTx) :
    (s.onTx n f).chan n = { s.chan n with tx := f (s.chan n).tx } := quad_get_set_same ..

@[simp] theorem onRx_chan (n : Nat) (f : LineRx → LineRx) :
    (s.onRx n f).chan n = { s.chan n with rx := f (s.chan n).rx } := quad_get_set_same ..

@[simp] theorem onDsp_chan (n : Nat) (f : RxDsp → RxDsp) :
    (s.onDsp n f).chan n = { s.chan n with dsp := f (s.chan n).dsp } := quad_get_set_same ..

end Sys2Proof.Machine
end

