-- ==== Sys2Proof/Laws/Fields.lean ====
section
/-! SUPPORT. What the shared operations do to the fields: relations between the fields of two states, raises and
performance counts. -/

namespace Sys2Proof.Machine

/-! ## The relations -/

theorem SameFields.refl (l : List Field) (s : State) : SameFields l s s := fun _ _ => rfl

theorem SameFields.trans {l : List Field} {s t u : State} (h : SameFields l s t) (k : SameFields l t u) :
    SameFields l s u := fun f d => (k f d).trans (h f d)

theorem SameFields.mono {l m : List Field} {s t : State} (h : SameFields l s t) (w : ∀ f ∈ l, f ∈ m) : SameFields m s t :=
  fun f d => h f (fun _ i => d _ (w _ i))

theorem FieldsKept.refl (l : List Field) (src pmc : List Nat) (s : State) : FieldsKept l src pmc s s := fun _ _ _ => rfl

theorem FieldsKept.trans {src pmc : List Nat} {l : List Field} {s t u : State} (h : FieldsKept l src pmc s t) (k : FieldsKept l src pmc t u) :
    FieldsKept l src pmc s u := fun f n d => (k f n d).trans (h f n d)

theorem FieldsKept.mono {src pmc : List Nat} {l m : List Field} {s t : State} (h : FieldsKept l src pmc s t) (w : ∀ f ∈ l, f ∈ m) : FieldsKept m src pmc s t :=
  fun f n d => h f n (fun _ i => d _ (w _ i))

theorem SameFields.kept {src pmc : List Nat} {l : List Field} {s t : State} (h : SameFields l s t) : FieldsKept l src pmc s t := fun f _ d => h f d

/-! ## The other channels (R33) -/

theorem OthersKept.refl (n : Nat) (s : State) : OthersKept n s s := fun _ _ => ⟨rfl, rfl, rfl, rfl⟩

theorem OthersKept.trans {n : Nat} {s t u : State} (h : OthersKept n s t) (k : OthersKept n t u) : OthersKept n s u :=
  fun m d => ⟨(k m d).1.trans (h m d).1, (k m d).2.1.trans (h m d).2.1, (k m d).2.2.1.trans (h m d).2.2.1,
    (k m d).2.2.2.trans (h m d).2.2.2⟩

/-! ## One field -/

theorem sameFields_put (f : Field) (v : Nat) (s : State) : SameFields [f] s (s.put f v) :=
  fun _ d => rd_put_other v s (fun e => d f (List.mem_singleton.2 rfl) e.symm)

theorem sameFields_put_of {l : List Field} {f : Field} {v : Nat} {s t : State} (h : SameFields l s t) (m : f ∈ l) :
    SameFields l s (t.put f v) := h.trans ((sameFields_put f v t).mono (by simpa using m))

theorem fieldsKept_put_of {src pmc : List Nat} {l : List Field} {f : Field} {v : Nat} {s t : State} (h : FieldsKept l src pmc s t) (m : f ∈ l) :
    FieldsKept l src pmc s (t.put f v) := h.trans ((sameFields_put f v t).mono (by simpa using m)).kept

/-- A field of the notice may be put without notice being taken of it. -/
theorem fieldsKept_put_notice {src pmc : List Nat} {l : List Field} {f : Field} {v : Nat} {s t : State} (h : FieldsKept l src pmc s t)
    (m : noticeKey src pmc f.key) : FieldsKept l src pmc s (t.put f v) :=
  h.trans (fun _ n _ => rd_put_other v t (fun e => n (e ▸ m)))

theorem fieldsKept_bump_of {src pmc : List Nat} {l : List Field} {f : Field} {s t : State} (h : FieldsKept l src pmc s t) (m : f ∈ l) :
    FieldsKept l src pmc s (t.bump f) := fieldsKept_put_of h m

theorem fieldsKept_when {src pmc : List Nat} {l : List Field} {s t : State} {b : Bool} {f : State → State} (h : FieldsKept l src pmc s t)
    (k : FieldsKept l src pmc s (f t)) : FieldsKept l src pmc s (t.when b f) := by cases b <;> assumption

theorem sameFields_when {l : List Field} {s t : State} {b : Bool} {f : State → State} (h : SameFields l s t)
    (k : SameFields l s (f t)) : SameFields l s (t.when b f) := by cases b <;> assumption

theorem sameFields_each {α : Type} {l : List Field} {s t : State} {xs : List α} {f : α → State → State}
    (h : SameFields l s t) (k : ∀ x ∈ xs, ∀ u, SameFields l s u → SameFields l s (f x u)) : SameFields l s (t.each xs f) := by
  induction xs generalizing t with
  | nil => exact h
  | cons x xs ih => exact ih (k x (List.mem_cons_self ..) t h) (fun y m => k y (List.mem_cons_of_mem _ m))

theorem fieldsKept_each {α : Type} {src pmc : List Nat} {l : List Field} {s t : State} {xs : List α} {f : α → State → State}
    (h : FieldsKept l src pmc s t) (k : ∀ x ∈ xs, ∀ u, FieldsKept l src pmc s u → FieldsKept l src pmc s (f x u)) :
    FieldsKept l src pmc s (t.each xs f) := by
  induction xs generalizing t with
  | nil => exact h
  | cons x xs ih => exact ih (k x (List.mem_cons_self ..) t h) (fun y m => k y (List.mem_cons_of_mem _ m))

theorem sameFields_clear {l m : List Field} {s t : State} (h : SameFields l s t) (w : ∀ f ∈ m, f ∈ l) :
    SameFields l s (t.clear m) := sameFields_each h (fun f i _ hu => sameFields_put_of hu (w f i))

/-! ## Raises (R366) -/

/-- A source that is named, or that an overflow in a named scope raises. -/
theorem noticed_of_mem {src pmc : List Nat} {N : Nat} (h : N ∈ src) : N ∈ src ++ pmc.flatMap overflowSources :=
  List.mem_append_left _ h

theorem noticed_of_overflow {src pmc : List Nat} {N b : Nat} (h : b ∈ pmc) (k : N ∈ overflowSources b) :
    N ∈ src ++ pmc.flatMap overflowSources :=
  List.mem_append_right _ (List.mem_flatMap.2 ⟨b, h, k⟩)

theorem noticeKey_pend {src pmc : List Nat} {N : Nat} (h : N ∈ src ++ pmc.flatMap overflowSources) :
    noticeKey src pmc (IRQ_PEND N).key := .inl ⟨N, h, .inl rfl⟩

theorem noticeKey_arrive {src pmc : List Nat} {N : Nat} (h : N ∈ src ++ pmc.flatMap overflowSources) :
    noticeKey src pmc (IRQ_CFG.ARRIVE N).key := .inl ⟨N, h, .inr (.inl rfl)⟩

theorem noticeKey_supPend {src pmc : List Nat} {i N : Nat} (h : N ∈ src ++ pmc.flatMap overflowSources) (k : i < 3) :
    noticeKey src pmc (SUPC.PEND i N).key :=
  .inl ⟨N, h, .inr (.inr ⟨i, k, .inl rfl⟩)⟩

theorem noticeKey_supArrive {src pmc : List Nat} {i N : Nat} (h : N ∈ src ++ pmc.flatMap overflowSources) (k : i < 3) :
    noticeKey src pmc (SUPC.ARRIVE i N).key :=
  .inl ⟨N, h, .inr (.inr ⟨i, k, .inr rfl⟩)⟩

/-- A raise changes only the pending bits and the arrival counters. -/
theorem fieldsKept_raise {src pmc : List Nat} {l : List Field} {s t : State} {N : Nat} (h : FieldsKept l src pmc s t)
    (hN : N ∈ src ++ pmc.flatMap overflowSources) :
    FieldsKept l src pmc s (t.raise N) := by
  unfold State.raise State.bump State.addSat
  iterate 3
    with_reducible refine fieldsKept_put_notice ?_ (noticeKey_supArrive hN (by decide))
    with_reducible refine fieldsKept_put_notice ?_ (noticeKey_supPend hN (by decide))
  with_reducible refine fieldsKept_put_notice ?_ (noticeKey_arrive hN)
  with_reducible exact fieldsKept_put_notice h (noticeKey_pend hN)

theorem sourceOf_lt {n L : Nat} (h : L < 256) : sourceOf n L < 2048 := by
  unfold sourceOf; split <;> omega

theorem fieldsKept_raiseCh {src pmc : List Nat} {l : List Field} {s t : State} {n L : Nat} (h : FieldsKept l src pmc s t)
    (hL : sourceOf n L ∈ src) : FieldsKept l src pmc s (t.raiseCh n L) := fieldsKept_raise h (noticed_of_mem hL)

/-- A raise sets the host's pending bit. -/
theorem raise_pend {s : State} {N : Nat} (hN : N < 2048) : (s.raise N).rd (IRQ_PEND N) = 1 := by
  unfold State.raise State.bump State.addSat
  iterate 7 rw [rd_put_other (h := by
    simp only [Field.key, IRQ_PEND, IRQ_CFG.ARRIVE, SUPC.PEND, SUPC.ARRIVE, cell, ne_eq]; omega)]
  rw [rd_put_same]; rfl

theorem raiseCh_pend {s : State} {n L : Nat} (hL : L < 256) : (s.raiseCh n L).rd (IRQ_PEND (sourceOf n L)) = 1 :=
  raise_pend (sourceOf_lt hL)

/-- A raise of another source leaves a pending bit as it is. -/
theorem raise_pend_other {s : State} {N M : Nat} (hN : N < 2048) (hM : M < 2048) (h : N ≠ M) :
    (s.raise N).rd (IRQ_PEND M) = s.rd (IRQ_PEND M) := by
  unfold State.raise State.bump State.addSat
  iterate 8 rw [rd_put_other (h := by
    simp only [Field.key, IRQ_PEND, IRQ_CFG.ARRIVE, SUPC.PEND, SUPC.ARRIVE, cell, ne_eq]; omega)]

/-! ## Performance counts (R378, R379) -/

theorem noticeKey_cnt {src pmc : List Nat} {b i : Nat} (h : b ∈ pmc) (k : i < 512) : noticeKey src pmc (PMC.CNT b i).key :=
  .inr ⟨b, h, .inr (.inr ⟨i, k, .inl rfl⟩)⟩

theorem noticeKey_sticky {src pmc : List Nat} {b i : Nat} (h : b ∈ pmc) (k : i < 512) : noticeKey src pmc (PMC.STICKY b i).key :=
  .inr ⟨b, h, .inr (.inr ⟨i, k, .inr rfl⟩)⟩

theorem noticeKey_ovf {src pmc : List Nat} {b : Nat} (h : b ∈ pmc) : noticeKey src pmc (PMC_CH_STAT.OVF_EV b).key := .inr ⟨b, h, .inl rfl⟩

theorem noticeKey_wrap {src pmc : List Nat} {b : Nat} (h : b ∈ pmc) : noticeKey src pmc (PMC_CH_STAT.WRAP_EV b).key := .inr ⟨b, h, .inr (.inl rfl)⟩

theorem fieldsKept_pmcOverflow {src pmc : List Nat} {l : List Field} {s t : State} {b i : Nat} (h : FieldsKept l src pmc s t) (hb : b ∈ pmc) (hi : i < 512) :
    FieldsKept l src pmc s (t.pmcOverflow b i) := by
  unfold State.pmcOverflow State.flag
  refine fieldsKept_raise (fieldsKept_put_notice (fieldsKept_put_notice h (noticeKey_sticky hb hi)) (noticeKey_ovf hb))
    (noticed_of_overflow hb ?_)
  unfold overflowSources
  split
  · exact List.mem_cons_self ..
  · exact List.mem_singleton.2 rfl

theorem fieldsKept_pmcAdd {src pmc : List Nat} {l : List Field} {s t : State} {b i c : Nat} (h : FieldsKept l src pmc s t) (hb : b ∈ pmc) (hi : i < 511) :
    FieldsKept l src pmc s (t.pmcAdd b i c) := by
  have h1 := fieldsKept_put_notice (v := t.rd (PMC.CNT b i) + c) h (noticeKey_cnt hb (Nat.lt_succ_of_lt hi))
  unfold State.pmcAdd
  dsimp only
  split
  · exact h1
  · split
    · have h2 := fun v => fieldsKept_put_notice (v := v) h1 (noticeKey_cnt hb (Nat.succ_lt_succ hi))
      split
      · exact h2 _
      · exact fieldsKept_pmcOverflow (h2 _) hb (Nat.succ_lt_succ hi)
    · exact fieldsKept_pmcOverflow h1 hb (Nat.lt_succ_of_lt hi)

theorem pmcBlockOf_lt {g : Bool} {i : Nat} {k : PmcBlock} (h : pmcBlockOf g i = some k) : i < 511 := by
  by_contra hi
  have n : ∀ m, m < 511 → ¬ i ≤ m := by intro m hm; omega
  cases g <;> simp [pmcBlockOf, n] at h

/-- Counting changes only the performance counters and the notice of their overflow. -/
theorem fieldsKept_countFor {src pmc : List Nat} {l : List Field} {s t : State} {b ev c : Nat} {k : PmcBlock} {who : Option Nat}
    (h : FieldsKept l src pmc s t) (hb : b ∈ pmc) : FieldsKept l src pmc s (t.countFor b k ev c who) := by
  unfold State.countFor State.each
  generalize hp : t.pmcOn.filter _ = ps
  have hps : ∀ p ∈ ps, p.2 < 511 := by
    intro p m
    subst hp
    have := (List.mem_filter.1 m).2
    simp only [Bool.and_eq_true, decide_eq_true_eq] at this
    exact pmcBlockOf_lt this.2
  clear hp
  induction ps generalizing t with
  | nil => exact h
  | cons p ps ih =>
    refine ih ?_ (fun q m => hps q (List.mem_cons_of_mem _ m))
    dsimp only
    split
    · exact fieldsKept_pmcAdd h hb (hps p (List.mem_cons_self ..))
    · exact h

theorem fieldsKept_count {src pmc : List Nat} {l : List Field} {s t : State} {b ev : Nat} {k : PmcBlock} (h : FieldsKept l src pmc s t) (hb : b ∈ pmc) :
    FieldsKept l src pmc s (t.count b k ev) := fieldsKept_countFor h hb

end Sys2Proof.Machine
end

