-- ==== Sys2Proof/Laws/Kept.lean ====
section
/-! SUPPORT. What every operation on the state keeps, said once: `Kept s t` holds when `t` comes from `s` by operations that
leave the queue alone, retract nothing that was sent, and keep the ledgers' laws and the canonical forms. -/

namespace Sys2Proof.Machine

/-! ## The flow operations keep the laws of R57 -/

theorem Ledger.txDrop_txDrops (k : TxDrop) (c : Nat) (l : Ledger) : (l.txDrop k c).txDrops = l.txDrops + c := by
  cases k <;> simp only [Ledger.txDrop, Ledger.txDrops] <;> omega

theorem Ledger.rxDrop_rxDrops (k : RxDrop) (c : Nat) (l : Ledger) : (l.rxDrop k c).rxDrops = l.rxDrops + c := by
  cases k <;> simp only [Ledger.rxDrop, Ledger.rxDrops] <;> omega

theorem Ledger.cwDrop_cwDrops (k : CwDrop) (c : Nat) (l : Ledger) : (l.cwDrop k c).cwDrops = l.cwDrops + c := by
  cases k <;> simp only [Ledger.cwDrop, Ledger.cwDrops] <;> omega

/-- A transmit drop changes no other side of the laws. -/
theorem Ledger.txDrop_rest (k : TxDrop) (c : Nat) (l : Ledger) :
    (l.txDrop k c).txIn = l.txIn ∧ (l.txDrop k c).txOut = l.txOut ∧ (l.txDrop k c).rxIn = l.rxIn ∧
    (l.txDrop k c).rxOut = l.rxOut ∧ (l.txDrop k c).rxDrops = l.rxDrops ∧ (l.txDrop k c).cwIn = l.cwIn ∧
    (l.txDrop k c).cwOut = l.cwOut ∧ (l.txDrop k c).cwDrops = l.cwDrops ∧ (l.txDrop k c).crdIssued = l.crdIssued ∧
    (l.txDrop k c).crdUsed = l.crdUsed ∧ (l.txDrop k c).crdReclaim = l.crdReclaim := by
  cases k <;> simp [Ledger.txDrop, Ledger.rxDrops, Ledger.cwDrops]

theorem Ledger.rxDrop_rest (k : RxDrop) (c : Nat) (l : Ledger) :
    (l.rxDrop k c).rxIn = l.rxIn ∧ (l.rxDrop k c).rxOut = l.rxOut ∧ (l.rxDrop k c).txIn = l.txIn ∧
    (l.rxDrop k c).txOut = l.txOut ∧ (l.rxDrop k c).txDrops = l.txDrops ∧ (l.rxDrop k c).cwIn = l.cwIn ∧
    (l.rxDrop k c).cwOut = l.cwOut ∧ (l.rxDrop k c).cwDrops = l.cwDrops ∧ (l.rxDrop k c).crdIssued = l.crdIssued ∧
    (l.rxDrop k c).crdUsed = l.crdUsed ∧ (l.rxDrop k c).crdReclaim = l.crdReclaim := by
  cases k <;> simp [Ledger.rxDrop, Ledger.txDrops, Ledger.cwDrops]

theorem Ledger.cwDrop_rest (k : CwDrop) (c : Nat) (l : Ledger) :
    (l.cwDrop k c).cwIn = l.cwIn ∧ (l.cwDrop k c).cwOut = l.cwOut ∧ (l.cwDrop k c).txIn = l.txIn ∧
    (l.cwDrop k c).txOut = l.txOut ∧ (l.cwDrop k c).txDrops = l.txDrops ∧ (l.cwDrop k c).rxIn = l.rxIn ∧
    (l.cwDrop k c).rxOut = l.rxOut ∧ (l.cwDrop k c).rxDrops = l.rxDrops ∧ (l.cwDrop k c).crdIssued = l.crdIssued ∧
    (l.cwDrop k c).crdUsed = l.crdUsed ∧ (l.cwDrop k c).crdReclaim = l.crdReclaim := by
  cases k <;> simp [Ledger.cwDrop, Ledger.txDrops, Ledger.rxDrops]

/-- Taking the first element that meets p takes one that meets p, and counts otherwise stay. -/
theorem takeFirst_count {α : Type} {p : α → Bool} {l l' : List α} {a : α} (h : takeFirst p l = some (a, l')) :
    p a = true ∧ ∀ q : α → Bool, l.countP q = l'.countP q + (if q a then 1 else 0) := by
  induction l generalizing l' with
  | nil => simp [takeFirst] at h
  | cons b l ih =>
    simp only [takeFirst] at h
    split at h
    · simp only [Option.some.injEq, Prod.mk.injEq] at h
      obtain ⟨rfl, rfl⟩ := h
      exact ⟨‹_›, fun q => by rw [List.countP_cons]⟩
    · simp only [Option.map_eq_some_iff, Prod.mk.injEq] at h
      obtain ⟨⟨c, r⟩, hr, rfl, rfl⟩ := h
      obtain ⟨hp, hq⟩ := ih hr
      refine ⟨hp, fun q => ?_⟩
      simp only [List.countP_cons, hq q]; omega

theorem takeFirst_length {α : Type} {p : α → Bool} {l l' : List α} {a : α} (h : takeFirst p l = some (a, l')) :
    l.length = l'.length + 1 := by
  have := (takeFirst_count h).2 (fun _ => true)
  simpa [List.countP_true] using this

/-- What meets p and what does not make up what meets q. -/
theorem countP_split {α : Type} (p q : α → Bool) (l : List α) :
    l.countP q = (l.filter (fun a => !p a)).countP q + l.countP (fun a => p a && q a) := by
  induction l with
  | nil => rfl
  | cons a l ih => cases hp : p a <;> cases hq : q a <;> simp [hp, hq, ih] <;> omega

theorem addCredit_sum (client c : Nat) (l : List (Nat × Nat)) :
    ((addCredit client c l).map (·.2)).sum = (l.map (·.2)).sum + c := by
  induction l with
  | nil => simp [addCredit]
  | cons p l ih => simp only [addCredit]; split <;> simp_all <;> omega

theorem useCredit_sum {client : Nat} {l l' : List (Nat × Nat)} (h : useCredit client l = some l') :
    (l.map (·.2)).sum = (l'.map (·.2)).sum + 1 := by
  induction l generalizing l' with
  | nil => simp [useCredit] at h
  | cons p l ih =>
    simp only [useCredit] at h
    split at h
    · cases h; simp; omega
    · simp only [Option.map_eq_some_iff] at h
      obtain ⟨r, hr, rfl⟩ := h
      simp [ih hr]; omega

theorem credit_split (p : Nat → Bool) (l : List (Nat × Nat)) :
    (l.map (·.2)).sum = ((l.filter (fun e => !p e.1)).map (·.2)).sum + ((l.filter (fun e => p e.1)).map (·.2)).sum := by
  induction l with
  | nil => rfl
  | cons a l ih => cases hp : p a.1 <;> simp [hp, ih] <;> omega

theorem Flow.empty_conserved : Flow.empty.conserved := by
  intro _; simp [Flow.balanced, Flow.empty, Ledger.zero, Ledger.txDrops, Ledger.rxDrops, Ledger.cwDrops, Flow.txRes,
    Flow.rxRes, Flow.cwRes, Flow.crdRes]

theorem Flow.lose_conserved (f : Flow) : f.lose.conserved := by intro h; cases h

theorem Flow.txEnter_conserved {f : Flow} (st : Stage) (t : Nat) (p : Bool) (d : BitVec 512) (h : f.conserved) :
    (f.txEnter st t p d).conserved := by
  unfold Flow.txEnter
  split
  · rename_i hs
    intro hw
    have := h hw
    simp only [Flow.balanced, Flow.txRes, Flow.rxRes, Flow.cwRes, Flow.crdRes, Ledger.txDrops, Ledger.rxDrops,
      Ledger.cwDrops, List.countP_append, List.countP_singleton, hs] at this ⊢
    simp; omega
  · exact h

theorem Flow.rxEnter_conserved {f : Flow} (st : Stage) (t : Nat) (p u : Bool) (d : BitVec 512) (h : f.conserved) :
    (f.rxEnter st t p u d).conserved := by
  unfold Flow.rxEnter
  split
  · exact h
  · rename_i hs
    intro hw
    have := h hw
    simp only [Flow.balanced, Flow.txRes, Flow.rxRes, Flow.cwRes, Flow.crdRes, Ledger.txDrops, Ledger.rxDrops,
      Ledger.cwDrops, List.countP_append, List.countP_singleton, hs] at this ⊢
    simp; omega

theorem Flow.txReject_conserved {f : Flow} (k : TxDrop) (h : f.conserved) : (f.txReject k).conserved := by
  intro hw
  have := h hw
  have e := Ledger.txDrop_rest k 1 { f.led with txIn := f.led.txIn + 1 }
  have d := Ledger.txDrop_txDrops k 1 { f.led with txIn := f.led.txIn + 1 }
  simp only [Flow.balanced, Flow.txReject, Flow.txRes, Flow.rxRes, Flow.cwRes, Flow.crdRes, d, e] at this ⊢
  simp only [Ledger.txDrops, Ledger.rxDrops, Ledger.cwDrops] at this ⊢
  omega

theorem Flow.rxReject_conserved {f : Flow} (k : RxDrop) (c : Nat) (h : f.conserved) : (f.rxReject k c).conserved := by
  intro hw
  have := h hw
  have e := Ledger.rxDrop_rest k c { f.led with rxIn := f.led.rxIn + c }
  have d := Ledger.rxDrop_rxDrops k c { f.led with rxIn := f.led.rxIn + c }
  simp only [Flow.balanced, Flow.rxReject, Flow.txRes, Flow.rxRes, Flow.cwRes, Flow.crdRes, d, e] at this ⊢
  simp only [Ledger.txDrops, Ledger.rxDrops, Ledger.cwDrops] at this ⊢
  omega

theorem Flow.cwReject_conserved {f : Flow} (k : CwDrop) (h : f.conserved) : (f.cwReject k).conserved := by
  intro hw
  have := h hw
  have e := Ledger.cwDrop_rest k 1 { f.led with cwIn := f.led.cwIn + 1 }
  have d := Ledger.cwDrop_cwDrops k 1 { f.led with cwIn := f.led.cwIn + 1 }
  simp only [Flow.balanced, Flow.cwReject, Flow.txRes, Flow.rxRes, Flow.cwRes, Flow.crdRes, d, e] at this ⊢
  simp only [Ledger.txDrops, Ledger.rxDrops, Ledger.cwDrops] at this ⊢
  omega

theorem Flow.txLeave_conserved {f : Flow} (p : Token → Bool) (h : f.conserved) : (f.txLeave p).conserved := by
  unfold Flow.txLeave
  split
  · rename_i a l hl
    intro hw
    have := h hw
    have c := takeFirst_count hl
    have c1 := c.2 (fun t => t.stage.isTx)
    have c2 := c.2 (fun t => !t.stage.isTx)
    have ha : a.stage.isTx = true := by have := c.1; simp at this; exact this.1
    simp only [Flow.balanced, Flow.txRes, Flow.rxRes, Flow.cwRes, Flow.crdRes, Ledger.txDrops, Ledger.rxDrops,
      Ledger.cwDrops, ha] at this c1 c2 ⊢
    simp at c1 c2; omega
  · exact h

theorem Flow.rxLeave_conserved {f : Flow} (p : Token → Bool) (h : f.conserved) : (f.rxLeave p).conserved := by
  unfold Flow.rxLeave
  split
  · rename_i a l hl
    intro hw
    have := h hw
    have c := takeFirst_count hl
    have c1 := c.2 (fun t => t.stage.isTx)
    have c2 := c.2 (fun t => !t.stage.isTx)
    have ha : a.stage.isTx = false := by have := c.1; simp at this; exact this.1
    simp only [Flow.balanced, Flow.txRes, Flow.rxRes, Flow.cwRes, Flow.crdRes, Ledger.txDrops, Ledger.rxDrops,
      Ledger.cwDrops, ha] at this c1 c2 ⊢
    simp at c1 c2; omega
  · exact h

theorem Flow.txDropOne_conserved {f : Flow} (k : TxDrop) (p : Token → Bool) (h : f.conserved) :
    (f.txDropOne k p).conserved := by
  unfold Flow.txDropOne
  split
  · rename_i a l hl
    intro hw
    have := h hw
    have c := takeFirst_count hl
    have c1 := c.2 (fun t => t.stage.isTx)
    have c2 := c.2 (fun t => !t.stage.isTx)
    have ha : a.stage.isTx = true := by have := c.1; simp at this; exact this.1
    have e := Ledger.txDrop_rest k 1 f.led
    have d := Ledger.txDrop_txDrops k 1 f.led
    simp only [Flow.balanced, Flow.txRes, Flow.rxRes, Flow.cwRes, Flow.crdRes, ha, d, e] at this c1 c2 ⊢
    simp at c1 c2; omega
  · exact h

theorem Flow.rxDropOne_conserved {f : Flow} (k : RxDrop) (p : Token → Bool) (h : f.conserved) :
    (f.rxDropOne k p).conserved := by
  unfold Flow.rxDropOne
  split
  · rename_i a l hl
    intro hw
    have := h hw
    have c := takeFirst_count hl
    have c1 := c.2 (fun t => t.stage.isTx)
    have c2 := c.2 (fun t => !t.stage.isTx)
    have ha : a.stage.isTx = false := by have := c.1; simp at this; exact this.1
    have e := Ledger.rxDrop_rest k 1 f.led
    have d := Ledger.rxDrop_rxDrops k 1 f.led
    simp only [Flow.balanced, Flow.txRes, Flow.rxRes, Flow.cwRes, Flow.crdRes, ha, d, e] at this c1 c2 ⊢
    simp at c1 c2; omega
  · exact h

theorem Flow.txDropAll_conserved {f : Flow} (k : TxDrop) (p : Token → Bool) (h : f.conserved) :
    (f.txDropAll k p).conserved := by
  intro hw
  have := h hw
  have e := Ledger.txDrop_rest k (f.tok.countP (fun t => t.stage.isTx && p t)) f.led
  have d := Ledger.txDrop_txDrops k (f.tok.countP (fun t => t.stage.isTx && p t)) f.led
  have c1 := countP_split (fun t : Token => t.stage.isTx && p t) (fun t => t.stage.isTx) f.tok
  have c2 := countP_split (fun t : Token => t.stage.isTx && p t) (fun t => !t.stage.isTx) f.tok
  have z1 : f.tok.countP (fun t => (t.stage.isTx && p t) && t.stage.isTx) = f.tok.countP (fun t => t.stage.isTx && p t) := by
    congr 1; funext t; cases t.stage.isTx <;> simp
  have z2 : f.tok.countP (fun t => (t.stage.isTx && p t) && !t.stage.isTx) = 0 := by
    rw [List.countP_eq_zero]; intro t _; cases t.stage.isTx <;> simp
  simp only [Flow.balanced, Flow.txDropAll, Flow.txRes, Flow.rxRes, Flow.cwRes, Flow.crdRes, d, e] at this ⊢
  rw [z1] at c1; rw [z2] at c2
  omega

theorem Flow.rxDropAll_conserved {f : Flow} (k : RxDrop) (p : Token → Bool) (h : f.conserved) :
    (f.rxDropAll k p).conserved := by
  intro hw
  have := h hw
  have e := Ledger.rxDrop_rest k (f.tok.countP (fun t => !t.stage.isTx && p t)) f.led
  have d := Ledger.rxDrop_rxDrops k (f.tok.countP (fun t => !t.stage.isTx && p t)) f.led
  have c1 := countP_split (fun t : Token => !t.stage.isTx && p t) (fun t => t.stage.isTx) f.tok
  have c2 := countP_split (fun t : Token => !t.stage.isTx && p t) (fun t => !t.stage.isTx) f.tok
  have z1 : f.tok.countP (fun t => (!t.stage.isTx && p t) && !t.stage.isTx) = f.tok.countP (fun t => !t.stage.isTx && p t) := by
    congr 1; funext t; cases t.stage.isTx <;> simp
  have z2 : f.tok.countP (fun t => (!t.stage.isTx && p t) && t.stage.isTx) = 0 := by
    rw [List.countP_eq_zero]; intro t _; cases t.stage.isTx <;> simp
  simp only [Flow.balanced, Flow.rxDropAll, Flow.txRes, Flow.rxRes, Flow.cwRes, Flow.crdRes, d, e] at this ⊢
  rw [z1] at c2; rw [z2] at c1
  omega

theorem Flow.move_conserved {f : Flow} (p : Token → Bool) (st : Stage) (h : f.conserved) : (f.move p st).conserved := by
  unfold Flow.move
  split
  · rename_i a l hl
    intro hw
    have := h hw
    have c := takeFirst_count hl
    have c1 := c.2 (fun t => t.stage.isTx)
    have c2 := c.2 (fun t => !t.stage.isTx)
    have ha : a.stage.isTx = st.isTx := by have := c.1; simp at this; exact this.1
    simp only [Flow.balanced, Flow.txRes, Flow.rxRes, Flow.cwRes, Flow.crdRes, List.countP_append,
      List.countP_singleton, ha] at this c1 c2 ⊢
    omega
  · exact h

theorem Flow.poisonOne_conserved {f : Flow} (p : Token → Bool) (h : f.conserved) : (f.poisonOne p).conserved := by
  unfold Flow.poisonOne
  split
  · rename_i a l hl
    intro hw
    have := h hw
    have c := takeFirst_count hl
    have c1 := c.2 (fun t => t.stage.isTx)
    have c2 := c.2 (fun t => !t.stage.isTx)
    simp only [Flow.balanced, Flow.txRes, Flow.rxRes, Flow.cwRes, Flow.crdRes, List.countP_cons] at this c1 c2 ⊢
    omega
  · exact h

theorem rewriteTokens_countP (p : Token → Bool) (q : Stage → Bool) (ds : List (BitVec 512)) (l : List Token) :
    (rewriteTokens p ds l).countP (fun t => q t.stage) = l.countP (fun t => q t.stage) := by
  induction l generalizing ds with
  | nil => cases ds <;> rfl
  | cons t l ih =>
    cases ds with
    | nil => rfl
    | cons d ds =>
      simp only [rewriteTokens]
      split <;> simp [List.countP_cons, ih]

theorem Flow.rewrite_conserved {f : Flow} (p : Token → Bool) (l : List (BitVec 512)) (h : f.conserved) :
    (f.rewrite p l).conserved := by
  intro hw
  have := h hw
  have c1 := rewriteTokens_countP p Stage.isTx l f.tok
  have c2 := rewriteTokens_countP p (fun x => !x.isTx) l f.tok
  simpa only [Flow.balanced, Flow.rewrite, Flow.txRes, Flow.rxRes, Flow.cwRes, Flow.crdRes, c1, c2] using this

theorem Flow.cwEnter_conserved {f : Flow} (t0 : Nat) (lent : Option Nat) (cand : Bool) (g : Geo) (l : List (Int × Int))
    (h : f.conserved) : (f.cwEnter t0 lent cand g l).conserved := by
  intro hw
  have := h hw
  simp only [Flow.balanced, Flow.cwEnter, Flow.txRes, Flow.rxRes, Flow.cwRes, Flow.crdRes, Ledger.txDrops,
    Ledger.rxDrops, Ledger.cwDrops, List.length_append, List.length_singleton] at this ⊢
  omega

theorem Flow.cwLeave_conserved {f : Flow} (p : Codeword → Bool) (u : Bool) (h : f.conserved) :
    (f.cwLeave p u).conserved := by
  unfold Flow.cwLeave
  split
  · rename_i a l hl
    intro hw
    have := h hw
    have c := takeFirst_length hl
    simp only [Flow.balanced, Flow.txRes, Flow.rxRes, Flow.cwRes, Flow.crdRes, Ledger.txDrops, Ledger.rxDrops,
      Ledger.cwDrops] at this ⊢
    omega
  · exact h

theorem Flow.cwDropAll_conserved {f : Flow} (k : CwDrop) (p : Codeword → Bool) (h : f.conserved) :
    (f.cwDropAll k p).conserved := by
  intro hw
  have := h hw
  have e := Ledger.cwDrop_rest k (f.cws.countP p) f.led
  have d := Ledger.cwDrop_cwDrops k (f.cws.countP p) f.led
  have c := countP_split p (fun _ => true) f.cws
  simp only [Bool.and_true, List.countP_true] at c
  change _ = _ + f.cws.countP p at c
  simp only [Flow.balanced, Flow.cwDropAll, Flow.txRes, Flow.rxRes, Flow.cwRes, Flow.crdRes, d, e] at this ⊢
  omega

theorem Flow.cwMap_conserved {f : Flow} (g : Codeword → Codeword) (h : f.conserved) : (f.cwMap g).conserved := by
  intro hw
  have := h hw
  simpa only [Flow.balanced, Flow.cwMap, Flow.txRes, Flow.rxRes, Flow.cwRes, Flow.crdRes, List.length_map] using this

theorem Flow.crdIssue_conserved {f : Flow} (client c : Nat) (h : f.conserved) : (f.crdIssue client c).conserved := by
  intro hw
  have := h hw
  simp only [Flow.balanced, Flow.crdIssue, Flow.txRes, Flow.rxRes, Flow.cwRes, Flow.crdRes, Ledger.txDrops,
    Ledger.rxDrops, Ledger.cwDrops, addCredit_sum] at this ⊢
  omega

theorem Flow.crdUse_conserved {f : Flow} (client : Nat) (h : f.conserved) : (f.crdUse client).conserved := by
  unfold Flow.crdUse
  split
  · rename_i l hl
    intro hw
    have := h hw
    have c := useCredit_sum hl
    simp only [Flow.balanced, Flow.txRes, Flow.rxRes, Flow.cwRes, Flow.crdRes, Ledger.txDrops, Ledger.rxDrops,
      Ledger.cwDrops] at this ⊢
    omega
  · exact h

theorem Flow.crdReclaim_conserved {f : Flow} (p : Nat → Bool) (h : f.conserved) : (f.crdReclaim p).conserved := by
  intro hw
  have := h hw
  have c := credit_split p f.crd
  simp only [Flow.balanced, Flow.crdReclaim, Flow.txRes, Flow.rxRes, Flow.cwRes, Flow.crdRes, Ledger.txDrops,
    Ledger.rxDrops, Ledger.cwDrops] at this ⊢
  omega

theorem Flow.flushTx_conserved {f : Flow} (h : f.conserved) : f.flushTx.conserved := Flow.txDropAll_conserved _ _ h

theorem Flow.flushRx_conserved {f : Flow} (h : f.conserved) : f.flushRx.conserved :=
  Flow.cwDropAll_conserved _ _ (Flow.rxDropAll_conserved _ _ h)

/-! ## The relation -/

/-- `t` comes from `s` by operations of the model, which change no part of the state but those that A names. -/
structure Kept (A : Area → Prop) (s t : State) : Prop where
  pending : t.pending = s.pending
  free : s.free ≤ t.free
  out : s.out <:+ t.out
  flow : s.conserves → t.conserves
  canonical : s.canonical → t.canonical
  same : ∀ x, ¬ A x → SameArea s t x

theorem SameArea.refl (s : State) (x : Area) : SameArea s s x := by
  cases x <;> simp [SameArea]

theorem SameArea.trans {s t u : State} {x : Area} (h : SameArea s t x) (k : SameArea t u x) : SameArea s u x := by
  cases x <;> simp_all [SameArea]

theorem Kept.refl {A : Area → Prop} (s : State) : Kept A s s :=
  ⟨rfl, Nat.le_refl _, List.suffix_refl _, id, id, fun x _ => SameArea.refl s x⟩

theorem Kept.trans {A : Area → Prop} {s t u : State} (h : Kept A s t) (k : Kept A t u) : Kept A s u :=
  ⟨k.pending.trans h.pending, h.free.trans k.free, h.out.trans k.out, k.flow ∘ h.flow, k.canonical ∘ h.canonical,
    fun x n => (h.same x n).trans (k.same x n)⟩

/-- A record whose tables in canonical form stay. -/
theorem kept_mk {A : Area → Prop} {a s : State} {time : Nat} {pmcOn : List (Nat × Nat)} {ch : Quad Chan} {votes : List Vote} {monHist : List (Nat × MonInput)} {monMean : List (Nat × Int × Nat)} {taps : List (Nat × List (Int × Bool))} {snaps : List (Nat × List (Nat × Nat))} {calWait : List Nat} {image : List Byte} {bootImage : List Byte} {plan : CastPlan} {fw : List (Option FwSlot)} {mbx : List MbxCmd} {dma : List (Nat × DmaRun)}
    (h : Kept A a s) (htime : A .time ∨ time = s.time) (hpmcOn : A .pmcOn ∨ pmcOn = s.pmcOn) (hch : A .ch ∨ ch = s.ch) (hvotes : A .votes ∨ votes = s.votes) (hmonHist : A .mon ∨ monHist = s.monHist) (hmonMean : A .mon ∨ monMean = s.monMean) (htaps : A .mon ∨ taps = s.taps) (hsnaps : A .snaps ∨ snaps = s.snaps) (hcalWait : A .calWait ∨ calWait = s.calWait) (himage : A .cast ∨ image = s.image) (hbootImage : A .bootImage ∨ bootImage = s.bootImage) (hplan : A .cast ∨ plan = s.plan) (hfw : A .fw ∨ fw = s.fw) (hmbx : A .mbx ∨ mbx = s.mbx) (hdma : A .dma ∨ dma = s.dma) :
    Kept A a ⟨s.pending, s.regs, time, s.free, s.flow, pmcOn, ch, votes, s.out, monHist, monMean, taps, s.store, s.sets, s.applied, s.runSet, snaps, calWait, image, bootImage, plan, fw, mbx, s.sram, dma⟩ :=
  h.trans ⟨rfl, Nat.le_refl _, List.suffix_refl _, id, fun c => ⟨c.regs, c.sram, c.store, c.sets, c.applied, c.runSet⟩,
    fun x n => match x, n with
    | .time, n => (htime.resolve_left n)
    | .free, _ => rfl
    | .flow, _ => rfl
    | .pmcOn, n => (hpmcOn.resolve_left n)
    | .ch, n => (hch.resolve_left n)
    | .votes, n => (hvotes.resolve_left n)
    | .out, _ => rfl
    | .mon, n => ⟨(hmonHist.resolve_left n), (hmonMean.resolve_left n), (htaps.resolve_left n)⟩
    | .store, _ => rfl
    | .sets, _ => rfl
    | .applied, _ => rfl
    | .runSet, _ => rfl
    | .snaps, n => (hsnaps.resolve_left n)
    | .calWait, n => (hcalWait.resolve_left n)
    | .cast, n => ⟨(himage.resolve_left n), (hplan.resolve_left n)⟩
    | .bootImage, n => (hbootImage.resolve_left n)
    | .fw, n => (hfw.resolve_left n)
    | .mbx, n => (hmbx.resolve_left n)
    | .sram, _ => rfl
    | .dma, n => (hdma.resolve_left n)⟩

/-- A record whose tables stay in their forms. -/
theorem kept_mk_forms {A : Area → Prop} {a s : State} {time : Nat} {pmcOn : List (Nat × Nat)} {ch : Quad Chan} {votes : List Vote} {monHist : List (Nat × MonInput)} {monMean : List (Nat × Int × Nat)} {taps : List (Nat × List (Int × Bool))} {snaps : List (Nat × List (Nat × Nat))} {calWait : List Nat} {image : List Byte} {bootImage : List Byte} {plan : CastPlan} {fw : List (Option FwSlot)} {mbx : List MbxCmd} {dma : List (Nat × DmaRun)} {regs : List (Nat × Nat)} {sram : List LineAt} {store : List Host.Cell} {sets : List Host.Cell} {applied : List Host.Cell} {runSet : List Host.Cell}
    (h : Kept A a s) (htime : A .time ∨ time = s.time) (hpmcOn : A .pmcOn ∨ pmcOn = s.pmcOn) (hch : A .ch ∨ ch = s.ch) (hvotes : A .votes ∨ votes = s.votes) (hmonHist : A .mon ∨ monHist = s.monHist) (hmonMean : A .mon ∨ monMean = s.monMean) (htaps : A .mon ∨ taps = s.taps) (hsnaps : A .snaps ∨ snaps = s.snaps) (hcalWait : A .calWait ∨ calWait = s.calWait) (himage : A .cast ∨ image = s.image) (hbootImage : A .bootImage ∨ bootImage = s.bootImage) (hplan : A .cast ∨ plan = s.plan) (hfw : A .fw ∨ fw = s.fw) (hmbx : A .mbx ∨ mbx = s.mbx) (hdma : A .dma ∨ dma = s.dma) (hsram : A .sram ∨ sram = s.sram) (hstore : A .store ∨ store = s.store) (hsets : A .sets ∨ sets = s.sets) (happlied : A .applied ∨ applied = s.applied) (hrunSet : A .runSet ∨ runSet = s.runSet)
    (fregs : keysRise s.regs → keysRise regs) (fsram : linesRise s.sram → linesRise sram) (fstore : memWf s.store = true → memWf store = true) (fsets : memWf s.sets = true → memWf sets = true) (fapplied : memWf s.applied = true → memWf applied = true) (frunSet : memWf s.runSet = true → memWf runSet = true) :
    Kept A a ⟨s.pending, regs, time, s.free, s.flow, pmcOn, ch, votes, s.out, monHist, monMean, taps, store, sets, applied, runSet, snaps, calWait, image, bootImage, plan, fw, mbx, sram, dma⟩ :=
  h.trans ⟨rfl, Nat.le_refl _, List.suffix_refl _, id,
    fun c => ⟨fregs c.regs, fsram c.sram, fstore c.store, fsets c.sets, fapplied c.applied, frunSet c.runSet⟩,
    fun x n => match x, n with
    | .time, n => (htime.resolve_left n)
    | .free, _ => rfl
    | .flow, _ => rfl
    | .pmcOn, n => (hpmcOn.resolve_left n)
    | .ch, n => (hch.resolve_left n)
    | .votes, n => (hvotes.resolve_left n)
    | .out, _ => rfl
    | .mon, n => ⟨(hmonHist.resolve_left n), (hmonMean.resolve_left n), (htaps.resolve_left n)⟩
    | .store, n => (hstore.resolve_left n)
    | .sets, n => (hsets.resolve_left n)
    | .applied, n => (happlied.resolve_left n)
    | .runSet, n => (hrunSet.resolve_left n)
    | .snaps, n => (hsnaps.resolve_left n)
    | .calWait, n => (hcalWait.resolve_left n)
    | .cast, n => ⟨(himage.resolve_left n), (hplan.resolve_left n)⟩
    | .bootImage, n => (hbootImage.resolve_left n)
    | .fw, n => (hfw.resolve_left n)
    | .mbx, n => (hmbx.resolve_left n)
    | .sram, n => (hsram.resolve_left n)
    | .dma, n => (hdma.resolve_left n)⟩

/-- Only the register store differs. -/
theorem same_regs {s : State} {r : List (Nat × Nat)} (x : Area) : SameArea s { s with regs := r } x := by
  cases x <;> simp [SameArea]

theorem kept_put {A : Area → Prop} {a s : State} (f : Field) (v : Nat) (h : Kept A a s) : Kept A a (s.put f v) :=
  h.trans ⟨rfl, Nat.le_refl _, List.suffix_refl _, id,
    fun c => ⟨setKey_rise c.regs, c.sram, c.store, c.sets, c.applied, c.runSet⟩, fun x _ => same_regs x⟩

theorem kept_draw {A : Area → Prop} {a s : State} [n : Fact (A .free)] (h : Kept A a s) : Kept A a s.draw.2 := by
  refine h.trans ⟨rfl, Nat.le_succ _, List.suffix_refl _, id,
    fun c => ⟨c.regs, c.sram, c.store, c.sets, c.applied, c.runSet⟩, fun x k => ?_⟩
  cases x <;> first | exact absurd n.out k | simp [SameArea, State.draw]

theorem kept_emit {A : Area → Prop} {a s : State} [n : Fact (A .out)] (o : Out) (h : Kept A a s) : Kept A a (s.emit o) := by
  refine h.trans ⟨rfl, Nat.le_refl _, List.suffix_cons _ _, id,
    fun c => ⟨c.regs, c.sram, c.store, c.sets, c.applied, c.runSet⟩, fun x k => ?_⟩
  cases x <;> first | exact absurd n.out k | simp [SameArea, State.emit]

theorem kept_onFlow {A : Area → Prop} {a s : State} [w : Fact (A .flow)] (n : Nat) {f : Flow → Flow} (h : Kept A a s)
    (hf : ∀ g : Flow, g.conserved → (f g).conserved) : Kept A a (s.onFlow n f) := by
  refine h.trans ⟨rfl, Nat.le_refl _, List.suffix_refl _, fun c m => ?_,
    fun c => ⟨c.regs, c.sram, c.store, c.sets, c.applied, c.runSet⟩, fun x k => ?_⟩
  · have c0 := c 0; have c1 := c 1; have c2 := c 2; have c3 := c 3; have cn := hf _ (c n); have cm := c m
    match n, m with
    | 0, 0 | 1, 1 | 2, 2 => exact cn
    | 0, 1 | 0, 2 | 0, _ + 3 | 1, 0 | 1, 2 | 1, _ + 3 | 2, 0 | 2, 1 | 2, _ + 3 => exact cm
    | _ + 3, 0 | _ + 3, 1 | _ + 3, 2 => exact cm
    | _ + 3, _ + 3 => exact cn
  · cases x <;> first | exact absurd w.out k | simp [SameArea, State.onFlow]

/-! ## Choices and repetitions -/

theorem kept_ite {A : Area → Prop} {a x y : State} {c : Prop} [Decidable c] (h : Kept A a x) (k : Kept A a y) : Kept A a (if c then x else y) := by
  split <;> assumption

theorem kept_ite_fst {α : Type} {A : Area → Prop} {a : State} {x y : State × α} {c : Prop} [Decidable c] (h : Kept A a x.1) (k : Kept A a y.1) :
    Kept A a (if c then x else y).1 := by
  split <;> assumption

theorem kept_ite_snd {α : Type} {A : Area → Prop} {a : State} {x y : α × State} {c : Prop} [Decidable c] (h : Kept A a x.2) (k : Kept A a y.2) :
    Kept A a (if c then x else y).2 := by
  split <;> assumption

theorem kept_when {A : Area → Prop} {a s : State} {b : Bool} {f : State → State} (h : Kept A a s) (hf : ∀ t, Kept A a t → Kept A a (f t)) :
    Kept A a (s.when b f) := by
  unfold State.when
  split
  · exact hf _ h
  · exact h

theorem kept_each {α : Type} {A : Area → Prop} {a s : State} {l : List α} {f : α → State → State} (h : Kept A a s)
    (hf : ∀ x t, Kept A a t → Kept A a (f x t)) : Kept A a (s.each l f) := by
  unfold State.each
  induction l generalizing s with
  | nil => exact h
  | cons x l ih => exact ih (hf _ _ h)

theorem kept_foldl {α : Type} {A : Area → Prop} {a s : State} {l : List α} {f : State → α → State} (h : Kept A a s)
    (hf : ∀ t x, Kept A a t → Kept A a (f t x)) : Kept A a (l.foldl f s) := by
  induction l generalizing s with
  | nil => exact h
  | cons x l ih => exact ih (hf _ _ h)

/-- A command's answer keeps what `Kept` says. -/
def Answer.kept (A : Area → Prop) (a : State) (r : Host.Outcome State Fault Refusal) : Prop := ∀ t, r = .next t → Kept A a t

theorem kept_next {A : Area → Prop} {a t : State} (h : Kept A a t) : Answer.kept A a (.next t) := by
  intro u hu; cases hu; exact h

theorem kept_answer_ite {A : Area → Prop} {a : State} {x y : Host.Outcome State Fault Refusal} {c : Prop} [Decidable c]
    (h : Answer.kept A a x) (k : Answer.kept A a y) : Answer.kept A a (if c then x else y) := by
  split <;> assumption

/-- The action of a hook keeps it. -/
def Hook.kept (A : Area → Prop) (k : Hook) : Prop := ∀ l s a, Kept A a s → Kept A a (k.act l s).1

theorem kept_hook_mk {A : Area → Prop} {r : State → Field → Nat → Nat} {f : List (Field × Nat) → State → State × Nat}
    (h : ∀ l s a, Kept A a s → Kept A a (f l s).1) : Hook.kept A ⟨r, f⟩ := h

theorem kept_hook_ite {A : Area → Prop} {x y : Hook} {c : Prop} [Decidable c] (h : x.kept A) (k : y.kept A) : (if c then x else y).kept A := by
  split <;> assumption

theorem kept_hook_plain {A : Area → Prop} : Hook.plain.kept A := fun _ _ _ h => h

theorem kept_hookAt {A : Area → Prop} {off : Nat} {l : List (Nat × Hook)} (h : ∀ p ∈ l, p.2.kept A) : (hookAt off l).kept A := by
  unfold hookAt
  cases hf : l.find? (fun p => p.1 = off) with
  | none => exact kept_hook_plain
  | some p => exact h p (List.mem_of_find?_eq_some hf)

/-- The members of a list written out. -/
theorem hooks_cons {A : Area → Prop} {p : Nat × Hook} {l : List (Nat × Hook)} (h : p.2.kept A)
    (k : ∀ q ∈ l, q.2.kept A) : ∀ q ∈ p :: l, q.2.kept A := List.forall_mem_cons.2 ⟨h, k⟩

theorem hooks_nil {A : Area → Prop} : ∀ q ∈ ([] : List (Nat × Hook)), q.2.kept A := by simp

end Sys2Proof.Machine
end

