-- ==== Sys2Proof/Laws/KeptOps.lean ====
section
/-! SUPPORT. What the operations of Machine/Ops.lean keep. -/

namespace Sys2Proof.Machine

theorem kept_addSat {A : Area → Prop} {a : State} {f : Field} {c : Nat} {s : State} (h : Kept A a s) : Kept A a
    (@State.addSat f c s) := by
  unfold State.addSat
  repeat' (first
    | with_reducible assumption
    | with_reducible apply kept_put)

theorem kept_addWrap {A : Area → Prop} {a : State} {f : Field} {c : Nat} {s : State} (h : Kept A a s) : Kept A a
    (@State.addWrap f c s) := by
  unfold State.addWrap
  repeat' (first
    | with_reducible assumption
    | with_reducible apply kept_put)

theorem kept_bump {A : Area → Prop} {a : State} {f : Field} {s : State} (h : Kept A a s) : Kept A a (@State.bump f s)
    := by
  unfold State.bump
  repeat' (first
    | with_reducible assumption
    | with_reducible apply kept_ite
    | with_reducible apply kept_addSat)

theorem kept_clear {A : Area → Prop} {a : State} {l : List Field} {s : State} (h : Kept A a s) : Kept A a
    (@State.clear l s) := by
  unfold State.clear
  repeat' (first
    | with_reducible assumption
    | with_reducible apply kept_put
    | with_reducible apply kept_ite
    | with_reducible refine kept_each ?_ (fun _ _ _ => ?_))

theorem kept_flag {A : Area → Prop} {a : State} {f : Field} {b : Bool} {s : State} (h : Kept A a s) : Kept A a
    (@State.flag f b s) := by
  unfold State.flag
  repeat' (first
    | with_reducible assumption
    | with_reducible apply kept_put)

theorem kept_raise {A : Area → Prop} {a : State} {N : Nat} {s : State} (h : Kept A a s) : Kept A a (@State.raise N s)
    := by
  unfold State.raise
  repeat' (first
    | with_reducible assumption
    | with_reducible apply kept_put
    | with_reducible apply kept_ite
    | with_reducible apply kept_bump)

theorem kept_pmcOverflow {A : Area → Prop} {a : State} {b : Nat} {i : Nat} {s : State} (h : Kept A a s) : Kept A a
    (@State.pmcOverflow b i s) := by
  unfold State.pmcOverflow
  repeat' (first
    | with_reducible assumption
    | with_reducible apply kept_put
    | with_reducible apply kept_ite
    | with_reducible apply kept_flag
    | with_reducible apply kept_raise)

theorem kept_pmcAdd {A : Area → Prop} {a : State} {b : Nat} {i : Nat} {c : Nat} {s : State} (h : Kept A a s) : Kept A
    a (@State.pmcAdd b i c s) := by
  unfold State.pmcAdd
  repeat' (first
    | with_reducible assumption
    | with_reducible apply kept_put
    | with_reducible apply kept_ite
    | with_reducible apply kept_pmcOverflow)

theorem kept_countFor {A : Area → Prop} {a : State} {b : Nat} {blk : PmcBlock} {ev : Nat} {c : Nat} {who : Option Nat}
    {s : State} (h : Kept A a s) : Kept A a (@State.countFor b blk ev c who s) := by
  unfold State.countFor
  repeat' (first
    | with_reducible assumption
    | with_reducible apply kept_ite
    | with_reducible refine kept_each ?_ (fun _ _ _ => ?_)
    | with_reducible apply kept_pmcAdd)

theorem kept_count {A : Area → Prop} {a : State} {b : Nat} {blk : PmcBlock} {ev : Nat} {s : State} (h : Kept A a s) :
    Kept A a (@State.count b blk ev s) := by
  unfold State.count
  repeat' (first
    | with_reducible assumption
    | with_reducible apply kept_ite
    | with_reducible apply kept_countFor)

theorem kept_countOcc {A : Area → Prop} {a : State} {b : Nat} {blk : PmcBlock} {ev : Nat} {occ : Nat} {c : Nat} {s :
    State} (h : Kept A a s) : Kept A a (@State.countOcc b blk ev occ c s) := by
  unfold State.countOcc
  repeat' (first
    | with_reducible assumption
    | with_reducible apply kept_ite
    | with_reducible refine kept_each ?_ (fun _ _ _ => ?_)
    | with_reducible apply kept_pmcAdd)

theorem kept_countOccOf {A : Area → Prop} {a : State} {b : Nat} {blk : PmcBlock} {ev : Nat} {occ : Nat → Nat} {cur :
    Nat} {s : State} (h : Kept A a s) : Kept A a (@State.countOccOf b blk ev occ cur s) := by
  unfold State.countOccOf
  repeat' (first
    | with_reducible assumption
    | with_reducible apply kept_ite
    | with_reducible refine kept_each ?_ (fun _ _ _ => ?_)
    | with_reducible apply kept_pmcAdd)

theorem kept_raiseCh {A : Area → Prop} {a : State} {n : Nat} {L : Nat} {s : State} (h : Kept A a s) : Kept A a
    (@State.raiseCh n L s) := by
  unfold State.raiseCh
  repeat' (first
    | with_reducible assumption
    | with_reducible apply kept_ite
    | with_reducible apply kept_raise)

theorem kept_pmcWrap {A : Area → Prop} {a : State} {n : Nat} {i : Nat} {s : State} (h : Kept A a s) : Kept A a
    (@State.pmcWrap n i s) := by
  unfold State.pmcWrap
  repeat' (first
    | with_reducible assumption
    | with_reducible apply kept_put
    | with_reducible apply kept_ite
    | with_reducible apply kept_flag
    | with_reducible apply kept_raiseCh)

theorem kept_put64 {A : Area → Prop} {a : State} {a_ : Nat} {v : Nat} {s : State} (h : Kept A a s) : Kept A a
    (@State.put64 a_ v s) := by
  unfold State.put64
  repeat' (first
    | with_reducible assumption
    | with_reducible apply kept_put)

theorem kept_putBit {A : Area → Prop} {a : State} {f : Field} {i : Nat} {b : Bool} {s : State} (h : Kept A a s) : Kept
    A a (@State.putBit f i b s) := by
  unfold State.putBit
  repeat' (first
    | with_reducible assumption
    | with_reducible apply kept_put)

theorem kept_putS {A : Area → Prop} {a : State} {f : Field} {i : Int} {s : State} (h : Kept A a s) : Kept A a
    (@State.putS f i s) := by
  unfold State.putS
  repeat' (first
    | with_reducible assumption
    | with_reducible apply kept_put)

theorem kept_secCount {A : Area → Prop} {a : State} {n : Nat} {i : Nat} {c : Nat} {s : State} (h : Kept A a s) : Kept
    A a (@State.secCount n i c s) := by
  unfold State.secCount
  repeat' (first
    | with_reducible assumption
    | with_reducible apply kept_put
    | with_reducible apply kept_ite
    | with_reducible refine kept_when ?_ (fun _ _ => ?_)
    | with_reducible apply kept_pmcWrap)

end Sys2Proof.Machine
end

