-- ==== Sys2Proof/Laws/KeptFlow.lean ====
section
/-! SUPPORT. What the operations of Machine/Flow.lean keep. -/

namespace Sys2Proof.Machine

/-- A flow operation that keeps the laws. -/
theorem kept_flowOp {A : Area → Prop} [Fact (A .flow)] {a s : State} (n : Nat) {f : Flow → Flow} (h : Kept A a s)
    (hf : ∀ g : Flow, g.conserved → (f g).conserved) : Kept A a (s.flowOp n f) := by
  unfold State.flowOp
  exact kept_each (kept_each (kept_onFlow n h hf) fun _ _ k => kept_pmcWrap (kept_putBit k)) fun _ _ k => kept_pmcOverflow k

end Sys2Proof.Machine
end

