-- ==== Sys2Proof/Laws/KeptModes.lean ====
section
/-! SUPPORT. What the operations of Machine/Modes.lean keep. -/

namespace Sys2Proof.Machine

theorem kept_onChan {A : Area → Prop} [Fact (A .ch)] {a : State} {n : Nat} {f : Chan → Chan} {s : State} (h : Kept A a
    s) : Kept A a (@State.onChan n f s) := by
  unfold State.onChan
  repeat' (first
    | with_reducible assumption
    | with_reducible exact Or.inl Fact.out
    | with_reducible exact Or.inr rfl
    | with_reducible apply kept_ite
    | with_reducible apply kept_mk)

theorem kept_rebudget {A : Area → Prop} {a : State} {n : Nat} {s : State} (h : Kept A a s) : Kept A a (@State.rebudget
    n s) := by
  unfold State.rebudget
  repeat' (first
    | with_reducible assumption
    | with_reducible apply kept_put)

theorem kept_tileSum {A : Area → Prop} {a : State} {n : Nat} {s : State} (h : Kept A a s) : Kept A a (@State.tileSum n
    s) := by
  unfold State.tileSum
  repeat' (first
    | with_reducible assumption
    | with_reducible apply kept_put
    | with_reducible apply kept_ite
    | with_reducible refine kept_foldl ?_ (fun _ _ _ => ?_)
    | split)

theorem kept_loadRx {A : Area → Prop} [Fact (A .ch)] {a : State} {n : Nat} {p : Nat} {s : State} (h : Kept A a s) :
    Kept A a (@State.loadRx n p s) := by
  unfold State.loadRx
  repeat' (first
    | with_reducible assumption
    | with_reducible apply kept_put
    | with_reducible apply kept_ite
    | with_reducible refine kept_when ?_ (fun _ _ => ?_)
    | with_reducible refine kept_each ?_ (fun _ _ _ => ?_)
    | with_reducible apply kept_onChan
    | with_reducible apply kept_rebudget
    | with_reducible apply kept_tileSum
    | with_reducible refine kept_foldl ?_ (fun _ _ _ => ?_)
    | split)

theorem kept_loadTx {A : Area → Prop} {a : State} {n : Nat} {p : Nat} {s : State} (h : Kept A a s) : Kept A a
    (@State.loadTx n p s) := by
  unfold State.loadTx
  repeat' (first
    | with_reducible assumption
    | with_reducible apply kept_put
    | with_reducible apply kept_ite
    | with_reducible apply kept_flag
    | with_reducible refine kept_foldl ?_ (fun _ _ _ => ?_)
    | split)

theorem kept_recompute {A : Area → Prop} {a : State} {n : Nat} {s : State} (h : Kept A a s) : Kept A a
    (@State.recompute n s) := by
  unfold State.recompute
  repeat' (first
    | with_reducible assumption
    | with_reducible apply kept_put
    | with_reducible apply kept_ite
    | with_reducible refine kept_each ?_ (fun _ _ _ => ?_)
    | with_reducible apply kept_flag
    | with_reducible refine kept_foldl ?_ (fun _ _ _ => ?_)
    | split)

theorem kept_showProfile {A : Area → Prop} {a : State} {n : Nat} {p : Nat} {pr : Profile} {s : State} (h : Kept A a s)
    : Kept A a (@State.showProfile n p pr s) := by
  unfold State.showProfile
  repeat' (first
    | with_reducible assumption
    | with_reducible apply kept_put)

end Sys2Proof.Machine
end

