-- ==== Sys2Proof/Laws/KeptClients.lean ====
section
/-! SUPPORT. What the operations of Machine/Clients.lean keep. -/

namespace Sys2Proof.Machine

theorem kept_dropFifo {A : Area → Prop} [Fact (A .ch)] {a : State} {n : Nat} {c : Nat} {s : State} (h : Kept A a s) :
    Kept A a (@State.dropFifo n c s) := by
  unfold State.dropFifo
  repeat' (first
    | with_reducible assumption
    | with_reducible apply kept_put
    | with_reducible apply kept_ite
    | with_reducible apply kept_onChan)

theorem kept_replaceEnter {A : Area → Prop} [Fact (A .flow)] {a : State} {n : Nat} {c : Nat} {s : State} (h : Kept A a
    s) : Kept A a (@State.replaceEnter n c s) := by
  unfold State.replaceEnter
  repeat' (first
    | with_reducible assumption
    | with_reducible apply kept_put
    | with_reducible apply kept_ite
    | with_reducible apply kept_bump
    | with_reducible apply kept_count
    | with_reducible refine kept_flowOp _ ?_ (fun _ _ => ?_)
    | with_reducible apply kept_raiseCh
    | with_reducible apply Flow.crdReclaim_conserved)

theorem kept_clientRefresh {A : Area → Prop} [Fact (A .flow)] [Fact (A .ch)] {a : State} {n : Nat} {c : Nat} {s :
    State} (h : Kept A a s) : Kept A a (@State.clientRefresh n c s) := by
  unfold State.clientRefresh
  repeat' (first
    | with_reducible assumption
    | with_reducible apply kept_put
    | with_reducible apply kept_ite
    | with_reducible refine kept_when ?_ (fun _ _ => ?_)
    | with_reducible apply kept_clear
    | with_reducible apply kept_dropFifo
    | with_reducible apply kept_flag
    | with_reducible apply kept_replaceEnter)

theorem kept_hstRates {A : Area → Prop} {a : State} {n : Nat} {s : State} (h : Kept A a s) : Kept A a (@State.hstRates
    n s) := by
  unfold State.hstRates
  repeat' (first
    | with_reducible assumption
    | with_reducible apply kept_put
    | with_reducible apply kept_ite
    | with_reducible refine kept_each ?_ (fun _ _ _ => ?_)
    | with_reducible apply kept_flag)

theorem kept_hstRefresh {A : Area → Prop} [Fact (A .flow)] [Fact (A .ch)] {a : State} {n : Nat} {s : State} (h : Kept
    A a s) : Kept A a (@State.hstRefresh n s) := by
  unfold State.hstRefresh
  repeat' (first
    | with_reducible assumption
    | with_reducible apply kept_ite
    | with_reducible refine kept_each ?_ (fun _ _ _ => ?_)
    | with_reducible apply kept_clientRefresh)

theorem kept_rxUp {A : Area → Prop} {a : State} {n : Nat} {s : State} (h : Kept A a s) : Kept A a (@State.rxUp n s) :=
    by
  unfold State.rxUp
  repeat' (first
    | with_reducible assumption
    | with_reducible apply kept_put)

theorem kept_takeFifo {A : Area → Prop} [Fact (A .ch)] [Fact (A .out)] {a : State} {n : Nat} {c : Nat} {k : Nat} {s :
    State} (h : Kept A a s) : Kept A a (@State.takeFifo n c k s) := by
  unfold State.takeFifo
  repeat' (first
    | with_reducible assumption
    | with_reducible apply kept_put
    | with_reducible apply kept_ite
    | with_reducible refine kept_when ?_ (fun _ _ => ?_)
    | with_reducible refine kept_each ?_ (fun _ _ _ => ?_)
    | with_reducible apply kept_emit
    | with_reducible apply kept_onChan)

end Sys2Proof.Machine
end

