-- ==== Sys2Proof/Laws/KeptSlices.lean ====
section
/-! SUPPORT. What the operations of Machine/Slices.lean keep. -/

namespace Sys2Proof.Machine

theorem kept_breach {A : Area → Prop} {a : State} {n : Nat} {b : Nat} {s : State} (h : Kept A a s) : Kept A a
    (@State.breach n b s) := by
  unfold State.breach
  repeat' (first
    | with_reducible assumption
    | with_reducible apply kept_ite
    | with_reducible apply kept_putBit)

theorem kept_fenceSlice {A : Area → Prop} {a : State} {n : Nat} {k : Nat} {s : State} (h : Kept A a s) : Kept A a
    (@State.fenceSlice n k s) := by
  unfold State.fenceSlice
  repeat' (first
    | with_reducible assumption
    | with_reducible apply kept_put
    | with_reducible apply kept_ite
    | with_reducible apply kept_breach)

theorem kept_convRates {A : Area → Prop} {a : State} {n : Nat} {s : State} (h : Kept A a s) : Kept A a
    (@State.convRates n s) := by
  unfold State.convRates
  repeat' (first
    | with_reducible assumption
    | with_reducible apply kept_put)

theorem kept_sliceSum {A : Area → Prop} {a : State} {n : Nat} {s : State} (h : Kept A a s) : Kept A a (@State.sliceSum
    n s) := by
  unfold State.sliceSum
  repeat' (first
    | with_reducible assumption
    | with_reducible apply kept_put
    | with_reducible apply kept_ite
    | with_reducible apply kept_flag)

theorem kept_freeSwap {A : Area → Prop} {a : State} {n : Nat} {w : Swap} {s : State} (h : Kept A a s) : Kept A a
    (@State.freeSwap n w s) := by
  unfold State.freeSwap
  repeat' (first
    | with_reducible assumption
    | with_reducible apply kept_put
    | with_reducible apply kept_ite
    | with_reducible refine kept_foldl ?_ (fun _ _ _ => ?_)
    | split)

theorem kept_placeSpare {A : Area → Prop} {a : State} {n : Nat} {w : Swap} {s : State} (h : Kept A a s) : Kept A a
    (@State.placeSpare n w s) := by
  unfold State.placeSpare
  repeat' (first
    | with_reducible assumption
    | with_reducible apply kept_put
    | with_reducible apply kept_ite
    | with_reducible refine kept_foldl ?_ (fun _ _ _ => ?_)
    | split)

theorem kept_spaceConv {A : Area → Prop} [Fact (A .ch)] {a : State} {n : Nat} {act : Nat} {c : Nat} {s : State} (h :
    Kept A a s) : Kept A a (@State.spaceConv n act c s) := by
  unfold State.spaceConv
  repeat' (first
    | with_reducible assumption
    | with_reducible apply kept_put
    | with_reducible apply kept_ite
    | with_reducible refine kept_when ?_ (fun _ _ => ?_)
    | with_reducible refine kept_each ?_ (fun _ _ _ => ?_)
    | with_reducible apply kept_fenceSlice
    | with_reducible apply kept_freeSwap
    | with_reducible apply kept_onChan
    | with_reducible apply kept_placeSpare)

theorem kept_spaceDir {A : Area → Prop} [Fact (A .ch)] {a : State} {n : Nat} {dir : Nat} {s : State} (h : Kept A a s)
    : Kept A a (@State.spaceDir n dir s) := by
  unfold State.spaceDir
  repeat' (first
    | with_reducible assumption
    | with_reducible apply kept_ite
    | with_reducible refine kept_each ?_ (fun _ _ _ => ?_)
    | with_reducible apply kept_convRates
    | with_reducible apply kept_sliceSum
    | with_reducible apply kept_spaceConv)

theorem kept_respaceCore {A : Area → Prop} [Fact (A .ch)] {a : State} {n : Nat} {dir : Nat} {s : State} (h : Kept A a
    s) : Kept A a (@State.respaceCore n dir s) := by
  unfold State.respaceCore
  repeat' (first
    | with_reducible assumption
    | with_reducible apply kept_ite
    | with_reducible refine kept_each ?_ (fun _ _ _ => ?_)
    | with_reducible apply kept_bump
    | with_reducible apply kept_count
    | with_reducible apply kept_fenceSlice
    | with_reducible apply kept_onChan
    | with_reducible apply kept_spaceDir
    | with_reducible refine kept_foldl ?_ (fun _ _ _ => ?_)
    | split)

theorem kept_substitute {A : Area → Prop} [Fact (A .ch)] {a : State} {n : Nat} {w : Swap} {s : State} (h : Kept A a s)
    : Kept A a (@State.substitute n w s) := by
  unfold State.substitute
  repeat' (first
    | with_reducible assumption
    | with_reducible apply kept_put
    | with_reducible apply kept_ite
    | with_reducible apply kept_bump
    | with_reducible apply kept_count
    | with_reducible apply kept_fenceSlice
    | with_reducible apply kept_onChan
    | with_reducible apply kept_sliceSum
    | with_reducible apply kept_spaceDir
    | with_reducible refine kept_foldl ?_ (fun _ _ _ => ?_)
    | split)

theorem kept_convDark {A : Area → Prop} [Fact (A .ch)] {a : State} {n : Nat} {s : State} (h : Kept A a s) : Kept A a
    (@State.convDark n s) := by
  unfold State.convDark
  repeat' (first
    | with_reducible assumption
    | with_reducible apply kept_ite
    | with_reducible refine kept_when ?_ (fun _ _ => ?_)
    | with_reducible refine kept_each ?_ (fun _ _ _ => ?_)
    | with_reducible apply kept_respaceCore
    | with_reducible apply kept_substitute)

theorem kept_driftFlag {A : Area → Prop} {a : State} {n : Nat} {k : Nat} {s : State} (h : Kept A a s) : Kept A a
    (@State.driftFlag n k s) := by
  unfold State.driftFlag
  repeat' (first
    | with_reducible assumption
    | with_reducible apply kept_ite
    | with_reducible apply kept_flag)

theorem kept_startShadow {A : Area → Prop} {a : State} {n : Nat} {w : Swap} {s : State} (h : Kept A a s) : Kept A a
    (@State.startShadow n w s).1 := by
  unfold State.startShadow
  repeat' (first
    | with_reducible assumption
    | with_reducible apply kept_put
    | with_reducible apply kept_ite
    | with_reducible apply kept_ite_fst
    | with_reducible apply kept_raiseCh
    | with_reducible refine kept_foldl ?_ (fun _ _ _ => ?_)
    | split)

theorem kept_shadowScan {A : Area → Prop} [Fact (A .ch)] {a : State} {n : Nat} {d l : List Swap} {s : State} (h : Kept
    A a s) : Kept A a (s.shadowScan n d l) := by
  induction l generalizing d s with
  | nil => exact kept_onChan h
  | cons w l ih => exact kept_ite (ih (kept_startShadow h)) (ih h)

theorem kept_startShadows {A : Area → Prop} [Fact (A .ch)] {a : State} {n : Nat} {s : State} (h : Kept A a s) : Kept A
    a (@State.startShadows n s) := by
  unfold State.startShadows
  repeat' (first
    | with_reducible assumption
    | with_reducible apply kept_ite
    | with_reducible apply kept_shadowScan
    | with_reducible apply kept_sliceSum)

theorem kept_regain {A : Area → Prop} [Fact (A .ch)] {a : State} {n : Nat} {c : Nat} {s : State} (h : Kept A a s) :
    Kept A a (@State.regain n c s) := by
  unfold State.regain
  repeat' (first
    | with_reducible assumption
    | with_reducible apply kept_ite
    | with_reducible apply kept_onChan
    | with_reducible apply kept_startShadows)

theorem kept_regainStop {A : Area → Prop} [Fact (A .ch)] {a : State} {n : Nat} {s : State} (h : Kept A a s) : Kept A a
    (@State.regainStop n s) := by
  unfold State.regainStop
  repeat' (first
    | with_reducible assumption
    | with_reducible apply kept_ite
    | with_reducible refine kept_when ?_ (fun _ _ => ?_)
    | with_reducible refine kept_each ?_ (fun _ _ _ => ?_)
    | with_reducible apply kept_freeSwap
    | with_reducible apply kept_onChan
    | with_reducible apply kept_startShadows)

theorem kept_shadowFail {A : Area → Prop} [Fact (A .ch)] {a : State} {n : Nat} {k : Nat} {s : State} (h : Kept A a s)
    : Kept A a (@State.shadowFail n k s) := by
  unfold State.shadowFail
  repeat' (first
    | with_reducible assumption
    | with_reducible apply kept_ite
    | with_reducible apply kept_fenceSlice
    | with_reducible apply kept_onChan
    | with_reducible apply kept_startShadows)

theorem kept_sliceMark {A : Area → Prop} {a : State} {n : Nat} {k : Nat} {cause : Nat} {s : State} (h : Kept A a s) :
    Kept A a (@State.sliceMark n k cause s) := by
  unfold State.sliceMark
  repeat' (first
    | with_reducible assumption
    | with_reducible apply kept_put
    | with_reducible apply kept_ite
    | with_reducible refine kept_when ?_ (fun _ _ => ?_)
    | with_reducible apply kept_count
    | with_reducible apply kept_raiseCh)

theorem kept_sliceFaultCore {A : Area → Prop} [Fact (A .ch)] {a : State} {n : Nat} {k : Nat} {cause : Nat} {s : State}
    (h : Kept A a s) : Kept A a (@State.sliceFaultCore n k cause s) := by
  unfold State.sliceFaultCore
  repeat' (first
    | with_reducible assumption
    | with_reducible apply kept_put
    | with_reducible apply kept_ite
    | with_reducible apply kept_fenceSlice
    | with_reducible apply kept_onChan
    | with_reducible apply kept_shadowFail
    | with_reducible apply kept_sliceMark
    | with_reducible apply kept_sliceSum
    | with_reducible apply kept_startShadows)

theorem kept_takeCor {A : Area → Prop} {a : State} {n : Nat} {k : Nat} {v : List Int} {s : State} (h : Kept A a s) :
    Kept A a (@State.takeCor n k v s) := by
  unfold State.takeCor
  repeat' (first
    | with_reducible assumption
    | with_reducible apply kept_ite
    | with_reducible refine kept_each ?_ (fun _ _ _ => ?_)
    | with_reducible apply kept_driftFlag
    | with_reducible apply kept_putS)

end Sys2Proof.Machine
end

