-- ==== Sys2Proof/Laws/KeptCalSets.lean ====
section
/-! SUPPORT. What the operations of Machine/CalSets.lean keep. -/

namespace Sys2Proof.Machine

theorem kept_boostLimit {A : Area → Prop} {a : State} {n : Nat} {s : State} (h : Kept A a s) : Kept A a
    (@State.boostLimit n s) := by
  unfold State.boostLimit
  repeat' (first
    | with_reducible assumption
    | with_reducible apply kept_put)

theorem kept_calLog {A : Area → Prop} {a : State} {event : Nat} {scope : Nat} {qty : Nat} {index : Nat} {value : Int}
    {limit : Int} {s : State} (h : Kept A a s) : Kept A a (@State.calLog event scope qty index value limit s) := by
  unfold State.calLog
  repeat' (first
    | with_reducible assumption
    | with_reducible apply kept_put
    | with_reducible apply kept_ite
    | with_reducible refine kept_when ?_ (fun _ _ => ?_)
    | with_reducible apply kept_addWrap
    | with_reducible apply kept_put64)

theorem kept_showSet {A : Area → Prop} {a : State} {sc : Nat} {r : Option Nat} {s : State} (h : Kept A a s) : Kept A a
    (@State.showSet sc r s) := by
  unfold State.showSet
  repeat' (first
    | with_reducible assumption
    | with_reducible apply kept_put
    | with_reducible apply kept_ite
    | with_reducible apply kept_flag
    | with_reducible apply kept_putS)

theorem kept_calFinish {A : Area → Prop} [Fact (A .sets)] {a : State} {s : State} (h : Kept A a s) : Kept A a
    (@State.calFinish s) := by
  unfold State.calFinish
  repeat' (first
    | with_reducible assumption
    | with_reducible exact Or.inl Fact.out
    | with_reducible exact Or.inr rfl
    | with_reducible apply kept_put
    | with_reducible apply kept_ite
    | with_reducible apply kept_calLog
    | with_reducible apply kept_raise
    | with_reducible apply kept_showSet
    | with_reducible refine kept_mk_forms ?_ ?_ ?_ ?_ ?_ ?_ ?_ ?_ ?_ ?_ ?_ ?_ ?_ ?_ ?_ ?_ ?_ ?_ ?_ ?_ ?_ (fun h => ?_) (fun h => ?_) (fun h => ?_) (fun h => ?_) (fun h => ?_) (fun h => ?_)
    | with_reducible exact memCopy_wf h)

theorem kept_calCheckEnd {A : Area → Prop} [Fact (A .sets)] {a : State} {s : State} (h : Kept A a s) : Kept A a
    (@State.calCheckEnd s) := by
  unfold State.calCheckEnd
  repeat' (first
    | with_reducible assumption
    | with_reducible apply kept_ite
    | with_reducible refine kept_when ?_ (fun _ _ => ?_)
    | with_reducible apply kept_calFinish)

theorem kept_skewLimit {A : Area → Prop} {a : State} {n : Nat} {l : Nat} {s : State} (h : Kept A a s) : Kept A a
    (@State.skewLimit n l s) := by
  unfold State.skewLimit
  repeat' (first
    | with_reducible assumption
    | with_reducible apply kept_ite
    | with_reducible apply kept_putBit)

theorem memCopies_wf {src : List Host.Cell} {b c : Nat} {l : List (Nat × Nat)} {m : List Host.Cell} (h : memWf m =
    true) :
    memWf (l.foldl (fun a r => memCopy src (b + r.1) (c + r.1) r.2 a) m) = true := by
  induction l generalizing m with
  | nil => exact h
  | cons r l ih => exact ih (memCopy_wf h)

theorem kept_useElement {A : Area → Prop} [Fact (A .applied)] {a : State} {sc e : Nat} {m : List Host.Cell} {b : Nat}
    {s : State} (h : Kept A a s) :
    Kept A a (s.useElement sc e m b) := by
  have k : Kept A a { s with applied :=
      (elementRanges sc e).foldl (fun a r => memCopy m (b + r.1) (setBase sc + r.1) r.2 a) s.applied } :=
    kept_mk_forms h (Or.inr rfl) (Or.inr rfl) (Or.inr rfl) (Or.inr rfl) (Or.inr rfl) (Or.inr rfl) (Or.inr rfl) (Or.inr rfl) (Or.inr rfl) (Or.inr rfl) (Or.inr rfl) (Or.inr rfl) (Or.inr rfl) (Or.inr rfl) (Or.inr rfl) (Or.inr rfl) (Or.inr rfl) (Or.inr rfl) (Or.inl Fact.out) (Or.inr rfl) id id id id (fun c => memCopies_wf c) id
  unfold State.useElement
  exact kept_ite k (kept_ite (kept_takeCor k) (kept_ite (kept_boostLimit (kept_skewLimit (kept_put _ _ k)))
    (kept_ite (kept_each k fun _ _ j => kept_put _ _ j) k)))

theorem kept_takeElement {A : Area → Prop} [Fact (A .applied)] {a : State} {sc : Nat} {e : Nat} {m : List Host.Cell}
    {b : Nat} {s : State} (h : Kept A a s) : Kept A a (@State.takeElement sc e m b s) := by
  unfold State.takeElement
  repeat' (first
    | with_reducible assumption
    | with_reducible apply kept_ite
    | with_reducible apply kept_calLog
    | with_reducible apply kept_useElement)

theorem kept_calBoundary {A : Area → Prop} [Fact (A .sets)] [Fact (A .applied)] [Fact (A .calWait)] {a : State} {n :
    Nat} {p : Nat → Bool} {s : State} (h : Kept A a s) : Kept A a (@State.calBoundary n p s) := by
  unfold State.calBoundary
  repeat' (first
    | with_reducible assumption
    | with_reducible exact Or.inl Fact.out
    | with_reducible exact Or.inr rfl
    | with_reducible apply kept_ite
    | with_reducible refine kept_each ?_ (fun _ _ _ => ?_)
    | with_reducible apply kept_calCheckEnd
    | with_reducible apply kept_takeElement
    | with_reducible apply kept_mk)

theorem kept_calElementNow {A : Area → Prop} [Fact (A .applied)] {a : State} {s : State} (h : Kept A a s) : Kept A a
    (@State.calElementNow s) := by
  unfold State.calElementNow
  repeat' (first
    | with_reducible assumption
    | with_reducible apply kept_put
    | with_reducible apply kept_ite
    | with_reducible refine kept_when ?_ (fun _ _ => ?_)
    | with_reducible apply kept_takeElement)

theorem kept_calDark {A : Area → Prop} [Fact (A .sets)] [Fact (A .applied)] [Fact (A .calWait)] {a : State} {n : Nat}
    {s : State} (h : Kept A a s) : Kept A a (@State.calDark n s) := by
  unfold State.calDark
  repeat' (first
    | with_reducible assumption
    | with_reducible exact Or.inl Fact.out
    | with_reducible exact Or.inr rfl
    | with_reducible apply kept_put
    | with_reducible apply kept_ite
    | with_reducible refine kept_when ?_ (fun _ _ => ?_)
    | with_reducible refine kept_each ?_ (fun _ _ _ => ?_)
    | with_reducible apply kept_calCheckEnd
    | with_reducible apply kept_calElementNow
    | with_reducible apply kept_takeElement
    | with_reducible apply kept_mk)

theorem kept_calElementCommit {A : Area → Prop} [Fact (A .calWait)] {a : State} {s : State} (h : Kept A a s) : Kept A
    a (@State.calElementCommit s) := by
  unfold State.calElementCommit
  repeat' (first
    | with_reducible assumption
    | with_reducible exact Or.inl Fact.out
    | with_reducible exact Or.inr rfl
    | with_reducible apply kept_put
    | with_reducible apply kept_ite
    | with_reducible apply kept_mk)

theorem kept_calPause {A : Area → Prop} {a : State} {n : Nat} {why : Nat} {s : State} (h : Kept A a s) : Kept A a
    (@State.calPause n why s) := by
  unfold State.calPause
  repeat' (first
    | with_reducible assumption
    | with_reducible apply kept_put
    | with_reducible apply kept_ite
    | with_reducible refine kept_when ?_ (fun _ _ => ?_)
    | with_reducible apply kept_calLog)

end Sys2Proof.Machine
end

