-- ==== Sys2Proof/Laws/KeptControl.lean ====
section
/-! SUPPORT. What the operations of Machine/Control.lean keep. -/

namespace Sys2Proof.Machine

theorem kept_acqBegin {A : Area → Prop} [Fact (A .ch)] {a : State} {n : Nat} {s : State} (h : Kept A a s) : Kept A a
    (@State.acqBegin n s) := by
  unfold State.acqBegin
  repeat' (first
    | with_reducible assumption
    | with_reducible apply kept_put
    | with_reducible apply kept_ite
    | with_reducible apply kept_loadRx)

theorem kept_stagesStop {A : Area → Prop} {a : State} {n : Nat} {s : State} (h : Kept A a s) : Kept A a
    (@State.stagesStop n s) := by
  unfold State.stagesStop
  repeat' (first
    | with_reducible assumption
    | with_reducible apply kept_ite
    | with_reducible apply kept_clear)

theorem kept_unagree {A : Area → Prop} {a : State} {n : Nat} {s : State} (h : Kept A a s) : Kept A a (@State.unagree n
    s) := by
  unfold State.unagree
  repeat' (first
    | with_reducible assumption
    | with_reducible apply kept_ite
    | with_reducible apply kept_clear)

theorem kept_warmStart {A : Area → Prop} {a : State} {n : Nat} {s : State} (h : Kept A a s) : Kept A a
    (@State.warmStart n s) := by
  unfold State.warmStart
  repeat' (first
    | with_reducible assumption
    | with_reducible apply kept_put
    | with_reducible apply kept_ite
    | with_reducible apply kept_stagesStop
    | with_reducible apply kept_unagree)

theorem kept_acqResume {A : Area → Prop} {a : State} {n : Nat} {s : State} (h : Kept A a s) : Kept A a
    (@State.acqResume n s) := by
  unfold State.acqResume
  repeat' (first
    | with_reducible assumption
    | with_reducible apply kept_ite
    | with_reducible refine kept_when ?_ (fun _ _ => ?_)
    | with_reducible apply kept_warmStart)

theorem kept_agcFreeze {A : Area → Prop} {a : State} {n : Nat} {s : State} (h : Kept A a s) : Kept A a
    (@State.agcFreeze n s) := by
  unfold State.agcFreeze
  repeat' (first
    | with_reducible assumption
    | with_reducible apply kept_put
    | with_reducible apply kept_ite
    | with_reducible refine kept_when ?_ (fun _ _ => ?_)
    | with_reducible apply kept_count)

theorem kept_agcRest {A : Area → Prop} {a : State} {n : Nat} {s : State} (h : Kept A a s) : Kept A a (@State.agcRest n
    s) := by
  unfold State.agcRest
  repeat' (first
    | with_reducible assumption
    | with_reducible apply kept_ite
    | with_reducible apply kept_clear)

theorem kept_chipRest {A : Area → Prop} {a : State} {n : Nat} {st : Nat} {s : State} (h : Kept A a s) : Kept A a
    (@State.chipRest n st s) := by
  unfold State.chipRest
  repeat' (first
    | with_reducible assumption
    | with_reducible apply kept_put)

theorem kept_iscMode {A : Area → Prop} {a : State} {n : Nat} {s : State} (h : Kept A a s) : Kept A a (@State.iscMode n
    s) := by
  unfold State.iscMode
  repeat' (first
    | with_reducible assumption
    | with_reducible apply kept_put
    | with_reducible apply kept_ite
    | with_reducible apply kept_chipRest
    | with_reducible apply kept_flag)

theorem kept_oorRefresh {A : Area → Prop} {a : State} {n : Nat} {s : State} (h : Kept A a s) : Kept A a
    (@State.oorRefresh n s) := by
  unfold State.oorRefresh
  repeat' (first
    | with_reducible assumption
    | with_reducible apply kept_ite
    | with_reducible refine kept_when ?_ (fun _ _ => ?_)
    | with_reducible apply kept_flag)

theorem kept_takeFramed {A : Area → Prop} [Fact (A .ch)] {a : State} {n : Nat} {f : Field} {v : Nat} {s : State} (h :
    Kept A a s) : Kept A a (@State.takeFramed n f v s) := by
  unfold State.takeFramed
  repeat' (first
    | with_reducible assumption
    | with_reducible apply kept_put
    | with_reducible apply kept_ite
    | with_reducible refine kept_when ?_ (fun _ _ => ?_)
    | with_reducible apply kept_boostLimit
    | with_reducible apply kept_iscMode
    | with_reducible apply kept_loadRx
    | with_reducible apply kept_loadTx
    | with_reducible apply kept_oorRefresh
    | with_reducible apply kept_skewLimit
    | with_reducible refine kept_foldl ?_ (fun _ _ _ => ?_))

theorem kept_applyFramed {A : Area → Prop} [Fact (A .ch)] {a : State} {n : Nat} {s : State} (h : Kept A a s) : Kept A
    a (@State.applyFramed n s) := by
  unfold State.applyFramed
  repeat' (first
    | with_reducible assumption
    | with_reducible apply kept_put
    | with_reducible apply kept_ite
    | with_reducible refine kept_each ?_ (fun _ _ _ => ?_)
    | with_reducible apply kept_onChan
    | with_reducible apply kept_takeFramed)

theorem kept_biasShow {A : Area → Prop} {a : State} {n : Nat} {s : State} (h : Kept A a s) : Kept A a (@State.biasShow
    n s) := by
  unfold State.biasShow
  repeat' (first
    | with_reducible assumption
    | with_reducible apply kept_put)

theorem kept_biasEval {A : Area → Prop} {a : State} {n : Nat} {s : State} (h : Kept A a s) : Kept A a (@State.biasEval
    n s) := by
  unfold State.biasEval
  repeat' (first
    | with_reducible assumption
    | with_reducible apply kept_put
    | with_reducible apply kept_ite
    | with_reducible refine kept_each ?_ (fun _ _ _ => ?_)
    | with_reducible apply kept_biasShow
    | with_reducible apply kept_clear)

theorem kept_requestV {A : Area → Prop} {a : State} {v : Nat} {s : State} (h : Kept A a s) : Kept A a (@State.requestV
    v s) := by
  unfold State.requestV
  repeat' (first
    | with_reducible assumption
    | with_reducible apply kept_put
    | with_reducible apply kept_ite
    | with_reducible apply kept_count
    | with_reducible apply kept_flag)

theorem kept_boost {A : Area → Prop} {a : State} {n : Nat} {s : State} (h : Kept A a s) : Kept A a (@State.boost n s)
    := by
  unfold State.boost
  repeat' (first
    | with_reducible assumption
    | with_reducible apply kept_ite
    | with_reducible refine kept_when ?_ (fun _ _ => ?_)
    | with_reducible apply kept_putBit
    | with_reducible apply kept_requestV)

theorem kept_refuseEnable {A : Area → Prop} {a : State} {n : Nat} {cause : Nat} {s : State} (h : Kept A a s) : Kept A
    a (@State.refuseEnable n cause s) := by
  unfold State.refuseEnable
  repeat' (first
    | with_reducible assumption
    | with_reducible apply kept_put)

theorem kept_request {A : Area → Prop} [Fact (A .votes)] {a : State} {v : Vote} {s : State} (h : Kept A a s) : Kept A
    a (@State.request v s) := by
  unfold State.request
  repeat' (first
    | with_reducible assumption
    | with_reducible exact Or.inl Fact.out
    | with_reducible exact Or.inr rfl
    | with_reducible apply kept_ite
    | with_reducible apply kept_mk)

theorem kept_requestEnable {A : Area → Prop} [Fact (A .votes)] {a : State} {n : Nat} {s : State} (h : Kept A a s) :
    Kept A a (@State.requestEnable n s) := by
  unfold State.requestEnable
  repeat' (first
    | with_reducible assumption
    | with_reducible apply kept_put
    | with_reducible apply kept_ite
    | with_reducible apply kept_refuseEnable
    | with_reducible apply kept_request)

theorem kept_calRelease {A : Area → Prop} [Fact (A .votes)] {a : State} {s : State} (h : Kept A a s) : Kept A a
    (@State.calRelease s) := by
  unfold State.calRelease
  repeat' (first
    | with_reducible assumption
    | with_reducible apply kept_ite
    | with_reducible refine kept_when ?_ (fun _ _ => ?_)
    | with_reducible apply kept_requestEnable)

theorem kept_withdraw {A : Area → Prop} [Fact (A .votes)] {a : State} {v : Vote} {s : State} (h : Kept A a s) : Kept A
    a (s.withdraw v) := by
  unfold State.withdraw
  split
  · exact h
  · exact kept_ite (kept_mk h (Or.inr rfl) (Or.inr rfl) (Or.inr rfl) (Or.inl Fact.out) (Or.inr rfl) (Or.inr rfl) (Or.inr rfl) (Or.inr rfl) (Or.inr rfl) (Or.inr rfl) (Or.inr rfl) (Or.inr rfl) (Or.inr rfl) (Or.inr rfl) (Or.inr rfl)) (kept_mk h (Or.inr rfl) (Or.inr rfl) (Or.inr rfl) (Or.inl Fact.out) (Or.inr rfl) (Or.inr rfl) (Or.inr rfl) (Or.inr rfl) (Or.inr rfl) (Or.inr rfl) (Or.inr rfl) (Or.inr rfl) (Or.inr rfl) (Or.inr rfl) (Or.inr rfl))

theorem kept_withdrawCal {A : Area → Prop} [Fact (A .votes)] {a : State} {s : State} (h : Kept A a s) : Kept A a
    (@State.withdrawCal s) := by
  unfold State.withdrawCal
  repeat' (first
    | with_reducible assumption
    | with_reducible apply kept_ite
    | with_reducible apply kept_withdraw)

theorem kept_calFail {A : Area → Prop} [Fact (A .votes)] {a : State} {cause : Nat} {s : State} (h : Kept A a s) : Kept
    A a (@State.calFail cause s) := by
  unfold State.calFail
  repeat' (first
    | with_reducible assumption
    | with_reducible apply kept_put
    | with_reducible apply kept_ite
    | with_reducible refine kept_when ?_ (fun _ _ => ?_)
    | with_reducible apply kept_calLog
    | with_reducible apply kept_calRelease
    | with_reducible apply kept_raise
    | with_reducible apply kept_withdrawCal)

theorem kept_declareLof {A : Area → Prop} [Fact (A .ch)] {a : State} {n : Nat} {s : State} (h : Kept A a s) : Kept A a
    (@State.declareLof n s) := by
  unfold State.declareLof
  repeat' (first
    | with_reducible assumption
    | with_reducible apply kept_put
    | with_reducible apply kept_ite
    | with_reducible refine kept_when ?_ (fun _ _ => ?_)
    | with_reducible apply kept_bump
    | with_reducible apply kept_onChan
    | with_reducible apply kept_raiseCh)

theorem kept_hunt {A : Area → Prop} [Fact (A .ch)] {a : State} {n : Nat} {s : State} (h : Kept A a s) : Kept A a
    (@State.hunt n s) := by
  unfold State.hunt
  repeat' (first
    | with_reducible assumption
    | with_reducible apply kept_put
    | with_reducible apply kept_ite
    | with_reducible refine kept_when ?_ (fun _ _ => ?_)
    | with_reducible apply kept_declareLof)

theorem kept_clearAlign {A : Area → Prop} [Fact (A .ch)] {a : State} {n : Nat} {s : State} (h : Kept A a s) : Kept A a
    (@State.clearAlign n s) := by
  unfold State.clearAlign
  repeat' (first
    | with_reducible assumption
    | with_reducible apply kept_put
    | with_reducible apply kept_ite
    | with_reducible apply kept_hunt)

theorem kept_cmtRefuse {A : Area → Prop} [Fact (A .votes)] {a : State} {n : Nat} {cause : Nat} {s : State} (h : Kept A
    a s) : Kept A a (@State.cmtRefuse n cause s) := by
  unfold State.cmtRefuse
  repeat' (first
    | with_reducible assumption
    | with_reducible apply kept_put
    | with_reducible apply kept_ite
    | with_reducible apply kept_count
    | with_reducible apply kept_raiseCh
    | with_reducible apply kept_withdraw)

theorem kept_coarseDone {A : Area → Prop} [Fact (A .ch)] {a : State} {n : Nat} {est : Int} {s : State} (h : Kept A a
    s) : Kept A a (@State.coarseDone n est s) := by
  unfold State.coarseDone
  repeat' (first
    | with_reducible assumption
    | with_reducible apply kept_put
    | with_reducible apply kept_ite
    | with_reducible refine kept_when ?_ (fun _ _ => ?_)
    | with_reducible apply kept_acqBegin
    | with_reducible apply kept_flag
    | with_reducible apply kept_putS)

theorem kept_coarseStart {A : Area → Prop} [Fact (A .ch)] {a : State} {n : Nat} {s : State} (h : Kept A a s) : Kept A
    a (@State.coarseStart n s) := by
  unfold State.coarseStart
  repeat' (first
    | with_reducible assumption
    | with_reducible apply kept_put
    | with_reducible apply kept_ite
    | with_reducible refine kept_when ?_ (fun _ _ => ?_)
    | with_reducible apply kept_chipRest
    | with_reducible apply kept_coarseDone)

theorem kept_darken {A : Area → Prop} {a : State} {n : Nat} {s : State} (h : Kept A a s) : Kept A a (@State.darken n
    s) := by
  unfold State.darken
  repeat' (first
    | with_reducible assumption
    | with_reducible apply kept_put
    | with_reducible apply kept_ite
    | with_reducible refine kept_when ?_ (fun _ _ => ?_)
    | with_reducible apply kept_biasEval
    | with_reducible apply kept_putS)

theorem kept_endBoost {A : Area → Prop} {a : State} {n : Nat} {s : State} (h : Kept A a s) : Kept A a (@State.endBoost
    n s) := by
  unfold State.endBoost
  repeat' (first
    | with_reducible assumption
    | with_reducible apply kept_ite
    | with_reducible apply kept_putBit)

theorem kept_flushReceive {A : Area → Prop} [Fact (A .flow)] [Fact (A .ch)] {a : State} {n : Nat} {s : State} (h :
    Kept A a s) : Kept A a (@State.flushReceive n s) := by
  unfold State.flushReceive
  repeat' (first
    | with_reducible assumption
    | with_reducible apply kept_put
    | with_reducible apply kept_ite
    | with_reducible refine kept_flowOp _ ?_ (fun _ _ => ?_)
    | with_reducible apply kept_onChan
    | with_reducible apply Flow.flushRx_conserved)

theorem kept_rszFail {A : Area → Prop} [Fact (A .ch)] [Fact (A .votes)] {a : State} {n : Nat} {cause : Nat} {s :
    State} (h : Kept A a s) : Kept A a (@State.rszFail n cause s) := by
  unfold State.rszFail
  repeat' (first
    | with_reducible assumption
    | with_reducible apply kept_put
    | with_reducible apply kept_ite
    | with_reducible apply kept_onChan
    | with_reducible apply kept_raiseCh
    | with_reducible apply kept_withdraw)

theorem kept_unconverge {A : Area → Prop} {a : State} {n : Nat} {s : State} (h : Kept A a s) : Kept A a
    (@State.unconverge n s) := by
  unfold State.unconverge
  repeat' (first
    | with_reducible assumption
    | with_reducible apply kept_put)

theorem kept_fallBack {A : Area → Prop} [Fact (A .flow)] [Fact (A .ch)] [Fact (A .votes)] {a : State} {n : Nat} {s :
    State} (h : Kept A a s) : Kept A a (@State.fallBack n s) := by
  unfold State.fallBack
  repeat' (first
    | with_reducible assumption
    | with_reducible apply kept_put
    | with_reducible apply kept_ite
    | with_reducible refine kept_when ?_ (fun _ _ => ?_)
    | with_reducible refine kept_each ?_ (fun _ _ _ => ?_)
    | with_reducible apply kept_clearAlign
    | with_reducible apply kept_flushReceive
    | with_reducible apply kept_hstRefresh
    | with_reducible apply kept_rszFail
    | with_reducible apply kept_unconverge
    | with_reducible apply kept_warmStart)

theorem kept_flushTransmit {A : Area → Prop} [Fact (A .flow)] [Fact (A .ch)] {a : State} {n : Nat} {s : State} (h :
    Kept A a s) : Kept A a (@State.flushTransmit n s) := by
  unfold State.flushTransmit
  repeat' (first
    | with_reducible assumption
    | with_reducible apply kept_ite
    | with_reducible refine kept_flowOp _ ?_ (fun _ _ => ?_)
    | with_reducible apply kept_onChan
    | with_reducible apply Flow.flushTx_conserved)

theorem kept_iscDark {A : Area → Prop} [Fact (A .ch)] {a : State} {n : Nat} {s : State} (h : Kept A a s) : Kept A a
    (@State.iscDark n s) := by
  unfold State.iscDark
  repeat' (first
    | with_reducible assumption
    | with_reducible apply kept_put
    | with_reducible apply kept_ite
    | with_reducible apply kept_chipRest
    | with_reducible apply kept_onChan)

theorem kept_ldsDark {A : Area → Prop} [Fact (A .ch)] {a : State} {n : Nat} {s : State} (h : Kept A a s) : Kept A a
    (@State.ldsDark n s) := by
  unfold State.ldsDark
  repeat' (first
    | with_reducible assumption
    | with_reducible apply kept_ite
    | with_reducible apply kept_clear
    | with_reducible apply kept_onChan
    | with_reducible apply kept_stagesStop
    | with_reducible apply kept_unagree
    | with_reducible apply kept_unconverge)

theorem kept_rollFail {A : Area → Prop} [Fact (A .votes)] {a : State} {n : Nat} {cause : Nat} {s : State} (h : Kept A
    a s) : Kept A a (@State.rollFail n cause s) := by
  unfold State.rollFail
  repeat' (first
    | with_reducible assumption
    | with_reducible apply kept_put
    | with_reducible apply kept_ite
    | with_reducible apply kept_raiseCh
    | with_reducible apply kept_withdraw)

theorem kept_rszDark {A : Area → Prop} [Fact (A .ch)] [Fact (A .votes)] {a : State} {n : Nat} {cause : Nat} {s :
    State} (h : Kept A a s) : Kept A a (@State.rszDark n cause s) := by
  unfold State.rszDark
  repeat' (first
    | with_reducible assumption
    | with_reducible apply kept_put
    | with_reducible apply kept_ite
    | with_reducible refine kept_when ?_ (fun _ _ => ?_)
    | with_reducible apply kept_rszFail)

theorem kept_trbStat {A : Area → Prop} {a : State} {n : Nat} {s : State} (h : Kept A a s) : Kept A a (@State.trbStat n
    s) := by
  unfold State.trbStat
  repeat' (first
    | with_reducible assumption
    | with_reducible apply kept_put)

theorem kept_tribsDark {A : Area → Prop} [Fact (A .flow)] [Fact (A .ch)] [Fact (A .votes)] {a : State} {n : Nat} {s :
    State} (h : Kept A a s) : Kept A a (@State.tribsDark n s) := by
  unfold State.tribsDark
  repeat' (first
    | with_reducible assumption
    | with_reducible apply kept_put
    | with_reducible apply kept_ite
    | with_reducible refine kept_when ?_ (fun _ _ => ?_)
    | with_reducible refine kept_each ?_ (fun _ _ _ => ?_)
    | with_reducible apply kept_cmtRefuse
    | with_reducible refine kept_flowOp _ ?_ (fun _ _ => ?_)
    | with_reducible apply kept_hstRefresh
    | with_reducible apply kept_trbStat
    | with_reducible apply Flow.crdReclaim_conserved)

theorem kept_leaveService {A : Area → Prop} [Fact (A .flow)] [Fact (A .ch)] [Fact (A .votes)] {a : State} {n : Nat}
    {cause : Nat} {s : State} (h : Kept A a s) : Kept A a (@State.leaveService n cause s) := by
  unfold State.leaveService
  repeat' (first
    | with_reducible assumption
    | with_reducible apply kept_put
    | with_reducible apply kept_ite
    | with_reducible refine kept_when ?_ (fun _ _ => ?_)
    | with_reducible apply kept_agcRest
    | with_reducible apply kept_applyFramed
    | with_reducible apply kept_clearAlign
    | with_reducible apply kept_flushReceive
    | with_reducible apply kept_flushTransmit
    | with_reducible apply kept_iscDark
    | with_reducible apply kept_ldsDark
    | with_reducible apply kept_rollFail
    | with_reducible apply kept_rszDark
    | with_reducible apply kept_tribsDark)

theorem kept_enter {A : Area → Prop} [Fact (A .flow)] [Fact (A .ch)] [Fact (A .votes)] [Fact (A .sets)] [Fact (A
    .applied)] [Fact (A .calWait)] {a : State} {n : Nat} {st : Nat} {cause : Nat} {s : State} (h : Kept A a s) : Kept
    A a (@State.enter n st cause s) := by
  unfold State.enter
  repeat' (first
    | with_reducible assumption
    | with_reducible apply kept_ite
    | with_reducible refine kept_when ?_ (fun _ _ => ?_)
    | with_reducible apply kept_calDark
    | with_reducible apply kept_calPause
    | with_reducible apply kept_clearAlign
    | with_reducible apply kept_convDark
    | with_reducible apply kept_endBoost
    | with_reducible apply kept_fallBack
    | with_reducible apply kept_flushReceive
    | with_reducible apply kept_leaveService
    | with_reducible apply kept_recompute)

theorem kept_setMode {A : Area → Prop} {a : State} {m : Nat} {s : State} (h : Kept A a s) : Kept A a (@State.setMode m
    s) := by
  unfold State.setMode
  repeat' (first
    | with_reducible assumption
    | with_reducible apply kept_put
    | with_reducible apply kept_ite
    | with_reducible apply kept_raise)

theorem kept_evalMode {A : Area → Prop} {a : State} {s : State} (h : Kept A a s) : Kept A a (@State.evalMode s) := by
  unfold State.evalMode
  repeat' (first
    | with_reducible assumption
    | with_reducible apply kept_put
    | with_reducible apply kept_ite
    | with_reducible apply kept_setMode)

theorem kept_setCh {A : Area → Prop} [Fact (A .flow)] [Fact (A .ch)] [Fact (A .votes)] [Fact (A .sets)] [Fact (A
    .applied)] [Fact (A .calWait)] {a : State} {n : Nat} {st : Nat} {cause : Nat} {s : State} (h : Kept A a s) : Kept
    A a (@State.setCh n st cause s) := by
  unfold State.setCh
  repeat' (first
    | with_reducible assumption
    | with_reducible apply kept_put
    | with_reducible apply kept_ite
    | with_reducible refine kept_when ?_ (fun _ _ => ?_)
    | with_reducible refine kept_each ?_ (fun _ _ _ => ?_)
    | with_reducible apply kept_darken
    | with_reducible apply kept_enter
    | with_reducible apply kept_evalMode
    | with_reducible apply kept_putBit
    | with_reducible apply kept_raiseCh
    | with_reducible apply kept_regain
    | with_reducible apply kept_regainStop)

theorem kept_cut {A : Area → Prop} [Fact (A .flow)] [Fact (A .ch)] [Fact (A .votes)] [Fact (A .sets)] [Fact (A
    .applied)] [Fact (A .calWait)] {a : State} {n : Nat} {cause : Nat} {s : State} (h : Kept A a s) : Kept A a
    (@State.cut n cause s) := by
  unfold State.cut
  repeat' (first
    | with_reducible assumption
    | with_reducible apply kept_ite
    | with_reducible refine kept_when ?_ (fun _ _ => ?_)
    | with_reducible apply kept_darken
    | with_reducible apply kept_setCh)

theorem kept_fenceChannel {A : Area → Prop} [Fact (A .flow)] [Fact (A .ch)] [Fact (A .votes)] [Fact (A .sets)] [Fact
    (A .applied)] [Fact (A .calWait)] {a : State} {n : Nat} {s : State} (h : Kept A a s) : Kept A a
    (@State.fenceChannel n s) := by
  unfold State.fenceChannel
  repeat' (first
    | with_reducible assumption
    | with_reducible apply kept_ite
    | with_reducible apply kept_biasEval
    | with_reducible apply kept_breach
    | with_reducible apply kept_darken
    | with_reducible apply kept_setCh)

theorem kept_loseFrame {A : Area → Prop} [Fact (A .flow)] [Fact (A .ch)] [Fact (A .votes)] [Fact (A .sets)] [Fact (A
    .applied)] [Fact (A .calWait)] {a : State} {n : Nat} {s : State} (h : Kept A a s) : Kept A a (@State.loseFrame n
    s) := by
  unfold State.loseFrame
  repeat' (first
    | with_reducible assumption
    | with_reducible apply kept_ite
    | with_reducible apply kept_clearAlign
    | with_reducible apply kept_setCh)

theorem kept_queue {A : Area → Prop} [Fact (A .ch)] {a : State} {n : Nat} {m : Msg} {s : State} (h : Kept A a s) :
    Kept A a (@State.queue n m s) := by
  unfold State.queue
  repeat' (first
    | with_reducible assumption
    | with_reducible apply kept_ite
    | with_reducible apply kept_onChan)

theorem kept_reclaim {A : Area → Prop} [Fact (A .flow)] {a : State} {n : Nat} {c : Nat} {s : State} (h : Kept A a s) :
    Kept A a (@State.reclaim n c s) := by
  unfold State.reclaim
  repeat' (first
    | with_reducible assumption
    | with_reducible apply kept_ite
    | with_reducible refine kept_flowOp _ ?_ (fun _ _ => ?_)
    | with_reducible apply Flow.crdReclaim_conserved)

theorem kept_refuse {A : Area → Prop} {a : State} {win : Nat} {addr : Nat} {value : Nat} {reason : Nat} {read : Bool}
    {s : State} (h : Kept A a s) : Kept A a (@State.refuse win addr value reason read s) := by
  unfold State.refuse
  repeat' (first
    | with_reducible assumption
    | with_reducible apply kept_put
    | with_reducible apply kept_ite
    | with_reducible refine kept_when ?_ (fun _ _ => ?_)
    | with_reducible apply kept_addWrap
    | with_reducible apply kept_bump
    | with_reducible apply kept_count
    | with_reducible apply kept_flag
    | with_reducible apply kept_put64
    | with_reducible apply kept_raise)

theorem kept_refuseMode {A : Area → Prop} [Fact (A .flow)] [Fact (A .ch)] [Fact (A .votes)] [Fact (A .sets)] [Fact (A
    .applied)] [Fact (A .calWait)] {a : State} {n : Nat} {s : State} (h : Kept A a s) : Kept A a (@State.refuseMode n
    s) := by
  unfold State.refuseMode
  repeat' (first
    | with_reducible assumption
    | with_reducible apply kept_ite
    | with_reducible refine kept_when ?_ (fun _ _ => ?_)
    | with_reducible apply kept_cut)

theorem kept_rszCancel {A : Area → Prop} [Fact (A .ch)] {a : State} {n : Nat} {cause : Nat} {s : State} (h : Kept A a
    s) : Kept A a (@State.rszCancel n cause s) := by
  unfold State.rszCancel
  repeat' (first
    | with_reducible assumption
    | with_reducible apply kept_ite
    | with_reducible apply kept_queue)

theorem kept_rszDone {A : Area → Prop} [Fact (A .ch)] {a : State} {n : Nat} {s : State} (h : Kept A a s) : Kept A a
    (@State.rszDone n s) := by
  unfold State.rszDone
  repeat' (first
    | with_reducible assumption
    | with_reducible apply kept_put
    | with_reducible apply kept_ite
    | with_reducible apply kept_onChan
    | with_reducible apply kept_raiseCh)

theorem kept_rszFence {A : Area → Prop} [Fact (A .flow)] [Fact (A .ch)] [Fact (A .votes)] [Fact (A .sets)] [Fact (A
    .applied)] [Fact (A .calWait)] {a : State} {n : Nat} {s : State} (h : Kept A a s) : Kept A a (@State.rszFence n s)
    := by
  unfold State.rszFence
  repeat' (first
    | with_reducible assumption
    | with_reducible apply kept_ite
    | with_reducible apply kept_refuseMode
    | with_reducible apply kept_rszCancel
    | with_reducible apply kept_rszFail)

theorem kept_selectProfile {A : Area → Prop} {a : State} {n : Nat} {p : Nat} {s : State} (h : Kept A a s) : Kept A a
    (@State.selectProfile n p s) := by
  unfold State.selectProfile
  repeat' (first
    | with_reducible assumption
    | with_reducible apply kept_put
    | with_reducible apply kept_ite
    | with_reducible apply kept_loadTx)

theorem kept_unitChanged {A : Area → Prop} [Fact (A .flow)] [Fact (A .ch)] [Fact (A .votes)] [Fact (A .sets)] [Fact (A
    .applied)] [Fact (A .calWait)] {a : State} {n : Nat} {fence : Bool} {s : State} (h : Kept A a s) : Kept A a
    (@State.unitChanged n fence s) := by
  unfold State.unitChanged
  repeat' (first
    | with_reducible assumption
    | with_reducible apply kept_ite
    | with_reducible refine kept_when ?_ (fun _ _ => ?_)
    | with_reducible apply kept_breach
    | with_reducible apply kept_evalMode
    | with_reducible apply kept_fenceChannel
    | with_reducible apply kept_recompute
    | with_reducible apply kept_rszFence)

end Sys2Proof.Machine
end

