-- ==== Sys2Proof/Laws/KeptAccess.lean ====
section
/-! SUPPORT. What the operations of Machine/Access.lean keep. -/

namespace Sys2Proof.Machine

theorem kept_applyField {A : Area → Prop} [Fact (A .ch)] {a : State} {a_ : Nat} {f : FSpec} {v : Nat} {s : State} (h :
    Kept A a s) : Kept A a (@State.applyField a_ f v s) := by
  unfold State.applyField
  repeat' (first
    | with_reducible assumption
    | with_reducible apply kept_put
    | with_reducible apply kept_ite
    | with_reducible apply kept_onChan
    | with_reducible apply kept_takeFramed
    | with_reducible refine kept_foldl ?_ (fun _ _ _ => ?_)
    | split)

theorem kept_hostRead {A : Area → Prop} [Fact (A .out)] {a : State} {win : Nat} {addr : Nat} {view : State → Nat} {act
    : State → State} {s : State} (h : Kept A a s) (hact : ∀ t, Kept A a t → Kept A a (act t)) : Kept A a
    (@State.hostRead win addr view act s) := by
  unfold State.hostRead
  repeat' (first
    | with_reducible assumption
    | with_reducible refine hact _ ?_
    | with_reducible apply kept_ite
    | with_reducible apply kept_emit
    | with_reducible apply kept_refuse)

theorem kept_hostWrite {A : Area → Prop} [Fact (A .ch)] {a : State} {w : Wr} {k : Hook} {s : State} (h : Kept A a s)
    (hk : k.kept A) : Kept A a (@State.hostWrite w k s) := by
  unfold State.hostWrite
  repeat' (first
    | with_reducible assumption
    | refine hk _ _ _ ?_
    | with_reducible apply kept_ite
    | with_reducible refine kept_each ?_ (fun _ _ _ => ?_)
    | with_reducible apply kept_applyField
    | with_reducible apply kept_refuse
    | with_reducible refine kept_foldl ?_ (fun _ _ _ => ?_)
    | split
    | dsimp only)

end Sys2Proof.Machine
end

