-- ==== Sys2Proof/Laws/KeptOptical.lean ====
section
/-! SUPPORT. What the operations of Machine/Optical.lean keep. -/

namespace Sys2Proof.Machine

theorem kept_agcAcquire {A : Area → Prop} {a : State} {n : Nat} {s : State} (h : Kept A a s) : Kept A a
    (@State.agcAcquire n s) := by
  unfold State.agcAcquire
  repeat' (first
    | with_reducible assumption
    | with_reducible apply kept_put
    | with_reducible apply kept_ite
    | with_reducible refine kept_when ?_ (fun _ _ => ?_))

theorem kept_startRamp {A : Area → Prop} {a : State} {n : Nat} {dest : Int} {s : State} (h : Kept A a s) : Kept A a
    (@State.startRamp n dest s) := by
  unfold State.startRamp
  repeat' (first
    | with_reducible assumption
    | with_reducible apply kept_put
    | with_reducible apply kept_ite
    | with_reducible apply kept_putS)

theorem kept_disable {A : Area → Prop} [Fact (A .flow)] [Fact (A .ch)] [Fact (A .votes)] [Fact (A .sets)] [Fact (A
    .applied)] [Fact (A .calWait)] {a : State} {n : Nat} {s : State} (h : Kept A a s) : Kept A a (@State.disable n s)
    := by
  unfold State.disable
  repeat' (first
    | with_reducible assumption
    | with_reducible apply kept_put
    | with_reducible apply kept_ite
    | with_reducible apply kept_cut
    | with_reducible apply kept_setCh
    | with_reducible apply kept_startRamp
    | with_reducible apply kept_withdraw)

theorem kept_enable {A : Area → Prop} [Fact (A .votes)] {a : State} {n : Nat} {s : State} (h : Kept A a s) : Kept A a
    (@State.enable n s) := by
  unfold State.enable
  repeat' (first
    | with_reducible assumption
    | with_reducible apply kept_put
    | with_reducible apply kept_ite
    | with_reducible apply kept_calFail
    | with_reducible apply kept_requestEnable)

theorem kept_laserApproved {A : Area → Prop} [Fact (A .flow)] [Fact (A .ch)] [Fact (A .votes)] [Fact (A .sets)] [Fact
    (A .applied)] [Fact (A .calWait)] {a : State} {n : Nat} {s : State} (h : Kept A a s) : Kept A a
    (@State.laserApproved n s) := by
  unfold State.laserApproved
  repeat' (first
    | with_reducible assumption
    | with_reducible apply kept_put
    | with_reducible apply kept_ite
    | with_reducible apply kept_biasEval
    | with_reducible apply kept_boost
    | with_reducible apply kept_refuseEnable
    | with_reducible apply kept_setCh)

theorem kept_lit {A : Area → Prop} [Fact (A .flow)] [Fact (A .ch)] [Fact (A .votes)] [Fact (A .sets)] [Fact (A
    .applied)] [Fact (A .calWait)] {a : State} {n : Nat} {s : State} (h : Kept A a s) : Kept A a (@State.lit n s) := by
  unfold State.lit
  repeat' (first
    | with_reducible assumption
    | with_reducible apply kept_put
    | with_reducible apply kept_ite
    | with_reducible apply kept_chipRest
    | with_reducible apply kept_flag
    | with_reducible apply kept_onChan
    | with_reducible apply kept_setCh)

theorem kept_opticalFence {A : Area → Prop} [Fact (A .flow)] [Fact (A .ch)] [Fact (A .votes)] [Fact (A .sets)] [Fact
    (A .applied)] [Fact (A .calWait)] {a : State} {n : Nat} {f : Field} {s : State} (h : Kept A a s) : Kept A a
    (@State.opticalFence n f s) := by
  unfold State.opticalFence
  repeat' (first
    | with_reducible assumption
    | with_reducible apply kept_put
    | with_reducible apply kept_ite
    | with_reducible apply kept_fenceChannel
    | with_reducible apply kept_raiseCh)

theorem kept_safeShow {A : Area → Prop} {a : State} {n : Nat} {s : State} (h : Kept A a s) : Kept A a (@State.safeShow
    n s) := by
  unfold State.safeShow
  repeat' (first
    | with_reducible assumption
    | with_reducible apply kept_ite
    | with_reducible apply kept_flag)

theorem kept_safetyCut {A : Area → Prop} {a : State} {n : Nat} {lat : Nat} {s : State} (h : Kept A a s) : Kept A a
    (@State.safetyCut n lat s) := by
  unfold State.safetyCut
  repeat' (first
    | with_reducible assumption
    | with_reducible apply kept_put
    | with_reducible apply kept_ite
    | with_reducible apply kept_bump
    | with_reducible apply kept_count
    | with_reducible apply kept_raiseCh)

theorem kept_safetyActs {A : Area → Prop} [Fact (A .flow)] [Fact (A .ch)] [Fact (A .votes)] [Fact (A .sets)] [Fact (A
    .applied)] [Fact (A .calWait)] {a : State} {n : Nat} {lat : Nat} {s : State} (h : Kept A a s) : Kept A a
    (@State.safetyActs n lat s) := by
  unfold State.safetyActs
  repeat' (first
    | with_reducible assumption
    | with_reducible apply kept_ite
    | with_reducible refine kept_when ?_ (fun _ _ => ?_)
    | with_reducible apply kept_calFail
    | with_reducible apply kept_cut
    | with_reducible apply kept_safeShow
    | with_reducible apply kept_safetyCut)

theorem kept_discHook {A : Area → Prop} {n : Nat} {s0 : State} : (@discHook n s0).kept A := by
  unfold discHook
  repeat' (first
    | with_reducible exact kept_hook_plain
    | with_reducible apply kept_hook_ite
    | with_reducible apply kept_hookAt
    | with_reducible apply hooks_cons
    | with_reducible exact hooks_nil
    | (refine fun _ _ _ h => ?_; dsimp only)
    | with_reducible assumption
    | with_reducible apply kept_hook_ite
    | with_reducible exact kept_hook_plain
    | with_reducible apply kept_put
    | with_reducible apply kept_ite
    | with_reducible refine kept_when ?_ (fun _ _ => ?_))

theorem kept_execAgcSettled {A : Area → Prop} [Fact (A .ch)] {a : State} {n : Fin 4} {gain : Nat} {s : State} (h :
    Kept A a s) : Answer.kept A a (@execAgcSettled n gain s) := by
  unfold execAgcSettled
  repeat' (first
    | with_reducible assumption
    | with_reducible apply kept_next
    | with_reducible apply kept_answer_ite
    | with_reducible apply kept_put
    | with_reducible apply kept_ite
    | with_reducible refine kept_when ?_ (fun _ _ => ?_)
    | with_reducible apply kept_coarseStart)

theorem kept_execAgcUnfreezeTimeout {A : Area → Prop} {a : State} {n : Fin 4} {s : State} (h : Kept A a s) :
    Answer.kept A a (@execAgcUnfreezeTimeout n s) := by
  unfold execAgcUnfreezeTimeout
  repeat' (first
    | with_reducible assumption
    | with_reducible apply kept_next
    | with_reducible apply kept_answer_ite
    | with_reducible apply kept_ite
    | with_reducible refine kept_when ?_ (fun _ _ => ?_)
    | with_reducible apply kept_agcAcquire
    | with_reducible apply kept_clear)

theorem kept_execBoosterFault {A : Area → Prop} [Fact (A .flow)] [Fact (A .ch)] [Fact (A .votes)] [Fact (A .sets)]
    [Fact (A .applied)] [Fact (A .calWait)] {a : State} {n : Fin 4} {s : State} (h : Kept A a s) : Answer.kept A a
    (@execBoosterFault n s) := by
  unfold execBoosterFault
  repeat' (first
    | with_reducible assumption
    | with_reducible apply kept_next
    | with_reducible apply kept_answer_ite
    | with_reducible apply kept_ite
    | with_reducible refine kept_when ?_ (fun _ _ => ?_)
    | with_reducible apply kept_opticalFence)

theorem kept_execCoolerFault {A : Area → Prop} [Fact (A .flow)] [Fact (A .ch)] [Fact (A .votes)] [Fact (A .sets)]
    [Fact (A .applied)] [Fact (A .calWait)] {a : State} {n : Fin 4} {s : State} (h : Kept A a s) : Answer.kept A a
    (@execCoolerFault n s) := by
  unfold execCoolerFault
  repeat' (first
    | with_reducible assumption
    | with_reducible apply kept_next
    | with_reducible apply kept_answer_ite
    | with_reducible apply kept_ite
    | with_reducible refine kept_when ?_ (fun _ _ => ?_)
    | with_reducible apply kept_opticalFence)

theorem kept_execDiscrepancyClear {A : Area → Prop} [Fact (A .ch)] {a : State} {win : Fin 7} {n : Fin 4} {value :
    Word} {be : Fin 16} {s : State} (h : Kept A a s) : Answer.kept A a (@execDiscrepancyClear win n value be s) := by
  unfold execDiscrepancyClear
  repeat' (first
    | with_reducible assumption
    | with_reducible apply kept_next
    | with_reducible apply kept_answer_ite
    | with_reducible apply kept_ite
    | with_reducible apply kept_hostWrite
    | with_reducible apply kept_discHook)

theorem kept_execDriverFault {A : Area → Prop} [Fact (A .flow)] [Fact (A .ch)] [Fact (A .votes)] [Fact (A .sets)]
    [Fact (A .applied)] [Fact (A .calWait)] {a : State} {n : Fin 4} {s : State} (h : Kept A a s) : Answer.kept A a
    (@execDriverFault n s) := by
  unfold execDriverFault
  repeat' (first
    | with_reducible assumption
    | with_reducible apply kept_next
    | with_reducible apply kept_answer_ite
    | with_reducible apply kept_ite
    | with_reducible refine kept_when ?_ (fun _ _ => ?_)
    | with_reducible apply kept_opticalFence)

theorem kept_laserHook {A : Area → Prop} [Fact (A .flow)] [Fact (A .ch)] [Fact (A .votes)] [Fact (A .sets)] [Fact (A
    .applied)] [Fact (A .calWait)] {n : Nat} : (@laserHook n).kept A := by
  unfold laserHook
  repeat' (first
    | with_reducible exact kept_hook_plain
    | with_reducible apply kept_hook_ite
    | with_reducible apply kept_hookAt
    | with_reducible apply hooks_cons
    | with_reducible exact hooks_nil
    | (refine fun _ _ _ h => ?_; dsimp only)
    | with_reducible assumption
    | with_reducible apply kept_hook_ite
    | with_reducible exact kept_hook_plain
    | with_reducible apply kept_ite
    | with_reducible apply kept_disable
    | with_reducible apply kept_enable)

theorem kept_execLaserDisable {A : Area → Prop} [Fact (A .flow)] [Fact (A .ch)] [Fact (A .votes)] [Fact (A .sets)]
    [Fact (A .applied)] [Fact (A .calWait)] {a : State} {win : Fin 7} {n : Fin 4} {value : Word} {be : Fin 16} {s :
    State} (h : Kept A a s) : Answer.kept A a (@execLaserDisable win n value be s) := by
  unfold execLaserDisable
  repeat' (first
    | with_reducible assumption
    | with_reducible apply kept_next
    | with_reducible apply kept_answer_ite
    | with_reducible apply kept_ite
    | with_reducible apply kept_hostWrite
    | with_reducible apply kept_laserHook)

theorem kept_execLaserEnable {A : Area → Prop} [Fact (A .flow)] [Fact (A .ch)] [Fact (A .votes)] [Fact (A .sets)]
    [Fact (A .applied)] [Fact (A .calWait)] {a : State} {win : Fin 7} {n : Fin 4} {value : Word} {be : Fin 16} {s :
    State} (h : Kept A a s) : Answer.kept A a (@execLaserEnable win n value be s) := by
  unfold execLaserEnable
  repeat' (first
    | with_reducible assumption
    | with_reducible apply kept_next
    | with_reducible apply kept_answer_ite
    | with_reducible apply kept_ite
    | with_reducible apply kept_hostWrite
    | with_reducible apply kept_laserHook)

theorem kept_execLaserFault {A : Area → Prop} [Fact (A .flow)] [Fact (A .ch)] [Fact (A .votes)] [Fact (A .sets)] [Fact
    (A .applied)] [Fact (A .calWait)] {a : State} {n : Fin 4} {s : State} (h : Kept A a s) : Answer.kept A a
    (@execLaserFault n s) := by
  unfold execLaserFault
  repeat' (first
    | with_reducible assumption
    | with_reducible apply kept_next
    | with_reducible apply kept_answer_ite
    | with_reducible apply kept_ite
    | with_reducible refine kept_when ?_ (fun _ _ => ?_)
    | with_reducible apply kept_opticalFence)

theorem kept_freqHook {A : Area → Prop} {n : Nat} : (@freqHook n).kept A := by
  unfold freqHook
  repeat' (first
    | with_reducible exact kept_hook_plain
    | with_reducible apply kept_hook_ite
    | with_reducible apply kept_hookAt
    | with_reducible apply hooks_cons
    | with_reducible exact hooks_nil
    | (refine fun _ _ _ h => ?_; dsimp only)
    | with_reducible assumption)

theorem kept_execOptFreqWrite {A : Area → Prop} [Fact (A .ch)] {a : State} {win : Fin 7} {n : Fin 4} {value : Word}
    {be : Fin 16} {s : State} (h : Kept A a s) : Answer.kept A a (@execOptFreqWrite win n value be s) := by
  unfold execOptFreqWrite
  repeat' (first
    | with_reducible assumption
    | with_reducible apply kept_next
    | with_reducible apply kept_answer_ite
    | with_reducible apply kept_ite
    | with_reducible apply kept_hostWrite
    | with_reducible apply kept_freqHook)

theorem kept_execOpticalLosClear {A : Area → Prop} {a : State} {n : Fin 4} {s : State} (h : Kept A a s) : Answer.kept
    A a (@execOpticalLosClear n s) := by
  unfold execOpticalLosClear
  repeat' (first
    | with_reducible assumption
    | with_reducible apply kept_next
    | with_reducible apply kept_answer_ite
    | with_reducible apply kept_put
    | with_reducible apply kept_ite
    | with_reducible refine kept_when ?_ (fun _ _ => ?_)
    | with_reducible apply kept_acqResume
    | with_reducible apply kept_agcAcquire
    | with_reducible apply kept_raiseCh)

theorem kept_execOpticalLosDeclare {A : Area → Prop} [Fact (A .flow)] [Fact (A .ch)] [Fact (A .votes)] [Fact (A
    .sets)] [Fact (A .applied)] [Fact (A .calWait)] {a : State} {n : Fin 4} {s : State} (h : Kept A a s) : Answer.kept
    A a (@execOpticalLosDeclare n s) := by
  unfold execOpticalLosDeclare
  repeat' (first
    | with_reducible assumption
    | with_reducible apply kept_next
    | with_reducible apply kept_answer_ite
    | with_reducible apply kept_put
    | with_reducible apply kept_ite
    | with_reducible refine kept_when ?_ (fun _ _ => ?_)
    | with_reducible apply kept_bump
    | with_reducible apply kept_count
    | with_reducible apply kept_raiseCh
    | with_reducible apply kept_setCh)

theorem kept_execOpticalPowerMonitorUpdate {A : Area → Prop} {a : State} {n : Fin 4} {tx : Int} {rx : Int} {gain :
    Nat} {s : State} (h : Kept A a s) : Answer.kept A a (@execOpticalPowerMonitorUpdate n tx rx gain s) := by
  unfold execOpticalPowerMonitorUpdate
  repeat' (first
    | with_reducible assumption
    | with_reducible apply kept_next
    | with_reducible apply kept_answer_ite
    | with_reducible apply kept_put
    | with_reducible apply kept_ite
    | with_reducible refine kept_when ?_ (fun _ _ => ?_)
    | with_reducible apply kept_countFor
    | with_reducible apply kept_flag
    | with_reducible apply kept_putS)

theorem kept_execRampStep {A : Area → Prop} [Fact (A .flow)] [Fact (A .ch)] [Fact (A .votes)] [Fact (A .sets)] [Fact
    (A .applied)] [Fact (A .calWait)] {a : State} {n : Fin 4} {s : State} (h : Kept A a s) : Answer.kept A a
    (@execRampStep n s) := by
  unfold execRampStep
  repeat' (first
    | with_reducible assumption
    | with_reducible apply kept_next
    | with_reducible apply kept_answer_ite
    | with_reducible apply kept_put
    | with_reducible apply kept_ite
    | with_reducible refine kept_when ?_ (fun _ _ => ?_)
    | with_reducible apply kept_count
    | with_reducible apply kept_darken
    | with_reducible apply kept_lit
    | with_reducible apply kept_putS
    | with_reducible apply kept_raiseCh
    | with_reducible apply kept_requestEnable)

theorem kept_execReceiverFrontEndFault {A : Area → Prop} {a : State} {n : Fin 4} {fail : Bool} {s : State} (h : Kept A
    a s) : Answer.kept A a (@execReceiverFrontEndFault n fail s) := by
  unfold execReceiverFrontEndFault
  repeat' (first
    | with_reducible assumption
    | with_reducible apply kept_next
    | with_reducible apply kept_answer_ite
    | with_reducible apply kept_ite
    | with_reducible refine kept_when ?_ (fun _ _ => ?_)
    | with_reducible apply kept_flag
    | with_reducible apply kept_raiseCh)

theorem kept_execSafetyDiscrepancyTimeout {A : Area → Prop} {a : State} {n : Fin 4} {s : State} (h : Kept A a s) :
    Answer.kept A a (@execSafetyDiscrepancyTimeout n s) := by
  unfold execSafetyDiscrepancyTimeout
  repeat' (first
    | with_reducible assumption
    | with_reducible apply kept_next
    | with_reducible apply kept_answer_ite
    | with_reducible apply kept_put
    | with_reducible apply kept_ite
    | with_reducible refine kept_when ?_ (fun _ _ => ?_)
    | with_reducible apply kept_raiseCh)

theorem kept_execSafetyInputActive {A : Area → Prop} [Fact (A .flow)] [Fact (A .ch)] [Fact (A .votes)] [Fact (A
    .sets)] [Fact (A .applied)] [Fact (A .calWait)] {a : State} {input : Fin 2} {l0 : Nat} {l1 : Nat} {l2 : Nat} {l3 :
    Nat} {s : State} (h : Kept A a s) : Answer.kept A a (@execSafetyInputActive input l0 l1 l2 l3 s) := by
  unfold execSafetyInputActive
  repeat' (first
    | with_reducible assumption
    | with_reducible apply kept_next
    | with_reducible apply kept_answer_ite
    | with_reducible apply kept_put
    | with_reducible apply kept_ite
    | with_reducible refine kept_when ?_ (fun _ _ => ?_)
    | with_reducible apply kept_safetyActs)

theorem kept_execSafetyInputInactive {A : Area → Prop} {a : State} {input : Fin 2} {s : State} (h : Kept A a s) :
    Answer.kept A a (@execSafetyInputInactive input s) := by
  unfold execSafetyInputInactive
  repeat' (first
    | with_reducible assumption
    | with_reducible apply kept_next
    | with_reducible apply kept_answer_ite
    | with_reducible apply kept_put
    | with_reducible apply kept_ite
    | with_reducible refine kept_when ?_ (fun _ _ => ?_)
    | with_reducible refine kept_each ?_ (fun _ _ _ => ?_)
    | with_reducible apply kept_safeShow)

theorem kept_execTuneComplete {A : Area → Prop} {a : State} {n : Fin 4} {us : Nat} {s : State} (h : Kept A a s) :
    Answer.kept A a (@execTuneComplete n us s) := by
  unfold execTuneComplete
  repeat' (first
    | with_reducible assumption
    | with_reducible apply kept_next
    | with_reducible apply kept_answer_ite
    | with_reducible apply kept_put
    | with_reducible apply kept_ite
    | with_reducible refine kept_when ?_ (fun _ _ => ?_)
    | with_reducible apply kept_count
    | with_reducible apply kept_putS
    | with_reducible apply kept_startRamp)

theorem kept_execTuneTimeout {A : Area → Prop} [Fact (A .flow)] [Fact (A .ch)] [Fact (A .votes)] [Fact (A .sets)]
    [Fact (A .applied)] [Fact (A .calWait)] {a : State} {n : Fin 4} {s : State} (h : Kept A a s) : Answer.kept A a
    (@execTuneTimeout n s) := by
  unfold execTuneTimeout
  repeat' (first
    | with_reducible assumption
    | with_reducible apply kept_next
    | with_reducible apply kept_answer_ite
    | with_reducible apply kept_put
    | with_reducible apply kept_ite
    | with_reducible refine kept_when ?_ (fun _ _ => ?_)
    | with_reducible apply kept_opticalFence)

theorem kept_powerHook {A : Area → Prop} {n : Nat} : (@powerHook n).kept A := by
  unfold powerHook
  repeat' (first
    | with_reducible exact kept_hook_plain
    | with_reducible apply kept_hook_ite
    | with_reducible apply kept_hookAt
    | with_reducible apply hooks_cons
    | with_reducible exact hooks_nil
    | (refine fun _ _ _ h => ?_; dsimp only)
    | with_reducible assumption
    | with_reducible apply kept_hook_ite
    | with_reducible exact kept_hook_plain
    | with_reducible apply kept_put
    | with_reducible apply kept_ite
    | with_reducible apply kept_putS
    | with_reducible apply kept_startRamp
    | with_reducible refine kept_foldl ?_ (fun _ _ _ => ?_)
    | split)

theorem kept_execTxPowerWrite {A : Area → Prop} [Fact (A .ch)] {a : State} {win : Fin 7} {n : Fin 4} {value : Word}
    {be : Fin 16} {s : State} (h : Kept A a s) : Answer.kept A a (@execTxPowerWrite win n value be s) := by
  unfold execTxPowerWrite
  repeat' (first
    | with_reducible assumption
    | with_reducible apply kept_next
    | with_reducible apply kept_answer_ite
    | with_reducible apply kept_ite
    | with_reducible apply kept_hostWrite
    | with_reducible apply kept_powerHook)

end Sys2Proof.Machine
end

