-- ==== Sys2Proof/Laws/KeptTributary.lean ====
section
/-! SUPPORT. What the operations of Machine/Tributary.lean keep. -/

namespace Sys2Proof.Machine

theorem kept_announce {A : Area → Prop} {a : State} {n : Nat} {cur : Profile} {nxt : Profile} {renew : Nat → Bool} {s
    : State} (h : Kept A a s) : Kept A a (@State.announce n cur nxt renew s) := by
  unfold State.announce
  repeat' (first
    | with_reducible assumption
    | with_reducible apply kept_put
    | with_reducible apply kept_ite
    | with_reducible refine kept_when ?_ (fun _ _ => ?_)
    | with_reducible refine kept_each ?_ (fun _ _ _ => ?_)
    | with_reducible apply kept_raiseCh)

theorem kept_commitApproved {A : Area → Prop} [Fact (A .votes)] {a : State} {n : Nat} {s : State} (h : Kept A a s) :
    Kept A a (@State.commitApproved n s) := by
  unfold State.commitApproved
  repeat' (first
    | with_reducible assumption
    | with_reducible apply kept_put
    | with_reducible apply kept_ite
    | with_reducible apply kept_cmtRefuse)

theorem kept_commitGo {A : Area → Prop} [Fact (A .ch)] [Fact (A .votes)] {a : State} {n : Nat} {s : State} (h : Kept A
    a s) : Kept A a (@State.commitGo n s) := by
  unfold State.commitGo
  repeat' (first
    | with_reducible assumption
    | with_reducible apply kept_put
    | with_reducible apply kept_ite
    | with_reducible apply kept_cmtRefuse
    | with_reducible apply kept_count
    | with_reducible apply kept_onChan
    | with_reducible apply kept_raiseCh
    | with_reducible apply kept_request
    | with_reducible refine kept_foldl ?_ (fun _ _ _ => ?_)
    | split
    | dsimp only)

theorem kept_commitRefused {A : Area → Prop} [Fact (A .votes)] {a : State} {n : Nat} {s : State} (h : Kept A a s) :
    Kept A a (@State.commitRefused n s) := by
  unfold State.commitRefused
  repeat' (first
    | with_reducible assumption
    | with_reducible apply kept_ite
    | with_reducible refine kept_when ?_ (fun _ _ => ?_)
    | with_reducible apply kept_cmtRefuse)

theorem kept_eraseTenant {A : Area → Prop} {a : State} {n : Nat} {t : Nat} {s : State} (h : Kept A a s) : Kept A a
    (@State.eraseTenant n t s) := by
  unfold State.eraseTenant
  repeat' (first
    | with_reducible assumption
    | with_reducible apply kept_put)

theorem kept_loseCarry {A : Area → Prop} [Fact (A .flow)] {a : State} {n : Nat} {t : Nat} {c : Nat} {k : TxDrop} {s :
    State} (h : Kept A a s) : Kept A a (@State.loseCarry n t c k s) := by
  unfold State.loseCarry
  repeat' (first
    | with_reducible assumption
    | with_reducible apply kept_put
    | with_reducible apply kept_ite
    | with_reducible refine kept_flowOp _ ?_ (fun _ _ => ?_)
    | with_reducible apply kept_reclaim
    | with_reducible apply Flow.txDropAll_conserved)

theorem kept_quarantineEnd {A : Area → Prop} {a : State} {n : Nat} {s : State} (h : Kept A a s) : Kept A a
    (@State.quarantineEnd n s) := by
  unfold State.quarantineEnd
  repeat' (first
    | with_reducible assumption
    | with_reducible apply kept_put
    | with_reducible apply kept_ite
    | with_reducible refine kept_when ?_ (fun _ _ => ?_)
    | with_reducible refine kept_each ?_ (fun _ _ _ => ?_)
    | with_reducible apply kept_eraseTenant)

theorem kept_reachLocked {A : Area → Prop} [Fact (A .flow)] [Fact (A .ch)] [Fact (A .votes)] [Fact (A .sets)] [Fact (A
    .applied)] [Fact (A .calWait)] {a : State} {n : Nat} {s : State} (h : Kept A a s) : Kept A a (@State.reachLocked n
    s) := by
  unfold State.reachLocked
  repeat' (first
    | with_reducible assumption
    | with_reducible apply kept_put
    | with_reducible apply kept_ite
    | with_reducible apply kept_bump
    | with_reducible apply kept_commitGo
    | with_reducible apply kept_setCh)

theorem kept_serviceEval {A : Area → Prop} [Fact (A .flow)] [Fact (A .ch)] [Fact (A .votes)] [Fact (A .sets)] [Fact (A
    .applied)] [Fact (A .calWait)] {a : State} {n : Nat} {s : State} (h : Kept A a s) : Kept A a (@State.serviceEval n
    s) := by
  unfold State.serviceEval
  repeat' (first
    | with_reducible assumption
    | with_reducible apply kept_ite
    | with_reducible apply kept_setCh)

theorem kept_times {A : Area → Prop} {a : State} {k : Nat} {f : State → State} {s : State} (h : Kept A a s)
    (hf : ∀ t, Kept A a t → Kept A a (f t)) : Kept A a (s.times k f) := by
  induction k generalizing s with
  | zero => exact h
  | succ k ih => exact ih (hf _ h)

theorem kept_trimBuffers {A : Area → Prop} [Fact (A .flow)] {a : State} {n : Nat} {t : Nat} {s : State} (h : Kept A a
    s) : Kept A a (@State.trimBuffers n t s) := by
  unfold State.trimBuffers
  repeat' (first
    | with_reducible assumption
    | with_reducible apply kept_ite
    | with_reducible refine kept_flowOp _ ?_ (fun _ _ => ?_)
    | with_reducible refine kept_times ?_ (fun _ _ => ?_)
    | with_reducible apply Flow.txDropOne_conserved
    | with_reducible apply Flow.rxDropOne_conserved)

theorem kept_stepFive {A : Area → Prop} [Fact (A .flow)] {a : State} {n : Nat} {t : Nat} {trim : Bool} {s : State} (h
    : Kept A a s) : Kept A a (@State.stepFive n t trim s) := by
  unfold State.stepFive
  repeat' (first
    | with_reducible assumption
    | with_reducible apply kept_put
    | with_reducible apply kept_ite
    | with_reducible refine kept_when ?_ (fun _ _ => ?_)
    | with_reducible apply kept_loseCarry
    | with_reducible apply kept_trimBuffers)

theorem kept_stepFiveAt {A : Area → Prop} [Fact (A .flow)] [Fact (A .ch)] {a : State} {n : Nat} {s : State} (h : Kept
    A a s) : Kept A a (@State.stepFiveAt n s) := by
  unfold State.stepFiveAt
  repeat' (first
    | with_reducible assumption
    | with_reducible apply kept_put
    | with_reducible apply kept_ite
    | with_reducible refine kept_each ?_ (fun _ _ _ => ?_)
    | with_reducible apply kept_count
    | with_reducible apply kept_hstRefresh
    | with_reducible apply kept_raiseCh
    | with_reducible apply kept_stepFive
    | with_reducible apply kept_trbStat)

theorem kept_takeEntry {A : Area → Prop} {a : State} {n : Nat} {c : TribCfg} {s : State} (h : Kept A a s) : Kept A a
    (@State.takeEntry n c s) := by
  unfold State.takeEntry
  repeat' (first
    | with_reducible assumption
    | with_reducible apply kept_put
    | with_reducible apply kept_ite
    | with_reducible refine kept_when ?_ (fun _ _ => ?_)
    | with_reducible apply kept_addWrap
    | with_reducible apply kept_clear
    | with_reducible apply kept_flag)

theorem kept_stepFourAt {A : Area → Prop} [Fact (A .flow)] [Fact (A .ch)] [Fact (A .votes)] [Fact (A .sets)] [Fact (A
    .applied)] [Fact (A .calWait)] {a : State} {n : Nat} {s : State} (h : Kept A a s) : Kept A a (@State.stepFourAt n
    s) := by
  unfold State.stepFourAt
  repeat' (first
    | with_reducible assumption
    | with_reducible apply kept_put
    | with_reducible apply kept_ite
    | with_reducible refine kept_each ?_ (fun _ _ _ => ?_)
    | with_reducible apply kept_hstRefresh
    | with_reducible apply kept_serviceEval
    | with_reducible apply kept_takeEntry
    | with_reducible apply kept_trbStat)

theorem kept_suspendStep {A : Area → Prop} [Fact (A .flow)] {a : State} {n : Nat} {s : State} (h : Kept A a s) : Kept
    A a (@State.suspendStep n s) := by
  unfold State.suspendStep
  repeat' (first
    | with_reducible assumption
    | with_reducible apply kept_put
    | with_reducible apply kept_ite
    | with_reducible refine kept_when ?_ (fun _ _ => ?_)
    | with_reducible refine kept_each ?_ (fun _ _ _ => ?_)
    | with_reducible apply kept_loseCarry)

theorem kept_commitHook {A : Area → Prop} [Fact (A .ch)] [Fact (A .votes)] {n : Nat} : (@commitHook n).kept A := by
  unfold commitHook
  repeat' (first
    | with_reducible exact kept_hook_plain
    | with_reducible apply kept_hook_ite
    | with_reducible apply kept_hookAt
    | with_reducible apply hooks_cons
    | with_reducible exact hooks_nil
    | (refine fun _ _ _ h => ?_; dsimp only)
    | with_reducible assumption
    | with_reducible apply kept_hook_ite
    | with_reducible exact kept_hook_plain
    | with_reducible apply kept_ite
    | with_reducible refine kept_when ?_ (fun _ _ => ?_)
    | with_reducible apply kept_commitGo)

theorem kept_execTributaryCommitGo {A : Area → Prop} [Fact (A .ch)] [Fact (A .votes)] {a : State} {win : Fin 7} {n :
    Fin 4} {value : Word} {be : Fin 16} {s : State} (h : Kept A a s) : Answer.kept A a (@execTributaryCommitGo win n
    value be s) := by
  unfold execTributaryCommitGo
  repeat' (first
    | with_reducible assumption
    | with_reducible apply kept_next
    | with_reducible apply kept_answer_ite
    | with_reducible apply kept_ite
    | with_reducible apply kept_hostWrite
    | with_reducible apply kept_commitHook)

end Sys2Proof.Machine
end

