-- ==== Sys2Proof/Laws/KeptConverters.lean ====
section
/-! SUPPORT. What the operations of Machine/Converters.lean keep. -/

namespace Sys2Proof.Machine

theorem kept_loopStep {A : Area → Prop} {a : State} {n : Nat} {k : Nat} {j : Nat} {up : Bool} {s : State} (h : Kept A
    a s) : Kept A a (@State.loopStep n k j up s) := by
  unfold State.loopStep
  repeat' (first
    | with_reducible assumption
    | with_reducible apply kept_ite
    | with_reducible apply kept_count
    | with_reducible apply kept_driftFlag
    | with_reducible apply kept_putS)

theorem kept_respaceDir {A : Area → Prop} [Fact (A .flow)] [Fact (A .ch)] [Fact (A .votes)] [Fact (A .sets)] [Fact (A
    .applied)] [Fact (A .calWait)] {a : State} {n : Nat} {dir : Nat} {s : State} (h : Kept A a s) : Kept A a
    (@State.respaceDir n dir s) := by
  unfold State.respaceDir
  repeat' (first
    | with_reducible assumption
    | with_reducible apply kept_ite
    | with_reducible apply kept_loseFrame
    | with_reducible apply kept_refuseMode
    | with_reducible apply kept_respaceCore
    | with_reducible apply kept_unitChanged)

theorem kept_substituteDir {A : Area → Prop} [Fact (A .flow)] [Fact (A .ch)] [Fact (A .votes)] [Fact (A .sets)] [Fact
    (A .applied)] [Fact (A .calWait)] {a : State} {n : Nat} {dir : Nat} {s : State} (h : Kept A a s) : Kept A a
    (@State.substituteDir n dir s) := by
  unfold State.substituteDir
  repeat' (first
    | with_reducible assumption
    | with_reducible apply kept_ite
    | with_reducible refine kept_when ?_ (fun _ _ => ?_)
    | with_reducible refine kept_each ?_ (fun _ _ _ => ?_)
    | with_reducible apply kept_substitute
    | with_reducible apply kept_unitChanged)

theorem kept_applyBoundary {A : Area → Prop} [Fact (A .flow)] [Fact (A .ch)] [Fact (A .votes)] [Fact (A .sets)] [Fact
    (A .applied)] [Fact (A .calWait)] {a : State} {n : Nat} {dir : Nat} {moves : List LoopMove} {s : State} (h : Kept
    A a s) : Kept A a (@State.applyBoundary n dir moves s) := by
  unfold State.applyBoundary
  repeat' (first
    | with_reducible assumption
    | with_reducible apply kept_put
    | with_reducible apply kept_ite
    | with_reducible refine kept_when ?_ (fun _ _ => ?_)
    | with_reducible refine kept_each ?_ (fun _ _ _ => ?_)
    | with_reducible apply kept_calBoundary
    | with_reducible apply kept_calRelease
    | with_reducible apply kept_loopStep
    | with_reducible apply kept_respaceDir
    | with_reducible apply kept_substituteDir)

theorem kept_pllFault {A : Area → Prop} [Fact (A .flow)] [Fact (A .ch)] [Fact (A .votes)] [Fact (A .sets)] [Fact (A
    .applied)] [Fact (A .calWait)] {a : State} {n : Nat} {dir : Nat} {s : State} (h : Kept A a s) : Kept A a
    (@State.pllFault n dir s) := by
  unfold State.pllFault
  repeat' (first
    | with_reducible assumption
    | with_reducible apply kept_put
    | with_reducible apply kept_ite
    | with_reducible refine kept_when ?_ (fun _ _ => ?_)
    | with_reducible apply kept_convRates
    | with_reducible apply kept_fenceChannel
    | with_reducible apply kept_unitChanged)

theorem kept_pllLoss {A : Area → Prop} [Fact (A .flow)] [Fact (A .ch)] [Fact (A .votes)] [Fact (A .sets)] [Fact (A
    .applied)] [Fact (A .calWait)] {a : State} {n : Nat} {dir : Nat} {s : State} (h : Kept A a s) : Kept A a
    (@State.pllLoss n dir s) := by
  unfold State.pllLoss
  repeat' (first
    | with_reducible assumption
    | with_reducible apply kept_put
    | with_reducible apply kept_ite
    | with_reducible refine kept_when ?_ (fun _ _ => ?_)
    | with_reducible apply kept_bump
    | with_reducible apply kept_count
    | with_reducible apply kept_loseFrame
    | with_reducible apply kept_pllFault
    | with_reducible apply kept_raiseCh)

theorem kept_shadowDone {A : Area → Prop} [Fact (A .flow)] [Fact (A .ch)] [Fact (A .votes)] [Fact (A .sets)] [Fact (A
    .applied)] [Fact (A .calWait)] {a : State} {n : Nat} {c : Nat} {v : List Int} {s : State} (h : Kept A a s) : Kept
    A a (@State.shadowDone n c v s) := by
  unfold State.shadowDone
  repeat' (first
    | with_reducible assumption
    | with_reducible apply kept_ite
    | with_reducible refine kept_when ?_ (fun _ _ => ?_)
    | with_reducible apply kept_onChan
    | with_reducible apply kept_regain
    | with_reducible apply kept_respaceDir
    | with_reducible apply kept_startShadows
    | with_reducible apply kept_substituteDir
    | with_reducible apply kept_takeCor
    | with_reducible refine kept_foldl ?_ (fun _ _ _ => ?_)
    | split)

theorem kept_sliceFault {A : Area → Prop} [Fact (A .flow)] [Fact (A .ch)] [Fact (A .votes)] [Fact (A .sets)] [Fact (A
    .applied)] [Fact (A .calWait)] {a : State} {n : Nat} {k : Nat} {cause : Nat} {s : State} (h : Kept A a s) : Kept A
    a (@State.sliceFault n k cause s) := by
  unfold State.sliceFault
  repeat' (first
    | with_reducible assumption
    | with_reducible apply kept_ite
    | with_reducible refine kept_when ?_ (fun _ _ => ?_)
    | with_reducible apply kept_respaceDir
    | with_reducible apply kept_sliceFaultCore
    | with_reducible apply kept_unitChanged)

theorem kept_execAdcClipExcess {A : Area → Prop} {a : State} {n : Fin 4} {a_ : Fin 4} {clipped : Nat} {s : State} (h :
    Kept A a s) : Answer.kept A a (@execAdcClipExcess n a_ clipped s) := by
  unfold execAdcClipExcess
  repeat' (first
    | with_reducible assumption
    | with_reducible apply kept_next
    | with_reducible apply kept_answer_ite
    | with_reducible apply kept_ite
    | with_reducible refine kept_when ?_ (fun _ _ => ?_)
    | with_reducible apply kept_addSat
    | with_reducible apply kept_countFor
    | with_reducible apply kept_putBit)

theorem kept_execAdcLosClear {A : Area → Prop} {a : State} {n : Fin 4} {s : State} (h : Kept A a s) : Answer.kept A a
    (@execAdcLosClear n s) := by
  unfold execAdcLosClear
  repeat' (first
    | with_reducible assumption
    | with_reducible apply kept_next
    | with_reducible apply kept_answer_ite
    | with_reducible apply kept_put
    | with_reducible apply kept_ite
    | with_reducible refine kept_when ?_ (fun _ _ => ?_))

theorem kept_execAdcLosDeclare {A : Area → Prop} {a : State} {n : Fin 4} {s : State} (h : Kept A a s) : Answer.kept A
    a (@execAdcLosDeclare n s) := by
  unfold execAdcLosDeclare
  repeat' (first
    | with_reducible assumption
    | with_reducible apply kept_next
    | with_reducible apply kept_answer_ite
    | with_reducible apply kept_put
    | with_reducible apply kept_ite
    | with_reducible refine kept_when ?_ (fun _ _ => ?_))

theorem kept_execConverterApplyBoundary {A : Area → Prop} [Fact (A .flow)] [Fact (A .ch)] [Fact (A .votes)] [Fact (A
    .sets)] [Fact (A .applied)] [Fact (A .calWait)] {a : State} {n : Fin 4} {dir : Fin 2} {moves : List (Nat × Nat ×
    Bool)} {s : State} (h : Kept A a s) : Answer.kept A a (@execConverterApplyBoundary n dir moves s) := by
  unfold execConverterApplyBoundary
  repeat' (first
    | with_reducible assumption
    | with_reducible apply kept_next
    | with_reducible apply kept_answer_ite
    | with_reducible apply kept_ite
    | with_reducible refine kept_when ?_ (fun _ _ => ?_)
    | with_reducible apply kept_applyBoundary)

theorem kept_execConverterPllFault {A : Area → Prop} [Fact (A .flow)] [Fact (A .ch)] [Fact (A .votes)] [Fact (A
    .sets)] [Fact (A .applied)] [Fact (A .calWait)] {a : State} {n : Fin 4} {dir : Fin 2} {s : State} (h : Kept A a s)
    : Answer.kept A a (@execConverterPllFault n dir s) := by
  unfold execConverterPllFault
  repeat' (first
    | with_reducible assumption
    | with_reducible apply kept_next
    | with_reducible apply kept_answer_ite
    | with_reducible apply kept_ite
    | with_reducible refine kept_when ?_ (fun _ _ => ?_)
    | with_reducible apply kept_pllFault)

theorem kept_execConverterPllLock {A : Area → Prop} {a : State} {n : Fin 4} {dir : Fin 2} {s : State} (h : Kept A a s)
    : Answer.kept A a (@execConverterPllLock n dir s) := by
  unfold execConverterPllLock
  repeat' (first
    | with_reducible assumption
    | with_reducible apply kept_next
    | with_reducible apply kept_answer_ite
    | with_reducible apply kept_put
    | with_reducible apply kept_ite
    | with_reducible refine kept_when ?_ (fun _ _ => ?_)
    | with_reducible apply kept_acqResume)

theorem kept_execConverterPllLossOfLock {A : Area → Prop} [Fact (A .flow)] [Fact (A .ch)] [Fact (A .votes)] [Fact (A
    .sets)] [Fact (A .applied)] [Fact (A .calWait)] {a : State} {n : Fin 4} {dir : Fin 2} {s : State} (h : Kept A a s)
    : Answer.kept A a (@execConverterPllLossOfLock n dir s) := by
  unfold execConverterPllLossOfLock
  repeat' (first
    | with_reducible assumption
    | with_reducible apply kept_next
    | with_reducible apply kept_answer_ite
    | with_reducible apply kept_ite
    | with_reducible refine kept_when ?_ (fun _ _ => ?_)
    | with_reducible apply kept_pllLoss)

theorem kept_execConverterReferenceLoss {A : Area → Prop} [Fact (A .flow)] [Fact (A .ch)] [Fact (A .votes)] [Fact (A
    .sets)] [Fact (A .applied)] [Fact (A .calWait)] {a : State} {n : Fin 4} {s : State} (h : Kept A a s) : Answer.kept
    A a (@execConverterReferenceLoss n s) := by
  unfold execConverterReferenceLoss
  repeat' (first
    | with_reducible assumption
    | with_reducible apply kept_next
    | with_reducible apply kept_answer_ite
    | with_reducible apply kept_put
    | with_reducible apply kept_ite
    | with_reducible refine kept_when ?_ (fun _ _ => ?_)
    | with_reducible apply kept_pllLoss)

theorem kept_execFrontEndMismatch {A : Area → Prop} {a : State} {n : Fin 4} {s : State} (h : Kept A a s) : Answer.kept
    A a (@execFrontEndMismatch n s) := by
  unfold execFrontEndMismatch
  repeat' (first
    | with_reducible assumption
    | with_reducible apply kept_next
    | with_reducible apply kept_answer_ite
    | with_reducible apply kept_put
    | with_reducible apply kept_ite
    | with_reducible refine kept_when ?_ (fun _ _ => ?_)
    | with_reducible apply kept_raiseCh)

theorem kept_execRespacing {A : Area → Prop} [Fact (A .flow)] [Fact (A .ch)] [Fact (A .votes)] [Fact (A .sets)] [Fact
    (A .applied)] [Fact (A .calWait)] {a : State} {n : Fin 4} {dir : Fin 2} {s : State} (h : Kept A a s) : Answer.kept
    A a (@execRespacing n dir s) := by
  unfold execRespacing
  repeat' (first
    | with_reducible assumption
    | with_reducible apply kept_next
    | with_reducible apply kept_answer_ite
    | with_reducible apply kept_ite
    | with_reducible refine kept_when ?_ (fun _ _ => ?_)
    | with_reducible apply kept_respaceDir)

theorem kept_execShadowCalibrationConverged {A : Area → Prop} [Fact (A .flow)] [Fact (A .ch)] [Fact (A .votes)] [Fact
    (A .sets)] [Fact (A .applied)] [Fact (A .calWait)] {a : State} {n : Fin 4} {c : Fin 8} {offset : Int} {gain : Int}
    {skew : Int} {bw : Int} {s : State} (h : Kept A a s) : Answer.kept A a (@execShadowCalibrationConverged n c offset
    gain skew bw s) := by
  unfold execShadowCalibrationConverged
  repeat' (first
    | with_reducible assumption
    | with_reducible apply kept_next
    | with_reducible apply kept_answer_ite
    | with_reducible apply kept_ite
    | with_reducible apply kept_shadowDone)

theorem kept_execShadowCalibrationTimeout {A : Area → Prop} [Fact (A .flow)] [Fact (A .ch)] [Fact (A .votes)] [Fact (A
    .sets)] [Fact (A .applied)] [Fact (A .calWait)] {a : State} {n : Fin 4} {c : Fin 8} {s : State} (h : Kept A a s) :
    Answer.kept A a (@execShadowCalibrationTimeout n c s) := by
  unfold execShadowCalibrationTimeout
  repeat' (first
    | with_reducible assumption
    | with_reducible apply kept_next
    | with_reducible apply kept_answer_ite
    | with_reducible apply kept_ite
    | with_reducible apply kept_sliceFault
    | with_reducible refine kept_foldl ?_ (fun _ _ _ => ?_)
    | split)

theorem kept_execSliceDriftFault {A : Area → Prop} [Fact (A .flow)] [Fact (A .ch)] [Fact (A .votes)] [Fact (A .sets)]
    [Fact (A .applied)] [Fact (A .calWait)] {a : State} {n : Fin 4} {k : Fin 544} {s : State} (h : Kept A a s) :
    Answer.kept A a (@execSliceDriftFault n k s) := by
  unfold execSliceDriftFault
  repeat' (first
    | with_reducible assumption
    | with_reducible apply kept_next
    | with_reducible apply kept_answer_ite
    | with_reducible apply kept_ite
    | with_reducible refine kept_when ?_ (fun _ _ => ?_)
    | with_reducible apply kept_sliceFault)

theorem kept_sliceForceHook {A : Area → Prop} [Fact (A .flow)] [Fact (A .ch)] [Fact (A .votes)] [Fact (A .sets)] [Fact
    (A .applied)] [Fact (A .calWait)] {n : Nat} : (@sliceForceHook n).kept A := by
  unfold sliceForceHook
  repeat' (first
    | with_reducible exact kept_hook_plain
    | with_reducible apply kept_hook_ite
    | with_reducible apply kept_hookAt
    | with_reducible apply hooks_cons
    | with_reducible exact hooks_nil
    | (refine fun _ _ _ h => ?_; dsimp only)
    | with_reducible assumption
    | with_reducible apply kept_hook_ite
    | with_reducible exact kept_hook_plain
    | with_reducible apply kept_ite
    | with_reducible refine kept_when ?_ (fun _ _ => ?_)
    | with_reducible apply kept_sliceFault)

theorem kept_execSliceForce {A : Area → Prop} [Fact (A .flow)] [Fact (A .ch)] [Fact (A .votes)] [Fact (A .sets)] [Fact
    (A .applied)] [Fact (A .calWait)] {a : State} {win : Fin 7} {n : Fin 4} {value : Word} {be : Fin 16} {s : State}
    (h : Kept A a s) : Answer.kept A a (@execSliceForce win n value be s) := by
  unfold execSliceForce
  repeat' (first
    | with_reducible assumption
    | with_reducible apply kept_next
    | with_reducible apply kept_answer_ite
    | with_reducible apply kept_ite
    | with_reducible apply kept_hostWrite
    | with_reducible apply kept_sliceForceHook)

theorem kept_execSliceRangeFault {A : Area → Prop} [Fact (A .flow)] [Fact (A .ch)] [Fact (A .votes)] [Fact (A .sets)]
    [Fact (A .applied)] [Fact (A .calWait)] {a : State} {n : Fin 4} {k : Fin 544} {s : State} (h : Kept A a s) :
    Answer.kept A a (@execSliceRangeFault n k s) := by
  unfold execSliceRangeFault
  repeat' (first
    | with_reducible assumption
    | with_reducible apply kept_next
    | with_reducible apply kept_answer_ite
    | with_reducible apply kept_ite
    | with_reducible refine kept_when ?_ (fun _ _ => ?_)
    | with_reducible apply kept_sliceFault)

theorem kept_execSliceSenseFault {A : Area → Prop} [Fact (A .flow)] [Fact (A .ch)] [Fact (A .votes)] [Fact (A .sets)]
    [Fact (A .applied)] [Fact (A .calWait)] {a : State} {n : Fin 4} {k : Fin 544} {s : State} (h : Kept A a s) :
    Answer.kept A a (@execSliceSenseFault n k s) := by
  unfold execSliceSenseFault
  repeat' (first
    | with_reducible assumption
    | with_reducible apply kept_next
    | with_reducible apply kept_answer_ite
    | with_reducible apply kept_ite
    | with_reducible refine kept_when ?_ (fun _ _ => ?_)
    | with_reducible apply kept_sliceFault)

theorem kept_execSliceStuckCode {A : Area → Prop} [Fact (A .flow)] [Fact (A .ch)] [Fact (A .votes)] [Fact (A .sets)]
    [Fact (A .applied)] [Fact (A .calWait)] {a : State} {n : Fin 4} {k : Fin 544} {s : State} (h : Kept A a s) :
    Answer.kept A a (@execSliceStuckCode n k s) := by
  unfold execSliceStuckCode
  repeat' (first
    | with_reducible assumption
    | with_reducible apply kept_next
    | with_reducible apply kept_answer_ite
    | with_reducible apply kept_ite
    | with_reducible refine kept_when ?_ (fun _ _ => ?_)
    | with_reducible apply kept_sliceFault)

theorem kept_execSliceTimingFault {A : Area → Prop} [Fact (A .flow)] [Fact (A .ch)] [Fact (A .votes)] [Fact (A .sets)]
    [Fact (A .applied)] [Fact (A .calWait)] {a : State} {n : Fin 4} {k : Fin 544} {s : State} (h : Kept A a s) :
    Answer.kept A a (@execSliceTimingFault n k s) := by
  unfold execSliceTimingFault
  repeat' (first
    | with_reducible assumption
    | with_reducible apply kept_next
    | with_reducible apply kept_answer_ite
    | with_reducible apply kept_ite
    | with_reducible refine kept_when ?_ (fun _ _ => ?_)
    | with_reducible apply kept_sliceFault)

theorem kept_execSpareSubstitution {A : Area → Prop} [Fact (A .flow)] [Fact (A .ch)] [Fact (A .votes)] [Fact (A
    .sets)] [Fact (A .applied)] [Fact (A .calWait)] {a : State} {n : Fin 4} {c : Fin 8} {s : State} (h : Kept A a s) :
    Answer.kept A a (@execSpareSubstitution n c s) := by
  unfold execSpareSubstitution
  repeat' (first
    | with_reducible assumption
    | with_reducible apply kept_next
    | with_reducible apply kept_answer_ite
    | with_reducible apply kept_ite
    | with_reducible refine kept_when ?_ (fun _ _ => ?_)
    | with_reducible refine kept_each ?_ (fun _ _ _ => ?_)
    | with_reducible apply kept_substitute
    | with_reducible apply kept_unitChanged)

end Sys2Proof.Machine
end

