-- ==== Sys2Proof/Laws/KeptCalibration.lean ====
section
/-! SUPPORT. What the operations of Machine/Calibration.lean keep. -/

namespace Sys2Proof.Machine

theorem setOf_wf (s : State) (sc : Nat) : memWf (s.setOf sc) = true := memCopy_wf rfl

theorem copyOf_wf (s : State) (sc r : Nat) : memWf (s.copyOf sc r) = true := memCopy_wf rfl

theorem restamp_wf {sc ty : Nat} {m : List Host.Cell} {s : State} (h : memWf m = true) : memWf (s.restamp sc ty m) =
    true :=
  memPut_wf (memPut_wf (memPut_wf (memPut_wf h)))

theorem foldl_memPut_wf {α : Type} {f : List Host.Cell → α → List Host.Cell} {l : List α} {m : List Host.Cell}
    (hf : ∀ b x, memWf b = true → memWf (f b x) = true) (h : memWf m = true) : memWf (l.foldl f m) = true := by
  induction l generalizing m with
  | nil => exact h
  | cons x l ih => exact ih (hf _ _ h)

theorem sliceEntries_wf {n : Nat} {m : List Host.Cell} {s : State} (h : memWf m = true) : memWf (s.sliceEntries n m) =
    true :=
  foldl_memPut_wf (fun _ _ h => foldl_memPut_wf (fun _ _ h => memPut_wf h) h) h

/-- The record of a run is in its canonical form. -/
theorem measuredSet_wf (ty sc : Nat) (x : Measured) (s : State) : memWf (s.measuredSet ty sc x) = true := by
  unfold State.measuredSet
  refine memPut_wf (memPut_wf (memPut_wf (memPut_wf (memPut_wf (memPut_wf (restamp_wf (memFill_wf ?_)))))))
  split
  · split <;> exact memCopy_wf rfl
  · split
    · exact memCopy_wf (memCopy_wf (memCopy_wf (sliceEntries_wf (memCopy_wf rfl))))
    · exact memCopy_wf (memCopy_wf rfl)

theorem kept_runSet {A : Area → Prop} [Fact (A .runSet)] {a s : State} {m : List Host.Cell} (h : Kept A a s) (hm :
    memWf m = true) : Kept A a { s with runSet := m } :=
  kept_mk_forms h (Or.inr rfl) (Or.inr rfl) (Or.inr rfl) (Or.inr rfl) (Or.inr rfl) (Or.inr rfl) (Or.inr rfl) (Or.inr rfl) (Or.inr rfl) (Or.inr rfl) (Or.inr rfl) (Or.inr rfl) (Or.inr rfl) (Or.inr rfl) (Or.inr rfl) (Or.inr rfl) (Or.inr rfl) (Or.inr rfl) (Or.inr rfl) (Or.inl Fact.out) id id id id id (fun _ => hm)

theorem kept_calApplyStart {A : Area → Prop} {a : State} {s : State} (h : Kept A a s) : Kept A a (@State.calApplyStart
    s) := by
  unfold State.calApplyStart
  repeat' (first
    | with_reducible assumption
    | with_reducible apply kept_put
    | with_reducible apply kept_ite
    | with_reducible apply kept_calPause)

theorem kept_regionWrite {A : Area → Prop} [Fact (A .store)] {a : State} {r : Nat} {s : State} (h : Kept A a s) : Kept
    A a (@State.regionWrite r s) := by
  unfold State.regionWrite
  repeat' (first
    | with_reducible assumption
    | with_reducible exact Or.inl Fact.out
    | with_reducible exact Or.inr rfl
    | with_reducible apply kept_put
    | with_reducible apply kept_ite
    | with_reducible refine kept_when ?_ (fun _ _ => ?_)
    | with_reducible refine kept_mk_forms ?_ ?_ ?_ ?_ ?_ ?_ ?_ ?_ ?_ ?_ ?_ ?_ ?_ ?_ ?_ ?_ ?_ ?_ ?_ ?_ ?_ (fun h => ?_) (fun h => ?_) (fun h => ?_) (fun h => ?_) (fun h => ?_) (fun h => ?_)
    | exact memFilter_wf (lo := 0) _ h)

theorem kept_calApproved {A : Area → Prop} [Fact (A .store)] {a : State} {s : State} (h : Kept A a s) : Kept A a
    (@State.calApproved s) := by
  unfold State.calApproved
  repeat' (first
    | with_reducible assumption
    | with_reducible apply kept_put
    | with_reducible apply kept_ite
    | with_reducible apply kept_calApplyStart
    | with_reducible apply kept_regionWrite)

theorem kept_calBegin {A : Area → Prop} [Fact (A .votes)] [Fact (A .runSet)] {a : State} {ty sc src : Nat} {ign :
    Bool} {s : State} (h : Kept A a s) :
    Kept A a (s.calBegin ty sc src ign) := by
  unfold State.calBegin
  have k : Kept A a (s.put CAL_RUN_STAT.SCOPE sc |>.put CAL_RUN_STAT.TYPE ty |>.put CAL_RUN_STAT.CAUSE 0
      |>.put CAL_RUN_STAT.PAUSE 0 |>.flag CALC.IGN ign |>.put CALC.SRC src |>.put CALC.PASS 0 |>.put CALC.NOWRITE 0
      |>.put CALC.LIGHT 0 |>.put CAL_PROG.NEXT 0 |>.put CAL_PROG.TOTAL (totalOf sc)) :=
    kept_put _ _ (kept_put _ _ (kept_put _ _ (kept_put _ _ (kept_put _ _ (kept_put _ _ (kept_flag (kept_put _ _
      (kept_put _ _ (kept_put _ _ (kept_put _ _ h))))))))))
  extract_lets s1
  refine kept_ite (kept_when (kept_put _ _ k) fun _ j => kept_request j) (kept_ite ?_ ?_)
  · split
    · refine kept_request (kept_put _ _ (kept_flag (kept_put _ _ (kept_runSet k ?_))))
      split
      · exact copyOf_wf _ _ _
      · exact restamp_wf (copyOf_wf _ _ _)
    · exact k
  · exact kept_request (kept_put _ _ (kept_runSet k (setOf_wf _ _)))

theorem kept_calCommit {A : Area → Prop} [Fact (A .votes)] [Fact (A .sets)] [Fact (A .calWait)] {a : State} {n : Nat}
    {s : State} (h : Kept A a s) : Kept A a (@State.calCommit n s) := by
  unfold State.calCommit
  repeat' (first
    | with_reducible assumption
    | with_reducible apply kept_put
    | with_reducible apply kept_ite
    | with_reducible refine kept_when ?_ (fun _ _ => ?_)
    | with_reducible apply kept_calCheckEnd
    | with_reducible apply kept_calElementCommit
    | with_reducible apply kept_calRelease
    | with_reducible refine kept_times ?_ (fun _ _ => ?_))

theorem kept_calGo {A : Area → Prop} [Fact (A .votes)] [Fact (A .runSet)] {a : State} {ty : Nat} {sc : Nat} {src :
    Nat} {ign : Bool} {s : State} (h : Kept A a s) : Kept A a (@State.calGo ty sc src ign s) := by
  unfold State.calGo
  repeat' (first
    | with_reducible assumption
    | with_reducible apply kept_put
    | with_reducible apply kept_ite
    | with_reducible apply kept_calBegin
    | with_reducible apply kept_raise)

theorem kept_calImplausible {A : Area → Prop} [Fact (A .votes)] {a : State} {sc : Nat} {x : Miss} {s : State} (h :
    Kept A a s) : Kept A a (@State.calImplausible sc x s) := by
  unfold State.calImplausible
  repeat' (first
    | with_reducible assumption
    | with_reducible apply kept_put
    | with_reducible apply kept_ite
    | with_reducible apply kept_calFail
    | with_reducible apply kept_calLog)

theorem kept_calMeasured {A : Area → Prop} [Fact (A .votes)] [Fact (A .runSet)] {a : State} {x : Measured} {s : State}
    (h : Kept A a s) : Kept A a (s.calMeasured x) := by
  unfold State.calMeasured
  refine kept_ite h ?_
  extract_lets m old s1
  have k : Kept A a s1 := kept_put _ _ (kept_when (kept_runSet h (measuredSet_wf _ _ _ _)) fun _ j => kept_put _ _ (kept_put _ _ j))
  split
  · exact kept_calImplausible k
  · exact kept_request (kept_put _ _ k)

theorem kept_calMonitorPeriod {A : Area → Prop} [Fact (A .votes)] [Fact (A .sets)] [Fact (A .applied)] [Fact (A
    .calWait)] {a : State} {sc : Nat} {s : State} (h : Kept A a s) : Kept A a (@State.calMonitorPeriod sc s) := by
  unfold State.calMonitorPeriod
  repeat' (first
    | with_reducible assumption
    | with_reducible apply kept_ite
    | with_reducible refine kept_when ?_ (fun _ _ => ?_)
    | with_reducible apply kept_calBoundary
    | with_reducible apply kept_calCheckEnd
    | with_reducible apply kept_calElementNow
    | with_reducible apply kept_calRelease)

theorem kept_loopbackApproved {A : Area → Prop} [Fact (A .votes)] {a : State} {n : Nat} {s : State} (h : Kept A a s) :
    Kept A a (@State.loopbackApproved n s) := by
  unfold State.loopbackApproved
  repeat' (first
    | with_reducible assumption
    | with_reducible apply kept_put
    | with_reducible apply kept_ite
    | with_reducible apply kept_calFail)

theorem kept_storeState {A : Area → Prop} {a : State} {v : Nat} {s : State} (h : Kept A a s) : Kept A a
    (@State.storeState v s) := by
  unfold State.storeState
  repeat' (first
    | with_reducible assumption
    | with_reducible apply kept_put
    | with_reducible apply kept_ite
    | with_reducible refine kept_when ?_ (fun _ _ => ?_)
    | with_reducible apply kept_raise)

theorem kept_storeWritten {A : Area → Prop} [Fact (A .votes)] [Fact (A .store)] {a : State} {ok : Bool} {s : State} (h
    : Kept A a s) : Kept A a (@State.storeWritten ok s) := by
  unfold State.storeWritten
  repeat' (first
    | with_reducible assumption
    | with_reducible exact Or.inl Fact.out
    | with_reducible exact Or.inr rfl
    | with_reducible apply kept_put
    | with_reducible apply kept_ite
    | with_reducible refine kept_when ?_ (fun _ _ => ?_)
    | with_reducible apply kept_bump
    | with_reducible apply kept_calApplyStart
    | with_reducible apply kept_calFail
    | with_reducible apply kept_calLog
    | with_reducible apply kept_calRelease
    | with_reducible apply kept_raise
    | with_reducible apply kept_regionWrite
    | with_reducible apply kept_storeState
    | with_reducible refine kept_mk_forms ?_ ?_ ?_ ?_ ?_ ?_ ?_ ?_ ?_ ?_ ?_ ?_ ?_ ?_ ?_ ?_ ?_ ?_ ?_ ?_ ?_ (fun h => ?_) (fun h => ?_) (fun h => ?_) (fun h => ?_) (fun h => ?_) (fun h => ?_)
    | with_reducible exact memCopy_wf h)

theorem kept_trigger {A : Area → Prop} {a : State} {sc : Nat} {s : State} (h : Kept A a s) : Kept A a (@State.trigger
    sc s) := by
  unfold State.trigger
  repeat' (first
    | with_reducible assumption
    | with_reducible apply kept_ite
    | with_reducible refine kept_when ?_ (fun _ _ => ?_)
    | with_reducible apply kept_putBit)

theorem kept_triggeredStart {A : Area → Prop} [Fact (A .votes)] [Fact (A .runSet)] {a : State} {sc : Nat} {s : State}
    (h : Kept A a s) : Kept A a (@State.triggeredStart sc s) := by
  unfold State.triggeredStart
  repeat' (first
    | with_reducible assumption
    | with_reducible apply kept_put
    | with_reducible apply kept_ite
    | with_reducible apply kept_calBegin
    | with_reducible apply kept_putBit)

theorem kept_calHook {A : Area → Prop} [Fact (A .votes)] [Fact (A .runSet)] {value : Nat} : (@calHook value).kept A :=
    by
  unfold calHook
  repeat' (first
    | with_reducible exact kept_hook_plain
    | with_reducible apply kept_hook_ite
    | with_reducible apply kept_hookAt
    | with_reducible apply hooks_cons
    | with_reducible exact hooks_nil
    | (refine fun _ _ _ h => ?_; dsimp only)
    | with_reducible assumption
    | with_reducible apply kept_hook_ite
    | with_reducible exact kept_hook_plain
    | with_reducible apply kept_ite
    | with_reducible refine kept_when ?_ (fun _ _ => ?_)
    | with_reducible apply kept_calGo)

theorem kept_execCalApplyElement {A : Area → Prop} [Fact (A .votes)] [Fact (A .sets)] [Fact (A .applied)] {a : State}
    {s : State} (h : Kept A a s) : Answer.kept A a (@execCalApplyElement s) := by
  unfold execCalApplyElement
  repeat' (first
    | with_reducible assumption
    | with_reducible apply kept_next
    | with_reducible apply kept_answer_ite
    | with_reducible apply kept_ite
    | with_reducible refine kept_when ?_ (fun _ _ => ?_)
    | with_reducible apply kept_calCheckEnd
    | with_reducible apply kept_calElementNow
    | with_reducible apply kept_calRelease)

theorem kept_execCalFull {A : Area → Prop} [Fact (A .ch)] [Fact (A .votes)] [Fact (A .runSet)] {a : State} {win : Fin
    7} {value : Word} {be : Fin 16} {s : State} (h : Kept A a s) : Answer.kept A a (@execCalFull win value be s) := by
  unfold execCalFull
  repeat' (first
    | with_reducible assumption
    | with_reducible apply kept_next
    | with_reducible apply kept_answer_ite
    | with_reducible apply kept_ite
    | with_reducible apply kept_hostWrite
    | with_reducible apply kept_calHook)

theorem kept_execCalLoad {A : Area → Prop} [Fact (A .ch)] [Fact (A .votes)] [Fact (A .runSet)] {a : State} {win : Fin
    7} {value : Word} {be : Fin 16} {s : State} (h : Kept A a s) : Answer.kept A a (@execCalLoad win value be s) := by
  unfold execCalLoad
  repeat' (first
    | with_reducible assumption
    | with_reducible apply kept_next
    | with_reducible apply kept_answer_ite
    | with_reducible apply kept_ite
    | with_reducible apply kept_hostWrite
    | with_reducible apply kept_calHook)

theorem kept_execCalMeasurementComplete {A : Area → Prop} [Fact (A .votes)] [Fact (A .runSet)] {a : State} {data :
    List Host.Cell} {temp : Int} {vref : Nat} {lppm : Int} {s : State} (h : Kept A a s) : Answer.kept A a
    (@execCalMeasurementComplete data temp vref lppm s) := by
  unfold execCalMeasurementComplete
  repeat' (first
    | with_reducible assumption
    | with_reducible apply kept_next
    | with_reducible apply kept_answer_ite
    | with_reducible apply kept_ite
    | with_reducible apply kept_calMeasured)

theorem kept_execCalMonitorTimeout {A : Area → Prop} [Fact (A .votes)] {a : State} {s : State} (h : Kept A a s) :
    Answer.kept A a (@execCalMonitorTimeout s) := by
  unfold execCalMonitorTimeout
  repeat' (first
    | with_reducible assumption
    | with_reducible apply kept_next
    | with_reducible apply kept_answer_ite
    | with_reducible apply kept_ite
    | with_reducible refine kept_when ?_ (fun _ _ => ?_)
    | with_reducible apply kept_calFail)

theorem kept_execCalPolicyAgeTrigger {A : Area → Prop} {a : State} {sc : Fin 5} {s : State} (h : Kept A a s) :
    Answer.kept A a (@execCalPolicyAgeTrigger sc s) := by
  unfold execCalPolicyAgeTrigger
  repeat' (first
    | with_reducible assumption
    | with_reducible apply kept_next
    | with_reducible apply kept_answer_ite
    | with_reducible apply kept_ite
    | with_reducible refine kept_when ?_ (fun _ _ => ?_)
    | with_reducible apply kept_trigger)

theorem kept_execCalPolicyTemperatureCheck {A : Area → Prop} {a : State} {n : Fin 4} {engTemp : Int} {s : State} (h :
    Kept A a s) : Answer.kept A a (@execCalPolicyTemperatureCheck n engTemp s) := by
  unfold execCalPolicyTemperatureCheck
  repeat' (first
    | with_reducible assumption
    | with_reducible apply kept_next
    | with_reducible apply kept_answer_ite
    | with_reducible apply kept_ite
    | with_reducible refine kept_when ?_ (fun _ _ => ?_)
    | with_reducible apply kept_trigger)

theorem kept_execCalRewrite {A : Area → Prop} [Fact (A .ch)] [Fact (A .votes)] [Fact (A .runSet)] {a : State} {win :
    Fin 7} {value : Word} {be : Fin 16} {s : State} (h : Kept A a s) : Answer.kept A a (@execCalRewrite win value be
    s) := by
  unfold execCalRewrite
  repeat' (first
    | with_reducible assumption
    | with_reducible apply kept_next
    | with_reducible apply kept_answer_ite
    | with_reducible apply kept_ite
    | with_reducible apply kept_hostWrite
    | with_reducible apply kept_calHook)

theorem kept_execCalStoreWriteComplete {A : Area → Prop} [Fact (A .votes)] [Fact (A .store)] {a : State} {ok : Bool}
    {s : State} (h : Kept A a s) : Answer.kept A a (@execCalStoreWriteComplete ok s) := by
  unfold execCalStoreWriteComplete
  repeat' (first
    | with_reducible assumption
    | with_reducible apply kept_next
    | with_reducible apply kept_answer_ite
    | with_reducible apply kept_ite
    | with_reducible apply kept_storeWritten)

theorem kept_execCalTrack {A : Area → Prop} [Fact (A .ch)] [Fact (A .votes)] [Fact (A .runSet)] {a : State} {win : Fin
    7} {value : Word} {be : Fin 16} {s : State} (h : Kept A a s) : Answer.kept A a (@execCalTrack win value be s) := by
  unfold execCalTrack
  repeat' (first
    | with_reducible assumption
    | with_reducible apply kept_next
    | with_reducible apply kept_answer_ite
    | with_reducible apply kept_ite
    | with_reducible apply kept_hostWrite
    | with_reducible apply kept_calHook)

theorem kept_execCalTriggeredRunStart {A : Area → Prop} [Fact (A .votes)] [Fact (A .runSet)] {a : State} {sc : Fin 5}
    {s : State} (h : Kept A a s) : Answer.kept A a (@execCalTriggeredRunStart sc s) := by
  unfold execCalTriggeredRunStart
  repeat' (first
    | with_reducible assumption
    | with_reducible apply kept_next
    | with_reducible apply kept_answer_ite
    | with_reducible apply kept_ite
    | with_reducible apply kept_triggeredStart)

end Sys2Proof.Machine
end

