-- ==== Sys2Proof/Laws/KeptTransmit.lean ====
section
/-! SUPPORT. What the operations of Machine/Transmit.lean keep. -/

namespace Sys2Proof.Machine

theorem kept_onTx {A : Area → Prop} [Fact (A .ch)] {a : State} {n : Nat} {f : LineTx → LineTx} {s : State} (h : Kept A
    a s) : Kept A a (@State.onTx n f s) := by
  unfold State.onTx
  repeat' (first
    | with_reducible assumption
    | with_reducible apply kept_ite
    | with_reducible apply kept_onChan)

theorem kept_sealWarn {A : Area → Prop} {a : State} {n : Nat} {t : Nat} {s : State} (h : Kept A a s) : Kept A a
    (@State.sealWarn n t s) := by
  unfold State.sealWarn
  repeat' (first
    | with_reducible assumption
    | with_reducible apply kept_put
    | with_reducible apply kept_ite
    | with_reducible refine kept_when ?_ (fun _ _ => ?_)
    | with_reducible apply kept_raiseCh)

theorem kept_sealUnit {A : Area → Prop} [Fact (A .ch)] {a : State} {n : Nat} {e : Sealing} {q : Nat} {s : State} (h :
    Kept A a s) : Kept A a (@State.sealUnit n e q s) := by
  unfold State.sealUnit
  repeat' (first
    | with_reducible assumption
    | with_reducible apply kept_ite
    | with_reducible apply kept_addSat
    | with_reducible apply kept_countFor
    | with_reducible apply kept_onTx
    | with_reducible apply kept_sealWarn
    | with_reducible apply kept_secCount)

theorem kept_sealUnits {A : Area → Prop} [Fact (A .ch)] {a : State} {n t k : Nat} {s : State} (h : Kept A a s) : Kept
    A a (s.sealUnits n t k) := by
  induction k generalizing s with
  | zero => exact h
  | succ k ih =>
    unfold State.sealUnits
    exact kept_ite h (ih (kept_ite (kept_onTx h) (kept_sealUnit h)))

theorem kept_carryBytes {A : Area → Prop} [Fact (A .ch)] {a : State} {n : Nat} {t : Nat} {spoilt : Bool} {l : List
    Byte} {s : State} (h : Kept A a s) : Kept A a (@State.carryBytes n t spoilt l s) := by
  unfold State.carryBytes
  repeat' (first
    | with_reducible assumption
    | with_reducible apply kept_ite
    | with_reducible apply kept_onTx
    | with_reducible apply kept_sealUnits)

theorem kept_carryLost {A : Area → Prop} [Fact (A .ch)] {a : State} {n : Nat} {t : Nat} {s : State} (h : Kept A a s) :
    Kept A a (@State.carryLost n t s) := by
  unfold State.carryLost
  repeat' (first
    | with_reducible assumption
    | with_reducible apply kept_ite
    | with_reducible apply kept_carryBytes)

theorem kept_toDacs {A : Area → Prop} [Fact (A .out)] {a : State} {n : Nat} {skip : Nat} {codes : List (List Int)} {s
    : State} (h : Kept A a s) : Kept A a (@State.toDacs n skip codes s) := by
  unfold State.toDacs
  repeat' (first
    | with_reducible assumption
    | with_reducible apply kept_put
    | with_reducible apply kept_ite
    | with_reducible apply kept_emit)

theorem kept_sendSymbols {A : Area → Prop} [Fact (A .ch)] [Fact (A .out)] {a : State} {n : Nat} {g : Geo} {regs : Nat
    × Nat} {l : List (Cpx × Cpx)} {s : State} (h : Kept A a s) : Kept A a (@State.sendSymbols n g regs l s) := by
  unfold State.sendSymbols
  repeat' (first
    | with_reducible assumption
    | with_reducible apply kept_ite
    | with_reducible apply kept_addSat
    | with_reducible apply kept_countFor
    | with_reducible apply kept_onTx
    | with_reducible apply kept_toDacs)

theorem kept_sendData {A : Area → Prop} [Fact (A .ch)] [Fact (A .out)] {a : State} {n : Nat} {g : Geo} {l : List (Cpx
    × Cpx)} {s : State} (h : Kept A a s) : Kept A a (@State.sendData n g l s) := by
  unfold State.sendData
  repeat' (first
    | with_reducible assumption
    | with_reducible apply kept_ite
    | with_reducible apply kept_sendSymbols)

theorem kept_formCodeword {A : Area → Prop} [Fact (A .ch)] [Fact (A .out)] {a : State} {n : Nat} {s : State} (h : Kept
    A a s) : Kept A a (@State.formCodeword n s) := by
  unfold State.formCodeword
  repeat' (first
    | with_reducible assumption
    | with_reducible apply kept_ite
    | with_reducible apply kept_onTx
    | with_reducible apply kept_sendData
    | with_reducible refine kept_foldl ?_ (fun _ _ _ => ?_)
    | split
    | dsimp only)

theorem kept_formFrame {A : Area → Prop} [Fact (A .ch)] {a : State} {n : Nat} {s : State} (h : Kept A a s) : Kept A a
    (@State.formFrame n s) := by
  unfold State.formFrame
  repeat' (first
    | with_reducible assumption
    | with_reducible apply kept_ite
    | with_reducible apply kept_onTx
    | with_reducible refine kept_foldl ?_ (fun _ _ _ => ?_)
    | split)

theorem kept_mapperStart {A : Area → Prop} {a : State} {n : Nat} {t : Nat} {s : State} (h : Kept A a s) : Kept A a
    (@State.mapperStart n t s) := by
  unfold State.mapperStart
  repeat' (first
    | with_reducible assumption
    | with_reducible apply kept_ite
    | with_reducible apply kept_putS)

theorem kept_lineBoundary {A : Area → Prop} [Fact (A .ch)] {a : State} {n : Nat} {flips : Nat → Bool} {s : State} (h :
    Kept A a s) : Kept A a (@State.lineBoundary n flips s) := by
  unfold State.lineBoundary
  repeat' (first
    | with_reducible assumption
    | with_reducible apply kept_ite
    | with_reducible refine kept_each ?_ (fun _ _ _ => ?_)
    | with_reducible apply kept_mapperStart
    | with_reducible apply kept_onTx)

theorem kept_onDsp {A : Area → Prop} [Fact (A .ch)] {a : State} {n : Nat} {f : RxDsp → RxDsp} {s : State} (h : Kept A
    a s) : Kept A a (@State.onDsp n f s) := by
  unfold State.onDsp
  repeat' (first
    | with_reducible assumption
    | with_reducible apply kept_ite
    | with_reducible apply kept_onChan)

theorem kept_onRx {A : Area → Prop} [Fact (A .ch)] {a : State} {n : Nat} {f : LineRx → LineRx} {s : State} (h : Kept A
    a s) : Kept A a (@State.onRx n f s) := by
  unfold State.onRx
  repeat' (first
    | with_reducible assumption
    | with_reducible apply kept_ite
    | with_reducible apply kept_onChan)

theorem kept_sealMismatch {A : Area → Prop} [Fact (A .flow)] [Fact (A .ch)] {a : State} {n : Nat} {t : Nat} {s :
    State} (h : Kept A a s) : Kept A a (@State.sealMismatch n t s) := by
  unfold State.sealMismatch
  repeat' (first
    | with_reducible assumption
    | with_reducible apply kept_ite
    | with_reducible apply kept_carryLost
    | with_reducible refine kept_flowOp _ ?_ (fun _ _ => ?_)
    | with_reducible apply kept_onTx
    | with_reducible apply Flow.txDropOne_conserved)

theorem kept_substituteSpan {A : Area → Prop} [Fact (A .ch)] [Fact (A .out)] {a : State} {n : Nat} {k : Nat} {s :
    State} (h : Kept A a s) : Kept A a (@State.substituteSpan n k s) := by
  unfold State.substituteSpan
  repeat' (first
    | with_reducible assumption
    | with_reducible apply kept_ite
    | with_reducible apply kept_onTx
    | with_reducible apply kept_sendData
    | with_reducible refine kept_foldl ?_ (fun _ _ _ => ?_)
    | split
    | dsimp only)

theorem kept_toFec {A : Area → Prop} [Fact (A .ch)] {a : State} {n : Nat} {s : State} (h : Kept A a s) : Kept A a
    (@State.toFec n s) := by
  unfold State.toFec
  repeat' (first
    | with_reducible assumption
    | with_reducible apply kept_ite
    | with_reducible refine kept_when ?_ (fun _ _ => ?_)
    | with_reducible apply kept_formFrame
    | with_reducible apply kept_onTx)

theorem kept_toLds {A : Area → Prop} [Fact (A .ch)] [Fact (A .out)] {a : State} {n : Nat} {s : State} (h : Kept A a s)
    : Kept A a (@State.toLds n s) := by
  unfold State.toLds
  repeat' (first
    | with_reducible assumption
    | with_reducible apply kept_ite
    | with_reducible apply kept_formCodeword
    | with_reducible apply kept_onTx)

end Sys2Proof.Machine
end

