-- ==== Sys2Proof/Laws/KeptReceive.lean ====
section
/-! SUPPORT. What the operations of Machine/Receive.lean keep. -/

namespace Sys2Proof.Machine

theorem kept_blindTaps {A : Area → Prop} [Fact (A .free)] [Fact (A .ch)] {a : State} {n : Nat} {s : State} (h : Kept A
    a s) : Kept A a (@State.blindTaps n s) := by
  unfold State.blindTaps
  repeat' (first
    | with_reducible assumption
    | with_reducible apply kept_ite
    | with_reducible apply kept_draw
    | with_reducible apply kept_onDsp)

theorem kept_receiveSpan {A : Area → Prop} [Fact (A .ch)] {a : State} {n : Nat} {adc : List (List Int)} {s : State} (h
    : Kept A a s) : Kept A a (@State.receiveSpan n adc s) := by
  unfold State.receiveSpan
  repeat' (first
    | with_reducible assumption
    | with_reducible apply kept_put
    | with_reducible apply kept_ite
    | with_reducible refine kept_when ?_ (fun _ _ => ?_)
    | with_reducible apply kept_countFor
    | with_reducible apply kept_onDsp
    | with_reducible apply kept_putS
    | with_reducible refine kept_foldl ?_ (fun _ _ _ => ?_)
    | split)

theorem kept_syncPilots {A : Area → Prop} [Fact (A .ch)] {a : State} {n : Nat} {adc : List (List Int)} {s : State} (h
    : Kept A a s) : Kept A a (@State.syncPilots n adc s) := by
  unfold State.syncPilots
  repeat' (first
    | with_reducible assumption
    | with_reducible apply kept_ite
    | with_reducible apply kept_onDsp
    | with_reducible refine kept_foldl ?_ (fun _ _ _ => ?_)
    | split)

end Sys2Proof.Machine
end

