-- ==== Sys2Proof/Laws/KeptFec.lean ====
section
/-! SUPPORT. What the operations of Machine/Fec.lean keep. -/

namespace Sys2Proof.Machine

theorem kept_aligned {A : Area → Prop} [Fact (A .ch)] {a : State} {n : Nat} {g : Geo} {offset : Nat} {s : State} (h :
    Kept A a s) : Kept A a (@State.aligned n g offset s) := by
  unfold State.aligned
  repeat' (first
    | with_reducible assumption
    | with_reducible apply kept_put
    | with_reducible apply kept_ite
    | with_reducible apply kept_onDsp
    | with_reducible apply kept_onRx)

theorem kept_assignEngine {A : Area → Prop} [Fact (A .flow)] {a : State} {n : Nat} {e : Nat} {s : State} (h : Kept A a
    s) : Kept A a (@State.assignEngine n e s) := by
  unfold State.assignEngine
  repeat' (first
    | with_reducible assumption
    | with_reducible apply kept_ite
    | with_reducible refine kept_onFlow _ ?_ (fun _ _ => ?_)
    | with_reducible apply Flow.cwMap_conserved
    | with_reducible refine kept_foldl ?_ (fun _ _ _ => ?_)
    | split
    | dsimp only)

theorem kept_countBits {A : Area → Prop} [Fact (A .ch)] {a : State} {n : Nat} {w : Codeword} {coded : List Bool} {s :
    State} (h : Kept A a s) : Kept A a (@State.countBits n w coded s) := by
  unfold State.countBits
  repeat' (first
    | with_reducible assumption
    | with_reducible apply kept_ite
    | with_reducible apply kept_onDsp)

theorem kept_sample {A : Area → Prop} {a : State} {n : Nat} {w : Codeword} {r : Rel} {uncorr : Bool} {corr : Nat}
    {comp : Nat} {s : State} (h : Kept A a s) : Kept A a (@State.sample n w r uncorr corr comp s) := by
  unfold State.sample
  repeat' (first
    | with_reducible assumption
    | with_reducible apply kept_put
    | with_reducible apply kept_ite
    | with_reducible refine kept_when ?_ (fun _ _ => ?_)
    | with_reducible apply kept_addWrap
    | with_reducible apply kept_put64
    | with_reducible apply kept_raiseCh)

theorem kept_uncorrectable {A : Area → Prop} {a : State} {n : Nat} {s : State} (h : Kept A a s) : Kept A a
    (@State.uncorrectable n s) := by
  unfold State.uncorrectable
  repeat' (first
    | with_reducible assumption
    | with_reducible apply kept_put
    | with_reducible apply kept_ite
    | with_reducible apply kept_addSat
    | with_reducible apply kept_bump
    | with_reducible apply kept_count
    | with_reducible apply kept_raiseCh)

theorem kept_cwRelease {A : Area → Prop} [Fact (A .flow)] [Fact (A .ch)] {a : State} {n : Nat} {w : Codeword} {r :
    Rel} {s : State} (h : Kept A a s) : Kept A a (@State.cwRelease n w r s) := by
  unfold State.cwRelease
  repeat' (first
    | with_reducible assumption
    | with_reducible apply kept_put
    | with_reducible apply kept_ite
    | with_reducible refine kept_when ?_ (fun _ _ => ?_)
    | with_reducible apply kept_addSat
    | with_reducible apply kept_addWrap
    | with_reducible apply kept_count
    | with_reducible apply kept_countBits
    | with_reducible apply kept_countFor
    | with_reducible refine kept_flowOp _ ?_ (fun _ _ => ?_)
    | with_reducible apply kept_onRx
    | with_reducible apply kept_sample
    | with_reducible apply kept_uncorrectable
    | with_reducible apply Flow.cwLeave_conserved)

theorem kept_drainOut {A : Area → Prop} [Fact (A .ch)] {a : State} {n : Nat} {s : State} (h : Kept A a s) : Kept A a
    (@State.drainOut n s) := by
  unfold State.drainOut
  repeat' (first
    | with_reducible assumption
    | with_reducible apply kept_ite
    | with_reducible apply kept_onRx)

theorem kept_fecOcc {A : Area → Prop} {a : State} {n : Nat} {s : State} (h : Kept A a s) : Kept A a (@State.fecOcc n
    s) := by
  unfold State.fecOcc
  repeat' (first
    | with_reducible assumption
    | with_reducible apply kept_put)

theorem kept_releases {A : Area → Prop} [Fact (A .flow)] [Fact (A .ch)] {a : State} {n k : Nat} {s : State} (h : Kept
    A a s) : Kept A a (s.releases n k) := by
  induction k generalizing s with
  | zero => exact h
  | succ k ih =>
    unfold State.releases
    split
    · exact h
    · exact kept_ite (ih (kept_cwRelease h)) h

theorem kept_decoderTurn {A : Area → Prop} [Fact (A .flow)] [Fact (A .ch)] {a : State} {n : Nat} {s : State} (h : Kept
    A a s) : Kept A a (@State.decoderTurn n s) := by
  unfold State.decoderTurn
  repeat' (first
    | with_reducible assumption
    | with_reducible apply kept_ite
    | with_reducible refine kept_each ?_ (fun _ _ _ => ?_)
    | with_reducible apply kept_assignEngine
    | with_reducible apply kept_drainOut
    | with_reducible apply kept_fecOcc
    | with_reducible apply kept_releases)

theorem kept_sampleTurn {A : Area → Prop} [Fact (A .free)] {a : State} {n : Nat} {s : State} (h : Kept A a s) : Kept A
    a (@State.sampleTurn n s).2 := by
  unfold State.sampleTurn
  repeat' (first
    | with_reducible assumption
    | with_reducible apply kept_put
    | with_reducible apply kept_ite
    | with_reducible apply kept_ite_snd
    | with_reducible apply kept_draw)

theorem kept_dispatchCw {A : Area → Prop} [Fact (A .free)] [Fact (A .flow)] {a : State} {n : Nat} {g : Geo} {l : List
    (Int × Int)} {s : State} (h : Kept A a s) : Kept A a (@State.dispatchCw n g l s) := by
  unfold State.dispatchCw
  repeat' (first
    | with_reducible assumption
    | with_reducible apply kept_ite
    | with_reducible apply kept_countOcc
    | with_reducible refine kept_flowOp _ ?_ (fun _ _ => ?_)
    | with_reducible apply kept_sampleTurn
    | with_reducible apply Flow.cwEnter_conserved)

theorem kept_eraseCw {A : Area → Prop} [Fact (A .ch)] {a : State} {n : Nat} {q : Nat} {g : Geo} {s : State} (h : Kept
    A a s) : Kept A a (@State.eraseCw n q g s) := by
  unfold State.eraseCw
  repeat' (first
    | with_reducible assumption
    | with_reducible apply kept_ite
    | with_reducible apply kept_onRx)

theorem kept_fill {A : Area → Prop} [Fact (A .ch)] {a : State} {n : Nat} {q : Nat} {g : Geo} {s : State} (h : Kept A a
    s) : Kept A a (@State.fill n q g s) := by
  unfold State.fill
  repeat' (first
    | with_reducible assumption
    | with_reducible apply kept_ite
    | with_reducible apply kept_bump
    | with_reducible apply kept_count
    | with_reducible apply kept_onRx)

theorem kept_dropCw {A : Area → Prop} [Fact (A .flow)] [Fact (A .ch)] {a : State} {n : Nat} {g : Geo} {s : State} (h :
    Kept A a s) : Kept A a (@State.dropCw n g s) := by
  unfold State.dropCw
  repeat' (first
    | with_reducible assumption
    | with_reducible apply kept_put
    | with_reducible apply kept_ite
    | with_reducible refine kept_when ?_ (fun _ _ => ?_)
    | with_reducible apply kept_eraseCw
    | with_reducible apply kept_fill
    | with_reducible refine kept_flowOp _ ?_ (fun _ _ => ?_)
    | with_reducible apply Flow.cwReject_conserved)

theorem kept_engineFence {A : Area → Prop} [Fact (A .flow)] [Fact (A .ch)] [Fact (A .votes)] [Fact (A .sets)] [Fact (A
    .applied)] [Fact (A .calWait)] {a : State} {n : Nat} {e : Nat} {cause : Nat} {s : State} (h : Kept A a s) : Kept A
    a (@State.engineFence n e cause s) := by
  unfold State.engineFence
  repeat' (first
    | with_reducible assumption
    | with_reducible apply kept_put
    | with_reducible apply kept_ite
    | with_reducible refine kept_when ?_ (fun _ _ => ?_)
    | with_reducible refine kept_each ?_ (fun _ _ _ => ?_)
    | with_reducible apply kept_drainOut
    | with_reducible apply kept_eraseCw
    | with_reducible apply kept_fecOcc
    | with_reducible apply kept_fill
    | with_reducible refine kept_flowOp _ ?_ (fun _ _ => ?_)
    | with_reducible apply kept_putBit
    | with_reducible apply kept_raiseCh
    | with_reducible apply kept_rebudget
    | with_reducible apply kept_unitChanged
    | with_reducible apply Flow.cwDropAll_conserved)

theorem kept_engineFault {A : Area → Prop} [Fact (A .flow)] [Fact (A .ch)] [Fact (A .votes)] [Fact (A .sets)] [Fact (A
    .applied)] [Fact (A .calWait)] {a : State} {n : Nat} {e : Nat} {cause : Nat} {s : State} (h : Kept A a s) : Kept A
    a (@State.engineFault n e cause s) := by
  unfold State.engineFault
  repeat' (first
    | with_reducible assumption
    | with_reducible apply kept_ite
    | with_reducible refine kept_when ?_ (fun _ _ => ?_)
    | with_reducible apply kept_engineFence)

theorem kept_injected {A : Area → Prop} [Fact (A .free)] {a : State} {k : Nat} {s : State} (h : Kept A a s) : Kept A a
    (@State.injected k s).2 := by
  unfold State.injected
  repeat' (first
    | with_reducible assumption
    | with_reducible apply kept_ite
    | with_reducible apply kept_ite_snd
    | with_reducible apply kept_draw)

theorem passOver_length {l : List Codeword} {x : LineRx} {w : Codeword} : (passOver l x w).length = l.length :=
  List.length_map _

/-- A change of resident codewords that keeps their number keeps the laws. -/
theorem cwsKept_conserved {f : Flow} {l : List Codeword} (hl : l.length = f.cws.length) (h : f.conserved) :
    ({ f with cws := l } : Flow).conserved := by
  intro hw
  have := h hw
  simpa only [Flow.balanced, Flow.txRes, Flow.rxRes, Flow.cwRes, Flow.crdRes, hl] using this

theorem kept_passDone {A : Area → Prop} [Fact (A .flow)] {a : State} {n e : Nat} {w : Codeword} {s : State} (h : Kept
    A a s) : Kept A a (s.passDone n e w) := by
  unfold State.passDone
  refine kept_count (kept_onFlow _ h fun f k => cwsKept_conserved ?_ k)
  rw [List.length_map]
  split
  · rfl
  · exact passOver_length

theorem kept_takeLlrs {A : Area → Prop} [Fact (A .ch)] {a : State} {n : Nat} {k : Nat} {s : State} (h : Kept A a s) :
    Kept A a (@State.takeLlrs n k s).2 := by
  unfold State.takeLlrs
  repeat' (first
    | with_reducible assumption
    | with_reducible apply kept_ite
    | with_reducible apply kept_ite_snd
    | with_reducible apply kept_onDsp)

theorem kept_engineForceHook {A : Area → Prop} [Fact (A .flow)] [Fact (A .ch)] [Fact (A .votes)] [Fact (A .sets)]
    [Fact (A .applied)] [Fact (A .calWait)] {n : Nat} : (@engineForceHook n).kept A := by
  unfold engineForceHook
  repeat' (first
    | with_reducible exact kept_hook_plain
    | with_reducible apply kept_hook_ite
    | with_reducible apply kept_hookAt
    | with_reducible apply hooks_cons
    | with_reducible exact hooks_nil
    | (refine fun _ _ _ h => ?_; dsimp only)
    | with_reducible assumption
    | with_reducible apply kept_hook_ite
    | with_reducible exact kept_hook_plain
    | with_reducible apply kept_ite
    | with_reducible refine kept_when ?_ (fun _ _ => ?_)
    | with_reducible apply kept_engineFault)

theorem kept_execCodewordAlignment {A : Area → Prop} [Fact (A .ch)] {a : State} {n : Fin 4} {offset : Fin 3500} {s :
    State} (h : Kept A a s) : Answer.kept A a (@execCodewordAlignment n offset s) := by
  unfold execCodewordAlignment
  repeat' (first
    | with_reducible assumption
    | with_reducible apply kept_next
    | with_reducible apply kept_answer_ite
    | with_reducible apply kept_put
    | with_reducible apply kept_ite
    | with_reducible refine kept_when ?_ (fun _ _ => ?_)
    | with_reducible apply kept_aligned
    | with_reducible refine kept_foldl ?_ (fun _ _ _ => ?_)
    | split)

theorem kept_execCodewordAssembled {A : Area → Prop} [Fact (A .free)] [Fact (A .flow)] [Fact (A .ch)] {a : State} {n :
    Fin 4} {overrun : Bool} {adc : List (List Int)} {s : State} (h : Kept A a s) : Answer.kept A a
    (@execCodewordAssembled n overrun adc s) := by
  unfold execCodewordAssembled
  repeat' (first
    | with_reducible assumption
    | with_reducible apply kept_next
    | with_reducible apply kept_answer_ite
    | with_reducible apply kept_ite
    | with_reducible refine kept_when ?_ (fun _ _ => ?_)
    | with_reducible apply kept_countOcc
    | with_reducible apply kept_decoderTurn
    | with_reducible apply kept_dispatchCw
    | with_reducible apply kept_dropCw
    | with_reducible apply kept_injected
    | with_reducible apply kept_receiveSpan
    | with_reducible apply kept_takeLlrs
    | with_reducible refine kept_foldl ?_ (fun _ _ _ => ?_)
    | split)

theorem kept_execEncoderParityMismatch {A : Area → Prop} [Fact (A .flow)] [Fact (A .ch)] [Fact (A .votes)] [Fact (A
    .sets)] [Fact (A .applied)] [Fact (A .calWait)] {a : State} {n : Fin 4} {second : Bool} {s : State} (h : Kept A a
    s) : Answer.kept A a (@execEncoderParityMismatch n second s) := by
  unfold execEncoderParityMismatch
  repeat' (first
    | with_reducible assumption
    | with_reducible apply kept_next
    | with_reducible apply kept_answer_ite
    | with_reducible apply kept_put
    | with_reducible apply kept_ite
    | with_reducible refine kept_when ?_ (fun _ _ => ?_)
    | with_reducible apply kept_count
    | with_reducible apply kept_fenceChannel)

theorem kept_execEngineForce {A : Area → Prop} [Fact (A .flow)] [Fact (A .ch)] [Fact (A .votes)] [Fact (A .sets)]
    [Fact (A .applied)] [Fact (A .calWait)] {a : State} {win : Fin 7} {n : Fin 4} {value : Word} {be : Fin 16} {s :
    State} (h : Kept A a s) : Answer.kept A a (@execEngineForce win n value be s) := by
  unfold execEngineForce
  repeat' (first
    | with_reducible assumption
    | with_reducible apply kept_next
    | with_reducible apply kept_answer_ite
    | with_reducible apply kept_ite
    | with_reducible apply kept_hostWrite
    | with_reducible apply kept_engineForceHook)

theorem kept_execEngineHandshakeFault {A : Area → Prop} [Fact (A .flow)] [Fact (A .ch)] [Fact (A .votes)] [Fact (A
    .sets)] [Fact (A .applied)] [Fact (A .calWait)] {a : State} {n : Fin 4} {e : Fin 24} {s : State} (h : Kept A a s)
    : Answer.kept A a (@execEngineHandshakeFault n e s) := by
  unfold execEngineHandshakeFault
  repeat' (first
    | with_reducible assumption
    | with_reducible apply kept_next
    | with_reducible apply kept_answer_ite
    | with_reducible apply kept_ite
    | with_reducible apply kept_engineFault)

theorem kept_execEnginePassComplete {A : Area → Prop} [Fact (A .flow)] [Fact (A .ch)] {a : State} {n : Fin 4} {e : Fin
    24} {s : State} (h : Kept A a s) : Answer.kept A a (@execEnginePassComplete n e s) := by
  unfold execEnginePassComplete
  repeat' (first
    | with_reducible assumption
    | with_reducible apply kept_next
    | with_reducible apply kept_answer_ite
    | with_reducible apply kept_ite
    | with_reducible apply kept_decoderTurn
    | with_reducible apply kept_passDone
    | with_reducible refine kept_foldl ?_ (fun _ _ _ => ?_)
    | split)

theorem kept_execEngineResidueFault {A : Area → Prop} [Fact (A .flow)] [Fact (A .ch)] [Fact (A .votes)] [Fact (A
    .sets)] [Fact (A .applied)] [Fact (A .calWait)] {a : State} {n : Fin 4} {e : Fin 24} {s : State} (h : Kept A a s)
    : Answer.kept A a (@execEngineResidueFault n e s) := by
  unfold execEngineResidueFault
  repeat' (first
    | with_reducible assumption
    | with_reducible apply kept_next
    | with_reducible apply kept_answer_ite
    | with_reducible apply kept_ite
    | with_reducible apply kept_engineFault)

theorem kept_execEngineResidueMismatch {A : Area → Prop} {a : State} {n : Fin 4} {e : Fin 24} {s : State} (h : Kept A
    a s) : Answer.kept A a (@execEngineResidueMismatch n e s) := by
  unfold execEngineResidueMismatch
  repeat' (first
    | with_reducible assumption
    | with_reducible apply kept_next
    | with_reducible apply kept_answer_ite
    | with_reducible apply kept_ite
    | with_reducible refine kept_when ?_ (fun _ _ => ?_)
    | with_reducible apply kept_bump)

theorem kept_execFecDegradeWindowEnd {A : Area → Prop} {a : State} {n : Fin 4} {s : State} (h : Kept A a s) :
    Answer.kept A a (@execFecDegradeWindowEnd n s) := by
  unfold execFecDegradeWindowEnd
  repeat' (first
    | with_reducible assumption
    | with_reducible apply kept_next
    | with_reducible apply kept_answer_ite
    | with_reducible apply kept_put
    | with_reducible apply kept_ite
    | with_reducible refine kept_when ?_ (fun _ _ => ?_)
    | with_reducible apply kept_raiseCh)

theorem kept_iterHook {A : Area → Prop} {n : Nat} {value : Nat} : (@iterHook n value).kept A := by
  unfold iterHook
  repeat' (first
    | with_reducible exact kept_hook_plain
    | with_reducible apply kept_hook_ite
    | with_reducible apply kept_hookAt
    | with_reducible apply hooks_cons
    | with_reducible exact hooks_nil
    | (refine fun _ _ _ h => ?_; dsimp only)
    | with_reducible assumption)

theorem kept_execIterationControlWrite {A : Area → Prop} [Fact (A .ch)] {a : State} {win : Fin 7} {n : Fin 4} {value :
    Word} {be : Fin 16} {s : State} (h : Kept A a s) : Answer.kept A a (@execIterationControlWrite win n value be s)
    := by
  unfold execIterationControlWrite
  repeat' (first
    | with_reducible assumption
    | with_reducible apply kept_next
    | with_reducible apply kept_answer_ite
    | with_reducible apply kept_ite
    | with_reducible apply kept_hostWrite
    | with_reducible apply kept_iterHook)

theorem kept_smpHook {A : Area → Prop} {n : Nat} {s0 : State} : (@smpHook n s0).kept A := by
  unfold smpHook
  repeat' (first
    | with_reducible exact kept_hook_plain
    | with_reducible apply kept_hook_ite
    | with_reducible apply kept_hookAt
    | with_reducible apply hooks_cons
    | with_reducible exact hooks_nil
    | (refine fun _ _ _ h => ?_; dsimp only)
    | with_reducible assumption
    | with_reducible apply kept_hook_ite
    | with_reducible exact kept_hook_plain
    | with_reducible apply kept_put
    | with_reducible apply kept_ite
    | with_reducible refine kept_when ?_ (fun _ _ => ?_)
    | with_reducible refine kept_foldl ?_ (fun _ _ _ => ?_)
    | split)

end Sys2Proof.Machine
end

