-- ==== Sys2Proof/Laws/KeptIsc.lean ====
section
/-! SUPPORT. What the operations of Machine/Isc.lean keep. -/

namespace Sys2Proof.Machine

theorem kept_agreeCheck {A : Area → Prop} [Fact (A .ch)] {a : State} {n : Nat} {s : State} (h : Kept A a s) : Kept A a
    (@State.agreeCheck n s) := by
  unfold State.agreeCheck
  repeat' (first
    | with_reducible assumption
    | with_reducible apply kept_put
    | with_reducible apply kept_ite
    | with_reducible refine kept_when ?_ (fun _ _ => ?_)
    | with_reducible apply kept_acqBegin)

theorem kept_byFirmware {A : Area → Prop} {a : State} {f : State → State} {s : State} (h : Kept A a s) (hf : ∀ t, Kept
    A a t → Kept A a (f t)) : Kept A a (@State.byFirmware f s) := by
  unfold State.byFirmware
  repeat' (first
    | with_reducible assumption
    | with_reducible refine hf _ ?_
    | with_reducible apply kept_ite
    | with_reducible refine kept_when ?_ (fun _ _ => ?_))

theorem kept_msgSent {A : Area → Prop} [Fact (A .ch)] [Fact (A .out)] {a : State} {n : Nat} {m : Msg} {s : State} (h :
    Kept A a s) : Kept A a (@State.msgSent n m s) := by
  unfold State.msgSent
  repeat' (first
    | with_reducible assumption
    | with_reducible apply kept_put
    | with_reducible apply kept_ite
    | with_reducible apply kept_emit
    | with_reducible apply kept_addWrap
    | with_reducible apply kept_agreeCheck
    | with_reducible apply kept_bump
    | with_reducible apply kept_count
    | with_reducible apply kept_onChan
    | with_reducible refine kept_foldl ?_ (fun _ _ _ => ?_)
    | split)

theorem kept_startMsg {A : Area → Prop} [Fact (A .ch)] {a : State} {n : Nat} {m : Msg} {s : State} (h : Kept A a s) :
    Kept A a (@State.startMsg n m s) := by
  unfold State.startMsg
  repeat' (first
    | with_reducible assumption
    | with_reducible apply kept_ite
    | with_reducible apply kept_onChan
    | with_reducible apply kept_onTx)

theorem kept_startIdle {A : Area → Prop} [Fact (A .ch)] {a : State} {n : Nat} {s : State} (h : Kept A a s) : Kept A a
    (@State.startIdle n s) := by
  unfold State.startIdle
  repeat' (first
    | with_reducible assumption
    | with_reducible apply kept_put
    | with_reducible apply kept_ite
    | with_reducible apply kept_startMsg)

theorem kept_nextMsg {A : Area → Prop} [Fact (A .ch)] {a : State} {n : Nat} {s : State} (h : Kept A a s) : Kept A a
    (@State.nextMsg n s) := by
  unfold State.nextMsg
  repeat' (first
    | with_reducible assumption
    | with_reducible apply kept_put
    | with_reducible apply kept_ite
    | with_reducible apply kept_onChan
    | with_reducible apply kept_startIdle
    | with_reducible apply kept_startMsg
    | with_reducible refine kept_foldl ?_ (fun _ _ _ => ?_)
    | split)

theorem kept_peerAbsent {A : Area → Prop} [Fact (A .ch)] [Fact (A .votes)] {a : State} {n : Nat} {s : State} (h : Kept
    A a s) : Kept A a (@State.peerAbsent n s) := by
  unfold State.peerAbsent
  repeat' (first
    | with_reducible assumption
    | with_reducible apply kept_put
    | with_reducible apply kept_ite
    | with_reducible refine kept_when ?_ (fun _ _ => ?_)
    | with_reducible apply kept_bump
    | with_reducible apply kept_raiseCh
    | with_reducible apply kept_rollFail
    | with_reducible apply kept_rszFail)

theorem kept_validMsg {A : Area → Prop} {a : State} {n : Nat} {seq : Nat} {rep : Nat} {s : State} (h : Kept A a s) :
    Kept A a (@State.validMsg n seq rep s) := by
  unfold State.validMsg
  repeat' (first
    | with_reducible assumption
    | with_reducible apply kept_put
    | with_reducible apply kept_ite
    | with_reducible refine kept_when ?_ (fun _ _ => ?_)
    | with_reducible apply kept_addSat
    | with_reducible apply kept_bump
    | with_reducible apply kept_count)

theorem kept_receive {A : Area → Prop} {a : State} {n : Fin 4} {seq : Fin 256} {rep : Fin 4} {f : State → State} {s :
    State} (h : Kept A a s) (hf : ∀ t, Kept A a t → Kept A a (f t)) : Answer.kept A a (@State.receive n seq rep f s)
    := by
  unfold State.receive
  repeat' (first
    | with_reducible assumption
    | with_reducible refine hf _ ?_
    | with_reducible apply kept_next
    | with_reducible apply kept_answer_ite
    | with_reducible apply kept_ite
    | with_reducible refine kept_when ?_ (fun _ _ => ?_)
    | with_reducible apply kept_validMsg)

theorem kept_execHeartbeatReceived {A : Area → Prop} {a : State} {n : Fin 4} {seq : Fin 256} {rep : Fin 4} {ident :
    Nat} {nonce : Nat} {s : State} (h : Kept A a s) : Answer.kept A a (@execHeartbeatReceived n seq rep ident nonce s)
    := by
  unfold execHeartbeatReceived
  repeat' (first
    | with_reducible assumption
    | with_reducible apply kept_next
    | with_reducible apply kept_answer_ite
    | with_reducible apply kept_put
    | with_reducible apply kept_ite
    | with_reducible refine kept_when ?_ (fun _ _ => ?_)
    | with_reducible apply kept_flag
    | with_reducible apply kept_raiseCh
    | with_reducible refine kept_receive ?_ (fun _ _ => ?_))

theorem kept_execHostMessageRead {A : Area → Prop} [Fact (A .out)] {a : State} {win : Fin 7} {n : Fin 4} {s : State}
    (h : Kept A a s) : Answer.kept A a (@execHostMessageRead win n s) := by
  unfold execHostMessageRead
  repeat' (first
    | with_reducible assumption
    | with_reducible apply kept_next
    | with_reducible apply kept_answer_ite
    | with_reducible apply kept_put
    | with_reducible apply kept_ite
    | with_reducible refine kept_hostRead ?_ (fun _ _ => ?_))

theorem kept_execHostMessageReceived {A : Area → Prop} {a : State} {n : Fin 4} {seq : Fin 256} {rep : Fin 4} {w0 :
    Nat} {w1 : Nat} {w2 : Nat} {w3 : Nat} {s : State} (h : Kept A a s) : Answer.kept A a (@execHostMessageReceived n
    seq rep w0 w1 w2 w3 s) := by
  unfold execHostMessageReceived
  repeat' (first
    | with_reducible assumption
    | with_reducible apply kept_next
    | with_reducible apply kept_answer_ite
    | with_reducible apply kept_put
    | with_reducible apply kept_ite
    | with_reducible apply kept_raiseCh
    | with_reducible refine kept_receive ?_ (fun _ _ => ?_))

theorem kept_execIscChipLock {A : Area → Prop} {a : State} {n : Fin 4} {code : Fin 32} {fofs : Int} {qual : Nat} {s :
    State} (h : Kept A a s) : Answer.kept A a (@execIscChipLock n code fofs qual s) := by
  unfold execIscChipLock
  repeat' (first
    | with_reducible assumption
    | with_reducible apply kept_next
    | with_reducible apply kept_answer_ite
    | with_reducible apply kept_put
    | with_reducible apply kept_ite
    | with_reducible refine kept_when ?_ (fun _ _ => ?_)
    | with_reducible apply kept_putS)

theorem kept_execIscChipLockLoss {A : Area → Prop} {a : State} {n : Fin 4} {s : State} (h : Kept A a s) : Answer.kept
    A a (@execIscChipLockLoss n s) := by
  unfold execIscChipLockLoss
  repeat' (first
    | with_reducible assumption
    | with_reducible apply kept_next
    | with_reducible apply kept_answer_ite
    | with_reducible apply kept_put
    | with_reducible apply kept_ite
    | with_reducible refine kept_when ?_ (fun _ _ => ?_)
    | with_reducible apply kept_bump
    | with_reducible apply kept_clear
    | with_reducible apply kept_count)

theorem kept_execIscHeartbeatMissed {A : Area → Prop} [Fact (A .ch)] [Fact (A .votes)] {a : State} {n : Fin 4} {s :
    State} (h : Kept A a s) : Answer.kept A a (@execIscHeartbeatMissed n s) := by
  unfold execIscHeartbeatMissed
  repeat' (first
    | with_reducible assumption
    | with_reducible apply kept_next
    | with_reducible apply kept_answer_ite
    | with_reducible apply kept_put
    | with_reducible apply kept_ite
    | with_reducible refine kept_when ?_ (fun _ _ => ?_)
    | with_reducible apply kept_peerAbsent)

theorem kept_hostSendHook {A : Area → Prop} [Fact (A .ch)] {n : Nat} : (@hostSendHook n).kept A := by
  unfold hostSendHook
  repeat' (first
    | with_reducible exact kept_hook_plain
    | with_reducible apply kept_hook_ite
    | with_reducible apply kept_hookAt
    | with_reducible apply hooks_cons
    | with_reducible exact hooks_nil
    | (refine fun _ _ _ h => ?_; dsimp only)
    | with_reducible assumption
    | with_reducible apply kept_hook_ite
    | with_reducible exact kept_hook_plain
    | with_reducible apply kept_put
    | with_reducible apply kept_ite
    | with_reducible refine kept_when ?_ (fun _ _ => ?_)
    | with_reducible apply kept_queue)

theorem kept_execIscHostSend {A : Area → Prop} [Fact (A .ch)] {a : State} {win : Fin 7} {n : Fin 4} {value : Word} {be
    : Fin 16} {s : State} (h : Kept A a s) : Answer.kept A a (@execIscHostSend win n value be s) := by
  unfold execIscHostSend
  repeat' (first
    | with_reducible assumption
    | with_reducible apply kept_next
    | with_reducible apply kept_answer_ite
    | with_reducible apply kept_ite
    | with_reducible apply kept_hostWrite
    | with_reducible apply kept_hostSendHook)

theorem kept_execIscMessageBoundary {A : Area → Prop} [Fact (A .ch)] [Fact (A .out)] {a : State} {n : Fin 4} {s :
    State} (h : Kept A a s) : Answer.kept A a (@execIscMessageBoundary n s) := by
  unfold execIscMessageBoundary
  repeat' (first
    | with_reducible assumption
    | with_reducible apply kept_next
    | with_reducible apply kept_answer_ite
    | with_reducible apply kept_put
    | with_reducible apply kept_ite
    | with_reducible refine kept_when ?_ (fun _ _ => ?_)
    | with_reducible apply kept_flag
    | with_reducible apply kept_msgSent
    | with_reducible apply kept_nextMsg
    | with_reducible refine kept_foldl ?_ (fun _ _ _ => ?_)
    | split)

theorem kept_execIscMessageCrcError {A : Area → Prop} {a : State} {n : Fin 4} {s : State} (h : Kept A a s) :
    Answer.kept A a (@execIscMessageCrcError n s) := by
  unfold execIscMessageCrcError
  repeat' (first
    | with_reducible assumption
    | with_reducible apply kept_next
    | with_reducible apply kept_answer_ite
    | with_reducible apply kept_ite
    | with_reducible refine kept_when ?_ (fun _ _ => ?_)
    | with_reducible apply kept_bump
    | with_reducible apply kept_count)

theorem kept_execIscUnknownMessage {A : Area → Prop} {a : State} {n : Fin 4} {seq : Fin 256} {rep : Fin 4} {s : State}
    (h : Kept A a s) : Answer.kept A a (@execIscUnknownMessage n seq rep s) := by
  unfold execIscUnknownMessage
  repeat' (first
    | with_reducible assumption
    | with_reducible apply kept_next
    | with_reducible apply kept_answer_ite
    | with_reducible apply kept_ite
    | with_reducible refine kept_receive ?_ (fun _ _ => ?_)
    | simp only [id_eq])

theorem kept_execTelemetryReceived {A : Area → Prop} {a : State} {n : Fin 4} {seq : Fin 256} {rep : Fin 4} {snr : Nat}
    {ber : Nat} {margin : Nat} {rxpwr : Nat} {unc : Nat} {lqseq : Nat} {s : State} (h : Kept A a s) : Answer.kept A a
    (@execTelemetryReceived n seq rep snr ber margin rxpwr unc lqseq s) := by
  unfold execTelemetryReceived
  repeat' (first
    | with_reducible assumption
    | with_reducible apply kept_next
    | with_reducible apply kept_answer_ite
    | with_reducible apply kept_put
    | with_reducible apply kept_ite
    | with_reducible refine kept_receive ?_ (fun _ _ => ?_))

end Sys2Proof.Machine
end

