-- ==== Sys2Proof/Laws/KeptFramer.lean ====
section
/-! SUPPORT. What the operations of Machine/Framer.lean keep. -/

namespace Sys2Proof.Machine

theorem kept_bdiTrack {A : Area → Prop} {a : State} {n : Nat} {b : Bool} {s : State} (h : Kept A a s) : Kept A a
    (@State.bdiTrack n b s) := by
  unfold State.bdiTrack
  repeat' (first
    | with_reducible assumption
    | with_reducible apply kept_put
    | with_reducible apply kept_ite
    | with_reducible refine kept_when ?_ (fun _ _ => ?_)
    | with_reducible apply kept_flag)

theorem kept_takeFrame {A : Area → Prop} [Fact (A .ch)] {a : State} {n : Nat} {p : Profile} {s : State} (h : Kept A a
    s) : Kept A a (@State.takeFrame n p s) := by
  unfold State.takeFrame
  repeat' (first
    | with_reducible assumption
    | with_reducible apply kept_ite
    | with_reducible apply kept_onRx)

theorem kept_endMultiframe {A : Area → Prop} [Fact (A .ch)] {a : State} {n : Nat} {s : State} (h : Kept A a s) : Kept
    A a (@State.endMultiframe n s) := by
  unfold State.endMultiframe
  repeat' (first
    | with_reducible assumption
    | with_reducible apply kept_ite
    | with_reducible apply kept_onRx
    | with_reducible apply kept_takeFrame
    | with_reducible refine kept_foldl ?_ (fun _ _ _ => ?_)
    | split)

theorem kept_frameDetect {A : Area → Prop} [Fact (A .flow)] [Fact (A .ch)] [Fact (A .votes)] [Fact (A .sets)] [Fact (A
    .applied)] [Fact (A .calWait)] {a : State} {n : Nat} {s : State} (h : Kept A a s) : Kept A a (@State.frameDetect n
    s) := by
  unfold State.frameDetect
  repeat' (first
    | with_reducible assumption
    | with_reducible apply kept_put
    | with_reducible apply kept_ite
    | with_reducible apply kept_agcFreeze
    | with_reducible apply kept_raiseCh
    | with_reducible apply kept_reachLocked)

theorem kept_mfTrack {A : Area → Prop} {a : State} {n : Nat} {k : Header} {s : State} (h : Kept A a s) : Kept A a
    (@State.mfTrack n k s) := by
  unfold State.mfTrack
  repeat' (first
    | with_reducible assumption
    | with_reducible apply kept_put
    | with_reducible apply kept_ite
    | with_reducible refine kept_when ?_ (fun _ _ => ?_))

theorem kept_srTrack {A : Area → Prop} {a : State} {n : Nat} {sr : Nat} {s : State} (h : Kept A a s) : Kept A a
    (@State.srTrack n sr s) := by
  unfold State.srTrack
  repeat' (first
    | with_reducible assumption
    | with_reducible apply kept_put
    | with_reducible apply kept_ite
    | with_reducible refine kept_when ?_ (fun _ _ => ?_)
    | with_reducible apply kept_count
    | with_reducible apply kept_raiseCh)

theorem kept_goodHeader {A : Area → Prop} {a : State} {n : Nat} {k : Header} {s : State} (h : Kept A a s) : Kept A a
    (@State.goodHeader n k s) := by
  unfold State.goodHeader
  repeat' (first
    | with_reducible assumption
    | with_reducible apply kept_put
    | with_reducible apply kept_ite
    | with_reducible apply kept_bdiTrack
    | with_reducible apply kept_mfTrack
    | with_reducible apply kept_srTrack)

theorem kept_lastHeader {A : Area → Prop} {a : State} {n : Nat} {k : Header} {s : State} (h : Kept A a s) : Kept A a
    (@State.lastHeader n k s) := by
  unfold State.lastHeader
  repeat' (first
    | with_reducible assumption
    | with_reducible apply kept_put
    | with_reducible apply kept_ite
    | with_reducible apply kept_count
    | with_reducible apply kept_flag)

theorem kept_leaveSync {A : Area → Prop} [Fact (A .flow)] [Fact (A .ch)] [Fact (A .votes)] [Fact (A .sets)] [Fact (A
    .applied)] [Fact (A .calWait)] {a : State} {n : Nat} {s : State} (h : Kept A a s) : Kept A a (@State.leaveSync n
    s) := by
  unfold State.leaveSync
  repeat' (first
    | with_reducible assumption
    | with_reducible apply kept_ite
    | with_reducible apply kept_hunt
    | with_reducible apply kept_setCh)

theorem kept_header {A : Area → Prop} [Fact (A .flow)] [Fact (A .ch)] [Fact (A .votes)] [Fact (A .sets)] [Fact (A
    .applied)] [Fact (A .calWait)] {a : State} {n : Nat} {k : Header} {viol : Nat} {s : State} (h : Kept A a s) : Kept
    A a (@State.header n k viol s) := by
  unfold State.header
  repeat' (first
    | with_reducible assumption
    | with_reducible apply kept_put
    | with_reducible apply kept_ite
    | with_reducible refine kept_when ?_ (fun _ _ => ?_)
    | with_reducible apply kept_addSat
    | with_reducible apply kept_bump
    | with_reducible apply kept_count
    | with_reducible apply kept_countFor
    | with_reducible apply kept_frameDetect
    | with_reducible apply kept_goodHeader
    | with_reducible apply kept_hunt
    | with_reducible apply kept_lastHeader
    | with_reducible apply kept_leaveSync)

theorem kept_readHeader {A : Area → Prop} [Fact (A .flow)] [Fact (A .ch)] [Fact (A .votes)] [Fact (A .sets)] [Fact (A
    .applied)] [Fact (A .calWait)] {a : State} {n : Nat} {p : Profile} {s : State} (h : Kept A a s) : Kept A a
    (@State.readHeader n p s) := by
  unfold State.readHeader
  repeat' (first
    | with_reducible assumption
    | with_reducible apply kept_ite
    | with_reducible apply kept_header
    | with_reducible apply kept_onRx)

theorem kept_rxFate {A : Area → Prop} {a : State} {n : Nat} {t : Nat} {r : TorRec} {s : State} (h : Kept A a s) : Kept
    A a (@State.rxFate n t r s).2 := by
  unfold State.rxFate
  repeat' (first
    | with_reducible assumption
    | with_reducible apply kept_put
    | with_reducible apply kept_ite
    | with_reducible apply kept_ite_snd)

theorem kept_unlearn {A : Area → Prop} {a : State} {n : Nat} {t : Nat} {s : State} (h : Kept A a s) : Kept A a
    (@State.unlearn n t s) := by
  unfold State.unlearn
  repeat' (first
    | with_reducible assumption
    | with_reducible apply kept_put
    | with_reducible apply kept_ite
    | with_reducible refine kept_when ?_ (fun _ _ => ?_))

theorem kept_takeRecord {A : Area → Prop} [Fact (A .ch)] {a : State} {n : Nat} {t : Nat} {r : TorRec} {s : State} (h :
    Kept A a s) : Kept A a (@State.takeRecord n t r s) := by
  unfold State.takeRecord
  repeat' (first
    | with_reducible assumption
    | with_reducible apply kept_put
    | with_reducible apply kept_ite
    | with_reducible apply kept_flag
    | with_reducible apply kept_onChan
    | with_reducible apply kept_rxFate
    | with_reducible apply kept_unlearn)

theorem kept_rxBoundary {A : Area → Prop} [Fact (A .flow)] [Fact (A .ch)] {a : State} {n : Nat} {s : State} (h : Kept
    A a s) : Kept A a (@State.rxBoundary n s) := by
  unfold State.rxBoundary
  repeat' (first
    | with_reducible assumption
    | with_reducible apply kept_put
    | with_reducible apply kept_ite
    | with_reducible refine kept_when ?_ (fun _ _ => ?_)
    | with_reducible refine kept_each ?_ (fun _ _ _ => ?_)
    | with_reducible apply kept_addSat
    | with_reducible apply kept_addWrap
    | with_reducible apply kept_countFor
    | with_reducible apply kept_endMultiframe
    | with_reducible apply kept_hstRefresh
    | with_reducible apply kept_onChan
    | with_reducible apply kept_takeRecord)

theorem kept_standardFraming {A : Area → Prop} [Fact (A .flow)] [Fact (A .ch)] [Fact (A .votes)] [Fact (A .sets)]
    [Fact (A .applied)] [Fact (A .calWait)] {a : State} {n : Nat} {p : Profile} {locked : Bool} {s : State} (h : Kept
    A a s) : Kept A a (@State.standardFraming n p locked s) := by
  unfold State.standardFraming
  repeat' (first
    | with_reducible assumption
    | with_reducible apply kept_ite
    | with_reducible refine kept_when ?_ (fun _ _ => ?_)
    | with_reducible apply kept_frameDetect
    | with_reducible apply kept_leaveSync
    | with_reducible apply kept_onRx)

theorem kept_takeCopy {A : Area → Prop} [Fact (A .ch)] {a : State} {n : Nat} {s : State} (h : Kept A a s) : Kept A a
    (@State.takeCopy n s) := by
  unfold State.takeCopy
  repeat' (first
    | with_reducible assumption
    | with_reducible apply kept_ite
    | with_reducible refine kept_when ?_ (fun _ _ => ?_)
    | with_reducible apply kept_bump
    | with_reducible apply kept_count
    | with_reducible apply kept_onChan
    | with_reducible apply kept_onRx)

theorem kept_execFrameHeaderReceived {A : Area → Prop} [Fact (A .flow)] [Fact (A .ch)] [Fact (A .votes)] [Fact (A
    .sets)] [Fact (A .applied)] [Fact (A .calWait)] {a : State} {n : Fin 4} {locked : Bool} {s : State} (h : Kept A a
    s) : Answer.kept A a (@execFrameHeaderReceived n locked s) := by
  unfold execFrameHeaderReceived
  repeat' (first
    | with_reducible assumption
    | with_reducible apply kept_next
    | with_reducible apply kept_answer_ite
    | with_reducible apply kept_ite
    | with_reducible refine kept_when ?_ (fun _ _ => ?_)
    | with_reducible apply kept_readHeader
    | with_reducible apply kept_standardFraming
    | with_reducible apply kept_takeFrame
    | with_reducible refine kept_foldl ?_ (fun _ _ _ => ?_)
    | split)

theorem kept_execTorCopyReceived {A : Area → Prop} [Fact (A .ch)] {a : State} {n : Fin 4} {s : State} (h : Kept A a s)
    : Answer.kept A a (@execTorCopyReceived n s) := by
  unfold execTorCopyReceived
  repeat' (first
    | with_reducible assumption
    | with_reducible apply kept_next
    | with_reducible apply kept_answer_ite
    | with_reducible apply kept_ite
    | with_reducible refine kept_when ?_ (fun _ _ => ?_)
    | with_reducible apply kept_takeCopy)

end Sys2Proof.Machine
end

