-- ==== Sys2Proof/Laws/KeptLineModes.lean ====
section
/-! SUPPORT. What the operations of Machine/LineModes.lean keep. -/

namespace Sys2Proof.Machine

theorem kept_rszArmRequest {A : Area → Prop} [Fact (A .ch)] [Fact (A .votes)] {a : State} {n : Nat} {s : State} (h :
    Kept A a s) : Kept A a (@State.rszArmRequest n s) := by
  unfold State.rszArmRequest
  repeat' (first
    | with_reducible assumption
    | with_reducible apply kept_ite
    | with_reducible refine kept_when ?_ (fun _ _ => ?_)
    | with_reducible apply kept_onChan
    | with_reducible apply kept_request
    | with_reducible apply kept_rszCancel
    | with_reducible apply kept_rszFail)

theorem kept_acceptReceived {A : Area → Prop} [Fact (A .ch)] [Fact (A .votes)] {a : State} {n : Nat} {tA : Nat} {tB :
    Nat} {s : State} (h : Kept A a s) : Kept A a (@State.acceptReceived n tA tB s) := by
  unfold State.acceptReceived
  repeat' (first
    | with_reducible assumption
    | with_reducible apply kept_ite
    | with_reducible refine kept_when ?_ (fun _ _ => ?_)
    | with_reducible apply kept_onChan
    | with_reducible apply kept_rszArmRequest)

theorem kept_offer {A : Area → Prop} [Fact (A .ch)] {a : State} {n : Nat} {agreed : Bool} {s : State} (h : Kept A a s)
    : Kept A a (@State.offer n agreed s) := by
  unfold State.offer
  repeat' (first
    | with_reducible assumption
    | with_reducible apply kept_ite
    | with_reducible apply kept_queue
    | with_reducible refine kept_foldl ?_ (fun _ _ _ => ?_)
    | split)

theorem kept_adopt {A : Area → Prop} [Fact (A .ch)] {a : State} {n : Nat} {p : Nat} {s : State} (h : Kept A a s) :
    Kept A a (@State.adopt n p s) := by
  unfold State.adopt
  repeat' (first
    | with_reducible assumption
    | with_reducible apply kept_put
    | with_reducible apply kept_ite
    | with_reducible apply kept_clear
    | with_reducible apply kept_iscMode
    | with_reducible apply kept_loadRx
    | with_reducible apply kept_offer
    | with_reducible apply kept_onChan
    | with_reducible apply kept_oorRefresh
    | with_reducible apply kept_selectProfile)

theorem kept_rszBegin {A : Area → Prop} [Fact (A .ch)] {a : State} {n : Nat} {r : Rsz} {own : Nat} {st : Nat} {s :
    State} (h : Kept A a s) : Kept A a (@State.rszBegin n r own st s) := by
  unfold State.rszBegin
  repeat' (first
    | with_reducible assumption
    | with_reducible apply kept_put
    | with_reducible apply kept_ite
    | with_reducible apply kept_onChan)

theorem kept_answerProposal {A : Area → Prop} [Fact (A .ch)] {a : State} {n : Nat} {b : Block} {trib : Bool} {tA :
    Nat} {fresh : Bool} {s : State} (h : Kept A a s) : Kept A a (@State.answerProposal n b trib tA fresh s) := by
  unfold State.answerProposal
  repeat' (first
    | with_reducible assumption
    | with_reducible apply kept_ite
    | with_reducible apply kept_queue
    | with_reducible apply kept_rszBegin)

theorem kept_rszWithdraw {A : Area → Prop} [Fact (A .ch)] [Fact (A .votes)] {a : State} {n : Nat} {tA : Nat} {s :
    State} (h : Kept A a s) : Kept A a (@State.rszWithdraw n tA s) := by
  unfold State.rszWithdraw
  repeat' (first
    | with_reducible assumption
    | with_reducible apply kept_ite
    | with_reducible refine kept_when ?_ (fun _ _ => ?_)
    | with_reducible apply kept_rszCancel
    | with_reducible apply kept_rszFail)

theorem kept_confirmReceived {A : Area → Prop} [Fact (A .ch)] [Fact (A .votes)] {a : State} {n : Nat} {tA : Nat} {tB :
    Nat} {cancel : Bool} {s : State} (h : Kept A a s) : Kept A a (@State.confirmReceived n tA tB cancel s) := by
  unfold State.confirmReceived
  repeat' (first
    | with_reducible assumption
    | with_reducible apply kept_ite
    | with_reducible refine kept_when ?_ (fun _ _ => ?_)
    | with_reducible apply kept_rszArmRequest
    | with_reducible apply kept_rszWithdraw)

theorem kept_converge {A : Area → Prop} [Fact (A .flow)] [Fact (A .ch)] [Fact (A .votes)] [Fact (A .sets)] [Fact (A
    .applied)] [Fact (A .calWait)] {a : State} {n : Nat} {s : State} (h : Kept A a s) : Kept A a (@State.converge n s)
    := by
  unfold State.converge
  repeat' (first
    | with_reducible assumption
    | with_reducible apply kept_put
    | with_reducible apply kept_ite
    | with_reducible refine kept_when ?_ (fun _ _ => ?_)
    | with_reducible apply kept_endBoost
    | with_reducible apply kept_flag
    | with_reducible apply kept_rszDone
    | with_reducible apply kept_serviceEval
    | with_reducible apply kept_setCh
    | with_reducible refine kept_foldl ?_ (fun _ _ _ => ?_)
    | split)

theorem kept_offerDiffers {A : Area → Prop} [Fact (A .ch)] {a : State} {n : Nat} {b : Block} {agreed : Bool} {peer :
    Nat} {s : State} (h : Kept A a s) : Kept A a (@State.offerDiffers n b agreed peer s) := by
  unfold State.offerDiffers
  repeat' (first
    | with_reducible assumption
    | with_reducible apply kept_put
    | with_reducible apply kept_ite
    | with_reducible refine kept_when ?_ (fun _ _ => ?_)
    | with_reducible apply kept_adopt
    | with_reducible apply kept_clear
    | with_reducible apply kept_offer
    | with_reducible refine kept_foldl ?_ (fun _ _ _ => ?_)
    | split)

theorem kept_offerReceived {A : Area → Prop} [Fact (A .ch)] {a : State} {n : Nat} {b : Block} {agreed : Bool} {peer :
    Nat} {s : State} (h : Kept A a s) : Kept A a (@State.offerReceived n b agreed peer s) := by
  unfold State.offerReceived
  repeat' (first
    | with_reducible assumption
    | with_reducible apply kept_put
    | with_reducible apply kept_ite
    | with_reducible refine kept_when ?_ (fun _ _ => ?_)
    | with_reducible apply kept_agreeCheck
    | with_reducible apply kept_offer
    | with_reducible apply kept_offerDiffers
    | with_reducible refine kept_foldl ?_ (fun _ _ _ => ?_)
    | split)

theorem kept_rszLost {A : Area → Prop} [Fact (A .ch)] [Fact (A .votes)] {a : State} {n : Nat} {s : State} (h : Kept A
    a s) : Kept A a (@State.rszLost n s) := by
  unfold State.rszLost
  repeat' (first
    | with_reducible assumption
    | with_reducible apply kept_ite
    | with_reducible apply kept_onChan
    | with_reducible apply kept_rszFail)

theorem kept_proposeReceived {A : Area → Prop} [Fact (A .ch)] [Fact (A .votes)] {a : State} {n : Nat} {b : Block}
    {trib : Bool} {tA : Nat} {s : State} (h : Kept A a s) : Kept A a (@State.proposeReceived n b trib tA s) := by
  unfold State.proposeReceived
  repeat' (first
    | with_reducible assumption
    | with_reducible apply kept_ite
    | with_reducible apply kept_acceptReceived
    | with_reducible apply kept_answerProposal
    | with_reducible apply kept_rszLost)

theorem kept_resizeApproved {A : Area → Prop} [Fact (A .ch)] [Fact (A .votes)] {a : State} {n : Nat} {s : State} (h :
    Kept A a s) : Kept A a (@State.resizeApproved n s) := by
  unfold State.resizeApproved
  repeat' (first
    | with_reducible assumption
    | with_reducible apply kept_put
    | with_reducible apply kept_ite
    | with_reducible refine kept_when ?_ (fun _ _ => ?_)
    | with_reducible apply kept_boost
    | with_reducible apply kept_rszCancel
    | with_reducible apply kept_rszFail)

theorem kept_resizeGo {A : Area → Prop} [Fact (A .ch)] {a : State} {n : Nat} {s : State} (h : Kept A a s) : Kept A a
    (@State.resizeGo n s) := by
  unfold State.resizeGo
  repeat' (first
    | with_reducible assumption
    | with_reducible apply kept_put
    | with_reducible apply kept_ite
    | with_reducible refine kept_when ?_ (fun _ _ => ?_)
    | with_reducible apply kept_queue
    | with_reducible apply kept_raiseCh
    | with_reducible apply kept_rszBegin
    | with_reducible refine kept_foldl ?_ (fun _ _ _ => ?_)
    | split)

theorem kept_resizeRefused {A : Area → Prop} [Fact (A .ch)] [Fact (A .votes)] {a : State} {n : Nat} {s : State} (h :
    Kept A a s) : Kept A a (@State.resizeRefused n s) := by
  unfold State.resizeRefused
  repeat' (first
    | with_reducible assumption
    | with_reducible apply kept_put
    | with_reducible apply kept_ite
    | with_reducible apply kept_rszCancel
    | with_reducible apply kept_rszFail)

theorem kept_rszEntries {A : Area → Prop} [Fact (A .flow)] [Fact (A .ch)] {a : State} {n : Nat} {s : State} (h : Kept
    A a s) : Kept A a (@State.rszEntries n s) := by
  unfold State.rszEntries
  repeat' (first
    | with_reducible assumption
    | with_reducible apply kept_put
    | with_reducible apply kept_ite
    | with_reducible refine kept_each ?_ (fun _ _ _ => ?_)
    | with_reducible apply kept_hstRefresh
    | with_reducible apply kept_stepFive
    | with_reducible apply kept_trbStat)

theorem kept_switchReceiver {A : Area → Prop} [Fact (A .ch)] {a : State} {n : Nat} {p : Nat} {s : State} (h : Kept A a
    s) : Kept A a (@State.switchReceiver n p s) := by
  unfold State.switchReceiver
  repeat' (first
    | with_reducible assumption
    | with_reducible apply kept_ite
    | with_reducible apply kept_flag
    | with_reducible apply kept_loadRx
    | with_reducible apply kept_onDsp
    | with_reducible apply kept_onRx)

theorem kept_execIdClashNegotiationTimeout {A : Area → Prop} {a : State} {n : Fin 4} {s : State} (h : Kept A a s) :
    Answer.kept A a (@execIdClashNegotiationTimeout n s) := by
  unfold execIdClashNegotiationTimeout
  repeat' (first
    | with_reducible assumption
    | with_reducible apply kept_next
    | with_reducible apply kept_answer_ite
    | with_reducible apply kept_put
    | with_reducible apply kept_ite
    | with_reducible refine kept_when ?_ (fun _ _ => ?_))

theorem kept_execModeOfferReceived {A : Area → Prop} [Fact (A .ch)] {a : State} {n : Fin 4} {seq : Fin 256} {rep : Fin
    4} {block : Block} {agreed : Bool} {indoubt : Bool} {profile : Nat} {peer : Nat} {s : State} (h : Kept A a s) :
    Answer.kept A a (@execModeOfferReceived n seq rep block agreed indoubt profile peer s) := by
  unfold execModeOfferReceived
  repeat' (first
    | with_reducible assumption
    | with_reducible apply kept_next
    | with_reducible apply kept_answer_ite
    | with_reducible apply kept_ite
    | with_reducible refine kept_byFirmware ?_ (fun _ _ => ?_)
    | with_reducible apply kept_offerReceived
    | with_reducible refine kept_receive ?_ (fun _ _ => ?_))

theorem kept_execModeOfferTimer {A : Area → Prop} [Fact (A .ch)] {a : State} {n : Fin 4} {s : State} (h : Kept A a s)
    : Answer.kept A a (@execModeOfferTimer n s) := by
  unfold execModeOfferTimer
  repeat' (first
    | with_reducible assumption
    | with_reducible apply kept_next
    | with_reducible apply kept_answer_ite
    | with_reducible apply kept_ite
    | with_reducible refine kept_when ?_ (fun _ _ => ?_)
    | with_reducible apply kept_offer)

theorem kept_profileHook {A : Area → Prop} {n : Nat} : (@profileHook n).kept A := by
  unfold profileHook
  repeat' (first
    | with_reducible exact kept_hook_plain
    | with_reducible apply kept_hook_ite
    | with_reducible apply kept_hookAt
    | with_reducible apply hooks_cons
    | with_reducible exact hooks_nil
    | (refine fun _ _ _ h => ?_; dsimp only)
    | with_reducible assumption)

theorem kept_execProfileWrite {A : Area → Prop} [Fact (A .ch)] {a : State} {win : Fin 7} {n : Fin 4} {value : Word}
    {be : Fin 16} {s : State} (h : Kept A a s) : Answer.kept A a (@execProfileWrite win n value be s) := by
  unfold execProfileWrite
  repeat' (first
    | with_reducible assumption
    | with_reducible apply kept_next
    | with_reducible apply kept_answer_ite
    | with_reducible apply kept_ite
    | with_reducible apply kept_hostWrite
    | with_reducible apply kept_profileHook)

theorem kept_execResizeAcceptDeadline {A : Area → Prop} [Fact (A .ch)] [Fact (A .votes)] {a : State} {n : Fin 4} {s :
    State} (h : Kept A a s) : Answer.kept A a (@execResizeAcceptDeadline n s) := by
  unfold execResizeAcceptDeadline
  repeat' (first
    | with_reducible assumption
    | with_reducible apply kept_next
    | with_reducible apply kept_answer_ite
    | with_reducible apply kept_ite
    | with_reducible refine kept_when ?_ (fun _ _ => ?_)
    | with_reducible apply kept_rszCancel
    | with_reducible apply kept_rszFail)

theorem kept_execResizeAcceptReceived {A : Area → Prop} [Fact (A .ch)] [Fact (A .votes)] {a : State} {n : Fin 4} {seq
    : Fin 256} {rep : Fin 4} {tA : Nat} {tB : Nat} {s : State} (h : Kept A a s) : Answer.kept A a
    (@execResizeAcceptReceived n seq rep tA tB s) := by
  unfold execResizeAcceptReceived
  repeat' (first
    | with_reducible assumption
    | with_reducible apply kept_next
    | with_reducible apply kept_answer_ite
    | with_reducible apply kept_ite
    | with_reducible apply kept_acceptReceived
    | with_reducible refine kept_byFirmware ?_ (fun _ _ => ?_)
    | with_reducible refine kept_receive ?_ (fun _ _ => ?_))

theorem kept_execResizeConfirmDeadline {A : Area → Prop} [Fact (A .ch)] [Fact (A .votes)] {a : State} {n : Fin 4} {s :
    State} (h : Kept A a s) : Answer.kept A a (@execResizeConfirmDeadline n s) := by
  unfold execResizeConfirmDeadline
  repeat' (first
    | with_reducible assumption
    | with_reducible apply kept_next
    | with_reducible apply kept_answer_ite
    | with_reducible apply kept_put
    | with_reducible apply kept_ite
    | with_reducible refine kept_when ?_ (fun _ _ => ?_)
    | with_reducible apply kept_rszFail)

theorem kept_execResizeConfirmReceived {A : Area → Prop} [Fact (A .ch)] [Fact (A .votes)] {a : State} {n : Fin 4} {seq
    : Fin 256} {rep : Fin 4} {tA : Nat} {tB : Nat} {cancel : Bool} {s : State} (h : Kept A a s) : Answer.kept A a
    (@execResizeConfirmReceived n seq rep tA tB cancel s) := by
  unfold execResizeConfirmReceived
  repeat' (first
    | with_reducible assumption
    | with_reducible apply kept_next
    | with_reducible apply kept_answer_ite
    | with_reducible apply kept_ite
    | with_reducible refine kept_byFirmware ?_ (fun _ _ => ?_)
    | with_reducible apply kept_confirmReceived
    | with_reducible refine kept_receive ?_ (fun _ _ => ?_))

theorem kept_execResizeConvergenceTimeout {A : Area → Prop} [Fact (A .flow)] [Fact (A .ch)] [Fact (A .votes)] [Fact (A
    .sets)] [Fact (A .applied)] [Fact (A .calWait)] {a : State} {n : Fin 4} {s : State} (h : Kept A a s) : Answer.kept
    A a (@execResizeConvergenceTimeout n s) := by
  unfold execResizeConvergenceTimeout
  repeat' (first
    | with_reducible assumption
    | with_reducible apply kept_next
    | with_reducible apply kept_answer_ite
    | with_reducible apply kept_ite
    | with_reducible refine kept_when ?_ (fun _ _ => ?_)
    | with_reducible apply kept_rszFail
    | with_reducible apply kept_setCh)

theorem kept_resizeHook {A : Area → Prop} [Fact (A .ch)] {n : Nat} : (@resizeHook n).kept A := by
  unfold resizeHook
  repeat' (first
    | with_reducible exact kept_hook_plain
    | with_reducible apply kept_hook_ite
    | with_reducible apply kept_hookAt
    | with_reducible apply hooks_cons
    | with_reducible exact hooks_nil
    | (refine fun _ _ _ h => ?_; dsimp only)
    | with_reducible assumption
    | with_reducible apply kept_hook_ite
    | with_reducible exact kept_hook_plain
    | with_reducible apply kept_ite
    | with_reducible refine kept_when ?_ (fun _ _ => ?_)
    | with_reducible apply kept_resizeGo)

theorem kept_execResizeGo {A : Area → Prop} [Fact (A .ch)] {a : State} {win : Fin 7} {n : Fin 4} {value : Word} {be :
    Fin 16} {s : State} (h : Kept A a s) : Answer.kept A a (@execResizeGo win n value be s) := by
  unfold execResizeGo
  repeat' (first
    | with_reducible assumption
    | with_reducible apply kept_next
    | with_reducible apply kept_answer_ite
    | with_reducible apply kept_ite
    | with_reducible apply kept_hostWrite
    | with_reducible apply kept_resizeHook)

theorem kept_execResizeProposeReceived {A : Area → Prop} [Fact (A .ch)] [Fact (A .votes)] {a : State} {n : Fin 4} {seq
    : Fin 256} {rep : Fin 4} {block : Block} {trib : Bool} {tA : Nat} {s : State} (h : Kept A a s) : Answer.kept A a
    (@execResizeProposeReceived n seq rep block trib tA s) := by
  unfold execResizeProposeReceived
  repeat' (first
    | with_reducible assumption
    | with_reducible apply kept_next
    | with_reducible apply kept_answer_ite
    | with_reducible apply kept_ite
    | with_reducible refine kept_byFirmware ?_ (fun _ _ => ?_)
    | with_reducible apply kept_proposeReceived
    | with_reducible refine kept_receive ?_ (fun _ _ => ?_))

theorem kept_execResizeReceiverSwitch {A : Area → Prop} [Fact (A .ch)] {a : State} {n : Fin 4} {s : State} (h : Kept A
    a s) : Answer.kept A a (@execResizeReceiverSwitch n s) := by
  unfold execResizeReceiverSwitch
  repeat' (first
    | with_reducible assumption
    | with_reducible apply kept_next
    | with_reducible apply kept_answer_ite
    | with_reducible apply kept_ite
    | with_reducible refine kept_when ?_ (fun _ _ => ?_)
    | with_reducible apply kept_onChan
    | with_reducible apply kept_switchReceiver
    | with_reducible apply kept_unconverge)

theorem kept_execResizeRefuseReceived {A : Area → Prop} [Fact (A .ch)] [Fact (A .votes)] {a : State} {n : Fin 4} {seq
    : Fin 256} {rep : Fin 4} {tA : Nat} {cause : Fin 16} {s : State} (h : Kept A a s) : Answer.kept A a
    (@execResizeRefuseReceived n seq rep tA cause s) := by
  unfold execResizeRefuseReceived
  repeat' (first
    | with_reducible assumption
    | with_reducible apply kept_next
    | with_reducible apply kept_answer_ite
    | with_reducible apply kept_ite
    | with_reducible refine kept_byFirmware ?_ (fun _ _ => ?_)
    | with_reducible refine kept_receive ?_ (fun _ _ => ?_)
    | with_reducible apply kept_rszWithdraw)

theorem kept_execResizeTargetReached {A : Area → Prop} [Fact (A .flow)] [Fact (A .ch)] [Fact (A .votes)] [Fact (A
    .sets)] [Fact (A .applied)] [Fact (A .calWait)] {a : State} {n : Fin 4} {s : State} (h : Kept A a s) : Answer.kept
    A a (@execResizeTargetReached n s) := by
  unfold execResizeTargetReached
  repeat' (first
    | with_reducible assumption
    | with_reducible apply kept_next
    | with_reducible apply kept_answer_ite
    | with_reducible apply kept_put
    | with_reducible apply kept_ite
    | with_reducible refine kept_when ?_ (fun _ _ => ?_)
    | with_reducible apply kept_bump
    | with_reducible apply kept_calPause
    | with_reducible apply kept_rszEntries
    | with_reducible apply kept_selectProfile
    | with_reducible apply kept_setCh
    | with_reducible apply kept_unconverge)

end Sys2Proof.Machine
end

