-- ==== Sys2Proof/Laws/KeptReceiveDsp.lean ====
section
/-! SUPPORT. What the operations of Machine/ReceiveDsp.lean keep. -/

namespace Sys2Proof.Machine

theorem kept_acqStep {A : Area → Prop} [Fact (A .free)] [Fact (A .flow)] [Fact (A .ch)] [Fact (A .votes)] [Fact (A
    .sets)] [Fact (A .applied)] [Fact (A .calWait)] {a : State} {n : Nat} {fofs : Int} {adc : List (List Int)} {s :
    State} (h : Kept A a s) : Kept A a (@State.acqStep n fofs adc s) := by
  unfold State.acqStep
  repeat' (first
    | with_reducible assumption
    | with_reducible apply kept_put
    | with_reducible apply kept_ite
    | with_reducible refine kept_when ?_ (fun _ _ => ?_)
    | with_reducible apply kept_blindTaps
    | with_reducible apply kept_flag
    | with_reducible apply kept_onDsp
    | with_reducible apply kept_putS
    | with_reducible apply kept_reachLocked
    | with_reducible apply kept_receiveSpan
    | with_reducible apply kept_syncPilots
    | with_reducible refine kept_foldl ?_ (fun _ _ _ => ?_)
    | split)

theorem kept_berFigures {A : Area → Prop} [Fact (A .free)] {a : State} {n : Nat} {q : Quality} {s : State} (h : Kept A
    a s) : Kept A a (@State.berFigures n q s) := by
  unfold State.berFigures
  repeat' (first
    | with_reducible assumption
    | with_reducible apply kept_put
    | with_reducible apply kept_ite
    | with_reducible apply kept_draw
    | with_reducible apply kept_putS
    | with_reducible refine kept_foldl ?_ (fun _ _ _ => ?_)
    | split)

theorem kept_coldRestart {A : Area → Prop} [Fact (A .ch)] {a : State} {n : Nat} {s : State} (h : Kept A a s) : Kept A
    a (@State.coldRestart n s) := by
  unfold State.coldRestart
  repeat' (first
    | with_reducible assumption
    | with_reducible apply kept_put
    | with_reducible apply kept_ite
    | with_reducible refine kept_when ?_ (fun _ _ => ?_)
    | with_reducible apply kept_bump
    | with_reducible apply kept_chipRest
    | with_reducible apply kept_coarseStart
    | with_reducible apply kept_count
    | with_reducible apply kept_stagesStop
    | with_reducible apply kept_unagree)

theorem kept_evmOf {A : Area → Prop} [Fact (A .free)] {a : State} {q : Nat × Nat} {s : State} (h : Kept A a s) : Kept
    A a (@State.evmOf q s).2 := by
  unfold State.evmOf
  repeat' (first
    | with_reducible assumption
    | with_reducible apply kept_ite
    | with_reducible apply kept_ite_snd
    | with_reducible apply kept_draw)

theorem kept_snrOf {A : Area → Prop} [Fact (A .free)] {a : State} {q : Nat × Nat} {s : State} (h : Kept A a s) : Kept
    A a (@State.snrOf q s).2 := by
  unfold State.snrOf
  repeat' (first
    | with_reducible assumption
    | with_reducible apply kept_ite
    | with_reducible apply kept_ite_snd
    | with_reducible apply kept_draw)

theorem kept_quality {A : Area → Prop} [Fact (A .free)] {a : State} {n : Nat} {s : State} (h : Kept A a s) : Kept A a
    (@State.quality n s).2 := by
  unfold State.quality
  repeat' (first
    | with_reducible assumption
    | with_reducible apply kept_ite
    | with_reducible apply kept_ite_snd
    | with_reducible apply kept_evmOf
    | with_reducible apply kept_snrOf)

theorem kept_snrFigures {A : Area → Prop} {a : State} {n : Nat} {q : Quality} {s : State} (h : Kept A a s) : Kept A a
    (@State.snrFigures n q s) := by
  unfold State.snrFigures
  repeat' (first
    | with_reducible assumption
    | with_reducible apply kept_put
    | with_reducible apply kept_ite
    | with_reducible refine kept_when ?_ (fun _ _ => ?_)
    | with_reducible apply kept_raiseCh)

theorem kept_lqWindow {A : Area → Prop} [Fact (A .free)] {a : State} {n : Nat} {s0 : State} (h : Kept A a s0) : Kept A
    a (@State.lqWindow n s0) := by
  unfold State.lqWindow
  repeat' (first
    | with_reducible assumption
    | with_reducible apply kept_put
    | with_reducible apply kept_ite
    | with_reducible refine kept_when ?_ (fun _ _ => ?_)
    | with_reducible apply kept_addWrap
    | with_reducible apply kept_berFigures
    | with_reducible apply kept_count
    | with_reducible apply kept_flag
    | with_reducible apply kept_quality
    | with_reducible apply kept_raiseCh
    | with_reducible apply kept_snrFigures)

theorem kept_tileFence {A : Area → Prop} [Fact (A .flow)] [Fact (A .ch)] [Fact (A .votes)] [Fact (A .sets)] [Fact (A
    .applied)] [Fact (A .calWait)] {a : State} {n : Nat} {t : Nat} {cause : Nat} {s : State} (h : Kept A a s) : Kept A
    a (@State.tileFence n t cause s) := by
  unfold State.tileFence
  repeat' (first
    | with_reducible assumption
    | with_reducible apply kept_put
    | with_reducible apply kept_ite
    | with_reducible refine kept_when ?_ (fun _ _ => ?_)
    | with_reducible refine kept_each ?_ (fun _ _ _ => ?_)
    | with_reducible apply kept_cwRelease
    | with_reducible apply kept_drainOut
    | with_reducible apply kept_fecOcc
    | with_reducible apply kept_onDsp
    | with_reducible apply kept_raiseCh
    | with_reducible apply kept_rebudget
    | with_reducible apply kept_refuseMode
    | with_reducible apply kept_tileSum
    | with_reducible apply kept_unconverge
    | with_reducible apply kept_unitChanged)

theorem kept_tileFault {A : Area → Prop} [Fact (A .flow)] [Fact (A .ch)] [Fact (A .votes)] [Fact (A .sets)] [Fact (A
    .applied)] [Fact (A .calWait)] {a : State} {n : Nat} {t : Nat} {cause : Nat} {s : State} (h : Kept A a s) : Kept A
    a (@State.tileFault n t cause s) := by
  unfold State.tileFault
  repeat' (first
    | with_reducible assumption
    | with_reducible apply kept_ite
    | with_reducible refine kept_when ?_ (fun _ _ => ?_)
    | with_reducible apply kept_tileFence)

theorem kept_warmRestart {A : Area → Prop} {a : State} {n : Nat} {s : State} (h : Kept A a s) : Kept A a
    (@State.warmRestart n s) := by
  unfold State.warmRestart
  repeat' (first
    | with_reducible assumption
    | with_reducible apply kept_put
    | with_reducible apply kept_ite
    | with_reducible apply kept_bump
    | with_reducible apply kept_count
    | with_reducible apply kept_stagesStop)

theorem kept_execAcquisitionStepComplete {A : Area → Prop} [Fact (A .free)] [Fact (A .flow)] [Fact (A .ch)] [Fact (A
    .votes)] [Fact (A .sets)] [Fact (A .applied)] [Fact (A .calWait)] {a : State} {n : Fin 4} {fofs : Int} {adc : List
    (List Int)} {s : State} (h : Kept A a s) : Answer.kept A a (@execAcquisitionStepComplete n fofs adc s) := by
  unfold execAcquisitionStepComplete
  repeat' (first
    | with_reducible assumption
    | with_reducible apply kept_next
    | with_reducible apply kept_answer_ite
    | with_reducible apply kept_ite
    | with_reducible refine kept_when ?_ (fun _ _ => ?_)
    | with_reducible apply kept_acqStep)

theorem kept_execAcquisitionStepTimeout {A : Area → Prop} [Fact (A .flow)] [Fact (A .ch)] {a : State} {n : Fin 4} {s :
    State} (h : Kept A a s) : Answer.kept A a (@execAcquisitionStepTimeout n s) := by
  unfold execAcquisitionStepTimeout
  repeat' (first
    | with_reducible assumption
    | with_reducible apply kept_next
    | with_reducible apply kept_answer_ite
    | with_reducible apply kept_put
    | with_reducible apply kept_ite
    | with_reducible refine kept_when ?_ (fun _ _ => ?_)
    | with_reducible apply kept_addWrap
    | with_reducible apply kept_clearAlign
    | with_reducible apply kept_coldRestart
    | with_reducible apply kept_flushReceive
    | with_reducible apply kept_raiseCh
    | with_reducible apply kept_warmRestart)

theorem kept_execCdTrackStep {A : Area → Prop} {a : State} {n : Fin 4} {dir : Fin 3} {s : State} (h : Kept A a s) :
    Answer.kept A a (@execCdTrackStep n dir s) := by
  unfold execCdTrackStep
  repeat' (first
    | with_reducible assumption
    | with_reducible apply kept_next
    | with_reducible apply kept_answer_ite
    | with_reducible apply kept_put
    | with_reducible apply kept_ite
    | with_reducible refine kept_when ?_ (fun _ _ => ?_)
    | with_reducible apply kept_putS)

theorem kept_execClockRecoveryLock {A : Area → Prop} {a : State} {n : Fin 4} {ppm : Int} {s : State} (h : Kept A a s)
    : Answer.kept A a (@execClockRecoveryLock n ppm s) := by
  unfold execClockRecoveryLock
  repeat' (first
    | with_reducible assumption
    | with_reducible apply kept_next
    | with_reducible apply kept_answer_ite
    | with_reducible apply kept_put
    | with_reducible apply kept_ite
    | with_reducible refine kept_when ?_ (fun _ _ => ?_)
    | with_reducible apply kept_putS)

theorem kept_execClockRecoveryLoss {A : Area → Prop} [Fact (A .flow)] [Fact (A .ch)] [Fact (A .votes)] [Fact (A
    .sets)] [Fact (A .applied)] [Fact (A .calWait)] {a : State} {n : Fin 4} {s : State} (h : Kept A a s) : Answer.kept
    A a (@execClockRecoveryLoss n s) := by
  unfold execClockRecoveryLoss
  repeat' (first
    | with_reducible assumption
    | with_reducible apply kept_next
    | with_reducible apply kept_answer_ite
    | with_reducible apply kept_put
    | with_reducible apply kept_ite
    | with_reducible refine kept_when ?_ (fun _ _ => ?_)
    | with_reducible apply kept_loseFrame)

theorem kept_execCoarseEstimateComplete {A : Area → Prop} [Fact (A .ch)] {a : State} {n : Fin 4} {est : Int} {rs :
    Nat} {s : State} (h : Kept A a s) : Answer.kept A a (@execCoarseEstimateComplete n est rs s) := by
  unfold execCoarseEstimateComplete
  repeat' (first
    | with_reducible assumption
    | with_reducible apply kept_next
    | with_reducible apply kept_answer_ite
    | with_reducible apply kept_put
    | with_reducible apply kept_ite
    | with_reducible refine kept_when ?_ (fun _ _ => ?_)
    | with_reducible apply kept_coarseDone
    | with_reducible apply kept_coarseStart)

theorem kept_execCoarseEstimateTimeout {A : Area → Prop} [Fact (A .ch)] {a : State} {n : Fin 4} {s : State} (h : Kept
    A a s) : Answer.kept A a (@execCoarseEstimateTimeout n s) := by
  unfold execCoarseEstimateTimeout
  repeat' (first
    | with_reducible assumption
    | with_reducible apply kept_next
    | with_reducible apply kept_answer_ite
    | with_reducible apply kept_put
    | with_reducible apply kept_ite
    | with_reducible refine kept_when ?_ (fun _ _ => ?_)
    | with_reducible apply kept_coarseStart
    | with_reducible apply kept_raiseCh)

theorem kept_execConvergenceWindowEnd {A : Area → Prop} [Fact (A .flow)] [Fact (A .ch)] [Fact (A .votes)] [Fact (A
    .sets)] [Fact (A .applied)] [Fact (A .calWait)] {a : State} {n : Fin 4} {s : State} (h : Kept A a s) : Answer.kept
    A a (@execConvergenceWindowEnd n s) := by
  unfold execConvergenceWindowEnd
  repeat' (first
    | with_reducible assumption
    | with_reducible apply kept_next
    | with_reducible apply kept_answer_ite
    | with_reducible apply kept_put
    | with_reducible apply kept_ite
    | with_reducible refine kept_when ?_ (fun _ _ => ?_)
    | with_reducible apply kept_converge
    | with_reducible apply kept_onDsp)

theorem kept_execCycleSlip {A : Area → Prop} [Fact (A .ch)] {a : State} {n : Fin 4} {symbols : Fin 65} {s : State} (h
    : Kept A a s) : Answer.kept A a (@execCycleSlip n symbols s) := by
  unfold execCycleSlip
  repeat' (first
    | with_reducible assumption
    | with_reducible apply kept_next
    | with_reducible apply kept_answer_ite
    | with_reducible apply kept_ite
    | with_reducible refine kept_when ?_ (fun _ _ => ?_)
    | with_reducible apply kept_bump
    | with_reducible apply kept_count
    | with_reducible apply kept_onDsp)

theorem kept_execLinkQualityWindowEnd {A : Area → Prop} [Fact (A .free)] [Fact (A .ch)] {a : State} {n : Fin 4} {s :
    State} (h : Kept A a s) : Answer.kept A a (@execLinkQualityWindowEnd n s) := by
  unfold execLinkQualityWindowEnd
  repeat' (first
    | with_reducible assumption
    | with_reducible apply kept_next
    | with_reducible apply kept_answer_ite
    | with_reducible apply kept_ite
    | with_reducible apply kept_clear
    | with_reducible apply kept_lqWindow
    | with_reducible apply kept_onDsp)

theorem kept_execNoConvergenceTimeout {A : Area → Prop} {a : State} {n : Fin 4} {s : State} (h : Kept A a s) :
    Answer.kept A a (@execNoConvergenceTimeout n s) := by
  unfold execNoConvergenceTimeout
  repeat' (first
    | with_reducible assumption
    | with_reducible apply kept_next
    | with_reducible apply kept_answer_ite
    | with_reducible apply kept_put
    | with_reducible apply kept_ite
    | with_reducible refine kept_when ?_ (fun _ _ => ?_)
    | with_reducible apply kept_raiseCh)

theorem kept_tileForceHook {A : Area → Prop} [Fact (A .flow)] [Fact (A .ch)] [Fact (A .votes)] [Fact (A .sets)] [Fact
    (A .applied)] [Fact (A .calWait)] {n : Nat} : (@tileForceHook n).kept A := by
  unfold tileForceHook
  repeat' (first
    | with_reducible exact kept_hook_plain
    | with_reducible apply kept_hook_ite
    | with_reducible apply kept_hookAt
    | with_reducible apply hooks_cons
    | with_reducible exact hooks_nil
    | (refine fun _ _ _ h => ?_; dsimp only)
    | with_reducible assumption
    | with_reducible apply kept_hook_ite
    | with_reducible exact kept_hook_plain
    | with_reducible apply kept_ite
    | with_reducible refine kept_when ?_ (fun _ _ => ?_)
    | with_reducible apply kept_tileFault)

theorem kept_execTileForce {A : Area → Prop} [Fact (A .flow)] [Fact (A .ch)] [Fact (A .votes)] [Fact (A .sets)] [Fact
    (A .applied)] [Fact (A .calWait)] {a : State} {win : Fin 7} {n : Fin 4} {value : Word} {be : Fin 16} {s : State}
    (h : Kept A a s) : Answer.kept A a (@execTileForce win n value be s) := by
  unfold execTileForce
  repeat' (first
    | with_reducible assumption
    | with_reducible apply kept_next
    | with_reducible apply kept_answer_ite
    | with_reducible apply kept_ite
    | with_reducible apply kept_hostWrite
    | with_reducible apply kept_tileForceHook)

theorem kept_execTileHandshakeFault {A : Area → Prop} [Fact (A .flow)] [Fact (A .ch)] [Fact (A .votes)] [Fact (A
    .sets)] [Fact (A .applied)] [Fact (A .calWait)] {a : State} {n : Fin 4} {t : Fin 96} {s : State} (h : Kept A a s)
    : Answer.kept A a (@execTileHandshakeFault n t s) := by
  unfold execTileHandshakeFault
  repeat' (first
    | with_reducible assumption
    | with_reducible apply kept_next
    | with_reducible apply kept_answer_ite
    | with_reducible apply kept_ite
    | with_reducible apply kept_tileFault)

theorem kept_execTileRepartitionComplete {A : Area → Prop} [Fact (A .ch)] {a : State} {n : Fin 4} {s : State} (h :
    Kept A a s) : Answer.kept A a (@execTileRepartitionComplete n s) := by
  unfold execTileRepartitionComplete
  repeat' (first
    | with_reducible assumption
    | with_reducible apply kept_next
    | with_reducible apply kept_answer_ite
    | with_reducible apply kept_put
    | with_reducible apply kept_ite
    | with_reducible refine kept_when ?_ (fun _ _ => ?_)
    | with_reducible apply kept_onDsp
    | with_reducible apply kept_unconverge)

theorem kept_execTileResidueFault {A : Area → Prop} [Fact (A .flow)] [Fact (A .ch)] [Fact (A .votes)] [Fact (A .sets)]
    [Fact (A .applied)] [Fact (A .calWait)] {a : State} {n : Fin 4} {t : Fin 96} {s : State} (h : Kept A a s) :
    Answer.kept A a (@execTileResidueFault n t s) := by
  unfold execTileResidueFault
  repeat' (first
    | with_reducible assumption
    | with_reducible apply kept_next
    | with_reducible apply kept_answer_ite
    | with_reducible apply kept_ite
    | with_reducible apply kept_tileFault)

theorem kept_execTileResidueMismatch {A : Area → Prop} [Fact (A .ch)] {a : State} {n : Fin 4} {t : Fin 96} {s : State}
    (h : Kept A a s) : Answer.kept A a (@execTileResidueMismatch n t s) := by
  unfold execTileResidueMismatch
  repeat' (first
    | with_reducible assumption
    | with_reducible apply kept_next
    | with_reducible apply kept_answer_ite
    | with_reducible apply kept_ite
    | with_reducible refine kept_when ?_ (fun _ _ => ?_)
    | with_reducible apply kept_bump
    | with_reducible apply kept_count
    | with_reducible apply kept_onDsp)

theorem kept_nlcHook {A : Area → Prop} {n : Nat} : (@nlcHook n).kept A := by
  unfold nlcHook
  repeat' (first
    | with_reducible exact kept_hook_plain
    | with_reducible apply kept_hook_ite
    | with_reducible apply kept_hookAt
    | with_reducible apply hooks_cons
    | with_reducible exact hooks_nil
    | (refine fun _ _ _ h => ?_; dsimp only)
    | with_reducible assumption
    | with_reducible apply kept_hook_ite
    | with_reducible exact kept_hook_plain
    | with_reducible apply kept_put
    | with_reducible apply kept_ite
    | with_reducible refine kept_when ?_ (fun _ _ => ?_))

end Sys2Proof.Machine
end

