-- ==== Sys2Proof/Laws/KeptTransmitDsp.lean ====
section
/-! SUPPORT. What the operations of Machine/TransmitDsp.lean keep. -/

namespace Sys2Proof.Machine

theorem kept_testHook {A : Area → Prop} {n : Nat} : (@testHook n).kept A := by
  unfold testHook
  repeat' (first
    | with_reducible exact kept_hook_plain
    | with_reducible apply kept_hook_ite
    | with_reducible apply kept_hookAt
    | with_reducible apply hooks_cons
    | with_reducible exact hooks_nil
    | (refine fun _ _ _ h => ?_; dsimp only)
    | with_reducible assumption
    | with_reducible apply kept_hook_ite
    | with_reducible exact kept_hook_plain
    | with_reducible apply kept_ite
    | with_reducible refine kept_when ?_ (fun _ _ => ?_)
    | with_reducible apply kept_flag)

theorem kept_execTestPatternWrite {A : Area → Prop} [Fact (A .ch)] {a : State} {win : Fin 7} {n : Fin 4} {value :
    Word} {be : Fin 16} {s : State} (h : Kept A a s) : Answer.kept A a (@execTestPatternWrite win n value be s) := by
  unfold execTestPatternWrite
  repeat' (first
    | with_reducible assumption
    | with_reducible apply kept_next
    | with_reducible apply kept_answer_ite
    | with_reducible apply kept_ite
    | with_reducible apply kept_hostWrite
    | with_reducible apply kept_testHook)

theorem kept_execTxClipExcess {A : Area → Prop} [Fact (A .ch)] {a : State} {n : Fin 4} {lane : Fin 4} {s : State} (h :
    Kept A a s) : Answer.kept A a (@execTxClipExcess n lane s) := by
  unfold execTxClipExcess
  repeat' (first
    | with_reducible assumption
    | with_reducible apply kept_next
    | with_reducible apply kept_answer_ite
    | with_reducible apply kept_put
    | with_reducible apply kept_ite
    | with_reducible refine kept_when ?_ (fun _ _ => ?_)
    | with_reducible apply kept_onTx
    | with_reducible apply kept_raiseCh)

theorem kept_execTxUnderrun {A : Area → Prop} [Fact (A .ch)] [Fact (A .out)] {a : State} {n : Fin 4} {k : Nat} {s :
    State} (h : Kept A a s) : Answer.kept A a (@execTxUnderrun n k s) := by
  unfold execTxUnderrun
  repeat' (first
    | with_reducible assumption
    | with_reducible apply kept_next
    | with_reducible apply kept_answer_ite
    | with_reducible apply kept_put
    | with_reducible apply kept_ite
    | with_reducible refine kept_when ?_ (fun _ _ => ?_)
    | with_reducible apply kept_addSat
    | with_reducible apply kept_countFor
    | with_reducible apply kept_raiseCh
    | with_reducible apply kept_substituteSpan)

end Sys2Proof.Machine
end

