-- ==== Sys2Proof/Laws/KeptMonitor.lean ====
section
/-! SUPPORT. What the operations of Machine/Monitor.lean keep. -/

namespace Sys2Proof.Machine

theorem kept_biasLoss {A : Area → Prop} [Fact (A .flow)] [Fact (A .ch)] [Fact (A .votes)] [Fact (A .sets)] [Fact (A
    .applied)] [Fact (A .calWait)] {a : State} {n : Nat} {b : Nat} {cause : Nat} {s : State} (h : Kept A a s) : Kept A
    a (@State.biasLoss n b cause s) := by
  unfold State.biasLoss
  repeat' (first
    | with_reducible assumption
    | with_reducible apply kept_put
    | with_reducible apply kept_ite
    | with_reducible refine kept_when ?_ (fun _ _ => ?_)
    | with_reducible apply kept_opticalFence
    | with_reducible apply kept_raiseCh)

theorem kept_vpiEstimate {A : Area → Prop} {a : State} {n : Nat} {b : Nat} {vpi : Nat} {s : State} (h : Kept A a s) :
    Kept A a (@State.vpiEstimate n b vpi s) := by
  unfold State.vpiEstimate
  repeat' (first
    | with_reducible assumption
    | with_reducible apply kept_put
    | with_reducible apply kept_ite
    | with_reducible refine kept_foldl ?_ (fun _ _ _ => ?_)
    | split)

theorem kept_biasUpdate {A : Area → Prop} [Fact (A .flow)] [Fact (A .ch)] [Fact (A .votes)] [Fact (A .sets)] [Fact (A
    .applied)] [Fact (A .calWait)] {a : State} {n : Nat} {b : Nat} {e : Int} {vpi : Nat} {s : State} (h : Kept A a s)
    : Kept A a (@State.biasUpdate n b e vpi s) := by
  unfold State.biasUpdate
  repeat' (first
    | with_reducible assumption
    | with_reducible apply kept_put
    | with_reducible apply kept_ite
    | with_reducible refine kept_when ?_ (fun _ _ => ?_)
    | with_reducible apply kept_addWrap
    | with_reducible apply kept_biasLoss
    | with_reducible apply kept_biasShow
    | with_reducible apply kept_count
    | with_reducible apply kept_putS
    | with_reducible apply kept_vpiEstimate)

theorem kept_biasBlock {A : Area → Prop} [Fact (A .flow)] [Fact (A .ch)] [Fact (A .votes)] [Fact (A .sets)] [Fact (A
    .applied)] [Fact (A .calWait)] {a : State} {n : Nat} {tap : Nat} {vpi : List Nat} {s : State} (h : Kept A a s) :
    Kept A a (@State.biasBlock n tap vpi s) := by
  unfold State.biasBlock
  repeat' (first
    | with_reducible assumption
    | with_reducible apply kept_ite
    | with_reducible refine kept_each ?_ (fun _ _ _ => ?_)
    | with_reducible apply kept_biasUpdate
    | with_reducible apply kept_bump
    | with_reducible apply kept_count)

theorem kept_raiseMon {A : Area → Prop} {a : State} {b : Nat} {k : Nat} {s : State} (h : Kept A a s) : Kept A a
    (@State.raiseMon b k s) := by
  unfold State.raiseMon
  repeat' (first
    | with_reducible assumption
    | with_reducible apply kept_ite
    | with_reducible apply kept_raise
    | with_reducible apply kept_raiseCh)

theorem kept_deliver {A : Area → Prop} {a : State} {b : Nat} {i : Nat} {urgent : Bool} {o : MonOut} {s : State} (h :
    Kept A a s) : Kept A a (@State.deliver b i urgent o s) := by
  unfold State.deliver
  repeat' (first
    | with_reducible assumption
    | with_reducible apply kept_put
    | with_reducible apply kept_ite
    | with_reducible refine kept_when ?_ (fun _ _ => ?_)
    | with_reducible apply kept_addWrap
    | with_reducible apply kept_bump
    | with_reducible apply kept_count
    | with_reducible apply kept_flag
    | with_reducible apply kept_putS
    | with_reducible apply kept_raiseMon)

theorem kept_limitCheck {A : Area → Prop} {a : State} {b : Nat} {k : Nat} {outs : List MonOut} {s : State} (h : Kept A
    a s) : Kept A a (@State.limitCheck b k outs s) := by
  unfold State.limitCheck
  repeat' (first
    | with_reducible assumption
    | with_reducible apply kept_ite
    | with_reducible refine kept_when ?_ (fun _ _ => ?_)
    | with_reducible apply kept_count
    | with_reducible apply kept_putBit
    | with_reducible apply kept_raiseMon
    | with_reducible refine kept_foldl ?_ (fun _ _ _ => ?_)
    | split)

theorem kept_monRestart {A : Area → Prop} [Fact (A .mon)] {a : State} {b : Nat} {s : State} (h : Kept A a s) : Kept A
    a (@State.monRestart b s) := by
  unfold State.monRestart
  repeat' (first
    | with_reducible assumption
    | with_reducible exact Or.inl Fact.out
    | with_reducible exact Or.inr rfl
    | with_reducible apply kept_put
    | with_reducible apply kept_ite
    | with_reducible refine kept_each ?_ (fun _ _ _ => ?_)
    | with_reducible apply kept_mk)

theorem kept_monChanges {A : Area → Prop} [Fact (A .mon)] {a : State} {b : Nat} {s : State} (h : Kept A a s) : Kept A
    a (@State.monChanges b s) := by
  unfold State.monChanges
  repeat' (first
    | with_reducible assumption
    | with_reducible apply kept_put
    | with_reducible apply kept_ite
    | with_reducible refine kept_each ?_ (fun _ _ _ => ?_)
    | with_reducible apply kept_monRestart
    | with_reducible apply kept_putBit)

theorem kept_monDeliver {A : Area → Prop} {a : State} {b : Nat} {outs : List MonOut} {s : State} (h : Kept A a s) :
    Kept A a (@State.monDeliver b outs s) := by
  unfold State.monDeliver
  repeat' (first
    | with_reducible assumption
    | with_reducible apply kept_put
    | with_reducible apply kept_ite
    | with_reducible apply kept_deliver
    | with_reducible refine kept_foldl ?_ (fun _ _ _ => ?_)
    | split)

theorem kept_monInput {A : Area → Prop} [Fact (A .mon)] {a : State} {b : Nat} {i : Nat} {codes : List Int} {s : State}
    (h : Kept A a s) : Kept A a (@State.monInput b i codes s).2 := by
  unfold State.monInput
  repeat' (first
    | with_reducible assumption
    | with_reducible exact Or.inl Fact.out
    | with_reducible exact Or.inr rfl
    | with_reducible apply kept_put
    | with_reducible apply kept_ite
    | with_reducible apply kept_ite_snd
    | with_reducible refine kept_when ?_ (fun _ _ => ?_)
    | with_reducible apply kept_putBit
    | with_reducible apply kept_mk)

theorem kept_monInputs {A : Area → Prop} [Fact (A .mon)] {a : State} {b : Nat} {codes : List (List Int)} {k : Nat}
    {acc : List MonOut} {s : State} (h : Kept A a s) :
    Kept A a (s.monInputs b codes k acc).2 := by
  induction k generalizing acc s with
  | zero => exact h
  | succ k ih => exact ih (kept_monInput h)

theorem kept_tapResults {A : Area → Prop} [Fact (A .mon)] {a : State} {n : Nat} {outs : List MonOut} {s : State} (h :
    Kept A a s) :
    Kept A a (s.tapResults n outs) := by
  unfold State.tapResults
  refine kept_each (kept_mk h (Or.inr rfl) (Or.inr rfl) (Or.inr rfl) (Or.inr rfl) (Or.inr rfl) (Or.inr rfl) (Or.inl Fact.out) (Or.inr rfl) (Or.inr rfl) (Or.inr rfl) (Or.inr rfl) (Or.inr rfl) (Or.inr rfl) (Or.inr rfl) (Or.inr rfl)) fun _ _ k => ?_
  split
  · exact kept_ite k (kept_putS k)
  · exact k

theorem kept_monEnd {A : Area → Prop} [Fact (A .votes)] [Fact (A .mon)] [Fact (A .sets)] [Fact (A .applied)] [Fact (A
    .calWait)] {a : State} {b : Nat} {codes : List (List Int)} {s : State} (h : Kept A a s) : Kept A a (@State.monEnd
    b codes s) := by
  unfold State.monEnd
  repeat' (first
    | with_reducible assumption
    | with_reducible apply kept_ite
    | with_reducible refine kept_when ?_ (fun _ _ => ?_)
    | with_reducible refine kept_each ?_ (fun _ _ _ => ?_)
    | with_reducible apply kept_calMonitorPeriod
    | with_reducible apply kept_countFor
    | with_reducible apply kept_limitCheck
    | with_reducible apply kept_monChanges
    | with_reducible apply kept_monDeliver
    | with_reducible apply kept_monInputs
    | with_reducible apply kept_tapResults)

theorem kept_biasCtrlHook {A : Area → Prop} {n : Nat} : (@biasCtrlHook n).kept A := by
  unfold biasCtrlHook
  repeat' (first
    | with_reducible exact kept_hook_plain
    | with_reducible apply kept_hook_ite
    | with_reducible apply kept_hookAt
    | with_reducible apply hooks_cons
    | with_reducible exact hooks_nil
    | (refine fun _ _ _ h => ?_; dsimp only)
    | with_reducible assumption
    | with_reducible apply kept_hook_ite
    | with_reducible exact kept_hook_plain
    | with_reducible apply kept_ite
    | with_reducible apply kept_biasEval)

theorem kept_coefHook {A : Area → Prop} {b : Nat} : (@coefHook b).kept A := by
  unfold coefHook
  repeat' (first
    | with_reducible exact kept_hook_plain
    | with_reducible apply kept_hook_ite
    | with_reducible apply kept_hookAt
    | with_reducible apply hooks_cons
    | with_reducible exact hooks_nil
    | (refine fun _ _ _ h => ?_; dsimp only)
    | with_reducible assumption)

theorem kept_dcbHook {A : Area → Prop} {b : Nat} {s0 : State} : (@dcbHook b s0).kept A := by
  unfold dcbHook
  repeat' (first
    | with_reducible exact kept_hook_plain
    | with_reducible apply kept_hook_ite
    | with_reducible apply kept_hookAt
    | with_reducible apply hooks_cons
    | with_reducible exact hooks_nil
    | (refine fun _ _ _ h => ?_; dsimp only)
    | with_reducible assumption
    | with_reducible apply kept_hook_ite
    | with_reducible exact kept_hook_plain
    | with_reducible apply kept_ite
    | with_reducible refine kept_each ?_ (fun _ _ _ => ?_)
    | with_reducible apply kept_putBit)

theorem kept_execBiasBlockEnd {A : Area → Prop} [Fact (A .flow)] [Fact (A .ch)] [Fact (A .votes)] [Fact (A .sets)]
    [Fact (A .applied)] [Fact (A .calWait)] {a : State} {n : Fin 4} {tap : Fin 2} {vpi : List Nat} {s : State} (h :
    Kept A a s) : Answer.kept A a (@execBiasBlockEnd n tap vpi s) := by
  unfold execBiasBlockEnd
  repeat' (first
    | with_reducible assumption
    | with_reducible apply kept_next
    | with_reducible apply kept_answer_ite
    | with_reducible apply kept_ite
    | with_reducible apply kept_biasBlock)

theorem kept_execCoefficientWrite {A : Area → Prop} [Fact (A .ch)] {a : State} {win : Fin 7} {b : Fin 5} {value :
    Word} {be : Fin 16} {s : State} (h : Kept A a s) : Answer.kept A a (@execCoefficientWrite win b value be s) := by
  unfold execCoefficientWrite
  repeat' (first
    | with_reducible assumption
    | with_reducible apply kept_next
    | with_reducible apply kept_answer_ite
    | with_reducible apply kept_ite
    | with_reducible apply kept_hostWrite
    | with_reducible apply kept_coefHook)

theorem kept_monCtrlHook {A : Area → Prop} {b : Nat} : (@monCtrlHook b).kept A := by
  unfold monCtrlHook
  repeat' (first
    | with_reducible exact kept_hook_plain
    | with_reducible apply kept_hook_ite
    | with_reducible apply kept_hookAt
    | with_reducible apply hooks_cons
    | with_reducible exact hooks_nil
    | (refine fun _ _ _ h => ?_; dsimp only)
    | with_reducible assumption)

theorem kept_execCompensationSetChange {A : Area → Prop} [Fact (A .ch)] {a : State} {win : Fin 7} {b : Fin 5} {value :
    Word} {be : Fin 16} {s : State} (h : Kept A a s) : Answer.kept A a (@execCompensationSetChange win b value be s)
    := by
  unfold execCompensationSetChange
  repeat' (first
    | with_reducible assumption
    | with_reducible apply kept_next
    | with_reducible apply kept_answer_ite
    | with_reducible apply kept_ite
    | with_reducible apply kept_hostWrite
    | with_reducible apply kept_monCtrlHook)

theorem kept_execMonitorClockLoss {A : Area → Prop} {a : State} {b : Fin 5} {s : State} (h : Kept A a s) : Answer.kept
    A a (@execMonitorClockLoss b s) := by
  unfold execMonitorClockLoss
  repeat' (first
    | with_reducible assumption
    | with_reducible apply kept_next
    | with_reducible apply kept_answer_ite
    | with_reducible apply kept_put
    | with_reducible apply kept_ite
    | with_reducible refine kept_when ?_ (fun _ _ => ?_)
    | with_reducible apply kept_biasEval
    | with_reducible apply kept_raiseMon)

theorem kept_execMonitorClockRelock {A : Area → Prop} [Fact (A .mon)] {a : State} {b : Fin 5} {s : State} (h : Kept A
    a s) : Answer.kept A a (@execMonitorClockRelock b s) := by
  unfold execMonitorClockRelock
  repeat' (first
    | with_reducible assumption
    | with_reducible apply kept_next
    | with_reducible apply kept_answer_ite
    | with_reducible apply kept_put
    | with_reducible apply kept_ite
    | with_reducible refine kept_when ?_ (fun _ _ => ?_)
    | with_reducible apply kept_biasEval
    | with_reducible apply kept_monRestart)

theorem kept_execMonitorConversionEnd {A : Area → Prop} [Fact (A .votes)] [Fact (A .mon)] [Fact (A .sets)] [Fact (A
    .applied)] [Fact (A .calWait)] {a : State} {b : Fin 5} {codes : List (List Int)} {s : State} (h : Kept A a s) :
    Answer.kept A a (@execMonitorConversionEnd b codes s) := by
  unfold execMonitorConversionEnd
  repeat' (first
    | with_reducible assumption
    | with_reducible apply kept_next
    | with_reducible apply kept_answer_ite
    | with_reducible apply kept_ite
    | with_reducible refine kept_when ?_ (fun _ _ => ?_)
    | with_reducible apply kept_monEnd)

theorem kept_execMonitorPresetChange {A : Area → Prop} [Fact (A .ch)] {a : State} {win : Fin 7} {b : Fin 5} {value :
    Word} {be : Fin 16} {s : State} (h : Kept A a s) : Answer.kept A a (@execMonitorPresetChange win b value be s) := by
  unfold execMonitorPresetChange
  repeat' (first
    | with_reducible assumption
    | with_reducible apply kept_next
    | with_reducible apply kept_answer_ite
    | with_reducible apply kept_ite
    | with_reducible apply kept_hostWrite
    | with_reducible apply kept_monCtrlHook)

theorem kept_execMonitorResultRead {A : Area → Prop} [Fact (A .out)] {a : State} {win : Fin 7} {b : Fin 5} {s : State}
    (h : Kept A a s) : Answer.kept A a (@execMonitorResultRead win b s) := by
  unfold execMonitorResultRead
  repeat' (first
    | with_reducible assumption
    | with_reducible apply kept_next
    | with_reducible apply kept_answer_ite
    | with_reducible apply kept_put
    | with_reducible apply kept_ite
    | with_reducible refine kept_hostRead ?_ (fun _ _ => ?_))

theorem kept_urgentHook {A : Area → Prop} {b : Nat} : (@urgentHook b).kept A := by
  unfold urgentHook
  repeat' (first
    | with_reducible exact kept_hook_plain
    | with_reducible apply kept_hook_ite
    | with_reducible apply kept_hookAt
    | with_reducible apply hooks_cons
    | with_reducible exact hooks_nil
    | (refine fun _ _ _ h => ?_; dsimp only)
    | with_reducible assumption
    | with_reducible apply kept_hook_ite
    | with_reducible exact kept_hook_plain
    | with_reducible apply kept_put
    | with_reducible apply kept_ite
    | with_reducible refine kept_when ?_ (fun _ _ => ?_))

theorem kept_execMonitorUrgentRequest {A : Area → Prop} [Fact (A .ch)] {a : State} {win : Fin 7} {b : Fin 5} {value :
    Word} {be : Fin 16} {s : State} (h : Kept A a s) : Answer.kept A a (@execMonitorUrgentRequest win b value be s) :=
    by
  unfold execMonitorUrgentRequest
  repeat' (first
    | with_reducible assumption
    | with_reducible apply kept_next
    | with_reducible apply kept_answer_ite
    | with_reducible apply kept_ite
    | with_reducible apply kept_hostWrite
    | with_reducible apply kept_urgentHook)

theorem kept_gainHook {A : Area → Prop} {b : Nat} {w : Nat} {s0 : State} : (@gainHook b w s0).kept A := by
  unfold gainHook
  repeat' (first
    | with_reducible exact kept_hook_plain
    | with_reducible apply kept_hook_ite
    | with_reducible apply kept_hookAt
    | with_reducible apply hooks_cons
    | with_reducible exact hooks_nil
    | (refine fun _ _ _ h => ?_; dsimp only)
    | with_reducible assumption
    | with_reducible apply kept_hook_ite
    | with_reducible exact kept_hook_plain
    | with_reducible apply kept_ite
    | with_reducible refine kept_each ?_ (fun _ _ _ => ?_)
    | with_reducible apply kept_putBit)

theorem kept_srcHook {A : Area → Prop} {b : Nat} {s0 : State} : (@srcHook b s0).kept A := by
  unfold srcHook
  repeat' (first
    | with_reducible exact kept_hook_plain
    | with_reducible apply kept_hook_ite
    | with_reducible apply kept_hookAt
    | with_reducible apply hooks_cons
    | with_reducible exact hooks_nil
    | (refine fun _ _ _ h => ?_; dsimp only)
    | with_reducible assumption
    | with_reducible apply kept_hook_ite
    | with_reducible exact kept_hook_plain
    | with_reducible apply kept_ite
    | with_reducible refine kept_each ?_ (fun _ _ _ => ?_)
    | with_reducible apply kept_putBit)

end Sys2Proof.Machine
end

