-- ==== Sys2Proof/Laws/KeptReport.lean ====
section
/-! SUPPORT. What the operations of Machine/Report.lean keep. -/

namespace Sys2Proof.Machine

theorem kept_clearRange {A : Area → Prop} {a : State} {lo : Nat} {hi : Nat} {s : State} (h : Kept A a s) : Kept A a
    (@State.clearRange lo hi s) := by
  unfold State.clearRange
  repeat' (first
    | with_reducible assumption
    | with_reducible exact Or.inl Fact.out
    | with_reducible exact Or.inr rfl
    | with_reducible apply kept_ite
    | with_reducible refine kept_mk_forms ?_ ?_ ?_ ?_ ?_ ?_ ?_ ?_ ?_ ?_ ?_ ?_ ?_ ?_ ?_ ?_ ?_ ?_ ?_ ?_ ?_ (fun h => ?_) (fun h => ?_) (fun h => ?_) (fun h => ?_) (fun h => ?_) (fun h => ?_)
    | exact keysRise_filter _ h)

theorem kept_plinthRecord {A : Area → Prop} {a : State} {cause : Nat} {s : State} (h : Kept A a s) : Kept A a
    (@State.plinthRecord cause s) := by
  unfold State.plinthRecord
  repeat' (first
    | with_reducible assumption
    | with_reducible apply kept_put
    | with_reducible apply kept_ite
    | with_reducible refine kept_each ?_ (fun _ _ _ => ?_))

theorem kept_putWords {A : Area → Prop} {a : State} {b : Nat} {l : List Nat} {s : State} (h : Kept A a s) : Kept A a
    (s.putWords b l) := by
  induction l generalizing b s with
  | nil => exact h
  | cons w l ih => exact ih (kept_put _ _ h)

theorem kept_writeReport {A : Area → Prop} {a : State} {result : Nat} {kind : Nat} {length : Nat} {id : Nat} {digest :
    List Byte} {l : List RepEntry} {refused : Bool} {s : State} (h : Kept A a s) : Kept A a (@State.writeReport result
    kind length id digest l refused s) := by
  unfold State.writeReport
  repeat' (first
    | with_reducible assumption
    | with_reducible apply kept_put
    | with_reducible apply kept_ite
    | with_reducible refine kept_when ?_ (fun _ _ => ?_)
    | with_reducible apply kept_clearRange
    | with_reducible apply kept_putWords
    | with_reducible apply kept_raise)

end Sys2Proof.Machine
end

