-- ==== Sys2Proof/Laws/KeptFabric.lean ====
section
/-! SUPPORT. What the operations of Machine/Fabric.lean keep. -/

namespace Sys2Proof.Machine

theorem kept_arrive {A : Area → Prop} {a : State} {n : Nat} {t : Nat} {s : State} (h : Kept A a s) : Kept A a
    (@State.arrive n t s) := by
  unfold State.arrive
  repeat' (first
    | with_reducible assumption
    | with_reducible apply kept_ite
    | with_reducible apply kept_addWrap)

theorem kept_clampLimits {A : Area → Prop} {a : State} {s : State} (h : Kept A a s) : Kept A a (@State.clampLimits s)
    := by
  unfold State.clampLimits
  repeat' (first
    | with_reducible assumption
    | with_reducible apply kept_put)

theorem kept_issueCredits {A : Area → Prop} [Fact (A .flow)] {a : State} {n : Nat} {s : State} (h : Kept A a s) : Kept
    A a (@State.issueCredits n s) := by
  unfold State.issueCredits
  repeat' (first
    | with_reducible assumption
    | with_reducible apply kept_ite
    | with_reducible refine kept_when ?_ (fun _ _ => ?_)
    | with_reducible refine kept_each ?_ (fun _ _ _ => ?_)
    | with_reducible refine kept_flowOp _ ?_ (fun _ _ => ?_)
    | with_reducible apply Flow.crdIssue_conserved)

theorem kept_trbBoundary {A : Area → Prop} [Fact (A .flow)] {a : State} {n : Nat} {t : Nat} {s : State} (h : Kept A a
    s) : Kept A a (@State.trbBoundary n t s) := by
  unfold State.trbBoundary
  repeat' (first
    | with_reducible assumption
    | with_reducible apply kept_ite
    | with_reducible apply kept_count
    | with_reducible apply kept_countOccOf
    | with_reducible apply kept_issueCredits)

theorem kept_toEgress {A : Area → Prop} [Fact (A .flow)] {a : State} {n : Nat} {t : Nat} {mine : Token → Bool} {s :
    State} (h : Kept A a s) : Kept A a (@State.toEgress n t mine s) := by
  unfold State.toEgress
  repeat' (first
    | with_reducible assumption
    | with_reducible apply kept_ite
    | with_reducible refine kept_flowOp _ ?_ (fun _ _ => ?_)
    | with_reducible apply kept_trbBoundary
    | with_reducible apply Flow.rxDropOne_conserved
    | with_reducible apply Flow.move_conserved
    | with_reducible refine kept_foldl ?_ (fun _ _ _ => ?_)
    | split)

theorem kept_forgo {A : Area → Prop} [Fact (A .flow)] [Fact (A .ch)] {a : State} {n : Nat} {t : Nat} {r : TorRec} {x :
    LineRx} {s : State} (h : Kept A a s) : Kept A a (@State.forgo n t r x s) := by
  unfold State.forgo
  repeat' (first
    | with_reducible assumption
    | with_reducible apply kept_ite
    | with_reducible refine kept_when ?_ (fun _ _ => ?_)
    | with_reducible apply kept_onRx
    | with_reducible refine kept_times ?_ (fun _ _ => ?_)
    | with_reducible apply kept_toEgress)

theorem kept_demux {A : Area → Prop} [Fact (A .flow)] [Fact (A .ch)] {a : State} {n : Nat} {t : Nat} {s : State} (h :
    Kept A a s) : Kept A a (@State.demux n t s) := by
  unfold State.demux
  repeat' (first
    | with_reducible assumption
    | with_reducible apply kept_ite
    | with_reducible apply kept_count
    | with_reducible apply kept_countFor
    | with_reducible refine kept_flowOp _ ?_ (fun _ _ => ?_)
    | with_reducible apply kept_forgo
    | with_reducible apply kept_onRx
    | with_reducible apply kept_rxFate
    | with_reducible apply Flow.rxEnter_conserved
    | with_reducible apply Flow.rxReject_conserved
    | with_reducible refine kept_foldl ?_ (fun _ _ _ => ?_)
    | split
    | dsimp only)

theorem kept_emergency {A : Area → Prop} {a : State} {s : State} (h : Kept A a s) : Kept A a (@State.emergency s) := by
  unfold State.emergency
  repeat' (first
    | with_reducible assumption
    | with_reducible apply kept_put
    | with_reducible apply kept_ite
    | with_reducible apply kept_count
    | with_reducible apply kept_requestV)

theorem kept_enterTrib {A : Area → Prop} [Fact (A .flow)] {a : State} {n : Nat} {t : Nat} {s : State} (h : Kept A a s)
    : Kept A a (@State.enterTrib n t s) := by
  unfold State.enterTrib
  repeat' (first
    | with_reducible assumption
    | with_reducible apply kept_ite
    | with_reducible apply kept_arrive
    | with_reducible refine kept_flowOp _ ?_ (fun _ _ => ?_)
    | with_reducible apply kept_trbBoundary
    | with_reducible apply Flow.txDropOne_conserved
    | with_reducible apply Flow.move_conserved
    | with_reducible apply Flow.crdUse_conserved
    | with_reducible refine kept_foldl ?_ (fun _ _ _ => ?_)
    | split
    | dsimp only)

theorem kept_fromSec {A : Area → Prop} [Fact (A .flow)] {a : State} {n : Nat} {t : Nat} {s : State} (h : Kept A a s) :
    Kept A a (@State.fromSec n t s) := by
  unfold State.fromSec
  repeat' (first
    | with_reducible assumption
    | with_reducible apply kept_ite
    | with_reducible refine kept_when ?_ (fun _ _ => ?_)
    | with_reducible refine kept_flowOp _ ?_ (fun _ _ => ?_)
    | with_reducible apply kept_toEgress
    | with_reducible apply Flow.rxDropOne_conserved
    | with_reducible refine kept_foldl ?_ (fun _ _ _ => ?_)
    | split)

theorem kept_govMode {A : Area → Prop} {a : State} {m : Nat} {s : State} (h : Kept A a s) : Kept A a (@State.govMode m
    s) := by
  unfold State.govMode
  repeat' (first
    | with_reducible assumption
    | with_reducible apply kept_put
    | with_reducible apply kept_ite
    | with_reducible refine kept_when ?_ (fun _ _ => ?_)
    | with_reducible apply kept_requestV)

theorem kept_inputChanged {A : Area → Prop} [Fact (A .flow)] [Fact (A .ch)] [Fact (A .votes)] [Fact (A .sets)] [Fact
    (A .applied)] [Fact (A .calWait)] {a : State} {n : Nat} {s : State} (h : Kept A a s) : Kept A a
    (@State.inputChanged n s) := by
  unfold State.inputChanged
  repeat' (first
    | with_reducible assumption
    | with_reducible apply kept_put
    | with_reducible apply kept_ite
    | with_reducible refine kept_flowOp _ ?_ (fun _ _ => ?_)
    | with_reducible apply kept_loseFrame
    | with_reducible apply kept_onChan
    | with_reducible apply Flow.cwDropAll_conserved)

theorem kept_mapToken {A : Area → Prop} [Fact (A .flow)] {a : State} {n : Nat} {t : Nat} {s : State} (h : Kept A a s)
    : Kept A a (@State.mapToken n t s) := by
  unfold State.mapToken
  repeat' (first
    | with_reducible assumption
    | with_reducible apply kept_ite
    | with_reducible apply kept_countFor
    | with_reducible refine kept_flowOp _ ?_ (fun _ _ => ?_)
    | with_reducible apply kept_putS
    | with_reducible apply Flow.move_conserved)

theorem kept_mapperEmpty {A : Area → Prop} [Fact (A .ch)] {a : State} {n : Nat} {t : Nat} {s : State} (h : Kept A a s)
    : Kept A a (@State.mapperEmpty n t s) := by
  unfold State.mapperEmpty
  repeat' (first
    | with_reducible assumption
    | with_reducible apply kept_ite
    | with_reducible refine kept_when ?_ (fun _ _ => ?_)
    | with_reducible apply kept_bump
    | with_reducible apply kept_carryBytes
    | with_reducible apply kept_countFor
    | with_reducible apply kept_putS)

theorem kept_uncredited {A : Area → Prop} [Fact (A .flow)] {a : State} {n : Nat} {c : Nat} {data : BitVec 512} {s :
    State} (h : Kept A a s) : Kept A a (@State.uncredited n c data s) := by
  unfold State.uncredited
  repeat' (first
    | with_reducible assumption
    | with_reducible apply kept_ite
    | with_reducible apply kept_arrive
    | with_reducible refine kept_flowOp _ ?_ (fun _ _ => ?_)
    | with_reducible apply Flow.txEnter_conserved
    | with_reducible apply Flow.txReject_conserved
    | with_reducible refine kept_foldl ?_ (fun _ _ _ => ?_)
    | split)

theorem kept_offerToken {A : Area → Prop} [Fact (A .flow)] {a : State} {n : Nat} {c : Nat} {full : Bool} {data :
    BitVec 512} {s : State} (h : Kept A a s) : Kept A a (@State.offerToken n c full data s) := by
  unfold State.offerToken
  repeat' (first
    | with_reducible assumption
    | with_reducible apply kept_ite
    | with_reducible refine kept_flowOp _ ?_ (fun _ _ => ?_)
    | with_reducible apply kept_trbBoundary
    | with_reducible apply kept_uncredited
    | with_reducible apply Flow.txEnter_conserved
    | with_reducible apply Flow.txReject_conserved
    | with_reducible refine kept_foldl ?_ (fun _ _ _ => ?_)
    | split)

theorem kept_offerStream {A : Area → Prop} [Fact (A .free)] [Fact (A .flow)] {a : State} {n : Nat} {c : Nat} {full :
    Bool} {data : BitVec 512} {s : State} (h : Kept A a s) : Kept A a (@State.offerStream n c full data s) := by
  unfold State.offerStream
  repeat' (first
    | with_reducible assumption
    | with_reducible apply kept_ite
    | with_reducible apply kept_draw
    | with_reducible apply kept_offerToken)

theorem kept_slackOf {A : Area → Prop} {a : State} {n : Nat} {v : Nat} {s : State} (h : Kept A a s) : Kept A a
    (@State.slackOf n v s) := by
  unfold State.slackOf
  repeat' (first
    | with_reducible assumption
    | with_reducible apply kept_put)

theorem kept_snapLatch {A : Area → Prop} [Fact (A .snaps)] {a : State} {n : Nat} {s : State} (h : Kept A a s) : Kept A
    a (@State.snapLatch n s) := by
  unfold State.snapLatch
  repeat' (first
    | with_reducible assumption
    | with_reducible exact Or.inl Fact.out
    | with_reducible exact Or.inr rfl
    | with_reducible apply kept_put
    | with_reducible apply kept_ite
    | with_reducible apply kept_mk)

theorem kept_snapRequest {A : Area → Prop} {a : State} {n : Nat} {s : State} (h : Kept A a s) : Kept A a
    (@State.snapRequest n s) := by
  unfold State.snapRequest
  repeat' (first
    | with_reducible assumption
    | with_reducible apply kept_ite
    | with_reducible apply kept_putBit)

theorem kept_snapWrite {A : Area → Prop} {a : State} {n : Nat} {l : List (Nat × Nat)} {s : State} (h : Kept A a s) :
    Kept A a (@State.snapWrite n l s) := by
  unfold State.snapWrite
  repeat' (first
    | with_reducible assumption
    | with_reducible apply kept_put
    | with_reducible apply kept_ite
    | with_reducible refine kept_each ?_ (fun _ _ _ => ?_)
    | with_reducible apply kept_addWrap
    | with_reducible apply kept_count
    | with_reducible apply kept_put64
    | with_reducible apply kept_putBit
    | with_reducible apply kept_raise)

theorem kept_toLfr {A : Area → Prop} [Fact (A .flow)] [Fact (A .ch)] {a : State} {n : Nat} {t : Nat} {s : State} (h :
    Kept A a s) : Kept A a (@State.toLfr n t s) := by
  unfold State.toLfr
  repeat' (first
    | with_reducible assumption
    | with_reducible apply kept_ite
    | with_reducible refine kept_when ?_ (fun _ _ => ?_)
    | with_reducible apply kept_carryBytes
    | with_reducible apply kept_carryLost
    | with_reducible apply kept_count
    | with_reducible refine kept_flowOp _ ?_ (fun _ _ => ?_)
    | with_reducible apply Flow.txLeave_conserved
    | with_reducible apply Flow.txDropOne_conserved
    | with_reducible refine kept_foldl ?_ (fun _ _ _ => ?_)
    | split
    | dsimp only)

theorem kept_toSec {A : Area → Prop} [Fact (A .flow)] {a : State} {n : Nat} {t : Nat} {s : State} (h : Kept A a s) :
    Kept A a (@State.toSec n t s) := by
  unfold State.toSec
  repeat' (first
    | with_reducible assumption
    | with_reducible apply kept_ite
    | with_reducible apply kept_count
    | with_reducible refine kept_flowOp _ ?_ (fun _ _ => ?_)
    | with_reducible apply kept_issueCredits
    | with_reducible apply kept_mapToken
    | with_reducible apply Flow.txDropOne_conserved
    | with_reducible refine kept_foldl ?_ (fun _ _ _ => ?_)
    | split
    | dsimp only)

theorem kept_transfer {A : Area → Prop} [Fact (A .free)] [Fact (A .flow)] [Fact (A .ch)] [Fact (A .out)] {a : State}
    {n : Nat} {m : TokenMove} {s : State} (h : Kept A a s) : Kept A a (@State.transfer n m s) := by
  unfold State.transfer
  repeat' (first
    | with_reducible assumption
    | with_reducible apply kept_ite
    | with_reducible refine kept_when ?_ (fun _ _ => ?_)
    | with_reducible apply kept_count
    | with_reducible apply kept_demux
    | with_reducible apply kept_enterTrib
    | with_reducible apply kept_flag
    | with_reducible apply kept_fromSec
    | with_reducible apply kept_mapperEmpty
    | with_reducible apply kept_offerStream
    | with_reducible apply kept_onRx
    | with_reducible apply kept_toFec
    | with_reducible apply kept_toLds
    | with_reducible apply kept_toLfr
    | with_reducible apply kept_toSec
    | with_reducible refine kept_foldl ?_ (fun _ _ _ => ?_)
    | split)

theorem kept_unlatch {A : Area → Prop} [Fact (A .snaps)] {a : State} {k : Nat} {s : State} (h : Kept A a s) : Kept A a
    (@State.unlatch k s) := by
  unfold State.unlatch
  repeat' (first
    | with_reducible assumption
    | with_reducible exact Or.inl Fact.out
    | with_reducible exact Or.inr rfl
    | with_reducible apply kept_ite
    | with_reducible apply kept_mk)

theorem kept_execGovernorEmergencyRaise {A : Area → Prop} {a : State} {s : State} (h : Kept A a s) : Answer.kept A a
    (@execGovernorEmergencyRaise s) := by
  unfold execGovernorEmergencyRaise
  repeat' (first
    | with_reducible assumption
    | with_reducible apply kept_next
    | with_reducible apply kept_answer_ite
    | with_reducible apply kept_ite
    | with_reducible refine kept_when ?_ (fun _ _ => ?_)
    | with_reducible apply kept_emergency)

theorem kept_execGovernorEvaluation {A : Area → Prop} {a : State} {s : State} (h : Kept A a s) : Answer.kept A a
    (@execGovernorEvaluation s) := by
  unfold execGovernorEvaluation
  repeat' (first
    | with_reducible assumption
    | with_reducible apply kept_next
    | with_reducible apply kept_answer_ite
    | with_reducible apply kept_ite
    | with_reducible refine kept_when ?_ (fun _ _ => ?_)
    | with_reducible apply kept_emergency
    | with_reducible apply kept_requestV
    | with_reducible refine kept_foldl ?_ (fun _ _ _ => ?_)
    | split)

theorem kept_snapHook {A : Area → Prop} : (@snapHook).kept A := by
  unfold snapHook
  repeat' (first
    | with_reducible exact kept_hook_plain
    | with_reducible apply kept_hook_ite
    | with_reducible apply kept_hookAt
    | with_reducible apply hooks_cons
    | with_reducible exact hooks_nil
    | (refine fun _ _ _ h => ?_; dsimp only)
    | with_reducible assumption
    | with_reducible apply kept_hook_ite
    | with_reducible exact kept_hook_plain
    | with_reducible apply kept_ite
    | with_reducible refine kept_each ?_ (fun _ _ _ => ?_)
    | with_reducible apply kept_snapRequest)

theorem kept_execLedgerSnapshotRequest {A : Area → Prop} [Fact (A .ch)] {a : State} {win : Fin 7} {value : Word} {be :
    Fin 16} {s : State} (h : Kept A a s) : Answer.kept A a (@execLedgerSnapshotRequest win value be s) := by
  unfold execLedgerSnapshotRequest
  repeat' (first
    | with_reducible assumption
    | with_reducible apply kept_next
    | with_reducible apply kept_answer_ite
    | with_reducible apply kept_ite
    | with_reducible apply kept_hostWrite
    | with_reducible apply kept_snapHook)

theorem kept_pertHook {A : Area → Prop} [Fact (A .flow)] [Fact (A .ch)] [Fact (A .votes)] [Fact (A .sets)] [Fact (A
    .applied)] [Fact (A .calWait)] {value : Nat} {s0 : State} : (@pertHook value s0).kept A := by
  unfold pertHook
  repeat' (first
    | with_reducible exact kept_hook_plain
    | with_reducible apply kept_hook_ite
    | with_reducible apply kept_hookAt
    | with_reducible apply hooks_cons
    | with_reducible exact hooks_nil
    | (refine fun _ _ _ h => ?_; dsimp only)
    | with_reducible assumption
    | with_reducible apply kept_hook_ite
    | with_reducible exact kept_hook_plain
    | with_reducible apply kept_ite
    | with_reducible refine kept_when ?_ (fun _ _ => ?_)
    | with_reducible refine kept_each ?_ (fun _ _ _ => ?_)
    | with_reducible apply kept_breach
    | with_reducible apply kept_clear
    | with_reducible apply kept_inputChanged)

theorem kept_execPerturbationControlWrite {A : Area → Prop} [Fact (A .flow)] [Fact (A .ch)] [Fact (A .votes)] [Fact (A
    .sets)] [Fact (A .applied)] [Fact (A .calWait)] {a : State} {win : Fin 7} {value : Word} {be : Fin 16} {s : State}
    (h : Kept A a s) : Answer.kept A a (@execPerturbationControlWrite win value be s) := by
  unfold execPerturbationControlWrite
  repeat' (first
    | with_reducible assumption
    | with_reducible apply kept_next
    | with_reducible apply kept_answer_ite
    | with_reducible apply kept_ite
    | with_reducible apply kept_hostWrite
    | with_reducible apply kept_pertHook)

theorem kept_execRegulatorRequestResult {A : Area → Prop} {a : State} {ok : Bool} {s : State} (h : Kept A a s) :
    Answer.kept A a (@execRegulatorRequestResult ok s) := by
  unfold execRegulatorRequestResult
  repeat' (first
    | with_reducible assumption
    | with_reducible apply kept_next
    | with_reducible apply kept_answer_ite
    | with_reducible apply kept_put
    | with_reducible apply kept_ite
    | with_reducible refine kept_when ?_ (fun _ _ => ?_)
    | with_reducible apply kept_count
    | with_reducible apply kept_raise)

theorem kept_execRegulatorRetry {A : Area → Prop} {a : State} {s : State} (h : Kept A a s) : Answer.kept A a
    (@execRegulatorRetry s) := by
  unfold execRegulatorRetry
  repeat' (first
    | with_reducible assumption
    | with_reducible apply kept_next
    | with_reducible apply kept_answer_ite
    | with_reducible apply kept_put
    | with_reducible apply kept_ite
    | with_reducible refine kept_when ?_ (fun _ _ => ?_)
    | with_reducible apply kept_count)

theorem kept_execSlackFloorTimeout {A : Area → Prop} {a : State} {s : State} (h : Kept A a s) : Answer.kept A a
    (@execSlackFloorTimeout s) := by
  unfold execSlackFloorTimeout
  repeat' (first
    | with_reducible assumption
    | with_reducible apply kept_next
    | with_reducible apply kept_answer_ite
    | with_reducible apply kept_put
    | with_reducible apply kept_ite
    | with_reducible refine kept_when ?_ (fun _ _ => ?_)
    | with_reducible apply kept_raise)

theorem kept_execSlackMeasurement {A : Area → Prop} {a : State} {s0 : Nat} {s1 : Nat} {s2 : Nat} {s3 : Nat} {s :
    State} (h : Kept A a s) : Answer.kept A a (@execSlackMeasurement s0 s1 s2 s3 s) := by
  unfold execSlackMeasurement
  repeat' (first
    | with_reducible assumption
    | with_reducible apply kept_next
    | with_reducible apply kept_answer_ite
    | with_reducible apply kept_put
    | with_reducible apply kept_ite
    | with_reducible refine kept_when ?_ (fun _ _ => ?_)
    | with_reducible apply kept_slackOf)

theorem kept_execSnapshotHoldComplete {A : Area → Prop} [Fact (A .snaps)] {a : State} {n : Fin 4} {s : State} (h :
    Kept A a s) : Answer.kept A a (@execSnapshotHoldComplete n s) := by
  unfold execSnapshotHoldComplete
  repeat' (first
    | with_reducible assumption
    | with_reducible apply kept_next
    | with_reducible apply kept_answer_ite
    | with_reducible apply kept_ite
    | with_reducible refine kept_when ?_ (fun _ _ => ?_)
    | with_reducible apply kept_snapLatch)

theorem kept_execSnapshotHoldTimeout {A : Area → Prop} {a : State} {n : Fin 4} {s : State} (h : Kept A a s) :
    Answer.kept A a (@execSnapshotHoldTimeout n s) := by
  unfold execSnapshotHoldTimeout
  repeat' (first
    | with_reducible assumption
    | with_reducible apply kept_next
    | with_reducible apply kept_answer_ite
    | with_reducible apply kept_ite
    | with_reducible refine kept_when ?_ (fun _ _ => ?_)
    | with_reducible apply kept_putBit)

theorem kept_execSnapshotRecordWritten {A : Area → Prop} [Fact (A .snaps)] {a : State} {n : Fin 4} {s : State} (h :
    Kept A a s) : Answer.kept A a (@execSnapshotRecordWritten n s) := by
  unfold execSnapshotRecordWritten
  repeat' (first
    | with_reducible assumption
    | with_reducible apply kept_next
    | with_reducible apply kept_answer_ite
    | with_reducible apply kept_ite
    | with_reducible apply kept_snapWrite
    | with_reducible apply kept_unlatch
    | with_reducible refine kept_foldl ?_ (fun _ _ _ => ?_)
    | split)

theorem kept_execTokenTransfer {A : Area → Prop} [Fact (A .free)] [Fact (A .flow)] [Fact (A .ch)] [Fact (A .out)] {a :
    State} {n : Fin 4} {m : TokenMove} {s : State} (h : Kept A a s) : Answer.kept A a (@execTokenTransfer n m s) := by
  unfold execTokenTransfer
  repeat' (first
    | with_reducible assumption
    | with_reducible apply kept_next
    | with_reducible apply kept_answer_ite
    | with_reducible apply kept_ite
    | with_reducible refine kept_when ?_ (fun _ _ => ?_)
    | with_reducible apply kept_transfer)

theorem kept_govHook {A : Area → Prop} : (@govHook).kept A := by
  unfold govHook
  repeat' (first
    | with_reducible exact kept_hook_plain
    | with_reducible apply kept_hook_ite
    | with_reducible apply kept_hookAt
    | with_reducible apply hooks_cons
    | with_reducible exact hooks_nil
    | (refine fun _ _ _ h => ?_; dsimp only)
    | with_reducible assumption
    | with_reducible apply kept_hook_ite
    | with_reducible exact kept_hook_plain
    | with_reducible apply kept_ite
    | with_reducible apply kept_govMode)

theorem kept_limHook {A : Area → Prop} : (@limHook).kept A := by
  unfold limHook
  repeat' (first
    | with_reducible exact kept_hook_plain
    | with_reducible apply kept_hook_ite
    | with_reducible apply kept_hookAt
    | with_reducible apply hooks_cons
    | with_reducible exact hooks_nil
    | (refine fun _ _ _ h => ?_; dsimp only)
    | with_reducible assumption
    | with_reducible apply kept_hook_ite
    | with_reducible exact kept_hook_plain
    | with_reducible apply kept_ite
    | with_reducible apply kept_clampLimits
    | with_reducible apply kept_flag)

end Sys2Proof.Machine
end

