-- ==== Sys2Proof/Laws/KeptDma.lean ====
section
/-! SUPPORT. What the operations of Machine/Dma.lean keep. -/

namespace Sys2Proof.Machine

theorem kept_dmaAbort {A : Area → Prop} {a : State} {s : State} (h : Kept A a s) : Kept A a (@State.dmaAbort s) := by
  unfold State.dmaAbort
  repeat' (first
    | with_reducible assumption
    | with_reducible apply kept_put
    | with_reducible apply kept_ite
    | with_reducible refine kept_each ?_ (fun _ _ _ => ?_))

theorem kept_dmaIssueLoop {A : Area → Prop} {a : State} {k : Nat} {s : State} (h : Kept A a s) : Kept A a
    (s.dmaIssueLoop k) := by
  induction k generalizing s with
  | zero => exact h
  | succ k ih =>
    unfold State.dmaIssueLoop
    split
    · exact h
    · exact ih (kept_count (kept_put _ _ (kept_put _ _ (kept_put _ _ h))))

theorem kept_dmaIssue {A : Area → Prop} {a : State} {s : State} (h : Kept A a s) : Kept A a (@State.dmaIssue s) := by
  unfold State.dmaIssue
  repeat' (first
    | with_reducible assumption
    | with_reducible apply kept_put
    | with_reducible apply kept_ite
    | with_reducible apply kept_dmaIssueLoop)

theorem kept_dmaNeed {A : Area → Prop} {a : State} {c : Nat} {bytes : Nat} {s : State} (h : Kept A a s) : Kept A a
    (@State.dmaNeed c bytes s) := by
  unfold State.dmaNeed
  repeat' (first
    | with_reducible assumption
    | with_reducible apply kept_put
    | with_reducible apply kept_ite
    | with_reducible apply kept_dmaIssue)

theorem kept_dmaGot {A : Area → Prop} {a : State} {c : Nat} {s : State} (h : Kept A a s) : Kept A a (@State.dmaGot c
    s) := by
  unfold State.dmaGot
  repeat' (first
    | with_reducible assumption
    | with_reducible apply kept_ite
    | with_reducible apply kept_dmaNeed)

theorem kept_dmaRead {A : Area → Prop} {a : State} {c : Nat} {s : State} (h : Kept A a s) : Kept A a (@State.dmaRead c
    s) := by
  unfold State.dmaRead
  repeat' (first
    | with_reducible assumption
    | with_reducible apply kept_put
    | with_reducible apply kept_ite
    | with_reducible apply kept_dmaIssue)

end Sys2Proof.Machine
end

