-- ==== Sys2Proof/Laws/KeptSecurity.lean ====
section
/-! SUPPORT. What the operations of Machine/Security.lean keep. -/

namespace Sys2Proof.Machine

theorem kept_bulkFault {A : Area → Prop} {a : State} {cause : Nat} {s : State} (h : Kept A a s) : Kept A a
    (@State.bulkFault cause s) := by
  unfold State.bulkFault
  repeat' (first
    | with_reducible assumption
    | with_reducible apply kept_put
    | with_reducible apply kept_ite
    | with_reducible apply kept_dmaGot
    | with_reducible apply kept_raise)

theorem kept_bulkFetch {A : Area → Prop} {a : State} {s : State} (h : Kept A a s) : Kept A a (@State.bulkFetch s) := by
  unfold State.bulkFetch
  repeat' (first
    | with_reducible assumption
    | with_reducible apply kept_ite
    | with_reducible apply kept_dmaNeed)

theorem kept_bulkGo {A : Area → Prop} {a : State} {s : State} (h : Kept A a s) : Kept A a (@State.bulkGo s) := by
  unfold State.bulkGo
  repeat' (first
    | with_reducible assumption
    | with_reducible apply kept_put
    | with_reducible apply kept_ite
    | with_reducible refine kept_when ?_ (fun _ _ => ?_)
    | with_reducible apply kept_bulkFault
    | with_reducible apply kept_bulkFetch)

theorem kept_openMismatch {A : Area → Prop} [Fact (A .ch)] {a : State} {n : Nat} {t : Nat} {s : State} (h : Kept A a
    s) : Kept A a (@State.openMismatch n t s) := by
  unfold State.openMismatch
  repeat' (first
    | with_reducible assumption
    | with_reducible apply kept_ite
    | with_reducible apply kept_onRx)

theorem kept_pipeLoss {A : Area → Prop} [Fact (A .flow)] [Fact (A .ch)] {a : State} {n : Nat} {k : PipeHeld} {s :
    State} (h : Kept A a s) : Kept A a (@State.pipeLoss n k s) := by
  unfold State.pipeLoss
  repeat' (first
    | with_reducible assumption
    | with_reducible apply kept_ite
    | with_reducible apply kept_bump
    | with_reducible apply kept_carryLost
    | with_reducible refine kept_flowOp _ ?_ (fun _ _ => ?_)
    | with_reducible apply kept_onRx
    | with_reducible apply kept_onTx
    | with_reducible refine kept_times ?_ (fun _ _ => ?_)
    | with_reducible apply Flow.txDropOne_conserved
    | with_reducible apply Flow.rxDropOne_conserved)

theorem kept_recheck {A : Area → Prop} [Fact (A .flow)] [Fact (A .ch)] [Fact (A .votes)] [Fact (A .sets)] [Fact (A
    .applied)] [Fact (A .calWait)] {a : State} {n : Nat} {s : State} (h : Kept A a s) : Kept A a (@State.recheck n s)
    := by
  unfold State.recheck
  repeat' (first
    | with_reducible assumption
    | with_reducible apply kept_put
    | with_reducible apply kept_ite
    | with_reducible refine kept_when ?_ (fun _ _ => ?_)
    | with_reducible refine kept_each ?_ (fun _ _ _ => ?_)
    | with_reducible apply kept_hstRefresh
    | with_reducible apply kept_serviceEval
    | with_reducible apply kept_trbStat
    | with_reducible apply kept_writeReport)

theorem kept_pipeFence {A : Area → Prop} [Fact (A .flow)] [Fact (A .ch)] [Fact (A .votes)] [Fact (A .sets)] [Fact (A
    .applied)] [Fact (A .calWait)] {a : State} {n : Nat} {p : Nat} {held : List PipeHeld} {s : State} (h : Kept A a s)
    : Kept A a (@State.pipeFence n p held s) := by
  unfold State.pipeFence
  repeat' (first
    | with_reducible assumption
    | with_reducible apply kept_put
    | with_reducible apply kept_ite
    | with_reducible refine kept_each ?_ (fun _ _ _ => ?_)
    | with_reducible apply kept_pipeLoss
    | with_reducible apply kept_putBit
    | with_reducible apply kept_raiseCh
    | with_reducible apply kept_recheck
    | with_reducible apply kept_unitChanged)

theorem kept_cipherMismatch {A : Area → Prop} [Fact (A .flow)] [Fact (A .ch)] [Fact (A .votes)] [Fact (A .sets)] [Fact
    (A .applied)] [Fact (A .calWait)] {a : State} {n : Nat} {t : Nat} {p : Nat} {opn : Bool} {held : List PipeHeld} {s
    : State} (h : Kept A a s) : Kept A a (@State.cipherMismatch n t p opn held s) := by
  unfold State.cipherMismatch
  repeat' (first
    | with_reducible assumption
    | with_reducible apply kept_put
    | with_reducible apply kept_ite
    | with_reducible refine kept_when ?_ (fun _ _ => ?_)
    | with_reducible refine kept_each ?_ (fun _ _ _ => ?_)
    | with_reducible apply kept_bump
    | with_reducible apply kept_count
    | with_reducible apply kept_openMismatch
    | with_reducible apply kept_pipeFence
    | with_reducible apply kept_raiseCh
    | with_reducible apply kept_sealMismatch
    | with_reducible apply kept_secCount)

theorem kept_clearData {A : Area → Prop} {a : State} {s : State} (h : Kept A a s) : Kept A a (@State.clearData s) := by
  unfold State.clearData
  repeat' (first
    | with_reducible assumption
    | with_reducible apply kept_ite
    | with_reducible apply kept_clear)

theorem kept_deriveCasting {A : Area → Prop} {a : State} {s : State} (h : Kept A a s) : Kept A a (@State.deriveCasting
    s) := by
  unfold State.deriveCasting
  repeat' (first
    | with_reducible assumption
    | with_reducible apply kept_put
    | with_reducible apply kept_ite
    | with_reducible apply kept_clear)

theorem kept_elementDone {A : Area → Prop} {a : State} {f : State → State} {s : State} (h : Kept A a s) (hf : ∀ t,
    Kept A a t → Kept A a (f t)) : Kept A a (@State.elementDone f s) := by
  unfold State.elementDone
  repeat' (first
    | with_reducible assumption
    | with_reducible refine hf _ ?_
    | with_reducible apply kept_put
    | with_reducible apply kept_ite
    | with_reducible refine kept_when ?_ (fun _ _ => ?_)
    | with_reducible apply kept_addWrap
    | with_reducible apply kept_bulkFetch
    | with_reducible apply kept_dmaGot
    | with_reducible apply kept_raise)

theorem kept_eraseKek {A : Area → Prop} {a : State} {j : Nat} {s : State} (h : Kept A a s) : Kept A a (@State.eraseKek
    j s) := by
  unfold State.eraseKek
  repeat' (first
    | with_reducible assumption
    | with_reducible apply kept_ite
    | with_reducible apply kept_clear)

theorem kept_eraseSlot {A : Area → Prop} {a : State} {g : Nat} {s : State} (h : Kept A a s) : Kept A a
    (@State.eraseSlot g s) := by
  unfold State.eraseSlot
  repeat' (first
    | with_reducible assumption
    | with_reducible apply kept_ite
    | with_reducible apply kept_clear)

theorem kept_flipKey {A : Area → Prop} {a : State} {n : Nat} {t : Nat} {s : State} (h : Kept A a s) : Kept A a
    (@State.flipKey n t s) := by
  unfold State.flipKey
  repeat' (first
    | with_reducible assumption
    | with_reducible apply kept_put
    | with_reducible apply kept_ite
    | with_reducible apply kept_addWrap
    | with_reducible apply kept_clear
    | with_reducible apply kept_secCount)

theorem kept_iterFence {A : Area → Prop} {a : State} {e : Nat} {s : State} (h : Kept A a s) : Kept A a
    (@State.iterFence e s) := by
  unfold State.iterFence
  repeat' (first
    | with_reducible assumption
    | with_reducible apply kept_ite
    | with_reducible apply kept_putBit
    | with_reducible apply kept_raise)

theorem kept_iterMismatch {A : Area → Prop} {a : State} {e : Nat} {s : State} (h : Kept A a s) : Kept A a
    (@State.iterMismatch e s) := by
  unfold State.iterMismatch
  repeat' (first
    | with_reducible assumption
    | with_reducible apply kept_put
    | with_reducible apply kept_ite
    | with_reducible refine kept_when ?_ (fun _ _ => ?_)
    | with_reducible apply kept_bump
    | with_reducible apply kept_count
    | with_reducible apply kept_iterFence)

theorem kept_loadKek {A : Area → Prop} {a : State} {j : Nat} {w : Nat} {key : Nat} {s : State} (h : Kept A a s) : Kept
    A a (@State.loadKek j w key s) := by
  unfold State.loadKek
  repeat' (first
    | with_reducible assumption
    | with_reducible apply kept_put
    | with_reducible apply kept_ite
    | with_reducible apply kept_bump)

theorem kept_loadSlot {A : Area → Prop} {a : State} {g : Nat} {w : Nat} {key : Nat} {s : State} (h : Kept A a s) :
    Kept A a (@State.loadSlot g w key s) := by
  unfold State.loadSlot
  repeat' (first
    | with_reducible assumption
    | with_reducible apply kept_put
    | with_reducible apply kept_ite
    | with_reducible apply kept_bump
    | with_reducible apply kept_clear
    | with_reducible apply kept_secCount)

theorem kept_placePlain {A : Area → Prop} [Fact (A .flow)] [Fact (A .ch)] {a : State} {n : Nat} {t : Nat} {o :
    Opening} {u : Sealed} {s : State} (h : Kept A a s) : Kept A a (@State.placePlain n t o u s) := by
  unfold State.placePlain
  repeat' (first
    | with_reducible assumption
    | with_reducible apply kept_ite
    | with_reducible refine kept_flowOp _ ?_ (fun _ _ => ?_)
    | with_reducible apply kept_onRx
    | with_reducible apply Flow.rewrite_conserved)

theorem kept_unitCounts {A : Area → Prop} {a : State} {n : Nat} {t : Nat} {u : Sealed} {v : UnitVerdict} {s : State}
    (h : Kept A a s) : Kept A a (@State.unitCounts n t u v s) := by
  unfold State.unitCounts
  repeat' (first
    | with_reducible assumption
    | with_reducible apply kept_put
    | with_reducible apply kept_ite
    | with_reducible apply kept_bump
    | with_reducible apply kept_countFor
    | with_reducible apply kept_raiseCh
    | with_reducible apply kept_secCount
    | with_reducible refine kept_foldl ?_ (fun _ _ _ => ?_)
    | split)

theorem kept_unitTokens {A : Area → Prop} [Fact (A .flow)] {a : State} {n : Nat} {t : Nat} {k : Nat} {spoilt : Option
    Bool} {v : UnitVerdict} {s : State} (h : Kept A a s) : Kept A a (@State.unitTokens n t k spoilt v s) := by
  unfold State.unitTokens
  repeat' (first
    | with_reducible assumption
    | with_reducible apply kept_ite
    | with_reducible refine kept_when ?_ (fun _ _ => ?_)
    | with_reducible refine kept_flowOp _ ?_ (fun _ _ => ?_)
    | with_reducible refine kept_times ?_ (fun _ _ => ?_)
    | with_reducible apply kept_toEgress
    | with_reducible apply Flow.rxDropOne_conserved
    | with_reducible refine kept_foldl ?_ (fun _ _ _ => ?_)
    | split)

theorem kept_openUnit {A : Area → Prop} [Fact (A .flow)] [Fact (A .ch)] {a : State} {n : Nat} {t : Nat} {o : Opening}
    {u : Sealed} {s : State} (h : Kept A a s) : Kept A a (@State.openUnit n t o u s) := by
  unfold State.openUnit
  repeat' (first
    | with_reducible assumption
    | with_reducible apply kept_ite
    | with_reducible refine kept_when ?_ (fun _ _ => ?_)
    | with_reducible apply kept_onRx
    | with_reducible apply kept_placePlain
    | with_reducible apply kept_unitCounts
    | with_reducible apply kept_unitTokens)

theorem kept_passUnit {A : Area → Prop} [Fact (A .flow)] [Fact (A .ch)] {a : State} {n : Nat} {t : Nat} {o : Opening}
    {u : Sealed} {s : State} (h : Kept A a s) : Kept A a (@State.passUnit n t o u s) := by
  unfold State.passUnit
  repeat' (first
    | with_reducible assumption
    | with_reducible apply kept_ite
    | with_reducible apply kept_onRx
    | with_reducible refine kept_times ?_ (fun _ _ => ?_)
    | with_reducible apply kept_toEgress)

theorem kept_rootRefused {A : Area → Prop} {a : State} {op : Nat} {s : State} (h : Kept A a s) : Kept A a
    (@State.rootRefused op s) := by
  unfold State.rootRefused
  repeat' (first
    | with_reducible assumption
    | with_reducible apply kept_put
    | with_reducible apply kept_ite
    | with_reducible refine kept_when ?_ (fun _ _ => ?_)
    | with_reducible apply kept_clearData)

theorem kept_provision {A : Area → Prop} {a : State} {s : State} (h : Kept A a s) : Kept A a (@State.provision s) := by
  unfold State.provision
  repeat' (first
    | with_reducible assumption
    | with_reducible apply kept_put
    | with_reducible apply kept_ite
    | with_reducible apply kept_clearData
    | with_reducible apply kept_deriveCasting
    | with_reducible apply kept_plinthRecord
    | with_reducible apply kept_refuse
    | with_reducible apply kept_rootRefused)

theorem kept_restoreSlot {A : Area → Prop} {a : State} {g : Nat} {valid : Bool} {seqv : Bool} {key : Nat} {seals :
    Nat} {seq : Nat} {s : State} (h : Kept A a s) : Kept A a (@State.restoreSlot g valid seqv key seals seq s) := by
  unfold State.restoreSlot
  repeat' (first
    | with_reducible assumption
    | with_reducible apply kept_put
    | with_reducible apply kept_ite
    | with_reducible apply kept_flag)

theorem kept_retainedErase {A : Area → Prop} {a : State} {n : Nat} {s : State} (h : Kept A a s) : Kept A a
    (@State.retainedErase n s) := by
  unfold State.retainedErase
  repeat' (first
    | with_reducible assumption
    | with_reducible apply kept_ite
    | with_reducible refine kept_when ?_ (fun _ _ => ?_)
    | with_reducible refine kept_each ?_ (fun _ _ _ => ?_)
    | with_reducible apply kept_eraseSlot)

theorem kept_rollErrs {A : Area → Prop} {a : State} {n : Nat} {base : Nat} {cause : Nat} {l : List Nat} {s : State} (h
    : Kept A a s) : Kept A a (@State.rollErrs n base cause l s) := by
  unfold State.rollErrs
  repeat' (first
    | with_reducible assumption
    | with_reducible apply kept_put
    | with_reducible apply kept_ite
    | with_reducible refine kept_when ?_ (fun _ _ => ?_)
    | with_reducible refine kept_each ?_ (fun _ _ _ => ?_))

theorem kept_rollAck {A : Area → Prop} [Fact (A .votes)] {a : State} {n : Nat} {m : Nat} {base : Nat} {map : Nat} {s :
    State} (h : Kept A a s) : Kept A a (@State.rollAck n m base map s) := by
  unfold State.rollAck
  repeat' (first
    | with_reducible assumption
    | with_reducible apply kept_put
    | with_reducible apply kept_ite
    | with_reducible refine kept_when ?_ (fun _ _ => ?_)
    | with_reducible apply kept_request
    | with_reducible apply kept_rollErrs)

theorem kept_rollAnswer {A : Area → Prop} [Fact (A .ch)] [Fact (A .votes)] {a : State} {n : Nat} {m : Nat} {base :
    Nat} {map : Nat} {mB : Nat} {s : State} (h : Kept A a s) : Kept A a (@State.rollAnswer n m base map mB s) := by
  unfold State.rollAnswer
  repeat' (first
    | with_reducible assumption
    | with_reducible apply kept_put
    | with_reducible apply kept_ite
    | with_reducible apply kept_queue
    | with_reducible apply kept_request
    | with_reducible apply kept_rollErrs)

theorem kept_rollArmRefused {A : Area → Prop} [Fact (A .ch)] [Fact (A .votes)] {a : State} {n : Nat} {s : State} (h :
    Kept A a s) : Kept A a (@State.rollArmRefused n s) := by
  unfold State.rollArmRefused
  repeat' (first
    | with_reducible assumption
    | with_reducible apply kept_ite
    | with_reducible refine kept_when ?_ (fun _ _ => ?_)
    | with_reducible apply kept_queue
    | with_reducible apply kept_rollFail)

theorem kept_rollArmed {A : Area → Prop} [Fact (A .ch)] {a : State} {n : Nat} {s : State} (h : Kept A a s) : Kept A a
    (@State.rollArmed n s) := by
  unfold State.rollArmed
  repeat' (first
    | with_reducible assumption
    | with_reducible apply kept_put
    | with_reducible apply kept_ite
    | with_reducible refine kept_when ?_ (fun _ _ => ?_)
    | with_reducible apply kept_queue)

theorem kept_rollCheck {A : Area → Prop} [Fact (A .votes)] {a : State} {n : Nat} {s : State} (h : Kept A a s) : Kept A
    a (@State.rollCheck n s) := by
  unfold State.rollCheck
  repeat' (first
    | with_reducible assumption
    | with_reducible apply kept_put
    | with_reducible apply kept_ite
    | with_reducible apply kept_rollErrs
    | with_reducible apply kept_rollFail)

theorem kept_rollFlip {A : Area → Prop} {a : State} {n : Nat} {s : State} (h : Kept A a s) : Kept A a (@State.rollFlip
    n s) := by
  unfold State.rollFlip
  repeat' (first
    | with_reducible assumption
    | with_reducible apply kept_put
    | with_reducible apply kept_ite
    | with_reducible refine kept_each ?_ (fun _ _ _ => ?_)
    | with_reducible apply kept_flipKey
    | with_reducible apply kept_raiseCh)

theorem kept_rollGo {A : Area → Prop} [Fact (A .ch)] [Fact (A .votes)] {a : State} {n : Nat} {s : State} (h : Kept A a
    s) : Kept A a (@State.rollGo n s) := by
  unfold State.rollGo
  repeat' (first
    | with_reducible assumption
    | with_reducible apply kept_put
    | with_reducible apply kept_ite
    | with_reducible apply kept_queue
    | with_reducible apply kept_raiseCh
    | with_reducible apply kept_rollErrs
    | with_reducible apply kept_rollFail)

theorem kept_rootVoteRefused {A : Area → Prop} {a : State} {s : State} (h : Kept A a s) : Kept A a
    (@State.rootVoteRefused s) := by
  unfold State.rootVoteRefused
  repeat' (first
    | with_reducible assumption
    | with_reducible apply kept_ite
    | with_reducible refine kept_when ?_ (fun _ _ => ?_)
    | with_reducible apply kept_refuse
    | with_reducible apply kept_rootRefused)

theorem kept_bulkHook {A : Area → Prop} : (@bulkHook).kept A := by
  unfold bulkHook
  repeat' (first
    | with_reducible exact kept_hook_plain
    | with_reducible apply kept_hook_ite
    | with_reducible apply kept_hookAt
    | with_reducible apply hooks_cons
    | with_reducible exact hooks_nil
    | (refine fun _ _ _ h => ?_; dsimp only)
    | with_reducible assumption
    | with_reducible apply kept_hook_ite
    | with_reducible exact kept_hook_plain
    | with_reducible apply kept_put
    | with_reducible apply kept_ite
    | with_reducible refine kept_when ?_ (fun _ _ => ?_)
    | with_reducible apply kept_bulkFault
    | with_reducible apply kept_bulkFetch
    | with_reducible apply kept_bulkGo
    | with_reducible apply kept_dmaGot)

theorem kept_execCipherMismatch {A : Area → Prop} [Fact (A .flow)] [Fact (A .ch)] [Fact (A .votes)] [Fact (A .sets)]
    [Fact (A .applied)] [Fact (A .calWait)] {a : State} {n : Fin 4} {t : Fin 1024} {p : Fin 16} {opn : Bool} {held :
    List PipeHeld} {s : State} (h : Kept A a s) : Answer.kept A a (@execCipherMismatch n t p opn held s) := by
  unfold execCipherMismatch
  repeat' (first
    | with_reducible assumption
    | with_reducible apply kept_next
    | with_reducible apply kept_answer_ite
    | with_reducible apply kept_ite
    | with_reducible refine kept_when ?_ (fun _ _ => ?_)
    | with_reducible apply kept_cipherMismatch)

theorem kept_execEntropyReseed {A : Area → Prop} {a : State} {ok : Bool} {s : State} (h : Kept A a s) : Answer.kept A
    a (@execEntropyReseed ok s) := by
  unfold execEntropyReseed
  repeat' (first
    | with_reducible assumption
    | with_reducible apply kept_next
    | with_reducible apply kept_answer_ite
    | with_reducible apply kept_put
    | with_reducible apply kept_ite
    | with_reducible refine kept_when ?_ (fun _ _ => ?_)
    | with_reducible apply kept_count
    | with_reducible apply kept_raise)

theorem kept_iterHook' {A : Area → Prop} {value : Nat} {working : Bool} : (@iterHook' value working).kept A := by
  unfold iterHook'
  repeat' (first
    | with_reducible exact kept_hook_plain
    | with_reducible apply kept_hook_ite
    | with_reducible apply kept_hookAt
    | with_reducible apply hooks_cons
    | with_reducible exact hooks_nil
    | (refine fun _ _ _ h => ?_; dsimp only)
    | with_reducible assumption
    | with_reducible apply kept_hook_ite
    | with_reducible exact kept_hook_plain
    | with_reducible apply kept_ite
    | with_reducible refine kept_when ?_ (fun _ _ => ?_)
    | with_reducible apply kept_bulkFault
    | with_reducible apply kept_iterFence)

theorem kept_execIteratedEngineForce {A : Area → Prop} [Fact (A .ch)] {a : State} {win : Fin 7} {value : Word} {be :
    Fin 16} {working : Bool} {s : State} (h : Kept A a s) : Answer.kept A a (@execIteratedEngineForce win value be
    working s) := by
  unfold execIteratedEngineForce
  repeat' (first
    | with_reducible assumption
    | with_reducible apply kept_next
    | with_reducible apply kept_answer_ite
    | with_reducible apply kept_ite
    | with_reducible apply kept_hostWrite
    | with_reducible apply kept_iterHook')

theorem kept_execKeyBulkAbort {A : Area → Prop} [Fact (A .ch)] {a : State} {win : Fin 7} {value : Word} {be : Fin 16}
    {s : State} (h : Kept A a s) : Answer.kept A a (@execKeyBulkAbort win value be s) := by
  unfold execKeyBulkAbort
  repeat' (first
    | with_reducible assumption
    | with_reducible apply kept_next
    | with_reducible apply kept_answer_ite
    | with_reducible apply kept_ite
    | with_reducible apply kept_hostWrite
    | with_reducible apply kept_bulkHook)

theorem kept_execKeyBulkLoad {A : Area → Prop} [Fact (A .ch)] {a : State} {win : Fin 7} {value : Word} {be : Fin 16}
    {s : State} (h : Kept A a s) : Answer.kept A a (@execKeyBulkLoad win value be s) := by
  unfold execKeyBulkLoad
  repeat' (first
    | with_reducible assumption
    | with_reducible apply kept_next
    | with_reducible apply kept_answer_ite
    | with_reducible apply kept_ite
    | with_reducible apply kept_hostWrite
    | with_reducible apply kept_bulkHook)

theorem kept_execKeyBulkRestore {A : Area → Prop} [Fact (A .ch)] {a : State} {win : Fin 7} {value : Word} {be : Fin
    16} {s : State} (h : Kept A a s) : Answer.kept A a (@execKeyBulkRestore win value be s) := by
  unfold execKeyBulkRestore
  repeat' (first
    | with_reducible assumption
    | with_reducible apply kept_next
    | with_reducible apply kept_answer_ite
    | with_reducible apply kept_ite
    | with_reducible apply kept_hostWrite
    | with_reducible apply kept_bulkHook)

theorem kept_execKeyBulkResume {A : Area → Prop} [Fact (A .ch)] {a : State} {win : Fin 7} {value : Word} {be : Fin 16}
    {s : State} (h : Kept A a s) : Answer.kept A a (@execKeyBulkResume win value be s) := by
  unfold execKeyBulkResume
  repeat' (first
    | with_reducible assumption
    | with_reducible apply kept_next
    | with_reducible apply kept_answer_ite
    | with_reducible apply kept_ite
    | with_reducible apply kept_hostWrite
    | with_reducible apply kept_bulkHook)

theorem kept_execKeyBulkSave {A : Area → Prop} [Fact (A .ch)] {a : State} {win : Fin 7} {value : Word} {be : Fin 16}
    {s : State} (h : Kept A a s) : Answer.kept A a (@execKeyBulkSave win value be s) := by
  unfold execKeyBulkSave
  repeat' (first
    | with_reducible assumption
    | with_reducible apply kept_next
    | with_reducible apply kept_answer_ite
    | with_reducible apply kept_ite
    | with_reducible apply kept_hostWrite
    | with_reducible apply kept_bulkHook)

/-- What an element of a bulk operation does keeps it. -/
def Element.kept (A : Area → Prop) (e : Element) : Prop := ∀ f, e = .inr f → ∀ a t, Kept A a t → Kept A a (f t)

theorem kept_element_ite {A : Area → Prop} {x y : Element} {c : Prop} [Decidable c] (h : x.kept A) (k : y.kept A) :
    Element.kept A (if c then x else y) := by
  split <;> assumption

theorem kept_element_inl {A : Area → Prop} (n : Nat) : Element.kept A (.inl n) := by intro f h; cases h

theorem kept_element_inr {A : Area → Prop} {f : State → State} (h : ∀ a t, Kept A a t → Kept A a (f t)) : Element.kept
    A (.inr f) := by
  intro g hg; cases hg; exact h

theorem kept_loadUnwrapped {A : Area → Prop} {kek : Bool} {j w : Nat} {o : Option Nat} : (loadUnwrapped kek j w
    o).kept A := by
  cases o with
  | none => exact kept_element_inl _
  | some key => exact kept_element_inr fun _ _ h => kept_count (kept_ite (kept_loadKek h) (kept_loadSlot h))

theorem kept_loadElement {A : Area → Prop} {s : State} {l : List Byte} : (s.loadElement l).kept A := by
  unfold State.loadElement
  refine kept_element_ite (kept_element_inl _) (kept_element_ite (kept_element_inl _) ?_)
  split
  · exact kept_element_inl _
  · exact kept_loadUnwrapped

theorem kept_saveElement {A : Area → Prop} [Fact (A .out)] {s : State} {l : List Byte} : (s.saveElement l).kept A := by
  unfold State.saveElement
  refine kept_element_ite (kept_element_inl _) ?_
  split
  · exact kept_element_inl _
  · exact kept_element_inr fun _ _ h => kept_count (kept_emit _ h)

theorem kept_restoreUnwrapped {A : Area → Prop} {n t a b : Nat} {o : Option Nat} : (restoreUnwrapped n t a b o).kept A
    := by
  cases o with
  | none => exact kept_element_inl _
  | some c => exact kept_element_ite (kept_element_inl _) (kept_element_inr fun _ _ h =>
      kept_count (kept_put _ _ (kept_put _ _ (kept_restoreSlot (kept_restoreSlot h)))))

theorem kept_restoreElement {A : Area → Prop} {s : State} {l : List Byte} : (s.restoreElement l).kept A := by
  unfold State.restoreElement
  refine kept_element_ite (kept_element_inl _) (kept_element_ite (kept_element_inl _) (kept_element_ite (kept_element_inl _)
    (kept_element_ite (kept_element_inl _) ?_)))
  split
  · exact kept_element_inl _
  · exact kept_restoreUnwrapped

theorem kept_element {A : Area → Prop} [Fact (A .out)] {s : State} {l : Option (List Byte)} : (s.element l).kept A := by
  unfold State.element
  refine kept_element_ite (kept_element_inl _) (kept_element_ite (kept_element_inl _) (kept_element_ite (kept_element_inl _) ?_))
  split
  · exact kept_element_inl _
  · exact kept_element_ite kept_loadElement (kept_element_ite kept_saveElement kept_restoreElement)

theorem kept_execKeyElementComplete {A : Area → Prop} [Fact (A .out)] {a : State} {e : Fin 4} {fetched : Option (List
    Byte)} {mismatch : Bool}
    {s : State} (h : Kept A a s) : Answer.kept A a (execKeyElementComplete e fetched mismatch s) := by
  unfold execKeyElementComplete
  refine kept_next (kept_when h fun t k => ?_)
  split
  · exact kept_when (kept_bulkFault k) fun _ j => kept_count (kept_bump j)
  · rename_i f hf
    exact kept_ite (kept_bulkFault (kept_iterMismatch k)) (kept_elementDone k fun _ j => kept_element _ hf _ _ j)

theorem kept_slotHook {A : Area → Prop} {value : Nat} : (@slotHook value).kept A := by
  unfold slotHook
  repeat' (first
    | with_reducible exact kept_hook_plain
    | with_reducible apply kept_hook_ite
    | with_reducible apply kept_hookAt
    | with_reducible apply hooks_cons
    | with_reducible exact hooks_nil
    | (refine fun _ _ _ h => ?_; dsimp only)
    | with_reducible assumption
    | with_reducible apply kept_hook_ite
    | with_reducible exact kept_hook_plain
    | with_reducible apply kept_put
    | with_reducible apply kept_ite
    | with_reducible refine kept_when ?_ (fun _ _ => ?_)
    | with_reducible apply kept_eraseKek
    | with_reducible apply kept_eraseSlot)

theorem kept_execKeySlotErase {A : Area → Prop} [Fact (A .ch)] {a : State} {win : Fin 7} {value : Word} {be : Fin 16}
    {s : State} (h : Kept A a s) : Answer.kept A a (@execKeySlotErase win value be s) := by
  unfold execKeySlotErase
  repeat' (first
    | with_reducible assumption
    | with_reducible apply kept_next
    | with_reducible apply kept_answer_ite
    | with_reducible apply kept_ite
    | with_reducible apply kept_hostWrite
    | with_reducible apply kept_slotHook)

theorem kept_pipeHook {A : Area → Prop} [Fact (A .flow)] [Fact (A .ch)] [Fact (A .votes)] [Fact (A .sets)] [Fact (A
    .applied)] [Fact (A .calWait)] {n : Nat} {value : Nat} {held : List PipeHeld} : (@pipeHook n value held).kept A :=
    by
  unfold pipeHook
  repeat' (first
    | with_reducible exact kept_hook_plain
    | with_reducible apply kept_hook_ite
    | with_reducible apply kept_hookAt
    | with_reducible apply hooks_cons
    | with_reducible exact hooks_nil
    | (refine fun _ _ _ h => ?_; dsimp only)
    | with_reducible assumption
    | with_reducible apply kept_hook_ite
    | with_reducible exact kept_hook_plain
    | with_reducible apply kept_ite
    | with_reducible refine kept_when ?_ (fun _ _ => ?_)
    | with_reducible apply kept_pipeFence)

theorem kept_execPipelineForce {A : Area → Prop} [Fact (A .flow)] [Fact (A .ch)] [Fact (A .votes)] [Fact (A .sets)]
    [Fact (A .applied)] [Fact (A .calWait)] {a : State} {win : Fin 7} {n : Fin 4} {value : Word} {be : Fin 16} {held :
    List PipeHeld} {s : State} (h : Kept A a s) : Answer.kept A a (@execPipelineForce win n value be held s) := by
  unfold execPipelineForce
  repeat' (first
    | with_reducible assumption
    | with_reducible apply kept_next
    | with_reducible apply kept_answer_ite
    | with_reducible apply kept_ite
    | with_reducible apply kept_hostWrite
    | with_reducible apply kept_pipeHook)

theorem kept_execPipelineHoldFault {A : Area → Prop} [Fact (A .flow)] [Fact (A .ch)] [Fact (A .votes)] [Fact (A
    .sets)] [Fact (A .applied)] [Fact (A .calWait)] {a : State} {n : Fin 4} {p : Fin 16} {held : List PipeHeld} {s :
    State} (h : Kept A a s) : Answer.kept A a (@execPipelineHoldFault n p held s) := by
  unfold execPipelineHoldFault
  repeat' (first
    | with_reducible assumption
    | with_reducible apply kept_next
    | with_reducible apply kept_answer_ite
    | with_reducible apply kept_ite
    | with_reducible refine kept_when ?_ (fun _ _ => ?_)
    | with_reducible apply kept_pipeFence)

theorem kept_execRolloverAckDeadline {A : Area → Prop} [Fact (A .votes)] {a : State} {n : Fin 4} {s : State} (h : Kept
    A a s) : Answer.kept A a (@execRolloverAckDeadline n s) := by
  unfold execRolloverAckDeadline
  repeat' (first
    | with_reducible assumption
    | with_reducible apply kept_next
    | with_reducible apply kept_answer_ite
    | with_reducible apply kept_ite
    | with_reducible refine kept_when ?_ (fun _ _ => ?_)
    | with_reducible apply kept_rollFail)

theorem kept_execRolloverAckReceived {A : Area → Prop} [Fact (A .votes)] {a : State} {n : Fin 4} {seq : Fin 256} {rep
    : Fin 4} {m : BitVec 32} {base : Fin 1024} {map : BitVec 64} {s : State} (h : Kept A a s) : Answer.kept A a
    (@execRolloverAckReceived n seq rep m base map s) := by
  unfold execRolloverAckReceived
  repeat' (first
    | with_reducible assumption
    | with_reducible apply kept_next
    | with_reducible apply kept_answer_ite
    | with_reducible apply kept_ite
    | with_reducible refine kept_byFirmware ?_ (fun _ _ => ?_)
    | with_reducible refine kept_receive ?_ (fun _ _ => ?_)
    | with_reducible apply kept_rollAck)

theorem kept_execRolloverAnnounceReceived {A : Area → Prop} [Fact (A .ch)] [Fact (A .votes)] {a : State} {n : Fin 4}
    {seq : Fin 256} {rep : Fin 4} {m : BitVec 32} {base : Fin 1024} {map : BitVec 64} {s : State} (h : Kept A a s) :
    Answer.kept A a (@execRolloverAnnounceReceived n seq rep m base map s) := by
  unfold execRolloverAnnounceReceived
  repeat' (first
    | with_reducible assumption
    | with_reducible apply kept_next
    | with_reducible apply kept_answer_ite
    | with_reducible apply kept_ite
    | with_reducible refine kept_when ?_ (fun _ _ => ?_)
    | with_reducible refine kept_byFirmware ?_ (fun _ _ => ?_)
    | with_reducible refine kept_receive ?_ (fun _ _ => ?_)
    | with_reducible apply kept_rollAnswer
    | with_reducible apply kept_rollFail)

theorem kept_rollHook {A : Area → Prop} [Fact (A .ch)] [Fact (A .votes)] {n : Nat} : (@rollHook n).kept A := by
  unfold rollHook
  repeat' (first
    | with_reducible exact kept_hook_plain
    | with_reducible apply kept_hook_ite
    | with_reducible apply kept_hookAt
    | with_reducible apply hooks_cons
    | with_reducible exact hooks_nil
    | (refine fun _ _ _ h => ?_; dsimp only)
    | with_reducible assumption
    | with_reducible apply kept_hook_ite
    | with_reducible exact kept_hook_plain
    | with_reducible apply kept_ite
    | with_reducible refine kept_when ?_ (fun _ _ => ?_)
    | with_reducible apply kept_rollGo)

theorem kept_execRolloverGo {A : Area → Prop} [Fact (A .ch)] [Fact (A .votes)] {a : State} {win : Fin 7} {n : Fin 4}
    {value : Word} {be : Fin 16} {s : State} (h : Kept A a s) : Answer.kept A a (@execRolloverGo win n value be s) := by
  unfold execRolloverGo
  repeat' (first
    | with_reducible assumption
    | with_reducible apply kept_next
    | with_reducible apply kept_answer_ite
    | with_reducible apply kept_ite
    | with_reducible apply kept_hostWrite
    | with_reducible apply kept_rollHook)

theorem kept_rootHook {A : Area → Prop} [Fact (A .votes)] {win : Nat} {value : Nat} : (@rootHook win value).kept A := by
  unfold rootHook
  repeat' (first
    | with_reducible exact kept_hook_plain
    | with_reducible apply kept_hook_ite
    | with_reducible apply kept_hookAt
    | with_reducible apply hooks_cons
    | with_reducible exact hooks_nil
    | (refine fun _ _ _ h => ?_; dsimp only)
    | with_reducible assumption
    | with_reducible apply kept_hook_ite
    | with_reducible exact kept_hook_plain
    | with_reducible apply kept_put
    | with_reducible apply kept_ite
    | with_reducible apply kept_request
    | with_reducible apply kept_rootRefused
    | with_reducible refine kept_foldl ?_ (fun _ _ _ => ?_)
    | split)

theorem kept_execRootEraseArm {A : Area → Prop} [Fact (A .ch)] [Fact (A .votes)] {a : State} {win : Fin 7} {value :
    Word} {be : Fin 16} {s : State} (h : Kept A a s) : Answer.kept A a (@execRootEraseArm win value be s) := by
  unfold execRootEraseArm
  repeat' (first
    | with_reducible assumption
    | with_reducible apply kept_next
    | with_reducible apply kept_answer_ite
    | with_reducible apply kept_ite
    | with_reducible apply kept_hostWrite
    | with_reducible apply kept_rootHook)

theorem kept_execRootEraseArmExpiry {A : Area → Prop} {a : State} {s : State} (h : Kept A a s) : Answer.kept A a
    (@execRootEraseArmExpiry s) := by
  unfold execRootEraseArmExpiry
  repeat' (first
    | with_reducible assumption
    | with_reducible apply kept_next
    | with_reducible apply kept_answer_ite
    | with_reducible apply kept_put
    | with_reducible apply kept_ite
    | with_reducible refine kept_when ?_ (fun _ _ => ?_))

theorem kept_execRootEraseConfirm {A : Area → Prop} [Fact (A .ch)] [Fact (A .votes)] {a : State} {win : Fin 7} {value
    : Word} {be : Fin 16} {s : State} (h : Kept A a s) : Answer.kept A a (@execRootEraseConfirm win value be s) := by
  unfold execRootEraseConfirm
  repeat' (first
    | with_reducible assumption
    | with_reducible apply kept_next
    | with_reducible apply kept_answer_ite
    | with_reducible apply kept_ite
    | with_reducible apply kept_hostWrite
    | with_reducible apply kept_rootHook)

theorem kept_execRootProvision {A : Area → Prop} [Fact (A .ch)] [Fact (A .votes)] {a : State} {win : Fin 7} {value :
    Word} {be : Fin 16} {s : State} (h : Kept A a s) : Answer.kept A a (@execRootProvision win value be s) := by
  unfold execRootProvision
  repeat' (first
    | with_reducible assumption
    | with_reducible apply kept_next
    | with_reducible apply kept_answer_ite
    | with_reducible apply kept_ite
    | with_reducible apply kept_hostWrite
    | with_reducible apply kept_rootHook)

theorem kept_execSealedUnitReceived {A : Area → Prop} [Fact (A .flow)] [Fact (A .ch)] {a : State} {n : Fin 4} {t : Fin
    1024} {s : State} (h : Kept A a s) : Answer.kept A a (@execSealedUnitReceived n t s) := by
  unfold execSealedUnitReceived
  repeat' (first
    | with_reducible assumption
    | with_reducible apply kept_next
    | with_reducible apply kept_answer_ite
    | with_reducible apply kept_ite
    | with_reducible refine kept_when ?_ (fun _ _ => ?_)
    | with_reducible apply kept_openUnit
    | with_reducible apply kept_passUnit
    | with_reducible refine kept_foldl ?_ (fun _ _ _ => ?_)
    | split)

theorem kept_rootDataHook {A : Area → Prop} {w : Nat} {value : Nat} : (@rootDataHook w value).kept A := by
  unfold rootDataHook
  repeat' (first
    | with_reducible exact kept_hook_plain
    | with_reducible apply kept_hook_ite
    | with_reducible apply kept_hookAt
    | with_reducible apply hooks_cons
    | with_reducible exact hooks_nil
    | (refine fun _ _ _ h => ?_; dsimp only)
    | with_reducible assumption
    | with_reducible apply kept_hook_ite
    | with_reducible exact kept_hook_plain
    | with_reducible apply kept_put
    | with_reducible apply kept_ite
    | with_reducible refine kept_when ?_ (fun _ _ => ?_))

end Sys2Proof.Machine
end

