-- ==== Sys2Proof/Laws/KeptHostPorts.lean ====
section
/-! SUPPORT. What the operations of Machine/HostPorts.lean keep. -/

namespace Sys2Proof.Machine

theorem kept_calKeep {A : Area → Prop} {a : State} {n : Nat} {g : Nat} {i : Nat} {s0 : State} {s : State} (h : Kept A
    a s) : Kept A a (@State.calKeep n g i s0 s) := by
  unfold State.calKeep
  repeat' (first
    | with_reducible assumption
    | with_reducible apply kept_put
    | with_reducible apply kept_ite
    | with_reducible refine kept_when ?_ (fun _ _ => ?_)
    | with_reducible refine kept_each ?_ (fun _ _ _ => ?_))

theorem kept_calSwitched {A : Area → Prop} [Fact (A .flow)] [Fact (A .ch)] {a : State} {n : Nat} {g : Nat} {s : State}
    (h : Kept A a s) : Kept A a (@State.calSwitched n g s) := by
  unfold State.calSwitched
  repeat' (first
    | with_reducible assumption
    | with_reducible apply kept_put
    | with_reducible apply kept_ite
    | with_reducible apply kept_hstRefresh
    | with_reducible apply kept_raiseCh)

theorem kept_egressDrain {A : Area → Prop} [Fact (A .ch)] [Fact (A .out)] {a : State} {n : Nat} {c : Nat} {sent : Nat}
    {ins : Nat} {del : Nat} {s : State} (h : Kept A a s) : Kept A a (@State.egressDrain n c sent ins del s) := by
  unfold State.egressDrain
  repeat' (first
    | with_reducible assumption
    | with_reducible apply kept_ite
    | with_reducible refine kept_when ?_ (fun _ _ => ?_)
    | with_reducible apply kept_countFor
    | with_reducible apply kept_takeFifo)

theorem kept_laneRefresh {A : Area → Prop} [Fact (A .flow)] [Fact (A .ch)] {a : State} {n : Nat} {s : State} (h : Kept
    A a s) : Kept A a (@State.laneRefresh n s) := by
  unfold State.laneRefresh
  repeat' (first
    | with_reducible assumption
    | with_reducible apply kept_ite
    | with_reducible apply kept_hstRefresh
    | with_reducible apply kept_rxUp)

theorem kept_fenceLane {A : Area → Prop} [Fact (A .flow)] [Fact (A .ch)] [Fact (A .votes)] [Fact (A .sets)] [Fact (A
    .applied)] [Fact (A .calWait)] {a : State} {n : Nat} {l : Nat} {cause : Nat} {s : State} (h : Kept A a s) : Kept A
    a (@State.fenceLane n l cause s) := by
  unfold State.fenceLane
  repeat' (first
    | with_reducible assumption
    | with_reducible apply kept_put
    | with_reducible apply kept_ite
    | with_reducible apply kept_laneRefresh
    | with_reducible apply kept_putBit
    | with_reducible apply kept_raiseCh
    | with_reducible apply kept_unitChanged)

theorem kept_hostPllFault {A : Area → Prop} [Fact (A .flow)] [Fact (A .ch)] [Fact (A .votes)] [Fact (A .sets)] [Fact
    (A .applied)] [Fact (A .calWait)] {a : State} {n : Nat} {s : State} (h : Kept A a s) : Kept A a
    (@State.hostPllFault n s) := by
  unfold State.hostPllFault
  repeat' (first
    | with_reducible assumption
    | with_reducible apply kept_put
    | with_reducible apply kept_ite
    | with_reducible refine kept_each ?_ (fun _ _ _ => ?_)
    | with_reducible apply kept_fenceLane)

theorem kept_lolDeclare {A : Area → Prop} {a : State} {n : Nat} {l : Nat} {s : State} (h : Kept A a s) : Kept A a
    (@State.lolDeclare n l s) := by
  unfold State.lolDeclare
  repeat' (first
    | with_reducible assumption
    | with_reducible apply kept_put
    | with_reducible apply kept_ite
    | with_reducible apply kept_bump
    | with_reducible apply kept_raiseCh)

theorem kept_unalign {A : Area → Prop} [Fact (A .flow)] [Fact (A .ch)] {a : State} {n : Nat} {p : Nat} {s : State} (h
    : Kept A a s) : Kept A a (@State.unalign n p s) := by
  unfold State.unalign
  repeat' (first
    | with_reducible assumption
    | with_reducible apply kept_put
    | with_reducible apply kept_ite
    | with_reducible refine kept_each ?_ (fun _ _ _ => ?_)
    | with_reducible apply kept_laneRefresh)

theorem kept_calendarHook {A : Area → Prop} [Fact (A .flow)] [Fact (A .ch)] {n : Nat} {g : Nat} {i : Nat} {value :
    Nat} {s0 : State} : (@calendarHook n g i value s0).kept A := by
  unfold calendarHook
  repeat' (first
    | with_reducible exact kept_hook_plain
    | with_reducible apply kept_hook_ite
    | with_reducible apply kept_hookAt
    | with_reducible apply hooks_cons
    | with_reducible exact hooks_nil
    | (refine fun _ _ _ h => ?_; dsimp only)
    | with_reducible assumption
    | with_reducible apply kept_hook_ite
    | with_reducible exact kept_hook_plain
    | with_reducible apply kept_ite
    | with_reducible apply kept_calKeep
    | with_reducible apply kept_hstRates
    | with_reducible apply kept_hstRefresh)

theorem kept_clientHook {A : Area → Prop} [Fact (A .flow)] [Fact (A .ch)] {n : Nat} {c : Nat} {s0 : State} :
    (@clientHook n c s0).kept A := by
  unfold clientHook
  repeat' (first
    | with_reducible exact kept_hook_plain
    | with_reducible apply kept_hook_ite
    | with_reducible apply kept_hookAt
    | with_reducible apply hooks_cons
    | with_reducible exact hooks_nil
    | (refine fun _ _ _ h => ?_; dsimp only)
    | with_reducible assumption
    | with_reducible apply kept_hook_ite
    | with_reducible exact kept_hook_plain
    | with_reducible apply kept_put
    | with_reducible apply kept_ite
    | with_reducible refine kept_when ?_ (fun _ _ => ?_)
    | with_reducible apply kept_clientRefresh
    | with_reducible apply kept_hstRates
    | with_reducible apply kept_hstRefresh)

theorem kept_execCalendarEntryWrite {A : Area → Prop} [Fact (A .flow)] [Fact (A .ch)] {a : State} {win : Fin 7} {n :
    Fin 4} {g : Fin 8} {i : Fin 640} {value : Word} {be : Fin 16} {s : State} (h : Kept A a s) : Answer.kept A a
    (@execCalendarEntryWrite win n g i value be s) := by
  unfold execCalendarEntryWrite
  repeat' (first
    | with_reducible assumption
    | with_reducible apply kept_next
    | with_reducible apply kept_answer_ite
    | with_reducible apply kept_ite
    | with_reducible apply kept_hostWrite
    | with_reducible apply kept_calendarHook)

theorem kept_execClientReplaceEnd {A : Area → Prop} [Fact (A .flow)] [Fact (A .ch)] {a : State} {n : Fin 4} {c : Fin
    256} {s : State} (h : Kept A a s) : Answer.kept A a (@execClientReplaceEnd n c s) := by
  unfold execClientReplaceEnd
  repeat' (first
    | with_reducible assumption
    | with_reducible apply kept_next
    | with_reducible apply kept_answer_ite
    | with_reducible apply kept_put
    | with_reducible apply kept_ite
    | with_reducible refine kept_when ?_ (fun _ _ => ?_)
    | with_reducible apply kept_clientRefresh)

theorem kept_execEgressFifoEmptyInPacket {A : Area → Prop} [Fact (A .ch)] [Fact (A .out)] {a : State} {n : Fin 4} {c :
    Fin 256} {s : State} (h : Kept A a s) : Answer.kept A a (@execEgressFifoEmptyInPacket n c s) := by
  unfold execEgressFifoEmptyInPacket
  repeat' (first
    | with_reducible assumption
    | with_reducible apply kept_next
    | with_reducible apply kept_answer_ite
    | with_reducible apply kept_put
    | with_reducible apply kept_ite
    | with_reducible refine kept_when ?_ (fun _ _ => ?_)
    | with_reducible apply kept_bump
    | with_reducible apply kept_takeFifo)

theorem kept_execEgressFifoEmptyTimeout {A : Area → Prop} [Fact (A .ch)] [Fact (A .out)] {a : State} {n : Fin 4} {c :
    Fin 256} {s : State} (h : Kept A a s) : Answer.kept A a (@execEgressFifoEmptyTimeout n c s) := by
  unfold execEgressFifoEmptyTimeout
  repeat' (first
    | with_reducible assumption
    | with_reducible apply kept_next
    | with_reducible apply kept_answer_ite
    | with_reducible apply kept_put
    | with_reducible apply kept_ite
    | with_reducible refine kept_when ?_ (fun _ _ => ?_)
    | with_reducible apply kept_takeFifo)

theorem kept_execEgressTokenArrival {A : Area → Prop} [Fact (A .flow)] [Fact (A .ch)] [Fact (A .out)] {a : State} {n :
    Fin 4} {t : Fin 1024} {sent : Nat} {ins : Nat} {del : Nat} {ppm : Int} {s : State} (h : Kept A a s) : Answer.kept
    A a (@execEgressTokenArrival n t sent ins del ppm s) := by
  unfold execEgressTokenArrival
  repeat' (first
    | with_reducible assumption
    | with_reducible apply kept_next
    | with_reducible apply kept_answer_ite
    | with_reducible apply kept_put
    | with_reducible apply kept_ite
    | with_reducible refine kept_when ?_ (fun _ _ => ?_)
    | with_reducible apply kept_bump
    | with_reducible apply kept_count
    | with_reducible apply kept_countOccOf
    | with_reducible apply kept_egressDrain
    | with_reducible refine kept_flowOp _ ?_ (fun _ _ => ?_)
    | with_reducible apply kept_onChan
    | with_reducible apply kept_putS
    | with_reducible apply Flow.rxLeave_conserved
    | with_reducible apply Flow.rxDropOne_conserved
    | with_reducible refine kept_foldl ?_ (fun _ _ _ => ?_)
    | split)

theorem kept_execFlexeCalendarAck {A : Area → Prop} {a : State} {n : Fin 4} {g : Fin 8} {s : State} (h : Kept A a s) :
    Answer.kept A a (@execFlexeCalendarAck n g s) := by
  unfold execFlexeCalendarAck
  repeat' (first
    | with_reducible assumption
    | with_reducible apply kept_next
    | with_reducible apply kept_answer_ite
    | with_reducible apply kept_put
    | with_reducible apply kept_ite
    | with_reducible refine kept_when ?_ (fun _ _ => ?_))

theorem kept_execFlexeCalendarSwitch {A : Area → Prop} [Fact (A .flow)] [Fact (A .ch)] {a : State} {n : Fin 4} {g :
    Fin 8} {s : State} (h : Kept A a s) : Answer.kept A a (@execFlexeCalendarSwitch n g s) := by
  unfold execFlexeCalendarSwitch
  repeat' (first
    | with_reducible assumption
    | with_reducible apply kept_next
    | with_reducible apply kept_answer_ite
    | with_reducible apply kept_put
    | with_reducible apply kept_ite
    | with_reducible refine kept_when ?_ (fun _ _ => ?_)
    | with_reducible apply kept_calSwitched)

theorem kept_switchHook {A : Area → Prop} [Fact (A .out)] {n : Nat} {value : Nat} : (@switchHook n value).kept A := by
  unfold switchHook
  repeat' (first
    | with_reducible exact kept_hook_plain
    | with_reducible apply kept_hook_ite
    | with_reducible apply kept_hookAt
    | with_reducible apply hooks_cons
    | with_reducible exact hooks_nil
    | (refine fun _ _ _ h => ?_; dsimp only)
    | with_reducible assumption
    | with_reducible apply kept_hook_ite
    | with_reducible exact kept_hook_plain
    | with_reducible apply kept_put
    | with_reducible apply kept_ite
    | with_reducible refine kept_when ?_ (fun _ _ => ?_)
    | with_reducible apply kept_emit)

theorem kept_execFlexeCalendarSwitchRequest {A : Area → Prop} [Fact (A .ch)] [Fact (A .out)] {a : State} {win : Fin 7}
    {n : Fin 4} {value : Word} {be : Fin 16} {s : State} (h : Kept A a s) : Answer.kept A a
    (@execFlexeCalendarSwitchRequest win n value be s) := by
  unfold execFlexeCalendarSwitchRequest
  repeat' (first
    | with_reducible assumption
    | with_reducible apply kept_next
    | with_reducible apply kept_answer_ite
    | with_reducible apply kept_ite
    | with_reducible apply kept_hostWrite
    | with_reducible apply kept_switchHook)

theorem kept_execFlexeCalendarTimeout {A : Area → Prop} {a : State} {n : Fin 4} {g : Fin 8} {s : State} (h : Kept A a
    s) : Answer.kept A a (@execFlexeCalendarTimeout n g s) := by
  unfold execFlexeCalendarTimeout
  repeat' (first
    | with_reducible assumption
    | with_reducible apply kept_next
    | with_reducible apply kept_answer_ite
    | with_reducible apply kept_put
    | with_reducible apply kept_ite
    | with_reducible refine kept_when ?_ (fun _ _ => ?_))

theorem kept_execFlexeHostCalendarRequest {A : Area → Prop} [Fact (A .out)] {a : State} {n : Fin 4} {g : Fin 8} {b :
    Fin 2} {s : State} (h : Kept A a s) : Answer.kept A a (@execFlexeHostCalendarRequest n g b s) := by
  unfold execFlexeHostCalendarRequest
  repeat' (first
    | with_reducible assumption
    | with_reducible apply kept_next
    | with_reducible apply kept_answer_ite
    | with_reducible apply kept_put
    | with_reducible apply kept_ite
    | with_reducible refine kept_when ?_ (fun _ _ => ?_)
    | with_reducible apply kept_emit)

theorem kept_execFlexeIngressCalendarSwitch {A : Area → Prop} [Fact (A .flow)] [Fact (A .ch)] {a : State} {n : Fin 4}
    {g : Fin 8} {s : State} (h : Kept A a s) : Answer.kept A a (@execFlexeIngressCalendarSwitch n g s) := by
  unfold execFlexeIngressCalendarSwitch
  repeat' (first
    | with_reducible assumption
    | with_reducible apply kept_next
    | with_reducible apply kept_answer_ite
    | with_reducible apply kept_put
    | with_reducible apply kept_ite
    | with_reducible refine kept_when ?_ (fun _ _ => ?_)
    | with_reducible apply kept_calSwitched)

theorem kept_execFlexeOverheadLock {A : Area → Prop} [Fact (A .flow)] [Fact (A .ch)] {a : State} {n : Fin 4} {l : Fin
    16} {lock : Bool} {phy : Nat} {gnum : Nat} {s : State} (h : Kept A a s) : Answer.kept A a (@execFlexeOverheadLock
    n l lock phy gnum s) := by
  unfold execFlexeOverheadLock
  repeat' (first
    | with_reducible assumption
    | with_reducible apply kept_next
    | with_reducible apply kept_answer_ite
    | with_reducible apply kept_ite
    | with_reducible refine kept_when ?_ (fun _ _ => ?_)
    | with_reducible apply kept_flag
    | with_reducible apply kept_hstRefresh
    | with_reducible apply kept_putBit)

theorem kept_execHostAlignmentLock {A : Area → Prop} [Fact (A .flow)] [Fact (A .ch)] {a : State} {n : Fin 4} {p : Fin
    16} {skew : List Nat} {s : State} (h : Kept A a s) : Answer.kept A a (@execHostAlignmentLock n p skew s) := by
  unfold execHostAlignmentLock
  repeat' (first
    | with_reducible assumption
    | with_reducible apply kept_next
    | with_reducible apply kept_answer_ite
    | with_reducible apply kept_put
    | with_reducible apply kept_ite
    | with_reducible refine kept_when ?_ (fun _ _ => ?_)
    | with_reducible refine kept_each ?_ (fun _ _ _ => ?_)
    | with_reducible apply kept_laneRefresh)

theorem kept_execHostAlignmentLoss {A : Area → Prop} [Fact (A .flow)] [Fact (A .ch)] {a : State} {n : Fin 4} {p : Fin
    16} {s : State} (h : Kept A a s) : Answer.kept A a (@execHostAlignmentLoss n p s) := by
  unfold execHostAlignmentLoss
  repeat' (first
    | with_reducible assumption
    | with_reducible apply kept_next
    | with_reducible apply kept_answer_ite
    | with_reducible apply kept_ite
    | with_reducible refine kept_when ?_ (fun _ _ => ?_)
    | with_reducible apply kept_unalign)

theorem kept_execHostFecCodeword {A : Area → Prop} {a : State} {n : Fin 4} {p : Fin 16} {corrected : Nat} {uncorr :
    Bool} {errs : List (Fin 256 × Nat)} {s : State} (h : Kept A a s) : Answer.kept A a (@execHostFecCodeword n p
    corrected uncorr errs s) := by
  unfold execHostFecCodeword
  repeat' (first
    | with_reducible assumption
    | with_reducible apply kept_next
    | with_reducible apply kept_answer_ite
    | with_reducible apply kept_ite
    | with_reducible refine kept_when ?_ (fun _ _ => ?_)
    | with_reducible refine kept_each ?_ (fun _ _ _ => ?_)
    | with_reducible apply kept_addSat
    | with_reducible apply kept_bump
    | with_reducible apply kept_count
    | with_reducible apply kept_countFor)

theorem kept_execHostLaneLolClear {A : Area → Prop} [Fact (A .flow)] [Fact (A .ch)] {a : State} {n : Fin 4} {l : Fin
    16} {s : State} (h : Kept A a s) : Answer.kept A a (@execHostLaneLolClear n l s) := by
  unfold execHostLaneLolClear
  repeat' (first
    | with_reducible assumption
    | with_reducible apply kept_next
    | with_reducible apply kept_answer_ite
    | with_reducible apply kept_put
    | with_reducible apply kept_ite
    | with_reducible refine kept_when ?_ (fun _ _ => ?_)
    | with_reducible apply kept_laneRefresh)

theorem kept_execHostLaneLolDeclare {A : Area → Prop} [Fact (A .flow)] [Fact (A .ch)] {a : State} {n : Fin 4} {l : Fin
    16} {s : State} (h : Kept A a s) : Answer.kept A a (@execHostLaneLolDeclare n l s) := by
  unfold execHostLaneLolDeclare
  repeat' (first
    | with_reducible assumption
    | with_reducible apply kept_next
    | with_reducible apply kept_answer_ite
    | with_reducible apply kept_ite
    | with_reducible refine kept_when ?_ (fun _ _ => ?_)
    | with_reducible apply kept_laneRefresh
    | with_reducible apply kept_lolDeclare)

theorem kept_execHostLaneLosClear {A : Area → Prop} [Fact (A .flow)] [Fact (A .ch)] {a : State} {n : Fin 4} {l : Fin
    16} {s : State} (h : Kept A a s) : Answer.kept A a (@execHostLaneLosClear n l s) := by
  unfold execHostLaneLosClear
  repeat' (first
    | with_reducible assumption
    | with_reducible apply kept_next
    | with_reducible apply kept_answer_ite
    | with_reducible apply kept_put
    | with_reducible apply kept_ite
    | with_reducible refine kept_when ?_ (fun _ _ => ?_)
    | with_reducible apply kept_laneRefresh)

theorem kept_execHostLaneLosDeclare {A : Area → Prop} [Fact (A .flow)] [Fact (A .ch)] {a : State} {n : Fin 4} {l : Fin
    16} {s : State} (h : Kept A a s) : Answer.kept A a (@execHostLaneLosDeclare n l s) := by
  unfold execHostLaneLosDeclare
  repeat' (first
    | with_reducible assumption
    | with_reducible apply kept_next
    | with_reducible apply kept_answer_ite
    | with_reducible apply kept_put
    | with_reducible apply kept_ite
    | with_reducible refine kept_when ?_ (fun _ _ => ?_)
    | with_reducible apply kept_bump
    | with_reducible apply kept_laneRefresh
    | with_reducible apply kept_lolDeclare
    | with_reducible apply kept_raiseCh)

theorem kept_execHostLaneReceiverFault {A : Area → Prop} [Fact (A .flow)] [Fact (A .ch)] [Fact (A .votes)] [Fact (A
    .sets)] [Fact (A .applied)] [Fact (A .calWait)] {a : State} {n : Fin 4} {l : Fin 16} {s : State} (h : Kept A a s)
    : Answer.kept A a (@execHostLaneReceiverFault n l s) := by
  unfold execHostLaneReceiverFault
  repeat' (first
    | with_reducible assumption
    | with_reducible apply kept_next
    | with_reducible apply kept_answer_ite
    | with_reducible apply kept_ite
    | with_reducible refine kept_when ?_ (fun _ _ => ?_)
    | with_reducible apply kept_fenceLane)

theorem kept_execHostLaneTransmitterFault {A : Area → Prop} [Fact (A .flow)] [Fact (A .ch)] [Fact (A .votes)] [Fact (A
    .sets)] [Fact (A .applied)] [Fact (A .calWait)] {a : State} {n : Fin 4} {l : Fin 16} {s : State} (h : Kept A a s)
    : Answer.kept A a (@execHostLaneTransmitterFault n l s) := by
  unfold execHostLaneTransmitterFault
  repeat' (first
    | with_reducible assumption
    | with_reducible apply kept_next
    | with_reducible apply kept_answer_ite
    | with_reducible apply kept_ite
    | with_reducible refine kept_when ?_ (fun _ _ => ?_)
    | with_reducible apply kept_fenceLane)

theorem kept_execHostPllFault {A : Area → Prop} [Fact (A .flow)] [Fact (A .ch)] [Fact (A .votes)] [Fact (A .sets)]
    [Fact (A .applied)] [Fact (A .calWait)] {a : State} {n : Fin 4} {s : State} (h : Kept A a s) : Answer.kept A a
    (@execHostPllFault n s) := by
  unfold execHostPllFault
  repeat' (first
    | with_reducible assumption
    | with_reducible apply kept_next
    | with_reducible apply kept_answer_ite
    | with_reducible apply kept_ite
    | with_reducible refine kept_when ?_ (fun _ _ => ?_)
    | with_reducible apply kept_hostPllFault)

theorem kept_execHostPllLock {A : Area → Prop} [Fact (A .flow)] [Fact (A .ch)] {a : State} {n : Fin 4} {s : State} (h
    : Kept A a s) : Answer.kept A a (@execHostPllLock n s) := by
  unfold execHostPllLock
  repeat' (first
    | with_reducible assumption
    | with_reducible apply kept_next
    | with_reducible apply kept_answer_ite
    | with_reducible apply kept_put
    | with_reducible apply kept_ite
    | with_reducible refine kept_when ?_ (fun _ _ => ?_)
    | with_reducible apply kept_hstRefresh)

theorem kept_execHostPllLossOfLock {A : Area → Prop} [Fact (A .flow)] [Fact (A .ch)] [Fact (A .votes)] [Fact (A
    .sets)] [Fact (A .applied)] [Fact (A .calWait)] {a : State} {n : Fin 4} {ref : Bool} {s : State} (h : Kept A a s)
    : Answer.kept A a (@execHostPllLossOfLock n ref s) := by
  unfold execHostPllLossOfLock
  repeat' (first
    | with_reducible assumption
    | with_reducible apply kept_next
    | with_reducible apply kept_answer_ite
    | with_reducible apply kept_put
    | with_reducible apply kept_ite
    | with_reducible refine kept_when ?_ (fun _ _ => ?_)
    | with_reducible apply kept_bump
    | with_reducible apply kept_hostPllFault
    | with_reducible apply kept_hstRefresh
    | with_reducible apply kept_raiseCh)

theorem kept_laneForceHook {A : Area → Prop} [Fact (A .flow)] [Fact (A .ch)] [Fact (A .votes)] [Fact (A .sets)] [Fact
    (A .applied)] [Fact (A .calWait)] {n : Nat} {value : Nat} : (@laneForceHook n value).kept A := by
  unfold laneForceHook
  repeat' (first
    | with_reducible exact kept_hook_plain
    | with_reducible apply kept_hook_ite
    | with_reducible apply kept_hookAt
    | with_reducible apply hooks_cons
    | with_reducible exact hooks_nil
    | (refine fun _ _ _ h => ?_; dsimp only)
    | with_reducible assumption
    | with_reducible apply kept_hook_ite
    | with_reducible exact kept_hook_plain
    | with_reducible apply kept_ite
    | with_reducible refine kept_when ?_ (fun _ _ => ?_)
    | with_reducible apply kept_fenceLane)

theorem kept_execLaneForce {A : Area → Prop} [Fact (A .flow)] [Fact (A .ch)] [Fact (A .votes)] [Fact (A .sets)] [Fact
    (A .applied)] [Fact (A .calWait)] {a : State} {win : Fin 7} {n : Fin 4} {value : Word} {be : Fin 16} {s : State}
    (h : Kept A a s) : Answer.kept A a (@execLaneForce win n value be s) := by
  unfold execLaneForce
  repeat' (first
    | with_reducible assumption
    | with_reducible apply kept_next
    | with_reducible apply kept_answer_ite
    | with_reducible apply kept_ite
    | with_reducible apply kept_hostWrite
    | with_reducible apply kept_laneForceHook)

theorem kept_laneHook {A : Area → Prop} [Fact (A .flow)] [Fact (A .ch)] {n : Nat} {l : Nat} {s0 : State} : (@laneHook
    n l s0).kept A := by
  unfold laneHook
  repeat' (first
    | with_reducible exact kept_hook_plain
    | with_reducible apply kept_hook_ite
    | with_reducible apply kept_hookAt
    | with_reducible apply hooks_cons
    | with_reducible exact hooks_nil
    | (refine fun _ _ _ h => ?_; dsimp only)
    | with_reducible assumption
    | with_reducible apply kept_hook_ite
    | with_reducible exact kept_hook_plain
    | with_reducible apply kept_ite
    | with_reducible refine kept_when ?_ (fun _ _ => ?_)
    | with_reducible apply kept_hstRates
    | with_reducible apply kept_laneRefresh
    | with_reducible apply kept_unalign)

theorem kept_txeqHook {A : Area → Prop} {n : Nat} {l : Nat} {value : Nat} : (@txeqHook n l value).kept A := by
  unfold txeqHook
  repeat' (first
    | with_reducible exact kept_hook_plain
    | with_reducible apply kept_hook_ite
    | with_reducible apply kept_hookAt
    | with_reducible apply hooks_cons
    | with_reducible exact hooks_nil
    | (refine fun _ _ _ h => ?_; dsimp only)
    | with_reducible assumption)

end Sys2Proof.Machine
end

