-- ==== Sys2Proof/Laws/KeptIrq.lean ====
section
/-! SUPPORT. What the operations of Machine/Irq.lean keep. -/

namespace Sys2Proof.Machine

theorem kept_sendMsix {A : Area → Prop} [Fact (A .out)] {a : State} {v : Nat} {s : State} (h : Kept A a s) : Kept A a
    (@State.sendMsix v s) := by
  unfold State.sendMsix
  repeat' (first
    | with_reducible assumption
    | with_reducible apply kept_put
    | with_reducible apply kept_ite
    | with_reducible refine kept_when ?_ (fun _ _ => ?_)
    | with_reducible apply kept_emit)

theorem kept_flushMsix {A : Area → Prop} [Fact (A .out)] {a : State} {s : State} (h : Kept A a s) : Kept A a
    (@State.flushMsix s) := by
  unfold State.flushMsix
  repeat' (first
    | with_reducible assumption
    | with_reducible apply kept_put
    | with_reducible apply kept_ite
    | with_reducible refine kept_each ?_ (fun _ _ _ => ?_)
    | with_reducible apply kept_sendMsix)

theorem kept_setStack {A : Area → Prop} {a : State} {t : Nat} {v : Nat} {s : State} (h : Kept A a s) : Kept A a
    (@State.setStack t v s) := by
  unfold State.setStack
  repeat' (first
    | with_reducible assumption
    | with_reducible apply kept_put
    | with_reducible apply kept_ite)

theorem kept_popStack {A : Area → Prop} {a : State} {t : Nat} {s : State} (h : Kept A a s) : Kept A a (@State.popStack
    t s) := by
  unfold State.popStack
  repeat' (first
    | with_reducible assumption
    | with_reducible apply kept_ite
    | with_reducible apply kept_setStack)

theorem kept_execInterruptCommit {A : Area → Prop} [Fact (A .out)] {a : State} {target : Fin 4} {s : State} (h : Kept
    A a s) : Answer.kept A a (@execInterruptCommit target s) := by
  unfold execInterruptCommit
  repeat' (first
    | with_reducible assumption
    | with_reducible apply kept_next
    | with_reducible apply kept_answer_ite
    | with_reducible apply kept_put
    | with_reducible apply kept_ite
    | with_reducible refine kept_when ?_ (fun _ _ => ?_)
    | with_reducible apply kept_bump
    | with_reducible apply kept_sendMsix
    | with_reducible apply kept_setStack)

theorem kept_execInterruptControllerFault {A : Area → Prop} {a : State} {s : State} (h : Kept A a s) : Answer.kept A a
    (@execInterruptControllerFault s) := by
  unfold execInterruptControllerFault
  repeat' (first
    | with_reducible assumption
    | with_reducible apply kept_next
    | with_reducible apply kept_answer_ite
    | with_reducible apply kept_put
    | with_reducible apply kept_ite
    | with_reducible refine kept_when ?_ (fun _ _ => ?_)
    | with_reducible apply kept_clear)

theorem kept_execInterruptSelection {A : Area → Prop} {a : State} {target : Fin 4} {s : State} (h : Kept A a s) :
    Answer.kept A a (@execInterruptSelection target s) := by
  unfold execInterruptSelection
  repeat' (first
    | with_reducible assumption
    | with_reducible apply kept_next
    | with_reducible apply kept_answer_ite
    | with_reducible apply kept_put
    | with_reducible apply kept_ite
    | with_reducible refine kept_when ?_ (fun _ _ => ?_))

theorem kept_execIrqEoi {A : Area → Prop} [Fact (A .ch)] {a : State} {win : Fin 7} {value : Word} {be : Fin 16} {s :
    State} (h : Kept A a s) : Answer.kept A a (@execIrqEoi win value be s) := by
  unfold execIrqEoi
  repeat' (first
    | with_reducible assumption
    | with_reducible apply kept_next
    | with_reducible apply kept_answer_ite
    | with_reducible refine kept_hook_mk (fun _ _ _ _ => ?_)
    | with_reducible apply kept_put
    | with_reducible apply kept_ite
    | with_reducible apply kept_hostWrite
    | with_reducible apply kept_popStack)

theorem kept_irqWordHook {A : Area → Prop} {w : Nat} {value : Nat} {f : Nat → State → State} (hf : ∀ a y0 t, Kept A a
    t → Kept A a (f y0 t)) : (@irqWordHook w value f).kept A := by
  unfold irqWordHook
  repeat' (first
    | with_reducible exact kept_hook_plain
    | with_reducible apply kept_hook_ite
    | with_reducible apply kept_hookAt
    | with_reducible apply hooks_cons
    | with_reducible exact hooks_nil
    | (refine fun _ _ _ h => ?_; dsimp only)
    | with_reducible assumption
    | with_reducible refine hf _ _ _ ?_
    | with_reducible apply kept_hook_ite
    | with_reducible exact kept_hook_plain
    | with_reducible apply kept_ite
    | with_reducible refine kept_each ?_ (fun _ _ _ => ?_))

theorem kept_execIrqMaskClear {A : Area → Prop} [Fact (A .ch)] {a : State} {win : Fin 7} {w : Fin 64} {value : Word}
    {be : Fin 16} {s : State} (h : Kept A a s) : Answer.kept A a (@execIrqMaskClear win w value be s) := by
  unfold execIrqMaskClear
  repeat' (first
    | with_reducible assumption
    | with_reducible apply kept_next
    | with_reducible apply kept_answer_ite
    | with_reducible apply kept_put
    | with_reducible apply kept_ite
    | with_reducible apply kept_hostWrite
    | with_reducible refine kept_irqWordHook (fun _ _ _ _ => ?_))

theorem kept_execIrqMaskSet {A : Area → Prop} [Fact (A .ch)] {a : State} {win : Fin 7} {w : Fin 64} {value : Word} {be
    : Fin 16} {s : State} (h : Kept A a s) : Answer.kept A a (@execIrqMaskSet win w value be s) := by
  unfold execIrqMaskSet
  repeat' (first
    | with_reducible assumption
    | with_reducible apply kept_next
    | with_reducible apply kept_answer_ite
    | with_reducible apply kept_put
    | with_reducible apply kept_ite
    | with_reducible apply kept_hostWrite
    | with_reducible refine kept_irqWordHook (fun _ _ _ _ => ?_))

theorem kept_execIrqPendClear {A : Area → Prop} [Fact (A .ch)] {a : State} {win : Fin 7} {w : Fin 64} {value : Word}
    {be : Fin 16} {s : State} (h : Kept A a s) : Answer.kept A a (@execIrqPendClear win w value be s) := by
  unfold execIrqPendClear
  repeat' (first
    | with_reducible assumption
    | with_reducible apply kept_next
    | with_reducible apply kept_answer_ite
    | with_reducible apply kept_put
    | with_reducible apply kept_ite
    | with_reducible apply kept_hostWrite
    | with_reducible refine kept_irqWordHook (fun _ _ _ _ => ?_))

theorem kept_execIrqPendSet {A : Area → Prop} [Fact (A .ch)] {a : State} {win : Fin 7} {w : Fin 64} {value : Word} {be
    : Fin 16} {s : State} (h : Kept A a s) : Answer.kept A a (@execIrqPendSet win w value be s) := by
  unfold execIrqPendSet
  repeat' (first
    | with_reducible assumption
    | with_reducible apply kept_next
    | with_reducible apply kept_answer_ite
    | with_reducible apply kept_put
    | with_reducible apply kept_ite
    | with_reducible apply kept_bump
    | with_reducible apply kept_hostWrite
    | with_reducible refine kept_irqWordHook (fun _ _ _ _ => ?_))

end Sys2Proof.Machine
end

