-- ==== Sys2Proof/Laws/KeptPmc.lean ====
section
/-! SUPPORT. What the operations of Machine/Pmc.lean keep. -/

namespace Sys2Proof.Machine

theorem kept_pmcLatch {A : Area → Prop} {a : State} {b : Nat} {s : State} (h : Kept A a s) : Kept A a (@State.pmcLatch
    b s) := by
  unfold State.pmcLatch
  repeat' (first
    | with_reducible assumption
    | with_reducible apply kept_put)

theorem kept_pmcSnap {A : Area → Prop} [Fact (A .snaps)] {a : State} {k : Nat} {s : State} (h : Kept A a s) : Kept A a
    (@State.pmcSnap k s) := by
  unfold State.pmcSnap
  repeat' (first
    | with_reducible assumption
    | with_reducible exact Or.inl Fact.out
    | with_reducible exact Or.inr rfl
    | with_reducible apply kept_put
    | with_reducible apply kept_ite
    | with_reducible refine kept_each ?_ (fun _ _ _ => ?_)
    | with_reducible apply kept_putBit
    | with_reducible apply kept_mk)

theorem kept_pmcTrack {A : Area → Prop} [Fact (A .pmcOn)] {a : State} {b : Nat} {c : Nat} {s : State} (h : Kept A a s)
    : Kept A a (@State.pmcTrack b c s) := by
  unfold State.pmcTrack
  repeat' (first
    | with_reducible assumption
    | with_reducible exact Or.inl Fact.out
    | with_reducible exact Or.inr rfl
    | with_reducible apply kept_ite
    | with_reducible apply kept_mk)

theorem kept_pmcCfgHook {A : Area → Prop} [Fact (A .pmcOn)] {b : Nat} {c : Nat} : (@pmcCfgHook b c).kept A := by
  unfold pmcCfgHook
  repeat' (first
    | with_reducible exact kept_hook_plain
    | with_reducible apply kept_hook_ite
    | with_reducible apply kept_hookAt
    | with_reducible apply hooks_cons
    | with_reducible exact hooks_nil
    | (refine fun _ _ _ h => ?_; dsimp only)
    | with_reducible assumption
    | with_reducible apply kept_hook_ite
    | with_reducible exact kept_hook_plain
    | with_reducible apply kept_ite
    | with_reducible apply kept_pmcTrack)

theorem kept_execPmcConfigWrite {A : Area → Prop} [Fact (A .pmcOn)] [Fact (A .ch)] {a : State} {win : Fin 7} {b : Fin
    5} {value : Word} {be : Fin 16} {s : State} (h : Kept A a s) : Answer.kept A a (@execPmcConfigWrite win b value be
    s) := by
  unfold execPmcConfigWrite
  repeat' (first
    | with_reducible assumption
    | with_reducible apply kept_next
    | with_reducible apply kept_answer_ite
    | with_reducible apply kept_ite
    | with_reducible apply kept_hostWrite
    | with_reducible apply kept_pmcCfgHook)

theorem kept_execPmcSnapshotRequest {A : Area → Prop} [Fact (A .ch)] [Fact (A .snaps)] {a : State} {win : Fin 7}
    {value : Word} {be : Fin 16} {s : State} (h : Kept A a s) : Answer.kept A a (@execPmcSnapshotRequest win value be
    s) := by
  unfold execPmcSnapshotRequest
  repeat' (first
    | with_reducible assumption
    | with_reducible apply kept_next
    | with_reducible apply kept_answer_ite
    | with_reducible refine kept_hook_mk (fun _ _ _ _ => ?_)
    | with_reducible apply kept_ite
    | with_reducible refine kept_each ?_ (fun _ _ _ => ?_)
    | with_reducible apply kept_hostWrite
    | with_reducible apply kept_pmcSnap)

theorem kept_execPmcSnapshotWritten {A : Area → Prop} [Fact (A .snaps)] {a : State} {k : Fin 5} {s : State} (h : Kept
    A a s) : Answer.kept A a (@execPmcSnapshotWritten k s) := by
  unfold execPmcSnapshotWritten
  repeat' (first
    | with_reducible assumption
    | with_reducible exact Or.inl Fact.out
    | with_reducible exact Or.inr rfl
    | with_reducible apply kept_next
    | with_reducible apply kept_answer_ite
    | with_reducible apply kept_put
    | with_reducible apply kept_ite
    | with_reducible refine kept_each ?_ (fun _ _ _ => ?_)
    | with_reducible apply kept_put64
    | with_reducible apply kept_putBit
    | with_reducible apply kept_raise
    | with_reducible apply kept_mk)

theorem kept_pmcHiHook {A : Area → Prop} {b : Nat} {c : Nat} : (@pmcHiHook b c).kept A := by
  unfold pmcHiHook
  repeat' (first
    | with_reducible exact kept_hook_plain
    | with_reducible apply kept_hook_ite
    | with_reducible apply kept_hookAt
    | with_reducible apply hooks_cons
    | with_reducible exact hooks_nil
    | (refine fun _ _ _ h => ?_; dsimp only)
    | with_reducible assumption
    | with_reducible apply kept_hook_ite
    | with_reducible exact kept_hook_plain
    | with_reducible apply kept_put
    | with_reducible apply kept_ite
    | with_reducible refine kept_when ?_ (fun _ _ => ?_))

theorem kept_execPmcValueWrite {A : Area → Prop} [Fact (A .ch)] {a : State} {win : Fin 7} {b : Fin 5} {value : Word}
    {be : Fin 16} {s : State} (h : Kept A a s) : Answer.kept A a (@execPmcValueWrite win b value be s) := by
  unfold execPmcValueWrite
  repeat' (first
    | with_reducible assumption
    | with_reducible apply kept_next
    | with_reducible apply kept_answer_ite
    | with_reducible apply kept_ite
    | with_reducible apply kept_hostWrite
    | with_reducible apply kept_pmcHiHook)

theorem kept_pmcLoHook {A : Area → Prop} {b : Nat} {c : Nat} : (@pmcLoHook b c).kept A := by
  unfold pmcLoHook
  repeat' (first
    | with_reducible exact kept_hook_plain
    | with_reducible apply kept_hook_ite
    | with_reducible apply kept_hookAt
    | with_reducible apply hooks_cons
    | with_reducible exact hooks_nil
    | (refine fun _ _ _ h => ?_; dsimp only)
    | with_reducible assumption)

theorem kept_pmcSelHook {A : Area → Prop} {b : Nat} : (@pmcSelHook b).kept A := by
  unfold pmcSelHook
  repeat' (first
    | with_reducible exact kept_hook_plain
    | with_reducible apply kept_hook_ite
    | with_reducible apply kept_hookAt
    | with_reducible apply hooks_cons
    | with_reducible exact hooks_nil
    | (refine fun _ _ _ h => ?_; dsimp only)
    | with_reducible assumption)

end Sys2Proof.Machine
end

