-- ==== Sys2Proof/Laws/KeptHooks.lean ====
section
/-! SUPPORT. What the operations of Machine/Hooks.lean keep. -/

namespace Sys2Proof.Machine

theorem kept_iscCtrlHook {A : Area → Prop} {n : Nat} : (@iscCtrlHook n).kept A := by
  unfold iscCtrlHook
  repeat' (first
    | with_reducible exact kept_hook_plain
    | with_reducible apply kept_hook_ite
    | with_reducible apply kept_hookAt
    | with_reducible apply hooks_cons
    | with_reducible exact hooks_nil
    | (refine fun _ _ _ h => ?_; dsimp only)
    | with_reducible assumption
    | with_reducible apply kept_hook_ite
    | with_reducible exact kept_hook_plain
    | with_reducible apply kept_put
    | with_reducible apply kept_ite
    | with_reducible refine kept_when ?_ (fun _ _ => ?_))

theorem kept_monHook {A : Area → Prop} {b : Nat} {off : Nat} {s0 : State} : (@monHook b off s0).kept A := by
  unfold monHook
  repeat' (first
    | with_reducible exact kept_hook_plain
    | with_reducible apply kept_hook_ite
    | with_reducible apply kept_biasCtrlHook
    | with_reducible apply kept_coefHook
    | with_reducible apply kept_dcbHook
    | with_reducible apply kept_gainHook
    | with_reducible apply kept_monCtrlHook
    | with_reducible apply kept_srcHook
    | with_reducible apply kept_urgentHook)

theorem kept_pmcHook {A : Area → Prop} [Fact (A .pmcOn)] {b : Nat} {off : Nat} {s0 : State} : (@pmcHook b off s0).kept
    A := by
  unfold pmcHook
  repeat' (first
    | with_reducible exact kept_hook_plain
    | with_reducible apply kept_hook_ite
    | with_reducible apply kept_pmcCfgHook
    | with_reducible apply kept_pmcHiHook
    | with_reducible apply kept_pmcLoHook
    | with_reducible apply kept_pmcSelHook
    | with_reducible apply kept_hookAt
    | with_reducible apply hooks_cons
    | with_reducible exact hooks_nil)

theorem kept_chanHook {A : Area → Prop} [Fact (A .flow)] [Fact (A .pmcOn)] [Fact (A .ch)] [Fact (A .votes)] [Fact (A
    .out)] [Fact (A .sets)] [Fact (A .applied)] [Fact (A .calWait)] {n : Nat} {off : Nat} {value : Nat} {s0 : State} :
    (@chanHook n off value s0).kept A := by
  unfold chanHook
  repeat' (first
    | with_reducible exact kept_hook_plain
    | with_reducible apply kept_hook_ite
    | with_reducible apply kept_commitHook
    | with_reducible apply kept_discHook
    | with_reducible apply kept_engineForceHook
    | with_reducible apply kept_freqHook
    | with_reducible apply kept_hostSendHook
    | with_reducible apply kept_iscCtrlHook
    | with_reducible apply kept_iterHook
    | with_reducible apply kept_laneForceHook
    | with_reducible apply kept_laneHook
    | with_reducible apply kept_laserHook
    | with_reducible apply kept_monHook
    | with_reducible apply kept_nlcHook
    | with_reducible apply kept_pmcHook
    | with_reducible apply kept_powerHook
    | with_reducible apply kept_profileHook
    | with_reducible apply kept_resizeHook
    | with_reducible apply kept_sliceForceHook
    | with_reducible apply kept_smpHook
    | with_reducible apply kept_switchHook
    | with_reducible apply kept_testHook
    | with_reducible apply kept_tileForceHook
    | with_reducible apply kept_txeqHook
    | with_reducible apply kept_hookAt
    | with_reducible apply hooks_cons
    | with_reducible exact hooks_nil)

theorem kept_hostTableHook {A : Area → Prop} [Fact (A .flow)] [Fact (A .ch)] {n : Nat} {off : Nat} {value : Nat} {s0 :
    State} : (@hostTableHook n off value s0).kept A := by
  unfold hostTableHook
  repeat' (first
    | with_reducible exact kept_hook_plain
    | with_reducible apply kept_hook_ite
    | with_reducible apply kept_calendarHook
    | with_reducible apply kept_clientHook)

theorem kept_irqHook {A : Area → Prop} {a_ : Nat} {value : Nat} : (@irqHook a_ value).kept A := by
  unfold irqHook
  repeat' (first
    | with_reducible exact kept_hook_plain
    | with_reducible apply kept_hook_ite
    | with_reducible refine kept_irqWordHook (fun _ _ _ _ => ?_)
    | with_reducible apply kept_hookAt
    | with_reducible apply hooks_cons
    | with_reducible exact hooks_nil
    | (refine fun _ _ _ h => ?_; dsimp only)
    | with_reducible assumption
    | with_reducible apply kept_hook_ite
    | with_reducible exact kept_hook_plain
    | with_reducible apply kept_put
    | with_reducible apply kept_ite
    | with_reducible apply kept_bump
    | with_reducible apply kept_popStack)

theorem kept_blockHook {A : Area → Prop} [Fact (A .flow)] [Fact (A .pmcOn)] [Fact (A .ch)] [Fact (A .votes)] [Fact (A
    .out)] [Fact (A .sets)] [Fact (A .applied)] [Fact (A .runSet)] [Fact (A .snaps)] [Fact (A .calWait)] {win : Nat}
    {a_ : Nat} {value : Nat} {s0 : State} : (@blockHook win a_ value s0).kept A := by
  unfold blockHook
  repeat' (first
    | with_reducible exact kept_hook_plain
    | with_reducible apply kept_hook_ite
    | with_reducible apply kept_bulkHook
    | with_reducible apply kept_calHook
    | with_reducible apply kept_chanHook
    | with_reducible apply kept_govHook
    | with_reducible apply kept_hostTableHook
    | with_reducible apply kept_irqHook
    | with_reducible apply kept_iterHook'
    | with_reducible apply kept_limHook
    | with_reducible apply kept_monHook
    | with_reducible apply kept_pertHook
    | with_reducible apply kept_pipeHook
    | with_reducible apply kept_pmcHook
    | with_reducible apply kept_rollHook
    | with_reducible apply kept_rootDataHook
    | with_reducible apply kept_rootHook
    | with_reducible apply kept_slotHook
    | with_reducible apply kept_snapHook
    | with_reducible apply kept_hookAt
    | with_reducible apply hooks_cons
    | with_reducible exact hooks_nil
    | (refine fun _ _ _ h => ?_; dsimp only)
    | with_reducible assumption
    | with_reducible apply kept_hook_ite
    | with_reducible exact kept_hook_plain
    | with_reducible apply kept_ite
    | with_reducible refine kept_each ?_ (fun _ _ _ => ?_)
    | with_reducible apply kept_pmcSnap)

end Sys2Proof.Machine
end

