-- ==== Sys2Proof/Laws/KeptCastCheck.lean ====
section
/-! SUPPORT. What the operations of Machine/CastCheck.lean keep. -/

namespace Sys2Proof.Machine

theorem kept_castReset {A : Area → Prop} [Fact (A .pmcOn)] {a : State} {s : State} (h : Kept A a s) : Kept A a
    (@State.castReset s) := by
  unfold State.castReset
  repeat' (first
    | with_reducible assumption
    | with_reducible exact Or.inl Fact.out
    | with_reducible exact Or.inr rfl
    | with_reducible apply kept_ite
    | with_reducible refine kept_mk_forms ?_ ?_ ?_ ?_ ?_ ?_ ?_ ?_ ?_ ?_ ?_ ?_ ?_ ?_ ?_ ?_ ?_ ?_ ?_ ?_ ?_ (fun h => ?_) (fun h => ?_) (fun h => ?_) (fun h => ?_) (fun h => ?_) (fun h => ?_)
    | exact keysRise_filter _ h)

theorem kept_putRec {A : Area → Prop} {a : State} {c : CastRec} {s : State} (h : Kept A a s) : Kept A a (@State.putRec
    c s) := by
  unfold State.putRec
  repeat' (first
    | with_reducible assumption
    | with_reducible apply kept_put
    | with_reducible apply kept_ite
    | with_reducible refine kept_each ?_ (fun _ _ _ => ?_))

theorem kept_setProfile {A : Area → Prop} [Fact (A .ch)] {a : State} {n : Nat} {p : Nat} {o : Option Profile} {s :
    State} (h : Kept A a s) : Kept A a (@State.setProfile n p o s) := by
  unfold State.setProfile
  repeat' (first
    | with_reducible assumption
    | with_reducible apply kept_ite
    | with_reducible apply kept_onChan)

end Sys2Proof.Machine
end

