-- ==== Sys2Proof/Laws/KeptCasting.lean ====
section
/-! SUPPORT. What the operations of Machine/Casting.lean keep. -/

namespace Sys2Proof.Machine

theorem kept_castInit {A : Area → Prop} [Fact (A .ch)] {a : State} {n : Nat} {s : State} (h : Kept A a s) : Kept A a
    (@State.castInit n s) := by
  unfold State.castInit
  repeat' (first
    | with_reducible assumption
    | with_reducible apply kept_put
    | with_reducible apply kept_ite
    | with_reducible apply kept_loadRx
    | with_reducible apply kept_takeFramed)

theorem kept_castProfile {A : Area → Prop} [Fact (A .ch)] {a : State} {n : Nat} {p : Nat} {s : State} (h : Kept A a s)
    : Kept A a (@State.castProfile n p s) := by
  unfold State.castProfile
  repeat' (first
    | with_reducible assumption
    | with_reducible apply kept_ite
    | with_reducible refine kept_when ?_ (fun _ _ => ?_)
    | with_reducible apply kept_clear
    | with_reducible apply kept_loadRx
    | with_reducible apply kept_putBit
    | with_reducible apply kept_setProfile
    | with_reducible apply kept_showProfile
    | with_reducible apply kept_takeFramed
    | with_reducible refine kept_foldl ?_ (fun _ _ _ => ?_)
    | split)

theorem kept_castUnits {A : Area → Prop} {a : State} {n : Nat} {s : State} (h : Kept A a s) : Kept A a
    (@State.castUnits n s) := by
  unfold State.castUnits
  repeat' (first
    | with_reducible assumption
    | with_reducible apply kept_put
    | with_reducible apply kept_ite
    | with_reducible refine kept_each ?_ (fun _ _ _ => ?_)
    | with_reducible apply kept_rebudget)

theorem kept_applyRaw {A : Area → Prop} [Fact (A .ch)] {a : State} {l : List CastRec} {s : State} (h : Kept A a s) :
    Kept A a (@State.applyRaw l s) := by
  unfold State.applyRaw
  repeat' (first
    | with_reducible assumption
    | with_reducible apply kept_put
    | with_reducible apply kept_ite
    | with_reducible refine kept_when ?_ (fun _ _ => ?_)
    | with_reducible refine kept_each ?_ (fun _ _ _ => ?_)
    | with_reducible apply kept_castInit
    | with_reducible apply kept_castProfile
    | with_reducible apply kept_castUnits
    | with_reducible apply kept_recompute
    | with_reducible refine kept_foldl ?_ (fun _ _ _ => ?_)
    | split)

theorem kept_applyWord {A : Area → Prop} [Fact (A .flow)] [Fact (A .pmcOn)] [Fact (A .ch)] [Fact (A .votes)] [Fact (A
    .out)] [Fact (A .sets)] [Fact (A .applied)] [Fact (A .runSet)] [Fact (A .snaps)] [Fact (A .calWait)] [Fact (A
    .cast)] {a : State} {b : Nat} {l : List CastRec} {s : State} (h : Kept A a s) : Kept A a (s.applyWord b l) := by
  unfold State.applyWord
  extract_lets hold s1 s2 held p s3 now
  have k1 : Kept A a s1 := kept_each h fun _ _ j => kept_put _ _ j
  have k2 : Kept A a s2 := kept_each k1 fun _ _ j => kept_takeFramed j
  have k3 : Kept A a s3 := kept_mk k2 (Or.inr rfl) (Or.inr rfl) (Or.inr rfl) (Or.inr rfl) (Or.inr rfl) (Or.inr rfl) (Or.inr rfl) (Or.inr rfl) (Or.inr rfl) (Or.inr rfl) (Or.inr rfl) (Or.inl Fact.out) (Or.inr rfl) (Or.inr rfl) (Or.inr rfl)
  clear_value s3
  exact kept_ite k3 (kept_ite (kept_hstRefresh (kept_hstRates k3)) (kept_blockHook _ _ _ k3))

theorem kept_applyElem {A : Area → Prop} [Fact (A .flow)] [Fact (A .pmcOn)] [Fact (A .ch)] [Fact (A .votes)] [Fact (A
    .out)] [Fact (A .sets)] [Fact (A .applied)] [Fact (A .runSet)] [Fact (A .snaps)] [Fact (A .calWait)] [Fact (A
    .cast)] {a : State} {l : List CastRec} {s : State} (h : Kept A a s) : Kept A a (@State.applyElem l s) := by
  unfold State.applyElem
  repeat' (first
    | with_reducible assumption
    | with_reducible apply kept_put
    | with_reducible apply kept_ite
    | with_reducible refine kept_each ?_ (fun _ _ _ => ?_)
    | with_reducible apply kept_applyRaw
    | with_reducible apply kept_applyWord
    | with_reducible apply kept_pmcTrack
    | with_reducible apply kept_putRec
    | with_reducible refine kept_foldl ?_ (fun _ _ _ => ?_)
    | split)

theorem kept_castMixed {A : Area → Prop} {a : State} {s : State} (h : Kept A a s) : Kept A a (@State.castMixed s) := by
  unfold State.castMixed
  repeat' (first
    | with_reducible assumption
    | with_reducible apply kept_ite
    | with_reducible refine kept_each ?_ (fun _ _ _ => ?_)
    | with_reducible apply kept_breach
    | with_reducible apply kept_putBit)

theorem kept_castImage {A : Area → Prop} [Fact (A .free)] {a : State} {s : State} (h : Kept A a s) : Kept A a
    (@State.castImage s).2 := by
  unfold State.castImage
  repeat' (first
    | with_reducible assumption
    | with_reducible apply kept_ite
    | with_reducible apply kept_ite_snd
    | with_reducible apply kept_draw)

theorem kept_castReport {A : Area → Prop} [Fact (A .free)] {a : State} {result : Nat} {more : List RepEntry} {refused
    : Bool} {s : State} (h : Kept A a s) : Kept A a (@State.castReport result more refused s) := by
  unfold State.castReport
  repeat' (first
    | with_reducible assumption
    | with_reducible apply kept_ite
    | with_reducible apply kept_castImage
    | with_reducible apply kept_writeReport)

theorem kept_castRest {A : Area → Prop} [Fact (A .cast)] {a : State} {st : Nat} {s : State} (h : Kept A a s) : Kept A
    a (@State.castRest st s) := by
  unfold State.castRest
  repeat' (first
    | with_reducible assumption
    | with_reducible exact Or.inl Fact.out
    | with_reducible exact Or.inr rfl
    | with_reducible apply kept_put
    | with_reducible apply kept_ite
    | with_reducible apply kept_dmaGot
    | with_reducible apply kept_mk)

theorem kept_castAbandon {A : Area → Prop} [Fact (A .free)] [Fact (A .votes)] [Fact (A .cast)] {a : State} {s : State}
    (h : Kept A a s) : Kept A a (@State.castAbandon s) := by
  unfold State.castAbandon
  repeat' (first
    | with_reducible assumption
    | with_reducible apply kept_put
    | with_reducible apply kept_ite
    | with_reducible refine kept_when ?_ (fun _ _ => ?_)
    | with_reducible apply kept_bump
    | with_reducible apply kept_castMixed
    | with_reducible apply kept_castReport
    | with_reducible apply kept_castRest
    | with_reducible apply kept_withdraw)

theorem kept_castAbort {A : Area → Prop} [Fact (A .free)] [Fact (A .votes)] [Fact (A .cast)] {a : State} {s : State}
    (h : Kept A a s) : Kept A a (@State.castAbort s) := by
  unfold State.castAbort
  repeat' (first
    | with_reducible assumption
    | with_reducible apply kept_ite
    | with_reducible refine kept_when ?_ (fun _ _ => ?_)
    | with_reducible apply kept_castAbandon)

theorem kept_castApproved {A : Area → Prop} [Fact (A .pmcOn)] {a : State} {s : State} (h : Kept A a s) : Kept A a
    (@State.castApproved s) := by
  unfold State.castApproved
  repeat' (first
    | with_reducible assumption
    | with_reducible apply kept_put
    | with_reducible apply kept_ite
    | with_reducible refine kept_when ?_ (fun _ _ => ?_)
    | with_reducible apply kept_castReset)

theorem kept_castFinish {A : Area → Prop} [Fact (A .free)] [Fact (A .cast)] {a : State} {s : State} (h : Kept A a s) :
    Kept A a (@State.castFinish s) := by
  unfold State.castFinish
  repeat' (first
    | with_reducible assumption
    | with_reducible apply kept_put
    | with_reducible apply kept_ite
    | with_reducible refine kept_when ?_ (fun _ _ => ?_)
    | with_reducible refine kept_each ?_ (fun _ _ _ => ?_)
    | with_reducible apply kept_bump
    | with_reducible apply kept_castReport
    | with_reducible apply kept_castRest
    | with_reducible apply kept_flag)

theorem kept_castCheckEnd {A : Area → Prop} [Fact (A .free)] [Fact (A .cast)] {a : State} {s : State} (h : Kept A a s)
    : Kept A a (@State.castCheckEnd s) := by
  unfold State.castCheckEnd
  repeat' (first
    | with_reducible assumption
    | with_reducible apply kept_ite
    | with_reducible refine kept_when ?_ (fun _ _ => ?_)
    | with_reducible apply kept_castFinish)

theorem kept_castRefuse {A : Area → Prop} [Fact (A .free)] [Fact (A .cast)] {a : State} {more : List RepEntry} {s :
    State} (h : Kept A a s) : Kept A a (@State.castRefuse more s) := by
  unfold State.castRefuse
  repeat' (first
    | with_reducible assumption
    | with_reducible apply kept_put
    | with_reducible apply kept_ite
    | with_reducible refine kept_when ?_ (fun _ _ => ?_)
    | with_reducible apply kept_bump
    | with_reducible apply kept_castReport
    | with_reducible apply kept_castRest)

theorem kept_castChecked {A : Area → Prop} [Fact (A .free)] [Fact (A .votes)] [Fact (A .cast)] {a : State} {s : State}
    (h : Kept A a s) : Kept A a (@State.castChecked s) := by
  unfold State.castChecked
  repeat' (first
    | with_reducible assumption
    | with_reducible exact Or.inl Fact.out
    | with_reducible exact Or.inr rfl
    | with_reducible apply kept_put
    | with_reducible apply kept_ite
    | with_reducible refine kept_when ?_ (fun _ _ => ?_)
    | with_reducible apply kept_castRefuse
    | with_reducible apply kept_castReport
    | with_reducible apply kept_castRest
    | with_reducible apply kept_request
    | with_reducible apply kept_mk)

theorem kept_castCommitCh {A : Area → Prop} [Fact (A .ch)] {a : State} {l : List (Nat × Field × Nat)} {n : Nat} {s :
    State} (h : Kept A a s) : Kept A a (@State.castCommitCh l n s) := by
  unfold State.castCommitCh
  repeat' (first
    | with_reducible assumption
    | with_reducible apply kept_put
    | with_reducible apply kept_ite
    | with_reducible refine kept_each ?_ (fun _ _ _ => ?_)
    | with_reducible apply kept_onChan
    | with_reducible apply kept_takeFramed)

theorem kept_castCommit {A : Area → Prop} [Fact (A .ch)] [Fact (A .cast)] {a : State} {s : State} (h : Kept A a s) :
    Kept A a (@State.castCommit s) := by
  unfold State.castCommit
  repeat' (first
    | with_reducible assumption
    | with_reducible exact Or.inl Fact.out
    | with_reducible exact Or.inr rfl
    | with_reducible apply kept_ite
    | with_reducible refine kept_each ?_ (fun _ _ _ => ?_)
    | with_reducible apply kept_castCommitCh
    | with_reducible apply kept_mk)

theorem kept_castGoOn {A : Area → Prop} {a : State} {s : State} (h : Kept A a s) : Kept A a (@State.castGoOn s) := by
  unfold State.castGoOn
  repeat' (first
    | with_reducible assumption
    | with_reducible apply kept_put
    | with_reducible apply kept_ite
    | with_reducible refine kept_when ?_ (fun _ _ => ?_))

theorem kept_castElement {A : Area → Prop} [Fact (A .free)] [Fact (A .flow)] [Fact (A .pmcOn)] [Fact (A .ch)] [Fact (A
    .votes)] [Fact (A .out)] [Fact (A .sets)] [Fact (A .applied)] [Fact (A .runSet)] [Fact (A .snaps)] [Fact (A
    .calWait)] [Fact (A .cast)] {a : State} {s : State} (h : Kept A a s) : Kept A a s.castElement := by
  unfold State.castElement
  split
  · exact kept_castCheckEnd h
  · rename_i e rest _
    refine kept_ite (kept_castMixed (kept_put _ _ (kept_put _ _ h))) ?_
    extract_lets s1 p s2
    have k1 : Kept A a s1 := kept_applyElem (kept_ite (kept_castGoOn h) h)
    have k2 : Kept A a s2 := kept_addWrap (kept_mk k1 (Or.inr rfl) (Or.inr rfl) (Or.inr rfl) (Or.inr rfl) (Or.inr rfl) (Or.inr rfl) (Or.inr rfl) (Or.inr rfl) (Or.inr rfl) (Or.inr rfl) (Or.inr rfl) (Or.inl Fact.out) (Or.inr rfl) (Or.inr rfl) (Or.inr rfl))
    clear_value s2
    exact kept_ite (kept_castCheckEnd (kept_castCommit k2)) (kept_when k2 fun _ j => kept_put _ _ j)

theorem kept_castStoreCut {A : Area → Prop} [Fact (A .bootImage)] {a : State} {s : State} (h : Kept A a s) : Kept A a
    (@State.castStoreCut s) := by
  unfold State.castStoreCut
  repeat' (first
    | with_reducible assumption
    | with_reducible exact Or.inl Fact.out
    | with_reducible exact Or.inr rfl
    | with_reducible apply kept_put
    | with_reducible apply kept_ite
    | with_reducible refine kept_when ?_ (fun _ _ => ?_)
    | with_reducible apply kept_mk)

theorem kept_castFault {A : Area → Prop} [Fact (A .free)] [Fact (A .votes)] [Fact (A .cast)] [Fact (A .bootImage)] {a
    : State} {s : State} (h : Kept A a s) : Kept A a (@State.castFault s) := by
  unfold State.castFault
  repeat' (first
    | with_reducible assumption
    | with_reducible apply kept_put
    | with_reducible apply kept_ite
    | with_reducible refine kept_when ?_ (fun _ _ => ?_)
    | with_reducible apply kept_castAbandon
    | with_reducible apply kept_castStoreCut
    | with_reducible apply kept_raise)

theorem kept_castFetched {A : Area → Prop} [Fact (A .cast)] {a : State} {m : List Byte} {s : State} (h : Kept A a s) :
    Kept A a (@State.castFetched m s) := by
  unfold State.castFetched
  repeat' (first
    | with_reducible assumption
    | with_reducible exact Or.inl Fact.out
    | with_reducible exact Or.inr rfl
    | with_reducible apply kept_put
    | with_reducible apply kept_ite
    | with_reducible apply kept_dmaGot
    | with_reducible apply kept_mk)

theorem kept_castGo {A : Area → Prop} [Fact (A .free)] [Fact (A .cast)] {a : State} {op : Nat} {src : Nat} {s : State}
    (h : Kept A a s) : Kept A a (@State.castGo op src s) := by
  unfold State.castGo
  repeat' (first
    | with_reducible assumption
    | with_reducible exact Or.inl Fact.out
    | with_reducible exact Or.inr rfl
    | with_reducible apply kept_put
    | with_reducible apply kept_ite
    | with_reducible refine kept_when ?_ (fun _ _ => ?_)
    | with_reducible apply kept_castRefuse
    | with_reducible apply kept_dmaNeed
    | with_reducible apply kept_mk)

theorem kept_enterReady {A : Area → Prop} [Fact (A .flow)] [Fact (A .ch)] [Fact (A .votes)] [Fact (A .sets)] [Fact (A
    .applied)] [Fact (A .calWait)] {a : State} {s : State} (h : Kept A a s) : Kept A a (@State.enterReady s) := by
  unfold State.enterReady
  repeat' (first
    | with_reducible assumption
    | with_reducible apply kept_put
    | with_reducible apply kept_ite
    | with_reducible refine kept_when ?_ (fun _ _ => ?_)
    | with_reducible refine kept_each ?_ (fun _ _ _ => ?_)
    | with_reducible apply kept_evalMode
    | with_reducible apply kept_fenceChannel
    | with_reducible apply kept_setMode)

theorem kept_loadChannel {A : Area → Prop} [Fact (A .flow)] [Fact (A .ch)] {a : State} {n : Nat} {s : State} (h : Kept
    A a s) : Kept A a (@State.loadChannel n s) := by
  unfold State.loadChannel
  repeat' (first
    | with_reducible assumption
    | with_reducible apply kept_put
    | with_reducible apply kept_ite
    | with_reducible refine kept_when ?_ (fun _ _ => ?_)
    | with_reducible refine kept_each ?_ (fun _ _ _ => ?_)
    | with_reducible apply kept_castInit
    | with_reducible apply kept_castProfile
    | with_reducible apply kept_castUnits
    | with_reducible apply kept_hstRates
    | with_reducible apply kept_hstRefresh
    | with_reducible apply kept_recompute)

theorem kept_loadSet {A : Area → Prop} [Fact (A .applied)] {a : State} {sc : Nat} {s : State} (h : Kept A a s) : Kept
    A a (@State.loadSet sc s) := by
  unfold State.loadSet
  repeat' (first
    | with_reducible assumption
    | with_reducible apply kept_ite
    | with_reducible refine kept_when ?_ (fun _ _ => ?_)
    | with_reducible refine kept_each ?_ (fun _ _ _ => ?_)
    | with_reducible apply kept_takeElement)

theorem kept_castLoaded {A : Area → Prop} [Fact (A .free)] [Fact (A .flow)] [Fact (A .ch)] [Fact (A .votes)] [Fact (A
    .sets)] [Fact (A .applied)] [Fact (A .calWait)] [Fact (A .cast)] {a : State} {s : State} (h : Kept A a s) : Kept A
    a (@State.castLoaded s) := by
  unfold State.castLoaded
  repeat' (first
    | with_reducible assumption
    | with_reducible apply kept_ite
    | with_reducible refine kept_each ?_ (fun _ _ _ => ?_)
    | with_reducible apply kept_castFinish
    | with_reducible apply kept_enterReady
    | with_reducible apply kept_loadChannel
    | with_reducible apply kept_loadSet)

theorem kept_castLockdown {A : Area → Prop} [Fact (A .free)] [Fact (A .votes)] [Fact (A .cast)] {a : State} {s :
    State} (h : Kept A a s) : Kept A a (@State.castLockdown s) := by
  unfold State.castLockdown
  repeat' (first
    | with_reducible assumption
    | with_reducible apply kept_ite
    | with_reducible apply kept_castAbandon)

theorem kept_castPause {A : Area → Prop} {a : State} {s : State} (h : Kept A a s) : Kept A a (@State.castPause s) := by
  unfold State.castPause
  repeat' (first
    | with_reducible assumption
    | with_reducible apply kept_put
    | with_reducible apply kept_ite
    | with_reducible refine kept_when ?_ (fun _ _ => ?_)
    | with_reducible apply kept_castMixed)

theorem kept_castResume {A : Area → Prop} {a : State} {s : State} (h : Kept A a s) : Kept A a (@State.castResume s) :=
    by
  unfold State.castResume
  repeat' (first
    | with_reducible assumption
    | with_reducible apply kept_ite
    | with_reducible refine kept_when ?_ (fun _ _ => ?_)
    | with_reducible apply kept_castGoOn)

theorem kept_castStored {A : Area → Prop} [Fact (A .cast)] [Fact (A .bootImage)] {a : State} {s : State} (h : Kept A a
    s) : Kept A a (@State.castStored s) := by
  unfold State.castStored
  repeat' (first
    | with_reducible assumption
    | with_reducible exact Or.inl Fact.out
    | with_reducible exact Or.inr rfl
    | with_reducible apply kept_put
    | with_reducible apply kept_ite
    | with_reducible apply kept_castRest
    | with_reducible apply kept_flag
    | with_reducible apply kept_mk)

theorem kept_castVoteRefused {A : Area → Prop} [Fact (A .free)] [Fact (A .cast)] {a : State} {s : State} (h : Kept A a
    s) : Kept A a (@State.castVoteRefused s) := by
  unfold State.castVoteRefused
  repeat' (first
    | with_reducible assumption
    | with_reducible apply kept_ite
    | with_reducible refine kept_when ?_ (fun _ _ => ?_)
    | with_reducible apply kept_castRefuse)

theorem kept_castHook {A : Area → Prop} [Fact (A .free)] [Fact (A .votes)] [Fact (A .cast)] {value : Nat} : (@castHook
    value).kept A := by
  unfold castHook
  repeat' (first
    | with_reducible exact kept_hook_plain
    | with_reducible apply kept_hook_ite
    | with_reducible apply kept_hookAt
    | with_reducible apply hooks_cons
    | with_reducible exact hooks_nil
    | (refine fun _ _ _ h => ?_; dsimp only)
    | with_reducible assumption
    | with_reducible apply kept_hook_ite
    | with_reducible exact kept_hook_plain
    | with_reducible apply kept_ite
    | with_reducible refine kept_when ?_ (fun _ _ => ?_)
    | with_reducible apply kept_castAbort
    | with_reducible apply kept_castGo
    | with_reducible apply kept_castPause
    | with_reducible apply kept_castResume)

theorem kept_execCastingAbort {A : Area → Prop} [Fact (A .free)] [Fact (A .ch)] [Fact (A .votes)] [Fact (A .cast)] {a
    : State} {win : Fin 7} {value : Word} {be : Fin 16} {s : State} (h : Kept A a s) : Answer.kept A a
    (@execCastingAbort win value be s) := by
  unfold execCastingAbort
  repeat' (first
    | with_reducible assumption
    | with_reducible apply kept_next
    | with_reducible apply kept_answer_ite
    | with_reducible apply kept_ite
    | with_reducible apply kept_hostWrite
    | with_reducible apply kept_castHook)

theorem kept_execCastingApplyElement {A : Area → Prop} [Fact (A .free)] [Fact (A .flow)] [Fact (A .pmcOn)] [Fact (A
    .ch)] [Fact (A .votes)] [Fact (A .out)] [Fact (A .sets)] [Fact (A .applied)] [Fact (A .runSet)] [Fact (A .snaps)]
    [Fact (A .calWait)] [Fact (A .cast)] {a : State} {s : State} (h : Kept A a s) : Answer.kept A a
    (@execCastingApplyElement s) := by
  unfold execCastingApplyElement
  repeat' (first
    | with_reducible assumption
    | with_reducible apply kept_next
    | with_reducible apply kept_answer_ite
    | with_reducible apply kept_ite
    | with_reducible refine kept_when ?_ (fun _ _ => ?_)
    | with_reducible apply kept_castElement)

theorem kept_execCastingCheckComplete {A : Area → Prop} [Fact (A .free)] [Fact (A .votes)] [Fact (A .cast)] {a :
    State} {s : State} (h : Kept A a s) : Answer.kept A a (@execCastingCheckComplete s) := by
  unfold execCastingCheckComplete
  repeat' (first
    | with_reducible assumption
    | with_reducible apply kept_next
    | with_reducible apply kept_answer_ite
    | with_reducible apply kept_ite
    | with_reducible refine kept_when ?_ (fun _ _ => ?_)
    | with_reducible apply kept_castChecked)

theorem kept_execCastingEngineFault {A : Area → Prop} [Fact (A .free)] [Fact (A .votes)] [Fact (A .cast)] [Fact (A
    .bootImage)] {a : State} {s : State} (h : Kept A a s) : Answer.kept A a (@execCastingEngineFault s) := by
  unfold execCastingEngineFault
  repeat' (first
    | with_reducible assumption
    | with_reducible apply kept_next
    | with_reducible apply kept_answer_ite
    | with_reducible apply kept_ite
    | with_reducible refine kept_when ?_ (fun _ _ => ?_)
    | with_reducible apply kept_castFault)

theorem kept_execCastingEraseStore {A : Area → Prop} [Fact (A .free)] [Fact (A .ch)] [Fact (A .votes)] [Fact (A
    .cast)] {a : State} {win : Fin 7} {value : Word} {be : Fin 16} {s : State} (h : Kept A a s) : Answer.kept A a
    (@execCastingEraseStore win value be s) := by
  unfold execCastingEraseStore
  repeat' (first
    | with_reducible assumption
    | with_reducible apply kept_next
    | with_reducible apply kept_answer_ite
    | with_reducible apply kept_ite
    | with_reducible apply kept_hostWrite
    | with_reducible apply kept_castHook)

theorem kept_execCastingFetchComplete {A : Area → Prop} [Fact (A .free)] [Fact (A .cast)] {a : State} {bytes : Option
    (List Byte)} {s : State} (h : Kept A a s) : Answer.kept A a (@execCastingFetchComplete bytes s) := by
  unfold execCastingFetchComplete
  repeat' (first
    | with_reducible assumption
    | with_reducible apply kept_next
    | with_reducible apply kept_answer_ite
    | with_reducible apply kept_ite
    | with_reducible refine kept_when ?_ (fun _ _ => ?_)
    | with_reducible apply kept_castFetched
    | with_reducible apply kept_castRefuse
    | with_reducible refine kept_foldl ?_ (fun _ _ _ => ?_)
    | split)

theorem kept_execCastingLoadComplete {A : Area → Prop} [Fact (A .free)] [Fact (A .flow)] [Fact (A .ch)] [Fact (A
    .votes)] [Fact (A .sets)] [Fact (A .applied)] [Fact (A .calWait)] [Fact (A .cast)] {a : State} {s : State} (h :
    Kept A a s) : Answer.kept A a (@execCastingLoadComplete s) := by
  unfold execCastingLoadComplete
  repeat' (first
    | with_reducible assumption
    | with_reducible apply kept_next
    | with_reducible apply kept_answer_ite
    | with_reducible apply kept_ite
    | with_reducible refine kept_when ?_ (fun _ _ => ?_)
    | with_reducible apply kept_castLoaded)

theorem kept_execCastingPause {A : Area → Prop} [Fact (A .free)] [Fact (A .ch)] [Fact (A .votes)] [Fact (A .cast)] {a
    : State} {win : Fin 7} {value : Word} {be : Fin 16} {s : State} (h : Kept A a s) : Answer.kept A a
    (@execCastingPause win value be s) := by
  unfold execCastingPause
  repeat' (first
    | with_reducible assumption
    | with_reducible apply kept_next
    | with_reducible apply kept_answer_ite
    | with_reducible apply kept_ite
    | with_reducible apply kept_hostWrite
    | with_reducible apply kept_castHook)

theorem kept_execCastingResume {A : Area → Prop} [Fact (A .free)] [Fact (A .ch)] [Fact (A .votes)] [Fact (A .cast)] {a
    : State} {win : Fin 7} {value : Word} {be : Fin 16} {s : State} (h : Kept A a s) : Answer.kept A a
    (@execCastingResume win value be s) := by
  unfold execCastingResume
  repeat' (first
    | with_reducible assumption
    | with_reducible apply kept_next
    | with_reducible apply kept_answer_ite
    | with_reducible apply kept_ite
    | with_reducible apply kept_hostWrite
    | with_reducible apply kept_castHook)

theorem kept_execCastingStore {A : Area → Prop} [Fact (A .free)] [Fact (A .ch)] [Fact (A .votes)] [Fact (A .cast)] {a
    : State} {win : Fin 7} {value : Word} {be : Fin 16} {s : State} (h : Kept A a s) : Answer.kept A a
    (@execCastingStore win value be s) := by
  unfold execCastingStore
  repeat' (first
    | with_reducible assumption
    | with_reducible apply kept_next
    | with_reducible apply kept_answer_ite
    | with_reducible apply kept_ite
    | with_reducible apply kept_hostWrite
    | with_reducible apply kept_castHook)

theorem kept_execCastingStoreComplete {A : Area → Prop} [Fact (A .cast)] [Fact (A .bootImage)] {a : State} {s : State}
    (h : Kept A a s) : Answer.kept A a (@execCastingStoreComplete s) := by
  unfold execCastingStoreComplete
  repeat' (first
    | with_reducible assumption
    | with_reducible apply kept_next
    | with_reducible apply kept_answer_ite
    | with_reducible apply kept_ite
    | with_reducible refine kept_when ?_ (fun _ _ => ?_)
    | with_reducible apply kept_castStored)

theorem kept_execCastingSubmit {A : Area → Prop} [Fact (A .free)] [Fact (A .ch)] [Fact (A .votes)] [Fact (A .cast)] {a
    : State} {win : Fin 7} {value : Word} {be : Fin 16} {s : State} (h : Kept A a s) : Answer.kept A a
    (@execCastingSubmit win value be s) := by
  unfold execCastingSubmit
  repeat' (first
    | with_reducible assumption
    | with_reducible apply kept_next
    | with_reducible apply kept_answer_ite
    | with_reducible apply kept_ite
    | with_reducible apply kept_hostWrite
    | with_reducible apply kept_castHook)

end Sys2Proof.Machine
end

