-- ==== Sys2Proof/Laws/KeptLockdown.lean ====
section
/-! SUPPORT. What the operations of Machine/Lockdown.lean keep. -/

namespace Sys2Proof.Machine

theorem kept_calLockdown {A : Area → Prop} [Fact (A .votes)] {a : State} {s : State} (h : Kept A a s) : Kept A a
    (@State.calLockdown s) := by
  unfold State.calLockdown
  repeat' (first
    | with_reducible assumption
    | with_reducible apply kept_ite
    | with_reducible refine kept_when ?_ (fun _ _ => ?_)
    | with_reducible apply kept_calFail)

theorem kept_enterLockdown {A : Area → Prop} [Fact (A .free)] [Fact (A .flow)] [Fact (A .ch)] [Fact (A .votes)] [Fact
    (A .sets)] [Fact (A .applied)] [Fact (A .calWait)] [Fact (A .cast)] {a : State} {s : State} (h : Kept A a s) :
    Kept A a (@State.enterLockdown s) := by
  unfold State.enterLockdown
  repeat' (first
    | with_reducible assumption
    | with_reducible apply kept_put
    | with_reducible apply kept_ite
    | with_reducible refine kept_when ?_ (fun _ _ => ?_)
    | with_reducible refine kept_each ?_ (fun _ _ _ => ?_)
    | with_reducible refine kept_onFlow _ ?_ (fun _ _ => ?_)
    | with_reducible apply kept_breach
    | with_reducible apply kept_bulkFault
    | with_reducible apply kept_calLockdown
    | with_reducible apply kept_castCheckEnd
    | with_reducible apply kept_castLockdown
    | with_reducible apply kept_cut
    | with_reducible apply kept_setMode
    | with_reducible apply kept_withdraw
    | with_reducible apply Flow.lose_conserved)

theorem kept_eraseRoot {A : Area → Prop} {a : State} {s : State} (h : Kept A a s) : Kept A a (@State.eraseRoot s) := by
  unfold State.eraseRoot
  repeat' (first
    | with_reducible assumption
    | with_reducible apply kept_ite
    | with_reducible apply kept_clear)

theorem kept_zeroise {A : Area → Prop} {a : State} {s : State} (h : Kept A a s) : Kept A a (@State.zeroise s) := by
  unfold State.zeroise
  repeat' (first
    | with_reducible assumption
    | with_reducible apply kept_put
    | with_reducible apply kept_ite
    | with_reducible refine kept_each ?_ (fun _ _ _ => ?_)
    | with_reducible apply kept_clear
    | with_reducible apply kept_clearData
    | with_reducible apply kept_eraseKek
    | with_reducible apply kept_eraseSlot)

theorem kept_lockdown {A : Area → Prop} [Fact (A .free)] [Fact (A .flow)] [Fact (A .ch)] [Fact (A .votes)] [Fact (A
    .sets)] [Fact (A .applied)] [Fact (A .calWait)] [Fact (A .cast)] {a : State} {cause : Nat} {root : Bool} {s :
    State} (h : Kept A a s) : Kept A a (@State.lockdown cause root s) := by
  unfold State.lockdown
  repeat' (first
    | with_reducible assumption
    | with_reducible apply kept_ite
    | with_reducible refine kept_when ?_ (fun _ _ => ?_)
    | with_reducible apply kept_enterLockdown
    | with_reducible apply kept_eraseRoot
    | with_reducible apply kept_plinthRecord
    | with_reducible apply kept_zeroise)

theorem kept_rootApproved {A : Area → Prop} [Fact (A .free)] [Fact (A .flow)] [Fact (A .ch)] [Fact (A .votes)] [Fact
    (A .sets)] [Fact (A .applied)] [Fact (A .calWait)] [Fact (A .cast)] {a : State} {s : State} (h : Kept A a s) :
    Kept A a (@State.rootApproved s) := by
  unfold State.rootApproved
  repeat' (first
    | with_reducible assumption
    | with_reducible apply kept_put
    | with_reducible apply kept_ite
    | with_reducible apply kept_clearData
    | with_reducible apply kept_lockdown
    | with_reducible apply kept_provision
    | with_reducible apply kept_rootRefused)

theorem kept_rootLost {A : Area → Prop} {a : State} {s : State} (h : Kept A a s) : Kept A a (@State.rootLost s) := by
  unfold State.rootLost
  repeat' (first
    | with_reducible assumption
    | with_reducible apply kept_put)

theorem kept_execTamperInput {A : Area → Prop} [Fact (A .free)] [Fact (A .flow)] [Fact (A .ch)] [Fact (A .votes)]
    [Fact (A .sets)] [Fact (A .applied)] [Fact (A .calWait)] [Fact (A .cast)] {a : State} {active : Bool} {s : State}
    (h : Kept A a s) : Answer.kept A a (@execTamperInput active s) := by
  unfold execTamperInput
  repeat' (first
    | with_reducible assumption
    | with_reducible apply kept_next
    | with_reducible apply kept_answer_ite
    | with_reducible apply kept_ite
    | with_reducible refine kept_when ?_ (fun _ _ => ?_)
    | with_reducible apply kept_flag
    | with_reducible apply kept_lockdown)

theorem kept_execVkeepLow {A : Area → Prop} {a : State} {written : Bool} {s : State} (h : Kept A a s) : Answer.kept A
    a (@execVkeepLow written s) := by
  unfold execVkeepLow
  repeat' (first
    | with_reducible assumption
    | with_reducible apply kept_next
    | with_reducible apply kept_answer_ite
    | with_reducible apply kept_ite
    | with_reducible refine kept_when ?_ (fun _ _ => ?_)
    | with_reducible apply kept_plinthRecord
    | with_reducible apply kept_rootLost)

theorem kept_zeroiseHook {A : Area → Prop} [Fact (A .free)] [Fact (A .flow)] [Fact (A .ch)] [Fact (A .votes)] [Fact (A
    .sets)] [Fact (A .applied)] [Fact (A .calWait)] [Fact (A .cast)] {value : Nat} : (@zeroiseHook value).kept A := by
  unfold zeroiseHook
  repeat' (first
    | with_reducible exact kept_hook_plain
    | with_reducible apply kept_hook_ite
    | with_reducible apply kept_hookAt
    | with_reducible apply hooks_cons
    | with_reducible exact hooks_nil
    | (refine fun _ _ _ h => ?_; dsimp only)
    | with_reducible assumption
    | with_reducible apply kept_hook_ite
    | with_reducible exact kept_hook_plain
    | with_reducible apply kept_ite
    | with_reducible refine kept_when ?_ (fun _ _ => ?_)
    | with_reducible apply kept_lockdown)

theorem kept_execZeroiseCommand {A : Area → Prop} [Fact (A .free)] [Fact (A .flow)] [Fact (A .ch)] [Fact (A .votes)]
    [Fact (A .sets)] [Fact (A .applied)] [Fact (A .calWait)] [Fact (A .cast)] {a : State} {win : Fin 7} {value : Word}
    {be : Fin 16} {s : State} (h : Kept A a s) : Answer.kept A a (@execZeroiseCommand win value be s) := by
  unfold execZeroiseCommand
  repeat' (first
    | with_reducible assumption
    | with_reducible apply kept_next
    | with_reducible apply kept_answer_ite
    | with_reducible apply kept_ite
    | with_reducible apply kept_hostWrite
    | with_reducible apply kept_zeroiseHook)

theorem kept_execZeroiseInput {A : Area → Prop} [Fact (A .free)] [Fact (A .flow)] [Fact (A .ch)] [Fact (A .votes)]
    [Fact (A .sets)] [Fact (A .applied)] [Fact (A .calWait)] [Fact (A .cast)] {a : State} {active : Bool} {s : State}
    (h : Kept A a s) : Answer.kept A a (@execZeroiseInput active s) := by
  unfold execZeroiseInput
  repeat' (first
    | with_reducible assumption
    | with_reducible apply kept_next
    | with_reducible apply kept_answer_ite
    | with_reducible apply kept_ite
    | with_reducible refine kept_when ?_ (fun _ _ => ?_)
    | with_reducible apply kept_flag
    | with_reducible apply kept_lockdown)

end Sys2Proof.Machine
end

