-- ==== Sys2Proof/Laws/KeptVotes.lean ====
section
/-! SUPPORT. What the operations of Machine/Votes.lean keep. -/

namespace Sys2Proof.Machine

theorem kept_mbxDrop {A : Area → Prop} [Fact (A .mbx)] {a : State} {tag : Nat} {s : State} (h : Kept A a s) : Kept A a
    (@State.mbxDrop tag s) := by
  unfold State.mbxDrop
  repeat' (first
    | with_reducible assumption
    | with_reducible exact Or.inl Fact.out
    | with_reducible exact Or.inr rfl
    | with_reducible apply kept_put
    | with_reducible apply kept_ite
    | with_reducible apply kept_mk)

theorem kept_mbxPost {A : Area → Prop} {a : State} {status : Nat} {tag : Nat} {gen : Nat} {l : List Nat} {s : State}
    (h : Kept A a s) : Kept A a (@State.mbxPost status tag gen l s) := by
  unfold State.mbxPost
  repeat' (first
    | with_reducible assumption
    | with_reducible apply kept_put
    | with_reducible apply kept_ite
    | with_reducible apply kept_putWords
    | with_reducible apply kept_raise)

theorem kept_mbxDone {A : Area → Prop} [Fact (A .mbx)] {a : State} {c : MbxCmd} {gen : Nat} {status : Nat} {l : List
    Nat} {s : State} (h : Kept A a s) : Kept A a (@State.mbxDone c gen status l s) := by
  unfold State.mbxDone
  repeat' (first
    | with_reducible assumption
    | with_reducible apply kept_put
    | with_reducible apply kept_ite
    | with_reducible apply kept_bump
    | with_reducible apply kept_mbxDrop
    | with_reducible apply kept_mbxPost)

theorem kept_mbxEnd {A : Area → Prop} [Fact (A .mbx)] {a : State} {tag : Nat} {status : Nat} {l : List Nat} {s :
    State} (h : Kept A a s) : Kept A a (@State.mbxEnd tag status l s) := by
  unfold State.mbxEnd
  repeat' (first
    | with_reducible assumption
    | with_reducible apply kept_ite
    | with_reducible apply kept_mbxDone
    | with_reducible refine kept_foldl ?_ (fun _ _ _ => ?_)
    | split)

theorem kept_fwActivated {A : Area → Prop} [Fact (A .mbx)] {a : State} {tag : Nat} {s : State} (h : Kept A a s) : Kept
    A a (@State.fwActivated tag s) := by
  unfold State.fwActivated
  repeat' (first
    | with_reducible assumption
    | with_reducible apply kept_put
    | with_reducible apply kept_ite
    | with_reducible refine kept_when ?_ (fun _ _ => ?_)
    | with_reducible apply kept_mbxEnd
    | with_reducible refine kept_foldl ?_ (fun _ _ _ => ?_)
    | split)

theorem kept_mbxStage {A : Area → Prop} [Fact (A .mbx)] {a : State} {tag : Nat} {k : Nat} {s : State} (h : Kept A a s)
    : Kept A a (@State.mbxStage tag k s) := by
  unfold State.mbxStage
  repeat' (first
    | with_reducible assumption
    | with_reducible exact Or.inl Fact.out
    | with_reducible exact Or.inr rfl
    | with_reducible apply kept_ite
    | with_reducible apply kept_mk)

theorem kept_approve {A : Area → Prop} [Fact (A .free)] [Fact (A .flow)] [Fact (A .pmcOn)] [Fact (A .ch)] [Fact (A
    .votes)] [Fact (A .store)] [Fact (A .sets)] [Fact (A .applied)] [Fact (A .calWait)] [Fact (A .cast)] [Fact (A
    .mbx)] {a : State} {v : Vote} {s : State} (h : Kept A a s) : Kept A a (@State.approve v s) := by
  unfold State.approve
  repeat' (first
    | with_reducible assumption
    | with_reducible apply kept_ite
    | with_reducible apply kept_calApproved
    | with_reducible apply kept_castApproved
    | with_reducible apply kept_commitApproved
    | with_reducible apply kept_fwActivated
    | with_reducible apply kept_laserApproved
    | with_reducible apply kept_loopbackApproved
    | with_reducible apply kept_mbxStage
    | with_reducible apply kept_resizeApproved
    | with_reducible apply kept_rollArmed
    | with_reducible apply kept_rootApproved
    | with_reducible refine kept_foldl ?_ (fun _ _ _ => ?_)
    | split)

theorem kept_calSupLost {A : Area → Prop} [Fact (A .votes)] {a : State} {s : State} (h : Kept A a s) : Kept A a
    (@State.calSupLost s) := by
  unfold State.calSupLost
  repeat' (first
    | with_reducible assumption
    | with_reducible apply kept_ite
    | with_reducible refine kept_when ?_ (fun _ _ => ?_)
    | with_reducible apply kept_calFail)

theorem kept_commitsLost {A : Area → Prop} [Fact (A .votes)] {a : State} {s : State} (h : Kept A a s) : Kept A a
    (@State.commitsLost s) := by
  unfold State.commitsLost
  repeat' (first
    | with_reducible assumption
    | with_reducible apply kept_ite
    | with_reducible refine kept_when ?_ (fun _ _ => ?_)
    | with_reducible refine kept_each ?_ (fun _ _ _ => ?_)
    | with_reducible apply kept_cmtRefuse)

theorem kept_deny {A : Area → Prop} [Fact (A .free)] [Fact (A .ch)] [Fact (A .votes)] [Fact (A .cast)] [Fact (A .mbx)]
    {a : State} {v : Vote} {k : Lost} {s : State} (h : Kept A a s) : Kept A a (@State.deny v k s) := by
  unfold State.deny
  repeat' (first
    | with_reducible assumption
    | with_reducible apply kept_ite
    | with_reducible refine kept_when ?_ (fun _ _ => ?_)
    | with_reducible apply kept_calFail
    | with_reducible apply kept_castVoteRefused
    | with_reducible apply kept_commitRefused
    | with_reducible apply kept_mbxEnd
    | with_reducible apply kept_refuseEnable
    | with_reducible apply kept_request
    | with_reducible apply kept_resizeRefused
    | with_reducible apply kept_rollArmRefused
    | with_reducible apply kept_rootVoteRefused
    | with_reducible refine kept_foldl ?_ (fun _ _ _ => ?_)
    | split)

theorem kept_decide {A : Area → Prop} [Fact (A .free)] [Fact (A .flow)] [Fact (A .pmcOn)] [Fact (A .ch)] [Fact (A
    .votes)] [Fact (A .store)] [Fact (A .sets)] [Fact (A .applied)] [Fact (A .calWait)] [Fact (A .cast)] [Fact (A
    .mbx)] {a : State} {yes : Bool} {k : Lost} {s : State} (h : Kept A a s) : Kept A a (@State.decide yes k s) := by
  unfold State.decide
  repeat' (first
    | with_reducible assumption
    | with_reducible exact Or.inl Fact.out
    | with_reducible exact Or.inr rfl
    | with_reducible apply kept_put
    | with_reducible apply kept_ite
    | with_reducible refine kept_when ?_ (fun _ _ => ?_)
    | with_reducible apply kept_approve
    | with_reducible apply kept_bump
    | with_reducible apply kept_count
    | with_reducible apply kept_deny
    | with_reducible refine kept_foldl ?_ (fun _ _ _ => ?_)
    | split
    | with_reducible apply kept_mk)

theorem kept_mbxAbort {A : Area → Prop} [Fact (A .mbx)] {a : State} {s : State} (h : Kept A a s) : Kept A a
    (@State.mbxAbort s) := by
  unfold State.mbxAbort
  repeat' (first
    | with_reducible assumption
    | with_reducible apply kept_put
    | with_reducible apply kept_ite
    | with_reducible refine kept_when ?_ (fun _ _ => ?_)
    | with_reducible refine kept_each ?_ (fun _ _ _ => ?_)
    | with_reducible apply kept_addSat
    | with_reducible apply kept_mbxDrop
    | with_reducible apply kept_mbxPost)

theorem kept_nextGen {A : Area → Prop} {a : State} {s : State} (h : Kept A a s) : Kept A a (@State.nextGen s) := by
  unfold State.nextGen
  repeat' (first
    | with_reducible assumption
    | with_reducible apply kept_put)

theorem kept_failover {A : Area → Prop} [Fact (A .free)] [Fact (A .flow)] [Fact (A .pmcOn)] [Fact (A .ch)] [Fact (A
    .votes)] [Fact (A .store)] [Fact (A .sets)] [Fact (A .applied)] [Fact (A .calWait)] [Fact (A .cast)] [Fact (A
    .mbx)] {a : State} {s : State} (h : Kept A a s) : Kept A a (@State.failover s) := by
  unfold State.failover
  repeat' (first
    | with_reducible assumption
    | with_reducible apply kept_put
    | with_reducible apply kept_ite
    | with_reducible refine kept_when ?_ (fun _ _ => ?_)
    | with_reducible apply kept_calSupLost
    | with_reducible apply kept_commitsLost
    | with_reducible apply kept_decide
    | with_reducible apply kept_mbxAbort
    | with_reducible apply kept_nextGen
    | with_reducible apply kept_raise
    | with_reducible refine kept_foldl ?_ (fun _ _ _ => ?_)
    | split)

theorem kept_freeze {A : Area → Prop} [Fact (A .free)] [Fact (A .flow)] [Fact (A .pmcOn)] [Fact (A .ch)] [Fact (A
    .votes)] [Fact (A .store)] [Fact (A .sets)] [Fact (A .applied)] [Fact (A .calWait)] [Fact (A .cast)] [Fact (A
    .mbx)] {a : State} {cause : Nat} {s : State} (h : Kept A a s) : Kept A a (@State.freeze cause s) := by
  unfold State.freeze
  repeat' (first
    | with_reducible assumption
    | with_reducible apply kept_put
    | with_reducible apply kept_ite
    | with_reducible refine kept_each ?_ (fun _ _ _ => ?_)
    | with_reducible apply kept_decide
    | with_reducible apply kept_raise)

theorem kept_returnFailed {A : Area → Prop} {a : State} {i : Nat} {s : State} (h : Kept A a s) : Kept A a
    (@State.returnFailed i s) := by
  unfold State.returnFailed
  repeat' (first
    | with_reducible assumption
    | with_reducible apply kept_put
    | with_reducible apply kept_ite
    | with_reducible refine kept_when ?_ (fun _ _ => ?_)
    | with_reducible apply kept_bump)

theorem kept_showProb {A : Area → Prop} {a : State} {s : State} (h : Kept A a s) : Kept A a (@State.showProb s) := by
  unfold State.showProb
  repeat' (first
    | with_reducible assumption
    | with_reducible apply kept_put
    | with_reducible apply kept_ite
    | with_reducible refine kept_foldl ?_ (fun _ _ _ => ?_)
    | split)

theorem kept_declare {A : Area → Prop} [Fact (A .free)] [Fact (A .flow)] [Fact (A .pmcOn)] [Fact (A .ch)] [Fact (A
    .votes)] [Fact (A .store)] [Fact (A .sets)] [Fact (A .applied)] [Fact (A .calWait)] [Fact (A .cast)] [Fact (A
    .mbx)] {a : State} {i : Nat} {cause : Nat} {s : State} (h : Kept A a s) : Kept A a (@State.declare i cause s) := by
  unfold State.declare
  repeat' (first
    | with_reducible assumption
    | with_reducible apply kept_put
    | with_reducible apply kept_ite
    | with_reducible refine kept_when ?_ (fun _ _ => ?_)
    | with_reducible apply kept_bump
    | with_reducible apply kept_clear
    | with_reducible apply kept_failover
    | with_reducible apply kept_freeze
    | with_reducible apply kept_raise
    | with_reducible apply kept_returnFailed
    | with_reducible apply kept_setStack
    | with_reducible apply kept_showProb)

theorem kept_probe {A : Area → Prop} [Fact (A .free)] [Fact (A .flow)] [Fact (A .pmcOn)] [Fact (A .ch)] [Fact (A
    .votes)] [Fact (A .store)] [Fact (A .sets)] [Fact (A .applied)] [Fact (A .calWait)] [Fact (A .cast)] [Fact (A
    .mbx)] {a : State} {w : Nat} {i : Nat} {d : Option Nat} {s : State} (h : Kept A a s) : Kept A a (@State.probe w i
    d s) := by
  unfold State.probe
  repeat' (first
    | with_reducible assumption
    | with_reducible apply kept_put
    | with_reducible apply kept_ite
    | with_reducible refine kept_when ?_ (fun _ _ => ?_)
    | with_reducible apply kept_clear
    | with_reducible apply kept_declare
    | with_reducible apply kept_showProb)

theorem kept_tally {A : Area → Prop} [Fact (A .free)] [Fact (A .flow)] [Fact (A .pmcOn)] [Fact (A .ch)] [Fact (A
    .votes)] [Fact (A .store)] [Fact (A .sets)] [Fact (A .applied)] [Fact (A .calWait)] [Fact (A .cast)] [Fact (A
    .mbx)] {a : State} {d : Ballots} {s : State} (h : Kept A a s) : Kept A a (@State.tally d s) := by
  unfold State.tally
  repeat' (first
    | with_reducible assumption
    | with_reducible apply kept_put
    | with_reducible apply kept_ite
    | with_reducible refine kept_each ?_ (fun _ _ _ => ?_)
    | with_reducible apply kept_decide
    | with_reducible apply kept_declare
    | with_reducible apply kept_freeze
    | with_reducible apply kept_probe
    | with_reducible refine kept_foldl ?_ (fun _ _ _ => ?_)
    | split)

end Sys2Proof.Machine
end

