-- ==== Sys2Proof/Laws/KeptSupervisor.lean ====
section
/-! SUPPORT. What the operations of Machine/Supervisor.lean keep. -/

namespace Sys2Proof.Machine

theorem kept_cplxServe {A : Area → Prop} [Fact (A .free)] [Fact (A .flow)] [Fact (A .pmcOn)] [Fact (A .ch)] [Fact (A
    .votes)] [Fact (A .store)] [Fact (A .sets)] [Fact (A .applied)] [Fact (A .calWait)] [Fact (A .cast)] [Fact (A
    .mbx)] {a : State} {s : State} (h : Kept A a s) : Kept A a (@State.cplxServe s) := by
  unfold State.cplxServe
  repeat' (first
    | with_reducible assumption
    | with_reducible apply kept_put
    | with_reducible apply kept_ite
    | with_reducible refine kept_when ?_ (fun _ _ => ?_)
    | with_reducible refine kept_each ?_ (fun _ _ _ => ?_)
    | with_reducible apply kept_freeze
    | with_reducible apply kept_nextGen
    | with_reducible refine kept_foldl ?_ (fun _ _ _ => ?_)
    | split)

theorem kept_cplxStart {A : Area → Prop} [Fact (A .free)] [Fact (A .flow)] [Fact (A .pmcOn)] [Fact (A .ch)] [Fact (A
    .votes)] [Fact (A .store)] [Fact (A .sets)] [Fact (A .applied)] [Fact (A .calWait)] [Fact (A .cast)] [Fact (A
    .mbx)] {a : State} {s : State} (h : Kept A a s) : Kept A a (@State.cplxStart s) := by
  unfold State.cplxStart
  repeat' (first
    | with_reducible assumption
    | with_reducible exact Or.inl Fact.out
    | with_reducible exact Or.inr rfl
    | with_reducible apply kept_put
    | with_reducible apply kept_ite
    | with_reducible refine kept_when ?_ (fun _ _ => ?_)
    | with_reducible refine kept_each ?_ (fun _ _ _ => ?_)
    | with_reducible apply kept_calSupLost
    | with_reducible apply kept_clear
    | with_reducible apply kept_commitsLost
    | with_reducible apply kept_decide
    | with_reducible apply kept_deny
    | with_reducible apply kept_mbxAbort
    | with_reducible apply kept_mk)

theorem kept_irqRestart {A : Area → Prop} {a : State} {ok : Bool} {s : State} (h : Kept A a s) : Kept A a
    (@State.irqRestart ok s) := by
  unfold State.irqRestart
  repeat' (first
    | with_reducible assumption
    | with_reducible apply kept_put
    | with_reducible apply kept_ite
    | with_reducible refine kept_when ?_ (fun _ _ => ?_)
    | with_reducible refine kept_each ?_ (fun _ _ _ => ?_)
    | with_reducible apply kept_setStack)

theorem kept_supRelease {A : Area → Prop} {a : State} {i : Nat} {s : State} (h : Kept A a s) : Kept A a
    (@State.supRelease i s) := by
  unfold State.supRelease
  repeat' (first
    | with_reducible assumption
    | with_reducible apply kept_put
    | with_reducible apply kept_ite
    | with_reducible refine kept_each ?_ (fun _ _ _ => ?_)
    | with_reducible apply kept_clear
    | with_reducible apply kept_setStack)

theorem kept_cplxTested {A : Area → Prop} [Fact (A .free)] [Fact (A .flow)] [Fact (A .pmcOn)] [Fact (A .ch)] [Fact (A
    .votes)] [Fact (A .store)] [Fact (A .sets)] [Fact (A .applied)] [Fact (A .calWait)] [Fact (A .cast)] [Fact (A
    .mbx)] {a : State} {ok : Bool} {irq : Bool} {s : State} (h : Kept A a s) : Kept A a (@State.cplxTested ok irq s)
    := by
  unfold State.cplxTested
  repeat' (first
    | with_reducible assumption
    | with_reducible apply kept_put
    | with_reducible apply kept_ite
    | with_reducible refine kept_each ?_ (fun _ _ _ => ?_)
    | with_reducible apply kept_clear
    | with_reducible apply kept_freeze
    | with_reducible apply kept_irqRestart
    | with_reducible apply kept_supRelease)

theorem kept_cplxHook {A : Area → Prop} [Fact (A .free)] [Fact (A .flow)] [Fact (A .pmcOn)] [Fact (A .ch)] [Fact (A
    .votes)] [Fact (A .store)] [Fact (A .sets)] [Fact (A .applied)] [Fact (A .calWait)] [Fact (A .cast)] [Fact (A
    .mbx)] {value : Nat} : (@cplxHook value).kept A := by
  unfold cplxHook
  repeat' (first
    | with_reducible exact kept_hook_plain
    | with_reducible apply kept_hook_ite
    | with_reducible apply kept_hookAt
    | with_reducible apply hooks_cons
    | with_reducible exact hooks_nil
    | (refine fun _ _ _ h => ?_; dsimp only)
    | with_reducible assumption
    | with_reducible apply kept_hook_ite
    | with_reducible exact kept_hook_plain
    | with_reducible apply kept_ite
    | with_reducible refine kept_when ?_ (fun _ _ => ?_)
    | with_reducible apply kept_cplxStart)

theorem kept_execArbiterSelfTest {A : Area → Prop} [Fact (A .free)] [Fact (A .flow)] [Fact (A .pmcOn)] [Fact (A .ch)]
    [Fact (A .votes)] [Fact (A .store)] [Fact (A .sets)] [Fact (A .applied)] [Fact (A .calWait)] [Fact (A .cast)]
    [Fact (A .mbx)] {a : State} {ok : Bool} {irq : Bool} {s : State} (h : Kept A a s) : Answer.kept A a
    (@execArbiterSelfTest ok irq s) := by
  unfold execArbiterSelfTest
  repeat' (first
    | with_reducible assumption
    | with_reducible apply kept_next
    | with_reducible apply kept_answer_ite
    | with_reducible apply kept_put
    | with_reducible apply kept_ite
    | with_reducible refine kept_when ?_ (fun _ _ => ?_)
    | with_reducible apply kept_calSupLost
    | with_reducible apply kept_cplxTested
    | with_reducible apply kept_freeze)

theorem kept_execCheckpointTimer {A : Area → Prop} [Fact (A .votes)] {a : State} {s : State} (h : Kept A a s) :
    Answer.kept A a (@execCheckpointTimer s) := by
  unfold execCheckpointTimer
  repeat' (first
    | with_reducible assumption
    | with_reducible apply kept_next
    | with_reducible apply kept_answer_ite
    | with_reducible apply kept_put
    | with_reducible apply kept_ite
    | with_reducible refine kept_when ?_ (fun _ _ => ?_)
    | with_reducible apply kept_request)

theorem kept_execFirmwareAuthenticationComplete {A : Area → Prop} [Fact (A .free)] [Fact (A .flow)] [Fact (A .pmcOn)]
    [Fact (A .ch)] [Fact (A .votes)] [Fact (A .store)] [Fact (A .sets)] [Fact (A .applied)] [Fact (A .calWait)] [Fact
    (A .cast)] [Fact (A .mbx)] {a : State} {i : Fin 3} {ok : Bool} {agrees : Bool} {cfg : List (Nat × Nat × Bool ×
    Bool)} {s : State} (h : Kept A a s) : Answer.kept A a (@execFirmwareAuthenticationComplete i ok agrees cfg s) := by
  unfold execFirmwareAuthenticationComplete
  repeat' (first
    | with_reducible assumption
    | with_reducible apply kept_next
    | with_reducible apply kept_answer_ite
    | with_reducible apply kept_put
    | with_reducible apply kept_ite
    | with_reducible refine kept_when ?_ (fun _ _ => ?_)
    | with_reducible refine kept_each ?_ (fun _ _ _ => ?_)
    | with_reducible apply kept_declare
    | with_reducible apply kept_flag
    | with_reducible refine kept_foldl ?_ (fun _ _ _ => ?_)
    | split)

theorem kept_execSupervisorComplexReset {A : Area → Prop} [Fact (A .free)] [Fact (A .flow)] [Fact (A .pmcOn)] [Fact (A
    .ch)] [Fact (A .votes)] [Fact (A .store)] [Fact (A .sets)] [Fact (A .applied)] [Fact (A .calWait)] [Fact (A
    .cast)] [Fact (A .mbx)] {a : State} {win : Fin 7} {value : Word} {be : Fin 16} {s : State} (h : Kept A a s) :
    Answer.kept A a (@execSupervisorComplexReset win value be s) := by
  unfold execSupervisorComplexReset
  repeat' (first
    | with_reducible assumption
    | with_reducible apply kept_next
    | with_reducible apply kept_answer_ite
    | with_reducible apply kept_ite
    | with_reducible apply kept_hostWrite
    | with_reducible apply kept_cplxHook)

theorem kept_execSupervisorComplexResetComplete {A : Area → Prop} [Fact (A .free)] [Fact (A .flow)] [Fact (A .pmcOn)]
    [Fact (A .ch)] [Fact (A .votes)] [Fact (A .store)] [Fact (A .sets)] [Fact (A .applied)] [Fact (A .calWait)] [Fact
    (A .cast)] [Fact (A .mbx)] {a : State} {s : State} (h : Kept A a s) : Answer.kept A a
    (@execSupervisorComplexResetComplete s) := by
  unfold execSupervisorComplexResetComplete
  repeat' (first
    | with_reducible assumption
    | with_reducible apply kept_next
    | with_reducible apply kept_answer_ite
    | with_reducible apply kept_put
    | with_reducible apply kept_ite
    | with_reducible refine kept_when ?_ (fun _ _ => ?_)
    | with_reducible apply kept_bump
    | with_reducible apply kept_cplxServe)

theorem kept_execSupervisorHandback {A : Area → Prop} {a : State} {s : State} (h : Kept A a s) : Answer.kept A a
    (@execSupervisorHandback s) := by
  unfold execSupervisorHandback
  repeat' (first
    | with_reducible assumption
    | with_reducible apply kept_next
    | with_reducible apply kept_answer_ite
    | with_reducible apply kept_put
    | with_reducible apply kept_ite
    | with_reducible refine kept_when ?_ (fun _ _ => ?_))

theorem kept_execSupervisorHeartbeat {A : Area → Prop} {a : State} {i : Fin 3} {s : State} (h : Kept A a s) :
    Answer.kept A a (@execSupervisorHeartbeat i s) := by
  unfold execSupervisorHeartbeat
  repeat' (first
    | with_reducible assumption
    | with_reducible apply kept_next
    | with_reducible apply kept_answer_ite
    | with_reducible apply kept_put
    | with_reducible apply kept_ite
    | with_reducible refine kept_when ?_ (fun _ _ => ?_))

theorem kept_execSupervisorHeartbeatTimeout {A : Area → Prop} [Fact (A .free)] [Fact (A .flow)] [Fact (A .pmcOn)]
    [Fact (A .ch)] [Fact (A .votes)] [Fact (A .store)] [Fact (A .sets)] [Fact (A .applied)] [Fact (A .calWait)] [Fact
    (A .cast)] [Fact (A .mbx)] {a : State} {i : Fin 3} {s : State} (h : Kept A a s) : Answer.kept A a
    (@execSupervisorHeartbeatTimeout i s) := by
  unfold execSupervisorHeartbeatTimeout
  repeat' (first
    | with_reducible assumption
    | with_reducible apply kept_next
    | with_reducible apply kept_answer_ite
    | with_reducible apply kept_ite
    | with_reducible refine kept_when ?_ (fun _ _ => ?_)
    | with_reducible apply kept_declare)

theorem kept_execSupervisorRelease {A : Area → Prop} {a : State} {i : Fin 3} {s : State} (h : Kept A a s) :
    Answer.kept A a (@execSupervisorRelease i s) := by
  unfold execSupervisorRelease
  repeat' (first
    | with_reducible assumption
    | with_reducible apply kept_next
    | with_reducible apply kept_answer_ite
    | with_reducible apply kept_ite
    | with_reducible refine kept_when ?_ (fun _ _ => ?_)
    | with_reducible apply kept_supRelease)

theorem kept_execSupervisorSelfTestResult {A : Area → Prop} [Fact (A .free)] [Fact (A .flow)] [Fact (A .pmcOn)] [Fact
    (A .ch)] [Fact (A .votes)] [Fact (A .store)] [Fact (A .sets)] [Fact (A .applied)] [Fact (A .calWait)] [Fact (A
    .cast)] [Fact (A .mbx)] {a : State} {good0 : Bool} {good1 : Bool} {good2 : Bool} {s : State} (h : Kept A a s) :
    Answer.kept A a (@execSupervisorSelfTestResult good0 good1 good2 s) := by
  unfold execSupervisorSelfTestResult
  repeat' (first
    | with_reducible assumption
    | with_reducible apply kept_next
    | with_reducible apply kept_answer_ite
    | with_reducible apply kept_put
    | with_reducible apply kept_ite
    | with_reducible refine kept_when ?_ (fun _ _ => ?_)
    | with_reducible apply kept_declare
    | with_reducible apply kept_freeze
    | with_reducible refine kept_foldl ?_ (fun _ _ _ => ?_)
    | split
    | dsimp only)

theorem kept_execSupervisorStateTransferComplete {A : Area → Prop} [Fact (A .free)] [Fact (A .flow)] [Fact (A .pmcOn)]
    [Fact (A .ch)] [Fact (A .votes)] [Fact (A .store)] [Fact (A .sets)] [Fact (A .applied)] [Fact (A .calWait)] [Fact
    (A .cast)] [Fact (A .mbx)] {a : State} {i : Fin 3} {good : Bool} {s : State} (h : Kept A a s) : Answer.kept A a
    (@execSupervisorStateTransferComplete i good s) := by
  unfold execSupervisorStateTransferComplete
  repeat' (first
    | with_reducible assumption
    | with_reducible apply kept_next
    | with_reducible apply kept_answer_ite
    | with_reducible apply kept_put
    | with_reducible apply kept_ite
    | with_reducible refine kept_when ?_ (fun _ _ => ?_)
    | with_reducible apply kept_declare
    | with_reducible apply kept_showProb)

theorem kept_execVoteDecision {A : Area → Prop} [Fact (A .free)] [Fact (A .flow)] [Fact (A .pmcOn)] [Fact (A .ch)]
    [Fact (A .votes)] [Fact (A .store)] [Fact (A .sets)] [Fact (A .applied)] [Fact (A .calWait)] [Fact (A .cast)]
    [Fact (A .mbx)] {a : State} {d0 : Option Nat} {d1 : Option Nat} {d2 : Option Nat} {s : State} (h : Kept A a s) :
    Answer.kept A a (@execVoteDecision d0 d1 d2 s) := by
  unfold execVoteDecision
  repeat' (first
    | with_reducible assumption
    | with_reducible apply kept_next
    | with_reducible apply kept_answer_ite
    | with_reducible apply kept_put
    | with_reducible apply kept_ite
    | with_reducible refine kept_when ?_ (fun _ _ => ?_)
    | with_reducible apply kept_tally)

theorem kept_execVoteOpen {A : Area → Prop} [Fact (A .free)] [Fact (A .flow)] [Fact (A .pmcOn)] [Fact (A .ch)] [Fact
    (A .votes)] [Fact (A .store)] [Fact (A .sets)] [Fact (A .applied)] [Fact (A .calWait)] [Fact (A .cast)] [Fact (A
    .mbx)] {a : State} {s : State} (h : Kept A a s) : Answer.kept A a (@execVoteOpen s) := by
  unfold execVoteOpen
  repeat' (first
    | with_reducible assumption
    | with_reducible exact Or.inl Fact.out
    | with_reducible exact Or.inr rfl
    | with_reducible apply kept_next
    | with_reducible apply kept_answer_ite
    | with_reducible apply kept_put
    | with_reducible apply kept_ite
    | with_reducible refine kept_when ?_ (fun _ _ => ?_)
    | with_reducible apply kept_decide
    | with_reducible apply kept_mk)

end Sys2Proof.Machine
end

