-- ==== Sys2Proof/Laws/KeptMailbox.lean ====
section
/-! SUPPORT. What the operations of Machine/Mailbox.lean keep. -/

namespace Sys2Proof.Machine

theorem kept_liftUnit {A : Area → Prop} [Fact (A .flow)] [Fact (A .ch)] {a : State} {n : Nat} {u : FenceUnit} {s :
    State} (h : Kept A a s) : Kept A a (@State.liftUnit n u s) := by
  unfold State.liftUnit
  repeat' (first
    | with_reducible assumption
    | with_reducible apply kept_put
    | with_reducible apply kept_ite
    | with_reducible apply kept_clear
    | with_reducible apply kept_convRates
    | with_reducible apply kept_fecOcc
    | with_reducible apply kept_laneRefresh
    | with_reducible apply kept_putBit
    | with_reducible apply kept_rebudget
    | with_reducible apply kept_regain
    | with_reducible apply kept_sliceSum
    | with_reducible apply kept_startShadows
    | with_reducible apply kept_tileSum
    | with_reducible refine kept_foldl ?_ (fun _ _ _ => ?_)
    | split)

theorem kept_mbxAccept {A : Area → Prop} [Fact (A .mbx)] {a : State} {s : State} (h : Kept A a s) : Kept A a
    (@State.mbxAccept s) := by
  unfold State.mbxAccept
  repeat' (first
    | with_reducible assumption
    | with_reducible exact Or.inl Fact.out
    | with_reducible exact Or.inr rfl
    | with_reducible apply kept_put
    | with_reducible apply kept_ite
    | with_reducible refine kept_when ?_ (fun _ _ => ?_)
    | with_reducible apply kept_count
    | with_reducible apply kept_dmaNeed
    | with_reducible apply kept_mbxPost
    | with_reducible refine kept_foldl ?_ (fun _ _ _ => ?_)
    | split
    | with_reducible apply kept_mk)

theorem kept_mbxRun {A : Area → Prop} {a : State} {op : Nat} {tag : Nat} {f : MbxCmd → State → State} {s : State} (h :
    Kept A a s) (hf : ∀ y0 t, Kept A a t → Kept A a (f y0 t)) : Kept A a (@State.mbxRun op tag f s) := by
  unfold State.mbxRun
  repeat' (first
    | with_reducible assumption
    | with_reducible refine hf _ _ ?_
    | with_reducible apply kept_ite
    | with_reducible refine kept_foldl ?_ (fun _ _ _ => ?_)
    | split)

theorem kept_retestFail {A : Area → Prop} {a : State} {n : Nat} {u : FenceUnit} {s : State} (h : Kept A a s) : Kept A
    a (@State.retestFail n u s) := by
  unfold State.retestFail
  repeat' (first
    | with_reducible assumption
    | with_reducible apply kept_put
    | with_reducible apply kept_ite
    | with_reducible apply kept_raise
    | with_reducible apply kept_raiseCh
    | with_reducible apply kept_sliceMark
    | with_reducible refine kept_foldl ?_ (fun _ _ _ => ?_)
    | split)

theorem kept_retest {A : Area → Prop} [Fact (A .flow)] [Fact (A .ch)] [Fact (A .votes)] [Fact (A .sets)] [Fact (A
    .applied)] [Fact (A .calWait)] {a : State} {n : Nat} {cls : Nat} {i : Nat} {fails : List FenceUnit} {s : State} (h
    : Kept A a s) : Kept A a (@State.retest n cls i fails s).2 := by
  unfold State.retest
  repeat' (first
    | with_reducible assumption
    | with_reducible apply kept_ite
    | with_reducible apply kept_ite_snd
    | with_reducible refine kept_each ?_ (fun _ _ _ => ?_)
    | with_reducible apply kept_evalMode
    | with_reducible apply kept_liftUnit
    | with_reducible apply kept_retestFail
    | with_reducible apply kept_setCh
    | with_reducible apply kept_unitChanged)

theorem kept_setSlot {A : Area → Prop} [Fact (A .fw)] {a : State} {k : Nat} {w : Option FwSlot} {s : State} (h : Kept
    A a s) : Kept A a (@State.setSlot k w s) := by
  unfold State.setSlot
  repeat' (first
    | with_reducible assumption
    | with_reducible exact Or.inl Fact.out
    | with_reducible exact Or.inr rfl
    | with_reducible apply kept_put
    | with_reducible apply kept_ite
    | with_reducible apply kept_mk)

theorem kept_execEcho {A : Area → Prop} [Fact (A .mbx)] {a : State} {tag : Fin 256} {gen : Fin 256} {s : State} (h :
    Kept A a s) : Answer.kept A a (@execEcho tag gen s) := by
  unfold execEcho
  repeat' (first
    | with_reducible assumption
    | with_reducible apply kept_next
    | with_reducible apply kept_answer_ite
    | with_reducible apply kept_ite
    | with_reducible apply kept_mbxDone
    | with_reducible refine kept_mbxRun ?_ (fun _ _ _ => ?_))

theorem kept_execFenceClear {A : Area → Prop} [Fact (A .votes)] [Fact (A .mbx)] {a : State} {tag : Fin 256} {gen : Fin
    256} {s : State} (h : Kept A a s) : Answer.kept A a (@execFenceClear tag gen s) := by
  unfold execFenceClear
  repeat' (first
    | with_reducible assumption
    | with_reducible apply kept_next
    | with_reducible apply kept_answer_ite
    | with_reducible apply kept_ite
    | with_reducible apply kept_mbxDone
    | with_reducible refine kept_mbxRun ?_ (fun _ _ _ => ?_)
    | with_reducible apply kept_mbxStage
    | with_reducible apply kept_request)

theorem kept_execFenceRetestComplete {A : Area → Prop} [Fact (A .free)] [Fact (A .flow)] [Fact (A .ch)] [Fact (A
    .votes)] [Fact (A .sets)] [Fact (A .applied)] [Fact (A .calWait)] [Fact (A .mbx)] {a : State} {tag : Fin 256} {gen
    : Fin 256} {fails : List (Nat × Nat)} {s : State} (h : Kept A a s) : Answer.kept A a (@execFenceRetestComplete tag
    gen fails s) := by
  unfold execFenceRetestComplete
  repeat' (first
    | with_reducible assumption
    | with_reducible apply kept_next
    | with_reducible apply kept_answer_ite
    | with_reducible apply kept_ite
    | with_reducible apply kept_draw
    | with_reducible apply kept_mbxDone
    | with_reducible apply kept_retest
    | with_reducible refine kept_foldl ?_ (fun _ _ _ => ?_)
    | split)

theorem kept_execFwActivate {A : Area → Prop} [Fact (A .votes)] [Fact (A .mbx)] {a : State} {tag : Fin 256} {gen : Fin
    256} {s : State} (h : Kept A a s) : Answer.kept A a (@execFwActivate tag gen s) := by
  unfold execFwActivate
  repeat' (first
    | with_reducible assumption
    | with_reducible apply kept_next
    | with_reducible apply kept_answer_ite
    | with_reducible apply kept_ite
    | with_reducible apply kept_mbxDone
    | with_reducible refine kept_mbxRun ?_ (fun _ _ _ => ?_)
    | with_reducible apply kept_mbxStage
    | with_reducible apply kept_request)

theorem kept_execFwInfo {A : Area → Prop} [Fact (A .mbx)] {a : State} {tag : Fin 256} {gen : Fin 256} {s : State} (h :
    Kept A a s) : Answer.kept A a (@execFwInfo tag gen s) := by
  unfold execFwInfo
  repeat' (first
    | with_reducible assumption
    | with_reducible apply kept_next
    | with_reducible apply kept_answer_ite
    | with_reducible apply kept_ite
    | with_reducible apply kept_mbxDone
    | with_reducible refine kept_mbxRun ?_ (fun _ _ _ => ?_))

theorem kept_execFwLoad {A : Area → Prop} [Fact (A .fw)] [Fact (A .mbx)] {a : State} {tag : Fin 256} {gen : Fin 256}
    {image : Option (List Byte)} {s : State} (h : Kept A a s) : Answer.kept A a (@execFwLoad tag gen image s) := by
  unfold execFwLoad
  repeat' (first
    | with_reducible assumption
    | with_reducible apply kept_next
    | with_reducible apply kept_answer_ite
    | with_reducible apply kept_ite
    | with_reducible apply kept_dmaGot
    | with_reducible apply kept_mbxDone
    | with_reducible refine kept_mbxRun ?_ (fun _ _ _ => ?_)
    | with_reducible apply kept_setSlot
    | with_reducible refine kept_foldl ?_ (fun _ _ _ => ?_)
    | split)

theorem kept_execFwVerify {A : Area → Prop} [Fact (A .mbx)] {a : State} {tag : Fin 256} {gen : Fin 256} {s : State} (h
    : Kept A a s) : Answer.kept A a (@execFwVerify tag gen s) := by
  unfold execFwVerify
  repeat' (first
    | with_reducible assumption
    | with_reducible apply kept_next
    | with_reducible apply kept_answer_ite
    | with_reducible apply kept_put
    | with_reducible apply kept_ite
    | with_reducible apply kept_mbxDone
    | with_reducible refine kept_mbxRun ?_ (fun _ _ _ => ?_))

theorem kept_execLogRead {A : Area → Prop} [Fact (A .out)] [Fact (A .mbx)] {a : State} {tag : Fin 256} {gen : Fin 256}
    {data : Option (List Byte)} {s : State} (h : Kept A a s) : Answer.kept A a (@execLogRead tag gen data s) := by
  unfold execLogRead
  repeat' (first
    | with_reducible assumption
    | with_reducible apply kept_next
    | with_reducible apply kept_answer_ite
    | with_reducible apply kept_ite
    | with_reducible apply kept_emit
    | with_reducible apply kept_mbxDone
    | with_reducible refine kept_mbxRun ?_ (fun _ _ _ => ?_)
    | with_reducible refine kept_foldl ?_ (fun _ _ _ => ?_)
    | split)

theorem kept_execMailboxCommandAccept {A : Area → Prop} [Fact (A .mbx)] {a : State} {s : State} (h : Kept A a s) :
    Answer.kept A a (@execMailboxCommandAccept s) := by
  unfold execMailboxCommandAccept
  repeat' (first
    | with_reducible assumption
    | with_reducible apply kept_next
    | with_reducible apply kept_answer_ite
    | with_reducible apply kept_ite
    | with_reducible refine kept_when ?_ (fun _ _ => ?_)
    | with_reducible apply kept_mbxAccept)

theorem kept_mbxPostHook {A : Area → Prop} {win : Nat} {s0 : State} : (@mbxPostHook win s0).kept A := by
  unfold mbxPostHook
  repeat' (first
    | with_reducible exact kept_hook_plain
    | with_reducible apply kept_hook_ite
    | with_reducible apply kept_hookAt
    | with_reducible apply hooks_cons
    | with_reducible exact hooks_nil
    | (refine fun _ _ _ h => ?_; dsimp only)
    | with_reducible assumption
    | with_reducible apply kept_hook_ite
    | with_reducible exact kept_hook_plain
    | with_reducible apply kept_put
    | with_reducible apply kept_ite
    | with_reducible refine kept_each ?_ (fun _ _ _ => ?_)
    | with_reducible refine kept_foldl ?_ (fun _ _ _ => ?_)
    | split)

theorem kept_execMailboxCommandPost {A : Area → Prop} [Fact (A .ch)] {a : State} {win : Fin 7} {value : Word} {be :
    Fin 16} {s : State} (h : Kept A a s) : Answer.kept A a (@execMailboxCommandPost win value be s) := by
  unfold execMailboxCommandPost
  repeat' (first
    | with_reducible assumption
    | with_reducible apply kept_next
    | with_reducible apply kept_answer_ite
    | with_reducible apply kept_ite
    | with_reducible apply kept_hostWrite
    | with_reducible apply kept_mbxPostHook)

theorem kept_execMailboxResponseConsume {A : Area → Prop} [Fact (A .ch)] {a : State} {win : Fin 7} {value : Word} {be
    : Fin 16} {s : State} (h : Kept A a s) : Answer.kept A a (@execMailboxResponseConsume win value be s) := by
  unfold execMailboxResponseConsume
  repeat' (first
    | with_reducible assumption
    | with_reducible apply kept_next
    | with_reducible apply kept_answer_ite
    | with_reducible exact kept_hook_plain
    | with_reducible apply kept_ite
    | with_reducible apply kept_hostWrite)

theorem kept_execSupRestore {A : Area → Prop} [Fact (A .mbx)] {a : State} {tag : Fin 256} {gen : Fin 256} {s : State}
    (h : Kept A a s) : Answer.kept A a (@execSupRestore tag gen s) := by
  unfold execSupRestore
  repeat' (first
    | with_reducible assumption
    | with_reducible apply kept_next
    | with_reducible apply kept_answer_ite
    | with_reducible apply kept_ite
    | with_reducible apply kept_clear
    | with_reducible apply kept_mbxDone
    | with_reducible refine kept_mbxRun ?_ (fun _ _ _ => ?_)
    | with_reducible apply kept_supRelease)

theorem kept_execSupStatus {A : Area → Prop} [Fact (A .mbx)] {a : State} {tag : Fin 256} {gen : Fin 256} {s : State}
    (h : Kept A a s) : Answer.kept A a (@execSupStatus tag gen s) := by
  unfold execSupStatus
  repeat' (first
    | with_reducible assumption
    | with_reducible apply kept_next
    | with_reducible apply kept_answer_ite
    | with_reducible apply kept_ite
    | with_reducible apply kept_mbxDone
    | with_reducible refine kept_mbxRun ?_ (fun _ _ _ => ?_))

end Sys2Proof.Machine
end

