-- ==== Sys2Proof/Laws/KeptMemory.lean ====
section
/-! SUPPORT. What the operations of Machine/Memory.lean keep. -/

namespace Sys2Proof.Machine

/-- A change of tokens that leaves each in its direction keeps the laws. -/
theorem tokMap_conserved {f : Flow} {g : Token → Token} (hg : ∀ k, (g k).stage = k.stage) (h : f.conserved) :
    ({ f with tok := f.tok.map g } : Flow).conserved := by
  intro hw
  have := h hw
  simp only [Flow.balanced, Flow.txRes, Flow.rxRes, Flow.cwRes, Flow.crdRes, List.countP_map, Function.comp_def, hg] at this ⊢
  exact this

theorem kept_poisonTrib {A : Area → Prop} [Fact (A .flow)] {a : State} {n t : Nat} {s : State} (h : Kept A a s) : Kept
    A a (s.poisonTrib n t) := by
  unfold State.poisonTrib
  exact kept_onFlow _ h fun _ k => tokMap_conserved (fun _ => by split <;> rfl) k

theorem kept_controlLost {A : Area → Prop} [Fact (A .free)] [Fact (A .flow)] [Fact (A .pmcOn)] [Fact (A .ch)] [Fact (A
    .votes)] [Fact (A .out)] [Fact (A .store)] [Fact (A .sets)] [Fact (A .applied)] [Fact (A .calWait)] [Fact (A
    .cast)] [Fact (A .bootImage)] [Fact (A .mbx)] {a : State} {k : Holds} {s : State} (h : Kept A a s) : Kept A a
    (s.controlLost k) := by
  cases k with
  | tribEntry n t => exact kept_poisonTrib (kept_put _ _ h)
  | clientEntry n c =>
    unfold State.controlLost
    dsimp only
    split
    · exact kept_poisonTrib (kept_put _ _ h)
    · exact kept_put _ _ h
  | tenantEntry n t => exact kept_poisonTrib (kept_put _ _ h)
  | hostRead addr => exact kept_emit _ h
  | supervisor i => exact kept_declare h
  | casting => exact kept_castFault h
  | _ => exact h

theorem kept_eraseLlr {A : Area → Prop} [Fact (A .flow)] [Fact (A .ch)] {a : State} {n : Nat} {q : Nat} {i : Nat} {s :
    State} (h : Kept A a s) : Kept A a (@State.eraseLlr n q i s) := by
  unfold State.eraseLlr
  repeat' (first
    | with_reducible assumption
    | with_reducible apply kept_ite
    | with_reducible refine kept_onFlow _ ?_ (fun _ _ => ?_)
    | with_reducible apply kept_onDsp
    | with_reducible apply Flow.cwMap_conserved)

theorem kept_poisonToken {A : Area → Prop} [Fact (A .flow)] {a : State} {n : Nat} {rx : Bool} {t : Nat} {s : State} (h
    : Kept A a s) : Kept A a (@State.poisonToken n rx t s) := by
  unfold State.poisonToken
  repeat' (first
    | with_reducible assumption
    | with_reducible apply kept_ite
    | with_reducible refine kept_onFlow _ ?_ (fun _ _ => ?_)
    | with_reducible apply Flow.poisonOne_conserved)

theorem kept_datapathLost {A : Area → Prop} [Fact (A .flow)] [Fact (A .ch)] {a : State} {n : Nat} {k : Holds} {s :
    State} (h : Kept A a s) : Kept A a (@State.datapathLost n k s) := by
  unfold State.datapathLost
  repeat' (first
    | with_reducible assumption
    | with_reducible apply kept_ite
    | with_reducible refine kept_each ?_ (fun _ _ _ => ?_)
    | with_reducible apply kept_eraseLlr
    | with_reducible apply kept_poisonToken
    | with_reducible refine kept_foldl ?_ (fun _ _ _ => ?_)
    | split)

theorem kept_lineLost {A : Area → Prop} [Fact (A .free)] [Fact (A .flow)] [Fact (A .pmcOn)] [Fact (A .ch)] [Fact (A
    .votes)] [Fact (A .out)] [Fact (A .store)] [Fact (A .sets)] [Fact (A .applied)] [Fact (A .calWait)] [Fact (A
    .cast)] [Fact (A .bootImage)] [Fact (A .mbx)] {a : State} {bank : Nat} {k : Holds} {s : State} (h : Kept A a s) :
    Kept A a (@State.lineLost bank k s) := by
  unfold State.lineLost
  repeat' (first
    | with_reducible assumption
    | with_reducible apply kept_ite
    | with_reducible refine kept_when ?_ (fun _ _ => ?_)
    | with_reducible apply kept_controlLost
    | with_reducible apply kept_datapathLost
    | with_reducible refine kept_foldl ?_ (fun _ _ _ => ?_)
    | split)

theorem kept_memCount {A : Area → Prop} {a : State} {kind : Nat} {phys : Nat} {s : State} (h : Kept A a s) : Kept A a
    (@State.memCount kind phys s) := by
  unfold State.memCount
  repeat' (first
    | with_reducible assumption
    | with_reducible apply kept_put
    | with_reducible apply kept_ite
    | with_reducible apply kept_bump
    | with_reducible apply kept_count)

theorem kept_memLog {A : Area → Prop} {a : State} {kind : Nat} {src : Nat} {nbytes : Nat} {byte : Nat} {phys : Nat}
    {mla : Nat} {s : State} (h : Kept A a s) : Kept A a (@State.memLog kind src nbytes byte phys mla s) := by
  unfold State.memLog
  repeat' (first
    | with_reducible assumption
    | with_reducible apply kept_put
    | with_reducible apply kept_ite
    | with_reducible refine kept_when ?_ (fun _ _ => ?_)
    | with_reducible apply kept_put64
    | with_reducible apply kept_raise)

theorem dropLine_eq (loc : Nat) (l : List LineAt) : dropLine loc l = l.filter (fun x => x.loc ≠ loc) := by
  induction l with
  | nil => rfl
  | cons x l ih => simp only [dropLine]; split <;> simp_all

theorem insertLine_mem {loc : Nat} {v : SramLine} {l : List LineAt} {q : LineAt} (h : q ∈ insertLine loc v l) :
    q = ⟨loc, v⟩ ∨ q ∈ l := by
  induction l with
  | nil => simpa [insertLine] using h
  | cons p l ih =>
    simp only [insertLine] at h
    split at h
    · simpa using h
    · rcases List.mem_cons.1 h with h | h
      · simp [h]
      · rcases ih h with h | h <;> simp [h]

theorem insertLine_rise {loc : Nat} {v : SramLine} {l : List LineAt} (h : linesRise l) (hk : ∀ p ∈ l, p.loc ≠ loc) :
    linesRise (insertLine loc v l) := by
  induction l with
  | nil => simp [insertLine, linesRise]
  | cons p l ih =>
    simp only [linesRise, List.map_cons, List.pairwise_cons, List.mem_map] at h
    simp only [insertLine]
    split
    · rename_i hlt
      simp only [linesRise, List.map_cons, List.pairwise_cons, List.mem_cons, List.mem_map]
      refine ⟨?_, ?_, h.2⟩
      · rintro x (rfl | ⟨q, hq, rfl⟩)
        · exact hlt
        · exact Nat.lt_trans hlt (h.1 _ ⟨q, hq, rfl⟩)
      · exact h.1
    · simp only [linesRise, List.map_cons, List.pairwise_cons, List.mem_map]
      refine ⟨?_, ih h.2 (fun q hq => hk q (by simp [hq]))⟩
      rintro x ⟨q, hq, rfl⟩
      have := hk p (by simp)
      rcases insertLine_mem hq with rfl | hq
      · simp at this ⊢; omega
      · exact h.1 _ ⟨q, hq, rfl⟩

/-- The lines stay in their canonical form. -/
theorem setLine_rise {loc : Nat} {v : SramLine} {l : List LineAt} (h : linesRise l) : linesRise (setLine loc v l) := by
  have d : linesRise (l.filter (fun x => x.loc ≠ loc)) := List.Pairwise.sublist (List.Sublist.map _ List.filter_sublist) h
  unfold setLine
  rw [dropLine_eq]
  split
  · exact d
  · exact insertLine_rise d (by simp)

theorem kept_putPhys {A : Area → Prop} [Fact (A .sram)] {a : State} {phys line : Nat} {v : SramLine} {s : State} (h :
    Kept A a s) : Kept A a (s.putPhys phys line v) :=
  kept_mk_forms h (Or.inr rfl) (Or.inr rfl) (Or.inr rfl) (Or.inr rfl) (Or.inr rfl) (Or.inr rfl) (Or.inr rfl) (Or.inr rfl) (Or.inr rfl) (Or.inr rfl) (Or.inr rfl) (Or.inr rfl) (Or.inr rfl) (Or.inr rfl) (Or.inr rfl) (Or.inl Fact.out) (Or.inr rfl) (Or.inr rfl) (Or.inr rfl) (Or.inr rfl) id (setLine_rise) id id id id

theorem kept_putLine {A : Area → Prop} [Fact (A .sram)] {a : State} {bank : Nat} {line : Nat} {v : SramLine} {s :
    State} (h : Kept A a s) : Kept A a (@State.putLine bank line v s) := by
  unfold State.putLine
  repeat' (first
    | with_reducible assumption
    | with_reducible apply kept_ite
    | with_reducible refine kept_when ?_ (fun _ _ => ?_)
    | with_reducible apply kept_putPhys)

theorem kept_lineRead {A : Area → Prop} [Fact (A .free)] [Fact (A .flow)] [Fact (A .pmcOn)] [Fact (A .ch)] [Fact (A
    .votes)] [Fact (A .out)] [Fact (A .store)] [Fact (A .sets)] [Fact (A .applied)] [Fact (A .calWait)] [Fact (A
    .cast)] [Fact (A .bootImage)] [Fact (A .mbx)] [Fact (A .sram)] {a : State} {bank : Nat} {line : Nat} {src : Nat}
    {k : Holds} {upset : SramLine} {stuck : Bool} {s : State} (h : Kept A a s) : Kept A a (@State.lineRead bank line
    src k upset stuck s).1 := by
  unfold State.lineRead
  repeat' (first
    | with_reducible assumption
    | with_reducible apply kept_ite
    | with_reducible apply kept_ite_fst
    | with_reducible refine kept_each ?_ (fun _ _ _ => ?_)
    | with_reducible apply kept_breach
    | with_reducible apply kept_lineLost
    | with_reducible apply kept_memCount
    | with_reducible apply kept_memLog
    | with_reducible apply kept_putLine
    | with_reducible apply kept_putPhys
    | with_reducible refine kept_foldl ?_ (fun _ _ _ => ?_)
    | split
    | dsimp only)

theorem kept_retireFail {A : Area → Prop} {a : State} {cause : Nat} {s : State} (h : Kept A a s) : Kept A a
    (@State.retireFail cause s) := by
  unfold State.retireFail
  repeat' (first
    | with_reducible assumption
    | with_reducible apply kept_put)

theorem kept_scrubEnd {A : Area → Prop} {a : State} {how : Nat} {s : State} (h : Kept A a s) : Kept A a
    (@State.scrubEnd how s) := by
  unfold State.scrubEnd
  repeat' (first
    | with_reducible assumption
    | with_reducible apply kept_put
    | with_reducible apply kept_ite
    | with_reducible apply kept_put64
    | with_reducible apply kept_raise)

theorem kept_scrubFail {A : Area → Prop} {a : State} {m : Nat} {f : Field} {s : State} (h : Kept A a s) : Kept A a
    (@State.scrubFail m f s) := by
  unfold State.scrubFail
  repeat' (first
    | with_reducible assumption
    | with_reducible apply kept_put
    | with_reducible apply kept_ite
    | with_reducible refine kept_when ?_ (fun _ _ => ?_)
    | with_reducible apply kept_addWrap)

theorem kept_scrubLine {A : Area → Prop} [Fact (A .free)] [Fact (A .flow)] [Fact (A .pmcOn)] [Fact (A .ch)] [Fact (A
    .votes)] [Fact (A .out)] [Fact (A .store)] [Fact (A .sets)] [Fact (A .applied)] [Fact (A .calWait)] [Fact (A
    .cast)] [Fact (A .bootImage)] [Fact (A .mbx)] [Fact (A .sram)] {a : State} {k : Holds} {upset : SramLine} {stuck :
    Bool} {s : State} (h : Kept A a s) : Kept A a (@State.scrubLine k upset stuck s) := by
  unfold State.scrubLine
  repeat' (first
    | with_reducible assumption
    | with_reducible apply kept_put
    | with_reducible apply kept_ite
    | with_reducible refine kept_when ?_ (fun _ _ => ?_)
    | with_reducible apply kept_addWrap
    | with_reducible apply kept_count
    | with_reducible apply kept_lineRead
    | with_reducible apply kept_scrubEnd
    | with_reducible apply kept_scrubFail
    | with_reducible refine kept_foldl ?_ (fun _ _ _ => ?_)
    | split)

theorem kept_scrubStart {A : Area → Prop} {a : State} {s : State} (h : Kept A a s) : Kept A a (@State.scrubStart s) :=
    by
  unfold State.scrubStart
  repeat' (first
    | with_reducible assumption
    | with_reducible apply kept_put
    | with_reducible apply kept_ite
    | with_reducible apply kept_clear)

theorem kept_retireHook {A : Area → Prop} : (@retireHook).kept A := by
  unfold retireHook
  repeat' (first
    | with_reducible exact kept_hook_plain
    | with_reducible apply kept_hook_ite
    | with_reducible apply kept_hookAt
    | with_reducible apply hooks_cons
    | with_reducible exact hooks_nil
    | (refine fun _ _ _ h => ?_; dsimp only)
    | with_reducible assumption
    | with_reducible apply kept_hook_ite
    | with_reducible exact kept_hook_plain
    | with_reducible apply kept_put
    | with_reducible apply kept_ite
    | with_reducible refine kept_foldl ?_ (fun _ _ _ => ?_)
    | split)

theorem kept_execBankRetirementStart {A : Area → Prop} [Fact (A .ch)] {a : State} {win : Fin 7} {value : Word} {be :
    Fin 16} {s : State} (h : Kept A a s) : Answer.kept A a (@execBankRetirementStart win value be s) := by
  unfold execBankRetirementStart
  repeat' (first
    | with_reducible assumption
    | with_reducible apply kept_next
    | with_reducible apply kept_answer_ite
    | with_reducible apply kept_ite
    | with_reducible apply kept_hostWrite
    | with_reducible apply kept_retireHook)

theorem kept_execMemoryLineRead {A : Area → Prop} [Fact (A .free)] [Fact (A .flow)] [Fact (A .pmcOn)] [Fact (A .ch)]
    [Fact (A .votes)] [Fact (A .out)] [Fact (A .store)] [Fact (A .sets)] [Fact (A .applied)] [Fact (A .calWait)] [Fact
    (A .cast)] [Fact (A .bootImage)] [Fact (A .mbx)] [Fact (A .sram)] {a : State} {bank : Fin 68} {line : Fin 40960}
    {src : Fin 7} {holds : Holds} {upset : SramLine} {stuck : Bool} {s : State} (h : Kept A a s) : Answer.kept A a
    (@execMemoryLineRead bank line src holds upset stuck s) := by
  unfold execMemoryLineRead
  repeat' (first
    | with_reducible assumption
    | with_reducible apply kept_next
    | with_reducible apply kept_answer_ite
    | with_reducible apply kept_ite
    | with_reducible refine kept_when ?_ (fun _ _ => ?_)
    | with_reducible apply kept_lineRead)

theorem kept_execMemoryLineWrite {A : Area → Prop} [Fact (A .free)] [Fact (A .flow)] [Fact (A .pmcOn)] [Fact (A .ch)]
    [Fact (A .votes)] [Fact (A .out)] [Fact (A .store)] [Fact (A .sets)] [Fact (A .applied)] [Fact (A .calWait)] [Fact
    (A .cast)] [Fact (A .bootImage)] [Fact (A .mbx)] [Fact (A .sram)] {a : State} {bank : Fin 68} {line : Fin 40960}
    {src : Fin 7} {holds : Holds} {upset : SramLine} {data : BitVec 512} {mask : BitVec 64} {s : State} (h : Kept A a
    s) : Answer.kept A a (@execMemoryLineWrite bank line src holds upset data mask s) := by
  unfold execMemoryLineWrite
  repeat' (first
    | with_reducible assumption
    | with_reducible apply kept_next
    | with_reducible apply kept_answer_ite
    | with_reducible apply kept_ite
    | with_reducible refine kept_when ?_ (fun _ _ => ?_)
    | with_reducible apply kept_lineRead
    | with_reducible apply kept_putLine
    | with_reducible refine kept_foldl ?_ (fun _ _ _ => ?_)
    | split
    | dsimp only)

theorem kept_execRetirementCopyLine {A : Area → Prop} [Fact (A .free)] [Fact (A .flow)] [Fact (A .pmcOn)] [Fact (A
    .ch)] [Fact (A .votes)] [Fact (A .out)] [Fact (A .store)] [Fact (A .sets)] [Fact (A .applied)] [Fact (A .calWait)]
    [Fact (A .cast)] [Fact (A .bootImage)] [Fact (A .mbx)] [Fact (A .sram)] {a : State} {holds : Holds} {upset :
    SramLine} {stuck : Bool} {fails : Bool} {s : State} (h : Kept A a s) : Answer.kept A a (@execRetirementCopyLine
    holds upset stuck fails s) := by
  unfold execRetirementCopyLine
  repeat' (first
    | with_reducible assumption
    | with_reducible apply kept_next
    | with_reducible apply kept_answer_ite
    | with_reducible apply kept_put
    | with_reducible apply kept_ite
    | with_reducible refine kept_when ?_ (fun _ _ => ?_)
    | with_reducible apply kept_lineRead
    | with_reducible apply kept_putPhys
    | with_reducible apply kept_retireFail)

theorem kept_execRetirementSwitch {A : Area → Prop} {a : State} {s : State} (h : Kept A a s) : Answer.kept A a
    (@execRetirementSwitch s) := by
  unfold execRetirementSwitch
  repeat' (first
    | with_reducible assumption
    | with_reducible apply kept_next
    | with_reducible apply kept_answer_ite
    | with_reducible apply kept_put
    | with_reducible apply kept_ite
    | with_reducible refine kept_when ?_ (fun _ _ => ?_))

theorem kept_scrubHook {A : Area → Prop} : (@scrubHook).kept A := by
  unfold scrubHook
  repeat' (first
    | with_reducible exact kept_hook_plain
    | with_reducible apply kept_hook_ite
    | with_reducible apply kept_hookAt
    | with_reducible apply hooks_cons
    | with_reducible exact hooks_nil
    | (refine fun _ _ _ h => ?_; dsimp only)
    | with_reducible assumption
    | with_reducible apply kept_hook_ite
    | with_reducible exact kept_hook_plain
    | with_reducible apply kept_put
    | with_reducible apply kept_ite
    | with_reducible refine kept_when ?_ (fun _ _ => ?_)
    | with_reducible apply kept_scrubEnd
    | with_reducible apply kept_scrubStart)

theorem kept_execScrubAbort {A : Area → Prop} [Fact (A .ch)] {a : State} {win : Fin 7} {value : Word} {be : Fin 16} {s
    : State} (h : Kept A a s) : Answer.kept A a (@execScrubAbort win value be s) := by
  unfold execScrubAbort
  repeat' (first
    | with_reducible assumption
    | with_reducible apply kept_next
    | with_reducible apply kept_answer_ite
    | with_reducible apply kept_ite
    | with_reducible apply kept_hostWrite
    | with_reducible apply kept_scrubHook)

theorem kept_execScrubLine {A : Area → Prop} [Fact (A .free)] [Fact (A .flow)] [Fact (A .pmcOn)] [Fact (A .ch)] [Fact
    (A .votes)] [Fact (A .out)] [Fact (A .store)] [Fact (A .sets)] [Fact (A .applied)] [Fact (A .calWait)] [Fact (A
    .cast)] [Fact (A .bootImage)] [Fact (A .mbx)] [Fact (A .sram)] {a : State} {holds : Holds} {upset : SramLine}
    {stuck : Bool} {s : State} (h : Kept A a s) : Answer.kept A a (@execScrubLine holds upset stuck s) := by
  unfold execScrubLine
  repeat' (first
    | with_reducible assumption
    | with_reducible apply kept_next
    | with_reducible apply kept_answer_ite
    | with_reducible apply kept_ite
    | with_reducible refine kept_when ?_ (fun _ _ => ?_)
    | with_reducible apply kept_scrubLine)

theorem kept_execScrubPause {A : Area → Prop} [Fact (A .ch)] {a : State} {win : Fin 7} {value : Word} {be : Fin 16} {s
    : State} (h : Kept A a s) : Answer.kept A a (@execScrubPause win value be s) := by
  unfold execScrubPause
  repeat' (first
    | with_reducible assumption
    | with_reducible apply kept_next
    | with_reducible apply kept_answer_ite
    | with_reducible apply kept_ite
    | with_reducible apply kept_hostWrite
    | with_reducible apply kept_scrubHook)

theorem kept_execScrubResume {A : Area → Prop} [Fact (A .ch)] {a : State} {win : Fin 7} {value : Word} {be : Fin 16}
    {s : State} (h : Kept A a s) : Answer.kept A a (@execScrubResume win value be s) := by
  unfold execScrubResume
  repeat' (first
    | with_reducible assumption
    | with_reducible apply kept_next
    | with_reducible apply kept_answer_ite
    | with_reducible apply kept_ite
    | with_reducible apply kept_hostWrite
    | with_reducible apply kept_scrubHook)

theorem kept_execScrubStart {A : Area → Prop} [Fact (A .ch)] {a : State} {win : Fin 7} {value : Word} {be : Fin 16} {s
    : State} (h : Kept A a s) : Answer.kept A a (@execScrubStart win value be s) := by
  unfold execScrubStart
  repeat' (first
    | with_reducible assumption
    | with_reducible apply kept_next
    | with_reducible apply kept_answer_ite
    | with_reducible apply kept_ite
    | with_reducible apply kept_hostWrite
    | with_reducible apply kept_scrubHook)

end Sys2Proof.Machine
end

