-- ==== Sys2Proof/Laws/KeptBoundary.lean ====
section
/-! SUPPORT. What the operations of Machine/Boundary.lean keep. -/

namespace Sys2Proof.Machine

theorem kept_announceAt {A : Area → Prop} {a : State} {n : Nat} {s : State} (h : Kept A a s) : Kept A a
    (@State.announceAt n s) := by
  unfold State.announceAt
  repeat' (first
    | with_reducible assumption
    | with_reducible apply kept_ite
    | with_reducible apply kept_announce
    | with_reducible refine kept_foldl ?_ (fun _ _ _ => ?_)
    | split)

theorem kept_commitAt {A : Area → Prop} [Fact (A .flow)] [Fact (A .ch)] [Fact (A .votes)] [Fact (A .sets)] [Fact (A
    .applied)] [Fact (A .calWait)] {a : State} {n : Nat} {late : Bool} {s : State} (h : Kept A a s) : Kept A a
    (@State.commitAt n late s) := by
  unfold State.commitAt
  repeat' (first
    | with_reducible assumption
    | with_reducible apply kept_put
    | with_reducible apply kept_ite
    | with_reducible apply kept_stepFiveAt
    | with_reducible apply kept_stepFourAt)

theorem kept_framedAt {A : Area → Prop} [Fact (A .ch)] {a : State} {n : Nat} {s : State} (h : Kept A a s) : Kept A a
    (@State.framedAt n s) := by
  unfold State.framedAt
  repeat' (first
    | with_reducible assumption
    | with_reducible apply kept_put
    | with_reducible apply kept_ite
    | with_reducible refine kept_when ?_ (fun _ _ => ?_)
    | with_reducible apply kept_applyFramed)

theorem kept_lineAt {A : Area → Prop} [Fact (A .ch)] {a : State} {n : Nat} {s : State} (h : Kept A a s) : Kept A a
    (@State.lineAt n s) := by
  unfold State.lineAt
  repeat' (first
    | with_reducible assumption
    | with_reducible apply kept_ite
    | with_reducible apply kept_lineBoundary)

theorem kept_rszTableAt {A : Area → Prop} [Fact (A .flow)] [Fact (A .ch)] {a : State} {n : Nat} {s : State} (h : Kept
    A a s) : Kept A a (@State.rszTableAt n s) := by
  unfold State.rszTableAt
  repeat' (first
    | with_reducible assumption
    | with_reducible apply kept_put
    | with_reducible apply kept_ite
    | with_reducible refine kept_each ?_ (fun _ _ _ => ?_)
    | with_reducible apply kept_hstRefresh
    | with_reducible apply kept_onChan
    | with_reducible apply kept_takeEntry
    | with_reducible apply kept_trbStat)

theorem kept_txBoundary {A : Area → Prop} [Fact (A .free)] [Fact (A .flow)] [Fact (A .ch)] [Fact (A .votes)] [Fact (A
    .sets)] [Fact (A .applied)] [Fact (A .calWait)] [Fact (A .cast)] {a : State} {n : Nat} {late : Bool} {s : State}
    (h : Kept A a s) : Kept A a (@State.txBoundary n late s) := by
  unfold State.txBoundary
  repeat' (first
    | with_reducible assumption
    | with_reducible apply kept_ite
    | with_reducible apply kept_addWrap
    | with_reducible apply kept_announceAt
    | with_reducible apply kept_calCommit
    | with_reducible apply kept_castCheckEnd
    | with_reducible apply kept_commitAt
    | with_reducible apply kept_framedAt
    | with_reducible apply kept_issueCredits
    | with_reducible apply kept_lineAt
    | with_reducible apply kept_quarantineEnd
    | with_reducible apply kept_retainedErase
    | with_reducible apply kept_rollCheck
    | with_reducible apply kept_rollFlip
    | with_reducible apply kept_rszTableAt
    | with_reducible apply kept_suspendStep)

theorem kept_execRxMultiframeBoundary {A : Area → Prop} [Fact (A .flow)] [Fact (A .ch)] [Fact (A .votes)] [Fact (A
    .sets)] [Fact (A .applied)] [Fact (A .calWait)] {a : State} {n : Fin 4} {s : State} (h : Kept A a s) : Answer.kept
    A a (@execRxMultiframeBoundary n s) := by
  unfold execRxMultiframeBoundary
  repeat' (first
    | with_reducible assumption
    | with_reducible apply kept_next
    | with_reducible apply kept_answer_ite
    | with_reducible apply kept_ite
    | with_reducible refine kept_when ?_ (fun _ _ => ?_)
    | with_reducible apply kept_converge
    | with_reducible apply kept_rxBoundary)

theorem kept_execTxMultiframeBoundary {A : Area → Prop} [Fact (A .free)] [Fact (A .flow)] [Fact (A .ch)] [Fact (A
    .votes)] [Fact (A .sets)] [Fact (A .applied)] [Fact (A .calWait)] [Fact (A .cast)] {a : State} {n : Fin 4} {late :
    Bool} {s : State} (h : Kept A a s) : Answer.kept A a (@execTxMultiframeBoundary n late s) := by
  unfold execTxMultiframeBoundary
  repeat' (first
    | with_reducible assumption
    | with_reducible apply kept_next
    | with_reducible apply kept_answer_ite
    | with_reducible apply kept_ite
    | with_reducible refine kept_when ?_ (fun _ _ => ?_)
    | with_reducible apply kept_txBoundary)

end Sys2Proof.Machine
end

