-- ==== Sys2Proof/Laws/KeptQueues.lean ====
section
/-! SUPPORT. What the operations of Machine/Queues.lean keep. -/

namespace Sys2Proof.Machine

theorem kept_dmaRecord {A : Area → Prop} [Fact (A .out)] {a : State} {q : Nat} {done : Bool} {s : State} (h : Kept A a
    s) : Kept A a (@State.dmaRecord q done s) := by
  unfold State.dmaRecord
  repeat' (first
    | with_reducible assumption
    | with_reducible apply kept_put
    | with_reducible apply kept_ite
    | with_reducible refine kept_when ?_ (fun _ _ => ?_)
    | with_reducible apply kept_emit)

theorem kept_dmaFault {A : Area → Prop} [Fact (A .out)] {a : State} {q : Nat} {cause : Nat} {s : State} (h : Kept A a
    s) : Kept A a (@State.dmaFault q cause s) := by
  unfold State.dmaFault
  repeat' (first
    | with_reducible assumption
    | with_reducible apply kept_put
    | with_reducible apply kept_ite
    | with_reducible apply kept_bump
    | with_reducible apply kept_dmaGot
    | with_reducible apply kept_dmaRecord
    | with_reducible apply kept_raise)

theorem kept_dmaFaultAll {A : Area → Prop} [Fact (A .out)] {a : State} {cause : Nat} {s : State} (h : Kept A a s) :
    Kept A a (@State.dmaFaultAll cause s) := by
  unfold State.dmaFaultAll
  repeat' (first
    | with_reducible assumption
    | with_reducible apply kept_ite
    | with_reducible refine kept_when ?_ (fun _ _ => ?_)
    | with_reducible refine kept_each ?_ (fun _ _ _ => ?_)
    | with_reducible apply kept_dmaFault)

theorem kept_busMasterOff {A : Area → Prop} [Fact (A .out)] {a : State} {s : State} (h : Kept A a s) : Kept A a
    (@State.busMasterOff s) := by
  unfold State.busMasterOff
  repeat' (first
    | with_reducible assumption
    | with_reducible apply kept_put
    | with_reducible apply kept_ite
    | with_reducible apply kept_dmaFaultAll)

theorem kept_clientErrors {A : Area → Prop} [Fact (A .free)] [Fact (A .out)] [Fact (A .cast)] {a : State} {s : State}
    (h : Kept A a s) : Kept A a (@State.clientErrors s) := by
  unfold State.clientErrors
  repeat' (first
    | with_reducible assumption
    | with_reducible apply kept_put
    | with_reducible apply kept_ite
    | with_reducible refine kept_when ?_ (fun _ _ => ?_)
    | with_reducible apply kept_bulkFault
    | with_reducible apply kept_castRefuse
    | with_reducible apply kept_dmaAbort
    | with_reducible apply kept_dmaFaultAll)

theorem kept_configReset {A : Area → Prop} {a : State} {s : State} (h : Kept A a s) : Kept A a (@State.configReset s)
    := by
  unfold State.configReset
  repeat' (first
    | with_reducible assumption
    | with_reducible apply kept_put
    | with_reducible apply kept_ite
    | with_reducible refine kept_each ?_ (fun _ _ _ => ?_)
    | with_reducible apply kept_clear)

theorem kept_setDma {A : Area → Prop} [Fact (A .dma)] {a : State} {q : Nat} {d : DmaRun} {s : State} (h : Kept A a s)
    : Kept A a (@State.setDma q d s) := by
  unfold State.setDma
  repeat' (first
    | with_reducible assumption
    | with_reducible exact Or.inl Fact.out
    | with_reducible exact Or.inr rfl
    | with_reducible apply kept_ite
    | with_reducible apply kept_mk)

theorem kept_dmaBegin {A : Area → Prop} [Fact (A .out)] [Fact (A .dma)] {a : State} {q : Nat} {i : Nat} {s : State} (h
    : Kept A a s) : Kept A a (@State.dmaBegin q i s) := by
  unfold State.dmaBegin
  repeat' (first
    | with_reducible assumption
    | with_reducible apply kept_put
    | with_reducible apply kept_ite
    | with_reducible apply kept_dmaFault
    | with_reducible apply kept_dmaNeed
    | with_reducible apply kept_setDma)

theorem kept_dmaComplete {A : Area → Prop} [Fact (A .out)] {a : State} {q : Nat} {s : State} (h : Kept A a s) : Kept A
    a (@State.dmaComplete q s) := by
  unfold State.dmaComplete
  repeat' (first
    | with_reducible assumption
    | with_reducible apply kept_put
    | with_reducible apply kept_ite
    | with_reducible refine kept_when ?_ (fun _ _ => ?_)
    | with_reducible apply kept_addWrap
    | with_reducible apply kept_bump
    | with_reducible apply kept_dmaGot
    | with_reducible apply kept_dmaRecord
    | with_reducible apply kept_sendMsix)

theorem kept_linkOff {A : Area → Prop} {a : State} {s : State} (h : Kept A a s) : Kept A a (@State.linkOff s) := by
  unfold State.linkOff
  repeat' (first
    | with_reducible assumption
    | with_reducible apply kept_ite
    | with_reducible apply kept_clear)

theorem kept_portReset {A : Area → Prop} [Fact (A .free)] [Fact (A .out)] [Fact (A .cast)] {a : State} {s : State} (h
    : Kept A a s) : Kept A a (@State.portReset s) := by
  unfold State.portReset
  repeat' (first
    | with_reducible assumption
    | with_reducible apply kept_ite
    | with_reducible apply kept_clientErrors
    | with_reducible apply kept_configReset)

theorem kept_readError {A : Area → Prop} [Fact (A .free)] [Fact (A .out)] [Fact (A .cast)] {a : State} {c : Nat}
    {cause : Nat} {s : State} (h : Kept A a s) : Kept A a (@State.readError c cause s) := by
  unfold State.readError
  repeat' (first
    | with_reducible assumption
    | with_reducible apply kept_put
    | with_reducible apply kept_ite
    | with_reducible refine kept_when ?_ (fun _ _ => ?_)
    | with_reducible apply kept_bulkFault
    | with_reducible apply kept_bump
    | with_reducible apply kept_castRefuse
    | with_reducible apply kept_dmaFault
    | with_reducible apply kept_raise)

theorem kept_execBusMasterEnableClear {A : Area → Prop} [Fact (A .out)] {a : State} {s : State} (h : Kept A a s) :
    Answer.kept A a (@execBusMasterEnableClear s) := by
  unfold execBusMasterEnableClear
  repeat' (first
    | with_reducible assumption
    | with_reducible apply kept_next
    | with_reducible apply kept_answer_ite
    | with_reducible apply kept_ite
    | with_reducible refine kept_when ?_ (fun _ _ => ?_)
    | with_reducible apply kept_busMasterOff)

theorem kept_execDmaCompletionTimeout {A : Area → Prop} [Fact (A .free)] [Fact (A .out)] [Fact (A .cast)] {a : State}
    {c : Fin 7} {s : State} (h : Kept A a s) : Answer.kept A a (@execDmaCompletionTimeout c s) := by
  unfold execDmaCompletionTimeout
  repeat' (first
    | with_reducible assumption
    | with_reducible apply kept_next
    | with_reducible apply kept_answer_ite
    | with_reducible apply kept_ite
    | with_reducible refine kept_when ?_ (fun _ _ => ?_)
    | with_reducible apply kept_dmaRead
    | with_reducible apply kept_readError)

theorem kept_execDmaDescriptorStart {A : Area → Prop} [Fact (A .out)] [Fact (A .dma)] {a : State} {q : Fin 4} {s :
    State} (h : Kept A a s) : Answer.kept A a (@execDmaDescriptorStart q s) := by
  unfold execDmaDescriptorStart
  repeat' (first
    | with_reducible assumption
    | with_reducible apply kept_next
    | with_reducible apply kept_answer_ite
    | with_reducible apply kept_put
    | with_reducible apply kept_ite
    | with_reducible refine kept_when ?_ (fun _ _ => ?_)
    | with_reducible apply kept_dmaBegin)

theorem kept_queueCmdHook {A : Area → Prop} [Fact (A .out)] [Fact (A .dma)] {q : Nat} : (@queueCmdHook q).kept A := by
  unfold queueCmdHook
  repeat' (first
    | with_reducible exact kept_hook_plain
    | with_reducible apply kept_hook_ite
    | with_reducible apply kept_hookAt
    | with_reducible apply hooks_cons
    | with_reducible exact hooks_nil
    | (refine fun _ _ _ h => ?_; dsimp only)
    | with_reducible assumption
    | with_reducible apply kept_hook_ite
    | with_reducible exact kept_hook_plain
    | with_reducible apply kept_ite
    | with_reducible apply kept_dmaBegin
    | with_reducible apply kept_dmaComplete
    | with_reducible apply kept_dmaFault)

theorem kept_queueCtrlHook {A : Area → Prop} [Fact (A .out)] {q : Nat} : (@queueCtrlHook q).kept A := by
  unfold queueCtrlHook
  repeat' (first
    | with_reducible exact kept_hook_plain
    | with_reducible apply kept_hook_ite
    | with_reducible apply kept_hookAt
    | with_reducible apply hooks_cons
    | with_reducible exact hooks_nil
    | (refine fun _ _ _ h => ?_; dsimp only)
    | with_reducible assumption
    | with_reducible apply kept_hook_ite
    | with_reducible exact kept_hook_plain
    | with_reducible apply kept_ite
    | with_reducible refine kept_when ?_ (fun _ _ => ?_)
    | with_reducible apply kept_dmaFault)

theorem kept_execDmaQueueAbort {A : Area → Prop} [Fact (A .ch)] [Fact (A .out)] [Fact (A .dma)] {a : State} {win : Fin
    7} {q : Fin 4} {ctrl : Bool} {value : Word} {be : Fin 16} {s : State} (h : Kept A a s) : Answer.kept A a
    (@execDmaQueueAbort win q ctrl value be s) := by
  unfold execDmaQueueAbort
  repeat' (first
    | with_reducible assumption
    | with_reducible apply kept_next
    | with_reducible apply kept_answer_ite
    | with_reducible apply kept_ite
    | with_reducible apply kept_hostWrite
    | with_reducible apply kept_queueCmdHook
    | with_reducible apply kept_queueCtrlHook)

theorem kept_postHook {A : Area → Prop} {win : Nat} {q : Nat} {s0 : State} : (@postHook win q s0).kept A := by
  unfold postHook
  repeat' (first
    | with_reducible exact kept_hook_plain
    | with_reducible apply kept_hook_ite
    | with_reducible apply kept_hookAt
    | with_reducible apply hooks_cons
    | with_reducible exact hooks_nil
    | (refine fun _ _ _ h => ?_; dsimp only)
    | with_reducible assumption
    | with_reducible apply kept_hook_ite
    | with_reducible exact kept_hook_plain
    | with_reducible apply kept_put
    | with_reducible apply kept_ite
    | with_reducible refine kept_each ?_ (fun _ _ _ => ?_)
    | with_reducible refine kept_foldl ?_ (fun _ _ _ => ?_)
    | split)

theorem kept_execDmaQueuePost {A : Area → Prop} [Fact (A .ch)] {a : State} {win : Fin 7} {q : Fin 4} {value : Word}
    {be : Fin 16} {s : State} (h : Kept A a s) : Answer.kept A a (@execDmaQueuePost win q value be s) := by
  unfold execDmaQueuePost
  repeat' (first
    | with_reducible assumption
    | with_reducible apply kept_next
    | with_reducible apply kept_answer_ite
    | with_reducible apply kept_ite
    | with_reducible apply kept_hostWrite
    | with_reducible apply kept_postHook)

theorem kept_execDmaQueueResume {A : Area → Prop} [Fact (A .ch)] [Fact (A .out)] [Fact (A .dma)] {a : State} {win :
    Fin 7} {q : Fin 4} {value : Word} {be : Fin 16} {s : State} (h : Kept A a s) : Answer.kept A a
    (@execDmaQueueResume win q value be s) := by
  unfold execDmaQueueResume
  repeat' (first
    | with_reducible assumption
    | with_reducible apply kept_next
    | with_reducible apply kept_answer_ite
    | with_reducible apply kept_ite
    | with_reducible apply kept_hostWrite
    | with_reducible apply kept_queueCmdHook)

theorem kept_execDmaQueueSkip {A : Area → Prop} [Fact (A .ch)] [Fact (A .out)] [Fact (A .dma)] {a : State} {win : Fin
    7} {q : Fin 4} {value : Word} {be : Fin 16} {s : State} (h : Kept A a s) : Answer.kept A a (@execDmaQueueSkip win
    q value be s) := by
  unfold execDmaQueueSkip
  repeat' (first
    | with_reducible assumption
    | with_reducible apply kept_next
    | with_reducible apply kept_answer_ite
    | with_reducible apply kept_ite
    | with_reducible apply kept_hostWrite
    | with_reducible apply kept_queueCmdHook)

theorem kept_execDmaReadCompletion {A : Area → Prop} [Fact (A .free)] [Fact (A .out)] [Fact (A .cast)] {a : State} {c
    : Fin 7} {ok : Bool} {s : State} (h : Kept A a s) : Answer.kept A a (@execDmaReadCompletion c ok s) := by
  unfold execDmaReadCompletion
  repeat' (first
    | with_reducible assumption
    | with_reducible apply kept_next
    | with_reducible apply kept_answer_ite
    | with_reducible apply kept_ite
    | with_reducible refine kept_when ?_ (fun _ _ => ?_)
    | with_reducible apply kept_bump
    | with_reducible apply kept_dmaRead
    | with_reducible apply kept_readError)

theorem kept_execPcieConfigurationWrite {A : Area → Prop} [Fact (A .out)] {a : State} {w : ConfigWrite} {s : State} (h
    : Kept A a s) : Answer.kept A a (@execPcieConfigurationWrite w s) := by
  unfold execPcieConfigurationWrite
  repeat' (first
    | with_reducible assumption
    | with_reducible apply kept_next
    | with_reducible apply kept_answer_ite
    | with_reducible apply kept_put
    | with_reducible apply kept_ite
    | with_reducible refine kept_when ?_ (fun _ _ => ?_)
    | with_reducible apply kept_busMasterOff
    | with_reducible apply kept_dmaIssue
    | with_reducible apply kept_flag
    | with_reducible apply kept_flushMsix
    | with_reducible refine kept_foldl ?_ (fun _ _ _ => ?_)
    | split)

theorem kept_execPcieFunctionLevelReset {A : Area → Prop} [Fact (A .free)] [Fact (A .out)] [Fact (A .cast)] {a :
    State} {s : State} (h : Kept A a s) : Answer.kept A a (@execPcieFunctionLevelReset s) := by
  unfold execPcieFunctionLevelReset
  repeat' (first
    | with_reducible assumption
    | with_reducible apply kept_next
    | with_reducible apply kept_answer_ite
    | with_reducible apply kept_put
    | with_reducible apply kept_ite
    | with_reducible refine kept_when ?_ (fun _ _ => ?_)
    | with_reducible apply kept_portReset)

theorem kept_execPcieHotReset {A : Area → Prop} [Fact (A .free)] [Fact (A .out)] [Fact (A .cast)] {a : State} {s :
    State} (h : Kept A a s) : Answer.kept A a (@execPcieHotReset s) := by
  unfold execPcieHotReset
  repeat' (first
    | with_reducible assumption
    | with_reducible apply kept_next
    | with_reducible apply kept_answer_ite
    | with_reducible apply kept_put
    | with_reducible apply kept_ite
    | with_reducible refine kept_when ?_ (fun _ _ => ?_)
    | with_reducible apply kept_linkOff
    | with_reducible apply kept_portReset)

theorem kept_execPcieLinkDown {A : Area → Prop} [Fact (A .free)] [Fact (A .out)] [Fact (A .cast)] {a : State} {s :
    State} (h : Kept A a s) : Answer.kept A a (@execPcieLinkDown s) := by
  unfold execPcieLinkDown
  repeat' (first
    | with_reducible assumption
    | with_reducible apply kept_next
    | with_reducible apply kept_answer_ite
    | with_reducible apply kept_put
    | with_reducible apply kept_ite
    | with_reducible refine kept_when ?_ (fun _ _ => ?_)
    | with_reducible apply kept_linkOff
    | with_reducible apply kept_portReset)

theorem kept_execPcieLinkUp {A : Area → Prop} {a : State} {speed : LinkSpeed} {width : LinkWidth} {s : State} (h :
    Kept A a s) : Answer.kept A a (@execPcieLinkUp speed width s) := by
  unfold execPcieLinkUp
  repeat' (first
    | with_reducible assumption
    | with_reducible apply kept_next
    | with_reducible apply kept_answer_ite
    | with_reducible apply kept_put
    | with_reducible apply kept_ite
    | with_reducible refine kept_when ?_ (fun _ _ => ?_))

end Sys2Proof.Machine
end

