-- ==== Sys2Proof/Laws/KeptPower.lean ====
section
/-! SUPPORT. What the operations of Machine/Power.lean keep. -/

namespace Sys2Proof.Machine

theorem kept_bootBank {A : Area → Prop} [Fact (A .flow)] [Fact (A .ch)] [Fact (A .votes)] [Fact (A .sets)] [Fact (A
    .applied)] [Fact (A .calWait)] {a : State} {b : Nat} {s : State} (h : Kept A a s) : Kept A a (@State.bootBank b s)
    := by
  unfold State.bootBank
  repeat' (first
    | with_reducible assumption
    | with_reducible apply kept_put
    | with_reducible apply kept_ite
    | with_reducible apply kept_fenceChannel
    | with_reducible apply kept_putBit
    | with_reducible refine kept_foldl ?_ (fun _ _ _ => ?_)
    | split)

theorem kept_bootBanks {A : Area → Prop} [Fact (A .flow)] [Fact (A .ch)] [Fact (A .votes)] [Fact (A .sets)] [Fact (A
    .applied)] [Fact (A .calWait)] {a : State} {banks : List Nat} {s : State} (h : Kept A a s) : Kept A a
    (@State.bootBanks banks s) := by
  unfold State.bootBanks
  repeat' (first
    | with_reducible assumption
    | with_reducible apply kept_put
    | with_reducible apply kept_ite
    | with_reducible refine kept_each ?_ (fun _ _ _ => ?_)
    | with_reducible apply kept_bootBank)

theorem kept_bootCast {A : Area → Prop} [Fact (A .cast)] {a : State} {s : State} (h : Kept A a s) : Kept A a
    (@State.bootCast s) := by
  unfold State.bootCast
  repeat' (first
    | with_reducible assumption
    | with_reducible exact Or.inl Fact.out
    | with_reducible exact Or.inr rfl
    | with_reducible apply kept_put
    | with_reducible apply kept_ite
    | with_reducible apply kept_flag
    | with_reducible apply kept_setMode
    | with_reducible apply kept_mk)

theorem kept_bootFirmware {A : Area → Prop} [Fact (A .free)] [Fact (A .flow)] [Fact (A .ch)] [Fact (A .votes)] [Fact
    (A .sets)] [Fact (A .applied)] [Fact (A .calWait)] [Fact (A .cast)] {a : State} {s : State} (h : Kept A a s) :
    Kept A a (@State.bootFirmware s) := by
  unfold State.bootFirmware
  repeat' (first
    | with_reducible assumption
    | with_reducible apply kept_put
    | with_reducible apply kept_ite
    | with_reducible apply kept_enterLockdown)

theorem kept_bootPlinth {A : Area → Prop} {a : State} {good : Bool} {s : State} (h : Kept A a s) : Kept A a
    (@State.bootPlinth good s) := by
  unfold State.bootPlinth
  repeat' (first
    | with_reducible assumption
    | with_reducible apply kept_put
    | with_reducible apply kept_ite
    | with_reducible refine kept_when ?_ (fun _ _ => ?_)
    | with_reducible apply kept_deriveCasting
    | with_reducible apply kept_plinthRecord
    | with_reducible apply kept_rootLost)

theorem kept_bootRecord {A : Area → Prop} {a : State} {s : State} (h : Kept A a s) : Kept A a (@State.bootRecord s) :=
    by
  unfold State.bootRecord
  repeat' (first
    | with_reducible assumption
    | with_reducible apply kept_put
    | with_reducible apply kept_ite
    | with_reducible refine kept_when ?_ (fun _ _ => ?_)
    | with_reducible refine kept_each ?_ (fun _ _ _ => ?_))

theorem kept_sets {A : Area → Prop} [Fact (A .sets)] {a s : State} {src : List Host.Cell} {b c k : Nat} (h : Kept A a
    s) :
    Kept A a { s with sets := memCopy src b c k s.sets } :=
  kept_mk_forms h (Or.inr rfl) (Or.inr rfl) (Or.inr rfl) (Or.inr rfl) (Or.inr rfl) (Or.inr rfl) (Or.inr rfl) (Or.inr rfl) (Or.inr rfl) (Or.inr rfl) (Or.inr rfl) (Or.inr rfl) (Or.inr rfl) (Or.inr rfl) (Or.inr rfl) (Or.inr rfl) (Or.inr rfl) (Or.inl Fact.out) (Or.inr rfl) (Or.inr rfl) id id id (fun d => memCopy_wf d) id id

theorem kept_bootScope {A : Area → Prop} [Fact (A .sets)] {a : State} {sc : Nat} {s : State} (h : Kept A a s) : Kept A
    a (s.bootScope sc) := by
  unfold State.bootScope
  extract_lets s1
  have k : Kept A a s1 := kept_each h fun _ _ j => kept_when (kept_flag j) fun _ i => kept_calLog i
  clear_value s1
  split
  · exact kept_when (kept_showSet (kept_sets k)) fun _ j => kept_calLog j
  · exact kept_calLog k

theorem kept_bootStore {A : Area → Prop} [Fact (A .sets)] {a : State} {s : State} (h : Kept A a s) : Kept A a
    (@State.bootStore s) := by
  unfold State.bootStore
  repeat' (first
    | with_reducible assumption
    | with_reducible apply kept_ite
    | with_reducible refine kept_when ?_ (fun _ _ => ?_)
    | with_reducible refine kept_each ?_ (fun _ _ _ => ?_)
    | with_reducible apply kept_bootRecord
    | with_reducible apply kept_bootScope
    | with_reducible apply kept_storeState)

theorem kept_bootUnit {A : Area → Prop} [Fact (A .flow)] [Fact (A .ch)] [Fact (A .votes)] [Fact (A .sets)] [Fact (A
    .applied)] [Fact (A .calWait)] {a : State} {n : Nat} {u : FenceUnit} {s : State} (h : Kept A a s) : Kept A a
    (@State.bootUnit n u s) := by
  unfold State.bootUnit
  repeat' (first
    | with_reducible assumption
    | with_reducible apply kept_put
    | with_reducible apply kept_ite
    | with_reducible refine kept_when ?_ (fun _ _ => ?_)
    | with_reducible apply kept_engineFence
    | with_reducible apply kept_fenceChannel
    | with_reducible apply kept_fenceLane
    | with_reducible apply kept_hostPllFault
    | with_reducible apply kept_iterFence
    | with_reducible apply kept_pipeFence
    | with_reducible apply kept_pllFault
    | with_reducible apply kept_sliceFault
    | with_reducible apply kept_tileFence
    | with_reducible refine kept_foldl ?_ (fun _ _ _ => ?_)
    | split)

theorem kept_cutWrites {A : Area → Prop} [Fact (A .bootImage)] {a : State} {s : State} (h : Kept A a s) : Kept A a
    (@State.cutWrites s) := by
  unfold State.cutWrites
  repeat' (first
    | with_reducible assumption
    | with_reducible apply kept_ite
    | with_reducible apply kept_castStoreCut)

theorem reset_flow (n : Nat) : State.reset.flow.get n = Flow.empty := by
  match n with
  | 0 | 1 | 2 | _ + 3 => rfl

theorem kept_wipe {A : Area → Prop} [Fact (A .time)] [Fact (A .flow)] [Fact (A .pmcOn)] [Fact (A .ch)] [Fact (A
    .votes)] [Fact (A .mon)] [Fact (A .sets)] [Fact (A .applied)] [Fact (A .runSet)] [Fact (A .snaps)] [Fact (A
    .calWait)] [Fact (A .cast)] [Fact (A .mbx)] [Fact (A .sram)] [Fact (A .dma)] {a : State} {power : Bool} {s :
    State} (h : Kept A a s) : Kept A a (s.wipe power) := by
  refine h.trans ⟨rfl, Nat.le_refl _, List.suffix_refl _, fun _ n => (reset_flow n).symm ▸ Flow.empty_conserved,
    fun c => ⟨keysRise_filter _ c.regs, List.Pairwise.nil, c.store, rfl, rfl, rfl⟩, fun x n => ?_⟩
  cases x <;> first | rfl | exact absurd Fact.out n

theorem kept_deviceReset {A : Area → Prop} [Fact (A .time)] [Fact (A .flow)] [Fact (A .pmcOn)] [Fact (A .ch)] [Fact (A
    .votes)] [Fact (A .mon)] [Fact (A .sets)] [Fact (A .applied)] [Fact (A .runSet)] [Fact (A .snaps)] [Fact (A
    .calWait)] [Fact (A .cast)] [Fact (A .bootImage)] [Fact (A .mbx)] [Fact (A .sram)] [Fact (A .dma)] {a : State}
    {cause : Nat} {s : State} (h : Kept A a s) : Kept A a (@State.deviceReset cause s) := by
  unfold State.deviceReset
  repeat' (first
    | with_reducible assumption
    | with_reducible apply kept_put
    | with_reducible apply kept_ite
    | with_reducible refine kept_each ?_ (fun _ _ _ => ?_)
    | with_reducible apply kept_bump
    | with_reducible apply kept_cutWrites
    | with_reducible apply kept_safeShow
    | with_reducible apply kept_wipe)

theorem kept_showPower {A : Area → Prop} {a : State} {s : State} (h : Kept A a s) : Kept A a (@State.showPower s) := by
  unfold State.showPower
  repeat' (first
    | with_reducible assumption
    | with_reducible apply kept_put
    | with_reducible apply kept_ite
    | with_reducible refine kept_when ?_ (fun _ _ => ?_)
    | with_reducible apply kept_flag)

theorem kept_enterBoot {A : Area → Prop} [Fact (A .time)] [Fact (A .free)] [Fact (A .flow)] [Fact (A .ch)] [Fact (A
    .votes)] [Fact (A .sets)] [Fact (A .applied)] [Fact (A .calWait)] [Fact (A .cast)] {a : State} {s : State} (h :
    Kept A a s) : Kept A a (@State.enterBoot s) := by
  unfold State.enterBoot
  repeat' (first
    | with_reducible assumption
    | with_reducible exact Or.inl Fact.out
    | with_reducible exact Or.inr rfl
    | with_reducible apply kept_put
    | with_reducible apply kept_ite
    | with_reducible refine kept_when ?_ (fun _ _ => ?_)
    | with_reducible apply kept_enterLockdown
    | with_reducible apply kept_flag
    | with_reducible apply kept_requestV
    | with_reducible apply kept_setMode
    | with_reducible apply kept_showPower
    | with_reducible apply kept_mk)

theorem kept_enterKeep {A : Area → Prop} [Fact (A .time)] [Fact (A .flow)] [Fact (A .pmcOn)] [Fact (A .ch)] [Fact (A
    .votes)] [Fact (A .mon)] [Fact (A .sets)] [Fact (A .applied)] [Fact (A .runSet)] [Fact (A .snaps)] [Fact (A
    .calWait)] [Fact (A .cast)] [Fact (A .bootImage)] [Fact (A .mbx)] [Fact (A .sram)] [Fact (A .dma)] {a : State} {s
    : State} (h : Kept A a s) : Kept A a (@State.enterKeep s) := by
  unfold State.enterKeep
  repeat' (first
    | with_reducible assumption
    | with_reducible apply kept_put
    | with_reducible apply kept_ite
    | with_reducible apply kept_cutWrites
    | with_reducible apply kept_wipe)

theorem kept_plinthLost {A : Area → Prop} {a : State} {s : State} (h : Kept A a s) : Kept A a (@State.plinthLost s) :=
    by
  unfold State.plinthLost
  repeat' (first
    | with_reducible assumption
    | with_reducible apply kept_ite
    | with_reducible refine kept_each ?_ (fun _ _ _ => ?_)
    | with_reducible apply kept_clear
    | with_reducible apply kept_rootLost)

theorem kept_plrProgram {A : Area → Prop} {a : State} {s : State} (h : Kept A a s) : Kept A a (@State.plrProgram s) :=
    by
  unfold State.plrProgram
  repeat' (first
    | with_reducible assumption
    | with_reducible apply kept_put
    | with_reducible apply kept_ite
    | with_reducible apply kept_putWords)

theorem kept_supsBoot {A : Area → Prop} {a : State} {s : State} (h : Kept A a s) : Kept A a (@State.supsBoot s) := by
  unfold State.supsBoot
  repeat' (first
    | with_reducible assumption
    | with_reducible apply kept_put
    | with_reducible apply kept_ite
    | with_reducible refine kept_each ?_ (fun _ _ _ => ?_)
    | with_reducible apply kept_supRelease)

theorem kept_tryBoot {A : Area → Prop} [Fact (A .time)] [Fact (A .free)] [Fact (A .flow)] [Fact (A .ch)] [Fact (A
    .votes)] [Fact (A .sets)] [Fact (A .applied)] [Fact (A .calWait)] [Fact (A .cast)] {a : State} {s : State} (h :
    Kept A a s) : Kept A a (@State.tryBoot s) := by
  unfold State.tryBoot
  repeat' (first
    | with_reducible assumption
    | with_reducible apply kept_ite
    | with_reducible refine kept_when ?_ (fun _ _ => ?_)
    | with_reducible apply kept_enterBoot)

theorem kept_warnSnaps {A : Area → Prop} [Fact (A .snaps)] {a : State} {s : State} (h : Kept A a s) : Kept A a
    (@State.warnSnaps s) := by
  unfold State.warnSnaps
  repeat' (first
    | with_reducible assumption
    | with_reducible apply kept_put
    | with_reducible apply kept_ite
    | with_reducible refine kept_when ?_ (fun _ _ => ?_)
    | with_reducible refine kept_each ?_ (fun _ _ _ => ?_)
    | with_reducible apply kept_pmcSnap
    | with_reducible apply kept_putBit)

theorem kept_warnStop {A : Area → Prop} [Fact (A .free)] [Fact (A .votes)] [Fact (A .out)] [Fact (A .cast)] {a :
    State} {s : State} (h : Kept A a s) : Kept A a (@State.warnStop s) := by
  unfold State.warnStop
  repeat' (first
    | with_reducible assumption
    | with_reducible apply kept_put
    | with_reducible apply kept_ite
    | with_reducible refine kept_when ?_ (fun _ _ => ?_)
    | with_reducible apply kept_calFail
    | with_reducible apply kept_castAbort
    | with_reducible apply kept_dmaFaultAll
    | with_reducible apply kept_retireFail)

theorem kept_warnStore {A : Area → Prop} [Fact (A .free)] [Fact (A .votes)] [Fact (A .store)] [Fact (A .cast)] [Fact
    (A .bootImage)] {a : State} {short : Bool} {s : State} (h : Kept A a s) : Kept A a (@State.warnStore short s) := by
  unfold State.warnStore
  repeat' (first
    | with_reducible assumption
    | with_reducible apply kept_ite
    | with_reducible refine kept_when ?_ (fun _ _ => ?_)
    | with_reducible apply kept_calFail
    | with_reducible apply kept_calLog
    | with_reducible apply kept_castAbandon
    | with_reducible apply kept_castStoreCut
    | with_reducible apply kept_castStored
    | with_reducible apply kept_putBit
    | with_reducible apply kept_storeWritten)

theorem kept_execBootStepComplete {A : Area → Prop} [Fact (A .free)] [Fact (A .flow)] [Fact (A .pmcOn)] [Fact (A .ch)]
    [Fact (A .votes)] [Fact (A .store)] [Fact (A .sets)] [Fact (A .applied)] [Fact (A .calWait)] [Fact (A .cast)]
    [Fact (A .mbx)] {a : State} {root : Bool} {banks : List Nat} {units : List (Nat × Nat × Nat)} {s : State} (h :
    Kept A a s) : Answer.kept A a (@execBootStepComplete root banks units s) := by
  unfold execBootStepComplete
  repeat' (first
    | with_reducible assumption
    | with_reducible apply kept_next
    | with_reducible apply kept_answer_ite
    | with_reducible apply kept_put
    | with_reducible apply kept_ite
    | with_reducible refine kept_when ?_ (fun _ _ => ?_)
    | with_reducible refine kept_each ?_ (fun _ _ _ => ?_)
    | with_reducible apply kept_bootBanks
    | with_reducible apply kept_bootCast
    | with_reducible apply kept_bootFirmware
    | with_reducible apply kept_bootPlinth
    | with_reducible apply kept_bootStore
    | with_reducible apply kept_bootUnit
    | with_reducible apply kept_cplxServe
    | with_reducible apply kept_supsBoot
    | with_reducible refine kept_foldl ?_ (fun _ _ _ => ?_)
    | split)

theorem kept_resetHook {A : Area → Prop} [Fact (A .time)] [Fact (A .flow)] [Fact (A .pmcOn)] [Fact (A .ch)] [Fact (A
    .votes)] [Fact (A .mon)] [Fact (A .sets)] [Fact (A .applied)] [Fact (A .runSet)] [Fact (A .snaps)] [Fact (A
    .calWait)] [Fact (A .cast)] [Fact (A .bootImage)] [Fact (A .mbx)] [Fact (A .sram)] [Fact (A .dma)] {value : Nat} :
    (@resetHook value).kept A := by
  unfold resetHook
  repeat' (first
    | with_reducible exact kept_hook_plain
    | with_reducible apply kept_hook_ite
    | with_reducible apply kept_hookAt
    | with_reducible apply hooks_cons
    | with_reducible exact hooks_nil
    | (refine fun _ _ _ h => ?_; dsimp only)
    | with_reducible assumption
    | with_reducible apply kept_hook_ite
    | with_reducible exact kept_hook_plain
    | with_reducible apply kept_put
    | with_reducible apply kept_ite
    | with_reducible refine kept_when ?_ (fun _ _ => ?_)
    | with_reducible apply kept_deviceReset)

theorem kept_execDeviceResetCommand {A : Area → Prop} [Fact (A .time)] [Fact (A .flow)] [Fact (A .pmcOn)] [Fact (A
    .ch)] [Fact (A .votes)] [Fact (A .mon)] [Fact (A .sets)] [Fact (A .applied)] [Fact (A .runSet)] [Fact (A .snaps)]
    [Fact (A .calWait)] [Fact (A .cast)] [Fact (A .bootImage)] [Fact (A .mbx)] [Fact (A .sram)] [Fact (A .dma)] {a :
    State} {win : Fin 7} {value : Word} {be : Fin 16} {s : State} (h : Kept A a s) : Answer.kept A a
    (@execDeviceResetCommand win value be s) := by
  unfold execDeviceResetCommand
  repeat' (first
    | with_reducible assumption
    | with_reducible apply kept_next
    | with_reducible apply kept_answer_ite
    | with_reducible apply kept_ite
    | with_reducible apply kept_hostWrite
    | with_reducible apply kept_resetHook)

theorem kept_execDeviceResetHoldEnd {A : Area → Prop} [Fact (A .time)] [Fact (A .free)] [Fact (A .flow)] [Fact (A
    .ch)] [Fact (A .votes)] [Fact (A .sets)] [Fact (A .applied)] [Fact (A .calWait)] [Fact (A .cast)] {a : State} {s :
    State} (h : Kept A a s) : Answer.kept A a (@execDeviceResetHoldEnd s) := by
  unfold execDeviceResetHoldEnd
  repeat' (first
    | with_reducible assumption
    | with_reducible apply kept_next
    | with_reducible apply kept_answer_ite
    | with_reducible apply kept_put
    | with_reducible apply kept_ite
    | with_reducible apply kept_tryBoot)

theorem kept_execInternalResetEnd {A : Area → Prop} [Fact (A .time)] [Fact (A .free)] [Fact (A .flow)] [Fact (A .ch)]
    [Fact (A .votes)] [Fact (A .sets)] [Fact (A .applied)] [Fact (A .calWait)] [Fact (A .cast)] {a : State} {s :
    State} (h : Kept A a s) : Answer.kept A a (@execInternalResetEnd s) := by
  unfold execInternalResetEnd
  repeat' (first
    | with_reducible assumption
    | with_reducible apply kept_next
    | with_reducible apply kept_answer_ite
    | with_reducible apply kept_put
    | with_reducible apply kept_ite
    | with_reducible refine kept_when ?_ (fun _ _ => ?_)
    | with_reducible apply kept_tryBoot)

theorem kept_execMainRailLoss {A : Area → Prop} [Fact (A .time)] [Fact (A .flow)] [Fact (A .pmcOn)] [Fact (A .ch)]
    [Fact (A .votes)] [Fact (A .mon)] [Fact (A .sets)] [Fact (A .applied)] [Fact (A .runSet)] [Fact (A .snaps)] [Fact
    (A .calWait)] [Fact (A .cast)] [Fact (A .bootImage)] [Fact (A .mbx)] [Fact (A .sram)] [Fact (A .dma)] {a : State}
    {r : Fin 5} {brief : Bool} {s : State} (h : Kept A a s) : Answer.kept A a (@execMainRailLoss r brief s) := by
  unfold execMainRailLoss
  repeat' (first
    | with_reducible assumption
    | with_reducible apply kept_next
    | with_reducible apply kept_answer_ite
    | with_reducible apply kept_put
    | with_reducible apply kept_ite
    | with_reducible refine kept_when ?_ (fun _ _ => ?_)
    | with_reducible apply kept_deviceReset
    | with_reducible apply kept_enterKeep
    | with_reducible apply kept_plinthLost
    | with_reducible apply kept_putBit)

theorem kept_execMainRailsUp {A : Area → Prop} {a : State} {s : State} (h : Kept A a s) : Answer.kept A a
    (@execMainRailsUp s) := by
  unfold execMainRailsUp
  repeat' (first
    | with_reducible assumption
    | with_reducible apply kept_next
    | with_reducible apply kept_answer_ite
    | with_reducible apply kept_put
    | with_reducible apply kept_ite
    | with_reducible refine kept_when ?_ (fun _ _ => ?_)
    | with_reducible refine kept_each ?_ (fun _ _ _ => ?_)
    | with_reducible apply kept_safeShow)

theorem kept_execMrefclkLoss {A : Area → Prop} {a : State} {lref : Bool} {s : State} (h : Kept A a s) : Answer.kept A
    a (@execMrefclkLoss lref s) := by
  unfold execMrefclkLoss
  repeat' (first
    | with_reducible assumption
    | with_reducible apply kept_next
    | with_reducible apply kept_answer_ite
    | with_reducible apply kept_put
    | with_reducible apply kept_ite
    | with_reducible apply kept_flag
    | with_reducible apply kept_showPower)

theorem kept_execMrefclkRestored {A : Area → Prop} {a : State} {s : State} (h : Kept A a s) : Answer.kept A a
    (@execMrefclkRestored s) := by
  unfold execMrefclkRestored
  repeat' (first
    | with_reducible assumption
    | with_reducible apply kept_next
    | with_reducible apply kept_answer_ite
    | with_reducible apply kept_put
    | with_reducible apply kept_ite
    | with_reducible apply kept_showPower)

theorem kept_execPowerLossRecordProgrammed {A : Area → Prop} {a : State} {s : State} (h : Kept A a s) : Answer.kept A
    a (@execPowerLossRecordProgrammed s) := by
  unfold execPowerLossRecordProgrammed
  repeat' (first
    | with_reducible assumption
    | with_reducible apply kept_next
    | with_reducible apply kept_answer_ite
    | with_reducible apply kept_ite
    | with_reducible refine kept_when ?_ (fun _ _ => ?_)
    | with_reducible apply kept_plrProgram)

theorem kept_execPowerWarning {A : Area → Prop} [Fact (A .free)] [Fact (A .votes)] [Fact (A .out)] [Fact (A .store)]
    [Fact (A .snaps)] [Fact (A .cast)] [Fact (A .bootImage)] {a : State} {short : Bool} {s : State} (h : Kept A a s) :
    Answer.kept A a (@execPowerWarning short s) := by
  unfold execPowerWarning
  repeat' (first
    | with_reducible assumption
    | with_reducible apply kept_next
    | with_reducible apply kept_answer_ite
    | with_reducible apply kept_put
    | with_reducible apply kept_ite
    | with_reducible refine kept_when ?_ (fun _ _ => ?_)
    | with_reducible apply kept_raise
    | with_reducible apply kept_warnSnaps
    | with_reducible apply kept_warnStop
    | with_reducible apply kept_warnStore)

theorem kept_execPowerWarningEnd {A : Area → Prop} {a : State} {s : State} (h : Kept A a s) : Answer.kept A a
    (@execPowerWarningEnd s) := by
  unfold execPowerWarningEnd
  repeat' (first
    | with_reducible assumption
    | with_reducible apply kept_next
    | with_reducible apply kept_answer_ite
    | with_reducible apply kept_put
    | with_reducible apply kept_ite
    | with_reducible refine kept_when ?_ (fun _ _ => ?_))

theorem kept_execResetNAssert {A : Area → Prop} [Fact (A .time)] [Fact (A .flow)] [Fact (A .pmcOn)] [Fact (A .ch)]
    [Fact (A .votes)] [Fact (A .mon)] [Fact (A .sets)] [Fact (A .applied)] [Fact (A .runSet)] [Fact (A .snaps)] [Fact
    (A .calWait)] [Fact (A .cast)] [Fact (A .bootImage)] [Fact (A .mbx)] [Fact (A .sram)] [Fact (A .dma)] {a : State}
    {s : State} (h : Kept A a s) : Answer.kept A a (@execResetNAssert s) := by
  unfold execResetNAssert
  repeat' (first
    | with_reducible assumption
    | with_reducible apply kept_next
    | with_reducible apply kept_answer_ite
    | with_reducible apply kept_put
    | with_reducible apply kept_ite
    | with_reducible apply kept_deviceReset)

theorem kept_execResetNRelease {A : Area → Prop} [Fact (A .time)] [Fact (A .free)] [Fact (A .flow)] [Fact (A .ch)]
    [Fact (A .votes)] [Fact (A .sets)] [Fact (A .applied)] [Fact (A .calWait)] [Fact (A .cast)] {a : State} {s :
    State} (h : Kept A a s) : Answer.kept A a (@execResetNRelease s) := by
  unfold execResetNRelease
  repeat' (first
    | with_reducible assumption
    | with_reducible apply kept_next
    | with_reducible apply kept_answer_ite
    | with_reducible apply kept_put
    | with_reducible apply kept_ite
    | with_reducible apply kept_tryBoot)

theorem kept_execVkeepAbsent {A : Area → Prop} {a : State} {s : State} (h : Kept A a s) : Answer.kept A a
    (@execVkeepAbsent s) := by
  unfold execVkeepAbsent
  repeat' (first
    | with_reducible assumption
    | with_reducible apply kept_next
    | with_reducible apply kept_answer_ite
    | with_reducible apply kept_ite
    | with_reducible refine kept_when ?_ (fun _ _ => ?_)
    | with_reducible apply kept_putBit
    | with_reducible apply kept_showPower)

theorem kept_execVkeepRestored {A : Area → Prop} {a : State} {s : State} (h : Kept A a s) : Answer.kept A a
    (@execVkeepRestored s) := by
  unfold execVkeepRestored
  repeat' (first
    | with_reducible assumption
    | with_reducible apply kept_next
    | with_reducible apply kept_answer_ite
    | with_reducible apply kept_ite
    | with_reducible refine kept_when ?_ (fun _ _ => ?_)
    | with_reducible apply kept_putBit
    | with_reducible apply kept_showPower)

end Sys2Proof.Machine
end

