-- ==== Sys2Proof/Laws/KeptHost.lean ====
section
/-! SUPPORT. What the operations of Machine/Host.lean keep. -/

namespace Sys2Proof.Machine

theorem kept_msixWrite {A : Area → Prop} [Fact (A .out)] {a : State} {a_ : Nat} {value : Nat} {s : State} (h : Kept A
    a s) : Kept A a (@State.msixWrite a_ value s) := by
  unfold State.msixWrite
  repeat' (first
    | with_reducible assumption
    | with_reducible apply kept_put
    | with_reducible apply kept_ite
    | with_reducible apply kept_flushMsix)

theorem kept_rcRead {A : Area → Prop} {a : State} {f : Field} {v : Nat} {s : State} (h : Kept A a s) : Kept A a
    (@State.rcRead f v s) := by
  unfold State.rcRead
  repeat' (first
    | with_reducible assumption
    | with_reducible apply kept_put
    | with_reducible apply kept_ite
    | with_reducible refine kept_when ?_ (fun _ _ => ?_))

theorem kept_readLatch {A : Area → Prop} {a : State} {a_ : Nat} {v : Nat} {s : State} (h : Kept A a s) : Kept A a
    (@State.readLatch a_ v s) := by
  unfold State.readLatch
  repeat' (first
    | with_reducible assumption
    | with_reducible apply kept_put
    | with_reducible apply kept_ite
    | with_reducible refine kept_when ?_ (fun _ _ => ?_)
    | with_reducible apply kept_pmcLatch)

theorem kept_readEffect {A : Area → Prop} {a : State} {a_ : Nat} {v : Nat} {s : State} (h : Kept A a s) : Kept A a
    (@State.readEffect a_ v s) := by
  unfold State.readEffect
  repeat' (first
    | with_reducible assumption
    | with_reducible apply kept_ite
    | with_reducible refine kept_each ?_ (fun _ _ _ => ?_)
    | with_reducible apply kept_rcRead
    | with_reducible apply kept_readLatch)

theorem kept_readAt {A : Area → Prop} [Fact (A .out)] {a : State} {win : Nat} {a_ : Nat} {s : State} (h : Kept A a s)
    : Kept A a (@State.readAt win a_ s) := by
  unfold State.readAt
  repeat' (first
    | with_reducible assumption
    | with_reducible apply kept_ite
    | with_reducible refine kept_when ?_ (fun _ _ => ?_)
    | with_reducible apply kept_emit
    | with_reducible refine kept_hostRead ?_ (fun _ _ => ?_)
    | with_reducible apply kept_readEffect)

theorem kept_mgtHook {A : Area → Prop} [Fact (A .out)] [Fact (A .dma)] {win : Nat} {a_ : Nat} {s0 : State} : (@mgtHook
    win a_ s0).kept A := by
  unfold mgtHook
  repeat' (first
    | with_reducible exact kept_hook_plain
    | with_reducible apply kept_hook_ite
    | with_reducible apply kept_postHook
    | with_reducible apply kept_queueCmdHook
    | with_reducible apply kept_queueCtrlHook
    | with_reducible apply kept_hookAt
    | with_reducible apply hooks_cons
    | with_reducible exact hooks_nil)

theorem kept_hookOf {A : Area → Prop} [Fact (A .time)] [Fact (A .free)] [Fact (A .flow)] [Fact (A .pmcOn)] [Fact (A
    .ch)] [Fact (A .votes)] [Fact (A .out)] [Fact (A .mon)] [Fact (A .store)] [Fact (A .sets)] [Fact (A .applied)]
    [Fact (A .runSet)] [Fact (A .snaps)] [Fact (A .calWait)] [Fact (A .cast)] [Fact (A .bootImage)] [Fact (A .mbx)]
    [Fact (A .sram)] [Fact (A .dma)] {win : Nat} {a_ : Nat} {value : Nat} {s0 : State} : (@hookOf win a_ value
    s0).kept A := by
  unfold hookOf
  repeat' (first
    | with_reducible exact kept_hook_plain
    | with_reducible apply kept_hook_ite
    | with_reducible apply kept_blockHook
    | with_reducible apply kept_castHook
    | with_reducible apply kept_cplxHook
    | with_reducible apply kept_mbxPostHook
    | with_reducible apply kept_mgtHook
    | with_reducible apply kept_resetHook
    | with_reducible apply kept_retireHook
    | with_reducible apply kept_scrubHook
    | with_reducible apply kept_zeroiseHook
    | with_reducible apply kept_hookAt
    | with_reducible apply hooks_cons
    | with_reducible exact hooks_nil)

theorem kept_writeAt {A : Area → Prop} [Fact (A .time)] [Fact (A .free)] [Fact (A .flow)] [Fact (A .pmcOn)] [Fact (A
    .ch)] [Fact (A .votes)] [Fact (A .out)] [Fact (A .mon)] [Fact (A .store)] [Fact (A .sets)] [Fact (A .applied)]
    [Fact (A .runSet)] [Fact (A .snaps)] [Fact (A .calWait)] [Fact (A .cast)] [Fact (A .bootImage)] [Fact (A .mbx)]
    [Fact (A .sram)] [Fact (A .dma)] {a : State} {w : Wr} {s : State} (h : Kept A a s) : Kept A a (@State.writeAt w s)
    := by
  unfold State.writeAt
  repeat' (first
    | with_reducible assumption
    | with_reducible apply kept_ite
    | with_reducible refine kept_when ?_ (fun _ _ => ?_)
    | with_reducible apply kept_hostWrite
    | with_reducible apply kept_msixWrite
    | with_reducible apply kept_hookOf)

theorem kept_execLatchingLowWordRead {A : Area → Prop} [Fact (A .out)] {a : State} {win : Fin 7} {addr : Word} {s :
    State} (h : Kept A a s) : Answer.kept A a (@execLatchingLowWordRead win addr s) := by
  unfold execLatchingLowWordRead
  repeat' (first
    | with_reducible assumption
    | with_reducible apply kept_next
    | with_reducible apply kept_answer_ite
    | with_reducible apply kept_ite
    | with_reducible apply kept_readAt)

theorem kept_execRcCounterRead {A : Area → Prop} [Fact (A .out)] {a : State} {win : Fin 7} {addr : Word} {s : State}
    (h : Kept A a s) : Answer.kept A a (@execRcCounterRead win addr s) := by
  unfold execRcCounterRead
  repeat' (first
    | with_reducible assumption
    | with_reducible apply kept_next
    | with_reducible apply kept_answer_ite
    | with_reducible apply kept_ite
    | with_reducible apply kept_readAt)

theorem kept_execRegisterWrite {A : Area → Prop} [Fact (A .time)] [Fact (A .free)] [Fact (A .flow)] [Fact (A .pmcOn)]
    [Fact (A .ch)] [Fact (A .votes)] [Fact (A .out)] [Fact (A .mon)] [Fact (A .store)] [Fact (A .sets)] [Fact (A
    .applied)] [Fact (A .runSet)] [Fact (A .snaps)] [Fact (A .calWait)] [Fact (A .cast)] [Fact (A .bootImage)] [Fact
    (A .mbx)] [Fact (A .sram)] [Fact (A .dma)] {a : State} {win : Fin 7} {addr : Word} {value : Word} {be : Fin 16} {s
    : State} (h : Kept A a s) : Answer.kept A a (@execRegisterWrite win addr value be s) := by
  unfold execRegisterWrite
  repeat' (first
    | with_reducible assumption
    | with_reducible apply kept_next
    | with_reducible apply kept_answer_ite
    | with_reducible apply kept_ite
    | with_reducible apply kept_writeAt)

end Sys2Proof.Machine
end

