-- ==== Sys2Proof/Laws/KeptMgmt.lean ====
section
/-! SUPPORT. What the operations of Machine/Mgmt.lean keep. -/

namespace Sys2Proof.Machine

theorem kept_elementCommitted {A : Area → Prop} [Fact (A .out)] {a : State} {q : Nat} {s : State} (h : Kept A a s) :
    Kept A a (@State.elementCommitted q s) := by
  unfold State.elementCommitted
  repeat' (first
    | with_reducible assumption
    | with_reducible apply kept_put
    | with_reducible apply kept_ite
    | with_reducible apply kept_dmaComplete
    | with_reducible apply kept_dmaGot)

theorem kept_entryWord {A : Area → Prop} [Fact (A .time)] [Fact (A .free)] [Fact (A .flow)] [Fact (A .pmcOn)] [Fact (A
    .ch)] [Fact (A .votes)] [Fact (A .out)] [Fact (A .mon)] [Fact (A .store)] [Fact (A .sets)] [Fact (A .applied)]
    [Fact (A .runSet)] [Fact (A .snaps)] [Fact (A .calWait)] [Fact (A .cast)] [Fact (A .bootImage)] [Fact (A .mbx)]
    [Fact (A .sram)] [Fact (A .dma)] {a : State} {s0 : State} {win : Nat} {w : Nat × Nat} {s : State} (h : Kept A a s)
    : Kept A a (@State.entryWord s0 win w s) := by
  unfold State.entryWord
  repeat' (first
    | with_reducible assumption
    | with_reducible apply kept_ite
    | with_reducible refine kept_each ?_ (fun _ _ _ => ?_)
    | with_reducible apply kept_applyField
    | with_reducible apply kept_hookOf
    | refine kept_hookOf _ _ _ ?_)

theorem kept_gather {A : Area → Prop} [Fact (A .time)] [Fact (A .free)] [Fact (A .flow)] [Fact (A .pmcOn)] [Fact (A
    .ch)] [Fact (A .votes)] [Fact (A .out)] [Fact (A .mon)] [Fact (A .store)] [Fact (A .sets)] [Fact (A .applied)]
    [Fact (A .runSet)] [Fact (A .snaps)] [Fact (A .calWait)] [Fact (A .cast)] [Fact (A .bootImage)] [Fact (A .mbx)]
    [Fact (A .sram)] [Fact (A .dma)] {a : State} {q : Nat} {taddr : Nat} {len : Nat} {bytes : List Byte} {s : State}
    (h : Kept A a s) : Kept A a (@State.gather q taddr len bytes s) := by
  unfold State.gather
  repeat' (first
    | with_reducible assumption
    | with_reducible apply kept_ite
    | with_reducible refine kept_each ?_ (fun _ _ _ => ?_)
    | with_reducible apply kept_dmaFault
    | with_reducible apply kept_elementCommitted
    | with_reducible apply kept_entryWord
    | with_reducible apply kept_refuse
    | with_reducible refine kept_foldl ?_ (fun _ _ _ => ?_)
    | split)

theorem kept_scatter {A : Area → Prop} [Fact (A .out)] {a : State} {q : Nat} {host : Nat} {taddr : Nat} {len : Nat}
    {poison : Bool} {s : State} (h : Kept A a s) : Kept A a (@State.scatter q host taddr len poison s) := by
  unfold State.scatter
  repeat' (first
    | with_reducible assumption
    | with_reducible apply kept_ite
    | with_reducible apply kept_emit
    | with_reducible apply kept_dmaFault
    | with_reducible apply kept_elementCommitted
    | with_reducible apply kept_refuse)

theorem kept_spiReadCommit {A : Area → Prop} {a : State} {a_ : Nat} {v : Nat} {s : State} (h : Kept A a s) : Kept A a
    (@State.spiReadCommit a_ v s) := by
  unfold State.spiReadCommit
  repeat' (first
    | with_reducible assumption
    | with_reducible apply kept_ite
    | with_reducible apply kept_readEffect
    | with_reducible apply kept_refuse)

theorem kept_spiCommit {A : Area → Prop} [Fact (A .time)] [Fact (A .free)] [Fact (A .flow)] [Fact (A .pmcOn)] [Fact (A
    .ch)] [Fact (A .votes)] [Fact (A .out)] [Fact (A .mon)] [Fact (A .store)] [Fact (A .sets)] [Fact (A .applied)]
    [Fact (A .runSet)] [Fact (A .snaps)] [Fact (A .calWait)] [Fact (A .cast)] [Fact (A .bootImage)] [Fact (A .mbx)]
    [Fact (A .sram)] [Fact (A .dma)] {a : State} {k : Nat} {v : Nat} {s : State} (h : Kept A a s) : Kept A a
    (@State.spiCommit k v s) := by
  unfold State.spiCommit
  repeat' (first
    | with_reducible assumption
    | with_reducible apply kept_ite
    | with_reducible apply kept_spiReadCommit
    | with_reducible apply kept_writeAt)

theorem kept_spiDeliver {A : Area → Prop} [Fact (A .out)] {a : State} {k : Nat} {s : State} (h : Kept A a s) : Kept A
    a (@State.spiDeliver k s) := by
  unfold State.spiDeliver
  repeat' (first
    | with_reducible assumption
    | with_reducible apply kept_put
    | with_reducible apply kept_ite
    | with_reducible refine kept_when ?_ (fun _ _ => ?_)
    | with_reducible apply kept_emit)

theorem kept_spiDiscard {A : Area → Prop} {a : State} {word : Nat} {edges : Nat} {s : State} (h : Kept A a s) : Kept A
    a (@State.spiDiscard word edges s) := by
  unfold State.spiDiscard
  repeat' (first
    | with_reducible assumption
    | with_reducible apply kept_put
    | with_reducible apply kept_ite
    | with_reducible apply kept_bump
    | with_reducible apply kept_raise)

theorem kept_spiEnd {A : Area → Prop} [Fact (A .time)] [Fact (A .free)] [Fact (A .flow)] [Fact (A .pmcOn)] [Fact (A
    .ch)] [Fact (A .votes)] [Fact (A .out)] [Fact (A .mon)] [Fact (A .store)] [Fact (A .sets)] [Fact (A .applied)]
    [Fact (A .runSet)] [Fact (A .snaps)] [Fact (A .calWait)] [Fact (A .cast)] [Fact (A .bootImage)] [Fact (A .mbx)]
    [Fact (A .sram)] [Fact (A .dma)] {a : State} {v : Nat} {edges : Nat} {s : State} (h : Kept A a s) : Kept A a
    (@State.spiEnd v edges s) := by
  unfold State.spiEnd
  repeat' (first
    | with_reducible assumption
    | with_reducible apply kept_put
    | with_reducible apply kept_ite
    | with_reducible refine kept_when ?_ (fun _ _ => ?_)
    | with_reducible apply kept_emit
    | with_reducible apply kept_spiCommit
    | with_reducible apply kept_spiDiscard)

theorem kept_spiHeader {A : Area → Prop} [Fact (A .out)] {a : State} {v : Nat} {s : State} (h : Kept A a s) : Kept A a
    (@State.spiHeader v s) := by
  unfold State.spiHeader
  repeat' (first
    | with_reducible assumption
    | with_reducible apply kept_put
    | with_reducible apply kept_ite
    | with_reducible refine kept_when ?_ (fun _ _ => ?_)
    | with_reducible apply kept_emit
    | with_reducible apply kept_bump
    | with_reducible apply kept_raise)

theorem kept_execDmaGatherElement {A : Area → Prop} [Fact (A .time)] [Fact (A .free)] [Fact (A .flow)] [Fact (A
    .pmcOn)] [Fact (A .ch)] [Fact (A .votes)] [Fact (A .out)] [Fact (A .mon)] [Fact (A .store)] [Fact (A .sets)] [Fact
    (A .applied)] [Fact (A .runSet)] [Fact (A .snaps)] [Fact (A .calWait)] [Fact (A .cast)] [Fact (A .bootImage)]
    [Fact (A .mbx)] [Fact (A .sram)] [Fact (A .dma)] {a : State} {q : Fin 4} {taddr : Word} {len : Word} {bytes : List
    Byte} {s : State} (h : Kept A a s) : Answer.kept A a (@execDmaGatherElement q taddr len bytes s) := by
  unfold execDmaGatherElement
  repeat' (first
    | with_reducible assumption
    | with_reducible apply kept_next
    | with_reducible apply kept_answer_ite
    | with_reducible apply kept_ite
    | with_reducible refine kept_when ?_ (fun _ _ => ?_)
    | with_reducible apply kept_dmaFault
    | with_reducible apply kept_gather)

theorem kept_execDmaScatterElement {A : Area → Prop} [Fact (A .out)] {a : State} {q : Fin 4} {host : BitVec 64} {taddr
    : Word} {len : Word} {poison : Bool} {s : State} (h : Kept A a s) : Answer.kept A a (@execDmaScatterElement q host
    taddr len poison s) := by
  unfold execDmaScatterElement
  repeat' (first
    | with_reducible assumption
    | with_reducible apply kept_next
    | with_reducible apply kept_answer_ite
    | with_reducible apply kept_ite
    | with_reducible refine kept_when ?_ (fun _ _ => ?_)
    | with_reducible apply kept_dmaFault
    | with_reducible apply kept_scatter)

theorem kept_execSpiChipSelectFall {A : Area → Prop} {a : State} {s : State} (h : Kept A a s) : Answer.kept A a
    (@execSpiChipSelectFall s) := by
  unfold execSpiChipSelectFall
  repeat' (first
    | with_reducible assumption
    | with_reducible apply kept_next
    | with_reducible apply kept_answer_ite
    | with_reducible apply kept_put
    | with_reducible apply kept_ite
    | with_reducible refine kept_when ?_ (fun _ _ => ?_))

theorem kept_execSpiChipSelectRise {A : Area → Prop} [Fact (A .time)] [Fact (A .free)] [Fact (A .flow)] [Fact (A
    .pmcOn)] [Fact (A .ch)] [Fact (A .votes)] [Fact (A .out)] [Fact (A .mon)] [Fact (A .store)] [Fact (A .sets)] [Fact
    (A .applied)] [Fact (A .runSet)] [Fact (A .snaps)] [Fact (A .calWait)] [Fact (A .cast)] [Fact (A .bootImage)]
    [Fact (A .mbx)] [Fact (A .sram)] [Fact (A .dma)] {a : State} {edges : Nat} {value : BitVec 32} {s : State} (h :
    Kept A a s) : Answer.kept A a (@execSpiChipSelectRise edges value s) := by
  unfold execSpiChipSelectRise
  repeat' (first
    | with_reducible assumption
    | with_reducible apply kept_next
    | with_reducible apply kept_answer_ite
    | with_reducible apply kept_put
    | with_reducible apply kept_ite
    | with_reducible refine kept_when ?_ (fun _ _ => ?_)
    | with_reducible apply kept_bump
    | with_reducible apply kept_spiDiscard
    | with_reducible apply kept_spiEnd)

theorem kept_execSpiDataWord {A : Area → Prop} [Fact (A .time)] [Fact (A .free)] [Fact (A .flow)] [Fact (A .pmcOn)]
    [Fact (A .ch)] [Fact (A .votes)] [Fact (A .out)] [Fact (A .mon)] [Fact (A .store)] [Fact (A .sets)] [Fact (A
    .applied)] [Fact (A .runSet)] [Fact (A .snaps)] [Fact (A .calWait)] [Fact (A .cast)] [Fact (A .bootImage)] [Fact
    (A .mbx)] [Fact (A .sram)] [Fact (A .dma)] {a : State} {value : BitVec 32} {s : State} (h : Kept A a s) :
    Answer.kept A a (@execSpiDataWord value s) := by
  unfold execSpiDataWord
  repeat' (first
    | with_reducible assumption
    | with_reducible apply kept_next
    | with_reducible apply kept_answer_ite
    | with_reducible apply kept_ite
    | with_reducible refine kept_when ?_ (fun _ _ => ?_)
    | with_reducible apply kept_addWrap
    | with_reducible apply kept_spiCommit
    | with_reducible apply kept_spiDeliver)

theorem kept_execSpiHeaderWord {A : Area → Prop} [Fact (A .out)] {a : State} {value : BitVec 32} {s : State} (h : Kept
    A a s) : Answer.kept A a (@execSpiHeaderWord value s) := by
  unfold execSpiHeaderWord
  repeat' (first
    | with_reducible assumption
    | with_reducible apply kept_next
    | with_reducible apply kept_answer_ite
    | with_reducible apply kept_ite
    | with_reducible refine kept_when ?_ (fun _ _ => ?_)
    | with_reducible apply kept_spiHeader)

end Sys2Proof.Machine
end

