-- ==== Sys2Proof/Laws/KeptTime.lean ====
section
/-! SUPPORT. What the operations of Machine/Time.lean keep. -/

namespace Sys2Proof.Machine

theorem kept_rtcTick {A : Area → Prop} {a : State} {s : State} (h : Kept A a s) : Kept A a (@State.rtcTick s) := by
  unfold State.rtcTick
  repeat' (first
    | with_reducible assumption
    | with_reducible apply kept_put
    | with_reducible apply kept_ite)

theorem kept_tick {A : Area → Prop} [Fact (A .time)] [Fact (A .free)] [Fact (A .cast)] {a : State} {s : State} (h :
    Kept A a s) : Kept A a (@State.tick s) := by
  unfold State.tick
  repeat' (first
    | with_reducible assumption
    | with_reducible exact Or.inl Fact.out
    | with_reducible exact Or.inr rfl
    | with_reducible apply kept_ite
    | with_reducible apply kept_castCheckEnd
    | with_reducible apply kept_rtcTick
    | with_reducible apply kept_mk)

end Sys2Proof.Machine
end

