-- ==== Sys2Proof/WellFormed.lean ====
section
/-! DEFINITION. Which commands an outside agent can send: the windows and addresses of a host access, and the ranges of the
operands that a frame, a message or a measurement carries (R214, R241, R260, R423, R438). -/

namespace Sys2Proof

/-- A host access to BAR0 comes through PCI Express or the SPI target (Table 19.11). -/
def bar0 (win : Fin 7) : Bool := win = 0 || win = 2

/-- An access at any address: an aligned word of BAR0 (below 0x1000_0000), or of BAR2 (0x5000_0000 to 0x53FF_FFFF in this
model's numbering) through window 1. -/
def accessWf (win : Fin 7) (addr : Word) : Bool :=
  addr.toNat % 4 = 0 && ((bar0 win && addr.toNat < 0x10000000) || (win = 1 && 0x50000000 ≤ addr.toNat && addr.toNat < 0x54000000))

/-- Bytes of a calibration set, at rising offsets below 8,192 (R323). -/
def cellsWf (l : List Host.Cell) : Bool := l.all (fun c => c.1 < 0x2000) && l.Pairwise (fun a b => a.1 < b.1)

/-- Codes of the four ADCs, each of 10 bits (Table 5.2). -/
def adcWf (l : List (List Int)) : Bool := decide (l.length ≤ 4) && l.all (·.all (fun x => decide (-512 ≤ x ∧ x < 512)))

/-- A command that an outside agent can send. -/
def Instr.wf (i : Instr) : Bool :=
  match i with
  | .registerWrite win addr _ _ => accessWf win addr
  | .rcCounterRead win addr => accessWf win addr
  | .latchingLowWordRead win addr => accessWf win addr
  | .tokenTransfer _ _ => true
  | .slackMeasurement _ _ _ _ => true
  | .governorEvaluation => true
  | .governorEmergencyRaise => true
  | .regulatorRequestResult _ => true
  | .regulatorRetry => true
  | .slackFloorTimeout => true
  | .ledgerSnapshotRequest win _ _ => bar0 win
  | .snapshotHoldComplete _ => true
  | .snapshotHoldTimeout _ => true
  | .snapshotRecordWritten _ => true
  | .perturbationControlWrite win _ _ => bar0 win
  | .profileWrite win _ _ _ => bar0 win
  | .modeOfferTimer _ => true
  | .modeOfferReceived _ _ _ _ _ _ profile peer => decide (profile < 4 ∧ peer < 2 ^ 32)
  | .resizeGo win _ _ _ => bar0 win
  | .resizeProposeReceived _ _ _ _ _ tA => decide (tA < 2 ^ 32)
  | .resizeAcceptReceived _ _ _ tA tB => decide (tA < 2 ^ 32 ∧ tB < 2 ^ 32)
  | .resizeRefuseReceived _ _ _ tA _ => decide (tA < 2 ^ 32)
  | .resizeConfirmReceived _ _ _ tA tB _ => decide (tA < 2 ^ 32 ∧ tB < 2 ^ 32)
  | .resizeAcceptDeadline _ => true
  | .resizeConfirmDeadline _ => true
  | .resizeTargetReached _ => true
  | .resizeReceiverSwitch _ => true
  | .resizeConvergenceTimeout _ => true
  | .laserEnable win _ _ _ => bar0 win
  | .laserDisable win _ _ _ => bar0 win
  | .tuneComplete _ _ => true
  | .tuneTimeout _ => true
  | .rampStep _ => true
  | .txPowerWrite win _ _ _ => bar0 win
  | .optFreqWrite win _ _ _ => bar0 win
  | .agcSettled _ _ => true
  | .agcUnfreezeTimeout _ => true
  | .opticalPowerMonitorUpdate _ _ _ _ => true
  | .opticalLosDeclare _ => true
  | .opticalLosClear _ => true
  | .safetyInputActive _ _ _ _ _ => true
  | .safetyInputInactive _ => true
  | .safetyDiscrepancyTimeout _ => true
  | .discrepancyClear win _ _ _ => bar0 win
  | .laserFault _ => true
  | .coolerFault _ => true
  | .boosterFault _ => true
  | .driverFault _ => true
  | .receiverFrontEndFault _ _ => true
  | .sliceStuckCode _ _ => true
  | .sliceRangeFault _ _ => true
  | .sliceDriftFault _ _ => true
  | .sliceTimingFault _ _ => true
  | .sliceSenseFault _ _ => true
  | .sliceForce win _ _ _ => bar0 win
  | .shadowCalibrationConverged _ _ _ _ _ _ => true
  | .shadowCalibrationTimeout _ _ => true
  | .spareSubstitution _ _ => true
  | .respacing _ _ => true
  | .converterApplyBoundary _ _ moves => moves.all (fun m => m.1 < 544 && m.2.1 < 5)
  | .converterPllLossOfLock _ _ => true
  | .converterPllLock _ _ => true
  | .converterReferenceLoss _ => true
  | .converterPllFault _ _ => true
  | .adcLosDeclare _ => true
  | .adcLosClear _ => true
  | .frontEndMismatch _ => true
  | .coarseEstimateComplete _ _ _ => true
  | .coarseEstimateTimeout _ => true
  | .cdTrackStep _ _ => true
  | .clockRecoveryLock _ _ => true
  | .clockRecoveryLoss _ => true
  | .cycleSlip _ _ => true
  | .acquisitionStepComplete _ _ adc => adcWf adc
  | .acquisitionStepTimeout _ => true
  | .tileResidueMismatch _ _ => true
  | .tileResidueFault _ _ => true
  | .tileHandshakeFault _ _ => true
  | .tileForce win _ _ _ => bar0 win
  | .tileRepartitionComplete _ => true
  | .convergenceWindowEnd _ => true
  | .noConvergenceTimeout _ => true
  | .linkQualityWindowEnd _ => true
  | .txUnderrun _ _ => true
  | .txClipExcess _ _ => true
  | .testPatternWrite win _ _ _ => bar0 win
  | .txMultiframeBoundary _ _ => true
  | .codewordAssembled _ _ adc => adcWf adc
  | .enginePassComplete _ _ => true
  | .engineResidueMismatch _ _ => true
  | .engineResidueFault _ _ => true
  | .engineHandshakeFault _ _ => true
  | .engineForce win _ _ _ => bar0 win
  | .encoderParityMismatch _ _ => true
  | .codewordAlignment _ _ => true
  | .fecDegradeWindowEnd _ => true
  | .iterationControlWrite win _ _ _ => bar0 win
  | .frameHeaderReceived _ _ => true
  | .torCopyReceived _ => true
  | .rxMultiframeBoundary _ => true
  | .tributaryCommitGo win _ _ _ => bar0 win
  | .sealedUnitReceived _ _ => true
  | .hostLaneLosDeclare _ _ => true
  | .hostLaneLosClear _ _ => true
  | .hostLaneLolDeclare _ _ => true
  | .hostLaneLolClear _ _ => true
  | .hostAlignmentLock _ _ skew => decide (skew.length ≤ 16)
  | .hostAlignmentLoss _ _ => true
  | .clientReplaceEnd _ _ => true
  | .flexeOverheadLock _ _ _ phy gnum => decide (phy < 256 ∧ gnum < 2 ^ 20)
  | .hostFecCodeword _ _ _ _ _ => true
  | .egressFifoEmptyTimeout _ _ => true
  | .egressTokenArrival _ _ _ _ _ _ => true
  | .calendarEntryWrite win _ _ _ _ _ => bar0 win
  | .flexeCalendarSwitchRequest win _ _ _ => bar0 win
  | .flexeCalendarAck _ _ => true
  | .flexeCalendarSwitch _ _ => true
  | .flexeCalendarTimeout _ _ => true
  | .flexeHostCalendarRequest _ _ _ => true
  | .hostLaneTransmitterFault _ _ => true
  | .hostLaneReceiverFault _ _ => true
  | .laneForce win _ _ _ => bar0 win
  | .hostPllLossOfLock _ _ => true
  | .hostPllLock _ => true
  | .hostPllFault _ => true
  | .iscChipLock _ _ _ _ => true
  | .iscChipLockLoss _ => true
  | .iscMessageBoundary _ => true
  | .iscMessageCrcError _ => true
  | .iscUnknownMessage _ _ _ => true
  | .heartbeatReceived _ _ _ ident nonce => decide (ident < 2 ^ 32 ∧ nonce < 2 ^ 16)
  | .telemetryReceived _ _ _ snr ber margin rxpwr unc lqseq => decide (snr < 2 ^ 16 ∧ ber < 2 ^ 16 ∧ margin < 2 ^ 16 ∧ rxpwr < 2 ^ 16 ∧ unc < 2 ^ 32 ∧ lqseq < 2 ^ 16)
  | .hostMessageReceived _ _ _ w0 w1 w2 w3 => decide (w0 < 2 ^ 32 ∧ w1 < 2 ^ 32 ∧ w2 < 2 ^ 32 ∧ w3 < 2 ^ 16)
  | .iscHostSend win _ _ _ => bar0 win
  | .hostMessageRead win _ => bar0 win
  | .iscHeartbeatMissed _ => true
  | .entropyReseed _ => true
  | .cipherMismatch _ _ _ _ _ => true
  | .pipelineHoldFault _ _ _ => true
  | .pipelineForce win _ _ _ _ => bar0 win
  | .iteratedEngineForce win _ _ _ => bar0 win
  | .rootProvision win _ _ => bar0 win
  | .rootEraseArm win _ _ => bar0 win
  | .rootEraseConfirm win _ _ => bar0 win
  | .rootEraseArmExpiry => true
  | .keyBulkLoad win _ _ => bar0 win
  | .keyBulkSave win _ _ => bar0 win
  | .keyBulkRestore win _ _ => bar0 win
  | .keyBulkResume win _ _ => bar0 win
  | .keyBulkAbort win _ _ => bar0 win
  | .keyElementComplete _ _ _ => true
  | .keySlotErase win _ _ => bar0 win
  | .zeroiseCommand win _ _ => bar0 win
  | .tamperInput _ => true
  | .zeroiseInput _ => true
  | .vkeepLow _ => true
  | .rolloverGo win _ _ _ => bar0 win
  | .rolloverAnnounceReceived _ _ _ _ _ _ => true
  | .rolloverAckReceived _ _ _ _ _ _ => true
  | .rolloverAckDeadline _ => true
  | .monitorConversionEnd _ codes => decide (codes.length ≤ 32) && codes.all (·.all (fun x => decide (x.natAbs ≤ 2 ^ 20)))
  | .monitorResultRead win _ => bar0 win
  | .monitorUrgentRequest win _ _ _ => bar0 win
  | .monitorPresetChange win _ _ _ => bar0 win
  | .compensationSetChange win _ _ _ => bar0 win
  | .coefficientWrite win _ _ _ => bar0 win
  | .biasBlockEnd _ _ vpi => decide (vpi.length = 3)
  | .monitorClockLoss _ => true
  | .monitorClockRelock _ => true
  | .calFull win _ _ => bar0 win
  | .calTrack win _ _ => bar0 win
  | .calLoad win _ _ => bar0 win
  | .calRewrite win _ _ => bar0 win
  | .calMeasurementComplete data _ _ _ => cellsWf data
  | .calMonitorTimeout => true
  | .calStoreWriteComplete _ => true
  | .calApplyElement => true
  | .calPolicyAgeTrigger _ => true
  | .calPolicyTemperatureCheck _ _ => true
  | .calTriggeredRunStart _ => true
  | .supervisorHeartbeat _ => true
  | .supervisorHeartbeatTimeout _ => true
  | .checkpointTimer => true
  | .voteOpen => true
  | .voteDecision _ _ _ => true
  | .supervisorSelfTestResult _ _ _ => true
  | .supervisorRelease _ => true
  | .firmwareAuthenticationComplete _ _ _ cfg => cfg.all (fun c => c.1 < 2048 && c.2.1 < 16)
  | .supervisorStateTransferComplete _ _ => true
  | .supervisorHandback => true
  | .arbiterSelfTest _ _ => true
  | .supervisorComplexReset win _ _ => bar0 win
  | .supervisorComplexResetComplete => true
  | .mailboxCommandPost win _ _ => bar0 win
  | .mailboxCommandAccept => true
  | .mailboxResponseConsume win _ _ => bar0 win
  | .echo _ _ => true
  | .supStatus _ _ => true
  | .fenceClear _ _ => true
  | .supRestore _ _ => true
  | .logRead _ _ _ => true
  | .fwInfo _ _ => true
  | .fwLoad _ _ _ => true
  | .fwVerify _ _ => true
  | .fwActivate _ _ => true
  | .irqPendSet win _ _ _ => bar0 win
  | .irqPendClear win _ _ _ => bar0 win
  | .irqMaskSet win _ _ _ => bar0 win
  | .irqMaskClear win _ _ _ => bar0 win
  | .interruptSelection _ => true
  | .interruptCommit _ => true
  | .irqEoi win _ _ => bar0 win
  | .interruptControllerFault => true
  | .pmcConfigWrite win _ _ _ => bar0 win
  | .pmcValueWrite win _ _ _ => bar0 win
  | .pmcSnapshotRequest win _ _ => bar0 win
  | .pmcSnapshotWritten _ => true
  | .memoryLineRead _ _ _ _ _ _ => true
  | .memoryLineWrite _ _ _ _ _ _ _ => true
  | .scrubStart win _ _ => bar0 win
  | .scrubLine _ _ _ => true
  | .scrubPause win _ _ => bar0 win
  | .scrubResume win _ _ => bar0 win
  | .scrubAbort win _ _ => bar0 win
  | .bankRetirementStart win _ _ => bar0 win
  | .retirementCopyLine _ _ _ _ => true
  | .retirementSwitch => true
  | .castingSubmit win _ _ => bar0 win
  | .castingStore win _ _ => bar0 win
  | .castingEraseStore win _ _ => bar0 win
  | .castingPause win _ _ => bar0 win
  | .castingResume win _ _ => bar0 win
  | .castingAbort win _ _ => bar0 win
  | .castingFetchComplete _ => true
  | .castingCheckComplete => true
  | .castingApplyElement => true
  | .castingLoadComplete => true
  | .castingStoreComplete => true
  | .castingEngineFault => true
  | .pcieFunctionLevelReset => true
  | .pcieHotReset => true
  | .pcieLinkDown => true
  | .pcieLinkUp _ _ => true
  | .busMasterEnableClear => true
  | .dmaReadCompletion _ _ => true
  | .dmaCompletionTimeout _ => true
  | .dmaQueuePost win _ _ _ => bar0 win
  | .dmaDescriptorStart _ => true
  | .dmaGatherElement _ _ _ _ => true
  | .dmaScatterElement _ _ _ _ _ => true
  | .dmaQueueResume win _ _ _ => bar0 win
  | .dmaQueueSkip win _ _ _ => bar0 win
  | .dmaQueueAbort win _ _ _ _ => bar0 win
  | .spiDataWord _ => true
  | .spiChipSelectRise edges _ => decide (edges < 2 ^ 32)
  | .mainRailLoss _ _ => true
  | .mainRailsUp => true
  | .internalResetEnd => true
  | .resetNAssert => true
  | .resetNRelease => true
  | .deviceResetCommand win _ _ => bar0 win
  | .deviceResetHoldEnd => true
  | .bootStepComplete _ banks units => banks.all (· < 68) && units.all (fun u => u.1 < 4)
  | .powerWarning _ => true
  | .powerLossRecordProgrammed => true
  | .powerWarningEnd => true
  | .fenceRetestComplete _ _ fails => fails.all (fun u => u.1 ≤ 12)
  | .egressFifoEmptyInPacket _ _ => true
  | .flexeIngressCalendarSwitch _ _ => true
  | .pcieConfigurationWrite _ => true
  | .spiChipSelectFall => true
  | .spiHeaderWord _ => true
  | .vkeepAbsent => true
  | .vkeepRestored => true
  | .mrefclkLoss _ => true
  | .mrefclkRestored => true
  | .idClashNegotiationTimeout _ => true
  | .adcClipExcess _ _ _ => true

end Sys2Proof
end

