-- ==== Sys2Proof/Tests/Slice0.lean ====
section
/-! SUPPORT. Tests: ill-formed commands are refused by WellFormed, worked examples of the spec, and for each obligation
states that meet its hypotheses. -/

open Sys2Proof Sys2Proof.Machine

set_option Elab.async false

namespace Sys2Proof.Tests

/-! ## Helpers -/

/-- The reset state with some fields set. -/
def mkState (l : List (Field × Nat)) : State := l.foldl (fun s p => s.put p.1 p.2) State.reset

/-- The same in READY, with full rights for window 0 and a leader. -/
def op (l : List (Field × Nat)) : State :=
  mkState ([(DEV_MODE.MODE, 4), (MGT_WIN.PRIV 0, 3), (SUP_STAT.LEADER, 0)] ++ l)

/-- Channel 1 receives header h under a profile of a custom mode. -/
def onLine (h : Header) (s : State) : State :=
  s.onChan 1 (fun c => { c with
    prof := [some ⟨1, 13000, 2, 200, 1, 160, 400, 0, false, 2, 5, 5, 0, [], [], []⟩],
    rx := { c.rx with bits := (byteBits (frameSent false (headerBytes false h
      (torBytes false 0 ⟨true, false, false, 1, 2, 3, 4⟩)))).map (fun b => (b, false)) } })

/-- The smallest casting image: a header and one empty section, with the flags of Table 18.2. -/
def testImage (flags : Nat) : List Byte :=
  let body : List Byte := [0x4A, 0x4B, 0x43, 0x53, 0x01, 0x00, 0x4B, 0x4A, 0x80, 0x32, 0x00, 0x00, 0x54, 0x00, 0x00,
    0x00] ++
    [BitVec.ofNat 8 flags, 0x00, 0x01, 0x00] ++ List.replicate 44 0x00 ++
    [0x01, 0x00, 0x00, 0x00, 0x50, 0x00, 0x00, 0x00] ++ List.replicate 8 0x00
  body ++ leBytes 4 (imgCrc (body ++ [0, 0, 0, 0]) 0 80)

/-- States that meet the hypotheses of StepRunsFront, clause by clause. -/
theorem test_met_StepRunsFront :
    (({ State.reset with pending := [.pcieHotReset, .vkeepAbsent] } : State).pending = .pcieHotReset :: [.vkeepAbsent]) := by
  decide +kernel

/-- States that meet the hypotheses of EmptyQueueTicks, clause by clause. -/
theorem test_met_EmptyQueueTicks :
    (State.reset.pending = []) ∧
    (State.reset.cst ≠ Cst.apply) ∧
    (State.reset.rd KEYC.SUB + 1 < 1000000000) ∧
    ((mkState [(KEYC.SUB, 999999999)]).rd KEYC.SUB + 1 = 1000000000) := by
  refine ⟨?_, ?_, ?_, ?_⟩ <;> decide +kernel

/-- States that meet the hypotheses of LedgersBalanceAlways, clause by clause. -/
theorem test_met_LedgersBalanceAlways :
    (State.reset.pending = []) ∧
    (({ State.reset with pending := [.pcieHotReset] } : State).pending ≠ []) := by
  refine ⟨?_, ?_⟩ <;> decide +kernel

/-- States that meet the hypotheses of FramesReadBack, clause by clause. -/
theorem test_met_FramesReadBack :
    (∃ h ∈ [({ fasErr := 3, hcs := false, fn := 4095, resize := true, mfn := 65535, mode := 255, sr := 4294967295, bip
      := 0xFF00, rei := 255, bdi := true } : Header)], h.fn < 4096 ∧ h.mfn < 2 ^ 16 ∧ h.mode < 256 ∧ h.sr < 2 ^ 32 ∧
      h.bip < 2 ^ 16 ∧ h.bip % 256 = 0 ∧ h.rei < 256) ∧
    ((frameBody [some 5, none, some 2] [(2, [9, 8]), (5, [7])]).isSome = true) := by
  refine ⟨?_, ?_⟩ <;> decide +kernel

/-- States that meet the hypotheses of TokenTransfersCounted, clause by clause. -/
theorem test_met_TokenTransfersCounted :
    (∃ s ∈ [op [(TRB_TRIB.STATE 1 0, 1), (TRB_TRIB.EN 1 0, 1), (TRB_TRIB.CLIENT 1 0, 0), (TRB_TRIB.CARRY 1 0, 1),
      (HST_CLI.IN 1 0, 1), (HST_CLI.EN 1 0, 1)]],
      s.answers = true ∧ s.entryOf (1 : Fin 4) (0 : Fin 256) = some (0 : Nat) ∧ s.creditedUp (1 : Fin 4) (0 : Fin 256)
        = true ∧ s.withinLine (1 : Fin 4) (s.flow.get (1 : Fin 4)).txRes = true) ∧
    (∃ s ∈ [op [(TRB_TRIB.STATE 1 0, 1), (TRB_TRIB.EN 1 0, 1), (TRB_TRIB.CLIENT 1 0, 0), (TRB_TRIB.CARRY 1 0, 1),
      (HST_CLI.IN 1 0, 1), (HST_CLI.EN 1 0, 1)]],
      s.answers = true ∧ s.entryOf (1 : Fin 4) (0 : Fin 256) = some (0 : Nat) ∧ s.creditedUp (1 : Fin 4) (0 : Fin 256)
        = true) ∧
    (∃ s ∈ [{ op [(TRB_TRIB.STATE 1 0, 1), (TRB_TRIB.EN 1 0, 1), (TRB_TRIB.COUNT 1 0, 100), (TRB_TRIB.CLIENT 1 0, 0), (TRB_TRIB.CARRY 1 0, 1), (HST_CLI.IN 1 0, 1), (HST_CLI.EN 1 0, 1)] with flow := ⟨Flow.empty, { Flow.empty with tok := [⟨.txStaged, 0, false, false, 7⟩], crd := [(0, 2)] }, Flow.empty, Flow.empty⟩ }], ∃ k ∈ [(⟨.txStaged, 0, false, false, 7⟩ : Token)],
      s.answers = true ∧ ((s.flow.get (1 : Fin 4)).tok.find? (fun x => x.stage = .txStaged && x.trib = (0 : Fin
        1024).val) = some k) ∧ k.poison = false ∧ s.entryOf (1 : Fin 4) (s.rd (TRB_TRIB.CLIENT (1 : Fin 4) (0 : Fin
        1024))) = some (0 : Fin 1024).val ∧ s.creditedUp (1 : Fin 4) (s.rd (TRB_TRIB.CLIENT (1 : Fin 4) (0 : Fin
        1024))) = true ∧ (s.flow.get (1 : Fin 4)).outstanding (s.rd (TRB_TRIB.CLIENT (1 : Fin 4) (0 : Fin 1024))) ≠ 0
        ∧ s.sealStopped (1 : Fin 4) (0 : Fin 1024) = false ∧ s.room (1 : Fin 4) (0 : Fin 1024) ≠ 0) ∧
    (∃ s ∈ [{ op [(TRB_TRIB.STATE 1 0, 1), (TRBC.LEFT 1 0, 640)] with flow := ⟨Flow.empty, { Flow.empty with tok := [⟨.txTrb, 0, false, false, 7⟩] }, Flow.empty, Flow.empty⟩ }], ∃ k ∈ [(⟨.txTrb, 0, false, false, 7⟩ : Token)],
      s.answers = true ∧ ((s.flow.get (1 : Fin 4)).tok.find? (fun x => x.stage = .txTrb && x.trib = (0 : Fin
        1024).val) = some k) ∧ k.poison = false ∧ s.rd (TRB_TRIB.STATE (1 : Fin 4) (0 : Fin 1024)) ≠ Trib.suspended ∧
        s.sealStopped (1 : Fin 4) (0 : Fin 1024) = false ∧ s.mapperOpen (1 : Fin 4) (0 : Fin 1024) = true) ∧
    (∃ s ∈ [op [(TRB_TRIB.CARRY 1 0, 1), (TRBC.LEFT 1 0, 3)]],
      s.answers = true ∧ s.on (TRB_TRIB.CARRY (1 : Fin 4) (0 : Fin 1024)) = true ∧ 0 < s.rdS (TRBC.LEFT (1 : Fin 4) (0
        : Fin 1024)) ∧ s.held (1 : Fin 4) (0 : Fin 1024) .txTrb = 0 ∧ s.held (1 : Fin 4) (0 : Fin 1024) .txSec = 0) ∧
    (∃ s ∈ [{ op [] with flow := ⟨Flow.empty, { Flow.empty with tok := [⟨.txSec, 0, false, false, 7⟩] }, Flow.empty, Flow.empty⟩ }], ∃ k ∈ [(⟨.txSec, 0, false, false, 7⟩ : Token)],
      s.answers = true ∧ ((s.flow.get (1 : Fin 4)).tok.find? (fun x => x.stage = .txSec && x.trib = (0 : Fin
        1024).val) = some k) ∧ k.poison = false ∧ (s.on (TRB_TRIB.ENC (1 : Fin 4) (0 : Fin 1024)) = true → ((s.chan (1
        : Fin 4)).tx.sealOf (0 : Fin 1024)).bad = false)) ∧
    (∃ s ∈ [(({ op [(LFR_STAT.MF_LOCK 1, 1), (TRB_TRIB.EN 1 0, 1), (TRB_TRIB.COUNT 1 0, 1), (TRB_TRIB.STATE 1 0, 1)] with pending := [] }).onChan 1 (fun c => { c with recs := [(0, ⟨true, false, false, 0, 0, 1, 0⟩)], rx := { LineRx.none with got := [(0, List.replicate 64 (3, false))] } }))], ∃ r ∈ [(⟨true, false, false, 0, 0, 1, 0⟩ : TorRec)], ∃ l ∈ [(List.replicate 64 (3, false) : List (Byte × Bool))], ∃ y ∈ [({ LineRx.none with got := [(0, [])] } : LineRx)],
      s.answers = true ∧ s.on (LFR_STAT.MF_LOCK (1 : Fin 4)) = true ∧ s.interop (1 : Fin 4) = false ∧ s.extracts (1 :
        Fin 4) (0 : Fin 1024) = some r ∧ (s.chan (1 : Fin 4)).rx.nextToken (0 : Fin 1024) (s.rd (LFR_MFN_RX.MFN (1 :
        Fin 4))) r = some (l, y) ∧ (s.rxFate (1 : Fin 4) (0 : Fin 1024) r).1 = .deliver ∧ s.withinLine (1 : Fin 4)
        (s.flow.get (1 : Fin 4)).rxRes = true) ∧
    (∃ s ∈ [{ op [(TRB_TRIB.STATE 1 0, 1), (TRB_TRIB.COUNT 1 0, 100)] with flow := ⟨Flow.empty, { Flow.empty with tok := [⟨.rxSec, 0, false, false, 7⟩] }, Flow.empty, Flow.empty⟩ }], ∃ k ∈ [(⟨.rxSec, 0, false, false, 7⟩ : Token)],
      s.answers = true ∧ s.on (TRB_TRIB.ENC (1 : Fin 4) (0 : Fin 1024)) = false ∧ ((s.chan (1 : Fin 4)).rx.openingOf
        (0 : Fin 1024)).due = [] ∧ ((s.flow.get (1 : Fin 4)).tok.find? (fun x => x.stage = .rxSec && x.trib = (0 : Fin
        1024).val) = some k) ∧ k.poison = false ∧ s.rd (TRB_TRIB.STATE (1 : Fin 4) (0 : Fin 1024)) = Trib.active ∧ 64
        * s.held (1 : Fin 4) (0 : Fin 1024) .rxTrb + 64 ≤ s.bCap (1 : Fin 4) (0 : Fin 1024)) ∧
    (∃ s ∈ [((op []).onTx 1 (fun x => { x with bits4 := List.replicate 513 true, seq4 := 1023 }))],
      s.answers = true ∧ 512 ≤ (s.chan (1 : Fin 4)).tx.bits4.length) ∧
    (∃ s ∈ [((op []).onTx 1 (fun x => { x with bits5 := List.replicate 512 true, seq5 := 3 }))],
      s.answers = true ∧ 512 ≤ (s.chan (1 : Fin 4)).tx.bits5.length ∧ (s.chan (1 : Fin 4)).tx.geos5 = []) ∧
    (∃ s ∈ [((op []).onRx 1 (fun x => { x with bits12 := List.replicate 512 (true, false), seq12 := 3 }))],
      s.answers = true ∧ 512 ≤ (s.chan (1 : Fin 4)).rx.bits12.length) := by
  refine ⟨?_, ?_, ?_, ?_, ?_, ?_, ?_, ?_, ?_, ?_, ?_⟩ <;> decide +kernel

/-- States that meet the hypotheses of GovernorFollowsSlack, clause by clause. -/
theorem test_met_GovernorFollowsSlack :
    (∃ s ∈ [op [(LDS_CH_STATE.STATE 0, 4), (LDS_CH_STATE.STATE 1, 2)]],
      s.answers = true) ∧
    (∃ s ∈ [op []],
      s.governs = true ∧ s.slack = none) ∧
    (∃ s ∈ [op [(LDS_CH_STATE.STATE 0, 4), (FAB_SLACK_C.NOW 0, 260), (FABC.BOOST, 1)]],
      s.governs = true ∧ s.slack = some (260 : Nat) ∧ s.rd FABC.BOOST ≠ 0) ∧
    (∃ s ∈ [op [(LDS_CH_STATE.STATE 0, 4), (FAB_SLACK_C.NOW 0, 260), (FAB_GOV_STAT.VREQ, 700)]],
      s.governs = true ∧ s.slack = some (260 : Nat) ∧ s.rd FABC.BOOST = 0 ∧ (260 : Nat) < 266) ∧
    (∃ s ∈ [op [(LDS_CH_STATE.STATE 0, 4), (FAB_SLACK_C.NOW 0, 266), (FAB_GOV_STAT.VREQ, 700)]],
      s.governs = true ∧ s.slack = some (266 : Nat) ∧ s.rd FABC.BOOST = 0 ∧ 266 ≤ (266 : Nat) ∧ (266 : Nat) < 287) ∧
    (∃ s ∈ [op [(LDS_CH_STATE.STATE 0, 4), (FAB_SLACK_C.NOW 0, 287), (FAB_GOV_STAT.VREQ, 700)]],
      s.governs = true ∧ s.slack = some (287 : Nat) ∧ s.rd FABC.BOOST = 0 ∧ 287 ≤ (287 : Nat) ∧ (287 : Nat) ≤ 295) ∧
    (∃ s ∈ [op [(LDS_CH_STATE.STATE 0, 4), (FAB_SLACK_C.NOW 0, 296), (FAB_GOV_STAT.VREQ, 700)]],
      s.governs = true ∧ s.slack = some (296 : Nat) ∧ s.rd FABC.BOOST = 0 ∧ 295 < (296 : Nat)) ∧
    (∃ s ∈ [op [(LDS_CH_STATE.STATE 0, 4), (FAB_SLACK_C.NOW 0, 265), (FAB_GOV_STAT.VREQ, 700)]],
      s.governs = true ∧ s.slack = some (265 : Nat) ∧ s.rd FABC.BOOST = 0 ∧ (265 : Nat) < 266) ∧
    (∃ s ∈ [op [(FABC.REQ, 1), (FABC.AVS_FAILS, 2)]],
      s.on FABC.REQ = true) ∧
    (∃ s ∈ [op [(FABC.REQ, 1), (FABC.AVS_FAILS, 1)]],
      s.on FABC.REQ = true ∧ s.rd FABC.AVS_FAILS < 2) ∧
    (∃ s ∈ [op [(FABC.REQ, 1), (FABC.AVS_FAILS, 2)]],
      s.on FABC.REQ = true ∧ s.rd FABC.AVS_FAILS = 2) ∧
    (∃ s ∈ [op [(FABC.AVS_FAILS, 3)]],
      s.answers = true ∧ s.rd FABC.AVS_FAILS = 3) ∧
    (∃ s ∈ [op [(LDS_CH_STATE.STATE 0, 4), (FAB_SLACK_C.NOW 0, 255), (FAB_GOV_STAT.AT_VMAX, 1)]],
      s.slack = some (255 : Nat) ∧ (255 : Nat) < 256 ∧ s.on FAB_GOV_STAT.AT_VMAX = true) := by
  refine ⟨?_, ?_, ?_, ?_, ?_, ?_, ?_, ?_, ?_, ?_, ?_, ?_, ?_⟩ <;> decide +kernel

/-- States that meet the hypotheses of LedgerSnapshotSteps, clause by clause. -/
theorem test_met_LedgerSnapshotSteps :
    (∃ s ∈ [{ op [(FABC.DONE_AT 1, 6)] with time := 200000 }],
      (s.answers = true ∧ 3 ≤ s.level (0 : Fin 7) ∧ s.on MGT_STAT.PWARN = false) ∧ bit (6#32).toNat (1 : Fin 4) = 1 ∧
        s.rdBit FAB_SNAP_STAT.BUSY (1 : Fin 4) = false ∧ (s.rd (FABC.DONE_AT (1 : Fin 4)) = 0 ∨ s.rd (FABC.DONE_AT (1
        : Fin 4)) - 1 + 100000 ≤ s.time)) ∧
    (∃ s ∈ [op [(FAB_SNAP_STAT.BUSY, 2)]],
      (s.answers = true ∧ 3 ≤ s.level (0 : Fin 7) ∧ s.on MGT_STAT.PWARN = false) ∧ (2#32).toNat = 2 ^ (1 : Fin 4).val
        ∧ s.rdBit FAB_SNAP_STAT.BUSY (1 : Fin 4) = true) ∧
    (∃ s ∈ [op [(FAB_SNAP_STAT.BUSY, 2), (FABC.COND 1, 4)]],
      s.rdBit FAB_SNAP_STAT.BUSY (1 : Fin 4) = true ∧ keyed (1 : Fin 4).val s.snaps = none) ∧
    (∃ s ∈ [op [(FAB_SNAP_STAT.BUSY, 2)]],
      s.rdBit FAB_SNAP_STAT.BUSY (1 : Fin 4) = true ∧ keyed (1 : Fin 4).val s.snaps = none) ∧
    (∃ s ∈ [{ op [(FAB_SNAP_STAT.BUSY, 2)] with snaps := [(1, [(0, 1), (8, 5)])] }], ∃ l ∈ [([(0, 1), (8, 5)] : List (Nat × Nat))],
      keyed (1 : Fin 4).val s.snaps = some l) ∧
    (∃ s ∈ [{ op [] with snaps := [(1, (0, 1) :: (8, 7) :: Flow.empty.record)] }],
      (keyed (1 : Fin 4).val s.snaps = some ((0, (1 : Fin 4).val) :: (8, (7 : Nat)) :: (s.flow.get (1 : Fin
        4)).record))) ∧
    (∃ s ∈ [op []],
      (s.answers = true ∧ 3 ≤ s.level (0 : Fin 7) ∧ s.on MGT_STAT.PWARN = false) ∧ s.on FAB_PERT_CTRL.EN = false ∧
        (0x110310#32).toNat % 2 = 0) ∧
    (∃ s ∈ [op []],
      (s.answers = true ∧ 3 ≤ s.level (0 : Fin 7) ∧ s.on MGT_STAT.PWARN = false) ∧ s.on FAB_PERT_CTRL.EN = false ∧
        (0x010301#32).toNat % 2 = 1 ∧ linkUsed (FAB_PERT_CTRL.LINK.of (0x010301#32).toNat) = true ∧ s.inTraffic
        (FAB_PERT_CTRL.CH.of (0x010301#32).toNat) = false) := by
  refine ⟨?_, ?_, ?_, ?_, ?_, ?_, ?_, ?_⟩ <;> decide +kernel

/-- States that meet the hypotheses of ModeAgreementSteps, clause by clause. -/
theorem test_met_ModeAgreementSteps :
    (∃ s ∈ [op [(LDS_PROF_P.REACH 1 2, 1), (LDS_CH_STATE.STATE 1, 4)]],
      (s.answers = true ∧ 2 ≤ s.level (0 : Fin 7) ∧ s.on MGT_STAT.PWARN = false) ∧ s.rd (LDS_PROF_P.REACH (1 : Fin 4)
        ((LDS_LMODE.PROFILE (1 : Fin 4)).of (2#32).toNat)) = 1 ∧ s.framedWaits (1 : Fin 4) = true) ∧
    (∃ s ∈ [((op [(LDS_PROF_P.REACH 1 2, 1)]).onChan 1 (fun c => { c with prof := [none, none, some ⟨1, 13000, 2, 200, 1, 160, 400, 0, false, 2, 5, 5, 0, [], [], []⟩] }))], ∃ q ∈ [(⟨1, 13000, 2, 200, 1, 160, 400, 0, false, 2, 5, 5, 0, [], [], []⟩ : Profile)],
      (s.answers = true ∧ 2 ≤ s.level (0 : Fin 7) ∧ s.on MGT_STAT.PWARN = false) ∧ s.rd (LDS_PROF_P.REACH (1 : Fin 4)
        ((LDS_LMODE.PROFILE (1 : Fin 4)).of (2#32).toNat)) = 1 ∧ s.profile (1 : Fin 4) ((LDS_LMODE.PROFILE (1 : Fin
        4)).of (2#32).toNat) = some q ∧ s.framedWaits (1 : Fin 4) = false) ∧
    (∃ s ∈ [((op [(LDS_CH_STATE.STATE 1, 2), (ISC_STAT.PEER 1, 1), (LDS_CD_EST.VALID 1, 1), (LDSC.NEXT_AG 1, 1)]).onChan 1 (fun c => { c with prof := [some ⟨3, 30000, 4, 354, 1, 640, 80, 0, false, 2, 5, 5, 0, [], [], []⟩] }))], ∃ q ∈ [(⟨3, 30000, 4, 354, 1, 640, 80, 0, false, 2, 5, 5, 0, [], [], []⟩ : Profile)],
      s.firmware = true ∧ s.seeking (1 : Fin 4) = true ∧ s.active (1 : Fin 4) = some q) ∧
    (∃ s ∈ [((op [(ISC_STAT.CHIP 1, 3), (LDS_CH_STATE.STATE 1, 2), (ISC_STAT.PEER 1, 1), (LDS_CD_EST.VALID 1, 1)]).onChan 1 (fun c => { c with prof := [some ⟨3, 30000, 4, 354, 1, 640, 80, 0, false, 2, 5, 5, 0, [], [], []⟩] }))], ∃ q ∈ [(⟨3, 30000, 4, 354, 1, 640, 80, 0, false, 2, 5, 5, 0, [], [], []⟩ : Profile)],
      s.rd (ISC_STAT.CHIP (1 : Fin 4)) = 3 ∧ s.firmware = true ∧ s.seeking (1 : Fin 4) = true ∧ s.active (1 : Fin 4) =
        some q ∧ s.on (LDSC.SENT_AG (1 : Fin 4)) = false) ∧
    (∃ s ∈ [((op [(ISC_STAT.CHIP 1, 3), (LDS_CH_STATE.STATE 1, 2), (ISC_STAT.PEER 1, 1), (LDS_CD_EST.VALID 1, 1), (LDSC.SENT_AG 1, 1)]).onChan 1 (fun c => { c with prof := [some ⟨3, 30000, 4, 354, 1, 640, 80, 0, false, 2, 5, 5, 0, [], [], []⟩] }))], ∃ q ∈ [(⟨3, 30000, 4, 354, 1, 640, 80, 0, false, 2, 5, 5, 0, [], [], []⟩ : Profile)],
      s.rd (ISC_STAT.CHIP (1 : Fin 4)) = 3 ∧ s.firmware = true ∧ s.seeking (1 : Fin 4) = true ∧ s.active (1 : Fin 4) =
        some q ∧ s.on (LDSC.SENT_AG (1 : Fin 4)) = true) ∧
    (∃ s ∈ [((op [(ISC_STAT.CHIP 1, 3), (LDS_CH_STATE.STATE 1, 2), (ISC_STAT.PEER 1, 1), (LDS_CD_EST.VALID 1, 1)]).onChan 1 (fun c => { c with prof := [some ⟨3, 30000, 4, 354, 1, 640, 80, 0, false, 2, 5, 5, 0, [], [], []⟩] }))], ∃ q ∈ [(⟨3, 30000, 4, 354, 1, 640, 80, 0, false, 2, 5, 5, 0, [], [], []⟩ : Profile)],
      s.rd (ISC_STAT.CHIP (1 : Fin 4)) = 3 ∧ s.firmware = true ∧ s.seeking (1 : Fin 4) = true ∧ s.active (1 : Fin 4) =
        some q ∧ (s.on (LDSC.SENT_AG (1 : Fin 4)) && s.on (LDSC.RCVD_AG (1 : Fin 4))) = false) ∧
    (∃ s ∈ [((op [(ISC_STAT.CHIP 1, 3), (LDS_CH_STATE.STATE 1, 2), (ISC_STAT.PEER 1, 1), (LDS_CD_EST.VALID 1, 1), (ISC_STATION.ID 1, 12), (LDS_PROF_P.REACH 1 1, 1)]).onChan 1 (fun c => { c with prof := [some ⟨3, 30000, 4, 354, 1, 640, 80, 0, false, 2, 5, 5, 0, [], [], []⟩, some ⟨1, 13000, 2, 200, 1, 160, 400, 0, false, 2, 5, 5, 0, [], [], []⟩] }))], ∃ b ∈ [(Profile.block ⟨1, 13000, 2, 200, 1, 160, 400, 0, false, 2, 5, 5, 0, [], [], []⟩ : Block)], ∃ q ∈ [(⟨3, 30000, 4, 354, 1, 640, 80, 0, false, 2, 5, 5, 0, [], [], []⟩ : Profile)],
      s.rd (ISC_STAT.CHIP (1 : Fin 4)) = 3 ∧ s.firmware = true ∧ s.seeking (1 : Fin 4) = true ∧ s.active (1 : Fin 4) =
        some q ∧ q.block ≠ b ∧ s.on (LDS_RSZ_STAT.INDOUBT (1 : Fin 4)) = false ∧ (9 : Nat) % 2 ^ 32 < s.rd
        (ISC_STATION.ID (1 : Fin 4)) ∧ s.profileOf (1 : Fin 4) b = some (1 : Nat)) ∧
    (∃ s ∈ [((op [(ISC_STAT.CHIP 1, 3), (LDS_CH_STATE.STATE 1, 2), (ISC_STAT.PEER 1, 1), (LDS_CD_EST.VALID 1, 1), (ISC_STATION.ID 1, 12)]).onChan 1 (fun c => { c with prof := [some ⟨3, 30000, 4, 354, 1, 640, 80, 0, false, 2, 5, 5, 0, [], [], []⟩] }))], ∃ b ∈ [(Profile.block ⟨1, 13000, 2, 200, 1, 160, 400, 0, false, 2, 5, 5, 0, [], [], []⟩ : Block)], ∃ q ∈ [(⟨3, 30000, 4, 354, 1, 640, 80, 0, false, 2, 5, 5, 0, [], [], []⟩ : Profile)],
      s.rd (ISC_STAT.CHIP (1 : Fin 4)) = 3 ∧ s.firmware = true ∧ s.seeking (1 : Fin 4) = true ∧ s.active (1 : Fin 4) =
        some q ∧ q.block ≠ b ∧ s.on (LDS_RSZ_STAT.INDOUBT (1 : Fin 4)) = false ∧ (9 : Nat) % 2 ^ 32 < s.rd
        (ISC_STATION.ID (1 : Fin 4)) ∧ s.profileOf (1 : Fin 4) b = none) ∧
    (∃ s ∈ [op [(LDS_CH_STATE.STATE 1, 2), (ISC_STAT.ID_CLASH 1, 1)]],
      s.chSt (1 : Fin 4) = ChSt.acquiring ∧ s.interop (1 : Fin 4) = false ∧ s.on (LDSC.AGREED (1 : Fin 4)) = false ∧
        s.on (ISC_STAT.ID_CLASH (1 : Fin 4)) = true) := by
  refine ⟨?_, ?_, ?_, ?_, ?_, ?_, ?_, ?_, ?_⟩ <;> decide +kernel

/-- States that meet the hypotheses of ResizeProposalExchange, clause by clause. -/
theorem test_met_ResizeProposalExchange :
    (∃ s ∈ [((op [(LDS_CH_STATE.STATE 1, 4), (LDS_PROF_P.REACH 1 0, 1)]).onChan 1 (fun c => { c with prof := [some ⟨3, 30000, 4, 354, 1, 640, 80, 0, false, 2, 5, 5, 0, [], [], []⟩] }))], ∃ q ∈ [(⟨3, 30000, 4, 354, 1, 640, 80, 0, false, 2, 5, 5, 0, [], [], []⟩ : Profile)],
      (s.answers = true ∧ 2 ≤ s.level (0 : Fin 7) ∧ s.on MGT_STAT.PWARN = false) ∧ (LDS_RSZ_CTRL.GO (1 : Fin 4)).of
        (0x80000000#32).toNat = 1 ∧ s.rszCause (1 : Fin 4) ((LDS_RSZ_CTRL.TARGET (1 : Fin 4)).of
        (0x80000000#32).toNat) ((LDS_RSZ_CTRL.TRIB (1 : Fin 4)).of (0x80000000#32).toNat = 1) false = 0 ∧ s.profile (1
        : Fin 4) ((LDS_RSZ_CTRL.TARGET (1 : Fin 4)).of (0x80000000#32).toNat) = some q) ∧
    (∃ s ∈ [op []],
      (s.answers = true ∧ 2 ≤ s.level (0 : Fin 7) ∧ s.on MGT_STAT.PWARN = false) ∧ (LDS_RSZ_CTRL.GO (1 : Fin 4)).of
        (0x80000000#32).toNat = 1 ∧ s.rszCause (1 : Fin 4) ((LDS_RSZ_CTRL.TARGET (1 : Fin 4)).of
        (0x80000000#32).toNat) ((LDS_RSZ_CTRL.TRIB (1 : Fin 4)).of (0x80000000#32).toNat = 1) false ≠ 0) ∧
    (∃ s ∈ [((op [(ISC_STAT.CHIP 1, 3), (LDS_CH_STATE.STATE 1, 4), (LDS_PROF_P.REACH 1 0, 1)]).onChan 1 (fun c => { c with prof := [some ⟨3, 30000, 4, 354, 1, 640, 80, 0, false, 2, 5, 5, 0, [], [], []⟩] }))], ∃ block ∈ [(Profile.block ⟨3, 30000, 4, 354, 1, 640, 80, 0, false, 2, 5, 5, 0, [], [], []⟩ : Block)],
      s.rd (ISC_STAT.CHIP (1 : Fin 4)) = 3 ∧ s.firmware = true ∧ s.on (ISC_STAT.LOOPBACK (1 : Fin 4)) = false ∧
        s.proposed (1 : Fin 4) = false ∧ s.profileOf (1 : Fin 4) block = some (0 : Nat) ∧ s.rszCause (1 : Fin 4) (0 :
        Nat) (false : Bool) false = 0 ∧ 16 ≤ mfSub (s.translate (1 : Fin 4) ((100 : Nat) % 2 ^ 32)) (s.mfn (1 : Fin
        4)) ∧ mfSub (s.translate (1 : Fin 4) ((100 : Nat) % 2 ^ 32)) (s.mfn (1 : Fin 4)) < 2 ^ 31) ∧
    (∃ s ∈ [op [(ISC_STAT.CHIP 1, 3)]],
      s.rd (ISC_STAT.CHIP (1 : Fin 4)) = 3 ∧ s.firmware = true ∧ s.on (ISC_STAT.LOOPBACK (1 : Fin 4)) = false ∧
        s.proposed (1 : Fin 4) = false ∧ mfSub (s.translate (1 : Fin 4) ((10 : Nat) % 2 ^ 32)) (s.mfn (1 : Fin 4)) <
        16) ∧
    (∃ s ∈ [((op [(ISC_STAT.CHIP 1, 3), (LDS_RSZ_STAT.STATE 1, 1), (LDS_RSZ_MF.MFN 1, 100), (LFR_STAT.MF_LOCK 1, 1)]).onChan 1 (fun c => { c with rsz := { c.rsz with proposer := true } }))],
      s.rd (ISC_STAT.CHIP (1 : Fin 4)) = 3 ∧ s.firmware = true ∧ s.proposed (1 : Fin 4) = true ∧ (s.chan (1 : Fin
        4)).rsz.heard = false ∧ s.rd (LDS_RSZ_MF.MFN (1 : Fin 4)) = (100 : Nat) % 2 ^ 32 ∧ 16 < s.mfLeft (1 : Fin 4) ∧
        s.on (LFR_STAT.MF_LOCK (1 : Fin 4)) = true) ∧
    (∃ s ∈ [((op [(ISC_STAT.CHIP 1, 3), (LDS_RSZ_STAT.STATE 1, 2), (LDS_RSZ_MF.MFN 1, 100), (LFR_STAT.MF_LOCK 1, 1)]).onChan 1 (fun c => { c with rsz := { c.rsz with peerMf := 50 } }))],
      s.rd (ISC_STAT.CHIP (1 : Fin 4)) = 3 ∧ s.firmware = true ∧ s.rd (LDS_RSZ_STAT.STATE (1 : Fin 4)) =
        RszSt.accepted ∧ (s.chan (1 : Fin 4)).rsz.heard = false ∧ (s.chan (1 : Fin 4)).rsz.peerMf = (50 : Nat) % 2 ^
        32 ∧ s.rd (LDS_RSZ_MF.MFN (1 : Fin 4)) = (100 : Nat) % 2 ^ 32 ∧ 8 < s.mfLeft (1 : Fin 4) ∧ s.on
        (LFR_STAT.MF_LOCK (1 : Fin 4)) = true) ∧
    (∃ s ∈ [((op [(ISC_STAT.CHIP 1, 3), (LDS_RSZ_STAT.STATE 1, 2), (LDS_RSZ_MF.MFN 1, 100), (LFR_STAT.MF_LOCK 1, 1)]).onChan 1 (fun c => { c with rsz := { c.rsz with peerMf := 50 } }))],
      s.rd (ISC_STAT.CHIP (1 : Fin 4)) = 3 ∧ s.firmware = true ∧ (s.rd (LDS_RSZ_STAT.STATE (1 : Fin 4)) =
        RszSt.accepted ∨ s.rd (LDS_RSZ_STAT.STATE (1 : Fin 4)) = RszSt.armed) ∧ (s.chan (1 : Fin 4)).rsz.proposer =
        false ∧ (s.chan (1 : Fin 4)).rsz.peerMf = (50 : Nat) % 2 ^ 32 ∧ 8 < s.mfLeft (1 : Fin 4)) ∧
    (∃ s ∈ [((op [(ISC_STAT.CHIP 1, 3), (LDS_RSZ_STAT.STATE 1, 1), (LDS_RSZ_MF.MFN 1, 100)]).onChan 1 (fun c => { c with rsz := { c.rsz with proposer := true } }))],
      s.rd (ISC_STAT.CHIP (1 : Fin 4)) = 3 ∧ s.firmware = true ∧ (s.rd (LDS_RSZ_STAT.STATE (1 : Fin 4)) =
        RszSt.proposed ∨ s.rd (LDS_RSZ_STAT.STATE (1 : Fin 4)) = RszSt.armed) ∧ (s.chan (1 : Fin 4)).rsz.proposer =
        true ∧ s.rd (LDS_RSZ_MF.MFN (1 : Fin 4)) = (100 : Nat) % 2 ^ 32 ∧ 8 < s.mfLeft (1 : Fin 4)) := by
  refine ⟨?_, ?_, ?_, ?_, ?_, ?_, ?_, ?_⟩ <;> decide +kernel

/-- States that meet the hypotheses of ResizeDeadlinesAndSwitch, clause by clause. -/
theorem test_met_ResizeDeadlinesAndSwitch :
    (∃ s ∈ [((op [(LDS_RSZ_STAT.STATE 1, 1), (LDS_RSZ_MF.MFN 1, 16)]).onChan 1 (fun c => { c with rsz := { c.rsz with proposer := true } }))],
      s.proposed (1 : Fin 4) = true ∧ s.mfLeft (1 : Fin 4) ≤ 16 ∧ s.votes.contains (.resizeArm (1 : Fin 4)) = false) ∧
    (∃ s ∈ [op [(LDS_RSZ_STAT.STATE 1, 2), (LDS_RSZ_MF.MFN 1, 8)]],
      s.rd (LDS_RSZ_STAT.STATE (1 : Fin 4)) = RszSt.accepted ∧ s.mfLeft (1 : Fin 4) ≤ 8 ∧ s.votes.contains (.resizeArm
        (1 : Fin 4)) = false) ∧
    (∃ s ∈ [((op [(LDS_RSZ_STAT.STATE 1, 3), (LDS_CH_STATE.STATE 1, 4)]).onChan 1 (fun c => { c with prof := [none, none, some ⟨1, 13000, 2, 200, 1, 160, 400, 0, false, 2, 5, 5, 0, [], [], []⟩], rsz := { c.rsz with target := 2 } }))], ∃ q ∈ [(⟨1, 13000, 2, 200, 1, 160, 400, 0, false, 2, 5, 5, 0, [], [], []⟩ : Profile)],
      s.rd (LDS_RSZ_STAT.STATE (1 : Fin 4)) = RszSt.armed ∧ s.mfLeft (1 : Fin 4) = 0 ∧ (s.chan (1 : Fin 4)).rsz.only =
        false ∧ (s.chan (1 : Fin 4)).rsz.target < 4 ∧ s.profile (1 : Fin 4) (s.chan (1 : Fin 4)).rsz.target = some q) ∧
    (∃ s ∈ [((op [(LDS_RSZ_STAT.STATE 1, 3), (LDS_CH_STATE.STATE 1, 4)]).onChan 1 (fun c => { c with rsz := { c.rsz with only := true } }))],
      s.rd (LDS_RSZ_STAT.STATE (1 : Fin 4)) = RszSt.armed ∧ s.mfLeft (1 : Fin 4) = 0 ∧ (s.chan (1 : Fin 4)).rsz.only =
        true) ∧
    (∃ s ∈ [((op [(LDS_RSZ_STAT.STATE 1, 4), (LFR_STAT.MF_LOCK 1, 1), (LDS_CH_STATE.CONVERGED 1, 1)]).onChan 1 (fun c => { c with prof := [some ⟨1, 13000, 2, 200, 1, 160, 400, 0, false, 2, 5, 5, 0, [], [], []⟩] }))], ∃ q ∈ [(⟨1, 13000, 2, 200, 1, 160, 400, 0, false, 2, 5, 5, 0, [], [], []⟩ : Profile)],
      (s.rd (LDS_RSZ_STAT.STATE (1 : Fin 4)) = RszSt.armed ∨ s.rd (LDS_RSZ_STAT.STATE (1 : Fin 4)) = RszSt.resizing) ∧
        (s.chan (1 : Fin 4)).rsz.rxAt = none ∧ s.on (LFR_STAT.MF_LOCK (1 : Fin 4)) = true ∧ s.atPeerTarget (1 : Fin 4)
        = true ∧ (s.chan (1 : Fin 4)).rsz.only = false ∧ (s.chan (1 : Fin 4)).rsz.target < 4 ∧ s.profile (1 : Fin 4)
        (s.chan (1 : Fin 4)).rsz.target = some q) ∧
    (∃ s ∈ [op [(LDS_RSZ_STAT.STATE 1, 4), (LDS_CH_STATE.STATE 1, 3)]],
      s.rd (LDS_RSZ_STAT.STATE (1 : Fin 4)) = RszSt.resizing ∧ s.chSt (1 : Fin 4) ≠ ChSt.resizing) ∧
    (∃ s ∈ [op [(LDS_RSZ_STAT.STATE 1, 4), (LDS_CH_STATE.STATE 1, 5)]],
      s.rd (LDS_RSZ_STAT.STATE (1 : Fin 4)) = RszSt.resizing ∧ s.chSt (1 : Fin 4) = ChSt.resizing) := by
  refine ⟨?_, ?_, ?_, ?_, ?_, ?_, ?_⟩ <;> decide +kernel

/-- States that meet the hypotheses of LaserEnableToLight, clause by clause. -/
theorem test_met_LaserEnableToLight :
    (∃ s ∈ [op [(CAL_SSTAT_S.INFORCE 1, 1)]],
      (s.answers = true ∧ 2 ≤ s.level (0 : Fin 7) ∧ s.on MGT_STAT.PWARN = false) ∧ (1#32).toNat % 4 = 1 ∧ s.phase (1 :
        Fin 4) = Phase.off ∧ s.on (OPT_STAT.ENA_PEND (1 : Fin 4)) = false ∧ s.calFull (1 : Fin 4) 1 6 = false ∧
        s.enableCause (1 : Fin 4) false = 0) ∧
    (∃ s ∈ [op [(OPT_STAT.PHASE 1, 4)]],
      (s.answers = true ∧ 2 ≤ s.level (0 : Fin 7) ∧ s.on MGT_STAT.PWARN = false) ∧ (1#32).toNat % 4 = 1 ∧ s.phase (1 :
        Fin 4) = Phase.rampDown) ∧
    (∃ s ∈ [op [(OPT_STAT.ENA_PEND 1, 1)]],
      (s.answers = true ∧ 2 ≤ s.level (0 : Fin 7) ∧ s.on MGT_STAT.PWARN = false) ∧ bit (2#32).toNat 1 = 1 ∧ s.phase (1
        : Fin 4) = Phase.off ∧ s.on (OPT_STAT.ENA_PEND (1 : Fin 4)) = true) ∧
    (∃ s ∈ [op [(OPT_STAT.PHASE 1, 3), (LDS_CH_STATE.STATE 1, 2)]],
      (s.answers = true ∧ 2 ≤ s.level (0 : Fin 7) ∧ s.on MGT_STAT.PWARN = false) ∧ bit (2#32).toNat 1 = 1 ∧ (s.phase
        (1 : Fin 4) = Phase.lit ∨ s.phase (1 : Fin 4) = Phase.rampUp)) ∧
    (∃ s ∈ [op [(OPT_STAT.PHASE 1, 1), (LDS_CH_STATE.STATE 1, 1)]],
      (s.answers = true ∧ 2 ≤ s.level (0 : Fin 7) ∧ s.on MGT_STAT.PWARN = false) ∧ bit (2#32).toNat 1 = 1 ∧ s.phase (1
        : Fin 4) = Phase.tuning ∧ s.chSt (1 : Fin 4) ≠ ChSt.fenced) ∧
    (∃ s ∈ [op []],
      (s.answers = true ∧ 2 ≤ s.level (0 : Fin 7) ∧ s.on MGT_STAT.PWARN = false) ∧ s.phase (1 : Fin 4) = Phase.off ∧
        s.freqFits (1 : Fin 4) ((OPT_FREQ.N (1 : Fin 4)).of (0xF00#32).toNat) = true) ∧
    (∃ s ∈ [op [(OPT_STAT.PHASE 1, 3)]],
      (s.answers = true ∧ 2 ≤ s.level (0 : Fin 7) ∧ s.on MGT_STAT.PWARN = false) ∧ s.phase (1 : Fin 4) ≠ Phase.off) ∧
    (∃ s ∈ [op []],
      (s.answers = true ∧ 2 ≤ s.level (0 : Fin 7) ∧ s.on MGT_STAT.PWARN = false) ∧ -1000 ≤ toSigned 16
        ((OPT_TX_PWR.SET (1 : Fin 4)).of (0xFC18#32).toNat) ∧ toSigned 16 ((OPT_TX_PWR.SET (1 : Fin 4)).of
        (0xFC18#32).toNat) ≤ 400 ∧ s.phase (1 : Fin 4) ≠ Phase.rampUp ∧ s.phase (1 : Fin 4) ≠ Phase.lit) ∧
    (∃ s ∈ [op [(OPT_STAT.PHASE 1, 2)]],
      (s.answers = true ∧ 2 ≤ s.level (0 : Fin 7) ∧ s.on MGT_STAT.PWARN = false) ∧ -1000 ≤ toSigned 16
        ((OPT_TX_PWR.SET (1 : Fin 4)).of (400#32).toNat) ∧ toSigned 16 ((OPT_TX_PWR.SET (1 : Fin 4)).of
        (400#32).toNat) ≤ 400 ∧ s.phase (1 : Fin 4) = Phase.rampUp) ∧
    (∃ s ∈ [((op [(OPT_STAT.PHASE 1, 3)]).putS (OPTC.POWER 1) 3960000)],
      (s.answers = true ∧ 2 ≤ s.level (0 : Fin 7) ∧ s.on MGT_STAT.PWARN = false) ∧ -1000 ≤ toSigned 16
        ((OPT_TX_PWR.SET (1 : Fin 4)).of (400#32).toNat) ∧ toSigned 16 ((OPT_TX_PWR.SET (1 : Fin 4)).of
        (400#32).toNat) ≤ 400 ∧ s.phase (1 : Fin 4) = Phase.lit ∧ (10000 * toSigned 16 ((OPT_TX_PWR.SET (1 : Fin
        4)).of (400#32).toNat) - s.rdS (OPTC.POWER (1 : Fin 4))).natAbs < 50000) ∧
    (∃ s ∈ [op [(OPT_STAT.PHASE 1, 1), (OPTC.TARGET 1, 33)]],
      s.phase (1 : Fin 4) = Phase.tuning) ∧
    (∃ s ∈ [op [(OPT_STAT.PHASE 1, 1)]],
      s.phase (1 : Fin 4) = Phase.tuning ∧ s.rd (OPTC.TUNE_FAILS (1 : Fin 4)) = 0) ∧
    (∃ s ∈ [op [(OPT_STAT.PHASE 1, 1), (OPTC.TUNE_FAILS 1, 1), (LDS_CH_STATE.STATE 1, 1)]],
      s.phase (1 : Fin 4) = Phase.tuning ∧ s.rd (OPTC.TUNE_FAILS (1 : Fin 4)) ≠ 0) ∧
    (∃ s ∈ [op [(OPTC.RAMPING 1, 1), (OPTC.RAMP_K 1, 62)]],
      s.on (OPTC.RAMPING (1 : Fin 4)) = true ∧ s.rd (OPTC.RAMP_K (1 : Fin 4)) < 63) ∧
    (∃ s ∈ [op [(OPTC.RAMPING 1, 1), (OPTC.RAMP_K 1, 63), (OPT_STAT.PHASE 1, 2), (LDS_CH_STATE.STATE 1, 1),
      (LDS_TX_STAT.MUTED 1, 1)]],
      s.on (OPTC.RAMPING (1 : Fin 4)) = true ∧ s.rd (OPTC.RAMP_K (1 : Fin 4)) = 63 ∧ s.phase (1 : Fin 4) =
        Phase.rampUp) ∧
    (∃ s ∈ [op [(OPTC.RAMPING 1, 1), (OPTC.RAMP_K 1, 63), (OPT_STAT.PHASE 1, 4)]],
      s.on (OPTC.RAMPING (1 : Fin 4)) = true ∧ s.rd (OPTC.RAMP_K (1 : Fin 4)) = 63 ∧ s.phase (1 : Fin 4) =
        Phase.rampDown ∧ s.on (OPT_STAT.ENA_PEND (1 : Fin 4)) = false) := by
  refine ⟨?_, ?_, ?_, ?_, ?_, ?_, ?_, ?_, ?_, ?_, ?_, ?_, ?_, ?_, ?_, ?_⟩ <;> decide +kernel

/-- States that meet the hypotheses of ReceivedLightFollowed, clause by clause. -/
theorem test_met_ReceivedLightFollowed :
    (∃ s ∈ [op [(OPT_STAT.PHASE 1, 3)]],
      s.answers = true) ∧
    (∃ s ∈ [op [(OPT_STAT.PHASE 1, 3), (LDS_CH_STATE.STATE 1, 3)]],
      s.phase (1 : Fin 4) = Phase.lit ∧ s.on (OPT_AGC_STAT.SETTLED (1 : Fin 4)) = false ∧ s.on (OPT_AGC_STAT.FROZEN (1
        : Fin 4)) = false ∧ s.on (OPT_STAT.LOS (1 : Fin 4)) = false ∧ s.chSt (1 : Fin 4) ≠ ChSt.acquiring) ∧
    (∃ s ∈ [op [(OPT_STAT.PHASE 1, 3), (LDS_CH_STATE.STATE 1, 2)]],
      s.phase (1 : Fin 4) = Phase.lit ∧ s.on (OPT_AGC_STAT.SETTLED (1 : Fin 4)) = false ∧ s.on (OPT_AGC_STAT.FROZEN (1
        : Fin 4)) = false ∧ s.on (OPT_STAT.LOS (1 : Fin 4)) = false ∧ s.chSt (1 : Fin 4) = ChSt.acquiring ∧ s.on
        (LDS_CD_EST.VALID (1 : Fin 4)) = false ∧ s.on (LDSC.EST_RUN (1 : Fin 4)) = false) ∧
    (∃ s ∈ [op [(OPT_AGC_STAT.UNFRZ_PEND 1, 1), (OPT_AGC_STAT.FROZEN 1, 1)]],
      s.on (OPT_AGC_STAT.UNFRZ_PEND (1 : Fin 4)) = true) ∧
    (∃ s ∈ [op []],
      s.answers = true ∧ s.on (OPT_STAT.LOS (1 : Fin 4)) = false ∧ s.holdsLock (1 : Fin 4) = false) ∧
    (∃ s ∈ [op [(LDS_CH_STATE.STATE 1, 4)]],
      s.answers = true ∧ s.on (OPT_STAT.LOS (1 : Fin 4)) = false ∧ s.holdsLock (1 : Fin 4) = true) ∧
    (∃ s ∈ [op [(OPT_STAT.LOS 1, 1)]],
      s.on (OPT_STAT.LOS (1 : Fin 4)) = true) := by
  refine ⟨?_, ?_, ?_, ?_, ?_, ?_, ?_⟩ <;> decide +kernel

/-- States that meet the hypotheses of SafetyInputsAndOpticalFaults, clause by clause. -/
theorem test_met_SafetyInputsAndOpticalFaults :
    (∃ s ∈ [op []],
      s.mode ≠ Mode.keep ∧ (∀ k : Fin 4, s.phase k = Phase.off) ∧ s.rd CAL_RUN_STAT.STATE ≠ 1) ∧
    (∃ s ∈ [op [(OPT_STAT.PHASE 3, 3), (LDS_CH_STATE.STATE 3, 4)]],
      s.mode ≠ Mode.keep ∧ (∀ k : Fin 3, s.phase k = Phase.off) ∧ s.rd CAL_RUN_STAT.STATE ≠ 1 ∧ s.phase 3 ≠ Phase.off
        ∧ s.chSt 3 ≠ ChSt.fenced) ∧
    (∃ s ∈ [op [(PIN.SAFE_A, 1), (PIN.SAFE_B, 1)]],
      s.mode ≠ Mode.keep) ∧
    (∃ s ∈ [op [(OPT_SAFE_STAT.DISC_RUN 1, 1)]],
      s.on (OPT_SAFE_STAT.DISC_RUN (1 : Fin 4)) = true ∧ s.on (OPT_SAFE_STAT.DISC (1 : Fin 4)) = false) ∧
    (∃ s ∈ [op [(OPT_SAFE_STAT.DISC 1, 1), (OPT_SAFE_STAT.SHUT_EV 1, 1)]],
      (s.answers = true ∧ 2 ≤ s.level (0 : Fin 7) ∧ s.on MGT_STAT.PWARN = false) ∧ bit (16#32).toNat 4 = 1 ∧ s.on
        PIN.SAFE_A = false ∧ s.on PIN.SAFE_B = false) ∧
    (∃ s ∈ [op [(OPT_SAFE_STAT.DISC 1, 1), (PIN.SAFE_A, 1)]],
      (s.answers = true ∧ 2 ≤ s.level (0 : Fin 7) ∧ s.on MGT_STAT.PWARN = false) ∧ bit (16#32).toNat 4 = 1 ∧ (s.on
        PIN.SAFE_A = true ∨ s.on PIN.SAFE_B = true)) ∧
    (∃ s ∈ [op [(OPT_STAT.PHASE 1, 3), (LDS_CH_STATE.STATE 1, 4)]],
      s.phase (1 : Fin 4) = Phase.lit) ∧
    (∃ s ∈ [op []],
      s.answers = true ∧ s.phase (1 : Fin 4) ≠ Phase.tuning) ∧
    (∃ s ∈ [op [(OPT_STAT.PHASE 1, 3), (LDS_CH_STATE.STATE 1, 4)]],
      (s.phase (1 : Fin 4) = Phase.rampUp ∨ s.phase (1 : Fin 4) = Phase.lit ∨ s.phase (1 : Fin 4) = Phase.rampDown)) ∧
    (∃ s ∈ [op []],
      s.answers = true) ∧
    (∃ s ∈ [op []],
      s.answers = true) := by
  refine ⟨?_, ?_, ?_, ?_, ?_, ?_, ?_, ?_, ?_, ?_, ?_⟩ <;> decide +kernel

/-- States that meet the hypotheses of SliceFaultsConcealed, clause by clause. -/
theorem test_met_SliceFaultsConcealed :
    (∃ s ∈ [op [(LDS_CH_STATE.STATE 1, 4)]],
      s.convRuns (1 : Fin 4) = true ∧ isAdc (300 : Fin 544) = true ∧ s.on (CNV_STAT.LOS (1 : Fin 4)) = false ∧ s.slice
        (1 : Fin 4) (300 : Fin 544) = Slice.active ∧ (s.actsAtOnce (1 : Fin 4) = false ∨ (s.chan (1 : Fin 4)).swaps =
        [] ∧ s.spares (1 : Fin 4) ((300 : Fin 544).val / 68) ≠ [])) ∧
    (∃ s ∈ [op [(LDS_CH_STATE.STATE 1, 4), (CNV_SLC_COR0.OFFSET 1 3, 32)]],
      s.convRuns (1 : Fin 4) = true ∧ s.atLimit (1 : Fin 4) (3 : Fin 544) = true ∧ s.slice (1 : Fin 4) (3 : Fin 544) =
        Slice.active ∧ (s.actsAtOnce (1 : Fin 4) = false ∨ (s.chan (1 : Fin 4)).swaps = [] ∧ s.spares (1 : Fin 4) ((3
        : Fin 544).val / 68) ≠ [])) ∧
    (∃ s ∈ [op [(LDS_CH_STATE.STATE 1, 4), (CNV_SLC_COR0.OFFSET 1 3, 9)]],
      s.convRuns (1 : Fin 4) = true ∧ s.drifted (1 : Fin 4) (3 : Fin 544) = true ∧ s.slice (1 : Fin 4) (3 : Fin 544) =
        Slice.active ∧ (s.actsAtOnce (1 : Fin 4) = false ∨ (s.chan (1 : Fin 4)).swaps = [] ∧ s.spares (1 : Fin 4) ((3
        : Fin 544).val / 68) ≠ [])) ∧
    (∃ s ∈ [op [(LDS_CH_STATE.STATE 1, 4)]],
      s.convRuns (1 : Fin 4) = true ∧ isAdc (272 : Fin 544) = true ∧ s.slice (1 : Fin 4) (272 : Fin 544) =
        Slice.active ∧ (s.actsAtOnce (1 : Fin 4) = false ∨ (s.chan (1 : Fin 4)).swaps = [] ∧ s.spares (1 : Fin 4)
        ((272 : Fin 544).val / 68) ≠ [])) ∧
    (∃ s ∈ [op [(LDS_CH_STATE.STATE 1, 4)]],
      s.convRuns (1 : Fin 4) = true ∧ isAdc (205 : Fin 544) = false ∧ s.slice (1 : Fin 4) (205 : Fin 544) =
        Slice.active ∧ (s.actsAtOnce (1 : Fin 4) = false ∨ (s.chan (1 : Fin 4)).swaps = [] ∧ s.spares (1 : Fin 4)
        ((205 : Fin 544).val / 68) ≠ [])) ∧
    (∃ s ∈ [op [(LDS_CH_STATE.STATE 1, 4), (CNV_SLC_SEL.CONV 1, 2), (CNV_SLC_SEL.SLICE 1, 5), (CNV_SLC_STAT.STATE 1
      141, 0), (CNV_SLC_STAT.STATE 1 200, 1)]],
      (s.answers = true ∧ 3 ≤ s.level (0 : Fin 7) ∧ s.on MGT_STAT.PWARN = false) ∧ bit (1#32).toNat 0 = 1 ∧ s.sliceSel
        (1 : Fin 4) < 544 ∧ s.slice (1 : Fin 4) (s.sliceSel (1 : Fin 4)) = Slice.active ∧ s.spares (1 : Fin 4)
        (s.sliceSel (1 : Fin 4) / 68) ≠ [] ∧ (s.actsAtOnce (1 : Fin 4) = false ∨ (s.chan (1 : Fin 4)).swaps = [])) ∧
    (∃ s ∈ [op [(FEC_ENG_ACT.ACTIVE 1, 0xFFFFFF), (LDS_CH_STATE.STATE 1, 4), (CNV_SLC_SEL.CONV 1, 2),
      (CNV_SLC_SEL.SLICE 1, 64), (CNV_SLC_STAT.STATE 1 200, 1)]],
      (s.answers = true ∧ 3 ≤ s.level (0 : Fin 7) ∧ s.on MGT_STAT.PWARN = false) ∧ bit (1#32).toNat 0 = 1 ∧ s.sliceSel
        (1 : Fin 4) < 544 ∧ s.slice (1 : Fin 4) (s.sliceSel (1 : Fin 4)) = Slice.spare) ∧
    (∃ s ∈ [op [(CNV_SLC_SEL.CONV 1, 2), (CNV_SLC_SEL.SLICE 1, 5), (CNV_SLC_STAT.STATE 1 141, 3)]],
      (s.answers = true ∧ 3 ≤ s.level (0 : Fin 7) ∧ s.on MGT_STAT.PWARN = false) ∧ bit (1#32).toNat 0 = 1 ∧ s.slice (1
        : Fin 4) (s.sliceSel (1 : Fin 4)) ≠ Slice.active ∧ s.slice (1 : Fin 4) (s.sliceSel (1 : Fin 4)) ≠ Slice.spare)
        := by
  refine ⟨?_, ?_, ?_, ?_, ?_, ?_, ?_, ?_⟩ <;> decide +kernel

/-- A state that meets the hypotheses of a clause of SlicesSubstitutedAndRespaced on a respacing. -/
theorem test_met_SlicesSubstitutedAndRespaced_1 :
    (∃ s ∈ [((op [(FEC_ENG_ACT.ACTIVE 1, 0xFFFFFF), (CNV_RATE.MAXRS 1, 34000), (LDS_CH_STATE.STATE 1, 4), (CNV_SLC_STAT.STATE 1 5, 5)]).onChan 1 (fun c => { c with swaps := [⟨0, 5, some 5, .exhausted⟩] }))],
      s.boundaryOpen (1 : Fin 4) = true ∧ s.exhausted (1 : Fin 4) (0 : Fin 2) = true ∧ s.rszRunning (1 : Fin 4) =
        false ∧ (s.respaceCore (1 : Fin 4) (0 : Fin 2)).maxModeOf (1 : Fin 4) ≠ 0 ∧ ((s.active (1 : Fin 4)).all (fun q
        => q.rs ≤ (s.respaceCore (1 : Fin 4) (0 : Fin 2)).rd (CNV_RATE.MAXRS (1 : Fin 4))) = true) ∧ ((0 : Fin 2) = 0
        ∨ s.holdsLock (1 : Fin 4) = false ∧ s.lightUp (1 : Fin 4) = false)) := by
  decide +kernel

/-- A state that meets the hypotheses of a clause of SlicesSubstitutedAndRespaced on a respacing. -/
theorem test_met_SlicesSubstitutedAndRespaced_2 :
    (∃ s ∈ [((op [(FEC_ENG_ACT.ACTIVE 1, 0xFFFFFF), (CNV_RATE.MAXRS 1, 34000), (LDS_CH_STATE.STATE 1, 4), (CNV_SLC_STAT.STATE 1 300, 5)]).onChan 1 (fun c => { c with swaps := [⟨4, 5, some 300, .exhausted⟩] }))],
      s.boundaryOpen (1 : Fin 4) = true ∧ s.exhausted (1 : Fin 4) 1 = true ∧ s.rszRunning (1 : Fin 4) = false ∧
        (s.respaceCore (1 : Fin 4) 1).maxModeOf (1 : Fin 4) ≠ 0 ∧ ((s.active (1 : Fin 4)).all (fun q => q.rs ≤
        (s.respaceCore (1 : Fin 4) 1).rd (CNV_RATE.MAXRS (1 : Fin 4))) = true) ∧ s.holdsLock (1 : Fin 4) = true) := by
  decide +kernel

/-- A state that meets the hypotheses of a clause of SlicesSubstitutedAndRespaced on a respacing. -/
theorem test_met_SlicesSubstitutedAndRespaced_3 :
    (∃ s ∈ [((op [(FEC_ENG_ACT.ACTIVE 1, 0xFFFFFF), (CNV_RATE.MAXRS 1, 34000), (LDS_CH_STATE.STATE 1, 4), (CNV_SLC_STAT.STATE 1 5, 5)]).onChan 1 (fun c => { c with swaps := [⟨0, 5, some 5, .exhausted⟩], prof := [some ⟨5, 34000, 6, 561, 0, 1280, 4, 8, true, 2, 5, 5, 0, [], [], []⟩] }))],
      s.boundaryOpen (1 : Fin 4) = true ∧ s.exhausted (1 : Fin 4) (0 : Fin 2) = true ∧ s.rszRunning (1 : Fin 4) =
        false ∧ (s.respaceCore (1 : Fin 4) (0 : Fin 2)).maxModeOf (1 : Fin 4) ≠ 0 ∧ ((s.active (1 : Fin 4)).any (fun q
        => (s.respaceCore (1 : Fin 4) (0 : Fin 2)).rd (CNV_RATE.MAXRS (1 : Fin 4)) < q.rs) = true) ∧ s.lightUp (1 :
        Fin 4) = true) := by
  decide +kernel

/-- States that meet the hypotheses of SlicesSubstitutedAndRespaced, clause by clause. -/
theorem test_met_SlicesSubstitutedAndRespaced :
    (∃ s ∈ [((op [(FEC_ENG_ACT.ACTIVE 1, 0xFFFFFF), (CNV_RATE.MAXRS 1, 34000), (LDS_CH_STATE.STATE 1, 4), (CNV_SLC_STAT.STATE 1 5, 5), (CNV_SLC_STAT.STATE 1 64, 2)]).onChan 1 (fun c => { c with swaps := [⟨0, 5, some 5, .shadow 64⟩] }))], ∃ w ∈ [(⟨0, 5, some 5, .shadow 64⟩ : Swap)],
      ((s.chan (1 : Fin 4)).swaps.find? (fun w => w.conv = (0 : Fin 8).val && (match w.stage with | .shadow _ => true | _ => false)) = some w) ∧ w.stage = .shadow (64 : Nat) ∧ (64 : Nat) < 544 ∧ s.actsAtOnce (1 : Fin 4) = false) ∧
    (∃ s ∈ [((op [(FEC_ENG_ACT.ACTIVE 1, 0xFFFFFF), (CNV_RATE.MAXRS 1, 34000), (CNV_SLC_STAT.STATE 1 5, 5), (CNV_SLC_STAT.STATE 1 64, 2)]).onChan 1 (fun c => { c with swaps := [⟨0, 5, some 5, .shadow 64⟩] }))], ∃ w ∈ [(⟨0, 5, some 5, .shadow 64⟩ : Swap)],
      (s.chan (1 : Fin 4)).swaps = [w] ∧ w.conv = (0 : Fin 8).val ∧ w.stage = .shadow (64 : Nat) ∧ w.slice = some (5 :
        Nat) ∧ (64 : Nat) < 544 ∧ (5 : Nat) < 544 ∧ (64 : Nat) ≠ (5 : Nat) ∧ s.chSt (1 : Fin 4) = ChSt.dark) ∧
    (∃ s ∈ [((op [(FEC_ENG_ACT.ACTIVE 1, 0xFFFFFF), (CNV_RATE.MAXRS 1, 34000), (LDS_CH_STATE.STATE 1, 4), (CNV_SLC_STAT.STATE 1 5, 5), (CNV_SLC_STAT.STATE 1 64, 2), (CNV_SLC_STAT.STATE 1 65, 1)]).onChan 1 (fun c => { c with swaps := [⟨0, 5, some 5, .shadow 64⟩] }))],
      ((s.chan (1 : Fin 4)).swaps.findSome? (fun w => match w.stage with | .shadow (64 : Nat) => if w.conv = (0 : Fin 8).val then some (64 : Nat) else none | _ => none) = some (64 : Nat)) ∧ (64 : Nat) < 544 ∧ s.slice (1 : Fin 4) (64 : Nat) = Slice.shadow) ∧
    (∃ s ∈ [((op [(FEC_ENG_ACT.ACTIVE 1, 0xFFFFFF), (CNV_RATE.MAXRS 1, 34000), (LDS_CH_STATE.STATE 1, 4), (CNV_SLC_STAT.STATE 1 5, 5), (CNV_SLC_STAT.STATE 1 64, 2)]).onChan 1 (fun c => { c with swaps := [⟨0, 5, some 5, .ready 64⟩] }))], ∃ w ∈ [(⟨0, 5, some 5, .ready 64⟩ : Swap)],
      s.boundaryOpen (1 : Fin 4) = true ∧ ((s.readySwaps (1 : Fin 4) ((0 : Fin 8) / 4)).filter (fun w => w.conv = (0 :
        Fin 8).val) = [w]) ∧ w.stage = .ready (64 : Nat) ∧ w.slice = some (5 : Nat) ∧ (64 : Nat) < 544 ∧ (5 : Nat) <
        544 ∧ (64 : Nat) ≠ (5 : Nat) ∧ s.exhausted (1 : Fin 4) 0 = false ∧ s.exhausted (1 : Fin 4) 1 = false) ∧
    (∃ s ∈ [op [(LDS_CH_STATE.STATE 1, 4), (OPT_STAT.PHASE 1, 3)]],
      s.answers = true ∧ s.boundaryOpen (1 : Fin 4) = true ∧ s.readySwaps (1 : Fin 4) (1 : Fin 2) = [] ∧ s.exhausted
        (1 : Fin 4) (1 : Fin 2) = false ∧ s.calApplying (1 : Fin 4) = false ∧ s.on (OPTC.HOLD (s.rd
        CAL_RUN_STAT.SCOPE)) = false ∧ (300 : Fin 544).val / 272 = (1 : Fin 2).val ∧ s.loopsRun (1 : Fin 4) (300 : Fin
        544) = true ∧ s.loopFrozen (1 : Fin 4) (300 : Fin 544) (2 : Fin 4) = false ∧ (((s.cor (1 : Fin 4) (300 : Fin
        544) (2 : Fin 4) + (if (false : Bool) then 1 else -1)).natAbs : Int) ≤ corRange (isAdc (300 : Fin 544)) (2 :
        Fin 4))) ∧
    (∃ s ∈ [op [(LDS_CH_STATE.STATE 1, 4), (OPT_STAT.PHASE 1, 3)]],
      s.answers = true ∧ s.boundaryOpen (1 : Fin 4) = true ∧ s.readySwaps (1 : Fin 4) (1 : Fin 2) = [] ∧ s.exhausted
        (1 : Fin 4) (1 : Fin 2) = false ∧ s.calApplying (1 : Fin 4) = false ∧ s.on (OPTC.HOLD (s.rd
        CAL_RUN_STAT.SCOPE)) = false) := by
  refine ⟨?_, ?_, ?_, ?_, ?_, ?_⟩ <;> decide +kernel

/-- States that meet the hypotheses of ConverterClocksAndSignal, clause by clause. -/
theorem test_met_ConverterClocksAndSignal :
    (∃ s ∈ [op [(CNV_PLL_STAT.TX_LOCK 1, 1)]],
      s.convRuns (1 : Fin 4) = true ∧ s.on (CNV_STAT.TX_LOL (1 : Fin 4)) = false ∧ s.on (CNV_PLL_STAT.TX_FAULT (1 :
        Fin 4)) = false ∧ (s.rd (CNVC.LOL_PREV (1 : Fin 4) 0) = 0 ∨ s.rd (CNVC.LOL_PREV (1 : Fin 4) 0) + 1000000000 <
        s.time + 1)) ∧
    (∃ s ∈ [op [(LDS_CH_STATE.STATE 1, 4)]],
      s.convRuns (1 : Fin 4) = true ∧ s.on (CNV_STAT.RX_LOL (1 : Fin 4)) = false ∧ s.on (CNV_PLL_STAT.RX_FAULT (1 :
        Fin 4)) = false ∧ (s.rd (CNVC.LOL_PREV (1 : Fin 4) 1) = 0 ∨ s.rd (CNVC.LOL_PREV (1 : Fin 4) 1) + 1000000000 <
        s.time + 1) ∧ s.holdsLock (1 : Fin 4) = true) ∧
    (∃ s ∈ [op [(LDS_CH_STATE.STATE 1, 2)]],
      s.convRuns (1 : Fin 4) = true ∧ s.on (CNV_STAT.RX_LOL (1 : Fin 4)) = false ∧ s.on (CNV_PLL_STAT.RX_FAULT (1 :
        Fin 4)) = false ∧ (s.rd (CNVC.LOL_PREV (1 : Fin 4) 1) = 0 ∨ s.rd (CNVC.LOL_PREV (1 : Fin 4) 1) + 1000000000 <
        s.time + 1) ∧ s.holdsLock (1 : Fin 4) = false) ∧
    (∃ s ∈ [op [(CNV_STAT.RX_LOL 1, 1), (CNV_STAT.REFLOSS 1, 1), (LDS_CH_STATE.STATE 1, 2), (LDSC.WAIT 1, 1)]],
      s.convRuns (1 : Fin 4) = true ∧ s.on (pllFaultBit (1 : Fin 4) (1 : Fin 2)) = false) ∧
    (∃ s ∈ [op []],
      s.convRuns (1 : Fin 4) = true ∧ (∀ d : Fin 2, s.on (pllLol (1 : Fin 4) d) = false) ∧ (∀ d : Fin 2, s.on
        (pllFaultBit (1 : Fin 4) d) = false) ∧ (∀ d : Fin 2, s.rd (CNVC.LOL_PREV (1 : Fin 4) d) = 0 ∨ s.rd
        (CNVC.LOL_PREV (1 : Fin 4) d) + 1000000000 < s.time + 1)) ∧
    (∃ s ∈ [op [(CNV_STAT.TX_LOL 1, 1), (LDS_CH_STATE.STATE 1, 4)]],
      s.operating = true ∧ s.on (pllLol (1 : Fin 4) (0 : Fin 2)) = true ∧ s.on (pllFaultBit (1 : Fin 4) (0 : Fin 2)) =
        false ∧ s.chSt (1 : Fin 4) ≠ ChSt.fenced) ∧
    (∃ s ∈ [op []],
      s.convRuns (1 : Fin 4) = true ∧ s.on (CNV_STAT.LOS (1 : Fin 4)) = false) ∧
    (∃ s ∈ [op [(CNV_STAT.LOS 1, 1)]],
      s.convRuns (1 : Fin 4) = true ∧ s.on (CNV_STAT.LOS (1 : Fin 4)) = true) ∧
    (∃ s ∈ [op [(CNV_STAT.LOS 1, 1), (OPT_STAT.PHASE 1, 3)]],
      s.on (CNV_STAT.LOS (1 : Fin 4)) = true ∧ s.phase (1 : Fin 4) = Phase.lit ∧ s.on (OPT_STAT.LOS (1 : Fin 4)) =
        false ∧ s.on (CNV_STAT.FE_MISMATCH (1 : Fin 4)) = false) ∧
    (∃ s ∈ [op []],
      s.convRuns (1 : Fin 4) = true) := by
  refine ⟨?_, ?_, ?_, ?_, ?_, ?_, ?_, ?_, ?_, ?_⟩ <;> decide +kernel

/-- States that meet the hypotheses of AcquisitionProgresses, clause by clause. -/
theorem test_met_AcquisitionProgresses :
    (∃ s ∈ [((op [(LDS_CH_STATE.STATE 1, 2), (LDSC.EST_RUN 1, 1), (ISC_STAT.CHIP 1, 1)]).onChan 1 (fun c => { c with prof := [some ⟨1, 13000, 2, 200, 1, 160, 400, 0, false, 2, 5, 5, 0, [], [], []⟩] }))],
      s.chSt (1 : Fin 4) = ChSt.acquiring ∧ s.on (LDSC.EST_RUN (1 : Fin 4)) = true ∧ s.on (LDSC.SRC (1 : Fin 4)) =
        false ∧ s.estimable (1 : Fin 4) (-500 : Int) (13000 : Nat) = true ∧ s.outOfRange (1 : Fin 4) (-500 : Int) =
        false ∧ s.interop (1 : Fin 4) = false) ∧
    (∃ s ∈ [((op [(LDS_CH_STATE.STATE 1, 2), (LDSC.EST_RUN 1, 1)]).onChan 1 (fun c => { c with prof := [some ⟨3, 30000, 4, 354, 1, 640, 80, 0, false, 2, 5, 5, 0, [], [], []⟩, some ⟨1, 13000, 2, 200, 1, 160, 400, 0, false, 2, 5, 5, 0, [], [], []⟩] }))],
      s.chSt (1 : Fin 4) = ChSt.acquiring ∧ s.on (LDSC.EST_RUN (1 : Fin 4)) = true ∧ s.on (LDSC.SRC (1 : Fin 4)) =
        false ∧ s.on (LDS_CD_CTRL.SRC (1 : Fin 4)) = false ∧ s.estimable (1 : Fin 4) (-90000 : Int) (13000 : Nat) =
        true ∧ s.outOfRange (1 : Fin 4) (-90000 : Int) = true) ∧
    (∃ s ∈ [((op [(LDS_CH_STATE.STATE 1, 2), (LDSC.EST_RUN 1, 1)]).onChan 1 (fun c => { c with prof := [some ⟨7, 6000, 4, 400, 2, 0, 100, 0, false, 2, 5, 5, 0, [], [], []⟩] }))],
      s.chSt (1 : Fin 4) = ChSt.acquiring ∧ s.on (LDSC.EST_RUN (1 : Fin 4)) = true ∧ s.on (LDSC.SRC (1 : Fin 4)) =
        false ∧ s.estimable (1 : Fin 4) (-500 : Int) (6000 : Nat) = true ∧ s.outOfRange (1 : Fin 4) (-500 : Int) =
        false ∧ s.interop (1 : Fin 4) = true) ∧
    (∃ s ∈ [op [(LDS_CH_STATE.STATE 1, 2), (LDSC.EST_RUN 1, 1)]],
      s.chSt (1 : Fin 4) = ChSt.acquiring ∧ s.on (LDSC.EST_RUN (1 : Fin 4)) = true ∧ s.on (LDSC.SRC (1 : Fin 4)) =
        false ∧ s.on (LDS_CD_CTRL.SRC (1 : Fin 4)) = false) ∧
    (∃ s ∈ [op [(LDS_CH_STATE.STATE 1, 3), (LDS_CD_CTRL.TRACK 1, 1), (LDS_CD_EST.VALID 1, 1)]],
      s.holdsLock (1 : Fin 4) = true ∧ s.on (LDS_CD_CTRL.TRACK (1 : Fin 4)) = true ∧ s.on (LDS_CD_EST.VALID (1 : Fin
        4)) = true ∧ s.outOfRange (1 : Fin 4) (s.rdS (LDS_CD_EST.EST (1 : Fin 4)) + ((0 : Fin 3).val : Int) - 1) =
        false) ∧
    (∃ s ∈ [((op [(LDS_CH_STATE.STATE 1, 3), (LDS_CD_CTRL.TRACK 1, 1), (LDS_CD_EST.VALID 1, 1)]).onChan 1 (fun c => { c with prof := [some ⟨3, 30000, 4, 354, 1, 640, 0, 0, false, 2, 5, 5, 0, [], [], []⟩] }))],
      s.holdsLock (1 : Fin 4) = true ∧ s.on (LDS_CD_CTRL.TRACK (1 : Fin 4)) = true ∧ s.on (LDS_CD_EST.VALID (1 : Fin
        4)) = true ∧ s.outOfRange (1 : Fin 4) (s.rdS (LDS_CD_EST.EST (1 : Fin 4)) + ((0 : Fin 3).val : Int) - 1) =
        true) ∧
    (∃ s ∈ [op [(LDS_CH_STATE.STATE 1, 2), (LDS_ACQ_STAT.STEP 1, 2)]],
      s.chSt (1 : Fin 4) = ChSt.acquiring ∧ 2 ≤ s.rd (LDS_ACQ_STAT.STEP (1 : Fin 4)) ∧ (-20 : Int).natAbs ≤ 20000) ∧
    (∃ s ∈ [op [(LDS_CH_STATE.STATE 1, 4), (LDS_CLK_STAT.LOCK 1, 1)]],
      s.chSt (1 : Fin 4) ≠ ChSt.acquiring ∧ s.on (LDS_CLK_STAT.LOCK (1 : Fin 4)) = true ∧ (20000 : Int).natAbs ≤
        20000) ∧
    (∃ s ∈ [op [(LDS_CLK_STAT.LOCK 1, 1), (LFR_STAT.FSTATE 1, 2)]],
      s.on (LDS_CLK_STAT.LOCK (1 : Fin 4)) = true ∧ s.holdsLock (1 : Fin 4) = false) ∧
    (∃ s ∈ [op [(LDS_CLK_STAT.LOCK 1, 1), (LDS_CH_STATE.STATE 1, 4)]],
      s.on (LDS_CLK_STAT.LOCK (1 : Fin 4)) = true ∧ s.holdsLock (1 : Fin 4) = true) ∧
    (∃ s ∈ [op [(LDS_EQ_STAT.PSYNC 1, 1)]],
      s.on (LDS_EQ_STAT.PSYNC (1 : Fin 4)) = true) := by
  refine ⟨?_, ?_, ?_, ?_, ?_, ?_, ?_, ?_, ?_, ?_, ?_⟩ <;> decide +kernel

/-- States that meet the hypotheses of AcquisitionSteps, clause by clause. -/
theorem test_met_AcquisitionSteps :
    (∃ s ∈ [op [(LDS_CH_STATE.STATE 1, 2), (LDS_ACQ_STAT.STEP 1, 2), (LDS_CLK_STAT.LOCK 1, 1)]],
      s.chSt (1 : Fin 4) = ChSt.acquiring ∧ s.rd (LDS_ACQ_STAT.STEP (1 : Fin 4)) = 2 ∧ s.on (LDS_CLK_STAT.LOCK (1 :
        Fin 4)) = true) ∧
    (∃ s ∈ [op [(LDS_CH_STATE.STATE 1, 2), (LDS_ACQ_STAT.STEP 1, 3)]],
      s.chSt (1 : Fin 4) = ChSt.acquiring ∧ s.rd (LDS_ACQ_STAT.STEP (1 : Fin 4)) = 3) ∧
    (∃ s ∈ [op [(LDS_CH_STATE.STATE 1, 2), (LDS_ACQ_STAT.STEP 1, 4)]],
      s.chSt (1 : Fin 4) = ChSt.acquiring ∧ s.rd (LDS_ACQ_STAT.STEP (1 : Fin 4)) = 4 ∧ (-3600 : Int).natAbs ≤ 3600) ∧
    (∃ s ∈ [op [(LDS_CH_STATE.STATE 1, 2), (LDS_ACQ_STAT.STEP 1, 5)]],
      s.chSt (1 : Fin 4) = ChSt.acquiring ∧ s.rd (LDS_ACQ_STAT.STEP (1 : Fin 4)) = 5) ∧
    (∃ s ∈ [op [(LDS_CH_STATE.STATE 1, 2), (LDS_ACQ_STAT.STEP 1, 6)]],
      s.chSt (1 : Fin 4) = ChSt.acquiring ∧ s.rd (LDS_ACQ_STAT.STEP (1 : Fin 4)) = 6) ∧
    (∃ s ∈ [op [(LDS_CH_STATE.STATE 1, 2), (LDS_ACQ_STAT.STEP 1, 7), (FEC_STAT.CW_ALIGN 1, 1)]],
      s.chSt (1 : Fin 4) = ChSt.acquiring ∧ s.rd (LDS_ACQ_STAT.STEP (1 : Fin 4)) = 7 ∧ s.on (FEC_STAT.CW_ALIGN (1 :
        Fin 4)) = true) ∧
    (∃ s ∈ [op [(LDS_CH_STATE.STATE 1, 2), (LDS_ACQ_STAT.STEP 1, 8), (LFR_STAT.FSTATE 1, 2)]],
      s.chSt (1 : Fin 4) = ChSt.acquiring ∧ s.rd (LDS_ACQ_STAT.STEP (1 : Fin 4)) = 8 ∧ s.rd (LFR_STAT.FSTATE (1 : Fin
        4)) = 2 ∧ s.on (OPT_FAULT.RX (1 : Fin 4)) = false) ∧
    (∃ s ∈ [op [(LDS_CH_STATE.STATE 1, 2), (LDS_ACQ_STAT.STEP 1, 7)]],
      s.chSt (1 : Fin 4) = ChSt.acquiring ∧ 2 ≤ s.rd (LDS_ACQ_STAT.STEP (1 : Fin 4)) ∧ s.rd (LDS_ACQ_STAT.STEP (1 :
        Fin 4)) ≤ 8 ∧ s.rd (LDSC.FAILS (1 : Fin 4)) % 2 = 0) ∧
    (∃ s ∈ [op [(LDS_CH_STATE.STATE 1, 2), (LDS_ACQ_STAT.STEP 1, 7), (LDSC.FAILS 1, 1)]],
      s.chSt (1 : Fin 4) = ChSt.acquiring ∧ 2 ≤ s.rd (LDS_ACQ_STAT.STEP (1 : Fin 4)) ∧ s.rd (LDS_ACQ_STAT.STEP (1 :
        Fin 4)) ≤ 8 ∧ s.rd (LDSC.FAILS (1 : Fin 4)) % 2 = 1 ∧ s.on (LDS_CD_CTRL.SRC (1 : Fin 4)) = false) := by
  refine ⟨?_, ?_, ?_, ?_, ?_, ?_, ?_, ?_, ?_⟩ <;> decide +kernel

/-- States that meet the hypotheses of TilesFenced, clause by clause. -/
theorem test_met_TilesFenced :
    (∃ s ∈ [op [(LDS_TILE_STAT.STAGE 1 5, 1), (LDS_TILE_STAT.STATE 1 5, 0)]],
      s.rd (LDS_TILE_STAT.STATE (1 : Fin 4) (5 : Fin 96)) = 0 ∧ s.rd (LDS_TILE_STAT.STAGE (1 : Fin 4) (5 : Fin 96)) ≠
        0) ∧
    (∃ s ∈ [((op [(FEC_ENG_ACT.ACTIVE 1, 0xFFFFFF), (LDS_CH_STATE.STATE 1, 4), (LDS_TILE_STAT.STAGE 1 5, 1), (LDS_TILE_STAT.STATE 1 5, 0), (LDS_TILE_STAT.STATE 1 6, 0), (LDS_TILE_STAT.STATE 1 7, 0), (LDS_TILE_STAT.STATE 1 8, 0), (LDS_TILE_STAT.STATE 1 9, 0), (LDS_TILE_STAT.STATE 1 10, 0), (LDS_TILE_STAT.STATE 1 11, 0), (LDS_TILE_STAT.STATE 1 12, 0), (LDS_TILE_STAT.STATE 1 13, 0)]).onChan 1 (fun c => { c with prof := [some ⟨3, 30000, 4, 354, 1, 640, 0, 0, false, 2, 5, 8, 0, [5], [6, 7, 8, 9, 10, 11, 12, 13], []⟩] }))],
      s.answers = true ∧ s.rd (LDS_TILE_STAT.STATE (1 : Fin 4) (5 : Fin 96)) = 0 ∧ s.rd (LDS_TILE_STAT.STAGE (1 : Fin
        4) (5 : Fin 96)) ≠ 0 ∧ s.lightUp (1 : Fin 4) = true ∧ (s.put (LDS_TILE_STAT.STATE (1 : Fin 4) (5 : Fin 96))
        2).stageCovered (1 : Fin 4) (s.rd (LDS_TILE_STAT.STAGE (1 : Fin 4) (5 : Fin 96))) = true ∧ s.rszRunning (1 :
        Fin 4) = false ∧ (s.put (LDS_TILE_SUM.FENCED (1 : Fin 4)) (s.rd (LDS_TILE_SUM.FENCED (1 : Fin 4)) +
        1)).maxModeOf (1 : Fin 4) ≠ 0) ∧
    (∃ s ∈ [((op [(FEC_ENG_ACT.ACTIVE 1, 0xFFFFFF), (LDS_CH_STATE.STATE 1, 4), (LDS_TILE_STAT.STAGE 1 5, 2), (LDS_TILE_STAT.STATE 1 5, 0)]).onChan 1 (fun c => { c with prof := [some ⟨3, 30000, 4, 354, 1, 640, 0, 0, false, 2, 5, 8, 0, [], [5], []⟩] }))],
      s.answers = true ∧ s.rd (LDS_TILE_STAT.STATE (1 : Fin 4) (5 : Fin 96)) = 0 ∧ s.rd (LDS_TILE_STAT.STAGE (1 : Fin
        4) (5 : Fin 96)) ≠ 0 ∧ s.lightUp (1 : Fin 4) = true ∧ (s.put (LDS_TILE_STAT.STATE (1 : Fin 4) (5 : Fin 96))
        2).stageCovered (1 : Fin 4) (s.rd (LDS_TILE_STAT.STAGE (1 : Fin 4) (5 : Fin 96))) = false ∧ s.rszRunning (1 :
        Fin 4) = false ∧ (s.put (LDS_TILE_SUM.FENCED (1 : Fin 4)) (s.rd (LDS_TILE_SUM.FENCED (1 : Fin 4)) +
        1)).maxModeOf (1 : Fin 4) ≠ 0) ∧
    (∃ s ∈ [((op [(FEC_ENG_ACT.ACTIVE 1, 0xFFFFFF), (LDS_CH_STATE.STATE 1, 4), (LDS_TILE_STAT.STAGE 1 5, 1), (LDS_TILE_STAT.STATE 1 5, 0), (LDS_TILE_STAT.STATE 1 6, 0), (LDS_TILE_STAT.STATE 1 7, 0), (LDS_TILE_STAT.STATE 1 8, 0), (LDS_TILE_STAT.STATE 1 9, 0), (LDS_TILE_STAT.STATE 1 10, 0), (LDS_TILE_STAT.STATE 1 11, 0), (LDS_TILE_STAT.STATE 1 12, 0), (LDS_TILE_STAT.STATE 1 13, 0)]).onChan 1 (fun c => { c with prof := [some ⟨3, 30000, 4, 354, 1, 640, 0, 0, false, 2, 5, 8, 0, [5], [6, 7, 8, 9, 10, 11, 12, 13], []⟩] }))],
      s.answers = true ∧ s.rd (LDS_TILE_STAT.STATE (1 : Fin 4) (5 : Fin 96)) = 0 ∧ s.rd (LDS_TILE_STAT.STAGE (1 : Fin
        4) (5 : Fin 96)) ≠ 0 ∧ s.lightUp (1 : Fin 4) = true ∧ (s.put (LDS_TILE_STAT.STATE (1 : Fin 4) (5 : Fin 96))
        2).stageCovered (1 : Fin 4) (s.rd (LDS_TILE_STAT.STAGE (1 : Fin 4) (5 : Fin 96))) = true ∧ s.rszRunning (1 :
        Fin 4) = false ∧ (s.put (LDS_TILE_SUM.FENCED (1 : Fin 4)) (s.rd (LDS_TILE_SUM.FENCED (1 : Fin 4)) +
        1)).maxModeOf (1 : Fin 4) ≠ 0) ∧
    (∃ s ∈ [((op [(FEC_ENG_ACT.ACTIVE 1, 0xFFFFFF), (LDS_CH_STATE.STATE 1, 4), (LDS_TILE_STAT.STAGE 1 5, 2), (LDS_TILE_STAT.STATE 1 5, 0)]).onChan 1 (fun c => { c with prof := [some ⟨3, 30000, 4, 354, 1, 640, 0, 0, false, 2, 5, 8, 0, [], [5], []⟩] }))],
      s.answers = true ∧ s.rd (LDS_TILE_STAT.STATE (1 : Fin 4) (5 : Fin 96)) = 0 ∧ s.rd (LDS_TILE_STAT.STAGE (1 : Fin
        4) (5 : Fin 96)) ≠ 0 ∧ s.lightUp (1 : Fin 4) = true ∧ (s.put (LDS_TILE_STAT.STATE (1 : Fin 4) (5 : Fin 96))
        2).stageCovered (1 : Fin 4) (s.rd (LDS_TILE_STAT.STAGE (1 : Fin 4) (5 : Fin 96))) = false ∧ s.rszRunning (1 :
        Fin 4) = false ∧ (s.put (LDS_TILE_SUM.FENCED (1 : Fin 4)) (s.rd (LDS_TILE_SUM.FENCED (1 : Fin 4)) +
        1)).maxModeOf (1 : Fin 4) ≠ 0) ∧
    (∃ s ∈ [op [(FEC_ENG_ACT.ACTIVE 1, 0xFFFFFF), (LDS_CH_STATE.STATE 1, 4), (LDS_TILE_SEL.TILE 1, 5),
      (LDS_TILE_STAT.STATE 1 5, 1)]],
      (s.answers = true ∧ 3 ≤ s.level (0 : Fin 7) ∧ s.on MGT_STAT.PWARN = false) ∧ bit (1#32).toNat 0 = 1 ∧ s.rd
        (LDS_TILE_SEL.TILE (1 : Fin 4)) = (5 : Fin 96).val ∧ (s.rd (LDS_TILE_STAT.STATE (1 : Fin 4) (5 : Fin 96)) = 1
        ∨ s.rd (LDS_TILE_STAT.STATE (1 : Fin 4) (5 : Fin 96)) = 0 ∧ s.tileNeeded (1 : Fin 4) (5 : Fin 96) = false)) ∧
    (∃ s ∈ [op [(LDS_TILE_SEL.TILE 1, 5), (LDS_TILE_STAT.STATE 1 5, 2)]],
      (s.answers = true ∧ 3 ≤ s.level (0 : Fin 7) ∧ s.on MGT_STAT.PWARN = false) ∧ bit (1#32).toNat 0 = 1 ∧ s.rd
        (LDS_TILE_SEL.TILE (1 : Fin 4)) = (5 : Fin 96).val ∧ (1 < s.rd (LDS_TILE_STAT.STATE (1 : Fin 4) (5 : Fin 96))
        ∨ s.rd (LDS_TILE_STAT.STATE (1 : Fin 4) (5 : Fin 96)) = 0 ∧ s.chSt (1 : Fin 4) ≠ ChSt.dark ∧ s.tileNeeded (1 :
        Fin 4) (5 : Fin 96) = true)) ∧
    (∃ s ∈ [op [(LDSC.REPART 1, 1), (LDS_CH_STATE.CONVERGED 1, 1)]],
      s.on (LDSC.REPART (1 : Fin 4)) = true) := by
  refine ⟨?_, ?_, ?_, ?_, ?_, ?_, ?_, ?_⟩ <;> decide +kernel

/-- States that meet the hypotheses of TilesAndLinkQuality, clause by clause. -/
theorem test_met_TilesAndLinkQuality :
    (∃ s ∈ [op [(LDS_CH_STATE.STATE 1, 3), (LDS_EQ_STAT.WINOK 1, 5)]],
      s.holdsLock (1 : Fin 4) = true ∧ ((s.chan (1 : Fin 4)).dsp.settled && !s.on (LDSC.WIN_UNC (1 : Fin 4)) && s.rd
        (LFR_STAT.FSTATE (1 : Fin 4)) = 2) = false) ∧
    (∃ s ∈ [((op [(LDS_CH_STATE.STATE 1, 3), (LDS_EQ_STAT.WINOK 1, 6), (LFR_STAT.FSTATE 1, 2)]).onDsp 1 (fun d => { d with taps := [[⟨9, 0⟩]], cx := (100, 1), cy := (100, 1), lastX := (100, 1), lastY := (100, 1) }))],
      s.holdsLock (1 : Fin 4) = true ∧ (s.chan (1 : Fin 4)).dsp.settled = true ∧ s.on (LDSC.WIN_UNC (1 : Fin 4)) =
        false ∧ s.rd (LFR_STAT.FSTATE (1 : Fin 4)) = 2 ∧ s.rd (LDS_EQ_STAT.WINOK (1 : Fin 4)) < 7) ∧
    (∃ s ∈ [((op [(LDS_CH_STATE.STATE 1, 3), (LDS_EQ_STAT.WINOK 1, 7), (LFR_STAT.FSTATE 1, 2)]).onDsp 1 (fun d => { d with taps := [[⟨9, 0⟩]], cx := (100, 1), cy := (100, 1), lastX := (100, 1), lastY := (100, 1) }))],
      s.holdsLock (1 : Fin 4) = true ∧ (s.chan (1 : Fin 4)).dsp.settled = true ∧ s.on (LDSC.WIN_UNC (1 : Fin 4)) =
        false ∧ s.rd (LFR_STAT.FSTATE (1 : Fin 4)) = 2 ∧ 7 ≤ s.rd (LDS_EQ_STAT.WINOK (1 : Fin 4)) ∧ s.rd
        (LDS_RSZ_STAT.STATE (1 : Fin 4)) ≠ RszSt.resizing) ∧
    (∃ s ∈ [(({ op [(LDS_CH_STATE.STATE 1, 5), (LDS_RSZ_STAT.STATE 1, 4), (LDS_EQ_STAT.WINOK 1, 7), (LFR_STAT.FSTATE 1, 2)] with time := 20000000 }).onChan 1 (fun c => { c with rsz := { c.rsz with rxAt := some 7 }, dsp := { c.dsp with taps := [[⟨9, 0⟩]], cx := (100, 1), cy := (100, 1), lastX := (100, 1), lastY := (100, 1) } }))],
      s.chSt (1 : Fin 4) = ChSt.resizing ∧ (s.chan (1 : Fin 4)).dsp.settled = true ∧ s.on (LDSC.WIN_UNC (1 : Fin 4)) =
        false ∧ s.rd (LFR_STAT.FSTATE (1 : Fin 4)) = 2 ∧ 7 ≤ s.rd (LDS_EQ_STAT.WINOK (1 : Fin 4)) ∧ s.on
        (LDS_CH_STATE.CONVERGED (1 : Fin 4)) = false ∧ s.rd (LDS_RSZ_STAT.STATE (1 : Fin 4)) = RszSt.resizing ∧
        (s.chan (1 : Fin 4)).rsz.only = false ∧ (s.chan (1 : Fin 4)).rsz.rxAt = some (7 : Nat)) ∧
    (∃ s ∈ [op [(LDS_CH_STATE.STATE 1, 3)]],
      (s.chSt (1 : Fin 4) = ChSt.locked ∨ s.chSt (1 : Fin 4) = ChSt.inService) ∧ s.on (LDS_CH_STATE.CONVERGED (1 : Fin
        4)) = false) ∧
    (∃ s ∈ [((op [(LDS_CH_STATE.STATE 1, 3), (LDS_EQ_STAT.PSYNC 1, 1)]).onDsp 1 (fun d => { d with px := (5000, 70), py := (5000, 80) }))],
      s.figures (1 : Fin 4) = true ∧ s.on (LDS_EQ_STAT.PSYNC (1 : Fin 4)) = true) ∧
    (∃ s ∈ [op [(LDS_CH_STATE.STATE 1, 3)]],
      s.figures (1 : Fin 4) = true ∧ s.on (LDS_EQ_STAT.PSYNC (1 : Fin 4)) = false) ∧
    (∃ s ∈ [op [(LDS_LQ_STAT.VALID 1, 1)]],
      s.figures (1 : Fin 4) = false) := by
  refine ⟨?_, ?_, ?_, ?_, ?_, ?_, ?_, ?_⟩ <;> decide +kernel

/-- States that meet the hypotheses of TransmitSignalEvents, clause by clause. -/
theorem test_met_TransmitSignalEvents :
    (∃ s ∈ [((op [(OPT_STAT.PHASE 1, 3)]).onChan 1 (fun c => { c with prof := [some ⟨1, 13000, 2, 200, 1, 160, 400, 0, false, 2, 5, 5, 0, [], [], []⟩] }))], ∃ g ∈ [((Profile.geo ⟨1, 13000, 2, 200, 1, 160, 400, 0, false, 2, 5, 5, 0, [], [], []⟩) : Geo)],
      s.phase (1 : Fin 4) = Phase.lit ∧ 0 < (3 : Nat) ∧ (s.chan (1 : Fin 4)).tx.geos5.head?.or ((s.chan (1 : Fin
        4)).tx.geo.or ((s.active (1 : Fin 4)).map Profile.geo)) = some g) ∧
    (∃ s ∈ [((op [(OPT_STAT.PHASE 1, 3)]).onTx 1 (fun x => { x with clips := [0, 0, 100000, 0] }))],
      s.phase (1 : Fin 4) = Phase.lit ∧ 60 * s.rd (CNV_RATE.TX_ACT (1 : Fin 4)) < (s.chan (1 : Fin 4)).tx.clips.getD
        (2 : Fin 4) 0) ∧
    (∃ s ∈ [op [(OPT_STAT.PHASE 1, 3)]],
      (s.answers = true ∧ 3 ≤ s.level (0 : Fin 7) ∧ s.on MGT_STAT.PWARN = false) ∧ (s.inTraffic (1 : Fin 4) = false ∨
        (LDS_TX_TEST.PATTERN (1 : Fin 4)).of (2#32).toNat = 0)) ∧
    (∃ s ∈ [op [(LDS_CH_STATE.STATE 1, 4)]],
      (s.answers = true ∧ 3 ≤ s.level (0 : Fin 7) ∧ s.on MGT_STAT.PWARN = false) ∧ s.inTraffic (1 : Fin 4) = true ∧
        (LDS_TX_TEST.PATTERN (1 : Fin 4)).of (2#32).toNat ≠ 0) := by
  refine ⟨?_, ?_, ?_, ?_⟩ <;> decide +kernel

/-- States that meet the hypotheses of DecoderAccountsForCodewords, clause by clause. -/
theorem test_met_DecoderAccountsForCodewords :
    (∃ s ∈ [((op [(FEC_STAT.CW_ALIGN 1, 1), (LDSC.RXPROF 1, 0)]).onChan 1 (fun c => { c with prof := [some ⟨1, 13000, 2, 200, 1, 160, 400, 0, false, 2, 5, 5, 0, [], [], []⟩] }))],
      (s.rxProfile (1 : Fin 4)).isSome = true ∧ s.on (FEC_STAT.CW_ALIGN (1 : Fin 4)) = true ∧ ((true : Bool) = true ∨
        s.rd (FEC_BUDGET.EFF (1 : Fin 4)) ≤ (s.cws (1 : Fin 4)).length)) ∧
    (∃ s ∈ [((op [(FEC_STAT.CW_ALIGN 1, 1), (FEC_BUDGET.EFF 1, 100)]).onChan 1 (fun c => { c with prof := [some ⟨1, 13000, 2, 200, 1, 160, 400, 0, false, 2, 5, 5, 0, [], [], []⟩] }))],
      (s.rxProfile (1 : Fin 4)).isSome = true ∧ s.on (FEC_STAT.CW_ALIGN (1 : Fin 4)) = true ∧ (s.cws (1 : Fin
        4)).length < s.rd (FEC_BUDGET.EFF (1 : Fin 4))) ∧
    (∃ s ∈ [{ op [(FEC_BUDGET.EFF 1, 100), (FEC_ITER_CTRL.MAX 1, 12), (FEC_ITER_CTRL.MIN 1, 4)] with flow := ⟨Flow.empty, { Flow.empty with cws := [⟨1, 0, 0, some 3, none, none, false, (Profile.geo ⟨1, 13000, 2, 200, 1, 160, 400, 0, false, 2, 5, 5, 0, [], [], []⟩), [], [], [], []⟩] }, Flow.empty, Flow.empty⟩ }], ∃ w ∈ [(⟨1, 0, 0, some 3, none, none, false, (Profile.geo ⟨1, 13000, 2, 200, 1, 160, 400, 0, false, 2, 5, 5, 0, [], [], []⟩), [], [], [], []⟩ : Codeword)],
      ((s.cws (1 : Fin 4)).find? (fun v => v.engine = some (3 : Fin 24).val) = some w) ∧ ((s.cws (1 : Fin 4)).countP
        (fun v => v.seq = w.seq) = 1)) ∧
    (∃ s ∈ [{ op [] with flow := ⟨Flow.empty, { Flow.empty with cws := [⟨1, 0, 0, some 3, none, none, false, (Profile.geo ⟨1, 13000, 2, 200, 1, 160, 400, 0, false, 2, 5, 5, 0, [], [], []⟩), [], [], [], []⟩] }, Flow.empty, Flow.empty⟩ }],
      ((s.cws (1 : Fin 4)).any (fun v => v.engine = some (3 : Fin 24).val) = true)) ∧
    (∃ s ∈ [((op [(LDS_CH_STATE.STATE 1, 2), (LDS_ACQ_STAT.STEP 1, 7), (LDSC.RXPROF 1, 0)]).onChan 1 (fun c => { c with prof := [some ⟨7, 6000, 4, 400, 2, 0, 100, 0, false, 2, 5, 5, 0, [], [], []⟩] }))], ∃ q ∈ [(⟨7, 6000, 4, 400, 2, 0, 100, 0, false, 2, 5, 5, 0, [], [], []⟩ : Profile)],
      s.rxProfile (1 : Fin 4) = some q ∧ s.on (FEC_STAT.CW_ALIGN (1 : Fin 4)) = false ∧ s.injecting (1 : Fin 4) =
        false ∧ s.chSt (1 : Fin 4) = ChSt.acquiring ∧ s.rd (LDS_ACQ_STAT.STEP (1 : Fin 4)) = 7 ∧ (q.interop = true ∨
        alignPasses q.geo (0 : Fin 3500) (s.chan (1 : Fin 4)).dsp.llr = true)) ∧
    (∃ s ∈ [((op [(FAB_PERT_CTRL.EN, 1), (FAB_PERT_CTRL.CH, 1), (FAB_PERT_CTRL.TYPE, 8), (LDSC.RXPROF 1, 0)]).onChan 1 (fun c => { c with prof := [some ⟨1, 13000, 2, 200, 1, 160, 400, 0, false, 2, 5, 5, 0, [], [], []⟩] }))],
      (s.rxProfile (1 : Fin 4)).isSome = true ∧ s.on (FEC_STAT.CW_ALIGN (1 : Fin 4)) = false ∧ s.injecting (1 : Fin 4)
        = true) ∧
    (∃ s ∈ [op [(FEC_DEG_CFG.THR 1, 5), (FECC.WINCNT 1, 5)]],
      s.answers = true ∧ s.rd (FEC_DEG_CFG.THR (1 : Fin 4)) ≠ 0 ∧ s.rd (FEC_DEG_CFG.THR (1 : Fin 4)) ≤ s.rd
        (FECC.WINCNT (1 : Fin 4))) ∧
    (∃ s ∈ [op [(FEC_DEG_CFG.THR 1, 5), (FECC.WINCNT 1, 4), (FECC.LOWWIN 1, 1), (FEC_STAT.DEG 1, 1)]],
      s.answers = true ∧ s.rd (FECC.WINCNT (1 : Fin 4)) < s.rd (FEC_DEG_CFG.THR (1 : Fin 4)) ∧ s.on (FECC.LOWWIN (1 :
        Fin 4)) = true) ∧
    (∃ s ∈ [op [(FEC_DEG_CFG.THR 1, 5), (FECC.WINCNT 1, 4), (FEC_STAT.DEG 1, 1)]],
      s.answers = true ∧ s.rd (FECC.WINCNT (1 : Fin 4)) < s.rd (FEC_DEG_CFG.THR (1 : Fin 4)) ∧ s.on (FECC.LOWWIN (1 :
        Fin 4)) = false) ∧
    (∃ s ∈ [op []],
      (s.answers = true ∧ 2 ≤ s.level (0 : Fin 7) ∧ s.on MGT_STAT.PWARN = false) ∧ 16 ≤ (FEC_ITER_CTRL.HWM (1 : Fin
        4)).of (0x10040C#32).toNat ∧ (FEC_ITER_CTRL.HWM (1 : Fin 4)).of (0x10040C#32).toNat ≤ 1024 ∧ 1 ≤
        (FEC_ITER_CTRL.MIN (1 : Fin 4)).of (0x10040C#32).toNat ∧ (FEC_ITER_CTRL.MIN (1 : Fin 4)).of
        (0x10040C#32).toNat ≤ (FEC_ITER_CTRL.MAX (1 : Fin 4)).of (0x10040C#32).toNat) ∧
    (∃ s ∈ [op []],
      (s.answers = true ∧ 2 ≤ s.level (0 : Fin 7) ∧ s.on MGT_STAT.PWARN = false) ∧ ((FEC_ITER_CTRL.MIN (1 : Fin 4)).of
        (0x100005#32).toNat = 0 ∨ (FEC_ITER_CTRL.MAX (1 : Fin 4)).of (0x100005#32).toNat < (FEC_ITER_CTRL.MIN (1 : Fin
        4)).of (0x100005#32).toNat)) := by
  refine ⟨?_, ?_, ?_, ?_, ?_, ?_, ?_, ?_, ?_, ?_, ?_⟩ <;> decide +kernel

/-- States that meet the hypotheses of EngineFaultsFence, clause by clause. -/
theorem test_met_EngineFaultsFence :
    (∃ s ∈ [{ op [(LDS_CH_STATE.STATE 1, 4), (FEC_ENG_ACT.ACTIVE 1, 0xFFFFFF)] with flow := ⟨Flow.empty, { Flow.empty with cws := [⟨1, 0, 0, some 3, none, none, false, (Profile.geo ⟨1, 13000, 2, 200, 1, 160, 400, 0, false, 2, 5, 5, 0, [], [], []⟩), [], [], [], []⟩] }, Flow.empty, Flow.empty⟩ }],
      s.answers = true ∧ s.rd (FEC_ENG_STAT.STATE (1 : Fin 4) (3 : Fin 24)) ≤ 1 ∧ s.rszRunning (1 : Fin 4) = false ∧
        (s.putBit (FEC_ENG_ACT.ACTIVE (1 : Fin 4)) (3 : Fin 24) false).maxModeOf (1 : Fin 4) ≠ 0) ∧
    (∃ s ∈ [{ op [(LDS_CH_STATE.STATE 1, 4), (FEC_ENG_ACT.ACTIVE 1, 0xFFFFFF)] with flow := ⟨Flow.empty, { Flow.empty with cws := [⟨1, 0, 0, some 3, none, none, false, (Profile.geo ⟨1, 13000, 2, 200, 1, 160, 400, 0, false, 2, 5, 5, 0, [], [], []⟩), [], [], [], []⟩] }, Flow.empty, Flow.empty⟩ }],
      s.answers = true ∧ s.rd (FEC_ENG_STAT.STATE (1 : Fin 4) (3 : Fin 24)) ≤ 1 ∧ s.rszRunning (1 : Fin 4) = false ∧
        (s.putBit (FEC_ENG_ACT.ACTIVE (1 : Fin 4)) (3 : Fin 24) false).maxModeOf (1 : Fin 4) ≠ 0) ∧
    (∃ s ∈ [{ op [(LDS_CH_STATE.STATE 1, 4), (FEC_ENG_ACT.ACTIVE 1, 0xFFFFFF), (FEC_ENG_SEL.ENGINE 1, 3)] with flow := ⟨Flow.empty, { Flow.empty with cws := [⟨1, 0, 0, some 3, none, none, false, (Profile.geo ⟨1, 13000, 2, 200, 1, 160, 400, 0, false, 2, 5, 5, 0, [], [], []⟩), [], [], [], []⟩] }, Flow.empty, Flow.empty⟩ }],
      (s.answers = true ∧ 3 ≤ s.level (0 : Fin 7) ∧ s.on MGT_STAT.PWARN = false) ∧ bit (1#32).toNat 0 = 1 ∧ s.rd
        (FEC_ENG_SEL.ENGINE (1 : Fin 4)) = (3 : Fin 24).val ∧ (s.rdBit (FEC_ENG_ACT.ACTIVE (1 : Fin 4)) (3 : Fin 24) =
        false ∨ popcount (s.rd (FEC_ENG_ACT.ACTIVE (1 : Fin 4))) 24 ≠ 1 ∨ s.chSt (1 : Fin 4) = ChSt.dark) ∧ s.rd
        (FEC_ENG_STAT.STATE (1 : Fin 4) (3 : Fin 24)) ≤ 1 ∧ s.rszRunning (1 : Fin 4) = false ∧ (s.putBit
        (FEC_ENG_ACT.ACTIVE (1 : Fin 4)) (3 : Fin 24) false).maxModeOf (1 : Fin 4) ≠ 0) ∧
    (∃ s ∈ [op [(LDS_CH_STATE.STATE 1, 4), (FEC_ENG_ACT.ACTIVE 1, 8), (FEC_ENG_SEL.ENGINE 1, 3)]],
      (s.answers = true ∧ 3 ≤ s.level (0 : Fin 7) ∧ s.on MGT_STAT.PWARN = false) ∧ bit (1#32).toNat 0 = 1 ∧ s.rd
        (FEC_ENG_SEL.ENGINE (1 : Fin 4)) = (3 : Fin 24).val ∧ s.engineRefused (1 : Fin 4) (3 : Fin 24) = true) ∧
    (∃ s ∈ [op [(OPT_STAT.PHASE 1, 3)]],
      s.phase (1 : Fin 4) = Phase.lit) ∧
    (∃ s ∈ [op [(OPT_STAT.PHASE 1, 3), (LDS_CH_STATE.STATE 1, 4)]],
      s.phase (1 : Fin 4) = Phase.lit ∧ s.chSt (1 : Fin 4) ≠ ChSt.fenced) := by
  refine ⟨?_, ?_, ?_, ?_, ?_, ?_⟩ <;> decide +kernel

/-- States that meet the hypotheses of FrameDelineation, clause by clause. -/
theorem test_met_FrameDelineation :
    (∃ s ∈ [(onLine ⟨0, true, 7, false, 3, 3, 0, 0, 0, false⟩ (op [(FEC_STAT.CW_ALIGN 1, 1)]))], ∃ q ∈ [(⟨1, 13000, 2,
      200, 1, 160, 400, 0, false, 2, 5, 5, 0, [], [], []⟩ : Profile)], ∃ h ∈ [(⟨0, true, 7, false, 3, 3, 0, 0, 0,
      false⟩ : Header)],
      (s.on (FEC_STAT.CW_ALIGN (1 : Fin 4)) = true ∧ s.lineProfile (1 : Fin 4) = some q ∧ q.interop = false ∧
        ((s.takeFrame (1 : Fin 4) q).chan (1 : Fin 4)).rx.due = false ∧ 768 ≤ ((s.takeFrame (1 : Fin 4) q).chan (1 :
        Fin 4)).rx.bits.length ∧ h = (headerOf (s.on (LFR_CTRL.G2 (1 : Fin 4))) (bitBytes ((((s.takeFrame (1 : Fin 4)
        q).chan (1 : Fin 4)).rx.bits.take 768).map (·.1)))).1) ∧ s.rd (LFR_STAT.FSTATE (1 : Fin 4)) = 0 ∧ h.fasErr ≤ 1
        ∧ h.hcs = true) ∧
    (∃ s ∈ [((onLine ⟨0, true, 7, false, 3, 3, 0, 0, 0, false⟩ (op [(FEC_STAT.CW_ALIGN 1, 1)])).onRx 1 (fun x => { x with bits := List.replicate 768 (true, false) }))], ∃ q ∈ [(⟨1, 13000, 2, 200, 1, 160, 400, 0, false, 2, 5, 5, 0, [], [], []⟩ : Profile)], ∃ h ∈ [(⟨24, false, 0, false, 33554307, 255, 1041104896, 25599, 231, true⟩ : Header)],
      (s.on (FEC_STAT.CW_ALIGN (1 : Fin 4)) = true ∧ s.lineProfile (1 : Fin 4) = some q ∧ q.interop = false ∧
        ((s.takeFrame (1 : Fin 4) q).chan (1 : Fin 4)).rx.due = false ∧ 768 ≤ ((s.takeFrame (1 : Fin 4) q).chan (1 :
        Fin 4)).rx.bits.length ∧ h = (headerOf (s.on (LFR_CTRL.G2 (1 : Fin 4))) (bitBytes ((((s.takeFrame (1 : Fin 4)
        q).chan (1 : Fin 4)).rx.bits.take 768).map (·.1)))).1) ∧ s.rd (LFR_STAT.FSTATE (1 : Fin 4)) = 0 ∧ (1 <
        h.fasErr ∨ h.hcs = false)) ∧
    (∃ s ∈ [(onLine ⟨0, true, 9, false, 3, 3, 0, 0, 0, false⟩ (op [(FEC_STAT.CW_ALIGN 1, 1), (LFR_STAT.FSTATE 1, 1),
      (LFRC.FN 1, 7)]))], ∃ q ∈ [(⟨1, 13000, 2, 200, 1, 160, 400, 0, false, 2, 5, 5, 0, [], [], []⟩ : Profile)], ∃ h ∈
      [(⟨0, true, 9, false, 3, 3, 0, 0, 0, false⟩ : Header)],
      (s.on (FEC_STAT.CW_ALIGN (1 : Fin 4)) = true ∧ s.lineProfile (1 : Fin 4) = some q ∧ q.interop = false ∧
        ((s.takeFrame (1 : Fin 4) q).chan (1 : Fin 4)).rx.due = false ∧ 768 ≤ ((s.takeFrame (1 : Fin 4) q).chan (1 :
        Fin 4)).rx.bits.length ∧ h = (headerOf (s.on (LFR_CTRL.G2 (1 : Fin 4))) (bitBytes ((((s.takeFrame (1 : Fin 4)
        q).chan (1 : Fin 4)).rx.bits.take 768).map (·.1)))).1) ∧ s.rd (LFR_STAT.FSTATE (1 : Fin 4)) = 1 ∧ s.goodHere
        (1 : Fin 4) h = false) ∧
    (∃ s ∈ [(onLine ⟨0, true, 8, false, 3, 3, 0, 0, 0, false⟩ (op [(FEC_STAT.CW_ALIGN 1, 1), (LFR_STAT.FSTATE 1, 1),
      (LFRC.FN 1, 7)]))], ∃ q ∈ [(⟨1, 13000, 2, 200, 1, 160, 400, 0, false, 2, 5, 5, 0, [], [], []⟩ : Profile)], ∃ h ∈
      [(⟨0, true, 8, false, 3, 3, 0, 0, 0, false⟩ : Header)],
      (s.on (FEC_STAT.CW_ALIGN (1 : Fin 4)) = true ∧ s.lineProfile (1 : Fin 4) = some q ∧ q.interop = false ∧
        ((s.takeFrame (1 : Fin 4) q).chan (1 : Fin 4)).rx.due = false ∧ 768 ≤ ((s.takeFrame (1 : Fin 4) q).chan (1 :
        Fin 4)).rx.bits.length ∧ h = (headerOf (s.on (LFR_CTRL.G2 (1 : Fin 4))) (bitBytes ((((s.takeFrame (1 : Fin 4)
        q).chan (1 : Fin 4)).rx.bits.take 768).map (·.1)))).1) ∧ s.rd (LFR_STAT.FSTATE (1 : Fin 4)) = 1 ∧ s.goodHere
        (1 : Fin 4) h = true ∧ s.rd (LFRC.GOOD (1 : Fin 4)) = 0) ∧
    (∃ s ∈ [(onLine ⟨0, true, 8, false, 3, 3, 0, 0, 0, false⟩ (op [(FEC_STAT.CW_ALIGN 1, 1), (LFR_STAT.FSTATE 1, 1),
      (LFRC.FN 1, 7), (LFRC.GOOD 1, 1), (LDS_CH_STATE.STATE 1, 2), (LDS_ACQ_STAT.STEP 1, 8)]))], ∃ q ∈ [(⟨1, 13000, 2,
      200, 1, 160, 400, 0, false, 2, 5, 5, 0, [], [], []⟩ : Profile)], ∃ h ∈ [(⟨0, true, 8, false, 3, 3, 0, 0, 0,
      false⟩ : Header)],
      (s.on (FEC_STAT.CW_ALIGN (1 : Fin 4)) = true ∧ s.lineProfile (1 : Fin 4) = some q ∧ q.interop = false ∧
        ((s.takeFrame (1 : Fin 4) q).chan (1 : Fin 4)).rx.due = false ∧ 768 ≤ ((s.takeFrame (1 : Fin 4) q).chan (1 :
        Fin 4)).rx.bits.length ∧ h = (headerOf (s.on (LFR_CTRL.G2 (1 : Fin 4))) (bitBytes ((((s.takeFrame (1 : Fin 4)
        q).chan (1 : Fin 4)).rx.bits.take 768).map (·.1)))).1) ∧ s.rd (LFR_STAT.FSTATE (1 : Fin 4)) = 1 ∧ s.goodHere
        (1 : Fin 4) h = true ∧ s.rd (LFRC.GOOD (1 : Fin 4)) ≠ 0) ∧
    (∃ s ∈ [(onLine ⟨0, true, 8, false, 3, 3, 77, 1, 2, false⟩ (op [(FEC_STAT.CW_ALIGN 1, 1), (LFR_STAT.FSTATE 1, 2),
      (LFRC.FN 1, 7), (LFRC.MFNV 1, 1), (LFRC.MFN 1, 3)]))], ∃ q ∈ [(⟨1, 13000, 2, 200, 1, 160, 400, 0, false, 2, 5,
      5, 0, [], [], []⟩ : Profile)], ∃ h ∈ [(⟨0, true, 8, false, 3, 3, 77, 1, 2, false⟩ : Header)],
      (s.on (FEC_STAT.CW_ALIGN (1 : Fin 4)) = true ∧ s.lineProfile (1 : Fin 4) = some q ∧ q.interop = false ∧
        ((s.takeFrame (1 : Fin 4) q).chan (1 : Fin 4)).rx.due = false ∧ 768 ≤ ((s.takeFrame (1 : Fin 4) q).chan (1 :
        Fin 4)).rx.bits.length ∧ h = (headerOf (s.on (LFR_CTRL.G2 (1 : Fin 4))) (bitBytes ((((s.takeFrame (1 : Fin 4)
        q).chan (1 : Fin 4)).rx.bits.take 768).map (·.1)))).1) ∧ s.rd (LFR_STAT.FSTATE (1 : Fin 4)) = 2 ∧ s.goodHere
        (1 : Fin 4) h = true ∧ s.on (LFR_CTRL.G2 (1 : Fin 4)) = false) ∧
    (∃ s ∈ [(onLine ⟨0, true, 9, false, 3, 3, 77, 1, 2, false⟩ (op [(FEC_STAT.CW_ALIGN 1, 1), (LFR_STAT.FSTATE 1, 2),
      (LFRC.FN 1, 7), (LFRC.BAD 1, 3)]))], ∃ q ∈ [(⟨1, 13000, 2, 200, 1, 160, 400, 0, false, 2, 5, 5, 0, [], [], []⟩ :
      Profile)], ∃ h ∈ [(⟨0, true, 9, false, 3, 3, 77, 1, 2, false⟩ : Header)],
      (s.on (FEC_STAT.CW_ALIGN (1 : Fin 4)) = true ∧ s.lineProfile (1 : Fin 4) = some q ∧ q.interop = false ∧
        ((s.takeFrame (1 : Fin 4) q).chan (1 : Fin 4)).rx.due = false ∧ 768 ≤ ((s.takeFrame (1 : Fin 4) q).chan (1 :
        Fin 4)).rx.bits.length ∧ h = (headerOf (s.on (LFR_CTRL.G2 (1 : Fin 4))) (bitBytes ((((s.takeFrame (1 : Fin 4)
        q).chan (1 : Fin 4)).rx.bits.take 768).map (·.1)))).1) ∧ s.rd (LFR_STAT.FSTATE (1 : Fin 4)) = 2 ∧ s.goodHere
        (1 : Fin 4) h = false ∧ s.rd (LFRC.BAD (1 : Fin 4)) < 4) ∧
    (∃ s ∈ [(onLine ⟨0, true, 9, false, 3, 3, 77, 1, 2, false⟩ (op [(FEC_STAT.CW_ALIGN 1, 1), (LFR_STAT.FSTATE 1, 2),
      (LFRC.FN 1, 7), (LFRC.BAD 1, 4), (LDS_CH_STATE.STATE 1, 3)]))], ∃ q ∈ [(⟨1, 13000, 2, 200, 1, 160, 400, 0,
      false, 2, 5, 5, 0, [], [], []⟩ : Profile)], ∃ h ∈ [(⟨0, true, 9, false, 3, 3, 77, 1, 2, false⟩ : Header)],
      (s.on (FEC_STAT.CW_ALIGN (1 : Fin 4)) = true ∧ s.lineProfile (1 : Fin 4) = some q ∧ q.interop = false ∧
        ((s.takeFrame (1 : Fin 4) q).chan (1 : Fin 4)).rx.due = false ∧ 768 ≤ ((s.takeFrame (1 : Fin 4) q).chan (1 :
        Fin 4)).rx.bits.length ∧ h = (headerOf (s.on (LFR_CTRL.G2 (1 : Fin 4))) (bitBytes ((((s.takeFrame (1 : Fin 4)
        q).chan (1 : Fin 4)).rx.bits.take 768).map (·.1)))).1) ∧ s.rd (LFR_STAT.FSTATE (1 : Fin 4)) = 2 ∧ s.goodHere
        (1 : Fin 4) h = false ∧ s.rd (LFRC.BAD (1 : Fin 4)) = 4 ∧ s.holdsLock (1 : Fin 4) = true) ∧
    (∃ s ∈ [((op [(FEC_STAT.CW_ALIGN 1, 1), (LDS_CH_STATE.STATE 1, 2), (LDS_ACQ_STAT.STEP 1, 8)]).onChan 1 (fun c => { c with prof := [some ⟨7, 6000, 4, 400, 2, 0, 100, 0, false, 2, 5, 5, 0, [], [], []⟩] }))], ∃ q ∈ [(⟨7, 6000, 4, 400, 2, 0, 100, 0, false, 2, 5, 5, 0, [], [], []⟩ : Profile)],
      s.on (FEC_STAT.CW_ALIGN (1 : Fin 4)) = true ∧ s.lineProfile (1 : Fin 4) = some q ∧ q.interop = true ∧ s.rd
        (LFR_STAT.FSTATE (1 : Fin 4)) ≠ 2) ∧
    (∃ s ∈ [((op [(FEC_STAT.CW_ALIGN 1, 1), (LDS_CH_STATE.STATE 1, 3), (LFR_STAT.FSTATE 1, 2)]).onChan 1 (fun c => { c with prof := [some ⟨7, 6000, 4, 400, 2, 0, 100, 0, false, 2, 5, 5, 0, [], [], []⟩] }))], ∃ q ∈ [(⟨7, 6000, 4, 400, 2, 0, 100, 0, false, 2, 5, 5, 0, [], [], []⟩ : Profile)],
      s.on (FEC_STAT.CW_ALIGN (1 : Fin 4)) = true ∧ s.lineProfile (1 : Fin 4) = some q ∧ q.interop = true ∧ s.rd
        (LFR_STAT.FSTATE (1 : Fin 4)) = 2 ∧ s.holdsLock (1 : Fin 4) = true) := by
  refine ⟨?_, ?_, ?_, ?_, ?_, ?_, ?_, ?_, ?_, ?_⟩ <;> decide +kernel

/-- States that meet the hypotheses of MultiframesAndCommits, clause by clause. -/
theorem test_met_MultiframesAndCommits :
    (∃ s ∈ [((op [(LFR_STAT.MF_LOCK 1, 1), (LFRC.FN 1, 1030)]).onRx 1 (fun x => { x with tor := true, head := frameSent false (headerBytes false ⟨0, true, 1030, false, 3, 3, 0, 0, 0, false⟩ (torBytes false 6 ⟨true, false, true, 3, 4, 5, 99⟩)) }))], ∃ r ∈ [((true, 6, ⟨true, false, true, 3, 4, 5, 99⟩) : Bool × Nat × TorRec)],
      s.on (LFR_STAT.MF_LOCK (1 : Fin 4)) = true ∧ s.interop (1 : Fin 4) = false ∧ (s.chan (1 : Fin 4)).rx.tor = true
        ∧ r = torOf (s.on (LFR_CTRL.G2 (1 : Fin 4))) ((headerOf (s.on (LFR_CTRL.G2 (1 : Fin 4))) (s.chan (1 : Fin
        4)).rx.head).2.drop 80) ∧ r.1 = true ∧ r.2.1 = s.rd (LFRC.FN (1 : Fin 4)) % s.torCount (1 : Fin 4)) ∧
    (∃ s ∈ [((op [(LFR_STAT.MF_LOCK 1, 1), (LFRC.FN 1, 1030)]).onRx 1 (fun x => { x with tor := true, head := frameSent false (List.replicate 96 0) }))], ∃ r ∈ [((false, 0, ⟨false, false, false, 0, 0, 0, 0⟩) : Bool × Nat × TorRec)],
      s.on (LFR_STAT.MF_LOCK (1 : Fin 4)) = true ∧ s.interop (1 : Fin 4) = false ∧ (s.chan (1 : Fin 4)).rx.tor = true
        ∧ r = torOf (s.on (LFR_CTRL.G2 (1 : Fin 4))) ((headerOf (s.on (LFR_CTRL.G2 (1 : Fin 4))) (s.chan (1 : Fin
        4)).rx.head).2.drop 80) ∧ r.1 = false) ∧
    (∃ s ∈ [((op [(LFR_STAT.MF_LOCK 1, 1)]).onChan 1 (fun c => { c with tor := [(3, some ⟨true, false, false, 1, 2, 3, 4⟩), (5, none)] }))],
      s.on (LFR_STAT.MF_LOCK (1 : Fin 4)) = true ∧ s.interop (1 : Fin 4) = false ∧ s.rd (LDS_RSZ_STAT.STATE (1 : Fin
        4)) ≠ RszSt.resizing) ∧
    (∃ s ∈ [op [(OPT_STAT.PHASE 1, 3), (LFR_MFN_TX.MFN 1, 0xFFFFFFFF), (TRB_CMT_STAT.STATE 1, 3)]],
      s.phase (1 : Fin 4) = Phase.lit ∧ (s.chan (1 : Fin 4)).framed = []) ∧
    (∃ s ∈ [op [(OPT_STAT.PHASE 1, 3), (LFR_MFN_TX.MFN 1, 0xFFFFFFFF)]],
      s.phase (1 : Fin 4) = Phase.lit ∧ (s.chan (1 : Fin 4)).framed = [] ∧ s.on (CSTC.RMF (1 : Fin 4)) = false ∧
        s.tribs (1 : Fin 4) = [] ∧ s.listed (TRBC.CMNOW (1 : Fin 4) 0) 4 1024 = [] ∧ s.listed (TRBC.LEFT (1 : Fin 4)
        0) 4 1024 = [] ∧ s.listed (TRBC.ARR (1 : Fin 4) 0) 4 1024 = [] ∧ s.listed (TRB_TRIB.CARRY (1 : Fin 4) 0) 16
        1024 = [] ∧ s.listed (SECC.RETMF (2048 * (1 : Fin 4))) 8 2048 = [] ∧ s.rd (LDS_RSZ_STAT.STATE (1 : Fin 4)) =
        RszSt.idle ∧ s.rd (TRB_CMT_STAT.STATE (1 : Fin 4)) = 0 ∧ s.rd (SEC_ROLL_STAT.STATE (1 : Fin 4)) = 0 ∧ s.rd
        CAL_RUN_STAT.STATE = 0 ∧ s.cst ≠ Cst.apply) ∧
    (∃ s ∈ [op [(LDS_CH_STATE.STATE 1, 3)]],
      (s.answers = true ∧ 2 ≤ s.level (0 : Fin 7) ∧ s.on MGT_STAT.PWARN = false) ∧ bit (0x80000000#32).toNat 31 = 1 ∧
        s.cmtRefusal (1 : Fin 4) = 0 ∧ (((s.active (1 : Fin 4)).bind (fun q => s.tableFault (1 : Fin 4) q []
        (s.shadowTable (1 : Fin 4)))) = none)) ∧
    (∃ s ∈ [((op [(LDS_CH_STATE.STATE 1, 3), (TRB_SHD.EN 1 3, 1)]).onChan 1 (fun c => { c with prof := [some ⟨1, 13000, 2, 200, 1, 160, 400, 0, false, 2, 5, 5, 0, [], [], []⟩] }))],
      (s.answers = true ∧ 2 ≤ s.level (0 : Fin 7) ∧ s.on MGT_STAT.PWARN = false) ∧ bit (0x80000000#32).toNat 31 = 1 ∧
        s.cmtRefusal (1 : Fin 4) = 0 ∧ (((s.active (1 : Fin 4)).bind (fun q => s.tableFault (1 : Fin 4) q []
        (s.shadowTable (1 : Fin 4)))) = some ((3 : Nat), (2 : Nat)))) := by
  refine ⟨?_, ?_, ?_, ?_, ?_, ?_, ?_⟩ <;> decide +kernel

/-- States that meet the hypotheses of HostLanesReportAndAlign, clause by clause. -/
theorem test_met_HostLanesReportAndAlign :
    (∃ s ∈ [op [(HST_LSTAT_L.LOS 1 3, 0), (HST_LSTAT_L.LOL 1 3, 0)]],
      s.answers = true ∧ s.on (HST_LSTAT_L.LOS (1 : Fin 4) (3 : Fin 16)) = false) ∧
    (∃ s ∈ [op []],
      s.answers = true) ∧
    (∃ s ∈ [op [(HST_LSTAT_L.LOL 1 3, 0)]],
      s.answers = true ∧ s.on (HST_LSTAT_L.LOL (1 : Fin 4) (3 : Fin 16)) = false) ∧
    (∃ s ∈ [op [(HST_LSTAT_L.LOS 1 3, 0), (HST_LSTAT_L.AM_LOCK 1 3, 1)]],
      s.answers = true ∧ s.on (HST_LSTAT_L.LOS (1 : Fin 4) (3 : Fin 16)) = false) ∧
    (∃ s ∈ [op []],
      s.answers = true ∧ s.on (HST_LSTAT_L.LOS (1 : Fin 4) (3 : Fin 16)) = true) ∧
    (∃ s ∈ [op [(HST_LANE_L.TYPE 1 2, 2), (HST_LANE_L.TYPE 1 3, 2), (HST_LSTAT_L.LOS 1 2, 0), (HST_LSTAT_L.LOL 1 2,
      0), (HST_LSTAT_L.LOS 1 3, 0), (HST_LSTAT_L.LOL 1 3, 0)]],
      s.answers = true ∧ s.portLanes (1 : Fin 4) (2 : Fin 16) ≠ [] ∧ s.portOf (1 : Fin 4) (2 : Fin 16) = (2 : Fin 16)
        ∧ ([0, 150] : List Nat).all (· ≤ 200) = true ∧ ((s.portLanes (1 : Fin 4) (2 : Fin 16)).all (fun l => !s.on
        (HST_LSTAT_L.LOS (1 : Fin 4) l) && !s.on (HST_LSTAT_L.LOL (1 : Fin 4) l) && !s.on (HST_LSTAT_L.FENCED (1 : Fin
        4) l)) = true)) ∧
    (∃ s ∈ [op [(HST_LANE_L.TYPE 1 2, 2), (HST_LANE_L.TYPE 1 3, 2), (HST_LSTAT_L.AM_LOCK 1 2, 1), (HST_LSTAT_L.AM_LOCK
      1 3, 1)]],
      s.answers = true) ∧
    (∃ s ∈ [op [(HST_LANE_L.TYPE 1 2, 1), (HST_LSTAT_L.LOS 1 2, 0), (HST_LSTAT_L.LOL 1 2, 0), (HST_LSTAT_L.AM_LOCK 1
      2, 1), (HST_STAT.LOL 1, 0), (HST_CLI.EN 1 5, 1), (HST_CLI.HOME 1 5, 2), (HST_CLI.IN 1 5, 2)]],
      s.answers = true ∧ s.rd (HST_CLI.IN (1 : Fin 4) (5 : Fin 256)) = 2 ∧ s.defined (1 : Fin 4) (5 : Fin 256) = true
        ∧ s.mustReplace (1 : Fin 4) (5 : Fin 256) = false) ∧
    (∃ s ∈ [op [(HST_LANE_L.TYPE 1 2, 1), (HST_LSTAT_L.AM_LOCK 1 2, 1), (HST_FEC_CORR_P.COUNT 1 2, 0xFFFFFFF8)]],
      s.answers = true ∧ s.portOf (1 : Fin 4) (2 : Fin 16) = (2 : Fin 16) ∧ s.rd (HST_LANE_L.TYPE (1 : Fin 4) (2 : Fin
        16)) ≠ 0 ∧ s.on (HST_LSTAT_L.AM_LOCK (1 : Fin 4) (2 : Fin 16)) = true) ∧
    (∃ s ∈ [op [(HST_STAT.LOL 1, 0), (HST_PLL_STAT.LOCK 1, 1)]],
      s.answers = true ∧ s.on (HST_STAT.LOL (1 : Fin 4)) = false ∧ (s.rd (HSTC.LOL_PREV (1 : Fin 4)) = 0 ∨ s.rd
        (HSTC.LOL_PREV (1 : Fin 4)) + 1000000000 < s.time + 1)) ∧
    (∃ s ∈ [op []],
      s.answers = true) := by
  refine ⟨?_, ?_, ?_, ?_, ?_, ?_, ?_, ?_, ?_, ?_, ?_⟩ <;> decide +kernel

/-- States that meet the hypotheses of FlexeCalendarsAndEgress, clause by clause. -/
theorem test_met_FlexeCalendarsAndEgress :
    (∃ s ∈ [op [(HST_LANE_L.TYPE 1 3, 1), (HST_LANE_L.FLEXE 1 3, 1), (HST_LANE_L.GROUP 1 3, 2), (HST_LSTAT_L.AM_LOCK 1
      3, 1), (HST_FLX_CFG_G.GNUM 1 2, 7)]],
      s.answers = true ∧ (s.members (1 : Fin 4) (s.rd (HST_LANE_L.GROUP (1 : Fin 4) (3 : Fin 16)))).contains (3 : Fin
        16).val = true ∧ s.on (HST_LSTAT_L.AM_LOCK (1 : Fin 4) (3 : Fin 16)) = true ∧ 0 < (1 : Nat) ∧ (s.members (1 :
        Fin 4) (s.rd (HST_LANE_L.GROUP (1 : Fin 4) (3 : Fin 16))))[(1 : Nat) - 1]? = some (3 : Fin 16).val) ∧
    (∃ s ∈ [op [(HST_LANE_L.TYPE 1 3, 1), (HST_LANE_L.FLEXE 1 3, 1), (HST_LANE_L.GROUP 1 3, 2), (HST_LSTAT_L.AM_LOCK 1
      3, 1), (HST_FLX_CFG_G.GNUM 1 2, 7), (HST_FLX_STAT_G.OH_LOCK 1 2, 8)]],
      s.answers = true ∧ (s.members (1 : Fin 4) (s.rd (HST_LANE_L.GROUP (1 : Fin 4) (3 : Fin 16)))).contains (3 : Fin
        16).val = true ∧ ((true : Bool) = false ∨ s.on (HST_LSTAT_L.AM_LOCK (1 : Fin 4) (3 : Fin 16)) = false ∨
        (s.members (1 : Fin 4) (s.rd (HST_LANE_L.GROUP (1 : Fin 4) (3 : Fin 16))))[(2 : Nat) - 1]? ≠ some (3 : Fin
        16).val)) ∧
    (∃ s ∈ [op [(HST_FLX_STAT_G.ACTIVE 1 3, 1)]],
      (s.answers = true ∧ 2 ≤ s.level (0 : Fin 7) ∧ s.on MGT_STAT.PWARN = false) ∧ (HST_FLX_CMD.SWITCH (1 : Fin 4)).of
        (0x80000003#32).toNat = 1 ∧ (HST_FLX_CMD.GROUP (1 : Fin 4)).of (0x80000003#32).toNat = (3 : Fin 8).val ∧ s.rd
        (HST_FLX_STAT_G.SW_STATE (1 : Fin 4) (3 : Fin 8)) = 0 ∧ s.on (HST_FLX_STAT_G.ACTIVE (1 : Fin 4) (3 : Fin 8)) =
        true) ∧
    (∃ s ∈ [op [(HST_FLX_STAT_G.SW_STATE 1 3, 1)]],
      s.rd (HST_FLX_STAT_G.SW_STATE (1 : Fin 4) (3 : Fin 8)) = 1) ∧
    (∃ s ∈ [op [(HST_FLX_STAT_G.SW_STATE 1 3, 2)]],
      s.rd (HST_FLX_STAT_G.SW_STATE (1 : Fin 4) (3 : Fin 8)) = 2) ∧
    (∃ s ∈ [op [(HST_FLX_STAT_G.SW_STATE 1 3, 1)]],
      s.rd (HST_FLX_STAT_G.SW_STATE (1 : Fin 4) (3 : Fin 8)) = 1) ∧
    (∃ s ∈ [op [(HST_FLX_STAT_G.ACTIVE 1 3, 1), (HST_FLX_STAT_G.CAL_BAD 1 3, 1)]],
      s.answers = true ∧ s.on (HST_FLX_STAT_G.ACTIVE (1 : Fin 4) (3 : Fin 8)) = true ∧ s.calGood (1 : Fin 4) (3 : Fin
        8) (1 : Fin 2) = true) ∧
    (∃ s ∈ [op [(HST_FLX_STAT_G.ACTIVE 1 3, 1), (HST_CAL.B_VALID 1 3 0, 1), (HST_CAL.B_CLIENT 1 3 0, 9)]],
      s.answers = true ∧ s.on (HST_FLX_STAT_G.ACTIVE (1 : Fin 4) (3 : Fin 8)) = true ∧ s.calGood (1 : Fin 4) (3 : Fin
        8) (1 : Fin 2) = false) ∧
    (∃ s ∈ [op [(HST_FLX_STAT_G.ACTIVE 1 3, 1)]],
      s.answers = true ∧ s.on (HST_FLX_STAT_G.ACTIVE (1 : Fin 4) (3 : Fin 8)) = true) ∧
    (∃ s ∈ [op [(HST_CLI.OUT 1 5, 1)]],
      s.rd (HST_CLI.OUT (1 : Fin 4) (5 : Fin 256)) = 1) ∧
    (∃ s ∈ [op [(HST_CLI.OUT 1 5, 1)]],
      s.rd (HST_CLI.OUT (1 : Fin 4) (5 : Fin 256)) = 1) ∧
    (∃ s ∈ [((op [(HST_LANE_L.TYPE 1 2, 1), (HST_LANE_L.TX_EN 1 2, 0), (HST_CLI.EN 1 5, 1), (HST_CLI.HOME 1 5, 2),
      (TRB_TRIB.CLIENT 1 7, 5)]).flowOp 1 (Flow.rxEnter .rxTrb 7 false false 0))], ∃ tk ∈ [(⟨.rxTrb, 7, false, false,
      0⟩ : Token)],
      ((s.flow.get (1 : Fin 4)).tok.find? (fun k => k.stage = .rxTrb && k.trib = (7 : Fin 1024).val) = some tk) ∧
        tk.poison = false ∧ (s.laneDown (1 : Fin 4) (s.rd (TRB_TRIB.CLIENT (1 : Fin 4) (7 : Fin 1024))) = true ∨ s.on
        (HST_STAT.LOL (1 : Fin 4)) = true ∨ s.defined (1 : Fin 4) (s.rd (TRB_TRIB.CLIENT (1 : Fin 4) (7 : Fin 1024)))
        = false)) ∧
    (∃ s ∈ [((op [(HST_STAT.LOL 1, 0), (HST_LANE_L.TYPE 1 2, 1), (HST_CLI.EN 1 5, 1), (HST_CLI.HOME 1 5, 2),
      (HST_CLI.OUT 1 5, 2), (TRB_TRIB.CLIENT 1 7, 5)]).flowOp 1 (Flow.rxEnter .rxTrb 7 false false 0))], ∃ tk ∈
      [(⟨.rxTrb, 7, false, false, 0⟩ : Token)],
      ((s.flow.get (1 : Fin 4)).tok.find? (fun k => k.stage = .rxTrb && k.trib = (7 : Fin 1024).val) = some tk) ∧
        tk.poison = false ∧ s.laneDown (1 : Fin 4) (s.rd (TRB_TRIB.CLIENT (1 : Fin 4) (7 : Fin 1024))) = false ∧ s.on
        (HST_STAT.LOL (1 : Fin 4)) = false ∧ s.defined (1 : Fin 4) (s.rd (TRB_TRIB.CLIENT (1 : Fin 4) (7 : Fin 1024)))
        = true ∧ s.rd (HST_CLI.OUT (1 : Fin 4) (s.rd (TRB_TRIB.CLIENT (1 : Fin 4) (7 : Fin 1024)))) ≠ 1 ∧ s.rd
        (HSTC.FIFO (1 : Fin 4) (s.rd (TRB_TRIB.CLIENT (1 : Fin 4) (7 : Fin 1024)))) < 64) ∧
    (∃ s ∈ [((op [(HST_STAT.LOL 1, 0), (HST_LANE_L.TYPE 1 2, 1), (HST_CLI.EN 1 5, 1), (HST_CLI.HOME 1 5, 2),
      (HST_CLI.OUT 1 5, 2), (TRB_TRIB.CLIENT 1 7, 5), (HSTC.FIFO 1 5, 64)]).flowOp 1 (Flow.rxEnter .rxTrb 7 false
      false 0))], ∃ tk ∈ [(⟨.rxTrb, 7, false, false, 0⟩ : Token)],
      ((s.flow.get (1 : Fin 4)).tok.find? (fun k => k.stage = .rxTrb && k.trib = (7 : Fin 1024).val) = some tk) ∧
        tk.poison = false ∧ s.laneDown (1 : Fin 4) (s.rd (TRB_TRIB.CLIENT (1 : Fin 4) (7 : Fin 1024))) = false ∧ s.on
        (HST_STAT.LOL (1 : Fin 4)) = false ∧ s.defined (1 : Fin 4) (s.rd (TRB_TRIB.CLIENT (1 : Fin 4) (7 : Fin 1024)))
        = true ∧ s.rd (HST_CLI.OUT (1 : Fin 4) (s.rd (TRB_TRIB.CLIENT (1 : Fin 4) (7 : Fin 1024)))) ≠ 1 ∧ s.rd
        (HSTC.FIFO (1 : Fin 4) (s.rd (TRB_TRIB.CLIENT (1 : Fin 4) (7 : Fin 1024)))) = 64) ∧
    (∃ s ∈ [op [(HST_FLX_STAT_G.RX_CAL 1 3, 0), (HST_CAL.B_VALID 1 3 5, 1), (HST_CAL.B_CLIENT 1 3 5, 9),
      (HST_CAL.A_VALID 1 3 5, 1)]],
      (s.answers = true ∧ 2 ≤ s.level (0 : Fin 7) ∧ s.on MGT_STAT.PWARN = false) ∧ s.calInUse (1 : Fin 4) (3 : Fin 8)
        0 = true ∧ s.calInUse (1 : Fin 4) (3 : Fin 8) 1 = false ∧ (HST_CAL.B_VALID (1 : Fin 4) (3 : Fin 8) (5 : Fin
        640)).of (0#32).toNat = 0) := by
  refine ⟨?_, ?_, ?_, ?_, ?_, ?_, ?_, ?_, ?_, ?_, ?_, ?_, ?_, ?_, ?_⟩ <;> decide +kernel

/-- States that meet the hypotheses of HostLaneFences, clause by clause. -/
theorem test_met_HostLaneFences :
    (∃ s ∈ [op [(FEC_ENG_ACT.ACTIVE 1, 0xFFFFFF)]],
      s.answers = true ∧ s.maxModeOf (1 : Fin 4) ≠ 0 ∧ s.rszRunning (1 : Fin 4) = false ∧ s.on (HST_LSTAT_L.FENCED (1
        : Fin 4) (3 : Fin 16)) = false) ∧
    (∃ s ∈ [op [(FEC_ENG_ACT.ACTIVE 1, 0xFFFFFF)]],
      s.answers = true ∧ s.maxModeOf (1 : Fin 4) ≠ 0 ∧ s.rszRunning (1 : Fin 4) = false ∧ s.on (HST_LSTAT_L.FENCED (1
        : Fin 4) (3 : Fin 16)) = false) ∧
    (∃ s ∈ [op [(FEC_ENG_ACT.ACTIVE 1, 0xFFFFFF)]],
      (s.answers = true ∧ 3 ≤ s.level (0 : Fin 7) ∧ s.on MGT_STAT.PWARN = false) ∧ s.maxModeOf (1 : Fin 4) ≠ 0 ∧
        s.rszRunning (1 : Fin 4) = false ∧ (HST_LANE_CMD.FORCE (1 : Fin 4)).of (0x80000003#32).toNat = 1 ∧
        (HST_LANE_CMD.LANE (1 : Fin 4)).of (0x80000003#32).toNat = (3 : Fin 16).val ∧ s.on (HST_LSTAT_L.FENCED (1 :
        Fin 4) (3 : Fin 16)) = false) ∧
    (∃ s ∈ [op [(FEC_ENG_ACT.ACTIVE 1, 0xFFFFFF)]],
      s.answers = true ∧ s.maxModeOf (1 : Fin 4) ≠ 0 ∧ s.rszRunning (1 : Fin 4) = false ∧ s.on (HST_STAT.LOL (1 : Fin
        4)) = true ∧ s.on (HST_PLL_STAT.FAULT (1 : Fin 4)) = false) := by
  refine ⟨?_, ?_, ?_, ?_⟩ <;> decide +kernel

/-- States that meet the hypotheses of SupervisoryChannelTransmits, clause by clause. -/
theorem test_met_SupervisoryChannelTransmits :
    (∃ s ∈ [((op [(OPT_STAT.PHASE 1, Phase.lit), (ISC_HSTAT.HTX_BUSY 1, 1), (ISCC.SEQ 1, 255)]).startMsg 1 (.host 1 2
      3 4))],
      s.phase (1 : Fin 4) = Phase.lit ∧ s.interop (1 : Fin 4) = false ∧ (s.chan (1 : Fin 4)).sending = some ((.host 1
        2 3 4) : Msg)) ∧
    (∃ s ∈ [((op [(OPT_STAT.PHASE 1, Phase.lit), (ISC_HSTAT.HTX_BUSY 1, 1), (ISCC.SEQ 1, 255)]).startMsg 1 (.host 1 2
      3 4))],
      s.phase (1 : Fin 4) = Phase.lit ∧ s.interop (1 : Fin 4) = false ∧ (s.chan (1 : Fin 4)).sending = some (.host (1
        : Nat) (2 : Nat) (3 : Nat) (4 : Nat))) ∧
    (∃ s ∈ [op [(OPT_STAT.PHASE 1, Phase.lit), (ISCC.RUN 1, 7), (ISC_STATION.ID 1, 77)]],
      s.phase (1 : Fin 4) = Phase.lit ∧ s.interop (1 : Fin 4) = false ∧ (s.chan (1 : Fin 4)).sending = none ∧
        s.iscInserts (1 : Fin 4) = true ∧ s.confirmNow (1 : Fin 4) = none ∧ s.rd (ISCC.RUN (1 : Fin 4)) = 7) ∧
    (∃ s ∈ [((op [(OPT_STAT.PHASE 1, Phase.lit), (ISC_STATION.ID 1, 77)]).onChan 1 (fun c => { c with msgs := [.host 1 2 3 4] }))],
      s.phase (1 : Fin 4) = Phase.lit ∧ s.interop (1 : Fin 4) = false ∧ (s.chan (1 : Fin 4)).sending = none ∧
        s.iscInserts (1 : Fin 4) = true ∧ s.confirmNow (1 : Fin 4) = none ∧ s.rd (ISCC.RUN (1 : Fin 4)) ≠ 7 ∧ (bestOf
        ((s.chan (1 : Fin 4)).msgs.filter (fun k => !k.isFirmware || s.firmware)) = some ((.host 1 2 3 4) : Msg))) ∧
    (∃ s ∈ [op [(OPT_STAT.PHASE 1, Phase.lit), (ISC_STATION.ID 1, 77), (ISCC.IDLE4 1, 3), (ISC_CTRL.TEL_EN 1, 1)]],
      s.phase (1 : Fin 4) = Phase.lit ∧ s.interop (1 : Fin 4) = false ∧ (s.chan (1 : Fin 4)).sending = none ∧
        s.iscInserts (1 : Fin 4) = true ∧ s.confirmNow (1 : Fin 4) = none ∧ s.rd (ISCC.RUN (1 : Fin 4)) ≠ 7 ∧ (s.chan
        (1 : Fin 4)).msgs = []) ∧
    (∃ s ∈ [op [(ISC_STAT.CHIP 1, 2), (ISC_CFG.RX_CODE 1, 9)]],
      s.rd (ISC_STAT.CHIP (1 : Fin 4)) = 2 ∧ (s.on (ISC_CTRL.RX_ANY (1 : Fin 4)) = true ∨ s.rd (ISC_CFG.RX_CODE (1 :
        Fin 4)) = (9 : Fin 32).val) ∧ -(2 ^ 23) ≤ (-300 : Int) ∧ (-300 : Int) < 2 ^ 23) ∧
    (∃ s ∈ [op [(ISC_STAT.CHIP 1, 3), (LDS_LQ_STAT.ISC_CANC 1, 1)]],
      s.rd (ISC_STAT.CHIP (1 : Fin 4)) = 3) ∧
    (∃ s ∈ [op [(ISC_HTX.DATA 1 0, 5)]],
      (s.answers = true ∧ 2 ≤ s.level (0 : Fin 7) ∧ s.on MGT_STAT.PWARN = false) ∧ (ISC_HCMD.SEND (1 : Fin 4)).of
        (0x80000000#32).toNat = 1 ∧ s.on (ISC_HSTAT.HTX_BUSY (1 : Fin 4)) = false) ∧
    (∃ s ∈ [op [(ISC_HSTAT.HTX_BUSY 1, 1)]],
      (s.answers = true ∧ 2 ≤ s.level (0 : Fin 7) ∧ s.on MGT_STAT.PWARN = false) ∧ (ISC_HCMD.SEND (1 : Fin 4)).of
        (0x80000000#32).toNat = 1 ∧ s.on (ISC_HSTAT.HTX_BUSY (1 : Fin 4)) = true) ∧
    (∃ s ∈ [op [(ISC_HSTAT.HRX_FULL 1, 1), (ISC_HRX3.DATA 1, 0xBEEF)]],
      s.answers = true ∧ 1 ≤ s.level (0 : Fin 7)) := by
  refine ⟨?_, ?_, ?_, ?_, ?_, ?_, ?_, ?_, ?_, ?_⟩ <;> decide +kernel

/-- States that meet the hypotheses of SupervisoryChannelReceives, clause by clause. -/
theorem test_met_SupervisoryChannelReceives :
    (∃ s ∈ [op [(ISC_STAT.CHIP 1, 3)]],
      s.rd (ISC_STAT.CHIP (1 : Fin 4)) = 3) ∧
    (∃ s ∈ [op []],
      s.rd (ISC_STAT.CHIP (1 : Fin 4)) ≠ 3) ∧
    (∃ s ∈ [op [(ISC_STAT.CHIP 1, 3), (ISCC.RXSEQV 1, 1), (ISCC.RXSEQ 1, 250)]],
      s.rd (ISC_STAT.CHIP (1 : Fin 4)) = 3) ∧
    (∃ s ∈ [op []],
      s.rd (ISC_STAT.CHIP (1 : Fin 4)) ≠ 3) ∧
    (∃ s ∈ [op [(ISC_STAT.CHIP 1, 3), (ISC_STATION.ID 1, 77), (ISCC.NONCE 1, 5)]],
      s.rd (ISC_STAT.CHIP (1 : Fin 4)) = 3 ∧ (77 : Nat) < 2 ^ 32 ∧ (5 : Nat) < 2 ^ 16) ∧
    (∃ s ∈ [op [(ISC_STAT.CHIP 1, 3)]],
      s.rd (ISC_STAT.CHIP (1 : Fin 4)) = 3 ∧ ((1 : Nat) < 65536 ∧ (2 : Nat) < 65536 ∧ (3 : Nat) < 65536 ∧ (4 : Nat) <
        65536 ∧ (5 : Nat) < 2 ^ 32 ∧ (6 : Nat) < 65536)) ∧
    (∃ s ∈ [op [(ISC_STAT.CHIP 1, 3)]],
      s.rd (ISC_STAT.CHIP (1 : Fin 4)) = 3 ∧ s.on (ISC_HSTAT.HRX_FULL (1 : Fin 4)) = false ∧ ((1 : Nat) < 2 ^ 32 ∧ (2
        : Nat) < 2 ^ 32 ∧ (3 : Nat) < 2 ^ 32 ∧ (4 : Nat) < 65536)) ∧
    (∃ s ∈ [op [(ISC_STAT.CHIP 1, 3), (ISC_HSTAT.HRX_FULL 1, 1)]],
      s.rd (ISC_STAT.CHIP (1 : Fin 4)) = 3 ∧ s.on (ISC_HSTAT.HRX_FULL (1 : Fin 4)) = true) ∧
    (∃ s ∈ [op [(ISC_STAT.PEER 1, 1), (ISC_STAT.MISSED 1, 2)]],
      s.rd (ISC_STAT.PEER (1 : Fin 4)) = 1 ∧ s.rd (ISC_STAT.MISSED (1 : Fin 4)) = 2 ∧ (s.rd (LDS_RSZ_STAT.STATE (1 :
        Fin 4)) ≠ 1 ∧ s.rd (LDS_RSZ_STAT.STATE (1 : Fin 4)) ≠ 2) ∧ s.rd (SEC_ROLL_STAT.STATE (1 : Fin 4)) ≠ 1) ∧
    (∃ s ∈ [op [(ISC_STAT.PEER 1, 1), (ISC_STAT.MISSED 1, 2), (LDS_RSZ_STAT.STATE 1, 2)]],
      s.rd (ISC_STAT.PEER (1 : Fin 4)) = 1 ∧ s.rd (ISC_STAT.MISSED (1 : Fin 4)) = 2 ∧ (s.rd (LDS_RSZ_STAT.STATE (1 :
        Fin 4)) = 1 ∨ s.rd (LDS_RSZ_STAT.STATE (1 : Fin 4)) = 2)) ∧
    (∃ s ∈ [op [(ISC_STAT.PEER 1, 1), (ISC_STAT.MISSED 1, 1)]],
      s.rd (ISC_STAT.PEER (1 : Fin 4)) = 1 ∧ s.rd (ISC_STAT.MISSED (1 : Fin 4)) < 2) := by
  refine ⟨?_, ?_, ?_, ?_, ?_, ?_, ?_, ?_, ?_, ?_, ?_⟩ <;> decide +kernel

/-- States that meet the hypotheses of CipherUnitsAndEntropy, clause by clause. -/
theorem test_met_CipherUnitsAndEntropy :
    (∃ s ∈ [op [(SEC_PIPE.ACTIVE 1, 0xFFFF), (TRB_TRIB.ENC 1 7, 1)]],
      s.pipeUp (1 : Fin 4) (3 : Fin 16) = true ∧ s.on (TRB_TRIB.ENC (1 : Fin 4) (7 : Fin 1024)) = true ∧ (s.rd
        (SECC.MIS (1 : Fin 4) (3 : Fin 16) 3) = 0 ∨ s.rd (SECC.MIS (1 : Fin 4) (3 : Fin 16) 3) + 1000000000 ≤ s.time +
        1)) ∧
    (∃ s ∈ [op [(SEC_PIPE.ACTIVE 1, 0xFFFF), (TRB_TRIB.ENC 1 7, 1)]],
      s.pipeUp (1 : Fin 4) (3 : Fin 16) = true ∧ s.on (TRB_TRIB.ENC (1 : Fin 4) (7 : Fin 1024)) = true ∧ (s.rd
        (SECC.MIS (1 : Fin 4) (3 : Fin 16) 3) = 0 ∨ s.rd (SECC.MIS (1 : Fin 4) (3 : Fin 16) 3) + 1000000000 ≤ s.time +
        1)) ∧
    (∃ s ∈ [op [(FEC_ENG_ACT.ACTIVE 1, 0xFFFFFF), (SEC_PIPE.ACTIVE 1, 0xFFFF)]],
      s.pipeUp (1 : Fin 4) (3 : Fin 16) = true ∧ s.rszRunning (1 : Fin 4) = false ∧ s.maxModeOf (1 : Fin 4) ≠ 0) ∧
    (∃ s ∈ [op [(FEC_ENG_ACT.ACTIVE 1, 0xFFFFFF), (SEC_PIPE.ACTIVE 1, 0xFFFF)]],
      (s.answers = true ∧ 3 ≤ s.level (0 : Fin 7) ∧ s.on MGT_STAT.PWARN = false) ∧ (SEC_PIPE_CMD.FORCE (1 : Fin 4)).of
        (0x80000003#32).toNat = 1 ∧ (SEC_PIPE_CMD.PIPE (1 : Fin 4)).of (0x80000003#32).toNat = (3 : Fin 16).val ∧
        s.rdBit (SEC_PIPE.FENCED (1 : Fin 4)) (3 : Fin 16) = false ∧ s.rszRunning (1 : Fin 4) = false ∧ s.maxModeOf (1
        : Fin 4) ≠ 0) ∧
    (∃ s ∈ [((op [(TRB_TRIB.STATE 1 7, 1), (KEY_SLOT.STATE (keySlot 1 7 0), 2), (KEYC.KEY (keySlot 1 7 0), 5)]).onRx 1
      (fun x => x.setOpening ⟨7, 1, [], [⟨9, 0, 64, 12, 63733477490712711910683456972991473414, 3, false, true⟩], 0,
      0, none, false⟩)).flowOp 1 (Flow.rxEnter .rxSec 7 false false 0)], ∃ u ∈ [(⟨9, 0, 64, 12,
      63733477490712711910683456972991473414, 3, false, true⟩ : Sealed)], ∃ o ∈ [(⟨7, 1, [], [⟨9, 0, 64, 12,
      63733477490712711910683456972991473414, 3, false, true⟩], 0, 0, none, false⟩ : Opening)],
      o = (s.chan (1 : Fin 4)).rx.openingOf (7 : Fin 1024) ∧ o.due.head? = some u ∧ s.rd (TRB_TRIB.STATE (1 : Fin 4)
        (7 : Fin 1024)) = Trib.active ∧ (o.ct.length < 64 ∨ (o.off + u.size) / 64 ≤ o.gone + (s.heldTokens (1 : Fin 4)
        (7 : Fin 1024)).length) ∧ s.unitVerdict (1 : Fin 4) (7 : Fin 1024) o u (((s.unitStream (1 : Fin 4) (7 : Fin
        1024) o).drop o.off).take u.size) = .opens) ∧
    (∃ s ∈ [((op [(TRB_TRIB.STATE 1 7, 1), (KEY_SLOT.STATE (keySlot 1 7 0), 2), (KEYC.KEY (keySlot 1 7 0), 5)]).onRx 1
      (fun x => x.setOpening ⟨7, 1, [], [⟨9, 0, 64, 12, 77, 3, false, true⟩], 0, 0, none, false⟩)).flowOp 1
      (Flow.rxEnter .rxSec 7 false false 0)], ∃ u ∈ [(⟨9, 0, 64, 12, 77, 3, false, true⟩ : Sealed)], ∃ o ∈ [(⟨7, 1,
      [], [⟨9, 0, 64, 12, 77, 3, false, true⟩], 0, 0, none, false⟩ : Opening)],
      o = (s.chan (1 : Fin 4)).rx.openingOf (7 : Fin 1024) ∧ o.due.head? = some u ∧ s.rd (TRB_TRIB.STATE (1 : Fin 4)
        (7 : Fin 1024)) = Trib.active ∧ (o.ct.length < 64 ∨ (o.off + u.size) / 64 ≤ o.gone + (s.heldTokens (1 : Fin 4)
        (7 : Fin 1024)).length) ∧ s.unitVerdict (1 : Fin 4) (7 : Fin 1024) o u (((s.unitStream (1 : Fin 4) (7 : Fin
        1024) o).drop o.off).take u.size) = .auth) ∧
    (∃ s ∈ [((op [(TRB_TRIB.STATE 1 7, 1), (KEY_SLOT.STATE (keySlot 1 7 0), 2), (KEYC.KEY (keySlot 1 7 0), 5),
      (SECC.RXSEQV (keySlot 1 7 0), 1), (SECC.RXSEQ (keySlot 1 7 0), 12)]).onRx 1 (fun x => x.setOpening ⟨7, 1, [],
      [⟨9, 0, 64, 12, 63733477490712711910683456972991473414, 3, false, true⟩], 0, 0, none, false⟩)).flowOp 1
      (Flow.rxEnter .rxSec 7 false false 0)], ∃ u ∈ [(⟨9, 0, 64, 12, 63733477490712711910683456972991473414, 3, false,
      true⟩ : Sealed)], ∃ o ∈ [(⟨7, 1, [], [⟨9, 0, 64, 12, 63733477490712711910683456972991473414, 3, false, true⟩],
      0, 0, none, false⟩ : Opening)],
      o = (s.chan (1 : Fin 4)).rx.openingOf (7 : Fin 1024) ∧ o.due.head? = some u ∧ s.rd (TRB_TRIB.STATE (1 : Fin 4)
        (7 : Fin 1024)) = Trib.active ∧ (o.ct.length < 64 ∨ (o.off + u.size) / 64 ≤ o.gone + (s.heldTokens (1 : Fin 4)
        (7 : Fin 1024)).length) ∧ s.unitVerdict (1 : Fin 4) (7 : Fin 1024) o u (((s.unitStream (1 : Fin 4) (7 : Fin
        1024) o).drop o.off).take u.size) = .replay) ∧
    (∃ s ∈ [op [(KEY_STAT.ENT_OK, 1)]],
      s.mode ≠ Mode.keep ∧ s.mode ≠ Mode.reset ∧ s.on KEY_STAT.ENT_OK = true) ∧
    (∃ s ∈ [op [(KEY_STAT.ENT_OK, 0), (KEYC.ENTRUN, 9)]],
      s.mode ≠ Mode.keep ∧ s.mode ≠ Mode.reset ∧ s.on KEY_STAT.ENT_OK = false ∧ s.rd KEYC.ENTRUN = 9) ∧
    (∃ s ∈ [op [(KEY_STAT.ENG_ACT, 15)]],
      (s.answers = true ∧ 3 ≤ s.level (0 : Fin 7) ∧ s.on MGT_STAT.PWARN = false) ∧ KEY_ENG_CMD.FORCE.of
        (0x80000003#32).toNat = 1 ∧ KEY_ENG_CMD.ENGINE.of (0x80000003#32).toNat = (3 : Fin 4).val ∧ s.rdBit
        KEY_STAT.ENG_FNC (3 : Fin 4) = false) ∧
    (∃ s ∈ [op [(KEY_STAT.ENG_ACT, 15), (KEY_BULK_STAT.STATE, 1), (KEY_BULK_STAT.NEXT, 5)]],
      (s.answers = true ∧ 3 ≤ s.level (0 : Fin 7) ∧ s.on MGT_STAT.PWARN = false) ∧ KEY_ENG_CMD.FORCE.of
        (0x80000003#32).toNat = 1 ∧ KEY_ENG_CMD.ENGINE.of (0x80000003#32).toNat = (3 : Fin 4).val ∧ s.rdBit
        KEY_STAT.ENG_FNC (3 : Fin 4) = false ∧ s.rd KEY_BULK_STAT.STATE = Bulk.run) := by
  refine ⟨?_, ?_, ?_, ?_, ?_, ?_, ?_, ?_, ?_, ?_, ?_⟩ <;> decide +kernel

/-- States that meet the hypotheses of KeyStoreOperations, clause by clause. -/
theorem test_met_KeyStoreOperations :
    (∃ s ∈ [op [(KEY_SLOT.STATE 9, 2), (KEYC.KEY 9, 77)]],
      (s.answers = true ∧ 3 ≤ s.level (0 : Fin 7) ∧ s.on MGT_STAT.PWARN = false) ∧ KEY_SLOT_CMD.ERASE.of
        (0x80000009#32).toNat = 1 ∧ KEY_SLOT_CMD.KEK.of (0x80000009#32).toNat = 0 ∧ KEY_SLOT_CMD.SLOT.of
        (0x80000009#32).toNat = (9 : Fin 8192).val ∧ s.keyMode = true ∧ s.slotInUse (9 : Fin 8192) = false) ∧
    (∃ s ∈ [op [(KEY_SLOT.STATE 9, 2), (KEYC.KEY 9, 77), (TRB_TRIB.STATE 0 4, 1), (TRB_TRIB.KI_TX 0 4, 1)]],
      (s.answers = true ∧ 3 ≤ s.level (0 : Fin 7) ∧ s.on MGT_STAT.PWARN = false) ∧ KEY_SLOT_CMD.ERASE.of
        (0x80000009#32).toNat = 1 ∧ KEY_SLOT_CMD.KEK.of (0x80000009#32).toNat = 0 ∧ KEY_SLOT_CMD.SLOT.of
        (0x80000009#32).toNat = (9 : Fin 8192).val ∧ s.keyMode = true ∧ s.slotInUse (9 : Fin 8192) = true) ∧
    (∃ s ∈ [op [(KEY_KEK.STATE 9, 2), (KEYC.KEK 9, 77)]],
      (s.answers = true ∧ 3 ≤ s.level (0 : Fin 7) ∧ s.on MGT_STAT.PWARN = false) ∧ KEY_SLOT_CMD.ERASE.of
        (0x80008009#32).toNat = 1 ∧ KEY_SLOT_CMD.KEK.of (0x80008009#32).toNat = 1 ∧ KEY_SLOT_CMD.SLOT.of
        (0x80008009#32).toNat = (9 : Fin 63).val ∧ s.keyMode = true) ∧
    (∃ s ∈ [op [(KEY_STAT.ENG_ACT, 15), (KEY_STAT.ENT_OK, 1), (KEY_BULK_CNT.COUNT, 3), (MGT_STAT.LINK_UP, 1),
      (MGT_STAT.BME, 1)]],
      (s.answers = true ∧ 3 ≤ s.level (0 : Fin 7) ∧ s.on MGT_STAT.PWARN = false) ∧ (KEY_BULK_CTRL.GO.of
        (0x80010000#32).toNat = 1 ∧ KEY_BULK_CTRL.RESUME.of (0x80010000#32).toNat = 0 ∧ KEY_BULK_CTRL.ABORT.of
        (0x80010000#32).toNat = 0) ∧ KEY_BULK_CTRL.OP.of (0x80010000#32).toNat = 1 ∧ KEY_BULK_CTRL.KEK.of
        (0x80010000#32).toNat ≤ 62 ∧ s.bulkBusy = false ∧ s.keyCause = 0 ∧ s.rd KEY_BULK_CNT.COUNT ≠ 0) ∧
    (∃ s ∈ [op [(KEY_STAT.ENG_ACT, 15), (KEY_STAT.ENT_OK, 1), (KEY_BULK_CNT.COUNT, 3), (MGT_STAT.LINK_UP, 1),
      (MGT_STAT.BME, 1)]],
      (s.answers = true ∧ 3 ≤ s.level (0 : Fin 7) ∧ s.on MGT_STAT.PWARN = false) ∧ (KEY_BULK_CTRL.GO.of
        (0x80031000#32).toNat = 1 ∧ KEY_BULK_CTRL.RESUME.of (0x80031000#32).toNat = 0 ∧ KEY_BULK_CTRL.ABORT.of
        (0x80031000#32).toNat = 0) ∧ KEY_BULK_CTRL.OP.of (0x80031000#32).toNat = 3 ∧ KEY_BULK_CTRL.KEK.of
        (0x80031000#32).toNat ≤ 62 ∧ s.bulkBusy = false ∧ s.keyCause = 0 ∧ s.rd KEY_BULK_CNT.COUNT ≠ 0 ∧ s.plainMode
        (KEY_BULK_CTRL.CH.of (0x80031000#32).toNat) = false) ∧
    (∃ s ∈ [op [(KEY_STAT.ENG_ACT, 15), (KEY_STAT.ENT_OK, 1), (KEY_BULK_CNT.COUNT, 3), (MGT_STAT.LINK_UP, 1),
      (MGT_STAT.BME, 1)]],
      (s.answers = true ∧ 3 ≤ s.level (0 : Fin 7) ∧ s.on MGT_STAT.PWARN = false) ∧ (KEY_BULK_CTRL.GO.of
        (0x80021000#32).toNat = 1 ∧ KEY_BULK_CTRL.RESUME.of (0x80021000#32).toNat = 0 ∧ KEY_BULK_CTRL.ABORT.of
        (0x80021000#32).toNat = 0) ∧ KEY_BULK_CTRL.OP.of (0x80021000#32).toNat = 2 ∧ KEY_BULK_CTRL.KEK.of
        (0x80021000#32).toNat ≤ 62 ∧ s.bulkBusy = false ∧ s.keyCause = 0 ∧ s.rd KEY_BULK_CNT.COUNT ≠ 0 ∧ s.plainMode
        (KEY_BULK_CTRL.CH.of (0x80021000#32).toNat) = false) ∧
    (∃ s ∈ [op [(KEY_STAT.ENG_ACT, 15), (KEY_STAT.ENT_OK, 1), (KEY_BULK_STAT.STATE, 4), (KEY_BULK_STAT.CAUSE, 4),
      (KEY_BULK_STAT.NEXT, 2), (KEY_BULK_CNT.COUNT, 3)]],
      (s.answers = true ∧ 3 ≤ s.level (0 : Fin 7) ∧ s.on MGT_STAT.PWARN = false) ∧ (KEY_BULK_CTRL.GO.of
        (0x40010000#32).toNat = 0 ∧ KEY_BULK_CTRL.RESUME.of (0x40010000#32).toNat = 1 ∧ KEY_BULK_CTRL.ABORT.of
        (0x40010000#32).toNat = 0) ∧ (1 ≤ KEY_BULK_CTRL.OP.of (0x40010000#32).toNat ∧ KEY_BULK_CTRL.OP.of
        (0x40010000#32).toNat ≤ 3) ∧ KEY_BULK_CTRL.KEK.of (0x40010000#32).toNat ≤ 62 ∧ (s.rd KEY_BULK_STAT.STATE =
        Bulk.fault ∨ s.rd KEY_BULK_STAT.STATE = Bulk.paused) ∧ s.keyCause = 0) ∧
    (∃ s ∈ [op [(KEY_BULK_STAT.STATE, 1)]],
      (s.answers = true ∧ 3 ≤ s.level (0 : Fin 7) ∧ s.on MGT_STAT.PWARN = false) ∧ (KEY_BULK_CTRL.GO.of
        (0x20010000#32).toNat = 0 ∧ KEY_BULK_CTRL.RESUME.of (0x20010000#32).toNat = 0 ∧ KEY_BULK_CTRL.ABORT.of
        (0x20010000#32).toNat = 1) ∧ (1 ≤ KEY_BULK_CTRL.OP.of (0x20010000#32).toNat ∧ KEY_BULK_CTRL.OP.of
        (0x20010000#32).toNat ≤ 3) ∧ KEY_BULK_CTRL.KEK.of (0x20010000#32).toNat ≤ 62 ∧ (s.bulkBusy = true ∨ s.rd
        KEY_BULK_STAT.STATE = Bulk.fault)) ∧
    (∃ s ∈ [op [(KEY_STAT.ENG_ACT, 15), (KEY_STAT.ENT_OK, 1), (KEY_BULK_STAT.STATE, 1), (KEY_BULK_CTRL.OP, 1),
      (KEY_BULK_CNT.COUNT, 3), (MGT_STAT.LINK_UP, 1), (MGT_STAT.BME, 1), (KEY_KEK.STATE 5, 2), (KEYC.KEK 5, 7)]], ∃ l
      ∈ [([0x00#8, 0x09#8, 0x05#8, 0x00#8, 0x00#8, 0x00#8, 0x00#8, 0x00#8, 0x89#8, 0x48#8, 0x39#8, 0x7D#8, 0x2C#8,
      0x05#8, 0x10#8, 0xE7#8, 0x3D#8, 0xF5#8, 0xAE#8, 0x6F#8, 0x04#8, 0xB0#8, 0xAB#8, 0xD2#8, 0x19#8, 0xAE#8, 0x4A#8,
      0xFD#8, 0xD2#8, 0xC8#8, 0xC1#8, 0x67#8, 0x63#8, 0xDB#8, 0x66#8, 0x44#8, 0xB3#8, 0x14#8, 0x04#8, 0x64#8, 0x72#8,
      0xB9#8, 0x31#8, 0x77#8, 0xF7#8, 0xED#8, 0xF3#8, 0xEE#8] : List Byte)],
      s.rd KEY_BULK_STAT.STATE = Bulk.run ∧ s.rdBit KEY_STAT.ENG_ACT (1 : Fin 4) = true ∧ s.keyCause = 0 ∧ s.portSends
        = true ∧ s.rd KEY_BULK_CTRL.OP = 1 ∧ recBe l 0 2 < 8192 ∧ recBe l 2 1 ≤ 62 ∧ s.slotInUse (recBe l 0 2) = false
        ∧ s.wrapKey (recBe l 2 1) = some (7 : Nat) ∧ kwUnwrap (7 : Nat) 4 (recBe l 8 40) = some (0x1234 : Nat) ∧ s.rd
        KEY_BULK_STAT.NEXT + 1 < s.rd KEY_BULK_CNT.COUNT) ∧
    (∃ s ∈ [op [(KEY_STAT.ENG_ACT, 15), (KEY_STAT.ENT_OK, 1), (KEY_BULK_STAT.STATE, 1), (KEY_BULK_CTRL.OP, 1),
      (KEY_BULK_CNT.COUNT, 3), (MGT_STAT.LINK_UP, 1), (MGT_STAT.BME, 1), (KEY_KEK.STATE 5, 2), (KEYC.KEK 5, 7)]], ∃ l
      ∈ [([0x00#8, 0x09#8, 0x05#8] : List Byte)],
      s.rd KEY_BULK_STAT.STATE = Bulk.run ∧ s.rdBit KEY_STAT.ENG_ACT (1 : Fin 4) = true ∧ s.keyCause = 0 ∧ s.portSends
        = true ∧ s.rd KEY_BULK_CTRL.OP = 1 ∧ recBe l 0 2 < 8192 ∧ recBe l 2 1 ≤ 62 ∧ s.slotInUse (recBe l 0 2) = false
        ∧ s.wrapKey (recBe l 2 1) = some (7 : Nat) ∧ kwUnwrap (7 : Nat) 4 (recBe l 8 40) = none) ∧
    (∃ s ∈ [op [(KEY_STAT.ENG_ACT, 15), (KEY_STAT.ENT_OK, 1), (KEY_BULK_STAT.STATE, 1), (KEY_BULK_CTRL.OP, 3),
      (KEY_BULK_CTRL.KEK, 5), (KEY_BULK_CNT.COUNT, 3), (KEY_BULK_STAT.NEXT, 2), (MGT_STAT.LINK_UP, 1), (MGT_STAT.BME,
      1), (KEY_KEK.STATE 5, 2), (KEYC.KEK 5, 7)]], ∃ l ∈ [([0x00#8, 0x09#8] : List Byte)],
      s.rd KEY_BULK_STAT.STATE = Bulk.run ∧ s.rdBit KEY_STAT.ENG_ACT (1 : Fin 4) = true ∧ s.keyCause = 0 ∧ s.portSends
        = true ∧ s.rd KEY_BULK_CTRL.OP = 3 ∧ s.plainMode (s.rd KEY_BULK_CTRL.CH) = false ∧ recBe l 0 2 < 1024 ∧ s.rd
        KEY_BULK_CTRL.KEK ≤ 62 ∧ s.wrapKey (s.rd KEY_BULK_CTRL.KEK) = some (7 : Nat) ∧ s.rd KEY_BULK_STAT.NEXT + 1 =
        s.rd KEY_BULK_CNT.COUNT) ∧
    (∃ s ∈ [op []],
      (s.answers = true ∧ 3 ≤ s.level (0 : Fin 7) ∧ s.on MGT_STAT.PWARN = false) ∧ KEY_ROOT_CMD.OP.of (1#32).toNat = 1
        ∧ s.rd KEYC.ROOTOP = 0 ∧ s.voteable = true ∧ s.provisionable = true) ∧
    (∃ s ∈ [op []],
      (s.answers = true ∧ 3 ≤ s.level (0 : Fin 7) ∧ s.on MGT_STAT.PWARN = false) ∧ KEY_ROOT_CMD.OP.of (2#32).toNat = 2
        ∧ s.rd KEYC.ROOTOP = 0 ∧ s.voteable = true ∧ s.keyMode = true) ∧
    (∃ s ∈ [op [(KEY_ROOT_CMD.ARMED, 1)]],
      (s.answers = true ∧ 3 ≤ s.level (0 : Fin 7) ∧ s.on MGT_STAT.PWARN = false) ∧ KEY_ROOT_CMD.OP.of (3#32).toNat = 3
        ∧ s.rd KEYC.ROOTOP = 0 ∧ s.voteable = true ∧ s.keyMode = true ∧ s.on KEY_ROOT_CMD.ARMED = true) ∧
    (∃ s ∈ [op [(KEY_ROOT_CMD.ARMED, 1)]],
      s.on KEY_ROOT_CMD.ARMED = true ∧ s.rd KEYC.ROOTOP ≠ 3) := by
  refine ⟨?_, ?_, ?_, ?_, ?_, ?_, ?_, ?_, ?_, ?_, ?_, ?_, ?_, ?_, ?_⟩ <;> decide +kernel

/-- States that meet the hypotheses of KeyRollover, clause by clause. -/
theorem test_met_KeyRollover :
    (∃ s ∈ [op [(LDS_CH_STATE.STATE 1, 4), (LFR_MFN_TX.MFN 1, 0xFFFFFFF0), (SEC_ROLL_MAP0.MAP 1, 384), (TRB_TRIB.EN 1
      7, 1), (TRB_TRIB.STATE 1 7, 1), (TRB_TRIB.ENC 1 7, 1), (KEY_SLOT.STATE (keySlot 1 7 1), 2)]],
      (s.answers = true ∧ 3 ≤ s.level (0 : Fin 7) ∧ s.on MGT_STAT.PWARN = false) ∧ (SEC_ROLL_CTRL.GO (1 : Fin 4)).of
        (0x80000100#32).toNat = 1 ∧ (SEC_ROLL_CTRL.BASE (1 : Fin 4)).of (0x80000100#32).toNat % 64 = 0 ∧ s.rollCause
        (1 : Fin 4) = 0 ∧ ((128 : Nat) = mapOf ((mapBits (s.rd (SEC_ROLL_MAP0.MAP (1 : Fin 4)) + 2 ^ 32 * s.rd
        (SEC_ROLL_MAP1.MAP (1 : Fin 4)))).filter (fun k => s.rollReady (1 : Fin 4) (((SEC_ROLL_CTRL.BASE (1 : Fin
        4)).of (0x80000100#32).toNat) + k)))) ∧ (128 : Nat) ≠ 0) ∧
    (∃ s ∈ [op [(ISC_STAT.CHIP 1, 3), (LDS_CH_STATE.STATE 1, 4), (LFR_MFN_TX.MFN 1, 20), (LFR_MFN_RX.MFN 1, 30),
      (TRB_TRIB.EN 1 7, 1), (TRB_TRIB.STATE 1 7, 1), (TRB_TRIB.ENC 1 7, 1), (KEY_SLOT.STATE (keySlot 1 7 1), 2)]],
      s.rd (ISC_STAT.CHIP (1 : Fin 4)) = 3 ∧ s.firmware = true ∧ s.rollBusy (1 : Fin 4) = false ∧ s.plainMode (1 : Fin
        4) = false ∧ 16 ≤ mfSub (s.fromPeer (1 : Fin 4) (100#32).toNat) (s.mfn (1 : Fin 4)) ∧ mfSub (s.fromPeer (1 :
        Fin 4) (100#32).toNat) (s.mfn (1 : Fin 4)) < 2 ^ 31 ∧ ((128 : Nat) = mapOf ((mapBits (384#64).toNat).filter
        (fun k => s.rollReady (1 : Fin 4) ((0 : Fin 1024) + k)))) ∧ (128 : Nat) ≠ 0) ∧
    (∃ s ∈ [op [(ISC_STAT.CHIP 1, 3), (LDS_CH_STATE.STATE 1, 4), (LFR_MFN_TX.MFN 1, 20), (LFR_MFN_RX.MFN 1, 30)]],
      s.rd (ISC_STAT.CHIP (1 : Fin 4)) = 3 ∧ s.firmware = true ∧ s.rollBusy (1 : Fin 4) = false ∧ ((mapBits
        (384#64).toNat).all (fun k => !s.rollReady (1 : Fin 4) ((0 : Fin 1024) + k)) = true)) ∧
    (∃ s ∈ [op [(ISC_STAT.CHIP 1, 3), (SEC_ROLL_STAT.STATE 1, 1), (SEC_ROLL_MF.M 1, 100), (SECC.BASE 1, 64),
      (SECC.BATCH 1, 12), (LFR_MFN_TX.MFN 1, 20)]],
      s.rd (ISC_STAT.CHIP (1 : Fin 4)) = 3 ∧ s.firmware = true ∧ s.rd (SEC_ROLL_STAT.STATE (1 : Fin 4)) = 1 ∧ s.on
        (SEC_ROLL_STAT.PEER (1 : Fin 4)) = false ∧ s.rd (SEC_ROLL_MF.M (1 : Fin 4)) = (100#32).toNat ∧ s.rd (SECC.BASE
        (1 : Fin 4)) = (64 : Fin 1024).val ∧ 16 < s.rollLeft (1 : Fin 4) ∧ ((4 : Nat) = mapOf ((mapBits (s.rd
        (SECC.BATCH (1 : Fin 4)))).filter (fun k => bit (6#64).toNat k = 1))) ∧ (4 : Nat) ≠ 0) ∧
    (∃ s ∈ [op [(ISC_STAT.CHIP 1, 3), (SEC_ROLL_STAT.STATE 1, 1), (SEC_ROLL_MF.M 1, 100), (SECC.BASE 1, 64),
      (SECC.BATCH 1, 12), (LFR_MFN_TX.MFN 1, 20)]],
      s.rd (ISC_STAT.CHIP (1 : Fin 4)) = 3 ∧ s.firmware = true ∧ s.rd (SEC_ROLL_STAT.STATE (1 : Fin 4)) = 1 ∧ s.on
        (SEC_ROLL_STAT.PEER (1 : Fin 4)) = false ∧ s.rd (SEC_ROLL_MF.M (1 : Fin 4)) = (100#32).toNat ∧ s.rd (SECC.BASE
        (1 : Fin 4)) = (64 : Fin 1024).val ∧ 16 < s.rollLeft (1 : Fin 4)) ∧
    (∃ s ∈ [op [(SEC_ROLL_STAT.STATE 1, 1), (SEC_ROLL_MF.M 1, 30), (LFR_MFN_TX.MFN 1, 14)]],
      s.rd (SEC_ROLL_STAT.STATE (1 : Fin 4)) = 1 ∧ s.on (SEC_ROLL_STAT.PEER (1 : Fin 4)) = false ∧ s.rollLeft (1 : Fin
        4) ≤ 16) := by
  refine ⟨?_, ?_, ?_, ?_, ?_, ?_⟩ <;> decide +kernel

/-- States that meet the hypotheses of LockdownErasesEveryKey, clause by clause. -/
theorem test_met_LockdownErasesEveryKey :
    (∃ s ∈ [op [(KEY_SLOT.STATE 9, 2), (KEYC.KEY 9, 6), (KEY_KEK.STATE 5, 2), (KEYC.KEK 5, 7)]],
      (s.answers = true ∧ 3 ≤ s.level (0 : Fin 7) ∧ s.on MGT_STAT.PWARN = false) ∧ KEY_ZEROISE.GO.of (0xC301#32).toNat
        = 1 ∧ KEY_ZEROISE.CODE.of (0xC301#32).toNat = 0xC3 ∧ s.operating = true) ∧
    (∃ s ∈ [op [(KEY_SLOT.STATE 9, 2), (KEYC.KEY 9, 6), (KEY_KEK.STATE 5, 2), (KEYC.KEK 5, 7)]],
      s.on PIN.ZEROISE = false ∧ s.mode ≠ Mode.keep ∧ s.mode ≠ Mode.reset) ∧
    (∃ s ∈ [op [(KEY_SLOT.STATE 9, 2), (KEYC.KEY 9, 6), (KEY_KEK.STATE 5, 2), (KEYC.KEK 5, 7), (KEYC.ROOT, 7),
      (KEY_STAT.ROOT, 1)]],
      s.on PIN.TAMPER = false ∧ s.mode ≠ Mode.keep ∧ s.mode ≠ Mode.reset) ∧
    (∃ s ∈ [mkState [(DEV_MODE.MODE, 1), (KEY_SLOT.STATE 9, 2), (KEYC.KEY 9, 6), (KEY_KEK.STATE 5, 2), (KEYC.KEK 5,
      7), (KEYC.ROOT, 7), (KEY_STAT.ROOT, 1)]],
      s.on PIN.TAMPER = false ∧ s.mode = Mode.reset) ∧
    (∃ s ∈ [mkState [(DEV_MODE.MODE, 0), (KEYC.ROOT, 7), (KEY_STAT.ROOT, 1), (KEY_RTC.SEC, 99)]],
      s.on PIN.TAMPER = false ∧ s.mode = Mode.keep) ∧
    (∃ s ∈ [mkState [(DEV_MODE.MODE, 0), (PWRC.OUT, 4), (KEYC.ROOT, 7), (KEY_STAT.ROOT, 1)]],
      s.vioOk = false) ∧
    (∃ s ∈ [mkState [(DEV_MODE.MODE, 0), (PWRC.OUT, 4), (KEYC.ROOT, 7), (KEY_STAT.ROOT, 1)]],
      s.vioOk = false) := by
  refine ⟨?_, ?_, ?_, ?_, ?_, ?_, ?_⟩ <;> decide +kernel

/-- States that meet the hypotheses of MonitorConvertersDeliver, clause by clause. -/
theorem test_met_MonitorConvertersDeliver :
    (∃ s ∈ [{ op [(MONC.CS_ACT 1, 0), (MON_CTRL.CS 1, 0), (MON_STAT.URG_PEND 1, 1), (MONC.URG_IN 1, 1), (MONC.UNS 1 1, 0), (CAL_RUN_STAT.SCOPE, 4)] with monHist := [(33, ⟨[], [], [1, 2, 3, -9]⟩)] }],
      s.answers = true ∧ s.on (MON_STAT.CLK_LOSS (1 : Fin 5)) = false ∧ s.rd (MONC.CS_ACT (1 : Fin 5)) = 0 ∧ s.rd
        (MONC.FADE (1 : Fin 5)) = 0 ∧ ((if s.on (MON_STAT.URG_PEND (1 : Fin 5)) = true then some (s.rd (MONC.URG_IN (1
        : Fin 5))) else nextInput (s.rd (MON_DLV.MASK (1 : Fin 5))) (s.rd (MONC.LASTIN (1 : Fin 5)))) = some (1 : Fin
        32).val) ∧ s.rdBit (MON_DCB_EN.EN (1 : Fin 5)) (1 : Fin 32) = false ∧ s.rd (MONC.UNS (1 : Fin 5) (1 : Fin 32))
        = 0 ∧ (-9 : Int) = ((keyed (32 * (1 : Fin 5).val + (1 : Fin 32).val) s.monHist).getD MonInput.zero).hist.getD
        3 0 ∧ (-(2 ^ 23) ≤ (-9 : Int) ∧ (-9 : Int) < 2 ^ 23) ∧ s.rd CAL_RUN_STAT.STATE = 0) ∧
    (∃ s ∈ [op [(MON_STAT.CLK_LOSS 1, 1)]],
      (s.answers = false ∨ s.on (MON_STAT.CLK_LOSS (1 : Fin 5)) = true)) ∧
    (∃ s ∈ [{ op [] with monHist := [(33, ⟨[0, 0, 0, 0], [], [1, 2, 3, -9]⟩)] }],
      s.answers = true ∧ s.on (MON_STAT.CLK_LOSS (1 : Fin 5)) = false ∧ s.rd (MON_CTRL.PRESET (1 : Fin 5)) = s.rd
        (MON_STAT.PRESET_ACT (1 : Fin 5))) ∧
    (∃ s ∈ [op [(MON_STAT.FULL 4, 1), (MON_RES.VALUE 4, 77)]],
      s.answers = true ∧ readLevel (8 + monBase (4 : Fin 5)) ≤ s.level (0 : Fin 7)) ∧
    (∃ s ∈ [op []],
      (s.answers = true ∧ 2 ≤ s.level (0 : Fin 7) ∧ s.on MGT_STAT.PWARN = false) ∧ (MON_URG.GO (4 : Fin 5)).of
        (0x80000009#32).toNat = 1 ∧ s.on (MON_STAT.URG_PEND (4 : Fin 5)) = false) ∧
    (∃ s ∈ [op [(MON_STAT.URG_PEND 4, 1)]],
      (s.answers = true ∧ 2 ≤ s.level (0 : Fin 7) ∧ s.on MGT_STAT.PWARN = false) ∧ (MON_URG.GO (4 : Fin 5)).of
        (0x80000009#32).toNat = 1 ∧ s.on (MON_STAT.URG_PEND (4 : Fin 5)) = true) ∧
    (∃ s ∈ [op []],
      (s.answers = true ∧ 2 ≤ s.level (0 : Fin 7) ∧ s.on MGT_STAT.PWARN = false) ∧ ((MON_CTRL.CS (4 : Fin 5)).of
        (0xC12#32).toNat = s.rd (MON_CTRL.CS (4 : Fin 5)) ∨ s.on (MON_STAT.XFADE (4 : Fin 5)) = false) ∧ (4 ≤
        (MON_CTRL.DCK (4 : Fin 5)).of (0xC12#32).toNat ∧ (MON_CTRL.DCK (4 : Fin 5)).of (0xC12#32).toNat ≤ 16)) ∧
    (∃ s ∈ [op []],
      (s.answers = true ∧ 2 ≤ s.level (0 : Fin 7) ∧ s.on MGT_STAT.PWARN = false) ∧ s.on (MON_STAT.XFADE (4 : Fin 5)) =
        false ∧ (4 ≤ (MON_CTRL.DCK (4 : Fin 5)).of (0xC21#32).toNat ∧ (MON_CTRL.DCK (4 : Fin 5)).of (0xC21#32).toNat ≤
        16)) ∧
    (∃ s ∈ [op [(MON_COEF_SEL.SET 4, 1), (MON_COEF_SEL.TAP 4, 3)]],
      (s.answers = true ∧ 2 ≤ s.level (0 : Fin 7) ∧ s.on MGT_STAT.PWARN = false) ∧ s.rd (MON_COEF_SEL.SET (4 : Fin 5))
        = (1 : Fin 2).val ∧ s.rd (MON_COEF_SEL.TAP (4 : Fin 5)) = (3 : Fin 5).val ∧ s.setInUse (4 : Fin 5) (2 + (1 :
        Fin 2)) = false) ∧
    (∃ s ∈ [op [(MON_BIAS_STAT.LOCK 1, 3), (BIASC.STATE 1 0, 2)]],
      s.answers = true ∧ s.on (MON_STAT.CLK_LOSS (1 : Fin 5)) = false) ∧
    (∃ s ∈ [op [(MON_STAT.CLK_LOSS 1, 1)]],
      s.on (MON_STAT.CLK_LOSS (1 : Fin 5)) = true) ∧
    (∃ s ∈ [{ op [(OPT_STAT.PHASE 1, Phase.lit), (MON_BIAS_CTRL.EN 1, 1)] with taps := [(2, List.replicate 16 (5, true))] }], ∃ l ∈ [(List.replicate 16 (5, true) : List (Int × Bool))],
      s.biasRuns (1 : Fin 4) = true ∧ keyed (2 * (1 : Fin 4) + (0 : Fin 2)) s.taps = some l ∧ l.length = 16 ∧ (l.any
        Prod.snd = true ∨ (l.map Prod.fst).sum * 200 < 2 * 16 * 2 ^ 23 * (s.monGain (1 : Fin 4) (0 : Fin 2) : Int))) ∧
    (∃ s ∈ [{ op [(OPT_STAT.PHASE 1, Phase.lit), (MON_BIAS_CTRL.EN 1, 1), (BIASC.STATE 1 0, 2), (MON_BIAS_B.V 1 0, 500), (BIASC.LARGE 1 0, 4)] with taps := [(2, List.replicate 16 (4194304, false))] }], ∃ l ∈ [(List.replicate 16 (4194304, false) : List (Int × Bool))],
      s.biasRuns (1 : Fin 4) = true ∧ keyed (2 * (1 : Fin 4) + (0 : Fin 2)) s.taps = some l ∧ l.length = 16 ∧ l.any
        Prod.snd = false ∧ 2 * 16 * 2 ^ 23 * (s.monGain (1 : Fin 4) (0 : Fin 2) : Int) ≤ (l.map Prod.fst).sum * 200 ∧
        s.rd (BIASC.STATE (1 : Fin 4) (3 * (0 : Fin 2) + 1)) = 0 ∧ s.rd (BIASC.STATE (1 : Fin 4) (3 * (0 : Fin 2) +
        2)) = 0 ∧ ((0 : Int) = roundQ ((l.reverse.zipIdx.map (fun (p : (Int × Bool) × Nat) => p.1.1 * chipSign (3 * (0
        : Fin 2)) (p.2 / 2))).sum * 65536) (l.reverse.map Prod.fst).sum.natAbs) ∧ (500 : Int) = s.rdS (MON_BIAS_B.V (1
        : Fin 4) (3 * (0 : Fin 2))) - roundQ ((0 : Int) * 10000) (65536 * 2 ^ s.rd (MON_BIAS_CTRL.GAIN (1 : Fin 4))) ∧
        s.rd (BIASC.STATE (1 : Fin 4) (3 * (0 : Fin 2))) = 2 ∧ (-10000 < (500 : Int) ∧ (500 : Int) < 10000) ∧ (0 :
        Int).natAbs ≤ 4 * s.rd (MON_BIAS_CTRL.LOCK_THR (1 : Fin 4)) ∧ (-32768 ≤ (0 : Int) ∧ (0 : Int) < 32768) ∧ s.rd
        (BIASC.UPD (1 : Fin 4) (3 * (0 : Fin 2))) ≠ 63 ∧ s.rd (BIASC.VPI_BAD (1 : Fin 4) (3 * (0 : Fin 2))) < 4) ∧
    (∃ s ∈ [{ op [(OPT_STAT.PHASE 1, Phase.lit), (MON_BIAS_CTRL.EN 1, 1), (BIASC.STATE 1 0, 2), (MON_BIAS_B.V 1 0, 10000), (BIASC.RAIL 1 0, 15)] with taps := [(2, List.replicate 16 (4194304, false))] }], ∃ l ∈ [(List.replicate 16 (4194304, false) : List (Int × Bool))],
      s.biasRuns (1 : Fin 4) = true ∧ keyed (2 * (1 : Fin 4) + (0 : Fin 2)) s.taps = some l ∧ l.length = 16 ∧ l.any
        Prod.snd = false ∧ 2 * 16 * 2 ^ 23 * (s.monGain (1 : Fin 4) (0 : Fin 2) : Int) ≤ (l.map Prod.fst).sum * 200 ∧
        s.rd (BIASC.STATE (1 : Fin 4) (3 * (0 : Fin 2) + 1)) = 0 ∧ s.rd (BIASC.STATE (1 : Fin 4) (3 * (0 : Fin 2) +
        2)) = 0 ∧ ((0 : Int) = roundQ ((l.reverse.zipIdx.map (fun (p : (Int × Bool) × Nat) => p.1.1 * chipSign (3 * (0
        : Fin 2)) (p.2 / 2))).sum * 65536) (l.reverse.map Prod.fst).sum.natAbs) ∧ (10000 : Int) = s.rdS (MON_BIAS_B.V
        (1 : Fin 4) (3 * (0 : Fin 2))) - roundQ ((0 : Int) * 10000) (65536 * 2 ^ s.rd (MON_BIAS_CTRL.GAIN (1 : Fin
        4))) ∧ s.rd (BIASC.STATE (1 : Fin 4) (3 * (0 : Fin 2))) ≠ 0 ∧ ((10000 : Int) ≤ -10000 ∨ 10000 ≤ (10000 : Int))
        ∧ s.rd (BIASC.RAIL (1 : Fin 4) (3 * (0 : Fin 2))) = 15) := by
  refine ⟨?_, ?_, ?_, ?_, ?_, ?_, ?_, ?_, ?_, ?_, ?_, ?_, ?_, ?_⟩ <;> decide +kernel

/-- States that meet the hypotheses of CalibrationRunsStart, clause by clause. -/
theorem test_met_CalibrationRunsStart :
    (∃ s ∈ [op []],
      (s.answers = true ∧ 2 ≤ s.level (0 : Fin 7) ∧ s.on MGT_STAT.PWARN = false) ∧ (CAL_CMD.GO.of
        (0xC0010001#32).toNat = 1 ∧ CAL_CMD.TYPE.of (0xC0010001#32).toNat = 1 ∧ CAL_CMD.SCOPE.of (0xC0010001#32).toNat
        = (1 : Fin 4).val) ∧ s.calBusy = false ∧ s.calRefusal 1 (1 : Fin 4) (CAL_CMD.SRC.of (0xC0010001#32).toNat) =
        0) ∧
    (∃ s ∈ [op []],
      (s.answers = true ∧ 2 ≤ s.level (0 : Fin 7) ∧ s.on MGT_STAT.PWARN = false) ∧ (CAL_CMD.GO.of
        (0x80010004#32).toNat = 1 ∧ CAL_CMD.TYPE.of (0x80010004#32).toNat = 1 ∧ CAL_CMD.SCOPE.of (0x80010004#32).toNat
        = (4 : Fin 5).val) ∧ s.calBusy = false ∧ s.calRefusal 1 (4 : Fin 5) (CAL_CMD.SRC.of (0x80010004#32).toNat) = 0
        ∧ (4 : Fin 5) = 4) ∧
    (∃ s ∈ [op [(OPT_STAT.PHASE 1, Phase.lit), (LDS_CH_STATE.STATE 1, 3)]],
      (s.answers = true ∧ 2 ≤ s.level (0 : Fin 7) ∧ s.on MGT_STAT.PWARN = false) ∧ (CAL_CMD.GO.of
        (0x80020001#32).toNat = 1 ∧ CAL_CMD.TYPE.of (0x80020001#32).toNat = 2 ∧ CAL_CMD.SCOPE.of (0x80020001#32).toNat
        = (1 : Fin 5).val) ∧ s.calBusy = false ∧ s.calRefusal 2 (1 : Fin 5) (CAL_CMD.SRC.of (0x80020001#32).toNat) =
        0) ∧
    (∃ s ∈ [op [(CAL_SSTAT_S.VALID_F 4, 1)]],
      (s.answers = true ∧ 2 ≤ s.level (0 : Fin 7) ∧ s.on MGT_STAT.PWARN = false) ∧ (CAL_CMD.GO.of
        (0x80033004#32).toNat = 1 ∧ CAL_CMD.TYPE.of (0x80033004#32).toNat = 3 ∧ CAL_CMD.SCOPE.of (0x80033004#32).toNat
        = (4 : Fin 5).val) ∧ s.calBusy = false ∧ s.calRefusal 3 (4 : Fin 5) (CAL_CMD.SRC.of (0x80033004#32).toNat) = 0
        ∧ s.loadSource (4 : Fin 5) (CAL_CMD.SRC.of (0x80033004#32).toNat) = some (0 : Nat)) ∧
    (∃ s ∈ [op [(CAL_SSTAT_S.INFORCE 4, 1)]],
      (s.answers = true ∧ 2 ≤ s.level (0 : Fin 7) ∧ s.on MGT_STAT.PWARN = false) ∧ (CAL_CMD.GO.of
        (0x80040004#32).toNat = 1 ∧ CAL_CMD.TYPE.of (0x80040004#32).toNat = 4 ∧ CAL_CMD.SCOPE.of (0x80040004#32).toNat
        = (4 : Fin 5).val) ∧ s.calBusy = false ∧ s.calRefusal 4 (4 : Fin 5) (CAL_CMD.SRC.of (0x80040004#32).toNat) =
        0) ∧
    (∃ s ∈ [op [(CAL_RUN_STAT.STATE, 4)]],
      (s.answers = true ∧ 2 ≤ s.level (0 : Fin 7) ∧ s.on MGT_STAT.PWARN = false) ∧ (CAL_CMD.GO.of
        (0x80020001#32).toNat = 1 ∧ CAL_CMD.TYPE.of (0x80020001#32).toNat = 2 ∧ CAL_CMD.SCOPE.of (0x80020001#32).toNat
        = (1 : Fin 5).val) ∧ s.calBusy = true) ∧
    (∃ s ∈ [op [(LDS_CH_STATE.STATE 1, 0)]],
      (s.answers = true ∧ 2 ≤ s.level (0 : Fin 7) ∧ s.on MGT_STAT.PWARN = false) ∧ (CAL_CMD.GO.of
        (0x80020001#32).toNat = 1 ∧ CAL_CMD.TYPE.of (0x80020001#32).toNat = 2 ∧ CAL_CMD.SCOPE.of (0x80020001#32).toNat
        = (1 : Fin 5).val) ∧ s.calBusy = false ∧ s.calRefusal 2 (1 : Fin 5) (CAL_CMD.SRC.of (0x80020001#32).toNat) =
        (1 : Nat) + 1) ∧
    (∃ s ∈ [op [(CAL_POLICY.TRACK_PER, 1), (CAL_SSTAT_S.INFORCE 4, 1), (KEY_RTC.SEC, 3601)]],
      s.operating = true ∧ s.rd CAL_POLICY.TRACK_PER ≠ 0 ∧ s.on (CAL_SSTAT_S.INFORCE (4 : Fin 5)) = true ∧ s.rd
        CAL_POLICY.TRACK_PER * 3600 < s.rd KEY_RTC.SEC - s.rd (CAL_TIME_S.RTC (4 : Fin 5)) ∧ s.hourPassed (4 : Fin 5)
        = true) ∧
    (∃ s ∈ [op [(CAL_POLICY.TRACK_DT, 10), (CAL_SSTAT_S.INFORCE 1, 1)]],
      s.operating = true ∧ s.rd CAL_POLICY.TRACK_DT ≠ 0 ∧ s.on (CAL_SSTAT_S.INFORCE (1 : Fin 4)) = true ∧ 50 * s.rd
        CAL_POLICY.TRACK_DT < ((-600 : Int) - 50 * s.rdS (CAL_SSTAT_S.TEMP (1 : Fin 4))).natAbs ∧ s.hourPassed (1 :
        Fin 4) = true) ∧
    (∃ s ∈ [op [(CAL_POLICY.TRACK_DT, 10), (CAL_SSTAT_S.INFORCE 1, 1)]],
      ((-500 : Int) - 50 * s.rdS (CAL_SSTAT_S.TEMP (1 : Fin 4))).natAbs ≤ 50 * s.rd CAL_POLICY.TRACK_DT) ∧
    (∃ s ∈ [op [(CALC.WAIT_TRACK, 16), (CAL_SSTAT_S.INFORCE 4, 1)]],
      s.calBusy = false ∧ (s.rdBit CALC.WAIT_FULL (4 : Fin 5) = false ∨ (4 : Fin 5) = 4) ∧ s.rdBit CALC.WAIT_TRACK (4
        : Fin 5) = true ∧ s.on (CAL_SSTAT_S.INFORCE (4 : Fin 5)) = true ∧ s.calRefusal 2 (4 : Fin 5) 0 = 0) ∧
    (∃ s ∈ [op [(CALC.WAIT_FULL, 2)]],
      s.calBusy = false ∧ s.rdBit CALC.WAIT_FULL (1 : Fin 4) = true ∧ s.calRefusal 1 (1 : Fin 4) 0 = 0) := by
  refine ⟨?_, ?_, ?_, ?_, ?_, ?_, ?_, ?_, ?_, ?_, ?_, ?_⟩ <;> decide +kernel

/-- States that meet the hypotheses of CalibrationRunsApplyAndStore, clause by clause. -/
theorem test_met_CalibrationRunsApplyAndStore :
    (∃ s ∈ [op [(CAL_RUN_STAT.STATE, 1), (CAL_RUN_STAT.SCOPE, 4), (CAL_RUN_STAT.TYPE, 1)]], ∃ old ∈ [(none : Option
      (List Host.Cell))],
      s.rd CAL_RUN_STAT.STATE = 1 ∧ s.rd CAL_RUN_STAT.SCOPE = (4 : Fin 5).val ∧ (s.rd CAL_RUN_STAT.TYPE = 1 → (4 : Fin
        5).val < 4 → s.on CALC.LIGHT = true) ∧ (old = if s.on (CAL_SSTAT_S.INFORCE (4 : Fin 5)) = true ∧ ¬(s.rd
        CAL_RUN_STAT.TYPE = 1 ∧ s.on CALC.IGN = true) then some (s.setOf (4 : Fin 5)) else none) ∧ s.implausible (4 :
        Fin 5) (s.measuredSet (s.rd CAL_RUN_STAT.TYPE) (4 : Fin 5) ⟨([] : List Host.Cell), (2500 : Int), (1000000 :
        Nat), (0 : Int)⟩) old = none) ∧
    (∃ s ∈ [op [(CAL_RUN_STAT.STATE, 1), (CAL_RUN_STAT.SCOPE, 4), (CAL_RUN_STAT.TYPE, 1)]], ∃ old ∈ [(none : Option
      (List Host.Cell))], ∃ x ∈ [(⟨0x18, 0, 900000, 995000⟩ : Miss)],
      s.rd CAL_RUN_STAT.STATE = 1 ∧ s.rd CAL_RUN_STAT.SCOPE = (4 : Fin 5).val ∧ (s.rd CAL_RUN_STAT.TYPE = 1 → (4 : Fin
        5).val < 4 → s.on CALC.LIGHT = true) ∧ (old = if s.on (CAL_SSTAT_S.INFORCE (4 : Fin 5)) = true ∧ ¬(s.rd
        CAL_RUN_STAT.TYPE = 1 ∧ s.on CALC.IGN = true) then some (s.setOf (4 : Fin 5)) else none) ∧ s.implausible (4 :
        Fin 5) (s.measuredSet (s.rd CAL_RUN_STAT.TYPE) (4 : Fin 5) ⟨([] : List Host.Cell), (2500 : Int), (900000 :
        Nat), (0 : Int)⟩) old = some x) ∧
    (∃ s ∈ [op [(CAL_RUN_STAT.STATE, 1), (CAL_RUN_STAT.SCOPE, 4)]],
      (s.rd CAL_RUN_STAT.STATE = 1 ∨ s.rd CAL_RUN_STAT.STATE = 2)) ∧
    (∃ s ∈ [op [(CAL_RUN_STAT.STATE, 4), (CAL_RUN_STAT.SCOPE, 4), (CAL_RUN_STAT.TYPE, 1), (CALC.REGION, 1)]],
      s.rd CAL_RUN_STAT.STATE = 4 ∧ s.rd CAL_RUN_STAT.SCOPE = (4 : Fin 5).val ∧ s.rd CAL_RUN_STAT.TYPE ≠ 4 ∧ ((4 : Fin
        5).val < 4 → s.chSt (4 : Fin 5) ≠ ChSt.fenced ∧ s.boundaryOpen (4 : Fin 5) = true)) ∧
    (∃ s ∈ [op [(CAL_RUN_STAT.STATE, 4), (CAL_RUN_STAT.SCOPE, 4), (CAL_RUN_STAT.TYPE, 4), (CALC.REGION, 1)]],
      s.rd CAL_RUN_STAT.STATE = 4 ∧ s.rd CAL_RUN_STAT.SCOPE = (4 : Fin 5).val ∧ s.rd CAL_RUN_STAT.TYPE = 4 ∧ s.on
        CALC.PASS = false) ∧
    (∃ s ∈ [op [(CAL_RUN_STAT.STATE, 4), (CAL_RUN_STAT.SCOPE, 4), (CAL_RUN_STAT.TYPE, 4), (CALC.REGION, 1),
      (CALC.PASS, 1)]],
      s.rd CAL_RUN_STAT.STATE = 4 ∧ s.rd CAL_RUN_STAT.SCOPE = (4 : Fin 5).val ∧ s.rd CAL_RUN_STAT.TYPE = 4 ∧ s.on
        CALC.PASS = true) ∧
    (∃ s ∈ [op [(CAL_RUN_STAT.STATE, 4), (CAL_RUN_STAT.SCOPE, 4), (CAL_RUN_STAT.TYPE, 4), (CALC.REGION, 1)]],
      s.rd CAL_RUN_STAT.STATE = 4 ∧ s.rd CAL_RUN_STAT.SCOPE = (4 : Fin 5).val ∧ s.rd CAL_RUN_STAT.TYPE = 4) ∧
    (∃ s ∈ [op [(CAL_RUN_STAT.STATE, 4), (CAL_RUN_STAT.SCOPE, 4), (CAL_RUN_STAT.TYPE, 1), (CALC.REGION, 1)]],
      s.rd CAL_RUN_STAT.STATE = 4 ∧ s.rd CAL_RUN_STAT.SCOPE = (4 : Fin 5).val ∧ s.rd CAL_RUN_STAT.TYPE ≠ 4 ∧ ((4 : Fin
        5).val < 4 → s.chSt (4 : Fin 5) ≠ ChSt.fenced ∧ s.boundaryOpen (4 : Fin 5) = true)) ∧
    (∃ s ∈ [{ op [(CAL_RUN_STAT.STATE, 5), (CAL_RUN_STAT.SCOPE, 1), (CAL_PROG.NEXT, 3), (CAL_PROG.TOTAL, 552), (CNV_SLC_STAT.STATE 1 275, 0)] with runSet := [(0x58, 5#8)] }],
      s.rd CAL_RUN_STAT.STATE = 5 ∧ s.rd CAL_RUN_STAT.SCOPE = (1 : Fin 4).val ∧ s.actsAtOnce (1 : Fin 4) = true ∧ s.rd
        CAL_PROG.NEXT + 1 < s.rd CAL_PROG.TOTAL ∧ s.on (OPTC.HOLD (1 : Fin 4)) = false ∧ s.rd CAL_PROG.NEXT < 544 ∧
        s.slice (1 : Fin 4) (elementSlice (s.rd CAL_PROG.NEXT)) ≠ Slice.fenced ∧ s.slice (1 : Fin 4) (elementSlice
        (s.rd CAL_PROG.NEXT)) ≠ Slice.failing) ∧
    (∃ s ∈ [{ op [(CAL_RUN_STAT.STATE, 5), (CAL_RUN_STAT.SCOPE, 1), (CAL_PROG.NEXT, 3), (CAL_PROG.TOTAL, 552), (CNV_SLC_STAT.STATE 1 275, 5)] with runSet := [(0x58, 5#8)] }],
      s.rd CAL_RUN_STAT.STATE = 5 ∧ s.rd CAL_RUN_STAT.SCOPE = (1 : Fin 4).val ∧ s.actsAtOnce (1 : Fin 4) = true ∧ s.rd
        CAL_PROG.NEXT + 1 < s.rd CAL_PROG.TOTAL ∧ s.on (OPTC.HOLD (1 : Fin 4)) = false ∧ s.rd CAL_PROG.NEXT < 544 ∧
        (s.slice (1 : Fin 4) (elementSlice (s.rd CAL_PROG.NEXT)) = Slice.fenced ∨ s.slice (1 : Fin 4) (elementSlice
        (s.rd CAL_PROG.NEXT)) = Slice.failing)) ∧
    (∃ s ∈ [{ op [(CAL_RUN_STAT.STATE, 5), (CAL_RUN_STAT.SCOPE, 1), (CAL_PROG.NEXT, 551), (CAL_PROG.TOTAL, 552)] with runSet := [(0x58, 5#8)] }],
      s.rd CAL_RUN_STAT.STATE = 5 ∧ s.rd CAL_RUN_STAT.SCOPE = (1 : Fin 4).val ∧ s.actsAtOnce (1 : Fin 4) = true ∧ s.rd
        CAL_PROG.NEXT = 551 ∧ s.rd CAL_PROG.TOTAL = 552 ∧ s.calWait = [] ∧ s.on (OPTC.HOLD (1 : Fin 4)) = false) := by
  refine ⟨?_, ?_, ?_, ?_, ?_, ?_, ?_, ?_, ?_, ?_, ?_⟩ <;> decide +kernel

/-- States that meet the hypotheses of VotesAreTakenAndDecided, clause by clause. -/
theorem test_met_VotesAreTakenAndDecided :
    (∃ s ∈ [{ op [] with votes := [.checkpoint, .laser 1] }],
      s.on SUP_ARB_STAT.VOTE_OPEN = false ∧ s.votes ≠ [] ∧ s.rd SUPC.TESTING = 0 ∧ s.frozen = false ∧ s.firmware =
        true) ∧
    (∃ s ∈ [{ op [(SUP_ARB_STAT.VOTE_OPEN, 1), (SUPC.STATE 0, 2), (SUPC.STATE 1, 3), (SUPC.STATE 2, 3), (CAL_RUN_STAT.STATE, 3), (CAL_RUN_STAT.SCOPE, 4)] with votes := [.calApply, .laser 1] }],
      s.on SUP_ARB_STAT.VOTE_OPEN = true ∧ s.votes.head? = some .calApply ∧ s.counted = [0, 1, 2] ∧ s.rd
        CAL_RUN_STAT.STATE = 3 ∧ s.rd CAL_RUN_STAT.SCOPE = (4 : Fin 5).val ∧ s.on CALC.NOWRITE = false) ∧
    (∃ s ∈ [{ op [(SUP_ARB_STAT.VOTE_OPEN, 1), (SUPC.STATE 0, 2), (SUPC.STATE 1, 3), (SUPC.STATE 2, 3)] with votes := [.fenceClear 9], mbx := [⟨9, 1, 3, [0x07010000], 1⟩] }],
      s.on SUP_ARB_STAT.VOTE_OPEN = true ∧ s.votes.head? = some (.fenceClear (9 : Nat)) ∧ s.counted = [0, 1, 2] ∧
        s.sup 2 = Sup.follower ∧ s.on (SUPC.RETURN 2) = false ∧ (5 : Nat) ≠ (7 : Nat)) ∧
    (∃ s ∈ [{ op [(SUP_ARB_STAT.VOTE_OPEN, 1), (SUPC.STATE 0, 2), (SUPC.STATE 1, 3), (SUPC.STATE 2, 3)] with votes := [.checkpoint] }],
      s.on SUP_ARB_STAT.VOTE_OPEN = true ∧ s.votes = [.checkpoint] ∧ (s.sup 0 = Sup.leader ∧ s.sup 1 = Sup.follower ∧
        s.sup 2 = Sup.follower) ∧ s.on (SUPC.RETURN 0) = false ∧ s.mbx = [] ∧ s.calBusy = false ∧ (∀ n : Fin 4, s.rd
        (TRB_CMT_STAT.STATE n) ≠ 2) ∧ (5 : Nat) ≠ (7 : Nat)) ∧
    (∃ s ∈ [{ op [(SUP_ARB_STAT.VOTE_OPEN, 1), (SUPC.STATE 0, 2), (SUPC.STATE 1, 3), (SUPC.STATE 2, 3)] with votes := [.checkpoint] }],
      s.on SUP_ARB_STAT.VOTE_OPEN = true ∧ s.votes = [.checkpoint] ∧ s.counted = [0, 1, 2] ∧ s.frozen = false ∧ s.sup
        0 = Sup.leader ∧ ((5 : Nat) ≠ (7 : Nat) ∧ (7 : Nat) ≠ (9 : Nat) ∧ (5 : Nat) ≠ (9 : Nat))) ∧
    (∃ s ∈ [{ op [(SUP_ARB_STAT.VOTE_OPEN, 1), (SUPC.STATE 0, 2), (SUPC.STATE 1, 3), (SUPC.STATE 2, 5)] with votes := [.checkpoint] }],
      s.on SUP_ARB_STAT.VOTE_OPEN = true ∧ s.votes.head? = some .checkpoint ∧ s.counted = [0, 1] ∧ s.sup 0 =
        Sup.leader ∧ (5 : Nat) ≠ (7 : Nat)) ∧
    (∃ s ∈ [op []],
      s.firmware = true ∧ s.on SUPC.DRAIN = false ∧ s.on SUP_ARB_STAT.VOTE_OPEN = false ∧ s.votes = [] ∧ s.frozen =
        false) ∧
    (∃ s ∈ [{ op [] with votes := [.laser 1] }],
      s.on SUPC.DRAIN = false ∧ s.votes ≠ []) := by
  refine ⟨?_, ?_, ?_, ?_, ?_, ?_, ?_, ?_⟩ <;> decide +kernel

/-- States that meet the hypotheses of SupervisorsFailAndReturn, clause by clause. -/
theorem test_met_SupervisorsFailAndReturn :
    (∃ s ∈ [op [(SUPC.STATE 1, 3)]],
      s.supRuns (1 : Fin 3) = true) ∧
    (∃ s ∈ [op [(SUPC.STATE 0, 2), (SUPC.STATE 1, 3), (SUPC.STATE 2, 3)]],
      s.counted = [0, 1, 2] ∧ s.sup (1 : Fin 3) = Sup.follower ∧ (s.rd (SUPC.HB (1 : Fin 3)) = 0 ∨ 10000000 ≤ s.time +
        1 - s.rd (SUPC.HB (1 : Fin 3))) ∧ s.on (SUPC.RETURN (1 : Fin 3)) = false ∧ s.sup 0 = Sup.leader) ∧
    (∃ s ∈ [op [(SUPC.STATE 0, 2), (SUPC.STATE 1, 3), (SUPC.STATE 2, 3), (SUP_MBX_GEN.GEN, 255)]],
      s.counted = [0, 1, 2] ∧ s.sup 0 = Sup.leader ∧ s.rd (SUPC.HB 0) = 0 ∧ s.on (SUPC.RETURN 0) = false ∧ s.on
        SUP_ARB_STAT.VOTE_OPEN = false ∧ s.mbx = [] ∧ s.calBusy = false ∧ (∀ n : Fin 4, s.rd (TRB_CMT_STAT.STATE n) ≠
        2) ∧ s.sup 1 = Sup.follower) ∧
    (∃ s ∈ [op [(SUPC.STATE 0, 2), (SUPC.STATE 1, 3), (SUPC.STATE 2, 5), (SUPC.TESTING, 3)]],
      s.rd SUPC.TESTING = 3 ∧ s.counted = [0, 1] ∧ s.sup 1 = Sup.follower ∧ s.on (SUPC.RETURN 1) = false ∧ s.votes =
        [] ∧ s.frozen = false) ∧
    (∃ s ∈ [op [(SUPC.STATE 0, 2), (SUPC.STATE 1, 3), (SUPC.STATE 2, 5), (SUPC.TESTING, 3)]],
      s.rd SUPC.TESTING = 3 ∧ s.votes = [] ∧ s.frozen = false) ∧
    (∃ s ∈ [op [(SUPC.STATE 1, 5)]],
      s.sup (1 : Fin 3) = Sup.failed) ∧
    (∃ s ∈ [{ op [(SUPC.STATE 1, 1)] with fw := [some ⟨true, 3, 0⟩, none] }],
      s.sup (1 : Fin 3) = Sup.boot ∧ s.rd (SUPC.IMG (1 : Fin 3)) = 0 ∧ s.slotFor = some (0 : Nat)) ∧
    (∃ s ∈ [{ op [(SUPC.STATE 1, 1), (SUPC.RETURN 1, 1)] with fw := [none, none] }],
      s.sup (1 : Fin 3) = Sup.boot ∧ s.rd (SUPC.IMG (1 : Fin 3)) = 0 ∧ s.slotFor = none ∧ s.on (SUPC.RETURN (1 : Fin
        3)) = true ∧ s.rd (SUPC.FAIL_AT (1 : Fin 3) 1) = 0) ∧
    (∃ s ∈ [op [(SUPC.STATE 1, 1), (SUPC.RETURN 1, 1), (SUPC.IMG 1, 1)]],
      s.sup (1 : Fin 3) = Sup.boot ∧ s.on (SUPC.RETURN (1 : Fin 3)) = true ∧ s.rd (SUPC.IMG (1 : Fin 3)) ≠ 0 ∧ s.rd
        SUP_STAT.LEADER ≠ 3) ∧
    (∃ s ∈ [mkState [(DEV_MODE.MODE, 4), (SUP_STAT.LEADER, 2), (SUPC.DRAIN, 1), (SUPC.STATE 0, 3), (SUPC.STATE 2, 2)]],
      s.on SUPC.DRAIN = true ∧ s.sup 0 = Sup.follower ∧ s.mbx = [] ∧ s.on SUP_ARB_STAT.VOTE_OPEN = false ∧ s.rd
        SUP_STAT.LEADER = (2 : Nat) ∧ (0 < (2 : Nat) ∧ (2 : Nat) < 3)) ∧
    (∃ s ∈ [op [(SUPC.STATE 0, 2), (SUPC.STATE 1, 3)]],
      (s.answers = true ∧ 3 ≤ s.level (0 : Fin 7) ∧ s.on MGT_STAT.PWARN = false) ∧ SUP_CPLX_RST.GO.of
        (0x800000A5#32).toNat = 1 ∧ SUP_CPLX_RST.CODE.of (0x800000A5#32).toNat = 0xA5 ∧ s.mode ≠ Mode.boot ∧ s.rd
        SUPC.CPLX = 0 ∧ s.on SUP_ARB_STAT.VOTE_OPEN = false ∧ s.votes = [] ∧ s.mbx = [] ∧ s.calBusy = false ∧ (∀ n :
        Fin 4, s.rd (TRB_CMT_STAT.STATE n) ≠ 2)) ∧
    (∃ s ∈ [op [(SUPC.CPLX, 1), (SUP_STAT.FROZEN, 1), (IRQ_STAT.FAULT, 1)]],
      s.rd SUPC.CPLX = 1) ∧
    (∃ s ∈ [op [(SUPC.CPLX, 1), (DEV_MODE.SUP_RESTART, 1)]],
      s.rd SUPC.CPLX = 1 ∧ s.votes = []) ∧
    (∃ s ∈ [op []],
      s.rd SUPC.CPLX = 0 ∧ s.answers = true ∧ s.votes = [] ∧ s.frozen = false ∧ s.calBusy = false) ∧
    (∃ s ∈ [op []],
      s.rd SUPC.CPLX = 0) ∧
    (∃ s ∈ [op [(SUPC.CPLX, 2), (DEV_MODE.SUP_RESTART, 1), (SUPC.STATE 0, 1), (SUPC.STATE 1, 1), (SUPC.STATE 2, 1),
      (SUPC.IMG 0, 1), (SUPC.IMG 1, 1), (SUPC.IMG 2, 1)]],
      s.rd SUPC.CPLX = 2 ∧ (∀ i : Fin 3, s.sup i = Sup.boot ∧ s.rd (SUPC.IMG i) = 1)) := by
  refine ⟨?_, ?_, ?_, ?_, ?_, ?_, ?_, ?_, ?_, ?_, ?_, ?_, ?_, ?_, ?_, ?_⟩ <;> decide +kernel

/-- States that meet the hypotheses of MailboxCommandsAreServed, clause by clause. -/
theorem test_met_MailboxCommandsAreServed :
    (∃ s ∈ [op [(MGT_WIN.PRIV 2, 1), (SUP_MBX_CMD_PI.PI, 62), (SUP_MBX_CMD_CI.CI, 60)]],
      (s.answers = true ∧ 1 ≤ s.level (2 : Fin 7) ∧ s.on MGT_STAT.PWARN = false) ∧ (SUP_MBX_CMD_PI.PI.of (1#32).toNat
        + 64 - s.rd SUP_MBX_CMD_PI.PI) % 64 ≤ 63 - (s.rd SUP_MBX_CMD_PI.PI + 64 - s.rd SUP_MBX_CMD_CI.CI) % 64) ∧
    (∃ s ∈ [op [(MGT_WIN.PRIV 2, 1), (SUP_MBX_CMD_PI.PI, 62), (SUP_MBX_CMD_CI.CI, 60)]],
      (s.answers = true ∧ 1 ≤ s.level (2 : Fin 7) ∧ s.on MGT_STAT.PWARN = false) ∧ 63 - (s.rd SUP_MBX_CMD_PI.PI + 64 -
        s.rd SUP_MBX_CMD_CI.CI) % 64 < (SUP_MBX_CMD_PI.PI.of (60#32).toNat + 64 - s.rd SUP_MBX_CMD_PI.PI) % 64) ∧
    (∃ s ∈ [op []],
      (s.answers = true ∧ 1 ≤ s.level (0 : Fin 7) ∧ s.on MGT_STAT.PWARN = false)) ∧
    (∃ s ∈ [op [(SUP_MBX_STAT.SERVING, 1), (SUP_MBX_GEN.GEN, 5), (SUP_MBX_CMD_CI.CI, 1), (SUP_MBX_CMD_PI.PI, 2),
      (tableWord 0x21044, 77), (tableWord 0x21040, 0x01090502)]],
      s.mbxOpen = true ∧ s.rd SUP_MBX_CMD_CI.CI ≠ s.rd SUP_MBX_CMD_PI.PI ∧ (0x21040 : Nat) = 0x21000 + 64 * s.rd
        SUP_MBX_CMD_CI.CI ∧ (0x01090502 : Nat) = s.rd (tableWord (0x21040 : Nat)) ∧ s.mbxCheck (s.rd (MBXC.WIN (s.rd
        SUP_MBX_CMD_CI.CI))) (bits (0x01090502 : Nat) 24 8) (bits (0x01090502 : Nat) 16 8) (bits (0x01090502 : Nat) 8
        8) (bits (0x01090502 : Nat) 0 4) = none ∧ bits (0x01090502 : Nat) 24 8 ≠ 0x11) ∧
    (∃ s ∈ [op [(SUP_MBX_STAT.SERVING, 1), (SUP_MBX_GEN.GEN, 5), (SUP_MBX_CMD_CI.CI, 1), (SUP_MBX_CMD_PI.PI, 2),
      (tableWord 0x21044, 77), (tableWord 0x21040, 0x01090402)]],
      s.mbxOpen = true ∧ s.rd SUP_MBX_CMD_CI.CI ≠ s.rd SUP_MBX_CMD_PI.PI ∧ (0x21040 : Nat) = 0x21000 + 64 * s.rd
        SUP_MBX_CMD_CI.CI ∧ (0x01090402 : Nat) = s.rd (tableWord (0x21040 : Nat)) ∧ bits (0x01090402 : Nat) 8 8 ≠ s.rd
        SUP_MBX_GEN.GEN) ∧
    (∃ s ∈ [{ op [(SUP_MBX_GEN.GEN, 5)] with mbx := [⟨9, 5, 1, [77, 78], 0⟩] }], ∃ q ∈ [(⟨9, 5, 1, [77, 78], 0⟩ : MbxCmd)],
      s.mbxCmd (9 : Fin 256) = some q ∧ (q.op = 1 ∧ q.stage = 0) ∧ q.words.length ≤ 15 ∧ (5 : Fin 256).val = s.rd
        SUP_MBX_GEN.GEN) ∧
    (∃ s ∈ [{ op [(SUP_MBX_GEN.GEN, 5)] with mbx := [⟨9, 5, 1, [77], 0⟩] }], ∃ q ∈ [(⟨9, 5, 1, [77], 0⟩ : MbxCmd)],
      s.mbxCmd (9 : Fin 256) = some q ∧ (q.op = 1 ∧ q.stage = 0) ∧ (4 : Fin 256).val ≠ s.rd SUP_MBX_GEN.GEN) ∧
    (∃ s ∈ [{ op [(SUP_MBX_GEN.GEN, 5)] with mbx := [⟨9, 5, 2, [], 0⟩] }], ∃ q ∈ [(⟨9, 5, 2, [], 0⟩ : MbxCmd)],
      s.mbxCmd (9 : Fin 256) = some q ∧ (q.op = 2 ∧ q.stage = 0) ∧ (5 : Fin 256).val = s.rd SUP_MBX_GEN.GEN) ∧
    (∃ s ∈ [{ op [(SUP_MBX_GEN.GEN, 5), (KEY_STAT.ENG_FNC, 4)] with mbx := [⟨9, 5, 3, [0x05000002], 0⟩] }], ∃ q ∈ [(⟨9, 5, 3, [0x05000002], 0⟩ : MbxCmd)],
      s.mbxCmd (9 : Fin 256) = some q ∧ (q.op = 3 ∧ q.stage = 0) ∧ s.unitIsFenced (fenceArgs q).2.1 (fenceArgs q).1
        (fenceArgs q).2.2 = true ∧ s.frozen = false) ∧
    (∃ s ∈ [{ op [(SUP_MBX_GEN.GEN, 5)] with mbx := [⟨9, 5, 3, [0x05000002], 0⟩] }], ∃ q ∈ [(⟨9, 5, 3, [0x05000002], 0⟩ : MbxCmd)],
      s.mbxCmd (9 : Fin 256) = some q ∧ (q.op = 3 ∧ q.stage = 0) ∧ s.unitIsFenced (fenceArgs q).2.1 (fenceArgs q).1
        (fenceArgs q).2.2 = false ∧ (5 : Fin 256).val = s.rd SUP_MBX_GEN.GEN) ∧
    (∃ s ∈ [{ op [(SUP_MBX_GEN.GEN, 5), (KEY_STAT.ENG_FNC, 4), (SUP_STAT.FROZEN, 1)] with mbx := [⟨9, 5, 3, [0x05000002], 0⟩] }], ∃ q ∈ [(⟨9, 5, 3, [0x05000002], 0⟩ : MbxCmd)],
      s.mbxCmd (9 : Fin 256) = some q ∧ (q.op = 3 ∧ q.stage = 0) ∧ s.unitIsFenced (fenceArgs q).2.1 (fenceArgs q).1
        (fenceArgs q).2.2 = true ∧ s.frozen = true ∧ (5 : Fin 256).val = s.rd SUP_MBX_GEN.GEN) ∧
    (∃ s ∈ [{ op [(KEY_STAT.ENG_FNC, 4), (SUP_MBX_GEN.GEN, 5)] with mbx := [⟨9, 5, 3, [0x05000002], 2⟩] }], ∃ q ∈ [(⟨9, 5, 3, [0x05000002], 2⟩ : MbxCmd)],
      s.mbxCmd (9 : Fin 256) = some q ∧ (q.op = 3 ∧ q.stage = 2) ∧ fenceArgs q = (5, (0 : Nat), (2 : Nat)) ∧ ((0 :
        Nat) < 4 ∧ (2 : Nat) < 4) ∧ (5 : Fin 256).val = s.rd SUP_MBX_GEN.GEN ∧ s.mode ≠ Mode.degraded) ∧
    (∃ s ∈ [{ op [(KEY_STAT.ENG_FNC, 4), (SUP_MBX_GEN.GEN, 5)] with mbx := [⟨9, 5, 3, [0x05000002], 2⟩] }], ∃ q ∈ [(⟨9, 5, 3, [0x05000002], 2⟩ : MbxCmd)],
      s.mbxCmd (9 : Fin 256) = some q ∧ (q.op = 3 ∧ q.stage = 2) ∧ fenceArgs q = (5, (0 : Nat), (2 : Nat)) ∧ ((0 :
        Nat) < 4 ∧ (2 : Nat) < 4) ∧ (5 : Fin 256).val = s.rd SUP_MBX_GEN.GEN) ∧
    (∃ s ∈ [{ op [(SUP_MBX_GEN.GEN, 5), (SUPC.STATE 1, 6)] with mbx := [⟨9, 5, 4, [1], 0⟩] }], ∃ q ∈ [(⟨9, 5, 4, [1], 0⟩ : MbxCmd)],
      s.mbxCmd (9 : Fin 256) = some q ∧ (q.op = 4 ∧ q.stage = 0) ∧ q.words.getD 0 0 = (1 : Fin 3).val ∧ s.sup (1 : Fin
        3) = Sup.held ∧ (5 : Fin 256).val = s.rd SUP_MBX_GEN.GEN) ∧
    (∃ s ∈ [{ op [(SUP_MBX_GEN.GEN, 5), (MGT_STAT.LINK_UP, 1), (MGT_STAT.BME, 1)] with mbx := [⟨9, 5, 5, [1, 2, 4096, 0, 3], 0⟩] }], ∃ q ∈ [(⟨9, 5, 5, [1, 2, 4096, 0, 3], 0⟩ : MbxCmd)],
      s.mbxCmd (9 : Fin 256) = some q ∧ (q.op = 5 ∧ q.stage = 0) ∧ (q.words.getD 0 0 ≤ 2 ∧ q.words.getD 1 0 ≤ 1023 ∧ 1
        ≤ q.words.getD 4 0 ∧ q.words.getD 4 0 ≤ 1024) ∧ s.portSends = true ∧ (5 : Fin 256).val = s.rd SUP_MBX_GEN.GEN) ∧
    (∃ s ∈ [{ op [(SUP_MBX_GEN.GEN, 5)] with mbx := [⟨9, 5, 0x10, [], 0⟩] }], ∃ q ∈ [(⟨9, 5, 0x10, [], 0⟩ : MbxCmd)],
      s.mbxCmd (9 : Fin 256) = some q ∧ (q.op = 0x10 ∧ q.stage = 0) ∧ (5 : Fin 256).val = s.rd SUP_MBX_GEN.GEN) ∧
    (∃ s ∈ [{ op [(SUP_MBX_GEN.GEN, 5), (MGT_STAT.LINK_UP, 1), (MGT_STAT.BME, 1)] with mbx := [⟨9, 5, 0x11, [1, 4096, 0, 64], 0⟩] }], ∃ q ∈ [(⟨9, 5, 0x11, [1, 4096, 0, 64], 0⟩ : MbxCmd)],
      s.mbxCmd (9 : Fin 256) = some q ∧ (q.op = 0x11 ∧ q.stage = 0) ∧ (q.words.getD 0 0 ≤ 1 ∧ 1 ≤ q.words.getD 3 0 ∧
        q.words.getD 3 0 ≤ 4194304) ∧ (q.words.getD 0 0 ≠ s.rd SUP_FW_STAT.RUN_SLOT ∧ q.words.getD 0 0 ≠ s.rd
        SUP_FW_STAT.NEXT_SLOT) ∧ s.portSends = true ∧ s.on DMAC.SUP_ERR = false ∧ (5 : Fin 256).val = s.rd
        SUP_MBX_GEN.GEN) ∧
    (∃ s ∈ [{ op [(SUP_MBX_GEN.GEN, 5)] with mbx := [⟨9, 5, 0x11, [0, 4096, 0, 64], 0⟩] }], ∃ q ∈ [(⟨9, 5, 0x11, [0, 4096, 0, 64], 0⟩ : MbxCmd)],
      s.mbxCmd (9 : Fin 256) = some q ∧ (q.op = 0x11 ∧ q.stage = 0) ∧ (q.words.getD 0 0 ≤ 1 ∧ 1 ≤ q.words.getD 3 0 ∧
        q.words.getD 3 0 ≤ 4194304) ∧ (q.words.getD 0 0 = s.rd SUP_FW_STAT.RUN_SLOT ∨ q.words.getD 0 0 = s.rd
        SUP_FW_STAT.NEXT_SLOT) ∧ (5 : Fin 256).val = s.rd SUP_MBX_GEN.GEN) ∧
    (∃ s ∈ [{ op [(SUP_MBX_GEN.GEN, 5)] with mbx := [⟨9, 5, 0x12, [1], 0⟩], fw := [none, some ⟨true, 7, 2⟩] }], ∃ q ∈ [(⟨9, 5, 0x12, [1], 0⟩ : MbxCmd)],
      s.mbxCmd (9 : Fin 256) = some q ∧ (q.op = 0x12 ∧ q.stage = 0) ∧ q.words.getD 0 0 ≤ 1 ∧ s.slotValid (q.words.getD
        0 0) = true ∧ s.fwSlot (q.words.getD 0 0) = some (⟨true, 7, 2⟩ : FwSlot) ∧ (5 : Fin 256).val = s.rd
        SUP_MBX_GEN.GEN) ∧
    (∃ s ∈ [{ op [(SUP_MBX_GEN.GEN, 5)] with mbx := [⟨9, 5, 0x12, [1], 0⟩] }], ∃ q ∈ [(⟨9, 5, 0x12, [1], 0⟩ : MbxCmd)],
      s.mbxCmd (9 : Fin 256) = some q ∧ (q.op = 0x12 ∧ q.stage = 0) ∧ q.words.getD 0 0 ≤ 1 ∧ s.slotValid (q.words.getD
        0 0) = false ∧ (5 : Fin 256).val = s.rd SUP_MBX_GEN.GEN) ∧
    (∃ s ∈ [{ op [(SUP_MBX_GEN.GEN, 5), (SUP_FW_STAT.S1_VALID, 1)] with mbx := [⟨9, 5, 0x13, [1], 0⟩] }], ∃ q ∈ [(⟨9, 5, 0x13, [1], 0⟩ : MbxCmd)],
      s.mbxCmd (9 : Fin 256) = some q ∧ (q.op = 0x13 ∧ q.stage = 0) ∧ s.on (verified (q.words.getD 0 0 % 2)) = true ∧
        s.frozen = false) ∧
    (∃ s ∈ [{ op [(SUP_MBX_GEN.GEN, 5)] with mbx := [⟨9, 5, 0x13, [1], 0⟩] }], ∃ q ∈ [(⟨9, 5, 0x13, [1], 0⟩ : MbxCmd)],
      s.mbxCmd (9 : Fin 256) = some q ∧ (q.op = 0x13 ∧ q.stage = 0) ∧ s.on (verified (q.words.getD 0 0 % 2)) = false ∧
        (5 : Fin 256).val = s.rd SUP_MBX_GEN.GEN) := by
  refine ⟨?_, ?_, ?_, ?_, ?_, ?_, ?_, ?_, ?_, ?_, ?_, ?_, ?_, ?_, ?_, ?_, ?_, ?_, ?_, ?_, ?_, ?_⟩ <;> decide +kernel

/-- States that meet the hypotheses of InterruptWordsAndDelivery, clause by clause. -/
theorem test_met_InterruptWordsAndDelivery :
    (∃ s ∈ [op []],
      (s.answers = true ∧ 2 ≤ s.level (0 : Fin 7) ∧ s.on MGT_STAT.PWARN = false)) ∧
    (∃ s ∈ [op [(IRQ_PEND 544, 1)]],
      (s.answers = true ∧ 2 ≤ s.level (0 : Fin 7) ∧ s.on MGT_STAT.PWARN = false)) ∧
    (∃ s ∈ [op []],
      (s.answers = true ∧ 2 ≤ s.level (0 : Fin 7) ∧ s.on MGT_STAT.PWARN = false)) ∧
    (∃ s ∈ [op []],
      (s.answers = true ∧ 2 ≤ s.level (0 : Fin 7) ∧ s.on MGT_STAT.PWARN = false)) ∧
    (∃ s ∈ [op [(IRQ_CTRL.EN, 1), (IRQ_PEND 33, 1), (IRQ_CFG.HROUTE 33, 1), (IRQ_MASK 33, 0), (IRQ_CFG.HPRIO 33, 5),
      (IRQ_PEND 17, 1), (IRQ_CFG.HROUTE 17, 1), (IRQ_MASK 17, 0), (IRQ_CFG.HPRIO 17, 4)]], ∃ target ∈ [(0 : Fin 4)],
      s.takesIrq target = true ∧ s.on IRQ_STAT.FAULT = false ∧ s.rd (IRQC.SEL target) = 0 ∧ s.running target < (6 :
        Nat) ∧ (s.eligLevels target).contains ((6 : Nat) - 1) = true ∧ (∀ l ∈ s.eligLevels target, l < (6 : Nat))) ∧
    (∃ s ∈ [op [(IRQ_CTRL.EN, 1), (IRQ_HSTK.LEVELS, 0x20), (IRQ_PEND 17, 1), (IRQ_CFG.HROUTE 17, 1), (IRQ_MASK 17, 0),
      (IRQ_CFG.HPRIO 17, 4)]], ∃ target ∈ [(0 : Fin 4)],
      (∀ l ∈ s.eligLevels target, l < s.running target)) ∧
    (∃ s ∈ [op [(IRQC.SEL 0, 6), (MGTC.MSIX_EN, 1), (MGTC.FMASK, 0), (MSIX.MASK 5, 0), (MGT_STAT.LINK_UP, 1),
      (MGT_STAT.BME, 1), (IRQ_HSTK.LEVELS, 8)]],
      s.rd (IRQC.SEL 0) = (5 : Nat) + 1 ∧ (5 : Nat) < 16 ∧ s.on IRQ_STAT.FAULT = false ∧ s.on MGTC.MSIX_EN = true ∧
        s.on MGTC.FMASK = false ∧ s.on (MSIX.MASK (5 : Nat)) = false ∧ s.portSends = true) ∧
    (∃ s ∈ [op [(IRQC.SEL 0, 6), (MGTC.MSIX_EN, 1), (MGTC.FMASK, 0), (MSIX.MASK 5, 1), (MGT_STAT.LINK_UP, 1),
      (MGT_STAT.BME, 1), (IRQ_HSTK.LEVELS, 8)]],
      s.rd (IRQC.SEL 0) = (5 : Nat) + 1 ∧ (5 : Nat) < 16 ∧ s.on IRQ_STAT.FAULT = false ∧ s.on MGTC.MSIX_EN = true ∧
        (s.on MGTC.FMASK = true ∨ s.on (MSIX.MASK (5 : Nat)) = true)) ∧
    (∃ s ∈ [op [(IRQC.SEL 2, 6), (SUPC.STATE 1, 3)]],
      (2 : Fin 4) ≠ 0 ∧ s.rd (IRQC.SEL (2 : Fin 4)) = (5 : Nat) + 1 ∧ (5 : Nat) < 16 ∧ s.on IRQ_STAT.FAULT = false ∧
        s.takesIrq (2 : Fin 4) = true) ∧
    (∃ s ∈ [op [(IRQ_HSTK.LEVELS, 0x28)]],
      (s.answers = true ∧ 2 ≤ s.level (0 : Fin 7) ∧ s.on MGT_STAT.PWARN = false) ∧ s.stack 0 ≠ 0) ∧
    (∃ s ∈ [op []],
      (s.answers = true ∧ 2 ≤ s.level (0 : Fin 7) ∧ s.on MGT_STAT.PWARN = false) ∧ s.stack 0 = 0) := by
  refine ⟨?_, ?_, ?_, ?_, ?_, ?_, ?_, ?_, ?_, ?_, ?_⟩ <;> decide +kernel

/-- States that meet the hypotheses of PerformanceCounters, clause by clause. -/
theorem test_met_PerformanceCounters :
    (∃ s ∈ [op [(PMC_CH_SEL.COUNTER 1, 70)]],
      (s.answers = true ∧ 3 ≤ s.level (0 : Fin 7) ∧ s.on MGT_STAT.PWARN = false) ∧ s.rd (PMC_CH_SEL.COUNTER (1 : Fin
        5)) = (70 : Nat) ∧ (70 : Nat) < counters (1 : Fin 5) ∧ fixedCounter (1 : Fin 5) (70 : Nat) = false ∧
        eventAllowed (1 : Fin 5) (70 : Nat) ((PMC_CH_CFG.EVENT (1 : Fin 5) (70 : Nat)).of (0x3#32).toNat) = true ∧
        (PMC_CH_CFG.EVENT (1 : Fin 5) (70 : Nat)).of (0x3#32).toNat ≠ 0) ∧
    (∃ s ∈ [op [(PMC_CH_SEL.COUNTER 1, 7)]],
      (s.answers = true ∧ 3 ≤ s.level (0 : Fin 7) ∧ s.on MGT_STAT.PWARN = false) ∧ s.rd (PMC_CH_SEL.COUNTER (1 : Fin
        5)) = (7 : Nat) ∧ (7 : Nat) < counters (1 : Fin 5) ∧ fixedCounter (1 : Fin 5) (7 : Nat) = true) ∧
    (∃ s ∈ [op [(PMC_CH_SEL.COUNTER 1, 70), (PMC_CH_VAL_LO.LO 1, 77)]],
      (s.answers = true ∧ 3 ≤ s.level (0 : Fin 7) ∧ s.on MGT_STAT.PWARN = false) ∧ s.rd (PMC_CH_SEL.COUNTER (1 : Fin
        5)) = (70 : Nat) ∧ (70 : Nat) < counters (1 : Fin 5) ∧ fixedCounter (1 : Fin 5) (70 : Nat) = false) ∧
    (∃ s ∈ [op [(PMC.CNT 1 70, 77), (PMC.STICKY 1 70, 1)]],
      (s.answers = true ∧ 3 ≤ s.level (0 : Fin 7) ∧ s.on MGT_STAT.PWARN = false) ∧ PMC_SNAP_REQ.SCOPE.of (2#32).toNat
        = 2 ^ (1 : Fin 5).val ∧ bit (s.rd PMC_SNAP_STAT.BUSY) (1 : Fin 5) = 0 ∧ (70 : Nat) < counters (1 : Fin 5)) ∧
    (∃ s ∈ [op [(PMC_SNAP_STAT.BUSY, 2)]],
      (s.answers = true ∧ 3 ≤ s.level (0 : Fin 7) ∧ s.on MGT_STAT.PWARN = false) ∧ PMC_SNAP_REQ.SCOPE.of (2#32).toNat
        = 2 ^ (1 : Fin 5).val ∧ bit (s.rd PMC_SNAP_STAT.BUSY) (1 : Fin 5) = 1) ∧
    (∃ s ∈ [{ op [(PMC_SNAP_STAT.BUSY, 2)] with snaps := [(9, [(0x270, 77)])] }],
      bit (s.rd PMC_SNAP_STAT.BUSY) (1 : Fin 5) = 1 ∧ keyed (8 + (1 : Fin 5).val) s.snaps = some [(0x40 + 8 * (70 :
        Nat), (77 : Nat))] ∧ (70 : Nat) < counters (1 : Fin 5)) := by
  refine ⟨?_, ?_, ?_, ?_, ?_, ?_⟩ <;> decide +kernel

/-- States that meet the hypotheses of MemoryLinesAreCorrected, clause by clause. -/
theorem test_met_MemoryLinesAreCorrected :
    (∃ s ∈ [op []],
      s.powered = true ∧ ((s.getLine (1 : Fin 68) (5 : Fin 40960)).flip (⟨0, 0, 0⟩ : SramLine)).verdict = .clean) ∧
    (∃ s ∈ [op []],
      s.powered = true ∧ s.copying (1 : Fin 68) = false ∧ ((s.getLine (1 : Fin 68) (5 : Fin 40960)).flip (⟨4, 0, 0⟩ :
        SramLine)).verdict = .fixed (0 : Nat) (0 : Nat) (1 : Nat) (⟨0, 0, 0⟩ : SramLine) ∧ (false : Bool) = false ∧
        (s.rd MEM_LOG_PTR.PTR = 0 ∧ s.on MEM_LOG_PTR.WRAP = false)) ∧
    (∃ s ∈ [op []],
      s.powered = true ∧ ((s.getLine (1 : Fin 68) (5 : Fin 40960)).flip (⟨4, 0, 0⟩ : SramLine)).verdict = .fixed (0 :
        Nat) (0 : Nat) (1 : Nat) (⟨0, 0, 0⟩ : SramLine) ∧ (true : Bool) = true ∧ (s.rd MEM_LOG_PTR.PTR = 0 ∧ s.on
        MEM_LOG_PTR.WRAP = false)) ∧
    (∃ s ∈ [op []],
      s.powered = true ∧ ((s.getLine (1 : Fin 68) (5 : Fin 40960)).flip (⟨1028, 0, 0⟩ : SramLine)).verdict = .bad (2 :
        Nat) (0 : Nat) ∧ (.line : Holds) = .line ∧ (s.rd MEM_LOG_PTR.PTR = 0 ∧ s.on MEM_LOG_PTR.WRAP = false)) ∧
    (∃ s ∈ [op []], ∃ holds ∈ [(.tokens [(true, 7)] : Holds)],
      s.powered = true ∧ ((s.getLine (1 : Fin 68) (5 : Fin 40960)).flip (⟨1028, 0, 0⟩ : SramLine)).verdict = .bad (2 :
        Nat) (0 : Nat) ∧ s.bankChannel (1 : Fin 68) = some (0 : Fin 4).val ∧ holds = .tokens [(true, (7 : Fin 1024))]) ∧
    (∃ s ∈ [op [(SUPC.STATE 0, 2), (SUPC.STATE 1, 3), (SUPC.STATE 2, 3)]],
      s.powered = true ∧ ((s.getLine (57 : Fin 68) (5 : Fin 40960)).flip (⟨1028, 0, 0⟩ : SramLine)).verdict = .bad (2
        : Nat) (0 : Nat) ∧ s.bankControl (57 : Fin 68) = true ∧ (.supervisor 1 : Holds) = .supervisor (1 : Fin 3) ∧
        s.counted = [0, 1, 2] ∧ s.sup 0 = Sup.leader ∧ s.sup (1 : Fin 3) = Sup.follower ∧ s.on (SUPC.RETURN (1 : Fin
        3)) = false) ∧
    (∃ s ∈ [op []],
      s.powered = true ∧ s.copying (1 : Fin 68) = false) ∧
    (∃ s ∈ [op [(MEM_RET_STAT.STATE, 1), (MEMC.RBANK, 5), (MEMC.RSPARE, 2), (MEM_MAP.PHYS 5, 5)]],
      s.powered = true ∧ s.copying (5 : Fin 68) = true ∧ s.physOf (5 : Fin 68) ≠ 64 + s.rd MEMC.RSPARE) ∧
    (∃ s ∈ [op []],
      s.powered = true ∧ s.copying (1 : Fin 68) = false ∧ (1#64) ≠ BitVec.allOnes 64 ∧ ((s.getLine (1 : Fin 68) (5 :
        Fin 40960)).flip (⟨0, 0, 0⟩ : SramLine)).verdict = .clean) := by
  refine ⟨?_, ?_, ?_, ?_, ?_, ?_, ?_, ?_, ?_⟩ <;> decide +kernel

/-- States that meet the hypotheses of ScrubsAndRetirements, clause by clause. -/
theorem test_met_ScrubsAndRetirements :
    (∃ s ∈ [op [(MEM_SCRUB_START.MLA, 0x1C0000), (MEM_SCRUB_END.MLA, 0x299FFF)]],
      (s.answers = true ∧ 3 ≤ s.level (0 : Fin 7) ∧ s.on MGT_STAT.PWARN = false) ∧ (MEM_SCRUB_CTRL.GO.of
        (0x80000010#32).toNat = 1 ∧ MEM_SCRUB_CTRL.RESUME.of (0x80000010#32).toNat = 0 ∧ MEM_SCRUB_CTRL.ABORT.of
        (0x80000010#32).toNat = 0 ∧ MEM_SCRUB_CTRL.PAUSE.of (0x80000010#32).toNat = 0) ∧ (1 ≤ MEM_SCRUB_CTRL.RATE.of
        (0x80000010#32).toNat ∧ MEM_SCRUB_CTRL.RATE.of (0x80000010#32).toNat ≤ 64) ∧ s.scrubBusy = false ∧
        s.scrubRange = true) ∧
    (∃ s ∈ [op [(MEM_SCRUB_STAT.STATE, 1)]],
      (s.answers = true ∧ 3 ≤ s.level (0 : Fin 7) ∧ s.on MGT_STAT.PWARN = false) ∧ (MEM_SCRUB_CTRL.GO.of
        (0x80000010#32).toNat = 1 ∧ MEM_SCRUB_CTRL.RESUME.of (0x80000010#32).toNat = 0 ∧ MEM_SCRUB_CTRL.ABORT.of
        (0x80000010#32).toNat = 0 ∧ MEM_SCRUB_CTRL.PAUSE.of (0x80000010#32).toNat = 0) ∧ (1 ≤ MEM_SCRUB_CTRL.RATE.of
        (0x80000010#32).toNat ∧ MEM_SCRUB_CTRL.RATE.of (0x80000010#32).toNat ≤ 64) ∧ s.scrubBusy = true) ∧
    (∃ s ∈ [op [(MEM_SCRUB_STAT.STATE, 1)]],
      (s.answers = true ∧ 3 ≤ s.level (0 : Fin 7) ∧ s.on MGT_STAT.PWARN = false) ∧ (MEM_SCRUB_CTRL.GO.of
        (0x10000010#32).toNat = 0 ∧ MEM_SCRUB_CTRL.RESUME.of (0x10000010#32).toNat = 0 ∧ MEM_SCRUB_CTRL.ABORT.of
        (0x10000010#32).toNat = 0 ∧ MEM_SCRUB_CTRL.PAUSE.of (0x10000010#32).toNat = 1) ∧ (1 ≤ MEM_SCRUB_CTRL.RATE.of
        (0x10000010#32).toNat ∧ MEM_SCRUB_CTRL.RATE.of (0x10000010#32).toNat ≤ 64) ∧ s.rd MEM_SCRUB_STAT.STATE = 1) ∧
    (∃ s ∈ [op [(MEM_SCRUB_STAT.STATE, 2), (MEM_SCRUB_STAT.PAUSE, 2)]],
      (s.answers = true ∧ 3 ≤ s.level (0 : Fin 7) ∧ s.on MGT_STAT.PWARN = false) ∧ (MEM_SCRUB_CTRL.GO.of
        (0x40000010#32).toNat = 0 ∧ MEM_SCRUB_CTRL.RESUME.of (0x40000010#32).toNat = 1 ∧ MEM_SCRUB_CTRL.ABORT.of
        (0x40000010#32).toNat = 0 ∧ MEM_SCRUB_CTRL.PAUSE.of (0x40000010#32).toNat = 0) ∧ (1 ≤ MEM_SCRUB_CTRL.RATE.of
        (0x40000010#32).toNat ∧ MEM_SCRUB_CTRL.RATE.of (0x40000010#32).toNat ≤ 64) ∧ s.rd MEM_SCRUB_STAT.STATE = 2 ∧
        s.rd MEM_SCRUB_STAT.PAUSE = 2) ∧
    (∃ s ∈ [op [(MEM_SCRUB_STAT.STATE, 1), (MEMC.LINES, 5), (MEMC.CORR, 2)]],
      (s.answers = true ∧ 3 ≤ s.level (0 : Fin 7) ∧ s.on MGT_STAT.PWARN = false) ∧ (MEM_SCRUB_CTRL.GO.of
        (0x20000010#32).toNat = 0 ∧ MEM_SCRUB_CTRL.RESUME.of (0x20000010#32).toNat = 0 ∧ MEM_SCRUB_CTRL.ABORT.of
        (0x20000010#32).toNat = 1 ∧ MEM_SCRUB_CTRL.PAUSE.of (0x20000010#32).toNat = 0) ∧ (1 ≤ MEM_SCRUB_CTRL.RATE.of
        (0x20000010#32).toNat ∧ MEM_SCRUB_CTRL.RATE.of (0x20000010#32).toNat ≤ 64) ∧ s.scrubBusy = true) ∧
    (∃ s ∈ [op [(MEM_SCRUB_STAT.STATE, 1), (MEM_SCRUB_NEXT.MLA, 0x1C0007), (MEMC.END, 0x299FFF)]],
      s.rd MEM_SCRUB_STAT.STATE = 1 ∧ (0x1C0007 : Nat) = s.scrubNext 8 (s.rd MEM_SCRUB_NEXT.MLA) ∧ (0x1C0007 : Nat) <
        s.rd MEMC.END ∧ s.copying ((0x1C0007 : Nat) / 65536) = false ∧ ((s.getLine ((0x1C0007 : Nat) / 65536)
        ((0x1C0007 : Nat) % 65536)).flip (⟨0, 0, 0⟩ : SramLine)).verdict = .clean ∧ s.scrubNext 8 ((0x1C0007 : Nat) +
        1) ≤ s.rd MEMC.END) ∧
    (∃ s ∈ [op [(MEM_SCRUB_STAT.STATE, 1), (MEM_SCRUB_NEXT.MLA, 0x50007), (MEMC.END, 0x299FFF), (MEM_RET_STAT.STATE,
      1), (MEMC.RBANK, 5)]],
      s.rd MEM_SCRUB_STAT.STATE = 1 ∧ (0x50007 : Nat) = s.scrubNext 8 (s.rd MEM_SCRUB_NEXT.MLA) ∧ (0x50007 : Nat) ≤
        s.rd MEMC.END ∧ s.copying ((0x50007 : Nat) / 65536) = true) ∧
    (∃ s ∈ [op [(MEM_SCRUB_STAT.STATE, 1), (MEM_SCRUB_NEXT.MLA, 8), (MEMC.END, 7)]],
      s.rd MEM_SCRUB_STAT.STATE = 1 ∧ s.rd MEMC.END < s.scrubNext 8 (s.rd MEM_SCRUB_NEXT.MLA)) ∧
    (∃ s ∈ [op []],
      (s.answers = true ∧ 3 ≤ s.level (0 : Fin 7) ∧ s.on MGT_STAT.PWARN = false) ∧ (MEM_RET_CTRL.GO.of
        (0x80000502#32).toNat = 1 ∧ MEM_RET_CTRL.BANK.of (0x80000502#32).toNat = (5 : Fin 64).val ∧
        MEM_RET_CTRL.SPARE.of (0x80000502#32).toNat = (2 : Fin 4).val) ∧ s.retiring = false ∧ s.rd (MEM_SPARE.STATE (2
        : Fin 4)) = 0) ∧
    (∃ s ∈ [op [(MEM_SPARE.STATE 2, 2)]],
      (s.answers = true ∧ 3 ≤ s.level (0 : Fin 7) ∧ s.on MGT_STAT.PWARN = false) ∧ (MEM_RET_CTRL.GO.of
        (0x80000502#32).toNat = 1 ∧ MEM_RET_CTRL.BANK.of (0x80000502#32).toNat = (5 : Fin 64).val ∧
        MEM_RET_CTRL.SPARE.of (0x80000502#32).toNat = (2 : Fin 4).val) ∧ s.retiring = false ∧ s.rd (MEM_SPARE.STATE (2
        : Fin 4)) ≠ 0) ∧
    (∃ s ∈ [op [(MEM_RET_STAT.STATE, 1), (MEMC.RBANK, 5), (MEMC.RSPARE, 2), (MEM_RET_STAT.NEXT, 7), (MEM_MAP.PHYS 5,
      5)]],
      s.rd MEM_RET_STAT.STATE = 1 ∧ (s.rd MEMC.RBANK = (5 : Nat) ∧ s.rd MEM_RET_STAT.NEXT = (7 : Nat) ∧ s.rd
        MEMC.RSPARE = (2 : Nat)) ∧ ((5 : Nat) < 64 ∧ (7 : Nat) + 1 < 40960 ∧ (2 : Nat) < 4) ∧ s.physOf (5 : Nat) ≠ 64
        + (2 : Nat) ∧ ((s.getLine (5 : Nat) (7 : Nat)).flip (⟨0, 0, 0⟩ : SramLine)).verdict = .clean) ∧
    (∃ s ∈ [op [(MEM_RET_STAT.STATE, 1), (MEMC.RBANK, 5), (MEMC.RSPARE, 2), (MEM_RET_STAT.NEXT, 7), (MEM_MAP.PHYS 5,
      5)]],
      s.rd MEM_RET_STAT.STATE = 1 ∧ (s.rd MEMC.RBANK = (5 : Nat) ∧ s.rd MEM_RET_STAT.NEXT = (7 : Nat) ∧ s.rd
        MEMC.RSPARE = (2 : Nat)) ∧ ((5 : Nat) < 64 ∧ (7 : Nat) + 1 < 40960 ∧ (2 : Nat) < 4) ∧ s.physOf (5 : Nat) ≠ 64
        + (2 : Nat) ∧ ((s.getLine (5 : Nat) (7 : Nat)).flip (⟨1028, 0, 0⟩ : SramLine)).verdict = .bad (2 : Nat) (0 :
        Nat) ∧ (.line : Holds) = .line) ∧
    (∃ s ∈ [op [(MEM_RET_STAT.STATE, 1), (MEMC.RBANK, 5), (MEMC.RSPARE, 2), (MEM_RET_STAT.NEXT, 7)]],
      s.rd MEM_RET_STAT.STATE = 1 ∧ ((s.getLine (s.rd MEMC.RBANK) (s.rd MEM_RET_STAT.NEXT)).flip (⟨0, 0, 0⟩ :
        SramLine)).verdict = .clean) ∧
    (∃ s ∈ [op [(MEM_RET_STAT.STATE, 2), (MEMC.RBANK, 5), (MEMC.RSPARE, 2), (MEM_MAP.PHYS 5, 5)]],
      s.rd MEM_RET_STAT.STATE = 2 ∧ (s.rd MEMC.RBANK = (5 : Nat) ∧ s.rd MEMC.RSPARE = (2 : Nat)) ∧ ((5 : Nat) < 64 ∧
        (2 : Nat) < 4) ∧ s.rd (MEM_MAP.PHYS (5 : Nat)) < 64) ∧
    (∃ s ∈ [op [(MEM_RET_STAT.STATE, 2), (MEMC.RBANK, 5), (MEMC.RSPARE, 2), (MEM_MAP.PHYS 5, 65), (MEM_SPARE.STATE 1,
      2)]],
      s.rd MEM_RET_STAT.STATE = 2 ∧ (s.rd MEMC.RBANK = (5 : Nat) ∧ s.rd MEMC.RSPARE = (2 : Nat)) ∧ ((5 : Nat) < 64 ∧
        (2 : Nat) < 4) ∧ s.rd (MEM_MAP.PHYS (5 : Nat)) = 64 + (1 : Fin 4).val ∧ (2 : Nat) ≠ (1 : Fin 4).val) := by
  refine ⟨?_, ?_, ?_, ?_, ?_, ?_, ?_, ?_, ?_, ?_, ?_, ?_, ?_, ?_, ?_⟩ <;> decide +kernel

set_option maxRecDepth 1000000 in
/-- States that meet the hypotheses of CastingsAreSubmittedAndChecked, clause by clause. -/
theorem test_met_CastingsAreSubmittedAndChecked :
    (∃ s ∈ [op []],
      (s.answers = true ∧ 3 ≤ s.level (0 : Fin 7) ∧ s.on MGT_STAT.PWARN = false) ∧ (CST_CMD.GO.of
        (0x80010100#32).toNat = 1 ∧ CST_CMD.RESUME.of (0x80010100#32).toNat = 0 ∧ CST_CMD.ABORT.of
        (0x80010100#32).toNat = 0 ∧ CST_CMD.PAUSE.of (0x80010100#32).toNat = 0) ∧ CST_CMD.OP.of (0x80010100#32).toNat
        = 1 ∧ s.castFree = true ∧ s.castShut = false) ∧
    (∃ s ∈ [op [(CST_STAT.STATE, 2)]],
      (s.answers = true ∧ 3 ≤ s.level (0 : Fin 7) ∧ s.on MGT_STAT.PWARN = false) ∧ (CST_CMD.GO.of
        (0x80010100#32).toNat = 1 ∧ CST_CMD.RESUME.of (0x80010100#32).toNat = 0 ∧ CST_CMD.ABORT.of
        (0x80010100#32).toNat = 0 ∧ CST_CMD.PAUSE.of (0x80010100#32).toNat = 0) ∧ CST_CMD.OP.of (0x80010100#32).toNat
        = 1 ∧ s.castFree = false) ∧
    (∃ s ∈ [op [(CST_STAT.FAULT, 1)]],
      (s.answers = true ∧ 3 ≤ s.level (0 : Fin 7) ∧ s.on MGT_STAT.PWARN = false) ∧ (CST_CMD.GO.of
        (0x80010100#32).toNat = 1 ∧ CST_CMD.RESUME.of (0x80010100#32).toNat = 0 ∧ CST_CMD.ABORT.of
        (0x80010100#32).toNat = 0 ∧ CST_CMD.PAUSE.of (0x80010100#32).toNat = 0) ∧ CST_CMD.OP.of (0x80010100#32).toNat
        = 1 ∧ s.castFree = true ∧ s.castShut = true) ∧
    (∃ s ∈ [op []],
      (s.answers = true ∧ 3 ≤ s.level (0 : Fin 7) ∧ s.on MGT_STAT.PWARN = false) ∧ (CST_CMD.GO.of
        (0x80020000#32).toNat = 1 ∧ CST_CMD.RESUME.of (0x80020000#32).toNat = 0 ∧ CST_CMD.ABORT.of
        (0x80020000#32).toNat = 0 ∧ CST_CMD.PAUSE.of (0x80020000#32).toNat = 0) ∧ CST_CMD.OP.of (0x80020000#32).toNat
        = 2 ∧ s.castFree = true ∧ s.castShut = false) ∧
    (∃ s ∈ [op []],
      (s.answers = true ∧ 3 ≤ s.level (0 : Fin 7) ∧ s.on MGT_STAT.PWARN = false) ∧ (CST_CMD.GO.of
        (0x80030000#32).toNat = 1 ∧ CST_CMD.RESUME.of (0x80030000#32).toNat = 0 ∧ CST_CMD.ABORT.of
        (0x80030000#32).toNat = 0 ∧ CST_CMD.PAUSE.of (0x80030000#32).toNat = 0) ∧ CST_CMD.OP.of (0x80030000#32).toNat
        = 3 ∧ s.castFree = true) ∧
    (∃ s ∈ [{ op [(CST_STAT.STATE, 4)] with plan := { CastPlan.none with elems := [[]], recast := true, sections := [(2, 1)] } }],
      (s.answers = true ∧ 3 ≤ s.level (0 : Fin 7) ∧ s.on MGT_STAT.PWARN = false) ∧ (CST_CMD.GO.of
        (0x10000000#32).toNat = 0 ∧ CST_CMD.RESUME.of (0x10000000#32).toNat = 0 ∧ CST_CMD.ABORT.of
        (0x10000000#32).toNat = 0 ∧ CST_CMD.PAUSE.of (0x10000000#32).toNat = 1) ∧ s.cst = Cst.apply ∧ s.plan.elems ≠
        []) ∧
    (∃ s ∈ [op [(CST_STAT.STATE, 5), (CST_STAT.PAUSE, 1), (FABC.MIXED, 3)]],
      (s.answers = true ∧ 3 ≤ s.level (0 : Fin 7) ∧ s.on MGT_STAT.PWARN = false) ∧ (CST_CMD.GO.of
        (0x40000000#32).toNat = 0 ∧ CST_CMD.RESUME.of (0x40000000#32).toNat = 1 ∧ CST_CMD.ABORT.of
        (0x40000000#32).toNat = 0 ∧ CST_CMD.PAUSE.of (0x40000000#32).toNat = 0) ∧ s.cst = Cst.paused ∧ s.rd
        CST_STAT.PAUSE = 1) ∧
    (∃ s ∈ [op [(CST_STAT.STATE, 1)]],
      (s.answers = true ∧ 3 ≤ s.level (0 : Fin 7) ∧ s.on MGT_STAT.PWARN = false) ∧ (CST_CMD.GO.of
        (0x20000000#32).toNat = 0 ∧ CST_CMD.RESUME.of (0x20000000#32).toNat = 0 ∧ CST_CMD.ABORT.of
        (0x20000000#32).toNat = 1 ∧ CST_CMD.PAUSE.of (0x20000000#32).toNat = 0) ∧ (s.cst = Cst.fetch ∨ s.cst =
        Cst.check)) ∧
    (∃ s ∈ [{ op [(CST_STAT.STATE, 4), (CST_PROG.NEXT, 1)] with plan := { CastPlan.none with elems := [[]], recast := true, sections := [(2, 1)] } }],
      (s.answers = true ∧ 3 ≤ s.level (0 : Fin 7) ∧ s.on MGT_STAT.PWARN = false) ∧ (CST_CMD.GO.of
        (0x20000000#32).toNat = 0 ∧ CST_CMD.RESUME.of (0x20000000#32).toNat = 0 ∧ CST_CMD.ABORT.of
        (0x20000000#32).toNat = 1 ∧ CST_CMD.PAUSE.of (0x20000000#32).toNat = 0) ∧ s.cst = Cst.apply ∧ s.plan.elems ≠
        [] ∧ s.plan.recast = true ∧ 0 < s.rd CST_PROG.NEXT) ∧
    (∃ s ∈ [op [(CST_STAT.STATE, 4)]],
      (s.answers = true ∧ 3 ≤ s.level (0 : Fin 7) ∧ s.on MGT_STAT.PWARN = false) ∧ (CST_CMD.GO.of
        (0x20000000#32).toNat = 0 ∧ CST_CMD.RESUME.of (0x20000000#32).toNat = 0 ∧ CST_CMD.ABORT.of
        (0x20000000#32).toNat = 1 ∧ CST_CMD.PAUSE.of (0x20000000#32).toNat = 0) ∧ s.cst = Cst.apply ∧ s.plan.elems =
        []) ∧
    (∃ s ∈ [op [(CST_STAT.STATE, 1), (CST_LEN.LEN, 2), (MGT_STAT.LINK_UP, 1), (MGT_STAT.BME, 1)]],
      s.cst = Cst.fetch ∧ s.on CSTC.SRC = false ∧ s.portSends = true) ∧
    (∃ s ∈ [op [(CST_STAT.STATE, 1), (CSTC.SRC, 1), (tableWord 0x8E0000C, 20)]],
      s.cst = Cst.fetch ∧ s.on CSTC.SRC = true) ∧
    (∃ s ∈ [op [(CST_STAT.STATE, 1)]],
      s.cst = Cst.fetch ∧ s.on CSTC.SRC = false ∧ s.on CSTC.BOOT = false) ∧
    (∃ s ∈ [{ op [(CST_STAT.STATE, 2), (CSTC.OP, 2)] with image := testImage 3 }],
      s.cst = Cst.check ∧ s.rd CSTC.OP = 2 ∧ s.imageReason s.image = 0) ∧
    (∃ s ∈ [{ op [(CST_STAT.STATE, 2), (CSTC.OP, 1)] with image := testImage 3 }],
      s.cst = Cst.check ∧ s.rd CSTC.OP = 1 ∧ s.imageReason s.image = 0 ∧ imgMaquette s.image = true ∧ imgRecast
        s.image = true) ∧
    (∃ s ∈ [{ op [(CST_STAT.STATE, 2), (CSTC.OP, 1)] with image := testImage 2 }],
      s.cst = Cst.check ∧ s.rd CSTC.OP = 1 ∧ s.imageReason s.image = 0 ∧ imgMaquette s.image = false ∧ imgRecast
        s.image = true ∧ s.voteDead = false ∧ s.mode ≠ Mode.cast) ∧
    (∃ s ∈ [{ op [(CST_STAT.STATE, 2), (CSTC.OP, 1)] with image := [1, 2, 3] }],
      s.cst = Cst.check ∧ s.rd CSTC.OP = 1 ∧ s.imageReason s.image ≠ 0) ∧
    (∃ s ∈ [{ op [(CST_STAT.STATE, 9), (CSTC.OP, 2)] with image := testImage 3 }],
      s.cst = Cst.storing ∧ s.rd CSTC.OP = 2 ∧ s.image.take (imgLength s.image) ≠ []) ∧
    (∃ s ∈ [{ op [(CST_STAT.STATE, 9), (CSTC.OP, 3), (CST_INFO.STORE_VALID, 1)] with bootImage := [1, 2] }],
      s.cst = Cst.storing ∧ s.rd CSTC.OP = 3) := by
  refine ⟨?_, ?_, ?_, ?_, ?_, ?_, ?_, ?_, ?_, ?_, ?_, ?_, ?_, ?_, ?_, ?_, ?_, ?_, ?_⟩ <;> decide +kernel

/-- States that meet the hypotheses of CastingsAreApplied, clause by clause. -/
theorem test_met_CastingsAreApplied :
    (∃ s ∈ [{ op [(CST_STAT.STATE, 4), (CST_PROG.NEXT, 5)] with plan := { CastPlan.none with elems := [[⟨7, 0, 0x200, 0, 0, CST_INFO.AUTH_REQ, false, 1, 0⟩], []] } }], ∃ r ∈ [(⟨7, 0, 0x200, 0, 0, CST_INFO.AUTH_REQ, false, 1, 0⟩ : CastRec)], ∃ rest ∈ [([[]] : List (List CastRec))],
      s.cst = Cst.apply ∧ (s.plan.elems = [r] :: rest) ∧ s.plan.recast = false ∧ rest ≠ [] ∧ (r.sect = 7 ∧ r.fid / 256
        = 2)) ∧
    (∃ s ∈ [{ op [(CST_STAT.STATE, 4)] with plan := { CastPlan.none with recast := true, elems := [[⟨2, 1, 0x200, 0, (OPT_TX_PWR.SET 1).addr, OPT_TX_PWR.SET 1, false, 100, 0⟩], []] } }], ∃ r ∈ [(⟨2, 1, 0x200, 0, (OPT_TX_PWR.SET 1).addr, OPT_TX_PWR.SET 1, false, 100, 0⟩ : CastRec)], ∃ rest ∈ [([[]] : List (List CastRec))],
      s.cst = Cst.apply ∧ (s.plan.elems = [r] :: rest) ∧ s.plan.recast = true ∧ rest ≠ [] ∧ (r.sect = 2 ∧ r.fid =
        0x200 ∧ r.sindex = (1 : Fin 4).val ∧ r.addr = (OPT_TX_PWR.SET (1 : Fin 4)).addr ∧ r.fld = OPT_TX_PWR.SET (1 :
        Fin 4) ∧ r.framed = false) ∧ s.castBusy (1 : Fin 4) = false ∧ s.phase (1 : Fin 4) = Phase.off) ∧
    (∃ s ∈ [{ op [(CST_STAT.STATE, 4), (TRB_CMT_STAT.STATE 1, 2)] with plan := { CastPlan.none with recast := true, sections := [(2, 1)], elems := [[⟨2, 1, 0x200, 0, (OPT_TX_PWR.SET 1).addr, OPT_TX_PWR.SET 1, false, 100, 0⟩], []] } }], ∃ r ∈ [(⟨2, 1, 0x200, 0, (OPT_TX_PWR.SET 1).addr, OPT_TX_PWR.SET 1, false, 100, 0⟩ : CastRec)], ∃ rest ∈ [([[]] : List (List CastRec))],
      s.cst = Cst.apply ∧ (s.plan.elems = [r] :: rest) ∧ s.plan.recast = true ∧ (r.sect = 2 ∧ r.sindex = (1 : Fin
        4).val) ∧ s.castBusy (1 : Fin 4) = true) ∧
    (∃ s ∈ [mkState [(DEV_MODE.MODE, 3), (CST_STAT.STATE, 4)]],
      s.cst = Cst.apply ∧ s.plan.recast = false ∧ s.plan.elems = [] ∧ s.mode = Mode.cast) ∧
    (∃ s ∈ [op []],
      s.answers = true ∧ s.castFree = true) ∧
    (∃ s ∈ [op [(CST_STAT.STATE, 1)]],
      s.answers = true ∧ (s.cst = Cst.fetch ∨ s.cst = Cst.check)) := by
  refine ⟨?_, ?_, ?_, ?_, ?_, ?_⟩ <;> decide +kernel

/-- States that meet the hypotheses of DmaQueuesRunDescriptors, clause by clause. -/
theorem test_met_DmaQueuesRunDescriptors :
    (∃ s ∈ [op [(MGT_DQ_CTRL.EN 1, 1), (MGT_DQ_PI.PI 1, 1), (MGT_STAT.BME, 1), (MGT_STAT.LINK_UP, 1), (descWord 1 0 0,
      0x11004210), (descWord 1 0 0x18, 5)]],
      s.answers = true ∧ s.on (MGT_DQ_CTRL.EN (1 : Fin 4)) = true ∧ s.rd (MGT_DQ_STAT.STATE (1 : Fin 4)) = 0 ∧ s.rd
        (MGT_DQ_CI.CI (1 : Fin 4)) ≠ s.rd (MGT_DQ_PI.PI (1 : Fin 4)) ∧ s.on MGT_STAT.PWARN = false ∧ s.on MGT_STAT.BME
        = true ∧ s.badDesc (1 : Fin 4) (s.rd (MGT_DQ_CI.CI (1 : Fin 4))) = false) ∧
    (∃ s ∈ [op [(MGT_DQ_PI.PI 1, 5)]],
      (s.answers = true ∧ 3 ≤ s.level (2 : Fin 7) ∧ s.on MGT_STAT.PWARN = false) ∧ ((MGT_DQ_PI.PI (1 : Fin 4)).of
        (8#32).toNat + 256 - s.rd (MGT_DQ_PI.PI (1 : Fin 4))) % 256 ≤ 255 - (s.rd (MGT_DQ_PI.PI (1 : Fin 4)) + 256 -
        s.rd (MGT_DQ_CI.CI (1 : Fin 4))) % 256) ∧
    (∃ s ∈ [op [(MGT_DQ_CTRL.EN 1, 1), (MGT_STAT.BME, 1), (MGT_STAT.LINK_UP, 1), (descWord 1 0 0, 0x11004210),
      (MGT_DQ_STAT.STATE 1, 2), (MGT_DQ_STAT.CAUSE 1, 3), (MGT_DQ_STAT.ERRIDX 1, 4)]],
      (s.answers = true ∧ 3 ≤ s.level (0 : Fin 7) ∧ s.on MGT_STAT.PWARN = false) ∧ (MGT_DQ_CMD.RESUME (1 : Fin 4)).of
        (0x80000000#32).toNat = 1 ∧ ((MGT_DQ_CMD.SKIP (1 : Fin 4)).of (0x80000000#32).toNat = 0 ∧ (MGT_DQ_CMD.ABORT (1
        : Fin 4)).of (0x80000000#32).toNat = 0) ∧ s.rd (MGT_DQ_STAT.STATE (1 : Fin 4)) = 2 ∧ s.on (MGT_DQ_CTRL.EN (1 :
        Fin 4)) = true ∧ s.on MGT_STAT.BME = true ∧ s.badDesc (1 : Fin 4) (s.rd (MGT_DQ_STAT.DESC (1 : Fin 4))) =
        false) ∧
    (∃ s ∈ [{ op [(MGT_DQ_CTRL.EN 1, 1), (MGT_DQ_CTRL.VEC_EN 1, 1), (MGT_STAT.BME, 1), (MGT_STAT.LINK_UP, 1), (MGT_DQ_STAT.STATE 1, 2), (MGT_DQ_STAT.CAUSE 1, 3), (MGT_DQ_STAT.ERRIDX 1, 4), (MGTC.MSIX_EN, 1), (MSIX.MASK 17, 0)] with dma := [(1, ⟨1, true, 0x42, 16, 0x1000, 0x2000⟩)] }],
      (s.answers = true ∧ 3 ≤ s.level (0 : Fin 7) ∧ s.on MGT_STAT.PWARN = false) ∧ (MGT_DQ_CMD.SKIP (1 : Fin 4)).of
        (0x40000000#32).toNat = 1 ∧ ((MGT_DQ_CMD.RESUME (1 : Fin 4)).of (0x40000000#32).toNat = 0 ∧ (MGT_DQ_CMD.ABORT
        (1 : Fin 4)).of (0x40000000#32).toNat = 0) ∧ s.rd (MGT_DQ_STAT.STATE (1 : Fin 4)) = 2 ∧ s.on (MGT_DQ_CTRL.EN
        (1 : Fin 4)) = true) ∧
    (∃ s ∈ [{ op [(MGT_DQ_CTRL.EN 1, 1), (MGT_STAT.BME, 1), (MGT_STAT.LINK_UP, 1), (MGT_DQ_STAT.STATE 1, 1), (MGT_DQ_STAT.ERRIDX 1, 4)] with dma := [(1, ⟨1, true, 0x42, 16, 0x1000, 0x2000⟩)] }],
      (s.answers = true ∧ 3 ≤ s.level (0 : Fin 7) ∧ s.on MGT_STAT.PWARN = false) ∧ (MGT_DQ_CMD.ABORT (1 : Fin 4)).of
        (0x20000000#32).toNat = 1 ∧ ((MGT_DQ_CMD.RESUME (1 : Fin 4)).of (0x20000000#32).toNat = 0 ∧ (MGT_DQ_CMD.SKIP
        (1 : Fin 4)).of (0x20000000#32).toNat = 0) ∧ s.rd (MGT_DQ_STAT.STATE (1 : Fin 4)) = 1) ∧
    (∃ s ∈ [op [(MGT_DQ_CTRL.EN 1, 1), (MGT_DQ_STAT.STATE 1, 1)]],
      (s.answers = true ∧ 3 ≤ s.level (0 : Fin 7) ∧ s.on MGT_STAT.PWARN = false) ∧ (MGT_DQ_CTRL.EN (1 : Fin 4)).of
        (2#32).toNat = 0 ∧ s.rd (MGT_DQ_STAT.STATE (1 : Fin 4)) = 1) ∧
    (∃ s ∈ [op [(DMAC.OUT 1, 3)]],
      s.answers = true ∧ s.rd (DMAC.OUT (1 : Fin 7)) ≠ 0 ∧ (∀ d : Fin 7, s.rd (DMAC.NEED d) = 0)) ∧
    (∃ s ∈ [op []],
      s.answers = true ∧ s.rd (DMAC.OUT (1 : Fin 7)) = 0) ∧
    (∃ s ∈ [op [(DMAC.OUT 1, 3), (MGT_DQ_STAT.STATE 1, 1)]],
      s.answers = true ∧ (1 : Fin 7).val < 4 ∧ s.rd (DMAC.OUT (1 : Fin 7)) ≠ 0 ∧ s.rd (MGT_DQ_STAT.STATE (1 : Fin 7))
        = 1) ∧
    (∃ s ∈ [op [(DMAC.OUT 1, 3), (MGT_DQ_STAT.STATE 1, 1)]],
      s.answers = true ∧ (1 : Fin 7).val < 4 ∧ s.rd (DMAC.OUT (1 : Fin 7)) ≠ 0 ∧ s.rd (MGT_DQ_STAT.STATE (1 : Fin 7))
        = 1) ∧
    (∃ s ∈ [op [(DMAC.OUT 4, 3), (KEY_BULK_STAT.STATE, 1)]],
      s.answers = true ∧ s.rd (DMAC.OUT 4) ≠ 0 ∧ s.rd KEY_BULK_STAT.STATE = Bulk.run) ∧
    (∃ s ∈ [{ op [(MGT_STAT.BME, 1), (MGT_STAT.LINK_UP, 1), (MGT_DQ_STAT.STATE 1, 1), (MGT_DQ_STAT.ERRIDX 1, 4), (DMAC.WIN 1 0, 0)] with dma := [(1, ⟨1, true, 0x42, 16, 0x1000, 0x2000⟩)] }], ∃ bytes ∈ [(leBytes 4 0xC00001F4 ++ leBytes 4 0x20000064 ++ leBytes 8 0 : List Byte)],
      s.elementRuns (1 : Fin 4) 1 = true ∧ s.portSends = true ∧ (0x08618040#32).toNat = 0x8608000 + 0x10000 * (1 : Fin
        4) + 16 * (4 : Fin 1024) ∧ ((16#32).toNat = 16 ∧ bytes.length = 16) ∧ 2 ≤ s.queueLevel (1 : Fin 4) ∧
        ((TRB_SHD.START (1 : Fin 4) (4 : Fin 1024)).of ((leWords bytes).getD 0 0) ≤ 1279 ∧ (TRB_SHD.COUNT (1 : Fin 4)
        (4 : Fin 1024)).of ((leWords bytes).getD 1 0) ≤ 1280) ∧ (s.rd (MGT_DQ_STAT.ERRIDX (1 : Fin 4)) + 1 < (s.dmaOf
        (1 : Fin 4)).count ∧ (s.dmaOf (1 : Fin 4)).count ≤ 16)) ∧
    (∃ s ∈ [{ op [(MGT_STAT.BME, 1), (MGT_STAT.LINK_UP, 1), (MGT_DQ_STAT.STATE 0, 1), (MGT_DQ_STAT.DESC 0, 7), (MGT_DQ_CI.CI 0, 7), (MGT_DQ_STAT.ERRIDX 0, 4)] with dma := [(0, ⟨1, true, 0x42, 16, 0x1000, 0x2000⟩)] }],
      s.elementRuns (0 : Fin 4) 1 = true ∧ s.portSends = true ∧ gatherSize (0x08610680#32).toNat ≠ (16#32).toNat) ∧
    (∃ s ∈ [{ op [(MGT_STAT.BME, 1), (MGT_STAT.LINK_UP, 1), (MGT_DQ_STAT.STATE 2, 1), (MGT_DQ_STAT.ERRIDX 2, 4), (DMAC.WIN 2 0, 0)] with dma := [(2, ⟨2, true, 0x42, 16, 0x1000, 0x2000⟩)] }],
      s.elementRuns (2 : Fin 4) 2 = true ∧ s.portSends = true ∧ inTableSpace (0x08F00000#32).toNat (32#32).toNat =
        true ∧ ((0x08F00000#32).toNat % 4 = 0 ∧ (0x4000#64).toNat % 4 = 0 ∧ (32#32).toNat % 4 = 0 ∧ 4 ≤ (32#32).toNat
        ∧ (32#32).toNat ≤ 65536) ∧ stretchLevel (0x08F00000#32).toNat (32#32).toNat ≤ s.queueLevel (2 : Fin 4) ∧
        ((List.range ((32#32).toNat / 4)).all (fun d => !s.sourceBad ((0x08F00000#32).toNat + 4 * d)) = true) ∧ (s.rd
        (MGT_DQ_STAT.ERRIDX (2 : Fin 4)) + 1 < (s.dmaOf (2 : Fin 4)).count ∧ (s.dmaOf (2 : Fin 4)).count ≤ 16)) ∧
    (∃ s ∈ [{ op [(MGT_STAT.BME, 1), (MGT_STAT.LINK_UP, 1), (MGT_DQ_STAT.STATE 2, 1), (MGT_DQ_STAT.ERRIDX 2, 4), (DMAC.WIN 2 0, 0)] with dma := [(2, ⟨2, false, 0x42, 5, 0x1000, 0x2000⟩)] }],
      s.elementRuns (2 : Fin 4) 2 = true ∧ s.portSends = true ∧ inTableSpace (0x08F00000#32).toNat (32#32).toNat =
        true ∧ ((0x08F00000#32).toNat % 4 = 0 ∧ (0x4000#64).toNat % 4 = 0 ∧ (32#32).toNat % 4 = 0 ∧ 4 ≤ (32#32).toNat
        ∧ (32#32).toNat ≤ 65536) ∧ stretchLevel (0x08F00000#32).toNat (32#32).toNat ≤ s.queueLevel (2 : Fin 4) ∧
        ((List.range ((32#32).toNat / 4)).all (fun d => !s.sourceBad ((0x08F00000#32).toNat + 4 * d)) = true) ∧ s.rd
        (MGT_DQ_STAT.ERRIDX (2 : Fin 4)) + 1 = (s.dmaOf (2 : Fin 4)).count ∧ (s.dmaOf (2 : Fin 4)).notify = false) := by
  refine ⟨?_, ?_, ?_, ?_, ?_, ?_, ?_, ?_, ?_, ?_, ?_, ?_, ?_, ?_, ?_⟩ <;> decide +kernel

/-- States that meet the hypotheses of PortResetsAndConfiguration, clause by clause. -/
theorem test_met_PortResetsAndConfiguration :
    (∃ s ∈ [op [(MGT_STAT.LINK_UP, 1), (MGT_STAT.BME, 1), (DMAC.OUT 1, 3), (MGT_DQ_STAT.STATE 1, 1), (MGT_DQ_CI.CI 1,
      7), (MSIX.MASK 3, 0)]],
      s.answers = true ∧ s.on MGT_STAT.LINK_UP = true ∧ s.rd KEY_BULK_STAT.STATE ≠ Bulk.run ∧ s.cst ≠ Cst.fetch) ∧
    (∃ s ∈ [op [(MGT_STAT.LINK_UP, 1), (MGT_STAT.BME, 1), (DMAC.OUT 1, 3), (MGT_DQ_STAT.STATE 1, 1), (MGT_DQ_CI.CI 1,
      7), (MSIX.MASK 3, 0)]],
      s.answers = true ∧ s.on MGT_STAT.LINK_UP = true ∧ s.rd KEY_BULK_STAT.STATE ≠ Bulk.run ∧ s.cst ≠ Cst.fetch) ∧
    (∃ s ∈ [op [(MGT_STAT.LINK_UP, 1), (MGT_STAT.BME, 1), (DMAC.OUT 1, 3), (MGT_DQ_STAT.STATE 1, 1), (MGT_DQ_CI.CI 1,
      7), (MSIX.MASK 3, 0)]],
      s.answers = true ∧ s.on MGT_STAT.LINK_UP = true ∧ s.rd KEY_BULK_STAT.STATE ≠ Bulk.run ∧ s.cst ≠ Cst.fetch) ∧
    (∃ s ∈ [op [(MGT_STAT.LINK_UP, 1), (KEY_BULK_STAT.STATE, 1)]],
      s.answers = true ∧ s.on MGT_STAT.LINK_UP = true ∧ s.rd KEY_BULK_STAT.STATE = Bulk.run ∧ s.cst ≠ Cst.fetch) ∧
    (∃ s ∈ [op []],
      s.answers = true ∧ s.on MGT_STAT.LINK_UP = false) ∧
    (∃ s ∈ [op [(MGT_STAT.LINK_UP, 1), (MGT_STAT.BME, 1), (MGT_DQ_STAT.STATE 1, 1)]],
      s.answers = true ∧ s.on MGT_STAT.LINK_UP = true) ∧
    (∃ s ∈ [op [(MGT_STAT.LINK_UP, 1)]],
      s.answers = true ∧ s.on MGT_STAT.LINK_UP = true) ∧
    (∃ s ∈ [op [(MGT_STAT.LINK_UP, 1)]],
      s.answers = true ∧ s.on MGT_STAT.LINK_UP = true ∧ (10000 : Nat) < 2 ^ 32) ∧
    (∃ s ∈ [op [(MGT_STAT.LINK_UP, 1), (MSIX.PEND 3, 1), (MSIX.MASK 3, 0), (MSIX.PEND 4, 1)]],
      s.answers = true ∧ s.on MGT_STAT.LINK_UP = true) ∧
    (∃ s ∈ [op [(MGT_STAT.LINK_UP, 1)]],
      s.answers = true ∧ s.on MGT_STAT.LINK_UP = true) ∧
    (∃ s ∈ [op [(MGT_STAT.LINK_UP, 1)]],
      s.answers = true ∧ s.on MGT_STAT.LINK_UP = true) := by
  refine ⟨?_, ?_, ?_, ?_, ?_, ?_, ?_, ?_, ?_, ?_, ?_⟩ <;> decide +kernel

/-- States that meet the hypotheses of SpiFramesCommit, clause by clause. -/
theorem test_met_SpiFramesCommit :
    (∃ s ∈ [op [(SPI_STAT.WORD, 2), (SPI_STAT.EDGES, 33), (SPI_STAT.ABORT, 1)]],
      s.answers = true ∧ s.rd SPIC.PH = 0) ∧
    (∃ s ∈ [op [(SPIC.PH, 1), (SPIC.STAT, 5)]],
      s.answers = true ∧ s.rd SPIC.PH = 1) ∧
    (∃ s ∈ [op [(SPIC.PH, 2)]],
      s.answers = true ∧ s.rd SPIC.PH = 2 ∧ (bits (s.rd SPIC.H0) 6 24 = 0 ∧ bit (s.rd SPIC.H0) 31 = 0) ∧
        ((0x02000010#32).toNat / 2 ^ 28 = 0 ∧ (0x02000010#32).toNat % 4 = 0) ∧ ((0x02000010#32).toNat + (if bit (s.rd
        SPIC.H0) 30 = 1 then 4 * bits (s.rd SPIC.H0) 0 6 else 0) ≤ 0xFFFFFFC)) ∧
    (∃ s ∈ [op [(SPIC.PH, 2), (SPIC.H0, 0x80000001)]],
      s.answers = true ∧ s.rd SPIC.PH = 2 ∧ (bits (s.rd SPIC.H0) 6 24 = 0 ∧ bit (s.rd SPIC.H0) 31 = 1) ∧
        ((0x00090044#32).toNat / 2 ^ 28 = 0 ∧ (0x00090044#32).toNat % 4 = 0) ∧ ((0x00090044#32).toNat + (if bit (s.rd
        SPIC.H0) 30 = 1 then 4 * bits (s.rd SPIC.H0) 0 6 else 0) ≤ 0xFFFFFFC)) ∧
    (∃ s ∈ [op [(SPIC.PH, 2)]],
      s.answers = true ∧ s.rd SPIC.PH = 2 ∧ (bits (s.rd SPIC.H0) 6 24 ≠ 0 ∨ (0x00090045#32).toNat / 2 ^ 28 ≠ 0 ∨
        (0x00090045#32).toNat % 4 ≠ 0)) ∧
    (∃ s ∈ [op [(SPIC.PH, 3), (SPIC.H0, 3), (SPIC.H1, 0x90050)]],
      s.answers = true ∧ s.rd SPIC.PH = 3 ∧ s.on SPIC.BAD = false ∧ bit (s.rd SPIC.H0) 31 = 0 ∧ s.rd SPIC.DONE + 1 <
        s.spiLen ∧ s.spiAddr (s.rd SPIC.DONE) = 0x90050 ∧ (s.answers = true ∧ 3 ≤ s.level 2 ∧ s.on MGT_STAT.PWARN =
        false)) ∧
    (∃ s ∈ [op [(SPIC.PH, 3), (SPIC.H0, 0x40000003), (SPIC.H1, 0x02000010)]],
      s.answers = true ∧ s.rd SPIC.PH = 3 ∧ s.on SPIC.BAD = false ∧ bit (s.rd SPIC.H0) 31 = 0 ∧ s.rd SPIC.DONE + 1 <
        s.spiLen ∧ s.spiAddr (s.rd SPIC.DONE) < 2 ^ 28 ∧ (s.after (.registerWrite 2 (BitVec.ofNat 32 (s.spiAddr (s.rd
        SPIC.DONE))) (100#32) 15)).rd SPIC.PH = 3 ∧ (s.after (.registerWrite 2 (BitVec.ofNat 32 (s.spiAddr (s.rd
        SPIC.DONE))) (100#32) 15)).rd SPIC.H0 = s.rd SPIC.H0) ∧
    (∃ s ∈ [op [(SPIC.PH, 3), (SPIC.H0, 0x80000003), (SPIC.H1, 0x90044), (SPIC.VAL 0, 0x30001), (SPIC.VAL 1, 0x40001),
      (MGT_REFUSE_INFO.COUNT, 5)]],
      s.answers = true ∧ s.rd SPIC.PH = 3 ∧ s.on SPIC.BAD = false ∧ bit (s.rd SPIC.H0) 31 = 1 ∧ s.rd SPIC.DONE + 1 <
        s.spiLen ∧ s.spiAddr (s.rd SPIC.DONE) = 0x90044 ∧ 1 ≤ s.level 2) ∧
    (∃ s ∈ [op [(SPIC.PH, 3), (SPIC.H1, 0x90050)]],
      s.answers = true ∧ s.rd SPIC.PH = 3 ∧ s.on SPIC.BAD = false ∧ bit (s.rd SPIC.H0) 31 = 0 ∧ s.rd SPIC.DONE + 1 =
        s.spiLen ∧ s.spiAddr (s.rd SPIC.DONE) = 0x90050 ∧ (s.answers = true ∧ 3 ≤ s.level 2 ∧ s.on MGT_STAT.PWARN =
        false)) ∧
    (∃ s ∈ [op [(SPIC.PH, 3), (SPIC.H1, 0x02000010)]],
      s.answers = true ∧ s.rd SPIC.PH = 3 ∧ s.on SPIC.BAD = false ∧ bit (s.rd SPIC.H0) 31 = 0 ∧ ((33 : Nat) ≠ 32 ∨
        s.rd SPIC.DONE + 1 ≠ s.spiLen) ∧ s.rd SPIC.DONE < 64) := by
  refine ⟨?_, ?_, ?_, ?_, ?_, ?_, ?_, ?_, ?_, ?_⟩ <;> decide +kernel

/-- States that meet the hypotheses of RegisterAccessesOfTheHost, clause by clause. -/
theorem test_met_RegisterAccessesOfTheHost :
    (∃ s ∈ [op []],
      (s.answers = true ∧ 3 ≤ s.level (0 : Fin 7) ∧ s.on MGT_STAT.PWARN = false)) ∧
    (∃ s ∈ [op [(MGT_STAT.LINK_UP, 1), (MGT_WIN.PRIV 1, 0)]],
      s.answers = true ∧ s.on MGT_STAT.LINK_UP = true ∧ (0x50000038#32).toNat = 0x50000008 + 16 * (3 : Fin 64).val) ∧
    (∃ s ∈ [op []],
      (0x52000000 ≤ (0x52600000#32).toNat ∧ (0x52600000#32).toNat < 0x54000000)) ∧
    (∃ s ∈ [op [(MGT_REFUSE_INFO.COUNT, 5), (MGT_REFUSE_INFO.REASON, 4)]],
      s.answers = true ∧ 1 ≤ s.level (0 : Fin 7)) ∧
    (∃ s ∈ [op []],
      s.answers = true ∧ (0x52000000 ≤ (0x52F00000#32).toNat ∧ (0x52F00000#32).toNat < 0x54000000) ∧ readLevel
        (aliasOf (0x52F00000#32).toNat) ≤ s.level (1 : Fin 7)) ∧
    (∃ s ∈ [op []],
      s.answers = true ∧ 1 ≤ s.level (0 : Fin 7)) ∧
    (∃ s ∈ [op []],
      (s.answers = true ∧ 3 ≤ s.level (0 : Fin 7) ∧ s.on MGT_STAT.PWARN = false) ∧ (3 : Fin 16) ≠ 15) ∧
    (∃ s ∈ [op [(MGT_WIN.PRIV 1, 1)]],
      s.answers = true ∧ s.level (1 : Fin 7) < 3 ∧ 1 ≤ s.level (1 : Fin 7) ∧ s.on MGT_STAT.PWARN = false) := by
  refine ⟨?_, ?_, ?_, ?_, ?_, ?_, ?_, ?_⟩ <;> decide +kernel

/-- States that meet the hypotheses of ResetsAndRails, clause by clause. -/
theorem test_met_ResetsAndRails :
    (∃ s ∈ [op [(KEY_RTC.SEC, 77), (IRQ_PEND 33, 1)]],
      s.mode ≠ Mode.keep ∧ s.rdBit PWRC.OUT 0 = false) ∧
    (∃ s ∈ [op [(KEY_RTC.SEC, 77), (IRQ_PEND 33, 1), (PIN.RESET, 0), (PIN.SAFE_A, 1)]],
      s.mode ≠ Mode.keep ∧ s.mode ≠ Mode.reset ∧ s.on PIN.RESET = false) ∧
    (∃ s ∈ [mkState [(DEV_MODE.MODE, 0), (PWRC.OUT, 3), (PWRC.COUNT, 4)]],
      s.mode = Mode.keep) ∧
    (∃ s ∈ [op [(DEV_PWR_STAT.VKEEP_OK, 1)]],
      s.answers = true ∧ s.railsUp = true) ∧
    (∃ s ∈ [op [(PWRC.OUT, 1)]],
      s.answers = true ∧ s.railsUp = true) ∧
    (∃ s ∈ [op []],
      s.answers = true) ∧
    (∃ s ∈ [op [(PWRC.NO_MREF, 1), (DEV_PWR_STAT.TSRC, 2)]],
      s.answers = true) ∧
    (∃ s ∈ [mkState [(PIN.RESET, 0)]],
      s.mode = Mode.reset ∧ s.railsUp = true ∧ (s.on PIN.RESET = false ∧ s.on PWRC.HOLD = false) ∧ (s.on PIN.TAMPER =
        false ∧ s.on PIN.ZEROISE = false)) ∧
    (∃ s ∈ [mkState [(PIN.RESET, 1)]],
      s.railsUp = true ∧ s.on PIN.RESET = true) ∧
    (∃ s ∈ [op [(KEY_RTC.SEC, 77), (IRQ_PEND 33, 1)]],
      s.mode ≠ Mode.keep ∧ s.mode ≠ Mode.reset) ∧
    (∃ s ∈ [mkState [(PWRC.INT, 0)]],
      s.mode = Mode.reset ∧ s.railsUp = true ∧ (s.on PWRC.INT = false ∧ s.on PWRC.HOLD = false) ∧ (s.on PIN.TAMPER =
        false ∧ s.on PIN.ZEROISE = false)) ∧
    (∃ s ∈ [op [(KEY_RTC.SEC, 77), (IRQ_PEND 33, 1)]],
      (s.answers = true ∧ 3 ≤ s.level (0 : Fin 7) ∧ s.on MGT_STAT.PWARN = false) ∧ DEV_RST_CMD.GO.of
        (0x8000005A#32).toNat = 1 ∧ DEV_RST_CMD.CODE.of (0x8000005A#32).toNat = 0x5A) ∧
    (∃ s ∈ [mkState [(PIN.RESET, 0), (PWRC.INT, 0), (PWRC.HOLD, 1), (PWRC.CAUSE, 3)]],
      s.mode = Mode.reset ∧ s.railsUp = true ∧ (s.on PIN.RESET = false ∧ s.on PWRC.INT = false) ∧ (s.on PIN.TAMPER =
        false ∧ s.on PIN.ZEROISE = false)) ∧
    (∃ s ∈ [op [(PWRC.OUT, 1), (KEY_RTC.SEC, 77), (KEYC.ROOT, 5), (KEYC.ROOTST, 1), (KEY_PLOG.CAUSE 2, 3)]],
      s.mode ≠ Mode.keep ∧ s.rdBit PWRC.OUT 0 = true) ∧
    (∃ s ∈ [op [(CST_STAT.STATE, Cst.storing)]],
      s.mode ≠ Mode.keep ∧ s.mode ≠ Mode.reset ∧ s.cst = Cst.storing) := by
  refine ⟨?_, ?_, ?_, ?_, ?_, ?_, ?_, ?_, ?_, ?_, ?_, ?_, ?_, ?_, ?_⟩ <;> decide +kernel

/-- States that meet the hypotheses of BootStepsFollowInOrder, clause by clause. -/
theorem test_met_BootStepsFollowInOrder :
    (∃ s ∈ [mkState [(DEV_MODE.MODE, 2), (DEV_BOOT_STAT.STEP, 1)]],
      s.mode = Mode.boot ∧ s.rd DEV_BOOT_STAT.HOLD ≠ 1 ∧ s.rd DEV_BOOT_STAT.STEP = 1) ∧
    (∃ s ∈ [mkState [(DEV_MODE.MODE, 2), (DEV_BOOT_STAT.STEP, 2), (KEYC.ROOTST, 1), (KEYC.ROOT, 5), (KEY_RTC.SEC, 77)]],
      s.mode = Mode.boot ∧ s.rd DEV_BOOT_STAT.HOLD ≠ 1 ∧ s.rd DEV_BOOT_STAT.STEP = 2 ∧ s.rd KEYC.ROOTST = 1) ∧
    (∃ s ∈ [mkState [(DEV_MODE.MODE, 2), (DEV_BOOT_STAT.STEP, 2), (KEYC.ROOTST, 1), (KEYC.ROOT, 5), (KEY_RTC.SEC, 77)]],
      s.mode = Mode.boot ∧ s.rd DEV_BOOT_STAT.HOLD ≠ 1 ∧ s.rd DEV_BOOT_STAT.STEP = 2 ∧ s.rd KEYC.ROOTST = 1) ∧
    (∃ s ∈ [mkState [(DEV_MODE.MODE, 2), (DEV_BOOT_STAT.STEP, 3)]],
      s.mode = Mode.boot ∧ s.rd DEV_BOOT_STAT.HOLD ≠ 1 ∧ s.rd DEV_BOOT_STAT.STEP = 3 ∧ s.rd (MEM_SPARE.STATE 0) = 0) ∧
    (∃ s ∈ [mkState [(DEV_MODE.MODE, 2), (DEV_BOOT_STAT.STEP, 3), (MEM_SPARE.STATE 0, 3), (MEM_SPARE.STATE 1, 3),
      (MEM_SPARE.STATE 2, 3), (MEM_SPARE.STATE 3, 3)]],
      s.mode = Mode.boot ∧ s.rd DEV_BOOT_STAT.HOLD ≠ 1 ∧ s.rd DEV_BOOT_STAT.STEP = 3 ∧ 56 ≤ (60 : Fin 64).val ∧ (∀ d :
        Fin 4, s.rd (MEM_SPARE.STATE d) ≠ 0)) ∧
    (∃ s ∈ [mkState [(DEV_MODE.MODE, 2), (DEV_BOOT_STAT.STEP, 4)]],
      s.mode = Mode.boot ∧ s.rd DEV_BOOT_STAT.HOLD ≠ 1 ∧ s.rd DEV_BOOT_STAT.STEP = 4) ∧
    (∃ s ∈ [mkState [(DEV_MODE.MODE, 2), (DEV_BOOT_STAT.STEP, 5)]],
      s.mode = Mode.boot ∧ s.rd DEV_BOOT_STAT.HOLD ≠ 1 ∧ s.rd DEV_BOOT_STAT.STEP = 5) ∧
    (∃ s ∈ [mkState [(DEV_MODE.MODE, 2), (DEV_BOOT_STAT.STEP, 6), (SUPC.STATE 0, 1), (SUPC.IMG 0, 1)]],
      s.mode = Mode.boot ∧ s.rd DEV_BOOT_STAT.HOLD ≠ 1 ∧ s.rd DEV_BOOT_STAT.STEP = 6 ∧ s.supsReady = true ∧ (∃ i : Fin
        3, s.sup i = Sup.boot ∧ s.rd (SUPC.IMG i) ≠ 0)) ∧
    (∃ s ∈ [mkState [(DEV_MODE.MODE, 2), (DEV_BOOT_STAT.STEP, 6)]],
      s.mode = Mode.boot ∧ s.rd DEV_BOOT_STAT.HOLD ≠ 1 ∧ s.rd DEV_BOOT_STAT.STEP = 6 ∧ s.supsReady = true ∧ (∀ i : Fin
        3, s.sup i ≠ Sup.boot) ∧ s.cst = Cst.idle ∧ s.bulkBusy = false ∧ s.calBusy = false ∧ s.votes = []) ∧
    (∃ s ∈ [mkState [(DEV_MODE.MODE, 2), (DEV_BOOT_STAT.STEP, 7), (SUPC.STATE 0, 1), (SUPC.IMG 0, 1)]],
      s.mode = Mode.boot ∧ s.rd DEV_BOOT_STAT.HOLD ≠ 1 ∧ s.rd DEV_BOOT_STAT.STEP = 7 ∧ (s.sup 0 = Sup.boot ∧ s.rd
        (SUPC.IMG 0) ≠ 0) ∧ s.mbx = [] ∧ s.votes = []) ∧
    (∃ s ∈ [mkState [(DEV_MODE.MODE, 2), (DEV_BOOT_STAT.STEP, 8)]],
      s.mode = Mode.boot ∧ s.rd DEV_BOOT_STAT.HOLD ≠ 1 ∧ s.rd DEV_BOOT_STAT.STEP = 8 ∧ s.bootImage = []) ∧
    (∃ s ∈ [{ mkState [(DEV_MODE.MODE, 2), (DEV_BOOT_STAT.STEP, 8)] with bootImage := testImage 0 }],
      s.mode = Mode.boot ∧ s.rd DEV_BOOT_STAT.HOLD ≠ 1 ∧ s.rd DEV_BOOT_STAT.STEP = 8 ∧ s.bootImage ≠ [] ∧ (imgRecast
        s.bootImage = false ∧ imgMaquette s.bootImage = false)) ∧
    (∃ s ∈ [mkState [(DEV_MODE.MODE, 2), (DEV_BOOT_STAT.STEP, 3), (MEM_SPARE.STATE 0, 3), (MEM_SPARE.STATE 1, 3),
      (MEM_SPARE.STATE 2, 3), (MEM_SPARE.STATE 3, 3)]],
      s.mode = Mode.boot ∧ s.rd DEV_BOOT_STAT.HOLD ≠ 1 ∧ s.rd DEV_BOOT_STAT.STEP = 3 ∧ (20 : Fin 64).val < 56 ∧ (∀ d :
        Fin 4, s.rd (MEM_SPARE.STATE d) ≠ 0)) ∧
    (∃ s ∈ [mkState [(DEV_MODE.MODE, 2), (DEV_BOOT_STAT.STEP, 4)]],
      s.mode = Mode.boot ∧ s.rd DEV_BOOT_STAT.HOLD ≠ 1 ∧ s.rd DEV_BOOT_STAT.STEP = 4 ∧ s.rd (FEC_ENG_STAT.STATE (1 :
        Fin 4) (3 : Fin 24)) ≠ 2) := by
  refine ⟨?_, ?_, ?_, ?_, ?_, ?_, ?_, ?_, ?_, ?_, ?_, ?_, ?_, ?_⟩ <;> decide +kernel

/-- States that meet the hypotheses of PowerWarningStopsAndRecords, clause by clause. -/
theorem test_met_PowerWarningStopsAndRecords :
    (∃ s ∈ [op [(MGT_DQ_STAT.STATE 1, 1), (KEY_BULK_STAT.STATE, 1)]],
      s.answers = true ∧ s.on DEV_PWR_STAT.WARN = false ∧ s.rd MEM_RET_STAT.STATE = 0 ∧ s.rd CAL_RUN_STAT.STATE = 0 ∧
        s.cst = Cst.idle) ∧
    (∃ s ∈ [op [(DEV_PWR_STAT.WARN, 1), (PWRC.DUE, 1), (PWRC.T0, 0x123456789A)]],
      s.on DEV_PWR_STAT.WARN = true ∧ s.on PWRC.DUE = true) ∧
    (∃ s ∈ [op [(DEV_PWR_STAT.WARN, 1), (MGT_STAT.PWARN, 1), (PIN.WARN, 1)]],
      s.on DEV_PWR_STAT.WARN = true ∧ s.railsUp = true) := by
  refine ⟨?_, ?_, ?_⟩ <;> decide +kernel

/-- States that meet the hypotheses of WindowRefusals, clause by clause. -/
theorem test_met_WindowRefusals :
    (∃ s ∈ [mkState [(DEV_MODE.MODE, 4), (MGT_WIN.PRIV 0, 2), (SUP_STAT.LEADER, 0)]],
      s.answers = true ∧ (0x8F20000#32).toNat < 0x50000000 ∧ s.level (0 : Fin 7) < readLevel (0x8F20000#32).toNat) ∧
    (∃ s ∈ [mkState [(DEV_MODE.MODE, 4), (MGT_WIN.PRIV 0, 2), (SUP_STAT.LEADER, 0)]],
      s.answers = true ∧ (0x8F20000#32).toNat < 0x50000000 ∧ s.level (0 : Fin 7) < readLevel (0x8F20000#32).toNat) ∧
    (∃ s ∈ [mkState [(DEV_MODE.MODE, 4), (MGT_WIN.PRIV 0, 2), (SUP_STAT.LEADER, 0)]],
      s.answers = true ∧ (0x90050#32).toNat < 0x50000000 ∧ dropsWrite (0x90050#32).toNat = false ∧ (s.fieldsAt
        (0x90050#32).toNat).any FSpec.writable = true ∧ (∀ f ∈ s.fieldsAt (0x90050#32).toNat, f.writable = true →
        s.level (0 : Fin 7) < f.wpriv)) ∧
    (∃ s ∈ [op [(FEC_ENG_STAT.STATE 1 3, 2), (FEC_ENG_SEL.ENGINE 1, 3)]],
      (s.answers = true ∧ 3 ≤ s.level (0 : Fin 7) ∧ s.on MGT_STAT.PWARN = false) ∧ (FEC_ENG_CMD.FORCE (1 : Fin 4)).of
        (1#32).toNat = 1 ∧ s.rd (FEC_ENG_SEL.ENGINE (1 : Fin 4)) = (3 : Fin 24).val ∧ (s.rd (FEC_ENG_STAT.STATE (1 :
        Fin 4) (3 : Fin 24)) ≠ 0 ∧ s.rd (FEC_ENG_STAT.STATE (1 : Fin 4) (3 : Fin 24)) ≠ 1)) ∧
    (∃ s ∈ [op [(FEC_ENG_STAT.STATE 1 3, 1), (FEC_ENG_ACT.ACTIVE 1, 8), (FEC_ENG_SEL.ENGINE 1, 3), (LDS_CH_STATE.STATE
      1, 4)]],
      (s.answers = true ∧ 3 ≤ s.level (0 : Fin 7) ∧ s.on MGT_STAT.PWARN = false) ∧ (FEC_ENG_CMD.FORCE (1 : Fin 4)).of
        (1#32).toNat = 1 ∧ s.rd (FEC_ENG_SEL.ENGINE (1 : Fin 4)) = (3 : Fin 24).val ∧ (∀ d : Fin 24, s.rdBit
        (FEC_ENG_ACT.ACTIVE (1 : Fin 4)) d = (d == (3 : Fin 24))) ∧ s.chSt (1 : Fin 4) ≠ ChSt.dark) ∧
    (∃ s ∈ [op [(HST_LSTAT_L.FENCED 1 3, 1)]],
      (s.answers = true ∧ 3 ≤ s.level (0 : Fin 7) ∧ s.on MGT_STAT.PWARN = false) ∧ (HST_LANE_CMD.FORCE (1 : Fin 4)).of
        (0x80000003#32).toNat = 1 ∧ (HST_LANE_CMD.LANE (1 : Fin 4)).of (0x80000003#32).toNat = (3 : Fin 16).val ∧ s.on
        (HST_LSTAT_L.FENCED (1 : Fin 4) (3 : Fin 16)) = true) := by
  refine ⟨?_, ?_, ?_, ?_, ?_, ?_⟩ <;> decide +kernel

/-- States that meet the hypotheses of SignalDegradeFollowsSnr, clause by clause. -/
theorem test_met_SignalDegradeFollowsSnr :
    (∃ s ∈ [((op [(LDS_CH_STATE.STATE 1, 3), (LDS_EQ_STAT.PSYNC 1, 1), (LDS_LQ_CTRL.SD_THR 1, 1900)]).onDsp 1 (fun d => { d with px := (5000, 70), py := (5000, 80) }))],
      s.rd (LDS_LQ_CTRL.SD_THR (1 : Fin 4)) ≠ 0) := by
  decide +kernel

/-! ## WellFormed refuses -/

/-- A host write through a window that is not BAR0's. -/
theorem test_ill_formed_windows_1 :
    ([.ledgerSnapshotRequest 3 0 0, .perturbationControlWrite 3 0 0, .profileWrite 3 0 0 0, .resizeGo 3 0 0 0,
      .laserEnable 3 0 0 0, .laserDisable 3 0 0 0, .txPowerWrite 3 0 0 0, .optFreqWrite 3 0 0 0,
      .discrepancyClear 3 0 0 0, .sliceForce 3 0 0 0, .tileForce 3 0 0 0, .testPatternWrite 3 0 0 0,
      .engineForce 3 0 0 0, .iterationControlWrite 3 0 0 0, .tributaryCommitGo 3 0 0 0,
      .calendarEntryWrite 3 0 0 0 0 0, .flexeCalendarSwitchRequest 3 0 0 0, .laneForce 3 0 0 0,
      .iscHostSend 3 0 0 0, .hostMessageRead 3 0, .pipelineForce 3 0 0 0 [], .iteratedEngineForce 3 0 0 false,
      .rootProvision 3 0 0, .rootEraseArm 3 0 0, .rootEraseConfirm 3 0 0, .keyBulkLoad 3 0 0,
      .keyBulkSave 3 0 0, .keyBulkRestore 3 0 0, .keyBulkResume 3 0 0, .keyBulkAbort 3 0 0, .keySlotErase 3 0 0,
      .zeroiseCommand 3 0 0, .rolloverGo 3 0 0 0, .monitorResultRead 3 0, .monitorUrgentRequest 3 0 0 0] : List
        Instr).all (fun i => !i.wf) = true := by
  decide

/-- A host write through a window that is not BAR0's. -/
theorem test_ill_formed_windows_2 :
    ([.monitorPresetChange 3 0 0 0, .compensationSetChange 3 0 0 0, .coefficientWrite 3 0 0 0, .calFull 3 0 0,
      .calTrack 3 0 0, .calLoad 3 0 0, .calRewrite 3 0 0, .supervisorComplexReset 3 0 0,
      .mailboxCommandPost 3 0 0, .mailboxResponseConsume 3 0 0, .irqPendSet 3 0 0 0, .irqPendClear 3 0 0 0,
      .irqMaskSet 3 0 0 0, .irqMaskClear 3 0 0 0, .irqEoi 3 0 0, .pmcConfigWrite 3 0 0 0,
      .pmcValueWrite 3 0 0 0, .pmcSnapshotRequest 3 0 0, .scrubStart 3 0 0, .scrubPause 3 0 0,
      .scrubResume 3 0 0, .scrubAbort 3 0 0, .bankRetirementStart 3 0 0, .castingSubmit 3 0 0,
      .castingStore 3 0 0, .castingEraseStore 3 0 0, .castingPause 3 0 0, .castingResume 3 0 0,
      .castingAbort 3 0 0, .dmaQueuePost 3 0 0 0, .dmaQueueResume 3 0 0 0, .dmaQueueSkip 3 0 0 0,
      .dmaQueueAbort 3 0 false 0 0, .deviceResetCommand 3 0 0] : List Instr).all (fun i => !i.wf) = true := by
  decide

/-- An access at no word of BAR0 or BAR2, or through the wrong window. -/
theorem test_ill_formed_addresses :
    ([.registerWrite 0 0x90051 0 15, .registerWrite 0 0x10000000 0 15, .registerWrite 3 0x90050 0 15,
      .registerWrite 0 0x50000000 0 15, .registerWrite 1 0x54000000 0 15, .rcCounterRead 0 0x90045,
      .rcCounterRead 4 0x90044, .latchingLowWordRead 2 0x52, .latchingLowWordRead 1 0x50] : List Instr).all (fun i =>
        !i.wf) = true := by
  decide

/-- An operand outside what its frame, message or measurement carries. -/
theorem test_ill_formed_ranges_1 :
    ([.modeOfferReceived 0 0 0 ⟨3, 0, 0, 0, 0, 0, 0⟩ false false 4 0,
      .modeOfferReceived 0 0 0 ⟨3, 0, 0, 0, 0, 0, 0⟩ false false 0 0x100000000,
      .resizeProposeReceived 0 0 0 ⟨3, 0, 0, 0, 0, 0, 0⟩ false 0x100000000,
      .resizeAcceptReceived 0 0 0 0x100000000 0, .resizeAcceptReceived 0 0 0 0 0x100000000,
      .resizeRefuseReceived 0 0 0 0x100000000 0, .resizeConfirmReceived 0 0 0 0x100000000 0 false,
      .resizeConfirmReceived 0 0 0 0 0x100000000 false, .converterApplyBoundary 0 0 [(544, 0, true)],
      .converterApplyBoundary 0 0 [(0, 5, true)], .hostAlignmentLock 0 0 (List.replicate 17 0),
      .flexeOverheadLock 0 0 true 256 0, .flexeOverheadLock 0 0 true 0 0x100000,
      .heartbeatReceived 0 0 0 0x100000000 0, .heartbeatReceived 0 0 0 0 0x10000,
      .telemetryReceived 0 0 0 0x10000 0 0 0 0 0, .telemetryReceived 0 0 0 0 0x10000 0 0 0 0,
      .telemetryReceived 0 0 0 0 0 0x10000 0 0 0, .telemetryReceived 0 0 0 0 0 0 0x10000 0 0,
      .telemetryReceived 0 0 0 0 0 0 0 0x100000000 0, .telemetryReceived 0 0 0 0 0 0 0 0 0x10000,
      .hostMessageReceived 0 0 0 0x100000000 0 0 0, .hostMessageReceived 0 0 0 0 0x100000000 0 0,
      .hostMessageReceived 0 0 0 0 0 0x100000000 0, .hostMessageReceived 0 0 0 0 0 0 0x10000,
      .biasBlockEnd 0 0 [1, 2], .calMeasurementComplete [(0x2000, 1)] 0 0 0,
      .calMeasurementComplete [(2, 1), (1, 1)] 0 0 0,
      .firmwareAuthenticationComplete 0 true true [(2048, 0, true, true)],
      .firmwareAuthenticationComplete 0 true true [(0, 16, true, true)], .acquisitionStepComplete 0 0 [[512]],
      .acquisitionStepComplete 0 0 [[], [], [], [], []], .codewordAssembled 0 false [[0, -513]],
      .spiChipSelectRise 0x100000000 0, .bootStepComplete true [68] []] : List Instr).all (fun i => !i.wf) = true := by
  decide

/-- An operand outside what its frame, message or measurement carries. -/
theorem test_ill_formed_ranges_2 :
    ([.bootStepComplete true [] [(4, 0, 0)], .fenceRetestComplete 0 0 [(13, 0)]] : List Instr).all (fun i => !i.wf) =
      true := by
  decide

/-- Accesses of each path are well formed. -/
theorem test_well_formed :
    ([.registerWrite 0 0x90050 1 15, .registerWrite 2 0x2000010 0x64 15, .registerWrite 1 0x50000008 7 15,
      .rcCounterRead 1 0x52F00000, .laserEnable 0 1 1 15, .spiDataWord 0x64] : List Instr).all Instr.wf = true := by
  decide

/-! ## Worked examples of the spec -/

/-- FIPS 197, Appendix C.3. -/
theorem test_aes : aesEncrypt 0x000102030405060708090A0B0C0D0E0F101112131415161718191A1B1C1D1E1F
    0x00112233445566778899AABBCCDDEEFF = 0x8EA2B7CA516745BFEAFC49904B496089 := by
  decide +kernel

/-- A constant input at half of full scale settles to half of full scale after as many periods as the filter has
  stages, in ROUGH
(R305, Table 13.3). -/
theorem test_cic :
    let per : MonInput → Int × MonInput := MonInput.next 0 (List.replicate 16 524288)
    (per (per (per MonInput.zero).2).2).1 = 4194304 := by
  decide +kernel

/-- R437's example: the frame that a noisy clock lengthens by one edge. -/
def spiExample : State := op [(MGT_WIN.PRIV 2, 3), (SPIC.PH, 3), (SPIC.H0, 0), (SPIC.H1, 0x02000010)]

/-- R437: the data word is discarded, with WORD 2 and EDGES 33. -/
theorem test_spi_extra_edge :
    ((spiExample.after (.spiChipSelectRise 33 0x64#32)).rd SPI_STAT.WORD,
     (spiExample.after (.spiChipSelectRise 33 0x64#32)).rd SPI_STAT.EDGES,
     (spiExample.after (.spiChipSelectRise 33 0x64#32)).rd SPI_STAT.ABORT) = (2, 33, 1) := by
  decide +kernel

/-- R433's example: element 4 of descriptor 7 names the active table. -/
def gatherExample : State :=
  { op [(MGT_STAT.LINK_UP, 1), (MGT_STAT.BME, 1), (MGT_DQ_STAT.STATE 0, 1), (MGT_DQ_STAT.DESC 0, 7), (MGT_DQ_CI.CI 0,
    7),
      (MGT_DQ_STAT.ERRIDX 0, 4)] with dma := [(0, ⟨1, true, 0x42, 16, 0x1000, 0⟩)] }

/-- R433: FAULT with cause 0x3, ERRIDX 4 and DESC 7; CI stays at 7. -/
theorem test_gather_wrong_entry :
    ([MGT_DQ_STAT.STATE 0, MGT_DQ_STAT.CAUSE 0, MGT_DQ_STAT.ERRIDX 0, MGT_DQ_STAT.DESC 0, MGT_DQ_CI.CI 0, IRQ_PEND
      129].map
      (gatherExample.after (.dmaGatherElement 0 0x08610680#32 16#32 (List.replicate 16 0))).rd) = [2, 3, 4, 7, 7, 1]
        := by
  decide +kernel

/-- R437: the SPI write of OPT_TX_PWR[1].SET = +1.00 dBm is 0x64 at address 0x0200_0010. -/
theorem test_tx_power_address : (OPT_TX_PWR.SET 1).addr = 0x02000010 ∧ (OPT_TX_PWR.SET 1).of 0x64 = 100 := by
  decide

/-- R363: the first sources of channels 0, 2 and 3. -/
theorem test_source_numbers : (sourceOf 0 0, sourceOf 2 0x26, sourceOf 3 0x26) = (512, 1574, 1830) := by
  decide

/-- A step runs the front command on the queue's rest. -/
theorem test_step_takes_front :
    (match step { op [] with pending := [.vkeepAbsent, .pcieHotReset] } with
      | .next t => t.pending == [.pcieHotReset] && t.rdBit PWRC.OUT 0
      | _ => false) = true := by
  decide +kernel

/-- With no command a step counts one nanosecond. -/
theorem test_step_idle :
    (match step (op []) with
      | .next t => t.time == 1 && t.rd KEYC.SUB == 1
      | _ => false) = true := by
  decide +kernel

/-- The table gives no row bits. -/
theorem test_no_words : decodeTableWord 32 0 = none := rfl

end Sys2Proof.Tests
end

section
/-! SUPPORT. The signal-degrade comparator of a link-quality window (R152, R153): what latches the figures, what sets and
clears SD, and which fields the rest of the window's end leaves alone. -/

namespace Sys2Proof.Machine

/-! ## Fields that a notice never writes -/

/-- Every source that a notice can raise is numbered below 2048 (R363). -/
theorem noticed_lt {src pmc : List Nat} {N : Nat} (hs : ∀ M ∈ src, M < 2048)
    (h : N ∈ src ++ pmc.flatMap overflowSources) : N < 2048 := by
  obtain hN | hN := List.mem_append.1 h
  · exact hs N hN
  · obtain ⟨b, -, hb⟩ := List.mem_flatMap.1 hN
    have hovf : pmcOvfSource b < 2048 := by
      unfold pmcOvfSource
      split
      · decide
      · exact sourceOf_lt (by decide)
    unfold overflowSources at hb
    split at hb
    · obtain rfl | rfl : N = pmcOvfSource b ∨ N = sourceOf b 0x91 := by simpa using hb
      · exact hovf
      · exact sourceOf_lt (by decide)
    · obtain rfl : N = pmcOvfSource b := by simpa using hb
      exact hovf

/-- A key that a notice writes is a host pending bit of a noticed source, or lies above all of these and outside the LDS
block of any channel n. -/
theorem noticeKey_pend_or_outside {src pmc : List Nat} (hs : ∀ M ∈ src, M < 2048) (hp : ∀ b ∈ pmc, b < 5) {k : Nat}
    (h : noticeKey src pmc k) (n : Fin 4) :
    (∃ N ∈ src ++ pmc.flatMap overflowSources, k = (IRQ_PEND N).key) ∨
      8 * 0x32000 ≤ k ∧
        ¬ (8 * (0x1200000 + 0x1000000 * n.val) ≤ k ∧ k < 8 * (0x1300000 + 0x1000000 * n.val)) := by
  obtain ⟨N, hN, hk | hk | ⟨i, hi, hk | hk⟩⟩ | ⟨b, hb, h⟩ := h
  · exact .inl ⟨N, hN, hk⟩
  all_goals right
  · have hlt := noticed_lt hs hN
    simp only [Field.key, IRQ_CFG.ARRIVE] at hk; omega
  · simp only [Field.key, SUPC.PEND, cell] at hk; omega
  · simp only [Field.key, SUPC.ARRIVE, cell] at hk; omega
  · have hlt := hp b hb
    obtain hk | hk | ⟨i, hi, hk | hk⟩ := h
    · simp only [Field.key, PMC_CH_STAT.OVF_EV, pmcBase, chanStride] at hk; split at hk <;> omega
    · simp only [Field.key, PMC_CH_STAT.WRAP_EV, pmcBase, chanStride] at hk; split at hk <;> omega
    · simp only [Field.key, PMC.CNT, cell] at hk; omega
    · simp only [Field.key, PMC.STICKY, cell] at hk; omega

/-- A field of an LDS register of channel n. -/
def IsLds (n : Fin 4) (f : Field) : Prop :=
  0x1200000 + 0x1000000 * n.val ≤ f.addr ∧ f.addr + 4 ≤ 0x1300000 + 0x1000000 * n.val ∧ f.lo < 32

theorem isLds_valid : ∀ n : Fin 4, IsLds n (LDS_LQ_STAT.VALID n) := by unfold IsLds; decide
theorem isLds_sd : ∀ n : Fin 4, IsLds n (LDS_LQ_STAT.SD n) := by unfold IsLds; decide
theorem isLds_sdEv : ∀ n : Fin 4, IsLds n (LDS_LQ_STAT.SD_EV n) := by unfold IsLds; decide
theorem isLds_snr : ∀ n : Fin 4, IsLds n (LDS_LQ_SNR.SNR n) := by unfold IsLds; decide

/-- A notice writes no LDS register. -/
theorem not_noticeKey_lds {src pmc : List Nat} (hs : ∀ M ∈ src, M < 2048) (hp : ∀ b ∈ pmc, b < 5) {n : Fin 4} {f : Field}
    (hf : IsLds n f) : ¬ noticeKey src pmc f.key := by
  intro h
  obtain ⟨hlo, hhi, hbit⟩ := hf
  obtain ⟨N, hN, hk⟩ | ⟨-, hout⟩ := noticeKey_pend_or_outside hs hp h n
  · have hlt := noticed_lt hs hN
    simp only [Field.key, IRQ_PEND] at hk; omega
  · exact hout (by simp only [Field.key]; omega)

/-- A notice writes no pending bit of a source that it does not raise. -/
theorem not_noticeKey_pend {src pmc : List Nat} (hs : ∀ M ∈ src, M < 2048) (hp : ∀ b ∈ pmc, b < 5) {M : Nat} (hM : M < 2048)
    (hne : M ∉ src ++ pmc.flatMap overflowSources) : ¬ noticeKey src pmc (IRQ_PEND M).key := by
  intro h
  obtain ⟨N, hN, hk⟩ | ⟨habove, -⟩ := noticeKey_pend_or_outside hs hp h 0
  · have hMN : M ≠ N := fun e => hne (e ▸ hN)
    simp only [Field.key, IRQ_PEND] at hk; omega
  · simp only [Field.key, IRQ_PEND] at habove; omega

/-! ## The figures of a window -/

theorem snrOf_rd (q : Nat × Nat) (s : State) (f : Field) : (s.snrOf q).2.rd f = s.rd f := by
  unfold State.snrOf; split <;> rfl

theorem evmOf_rd (q : Nat × Nat) (s : State) (f : Field) : (s.evmOf q).2.rd f = s.rd f := by
  unfold State.evmOf; split <;> rfl

/-- Computing the figures changes no field. -/
theorem quality_rd (n : Nat) (s : State) (f : Field) : (s.quality n).2.rd f = s.rd f := by
  simp only [State.quality, evmOf_rd, snrOf_rd]

/-- The SNR over both polarisations fits its field. -/
theorem quality_snr_lt (n : Nat) (s : State) : (s.quality n).1.snr < 2 ^ 16 := Nat.mod_lt _ (by decide)

/-! ## The comparator of R153 -/

/-- The SNR and EVM figures are latched (Table 6.14), before SD is judged. -/
def State.latchSnr (n : Nat) (q : Quality) (s : State) : State :=
  s.put (LDS_LQ_SNR.SNR n) q.snr
    |>.when (s.on (LDSC.MIN_READ n) || q.snr < s.rd (LDS_LQ_SNR.MIN n)) (·.put (LDS_LQ_SNR.MIN n) q.snr)
    |>.put (LDSC.MIN_READ n) 0
    |>.put (LDS_LQ_SNRXY.X n) q.x |>.put (LDS_LQ_SNRXY.Y n) q.y |>.put (LDS_LQ_EVM.EVM n) q.evm

/-- SD sets, with its event and its interrupt source. -/
def State.setDegrade (n : Nat) (s : State) : State :=
  (s.put (LDS_LQ_STAT.SD n) 1 |>.put (LDS_LQ_STAT.SD_EV n) 1).raiseCh n 0x26

theorem snrFigures_eq (n : Nat) (q : Quality) (s : State) :
    s.snrFigures n q =
      ((s.latchSnr n q).when
          (s.rd (LDS_LQ_CTRL.SD_THR n) ≠ 0 && q.snr < s.rd (LDS_LQ_CTRL.SD_THR n) && !s.on (LDS_LQ_STAT.SD n))
          (·.setDegrade n)).when
        (s.rd (LDS_LQ_CTRL.SD_THR n) ≠ 0 && s.rd (LDS_LQ_CTRL.SD_THR n) + 50 ≤ q.snr) (·.put (LDS_LQ_STAT.SD n) 0) := rfl

/-- With a threshold, an SNR below it sets SD where it is clear. -/
theorem snrFigures_below {n : Nat} {q : Quality} {s : State} (h : q.snr < s.rd (LDS_LQ_CTRL.SD_THR n)) :
    s.snrFigures n q = (s.latchSnr n q).when (!s.on (LDS_LQ_STAT.SD n)) (·.setDegrade n) := by
  have h0 : s.rd (LDS_LQ_CTRL.SD_THR n) ≠ 0 := by omega
  have hna : ¬ s.rd (LDS_LQ_CTRL.SD_THR n) + 50 ≤ q.snr := by omega
  simp [snrFigures_eq, h0, h, hna]

/-- With a threshold, an SNR 0.5 dB above it or more clears SD. -/
theorem snrFigures_above {n : Nat} {q : Quality} {s : State} (h0 : s.rd (LDS_LQ_CTRL.SD_THR n) ≠ 0)
    (h : s.rd (LDS_LQ_CTRL.SD_THR n) + 50 ≤ q.snr) :
    s.snrFigures n q = (s.latchSnr n q).put (LDS_LQ_STAT.SD n) 0 := by
  have hnb : ¬ q.snr < s.rd (LDS_LQ_CTRL.SD_THR n) := by omega
  simp [snrFigures_eq, h0, h, hnb]

/-- An SNR in the band of 0.5 dB above the threshold leaves SD alone. -/
theorem snrFigures_between {n : Nat} {q : Quality} {s : State} (hl : s.rd (LDS_LQ_CTRL.SD_THR n) ≤ q.snr)
    (hh : q.snr < s.rd (LDS_LQ_CTRL.SD_THR n) + 50) : s.snrFigures n q = s.latchSnr n q := by
  simp [snrFigures_eq, Nat.not_lt.2 hl, Nat.not_le.2 hh]

/-- Fields that are latched with the SNR. -/
def besideSnrFields (n : Nat) : List Field :=
  [LDS_LQ_SNR.MIN n, LDSC.MIN_READ n, LDS_LQ_SNRXY.X n, LDS_LQ_SNRXY.Y n, LDS_LQ_EVM.EVM n]

theorem latchSnr_sameFields (n : Nat) (q : Quality) (s : State) :
    SameFields (besideSnrFields n) (s.put (LDS_LQ_SNR.SNR n) q.snr) (s.latchSnr n q) := by
  unfold State.latchSnr
  iterate 4 refine sameFields_put_of ?_ (by simp [besideSnrFields])
  exact sameFields_when (.refl _ _) (sameFields_put_of (.refl _ _) (by simp [besideSnrFields]))

/-- None of them is the SNR or SD. -/
theorem besideSnrFields_keys : ∀ n : Fin 4, ∀ g ∈ besideSnrFields n,
    g.key ≠ (LDS_LQ_SNR.SNR n).key ∧ g.key ≠ (LDS_LQ_STAT.SD n).key := by decide

/-- SNR, SD and SD_EV are three fields. -/
theorem degrade_keys : ∀ n : Fin 4, (LDS_LQ_SNR.SNR n).key ≠ (LDS_LQ_STAT.SD n).key ∧
    (LDS_LQ_SNR.SNR n).key ≠ (LDS_LQ_STAT.SD_EV n).key ∧ (LDS_LQ_STAT.SD n).key ≠ (LDS_LQ_STAT.SD_EV n).key := by decide

section
variable {n : Fin 4} {q : Quality} {s : State}

theorem latchSnr_snr : (s.latchSnr n q).rd (LDS_LQ_SNR.SNR n) = q.snr % 2 ^ 16 := by
  rw [latchSnr_sameFields n q s _ (fun g hg => (besideSnrFields_keys n g hg).1), rd_put_same]
  rfl

theorem latchSnr_sd : (s.latchSnr n q).rd (LDS_LQ_STAT.SD n) = s.rd (LDS_LQ_STAT.SD n) := by
  rw [latchSnr_sameFields n q s _ (fun g hg => (besideSnrFields_keys n g hg).2), rd_put_other _ _ (degrade_keys n).1.symm]

/-- A raise of a channel's source leaves its LDS registers alone. -/
theorem raiseCh_rd_lds {L : Nat} (hL : L < 256) {f : Field} (hf : IsLds n f) : (s.raiseCh n L).rd f = s.rd f :=
  fieldsKept_raiseCh (l := []) (pmc := []) (.refl _ _ _ s) (List.mem_singleton.2 rfl) f
    (not_noticeKey_lds (by simpa using sourceOf_lt hL) (by simp) hf) (by simp)

theorem setDegrade_sd : (s.setDegrade n).rd (LDS_LQ_STAT.SD n) = 1 := by
  obtain ⟨-, -, hkey⟩ := degrade_keys n
  rw [State.setDegrade, raiseCh_rd_lds (by decide) (isLds_sd n), rd_put_other _ _ hkey, rd_put_same]
  rfl

theorem setDegrade_sdEv : (s.setDegrade n).rd (LDS_LQ_STAT.SD_EV n) = 1 := by
  rw [State.setDegrade, raiseCh_rd_lds (by decide) (isLds_sdEv n), rd_put_same]
  rfl

theorem setDegrade_pend : (s.setDegrade n).rd (IRQ_PEND (sourceOf n 0x26)) = 1 := raiseCh_pend (by decide)

theorem setDegrade_snr : (s.setDegrade n).rd (LDS_LQ_SNR.SNR n) = s.rd (LDS_LQ_SNR.SNR n) := by
  obtain ⟨hsd, hev, -⟩ := degrade_keys n
  rw [State.setDegrade, raiseCh_rd_lds (by decide) (isLds_snr n), rd_put_other _ _ hev, rd_put_other _ _ hsd]

end

/-! ## The end of a window -/

/-- What the end of a window does after VALID: its other marks, SEQ, the event and its notice (R152). -/
def State.closeWindow (n : Nat) (berv zero rsz now : Bool) (s : State) : State :=
  s.flag (LDS_LQ_STAT.BERV n) berv |>.flag (LDS_LQ_STAT.BER_ZERO n) zero |>.flag (LDS_LQ_STAT.RSZ n) rsz
    |>.flag (LDSC.RSZ_WIN n) now |>.addWrap (LDS_LQ_STAT.SEQ n) 1 |>.put (LDS_LQ_STAT.WIN_EV n) 1 |>.raiseCh n 0x25
    |>.count n .lds 0x06

/-- What the end of a window does after SD is judged: the figures of the FEC, VALID, and the closing. -/
def State.endWindow (n : Nat) (q : Quality) (valid rsz now : Bool) (s : State) : State :=
  ((s.when q.berv (·.berFigures n q)).flag (LDS_LQ_STAT.VALID n) valid).closeWindow n q.berv q.zero rsz now

/-- A window with pilots judges SD. -/
theorem lqWindow_eq_of_valid {n : Nat} {s : State} (h : s.on (LDS_EQ_STAT.PSYNC n) = true) :
    ∃ rsz now, s.lqWindow n =
      ((s.quality n).2.snrFigures n (s.quality n).1).endWindow n (s.quality n).1 true rsz now := by
  unfold State.lqWindow
  simp only [h]
  exact ⟨_, _, rfl⟩

/-- A window without pilots does not. -/
theorem lqWindow_eq_of_not_valid {n : Nat} {s : State} (h : s.on (LDS_EQ_STAT.PSYNC n) = false) :
    ∃ rsz now, s.lqWindow n = s.endWindow n (s.quality n).1 false rsz now := by
  unfold State.lqWindow
  simp only [h]
  exact ⟨_, _, rfl⟩

/-- Fields that closing a window writes, beside its notice. -/
def closeFields (n : Nat) : List Field :=
  [LDS_LQ_STAT.BERV n, LDS_LQ_STAT.BER_ZERO n, LDS_LQ_STAT.RSZ n, LDSC.RSZ_WIN n, LDS_LQ_STAT.SEQ n, LDS_LQ_STAT.WIN_EV n]

theorem closeWindow_fieldsKept (n : Nat) (berv zero rsz now : Bool) (s : State) :
    FieldsKept (closeFields n) [sourceOf n 0x25] [n] s (s.closeWindow n berv zero rsz now) := by
  refine fieldsKept_count (fieldsKept_raiseCh (SameFields.kept ?_) (List.mem_singleton.2 rfl)) (List.mem_singleton.2 rfl)
  unfold State.flag State.addWrap
  iterate 6 refine sameFields_put_of ?_ (by simp [closeFields])
  exact .refl _ _

/-- Fields that a window with a codeword released corrected latches. -/
def berFields (n : Nat) : List Field := [LDS_LQ_GMI.GMI n, LDS_LQ_BER.BER_LOG n, LDS_LQ_GMI.MARGIN n]

theorem berFigures_sameFields (n : Nat) (q : Quality) (s : State) : SameFields (berFields n) s (s.berFigures n q) := by
  have h : SameFields (berFields n) s ((s.put (LDS_LQ_GMI.GMI n) q.gmi).putS (LDS_LQ_BER.BER_LOG n) q.ber) :=
    sameFields_put_of (sameFields_put_of (.refl _ s) (by simp [berFields])) (by simp [berFields])
  unfold State.berFigures
  dsimp only
  split
  · split
    · exact sameFields_put_of h (by simp [berFields])
    · exact sameFields_put_of h (by simp [berFields])
  · exact h

/-- Fields that the end of a window writes after SD is judged. -/
def laterFields (n : Nat) : List Field := LDS_LQ_STAT.VALID n :: closeFields n ++ berFields n

/-- They are none of the fields of the comparator. -/
theorem laterFields_keys : ∀ n : Fin 4, ∀ g ∈ laterFields n,
    g.key ≠ (LDS_LQ_STAT.SD n).key ∧ g.key ≠ (LDS_LQ_STAT.SD_EV n).key ∧ g.key ≠ (LDS_LQ_SNR.SNR n).key ∧
    g.key ≠ (IRQ_PEND (sourceOf n 0x26)).key := by decide

theorem closeFields_keys : ∀ n : Fin 4, ∀ g ∈ closeFields n, g.key ≠ (LDS_LQ_STAT.VALID n).key := by decide

/-- Neither the window source nor an overflow of a counter is signal degrade (Table 16.3). -/
theorem degradeSource_not_noticed : ∀ n : Fin 4,
    sourceOf n 0x26 ∉ [sourceOf n 0x25] ++ [n.val].flatMap overflowSources := by decide

theorem endWindow_fieldsKept (n : Nat) (q : Quality) (valid rsz now : Bool) (s : State) :
    FieldsKept (laterFields n) [sourceOf n 0x25] [n] s (s.endWindow n q valid rsz now) := by
  have hber : SameFields (laterFields n) s (s.when q.berv (·.berFigures n q)) :=
    sameFields_when (.refl _ s) ((berFigures_sameFields n q s).mono (by simp +contextual [laterFields]))
  have hvalid := sameFields_put_of (v := if valid then 1 else 0) hber
    (show LDS_LQ_STAT.VALID n ∈ laterFields n by simp [laterFields])
  exact hvalid.kept.trans
    ((closeWindow_fieldsKept n q.berv q.zero rsz now _).mono (by simp +contextual [laterFields]))

/-- The fields that R153 speaks of, SD, SD_EV, the SNR and the pending bit of its source, read alike. -/
def SameDegrade (n : Fin 4) (s t : State) : Prop :=
  t.rd (LDS_LQ_STAT.SD n) = s.rd (LDS_LQ_STAT.SD n) ∧ t.rd (LDS_LQ_STAT.SD_EV n) = s.rd (LDS_LQ_STAT.SD_EV n) ∧
  t.rd (LDS_LQ_SNR.SNR n) = s.rd (LDS_LQ_SNR.SNR n) ∧
  t.rd (IRQ_PEND (sourceOf n 0x26)) = s.rd (IRQ_PEND (sourceOf n 0x26))

section
variable {n : Fin 4} {q : Quality} {s : State} {valid rsz now : Bool}

/-- The notice of a window's end: source 0x25 and the overflow of the channel's counters. -/
theorem windowNotice_lds {f : Field} (hf : IsLds n f) : ¬ noticeKey [sourceOf n 0x25] [n.val] f.key :=
  not_noticeKey_lds (by simpa using sourceOf_lt (by decide)) (by simpa using by omega) hf

theorem endWindow_sameDegrade : SameDegrade n s (s.endWindow n q valid rsz now) := by
  have hkept := endWindow_fieldsKept n q valid rsz now s
  have hkeys := laterFields_keys n
  have hpend : ¬ noticeKey [sourceOf n 0x25] [n.val] (IRQ_PEND (sourceOf n 0x26)).key :=
    not_noticeKey_pend (by simpa using sourceOf_lt (by decide)) (by simpa using by omega) (sourceOf_lt (by decide))
      (degradeSource_not_noticed n)
  exact ⟨hkept _ (windowNotice_lds (isLds_sd n)) (fun g hg => (hkeys g hg).1),
    hkept _ (windowNotice_lds (isLds_sdEv n)) (fun g hg => (hkeys g hg).2.1),
    hkept _ (windowNotice_lds (isLds_snr n)) (fun g hg => (hkeys g hg).2.2.1),
    hkept _ hpend (fun g hg => (hkeys g hg).2.2.2)⟩

theorem endWindow_valid : (s.endWindow n q valid rsz now).rd (LDS_LQ_STAT.VALID n) = if valid then 1 else 0 := by
  rw [State.endWindow, closeWindow_fieldsKept _ _ _ _ _ _ _ (windowNotice_lds (isLds_valid n)) (closeFields_keys n),
    State.flag, rd_put_same]
  cases valid <;> rfl

end

/-! ## The rule -/

/-- What R153 asks of the state t after a window that ends in state s. -/
def DegradeRule (n : Fin 4) (s t : State) : Prop :=
  (t.rd (LDS_LQ_STAT.VALID n) = 1 → t.rd (LDS_LQ_SNR.SNR n) < s.rd (LDS_LQ_CTRL.SD_THR n) →
    t.rd (LDS_LQ_STAT.SD n) = 1) ∧
  (t.rd (LDS_LQ_STAT.SD n) = 1 → s.rd (LDS_LQ_STAT.SD n) = 0 →
    t.rd (LDS_LQ_STAT.SD_EV n) = 1 ∧ t.rd (IRQ_PEND (sourceOf n 0x26)) = 1) ∧
  (t.rd (LDS_LQ_STAT.VALID n) = 1 → s.rd (LDS_LQ_CTRL.SD_THR n) + 50 ≤ t.rd (LDS_LQ_SNR.SNR n) →
    t.rd (LDS_LQ_STAT.SD n) = 0) ∧
  (t.rd (LDS_LQ_STAT.VALID n) = 1 → s.rd (LDS_LQ_CTRL.SD_THR n) ≤ t.rd (LDS_LQ_SNR.SNR n) →
    t.rd (LDS_LQ_SNR.SNR n) < s.rd (LDS_LQ_CTRL.SD_THR n) + 50 →
    t.rd (LDS_LQ_STAT.SD n) = s.rd (LDS_LQ_STAT.SD n)) ∧
  (t.rd (LDS_LQ_STAT.VALID n) = 0 → t.rd (LDS_LQ_STAT.SD n) = s.rd (LDS_LQ_STAT.SD n))

section
variable {n : Fin 4} {q : Quality} {s t : State}

/-- A window without VALID that keeps SD follows the rule. -/
theorem degradeRule_of_not_valid (hv : t.rd (LDS_LQ_STAT.VALID n) = 0)
    (hsd : t.rd (LDS_LQ_STAT.SD n) = s.rd (LDS_LQ_STAT.SD n)) : DegradeRule n s t := by
  have hno : ¬ t.rd (LDS_LQ_STAT.VALID n) = 1 := by omega
  exact ⟨fun h => absurd h hno, fun h1 h0 => by omega, fun h => absurd h hno, fun h => absurd h hno, fun _ => hsd⟩

theorem snrFigures_snr (h0 : s.rd (LDS_LQ_CTRL.SD_THR n) ≠ 0) :
    (s.snrFigures n q).rd (LDS_LQ_SNR.SNR n) = q.snr % 2 ^ 16 := by
  obtain hb | hl := lt_or_ge q.snr (s.rd (LDS_LQ_CTRL.SD_THR n))
  · rw [snrFigures_below hb]
    cases s.on (LDS_LQ_STAT.SD n)
    · exact setDegrade_snr.trans latchSnr_snr
    · exact latchSnr_snr
  · obtain hh | ha := lt_or_ge q.snr (s.rd (LDS_LQ_CTRL.SD_THR n) + 50)
    · rw [snrFigures_between hl hh, latchSnr_snr]
    · rw [snrFigures_above h0 ha, rd_put_other _ _ (degrade_keys n).1, latchSnr_snr]

theorem snrFigures_sd_below (h : q.snr < s.rd (LDS_LQ_CTRL.SD_THR n)) :
    (s.snrFigures n q).rd (LDS_LQ_STAT.SD n) = 1 := by
  rw [snrFigures_below h]
  cases hon : s.on (LDS_LQ_STAT.SD n)
  · exact setDegrade_sd
  · exact latchSnr_sd.trans (by simpa [State.on] using hon)

/-- SD that was clear is set with its event and its source. -/
theorem snrFigures_sets_below (h : q.snr < s.rd (LDS_LQ_CTRL.SD_THR n)) (hs : s.rd (LDS_LQ_STAT.SD n) = 0) :
    (s.snrFigures n q).rd (LDS_LQ_STAT.SD_EV n) = 1 ∧ (s.snrFigures n q).rd (IRQ_PEND (sourceOf n 0x26)) = 1 := by
  have hoff : s.on (LDS_LQ_STAT.SD n) = false := by simp [State.on, hs]
  rw [snrFigures_below h, hoff]
  exact ⟨setDegrade_sdEv, setDegrade_pend⟩

theorem snrFigures_sd_above (h0 : s.rd (LDS_LQ_CTRL.SD_THR n) ≠ 0) (h : s.rd (LDS_LQ_CTRL.SD_THR n) + 50 ≤ q.snr) :
    (s.snrFigures n q).rd (LDS_LQ_STAT.SD n) = 0 := by
  rw [snrFigures_above h0 h, rd_put_same, Nat.zero_mod]

theorem snrFigures_sd_between (hl : s.rd (LDS_LQ_CTRL.SD_THR n) ≤ q.snr)
    (hh : q.snr < s.rd (LDS_LQ_CTRL.SD_THR n) + 50) :
    (s.snrFigures n q).rd (LDS_LQ_STAT.SD n) = s.rd (LDS_LQ_STAT.SD n) := by
  rw [snrFigures_between hl hh, latchSnr_sd]

/-- SD is set from clear only by an SNR below the threshold. -/
theorem snrFigures_below_of_set (h0 : s.rd (LDS_LQ_CTRL.SD_THR n) ≠ 0)
    (ht : (s.snrFigures n q).rd (LDS_LQ_STAT.SD n) = 1) (hs : s.rd (LDS_LQ_STAT.SD n) = 0) :
    q.snr < s.rd (LDS_LQ_CTRL.SD_THR n) := by
  by_contra hl
  obtain hh | ha := lt_or_ge q.snr (s.rd (LDS_LQ_CTRL.SD_THR n) + 50)
  · rw [snrFigures_sd_between (Nat.le_of_not_lt hl) hh] at ht; omega
  · rw [snrFigures_sd_above h0 ha] at ht; omega

/-- A window that judged SD, and shows it unchanged after, follows the rule. -/
theorem degradeRule_of_judged (h0 : s.rd (LDS_LQ_CTRL.SD_THR n) ≠ 0) (hq : q.snr < 2 ^ 16)
    (hv : t.rd (LDS_LQ_STAT.VALID n) = 1) (hsame : SameDegrade n (s.snrFigures n q) t) : DegradeRule n s t := by
  obtain ⟨hsd, hev, hsnr, hpend⟩ := hsame
  rw [snrFigures_snr h0, Nat.mod_eq_of_lt hq] at hsnr
  simp only [DegradeRule, hsd, hev, hsnr, hpend, hv]
  exact ⟨fun _ hb => snrFigures_sd_below hb,
    fun ht hs => snrFigures_sets_below (snrFigures_below_of_set h0 ht hs) hs,
    fun _ ha => snrFigures_sd_above h0 ha, fun _ hl hh => snrFigures_sd_between hl hh,
    fun hno => absurd hno (by decide)⟩

/-- A window whose figures are computed follows the rule. -/
theorem lqWindow_degradeRule (h0 : s.rd (LDS_LQ_CTRL.SD_THR n) ≠ 0) : DegradeRule n s (s.lqWindow n) := by
  cases hp : s.on (LDS_EQ_STAT.PSYNC n)
  case false =>
    obtain ⟨rsz, now, heq⟩ := lqWindow_eq_of_not_valid hp
    rw [heq]
    exact degradeRule_of_not_valid endWindow_valid endWindow_sameDegrade.1
  case true =>
    obtain ⟨rsz, now, heq⟩ := lqWindow_eq_of_valid hp
    rw [heq]
    have hjudged := degradeRule_of_judged (s := (s.quality n).2) (by rwa [quality_rd]) (quality_snr_lt n s)
      endWindow_valid (endWindow_sameDegrade (valid := true) (q := (s.quality n).1) (rsz := rsz) (now := now))
    simpa only [DegradeRule, quality_rd] using hjudged

/-- Where no figures are computed, VALID clears and SD stays. -/
theorem clearValid_degradeRule :
    DegradeRule n s (s.clear [LDS_LQ_STAT.VALID n, LDS_LQ_STAT.BERV n]) := by
  have hberv : ∀ m : Fin 4, (LDS_LQ_STAT.VALID m).key ≠ (LDS_LQ_STAT.BERV m).key := by decide
  have hkeys : ∀ m : Fin 4, ∀ g ∈ [LDS_LQ_STAT.VALID m, LDS_LQ_STAT.BERV m], g.key ≠ (LDS_LQ_STAT.SD m).key := by decide
  refine degradeRule_of_not_valid ?_ (sameFields_clear (.refl _ s) (fun _ h => h) _ (hkeys n))
  exact (rd_put_other _ _ (hberv n)).trans ((rd_put_same ..).trans rfl)

end

/-- Settles O60, by the case split of the window's end: no figures computed, figures without pilots, or figures with pilots,
where the comparator judges SD. -/
theorem signalDegradeFollowsSnr : Obligations.SignalDegradeFollowsSnr := by
  intro s n h0
  refine ⟨_, rfl, ?_⟩
  have hrule : DegradeRule n s
      (if s.figures n then s.lqWindow n else s.clear [LDS_LQ_STAT.VALID n, LDS_LQ_STAT.BERV n]) := by
    split
    · exact lqWindow_degradeRule h0
    · exact clearValid_degradeRule
  simpa only [DegradeRule, onDsp_rd] using hrule

end Sys2Proof.Machine
end

section
/-! SUPPORT. Refused accesses (R438 to R441): what the record of a refusal writes and leaves alone, and which accesses are
answered by that record alone. -/

namespace Sys2Proof.Machine

/-! ## The record of a refusal (R441) -/

/-- No event is noticed in a word of the MGT block. -/
theorem not_noticeKey_mgt {src pmc : List Nat} (hs : ∀ M ∈ src, M < 2048) {k : Nat}
    (hlo : 8 * 0x90000 ≤ k) (hhi : k < 8 * 0xA0000) : ¬ noticeKey src pmc k := by
  rintro (⟨N, hN, hk⟩ | ⟨b, -, hk⟩)
  · have hlt := noticed_lt hs hN
    obtain rfl | rfl | ⟨i, -, rfl | rfl⟩ := hk
    · simp only [Field.key, IRQ_PEND] at hhi hlo; omega
    · simp only [Field.key, IRQ_CFG.ARRIVE] at hhi hlo; omega
    · simp only [Field.key, SUPC.PEND, cell] at hhi; omega
    · simp only [Field.key, SUPC.ARRIVE, cell] at hhi; omega
  · have hbase : pmcBase b = 0x40000 ∨ 0x1800000 ≤ pmcBase b := by
      unfold pmcBase chanStride; split <;> omega
    obtain rfl | rfl | ⟨i, -, rfl | rfl⟩ := hk
    · simp only [Field.key, PMC_CH_STAT.OVF_EV] at hhi hlo; omega
    · simp only [Field.key, PMC_CH_STAT.WRAP_EV] at hhi hlo; omega
    · simp only [Field.key, PMC.CNT, cell] at hhi; omega
    · simp only [Field.key, PMC.STICKY, cell] at hhi; omega

/-- MGT_REFUSE and MGT_REFUSE_INFO name the access. -/
def State.nameRefusal (win addr reason : Nat) (read : Bool) (s : State) : State :=
  s.put MGT_REFUSE.ADDR addr |>.flag MGT_REFUSE_INFO.RD read |>.put MGT_REFUSE_INFO.WIN win
    |>.put MGT_REFUSE_INFO.REASON reason |>.bump MGT_REFUSE_INFO.COUNT

/-- Entry p of MGT_RLOG is written, and the pointer moves past it. -/
def State.logRefusal (p win addr value reason : Nat) (read : Bool) (s : State) : State :=
  let e := 0x8F00000 + 32 * p
  s.put64 e s.time |>.put64 (e + 8) (value * 2 ^ 32 + addr % 2 ^ 28)
    |>.put64 (e + 16) ((if read then 2 ^ 12 else 0) + win * 256 + reason) |>.put64 (e + 24) 0
    |>.when (p = 255) (·.put MGT_RLOG_PTR.WRAP 1) |>.addWrap MGT_RLOG_PTR.PTR 1

theorem refuse_eq (win addr value reason : Nat) (read : Bool) (s : State) :
    s.refuse win addr value reason read =
      ((s.nameRefusal win addr reason read).logRefusal (s.rd MGT_RLOG_PTR.PTR) win addr value reason read
        |>.raise 128 |>.count 4 .sup 0x04) := rfl

/-- The fields that name the access. -/
def refusalNames : List Field :=
  [MGT_REFUSE.ADDR, MGT_REFUSE_INFO.RD, MGT_REFUSE_INFO.WIN, MGT_REFUSE_INFO.REASON, MGT_REFUSE_INFO.COUNT]

/-- The fields that entry p of the log writes. -/
def refusalLog (p : Nat) : List Field :=
  [MGT_RLOG_PTR.WRAP, MGT_RLOG_PTR.PTR] ++ (List.range 8).map (fun i => tableWord (0x8F00000 + 32 * p + 4 * i))

theorem refuseFields_eq (s : State) : s.refuseFields = refusalNames ++ refusalLog (s.rd MGT_RLOG_PTR.PTR) := rfl

theorem refusalNames_in_mgt : ∀ f ∈ refusalNames, 8 * 0x90000 ≤ f.key ∧ f.key < (MGT_RLOG_PTR.PTR).key := by decide

/-- The log stands above the fields that name the access. -/
theorem refusalLog_keys {p : Nat} {f : Field} (hf : f ∈ refusalNames) : ∀ g ∈ refusalLog p, g.key ≠ f.key := by
  have hlt : f.key < 8 * 0x90048 := (refusalNames_in_mgt f hf).2
  intro g hg
  obtain hg | hg := List.mem_append.1 hg
  · have hge : ∀ g ∈ [MGT_RLOG_PTR.WRAP, MGT_RLOG_PTR.PTR], 8 * 0x90048 ≤ g.key := by decide
    have := hge g hg
    omega
  · obtain ⟨i, -, rfl⟩ := List.mem_map.1 hg
    simp only [Field.key, tableWord]
    simp only [Field.key] at hlt
    omega

section
variable {win addr value reason p : Nat} {read : Bool} {s t : State}

theorem sameFields_put64_of {l : List Field} {a v : Nat} (h : SameFields l s t) (hlo : tableWord a ∈ l)
    (hhi : tableWord (a + 4) ∈ l) : SameFields l s (t.put64 a v) :=
  sameFields_put_of (sameFields_put_of h hlo) hhi

theorem nameRefusal_sameFields : SameFields refusalNames s (s.nameRefusal win addr reason read) := by
  unfold State.nameRefusal State.flag State.bump State.addSat
  iterate 5 refine sameFields_put_of ?_ (by simp [refusalNames])
  exact .refl _ s

theorem tableWord_mem_refusalLog {i : Nat} (hi : i < 8) : tableWord (0x8F00000 + 32 * p + 4 * i) ∈ refusalLog p :=
  List.mem_append_right _ (List.mem_map.2 ⟨i, List.mem_range.2 hi, rfl⟩)

theorem logRefusal_sameFields : SameFields (refusalLog p) s (s.logRefusal p win addr value reason read) := by
  have word : ∀ i, i < 8 → tableWord (0x8F00000 + 32 * p + 4 * i) ∈ refusalLog p := fun _ => tableWord_mem_refusalLog
  have hentry : ∀ {a b c d}, SameFields (refusalLog p) s
      ((((s.put64 (0x8F00000 + 32 * p) a).put64 (0x8F00000 + 32 * p + 8) b).put64 (0x8F00000 + 32 * p + 16) c).put64
        (0x8F00000 + 32 * p + 24) d) := by
    intros
    refine sameFields_put64_of ?_ (word 6 (by decide)) (word 7 (by decide))
    refine sameFields_put64_of ?_ (word 4 (by decide)) (word 5 (by decide))
    refine sameFields_put64_of ?_ (word 2 (by decide)) (word 3 (by decide))
    exact sameFields_put64_of (.refl _ s) (word 0 (by decide)) (word 1 (by decide))
  have hwrap : MGT_RLOG_PTR.WRAP ∈ refusalLog p := List.mem_append_left _ (by decide)
  have hptr : MGT_RLOG_PTR.PTR ∈ refusalLog p := List.mem_append_left _ (by decide)
  exact sameFields_put_of (sameFields_when hentry (sameFields_put_of hentry hwrap)) hptr

/-- A refusal changes its record and the notice of it. -/
theorem refuse_fieldsKept : FieldsKept s.refuseFields [128] [4] s (s.refuse win addr value reason read) := by
  rw [refuse_eq, refuseFields_eq]
  refine fieldsKept_count (fieldsKept_raise (SameFields.kept ?_) (noticed_of_mem (by decide))) (by decide)
  exact (nameRefusal_sameFields.mono fun _ => List.mem_append_left _).trans
    (logRefusal_sameFields.mono fun _ => List.mem_append_right _)

/-- The log and the notice leave the fields that name the access as they were put. -/
theorem refuse_rd_name {f : Field} (hf : f ∈ refusalNames) :
    (s.refuse win addr value reason read).rd f = (s.nameRefusal win addr reason read).rd f := by
  obtain ⟨hlo, hhi⟩ := refusalNames_in_mgt f hf
  have hkept : FieldsKept (refusalLog (s.rd MGT_RLOG_PTR.PTR)) [128] [4] (s.nameRefusal win addr reason read)
      (s.refuse win addr value reason read) :=
    fieldsKept_count (fieldsKept_raise logRefusal_sameFields.kept (noticed_of_mem (by decide))) (by decide)
  exact hkept f (not_noticeKey_mgt (by decide) hlo (hhi.trans (by decide))) (refusalLog_keys hf)

theorem refuse_addr : (s.refuse win addr value reason read).rd MGT_REFUSE.ADDR = addr % 2 ^ 28 := by
  rw [refuse_rd_name (by decide), State.nameRefusal, State.flag, State.bump, State.addSat]
  iterate 4 rw [rd_put_other (h := by decide)]
  exact rd_put_same ..

theorem refuse_read : (s.refuse win addr value reason read).on MGT_REFUSE_INFO.RD = read := by
  rw [State.on, refuse_rd_name (by decide), State.nameRefusal, State.flag, State.bump, State.addSat]
  iterate 3 rw [rd_put_other (h := by decide)]
  rw [rd_put_same]
  cases read <;> rfl

theorem refuse_win (hw : win < 8) : (s.refuse win addr value reason read).rd MGT_REFUSE_INFO.WIN = win := by
  rw [refuse_rd_name (by decide), State.nameRefusal, State.flag, State.bump, State.addSat]
  iterate 2 rw [rd_put_other (h := by decide)]
  rw [rd_put_same]
  exact Nat.mod_eq_of_lt hw

theorem refuse_reason (hr : reason < 16) : (s.refuse win addr value reason read).rd MGT_REFUSE_INFO.REASON = reason := by
  rw [refuse_rd_name (by decide), State.nameRefusal, State.flag, State.bump, State.addSat, rd_put_other (h := by decide),
    rd_put_same]
  exact Nat.mod_eq_of_lt hr

theorem refuse_count :
    (s.refuse win addr value reason read).rd MGT_REFUSE_INFO.COUNT = s.oneMore MGT_REFUSE_INFO.COUNT := by
  rw [refuse_rd_name (by decide), State.nameRefusal, State.flag, State.bump, State.addSat, rd_put_same]
  iterate 4 rw [rd_put_other (h := by decide)]
  exact Nat.mod_eq_of_lt (Nat.lt_of_le_of_lt (Nat.min_le_right ..) (by decide))

theorem refuse_pend : (s.refuse win addr value reason read).rd (IRQ_PEND 128) = 1 := by
  have hcount : ∀ u : State, (u.count 4 .sup 0x04).rd (IRQ_PEND 128) = u.rd (IRQ_PEND 128) := fun u =>
    fieldsKept_count (l := []) (src := []) (pmc := [4]) (.refl _ _ _ u) (by decide) _
      (not_noticeKey_pend (by simp) (by decide) (by decide) (by decide)) (by simp)
  rw [refuse_eq, hcount]
  exact raise_pend (by decide)

/-- A refusal is recorded as R441 asks. -/
theorem refuse_refusedAs (hw : win < 8) (hr : reason < 16) :
    s.refusedAs (s.refuse win addr value reason read) win addr reason read :=
  ⟨refuse_addr, refuse_read, refuse_win hw, refuse_reason hr, refuse_count, refuse_pend, refuse_fieldsKept⟩

/-- A refusal touches no table. -/
theorem refuse_sameArea (x : Area) : SameArea s (s.refuse win addr value reason read) x :=
  (kept_refuse (A := fun _ => False) (.refl s)).same x id

@[simp] theorem refuse_out : (s.refuse win addr value reason read).out = s.out := refuse_sameArea .out
@[simp] theorem refuse_ch : (s.refuse win addr value reason read).ch = s.ch := refuse_sameArea .ch
@[simp] theorem refuse_flow : (s.refuse win addr value reason read).flow = s.flow := refuse_sameArea .flow

end

/-! ## Accesses that are refused -/

section
variable {s : State}

/-- A read of BAR0 above the window's level is refused and returns 0 (R440). -/
theorem readAt_of_level_lt {win a : Nat} (hans : s.answers = true) (ha : a < 0x50000000)
    (hlvl : s.level win < readLevel a) : s.readAt win a = (s.refuse win a 0 1 true).emit (.readData a 0) := by
  have hbar : ¬ 0x52000000 ≤ a ∧ ¬ 0x50000000 ≤ a := by omega
  simp [State.readAt, State.hostRead, hbar, hans, hlvl]

/-- A write that is refused whole changes nothing but the record (R441). -/
theorem hostWrite_of_wholeReason {w : Wr} {h : Hook} {r : Nat} (hans : s.answers = true) (hfs : s.fieldsAt w.addr ≠ [])
    (hr : s.wholeReason w (s.fieldsAt w.addr) = r) (hr0 : r ≠ 0) :
    s.hostWrite w h = s.refuse w.win w.addr w.value r false := by
  subst hr
  simp [State.hostWrite, hans, hfs, hr0]

/-- A window that may write none of the writable fields of a word is refused whole, with reason 0x1 (R438). -/
theorem wholeReason_of_level_lt {w : Wr} {fs : List FSpec} (hany : fs.any FSpec.writable = true)
    (hlvl : ∀ f ∈ fs, f.writable = true → s.level w.win < f.wpriv) : s.wholeReason w fs = 1 := by
  have hall : fs.all (fun f => !f.writable || s.level w.win < f.wpriv) = true := by
    refine List.all_eq_true.2 fun f hf => ?_
    cases hw : f.writable
    · rfl
    · simpa using hlvl f hf hw
  simp only [State.wholeReason, hany, hall, Bool.and_self, Bool.or_true, if_true]

/-- A whole word that a window may write is not refused whole. -/
theorem wholeReason_of_open {w : Wr} {fs : List FSpec} {f : FSpec} (hopen : s.writeOpen w.win f.wpriv) (hbe : w.be = 15)
    (hf : f ∈ fs) (hw : f.writable = true) (hpriv : 0 < f.wpriv) : s.wholeReason w fs = 0 := by
  obtain ⟨-, hlvl, hwarn⟩ := hopen
  have hzero : s.level w.win ≠ 0 := by omega
  have hall : fs.all (fun f => !f.writable || s.level w.win < f.wpriv) = false :=
    List.all_eq_false.2 ⟨f, hf, by simp [hw, hlvl]⟩
  simp [State.wholeReason, hzero, hall, hwarn, hbe]

/-- A write-only field that the window may write is not refused of itself. -/
theorem fieldReason_of_wo {lvl v : Nat} {f : FSpec} (hacc : f.acc = .wo) (hlvl : f.wpriv ≤ lvl) :
    s.fieldReason lvl f v = 0 := by
  simp [State.fieldReason, hacc, Nat.not_lt.2 hlvl]

theorem applyField_of_wo {a v : Nat} {f : FSpec} (hacc : f.acc = .wo) : s.applyField a f v = s := by
  simp [State.applyField, hacc]

/-- The fields of a command word that the window may write, each with its value and what the hook refuses it for. -/
def State.judgeCommand (s : State) (w : Wr) (h : Hook) (f : FSpec) : FSpec × Nat × Nat :=
  (f, f.fld.of w.value, h.reason s f.fld (f.fld.of w.value))

/-- Every field is a command that a level may give. -/
def CommandsOf (lvl : Nat) (fs : List FSpec) : Prop := ∀ f ∈ fs, f.acc = .wo ∧ f.wpriv ≤ lvl

/-- In a word of commands only the hook judges. -/
theorem judged_of_commands {w : Wr} {h : Hook} {lvl : Nat} {fs : List FSpec} (hfs : CommandsOf lvl fs) :
    fs.map (fun f => (f, f.fld.of w.value,
      if s.fieldReason lvl f (f.fld.of w.value) = 0 && f.writable then h.reason s f.fld (f.fld.of w.value)
      else s.fieldReason lvl f (f.fld.of w.value))) = fs.map (s.judgeCommand w h) := by
  refine List.map_congr_left fun f hf => ?_
  obtain ⟨hacc, hlvl⟩ := hfs f hf
  simp [State.judgeCommand, fieldReason_of_wo hacc hlvl, FSpec.writable, hacc]

/-- The commands of a word that are carried out. -/
def State.takenCommands (s : State) (w : Wr) (h : Hook) (fs : List FSpec) : List (FSpec × Nat × Nat) :=
  (fs.map (s.judgeCommand w h)).filter (fun j => j.1.writable && j.2.2 = 0)

theorem mem_of_taken {w : Wr} {h : Hook} {fs : List FSpec} {j : FSpec × Nat × Nat} (hj : j ∈ s.takenCommands w h fs) :
    j.1 ∈ fs := by
  obtain ⟨f, hf, rfl⟩ := List.mem_map.1 (List.mem_filter.1 hj).1
  exact hf

/-- Commands that are carried out put no field: what they do is the hook's. -/
theorem each_applyField_of_commands {a : Nat} {l : List (FSpec × Nat × Nat)} (hl : ∀ j ∈ l, j.1.acc = .wo) :
    s.each l (fun j t => t.applyField a j.1 j.2.1) = s := by
  induction l with
  | nil => rfl
  | cons j l ih =>
    rw [State.each, List.foldl_cons, applyField_of_wo (hl j (List.mem_cons_self ..))]
    exact ih fun k hk => hl k (List.mem_cons_of_mem _ hk)

/-- A word of commands whose first the hook refuses, and whose others do nothing by themselves, is answered by the record of
that refusal alone. -/
theorem hostWrite_of_refused_command {w : Wr} {h : Hook} {r : Nat} {f : FSpec} {rest : List FSpec}
    (hopen : s.writeOpen w.win f.wpriv) (hbe : w.be = 15) (hpriv : 0 < f.wpriv) (hfs : s.fieldsAt w.addr = f :: rest)
    (hcmd : CommandsOf f.wpriv (f :: rest)) (hr : h.reason s f.fld (f.fld.of w.value) = r) (hr0 : r ≠ 0)
    (hidle : ∀ l, (∀ p ∈ l, p.1 ∈ rest.map (·.fld)) → h.act l s = (s, 0)) :
    s.hostWrite w h = s.refuse w.win w.addr w.value r false := by
  have ⟨hans, hlvl, _⟩ := hopen
  have hwrit : f.writable = true := by simp [FSpec.writable, (hcmd f (List.mem_cons_self ..)).1]
  have hwhole : s.wholeReason w (f :: rest) = 0 := wholeReason_of_open hopen hbe (List.mem_cons_self ..) hwrit hpriv
  have hcmds : CommandsOf (s.level w.win) (f :: rest) := fun g hg => ⟨(hcmd g hg).1, (hcmd g hg).2.trans hlvl⟩
  have hfirst : s.judgeCommand w h f = (f, f.fld.of w.value, r) := by rw [State.judgeCommand, hr]
  have htaken : ((f :: rest).map (s.judgeCommand w h)).filter (fun j => j.1.writable && j.2.2 = 0) =
      s.takenCommands w h rest := by simp [State.takenCommands, hfirst, hr0]
  have heach : s.each (s.takenCommands w h rest) (fun j t => t.applyField w.addr j.1 j.2.1) = s :=
    each_applyField_of_commands fun j hj => (hcmd _ (List.mem_cons_of_mem _ (mem_of_taken hj))).1
  have hact : h.act ((s.takenCommands w h rest).map (fun j => (j.1.fld, j.2.1))) s = (s, 0) := by
    refine hidle _ fun p hp => ?_
    obtain ⟨j, hj, rfl⟩ := List.mem_map.1 hp
    exact List.mem_map_of_mem (mem_of_taken hj)
  have hfind : ((f :: rest).map (s.judgeCommand w h)).find? (fun j => j.2.2 ≠ 0) = some (f, f.fld.of w.value, r) := by
    simp [hfirst, hr0]
  simp only [State.hostWrite, hfs, hans, hwhole, judged_of_commands hcmds, htaken, heach, hact, hfind]
  rfl

end

/-! ## FORCE (R197, R249) -/

section
variable {s : State} {n : Fin 4}

/-- The row of FEC_ENG_CMD in the map (Table 8.11). -/
theorem findReg_engineCmd : ∀ n : Fin 4, findReg (chanAddr n 0x300020) =
    some ((⟨0x1300020, [(4, 0x1000000)], 1, .plain, [⟨FEC_ENG_CMD.FORCE 0, .wo, .live, 3, .any⟩]⟩ : Reg),
      0x1000000 * n.val) := by decide

/-- The row of HST_LANE_CMD in the map (Table 10.7). -/
theorem findReg_laneCmd : ∀ n : Fin 4, findReg (chanAddr n 0x600020) =
    some ((⟨0x1600020, [(4, 0x1000000)], 1, .plain,
      [⟨HST_LANE_CMD.FORCE 0, .wo, .live, 3, .any⟩, ⟨HST_LANE_CMD.LANE 0, .wo, .live, 3, .any⟩]⟩ : Reg),
      0x1000000 * n.val) := by decide

theorem fieldsAt_engineCmd : s.fieldsAt (chanAddr n 0x300020) = [⟨FEC_ENG_CMD.FORCE n, .wo, .live, 3, .any⟩] := by
  rw [State.fieldsAt, findReg_engineCmd]
  match n with
  | 0 | 1 | 2 | 3 => rfl

theorem fieldsAt_laneCmd : s.fieldsAt (chanAddr n 0x600020) =
    [⟨HST_LANE_CMD.FORCE n, .wo, .live, 3, .any⟩, ⟨HST_LANE_CMD.LANE n, .wo, .live, 3, .any⟩] := by
  rw [State.fieldsAt, findReg_laneCmd]
  match n with
  | 0 | 1 | 2 | 3 => rfl

theorem wroteOne_of_absent {l : List (Field × Nat)} {f : Field} (h : ∀ p ∈ l, p.1 ≠ f) : wroteOne l f = false := by
  have hnone : l.find? (fun p => p.1 = f) = none := List.find?_eq_none.2 (by simpa using h)
  simp [wroteOne, wrote, hnone]

/-- FORCE of an engine that may not be forced is refused with reason 0x5. -/
theorem execEngineForce_of_refused {win : Fin 7} {value : Word} {e : Nat} (hopen : s.writeOpen win 3)
    (hforce : (FEC_ENG_CMD.FORCE n).of value.toNat = 1) (hsel : s.rd (FEC_ENG_SEL.ENGINE n) = e)
    (href : s.engineRefused n e = true) :
    exec (.engineForce win n value 15) s = .next (s.refuse win (chanAddr n 0x300020) value.toNat 5 false) := by
  refine congrArg Host.Outcome.next (hostWrite_of_refused_command (rest := []) hopen rfl (Nat.zero_lt_succ 2)
    fieldsAt_engineCmd (by simp [CommandsOf]) ?_ (by decide) ?_)
  · simp [engineForceHook, hforce, hsel, href, badState]
  · intro l hl
    have hoff := wroteOne_of_absent (f := FEC_ENG_CMD.FORCE n) fun p hp => absurd (hl p hp) (by simp)
    simp [engineForceHook, hoff]

/-- FORCE of a fenced lane is refused with reason 0x5. -/
theorem execLaneForce_of_fenced {win : Fin 7} {value : Word} {l : Nat} (hopen : s.writeOpen win 3)
    (hforce : (HST_LANE_CMD.FORCE n).of value.toNat = 1) (hlane : (HST_LANE_CMD.LANE n).of value.toNat = l)
    (hfenced : s.on (HST_LSTAT_L.FENCED n l) = true) :
    exec (.laneForce win n value 15) s = .next (s.refuse win (chanAddr n 0x600020) value.toNat 5 false) := by
  refine congrArg Host.Outcome.next (hostWrite_of_refused_command (rest := [⟨HST_LANE_CMD.LANE n, .wo, .live, 3, .any⟩])
    hopen rfl (Nat.zero_lt_succ 2) fieldsAt_laneCmd (by simp [CommandsOf]) ?_ (by decide) ?_)
  · simp [laneForceHook, hforce, hlane, hfenced, badState]
  · intro w hw
    have hne : HST_LANE_CMD.LANE n ≠ HST_LANE_CMD.FORCE n := by simp [HST_LANE_CMD.LANE, HST_LANE_CMD.FORCE]
    have hoff := wroteOne_of_absent (f := HST_LANE_CMD.FORCE n) fun p hp => by
      rw [List.mem_singleton.1 (hw p hp)]
      exact hne
    simp [laneForceHook, hoff]

/-- A number whose only bit among the lowest k is bit e counts one. -/
theorem popcount_of_single_bit {v e : Nat} {k : Nat} (h : ∀ d < k, bit v d = if d = e then 1 else 0) :
    popcount v k = if e < k then 1 else 0 := by
  induction k with
  | zero => rfl
  | succ k ih =>
    rw [popcount, ih fun d hd => h d (Nat.lt_succ_of_lt hd), h k (Nat.lt_succ_self k)]
    split <;> split <;> split <;> omega

/-- The last ACTIVE engine of a channel that is not DARK may not be forced. -/
theorem engineRefused_of_last {e : Fin 24} (hact : ∀ d : Fin 24, s.rdBit (FEC_ENG_ACT.ACTIVE n) d = (d == e))
    (hdark : s.chSt n ≠ ChSt.dark) : s.engineRefused n e = true := by
  have hbits : ∀ d < 24, bit (s.rd (FEC_ENG_ACT.ACTIVE n)) d = if d = e.val then 1 else 0 := by
    intro d hd
    have hbit : bit (s.rd (FEC_ENG_ACT.ACTIVE n)) d < 2 := Nat.mod_lt _ (by decide)
    have hd' := hact ⟨d, hd⟩
    simp only [State.rdBit, Fin.ext_iff, beq_eq_decide, decide_eq_decide] at hd'
    split <;> omega
  have hone : popcount (s.rd (FEC_ENG_ACT.ACTIVE n)) 24 = 1 := by rw [popcount_of_single_bit hbits, if_pos e.isLt]
  have hself : s.rdBit (FEC_ENG_ACT.ACTIVE n) e = true := by simp [hact]
  simp [State.engineRefused, hone, hself, hdark]

end

/-! ## The obligation -/

/-- A read that is refused, in the words of the obligation. -/
theorem refusedRead_exists {s : State} {win : Fin 7} {a : Nat} {r : Answer}
    (h : r = .next ((s.refuse win a 0 1 true).emit (.readData a 0))) :
    ∃ t, r = .next t ∧ t.out = .readData a 0 :: s.out ∧ s.refusedAs t win a 1 true ∧ t.ch = s.ch ∧ t.flow = s.flow :=
  ⟨_, h, by simp, refuse_refusedAs (win.isLt.trans (by decide)) (by decide), refuse_ch, refuse_flow⟩

/-- A write that is refused, in the words of the obligation. -/
theorem refusedWrite_exists {s : State} {win : Fin 7} {a v reason : Nat} {r : Answer} (hr : reason < 16)
    (h : r = .next (s.refuse win a v reason false)) :
    ∃ t, r = .next t ∧ s.refusedAs t win a reason false ∧ t.out = s.out ∧ t.ch = s.ch ∧ t.flow = s.flow :=
  ⟨_, h, refuse_refusedAs (win.isLt.trans (by decide)) hr, refuse_out, refuse_ch, refuse_flow⟩

/-- A write of a channel's command word that is refused for the state of its unit, in the words of the obligation. -/
theorem refusedCommand_exists {s : State} {win : Fin 7} {n off v : Nat} {r : Answer}
    (h : r = .next (s.refuse win (chanAddr n off) v 5 false)) :
    ∃ t, r = .next t ∧ s.refusedAs t win (0x1000000 + off + 0x1000000 * n) 5 false ∧ t.out = s.out ∧ t.ch = s.ch ∧
      t.flow = s.flow := by
  have haddr : chanAddr n off = 0x1000000 + off + 0x1000000 * n := by unfold chanAddr; omega
  rw [haddr] at h
  exact refusedWrite_exists (by decide) h

/-- A write of a word none of whose writable fields the window may write is refused whole. -/
theorem execRegisterWrite_of_level_lt {s : State} {win : Fin 7} {addr value : Word} {be : Fin 16}
    (hans : s.answers = true) (haddr : addr.toNat < 0x50000000) (hdrop : dropsWrite addr.toNat = false)
    (hany : (s.fieldsAt addr.toNat).any FSpec.writable = true)
    (hlvl : ∀ f ∈ s.fieldsAt addr.toNat, f.writable = true → s.level win < f.wpriv) :
    exec (.registerWrite win addr value be) s = .next (s.refuse win addr.toNat value.toNat 1 false) := by
  have hmsix : inMsixTable addr.toNat = false := by simp [inMsixTable, haddr]
  have hne : s.fieldsAt addr.toNat ≠ [] := fun h => by simp [h] at hany
  have hwrite : s.writeAt ⟨win, addr.toNat, value.toNat, be⟩ = s.refuse win addr.toNat value.toNat 1 false := by
    simp only [State.writeAt, hmsix, hdrop]
    exact hostWrite_of_wholeReason hans hne (wholeReason_of_level_lt hany hlvl) (by decide)
  exact congrArg Host.Outcome.next hwrite

/-- Settles O59: each access is answered by the record of a refusal alone, and the record is that of R441. -/
theorem windowRefusals : Obligations.WindowRefusals := by
  refine ⟨?read, ?latchingRead, ?write, ?engineState, ?lastEngine, ?lane⟩
  case read =>
    intro s win addr hans haddr hlvl
    exact refusedRead_exists (congrArg Host.Outcome.next (readAt_of_level_lt hans haddr hlvl))
  case latchingRead =>
    intro s win addr hans haddr hlvl
    exact refusedRead_exists (congrArg Host.Outcome.next (readAt_of_level_lt hans haddr hlvl))
  case write =>
    intro s win addr value be hans haddr hdrop hany hlvl
    obtain ⟨t, hexec, href, hout, hrest⟩ :=
      refusedWrite_exists (by decide) (execRegisterWrite_of_level_lt hans haddr hdrop hany hlvl)
    exact ⟨t, hexec, hout, href, hrest⟩
  case engineState =>
    intro s win n value e hopen hforce hsel ⟨hactive, hidle⟩
    have href : s.engineRefused n e = true := by
      have hfault : 1 < s.rd (FEC_ENG_STAT.STATE n e) := by omega
      simp [State.engineRefused, hfault]
    exact refusedCommand_exists (execEngineForce_of_refused hopen hforce hsel href)
  case lastEngine =>
    intro s win n value e hopen hforce hsel hact hdark
    exact refusedCommand_exists (execEngineForce_of_refused hopen hforce hsel (engineRefused_of_last hact hdark))
  case lane =>
    intro s win n value l hopen hforce hlane hfenced
    exact refusedCommand_exists (execLaneForce_of_fenced hopen hforce hlane hfenced)

end Sys2Proof.Machine
end

section
/-! SUPPORT. What a step keeps: the ledgers' laws, the canonical forms, the queue, what was sent, and the tables outside a
command's own list; and what holds at reset. -/

namespace Sys2Proof.Machine

/-! ## Every command -/

/-- Every command changes no part of the state but those that `areasOf` lists for it, and keeps the rest of what `Kept` says. -/
theorem exec_kept (c : Instr) (s : State) : Answer.kept (· ∈ areasOf c) s (exec c s) := by
  have here : ∀ (x : Area) l, Fact (x ∈ x :: l) := fun x l => ⟨List.mem_cons_self ..⟩
  have later : ∀ (x y : Area) l [Fact (x ∈ l)], Fact (x ∈ y :: l) := fun x y l h => ⟨List.mem_cons_of_mem _ h.out⟩
  have hs {A : Area → Prop} : Kept A s s := .refl s
  cases c <;> dsimp only [areasOf, exec]
  case registerWrite => exact kept_execRegisterWrite hs
  case rcCounterRead => exact kept_execRcCounterRead hs
  case latchingLowWordRead => exact kept_execLatchingLowWordRead hs
  case tokenTransfer => exact kept_execTokenTransfer hs
  case slackMeasurement => exact kept_execSlackMeasurement hs
  case governorEvaluation => exact kept_execGovernorEvaluation hs
  case governorEmergencyRaise => exact kept_execGovernorEmergencyRaise hs
  case regulatorRequestResult => exact kept_execRegulatorRequestResult hs
  case regulatorRetry => exact kept_execRegulatorRetry hs
  case slackFloorTimeout => exact kept_execSlackFloorTimeout hs
  case ledgerSnapshotRequest => exact kept_execLedgerSnapshotRequest hs
  case snapshotHoldComplete => exact kept_execSnapshotHoldComplete hs
  case snapshotHoldTimeout => exact kept_execSnapshotHoldTimeout hs
  case snapshotRecordWritten => exact kept_execSnapshotRecordWritten hs
  case perturbationControlWrite => exact kept_execPerturbationControlWrite hs
  case profileWrite => exact kept_execProfileWrite hs
  case modeOfferTimer => exact kept_execModeOfferTimer hs
  case modeOfferReceived => exact kept_execModeOfferReceived hs
  case resizeGo => exact kept_execResizeGo hs
  case resizeProposeReceived => exact kept_execResizeProposeReceived hs
  case resizeAcceptReceived => exact kept_execResizeAcceptReceived hs
  case resizeRefuseReceived => exact kept_execResizeRefuseReceived hs
  case resizeConfirmReceived => exact kept_execResizeConfirmReceived hs
  case resizeAcceptDeadline => exact kept_execResizeAcceptDeadline hs
  case resizeConfirmDeadline => exact kept_execResizeConfirmDeadline hs
  case resizeTargetReached => exact kept_execResizeTargetReached hs
  case resizeReceiverSwitch => exact kept_execResizeReceiverSwitch hs
  case resizeConvergenceTimeout => exact kept_execResizeConvergenceTimeout hs
  case laserEnable => exact kept_execLaserEnable hs
  case laserDisable => exact kept_execLaserDisable hs
  case tuneComplete => exact kept_execTuneComplete hs
  case tuneTimeout => exact kept_execTuneTimeout hs
  case rampStep => exact kept_execRampStep hs
  case txPowerWrite => exact kept_execTxPowerWrite hs
  case optFreqWrite => exact kept_execOptFreqWrite hs
  case agcSettled => exact kept_execAgcSettled hs
  case agcUnfreezeTimeout => exact kept_execAgcUnfreezeTimeout hs
  case opticalPowerMonitorUpdate => exact kept_execOpticalPowerMonitorUpdate hs
  case opticalLosDeclare => exact kept_execOpticalLosDeclare hs
  case opticalLosClear => exact kept_execOpticalLosClear hs
  case safetyInputActive => exact kept_execSafetyInputActive hs
  case safetyInputInactive => exact kept_execSafetyInputInactive hs
  case safetyDiscrepancyTimeout => exact kept_execSafetyDiscrepancyTimeout hs
  case discrepancyClear => exact kept_execDiscrepancyClear hs
  case laserFault => exact kept_execLaserFault hs
  case coolerFault => exact kept_execCoolerFault hs
  case boosterFault => exact kept_execBoosterFault hs
  case driverFault => exact kept_execDriverFault hs
  case receiverFrontEndFault => exact kept_execReceiverFrontEndFault hs
  case sliceStuckCode => exact kept_execSliceStuckCode hs
  case sliceRangeFault => exact kept_execSliceRangeFault hs
  case sliceDriftFault => exact kept_execSliceDriftFault hs
  case sliceTimingFault => exact kept_execSliceTimingFault hs
  case sliceSenseFault => exact kept_execSliceSenseFault hs
  case sliceForce => exact kept_execSliceForce hs
  case shadowCalibrationConverged => exact kept_execShadowCalibrationConverged hs
  case shadowCalibrationTimeout => exact kept_execShadowCalibrationTimeout hs
  case spareSubstitution => exact kept_execSpareSubstitution hs
  case respacing => exact kept_execRespacing hs
  case converterApplyBoundary => exact kept_execConverterApplyBoundary hs
  case converterPllLossOfLock => exact kept_execConverterPllLossOfLock hs
  case converterPllLock => exact kept_execConverterPllLock hs
  case converterReferenceLoss => exact kept_execConverterReferenceLoss hs
  case converterPllFault => exact kept_execConverterPllFault hs
  case adcLosDeclare => exact kept_execAdcLosDeclare hs
  case adcLosClear => exact kept_execAdcLosClear hs
  case frontEndMismatch => exact kept_execFrontEndMismatch hs
  case coarseEstimateComplete => exact kept_execCoarseEstimateComplete hs
  case coarseEstimateTimeout => exact kept_execCoarseEstimateTimeout hs
  case cdTrackStep => exact kept_execCdTrackStep hs
  case clockRecoveryLock => exact kept_execClockRecoveryLock hs
  case clockRecoveryLoss => exact kept_execClockRecoveryLoss hs
  case cycleSlip => exact kept_execCycleSlip hs
  case acquisitionStepComplete => exact kept_execAcquisitionStepComplete hs
  case acquisitionStepTimeout => exact kept_execAcquisitionStepTimeout hs
  case tileResidueMismatch => exact kept_execTileResidueMismatch hs
  case tileResidueFault => exact kept_execTileResidueFault hs
  case tileHandshakeFault => exact kept_execTileHandshakeFault hs
  case tileForce => exact kept_execTileForce hs
  case tileRepartitionComplete => exact kept_execTileRepartitionComplete hs
  case convergenceWindowEnd => exact kept_execConvergenceWindowEnd hs
  case noConvergenceTimeout => exact kept_execNoConvergenceTimeout hs
  case linkQualityWindowEnd => exact kept_execLinkQualityWindowEnd hs
  case txUnderrun => exact kept_execTxUnderrun hs
  case txClipExcess => exact kept_execTxClipExcess hs
  case testPatternWrite => exact kept_execTestPatternWrite hs
  case txMultiframeBoundary => exact kept_execTxMultiframeBoundary hs
  case codewordAssembled => exact kept_execCodewordAssembled hs
  case enginePassComplete => exact kept_execEnginePassComplete hs
  case engineResidueMismatch => exact kept_execEngineResidueMismatch hs
  case engineResidueFault => exact kept_execEngineResidueFault hs
  case engineHandshakeFault => exact kept_execEngineHandshakeFault hs
  case engineForce => exact kept_execEngineForce hs
  case encoderParityMismatch => exact kept_execEncoderParityMismatch hs
  case codewordAlignment => exact kept_execCodewordAlignment hs
  case fecDegradeWindowEnd => exact kept_execFecDegradeWindowEnd hs
  case iterationControlWrite => exact kept_execIterationControlWrite hs
  case frameHeaderReceived => exact kept_execFrameHeaderReceived hs
  case torCopyReceived => exact kept_execTorCopyReceived hs
  case rxMultiframeBoundary => exact kept_execRxMultiframeBoundary hs
  case tributaryCommitGo => exact kept_execTributaryCommitGo hs
  case sealedUnitReceived => exact kept_execSealedUnitReceived hs
  case hostLaneLosDeclare => exact kept_execHostLaneLosDeclare hs
  case hostLaneLosClear => exact kept_execHostLaneLosClear hs
  case hostLaneLolDeclare => exact kept_execHostLaneLolDeclare hs
  case hostLaneLolClear => exact kept_execHostLaneLolClear hs
  case hostAlignmentLock => exact kept_execHostAlignmentLock hs
  case hostAlignmentLoss => exact kept_execHostAlignmentLoss hs
  case clientReplaceEnd => exact kept_execClientReplaceEnd hs
  case flexeOverheadLock => exact kept_execFlexeOverheadLock hs
  case hostFecCodeword => exact kept_execHostFecCodeword hs
  case egressFifoEmptyTimeout => exact kept_execEgressFifoEmptyTimeout hs
  case egressTokenArrival => exact kept_execEgressTokenArrival hs
  case calendarEntryWrite => exact kept_execCalendarEntryWrite hs
  case flexeCalendarSwitchRequest => exact kept_execFlexeCalendarSwitchRequest hs
  case flexeCalendarAck => exact kept_execFlexeCalendarAck hs
  case flexeCalendarSwitch => exact kept_execFlexeCalendarSwitch hs
  case flexeCalendarTimeout => exact kept_execFlexeCalendarTimeout hs
  case flexeHostCalendarRequest => exact kept_execFlexeHostCalendarRequest hs
  case hostLaneTransmitterFault => exact kept_execHostLaneTransmitterFault hs
  case hostLaneReceiverFault => exact kept_execHostLaneReceiverFault hs
  case laneForce => exact kept_execLaneForce hs
  case hostPllLossOfLock => exact kept_execHostPllLossOfLock hs
  case hostPllLock => exact kept_execHostPllLock hs
  case hostPllFault => exact kept_execHostPllFault hs
  case iscChipLock => exact kept_execIscChipLock hs
  case iscChipLockLoss => exact kept_execIscChipLockLoss hs
  case iscMessageBoundary => exact kept_execIscMessageBoundary hs
  case iscMessageCrcError => exact kept_execIscMessageCrcError hs
  case iscUnknownMessage => exact kept_execIscUnknownMessage hs
  case heartbeatReceived => exact kept_execHeartbeatReceived hs
  case telemetryReceived => exact kept_execTelemetryReceived hs
  case hostMessageReceived => exact kept_execHostMessageReceived hs
  case iscHostSend => exact kept_execIscHostSend hs
  case hostMessageRead => exact kept_execHostMessageRead hs
  case iscHeartbeatMissed => exact kept_execIscHeartbeatMissed hs
  case entropyReseed => exact kept_execEntropyReseed hs
  case cipherMismatch => exact kept_execCipherMismatch hs
  case pipelineHoldFault => exact kept_execPipelineHoldFault hs
  case pipelineForce => exact kept_execPipelineForce hs
  case iteratedEngineForce => exact kept_execIteratedEngineForce hs
  case rootProvision => exact kept_execRootProvision hs
  case rootEraseArm => exact kept_execRootEraseArm hs
  case rootEraseConfirm => exact kept_execRootEraseConfirm hs
  case rootEraseArmExpiry => exact kept_execRootEraseArmExpiry hs
  case keyBulkLoad => exact kept_execKeyBulkLoad hs
  case keyBulkSave => exact kept_execKeyBulkSave hs
  case keyBulkRestore => exact kept_execKeyBulkRestore hs
  case keyBulkResume => exact kept_execKeyBulkResume hs
  case keyBulkAbort => exact kept_execKeyBulkAbort hs
  case keyElementComplete => exact kept_execKeyElementComplete hs
  case keySlotErase => exact kept_execKeySlotErase hs
  case zeroiseCommand => exact kept_execZeroiseCommand hs
  case tamperInput => exact kept_execTamperInput hs
  case zeroiseInput => exact kept_execZeroiseInput hs
  case vkeepLow => exact kept_execVkeepLow hs
  case rolloverGo => exact kept_execRolloverGo hs
  case rolloverAnnounceReceived => exact kept_execRolloverAnnounceReceived hs
  case rolloverAckReceived => exact kept_execRolloverAckReceived hs
  case rolloverAckDeadline => exact kept_execRolloverAckDeadline hs
  case monitorConversionEnd => exact kept_execMonitorConversionEnd hs
  case monitorResultRead => exact kept_execMonitorResultRead hs
  case monitorUrgentRequest => exact kept_execMonitorUrgentRequest hs
  case monitorPresetChange => exact kept_execMonitorPresetChange hs
  case compensationSetChange => exact kept_execCompensationSetChange hs
  case coefficientWrite => exact kept_execCoefficientWrite hs
  case biasBlockEnd => exact kept_execBiasBlockEnd hs
  case monitorClockLoss => exact kept_execMonitorClockLoss hs
  case monitorClockRelock => exact kept_execMonitorClockRelock hs
  case calFull => exact kept_execCalFull hs
  case calTrack => exact kept_execCalTrack hs
  case calLoad => exact kept_execCalLoad hs
  case calRewrite => exact kept_execCalRewrite hs
  case calMeasurementComplete => exact kept_execCalMeasurementComplete hs
  case calMonitorTimeout => exact kept_execCalMonitorTimeout hs
  case calStoreWriteComplete => exact kept_execCalStoreWriteComplete hs
  case calApplyElement => exact kept_execCalApplyElement hs
  case calPolicyAgeTrigger => exact kept_execCalPolicyAgeTrigger hs
  case calPolicyTemperatureCheck => exact kept_execCalPolicyTemperatureCheck hs
  case calTriggeredRunStart => exact kept_execCalTriggeredRunStart hs
  case supervisorHeartbeat => exact kept_execSupervisorHeartbeat hs
  case supervisorHeartbeatTimeout => exact kept_execSupervisorHeartbeatTimeout hs
  case checkpointTimer => exact kept_execCheckpointTimer hs
  case voteOpen => exact kept_execVoteOpen hs
  case voteDecision => exact kept_execVoteDecision hs
  case supervisorSelfTestResult => exact kept_execSupervisorSelfTestResult hs
  case supervisorRelease => exact kept_execSupervisorRelease hs
  case firmwareAuthenticationComplete => exact kept_execFirmwareAuthenticationComplete hs
  case supervisorStateTransferComplete => exact kept_execSupervisorStateTransferComplete hs
  case supervisorHandback => exact kept_execSupervisorHandback hs
  case arbiterSelfTest => exact kept_execArbiterSelfTest hs
  case supervisorComplexReset => exact kept_execSupervisorComplexReset hs
  case supervisorComplexResetComplete => exact kept_execSupervisorComplexResetComplete hs
  case mailboxCommandPost => exact kept_execMailboxCommandPost hs
  case mailboxCommandAccept => exact kept_execMailboxCommandAccept hs
  case mailboxResponseConsume => exact kept_execMailboxResponseConsume hs
  case echo => exact kept_execEcho hs
  case supStatus => exact kept_execSupStatus hs
  case fenceClear => exact kept_execFenceClear hs
  case supRestore => exact kept_execSupRestore hs
  case logRead => exact kept_execLogRead hs
  case fwInfo => exact kept_execFwInfo hs
  case fwLoad => exact kept_execFwLoad hs
  case fwVerify => exact kept_execFwVerify hs
  case fwActivate => exact kept_execFwActivate hs
  case irqPendSet => exact kept_execIrqPendSet hs
  case irqPendClear => exact kept_execIrqPendClear hs
  case irqMaskSet => exact kept_execIrqMaskSet hs
  case irqMaskClear => exact kept_execIrqMaskClear hs
  case interruptSelection => exact kept_execInterruptSelection hs
  case interruptCommit => exact kept_execInterruptCommit hs
  case irqEoi => exact kept_execIrqEoi hs
  case interruptControllerFault => exact kept_execInterruptControllerFault hs
  case pmcConfigWrite => exact kept_execPmcConfigWrite hs
  case pmcValueWrite => exact kept_execPmcValueWrite hs
  case pmcSnapshotRequest => exact kept_execPmcSnapshotRequest hs
  case pmcSnapshotWritten => exact kept_execPmcSnapshotWritten hs
  case memoryLineRead => exact kept_execMemoryLineRead hs
  case memoryLineWrite => exact kept_execMemoryLineWrite hs
  case scrubStart => exact kept_execScrubStart hs
  case scrubLine => exact kept_execScrubLine hs
  case scrubPause => exact kept_execScrubPause hs
  case scrubResume => exact kept_execScrubResume hs
  case scrubAbort => exact kept_execScrubAbort hs
  case bankRetirementStart => exact kept_execBankRetirementStart hs
  case retirementCopyLine => exact kept_execRetirementCopyLine hs
  case retirementSwitch => exact kept_execRetirementSwitch hs
  case castingSubmit => exact kept_execCastingSubmit hs
  case castingStore => exact kept_execCastingStore hs
  case castingEraseStore => exact kept_execCastingEraseStore hs
  case castingPause => exact kept_execCastingPause hs
  case castingResume => exact kept_execCastingResume hs
  case castingAbort => exact kept_execCastingAbort hs
  case castingFetchComplete => exact kept_execCastingFetchComplete hs
  case castingCheckComplete => exact kept_execCastingCheckComplete hs
  case castingApplyElement => exact kept_execCastingApplyElement hs
  case castingLoadComplete => exact kept_execCastingLoadComplete hs
  case castingStoreComplete => exact kept_execCastingStoreComplete hs
  case castingEngineFault => exact kept_execCastingEngineFault hs
  case pcieFunctionLevelReset => exact kept_execPcieFunctionLevelReset hs
  case pcieHotReset => exact kept_execPcieHotReset hs
  case pcieLinkDown => exact kept_execPcieLinkDown hs
  case pcieLinkUp => exact kept_execPcieLinkUp hs
  case busMasterEnableClear => exact kept_execBusMasterEnableClear hs
  case dmaReadCompletion => exact kept_execDmaReadCompletion hs
  case dmaCompletionTimeout => exact kept_execDmaCompletionTimeout hs
  case dmaQueuePost => exact kept_execDmaQueuePost hs
  case dmaDescriptorStart => exact kept_execDmaDescriptorStart hs
  case dmaGatherElement => exact kept_execDmaGatherElement hs
  case dmaScatterElement => exact kept_execDmaScatterElement hs
  case dmaQueueResume => exact kept_execDmaQueueResume hs
  case dmaQueueSkip => exact kept_execDmaQueueSkip hs
  case dmaQueueAbort => exact kept_execDmaQueueAbort hs
  case spiDataWord => exact kept_execSpiDataWord hs
  case spiChipSelectRise => exact kept_execSpiChipSelectRise hs
  case mainRailLoss => exact kept_execMainRailLoss hs
  case mainRailsUp => exact kept_execMainRailsUp hs
  case internalResetEnd => exact kept_execInternalResetEnd hs
  case resetNAssert => exact kept_execResetNAssert hs
  case resetNRelease => exact kept_execResetNRelease hs
  case deviceResetCommand => exact kept_execDeviceResetCommand hs
  case deviceResetHoldEnd => exact kept_execDeviceResetHoldEnd hs
  case bootStepComplete => exact kept_execBootStepComplete hs
  case powerWarning => exact kept_execPowerWarning hs
  case powerLossRecordProgrammed => exact kept_execPowerLossRecordProgrammed hs
  case powerWarningEnd => exact kept_execPowerWarningEnd hs
  case fenceRetestComplete => exact kept_execFenceRetestComplete hs
  case egressFifoEmptyInPacket => exact kept_execEgressFifoEmptyInPacket hs
  case flexeIngressCalendarSwitch => exact kept_execFlexeIngressCalendarSwitch hs
  case pcieConfigurationWrite => exact kept_execPcieConfigurationWrite hs
  case spiChipSelectFall => exact kept_execSpiChipSelectFall hs
  case spiHeaderWord => exact kept_execSpiHeaderWord hs
  case vkeepAbsent => exact kept_execVkeepAbsent hs
  case vkeepRestored => exact kept_execVkeepRestored hs
  case mrefclkLoss => exact kept_execMrefclkLoss hs
  case mrefclkRestored => exact kept_execMrefclkRestored hs
  case idClashNegotiationTimeout => exact kept_execIdClashNegotiationTimeout hs
  case adcClipExcess => exact kept_execAdcClipExcess hs

/-- A step is the command at the front of the queue, on the state with the queue's rest. -/
theorem step_of_front {c : Instr} {s : State} {rest : List Instr} (h : s.pending = c :: rest) :
    step s = exec c { s with pending := rest } := by
  rw [step, h]

/-- A step with nothing waiting is a nanosecond. -/
theorem step_of_empty {s : State} (h : s.pending = []) : step s = .next s.tick := by rw [step, h]

/-- Every step keeps the ledgers' laws and the canonical forms, whatever waits at the front of the queue. -/
theorem step_keeps {s t : State} (h : step s = .next t) :
    (s.conserves → t.conserves) ∧ (s.canonical → t.canonical) := by
  cases hp : s.pending with
  | nil =>
    rw [step_of_empty hp] at h
    cases h
    have := Fact.mk trivial
    have hk : Kept (fun _ => True) s s.tick := kept_tick (.refl s)
    exact ⟨hk.flow, hk.canonical⟩
  | cons c rest =>
    rw [step_of_front hp] at h
    have hk := exec_kept c _ t h
    exact ⟨hk.flow, fun hc => hk.canonical ⟨hc.regs, hc.sram, hc.store, hc.sets, hc.applied, hc.runSet⟩⟩

/-- Settles O5: every command and the idle step are built of operations that keep the laws of R57. -/
theorem ledgersBalanceAlways : Obligations.LedgersBalanceAlways :=
  fun _ _ hs h => (step_keeps h).1 hs

/-- Settles O6: every command and the idle step are built of operations that keep the forms. -/
theorem tablesStayCanonical : Obligations.TablesStayCanonical :=
  fun _ _ hs h => (step_keeps h).2 hs

/-- Settles O7: no operation that a command is built of touches the queue, or takes back what was sent or drawn. -/
theorem queueAndOutputsGrowOnly : Obligations.QueueAndOutputsGrowOnly := by
  intro c s t h
  have hk := exec_kept c s t h
  obtain ⟨l, hl⟩ := hk.out
  exact ⟨hk.pending, ⟨l, hl.symm⟩, hk.free⟩

/-- Settles O8: the operations of each command are those of its list. -/
theorem commandsTouchOnlyTheirTables : Obligations.CommandsTouchOnlyTheirTables :=
  fun c s t h => (exec_kept c s t h).same

/-- Settles O1. -/
theorem stepRunsFront : Obligations.StepRunsFront := fun _ _ _ => step_of_front

/-! ## The idle step -/

/-- The end of an apply does nothing outside APPLY. -/
theorem castCheckEnd_of_not_apply {s : State} (h : s.cst ≠ Cst.apply) : s.castCheckEnd = s := by
  unfold State.castCheckEnd
  simp [h]

/-- DEV_TIME counts while the device answers. -/
def State.timeTick (s : State) : State := if s.answers then { s with time := (s.time + 1) % 2 ^ 64 } else s

theorem timeTick_regs (s : State) : s.timeTick.regs = s.regs := by unfold State.timeTick; split <;> rfl

theorem timeTick_time (s : State) :
    s.timeTick.time = if s.answers = true then (s.time + 1) % 2 ^ 64 else s.time := by
  unfold State.timeTick; split <;> rfl

theorem timeTick_sameArea {s : State} {x : Area} (hx : x ≠ .time) : SameArea s s.timeTick x := by
  unfold State.timeTick
  split
  · cases x <;> simp_all [SameArea]
  · exact .refl s x

theorem timeTick_rd (s : State) (f : Field) : s.timeTick.rd f = s.rd f := by simp only [State.rd, timeTick_regs]

theorem rtcTick_sameFields (s : State) : SameFields [KEYC.SUB, KEY_RTC.SEC] s s.rtcTick := by
  unfold State.rtcTick
  split
  · exact sameFields_put_of (sameFields_put_of (.refl _ s) (by simp)) (by simp)
  · exact sameFields_put_of (.refl _ s) (by simp)

theorem rtcTick_sameArea (s : State) (x : Area) : SameArea s s.rtcTick x :=
  (kept_rtcTick (A := fun _ => False) (.refl s)).same x id

/-- With the casting engine outside APPLY, a nanosecond counts DEV_TIME and the plinth clock, and nothing else. -/
theorem tick_of_not_apply {s : State} (h : s.cst ≠ Cst.apply) : s.tick = s.timeTick.rtcTick := by
  have hcst : s.timeTick.rtcTick.cst = s.cst := by
    unfold State.cst
    rw [rtcTick_sameFields _ _ (by decide), timeTick_rd]
  exact castCheckEnd_of_not_apply (hcst ▸ h)

/-- Within a second the sub-second count advances. -/
theorem rtcTick_within {s : State} (h : s.rd KEYC.SUB + 1 < 1000000000) :
    s.rtcTick.rd KEYC.SUB = s.rd KEYC.SUB + 1 ∧ s.rtcTick.rd KEY_RTC.SEC = s.rd KEY_RTC.SEC := by
  have heq : s.rtcTick = s.put KEYC.SUB (s.rd KEYC.SUB + 1) := by simp [State.rtcTick, h.ne]
  rw [heq, rd_put_same, rd_put_other (h := by decide)]
  exact ⟨Nat.mod_eq_of_lt (h.trans (by decide)), rfl⟩

/-- At its end the second counts. -/
theorem rtcTick_at_second {s : State} (h : s.rd KEYC.SUB + 1 = 1000000000) :
    s.rtcTick.rd KEYC.SUB = 0 ∧ s.rtcTick.rd KEY_RTC.SEC = (s.rd KEY_RTC.SEC + 1) % 2 ^ 32 := by
  have heq : s.rtcTick = (s.put KEYC.SUB 0).put KEY_RTC.SEC (s.rd KEY_RTC.SEC + 1) := by simp [State.rtcTick, h]
  rw [heq, rd_put_same, rd_put_other (h := by decide), rd_put_same]
  exact ⟨rfl, rfl⟩

/-- Settles O2. -/
theorem emptyQueueTicks : Obligations.EmptyQueueTicks := by
  intro s hempty hcst
  have hsame (x : Area) (hx : x ≠ .time) : SameArea s s.timeTick.rtcTick x :=
    (timeTick_sameArea hx).trans (rtcTick_sameArea _ x)
  have htick := timeTick_rd s
  refine ⟨s.timeTick.rtcTick, by rw [step_of_empty hempty, tick_of_not_apply hcst], ?_, hsame .out (by decide), ?_, ?_,
    ?_, ?_, hsame⟩
  · have hpend : s.tick.pending = s.pending :=
      have := Fact.mk trivial
      (kept_tick (A := fun _ => True) (.refl s)).pending
    rw [← tick_of_not_apply hcst, hpend, hempty]
  · exact Eq.trans (rtcTick_sameArea _ .time) (timeTick_time s)
  · intro h
    rw [← htick] at h
    simpa only [htick] using rtcTick_within h
  · intro h
    rw [← htick] at h
    simpa only [htick] using rtcTick_at_second h
  · exact fun f hf => (rtcTick_sameFields _ f hf).trans (htick f)

/-! ## Reset -/

/-- A field of width 0 with reset value 1: no such field can hold its reset value. -/
def narrowField : Field := ⟨0, 0, 0, 1⟩

/-- Refutes O3: it speaks of every value of type `Field`, and one whose reset value does not fit its width, such as
`narrowField`, reads other than its reset value. -/
theorem not_resetHoldsResetColumn : ¬ Obligations.ResetHoldsResetColumn := by
  intro ⟨_, _, _, hfields, _⟩
  exact absurd (hfields narrowField (by decide)) (by decide)

/-- Settles O4: nothing is in flight or listed at reset. -/
theorem invariantsHoldAtReset : Obligations.InvariantsHoldAtReset :=
  ⟨fun n => reset_flow n ▸ Flow.empty_conserved, ⟨.nil, .nil, rfl, rfl, rfl, rfl⟩⟩

end Sys2Proof.Machine
end

section
/-! SUPPORT. Frames, records, scrambling and sealing read back what was sent (R205 to R217, R287). -/

namespace Sys2Proof.Machine

/-! ## Bytes of numbers -/

theorem ofBytes_append_singleton (l : List Byte) (b : Byte) : ofBytes (l ++ [b]) = 256 * ofBytes l + b.toNat := by
  simp [ofBytes]

theorem beBytes_succ (k v : Nat) : beBytes (k + 1) v = beBytes k (v / 256) ++ [BitVec.ofNat 8 v] := by
  simp [beBytes, leBytes]

@[simp] theorem length_beBytes (k v : Nat) : (beBytes k v).length = k := by
  induction k generalizing v with
  | zero => rfl
  | succ k ih => simp [beBytes_succ, ih]

/-- The bytes of a number that fits them give it back. -/
theorem ofBytes_beBytes {k v : Nat} (h : v < 256 ^ k) : ofBytes (beBytes k v) = v := by
  induction k generalizing v with
  | zero => simp only [Nat.pow_zero, Nat.lt_one_iff] at h; subst h; rfl
  | succ k ih =>
    have hv : v / 256 < 256 ^ k := by rw [Nat.pow_succ] at h; exact Nat.div_lt_of_lt_mul (by omega)
    rw [beBytes_succ, ofBytes_append_singleton, ih hv, BitVec.toNat_ofNat]
    omega

/-! ## Bits of bytes -/

@[simp] theorem length_msbBits (k v : Nat) : (msbBits k v).length = k := by
  induction k with
  | zero => rfl
  | succ k ih => simp [msbBits, ih]

theorem foldl_msb (l : List Bool) (a : Nat) :
    l.foldl (fun n b => 2 * n + b.toNat) a = a * 2 ^ l.length + ofMsb l := by
  unfold ofMsb
  induction l generalizing a with
  | nil => simp
  | cons b l ih =>
    rw [List.foldl_cons, ih, List.foldl_cons, ih (2 * 0 + b.toNat), List.length_cons, Nat.pow_succ]
    ring

theorem ofMsb_cons (b : Bool) (l : List Bool) : ofMsb (b :: l) = b.toNat * 2 ^ l.length + ofMsb l := by
  rw [ofMsb, List.foldl_cons, foldl_msb, Nat.mul_zero, Nat.zero_add]

theorem ofMsb_lt (l : List Bool) : ofMsb l < 2 ^ l.length := by
  induction l with
  | nil => decide
  | cons b l ih =>
    rw [ofMsb_cons, List.length_cons, Nat.pow_succ]
    cases b <;> simp only [Bool.toNat_false, Bool.toNat_true] <;> omega

theorem msbBits_mod (k v : Nat) : msbBits k (v % 2 ^ k) = msbBits k v := by
  have aux : ∀ j, j ≤ k → msbBits j (v % 2 ^ k) = msbBits j v := by
    intro j hj
    induction j with
    | zero => rfl
    | succ j ih =>
      have hdvd : 2 ^ k = 2 ^ j * (2 * 2 ^ (k - j - 1)) := by
        rw [← Nat.pow_succ', ← Nat.pow_add]; congr 1; omega
      have hbit : v % 2 ^ k / 2 ^ j % 2 = v / 2 ^ j % 2 := by
        rw [hdvd, Nat.mod_mul_right_div_self, Nat.mod_mul_right_mod]
      simp only [msbBits, hbit, ih (by omega)]
  exact aux k (Nat.le_refl k)

/-- Bits of the number that a list of bits spells. -/
theorem msbBits_ofMsb (l : List Bool) : msbBits l.length (ofMsb l) = l := by
  induction l with
  | nil => rfl
  | cons b l ih =>
    have hlt := ofMsb_lt l
    have htop : ofMsb (b :: l) / 2 ^ l.length = b.toNat := by
      rw [ofMsb_cons, Nat.mul_comm, Nat.mul_add_div (Nat.two_pow_pos _), Nat.div_eq_of_lt hlt, Nat.add_zero]
    have hrest : ofMsb (b :: l) % 2 ^ l.length = ofMsb l := by
      rw [ofMsb_cons, Nat.mul_comm, Nat.mul_add_mod, Nat.mod_eq_of_lt hlt]
    rw [List.length_cons, msbBits, htop, ← msbBits_mod, hrest, ih]
    cases b <;> rfl

theorem ofMsb_msbBits {k v : Nat} (h : v < 2 ^ k) : ofMsb (msbBits k v) = v := by
  induction k generalizing v with
  | zero => simp only [Nat.pow_zero, Nat.lt_one_iff] at h; subst h; rfl
  | succ k ih =>
    have htop : v / 2 ^ k < 2 := Nat.div_lt_of_lt_mul (by rwa [Nat.pow_succ] at h)
    have hbit : (decide (v / 2 ^ k % 2 = 1)).toNat = v / 2 ^ k := by
      obtain h0 | h1 := Nat.le_one_iff_eq_zero_or_eq_one.1 (Nat.le_of_lt_succ htop)
      · simp [h0]
      · simp [h1]
    rw [msbBits, ofMsb_cons, length_msbBits, ← msbBits_mod, ih (Nat.mod_lt _ (Nat.two_pow_pos _)), hbit]
    exact Nat.div_add_mod' ..

@[simp] theorem byteBits_cons (b : Byte) (l : List Byte) : byteBits (b :: l) = msbBits 8 b.toNat ++ byteBits l := rfl

@[simp] theorem length_byteBits (l : List Byte) : (byteBits l).length = 8 * l.length := by
  induction l with
  | nil => rfl
  | cons b l ih => simp [ih]; omega

theorem bitBytes_append {x y : List Bool} (hx : x.length = 8) :
    bitBytes (x ++ y) = BitVec.ofNat 8 (ofMsb x) :: bitBytes y := by
  have hlen : (x ++ y).length / 8 = y.length / 8 + 1 := by rw [List.length_append, hx]; omega
  simp only [bitBytes, hlen, pieces, List.map_cons]
  rw [List.take_append_of_le_length (by omega), List.take_of_length_le (by omega), List.drop_append_of_le_length (by omega),
    List.drop_of_length_le (by omega), List.nil_append]

@[simp] theorem bitBytes_byteBits (l : List Byte) : bitBytes (byteBits l) = l := by
  induction l with
  | nil => rfl
  | cons b l ih =>
    rw [byteBits_cons, bitBytes_append (length_msbBits ..), ofMsb_msbBits b.isLt, ih, BitVec.ofNat_toNat, BitVec.setWidth_eq]

/-- Whole bytes of bits give the bits back. -/
theorem byteBits_bitBytes {n : Nat} {l : List Bool} (h : l.length = 8 * n) : byteBits (bitBytes l) = l := by
  induction n generalizing l with
  | zero => rw [List.eq_nil_of_length_eq_zero h]; rfl
  | succ n ih =>
    have htake : (l.take 8).length = 8 := by rw [List.length_take]; omega
    have hdrop : (l.drop 8).length = 8 * n := by rw [List.length_drop]; omega
    have hlt := ofMsb_lt (l.take 8)
    rw [htake] at hlt
    conv => lhs; rw [← List.take_append_drop 8 l]
    rw [bitBytes_append htake, byteBits_cons, ih hdrop, BitVec.toNat_ofNat, Nat.mod_eq_of_lt hlt]
    conv => lhs; lhs; lhs; rw [← htake]
    rw [msbBits_ofMsb, List.take_append_drop]

/-! ## The scrambler (R208) -/

@[simp] theorem length_scrambleFrom (w t r : Nat) (l : List Bool) : (scrambleFrom w t r l).length = l.length := by
  induction l generalizing r with
  | nil => rfl
  | cons b l ih => simp [scrambleFrom, ih]

theorem scrambleFrom_scrambleFrom (w t r : Nat) (l : List Bool) : scrambleFrom w t r (scrambleFrom w t r l) = l := by
  induction l generalizing r with
  | nil => rfl
  | cons b l ih => simp [scrambleFrom, ih]

@[simp] theorem length_scramble (g2 : Bool) (l : List Bool) : (scramble g2 l).length = l.length := by
  cases g2 <;> simp [scramble]

theorem scramble_scramble (g2 : Bool) (l : List Bool) : scramble g2 (scramble g2 l) = l := by
  cases g2 <;> simp [scramble, scrambleFrom_scrambleFrom]

/-- The scrambler undoes itself. -/
theorem scrambleBytes_scrambleBytes (g2 : Bool) (l : List Byte) : scrambleBytes g2 (scrambleBytes g2 l) = l := by
  have hbits : byteBits (bitBytes (scramble g2 (byteBits l))) = scramble g2 (byteBits l) :=
    byteBits_bitBytes (n := l.length) (by simp)
  rw [scrambleBytes, scrambleBytes, hbits, scramble_scramble, bitBytes_byteBits]

/-! ## GCM text (R287) -/

/-- The key stream of block i. -/
def keyStream (key iv i : Nat) : List Byte := beBytes 16 (aesEncrypt key (counterBlock iv (i + 2)))

/-- Text encrypted or decrypted from block i on. -/
def gcmFrom (key iv i : Nat) (l : List Byte) : List Byte :=
  ((pieces 16 (ceilDiv l.length 16) l).zipIdx i).flatMap (fun p => List.zipWith (· ^^^ ·) p.1 (keyStream key iv p.2))

theorem gcmText_eq (key iv : Nat) (l : List Byte) : gcmText key iv l = gcmFrom key iv 0 l := rfl

@[simp] theorem gcmFrom_nil (key iv i : Nat) : gcmFrom key iv i [] = [] := rfl

theorem gcmFrom_of_ne_nil {key iv i : Nat} {l : List Byte} (h : l ≠ []) :
    gcmFrom key iv i l = List.zipWith (· ^^^ ·) (l.take 16) (keyStream key iv i) ++ gcmFrom key iv (i + 1) (l.drop 16) := by
  have hpos := List.length_pos_iff.2 h
  have hlen : ceilDiv l.length 16 = ceilDiv (l.drop 16).length 16 + 1 := by
    simp only [ceilDiv, List.length_drop]; omega
  simp only [gcmFrom, hlen, pieces, List.zipIdx_cons, List.flatMap_cons]

@[simp] theorem length_keyStream (key iv i : Nat) : (keyStream key iv i).length = 16 := length_beBytes ..

theorem zipWith_xor_zipWith_xor {l k : List Byte} (h : l.length ≤ k.length) :
    List.zipWith (· ^^^ ·) (List.zipWith (· ^^^ ·) l k) k = l := by
  induction l generalizing k with
  | nil => rfl
  | cons b l ih =>
    cases k with
    | nil => simp at h
    | cons c k => simp [ih (by simpa using h)]

/-- Text undoes itself under one key and IV. -/
theorem gcmFrom_gcmFrom (key iv i : Nat) (l : List Byte) : gcmFrom key iv i (gcmFrom key iv i l) = l := by
  by_cases hnil : l = []
  · simp [hnil]
  have hpos := List.length_pos_iff.2 hnil
  have ih := gcmFrom_gcmFrom key iv (i + 1) (l.drop 16)
  generalize hx : List.zipWith (· ^^^ ·) (l.take 16) (keyStream key iv i) = x
  have hxlen : x.length = min 16 l.length := by simp [← hx]
  have hback : List.zipWith (· ^^^ ·) x (keyStream key iv i) = l.take 16 := by
    rw [← hx]
    exact zipWith_xor_zipWith_xor (by simp)
  have hne : x ++ gcmFrom key iv (i + 1) (l.drop 16) ≠ [] := by
    intro hn
    have : x.length = 0 := by rw [(List.append_eq_nil_iff.1 hn).1]; rfl
    omega
  rw [gcmFrom_of_ne_nil hnil, hx, gcmFrom_of_ne_nil hne]
  obtain hlong | hshort := Nat.le_total 16 l.length
  · have hx16 : x.length = 16 := by omega
    rw [List.take_left' hx16, List.drop_left' hx16, hback, ih, List.take_append_drop]
  · have hdrop : l.drop 16 = [] := List.drop_of_length_le hshort
    have hxle : x.length ≤ 16 := by omega
    rw [hdrop, gcmFrom_nil, List.append_nil, List.take_of_length_le hxle, List.drop_of_length_le hxle, hback, gcmFrom_nil,
      List.append_nil, List.take_of_length_le hshort]
termination_by l.length
decreasing_by
  rw [List.length_drop]
  omega

/-! ## Records (R214, Table 9.4) -/

theorem crcBits_lt {w poly start : Nat} (hpoly : poly < 2 ^ w) (hstart : start < 2 ^ w) (l : List Bool) :
    crcBits w poly start l < 2 ^ w := by
  induction l generalizing start with
  | nil => exact hstart
  | cons b l ih =>
    refine ih (Nat.xor_lt_two_pow (Nat.mod_lt _ (Nat.two_pow_pos w)) ?_)
    split
    · exact hpoly
    · exact Nat.two_pow_pos w

theorem crc16_lt (l : List Byte) : crc16 l < 256 ^ 2 := crcBits_lt (by decide) (by decide) _

theorem crc8_lt (l : List Byte) : crc8 l < 256 := crcBits_lt (by decide) (by decide) _

/-- The flags and the tributary of a record as one number. -/
def torWord (act enc ki : Bool) (t : Nat) : Nat :=
  (if act then 2 ^ 15 else 0) + (if enc then 2 ^ 14 else 0) + (if ki then 2 ^ 13 else 0) + t % 1024

theorem torWord_bits (act enc ki : Bool) (t : Nat) :
    torWord act enc ki t < 256 ^ 2 ∧ torWord act enc ki t % 1024 = t % 1024 ∧
    decide (bit (torWord act enc ki t) 15 = 1) = act ∧ decide (bit (torWord act enc ki t) 14 = 1) = enc ∧
    decide (bit (torWord act enc ki t) 13 = 1) = ki := by
  unfold torWord bit
  cases act <;> cases enc <;> cases ki <;> simp <;> omega

/-- The bytes of a record before its CRC, from its numbers. -/
def recordBytes (w g start count cm : Nat) : List Byte :=
  beBytes 2 w ++ beBytes 1 g ++ [0] ++ beBytes 2 start ++ beBytes 2 count ++ beBytes 4 cm ++ [0, 0]

@[simp] theorem length_recordBytes (w g start count cm : Nat) : (recordBytes w g start count cm).length = 14 := by
  simp [recordBytes]

theorem recordBytes_slices (w g start count cm : Nat) (rest : List Byte) :
    (recordBytes w g start count cm ++ rest).take 2 = beBytes 2 w ∧
    ((recordBytes w g start count cm ++ rest).drop 2).take 1 = beBytes 1 g ∧
    ((recordBytes w g start count cm ++ rest).drop 4).take 2 = beBytes 2 start ∧
    ((recordBytes w g start count cm ++ rest).drop 6).take 2 = beBytes 2 count ∧
    ((recordBytes w g start count cm ++ rest).drop 8).take 4 = beBytes 4 cm ∧
    (recordBytes w g start count cm ++ rest).take 14 = recordBytes w g start count cm ∧
    (recordBytes w g start count cm ++ rest).drop 14 = rest := by
  simp [recordBytes, List.take_append, List.drop_append, List.take_of_length_le, List.drop_of_length_le]

theorem torBytes_eq (g2 : Bool) (t : Nat) (r : TorRec) :
    let l := recordBytes (torWord r.act (r.enc && !g2) (r.ki && !g2) t) (if g2 then 0 else r.gen)
      (if r.act then r.start else 0) (if r.act then r.count else 0) (if r.act then r.cm else 0)
    torBytes g2 t r = l ++ beBytes 2 (crc16 l) := by
  cases hact : r.act <;> simp [torBytes, recordBytes, torWord, hact]

@[simp] theorem length_torBytes (g2 : Bool) (t : Nat) (r : TorRec) : (torBytes g2 t r).length = 16 := by
  simp [torBytes_eq]

/-- A record within its widths reads back. -/
theorem torOf_torBytes {g2 : Bool} {t : Nat} {r : TorRec} (ht : t < 1024) (hgen : r.gen < 256) (hstart : r.start < 2048)
    (hcount : r.count < 2048) (hcm : r.cm < 2 ^ 30) :
    torOf g2 (torBytes g2 t r) = (true, t,
      { act := r.act, enc := r.enc && !g2, ki := r.ki && !g2, gen := if g2 then 0 else r.gen,
        start := if r.act then r.start else 0, count := if r.act then r.count else 0, cm := if r.act then r.cm else 0 }) := by
  have hg : (if g2 then 0 else r.gen) < 256 ^ 1 := by split <;> omega
  have hs : (if r.act then r.start else 0) < 2048 := by split <;> omega
  have hc : (if r.act then r.count else 0) < 2048 := by split <;> omega
  have hm : (if r.act then r.cm else 0) < 2 ^ 30 := by split <;> omega
  obtain ⟨hw, hmod, hact, henc, hki⟩ := torWord_bits r.act (r.enc && !g2) (r.ki && !g2) t
  have hgen2 : (if g2 then 0 else (if g2 then 0 else r.gen)) = if g2 then 0 else r.gen := by cases g2 <;> rfl
  rw [torBytes_eq]
  generalize (if g2 then 0 else r.gen) = g at *
  generalize (if r.act then r.start else 0) = start at *
  generalize (if r.act then r.count else 0) = count at *
  generalize (if r.act then r.cm else 0) = cm at *
  generalize torWord r.act (r.enc && !g2) (r.ki && !g2) t = w at *
  obtain ⟨h0, h2, h4, h6, h8, h14, hcrc⟩ :=
    recordBytes_slices w g start count cm (beBytes 2 (crc16 (recordBytes w g start count cm)))
  simp only [torOf, h0, h2, h4, h6, h8, h14, hcrc, ofBytes_beBytes (crc16_lt _), ofBytes_beBytes hw, ofBytes_beBytes hg,
    ofBytes_beBytes (k := 2) (hs.trans (by decide)), ofBytes_beBytes (k := 2) (hc.trans (by decide)),
    ofBytes_beBytes (k := 4) (hm.trans (by decide)), hmod, hact, henc, hki, Nat.mod_eq_of_lt ht, Nat.mod_eq_of_lt hs,
    Nat.mod_eq_of_lt hc, Nat.mod_eq_of_lt hm, Bool.and_assoc, Bool.and_self, decide_true, hgen2]

/-! ## Headers (R207, Table 9.2) -/

/-- The check sequence of a header, in two bytes: the CRC-8 of G2 in the second. -/
def hcsOf (g2 : Bool) (c : List Byte) : Nat := if g2 then crc8 c else crc16 c

/-- The bytes of a header after its checked part, from its numbers, and what follows. -/
def headerTail (hcs sr bip rei bdi : Nat) (rest : List Byte) : List Byte :=
  beBytes 2 hcs ++ (beBytes 4 sr ++ (beBytes 2 bip ++ (beBytes 1 rei ++ (beBytes 1 bdi ++ (List.replicate 56 0 ++ rest)))))

theorem headerBytes_eq (g2 : Bool) (h : Header) (tor : List Byte) :
    headerBytes g2 h tor = fasOf g2 ++ (checkedBytes g2 h ++
      headerTail (hcsOf g2 (checkedBytes g2 h)) h.sr h.bip h.rei (if h.bdi then 0x80 else 0) tor) := by
  cases g2 <;> simp [headerBytes, headerTail, hcsOf]

@[simp] theorem length_fasOf (g2 : Bool) : (fasOf g2).length = 6 := by cases g2 <;> rfl

@[simp] theorem length_checkedBytes (g2 : Bool) (h : Header) : (checkedBytes g2 h).length = 8 := by
  cases g2 <;> simp [checkedBytes]

theorem checkedBytes_slices (g2 : Bool) (h : Header) (rest : List Byte) :
    (checkedBytes g2 h ++ rest).take 2 = beBytes 2 (16 * h.fn + (if h.resize then 8 else 0)) ∧
    ((checkedBytes g2 h ++ rest).drop (if g2 then 4 else 2)).take (if g2 then 2 else 4) =
      beBytes (if g2 then 2 else 4) h.mfn ∧
    ((checkedBytes g2 h ++ rest).drop 6).take 1 = beBytes 1 h.mode := by
  cases g2 <;> simp [checkedBytes, List.take_append, List.drop_append]

theorem headerTail_slices (hcs sr bip rei bdi : Nat) (rest : List Byte) :
    (headerTail hcs sr bip rei bdi rest).take 2 = beBytes 2 hcs ∧
    ((headerTail hcs sr bip rei bdi rest).drop 1).take 1 = (beBytes 2 hcs).drop 1 ∧
    ((headerTail hcs sr bip rei bdi rest).drop 2).take 4 = beBytes 4 sr ∧
    ((headerTail hcs sr bip rei bdi rest).drop 6).take 2 = beBytes 2 bip ∧
    ((headerTail hcs sr bip rei bdi rest).drop 6).take 1 = (beBytes 2 bip).take 1 ∧
    ((headerTail hcs sr bip rei bdi rest).drop 8).take 1 = beBytes 1 rei ∧
    ((headerTail hcs sr bip rei bdi rest).drop 9).take 1 = beBytes 1 bdi ∧
    (headerTail hcs sr bip rei bdi rest).drop 66 = rest := by
  simp [headerTail, List.take_append, List.drop_append, List.drop_of_length_le]

/-- A frame as sent, from byte 6 on descrambled. -/
theorem descramble_frameSent {g2 : Bool} {a l : List Byte} (ha : a.length = 6) :
    (frameSent g2 (a ++ l)).take 6 = a ∧ (frameSent g2 (a ++ l)).take 6 ++ scrambleBytes g2 ((frameSent g2 (a ++ l)).drop 6) = a ++ l := by
  simp [frameSent, ha, scrambleBytes_scrambleBytes]

/-- What follows k bytes at the front. -/
theorem drop_add_append {a : List Byte} {k : Nat} (ha : a.length = k) (b : List Byte) (i : Nat) :
    (a ++ b).drop (k + i) = b.drop i := by
  subst ha
  simp [List.drop_append]

/-- What follows the first bytes of a header. -/
theorem headerBytes_drops (g2 : Bool) (h : Header) (tor : List Byte) (i : Nat) :
    (headerBytes g2 h tor).drop (6 + i) = (checkedBytes g2 h ++
      headerTail (hcsOf g2 (checkedBytes g2 h)) h.sr h.bip h.rei (if h.bdi then 0x80 else 0) tor).drop i ∧
    (headerBytes g2 h tor).drop (14 + i) =
      (headerTail (hcsOf g2 (checkedBytes g2 h)) h.sr h.bip h.rei (if h.bdi then 0x80 else 0) tor).drop i := by
  have h14 : 14 + i = 6 + (8 + i) := by omega
  rw [headerBytes_eq, h14, drop_add_append (length_fasOf g2), drop_add_append (length_fasOf g2),
    drop_add_append (length_checkedBytes g2 h)]
  exact ⟨rfl, rfl⟩

theorem bitsDiffer_self (l : List Byte) : bitsDiffer l l = 0 := by
  have hzero : ∀ k, popcount 0 k = 0 := by
    intro k
    induction k with
    | zero => rfl
    | succ k ih => simp [popcount, bit, ih]
  simp [bitsDiffer, hzero]

theorem beBytes_two (v : Nat) : (beBytes 2 v).take 1 = beBytes 1 (v / 256) ∧ (beBytes 2 v).drop 1 = beBytes 1 v := by
  simp [beBytes, leBytes]

theorem hcsOf_lt (g2 : Bool) (c : List Byte) : hcsOf g2 c < 256 ^ 2 := by
  have h8 := crc8_lt c
  have h16 := crc16_lt c
  cases g2 <;> simp [hcsOf] <;> omega

/-- The header and the frame number word hold a frame number and the RESIZE flag apart. -/
theorem fnWord_parts {fn : Nat} (resize : Bool) (h : fn < 4096) :
    16 * fn + (if resize then 8 else 0) < 256 ^ 2 ∧ (16 * fn + (if resize then 8 else 0)) / 16 = fn ∧
    decide (bit (16 * fn + (if resize then 8 else 0)) 3 = 1) = resize := by
  unfold bit
  cases resize <;> simp <;> omega

theorem bdiByte_parts (bdi : Bool) :
    (if bdi then 0x80 else 0) < 256 ^ 1 ∧ decide (bit (if bdi then 0x80 else 0) 7 = 1) = bdi := by
  cases bdi <;> decide

/-- A header within its widths reads back, with the bytes that were sent. -/
theorem headerOf_frameSent {g2 : Bool} {h : Header} (tor : List Byte) (hfn : h.fn < 4096)
    (hmfn : h.mfn < if g2 then 2 ^ 16 else 2 ^ 32) (hmode : h.mode < 256) (hsr : h.sr < 2 ^ 32) (hbip : h.bip < 2 ^ 16)
    (hbip2 : g2 = true → h.bip % 256 = 0) (hrei : h.rei < 256) :
    headerOf g2 (frameSent g2 (headerBytes g2 h tor)) = ({ h with fasErr := 0, hcs := true }, headerBytes g2 h tor) := by
  have hsent : (frameSent g2 (headerBytes g2 h tor)).take 6 = fasOf g2 ∧
      (frameSent g2 (headerBytes g2 h tor)).take 6 ++ scrambleBytes g2 ((frameSent g2 (headerBytes g2 h tor)).drop 6) =
        headerBytes g2 h tor := by
    rw [headerBytes_eq]
    exact descramble_frameSent (length_fasOf g2)
  obtain ⟨hfas, hback⟩ := hsent
  obtain ⟨hfnlt, hfndiv, hresize⟩ := fnWord_parts h.resize hfn
  obtain ⟨hbdilt, hbdi⟩ := bdiByte_parts h.bdi
  have hdrop (i : Nat) := headerBytes_drops g2 h tor i
  obtain ⟨thcs, thcs1, tsr, tbip, tbip1, trei, tbdi, -⟩ := headerTail_slices (hcsOf g2 (checkedBytes g2 h)) h.sr h.bip h.rei (if h.bdi then 0x80 else 0) tor
  obtain ⟨cfn, cmfn, cmode⟩ := checkedBytes_slices g2 h
    (headerTail (hcsOf g2 (checkedBytes g2 h)) h.sr h.bip h.rei (if h.bdi then 0x80 else 0) tor)
  have hcslt := hcsOf_lt g2 (checkedBytes g2 h)
  have c8 := List.take_left' (length_checkedBytes g2 h) (l₂ := headerTail (hcsOf g2 (checkedBytes g2 h)) h.sr h.bip h.rei
    (if h.bdi then 0x80 else 0) tor)
  unfold headerOf
  rw [hback, hfas, bitsDiffer_self]
  generalize headerBytes g2 h tor = l at hdrop
  generalize hC : checkedBytes g2 h = c at *
  generalize headerTail (hcsOf g2 c) h.sr h.bip h.rei (if h.bdi then 0x80 else 0) tor = x at *
  have d6 : l.drop 6 = c ++ x := (hdrop 0).1
  have d8 : l.drop 8 = (c ++ x).drop 2 := (hdrop 2).1
  have d10 : l.drop 10 = (c ++ x).drop 4 := (hdrop 4).1
  have d12 : l.drop 12 = (c ++ x).drop 6 := (hdrop 6).1
  have d14 : l.drop 14 = x := (hdrop 0).2
  have d15 : l.drop 15 = x.drop 1 := (hdrop 1).2
  have d16 : l.drop 16 = x.drop 2 := (hdrop 2).2
  have d20 : l.drop 20 = x.drop 6 := (hdrop 6).2
  have d22 : l.drop 22 = x.drop 8 := (hdrop 8).2
  have d23 : l.drop 23 = x.drop 9 := (hdrop 9).2
  cases g2
  · simp only [Bool.false_eq_true, if_false] at *
    simp only [d6, d8, d12, d14, d16, d20, d22, d23, c8, cfn, cmfn, cmode, thcs, tsr, tbip, trei, tbdi,
      ofBytes_beBytes hfnlt, ofBytes_beBytes hcslt, ofBytes_beBytes (k := 4) hmfn, ofBytes_beBytes (k := 1) hmode,
      ofBytes_beBytes (k := 4) hsr, ofBytes_beBytes (k := 2) hbip, ofBytes_beBytes (k := 1) hrei, ofBytes_beBytes hbdilt,
      hfndiv, hresize, hbdi]
    simp [hcsOf]
  · simp only [if_true] at *
    have hcs8 : ofBytes ((beBytes 2 (hcsOf true c)).drop 1) = crc8 c := by
      rw [(beBytes_two _).2]
      exact ofBytes_beBytes (k := 1) (crc8_lt c)
    have hbiptop : 256 * ofBytes ((beBytes 2 h.bip).take 1) = h.bip := by
      have hlow : h.bip % 256 = 0 := by simpa using hbip2
      rw [(beBytes_two _).1, ofBytes_beBytes (k := 1) (by omega)]
      omega
    simp only [d6, d10, d12, d15, d16, d20, d22, d23, c8, cfn, cmfn, cmode, thcs1, tsr, tbip1, trei, tbdi,
      ofBytes_beBytes hfnlt, ofBytes_beBytes (k := 2) hmfn, ofBytes_beBytes (k := 1) hmode, ofBytes_beBytes (k := 4) hsr,
      ofBytes_beBytes (k := 1) hrei, ofBytes_beBytes hbdilt, hfndiv, hresize, hbdi, hcs8, hbiptop]
    simp

/-! ## Payload areas (R216) -/

theorem lookup_popKey {t : Nat} {b : Byte} {q q1 : List (Nat × List Byte)} (h : popKey t q = some (b, q1)) (u : Nat) :
    (q.lookup u).getD [] = (if u = t then [b] else []) ++ (q1.lookup u).getD [] := by
  induction q generalizing q1 with
  | nil => simp [popKey] at h
  | cons p l ih =>
    obtain ⟨a, x⟩ := p
    simp only [popKey] at h
    split at h
    · subst_vars
      cases x with
      | nil => simp at h
      | cons x xs =>
        simp only [Option.some.injEq, Prod.mk.injEq] at h
        obtain ⟨rfl, rfl⟩ := h
        by_cases hu : u = a
        · simp [List.lookup, hu]
        · simp [List.lookup, hu, beq_false_of_ne hu]
    · simp only [Option.map_eq_some_iff, Prod.mk.injEq] at h
      obtain ⟨⟨c, r⟩, hr, rfl, rfl⟩ := h
      by_cases hu : u = a
      · simp [List.lookup, *]
      · simpa [List.lookup, beq_false_of_ne hu] using ih hr

theorem lookup_pushKey {t : Nat} {b : List Byte} (q : List (Nat × List Byte)) (u : Nat) :
    ((pushKey t b q).lookup u).getD [] = (q.lookup u).getD [] ++ (if u = t then b else []) := by
  induction q with
  | nil =>
    by_cases hu : u = t
    · simp [pushKey, List.lookup, hu]
    · simp [pushKey, List.lookup, hu, beq_false_of_ne hu]
  | cons p l ih =>
    obtain ⟨a, x⟩ := p
    simp only [pushKey]
    split
    · subst_vars
      by_cases hu : u = a
      · simp [List.lookup, hu]
      · simp [List.lookup, hu, beq_false_of_ne hu]
    · by_cases hu : u = a
      · simp [List.lookup, *]
      · simpa [List.lookup, beq_false_of_ne hu] using ih

/-- Bytes taken from an area follow those already there. -/
theorem lookup_takeBody {owners : List (Option Nat)} {q rest : List (Nat × List Byte)} {body : List Byte}
    (h : frameBody owners q = some (body, rest)) (got : List (Nat × List Byte)) (t : Nat) :
    ((takeBody owners body got).lookup t).getD [] ++ (rest.lookup t).getD [] =
      (got.lookup t).getD [] ++ (q.lookup t).getD [] := by
  induction owners generalizing q rest body got with
  | nil =>
    simp only [frameBody, Option.some.injEq, Prod.mk.injEq] at h
    obtain ⟨rfl, rfl⟩ := h
    rfl
  | cons o l ih =>
    cases o with
    | none =>
      simp only [frameBody, Option.map_eq_some_iff, Prod.mk.injEq] at h
      obtain ⟨⟨b, r⟩, hr, rfl, rfl⟩ := h
      exact ih hr got
    | some u =>
      simp only [frameBody] at h
      split at h
      · rename_i b q1 hpop
        simp only [Option.map_eq_some_iff, Prod.mk.injEq] at h
        obtain ⟨⟨c, r⟩, hr, rfl, rfl⟩ := h
        rw [takeBody, ih hr, lookup_pushKey, lookup_popKey hpop, List.append_assoc]
      · simp at h

/-- Settles O9: each reading takes back, slice by slice, what the sending put there. -/
theorem framesReadBack : Obligations.FramesReadBack := by
  refine ⟨?header, ?record, scrambleBytes_scrambleBytes, ?gcm, ?body⟩
  case header =>
    intro g2 h t r hfn hmfn hmode hsr hbip hbip2 hrei
    refine ⟨headerOf_frameSent _ hfn hmfn hmode hsr hbip hbip2 hrei, ?_⟩
    have hdrop : (headerBytes g2 h (torBytes g2 t r)).drop 80 = _ := (headerBytes_drops g2 h _ 66).2
    rw [hdrop, (headerTail_slices ..).2.2.2.2.2.2.2]
  case record =>
    intro g2 t r ht hgen hstart hcount hcm
    exact torOf_torBytes ht hgen hstart hcount hcm
  case gcm =>
    intro key iv l
    rw [gcmText_eq, gcmText_eq, gcmFrom_gcmFrom]
  case body =>
    intro owners q rest body h t
    have := lookup_takeBody h [] t
    simpa using this.symm

end Sys2Proof.Machine
end


section
/- Its runs of the model are checked one after another: side by side they need more memory than a check has. -/
set_option Elab.async false

namespace Sys2Proof.Machine

/-- The field that shows which counters have wrapped is not one by which an event of channel 0 is noticed. -/
theorem not_noticeKey_wrap : ¬ noticeKey [] [0] (FABC.WRAP 0).key := by
  unfold noticeKey
  decide +kernel

/-- A good token of tributary 0 in TRB's egress buffer, and a count of tokens out that is one short of 2^48. -/
def wrapFlow : Flow :=
  { Flow.empty with led := { Ledger.zero with rxOut := 2 ^ 48 - 1 }, tok := [⟨.rxTrb, 0, false, false, 0⟩] }

/-- The token's client is 0, defined on lane 2 of channel 0, which transmits. -/
def wrapState : State :=
  { (State.reset.put (HST_STAT.LOL 0) 0).put (HST_LANE_L.TYPE 0 2) 1 |>.put (HST_CLI.EN 0 0) 1
      |>.put (HST_CLI.HOME 0 0) 2 with
    flow := ⟨wrapFlow, Flow.empty, Flow.empty, Flow.empty⟩ }

/-- The token queues, and the count of tokens out wraps, which the register of wraps shows (R59, R378). -/
theorem egressTokenArrival_wraps :
    ∃ t, exec (.egressTokenArrival 0 0 0 0 0 0) wrapState = .next t ∧ t.rd (FABC.WRAP 0) ≠ wrapState.rd (FABC.WRAP 0) :=
  ⟨_, rfl, by decide +kernel⟩

/-- Refutes O32: clause 13 lists every field that a queued token changes and leaves out the mark of a wrapped counter, which
sets when the count of tokens out passes 2^48 - 1. -/
theorem not_flexeCalendarsAndEgress : ¬ Obligations.FlexeCalendarsAndEgress := by
  unfold Obligations.FlexeCalendarsAndEgress
  rintro ⟨-, -, -, -, -, -, -, -, -, -, -, -, queued, -⟩
  obtain ⟨t, ht, -, -, -, -, -, kept⟩ := queued wrapState 0 0 0 0 0 0 ⟨.rxTrb, 0, false, false, 0⟩
    (by decide +kernel) rfl (by decide +kernel) (by decide +kernel) (by decide +kernel) (by decide +kernel) (by decide +kernel)
  obtain ⟨u, hu, moved⟩ := egressTokenArrival_wraps
  cases hu.symm.trans ht
  exact moved (kept _ not_noticeKey_wrap (by decide +kernel))

end Sys2Proof.Machine
end


section
/- Its runs of the model are checked one after another: side by side they need more memory than a check has. -/
set_option Elab.async false

namespace Sys2Proof.Machine

/-- A token of tributary 0 waits in SEC to be sealed; 64 bytes fill the first unit of its multiframe. -/
def sealingState : State :=
  { (State.reset.put DEV_MODE.MODE 4).put (TRB_TRIB.ENC 0 0) 1 |>.put (TRBC.CMNOW 0 0) 65536 with
    flow := ⟨{ Flow.empty with tok := [⟨.txSec, 0, false, false, 0⟩] }, Flow.empty, Flow.empty, Flow.empty⟩ }

/-- The count of units sealed is not one of the fields by which an event of channel 0 is noticed. -/
theorem not_noticeKey_seals : ¬ noticeKey [] [0] (SECC.SEALS (keySlot 0 0 0)).key := by
  unfold noticeKey
  decide +kernel

/-- The token's bytes complete a unit, which is sealed under the tenant's key and counted (R275). -/
theorem toLfr_seals :
    ∃ t, exec (.tokenTransfer 0 (.toLfr 0)) sealingState = .next t ∧
      t.rd (SECC.SEALS (keySlot 0 0 0)) ≠ sealingState.rd (SECC.SEALS (keySlot 0 0 0)) :=
  ⟨_, rfl, by decide +kernel⟩

/-- Refutes O10: clause 6 allows an encrypted tributary and no change of a field but the marks of wrapped counters, where the
token that fills a unit is sealed and the units sealed under its key are counted. -/
theorem not_tokenTransfersCounted : ¬ Obligations.TokenTransfersCounted := by
  unfold Obligations.TokenTransfersCounted
  rintro ⟨-, -, -, -, -, consumed, -⟩
  obtain ⟨t, ht, -, -, -, kept⟩ := consumed sealingState 0 0 ⟨.txSec, 0, false, false, 0⟩
    (by decide +kernel) (by decide +kernel) rfl (by decide +kernel)
  obtain ⟨u, hu, counted⟩ := toLfr_seals
  cases hu.symm.trans ht
  exact counted (kept _ not_noticeKey_seals (by decide +kernel))

end Sys2Proof.Machine
end


section
/- Its runs of the model are checked one after another: side by side they need more memory than a check has. -/
set_option Elab.async false

namespace Sys2Proof.Machine

/-- The device at step 2 of its boot with a root key, 2^24 s after its clock was set. -/
def lateBootState : State :=
  (State.reset.put DEV_MODE.MODE Mode.boot).put DEV_BOOT_STAT.STEP 2 |>.put KEYC.ROOTST 1 |>.put KEY_RTC.SEC (2 ^ 24)

/-- The record's time has 24 bits, and the clock 32. -/
theorem plinthRecord_time_cut :
    ∃ t, exec (.bootStepComplete false [] []) lateBootState = .next t ∧
      t.rd (KEY_PLOG.TIME 0) ≠ lateBootState.rd KEY_RTC.SEC :=
  ⟨_, rfl, by decide +kernel⟩

/-- Refutes O57: clause 2 has the record of a lost root key show the whole clock, whose upper 8 bits the record's TIME has no
room for. -/
theorem not_bootStepsFollowInOrder : ¬ Obligations.BootStepsFollowInOrder := by
  unfold Obligations.BootStepsFollowInOrder
  rintro ⟨-, lost, -⟩
  obtain ⟨t, ht, -, -, ⟨-, -, time⟩, -⟩ := lost lateBootState [] [] (by decide +kernel) (by decide +kernel)
    (by decide +kernel) (by decide +kernel)
  obtain ⟨u, hu, cut⟩ := plinthRecord_time_cut
  cases hu.symm.trans ht
  exact cut time

end Sys2Proof.Machine
end


section
/- Its runs of the model are checked one after another: side by side they need more memory than a check has. -/
set_option Elab.async false

namespace Sys2Proof.Machine

/-! A state's register store may hold a value that is wider than the field it stands for, and a frame speaks of every field, one
that is as wide as that value included.  Where a command writes again what a field already reads, such a value is cut. -/

/-- The field of n bits that begins where f does. -/
def Field.widened (f : Field) (n : Nat) : Field := { f with width := n }

/-- A channel that is ACQUIRING, and whose coarse estimator runs by a mark, one bit wide, under which 3 is stored. -/
def wideEstimatorState : State :=
  { State.reset with regs := [((LDS_CH_STATE.STATE 0).key, ChSt.acquiring), ((LDSC.EST_RUN 0).key, 3)] }

theorem not_noticeKey_estRun : ¬ noticeKey [sourceOf 0 0x21] [4] (LDSC.EST_RUN 0).key := by
  unfold noticeKey
  decide +kernel

/-- The estimator starts again, and its mark is written again. -/
theorem coarseEstimateTimeout_cuts_mark :
    ∃ t, exec (.coarseEstimateTimeout 0) wideEstimatorState = .next t ∧
      t.rd ((LDSC.EST_RUN 0).widened 2) ≠ wideEstimatorState.rd ((LDSC.EST_RUN 0).widened 2) :=
  ⟨_, rfl, by decide +kernel⟩

/-- Refutes O22: clause 4 leaves the estimator's mark out of what a timeout changes, though the timeout writes it, which cuts
the 3 stored here to 1. -/
theorem not_acquisitionProgresses : ¬ Obligations.AcquisitionProgresses := by
  unfold Obligations.AcquisitionProgresses
  rintro ⟨-, -, -, again, -⟩
  obtain ⟨t, ht, -, -, -, -, -, kept⟩ := again wideEstimatorState 0 (by decide +kernel) (by decide +kernel)
    (by decide +kernel) (by decide +kernel)
  obtain ⟨u, hu, cut⟩ := coarseEstimateTimeout_cuts_mark
  cases hu.symm.trans ht
  exact cut (kept _ not_noticeKey_estRun (by decide +kernel))

end Sys2Proof.Machine
end


section
/- Its runs of the model are checked one after another: side by side they need more memory than a check has. -/
set_option Elab.async false

namespace Sys2Proof.Machine

/-! ## A discrepancy kept -/

/-- The device operates with a safety input active; under channel 0's discrepancy bit 3 is stored. -/
def wideDiscrepancyState : State :=
  { State.reset with
    regs := [(DEV_MODE.MODE.key, Mode.ready), ((OPT_SAFE_STAT.DISC 0).key, 3), (PIN.SAFE_A.key, 1)] }

/-- The discrepancy that a write may not clear is written again. -/
theorem discrepancyClear_cuts_discrepancy :
    ∃ t, exec (.discrepancyClear 0 0 16 15) wideDiscrepancyState = .next t ∧
      t.rd ((OPT_SAFE_STAT.DISC 0).widened 2) ≠ wideDiscrepancyState.rd ((OPT_SAFE_STAT.DISC 0).widened 2) :=
  ⟨_, rfl, by decide +kernel⟩

/-- Refutes O18: clause 6 leaves the discrepancy bit out of what a write of 1 changes while an input is active, though the write
stores the bit's value again, which cuts the 3 stored here to 1. -/
theorem not_safetyInputsAndOpticalFaults : ¬ Obligations.SafetyInputsAndOpticalFaults := by
  unfold Obligations.SafetyInputsAndOpticalFaults
  rintro ⟨-, -, -, -, -, held, -⟩
  obtain ⟨t, ht, -, -, -, kept⟩ := held wideDiscrepancyState 0 0 16 ⟨by decide +kernel, by decide +kernel, by decide +kernel⟩ (by decide +kernel)
    (.inl (by decide +kernel))
  obtain ⟨u, hu, cut⟩ := discrepancyClear_cuts_discrepancy
  cases hu.symm.trans ht
  exact cut (kept _ (by decide +kernel))

/-! ## A test pattern refused -/

/-- Channel 0 is LIT and IN_SERVICE, and the mark of its supervisory signal is not set yet. -/
def litInServiceState : State :=
  (State.reset.put DEV_MODE.MODE Mode.ready).put (OPT_STAT.PHASE 0) Phase.lit |>.put (LDS_CH_STATE.STATE 0) ChSt.inService

theorem not_noticeKey_inserts : ¬ noticeKey [128] [4] (LDS_TX_STAT.ISC_INS 0).key := by
  unfold noticeKey
  decide +kernel

/-- The refused write sets the mark that the channel's transmitter inserts the supervisory signal. -/
theorem testPatternWrite_marks_signal :
    ∃ t, exec (.testPatternWrite 0 0 2 15) litInServiceState = .next t ∧
      t.rd (LDS_TX_STAT.ISC_INS 0) ≠ litInServiceState.rd (LDS_TX_STAT.ISC_INS 0) :=
  ⟨_, rfl, by decide +kernel⟩

/-- Refutes O26: clause 4 has a refused pattern change the record of refusals alone, where the write shows anew whether the
transmitter of a lit channel inserts the supervisory signal. -/
theorem not_transmitSignalEvents : ¬ Obligations.TransmitSignalEvents := by
  unfold Obligations.TransmitSignalEvents
  rintro ⟨-, -, -, refused⟩
  obtain ⟨t, ht, ⟨-, -, -, -, -, -, kept⟩, -⟩ := refused litInServiceState 0 0 2 ⟨by decide +kernel, by decide +kernel, by decide +kernel⟩ (by decide +kernel)
    (by decide +kernel)
  obtain ⟨u, hu, marked⟩ := testPatternWrite_marks_signal
  cases hu.symm.trans ht
  exact marked (kept _ not_noticeKey_inserts (by decide +kernel))

/-! ## A resize and a rollover lose their peer together -/

/-- Two heartbeats of a PRESENT peer are missed; a resize is proposed, and a rollover is announced whose arm waits for its vote. -/
def resizeAndRolloverState : State :=
  { (State.reset.put (ISC_STAT.PEER 0) 1).put (ISC_STAT.MISSED 0) 2 |>.put (LDS_RSZ_STAT.STATE 0) 1
      |>.put (SEC_ROLL_STAT.STATE 0) 1 with
    votes := [.checkpoint, .rolloverArm 0] }

/-- The rollover's request is withdrawn too. -/
theorem iscHeartbeatMissed_withdraws_rollover :
    ∃ t, exec (.iscHeartbeatMissed 0) resizeAndRolloverState = .next t ∧
      t.votes ≠ resizeAndRolloverState.votes.filter (fun v => v ≠ .resizeArm 0) :=
  ⟨_, rfl, by decide +kernel⟩

/-- Refutes O35: clause 10 has a peer's loss withdraw the arm of a resize alone, and it withdraws that of an announced rollover
as well (R269). -/
theorem not_supervisoryChannelReceives : ¬ Obligations.SupervisoryChannelReceives := by
  unfold Obligations.SupervisoryChannelReceives
  rintro ⟨-, -, -, -, -, -, -, -, -, fails, -⟩
  obtain ⟨t, ht, -, -, -, -, votes, -⟩ := fails resizeAndRolloverState 0 (by decide +kernel) (by decide +kernel)
    (.inl (by decide +kernel))
  obtain ⟨u, hu, withdrawn⟩ := iscHeartbeatMissed_withdraws_rollover
  cases hu.symm.trans ht
  exact withdrawn votes

/-! ## A reset of the supervisor complex -/

/-- The device operates; under the 16-bit count of aborted mailbox commands 2^16 is stored. -/
def wideAbortedState : State :=
  { State.reset with regs := [(DEV_MODE.MODE.key, Mode.ready), (SUP_MBX_CNT.ABORTED.key, 2 ^ 16)] }

theorem not_noticeKey_aborted : ¬ noticeKey [] [] SUP_MBX_CNT.ABORTED.key := by
  unfold noticeKey
  decide +kernel

/-- No command is lost, and the count is written again. -/
theorem supervisorComplexReset_cuts_aborted :
    ∃ t, exec (.supervisorComplexReset 0 0x800000A5 15) wideAbortedState = .next t ∧
      t.rd (SUP_MBX_CNT.ABORTED.widened 17) ≠ wideAbortedState.rd (SUP_MBX_CNT.ABORTED.widened 17) :=
  ⟨_, rfl, by decide +kernel⟩

/-- Refutes O44: clause 11 leaves the count of aborted commands out of what the reset changes where none waits, though the reset
stores it again, which cuts the 2^16 stored here to 0. -/
theorem not_supervisorsFailAndReturn : ¬ Obligations.SupervisorsFailAndReturn := by
  unfold Obligations.SupervisorsFailAndReturn
  rintro ⟨-, -, -, -, -, -, -, -, -, -, stops, -⟩
  obtain ⟨t, ht, -, -, -, -, -, -, -, -, kept⟩ := stops wideAbortedState 0 0x800000A5 ⟨by decide +kernel, by decide +kernel, by decide +kernel⟩ (by decide +kernel)
    (by decide +kernel) (by decide +kernel) (by decide +kernel) (by decide +kernel) rfl rfl (by decide +kernel)
    (by decide +kernel)
  obtain ⟨u, hu, cut⟩ := supervisorComplexReset_cuts_aborted
  cases hu.symm.trans ht
  exact cut (kept _ not_noticeKey_aborted (by decide +kernel))

/-! ## A casting report -/

/-- Byte 1 of the casting report, which the map holds only as a part of its first word. -/
def reportByte : Field := ⟨0x8D00001, 0, 8, 0⟩

/-- The device operates with its casting engine faulted, an image of one byte is at hand, and a value is stored at byte 1 of the
report. -/
def reportByteState : State :=
  { State.reset with
    regs := [(DEV_MODE.MODE.key, Mode.ready), (CST_STAT.FAULT.key, 1), (reportByte.key, 1)], image := [0] }

theorem not_noticeKey_reportByte : ¬ noticeKey [112, 113] [4] reportByte.key := by
  unfold noticeKey
  decide +kernel

set_option maxRecDepth 1000000 in
/-- The refused image's report replaces every byte of the one before it. -/
theorem castingSubmit_clears_reportByte :
    ∃ t, exec (.castingSubmit 0 0x80010100 15) reportByteState = .next t ∧
      t.rd reportByte ≠ reportByteState.rd reportByte :=
  ⟨_, rfl, by decide +kernel⟩

set_option maxRecDepth 1000000 in
/-- Refutes O50: clause 3 lists the words of the report among what a refused image changes, and the report clears what is stored
between their beginnings too. -/
theorem not_castingsAreSubmittedAndChecked : ¬ Obligations.CastingsAreSubmittedAndChecked := by
  unfold Obligations.CastingsAreSubmittedAndChecked
  rintro ⟨-, -, shut, -⟩
  obtain ⟨t, ht, -, -, -, -, -, -, -, kept⟩ := shut reportByteState 0 0x80010100 ⟨by decide +kernel, by decide +kernel, by decide +kernel⟩ (by decide +kernel)
    (by decide +kernel) (by decide +kernel) (by decide +kernel)
  obtain ⟨u, hu, cleared⟩ := castingSubmit_clears_reportByte
  cases hu.symm.trans ht
  exact cleared (kept _ not_noticeKey_reportByte (by decide +kernel))

end Sys2Proof.Machine
end


section
/- Its runs of the model are checked one after another: side by side they need more memory than a check has. -/
set_option Elab.async false

namespace Sys2Proof.Machine

/-- DMA queue 0 has halted at a descriptor that Table 19.8 lets run. -/
def haltedQueueState : State :=
  (State.reset.put DEV_MODE.MODE Mode.ready).put (MGT_DQ_CTRL.EN 0) 1 |>.put MGT_STAT.BME 1 |>.put (MGT_DQ_STAT.STATE 0) 2
    |>.put (descWord 0 0 0) 0x10000001

/-- The same with 2^8 stored under the 8-bit number of the descriptor. -/
def wideDescriptorState : State :=
  { haltedQueueState with regs := setKey (MGT_DQ_STAT.DESC 0).key (2 ^ 8) 0 haltedQueueState.regs }

theorem not_noticeKey_desc : ¬ noticeKey [] [4] (MGT_DQ_STAT.DESC 0).key := by
  unfold noticeKey
  decide +kernel

/-- The queue takes its descriptor up again, and stores the descriptor's number. -/
theorem dmaQueueResume_cuts_descriptor :
    ∃ t, exec (.dmaQueueResume 0 0 0x80000000 15) wideDescriptorState = .next t ∧
      t.rd ((MGT_DQ_STAT.DESC 0).widened 9) ≠ wideDescriptorState.rd ((MGT_DQ_STAT.DESC 0).widened 9) :=
  ⟨_, rfl, by decide +kernel⟩

/-- Refutes O52: clause 3 leaves the number of the descriptor out of what RESUME changes, though RESUME stores it again, which
cuts the 2^8 stored here to 0. -/
theorem not_dmaQueuesRunDescriptors : ¬ Obligations.DmaQueuesRunDescriptors := by
  unfold Obligations.DmaQueuesRunDescriptors
  rintro ⟨-, -, resumed, -⟩
  obtain ⟨t, ht, -, -, -, -, kept⟩ := resumed wideDescriptorState 0 0 0x80000000
    ⟨by decide +kernel, by decide +kernel, by decide +kernel⟩ (by decide +kernel) (by decide +kernel) (by decide +kernel)
    (by decide +kernel) (by decide +kernel) (by decide +kernel)
  obtain ⟨u, hu, cut⟩ := dmaQueueResume_cuts_descriptor
  cases hu.symm.trans ht
  exact cut (kept _ not_noticeKey_desc (by decide +kernel))

end Sys2Proof.Machine
end


section
/- Its runs of the model are checked one after another: side by side they need more memory than a check has. -/
set_option Elab.async false

namespace Sys2Proof.Machine

/-! ## Positions of a converter that the channel does not have

Converters of a channel are 0 to 7, its slices 0 to 543.  A list of positions to fill may name another converter, whose spares the
scan for a spare finds among fields past those of the 544 slices. -/

/-- Channel 0 is IN_SERVICE, and a position of converter 8 waits to be filled. -/
def ninthConverterState : State :=
  ((State.reset.put DEV_MODE.MODE Mode.ready).put (LDS_CH_STATE.STATE 0) ChSt.inService).onChan 0
    (fun c => { c with swaps := [⟨8, 0, none, .waiting⟩] })

theorem not_noticeKey_slice608 : ¬ noticeKey [sourceOf 0 0x10, sourceOf 0 0x11] [0, 4] (CNV_SLC_STAT.STATE 0 608).key := by
  unfold noticeKey
  decide +kernel

/-- The lowest spare of converter 8 would be slice 608, and it enters SHADOW. -/
theorem sliceTimingFault_shadows_slice608 :
    ∃ t, exec (.sliceTimingFault 0 272) ninthConverterState = .next t ∧
      t.rd (CNV_SLC_STAT.STATE 0 608) ≠ ninthConverterState.rd (CNV_SLC_STAT.STATE 0 608) :=
  ⟨_, rfl, by decide +kernel⟩

/-- Refutes O19: clause 4 lists the states of slices 0 to 543 among what a fault changes, and a waiting position of a ninth
converter takes slice 608 along. -/
theorem not_sliceFaultsConcealed : ¬ Obligations.SliceFaultsConcealed := by
  unfold Obligations.SliceFaultsConcealed
  rintro ⟨-, -, -, timing, -⟩
  obtain ⟨t, ht, -, -, -, -, -, -, kept⟩ := timing ninthConverterState 0 272 (by decide +kernel) (by decide +kernel)
    (by decide +kernel) (.inl (by decide +kernel))
  obtain ⟨u, hu, shadowed⟩ := sliceTimingFault_shadows_slice608
  cases hu.symm.trans ht
  exact shadowed (kept _ not_noticeKey_slice608 (by decide +kernel))

/-- Channel 0 is IN_SERVICE; spare 64 calibrates for a position of converter 0, and one of converter 8 waits. -/
def ninthConverterShadowState : State :=
  ((State.reset.put DEV_MODE.MODE Mode.ready).put (LDS_CH_STATE.STATE 0) ChSt.inService).onChan 0
    (fun c => { c with swaps := [⟨8, 0, none, .waiting⟩, ⟨0, 0, none, .shadow 64⟩] })

theorem not_noticeKey_slice608_of_shadow : ¬ noticeKey [sourceOf 0 0x11] [4] (CNV_SLC_STAT.STATE 0 608).key := by
  unfold noticeKey
  decide +kernel

/-- As the spare's calibration ends, slice 608 enters SHADOW for converter 8. -/
theorem shadowCalibrationConverged_shadows_slice608 :
    ∃ t, exec (.shadowCalibrationConverged 0 0 0 0 0 0) ninthConverterShadowState = .next t ∧
      t.rd (CNV_SLC_STAT.STATE 0 608) ≠ ninthConverterShadowState.rd (CNV_SLC_STAT.STATE 0 608) :=
  ⟨_, rfl, by decide +kernel⟩

/-- Refutes O20: clause 1 lists the states of slices 0 to 543 among what the end of a calibration changes, and a waiting position
of a ninth converter takes slice 608 along. -/
theorem not_slicesSubstitutedAndRespaced : ¬ Obligations.SlicesSubstitutedAndRespaced := by
  unfold Obligations.SlicesSubstitutedAndRespaced
  rintro ⟨converged, -⟩
  obtain ⟨t, ht, -, -, -, -, -, -, -, -, -, -, kept⟩ := converged ninthConverterShadowState 0 0 0 0 0 0 ⟨0, 0, none, .shadow 64⟩ 64
    (by decide +kernel) rfl (by decide) (by decide +kernel)
  obtain ⟨u, hu, shadowed⟩ := shadowCalibrationConverged_shadows_slice608
  cases hu.symm.trans ht
  exact shadowed (kept _ not_noticeKey_slice608_of_shadow (by decide +kernel))

end Sys2Proof.Machine
end


section
/- Its runs of the model are checked one after another: side by side they need more memory than a check has. -/
set_option Elab.async false

namespace Sys2Proof.Machine

/-- The device operates, its casting engine fetches with one byte at hand, and a value is stored at byte 1 of the report. -/
def fetchingReportByteState : State :=
  { State.reset with
    regs := [(DEV_MODE.MODE.key, Mode.ready), (CST_STAT.STATE.key, Cst.fetch), (reportByte.key, 1)], image := [0] }

theorem not_noticeKey_reportByte_of_fault : ¬ noticeKey [112, 113, 114] [4] reportByte.key := by
  unfold noticeKey
  decide +kernel

set_option maxRecDepth 1000000 in
/-- The abandoned image's report replaces every byte of the one before it. -/
theorem castingEngineFault_clears_reportByte :
    ∃ t, exec .castingEngineFault fetchingReportByteState = .next t ∧
      t.rd reportByte ≠ fetchingReportByteState.rd reportByte :=
  ⟨_, rfl, by decide +kernel⟩

set_option maxRecDepth 1000000 in
/-- Refutes O51: clause 6 lists the words of the report among what an abandoned image changes, and the report clears what is
stored between their beginnings too. -/
theorem not_castingsAreApplied : ¬ Obligations.CastingsAreApplied := by
  unfold Obligations.CastingsAreApplied
  rintro ⟨-, -, -, -, -, abandoned⟩
  obtain ⟨t, ht, -, -, -, -, -, -, -, -, kept⟩ := abandoned fetchingReportByteState (by decide +kernel)
    (.inl (by decide +kernel))
  obtain ⟨u, hu, cleared⟩ := castingEngineFault_clears_reportByte
  cases hu.symm.trans ht
  exact cleared (kept _ not_noticeKey_reportByte_of_fault (by decide +kernel))

end Sys2Proof.Machine
end

section
/-! SUPPORT. Reading a field after a chain of operations: which fields a raise and a performance count leave alone, and the
inequalities of keys that such readings turn on. -/

set_option Elab.async false

namespace Sys2Proof.Machine

/-! ## Keys -/

/-- Two fields at other bits have other keys. -/
theorem key_ne_of {a l w r a' l' w' r' : Nat} (h : 8 * a + l ≠ 8 * a' + l') :
    Field.key ⟨a, l, w, r⟩ ≠ Field.key ⟨a', l', w', r'⟩ := h

/-- A key outside the pending bits, the arrival counters, the performance counters and their status words. -/
def QuietKey (k : Nat) : Prop :=
  ¬ (8 * 0x30400 ≤ k ∧ k < 8 * 0x30500) ∧ ¬ (8 * 0x32000 ≤ k ∧ k < 8 * 0x34000) ∧
  ¬ (8 * 0x20100000 ≤ k ∧ k < 8 * 0x20200000) ∧ ¬ (8 * 0x20300000 ≤ k ∧ k < 8 * 0x20600000) ∧
  ¬ (8 * 0x40004 ≤ k ∧ k < 8 * 0x40008) ∧ ¬ (8 * 0x1900004 ≤ k ∧ k < 8 * 0x1900008) ∧
  ¬ (8 * 0x2900004 ≤ k ∧ k < 8 * 0x2900008) ∧ ¬ (8 * 0x3900004 ≤ k ∧ k < 8 * 0x3900008) ∧
  ¬ (8 * 0x4900004 ≤ k ∧ k < 8 * 0x4900008)

theorem quiet_of {a l w r : Nat}
    (h : ¬ (0x30400 ≤ a + l / 8 ∧ a + l / 8 < 0x30500) ∧ ¬ (0x32000 ≤ a + l / 8 ∧ a + l / 8 < 0x34000) ∧
      ¬ (0x20100000 ≤ a + l / 8 ∧ a + l / 8 < 0x20200000) ∧ ¬ (0x20300000 ≤ a + l / 8 ∧ a + l / 8 < 0x20600000) ∧
      ¬ (0x40004 ≤ a + l / 8 ∧ a + l / 8 < 0x40008) ∧ ¬ (0x1900004 ≤ a + l / 8 ∧ a + l / 8 < 0x1900008) ∧
      ¬ (0x2900004 ≤ a + l / 8 ∧ a + l / 8 < 0x2900008) ∧ ¬ (0x3900004 ≤ a + l / 8 ∧ a + l / 8 < 0x3900008) ∧
      ¬ (0x4900004 ≤ a + l / 8 ∧ a + l / 8 < 0x4900008)) : QuietKey (Field.key ⟨a, l, w, r⟩) := by
  simp only [QuietKey, Field.key]; omega

/-- A notice writes no quiet key. -/
theorem not_noticeKey_of_quiet {src pmc : List Nat} (hs : ∀ M ∈ src, M < 2048) (hp : ∀ b ∈ pmc, b < 5) {k : Nat}
    (hk : QuietKey k) : ¬ noticeKey src pmc k := by
  rintro (⟨N, hN, h | h | ⟨i, hi, h | h⟩⟩ | ⟨b, hb, h | h | ⟨i, hi, h | h⟩⟩)
  iterate 4
    have hlt := noticed_lt hs hN
    simp only [QuietKey, Field.key, IRQ_PEND, IRQ_CFG.ARRIVE, SUPC.PEND, SUPC.ARRIVE, cell] at hk h; omega
  all_goals have hlt := hp b hb
  iterate 2
    simp only [QuietKey, Field.key, PMC_CH_STAT.OVF_EV, PMC_CH_STAT.WRAP_EV, pmcBase, chanStride] at hk h
    split at h <;> omega
  all_goals simp only [QuietKey, Field.key, PMC.CNT, PMC.STICKY, cell] at hk h; omega

/-! ## Readings -/

section
variable {s : State} {f : Field}

/-- A field put elsewhere is read as before. -/
theorem rd_put_ne {g : Field} {v : Nat} (h : f.key ≠ g.key) : (s.put g v).rd f = s.rd f := rd_put_other v s h

theorem rd_flag_ne {g : Field} {b : Bool} (h : f.key ≠ g.key) : (s.flag g b).rd f = s.rd f := rd_put_ne h

theorem rd_bump_ne {g : Field} (h : f.key ≠ g.key) : (s.bump g).rd f = s.rd f := rd_put_ne h

theorem rd_addSat_ne {g : Field} {c : Nat} (h : f.key ≠ g.key) : (s.addSat g c).rd f = s.rd f := rd_put_ne h

theorem rd_addWrap_ne {g : Field} {c : Nat} (h : f.key ≠ g.key) : (s.addWrap g c).rd f = s.rd f := rd_put_ne h

theorem rd_putBit_ne {g : Field} {i : Nat} {b : Bool} (h : f.key ≠ g.key) : (s.putBit g i b).rd f = s.rd f := rd_put_ne h

theorem rd_putS_ne {g : Field} {i : Int} (h : f.key ≠ g.key) : (s.putS g i).rd f = s.rd f := rd_put_ne h

theorem rd_raise_quiet {N : Nat} (hN : N < 2048) (h : QuietKey f.key) : (s.raise N).rd f = s.rd f :=
  fieldsKept_raise (l := []) (src := [N]) (pmc := []) (.refl _ _ _ s) (by simp) f
    (not_noticeKey_of_quiet (by simpa using hN) (by simp) h) (by simp)

theorem rd_raiseCh_quiet {n L : Nat} (hL : L < 256) (h : QuietKey f.key) : (s.raiseCh n L).rd f = s.rd f :=
  rd_raise_quiet (sourceOf_lt hL) h

theorem rd_countFor_quiet {b ev c : Nat} {k : PmcBlock} {who : Option Nat} (hb : b < 5) (h : QuietKey f.key) :
    (s.countFor b k ev c who).rd f = s.rd f :=
  fieldsKept_countFor (l := []) (src := []) (pmc := [b]) (.refl _ _ _ s) (by simp) f
    (not_noticeKey_of_quiet (by simp) (by simpa using hb) h) (by simp)

theorem rd_count_quiet {b ev : Nat} {k : PmcBlock} (hb : b < 5) (h : QuietKey f.key) :
    (s.count b k ev).rd f = s.rd f := rd_countFor_quiet hb h

/-- A count leaves the pending bit of every source but those of an overflow. -/
theorem rd_countFor_pend {b ev c M : Nat} {k : PmcBlock} {who : Option Nat} (hb : b < 5) (hM : M < 2048)
    (h : M ∉ overflowSources b) : (s.countFor b k ev c who).rd (IRQ_PEND M) = s.rd (IRQ_PEND M) :=
  fieldsKept_countFor (l := []) (src := []) (pmc := [b]) (.refl _ _ _ s) (by simp) _
    (not_noticeKey_pend (by simp) (by simpa using hb) hM (by simpa using h)) (by simp)

theorem rd_count_pend {b ev M : Nat} {k : PmcBlock} (hb : b < 5) (hM : M < 2048) (h : M ∉ overflowSources b) :
    (s.count b k ev).rd (IRQ_PEND M) = s.rd (IRQ_PEND M) := rd_countFor_pend hb hM h

end

/-! ## Fields that an operation leaves alone -/

section
variable {l : List Field} {src pmc : List Nat} {s t : State} {f : Field}

theorem fieldsKept_flag_of {b : Bool} (h : FieldsKept l src pmc s t) (m : f ∈ l) : FieldsKept l src pmc s (t.flag f b) :=
  fieldsKept_put_of h m

theorem sameFields_flag_of {b : Bool} (h : SameFields l s t) (m : f ∈ l) : SameFields l s (t.flag f b) :=
  sameFields_put_of h m

theorem fieldsKept_ite {p : Prop} [Decidable p] {u v : State} (h : FieldsKept l src pmc s u) (k : FieldsKept l src pmc s v) :
    FieldsKept l src pmc s (if p then u else v) := by split <;> assumption

end

end Sys2Proof.Machine

end
section
/-! The slack registers and the governor (R49 to R55). -/

namespace Sys2Proof.Machine

section
variable {s : State} {v : Nat}

/-! ## Requests (R51) -/

/-- A request within VMIN and VMAX. -/
def State.clampV (s : State) (v : Nat) : Nat := Nat.max s.vmin (Nat.min s.vmax v)

theorem clampV_lt (s : State) (v : Nat) : s.clampV v < 2 ^ 10 := by
  have hmin : s.vmin ≤ 850 := Nat.min_le_left _ _
  have hmax : s.vmax ≤ 850 := Nat.max_le.2 ⟨hmin, Nat.min_le_left _ _⟩
  exact Nat.lt_of_le_of_lt (Nat.max_le.2 ⟨hmin, (Nat.min_le_left _ _).trans hmax⟩) (by decide)

theorem requestV_eq (v : Nat) (s : State) : s.requestV v =
    (((s.put FAB_GOV_STAT.VREQ (s.clampV v)).flag FAB_GOV_STAT.AT_VMAX (s.clampV v = s.vmax)).put FABC.REQ 1).count 4
      .fab 0x01 := rfl

theorem requestV_vreq : (s.requestV v).rd FAB_GOV_STAT.VREQ = s.clampV v := by
  rw [requestV_eq]
  simp (disch := (refine id ?_; with_unfolding_all (first | apply key_ne_of | apply quiet_of | skip); omega)) only
    [rd_count_quiet, rd_put_ne, rd_flag_ne, rd_put_same]
  exact Nat.mod_eq_of_lt (clampV_lt s v)

theorem requestV_req : (s.requestV v).rd FABC.REQ = 1 := by
  rw [requestV_eq]
  simp (disch := (refine id ?_; with_unfolding_all (first | apply quiet_of | skip); omega)) only
    [rd_count_quiet, rd_put_same]
  rfl

/-- Fields that a request sets. -/
def requestFields : List Field := [FAB_GOV_STAT.VREQ, FAB_GOV_STAT.AT_VMAX, FABC.REQ]

theorem requestV_fieldsKept : FieldsKept requestFields [] [4] s (s.requestV v) := by
  rw [requestV_eq]
  refine fieldsKept_count (fieldsKept_put_of (fieldsKept_flag_of (fieldsKept_put_of (.refl _ _ _ s) ?_) ?_) ?_) ?_
  all_goals simp [requestFields]

/-- A request of v, in the words of the obligation. -/
theorem request_exists {r : Answer} (h : r = .next (s.requestV v)) :
    ∃ t, r = .next t ∧ t.rd FAB_GOV_STAT.VREQ = s.clampV v ∧ t.rd FABC.REQ = 1 ∧ FieldsKept requestFields [] [4] s t :=
  ⟨_, h, requestV_vreq, requestV_req, requestV_fieldsKept⟩

/-- The raise of 25 mV, in the words of the obligation. -/
theorem emergency_exists {r : Answer} (h : r = .next s.emergency) :
    ∃ t, r = .next t ∧ t.rd FAB_GOV_STAT.VREQ = s.clampV (s.rd FAB_GOV_STAT.VREQ + 25) ∧
      t.rd FAB_GOV_STAT.EMERG = 1 ∧ t.rd FABC.REQ = 1 ∧
      FieldsKept [FAB_GOV_STAT.VREQ, FAB_GOV_STAT.AT_VMAX, FABC.REQ, FAB_GOV_STAT.EMERG] [] [4] s t := by
  refine ⟨_, h, ?_, ?_, ?_, ?_⟩ <;> unfold State.emergency
  iterate 3
    simp (disch := (refine id ?_; with_unfolding_all (first | apply key_ne_of | apply quiet_of | skip); omega))
      [rd_count_quiet, rd_put_ne, requestV_vreq, requestV_req, FAB_GOV_STAT.EMERG]
  refine fieldsKept_count (fieldsKept_put_of (requestV_fieldsKept.mono ?_) ?_) ?_
  all_goals simp +contextual [requestFields]

/-! ## The evaluation (Table 2.3) -/

theorem exec_governorEvaluation (h : s.governs = true) : exec .governorEvaluation s = .next
    (match s.slack with
    | none => s.requestV (s.rd FAB_VCORE_LIM.IDLE)
    | some v =>
      if s.rd FABC.BOOST ≠ 0 then s
      else if v < 266 then s.emergency
      else if v < 287 then s.requestV (s.rd FAB_GOV_STAT.VREQ + 10)
      else if v ≤ 295 then s
      else s.requestV (s.rd FAB_GOV_STAT.VREQ - 5)) := by
  have hexec : exec .governorEvaluation s = execGovernorEvaluation s := rfl
  rw [hexec, execGovernorEvaluation, h]
  rfl

/-! ## Measurements (R49) -/

/-- The slack that NOW shows (R49). -/
def State.shownSlack (s : State) (n v : Nat) : Nat := if s.demands n ∧ v < 65534 then v else 65535

theorem slackOf_eq (n v : Nat) (s : State) : s.slackOf n v =
    (s.put (FAB_SLACK_C.NOW n) (s.shownSlack n v)).put (FAB_SLACK_C.MIN n)
      (Nat.min (s.shownSlack n v) (s.rd (FAB_SLACK_C.MIN n))) := by
  unfold State.slackOf State.shownSlack State.demands
  simp only [Bool.and_eq_true, decide_eq_true_eq]

theorem shownSlack_lt (n v : Nat) : s.shownSlack n v < 2 ^ 16 := by unfold State.shownSlack; split <;> omega

section
variable {n m : Nat}

theorem slackOf_now (v : Nat) : (s.slackOf n v).rd (FAB_SLACK_C.NOW n) = s.shownSlack n v := by
  rw [slackOf_eq, rd_put_ne, rd_put_same]
  · exact Nat.mod_eq_of_lt (shownSlack_lt n v)
  · exact key_ne_of (by omega)

theorem slackOf_min (v : Nat) :
    (s.slackOf n v).rd (FAB_SLACK_C.MIN n) = Nat.min (s.shownSlack n v) (s.rd (FAB_SLACK_C.MIN n)) := by
  rw [slackOf_eq, rd_put_same]
  exact Nat.mod_eq_of_lt (Nat.lt_of_le_of_lt (Nat.min_le_left _ _) (shownSlack_lt n v))

theorem slackOf_rd_ne {f : Field} (v : Nat) (hnow : f.key ≠ (FAB_SLACK_C.NOW n).key)
    (hmin : f.key ≠ (FAB_SLACK_C.MIN n).key) : (s.slackOf n v).rd f = s.rd f := by
  rw [slackOf_eq, rd_put_ne hmin, rd_put_ne hnow]

theorem slackOf_now_other (v : Nat) (h : m ≠ n) : (s.slackOf n v).rd (FAB_SLACK_C.NOW m) = s.rd (FAB_SLACK_C.NOW m) :=
  slackOf_rd_ne v (key_ne_of (by omega))
    (key_ne_of (by omega))

theorem slackOf_min_other (v : Nat) (h : m ≠ n) : (s.slackOf n v).rd (FAB_SLACK_C.MIN m) = s.rd (FAB_SLACK_C.MIN m) :=
  slackOf_rd_ne v (key_ne_of (by omega))
    (key_ne_of (by omega))

theorem demands_congr {t : State} (h : t.rd (LDS_CH_STATE.STATE n) = s.rd (LDS_CH_STATE.STATE n)) :
    t.demands n = s.demands n := by
  unfold State.demands State.holdsLock State.chSt
  rw [h]

theorem slackOf_demands {k : Nat} (hk : k < 4) (v : Nat) : (s.slackOf k v).demands n = s.demands n :=
  demands_congr (slackOf_rd_ne v (key_ne_of (by omega)) (key_ne_of (by omega)))

/-- The lowest slack follows the states and the slacks shown. -/
theorem slack_congr {t : State} (hd : ∀ n, t.demands n = s.demands n)
    (hn : ∀ n, t.rd (FAB_SLACK_C.NOW n) = s.rd (FAB_SLACK_C.NOW n)) : t.slack = s.slack := by
  simp [State.slack, hd, hn]

theorem rdBit_ofBits : ∀ (b0 b1 b2 b3 : Bool) (n : Fin 4),
    decide (bit (ofBits [b0, b1, b2, b3] % 2 ^ 4) n = 1) = [b0, b1, b2, b3].getD n false := by decide

end

/-- The four slacks as they are measured, before LIMITING is judged. -/
def State.measured (s : State) (s0 s1 s2 s3 : Nat) : State :=
  s.slackOf 0 s0 |>.slackOf 1 s1 |>.slackOf 2 s2 |>.slackOf 3 s3

/-- The channels whose slack is the lowest. -/
def State.limiting (u : State) (n : Nat) : Bool := u.demands n && u.slack = some (u.rd (FAB_SLACK_C.NOW n))

theorem exec_slackMeasurement (s0 s1 s2 s3 : Nat) (h : s.answers = true) : exec (.slackMeasurement s0 s1 s2 s3) s = .next
    ((s.measured s0 s1 s2 s3).put FAB_GOV_STAT.LIMITING (ofBits (channels.map (s.measured s0 s1 s2 s3).limiting))) := by
  have hexec : exec (.slackMeasurement s0 s1 s2 s3) s = execSlackMeasurement s0 s1 s2 s3 s := rfl
  rw [hexec, execSlackMeasurement, h]
  rfl

section
variable {s0 s1 s2 s3 : Nat}

theorem measured_demands (n : Nat) : (s.measured s0 s1 s2 s3).demands n = s.demands n := by
  simp [State.measured, slackOf_demands]

theorem measured_now : ∀ p ∈ [(0, s0), (1, s1), (2, s2), (3, s3)],
    (s.measured s0 s1 s2 s3).rd (FAB_SLACK_C.NOW p.1) = s.shownSlack p.1 p.2 := by
  simp [State.measured, slackOf_now, slackOf_now_other, State.shownSlack, slackOf_demands]

theorem measured_min : ∀ n ∈ channels, (s.measured s0 s1 s2 s3).rd (FAB_SLACK_C.MIN n) =
    Nat.min ((s.measured s0 s1 s2 s3).rd (FAB_SLACK_C.NOW n)) (s.rd (FAB_SLACK_C.MIN n)) := by
  simp [channels, State.measured, slackOf_now, slackOf_now_other, slackOf_min, slackOf_min_other]

/-- Fields that a measurement sets. -/
def slackFields : List Field :=
  (channels.map FAB_SLACK_C.NOW) ++ (channels.map FAB_SLACK_C.MIN) ++ [FAB_GOV_STAT.LIMITING]

theorem slackOf_sameFields {t : State} {n : Nat} (v : Nat) (h : SameFields slackFields s t) (hn : n ∈ channels) :
    SameFields slackFields s (t.slackOf n v) := by
  rw [slackOf_eq]
  refine sameFields_put_of (sameFields_put_of h ?_) ?_
  · exact List.mem_append_left _ (List.mem_append_left _ (List.mem_map_of_mem hn))
  · exact List.mem_append_left _ (List.mem_append_right _ (List.mem_map_of_mem hn))

theorem measured_sameFields : SameFields slackFields s (s.measured s0 s1 s2 s3) :=
  slackOf_sameFields s3 (slackOf_sameFields s2 (slackOf_sameFields s1 (slackOf_sameFields s0 (.refl _ s)
    (by decide)) (by decide)) (by decide)) (by decide)

end

/-- LIMITING is none of the fields that it is judged by. -/
theorem rd_put_limiting_now (v n : Nat) :
    (s.put FAB_GOV_STAT.LIMITING v).rd (FAB_SLACK_C.NOW n) = s.rd (FAB_SLACK_C.NOW n) := rd_put_ne (key_ne_of (by omega))

theorem rd_put_limiting_min (v n : Nat) :
    (s.put FAB_GOV_STAT.LIMITING v).rd (FAB_SLACK_C.MIN n) = s.rd (FAB_SLACK_C.MIN n) := rd_put_ne (key_ne_of (by omega))

theorem put_limiting_demands (v n : Nat) : (s.put FAB_GOV_STAT.LIMITING v).demands n = s.demands n :=
  demands_congr (rd_put_ne (key_ne_of (by omega)))

theorem put_limiting_slack (v : Nat) : (s.put FAB_GOV_STAT.LIMITING v).slack = s.slack :=
  slack_congr (put_limiting_demands v) (rd_put_limiting_now v)

theorem put_limiting_rdBit (b : Nat → Bool) :
    ∀ n ∈ channels, (s.put FAB_GOV_STAT.LIMITING (ofBits (channels.map b))).rdBit FAB_GOV_STAT.LIMITING n = b n := by
  intro n hn
  have hlt : n < 4 := by simp [channels] at hn; omega
  rw [State.rdBit, rd_put_same]
  refine (rdBit_ofBits (b 0) (b 1) (b 2) (b 3) ⟨n, hlt⟩).trans ?_
  match n, hlt with
  | 0, _ | 1, _ | 2, _ | 3, _ => rfl

end

/-! ## The obligation -/

/-- Settles O11: each clause is one branch of Table 2.3, R49, R54 or R55. -/
theorem governorFollowsSlack : Obligations.GovernorFollowsSlack := by
  refine ⟨?measured, ?idle, ?boosted, ?emergency, ?low, ?band, ?high, ?again, ?acknowledged, ?failed, ?third, ?retry, ?floor⟩
  case measured =>
    intro s s0 s1 s2 s3 hans
    refine ⟨_, exec_slackMeasurement s0 s1 s2 s3 hans, ?_, ?_, ?_, ?_⟩
    · intro p hp
      rw [rd_put_limiting_now]
      exact measured_now p hp
    · intro n hn
      rw [rd_put_limiting_min, rd_put_limiting_now]
      exact measured_min n hn
    · intro n hn
      rw [put_limiting_rdBit _ n hn, put_limiting_slack, rd_put_limiting_now, State.limiting, measured_demands]
    · exact (sameFields_put_of measured_sameFields (by simp [slackFields])).kept
  case idle =>
    intro s hgov hnone
    exact request_exists ((exec_governorEvaluation hgov).trans (by rw [hnone]))
  case boosted =>
    intro s v hgov hv hboost
    exact ⟨s, (exec_governorEvaluation hgov).trans (by simp [hv, hboost]), rfl⟩
  case emergency =>
    intro s v hgov hv hboost hlow
    exact emergency_exists ((exec_governorEvaluation hgov).trans (by simp [hv, hboost, hlow]))
  case low =>
    intro s v hgov hv hboost hlo hhi
    have hno : ¬ v < 266 := by omega
    exact request_exists ((exec_governorEvaluation hgov).trans (by simp [hv, hboost, hno, hhi]))
  case band =>
    intro s v hgov hv hboost hlo hhi
    have hno : ¬ v < 266 ∧ ¬ v < 287 := by omega
    exact ⟨s, (exec_governorEvaluation hgov).trans (by simp [hv, hboost, hno, hhi]), rfl⟩
  case high =>
    intro s v hgov hv hboost hhi
    have hno : ¬ v < 266 ∧ ¬ v < 287 ∧ ¬ v ≤ 295 := by omega
    exact request_exists ((exec_governorEvaluation hgov).trans (by simp [hv, hboost, hno]))
  case again =>
    intro s v hgov hv hboost hlow
    have hexec : exec .governorEmergencyRaise s = execGovernorEmergencyRaise s := rfl
    exact emergency_exists (hexec.trans (by simp [execGovernorEmergencyRaise, hgov, hv, hboost, hlow]))
  case acknowledged =>
    intro s hreq
    refine ⟨(s.put FABC.REQ 0).put FABC.AVS_FAILS 0, ?_, ?_, rd_put_same .., ?_⟩
    · exact congrArg Host.Outcome.next (by rw [hreq]; rfl)
    · rw [rd_put_ne, rd_put_same]
      · rfl
      · exact key_ne_of (by omega)
    · exact sameFields_put_of (sameFields_put_of (.refl _ s) (by simp)) (by simp)
  case failed =>
    intro s hreq hfew
    refine ⟨s.put FABC.AVS_FAILS (Nat.min 3 (s.rd FABC.AVS_FAILS + 1)), ?_, ?_, ?_⟩
    · exact congrArg Host.Outcome.next (by rw [hreq]; simp [Nat.not_lt.2 (Nat.le_of_lt_succ hfew)])
    · rw [rd_put_same]
      have : s.rd FABC.AVS_FAILS = 0 ∨ s.rd FABC.AVS_FAILS = 1 := by omega
      rcases this with h | h <;> rw [h] <;> rfl
    · exact sameFields_put_of (.refl _ s) (by simp)
  case third =>
    intro s hreq htwo
    refine ⟨((((s.put FABC.AVS_FAILS 3).put FABC.REQ 0).put FAB_GOV_STAT.AVS_ERR 1).raise 16).count 4 .fab 0x03,
      ?_, ?_, ?_, ?_, ?_⟩
    · exact congrArg Host.Outcome.next (by rw [hreq]; simp [htwo])
    · simp (disch := (refine id ?_; with_unfolding_all (first | apply key_ne_of | apply quiet_of | skip); omega)) only
        [rd_count_quiet, rd_raise_quiet, rd_put_ne, rd_put_same]
      rfl
    · simp (disch := (refine id ?_; with_unfolding_all (first | apply key_ne_of | apply quiet_of | skip); omega)) only
        [rd_count_quiet, rd_raise_quiet, rd_put_same]
      rfl
    · rw [rd_count_pend (by decide) (by decide) (by decide), raise_pend (by decide)]
    · refine fieldsKept_count (fieldsKept_raise (fieldsKept_put_of (fieldsKept_put_of (fieldsKept_put_of
        (.refl _ _ _ s) ?_) ?_) ?_) ?_) ?_
      all_goals simp
  case retry =>
    intro s hans hthree
    refine ⟨(s.put FABC.REQ 1).count 4 .fab 0x01, ?_, ?_, ?_⟩
    · exact congrArg Host.Outcome.next (by simp [hans, hthree])
    · exact (rd_count_quiet (by decide) (quiet_of (by omega))).trans (rd_put_same ..)
    · exact fieldsKept_count (fieldsKept_put_of (.refl _ _ _ s) (by simp)) (by simp)
  case floor =>
    intro s v hv hlow hmax
    refine ⟨(s.put FAB_GOV_STAT.FLOOR 1).raise 17, ?_, ?_, raise_pend (by decide), ?_⟩
    · exact congrArg Host.Outcome.next (by simp [hv, hlow, hmax])
    · exact (rd_raise_quiet (by decide) (quiet_of (by omega))).trans (rd_put_same ..)
    · exact fieldsKept_raise (fieldsKept_put_of (.refl _ _ _ s) (by simp)) (by simp)

end Sys2Proof.Machine
end

section
/-! SUPPORT. Host writes that are admitted, and host reads: what the word's fields, the row's hook and the read's effect make
of the access (R12 to R16, R423, R439 to R441). -/

set_option Elab.async false

namespace Sys2Proof.Machine

section
variable {s : State} {w : Wr} {h : Hook} {fs : List FSpec}

/-- No field of the word is refused. -/
def State.allTaken (s : State) (w : Wr) (h : Hook) (fs : List FSpec) : Prop :=
  ∀ f ∈ fs, s.fieldReason (s.level w.win) f (f.fld.of w.value) = 0 ∧
    (f.writable = true → h.reason s f.fld (f.fld.of w.value) = 0)

/-- The word's writable fields take their values. -/
def State.takeWord (s : State) (w : Wr) (fs : List FSpec) : State :=
  s.each (fs.filter FSpec.writable) (fun f t => t.applyField w.addr f (f.fld.of w.value))

/-- The fields of the word that are written, with their values. -/
def writtenFields (w : Wr) (fs : List FSpec) : List (Field × Nat) :=
  (fs.filter FSpec.writable).map (fun f => (f.fld, f.fld.of w.value))

/-- A field as an admitted write judges it. -/
def judgedTaken (w : Wr) (f : FSpec) : FSpec × Nat × Nat := (f, f.fld.of w.value, 0)

theorem judged_of_allTaken (hok : s.allTaken w h fs) :
    fs.map (fun f => (f, f.fld.of w.value,
      if s.fieldReason (s.level w.win) f (f.fld.of w.value) = 0 && f.writable then h.reason s f.fld (f.fld.of w.value)
      else s.fieldReason (s.level w.win) f (f.fld.of w.value))) = fs.map (judgedTaken w) := by
  refine List.map_congr_left fun f hf => ?_
  obtain ⟨hfield, hhook⟩ := hok f hf
  cases hwrit : f.writable
  · simp [judgedTaken, hfield]
  · simp [judgedTaken, hfield, hhook hwrit]

theorem filter_judgedTaken :
    (fs.map (judgedTaken w)).filter (fun j => j.1.writable && j.2.2 = 0) = (fs.filter FSpec.writable).map (judgedTaken w) := by
  rw [List.filter_map]
  congr 1
  exact List.filter_congr fun f _ => by simp [judgedTaken]

/-- A write none of whose fields is refused takes the fields and does what its row adds; the row may still refuse it. -/
theorem hostWrite_of_allTaken (hans : s.answers = true) (hfs : s.fieldsAt w.addr = fs) (hne : fs ≠ [])
    (hwhole : s.wholeReason w fs = 0) (hok : s.allTaken w h fs) :
    s.hostWrite w h =
      if (h.act (writtenFields w fs) (s.takeWord w fs)).2 = 0 then (h.act (writtenFields w fs) (s.takeWord w fs)).1
      else (h.act (writtenFields w fs) (s.takeWord w fs)).1.refuse w.win w.addr w.value
        (h.act (writtenFields w fs) (s.takeWord w fs)).2 false := by
  have hempty : fs.isEmpty = false := by simpa using hne
  have heach : s.each ((fs.filter FSpec.writable).map (judgedTaken w)) (fun j t => t.applyField w.addr j.1 j.2.1) =
      s.takeWord w fs := by
    rw [State.each, List.foldl_map]
    rfl
  have hwritten : ((fs.filter FSpec.writable).map (judgedTaken w)).map (fun j => (j.1.fld, j.2.1)) =
      writtenFields w fs := by rw [List.map_map]; rfl
  have hfind : (fs.map (judgedTaken w)).find? (fun j => j.2.2 ≠ 0) = none := by
    simp [judgedTaken]
  simp only [State.hostWrite, hfs, hans, hempty, hwhole, judged_of_allTaken hok, filter_judgedTaken, heach, hwritten,
    hfind]
  rfl

/-- An admitted write whose row does not refuse it. -/
theorem hostWrite_of_act {t : State} (hans : s.answers = true) (hfs : s.fieldsAt w.addr = fs) (hne : fs ≠ [])
    (hwhole : s.wholeReason w fs = 0) (hok : s.allTaken w h fs)
    (hact : h.act (writtenFields w fs) (s.takeWord w fs) = (t, 0)) : s.hostWrite w h = t := by
  rw [hostWrite_of_allTaken hans hfs hne hwhole hok, hact]
  rfl

/-- A read that is not refused delivers the word and has its effect. -/
theorem hostRead_of_level {win addr : Nat} {view : State → Nat} {act : State → State} (hans : s.answers = true)
    (hlvl : readLevel addr ≤ s.level win) :
    s.hostRead win addr view act = act (s.emit (.readData addr (view s))) := by
  simp [State.hostRead, hans, Nat.not_lt.2 hlvl]

end

end Sys2Proof.Machine
end
section
/-! Register accesses of the host (R423 to R425, R438, R440, R461). -/

namespace Sys2Proof.Machine

section
variable {s : State}

/-! ## MGT_DMA_CTRL -/

/-- The one field of MGT_DMA_CTRL (Table 19.15). -/
def dmaCtrlRow : FSpec := ⟨MGT_DMA_CTRL.RLX, .rw, .live, 3, .any⟩

theorem fieldsAt_dmaCtrl : s.fieldsAt 0x90050 = [dmaCtrlRow] := by
  have hreg : findReg 0x90050 = some ((⟨0x90050, [], 1, .plain, [dmaCtrlRow]⟩ : Reg), 0) := by decide
  rw [State.fieldsAt, hreg]
  rfl

theorem writeAt_dmaCtrl (win v be : Nat) :
    s.writeAt ⟨win, 0x90050, v, be⟩ = s.hostWrite ⟨win, 0x90050, v, be⟩ .plain := by
  have hmsix : inMsixTable 0x90050 = false := by decide
  have hdrop : dropsWrite 0x90050 = false := by decide
  have hhook : hookOf win 0x90050 v s = .plain := by
    rw [hookOf, if_neg (by decide), if_pos (by decide), mgtHook, if_pos (by decide)]
  simp only [State.writeAt, hmsix, hdrop, hhook]
  rfl

theorem writeAt_dmaCtrl_of_open {win v : Nat} (hopen : s.writeOpen win 3) :
    s.writeAt ⟨win, 0x90050, v, 15⟩ = s.put MGT_DMA_CTRL.RLX (bits v 0 1) := by
  have ⟨hans, hlvl, _⟩ := hopen
  have hfield : ¬ s.level win < 3 := by omega
  have hok : s.allTaken ⟨win, 0x90050, v, 15⟩ .plain [dmaCtrlRow] := by
    simp [State.allTaken, dmaCtrlRow, State.fieldReason, hfield, Lim.ok, Hook.plain]
  rw [writeAt_dmaCtrl]
  exact hostWrite_of_act hans fieldsAt_dmaCtrl (by simp)
    (wholeReason_of_open (f := dmaCtrlRow) hopen rfl (by simp) rfl (by decide)) hok rfl

/-! ## The MSI-X table -/

theorem writeAt_msixData {win v : Nat} (k : Fin 64) (hans : s.answers = true) (hlink : s.on MGT_STAT.LINK_UP = true) :
    s.writeAt ⟨win, 0x50000008 + 16 * k, v, 15⟩ = s.put (MSIX.DATA k) v := by
  have htable : inMsixTable (0x50000008 + 16 * k) = true := by simp [inMsixTable]; omega
  have hmask : (0x50000008 + 16 * k.val) % 16 ≠ 12 := by omega
  simp only [State.writeAt, htable, hans, hlink, State.msixWrite, if_neg hmask]
  rfl

/-! ## Reads -/

theorem fieldsAt_refuseInfo : s.fieldsAt 0x90044 = [⟨MGT_REFUSE_INFO.COUNT, .rc, .live, 2, .any⟩,
    ⟨MGT_REFUSE_INFO.RD, .ro, .live, 2, .any⟩, ⟨MGT_REFUSE_INFO.WIN, .ro, .live, 2, .any⟩,
    ⟨MGT_REFUSE_INFO.REASON, .ro, .live, 2, .any⟩] := by
  have hreg : findReg 0x90044 = some ((⟨0x90044, [], 1, .plain, [⟨MGT_REFUSE_INFO.COUNT, .rc, .live, 2, .any⟩,
    ⟨MGT_REFUSE_INFO.RD, .ro, .live, 2, .any⟩, ⟨MGT_REFUSE_INFO.WIN, .ro, .live, 2, .any⟩,
    ⟨MGT_REFUSE_INFO.REASON, .ro, .live, 2, .any⟩]⟩ : Reg), 0) := by decide
  rw [State.fieldsAt, hreg]
  rfl

/-- The word that MGT_REFUSE_INFO shows. -/
theorem view_refuseInfo : s.view 0x90044 = s.rd MGT_REFUSE_INFO.COUNT * 2 ^ 16 + s.rd MGT_REFUSE_INFO.RD * 2 ^ 12 +
    s.rd MGT_REFUSE_INFO.WIN * 2 ^ 8 + s.rd MGT_REFUSE_INFO.REASON := by
  have hview : s.view 0x90044 = s.readWord 0x90044 := rfl
  rw [hview, State.readWord, fieldsAt_refuseInfo]
  simp [MGT_REFUSE_INFO.COUNT, MGT_REFUSE_INFO.RD, MGT_REFUSE_INFO.WIN, MGT_REFUSE_INFO.REASON, Nat.add_assoc]

/-- COUNT stands in the highest bits of its word. -/
theorem refuseInfo_count_of {c r w k : Nat} (hc : c < 2 ^ 16) (hr : r < 2 ^ 1) (hw : w < 2 ^ 3) (hk : k < 2 ^ 4) :
    MGT_REFUSE_INFO.COUNT.of (c * 2 ^ 16 + r * 2 ^ 12 + w * 2 ^ 8 + k) = c := by
  simp only [Field.of, bits, MGT_REFUSE_INFO.COUNT]; omega

theorem readEffect_refuseInfo (v : Nat) : s.readEffect 0x90044 v =
    s.put MGT_REFUSE_INFO.COUNT (s.rd MGT_REFUSE_INFO.COUNT - MGT_REFUSE_INFO.COUNT.of v) := by
  rw [State.readEffect, fieldsAt_refuseInfo]
  rfl

theorem readAt_refuseInfo {win : Nat} (hans : s.answers = true) (hlvl : 1 ≤ s.level win) :
    s.readAt win 0x90044 = (s.emit (.readData 0x90044 (s.rd MGT_REFUSE_INFO.COUNT * 2 ^ 16 + s.rd MGT_REFUSE_INFO.RD *
      2 ^ 12 + s.rd MGT_REFUSE_INFO.WIN * 2 ^ 8 + s.rd MGT_REFUSE_INFO.REASON))).put MGT_REFUSE_INFO.COUNT 0 := by
  have hrow : readLevel 0x90044 = 1 := by decide
  simp only [State.readAt, Nat.reduceLeDiff, if_false, Bool.false_and, decide_false, Bool.false_eq_true]
  rw [hostRead_of_level hans (hrow.trans_le hlvl), readEffect_refuseInfo, view_refuseInfo,
    refuseInfo_count_of (rd_lt ..) (rd_lt ..) (rd_lt ..) (rd_lt ..)]
  simp

theorem readAt_time {win : Nat} (hans : s.answers = true) (hlvl : 1 ≤ s.level win) :
    s.readAt win 0x50 = (s.emit (.readData 0x50 (s.time % 2 ^ 32))).put DEV_TIME_HI.HI (s.time / 2 ^ 32) := by
  have hrow : readLevel 0x50 = 1 := by decide
  simp only [State.readAt, Nat.reduceLeDiff, if_false, Bool.false_and, decide_false, Bool.false_eq_true]
  rw [hostRead_of_level hans (hrow.trans_le hlvl)]
  rfl

/-- No register lies in the mirror of the snapshots. -/
theorem fieldsAt_alias {a : Nat} (hlo : 0x52000000 ≤ a) (hhi : a < 0x54000000) : s.fieldsAt a = [] := by
  have hrows : regsAt a = regsBar2 := by
    have hrow : 0x520 ≤ a / 0x100000 := by omega
    rw [regsAt, if_neg (by omega), if_neg (by omega), if_neg (by omega), if_neg (by omega), if_neg (by omega)]
    split <;> first | omega | exact if_pos (by omega)
  have hdist : ¬ dimsMatch [(4, 0x2000), (2048, 4)] (a - 0x50010000) := by
    have hlast : Nat.min 3 ((a - 0x50010000) / 0x2000) = 3 := Nat.min_eq_left (by omega)
    have hword : Nat.min 2047 ((a - 0x50010000 - 3 * 0x2000) / 4) = 2047 := Nat.min_eq_left (by omega)
    simp [dimsMatch, hlast, hword]
    omega
  have hfind : findReg a = none := by
    simp [findReg, hrows, regsBar2, Reg.distance, hdist]
  rw [State.fieldsAt, hfind]

/-- A write through the mirror of the snapshots does nothing (R424). -/
theorem writeAt_alias {win a v be : Nat} (hlo : 0x52000000 ≤ a) (hhi : a < 0x54000000) :
    s.writeAt ⟨win, a, v, be⟩ = s := by
  have hmsix : inMsixTable a = false := by simp [inMsixTable]; omega
  have hdrop : dropsWrite a = false := by simp [dropsWrite]; omega
  simp [State.writeAt, hmsix, hdrop, State.hostWrite, fieldsAt_alias hlo hhi]

theorem readAt_alias {win a : Nat} (hans : s.answers = true) (ha : 0x52000000 ≤ a)
    (hlvl : readLevel (aliasOf a) ≤ s.level win) :
    s.readAt win a = s.emit (.readData (aliasOf a) (s.view (aliasOf a))) := by
  rw [State.readAt, if_pos ha, hostRead_of_level hans hlvl]

end

/-- Settles O55: an access is carried out as its word's row and the windows say. -/
theorem registerAccessesOfTheHost : Obligations.RegisterAccessesOfTheHost := by
  refine ⟨?dmaCtrl, ?msix, ?aliasWrite, ?refuseInfo, ?aliasRead, ?time, ?enables, ?level⟩
  case dmaCtrl =>
    intro s win value hopen
    refine ⟨_, congrArg Host.Outcome.next (writeAt_dmaCtrl_of_open hopen), ?_, rfl, rfl, rfl, sameFields_put _ _ s⟩
    rw [rd_put_same]
    simp [bits, bit, MGT_DMA_CTRL.RLX]
  case msix =>
    intro s win addr value v hans hlink haddr
    refine ⟨s.put (MSIX.DATA v) value.toNat, ?_, ?_, rfl, rfl, rfl, sameFields_put _ _ s⟩
    · have hexec : exec (.registerWrite win addr value 15) s = .next (s.writeAt ⟨win, addr.toNat, value.toNat, 15⟩) := rfl
      rw [hexec, haddr, writeAt_msixData v hans hlink]
    · rw [rd_put_same]
      exact Nat.mod_eq_of_lt value.isLt
  case aliasWrite =>
    intro s win addr value be ⟨hlo, hhi⟩
    exact ⟨s, congrArg Host.Outcome.next (writeAt_alias hlo hhi), rfl, rfl, rfl⟩
  case refuseInfo =>
    intro s win hans hlvl
    refine ⟨_, congrArg Host.Outcome.next (readAt_refuseInfo hans hlvl), rfl, rd_put_same .., rfl, rfl, ?_⟩
    exact fun f hf => sameFields_put _ _ _ f hf
  case aliasRead =>
    intro s win addr hans ⟨hlo, hhi⟩ hlvl
    exact ⟨_, congrArg Host.Outcome.next (readAt_alias hans hlo hlvl), rfl, rfl, rfl, rfl⟩
  case time =>
    intro s win hans hlvl
    refine ⟨_, congrArg Host.Outcome.next (readAt_time hans hlvl), rfl, rd_put_same .., rfl, rfl, ?_⟩
    exact fun f hf => sameFields_put _ _ _ f hf
  case enables =>
    intro s win value be ⟨hans, hlvl, hwarn⟩ hbe
    have hne : be.val ≠ 15 := fun e => hbe (Fin.ext e)
    have hwhole : s.wholeReason ⟨win, 0x90050, value.toNat, be⟩ [dmaCtrlRow] = 7 := by
      have hzero : s.level win ≠ 0 := by omega
      have hfield : ¬ s.level win < 3 := by omega
      simp [State.wholeReason, hzero, hwarn, hne, dmaCtrlRow, FSpec.writable, hfield]
    refine ⟨_, congrArg Host.Outcome.next (hostWrite_of_wholeReason (h := .plain) hans (by simp [fieldsAt_dmaCtrl])
      (fieldsAt_dmaCtrl ▸ hwhole) (by decide)), refuse_refusedAs (win.isLt.trans (by decide)) (by decide), refuse_ch, refuse_flow⟩
  case level =>
    intro s win value hans hlow hlvl hwarn
    have hwhole : s.wholeReason ⟨win, 0x90050, value.toNat, 15⟩ [dmaCtrlRow] = 1 :=
      wholeReason_of_level_lt rfl (by simpa [dmaCtrlRow] using fun _ => hlow)
    refine ⟨_, congrArg Host.Outcome.next (hostWrite_of_wholeReason (h := .plain) hans (by simp [fieldsAt_dmaCtrl])
      (fieldsAt_dmaCtrl ▸ hwhole) (by decide)), refuse_refusedAs (win.isLt.trans (by decide)) (by decide), refuse_ch, refuse_flow⟩

end Sys2Proof.Machine
end

section
/-! SUPPORT. Fields that the small operations leave alone, each in the form that a chain of operations is peeled by, and what
the reception of a valid supervisory message sets and leaves alone (R262, R269). -/

set_option Elab.async false

namespace Sys2Proof.Machine

/-! ## Peeling a chain of operations -/

section
variable {l : List Field} {src pmc : List Nat} {s t : State} {f : Field}

theorem fieldsKept_addSat_of {c : Nat} (h : FieldsKept l src pmc s t) (m : f ∈ l) :
    FieldsKept l src pmc s (t.addSat f c) := fieldsKept_put_of h m

theorem fieldsKept_addWrap_of {c : Nat} (h : FieldsKept l src pmc s t) (m : f ∈ l) :
    FieldsKept l src pmc s (t.addWrap f c) := fieldsKept_put_of h m

theorem fieldsKept_putBit_of {i : Nat} {b : Bool} (h : FieldsKept l src pmc s t) (m : f ∈ l) :
    FieldsKept l src pmc s (t.putBit f i b) := fieldsKept_put_of h m

theorem fieldsKept_putS_of {i : Int} (h : FieldsKept l src pmc s t) (m : f ∈ l) :
    FieldsKept l src pmc s (t.putS f i) := fieldsKept_put_of h m

/-- A step taken under a condition, which keeps what any state before it kept. -/
theorem fieldsKept_when_fn {b : Bool} {g : State → State} (h : FieldsKept l src pmc s t)
    (k : ∀ u, FieldsKept l src pmc s u → FieldsKept l src pmc s (g u)) : FieldsKept l src pmc s (t.when b g) :=
  fieldsKept_when h (k t h)

theorem fieldsKept_clear {m : List Field} (h : FieldsKept l src pmc s t) (w : ∀ f ∈ m, f ∈ l) :
    FieldsKept l src pmc s (t.clear m) := fieldsKept_each h (fun f i _ hu => fieldsKept_put_of hu (w f i))

/-- Parts of the state that hold no field. -/
theorem fieldsKept_of_regs {u : State} (h : FieldsKept l src pmc s t) (hr : u.regs = t.regs) : FieldsKept l src pmc s u :=
  h.trans fun _ _ _ => by simp only [State.rd, hr]

theorem sameFields_of_regs {u : State} (h : SameFields l s t) (hr : u.regs = t.regs) : SameFields l s u :=
  h.trans fun _ _ => by simp only [State.rd, hr]

theorem sameFields_when_fn {b : Bool} {g : State → State} (h : SameFields l s t)
    (k : ∀ u, SameFields l s u → SameFields l s (g u)) : SameFields l s (t.when b g) := sameFields_when h (k t h)

end

/-! ## Registers outside a range of addresses -/

/-- The key lies outside the bytes from `lo` up to `hi`. -/
def KeyOut (lo hi k : Nat) : Prop := k < 8 * lo ∨ 8 * hi ≤ k

theorem out_of {lo hi a l w r : Nat} (h : 8 * a + l < 8 * lo ∨ 8 * hi ≤ 8 * a + l) : KeyOut lo hi (Field.key ⟨a, l, w, r⟩) := h

/-- One field lies before the other: the form of `key_ne_of` for fields of blocks far apart. -/
theorem key_ne_of_lt {a l w r a' l' w' r' : Nat} (h : 8 * a + l < 8 * a' + l') :
    Field.key ⟨a, l, w, r⟩ ≠ Field.key ⟨a', l', w', r'⟩ := Nat.ne_of_lt h

theorem key_ne_of_gt {a l w r a' l' w' r' : Nat} (h : 8 * a' + l' < 8 * a + l) :
    Field.key ⟨a, l, w, r⟩ ≠ Field.key ⟨a', l', w', r'⟩ := Nat.ne_of_gt h

theorem key_ne_of_out {lo hi k : Nat} {g : Field} (h : KeyOut lo hi k) (hlo : 8 * lo ≤ g.key) (hhi : g.key < 8 * hi) :
    k ≠ g.key := by unfold KeyOut at h; omega

/-! ## Requests and queues -/

section
variable {s : State} {f : Field}

@[simp] theorem request_regs (v : Vote) : (s.request v).regs = s.regs := rfl

@[simp] theorem request_rd (v : Vote) : (s.request v).rd f = s.rd f := rfl

@[simp] theorem queue_regs (n : Nat) (m : Msg) : (s.queue n m).regs = s.regs := rfl

@[simp] theorem queue_rd (n : Nat) (m : Msg) : (s.queue n m).rd f = s.rd f := rfl

@[simp] theorem withdraw_regs (v : Vote) : (s.withdraw v).regs = s.regs := by
  unfold State.withdraw
  split
  · rfl
  · dsimp only
    split <;> rfl

@[simp] theorem withdraw_rd (v : Vote) : (s.withdraw v).rd f = s.rd f := by simp only [State.rd, withdraw_regs]

end

/-! ## Reception -/

section
variable {l : List Field} {src pmc : List Nat} {s t : State} {n : Fin 4} {seq rep : Nat}

theorem fieldsKept_validMsg (h : FieldsKept l src pmc s t) (hl : ∀ f ∈ messageFields n, f ∈ l) (hn : n.val ∈ pmc) :
    FieldsKept l src pmc s (t.validMsg n seq rep) := by
  unfold State.validMsg
  repeat' (first
    | with_reducible assumption
    | with_reducible refine fieldsKept_when_fn ?_ (fun _ _ => ?_)
    | with_reducible apply fieldsKept_put_of
    | with_reducible apply fieldsKept_bump_of
    | with_reducible apply fieldsKept_addSat_of
    | with_reducible apply fieldsKept_count)
  all_goals exact hl _ (by simp [messageFields])

/-- The fields of a valid message lie in the block of the supervisory channel and its cells. -/
theorem messageFields_keys : ∀ n : Fin 4, ∀ g ∈ messageFields n,
    8 * (0x1700000 + 0x1000000 * n.val) ≤ g.key ∧ g.key < 8 * (0x1800000 + 0x1000000 * n.val) ∨
      8 * 0x20C00000 ≤ g.key ∧ g.key < 8 * 0x20D00000 := by decide

/-- A valid message leaves the fields outside that block and those cells alone. -/
theorem validMsg_rd {f : Field} (hq : QuietKey f.key)
    (hb : KeyOut (0x1700000 + 0x1000000 * n.val) (0x1800000 + 0x1000000 * n.val) f.key)
    (hc : KeyOut 0x20C00000 0x20D00000 f.key) : (s.validMsg n seq rep).rd f = s.rd f := by
  refine fieldsKept_validMsg (l := messageFields n) (src := []) (pmc := [n.val]) (.refl _ _ _ s) (fun _ h => h) (by simp)
    f (not_noticeKey_of_quiet (by simp) (by simpa using by omega) hq) (fun g hg => ?_)
  obtain ⟨hlo, hhi⟩ | ⟨hlo, hhi⟩ := messageFields_keys n g hg
  · exact (key_ne_of_out hb hlo hhi).symm
  · exact (key_ne_of_out hc hlo hhi).symm

theorem validMsg_sameArea (x : Area) : SameArea s (s.validMsg n seq rep) x :=
  (kept_validMsg (A := fun _ => False) (.refl s)).same x id

@[simp] theorem validMsg_ch : (s.validMsg n seq rep).ch = s.ch := validMsg_sameArea .ch
@[simp] theorem validMsg_flow : (s.validMsg n seq rep).flow = s.flow := validMsg_sameArea .flow
@[simp] theorem validMsg_votes : (s.validMsg n seq rep).votes = s.votes := validMsg_sameArea .votes
@[simp] theorem validMsg_chan (m : Nat) : (s.validMsg n seq rep).chan m = s.chan m := by
  simp only [State.chan, validMsg_ch]

theorem validMsg_firmware : (s.validMsg n seq rep).firmware = s.firmware := by
  unfold State.firmware State.on
  rw [validMsg_rd (f := SUP_STAT.LEADER) (quiet_of (by omega)) (out_of (by omega)) (out_of (by omega)),
    validMsg_rd (f := DEV_MODE.SUP_RESTART) (quiet_of (by omega)) (out_of (by omega)) (out_of (by omega))]

/-- With chip lock a message counts as valid, and then does what its type says. -/
theorem receive_of_chipLock {seq : Fin 256} {rep : Fin 4} {f : State → State} (h : s.rd (ISC_STAT.CHIP n) = 3) :
    s.receive n seq rep f = .next (f (s.validMsg n seq rep)) := by
  simp [State.receive, h]

/-- A firmware message does what it says while the firmware runs. -/
theorem receive_byFirmware {seq : Fin 256} {rep : Fin 4} {f : State → State} (h : s.rd (ISC_STAT.CHIP n) = 3)
    (hf : s.firmware = true) : s.receive n seq rep (State.byFirmware f) = .next (f (s.validMsg n seq rep)) := by
  rw [receive_of_chipLock h, State.byFirmware, validMsg_firmware, hf]
  rfl

end

end Sys2Proof.Machine
end
section
/-! Rollover batches (R292 to R294, Table 12.6). -/

namespace Sys2Proof.Machine

/-! ## Maps -/

/-- A map of some of the bits of a map fits 64 bits. -/
theorem mapOf_lt (m : Nat) (p : Nat → Bool) : mapOf ((mapBits m).filter p) < 2 ^ 64 := by
  have hsub : ((mapBits m).filter p).Sublist (List.range 64) := List.filter_sublist.trans List.filter_sublist
  have hle : mapOf ((mapBits m).filter p) ≤ mapOf (List.range 64) :=
    (hsub.map (2 ^ ·)).sum_le_sum (fun _ _ => Nat.zero_le _)
  exact Nat.lt_of_le_of_lt hle (by decide)

theorem mapOf_ne_zero {l : List Nat} (h : mapOf l ≠ 0) : l.isEmpty = false := by
  cases l
  · exact absurd rfl h
  · rfl

/-! ## The causes of ROLL_ERR -/

/-- ROLL_ERR of every tenant. -/
def rollErrFields (n : Nat) : List Field := (List.range 1024).map (fun k => SEC_TEN.ROLL_ERR n k)

section
variable {l : List Field} {src pmc : List Nat} {s t : State} {n : Fin 4} {base c : Nat} {ks : List Nat}

theorem fieldsKept_rollErrs (h : FieldsKept l src pmc s t) (hl : ∀ f ∈ rollErrFields n, f ∈ l) :
    FieldsKept l src pmc s (t.rollErrs n base c ks) := by
  refine fieldsKept_each h fun i _ u hu => ?_
  by_cases hi : base + i < 1024
  · simp only [hi, decide_true, when_true]
    exact fieldsKept_put_of hu (hl _ (List.mem_map_of_mem (List.mem_range.2 hi)))
  · simpa only [hi, decide_false, when_false] using hu

theorem rollErrFields_keys : ∀ g ∈ rollErrFields n, 8 * 0x8800000 ≤ g.key ∧ g.key < 8 * 0x8900000 := by
  intro g hg
  obtain ⟨k, hk, rfl⟩ := List.mem_map.1 hg
  have hlt := List.mem_range.1 hk
  simp only [Field.key, SEC_TEN.ROLL_ERR]
  omega

theorem rollErrs_rd {f : Field} (hf : KeyOut 0x8800000 0x8900000 f.key) : (s.rollErrs n base c ks).rd f = s.rd f := by
  have h : SameFields (rollErrFields n) s (s.rollErrs n base c ks) := by
    refine sameFields_each (.refl _ _) fun i _ u hu => ?_
    by_cases hi : base + i < 1024
    · simp only [hi, decide_true, when_true]
      exact sameFields_put_of hu (List.mem_map_of_mem (List.mem_range.2 hi))
    · simpa only [hi, decide_false, when_false] using hu
  exact h f fun g hg => (key_ne_of_out hf (rollErrFields_keys g hg).1 (rollErrFields_keys g hg).2).symm

theorem rollErrs_sameArea (x : Area) : SameArea s (s.rollErrs n base c ks) x :=
  (kept_rollErrs (A := fun _ => False) (.refl s)).same x id

@[simp] theorem rollErrs_ch : (s.rollErrs n base c ks).ch = s.ch := rollErrs_sameArea .ch
@[simp] theorem rollErrs_flow : (s.rollErrs n base c ks).flow = s.flow := rollErrs_sameArea .flow
@[simp] theorem rollErrs_votes : (s.rollErrs n base c ks).votes = s.votes := rollErrs_sameArea .votes

end

/-! ## What the tests of Table 12.6 read -/

section
variable {s t : State} {n : Fin 4}

/-- A tenant's readiness turns on its entry and its slots. -/
theorem rollReady_congr (h : ∀ f : Field, 8 * 0x8600000 ≤ f.key → f.key < 8 * 0x8800000 → t.rd f = s.rd f)
    (k : ∀ f : Field, 8 * 0x8900000 ≤ f.key → f.key < 8 * 0x8910000 → t.rd f = s.rd f) (i : Nat) :
    t.rollReady n i = s.rollReady n i := by
  by_cases hi : i < 1024
  · have hen := h (TRB_TRIB.EN n i) (by simp only [Field.key, TRB_TRIB.EN]; omega) (by simp only [Field.key, TRB_TRIB.EN]; omega)
    have hst := h (TRB_TRIB.STATE n i) (by simp only [Field.key, TRB_TRIB.STATE]; omega)
      (by simp only [Field.key, TRB_TRIB.STATE]; omega)
    have henc := h (TRB_TRIB.ENC n i) (by simp only [Field.key, TRB_TRIB.ENC]; omega) (by simp only [Field.key, TRB_TRIB.ENC]; omega)
    have hki := h (TRB_TRIB.KI_TX n i) (by simp only [Field.key, TRB_TRIB.KI_TX]; omega)
      (by simp only [Field.key, TRB_TRIB.KI_TX]; omega)
    have hside : 1 - s.rd (TRB_TRIB.KI_TX n i) ≤ 1 := Nat.sub_le ..
    have hslot := k (KEY_SLOT.STATE (keySlot n i (1 - s.rd (TRB_TRIB.KI_TX n i))))
      (by simp only [Field.key, KEY_SLOT.STATE, keySlot]; omega) (by simp only [Field.key, KEY_SLOT.STATE, keySlot]; omega)
    simp only [State.rollReady, State.carriesNext, State.on, hen, hst, henc, hki, hslot]
  · simp [State.rollReady, hi]

end

/-! ## The announcement (step 1) -/

section
variable {s : State} {n : Fin 4} {win : Fin 7} {value : Word}

/-- The row of SEC_ROLL_CTRL (Table 12.13). -/
def rollCtrlRow (n : Nat) : List FSpec :=
  [⟨SEC_ROLL_CTRL.GO n, .wo, .live, 3, .any⟩, ⟨SEC_ROLL_CTRL.BASE n, .rw, .live, 3, .mult 64⟩,
    ⟨SEC_ROLL_CTRL.LEAD n, .rw, .live, 3, .any⟩]

theorem findReg_rollCtrl : ∀ n : Fin 4, findReg (0x5010010 + 0x10000 * n) =
    some ((⟨0x5010010, [(4, 0x10000)], 1, .plain, rollCtrlRow 0⟩ : Reg), 0x10000 * n.val) := by decide

theorem fieldsAt_rollCtrl : s.fieldsAt (0x5010010 + 0x10000 * n) = rollCtrlRow n := by
  rw [State.fieldsAt, findReg_rollCtrl]
  match n with
  | 0 | 1 | 2 | 3 => rfl

/-- SEC_ROLL_CTRL as a write leaves it. -/
def State.setRollCtrl (s : State) (n v : Nat) : State :=
  (s.put (SEC_ROLL_CTRL.BASE n) ((SEC_ROLL_CTRL.BASE n).of v)).put (SEC_ROLL_CTRL.LEAD n) ((SEC_ROLL_CTRL.LEAD n).of v)

/-- An admitted GO runs on the state with the written fields. -/
theorem exec_rolloverGo (hopen : s.writeOpen win 3) (hgo : (SEC_ROLL_CTRL.GO n).of value.toNat = 1)
    (hbase : (SEC_ROLL_CTRL.BASE n).of value.toNat % 64 = 0) :
    exec (.rolloverGo win n value 15) s = .next ((s.setRollCtrl n value.toNat).rollGo n) := by
  have ⟨hans, hlvl, _⟩ := hopen
  have hfield : ¬ s.level win < 3 := by omega
  have hwhole := wholeReason_of_open (w := ⟨win, 0x5010010 + 0x10000 * n, value.toNat, 15⟩) (fs := rollCtrlRow n)
    (f := ⟨SEC_ROLL_CTRL.GO n, .wo, .live, 3, .any⟩) hopen rfl (by simp [rollCtrlRow]) rfl (Nat.zero_lt_succ 2)
  have hok : s.allTaken ⟨win, 0x5010010 + 0x10000 * n, value.toNat, 15⟩ (rollHook n) (rollCtrlRow n) := by
    simp [State.allTaken, rollCtrlRow, State.fieldReason, hfield, Lim.ok, rollHook, hbase]
  refine congrArg Host.Outcome.next (hostWrite_of_act hans fieldsAt_rollCtrl (by simp [rollCtrlRow]) hwhole hok ?_)
  simp [rollHook, writtenFields, rollCtrlRow, FSpec.writable, wroteOne, wrote, hgo, State.takeWord, State.each,
    State.applyField, State.setRollCtrl]

theorem setRollCtrl_rd {f : Field} {v : Nat} (hbase : f.key ≠ (SEC_ROLL_CTRL.BASE n).key)
    (hlead : f.key ≠ (SEC_ROLL_CTRL.LEAD n).key) : (s.setRollCtrl n v).rd f = s.rd f := by
  rw [State.setRollCtrl, rd_put_ne hlead, rd_put_ne hbase]

theorem setRollCtrl_rd_out {f : Field} {v : Nat} (h : KeyOut 0x5010000 0x5050000 f.key) :
    (s.setRollCtrl n v).rd f = s.rd f :=
  setRollCtrl_rd (key_ne_of_out h (by simp only [Field.key, SEC_ROLL_CTRL.BASE]; omega)
      (by simp only [Field.key, SEC_ROLL_CTRL.BASE]; omega))
    (key_ne_of_out h (by simp only [Field.key, SEC_ROLL_CTRL.LEAD]; omega)
      (by simp only [Field.key, SEC_ROLL_CTRL.LEAD]; omega))

theorem setRollCtrl_base (v : Nat) : (s.setRollCtrl n v).rd (SEC_ROLL_CTRL.BASE n) = (SEC_ROLL_CTRL.BASE n).of v := by
  rw [State.setRollCtrl, rd_put_ne, rd_put_same]
  · exact Nat.mod_mod _ _
  · exact key_ne_of (by omega)

theorem setRollCtrl_lead (v : Nat) : (s.setRollCtrl n v).rd (SEC_ROLL_CTRL.LEAD n) = (SEC_ROLL_CTRL.LEAD n).of v := by
  rw [State.setRollCtrl, rd_put_same]
  exact Nat.mod_mod _ _

theorem setRollCtrl_rollReady (v i : Nat) : (s.setRollCtrl n v).rollReady n i = s.rollReady n i :=
  rollReady_congr (fun f hlo _ => setRollCtrl_rd_out (.inr (by omega))) (fun f hlo _ => setRollCtrl_rd_out (.inr (by omega))) i

theorem setRollCtrl_mfn (v : Nat) : (s.setRollCtrl n v).mfn n = s.mfn n := setRollCtrl_rd_out (out_of (by omega))

theorem setRollCtrl_rollCause (v : Nat) : (s.setRollCtrl n v).rollCause n = s.rollCause n := by
  have hchan : (s.setRollCtrl n v).chan n = s.chan n := rfl
  simp (disch := (refine id ?_; with_unfolding_all (first | apply key_ne_of | apply out_of | skip); omega)) only
    [State.rollCause, State.chSt, State.rollBusy, State.rollRunning, State.rszRunning, State.plainMode, State.interop,
    State.active, State.profile, State.firmware, State.on, setRollCtrl_rd_out, setRollCtrl_rd, hchan]
  rfl

/-- The multiframe of the change: the lead, and at least 64, ahead. -/
def State.rollTarget (s : State) (n v : Nat) : Nat := (s.mfn n + Nat.max 64 ((SEC_ROLL_CTRL.LEAD n).of v)) % 2 ^ 32

/-- The tenants of the named map that are ready. -/
def State.rollNamed (s : State) (n : Nat) : List Nat :=
  mapBits (s.rd (SEC_ROLL_MAP0.MAP n) + 2 ^ 32 * s.rd (SEC_ROLL_MAP1.MAP n))

/-- The announced batch: base b, tenants `ready`, change at multiframe m; `rest` are the named ones that are not ready. -/
def State.rollAnnounced (n b m : Nat) (ready rest : List Nat) (s : State) : State :=
  (s.rollErrs n b 0 ready).rollErrs n b 0x2 rest
    |>.put (SEC_ROLL_STAT.PEER n) 0 |>.put (SEC_ROLL_STAT.CAUSE n) 0 |>.put (SECC.FLIP n) 0 |>.put (SECC.EMPTYACK n) 0
    |>.put (SECC.BATCH n) (mapOf ready) |>.put (SECC.BASE n) b |>.put (SEC_ROLL_MF.M n) m
    |>.put (SEC_ROLL_STAT.STATE n) 1 |>.queue n (.rolloverAnnounce m b (mapOf ready))

theorem rollGo_of_ready {ready : List Nat} (hcause : s.rollCause n = 0)
    (hready : (s.rollNamed n).filter (fun k => s.rollReady n (s.rd (SEC_ROLL_CTRL.BASE n) + k)) = ready)
    (hne : ready.isEmpty = false) : s.rollGo n =
      s.rollAnnounced n (s.rd (SEC_ROLL_CTRL.BASE n)) ((s.mfn n + Nat.max 64 (s.rd (SEC_ROLL_CTRL.LEAD n))) % 2 ^ 32) ready
        ((s.rollNamed n).filter (fun i => !ready.contains i)) := by
  unfold State.rollNamed at hready
  simp only [State.rollGo, hcause, hready, hne, ne_eq, not_true_eq_false, if_false, Bool.false_eq_true]
  rfl

end

section
variable {s : State} {n : Fin 4} {b m : Nat} {ready rest : List Nat}

theorem rollAnnounced_state : (s.rollAnnounced n b m ready rest).rd (SEC_ROLL_STAT.STATE n) = 1 := by
  rw [State.rollAnnounced, queue_rd, rd_put_same]
  rfl

theorem rollAnnounced_peer : (s.rollAnnounced n b m ready rest).rd (SEC_ROLL_STAT.PEER n) = 0 := by
  simp (disch := (refine id ?_; with_unfolding_all first
      | (apply key_ne_of_lt; omega) | (apply key_ne_of_gt; omega))) only
    [State.rollAnnounced, queue_rd, rd_put_ne, rd_put_same]
  rfl

theorem rollAnnounced_cause : (s.rollAnnounced n b m ready rest).rd (SEC_ROLL_STAT.CAUSE n) = 0 := by
  simp (disch := (refine id ?_; with_unfolding_all first
      | (apply key_ne_of_lt; omega) | (apply key_ne_of_gt; omega))) only
    [State.rollAnnounced, queue_rd, rd_put_ne, rd_put_same]
  rfl

theorem rollAnnounced_m : (s.rollAnnounced n b m ready rest).rd (SEC_ROLL_MF.M n) = m % 2 ^ 32 := by
  simp (disch := (refine id ?_; with_unfolding_all first
      | (apply key_ne_of_lt; omega) | (apply key_ne_of_gt; omega))) only
    [State.rollAnnounced, queue_rd, rd_put_ne, rd_put_same]
  rfl

theorem rollAnnounced_batch :
    (s.rollAnnounced n b m ready rest).rd (SECC.BATCH n) = mapOf ready % 2 ^ 64 := by
  simp (disch := (refine id ?_; with_unfolding_all first
      | (apply key_ne_of_lt; omega) | (apply key_ne_of_gt; omega))) only
    [State.rollAnnounced, queue_rd, rd_put_ne, rd_put_same]
  rfl

theorem rollAnnounced_ch : (s.rollAnnounced n b m ready rest).ch =
    s.ch.set n { s.chan n with msgs := (s.chan n).msgs ++ [.rolloverAnnounce m b (mapOf ready)] } := by
  simp [State.rollAnnounced, State.queue, State.onChan, State.chan]

theorem rollAnnounced_flow : (s.rollAnnounced n b m ready rest).flow = s.flow := by
  simp [State.rollAnnounced, State.queue]

theorem rollAnnounced_votes : (s.rollAnnounced n b m ready rest).votes = s.votes := by
  simp [State.rollAnnounced, State.queue]

/-- Fields of the batch that an announcement sets at its sender. -/
def rollBatchFields (n : Nat) : List Field :=
  [SEC_ROLL_STAT.PEER n, SEC_ROLL_STAT.CAUSE n, SEC_ROLL_STAT.STATE n, SECC.BATCH n, SECC.BASE n, SEC_ROLL_MF.M n,
    SECC.FLIP n, SECC.EMPTYACK n]

/-- The fields that GO sets. -/
def rollGoFields (n : Nat) : List Field :=
  [SEC_ROLL_STAT.PEER n, SEC_ROLL_STAT.CAUSE n, SEC_ROLL_STAT.STATE n, SECC.BATCH n, SECC.BASE n, SEC_ROLL_MF.M n,
    SECC.FLIP n, SECC.EMPTYACK n, SEC_ROLL_CTRL.GO n, SEC_ROLL_CTRL.BASE n, SEC_ROLL_CTRL.LEAD n] ++ rollErrFields n

theorem sameFields_rollErrs {l : List Field} {t : State} {c : Nat} {ks : List Nat} (h : SameFields l s t)
    (hl : ∀ f ∈ rollErrFields n, f ∈ l) : SameFields l s (t.rollErrs n b c ks) := by
  refine sameFields_each h fun i _ u hu => ?_
  by_cases hi : b + i < 1024
  · simp only [hi, decide_true, when_true]
    exact sameFields_put_of hu (hl _ (List.mem_map_of_mem (List.mem_range.2 hi)))
  · simpa only [hi, decide_false, when_false] using hu

theorem rollAnnounced_sameFields {l : List Field} {t : State} (h : SameFields l s t) (hb : ∀ f ∈ rollBatchFields n, f ∈ l)
    (hl : ∀ f ∈ rollErrFields n, f ∈ l) : SameFields l s (t.rollAnnounced n b m ready rest) := by
  unfold State.rollAnnounced
  refine sameFields_of_regs ?_ (queue_regs n _)
  iterate 8 refine sameFields_put_of ?_ (hb _ (by simp [rollBatchFields]))
  exact sameFields_rollErrs (sameFields_rollErrs h hl) hl

/-! ## The answer (steps 3 and 3a) -/

/-- The batch is taken at the answering end, and its arm vote asked for. -/
def State.rollAnswered (n m b mB : Nat) (ready rest : List Nat) (s : State) : State :=
  s.rollErrs n b 0 ready |>.rollErrs n b 0x2 rest
    |>.put (SEC_ROLL_STAT.PEER n) 1 |>.put (SEC_ROLL_STAT.CAUSE n) 0 |>.put (SEC_ROLL_STAT.STATE n) 1
    |>.put (SECC.BATCH n) (mapOf ready) |>.put (SECC.BASE n) b |>.put (SECC.PEERM n) m |>.put (SEC_ROLL_MF.M n) mB
    |>.put (SECC.FLIP n) 0 |>.put (SECC.EMPTYACK n) 0 |>.request (.rolloverArm n)

section
variable {mB : Nat}

theorem rollAnswered_state : (s.rollAnswered n m b mB ready rest).rd (SEC_ROLL_STAT.STATE n) = 1 := by
  simp (disch := (refine id ?_; with_unfolding_all first
      | (apply key_ne_of_lt; omega) | (apply key_ne_of_gt; omega))) only
    [State.rollAnswered, request_rd, rd_put_ne, rd_put_same]
  rfl

theorem rollAnswered_peer : (s.rollAnswered n m b mB ready rest).rd (SEC_ROLL_STAT.PEER n) = 1 := by
  simp (disch := (refine id ?_; with_unfolding_all first
      | (apply key_ne_of_lt; omega) | (apply key_ne_of_gt; omega))) only
    [State.rollAnswered, request_rd, rd_put_ne, rd_put_same]
  rfl

theorem rollAnswered_cause : (s.rollAnswered n m b mB ready rest).rd (SEC_ROLL_STAT.CAUSE n) = 0 := by
  simp (disch := (refine id ?_; with_unfolding_all first
      | (apply key_ne_of_lt; omega) | (apply key_ne_of_gt; omega))) only
    [State.rollAnswered, request_rd, rd_put_ne, rd_put_same]
  rfl

theorem rollAnswered_m : (s.rollAnswered n m b mB ready rest).rd (SEC_ROLL_MF.M n) = mB % 2 ^ 32 := by
  simp (disch := (refine id ?_; with_unfolding_all first
      | (apply key_ne_of_lt; omega) | (apply key_ne_of_gt; omega))) only
    [State.rollAnswered, request_rd, rd_put_ne, rd_put_same]
  rfl

theorem rollAnswered_batch :
    (s.rollAnswered n m b mB ready rest).rd (SECC.BATCH n) = mapOf ready % 2 ^ 64 := by
  simp (disch := (refine id ?_; with_unfolding_all first
      | (apply key_ne_of_lt; omega) | (apply key_ne_of_gt; omega))) only
    [State.rollAnswered, request_rd, rd_put_ne, rd_put_same]
  rfl

theorem rollAnswered_peerM : (s.rollAnswered n m b mB ready rest).rd (SECC.PEERM n) = m % 2 ^ 32 := by
  simp (disch := (refine id ?_; with_unfolding_all first
      | (apply key_ne_of_lt; omega) | (apply key_ne_of_gt; omega))) only
    [State.rollAnswered, request_rd, rd_put_ne, rd_put_same]
  rfl

theorem rollAnswered_votes : (s.rollAnswered n m b mB ready rest).votes = s.votes ++ [.rolloverArm n] := by
  simp [State.rollAnswered, State.request]

theorem rollAnswered_ch : (s.rollAnswered n m b mB ready rest).ch = s.ch := by simp [State.rollAnswered, State.request]

theorem rollAnswered_flow : (s.rollAnswered n m b mB ready rest).flow = s.flow := by
  simp [State.rollAnswered, State.request]

theorem rollAnswered_fieldsKept {l : List Field} {src pmc : List Nat} {t : State} (h : FieldsKept l src pmc s t)
    (hb : ∀ f ∈ SECC.PEERM n :: rollBatchFields n, f ∈ l) (hl : ∀ f ∈ rollErrFields n, f ∈ l) :
    FieldsKept l src pmc s (t.rollAnswered n m b mB ready rest) := by
  unfold State.rollAnswered
  refine fieldsKept_of_regs ?_ (request_regs _)
  iterate 9 refine fieldsKept_put_of ?_ (hb _ (by simp [rollBatchFields]))
  exact fieldsKept_rollErrs (fieldsKept_rollErrs h hl) hl

end

end

/-! ## What a valid message leaves to the tests of Table 12.6 -/

section
variable {s : State} {n : Fin 4} {seq rep : Nat}

theorem validMsg_rollReady (i : Nat) : (s.validMsg n seq rep).rollReady n i = s.rollReady n i := by
  refine rollReady_congr (fun f hlo hhi => ?_) (fun f hlo hhi => ?_) i
  all_goals
    exact validMsg_rd (by unfold QuietKey; omega) (by unfold KeyOut; omega) (by unfold KeyOut; omega)

theorem validMsg_rd_sec {f : Field} (hlo : 8 * 0x5010000 ≤ f.key) (hhi : f.key < 8 * 0x5050000) :
    (s.validMsg n seq rep).rd f = s.rd f :=
  validMsg_rd (by unfold QuietKey; omega) (by unfold KeyOut; omega) (by unfold KeyOut; omega)

theorem validMsg_rollState : (s.validMsg n seq rep).rd (SEC_ROLL_STAT.STATE n) = s.rd (SEC_ROLL_STAT.STATE n) :=
  validMsg_rd_sec (by simp only [Field.key, SEC_ROLL_STAT.STATE]; omega) (by simp only [Field.key, SEC_ROLL_STAT.STATE]; omega)

theorem validMsg_rollPeer : (s.validMsg n seq rep).on (SEC_ROLL_STAT.PEER n) = s.on (SEC_ROLL_STAT.PEER n) := by
  unfold State.on
  rw [validMsg_rd_sec] <;> (simp only [Field.key, SEC_ROLL_STAT.PEER]; omega)

theorem validMsg_rollM : (s.validMsg n seq rep).rd (SEC_ROLL_MF.M n) = s.rd (SEC_ROLL_MF.M n) :=
  validMsg_rd_sec (by simp only [Field.key, SEC_ROLL_MF.M]; omega) (by simp only [Field.key, SEC_ROLL_MF.M]; omega)

theorem validMsg_mfn : (s.validMsg n seq rep).mfn n = s.mfn n :=
  validMsg_rd (quiet_of (by omega)) (out_of (by omega)) (out_of (by omega))

theorem validMsg_fromPeer (m : Nat) : (s.validMsg n seq rep).fromPeer n m = s.fromPeer n m := by
  have hrx : (s.validMsg n seq rep).rd (LFR_MFN_RX.MFN n) = s.rd (LFR_MFN_RX.MFN n) :=
    validMsg_rd (quiet_of (by omega)) (out_of (by omega)) (out_of (by omega))
  simp only [State.fromPeer, validMsg_mfn, hrx]

theorem validMsg_rszRunning : (s.validMsg n seq rep).rszRunning n = s.rszRunning n := by
  have hst : (s.validMsg n seq rep).rd (LDS_RSZ_STAT.STATE n) = s.rd (LDS_RSZ_STAT.STATE n) :=
    validMsg_rd (quiet_of (by omega)) (out_of (by omega)) (out_of (by omega))
  simp only [State.rszRunning]
  rw [hst]

theorem validMsg_rollBusy : (s.validMsg n seq rep).rollBusy n = s.rollBusy n := by
  simp only [State.rollBusy, State.rollRunning, validMsg_rszRunning]
  rw [validMsg_rollState]

theorem validMsg_plainMode : (s.validMsg n seq rep).plainMode n = s.plainMode n := by
  have hact : (s.validMsg n seq rep).rd (LDS_LMODE_STAT.ACTIVE n) = s.rd (LDS_LMODE_STAT.ACTIVE n) :=
    validMsg_rd (quiet_of (by omega)) (out_of (by omega)) (out_of (by omega))
  have hg2 : (s.validMsg n seq rep).rd (LFR_CTRL.G2 n) = s.rd (LFR_CTRL.G2 n) :=
    validMsg_rd (quiet_of (by omega)) (out_of (by omega)) (out_of (by omega))
  simp only [State.plainMode, State.interop, State.active, State.profile, validMsg_chan, State.on]
  rw [hact, hg2]

theorem validMsg_rollLeft : (s.validMsg n seq rep).rollLeft n = s.rollLeft n := by
  simp only [State.rollLeft, validMsg_rollM, validMsg_mfn]

theorem validMsg_secc {f : Field} (hlo : 8 * 0x21500000 ≤ f.key) (hhi : f.key < 8 * 0x21600000) :
    (s.validMsg n seq rep).rd f = s.rd f :=
  validMsg_rd (by unfold QuietKey; omega) (by unfold KeyOut; omega) (by unfold KeyOut; omega)

theorem validMsg_rollBase : (s.validMsg n seq rep).rd (SECC.BASE n) = s.rd (SECC.BASE n) :=
  validMsg_secc (by simp only [Field.key, SECC.BASE, cell]; omega) (by simp only [Field.key, SECC.BASE, cell]; omega)

theorem validMsg_rollBatch : (s.validMsg n seq rep).rd (SECC.BATCH n) = s.rd (SECC.BATCH n) :=
  validMsg_secc (by simp only [Field.key, SECC.BATCH, cell]; omega) (by simp only [Field.key, SECC.BATCH, cell]; omega)

end

section
variable {s : State} {n : Fin 4} {m b mB : Nat}

theorem rollAnswer_of_ready {ready : List Nat} {map : Nat}
    (hready : (mapBits map).filter (fun i => s.rollReady n (b + i)) = ready) (hne : ready.isEmpty = false)
    (hbusy : s.rollBusy n = false) (hplain : s.plainMode n = false) (hlead : 16 ≤ mfSub mB (s.mfn n))
    (hhalf : mfSub mB (s.mfn n) < 2 ^ 31) :
    s.rollAnswer n m b map mB = s.rollAnswered n m b mB ready ((mapBits map).filter (fun i => !ready.contains i)) := by
  simp only [State.rollAnswer, hready, hne, hbusy, hplain, hlead, hhalf, decide_true, Bool.not_false, Bool.and_self, if_true]
  rfl

theorem rollAnswer_of_none {map : Nat} (hnone : (mapBits map).all (fun i => !s.rollReady n (b + i)) = true) :
    s.rollAnswer n m b map mB = s.queue n (.rolloverAck m b 0) := by
  have hempty : ((mapBits map).filter (fun i => s.rollReady n (b + i))).isEmpty = true := by
    simpa [List.all_eq_true] using hnone
  simp only [State.rollAnswer, hempty, Bool.not_true, Bool.and_false, Bool.false_eq_true, if_false]

theorem rollState_ne_of_not_busy (h : s.rollBusy n = false) : s.rd (SEC_ROLL_STAT.STATE n) ≠ 1 := by
  simp only [State.rollBusy, State.rollRunning, Bool.or_eq_false_iff, decide_eq_false_iff_not] at h
  exact h.1.1

/-- An announcement that crosses none of this end's is answered. -/
theorem exec_rolloverAnnounce {seq : Fin 256} {rep : Fin 4} {m : BitVec 32} {base : Fin 1024} {map : BitVec 64}
    (hchip : s.rd (ISC_STAT.CHIP n) = 3) (hfirm : s.firmware = true) (hbusy : s.rollBusy n = false) :
    exec (.rolloverAnnounceReceived n seq rep m base map) s =
      .next ((s.validMsg n seq rep).rollAnswer n m.toNat base map.toNat (s.fromPeer n m.toNat)) := by
  refine (receive_byFirmware hchip hfirm).trans ?_
  simp only [validMsg_rollState, rollState_ne_of_not_busy hbusy, decide_false, Bool.false_and, when_false,
    validMsg_fromPeer, Bool.false_eq_true, if_false]

/-- The announcer's batch is cut to what the answer holds, and its arm vote asked for. -/
def State.rollCut (n base : Nat) (lost both : List Nat) (s : State) : State :=
  ((s.rollErrs n base 0x3 lost).put (SECC.BATCH n) (mapOf both)).request (.rolloverArm n)

section
variable {seq : Fin 256} {rep : Fin 4} {m : BitVec 32} {base : Fin 1024}

/-- The announcer takes an answer that is in time. -/
theorem exec_rolloverAck (map : BitVec 64) (hchip : s.rd (ISC_STAT.CHIP n) = 3) (hfirm : s.firmware = true)
    (hst : s.rd (SEC_ROLL_STAT.STATE n) = 1) (hpeer : s.on (SEC_ROLL_STAT.PEER n) = false)
    (hm : s.rd (SEC_ROLL_MF.M n) = m.toNat) (hbase : s.rd (SECC.BASE n) = base.val) (hleft : 16 < s.rollLeft n) :
    exec (.rolloverAckReceived n seq rep m base map) s = .next
      (if map.toNat = 0 then (s.validMsg n seq rep).put (SECC.EMPTYACK n) 1
      else if ((mapBits (s.rd (SECC.BATCH n))).filter (fun i => bit map.toNat i = 1)).isEmpty then
        ((s.validMsg n seq rep).rollErrs n base 0x3 ((mapBits (s.rd (SECC.BATCH n))).filter (fun i => bit map.toNat i = 0))).put
          (SECC.EMPTYACK n) 1
      else (s.validMsg n seq rep).rollCut n base ((mapBits (s.rd (SECC.BATCH n))).filter (fun i => bit map.toNat i = 0))
        ((mapBits (s.rd (SECC.BATCH n))).filter (fun i => bit map.toNat i = 1))) := by
  refine (receive_byFirmware hchip hfirm).trans (congrArg Host.Outcome.next ?_)
  simp only [State.rollAck, validMsg_rollState, hst, validMsg_rollPeer, hpeer, validMsg_rollM, hm, validMsg_rollBase, hbase,
    validMsg_rollLeft, hleft, validMsg_rollBatch, decide_true, Bool.not_false, Bool.and_self, when_true]
  rfl

end

theorem rollFail_fieldsKept {c : Nat} :
    FieldsKept [SEC_ROLL_STAT.STATE n, SEC_ROLL_STAT.CAUSE n, SEC_STAT.ROLLF_EV n] [sourceOf n 0xA5] [4] s
      (s.rollFail n c) := by
  refine fieldsKept_of_regs (fieldsKept_raiseCh (fieldsKept_put_of (fieldsKept_put_of (fieldsKept_put_of (.refl _ _ _ s)
    ?_) ?_) ?_) ?_) (withdraw_regs _)
  all_goals simp

theorem withdraw_ch (v : Vote) : (s.withdraw v).ch = s.ch := by
  unfold State.withdraw; split
  · rfl
  · dsimp only; split <;> rfl

theorem withdraw_flow (v : Vote) : (s.withdraw v).flow = s.flow := by
  unfold State.withdraw; split
  · rfl
  · dsimp only; split <;> rfl

end

/-! ## The obligation -/

/-- Settles O38: an announcement, its answer and its deadline, each as Table 12.6 takes it. -/
theorem keyRollover : Obligations.KeyRollover := by
  refine ⟨?go, ?announced, ?refused, ?answered, ?empty, ?deadline⟩
  case go =>
    intro s win n value m hopen hgo hbase hcause hm hm0
    have hready : ((s.setRollCtrl n value.toNat).rollNamed n).filter (fun k => (s.setRollCtrl n value.toNat).rollReady n
        ((s.setRollCtrl n value.toNat).rd (SEC_ROLL_CTRL.BASE n) + k)) =
        (s.rollNamed n).filter (fun k => s.rollReady n ((SEC_ROLL_CTRL.BASE n).of value.toNat + k)) := by
      have hmap0 : (s.setRollCtrl n value.toNat).rd (SEC_ROLL_MAP0.MAP n) = s.rd (SEC_ROLL_MAP0.MAP n) :=
        setRollCtrl_rd (key_ne_of (by omega)) (key_ne_of (by omega))
      have hmap1 : (s.setRollCtrl n value.toNat).rd (SEC_ROLL_MAP1.MAP n) = s.rd (SEC_ROLL_MAP1.MAP n) :=
        setRollCtrl_rd (key_ne_of (by omega)) (key_ne_of (by omega))
      simp only [State.rollNamed, hmap0, hmap1, setRollCtrl_base, setRollCtrl_rollReady]
    have hne := mapOf_ne_zero (hm ▸ hm0)
    have hexec := exec_rolloverGo hopen hgo hbase
    rw [rollGo_of_ready (by rw [setRollCtrl_rollCause, hcause]) hready hne, setRollCtrl_base, setRollCtrl_lead,
      setRollCtrl_mfn] at hexec
    refine ⟨_, hexec, rollAnnounced_state, rollAnnounced_peer, rollAnnounced_cause, ?_, ?_, ?_, rollAnnounced_votes,
      rollAnnounced_flow, ?_⟩
    · exact rollAnnounced_m.trans (Nat.mod_mod _ _)
    · exact (rollAnnounced_batch.trans (Nat.mod_eq_of_lt (mapOf_lt _ _))).trans hm.symm
    · rw [hm]
      exact rollAnnounced_ch
    · exact rollAnnounced_sameFields (sameFields_put_of (sameFields_put_of (.refl _ s) (by simp)) (by simp))
        (by simp +contextual [rollBatchFields]) (fun f hf => List.mem_append_right _ hf)
  case announced =>
    intro s n seq rep m base map r hchip hfirm hbusy hplain hlead hhalf hr hr0
    have hexec := exec_rolloverAnnounce (seq := seq) (rep := rep) (m := m) (base := base) (map := map) hchip hfirm hbusy
    rw [rollAnswer_of_ready (by simp only [validMsg_rollReady]) (mapOf_ne_zero (hr ▸ hr0))
      (validMsg_rollBusy.trans hbusy) (validMsg_plainMode.trans hplain) (validMsg_mfn.symm ▸ hlead)
      (validMsg_mfn.symm ▸ hhalf)] at hexec
    refine ⟨_, hexec, ?_, rollAnswered_state, rollAnswered_peer, rollAnswered_cause, ?_, ?_, ?_, ?_, ?_, ?_⟩
    · rw [rollAnswered_votes, validMsg_votes]
    · exact rollAnswered_m.trans (Nat.mod_mod _ _)
    · exact (rollAnswered_batch.trans (Nat.mod_eq_of_lt (mapOf_lt _ _))).trans hr.symm
    · exact rollAnswered_peerM.trans (Nat.mod_eq_of_lt m.isLt)
    · rw [rollAnswered_ch, validMsg_ch]
    · rw [rollAnswered_flow, validMsg_flow]
    · have hvalid := fieldsKept_validMsg (seq := seq) (rep := rep) (.refl (messageFields n) [] [n.val] s)
        (fun _ h => h) (List.mem_singleton.2 rfl)
      refine (hvalid.mono (by simp +contextual)).trans (rollAnswered_fieldsKept (.refl _ _ _ _) ?_ ?_)
      · simp +contextual [rollBatchFields]
      · exact fun f hf => List.mem_append_right _ hf
  case refused =>
    intro s n seq rep m base map hchip hfirm hbusy hnone
    have hexec := exec_rolloverAnnounce (seq := seq) (rep := rep) (m := m) (base := base) (map := map) hchip hfirm hbusy
    rw [rollAnswer_of_none (by simpa only [validMsg_rollReady] using hnone)] at hexec
    refine ⟨_, hexec, validMsg_votes, ?_, validMsg_flow, ?_⟩
    · simp [State.queue, State.onChan, State.chan]
    · exact fieldsKept_of_regs (fieldsKept_validMsg (.refl _ _ _ s) (fun _ h => h) (List.mem_singleton.2 rfl))
        (queue_regs n _)
  case answered =>
    intro s n seq rep m base map r hchip hfirm hst hpeer hm hbase hleft hr hr0
    have hne := mapOf_ne_zero (hr ▸ hr0)
    have hmap : map.toNat ≠ 0 := by
      intro h0
      simp [h0, bit] at hne
    have hexec := exec_rolloverAck (seq := seq) (rep := rep) map hchip hfirm hst hpeer hm hbase hleft
    rw [if_neg hmap, hne, if_neg Bool.false_ne_true] at hexec
    refine ⟨_, hexec, ?_, ?_, ?_, ?_, ?_, ?_⟩
    · simp [State.rollCut, State.request]
    · exact (rd_put_same (SECC.BATCH n) _ _).trans ((Nat.mod_eq_of_lt (mapOf_lt _ _)).trans hr.symm)
    · simp (disch := (refine id ?_; with_unfolding_all first
          | (apply key_ne_of_lt; omega) | (apply out_of; omega))) only [State.rollCut, request_rd, rd_put_ne, rollErrs_rd]
      exact validMsg_rollState.trans hst
    · simp [State.rollCut, State.request]
    · simp [State.rollCut, State.request]
    · refine fieldsKept_of_regs (fieldsKept_put_of (fieldsKept_rollErrs (fieldsKept_validMsg (.refl _ _ _ s) ?_ ?_) ?_) ?_)
        (request_regs _)
      · simp +contextual
      · simp
      · exact fun f hf => List.mem_append_right _ hf
      · simp
  case empty =>
    intro s n seq rep m base hchip hfirm hst hpeer hm hbase hleft
    refine ⟨_, exec_rolloverAck 0 hchip hfirm hst hpeer hm hbase hleft, validMsg_votes, rd_put_same .., validMsg_ch,
      validMsg_flow, ?_⟩
    exact fieldsKept_put_of (fieldsKept_validMsg (.refl _ _ _ s) (by simp +contextual) (by simp)) (by simp)
  case deadline =>
    intro s n hst hpeer hleft
    refine ⟨s.rollFail n (if s.on (SECC.EMPTYACK n) then 0x3 else 0x4), ?_, ?_, ?_, ?_, ?_, ?_, ?_, rollFail_fieldsKept⟩
    · exact congrArg Host.Outcome.next (by simp [hst, hpeer, hleft])
    · simp (disch := (refine id ?_; with_unfolding_all (first | apply key_ne_of | apply quiet_of | skip); omega)) only
        [State.rollFail, withdraw_rd, rd_raiseCh_quiet, rd_put_ne, rd_put_same]
      rfl
    · simp (disch := (refine id ?_; with_unfolding_all (first | apply key_ne_of | apply quiet_of | skip); omega)) only
        [State.rollFail, withdraw_rd, rd_raiseCh_quiet, rd_put_ne, rd_put_same]
      split <;> rfl
    · simp (disch := (refine id ?_; with_unfolding_all (first | apply key_ne_of | apply quiet_of | skip); omega)) only
        [State.rollFail, withdraw_rd, rd_raiseCh_quiet, rd_put_same]
      rfl
    · rw [State.rollFail, withdraw_rd]
      exact raiseCh_pend (by decide)
    · simp [State.rollFail, withdraw_ch]
    · simp [State.rollFail, withdraw_flow]

end Sys2Proof.Machine
end

section
/-! SUPPORT. States whose register stores hold the same under some keys: what a list of the units not at reset, the tables of the
tributaries and the checks of a table make of it (R219 to R221, R235). -/

set_option Elab.async false

namespace Sys2Proof.Machine

/-! ## Stores that hold the same under some keys -/

/-- The register stores hold the same under the keys of K. -/
def Agree (K : Nat → Bool) (s t : State) : Prop :=
  t.regs.filter (fun p => K p.1) = s.regs.filter (fun p => K p.1)

section
variable {K : Nat → Bool} {s t u : State} {f : Field}

theorem Agree.refl (K : Nat → Bool) (s : State) : Agree K s s := rfl

theorem Agree.trans (h : Agree K s t) (k : Agree K t u) : Agree K s u := Eq.trans k h

theorem filter_dropKey {k : Nat} (hk : K k = false) (l : List (Nat × Nat)) :
    (dropKey k l).filter (fun p => K p.1) = l.filter (fun p => K p.1) := by
  rw [dropKey_eq, List.filter_filter]
  refine List.filter_congr fun p _ => ?_
  by_cases hp : p.1 = k
  · simp [hp, hk]
  · simp [hp]

theorem filter_insertKey {k v : Nat} (hk : K k = false) (l : List (Nat × Nat)) :
    (insertKey k v l).filter (fun p => K p.1) = l.filter (fun p => K p.1) := by
  induction l with
  | nil => simp [insertKey, hk]
  | cons p l ih =>
    obtain ⟨a, w⟩ := p
    unfold insertKey
    split
    · simp [List.filter_cons, hk]
    · simp only [List.filter_cons, ih]

theorem filter_setKey {k v d : Nat} (hk : K k = false) (l : List (Nat × Nat)) :
    (setKey k v d l).filter (fun p => K p.1) = l.filter (fun p => K p.1) := by
  unfold setKey
  split
  · exact filter_dropKey hk l
  · rw [filter_insertKey hk, filter_dropKey hk]

theorem agree_put {v : Nat} (h : Agree K s t) (hf : K f.key = false) : Agree K s (t.put f v) :=
  h.trans (filter_setKey hf t.regs)

theorem agree_of_regs (h : Agree K s t) (hr : u.regs = t.regs) : Agree K s u :=
  h.trans (by unfold Agree; rw [hr])

theorem agree_when {b : Bool} {g : State → State} (h : Agree K s t) (k : ∀ u, Agree K s u → Agree K s (g u)) :
    Agree K s (t.when b g) := by
  cases b
  · exact h
  · exact k t h

theorem agree_each {α : Type} {l : List α} {g : α → State → State} (h : Agree K s t)
    (k : ∀ x u, Agree K s u → Agree K s (g x u)) : Agree K s (t.each l g) := by
  induction l generalizing t with
  | nil => exact h
  | cons x l ih => exact ih (k x t h)

theorem look_filter {k : Nat} (hk : K k = true) (l : List (Nat × Nat)) : look k (l.filter (fun p => K p.1)) = look k l := by
  induction l with
  | nil => rfl
  | cons p l ih =>
    obtain ⟨a, w⟩ := p
    by_cases ha : a = k
    · subst ha
      simp [hk, look]
    · by_cases hK : K a = true
      · simp [hK, look, ha, ih]
      · simp [hK, look, ha, ih]

/-- A field under such a key reads alike. -/
theorem Agree.rd (h : Agree K s t) (hf : K f.key = true) : t.rd f = s.rd f := by
  unfold State.rd
  rw [← look_filter hf t.regs, ← look_filter hf s.regs, h]

theorem filterMap_filter_of {α : Type} {g : Nat × Nat → Option α} (hg : ∀ p, K p.1 = false → g p = none)
    (l : List (Nat × Nat)) : (l.filter (fun p => K p.1)).filterMap g = l.filterMap g := by
  rw [List.filterMap_filter]
  refine List.filterMap_congr fun p _ => ?_
  by_cases hp : K p.1 = true
  · simp [hp]
  · simp [hp, hg p (by simpa using hp)]

/-- A list of the units with a field not at reset is alike, when the field's keys are of K. -/
theorem Agree.listed {stride count : Nat} (h : Agree K s t) (hs : 0 < stride)
    (hK : ∀ k, f.key ≤ k → k < f.key + 8 * stride * count → K k = true) :
    t.listed f stride count = s.listed f stride count := by
  have hg : ∀ p : Nat × Nat, K p.1 = false →
      (if f.key ≤ p.1 && (p.1 - f.key) % (8 * stride) = 0 && (p.1 - f.key) / (8 * stride) < count
        then some ((p.1 - f.key) / (8 * stride)) else none) = none := by
    intro p hp
    refine if_neg fun hin => ?_
    simp only [Bool.and_eq_true, decide_eq_true_eq] at hin
    obtain ⟨⟨hlo, hmod⟩, hlt⟩ := hin
    have hdiv := Nat.div_add_mod (p.1 - f.key) (8 * stride)
    have hpos : 8 * stride * ((p.1 - f.key) / (8 * stride)) < 8 * stride * count :=
      Nat.mul_lt_mul_of_pos_left hlt (by omega)
    exact absurd (hK p.1 hlo (by omega)) (by simp [hp])
  unfold State.listed
  rw [← filterMap_filter_of hg t.regs, ← filterMap_filter_of hg s.regs, h]

theorem Agree.listedRows {base stride count : Nat} (h : Agree K s t)
    (hK : ∀ k, 8 * base ≤ k → k < 8 * (base + stride * count) → K k = true) :
    t.listedRows base stride count = s.listedRows base stride count := by
  have hg : ∀ p : Nat × Nat, K p.1 = false →
      (if 8 * base ≤ p.1 && p.1 < 8 * (base + stride * count) then some ((p.1 - 8 * base) / (8 * stride)) else none) =
        none := by
    intro p hp
    refine if_neg fun hin => ?_
    simp only [Bool.and_eq_true, decide_eq_true_eq] at hin
    exact absurd (hK p.1 hin.1 hin.2) (by simp [hp])
  unfold State.listedRows
  rw [← filterMap_filter_of hg t.regs, ← filterMap_filter_of hg s.regs, h]

theorem agree_raise {N : Nat} (hN : N < 2048) (hK : ∀ k, ¬ QuietKey k → K k = false) (h : Agree K s t) :
    Agree K s (t.raise N) := by
  unfold State.raise State.bump State.addSat
  iterate 8
    refine agree_put ?_ (hK _ (by
      simp only [QuietKey, Field.key, IRQ_PEND, IRQ_CFG.ARRIVE, SUPC.PEND, SUPC.ARRIVE, cell]; omega))
  exact h

theorem agree_pmcOverflow {b i : Nat} (hb : b < 5) (_ : i < 512) (hK : ∀ k, ¬ QuietKey k → K k = false)
    (h : Agree K s t) : Agree K s (t.pmcOverflow b i) := by
  have hsrc : pmcOvfSource b < 2048 := by
    unfold pmcOvfSource
    split
    · decide
    · exact sourceOf_lt (by decide)
  unfold State.pmcOverflow State.flag
  refine agree_raise hsrc hK (agree_put (agree_put h (hK _ ?_)) (hK _ ?_))
  · simp only [QuietKey, Field.key, PMC.STICKY, cell]; omega
  · simp only [QuietKey, Field.key, PMC_CH_STAT.OVF_EV, pmcBase, chanStride]
    split <;> omega

theorem agree_pmcAdd {b i c : Nat} (hb : b < 5) (hi : i < 511) (hK : ∀ k, ¬ QuietKey k → K k = false) (h : Agree K s t) :
    Agree K s (t.pmcAdd b i c) := by
  have hcnt : ∀ j, j < 512 → K (PMC.CNT b j).key = false := fun j hj => hK _ (by
    simp only [QuietKey, Field.key, PMC.CNT, cell]; omega)
  have h1 := agree_put (v := t.rd (PMC.CNT b i) + c) h (hcnt i (Nat.lt_succ_of_lt hi))
  unfold State.pmcAdd
  dsimp only
  split
  · exact h1
  · split
    · have h2 := fun v => agree_put (v := v) h1 (hcnt (i + 1) (Nat.succ_lt_succ hi))
      split
      · exact h2 _
      · exact agree_pmcOverflow hb (Nat.succ_lt_succ hi) hK (h2 _)
    · exact agree_pmcOverflow hb (Nat.lt_succ_of_lt hi) hK h1

theorem agree_countFor {b ev c : Nat} {k : PmcBlock} {who : Option Nat} (hb : b < 5) (hK : ∀ k, ¬ QuietKey k → K k = false)
    (h : Agree K s t) : Agree K s (t.countFor b k ev c who) := by
  unfold State.countFor State.each
  generalize hp : t.pmcOn.filter _ = ps
  have hps : ∀ p ∈ ps, p.2 < 511 := by
    intro p m
    subst hp
    have hin := (List.mem_filter.1 m).2
    simp only [Bool.and_eq_true, decide_eq_true_eq] at hin
    exact pmcBlockOf_lt hin.2
  clear hp
  induction ps generalizing t with
  | nil => exact h
  | cons p ps ih =>
    refine ih ?_ (fun q m => hps q (List.mem_cons_of_mem _ m))
    dsimp only
    split
    · exact agree_pmcAdd hb (hps p (List.mem_cons_self ..)) hK h
    · exact h

theorem agree_validMsg {n : Fin 4} {seq rep : Nat} (hK : ∀ k, ¬ QuietKey k → K k = false)
    (hm : ∀ g ∈ messageFields n, K g.key = false) (h : Agree K s t) : Agree K s (t.validMsg n seq rep) := by
  have hput : ∀ g ∈ messageFields n, ∀ v u, Agree K s u → Agree K s (u.put g v) := fun g hg v u hu => agree_put hu (hm g hg)
  unfold State.validMsg State.bump State.addSat State.count
  refine agree_when (hput _ (by simp [messageFields]) _ _ (hput _ (by simp [messageFields]) _ _
    (hput _ (by simp [messageFields]) _ _ (agree_when (hput _ (by simp [messageFields]) _ _ (agree_countFor (by omega) hK
      (hput _ (by simp [messageFields]) _ _ h))) fun u hu => hput _ (by simp [messageFields]) _ _ hu)))) fun u hu => ?_
  exact hput _ (by simp [messageFields]) _ _ (hput _ (by simp [messageFields]) _ _ hu)

end

end Sys2Proof.Machine
end
section
/-! SUPPORT. The tables that a commit and a resize are checked on (R219 to R221). -/

namespace Sys2Proof.Machine

/-- Keys of the tables of tributaries, clients, calendars and keys, of the cipher pipelines, and of the framer, the tributary
blocks and the host ports of the four channels. -/
def tableKey (k : Nat) : Bool :=
  (8 * 0x8600000 ≤ k && k < 8 * 0x8910000) || (8 * 0x5010000 ≤ k && k < 8 * 0x5050000) ||
  (8 * 0x1400000 ≤ k && k < 8 * 0x1700000) || (8 * 0x2400000 ≤ k && k < 8 * 0x2700000) ||
  (8 * 0x3400000 ≤ k && k < 8 * 0x3700000) || (8 * 0x4400000 ≤ k && k < 8 * 0x4700000)

theorem tableKey_quiet {k : Nat} (h : ¬ QuietKey k) : tableKey k = false := by
  have hk : ¬ tableKey k = true := by
    simp only [tableKey, QuietKey, Bool.or_eq_true, Bool.and_eq_true, decide_eq_true_eq] at h ⊢
    omega
  simpa using hk

/-- A key of the tables, as numbers. -/
theorem tableKey_of {k : Nat} (h : 8 * 0x8600000 ≤ k ∧ k < 8 * 0x8910000 ∨ 8 * 0x5010000 ≤ k ∧ k < 8 * 0x5050000 ∨
    8 * 0x1400000 ≤ k ∧ k < 8 * 0x1700000 ∨ 8 * 0x2400000 ≤ k ∧ k < 8 * 0x2700000 ∨
    8 * 0x3400000 ≤ k ∧ k < 8 * 0x3700000 ∨ 8 * 0x4400000 ≤ k ∧ k < 8 * 0x4700000) : tableKey k = true := by
  simp only [tableKey, Bool.or_eq_true, Bool.and_eq_true, decide_eq_true_eq]
  omega

theorem not_tableKey_of {k : Nat} (h : ¬ (8 * 0x8600000 ≤ k ∧ k < 8 * 0x8910000) ∧ ¬ (8 * 0x5010000 ≤ k ∧ k < 8 * 0x5050000) ∧
    ¬ (8 * 0x1400000 ≤ k ∧ k < 8 * 0x1700000) ∧ ¬ (8 * 0x2400000 ≤ k ∧ k < 8 * 0x2700000) ∧
    ¬ (8 * 0x3400000 ≤ k ∧ k < 8 * 0x3700000) ∧ ¬ (8 * 0x4400000 ≤ k ∧ k < 8 * 0x4700000)) : tableKey k = false := by
  have hk : ¬ tableKey k = true := by
    simp only [tableKey, Bool.or_eq_true, Bool.and_eq_true, decide_eq_true_eq]
    omega
  simpa using hk

section
variable {s t : State} {n : Fin 4}

/-- The states hold the same tables. -/
def SameTables (s t : State) : Prop := Agree tableKey s t

/-- A field of the tables reads alike. -/
theorem SameTables.rd {a l w r : Nat} (h : SameTables s t)
    (hk : 8 * 0x8600000 ≤ 8 * a + l ∧ 8 * a + l < 8 * 0x8910000 ∨ 8 * 0x5010000 ≤ 8 * a + l ∧ 8 * a + l < 8 * 0x5050000 ∨
      8 * 0x1400000 ≤ 8 * a + l ∧ 8 * a + l < 8 * 0x1700000 ∨ 8 * 0x2400000 ≤ 8 * a + l ∧ 8 * a + l < 8 * 0x2700000 ∨
      8 * 0x3400000 ≤ 8 * a + l ∧ 8 * a + l < 8 * 0x3700000 ∨ 8 * 0x4400000 ≤ 8 * a + l ∧ 8 * a + l < 8 * 0x4700000) :
    t.rd ⟨a, l, w, r⟩ = s.rd ⟨a, l, w, r⟩ := Agree.rd h (tableKey_of hk)

theorem sameTables_validMsg {seq rep : Nat} (h : SameTables s t) : SameTables s (t.validMsg n seq rep) := by
  refine agree_validMsg (fun _ => tableKey_quiet) (fun g hg => not_tableKey_of ?_) h
  have hk := messageFields_keys n g hg
  omega

theorem listed_lt {f : Field} {stride count i : Nat} (h : i ∈ s.listed f stride count) : i < count := by
  obtain ⟨p, -, hp⟩ := List.mem_filterMap.1 h
  split at hp
  · rename_i hin
    simp only [Bool.and_eq_true, decide_eq_true_eq] at hin
    exact Option.some.inj hp ▸ hin.2
  · cases hp

theorem uniq_mem {i : Nat} {l : List Nat} (h : i ∈ uniq l) : i ∈ l := by
  induction l with
  | nil => exact h
  | cons a l ih =>
    unfold uniq at h
    split at h
    · exact List.mem_cons_of_mem _ (ih h)
    · obtain rfl | h := List.mem_cons.1 h
      · exact List.mem_cons_self ..
      · exact List.mem_cons_of_mem _ (ih h)

theorem listedRows_lt {base stride count i : Nat} (h : i ∈ s.listedRows base stride count) : i < count := by
  obtain ⟨p, -, hp⟩ := List.mem_filterMap.1 (uniq_mem h)
  split at hp
  · rename_i hin
    simp only [Bool.and_eq_true, decide_eq_true_eq] at hin
    have hlt : p.1 - 8 * base < 8 * stride * count := by
      have : 8 * (base + stride * count) = 8 * base + 8 * stride * count := by ring
      omega
    exact Option.some.inj hp ▸ Nat.div_lt_of_lt_mul hlt
  · cases hp

theorem SameTables.slotsOf (h : SameTables s t) {g : Nat} (hg : g < 16) (b c : Nat) :
    t.slotsOf n g b c = s.slotsOf n g b c := by
  have hlist : ∀ f : Field, f.addr = 0x8701000 + 0x10000 * n + 0xA00 * g → f.lo < 32 →
      t.listed f 4 640 = s.listed f 4 640 := fun f ha hl =>
    Agree.listed h (by decide) fun k hlo hhi => tableKey_of (by simp only [Field.key] at hlo hhi; omega)
  unfold State.slotsOf
  split
  · rw [hlist _ (by simp [HST_CAL.A_VALID]) (by simp [HST_CAL.A_VALID])]
    refine List.filter_congr fun i hi => ?_
    have hlt := listed_lt hi
    rw [HST_CAL.A_CLIENT, h.rd (by omega)]
  · rw [hlist _ (by simp [HST_CAL.B_VALID]) (by simp [HST_CAL.B_VALID])]
    refine List.filter_congr fun i hi => ?_
    have hlt := listed_lt hi
    rw [HST_CAL.B_CLIENT, h.rd (by omega)]

theorem SameTables.rate5 (h : SameTables s t) {c : Nat} (hc : c < 256) : t.rate5 n c = s.rate5 n c := by
  have hhome : t.rd (HST_CLI.HOME n c) = s.rd (HST_CLI.HOME n c) := h.rd (by omega)
  have hen : t.rd (HST_CLI.EN n c) = s.rd (HST_CLI.EN n c) := h.rd (by omega)
  have hkind : t.rd (HST_CLI.KIND n c) = s.rd (HST_CLI.KIND n c) := h.rd (by omega)
  have hlt : s.rd (HST_CLI.HOME n c) < 16 := rd_lt s _
  have htype : t.rd (HST_LANE_L.TYPE n (s.rd (HST_CLI.HOME n c))) = s.rd (HST_LANE_L.TYPE n (s.rd (HST_CLI.HOME n c))) :=
    h.rd (by omega)
  simp only [State.rate5, hhome, hen, hkind, htype, h.slotsOf hlt]

theorem SameTables.defined (h : SameTables s t) {c : Nat} (hc : c < 256) : t.defined n c = s.defined n c := by
  have hen : t.rd (HST_CLI.EN n c) = s.rd (HST_CLI.EN n c) := h.rd (by omega)
  simp only [State.defined, State.on, h.rate5 hc]
  rw [hen]

/-- An entry of a table names a tributary and a client that there are. -/
def TribCfg.inRange (c : TribCfg) : Prop := c.idx < 1024 ∧ c.client < 256

theorem SameTables.tribCause (h : SameTables s t) (keys : Bool) (p : Profile) (before : List TribCfg) {c : TribCfg}
    (hc : c.inRange) : t.tribCause keys n p before c = s.tribCause keys n p before c := by
  obtain ⟨hidx, hclient⟩ := hc
  have hst : t.rd (TRB_TRIB.STATE n c.idx) = s.rd (TRB_TRIB.STATE n c.idx) := h.rd (by omega)
  have hkind : t.rd (HST_CLI.KIND n c.client) = s.rd (HST_CLI.KIND n c.client) := h.rd (by omega)
  have hg2 : t.rd (LFR_CTRL.G2 n) = s.rd (LFR_CTRL.G2 n) := h.rd (by omega)
  have hki : t.rd (TRB_TRIB.KI_TX n c.idx) = s.rd (TRB_TRIB.KI_TX n c.idx) := h.rd (by omega)
  have hkilt : s.rd (TRB_TRIB.KI_TX n c.idx) < 2 := rd_lt s _
  have hslot : t.rd (KEY_SLOT.STATE (keySlot n c.idx (s.rd (TRB_TRIB.KI_TX n c.idx)))) =
      s.rd (KEY_SLOT.STATE (keySlot n c.idx (s.rd (TRB_TRIB.KI_TX n c.idx)))) := h.rd (by unfold keySlot; omega)
  have hpipe : t.rd (SEC_PIPE.ACTIVE n) = s.rd (SEC_PIPE.ACTIVE n) := h.rd (by omega)
  simp only [State.tribCause, State.on, hst, hkind, hg2, hki, hslot, hpipe, h.rate5 hclient, h.defined hclient]
  rfl

theorem SameTables.tableFault (h : SameTables s t) (p : Profile) (before l : List TribCfg) (hl : ∀ c ∈ l, c.inRange) :
    t.tableFault n p before l = s.tableFault n p before l := by
  induction l generalizing before with
  | nil => rfl
  | cons c l ih =>
    obtain ⟨hc, hrest⟩ := List.forall_mem_cons.1 hl
    simp only [State.tableFault, ih _ hrest, h.tribCause true p before hc]

theorem SameTables.rszTable (h : SameTables s t) (trib : Bool) : t.rszTable n trib = s.rszTable n trib := by
  have hrows : ∀ base, base = 0x8600000 + 0x10000 * n.val ∨ base = 0x8608000 + 0x10000 * n.val →
      t.listedRows base 16 1024 = s.listedRows base 16 1024 := fun base hb =>
    Agree.listedRows h fun k hlo hhi => tableKey_of (by omega)
  have htrib : ∀ i < 1024, t.trib n i = s.trib n i := fun i hi => by
    have hen : t.rd (TRB_TRIB.EN n i) = s.rd (TRB_TRIB.EN n i) := h.rd (by omega)
    have henc : t.rd (TRB_TRIB.ENC n i) = s.rd (TRB_TRIB.ENC n i) := h.rd (by omega)
    have hstart : t.rd (TRB_TRIB.START n i) = s.rd (TRB_TRIB.START n i) := h.rd (by omega)
    have hcount : t.rd (TRB_TRIB.COUNT n i) = s.rd (TRB_TRIB.COUNT n i) := h.rd (by omega)
    have hclient : t.rd (TRB_TRIB.CLIENT n i) = s.rd (TRB_TRIB.CLIENT n i) := h.rd (by omega)
    simp only [State.trib, State.on]
    rw [hen, henc, hstart, hcount, hclient]
  have hshd : ∀ i < 1024, t.shadow n i = s.shadow n i := fun i hi => by
    have hen : t.rd (TRB_SHD.EN n i) = s.rd (TRB_SHD.EN n i) := h.rd (by omega)
    have henc : t.rd (TRB_SHD.ENC n i) = s.rd (TRB_SHD.ENC n i) := h.rd (by omega)
    have hstart : t.rd (TRB_SHD.START n i) = s.rd (TRB_SHD.START n i) := h.rd (by omega)
    have hcount : t.rd (TRB_SHD.COUNT n i) = s.rd (TRB_SHD.COUNT n i) := h.rd (by omega)
    have hclient : t.rd (TRB_SHD.CLIENT n i) = s.rd (TRB_SHD.CLIENT n i) := h.rd (by omega)
    simp only [State.shadow, State.on]
    rw [hen, henc, hstart, hcount, hclient]
  cases trib
  · simp only [State.rszTable, State.activeTable, Bool.false_eq_true, if_false, hrows _ (.inl rfl)]
    exact List.map_congr_left fun i hi => htrib i (listedRows_lt hi)
  · simp only [State.rszTable, State.shadowTable, if_true, hrows _ (.inr rfl)]
    exact List.map_congr_left fun i hi => hshd i (listedRows_lt hi)

theorem rszTable_inRange (trib : Bool) : ∀ c ∈ s.rszTable n trib, c.inRange := by
  intro c hc
  cases trib
  · obtain ⟨i, hi, rfl⟩ := List.mem_map.1 hc
    exact ⟨listedRows_lt hi, rd_lt s _⟩
  · obtain ⟨i, hi, rfl⟩ := List.mem_map.1 hc
    exact ⟨listedRows_lt hi, rd_lt s _⟩

end

end Sys2Proof.Machine
end

section
/-! The proposal of a resize, its answers and its withdrawal (R78 to R80, R490, Tables 3.6 and 3.14). -/

set_option Elab.async false

namespace Sys2Proof.Machine

/-! ## Quads -/

theorem quad_set_set {α : Type} (q : Quad α) (n : Nat) (a b : α) : (q.set n a).set n b = q.set n b := by
  match n with
  | 0 | 1 | 2 | _ + 3 => rfl

/-! ## The conditions of R78 -/

section
variable {s t : State} {n : Fin 4}

/-- The conditions turn on the tables, the channel's profiles and a few fields of its state. -/
theorem rszCause_congr {p : Nat} (h : SameTables s t) (hch : t.chan n = s.chan n)
    (hst : t.rd (LDS_CH_STATE.STATE n) = s.rd (LDS_CH_STATE.STATE n))
    (hact : t.rd (LDS_LMODE_STAT.ACTIVE n) = s.rd (LDS_LMODE_STAT.ACTIVE n))
    (hreach : t.rd (LDS_PROF_P.REACH n p) = s.rd (LDS_PROF_P.REACH n p))
    (hrsz : t.rd (LDS_RSZ_STAT.STATE n) = s.rd (LDS_RSZ_STAT.STATE n)) (trib fresh : Bool) :
    t.rszCause n p trib fresh = s.rszCause n p trib fresh := by
  have hroll : t.rd (SEC_ROLL_STAT.STATE n) = s.rd (SEC_ROLL_STAT.STATE n) := h.rd (by omega)
  have hcmt : t.rd (TRB_CMT_STAT.STATE n) = s.rd (TRB_CMT_STAT.STATE n) := h.rd (by omega)
  have hmfn : t.rd (LFR_MFN_TX.MFN n) = s.rd (LFR_MFN_TX.MFN n) := h.rd (by omega)
  have hprof : ∀ p, t.profile n p = s.profile n p := fun p => by simp only [State.profile, hch]
  have hfault : ∀ q, t.tableFault n q [] (s.rszTable n trib) = s.tableFault n q [] (s.rszTable n trib) := fun q =>
    h.tableFault q [] _ (rszTable_inRange trib)
  simp only [State.rszCause, State.interop, State.active, State.chSt, State.rszRunning, State.rszRecent, State.mfn,
    State.rollRunning, State.cmtRunning, hroll, hcmt, hmfn, hprof, h.rszTable, hfault, hch, hst, hact, hreach, hrsz]
  rfl

/-! ## GO (step 1) -/

/-- The row of LDS_RSZ_CTRL (Table 3.12). -/
def rszCtrlRow (n : Nat) : List FSpec :=
  [⟨LDS_RSZ_CTRL.GO n, .wo, .live, 2, .any⟩, ⟨LDS_RSZ_CTRL.TRIB n, .rw, .live, 2, .any⟩,
    ⟨LDS_RSZ_CTRL.TARGET n, .rw, .live, 2, .any⟩, ⟨LDS_RSZ_CTRL.LEAD n, .rw, .live, 2, .any⟩]

theorem findReg_rszCtrl : ∀ n : Fin 4, findReg (chanAddr n 0x200040) =
    some ((⟨0x1200040, [(4, 0x1000000)], 1, .plain, rszCtrlRow 0⟩ : Reg), 0x1000000 * n.val) := by decide

theorem fieldsAt_rszCtrl : s.fieldsAt (chanAddr n 0x200040) = rszCtrlRow n := by
  rw [State.fieldsAt, findReg_rszCtrl]
  match n with
  | 0 | 1 | 2 | 3 => rfl

/-- LDS_RSZ_CTRL as a write leaves it. -/
def State.setRszCtrl (s : State) (n v : Nat) : State :=
  ((s.put (LDS_RSZ_CTRL.TRIB n) ((LDS_RSZ_CTRL.TRIB n).of v)).put (LDS_RSZ_CTRL.TARGET n) ((LDS_RSZ_CTRL.TARGET n).of v)).put
    (LDS_RSZ_CTRL.LEAD n) ((LDS_RSZ_CTRL.LEAD n).of v)

/-- An admitted GO runs on the state with the written fields. -/
theorem exec_resizeGo {win : Fin 7} {value : Word} (hopen : s.writeOpen win 2)
    (hgo : (LDS_RSZ_CTRL.GO n).of value.toNat = 1) :
    exec (.resizeGo win n value 15) s = .next ((s.setRszCtrl n value.toNat).resizeGo n) := by
  have ⟨hans, hlvl, _⟩ := hopen
  have hfield : ¬ s.level win < 2 := by omega
  have hwhole := wholeReason_of_open (w := ⟨win, chanAddr n 0x200040, value.toNat, 15⟩) (fs := rszCtrlRow n)
    (f := ⟨LDS_RSZ_CTRL.GO n, .wo, .live, 2, .any⟩) hopen rfl (by simp [rszCtrlRow]) rfl (Nat.zero_lt_succ 1)
  have hok : s.allTaken ⟨win, chanAddr n 0x200040, value.toNat, 15⟩ (resizeHook n) (rszCtrlRow n) := by
    simp [State.allTaken, rszCtrlRow, State.fieldReason, hfield, Lim.ok, resizeHook]
  refine congrArg Host.Outcome.next (hostWrite_of_act hans fieldsAt_rszCtrl (by simp [rszCtrlRow]) hwhole hok ?_)
  simp [resizeHook, writtenFields, rszCtrlRow, FSpec.writable, wroteOne, wrote, hgo, State.takeWord, State.each,
    State.applyField, State.setRszCtrl]

theorem setRszCtrl_rd {f : Field} {v : Nat} (h : KeyOut (0x1200040 + 0x1000000 * n) (0x1200044 + 0x1000000 * n) f.key) :
    (s.setRszCtrl n v).rd f = s.rd f := by
  unfold KeyOut at h
  rw [State.setRszCtrl, rd_put_ne, rd_put_ne, rd_put_ne]
  all_goals simp only [Field.key, LDS_RSZ_CTRL.TRIB, LDS_RSZ_CTRL.TARGET, LDS_RSZ_CTRL.LEAD] at h ⊢; omega

theorem setRszCtrl_target (v : Nat) : (s.setRszCtrl n v).rd (LDS_RSZ_CTRL.TARGET n) = (LDS_RSZ_CTRL.TARGET n).of v := by
  rw [State.setRszCtrl, rd_put_ne, rd_put_same]
  · exact Nat.mod_mod _ _
  · exact key_ne_of (by omega)

theorem setRszCtrl_lead (v : Nat) : (s.setRszCtrl n v).rd (LDS_RSZ_CTRL.LEAD n) = (LDS_RSZ_CTRL.LEAD n).of v := by
  rw [State.setRszCtrl, rd_put_same]
  exact Nat.mod_mod _ _

theorem setRszCtrl_trib (v : Nat) : (s.setRszCtrl n v).on (LDS_RSZ_CTRL.TRIB n) = decide ((LDS_RSZ_CTRL.TRIB n).of v = 1) := by
  rw [State.on, State.setRszCtrl, rd_put_ne, rd_put_ne, rd_put_same]
  · exact congrArg (fun x => decide (x = 1)) (Nat.mod_mod _ _)
  · exact key_ne_of (by omega)
  · exact key_ne_of (by omega)

theorem setRszCtrl_sameTables (v : Nat) : SameTables s (s.setRszCtrl n v) := by
  refine agree_put (agree_put (agree_put (.refl _ s) ?_) ?_) ?_
  all_goals
    refine not_tableKey_of ?_
    simp only [Field.key, LDS_RSZ_CTRL.TRIB, LDS_RSZ_CTRL.TARGET, LDS_RSZ_CTRL.LEAD]
    omega

theorem setRszCtrl_rszCause {v p : Nat} (hp : p < 4) (trib : Bool) :
    (s.setRszCtrl n v).rszCause n p trib false = s.rszCause n p trib false :=
  rszCause_congr (setRszCtrl_sameTables v) rfl (setRszCtrl_rd (out_of (by omega))) (setRszCtrl_rd (out_of (by omega)))
    (setRszCtrl_rd (out_of (by omega))) (setRszCtrl_rd (out_of (by omega))) trib false

/-- Fields that LDS_RSZ_CTRL holds. -/
def rszCtrlFields (n : Nat) : List Field := [LDS_RSZ_CTRL.TARGET n, LDS_RSZ_CTRL.TRIB n, LDS_RSZ_CTRL.LEAD n]

theorem setRszCtrl_sameFields {l : List Field} (v : Nat) (hl : ∀ f ∈ rszCtrlFields n, f ∈ l) :
    SameFields l s (s.setRszCtrl n v) := by
  refine sameFields_put_of (sameFields_put_of (sameFields_put_of (.refl _ s) ?_) ?_) ?_
  all_goals exact hl _ (by simp [rszCtrlFields])

/-- This end's resize as GO starts it. -/
def State.rszProposed (s : State) (n p : Nat) (trib : Bool) : Rsz :=
  ⟨true, p, trib, s.rszTable n trib, p = s.rd (LDS_LMODE_STAT.ACTIVE n), [], false, 0, none, (s.chan n).rsz.ended⟩

theorem resizeGo_of_allowed {p : Nat} {trib : Bool} {q : Profile} (hp : s.rd (LDS_RSZ_CTRL.TARGET n) = p)
    (htrib : s.on (LDS_RSZ_CTRL.TRIB n) = trib) (hcause : s.rszCause n p trib false = 0) (hq : s.profile n p = some q) :
    s.resizeGo n = ((s.put (LDS_RSZ_STAT.CAUSE n) 0).rszBegin n (s.rszProposed n p trib)
      ((s.mfn n + Nat.max 64 (s.rd (LDS_RSZ_CTRL.LEAD n))) % 2 ^ 32) RszSt.proposed).queue n
      (.resizePropose q.block trib ((s.mfn n + Nat.max 64 (s.rd (LDS_RSZ_CTRL.LEAD n))) % 2 ^ 32)) := by
  subst hp htrib
  simp only [State.resizeGo, hcause, if_true, hq]
  rfl

/-- A GO that is not carried out: its cause and event, and FAILED where no resize runs. -/
def State.rszRefused (s : State) (n c : Nat) : State :=
  (((s.put (LDS_RSZ_STAT.CAUSE n) c).put (LDS_RSZ_STAT.FAIL_EV n) 1).raiseCh n 0x28).when (!s.rszRunning n)
    (·.put (LDS_RSZ_STAT.STATE n) RszSt.failed)

theorem resizeGo_of_refused {p : Nat} {trib : Bool} (hp : s.rd (LDS_RSZ_CTRL.TARGET n) = p)
    (htrib : s.on (LDS_RSZ_CTRL.TRIB n) = trib) (hcause : s.rszCause n p trib false ≠ 0) :
    s.resizeGo n = s.rszRefused n (s.rszCause n p trib false) := by
  subst hp htrib
  simp only [State.resizeGo, if_neg hcause, State.rszRefused]

theorem rszCause_lt (p : Nat) (trib fresh : Bool) : s.rszCause n p trib fresh < 2 ^ 4 := by
  unfold State.rszCause
  split
  · decide
  · split
    · decide
    · split
      · decide
      · split_ifs <;> decide

/-! ## What a valid message leaves to the tests of Table 3.6 -/

section
variable {seq rep : Nat}

theorem validMsg_lds {a l w r : Nat} (hlo : 8 * 0x1200000 ≤ 8 * a + l) (hhi : 8 * a + l < 8 * 0x1600000 ∨
    8 * 0x2200000 ≤ 8 * a + l ∧ 8 * a + l < 8 * 0x2600000) : (s.validMsg n seq rep).rd ⟨a, l, w, r⟩ = s.rd ⟨a, l, w, r⟩ :=
  validMsg_rd (quiet_of (by omega)) (out_of (by omega)) (out_of (by omega))

theorem messageFields_loopback : ∀ n : Fin 4, ∀ g ∈ messageFields n, g.key ≠ (ISC_STAT.LOOPBACK n).key := by decide

theorem validMsg_loopback : (s.validMsg n seq rep).on (ISC_STAT.LOOPBACK n) = s.on (ISC_STAT.LOOPBACK n) := by
  unfold State.on
  rw [fieldsKept_validMsg (.refl (messageFields n) [] [n.val] s) (fun _ h => h) (by simp) (ISC_STAT.LOOPBACK n)
    (not_noticeKey_of_quiet (by simp) (by simpa using by omega) (quiet_of (by omega))) (messageFields_loopback n)]

theorem validMsg_rszState : (s.validMsg n seq rep).rd (LDS_RSZ_STAT.STATE n) = s.rd (LDS_RSZ_STAT.STATE n) :=
  validMsg_rd (quiet_of (by omega)) (out_of (by omega)) (out_of (by omega))

theorem validMsg_rszMf : (s.validMsg n seq rep).rd (LDS_RSZ_MF.MFN n) = s.rd (LDS_RSZ_MF.MFN n) :=
  validMsg_rd (quiet_of (by omega)) (out_of (by omega)) (out_of (by omega))

theorem validMsg_mfLock : (s.validMsg n seq rep).on (LFR_STAT.MF_LOCK n) = s.on (LFR_STAT.MF_LOCK n) := by
  unfold State.on
  rw [validMsg_rd (f := LFR_STAT.MF_LOCK n) (quiet_of (by omega)) (out_of (by omega)) (out_of (by omega))]

theorem validMsg_active :
    (s.validMsg n seq rep).rd (LDS_LMODE_STAT.ACTIVE n) = s.rd (LDS_LMODE_STAT.ACTIVE n) :=
  validMsg_rd (quiet_of (by omega)) (out_of (by omega)) (out_of (by omega))

theorem validMsg_reach {p : Nat} (hp : p < 4) :
    (s.validMsg n seq rep).rd (LDS_PROF_P.REACH n p) = s.rd (LDS_PROF_P.REACH n p) :=
  validMsg_rd (quiet_of (by omega)) (out_of (by omega)) (out_of (by omega))

theorem validMsg_translate (m : Nat) : (s.validMsg n seq rep).translate n m = s.translate n m := by
  have hrx : (s.validMsg n seq rep).rd (LFR_MFN_RX.MFN n) = s.rd (LFR_MFN_RX.MFN n) :=
    validMsg_rd (quiet_of (by omega)) (out_of (by omega)) (out_of (by omega))
  simp only [State.translate, validMsg_mfn, hrx]

theorem validMsg_mfLeft : (s.validMsg n seq rep).mfLeft n = s.mfLeft n := by
  simp only [State.mfLeft, validMsg_mfn, validMsg_rszMf]

theorem validMsg_proposed : (s.validMsg n seq rep).proposed n = s.proposed n := by
  simp only [State.proposed, validMsg_rszState, validMsg_chan]

theorem validMsg_profileOf (b : Block) : (s.validMsg n seq rep).profileOf n b = s.profileOf n b := by
  have hprof : ∀ p, (s.validMsg n seq rep).profile n p = s.profile n p := fun p => by
    simp only [State.profile, validMsg_chan]
  have h0 := validMsg_reach (s := s) (n := n) (seq := seq) (rep := rep) (p := 0) (by decide)
  have h1 := validMsg_reach (s := s) (n := n) (seq := seq) (rep := rep) (p := 1) (by decide)
  have h2 := validMsg_reach (s := s) (n := n) (seq := seq) (rep := rep) (p := 2) (by decide)
  have h3 := validMsg_reach (s := s) (n := n) (seq := seq) (rep := rep) (p := 3) (by decide)
  simp only [State.profileOf, List.find?, State.on, hprof, h0, h1, h2, h3]

theorem validMsg_rszTable (trib : Bool) : (s.validMsg n seq rep).rszTable n trib = s.rszTable n trib :=
  (sameTables_validMsg (.refl _ s)).rszTable trib

theorem validMsg_rszCause {p : Nat} (hp : p < 4) (trib fresh : Bool) :
    (s.validMsg n seq rep).rszCause n p trib fresh = s.rszCause n p trib fresh :=
  rszCause_congr (sameTables_validMsg (.refl _ s)) (validMsg_chan _)
    (validMsg_rd (quiet_of (by omega)) (out_of (by omega)) (out_of (by omega))) validMsg_active (validMsg_reach hp)
    validMsg_rszState trib fresh

end

theorem translate_lt (m : Nat) : s.translate n m < 2 ^ 32 := Nat.mod_lt _ (by decide)

theorem profileOf_lt {b : Block} {k : Nat} (h : s.profileOf n b = some k) : k < 4 := by
  have hmem := List.mem_of_find?_eq_some h
  simp only [List.mem_cons, List.not_mem_nil, or_false] at hmem
  omega

/-! ## Answers (steps 3 to 5) -/

theorem answerProposal_of_late {b : Block} {trib fresh : Bool} {tA : Nat} (h : mfSub (s.translate n tA) (s.mfn n) < 16) :
    s.answerProposal n b trib tA fresh = s.queue n (.resizeRefuse tA 0xA) := by
  simp only [State.answerProposal, h, decide_true, Bool.true_or, if_true]

/-- The peer's resize as an accepting end starts it. -/
def State.rszAccepted (s : State) (n p : Nat) (trib : Bool) (tA : Nat) : Rsz :=
  ⟨false, p, trib, s.rszTable n trib, p = s.rd (LDS_LMODE_STAT.ACTIVE n), [], false, tA, none, (s.chan n).rsz.ended⟩

theorem answerProposal_of_met {b : Block} {trib : Bool} {tA k : Nat} (hk : s.profileOf n b = some k)
    (hcause : s.rszCause n k trib false = 0) (hlo : 16 ≤ mfSub (s.translate n tA) (s.mfn n))
    (hhi : mfSub (s.translate n tA) (s.mfn n) < 2 ^ 31) :
    s.answerProposal n b trib tA false = (s.rszBegin n (s.rszAccepted n k trib tA) (s.translate n tA) RszSt.accepted).queue n
      (.resizeAccept tA (s.translate n tA)) := by
  have hlate : ¬ (mfSub (s.translate n tA) (s.mfn n) < 16 ∨ 2 ^ 31 ≤ mfSub (s.translate n tA) (s.mfn n)) := by omega
  simp only [State.answerProposal, hk, Option.getD_some, hcause, Bool.or_eq_true, decide_eq_true_eq, if_neg hlate,
    ne_eq, not_true_eq_false, if_false]
  rfl

/-- A proposal that crosses none of this end's is answered. -/
theorem exec_resizePropose {seq : Fin 256} {rep : Fin 4} {b : Block} {trib : Bool} {tA : Nat}
    (hchip : s.rd (ISC_STAT.CHIP n) = 3) (hfirm : s.firmware = true) (hloop : s.on (ISC_STAT.LOOPBACK n) = false)
    (hprop : s.proposed n = false) : exec (.resizeProposeReceived n seq rep b trib tA) s =
      .next ((s.validMsg n seq rep).answerProposal n b trib (tA % 2 ^ 32) false) := by
  refine (receive_byFirmware hchip hfirm).trans (congrArg Host.Outcome.next ?_)
  simp only [State.proposeReceived, validMsg_loopback, hloop, validMsg_proposed, hprop, Bool.false_and, Bool.false_eq_true,
    if_false]

/-! ## A resize that starts, is armed, or fails -/

section
variable {l : List Field} {src pmc : List Nat} {t : State} {r : Rsz} {own st : Nat}

theorem rszBegin_state (hst : st < 2 ^ 3) : (s.rszBegin n r own st).rd (LDS_RSZ_STAT.STATE n) = st := by
  have hput : (s.rszBegin n r own st).rd (LDS_RSZ_STAT.STATE n) = st % 2 ^ 3 := by
    refine (rd_put_ne (s := (s.put _ _).put _ _) ?_).trans ((rd_put_ne (s := s.put _ _) ?_).trans (rd_put_same ..))
    · exact key_ne_of (by omega)
    · exact key_ne_of (by omega)
  rw [hput, Nat.mod_eq_of_lt hst]

theorem rszBegin_mf (hown : own < 2 ^ 32) : (s.rszBegin n r own st).rd (LDS_RSZ_MF.MFN n) = own :=
  (rd_put_same ..).trans (Nat.mod_eq_of_lt hown)

theorem rszBegin_cause : (s.rszBegin n r own st).rd (LDS_RSZ_STAT.CAUSE n) = s.rd (LDS_RSZ_STAT.CAUSE n) := by
  refine (rd_put_ne (s := (s.put _ _).put _ _) ?_).trans ((rd_put_ne (s := s.put _ _) ?_).trans (rd_put_ne ?_))
  all_goals exact key_ne_of (by omega)

theorem rszBegin_ch : (s.rszBegin n r own st).ch = s.ch.set n { s.ch.get n with rsz := r } := by
  simp [State.rszBegin]

theorem rszBegin_flow : (s.rszBegin n r own st).flow = s.flow := by simp [State.rszBegin]

theorem rszBegin_queue_ch (m : Msg) : ((s.rszBegin n r own st).queue n m).ch =
    s.ch.set n { s.ch.get n with rsz := r, msgs := (s.chan n).msgs ++ [m] } := by
  simp only [State.queue, onChan_ch, rszBegin_ch, quad_set_set, quad_get_set_same]
  rfl

theorem rszBegin_fieldsKept (h : FieldsKept l src pmc s t)
    (hl : ∀ f ∈ [LDS_RSZ_STAT.STATE n, LDS_RSZ_STAT.LATE n, LDS_RSZ_MF.MFN n], f ∈ l) :
    FieldsKept l src pmc s (t.rszBegin n r own st) := by
  refine fieldsKept_of_regs (fieldsKept_put_of (fieldsKept_put_of (fieldsKept_put_of h ?_) ?_) ?_) rfl
  all_goals exact hl _ (by simp)

theorem rszBegin_sameFields (h : SameFields l s t)
    (hl : ∀ f ∈ [LDS_RSZ_STAT.STATE n, LDS_RSZ_STAT.LATE n, LDS_RSZ_MF.MFN n], f ∈ l) :
    SameFields l s (t.rszBegin n r own st) := by
  refine sameFields_of_regs (sameFields_put_of (sameFields_put_of (sameFields_put_of h ?_) ?_) ?_) rfl
  all_goals exact hl _ (by simp)

theorem rszArmRequest_of_lock (h : s.on (LFR_STAT.MF_LOCK n) = true) : s.rszArmRequest n =
    (s.onChan n (fun c => { c with rsz := { c.rsz with heard := true } })).request (.resizeArm n) := by
  simp only [State.rszArmRequest, h, if_true]

/-- A withdrawn request waits no longer. -/
theorem withdraw_contains {v : Vote} (h : ∀ k, v ≠ .void k) : (s.withdraw v).votes.contains v = false := by
  have hrest : ∀ l : List Vote, v ∉ l.filter (fun x => x ≠ v) := fun l hm => by simp at hm
  rw [← Bool.not_eq_true, List.contains_iff_mem]
  unfold State.withdraw
  split
  · rename_i hnil
    simp [hnil]
  · rename_i w rest hcons
    dsimp only
    split
    · dsimp only
      split
      · simp [h]
      · exact hrest rest
    · rename_i hne
      intro hm
      obtain rfl | hm := List.mem_cons.1 hm
      · exact hne rfl
      · exact hrest rest hm

variable {cause : Nat}

theorem rszFail_state : (s.rszFail n cause).rd (LDS_RSZ_STAT.STATE n) = RszSt.failed := by
  simp (disch := (refine id ?_; first
      | ((with_unfolding_all apply quiet_of); omega) | ((with_unfolding_all apply key_ne_of_lt); omega)
      | ((with_unfolding_all apply key_ne_of_gt); omega) | omega)) only
    [State.rszFail, onChan_rd, withdraw_rd, rd_raiseCh_quiet, rd_put_ne, rd_put_same]
  rfl

theorem rszFail_cause (h : cause < 2 ^ 4) : (s.rszFail n cause).rd (LDS_RSZ_STAT.CAUSE n) = cause := by
  simp (disch := (refine id ?_; first
      | ((with_unfolding_all apply quiet_of); omega) | ((with_unfolding_all apply key_ne_of_lt); omega)
      | ((with_unfolding_all apply key_ne_of_gt); omega) | omega)) only
    [State.rszFail, onChan_rd, withdraw_rd, rd_raiseCh_quiet, rd_put_ne, rd_put_same]
  exact Nat.mod_eq_of_lt h

theorem rszFail_event : (s.rszFail n cause).rd (LDS_RSZ_STAT.FAIL_EV n) = 1 := by
  simp (disch := (refine id ?_; first
      | ((with_unfolding_all apply quiet_of); omega) | ((with_unfolding_all apply key_ne_of_lt); omega)
      | ((with_unfolding_all apply key_ne_of_gt); omega) | omega)) only
    [State.rszFail, onChan_rd, withdraw_rd, rd_raiseCh_quiet, rd_put_ne, rd_put_same]
  rfl

theorem rszFail_pend : (s.rszFail n cause).rd (IRQ_PEND (sourceOf n 0x28)) = 1 := by
  have hsrc : sourceOf n 0x28 < 2048 := sourceOf_lt (by decide)
  rw [State.rszFail, onChan_rd, rd_put_ne, rd_put_ne, withdraw_rd]
  · exact raiseCh_pend (by decide)
  · exact key_ne_of_lt (by omega)
  · exact key_ne_of_lt (by omega)

theorem rszFail_fieldsKept (h : FieldsKept l src pmc s t) (hl : ∀ f ∈ failFields n, f ∈ l) (hs : sourceOf n 0x28 ∈ src) :
    FieldsKept l src pmc s (t.rszFail n cause) := by
  unfold State.rszFail
  refine fieldsKept_of_regs (fieldsKept_put_of (fieldsKept_put_of (fieldsKept_of_regs (fieldsKept_raiseCh
    (fieldsKept_put_of (fieldsKept_put_of (fieldsKept_put_of h ?_) ?_) ?_) hs) (withdraw_regs _)) ?_) ?_)
    (onChan_regs _ _ _)
  all_goals exact hl _ (by simp [failFields])

theorem rszFail_votes : (s.rszFail n cause).votes.contains (.resizeArm n) = false := by
  have h : (s.rszFail n cause).votes =
      (((((s.put (LDS_RSZ_STAT.STATE n) RszSt.failed).put (LDS_RSZ_STAT.CAUSE n) cause).put (LDS_RSZ_STAT.FAIL_EV n) 1).raiseCh n
        0x28).withdraw (.resizeArm n)).votes := by simp [State.rszFail]
  rw [h]
  exact withdraw_contains (fun k => nofun)

theorem rszFail_rsz : ((s.rszFail n cause).chan n).rsz = { (s.chan n).rsz with ended := some (s.mfn n) } := by
  simp [State.rszFail, withdraw_ch, State.chan, quad_get_set_same]

theorem rszFail_flow : (s.rszFail n cause).flow = s.flow := by simp [State.rszFail, withdraw_flow]

theorem rszFail_mf : (s.rszFail n cause).rd (LDS_RSZ_MF.MFN n) = s.rd (LDS_RSZ_MF.MFN n) := by
  simp (disch := (refine id ?_; first
      | ((with_unfolding_all apply quiet_of); omega) | ((with_unfolding_all apply key_ne_of_lt); omega)
      | ((with_unfolding_all apply key_ne_of_gt); omega) | omega)) only
    [State.rszFail, onChan_rd, withdraw_rd, rd_raiseCh_quiet, rd_put_ne]

end

/-! ## What the messages do (steps 4, 4a and 5, Table 3.7) -/

theorem exec_resizeAccept {seq : Fin 256} {rep : Fin 4} {tA tB : Nat} (hchip : s.rd (ISC_STAT.CHIP n) = 3)
    (hfirm : s.firmware = true) (hprop : s.proposed n = true) (hheard : (s.chan n).rsz.heard = false)
    (hmf : s.rd (LDS_RSZ_MF.MFN n) = tA % 2 ^ 32) (hleft : 16 < s.mfLeft n) (hlock : s.on (LFR_STAT.MF_LOCK n) = true) :
    exec (.resizeAcceptReceived n seq rep tA tB) s = .next
      ((((s.validMsg n seq rep).onChan n (fun c => { c with rsz := { c.rsz with peerMf := tB % 2 ^ 32 } })).onChan n
        (fun c => { c with rsz := { c.rsz with heard := true } })).request (.resizeArm n)) := by
  refine (receive_byFirmware hchip hfirm).trans (congrArg Host.Outcome.next ?_)
  have hcond : ((s.validMsg n seq rep).proposed n && !((s.validMsg n seq rep).chan n).rsz.heard &&
      decide ((s.validMsg n seq rep).rd (LDS_RSZ_MF.MFN n) = tA % 2 ^ 32) &&
      decide (16 < (s.validMsg n seq rep).mfLeft n)) = true := by
    simp only [validMsg_proposed, hprop, validMsg_chan, hheard, validMsg_rszMf, hmf, validMsg_mfLeft, hleft, Bool.not_false,
      Bool.and_self, decide_true]
  rw [State.acceptReceived, hcond, when_true, rszArmRequest_of_lock]
  exact validMsg_mfLock.trans hlock

theorem exec_resizeConfirm {seq : Fin 256} {rep : Fin 4} {tA tB : Nat} (hchip : s.rd (ISC_STAT.CHIP n) = 3)
    (hfirm : s.firmware = true) (hst : s.rd (LDS_RSZ_STAT.STATE n) = RszSt.accepted)
    (hheard : (s.chan n).rsz.heard = false) (hpeer : (s.chan n).rsz.peerMf = tA % 2 ^ 32)
    (hmf : s.rd (LDS_RSZ_MF.MFN n) = tB % 2 ^ 32) (hleft : 8 < s.mfLeft n) (hlock : s.on (LFR_STAT.MF_LOCK n) = true) :
    exec (.resizeConfirmReceived n seq rep tA tB false) s = .next
      (((s.validMsg n seq rep).onChan n (fun c => { c with rsz := { c.rsz with heard := true } })).request (.resizeArm n)) := by
  refine (receive_byFirmware hchip hfirm).trans (congrArg Host.Outcome.next ?_)
  have hcond : (decide ((s.validMsg n seq rep).rd (LDS_RSZ_STAT.STATE n) = RszSt.accepted) &&
      !((s.validMsg n seq rep).chan n).rsz.heard && decide (((s.validMsg n seq rep).chan n).rsz.peerMf = tA % 2 ^ 32) &&
      decide ((s.validMsg n seq rep).rd (LDS_RSZ_MF.MFN n) = tB % 2 ^ 32) &&
      decide (8 < (s.validMsg n seq rep).mfLeft n)) = true := by
    simp only [validMsg_rszState, hst, validMsg_chan, hheard, hpeer, validMsg_rszMf, hmf, validMsg_mfLeft, hleft,
      Bool.not_false, Bool.and_self, decide_true]
  rw [State.confirmReceived, if_neg Bool.false_ne_true]
  dsimp only
  rw [hcond, when_true, rszArmRequest_of_lock (validMsg_mfLock.trans hlock)]

/-- The resize that a message names ends, and a proposer cancels. -/
theorem rszWithdraw_of_named {tA : Nat} (hst : s.rd (LDS_RSZ_STAT.STATE n) = 1 ∨ s.rd (LDS_RSZ_STAT.STATE n) = 2 ∨
      s.rd (LDS_RSZ_STAT.STATE n) = 3)
    (hnamed : (if (s.chan n).rsz.proposer then s.rd (LDS_RSZ_MF.MFN n) = tA else (s.chan n).rsz.peerMf = tA))
    (hleft : 8 < s.mfLeft n) :
    s.rszWithdraw n tA = (s.rszFail n 0x5).when (s.chan n).rsz.proposer (·.rszCancel n 0x5) := by
  have hstate : (decide (s.rd (LDS_RSZ_STAT.STATE n) = 1) || decide (s.rd (LDS_RSZ_STAT.STATE n) = 2) ||
      decide (s.rd (LDS_RSZ_STAT.STATE n) = 3)) = true := by
    simpa [or_assoc] using hst
  simp only [State.rszWithdraw, hstate, hnamed, hleft, decide_true, Bool.and_self, when_true]

theorem exec_resizeCancel {seq : Fin 256} {rep : Fin 4} {tA tB : Nat} (hchip : s.rd (ISC_STAT.CHIP n) = 3)
    (hfirm : s.firmware = true)
    (hst : s.rd (LDS_RSZ_STAT.STATE n) = RszSt.accepted ∨ s.rd (LDS_RSZ_STAT.STATE n) = RszSt.armed)
    (hend : (s.chan n).rsz.proposer = false) (hpeer : (s.chan n).rsz.peerMf = tA % 2 ^ 32) (hleft : 8 < s.mfLeft n) :
    exec (.resizeConfirmReceived n seq rep tA tB true) s = .next ((s.validMsg n seq rep).rszFail n 0x5) := by
  refine (receive_byFirmware hchip hfirm).trans (congrArg Host.Outcome.next ?_)
  rw [State.confirmReceived, if_pos rfl, rszWithdraw_of_named, validMsg_chan, hend, when_false]
  · rw [validMsg_rszState]
    exact .inr hst
  · simpa only [validMsg_chan, hend, Bool.false_eq_true, if_false] using hpeer
  · rwa [validMsg_mfLeft]

theorem exec_resizeRefuse {seq : Fin 256} {rep : Fin 4} {cause : Fin 16} {tA : Nat} (hchip : s.rd (ISC_STAT.CHIP n) = 3)
    (hfirm : s.firmware = true)
    (hst : s.rd (LDS_RSZ_STAT.STATE n) = RszSt.proposed ∨ s.rd (LDS_RSZ_STAT.STATE n) = RszSt.armed)
    (hend : (s.chan n).rsz.proposer = true) (hmf : s.rd (LDS_RSZ_MF.MFN n) = tA % 2 ^ 32) (hleft : 8 < s.mfLeft n) :
    exec (.resizeRefuseReceived n seq rep tA cause) s =
      .next (((s.validMsg n seq rep).rszFail n 0x5).rszCancel n 0x5) := by
  refine (receive_byFirmware hchip hfirm).trans (congrArg Host.Outcome.next ?_)
  rw [rszWithdraw_of_named, validMsg_chan, hend, when_true]
  · rw [validMsg_rszState]
    exact hst.imp_right .inr
  · simpa only [validMsg_chan, hend, if_true, validMsg_rszMf] using hmf
  · rwa [validMsg_mfLeft]

theorem rszCancel_of_proposer {cause : Nat} (h : (s.chan n).rsz.proposer = true) : s.rszCancel n cause =
    s.queue n (.resizeConfirm (s.rd (LDS_RSZ_MF.MFN n)) (s.chan n).rsz.peerMf true) := by
  simp only [State.rszCancel, h, if_true]

end


section
variable {s : State} {n : Fin 4} {c : Nat}

theorem rszRefused_rd {f : Field} (h : f.key ≠ (LDS_RSZ_STAT.STATE n).key) : (s.rszRefused n c).rd f =
    (((s.put (LDS_RSZ_STAT.CAUSE n) c).put (LDS_RSZ_STAT.FAIL_EV n) 1).raiseCh n 0x28).rd f := by
  unfold State.rszRefused
  cases s.rszRunning n
  · exact rd_put_ne h
  · rfl

theorem rszRefused_cause : (s.rszRefused n c).rd (LDS_RSZ_STAT.CAUSE n) = c % 2 ^ 4 := by
  refine (rszRefused_rd (key_ne_of (by omega))).trans ((rd_raiseCh_quiet (by decide) (quiet_of (by omega))).trans
    ((rd_put_ne ?_).trans (rd_put_same ..)))
  exact key_ne_of (by omega)

theorem rszRefused_event : (s.rszRefused n c).rd (LDS_RSZ_STAT.FAIL_EV n) = 1 := by
  exact (rszRefused_rd (key_ne_of (by omega))).trans ((rd_raiseCh_quiet (by decide) (quiet_of (by omega))).trans
    (rd_put_same ..))

theorem rszRefused_pend : (s.rszRefused n c).rd (IRQ_PEND (sourceOf n 0x28)) = 1 := by
  have hsrc : sourceOf n 0x28 < 2048 := sourceOf_lt (by decide)
  refine (rszRefused_rd (key_ne_of_lt (by omega))).trans ?_
  exact raiseCh_pend (by decide)

theorem rszRefused_state : (s.rszRefused n c).rd (LDS_RSZ_STAT.STATE n) =
    if s.rszRunning n = true then s.rd (LDS_RSZ_STAT.STATE n) else RszSt.failed := by
  unfold State.rszRefused
  cases s.rszRunning n
  · exact rd_put_same ..
  · refine (rd_raiseCh_quiet (by decide) (quiet_of (by omega))).trans ?_
    rw [rd_put_ne, rd_put_ne]
    · rfl
    · exact key_ne_of (by omega)
    · exact key_ne_of (by omega)

theorem rszRefused_ch : (s.rszRefused n c).ch = s.ch := by
  unfold State.rszRefused
  cases s.rszRunning n <;> simp

theorem rszRefused_flow : (s.rszRefused n c).flow = s.flow := by
  unfold State.rszRefused
  cases s.rszRunning n <;> simp

theorem rszRefused_fieldsKept {l : List Field} {src pmc : List Nat} {t : State} (h : FieldsKept l src pmc s t)
    (hl : ∀ f ∈ [LDS_RSZ_STAT.STATE n, LDS_RSZ_STAT.CAUSE n, LDS_RSZ_STAT.FAIL_EV n], f ∈ l) (hs : sourceOf n 0x28 ∈ src) :
    FieldsKept l src pmc s (t.rszRefused n c) := by
  refine fieldsKept_when_fn (fieldsKept_raiseCh (fieldsKept_put_of (fieldsKept_put_of h ?_) ?_) hs)
    (fun u hu => fieldsKept_put_of hu ?_)
  all_goals exact hl _ (by simp)

end

section
variable {s : State} {n : Fin 4}

theorem exec_resizeGo_allowed {win : Fin 7} {value : Word} {q : Profile} (hopen : s.writeOpen win 2)
    (hgo : (LDS_RSZ_CTRL.GO n).of value.toNat = 1)
    (hcause : s.rszCause n ((LDS_RSZ_CTRL.TARGET n).of value.toNat) ((LDS_RSZ_CTRL.TRIB n).of value.toNat = 1) false = 0)
    (hq : s.profile n ((LDS_RSZ_CTRL.TARGET n).of value.toNat) = some q) {own : Nat}
    (hown : (s.mfn n + Nat.max 64 ((LDS_RSZ_CTRL.LEAD n).of value.toNat)) % 2 ^ 32 = own) :
    exec (.resizeGo win n value 15) s = .next ((((s.setRszCtrl n value.toNat).put (LDS_RSZ_STAT.CAUSE n) 0).rszBegin n
      (s.rszProposed n ((LDS_RSZ_CTRL.TARGET n).of value.toNat) ((LDS_RSZ_CTRL.TRIB n).of value.toNat = 1)) own
      RszSt.proposed).queue n (.resizePropose q.block ((LDS_RSZ_CTRL.TRIB n).of value.toNat = 1) own)) := by
  have hp : (LDS_RSZ_CTRL.TARGET n).of value.toNat < 4 := Nat.mod_lt _ (Nat.two_pow_pos _)
  have hr : (s.setRszCtrl n value.toNat).rszProposed n ((LDS_RSZ_CTRL.TARGET n).of value.toNat)
      ((LDS_RSZ_CTRL.TRIB n).of value.toNat = 1) = s.rszProposed n ((LDS_RSZ_CTRL.TARGET n).of value.toNat)
      ((LDS_RSZ_CTRL.TRIB n).of value.toNat = 1) := by
    have hact : (s.setRszCtrl n value.toNat).rd (LDS_LMODE_STAT.ACTIVE n) = s.rd (LDS_LMODE_STAT.ACTIVE n) :=
      setRszCtrl_rd (out_of (by omega))
    simp only [State.rszProposed, (setRszCtrl_sameTables value.toNat).rszTable, hact]
    rfl
  have hmfn : (s.setRszCtrl n value.toNat).mfn n = s.mfn n := setRszCtrl_rd (out_of (by omega))
  rw [exec_resizeGo hopen hgo, resizeGo_of_allowed (setRszCtrl_target _) (setRszCtrl_trib _)
    ((setRszCtrl_rszCause hp _).trans hcause) hq, hr, hmfn, setRszCtrl_lead, hown]

theorem exec_resizeGo_refused {win : Fin 7} {value : Word} {c : Nat} (hopen : s.writeOpen win 2)
    (hgo : (LDS_RSZ_CTRL.GO n).of value.toNat = 1)
    (hcause : s.rszCause n ((LDS_RSZ_CTRL.TARGET n).of value.toNat) ((LDS_RSZ_CTRL.TRIB n).of value.toNat = 1) false = c)
    (hc : c ≠ 0) : exec (.resizeGo win n value 15) s = .next ((s.setRszCtrl n value.toNat).rszRefused n c) := by
  have hp : (LDS_RSZ_CTRL.TARGET n).of value.toNat < 4 := Nat.mod_lt _ (Nat.two_pow_pos _)
  have hset := (setRszCtrl_rszCause (s := s) (n := n) (v := value.toNat) hp
    (decide ((LDS_RSZ_CTRL.TRIB n).of value.toNat = 1))).trans hcause
  rw [exec_resizeGo hopen hgo, resizeGo_of_refused (setRszCtrl_target _) (setRszCtrl_trib _) (by rwa [hset]), hset]

theorem setRszCtrl_rszRunning (v : Nat) : (s.setRszCtrl n v).rszRunning n = s.rszRunning n := by
  have hst : (s.setRszCtrl n v).rd (LDS_RSZ_STAT.STATE n) = s.rd (LDS_RSZ_STAT.STATE n) := setRszCtrl_rd (out_of (by omega))
  simp only [State.rszRunning]
  rw [hst]

theorem exec_resizePropose_met {seq : Fin 256} {rep : Fin 4} {b : Block} {trib : Bool} {tA k own : Nat}
    (hchip : s.rd (ISC_STAT.CHIP n) = 3) (hfirm : s.firmware = true) (hloop : s.on (ISC_STAT.LOOPBACK n) = false)
    (hprop : s.proposed n = false) (hk : s.profileOf n b = some k) (hcause : s.rszCause n k trib false = 0)
    (hown : s.translate n (tA % 2 ^ 32) = own) (hlo : 16 ≤ mfSub own (s.mfn n)) (hhi : mfSub own (s.mfn n) < 2 ^ 31) :
    exec (.resizeProposeReceived n seq rep b trib tA) s =
      .next (((s.validMsg n seq rep).rszBegin n (s.rszAccepted n k trib (tA % 2 ^ 32)) own RszSt.accepted).queue n
        (.resizeAccept (tA % 2 ^ 32) own)) := by
  have hr : (s.validMsg n seq rep).rszAccepted n k trib (tA % 2 ^ 32) = s.rszAccepted n k trib (tA % 2 ^ 32) := by
    simp only [State.rszAccepted, validMsg_rszTable, validMsg_active, validMsg_chan]
  have htr := (validMsg_translate (n := n) (seq := seq) (rep := rep) (tA % 2 ^ 32)).trans hown
  rw [exec_resizePropose hchip hfirm hloop hprop, answerProposal_of_met ((validMsg_profileOf b).trans hk)
    ((validMsg_rszCause (profileOf_lt hk) _ _).trans hcause), htr, hr]
  · rwa [htr, validMsg_mfn]
  · rwa [htr, validMsg_mfn]

end

/-! ## The obligation -/

/-- Settles O14: a proposal, its answers and its withdrawal, each as Tables 3.6 and 3.7 take it. -/
theorem resizeProposalExchange : Obligations.ResizeProposalExchange := by
  refine ⟨?proposed, ?failed, ?accepted, ?refused, ?armAtProposer, ?armAtPeer, ?cancelled, ?withdrawn⟩
  case proposed =>
    intro s win n value q hopen hgo hcause hq
    have hown : (s.mfn n + Nat.max 64 ((LDS_RSZ_CTRL.LEAD n).of value.toNat)) % 2 ^ 32 < 2 ^ 32 := Nat.mod_lt _ (by decide)
    generalize heq : (s.mfn n + Nat.max 64 ((LDS_RSZ_CTRL.LEAD n).of value.toNat)) % 2 ^ 32 = own at hown ⊢
    refine ⟨_, exec_resizeGo_allowed hopen hgo hcause hq heq, ?_, ?_, ?_, ?_, ?_, ?_⟩
    · rw [queue_rd, rszBegin_state (by decide)]
    · rw [queue_rd, rszBegin_cause, rd_put_same]
      rfl
    · rw [queue_rd, rszBegin_mf hown]
    · rw [queue_rd, rszBegin_mf hown, rszBegin_queue_ch]
      rfl
    · simp [State.queue, rszBegin_flow, State.setRszCtrl]
    · refine sameFields_of_regs (rszBegin_sameFields (sameFields_put_of (setRszCtrl_sameFields _ ?_) ?_) ?_) (queue_regs _ _)
      all_goals simp +contextual [rszCtrlFields]
  case failed =>
    intro s win n value hopen hgo hcause
    refine ⟨_, exec_resizeGo_refused hopen hgo rfl hcause, ?_, ?_, rszRefused_event, rszRefused_pend, rszRefused_ch,
      rszRefused_flow, ?_⟩
    · rw [rszRefused_cause, Nat.mod_eq_of_lt (rszCause_lt _ _ _)]
    · have hst : (s.setRszCtrl n value.toNat).rd (LDS_RSZ_STAT.STATE n) = s.rd (LDS_RSZ_STAT.STATE n) :=
        setRszCtrl_rd (out_of (by omega))
      rw [rszRefused_state, setRszCtrl_rszRunning, hst]
    · refine rszRefused_fieldsKept (setRszCtrl_sameFields _ ?_).kept ?_ ?_
      all_goals simp +contextual [rszCtrlFields]
  case accepted =>
    intro s n seq rep block trib tA k hchip hfirm hloop hprop hk hcause hlo hhi
    have hown := translate_lt (s := s) (n := n) (tA % 2 ^ 32)
    generalize heq : s.translate n (tA % 2 ^ 32) = own at hown hlo hhi ⊢
    refine ⟨_, exec_resizePropose_met hchip hfirm hloop hprop hk hcause heq hlo hhi, ?_, ?_, ?_, ?_, ?_⟩
    · rw [queue_rd, rszBegin_state (by decide)]
    · rw [queue_rd, rszBegin_mf hown]
    · rw [rszBegin_queue_ch, validMsg_ch, validMsg_chan]
      rfl
    · simp [State.queue, rszBegin_flow]
    · refine fieldsKept_of_regs (rszBegin_fieldsKept (fieldsKept_validMsg (.refl _ _ _ s) ?_ ?_) ?_) (queue_regs _ _)
      all_goals simp +contextual
  case refused =>
    intro s n seq rep block trib tA hchip hfirm hloop hprop hlate
    have hexec := exec_resizePropose (seq := seq) (rep := rep) (b := block) (trib := trib) (tA := tA) hchip hfirm hloop hprop
    rw [answerProposal_of_late (by rwa [validMsg_translate, validMsg_mfn])] at hexec
    refine ⟨_, hexec, ?_, validMsg_flow, ?_⟩
    · simp [State.queue, State.chan]
    · exact fieldsKept_of_regs (fieldsKept_validMsg (.refl _ _ _ s) (fun _ h => h) (by simp)) (queue_regs _ _)
  case armAtProposer =>
    intro s n seq rep tA tB hchip hfirm hprop hheard hmf hleft hlock
    refine ⟨_, exec_resizeAccept hchip hfirm hprop hheard hmf hleft hlock, ?_, ?_, ?_, ?_⟩
    · simp [State.request]
    · simp [State.request, quad_set_set, quad_get_set_same, State.chan]
    · simp [State.request]
    · exact fieldsKept_of_regs (fieldsKept_validMsg (.refl _ _ _ s) (fun _ h => h) (by simp)) rfl
  case armAtPeer =>
    intro s n seq rep tA tB hchip hfirm hst hheard hpeer hmf hleft hlock
    refine ⟨_, exec_resizeConfirm hchip hfirm hst hheard hpeer hmf hleft hlock, ?_, ?_, ?_, ?_⟩
    · simp [State.request]
    · simp [State.request, State.chan]
    · simp [State.request]
    · exact fieldsKept_of_regs (fieldsKept_validMsg (.refl _ _ _ s) (fun _ h => h) (by simp)) rfl
  case cancelled =>
    intro s n seq rep tA tB hchip hfirm hst hend hpeer hleft
    refine ⟨_, exec_resizeCancel hchip hfirm hst hend hpeer hleft, rszFail_state, rszFail_cause (by decide), rszFail_event,
      rszFail_pend, rszFail_votes, ?_, rszFail_flow.trans validMsg_flow, ?_⟩
    · rw [rszFail_rsz, validMsg_chan, validMsg_mfn]
    · refine rszFail_fieldsKept (fieldsKept_validMsg (.refl _ _ _ s) ?_ ?_) ?_ ?_
      all_goals simp +contextual
  case withdrawn =>
    intro s n seq rep tA cause hchip hfirm hst hend hmf hleft
    have hexec := exec_resizeRefuse (seq := seq) (rep := rep) (cause := cause) hchip hfirm hst hend hmf hleft
    have hrsz : (((s.validMsg n seq rep).rszFail n 0x5).chan n).rsz = { (s.chan n).rsz with ended := some (s.mfn n) } := by
      rw [rszFail_rsz, validMsg_chan, validMsg_mfn]
    rw [rszCancel_of_proposer (by rw [hrsz]; exact hend), hrsz, rszFail_mf, validMsg_rszMf] at hexec
    refine ⟨_, hexec, rszFail_state, rszFail_cause (by decide), rszFail_event, rszFail_pend, rszFail_votes, ?_, ?_,
      rszFail_flow.trans validMsg_flow, ?_⟩
    · simp [State.queue]
    · rw [State.queue, onChan_chan]
      exact hrsz
    · refine fieldsKept_of_regs (rszFail_fieldsKept (fieldsKept_validMsg (.refl _ _ _ s) ?_ ?_) ?_ ?_) (queue_regs _ _)
      all_goals simp +contextual

end Sys2Proof.Machine
end

section
/-! SUPPORT. Words of commands that are carried out, and stacks of levels as numbers. -/

set_option Elab.async false

namespace Sys2Proof.Machine

/-! ## Words of commands -/

section
variable {s : State} {w : Wr} {h : Hook} {fs : List FSpec}

theorem takeWord_of_commands {lvl : Nat} (hcmd : CommandsOf lvl fs) : s.takeWord w fs = s := by
  have hall : ∀ f ∈ fs.filter FSpec.writable, f.acc = .wo := fun f hf => (hcmd f (List.mem_filter.1 hf).1).1
  unfold State.takeWord
  generalize fs.filter FSpec.writable = l at hall ⊢
  induction l with
  | nil => rfl
  | cons f l ih =>
    rw [State.each, List.foldl_cons, applyField_of_wo (hall f (List.mem_cons_self ..))]
    exact ih fun g hg => hall g (List.mem_cons_of_mem _ hg)

theorem writtenFields_of_commands {lvl : Nat} (hcmd : CommandsOf lvl fs) :
    writtenFields w fs = fs.map (fun f => (f.fld, f.fld.of w.value)) := by
  have hall : fs.filter FSpec.writable = fs :=
    List.filter_eq_self.2 fun f hf => by simp [FSpec.writable, (hcmd f hf).1]
  rw [writtenFields, hall]

/-- A word of commands none of which is refused does what its row says. -/
theorem hostWrite_of_commands {f : FSpec} {t : State} (hopen : s.writeOpen w.win f.wpriv) (hbe : w.be = 15)
    (hpriv : 0 < f.wpriv) (hfs : s.fieldsAt w.addr = fs) (hf : f ∈ fs) (hcmd : CommandsOf f.wpriv fs)
    (hr : ∀ g ∈ fs, h.reason s g.fld (g.fld.of w.value) = 0)
    (hact : h.act (fs.map (fun g => (g.fld, g.fld.of w.value))) s = (t, 0)) : s.hostWrite w h = t := by
  have ⟨hans, hlvl, _⟩ := hopen
  have hwrit : f.writable = true := by simp [FSpec.writable, (hcmd f hf).1]
  have hok : s.allTaken w h fs := fun g hg =>
    ⟨fieldReason_of_wo (hcmd g hg).1 ((hcmd g hg).2.trans hlvl), fun _ => hr g hg⟩
  refine hostWrite_of_act hans hfs (List.ne_nil_of_mem hf) (wholeReason_of_open hopen hbe hf hwrit hpriv) hok ?_
  rw [takeWord_of_commands hcmd, writtenFields_of_commands hcmd, hact]

/-- The fields of a word of a block without selections. -/
theorem fieldsAt_of_plain {a : Nat} {r : Reg} {d : Nat} (hreg : findReg a = some (r, d)) (hsel : r.sel = .plain)
    (hfs : r.fields.map (fun f => { f with fld := (f.fld.shift d).reseat }) = fs) : s.fieldsAt a = fs := by
  rw [State.fieldsAt, hreg]
  simp only [State.fieldShift, hsel, hfs]

end

/-! ## Levels as bits -/

theorem setBit_lt {v i : Nat} (hv : v < 2 ^ 16) (hi : i < 16) : setBit v i < 2 ^ 16 := by
  unfold setBit bit
  split
  · interval_cases i <;> omega
  · exact hv

theorem clrBit_le (v i : Nat) : clrBit v i ≤ v := by
  unfold clrBit
  split
  · exact Nat.sub_le ..
  · exact Nat.le_refl v

theorem popcount_le (v : Nat) : ∀ n, popcount v n ≤ n
  | 0 => Nat.le_refl 0
  | n + 1 => by
    have hbit : bit v n < 2 := Nat.mod_lt _ (by decide)
    have := popcount_le v n
    rw [popcount]
    omega

end Sys2Proof.Machine
end
section
/-! Interrupt words, selection, commit and EOI (R363 to R374). -/

namespace Sys2Proof.Machine

section
variable {s : State} {win : Fin 7} {k : Fin 64} {value : Word}

/-! ## The word arrays (R366, R367) -/

/-- One word of an array whose writes act on the sources they name. -/
def irqWordRow (a : Nat) (k : Nat) : FSpec := ⟨⟨a + 4 * k, 0, 32, 0⟩, .wo, .live, 2, .any⟩

theorem findReg_irqPendSet : ∀ k : Fin 64, findReg (0x30500 + 4 * k) =
    some ((⟨0x30500, [(64, 4)], 1, .plain, [irqWordRow 0x30500 0]⟩ : Reg), 4 * k.val) := by decide

theorem findReg_irqPendClear : ∀ k : Fin 64, findReg (0x30600 + 4 * k) =
    some ((⟨0x30600, [(64, 4)], 1, .plain, [irqWordRow 0x30600 0]⟩ : Reg), 4 * k.val) := by decide

theorem findReg_irqMaskSet : ∀ k : Fin 64, findReg (0x30800 + 4 * k) =
    some ((⟨0x30800, [(64, 4)], 1, .plain, [irqWordRow 0x30800 0]⟩ : Reg), 4 * k.val) := by decide

theorem findReg_irqMaskClear : ∀ k : Fin 64, findReg (0x30900 + 4 * k) =
    some ((⟨0x30900, [(64, 4)], 1, .plain, [irqWordRow 0x30900 0]⟩ : Reg), 4 * k.val) := by decide

/-- A field below the slices and the banks keeps its reset value where it is shifted. -/
theorem reseat_of_low {f : Field} (h : f.addr < 0x70100) : f.reseat = f := by
  have hslice : (0x10200000 ≤ f.addr && f.addr < 0x10204000) = false := by simp; omega
  have hbank : (0x70100 ≤ f.addr && f.addr < 0x70200) = false := by simp; omega
  simp only [Field.reseat, hslice, hbank, Bool.false_eq_true, if_false]

theorem fieldsAt_irqWord {a : Nat} (ha : a ≤ 0x30900) (hreg : findReg (a + 4 * k) =
    some ((⟨a, [(64, 4)], 1, .plain, [irqWordRow a 0]⟩ : Reg), 4 * k.val)) : s.fieldsAt (a + 4 * k) = [irqWordRow a k] := by
  refine fieldsAt_of_plain hreg rfl ?_
  have hlow := reseat_of_low (f := ⟨a + 4 * k, 0, 32, 0⟩) (by dsimp only; omega)
  exact congrArg (fun f => [(⟨f, .wo, .live, 2, .any⟩ : FSpec)]) hlow

/-- An admitted write of such a word acts on each source it names. -/
theorem hostWrite_irqWord {a : Nat} {f : Nat → State → State} (hopen : s.writeOpen win 2) (ha : a ≤ 0x30900)
    (hreg : findReg (a + 4 * k) = some ((⟨a, [(64, 4)], 1, .plain, [irqWordRow a 0]⟩ : Reg), 4 * k.val)) :
    s.hostWrite ⟨win, a + 4 * k, value.toNat, 15⟩ (irqWordHook k value.toNat f) = s.each (wordSources k value.toNat) f :=
  hostWrite_of_commands (f := irqWordRow a k) hopen rfl (Nat.zero_lt_succ 1) (fieldsAt_irqWord ha hreg) (List.mem_singleton.2 rfl)
    (by simp [CommandsOf, irqWordRow]) (fun _ _ => rfl) rfl

/-- The sources that a word names. -/
theorem mem_wordSources {w v N : Nat} (hN : N ∈ allSources) :
    N ∈ wordSources w v ↔ N / 32 = w ∧ bit v (N % 32) = 1 := by
  simp only [wordSources, List.mem_filter, List.mem_map, List.mem_range, decide_eq_true_eq, implemented,
    List.contains_iff_mem, hN, and_true]
  constructor
  · rintro ⟨b, ⟨hb, hbit⟩, rfl⟩
    have hdiv : (32 * w + b) / 32 = w := by omega
    have hmod : (32 * w + b) % 32 = b := by omega
    rw [hdiv, hmod]
    exact ⟨rfl, hbit⟩
  · rintro ⟨rfl, hbit⟩
    exact ⟨N % 32, ⟨Nat.mod_lt _ (by decide), hbit⟩, Nat.div_add_mod N 32⟩

/-- A bit that is put for each source of a list. -/
theorem each_put_rd {l : List Nat} {f : Nat → State → State} {g : Nat → Field} {N v : Nat}
    (hsame : ∀ t, (f N t).rd (g N) = v) (hother : ∀ M ∈ l, M ≠ N → ∀ t, (f M t).rd (g N) = t.rd (g N)) :
    (s.each l f).rd (g N) = if N ∈ l then v else s.rd (g N) := by
  induction l generalizing s with
  | nil => rfl
  | cons M l ih =>
    have hstep : s.each (M :: l) f = (f M s).each l f := rfl
    rw [hstep, ih fun K hK => hother K (List.mem_cons_of_mem _ hK)]
    by_cases hM : M = N
    · subst hM
      simp [hsame]
    · have hne : N ≠ M := fun h => hM h.symm
      simp only [List.mem_cons, hne, false_or, hother M (List.mem_cons_self ..) hM s]

theorem allSources_lt : ∀ N ∈ allSources, N < 2048 := by decide +kernel

theorem irqPend_each {f : Nat → State → State} {l : List Nat} {N v : Nat} (hN : N < 2048) (hv : v < 2)
    (hf : ∀ M t, ∃ x, f M t = (t.put (IRQ_PEND M) v).put (IRQ_CFG.ARRIVE M) x) :
    (s.each l f).rd (IRQ_PEND N) = if N ∈ l then v else s.rd (IRQ_PEND N) := by
  have hput : ∀ M t, (f M t).rd (IRQ_PEND N) = (t.put (IRQ_PEND M) v).rd (IRQ_PEND N) := fun M t => by
    obtain ⟨x, hx⟩ := hf M t
    rw [hx]
    exact rd_put_ne (key_ne_of_lt (by omega))
  refine each_put_rd (fun t => ?_) (fun M _ hM t => ?_)
  · rw [hput, rd_put_same]
    exact Nat.mod_eq_of_lt hv
  · rw [hput]
    exact rd_put_ne (key_ne_of (by omega))

theorem irqMask_each {l : List Nat} {N v : Nat} (hv : v < 2) :
    (s.each l (fun M t => t.put (IRQ_MASK M) v)).rd (IRQ_MASK N) = if N ∈ l then v else s.rd (IRQ_MASK N) := by
  refine each_put_rd (fun t => ?_) (fun M _ hM t => ?_)
  · rw [rd_put_same]
    exact Nat.mod_eq_of_lt hv
  · exact rd_put_ne (key_ne_of (by omega))

theorem each_sameArea {α : Type} {l : List α} {f : α → State → State} {x : Area} (h : ∀ a t, SameArea t (f a t) x) :
    SameArea s (s.each l f) x := by
  induction l generalizing s with
  | nil => exact SameArea.refl _ _
  | cons a l ih => exact (h a s).trans ih

end

/-! ## Stacks (R368, R369) -/

section
variable {s : State} {t v : Nat}

theorem setStack_stack (hv : v < 2 ^ 16) (ht : t < 4) : (s.setStack t v).stack t = v := by
  by_cases h0 : t = 0
  · subst h0
    have hput : ((s.put IRQ_HSTK.LEVELS v).put IRQ_HSTK.DEPTH (popcount v 16) |>.put IRQ_HSTK.TOP (topBit v 16 - 1)).rd
        IRQ_HSTK.LEVELS = v := by
      rw [rd_put_ne (by decide), rd_put_ne (by decide), rd_put_same]
      exact Nat.mod_eq_of_lt hv
    simpa [State.stack, State.setStack] using hput
  · simp only [State.stack, State.setStack, if_neg h0, rd_put_same, bits]
    have hmod : ((topBit v 16 - 1) * 2 ^ 28 + popcount v 16 * 2 ^ 16 + v) % 2 ^ (IRQ_SSTK.W (t - 1)).width / 2 ^ 0 % 2 ^ 16 =
        ((topBit v 16 - 1) * 2 ^ 28 + popcount v 16 * 2 ^ 16 + v) % 2 ^ 32 / 2 ^ 0 % 2 ^ 16 := rfl
    rw [hmod]
    omega

theorem setStack_rd_out {f : Field} (ht : t < 4) (h : KeyOut 0x30014 0x3003C f.key) : (s.setStack t v).rd f = s.rd f := by
  unfold State.setStack
  split
  · rw [rd_put_ne, rd_put_ne, rd_put_ne]
    all_goals exact key_ne_of_out h (by decide) (by decide)
  · refine rd_put_ne (key_ne_of_out h ?_ ?_)
    · simp only [Field.key, IRQ_SSTK.W]; omega
    · simp only [Field.key, IRQ_SSTK.W]; omega

theorem setStack_depth : (s.setStack 0 v).rd IRQ_HSTK.DEPTH = popcount v 16 % 2 ^ IRQ_HSTK.DEPTH.width := by
  have hput : (((s.put IRQ_HSTK.LEVELS v).put IRQ_HSTK.DEPTH (popcount v 16)).put IRQ_HSTK.TOP (topBit v 16 - 1)).rd
      IRQ_HSTK.DEPTH = popcount v 16 % 2 ^ IRQ_HSTK.DEPTH.width := by
    rw [rd_put_ne (by decide), rd_put_same]
  simpa [State.setStack] using hput

theorem setStack_sameFields {l : List Field} {u : State} (h : SameFields l u s)
    (hl : ∀ f ∈ (if t = 0 then [IRQ_HSTK.LEVELS, IRQ_HSTK.DEPTH, IRQ_HSTK.TOP] else [IRQ_SSTK.W (t - 1)]), f ∈ l) :
    SameFields l u (s.setStack t v) := by
  unfold State.setStack
  split
  · rename_i h0
    simp only [h0, if_true] at hl
    refine sameFields_put_of (sameFields_put_of (sameFields_put_of h ?_) ?_) ?_
    all_goals exact hl _ (by simp)
  · rename_i h0
    simp only [h0, if_false] at hl
    exact sameFields_put_of h (hl _ (by simp))

theorem setStack_sameArea (x : Area) : SameArea s (s.setStack t v) x :=
  (kept_setStack (A := fun _ => False) (.refl s)).same x id

@[simp] theorem setStack_ch : (s.setStack t v).ch = s.ch := setStack_sameArea .ch
@[simp] theorem setStack_flow : (s.setStack t v).flow = s.flow := setStack_sameArea .flow
@[simp] theorem setStack_out : (s.setStack t v).out = s.out := setStack_sameArea .out

end

/-! ## Selection (R368) -/

/-- One more than the highest of some levels. -/
def levelTop (l : List Nat) (m : Nat) : Nat := l.foldl (fun m l => Nat.max m (l + 1)) m

theorem levelTop_le {l : List Nat} {m d : Nat} (hm : m ≤ d) (hl : ∀ x ∈ l, x < d) : levelTop l m ≤ d := by
  induction l generalizing m with
  | nil => exact hm
  | cons x l ih =>
    exact ih (Nat.max_le.2 ⟨hm, hl x (List.mem_cons_self ..)⟩) fun y hy => hl y (List.mem_cons_of_mem _ hy)

theorem le_levelTop (l : List Nat) (m : Nat) : m ≤ levelTop l m := by
  induction l generalizing m with
  | nil => exact Nat.le_refl m
  | cons x l ih => exact (Nat.le_max_left m (x + 1)).trans (ih _)

theorem lt_levelTop {l : List Nat} {m x : Nat} (h : x ∈ l) : x < levelTop l m := by
  induction l generalizing m with
  | nil => cases h
  | cons y l ih =>
    obtain rfl | h := List.mem_cons.1 h
    · exact Nat.lt_of_lt_of_le (Nat.lt_succ_self x) ((Nat.le_max_right m (x + 1)).trans (le_levelTop l _))
    · exact ih h

section
variable {s : State} {target : Fin 4}

theorem levelTop_of_highest {l : List Nat} {d : Nat} (hd : 0 < d) (h : d - 1 ∈ l) (hl : ∀ x ∈ l, x < d) : levelTop l 0 = d := by
  have hlo := lt_levelTop (m := 0) h
  have hhi := levelTop_le (m := 0) (Nat.zero_le d) hl
  omega

theorem exec_interruptSelection : exec (.interruptSelection target) s = .next
    (s.when (s.takesIrq target && !s.on IRQ_STAT.FAULT && s.rd (IRQC.SEL target) = 0 &&
      s.running target < levelTop (s.eligLevels target) 0) (·.put (IRQC.SEL target) (levelTop (s.eligLevels target) 0))) := rfl

theorem eligLevel_lt {l : Nat} (h : l ∈ s.eligLevels target) : l < 16 := by
  obtain ⟨N, -, rfl⟩ := List.mem_map.1 h
  unfold State.irqPrio
  split <;> exact rd_lt s _

end

/-! ## Commit (R371, R372) -/

section
variable {s : State} {v : Nat} {target : Fin 4}

/-- The host's stack and counters after the commit of level v. -/
def State.committed (s : State) (v : Nat) : State :=
  (((s.put (IRQC.SEL 0) 0).setStack 0 (setBit (s.stack 0) v)).bump IRQ_CNT.DLV).when (!(s.eligLevels 0).contains v)
    (·.bump IRQ_CNT.DAM)

theorem exec_interruptCommit_host (hsel : s.rd (IRQC.SEL 0) = v + 1) (hfault : s.on IRQ_STAT.FAULT = false) :
    exec (.interruptCommit 0) s = .next ((s.committed v).sendMsix v) := by
  have hstack : (s.put (IRQC.SEL 0) 0).stack 0 = s.stack 0 := by
    simp only [State.stack, if_true]
    exact rd_put_ne (by decide)
  refine congrArg Host.Outcome.next ?_
  simp only [Fin.isValue, Fin.val_zero, hsel, hfault, hstack, State.committed]
  simp

theorem exec_interruptCommit_supervisor (ht : target ≠ 0) (hsel : s.rd (IRQC.SEL target) = v + 1)
    (hfault : s.on IRQ_STAT.FAULT = false) (htakes : s.takesIrq target = true) : exec (.interruptCommit target) s =
    .next ((s.put (IRQC.SEL target) 0).setStack target (setBit (s.stack target) v)) := by
  have ht0 : target.val ≠ 0 := fun h => ht (Fin.ext h)
  have hstack : (s.put (IRQC.SEL target) 0).stack target = s.stack target := by
    simp only [State.stack, if_neg ht0]
    rw [rd_put_ne]
    exact key_ne_of_lt (by omega)
  refine congrArg Host.Outcome.next ?_
  simp only [hsel, hfault, htakes, hstack, ht, Nat.add_one_ne_zero, if_false]
  simp

theorem rd_bump_same (f : Field) : (s.bump f).rd f = s.oneMore f := by
  have hpos := Nat.two_pow_pos f.width
  refine (rd_put_same ..).trans (Nat.mod_eq_of_lt ?_)
  exact Nat.lt_of_le_of_lt (Nat.min_le_right ..) (Nat.sub_lt hpos Nat.one_pos)

theorem committed_rd {f : Field} (hstack : KeyOut 0x30014 0x3003C f.key) (hsel : f.key ≠ (IRQC.SEL 0).key) :
    (s.committed v).rd f = s.rd f := by
  have hcnt : ∀ g, g = IRQ_CNT.DLV ∨ g = IRQ_CNT.DAM → f.key ≠ g.key := by
    rintro g (rfl | rfl)
    · exact key_ne_of_out hstack (by decide) (by decide)
    · exact key_ne_of_out hstack (by decide) (by decide)
  have hdlv : ((((s.put (IRQC.SEL 0) 0).setStack 0 (setBit (s.stack 0) v)).bump IRQ_CNT.DLV)).rd f = s.rd f := by
    rw [rd_bump_ne (hcnt _ (.inl rfl)), setStack_rd_out (by decide) hstack, rd_put_ne hsel]
  unfold State.committed
  cases (s.eligLevels 0).contains v
  · exact (rd_bump_ne (hcnt _ (.inr rfl))).trans hdlv
  · exact hdlv

theorem committed_on {f : Field} (hstack : KeyOut 0x30014 0x3003C f.key) (hsel : f.key ≠ (IRQC.SEL 0).key) :
    (s.committed v).on f = s.on f := by rw [State.on, committed_rd hstack hsel, State.on]

theorem committed_rd_stack {f : Field} (hdlv : f.key ≠ IRQ_CNT.DLV.key) (hdam : f.key ≠ IRQ_CNT.DAM.key) :
    (s.committed v).rd f = ((s.put (IRQC.SEL 0) 0).setStack 0 (setBit (s.stack 0) v)).rd f := by
  unfold State.committed
  cases (s.eligLevels 0).contains v
  · exact (rd_bump_ne hdam).trans (rd_bump_ne hdlv)
  · exact rd_bump_ne hdlv

theorem committed_stack (hv : v < 16) : (s.committed v).stack 0 = setBit (s.stack 0) v := by
  have hset := setStack_stack (s := s.put (IRQC.SEL 0) 0) (t := 0) (setBit_lt (v := s.stack 0) (rd_lt s _) hv) (by decide)
  simp only [State.stack, if_true] at hset ⊢
  exact (committed_rd_stack (by decide) (by decide)).trans hset

theorem committed_depth : (s.committed v).rd IRQ_HSTK.DEPTH =
    popcount (setBit (s.stack 0) v) 16 % 2 ^ IRQ_HSTK.DEPTH.width :=
  (committed_rd_stack (by decide) (by decide)).trans setStack_depth

theorem committed_sel : (s.committed v).rd (IRQC.SEL 0) = 0 := by
  rw [committed_rd_stack (by decide) (by decide), setStack_rd_out (by decide) (.inr (by decide)), rd_put_same]
  rfl

theorem put_sel_stack_rd {f : Field} (h : f = IRQ_CNT.DLV ∨ f = IRQ_CNT.DAM) :
    ((s.put (IRQC.SEL 0) 0).setStack 0 (setBit (s.stack 0) v)).rd f = s.rd f := by
  have hset : ∀ g, g = IRQ_HSTK.LEVELS ∨ g = IRQ_HSTK.DEPTH ∨ g = IRQ_HSTK.TOP ∨ g = IRQC.SEL 0 → f.key ≠ g.key := by
    rcases h with rfl | rfl
    · rintro g (rfl | rfl | rfl | rfl) <;> decide
    · rintro g (rfl | rfl | rfl | rfl) <;> decide
  unfold State.setStack
  rw [if_pos rfl, rd_put_ne (hset _ (by simp)), rd_put_ne (hset _ (by simp)), rd_put_ne (hset _ (by simp)),
    rd_put_ne (hset _ (by simp))]

theorem committed_dlv : (s.committed v).rd IRQ_CNT.DLV = s.oneMore IRQ_CNT.DLV := by
  have hdlv : ((((s.put (IRQC.SEL 0) 0).setStack 0 (setBit (s.stack 0) v)).bump IRQ_CNT.DLV)).rd IRQ_CNT.DLV =
      s.oneMore IRQ_CNT.DLV := by
    rw [rd_bump_same, State.oneMore, put_sel_stack_rd (.inl rfl), State.oneMore]
  unfold State.committed
  cases (s.eligLevels 0).contains v
  · exact (rd_bump_ne (by decide)).trans hdlv
  · exact hdlv

theorem committed_dam : (s.committed v).rd IRQ_CNT.DAM =
    if (s.eligLevels 0).contains v then s.rd IRQ_CNT.DAM else s.oneMore IRQ_CNT.DAM := by
  have hdam : ((((s.put (IRQC.SEL 0) 0).setStack 0 (setBit (s.stack 0) v)).bump IRQ_CNT.DLV)).rd IRQ_CNT.DAM =
      s.rd IRQ_CNT.DAM := by rw [rd_bump_ne (by decide), put_sel_stack_rd (.inr rfl)]
  unfold State.committed
  cases (s.eligLevels 0).contains v
  · simp only [Bool.not_false, when_true, rd_bump_same, State.oneMore, hdam]
    rfl
  · exact hdam

theorem committed_ch : (s.committed v).ch = s.ch := by
  unfold State.committed
  cases (s.eligLevels 0).contains v <;> simp [State.bump, State.addSat]

theorem committed_flow : (s.committed v).flow = s.flow := by
  unfold State.committed
  cases (s.eligLevels 0).contains v <;> simp [State.bump, State.addSat]

theorem committed_out : (s.committed v).out = s.out := by
  unfold State.committed
  cases (s.eligLevels 0).contains v <;> simp [State.bump, State.addSat]

/-- Fields of the host's selection, stack and counters. -/
def commitFields : List Field :=
  [IRQC.SEL 0, IRQ_HSTK.LEVELS, IRQ_HSTK.DEPTH, IRQ_HSTK.TOP, IRQ_CNT.DLV, IRQ_CNT.DAM]

theorem committed_sameFields {l : List Field} (hl : ∀ f ∈ commitFields, f ∈ l) : SameFields l s (s.committed v) := by
  refine sameFields_when_fn (sameFields_put_of (setStack_sameFields (sameFields_put_of (.refl _ s) ?_) ?_) ?_)
    (fun u hu => sameFields_put_of hu ?_)
  · exact hl _ (by simp [commitFields])
  · intro f hf
    exact hl f (by simp only [if_true, commitFields, List.mem_cons, List.not_mem_nil, or_false] at hf ⊢; tauto)
  · exact hl _ (by simp [commitFields])
  · exact hl _ (by simp [commitFields])

theorem sendMsix_of_sent (hen : s.on MGTC.MSIX_EN = true) (hf : s.on MGTC.FMASK = false) (hm : s.on (MSIX.MASK v) = false)
    (hp : s.portSends = true) : s.sendMsix v = s.emit (.msix v) := by
  simp [State.sendMsix, hen, hf, hm, hp]

theorem sendMsix_of_held (hen : s.on MGTC.MSIX_EN = true) (hm : s.on MGTC.FMASK = true ∨ s.on (MSIX.MASK v) = true) :
    s.sendMsix v = s.put (MSIX.PEND v) 1 := by
  have hheld : (s.on MGTC.FMASK || s.on (MSIX.MASK v)) = true := by simpa using hm
  simp [State.sendMsix, hen, hheld]

theorem committed_portSends : (s.committed v).portSends = s.portSends := by
  unfold State.portSends
  rw [committed_on (.inr (by decide)) (by decide), committed_rd (.inr (by decide)) (by decide),
    committed_on (.inr (by decide)) (by decide)]

theorem committed_msixMask (hv : v < 16) : (s.committed v).on (MSIX.MASK v) = s.on (MSIX.MASK v) :=
  committed_on (out_of (by omega)) (key_ne_of_gt (by omega))

theorem stack_lt {t : Nat} : s.stack t < 2 ^ 16 := by
  unfold State.stack
  split
  · exact rd_lt s _
  · exact Nat.mod_lt _ (by decide)

theorem fieldsAt_irqEoi : s.fieldsAt 0x30018 = [⟨IRQ_EOI.EOI, .wo, .live, 2, .any⟩] :=
  fieldsAt_of_plain (r := ⟨0x30018, [], 1, .plain, [⟨IRQ_EOI.EOI, .wo, .live, 2, .any⟩]⟩) (d := 0) (by decide) rfl (by decide)

/-- Any admitted write of IRQ_EOI pops the host's stack, or shows that there is nothing on it. -/
theorem exec_irqEoi {win : Fin 7} {value : Word} {t : State} (hopen : s.writeOpen win 2)
    (ht : (if s.stack 0 = 0 then s.put IRQ_STAT.EOI_UNDER 1 else s.popStack 0) = t) :
    exec (.irqEoi win value 15) s = .next t :=
  congrArg Host.Outcome.next (hostWrite_of_commands (f := ⟨IRQ_EOI.EOI, .wo, .live, 2, .any⟩) hopen rfl (by decide)
    fieldsAt_irqEoi (List.mem_singleton.2 rfl) (by simp [CommandsOf]) (fun _ _ => rfl) (by simp only [ht]))

/-! ## The controller's fault (R374) -/

/-- The controller's fault shows; its event sets where it did not show before. -/
def State.irqFaulted (s : State) : State :=
  (s.put IRQ_STAT.FAULT 1).when (!s.on IRQ_STAT.FAULT) (·.put IRQ_STAT.FAULT_EV 1)

/-- The selections of the four targets. -/
def selFields : List Field := [IRQC.SEL 0, IRQC.SEL 1, IRQC.SEL 2, IRQC.SEL 3]

theorem exec_interruptControllerFault : exec .interruptControllerFault s = .next (s.irqFaulted.clear selFields) := rfl

theorem faulted_rd {f : Field} (h : ∀ g ∈ selFields, g.key ≠ f.key) :
    (s.irqFaulted.clear selFields).rd f = s.irqFaulted.rd f :=
  sameFields_clear (.refl _ _) (fun _ hg => hg) f h

theorem faulted_sel (k : Fin 4) : (s.irqFaulted.clear selFields).rd (IRQC.SEL k) = 0 := by
  simp only [State.clear, selFields, State.each, List.foldl_cons, List.foldl_nil]
  match k with
  | 0 =>
    refine (rd_put_ne (by decide)).trans ((rd_put_ne (by decide)).trans ((rd_put_ne (by decide)).trans (rd_put_same ..)))
  | 1 => exact (rd_put_ne (by decide)).trans ((rd_put_ne (by decide)).trans (rd_put_same ..))
  | 2 => exact (rd_put_ne (by decide)).trans (rd_put_same ..)
  | 3 => exact rd_put_same ..

theorem irqFaulted_fault : s.irqFaulted.rd IRQ_STAT.FAULT = 1 := by
  unfold State.irqFaulted
  cases s.on IRQ_STAT.FAULT
  · exact (rd_put_ne (g := IRQ_STAT.FAULT_EV) (by decide)).trans (rd_put_same ..)
  · exact rd_put_same ..

theorem irqFaulted_event : s.irqFaulted.rd IRQ_STAT.FAULT_EV = if s.on IRQ_STAT.FAULT then s.rd IRQ_STAT.FAULT_EV else 1 := by
  unfold State.irqFaulted
  cases s.on IRQ_STAT.FAULT
  · exact rd_put_same ..
  · exact rd_put_ne (g := IRQ_STAT.FAULT) (by decide)

theorem faulted_sameArea (x : Area) : SameArea s (s.irqFaulted.clear selFields) x := by
  refine SameArea.trans (t := s.irqFaulted) ?_ (each_sameArea fun f t => ?_)
  · exact (kept_when (A := fun _ => False) (kept_put _ _ (.refl s)) fun _ hu => kept_put _ _ hu).same x id
  · exact (kept_put (A := fun _ => False) _ _ (.refl t)).same x id

end

/-! ## The obligation -/

/-- Settles O46: each command of the interrupt controller, as R366 to R374 take it. -/
theorem interruptWordsAndDelivery : Obligations.InterruptWordsAndDelivery := by
  refine ⟨?pendSet, ?pendClear, ?maskSet, ?maskClear, ?selected, ?unselected, ?committed, ?held, ?supervisor, ?eoi, ?under,
    ?fault⟩
  case pendSet =>
    intro s win k value hopen
    refine ⟨_, congrArg Host.Outcome.next (hostWrite_irqWord hopen (by decide) (findReg_irqPendSet k)), ?_, ?_, ?_, ?_⟩
    · intro N hN
      refine (irqPend_each (v := 1) (allSources_lt N hN) (by decide) fun M t => ⟨_, rfl⟩).trans ?_
      simp only [mem_wordSources hN]
    · exact each_sameArea (x := .ch) fun _ _ => rfl
    · exact each_sameArea (x := .flow) fun _ _ => rfl
    · refine sameFields_each (.refl _ s) fun N hN u hu => sameFields_put_of (sameFields_put_of hu ?_) ?_
      all_goals exact List.mem_flatMap.2 ⟨N, hN, by simp⟩
  case pendClear =>
    intro s win k value hopen
    refine ⟨_, congrArg Host.Outcome.next (hostWrite_irqWord hopen (by decide) (findReg_irqPendClear k)), ?_, ?_, ?_, ?_⟩
    · intro N hN
      refine (irqPend_each (v := 0) (allSources_lt N hN) (by decide) fun M t => ⟨_, rfl⟩).trans ?_
      simp only [mem_wordSources hN]
    · exact each_sameArea (x := .ch) fun _ _ => rfl
    · exact each_sameArea (x := .flow) fun _ _ => rfl
    · refine sameFields_each (.refl _ s) fun N hN u hu => sameFields_put_of (sameFields_put_of hu ?_) ?_
      all_goals exact List.mem_flatMap.2 ⟨N, hN, by simp⟩
  case maskSet =>
    intro s win k value hopen
    refine ⟨_, congrArg Host.Outcome.next (hostWrite_irqWord hopen (by decide) (findReg_irqMaskSet k)), ?_, ?_, ?_, ?_⟩
    · intro N hN
      rw [irqMask_each (by decide)]
      simp only [mem_wordSources hN]
    · exact each_sameArea (x := .ch) fun _ _ => rfl
    · exact each_sameArea (x := .flow) fun _ _ => rfl
    · exact sameFields_each (.refl _ s) fun N hN u hu => sameFields_put_of hu (List.mem_map_of_mem hN)
  case maskClear =>
    intro s win k value hopen
    refine ⟨_, congrArg Host.Outcome.next (hostWrite_irqWord hopen (by decide) (findReg_irqMaskClear k)), ?_, ?_, ?_, ?_⟩
    · intro N hN
      rw [irqMask_each (by decide)]
      simp only [mem_wordSources hN]
    · exact each_sameArea (x := .ch) fun _ _ => rfl
    · exact each_sameArea (x := .flow) fun _ _ => rfl
    · exact sameFields_each (.refl _ s) fun N hN u hu => sameFields_put_of hu (List.mem_map_of_mem hN)
  case selected =>
    intro s target d htakes hfault hsel hrun hin hall
    have hpos : 0 < d := by omega
    have hmem : d - 1 ∈ s.eligLevels target := List.contains_iff_mem.1 hin
    have hlt := eligLevel_lt hmem
    refine ⟨s.put (IRQC.SEL target) d, ?_, ?_, ?_, ?_, ?_, ?_⟩
    · rw [exec_interruptSelection, levelTop_of_highest hpos hmem hall, htakes, hfault]
      simp [hsel, hrun]
    · exact (rd_put_same ..).trans (Nat.mod_eq_of_lt (a := d) (b := 2 ^ 5) (by omega))
    · rfl
    · rfl
    · rfl
    · exact sameFields_put _ _ _
  case unselected =>
    intro s target hall
    refine ⟨s, ?_, rfl⟩
    have hle : ¬ s.running target < levelTop (s.eligLevels target) 0 := Nat.not_lt.2 (levelTop_le (Nat.zero_le _) hall)
    rw [exec_interruptSelection]
    simp [hle]
  case committed =>
    intro s v hsel hv hfault hen hfmask hmask hsends
    have hexec := exec_interruptCommit_host hsel hfault
    rw [sendMsix_of_sent ((committed_on (.inr (by decide)) (by decide)).trans hen)
      ((committed_on (.inr (by decide)) (by decide)).trans hfmask) ((committed_msixMask hv).trans hmask)
      (committed_portSends.trans hsends)] at hexec
    refine ⟨_, hexec, committed_stack hv, committed_depth, committed_dlv, committed_dam, committed_sel, ?_, committed_ch,
      committed_flow, ?_⟩
    · rw [emit_out, committed_out]
    · exact sameFields_of_regs (committed_sameFields fun _ h => h) rfl
  case held =>
    intro s v hsel hv hfault hen hheld
    have hexec := exec_interruptCommit_host hsel hfault
    have hheld' : (s.committed v).on MGTC.FMASK = true ∨ (s.committed v).on (MSIX.MASK v) = true := by
      rwa [committed_msixMask hv, committed_on (.inr (by decide)) (by decide)]
    rw [sendMsix_of_held ((committed_on (.inr (by decide)) (by decide)).trans hen) hheld'] at hexec
    have hput : ∀ f : Field, f.key < 8 * 0x50000000 → ((s.committed v).put (MSIX.PEND v) 1).rd f = (s.committed v).rd f :=
      fun f hf => rd_put_ne (Nat.ne_of_lt (by simp only [Field.key, MSIX.PEND] at hf ⊢; omega))
    refine ⟨_, hexec, ?_, (hput _ (by decide)).trans committed_depth, (hput _ (by decide)).trans committed_dlv,
      (hput _ (by decide)).trans committed_dam, (hput _ (by decide)).trans committed_sel, rd_put_same .., committed_out,
      committed_ch, committed_flow, ?_⟩
    · rw [← committed_stack hv]
      simp only [State.stack, if_true]
      exact hput _ (by decide)
    · exact sameFields_put_of (committed_sameFields (by simp [commitFields])) (by simp)
  case supervisor =>
    intro s target v ht hsel hv hfault htakes
    refine ⟨_, exec_interruptCommit_supervisor ht hsel hfault htakes, ?_, ?_, ?_, ?_, ?_, ?_⟩
    · exact setStack_stack (setBit_lt stack_lt hv) target.isLt
    · refine (setStack_rd_out target.isLt (out_of (by omega))).trans (rd_put_same ..)
    · simp
    · simp
    · simp
    · have ht0 : target.val ≠ 0 := fun h => ht (Fin.ext h)
      refine setStack_sameFields (sameFields_put_of (.refl _ s) (by simp)) ?_
      rw [if_neg ht0]
      simp
  case eoi =>
    intro s win value hopen hne
    refine ⟨s.popStack 0, ?_, ?_, ?_, ?_, ?_⟩
    · exact exec_irqEoi hopen (by rw [if_neg hne])
    · exact setStack_stack (Nat.lt_of_le_of_lt (clrBit_le ..) stack_lt) (by decide)
    · exact setStack_ch
    · exact setStack_flow
    · exact setStack_sameFields (.refl _ s) (by simp)
  case under =>
    intro s win value hopen h0
    refine ⟨s.put IRQ_STAT.EOI_UNDER 1, ?_, rd_put_same .., rfl, rfl, sameFields_put _ _ _⟩
    exact exec_irqEoi hopen (by rw [if_pos h0])
  case fault =>
    intro s
    refine ⟨_, exec_interruptControllerFault, ?_, ?_, ?_, ?_, ?_, ?_⟩
    · exact (faulted_rd (by decide)).trans irqFaulted_fault
    · exact (faulted_rd (by decide)).trans irqFaulted_event
    · exact faulted_sel
    · exact faulted_sameArea .ch
    · exact faulted_sameArea .flow
    · refine sameFields_clear (sameFields_when_fn (sameFields_put_of (.refl _ s) ?_) fun u hu => sameFields_put_of hu ?_) ?_
      all_goals simp [selFields]

end Sys2Proof.Machine
end

section
/-! SUPPORT. Device reads and queue faults: what they set and leave alone (R428, R433, Table 19.4). -/

set_option Elab.async false

namespace Sys2Proof.Machine

theorem each_cons {α : Type} {s : State} (x : α) (l : List α) (f : α → State → State) :
    s.each (x :: l) f = (f x s).each l f := rfl

/-! ## The pool of device reads -/

section
variable {l : List Field} {src pmc : List Nat} {s t : State} {c : Nat}

theorem dmaNext_lt (h : s.dmaNext = some c) : c < 7 := by
  unfold State.dmaNext at h
  split at h
  · obtain ⟨i, -, rfl⟩ := List.mem_map.1 (List.mem_of_find?_eq_some h)
    exact Nat.mod_lt _ (by decide)
  · cases h

theorem poolFields_client {c : Nat} (hc : c < 7) : DMAC.OUT c ∈ poolFields ∧ DMAC.NEED c ∈ poolFields := by
  have hmem : ∀ f ∈ [DMAC.OUT c, DMAC.NEED c], f ∈ poolFields := fun f hf =>
    List.mem_cons_of_mem _ (List.mem_cons_of_mem _ (List.mem_flatMap.2 ⟨c, List.mem_range.2 hc, hf⟩))
  exact ⟨hmem _ (by simp), hmem _ (by simp)⟩

theorem fieldsKept_dmaIssueLoop {k : Nat} (h : FieldsKept l src pmc s t) (hl : ∀ f ∈ poolFields, f ∈ l) (hp : 4 ∈ pmc) :
    FieldsKept l src pmc s (t.dmaIssueLoop k) := by
  induction k generalizing t with
  | zero => exact h
  | succ k ih =>
    unfold State.dmaIssueLoop
    split
    · exact h
    · rename_i c hc
      have ⟨hout, hneed⟩ := poolFields_client (dmaNext_lt hc)
      refine ih (fieldsKept_count (fieldsKept_put_of (fieldsKept_put_of (fieldsKept_put_of h ?_) ?_) ?_) hp)
      · exact hl _ hneed
      · exact hl _ hout
      · exact hl _ (by simp [poolFields])

theorem fieldsKept_dmaIssue (h : FieldsKept l src pmc s t) (hl : ∀ f ∈ poolFields, f ∈ l) (hp : 4 ∈ pmc) :
    FieldsKept l src pmc s t.dmaIssue :=
  fieldsKept_put_of (fieldsKept_dmaIssueLoop h hl hp) (hl _ (by simp [poolFields]))

theorem fieldsKept_dmaNeed {b : Nat} (hc : c < 7) (h : FieldsKept l src pmc s t) (hl : ∀ f ∈ poolFields, f ∈ l)
    (hp : 4 ∈ pmc) : FieldsKept l src pmc s (t.dmaNeed c b) := by
  have ⟨hout, hneed⟩ := poolFields_client hc
  exact fieldsKept_dmaIssue (fieldsKept_put_of (fieldsKept_put_of h (hl _ hneed)) (hl _ hout)) hl hp

theorem fieldsKept_dmaGot (hc : c < 7) (h : FieldsKept l src pmc s t) (hl : ∀ f ∈ poolFields, f ∈ l) (hp : 4 ∈ pmc) :
    FieldsKept l src pmc s (t.dmaGot c) := fieldsKept_dmaNeed hc h hl hp

theorem poolFields_keys : ∀ g ∈ poolFields, 8 * 0x90054 ≤ g.key ∧ g.key < 8 * 0x90058 ∨
    8 * 0x22100000 ≤ g.key ∧ g.key < 8 * 0x22100100 := by decide

/-- The pool's registers and cells are the only ones that device reads reach. -/
theorem dmaIssue_rd {f : Field} (hq : QuietKey f.key) (hreg : KeyOut 0x90054 0x90058 f.key)
    (hcell : KeyOut 0x22100000 0x22100100 f.key) : s.dmaIssue.rd f = s.rd f := by
  refine fieldsKept_dmaIssue (l := poolFields) (src := []) (pmc := [4]) (.refl _ _ _ s) (fun _ h => h) (by simp) f
    (not_noticeKey_of_quiet (by simp) (by simp) hq) fun g hg => ?_
  obtain ⟨hlo, hhi⟩ | ⟨hlo, hhi⟩ := poolFields_keys g hg
  · exact (key_ne_of_out hreg hlo hhi).symm
  · exact (key_ne_of_out hcell hlo hhi).symm

theorem dmaGot_rd {f : Field} (hc : c < 7) (hq : QuietKey f.key) (hreg : KeyOut 0x90054 0x90058 f.key)
    (hcell : KeyOut 0x22100000 0x22100100 f.key) : (s.dmaGot c).rd f = s.rd f := by
  refine fieldsKept_dmaGot (l := poolFields) (src := []) (pmc := [4]) hc (.refl _ _ _ s) (fun _ h => h) (by simp) f
    (not_noticeKey_of_quiet (by simp) (by simp) hq) fun g hg => ?_
  obtain ⟨hlo, hhi⟩ | ⟨hlo, hhi⟩ := poolFields_keys g hg
  · exact (key_ne_of_out hreg hlo hhi).symm
  · exact (key_ne_of_out hcell hlo hhi).symm

theorem dmaGot_pend {N : Nat} (hc : c < 7) (hN : N < 2048) (h : N ∉ overflowSources 4) :
    (s.dmaGot c).rd (IRQ_PEND N) = s.rd (IRQ_PEND N) := by
  refine fieldsKept_dmaGot (l := poolFields) (src := []) (pmc := [4]) hc (.refl _ _ _ s) (fun _ h => h) (by simp) _
    (not_noticeKey_pend (by simp) (by simp) hN (by simpa using h)) fun g hg => ?_
  have hk := poolFields_keys g hg
  simp only [Field.key, IRQ_PEND] at hk ⊢
  omega

end

/-! ## Faults of a queue -/

section
variable {l : List Field} {src pmc : List Nat} {s t : State} {q : Fin 4} {cause : Nat}

/-- Fields that a fault of queue q sets. -/
def faultFields (q : Nat) : List Field :=
  [MGT_DQ_STAT.STATE q, MGT_DQ_STAT.FAULT_EV q, MGT_DQ_STAT.CAUSE q, MGT_DQ_CNT.FAULTS q] ++
    (List.range 256).map (fun i => descWord q i 0x18)

theorem faultFields_sub : ∀ f ∈ faultFields q, f ∈ queueFields q := by
  intro f hf
  simp only [faultFields, queueFields, List.mem_append, List.mem_cons, List.not_mem_nil, or_false] at hf ⊢
  tauto

theorem fieldsKept_dmaRecord {d : Bool} (h : FieldsKept l src pmc s t) (hl : ∀ f ∈ faultFields q, f ∈ l) :
    FieldsKept l src pmc s (t.dmaRecord q d) := by
  have hdesc : t.rd (MGT_DQ_STAT.DESC q) < 256 := rd_lt t _
  refine fieldsKept_when_fn (fieldsKept_put_of h (hl _ ?_)) fun u hu => fieldsKept_of_regs hu rfl
  exact List.mem_append_right _ (List.mem_map_of_mem (f := fun i => descWord q i 0x18) (List.mem_range.2 hdesc))

theorem fieldsKept_dmaFault (h : FieldsKept l src pmc s t) (hf : ∀ f ∈ faultFields q, f ∈ l) (hl : ∀ f ∈ poolFields, f ∈ l)
    (hs : 129 ∈ src) (hp : 4 ∈ pmc) : FieldsKept l src pmc s (t.dmaFault q cause) := by
  unfold State.dmaFault
  refine fieldsKept_dmaGot (by omega) (fieldsKept_raise (fieldsKept_put_of (fieldsKept_bump_of (fieldsKept_dmaRecord
    (fieldsKept_put_of (fieldsKept_put_of h ?_) ?_) hf) ?_) ?_) (noticed_of_mem hs)) hl hp
  all_goals exact hf _ (by simp [faultFields])

theorem fieldsKept_dmaFaultAll (h : FieldsKept l src pmc s t) (hf : ∀ q : Fin 4, ∀ f ∈ faultFields q, f ∈ l)
    (hl : ∀ f ∈ poolFields, f ∈ l) (hs : 129 ∈ src) (hp : 4 ∈ pmc) : FieldsKept l src pmc s (t.dmaFaultAll cause) := by
  refine fieldsKept_each h fun q hq u hu => fieldsKept_when_fn hu fun v hv => ?_
  have hlt : q < 4 := by simp at hq; omega
  exact fieldsKept_dmaFault (q := ⟨q, hlt⟩) hv (hf _) hl hs hp

theorem descWord_ge (q i off : Nat) : 8 * 0x50010000 ≤ (descWord q i off).key :=
  Nat.mul_le_mul_left 8 (by unfold descWord tableWord; dsimp only; omega)

theorem dmaRecord_rd {d : Bool} {f : Field} (h : f.key < 8 * 0x50010000) : (s.dmaRecord q d).rd f = s.rd f := by
  have hput : ∀ i v, (s.put (descWord q i 0x18) v).rd f = s.rd f := fun i v =>
    rd_put_ne (Nat.ne_of_lt (Nat.lt_of_lt_of_le h (descWord_ge q i 0x18)))
  simp only [State.dmaRecord]
  unfold State.when
  split
  · rw [emit_rd, hput]
  · exact hput _ _

theorem dmaFault_state : (s.dmaFault q cause).rd (MGT_DQ_STAT.STATE q) = 2 := by
  unfold State.dmaFault
  refine (dmaGot_rd (by omega) (quiet_of (by omega)) (out_of (by omega)) (out_of (by omega))).trans ?_
  refine (rd_raise_quiet (by decide) (quiet_of (by omega))).trans ?_
  refine (rd_put_ne (key_ne_of_gt (by omega))).trans ((rd_bump_ne (key_ne_of_lt (by omega))).trans ?_)
  refine (dmaRecord_rd (by simp only [Field.key]; omega)).trans ((rd_put_ne (key_ne_of_gt (by omega))).trans ?_)
  exact rd_put_same ..

theorem dmaFault_cause (hc : cause < 16) : (s.dmaFault q cause).rd (MGT_DQ_STAT.CAUSE q) = cause := by
  unfold State.dmaFault
  refine (dmaGot_rd (by omega) (quiet_of (by omega)) (out_of (by omega)) (out_of (by omega))).trans ?_
  refine (rd_raise_quiet (by decide) (quiet_of (by omega))).trans ?_
  refine (rd_put_ne (key_ne_of (by omega))).trans ((rd_bump_ne (key_ne_of (by omega))).trans ?_)
  refine (dmaRecord_rd (by simp only [Field.key]; omega)).trans ?_
  exact (rd_put_same ..).trans (Nat.mod_eq_of_lt hc)

theorem dmaFault_pend : (s.dmaFault q cause).rd (IRQ_PEND 129) = 1 := by
  unfold State.dmaFault
  exact (dmaGot_pend (by omega) (by decide) (by decide)).trans (raise_pend (by decide))

theorem faultFields_keys : ∀ g ∈ faultFields q, 8 * (0x90110 + 0x20 * q) ≤ g.key ∧ g.key < 8 * (0x90118 + 0x20 * q) ∨
    8 * 0x50010000 ≤ g.key ∧ g.key < 8 * 0x50018000 := by
  intro g hg
  simp only [faultFields, List.mem_append, List.mem_cons, List.not_mem_nil, or_false, List.mem_map, List.mem_range] at hg
  obtain (rfl | rfl | rfl | rfl) | ⟨i, hi, rfl⟩ := hg
  · left; simp only [Field.key, MGT_DQ_STAT.STATE]; omega
  · left; simp only [Field.key, MGT_DQ_STAT.FAULT_EV]; omega
  · left; simp only [Field.key, MGT_DQ_STAT.CAUSE]; omega
  · left; simp only [Field.key, MGT_DQ_CNT.FAULTS]; omega
  · right; simp only [Field.key, descWord, tableWord]; omega

/-- A fault of a queue reaches its own registers, its ring and the pool. -/
theorem dmaFault_rd {f : Field} (hq : QuietKey f.key) (hreg : KeyOut 0x90054 0x90058 f.key)
    (hcell : KeyOut 0x22100000 0x22100100 f.key) (hown : KeyOut (0x90110 + 0x20 * q) (0x90118 + 0x20 * q) f.key)
    (hring : KeyOut 0x50010000 0x50018000 f.key) : (s.dmaFault q cause).rd f = s.rd f := by
  refine fieldsKept_dmaFault (l := faultFields q ++ poolFields) (src := [129]) (pmc := [4]) (.refl _ _ _ s) (by simp +contextual)
    (by simp +contextual) (by simp) (by simp) f (not_noticeKey_of_quiet (by simp) (by simp) hq) fun g hg => ?_
  rcases List.mem_append.1 hg with hg | hg
  · obtain ⟨hlo, hhi⟩ | ⟨hlo, hhi⟩ := faultFields_keys g hg
    · exact (key_ne_of_out hown hlo hhi).symm
    · exact (key_ne_of_out hring hlo hhi).symm
  · obtain ⟨hlo, hhi⟩ | ⟨hlo, hhi⟩ := poolFields_keys g hg
    · exact (key_ne_of_out hreg hlo hhi).symm
    · exact (key_ne_of_out hcell hlo hhi).symm

/-- A fault of a queue other than q, as far as q is concerned. -/
theorem dmaFault_state_other {p : Fin 4} (h : p ≠ q) :
    (s.dmaFault p cause).rd (MGT_DQ_STAT.STATE q) = s.rd (MGT_DQ_STAT.STATE q) := by
  have hne : p.val ≠ q.val := fun e => h (Fin.ext e)
  exact dmaFault_rd (quiet_of (by omega)) (out_of (by omega)) (out_of (by omega)) (out_of (by omega)) (out_of (by omega))

theorem dmaFault_cause_other {p : Fin 4} (h : p ≠ q) :
    (s.dmaFault p cause).rd (MGT_DQ_STAT.CAUSE q) = s.rd (MGT_DQ_STAT.CAUSE q) := by
  have hne : p.val ≠ q.val := fun e => h (Fin.ext e)
  exact dmaFault_rd (quiet_of (by omega)) (out_of (by omega)) (out_of (by omega)) (out_of (by omega)) (out_of (by omega))

/-- The state and cause of a queue once the queues of a list that run have faulted. -/
theorem dmaFaults_of_running {ps : List (Fin 4)} (hc : cause < 16) (hin : q ∈ ps ∧ s.rd (MGT_DQ_STAT.STATE q) = 1 ∨
    s.rd (MGT_DQ_STAT.STATE q) = 2 ∧ s.rd (MGT_DQ_STAT.CAUSE q) = cause) :
    (s.each ps (fun p t => t.when (t.dmaRuns p) (·.dmaFault p cause))).rd (MGT_DQ_STAT.STATE q) = 2 ∧
    (s.each ps (fun p t => t.when (t.dmaRuns p) (·.dmaFault p cause))).rd (MGT_DQ_STAT.CAUSE q) = cause := by
  induction ps generalizing s with
  | nil => exact hin.elim (fun h => absurd h.1 (by simp)) id
  | cons p ps ih =>
    rw [each_cons]
    refine ih ?_
    cases hrun : s.dmaRuns p
    · rw [when_false]
      refine hin.imp_left fun ⟨hmem, hone⟩ => ⟨?_, hone⟩
      obtain rfl | hmem := List.mem_cons.1 hmem
      · simp [State.dmaRuns, hone] at hrun
      · exact hmem
    · rw [when_true]
      by_cases hp : p = q
      · subst hp
        exact .inr ⟨dmaFault_state, dmaFault_cause hc⟩
      · rw [dmaFault_state_other hp, dmaFault_cause_other hp]
        exact hin.imp_left fun ⟨hmem, hone⟩ => ⟨(List.mem_cons.1 hmem).resolve_left fun e => hp e.symm, hone⟩

theorem dmaFaultAll_of_running (hc : cause < 16) (hrun : s.rd (MGT_DQ_STAT.STATE q) = 1) :
    (s.dmaFaultAll cause).rd (MGT_DQ_STAT.STATE q) = 2 ∧ (s.dmaFaultAll cause).rd (MGT_DQ_STAT.CAUSE q) = cause := by
  have hall : s.dmaFaultAll cause =
      s.each ([0, 1, 2, 3] : List (Fin 4)) (fun p t => t.when (t.dmaRuns p) (·.dmaFault p cause)) := rfl
  rw [hall]
  exact dmaFaults_of_running hc (.inl ⟨by fin_cases q <;> simp, hrun⟩)

theorem dmaFaults_pend {ps : List (Fin 4)} (hin : q ∈ ps ∧ s.rd (MGT_DQ_STAT.STATE q) = 1 ∨ s.rd (IRQ_PEND 129) = 1) :
    (s.each ps (fun p t => t.when (t.dmaRuns p) (·.dmaFault p cause))).rd (IRQ_PEND 129) = 1 := by
  induction ps generalizing s with
  | nil => exact hin.elim (fun h => absurd h.1 (by simp)) id
  | cons p ps ih =>
    rw [each_cons]
    refine ih ?_
    cases hrun : s.dmaRuns p
    · rw [when_false]
      refine hin.imp_left fun ⟨hmem, hone⟩ => ⟨?_, hone⟩
      obtain rfl | hmem := List.mem_cons.1 hmem
      · simp [State.dmaRuns, hone] at hrun
      · exact hmem
    · exact .inr dmaFault_pend

theorem dmaFaultAll_pend (hrun : s.rd (MGT_DQ_STAT.STATE q) = 1) : (s.dmaFaultAll cause).rd (IRQ_PEND 129) = 1 := by
  have hall : s.dmaFaultAll cause =
      s.each ([0, 1, 2, 3] : List (Fin 4)) (fun p t => t.when (t.dmaRuns p) (·.dmaFault p cause)) := rfl
  rw [hall]
  exact dmaFaults_pend (.inl ⟨by fin_cases q <;> simp, hrun⟩)

/-- Faults of the queues reach their registers, their rings and the pool. -/
theorem dmaFaultAll_rd {f : Field} (hq : QuietKey f.key) (hreg : KeyOut 0x90054 0x90058 f.key)
    (hcell : KeyOut 0x22100000 0x22100100 f.key) (hown : ∀ q : Fin 4, KeyOut (0x90110 + 0x20 * q) (0x90118 + 0x20 * q) f.key)
    (hring : KeyOut 0x50010000 0x50018000 f.key) : (s.dmaFaultAll cause).rd f = s.rd f := by
  have hall : s.dmaFaultAll cause =
      s.each ([0, 1, 2, 3] : List (Fin 4)) (fun p t => t.when (t.dmaRuns p) (·.dmaFault p cause)) := rfl
  rw [hall]
  clear hall
  generalize ([0, 1, 2, 3] : List (Fin 4)) = ps
  induction ps generalizing s with
  | nil => rfl
  | cons p ps ih =>
    rw [each_cons, ih]
    cases s.dmaRuns p
    · rw [when_false]
    · rw [when_true]
      exact dmaFault_rd hq hreg hcell (hown p) hring

end

end Sys2Proof.Machine
end
section
/-! PCI Express resets and configuration writes (R422, R428, R434, Table 19.9). -/

namespace Sys2Proof.Machine

section
variable {s t : State}

/-- A table that a command has no part in stays as it is. -/
theorem exec_sameArea {c : Instr} (h : exec c s = .next t) (x : Area) (hx : x ∉ areasOf c) : SameArea s t x :=
  commandsTouchOnlyTheirTables c s t h x hx

theorem exec_ch {c : Instr} (h : exec c s = .next t) (hx : .ch ∉ areasOf c) : t.ch = s.ch := exec_sameArea h .ch hx

theorem exec_flow {c : Instr} (h : exec c s = .next t) (hx : .flow ∉ areasOf c) : t.flow = s.flow :=
  exec_sameArea h .flow hx

/-! ## Device reads given up -/

theorem dmaAbort_out (d : Fin 7) : s.dmaAbort.rd (DMAC.OUT d) = 0 := by
  have heach := each_put_rd (s := s) (l := List.range 7) (f := fun c t => (t.put (DMAC.OUT c) 0).put (DMAC.NEED c) 0)
    (g := DMAC.OUT) (N := d) (v := 0) (fun t => ?_) (fun M hin hM t => ?_)
  · refine (rd_put_ne (key_ne_of_gt (by omega))).trans (heach.trans ?_)
    rw [if_pos (List.mem_range.2 d.isLt)]
  · exact (rd_put_ne (key_ne_of_lt (by omega))).trans (rd_put_same ..)
  · have hlt := List.mem_range.1 hin
    exact (rd_put_ne (key_ne_of_lt (by omega))).trans (rd_put_ne (key_ne_of (by omega)))

theorem dmaAbort_fieldsKept {l : List Field} {src pmc : List Nat} (h : FieldsKept l src pmc s t)
    (hl : ∀ f ∈ poolFields, f ∈ l) : FieldsKept l src pmc s t.dmaAbort := by
  refine fieldsKept_put_of (fieldsKept_each h fun c hc u hu => ?_) (hl _ (by simp [poolFields]))
  have ⟨hout, hneed⟩ := poolFields_client (List.mem_range.1 hc)
  exact fieldsKept_put_of (fieldsKept_put_of hu (hl _ hout)) (hl _ hneed)

theorem dmaAbort_rd {f : Field} (h : ∀ g ∈ poolFields, g.key ≠ f.key) : s.dmaAbort.rd f = s.rd f := by
  have hkept : SameFields poolFields s s.dmaAbort := by
    refine sameFields_put_of (sameFields_each (.refl _ s) fun c hc u hu => ?_) (by simp [poolFields])
    have ⟨hout, hneed⟩ := poolFields_client (List.mem_range.1 hc)
    exact sameFields_put_of (sameFields_put_of hu hout) hneed
  exact hkept f h

/-! ## Configuration space and the MSI-X table at reset -/

/-- Fields of configuration space that a PCI Express reset returns to their reset values. -/
def configFields : List Field :=
  [MGT_STAT.BME, MGT_STAT.DSTATE, MGTC.MSIX_EN, MGTC.FMASK, MGTC.MRRS, MGTC.RELAX, MGTC.TIMEOUT]

/-- Fields of entry v of the MSI-X table. -/
def msixFields (v : Nat) : List Field := [MSIX.ADDR_LO v, MSIX.ADDR_HI v, MSIX.DATA v, MSIX.PEND v, MSIX.MASK v]

/-- Entry v of the MSI-X table returns to reset. -/
def State.msixReset (v : Nat) (s : State) : State :=
  s.clear [MSIX.ADDR_LO v, MSIX.ADDR_HI v, MSIX.DATA v, MSIX.PEND v] |>.put (MSIX.MASK v) 1

/-- Configuration space returns to reset. -/
def State.configCleared (s : State) : State :=
  s.clear [MGT_STAT.BME, MGT_STAT.DSTATE, MGTC.MSIX_EN, MGTC.FMASK] |>.put MGTC.MRRS 2 |>.put MGTC.RELAX 1
    |>.put MGTC.TIMEOUT 50000

theorem configReset_eq : s.configReset = s.configCleared.each (List.range 64) State.msixReset := rfl

theorem configCleared_bme : s.configCleared.rd MGT_STAT.BME = 0 := by
  simp only [State.configCleared, State.clear, State.each, List.foldl_cons, List.foldl_nil]
  iterate 6 refine (rd_put_ne (by decide)).trans ?_
  exact rd_put_same ..

theorem msixReset_sameFields {l : List Field} {v : Nat} (h : SameFields l s t) (hl : ∀ f ∈ msixFields v, f ∈ l) :
    SameFields l s (t.msixReset v) := by
  refine sameFields_put_of (sameFields_clear h fun f hf => hl f ?_) (hl _ (by simp [msixFields]))
  simp only [msixFields, List.mem_cons, List.not_mem_nil, or_false] at hf ⊢
  tauto

theorem configReset_sameFields {l : List Field} (h : SameFields l s t) (hc : ∀ f ∈ configFields, f ∈ l)
    (hm : ∀ v < 64, ∀ f ∈ msixFields v, f ∈ l) : SameFields l s t.configReset := by
  rw [configReset_eq]
  refine sameFields_each ?_ fun v hv u hu => msixReset_sameFields hu (hm v (List.mem_range.1 hv))
  refine sameFields_put_of (sameFields_put_of (sameFields_put_of (sameFields_clear h fun f hf => hc f ?_) ?_) ?_) ?_
  · simp only [configFields, List.mem_cons, List.not_mem_nil, or_false] at hf ⊢
    tauto
  all_goals exact hc _ (by simp [configFields])

theorem msixFields_keys {v : Nat} (hv : v < 64) : ∀ g ∈ msixFields v, 8 * 0x50000000 ≤ g.key ∧ g.key < 8 * 0x50000900 := by
  intro g hg
  simp only [msixFields, List.mem_cons, List.not_mem_nil, or_false] at hg
  rcases hg with rfl | rfl | rfl | rfl | rfl
  all_goals
    simp only [Field.key, MSIX.ADDR_LO, MSIX.ADDR_HI, MSIX.DATA, MSIX.PEND, MSIX.MASK]
    omega

/-- The reset of the port's configuration space and table reaches nothing else. -/
theorem configReset_rd {f : Field} (hc : ∀ g ∈ configFields, g.key ≠ f.key) (hm : KeyOut 0x50000000 0x50000900 f.key) :
    s.configReset.rd f = s.rd f := by
  refine configReset_sameFields (l := configFields ++ (List.range 64).flatMap msixFields) (.refl _ s) (by simp +contextual)
    (fun v hv g hg => List.mem_append_right _ (List.mem_flatMap.2 ⟨v, List.mem_range.2 hv, hg⟩)) f fun g hg => ?_
  rcases List.mem_append.1 hg with hg | hg
  · exact hc g hg
  · obtain ⟨v, hv, hg⟩ := List.mem_flatMap.1 hg
    have ⟨hlo, hhi⟩ := msixFields_keys (List.mem_range.1 hv) g hg
    exact (key_ne_of_out hm hlo hhi).symm

theorem configReset_bme : s.configReset.rd MGT_STAT.BME = 0 := by
  rw [configReset_eq]
  have hkept : SameFields ((List.range 64).flatMap msixFields) s.configCleared
      (s.configCleared.each (List.range 64) State.msixReset) :=
    sameFields_each (.refl _ _) fun v hv u hu => msixReset_sameFields hu fun g hg => List.mem_flatMap.2 ⟨v, hv, hg⟩
  refine (hkept _ fun g hg => ?_).trans configCleared_bme
  obtain ⟨v, hv, hg⟩ := List.mem_flatMap.1 hg
  obtain ⟨hlo, -⟩ := msixFields_keys (List.mem_range.1 hv) g hg
  have hbme : MGT_STAT.BME.key < 8 * 0x50000000 := by decide
  exact Nat.ne_of_gt (Nat.lt_of_lt_of_le hbme hlo)

theorem msixReset_eq (v : Nat) : s.msixReset v = ((((s.put (MSIX.ADDR_LO v) 0).put (MSIX.ADDR_HI v) 0).put (MSIX.DATA v) 0).put
    (MSIX.PEND v) 0).put (MSIX.MASK v) 1 := rfl

theorem msixReset_word {v : Nat} (hv : v < 64) : (s.msixReset v).rd (MSIX.MASK v) = 1 ∧ (s.msixReset v).rd (MSIX.DATA v) = 0 ∧
    (s.msixReset v).rd (MSIX.ADDR_LO v) = 0 ∧ (s.msixReset v).rd (MSIX.ADDR_HI v) = 0 := by
  rw [msixReset_eq]
  refine ⟨rd_put_same .., ?_, ?_, ?_⟩
  · exact (rd_put_ne (key_ne_of_lt (by omega))).trans ((rd_put_ne (key_ne_of_lt (by omega))).trans (rd_put_same ..))
  · exact (rd_put_ne (key_ne_of_lt (by omega))).trans ((rd_put_ne (key_ne_of_lt (by omega))).trans
      ((rd_put_ne (key_ne_of_lt (by omega))).trans ((rd_put_ne (key_ne_of_lt (by omega))).trans (rd_put_same ..))))
  · exact (rd_put_ne (key_ne_of_lt (by omega))).trans ((rd_put_ne (key_ne_of_lt (by omega))).trans
      ((rd_put_ne (key_ne_of_lt (by omega))).trans (rd_put_same ..)))

theorem msixReset_other {v w : Nat} {f : Field} (hf : f ∈ [MSIX.MASK v, MSIX.DATA v, MSIX.ADDR_LO v, MSIX.ADDR_HI v])
    (hv : v < 64) (hne : w ≠ v) : (s.msixReset w).rd f = s.rd f := by
  rw [msixReset_eq]
  simp only [List.mem_cons, List.not_mem_nil, or_false] at hf
  rcases hf with rfl | rfl | rfl | rfl
  all_goals
    refine (rd_put_ne (key_ne_of (by omega))).trans ((rd_put_ne (key_ne_of_lt (by omega))).trans
      ((rd_put_ne (key_ne_of (by omega))).trans ((rd_put_ne (key_ne_of (by omega))).trans (rd_put_ne (key_ne_of (by omega))))))

theorem msixResets_rd {v k : Nat} {g : Nat → Field} (hv : v < 64)
    (hg : g v ∈ [MSIX.MASK v, MSIX.DATA v, MSIX.ADDR_LO v, MSIX.ADDR_HI v]) (hsame : ∀ t : State, (t.msixReset v).rd (g v) = k) :
    (s.each (List.range 64) State.msixReset).rd (g v) = k := by
  rw [each_put_rd hsame fun M _ hM t => msixReset_other hg hv hM, if_pos (List.mem_range.2 hv)]

theorem configReset_msix (v : Fin 64) : s.configReset.rd (MSIX.MASK v) = 1 ∧ s.configReset.rd (MSIX.DATA v) = 0 ∧
    s.configReset.rd (MSIX.ADDR_LO v) = 0 ∧ s.configReset.rd (MSIX.ADDR_HI v) = 0 := by
  rw [configReset_eq]
  refine ⟨?_, ?_, ?_, ?_⟩
  · exact msixResets_rd (g := MSIX.MASK) v.isLt (by simp) fun t => (msixReset_word v.isLt).1
  · exact msixResets_rd (g := MSIX.DATA) v.isLt (by simp) fun t => (msixReset_word v.isLt).2.1
  · exact msixResets_rd (g := MSIX.ADDR_LO) v.isLt (by simp) fun t => (msixReset_word v.isLt).2.2.1
  · exact msixResets_rd (g := MSIX.ADDR_HI) v.isLt (by simp) fun t => (msixReset_word v.isLt).2.2.2

/-! ## What a PCI Express reset does to the clients of the pool -/

/-- The supervisors' reads are given up too where they had some. -/
def State.supError (s u : State) : State :=
  (u.when (s.rd (DMAC.OUT 6) ≠ 0 || s.rd (DMAC.NEED 6) ≠ 0) (·.put DMAC.SUP_ERR 1)).dmaAbort

theorem clientErrors_of_idle (hbulk : s.rd KEY_BULK_STAT.STATE ≠ Bulk.run) (hcast : s.cst ≠ Cst.fetch) :
    s.clientErrors = s.supError (s.dmaFaultAll 7) := by
  simp only [State.clientErrors, hbulk, hcast, decide_false, Bool.false_and, when_false, State.supError]

theorem clientErrors_of_bulk (hbulk : s.rd KEY_BULK_STAT.STATE = Bulk.run) (hcast : s.cst ≠ Cst.fetch) :
    s.clientErrors = s.supError ((s.dmaFaultAll 7).bulkFault 0xA) := by
  simp only [State.clientErrors, hbulk, hcast, decide_false, decide_true, Bool.false_and, when_false, when_true, State.supError]

variable {u : State}

theorem supError_out (d : Fin 7) : (s.supError u).rd (DMAC.OUT d) = 0 := dmaAbort_out d

theorem supError_rd {f : Field} (hp : ∀ g ∈ DMAC.SUP_ERR :: poolFields, g.key ≠ f.key) : (s.supError u).rd f = u.rd f := by
  obtain ⟨herr, hpool⟩ := List.forall_mem_cons.1 hp
  refine (dmaAbort_rd hpool).trans ?_
  unfold State.when
  split
  · exact rd_put_ne herr.symm
  · rfl

theorem supError_fieldsKept {l : List Field} {src pmc : List Nat} (h : FieldsKept l src pmc s u)
    (hl : ∀ f ∈ DMAC.SUP_ERR :: poolFields, f ∈ l) : FieldsKept l src pmc s (t.supError u) :=
  dmaAbort_fieldsKept (fieldsKept_when_fn h fun v hv => fieldsKept_put_of hv (hl _ (List.mem_cons_self ..)))
    fun f hf => hl f (List.mem_cons_of_mem _ hf)

end

/-! ## A port reset -/

section
variable {s : State}

/-- The port resets while no client but the queues waits for reads. -/
theorem portReset_of_idle (hbulk : s.rd KEY_BULK_STAT.STATE ≠ Bulk.run) (hcast : s.cst ≠ Cst.fetch) :
    s.portReset = s.configReset.supError (s.configReset.dmaFaultAll 7) := by
  refine clientErrors_of_idle ?_ ?_
  · rwa [configReset_rd (by decide) (.inl (by decide))]
  · rwa [State.cst, configReset_rd (by decide) (.inl (by decide))]

theorem portReset_of_bulk (hbulk : s.rd KEY_BULK_STAT.STATE = Bulk.run) (hcast : s.cst ≠ Cst.fetch) :
    s.portReset = s.configReset.supError ((s.configReset.dmaFaultAll 7).bulkFault 0xA) := by
  refine clientErrors_of_bulk ?_ ?_
  · rwa [configReset_rd (by decide) (.inl (by decide))]
  · rwa [State.cst, configReset_rd (by decide) (.inl (by decide))]

theorem supError_keys : ∀ g ∈ DMAC.SUP_ERR :: poolFields, 8 * 0x90054 ≤ g.key ∧ g.key < 8 * 0x90058 ∨
    8 * 0x22100000 ≤ g.key ∧ g.key < 8 * 0x22100100 := by decide

theorem supError_rd_out {u : State} {f : Field} (hreg : KeyOut 0x90054 0x90058 f.key)
    (hcell : KeyOut 0x22100000 0x22100100 f.key) : (s.supError u).rd f = u.rd f := by
  refine supError_rd fun g hg => ?_
  obtain ⟨hlo, hhi⟩ | ⟨hlo, hhi⟩ := supError_keys g hg
  · exact (key_ne_of_out hreg hlo hhi).symm
  · exact (key_ne_of_out hcell hlo hhi).symm

/-- What a port reset has done before it gives up the reads of a bulk operation. -/
def State.portFaulted (s : State) : State := s.configReset.dmaFaultAll 7

theorem portFaulted_rd {f : Field} (hq : QuietKey f.key) (hc : ∀ g ∈ configFields, g.key ≠ f.key)
    (hreg : KeyOut 0x90054 0x90058 f.key) (hown : ∀ q : Fin 4, KeyOut (0x90110 + 0x20 * q) (0x90118 + 0x20 * q) f.key)
    (hlow : f.key < 8 * 0x22100000) : s.portFaulted.rd f = s.rd f := by
  refine (dmaFaultAll_rd hq hreg (.inl hlow) hown (.inl (hlow.trans (by decide)))).trans ?_
  exact configReset_rd hc (.inl (hlow.trans (by decide)))

theorem portFaulted_bme : s.portFaulted.rd MGT_STAT.BME = 0 :=
  (dmaFaultAll_rd (quiet_of (by omega)) (.inl (by decide)) (.inl (by decide)) (fun q => out_of (by omega))
    (.inl (by decide))).trans configReset_bme

theorem portFaulted_msix (v : Fin 64) : s.portFaulted.rd (MSIX.MASK v) = 1 ∧ s.portFaulted.rd (MSIX.DATA v) = 0 ∧
    s.portFaulted.rd (MSIX.ADDR_LO v) = 0 ∧ s.portFaulted.rd (MSIX.ADDR_HI v) = 0 := by
  have hkept : ∀ f : Field, 8 * 0x50000000 ≤ f.key → f.key < 8 * 0x50000900 → s.portFaulted.rd f = s.configReset.rd f :=
    fun f hlo hhi => dmaFaultAll_rd (by unfold QuietKey; omega) (.inr (by omega)) (.inr (by omega))
      (fun q => .inr (by omega)) (.inl (by omega))
  have hkeys := msixFields_keys v.isLt
  obtain ⟨hmask, hdata, hlo, hhi⟩ := configReset_msix (s := s) v
  refine ⟨(hkept _ ?_ ?_).trans hmask, (hkept _ ?_ ?_).trans hdata, (hkept _ ?_ ?_).trans hlo, (hkept _ ?_ ?_).trans hhi⟩
  · exact (hkeys _ (by simp [msixFields])).1
  · exact (hkeys _ (by simp [msixFields])).2
  · exact (hkeys _ (by simp [msixFields])).1
  · exact (hkeys _ (by simp [msixFields])).2
  · exact (hkeys _ (by simp [msixFields])).1
  · exact (hkeys _ (by simp [msixFields])).2
  · exact (hkeys _ (by simp [msixFields])).1
  · exact (hkeys _ (by simp [msixFields])).2

theorem portFaulted_queue {q : Fin 4} (hrun : s.rd (MGT_DQ_STAT.STATE q) = 1) :
    s.portFaulted.rd (MGT_DQ_STAT.STATE q) = 2 ∧ s.portFaulted.rd (MGT_DQ_STAT.CAUSE q) = 7 := by
  have hne : ∀ q : Fin 4, ∀ g ∈ configFields, g.key ≠ (MGT_DQ_STAT.STATE q).key := by decide
  exact dmaFaultAll_of_running (by decide) ((configReset_rd (hne q) (out_of (by omega))).trans hrun)

theorem portFaulted_indices (q : Fin 4) : s.portFaulted.rd (MGT_DQ_CI.CI q) = s.rd (MGT_DQ_CI.CI q) ∧
    s.portFaulted.rd (MGT_DQ_PI.PI q) = s.rd (MGT_DQ_PI.PI q) := by
  have hc : ∀ q : Fin 4, ∀ g ∈ configFields, g.key ≠ (MGT_DQ_CI.CI q).key ∧ g.key ≠ (MGT_DQ_PI.PI q).key := by decide
  refine ⟨portFaulted_rd (quiet_of (by omega)) (fun g hg => (hc q g hg).1) (out_of (by omega)) (fun p => out_of (by omega)) ?_,
    portFaulted_rd (quiet_of (by omega)) (fun g hg => (hc q g hg).2) (out_of (by omega)) (fun p => out_of (by omega)) ?_⟩
  · simp only [Field.key, MGT_DQ_CI.CI]; omega
  · simp only [Field.key, MGT_DQ_PI.PI]; omega

theorem configFields_sub : ∀ f ∈ configFields, f ∈ portFields := by decide

theorem msixFields_sub {v : Nat} (hv : v < 64) : ∀ f ∈ msixFields v, f ∈ portFields := fun f hf =>
  List.mem_append_left _ (List.mem_append_right _ (List.mem_flatMap.2 ⟨v, List.mem_range.2 hv, hf⟩))

theorem portFaulted_fieldsKept {l : List Field} {t : State} (h : FieldsKept l [129] [4] s t) (hp : ∀ f ∈ portFields, f ∈ l)
    (hq : ∀ f ∈ [0, 1, 2, 3].flatMap queueFields, f ∈ l) : FieldsKept l [129] [4] s t.portFaulted := by
  have hconfig : SameFields l t t.configReset := configReset_sameFields (.refl _ t) (fun f hf => hp f (configFields_sub f hf))
    fun _ hv f hf => hp f (msixFields_sub hv f hf)
  refine fieldsKept_dmaFaultAll (h.trans hconfig.kept) (fun q f hf => hq f ?_) (fun f hf => hp f ?_) (by simp) (by simp)
  · exact List.mem_flatMap.2 ⟨q, by fin_cases q <;> simp, faultFields_sub f hf⟩
  · exact List.mem_append_right _ hf

theorem supErrorFields_sub : ∀ f ∈ DMAC.SUP_ERR :: poolFields, f ∈ portFields := by decide

/-- What every port reset shows, from the state u that its event left (Table 19.9). -/
structure PortIsReset (u t : State) : Prop where
  bme : t.rd MGT_STAT.BME = 0
  msix : ∀ v : Fin 64, t.rd (MSIX.MASK v) = 1 ∧ t.rd (MSIX.DATA v) = 0 ∧ t.rd (MSIX.ADDR_LO v) = 0 ∧ t.rd (MSIX.ADDR_HI v) = 0
  reads : ∀ d : Fin 7, t.rd (DMAC.OUT d) = 0
  queues : ∀ q : Fin 4, u.rd (MGT_DQ_STAT.STATE q) = 1 → t.rd (MGT_DQ_STAT.STATE q) = 2 ∧ t.rd (MGT_DQ_STAT.CAUSE q) = 7
  indices : ∀ q : Fin 4, t.rd (MGT_DQ_CI.CI q) = u.rd (MGT_DQ_CI.CI q) ∧ t.rd (MGT_DQ_PI.PI q) = u.rd (MGT_DQ_PI.PI q)
  rest : ∀ f : Field, QuietKey f.key → (∀ g ∈ configFields, g.key ≠ f.key) → f.key < 8 * 0x90054 → t.rd f = u.rd f

theorem portReset_isReset (hbulk : s.rd KEY_BULK_STAT.STATE ≠ Bulk.run) (hcast : s.cst ≠ Cst.fetch) :
    PortIsReset s s.portReset := by
  rw [portReset_of_idle hbulk hcast]
  have hlow : ∀ f : Field, f.key < 8 * 0x90054 → (s.configReset.supError s.portFaulted).rd f = s.portFaulted.rd f :=
    fun f hf => supError_rd_out (.inl hf) (.inl (hf.trans (by decide)))
  refine ⟨(hlow _ (by decide)).trans portFaulted_bme, fun v => ?_, supError_out, fun q hq => ?_, fun q => ?_, fun f hquiet hc hf =>
    (hlow f hf).trans (portFaulted_rd hquiet hc (.inl hf) (fun q => .inl (by omega)) (hf.trans (by decide)))⟩
  · have hkeys := msixFields_keys v.isLt
    have hout : ∀ f ∈ msixFields v, (s.configReset.supError s.portFaulted).rd f = s.portFaulted.rd f := fun f hf =>
      supError_rd_out (.inr (by have := (hkeys f hf).1; omega)) (.inr (by have := (hkeys f hf).1; omega))
    obtain ⟨hmask, hdata, hlo, hhi⟩ := portFaulted_msix (s := s) v
    exact ⟨(hout _ (by simp [msixFields])).trans hmask, (hout _ (by simp [msixFields])).trans hdata,
      (hout _ (by simp [msixFields])).trans hlo, (hout _ (by simp [msixFields])).trans hhi⟩
  · obtain ⟨hst, hcause⟩ := portFaulted_queue hq
    exact ⟨(supError_rd_out (out_of (by omega)) (out_of (by omega))).trans hst,
      (supError_rd_out (out_of (by omega)) (out_of (by omega))).trans hcause⟩
  · obtain ⟨hci, hpi⟩ := portFaulted_indices (s := s) q
    exact ⟨(supError_rd_out (out_of (by omega)) (out_of (by omega))).trans hci,
      (supError_rd_out (out_of (by omega)) (out_of (by omega))).trans hpi⟩

theorem portReset_fieldsKept {l : List Field} {t : State} (hbulk : t.rd KEY_BULK_STAT.STATE ≠ Bulk.run)
    (hcast : t.cst ≠ Cst.fetch) (h : FieldsKept l [129] [4] s t) (hp : ∀ f ∈ portFields, f ∈ l)
    (hq : ∀ f ∈ [0, 1, 2, 3].flatMap queueFields, f ∈ l) : FieldsKept l [129] [4] s t.portReset := by
  rw [portReset_of_idle hbulk hcast]
  exact supError_fieldsKept (portFaulted_fieldsKept h hp hq) fun f hf => hp f (supErrorFields_sub f hf)

/-- The link is down, and nothing else has changed. -/
theorem linkOff_rd {f : Field} (h : ∀ g ∈ [MGT_STAT.LINK_UP, MGT_STAT.SPEED, MGT_STAT.WIDTH], g.key ≠ f.key) :
    s.linkOff.rd f = s.rd f :=
  sameFields_clear (.refl _ s) (fun _ hg => hg) f h

theorem linkOff_up : s.linkOff.rd MGT_STAT.LINK_UP = 0 := by
  simp only [State.linkOff, State.clear, State.each, List.foldl_cons, List.foldl_nil]
  exact (rd_put_ne (by decide)).trans ((rd_put_ne (by decide)).trans (rd_put_same ..))

theorem linkOff_speed : s.linkOff.rd MGT_STAT.SPEED = 0 := by
  simp only [State.linkOff, State.clear, State.each, List.foldl_cons, List.foldl_nil]
  exact (rd_put_ne (by decide)).trans (rd_put_same ..)

end

/-! ## Held messages (R372) -/

section
variable {s : State}

/-- Nothing holds the messages of some vectors. -/
structure Unheld (s : State) (vs : List Nat) : Prop where
  enabled : s.on MGTC.MSIX_EN = true
  open_ : s.on MGTC.FMASK = false
  unmasked : ∀ v ∈ vs, s.on (MSIX.MASK v) = false

theorem sendMsix_of_unheld {vs : List Nat} {v : Nat} (h : Unheld s vs) (hv : v ∈ vs) : (s.sendMsix v).regs = s.regs := by
  obtain ⟨hen, hopen, hmask⟩ := h
  simp only [State.sendMsix, hen, hopen, hmask v hv]
  cases s.portSends <;> rfl

theorem unheld_put {vs : List Nat} {v : Nat} {t : State} (h : Unheld s vs) (hlt : ∀ w ∈ vs, w < 20)
    (ht : t.regs = (s.put (MSIX.PEND v) 0).regs) : Unheld t vs := by
  obtain ⟨hen, hopen, hmask⟩ := h
  have hrd : ∀ f : Field, f.key < 8 * 0x50000800 → t.on f = s.on f := fun f hf => by
    have hput : t.rd f = (s.put (MSIX.PEND v) 0).rd f := by simp only [State.rd, ht]
    rw [State.on, State.on, hput, rd_put_ne]
    exact Nat.ne_of_lt (Nat.lt_of_lt_of_le hf (Nat.le_add_right_of_le (Nat.mul_le_mul_left 8 (Nat.le_add_right ..))))
  refine ⟨(hrd _ (by decide)).trans hen, (hrd _ (by decide)).trans hopen, fun w hw => (hrd _ ?_).trans (hmask w hw)⟩
  have hlt := hlt w hw
  simp only [Field.key, MSIX.MASK]
  omega

/-- Messages that nothing holds leave the pending-bit array. -/
theorem flush_regs {l : List Nat} {t : State} (hregs : s.regs = t.regs) (h : Unheld s l) (hlt : ∀ w ∈ l, w < 20) :
    (s.each l (fun v u => (u.put (MSIX.PEND v) 0).sendMsix v)).regs = (t.each l (fun v u => u.put (MSIX.PEND v) 0)).regs := by
  induction l generalizing s t with
  | nil => exact hregs
  | cons v l ih =>
    have hput := unheld_put (v := v) (t := s.put (MSIX.PEND v) 0) h hlt rfl
    have hsent := sendMsix_of_unheld hput (List.mem_cons_self ..)
    have hall := unheld_put (v := v) h hlt hsent
    rw [each_cons, each_cons]
    refine ih ?_ ⟨hall.enabled, hall.open_, fun w hw => hall.unmasked w (List.mem_cons_of_mem _ hw)⟩
      fun w hw => hlt w (List.mem_cons_of_mem _ hw)
    rw [hsent]
    simp only [State.put, hregs]

/-- Vectors whose message is pending and held by nothing. -/
def State.freed (s : State) : List Nat := (List.range 20).filter
  (fun v => s.on (MSIX.PEND v) && s.on MGTC.MSIX_EN && !s.on MGTC.FMASK && !s.on (MSIX.MASK v))

theorem mem_freed {v : Nat} : v ∈ s.freed ↔ v < 20 ∧ s.on (MSIX.PEND v) = true ∧ s.on MGTC.MSIX_EN = true ∧
    s.on MGTC.FMASK = false ∧ s.on (MSIX.MASK v) = false := by
  simp [State.freed, and_assoc]

theorem flushMsix_regs : s.flushMsix.regs = (s.each s.freed (fun v u => u.put (MSIX.PEND v) 0)).regs := by
  have hflush : s.flushMsix = s.each s.freed (fun v u => (u.put (MSIX.PEND v) 0).sendMsix v) := rfl
  rw [hflush]
  cases hl : s.freed with
  | nil => rfl
  | cons v l =>
    have hfreed : ∀ w ∈ v :: l, w ∈ s.freed := fun w hw => hl ▸ hw
    have hv := mem_freed.1 (hfreed v (List.mem_cons_self ..))
    exact flush_regs rfl ⟨hv.2.2.1, hv.2.2.2.1, fun w hw => (mem_freed.1 (hfreed w hw)).2.2.2.2⟩
      fun w hw => (mem_freed.1 (hfreed w hw)).1

theorem flushMsix_pend (v : Fin 20) : s.flushMsix.on (MSIX.PEND v) =
    (s.on (MSIX.PEND v) && !(s.on MGTC.MSIX_EN && !s.on MGTC.FMASK && !s.on (MSIX.MASK v))) := by
  have hrd : s.flushMsix.rd (MSIX.PEND v) = if v.val ∈ s.freed then 0 else s.rd (MSIX.PEND v) := by
    have hregs : s.flushMsix.rd (MSIX.PEND v) = (s.each s.freed (fun v u => u.put (MSIX.PEND v) 0)).rd (MSIX.PEND v) := by
      simp only [State.rd, flushMsix_regs]
    rw [hregs]
    refine each_put_rd (g := MSIX.PEND) (fun t => rd_put_same ..) fun M _ hM t => rd_put_ne (key_ne_of ?_)
    omega
  rw [State.on, hrd]
  by_cases hin : v.val ∈ s.freed
  · obtain ⟨-, hpend, hen, hopen, hmask⟩ := mem_freed.1 hin
    simp [hin, hpend, hen, hopen, hmask]
  · rw [if_neg hin]
    have hheld : s.on (MSIX.PEND v) = true → (s.on MGTC.MSIX_EN && !s.on MGTC.FMASK && !s.on (MSIX.MASK v)) = false :=
      fun hpend => by simpa [mem_freed, v.isLt, hpend] using hin
    cases hpend : s.on (MSIX.PEND v)
    · rw [Bool.false_and]
      exact hpend
    · rw [hheld hpend]
      exact hpend

theorem flushMsix_sameFields {l : List Field} {t : State} (h : SameFields l s t)
    (hl : ∀ f ∈ (List.range 20).map MSIX.PEND, f ∈ l) : SameFields l s t.flushMsix := by
  refine sameFields_of_regs (sameFields_each h fun v hv u hu => sameFields_put_of hu (hl _ ?_)) flushMsix_regs
  exact List.mem_map_of_mem (List.mem_range.2 (mem_freed.1 hv).1)

theorem flushMsix_rd {f : Field} (hf : f.key < 8 * 0x50000800) : s.flushMsix.rd f = s.rd f := by
  refine flushMsix_sameFields (l := (List.range 20).map MSIX.PEND) (.refl _ s) (fun _ h => h) f fun g hg => ?_
  obtain ⟨v, -, rfl⟩ := List.mem_map.1 hg
  exact Nat.ne_of_gt (Nat.lt_of_lt_of_le hf (Nat.le_add_right_of_le (Nat.mul_le_mul_left 8 (Nat.le_add_right ..))))

end

/-! ## The obligation -/

section
variable {s : State}

/-- A reset of the port runs on the state that its event left. -/
theorem exec_pcieReset {f : State → State} (hans : s.answers = true) (hlink : s.on MGT_STAT.LINK_UP = true) :
    s.when (s.answers && s.on MGT_STAT.LINK_UP) f = f s := by
  rw [hans, hlink]
  rfl

/-- Registers that neither a port event nor the link's end reaches. -/
theorem linkEvent_rd {f g : Field} (hg : g ∈ [MGT_STAT.LINK_EV, MGT_STAT.HOTRST_EV])
    (hf : ∀ g ∈ [MGT_STAT.LINK_EV, MGT_STAT.HOTRST_EV, MGT_STAT.LINK_UP, MGT_STAT.SPEED, MGT_STAT.WIDTH], g.key ≠ f.key) :
    (s.put g 1).linkOff.rd f = s.rd f := by
  simp only [List.forall_mem_cons] at hf
  obtain ⟨hev, hrst, hup, hspeed, hwidth, -⟩ := hf
  refine (linkOff_rd (by simpa using ⟨hup, hspeed, hwidth⟩)).trans (rd_put_ne ?_)
  simp only [List.mem_cons, List.not_mem_nil, or_false] at hg
  rcases hg with rfl | rfl
  · exact hev.symm
  · exact hrst.symm

theorem on_flag_same {f : Field} (b : Bool) (s : State) (hf : 0 < f.width) : (s.flag f b).on f = b := by
  have hone : 1 < 2 ^ f.width := Nat.one_lt_two_pow hf.ne'
  rw [State.on, State.flag, rd_put_same]
  cases b
  · simp
  · simp [Nat.mod_eq_of_lt hone]

theorem queueState_ne : ∀ q : Fin 4, ∀ g ∈ [MGT_STAT.LINK_EV, MGT_STAT.HOTRST_EV, MGT_STAT.LINK_UP, MGT_STAT.SPEED, MGT_STAT.WIDTH],
    g.key ≠ (MGT_DQ_STAT.STATE q).key := by decide

/-- A fault of a bulk operation shows before its reads are given up (R284). -/
theorem bulkFault_rd {f : Field} {c : Nat} (hq : QuietKey f.key) (hreg : KeyOut 0x90054 0x90058 f.key)
    (hcell : KeyOut 0x22100000 0x22100100 f.key) : (s.bulkFault c).rd f =
    (((s.put KEY_BULK_STAT.STATE Bulk.fault).put KEY_BULK_STAT.CAUSE c).put KEY_BULK_STAT.FAULT_EV 1).rd f :=
  (dmaGot_rd (by decide) hq hreg hcell).trans (rd_raise_quiet (by decide) hq)

theorem bulkFault_state {c : Nat} : (s.bulkFault c).rd KEY_BULK_STAT.STATE = Bulk.fault :=
  (bulkFault_rd (quiet_of (by decide)) (.inr (by decide)) (.inl (by decide))).trans ((rd_put_ne (by decide)).trans
    ((rd_put_ne (by decide)).trans (rd_put_same ..)))

theorem bulkFault_cause {c : Nat} (hc : c < 16) : (s.bulkFault c).rd KEY_BULK_STAT.CAUSE = c :=
  (bulkFault_rd (quiet_of (by decide)) (.inr (by decide)) (.inl (by decide))).trans ((rd_put_ne (by decide)).trans
    ((rd_put_same ..).trans (Nat.mod_eq_of_lt hc)))

theorem bulkFault_event {c : Nat} : (s.bulkFault c).rd KEY_BULK_STAT.FAULT_EV = 1 :=
  (bulkFault_rd (quiet_of (by decide)) (.inr (by decide)) (.inl (by decide))).trans (rd_put_same ..)

theorem bulkFault_pend {c : Nat} : (s.bulkFault c).rd (IRQ_PEND 51) = 1 :=
  (dmaGot_pend (by decide) (by decide) (by decide)).trans (raise_pend (by decide))

theorem bulkFault_rd_low {f : Field} {c : Nat} (hq : QuietKey f.key) (hf : f.key < 8 * 0x90054) :
    (s.bulkFault c).rd f = s.rd f := by
  have hlow : ∀ g ∈ [KEY_BULK_STAT.STATE, KEY_BULK_STAT.CAUSE, KEY_BULK_STAT.FAULT_EV], f.key ≠ g.key := fun g hg =>
    Nat.ne_of_lt (hf.trans (by revert g; decide))
  refine (bulkFault_rd hq (.inl hf) (.inl (hf.trans (by decide)))).trans ?_
  rw [rd_put_ne (hlow _ (by simp)), rd_put_ne (hlow _ (by simp)), rd_put_ne (hlow _ (by simp))]

end

/-- Settles O53: each reset of the port, and each configuration write, as Table 19.9 and R434 take it. -/
theorem portResetsAndConfiguration : Obligations.PortResetsAndConfiguration := by
  refine ⟨?functionReset, ?hotReset, ?linkDown, ?bulk, ?linkUp, ?masterOff, ?deviceControl, ?timeout, ?msix, ?power, ?masterOn⟩
  case functionReset =>
    intro s hans hlink hbulk hcast
    have hexec : exec .pcieFunctionLevelReset s = .next (s.put MGT_STAT.FLR_EV 1).portReset :=
      congrArg Host.Outcome.next (exec_pcieReset hans hlink)
    have hbulk' : (s.put MGT_STAT.FLR_EV 1).rd KEY_BULK_STAT.STATE ≠ Bulk.run := by rwa [rd_put_ne (by decide)]
    have hcast' : (s.put MGT_STAT.FLR_EV 1).cst ≠ Cst.fetch := by rwa [State.cst, rd_put_ne (by decide)]
    have hreset := portReset_isReset hbulk' hcast'
    refine ⟨_, hexec, ⟨?_, ?_, hreset.bme⟩, hreset.msix, hreset.reads, fun q hq => hreset.queues q ?_, fun q => ?_,
      exec_ch hexec (by decide), exec_flow hexec (by decide), portReset_fieldsKept hbulk' hcast' ?_ ?_ ?_⟩
    · exact (hreset.rest _ (quiet_of (by decide)) (by decide) (by decide)).trans (rd_put_same ..)
    · exact (hreset.rest _ (quiet_of (by decide)) (by decide) (by decide)).trans ((rd_put_ne (by decide)).trans (of_decide_eq_true hlink))
    · exact (rd_put_ne (key_ne_of (by omega))).trans hq
    · rw [(hreset.indices q).1, (hreset.indices q).2]
      exact ⟨rd_put_ne (key_ne_of (by omega)), rd_put_ne (key_ne_of (by omega))⟩
    · exact fieldsKept_put_of (.refl _ _ _ s) (by simp)
    · exact fun f hf => List.mem_append_left _ (List.mem_cons_of_mem _ hf)
    · exact fun f hf => List.mem_append_right _ hf
  case hotReset =>
    intro s hans hlink hbulk hcast
    have hexec : exec .pcieHotReset s = .next (s.put MGT_STAT.HOTRST_EV 1).linkOff.portReset :=
      congrArg Host.Outcome.next (exec_pcieReset hans hlink)
    have hbulk' : (s.put MGT_STAT.HOTRST_EV 1).linkOff.rd KEY_BULK_STAT.STATE ≠ Bulk.run := by
      rwa [linkEvent_rd (by simp) (by decide)]
    have hcast' : (s.put MGT_STAT.HOTRST_EV 1).linkOff.cst ≠ Cst.fetch := by rwa [State.cst, linkEvent_rd (by simp) (by decide)]
    have hreset := portReset_isReset hbulk' hcast'
    refine ⟨_, hexec, ⟨?_, ?_, hreset.bme⟩, fun v => ⟨(hreset.msix v).1, (hreset.msix v).2.1⟩, hreset.reads,
      fun q hq => hreset.queues q ?_, exec_ch hexec (by decide), exec_flow hexec (by decide),
      portReset_fieldsKept hbulk' hcast' ?_ ?_ ?_⟩
    · exact (hreset.rest _ (quiet_of (by decide)) (by decide) (by decide)).trans ((linkOff_rd (by decide)).trans (rd_put_same ..))
    · exact (hreset.rest _ (quiet_of (by decide)) (by decide) (by decide)).trans linkOff_up
    · exact (linkEvent_rd (by simp) (queueState_ne q)).trans hq
    · exact fieldsKept_clear (fieldsKept_put_of (.refl _ _ _ s) (by simp)) (by simp)
    · exact fun f hf => List.mem_append_left _ (List.mem_append_right _ hf)
    · exact fun f hf => List.mem_append_right _ hf
  case linkDown =>
    intro s hans hlink hbulk hcast
    have hexec : exec .pcieLinkDown s = .next (s.put MGT_STAT.LINK_EV 1).linkOff.portReset :=
      congrArg Host.Outcome.next (exec_pcieReset hans hlink)
    have hbulk' : (s.put MGT_STAT.LINK_EV 1).linkOff.rd KEY_BULK_STAT.STATE ≠ Bulk.run := by
      rwa [linkEvent_rd (by simp) (by decide)]
    have hcast' : (s.put MGT_STAT.LINK_EV 1).linkOff.cst ≠ Cst.fetch := by rwa [State.cst, linkEvent_rd (by simp) (by decide)]
    have hreset := portReset_isReset hbulk' hcast'
    refine ⟨_, hexec, ⟨?_, ?_, ?_, hreset.bme⟩, fun v => ⟨(hreset.msix v).1, (hreset.msix v).2.1⟩, hreset.reads,
      fun q hq => hreset.queues q ?_, exec_ch hexec (by decide), exec_flow hexec (by decide),
      portReset_fieldsKept hbulk' hcast' ?_ ?_ ?_⟩
    · exact (hreset.rest _ (quiet_of (by decide)) (by decide) (by decide)).trans ((linkOff_rd (by decide)).trans (rd_put_same ..))
    · exact (hreset.rest _ (quiet_of (by decide)) (by decide) (by decide)).trans linkOff_up
    · exact (hreset.rest _ (quiet_of (by decide)) (by decide) (by decide)).trans linkOff_speed
    · exact (linkEvent_rd (by simp) (queueState_ne q)).trans hq
    · exact fieldsKept_clear (fieldsKept_put_of (.refl _ _ _ s) (by simp)) (by simp)
    · exact fun f hf => List.mem_append_left _ (List.mem_append_right _ hf)
    · exact fun f hf => List.mem_append_right _ hf
  case bulk =>
    intro s hans hlink hbulk hcast
    have hexec : exec .pcieLinkDown s = .next (s.put MGT_STAT.LINK_EV 1).linkOff.portReset :=
      congrArg Host.Outcome.next (exec_pcieReset hans hlink)
    have hbulk' : (s.put MGT_STAT.LINK_EV 1).linkOff.rd KEY_BULK_STAT.STATE = Bulk.run := by
      rwa [linkEvent_rd (by simp) (by decide)]
    have hcast' : (s.put MGT_STAT.LINK_EV 1).linkOff.cst ≠ Cst.fetch := by rwa [State.cst, linkEvent_rd (by simp) (by decide)]
    have hport := portReset_of_bulk hbulk' hcast'
    refine ⟨_, hexec, ⟨?_, ?_, ?_⟩, ?_, ⟨?_, ?_⟩, exec_ch hexec (by decide), exec_flow hexec (by decide)⟩
    · rw [hport]
      exact (supError_rd_out (.inr (by decide)) (.inl (by decide))).trans bulkFault_state
    · rw [hport]
      exact (supError_rd_out (.inr (by decide)) (.inl (by decide))).trans (bulkFault_cause (by decide))
    · rw [hport]
      exact (supError_rd_out (.inr (by decide)) (.inl (by decide))).trans bulkFault_event
    · rw [hport]
      exact (supError_rd_out (.inl (by decide)) (.inl (by decide))).trans bulkFault_pend
    · rw [hport]
      refine (supError_rd_out (.inl (by decide)) (.inl (by decide))).trans
        ((bulkFault_rd_low (quiet_of (by decide)) (by decide)).trans ?_)
      exact (portFaulted_rd (quiet_of (by decide)) (by decide) (.inl (by decide)) (fun q => .inl (by decide +revert))
        (by decide)).trans linkOff_up
    · rw [hport]
      exact (supError_rd_out (.inl (by decide)) (.inl (by decide))).trans
        ((bulkFault_rd_low (quiet_of (by decide)) (by decide)).trans portFaulted_bme)
  case linkUp =>
    intro s speed width hans hlink
    have hexec : exec (.pcieLinkUp speed width) s = .next (((s.put MGT_STAT.LINK_UP 1).put MGT_STAT.SPEED speed.code).put
        MGT_STAT.WIDTH width.lanes) := congrArg Host.Outcome.next (by rw [hans, hlink]; rfl)
    refine ⟨_, hexec, ⟨?_, ?_, ?_⟩, rfl, rfl, ?_⟩
    · exact (rd_put_ne (by decide)).trans ((rd_put_ne (by decide)).trans (rd_put_same ..))
    · refine (rd_put_ne (by decide)).trans ((rd_put_same ..).trans ?_)
      cases speed <;> rfl
    · refine (rd_put_same ..).trans ?_
      cases width <;> rfl
    · refine sameFields_put_of (sameFields_put_of (sameFields_put_of (.refl _ s) ?_) ?_) ?_
      all_goals simp
  case masterOff =>
    intro s hans hlink
    have hexec : exec .busMasterEnableClear s = .next ((s.put MGT_STAT.BME 0).dmaFaultAll 7) :=
      congrArg Host.Outcome.next (exec_pcieReset hans hlink)
    refine ⟨_, hexec, ?_, fun q hq => ?_, exec_ch hexec (by decide), exec_flow hexec (by decide), ?_⟩
    · exact (dmaFaultAll_rd (quiet_of (by decide)) (.inl (by decide)) (.inl (by decide)) (fun q => out_of (by omega))
        (.inl (by decide))).trans (rd_put_same ..)
    · have hrun : (s.put MGT_STAT.BME 0).rd (MGT_DQ_STAT.STATE q) = 1 := (rd_put_ne (key_ne_of (by omega))).trans hq
      obtain ⟨hst, hcause⟩ := dmaFaultAll_of_running (cause := 7) (by decide) hrun
      exact ⟨hst, hcause, dmaFaultAll_pend hrun⟩
    · refine fieldsKept_dmaFaultAll (fieldsKept_put_of (.refl _ _ _ s) (by simp)) (fun q f hf => ?_) (fun f hf => ?_) (by simp) (by simp)
      · exact List.mem_append_right _ (List.mem_flatMap.2 ⟨q, by fin_cases q <;> simp, faultFields_sub f hf⟩)
      · exact List.mem_append_left _ (List.mem_cons_of_mem _ hf)
  case deviceControl =>
    intro s mrrs relax hans hlink
    have hexec : exec (.pcieConfigurationWrite (.deviceControl mrrs relax)) s =
        .next ((s.put MGTC.MRRS mrrs.val).flag MGTC.RELAX relax) := congrArg Host.Outcome.next (exec_pcieReset hans hlink)
    refine ⟨_, hexec, ⟨?_, ?_⟩, rfl, rfl, ?_⟩
    · refine (rd_flag_ne (by decide)).trans ((rd_put_same ..).trans (Nat.mod_eq_of_lt ?_))
      exact mrrs.isLt.trans (by decide)
    · exact on_flag_same _ _ (by decide)
    · refine sameFields_flag_of (sameFields_put_of (.refl _ s) ?_) ?_
      all_goals simp
  case timeout =>
    intro s us hans hlink hus
    have hexec : exec (.pcieConfigurationWrite (.completionTimeout us)) s = .next (s.put MGTC.TIMEOUT us) :=
      congrArg Host.Outcome.next (exec_pcieReset hans hlink)
    exact ⟨_, hexec, (rd_put_same ..).trans (Nat.mod_eq_of_lt hus), rfl, rfl, sameFields_put _ _ _⟩
  case msix =>
    intro s en mask hans hlink
    have hexec : exec (.pcieConfigurationWrite (.msix en mask)) s =
        .next ((s.flag MGTC.MSIX_EN en).flag MGTC.FMASK mask).flushMsix := congrArg Host.Outcome.next (exec_pcieReset hans hlink)
    have hen : ((s.flag MGTC.MSIX_EN en).flag MGTC.FMASK mask).on MGTC.MSIX_EN = en := by
      rw [State.on, rd_flag_ne (by decide)]
      exact on_flag_same _ _ (by decide)
    have hmask : ((s.flag MGTC.MSIX_EN en).flag MGTC.FMASK mask).on MGTC.FMASK = mask := on_flag_same _ _ (by decide)
    refine ⟨_, hexec, ⟨?_, ?_⟩, fun v => ?_, exec_ch hexec (by simp [areasOf]), exec_flow hexec (by simp [areasOf]), ?_⟩
    · rw [State.on, flushMsix_rd (by decide)]
      exact hen
    · rw [State.on, flushMsix_rd (by decide)]
      exact hmask
    · have hrd : ∀ f : Field, 8 * 0x50000000 ≤ f.key → ((s.flag MGTC.MSIX_EN en).flag MGTC.FMASK mask).on f = s.on f := fun f hf => by
        rw [State.on, rd_flag_ne, rd_flag_ne, State.on]
        · exact Nat.ne_of_gt (Nat.lt_of_lt_of_le (by decide : MGTC.MSIX_EN.key < 8 * 0x50000000) hf)
        · exact Nat.ne_of_gt (Nat.lt_of_lt_of_le (by decide : MGTC.FMASK.key < 8 * 0x50000000) hf)
      have hkeys := msixFields_keys (v := v) (by omega)
      rw [flushMsix_pend, hen, hmask, hrd _ (hkeys _ (by simp [msixFields])).1, hrd _ (hkeys _ (by simp [msixFields])).1]
    · refine flushMsix_sameFields (sameFields_flag_of (sameFields_flag_of (.refl _ s) ?_) ?_) fun f hf => List.mem_append_right _ hf
      all_goals simp
  case power =>
    intro s d3 hans hlink
    have hexec : exec (.pcieConfigurationWrite (.powerState d3)) s =
        .next (s.put MGT_STAT.DSTATE (if d3 then 3 else 0)).dmaIssue := congrArg Host.Outcome.next (exec_pcieReset hans hlink)
    refine ⟨_, hexec, ?_, exec_ch hexec (by simp [areasOf]), exec_flow hexec (by simp [areasOf]), ?_⟩
    · refine (dmaIssue_rd (quiet_of (by decide)) (.inl (by decide)) (.inl (by decide))).trans ((rd_put_same ..).trans ?_)
      cases d3 <;> rfl
    · exact fieldsKept_dmaIssue (fieldsKept_put_of (.refl _ _ _ s) (by simp)) (fun f hf => List.mem_cons_of_mem _ hf) (by simp)
  case masterOn =>
    intro s hans hlink
    have hexec : exec (.pcieConfigurationWrite (.busMaster true)) s = .next (s.put MGT_STAT.BME 1).dmaIssue :=
      congrArg Host.Outcome.next (exec_pcieReset hans hlink)
    refine ⟨_, hexec, ?_, exec_ch hexec (by simp [areasOf]), exec_flow hexec (by simp [areasOf]), ?_⟩
    · exact (dmaIssue_rd (quiet_of (by decide)) (.inl (by decide)) (.inl (by decide))).trans (rd_put_same ..)
    · exact fieldsKept_dmaIssue (fieldsKept_put_of (.refl _ _ _ s) (by simp)) (fun f hf => List.mem_cons_of_mem _ hf) (by simp)

end Sys2Proof.Machine
end

section
/-! Frames of the SPI target (R435 to R437, Table 19.10). -/

set_option Elab.async false

namespace Sys2Proof.Machine

section
variable {s t : State} {v k edges : Nat}

/-! ## The fall of the chip select -/

/-- The word of SPI_STAT (Table 19.15). -/
def State.spiStatus (s : State) : Nat :=
  s.rd SPI_STAT.EDGES * 2 ^ 24 + s.rd SPI_STAT.WORD * 2 ^ 16 + s.rd SPI_STAT.ABORT * 2 ^ 7 + s.rd SPI_STAT.HDR_ERR * 2 ^ 6 +
    s.rd SPI_STAT.LAST_OK

theorem readWord_spiStat : s.readWord 0x90200 = s.spiStatus := by
  have hfields : s.fieldsAt 0x90200 = [⟨SPI_STAT.EDGES, .ro, .live, 2, .any⟩, ⟨SPI_STAT.WORD, .ro, .live, 2, .any⟩,
      ⟨SPI_STAT.ABORT, .w1c, .live, 2, .any⟩, ⟨SPI_STAT.HDR_ERR, .w1c, .live, 2, .any⟩,
      ⟨SPI_STAT.LAST_OK, .ro, .live, 2, .any⟩] :=
    fieldsAt_of_plain (r := ⟨0x90200, [], 1, .plain, [⟨SPI_STAT.EDGES, .ro, .live, 2, .any⟩,
      ⟨SPI_STAT.WORD, .ro, .live, 2, .any⟩, ⟨SPI_STAT.ABORT, .w1c, .live, 2, .any⟩,
      ⟨SPI_STAT.HDR_ERR, .w1c, .live, 2, .any⟩, ⟨SPI_STAT.LAST_OK, .ro, .live, 2, .any⟩]⟩) (d := 0) (by decide) rfl (by decide)
  rw [State.readWord, hfields]
  simp [State.spiStatus, SPI_STAT.EDGES, SPI_STAT.WORD, SPI_STAT.ABORT, SPI_STAT.HDR_ERR, SPI_STAT.LAST_OK, Nat.add_assoc]

theorem spiStatus_lt : s.spiStatus < 2 ^ 32 := by
  have hedges : s.rd SPI_STAT.EDGES < 2 ^ 8 := rd_lt s _
  have hword : s.rd SPI_STAT.WORD < 2 ^ 8 := rd_lt s _
  have habort : s.rd SPI_STAT.ABORT < 2 ^ 1 := rd_lt s _
  have herr : s.rd SPI_STAT.HDR_ERR < 2 ^ 1 := rd_lt s _
  have hok : s.rd SPI_STAT.LAST_OK < 2 ^ 1 := rd_lt s _
  unfold State.spiStatus
  omega

/-- A frame begins with the status latched. -/
def State.spiBegun (s : State) (status : Nat) : State :=
  (((s.put SPIC.STAT status).put SPIC.PH 1).put SPIC.DONE 0).put SPIC.BAD 0

theorem exec_spiFall (hans : s.answers = true) (hph : s.rd SPIC.PH = 0) :
    exec .spiChipSelectFall s = .next (s.spiBegun s.spiStatus) := by
  refine congrArg Host.Outcome.next ?_
  rw [hans, hph, ← readWord_spiStat]
  rfl

theorem spiBegun_stat (hv : v < 2 ^ 32) : (s.spiBegun v).rd SPIC.STAT = v := by
  rw [State.spiBegun, rd_put_ne (by decide), rd_put_ne (by decide), rd_put_ne (by decide), rd_put_same]
  exact Nat.mod_eq_of_lt hv

theorem spiBegun_ph : (s.spiBegun v).rd SPIC.PH = 1 := by
  rw [State.spiBegun, rd_put_ne (by decide), rd_put_ne (by decide), rd_put_same]
  rfl

theorem spiBegun_done : (s.spiBegun v).rd SPIC.DONE = 0 := by
  rw [State.spiBegun, rd_put_ne (by decide), rd_put_same]
  rfl

theorem spiBegun_bad : (s.spiBegun v).rd SPIC.BAD = 0 := rd_put_same ..

theorem spiBegun_sameFields : SameFields [SPIC.STAT, SPIC.PH, SPIC.DONE, SPIC.BAD] s (s.spiBegun v) := by
  refine sameFields_put_of (sameFields_put_of (sameFields_put_of (sameFields_put_of (.refl _ s) ?_) ?_) ?_) ?_
  all_goals simp

theorem spiBegun_shown (hexec : exec .spiChipSelectFall s = .next (s.spiBegun v)) (hv : v < 2 ^ 32) :
    ∃ t, exec .spiChipSelectFall s = .next t ∧ t.rd SPIC.STAT = v ∧
      (t.rd SPIC.PH = 1 ∧ t.rd SPIC.DONE = 0 ∧ t.rd SPIC.BAD = 0) ∧ t.ch = s.ch ∧ t.flow = s.flow ∧
      SameFields [SPIC.STAT, SPIC.PH, SPIC.DONE, SPIC.BAD] s t :=
  ⟨_, hexec, spiBegun_stat hv, ⟨spiBegun_ph, spiBegun_done, spiBegun_bad⟩,
    by simp [State.spiBegun], by simp [State.spiBegun], spiBegun_sameFields⟩

/-! ## Header words -/

theorem exec_spiHeader {value : BitVec 32} (hans : s.answers = true) (hph : s.rd SPIC.PH = 1 ∨ s.rd SPIC.PH = 2) :
    exec (.spiHeaderWord value) s = .next (s.spiHeader value.toNat) := by
  have hphase : (decide (s.rd SPIC.PH = 1) || decide (s.rd SPIC.PH = 2)) = true := by simpa using hph
  refine congrArg Host.Outcome.next ?_
  rw [hans, hphase]
  rfl

theorem spiHeader_first (hph : s.rd SPIC.PH = 1) :
    s.spiHeader v = ((s.emit (.spiWord (s.rd SPIC.STAT))).put SPIC.H0 v).put SPIC.PH 2 := by
  simp only [State.spiHeader, hph, if_true]

/-- The second header word stands. -/
def State.spiAddressed (s : State) (v : Nat) : State := ((s.emit (.spiWord 0)).put SPIC.H1 v).put SPIC.PH 3

/-- A header that commits nothing is noted. -/
def State.spiRefused (s : State) : State :=
  (((s.put SPIC.BAD 1).put SPI_STAT.HDR_ERR 1).put SPI_STAT.ABORT 1).bump SPI_CNT.ABORTS |>.raise 130

/-- The first values of a read are latched. -/
def State.spiFirstValues (s : State) : State :=
  ((s.emit (.spiWord 0)).put (SPIC.VAL 0) (s.spiValue 0)).put (SPIC.VAL 1) (s.spiValue 1)

theorem spiHeader_second (hph : s.rd SPIC.PH = 2) : s.spiHeader v =
    ((s.spiAddressed v).when (s.spiAddressed v).spiBad State.spiRefused).when
      ((s.spiAddressed v).when (s.spiAddressed v).spiBad State.spiRefused).spiRead State.spiFirstValues := by
  have hne : ¬ s.rd SPIC.PH = 1 := by omega
  simp only [State.spiHeader, hne, if_false]
  rfl

theorem spiAddressed_h0 : (s.spiAddressed v).rd SPIC.H0 = s.rd SPIC.H0 :=
  (rd_put_ne (by decide)).trans (rd_put_ne (by decide))

theorem spiAddressed_h1 (hv : v < 2 ^ 32) : (s.spiAddressed v).rd SPIC.H1 = v :=
  (rd_put_ne (by decide)).trans ((rd_put_same ..).trans (Nat.mod_eq_of_lt hv))

theorem spiRefused_rd {f : Field} (hq : QuietKey f.key)
    (h : ∀ g ∈ [SPIC.BAD, SPI_STAT.HDR_ERR, SPI_STAT.ABORT, SPI_CNT.ABORTS], f.key ≠ g.key) : s.spiRefused.rd f = s.rd f := by
  refine (rd_raise_quiet (by decide) hq).trans ?_
  rw [rd_bump_ne (h _ (by simp)), rd_put_ne (h _ (by simp)), rd_put_ne (h _ (by simp)), rd_put_ne (h _ (by simp))]

theorem spiFirstValues_rd {f : Field} (h : ∀ g ∈ [SPIC.VAL 0, SPIC.VAL 1], f.key ≠ g.key) : s.spiFirstValues.rd f = s.rd f :=
  (rd_put_ne (h _ (by simp))).trans (rd_put_ne (h _ (by simp)))

/-- The frame reads when its first header word says so. -/
theorem spiRead_of_h0 (h : t.rd SPIC.H0 = s.rd SPIC.H0) : t.spiRead = s.spiRead := by simp only [State.spiRead, h]

/-- What the map lets a header name (R437). -/
def headerGood (h0 h1 : Nat) : Prop :=
  bits h0 6 24 = 0 ∧ h1 / 2 ^ 28 = 0 ∧ h1 % 4 = 0 ∧ h1 + (if bit h0 30 = 1 then 4 * bits h0 0 6 else 0) ≤ 0xFFFFFFC

theorem spiBad_of_good (hv : v < 2 ^ 32) (h : headerGood (s.rd SPIC.H0) v) : (s.spiAddressed v).spiBad = false := by
  obtain ⟨hres, htop, hlow, hend⟩ := h
  have hnot : ¬ 0xFFFFFFC < v + (if bit (s.rd SPIC.H0) 30 = 1 then 4 * (bits (s.rd SPIC.H0) 0 6 + 1 - 1) else 0) := by
    rw [Nat.add_sub_cancel]
    exact Nat.not_lt.2 hend
  simp only [State.spiBad, State.spiAddr, State.spiLen, spiAddressed_h0, spiAddressed_h1 hv, hres, htop, hlow, hnot, ne_eq,
    not_true_eq_false, decide_false, Bool.or_self]

theorem spiBad_of_bad (hv : v < 2 ^ 32) (h : bits (s.rd SPIC.H0) 6 24 ≠ 0 ∨ v / 2 ^ 28 ≠ 0 ∨ v % 4 ≠ 0) :
    (s.spiAddressed v).spiBad = true := by
  simp only [State.spiBad, spiAddressed_h0, spiAddressed_h1 hv, Bool.or_eq_true, decide_eq_true_eq]
  tauto

theorem spiHeader_of_good (hph : s.rd SPIC.PH = 2) (hv : v < 2 ^ 32) (h : headerGood (s.rd SPIC.H0) v) :
    s.spiHeader v = (s.spiAddressed v).when s.spiRead State.spiFirstValues := by
  rw [spiHeader_second hph, spiBad_of_good hv h, when_false, spiRead_of_h0 spiAddressed_h0]

theorem spiHeader_of_bad (hph : s.rd SPIC.PH = 2) (hv : v < 2 ^ 32)
    (h : bits (s.rd SPIC.H0) 6 24 ≠ 0 ∨ v / 2 ^ 28 ≠ 0 ∨ v % 4 ≠ 0) :
    s.spiHeader v = (s.spiAddressed v).spiRefused.when s.spiRead State.spiFirstValues := by
  have hread : (s.spiAddressed v).spiRefused.spiRead = s.spiRead :=
    spiRead_of_h0 ((spiRefused_rd (quiet_of (by decide)) (by decide)).trans spiAddressed_h0)
  rw [spiHeader_second hph, spiBad_of_bad hv h, when_true, hread]

/-- The latched values are the only fields that a read's header reaches besides. -/
theorem firstValues_rd {b : Bool} {f : Field} (h : ∀ g ∈ [SPIC.VAL 0, SPIC.VAL 1], f.key ≠ g.key) :
    (s.when b State.spiFirstValues).rd f = s.rd f := by
  cases b
  · rfl
  · exact spiFirstValues_rd h

theorem spiRefused_fieldsKept {l : List Field} {u : State} (h : FieldsKept l [130] [] u s)
    (hl : ∀ f ∈ [SPIC.BAD, SPI_STAT.HDR_ERR, SPI_STAT.ABORT, SPI_CNT.ABORTS], f ∈ l) :
    FieldsKept l [130] [] u s.spiRefused := by
  refine fieldsKept_raise (fieldsKept_bump_of (fieldsKept_put_of (fieldsKept_put_of (fieldsKept_put_of h ?_) ?_) ?_) ?_)
    (noticed_of_mem (by simp))
  all_goals exact hl _ (by simp)

theorem firstValues_fieldsKept {l : List Field} {src pmc : List Nat} {u : State} {b : Bool} (h : FieldsKept l src pmc u s)
    (hl : ∀ f ∈ [SPIC.VAL 0, SPIC.VAL 1], f ∈ l) : FieldsKept l src pmc u (s.when b State.spiFirstValues) :=
  fieldsKept_when_fn h fun w hw => fieldsKept_put_of (fieldsKept_put_of (fieldsKept_of_regs hw rfl) (hl _ (by simp)))
    (hl _ (by simp))

/-! ## Data words -/

theorem exec_spiData {value : BitVec 32} (hans : s.answers = true) (hph : s.rd SPIC.PH = 3)
    (hlen : s.rd SPIC.DONE + 1 < s.spiLen) : exec (.spiDataWord value) s = .next
      ((s.spiCommit (s.rd SPIC.DONE) value.toNat).when ((s.spiCommit (s.rd SPIC.DONE) value.toNat).rd SPIC.PH = 3)
        (fun w => (w.spiDeliver (w.rd SPIC.DONE)).addWrap SPIC.DONE 1)) := by
  refine congrArg Host.Outcome.next ?_
  rw [hans, decide_eq_true hph, decide_eq_true hlen]
  rfl

theorem spiRead_of_bit (h : bit (s.rd SPIC.H0) 31 = 0) : s.spiRead = false := by simp [State.spiRead, h]

theorem spiRead_of_bit_one (h : bit (s.rd SPIC.H0) 31 = 1) : s.spiRead = true := by simp [State.spiRead, h]

theorem spiCommit_of_write (hbad : s.on SPIC.BAD = false) (hwrite : bit (s.rd SPIC.H0) 31 = 0) :
    s.spiCommit k v = s.writeAt ⟨2, s.spiAddr k, v, 15⟩ := by
  simp only [State.spiCommit, hbad, spiRead_of_bit hwrite, Bool.false_eq_true, if_false]

theorem spiCommit_of_read (hbad : s.on SPIC.BAD = false) (hread : bit (s.rd SPIC.H0) 31 = 1) :
    s.spiCommit k v = s.spiReadCommit (s.spiAddr k) (s.rd (SPIC.VAL 0)) := by
  simp only [State.spiCommit, hbad, spiRead_of_bit_one hread, Bool.false_eq_true, if_false, if_true]

/-- A data word of a write counts once its write is done. -/
theorem exec_spiData_write {value : BitVec 32} {u : State} (hans : s.answers = true) (hph : s.rd SPIC.PH = 3)
    (hlen : s.rd SPIC.DONE + 1 < s.spiLen) (hbad : s.on SPIC.BAD = false) (hwrite : bit (s.rd SPIC.H0) 31 = 0)
    (hu : s.writeAt ⟨2, s.spiAddr (s.rd SPIC.DONE), value.toNat, 15⟩ = u) (huph : u.rd SPIC.PH = 3)
    (huh : u.rd SPIC.H0 = s.rd SPIC.H0) : exec (.spiDataWord value) s = .next (u.addWrap SPIC.DONE 1) := by
  have hread : u.spiRead = false := (spiRead_of_h0 huh).trans (spiRead_of_bit hwrite)
  have hdeliver : ∀ k, u.spiDeliver k = u := fun k => by rw [State.spiDeliver, hread, when_false]
  rw [exec_spiData hans hph hlen, spiCommit_of_write hbad hwrite, hu, decide_eq_true huph, when_true, hdeliver]

theorem spiLen_le : s.spiLen ≤ 64 := by
  have hbits : bits (s.rd SPIC.H0) 0 6 < 2 ^ 6 := Nat.mod_lt _ (by decide)
  unfold State.spiLen
  omega

/-- A read of MGT_REFUSE_INFO by SPI counts down what it delivered (R436). -/
def State.refuseCounted (s : State) : State :=
  s.put MGT_REFUSE_INFO.COUNT (s.rd MGT_REFUSE_INFO.COUNT - MGT_REFUSE_INFO.COUNT.of (s.rd (SPIC.VAL 0)))

theorem refuseCounted_count :
    s.refuseCounted.rd MGT_REFUSE_INFO.COUNT = s.rd MGT_REFUSE_INFO.COUNT - s.rd (SPIC.VAL 0) / 2 ^ 16 := by
  have hcount : s.rd MGT_REFUSE_INFO.COUNT < 2 ^ 16 := rd_lt s _
  have hval : s.rd (SPIC.VAL 0) < 2 ^ 32 := rd_lt s _
  have hof : MGT_REFUSE_INFO.COUNT.of (s.rd (SPIC.VAL 0)) = s.rd (SPIC.VAL 0) / 2 ^ 16 :=
    Nat.mod_eq_of_lt (b := 2 ^ 16) (Nat.div_lt_of_lt_mul hval)
  rw [State.refuseCounted, hof, rd_put_same]
  exact Nat.mod_eq_of_lt (b := 2 ^ 16) (by omega)

/-! ## The rise of the chip select -/

/-- The frame is counted, and no word has committed yet. -/
def State.spiCounted (s : State) : State := (s.bump SPI_CNT.FRAMES).put SPI_STAT.LAST_OK 0

theorem exec_spiRise {value : BitVec 32} (hans : s.answers = true) (hph : s.rd SPIC.PH = 3) (hbad : s.on SPIC.BAD = false) :
    exec (.spiChipSelectRise edges value) s = .next ((s.spiCounted.spiEnd value.toNat edges).put SPIC.PH 0) := by
  have hne : decide (s.rd SPIC.PH ≠ 0) = true := by simp [hph]
  have hlt : ¬ s.rd SPIC.PH < 3 := by omega
  refine congrArg Host.Outcome.next ?_
  rw [hans, hne, Bool.true_and, when_true]
  simp only [hlt, if_false, hbad, Bool.false_eq_true]
  rfl

theorem spiCounted_rd {f : Field} (h : ∀ g ∈ [SPI_CNT.FRAMES, SPI_STAT.LAST_OK], f.key ≠ g.key) :
    s.spiCounted.rd f = s.rd f := (rd_put_ne (h _ (by simp))).trans (rd_bump_ne (h _ (by simp)))

theorem spiCounted_frames : s.spiCounted.rd SPI_CNT.FRAMES = s.oneMore SPI_CNT.FRAMES :=
  (rd_put_ne (by decide)).trans (rd_bump_same _)

theorem spiEnd_of_write (hwrite : bit (s.rd SPIC.H0) 31 = 0) : s.spiEnd v edges =
    if edges = 32 ∧ s.rd SPIC.DONE + 1 = s.spiLen then (s.put SPI_STAT.LAST_OK 1).spiCommit (s.rd SPIC.DONE) v
    else s.spiDiscard (s.rd SPIC.DONE + 2) edges := by
  simp only [State.spiEnd, State.spiIndex, spiRead_of_bit hwrite, Bool.false_and, Bool.and_false, Bool.false_eq_true, if_false,
    Nat.not_lt_zero, Nat.sub_zero, when_false, Bool.and_eq_true, decide_eq_true_eq]

/-- Whether a window may write turns on three registers. -/
theorem writeOpen_congr {win lvl : Nat} (h : ∀ f ∈ [DEV_MODE.MODE, MGT_WIN.PRIV win, MGT_STAT.PWARN], t.rd f = s.rd f)
    (hopen : s.writeOpen win lvl) : t.writeOpen win lvl := by
  simp only [List.forall_mem_cons] at h
  obtain ⟨hmode, hlvl, hwarn, -⟩ := h
  obtain ⟨hans, hle, hoff⟩ := hopen
  refine ⟨?_, ?_, ?_⟩
  · rwa [State.answers, State.mode, hmode]
  · rwa [State.level, hlvl]
  · rwa [State.on, hwarn]

theorem spiDiscard_rd {w : Nat} {f : Field} (hq : QuietKey f.key)
    (h : ∀ g ∈ [SPI_STAT.ABORT, SPI_STAT.WORD, SPI_STAT.EDGES, SPI_CNT.ABORTS], f.key ≠ g.key) :
    (s.spiDiscard w edges).rd f = s.rd f := by
  refine (rd_raise_quiet (by decide) hq).trans ?_
  rw [rd_bump_ne (h _ (by simp)), rd_put_ne (h _ (by simp)), rd_put_ne (h _ (by simp)), rd_put_ne (h _ (by simp))]

theorem spiDiscard_shows {w : Nat} (hw : w < 2 ^ 8) : (s.spiDiscard w edges).rd SPI_STAT.ABORT = 1 ∧
    (s.spiDiscard w edges).rd SPI_STAT.WORD = w ∧ (s.spiDiscard w edges).rd SPI_STAT.EDGES = Nat.min 255 edges ∧
    (s.spiDiscard w edges).rd SPI_CNT.ABORTS = s.oneMore SPI_CNT.ABORTS := by
  have hmin : Nat.min 255 edges < 2 ^ 8 := Nat.lt_of_le_of_lt (Nat.min_le_left 255 edges) (by decide)
  refine ⟨?_, ?_, ?_, ?_⟩
  · refine (rd_raise_quiet (f := SPI_STAT.ABORT) (by decide) (quiet_of (by decide))).trans ?_
    rw [rd_bump_ne (by decide), rd_put_ne (by decide), rd_put_ne (by decide), rd_put_same]
    rfl
  · refine (rd_raise_quiet (f := SPI_STAT.WORD) (by decide) (quiet_of (by decide))).trans ?_
    rw [rd_bump_ne (by decide), rd_put_ne (by decide), rd_put_same]
    exact Nat.mod_eq_of_lt hw
  · refine (rd_raise_quiet (f := SPI_STAT.EDGES) (by decide) (quiet_of (by decide))).trans ?_
    rw [rd_bump_ne (by decide), rd_put_same]
    exact Nat.mod_eq_of_lt hmin
  · refine (rd_raise_quiet (f := SPI_CNT.ABORTS) (by decide) (quiet_of (by decide))).trans ?_
    rw [rd_bump_same, State.oneMore, rd_put_ne (by decide), rd_put_ne (by decide), rd_put_ne (by decide), State.oneMore]

theorem spiDiscard_pend {w : Nat} : (s.spiDiscard w edges).rd (IRQ_PEND 130) = 1 := raise_pend (by decide)

theorem spiDiscard_sameArea {w : Nat} (x : Area) : SameArea s (s.spiDiscard w edges) x :=
  (kept_spiDiscard (A := fun _ => False) (.refl s)).same x id

@[simp] theorem spiDiscard_ch {w : Nat} : (s.spiDiscard w edges).ch = s.ch := spiDiscard_sameArea .ch
@[simp] theorem spiDiscard_flow {w : Nat} : (s.spiDiscard w edges).flow = s.flow := spiDiscard_sameArea .flow

theorem spiDiscard_fieldsKept {l : List Field} {u : State} {w : Nat} (h : FieldsKept l [130] [] u s)
    (hl : ∀ f ∈ [SPI_STAT.ABORT, SPI_STAT.WORD, SPI_STAT.EDGES, SPI_CNT.ABORTS], f ∈ l) :
    FieldsKept l [130] [] u (s.spiDiscard w edges) := by
  refine fieldsKept_raise (fieldsKept_bump_of (fieldsKept_put_of (fieldsKept_put_of (fieldsKept_put_of h ?_) ?_) ?_) ?_)
    (noticed_of_mem (by simp))
  all_goals exact hl _ (by simp)

/-- The last word of a write commits with its exact edges. -/
theorem exec_spiRise_commit {value : BitVec 32} (hans : s.answers = true) (hph : s.rd SPIC.PH = 3)
    (hbad : s.on SPIC.BAD = false) (hwrite : bit (s.rd SPIC.H0) 31 = 0) (hlen : s.rd SPIC.DONE + 1 = s.spiLen) :
    exec (.spiChipSelectRise 32 value) s = .next
      (((s.spiCounted.put SPI_STAT.LAST_OK 1).writeAt ⟨2, s.spiAddr (s.rd SPIC.DONE), value.toNat, 15⟩).put SPIC.PH 0) := by
  have hrd : ∀ f : Field, (∀ g ∈ [SPI_CNT.FRAMES, SPI_STAT.LAST_OK], f.key ≠ g.key) →
      (s.spiCounted.put SPI_STAT.LAST_OK 1).rd f = s.rd f := fun f hf => (rd_put_ne (hf _ (by simp))).trans (spiCounted_rd hf)
  have hh0 : s.spiCounted.rd SPIC.H0 = s.rd SPIC.H0 := spiCounted_rd (by decide)
  have hk : s.spiCounted.rd SPIC.DONE = s.rd SPIC.DONE := spiCounted_rd (by decide)
  have hlen' : s.rd SPIC.DONE + 1 = s.spiCounted.spiLen := by rwa [State.spiLen, hh0]
  have hbad' : (s.spiCounted.put SPI_STAT.LAST_OK 1).on SPIC.BAD = false := by rwa [State.on, hrd _ (by decide)]
  have haddr : (s.spiCounted.put SPI_STAT.LAST_OK 1).spiAddr (s.rd SPIC.DONE) = s.spiAddr (s.rd SPIC.DONE) := by
    rw [State.spiAddr, hrd _ (by decide), hrd _ (by decide), State.spiAddr]
  have hwrite' : bit ((s.spiCounted.put SPI_STAT.LAST_OK 1).rd SPIC.H0) 31 = 0 := by rwa [hrd _ (by decide)]
  rw [exec_spiRise hans hph hbad, spiEnd_of_write (by rwa [hh0]), hk, if_pos ⟨rfl, hlen'⟩, spiCommit_of_write hbad' hwrite', haddr]

/-- Any other rise discards the word. -/
theorem exec_spiRise_discard {value : BitVec 32} (hans : s.answers = true) (hph : s.rd SPIC.PH = 3)
    (hbad : s.on SPIC.BAD = false) (hwrite : bit (s.rd SPIC.H0) 31 = 0)
    (hnot : edges ≠ 32 ∨ s.rd SPIC.DONE + 1 ≠ s.spiLen) :
    exec (.spiChipSelectRise edges value) s =
      .next ((s.spiCounted.spiDiscard (s.rd SPIC.DONE + 2) edges).put SPIC.PH 0) := by
  have hh0 : s.spiCounted.rd SPIC.H0 = s.rd SPIC.H0 := spiCounted_rd (by decide)
  have hk : s.spiCounted.rd SPIC.DONE = s.rd SPIC.DONE := spiCounted_rd (by decide)
  have hcond : ¬ (edges = 32 ∧ s.rd SPIC.DONE + 1 = s.spiCounted.spiLen) := by
    rw [State.spiLen, hh0]
    exact fun ⟨he, hl⟩ => hnot.elim (fun h => h he) fun h => h hl
  rw [exec_spiRise hans hph hbad, spiEnd_of_write (by rwa [hh0]), hk, if_neg hcond]

/-- A data word of a read of MGT_REFUSE_INFO. -/
theorem exec_spiData_refuseInfo {value : BitVec 32} (hans : s.answers = true) (hph : s.rd SPIC.PH = 3)
    (hbad : s.on SPIC.BAD = false) (hread : bit (s.rd SPIC.H0) 31 = 1) (hlen : s.rd SPIC.DONE + 1 < s.spiLen)
    (haddr : s.spiAddr (s.rd SPIC.DONE) = 0x90044) (hlvl : 1 ≤ s.level 2) : exec (.spiDataWord value) s = .next
      ((((s.refuseCounted.emit (.spiWord (s.rd (SPIC.VAL 0)))).put (SPIC.VAL 0) (s.rd (SPIC.VAL 1))).put (SPIC.VAL 1)
        (s.refuseCounted.spiValue (s.rd SPIC.DONE + 2))).addWrap SPIC.DONE 1) := by
  have hrow : readLevel 0x90044 = 1 := by decide
  have hlevel : ¬ s.level 2 < readLevel 0x90044 := by omega
  have hcommit : s.spiCommit (s.rd SPIC.DONE) value.toNat = s.refuseCounted := by
    rw [spiCommit_of_read hbad hread, haddr, State.spiReadCommit, if_neg hlevel, readEffect_refuseInfo, State.refuseCounted]
  have hph' : s.refuseCounted.rd SPIC.PH = 3 := (rd_put_ne (by decide)).trans hph
  have hread' : s.refuseCounted.spiRead = true := (spiRead_of_h0 (rd_put_ne (by decide))).trans (spiRead_of_bit_one hread)
  have hval : ∀ j, j < 2 → s.refuseCounted.rd (SPIC.VAL j) = s.rd (SPIC.VAL j) := fun j hj =>
    rd_put_ne (key_ne_of_gt (by omega))
  have hdone : s.refuseCounted.rd SPIC.DONE = s.rd SPIC.DONE := rd_put_ne (by decide)
  rw [exec_spiData hans hph hlen, hcommit, decide_eq_true hph', when_true, hdone, State.spiDeliver, hread', when_true,
    hval 0 (by decide), hval 1 (by decide)]

end

/-! ## The obligation -/

/-- Settles O54: a frame's words, and its end, as R435 to R437 take them. -/
theorem spiFramesCommit : Obligations.SpiFramesCommit := by
  refine ⟨?fall, ?first, ?writeHeader, ?readHeader, ?badHeader, ?dmaCtrl, ?anyWrite, ?refuseInfo, ?commit, ?discard⟩
  case fall =>
    intro s hans hph
    have hshown := spiBegun_shown (exec_spiFall hans hph) spiStatus_lt
    rwa [State.spiStatus] at hshown
  case first =>
    intro s value hans hph
    have hexec := exec_spiHeader (value := value) hans (.inl hph)
    rw [spiHeader_first hph] at hexec
    refine ⟨_, hexec, rfl, ⟨?_, rd_put_same ..⟩, rfl, rfl, ?_⟩
    · exact (rd_put_ne (by decide)).trans ((rd_put_same ..).trans (Nat.mod_eq_of_lt value.isLt))
    · refine sameFields_put_of (sameFields_put_of (sameFields_of_regs (.refl _ s) rfl) ?_) ?_
      all_goals simp
  case writeHeader =>
    intro s value hans hph ⟨hres, hwrite⟩ ⟨htop, hlow⟩ hend
    have hexec := exec_spiHeader (value := value) hans (.inr hph)
    rw [spiHeader_of_good hph value.isLt ⟨hres, htop, hlow, hend⟩, spiRead_of_bit hwrite, when_false] at hexec
    refine ⟨_, hexec, rfl, ⟨spiAddressed_h1 value.isLt, rd_put_same ..⟩, rfl, rfl, ?_⟩
    refine sameFields_put_of (sameFields_put_of (sameFields_of_regs (.refl _ s) rfl) ?_) ?_
    all_goals simp
  case readHeader =>
    intro s value hans hph ⟨hres, hread⟩ ⟨htop, hlow⟩ hend
    have hexec := exec_spiHeader (value := value) hans (.inr hph)
    rw [spiHeader_of_good hph value.isLt ⟨hres, htop, hlow, hend⟩, spiRead_of_bit_one hread, when_true] at hexec
    refine ⟨_, hexec, rfl, ⟨?_, ?_⟩, rfl, rfl, ?_⟩
    · exact (spiFirstValues_rd (by decide)).trans (spiAddressed_h1 value.isLt)
    · exact (spiFirstValues_rd (by decide)).trans (rd_put_same ..)
    · refine sameFields_put_of (sameFields_put_of (sameFields_of_regs (t := s.spiAddressed value.toNat) (sameFields_put_of
        (sameFields_put_of (sameFields_of_regs (.refl _ s) rfl) ?_) ?_) rfl) ?_) ?_
      all_goals simp
  case badHeader =>
    intro s value hans hph hbad
    have hexec := exec_spiHeader (value := value) hans (.inr hph)
    rw [spiHeader_of_bad hph value.isLt hbad] at hexec
    refine ⟨_, hexec, ⟨?_, ?_, ?_⟩, ?_, ?_, exec_ch hexec (by simp [areasOf]), exec_flow hexec (by simp [areasOf]), ?_⟩
    · refine (firstValues_rd (by decide)).trans ((rd_raise_quiet (by decide) (quiet_of (by decide))).trans ?_)
      exact (rd_bump_ne (by decide)).trans ((rd_put_ne (by decide)).trans (rd_put_same ..))
    · refine (firstValues_rd (by decide)).trans ((rd_raise_quiet (by decide) (quiet_of (by decide))).trans ?_)
      exact (rd_bump_ne (by decide)).trans (rd_put_same ..)
    · refine (firstValues_rd (by decide)).trans ((rd_raise_quiet (f := SPI_CNT.ABORTS) (by decide) (quiet_of (by decide))).trans ?_)
      rw [rd_bump_same, State.oneMore, rd_put_ne (by decide), rd_put_ne (by decide), rd_put_ne (by decide), State.spiAddressed,
        rd_put_ne (by decide), rd_put_ne (by decide)]
      rfl
    · exact (firstValues_rd (by decide)).trans (raise_pend (by decide))
    · refine (firstValues_rd (by decide)).trans ((rd_raise_quiet (by decide) (quiet_of (by decide))).trans ?_)
      exact (rd_bump_ne (by decide)).trans ((rd_put_ne (by decide)).trans ((rd_put_ne (by decide)).trans (rd_put_same ..)))
    · refine firstValues_fieldsKept (spiRefused_fieldsKept (fieldsKept_put_of (fieldsKept_put_of (fieldsKept_of_regs
        (.refl _ _ _ s) rfl) ?_) ?_) ?_) ?_
      all_goals simp
  case dmaCtrl =>
    intro s value hans hph hbad hwrite hlen haddr hopen
    have hcommit : s.writeAt ⟨2, s.spiAddr (s.rd SPIC.DONE), value.toNat, 15⟩ = s.put MGT_DMA_CTRL.RLX (bits value.toNat 0 1) := by
      rw [haddr]
      exact writeAt_dmaCtrl_of_open hopen
    have hdone := spiLen_le (s := s)
    refine ⟨_, exec_spiData_write hans hph hlen hbad hwrite hcommit ((rd_put_ne (by decide)).trans hph) (rd_put_ne (by decide)),
      ?_, ?_, rfl, rfl, rfl, ?_⟩
    · refine (rd_addWrap_ne (by decide)).trans ((rd_put_same ..).trans (Nat.mod_eq_of_lt (Nat.mod_lt _ (by decide))))
    · refine (rd_put_same ..).trans ?_
      rw [rd_put_ne (by decide)]
      exact Nat.mod_eq_of_lt (b := 2 ^ 7) (by omega)
    · refine sameFields_put_of (sameFields_put_of (.refl _ s) ?_) ?_
      all_goals simp
  case anyWrite =>
    intro s value hans hph hbad hwrite hlen haddr hph' hh0
    have hafter : s.after (.registerWrite 2 (BitVec.ofNat 32 (s.spiAddr (s.rd SPIC.DONE))) value 15) =
        s.writeAt ⟨2, s.spiAddr (s.rd SPIC.DONE), value.toNat, 15⟩ := by
      have hmod : (BitVec.ofNat 32 (s.spiAddr (s.rd SPIC.DONE))).toNat = s.spiAddr (s.rd SPIC.DONE) := by
        rw [BitVec.toNat_ofNat]
        exact Nat.mod_eq_of_lt (haddr.trans (by decide))
      have hexec : exec (.registerWrite 2 (BitVec.ofNat 32 (s.spiAddr (s.rd SPIC.DONE))) value 15) s =
          .next (s.writeAt ⟨2, (BitVec.ofNat 32 (s.spiAddr (s.rd SPIC.DONE))).toNat, value.toNat, 15⟩) := rfl
      rw [State.after, hexec, hmod]
    rw [hafter] at hph' hh0 ⊢
    exact ⟨_, exec_spiData_write hans hph hlen hbad hwrite rfl hph' hh0, sameFields_put _ _ _, rfl, rfl⟩
  case refuseInfo =>
    intro s value hans hph hbad hread hlen haddr hlvl
    have hdone := spiLen_le (s := s)
    refine ⟨_, exec_spiData_refuseInfo hans hph hbad hread hlen haddr hlvl, ?_, ?_, ?_, rfl, rfl, rfl, ?_⟩
    · refine (rd_addWrap_ne (by decide)).trans ((rd_put_ne (by decide)).trans ((rd_put_ne (by decide)).trans ?_))
      exact refuseCounted_count
    · refine (rd_put_same ..).trans ?_
      rw [rd_put_ne (by decide), rd_put_ne (by decide), emit_rd, State.refuseCounted, rd_put_ne (by decide)]
      exact Nat.mod_eq_of_lt (b := 2 ^ 7) (by omega)
    · refine (rd_addWrap_ne (by decide)).trans ((rd_put_ne (by decide)).trans ((rd_put_same ..).trans ?_))
      exact Nat.mod_eq_of_lt (rd_lt s _)
    · refine sameFields_put_of (sameFields_put_of (sameFields_put_of (sameFields_of_regs (t := s.refuseCounted)
        (sameFields_put_of (.refl _ s) ?_) rfl) ?_) ?_) ?_
      all_goals simp
  case commit =>
    intro s value hans hph hbad hwrite hlen haddr hopen
    have hopen' : (s.spiCounted.put SPI_STAT.LAST_OK 1).writeOpen 2 3 :=
      writeOpen_congr (fun f hf => (rd_put_ne (by revert f; decide)).trans (spiCounted_rd (by revert f; decide))) hopen
    have hexec := exec_spiRise_commit (value := value) hans hph hbad hwrite hlen
    rw [haddr, writeAt_dmaCtrl_of_open hopen'] at hexec
    refine ⟨_, hexec, ?_, ⟨?_, ?_, rd_put_same ..⟩, rfl, rfl, rfl, ?_⟩
    · exact (rd_put_ne (by decide)).trans ((rd_put_same ..).trans (Nat.mod_eq_of_lt (Nat.mod_lt _ (by decide))))
    · exact (rd_put_ne (by decide)).trans ((rd_put_ne (by decide)).trans (rd_put_same ..))
    · exact (rd_put_ne (by decide)).trans ((rd_put_ne (by decide)).trans ((rd_put_ne (by decide)).trans spiCounted_frames))
    · refine sameFields_put_of (sameFields_put_of (sameFields_put_of (sameFields_put_of (sameFields_put_of (.refl _ s) ?_) ?_)
        ?_) ?_) ?_
      all_goals simp
  case discard =>
    intro s edges value hans hph hbad hwrite hnot hdone
    obtain ⟨habort, hword, hedges, haborts⟩ := spiDiscard_shows (s := s.spiCounted) (edges := edges) (w := s.rd SPIC.DONE + 2)
      (by omega)
    refine ⟨_, exec_spiRise_discard hans hph hbad hwrite hnot, ⟨(rd_put_ne (by decide)).trans habort,
      (rd_put_ne (by decide)).trans hword, (rd_put_ne (by decide)).trans hedges⟩, ⟨?_, ?_, ?_⟩,
      (rd_put_ne (by decide)).trans spiDiscard_pend, rd_put_same .., ?_, ?_, ?_⟩
    · exact (rd_put_ne (by decide)).trans ((spiDiscard_rd (quiet_of (by decide)) (by decide)).trans (rd_put_same ..))
    · refine (rd_put_ne (by decide)).trans (haborts.trans ?_)
      rw [State.oneMore, spiCounted_rd (by decide), State.oneMore]
    · exact (rd_put_ne (by decide)).trans ((spiDiscard_rd (quiet_of (by decide)) (by decide)).trans spiCounted_frames)
    · simp [State.spiCounted, State.bump, State.addSat]
    · simp [State.spiCounted, State.bump, State.addSat]
    · refine fieldsKept_put_of (spiDiscard_fieldsKept (fieldsKept_put_of (fieldsKept_bump_of (.refl _ _ _ s) ?_) ?_) ?_) ?_
      all_goals simp

end Sys2Proof.Machine
end

section
/-! SUPPORT. What the load of a profile sets in the transmitter and in the receive stages (R76, R140, R144, R150, R158), and what the
supervisory receiver shows as it stops and starts (R258, R269). -/

set_option Elab.async false

namespace Sys2Proof.Machine

section
variable {l : List Field} {s t : State} {n p : Nat}

/-! ## Frames -/

/-- Fields that a profile load of the receive stages sets besides the profile's number. -/
def rxRestFields (n : Nat) : List Field :=
  [LDS_NLC_STAT.TRIPLETS n, LDS_NLC_STAT.ALPHA_NOW n, FEC_STAT.CODE n, LDS_TILE_SUM.CD n, LDS_TILE_SUM.MIMO n,
   LDS_TILE_SUM.NLC n, LDS_TILE_BUF.CWBUF n, FEC_BUDGET.ENG n, FEC_BUDGET.EFF n] ++
  (List.range 96).flatMap (fun k => [LDS_TILE_STAT.STAGE n k, LDS_TILE_STAT.STATE n k])

theorem rxProfileFields_eq : rxProfileFields n = LDSC.RXPROF n :: rxRestFields n := rfl

theorem sameFields_tileSum (h : SameFields l s t) (hl : ∀ f ∈ rxRestFields n, f ∈ l) : SameFields l s (t.tileSum n) := by
  unfold State.tileSum
  split
  · refine sameFields_put_of (sameFields_put_of (sameFields_put_of h ?_) ?_) ?_
    all_goals exact hl _ (by simp [rxRestFields])
  · exact h

theorem sameFields_rebudget (h : SameFields l s t) (hl : ∀ f ∈ rxRestFields n, f ∈ l) : SameFields l s (t.rebudget n) := by
  refine sameFields_put_of (sameFields_put_of (sameFields_put_of h ?_) ?_) ?_
  all_goals exact hl _ (by simp [rxRestFields])

theorem tile_mem {k : Nat} (hk : k ∈ List.range 96) :
    LDS_TILE_STAT.STAGE n k ∈ rxRestFields n ∧ LDS_TILE_STAT.STATE n k ∈ rxRestFields n := by
  simp only [rxRestFields, List.mem_append, List.mem_flatMap]
  exact ⟨.inr ⟨k, hk, by simp⟩, .inr ⟨k, hk, by simp⟩⟩

/-- A profile load names the profile, and then sets the rest. -/
theorem loadRx_rest {pr : Profile} (hp : s.profile n p = some pr) :
    SameFields (rxRestFields n) (s.put (LDSC.RXPROF n) p) (s.loadRx n p) := by
  unfold State.loadRx
  rw [hp]
  refine sameFields_rebudget (sameFields_tileSum (sameFields_put_of (sameFields_put_of (sameFields_put_of
    (sameFields_each (sameFields_of_regs (.refl _ _) (onChan_regs ..)) fun k hk u hu =>
      sameFields_when_fn (sameFields_put_of hu (tile_mem hk).1) fun v hv => sameFields_put_of hv (tile_mem hk).2)
    ?_) ?_) ?_) fun _ h => h) fun _ h => h
  all_goals simp [rxRestFields]

theorem loadRx_of_none (hp : s.profile n p = none) : s.loadRx n p = s := by
  unfold State.loadRx
  rw [hp]

theorem sameFields_loadRx (h : SameFields l s t) (hl : ∀ f ∈ rxProfileFields n, f ∈ l) : SameFields l s (t.loadRx n p) := by
  rw [rxProfileFields_eq] at hl
  cases hp : t.profile n p with
  | none => rwa [loadRx_of_none hp]
  | some pr =>
    exact (sameFields_put_of h (hl _ (List.mem_cons_self ..))).trans ((loadRx_rest hp).mono fun f hf =>
      hl f (List.mem_cons_of_mem _ hf))

/-- Fields that the transmitter takes from a profile, besides the selection. -/
def loadTxFields (n : Nat) : List Field :=
  [LDS_LMODE_STAT.ACTIVE n, LDS_TX_STAT.ROLL n, LDS_TX_STAT.SHAPED n, LDS_TX_DM.K n, LDS_TX_COMP0.CNT1 n, LDS_TX_COMP0.CNT3 n,
   LDS_TX_COMP1.CNT5 n, LDS_TX_COMP1.CNT7 n, LFR_GEOM0.FBYTES n]

theorem txProfileFields_eq : txProfileFields n = LDS_LMODE.PROFILE n :: (LDS_LMODE.PROFILE n).inForce :: loadTxFields n := rfl

theorem sameFields_loadTx (h : SameFields l s t) (hl : ∀ f ∈ loadTxFields n, f ∈ l) : SameFields l s (t.loadTx n p) := by
  unfold State.loadTx
  split
  · refine sameFields_put_of (sameFields_put_of (sameFields_put_of (sameFields_put_of (sameFields_put_of (sameFields_put_of
      (sameFields_flag_of (sameFields_put_of (sameFields_put_of h ?_) ?_) ?_) ?_) ?_) ?_) ?_) ?_) ?_
    all_goals exact hl _ (by simp [loadTxFields])
  · exact h

theorem sameFields_selectProfile (h : SameFields l s t) (hl : ∀ f ∈ txProfileFields n, f ∈ l) :
    SameFields l s (t.selectProfile n p) := by
  rw [txProfileFields_eq] at hl
  refine sameFields_loadTx (sameFields_put_of (sameFields_put_of h ?_) ?_) fun f hf => hl f (by simp [hf])
  all_goals exact hl _ (by simp)

theorem sameFields_chipRest {st : Nat} (h : SameFields l s t) (hl : ∀ f ∈ chipFields n, f ∈ l) :
    SameFields l s (t.chipRest n st) := by
  refine sameFields_put_of (sameFields_put_of (sameFields_put_of (sameFields_put_of (sameFields_put_of (sameFields_put_of
    (sameFields_put_of (sameFields_put_of (sameFields_put_of h ?_) ?_) ?_) ?_) ?_) ?_) ?_) ?_) ?_
  all_goals exact hl _ (by simp [chipFields])

theorem sameFields_iscMode (h : SameFields l s t) (hl : ∀ f ∈ chipFields n, f ∈ l) : SameFields l s (t.iscMode n) := by
  unfold State.iscMode
  have hins : LDS_TX_STAT.ISC_INS n ∈ l := hl _ (by simp [chipFields])
  split
  · exact sameFields_put_of (sameFields_chipRest h hl) hins
  · split
    · exact sameFields_flag_of (sameFields_chipRest h hl) hins
    · exact h

theorem sameFields_oorRefresh (h : SameFields l s t) (hoor : LDS_CD_EST.OOR n ∈ l) (hrun : LDSC.EST_RUN n ∈ l) :
    SameFields l s (t.oorRefresh n) := by
  unfold State.oorRefresh
  split
  · exact sameFields_when_fn (sameFields_flag_of h hoor) fun u hu => sameFields_flag_of hu hrun
  · exact h

/-- Fields that the start of the main receiver sets: the profile loaded, and step 2 of Table 6.4. -/
def acqBeginFields (n : Nat) : List Field := LDS_ACQ_STAT.STEP n :: rxProfileFields n

theorem sameFields_acqBegin (h : SameFields l s t) (hl : ∀ f ∈ acqBeginFields n, f ∈ l) : SameFields l s (t.acqBegin n) :=
  sameFields_put_of (sameFields_loadRx h fun f hf => hl f (List.mem_cons_of_mem _ hf)) (hl _ (List.mem_cons_self ..))

/-- Fields that the check of the agreement may set (R83, R266). -/
def agreeFields (n : Nat) : List Field := LDSC.AGREED n :: LDSC.ABSENT n :: LDS_RSZ_STAT.INDOUBT n :: acqBeginFields n

theorem sameFields_agreeCheck (h : SameFields l s t) (hl : ∀ f ∈ agreeFields n, f ∈ l) : SameFields l s (t.agreeCheck n) := by
  have hacq : ∀ f ∈ acqBeginFields n, f ∈ l := fun f hf => hl f (by simp [agreeFields, hf])
  unfold State.agreeCheck
  split
  · refine sameFields_when_fn (sameFields_put_of (sameFields_put_of (sameFields_put_of h ?_) ?_) ?_)
      fun u hu => sameFields_acqBegin hu hacq
    all_goals exact hl _ (by simp [agreeFields])
  · exact h

/-! ## Tokens -/

theorem loadTx_flow : (s.loadTx n p).flow = s.flow := (kept_loadTx (A := fun _ => False) (.refl s)).same .flow id

theorem selectProfile_flow : (s.selectProfile n p).flow = s.flow :=
  (kept_selectProfile (A := fun _ => False) (.refl s)).same .flow id

theorem iscMode_flow : (s.iscMode n).flow = s.flow := (kept_iscMode (A := fun _ => False) (.refl s)).same .flow id

theorem oorRefresh_flow : (s.oorRefresh n).flow = s.flow := (kept_oorRefresh (A := fun _ => False) (.refl s)).same .flow id

theorem loadRx_flow : (s.loadRx n p).flow = s.flow :=
  haveI : Fact ((fun x => x = Area.ch) Area.ch) := ⟨rfl⟩
  (kept_loadRx (A := fun x => x = Area.ch) (.refl s)).same .flow (by decide)

theorem agreeCheck_flow : (s.agreeCheck n).flow = s.flow :=
  haveI : Fact ((fun x => x = Area.ch) Area.ch) := ⟨rfl⟩
  (kept_agreeCheck (A := fun x => x = Area.ch) (.refl s)).same .flow (by decide)

/-! ## Quiet fields -/

/-- Key ranges of the pending bits, the arrival counters, the performance counters and their status words. -/
def noticeRanges : List (Nat × Nat) :=
  [(0x30400, 0x30500), (0x32000, 0x34000), (0x20100000, 0x20200000), (0x20300000, 0x20600000), (0x40004, 0x40008),
   (0x1900004, 0x1900008), (0x2900004, 0x2900008), (0x3900004, 0x3900008), (0x4900004, 0x4900008)]

/-- The key lies in none of them: the form of `QuietKey` that a list of fields is checked by. -/
def isQuiet (k : Nat) : Bool := noticeRanges.all (fun r => k < 8 * r.1 || 8 * r.2 ≤ k)

theorem quiet_of_isQuiet {k : Nat} (h : isQuiet k = true) : QuietKey k := by
  simp only [isQuiet, noticeRanges, List.all_cons, List.all_nil, Bool.and_true, Bool.and_eq_true, Bool.or_eq_true,
    decide_eq_true_eq] at h
  unfold QuietKey
  omega

/-! ## Fields cleared -/

theorem rd_clear_ne {m : List Field} {f : Field} (h : ∀ g ∈ m, g.key ≠ f.key) : (s.clear m).rd f = s.rd f :=
  sameFields_clear (.refl _ s) (fun _ hg => hg) f h

/-- A field cleared holds its reset value, whatever is cleared with it. -/
theorem rd_clear_same {m : List Field} {f : Field} (hf : f ∈ m) (hm : (m.map Field.key).Nodup) :
    (s.clear m).rd f = f.reset % 2 ^ f.width := by
  induction m generalizing s with
  | nil => cases hf
  | cons g m ih =>
    obtain ⟨hg, hm⟩ := List.nodup_cons.1 hm
    have hstep : s.clear (g :: m) = (s.put g g.reset).clear m := rfl
    rw [hstep]
    obtain rfl | hmem := List.mem_cons.1 hf
    · rw [rd_clear_ne fun k hk hkey => hg (List.mem_map.2 ⟨k, hk, hkey⟩), rd_put_same]
    · exact ih hmem hm

/-! ## Counts -/

theorem count_sameArea {b ev : Nat} {k : PmcBlock} (x : Area) : SameArea s (s.count b k ev) x :=
  (kept_count (A := fun _ => False) (.refl s)).same x id

@[simp] theorem count_ch {b ev : Nat} {k : PmcBlock} : (s.count b k ev).ch = s.ch := count_sameArea .ch
@[simp] theorem count_flow {b ev : Nat} {k : PmcBlock} : (s.count b k ev).flow = s.flow := count_sameArea .flow
@[simp] theorem count_out {b ev : Nat} {k : PmcBlock} : (s.count b k ev).out = s.out := count_sameArea .out
@[simp] theorem count_votes {b ev : Nat} {k : PmcBlock} : (s.count b k ev).votes = s.votes := count_sameArea .votes

/-! ## Channels -/

/-- The records of every other channel stay. -/
def OnlyChan (n : Nat) (s t : State) : Prop := ∃ c, t.ch = s.ch.set n c

theorem OnlyChan.of_eq (h : t.ch = s.ch) : OnlyChan n s t := ⟨s.ch.get n, by
  rw [h]
  match n with
  | 0 | 1 | 2 | _ + 3 => rfl⟩

theorem OnlyChan.trans {u : State} (h : OnlyChan n s t) (k : OnlyChan n t u) : OnlyChan n s u := by
  obtain ⟨c, hc⟩ := h
  obtain ⟨d, hd⟩ := k
  exact ⟨d, by rw [hd, hc, quad_set_set]⟩

theorem OnlyChan.get {n m : Fin 4} (h : OnlyChan n s t) (hm : m.val ≠ n) : t.ch.get m = s.ch.get m := by
  obtain ⟨c, hc⟩ := h
  rw [hc, quad_get_set_other _ _ n.isLt m.isLt (Ne.symm hm)]

theorem onlyChan_onChan (f : Chan → Chan) : OnlyChan n s (s.onChan n f) := ⟨_, rfl⟩

/-- A change of the line data and the fields of channel n, apart from its tokens, keeps the other channels. -/
theorem othersKept_of_sameFields {n : Fin 4} (hflow : t.flow = s.flow) (hch : OnlyChan n s t) (h : SameFields l s t)
    (hl : ∀ m : Fin 4, m.val ≠ n → ∀ g ∈ l, g.key ≠ (LDS_CH_STATE.STATE m).key ∧ g.key ≠ (OPT_STAT.PHASE m).key) :
    OthersKept n s t :=
  fun m hm => ⟨by rw [hflow], hch.get hm, h _ fun g hg => (hl m hm g hg).1, h _ fun g hg => (hl m hm g hg).2⟩

theorem each_ch {α : Type} {xs : List α} {f : α → State → State} (h : ∀ x u, (f x u).ch = u.ch) : (s.each xs f).ch = s.ch :=
  each_sameArea (x := .ch) h

theorem onlyChan_put_of {f : Field} {v : Nat} (h : OnlyChan n s t) : OnlyChan n s (t.put f v) := h.trans (.of_eq rfl)

theorem onlyChan_when {b : Bool} {f : State → State} (h : OnlyChan n s t) (k : ∀ u, OnlyChan n s u → OnlyChan n s (f u)) :
    OnlyChan n s (t.when b f) := by
  cases b
  · exact h
  · exact k t h

theorem onlyChan_of_ch {u : State} (h : OnlyChan n s t) (k : u.ch = t.ch) : OnlyChan n s u := h.trans (.of_eq k)

theorem tileSum_ch : (s.tileSum n).ch = s.ch := (kept_tileSum (A := fun _ => False) (.refl s)).same .ch id

theorem rebudget_ch : (s.rebudget n).ch = s.ch := (kept_rebudget (A := fun _ => False) (.refl s)).same .ch id

theorem when_ch {b : Bool} {f : State → State} (h : ∀ u, (f u).ch = u.ch) : (s.when b f).ch = s.ch := by
  cases b
  · rfl
  · exact h s

theorem loadRx_onlyChan : OnlyChan n s (s.loadRx n p) := by
  unfold State.loadRx
  split
  · refine onlyChan_of_ch (onlyChan_of_ch ?_ tileSum_ch) rebudget_ch
    refine onlyChan_put_of (onlyChan_put_of (onlyChan_put_of ?_))
    refine onlyChan_of_ch ?_ (each_ch fun k u => ?_)
    · exact (OnlyChan.of_eq (put_ch ..)).trans (onlyChan_onChan _)
    · exact (when_ch fun v => put_ch ..).trans (put_ch ..)
  · exact .of_eq rfl

theorem acqBegin_onlyChan : OnlyChan n s (s.acqBegin n) := onlyChan_put_of loadRx_onlyChan

theorem agreeCheck_onlyChan : OnlyChan n s (s.agreeCheck n) := by
  unfold State.agreeCheck
  split
  · exact onlyChan_when (onlyChan_put_of (onlyChan_put_of (onlyChan_put_of (.of_eq rfl)))) fun u hu => hu.trans acqBegin_onlyChan
  · exact .of_eq rfl

end

end Sys2Proof.Machine
end

section
/-! The transmitter of the supervisory channel, chip lock and host messages (R257 to R263, R271). -/

set_option Elab.async false

namespace Sys2Proof.Machine

section
variable {s t : State} {n : Fin 4} {m : Msg}

/-! ## What a channel's messages change in its record -/

/-- The record of channel n changes in the message in progress, the waiting ones and the transmit line path alone. -/
def MsgChan (n : Nat) (s t : State) : Prop :=
  ∃ sending msgs tx, t.ch = s.ch.set n { s.chan n with sending := sending, msgs := msgs, tx := tx }

theorem MsgChan.refl (n : Nat) (s : State) : MsgChan n s s := by
  refine ⟨(s.chan n).sending, (s.chan n).msgs, (s.chan n).tx, ?_⟩
  unfold State.chan
  match n with
  | 0 | 1 | 2 | _ + 3 => rfl

theorem MsgChan.trans {n : Nat} {u : State} (h : MsgChan n s t) (k : MsgChan n t u) : MsgChan n s u := by
  obtain ⟨a, b, c, hc⟩ := h
  obtain ⟨a', b', c', hc'⟩ := k
  refine ⟨a', b', c', ?_⟩
  rw [hc', hc, quad_set_set, State.chan, hc, quad_get_set_same]

theorem MsgChan.of_ch {n : Nat} (h : t.ch = s.ch) : MsgChan n s t := by
  obtain ⟨a, b, c, hc⟩ := MsgChan.refl n s
  exact ⟨a, b, c, h.trans hc⟩

theorem MsgChan.chan {n : Nat} (h : MsgChan n s t) :
    t.ch = s.ch.set n { s.chan n with sending := (t.chan n).sending, msgs := (t.chan n).msgs, tx := (t.chan n).tx } := by
  obtain ⟨a, b, c, hc⟩ := h
  have hchan : t.chan n = { s.chan n with sending := a, msgs := b, tx := c } := by
    rw [State.chan, hc, quad_get_set_same]
  rw [hchan, hc]

theorem MsgChan.onlyChan {n : Nat} (h : MsgChan n s t) : OnlyChan n s t := by
  obtain ⟨a, b, c, hc⟩ := h
  exact ⟨_, hc⟩

theorem msgChan_onChan_msgs {n : Nat} (f : List Msg → List Msg) :
    MsgChan n s (s.onChan n (fun c => { c with msgs := f c.msgs })) := ⟨_, _, _, rfl⟩

/-! ## The next message -/

theorem startMsg_chan {n : Nat} : (s.startMsg n m).ch =
    s.ch.set n { s.chan n with sending := some m, tx := ((s.startMsg n m).chan n).tx } := by
  simp [State.startMsg, State.onTx, quad_set_set, State.chan, quad_get_set_same]

theorem startMsg_sending {n : Nat} : ((s.startMsg n m).chan n).sending = some m := by
  rw [State.chan, startMsg_chan, quad_get_set_same]

theorem startMsg_regs {n : Nat} : (s.startMsg n m).regs = s.regs := rfl

theorem startMsg_rd {n : Nat} {f : Field} : (s.startMsg n m).rd f = s.rd f := rfl

theorem startMsg_msgChan {n : Nat} : MsgChan n s (s.startMsg n m) := ⟨_, _, _, startMsg_chan⟩

/-- Fields that count the messages since the last HEARTBEAT (Table 11.4). -/
def rankFields (n : Nat) : List Field := [ISCC.RUN n, ISCC.IDLE4 n]

theorem startIdle_sameFields {n : Nat} : SameFields (rankFields n) s (s.startIdle n) := by
  have hidle : SameFields (rankFields n) s (s.put (ISCC.IDLE4 n) ((s.rd (ISCC.IDLE4 n) + 1) % 4)) :=
    sameFields_put_of (.refl _ s) (by simp [rankFields])
  unfold State.startIdle
  dsimp only
  split
  all_goals exact sameFields_put_of (sameFields_of_regs hidle startMsg_regs) (by simp [rankFields])

theorem startIdle_msgChan {n : Nat} : MsgChan n s (s.startIdle n) := by
  unfold State.startIdle
  dsimp only
  split
  all_goals exact ((MsgChan.of_ch (put_ch ..)).trans startMsg_msgChan).trans (.of_ch (put_ch ..))

theorem nextMsg_sameFields {n : Nat} : SameFields (rankFields n) s (s.nextMsg n) := by
  unfold State.nextMsg
  split
  · exact sameFields_put_of (sameFields_of_regs (.refl _ s) startMsg_regs) (by simp [rankFields])
  · split
    · exact sameFields_put_of (sameFields_of_regs (.refl _ s) startMsg_regs) (by simp [rankFields])
    · split
      · exact sameFields_put_of (sameFields_of_regs (.refl _ s) rfl) (by simp [rankFields])
      · exact startIdle_sameFields

theorem nextMsg_msgChan {n : Nat} : MsgChan n s (s.nextMsg n) := by
  unfold State.nextMsg
  split
  · exact startMsg_msgChan.trans (.of_ch (put_ch ..))
  · split
    · exact startMsg_msgChan.trans (.of_ch (put_ch ..))
    · split
      · exact ((msgChan_onChan_msgs (removeMsg _)).trans startMsg_msgChan).trans (.of_ch (put_ch ..))
      · exact startIdle_msgChan

theorem nextMsg_out {n : Nat} : (s.nextMsg n).out = s.out :=
  haveI : Fact ((fun x => x = Area.ch) Area.ch) := ⟨rfl⟩
  (kept_nextMsg (A := fun x => x = Area.ch) (.refl s)).same .out (by decide)

theorem nextMsg_flow {n : Nat} : (s.nextMsg n).flow = s.flow :=
  haveI : Fact ((fun x => x = Area.ch) Area.ch) := ⟨rfl⟩
  (kept_nextMsg (A := fun x => x = Area.ch) (.refl s)).same .flow (by decide)

/-! ## The boundary -/

/-- REP and the insertion take effect. -/
def State.turned (n : Nat) (s : State) : State :=
  (s.put (ISCC.REP n) (s.rd (ISC_CTRL.REP n))).flag (LDS_TX_STAT.ISC_INS n) (s.iscInserts n)

/-- What a message boundary does after the message in progress. -/
def State.boundary (n : Nat) (s : State) : State :=
  (s.turned n).when ((s.turned n).on (LDS_TX_STAT.ISC_INS n)) (·.nextMsg n)

/-- The message in progress, if any, is complete. -/
def State.completed (n : Nat) (s : State) : State := (s.chan n).sending.elim s (fun m => s.msgSent n m)

theorem exec_boundary (hlit : s.phase n = Phase.lit) (hmode : s.interop n = false) :
    exec (.iscMessageBoundary n) s = .next ((s.completed n).boundary n) := by
  have hcompleted : s.completed n = (match (s.chan n).sending with
      | some m => s.msgSent n m
      | none => s) := by
    unfold State.completed
    cases (s.chan n).sending <;> rfl
  refine congrArg Host.Outcome.next ?_
  rw [hcompleted]
  simp only [hlit, hmode]
  rfl

theorem exec_boundary_of_sending (hlit : s.phase n = Phase.lit) (hmode : s.interop n = false)
    (hsend : (s.chan n).sending = some m) : exec (.iscMessageBoundary n) s = .next ((s.msgSent n m).boundary n) := by
  rw [exec_boundary hlit hmode, State.completed, hsend]
  rfl

theorem exec_boundary_of_none (hlit : s.phase n = Phase.lit) (hmode : s.interop n = false)
    (hsend : (s.chan n).sending = none) : exec (.iscMessageBoundary n) s = .next (s.boundary n) := by
  rw [exec_boundary hlit hmode, State.completed, hsend]
  rfl

/-- Fields that a message boundary sets besides those of the message sent. -/
def boundaryFields (n : Nat) : List Field := [ISCC.REP n, LDS_TX_STAT.ISC_INS n, ISCC.RUN n, ISCC.IDLE4 n]

theorem turned_sameFields {n : Nat} : SameFields [ISCC.REP n, LDS_TX_STAT.ISC_INS n] s (s.turned n) :=
  sameFields_flag_of (sameFields_put_of (.refl _ s) (by simp)) (by simp)

theorem boundary_sameFields {n : Nat} : SameFields (boundaryFields n) s (s.boundary n) :=
  sameFields_when_fn (turned_sameFields.mono (by simp [boundaryFields])) fun u hu =>
    hu.trans (nextMsg_sameFields.mono (by simp [boundaryFields, rankFields]))

theorem boundary_msgChan {n : Nat} : MsgChan n s (s.boundary n) := by
  unfold State.boundary
  cases (s.turned n).on (LDS_TX_STAT.ISC_INS n)
  · exact .of_ch rfl
  · exact (MsgChan.of_ch rfl).trans nextMsg_msgChan

theorem boundary_out {n : Nat} : (s.boundary n).out = s.out := by
  unfold State.boundary
  cases (s.turned n).on (LDS_TX_STAT.ISC_INS n)
  · rfl
  · exact nextMsg_out

theorem boundary_flow {n : Nat} : (s.boundary n).flow = s.flow := by
  unfold State.boundary
  cases (s.turned n).on (LDS_TX_STAT.ISC_INS n)
  · rfl
  · exact nextMsg_flow

theorem boundary_of_inserts {n : Nat} (h : s.iscInserts n = true) : s.boundary n = (s.turned n).nextMsg n := by
  have hins : (s.turned n).on (LDS_TX_STAT.ISC_INS n) = true := by
    rw [State.turned, on_flag_same _ _ Nat.zero_lt_one, h]
  rw [State.boundary, hins]
  rfl

/-! ## A message sent -/

/-- Fields that the end of a message sets (R83, R257, R266, R271). -/
def sentFields (n : Nat) : List Field :=
  ISCC.SEQ n :: ISC_CNT_TX.SENT n :: ISC_HSTAT.HTX_BUSY n :: LDSC.SENT_AG n :: agreeFields n

/-- What every message does as it ends. -/
def State.msgEnded (n : Nat) (m : Msg) (s : State) : State :=
  s.emit (.message n (s.rd (ISCC.SEQ n)) m (s.rd (ISC_CFG.TX_CODE n)) (s.rd (ISCC.REP n))) |>.addWrap (ISCC.SEQ n) 1
    |>.bump (ISC_CNT_TX.SENT n) |>.count n .isc 0x01 |>.onChan n (fun c => { c with sending := none })

/-- A message ends as every message does, and then the mark of a HOST message or of an agreement follows. -/
theorem msgSent_cases : s.msgSent n m = s.msgEnded n m ∨ s.msgSent n m = (s.msgEnded n m).put (ISC_HSTAT.HTX_BUSY n) 0 ∨
    s.msgSent n m = ((s.msgEnded n m).put (LDSC.SENT_AG n) 1).agreeCheck n := by
  unfold State.msgSent State.msgEnded
  dsimp only
  split
  · exact .inr (.inl rfl)
  · exact .inr (.inr rfl)
  · exact .inl rfl

theorem msgEnded_fieldsKept {l : List Field} (hseq : ISCC.SEQ n ∈ l) (hsent : ISC_CNT_TX.SENT n ∈ l) :
    FieldsKept l [] [n] s (s.msgEnded n m) := by
  unfold State.msgEnded
  exact fieldsKept_of_regs (fieldsKept_count (fieldsKept_bump_of (fieldsKept_addWrap_of (fieldsKept_of_regs
    (.refl _ _ _ s) (emit_regs ..)) hseq) hsent) (List.mem_singleton.2 rfl)) (onChan_regs ..)

theorem msgSent_after : SameFields (ISC_HSTAT.HTX_BUSY n :: LDSC.SENT_AG n :: agreeFields n) (s.msgEnded n m) (s.msgSent n m) := by
  obtain h | h | h := msgSent_cases (s := s) (n := n) (m := m)
  all_goals rw [h]
  · exact .refl _ _
  · exact sameFields_put_of (.refl _ _) (by simp)
  · exact sameFields_agreeCheck (sameFields_put_of (.refl _ _) (by simp)) fun f hf => by simp [hf]

theorem msgSent_onlyChan : OnlyChan n s (s.msgSent n m) := by
  have hended : OnlyChan n s (s.msgEnded n m) :=
    (OnlyChan.of_eq (by simp)).trans (onlyChan_onChan _)
  obtain h | h | h := msgSent_cases (s := s) (n := n) (m := m)
  all_goals rw [h]
  · exact hended
  · exact onlyChan_put_of hended
  · exact (onlyChan_put_of hended).trans agreeCheck_onlyChan

theorem agreeCheck_out {n : Nat} : (s.agreeCheck n).out = s.out :=
  haveI : Fact ((fun x => x = Area.ch) Area.ch) := ⟨rfl⟩
  (kept_agreeCheck (A := fun x => x = Area.ch) (.refl s)).same .out (by decide)

theorem msgSent_out :
    (s.msgSent n m).out = .message n (s.rd (ISCC.SEQ n)) m (s.rd (ISC_CFG.TX_CODE n)) (s.rd (ISCC.REP n)) :: s.out := by
  obtain h | h | h := msgSent_cases (s := s) (n := n) (m := m)
  all_goals rw [h]
  · simp [State.msgEnded]
  · simp [State.msgEnded]
  · rw [agreeCheck_out]
    simp [State.msgEnded]

/-- No field of a message boundary, or of what it completes, shows the state or the light of a channel. -/
theorem sentFields_keys : ∀ n m : Fin 4, ∀ g ∈ sentFields n ++ boundaryFields n,
    g.key ≠ (LDS_CH_STATE.STATE m).key ∧ g.key ≠ (OPT_STAT.PHASE m).key := by decide +kernel

theorem sentFields_quiet : ∀ n : Fin 4, ∀ f ∈ [ISCC.SEQ n, ISC_CNT_TX.SENT n, ISCC.REP n, ISC_CTRL.REP n],
    ∀ g ∈ ISC_HSTAT.HTX_BUSY n :: LDSC.SENT_AG n :: agreeFields n, g.key ≠ f.key := by decide +kernel

theorem sent_keys : ∀ n : Fin 4, (ISC_CNT_TX.SENT n).key ≠ (ISCC.SEQ n).key ∧ (ISCC.REP n).key ≠ (LDS_TX_STAT.ISC_INS n).key ∧
    (∀ g ∈ rankFields n, g.key ≠ (ISCC.REP n).key) ∧ (∀ g ∈ boundaryFields n, g.key ≠ (ISCC.SEQ n).key) ∧
    (∀ g ∈ boundaryFields n, g.key ≠ (ISC_CNT_TX.SENT n).key) ∧ (∀ g ∈ boundaryFields n, g.key ≠ (ISC_HSTAT.HTX_BUSY n).key) ∧
    (ISC_CTRL.REP n).key ≠ (ISCC.SEQ n).key ∧ (ISC_CTRL.REP n).key ≠ (ISC_CNT_TX.SENT n).key := by decide

theorem sent_isQuiet : ∀ n : Fin 4, isQuiet (ISCC.SEQ n).key ∧ isQuiet (ISC_CNT_TX.SENT n).key ∧ isQuiet (ISC_CTRL.REP n).key ∧
    isQuiet (LDS_CH_STATE.STATE n).key ∧ isQuiet (OPT_STAT.PHASE n).key := by decide

theorem msgEnded_seq : (s.msgEnded n m).rd (ISCC.SEQ n) = (s.rd (ISCC.SEQ n) + 1) % 256 := by
  unfold State.msgEnded
  rw [onChan_rd, rd_count_quiet (by omega) (quiet_of_isQuiet (sent_isQuiet n).1), rd_bump_ne (sent_keys n).1.symm]
  exact rd_put_same ..

theorem msgEnded_sent : (s.msgEnded n m).rd (ISC_CNT_TX.SENT n) = s.oneMore (ISC_CNT_TX.SENT n) := by
  unfold State.msgEnded
  rw [onChan_rd, rd_count_quiet (by omega) (quiet_of_isQuiet (sent_isQuiet n).2.1), rd_bump_same]
  unfold State.oneMore
  rw [rd_addWrap_ne (sent_keys n).1, emit_rd]

theorem msgEnded_rd {f : Field} (hq : QuietKey f.key) (hseq : f.key ≠ (ISCC.SEQ n).key) (hsent : f.key ≠ (ISC_CNT_TX.SENT n).key) :
    (s.msgEnded n m).rd f = s.rd f := by
  unfold State.msgEnded
  rw [onChan_rd, rd_count_quiet (by omega) hq, rd_bump_ne hsent, rd_addWrap_ne hseq, emit_rd]

theorem boundary_rep : (s.boundary n).rd (ISCC.REP n) = s.rd (ISC_CTRL.REP n) := by
  obtain ⟨-, hins, hrank, -⟩ := sent_keys n
  have hturned : (s.turned n).rd (ISCC.REP n) = s.rd (ISC_CTRL.REP n) := by
    rw [State.turned, rd_flag_ne hins, rd_put_same]
    exact Nat.mod_eq_of_lt (rd_lt s (ISC_CTRL.REP n))
  rw [State.boundary, ← hturned]
  cases (s.turned n).on (LDS_TX_STAT.ISC_INS n)
  · rfl
  · exact nextMsg_sameFields _ hrank

theorem msgSent_rd {f : Field} (hf : f ∈ [ISCC.SEQ n, ISC_CNT_TX.SENT n, ISCC.REP n, ISC_CTRL.REP n]) :
    (s.msgSent n m).rd f = (s.msgEnded n m).rd f := msgSent_after f (sentFields_quiet n f hf)

theorem msgSent_flow : (s.msgSent n m).flow = s.flow := by
  obtain h | h | h := msgSent_cases (s := s) (n := n) (m := m)
  all_goals rw [h]
  · simp [State.msgEnded]
  · simp [State.msgEnded]
  · rw [agreeCheck_flow]
    simp [State.msgEnded]

/-- A message boundary, whatever message it completes, keeps the other channels. -/
theorem sent_othersKept : OthersKept n s ((s.msgSent n m).boundary n) := by
  have hkept : FieldsKept (sentFields n ++ boundaryFields n) [] [n] s ((s.msgSent n m).boundary n) := by
    refine ((msgEnded_fieldsKept ?_ ?_).trans (msgSent_after.kept.mono ?_)).trans (boundary_sameFields.kept.mono ?_)
    all_goals simp +contextual [sentFields]
  have hpmc : ∀ b ∈ [n.val], b < 5 := by simpa using by omega
  intro k hk
  obtain ⟨-, -, -, hstate, hphase⟩ := sent_isQuiet k
  refine ⟨by rw [boundary_flow, msgSent_flow], (msgSent_onlyChan.trans boundary_msgChan.onlyChan).get hk,
    hkept _ (not_noticeKey_of_quiet (by simp) hpmc (quiet_of_isQuiet hstate)) fun g hg => (sentFields_keys n k g hg).1,
    hkept _ (not_noticeKey_of_quiet (by simp) hpmc (quiet_of_isQuiet hphase)) fun g hg => (sentFields_keys n k g hg).2⟩

/-! ## A HOST message sent -/

theorem msgSent_host {w0 w1 w2 w3 : Nat} :
    s.msgSent n (.host w0 w1 w2 w3) = (s.msgEnded n (.host w0 w1 w2 w3)).put (ISC_HSTAT.HTX_BUSY n) 0 := rfl

theorem msgEnded_msgChan : MsgChan n s (s.msgEnded n m) :=
  (MsgChan.of_ch (t := (s.emit _ |>.addWrap (ISCC.SEQ n) 1 |>.bump (ISC_CNT_TX.SENT n) |>.count n .isc 0x01)) (by simp)).trans
    ⟨none, _, _, rfl⟩

/-! ## With no message in progress -/

theorem turned_rd {n : Nat} {f : Field} (h : ∀ g ∈ [ISCC.REP n, LDS_TX_STAT.ISC_INS n], g.key ≠ f.key) :
    (s.turned n).rd f = s.rd f := turned_sameFields f h

/-- What the messages of the transmitter are made of, besides REP and the insertion. -/
def heldFields (n : Nat) : List Field :=
  [ISC_STATION.ID n, ISCC.NONCE n, LDS_CH_STATE.STATE n, LFR_STAT.FSTATE n, ISC_STAT.CHIP n, ISC_STAT.LOOPBACK n, ISC_CTRL.REP n,
   ISC_CFG.TX_CODE n, LDS_LQ_STAT.BERV n, LDS_LQ_STAT.VALID n, LDS_LQ_SNR.SNR n, LDS_LQ_BER.BER_LOG n, LDS_LQ_GMI.MARGIN n,
   OPT_RX_PWR.NOW n, ISCC.UNC n, LDS_LQ_STAT.SEQ n, LDS_RSZ_STAT.STATE n, LDS_RSZ_MF.MFN n, LFR_MFN_TX.MFN n, ISCC.RUN n,
   ISCC.IDLE4 n, ISC_CTRL.TEL_EN n]

theorem heldFields_keys : ∀ n : Fin 4, ∀ f ∈ heldFields n, ∀ g ∈ [ISCC.REP n, LDS_TX_STAT.ISC_INS n], g.key ≠ f.key := by decide

theorem turned_held {f : Field} (hf : f ∈ heldFields n) : (s.turned n).rd f = s.rd f := turned_rd (heldFields_keys n f hf)

theorem turned_on {f : Field} (hf : f ∈ heldFields n) : (s.turned n).on f = s.on f := by
  simp only [State.on, turned_held hf]

theorem turned_heartbeat : (s.turned n).heartbeat n = s.heartbeat n := by
  have h : ∀ f ∈ heldFields n, (s.turned n).rd f = s.rd f := fun f => turned_held
  simp only [heldFields, List.forall_mem_cons] at h
  simp only [State.heartbeat, State.chSt, State.on, h]

theorem turned_telemetry : (s.turned n).telemetry n = s.telemetry n := by
  have h : ∀ f ∈ heldFields n, (s.turned n).rd f = s.rd f := fun f => turned_held
  have hon : ∀ f ∈ heldFields n, (s.turned n).on f = s.on f := fun f => turned_on
  simp only [heldFields, List.forall_mem_cons] at h hon
  simp only [State.telemetry, h, hon]

theorem turned_mfLeft : (s.turned n).mfLeft n = s.mfLeft n := by
  have htarget : (s.turned n).rd (LDS_RSZ_MF.MFN n) = s.rd (LDS_RSZ_MF.MFN n) := turned_held (by simp [heldFields])
  have hnow : (s.turned n).rd (LFR_MFN_TX.MFN n) = s.rd (LFR_MFN_TX.MFN n) := turned_held (by simp [heldFields])
  unfold State.mfLeft State.mfn
  rw [htarget, hnow]

theorem turned_confirmNow_none (h : s.confirmNow n = none) : (s.turned n).confirmNow n = none := by
  have hstate : (s.turned n).rd (LDS_RSZ_STAT.STATE n) = s.rd (LDS_RSZ_STAT.STATE n) := turned_held (by simp [heldFields])
  unfold State.confirmNow at h ⊢
  rw [hstate, turned_mfLeft]
  split at h
  · cases h
  · next hnot => exact if_neg hnot

theorem turned_run : (s.turned n).rd (ISCC.RUN n) = s.rd (ISCC.RUN n) := turned_held (by simp [heldFields])

theorem boundary_heartbeat (hins : s.iscInserts n = true) (hconf : s.confirmNow n = none) (hrun : s.rd (ISCC.RUN n) = 7) :
    s.boundary n = ((s.turned n).startMsg n (s.heartbeat n)).put (ISCC.RUN n) 0 := by
  rw [boundary_of_inserts hins, State.nextMsg]
  simp only [turned_confirmNow_none hconf, turned_run, hrun, turned_heartbeat]
  rfl

theorem boundary_best (hins : s.iscInserts n = true) (hconf : s.confirmNow n = none) (hrun : s.rd (ISCC.RUN n) ≠ 7)
    (hbest : bestOf ((s.chan n).msgs.filter (fun k => !k.isFirmware || s.firmware)) = some m) :
    s.boundary n = (((s.turned n).onChan n (fun c => { c with msgs := removeMsg m c.msgs })).startMsg n m).put (ISCC.RUN n)
      (s.rd (ISCC.RUN n) + 1) := by
  have hkeys : ∀ f ∈ [SUP_STAT.LEADER, DEV_MODE.SUP_RESTART], ∀ k : Fin 4, ∀ g ∈ [ISCC.REP k, LDS_TX_STAT.ISC_INS k],
      g.key ≠ f.key := by decide
  have hfirm : (s.turned n).firmware = s.firmware := by
    simp only [State.firmware, State.on, turned_rd (hkeys SUP_STAT.LEADER (by simp) n),
      turned_rd (hkeys DEV_MODE.SUP_RESTART (by simp) n)]
  have hchan : (s.turned n).chan n = s.chan n := rfl
  rw [boundary_of_inserts hins, State.nextMsg]
  simp only [turned_confirmNow_none hconf, turned_run, hrun, hchan, hfirm, hbest]
  rfl

theorem boundary_idle (hins : s.iscInserts n = true) (hconf : s.confirmNow n = none) (hrun : s.rd (ISCC.RUN n) ≠ 7)
    (hmsgs : (s.chan n).msgs = []) : s.boundary n = (s.turned n).startIdle n := by
  have hchan : (s.turned n).chan n = s.chan n := rfl
  rw [boundary_of_inserts hins, State.nextMsg]
  simp only [turned_confirmNow_none hconf, turned_run, hrun, hchan, hmsgs, List.filter_nil, bestOf]
  rfl

/-- With nothing waiting, every fourth message may be a TELEMETRY. -/
theorem startIdle_sending : ((s.startIdle n).chan n).sending =
    some (if s.rd (ISCC.IDLE4 n) = 3 ∧ s.on (ISC_CTRL.TEL_EN n) = true then s.telemetry n else s.heartbeat n) := by
  have hlt : s.rd (ISCC.IDLE4 n) < 4 := rd_lt s (ISCC.IDLE4 n)
  have hfourth : (s.rd (ISCC.IDLE4 n) + 1) % 4 = 0 ↔ s.rd (ISCC.IDLE4 n) = 3 := by omega
  unfold State.startIdle
  dsimp only
  by_cases htel : s.rd (ISCC.IDLE4 n) = 3 ∧ s.on (ISC_CTRL.TEL_EN n) = true
  · rw [if_pos htel, if_pos (by simp [hfourth.2 htel.1, htel.2])]
    exact startMsg_sending
  · rw [if_neg htel, if_neg (by simpa [hfourth] using htel)]
    exact startMsg_sending

theorem startIdle_idle : (s.startIdle n).rd (ISCC.IDLE4 n) = (s.rd (ISCC.IDLE4 n) + 1) % 4 := by
  have hkey : ∀ k : Fin 4, (ISCC.IDLE4 k).key ≠ (ISCC.RUN k).key := by decide
  have hput : (s.put (ISCC.IDLE4 n) ((s.rd (ISCC.IDLE4 n) + 1) % 4)).rd (ISCC.IDLE4 n) = (s.rd (ISCC.IDLE4 n) + 1) % 4 := by
    rw [rd_put_same]
    exact Nat.mod_mod ..
  unfold State.startIdle
  dsimp only
  split
  all_goals exact (rd_put_ne (hkey n)).trans hput

/-! ## Signed fields -/

theorem toSigned_ofSigned {w : Nat} {i : Int} (hw : 0 < w) (hlo : -(2 ^ (w - 1)) ≤ i) (hhi : i < 2 ^ (w - 1)) :
    toSigned w (ofSigned w i % 2 ^ w) = i := by
  have hpow : (2 : Int) ^ w = 2 * 2 ^ (w - 1) := by
    obtain ⟨k, rfl⟩ : ∃ k, w = k + 1 := ⟨w - 1, by omega⟩
    rw [Nat.add_sub_cancel, Int.pow_succ, Int.mul_comm]
  have hpos : (0 : Int) < 2 ^ (w - 1) := Int.pow_pos (by decide)
  have hcast : ((2 ^ w : Nat) : Int) = 2 ^ w := by simp
  have hcast' : ((2 ^ (w - 1) : Nat) : Int) = 2 ^ (w - 1) := by simp
  have hmod : ((ofSigned w i : Nat) : Int) = i % 2 ^ w := by
    rw [ofSigned, hcast]
    exact Int.toNat_of_nonneg (Int.emod_nonneg _ (by omega))
  have hlt : ofSigned w i < 2 ^ w := by
    have := Int.emod_lt_of_pos i (show (0 : Int) < 2 ^ w by omega)
    omega
  rw [Nat.mod_eq_of_lt hlt, toSigned]
  by_cases hneg : i < 0
  · have hval : i % 2 ^ w = i + 2 ^ w := by
      rw [← Int.add_emod_right]
      exact Int.emod_eq_of_lt (by omega) (by omega)
    rw [if_neg (by omega), hmod]
    omega
  · have hval : i % 2 ^ w = i := Int.emod_eq_of_lt (by omega) (by omega)
    rw [if_pos (by omega), hmod, hval]

theorem rdS_putS_same {f : Field} {i : Int} (hw : 0 < f.width) (hlo : -(2 ^ (f.width - 1)) ≤ i) (hhi : i < 2 ^ (f.width - 1)) :
    (s.putS f i).rdS f = i := by
  rw [State.rdS, State.putS, rd_put_same, toSigned_ofSigned hw hlo hhi]

theorem rdS_put_ne {f g : Field} {v : Nat} (h : f.key ≠ g.key) : (s.put g v).rdS f = s.rdS f := by
  rw [State.rdS, rd_put_ne h, State.rdS]

/-! ## Chip lock -/

/-- Fields that chip lock reports (R259, R132). -/
def chipLockFields (n : Nat) : List Field :=
  [ISC_STAT.CHIP n, ISC_STAT.CODE_FOUND n, ISC_FOFS.FOFS n, ISC_FOFS.QUAL n, LDS_LQ_STAT.ISC_CANC n]

/-- Chip lock is found. -/
def State.chipLocked (n code : Nat) (fofs : Int) (qual : Nat) (s : State) : State :=
  s.put (ISC_STAT.CHIP n) 3 |>.put (ISC_STAT.CODE_FOUND n) code |>.putS (ISC_FOFS.FOFS n) fofs
    |>.put (ISC_FOFS.QUAL n) (Nat.min qual 255) |>.put (LDS_LQ_STAT.ISC_CANC n) 1

theorem exec_chipLock {code : Fin 32} {fofs : Int} {qual : Nat} (hsearch : s.rd (ISC_STAT.CHIP n) = 2)
    (hcode : s.on (ISC_CTRL.RX_ANY n) = true ∨ s.rd (ISC_CFG.RX_CODE n) = code.val) :
    exec (.iscChipLock n code fofs qual) s = .next (s.chipLocked n code fofs qual) := by
  have hmatch : (s.on (ISC_CTRL.RX_ANY n) || decide (s.rd (ISC_CFG.RX_CODE n) = code.val)) = true := by simpa using hcode
  refine congrArg Host.Outcome.next ?_
  rw [hsearch, hmatch]
  rfl

theorem chipLock_nodup : ∀ n : Fin 4, ((chipLockFields n).map Field.key).Nodup := by decide

section
variable {code qual : Nat} {fofs : Int}

theorem chipLocked_chip : (s.chipLocked n code fofs qual).rd (ISC_STAT.CHIP n) = 3 := by
  have hkeys := chipLock_nodup n
  simp only [chipLockFields, List.map_cons, List.nodup_cons, List.mem_cons, not_or] at hkeys
  obtain ⟨⟨hcode, hfofs, hqual, hcanc, -⟩, -⟩ := hkeys
  rw [State.chipLocked, rd_put_ne hcanc, rd_put_ne hqual, rd_putS_ne hfofs, rd_put_ne hcode, rd_put_same]
  rfl

theorem chipLocked_code (h : code < 32) : (s.chipLocked n code fofs qual).rd (ISC_STAT.CODE_FOUND n) = code := by
  have hkeys := chipLock_nodup n
  simp only [chipLockFields, List.map_cons, List.nodup_cons, List.mem_cons, not_or] at hkeys
  obtain ⟨-, ⟨hfofs, hqual, hcanc, -⟩, -⟩ := hkeys
  rw [State.chipLocked, rd_put_ne hcanc, rd_put_ne hqual, rd_putS_ne hfofs, rd_put_same]
  exact Nat.mod_eq_of_lt h

theorem chipLocked_fofs (hlo : -(2 ^ 23) ≤ fofs) (hhi : fofs < 2 ^ 23) :
    (s.chipLocked n code fofs qual).rdS (ISC_FOFS.FOFS n) = fofs := by
  have hkeys := chipLock_nodup n
  simp only [chipLockFields, List.map_cons, List.nodup_cons, List.mem_cons, not_or] at hkeys
  obtain ⟨-, -, ⟨hqual, hcanc, -⟩, -⟩ := hkeys
  rw [State.chipLocked, rdS_put_ne hcanc, rdS_put_ne hqual]
  exact rdS_putS_same (Nat.zero_lt_succ 23) hlo hhi

theorem chipLocked_qual : (s.chipLocked n code fofs qual).rd (ISC_FOFS.QUAL n) = Nat.min qual 255 := by
  have hkeys := chipLock_nodup n
  simp only [chipLockFields, List.map_cons, List.nodup_cons, List.mem_cons, not_or] at hkeys
  obtain ⟨-, -, -, ⟨hcanc, -⟩, -⟩ := hkeys
  rw [State.chipLocked, rd_put_ne hcanc, rd_put_same]
  exact Nat.mod_eq_of_lt (b := 2 ^ 8) (Nat.lt_of_le_of_lt (Nat.min_le_right ..) (by decide))

theorem chipLocked_sameFields : SameFields (chipLockFields n) s (s.chipLocked n code fofs qual) := by
  refine sameFields_put_of (sameFields_put_of (sameFields_put_of (sameFields_put_of (sameFields_put_of (.refl _ s) ?_) ?_) ?_)
    ?_) ?_
  all_goals simp [chipLockFields]

end

/-- Chip lock is lost. -/
def State.chipLost (n : Nat) (s : State) : State :=
  s.put (ISC_STAT.CHIP n) 2 |>.bump (ISC_CNT_EV.LOCKLOSS n) |>.count n .isc 0x04
    |>.clear [ISC_STAT.CODE_FOUND n, ISC_FOFS.FOFS n, ISC_FOFS.QUAL n, LDS_LQ_STAT.ISC_CANC n]

theorem exec_chipLoss (hlock : s.rd (ISC_STAT.CHIP n) = 3) : exec (.iscChipLockLoss n) s = .next (s.chipLost n) := by
  refine congrArg Host.Outcome.next ?_
  rw [hlock]
  rfl

/-- What chip lock loss clears. -/
def chipLossFields (n : Nat) : List Field := [ISC_STAT.CODE_FOUND n, ISC_FOFS.FOFS n, ISC_FOFS.QUAL n, LDS_LQ_STAT.ISC_CANC n]

theorem chipLoss_keys : ∀ n : Fin 4, ((chipLossFields n).map Field.key).Nodup ∧
    (∀ g ∈ chipLossFields n, g.key ≠ (ISC_STAT.CHIP n).key) ∧
    (∀ g ∈ chipLossFields n, g.key ≠ (ISC_CNT_EV.LOCKLOSS n).key) ∧ (ISC_STAT.CHIP n).key ≠ (ISC_CNT_EV.LOCKLOSS n).key ∧
    isQuiet (ISC_STAT.CHIP n).key ∧ isQuiet (ISC_CNT_EV.LOCKLOSS n).key := by decide

theorem chipLost_cleared {f : Field} (hf : f ∈ chipLossFields n) : (s.chipLost n).rd f = f.reset % 2 ^ f.width :=
  rd_clear_same hf (chipLoss_keys n).1

theorem chipLost_chip : (s.chipLost n).rd (ISC_STAT.CHIP n) = 2 := by
  obtain ⟨-, hchip, -, hloss, hquiet, -⟩ := chipLoss_keys n
  refine (rd_clear_ne hchip).trans ?_
  rw [rd_count_quiet (by omega) (quiet_of_isQuiet hquiet), rd_bump_ne hloss, rd_put_same]
  rfl

theorem chipLost_count : (s.chipLost n).rd (ISC_CNT_EV.LOCKLOSS n) = s.oneMore (ISC_CNT_EV.LOCKLOSS n) := by
  obtain ⟨-, -, hcount, hloss, -, hquiet⟩ := chipLoss_keys n
  refine (rd_clear_ne hcount).trans ?_
  rw [rd_count_quiet (by omega) (quiet_of_isQuiet hquiet), rd_bump_same]
  unfold State.oneMore
  rw [rd_put_ne hloss.symm]

theorem chipLost_fieldsKept : FieldsKept (ISC_STAT.CHIP n :: ISC_CNT_EV.LOCKLOSS n :: chipLossFields n) [] [n] s (s.chipLost n) := by
  refine fieldsKept_clear (fieldsKept_count (fieldsKept_bump_of (fieldsKept_put_of (.refl _ _ _ s) ?_) ?_) ?_) fun f hf => ?_
  · simp
  · simp
  · simp
  · exact List.mem_cons_of_mem _ (List.mem_cons_of_mem _ hf)

/-! ## HOST messages -/

theorem findReg_hostSend : ∀ n : Fin 4, findReg (chanAddr n 0x700030) =
    some ((⟨0x1700030, [(4, 0x1000000)], 1, .plain, [⟨ISC_HCMD.SEND 0, .wo, .live, 2, .any⟩]⟩ : Reg), 0x1000000 * n.val) := by
  decide

theorem fieldsAt_hostSend : s.fieldsAt (chanAddr n 0x700030) = [⟨ISC_HCMD.SEND n, .wo, .live, 2, .any⟩] :=
  fieldsAt_of_plain (findReg_hostSend n) rfl (by match n with | 0 | 1 | 2 | 3 => rfl)

/-- The HOST message that ISC_HTX holds. -/
def State.hostMsg (s : State) (n : Nat) : Msg :=
  .host (s.rd (ISC_HTX.DATA n 0)) (s.rd (ISC_HTX.DATA n 1)) (s.rd (ISC_HTX.DATA n 2)) (s.rd (ISC_HTX3.DATA n))

theorem exec_hostSend {win : Fin 7} {value : Word} (hopen : s.writeOpen win 2)
    (hsend : (ISC_HCMD.SEND n).of value.toNat = 1) (hfree : s.on (ISC_HSTAT.HTX_BUSY n) = false) :
    exec (.iscHostSend win n value 15) s = .next ((s.queue n (s.hostMsg n)).put (ISC_HSTAT.HTX_BUSY n) 1) := by
  refine congrArg Host.Outcome.next (hostWrite_of_commands (f := ⟨ISC_HCMD.SEND n, .wo, .live, 2, .any⟩) hopen rfl
    (Nat.zero_lt_succ 1) fieldsAt_hostSend (List.mem_singleton.2 rfl) (by simp [CommandsOf]) ?_ ?_)
  · simp [hostSendHook, hfree]
  · simp only [hostSendHook, List.map_cons, List.map_nil, hsend]
    simp [wroteOne, wrote, State.hostMsg, State.when]

theorem exec_hostSend_busy {win : Fin 7} {value : Word} (hopen : s.writeOpen win 2)
    (hsend : (ISC_HCMD.SEND n).of value.toNat = 1) (hbusy : s.on (ISC_HSTAT.HTX_BUSY n) = true) :
    exec (.iscHostSend win n value 15) s = .next (s.refuse win (chanAddr n 0x700030) value.toNat 6 false) := by
  refine congrArg Host.Outcome.next (hostWrite_of_refused_command (rest := []) hopen rfl (Nat.zero_lt_succ 1)
    fieldsAt_hostSend (by simp [CommandsOf]) ?_ (by decide) ?_)
  · simp [hostSendHook, hsend, hbusy]
  · intro l hl
    have hoff := wroteOne_of_absent (f := ISC_HCMD.SEND n) fun p hp => absurd (hl p hp) (by simp)
    simp [hostSendHook, hoff]

theorem findReg_hostRead : ∀ n : Fin 4, findReg (chanAddr n 0x70005C) =
    some ((⟨0x170005C, [(4, 0x1000000)], 1, .plain, [⟨ISC_HRX3.DATA 0, .ro, .live, 2, .any⟩]⟩ : Reg), 0x1000000 * n.val) := by
  decide

theorem readWord_hostRead : s.readWord (chanAddr n 0x70005C) = s.rd (ISC_HRX3.DATA n) * 65536 := by
  have hfields : s.fieldsAt (chanAddr n 0x70005C) = [⟨ISC_HRX3.DATA n, .ro, .live, 2, .any⟩] :=
    fieldsAt_of_plain (findReg_hostRead n) rfl (by match n with | 0 | 1 | 2 | 3 => rfl)
  rw [State.readWord, hfields]
  simp [ISC_HRX3.DATA]

theorem exec_hostRead {win : Fin 7} (hans : s.answers = true) (hlvl : 1 ≤ s.level win) :
    exec (.hostMessageRead win n) s = .next ((s.emit (.readData (chanAddr n 0x70005C) (s.rd (ISC_HRX3.DATA n) * 65536))).put
      (ISC_HSTAT.HRX_FULL n) 0) := by
  have hread : readLevel (chanAddr n 0x70005C) ≤ s.level win := by
    rw [readLevel, findReg_hostRead n]
    exact hlvl
  rw [← readWord_hostRead]
  exact congrArg Host.Outcome.next (hostRead_of_level hans hread)

end

/-! ## The obligation -/

/-- Settles O34: a message boundary sends what is in progress and starts the next by the order of Table 11.4, and the fields that
the steps share stand in lists of their own. -/
theorem supervisoryChannelTransmits : Obligations.SupervisoryChannelTransmits := by
  refine ⟨?sent, ?host, ?heartbeat, ?best, ?idle, ?lock, ?loss, ?send, ?busy, ?read⟩
  case sent =>
    intro s n m hlit hmode hsend
    obtain ⟨-, -, -, hseq, hsent, -, hrepSeq, hrepSent⟩ := sent_keys n
    refine ⟨_, exec_boundary_of_sending hlit hmode hsend, boundary_out.trans msgSent_out, ?_, ?_, ?_,
      boundary_flow.trans msgSent_flow, sent_othersKept⟩
    · exact (boundary_sameFields _ hseq).trans ((msgSent_rd (by simp)).trans msgEnded_seq)
    · exact (boundary_sameFields _ hsent).trans ((msgSent_rd (by simp)).trans msgEnded_sent)
    · exact boundary_rep.trans ((msgSent_rd (by simp)).trans
        (msgEnded_rd (quiet_of_isQuiet (sent_isQuiet n).2.2.1) hrepSeq hrepSent))
  case host =>
    intro s n w0 w1 w2 w3 hlit hmode hsend
    obtain ⟨-, -, -, -, -, hbusy, -⟩ := sent_keys n
    have hexec := exec_boundary_of_sending hlit hmode hsend
    rw [msgSent_host] at hexec
    refine ⟨_, hexec, (boundary_sameFields _ hbusy).trans (rd_put_same ..), ?_, ?_⟩
    · exact ((msgEnded_msgChan.trans (.of_ch (put_ch ..))).trans boundary_msgChan).chan
    · refine (fieldsKept_put_of (msgEnded_fieldsKept ?_ ?_) ?_).trans (boundary_sameFields.kept.mono ?_)
      all_goals simp +contextual [boundaryFields]
  case heartbeat =>
    intro s n hlit hmode hsend hins hconf hrun
    have hexec := exec_boundary_of_none hlit hmode hsend
    rw [boundary_heartbeat hins hconf hrun] at hexec
    have hch := startMsg_chan (s := s.turned n) (n := n) (m := s.heartbeat n)
    refine ⟨_, hexec, startMsg_sending, rd_put_same .., hch, rfl, rfl, ?_⟩
    exact sameFields_put_of (sameFields_of_regs (turned_sameFields.mono (by simp +contextual)) startMsg_regs) (by simp)
  case best =>
    intro s n m hlit hmode hsend hins hconf hrun hbest
    have hexec := exec_boundary_of_none hlit hmode hsend
    rw [boundary_best hins hconf hrun hbest] at hexec
    have hlt : s.rd (ISCC.RUN n) < 8 := rd_lt s (ISCC.RUN n)
    refine ⟨_, hexec, ?_, (rd_put_same ..).trans (Nat.mod_eq_of_lt (b := 2 ^ 3) (by omega)), rfl, rfl, ?_⟩
    · refine (put_ch ..).trans (startMsg_chan.trans ?_)
      rw [onChan_ch, quad_set_set, onChan_chan]
      rfl
    · exact sameFields_put_of (sameFields_of_regs (turned_sameFields.mono (by simp +contextual)) rfl) (by simp)
  case idle =>
    intro s n hlit hmode hsend hins hconf hrun hmsgs
    have hexec := exec_boundary_of_none hlit hmode hsend
    rw [boundary_idle hins hconf hrun hmsgs] at hexec
    have hidle : (s.turned n).rd (ISCC.IDLE4 n) = s.rd (ISCC.IDLE4 n) := turned_held (by simp [heldFields])
    refine ⟨_, hexec, ?_, by rw [startIdle_idle, hidle], ?_, ?_, ?_⟩
    · rw [startIdle_sending, hidle, turned_on (by simp [heldFields]), turned_telemetry, turned_heartbeat]
    · exact (boundary_idle hins hconf hrun hmsgs ▸ boundary_flow :)
    · exact (boundary_idle hins hconf hrun hmsgs ▸ boundary_out :)
    · exact (turned_sameFields.mono (by simp +contextual)).trans (startIdle_sameFields.mono (by simp +contextual [rankFields]))
  case lock =>
    intro s n code fofs qual hsearch hcode hlo hhi
    refine ⟨_, exec_chipLock hsearch hcode, chipLocked_chip, chipLocked_code code.isLt, chipLocked_fofs hlo hhi, chipLocked_qual,
      rd_put_same .., rfl, rfl, chipLocked_sameFields⟩
  case loss =>
    intro s n hlock
    refine ⟨_, exec_chipLoss hlock, chipLost_chip, chipLost_count, chipLost_cleared (by simp [chipLossFields]),
      chipLost_cleared (by simp [chipLossFields]), chipLost_cleared (f := ISC_FOFS.FOFS n) (by simp [chipLossFields]),
      chipLost_cleared (by simp [chipLossFields]), exec_ch (exec_chipLoss hlock) (by simp [areasOf]),
      exec_flow (exec_chipLoss hlock) (by simp [areasOf]),
      chipLost_fieldsKept⟩
  case send =>
    intro s win n value hopen hsend hfree
    refine ⟨_, exec_hostSend hopen hsend hfree, rd_put_same .., rfl, rfl, ?_⟩
    exact sameFields_put_of (sameFields_of_regs (.refl _ s) rfl) (by simp)
  case busy =>
    intro s win n value hopen hsend hbusy
    exact ⟨_, exec_hostSend_busy hopen hsend hbusy, refuse_refusedAs (win.isLt.trans (by decide)) (by decide), refuse_ch, refuse_flow⟩
  case read =>
    intro s win n hans hlvl
    exact ⟨_, exec_hostRead hans hlvl, rd_put_same .., rfl, rfl, rfl, sameFields_put_of (sameFields_of_regs (.refl _ s) rfl) (by simp)⟩

end Sys2Proof.Machine
end

section
/-! The selection of a profile and its agreement with the peer (R76, R77, R83, R266). -/

set_option Elab.async false

namespace Sys2Proof.Machine

section
variable {s t : State} {n : Fin 4} {q : Profile} {p : Nat}

/-! ## What the agreement is judged by -/

/-- Fields that the exchange of offers reads, but for the peer's presence. -/
def agreeReads (n : Nat) : List Field :=
  [LDS_CH_STATE.STATE n, LDS_LMODE_STAT.ACTIVE n, LDSC.AGREED n, ISC_STAT.ID_CLASH n, LDS_CD_EST.VALID n, LDS_CD_EST.OOR n,
   LDSC.SENT_AG n, LDSC.RCVD_AG n, LDSC.NEXT_AG n, LDS_RSZ_STAT.INDOUBT n, ISC_STATION.ID n, LDS_ACQ_STAT.STEP n, LDSC.WAIT n]

theorem agreeReads_keys : ∀ n : Fin 4, ∀ f ∈ agreeReads n, isQuiet f.key = true ∧ ∀ g ∈ messageFields n, g.key ≠ f.key := by
  decide

theorem validMsg_agreeReads {seq rep : Nat} {f : Field} (hf : f ∈ agreeReads n) : (s.validMsg n seq rep).rd f = s.rd f := by
  obtain ⟨hquiet, hkeys⟩ := agreeReads_keys n f hf
  exact fieldsKept_validMsg (.refl (messageFields n) [] [n.val] s) (fun _ h => h) (by simp) f
    (not_noticeKey_of_quiet (by simp) (by simpa using by omega) (quiet_of_isQuiet hquiet)) hkeys

theorem validMsg_on {seq rep : Nat} {f : Field} (hf : f ∈ agreeReads n) : (s.validMsg n seq rep).on f = s.on f := by
  simp only [State.on, validMsg_agreeReads hf]

theorem validMsg_peer {seq rep : Nat} : (s.validMsg n seq rep).rd (ISC_STAT.PEER n) = 1 := by
  have hkeys : ∀ k : Fin 4, (ISC_STAT.PEER k).key ≠ (ISC_STAT.PRES_EV k).key ∧ isQuiet (ISC_STAT.PEER k).key ∧
      ∀ g ∈ [ISC_CNT_RX.GOOD k, ISC_STAT.RX_REP k, ISC_CNT_EV.LOST k, ISCC.RXSEQ k, ISCC.RXSEQV k, ISC_STAT.MISSED k],
        g.key ≠ (ISC_STAT.PEER k).key := by decide
  obtain ⟨hev, hquiet, hrest⟩ := hkeys n
  unfold State.validMsg
  dsimp only
  by_cases hpeer : s.rd (ISC_STAT.PEER n) = 1
  · rw [hpeer]
    refine Eq.trans ?_ hpeer
    refine (fieldsKept_put_of (fieldsKept_put_of (fieldsKept_put_of (fieldsKept_when_fn (fieldsKept_put_of (fieldsKept_count
      (fieldsKept_bump_of (.refl _ [] [n.val] s) ?_) ?_) ?_) fun u hu => fieldsKept_addSat_of hu ?_) ?_) ?_) ?_) _
      (not_noticeKey_of_quiet (by simp) (by simpa using by omega) (quiet_of_isQuiet hquiet)) hrest
    all_goals simp
  · simp only [hpeer, ne_eq, not_false_eq_true, decide_true, when_true]
    exact (rd_put_ne hev).trans (rd_put_same ..)

theorem validMsg_active_some {seq rep : Nat} (h : s.active n = some q) : (s.validMsg n seq rep).active n = some q := by
  rw [State.active, validMsg_agreeReads (by simp [agreeReads]), State.profile, validMsg_chan]
  exact h

theorem seeking_iff : s.seeking n = true ↔ s.chSt n = ChSt.acquiring ∧ s.interop n = false ∧ s.on (LDSC.AGREED n) = false ∧
    s.rd (ISC_STAT.PEER n) = 1 ∧ s.on (ISC_STAT.ID_CLASH n) = false ∧ s.on (LDS_CD_EST.VALID n) = true ∧
    s.on (LDS_CD_EST.OOR n) = false := by
  simp only [State.seeking, Bool.and_eq_true, Bool.not_eq_true', decide_eq_true_eq, and_assoc]

theorem validMsg_seeking {seq rep : Nat} (h : s.seeking n = true) : (s.validMsg n seq rep).seeking n = true := by
  have hon : ∀ f ∈ agreeReads n, (s.validMsg n seq rep).on f = s.on f := fun f => validMsg_on
  simp only [agreeReads, List.forall_mem_cons] at hon
  have hst : (s.validMsg n seq rep).chSt n = s.chSt n := validMsg_agreeReads (by simp [agreeReads])
  have hinterop : (s.validMsg n seq rep).interop n = s.interop n := by
    simp only [State.interop, State.active, State.profile, validMsg_chan,
      validMsg_agreeReads (n := n) (f := LDS_LMODE_STAT.ACTIVE n) (by simp [agreeReads])]
  obtain ⟨hacq, hmode, hagreed, -, hclash, hvalid, hoor⟩ := seeking_iff.1 h
  refine seeking_iff.2 ⟨hst.trans hacq, hinterop.trans hmode, ?_, validMsg_peer, ?_, ?_, ?_⟩
  all_goals simp only [hon, hagreed, hclash, hvalid, hoor]

theorem not_agreed_of_seeking (h : s.seeking n = true) : s.on (LDSC.AGREED n) = false := (seeking_iff.1 h).2.2.1

theorem acquiring_of_seeking (h : s.seeking n = true) : s.chSt n = ChSt.acquiring := (seeking_iff.1 h).1

/-! ## Offers -/

/-- The offer of the active profile, whose block is that of q. -/
def State.offerMsg (s : State) (n : Nat) (q : Profile) (agreed : Bool) : Msg :=
  .modeOffer q.block agreed (s.on (LDS_RSZ_STAT.INDOUBT n)) (s.rd (LDS_LMODE_STAT.ACTIVE n)) (s.rd (ISC_STATION.ID n))

theorem offer_of_active {agreed : Bool} (h : s.active n = some q) : s.offer n agreed = s.queue n (s.offerMsg n q agreed) := by
  unfold State.offer
  rw [h]
  rfl

theorem exec_modeOfferReceived {seq : Fin 256} {rep : Fin 4} {b : Block} {agreed indoubt : Bool} {pr peer : Nat}
    (hchip : s.rd (ISC_STAT.CHIP n) = 3) (hfirm : s.firmware = true) :
    exec (.modeOfferReceived n seq rep b agreed indoubt pr peer) s =
      .next ((s.validMsg n seq rep).offerReceived n b agreed (peer % 2 ^ 32)) := receive_byFirmware hchip hfirm

/-- An offer of this end's own block, while it seeks agreement. -/
theorem offerReceived_of_same {agreed : Bool} {peer : Nat} (hseek : s.seeking n = true) (hact : s.active n = some q) :
    s.offerReceived n q.block agreed peer =
      (((s.put (LDSC.NEXT_AG n) 1).when agreed (·.put (LDSC.RCVD_AG n) 1)).when (!agreed) (·.offer n true)).agreeCheck n := by
  simp only [State.offerReceived, hact, not_agreed_of_seeking hseek, hseek]
  simp

/-- An offer of another block, while it seeks agreement. -/
theorem offerReceived_of_other {b : Block} {agreed : Bool} {peer : Nat} (hseek : s.seeking n = true) (hact : s.active n = some q)
    (hb : q.block ≠ b) : s.offerReceived n b agreed peer = s.offerDiffers n b agreed peer := by
  simp only [State.offerReceived, hact, not_agreed_of_seeking hseek, hseek]
  simp [hb]

theorem agreeCheck_of_not_sent (h : (s.on (LDSC.SENT_AG n) && s.on (LDSC.RCVD_AG n)) = false) : s.agreeCheck n = s := by
  simp [State.agreeCheck, h]

theorem agreeMarks_keys : ∀ n : Fin 4, (LDSC.RCVD_AG n).key ≠ (LDSC.NEXT_AG n).key ∧ (LDSC.SENT_AG n).key ≠ (LDSC.NEXT_AG n).key ∧
    (LDSC.SENT_AG n).key ≠ (LDSC.RCVD_AG n).key := by decide

/-- With both marks set the mode is agreed, and acquisition at step 0 that waits for nothing begins. -/
theorem agreeCheck_of_both (hsent : s.on (LDSC.SENT_AG n) = true) (hrcvd : s.on (LDSC.RCVD_AG n) = true)
    (hagreed : s.on (LDSC.AGREED n) = false) :
    s.agreeCheck n = (s.put (LDSC.AGREED n) 1 |>.put (LDSC.ABSENT n) 0 |>.put (LDS_RSZ_STAT.INDOUBT n) 0).when
      (s.chSt n = ChSt.acquiring && s.rd (LDS_ACQ_STAT.STEP n) = 0 && !s.on (LDSC.WAIT n)) (·.acqBegin n) := by
  simp [State.agreeCheck, hsent, hrcvd, hagreed]

theorem agreed_keys : ∀ n : Fin 4, (∀ g ∈ acqBeginFields n, g.key ≠ (LDSC.AGREED n).key ∧ g.key ≠ (LDS_RSZ_STAT.INDOUBT n).key) ∧
    (LDSC.AGREED n).key ≠ (LDSC.ABSENT n).key ∧ (LDSC.AGREED n).key ≠ (LDS_RSZ_STAT.INDOUBT n).key ∧
    (∀ g ∈ [LDSC.AGREED n, LDSC.ABSENT n, LDS_RSZ_STAT.INDOUBT n], g.key ≠ (LDS_ACQ_STAT.STEP n).key) := by decide +kernel

/-- The fields of an agreement reached, before acquisition begins. -/
def State.agreedMarks (n : Nat) (s : State) : State :=
  s.put (LDSC.AGREED n) 1 |>.put (LDSC.ABSENT n) 0 |>.put (LDS_RSZ_STAT.INDOUBT n) 0

theorem agreedMarks_agreed : (s.agreedMarks n).rd (LDSC.AGREED n) = 1 := by
  obtain ⟨-, habsent, hdoubt, -⟩ := agreed_keys n
  rw [State.agreedMarks, rd_put_ne hdoubt, rd_put_ne habsent, rd_put_same]
  rfl

theorem agreedMarks_indoubt : (s.agreedMarks n).rd (LDS_RSZ_STAT.INDOUBT n) = 0 := rd_put_same ..

theorem agreedMarks_step : (s.agreedMarks n).rd (LDS_ACQ_STAT.STEP n) = s.rd (LDS_ACQ_STAT.STEP n) := by
  have hkeys := (agreed_keys n).2.2.2
  simp only [List.forall_mem_cons] at hkeys
  obtain ⟨hagreed, habsent, hdoubt, -⟩ := hkeys
  rw [State.agreedMarks, rd_put_ne hdoubt.symm, rd_put_ne habsent.symm, rd_put_ne hagreed.symm]

theorem marks_when_acqBegin {b : Bool} {f : Field} (hf : ∀ g ∈ acqBeginFields n, g.key ≠ f.key) :
    ((s.agreedMarks n).when b (·.acqBegin n)).rd f = (s.agreedMarks n).rd f := by
  cases b
  · rfl
  · exact sameFields_acqBegin (.refl _ _) (fun _ h => h) f hf

theorem marks_when_acqBegin_step {b : Bool} :
    ((s.agreedMarks n).when b (·.acqBegin n)).rd (LDS_ACQ_STAT.STEP n) = if b then 2 else s.rd (LDS_ACQ_STAT.STEP n) := by
  cases b
  · exact agreedMarks_step
  · exact rd_put_same ..

theorem agreeCheck_shows (hsent : s.on (LDSC.SENT_AG n) = true) (hrcvd : s.on (LDSC.RCVD_AG n) = true)
    (hagreed : s.on (LDSC.AGREED n) = false) (hacq : s.chSt n = ChSt.acquiring) :
    (s.agreeCheck n).rd (LDSC.AGREED n) = 1 ∧ (s.agreeCheck n).rd (LDS_RSZ_STAT.INDOUBT n) = 0 ∧
    (s.agreeCheck n).rd (LDS_ACQ_STAT.STEP n) =
      if s.rd (LDS_ACQ_STAT.STEP n) = 0 ∧ s.on (LDSC.WAIT n) = false then 2 else s.rd (LDS_ACQ_STAT.STEP n) := by
  have hkeys := (agreed_keys n).1
  have hmarks := agreeCheck_of_both hsent hrcvd hagreed
  refine ⟨?_, ?_, ?_⟩
  all_goals rw [hmarks]
  · exact (marks_when_acqBegin fun g hg => (hkeys g hg).1).trans agreedMarks_agreed
  · exact (marks_when_acqBegin fun g hg => (hkeys g hg).2).trans agreedMarks_indoubt
  · refine marks_when_acqBegin_step.trans ?_
    simp only [hacq, decide_true, Bool.true_and, Bool.and_eq_true, decide_eq_true_eq, Bool.not_eq_true']

/-! ## Another mode -/

/-- The lowest profile found is one that the casting defines, of the four that there are. -/
theorem profileOf_some {b : Block} (h : s.profileOf n b = some p) : p < 4 ∧ ∃ r, s.profile n p = some r := by
  have hmem := List.mem_of_find?_eq_some h
  have hprop := List.find?_some h
  refine ⟨by simp only [List.mem_cons, List.not_mem_nil, or_false] at hmem; omega, ?_⟩
  cases hr : s.profile n p with
  | none => simp [hr] at hprop
  | some r => exact ⟨r, rfl⟩

/-- The profile selected and loaded, the offers begun anew. -/
def State.adopted (n p : Nat) (s : State) : State :=
  ((s.selectProfile n p).loadRx n p |>.put (LDS_LMODE_STAT.ADOPTED n) 1).clear [LDSC.SENT_AG n, LDSC.RCVD_AG n, LDSC.NEXT_AG n]

/-- Fields that follow a profile in the supervisory receiver and the estimator. -/
def followFields (n : Nat) : List Field := LDS_CD_EST.OOR n :: LDSC.EST_RUN n :: chipFields n

theorem sameFields_offer {l : List Field} {agreed : Bool} (h : SameFields l s t) : SameFields l s (t.offer n agreed) := by
  unfold State.offer
  split
  · exact sameFields_of_regs h (queue_regs ..)
  · exact h

theorem adopt_after : SameFields (followFields n) (s.adopted n p) (s.adopt n p) := by
  refine sameFields_offer (sameFields_iscMode (sameFields_oorRefresh (sameFields_of_regs (.refl _ _) (onChan_regs ..)) ?_ ?_) ?_)
  all_goals simp +contextual [followFields]

theorem adopted_keys : ∀ n : Fin 4, ((LDS_LMODE.PROFILE n).key ≠ (LDS_LMODE.PROFILE n).inForce.key) ∧
    (∀ f ∈ [LDS_LMODE.PROFILE n, LDS_LMODE_STAT.ACTIVE n, LDSC.RXPROF n, LDS_LMODE_STAT.ADOPTED n, LDSC.SENT_AG n, LDSC.RCVD_AG n,
      LDSC.NEXT_AG n], ∀ g ∈ followFields n, g.key ≠ f.key) ∧
    (∀ f ∈ [LDS_LMODE.PROFILE n, LDS_LMODE_STAT.ACTIVE n, LDSC.RXPROF n], ∀ g ∈ LDS_LMODE_STAT.ADOPTED n :: LDSC.SENT_AG n ::
      LDSC.RCVD_AG n :: LDSC.NEXT_AG n :: rxRestFields n, g.key ≠ f.key) ∧
    (∀ f ∈ [LDS_LMODE.PROFILE n, LDS_LMODE_STAT.ACTIVE n], f.key ≠ (LDSC.RXPROF n).key) ∧
    (∀ g ∈ loadTxFields n, g.key ≠ (LDS_LMODE.PROFILE n).key) ∧ ((loadTxFields n).map Field.key).Nodup ∧
    ([LDSC.SENT_AG n, LDSC.RCVD_AG n, LDSC.NEXT_AG n].map Field.key).Nodup ∧
    (∀ g ∈ [LDSC.SENT_AG n, LDSC.RCVD_AG n, LDSC.NEXT_AG n], g.key ≠ (LDS_LMODE_STAT.ADOPTED n).key) := by decide +kernel

theorem loadTx_active {r : Profile} (hp : s.profile n p = some r) (h4 : p < 4) :
    (s.loadTx n p).rd (LDS_LMODE_STAT.ACTIVE n) = p := by
  have hkeys : ∀ n : Fin 4, ∀ g ∈ (loadTxFields n).tail, g.key ≠ (LDS_LMODE_STAT.ACTIVE n).key := by decide
  have hafter : SameFields (loadTxFields n).tail (s.put (LDS_LMODE_STAT.ACTIVE n) p) (s.loadTx n p) := by
    unfold State.loadTx
    rw [hp]
    refine sameFields_put_of (sameFields_put_of (sameFields_put_of (sameFields_put_of (sameFields_put_of (sameFields_put_of
      (sameFields_flag_of (sameFields_put_of (.refl _ _) ?_) ?_) ?_) ?_) ?_) ?_) ?_) ?_
    all_goals simp [loadTxFields]
  rw [hafter _ (hkeys n), rd_put_same]
  exact Nat.mod_eq_of_lt (b := 2 ^ 2) (by omega)

theorem profile_of_ch (h : t.ch = s.ch) : t.profile n p = s.profile n p := by simp only [State.profile, State.chan, h]

theorem selectProfile_ch : (s.selectProfile n p).ch = s.ch := (kept_selectProfile (A := fun _ => False) (.refl s)).same .ch id

theorem selected_active {r : Profile} (hp : s.profile n p = some r) (h4 : p < 4) :
    (s.selectProfile n p).rd (LDS_LMODE_STAT.ACTIVE n) = p := by
  rw [State.selectProfile]
  exact loadTx_active ((profile_of_ch rfl).trans hp) h4

theorem selected_profile (h4 : p < 4) : (s.selectProfile n p).rd (LDS_LMODE.PROFILE n) = p := by
  obtain ⟨hforce, -, -, -, htx, -⟩ := adopted_keys n
  rw [State.selectProfile, sameFields_loadTx (.refl _ _) (fun _ h => h) _ htx, rd_put_ne hforce, rd_put_same]
  exact Nat.mod_eq_of_lt (b := 2 ^ 2) (by omega)

/-- What an adopted profile leaves in the fields that name it. -/
theorem adopted_names {r : Profile} (hp : s.profile n p = some r) (h4 : p < 4) :
    ∀ f ∈ [LDS_LMODE.PROFILE n, LDS_LMODE_STAT.ACTIVE n, LDSC.RXPROF n], (s.adopted n p).rd f = p := by
  obtain ⟨-, -, hafter, hrx, -⟩ := adopted_keys n
  have hp' : (s.selectProfile n p).profile n p = some r := (profile_of_ch selectProfile_ch).trans hp
  intro f hf
  have hkeys := hafter f hf
  have hload : SameFields (LDS_LMODE_STAT.ADOPTED n :: LDSC.SENT_AG n :: LDSC.RCVD_AG n :: LDSC.NEXT_AG n :: rxRestFields n)
      ((s.selectProfile n p).put (LDSC.RXPROF n) p) (s.adopted n p) := by
    refine sameFields_clear (sameFields_put_of ((loadRx_rest hp').mono ?_) ?_) ?_
    all_goals simp +contextual
  rw [hload f hkeys]
  simp only [List.mem_cons, List.not_mem_nil, or_false] at hf
  obtain rfl | rfl | rfl := hf
  · rw [rd_put_ne (hrx _ (by simp)), selected_profile h4]
  · rw [rd_put_ne (hrx _ (by simp)), selected_active hp h4]
  · rw [rd_put_same]
    exact Nat.mod_eq_of_lt (b := 2 ^ 2) (by omega)

theorem adopted_adopted : (s.adopted n p).rd (LDS_LMODE_STAT.ADOPTED n) = 1 := by
  obtain ⟨-, -, -, -, -, -, -, hclear⟩ := adopted_keys n
  exact (rd_clear_ne hclear).trans (rd_put_same ..)

theorem adopted_marks : ∀ f ∈ [LDSC.SENT_AG n, LDSC.RCVD_AG n, LDSC.NEXT_AG n], (s.adopted n p).rd f = 0 := by
  intro f hf
  refine (rd_clear_same hf (adopted_keys n).2.2.2.2.2.2.1).trans ?_
  simp only [List.mem_cons, List.not_mem_nil, or_false] at hf
  obtain rfl | rfl | rfl := hf
  all_goals rfl

/-- A field of the adopted mode reads as the adoption left it. -/
theorem adopt_rd {f : Field} (hf : f ∈ [LDS_LMODE.PROFILE n, LDS_LMODE_STAT.ACTIVE n, LDSC.RXPROF n, LDS_LMODE_STAT.ADOPTED n,
    LDSC.SENT_AG n, LDSC.RCVD_AG n, LDSC.NEXT_AG n]) : (s.adopt n p).rd f = (s.adopted n p).rd f :=
  adopt_after f ((adopted_keys n).2.1 f hf)

theorem adopt_flow : (s.adopt n p).flow = s.flow :=
  haveI : Fact ((fun x => x = Area.ch) Area.ch) := ⟨rfl⟩
  (kept_adopt (A := fun x => x = Area.ch) (.refl s)).same .flow (by decide)

theorem adopt_sameFields : SameFields (txProfileFields n ++ rxProfileFields n ++ chipFields n ++
    [LDS_LMODE_STAT.ADOPTED n, LDSC.SENT_AG n, LDSC.RCVD_AG n, LDSC.NEXT_AG n, LDS_CD_EST.OOR n, LDSC.EST_RUN n]) s (s.adopt n p) := by
  refine .trans (sameFields_clear (sameFields_put_of (sameFields_loadRx (sameFields_selectProfile (.refl _ s) ?_) ?_) ?_) ?_)
    (adopt_after.mono ?_)
  all_goals simp +contextual [followFields]

/-- An offer of another mode, not in doubt, to the end with the higher identifier. -/
theorem offerDiffers_of_higher {b : Block} {agreed : Bool} {peer : Nat} (hdoubt : s.on (LDS_RSZ_STAT.INDOUBT n) = false)
    (hpeer : peer < s.rd (ISC_STATION.ID n)) : s.offerDiffers n b agreed peer =
      match s.profileOf n b with
      | some k => (s.clear [LDSC.RCVD_AG n, LDSC.NEXT_AG n]).adopt n k
      | none => ((s.clear [LDSC.RCVD_AG n, LDSC.NEXT_AG n]).when (!agreed) (·.offer n false)).put (LDS_LMODE_STAT.NEG_FAIL n) 1 := by
  simp only [State.offerDiffers, hdoubt, hpeer]
  rfl

/-! ## The selection -/

theorem findReg_profile : ∀ n : Fin 4, findReg (chanAddr n 0x200010) =
    some ((⟨0x1200010, [(4, 0x1000000)], 1, .plain, [⟨LDS_LMODE.PROFILE 0, .rw, .framed, 2, .any⟩]⟩ : Reg), 0x1000000 * n.val) := by
  decide

theorem fieldsAt_profile : s.fieldsAt (chanAddr n 0x200010) = [⟨LDS_LMODE.PROFILE n, .rw, .framed, 2, .any⟩] :=
  fieldsAt_of_plain (findReg_profile n) rfl (by match n with | 0 | 1 | 2 | 3 => rfl)

theorem exec_profileWrite {win : Fin 7} {value : Word} (hopen : s.writeOpen win 2)
    (hreach : s.rd (LDS_PROF_P.REACH n ((LDS_LMODE.PROFILE n).of value.toNat)) = 1) :
    exec (.profileWrite win n value 15) s = .next (s.applyField (chanAddr n 0x200010)
      ⟨LDS_LMODE.PROFILE n, .rw, .framed, 2, .any⟩ ((LDS_LMODE.PROFILE n).of value.toNat)) := by
  have ⟨hans, hlvl, _⟩ := hopen
  have hlevel : ¬ s.level win < 2 := by omega
  refine congrArg Host.Outcome.next (hostWrite_of_act (fs := [⟨LDS_LMODE.PROFILE n, .rw, .framed, 2, .any⟩]) hans fieldsAt_profile
    (by simp) (wholeReason_of_open (f := ⟨LDS_LMODE.PROFILE n, .rw, .framed, 2, .any⟩) hopen rfl (by simp) rfl (Nat.zero_lt_succ 1)) ?_ rfl)
  simp [State.allTaken, State.fieldReason, hlevel, Lim.ok, profileHook, hreach]

theorem chanOf_profile : ∀ n : Fin 4, chanOf (chanAddr n 0x200010) = n := by decide

theorem applyField_profile_waits {v : Nat} (h : s.framedWaits n = true) :
    s.applyField (chanAddr n 0x200010) ⟨LDS_LMODE.PROFILE n, .rw, .framed, 2, .any⟩ v =
      ((s.put (LDS_LMODE.PROFILE n) v).onChan n (fun c => { c with framed := c.framed ++ [(LDS_LMODE.PROFILE n, v)] })).put
        (LDS_TX_STAT.PEND n) 1 := by
  simp only [State.applyField, chanOf_profile, h, if_true]

theorem applyField_profile_now {v : Nat} (h : s.framedWaits n = false) :
    s.applyField (chanAddr n 0x200010) ⟨LDS_LMODE.PROFILE n, .rw, .framed, 2, .any⟩ v =
      (s.put (LDS_LMODE.PROFILE n) v).takeFramed n (LDS_LMODE.PROFILE n) v := by
  simp only [State.applyField, chanOf_profile, h]
  rfl

/-- The transmitter has taken a selected profile. -/
def State.takenTx (n v : Nat) (s : State) : State :=
  ((s.put (LDS_LMODE.PROFILE n) v).put (LDS_LMODE.PROFILE n).inForce v).loadTx n v

/-- The receive stages follow it where they hold another. -/
def State.takenRx (n v : Nat) (s : State) : State := (s.takenTx n v).when (s.rd (LDSC.RXPROF n) ≠ v) (·.loadRx n v)

theorem takeFramed_profile {v : Nat} :
    (s.put (LDS_LMODE.PROFILE n) v).takeFramed n (LDS_LMODE.PROFILE n) v = ((s.takenRx n v).oorRefresh n).iscMode n := by
  have hkey : ∀ n : Fin 4, (LDSC.RXPROF n).key ≠ (LDS_LMODE.PROFILE n).key := by decide
  unfold State.takeFramed
  rw [if_pos rfl, rd_put_ne (hkey n)]
  rfl

theorem taken_keys : ∀ n : Fin 4, (∀ f ∈ (LDS_LMODE.PROFILE n).inForce :: loadTxFields n, ∀ g ∈ rxProfileFields n ++ followFields n,
    g.key ≠ f.key) ∧ (∀ g ∈ loadTxFields n, g.key ≠ (LDS_LMODE.PROFILE n).inForce.key ∧ g.key ≠ (LDSC.RXPROF n).key) ∧
    (∀ g ∈ rxRestFields n ++ followFields n, g.key ≠ (LDSC.RXPROF n).key) ∧
    (LDSC.RXPROF n).key ≠ (LDS_LMODE.PROFILE n).inForce.key ∧ (LDSC.RXPROF n).key ≠ (LDS_LMODE.PROFILE n).key := by decide +kernel

theorem follow_after : SameFields (followFields n) t ((t.oorRefresh n).iscMode n) := by
  refine sameFields_iscMode (sameFields_oorRefresh (.refl _ _) ?_ ?_) ?_
  all_goals simp +contextual [followFields]

/-- A field of the transmitter reads as the transmitter took it. -/
theorem taken_tx {v : Nat} {f : Field} (hf : f ∈ (LDS_LMODE.PROFILE n).inForce :: loadTxFields n) :
    (((s.takenRx n v).oorRefresh n).iscMode n).rd f = (s.takenTx n v).rd f := by
  have hkeys := (taken_keys n).1 f hf
  have hafter : SameFields (rxProfileFields n ++ followFields n) (s.takenTx n v) (((s.takenRx n v).oorRefresh n).iscMode n) := by
    refine .trans (sameFields_when_fn (.refl _ _) fun u hu => sameFields_loadRx hu ?_) (follow_after.mono ?_)
    all_goals simp +contextual
  exact hafter f hkeys

theorem takenTx_inForce {v : Nat} (h4 : v < 4) : (s.takenTx n v).rd (LDS_LMODE.PROFILE n).inForce = v := by
  have hkeys := (taken_keys n).2.1
  rw [State.takenTx, sameFields_loadTx (.refl _ _) (fun _ h => h) _ fun g hg => (hkeys g hg).1, rd_put_same]
  exact Nat.mod_eq_of_lt (b := 2 ^ 2) h4

theorem takenTx_ch {v : Nat} : (s.takenTx n v).ch = s.ch := (kept_loadTx (A := fun _ => False) (.refl _)).same .ch id

theorem taken_rxprof {v : Nat} (hp : s.profile n v = some q) (h4 : v < 4) :
    (((s.takenRx n v).oorRefresh n).iscMode n).rd (LDSC.RXPROF n) = v := by
  obtain ⟨-, htx, hrest, hforce, hprof⟩ := taken_keys n
  have hp' : (s.takenTx n v).profile n v = some q := (profile_of_ch takenTx_ch).trans hp
  have hnow : (s.takenTx n v).rd (LDSC.RXPROF n) = s.rd (LDSC.RXPROF n) := by
    rw [State.takenTx, sameFields_loadTx (.refl _ _) (fun _ h => h) _ fun g hg => (htx g hg).2, rd_put_ne hforce, rd_put_ne hprof]
  have hfollow : ∀ g ∈ followFields n, g.key ≠ (LDSC.RXPROF n).key := fun g hg => hrest g (by simp [hg])
  rw [follow_after _ hfollow, State.takenRx]
  by_cases hsame : s.rd (LDSC.RXPROF n) = v
  · rw [hsame]
    simpa [hnow] using hsame
  · rw [show decide (s.rd (LDSC.RXPROF n) ≠ v) = true by simpa using hsame, when_true,
      loadRx_rest hp' _ fun g hg => hrest g (by simp [hg]), rd_put_same]
    exact Nat.mod_eq_of_lt (b := 2 ^ 2) h4

theorem taken_flow {v : Nat} : (((s.takenRx n v).oorRefresh n).iscMode n).flow = s.flow := by
  have htx : (s.takenTx n v).flow = s.flow := loadTx_flow
  rw [iscMode_flow, oorRefresh_flow, State.takenRx, ← htx]
  cases decide (s.rd (LDSC.RXPROF n) ≠ v)
  · rfl
  · exact loadRx_flow

theorem taken_sameFields {v : Nat} : SameFields (txProfileFields n ++ rxProfileFields n ++ chipFields n ++
    [LDS_CD_EST.OOR n, LDSC.EST_RUN n]) s (((s.takenRx n v).oorRefresh n).iscMode n) := by
  refine .trans (sameFields_when_fn (sameFields_loadTx (sameFields_put_of (sameFields_put_of (.refl _ s) ?_) ?_) ?_)
    fun u hu => sameFields_loadRx hu ?_) (follow_after.mono ?_)
  all_goals simp +contextual [followFields, txProfileFields_eq]

/-- What the transmitter shows of a profile (R158, R159, R167, R205). -/
theorem loadTx_shows (hp : s.profile n p = some q) :
    (s.loadTx n p).rd (LDS_TX_STAT.ROLL n) = q.roll % 8 ∧
    (s.loadTx n p).rd (LDS_TX_DM.K n) = q.matcherBits % 2 ^ (LDS_TX_DM.K n).width ∧
    (s.loadTx n p).rd (LDS_TX_STAT.SHAPED n) = (if q.shaped then 1 else 0) ∧
    (s.loadTx n p).rd (LFR_GEOM0.FBYTES n) = (if q.interop then 0 else q.frameBytes % 2 ^ (LFR_GEOM0.FBYTES n).width) := by
  have hkeys := (adopted_keys n).2.2.2.2.2.1
  simp only [loadTxFields, List.map_cons, List.map_nil, List.nodup_cons, List.mem_cons, List.not_mem_nil, or_false, not_or] at hkeys
  obtain ⟨-, ⟨h1, h2, h3, h4, h5, h6, h7⟩, ⟨h8, h9, h10, h11, h12, h13⟩, ⟨h14, h15, h16, h17, h18⟩, -⟩ := hkeys
  unfold State.loadTx
  rw [hp]
  refine ⟨?_, ?_, ?_, ?_⟩
  · rw [rd_put_ne h7, rd_put_ne h6, rd_put_ne h5, rd_put_ne h4, rd_put_ne h3, rd_put_ne h2, rd_flag_ne h1, rd_put_same]
    rfl
  · rw [rd_put_ne h18, rd_put_ne h17, rd_put_ne h16, rd_put_ne h15, rd_put_ne h14, rd_put_same]
  · rw [rd_put_ne h13, rd_put_ne h12, rd_put_ne h11, rd_put_ne h10, rd_put_ne h9, rd_put_ne h8, State.flag, rd_put_same]
    cases q.shaped <;> rfl
  · rw [rd_put_same]
    cases q.interop <;> rfl

end

/-! ## The obligation -/

/-- Settles O13: an offer is judged past the reception that every message has, and agreement and adoption set the fields of a
profile load and of their own marks. -/
theorem modeAgreementSteps : Obligations.ModeAgreementSteps := by
  refine ⟨?waits, ?now, ?timer, ?noted, ?agreed, ?answered, ?adopted, ?failed, ?clash⟩
  case waits =>
    intro s win n value hopen hreach hwaits
    have hexec := exec_profileWrite hopen hreach
    rw [applyField_profile_waits hwaits] at hexec
    have hkey : ∀ n : Fin 4, (LDS_LMODE.PROFILE n).key ≠ (LDS_TX_STAT.PEND n).key := by decide
    have hlt : (LDS_LMODE.PROFILE n).of value.toNat < 2 ^ 2 := Nat.mod_lt _ (Nat.two_pow_pos 2)
    refine ⟨_, hexec, ?_, rd_put_same .., rfl, rfl, ?_⟩
    · rw [rd_put_ne (hkey n), onChan_rd, rd_put_same]
      exact Nat.mod_eq_of_lt hlt
    · exact sameFields_put_of (sameFields_of_regs (sameFields_put_of (.refl _ s) (by simp)) (onChan_regs ..)) (by simp)
  case now =>
    intro s win n value q hopen hreach hq hwaits
    have hexec := exec_profileWrite hopen hreach
    rw [applyField_profile_now hwaits, takeFramed_profile] at hexec
    have h4 : (LDS_LMODE.PROFILE n).of value.toNat < 4 := Nat.mod_lt _ (Nat.two_pow_pos 2)
    generalize (LDS_LMODE.PROFILE n).of value.toNat = v at hexec hq h4 ⊢
    obtain ⟨hroll, hbits, hshaped, hbytes⟩ := loadTx_shows (s := (s.put (LDS_LMODE.PROFILE n) v).put (LDS_LMODE.PROFILE n).inForce v)
      ((profile_of_ch rfl).trans hq)
    exact ⟨_, hexec, (taken_tx (by simp)).trans (takenTx_inForce h4),
      (taken_tx (by simp [loadTxFields])).trans (loadTx_active ((profile_of_ch rfl).trans hq) h4),
      (taken_tx (by simp [loadTxFields])).trans hroll, (taken_tx (by simp [loadTxFields])).trans hbits,
      (taken_tx (by simp [loadTxFields])).trans hshaped, (taken_tx (by simp [loadTxFields])).trans hbytes,
      taken_rxprof hq h4, taken_flow, taken_sameFields⟩
  case timer =>
    intro s n q hfirm hseek hact
    have hexec : exec (.modeOfferTimer n) s = .next (s.queue n (s.offerMsg n q (s.on (LDSC.NEXT_AG n)))) := by
      rw [← offer_of_active hact]
      refine congrArg Host.Outcome.next ?_
      rw [hfirm, hseek]
      rfl
    exact ⟨_, hexec, rfl, rfl, rfl⟩
  case noted =>
    intro s n seq rep q indoubt pr peer hchip hfirm hseek hact hsent
    have hexec := exec_modeOfferReceived (seq := seq) (rep := rep) (b := q.block) (agreed := true) (indoubt := indoubt) (pr := pr)
      (peer := peer) hchip hfirm
    obtain ⟨hrn, hsn, hsr⟩ := agreeMarks_keys n
    rw [offerReceived_of_same (validMsg_seeking hseek) (validMsg_active_some hact), when_true, Bool.not_true, when_false,
      agreeCheck_of_not_sent] at hexec
    · refine ⟨_, hexec, rd_put_same .., (rd_put_ne hrn.symm).trans (rd_put_same ..), ?_, ?_, ?_⟩
      · simp
      · simp
      · refine fieldsKept_put_of (fieldsKept_put_of (fieldsKept_validMsg (.refl _ _ _ s) ?_ ?_) ?_) ?_
        all_goals simp +contextual
    · have hoff : (((s.validMsg n seq rep).put (LDSC.NEXT_AG n) 1).put (LDSC.RCVD_AG n) 1).on (LDSC.SENT_AG n) = false := by
        rw [State.on, rd_put_ne hsr, rd_put_ne hsn, ← State.on, validMsg_on (by simp [agreeReads]), hsent]
      rw [hoff, Bool.false_and]
  case agreed =>
    intro s n seq rep q indoubt pr peer hchip hfirm hseek hact hsent
    have hexec := exec_modeOfferReceived (seq := seq) (rep := rep) (b := q.block) (agreed := true) (indoubt := indoubt) (pr := pr)
      (peer := peer) hchip hfirm
    obtain ⟨hrn, hsn, hsr⟩ := agreeMarks_keys n
    rw [offerReceived_of_same (validMsg_seeking hseek) (validMsg_active_some hact), when_true, Bool.not_true, when_false] at hexec
    generalize hu : ((s.validMsg n seq rep).put (LDSC.NEXT_AG n) 1).put (LDSC.RCVD_AG n) 1 = u at hexec
    have hmarks : ∀ n : Fin 4, ∀ f ∈ [LDS_CH_STATE.STATE n, LDSC.AGREED n, LDSC.SENT_AG n, LDS_ACQ_STAT.STEP n, LDSC.WAIT n],
        f ∈ agreeReads n ∧ f.key ≠ (LDSC.RCVD_AG n).key ∧ f.key ≠ (LDSC.NEXT_AG n).key := by decide
    have hread : ∀ f ∈ [LDS_CH_STATE.STATE n, LDSC.AGREED n, LDSC.SENT_AG n, LDS_ACQ_STAT.STEP n, LDSC.WAIT n], u.rd f = s.rd f := by
      intro f hf
      obtain ⟨hin, hr, hn⟩ := hmarks n f hf
      rw [← hu, rd_put_ne hr, rd_put_ne hn, validMsg_agreeReads hin]
    simp only [List.forall_mem_cons] at hread
    obtain ⟨hst, hagreed, hsentKept, hstep, hwait, -⟩ := hread
    have hrcvd : u.on (LDSC.RCVD_AG n) = true := by
      rw [← hu, State.on, rd_put_same]
      rfl
    obtain ⟨hone, hdoubt, hnext⟩ := agreeCheck_shows (s := u) (n := n) (by rw [State.on, hsentKept]; exact hsent) hrcvd
      (by rw [State.on, hagreed]; exact not_agreed_of_seeking hseek) (hst.trans (acquiring_of_seeking hseek))
    rw [hstep, State.on, hwait] at hnext
    refine ⟨_, hexec, hone, hdoubt, hnext, ?_⟩
    rw [agreeCheck_flow, ← hu, put_flow, put_flow, validMsg_flow]
  case answered =>
    intro s n seq rep q indoubt pr peer hchip hfirm hseek hact hnot
    have hexec := exec_modeOfferReceived (seq := seq) (rep := rep) (b := q.block) (agreed := false) (indoubt := indoubt) (pr := pr)
      (peer := peer) hchip hfirm
    obtain ⟨hrn, hsn, hsr⟩ := agreeMarks_keys n
    have hput : ((s.validMsg n seq rep).put (LDSC.NEXT_AG n) 1).active n = some q := by
      have hkey : ∀ n : Fin 4, (LDS_LMODE_STAT.ACTIVE n).key ≠ (LDSC.NEXT_AG n).key := by decide
      rw [State.active, rd_put_ne (hkey n)]
      exact validMsg_active_some hact
    rw [offerReceived_of_same (validMsg_seeking hseek) (validMsg_active_some hact), when_false, Bool.not_false, when_true,
      offer_of_active hput, agreeCheck_of_not_sent] at hexec
    · have hmsg : ((s.validMsg n seq rep).put (LDSC.NEXT_AG n) 1).offerMsg n q true = s.offerMsg n q true := by
        have hkeys : ∀ n : Fin 4, ∀ f ∈ [LDS_RSZ_STAT.INDOUBT n, LDS_LMODE_STAT.ACTIVE n, ISC_STATION.ID n],
            f ∈ agreeReads n ∧ f.key ≠ (LDSC.NEXT_AG n).key := by decide
        have hread : ∀ f ∈ [LDS_RSZ_STAT.INDOUBT n, LDS_LMODE_STAT.ACTIVE n, ISC_STATION.ID n],
            ((s.validMsg n seq rep).put (LDSC.NEXT_AG n) 1).rd f = s.rd f := fun f hf => by
          rw [rd_put_ne (hkeys n f hf).2, validMsg_agreeReads (hkeys n f hf).1]
        simp only [List.forall_mem_cons] at hread
        simp only [State.offerMsg, State.on, hread]
      rw [hmsg] at hexec
      refine ⟨_, hexec, (queue_rd ..).trans (rd_put_same ..), ?_, ?_, ?_⟩
      · rw [State.queue, onChan_ch, put_ch, validMsg_ch]
        rfl
      · rw [State.queue, onChan_flow, put_flow, validMsg_flow]
      · refine fieldsKept_of_regs (fieldsKept_put_of (fieldsKept_validMsg (.refl _ _ _ s) ?_ ?_) ?_) (queue_regs ..)
        all_goals simp +contextual
    · have hread : ∀ f ∈ agreeReads n, f.key ≠ (LDSC.NEXT_AG n).key →
          (((s.validMsg n seq rep).put (LDSC.NEXT_AG n) 1).queue n
            (((s.validMsg n seq rep).put (LDSC.NEXT_AG n) 1).offerMsg n q true)).on f = s.on f := fun f hf hn => by
        rw [State.on, queue_rd, rd_put_ne hn, validMsg_agreeReads hf, State.on]
      rw [hread _ (by simp [agreeReads]) hsn, hread _ (by simp [agreeReads]) hrn, hnot]
  case adopted =>
    intro s n seq rep b q p agreed indoubt pr peer hchip hfirm hseek hact hb hdoubt hpeer hprof
    have hexec := exec_modeOfferReceived (seq := seq) (rep := rep) (b := b) (agreed := agreed) (indoubt := indoubt) (pr := pr)
      (peer := peer) hchip hfirm
    rw [offerReceived_of_other (validMsg_seeking hseek) (validMsg_active_some hact) hb,
      offerDiffers_of_higher ((validMsg_on (by simp [agreeReads])).trans hdoubt)
        (by rwa [validMsg_agreeReads (by simp [agreeReads])]), validMsg_profileOf, hprof] at hexec
    obtain ⟨h4, r, hr⟩ := profileOf_some hprof
    have hr' : ((s.validMsg n seq rep).clear [LDSC.RCVD_AG n, LDSC.NEXT_AG n]).profile n p = some r := by
      have hch : ((s.validMsg n seq rep).clear [LDSC.RCVD_AG n, LDSC.NEXT_AG n]).ch = s.ch := validMsg_ch
      exact (profile_of_ch hch).trans hr
    have hnames := adopted_names hr' h4
    have hmarks := adopted_marks (s := (s.validMsg n seq rep).clear [LDSC.RCVD_AG n, LDSC.NEXT_AG n]) (n := n) (p := p)
    simp only [List.forall_mem_cons] at hnames hmarks
    obtain ⟨hname, hactive, hrx, -⟩ := hnames
    obtain ⟨hsent, hrcvd, hnext, -⟩ := hmarks
    refine ⟨_, hexec, (adopt_rd (by simp)).trans hname, (adopt_rd (by simp)).trans hactive, (adopt_rd (by simp)).trans hrx,
      (adopt_rd (by simp)).trans adopted_adopted, (adopt_rd (by simp)).trans hsent, (adopt_rd (by simp)).trans hrcvd,
      (adopt_rd (by simp)).trans hnext, ?_, ?_⟩
    · exact adopt_flow.trans validMsg_flow
    · refine (fieldsKept_clear (fieldsKept_validMsg (.refl _ _ _ s) ?_ ?_) ?_).trans (adopt_sameFields.kept.mono ?_)
      · simp +contextual
      · simp
      · simp
      · intro f hf
        simp only [List.mem_append] at hf ⊢
        tauto
  case failed =>
    intro s n seq rep b q indoubt pr peer hchip hfirm hseek hact hb hdoubt hpeer hprof
    have hexec := exec_modeOfferReceived (seq := seq) (rep := rep) (b := b) (agreed := false) (indoubt := indoubt) (pr := pr)
      (peer := peer) hchip hfirm
    rw [offerReceived_of_other (validMsg_seeking hseek) (validMsg_active_some hact) hb,
      offerDiffers_of_higher ((validMsg_on (by simp [agreeReads])).trans hdoubt)
        (by rwa [validMsg_agreeReads (by simp [agreeReads])]), validMsg_profileOf, hprof] at hexec
    dsimp only at hexec
    have hcleared : ((s.validMsg n seq rep).clear [LDSC.RCVD_AG n, LDSC.NEXT_AG n]).active n = some q := by
      have hkeys : ∀ n : Fin 4, ∀ g ∈ [LDSC.RCVD_AG n, LDSC.NEXT_AG n], g.key ≠ (LDS_LMODE_STAT.ACTIVE n).key := by decide
      rw [State.active, rd_clear_ne (hkeys n), ← validMsg_active_some (seq := seq) (rep := rep) hact]
      rfl
    have hmsg : ((s.validMsg n seq rep).clear [LDSC.RCVD_AG n, LDSC.NEXT_AG n]).offerMsg n q false = s.offerMsg n q false := by
      have hkeys : ∀ n : Fin 4, ∀ f ∈ [LDS_RSZ_STAT.INDOUBT n, LDS_LMODE_STAT.ACTIVE n, ISC_STATION.ID n],
          f ∈ agreeReads n ∧ ∀ g ∈ [LDSC.RCVD_AG n, LDSC.NEXT_AG n], g.key ≠ f.key := by decide
      have hread : ∀ f ∈ [LDS_RSZ_STAT.INDOUBT n, LDS_LMODE_STAT.ACTIVE n, ISC_STATION.ID n],
          ((s.validMsg n seq rep).clear [LDSC.RCVD_AG n, LDSC.NEXT_AG n]).rd f = s.rd f := fun f hf => by
        rw [rd_clear_ne (hkeys n f hf).2, validMsg_agreeReads (hkeys n f hf).1]
      simp only [List.forall_mem_cons] at hread
      simp only [State.offerMsg, State.on, hread]
    rw [Bool.not_false, when_true, offer_of_active hcleared, hmsg] at hexec
    refine ⟨_, hexec, rd_put_same .., ?_, ?_, ?_⟩
    · have hch : ((s.validMsg n seq rep).clear [LDSC.RCVD_AG n, LDSC.NEXT_AG n]).ch = s.ch := validMsg_ch
      rw [put_ch, State.queue, onChan_ch, hch]
      rfl
    · exact validMsg_flow
    · refine fieldsKept_put_of (fieldsKept_of_regs (fieldsKept_clear (fieldsKept_validMsg (.refl _ _ _ s) ?_ ?_) ?_) (queue_regs ..)) ?_
      all_goals simp +contextual
  case clash =>
    intro s n hacq hmode hagreed hclash
    have hexec : exec (.idClashNegotiationTimeout n) s = .next (s.put (LDS_LMODE_STAT.NEG_FAIL n) 1) := by
      refine congrArg Host.Outcome.next ?_
      rw [hacq, hmode, hagreed, hclash]
      rfl
    exact ⟨_, hexec, rd_put_same .., rfl, rfl, sameFields_put _ _ s⟩

end Sys2Proof.Machine
end

section
/-! Votes as they open and are decided, and supervisors that are declared failed (R343 to R348, Tables 15.2 and 15.3). -/

set_option Elab.async false

namespace Sys2Proof.Machine

/-! ## Readings past operations that notice events -/

section
variable {l : List Field} {src pmc : List Nat} {s t : State} {f : Field}

/-- A quiet field outside the list reads as before. -/
theorem FieldsKept.read (h : FieldsKept l src pmc s t) (hs : ∀ M ∈ src, M < 2048) (hp : ∀ b ∈ pmc, b < 5)
    (hf : isQuiet f.key = true ∧ ∀ g ∈ l, g.key ≠ f.key) : t.rd f = s.rd f :=
  h f (not_noticeKey_of_quiet hs hp (quiet_of_isQuiet hf.1)) hf.2

/-- A pending bit of another source reads as before. -/
theorem FieldsKept.readPend {M : Nat} (h : FieldsKept l src pmc s t) (hs : ∀ M ∈ src, M < 2048) (hp : ∀ b ∈ pmc, b < 5)
    (hM : M < 2048) (hne : M ∉ src ++ pmc.flatMap overflowSources) (hl : ∀ g ∈ l, g.key ≠ (IRQ_PEND M).key) :
    t.rd (IRQ_PEND M) = s.rd (IRQ_PEND M) := h _ (not_noticeKey_pend hs hp hM hne) hl

end

section
variable {s t : State} {yes : Bool} {v : Vote} {vs : List Vote} {k : Lost}

/-! ## The record of a decision -/

/-- The vote at the head is decided, before what its action does. -/
def State.decided (yes : Bool) (v : Vote) (vs : List Vote) (s : State) : State :=
  { s with votes := vs }.put SUP_ARB_STAT.VOTE_OPEN 0 |>.put SUP_ARB_STAT.LAST (if yes then 1 else 2)
    |>.put SUP_ARB_STAT.LAST_KIND v.kind
    |>.when (v.kind ≠ 15) (·.bump (if yes then SUP_VOTE_CNT.APPROVED else SUP_VOTE_CNT.REFUSED))
    |>.count 4 .sup (if yes then 0x01 else 0x02)

theorem decide_approved (h : s.votes = v :: vs) : s.decide true k = (s.decided true v vs).approve v := by
  unfold State.decide
  rw [h]
  rfl

theorem decide_refused (h : s.votes = v :: vs) : s.decide false k = (s.decided false v vs).deny v k := by
  unfold State.decide
  rw [h]
  rfl

/-- Fields that record a decision (Table 15.8). -/
def decideFields (yes : Bool) (v : Vote) : List Field :=
  [SUP_ARB_STAT.VOTE_OPEN, SUP_ARB_STAT.LAST, SUP_ARB_STAT.LAST_KIND] ++
    if v.kind = 15 then [] else [if yes then SUP_VOTE_CNT.APPROVED else SUP_VOTE_CNT.REFUSED]

theorem decided_fieldsKept_of {src : List Nat} : FieldsKept (decideFields yes v) src [4] s (s.decided yes v vs) := by
  have hput : FieldsKept (decideFields yes v) src [4] s ({ s with votes := vs }.put SUP_ARB_STAT.VOTE_OPEN 0
      |>.put SUP_ARB_STAT.LAST (if yes then 1 else 2) |>.put SUP_ARB_STAT.LAST_KIND v.kind) := by
    refine fieldsKept_put_of (fieldsKept_put_of (fieldsKept_put_of (fieldsKept_of_regs (.refl _ _ _ s) rfl) ?_) ?_) ?_
    all_goals simp [decideFields]
  unfold State.decided
  refine fieldsKept_count ?_ (by simp)
  by_cases hk : v.kind = 15
  · simpa [hk] using hput
  · rw [decide_eq_true hk, when_true]
    exact fieldsKept_bump_of hput (by simp [decideFields, hk])

theorem decided_fieldsKept : FieldsKept (decideFields yes v) [] [4] s (s.decided yes v vs) := decided_fieldsKept_of

theorem decided_sameArea (x : Area) (hx : x ≠ .votes) : SameArea s (s.decided yes v vs) x := by
  have hvotes : SameArea s { s with votes := vs } x := by cases x <;> first | exact absurd rfl hx | simp [SameArea]
  refine hvotes.trans ?_
  refine (Kept.same (A := fun _ => False) ?_ x id)
  exact kept_count (kept_when (kept_put _ _ (kept_put _ _ (kept_put _ _ (.refl _)))) fun u hu => kept_bump hu)

theorem decided_ch : (s.decided yes v vs).ch = s.ch := decided_sameArea .ch (by decide)
theorem decided_flow : (s.decided yes v vs).flow = s.flow := decided_sameArea .flow (by decide)
theorem decided_mbx : (s.decided yes v vs).mbx = s.mbx := decided_sameArea .mbx (by decide)

theorem decided_votes : (s.decided yes v vs).votes = vs := by
  unfold State.decided
  rw [count_votes]
  cases decide (v.kind ≠ 15) <;> rfl

theorem decide_isQuiet : ∀ f ∈ [SUP_ARB_STAT.VOTE_OPEN, SUP_ARB_STAT.LAST, SUP_ARB_STAT.LAST_KIND, SUP_VOTE_CNT.APPROVED,
    SUP_VOTE_CNT.REFUSED], isQuiet f.key := by decide

/-- The counts leave the fields that show the decision. -/
theorem decided_shown {f : Field} (hf : f ∈ [SUP_ARB_STAT.VOTE_OPEN, SUP_ARB_STAT.LAST, SUP_ARB_STAT.LAST_KIND]) :
    (s.decided yes v vs).rd f = (((s.put SUP_ARB_STAT.VOTE_OPEN 0).put SUP_ARB_STAT.LAST (if yes then 1 else 2)).put
      SUP_ARB_STAT.LAST_KIND v.kind).rd f := by
  have hquiet : isQuiet f.key = true := decide_isQuiet f (by simp only [List.mem_cons] at hf ⊢; tauto)
  have hkeys : ∀ f ∈ [SUP_ARB_STAT.VOTE_OPEN, SUP_ARB_STAT.LAST, SUP_ARB_STAT.LAST_KIND],
      f.key ≠ SUP_VOTE_CNT.APPROVED.key ∧ f.key ≠ SUP_VOTE_CNT.REFUSED.key := by decide
  unfold State.decided
  rw [rd_count_quiet (by decide) (quiet_of_isQuiet hquiet)]
  cases decide (v.kind ≠ 15)
  · rfl
  · cases yes
    · exact rd_bump_ne (hkeys f hf).2
    · exact rd_bump_ne (hkeys f hf).1

theorem decided_open : (s.decided yes v vs).rd SUP_ARB_STAT.VOTE_OPEN = 0 := by
  rw [decided_shown (by simp), rd_put_ne (by decide), rd_put_ne (by decide), rd_put_same]
  rfl

theorem decided_last : (s.decided yes v vs).rd SUP_ARB_STAT.LAST = if yes then 1 else 2 := by
  rw [decided_shown (by simp), rd_put_ne (by decide), rd_put_same]
  cases yes <;> rfl

theorem decided_kind (hk : v.kind < 16) : (s.decided yes v vs).rd SUP_ARB_STAT.LAST_KIND = v.kind := by
  rw [decided_shown (by simp), rd_put_same]
  exact Nat.mod_eq_of_lt hk

theorem decided_approved (hk : v.kind ≠ 15) :
    (s.decided true v vs).rd SUP_VOTE_CNT.APPROVED = s.oneMore SUP_VOTE_CNT.APPROVED := by
  unfold State.decided
  rw [rd_count_quiet (by decide) (quiet_of_isQuiet (by decide)), decide_eq_true hk, when_true, if_pos rfl, rd_bump_same]
  unfold State.oneMore
  rw [rd_put_ne (by decide), rd_put_ne (by decide), rd_put_ne (by decide)]
  rfl

end

/-! ## A supervisor is declared failed (R346) -/

section
variable {s t : State} {i : Fin 3} {cause : Nat}

/-- What the declaration records and clears, before a failover or a freeze. -/
def State.failedBy (i cause : Nat) (s : State) : State :=
  (s.put (SUPC.STATE i) Sup.failed |>.put (SUP_FAIL_S.CAUSE i) cause |>.bump (SUP_FAIL_S.COUNT i)
      |>.put SUP_STAT.FAIL_EV 1 |>.raise 32).clear [SUPC.RETURN i, SUPC.IMG i, SUPC.AGREED i, IRQC.SEL (i + 1)]
    |>.setStack (i + 1) 0 |>.showProb

/-- The supervisor leads or follows. -/
theorem declare_of_counted (hst : s.sup i = Sup.leader ∨ s.sup i = Sup.follower) (hret : s.on (SUPC.RETURN i) = false) :
    s.declare i cause =
      ((s.failedBy i cause).when (s.sup i = Sup.leader) State.failover).when
        (((s.failedBy i cause).when (s.sup i = Sup.leader) State.failover).counted.length < 2) (·.freeze 2) := by
  have hrun : ¬ (s.sup i = Sup.off ∨ s.sup i = Sup.failed ∨ s.sup i = Sup.held) := by
    simp only [Sup.leader, Sup.follower, Sup.off, Sup.failed, Sup.held] at hst ⊢
    omega
  have hcount : (decide (s.sup i = Sup.leader) || decide (s.sup i = Sup.follower)) = true := by simpa using hst
  have hbase : s.declare i cause = if (s.sup i = Sup.off || s.sup i = Sup.failed || s.sup i = Sup.held) = true then s else
      ((s.failedBy i cause).when (s.sup i = Sup.leader) State.failover).when
        ((decide (s.sup i = Sup.leader) || decide (s.sup i = Sup.follower)) &&
          decide (((s.failedBy i cause).when (s.sup i = Sup.leader) State.failover).counted.length < 2)) (·.freeze 2) := by
    unfold State.declare State.failedBy
    rw [hret]
    rfl
  rw [hbase, if_neg (by simpa only [Bool.or_eq_true, decide_eq_true_eq, or_assoc] using hrun), hcount, Bool.true_and]

/-- Fields that a declaration sets (Tables 15.9, 15.12). -/
def declareFields (i : Nat) : List Field :=
  [SUPC.STATE i, SUP_FAIL_S.CAUSE i, SUP_FAIL_S.COUNT i, SUP_STAT.FAIL_EV, SUPC.RETURN i, SUPC.IMG i, SUPC.AGREED i,
   IRQC.SEL (i + 1), IRQ_SSTK.W i, SUP_PROB.AGREED]

theorem sameFields_showProb {l : List Field} (h : SameFields l s t) (hl : SUP_PROB.AGREED ∈ l) : SameFields l s t.showProb := by
  unfold State.showProb
  split
  · exact sameFields_put_of h hl
  · exact h

theorem failedBy_fieldsKept : FieldsKept (declareFields i) [32] [] s (s.failedBy i cause) := by
  have hraised : FieldsKept (declareFields i) [32] [] s (s.put (SUPC.STATE i) Sup.failed |>.put (SUP_FAIL_S.CAUSE i) cause
      |>.bump (SUP_FAIL_S.COUNT i) |>.put SUP_STAT.FAIL_EV 1 |>.raise 32) := by
    refine fieldsKept_raise (fieldsKept_put_of (fieldsKept_bump_of (fieldsKept_put_of (fieldsKept_put_of (.refl _ _ _ s) ?_) ?_) ?_)
      ?_) (by simp)
    all_goals simp [declareFields]
  refine hraised.trans (SameFields.kept ?_)
  refine sameFields_showProb (setStack_sameFields (sameFields_clear (.refl _ _) ?_) ?_) ?_
  all_goals simp [declareFields]

theorem failedBy_keys : ∀ i : Fin 3,
    (∀ f ∈ [SUPC.STATE i, SUP_FAIL_S.CAUSE i, SUP_FAIL_S.COUNT i, SUP_STAT.FAIL_EV],
      isQuiet f.key = true ∧ f.key ≠ SUP_PROB.AGREED.key ∧ (f.key < 8 * 0x30014 ∨ 8 * 0x3003C ≤ f.key) ∧
      ∀ g ∈ [SUPC.RETURN i, SUPC.IMG i, SUPC.AGREED i, IRQC.SEL (i + 1)], g.key ≠ f.key) ∧
    ([SUPC.STATE i, SUP_FAIL_S.CAUSE i, SUP_FAIL_S.COUNT i, SUP_STAT.FAIL_EV].map Field.key).Nodup := by decide

theorem rd_showProb_ne {f : Field} (h : f.key ≠ SUP_PROB.AGREED.key) : s.showProb.rd f = s.rd f :=
  sameFields_showProb (l := [SUP_PROB.AGREED]) (.refl _ s) (by simp) f (by simpa using h.symm)

/-- The fields that show the declaration are not among those it clears. -/
theorem failedBy_rd {f : Field} (hf : f ∈ [SUPC.STATE i, SUP_FAIL_S.CAUSE i, SUP_FAIL_S.COUNT i, SUP_STAT.FAIL_EV]) :
    (s.failedBy i cause).rd f = (s.put (SUPC.STATE i) Sup.failed |>.put (SUP_FAIL_S.CAUSE i) cause
      |>.bump (SUP_FAIL_S.COUNT i) |>.put SUP_STAT.FAIL_EV 1).rd f := by
  obtain ⟨hq, hprob, hstack, hclear⟩ := (failedBy_keys i).1 f hf
  unfold State.failedBy
  rw [rd_showProb_ne hprob, setStack_rd_out (by omega) hstack, rd_clear_ne hclear,
    rd_raise_quiet (by decide) (quiet_of_isQuiet hq)]

theorem failedBy_apart : ∀ i : Fin 3,
    (SUPC.STATE i).key ≠ (SUP_FAIL_S.CAUSE i).key ∧ (SUPC.STATE i).key ≠ (SUP_FAIL_S.COUNT i).key ∧
    (SUPC.STATE i).key ≠ SUP_STAT.FAIL_EV.key ∧ (SUP_FAIL_S.CAUSE i).key ≠ (SUP_FAIL_S.COUNT i).key ∧
    (SUP_FAIL_S.CAUSE i).key ≠ SUP_STAT.FAIL_EV.key ∧ (SUP_FAIL_S.COUNT i).key ≠ SUP_STAT.FAIL_EV.key := by decide

theorem failedBy_sup : (s.failedBy i cause).sup i = Sup.failed := by
  obtain ⟨h1, h2, h3, -⟩ := failedBy_apart i
  unfold State.sup
  rw [failedBy_rd (by simp), rd_put_ne h3, rd_bump_ne h2, rd_put_ne h1, rd_put_same]
  rfl

theorem failedBy_cause (hc : cause < 16) : (s.failedBy i cause).rd (SUP_FAIL_S.CAUSE i) = cause := by
  obtain ⟨-, -, -, h4, h5, -⟩ := failedBy_apart i
  rw [failedBy_rd (by simp), rd_put_ne h5, rd_bump_ne h4, rd_put_same]
  exact Nat.mod_eq_of_lt hc

theorem failedBy_count : (s.failedBy i cause).rd (SUP_FAIL_S.COUNT i) = s.oneMore (SUP_FAIL_S.COUNT i) := by
  obtain ⟨-, h2, -, h4, -, h6⟩ := failedBy_apart i
  rw [failedBy_rd (by simp), rd_put_ne h6, rd_bump_same]
  unfold State.oneMore
  rw [rd_put_ne (Ne.symm h4), rd_put_ne (Ne.symm h2)]

theorem failedBy_event : (s.failedBy i cause).rd SUP_STAT.FAIL_EV = 1 := by
  rw [failedBy_rd (by simp), rd_put_same]
  rfl

theorem failedBy_sameArea (x : Area) : SameArea s (s.failedBy i cause) x := by
  refine Kept.same (A := fun _ => False) ?_ x id
  exact kept_showProb (kept_setStack (kept_clear (kept_raise (kept_put _ _ (kept_bump (kept_put _ _ (kept_put _ _ (.refl s))))))))

/-- Source 32 pends. -/
theorem failedBy_pend : (s.failedBy i cause).rd (IRQ_PEND 32) = 1 := by
  have hafter : SameFields [SUPC.RETURN i, SUPC.IMG i, SUPC.AGREED i, IRQC.SEL (i + 1), IRQ_SSTK.W i, SUP_PROB.AGREED]
      (s.put (SUPC.STATE i) Sup.failed |>.put (SUP_FAIL_S.CAUSE i) cause |>.bump (SUP_FAIL_S.COUNT i)
        |>.put SUP_STAT.FAIL_EV 1 |>.raise 32) (s.failedBy i cause) := by
    refine sameFields_showProb (setStack_sameFields (sameFields_clear (.refl _ _) ?_) ?_) ?_
    all_goals simp
  have hkeys : ∀ i : Fin 3, ∀ g ∈ [SUPC.RETURN i, SUPC.IMG i, SUPC.AGREED i, IRQC.SEL (i + 1), IRQ_SSTK.W i, SUP_PROB.AGREED],
      g.key ≠ (IRQ_PEND 32).key := by decide
  rw [hafter _ (hkeys i), raise_pend (by decide)]

theorem other_sup_keys : ∀ i j : Fin 3, i ≠ j → isQuiet (SUPC.STATE j).key = true ∧
    ∀ g ∈ declareFields i, g.key ≠ (SUPC.STATE j).key := by decide

theorem failedBy_other {j : Fin 3} (h : i ≠ j) : (s.failedBy i cause).sup j = s.sup j :=
  failedBy_fieldsKept.read (by simp) (by simp) (other_sup_keys i j h)

/-! ## Those whose votes count -/

theorem counts_of_counted {l : List Nat} (h : s.counted = l) {j : Nat} (hj : j ∈ l) :
    s.sup j = Sup.leader ∨ s.sup j = Sup.follower := by
  rw [← h] at hj
  simpa using (List.mem_filter.1 hj).2

/-- Two supervisors that serve are enough. -/
theorem counted_two {j k : Nat} (hj : j < 3) (hk : k < 3) (hjk : j ≠ k) (h : s.sup j = Sup.leader ∨ s.sup j = Sup.follower)
    (h' : s.sup k = Sup.leader ∨ s.sup k = Sup.follower) : ¬ s.counted.length < 2 := by
  have hmem : ∀ i < 3, (s.sup i = Sup.leader ∨ s.sup i = Sup.follower) → i ∈ s.counted := fun i hi hs => by
    refine List.mem_filter.2 ⟨?_, by simpa using hs⟩
    simp only [List.mem_cons]
    omega
  have hsub : [j, k] ⊆ s.counted := by
    simp only [List.cons_subset, List.nil_subset, and_true]
    exact ⟨hmem j hj h, hmem k hk h'⟩
  have hlen : [j, k].length ≤ s.counted.length :=
    (List.subperm_of_subset (by simpa using hjk) hsub).length_le
  exact Nat.not_lt.2 hlen

/-- None of three that serve is in PROBATION. -/
theorem probation_nil (h : s.counted = [0, 1, 2]) : [0, 1, 2].filter (fun i => decide (s.sup i = Sup.probation)) = [] := by
  refine List.filter_eq_nil_iff.2 fun j hj hp => ?_
  have hserve := counts_of_counted h hj
  rw [of_decide_eq_true hp] at hserve
  exact absurd hserve (by decide)

end

/-! ## The descriptors (Table 15.3) -/

section
variable {s : State} {u v w : Nat}

theorem tally_agreed (h : s.counted = [0, 1, 2]) : s.tally [some v, some v, some v] = s.decide true .refused := by
  unfold State.tally
  rw [h, probation_nil h]
  simp [majority, State.each]

theorem tally_last_differs (h : s.counted = [0, 1, 2]) (hne : u ≠ v) (hl : s.sup 2 ≠ Sup.leader) :
    s.tally [some v, some v, some u] = (s.decide true .refused).declare 2 1 := by
  unfold State.tally
  rw [h, probation_nil h]
  simp [majority, State.each, hne, hl]

theorem tally_leader_differs (h : s.counted = [0, 1, 2]) (hne : u ≠ v) (hl : s.sup 0 = Sup.leader) :
    s.tally [some u, some v, some v] = (s.decide false .refused).declare 0 1 := by
  unfold State.tally
  rw [h]
  simp [majority, hne, hl]

theorem tally_none_equal (h : s.counted = [0, 1, 2]) (huv : u ≠ v) (hvw : v ≠ w) (huw : u ≠ w) :
    s.tally [some u, some v, some w] = (s.decide false .refused).freeze 3 := by
  unfold State.tally
  rw [h]
  simp [majority, huv, hvw, huw]

theorem tally_two_differ (h : s.counted = [0, 1]) (hne : u ≠ v) :
    s.tally [some u, some v, none] = (s.decide false .refused).put SUPC.TESTING 3 := by
  unfold State.tally
  rw [h]
  simp [hne]

/-- The open vote is decided; SUP0 as a follower tries again to lead after a checkpoint only. -/
theorem exec_voteDecision {d : Option Nat × Option Nat × Option Nat} (ho : s.on SUP_ARB_STAT.VOTE_OPEN = true)
    (h : s.votes.head? = some .checkpoint → (s.tally [d.1, d.2.1, d.2.2]).sup 0 ≠ Sup.follower) :
    exec (.voteDecision d.1 d.2.1 d.2.2) s = .next (s.tally [d.1, d.2.1, d.2.2]) := by
  have hexec : exec (.voteDecision d.1 d.2.1 d.2.2) s = execVoteDecision d.1 d.2.1 d.2.2 s := rfl
  rw [hexec]
  unfold execVoteDecision
  rw [ho, when_true]
  by_cases hc : s.votes.head? = some .checkpoint
  · simp [hc, h hc]
  · simp [hc]

theorem votes_of_head {x : Vote} (h : s.votes.head? = some x) : s.votes = x :: s.votes.tail := by
  cases hv : s.votes with
  | nil => simp [hv] at h
  | cons a l => rw [hv] at h; simpa using h

/-- The record that commits freeze (R352). -/
def State.frozenBy (cause : Nat) (s : State) : State :=
  s.put SUP_STAT.FROZEN 1 |>.put SUP_STAT.FREEZE_CAUSE cause |>.put SUP_STAT.FREEZE_EV 1 |>.raise 34

theorem frozenBy_sameArea {cause : Nat} (x : Area) : SameArea s (s.frozenBy cause) x :=
  Kept.same (A := fun _ => False) (kept_raise (kept_put _ _ (kept_put _ _ (kept_put _ _ (.refl s))))) x id

theorem frozenBy_fieldsKept {cause : Nat} :
    FieldsKept [SUP_STAT.FROZEN, SUP_STAT.FREEZE_CAUSE, SUP_STAT.FREEZE_EV] [34] [] s (s.frozenBy cause) := by
  refine fieldsKept_raise (fieldsKept_put_of (fieldsKept_put_of (fieldsKept_put_of (.refl _ _ _ s) ?_) ?_) ?_) (by simp)
  all_goals simp

theorem frozenBy_quiet {cause : Nat} {f : Field} (hf : isQuiet f.key = true) : (s.frozenBy cause).rd f =
    (s.put SUP_STAT.FROZEN 1 |>.put SUP_STAT.FREEZE_CAUSE cause |>.put SUP_STAT.FREEZE_EV 1).rd f :=
  rd_raise_quiet (by decide) (quiet_of_isQuiet hf)

theorem frozenBy_shown {cause : Nat} (hc : cause < 16) : (s.frozenBy cause).rd SUP_STAT.FROZEN = 1 ∧
    (s.frozenBy cause).rd SUP_STAT.FREEZE_CAUSE = cause ∧ (s.frozenBy cause).rd SUP_STAT.FREEZE_EV = 1 := by
  refine ⟨?_, ?_, ?_⟩
  · rw [frozenBy_quiet (by decide), rd_put_ne (by decide), rd_put_ne (by decide), rd_put_same]
    rfl
  · rw [frozenBy_quiet (by decide), rd_put_ne (by decide), rd_put_same]
    exact Nat.mod_eq_of_lt hc
  · rw [frozenBy_quiet (by decide), rd_put_same]
    rfl

/-- Commits freeze with no vote waiting. -/
theorem freeze_of_no_votes {cause : Nat} (hf : s.frozen = false) (hv : s.votes = []) : s.freeze cause = s.frozenBy cause := by
  have hvotes : (s.frozenBy cause).votes = [] := Eq.trans (frozenBy_sameArea .votes) hv
  unfold State.freeze
  rw [hf]
  change (s.frozenBy cause).each (s.frozenBy cause).votes _ = s.frozenBy cause
  rw [hvotes]
  rfl

end

/-! ## Failover (R345, R347) -/

section
variable {s : State} {i : Nat}

theorem commitsLost_of_none (h : ∀ n : Fin 4, s.rd (TRB_CMT_STAT.STATE n) ≠ 2) : s.commitsLost = s := by
  have h0 := h 0
  have h1 := h 1
  have h2 := h 2
  have h3 := h 3
  simp only [Fin.val_zero, Fin.val_one, Fin.val_two, show (3 : Fin 4).val = 3 from rfl] at h0 h1 h2 h3
  simp [State.commitsLost, State.each, channels, h0, h1, h2, h3]

/-- What a failover does with nothing open, waiting or running. -/
def State.leadBy (i : Nat) (s : State) : State :=
  ((s.put SUP_MBX_STAT.LOST 0).addSat SUP_MBX_CNT.ABORTED 0).nextGen |>.put SUP_STAT.FAILOVER_EV 1 |>.raise 33
    |>.put SUPC.DRAIN 0 |>.put SUP_STAT.LEADER i |>.put (SUPC.STATE i) Sup.leader |>.put SUP_MBX_STAT.SERVING 1

theorem failover_of_quiet (ho : s.on SUP_ARB_STAT.VOTE_OPEN = false) (hc : ∀ n : Fin 4, s.rd (TRB_CMT_STAT.STATE n) ≠ 2)
    (hcal : s.calBusy = false) (hm : s.mbx = []) (hi : [0, 1, 2].find? (fun i => decide (s.sup i = Sup.follower)) = some i) :
    s.failover = s.leadBy i := by
  have hrun : (s.rd CAL_RUN_STAT.STATE = 1 || s.rd CAL_RUN_STAT.STATE = 2 : Bool) = false := by
    simp only [State.calBusy, Bool.and_eq_false_iff, decide_eq_false_iff_not] at hcal
    simp only [Bool.or_eq_false_iff, decide_eq_false_iff_not]
    omega
  have habort : s.mbxAbort = (s.put SUP_MBX_STAT.LOST 0).addSat SUP_MBX_CNT.ABORTED 0 := by
    simp [State.mbxAbort, hm, State.each]
  unfold State.failover
  rw [ho, when_false, commitsLost_of_none hc]
  unfold State.calSupLost
  rw [hrun, when_false, habort, hi]
  rfl

/-- Fields that a failover sets (R347, R359, R360). -/
def leadFields (i : Nat) : List Field :=
  [SUP_MBX_STAT.LOST, SUP_MBX_CNT.ABORTED, SUP_MBX_GEN.GEN, SUP_STAT.FAILOVER_EV, SUPC.DRAIN, SUP_STAT.LEADER, SUPC.STATE i,
   SUP_MBX_STAT.SERVING]

theorem leadBy_fieldsKept : FieldsKept (leadFields i) [33] [] s (s.leadBy i) := by
  refine fieldsKept_put_of (fieldsKept_put_of (fieldsKept_put_of (fieldsKept_put_of (fieldsKept_raise (fieldsKept_put_of
    (fieldsKept_put_of (fieldsKept_addSat_of (fieldsKept_put_of (.refl _ _ _ s) ?_) ?_) ?_) ?_) (by simp)) ?_) ?_) ?_) ?_
  all_goals simp [leadFields]

theorem leadBy_sameArea (x : Area) : SameArea s (s.leadBy i) x := by
  refine Kept.same (A := fun _ => False) ?_ x id
  exact kept_put _ _ (kept_put _ _ (kept_put _ _ (kept_put _ _ (kept_raise (kept_put _ _ (kept_nextGen
    (kept_addSat (kept_put _ _ (.refl s)))))))))

theorem leadBy_sup {i : Fin 3} : (s.leadBy i).sup i = Sup.leader := by
  have hkey : ∀ i : Fin 3, (SUPC.STATE i).key ≠ SUP_MBX_STAT.SERVING.key := by decide
  unfold State.leadBy State.sup
  rw [rd_put_ne (hkey i), rd_put_same]
  rfl

theorem leadBy_leader {i : Fin 3} : (s.leadBy i).rd SUP_STAT.LEADER = i := by
  have hkey : ∀ i : Fin 3, SUP_STAT.LEADER.key ≠ (SUPC.STATE i).key := by decide
  unfold State.leadBy
  rw [rd_put_ne (by decide), rd_put_ne (hkey i), rd_put_same]
  exact Nat.mod_eq_of_lt (i.isLt.trans (by decide))

theorem leadBy_event {i : Fin 3} : (s.leadBy i).rd SUP_STAT.FAILOVER_EV = 1 := by
  have hkey : ∀ i : Fin 3, SUP_STAT.FAILOVER_EV.key ≠ (SUPC.STATE i).key := by decide
  unfold State.leadBy
  rw [rd_put_ne (by decide), rd_put_ne (hkey i), rd_put_ne (by decide), rd_put_ne (by decide),
    rd_raise_quiet (by decide) (quiet_of_isQuiet (by decide)), rd_put_same]
  rfl

theorem leadBy_pend {i : Fin 3} : (s.leadBy i).rd (IRQ_PEND 33) = 1 := by
  have hkey : ∀ i : Fin 3, (IRQ_PEND 33).key ≠ (SUPC.STATE i).key := by decide
  unfold State.leadBy
  rw [rd_put_ne (by decide), rd_put_ne (hkey i), rd_put_ne (by decide), rd_put_ne (by decide), raise_pend (by decide)]

/-- The generation advances, 0x00 skipped (R359). -/
theorem leadBy_gen {i : Fin 3} : (s.leadBy i).rd SUP_MBX_GEN.GEN =
    if (s.rd SUP_MBX_GEN.GEN + 1) % 256 = 0 then 1 else (s.rd SUP_MBX_GEN.GEN + 1) % 256 := by
  have hkey : ∀ i : Fin 3, SUP_MBX_GEN.GEN.key ≠ (SUPC.STATE i).key := by decide
  have hgen : ((s.put SUP_MBX_STAT.LOST 0).addSat SUP_MBX_CNT.ABORTED 0).rd SUP_MBX_GEN.GEN = s.rd SUP_MBX_GEN.GEN := by
    rw [rd_addSat_ne (by decide), rd_put_ne (by decide)]
  unfold State.leadBy State.nextGen
  rw [rd_put_ne (by decide), rd_put_ne (hkey i), rd_put_ne (by decide), rd_put_ne (by decide),
    rd_raise_quiet (by decide) (quiet_of_isQuiet (by decide)), rd_put_ne (by decide), rd_put_same, hgen]
  refine Nat.mod_eq_of_lt (?_ : _ < 256)
  split <;> omega

end

/-! ## The cases of the obligation -/

section
variable {s : State} {u v w : Nat}

theorem exec_voteOpen (ho : s.on SUP_ARB_STAT.VOTE_OPEN = false) (hv : s.votes ≠ []) (ht : s.rd SUPC.TESTING = 0)
    (hf : s.frozen = false) (hfw : s.firmware = true) :
    exec .voteOpen s = .next ({ s with votes := voteOrder s.votes }.put SUP_ARB_STAT.VOTE_OPEN 1) := by
  have hne : s.votes.isEmpty = false := by simpa using hv
  have hexec : exec .voteOpen s = execVoteOpen s := rfl
  have hcond : (!s.on SUP_ARB_STAT.VOTE_OPEN && !s.votes.isEmpty && decide (s.rd SUPC.TESTING = 0)) = true := by
    rw [ho, hne, ht]
    rfl
  have hf' : ({ s with votes := voteOrder s.votes } : State).frozen = false := hf
  have hfw' : ({ s with votes := voteOrder s.votes } : State).firmware = true := hfw
  rw [hexec]
  unfold execVoteOpen
  rw [hcond, when_true]
  simp only [hf', hfw', Bool.false_eq_true, if_false, when_true]

theorem newestAB_congr {t : State} {sc : Fin 5} (ha : t.rd (CAL_SSTAT_S.VALID_A sc) = s.rd (CAL_SSTAT_S.VALID_A sc))
    (hb : t.rd (CAL_SSTAT_S.VALID_B sc) = s.rd (CAL_SSTAT_S.VALID_B sc)) (hm : t.store = s.store) :
    t.newestAB sc = s.newestAB sc := by
  unfold State.newestAB State.on State.regionSeq
  rw [ha, hb, hm]

/-- What a calibration apply that is approved writes: the region that does not hold the newest copy (R327). -/
def State.otherRegion (s : State) (sc : Nat) : Nat := if s.newestAB sc = some 1 then 2 else 1

theorem apply_keys : ∀ sc : Fin 5, ∀ f ∈ [CAL_RUN_STAT.STATE, CAL_RUN_STAT.SCOPE, CALC.NOWRITE, CAL_SSTAT_S.VALID_A sc,
    CAL_SSTAT_S.VALID_B sc], isQuiet f.key = true ∧ ∀ g ∈ decideFields true .calApply, g.key ≠ f.key := by decide

theorem region_keys : ∀ sc : Fin 5, ∀ r < 3, ∀ f ∈ decideFields true .calApply,
    f.key ≠ (validField sc r).key ∧ f.key ≠ CALC.REGION.key ∧ f.key ≠ CAL_RUN_STAT.STATE.key ∧ f.key ≠ CAL_STORE.STATE.key := by
  decide

/-- The fields that the start of a region write leaves. -/
theorem regionWrite_rd {sc r : Nat} (hsc : s.rd CAL_RUN_STAT.SCOPE = sc) {f : Field}
    (h : f.key ≠ (validField sc r).key ∧ f.key ≠ CALC.REGION.key ∧ f.key ≠ CAL_RUN_STAT.STATE.key ∧ f.key ≠ CAL_STORE.STATE.key) :
    (s.regionWrite r).rd f = s.rd f := by
  obtain ⟨h1, h2, h3, h4⟩ := h
  unfold State.regionWrite
  rw [hsc]
  dsimp only
  cases decide (s.rd CAL_STORE.STATE ≠ 3)
  · rw [when_false, rd_put_ne h3, rd_put_ne h2, rd_put_ne h1]
    rfl
  · rw [when_true, rd_put_ne h4, rd_put_ne h3, rd_put_ne h2, rd_put_ne h1]
    rfl

theorem regionWrite_run {r : Nat} : (s.regionWrite r).rd CAL_RUN_STAT.STATE = 4 := by
  unfold State.regionWrite
  dsimp only
  cases decide (s.rd CAL_STORE.STATE ≠ 3)
  · rw [when_false, rd_put_same]; rfl
  · rw [when_true, rd_put_ne (by decide), rd_put_same]; rfl

theorem regionWrite_region {r : Nat} (hr : r < 4) : (s.regionWrite r).rd CALC.REGION = r := by
  unfold State.regionWrite
  dsimp only
  cases decide (s.rd CAL_STORE.STATE ≠ 3)
  · rw [when_false, rd_put_ne (by decide), rd_put_same]; exact Nat.mod_eq_of_lt hr
  · rw [when_true, rd_put_ne (by decide), rd_put_ne (by decide), rd_put_same]; exact Nat.mod_eq_of_lt hr

theorem regionWrite_sameFields {l : List Field} {a : State} {sc r : Nat} (hsc : s.rd CAL_RUN_STAT.SCOPE = sc) (h : SameFields l a s)
    (hl : ∀ f ∈ [validField sc r, CALC.REGION, CAL_RUN_STAT.STATE, CAL_STORE.STATE], f ∈ l) : SameFields l a (s.regionWrite r) :=
  h.trans fun f hf => regionWrite_rd hsc
    ⟨(hf _ (hl _ (by simp))).symm, (hf _ (hl _ (by simp))).symm, (hf _ (hl _ (by simp))).symm, (hf _ (hl _ (by simp))).symm⟩

theorem regionWrite_sameArea {r : Nat} (x : Area) (hx : x ≠ .store) : SameArea s (s.regionWrite r) x :=
  haveI : Fact ((fun x => x = Area.store) Area.store) := ⟨rfl⟩
  (kept_regionWrite (A := fun x => x = Area.store) (.refl s)).same x hx

theorem calApproved_of_run {sc : Nat} (hst : s.rd CAL_RUN_STAT.STATE = 3) (hsc : s.rd CAL_RUN_STAT.SCOPE = sc)
    (hw : s.on CALC.NOWRITE = false) : s.calApproved = s.regionWrite (s.otherRegion sc) := by
  unfold State.calApproved State.otherRegion
  rw [hw, hsc]
  simp only [hst, ne_eq, not_true_eq_false, if_false, Bool.false_eq_true]

theorem on_congr {f : Field} {t : State} (h : t.rd f = s.rd f) : t.on f = s.on f := by
  unfold State.on
  rw [h]

/-- The vote of a calibration apply is approved. -/
theorem exec_applyApproved {sc : Fin 5} (ho : s.on SUP_ARB_STAT.VOTE_OPEN = true) (hhead : s.votes.head? = some .calApply)
    (hc : s.counted = [0, 1, 2]) (hst : s.rd CAL_RUN_STAT.STATE = 3) (hsc : s.rd CAL_RUN_STAT.SCOPE = sc.val)
    (hw : s.on CALC.NOWRITE = false) :
    (s.decided true .calApply s.votes.tail).rd CAL_RUN_STAT.SCOPE = sc ∧ exec (.voteDecision (some v) (some v) (some v)) s =
      .next ((s.decided true .calApply s.votes.tail).regionWrite (s.otherRegion sc)) := by
  have hread : ∀ f ∈ [CAL_RUN_STAT.STATE, CAL_RUN_STAT.SCOPE, CALC.NOWRITE, CAL_SSTAT_S.VALID_A sc,
      CAL_SSTAT_S.VALID_B sc], (s.decided true .calApply s.votes.tail).rd f = s.rd f := fun f hf =>
    decided_fieldsKept.read (by simp) (by simp) (apply_keys sc f hf)
  have hsc' := (hread CAL_RUN_STAT.SCOPE (by simp)).trans hsc
  have hregion : (s.decided true .calApply s.votes.tail).otherRegion sc = s.otherRegion sc := by
    unfold State.otherRegion
    rw [newestAB_congr (hread _ (by simp)) (hread _ (by simp)) (decided_sameArea .store (by decide))]
  have hw' : (s.decided true .calApply s.votes.tail).on CALC.NOWRITE = false :=
    (on_congr (hread CALC.NOWRITE (by simp))).trans hw
  refine ⟨hsc', ?_⟩
  rw [exec_voteDecision (d := (some v, some v, some v)) ho (fun h => absurd (hhead.symm.trans h) (by simp)), tally_agreed hc,
    decide_approved (votes_of_head hhead)]
  exact congrArg _ ((calApproved_of_run ((hread CAL_RUN_STAT.STATE (by simp)).trans hst) hsc' hw').trans (by rw [hregion]))

/-- No two descriptors are equal, and nothing waits. -/
theorem exec_disagreement (ho : s.on SUP_ARB_STAT.VOTE_OPEN = true) (hv : s.votes = [.checkpoint]) (hc : s.counted = [0, 1, 2])
    (hf : s.frozen = false) (hl : s.sup 0 = Sup.leader) (huv : u ≠ v) (hvw : v ≠ w) (huw : u ≠ w) :
    exec (.voteDecision (some u) (some v) (some w)) s = .next ((s.decided false .checkpoint []).frozenBy 3) := by
  have hfrozen : (s.decided false .checkpoint []).frozen = false :=
    (on_congr (decided_fieldsKept.read (by simp) (by simp) (by decide))).trans hf
  have hsup : ((s.decided false .checkpoint []).frozenBy 3).sup 0 = Sup.leader :=
    (frozenBy_fieldsKept.read (by simp) (by simp) (by decide)).trans
      ((decided_fieldsKept.read (by simp) (by simp) (by decide)).trans hl)
  have htally : s.tally [some u, some v, some w] = (s.decided false .checkpoint []).frozenBy 3 := by
    rw [tally_none_equal hc huv hvw huw, decide_refused hv]
    exact freeze_of_no_votes hfrozen decided_votes
  rw [← htally]
  exact exec_voteDecision (d := (some u, some v, some w)) ho (fun _ => by rw [htally, hsup]; decide)

/-- Fields of such a decision. -/
theorem disagreement_fieldsKept : FieldsKept [SUP_ARB_STAT.VOTE_OPEN, SUP_ARB_STAT.LAST, SUP_ARB_STAT.LAST_KIND, SUP_STAT.FROZEN,
    SUP_STAT.FREEZE_CAUSE, SUP_STAT.FREEZE_EV] [34] [4] s ((s.decided false .checkpoint []).frozenBy 3) := by
  refine fieldsKept_raise (fieldsKept_put_of (fieldsKept_put_of (fieldsKept_put_of (decided_fieldsKept_of.mono ?_) ?_) ?_) ?_) (by simp)
  all_goals simp +contextual [decideFields, Vote.kind]

/-- Two that serve differ. -/
theorem exec_twoDiffer (ho : s.on SUP_ARB_STAT.VOTE_OPEN = true) (hhead : s.votes.head? = some .checkpoint)
    (hc : s.counted = [0, 1]) (hl : s.sup 0 = Sup.leader) (hne : u ≠ v) :
    exec (.voteDecision (some u) (some v) none) s = .next ((s.decided false .checkpoint s.votes.tail).put SUPC.TESTING 3) := by
  have hsup : ((s.decided false .checkpoint s.votes.tail).put SUPC.TESTING 3).sup 0 = Sup.leader :=
    (rd_put_ne (by decide)).trans ((decided_fieldsKept.read (by simp) (by simp) (by decide)).trans hl)
  have htally : s.tally [some u, some v, none] = (s.decided false .checkpoint s.votes.tail).put SUPC.TESTING 3 := by
    rw [tally_two_differ hc hne, decide_refused (votes_of_head hhead)]
    rfl
  rw [← htally]
  exact exec_voteDecision (d := (some u, some v, none)) ho (fun _ => by rw [htally, hsup]; decide)

/-- The fields that a FENCE_CLEAR's approval leaves: every supervisor's state, and the return of one that serves. -/
theorem fenceClear_keys : ∀ j : Fin 3, ∀ f ∈ [SUPC.STATE j, SUPC.RETURN j, SUP_FAIL_S.COUNT j],
    isQuiet f.key = true ∧ ∀ g ∈ [SUP_ARB_STAT.VOTE_OPEN, SUP_ARB_STAT.LAST, SUP_ARB_STAT.LAST_KIND, SUP_VOTE_CNT.APPROVED,
      SUP_VOTE_CNT.REFUSED], g.key ≠ f.key := by decide

theorem decideFields_mem {yes : Bool} {x : Vote} {f : Field} (h : f ∈ decideFields yes x) :
    f ∈ [SUP_ARB_STAT.VOTE_OPEN, SUP_ARB_STAT.LAST, SUP_ARB_STAT.LAST_KIND, SUP_VOTE_CNT.APPROVED, SUP_VOTE_CNT.REFUSED] := by
  unfold decideFields at h
  cases yes <;> by_cases hk : x.kind = 15 <;> simp [hk] at h ⊢ <;> tauto

theorem decision_frozen : ∀ g ∈ [SUP_ARB_STAT.VOTE_OPEN, SUP_ARB_STAT.LAST, SUP_ARB_STAT.LAST_KIND, SUP_VOTE_CNT.APPROVED,
    SUP_VOTE_CNT.REFUSED], g.key ≠ SUP_STAT.FROZEN.key := by decide

/-- A decision leaves the supervisors as they are. -/
theorem decided_sup {yes : Bool} {x : Vote} {vs : List Vote} (j : Fin 3) {f : Field}
    (hf : f ∈ [SUPC.STATE j, SUPC.RETURN j, SUP_FAIL_S.COUNT j]) : (s.decided yes x vs).rd f = s.rd f :=
  decided_fieldsKept.read (by simp) (by simp)
    ⟨(fenceClear_keys j f hf).1, fun g hg => (fenceClear_keys j f hf).2 g (decideFields_mem hg)⟩

/-- The approval of a FENCE_CLEAR: its command goes on to the retest. -/
def State.retestReady (tag : Nat) (s : State) : State := (s.decided true (.fenceClear tag) s.votes.tail).mbxStage tag 2

theorem retestReady_regs {tag : Nat} : (s.retestReady tag).regs = (s.decided true (.fenceClear tag) s.votes.tail).regs := rfl

theorem retestReady_rd {tag : Nat} {f : Field} :
    (s.retestReady tag).rd f = (s.decided true (.fenceClear tag) s.votes.tail).rd f := rfl

theorem retestReady_parts {tag : Nat} : (s.retestReady tag).votes = s.votes.tail ∧ (s.retestReady tag).ch = s.ch ∧
    (s.retestReady tag).flow = s.flow ∧
    (s.retestReady tag).mbx = s.mbx.map (fun m => if m.tag = tag then { m with stage := 2 } else m) := by
  refine ⟨?_, ?_, ?_, ?_⟩ <;> unfold State.retestReady State.mbxStage
  · exact decided_votes
  · exact decided_ch
  · exact decided_flow
  · rw [decided_mbx]

theorem retestReady_sup {tag : Nat} (j : Fin 3) {f : Field} (hf : f ∈ [SUPC.STATE j, SUPC.RETURN j, SUP_FAIL_S.COUNT j]) :
    (s.retestReady tag).rd f = s.rd f := retestReady_rd.trans (decided_sup j hf)

/-- A follower fails while the two others serve: no failover and no freeze. -/
theorem declare_of_follower {i j k : Fin 3} {cause : Nat} (hst : s.sup i = Sup.follower) (hret : s.on (SUPC.RETURN i) = false)
    (hij : i ≠ j) (hik : i ≠ k) (hjk : j ≠ k) (hj : s.sup j = Sup.leader ∨ s.sup j = Sup.follower)
    (hk : s.sup k = Sup.leader ∨ s.sup k = Sup.follower) : s.declare i cause = s.failedBy i cause := by
  have hleft : ¬ (s.failedBy i cause).counted.length < 2 :=
    counted_two j.isLt k.isLt (Fin.val_ne_of_ne hjk) (by rwa [failedBy_other hij]) (by rwa [failedBy_other hik])
  have hlead : decide (s.sup i = Sup.leader) = false := by rw [hst]; rfl
  rw [declare_of_counted (.inr hst) hret, hlead, when_false, decide_eq_false hleft, when_false]

/-- A follower differs in the vote of a FENCE_CLEAR. -/
theorem exec_followerDiffers {tag : Nat} (ho : s.on SUP_ARB_STAT.VOTE_OPEN = true)
    (hhead : s.votes.head? = some (.fenceClear tag)) (hc : s.counted = [0, 1, 2]) (hst : s.sup 2 = Sup.follower)
    (hret : s.on (SUPC.RETURN 2) = false) (hne : u ≠ v) :
    exec (.voteDecision (some v) (some v) (some u)) s = .next ((s.retestReady tag).failedBy (2 : Fin 3) 1) := by
  have hsup : ∀ j : Fin 3, (s.retestReady tag).sup j = s.sup j := fun j => retestReady_sup j (by simp)
  have hserve : ∀ j : Fin 3, (s.retestReady tag).sup j = Sup.leader ∨ (s.retestReady tag).sup j = Sup.follower := fun j => by
    have hmem : ∀ j : Fin 3, j.val ∈ [0, 1, 2] := by decide
    rw [hsup]
    exact counts_of_counted hc (hmem j)
  have hdeclare : (s.retestReady tag).declare (2 : Fin 3) 1 = (s.retestReady tag).failedBy (2 : Fin 3) 1 :=
    declare_of_follower (j := 0) (k := 1) ((hsup 2).trans hst) ((on_congr (retestReady_sup 2 (by simp))).trans hret)
      (by decide) (by decide) (by decide) (hserve 0) (hserve 1)
  rw [exec_voteDecision (d := (some v, some v, some u)) ho (fun h => absurd (hhead.symm.trans h) (by simp)),
    tally_last_differs hc hne (by rw [hst]; decide), decide_approved (votes_of_head hhead)]
  exact congrArg _ hdeclare

theorem failedBy_decision_keys : ∀ i : Fin 3, ∀ f ∈ [SUP_ARB_STAT.VOTE_OPEN, SUP_ARB_STAT.LAST, SUP_ARB_STAT.LAST_KIND,
    SUP_VOTE_CNT.APPROVED, SUP_STAT.FROZEN], isQuiet f.key = true ∧ ∀ g ∈ declareFields i, g.key ≠ f.key := by decide

/-- A declaration leaves what the decision shows. -/
theorem failedBy_decision {i : Fin 3} {cause : Nat} {f : Field} (hf : f ∈ [SUP_ARB_STAT.VOTE_OPEN, SUP_ARB_STAT.LAST,
    SUP_ARB_STAT.LAST_KIND, SUP_VOTE_CNT.APPROVED, SUP_STAT.FROZEN]) : (s.failedBy i cause).rd f = s.rd f :=
  failedBy_fieldsKept.read (by simp) (by simp) (failedBy_decision_keys i f hf)

theorem handover_keys : ∀ f ∈ [SUP_ARB_STAT.VOTE_OPEN, SUP_ARB_STAT.LAST, SUPC.STATE 0, SUPC.STATE 2, SUP_FAIL_S.CAUSE 0],
    isQuiet f.key = true ∧ ∀ g ∈ leadFields (1 : Fin 3), g.key ≠ f.key := by decide

theorem handover_cmt_keys : ∀ n : Fin 4, ∀ f ∈ [TRB_CMT_STAT.STATE n, CAL_RUN_STAT.STATE, SUP_MBX_GEN.GEN],
    isQuiet f.key = true ∧ (∀ g ∈ [SUP_ARB_STAT.VOTE_OPEN, SUP_ARB_STAT.LAST, SUP_ARB_STAT.LAST_KIND, SUP_VOTE_CNT.APPROVED,
      SUP_VOTE_CNT.REFUSED], g.key ≠ f.key) ∧ ∀ g ∈ declareFields (0 : Fin 3), g.key ≠ f.key := by decide

/-- The checkpoint is refused and the leader is declared failed. -/
def State.leaderFailed (s : State) : State := (s.decided false .checkpoint []).failedBy (0 : Fin 3) 1

theorem leaderFailed_rd (n : Fin 4) {f : Field} (hf : f ∈ [TRB_CMT_STAT.STATE n, CAL_RUN_STAT.STATE, SUP_MBX_GEN.GEN]) :
    s.leaderFailed.rd f = s.rd f := by
  obtain ⟨hq, hdecide, hdeclare⟩ := handover_cmt_keys n f hf
  refine (failedBy_fieldsKept.read (by simp) (by simp) ⟨hq, hdeclare⟩).trans ?_
  exact decided_fieldsKept.read (by simp) (by simp) ⟨hq, fun g hg => hdecide g (decideFields_mem hg)⟩

/-- The leader differs in a checkpoint: SUP1 leads. -/
theorem exec_leaderDiffers (ho : s.on SUP_ARB_STAT.VOTE_OPEN = true) (hv : s.votes = [.checkpoint]) (h0 : s.sup 0 = Sup.leader)
    (h1 : s.sup 1 = Sup.follower) (h2 : s.sup 2 = Sup.follower) (hret : s.on (SUPC.RETURN 0) = false) (hm : s.mbx = [])
    (hcal : s.calBusy = false) (hcmt : ∀ n : Fin 4, s.rd (TRB_CMT_STAT.STATE n) ≠ 2) (hne : u ≠ v) :
    exec (.voteDecision (some u) (some v) (some v)) s = .next (s.leaderFailed.leadBy (1 : Fin 3)) := by
  have hcounted : s.counted = [0, 1, 2] := by simp [State.counted, h0, h1, h2]
  have hd0 : (s.decided false .checkpoint []).sup (0 : Fin 3) = Sup.leader := (decided_sup 0 (by simp)).trans h0
  have hstay : (s.decided false .checkpoint []).on (SUPC.RETURN (0 : Fin 3)) = false := (on_congr (decided_sup 0 (by simp))).trans hret
  have hf0 : s.leaderFailed.sup (0 : Fin 3) = Sup.failed := failedBy_sup
  have hf1 : s.leaderFailed.sup (1 : Fin 3) = Sup.follower := (failedBy_other (by decide)).trans ((decided_sup 1 (by simp)).trans h1)
  have hf2 : s.leaderFailed.sup (2 : Fin 3) = Sup.follower := (failedBy_other (by decide)).trans ((decided_sup 2 (by simp)).trans h2)
  have hopen : s.leaderFailed.on SUP_ARB_STAT.VOTE_OPEN = false := by
    unfold State.on State.leaderFailed
    rw [failedBy_decision (by simp), decided_open]
    rfl
  have hbusy : s.leaderFailed.calBusy = false := by
    unfold State.calBusy
    rw [leaderFailed_rd 0 (by simp)]
    exact hcal
  have hfind : [0, 1, 2].find? (fun i => decide (s.leaderFailed.sup i = Sup.follower)) = some (1 : Fin 3).val := by
    have h0' : s.leaderFailed.sup 0 = Sup.failed := hf0
    have h1' : s.leaderFailed.sup 1 = Sup.follower := hf1
    rw [List.find?_cons_of_neg (by simp [h0', Sup.failed, Sup.follower]), List.find?_cons_of_pos (by simp [h1'])]
    rfl
  have hfailover : s.leaderFailed.failover = s.leaderFailed.leadBy (1 : Fin 3) :=
    failover_of_quiet hopen (fun n => by rw [leaderFailed_rd n (by simp)]; exact hcmt n) hbusy
      (Eq.trans (failedBy_sameArea .mbx) (decided_mbx.trans hm)) hfind
  have hleft : ¬ (s.leaderFailed.leadBy (1 : Fin 3)).counted.length < 2 :=
    counted_two (j := 1) (k := 2) (by decide) (by decide) (by decide) (.inl (leadBy_sup (i := 1)))
      (.inr ((leadBy_fieldsKept.read (by simp) (by simp) (handover_keys _ (by simp))).trans hf2))
  have hdeclare : (s.decided false .checkpoint []).declare (0 : Fin 3) 1 = s.leaderFailed.leadBy (1 : Fin 3) := by
    have hlead : decide ((s.decided false .checkpoint []).sup (0 : Fin 3) = Sup.leader) = true := decide_eq_true hd0
    rw [declare_of_counted (.inl hd0) hstay, hlead, when_true]
    change s.leaderFailed.failover.when (decide (s.leaderFailed.failover.counted.length < 2)) _ = _
    rw [hfailover, decide_eq_false hleft, when_false]
  have hstate0 : (s.leaderFailed.leadBy (1 : Fin 3)).sup 0 = Sup.failed :=
    (leadBy_fieldsKept.read (by simp) (by simp) (handover_keys _ (by simp))).trans hf0
  have htally : s.tally [some u, some v, some v] = s.leaderFailed.leadBy (1 : Fin 3) := by
    rw [tally_leader_differs hcounted hne h0, decide_refused hv]
    exact hdeclare
  rw [← htally]
  exact exec_voteDecision (d := (some u, some v, some v)) ho (fun _ => by rw [htally, hstate0]; decide)

end

/-- Settles O43: the vote that opens, the five outcomes of Table 15.3, and the checkpoint timer. -/
theorem votesAreTakenAndDecided : Obligations.VotesAreTakenAndDecided := by
  unfold Obligations.VotesAreTakenAndDecided
  refine ⟨?opens, ?apply, ?follower, ?leader, ?disagree, ?testing, ?timer, ?waits⟩
  case opens =>
    intro s ho hv ht hf hfw
    refine ⟨_, exec_voteOpen ho hv ht hf hfw, rd_put_same .., rfl, rfl, rfl, ?_⟩
    exact sameFields_put_of (sameFields_of_regs (.refl _ s) rfl) (by simp)
  case apply =>
    intro s v sc ho hhead hc hst hsc hw
    obtain ⟨hsc', hexec⟩ := exec_applyApproved (v := v) ho hhead hc hst hsc hw
    have hlt : s.otherRegion sc < 3 := by unfold State.otherRegion; split <;> decide
    have hkeep : ∀ f ∈ decideFields true .calApply,
        ((s.decided true .calApply s.votes.tail).regionWrite (s.otherRegion sc)).rd f =
          (s.decided true .calApply s.votes.tail).rd f := fun f hf => regionWrite_rd hsc' (region_keys sc _ hlt f hf)
    refine ⟨_, hexec, (hkeep _ (by simp [decideFields])).trans decided_open,
      ⟨(hkeep _ (by simp [decideFields])).trans decided_last, (hkeep _ (by simp [decideFields])).trans (decided_kind (by decide))⟩,
      (hkeep _ (by simp [decideFields, Vote.kind])).trans (decided_approved (by decide)),
      Eq.trans (regionWrite_sameArea .votes (by decide)) decided_votes, regionWrite_run, regionWrite_region (by omega),
      Eq.trans (regionWrite_sameArea .ch (by decide)) decided_ch, Eq.trans (regionWrite_sameArea .flow (by decide)) decided_flow, ?_⟩
    refine (decided_fieldsKept.mono ?_).trans (SameFields.kept (regionWrite_sameFields hsc' (.refl _ _) ?_))
    · simp +contextual [decideFields, Vote.kind]
    · simp [State.otherRegion]
  case follower =>
    intro s u v tag ho hhead hc hst hret hne
    obtain ⟨hvotes, hch, hflow, hmbx⟩ := retestReady_parts (s := s) (tag := tag)
    refine ⟨_, exec_followerDiffers ho hhead hc hst hret hne, ?_, ⟨?_, ?_⟩, ?_, Eq.trans (failedBy_sameArea .votes) hvotes,
      Eq.trans (failedBy_sameArea .mbx) hmbx, failedBy_sup, ⟨failedBy_cause (by decide), ?_⟩, failedBy_event, failedBy_pend, ?_,
      Eq.trans (failedBy_sameArea .ch) hch, Eq.trans (failedBy_sameArea .flow) hflow⟩
    · rw [failedBy_decision (by simp), retestReady_rd, decided_open]
    · rw [failedBy_decision (by simp), retestReady_rd, decided_last]
      rfl
    · rw [failedBy_decision (by simp), retestReady_rd, decided_kind (v := .fenceClear tag) (show 8 < 16 by decide)]
      rfl
    · rw [failedBy_decision (by simp), retestReady_rd, decided_approved (v := .fenceClear tag) (show 8 ≠ 15 by decide)]
    · refine failedBy_count.trans ?_
      unfold State.oneMore
      rw [retestReady_sup 2 (by simp)]
      rfl
    · refine on_congr ((failedBy_decision (by simp)).trans (retestReady_rd.trans ?_))
      exact decided_fieldsKept.read (by simp) (by simp) ⟨by decide, fun g hg => decision_frozen g (decideFields_mem hg)⟩
  case leader =>
    intro s u v ho hv hsups hret hm hcal hcmt hne
    obtain ⟨h0, h1, h2⟩ := hsups
    have hkeep : ∀ f ∈ [SUP_ARB_STAT.VOTE_OPEN, SUP_ARB_STAT.LAST, SUPC.STATE 0, SUPC.STATE 2, SUP_FAIL_S.CAUSE 0],
        (s.leaderFailed.leadBy (1 : Fin 3)).rd f = s.leaderFailed.rd f := fun f hf =>
      leadBy_fieldsKept.read (by simp) (by simp) (handover_keys f hf)
    refine ⟨_, exec_leaderDiffers ho hv h0 h1 h2 hret hm hcal hcmt hne, ?_, ?_, ⟨?_, ?_⟩, ⟨leadBy_sup, leadBy_leader⟩, ?_, leadBy_event,
      ⟨leadBy_pend, ?_⟩, ?_, ?_⟩
    · exact (hkeep _ (by simp)).trans ((failedBy_decision (by simp)).trans decided_open)
    · exact (hkeep _ (by simp)).trans ((failedBy_decision (by simp)).trans decided_last)
    · exact (hkeep (SUPC.STATE 0) (by simp)).trans (failedBy_sup (i := 0))
    · exact (hkeep (SUP_FAIL_S.CAUSE 0) (by simp)).trans (failedBy_cause (i := 0) (by decide))
    · rw [leadBy_gen, leaderFailed_rd 0 (by simp)]
    · exact (leadBy_fieldsKept.readPend (by simp) (by simp) (by decide) (by simp) (by decide)).trans failedBy_pend
    · exact Eq.trans (leadBy_sameArea .ch) (Eq.trans (failedBy_sameArea .ch) decided_ch)
    · exact Eq.trans (leadBy_sameArea .flow) (Eq.trans (failedBy_sameArea .flow) decided_flow)
  case disagree =>
    intro s u v w ho hv hc hf hl hne
    obtain ⟨huv, hvw, huw⟩ := hne
    obtain ⟨hfrozen, hcause, hevent⟩ := frozenBy_shown (s := s.decided false .checkpoint []) (cause := 3) (by decide)
    refine ⟨_, exec_disagreement ho hv hc hf hl huv hvw huw,
      (frozenBy_fieldsKept.read (by simp) (by simp) (by decide)).trans decided_last, ⟨hfrozen, hcause⟩, hevent, raise_pend (by decide),
      Eq.trans (frozenBy_sameArea .votes) decided_votes, Eq.trans (frozenBy_sameArea .ch) decided_ch,
      Eq.trans (frozenBy_sameArea .flow) decided_flow, disagreement_fieldsKept⟩
  case testing =>
    intro s u v ho hhead hc hl hne
    refine ⟨_, exec_twoDiffer ho hhead hc hl hne, (rd_put_ne (by decide)).trans decided_open, (rd_put_ne (by decide)).trans decided_last,
      rd_put_same .., decided_votes, decided_ch, decided_flow, fieldsKept_put_of (decided_fieldsKept.mono ?_) ?_⟩
    all_goals simp +contextual [decideFields, Vote.kind]
  case timer =>
    intro s hfw hd ho hv hf
    refine ⟨s.request .checkpoint, ?_, ?_, rfl, rfl, rfl⟩
    · have hexec : exec .checkpointTimer s = execCheckpointTimer s := rfl
      have hempty : s.votes.isEmpty = true := by rw [hv]; rfl
      rw [hexec]
      unfold execCheckpointTimer
      rw [hfw, when_true, hd, Bool.false_and, when_false, ho, hempty, hf]
      rfl
    · simp [State.request, hv]
  case waits =>
    intro s hd hv
    refine ⟨s, ?_, rfl⟩
    have hexec : exec .checkpointTimer s = execCheckpointTimer s := rfl
    have hempty : s.votes.isEmpty = false := by simpa using hv
    rw [hexec]
    unfold execCheckpointTimer
    cases s.firmware
    · rfl
    · rw [when_true, hd, Bool.false_and, when_false, hempty, Bool.and_false, Bool.false_and, when_false]

end Sys2Proof.Machine
end

section
/-! Lines of the protected memories as they are read, corrected, logged and written (R385 to R389, Tables 17.1 to 17.3). -/

set_option Elab.async false

namespace Sys2Proof.Machine

/-! ## The list of lines -/

section
variable {loc loc' : Nat} {v : SramLine} {l : List LineAt}

theorem lineAt_dropLine_same : lineAt loc (dropLine loc l) = SramLine.zero := by
  induction l with
  | nil => rfl
  | cons x l ih =>
    by_cases h : x.loc = loc
    · simpa [dropLine, h] using ih
    · simpa [dropLine, lineAt, h] using ih

theorem lineAt_dropLine_other (h : loc ≠ loc') : lineAt loc' (dropLine loc l) = lineAt loc' l := by
  induction l with
  | nil => rfl
  | cons x l ih =>
    by_cases hx : x.loc = loc
    · have hx' : x.loc ≠ loc' := fun e => h (hx.symm.trans e)
      simpa [dropLine, lineAt, hx, h] using ih
    · simp only [dropLine, lineAt, hx, if_false, ih]

theorem lineAt_insertLine_other (h : loc ≠ loc') : lineAt loc' (insertLine loc v l) = lineAt loc' l := by
  induction l with
  | nil => simp [insertLine, lineAt, h]
  | cons x l ih =>
    unfold insertLine
    split
    · simp [lineAt, h]
    · simp only [lineAt, ih]

theorem lineAt_insertLine_same (h : ∀ x ∈ l, x.loc ≠ loc) : lineAt loc (insertLine loc v l) = v := by
  induction l with
  | nil => simp [insertLine, lineAt]
  | cons x l ih =>
    unfold insertLine
    split
    · simp [lineAt]
    · simp only [lineAt, h x (by simp), if_false]
      exact ih fun y hy => h y (by simp [hy])

theorem lineAt_setLine_same : lineAt loc (setLine loc v l) = v := by
  unfold setLine
  split
  · rename_i hv
    rw [lineAt_dropLine_same, hv]
  · refine lineAt_insertLine_same fun x hx => ?_
    rw [dropLine_eq] at hx
    simpa using (List.mem_filter.1 hx).2

theorem lineAt_setLine_other (h : loc ≠ loc') : lineAt loc' (setLine loc v l) = lineAt loc' l := by
  unfold setLine
  split
  · exact lineAt_dropLine_other h
  · rw [lineAt_insertLine_other h, lineAt_dropLine_other h]

end

/-! ## Lines of a bank -/

section
variable {s t : State} {bank line phys : Nat} {v : SramLine}

theorem lineLoc_inj {p q : Nat} (h : p ≠ q) : lineLoc p line ≠ lineLoc q line := by
  unfold lineLoc
  omega

theorem putPhys_lineAt : lineAt (lineLoc phys line) (s.putPhys phys line v).sram = v := lineAt_setLine_same

theorem physOf_congr (h : ∀ b < 64, t.rd (MEM_MAP.PHYS b) = s.rd (MEM_MAP.PHYS b)) : t.physOf bank = s.physOf bank := by
  unfold State.physOf
  split
  · exact h _ ‹_›
  · rfl

theorem physOf_lt (hb : bank < 68) : s.physOf bank < 128 := by
  unfold State.physOf
  split
  · exact rd_lt s (MEM_MAP.PHYS bank)
  · omega

/-- A line reads the same where the map and the array are the same. -/
theorem getLine_congr (hm : t.sram = s.sram) (h : ∀ b < 64, t.rd (MEM_MAP.PHYS b) = s.rd (MEM_MAP.PHYS b)) :
    t.getLine bank line = s.getLine bank line := by
  unfold State.getLine
  rw [hm, physOf_congr h]

theorem getLine_putPhys : (s.putPhys (s.physOf bank) line v).getLine bank line = v := lineAt_setLine_same

theorem putLine_of_copying (h : s.copying bank = true) :
    s.putLine bank line v = (s.putPhys (s.physOf bank) line v).putPhys (64 + s.rd MEMC.RSPARE) line v := by
  unfold State.putLine
  rw [h]
  rfl

theorem putLine_of_plain (h : s.copying bank = false) : s.putLine bank line v = s.putPhys (s.physOf bank) line v := by
  unfold State.putLine
  rw [h]
  rfl

theorem putLine_regs : (s.putLine bank line v).regs = s.regs := by
  cases h : s.copying bank
  · rw [putLine_of_plain h]; rfl
  · rw [putLine_of_copying h]; rfl

theorem putLine_rd {f : Field} : (s.putLine bank line v).rd f = s.rd f := by
  unfold State.rd
  rw [putLine_regs]

theorem putLine_sameArea (x : Area) (hx : x ≠ .sram) : SameArea s (s.putLine bank line v) x :=
  haveI : Fact ((fun x => x = Area.sram) Area.sram) := ⟨rfl⟩
  (kept_putLine (A := fun x => x = Area.sram) (.refl s)).same x hx

theorem putPhys_sameArea (x : Area) (hx : x ≠ .sram) : SameArea s (s.putPhys phys line v) x :=
  haveI : Fact ((fun x => x = Area.sram) Area.sram) := ⟨rfl⟩
  (kept_putPhys (A := fun x => x = Area.sram) (.refl s)).same x hx

/-- A line written reads back. -/
theorem getLine_putLine : (s.putLine bank line v).getLine bank line = v := by
  cases h : s.copying bank
  · rw [putLine_of_plain h]
    exact lineAt_setLine_same
  · rw [putLine_of_copying h]
    by_cases hsame : s.physOf bank = 64 + s.rd MEMC.RSPARE
    · have hloc : ((s.putPhys (s.physOf bank) line v).putPhys (64 + s.rd MEMC.RSPARE) line v).getLine bank line =
          lineAt (lineLoc (s.physOf bank) line) ((s.putPhys (s.physOf bank) line v).putPhys (64 + s.rd MEMC.RSPARE) line v).sram :=
        rfl
      rw [hloc, hsame]
      exact lineAt_setLine_same
    · exact (lineAt_setLine_other (lineLoc_inj (Ne.symm hsame))).trans lineAt_setLine_same

/-- While the bank is copied, the write lands in the spare as well (R394). -/
theorem spareLine_putLine (h : s.copying bank = true) :
    lineAt (lineLoc (64 + s.rd MEMC.RSPARE) line) (s.putLine bank line v).sram = v := by
  rw [putLine_of_copying h]
  exact lineAt_setLine_same

end

/-! ## What an event records (R389, Tables 17.3, 17.7) -/

section
variable {s t : State} {kind src nb byte phys mla : Nat} {f : Field}

/-- One event becomes an entry of its own. -/
def State.logEntry (kind src nb byte phys mla : Nat) (s : State) : State :=
  let p := s.rd MEM_LOG_PTR.PTR
  s.put64 (0x8C00000 + 16 * (p % 1024)) s.time
    |>.put64 (0x8C00000 + 16 * (p % 1024) + 8)
      (kind * 2 ^ 62 + src * 2 ^ 59 + nb * 2 ^ 52 + byte * 2 ^ 45 + phys * 2 ^ 30 + mla)
    |>.when (p = 1023) (·.put MEM_LOG_PTR.WRAP 1) |>.put MEM_LOG_PTR.PTR (p + 1) |>.raise (if kind ≤ 1 then 96 else 97)

/-- Second doubleword of the newest entry. -/
def State.newestEntry (s : State) : Nat :=
  s.rd (tableWord (0x8C00000 + 16 * ((s.rd MEM_LOG_PTR.PTR + 1023) % 1024) + 8)) +
    2 ^ 32 * s.rd (tableWord (0x8C00000 + 16 * ((s.rd MEM_LOG_PTR.PTR + 1023) % 1024) + 12))

theorem memLog_of_empty (hp : s.rd MEM_LOG_PTR.PTR = 0) (hw : s.on MEM_LOG_PTR.WRAP = false) :
    s.memLog kind src nb byte phys mla = s.logEntry kind src nb byte phys mla := by
  unfold State.memLog
  simp only [hp, hw, ne_eq, not_true_eq_false, decide_false, Bool.or_false, Bool.false_and, Bool.false_eq_true, if_false]
  unfold State.logEntry
  rw [hp]

theorem memLog_of_kind (h : bits s.newestEntry 62 2 ≠ kind) :
    s.memLog kind src nb byte phys mla = s.logEntry kind src nb byte phys mla := by
  have h' : decide (bits s.newestEntry 62 2 = kind) = false := decide_eq_false h
  unfold State.newestEntry at h'
  unfold State.memLog
  simp only [h', Bool.and_false, Bool.false_and, Bool.false_eq_true, if_false]
  rfl

/-- Ranges that an event's log entry writes. -/
def logRanges : List (Nat × Nat) := [(0x70004, 0x70008), (0x8C00000, 0x8C04000)]

/-- The key lies in none of the ranges. -/
def clearOf (r : List (Nat × Nat)) (k : Nat) : Bool := r.all (fun p => k < 8 * p.1 || 8 * p.2 ≤ k)

theorem ne_of_clearOf {r : List (Nat × Nat)} {k lo hi : Nat} {g : Field} (h : clearOf r k = true) (hr : (lo, hi) ∈ r)
    (hlo : 8 * lo ≤ g.key) (hhi : g.key < 8 * hi) : k ≠ g.key := by
  have hout := List.all_eq_true.1 h _ hr
  simp only [Bool.or_eq_true, decide_eq_true_eq] at hout
  omega

theorem rd_put64_ne {a v : Nat} (h0 : f.key ≠ (tableWord a).key) (h4 : f.key ≠ (tableWord (a + 4)).key) :
    (s.put64 a v).rd f = s.rd f := by
  unfold State.put64
  rw [rd_put_ne h4, rd_put_ne h0]

/-- A log word has a key in the log's range. -/
theorem logWord_ne (h : clearOf logRanges f.key = true) {e k : Nat} (hk : k ≤ 12) :
    f.key ≠ (tableWord (0x8C00000 + 16 * (e % 1024) + k)).key := by
  refine ne_of_clearOf h (lo := 0x8C00000) (hi := 0x8C04000) (by simp [logRanges]) ?_ ?_
  · simp only [Field.key, tableWord]; omega
  · simp only [Field.key, tableWord]; omega

theorem logWord_zero_ne (h : clearOf logRanges f.key = true) {e : Nat} :
    f.key ≠ (tableWord (0x8C00000 + 16 * (e % 1024))).key := by
  refine ne_of_clearOf h (lo := 0x8C00000) (hi := 0x8C04000) (by simp [logRanges]) ?_ ?_
  · simp only [Field.key, tableWord]; omega
  · simp only [Field.key, tableWord]; omega

theorem rd_logWords_ne (h : clearOf logRanges f.key = true) {e v w : Nat} :
    ((s.put64 (0x8C00000 + 16 * (e % 1024)) v).put64 (0x8C00000 + 16 * (e % 1024) + 8) w).rd f = s.rd f := by
  rw [rd_put64_ne (logWord_ne h (k := 8) (by omega)) (logWord_ne h (k := 12) (by omega))]
  exact rd_put64_ne (logWord_zero_ne h) (logWord_ne h (k := 4) (by omega))

theorem rd_when_same {b : Bool} {g : State → State} (h : ∀ u, (g u).rd f = u.rd f) : (s.when b g).rd f = s.rd f := by
  cases b
  · rfl
  · exact h s

theorem ptr_ne (h : clearOf logRanges f.key = true) : f.key ≠ MEM_LOG_PTR.PTR.key ∧ f.key ≠ MEM_LOG_PTR.WRAP.key :=
  ⟨ne_of_clearOf h (lo := 0x70004) (hi := 0x70008) (by simp [logRanges]) (by decide) (by decide),
    ne_of_clearOf h (lo := 0x70004) (hi := 0x70008) (by simp [logRanges]) (by decide) (by decide)⟩

/-- A log entry leaves the quiet fields outside the log. -/
theorem memLog_rd (hq : isQuiet f.key = true) (h : clearOf logRanges f.key = true) :
    (s.memLog kind src nb byte phys mla).rd f = s.rd f := by
  obtain ⟨hptr, hwrap⟩ := ptr_ne h
  have hsource : (if kind ≤ 1 then 96 else 97) < 2048 := by split <;> decide
  unfold State.memLog
  dsimp only
  split
  · refine (rd_when_same fun u => ?_).trans ?_
    · exact rd_put64_ne (logWord_ne h (k := 8) (by omega)) (logWord_ne h (k := 12) (by omega))
    · exact rd_put64_ne (logWord_zero_ne h) (logWord_ne h (k := 4) (by omega))
  · rw [rd_raise_quiet hsource (quiet_of_isQuiet hq), rd_put_ne hptr, rd_when_same fun u => rd_put_ne hwrap]
    exact rd_logWords_ne h

theorem memLog_sameArea (x : Area) : SameArea s (s.memLog kind src nb byte phys mla) x :=
  (kept_memLog (A := fun _ => False) (.refl s)).same x id

theorem memCount_sameArea (x : Area) : SameArea s (s.memCount kind phys) x :=
  (kept_memCount (A := fun _ => False) (.refl s)).same x id

/-- Fields that the counts of an event set. -/
def countFields (kind phys : Nat) : List Field :=
  if kind ≤ 1 then [MEM_CNT.CORR, MEM_STAT.CORR_EV, MEM_BCNT.CORR phys]
  else if kind = 2 then [MEM_CNT.UNC, MEM_STAT.UNC_EV, MEM_BCNT.UNC phys] else [MEM_STAT.WBF_EV]

theorem memCount_fieldsKept {source : List Nat} : FieldsKept (countFields kind phys) source [4] s (s.memCount kind phys) := by
  unfold State.memCount countFields
  split
  · refine fieldsKept_count (fieldsKept_put_of (fieldsKept_bump_of (fieldsKept_bump_of (.refl _ _ _ s) ?_) ?_) ?_) (by simp)
    all_goals simp
  · split
    · refine fieldsKept_count (fieldsKept_put_of (fieldsKept_bump_of (fieldsKept_bump_of (.refl _ _ _ s) ?_) ?_) ?_) (by simp)
      all_goals simp
    · exact fieldsKept_put_of (.refl _ _ _ s) (by simp)

/-- Ranges that the counts write. -/
def countRanges : List (Nat × Nat) := [(0x70000, 0x70004), (0x70008, 0x7000C), (0x70300, 0x70500)]

theorem countFields_ne (hp : phys < 128) (h : clearOf countRanges f.key = true) : ∀ g ∈ countFields kind phys, g.key ≠ f.key := by
  have hbank : f.key ≠ (MEM_BCNT.CORR phys).key ∧ f.key ≠ (MEM_BCNT.UNC phys).key := by
    refine ⟨?_, ?_⟩ <;> refine ne_of_clearOf h (lo := 0x70300) (hi := 0x70500) (by simp [countRanges]) ?_ ?_ <;>
      simp only [Field.key, MEM_BCNT.CORR, MEM_BCNT.UNC] <;> omega
  have hcnt : f.key ≠ MEM_CNT.CORR.key ∧ f.key ≠ MEM_CNT.UNC.key := by
    refine ⟨?_, ?_⟩ <;> exact ne_of_clearOf h (lo := 0x70008) (hi := 0x7000C) (by simp [countRanges]) (by decide) (by decide)
  have hstat : f.key ≠ MEM_STAT.CORR_EV.key ∧ f.key ≠ MEM_STAT.UNC_EV.key ∧ f.key ≠ MEM_STAT.WBF_EV.key := by
    refine ⟨?_, ?_, ?_⟩ <;>
      exact ne_of_clearOf h (lo := 0x70000) (hi := 0x70004) (by simp [countRanges]) (by decide) (by decide)
  intro g hg
  have hmem : g ∈ [MEM_CNT.CORR, MEM_STAT.CORR_EV, MEM_BCNT.CORR phys, MEM_CNT.UNC, MEM_STAT.UNC_EV, MEM_BCNT.UNC phys,
      MEM_STAT.WBF_EV] := by
    unfold countFields at hg
    split at hg
    · simp only [List.mem_cons, List.not_mem_nil, or_false] at hg ⊢; tauto
    · split at hg
      · simp only [List.mem_cons, List.not_mem_nil, or_false] at hg ⊢; tauto
      · simp only [List.mem_cons, List.not_mem_nil, or_false] at hg ⊢; tauto
  simp only [List.mem_cons, List.not_mem_nil, or_false] at hmem
  obtain rfl | rfl | rfl | rfl | rfl | rfl | rfl := hmem
  · exact hcnt.1.symm
  · exact hstat.1.symm
  · exact hbank.1.symm
  · exact hcnt.2.symm
  · exact hstat.2.1.symm
  · exact hbank.2.symm
  · exact hstat.2.2.symm

theorem memCount_rd (hp : phys < 128) (hq : isQuiet f.key = true) (h : clearOf countRanges f.key = true) :
    (s.memCount kind phys).rd f = s.rd f :=
  (memCount_fieldsKept (source := [])).read (by simp) (by simp) ⟨hq, countFields_ne hp h⟩

/-- An event: its counts, and its entry in the log. -/
def State.memEvent (kind src nb byte phys mla : Nat) (s : State) : State :=
  (s.memCount kind phys).memLog kind src nb byte phys mla

theorem memEvent_sameArea (x : Area) : SameArea s (s.memEvent kind src nb byte phys mla) x :=
  (memCount_sameArea x).trans (memLog_sameArea x)

/-- The key lies outside all that an event records. -/
def offRecord (k : Nat) : Bool := isQuiet k && clearOf logRanges k && clearOf countRanges k

theorem memEvent_rd (hp : phys < 128) (h : offRecord f.key = true) : (s.memEvent kind src nb byte phys mla).rd f = s.rd f := by
  simp only [offRecord, Bool.and_eq_true] at h
  obtain ⟨⟨hq, hlog⟩, hcnt⟩ := h
  exact (memLog_rd hq hlog).trans (memCount_rd hp hq hcnt)

theorem map_offRecord : ∀ b < 64, offRecord (MEM_MAP.PHYS b).key = true := by decide

theorem memEvent_getLine {bank line : Nat} (hp : phys < 128) :
    (s.memEvent kind src nb byte phys mla).getLine bank line = s.getLine bank line :=
  getLine_congr (memEvent_sameArea .sram) fun b hb => memEvent_rd hp (map_offRecord b hb)

/-- The counts survive the log entry. -/
theorem counted_clear (hp : phys < 128) : ∀ g ∈ [MEM_CNT.CORR, MEM_CNT.UNC, MEM_STAT.CORR_EV, MEM_STAT.UNC_EV, MEM_STAT.WBF_EV,
    MEM_BCNT.CORR phys, MEM_BCNT.UNC phys], isQuiet g.key = true ∧ clearOf logRanges g.key = true := by
  have hall : ∀ p < 128, ∀ g ∈ [MEM_CNT.CORR, MEM_CNT.UNC, MEM_STAT.CORR_EV, MEM_STAT.UNC_EV, MEM_STAT.WBF_EV,
    MEM_BCNT.CORR p, MEM_BCNT.UNC p], isQuiet g.key = true ∧ clearOf logRanges g.key = true := by decide
  exact hall phys hp

theorem bcnt_apart : ∀ p < 128, MEM_CNT.CORR.key ≠ (MEM_BCNT.CORR p).key ∧ MEM_CNT.UNC.key ≠ (MEM_BCNT.UNC p).key ∧
    (MEM_BCNT.CORR p).key ≠ MEM_STAT.CORR_EV.key ∧ (MEM_BCNT.UNC p).key ≠ MEM_STAT.UNC_EV.key := by decide

/-- A corrected error is counted, for the device and for its bank. -/
theorem memEvent_corrected (hk : kind ≤ 1) (hp : phys < 128) :
    (s.memEvent kind src nb byte phys mla).rd MEM_CNT.CORR = s.oneMore MEM_CNT.CORR ∧
    (s.memEvent kind src nb byte phys mla).rd MEM_STAT.CORR_EV = 1 ∧
    (s.memEvent kind src nb byte phys mla).rd (MEM_BCNT.CORR phys) = s.oneMore (MEM_BCNT.CORR phys) := by
  have hcount : s.memCount kind phys =
      (s.bump MEM_CNT.CORR |>.bump (MEM_BCNT.CORR phys) |>.put MEM_STAT.CORR_EV 1).count 4 .mem 0x01 := by
    unfold State.memCount
    rw [if_pos hk]
  obtain ⟨happart, -, hstat, -⟩ := bcnt_apart phys hp
  have hq := counted_clear hp
  unfold State.memEvent
  refine ⟨?_, ?_, ?_⟩
  · rw [memLog_rd (hq _ (by simp)).1 (hq _ (by simp)).2, hcount, rd_count_quiet (by decide) (quiet_of_isQuiet (hq _ (by simp)).1),
      rd_put_ne (by decide), rd_bump_ne happart, rd_bump_same]
  · rw [memLog_rd (hq _ (by simp)).1 (hq _ (by simp)).2, hcount, rd_count_quiet (by decide) (quiet_of_isQuiet (hq _ (by simp)).1),
      rd_put_same]
    rfl
  · rw [memLog_rd (hq _ (by simp)).1 (hq _ (by simp)).2, hcount, rd_count_quiet (by decide) (quiet_of_isQuiet (hq _ (by simp)).1),
      rd_put_ne hstat, rd_bump_same]
    unfold State.oneMore
    rw [rd_bump_ne happart.symm]

/-- An uncorrectable one is too. -/
theorem memEvent_uncorrectable (hp : phys < 128) :
    (s.memEvent 2 src nb byte phys mla).rd MEM_CNT.UNC = s.oneMore MEM_CNT.UNC ∧
    (s.memEvent 2 src nb byte phys mla).rd MEM_STAT.UNC_EV = 1 ∧
    (s.memEvent 2 src nb byte phys mla).rd (MEM_BCNT.UNC phys) = s.oneMore (MEM_BCNT.UNC phys) := by
  have hcount : s.memCount 2 phys =
      (s.bump MEM_CNT.UNC |>.bump (MEM_BCNT.UNC phys) |>.put MEM_STAT.UNC_EV 1).count 4 .mem 0x02 := rfl
  obtain ⟨-, happart, -, hstat⟩ := bcnt_apart phys hp
  have hq := counted_clear hp
  unfold State.memEvent
  refine ⟨?_, ?_, ?_⟩
  · rw [memLog_rd (hq _ (by simp)).1 (hq _ (by simp)).2, hcount, rd_count_quiet (by decide) (quiet_of_isQuiet (hq _ (by simp)).1),
      rd_put_ne (by decide), rd_bump_ne happart, rd_bump_same]
  · rw [memLog_rd (hq _ (by simp)).1 (hq _ (by simp)).2, hcount, rd_count_quiet (by decide) (quiet_of_isQuiet (hq _ (by simp)).1),
      rd_put_same]
    rfl
  · rw [memLog_rd (hq _ (by simp)).1 (hq _ (by simp)).2, hcount, rd_count_quiet (by decide) (quiet_of_isQuiet (hq _ (by simp)).1),
      rd_put_ne hstat, rd_bump_same]
    unfold State.oneMore
    rw [rd_bump_ne happart.symm]

/-! ## The first entry of the log -/

/-- The word of the entry that says what was found, and where. -/
def entryWord (kind src nb byte phys mla : Nat) : Nat :=
  kind * 2 ^ 62 + src * 2 ^ 59 + nb * 2 ^ 52 + byte * 2 ^ 45 + phys * 2 ^ 30 + mla

/-- Source that an entry raises. -/
def logSource (kind : Nat) : Nat := if kind ≤ 1 then 96 else 97

theorem logSource_lt : logSource kind < 2048 := by unfold logSource; split <;> decide

theorem logEntry_eq (hp : s.rd MEM_LOG_PTR.PTR ≠ 1023) : s.logEntry kind src nb byte phys mla =
    ((s.put64 (0x8C00000 + 16 * (s.rd MEM_LOG_PTR.PTR % 1024)) s.time).put64
      (0x8C00000 + 16 * (s.rd MEM_LOG_PTR.PTR % 1024) + 8) (entryWord kind src nb byte phys mla)
      |>.put MEM_LOG_PTR.PTR (s.rd MEM_LOG_PTR.PTR + 1)).raise (logSource kind) := by
  unfold State.logEntry
  dsimp only
  rw [decide_eq_false hp, when_false]
  rfl

theorem logEntry_ptr (hp : s.rd MEM_LOG_PTR.PTR < 1023) :
    (s.logEntry kind src nb byte phys mla).rd MEM_LOG_PTR.PTR = s.rd MEM_LOG_PTR.PTR + 1 := by
  rw [logEntry_eq (by omega), rd_raise_quiet logSource_lt (quiet_of_isQuiet (by decide)), rd_put_same]
  exact Nat.mod_eq_of_lt (show _ < 1024 by omega)

theorem logEntry_pend (hp : s.rd MEM_LOG_PTR.PTR ≠ 1023) :
    (s.logEntry kind src nb byte phys mla).rd (IRQ_PEND (logSource kind)) = 1 := by
  rw [logEntry_eq hp]
  exact raise_pend logSource_lt

theorem word_quiet : ∀ k ∈ [0, 4, 8, 12], isQuiet (tableWord (0x8C00000 + k)).key = true ∧
    MEM_LOG_PTR.PTR.key ≠ (tableWord (0x8C00000 + k)).key := by decide

/-- The second doubleword of an entry at the start of the log. -/
theorem logEntry_word (hp : s.rd MEM_LOG_PTR.PTR = 0) :
    (s.logEntry kind src nb byte phys mla).rd (tableWord (0x8C00000 + 8)) = entryWord kind src nb byte phys mla % 2 ^ 32 ∧
    (s.logEntry kind src nb byte phys mla).rd (tableWord (0x8C00000 + 12)) =
      entryWord kind src nb byte phys mla / 2 ^ 32 % 2 ^ 32 := by
  rw [logEntry_eq (by omega), hp]
  unfold State.put64
  refine ⟨?_, ?_⟩
  · rw [rd_raise_quiet logSource_lt (quiet_of_isQuiet (word_quiet 8 (by simp)).1), rd_put_ne (word_quiet 8 (by simp)).2.symm,
      rd_put_ne (by decide)]
    exact (rd_put_same ..).trans (Nat.mod_mod _ _)
  · rw [rd_raise_quiet logSource_lt (quiet_of_isQuiet (word_quiet 12 (by simp)).1), rd_put_ne (word_quiet 12 (by simp)).2.symm]
    exact rd_put_same ..

/-- Fields of the log at its start. -/
def firstEntry : List Field := MEM_LOG_PTR.PTR :: (List.range 4).map (fun k => tableWord (0x8C00000 + 16 * (0 % 1024) + 4 * k))

theorem logEntry_fieldsKept {pmc : List Nat} (hp : s.rd MEM_LOG_PTR.PTR = 0) :
    FieldsKept firstEntry [logSource kind] pmc s (s.logEntry kind src nb byte phys mla) := by
  have hmem : ∀ k ∈ [0, 4, 8, 12], tableWord (0x8C00000 + 16 * (0 % 1024) + k) ∈ firstEntry := by decide
  rw [logEntry_eq (by omega), hp]
  unfold State.put64
  refine fieldsKept_raise (fieldsKept_put_of (fieldsKept_put_of (fieldsKept_put_of (fieldsKept_put_of (fieldsKept_put_of
    (.refl _ _ _ s) (hmem 0 (by simp))) (hmem 4 (by simp))) (hmem 8 (by simp))) (hmem 12 (by simp))) (by simp [firstEntry])) (by simp)

end

/-! ## A first event -/

section
variable {s : State} {kind src nb byte phys mla : Nat}

/-- The log is empty. -/
def State.logEmpty (s : State) : Prop := s.rd MEM_LOG_PTR.PTR = 0 ∧ s.on MEM_LOG_PTR.WRAP = false

theorem memCount_ptr (hp : phys < 128) : (s.memCount kind phys).rd MEM_LOG_PTR.PTR = s.rd MEM_LOG_PTR.PTR ∧
    (s.memCount kind phys).on MEM_LOG_PTR.WRAP = s.on MEM_LOG_PTR.WRAP :=
  ⟨memCount_rd hp (by decide) (by decide), on_congr (memCount_rd hp (by decide) (by decide))⟩

theorem memEvent_first (hp : phys < 128) (h : s.logEmpty) :
    s.memEvent kind src nb byte phys mla = (s.memCount kind phys).logEntry kind src nb byte phys mla := by
  obtain ⟨hptr, hwrap⟩ := memCount_ptr (s := s) (kind := kind) hp
  exact memLog_of_empty (hptr.trans h.1) (hwrap.trans h.2)

theorem memEvent_first_fieldsKept (hp : phys < 128) (h : s.logEmpty) :
    FieldsKept (countFields kind phys ++ firstEntry) [logSource kind] [4] s (s.memEvent kind src nb byte phys mla) := by
  rw [memEvent_first hp h]
  refine (memCount_fieldsKept.mono ?_).trans ((logEntry_fieldsKept ((memCount_ptr hp).1.trans h.1)).mono ?_)
  · exact fun f hf => List.mem_append_left _ hf
  · exact fun f hf => List.mem_append_right _ hf

theorem memEvent_first_ptr (hp : phys < 128) (h : s.logEmpty) : (s.memEvent kind src nb byte phys mla).rd MEM_LOG_PTR.PTR = 1 := by
  have hptr := (memCount_ptr (s := s) (kind := kind) hp).1.trans h.1
  rw [memEvent_first hp h, logEntry_ptr (by omega), hptr]

theorem memEvent_first_pend (hp : phys < 128) (h : s.logEmpty) :
    (s.memEvent kind src nb byte phys mla).rd (IRQ_PEND (logSource kind)) = 1 := by
  have hptr := (memCount_ptr (s := s) (kind := kind) hp).1.trans h.1
  rw [memEvent_first hp h]
  exact logEntry_pend (by omega)

theorem memEvent_first_word (hp : phys < 128) (h : s.logEmpty) :
    (s.memEvent kind src nb byte phys mla).rd (tableWord (0x8C00000 + 8)) = entryWord kind src nb byte phys mla % 2 ^ 32 ∧
    (s.memEvent kind src nb byte phys mla).rd (tableWord (0x8C00000 + 12)) =
      entryWord kind src nb byte phys mla / 2 ^ 32 % 2 ^ 32 := by
  have hptr := (memCount_ptr (s := s) (kind := kind) hp).1.trans h.1
  rw [memEvent_first hp h]
  exact logEntry_word hptr

/-- A write-back that fails after a first corrected error has an entry of its own. -/
theorem memEvent_second (hp : phys < 128) (h : s.logEmpty) (hw : entryWord kind src nb byte phys mla < 3 * 2 ^ 62) :
    (s.memEvent kind src nb byte phys mla).memEvent 3 src nb byte phys mla =
      ((s.memEvent kind src nb byte phys mla).memCount 3 phys).logEntry 3 src nb byte phys mla := by
  refine memLog_of_kind ?_
  obtain ⟨hlo, hhi⟩ := memEvent_first_word (kind := kind) (src := src) (nb := nb) (byte := byte) (mla := mla) hp h
  have hcount : ∀ k ∈ [8, 12], ((s.memEvent kind src nb byte phys mla).memCount 3 phys).rd (tableWord (0x8C00000 + k)) =
      (s.memEvent kind src nb byte phys mla).rd (tableWord (0x8C00000 + k)) := fun k hk => by
    have hkeys : ∀ k ∈ [8, 12], isQuiet (tableWord (0x8C00000 + k)).key = true ∧
        clearOf countRanges (tableWord (0x8C00000 + k)).key = true := by decide
    exact memCount_rd hp (hkeys k hk).1 (hkeys k hk).2
  have hptr : ((s.memEvent kind src nb byte phys mla).memCount 3 phys).rd MEM_LOG_PTR.PTR = 1 :=
    (memCount_ptr hp).1.trans (memEvent_first_ptr hp h)
  unfold State.newestEntry
  rw [hptr]
  change bits (State.rd _ (tableWord (0x8C00000 + 8)) + 2 ^ 32 * State.rd _ (tableWord (0x8C00000 + 12))) 62 2 ≠ 3
  rw [hcount 8 (by simp), hcount 12 (by simp), hlo, hhi]
  generalize entryWord kind src nb byte phys mla = w at hw
  unfold bits
  omega

end

/-! ## Verdicts (Table 17.1) -/

/-- A correctable line names one byte or none. -/
theorem verdict_fixed {l good : SramLine} {kind byte nb : Nat} (h : l.verdict = .fixed kind byte nb good) :
    kind ≤ 1 ∧ byte ≤ 64 ∧ nb ≤ 1 := by
  unfold SramLine.verdict at h
  dsimp only at h
  split at h
  · split at h
    · cases h
    · injection h with hk hb hn _
      omega
  · rename_i b hb
    have hlt : b < 64 := by
      have hmem : b ∈ l.failing := by rw [hb]; simp
      simpa using (List.mem_filter.1 hmem).1
    split at h
    · injection h with hk hb hn _
      omega
    · split at h
      · injection h with hk hb hn _
        omega
      · cases h
  · cases h

/-! ## A read -/

section
variable {s : State} {bank : Fin 68} {line : Fin 40960} {src : Fin 7} {holds : Holds} {upset good : SramLine} {stuck : Bool}
  {kind byte nb : Nat}

/-- The line's bits have flipped. -/
def State.flipped (bank line : Nat) (upset : SramLine) (s : State) : State :=
  s.putPhys (s.physOf bank) line ((s.getLine bank line).flip upset)

/-- The event of a line read, as it is logged. -/
def State.lineEvent (bank line src kind byte nb : Nat) (s : State) : State :=
  s.memEvent kind src nb byte (s.physOf bank) (65536 * bank + line)

theorem exec_memoryLineRead (hp : s.powered = true) :
    exec (.memoryLineRead bank line src holds upset stuck) s = .next (s.lineRead bank line src holds upset stuck).1 := by
  have hexec : exec (.memoryLineRead bank line src holds upset stuck) s =
      execMemoryLineRead bank line src holds upset stuck s := rfl
  rw [hexec]
  unfold execMemoryLineRead
  rw [hp, when_true]

theorem lineRead_clean {bank line src : Nat} (h : ((s.getLine bank line).flip upset).verdict = .clean) :
    s.lineRead bank line src holds upset stuck = (s.flipped bank line upset, .clean) := by
  unfold State.lineRead
  dsimp only
  rw [h]
  rfl

theorem lineRead_fixed {bank line src : Nat} (h : ((s.getLine bank line).flip upset).verdict = .fixed kind byte nb good) :
    (s.lineRead bank line src holds upset stuck).1 =
      if stuck then ((s.flipped bank line upset).lineEvent bank line src kind byte nb).memEvent 3 src nb byte (s.physOf bank)
        (65536 * bank + line)
      else ((s.flipped bank line upset).lineEvent bank line src kind byte nb).putLine bank line good := by
  unfold State.lineRead
  dsimp only
  rw [h]
  rfl

/-- What an uncorrectable line leaves before what it held is lost. -/
def State.lineBad (bank line src byte nb : Nat) (upset : SramLine) (s : State) : State :=
  ((s.flipped bank line upset).lineEvent bank line src 2 byte nb).each (s.owners bank) (fun n t => t.breach n 1)

theorem lineRead_bad {bank line src : Nat} (h : ((s.getLine bank line).flip upset).verdict = .bad nb byte) :
    (s.lineRead bank line src holds upset stuck).1 = (s.lineBad bank line src byte nb upset).lineLost bank holds := by
  unfold State.lineRead
  dsimp only
  rw [h]
  rfl

theorem flipped_getLine {bank line : Nat} : (s.flipped bank line upset).getLine bank line = (s.getLine bank line).flip upset := getLine_putPhys

theorem flipped_rd {bank line : Nat} {f : Field} : (s.flipped bank line upset).rd f = s.rd f := rfl

theorem flipped_empty (h : s.logEmpty) : (s.flipped bank line upset).logEmpty := h

theorem lineEvent_sameArea (x : Area) : SameArea s (s.lineEvent bank line src kind byte nb) x := memEvent_sameArea x

theorem lineEvent_rd {f : Field} (h : offRecord f.key = true) : (s.lineEvent bank line src kind byte nb).rd f = s.rd f :=
  memEvent_rd (physOf_lt bank.isLt) h

theorem lineEvent_getLine : (s.lineEvent bank line src kind byte nb).getLine bank line = s.getLine bank line :=
  memEvent_getLine (physOf_lt bank.isLt)

theorem lineEvent_physOf : (s.lineEvent bank line src kind byte nb).physOf bank = s.physOf bank :=
  physOf_congr fun b hb => lineEvent_rd (map_offRecord b hb)

theorem flipped_sameArea {bank line : Nat} (x : Area) (hx : x ≠ .sram) : SameArea s (s.flipped bank line upset) x := putPhys_sameArea x hx

/-- An entry of a line fits below the code of a failed write-back. -/
theorem lineEntry_lt {phys : Nat} (hp : phys < 128) (hk : kind ≤ 1) (hb : byte ≤ 64) (hn : nb ≤ 1) :
    entryWord kind src nb byte phys (65536 * bank + line) < 3 * 2 ^ 62 := by
  have hsrc := src.isLt
  have hbank := bank.isLt
  have hline := line.isLt
  unfold entryWord
  omega

theorem breach_keys : ∀ n < 4, ∀ f ∈ [MEM_CNT.UNC, MEM_STAT.UNC_EV, IRQ_PEND 97, MEM_LOG_PTR.PTR], (FABC.COND n).key ≠ f.key := by
  decide

theorem bankOf_lt (h : s.bankChannel bank = some nb) : nb < 4 := by
  unfold State.bankChannel at h
  split at h
  · injection h with h
    omega
  · cases h

theorem owners_lt : ∀ n ∈ s.owners bank, n < 4 := by
  intro n hn
  unfold State.owners at hn
  cases hc : s.bankChannel bank with
  | some m =>
    rw [hc] at hn
    rw [List.mem_singleton.1 hn]
    exact bankOf_lt hc
  | none =>
    rw [hc] at hn
    dsimp only at hn
    split at hn
    · exact (by decide : ∀ n ∈ channels, n < 4) n hn
    · cases hn

/-- Fields of the breaches. -/
def breachFields : List Field := [FABC.COND 0, FABC.COND 1, FABC.COND 2, FABC.COND 3]

theorem cond_mem {n : Nat} (h : n < 4) : FABC.COND n ∈ breachFields :=
  match n, h with
  | 0, _ | 1, _ | 2, _ | 3, _ => by simp [breachFields]

theorem sameFields_breaches {l : List Nat} (h : ∀ n ∈ l, n < 4) : SameFields breachFields s (s.each l (fun n t => t.breach n 1)) :=
  sameFields_each (.refl _ s) fun n hn _ hu => sameFields_put_of hu (cond_mem (h n hn))

theorem rdBit_breach {n : Nat} : (s.breach n 1).rdBit (FABC.COND n) 1 = true := by
  have hset : ∀ v < 256, bit (setBit v 1 % 256) 1 = 1 := fun v hv => by
    unfold setBit bit
    split
    · rename_i h
      simp only [Nat.pow_one] at h ⊢
      omega
    · rename_i h
      simp only [Nat.pow_one] at h ⊢
      omega
  have hread : (s.breach n 1).rd (FABC.COND n) = setBit (s.rd (FABC.COND n)) 1 % 256 := rd_put_same ..
  unfold State.rdBit
  rw [hread, hset _ (rd_lt s (FABC.COND n))]
  rfl

theorem rdBit_breach_kept {n m : Nat} (h : s.rdBit (FABC.COND n) 1 = true) : (s.breach m 1).rdBit (FABC.COND n) 1 = true := by
  by_cases hnm : m = n
  · subst hnm
    exact rdBit_breach
  · have hkey : (FABC.COND n).key ≠ (FABC.COND m).key := by simp only [Field.key, FABC.COND]; omega
    have hread : (s.breach m 1).rd (FABC.COND n) = s.rd (FABC.COND n) := rd_putBit_ne hkey
    unfold State.rdBit
    rw [hread]
    exact h

theorem rdBit_breaches {l : List Nat} {n : Nat} (h : n ∈ l ∨ s.rdBit (FABC.COND n) 1 = true) :
    (s.each l (fun n t => t.breach n 1)).rdBit (FABC.COND n) 1 = true := by
  induction l generalizing s with
  | nil => exact h.resolve_left (by simp)
  | cons m l ih =>
    rw [each_cons]
    refine ih ?_
    obtain hmem | hset := h
    · obtain rfl | hmem := List.mem_cons.1 hmem
      · exact .inr rdBit_breach
      · exact .inl hmem
    · exact .inr (rdBit_breach_kept hset)

theorem lineBad_sameFields : SameFields breachFields ((s.flipped bank line upset).lineEvent bank line src 2 byte nb)
    (s.lineBad bank line src byte nb upset) := sameFields_breaches owners_lt

theorem lineBad_sameArea (x : Area) (hx : x ≠ .sram) : SameArea s (s.lineBad bank line src byte nb upset) x :=
  ((flipped_sameArea x hx).trans (lineEvent_sameArea x)).trans
    (each_sameArea fun _ t => (kept_breach (A := fun _ => False) (.refl t)).same x id)

theorem lineBad_sram : (s.lineBad bank line src byte nb upset).sram = (s.flipped bank line upset).sram :=
  Eq.trans (each_sameArea (x := .sram) fun _ t => (kept_breach (A := fun _ => False) (.refl t)).same .sram id)
    (lineEvent_sameArea .sram)

/-- The key lies outside what an uncorrectable line records. -/
def offBad (k : Nat) : Bool := offRecord k && breachFields.all (fun g => g.key != k)

theorem lineBad_rd {f : Field} (h : offBad f.key = true) : (s.lineBad bank line src byte nb upset).rd f = s.rd f := by
  simp only [offBad, Bool.and_eq_true, List.all_eq_true, bne_iff_ne] at h
  exact (lineBad_sameFields f h.2).trans (lineEvent_rd h.1)

theorem map_offBad : ∀ b < 64, offBad (MEM_MAP.PHYS b).key = true := by decide

theorem lineBad_getLine : (s.lineBad bank line src byte nb upset).getLine bank line = (s.getLine bank line).flip upset :=
  (getLine_congr lineBad_sram fun b hb => lineBad_rd (map_offBad b hb)).trans flipped_getLine

theorem unc_keys : ∀ g ∈ breachFields, g.key ≠ MEM_CNT.UNC.key ∧ g.key ≠ MEM_STAT.UNC_EV.key := by decide

theorem bankUnc_key {phys : Nat} : ∀ g ∈ breachFields, g.key ≠ (MEM_BCNT.UNC phys).key := by
  intro g hg
  have hlow : ∀ g ∈ breachFields, g.key < 8 * 0x70300 := by decide
  have hkey := hlow g hg
  simp only [Field.key, MEM_BCNT.UNC] at hkey ⊢
  omega

/-- The event of an uncorrectable line is counted. -/
theorem lineBad_counts : (s.lineBad bank line src byte nb upset).rd MEM_CNT.UNC = s.oneMore MEM_CNT.UNC ∧
    (s.lineBad bank line src byte nb upset).rd MEM_STAT.UNC_EV = 1 ∧
    (s.lineBad bank line src byte nb upset).rd (MEM_BCNT.UNC (s.physOf bank)) = s.oneMore (MEM_BCNT.UNC (s.physOf bank)) := by
  have hp := physOf_lt (s := s) bank.isLt
  obtain ⟨h1, h2, h3⟩ := memEvent_uncorrectable (s := s.flipped bank line upset) (src := src) (nb := nb) (byte := byte)
    (mla := 65536 * bank + line) hp
  exact ⟨(lineBad_sameFields _ fun g hg => (unc_keys g hg).1).trans h1, (lineBad_sameFields _ fun g hg => (unc_keys g hg).2).trans h2,
    (lineBad_sameFields _ bankUnc_key).trans h3⟩

theorem lineBad_first_fieldsKept (h : s.logEmpty) :
    FieldsKept ([MEM_CNT.UNC, MEM_STAT.UNC_EV, MEM_BCNT.UNC (s.physOf bank)] ++ firstEntry ++ breachFields) [97] [4] s
      (s.lineBad bank line src byte nb upset) := by
  refine (memEvent_first_fieldsKept (physOf_lt bank.isLt) (flipped_empty h)).mono (fun f hf => List.mem_append_left _ hf)
    |>.trans (SameFields.kept (lineBad_sameFields.mono fun f hf => List.mem_append_right _ hf))

theorem lineBad_first_pend (h : s.logEmpty) : (s.lineBad bank line src byte nb upset).rd (IRQ_PEND 97) = 1 :=
  (lineBad_sameFields _ (by decide)).trans (memEvent_first_pend (kind := 2) (physOf_lt bank.isLt) (flipped_empty h))

/-! ## A write-back that does not hold -/

/-- The corrected error is logged, and then the failed write-back. -/
def State.lineStuck (bank line src kind byte nb : Nat) (upset : SramLine) (s : State) : State :=
  ((s.flipped bank line upset).lineEvent bank line src kind byte nb).memEvent 3 src nb byte (s.physOf bank) (65536 * bank + line)

theorem lineStuck_getLine :
    (s.lineStuck bank line src kind byte nb upset).getLine bank line = (s.getLine bank line).flip upset :=
  (memEvent_getLine (physOf_lt bank.isLt)).trans (lineEvent_getLine.trans flipped_getLine)

theorem lineStuck_sameArea (x : Area) (hx : x ≠ .sram) : SameArea s (s.lineStuck bank line src kind byte nb upset) x :=
  ((flipped_sameArea x hx).trans (lineEvent_sameArea x)).trans (memEvent_sameArea x)

/-- The failed write-back counts nothing and sets its event. -/
theorem failedWriteBack {t : State} {phys mla : Nat} (hp : phys < 128) :
    (t.memEvent 3 src nb byte phys mla).rd MEM_CNT.CORR = t.rd MEM_CNT.CORR ∧
    (t.memEvent 3 src nb byte phys mla).rd MEM_STAT.WBF_EV = 1 := by
  have hq := counted_clear hp
  have hcount : t.memCount 3 phys = t.put MEM_STAT.WBF_EV 1 := rfl
  unfold State.memEvent
  refine ⟨?_, ?_⟩
  · rw [memLog_rd (hq _ (by simp)).1 (hq _ (by simp)).2, hcount, rd_put_ne (by decide)]
  · rw [memLog_rd (hq _ (by simp)).1 (hq _ (by simp)).2, hcount, rd_put_same]
    rfl

/-- The two entries of a write-back that fails, on an empty log. -/
theorem lineStuck_entries (h : s.logEmpty) (hk : kind ≤ 1) (hb : byte ≤ 64) (hn : nb ≤ 1) :
    (s.lineStuck bank line src kind byte nb upset).rd (IRQ_PEND 96) = 1 ∧
    (s.lineStuck bank line src kind byte nb upset).rd (IRQ_PEND 97) = 1 ∧
    (s.lineStuck bank line src kind byte nb upset).rd MEM_LOG_PTR.PTR = 2 := by
  have hphys := physOf_lt (s := s) bank.isLt
  have hempty : (s.flipped bank line upset).logEmpty := h
  have heq : s.lineStuck bank line src kind byte nb upset =
      (((s.flipped bank line upset).lineEvent bank line src kind byte nb).memCount 3 (s.physOf bank)).logEntry 3 src nb byte
        (s.physOf bank) (65536 * bank + line) := memEvent_second hphys hempty (lineEntry_lt hphys hk hb hn)
  have hptr : (((s.flipped bank line upset).lineEvent bank line src kind byte nb).memCount 3 (s.physOf bank)).rd MEM_LOG_PTR.PTR
      = 1 := (memCount_ptr hphys).1.trans (memEvent_first_ptr hphys hempty)
  have hpend : (((s.flipped bank line upset).lineEvent bank line src kind byte nb).memCount 3 (s.physOf bank)).rd (IRQ_PEND 96)
      = 1 := by
    have hfirst := memEvent_first_pend (src := src) (nb := nb) (byte := byte) (mla := 65536 * bank + line) (kind := kind) hphys hempty
    rw [show logSource kind = 96 from if_pos hk] at hfirst
    have hcount : ∀ t : State, t.memCount 3 (s.physOf bank) = t.put MEM_STAT.WBF_EV 1 := fun _ => rfl
    rw [hcount, rd_put_ne (by decide)]
    exact hfirst
  have hraise : ∀ t : State, (t.raise 97).rd (IRQ_PEND 96) = t.rd (IRQ_PEND 96) := fun t =>
    (fieldsKept_raise (l := []) (src := [97]) (pmc := []) (.refl _ _ _ t) (by simp)).readPend (by simp) (by simp) (by decide) (by simp)
      (by simp)
  rw [heq]
  refine ⟨?_, logEntry_pend (kind := 3) (by omega), ?_⟩
  · rw [logEntry_eq (by omega), hptr]
    change (State.raise 97 _).rd (IRQ_PEND 96) = 1
    rw [hraise, rd_put_ne (by decide), rd_put64_ne (by decide) (by decide), rd_put64_ne (by decide) (by decide), hpend]
  · rw [logEntry_ptr (by omega), hptr]

/-! ## What an uncorrectable line held -/

theorem lineLost_line : s.lineLost bank .line = s := by
  unfold State.lineLost
  cases s.bankChannel bank with
  | some n => rfl
  | none => cases s.bankControl bank <;> rfl

theorem bankOf_congr {t : State} (h : ∀ i < 4, t.rd (MEM_SPARE.BANK i) = s.rd (MEM_SPARE.BANK i)) :
    t.bankOf bank = s.bankOf bank := by
  unfold State.bankOf
  split
  · rfl
  · exact h _ (by omega)

theorem spare_offBad : ∀ i < 4, offBad (MEM_SPARE.BANK i).key = true := by decide

theorem lineBad_bankOf : (s.lineBad bank line src byte nb upset).bankOf bank = s.bankOf bank :=
  bankOf_congr fun i hi => lineBad_rd (spare_offBad i hi)

theorem lineBad_bankChannel : (s.lineBad bank line src byte nb upset).bankChannel bank = s.bankChannel bank := by
  unfold State.bankChannel
  rw [lineBad_bankOf]

theorem lineBad_bankControl : (s.lineBad bank line src byte nb upset).bankControl bank = s.bankControl bank := by
  unfold State.bankControl
  rw [lineBad_bankOf]

/-- A token of a datapath bank's line is poisoned. -/
theorem lineLost_token {n : Nat} {rx : Bool} {k : Fin 1024} (h : s.bankChannel bank = some n) :
    s.lineLost bank (.tokens [(rx, k)]) = s.poisonToken n rx k := by
  unfold State.lineLost
  rw [h]
  rfl

/-- The supervisor whose memory a control bank's line holds fails. -/
theorem lineLost_supervisor {j : Fin 3} (h : s.bankControl bank = true) : s.lineLost bank (.supervisor j) = s.declare j 6 := by
  have hchannel : s.bankChannel bank = none := by
    unfold State.bankControl at h
    simp only [Bool.and_eq_true, decide_eq_true_eq] at h
    unfold State.bankChannel
    rw [if_neg (by omega)]
  unfold State.lineLost
  rw [hchannel, h]
  rfl

theorem sup_offBad : ∀ i : Fin 3, offBad (SUPC.STATE i).key = true ∧ offBad (SUPC.RETURN i).key = true := by decide

/-- A follower that an uncorrectable line fails leaves two that serve. -/
theorem lineBad_declare {j : Fin 3} (hc : s.counted = [0, 1, 2]) (hlead : s.sup 0 = Sup.leader) (hst : s.sup j = Sup.follower)
    (hret : s.on (SUPC.RETURN j) = false) : (s.lineBad bank line src byte nb upset).declare j 6 =
      (s.lineBad bank line src byte nb upset).failedBy j 6 := by
  have hsup : ∀ i : Fin 3, (s.lineBad bank line src byte nb upset).sup i = s.sup i := fun i => lineBad_rd (sup_offBad i).1
  have hserve : ∀ i : Fin 3, (s.lineBad bank line src byte nb upset).sup i = Sup.leader ∨
      (s.lineBad bank line src byte nb upset).sup i = Sup.follower := fun i => by
    have hmem : ∀ i : Fin 3, i.val ∈ [0, 1, 2] := by decide
    rw [hsup]
    exact counts_of_counted hc (hmem i)
  have hj : j ≠ 0 := fun e => by
    rw [e] at hst
    exact absurd (hlead.symm.trans hst) (by decide)
  obtain ⟨k, hjk, hk0⟩ : ∃ k : Fin 3, j ≠ k ∧ 0 ≠ k := by
    have hex : ∀ j : Fin 3, j ≠ 0 → ∃ k : Fin 3, j ≠ k ∧ 0 ≠ k := by decide
    exact hex j hj
  exact declare_of_follower ((hsup j).trans hst) ((on_congr (lineBad_rd (sup_offBad j).2)).trans hret) hj hjk hk0 (hserve 0) (hserve k)

theorem declareFields_memory : ∀ i : Fin 3, ∀ g ∈ declareFields i,
    g.key ≠ MEM_CNT.UNC.key ∧ g.key ≠ MEM_STAT.UNC_EV.key ∧ (g.key < 8 * 0x70100 ∨ 8 * 0x70500 ≤ g.key) := by decide

/-- A declaration leaves the memories' counts and map. -/
theorem failedBy_memory {i : Fin 3} {cause phys : Nat} (hp : phys < 128) :
    (s.failedBy i cause).rd MEM_CNT.UNC = s.rd MEM_CNT.UNC ∧ (s.failedBy i cause).rd MEM_STAT.UNC_EV = s.rd MEM_STAT.UNC_EV ∧
    (s.failedBy i cause).rd (MEM_BCNT.UNC phys) = s.rd (MEM_BCNT.UNC phys) ∧
    ∀ b < 64, (s.failedBy i cause).rd (MEM_MAP.PHYS b) = s.rd (MEM_MAP.PHYS b) := by
  have hkeys := declareFields_memory i
  refine ⟨failedBy_fieldsKept.read (by simp) (by simp) ⟨by decide, fun g hg => (hkeys g hg).1⟩,
    failedBy_fieldsKept.read (by simp) (by simp) ⟨by decide, fun g hg => (hkeys g hg).2.1⟩,
    failedBy_fieldsKept.read (by simp) (by simp) ⟨(counted_clear hp _ (by simp)).1, fun g hg => ?_⟩,
    fun b hb => failedBy_fieldsKept.read (by simp) (by simp) ⟨?_, fun g hg => ?_⟩⟩
  · have hout := (hkeys g hg).2.2
    simp only [Field.key, MEM_BCNT.UNC] at hout ⊢
    omega
  · have hquiet := map_offRecord b hb
    simp only [offRecord, Bool.and_eq_true] at hquiet
    exact hquiet.1.1
  · have hout := (hkeys g hg).2.2
    simp only [Field.key, MEM_MAP.PHYS] at hout ⊢
    omega

/-! ## A write -/

variable {data : BitVec 512} {mask : BitVec 64}

theorem exec_memoryLineWrite_whole (hp : s.powered = true) :
    exec (.memoryLineWrite bank line src holds upset data (BitVec.allOnes 64)) s = .next (s.putLine bank line (SramLine.of data)) := by
  have hexec : exec (.memoryLineWrite bank line src holds upset data (BitVec.allOnes 64)) s =
      execMemoryLineWrite bank line src holds upset data (BitVec.allOnes 64) s := rfl
  rw [hexec]
  unfold execMemoryLineWrite
  rw [hp, when_true, if_pos rfl]

/-- A write of a part of a line that reads clean. -/
theorem exec_memoryLineWrite_part (hp : s.powered = true) (hm : mask ≠ BitVec.allOnes 64)
    (h : ((s.getLine bank line).flip upset).verdict = .clean) :
    exec (.memoryLineWrite bank line src holds upset data mask) s = .next ((s.flipped bank line upset).putLine bank line
      (SramLine.of ((((s.getLine bank line).flip upset).data &&& ~~~(byteMask mask)) ||| (data &&& byteMask mask)))) := by
  have hexec : exec (.memoryLineWrite bank line src holds upset data mask) s =
      execMemoryLineWrite bank line src holds upset data mask s := rfl
  rw [hexec]
  unfold execMemoryLineWrite
  rw [hp, when_true, if_neg hm, lineRead_clean h]
  dsimp only
  rw [flipped_getLine]

theorem lineEvent_copying : (s.lineEvent bank line src kind byte nb).copying bank = s.copying bank := by
  have hkeys : offRecord MEM_RET_STAT.STATE.key = true ∧ offRecord MEMC.RBANK.key = true := by decide
  unfold State.copying
  rw [lineEvent_rd hkeys.1, lineEvent_rd hkeys.2]

end

/-- Settles O48: Table 17.1's outcomes of a read, and the three kinds of write. -/
theorem memoryLinesAreCorrected : Obligations.MemoryLinesAreCorrected := by
  unfold Obligations.MemoryLinesAreCorrected
  refine ⟨?clean, ?fixed, ?stuck, ?bad, ?token, ?supervisor, ?whole, ?copied, ?part⟩
  case clean =>
    intro s bank line src holds upset stuck hp h
    refine ⟨s.flipped bank line upset, ?_, flipped_getLine, rfl, rfl, rfl⟩
    rw [exec_memoryLineRead hp, lineRead_clean h]
  case fixed =>
    intro s bank line src holds upset stuck good kind byte nb hp hcopy h hs hlog
    obtain ⟨hk, -, -⟩ := verdict_fixed h
    have hphys := physOf_lt (s := s) bank.isLt
    have hempty : (s.flipped bank line upset).logEmpty := hlog
    have hexec := exec_memoryLineRead (bank := bank) (line := line) (src := src) (holds := holds) (upset := upset) (stuck := stuck) hp
    rw [lineRead_fixed h, if_neg (by rw [hs]; exact Bool.false_ne_true)] at hexec
    obtain ⟨hcorr, hev, hbank⟩ := memEvent_corrected (s := s.flipped bank line upset) (src := src) (nb := nb) (byte := byte)
      (mla := 65536 * bank + line) hk hphys
    have hsource : logSource kind = 96 := if_pos hk
    have hpend := memEvent_first_pend (src := src) (nb := nb) (byte := byte) (mla := 65536 * bank + line) (kind := kind) hphys hempty
    have hkept := memEvent_first_fieldsKept (src := src) (nb := nb) (byte := byte) (mla := 65536 * bank + line) (kind := kind)
      hphys hempty
    rw [hsource] at hpend hkept
    refine ⟨_, hexec, getLine_putLine, putLine_rd.trans hcorr, putLine_rd.trans hev, putLine_rd.trans hbank, putLine_rd.trans hpend,
      putLine_rd.trans (memEvent_first_ptr hphys hempty), ?_, ?_, ?_, ?_⟩
    · have hword := (memEvent_first_word (src := src) (nb := nb) (byte := byte) (mla := 65536 * bank + line) (kind := kind)
        hphys hempty).1
      rw [hlog.1]
      refine putLine_rd.trans (Eq.trans hword ?_)
      unfold entryWord
      omega
    · exact Eq.trans (putLine_sameArea .ch (by decide)) (Eq.trans (lineEvent_sameArea .ch) (flipped_sameArea .ch (by decide)))
    · exact Eq.trans (putLine_sameArea .flow (by decide)) (Eq.trans (lineEvent_sameArea .flow) (flipped_sameArea .flow (by decide)))
    · rw [hlog.1]
      refine (hkept.mono ?_).trans fun f _ _ => putLine_rd
      unfold countFields
      rw [if_pos hk]
      exact fun f hf => hf
  case stuck =>
    intro s bank line src holds upset stuck good kind byte nb hp h hs hlog
    obtain ⟨hk, hb, hn⟩ := verdict_fixed h
    have hphys := physOf_lt (s := s) bank.isLt
    have hexec : exec (.memoryLineRead bank line src holds upset stuck) s = .next (s.lineStuck bank line src kind byte nb upset) := by
      rw [exec_memoryLineRead hp, lineRead_fixed h, hs]
      rfl
    obtain ⟨hcorr, -⟩ := memEvent_corrected (s := s.flipped bank line upset) (src := src) (nb := nb) (byte := byte)
      (mla := 65536 * bank + line) hk hphys
    obtain ⟨hsame, hev⟩ := failedWriteBack (t := (s.flipped bank line upset).lineEvent bank line src kind byte nb) (src := src)
      (nb := nb) (byte := byte) (mla := 65536 * bank + line) hphys
    obtain ⟨h96, h97, hptr⟩ := lineStuck_entries (bank := bank) (line := line) (src := src) (upset := upset) hlog hk hb hn
    exact ⟨_, hexec, lineStuck_getLine, hsame.trans hcorr, hev, ⟨h96, h97⟩, hptr, lineStuck_sameArea .ch (by decide),
      lineStuck_sameArea .flow (by decide)⟩
  case bad =>
    intro s bank line src holds upset stuck nb byte hp h hholds hlog
    have hexec : exec (.memoryLineRead bank line src holds upset stuck) s = .next (s.lineBad bank line src byte nb upset) := by
      rw [exec_memoryLineRead hp, lineRead_bad h, hholds, lineLost_line]
    obtain ⟨hunc, hev, hbank⟩ := lineBad_counts (s := s) (bank := bank) (line := line) (src := src) (byte := byte) (nb := nb)
      (upset := upset)
    refine ⟨_, hexec, lineBad_getLine, hunc, hev, hbank, lineBad_first_pend hlog, fun n hn => rdBit_breaches (.inl hn),
      lineBad_sameArea .ch (by decide), lineBad_sameArea .flow (by decide), ?_⟩
    rw [hlog.1]
    refine (lineBad_first_fieldsKept hlog).mono fun f hf => ?_
    simp only [firstEntry, breachFields, List.mem_append, List.mem_cons, List.not_mem_nil, or_false] at hf ⊢
    tauto
  case token =>
    intro s bank line src holds upset stuck nb byte n k hp h hchannel hholds
    have hexec : exec (.memoryLineRead bank line src holds upset stuck) s =
        .next ((s.lineBad bank line src byte nb upset).poisonToken n true k) := by
      rw [exec_memoryLineRead hp, lineRead_bad h, hholds, lineLost_token (lineBad_bankChannel.trans hchannel)]
    obtain ⟨hunc, hev, hbank⟩ := lineBad_counts (s := s) (bank := bank) (line := line) (src := src) (byte := byte) (nb := nb)
      (upset := upset)
    have hflow : ((s.lineBad bank line src byte nb upset).poisonToken n true k).flow = s.flow.set n
        (Flow.poisonOne (fun x => x.trib = k.val && x.stage.isTx = false && !x.poison) (s.flow.get n)) := by
      have hkept : (s.lineBad bank line src byte nb upset).flow = s.flow := lineBad_sameArea .flow (by decide)
      rw [← hkept]
      rfl
    refine ⟨_, hexec, lineBad_getLine, hunc, hev, hbank, fun m => ?_, lineBad_sameArea .ch (by decide)⟩
    rw [hflow]
    split
    · rename_i hm
      rw [hm, quad_get_set_same]
    · rename_i hm
      rw [quad_get_set_other _ _ n.isLt m.isLt fun e => hm (Fin.ext e.symm)]
  case supervisor =>
    intro s bank line src holds upset stuck nb byte j hp h hcontrol hholds hc hlead hst hret
    obtain ⟨hunc, hev, hbank⟩ := lineBad_counts (s := s) (bank := bank) (line := line) (src := src) (byte := byte) (nb := nb)
      (upset := upset)
    have hexec : exec (.memoryLineRead bank line src holds upset stuck) s =
        .next ((s.lineBad bank line src byte nb upset).failedBy j 6) := by
      rw [exec_memoryLineRead hp, lineRead_bad h, hholds, lineLost_supervisor (lineBad_bankControl.trans hcontrol),
        lineBad_declare hc hlead hst hret]
    obtain ⟨hkunc, hkev, hkbank, hkmap⟩ := failedBy_memory (s := s.lineBad bank line src byte nb upset) (i := j) (cause := 6)
      (physOf_lt (s := s) bank.isLt)
    refine ⟨_, hexec, ?_, hkunc.trans hunc, hkev.trans hev, hkbank.trans hbank, ⟨failedBy_sup, failedBy_cause (by decide)⟩, failedBy_pend,
      Eq.trans (failedBy_sameArea .ch) (lineBad_sameArea .ch (by decide)),
      Eq.trans (failedBy_sameArea .flow) (lineBad_sameArea .flow (by decide))⟩
    exact (getLine_congr (failedBy_sameArea .sram) hkmap).trans lineBad_getLine
  case whole =>
    intro s bank line src holds upset data hp _
    exact ⟨_, exec_memoryLineWrite_whole hp, getLine_putLine, putLine_regs, putLine_sameArea .ch (by decide),
      putLine_sameArea .flow (by decide)⟩
  case copied =>
    intro s bank line src holds upset data hp hc _
    exact ⟨_, exec_memoryLineWrite_whole hp, getLine_putLine, spareLine_putLine hc, putLine_regs, putLine_sameArea .ch (by decide),
      putLine_sameArea .flow (by decide)⟩
  case part =>
    intro s bank line src holds upset data mask hp _ hm h
    exact ⟨_, exec_memoryLineWrite_part hp hm h, getLine_putLine, putLine_regs, putLine_sameArea .ch (by decide),
      putLine_sameArea .flow (by decide)⟩

end Sys2Proof.Machine
end

section
/-! Scrubs of the protected memories, and the retirement of a bank into a spare (R390 to R397, Tables 17.4 and 17.5). -/

set_option Elab.async false

namespace Sys2Proof.Machine

/-! ## A write whose first field alone is refused -/

section
variable {s : State} {w : Wr} {h : Hook} {f : FSpec} {fs : List FSpec} {r : Nat} {t : State}

/-- The other fields are taken, the row does what they ask, and the refusal is recorded (R441). -/
theorem hostWrite_of_refused_head (hans : s.answers = true) (hfs : s.fieldsAt w.addr = f :: fs)
    (hwhole : s.wholeReason w (f :: fs) = 0) (hfield : s.fieldReason (s.level w.win) f (f.fld.of w.value) = 0)
    (hwrit : f.writable = true) (hr : h.reason s f.fld (f.fld.of w.value) = r) (hr0 : r ≠ 0) (hok : s.allTaken w h fs)
    (hact : h.act (writtenFields w fs) (s.takeWord w fs) = (t, 0)) :
    s.hostWrite w h = t.refuse w.win w.addr w.value r false := by
  have hjudged : (f :: fs).map (fun f => (f, f.fld.of w.value,
      if s.fieldReason (s.level w.win) f (f.fld.of w.value) = 0 && f.writable then h.reason s f.fld (f.fld.of w.value)
      else s.fieldReason (s.level w.win) f (f.fld.of w.value))) = (f, f.fld.of w.value, r) :: fs.map (judgedTaken w) := by
    rw [List.map_cons, judged_of_allTaken hok, hfield, hwrit, hr]
    rfl
  have hfilter : ((f, f.fld.of w.value, r) :: fs.map (judgedTaken w)).filter (fun j => j.1.writable && j.2.2 = 0) =
      (fs.filter FSpec.writable).map (judgedTaken w) := by
    rw [List.filter_cons_of_neg (by simp [hr0]), filter_judgedTaken]
  have heach : s.each ((fs.filter FSpec.writable).map (judgedTaken w)) (fun j t => t.applyField w.addr j.1 j.2.1) =
      s.takeWord w fs := by
    rw [State.each, List.foldl_map]
    rfl
  have hwritten : ((fs.filter FSpec.writable).map (judgedTaken w)).map (fun j => (j.1.fld, j.2.1)) = writtenFields w fs := by
    rw [List.map_map]; rfl
  have hfind : ((f, f.fld.of w.value, r) :: fs.map (judgedTaken w)).find? (fun j => j.2.2 ≠ 0) = some (f, f.fld.of w.value, r) :=
    List.find?_cons_of_pos (by simpa using hr0)
  unfold State.hostWrite
  simp only [hfs, hans, hwhole, hjudged, hfilter, heach, hwritten, hfind, hact]
  rfl

end

/-- A field that is written, as its row sees it. -/
theorem wroteOne_of_find {l : List (Field × Nat)} {f : Field} {x : Nat} (h : l.find? (fun p => p.1 = f) = some (f, x)) :
    wroteOne l f = decide (x = 1) := by
  unfold wroteOne wrote
  rw [h]
  simp

/-! ## MEM_SCRUB_CTRL -/

section
variable {s : State} {win : Fin 7} {v : Nat}

/-- Fields of MEM_SCRUB_CTRL behind GO (Table 17.7). -/
def scrubRest : List FSpec :=
  [⟨MEM_SCRUB_CTRL.RESUME, .wo, .live, 3, .any⟩, ⟨MEM_SCRUB_CTRL.ABORT, .wo, .live, 3, .any⟩,
   ⟨MEM_SCRUB_CTRL.PAUSE, .wo, .live, 3, .any⟩, ⟨MEM_SCRUB_CTRL.RATE, .rw, .live, 3, .rng 1 64⟩]

/-- GO of MEM_SCRUB_CTRL. -/
def scrubGo : FSpec := ⟨MEM_SCRUB_CTRL.GO, .wo, .live, 3, .any⟩

theorem fieldsAt_scrub : s.fieldsAt 0x70010 = scrubGo :: scrubRest := by
  have hreg : findReg 0x70010 = some ((⟨0x70010, [], 1, .plain, scrubGo :: scrubRest⟩ : Reg), 0) := by decide
  rw [State.fieldsAt, hreg]
  rfl

theorem takeWord_scrub {be : Fin 16} {win : Nat} :
    s.takeWord ⟨win, 0x70010, v, be⟩ (scrubGo :: scrubRest) = s.put MEM_SCRUB_CTRL.RATE (MEM_SCRUB_CTRL.RATE.of v) := rfl

theorem takeWord_scrubRest {be : Fin 16} {win : Nat} :
    s.takeWord ⟨win, 0x70010, v, be⟩ scrubRest = s.put MEM_SCRUB_CTRL.RATE (MEM_SCRUB_CTRL.RATE.of v) := rfl

/-- The four commands of a write, as the row sees them. -/
theorem scrub_written {be : Fin 16} {win : Nat} : ∀ f ∈ [MEM_SCRUB_CTRL.GO, MEM_SCRUB_CTRL.RESUME, MEM_SCRUB_CTRL.ABORT,
    MEM_SCRUB_CTRL.PAUSE], wroteOne (writtenFields ⟨win, 0x70010, v, be⟩ (scrubGo :: scrubRest)) f = decide (f.of v = 1) := by
  have hwritten : writtenFields ⟨win, 0x70010, v, be⟩ (scrubGo :: scrubRest) =
      [(MEM_SCRUB_CTRL.GO, MEM_SCRUB_CTRL.GO.of v), (MEM_SCRUB_CTRL.RESUME, MEM_SCRUB_CTRL.RESUME.of v),
       (MEM_SCRUB_CTRL.ABORT, MEM_SCRUB_CTRL.ABORT.of v), (MEM_SCRUB_CTRL.PAUSE, MEM_SCRUB_CTRL.PAUSE.of v),
       (MEM_SCRUB_CTRL.RATE, MEM_SCRUB_CTRL.RATE.of v)] := rfl
  rw [hwritten]
  simp only [List.forall_mem_cons, List.not_mem_nil, IsEmpty.forall_iff, implies_true, and_true]
  exact ⟨wroteOne_of_find rfl, wroteOne_of_find rfl, wroteOne_of_find rfl, wroteOne_of_find rfl⟩

theorem scrub_fieldReason {lvl : Nat} (hlvl : 3 ≤ lvl) (hrate : 1 ≤ MEM_SCRUB_CTRL.RATE.of v ∧ MEM_SCRUB_CTRL.RATE.of v ≤ 64) :
    ∀ f ∈ scrubGo :: scrubRest, s.fieldReason lvl f (f.fld.of v) = 0 := by
  have hlt : ¬ lvl < 3 := by omega
  simp only [scrubGo, scrubRest, List.forall_mem_cons, List.not_mem_nil, IsEmpty.forall_iff, implies_true, and_true]
  simp [State.fieldReason, Lim.ok, hlt, hrate]

theorem scrub_reason {f : FSpec} (hf : f ∈ scrubRest) {x : Nat} : scrubHook.reason s f.fld x = 0 := by
  have hne : ∀ f ∈ scrubRest, f.fld ≠ MEM_SCRUB_CTRL.GO := by decide
  simp [scrubHook, hne f hf]

/-- What the row does with the four commands of a write. -/
def State.scrubCommand (go resume abort pause : Bool) (s : State) : State :=
  let st := s.rd MEM_SCRUB_STAT.STATE
  s.when (abort && s.scrubBusy) (·.scrubEnd 2)
    |>.when (pause && (st = 1 || (st = 2 && s.rd MEM_SCRUB_STAT.PAUSE = 1))) (fun t =>
        t.when t.scrubBusy (fun u => (u.put MEM_SCRUB_STAT.STATE 2).put MEM_SCRUB_STAT.PAUSE 2))
    |>.when (resume && st = 2 && s.rd MEM_SCRUB_STAT.PAUSE = 2) (fun t =>
        t.when t.scrubBusy (fun u => (u.put MEM_SCRUB_STAT.STATE 1).put MEM_SCRUB_STAT.PAUSE 0))
    |>.when go State.scrubStart

theorem scrub_act {l : List (Field × Nat)} : scrubHook.act l s =
    (s.scrubCommand (wroteOne l MEM_SCRUB_CTRL.GO) (wroteOne l MEM_SCRUB_CTRL.RESUME) (wroteOne l MEM_SCRUB_CTRL.ABORT)
      (wroteOne l MEM_SCRUB_CTRL.PAUSE), 0) := rfl

/-- RATE has been taken. -/
def State.scrubRate (v : Nat) (s : State) : State := s.put MEM_SCRUB_CTRL.RATE (MEM_SCRUB_CTRL.RATE.of v)

/-- A write of MEM_SCRUB_CTRL that is admitted, and does not start a scrub that may not start. -/
theorem hostWrite_scrub (hopen : s.writeOpen win 3) (hrate : 1 ≤ MEM_SCRUB_CTRL.RATE.of v ∧ MEM_SCRUB_CTRL.RATE.of v ≤ 64)
    (hgo : MEM_SCRUB_CTRL.GO.of v = 1 → s.scrubBusy = false ∧ s.scrubRange = true) :
    s.hostWrite ⟨win, 0x70010, v, (15 : Fin 16)⟩ scrubHook =
      (s.scrubRate v).scrubCommand (MEM_SCRUB_CTRL.GO.of v = 1) (MEM_SCRUB_CTRL.RESUME.of v = 1)
        (MEM_SCRUB_CTRL.ABORT.of v = 1) (MEM_SCRUB_CTRL.PAUSE.of v = 1) := by
  have ⟨hans, hlvl, _⟩ := hopen
  have hfields := scrub_fieldReason (s := s) hlvl hrate
  have hhead : scrubHook.reason s MEM_SCRUB_CTRL.GO (MEM_SCRUB_CTRL.GO.of v) = 0 := by
    by_cases h1 : MEM_SCRUB_CTRL.GO.of v = 1
    · obtain ⟨hbusy, hrange⟩ := hgo h1
      simp [scrubHook, hbusy, hrange]
    · simp [scrubHook, h1]
  have hok : s.allTaken ⟨win, 0x70010, v, (15 : Fin 16)⟩ scrubHook (scrubGo :: scrubRest) := fun f hf => by
    refine ⟨hfields f hf, fun _ => ?_⟩
    obtain rfl | hmem := List.mem_cons.1 hf
    · exact hhead
    · exact scrub_reason hmem
  refine hostWrite_of_act hans fieldsAt_scrub (by simp)
    (wholeReason_of_open (f := scrubGo) hopen rfl (by simp) rfl (by decide)) hok ?_
  have hw := scrub_written (v := v) (be := 15) (win := win)
  rw [scrub_act, takeWord_scrub, hw _ (by simp), hw _ (by simp), hw _ (by simp), hw _ (by simp)]
  rfl

/-- GO under another scrub is refused; RATE is taken. -/
theorem hostWrite_scrub_busy (hopen : s.writeOpen win 3) (hrate : 1 ≤ MEM_SCRUB_CTRL.RATE.of v ∧ MEM_SCRUB_CTRL.RATE.of v ≤ 64)
    (hgo : MEM_SCRUB_CTRL.GO.of v = 1) (hresume : MEM_SCRUB_CTRL.RESUME.of v = 0) (habort : MEM_SCRUB_CTRL.ABORT.of v = 0)
    (hpause : MEM_SCRUB_CTRL.PAUSE.of v = 0) (hbusy : s.scrubBusy = true) :
    s.hostWrite ⟨win, 0x70010, v, (15 : Fin 16)⟩ scrubHook = (s.scrubRate v).refuse win 0x70010 v 6 false := by
  have ⟨hans, hlvl, _⟩ := hopen
  have hfields := scrub_fieldReason (s := s) hlvl hrate
  have hhead : scrubHook.reason s MEM_SCRUB_CTRL.GO (MEM_SCRUB_CTRL.GO.of v) = 6 := by simp [scrubHook, hbusy, hgo]
  have hok : s.allTaken ⟨win, 0x70010, v, (15 : Fin 16)⟩ scrubHook scrubRest := fun f hf =>
    ⟨hfields f (List.mem_cons_of_mem _ hf), fun _ => scrub_reason hf⟩
  refine hostWrite_of_refused_head hans fieldsAt_scrub
    (wholeReason_of_open (f := scrubGo) hopen rfl (by simp) rfl (by decide)) (hfields _ (List.mem_cons_self ..)) rfl hhead (by decide) hok ?_
  have hwritten : writtenFields ⟨win, 0x70010, v, (15 : Fin 16)⟩ scrubRest =
      [(MEM_SCRUB_CTRL.RESUME, MEM_SCRUB_CTRL.RESUME.of v), (MEM_SCRUB_CTRL.ABORT, MEM_SCRUB_CTRL.ABORT.of v),
       (MEM_SCRUB_CTRL.PAUSE, MEM_SCRUB_CTRL.PAUSE.of v), (MEM_SCRUB_CTRL.RATE, MEM_SCRUB_CTRL.RATE.of v)] := rfl
  have hnone : wroteOne (writtenFields ⟨win, 0x70010, v, (15 : Fin 16)⟩ scrubRest) MEM_SCRUB_CTRL.GO = false := by
    rw [hwritten]; rfl
  have hnot : wroteOne (writtenFields ⟨win, 0x70010, v, (15 : Fin 16)⟩ scrubRest) MEM_SCRUB_CTRL.RESUME = false ∧
      wroteOne (writtenFields ⟨win, 0x70010, v, (15 : Fin 16)⟩ scrubRest) MEM_SCRUB_CTRL.ABORT = false ∧
      wroteOne (writtenFields ⟨win, 0x70010, v, (15 : Fin 16)⟩ scrubRest) MEM_SCRUB_CTRL.PAUSE = false := by
    rw [hwritten, wroteOne_of_find rfl, wroteOne_of_find rfl, wroteOne_of_find rfl, hresume, habort, hpause]
    exact ⟨rfl, rfl, rfl⟩
  obtain ⟨hnr, hna, hnp⟩ := hnot
  rw [scrub_act, hnone, hnr, hna, hnp, takeWord_scrubRest]
  rfl

end

/-! ## Scrubs -/

section
variable {s t : State} {how m : Nat}

/-- Fields that the start of a scrub sets. -/
def scrubStartFields : List Field :=
  [MEM_SCRUB_CTRL.RATE, MEM_SCRUB_STAT.STATE, MEM_SCRUB_STAT.PAUSE, MEM_SCRUB_NEXT.MLA, MEMC.START, MEMC.END, MEMC.LINES, MEMC.CORR,
   MEMC.UNC, MEMC.LASTREAD, MEMC.FAILV, MEMC.FIRST, MEMC.LASTF]

theorem scrubStart_sameFields (h : SameFields scrubStartFields s t) : SameFields scrubStartFields s t.scrubStart := by
  refine sameFields_clear (sameFields_put_of (sameFields_put_of (sameFields_put_of (sameFields_put_of (sameFields_put_of h ?_) ?_) ?_)
    ?_) ?_) ?_
  all_goals simp [scrubStartFields]

theorem scrubStart_sameArea (x : Area) : SameArea s s.scrubStart x := (kept_scrubStart (A := fun _ => False) (.refl s)).same x id

theorem scrubStart_state : s.scrubStart.rd MEM_SCRUB_STAT.STATE = 1 := by
  unfold State.scrubStart
  rw [rd_clear_ne (by decide), rd_put_ne (by decide), rd_put_ne (by decide), rd_put_ne (by decide), rd_put_ne (by decide), rd_put_same]
  rfl

theorem scrubStart_next : s.scrubStart.rd MEM_SCRUB_NEXT.MLA = s.rd MEM_SCRUB_START.MLA := by
  unfold State.scrubStart
  rw [rd_clear_ne (by decide), rd_put_ne (by decide), rd_put_ne (by decide), rd_put_same]
  exact Nat.mod_eq_of_lt (rd_lt s MEM_SCRUB_START.MLA)

theorem scrubStart_end : s.scrubStart.rd MEMC.END = s.rd MEM_SCRUB_END.MLA := by
  unfold State.scrubStart
  rw [rd_clear_ne (by decide), rd_put_same]
  exact Nat.mod_eq_of_lt (rd_lt s MEM_SCRUB_END.MLA)

theorem scrubStart_lines : s.scrubStart.rd MEMC.LINES = 0 := by
  unfold State.scrubStart
  rw [rd_clear_same (by simp) (by decide)]
  rfl

/-- Fields that the end of a scrub sets: its summary, and its state (R392). -/
def scrubEndFields : List Field :=
  [MEM_SCRUB_STAT.STATE, MEM_SCRUB_STAT.PAUSE, MEM_SCRUB_STAT.DONE_EV, MEMC.SEQ] ++
    (List.range 8).map (fun k => tableWord (0x8C10000 + 4 * k))

/-- The summary is written. -/
def State.scrubSummary (how : Nat) (s : State) : State :=
  s.put MEMC.SEQ (s.rd MEMC.SEQ + 1)
    |>.put64 0x8C10000 ((s.rd MEMC.SEQ + 1) * 2 ^ 32 + how * 2 ^ 30 + s.rd MEMC.START)
    |>.put64 0x8C10008 (s.rd MEMC.LINES * 2 ^ 32 + s.rd MEMC.CORR)
    |>.put64 0x8C10010 (s.rd MEMC.UNC * 2 ^ 32 + s.rd MEMC.LASTREAD)
    |>.put64 0x8C10018 (s.rd MEMC.FAILV * 2 ^ 63 + s.rd MEMC.LASTF * 2 ^ 32 + s.rd MEMC.FIRST)

theorem scrubEnd_eq : s.scrubEnd how = ((s.scrubSummary how).put MEM_SCRUB_STAT.STATE (if how = 1 then 3 else 4)
    |>.put MEM_SCRUB_STAT.PAUSE 0 |>.put MEM_SCRUB_STAT.DONE_EV 1 |>.raise 98) := rfl

theorem scrubEnd_fieldsKept : FieldsKept scrubEndFields [98] [] s (s.scrubEnd how) := by
  have hwords : ∀ k ∈ [0, 4, 8, 12, 16, 20, 24, 28], tableWord (0x8C10000 + k) ∈ scrubEndFields := by decide
  rw [scrubEnd_eq]
  unfold State.scrubSummary
  refine fieldsKept_raise (fieldsKept_put_of (fieldsKept_put_of (fieldsKept_put_of (SameFields.kept (sameFields_put64_of
    (sameFields_put64_of (sameFields_put64_of (sameFields_put64_of (sameFields_put_of (.refl _ s) ?_) (hwords 0 (by simp))
    (hwords 4 (by simp))) (hwords 8 (by simp)) (hwords 12 (by simp))) (hwords 16 (by simp)) (hwords 20 (by simp)))
    (hwords 24 (by simp)) (hwords 28 (by simp)))) ?_) ?_) ?_) (by simp)
  all_goals simp [scrubEndFields]

theorem scrubEnd_sameArea (x : Area) : SameArea s (s.scrubEnd how) x := (kept_scrubEnd (A := fun _ => False) (.refl s)).same x id

theorem scrubEnd_state : (s.scrubEnd how).rd MEM_SCRUB_STAT.STATE = if how = 1 then 3 else 4 := by
  rw [scrubEnd_eq, rd_raise_quiet (by decide) (quiet_of_isQuiet (by decide)), rd_put_ne (by decide), rd_put_ne (by decide), rd_put_same]
  split <;> rfl

theorem scrubEnd_event : (s.scrubEnd how).rd MEM_SCRUB_STAT.DONE_EV = 1 := by
  rw [scrubEnd_eq, rd_raise_quiet (by decide) (quiet_of_isQuiet (by decide)), rd_put_same]
  rfl

theorem scrubEnd_pend : (s.scrubEnd how).rd (IRQ_PEND 98) = 1 := raise_pend (by decide)

/-- The words of the summary are what was written there. -/
theorem scrubEnd_word {k : Nat} (hk : k ∈ [0, 8, 12]) :
    (s.scrubEnd how).rd (tableWord (0x8C10000 + k)) = (s.scrubSummary how).rd (tableWord (0x8C10000 + k)) := by
  have hkeys : ∀ k ∈ [0, 8, 12], isQuiet (tableWord (0x8C10000 + k)).key = true ∧
      (tableWord (0x8C10000 + k)).key ≠ MEM_SCRUB_STAT.STATE.key ∧ (tableWord (0x8C10000 + k)).key ≠ MEM_SCRUB_STAT.PAUSE.key ∧
      (tableWord (0x8C10000 + k)).key ≠ MEM_SCRUB_STAT.DONE_EV.key := by decide
  obtain ⟨hq, hstate, hpause, hevent⟩ := hkeys k hk
  rw [scrubEnd_eq, rd_raise_quiet (by decide) (quiet_of_isQuiet hq), rd_put_ne hevent, rd_put_ne hpause, rd_put_ne hstate]

theorem scrubEnd_first : (s.scrubEnd how).rd (tableWord 0x8C10000) = (how * 2 ^ 30 + s.rd MEMC.START) % 2 ^ 32 := by
  refine (scrubEnd_word (k := 0) (by simp)).trans ?_
  unfold State.scrubSummary
  rw [rd_put64_ne (by decide) (by decide), rd_put64_ne (by decide) (by decide), rd_put64_ne (by decide) (by decide)]
  unfold State.put64
  rw [rd_put_ne (by decide)]
  refine (rd_put_same ..).trans ?_
  change _ % 2 ^ 32 % 2 ^ 32 = _
  omega

theorem scrubEnd_counts : (s.scrubEnd how).rd (tableWord 0x8C10008) = s.rd MEMC.CORR ∧
    (s.scrubEnd how).rd (tableWord 0x8C1000C) = s.rd MEMC.LINES := by
  have hcorr : s.rd MEMC.CORR < 2 ^ 32 := rd_lt s MEMC.CORR
  have hlines : s.rd MEMC.LINES < 2 ^ 32 := rd_lt s MEMC.LINES
  refine ⟨(scrubEnd_word (k := 8) (by simp)).trans ?_, (scrubEnd_word (k := 12) (by simp)).trans ?_⟩
  · unfold State.scrubSummary
    rw [rd_put64_ne (by decide) (by decide), rd_put64_ne (by decide) (by decide)]
    unfold State.put64
    rw [rd_put_ne (by decide)]
    refine (rd_put_same ..).trans ?_
    change _ % 2 ^ 32 % 2 ^ 32 = _
    omega
  · unfold State.scrubSummary
    rw [rd_put64_ne (by decide) (by decide), rd_put64_ne (by decide) (by decide)]
    unfold State.put64
    refine (rd_put_same ..).trans ?_
    change _ / 2 ^ 32 % 2 ^ 32 = _
    omega

/-! ## The lines that a scrub reads -/

theorem scrubNext_congr (h : ∀ i < 4, t.rd (MEM_SPARE.STATE i) = s.rd (MEM_SPARE.STATE i)) (k m : Nat) :
    t.scrubNext k m = s.scrubNext k m := by
  induction k generalizing m with
  | zero => rfl
  | succ k ih =>
    have hspare : (64 ≤ m / 65536 && m / 65536 ≤ 67 && t.rd (MEM_SPARE.STATE (m / 65536 - 64)) = 2 : Bool) =
        (64 ≤ m / 65536 && m / 65536 ≤ 67 && s.rd (MEM_SPARE.STATE (m / 65536 - 64)) = 2 : Bool) := by
      by_cases hbank : 64 ≤ m / 65536 ∧ m / 65536 ≤ 67
      · rw [h _ (by omega)]
      · have hout : (decide (64 ≤ m / 65536) && decide (m / 65536 ≤ 67)) = false := by
          simpa only [Bool.and_eq_false_iff, decide_eq_false_iff_not, not_and_or] using hbank
        rw [hout, Bool.false_and, Bool.false_and]
    unfold State.scrubNext
    dsimp only
    rw [hspare, ih]

theorem exec_scrubLine {holds : Holds} {upset : SramLine} {stuck : Bool} (h : s.rd MEM_SCRUB_STAT.STATE = 1) :
    exec (.scrubLine holds upset stuck) s = .next (s.scrubLine holds upset stuck) := by
  have hexec : exec (.scrubLine holds upset stuck) s = execScrubLine holds upset stuck s := rfl
  rw [hexec]
  unfold execScrubLine
  rw [h]
  rfl

/-- A clean line has been read and counted. -/
def State.scrubbed (m : Nat) (upset : SramLine) (s : State) : State :=
  ((s.flipped (m / 65536) (m % 65536) upset).addWrap MEMC.LINES 1 |>.put MEMC.LASTREAD m |>.put MEM_SCRUB_STAT.STATE 1
    |>.put MEM_SCRUB_STAT.PAUSE 0).count 4 .mem 0x03

theorem scrubbed_quiet {upset : SramLine} {f : Field} (hf : isQuiet f.key = true) : (s.scrubbed m upset).rd f =
    ((s.flipped (m / 65536) (m % 65536) upset).addWrap MEMC.LINES 1 |>.put MEMC.LASTREAD m |>.put MEM_SCRUB_STAT.STATE 1
      |>.put MEM_SCRUB_STAT.PAUSE 0).rd f := rd_count_quiet (by decide) (quiet_of_isQuiet hf)

theorem spareState_apart : ∀ i < 4, isQuiet (MEM_SPARE.STATE i).key = true ∧ ∀ g ∈ [MEMC.LINES, MEMC.LASTREAD,
    MEM_SCRUB_STAT.STATE, MEM_SCRUB_STAT.PAUSE], (MEM_SPARE.STATE i).key ≠ g.key := by decide

theorem scrubbed_spare {upset : SramLine} {i : Nat} (hi : i < 4) :
    (s.scrubbed m upset).rd (MEM_SPARE.STATE i) = s.rd (MEM_SPARE.STATE i) := by
  obtain ⟨hq, hne⟩ := spareState_apart i hi
  rw [scrubbed_quiet hq, rd_put_ne (hne _ (by simp)), rd_put_ne (hne _ (by simp)), rd_put_ne (hne _ (by simp)),
    rd_addWrap_ne (hne _ (by simp))]
  exact flipped_rd

theorem scrubLine_clean {holds : Holds} {upset : SramLine} {stuck : Bool} (hm : m = s.scrubNext 8 (s.rd MEM_SCRUB_NEXT.MLA))
    (hend : m < s.rd MEMC.END) (hcopy : s.copying (m / 65536) = false)
    (hv : ((s.getLine (m / 65536) (m % 65536)).flip upset).verdict = .clean) (hnext : s.scrubNext 8 (m + 1) ≤ s.rd MEMC.END) :
    s.scrubLine holds upset stuck = (s.scrubbed m upset).put MEM_SCRUB_NEXT.MLA (s.scrubNext 8 (m + 1)) := by
  have hsame : (s.scrubbed m upset).scrubNext 8 (m + 1) = s.scrubNext 8 (m + 1) :=
    scrubNext_congr (fun i hi => scrubbed_spare hi) 8 (m + 1)
  unfold State.scrubLine
  dsimp only
  rw [← hm, if_neg (by omega), hcopy, if_neg Bool.false_ne_true, lineRead_clean hv]
  change ((s.scrubbed m upset).put MEM_SCRUB_NEXT.MLA ((s.scrubbed m upset).scrubNext 8 (m + 1))).when
    (decide (s.rd MEMC.END < (s.scrubbed m upset).scrubNext 8 (m + 1))) _ = _
  rw [hsame, decide_eq_false (by omega), when_false]

theorem scrubLine_copying {holds : Holds} {upset : SramLine} {stuck : Bool} (hm : m = s.scrubNext 8 (s.rd MEM_SCRUB_NEXT.MLA))
    (hend : m ≤ s.rd MEMC.END) (hcopy : s.copying (m / 65536) = true) :
    s.scrubLine holds upset stuck =
      (s.put MEM_SCRUB_NEXT.MLA m |>.put MEM_SCRUB_STAT.STATE 2 |>.put MEM_SCRUB_STAT.PAUSE 1) := by
  unfold State.scrubLine
  dsimp only
  rw [← hm, if_neg (by omega), hcopy, if_pos rfl]

theorem scrubLine_past {holds : Holds} {upset : SramLine} {stuck : Bool}
    (h : s.rd MEMC.END < s.scrubNext 8 (s.rd MEM_SCRUB_NEXT.MLA)) : s.scrubLine holds upset stuck = s.scrubEnd 1 := by
  unfold State.scrubLine
  dsimp only
  rw [if_pos h]

end

/-! ## Retirements -/

section
variable {s : State} {win : Fin 7} {v : Nat}

/-- Fields of MEM_RET_CTRL (Table 17.7). -/
def retireRow : List FSpec :=
  [⟨MEM_RET_CTRL.GO, .wo, .live, 3, .any⟩, ⟨MEM_RET_CTRL.BANK, .rw, .live, 3, .any⟩, ⟨MEM_RET_CTRL.SPARE, .rw, .live, 3, .any⟩]

theorem fieldsAt_retire : s.fieldsAt 0x70030 = retireRow := by
  have hreg : findReg 0x70030 = some ((⟨0x70030, [], 1, .plain, retireRow⟩ : Reg), 0) := by decide
  rw [State.fieldsAt, hreg]
  rfl

/-- BANK and SPARE have been taken. -/
def State.retireNamed (v : Nat) (s : State) : State :=
  (s.put MEM_RET_CTRL.BANK (MEM_RET_CTRL.BANK.of v)).put MEM_RET_CTRL.SPARE (MEM_RET_CTRL.SPARE.of v)

/-- A GO of MEM_RET_CTRL does what the row decides on the bank and spare it names. -/
theorem hostWrite_retire (hopen : s.writeOpen win 3) (hgo : MEM_RET_CTRL.GO.of v = 1) {t : State} {r : Nat}
    (hact : (if (s.retireNamed v).retireCause.1 ≠ 0 then
        ((s.retireNamed v).put MEM_RET_STAT.CAUSE (s.retireNamed v).retireCause.1 |>.put MEM_RET_STAT.FAIL_EV 1,
          (s.retireNamed v).retireCause.2)
      else ((s.retireNamed v).put MEM_RET_STAT.STATE 1 |>.put MEM_RET_STAT.CAUSE 0 |>.put MEM_RET_STAT.NEXT 0
        |>.put MEMC.RBANK ((s.retireNamed v).rd MEM_RET_CTRL.BANK) |>.put MEMC.RSPARE ((s.retireNamed v).rd MEM_RET_CTRL.SPARE)
        |>.put (MEM_SPARE.STATE ((s.retireNamed v).rd MEM_RET_CTRL.SPARE)) 1, 0)) = (t, r)) :
    s.hostWrite ⟨win, 0x70030, v, (15 : Fin 16)⟩ retireHook = if r = 0 then t else t.refuse win 0x70030 v r false := by
  have ⟨hans, hlvl, _⟩ := hopen
  have hlt : ¬ s.level win < 3 := by omega
  have hok : s.allTaken ⟨win, 0x70030, v, (15 : Fin 16)⟩ retireHook retireRow := by
    simp only [State.allTaken, retireRow, List.forall_mem_cons, List.not_mem_nil, IsEmpty.forall_iff, implies_true, and_true]
    simp [State.fieldReason, Lim.ok, hlt, retireHook]
  have hwritten : writtenFields ⟨win, 0x70030, v, (15 : Fin 16)⟩ retireRow =
      [(MEM_RET_CTRL.GO, MEM_RET_CTRL.GO.of v), (MEM_RET_CTRL.BANK, MEM_RET_CTRL.BANK.of v),
       (MEM_RET_CTRL.SPARE, MEM_RET_CTRL.SPARE.of v)] := rfl
  have hone : wroteOne (writtenFields ⟨win, 0x70030, v, (15 : Fin 16)⟩ retireRow) MEM_RET_CTRL.GO = true := by
    rw [hwritten, wroteOne_of_find rfl, hgo]
    rfl
  have hrow : retireHook.act (writtenFields ⟨win, 0x70030, v, (15 : Fin 16)⟩ retireRow)
      (s.takeWord ⟨win, 0x70030, v, (15 : Fin 16)⟩ retireRow) = (t, r) := by
    refine Eq.trans ?_ hact
    unfold retireHook
    dsimp only
    rw [hone]
    rfl
  rw [hostWrite_of_allTaken hans fieldsAt_retire (by simp [retireRow])
    (wholeReason_of_open (f := ⟨MEM_RET_CTRL.GO, .wo, .live, 3, .any⟩) hopen rfl (by simp [retireRow]) rfl (by decide)) hok, hrow]

theorem retireNamed_reads : (s.retireNamed v).rd MEM_RET_CTRL.BANK = MEM_RET_CTRL.BANK.of v ∧
    (s.retireNamed v).rd MEM_RET_CTRL.SPARE = MEM_RET_CTRL.SPARE.of v := by
  have hbank : MEM_RET_CTRL.BANK.of v < 2 ^ 7 := Nat.mod_lt _ (Nat.two_pow_pos 7)
  have hspare : MEM_RET_CTRL.SPARE.of v < 2 ^ 2 := Nat.mod_lt _ (Nat.two_pow_pos 2)
  unfold State.retireNamed
  refine ⟨?_, ?_⟩
  · rw [rd_put_ne (by decide), rd_put_same]
    exact Nat.mod_eq_of_lt hbank
  · rw [rd_put_same]
    exact Nat.mod_eq_of_lt hspare

theorem retireNamed_rd {f : Field} (hb : f.key ≠ MEM_RET_CTRL.BANK.key) (hs : f.key ≠ MEM_RET_CTRL.SPARE.key) :
    (s.retireNamed v).rd f = s.rd f := by
  unfold State.retireNamed
  rw [rd_put_ne hs, rd_put_ne hb]

theorem retireNamed_retiring : (s.retireNamed v).retiring = s.retiring := by
  unfold State.retiring
  rw [retireNamed_rd (by decide) (by decide)]

theorem spareState_named {sp : Fin 4} : (s.retireNamed v).rd (MEM_SPARE.STATE sp) = s.rd (MEM_SPARE.STATE sp) := by
  have hkeys : ∀ sp : Fin 4, (MEM_SPARE.STATE sp).key ≠ MEM_RET_CTRL.BANK.key ∧
      (MEM_SPARE.STATE sp).key ≠ MEM_RET_CTRL.SPARE.key := by decide
  exact retireNamed_rd (hkeys sp).1 (hkeys sp).2

/-- A retirement that may start. -/
theorem retireCause_free {bank : Fin 64} {sp : Fin 4} (hb : MEM_RET_CTRL.BANK.of v = bank.val) (hs : MEM_RET_CTRL.SPARE.of v = sp.val)
    (hret : s.retiring = false) (hfree : s.rd (MEM_SPARE.STATE sp) = 0) : (s.retireNamed v).retireCause = (0, 0) := by
  obtain ⟨hbank, hspare⟩ := retireNamed_reads (s := s) (v := v)
  have hlt := bank.isLt
  unfold State.retireCause
  rw [retireNamed_retiring, hret, hspare, hs, spareState_named, hfree, hbank, hb, if_neg Bool.false_ne_true, if_neg (by simp),
    if_neg (by omega)]

/-- One whose spare is not free. -/
theorem retireCause_taken {sp : Fin 4} (hs : MEM_RET_CTRL.SPARE.of v = sp.val)
    (hret : s.retiring = false) (hfree : s.rd (MEM_SPARE.STATE sp) ≠ 0) : (s.retireNamed v).retireCause = (2, badState) := by
  obtain ⟨-, hspare⟩ := retireNamed_reads (s := s) (v := v)
  unfold State.retireCause
  rw [retireNamed_retiring, hret, hspare, hs, spareState_named, if_neg Bool.false_ne_true, if_pos hfree]

/-! ## The copy of a bank -/

/-- A line of the bank in retirement is copied. -/
theorem exec_retirementCopyLine {holds : Holds} {upset : SramLine} {stuck : Bool} {b k sp : Nat}
    (hst : s.rd MEM_RET_STAT.STATE = 1) (hb : s.rd MEMC.RBANK = b) (hk : s.rd MEM_RET_STAT.NEXT = k) (hsp : s.rd MEMC.RSPARE = sp)
    (hlast : k + 1 < 40960) :
    exec (.retirementCopyLine holds upset stuck false) s =
      .next (((s.lineRead b k 6 holds upset stuck).1.putPhys (64 + sp) k
        (copyOfLine ((s.lineRead b k 6 holds upset stuck).1.getLine b k) (s.lineRead b k 6 holds upset stuck).2)).put
          MEM_RET_STAT.NEXT (k + 1)) := by
  have hexec : exec (.retirementCopyLine holds upset stuck false) s = execRetirementCopyLine holds upset stuck false s := rfl
  rw [hexec]
  unfold execRetirementCopyLine
  dsimp only
  rw [hst, decide_eq_true rfl, when_true, hb, hk, hsp, if_neg Bool.false_ne_true, decide_eq_false (by omega), when_false]

theorem exec_retirementCopyLine_fails {holds : Holds} {upset : SramLine} {stuck : Bool} (hst : s.rd MEM_RET_STAT.STATE = 1) :
    exec (.retirementCopyLine holds upset stuck true) s =
      .next ((s.lineRead (s.rd MEMC.RBANK) (s.rd MEM_RET_STAT.NEXT) 6 holds upset stuck).1.retireFail 4) := by
  have hexec : exec (.retirementCopyLine holds upset stuck true) s = execRetirementCopyLine holds upset stuck true s := rfl
  rw [hexec]
  unfold execRetirementCopyLine
  dsimp only
  rw [hst, decide_eq_true rfl, when_true, if_pos rfl]

/-- The map names the spare. -/
def State.switched (b sp : Nat) (s : State) : State :=
  s.put (MEM_MAP.PHYS b) (64 + sp) |>.put (MEM_SPARE.STATE sp) 2 |>.put (MEM_SPARE.BANK sp) b
    |>.put MEM_RET_STAT.STATE 3 |>.put MEM_RET_STAT.DONE_EV 1

theorem exec_retirementSwitch {b sp : Nat} (hst : s.rd MEM_RET_STAT.STATE = 2) (hb : s.rd MEMC.RBANK = b)
    (hsp : s.rd MEMC.RSPARE = sp) : exec .retirementSwitch s =
      .next ((s.when (64 ≤ s.rd (MEM_MAP.PHYS b)) (·.put (MEM_SPARE.STATE (s.rd (MEM_MAP.PHYS b) - 64)) 3)).switched b sp) := by
  have hexec : exec .retirementSwitch s = execRetirementSwitch s := rfl
  rw [hexec]
  unfold execRetirementSwitch
  dsimp only
  rw [hst, decide_eq_true rfl, when_true, hb, hsp]
  rfl

theorem switch_keys : ∀ b < 64, ∀ sp < 4, (MEM_MAP.PHYS b).key ≠ (MEM_SPARE.STATE sp).key ∧
    (MEM_MAP.PHYS b).key ≠ (MEM_SPARE.BANK sp).key ∧ (MEM_MAP.PHYS b).key ≠ MEM_RET_STAT.STATE.key ∧
    (MEM_MAP.PHYS b).key ≠ MEM_RET_STAT.DONE_EV.key := by decide +kernel

theorem spare_keys : ∀ i < 4, ∀ sp < 4, (MEM_SPARE.STATE i).key ≠ (MEM_SPARE.BANK sp).key ∧
    (MEM_SPARE.STATE i).key ≠ MEM_RET_STAT.STATE.key ∧ (MEM_SPARE.STATE i).key ≠ MEM_RET_STAT.DONE_EV.key ∧
    (MEM_SPARE.BANK i).key ≠ MEM_RET_STAT.STATE.key ∧ (MEM_SPARE.BANK i).key ≠ MEM_RET_STAT.DONE_EV.key := by decide

theorem switched_physOf {b sp : Nat} (hb : b < 64) (hsp : sp < 4) : (s.switched b sp).physOf b = 64 + sp := by
  obtain ⟨h1, h2, h3, h4⟩ := switch_keys b hb sp hsp
  unfold State.physOf State.switched
  rw [if_pos hb, rd_put_ne h4, rd_put_ne h3, rd_put_ne h2, rd_put_ne h1, rd_put_same]
  exact Nat.mod_eq_of_lt (show 64 + sp < 128 by omega)

theorem switched_spare {b sp : Nat} (hb : b < 64) (hsp : sp < 4) :
    (s.switched b sp).rd (MEM_SPARE.STATE sp) = 2 ∧ (s.switched b sp).rd (MEM_SPARE.BANK sp) = b := by
  obtain ⟨h1, h2, h3, h4, h5⟩ := spare_keys sp hsp sp hsp
  unfold State.switched
  refine ⟨?_, ?_⟩
  · rw [rd_put_ne h3, rd_put_ne h2, rd_put_ne h1, rd_put_same]
    rfl
  · rw [rd_put_ne h5, rd_put_ne h4, rd_put_same]
    exact Nat.mod_eq_of_lt (show b < 128 by omega)

theorem switched_state {b sp : Nat} :
    (s.switched b sp).rd MEM_RET_STAT.STATE = 3 ∧ (s.switched b sp).rd MEM_RET_STAT.DONE_EV = 1 := by
  unfold State.switched
  refine ⟨?_, ?_⟩
  · rw [rd_put_ne (by decide), rd_put_same]
    rfl
  · rw [rd_put_same]
    rfl

theorem switched_sameFields {b sp : Nat} {l : List Field} {t : State} (h : SameFields l s t)
    (hl : ∀ f ∈ [MEM_MAP.PHYS b, MEM_SPARE.STATE sp, MEM_SPARE.BANK sp, MEM_RET_STAT.STATE, MEM_RET_STAT.DONE_EV], f ∈ l) :
    SameFields l s (t.switched b sp) := by
  refine sameFields_put_of (sameFields_put_of (sameFields_put_of (sameFields_put_of (sameFields_put_of h ?_) ?_) ?_) ?_) ?_
  all_goals exact hl _ (by simp)

theorem switched_old {b sp old : Nat} (hb : b < 64) (hsp : sp < 4) (ho : old < 4) (h : sp ≠ old) :
    (s.switched b sp).rd (MEM_SPARE.STATE old) = s.rd (MEM_SPARE.STATE old) := by
  obtain ⟨h1, h2, h3, -, -⟩ := spare_keys old ho sp hsp
  have hmap := (switch_keys b hb old ho).1
  have hne : (MEM_SPARE.STATE old).key ≠ (MEM_SPARE.STATE sp).key := by
    simp only [Field.key, MEM_SPARE.STATE]
    omega
  unfold State.switched
  rw [rd_put_ne h3, rd_put_ne h2, rd_put_ne h1, rd_put_ne hne, rd_put_ne hmap.symm]

/-! ## Starts -/

/-- The retirement starts. -/
def State.retireStarted (bank sp v : Nat) (s : State) : State :=
  (s.retireNamed v).put MEM_RET_STAT.STATE 1 |>.put MEM_RET_STAT.CAUSE 0 |>.put MEM_RET_STAT.NEXT 0
    |>.put MEMC.RBANK bank |>.put MEMC.RSPARE sp |>.put (MEM_SPARE.STATE sp) 1

theorem exec_retireStart {value : Word} {bank : Fin 64} {sp : Fin 4} (hopen : s.writeOpen win 3)
    (hgo : MEM_RET_CTRL.GO.of value.toNat = 1) (hb : MEM_RET_CTRL.BANK.of value.toNat = bank.val)
    (hs : MEM_RET_CTRL.SPARE.of value.toNat = sp.val) (hret : s.retiring = false) (hfree : s.rd (MEM_SPARE.STATE sp) = 0) :
    exec (.bankRetirementStart win value 15) s = .next (s.retireStarted bank sp value.toNat) := by
  obtain ⟨hbank, hspare⟩ := retireNamed_reads (s := s) (v := value.toNat)
  refine congrArg Host.Outcome.next ((hostWrite_retire (t := s.retireStarted bank sp value.toNat) (r := 0) hopen hgo ?_).trans
    (if_pos rfl))
  rw [retireCause_free hb hs hret hfree, hbank, hspare, hb, hs]
  rfl

/-- The cause is shown, and the event. -/
def State.retireRefused (v : Nat) (s : State) : State := (s.retireNamed v).put MEM_RET_STAT.CAUSE 2 |>.put MEM_RET_STAT.FAIL_EV 1

theorem exec_retireTaken {value : Word} {sp : Fin 4} (hopen : s.writeOpen win 3) (hgo : MEM_RET_CTRL.GO.of value.toNat = 1)
    (hs : MEM_RET_CTRL.SPARE.of value.toNat = sp.val) (hret : s.retiring = false) (hfree : s.rd (MEM_SPARE.STATE sp) ≠ 0) :
    exec (.bankRetirementStart win value 15) s =
      .next ((s.retireRefused value.toNat).refuse win 0x70030 value.toNat badState false) := by
  refine congrArg Host.Outcome.next ((hostWrite_retire (t := s.retireRefused value.toNat) (r := badState) hopen hgo ?_).trans
    (if_neg (by decide)))
  rw [retireCause_taken hs hret hfree]
  rfl

theorem retireRefused_rd {f : Field} (h : ∀ g ∈ [MEM_RET_CTRL.BANK, MEM_RET_CTRL.SPARE, MEM_RET_STAT.CAUSE, MEM_RET_STAT.FAIL_EV],
    f.key ≠ g.key) : (s.retireRefused v).rd f = s.rd f := by
  unfold State.retireRefused
  rw [rd_put_ne (h _ (by simp)), rd_put_ne (h _ (by simp)), retireNamed_rd (h _ (by simp)) (h _ (by simp))]

theorem retireRefused_sameFields :
    SameFields [MEM_RET_CTRL.BANK, MEM_RET_CTRL.SPARE, MEM_RET_STAT.CAUSE, MEM_RET_STAT.FAIL_EV] s (s.retireRefused v) := by
  refine sameFields_put_of (sameFields_put_of (sameFields_put_of (sameFields_put_of (.refl _ s) ?_) ?_) ?_) ?_
  all_goals simp

theorem retire_quiet : ∀ f ∈ [MEM_RET_STAT.STATE, MEM_RET_STAT.CAUSE, MEM_RET_STAT.FAIL_EV],
    isQuiet f.key = true ∧ f.key < 8 * 0x90000 := by decide

/-- The record of a refusal stands above the memories' registers. -/
theorem refuseFields_high : ∀ g ∈ s.refuseFields, 8 * 0x90000 ≤ g.key := by
  intro g hg
  unfold State.refuseFields at hg
  obtain hname | hlog := List.mem_append.1 hg
  · have hkeys : ∀ g ∈ [MGT_REFUSE.ADDR, MGT_REFUSE_INFO.RD, MGT_REFUSE_INFO.WIN, MGT_REFUSE_INFO.REASON, MGT_REFUSE_INFO.COUNT,
        MGT_RLOG_PTR.WRAP, MGT_RLOG_PTR.PTR], 8 * 0x90000 ≤ g.key := by decide
    exact hkeys g hname
  · obtain ⟨k, -, rfl⟩ := List.mem_map.1 hlog
    simp only [Field.key, tableWord]
    omega

theorem started_keys : ∀ sp : Fin 4, ∀ f ∈ [MEM_RET_STAT.STATE, MEM_RET_STAT.CAUSE, MEM_RET_STAT.NEXT, MEMC.RBANK, MEMC.RSPARE],
    f.key ≠ (MEM_SPARE.STATE sp).key := by decide

variable {bank : Fin 64} {sp : Fin 4}

theorem retireStarted_state : (s.retireStarted bank sp v).rd MEM_RET_STAT.STATE = 1 ∧
    (s.retireStarted bank sp v).rd MEM_RET_STAT.CAUSE = 0 ∧ (s.retireStarted bank sp v).rd MEM_RET_STAT.NEXT = 0 := by
  have hspare := started_keys sp
  unfold State.retireStarted
  refine ⟨?_, ?_, ?_⟩
  · rw [rd_put_ne (hspare _ (by simp)), rd_put_ne (by decide), rd_put_ne (by decide), rd_put_ne (by decide), rd_put_ne (by decide),
      rd_put_same]
    rfl
  · rw [rd_put_ne (hspare _ (by simp)), rd_put_ne (by decide), rd_put_ne (by decide), rd_put_ne (by decide), rd_put_same]
    rfl
  · rw [rd_put_ne (hspare _ (by simp)), rd_put_ne (by decide), rd_put_ne (by decide), rd_put_same]
    rfl

theorem retireStarted_names : (s.retireStarted bank sp v).rd MEMC.RBANK = bank ∧ (s.retireStarted bank sp v).rd MEMC.RSPARE = sp := by
  have hspare := started_keys sp
  unfold State.retireStarted
  refine ⟨?_, ?_⟩
  · rw [rd_put_ne (hspare _ (by simp)), rd_put_ne (by decide), rd_put_same]
    exact Nat.mod_eq_of_lt (bank.isLt.trans (by decide))
  · rw [rd_put_ne (hspare _ (by simp)), rd_put_same]
    exact Nat.mod_eq_of_lt sp.isLt

theorem retireStarted_spare : (s.retireStarted bank sp v).rd (MEM_SPARE.STATE sp) = 1 := rd_put_same ..

theorem retireStarted_sameFields : SameFields [MEM_RET_CTRL.BANK, MEM_RET_CTRL.SPARE, MEM_RET_STAT.STATE, MEM_RET_STAT.CAUSE,
    MEM_RET_STAT.NEXT, MEMC.RBANK, MEMC.RSPARE, MEM_SPARE.STATE sp] s (s.retireStarted bank sp v) := by
  refine sameFields_put_of (sameFields_put_of (sameFields_put_of (sameFields_put_of (sameFields_put_of (sameFields_put_of
    (sameFields_put_of (sameFields_put_of (.refl _ s) ?_) ?_) ?_) ?_) ?_) ?_) ?_) ?_
  all_goals simp

/-- A retirement whose spare fails. -/
theorem retireFail_shown (h : s.rd MEMC.RSPARE < 4) : (s.retireFail 4).rd MEM_RET_STAT.STATE = 4 ∧
    (s.retireFail 4).rd MEM_RET_STAT.CAUSE = 4 ∧ (s.retireFail 4).rd MEM_RET_STAT.FAIL_EV = 1 ∧
    (s.retireFail 4).rd (MEM_SPARE.STATE (s.rd MEMC.RSPARE)) = 3 ∧
    ∀ b < 64, (s.retireFail 4).rd (MEM_MAP.PHYS b) = s.rd (MEM_MAP.PHYS b) := by
  have hkeys : ∀ i < 4, ∀ f ∈ [MEM_RET_STAT.STATE, MEM_RET_STAT.CAUSE, MEM_RET_STAT.FAIL_EV], f.key ≠ (MEM_SPARE.STATE i).key := by
    decide
  have hspare := hkeys _ h
  have hmap : ∀ b < 64, (MEM_MAP.PHYS b).key ≠ MEM_RET_STAT.STATE.key ∧ (MEM_MAP.PHYS b).key ≠ MEM_RET_STAT.CAUSE.key ∧
      (MEM_MAP.PHYS b).key ≠ MEM_RET_STAT.FAIL_EV.key := by decide
  unfold State.retireFail
  refine ⟨?_, ?_, ?_, ?_, fun b hb => ?_⟩
  · rw [rd_put_ne (hspare _ (by simp)), rd_put_ne (by decide), rd_put_ne (by decide), rd_put_same]
    rfl
  · rw [rd_put_ne (hspare _ (by simp)), rd_put_ne (by decide), rd_put_same]
    rfl
  · rw [rd_put_ne (hspare _ (by simp)), rd_put_same]
    rfl
  · rw [rd_put_same]
    rfl
  · rw [rd_put_ne (switch_keys b hb _ h).1, rd_put_ne (hmap b hb).2.2, rd_put_ne (hmap b hb).2.1, rd_put_ne (hmap b hb).1]

theorem retireFail_sameFields {l : List Field} {a : State} (h : SameFields l a s)
    (hl : ∀ f ∈ [MEM_RET_STAT.STATE, MEM_RET_STAT.CAUSE, MEM_RET_STAT.FAIL_EV, MEM_SPARE.STATE (s.rd MEMC.RSPARE)], f ∈ l) :
    SameFields l a (s.retireFail 4) := by
  refine sameFields_put_of (sameFields_put_of (sameFields_put_of (sameFields_put_of h ?_) ?_) ?_) ?_
  all_goals exact hl _ (by simp)

theorem map_next : ∀ b < 64, (MEM_MAP.PHYS b).key ≠ MEM_RET_STAT.NEXT.key := by decide

end

section
variable {s : State} {win : Fin 7} {value : Word}

theorem scrubRate_rd {v : Nat} {f : Field} (h : f.key ≠ MEM_SCRUB_CTRL.RATE.key) : (s.scrubRate v).rd f = s.rd f := rd_put_ne h

theorem scrubBusy_of_run (h : s.rd MEM_SCRUB_STAT.STATE = 1 ∨ s.rd MEM_SCRUB_STAT.STATE = 2) : s.scrubBusy = true := by
  unfold State.scrubBusy
  simpa using h

theorem scrubRate_busy {v : Nat} : (s.scrubRate v).scrubBusy = s.scrubBusy := by
  unfold State.scrubBusy
  rw [scrubRate_rd (by decide)]

/-- GO alone starts a scrub. -/
theorem scrubCommand_go : s.scrubCommand true false false false = s.scrubStart := by
  unfold State.scrubCommand
  simp only [Bool.false_and, when_false, when_true]

/-- PAUSE alone holds a running one. -/
theorem scrubCommand_pause (h : s.rd MEM_SCRUB_STAT.STATE = 1) :
    s.scrubCommand false false false true = (s.put MEM_SCRUB_STAT.STATE 2).put MEM_SCRUB_STAT.PAUSE 2 := by
  unfold State.scrubCommand
  simp only [h, scrubBusy_of_run (.inl h), Bool.false_and, when_false, decide_true, Bool.true_or, Bool.true_and, when_true]

/-- RESUME alone continues one that PAUSE holds. -/
theorem scrubCommand_resume (h : s.rd MEM_SCRUB_STAT.STATE = 2) (hp : s.rd MEM_SCRUB_STAT.PAUSE = 2) :
    s.scrubCommand false true false false = (s.put MEM_SCRUB_STAT.STATE 1).put MEM_SCRUB_STAT.PAUSE 0 := by
  unfold State.scrubCommand
  simp only [h, hp, scrubBusy_of_run (.inr h), Bool.false_and, when_false, decide_true, Bool.true_and, when_true]

/-- ABORT alone ends one. -/
theorem scrubCommand_abort (h : s.scrubBusy = true) : s.scrubCommand false false true false = s.scrubEnd 2 := by
  unfold State.scrubCommand
  simp only [h, Bool.false_and, when_false, Bool.true_and, when_true]

end

/-- Settles O49: the commands of a scrub and its lines, and the steps of a retirement. -/
theorem scrubsAndRetirements : Obligations.ScrubsAndRetirements := by
  unfold Obligations.ScrubsAndRetirements
  refine ⟨?start, ?busy, ?pause, ?resume, ?abort, ?clean, ?copied, ?past, ?retire, ?taken, ?copy, ?bad, ?fails, ?switch, ?again⟩
  case start =>
    intro s win value hopen hcmd hrate hbusy hrange
    obtain ⟨hgo, hresume, habort, hpause⟩ := hcmd
    have hexec : exec (.scrubStart win value 15) s = .next (s.scrubRate value.toNat).scrubStart := by
      refine Eq.trans rfl (congrArg Host.Outcome.next ((hostWrite_scrub hopen hrate fun _ => ⟨hbusy, hrange⟩).trans ?_))
      rw [hgo, hresume, habort, hpause]
      exact scrubCommand_go
    exact ⟨_, hexec, scrubStart_state, scrubStart_next.trans (scrubRate_rd (by decide)), scrubStart_end.trans (scrubRate_rd (by decide)),
      scrubStart_lines, scrubStart_sameArea .sram, scrubStart_sameArea .ch, scrubStart_sameArea .flow,
      scrubStart_sameFields (sameFields_put_of (.refl _ s) (by simp [scrubStartFields]))⟩
  case busy =>
    intro s win value hopen hcmd hrate hbusy
    obtain ⟨hgo, hresume, habort, hpause⟩ := hcmd
    have hexec : exec (.scrubStart win value 15) s = .next ((s.scrubRate value.toNat).refuse win 0x70010 value.toNat 6 false) :=
      congrArg Host.Outcome.next (hostWrite_scrub_busy hopen hrate hgo hresume habort hpause hbusy)
    obtain ⟨haddr, -, -, hreason, -, hpend, hkept⟩ := refuse_refusedAs (s := s.scrubRate value.toNat) (win := win) (addr := 0x70010)
      (value := value.toNat) (reason := 6) (read := false) (win.isLt.trans (by decide)) (by decide)
    refine ⟨_, hexec, hreason, haddr, hpend, refuse_ch .., refuse_flow .., ?_⟩
    have hfields : (s.scrubRate value.toNat).refuseFields = s.refuseFields := by
      unfold State.refuseFields
      rw [scrubRate_rd (by decide)]
    rw [hfields] at hkept
    exact (fieldsKept_put_of (.refl _ _ _ s) (List.mem_cons_self ..)).trans (hkept.mono fun f hf => List.mem_cons_of_mem _ hf)
  case pause =>
    intro s win value hopen hcmd hrate hst
    obtain ⟨hgo, hresume, habort, hpause⟩ := hcmd
    have hexec : exec (.scrubPause win value 15) s =
        .next (((s.scrubRate value.toNat).put MEM_SCRUB_STAT.STATE 2).put MEM_SCRUB_STAT.PAUSE 2) := by
      refine Eq.trans rfl (congrArg Host.Outcome.next ((hostWrite_scrub hopen hrate fun h => absurd (hgo.symm.trans h) (by decide)).trans ?_))
      rw [hgo, hresume, habort, hpause]
      exact scrubCommand_pause ((scrubRate_rd (by decide)).trans hst)
    exact ⟨_, hexec, (rd_put_ne (by decide)).trans (rd_put_same ..), rd_put_same .., rfl, rfl, rfl,
      sameFields_put_of (sameFields_put_of (sameFields_put_of (.refl _ s) (by simp)) (by simp)) (by simp)⟩
  case resume =>
    intro s win value hopen hcmd hrate hst hp
    obtain ⟨hgo, hresume, habort, hpause⟩ := hcmd
    have hexec : exec (.scrubResume win value 15) s =
        .next (((s.scrubRate value.toNat).put MEM_SCRUB_STAT.STATE 1).put MEM_SCRUB_STAT.PAUSE 0) := by
      refine Eq.trans rfl (congrArg Host.Outcome.next ((hostWrite_scrub hopen hrate fun h => absurd (hgo.symm.trans h) (by decide)).trans ?_))
      rw [hgo, hresume, habort, hpause]
      exact scrubCommand_resume ((scrubRate_rd (by decide)).trans hst) ((scrubRate_rd (by decide)).trans hp)
    exact ⟨_, hexec, (rd_put_ne (by decide)).trans (rd_put_same ..), rd_put_same .., rfl, rfl, rfl,
      sameFields_put_of (sameFields_put_of (sameFields_put_of (.refl _ s) (by simp)) (by simp)) (by simp)⟩
  case abort =>
    intro s win value hopen hcmd hrate hbusy
    obtain ⟨hgo, hresume, habort, hpause⟩ := hcmd
    have hexec : exec (.scrubAbort win value 15) s = .next ((s.scrubRate value.toNat).scrubEnd 2) := by
      refine Eq.trans rfl (congrArg Host.Outcome.next ((hostWrite_scrub hopen hrate fun h => absurd (hgo.symm.trans h) (by decide)).trans ?_))
      rw [hgo, hresume, habort, hpause]
      exact scrubCommand_abort (scrubRate_busy.trans hbusy)
    obtain ⟨hcorr, hlines⟩ := scrubEnd_counts (s := s.scrubRate value.toNat) (how := 2)
    refine ⟨_, hexec, scrubEnd_state, scrubEnd_event, ?_, ⟨hcorr.trans (scrubRate_rd (by decide)), hlines.trans (scrubRate_rd (by decide))⟩,
      scrubEnd_pend, scrubEnd_sameArea .sram, scrubEnd_sameArea .ch, scrubEnd_sameArea .flow, ?_⟩
    · rw [scrubEnd_first, scrubRate_rd (by decide)]
      omega
    · have hkept : FieldsKept (MEM_SCRUB_CTRL.RATE :: scrubEndFields) [98] [] s ((s.scrubRate value.toNat).scrubEnd 2) :=
        (fieldsKept_put_of (.refl _ _ _ s) (List.mem_cons_self ..)).trans (scrubEnd_fieldsKept.mono fun f hf => List.mem_cons_of_mem _ hf)
      exact hkept
  case clean =>
    intro s holds upset stuck m hst hm hend hcopy hv hnext
    have hlt : m < 2 ^ 23 := hend.trans (rd_lt s MEMC.END)
    refine ⟨_, (exec_scrubLine hst).trans (congrArg _ (scrubLine_clean hm hend hcopy hv hnext)), ?_, rd_put_same .., ?_, ?_, ?_, ?_, ?_⟩
    · rw [rd_put_ne (by decide), scrubbed_quiet (by decide), rd_put_ne (by decide), rd_put_ne (by decide), rd_put_same]
      exact Nat.mod_eq_of_lt hlt
    · rw [rd_put_ne (by decide), scrubbed_quiet (by decide), rd_put_ne (by decide), rd_put_ne (by decide), rd_put_ne (by decide)]
      exact rd_put_same ..
    · rw [rd_put_ne (by decide), scrubbed_quiet (by decide), rd_put_ne (by decide), rd_put_same]
      rfl
    · exact count_ch
    · exact count_flow
    · refine fieldsKept_put_of (fieldsKept_count (fieldsKept_put_of (fieldsKept_put_of (fieldsKept_put_of (fieldsKept_addWrap_of
        (fieldsKept_of_regs (.refl _ _ _ s) rfl) ?_) ?_) ?_) ?_) (by simp)) ?_
      all_goals simp
  case copied =>
    intro s holds upset stuck m hst hm hend hcopy
    exact ⟨_, (exec_scrubLine hst).trans (congrArg _ (scrubLine_copying hm hend hcopy)),
      ⟨(rd_put_ne (by decide)).trans (rd_put_same ..), rd_put_same ..⟩, rfl, rfl, rfl,
      sameFields_put_of (sameFields_put_of (sameFields_put_of (.refl _ s) (by simp)) (by simp)) (by simp)⟩
  case past =>
    intro s holds upset stuck hst hend
    exact ⟨_, (exec_scrubLine hst).trans (congrArg _ (scrubLine_past hend)), scrubEnd_state, scrubEnd_event, scrubEnd_pend,
      scrubEnd_sameArea .sram, scrubEnd_sameArea .ch, scrubEnd_sameArea .flow, scrubEnd_fieldsKept⟩
  case retire =>
    intro s win value bank sp hopen hcmd hret hfree
    obtain ⟨hgo, hbank, hspare⟩ := hcmd
    refine ⟨_, exec_retireStart hopen hgo hbank hspare hret hfree, retireStarted_state, retireStarted_names, retireStarted_spare, rfl, rfl,
      rfl, retireStarted_sameFields⟩
  case taken =>
    intro s win value bank sp hopen hcmd hret hfree
    obtain ⟨hgo, hbank, hspare⟩ := hcmd
    obtain ⟨haddr, -, -, -, -, -, hkept⟩ := refuse_refusedAs (s := s.retireRefused value.toNat) (win := win) (addr := 0x70030)
      (value := value.toNat) (reason := badState) (read := false) (win.isLt.trans (by decide)) (by decide)
    have hfields : (s.retireRefused value.toNat).refuseFields = s.refuseFields := by
      unfold State.refuseFields
      rw [retireRefused_rd (by decide)]
    rw [hfields] at hkept
    have hread : ∀ f ∈ [MEM_RET_STAT.STATE, MEM_RET_STAT.CAUSE, MEM_RET_STAT.FAIL_EV],
        ((s.retireRefused value.toNat).refuse win 0x70030 value.toNat badState false).rd f = (s.retireRefused value.toNat).rd f :=
      fun f hf => hkept.read (by simp) (by simp) ⟨(retire_quiet f hf).1, fun g hg => by
        have hlow := (retire_quiet f hf).2
        have hhigh := refuseFields_high g hg
        omega⟩
    refine ⟨_, exec_retireTaken hopen hgo hspare hret hfree, ⟨(hread _ (by simp)).trans ?_, (hread _ (by simp)).trans ?_⟩,
      (hread _ (by simp)).trans (rd_put_same ..), haddr, refuse_sameArea .sram, refuse_ch .., refuse_flow .., ?_⟩
    · exact retireRefused_rd (by decide)
    · exact (rd_put_ne (by decide)).trans (rd_put_same ..)
    · refine FieldsKept.trans (SameFields.kept (retireRefused_sameFields.mono fun f hf => List.mem_append_left _ hf))
        (hkept.mono fun f hf => List.mem_append_right _ hf)
  case copy =>
    intro s holds upset stuck b k sp hst hnames hlt hne hv
    obtain ⟨hb, hk, hsp⟩ := hnames
    obtain ⟨hb64, hlast, -⟩ := hlt
    have hexec := exec_retirementCopyLine (holds := holds) (upset := upset) (stuck := stuck) hst hb hk hsp hlast
    rw [lineRead_clean hv] at hexec
    dsimp only [copyOfLine] at hexec
    rw [flipped_getLine] at hexec
    refine ⟨_, hexec, ?_, ?_, ?_, ?_, rfl, rfl, ?_⟩
    · exact (rd_put_same ..).trans (Nat.mod_eq_of_lt (show k + 1 < 65536 by omega))
    · exact (rd_put_ne (by decide)).trans hst
    · exact lineAt_setLine_same
    · have hphys : ((((s.flipped b k upset).putPhys (64 + sp) k ((s.getLine b k).flip upset)).put MEM_RET_STAT.NEXT (k + 1)).getLine b k) =
          ((s.flipped b k upset).putPhys (64 + sp) k ((s.getLine b k).flip upset)).getLine b k :=
        getLine_congr rfl fun c hc => rd_put_ne (map_next c hc)
      rw [hphys]
      exact (lineAt_setLine_other (lineLoc_inj (Ne.symm hne))).trans lineAt_setLine_same
    · exact sameFields_put_of (sameFields_of_regs (.refl _ s) rfl) (by simp)
  case bad =>
    intro s holds upset stuck b k sp nb byte hst hnames hlt hne hv hholds
    obtain ⟨hb, hk, hsp⟩ := hnames
    obtain ⟨hb64, hlast, -⟩ := hlt
    have hexec := exec_retirementCopyLine (holds := holds) (upset := upset) (stuck := stuck) hst hb hk hsp hlast
    have hverdict : (s.lineRead b k 6 holds upset stuck).2 = .bad nb byte := hv
    have hstate : (s.lineRead b k 6 holds upset stuck).1 = s.lineBad b k 6 byte nb upset := by
      rw [lineRead_bad hv, hholds]
      exact lineLost_line (bank := ⟨b, by omega⟩)
    have hline : (s.lineBad b k 6 byte nb upset).getLine b k = (s.getLine b k).flip upset :=
      lineBad_getLine (bank := ⟨b, by omega⟩) (line := ⟨k, by omega⟩) (src := 6)
    rw [hverdict, hstate, hline] at hexec
    refine ⟨_, hexec, ?_, lineAt_setLine_same, ?_, ?_⟩
    · exact (rd_put_same ..).trans (Nat.mod_eq_of_lt (show k + 1 < 65536 by omega))
    · exact lineBad_sameArea (bank := ⟨b, by omega⟩) (line := ⟨k, by omega⟩) (src := 6) .ch (by decide)
    · exact lineBad_sameArea (bank := ⟨b, by omega⟩) (line := ⟨k, by omega⟩) (src := 6) .flow (by decide)
  case fails =>
    intro s holds upset stuck hst hv
    have hexec := exec_retirementCopyLine_fails (holds := holds) (upset := upset) (stuck := stuck) hst
    rw [lineRead_clean hv] at hexec
    have hsp : s.rd MEMC.RSPARE < 4 := rd_lt s MEMC.RSPARE
    obtain ⟨hstate, hcause, hevent, hspare, hmap⟩ := retireFail_shown
      (s := s.flipped (s.rd MEMC.RBANK) (s.rd MEM_RET_STAT.NEXT) upset) hsp
    exact ⟨_, hexec, ⟨hstate, hcause⟩, hevent, hspare, fun b => hmap b b.isLt, rfl, rfl,
      retireFail_sameFields (sameFields_of_regs (.refl _ s) rfl) (by simp [flipped_rd])⟩
  case switch =>
    intro s b sp hst hnames hlt hmap
    obtain ⟨hb, hsp⟩ := hnames
    obtain ⟨hb64, hsp4⟩ := hlt
    have hexec := exec_retirementSwitch hst hb hsp
    rw [decide_eq_false (Nat.not_le.2 hmap), when_false] at hexec
    obtain ⟨hspare, hbank⟩ := switched_spare (s := s) hb64 hsp4
    obtain ⟨hstate, hevent⟩ := switched_state (s := s) (b := b) (sp := sp)
    exact ⟨_, hexec, switched_physOf hb64 hsp4, ⟨hspare, hbank⟩, ⟨hstate, hevent⟩, rfl, rfl, rfl, switched_sameFields (.refl _ s) (by simp)⟩
  case again =>
    intro s b sp old hst hnames hlt hmap hne
    obtain ⟨hb, hsp⟩ := hnames
    obtain ⟨hb64, hsp4⟩ := hlt
    have hexec := exec_retirementSwitch hst hb hsp
    rw [hmap, decide_eq_true (Nat.le_add_right 64 old), when_true, Nat.add_sub_cancel_left] at hexec
    refine ⟨_, hexec, switched_physOf hb64 hsp4, ?_, (switched_spare hb64 hsp4).1, rfl, rfl, rfl,
      switched_sameFields (sameFields_put_of (.refl _ s) (by simp)) (by simp)⟩
    exact (switched_old hb64 hsp4 old.isLt hne).trans (rd_put_same ..)

end Sys2Proof.Machine
end

section
/-! Calibration runs as a command or a trigger starts them (R328 to R330, R338, Tables 14.3 and 14.5). -/

set_option Elab.async false

namespace Sys2Proof.Machine

/-! ## Bits of a number -/

section
variable {v i w : Nat}

theorem bit_setBit : bit (setBit v i) i = 1 := by
  unfold setBit bit
  have hpos := Nat.two_pow_pos i
  split
  · rename_i h
    rw [Nat.add_div_right v hpos]
    omega
  · rename_i h
    omega

theorem bit_mod (hi : i < w) : bit (v % 2 ^ w) i = bit v i := by
  unfold bit
  have hsplit : 2 ^ w = 2 ^ i * 2 ^ (w - i) := by rw [← Nat.pow_add]; congr 1; omega
  have heven : 2 ∣ 2 ^ (w - i) := dvd_pow_self 2 (by omega)
  rw [hsplit, Nat.mod_mul_right_div_self, Nat.mod_mod_of_dvd _ heven]

theorem bit_clrBit : bit (clrBit v i) i = 0 := by
  unfold clrBit bit
  have hpos := Nat.two_pow_pos i
  split
  · rename_i h
    have hdiv : (v - 2 ^ i) / 2 ^ i = v / 2 ^ i - 1 := by
      have hsub := Nat.sub_mul_div v (2 ^ i) 1
      rwa [Nat.mul_one] at hsub
    rw [hdiv]
    omega
  · rename_i h
    omega

end

/-- A bit put reads back. -/
theorem rdBit_putBit {s : State} {f : Field} {i : Nat} {b : Bool} (hi : i < f.width) : (s.putBit f i b).rdBit f i = b := by
  unfold State.rdBit State.putBit
  rw [rd_put_same, bit_mod hi]
  cases b
  · rw [if_neg Bool.false_ne_true, bit_clrBit]
    rfl
  · rw [if_pos rfl, bit_setBit]
    rfl

/-! ## An operation starts (R328) -/

section
variable {s t : State} {ty sc src : Nat} {ign : Bool}

/-- The run is named, and its progress. -/
def State.runNamed (ty sc src : Nat) (ign : Bool) (s : State) : State :=
  s.put CAL_RUN_STAT.SCOPE sc |>.put CAL_RUN_STAT.TYPE ty |>.put CAL_RUN_STAT.CAUSE 0 |>.put CAL_RUN_STAT.PAUSE 0
    |>.flag CALC.IGN ign |>.put CALC.SRC src |>.put CALC.PASS 0 |>.put CALC.NOWRITE 0 |>.put CALC.LIGHT 0
    |>.put CAL_PROG.NEXT 0 |>.put CAL_PROG.TOTAL (totalOf sc)

theorem calBegin_measures (h : ty = 1 ∨ ty = 2) : s.calBegin ty sc src ign =
    ((s.runNamed ty sc src ign).put CAL_RUN_STAT.STATE 1).when (ty = 1 && sc < 4) (·.request (.loopback sc)) := by
  have htype : (decide (ty = 1) || decide (ty = 2)) = true := by simpa using h
  unfold State.calBegin
  dsimp only
  rw [htype, if_pos rfl]
  rfl

theorem calBegin_load {r : Nat} (h : s.loadSource sc src = some r) : s.calBegin 3 sc src ign =
    ({ s.runNamed 3 sc src ign with
        runSet := if s.newestAB sc = some r then s.copyOf sc r else s.restamp sc 3 (s.copyOf sc r) }.put CAL_RUN_STAT.STATE 3
      |>.flag CALC.NOWRITE (decide (s.newestAB sc = some r)) |>.put CALC.REGION r).request .calApply := by
  unfold State.calBegin
  dsimp only
  rw [h]
  by_cases hn : s.newestAB sc = some r
  · simp only [hn, decide_true, if_true]
    rfl
  · simp only [hn, decide_false, if_false]
    rfl

theorem calBegin_rewrite : s.calBegin 4 sc src ign =
    ({ s.runNamed 4 sc src ign with runSet := s.setOf sc }.put CAL_RUN_STAT.STATE 3).request .calApply := rfl

/-- Fields that name a run. -/
def runFields : List Field :=
  [CAL_RUN_STAT.SCOPE, CAL_RUN_STAT.TYPE, CAL_RUN_STAT.CAUSE, CAL_RUN_STAT.PAUSE, CAL_RUN_STAT.STATE, CALC.IGN, CALC.SRC, CALC.PASS,
   CALC.NOWRITE, CALC.LIGHT, CAL_PROG.NEXT, CAL_PROG.TOTAL]

theorem runNamed_sameFields {l : List Field} {a : State} (h : SameFields l a s) (hl : ∀ f ∈ runFields, f ∈ l) :
    SameFields l a (s.runNamed ty sc src ign) := by
  refine sameFields_put_of (sameFields_put_of (sameFields_put_of (sameFields_put_of (sameFields_put_of (sameFields_put_of
    (sameFields_flag_of (sameFields_put_of (sameFields_put_of (sameFields_put_of (sameFields_put_of h ?_) ?_) ?_) ?_) ?_) ?_) ?_) ?_)
    ?_) ?_) ?_
  all_goals exact hl _ (by simp [runFields])

/-- What the run shows. -/
def State.showsRun (t : State) (ty sc : Nat) : Prop :=
  (t.rd CAL_RUN_STAT.TYPE = ty ∧ t.rd CAL_RUN_STAT.SCOPE = sc ∧ t.rd CAL_RUN_STAT.CAUSE = 0) ∧
  t.rd CAL_PROG.NEXT = 0 ∧ t.rd CAL_PROG.TOTAL = totalOf sc

theorem runNamed_shows (hty : ty < 16) (hsc : sc < 5) : (s.runNamed ty sc src ign).showsRun ty sc := by
  unfold State.runNamed
  refine ⟨⟨?_, ?_, ?_⟩, ?_, ?_⟩
  · rw [rd_put_ne (by decide), rd_put_ne (by decide), rd_put_ne (by decide), rd_put_ne (by decide), rd_put_ne (by decide),
      rd_put_ne (by decide), rd_flag_ne (by decide), rd_put_ne (by decide), rd_put_ne (by decide), rd_put_same]
    exact Nat.mod_eq_of_lt hty
  · rw [rd_put_ne (by decide), rd_put_ne (by decide), rd_put_ne (by decide), rd_put_ne (by decide), rd_put_ne (by decide),
      rd_put_ne (by decide), rd_flag_ne (by decide), rd_put_ne (by decide), rd_put_ne (by decide), rd_put_ne (by decide), rd_put_same]
    exact Nat.mod_eq_of_lt (hsc.trans (by decide))
  · rw [rd_put_ne (by decide), rd_put_ne (by decide), rd_put_ne (by decide), rd_put_ne (by decide), rd_put_ne (by decide),
      rd_put_ne (by decide), rd_flag_ne (by decide), rd_put_ne (by decide), rd_put_same]
    rfl
  · rw [rd_put_ne (by decide), rd_put_same]
    rfl
  · rw [rd_put_same]
    unfold totalOf
    split <;> rfl

theorem runNamed_ign : (s.runNamed ty sc src ign).rd CALC.IGN = if ign then 1 else 0 := by
  unfold State.runNamed
  rw [rd_put_ne (by decide), rd_put_ne (by decide), rd_put_ne (by decide), rd_put_ne (by decide), rd_put_ne (by decide),
    rd_put_ne (by decide)]
  cases ign <;> exact rd_put_same ..

/-- A run that shows is shown after changes of other fields. -/
theorem showsRun_congr (h : s.showsRun ty sc) (hk : ∀ f ∈ [CAL_RUN_STAT.TYPE, CAL_RUN_STAT.SCOPE, CAL_RUN_STAT.CAUSE, CAL_PROG.NEXT,
    CAL_PROG.TOTAL], t.rd f = s.rd f) : t.showsRun ty sc := by
  obtain ⟨⟨h1, h2, h3⟩, h4, h5⟩ := h
  exact ⟨⟨(hk _ (by simp)).trans h1, (hk _ (by simp)).trans h2, (hk _ (by simp)).trans h3⟩, (hk _ (by simp)).trans h4,
    (hk _ (by simp)).trans h5⟩

theorem shown_apart : ∀ f ∈ [CAL_RUN_STAT.TYPE, CAL_RUN_STAT.SCOPE, CAL_RUN_STAT.CAUSE, CAL_PROG.NEXT, CAL_PROG.TOTAL],
    f.key ≠ CAL_RUN_STAT.STATE.key ∧ f.key ≠ CALC.NOWRITE.key ∧ f.key ≠ CALC.REGION.key := by decide

/-! ## CAL_CMD -/

/-- Fields of CAL_CMD (Table 14.8). -/
def calRow : List FSpec :=
  [⟨CAL_CMD.GO, .wo, .live, 2, .any⟩, ⟨CAL_CMD.IGN_STEP, .wo, .live, 2, .any⟩, ⟨CAL_CMD.TYPE, .wo, .live, 2, .any⟩,
   ⟨CAL_CMD.SRC, .wo, .live, 2, .any⟩, ⟨CAL_CMD.SCOPE, .wo, .live, 2, .any⟩]

theorem fieldsAt_cal : s.fieldsAt 0x50000 = calRow := by
  have hreg : findReg 0x50000 = some ((⟨0x50000, [], 1, .plain, calRow⟩ : Reg), 0) := by decide
  rw [State.fieldsAt, hreg]
  rfl

variable {win : Fin 7} {v : Nat}

/-- GO of CAL_CMD with a TYPE and a SCOPE in their ranges. -/
theorem hostWrite_cal (hopen : s.writeOpen win 2) (hgo : CAL_CMD.GO.of v = 1) (hty : CAL_CMD.TYPE.of v = ty)
    (hsc : CAL_CMD.SCOPE.of v = sc) (htype : 1 ≤ ty ∧ ty ≤ 4) (hscope : sc < 5) :
    s.hostWrite ⟨win, 0x50000, v, (15 : Fin 16)⟩ (calHook v) =
      s.calGo ty sc (CAL_CMD.SRC.of v) (decide (CAL_CMD.IGN_STEP.of v = 1)) := by
  have hcmd : CommandsOf 2 calRow := by unfold CommandsOf; decide
  refine hostWrite_of_commands (f := ⟨CAL_CMD.GO, .wo, .live, 2, .any⟩) hopen rfl (by decide) fieldsAt_cal (by simp [calRow]) hcmd ?_ ?_
  · have hrange : ¬ (ty = 0 ∨ 4 < ty) := by omega
    have hin : ¬ 4 < sc := by omega
    simp only [calRow, List.forall_mem_cons, List.not_mem_nil, IsEmpty.forall_iff, implies_true, and_true]
    refine ⟨?_, ?_, ?_, ?_, ?_⟩
    · simp [calHook, CAL_CMD.GO, CAL_CMD.TYPE, CAL_CMD.SCOPE]
    · simp [calHook, CAL_CMD.IGN_STEP, CAL_CMD.TYPE, CAL_CMD.SCOPE]
    · rw [hty]
      simp [calHook, CAL_CMD.TYPE, CAL_CMD.SCOPE]
      omega
    · simp [calHook, CAL_CMD.SRC, CAL_CMD.TYPE, CAL_CMD.SCOPE]
    · rw [hsc]
      simp [calHook, CAL_CMD.TYPE, CAL_CMD.SCOPE]
      omega
  · have hmap : calRow.map (fun g => (g.fld, g.fld.of v)) =
        [(CAL_CMD.GO, CAL_CMD.GO.of v), (CAL_CMD.IGN_STEP, CAL_CMD.IGN_STEP.of v), (CAL_CMD.TYPE, CAL_CMD.TYPE.of v),
         (CAL_CMD.SRC, CAL_CMD.SRC.of v), (CAL_CMD.SCOPE, CAL_CMD.SCOPE.of v)] := rfl
    dsimp only
    rw [hmap]
    have hgo' : wroteOne [(CAL_CMD.GO, CAL_CMD.GO.of v), (CAL_CMD.IGN_STEP, CAL_CMD.IGN_STEP.of v), (CAL_CMD.TYPE, CAL_CMD.TYPE.of v),
         (CAL_CMD.SRC, CAL_CMD.SRC.of v), (CAL_CMD.SCOPE, CAL_CMD.SCOPE.of v)] CAL_CMD.GO = true :=
      (wroteOne_of_find rfl).trans (by rw [hgo]; rfl)
    have hign : wroteOne [(CAL_CMD.GO, CAL_CMD.GO.of v), (CAL_CMD.IGN_STEP, CAL_CMD.IGN_STEP.of v), (CAL_CMD.TYPE, CAL_CMD.TYPE.of v),
         (CAL_CMD.SRC, CAL_CMD.SRC.of v), (CAL_CMD.SCOPE, CAL_CMD.SCOPE.of v)] CAL_CMD.IGN_STEP = decide (CAL_CMD.IGN_STEP.of v = 1) :=
      wroteOne_of_find rfl
    unfold calHook
    dsimp only
    rw [hgo', hign]
    change (s.when (true && decide (1 ≤ CAL_CMD.TYPE.of v) && decide (CAL_CMD.TYPE.of v ≤ 4) && decide (CAL_CMD.SCOPE.of v ≤ 4))
      (·.calGo (CAL_CMD.TYPE.of v) (CAL_CMD.SCOPE.of v) (CAL_CMD.SRC.of v) (decide (CAL_CMD.IGN_STEP.of v = 1))), 0) = _
    rw [hty, hsc, decide_eq_true htype.1, decide_eq_true htype.2, decide_eq_true (by omega)]
    rfl

theorem calGo_of_free (hb : s.calBusy = false) (hr : s.calRefusal ty sc src = 0) :
    s.calGo ty sc src ign = s.calBegin ty sc src ign := by
  unfold State.calGo
  dsimp only
  rw [hb, if_neg Bool.false_ne_true, hr, if_pos rfl]

theorem calGo_of_busy (hb : s.calBusy = true) : s.calGo ty sc src ign = s.put CAL_RUN_STAT.CAUSE 1 := by
  unfold State.calGo
  rw [hb, if_pos rfl]

/-- An operation that may not start (step 1a). -/
def State.runRefused (ty sc r : Nat) (s : State) : State :=
  s.put CAL_RUN_STAT.SCOPE sc |>.put CAL_RUN_STAT.TYPE ty |>.put CAL_RUN_STAT.STATE 8 |>.put CAL_RUN_STAT.CAUSE r
    |>.put CAL_RUN_STAT.FAIL_EV 1 |>.raise 65

theorem calGo_of_refused {k : Nat} (hb : s.calBusy = false) (hr : s.calRefusal ty sc src = k + 1) :
    s.calGo ty sc src ign = s.runRefused ty sc (k + 1) := by
  unfold State.calGo
  dsimp only
  rw [hb, if_neg Bool.false_ne_true, hr, if_neg (by omega)]
  rfl

theorem calRefusal_lt (ty sc src : Nat) : s.calRefusal ty sc src < 16 := by
  unfold State.calRefusal
  repeat' split
  all_goals decide

theorem runRefused_fieldsKept {r : Nat} : FieldsKept [CAL_RUN_STAT.SCOPE, CAL_RUN_STAT.TYPE, CAL_RUN_STAT.CAUSE, CAL_RUN_STAT.STATE,
    CAL_RUN_STAT.FAIL_EV] [65] [] s (s.runRefused ty sc r) := by
  refine fieldsKept_raise (fieldsKept_put_of (fieldsKept_put_of (fieldsKept_put_of (fieldsKept_put_of (fieldsKept_put_of
    (.refl _ _ _ s) ?_) ?_) ?_) ?_) ?_) (by simp)
  all_goals simp

theorem runRefused_shows {r : Nat} (hr : r < 16) (hty : ty < 16) (hsc : sc < 5) :
    ((s.runRefused ty sc r).rd CAL_RUN_STAT.STATE = 8 ∧ (s.runRefused ty sc r).rd CAL_RUN_STAT.CAUSE = r ∧
      (s.runRefused ty sc r).rd CAL_RUN_STAT.TYPE = ty ∧ (s.runRefused ty sc r).rd CAL_RUN_STAT.SCOPE = sc) ∧
    (s.runRefused ty sc r).rd CAL_RUN_STAT.FAIL_EV = 1 := by
  have hquiet : ∀ f ∈ [CAL_RUN_STAT.STATE, CAL_RUN_STAT.CAUSE, CAL_RUN_STAT.TYPE, CAL_RUN_STAT.SCOPE, CAL_RUN_STAT.FAIL_EV],
      isQuiet f.key = true := by decide
  unfold State.runRefused
  refine ⟨⟨?_, ?_, ?_, ?_⟩, ?_⟩
  · rw [rd_raise_quiet (by decide) (quiet_of_isQuiet (hquiet _ (by simp))), rd_put_ne (by decide), rd_put_ne (by decide), rd_put_same]
    rfl
  · rw [rd_raise_quiet (by decide) (quiet_of_isQuiet (hquiet _ (by simp))), rd_put_ne (by decide), rd_put_same]
    exact Nat.mod_eq_of_lt hr
  · rw [rd_raise_quiet (by decide) (quiet_of_isQuiet (hquiet _ (by simp))), rd_put_ne (by decide), rd_put_ne (by decide),
      rd_put_ne (by decide), rd_put_same]
    exact Nat.mod_eq_of_lt hty
  · rw [rd_raise_quiet (by decide) (quiet_of_isQuiet (hquiet _ (by simp))), rd_put_ne (by decide), rd_put_ne (by decide),
      rd_put_ne (by decide), rd_put_ne (by decide), rd_put_same]
    exact Nat.mod_eq_of_lt (hsc.trans (by decide))
  · rw [rd_raise_quiet (by decide) (quiet_of_isQuiet (hquiet _ (by simp))), rd_put_same]
    rfl

/-! ## The kinds of run -/

/-- A measurement has started. -/
def State.measures (ty sc src : Nat) (ign : Bool) (s : State) : State :=
  (s.runNamed ty sc src ign).put CAL_RUN_STAT.STATE 1

theorem measures_shows (hty : ty < 16) (hsc : sc < 5) : (s.measures ty sc src ign).rd CAL_RUN_STAT.STATE = 1 ∧
    (s.measures ty sc src ign).showsRun ty sc :=
  ⟨rd_put_same .., showsRun_congr (runNamed_shows hty hsc) fun f hf => rd_put_ne (shown_apart f hf).1⟩

/-- So with a vote asked for. -/
theorem measures_request_shows (w : Vote) (hty : ty < 16) (hsc : sc < 5) :
    ((s.measures ty sc src ign).request w).rd CAL_RUN_STAT.STATE = 1 ∧ ((s.measures ty sc src ign).request w).showsRun ty sc := by
  obtain ⟨hst, hrun⟩ := measures_shows (s := s) (src := src) (ign := ign) hty hsc
  exact ⟨(request_rd w).trans hst, showsRun_congr hrun fun _ _ => request_rd w⟩

theorem measures_parts : (s.measures ty sc src ign).votes = s.votes ∧ (s.measures ty sc src ign).ch = s.ch ∧
    (s.measures ty sc src ign).flow = s.flow := by simp [State.measures, State.runNamed]

theorem request_parts (w : Vote) : (s.request w).votes = s.votes ++ [w] ∧ (s.request w).ch = s.ch ∧ (s.request w).flow = s.flow :=
  ⟨rfl, rfl, rfl⟩

theorem measures_request_parts (w : Vote) : ((s.measures ty sc src ign).request w).votes = s.votes ++ [w] ∧
    ((s.measures ty sc src ign).request w).ch = s.ch ∧ ((s.measures ty sc src ign).request w).flow = s.flow := by
  obtain ⟨hvotes, hch, hflow⟩ := measures_parts (s := s) (ty := ty) (sc := sc) (src := src) (ign := ign)
  obtain ⟨hvotes', hch', hflow'⟩ := request_parts (s := s.measures ty sc src ign) w
  exact ⟨by rw [hvotes', hvotes], hch'.trans hch, hflow'.trans hflow⟩

theorem measures_ign : (s.measures ty sc src ign).rd CALC.IGN = if ign then 1 else 0 := (rd_put_ne (by decide)).trans runNamed_ign

theorem measures_sameFields {l : List Field} {a : State} (h : SameFields l a s) (hl : ∀ f ∈ runFields, f ∈ l) :
    SameFields l a (s.measures ty sc src ign) := sameFields_put_of (runNamed_sameFields h hl) (hl _ (by simp [runFields]))

theorem ignStep_eq {v : Nat} : (if decide (CAL_CMD.IGN_STEP.of v = 1) then 1 else 0) = CAL_CMD.IGN_STEP.of v := by
  have hlt : CAL_CMD.IGN_STEP.of v < 2 := Nat.mod_lt _ (by decide)
  by_cases h : CAL_CMD.IGN_STEP.of v = 1
  · rw [h]
    rfl
  · rw [decide_eq_false h, if_neg Bool.false_ne_true]
    omega

/-- A run with its set asks for the apply vote. -/
def State.asksApply (ty sc src : Nat) (ign : Bool) (m : List Host.Cell) (s : State) : State :=
  ({ s.runNamed ty sc src ign with runSet := m }.put CAL_RUN_STAT.STATE 3).request .calApply

/-- A LOAD of region r asks for it; the newest is not written again. -/
def State.loads (sc r src : Nat) (ign newest : Bool) (m : List Host.Cell) (s : State) : State :=
  ({ s.runNamed 3 sc src ign with runSet := m }.put CAL_RUN_STAT.STATE 3 |>.flag CALC.NOWRITE newest
    |>.put CALC.REGION r).request .calApply

theorem asksApply_rd {m : List Host.Cell} {f : Field} : (s.asksApply ty sc src ign m).rd f =
    ((s.runNamed ty sc src ign).put CAL_RUN_STAT.STATE 3).rd f := rfl

theorem loads_rd {m : List Host.Cell} {r : Nat} {newest : Bool} {f : Field} : (s.loads sc r src ign newest m).rd f =
    ((((s.runNamed 3 sc src ign).put CAL_RUN_STAT.STATE 3).flag CALC.NOWRITE newest).put CALC.REGION r).rd f := rfl

theorem asksApply_parts {m : List Host.Cell} : (s.asksApply ty sc src ign m).votes = s.votes ++ [.calApply] ∧
    (s.asksApply ty sc src ign m).runSet = m ∧ (s.asksApply ty sc src ign m).ch = s.ch ∧ (s.asksApply ty sc src ign m).flow = s.flow := by
  simp [State.asksApply, State.runNamed, State.request]

theorem loads_parts {m : List Host.Cell} {r : Nat} {newest : Bool} :
    (s.loads sc r src ign newest m).votes = s.votes ++ [.calApply] ∧ (s.loads sc r src ign newest m).runSet = m ∧
    (s.loads sc r src ign newest m).ch = s.ch ∧ (s.loads sc r src ign newest m).flow = s.flow := by
  simp [State.loads, State.runNamed, State.request]

theorem asksApply_shows {m : List Host.Cell} (hty : ty < 16) (hsc : sc < 5) :
    (s.asksApply ty sc src ign m).rd CAL_RUN_STAT.STATE = 3 ∧ (s.asksApply ty sc src ign m).showsRun ty sc :=
  ⟨asksApply_rd.trans (rd_put_same ..), showsRun_congr (runNamed_shows (src := src) (ign := ign) hty hsc) fun f hf =>
    asksApply_rd.trans (rd_put_ne (shown_apart f hf).1)⟩

theorem asksApply_sameFields {m : List Host.Cell} : SameFields runFields s (s.asksApply ty sc src ign m) :=
  (sameFields_put_of (runNamed_sameFields (.refl _ s) fun _ h => h) (by simp [runFields])).trans fun _ _ => asksApply_rd

theorem loads_sameFields {m : List Host.Cell} {r : Nat} {newest : Bool} :
    SameFields (runFields ++ [CALC.REGION]) s (s.loads sc r src ign newest m) :=
  (sameFields_put_of (sameFields_flag_of (sameFields_put_of (runNamed_sameFields (.refl _ s) fun _ h => List.mem_append_left _ h)
    (by simp [runFields])) (by simp [runFields])) (by simp)).trans fun _ _ => loads_rd

theorem loads_shows {m : List Host.Cell} {r : Nat} {newest : Bool} (hsc : sc < 5) :
    (s.loads sc r src ign newest m).rd CAL_RUN_STAT.STATE = 3 ∧ (s.loads sc r src ign newest m).showsRun 3 sc ∧
    (s.loads sc r src ign newest m).rd CALC.NOWRITE = if newest then 1 else 0 := by
  refine ⟨loads_rd.trans ?_, showsRun_congr (runNamed_shows (s := s) (src := src) (ign := ign) (by decide) hsc) fun f hf =>
    loads_rd.trans ?_, loads_rd.trans ?_⟩
  · exact (rd_put_ne (by decide)).trans ((rd_flag_ne (by decide)).trans (rd_put_same ..))
  · obtain ⟨h1, h2, h3⟩ := shown_apart f hf
    exact (rd_put_ne h3).trans ((rd_flag_ne h2).trans (rd_put_ne h1))
  · refine (rd_put_ne (by decide)).trans ?_
    cases newest <;> exact rd_put_same ..

/-! ## Triggers (R338) -/

theorem trigger_of_hour {sc : Nat} (h : s.hourPassed sc = true) : s.trigger sc = s.putBit CALC.WAIT_TRACK sc true := by
  unfold State.trigger
  rw [h, when_true]

theorem exec_ageTrigger {sc : Fin 5} (ho : s.operating = true) (hp : s.rd CAL_POLICY.TRACK_PER ≠ 0)
    (hf : s.on (CAL_SSTAT_S.INFORCE sc) = true)
    (hage : s.rd CAL_POLICY.TRACK_PER * 3600 < s.rd KEY_RTC.SEC - s.rd (CAL_TIME_S.RTC sc)) (hh : s.hourPassed sc = true) :
    exec (.calPolicyAgeTrigger sc) s = .next (s.putBit CALC.WAIT_TRACK sc true) := by
  have hexec : exec (.calPolicyAgeTrigger sc) s = execCalPolicyAgeTrigger sc s := rfl
  rw [hexec]
  unfold execCalPolicyAgeTrigger
  rw [ho, hf, decide_eq_true hp, decide_eq_true hage]
  change Host.Outcome.next (s.trigger sc) = _
  rw [trigger_of_hour hh]

theorem exec_temperatureCheck {n : Fin 4} {temp : Int} (ho : s.operating = true) (hp : s.rd CAL_POLICY.TRACK_DT ≠ 0)
    (hf : s.on (CAL_SSTAT_S.INFORCE n) = true)
    (hdt : 50 * s.rd CAL_POLICY.TRACK_DT < (temp - 50 * s.rdS (CAL_SSTAT_S.TEMP n)).natAbs) (hh : s.hourPassed n = true) :
    exec (.calPolicyTemperatureCheck n temp) s = .next (s.putBit CALC.WAIT_TRACK n true) := by
  have hexec : exec (.calPolicyTemperatureCheck n temp) s = execCalPolicyTemperatureCheck n temp s := rfl
  rw [hexec]
  unfold execCalPolicyTemperatureCheck
  rw [ho, hf, decide_eq_true hp, decide_eq_true hdt]
  change Host.Outcome.next (s.trigger n) = _
  rw [trigger_of_hour hh]

theorem exec_temperatureWithin {n : Fin 4} {temp : Int}
    (hdt : (temp - 50 * s.rdS (CAL_SSTAT_S.TEMP n)).natAbs ≤ 50 * s.rd CAL_POLICY.TRACK_DT) :
    exec (.calPolicyTemperatureCheck n temp) s = .next s := by
  have hexec : exec (.calPolicyTemperatureCheck n temp) s = execCalPolicyTemperatureCheck n temp s := rfl
  rw [hexec]
  unfold execCalPolicyTemperatureCheck
  rw [decide_eq_false (Nat.not_lt.2 hdt), Bool.and_false, when_false]

/-- A TRACK run no longer waits. -/
def State.trackTaken (sc : Nat) (s : State) : State :=
  s.putBit CALC.WAIT_TRACK sc false |>.put (CALC.LAST sc) (s.rd KEY_RTC.SEC + 1)

theorem exec_trackWaiting {sc : Fin 5} (hb : s.calBusy = false) (hfull : s.rdBit CALC.WAIT_FULL sc = false ∨ sc = 4)
    (hw : s.rdBit CALC.WAIT_TRACK sc = true) (hf : s.on (CAL_SSTAT_S.INFORCE sc) = true) (hr : s.calRefusal 2 sc 0 = 0) :
    exec (.calTriggeredRunStart sc) s = .next ((s.trackTaken sc).measures 2 sc 0 false) := by
  have hnone : (decide (sc.val < 4) && s.rdBit CALC.WAIT_FULL sc && decide (s.calRefusal 1 sc 0 = 0)) = false := by
    obtain h | h := hfull
    · rw [h, Bool.and_false, Bool.false_and]
    · rw [h]
      rfl
  have hsome : (s.rdBit CALC.WAIT_TRACK sc && s.on (CAL_SSTAT_S.INFORCE sc) && decide (s.calRefusal 2 sc 0 = 0)) = true := by
    rw [hw, hf, hr]
    rfl
  refine congrArg Host.Outcome.next ?_
  unfold State.triggeredStart
  rw [hb, if_neg Bool.false_ne_true, hnone, if_neg Bool.false_ne_true, hsome, if_pos rfl, calBegin_measures (.inr rfl),
    decide_eq_false (by decide), Bool.false_and, when_false]
  rfl

theorem exec_fullWaiting {n : Fin 4} (hb : s.calBusy = false) (hw : s.rdBit CALC.WAIT_FULL n = true) (hr : s.calRefusal 1 n 0 = 0) :
    exec (.calTriggeredRunStart ⟨n.val, by omega⟩) s =
      .next (((s.putBit CALC.WAIT_FULL n false).measures 1 n 0 false).request (.loopback n)) := by
  refine congrArg Host.Outcome.next ?_
  unfold State.triggeredStart
  have hsome : (decide (n.val < 4) && s.rdBit CALC.WAIT_FULL n && decide (s.calRefusal 1 n 0 = 0)) = true := by
    rw [hw, hr, decide_eq_true n.isLt]
    rfl
  rw [hb, if_neg Bool.false_ne_true, hsome, if_pos rfl, calBegin_measures (.inl rfl), decide_eq_true rfl, decide_eq_true n.isLt]
  rfl

theorem totalOf_channel (n : Fin 4) : totalOf n = 552 := if_pos n.isLt

/-! ## Commands -/

theorem exec_calFull_channel {value : Word} {n : Fin 4} (hopen : s.writeOpen win 2) (hgo : CAL_CMD.GO.of value.toNat = 1)
    (hty : CAL_CMD.TYPE.of value.toNat = 1) (hsc : CAL_CMD.SCOPE.of value.toNat = n.val) (hb : s.calBusy = false)
    (hr : s.calRefusal 1 n (CAL_CMD.SRC.of value.toNat) = 0) :
    exec (.calFull win value 15) s = .next ((s.measures 1 n (CAL_CMD.SRC.of value.toNat)
      (decide (CAL_CMD.IGN_STEP.of value.toNat = 1))).request (.loopback n)) := by
  refine congrArg Host.Outcome.next ((hostWrite_cal hopen hgo hty hsc (by decide) (by omega)).trans ?_)
  rw [calGo_of_free hb hr, calBegin_measures (.inl rfl), decide_eq_true rfl, decide_eq_true n.isLt]
  rfl

theorem exec_calFull_module {value : Word} {n : Fin 5} (hopen : s.writeOpen win 2) (hgo : CAL_CMD.GO.of value.toNat = 1)
    (hty : CAL_CMD.TYPE.of value.toNat = 1) (hsc : CAL_CMD.SCOPE.of value.toNat = n.val) (hb : s.calBusy = false)
    (hr : s.calRefusal 1 n (CAL_CMD.SRC.of value.toNat) = 0) (hn : n = 4) :
    exec (.calFull win value 15) s = .next (s.measures 1 n (CAL_CMD.SRC.of value.toNat)
      (decide (CAL_CMD.IGN_STEP.of value.toNat = 1))) := by
  refine congrArg Host.Outcome.next ((hostWrite_cal hopen hgo hty hsc (by decide) n.isLt).trans ?_)
  rw [calGo_of_free hb hr, calBegin_measures (.inl rfl), decide_eq_true rfl, decide_eq_false (by rw [hn]; decide), Bool.and_false,
    when_false]
  rfl

theorem exec_calTrack {value : Word} {sc : Fin 5} (hopen : s.writeOpen win 2) (hgo : CAL_CMD.GO.of value.toNat = 1)
    (hty : CAL_CMD.TYPE.of value.toNat = 2) (hsc : CAL_CMD.SCOPE.of value.toNat = sc.val) (hb : s.calBusy = false)
    (hr : s.calRefusal 2 sc (CAL_CMD.SRC.of value.toNat) = 0) :
    exec (.calTrack win value 15) s = .next (s.measures 2 sc (CAL_CMD.SRC.of value.toNat)
      (decide (CAL_CMD.IGN_STEP.of value.toNat = 1))) := by
  refine congrArg Host.Outcome.next ((hostWrite_cal hopen hgo hty hsc (by decide) sc.isLt).trans ?_)
  rw [calGo_of_free hb hr, calBegin_measures (.inr rfl), decide_eq_false (by decide), Bool.false_and, when_false]
  rfl

theorem exec_calLoad {value : Word} {sc : Fin 5} {r : Nat} (hopen : s.writeOpen win 2) (hgo : CAL_CMD.GO.of value.toNat = 1)
    (hty : CAL_CMD.TYPE.of value.toNat = 3) (hsc : CAL_CMD.SCOPE.of value.toNat = sc.val) (hb : s.calBusy = false)
    (hr : s.calRefusal 3 sc (CAL_CMD.SRC.of value.toNat) = 0) (hsource : s.loadSource sc (CAL_CMD.SRC.of value.toNat) = some r) :
    exec (.calLoad win value 15) s = .next (s.loads sc r (CAL_CMD.SRC.of value.toNat)
      (decide (CAL_CMD.IGN_STEP.of value.toNat = 1)) (decide (s.newestAB sc = some r))
      (if s.newestAB sc = some r then s.copyOf sc r else s.restamp sc 3 (s.copyOf sc r))) := by
  refine congrArg Host.Outcome.next ((hostWrite_cal hopen hgo hty hsc (by decide) sc.isLt).trans ?_)
  rw [calGo_of_free hb hr, calBegin_load hsource]
  rfl

theorem exec_calRewrite {value : Word} {sc : Fin 5} (hopen : s.writeOpen win 2) (hgo : CAL_CMD.GO.of value.toNat = 1)
    (hty : CAL_CMD.TYPE.of value.toNat = 4) (hsc : CAL_CMD.SCOPE.of value.toNat = sc.val) (hb : s.calBusy = false)
    (hr : s.calRefusal 4 sc (CAL_CMD.SRC.of value.toNat) = 0) :
    exec (.calRewrite win value 15) s = .next (s.asksApply 4 sc (CAL_CMD.SRC.of value.toNat)
      (decide (CAL_CMD.IGN_STEP.of value.toNat = 1)) (s.setOf sc)) := by
  refine congrArg Host.Outcome.next ((hostWrite_cal hopen hgo hty hsc (by decide) sc.isLt).trans ?_)
  rw [calGo_of_free hb hr, calBegin_rewrite]
  rfl

theorem trackTaken_keys : ∀ sc : Fin 5, CALC.WAIT_TRACK.key ≠ (CALC.LAST sc).key ∧
    (∀ g ∈ runFields, g.key ≠ CALC.WAIT_TRACK.key ∧ g.key ≠ CALC.WAIT_FULL.key ∧ g.key ≠ (CALC.LAST sc).key) := by decide

end

/-- Settles O41: a command, a trigger and a waiting run, each with the start that its type and scope ask for. -/
theorem calibrationRunsStart : Obligations.CalibrationRunsStart := by
  unfold Obligations.CalibrationRunsStart
  refine ⟨?full, ?module, ?track, ?load, ?rewrite, ?busy, ?refused, ?age, ?temp, ?within, ?waiting, ?first⟩
  case full =>
    intro s win value n hopen hcmd hb hr
    obtain ⟨hgo, hty, hsc⟩ := hcmd
    obtain ⟨hst, ⟨h1, h2, h3⟩, h4, h5⟩ := measures_request_shows (s := s) (ty := 1) (sc := n) (src := CAL_CMD.SRC.of value.toNat)
      (ign := decide (CAL_CMD.IGN_STEP.of value.toNat = 1)) (.loopback n) (by decide) (by omega)
    obtain ⟨hvotes, hch, hflow⟩ := measures_request_parts (s := s) (ty := 1) (sc := n) (src := CAL_CMD.SRC.of value.toNat)
      (ign := decide (CAL_CMD.IGN_STEP.of value.toNat = 1)) (.loopback n)
    exact ⟨_, exec_calFull_channel hopen hgo hty hsc hb hr, ⟨hst, h1, h2, h3⟩, ⟨h4, h5.trans (totalOf_channel n)⟩,
      (request_rd _).trans (measures_ign.trans ignStep_eq), hvotes, hch, hflow,
      (measures_sameFields (.refl _ s) fun _ h => h).trans fun _ _ => request_rd _⟩
  case module =>
    intro s win value n hopen hcmd hb hr hn
    obtain ⟨hgo, hty, hsc⟩ := hcmd
    obtain ⟨hst, ⟨h1, h2, h3⟩, h4, h5⟩ := measures_shows (s := s) (ty := 1) (sc := n) (src := CAL_CMD.SRC.of value.toNat)
      (ign := decide (CAL_CMD.IGN_STEP.of value.toNat = 1)) (by decide) n.isLt
    obtain ⟨hvotes, hch, hflow⟩ := measures_parts (s := s) (ty := 1) (sc := n) (src := CAL_CMD.SRC.of value.toNat)
      (ign := decide (CAL_CMD.IGN_STEP.of value.toNat = 1))
    exact ⟨_, exec_calFull_module hopen hgo hty hsc hb hr hn, ⟨hst, h1, h2, h3⟩, ⟨h4, h5.trans (by rw [hn]; rfl)⟩,
      measures_ign.trans ignStep_eq, hvotes, hch, hflow, measures_sameFields (.refl _ s) fun _ h => h⟩
  case track =>
    intro s win value sc hopen hcmd hb hr
    obtain ⟨hgo, hty, hsc⟩ := hcmd
    obtain ⟨hst, ⟨h1, h2, h3⟩, h4, h5⟩ := measures_shows (s := s) (ty := 2) (sc := sc) (src := CAL_CMD.SRC.of value.toNat)
      (ign := decide (CAL_CMD.IGN_STEP.of value.toNat = 1)) (by decide) sc.isLt
    obtain ⟨hvotes, hch, hflow⟩ := measures_parts (s := s) (ty := 2) (sc := sc) (src := CAL_CMD.SRC.of value.toNat)
      (ign := decide (CAL_CMD.IGN_STEP.of value.toNat = 1))
    exact ⟨_, exec_calTrack hopen hgo hty hsc hb hr, ⟨hst, h1, h2, h3⟩, ⟨h4, h5⟩, hvotes, hch, hflow, measures_sameFields (.refl _ s) fun _ h => h⟩
  case load =>
    intro s win value sc r hopen hcmd hb hr hsource
    obtain ⟨hgo, hty, hsc⟩ := hcmd
    obtain ⟨hst, ⟨⟨h1, h2, h3⟩, h4, h5⟩, hnowrite⟩ := loads_shows (s := s) (sc := sc) (r := r) (src := CAL_CMD.SRC.of value.toNat)
      (ign := decide (CAL_CMD.IGN_STEP.of value.toNat = 1)) (newest := decide (s.newestAB sc = some r))
      (m := if s.newestAB sc = some r then s.copyOf sc r else s.restamp sc 3 (s.copyOf sc r)) sc.isLt
    obtain ⟨hvotes, hrun, hch, hflow⟩ := loads_parts (s := s) (sc := sc) (r := r) (src := CAL_CMD.SRC.of value.toNat)
      (ign := decide (CAL_CMD.IGN_STEP.of value.toNat = 1)) (newest := decide (s.newestAB sc = some r))
      (m := if s.newestAB sc = some r then s.copyOf sc r else s.restamp sc 3 (s.copyOf sc r))
    refine ⟨_, exec_calLoad hopen hgo hty hsc hb hr hsource, ⟨hst, h1, h2, h3⟩, ⟨h4, h5⟩, hvotes, fun hn => ⟨hrun.trans (if_pos hn), ?_⟩,
      fun hn => ⟨hrun.trans (if_neg hn), ?_⟩, hch, hflow, loads_sameFields⟩
    · rw [hnowrite, decide_eq_true hn]
      rfl
    · rw [hnowrite, decide_eq_false hn]
      rfl
  case rewrite =>
    intro s win value sc hopen hcmd hb hr
    obtain ⟨hgo, hty, hsc⟩ := hcmd
    obtain ⟨hst, ⟨h1, h2, h3⟩, h4, h5⟩ := asksApply_shows (s := s) (ty := 4) (sc := sc) (src := CAL_CMD.SRC.of value.toNat)
      (ign := decide (CAL_CMD.IGN_STEP.of value.toNat = 1)) (m := s.setOf sc) (by decide) sc.isLt
    obtain ⟨hvotes, hrun, hch, hflow⟩ := asksApply_parts (s := s) (ty := 4) (sc := sc) (src := CAL_CMD.SRC.of value.toNat)
      (ign := decide (CAL_CMD.IGN_STEP.of value.toNat = 1)) (m := s.setOf sc)
    exact ⟨_, exec_calRewrite hopen hgo hty hsc hb hr, ⟨hst, h1, h2, h3⟩, ⟨h4, h5⟩, hrun, hvotes, hch, hflow, asksApply_sameFields⟩
  case busy =>
    intro s win value sc hopen hcmd hb
    obtain ⟨hgo, hty, hsc⟩ := hcmd
    exact ⟨_, congrArg Host.Outcome.next ((hostWrite_cal hopen hgo hty hsc (by decide) sc.isLt).trans (calGo_of_busy hb)), rd_put_same ..,
      rfl, rfl, rfl, sameFields_put_of (.refl _ s) (by simp)⟩
  case refused =>
    intro s win value sc k hopen hcmd hb hr
    obtain ⟨hgo, hty, hsc⟩ := hcmd
    have hlt : k + 1 < 16 := hr ▸ calRefusal_lt 2 sc (CAL_CMD.SRC.of value.toNat)
    obtain ⟨hshown, hevent⟩ := runRefused_shows (s := s) (ty := 2) (sc := sc) hlt (by decide) sc.isLt
    exact ⟨_, congrArg Host.Outcome.next ((hostWrite_cal hopen hgo hty hsc (by decide) sc.isLt).trans (calGo_of_refused hb hr)), hshown,
      hevent, raise_pend (by decide), raise_votes .., raise_ch .., raise_flow .., runRefused_fieldsKept⟩
  case age =>
    intro s sc ho hp hf hage hh
    exact ⟨_, exec_ageTrigger ho hp hf hage hh, rdBit_putBit sc.isLt, rfl, rfl, sameFields_put_of (.refl _ s) (by simp)⟩
  case temp =>
    intro s n temp ho hp hf hdt hh
    exact ⟨_, exec_temperatureCheck ho hp hf hdt hh, rdBit_putBit (n.isLt.trans (by decide)), rfl, rfl,
      sameFields_put_of (.refl _ s) (by simp)⟩
  case within =>
    intro s n temp hdt
    exact ⟨s, exec_temperatureWithin hdt, rfl⟩
  case waiting =>
    intro s sc hb hfull hw hf hr
    obtain ⟨hst, ⟨h1, h2, h3⟩, h4, h5⟩ := measures_shows (s := s.trackTaken sc) (ty := 2) (sc := sc) (src := 0) (ign := false)
      (by decide) sc.isLt
    obtain ⟨hlast, hrun⟩ := trackTaken_keys sc
    have hkept := measures_sameFields (ty := 2) (sc := sc) (src := 0) (ign := false) (.refl runFields (s.trackTaken sc)) fun _ h => h
    obtain ⟨hvotes, hch, hflow⟩ := measures_parts (s := s.trackTaken sc) (ty := 2) (sc := sc) (src := 0) (ign := false)
    refine ⟨_, exec_trackWaiting hb hfull hw hf hr, ⟨hst, h1, h2, h3⟩, ⟨h4, h5⟩, ?_, ?_, hvotes, hch, hflow, ?_⟩
    · have hread := (hkept CALC.WAIT_TRACK fun g hg => (hrun g hg).1).trans (rd_put_ne hlast)
      unfold State.rdBit
      rw [hread]
      exact rdBit_putBit (f := CALC.WAIT_TRACK) sc.isLt
    · exact (hkept _ fun g hg => (hrun g hg).2.2).trans (rd_put_same ..)
    · refine measures_sameFields (sameFields_put_of (sameFields_put_of (.refl _ s) ?_) ?_) fun f hf => ?_
      · simp
      · simp
      · exact List.mem_append_left [CALC.WAIT_TRACK, CALC.LAST sc] hf
  case first =>
    intro s n hb hw hr
    obtain ⟨hst, ⟨h1, h2, h3⟩, h4, h5⟩ := measures_request_shows (s := s.putBit CALC.WAIT_FULL n false) (ty := 1) (sc := n)
      (src := 0) (ign := false) (.loopback n) (by decide) (by omega)
    have hkept := measures_sameFields (ty := 1) (sc := n) (src := 0) (ign := false)
      (.refl runFields (s.putBit CALC.WAIT_FULL n false)) fun _ h => h
    obtain ⟨hvotes, hch, hflow⟩ := measures_request_parts (s := s.putBit CALC.WAIT_FULL n false) (ty := 1) (sc := n) (src := 0)
      (ign := false) (.loopback n)
    refine ⟨_, exec_fullWaiting hb hw hr, ⟨hst, h1, h2, h3⟩, ⟨h4, h5.trans (totalOf_channel n)⟩, ?_, hvotes, hch, hflow, ?_⟩
    · have hread := hkept CALC.WAIT_FULL fun g hg => ((trackTaken_keys 0).2 g hg).2.1
      unfold State.rdBit
      rw [request_rd, hread]
      exact rdBit_putBit (f := CALC.WAIT_FULL) n.isLt
    · exact (measures_sameFields (sameFields_put_of (.refl _ s) (by simp)) fun f hf =>
        List.mem_append_left [CALC.WAIT_FULL] hf).trans fun _ _ => request_rd _

end Sys2Proof.Machine
end

section
/-! SUPPORT. Frames by ranges of keys: what an operation leaves unread when the places it writes are known only up to a
range, and the calibration log, failures and releases of runs in those terms. -/

set_option Elab.async false

namespace Sys2Proof.Machine

/-! ## Ranges of keys -/

/-- The key lies in none of the ranges. -/
def outside (r : List (Nat × Nat)) (k : Nat) : Bool := r.all (fun p => k < p.1 || p.2 ≤ k)

/-- The key lies in one of the ranges. -/
def hits (r : List (Nat × Nat)) (k : Nat) : Bool := r.any (fun p => p.1 ≤ k && k < p.2)

/-- The keys of a list of fields. -/
def keysOf (l : List Field) : List (Nat × Nat) := l.map (fun f => (f.key, f.key + 1))

/-- The keys that a notice may write: pending bits, arrivals, counters and their status. -/
def noticeKeys : List (Nat × Nat) := noticeRanges.map (fun p => (8 * p.1, 8 * p.2))

theorem ne_of_outside {r : List (Nat × Nat)} {k j : Nat} (h : outside r k = true) (hj : hits r j = true) : k ≠ j := by
  obtain ⟨p, hp, hin⟩ := List.any_eq_true.1 hj
  have hout := List.all_eq_true.1 h p hp
  simp only [Bool.or_eq_true, Bool.and_eq_true, decide_eq_true_eq] at hin hout
  omega

/-- A key in a gap between the ranges lies outside them. -/
theorem outside_of_gap {r : List (Nat × Nat)} {k lo hi : Nat} (h : ∀ p ∈ r, p.2 ≤ lo ∨ hi ≤ p.1) (hlo : lo ≤ k) (hhi : k < hi) :
    outside r k = true :=
  List.all_eq_true.2 fun p hp => Bool.or_eq_true_iff.2 ((h p hp).symm.imp (fun hp => decide_eq_true (by omega))
    fun hp => decide_eq_true (by omega))

theorem outside_mono {r r' : List (Nat × Nat)} {k : Nat} (hr : ∀ p ∈ r, p ∈ r') (h : outside r' k = true) : outside r k = true :=
  List.all_eq_true.2 fun p hp => List.all_eq_true.1 h p (hr p hp)

theorem hits_keysOf {l : List Field} {f : Field} (h : f ∈ l) : hits (keysOf l) f.key = true :=
  List.any_eq_true.2 ⟨_, List.mem_map_of_mem h, by simp⟩

theorem hits_mono {r r' : List (Nat × Nat)} {k : Nat} (hr : ∀ p ∈ r, p ∈ r') (h : hits r k = true) : hits r' k = true := by
  obtain ⟨p, hp, hin⟩ := List.any_eq_true.1 h
  exact List.any_eq_true.2 ⟨p, hr p hp, hin⟩

theorem isQuiet_of_outside {k : Nat} (h : outside noticeKeys k = true) : isQuiet k = true := by
  unfold outside noticeKeys at h
  rw [List.all_map] at h
  exact h

/-! ## Frames -/

/-- Every field whose key lies outside the ranges reads as before. -/
def Frames (r : List (Nat × Nat)) (s t : State) : Prop := ∀ f : Field, outside r f.key = true → t.rd f = s.rd f

section
variable {r : List (Nat × Nat)} {s t u : State}

theorem Frames.refl (r : List (Nat × Nat)) (s : State) : Frames r s s := fun _ _ => rfl

theorem Frames.trans (h : Frames r s t) (k : Frames r t u) : Frames r s u := fun f hf => (k f hf).trans (h f hf)

theorem Frames.mono {r' : List (Nat × Nat)} (h : Frames r s t) (hr : ∀ p ∈ r, p ∈ r') : Frames r' s t :=
  fun f hf => h f (outside_mono hr hf)

theorem Frames.put {g : Field} {v : Nat} (h : Frames r s t) (hg : hits r g.key = true) : Frames r s (t.put g v) :=
  fun f hf => (rd_put_ne (ne_of_outside hf hg)).trans (h f hf)

theorem Frames.of_rd (h : Frames r s t) (k : ∀ f : Field, u.rd f = t.rd f) : Frames r s u := fun f hf => (k f).trans (h f hf)

theorem Frames.when {b : Bool} {g : State → State} (h : Frames r s t) (k : ∀ u, Frames r s u → Frames r s (g u)) :
    Frames r s (t.when b g) := by
  cases b
  · exact h
  · exact k t h

theorem Frames.each {α : Type} {l : List α} {g : α → State → State} (h : Frames r s t)
    (k : ∀ i ∈ l, ∀ u, Frames r s u → Frames r s (g i u)) : Frames r s (t.each l g) := by
  induction l generalizing t with
  | nil => exact h
  | cons a l ih => exact ih (k a (by simp) t h) fun i hi => k i (by simp [hi])

theorem Frames.raise {N : Nat} (h : Frames r s t) (hN : N < 2048) (hr : ∀ p ∈ noticeKeys, p ∈ r) : Frames r s (t.raise N) :=
  fun f hf => (rd_raise_quiet hN (quiet_of_isQuiet (isQuiet_of_outside (outside_mono hr hf)))).trans (h f hf)

theorem Frames.request {v : Vote} (h : Frames r s t) : Frames r s (t.request v) := h.of_rd fun _ => request_rd v

theorem Frames.withdraw {v : Vote} (h : Frames r s t) : Frames r s (t.withdraw v) := h.of_rd fun _ => withdraw_rd v

/-- A pending bit reads as before under the raise of another source. -/
theorem rd_raise_pend_ne {M N : Nat} (hM : M < 2048) (hN : N < 2048) (hne : M ≠ N) :
    (s.raise N).rd (IRQ_PEND M) = s.rd (IRQ_PEND M) :=
  (fieldsKept_raise (l := []) (src := [N]) (pmc := []) (.refl _ _ _ s) (by simp)).readPend (by simpa using hN) (by simp) hM
    (by simpa using hne) (by simp)

end

/-! ## An ENABLE that a run held -/

/-- Fields of a request for a laser, or of its refusal. -/
def releaseFields (n : Nat) : List Field :=
  [OPT_STAT.REFUSED n, LDS_CH_STATE.CAUSE n, OPT_STAT.ENA_PEND n, OPTC.VOTING n, OPTC.HOLD n]

/-- The keys of those fields in every channel. -/
def releaseKeys : List (Nat × Nat) := (List.range 4).flatMap (fun n => keysOf (releaseFields n))

section
variable {s t a : State} {n : Nat} {r : List (Nat × Nat)}

theorem release_hits (hn : n < 4) {f : Field} (h : f ∈ releaseFields n) : hits releaseKeys f.key = true :=
  hits_mono (fun _ hp => List.mem_flatMap.2 ⟨n, List.mem_range.2 hn, hp⟩) (hits_keysOf h)

theorem Frames.requestEnable (h : Frames r a s) (hn : n < 4) (hr : ∀ p ∈ releaseKeys, p ∈ r) : Frames r a (s.requestEnable n) := by
  have hit : ∀ f ∈ releaseFields n, hits r f.key = true := fun f hf => hits_mono hr (release_hits hn hf)
  unfold State.requestEnable
  split
  · exact (((h.put (hit _ (by simp [releaseFields]))).put (hit _ (by simp [releaseFields]))).put
      (hit _ (by simp [releaseFields]))).request
  · exact ((((h.put (hit _ (by simp [releaseFields]))).put (hit _ (by simp [releaseFields]))).put
      (hit _ (by simp [releaseFields]))).put (hit _ (by simp [releaseFields]))).put (hit _ (by simp [releaseFields]))

theorem Frames.calRelease (h : Frames r a s) (hr : ∀ p ∈ releaseKeys, p ∈ r) : Frames r a s.calRelease := by
  unfold State.calRelease
  dsimp only
  by_cases hn : s.rd CAL_RUN_STAT.SCOPE < 4
  · exact h.when fun u hu => hu.requestEnable hn hr
  · rw [decide_eq_false hn, Bool.false_and, when_false]
    exact h

theorem calRelease_of_no_hold (hsc : s.rd CAL_RUN_STAT.SCOPE = n) (h : s.on (OPTC.HOLD n) = false) : s.calRelease = s := by
  unfold State.calRelease
  dsimp only
  rw [hsc, h, Bool.and_false, when_false]

theorem calRelease_sameArea (x : Area) (hx : x ≠ .votes) : SameArea s s.calRelease x :=
  haveI : Fact ((fun x => x = Area.votes) Area.votes) := ⟨rfl⟩
  (kept_calRelease (A := fun x => x = Area.votes) (.refl s)).same x hx

theorem Frames.withdrawCal (h : Frames r a s) : Frames r a s.withdrawCal := h.withdraw.withdraw

end

/-! ## The calibration log (R339) -/

/-- Keys of the log and of its pointer. -/
def calLogKeys : List (Nat × Nat) := [(8 * 0x5001C, 8 * 0x50020), (8 * 0x8A00000, 8 * 0x8A01000)]

section
variable {s t a : State} {r : List (Nat × Nat)} {event scope qty index : Nat} {value limit : Int}

/-- A word of the log lies in its range. -/
theorem calLogWord_hits {p k : Nat} (hp : p < 256) (hk : k ≤ 12) : hits calLogKeys (tableWord (0x8A00000 + 16 * p + k)).key = true := by
  refine List.any_eq_true.2 ⟨(8 * 0x8A00000, 8 * 0x8A01000), by simp [calLogKeys], Bool.and_eq_true_iff.2 ⟨?_, ?_⟩⟩
  · exact decide_eq_true (by simp only [Field.key, tableWord]; omega)
  · exact decide_eq_true (by simp only [Field.key, tableWord]; omega)

theorem calLogPtr_lt : s.rd CAL_LOG_PTR.PTR < 256 := rd_lt s CAL_LOG_PTR.PTR

theorem Frames.calLog (h : Frames r a s) (hr : ∀ p ∈ calLogKeys, p ∈ r) : Frames r a (s.calLog event scope qty index value limit) := by
  have hword : ∀ k ≤ 12, hits r (tableWord (0x8A00000 + 16 * s.rd CAL_LOG_PTR.PTR + k)).key = true := fun k hk =>
    hits_mono hr (calLogWord_hits calLogPtr_lt hk)
  unfold State.calLog
  refine Frames.put (Frames.when ?_ fun u hu => hu.put (hits_mono hr (by decide))) (hits_mono hr (by decide))
  exact (((h.put (hword 0 (by omega))).put (hword 4 (by omega))).put (hword 8 (by omega))).put (hword 12 (by omega))

/-- The first doubleword of an entry. -/
def calLogWord (sec event scope qty : Nat) : Nat := sec * 2 ^ 32 + event * 2 ^ 24 + scope * 2 ^ 21 + qty * 2 ^ 8

theorem calLog_rd_words {k : Nat} (hk : k ≤ 4) :
    (s.calLog event scope qty index value limit).rd (tableWord (0x8A00000 + 16 * s.rd CAL_LOG_PTR.PTR + k)) =
      (s.put64 (0x8A00000 + 16 * s.rd CAL_LOG_PTR.PTR) (calLogWord (s.rd KEY_RTC.SEC) event scope qty)).rd
        (tableWord (0x8A00000 + 16 * s.rd CAL_LOG_PTR.PTR + k)) := by
  have hfar : ∀ g ∈ [CAL_LOG_PTR.PTR, CAL_LOG_PTR.WRAP],
      (tableWord (0x8A00000 + 16 * s.rd CAL_LOG_PTR.PTR + k)).key ≠ g.key := by
    intro g hg
    have hlt : g.key < 8 * 0x8A00000 := by revert hg; revert g; decide
    simp only [Field.key, tableWord] at hlt ⊢
    omega
  unfold State.calLog
  refine (rd_addWrap_ne (hfar _ (by simp))).trans ((rd_when_same fun u => rd_put_ne (hfar _ (by simp))).trans ?_)
  refine rd_put64_ne ?_ ?_
  · simp only [Field.key, tableWord]; omega
  · simp only [Field.key, tableWord]; omega

theorem calLog_low : (s.calLog event scope qty index value limit).rd (tableWord (0x8A00000 + 16 * s.rd CAL_LOG_PTR.PTR)) =
    (event * 2 ^ 24 + scope * 2 ^ 21 + qty * 2 ^ 8) % 2 ^ 32 := by
  refine (calLog_rd_words (k := 0) (by omega)).trans ?_
  unfold State.put64
  rw [rd_put_ne (by simp only [Field.key, tableWord]; omega)]
  refine (rd_put_same ..).trans ?_
  rw [show (tableWord (0x8A00000 + 16 * s.rd CAL_LOG_PTR.PTR)).width = 32 from rfl, Nat.mod_mod, calLogWord]
  omega

theorem calLog_high (h : event * 2 ^ 24 + scope * 2 ^ 21 + qty * 2 ^ 8 < 2 ^ 32) :
    (s.calLog event scope qty index value limit).rd (tableWord (0x8A00000 + 16 * s.rd CAL_LOG_PTR.PTR + 4)) =
      s.rd KEY_RTC.SEC % 2 ^ 32 := by
  refine (calLog_rd_words (k := 4) (by omega)).trans ?_
  unfold State.put64
  refine (rd_put_same ..).trans ?_
  rw [show (tableWord (0x8A00000 + 16 * s.rd CAL_LOG_PTR.PTR + 4)).width = 32 from rfl, calLogWord]
  omega

theorem calLog_ptr : (s.calLog event scope qty index value limit).rd CAL_LOG_PTR.PTR = (s.rd CAL_LOG_PTR.PTR + 1) % 256 := by
  have hfar : ∀ k : Nat, CAL_LOG_PTR.PTR.key ≠ (tableWord (0x8A00000 + 16 * s.rd CAL_LOG_PTR.PTR + k)).key := by
    intro k
    simp only [Field.key, tableWord, CAL_LOG_PTR.PTR]
    omega
  unfold State.calLog
  refine (rd_put_same ..).trans ?_
  rw [rd_when_same fun u => rd_put_ne (by decide), rd_put64_ne (hfar 8) (hfar 12)]
  exact congrArg (fun x => (x + 1) % 256) (rd_put64_ne (hfar 0) (hfar 4))

theorem calLog_sameArea (x : Area) : SameArea s (s.calLog event scope qty index value limit) x :=
  (kept_calLog (A := fun _ => False) (.refl s)).same x id

end

/-! ## A run that fails (R331) -/

/-- Keys that a failure writes besides its notice. -/
def failKeys : List (Nat × Nat) :=
  keysOf [CAL_RUN_STAT.STATE, CAL_RUN_STAT.CAUSE, CAL_RUN_STAT.FAIL_EV, CALC.LIGHT] ++ calLogKeys ++ releaseKeys

section
variable {s t a : State} {r : List (Nat × Nat)} {cause : Nat}

/-- What follows the notice of a failure. -/
def State.failTail (cause : Nat) (s : State) : State :=
  s.put CALC.LIGHT 0 |>.when (cause ≠ 5) (fun t => t.calLog 8 (t.rd CAL_RUN_STAT.SCOPE) 0 cause 0 0) |>.withdrawCal |>.calRelease

theorem calFail_eq : s.calFail cause = ((((s.put CAL_RUN_STAT.STATE 8).put CAL_RUN_STAT.CAUSE cause).put CAL_RUN_STAT.FAIL_EV 1).raise
    65).failTail cause := rfl

theorem Frames.failTail (h : Frames r a s) (hl : hits r CALC.LIGHT.key = true) (hlog : cause = 5 ∨ ∀ p ∈ calLogKeys, p ∈ r)
    (hr : ∀ p ∈ releaseKeys, p ∈ r) : Frames r a (s.failTail cause) := by
  unfold State.failTail
  refine Frames.calRelease (Frames.withdrawCal ?_) hr
  obtain rfl | hlog := hlog
  · rw [show decide ((5 : Nat) ≠ 5) = false from rfl, when_false]
    exact h.put hl
  · exact (h.put hl).when fun u hu => hu.calLog hlog

theorem Frames.calFail (h : Frames r a s) (hf : ∀ p ∈ failKeys, p ∈ r) (hn : ∀ p ∈ noticeKeys, p ∈ r) : Frames r a (s.calFail cause) := by
  have hit : ∀ f ∈ [CAL_RUN_STAT.STATE, CAL_RUN_STAT.CAUSE, CAL_RUN_STAT.FAIL_EV, CALC.LIGHT], hits r f.key = true :=
    fun f hfl => hits_mono (fun p hp => hf p (by simp [failKeys, hp])) (hits_keysOf hfl)
  rw [calFail_eq]
  exact Frames.failTail (((((h.put (hit _ (by simp))).put (hit _ (by simp))).put (hit _ (by simp))).raise (by decide) hn))
    (hit _ (by simp)) (.inr fun p hp => hf p (by simp [failKeys, hp])) fun p hp => hf p (by simp [failKeys, hp])

/-- What follows the notice leaves the fields outside its own keys. -/
theorem failTail_rd {f : Field} (h : outside ([(CALC.LIGHT.key, CALC.LIGHT.key + 1)] ++ calLogKeys ++ releaseKeys) f.key = true) :
    (s.failTail cause).rd f = s.rd f :=
  Frames.failTail (.refl _ s) (by decide) (.inr (by simp +contextual)) (by simp +contextual) f h

theorem failTail_light : (s.failTail cause).rd CALC.LIGHT = 0 := by
  refine (Frames.calRelease (r := calLogKeys ++ releaseKeys) (Frames.withdrawCal (Frames.when (.refl _ _) fun u hu => hu.calLog
    (by simp +contextual))) (by simp +contextual) CALC.LIGHT (by decide)).trans ?_
  exact rd_put_same ..

theorem calFail_shows (hc : cause < 16) : ((s.calFail cause).rd CAL_RUN_STAT.STATE = 8 ∧ (s.calFail cause).rd CAL_RUN_STAT.CAUSE = cause) ∧
    (s.calFail cause).rd CAL_RUN_STAT.FAIL_EV = 1 ∧ (s.calFail cause).rd (IRQ_PEND 65) = 1 ∧ (s.calFail cause).rd CALC.LIGHT = 0 := by
  have hquiet : ∀ f ∈ [CAL_RUN_STAT.STATE, CAL_RUN_STAT.CAUSE, CAL_RUN_STAT.FAIL_EV], isQuiet f.key = true := by decide
  rw [calFail_eq]
  refine ⟨⟨?_, ?_⟩, ?_, ?_, failTail_light⟩
  · rw [failTail_rd (by decide), rd_raise_quiet (by decide) (quiet_of_isQuiet (hquiet _ (by simp))), rd_put_ne (by decide),
      rd_put_ne (by decide)]
    exact rd_put_same ..
  · rw [failTail_rd (by decide), rd_raise_quiet (by decide) (quiet_of_isQuiet (hquiet _ (by simp))), rd_put_ne (by decide),
      rd_put_same]
    exact Nat.mod_eq_of_lt hc
  · rw [failTail_rd (by decide), rd_raise_quiet (by decide) (quiet_of_isQuiet (hquiet _ (by simp)))]
    exact rd_put_same ..
  · rw [failTail_rd (by decide)]
    exact raise_pend (by decide)

theorem calFail_sameArea (x : Area) (hx : x ≠ .votes) : SameArea s (s.calFail cause) x :=
  haveI : Fact ((fun x => x = Area.votes) Area.votes) := ⟨rfl⟩
  (kept_calFail (A := fun x => x = Area.votes) (.refl s)).same x hx

end

end Sys2Proof.Machine
end

section
/-! A calibration run measures, is checked, stores its set and applies it (R324 to R334, Table 14.5). -/

set_option Elab.async false

namespace Sys2Proof.Machine

/-! ## Plausibility depends on the slices alone -/

section
variable {s t : State} {sc : Nat} {m : List Host.Cell} {old : Option (List Host.Cell)} {x : Miss}

theorem meanMiss_congr {p q : Nat → List Nat} (h : ∀ a < 4, p a = q a) : meanMiss p m old = meanMiss q m old := by
  unfold meanMiss
  rw [show List.range 4 = [0, 1, 2, 3] from rfl]
  simp only [List.findSome?_cons, List.findSome?_nil, h 0 (by decide), h 1 (by decide), h 2 (by decide), h 3 (by decide)]

theorem adcActive_congr {a : Nat} (ha : a < 4) (h : ∀ k < 544, t.slice sc k = s.slice sc k) : t.adcActive sc a = s.adcActive sc a :=
  List.filter_congr fun k hk => by rw [h _ (by have := List.mem_range.1 hk; omega)]

theorem sliceChecks_idx {adc : Bool} {j : Nat} {c : Check} (h : c ∈ sliceChecks adc j) :
    c.idx < 272 ∧ c.qty = (if adc then 1 else 5) + j := by
  obtain ⟨k, hk, rfl⟩ := List.mem_map.1 h
  exact ⟨List.mem_range.1 hk, rfl⟩

theorem checksLow_idx {c : Check} (h : c ∈ checksLow) : c.idx < 272 ∧ c.qty < 32 := by
  simp only [checksLow, List.mem_append] at h
  obtain (((((((h | h) | h) | h) | h) | h) | h) | h) := h <;>
    (obtain ⟨hidx, hqty⟩ := sliceChecks_idx h; exact ⟨hidx, by rw [hqty]; decide⟩)

theorem sliceOfEntry_lt {qty idx : Nat} (h : idx < 272) : sliceOfEntry qty idx < 544 := by
  unfold sliceOfEntry
  split <;> omega

/-- Two states with the same slices judge a set alike. -/
theorem implausible_congr (h : ∀ k < 544, t.slice sc k = s.slice sc k) : t.implausible sc m old = s.implausible sc m old := by
  have hlow : checksLow.filter (fun c => t.slice sc (sliceOfEntry c.qty c.idx) ≠ Slice.fenced &&
      t.slice sc (sliceOfEntry c.qty c.idx) ≠ Slice.failing) =
      checksLow.filter (fun c => s.slice sc (sliceOfEntry c.qty c.idx) ≠ Slice.fenced &&
        s.slice sc (sliceOfEntry c.qty c.idx) ≠ Slice.failing) :=
    List.filter_congr fun c hc => by rw [h _ (sliceOfEntry_lt (checksLow_idx hc).1)]
  have hmean : meanMiss (t.adcActive sc) m old = meanMiss (s.adcActive sc) m old := meanMiss_congr fun a ha => adcActive_congr ha h
  unfold State.implausible
  dsimp only
  rw [hlow, hmean]

theorem firstMiss_qty {l : List Check} (hl : ∀ c ∈ l, c.qty < 32) (h : firstMiss l m old = some x) : x.qty < 32 := by
  obtain ⟨c, hc, hx⟩ := List.exists_of_findSome?_eq_some h
  obtain ⟨lim, -, rfl⟩ := Option.map_eq_some_iff.1 hx
  exact hl c hc

theorem meanMiss_qty {p : Nat → List Nat} (h : meanMiss p m old = some x) : x.qty < 32 := by
  obtain ⟨a, -, hx⟩ := List.exists_of_findSome?_eq_some h
  dsimp only at hx
  split at hx
  · obtain rfl := Option.some.inj hx; exact of_decide_eq_true rfl
  · split at hx
    · cases hx
    · split at hx
      · obtain rfl := Option.some.inj hx; exact of_decide_eq_true rfl
      · cases hx

theorem checksHigh_qty {o : List Host.Cell} : ∀ c ∈ checksHigh sc o, c.qty < 32 := by
  have hlane : ∀ c ∈ laneChecks, c.qty < 32 := by
    intro c hc
    simp only [laneChecks, List.mem_append, List.mem_map] at hc
    obtain ((((((((⟨_, _, rfl⟩ | ⟨_, _, rfl⟩) | ⟨_, _, rfl⟩) | ⟨_, _, rfl⟩) | ⟨_, _, rfl⟩) | ⟨_, _, rfl⟩) | ⟨_, _, rfl⟩) |
      ⟨_, _, rfl⟩) | ⟨_, _, rfl⟩) := hc <;> exact of_decide_eq_true rfl
  have hmon : ∀ k, ∀ c ∈ monitorChecks k, c.qty < 32 := by
    intro k c hc
    simp only [monitorChecks, List.mem_append, List.mem_map] at hc
    obtain ⟨_, _, rfl⟩ | ⟨_, _, rfl⟩ := hc <;> exact of_decide_eq_true rfl
  have hopt : ∀ c ∈ opticalChecks o, c.qty < 32 := by
    intro c hc
    simp only [opticalChecks, List.mem_append, List.mem_map, List.mem_cons, List.not_mem_nil, or_false] at hc
    obtain ⟨_, _, rfl⟩ | rfl | rfl | rfl := hc <;> exact of_decide_eq_true rfl
  have hhead : ∀ b, ∀ c ∈ headerChecks b, c.qty < 32 := by decide
  intro c hc
  unfold checksHigh at hc
  split at hc
  · simp only [List.mem_append] at hc
    obtain ((hc | hc) | hc) | hc := hc
    · exact hlane c hc
    · exact hmon _ c hc
    · exact hopt c hc
    · exact hhead _ c hc
  · obtain hc | hc := List.mem_append.1 hc
    · exact hmon _ c hc
    · exact hhead _ c hc

/-- Quantities have at most five bits (Table 14.3). -/
theorem implausible_qty (h : s.implausible sc m old = some x) : x.qty < 32 := by
  unfold State.implausible at h
  dsimp only at h
  rw [Option.or_eq_some_iff, Option.or_eq_some_iff] at h
  obtain h | ⟨-, h | ⟨-, h⟩⟩ := h
  · refine firstMiss_qty (fun c hc => ?_) h
    split at hc
    · exact (checksLow_idx (List.mem_filter.1 hc).1).2
    · cases hc
  · split at h
    · exact meanMiss_qty h
    · cases h
  · exact firstMiss_qty checksHigh_qty h

end

/-! ## The end of the measurements -/

/-- The measurements have ended: the loopback light is off, and its frequency held. -/
def State.measureDone (ty sc : Nat) (m : List Host.Cell) (s : State) : State :=
  { s with runSet := m }.when (ty = 1 && sc < 4) (fun t =>
    (t.put (OPT_TUNE_STAT.HELD sc) (t.rd (OPT_FREQ.N sc))).put CALC.LIGHT 0) |>.put CAL_RUN_STAT.STATE 2

section
variable {s : State} {x : Measured} {ty : Nat} {sc : Fin 5} {old : Option (List Host.Cell)} {m : List Host.Cell}

theorem measureDone_sameFields : SameFields [CAL_RUN_STAT.STATE, CALC.LIGHT, OPT_TUNE_STAT.HELD sc] s (s.measureDone ty sc m) :=
  sameFields_put_of (sameFields_when (sameFields_of_regs (.refl _ s) rfl) (sameFields_put_of (sameFields_put_of
    (sameFields_of_regs (.refl _ s) rfl) (by simp)) (by simp))) (by simp)

theorem measureDone_parts : (s.measureDone ty sc m).runSet = m ∧ (s.measureDone ty sc m).votes = s.votes ∧
    (s.measureDone ty sc m).ch = s.ch ∧ (s.measureDone ty sc m).flow = s.flow ∧ (s.measureDone ty sc m).sets = s.sets ∧
    (s.measureDone ty sc m).store = s.store := by
  unfold State.measureDone
  cases decide (ty = 1) && decide (sc.val < 4) <;> exact ⟨rfl, rfl, rfl, rfl, rfl, rfl⟩

/-- The fields that the end of the measurements sets lie apart from the slices and from the run's own. -/
theorem measureDone_keys : ∀ sc : Fin 5, ∀ f ∈ [CAL_RUN_STAT.STATE, CALC.LIGHT, OPT_TUNE_STAT.HELD sc],
    (f.key < 8 * 0x10200000 ∨ 8 * 0x20000000 ≤ f.key) ∧ f.key ≠ CAL_RUN_STAT.SCOPE.key ∧ f.key ≠ CAL_LOG_PTR.PTR.key ∧
    f.key ≠ KEY_RTC.SEC.key := by decide

theorem measureDone_slice {k : Nat} (hk : k < 544) : (s.measureDone ty sc m).slice sc k = s.slice sc k := by
  refine measureDone_sameFields (ty := ty) (m := m) _ fun g hg => ?_
  obtain ⟨hfar, -⟩ := measureDone_keys sc g hg
  have hsc := sc.isLt
  simp only [Field.key, CNV_SLC_STAT.STATE] at hfar ⊢
  omega

theorem measured_eq (hst : s.rd CAL_RUN_STAT.STATE = 1) (hsc : s.rd CAL_RUN_STAT.SCOPE = sc.val)
    (hl : s.rd CAL_RUN_STAT.TYPE = 1 → sc.val < 4 → s.on CALC.LIGHT = true)
    (hold : old = if s.on (CAL_SSTAT_S.INFORCE sc) = true ∧ ¬(s.rd CAL_RUN_STAT.TYPE = 1 ∧ s.on CALC.IGN = true) then
      some (s.setOf sc) else none) (hm : m = s.measuredSet (s.rd CAL_RUN_STAT.TYPE) sc x) :
    s.calMeasured x = match s.implausible sc m old with
      | some e => (s.measureDone (s.rd CAL_RUN_STAT.TYPE) sc m).calImplausible sc e
      | none => ((s.measureDone (s.rd CAL_RUN_STAT.TYPE) sc m).put CAL_RUN_STAT.STATE 3).request .calApply := by
  have hrun : (decide (s.rd CAL_RUN_STAT.STATE ≠ 1) || (decide (s.rd CAL_RUN_STAT.TYPE = 1) && decide (sc.val < 4) && !s.on CALC.LIGHT)) =
      false := by
    rw [hst]
    by_cases hty : s.rd CAL_RUN_STAT.TYPE = 1
    · by_cases h4 : sc.val < 4
      · rw [hl hty h4]; simp
      · simp [h4]
    · simp [hty]
  have hold' : old = if s.on (CAL_SSTAT_S.INFORCE sc) && !(s.rd CAL_RUN_STAT.TYPE = 1 && s.on CALC.IGN) then some (s.setOf sc) else none := by
    rw [hold]
    refine if_congr ?_ rfl rfl
    rw [Bool.and_eq_true, Bool.not_eq_true', ← Bool.not_eq_true, Bool.and_eq_true, decide_eq_true_eq]
  rw [← implausible_congr (t := s.measureDone (s.rd CAL_RUN_STAT.TYPE) sc m) fun k hk => measureDone_slice hk, hm, hold']
  unfold State.calMeasured
  dsimp only
  rw [hsc, if_neg (by rw [hrun]; exact Bool.false_ne_true)]
  rfl

theorem exec_measured_passes {data : List Host.Cell} {temp : Int} {vref : Nat} {lppm : Int}
    (hst : s.rd CAL_RUN_STAT.STATE = 1) (hsc : s.rd CAL_RUN_STAT.SCOPE = sc.val)
    (hl : s.rd CAL_RUN_STAT.TYPE = 1 → sc.val < 4 → s.on CALC.LIGHT = true)
    (hold : old = if s.on (CAL_SSTAT_S.INFORCE sc) = true ∧ ¬(s.rd CAL_RUN_STAT.TYPE = 1 ∧ s.on CALC.IGN = true) then
      some (s.setOf sc) else none) (hm : m = s.measuredSet (s.rd CAL_RUN_STAT.TYPE) sc ⟨data, temp, vref, lppm⟩)
    (hok : s.implausible sc m old = none) : exec (.calMeasurementComplete data temp vref lppm) s =
      .next (((s.measureDone (s.rd CAL_RUN_STAT.TYPE) sc m).put CAL_RUN_STAT.STATE 3).request .calApply) :=
  congrArg Host.Outcome.next ((measured_eq hst hsc hl hold hm).trans (by rw [hok]))

theorem exec_measured_fails {data : List Host.Cell} {temp : Int} {vref : Nat} {lppm : Int} {e : Miss}
    (hst : s.rd CAL_RUN_STAT.STATE = 1) (hsc : s.rd CAL_RUN_STAT.SCOPE = sc.val)
    (hl : s.rd CAL_RUN_STAT.TYPE = 1 → sc.val < 4 → s.on CALC.LIGHT = true)
    (hold : old = if s.on (CAL_SSTAT_S.INFORCE sc) = true ∧ ¬(s.rd CAL_RUN_STAT.TYPE = 1 ∧ s.on CALC.IGN = true) then
      some (s.setOf sc) else none) (hm : m = s.measuredSet (s.rd CAL_RUN_STAT.TYPE) sc ⟨data, temp, vref, lppm⟩)
    (hbad : s.implausible sc m old = some e) : exec (.calMeasurementComplete data temp vref lppm) s =
      .next ((s.measureDone (s.rd CAL_RUN_STAT.TYPE) sc m).calImplausible sc e) :=
  congrArg Host.Outcome.next ((measured_eq hst hsc hl hold hm).trans (by rw [hbad]))

theorem held_keys : ∀ sc : Fin 5, (OPT_TUNE_STAT.HELD sc).key ≠ CALC.LIGHT.key ∧ (OPT_TUNE_STAT.HELD sc).key ≠ CAL_RUN_STAT.STATE.key := by
  decide

/-- A FULL run of a channel holds its frequency and ends its light. -/
theorem measureDone_full (h4 : sc.val < 4) : (s.measureDone 1 sc m).rd (OPT_TUNE_STAT.HELD sc) = s.rd (OPT_FREQ.N sc) ∧
    (s.measureDone 1 sc m).rd CALC.LIGHT = 0 := by
  obtain ⟨hl, hs⟩ := held_keys sc
  unfold State.measureDone
  rw [decide_eq_true h4, show (decide ((1 : Nat) = 1) && true) = true from rfl, when_true]
  refine ⟨?_, ?_⟩
  · rw [rd_put_ne hs, rd_put_ne hl, rd_put_same]
    exact Nat.mod_eq_of_lt (rd_lt s (OPT_FREQ.N sc))
  · rw [rd_put_ne (by decide)]
    exact rd_put_same ..

/-- What an implausible set leaves in the run's registers and in the log. -/
theorem calImplausible_shows {e : Miss} (hq : e.qty < 32) : ((s.calImplausible sc e).rd CAL_RUN_STAT.STATE = 8 ∧
    (s.calImplausible sc e).rd CAL_RUN_STAT.CAUSE = 5) ∧ ((s.calImplausible sc e).rd CAL_FAIL.QTY = e.qty % 256 ∧
    (s.calImplausible sc e).rd CAL_FAIL.INDEX = e.idx % 65536) ∧
    ((s.calImplausible sc e).rd (tableWord (0x8A00000 + 16 * s.rd CAL_LOG_PTR.PTR)) =
        (2 * 2 ^ 24 + sc.val * 2 ^ 21 + e.qty * 2 ^ 8) % 2 ^ 32 ∧
      (s.calImplausible sc e).rd (tableWord (0x8A00000 + 16 * s.rd CAL_LOG_PTR.PTR + 4)) = s.rd KEY_RTC.SEC % 2 ^ 32) ∧
    (s.calImplausible sc e).rd CAL_LOG_PTR.PTR = (s.rd CAL_LOG_PTR.PTR + 1) % 256 ∧
    (s.calImplausible sc e).rd CAL_RUN_STAT.FAIL_EV = 1 ∧ (s.calImplausible sc e).rd (IRQ_PEND 65) = 1 := by
  have hsc := sc.isLt
  have hptr : ((s.put CAL_FAIL.QTY e.qty).put CAL_FAIL.INDEX e.idx).rd CAL_LOG_PTR.PTR = s.rd CAL_LOG_PTR.PTR := by
    rw [rd_put_ne (by decide), rd_put_ne (by decide)]
  have hsec : ((s.put CAL_FAIL.QTY e.qty).put CAL_FAIL.INDEX e.idx).rd KEY_RTC.SEC = s.rd KEY_RTC.SEC := by
    rw [rd_put_ne (by decide), rd_put_ne (by decide)]
  have hlow := calLog_low (s := (s.put CAL_FAIL.QTY e.qty).put CAL_FAIL.INDEX e.idx) (event := 2) (scope := sc) (qty := e.qty)
    (index := e.idx) (value := e.value) (limit := e.limit)
  have hhigh := calLog_high (s := (s.put CAL_FAIL.QTY e.qty).put CAL_FAIL.INDEX e.idx) (event := 2) (scope := sc) (qty := e.qty)
    (index := e.idx) (value := e.value) (limit := e.limit) (by omega)
  have hnew := calLog_ptr (s := (s.put CAL_FAIL.QTY e.qty).put CAL_FAIL.INDEX e.idx) (event := 2) (scope := sc) (qty := e.qty)
    (index := e.idx) (value := e.value) (limit := e.limit)
  rw [hptr] at hlow hhigh hnew
  rw [hsec] at hhigh
  have hkept : ∀ {u : State} {f : Field}, outside (keysOf [CAL_RUN_STAT.STATE, CAL_RUN_STAT.CAUSE, CAL_RUN_STAT.FAIL_EV, CALC.LIGHT] ++
      releaseKeys ++ noticeKeys) f.key = true → (u.calFail 5).rd f = u.rd f := fun hf => by
    rw [calFail_eq]
    exact Frames.failTail (((((Frames.refl _ _).put (by decide)).put (by decide)).put (by decide)).raise (by decide)
      (by simp +contextual)) (by decide) (.inl rfl) (by simp +contextual) _ hf
  have hword : ∀ k ≤ 4, outside (keysOf [CAL_RUN_STAT.STATE, CAL_RUN_STAT.CAUSE, CAL_RUN_STAT.FAIL_EV, CALC.LIGHT] ++
      releaseKeys ++ noticeKeys) (tableWord (0x8A00000 + 16 * s.rd CAL_LOG_PTR.PTR + k)).key = true := by
    have hlt := calLogPtr_lt (s := s)
    intro k hk
    refine outside_of_gap (lo := 8 * 0x8A00000) (hi := 8 * 0x8B00000) (by decide) ?_ ?_
    · simp only [Field.key, tableWord]; omega
    · simp only [Field.key, tableWord]; omega
  obtain ⟨hst, hev, hpend, -⟩ := calFail_shows (s := (((s.put CAL_FAIL.QTY e.qty).put CAL_FAIL.INDEX e.idx).calLog 2 sc e.qty e.idx
    e.value e.limit)) (cause := 5) (by decide)
  refine ⟨hst, ⟨?_, ?_⟩, ⟨(hkept (hword 0 (by omega))).trans hlow, (hkept (hword 4 (by omega))).trans hhigh⟩,
    (hkept (by decide)).trans hnew, hev, hpend⟩
  · refine (hkept (by decide)).trans ((Frames.calLog (r := calLogKeys) (.refl _ _) (fun _ h => h) _ (by decide)).trans ?_)
    rw [rd_put_ne (by decide)]
    exact rd_put_same ..
  · refine (hkept (by decide)).trans ((Frames.calLog (r := calLogKeys) (.refl _ _) (fun _ h => h) _ (by decide)).trans ?_)
    exact rd_put_same ..

theorem calImplausible_sameArea {e : Miss} (x : Area) (hx : x ≠ .votes) : SameArea s (s.calImplausible sc e) x :=
  haveI : Fact ((fun x => x = Area.votes) Area.votes) := ⟨rfl⟩
  (kept_calImplausible (A := fun x => x = Area.votes) (.refl s)).same x hx

theorem exec_monitorTimeout (h : s.rd CAL_RUN_STAT.STATE = 1 ∨ s.rd CAL_RUN_STAT.STATE = 2) :
    exec .calMonitorTimeout s = .next (s.calFail 6) := by
  have hb : (decide (s.rd CAL_RUN_STAT.STATE = 1) || decide (s.rd CAL_RUN_STAT.STATE = 2)) = true := by simpa using h
  exact congrArg Host.Outcome.next (show s.when _ _ = _ by rw [hb, when_true])

end

end Sys2Proof.Machine
end

section
/-! The store writes of a calibration run, and the elements of its apply (R324, R331 to R334). -/

set_option Elab.async false

namespace Sys2Proof.Machine

/-! ## A region that has been written -/

/-- The copy of a run's set with its check word. -/
def State.checkedSet (s : State) : List Host.Cell := memPut 0x1FFC 4 (crc32c (memBytes s.runSet 0 0x1FFC)) s.runSet

/-- One more write, and what the store then holds. -/
def State.wroteStore (m : List Host.Cell) (s : State) : State := { s.bump CAL_STORE.WRITES with store := m }

/-- The copy stands in region r of the scope's store, valid. -/
def State.copyWritten (sc r : Nat) (s : State) : State :=
  (s.wroteStore (memCopy s.checkedSet 0 (regionBase sc r) 0x2000 s.store)).put (validField sc r) 1
    |>.put (CAL_SSTAT_S.UNSTORED sc) 0

/-- A REWRITE is complete. -/
def State.rewritten (sc r : Nat) (s : State) : State :=
  s.put CAL_RUN_STAT.STATE 7 |>.put CAL_RUN_STAT.DONE_EV 1 |>.put (CAL_SSTAT_S.SRC sc) r |>.raise 64

section
variable {s : State} {sc : Fin 5} {r v : Nat}

theorem region_lt : s.rd CALC.REGION < 4 := rd_lt s CALC.REGION

theorem wroteStore_rd {m : List Host.Cell} {f : Field} : (s.wroteStore m).rd f = (s.bump CAL_STORE.WRITES).rd f := rfl

theorem wroteStore_parts {m : List Host.Cell} : (s.wroteStore m).store = m ∧ (s.wroteStore m).runSet = s.runSet ∧
    (s.wroteStore m).sets = s.sets ∧ (s.wroteStore m).ch = s.ch ∧ (s.wroteStore m).flow = s.flow := ⟨rfl, rfl, rfl, rfl, rfl⟩

theorem copyWritten_sameFields : SameFields [CAL_STORE.WRITES, validField sc r, CAL_SSTAT_S.UNSTORED sc] s (s.copyWritten sc r) :=
  sameFields_put_of (sameFields_put_of (fun f hf => wroteStore_rd.trans (rd_bump_ne (hf _ (by simp)).symm)) (by simp)) (by simp)

/-- The fields of a written copy lie apart from those that a run reads. -/
theorem copy_keys : ∀ sc : Fin 5, ∀ r < 4, ∀ f ∈ [CAL_STORE.WRITES, validField sc r, CAL_SSTAT_S.UNSTORED sc],
    ∀ g ∈ [CAL_RUN_STAT.STATE, CAL_RUN_STAT.SCOPE, CAL_RUN_STAT.TYPE, CALC.PASS, CALC.REGION, CAL_STORE.STATE, CAL_STORE.ERR_EV,
      LDS_CH_STATE.STATE sc, LDS_RSZ_STAT.STATE sc], f.key ≠ g.key := by decide

theorem copyWritten_rd (hr : r < 4) {f : Field} (hf : f ∈ [CAL_RUN_STAT.STATE, CAL_RUN_STAT.SCOPE, CAL_RUN_STAT.TYPE, CALC.PASS,
    CALC.REGION, CAL_STORE.STATE, CAL_STORE.ERR_EV, LDS_CH_STATE.STATE sc, LDS_RSZ_STAT.STATE sc]) : (s.copyWritten sc r).rd f = s.rd f :=
  copyWritten_sameFields f fun g hg => copy_keys sc r hr g hg f hf

theorem valid_keys : ∀ sc : Fin 5, ∀ r < 4, (validField sc r).key ≠ (CAL_SSTAT_S.UNSTORED sc).key ∧
    (validField sc r).key ≠ CAL_STORE.WRITES.key ∧ (CAL_SSTAT_S.UNSTORED sc).key ≠ CAL_STORE.WRITES.key ∧ (validField sc r).width = 1 := by
  decide

theorem copyWritten_shows (hr : r < 4) : (s.copyWritten sc r).rd (validField sc r) = 1 ∧
    (s.copyWritten sc r).rd (CAL_SSTAT_S.UNSTORED sc) = 0 ∧ (s.copyWritten sc r).rd CAL_STORE.WRITES = s.oneMore CAL_STORE.WRITES := by
  obtain ⟨hvu, hvw, huw, hwidth⟩ := valid_keys sc r hr
  unfold State.copyWritten
  refine ⟨?_, ?_, ?_⟩
  · rw [rd_put_ne hvu, rd_put_same, hwidth]
    rfl
  · exact rd_put_same ..
  · rw [rd_put_ne huw.symm, rd_put_ne hvw.symm, wroteStore_rd]
    exact rd_bump_same _

theorem copyWritten_parts : (s.copyWritten sc r).store = memCopy (memPut 0x1FFC 4 (crc32c (memBytes s.runSet 0 0x1FFC)) s.runSet) 0
      (regionBase sc r) 0x2000 s.store ∧ (s.copyWritten sc r).runSet = s.runSet ∧ (s.copyWritten sc r).sets = s.sets ∧
    (s.copyWritten sc r).ch = s.ch ∧ (s.copyWritten sc r).flow = s.flow := by
  unfold State.copyWritten
  rw [put_store, put_store, put_runSet, put_runSet, put_sets, put_sets, put_ch, put_ch, put_flow, put_flow]
  refine ⟨?_, wroteStore_parts.2⟩
  rw [wroteStore_parts.1, State.checkedSet]

theorem storeState_fieldsKept : FieldsKept [CAL_STORE.STATE, CAL_STORE.ERR_EV] [66] [] s (s.storeState v) :=
  fieldsKept_when (fieldsKept_put_of (.refl _ _ _ s) (by simp))
    (fieldsKept_raise (fieldsKept_put_of (fieldsKept_put_of (.refl _ _ _ s) (by simp)) (by simp)) (by simp))

theorem storeState_sameArea (x : Area) : SameArea s (s.storeState v) x :=
  (kept_storeState (A := fun _ => False) (.refl s)).same x id

theorem storeState_rd {f : Field} (hf : isQuiet f.key = true ∧ ∀ g ∈ [CAL_STORE.STATE, CAL_STORE.ERR_EV], g.key ≠ f.key) :
    (s.storeState v).rd f = s.rd f := storeState_fieldsKept.read (by simp) (by simp) hf

theorem storeState_state (hv : v < 4) : (s.storeState v).rd CAL_STORE.STATE = v := by
  have hput : (s.put CAL_STORE.STATE v).rd CAL_STORE.STATE = v := (rd_put_same ..).trans (Nat.mod_eq_of_lt hv)
  refine (rd_when_same fun u => ?_).trans hput
  rw [rd_raise_quiet (by decide) (quiet_of_isQuiet (by decide)), rd_put_ne (by decide)]

theorem storeState_event (h : s.rd CAL_STORE.STATE ≠ v) (hv : 2 ≤ v) : (s.storeState v).rd CAL_STORE.ERR_EV = 1 ∧
    (s.storeState v).rd (IRQ_PEND 66) = 1 := by
  unfold State.storeState
  rw [decide_eq_true h, decide_eq_true hv, Bool.and_true, when_true]
  refine ⟨?_, raise_pend (by decide)⟩
  rw [rd_raise_quiet (by decide) (quiet_of_isQuiet (by decide))]
  exact rd_put_same ..

theorem storeThin_congr {t : State} (h : ∀ sc : Fin 5, ∀ f ∈ [CAL_SSTAT_S.VALID_A sc, CAL_SSTAT_S.VALID_B sc], t.rd f = s.rd f) :
    t.storeThin = s.storeThin := by
  have hany : ∀ sc ∈ List.range 5, (!(t.on (CAL_SSTAT_S.VALID_A sc) && t.on (CAL_SSTAT_S.VALID_B sc))) =
      !(s.on (CAL_SSTAT_S.VALID_A sc) && s.on (CAL_SSTAT_S.VALID_B sc)) := by
    intro sc hsc
    have hf := h ⟨sc, List.mem_range.1 hsc⟩
    rw [on_congr (hf _ (by simp)), on_congr (hf _ (by simp))]
  unfold State.storeThin
  rw [Bool.eq_iff_iff, List.any_eq_true, List.any_eq_true]
  exact ⟨fun ⟨x, hx, hp⟩ => ⟨x, hx, (hany x hx) ▸ hp⟩, fun ⟨x, hx, hp⟩ => ⟨x, hx, (hany x hx).symm ▸ hp⟩⟩

/-! ## The apply starts where its boundaries are open -/

/-- The first element is next. -/
def State.applyFrom (sc : Nat) (s : State) : State :=
  s.put CAL_RUN_STAT.STATE 5 |>.put CAL_PROG.NEXT 0 |>.put (CAL_SSTAT_S.PARTIAL sc) 1

theorem applyFrom_sameFields : SameFields [CAL_RUN_STAT.STATE, CAL_PROG.NEXT, CAL_SSTAT_S.PARTIAL sc] s (s.applyFrom sc) :=
  sameFields_put_of (sameFields_put_of (sameFields_put_of (.refl _ s) (by simp)) (by simp)) (by simp)

theorem apply_channel_keys : ∀ sc : Fin 5, ∀ f ∈ [CAL_RUN_STAT.STATE, CAL_PROG.NEXT, CAL_SSTAT_S.PARTIAL sc],
    f.key ≠ (LDS_CH_STATE.STATE sc).key ∧ f.key ≠ (LDS_RSZ_STAT.STATE sc).key := by decide

theorem calApplyStart_of_open (hsc : s.rd CAL_RUN_STAT.SCOPE = sc.val) (h : sc.val < 4 → s.chSt sc ≠ ChSt.fenced ∧ s.boundaryOpen sc = true) :
    s.calApplyStart = s.applyFrom sc := by
  have hst : (s.applyFrom sc).chSt sc = s.chSt sc := applyFrom_sameFields _ fun g hg => (apply_channel_keys sc g hg).1
  have hrsz : (s.applyFrom sc).boundaryOpen sc = s.boundaryOpen sc := by
    unfold State.boundaryOpen
    rw [applyFrom_sameFields _ fun g hg => (apply_channel_keys sc g hg).2]
  unfold State.calApplyStart
  rw [hsc]
  change (if (decide (sc.val < 4) && decide ((s.applyFrom sc).chSt sc = ChSt.fenced)) = true then _ else
    if (decide (sc.val < 4) && !(s.applyFrom sc).boundaryOpen sc) = true then _ else s.applyFrom sc) = s.applyFrom sc
  rw [hst, hrsz]
  by_cases h4 : sc.val < 4
  · obtain ⟨hf, hb⟩ := h h4
    rw [decide_eq_false hf, hb, Bool.and_false, if_neg Bool.false_ne_true, Bool.not_true, Bool.and_false, if_neg Bool.false_ne_true]
  · rw [decide_eq_false h4, Bool.false_and, if_neg Bool.false_ne_true, Bool.false_and, if_neg Bool.false_ne_true]

theorem partial_keys : ∀ sc : Fin 5, (CAL_SSTAT_S.PARTIAL sc).key ≠ CAL_RUN_STAT.STATE.key ∧ (CAL_SSTAT_S.PARTIAL sc).key ≠ CAL_PROG.NEXT.key := by
  decide

theorem applyFrom_shows : (s.applyFrom sc).rd CAL_RUN_STAT.STATE = 5 ∧ (s.applyFrom sc).rd (CAL_SSTAT_S.PARTIAL sc) = 1 ∧
    (s.applyFrom sc).rd CAL_PROG.NEXT = 0 := by
  obtain ⟨hps, hpn⟩ := partial_keys sc
  unfold State.applyFrom
  refine ⟨?_, rd_put_same .., ?_⟩
  · rw [rd_put_ne hps.symm, rd_put_ne (by decide)]
    exact rd_put_same ..
  · rw [rd_put_ne hpn.symm]
    exact rd_put_same ..

/-! ## What the end of a store write does -/

theorem storeWritten_first (hst : s.rd CAL_RUN_STAT.STATE = 4) (hsc : s.rd CAL_RUN_STAT.SCOPE = sc.val)
    (hty : s.rd CAL_RUN_STAT.TYPE = 4) (hp : s.on CALC.PASS = false) (hr : s.rd CALC.REGION = r) :
    s.storeWritten true = ((s.copyWritten sc r).put CALC.PASS 1).regionWrite (3 - r) := by
  have hpass : (s.copyWritten sc r).on CALC.PASS = false :=
    (on_congr (copyWritten_rd (hr ▸ region_lt) (by simp))).trans hp
  unfold State.storeWritten
  dsimp only
  rw [hsc, hr, hst, if_neg (by decide), if_pos rfl, hty]
  change (if (decide ((4 : Nat) = 4) && !(s.copyWritten sc r).on CALC.PASS) = true then _ else _) = _
  rw [hpass, if_pos (by decide)]
  rfl

theorem storeWritten_second (hst : s.rd CAL_RUN_STAT.STATE = 4) (hsc : s.rd CAL_RUN_STAT.SCOPE = sc.val)
    (hty : s.rd CAL_RUN_STAT.TYPE = 4) (hp : s.on CALC.PASS = true) (hr : s.rd CALC.REGION = r) :
    s.storeWritten true = (((s.copyWritten sc r).storeState (if (s.copyWritten sc r).storeThin then 2 else 0)).rewritten sc r).calRelease := by
  have hpass : (s.copyWritten sc r).on CALC.PASS = true :=
    (on_congr (copyWritten_rd (hr ▸ region_lt) (by simp))).trans hp
  unfold State.storeWritten
  dsimp only
  rw [hsc, hr, hst, if_neg (by decide), if_pos rfl, hty]
  change (if (decide ((4 : Nat) = 4) && !(s.copyWritten sc r).on CALC.PASS) = true then _ else
    if (4 : Nat) = 4 then ((State.when (decide ((4 : Nat) = 4) || decide ((s.copyWritten sc r).rd CAL_STORE.STATE ≠ 3))
      (fun t => t.storeState (if t.storeThin then 2 else 0)) (s.copyWritten sc r)).rewritten sc r).calRelease else _) = _
  rw [hpass, if_neg (by decide), if_pos rfl, decide_eq_true (rfl : (4 : Nat) = 4), Bool.true_or, when_true]

/-- The store settles: it is not thin, or degraded. -/
def State.storeSettled (s : State) : State :=
  s.when (s.rd CAL_STORE.STATE ≠ 3) (fun t => t.storeState (if t.storeThin then 2 else 0))

theorem storeWritten_run (hst : s.rd CAL_RUN_STAT.STATE = 4) (hsc : s.rd CAL_RUN_STAT.SCOPE = sc.val)
    (hty : s.rd CAL_RUN_STAT.TYPE ≠ 4) (hr : s.rd CALC.REGION = r) :
    s.storeWritten true = (s.copyWritten sc r).storeSettled.calApplyStart := by
  unfold State.storeWritten
  dsimp only
  rw [hsc, hr, hst, if_neg (by decide), if_pos rfl, decide_eq_false hty, Bool.false_and, if_neg Bool.false_ne_true,
    if_neg hty, Bool.false_or]
  rfl

/-- The write failed. -/
def State.writeFailed (sc r : Nat) (s : State) : State := ((s.bump CAL_STORE.WRITES).calLog 4 sc 0 r 0 0).storeState 3

theorem storeFailed_rewrite (hst : s.rd CAL_RUN_STAT.STATE = 4) (hsc : s.rd CAL_RUN_STAT.SCOPE = sc.val)
    (hty : s.rd CAL_RUN_STAT.TYPE = 4) (hr : s.rd CALC.REGION = r) : s.storeWritten false = (s.writeFailed sc r).calFail 0xA := by
  unfold State.storeWritten
  dsimp only
  rw [hsc, hr, hst, if_neg (by decide), if_neg Bool.false_ne_true, if_pos hty]
  rfl

theorem storeFailed_run (hst : s.rd CAL_RUN_STAT.STATE = 4) (hsc : s.rd CAL_RUN_STAT.SCOPE = sc.val)
    (hty : s.rd CAL_RUN_STAT.TYPE ≠ 4) (hr : s.rd CALC.REGION = r) :
    s.storeWritten false = ((s.writeFailed sc r).put (CAL_SSTAT_S.UNSTORED sc) 1).calApplyStart := by
  unfold State.storeWritten
  dsimp only
  rw [hsc, hr, hst, if_neg (by decide), if_neg Bool.false_ne_true, if_neg hty]
  rfl

end

end Sys2Proof.Machine
end

section
/-! The elements of a calibration's apply, and its end (R331, R332, Table 14.6). -/

set_option Elab.async false

namespace Sys2Proof.Machine

/-! ## A slice takes a record's corrections -/

section
variable {s a : State} {n k : Nat} {v : List Int} {r : List (Nat × Nat)}

/-- Keys of the slices' states, corrections and references. -/
def sliceKeys : List (Nat × Nat) := [(8 * 0x10200000, 8 * 0x10230000), (8 * 0x20B00000, 8 * 0x20C00000)]

theorem slice_hits (hn : n < 4) (hk : k < 544) : hits sliceKeys (CNV_SLC_STAT.DRIFT n k).key = true ∧
    ∀ j < 4, hits sliceKeys (corField n k j).key = true ∧ hits sliceKeys (CNVC.REF n k j).key = true := by
  have hlow : ∀ {x : Nat}, 8 * 0x10200000 ≤ x ∧ x < 8 * 0x10230000 → hits sliceKeys x = true := fun hx =>
    List.any_eq_true.2 ⟨(8 * 0x10200000, 8 * 0x10230000), by simp [sliceKeys], by simpa using hx⟩
  have hhigh : ∀ {x : Nat}, 8 * 0x20B00000 ≤ x ∧ x < 8 * 0x20C00000 → hits sliceKeys x = true := fun hx =>
    List.any_eq_true.2 ⟨(8 * 0x20B00000, 8 * 0x20C00000), by simp [sliceKeys], by simpa using hx⟩
  refine ⟨hlow ?_, fun j hj => ⟨hlow ?_, hhigh ?_⟩⟩
  · simp only [Field.key, CNV_SLC_STAT.DRIFT]; omega
  · match j with
    | 0 | 1 | 2 => simp only [Field.key, corField, CNV_SLC_COR0.OFFSET, CNV_SLC_COR0.GAIN, CNV_SLC_COR0.SKEW]; omega
    | i + 3 => simp only [Field.key, corField, CNV_SLC_COR1.BW]; omega
  · simp only [Field.key, CNVC.REF, cell]; omega

theorem Frames.takeCor (h : Frames r a s) (hn : n < 4) (hk : k < 544) (hr : ∀ p ∈ sliceKeys, p ∈ r) : Frames r a (s.takeCor n k v) := by
  obtain ⟨hdrift, hcor⟩ := slice_hits hn hk
  refine Frames.put (Frames.each h fun j hj u hu => ?_) (hits_mono hr hdrift)
  have hj4 : j < 4 := by revert hj; revert j; decide
  exact (hu.put (hits_mono hr (hcor j hj4).1)).put (hits_mono hr (hcor j hj4).2)

theorem takeCor_sameArea (x : Area) : SameArea s (s.takeCor n k v) x := (kept_takeCor (A := fun _ => False) (.refl s)).same x id

theorem corLimit_fits {adc : Bool} {j : Nat} {x : Int} : 0 < (corField n k j).width ∧
    -(2 ^ ((corField n k j).width - 1)) ≤ corLimit adc j x ∧ corLimit adc j x < 2 ^ ((corField n k j).width - 1) := by
  unfold corLimit
  match j with
  | 0 => cases adc <;> simp only [corField, CNV_SLC_COR0.OFFSET, corRange] <;> refine ⟨by decide, ?_, ?_⟩ <;> norm_num
  | 1 => simp only [corField, CNV_SLC_COR0.GAIN, corRange]; refine ⟨by decide, ?_, ?_⟩ <;> norm_num
  | 2 => simp only [corField, CNV_SLC_COR0.SKEW, corRange]; refine ⟨by decide, ?_, ?_⟩ <;> norm_num
  | i + 3 => simp only [corField, CNV_SLC_COR1.BW, corRange]; refine ⟨by decide, ?_, ?_⟩ <;> norm_num

/-- A slice's four corrections and their references lie apart. -/
theorem cor_apart {i j : Nat} (hi : i < 4) (hj : j < 4) (h : i ≠ j) :
    (corField n k i).key ≠ (corField n k j).key := by
  match i, j with
  | 0, 0 | 1, 1 | 2, 2 | 3, 3 => exact absurd rfl h
  | 0, 1 | 0, 2 | 0, 3 | 1, 0 | 1, 2 | 1, 3 | 2, 0 | 2, 1 | 2, 3 | 3, 0 | 3, 1 | 3, 2 =>
    simp only [Field.key, corField, CNV_SLC_COR0.OFFSET, CNV_SLC_COR0.GAIN, CNV_SLC_COR0.SKEW, CNV_SLC_COR1.BW]
    omega
  | i + 4, _ => omega
  | _, j + 4 => omega

theorem cor_ref_apart (hn : n < 4) (hk : k < 544) {i j : Nat} (hi : i < 4) :
    (corField n k i).key ≠ (CNVC.REF n k j).key ∧ (corField n k i).key ≠ (CNV_SLC_STAT.DRIFT n k).key := by
  have hcor : 8 * 0x10210000 ≤ (corField n k i).key ∧ (corField n k i).key < 8 * 0x10230000 := by
    match i with
    | 0 | 1 | 2 => simp only [Field.key, corField, CNV_SLC_COR0.OFFSET, CNV_SLC_COR0.GAIN, CNV_SLC_COR0.SKEW]; omega
    | i + 3 => simp only [Field.key, corField, CNV_SLC_COR1.BW]; omega
  simp only [Field.key, CNVC.REF, cell, CNV_SLC_STAT.DRIFT] at hcor ⊢
  omega

/-- One correction is taken. -/
def State.takeOne (n k : Nat) (v : List Int) (j : Nat) (s : State) : State :=
  (s.putS (corField n k j) (corLimit (isAdc k) j (v.getD j 0))).putS (CNVC.REF n k j) (corLimit (isAdc k) j (v.getD j 0))

theorem takeOne_cor (hn : n < 4) (hk : k < 544) {j : Nat} (hj : j < 4) :
    (s.takeOne n k v j).cor n k j = corLimit (isAdc k) j (v.getD j 0) := by
  obtain ⟨hw, hlo, hhi⟩ := corLimit_fits (n := n) (k := k) (adc := isAdc k) (j := j) (x := v.getD j 0)
  exact (rdS_put_ne (cor_ref_apart (j := j) hn hk hj).1).trans (rdS_putS_same hw hlo hhi)

theorem takeOne_other (hn : n < 4) (hk : k < 544) {i j : Nat} (hi : i < 4) (hj : j < 4) (h : i ≠ j) :
    (s.takeOne n k v j).cor n k i = s.cor n k i :=
  (rdS_put_ne (cor_ref_apart (j := j) hn hk hi).1).trans (rdS_put_ne (cor_apart hi hj h))

theorem takeCor_cor (hn : n < 4) (hk : k < 544) {j : Nat} (hj : j < 4) :
    (s.takeCor n k v).cor n k j = corLimit (isAdc k) j (v.getD j 0) := by
  refine (rdS_put_ne (cor_ref_apart (j := j) hn hk hj).2).trans ?_
  change ((((s.takeOne n k v 0).takeOne n k v 1).takeOne n k v 2).takeOne n k v 3).cor n k j = _
  match j with
  | 0 => rw [takeOne_other hn hk (by decide) (by decide) (by decide), takeOne_other hn hk (by decide) (by decide) (by decide),
      takeOne_other hn hk (by decide) (by decide) (by decide), takeOne_cor hn hk (by decide)]
  | 1 => rw [takeOne_other hn hk (by decide) (by decide) (by decide), takeOne_other hn hk (by decide) (by decide) (by decide),
      takeOne_cor hn hk (by decide)]
  | 2 => rw [takeOne_other hn hk (by decide) (by decide) (by decide), takeOne_cor hn hk (by decide)]
  | 3 => rw [takeOne_cor hn hk (by decide)]
  | j + 4 => omega

end

/-! ## One element -/

section
variable {s a : State} {n e : Nat}

theorem elementSlice_lt (he : e < 544) : elementSlice e < 544 := by
  unfold elementSlice
  split <;> omega

/-- The four corrections that element e of a record carries. -/
def elementCor (e : Nat) (m : List Host.Cell) : List Int := [0, 2, 4, 6].map (fun j => setS m (0x40 + 8 * e + j) 2)

/-- What is in use becomes m. -/
def State.withApplied (m : List Host.Cell) (s : State) : State := { s with applied := m }

theorem takeElement_slice (hn : n < 4) (he : e < 544) (hf : s.slice n (elementSlice e) ≠ Slice.fenced)
    (hg : s.slice n (elementSlice e) ≠ Slice.failing) {m : List Host.Cell} : s.takeElement n e m 0 =
      (s.withApplied (memCopy m (0x40 + 8 * e) (setBase n + (0x40 + 8 * e)) 8 s.applied)).takeCor n (elementSlice e)
        (elementCor e m) := by
  unfold State.takeElement State.useElement
  rw [decide_eq_false hf, decide_eq_false hg, Bool.or_false, Bool.and_false, if_neg Bool.false_ne_true, if_neg (by omega), if_pos he]
  have hranges : elementRanges n e = [(0x40 + 8 * e, 8)] := by
    unfold elementRanges
    rw [if_neg (by omega), if_pos he]
  rw [hranges, List.foldl_cons, List.foldl_nil]
  simp only [Nat.zero_add]
  unfold elementCor State.withApplied
  rfl

theorem takeElement_skipped (hn : n < 4) (he : e < 544)
    (h : s.slice n (elementSlice e) = Slice.fenced ∨ s.slice n (elementSlice e) = Slice.failing) {m : List Host.Cell} :
    s.takeElement n e m 0 = s.calLog 3 n (if e < 272 then 1 else 5) (e % 272) 0 0 := by
  unfold State.takeElement
  rw [decide_eq_true hn, decide_eq_true he, if_pos]
  simpa using h

theorem takeElement_optical (hn : n < 4) {m : List Host.Cell} : s.takeElement n 551 m 0 =
    s.withApplied (memCopy m 0x1398 (setBase n + 0x1398) 10 s.applied) := by
  unfold State.takeElement State.useElement
  rw [decide_eq_false (by decide : ¬ (551 : Nat) < 544), Bool.and_false, Bool.false_and, if_neg Bool.false_ne_true, if_neg (by omega),
    if_neg (by decide), if_neg (by decide), if_neg (by decide)]
  have hranges : elementRanges n 551 = [(0x1398, 10)] := by
    unfold elementRanges
    rw [if_neg (by omega)]
    rfl
  rw [hranges, List.foldl_cons, List.foldl_nil]
  simp only [Nat.zero_add]
  unfold State.withApplied
  rfl

/-- Fields of the run that no element writes. -/
theorem run_outside : ∀ f ∈ [CAL_RUN_STAT.STATE, CAL_RUN_STAT.SCOPE, CAL_PROG.NEXT, CAL_PROG.TOTAL],
    outside (sliceKeys ++ calLogKeys) f.key = true := by decide

theorem hold_outside : ∀ n : Fin 4, outside (sliceKeys ++ calLogKeys) (OPTC.HOLD n).key = true ∧
    (OPTC.HOLD n).key ≠ CAL_PROG.NEXT.key := by decide

/-- An element that is not the last is taken, and the run goes on. -/
theorem exec_applyElement {n : Fin 4} (hst : s.rd CAL_RUN_STAT.STATE = 5) (hsc : s.rd CAL_RUN_STAT.SCOPE = n.val)
    (hat : s.actsAtOnce n = true) (hlt : s.rd CAL_PROG.NEXT + 1 < s.rd CAL_PROG.TOTAL) (hhold : s.on (OPTC.HOLD n) = false) {t : State}
    (ht : s.takeElement n (s.rd CAL_PROG.NEXT) s.runSet 0 = t) (hframe : Frames (sliceKeys ++ calLogKeys) s t) :
    exec .calApplyElement s = .next (t.put CAL_PROG.NEXT (s.rd CAL_PROG.NEXT + 1)) ∧
    (t.put CAL_PROG.NEXT (s.rd CAL_PROG.NEXT + 1)).rd CAL_PROG.NEXT = s.rd CAL_PROG.NEXT + 1 := by
  have htotal : s.rd CAL_PROG.TOTAL < 1024 := rd_lt s CAL_PROG.TOTAL
  have hrun : ∀ f ∈ [CAL_RUN_STAT.STATE, CAL_RUN_STAT.SCOPE, CAL_PROG.NEXT, CAL_PROG.TOTAL], t.rd f = s.rd f :=
    fun f hf => hframe f (run_outside f hf)
  have hnow : s.calElementNow = t.put CAL_PROG.NEXT (s.rd CAL_PROG.NEXT + 1) := by
    unfold State.calElementNow
    dsimp only
    rw [decide_eq_true (show s.rd CAL_PROG.NEXT < s.rd CAL_PROG.TOTAL by omega), when_true, hsc, ht]
  have hnext : (t.put CAL_PROG.NEXT (s.rd CAL_PROG.NEXT + 1)).rd CAL_PROG.NEXT = s.rd CAL_PROG.NEXT + 1 :=
    (rd_put_same ..).trans (Nat.mod_eq_of_lt (show _ < 1024 by omega))
  have hend : s.calElementNow.calCheckEnd = t.put CAL_PROG.NEXT (s.rd CAL_PROG.NEXT + 1) := by
    rw [hnow]
    unfold State.calCheckEnd
    rw [hnext, rd_put_ne (by decide), rd_put_ne (by decide), hrun CAL_PROG.TOTAL (by simp),
      decide_eq_false (show ¬ s.rd CAL_PROG.NEXT + 1 = s.rd CAL_PROG.TOTAL by omega), Bool.and_false, Bool.false_and, when_false]
  have hrelease : (t.put CAL_PROG.NEXT (s.rd CAL_PROG.NEXT + 1)).calRelease = t.put CAL_PROG.NEXT (s.rd CAL_PROG.NEXT + 1) := by
    refine calRelease_of_no_hold (n := n) ((rd_put_ne (by decide)).trans ((hrun _ (by simp)).trans hsc)) ?_
    exact (on_congr ((rd_put_ne (hold_outside n).2).trans (hframe _ (hold_outside n).1))).trans hhold
  refine ⟨congrArg Host.Outcome.next ?_, hnext⟩
  rw [hst, hsc, hat, decide_eq_true n.isLt, show (decide ((5 : Nat) = 5) && true && true) = true from rfl, when_true, hend, hrelease]

end

/-! ## The end of a run -/

/-- The sets in force become m. -/
def State.withSets (m : List Host.Cell) (s : State) : State := { s with sets := m }

/-- The set is in force, and the run shows it. -/
def State.shown (sc : Nat) (src : Option Nat) (s : State) : State :=
  ((s.withSets (memCopy s.runSet 0 (setBase sc) 0x2000 s.sets)).showSet sc src).put (CAL_SSTAT_S.PARTIAL sc) 0
    |>.put CAL_RUN_STAT.PAUSE 0 |>.put CAL_RUN_STAT.STATE 7 |>.put CAL_RUN_STAT.DONE_EV 1

section
variable {s a : State} {src : Option Nat} {r : List (Nat × Nat)}

theorem withApplied_rd {m : List Host.Cell} {f : Field} : (s.withApplied m).rd f = s.rd f := rfl

theorem withApplied_parts {m : List Host.Cell} : (s.withApplied m).applied = m ∧ (s.withApplied m).runSet = s.runSet ∧
    (s.withApplied m).sets = s.sets ∧ (s.withApplied m).ch = s.ch ∧ (s.withApplied m).flow = s.flow ∧
    (s.withApplied m).calWait = s.calWait := ⟨rfl, rfl, rfl, rfl, rfl, rfl⟩

theorem withSets_rd {m : List Host.Cell} {f : Field} : (s.withSets m).rd f = s.rd f := rfl

theorem withSets_parts {m : List Host.Cell} : (s.withSets m).sets = m ∧ (s.withSets m).ch = s.ch ∧ (s.withSets m).flow = s.flow :=
  ⟨rfl, rfl, rfl⟩

theorem calFinish_eq {sc : Nat} (hsc : s.rd CAL_RUN_STAT.SCOPE = sc) : s.calFinish = ((s.shown sc (if s.on (CAL_SSTAT_S.UNSTORED sc)
    then none else some (s.rd CALC.REGION))).calLog 1 sc 0 0 0 0).raise 64 := by
  unfold State.calFinish State.shown State.withSets
  rw [hsc]

/-- Fields that show a scope's set in force. -/
def setFields (n : Nat) : List Field :=
  [CAL_SSTAT_S.INFORCE n, CAL_SEQ_S.SEQ n, CAL_CNT_S.COUNT n, CAL_TIME_S.RTC n, CAL_SSTAT_S.TEMP n, CAL_SSTAT_S.SRC n,
   CAL_SSTAT_S.FALLBACK n]

/-- Fields that the end of a run sets. -/
def shownFields (n : Nat) : List Field :=
  setFields n ++ [CAL_SSTAT_S.PARTIAL n, CAL_RUN_STAT.PAUSE, CAL_RUN_STAT.STATE, CAL_RUN_STAT.DONE_EV]

theorem sameFields_showSet {n : Nat} {l : List Field} (h : SameFields l a s) (hl : ∀ f ∈ setFields n, f ∈ l) :
    SameFields l a (s.showSet n src) := by
  unfold State.showSet
  dsimp only
  refine sameFields_put_of (sameFields_put_of (sameFields_put_of (sameFields_put_of (sameFields_put_of (sameFields_put_of
    (sameFields_put_of h ?_) ?_) ?_) ?_) ?_) ?_) ?_ <;> exact hl _ (by simp [setFields])

theorem shown_sameFields {n : Nat} : SameFields (shownFields n) s (s.shown n src) := by
  have hset : SameFields (shownFields n) s ((s.withSets (memCopy s.runSet 0 (setBase n) 0x2000 s.sets)).showSet n src) :=
    sameFields_showSet (fun f _ => withSets_rd) fun f hf => List.mem_append_left _ hf
  exact sameFields_put_of (sameFields_put_of (sameFields_put_of (sameFields_put_of hset (by simp [shownFields])) (by simp [shownFields]))
    (by simp [shownFields])) (by simp [shownFields])

theorem inForce_keys : ∀ n : Fin 4, ∀ f ∈ [CAL_SEQ_S.SEQ n, CAL_CNT_S.COUNT n, CAL_TIME_S.RTC n, CAL_SSTAT_S.TEMP n,
    CAL_SSTAT_S.SRC n, CAL_SSTAT_S.FALLBACK n, CAL_SSTAT_S.PARTIAL n, CAL_RUN_STAT.PAUSE, CAL_RUN_STAT.STATE, CAL_RUN_STAT.DONE_EV],
    (CAL_SSTAT_S.INFORCE n).key ≠ f.key := by decide

theorem partial_run_keys : ∀ n : Fin 4, ∀ f ∈ [CAL_RUN_STAT.PAUSE, CAL_RUN_STAT.STATE, CAL_RUN_STAT.DONE_EV],
    (CAL_SSTAT_S.PARTIAL n).key ≠ f.key := by decide

theorem shown_shows {n : Fin 4} : (s.shown n src).rd CAL_RUN_STAT.STATE = 7 ∧ (s.shown n src).rd CAL_RUN_STAT.DONE_EV = 1 ∧
    (s.shown n src).rd (CAL_SSTAT_S.INFORCE n) = 1 ∧ (s.shown n src).rd (CAL_SSTAT_S.PARTIAL n) = 0 := by
  have hin := inForce_keys n
  have hpart := partial_run_keys n
  unfold State.shown
  refine ⟨?_, rd_put_same .., ?_, ?_⟩
  · rw [rd_put_ne (by decide)]
    exact rd_put_same ..
  · rw [rd_put_ne (hin _ (by simp)), rd_put_ne (hin _ (by simp)), rd_put_ne (hin _ (by simp)), rd_put_ne (hin _ (by simp))]
    unfold State.showSet
    dsimp only
    rw [rd_flag_ne (hin _ (by simp)), rd_put_ne (hin _ (by simp)), rd_putS_ne (hin _ (by simp)), rd_put_ne (hin _ (by simp)),
      rd_put_ne (hin _ (by simp)), rd_put_ne (hin _ (by simp))]
    exact rd_put_same ..
  · rw [rd_put_ne (hpart _ (by simp)), rd_put_ne (hpart _ (by simp)), rd_put_ne (hpart _ (by simp))]
    exact rd_put_same ..

theorem showSet_sameArea {n : Nat} (x : Area) : SameArea s (s.showSet n src) x := (kept_showSet (A := fun _ => False) (.refl s)).same x id

theorem shown_parts {n : Nat} : (s.shown n src).sets = memCopy s.runSet 0 (setBase n) 0x2000 s.sets ∧ (s.shown n src).ch = s.ch ∧
    (s.shown n src).flow = s.flow := by
  obtain ⟨hm, hch, hflow⟩ := withSets_parts (s := s) (m := memCopy s.runSet 0 (setBase n) 0x2000 s.sets)
  unfold State.shown
  rw [put_sets, put_sets, put_sets, put_sets, put_ch, put_ch, put_ch, put_ch, put_flow, put_flow, put_flow, put_flow]
  exact ⟨Eq.trans (showSet_sameArea .sets) hm, Eq.trans (showSet_sameArea .ch) hch, Eq.trans (showSet_sameArea .flow) hflow⟩

theorem shown_keys : ∀ n : Fin 4, ∀ f ∈ shownFields n, f.key ≠ CAL_LOG_PTR.PTR.key ∧ f.key ≠ KEY_RTC.SEC.key ∧
    f.key ≠ CAL_RUN_STAT.SCOPE.key ∧ f.key ≠ (OPTC.HOLD n).key := by decide

/-- The state in which the last element has been taken. -/
def State.lastTaken (n : Nat) (s : State) : State :=
  (s.withApplied (memCopy s.runSet 0x1398 (setBase n + 0x1398) 10 s.applied)).put CAL_PROG.NEXT 552

theorem lastTaken_rd {n : Nat} {f : Field} (h : f.key ≠ CAL_PROG.NEXT.key) : (s.lastTaken n).rd f = s.rd f :=
  (rd_put_ne h).trans withApplied_rd

theorem lastTaken_parts {n : Nat} : (s.lastTaken n).runSet = s.runSet ∧ (s.lastTaken n).sets = s.sets ∧ (s.lastTaken n).ch = s.ch ∧
    (s.lastTaken n).flow = s.flow := by
  obtain ⟨-, hrun, hsets, hch, hflow, -⟩ := withApplied_parts (s := s) (m := memCopy s.runSet 0x1398 (setBase n + 0x1398) 10 s.applied)
  unfold State.lastTaken
  rw [put_runSet, put_sets, put_ch, put_flow]
  exact ⟨hrun, hsets, hch, hflow⟩

/-- The last element of a channel's set is taken, and the run ends. -/
theorem exec_lastElement {n : Fin 4} (hst : s.rd CAL_RUN_STAT.STATE = 5) (hsc : s.rd CAL_RUN_STAT.SCOPE = n.val)
    (hat : s.actsAtOnce n = true) (hnext : s.rd CAL_PROG.NEXT = 551) (htot : s.rd CAL_PROG.TOTAL = 552) (hw : s.calWait = [])
    (hhold : s.on (OPTC.HOLD n) = false) : ∃ src, exec .calApplyElement s = .next ((((s.lastTaken n).shown n src).calLog 1 n 0 0 0 0).raise 64) := by
  have hnow : s.calElementNow = s.lastTaken n := by
    unfold State.calElementNow
    dsimp only
    rw [hnext, htot, decide_eq_true (show (551 : Nat) < 552 by decide), when_true, hsc, takeElement_optical n.isLt]
    rfl
  have hsc' : (s.lastTaken n).rd CAL_RUN_STAT.SCOPE = n := (lastTaken_rd (by decide)).trans hsc
  have hwait : (s.lastTaken n).calWait.isEmpty = true := by
    have : (s.lastTaken n).calWait = s.calWait := by
      unfold State.lastTaken
      rw [put_calWait]
      exact withApplied_parts.2.2.2.2.2
    rw [this, hw]
    rfl
  have hnext' : (s.lastTaken n).rd CAL_PROG.NEXT = 552 := rd_put_same ..
  obtain ⟨src, hend⟩ : ∃ src, (s.lastTaken n).calCheckEnd = (((s.lastTaken n).shown n src).calLog 1 n 0 0 0 0).raise 64 := by
    refine ⟨if (s.lastTaken n).on (CAL_SSTAT_S.UNSTORED n) then none else some ((s.lastTaken n).rd CALC.REGION), ?_⟩
    unfold State.calCheckEnd
    rw [lastTaken_rd (by decide), lastTaken_rd (f := CAL_PROG.TOTAL) (by decide), hnext', hst, htot, hwait,
      show (decide ((5 : Nat) = 5) && decide ((552 : Nat) = 552) && true) = true from rfl, when_true, calFinish_eq hsc']
  have hread : ∀ f ∈ [CAL_RUN_STAT.SCOPE, OPTC.HOLD n], ((((s.lastTaken n).shown n src).calLog 1 n 0 0 0 0).raise 64).rd f = s.rd f := by
    have hf : ∀ n : Fin 4, ∀ f ∈ [CAL_RUN_STAT.SCOPE, OPTC.HOLD n], isQuiet f.key = true ∧ outside calLogKeys f.key = true ∧
        f.key ≠ CAL_PROG.NEXT.key ∧ ∀ g ∈ shownFields n, g.key ≠ f.key := by decide
    intro f hfl
    obtain ⟨hq, hlog, hne, hsh⟩ := hf n f hfl
    exact (rd_raise_quiet (by decide) (quiet_of_isQuiet hq)).trans ((Frames.calLog (r := calLogKeys) (.refl _ _) (fun _ h => h) _ hlog).trans
      ((shown_sameFields _ hsh).trans (lastTaken_rd hne)))
  have hrelease : ((((s.lastTaken n).shown n src).calLog 1 n 0 0 0 0).raise 64).calRelease =
      (((s.lastTaken n).shown n src).calLog 1 n 0 0 0 0).raise 64 :=
    calRelease_of_no_hold ((hread _ (by simp)).trans hsc) ((on_congr (hread _ (by simp))).trans hhold)
  refine ⟨src, congrArg Host.Outcome.next ?_⟩
  rw [hst, hsc, hat, decide_eq_true n.isLt, show (decide ((5 : Nat) = 5) && true && true) = true from rfl, when_true, hnow, hend, hrelease]

end

end Sys2Proof.Machine
end

section
/-! Calibration runs apply and store (R324 to R334): the statement. -/

set_option Elab.async false

namespace Sys2Proof.Machine

section
variable {s : State} {sc : Fin 5} {r : Nat}

theorem oneMore_congr {t : State} {f : Field} (h : t.rd f = s.rd f) : t.oneMore f = s.oneMore f := by
  unfold State.oneMore
  rw [h]

/-! ## A write that succeeds -/

theorem storeSettled_fieldsKept {l : List Field} {u : State} (h : FieldsKept l [66] [] u s) (hl : ∀ f ∈ [CAL_STORE.STATE, CAL_STORE.ERR_EV], f ∈ l) :
    FieldsKept l [66] [] u s.storeSettled :=
  fieldsKept_when h (h.trans (storeState_fieldsKept.mono hl))

theorem storeSettled_sameArea (x : Area) : SameArea s s.storeSettled x := by
  unfold State.storeSettled
  cases decide (s.rd CAL_STORE.STATE ≠ 3)
  · exact (Kept.refl (A := fun _ => False) s).same x id
  · exact storeState_sameArea x

theorem settled_keys : ∀ sc : Fin 5, ∀ r < 4, ∀ f ∈ [CAL_RUN_STAT.SCOPE, LDS_CH_STATE.STATE sc, LDS_RSZ_STAT.STATE sc,
    validField sc r, CAL_SSTAT_S.UNSTORED sc, CAL_STORE.WRITES], isQuiet f.key = true ∧
    (∀ g ∈ [CAL_STORE.STATE, CAL_STORE.ERR_EV], g.key ≠ f.key) := by decide

theorem settled_rd (hr : r < 4) {f : Field} (hf : f ∈ [CAL_RUN_STAT.SCOPE, LDS_CH_STATE.STATE sc, LDS_RSZ_STAT.STATE sc,
    validField sc r, CAL_SSTAT_S.UNSTORED sc, CAL_STORE.WRITES]) : s.storeSettled.rd f = s.rd f :=
  (storeSettled_fieldsKept (.refl _ _ _ s) fun _ h => h).read (by simp) (by simp) (settled_keys sc r hr f hf)

theorem applied_keys : ∀ sc : Fin 5, ∀ r < 4, ∀ f ∈ [validField sc r, CAL_SSTAT_S.UNSTORED sc, CAL_STORE.WRITES],
    ∀ g ∈ [CAL_RUN_STAT.STATE, CAL_PROG.NEXT, CAL_SSTAT_S.PARTIAL sc], g.key ≠ f.key := by decide

/-- A run's copy is written, and the apply starts. -/
theorem exec_copyWritten (hst : s.rd CAL_RUN_STAT.STATE = 4) (hsc : s.rd CAL_RUN_STAT.SCOPE = sc.val)
    (hty : s.rd CAL_RUN_STAT.TYPE ≠ 4) (hr : s.rd CALC.REGION = r)
    (hopen : sc.val < 4 → s.chSt sc ≠ ChSt.fenced ∧ s.boundaryOpen sc = true) :
    exec (.calStoreWriteComplete true) s = .next ((s.copyWritten sc r).storeSettled.applyFrom sc) := by
  have hr4 : r < 4 := hr ▸ region_lt
  have hread : ∀ f ∈ [CAL_RUN_STAT.SCOPE, LDS_CH_STATE.STATE sc, LDS_RSZ_STAT.STATE sc], (s.copyWritten sc r).storeSettled.rd f = s.rd f :=
    fun f hf => by
      simp only [List.mem_cons, List.not_mem_nil, or_false] at hf
      obtain rfl | rfl | rfl := hf
      · exact (settled_rd (sc := sc) hr4 (by simp)).trans (copyWritten_rd hr4 (by simp))
      · exact (settled_rd (sc := sc) hr4 (by simp)).trans (copyWritten_rd hr4 (by simp))
      · exact (settled_rd (sc := sc) hr4 (by simp)).trans (copyWritten_rd hr4 (by simp))
  refine congrArg Host.Outcome.next ((storeWritten_run hst hsc hty hr).trans
    (calApplyStart_of_open ((hread _ (by simp)).trans hsc) fun h4 => ?_))
  obtain ⟨hf, hb⟩ := hopen h4
  refine ⟨fun h => hf ((hread (LDS_CH_STATE.STATE sc) (by simp)).symm.trans h), ?_⟩
  unfold State.boundaryOpen at hb ⊢
  rw [hread _ (by simp)]
  exact hb

theorem copied_shows (hr : r < 4) : ((s.copyWritten sc r).storeSettled.applyFrom sc).rd (validField sc r) = 1 ∧
    ((s.copyWritten sc r).storeSettled.applyFrom sc).rd (CAL_SSTAT_S.UNSTORED sc) = 0 ∧
    ((s.copyWritten sc r).storeSettled.applyFrom sc).rd CAL_STORE.WRITES = s.oneMore CAL_STORE.WRITES := by
  obtain ⟨hv, hu, hw⟩ := copyWritten_shows (s := s) (sc := sc) hr
  have hk := applied_keys sc r hr
  exact ⟨(applyFrom_sameFields _ (hk _ (by simp))).trans ((settled_rd (sc := sc) hr (by simp)).trans hv),
    (applyFrom_sameFields _ (hk _ (by simp))).trans ((settled_rd (sc := sc) hr (by simp)).trans hu),
    (applyFrom_sameFields _ (hk _ (by simp))).trans ((settled_rd (sc := sc) hr (by simp)).trans hw)⟩

theorem applyFrom_parts : (s.applyFrom sc).store = s.store ∧ (s.applyFrom sc).runSet = s.runSet ∧ (s.applyFrom sc).sets = s.sets ∧
    (s.applyFrom sc).ch = s.ch ∧ (s.applyFrom sc).flow = s.flow := ⟨rfl, rfl, rfl, rfl, rfl⟩

theorem copied_parts : ((s.copyWritten sc r).storeSettled.applyFrom sc).store = memCopy (memPut 0x1FFC 4 (crc32c (memBytes s.runSet 0
      0x1FFC)) s.runSet) 0 (regionBase sc r) 0x2000 s.store ∧
    (((s.copyWritten sc r).storeSettled.applyFrom sc).runSet = s.runSet ∧
      ((s.copyWritten sc r).storeSettled.applyFrom sc).sets = s.sets) ∧
    ((s.copyWritten sc r).storeSettled.applyFrom sc).ch = s.ch ∧ ((s.copyWritten sc r).storeSettled.applyFrom sc).flow = s.flow := by
  obtain ⟨h1, h2, h3, h4, h5⟩ := applyFrom_parts (s := (s.copyWritten sc r).storeSettled) (sc := sc)
  obtain ⟨k1, k2, k3, k4, k5⟩ := copyWritten_parts (s := s) (sc := sc) (r := r)
  rw [h1, h2, h3, h4, h5, ← k1, ← k2, ← k3, ← k4, ← k5]
  exact ⟨storeSettled_sameArea .store, ⟨storeSettled_sameArea .runSet, storeSettled_sameArea .sets⟩, storeSettled_sameArea .ch,
    storeSettled_sameArea .flow⟩

theorem copied_fieldsKept : FieldsKept [CAL_RUN_STAT.STATE, validField sc r, CAL_SSTAT_S.PARTIAL sc, CAL_SSTAT_S.UNSTORED sc,
    CAL_PROG.NEXT, CAL_STORE.WRITES, CAL_STORE.STATE, CAL_STORE.ERR_EV] [66] [] s ((s.copyWritten sc r).storeSettled.applyFrom sc) :=
  (storeSettled_fieldsKept (copyWritten_sameFields.kept.mono (by simp +contextual)) (by simp +contextual)).trans
    (applyFrom_sameFields.kept.mono (by simp +contextual))

/-! ## A REWRITE's copies -/

theorem second_keys : ∀ sc : Fin 5, ∀ r < 4, ∀ f ∈ [CAL_RUN_STAT.SCOPE, CALC.PASS],
    ∀ g ∈ [CALC.REGION, CAL_RUN_STAT.STATE, CAL_STORE.STATE, validField sc (3 - r)], f.key ≠ g.key := by decide

theorem erased_keys : ∀ sc : Fin 5, ∀ r < 4, ∀ g ∈ [CALC.REGION, CAL_RUN_STAT.STATE, CAL_STORE.STATE],
    (validField sc r).key ≠ g.key := by decide

/-- An erased region is not valid. -/
theorem regionWrite_erased (hsc : s.rd CAL_RUN_STAT.SCOPE = sc) (hr : r < 4) : (s.regionWrite r).rd (validField sc r) = 0 := by
  have hk := erased_keys sc r hr
  unfold State.regionWrite
  rw [hsc]
  dsimp only
  cases decide (s.rd CAL_STORE.STATE ≠ 3)
  · rw [when_false, rd_put_ne (hk _ (by simp)), rd_put_ne (hk _ (by simp)), rd_put_same, Nat.zero_mod]
  · rw [when_true, rd_put_ne (hk _ (by simp)), rd_put_ne (hk _ (by simp)), rd_put_ne (hk _ (by simp)), rd_put_same, Nat.zero_mod]

theorem firstCopy_shows (hsc : s.rd CAL_RUN_STAT.SCOPE = sc.val) (hr : r < 4) :
    (((s.copyWritten sc r).put CALC.PASS 1).regionWrite (3 - r)).rd CAL_RUN_STAT.STATE = 4 ∧
    (((s.copyWritten sc r).put CALC.PASS 1).regionWrite (3 - r)).rd CALC.REGION = (3 - r) % 2 ^ CALC.REGION.width ∧
    (((s.copyWritten sc r).put CALC.PASS 1).regionWrite (3 - r)).rd (validField sc (3 - r)) = 0 ∧
    (((s.copyWritten sc r).put CALC.PASS 1).regionWrite (3 - r)).on CALC.PASS = true := by
  have hscope : ((s.copyWritten sc r).put CALC.PASS 1).rd CAL_RUN_STAT.SCOPE = sc.val :=
    (rd_put_ne (by decide)).trans ((copyWritten_rd hr (by simp)).trans hsc)
  have hk := second_keys sc r hr CALC.PASS (by simp)
  refine ⟨regionWrite_run, (regionWrite_region (by omega)).trans (Nat.mod_eq_of_lt (show _ < 4 by omega)).symm,
    regionWrite_erased hscope (by omega), decide_eq_true ?_⟩
  rw [regionWrite_rd hscope ⟨hk _ (by simp), hk _ (by simp), hk _ (by simp), hk _ (by simp)⟩]
  exact rd_put_same ..

theorem rewritten_keys : ∀ sc : Fin 5, ∀ r < 4, ∀ f ∈ [CAL_RUN_STAT.STATE, CAL_RUN_STAT.DONE_EV, CAL_SSTAT_S.SRC sc],
    ∀ g ∈ [validField sc r, CAL_SSTAT_S.UNSTORED sc, CAL_STORE.STATE, CAL_SSTAT_S.VALID_A sc, CAL_SSTAT_S.VALID_B sc], f.key ≠ g.key := by
  decide

/-- What shows that a REWRITE is complete. -/
def doneFields (sc : Nat) : List Field := [CAL_RUN_STAT.STATE, CAL_RUN_STAT.DONE_EV, CAL_SSTAT_S.SRC sc]

theorem rewritten_rd {f : Field} (hq : isQuiet f.key = true) (h : ∀ g ∈ doneFields sc, g.key ≠ f.key) :
    (s.rewritten sc r).rd f = s.rd f := by
  unfold State.rewritten
  rw [rd_raise_quiet (by decide) (quiet_of_isQuiet hq), rd_put_ne (h _ (by simp [doneFields])).symm,
    rd_put_ne (h _ (by simp [doneFields])).symm, rd_put_ne (h _ (by simp [doneFields])).symm]

/-- A held ENABLE that is released leaves the fields outside its own. -/
theorem calRelease_rd {f : Field} (h : outside releaseKeys f.key = true) : s.calRelease.rd f = s.rd f :=
  Frames.calRelease (.refl _ s) (fun _ hp => hp) f h

theorem source_key : ∀ sc : Fin 5, (CAL_SSTAT_S.SRC sc).key ≠ CAL_RUN_STAT.STATE.key ∧ (CAL_SSTAT_S.SRC sc).key ≠ CAL_RUN_STAT.DONE_EV.key := by
  decide

theorem rewritten_shows : (s.rewritten sc r).calRelease.rd CAL_RUN_STAT.STATE = 7 ∧ (s.rewritten sc r).calRelease.rd CAL_RUN_STAT.DONE_EV = 1 ∧
    (s.rewritten sc r).calRelease.rd (IRQ_PEND 64) = 1 := by
  obtain ⟨hs, hd⟩ := source_key sc
  refine ⟨(calRelease_rd (by decide)).trans ?_, (calRelease_rd (by decide)).trans ?_, (calRelease_rd (by decide)).trans (raise_pend (by decide))⟩
  · unfold State.rewritten
    rw [rd_raise_quiet (by decide) (quiet_of_isQuiet (by decide)), rd_put_ne hs.symm, rd_put_ne (by decide)]
    exact rd_put_same ..
  · unfold State.rewritten
    rw [rd_raise_quiet (by decide) (quiet_of_isQuiet (by decide)), rd_put_ne hd.symm]
    exact rd_put_same ..

/-- The fields of the store that a completed REWRITE leaves. -/
theorem stored_outside : ∀ sc j : Fin 5, ∀ r < 4, ∀ f ∈ [validField sc r, CAL_SSTAT_S.UNSTORED sc, CAL_STORE.STATE,
    CAL_SSTAT_S.VALID_A j, CAL_SSTAT_S.VALID_B j], outside releaseKeys f.key = true ∧ isQuiet f.key = true ∧
    ∀ g ∈ doneFields sc, g.key ≠ f.key := by decide +kernel

theorem rewritten_store (hr : r < 4) {j : Fin 5} {f : Field} (hf : f ∈ [validField sc r, CAL_SSTAT_S.UNSTORED sc, CAL_STORE.STATE,
    CAL_SSTAT_S.VALID_A j, CAL_SSTAT_S.VALID_B j]) : (s.rewritten sc r).calRelease.rd f = s.rd f := by
  obtain ⟨hout, hq, hk⟩ := stored_outside sc j r hr f hf
  exact (calRelease_rd hout).trans (rewritten_rd hq hk)

theorem thin_keys : ∀ sc : Fin 5, ∀ f ∈ [CAL_SSTAT_S.VALID_A sc, CAL_SSTAT_S.VALID_B sc], isQuiet f.key = true ∧
    ∀ g ∈ [CAL_STORE.STATE, CAL_STORE.ERR_EV], g.key ≠ f.key := by decide

theorem storeState_thin {v : Nat} : (s.storeState v).storeThin = s.storeThin :=
  storeThin_congr fun sc f hf => storeState_rd (thin_keys sc f hf)

theorem rewritten_thin (hr : r < 4) : (s.rewritten sc r).calRelease.storeThin = s.storeThin :=
  storeThin_congr fun j f hf => rewritten_store (j := j) hr (by
    simp only [List.mem_cons, List.not_mem_nil, or_false] at hf ⊢
    tauto)

theorem rewritten_sameArea (x : Area) : SameArea s (s.rewritten sc r) x := by
  unfold State.rewritten
  exact (kept_raise (A := fun _ => False) (kept_put _ _ (kept_put _ _ (kept_put _ _ (.refl s))))).same x id

/-! ## A write that fails -/

theorem writeFailed_rd {f : Field} (hq : isQuiet f.key = true) (h : ∀ g ∈ [CAL_STORE.STATE, CAL_STORE.ERR_EV, CAL_STORE.WRITES], g.key ≠ f.key)
    (hl : outside calLogKeys f.key = true) : (s.writeFailed sc r).rd f = s.rd f :=
  (storeState_rd ⟨hq, fun g hg => h g (by simp only [List.mem_cons, List.not_mem_nil, or_false] at hg ⊢; tauto)⟩).trans
    ((Frames.calLog (r := calLogKeys) (.refl _ _) (fun _ hp => hp) f hl).trans (rd_bump_ne (h _ (by simp)).symm))

theorem writeFailed_state : (s.writeFailed sc r).rd CAL_STORE.STATE = 3 := storeState_state (by decide)

theorem writeFailed_event (h : s.rd CAL_STORE.STATE ≠ 3) : (s.writeFailed sc r).rd CAL_STORE.ERR_EV = 1 ∧
    (s.writeFailed sc r).rd (IRQ_PEND 66) = 1 := by
  refine storeState_event (fun h3 => h ?_) (by decide)
  exact ((Frames.calLog (r := calLogKeys) (.refl _ _) (fun _ hp => hp) CAL_STORE.STATE (by decide)).trans
    (rd_bump_ne (by decide))).symm.trans h3

theorem writeFailed_sameArea (x : Area) : SameArea s (s.writeFailed sc r) x :=
  (kept_storeState (A := fun _ => False) (kept_calLog (kept_bump (.refl s)))).same x id

theorem failed_keys : ∀ sc : Fin 5, ∀ f ∈ [CAL_RUN_STAT.SCOPE, LDS_CH_STATE.STATE sc, LDS_RSZ_STAT.STATE sc],
    isQuiet f.key = true ∧ (∀ g ∈ [CAL_STORE.STATE, CAL_STORE.ERR_EV, CAL_STORE.WRITES], g.key ≠ f.key) ∧
    outside calLogKeys f.key = true ∧ f.key ≠ (CAL_SSTAT_S.UNSTORED sc).key := by decide

/-- A run whose copy is not written goes on to its apply. -/
theorem exec_writeFailed_run (hst : s.rd CAL_RUN_STAT.STATE = 4) (hsc : s.rd CAL_RUN_STAT.SCOPE = sc.val)
    (hty : s.rd CAL_RUN_STAT.TYPE ≠ 4) (hr : s.rd CALC.REGION = r)
    (hopen : sc.val < 4 → s.chSt sc ≠ ChSt.fenced ∧ s.boundaryOpen sc = true) :
    exec (.calStoreWriteComplete false) s = .next (((s.writeFailed sc r).put (CAL_SSTAT_S.UNSTORED sc) 1).applyFrom sc) := by
  have hread : ∀ f ∈ [CAL_RUN_STAT.SCOPE, LDS_CH_STATE.STATE sc, LDS_RSZ_STAT.STATE sc],
      ((s.writeFailed sc r).put (CAL_SSTAT_S.UNSTORED sc) 1).rd f = s.rd f := fun f hf => by
    obtain ⟨hq, hk, hl, hu⟩ := failed_keys sc f hf
    exact (rd_put_ne hu).trans (writeFailed_rd hq hk hl)
  refine congrArg Host.Outcome.next ((storeFailed_run hst hsc hty hr).trans
    (calApplyStart_of_open ((hread _ (by simp)).trans hsc) fun h4 => ?_))
  obtain ⟨hf, hb⟩ := hopen h4
  refine ⟨fun h => hf ((hread (LDS_CH_STATE.STATE sc) (by simp)).symm.trans h), ?_⟩
  unfold State.boundaryOpen at hb ⊢
  rw [hread _ (by simp)]
  exact hb

theorem unstored_keys : ∀ sc : Fin 5, ∀ g ∈ [CAL_RUN_STAT.STATE, CAL_PROG.NEXT, CAL_SSTAT_S.PARTIAL sc],
    g.key ≠ (CAL_SSTAT_S.UNSTORED sc).key ∧ g.key ≠ CAL_STORE.STATE.key ∧ (CAL_SSTAT_S.UNSTORED sc).key ≠ CAL_STORE.STATE.key := by decide

theorem unstored_shows : (((s.writeFailed sc r).put (CAL_SSTAT_S.UNSTORED sc) 1).applyFrom sc).rd (CAL_SSTAT_S.UNSTORED sc) = 1 ∧
    (((s.writeFailed sc r).put (CAL_SSTAT_S.UNSTORED sc) 1).applyFrom sc).rd CAL_STORE.STATE = 3 := by
  have hk := unstored_keys sc
  refine ⟨(applyFrom_sameFields _ fun g hg => (hk g hg).1).trans (rd_put_same ..), ?_⟩
  exact (applyFrom_sameFields _ fun g hg => (hk g hg).2.1).trans ((rd_put_ne (hk CAL_PROG.NEXT (by simp)).2.2.symm).trans
    writeFailed_state)

theorem calFail_store : (s.calFail 0xA).rd CAL_STORE.STATE = s.rd CAL_STORE.STATE ∧ (s.calFail 0xA).rd CAL_STORE.ERR_EV = s.rd CAL_STORE.ERR_EV ∧
    (s.calFail 0xA).rd (IRQ_PEND 66) = s.rd (IRQ_PEND 66) := by
  have hframe : Frames (failKeys ++ noticeKeys) s (s.calFail 0xA) := (Frames.refl _ s).calFail (by simp +contextual) (by simp +contextual)
  refine ⟨hframe _ (by decide), hframe _ (by decide), ?_⟩
  rw [calFail_eq, failTail_rd (by decide), rd_raise_pend_ne (by decide) (by decide) (by decide), rd_put_ne (by decide),
    rd_put_ne (by decide), rd_put_ne (by decide)]

end

/-- The word that an element's entry in the log begins with. -/
theorem element_shows {s : State} {n : Fin 4} {event qty index : Nat} {value limit : Int}
    (hsmall : event < 16) (hqty : qty < 16) {u : State} (hptr : u.rd CAL_LOG_PTR.PTR = s.rd CAL_LOG_PTR.PTR)
    (hsec : u.rd KEY_RTC.SEC = s.rd KEY_RTC.SEC) :
    ((u.calLog event n qty index value limit).rd (tableWord (0x8A00000 + 16 * s.rd CAL_LOG_PTR.PTR)) =
        (event * 2 ^ 24 + n.val * 2 ^ 21 + qty * 2 ^ 8) % 2 ^ 32 ∧
      (u.calLog event n qty index value limit).rd (tableWord (0x8A00000 + 16 * s.rd CAL_LOG_PTR.PTR + 4)) = s.rd KEY_RTC.SEC % 2 ^ 32) ∧
    (u.calLog event n qty index value limit).rd CAL_LOG_PTR.PTR = (s.rd CAL_LOG_PTR.PTR + 1) % 256 := by
  have hn := n.isLt
  rw [← hptr, ← hsec]
  exact ⟨⟨calLog_low, calLog_high (by omega)⟩, calLog_ptr⟩

/-- A word of the log is quiet, and no field of a run. -/
theorem calWord_ne {p k : Nat} (hp : p < 256) (hk : k ≤ 12) : isQuiet (tableWord (0x8A00000 + 16 * p + k)).key = true ∧
    ∀ g : Field, g.key < 8 * 0x8A00000 → (tableWord (0x8A00000 + 16 * p + k)).key ≠ g.key := by
  refine ⟨isQuiet_of_outside (outside_of_gap (lo := 8 * 0x8A00000) (hi := 8 * 0x8B00000) (by decide) ?_ ?_), fun g hg => ?_⟩
  · simp only [Field.key, tableWord]; omega
  · simp only [Field.key, tableWord]; omega
  · simp only [Field.key, tableWord] at hg ⊢; omega

/-- Settles O42: the state after each step of Table 14.5 is written as the run's own operations on the state before it, and
the fields of the statement are read through those. -/
theorem calibrationRunsApplyAndStore : Obligations.CalibrationRunsApplyAndStore := by
  unfold Obligations.CalibrationRunsApplyAndStore
  refine ⟨?_, ?_, ?_, ?_, ?_, ?_, ?_, ?_, ?_, ?_, ?_⟩
  · intro s data temp vref lppm sc old hst hsc hl hold hok
    obtain ⟨hrun, hvotes, hch, hflow, -⟩ := measureDone_parts (s := s) (ty := s.rd CAL_RUN_STAT.TYPE) (sc := sc)
      (m := s.measuredSet (s.rd CAL_RUN_STAT.TYPE) sc ⟨data, temp, vref, lppm⟩)
    refine ⟨_, exec_measured_passes hst hsc hl hold rfl hok, (request_rd _).trans (rd_put_same ..), hrun,
      congrArg (· ++ [Vote.calApply]) hvotes, fun h4 hty => ?_, hch, hflow,
      (sameFields_put_of measureDone_sameFields (by simp)).trans fun _ _ => request_rd _⟩
    obtain ⟨hh, hlight⟩ := measureDone_full (s := s) (m := s.measuredSet 1 sc ⟨data, temp, vref, lppm⟩) h4
    rw [hty, request_rd, request_rd]
    exact ⟨(rd_put_ne (held_keys sc).2).trans hh, (rd_put_ne (by decide)).trans hlight⟩
  · intro s data temp vref lppm sc old x hst hsc hl hold hbad
    obtain ⟨-, -, hch, hflow, hsets, hstore⟩ := measureDone_parts (s := s) (ty := s.rd CAL_RUN_STAT.TYPE) (sc := sc)
      (m := s.measuredSet (s.rd CAL_RUN_STAT.TYPE) sc ⟨data, temp, vref, lppm⟩)
    obtain ⟨hrun, hfail, hwords, hptr, hev, hpend⟩ := calImplausible_shows (s := s.measureDone (s.rd CAL_RUN_STAT.TYPE) sc
      (s.measuredSet (s.rd CAL_RUN_STAT.TYPE) sc ⟨data, temp, vref, lppm⟩)) (sc := sc) (implausible_qty hbad)
    have hkeys := measureDone_keys sc
    rw [measureDone_sameFields CAL_LOG_PTR.PTR fun g hg => (hkeys g hg).2.2.1] at hwords hptr
    rw [measureDone_sameFields KEY_RTC.SEC fun g hg => (hkeys g hg).2.2.2] at hwords
    exact ⟨_, exec_measured_fails hst hsc hl hold rfl hbad, hrun, hfail, hwords, hptr, hev, hpend,
      ⟨Eq.trans (calImplausible_sameArea .sets (by decide)) hsets, Eq.trans (calImplausible_sameArea .store (by decide)) hstore⟩,
      Eq.trans (calImplausible_sameArea .ch (by decide)) hch, Eq.trans (calImplausible_sameArea .flow (by decide)) hflow⟩
  · intro s hst
    obtain ⟨hrun, hev, hpend, hlight⟩ := calFail_shows (s := s) (cause := 6) (by decide)
    exact ⟨_, exec_monitorTimeout hst, hrun, hev, hpend, hlight,
      ⟨calFail_sameArea .sets (by decide), calFail_sameArea .store (by decide)⟩, calFail_sameArea .ch (by decide),
      calFail_sameArea .flow (by decide)⟩
  · intro s sc hst hsc hty hopen
    obtain ⟨hrun, hpart, hnext⟩ := applyFrom_shows (s := (s.copyWritten sc (s.rd CALC.REGION)).storeSettled) (sc := sc)
    obtain ⟨hvalid, hun, hwrites⟩ := copied_shows (s := s) (sc := sc) region_lt
    obtain ⟨hstore, hsets, hch, hflow⟩ := copied_parts (s := s) (sc := sc) (r := s.rd CALC.REGION)
    exact ⟨_, exec_copyWritten hst hsc hty rfl hopen, hrun, hvalid, hstore, hpart, hun, hnext, hwrites, hsets, hch, hflow,
      copied_fieldsKept⟩
  · intro s sc hst hsc hty hp
    obtain ⟨hrun, hregion, hvalid, hpass⟩ := firstCopy_shows (s := s) hsc region_lt
    obtain ⟨-, -, -, hch, hflow⟩ := copyWritten_parts (s := s) (sc := sc) (r := s.rd CALC.REGION)
    exact ⟨_, congrArg Host.Outcome.next (storeWritten_first hst hsc hty hp rfl), hrun, hregion, hvalid, hpass,
      Eq.trans (regionWrite_sameArea .ch (by decide)) ((put_ch ..).trans hch),
      Eq.trans (regionWrite_sameArea .flow (by decide)) ((put_flow ..).trans hflow)⟩
  · intro s sc hst hsc hty hp
    have hr := region_lt (s := s)
    obtain ⟨hrun, hdone, hpend⟩ := rewritten_shows (s := (s.copyWritten sc (s.rd CALC.REGION)).storeState
      (if (s.copyWritten sc (s.rd CALC.REGION)).storeThin then 2 else 0)) (sc := sc) (r := s.rd CALC.REGION)
    obtain ⟨hvalid, hun, -⟩ := copyWritten_shows (s := s) (sc := sc) hr
    obtain ⟨hstore, -, -, hch, hflow⟩ := copyWritten_parts (s := s) (sc := sc) (r := s.rd CALC.REGION)
    have hk := settled_keys sc _ hr
    refine ⟨_, congrArg Host.Outcome.next (storeWritten_second hst hsc hty hp rfl), hrun, hdone, ?_, ?_, ?_, ?_, hpend, ?_, ?_⟩
    · exact (rewritten_store (j := 0) hr (by simp)).trans ((storeState_rd (hk _ (by simp))).trans hvalid)
    · exact Eq.trans (calRelease_sameArea .store (by decide)) (Eq.trans (rewritten_sameArea .store)
        (Eq.trans (storeState_sameArea .store) hstore))
    · exact (rewritten_store (j := 0) hr (by simp)).trans ((storeState_rd (hk _ (by simp))).trans hun)
    · rw [rewritten_thin hr, storeState_thin]
      exact (rewritten_store (j := 0) hr (by simp)).trans (storeState_state (by split <;> decide))
    · exact Eq.trans (calRelease_sameArea .ch (by decide)) (Eq.trans (rewritten_sameArea .ch)
        (Eq.trans (storeState_sameArea .ch) hch))
    · exact Eq.trans (calRelease_sameArea .flow (by decide)) (Eq.trans (rewritten_sameArea .flow)
        (Eq.trans (storeState_sameArea .flow) hflow))
  · intro s sc hst hsc hty
    obtain ⟨hrun, -, hpend, -⟩ := calFail_shows (s := s.writeFailed sc (s.rd CALC.REGION)) (cause := 0xA) (by decide)
    obtain ⟨hstate, hev, h66⟩ := calFail_store (s := s.writeFailed sc (s.rd CALC.REGION))
    refine ⟨_, congrArg Host.Outcome.next (storeFailed_rewrite hst hsc hty rfl), hrun, hstate.trans writeFailed_state, hpend,
      fun h3 => ⟨hev.trans (writeFailed_event h3).1, h66.trans (writeFailed_event h3).2⟩, ?_, ?_, ?_⟩
    · exact Eq.trans (calFail_sameArea .store (by decide)) (writeFailed_sameArea .store)
    · exact Eq.trans (calFail_sameArea .ch (by decide)) (writeFailed_sameArea .ch)
    · exact Eq.trans (calFail_sameArea .flow (by decide)) (writeFailed_sameArea .flow)
  · intro s sc hst hsc hty hopen
    obtain ⟨hun, hstate⟩ := unstored_shows (s := s) (sc := sc) (r := s.rd CALC.REGION)
    exact ⟨_, exec_writeFailed_run hst hsc hty rfl hopen, applyFrom_shows.1, hun, hstate,
      applyFrom_parts.1.trans ((put_store ..).trans (writeFailed_sameArea .store)),
      applyFrom_parts.2.2.2.1.trans ((put_ch ..).trans (writeFailed_sameArea .ch)),
      applyFrom_parts.2.2.2.2.trans ((put_flow ..).trans (writeFailed_sameArea .flow))⟩
  · intro s n hst hsc hat hlt hhold he hf hg
    have hk := elementSlice_lt he
    have hframe : Frames (sliceKeys ++ calLogKeys) s ((s.withApplied (memCopy s.runSet (0x40 + 8 * s.rd CAL_PROG.NEXT) (setBase n +
        (0x40 + 8 * s.rd CAL_PROG.NEXT)) 8 s.applied)).takeCor n (elementSlice (s.rd CAL_PROG.NEXT))
        (elementCor (s.rd CAL_PROG.NEXT) s.runSet)) :=
      Frames.takeCor (fun f _ => withApplied_rd) n.isLt hk (by simp +contextual)
    obtain ⟨hexec, hnext⟩ := exec_applyElement hst hsc hat hlt hhold (takeElement_slice n.isLt he hf hg) hframe
    obtain ⟨happ, hrun, hsets, hch, hflow, -⟩ := withApplied_parts (s := s) (m := memCopy s.runSet (0x40 + 8 * s.rd CAL_PROG.NEXT)
      (setBase n + (0x40 + 8 * s.rd CAL_PROG.NEXT)) 8 s.applied)
    refine ⟨_, hexec, hnext, (rd_put_ne (by decide)).trans ((hframe _ (run_outside _ (by simp))).trans hst),
      (put_applied ..).trans (Eq.trans (takeCor_sameArea .applied) happ), fun j => ?_,
      ⟨(put_runSet ..).trans (Eq.trans (takeCor_sameArea .runSet) hrun), (put_sets ..).trans (Eq.trans (takeCor_sameArea .sets) hsets)⟩,
      (put_ch ..).trans (Eq.trans (takeCor_sameArea .ch) hch), (put_flow ..).trans (Eq.trans (takeCor_sameArea .flow) hflow)⟩
    have hcor : (corField n (elementSlice (s.rd CAL_PROG.NEXT)) j).key ≠ CAL_PROG.NEXT.key := fun h =>
      ne_of_outside (r := sliceKeys) (k := CAL_PROG.NEXT.key) (by decide) ((slice_hits n.isLt hk).2 j j.isLt).1 h.symm
    refine (rdS_put_ne hcor).trans ((takeCor_cor n.isLt hk j.isLt).trans ?_)
    fin_cases j <;> rfl
  · intro s n hst hsc hat hlt hhold he h
    have hframe : Frames (sliceKeys ++ calLogKeys) s (s.calLog 3 n (if s.rd CAL_PROG.NEXT < 272 then 1 else 5) (s.rd CAL_PROG.NEXT % 272) 0 0) :=
      (Frames.refl _ s).calLog (by simp +contextual)
    obtain ⟨hexec, hnext⟩ := exec_applyElement hst hsc hat hlt hhold (takeElement_skipped n.isLt he h) hframe
    obtain ⟨⟨hlow, hhigh⟩, hptr⟩ := element_shows (s := s) (n := n) (event := 3) (qty := if s.rd CAL_PROG.NEXT < 272 then 1 else 5)
      (index := s.rd CAL_PROG.NEXT % 272) (value := 0) (limit := 0) (by decide) (by split <;> decide) (u := s) rfl rfl
    have hword := fun k (hk : k ≤ 12) => (calWord_ne (calLogPtr_lt (s := s)) hk).2 CAL_PROG.NEXT (by decide)
    exact ⟨_, hexec, hnext, (put_applied ..).trans (calLog_sameArea .applied),
      ⟨(rd_put_ne (hword 0 (by decide))).trans hlow, (rd_put_ne (hword 4 (by decide))).trans hhigh⟩,
      (rd_put_ne (by decide)).trans hptr, (put_ch ..).trans (calLog_sameArea .ch), (put_flow ..).trans (calLog_sameArea .flow)⟩
  · intro s n hst hsc hat hnext htot hw hhold
    obtain ⟨src, hexec⟩ := exec_lastElement hst hsc hat hnext htot hw hhold
    obtain ⟨h7, hdone, hin, hpart⟩ := shown_shows (s := s.lastTaken n) (src := src) (n := n)
    obtain ⟨hsets, hch, hflow⟩ := shown_parts (s := s.lastTaken n) (src := src) (n := n)
    obtain ⟨hrun', hsets', hch', hflow'⟩ := lastTaken_parts (s := s) (n := n)
    have hkeys := shown_keys n
    obtain ⟨⟨hlow, hhigh⟩, -⟩ := element_shows (s := s) (n := n) (event := 1) (qty := 0) (index := 0) (value := 0) (limit := 0)
      (by decide) (by decide) (u := (s.lastTaken n).shown n src)
      ((shown_sameFields _ fun g hg => (hkeys g hg).1).trans (lastTaken_rd (by decide)))
      ((shown_sameFields _ fun g hg => (hkeys g hg).2.1).trans (lastTaken_rd (by decide)))
    have hquiet : ∀ n : Fin 4, ∀ f ∈ [CAL_RUN_STAT.STATE, CAL_RUN_STAT.DONE_EV, CAL_SSTAT_S.INFORCE n, CAL_SSTAT_S.PARTIAL n],
        isQuiet f.key = true ∧ outside calLogKeys f.key = true := by decide
    have hread : ∀ f ∈ [CAL_RUN_STAT.STATE, CAL_RUN_STAT.DONE_EV, CAL_SSTAT_S.INFORCE n, CAL_SSTAT_S.PARTIAL n],
        ((((s.lastTaken n).shown n src).calLog 1 n 0 0 0 0).raise 64).rd f = ((s.lastTaken n).shown n src).rd f := fun f hf =>
      (rd_raise_quiet (by decide) (quiet_of_isQuiet (hquiet n f hf).1)).trans
        (Frames.calLog (r := calLogKeys) (.refl _ _) (fun _ hp => hp) f (hquiet n f hf).2)
    have hword := fun k (hk : k ≤ 12) => (calWord_ne (calLogPtr_lt (s := s)) hk).1
    refine ⟨_, hexec, ⟨(hread _ (by simp)).trans h7, (hread _ (by simp)).trans hdone⟩,
      ⟨(hread _ (by simp)).trans hin, (hread _ (by simp)).trans hpart⟩, ?_, raise_pend (by decide), ⟨?_, ?_⟩, ?_, ?_⟩
    · rw [← hrun', ← hsets', ← hsets]
      exact (kept_raise (A := fun _ => False) (kept_calLog (.refl _))).same .sets id
    · refine (rd_raise_quiet (by decide) (quiet_of_isQuiet (hword 0 (by decide)))).trans (hlow.trans ?_)
      rw [Nat.one_mul, Nat.zero_mul, Nat.add_zero]
    · exact (rd_raise_quiet (by decide) (quiet_of_isQuiet (hword 4 (by decide)))).trans hhigh
    · exact (raise_ch ..).trans (Eq.trans (calLog_sameArea .ch) (hch.trans hch'))
    · exact (raise_flow ..).trans (Eq.trans (calLog_sameArea .flow) (hflow.trans hflow'))

end Sys2Proof.Machine
end

section
/- Its run of the model is checked by evaluation, one at a time. -/
set_option Elab.async false

namespace Sys2Proof.Machine

/-- Client 0 of the device reads needs 64 bytes, a global counter counts device reads, and FW_LOAD of the running slot is
accepted. -/
def readWaitsState : State :=
  { (State.reset.put MGT_STAT.LINK_UP 1).put MGT_STAT.BME 1 |>.put (DMAC.NEED 0) 64 |>.put (PMC_CH_CFG.EVENT 4 48) 5 with
      pmcOn := [(4, 48)], mbx := [⟨0, 0, 0x11, [0, 0, 0, 1], 0⟩] }

theorem not_noticeKey_read : ¬ noticeKey [35] [] (PMC.CNT 4 48).key := by
  unfold noticeKey
  decide +kernel

/-- The end of FW_LOAD's own reads lets the read of client 0 go, which the counter counts. -/
theorem fwLoad_counts_read : ∃ t, exec (.fwLoad 0 0 (some [])) readWaitsState = .next t ∧
    t.rd (PMC.CNT 4 48) ≠ readWaitsState.rd (PMC.CNT 4 48) := ⟨_, rfl, by decide +kernel⟩

theorem read_counter_apart : ∀ g ∈ poolFields ++ [SUP_MBX_RSP_PI.PI, SUP_MBX_STAT.RSP_EV, SUP_MBX_STAT.OUTST] ++
    (List.range 16).map (fun k => tableWord (0x22000 + 64 * readWaitsState.rd SUP_MBX_RSP_PI.PI + 4 * k)),
    g.key ≠ (PMC.CNT 4 48).key := by decide +kernel

/-- Refutes O45: clause 18 lets a refused FW_LOAD change no performance counter, though the end of its reads lets another client's
read go, which is event 0x05 of the supervisors (Table 16.6). -/
theorem not_mailboxCommandsAreServed : ¬ Obligations.MailboxCommandsAreServed := by
  unfold Obligations.MailboxCommandsAreServed
  rintro ⟨-, -, -, -, -, -, -, -, -, -, -, -, -, -, -, -, -, busy, -⟩
  obtain ⟨t, ht, -, -, -, -, kept⟩ := busy readWaitsState 0 0 ⟨0, 0, 0x11, [0, 0, 0, 1], 0⟩ [] (by decide +kernel)
    (by decide) (by decide) (.inl (by decide +kernel)) (by decide +kernel)
  obtain ⟨u, hu, counted⟩ := fwLoad_counts_read
  cases hu.symm.trans ht
  exact counted (kept _ not_noticeKey_read read_counter_apart)

end Sys2Proof.Machine
end

section
/-! O56. Rails, RESET_N and DEV_RST_CMD (Tables 20.4 and 22.11): what the wipe of a reset keeps, KEEP and the loss of the
plinth's supplies, the power and clock inputs, and the entry to BOOT. -/

set_option Elab.async false

namespace Sys2Proof.Machine

section
variable {s t : State} {p : Bool} {l : List Field}

/-- A notice of fewer sources and scopes reaches fewer places. -/
theorem noticeKey_mono {src src' pmc pmc' : List Nat} {k : Nat} (hs : ∀ N ∈ src, N ∈ src') (hp : ∀ b ∈ pmc, b ∈ pmc')
    (h : noticeKey src pmc k) : noticeKey src' pmc' k := by
  rcases h with ⟨N, hN, hk⟩ | ⟨b, hb, hk⟩
  · refine .inl ⟨N, ?_, hk⟩
    rcases List.mem_append.1 hN with hN | hN
    · exact List.mem_append_left _ (hs _ hN)
    · obtain ⟨b, hb, hN⟩ := List.mem_flatMap.1 hN
      exact List.mem_append_right _ (List.mem_flatMap.2 ⟨b, hp _ hb, hN⟩)
  · exact .inr ⟨b, hp _ hb, hk⟩

/-! ## The wipe -/

theorem look_filter_ite (q : Nat → Bool) (k : Nat) (l : List (Nat × Nat)) :
    look k (l.filter (fun x => q x.1)) = if q k then look k l else none := by
  induction l with
  | nil => simp [look]
  | cons x l ih =>
    by_cases hx : x.1 = k
    · subst hx
      by_cases hq : q x.1 = true
      · simp [hq, look]
      · simp [hq, ih]
    · by_cases hq : q x.1 = true <;> simp [hq, look, hx, ih]

/-- What a wipe keeps reads as before, and everything else as right after reset. -/
theorem rd_wipe (f : Field) : (s.wipe p).rd f = if keepsKey p f.key then s.rd f else State.reset.rd f := by
  unfold State.rd State.wipe
  rw [look_filter_ite]
  split <;> rfl

theorem rd_wipe_kept {f : Field} (h : keepsKey p f.key = true) : (s.wipe p).rd f = s.rd f := by rw [rd_wipe, h, if_pos rfl]

/-- A casting store write that is cut changes nothing that a reset keeps. -/
theorem rd_cutWrites {f : Field} (h : keepsKey p f.key = true) : s.cutWrites.rd f = s.rd f := by
  have hvalid : ∀ p, keepsKey p CST_INFO.STORE_VALID.key = false := by decide
  have hlen : ∀ p, keepsKey p CST_INFO.STORE_LEN.key = false := by decide
  refine rd_when_same fun u => ?_
  rw [rd_put_ne (fun e => by simp [e, hlen] at h), rd_put_ne (fun e => by simp [e, hvalid] at h)]
  rfl

theorem cutWrites_free : s.cutWrites.pending = s.pending ∧ s.cutWrites.free = s.free ∧ s.cutWrites.out = s.out ∧
    s.cutWrites.store = s.store ∧ s.cutWrites.fw = s.fw := by
  unfold State.cutWrites State.castStoreCut
  cases decide (s.cst = Cst.storing) <;> exact ⟨rfl, rfl, rfl, rfl, rfl⟩

theorem resetTo_wipe : ResetTo p l s (s.cutWrites.wipe p) := by
  obtain ⟨hpend, hfree, hout, hstore, hfw⟩ := cutWrites_free (s := s)
  refine ⟨by simp only [State.wipe, hpend, hfree, hout, hstore, hfw], fun f _ => ?_⟩
  rw [rd_wipe]
  split
  · exact rd_cutWrites ‹_›
  · rfl

theorem ResetTo.put {g : Field} {v : Nat} (h : ResetTo p l s t) (hg : g ∈ l) : ResetTo p l s (t.put g v) :=
  ⟨h.1, fun f hf => (rd_put_ne (hf g hg).symm).trans (h.2 f hf)⟩

theorem ResetTo.each {α : Type} {m : List α} {g : α → State → State} (h : ResetTo p l s t)
    (k : ∀ i ∈ m, ∀ u, ResetTo p l s u → ResetTo p l s (g i u)) : ResetTo p l s (t.each m g) := by
  induction m generalizing t with
  | nil => exact h
  | cons a m ih => exact ih (k a (by simp) t h) fun i hi => k i (by simp [hi])

theorem ResetTo.clear {m : List Field} (h : ResetTo p l s t) (hm : ∀ f ∈ m, f ∈ l) : ResetTo p l s (t.clear m) :=
  h.each fun f hf _ hu => hu.put (hm f hf)

/-- A field of the list may have been set before the reset. -/
theorem ResetTo.of_put {g : Field} {v : Nat} (h : ResetTo p l (s.put g v) t) (hg : g ∈ l) (hst : CST_STAT.STATE.key ≠ g.key) :
    ResetTo p l s t := by
  have hcst : (s.put g v).cst = s.cst := rd_put_ne hst
  have hboot : (s.put g v).cutWrites.bootImage = s.cutWrites.bootImage := by
    unfold State.cutWrites State.castStoreCut
    rw [hcst]
    cases decide (s.cst = Cst.storing) <;> rfl
  refine ⟨h.1.trans (by rw [hboot]; rfl), fun f hf => (h.2 f hf).trans ?_⟩
  rw [rd_put_ne (hf g hg).symm]

/-! ## A device reset -/

theorem resetTo_safeShow {n : Nat} (h : ResetTo p l s t) (hn : n ∈ channels) (hl : ∀ f ∈ safeFields, f ∈ l) :
    ResetTo p l s (t.safeShow n) := by
  have hmem : ∀ f ∈ [OPT_SAFE_STAT.A_ACT n, OPT_SAFE_STAT.B_ACT n, OPT_SAFE_STAT.SHUT n, OPT_SAFE_STAT.DISC_RUN n], f ∈ l :=
    fun f hf => hl f (List.mem_flatMap.2 ⟨n, hn, hf⟩)
  exact (((h.put (hmem _ (by simp))).put (hmem _ (by simp))).put (hmem _ (by simp))).put (hmem _ (by simp))

theorem safeShow_act (n : Nat) : (s.safeShow n).rd (OPT_SAFE_STAT.A_ACT n) = s.rd PIN.SAFE_A ∧
    (s.safeShow n).rd (OPT_SAFE_STAT.B_ACT n) = s.rd PIN.SAFE_B := by
  have hflag : ∀ v < 2, (if decide (v = 1) then 1 else 0) % 2 ^ 1 = v := by decide
  have hkey : ∀ i j : Nat, i ≠ j → 8 * (0x1000034 + 0x1000000 * n) + i ≠ 8 * (0x1000034 + 0x1000000 * n) + j := by omega
  have ha : ∀ g ∈ [OPT_SAFE_STAT.B_ACT n, OPT_SAFE_STAT.SHUT n, OPT_SAFE_STAT.DISC_RUN n], (OPT_SAFE_STAT.A_ACT n).key ≠ g.key := by
    simp only [List.forall_mem_cons]
    exact ⟨hkey 0 1 (by decide), hkey 0 2 (by decide), hkey 0 3 (by decide), fun _ h => nomatch h⟩
  have hb : ∀ g ∈ [OPT_SAFE_STAT.SHUT n, OPT_SAFE_STAT.DISC_RUN n], (OPT_SAFE_STAT.B_ACT n).key ≠ g.key := by
    simp only [List.forall_mem_cons]
    exact ⟨hkey 1 2 (by decide), hkey 1 3 (by decide), fun _ h => nomatch h⟩
  unfold State.safeShow
  constructor
  · rw [rd_flag_ne (ha _ (by simp)), rd_flag_ne (ha _ (by simp)), rd_flag_ne (ha _ (by simp)), State.flag, rd_put_same]
    exact hflag _ (rd_lt s PIN.SAFE_A)
  · rw [rd_flag_ne (hb _ (by simp)), rd_flag_ne (hb _ (by simp)), State.flag, rd_put_same]
    exact hflag _ (rd_lt s PIN.SAFE_B)

theorem safeShow_rd {n : Nat} {f : Field} (h : ∀ g ∈ [OPT_SAFE_STAT.A_ACT n, OPT_SAFE_STAT.B_ACT n, OPT_SAFE_STAT.SHUT n,
    OPT_SAFE_STAT.DISC_RUN n], g.key ≠ f.key) : (s.safeShow n).rd f = s.rd f := by
  unfold State.safeShow
  rw [rd_flag_ne (h _ (by simp)).symm, rd_flag_ne (h _ (by simp)).symm, rd_flag_ne (h _ (by simp)).symm,
    rd_flag_ne (h _ (by simp)).symm]

/-- Every channel shows the safety inputs as they stand. -/
def State.safeShown (s : State) : State := s.each channels (fun n t => t.safeShow n)

theorem safeShown_rd {f : Field} (h : ∀ g ∈ safeFields, g.key ≠ f.key) : s.safeShown.rd f = s.rd f := by
  simp only [State.safeShown, State.each, channels, List.foldl_cons, List.foldl_nil]
  rw [safeShow_rd fun g hg => h g (List.mem_flatMap.2 ⟨3, by decide, hg⟩),
    safeShow_rd fun g hg => h g (List.mem_flatMap.2 ⟨2, by decide, hg⟩),
    safeShow_rd fun g hg => h g (List.mem_flatMap.2 ⟨1, by decide, hg⟩),
    safeShow_rd fun g hg => h g (List.mem_flatMap.2 ⟨0, by decide, hg⟩)]

theorem safeShown_parts : s.safeShown.ch = s.ch ∧ s.safeShown.flow = s.flow :=
  ⟨each_sameArea (x := .ch) fun _ _ => rfl, each_sameArea (x := .flow) fun _ _ => rfl⟩

theorem safe_apart : ∀ n ∈ channels, ∀ k : Fin 4, k.val ≠ n →
    ∀ g ∈ [OPT_SAFE_STAT.A_ACT n, OPT_SAFE_STAT.B_ACT n, OPT_SAFE_STAT.SHUT n, OPT_SAFE_STAT.DISC_RUN n],
    g.key ≠ (OPT_SAFE_STAT.A_ACT k).key ∧ g.key ≠ (OPT_SAFE_STAT.B_ACT k).key := by decide

theorem pin_apart : ∀ n ∈ channels,
    ∀ g ∈ [OPT_SAFE_STAT.A_ACT n, OPT_SAFE_STAT.B_ACT n, OPT_SAFE_STAT.SHUT n, OPT_SAFE_STAT.DISC_RUN n],
    g.key ≠ PIN.SAFE_A.key ∧ g.key ≠ PIN.SAFE_B.key := by decide

theorem safeShown_act (k : Fin 4) : s.safeShown.rd (OPT_SAFE_STAT.A_ACT k) = s.rd PIN.SAFE_A ∧
    s.safeShown.rd (OPT_SAFE_STAT.B_ACT k) = s.rd PIN.SAFE_B := by
  have hmem : k.val ∈ channels := by revert k; decide
  have key : ∀ l : List Nat, (∀ n ∈ l, n ∈ channels) → ∀ t : State, t.rd PIN.SAFE_A = s.rd PIN.SAFE_A →
      t.rd PIN.SAFE_B = s.rd PIN.SAFE_B → (k.val ∈ l ∨ t.rd (OPT_SAFE_STAT.A_ACT k) = s.rd PIN.SAFE_A ∧
        t.rd (OPT_SAFE_STAT.B_ACT k) = s.rd PIN.SAFE_B) →
      (t.each l (fun n t => t.safeShow n)).rd (OPT_SAFE_STAT.A_ACT k) = s.rd PIN.SAFE_A ∧
        (t.each l (fun n t => t.safeShow n)).rd (OPT_SAFE_STAT.B_ACT k) = s.rd PIN.SAFE_B := by
    intro l
    induction l with
    | nil => exact fun _ _ _ _ h => h.resolve_left (by simp)
    | cons n l ih =>
      intro hl t ha hb h
      have hn := hl n (by simp)
      refine ih (fun m hm => hl m (by simp [hm])) _ ((safeShow_rd fun g hg => (pin_apart n hn g hg).1).trans ha)
        ((safeShow_rd fun g hg => (pin_apart n hn g hg).2).trans hb) ?_
      by_cases hk : k.val = n
      · subst hk
        exact .inr ⟨(safeShow_act _).1.trans ha, (safeShow_act _).2.trans hb⟩
      · refine h.imp (fun h => (List.mem_cons.1 h).resolve_left hk) fun h => ?_
        exact ⟨(safeShow_rd fun g hg => (safe_apart n hn k hk g hg).1).trans h.1,
          (safeShow_rd fun g hg => (safe_apart n hn k hk g hg).2).trans h.2⟩
  exact key channels (fun _ h => h) s rfl rfl (.inl hmem)

theorem deviceReset_eq {c : Nat} (hkeep : s.mode ≠ Mode.keep) (hreset : s.mode ≠ Mode.reset) :
    s.deviceReset c = (((s.cutWrites.wipe false).put PWRC.CAUSE c).bump PWRC.COUNT).safeShown := by
  unfold State.deviceReset
  rw [if_neg (by simp [hkeep, hreset])]
  rfl

theorem resetTo_deviceReset {c : Nat} (hkeep : s.mode ≠ Mode.keep) (hreset : s.mode ≠ Mode.reset)
    (hl : ∀ f ∈ [PWRC.CAUSE, PWRC.COUNT] ++ safeFields, f ∈ l) : ResetTo false l s (s.deviceReset c) := by
  rw [deviceReset_eq hkeep hreset]
  exact ((resetTo_wipe.put (hl _ (by simp))).put (hl _ (by simp))).each fun n hn u hu =>
    resetTo_safeShow hu hn fun f hf => hl f (List.mem_append_right _ hf)

/-- Fields that a device reset keeps and does not set. -/
theorem deviceReset_rd {c : Nat} {f : Field} (hkeep : s.mode ≠ Mode.keep) (hreset : s.mode ≠ Mode.reset)
    (hf : ∀ g ∈ [PWRC.CAUSE, PWRC.COUNT] ++ safeFields, g.key ≠ f.key) :
    (s.deviceReset c).rd f = if keepsKey false f.key then s.rd f else State.reset.rd f :=
  (resetTo_deviceReset hkeep hreset fun _ h => h).2 f hf

/-- The mode, the cause, the count of resets and the safety inputs as a device reset shows them. -/
theorem deviceReset_shows {c : Nat} (hkeep : s.mode ≠ Mode.keep) (hreset : s.mode ≠ Mode.reset) (hc : c < 16) :
    (s.deviceReset c).mode = Mode.reset ∧ (s.deviceReset c).rd PWRC.CAUSE = c ∧
      (s.deviceReset c).rd PWRC.COUNT = s.oneMore PWRC.COUNT ∧
      ∀ k : Fin 4, (s.deviceReset c).rd (OPT_SAFE_STAT.A_ACT k) = s.rd PIN.SAFE_A ∧
        (s.deviceReset c).rd (OPT_SAFE_STAT.B_ACT k) = s.rd PIN.SAFE_B := by
  have kept : ∀ f : Field, keepsKey false f.key = true → (s.cutWrites.wipe false).rd f = s.rd f := fun f hf =>
    (rd_wipe_kept hf).trans (rd_cutWrites hf)
  refine ⟨(deviceReset_rd hkeep hreset (by decide)).trans rfl, ?_, ?_, ?_⟩
  all_goals rw [deviceReset_eq hkeep hreset]
  · rw [safeShown_rd (by decide), rd_bump_ne (by decide), rd_put_same]
    exact Nat.mod_eq_of_lt hc
  · rw [safeShown_rd (by decide), rd_bump_same]
    exact oneMore_congr ((rd_put_ne (by decide)).trans (kept _ (by decide)))
  · intro k
    have hpin : ∀ f : Field, f.key ≠ PWRC.CAUSE.key → f.key ≠ PWRC.COUNT.key → keepsKey false f.key = true →
        (((s.cutWrites.wipe false).put PWRC.CAUSE c).bump PWRC.COUNT).rd f = s.rd f := fun f hcause hcount hf =>
      (rd_bump_ne hcount).trans ((rd_put_ne hcause).trans (kept f hf))
    exact ⟨(safeShown_act k).1.trans (hpin _ (by decide) (by decide) (by decide)),
      (safeShown_act k).2.trans (hpin _ (by decide) (by decide) (by decide))⟩

/-! ## KEEP and the loss of the plinth's supplies -/

theorem resetTo_enterKeep (hhold : PWRC.HOLD ∈ l) (hmode : DEV_MODE.MODE ∈ l) : ResetTo true l s s.enterKeep :=
  (resetTo_wipe.put hhold).put hmode

theorem enterKeep_mode : s.enterKeep.mode = Mode.keep := (rd_put_same ..).trans rfl

theorem enterKeep_rd {f : Field} (hmode : f.key ≠ DEV_MODE.MODE.key) (hhold : f.key ≠ PWRC.HOLD.key)
    (hf : keepsKey true f.key = true) : s.enterKeep.rd f = s.rd f :=
  (rd_put_ne hmode).trans ((rd_put_ne hhold).trans ((rd_wipe_kept hf).trans (rd_cutWrites hf)))

/-- Main rail r + 1 is out of range. -/
def State.railOut (r : Fin 5) (s : State) : State := (s.put PWRC.INT 1).putBit PWRC.OUT (r + 1) true

theorem railOut_bit {r : Fin 5} {k : Nat} (hk : k < 6) :
    (s.railOut r).rdBit PWRC.OUT k = (k == r.val + 1 || s.rdBit PWRC.OUT k) := by
  have hbits : ∀ v < 64, ∀ r : Fin 5, ∀ k : Fin 6, decide (bit (setBit v (r + 1) % 2 ^ 6) k = 1) =
      (k.val == r.val + 1 || decide (bit v k = 1)) := by decide +kernel
  have hread : (s.put PWRC.INT 1).rd PWRC.OUT = s.rd PWRC.OUT := rd_put_ne (by decide)
  unfold State.railOut State.rdBit State.putBit
  rw [rd_put_same, if_pos rfl, hread]
  exact hbits _ (rd_lt s PWRC.OUT) r ⟨k, hk⟩

theorem exec_mainRailLoss {r : Fin 5} (hmode : s.mode ≠ Mode.keep) : exec (.mainRailLoss r false) s = .next
    ((s.railOut r).enterKeep.when (!(s.railOut r).vioOk && (s.railOut r).rdBit PWRC.OUT 0) State.plinthLost) := by
  change Host.Outcome.next ((if s.mode = Mode.keep then s.railOut r else (s.railOut r).enterKeep).when _ _) = _
  rw [if_neg hmode]
  rfl

theorem resetTo_railOut {r : Fin 5} (h : ResetTo true l (s.railOut r) t) (hint : PWRC.INT ∈ l) (hout : PWRC.OUT ∈ l) :
    ResetTo true l s t := (h.of_put hout (by decide)).of_put hint (by decide)

/-- Fields that the loss of the plinth's supplies reaches. -/
def lostFields : List Field :=
  [KEYC.ROOT, KEYC.ROOTST, KEY_STAT.ROOT, KEY_RTC.SEC, KEYC.SUB, CST_INFO.AUTH_REQ] ++ plinthFields

theorem ResetTo.plinthLost (h : ResetTo p l s t) (hl : ∀ f ∈ lostFields, f ∈ l) : ResetTo p l s t.plinthLost := by
  refine (ResetTo.clear (((h.put (hl _ ?_)).put (hl _ ?_)).put (hl _ ?_)) fun f hf => hl f ?_).each fun i hi u hu =>
    hu.clear fun g hg => hl g ?_
  · simp [lostFields]
  · simp [lostFields]
  · simp [lostFields]
  · revert hf
    simp +contextual [lostFields, or_imp]
  · exact List.mem_append_right _ (List.mem_flatMap.2 ⟨i, hi, hg⟩)

theorem plinthLost_rd {f : Field} (h : ∀ g ∈ plinthFields, g.key ≠ f.key) :
    s.plinthLost.rd f = (s.rootLost.clear [KEY_RTC.SEC, KEYC.SUB, CST_INFO.AUTH_REQ]).rd f :=
  sameFields_each (l := plinthFields) (.refl _ _)
    (fun i hi _ hu => sameFields_clear hu fun _ hg => List.mem_flatMap.2 ⟨i, hi, hg⟩) f h

theorem plinthLost_shows : s.plinthLost.mode = s.mode ∧ s.plinthLost.rd KEYC.ROOT = 0 ∧ s.plinthLost.rd KEYC.ROOTST = 2 ∧
    s.plinthLost.rd KEY_RTC.SEC = 0 ∧ s.plinthLost.rd CST_INFO.AUTH_REQ = 0 := by
  refine ⟨?_, ?_, ?_, ?_, ?_⟩
  · refine (plinthLost_rd (by decide)).trans ((rd_clear_ne (by decide)).trans ?_)
    exact (rd_put_ne (by decide)).trans ((rd_put_ne (by decide)).trans (rd_put_ne (by decide)))
  · refine (plinthLost_rd (by decide)).trans ((rd_clear_ne (by decide)).trans ?_)
    exact (rd_put_ne (by decide)).trans ((rd_put_ne (by decide)).trans ((rd_put_same ..).trans (Nat.zero_mod _)))
  · refine (plinthLost_rd (by decide)).trans ((rd_clear_ne (by decide)).trans ?_)
    exact (rd_put_ne (by decide)).trans ((rd_put_same ..).trans rfl)
  · exact (plinthLost_rd (by decide)).trans (rd_clear_same (by simp) (by decide))
  · exact (plinthLost_rd (by decide)).trans (rd_clear_same (by simp) (by decide))

/-! ## The rails and the time source as DEV_PWR_STAT shows them -/

/-- Fields that show the rails and the time source. -/
def powerFields : List Field := [DEV_PWR_STAT.RAIL_OK, DEV_PWR_STAT.VKEEP_OK, DEV_PWR_STAT.TSRC, MON_STAT.OSC 4]

theorem sameFields_showPower (h : SameFields l s t) (hl : ∀ f ∈ powerFields, f ∈ l) : SameFields l s t.showPower := by
  refine sameFields_when_fn h fun u hu => ?_
  exact sameFields_flag_of (sameFields_put_of (sameFields_flag_of (sameFields_put_of hu (hl _ (by simp [powerFields])))
    (hl _ (by simp [powerFields]))) (hl _ (by simp [powerFields]))) (hl _ (by simp [powerFields]))

theorem showPower_parts : s.showPower.ch = s.ch ∧ s.showPower.flow = s.flow ∧ s.showPower.time = s.time := by
  unfold State.showPower
  cases s.answers <;> exact ⟨rfl, rfl, rfl⟩

/-- What is shown while the device answers. -/
theorem showPower_shows (hans : s.answers = true) :
    s.showPower.rd DEV_PWR_STAT.RAIL_OK = (63 - s.rd PWRC.OUT) % 64 ∧
    s.showPower.rd DEV_PWR_STAT.VKEEP_OK = (if s.rdBit PWRC.OUT 0 then 0 else 1) ∧
    s.showPower.rd DEV_PWR_STAT.TSRC = (if !s.on PWRC.NO_MREF then 0 else if !s.on PWRC.NO_LREF then 1 else 2) ∧
    s.showPower.rd (MON_STAT.OSC 4) = (if s.on PWRC.NO_MREF then 1 else 0) := by
  unfold State.showPower
  rw [hans, when_true]
  refine ⟨?_, ?_, ?_, ?_⟩
  · rw [rd_flag_ne (by decide), rd_put_ne (by decide), rd_flag_ne (by decide), rd_put_same]
    rfl
  · rw [rd_flag_ne (by decide), rd_put_ne (by decide), State.flag, rd_put_same]
    have hbit : ∀ b : Bool, (if !b then 1 else 0) % 2 ^ 1 = if b then 0 else 1 := by decide
    exact hbit _
  · have hsrc : ∀ a b : Bool, (if !a then 0 else if !b then 1 else 2) % 2 ^ 2 = if !a then 0 else if !b then 1 else 2 := by decide
    rw [rd_flag_ne (by decide), rd_put_same]
    exact hsrc _ _
  · have hosc : ∀ a : Bool, (if a then 1 else 0) % 2 ^ 1 = if a then 1 else 0 := by decide
    rw [State.flag, rd_put_same]
    exact hosc _

/-! ## BOOT is entered -/

/-- The fields of step 1 of Table 20.5, before the first request to the regulator. -/
def State.bootShown (s : State) : State :=
  { s with time := 0 }.setMode Mode.boot |>.put DEV_RST_STAT.CAUSE (s.rd PWRC.CAUSE)
    |>.put DEV_RST_STAT.COUNT (s.rd PWRC.COUNT) |>.put DEV_SERIAL_LO.SN (s.rd PWRC.SN_LO)
    |>.put DEV_BOOT_STAT.STEP 1 |>.showPower
    |>.flag KEY_STAT.TAMPER_PIN (s.on PIN.TAMPER) |>.flag KEY_STAT.ZEROISE_PIN (s.on PIN.ZEROISE)

/-- Fields of those. -/
def bootShownFields : List Field :=
  [DEV_MODE.MODE, DEV_RST_STAT.CAUSE, DEV_RST_STAT.COUNT, DEV_SERIAL_LO.SN, DEV_BOOT_STAT.STEP] ++ powerFields ++
    [KEY_STAT.TAMPER_PIN, KEY_STAT.ZEROISE_PIN]

theorem setMode_of_ne {m : Nat} (h : s.mode ≠ m) : s.setMode m = (s.put DEV_MODE.MODE m).raise 0 := if_neg h

theorem fieldsKept_setMode {src pmc : List Nat} {m : Nat} (h : FieldsKept l src pmc s t) (hl : DEV_MODE.MODE ∈ l) (hs : 0 ∈ src) :
    FieldsKept l src pmc s (t.setMode m) := by
  unfold State.setMode
  split
  · exact h
  · exact fieldsKept_raise (fieldsKept_put_of h hl) (noticed_of_mem hs)

theorem bootShown_fieldsKept : FieldsKept bootShownFields [0] [] s s.bootShown := by
  have hmode : FieldsKept bootShownFields [0] [] s ({ s with time := 0 }.setMode Mode.boot) :=
    fieldsKept_setMode (fieldsKept_of_regs (.refl _ _ _ s) rfl) (by simp [bootShownFields]) (by simp)
  have hstep : FieldsKept bootShownFields [0] [] s ({ s with time := 0 }.setMode Mode.boot
      |>.put DEV_RST_STAT.CAUSE (s.rd PWRC.CAUSE) |>.put DEV_RST_STAT.COUNT (s.rd PWRC.COUNT)
      |>.put DEV_SERIAL_LO.SN (s.rd PWRC.SN_LO) |>.put DEV_BOOT_STAT.STEP 1) :=
    fieldsKept_put_of (fieldsKept_put_of (fieldsKept_put_of (fieldsKept_put_of hmode (by simp [bootShownFields]))
      (by simp [bootShownFields])) (by simp [bootShownFields])) (by simp [bootShownFields])
  exact fieldsKept_flag_of (fieldsKept_flag_of (hstep.trans (sameFields_showPower (.refl _ _)
    fun f hf => by simp [bootShownFields, hf]).kept) (by simp [bootShownFields])) (by simp [bootShownFields])

/-- A field that only the steps before STEP may set. -/
theorem bootShown_rd {f : Field} (h : ∀ g ∈ powerFields ++ [KEY_STAT.TAMPER_PIN, KEY_STAT.ZEROISE_PIN], g.key ≠ f.key) :
    s.bootShown.rd f = ({ s with time := 0 }.setMode Mode.boot |>.put DEV_RST_STAT.CAUSE (s.rd PWRC.CAUSE)
      |>.put DEV_RST_STAT.COUNT (s.rd PWRC.COUNT) |>.put DEV_SERIAL_LO.SN (s.rd PWRC.SN_LO)
      |>.put DEV_BOOT_STAT.STEP 1).rd f := by
  unfold State.bootShown
  rw [rd_flag_ne (h _ (by simp)).symm, rd_flag_ne (h _ (by simp)).symm]
  exact sameFields_showPower (.refl powerFields _) (fun _ hf => hf) f fun g hg => h g (List.mem_append_left _ hg)

theorem bootShown_parts : s.bootShown.ch = s.ch ∧ s.bootShown.flow = s.flow ∧ s.bootShown.time = 0 := by
  have hmode : ∀ u : State, (u.setMode Mode.boot).ch = u.ch ∧ (u.setMode Mode.boot).flow = u.flow ∧
      (u.setMode Mode.boot).time = u.time := fun u => by
    unfold State.setMode
    split
    · exact ⟨rfl, rfl, rfl⟩
    · exact ⟨raise_ch .., raise_flow .., raise_time ..⟩
  exact ⟨(showPower_parts.1).trans (hmode _).1, (showPower_parts.2.1).trans (hmode _).2.1,
    (showPower_parts.2.2).trans (hmode _).2.2⟩

theorem bootShown_shows (hmode : s.mode = Mode.reset) : s.bootShown.mode = Mode.boot ∧ s.bootShown.rd DEV_BOOT_STAT.STEP = 1 ∧
    s.bootShown.rd DEV_RST_STAT.CAUSE = s.rd PWRC.CAUSE ∧ s.bootShown.rd DEV_RST_STAT.COUNT = s.rd PWRC.COUNT ∧
    s.bootShown.rd (IRQ_PEND 0) = 1 := by
  have hset : ({ s with time := 0 }.setMode Mode.boot) = ({ s with time := 0 }.put DEV_MODE.MODE Mode.boot).raise 0 :=
    setMode_of_ne (ne_of_eq_of_ne hmode (by decide))
  refine ⟨?_, ?_, ?_, ?_, ?_⟩
  all_goals refine (bootShown_rd (by decide)).trans ?_
  · rw [rd_put_ne (by decide), rd_put_ne (by decide), rd_put_ne (by decide), rd_put_ne (by decide), hset,
      rd_raise_quiet (by decide) (quiet_of_isQuiet (by decide)), rd_put_same]
    rfl
  · exact (rd_put_same ..).trans rfl
  · rw [rd_put_ne (by decide), rd_put_ne (by decide), rd_put_ne (by decide), rd_put_same]
    exact Nat.mod_eq_of_lt (rd_lt s PWRC.CAUSE)
  · rw [rd_put_ne (by decide), rd_put_ne (by decide), rd_put_same]
    exact Nat.mod_eq_of_lt (rd_lt s PWRC.COUNT)
  · rw [rd_put_ne (by decide), rd_put_ne (by decide), rd_put_ne (by decide), rd_put_ne (by decide), hset]
    exact raise_pend (by decide)

/-- RESET can end: nothing holds it, and no input of the plinth is active. -/
def State.bootable (s : State) : Prop :=
  s.mode = Mode.reset ∧ s.railsUp = true ∧ s.on PIN.RESET = false ∧ s.on PWRC.INT = false ∧ s.on PWRC.HOLD = false ∧
    s.on PIN.TAMPER = false ∧ s.on PIN.ZEROISE = false

theorem enterBoot_of_released (htamper : s.on PIN.TAMPER = false) (hzero : s.on PIN.ZEROISE = false) :
    s.enterBoot = s.bootShown.requestV (s.rd FAB_VCORE_LIM.IDLE) := by
  change (s.bootShown.requestV (s.rd FAB_VCORE_LIM.IDLE)).when (s.on PIN.TAMPER || s.on PIN.ZEROISE) State.enterLockdown = _
  rw [htamper, hzero]
  rfl

theorem tryBoot_of_bootable (h : s.bootable) : s.tryBoot = s.bootShown.requestV (s.bootShown.rd FAB_VCORE_LIM.IDLE) := by
  obtain ⟨hmode, hrails, hreset, hint, hhold, htamper, hzero⟩ := h
  have hidle : s.bootShown.rd FAB_VCORE_LIM.IDLE = s.rd FAB_VCORE_LIM.IDLE :=
    bootShown_fieldsKept.read (by simp) (by simp) (by decide)
  unfold State.tryBoot
  rw [hrails, hreset, hint, hhold, decide_eq_true hmode, hidle]
  exact enterBoot_of_released htamper hzero

/-- Fields of an entry to BOOT. -/
def bootFields : List Field := bootShownFields ++ requestFields

/-- What an entry to BOOT shows, and what it leaves. -/
theorem tryBoot_boots (h : s.bootable) : (s.tryBoot.mode = Mode.boot ∧ s.tryBoot.time = 0) ∧
    (s.tryBoot.rd DEV_BOOT_STAT.STEP = 1 ∧ s.tryBoot.rd DEV_RST_STAT.CAUSE = s.rd PWRC.CAUSE ∧
      s.tryBoot.rd DEV_RST_STAT.COUNT = s.rd PWRC.COUNT) ∧
    s.tryBoot.rd FAB_GOV_STAT.VREQ = s.clampV (s.rd FAB_VCORE_LIM.IDLE) ∧ s.tryBoot.rd (IRQ_PEND 0) = 1 ∧
    s.tryBoot.ch = s.ch ∧ s.tryBoot.flow = s.flow ∧ FieldsKept bootFields [0] [4] s s.tryBoot := by
  obtain ⟨hmode, hstep, hcause, hcount, hpend⟩ := bootShown_shows h.1
  obtain ⟨hch, hflow, htime⟩ := bootShown_parts (s := s)
  have hkept : ∀ f : Field, isQuiet f.key = true ∧ (∀ g ∈ bootShownFields, g.key ≠ f.key) → s.bootShown.rd f = s.rd f := fun f hf =>
    bootShown_fieldsKept.read (by simp) (by simp) hf
  have hreq : FieldsKept requestFields [] [4] s.bootShown (s.bootShown.requestV (s.bootShown.rd FAB_VCORE_LIM.IDLE)) :=
    requestV_fieldsKept
  have hread : ∀ f : Field, isQuiet f.key = true ∧ (∀ g ∈ requestFields, g.key ≠ f.key) →
      (s.bootShown.requestV (s.bootShown.rd FAB_VCORE_LIM.IDLE)).rd f = s.bootShown.rd f := fun f hf =>
    hreq.read (by simp) (by simp) hf
  rw [tryBoot_of_bootable h]
  refine ⟨⟨(hread _ (by decide)).trans hmode, Eq.trans (count_sameArea .time) htime⟩, ⟨(hread _ (by decide)).trans hstep,
    (hread _ (by decide)).trans hcause, (hread _ (by decide)).trans hcount⟩, ?_, ?_, count_ch.trans hch, count_flow.trans hflow, ?_⟩
  · rw [requestV_vreq]
    unfold State.clampV State.vmax State.vmin
    rw [hkept FAB_VCORE_LIM.VMIN (by decide), hkept FAB_VCORE_LIM.VMAX (by decide), hkept FAB_VCORE_LIM.IDLE (by decide)]
  · exact (hreq.readPend (by simp) (by simp) (by decide) (by decide) (by decide)).trans hpend
  · intro f hn hl
    refine (hreq f (fun hk => hn ?_) fun g hg => hl g (List.mem_append_right _ hg)).trans
      (bootShown_fieldsKept f (fun hk => hn ?_) fun g hg => hl g (List.mem_append_left _ hg))
    · exact noticeKey_mono (by simp) (fun _ h => h) hk
    · exact noticeKey_mono (fun _ h => h) (by simp) hk

end

end Sys2Proof.Machine
end

section
/-! O56. Each clause of the statement. -/

set_option Elab.async false

namespace Sys2Proof.Machine

section
variable {s : State}

/-- RESET_N is asserted on a device that is in neither RESET nor KEEP. -/
theorem exec_resetNAssert (s : State) : exec .resetNAssert s = .next ((s.put PIN.RESET 1).deviceReset 2) := rfl

theorem mode_put {f : Field} {v : Nat} (h : DEV_MODE.MODE.key ≠ f.key) : (s.put f v).mode = s.mode := rd_put_ne h

/-- A device reset after one field of the list is put. -/
theorem resetTo_putReset {l : List Field} {g : Field} {v c : Nat} (hkeep : s.mode ≠ Mode.keep) (hreset : s.mode ≠ Mode.reset)
    (hl : ∀ f ∈ [PWRC.CAUSE, PWRC.COUNT] ++ safeFields, f ∈ l) (hg : g ∈ l) (hmode : DEV_MODE.MODE.key ≠ g.key)
    (hst : CST_STAT.STATE.key ≠ g.key) : ResetTo false l s ((s.put g v).deviceReset c) :=
  (resetTo_deviceReset (by rwa [mode_put hmode]) (by rwa [mode_put hmode]) hl).of_put hg hst

/-- What a device reset shows after a field besides its own is put. -/
theorem putReset_shows {g : Field} {v c : Nat} (hkeep : s.mode ≠ Mode.keep) (hreset : s.mode ≠ Mode.reset) (hc : c < 16)
    (hg : ∀ f ∈ [DEV_MODE.MODE, PWRC.COUNT, PIN.SAFE_A, PIN.SAFE_B], f.key ≠ g.key) :
    ((s.put g v).deviceReset c).mode = Mode.reset ∧ ((s.put g v).deviceReset c).rd PWRC.CAUSE = c ∧
      ((s.put g v).deviceReset c).rd PWRC.COUNT = s.oneMore PWRC.COUNT ∧
      ∀ k : Fin 4, ((s.put g v).deviceReset c).rd (OPT_SAFE_STAT.A_ACT k) = s.rd PIN.SAFE_A ∧
        ((s.put g v).deviceReset c).rd (OPT_SAFE_STAT.B_ACT k) = s.rd PIN.SAFE_B := by
  have hmode := mode_put (s := s) (v := v) (hg DEV_MODE.MODE (by simp))
  obtain ⟨m, cause, count, act⟩ := deviceReset_shows (s := s.put g v) (by rwa [hmode]) (by rwa [hmode]) hc
  exact ⟨m, cause, count.trans (oneMore_congr (rd_put_ne (hg _ (by simp)))), fun k =>
    ⟨(act k).1.trans (rd_put_ne (hg _ (by simp))), (act k).2.trans (rd_put_ne (hg _ (by simp)))⟩⟩

/-! ## The rails -/

/-- A main rail that stays out takes the device to KEEP (R445). -/
theorem mainRailLoss_keeps (r : Fin 5) (hmode : s.mode ≠ Mode.keep) (hkeep : s.rdBit PWRC.OUT 0 = false) :
    ∃ t, exec (.mainRailLoss r false) s = .next t ∧ t.mode = Mode.keep ∧ (t.rd PWRC.INT = 1 ∧ t.rd PWRC.HOLD = 0) ∧
      (∀ k : Fin 6, t.rdBit PWRC.OUT k = (k.val == r.val + 1 || s.rdBit PWRC.OUT k)) ∧
      ResetTo true [PWRC.INT, PWRC.HOLD, PWRC.OUT, DEV_MODE.MODE] s t := by
  have hbit : (s.railOut r).rdBit PWRC.OUT 0 = false := by
    rw [railOut_bit (by decide), hkeep]
    rfl
  refine ⟨_, exec_mainRailLoss hmode, ?_⟩
  rw [hbit, Bool.and_false, when_false]
  refine ⟨enterKeep_mode, ⟨?_, ?_⟩, fun k => ?_, ?_⟩
  · exact (enterKeep_rd (by decide) (by decide) (by decide)).trans ((rd_putBit_ne (by decide)).trans ((rd_put_same ..).trans rfl))
  · exact (rd_put_ne (by decide)).trans ((rd_put_same ..).trans rfl)
  · unfold State.rdBit
    rw [enterKeep_rd (by decide) (by decide) (by decide)]
    exact railOut_bit k.isLt
  · exact resetTo_railOut (resetTo_enterKeep (by simp) (by simp)) (by simp) (by simp)

/-- VIO out while VKEEP is out loses what the plinth holds (R446). -/
theorem mainRailLoss_unpowers (hmode : s.mode ≠ Mode.keep) (hkeep : s.rdBit PWRC.OUT 0 = true) :
    ∃ t, exec (.mainRailLoss 1 false) s = .next t ∧ t.mode = Mode.keep ∧
      (t.rd KEYC.ROOT = 0 ∧ t.rd KEYC.ROOTST = 2 ∧ t.rd KEY_RTC.SEC = 0 ∧ t.rd CST_INFO.AUTH_REQ = 0) ∧
      (ResetTo true ([PWRC.INT, PWRC.HOLD, PWRC.OUT, DEV_MODE.MODE, KEYC.ROOT, KEYC.ROOTST, KEY_STAT.ROOT,
        KEY_RTC.SEC, KEYC.SUB, CST_INFO.AUTH_REQ] ++ plinthFields) s t) := by
  have hkeep' : (s.railOut 1).rdBit PWRC.OUT 0 = true := by
    rw [railOut_bit (by decide), hkeep]
    rfl
  have hvio : (s.railOut 1).vioOk = false := by
    rw [State.vioOk, railOut_bit (by decide)]
    rfl
  obtain ⟨mode, root, rootst, sec, auth⟩ := plinthLost_shows (s := (s.railOut 1).enterKeep)
  refine ⟨_, exec_mainRailLoss hmode, ?_⟩
  rw [hkeep', hvio, Bool.not_false, Bool.and_true, when_true]
  refine ⟨mode.trans enterKeep_mode, ⟨root, rootst, sec, auth⟩, ?_⟩
  refine resetTo_railOut (ResetTo.plinthLost (resetTo_enterKeep (by simp) (by simp)) fun f hf => ?_) (by simp) (by simp)
  refine (List.mem_append.1 hf).elim (fun hf => List.mem_append_left _ ?_) fun hf => List.mem_append_right _ hf
  exact List.mem_cons_of_mem _ (List.mem_cons_of_mem _ (List.mem_cons_of_mem _ (List.mem_cons_of_mem _ hf)))

/-- A rail that is back within 1 µs. -/
theorem mainRailLoss_resets (r : Fin 5) (hkeep : s.mode ≠ Mode.keep) (hreset : s.mode ≠ Mode.reset)
    (hpin : s.on PIN.RESET = false) :
    ∃ t, exec (.mainRailLoss r true) s = .next t ∧ t.mode = Mode.reset ∧
      (t.rd PWRC.INT = 1 ∧ t.rd PWRC.CAUSE = 4 ∧ t.rd PWRC.COUNT = s.oneMore PWRC.COUNT) ∧
      (∀ k : Fin 4, t.rd (OPT_SAFE_STAT.A_ACT k) = s.rd PIN.SAFE_A ∧ t.rd (OPT_SAFE_STAT.B_ACT k) = s.rd PIN.SAFE_B) ∧
      (ResetTo false ([PWRC.INT, PWRC.CAUSE, PWRC.COUNT] ++ safeFields) s t) := by
  have hexec : exec (.mainRailLoss r true) s = .next ((s.put PWRC.INT 1).deviceReset 4) := by
    change Host.Outcome.next ((s.put PWRC.INT 1).deviceReset (if s.on PIN.RESET then 2 else 4)) = _
    rw [hpin, if_neg Bool.false_ne_true]
  have hmode : (s.put PWRC.INT 1).mode = s.mode := mode_put (by decide)
  obtain ⟨mode, cause, count, act⟩ := putReset_shows (g := PWRC.INT) (v := 1) (c := 4) hkeep hreset (by decide) (by decide)
  refine ⟨_, hexec, mode, ⟨?_, cause, count⟩, act, ?_⟩
  · refine (deviceReset_rd (by rwa [hmode]) (by rwa [hmode]) (by decide)).trans ?_
    rw [if_pos (by decide), rd_put_same]
    rfl
  · exact resetTo_putReset hkeep hreset (by simp +contextual) (by simp) (by decide) (by decide)

/-- The last main rail in range ends KEEP. -/
theorem mainRailsUp_resets (hmode : s.mode = Mode.keep) :
    ∃ t, exec .mainRailsUp s = .next t ∧ t.mode = Mode.reset ∧ t.railsUp = true ∧
      (t.rd PWRC.INT = 1 ∧ t.rd PWRC.CAUSE = 1 ∧ t.rd PWRC.COUNT = 0) ∧
      (∀ k : Fin 4, t.rd (OPT_SAFE_STAT.A_ACT k) = s.rd PIN.SAFE_A ∧ t.rd (OPT_SAFE_STAT.B_ACT k) = s.rd PIN.SAFE_B) ∧
      t.ch = s.ch ∧ t.flow = s.flow ∧
      (SameFields ([PWRC.OUT, PWRC.INT, PWRC.CAUSE, PWRC.COUNT, DEV_MODE.MODE] ++ safeFields) s t) := by
  have hexec : exec .mainRailsUp s = .next (((s.put PWRC.OUT (s.rd PWRC.OUT % 2)).put PWRC.INT 1 |>.put PWRC.CAUSE 1
      |>.put PWRC.COUNT 0 |>.put DEV_MODE.MODE Mode.reset).safeShown) := by
    change Host.Outcome.next (s.when (s.mode = Mode.keep) _) = _
    rw [decide_eq_true hmode, when_true]
    rfl
  refine ⟨_, hexec, ?_, ?_, ⟨?_, ?_, ?_⟩, fun k => ⟨(safeShown_act k).1.trans ?_, (safeShown_act k).2.trans ?_⟩, safeShown_parts.1, safeShown_parts.2, ?_⟩
  · exact (safeShown_rd (by decide)).trans ((rd_put_same ..).trans rfl)
  · unfold State.railsUp
    rw [safeShown_rd (by decide), rd_put_ne (by decide), rd_put_ne (by decide), rd_put_ne (by decide), rd_put_ne (by decide),
      rd_put_same]
    exact decide_eq_true (by change s.rd PWRC.OUT % 2 % 64 / 2 = 0; omega)
  · exact (safeShown_rd (by decide)).trans ((rd_put_ne (by decide)).trans ((rd_put_ne (by decide)).trans
      ((rd_put_ne (by decide)).trans ((rd_put_same ..).trans rfl))))
  · exact (safeShown_rd (by decide)).trans ((rd_put_ne (by decide)).trans ((rd_put_ne (by decide)).trans ((rd_put_same ..).trans rfl)))
  · exact (safeShown_rd (by decide)).trans ((rd_put_ne (by decide)).trans ((rd_put_same ..).trans rfl))
  · rw [rd_put_ne (by decide), rd_put_ne (by decide), rd_put_ne (by decide), rd_put_ne (by decide), rd_put_ne (by decide)]
  · rw [rd_put_ne (by decide), rd_put_ne (by decide), rd_put_ne (by decide), rd_put_ne (by decide), rd_put_ne (by decide)]
  · refine SameFields.trans (sameFields_put_of (sameFields_put_of (sameFields_put_of (sameFields_put_of (sameFields_put_of
      (.refl _ s) ?_) ?_) ?_) ?_) ?_) fun f hf => safeShown_rd fun g hg => hf g (List.mem_append_right _ hg)
    all_goals simp

/-! ## VKEEP and the clocks -/

theorem railsUp_out (h : s.railsUp = true) : s.rd PWRC.OUT < 2 := by
  have hdiv : s.rd PWRC.OUT / 2 = 0 := of_decide_eq_true h
  omega

theorem answers_put {f : Field} {v : Nat} (h : DEV_MODE.MODE.key ≠ f.key) : (s.put f v).answers = s.answers := by
  unfold State.answers
  rw [mode_put h]

/-- VKEEP leaves or enters range, as it shows. -/
theorem vkeep_shows (b : Bool) (hans : s.answers = true) (hrails : s.railsUp = true) :
    let t := (s.putBit PWRC.OUT 0 b).showPower
    (t.rd DEV_PWR_STAT.VKEEP_OK = (if b then 0 else 1) ∧ t.rdBit PWRC.OUT 0 = b) ∧
      t.rd DEV_PWR_STAT.RAIL_OK = (if b then 62 else 63) ∧ t.ch = s.ch ∧ t.flow = s.flow ∧
      SameFields [PWRC.OUT, DEV_PWR_STAT.RAIL_OK, DEV_PWR_STAT.VKEEP_OK, DEV_PWR_STAT.TSRC, MON_STAT.OSC 4] s t := by
  intro t
  obtain ⟨rail, vkeep, -, -⟩ := showPower_shows (s := s.putBit PWRC.OUT 0 b) ((answers_put (by decide)).trans hans)
  obtain ⟨hch, hflow, -⟩ := showPower_parts (s := s.putBit PWRC.OUT 0 b)
  have hsame := sameFields_showPower (s := s.putBit PWRC.OUT 0 b) (.refl powerFields _) fun _ h => h
  have hbit : (s.putBit PWRC.OUT 0 b).rdBit PWRC.OUT 0 = b := rdBit_putBit (by decide)
  have hout : (s.putBit PWRC.OUT 0 b).rd PWRC.OUT = if b then 1 else 0 := by
    have hval : ∀ v < 2, ∀ b, (if b = true then setBit v 0 else clrBit v 0) % 2 ^ 6 = if b then 1 else 0 := by decide
    exact (rd_put_same ..).trans (hval _ (railsUp_out hrails) b)
  refine ⟨⟨vkeep.trans (by rw [hbit]), ?_⟩, rail.trans (by rw [hout]; cases b <;> rfl), hch, hflow, ?_⟩
  · unfold State.rdBit
    rw [hsame PWRC.OUT (by decide)]
    exact hbit
  · exact sameFields_showPower (sameFields_put_of (.refl _ s) (by simp)) (by simp [powerFields])

theorem exec_vkeepAbsent (h : s.railsUp = true) : exec .vkeepAbsent s = .next (s.putBit PWRC.OUT 0 true).showPower := by
  change Host.Outcome.next (s.when s.railsUp _) = _
  rw [h, when_true]

theorem exec_vkeepRestored (h : s.railsUp = true) : exec .vkeepRestored s = .next (s.putBit PWRC.OUT 0 false).showPower := by
  change Host.Outcome.next (s.when s.railsUp _) = _
  rw [h, when_true]

/-- MREFCLK goes absent. -/
theorem mrefclkLoss_shows (lref : Bool) (hans : s.answers = true) :
    ∃ t, exec (.mrefclkLoss lref) s = .next t ∧ (t.rd DEV_PWR_STAT.TSRC = if lref then 1 else 2) ∧
      t.rd (MON_STAT.OSC 4) = 1 ∧ t.time = s.time ∧ t.ch = s.ch ∧ t.flow = s.flow ∧
      SameFields [PWRC.NO_MREF, PWRC.NO_LREF, DEV_PWR_STAT.RAIL_OK, DEV_PWR_STAT.VKEEP_OK, DEV_PWR_STAT.TSRC,
        MON_STAT.OSC 4] s t := by
  have hans' : ((s.put PWRC.NO_MREF 1).flag PWRC.NO_LREF (!lref)).answers = true :=
    (answers_put (by decide)).trans ((answers_put (by decide)).trans hans)
  have hmref : ((s.put PWRC.NO_MREF 1).flag PWRC.NO_LREF (!lref)).on PWRC.NO_MREF = true :=
    decide_eq_true ((rd_flag_ne (by decide)).trans ((rd_put_same ..).trans rfl))
  have hlref : ((s.put PWRC.NO_MREF 1).flag PWRC.NO_LREF (!lref)).on PWRC.NO_LREF = !lref := on_flag_same _ _ (by decide)
  obtain ⟨-, -, tsrc, osc⟩ := showPower_shows hans'
  obtain ⟨hch, hflow, htime⟩ := showPower_parts (s := (s.put PWRC.NO_MREF 1).flag PWRC.NO_LREF (!lref))
  refine ⟨_, rfl, tsrc.trans ?_, osc.trans (by rw [hmref]; rfl), htime, hch, hflow, ?_⟩
  · rw [hmref, hlref]
    cases lref <;> rfl
  · exact sameFields_showPower (sameFields_flag_of (sameFields_put_of (.refl _ s) (by simp)) (by simp)) (by simp [powerFields])

/-- MREFCLK returns. -/
theorem mrefclkRestored_shows (hans : s.answers = true) :
    ∃ t, exec .mrefclkRestored s = .next t ∧ t.rd DEV_PWR_STAT.TSRC = 0 ∧ t.rd (MON_STAT.OSC 4) = 0 ∧
      t.time = s.time ∧ t.ch = s.ch ∧ t.flow = s.flow ∧
      SameFields [PWRC.NO_MREF, DEV_PWR_STAT.RAIL_OK, DEV_PWR_STAT.VKEEP_OK, DEV_PWR_STAT.TSRC, MON_STAT.OSC 4] s t := by
  have hmref : (s.put PWRC.NO_MREF 0).on PWRC.NO_MREF = false := decide_eq_false (by rw [rd_put_same]; decide)
  obtain ⟨-, -, tsrc, osc⟩ := showPower_shows (s := s.put PWRC.NO_MREF 0) ((answers_put (by decide)).trans hans)
  obtain ⟨hch, hflow, htime⟩ := showPower_parts (s := s.put PWRC.NO_MREF 0)
  exact ⟨_, rfl, tsrc.trans (by rw [hmref]; rfl), osc.trans (by rw [hmref]; rfl), htime, hch, hflow,
    sameFields_showPower (sameFields_put_of (.refl _ s) (by simp)) (by simp [powerFields])⟩

/-! ## The ends of RESET -/

/-- What ends RESET: the state with that input released boots. -/
theorem releaseBoots {g : Field} (hg : g = PWRC.INT ∨ g = PIN.RESET ∨ g = PWRC.HOLD) (h : (s.put g 0).bootable) :
    ((s.put g 0).tryBoot.mode = Mode.boot ∧ (s.put g 0).tryBoot.time = 0) ∧
    ((s.put g 0).tryBoot.rd DEV_BOOT_STAT.STEP = 1 ∧ (s.put g 0).tryBoot.rd DEV_RST_STAT.CAUSE = s.rd PWRC.CAUSE ∧
      (s.put g 0).tryBoot.rd DEV_RST_STAT.COUNT = s.rd PWRC.COUNT) ∧
    (s.put g 0).tryBoot.rd FAB_GOV_STAT.VREQ = s.clampV (s.rd FAB_VCORE_LIM.IDLE) ∧ (s.put g 0).tryBoot.rd (IRQ_PEND 0) = 1 ∧
    (s.put g 0).tryBoot.ch = s.ch ∧ (s.put g 0).tryBoot.flow = s.flow ∧
    FieldsKept (g :: bootFields) [0] [4] s (s.put g 0).tryBoot := by
  have hread : ∀ f ∈ [PWRC.CAUSE, PWRC.COUNT, FAB_VCORE_LIM.IDLE, FAB_VCORE_LIM.VMIN, FAB_VCORE_LIM.VMAX],
      (s.put g 0).rd f = s.rd f := fun f hf => rd_put_ne (by
    rcases hg with rfl | rfl | rfl <;> revert f <;> decide)
  have hclamp : (s.put g 0).clampV ((s.put g 0).rd FAB_VCORE_LIM.IDLE) = s.clampV (s.rd FAB_VCORE_LIM.IDLE) := by
    unfold State.clampV State.vmax State.vmin
    rw [hread FAB_VCORE_LIM.IDLE (by simp), hread FAB_VCORE_LIM.VMIN (by simp), hread FAB_VCORE_LIM.VMAX (by simp)]
  obtain ⟨mode, ⟨step, cause, count⟩, vreq, pend, hch, hflow, hkept⟩ := tryBoot_boots h
  refine ⟨mode, ⟨step, cause.trans (hread _ (by simp)), count.trans (hread _ (by simp))⟩, vreq.trans hclamp, pend, hch, hflow, ?_⟩
  exact (fieldsKept_put_of (.refl _ _ _ s) (by simp)).trans (hkept.mono fun f hf => List.mem_cons_of_mem _ hf)

theorem bootable_put {g : Field} (hmode : s.mode = Mode.reset) (hrails : s.railsUp = true)
    (hg : g.key ≠ DEV_MODE.MODE.key ∧ g.key ≠ PWRC.OUT.key ∧ g.key ≠ PIN.TAMPER.key ∧ g.key ≠ PIN.ZEROISE.key)
    (htamper : s.on PIN.TAMPER = false) (hzero : s.on PIN.ZEROISE = false)
    (hreset : (s.put g 0).on PIN.RESET = false) (hint : (s.put g 0).on PWRC.INT = false) (hhold : (s.put g 0).on PWRC.HOLD = false) :
    (s.put g 0).bootable := by
  obtain ⟨hkmode, hkout, hktamper, hkzero⟩ := hg
  refine ⟨(mode_put hkmode.symm).trans hmode, ?_, hreset, hint, hhold, ?_, ?_⟩
  · unfold State.railsUp
    rw [rd_put_ne hkout.symm]
    exact hrails
  · unfold State.on
    rw [rd_put_ne hktamper.symm]
    exact htamper
  · unfold State.on
    rw [rd_put_ne hkzero.symm]
    exact hzero

theorem on_put_zero (f : Field) (s : State) : (s.put f 0).on f = false := decide_eq_false (by rw [rd_put_same, Nat.zero_mod]; decide)

theorem on_put_ne {f g : Field} {v : Nat} (h : f.key ≠ g.key) : (s.put g v).on f = s.on f := by
  unfold State.on
  rw [rd_put_ne h]

theorem exec_internalResetEnd (h : s.railsUp = true) : exec .internalResetEnd s = .next (s.put PWRC.INT 0).tryBoot := by
  change Host.Outcome.next (s.when s.railsUp _) = _
  rw [h, when_true]

/-- With RESET_N active the device stays in RESET. -/
theorem internalResetEnd_held (hrails : s.railsUp = true) (hpin : s.on PIN.RESET = true) :
    exec .internalResetEnd s = .next (s.put PWRC.INT 0) := by
  rw [exec_internalResetEnd hrails]
  unfold State.tryBoot
  rw [on_put_ne (by decide), hpin, Bool.not_true, Bool.and_false, Bool.false_and, Bool.false_and, when_false]

/-! ## DEV_RST_CMD (R451) -/

/-- The fields of DEV_RST_CMD. -/
def resetCommandRow : List FSpec := [⟨DEV_RST_CMD.GO, .wo, .live, 3, .any⟩, ⟨DEV_RST_CMD.CODE, .wo, .live, 3, .any⟩]

theorem fieldsAt_resetCommand : s.fieldsAt 0x40 = resetCommandRow :=
  fieldsAt_of_plain (r := ⟨0x40, [], 1, .plain, resetCommandRow⟩) (d := 0) rfl rfl rfl

theorem exec_deviceResetCommand {win : Fin 7} {value : Word} (hopen : s.writeOpen win 3)
    (hgo : DEV_RST_CMD.GO.of value.toNat = 1) (hcode : DEV_RST_CMD.CODE.of value.toNat = 0x5A) :
    exec (.deviceResetCommand win value 15) s = .next ((s.deviceReset 3).put PWRC.HOLD 1) := by
  refine congrArg Host.Outcome.next (hostWrite_of_commands (f := ⟨DEV_RST_CMD.GO, .wo, .live, 3, .any⟩) hopen rfl (by decide)
    fieldsAt_resetCommand (List.mem_cons_self ..) (by simp [CommandsOf, resetCommandRow]) (fun g hg => ?_) ?_)
  · simp [resetHook, hcode]
  · simp only [resetHook, hcode, resetCommandRow, hgo, List.map_cons, List.map_nil]
    rw [wroteOne_of_find rfl]
    rfl

end

/-- Settles O56: a reset wipes what it does not keep, KEEP and the loss of the plinth's supplies besides, and the released
input of RESET enters BOOT. -/
theorem resetsAndRails : Obligations.ResetsAndRails := by
  unfold Obligations.ResetsAndRails
  refine ⟨?_, ?_, ?_, ?_, ?_, ?_, ?_, ?_, ?_, ?_, ?_, ?_, ?_, ?_, ?_⟩
  · exact fun s r hmode hkeep => mainRailLoss_keeps r hmode hkeep
  · exact fun s r hkeep hreset hpin => mainRailLoss_resets r hkeep hreset hpin
  · exact fun s hmode => mainRailsUp_resets hmode
  · exact fun s hans hrails => ⟨_, exec_vkeepAbsent hrails, vkeep_shows true hans hrails⟩
  · exact fun s hans hrails => ⟨_, exec_vkeepRestored hrails, vkeep_shows false hans hrails⟩
  · exact fun s lref hans => mrefclkLoss_shows lref hans
  · exact fun s hans => mrefclkRestored_shows hans
  · rintro s hmode hrails ⟨hreset, hhold⟩ ⟨htamper, hzero⟩
    have hboot : (s.put PWRC.INT 0).bootable := bootable_put hmode hrails (by decide) htamper hzero
      ((on_put_ne (by decide)).trans hreset) (on_put_zero ..) ((on_put_ne (by decide)).trans hhold)
    obtain ⟨mode, step, vreq, pend, hch, hflow, hkept⟩ := releaseBoots (.inl rfl) hboot
    refine ⟨_, exec_internalResetEnd hrails, mode, step, vreq.trans ?_, pend, hch, hflow, hkept⟩
    exact (Nat.mod_eq_of_lt (clampV_lt s _)).symm
  · intro s hrails hpin
    exact ⟨_, internalResetEnd_held hrails hpin, (rd_put_same ..).trans rfl, rfl, rfl, fun f hf => rd_put_ne (hf _ (by simp)).symm⟩
  · intro s hkeep hreset
    have hmode : (s.put PIN.RESET 1).mode = s.mode := mode_put (by decide)
    have hread : ∀ f : Field, f.key ≠ PIN.RESET.key → (∀ g ∈ [PWRC.CAUSE, PWRC.COUNT] ++ safeFields, g.key ≠ f.key) →
        keepsKey false f.key = true → ((s.put PIN.RESET 1).deviceReset 2).rd f = s.rd f := fun f hpin hf hk => by
      rw [deviceReset_rd (by rwa [hmode]) (by rwa [hmode]) hf, if_pos hk, rd_put_ne hpin]
    obtain ⟨mode, cause, count, act⟩ := putReset_shows (g := PIN.RESET) (v := 1) (c := 2) hkeep hreset (by decide) (by decide)
    refine ⟨_, exec_resetNAssert s, mode, ⟨?_, cause, count⟩, ⟨hread _ (by decide) (by decide) (by decide),
      hread _ (by decide) (by decide) (by decide)⟩, act, ?_⟩
    · rw [deviceReset_rd (by rwa [hmode]) (by rwa [hmode]) (by decide), if_pos (by decide), rd_put_same]
      rfl
    · exact resetTo_putReset hkeep hreset (by simp +contextual) (by simp) (by decide) (by decide)
  · rintro s hmode hrails ⟨hint, hhold⟩ ⟨htamper, hzero⟩
    have hboot : (s.put PIN.RESET 0).bootable := bootable_put hmode hrails (by decide) htamper hzero (on_put_zero ..)
      ((on_put_ne (by decide)).trans hint) ((on_put_ne (by decide)).trans hhold)
    obtain ⟨mode, ⟨step, cause, -⟩, -, pend, hch, hflow, hkept⟩ := releaseBoots (.inr (.inl rfl)) hboot
    exact ⟨_, rfl, mode, ⟨step, cause⟩, pend, hch, hflow, hkept⟩
  · intro s win value hopen hgo hcode
    have hmode : s.mode ≠ Mode.keep ∧ s.mode ≠ Mode.reset := by simpa [State.answers] using hopen.1
    obtain ⟨mode, cause, count, act⟩ := deviceReset_shows (s := s) (c := 3) hmode.1 hmode.2 (by decide)
    refine ⟨_, exec_deviceResetCommand hopen hgo hcode, (mode_put (by decide)).trans mode, ⟨(rd_put_ne (by decide)).trans cause,
      (rd_put_ne (by decide)).trans count, (rd_put_same ..).trans rfl⟩, fun k => ⟨?_, ?_⟩, ?_⟩
    · exact (rd_put_ne (by revert k; decide)).trans (act k).1
    · exact (rd_put_ne (by revert k; decide)).trans (act k).2
    · exact (resetTo_deviceReset hmode.1 hmode.2 (by simp +contextual)).put (by simp)
  · rintro s hmode hrails ⟨hreset, hint⟩ ⟨htamper, hzero⟩
    have hboot : (s.put PWRC.HOLD 0).bootable := bootable_put hmode hrails (by decide) htamper hzero
      ((on_put_ne (by decide)).trans hreset) ((on_put_ne (by decide)).trans hint) (on_put_zero ..)
    obtain ⟨mode, ⟨step, cause, -⟩, -, pend, hch, hflow, hkept⟩ := releaseBoots (.inr (.inr rfl)) hboot
    exact ⟨_, rfl, mode, ⟨step, cause⟩, pend, hch, hflow, hkept⟩
  · exact fun s hmode hkeep => mainRailLoss_unpowers hmode hkeep
  · intro s hkeep hreset hst
    have hmode : (s.put PIN.RESET 1).mode = s.mode := mode_put (by decide)
    have hcst : (s.put PIN.RESET 1).cst = Cst.storing := (rd_put_ne (by decide)).trans hst
    have hreset' := resetTo_deviceReset (s := s.put PIN.RESET 1) (c := 2) (by rwa [hmode]) (by rwa [hmode]) fun _ h => h
    refine ⟨_, exec_resetNAssert s, (congrArg State.bootImage hreset'.1).trans ?_,
      (putReset_shows (g := PIN.RESET) (v := 1) (c := 2) hkeep hreset (by decide) (by decide)).1⟩
    unfold State.cutWrites State.castStoreCut
    rw [hcst]
    rfl

end Sys2Proof.Machine
end

section
/-! O16, O25, O29, O39. A channel's records may hold a position whose spare carries any number, and the word that shows a
slice's state has no upper limit: where a channel leaves DARK or enters it, the mark of that spare can fall on a cell that
the statement takes to keep what the command had put there. -/

set_option Elab.async false

namespace Sys2Proof.Machine

/-- The number of a slice whose state would stand in the word of a field. -/
def sliceAt (f : Field) : Nat := (f.addr - 0x10200000) / 4

/-- A position of converter 0 that is regained, with a spare at a stage. -/
def regained (stage : SwapStage) : Swap := ⟨0, 0, none, stage⟩

/-- Channel 0 has these records, and nothing else is in flight. -/
def onlyChannel (c : Chan) : Quad Chan := ⟨c, Chan.reset, Chan.reset, Chan.reset⟩

/-! ## O16: light -/

/-- Channel 0 is at the last step of the ramp that lights it, and its record of a spare in SHADOW points at the cell that shows a
ramp in progress. -/
def lastRampState : State :=
  { (State.reset.put (OPTC.RAMPING 0) 1 |>.put (OPTC.RAMP_K 0) 63 |>.put (OPT_STAT.PHASE 0) Phase.rampUp) with
    ch := onlyChannel { Chan.reset with swaps := [regained (.shadow (sliceAt (OPTC.RAMPING 0)))] } }

/-- The spare is freed as the channel leaves DARK, after the ramp has ended. -/
theorem rampStep_ramps : ∃ t, exec (.rampStep 0) lastRampState = .next t ∧ t.rd (OPTC.RAMPING 0) ≠ 0 :=
  ⟨_, rfl, by decide +kernel⟩

/-- Refutes O16: clause 15 says that no ramp is in progress once the channel is lit, and the spare that the channel frees as it
becomes ACQUIRING can mark that very cell. -/
theorem not_laserEnableToLight : ¬ Obligations.LaserEnableToLight := by
  unfold Obligations.LaserEnableToLight
  rintro ⟨-, -, -, -, -, -, -, -, -, -, -, -, -, -, lights, -⟩
  obtain ⟨t, ht, -, ramping, -⟩ := lights lastRampState 0 (by decide +kernel) (by decide +kernel) (by decide +kernel)
  obtain ⟨u, hu, ramps⟩ := rampStep_ramps
  cases hu.symm.trans ht
  exact ramps ramping

/-! ## O25: a resize converges -/

/-- The receiver's measurements meet R149. -/
def settledDsp : RxDsp :=
  { RxDsp.none with taps := [[⟨1, 0⟩]], cx := (1, 1), cy := (1, 1), lastX := (1, 1), lastY := (1, 1) }

/-- Channel 0 is RESIZING, its receiver has switched, and its eighth window ends; its record of a spare in SHADOW points at the
cell of the RESIZE flag. -/
def lastWindowState : State :=
  { (State.reset.put (LDS_CH_STATE.STATE 0) ChSt.resizing |>.put (LFR_STAT.FSTATE 0) 2 |>.put (LDS_EQ_STAT.WINOK 0) 7
      |>.put (LDS_RSZ_STAT.STATE 0) RszSt.resizing) with
    ch := onlyChannel { Chan.reset with
      swaps := [regained (.shadow (sliceAt (LFRC.TX_RESIZE 0)))], rsz := { Rsz.none with rxAt := some 0 }, dsp := settledDsp } }

/-- The spare is freed as the channel returns to IN_SERVICE, after the flag has cleared. -/
theorem convergenceWindowEnd_flags :
    ∃ t, exec (.convergenceWindowEnd 0) lastWindowState = .next t ∧ t.rd (LFRC.TX_RESIZE 0) ≠ 0 :=
  ⟨_, rfl, by decide +kernel⟩

/-- Refutes O25: clause 4 says that the RESIZE flag is clear once the resize is done, and the spare that the channel frees as it
returns to IN_SERVICE can mark that very cell. -/
theorem not_tilesAndLinkQuality : ¬ Obligations.TilesAndLinkQuality := by
  unfold Obligations.TilesAndLinkQuality
  rintro ⟨-, -, -, converges, -⟩
  obtain ⟨t, ht, -, -, -, -, -, -, flag, -⟩ := converges lastWindowState 0 0 (by decide +kernel) (by decide +kernel)
    (by decide +kernel) (by decide +kernel) (by decide +kernel) (by decide +kernel) (by decide +kernel) rfl rfl
  obtain ⟨u, hu, flags⟩ := convergenceWindowEnd_flags
  cases hu.symm.trans ht
  exact flags flag

/-! ## O29: frame delineation -/

/-- A profile of a native mode. -/
def framedProfile : Profile := ⟨1, 5600, 2, 100, 0, 4, 1, 0, false, 0, 0, 0, 0, [], [], []⟩

/-- A header of frame 1, as its bits stand in the data stream. -/
def headerStream : List (Bool × Bool) :=
  (byteBits (frameSent false (headerBytes false ⟨0, true, 1, false, 0, 1, 0, 0, 0, false⟩ (List.replicate 16 0)))).map (·, false)

/-- Channel 0 is at step 8 of Table 6.4 and in PRESYNC with one good header; its record of a spare in SHADOW points at the cell
of the run of bad headers. -/
def secondHeaderState : State :=
  { (State.reset.put (LDS_CH_STATE.STATE 0) ChSt.acquiring |>.put (LDS_ACQ_STAT.STEP 0) 8 |>.put (FEC_STAT.CW_ALIGN 0) 1
      |>.put (LFR_STAT.FSTATE 0) 1 |>.put (LFRC.GOOD 0) 1) with
    ch := onlyChannel { Chan.reset with
      prof := [some framedProfile], swaps := [regained (.shadow (sliceAt (LFRC.BAD 0)))],
      rx := { LineRx.none with bits := headerStream } } }

/-- The header that stands next. -/
def secondHeader : Header :=
  (headerOf (secondHeaderState.on (LFR_CTRL.G2 0)) (bitBytes (((((secondHeaderState.takeFrame 0 framedProfile).chan 0).rx.bits).take
    768).map (·.1)))).1

theorem secondHeader_here : secondHeaderState.headerHere 0 framedProfile secondHeader :=
  ⟨by decide +kernel, by decide +kernel, by decide +kernel, by decide +kernel, by decide +kernel, rfl⟩

/-- The spare is freed as the channel is LOCKED, after the run of bad headers has restarted. -/
theorem frameHeaderReceived_runs :
    ∃ t, exec (.frameHeaderReceived 0 true) secondHeaderState = .next t ∧ t.rd (LFRC.BAD 0) ≠ 0 :=
  ⟨_, rfl, by decide +kernel⟩

/-- Refutes O29: clause 5 says that the run of bad headers is 0 on entry to SYNC, and the spare that the channel frees as it is
LOCKED can mark that very cell. -/
theorem not_frameDelineation : ¬ Obligations.FrameDelineation := by
  unfold Obligations.FrameDelineation
  rintro ⟨-, -, -, -, enters, -⟩
  obtain ⟨t, ht, -, -, -, run, -⟩ := enters secondHeaderState 0 true framedProfile secondHeader secondHeader_here
    (by decide +kernel) (by decide +kernel) (by decide +kernel)
  obtain ⟨u, hu, runs⟩ := frameHeaderReceived_runs
  cases hu.symm.trans ht
  exact runs run

/-! ## O39: LOCKDOWN -/

/-- The device is in BOOT, and channel 0's record of a spare that is ready points at the cell of the root key. -/
def rootSpareState : State :=
  { (State.reset.put DEV_MODE.MODE Mode.boot) with
    ch := onlyChannel { Chan.reset with swaps := [regained (.ready (sliceAt KEYC.ROOT))] } }

/-- The spare takes its place as the channel is cut, on the root key. -/
theorem zeroiseInput_marks : ∃ t, exec (.zeroiseInput true) rootSpareState = .next t ∧ t.rd KEYC.ROOT ≠ rootSpareState.rd KEYC.ROOT :=
  ⟨_, rfl, by decide +kernel⟩

/-- Refutes O39: clause 2 says that ZEROISE_N leaves the root key, and the spare that takes its place as LOCKDOWN cuts the channel
can mark that very cell. -/
theorem not_lockdownErasesEveryKey : ¬ Obligations.LockdownErasesEveryKey := by
  unfold Obligations.LockdownErasesEveryKey
  rintro ⟨-, zeroises, -⟩
  obtain ⟨t, ht, -, -, -, -, -, root, -⟩ := zeroises rootSpareState (by decide +kernel) (by decide +kernel) (by decide +kernel)
  obtain ⟨u, hu, marks⟩ := zeroiseInput_marks
  cases hu.symm.trans ht
  exact marks root

end Sys2Proof.Machine
end

section
/-! SUPPORT. What a flow operation changes, channels that are left alone, and what a change of a channel's lanes, members or
calendars reaches: RX_UP and the clients (R239, R252). -/

set_option Elab.async false

namespace Sys2Proof.Machine

/-! ## Flow operations -/

section
variable {s t u : State} {n : Nat} {f : Flow → Flow} {l : List Field} {src pmc : List Nat}

theorem wrapped_lt {m i k : Nat} {a b : List Nat} (h : i ∈ wrapped m k a b) : i < k + a.length := by
  induction a generalizing k b with
  | nil => simp [wrapped] at h
  | cons x a ih =>
    cases b with
    | nil => simp [wrapped] at h
    | cons y b =>
      unfold wrapped at h
      simp only [List.length_cons]
      split at h
      · have := ih h
        omega
      · rcases List.mem_cons.1 h with rfl | h
        · omega
        · have := ih h
          omega

theorem wrapped_self (m k : Nat) (a : List Nat) : wrapped m k a a = [] := by
  induction a generalizing k with
  | nil => rfl
  | cons x a ih => rw [wrapped, if_pos rfl, ih]

theorem flowOp_sameArea (x : Area) (hx : x ≠ .flow) : SameArea s (s.flowOp n f) x := by
  have hwrap : ∀ (i : Nat) (t : State), SameArea t ((t.putBit (FABC.WRAP n) i true).pmcWrap n i) x := fun i t =>
    (kept_pmcWrap (A := fun _ => False) (kept_putBit (.refl t))).same x id
  have hover : ∀ (j : Nat) (t : State), SameArea t (t.pmcOverflow n (9 + 2 * j)) x := fun j t =>
    (kept_pmcOverflow (A := fun _ => False) (.refl t)).same x id
  have hflow : SameArea s (s.onFlow n f) x := by cases x <;> simp_all [SameArea, State.onFlow]
  exact (hflow.trans (each_sameArea hwrap)).trans (each_sameArea hover)

theorem flowOp_ch : (s.flowOp n f).ch = s.ch := flowOp_sameArea .ch (by decide)

theorem flowOp_flow : (s.flowOp n f).flow = s.flow.set n (f (s.flow.get n)) := by
  have hwrap : ∀ (i : Nat) (t : State), SameArea t ((t.putBit (FABC.WRAP n) i true).pmcWrap n i) .flow := fun i t =>
    (kept_pmcWrap (A := fun _ => False) (kept_putBit (.refl t))).same .flow id
  have hover : ∀ (j : Nat) (t : State), SameArea t (t.pmcOverflow n (9 + 2 * j)) .flow := fun j t =>
    (kept_pmcOverflow (A := fun _ => False) (.refl t)).same .flow id
  have hafter : SameArea (s.onFlow n f) (s.flowOp n f) .flow := (each_sameArea hwrap).trans (each_sameArea hover)
  exact hafter

theorem fieldsKept_pmcWrap {i : Nat} (h : FieldsKept l src pmc s t) (hn : n ∈ pmc) (hi : i < 512) (hlt : n < 4) :
    FieldsKept l src pmc s (t.pmcWrap n i) := by
  refine fieldsKept_raise (fieldsKept_put_notice (fieldsKept_put_notice h (noticeKey_sticky hn hi)) (noticeKey_wrap hn))
    (noticed_of_overflow hn ?_)
  simp [overflowSources, hlt]

/-- A flow operation shows in WRAP, where an In or Out counter passes 2^48 - 1, and in the channel's performance counters. -/
theorem fieldsKept_flowOp (h : FieldsKept l src pmc s t) (hn : n ∈ pmc) (hlt : n < 4)
    (hw : FABC.WRAP n ∈ l ∨ (f (t.flow.get n)).led.io = (t.flow.get n).led.io) : FieldsKept l src pmc s (t.flowOp n f) := by
  refine fieldsKept_each (fieldsKept_each (t := t.onFlow n f) (fieldsKept_of_regs h rfl) fun i hi u hu => ?_) fun j hj u hu =>
    fieldsKept_pmcOverflow hu hn (by have := wrapped_lt hj; simp only [Ledger.pairs, List.length_cons, List.length_nil] at this; omega)
  refine fieldsKept_pmcWrap ?_ hn (by have := wrapped_lt hi; simp only [Ledger.io, List.length_cons, List.length_nil] at this; omega) hlt
  rcases hw with hw | hw
  · exact fieldsKept_putBit_of hu hw
  · have hget : ((t.onFlow n f).flow.get n).led.io = (t.flow.get n).led.io :=
      (congrArg (fun g : Flow => g.led.io) (quad_get_set_same t.flow n (f (t.flow.get n)))).trans hw
    rw [hget, wrapped_self] at hi
    exact absurd hi (by simp)

/-! ## The other channels -/

/-- The tokens of every other channel stay. -/
def OnlyFlow (n : Nat) (s t : State) : Prop := ∃ c, t.flow = s.flow.set n c

theorem OnlyFlow.of_eq (h : t.flow = s.flow) : OnlyFlow n s t := ⟨s.flow.get n, by
  rw [h]
  match n with
  | 0 | 1 | 2 | _ + 3 => rfl⟩

theorem OnlyFlow.trans (h : OnlyFlow n s t) (k : OnlyFlow n t u) : OnlyFlow n s u := by
  obtain ⟨c, hc⟩ := h
  obtain ⟨d, hd⟩ := k
  exact ⟨d, by rw [hd, hc, quad_set_set]⟩

theorem onlyFlow_flowOp : OnlyFlow n s (s.flowOp n f) := ⟨_, flowOp_flow⟩

theorem OnlyFlow.get {n m : Fin 4} (h : OnlyFlow n s t) (hm : m.val ≠ n) : t.flow.get m = s.flow.get m := by
  obtain ⟨c, hc⟩ := h
  rw [hc, quad_get_set_other _ _ n.isLt m.isLt (Ne.symm hm)]

/-- The other channels keep what they hold, when neither their records nor the fields of their state and light are touched. -/
theorem othersKept_of_fieldsKept {n : Fin 4} (hflow : OnlyFlow n s t) (hch : OnlyChan n s t) (h : FieldsKept l src pmc s t)
    (hs : ∀ M ∈ src, M < 2048) (hp : ∀ b ∈ pmc, b < 5)
    (hl : ∀ m : Fin 4, m.val ≠ n → ∀ g ∈ l, g.key ≠ (LDS_CH_STATE.STATE m).key ∧ g.key ≠ (OPT_STAT.PHASE m).key) :
    OthersKept n s t := by
  have quiet : ∀ m : Fin 4, isQuiet (LDS_CH_STATE.STATE m).key = true ∧ isQuiet (OPT_STAT.PHASE m).key = true := by decide
  exact fun m hm => ⟨hflow.get hm, hch.get hm, h.read hs hp ⟨(quiet m).1, fun g hg => (hl m hm g hg).1⟩,
    h.read hs hp ⟨(quiet m).2, fun g hg => (hl m hm g hg).2⟩⟩

end

/-! ## The clients of a channel -/

section
variable {s t u : State} {n c : Nat}

theorem clients_lt (h : c ∈ s.clients n) : c < 256 := by
  obtain ⟨p, -, hp⟩ := List.mem_filterMap.1 h
  split at hp
  next hc =>
    simp only [Bool.and_eq_true, decide_eq_true_eq] at hc
    cases hp
    exact hc.2
  · exact absurd hp (by simp)

/-- A change reaches the clients of channel n at most: their states, credits and egress. -/
structure ClientsMoved (n : Nat) (s t : State) : Prop where
  fields : FieldsKept (clientFields n) [sourceOf n 0x61] [n, 4] s t
  egress : t.ch = s.ch.set n { s.chan n with egress := (t.chan n).egress }
  flow : OnlyFlow n s t
  tok : (t.flow.get n).tok = (s.flow.get n).tok

theorem set_chan : s.ch.set n { s.chan n with egress := (s.chan n).egress } = s.ch := by
  match n with
  | 0 | 1 | 2 | _ + 3 => rfl

theorem egress_of_same (h : t.ch = s.ch) : t.ch = s.ch.set n { s.chan n with egress := (t.chan n).egress } := by
  rw [show t.chan n = s.chan n from congrArg (fun q => Quad.get q n) h, h]
  exact set_chan.symm

theorem ClientsMoved.refl (n : Nat) (s : State) : ClientsMoved n s s := ⟨.refl _ _ _ s, set_chan.symm, .of_eq rfl, rfl⟩

theorem ClientsMoved.trans (h : ClientsMoved n s t) (k : ClientsMoved n t u) : ClientsMoved n s u := by
  refine ⟨h.fields.trans k.fields, ?_, h.flow.trans k.flow, k.tok.trans h.tok⟩
  have hchan : t.chan n = { s.chan n with egress := (t.chan n).egress } :=
    (congrArg (fun q => Quad.get q n) h.egress).trans (quad_get_set_same ..)
  rw [k.egress, hchan, h.egress, quad_set_set]

theorem ClientsMoved.put {f : Field} {v : Nat} (h : ClientsMoved n s t) (hf : f ∈ clientFields n) : ClientsMoved n s (t.put f v) :=
  h.trans ⟨fieldsKept_put_of (.refl _ _ _ t) hf, set_chan.symm, .of_eq rfl, rfl⟩

theorem client_mem (hc : c < 256) : ∀ f ∈ [HST_CLI.IN n c, HST_CLI.OUT n c, HST_CLI.REPL n c, HST_CLI.MAPPED n c,
    HST_CLI.CREDITED n c, HSTC.FIFO n c], f ∈ clientFields n :=
  fun _ hf => List.mem_cons_of_mem _ (List.mem_flatMap.2 ⟨c, List.mem_range.2 hc, hf⟩)

theorem replaceEnter_moved (hn : n < 4) (hc : c < 256) : ClientsMoved n s (s.replaceEnter n c) := by
  have hf : FieldsKept (clientFields n) [sourceOf n 0x61] [n, 4] s
      (((s.put (HST_CLI.IN n c) 2).bump (HST_CLI.REPL n c)).put (HST_STAT.REPL_EV n) 1) :=
    fieldsKept_put_of (fieldsKept_bump_of (fieldsKept_put_of (.refl _ _ _ s) (client_mem hc _ (by simp)))
      (client_mem hc _ (by simp))) (List.mem_cons_self ..)
  have hch : ∀ v : State, ((v.raiseCh n 0x61).count n .hst 0x06).ch = v.ch := fun v => count_ch.trans (raiseCh_ch ..)
  have hfl : ∀ v : State, ((v.raiseCh n 0x61).count n .hst 0x06).flow = v.flow := fun v => count_flow.trans (raiseCh_flow ..)
  have hflow : (s.replaceEnter n c).flow = s.flow.set n (Flow.crdReclaim (fun x => x = c) (s.flow.get n)) :=
    flowOp_flow.trans (congrArg (fun q : Quad Flow => q.set n (Flow.crdReclaim (fun x => x = c) (q.get n))) (hfl _))
  refine ⟨fieldsKept_flowOp (fieldsKept_count (fieldsKept_raiseCh hf (by simp)) (by simp)) (by simp) hn (.inr rfl),
    egress_of_same (flowOp_ch.trans (hch _)), ⟨_, hflow⟩, ?_⟩
  rw [hflow, quad_get_set_same]
  rfl

theorem dropFifo_moved (hc : c < 256) : ClientsMoved n s (s.dropFifo n c) := by
  have hchan : (s.dropFifo n c).chan n = { s.chan n with egress := (s.chan n).egress.filter (fun e => e.1 ≠ c) } :=
    quad_get_set_same ..
  refine ⟨fieldsKept_of_regs (fieldsKept_put_of (f := HSTC.FIFO n c) (v := 0) (.refl _ _ _ s) (client_mem hc _ (by simp))) rfl, ?_, .of_eq rfl, rfl⟩
  rw [hchan]
  rfl

theorem clientRefresh_moved (hn : n < 4) (hc : c < 256) : ClientsMoved n s (s.clientRefresh n c) := by
  have mem := fun f hf => client_mem (n := n) hc f hf
  have shown : ∀ (t : State) (a : Nat) (b d : Bool), ClientsMoved n s t → ClientsMoved n s
      (((t.put (HST_CLI.OUT n c) a).flag (HST_CLI.MAPPED n c) b).flag (HST_CLI.CREDITED n c) d) := fun t a b d ht =>
    ((ht.put (mem _ (by simp))).put (mem _ (by simp))).put (mem _ (by simp))
  unfold State.clientRefresh
  split
  · refine ClientsMoved.trans ?_ (dropFifo_moved hc)
    exact ((((ClientsMoved.refl n s).put (mem _ (by simp))).put (mem _ (by simp))).put (mem _ (by simp))).put (mem _ (by simp))
  · refine shown _ _ _ _ ?_
    split
    · cases decide (s.rd (HST_CLI.IN n c) ≠ 2)
      · exact .refl n s
      · exact replaceEnter_moved hn hc
    · cases decide (s.rd (HST_CLI.IN n c) = 0)
      · exact .refl n s
      · exact (ClientsMoved.refl n s).put (mem _ (by simp))

theorem hstRefresh_moved (hn : n < 4) : ClientsMoved n s (s.hstRefresh n) := by
  have key : ∀ l : List Nat, (∀ c ∈ l, c < 256) → ∀ t, ClientsMoved n s t →
      ClientsMoved n s (t.each l (fun c t => t.clientRefresh n c)) := by
    intro l
    induction l with
    | nil => exact fun _ _ h => h
    | cons c l ih => exact fun hl t ht => ih (fun d hd => hl d (by simp [hd])) _ (ht.trans (clientRefresh_moved hn (hl c (by simp))))
  exact key _ (fun c hc => clients_lt hc) s (.refl n s)

/-- Keys of the clients' fields. -/
def clientKeys (n : Nat) : List (Nat × Nat) :=
  [((HST_STAT.REPL_EV n).key, (HST_STAT.REPL_EV n).key + 1), (8 * (0x8700000 + 0x10000 * n), 8 * (0x8701000 + 0x10000 * n)),
   ((HSTC.FIFO n 0).key, (HSTC.FIFO n 256).key)]

theorem clientFields_hit {f : Field} (hn : n < 4) (h : f ∈ clientFields n) : hits (clientKeys n) f.key = true := by
  rcases List.mem_cons.1 h with rfl | h
  · simp [hits, clientKeys]
  · obtain ⟨c, hc, hf⟩ := List.mem_flatMap.1 h
    have hlt := List.mem_range.1 hc
    simp only [List.mem_cons, List.not_mem_nil, or_false] at hf
    simp only [hits, clientKeys, List.any_cons, List.any_nil, Bool.or_false, Bool.or_eq_true, Bool.and_eq_true, decide_eq_true_eq]
    rcases hf with rfl | rfl | rfl | rfl | rfl | rfl
    all_goals
      simp only [HST_CLI.IN, HST_CLI.OUT, HST_CLI.REPL, HST_CLI.MAPPED, HST_CLI.CREDITED, HSTC.FIFO, HST_STAT.REPL_EV, cell, Field.key]
      omega

/-- A field that neither a client nor a notice shows. -/
theorem hstRefresh_rd {n : Fin 4} {f : Field} (hq : isQuiet f.key = true) (hf : outside (clientKeys n) f.key = true) :
    (s.hstRefresh n).rd f = s.rd f := by
  have hsrc : ∀ n : Fin 4, ∀ M ∈ [sourceOf n 0x61], M < 2048 := by decide
  have hpmc : ∀ n : Fin 4, ∀ b ∈ [n.val, 4], b < 5 := by decide
  exact (hstRefresh_moved n.isLt).fields.read (hsrc n) (hpmc n)
    ⟨hq, fun g hg => (ne_of_outside hf (clientFields_hit n.isLt hg)).symm⟩

/-! ## RX_UP -/

theorem bit_ofBits (l : List Bool) (i : Nat) : bit (ofBits l) i = if l.getD i false then 1 else 0 := by
  unfold bit
  induction l generalizing i with
  | nil => simp [ofBits]
  | cons b l ih =>
    cases i with
    | zero =>
      cases b <;> simp [ofBits]
    | succ i =>
      have hdiv : ((if b then 1 else 0) + 2 * ofBits l) / 2 = ofBits l := by
        cases b <;> simp; omega
      rw [ofBits, Nat.pow_succ', ← Nat.div_div_eq_div_mul, hdiv, ih]
      rfl

/-- RX_UP shows a lane with AM_LOCK that has lost neither its signal nor its lock. -/
theorem rxUp_bit (l : Fin 16) : (s.rxUp n).rdBit (HST_LANES.RX_UP n) l =
    (s.on (HST_LSTAT_L.AM_LOCK n l) && !s.on (HST_LSTAT_L.LOS n l) && !s.on (HST_LSTAT_L.LOL n l)) := by
  unfold State.rdBit State.rxUp
  rw [rd_put_same]
  have hmod := bit_mod (i := l.val) (w := 16) (v := ofBits ((List.range 16).map (fun l => s.on (HST_LSTAT_L.AM_LOCK n l)
    && !s.on (HST_LSTAT_L.LOS n l) && !s.on (HST_LSTAT_L.LOL n l)))) l.isLt
  rw [show (HST_LANES.RX_UP n).width = 16 from rfl, hmod, bit_ofBits]
  have hget : ∀ g : Nat → Bool, ((List.range 16).map g).getD l.val false = g l := fun g => by simp
  rw [hget]
  cases s.on (HST_LSTAT_L.AM_LOCK n l) && !s.on (HST_LSTAT_L.LOS n l) && !s.on (HST_LSTAT_L.LOL n l) <;> rfl

theorem rxUp_rd {f : Field} (h : f.key ≠ (HST_LANES.RX_UP n).key) : (s.rxUp n).rd f = s.rd f := rd_put_ne h

/-- What a change of the lanes reaches: RX_UP, and the clients. -/
theorem laneRefresh_rd {n : Fin 4} {f : Field} (hup : f.key ≠ (HST_LANES.RX_UP n).key) (hq : isQuiet f.key = true)
    (hf : outside (clientKeys n) f.key = true) : (s.laneRefresh n).rd f = s.rd f :=
  (hstRefresh_rd hq hf).trans (rxUp_rd hup)

theorem laneRefresh_up {n : Fin 4} (l : Fin 16) : (s.laneRefresh n).rdBit (HST_LANES.RX_UP n) l =
    (s.on (HST_LSTAT_L.AM_LOCK n l) && !s.on (HST_LSTAT_L.LOS n l) && !s.on (HST_LSTAT_L.LOL n l)) := by
  have hkey : ∀ n : Fin 4, isQuiet (HST_LANES.RX_UP n).key = true ∧ outside (clientKeys n) (HST_LANES.RX_UP n).key = true := by decide
  rw [← rxUp_bit l]
  unfold State.rdBit State.laneRefresh
  rw [hstRefresh_rd (hkey n).1 (hkey n).2]

/-- The same for the record of the channel. -/
theorem laneRefresh_parts (hn : n < 4) : ClientsMoved n (s.rxUp n) (s.laneRefresh n) := hstRefresh_moved hn

end

end Sys2Proof.Machine
end

section
/-! O31. Host lanes report their losses, align and count (R240 to R243, R250). -/

set_option Elab.async false

namespace Sys2Proof.Machine

section
variable {s t u : State} {n : Fin 4} {l : Fin 16}

/-! ## What a change of lanes reaches -/

theorem clientKeys_apart : ∀ n m : Fin 4, outside (clientKeys n) (LDS_CH_STATE.STATE m).key = true ∧
    outside (clientKeys n) (OPT_STAT.PHASE m).key = true := by decide

theorem sourceOf_61_lt : ∀ n : Fin 4, ∀ M ∈ [sourceOf n 0x61], M < 2048 := by decide

theorem scopes_lt : ∀ n : Fin 4, ∀ b ∈ [n.val, 4], b < 5 := by decide

theorem ClientsMoved.othersKept (h : ClientsMoved n s t) : OthersKept n s t :=
  othersKept_of_fieldsKept h.flow ⟨_, h.egress⟩ h.fields (sourceOf_61_lt n) (scopes_lt n) fun m _ _ hg =>
    ⟨(ne_of_outside (clientKeys_apart n m).1 (clientFields_hit n.isLt hg)).symm,
      (ne_of_outside (clientKeys_apart n m).2 (clientFields_hit n.isLt hg)).symm⟩

theorem FieldsKept.widen {l l' : List Field} {src src' pmc pmc' : List Nat} (h : FieldsKept l src pmc s t)
    (hl : ∀ f ∈ l, f ∈ l') (hs : ∀ N ∈ src, N ∈ src') (hp : ∀ b ∈ pmc, b ∈ pmc') : FieldsKept l' src' pmc' s t :=
  fun f hn hf => h f (fun hk => hn (noticeKey_mono hs hp hk)) fun g hg => hf g (hl g hg)

/-- What the channel's records, its tokens, the other channels and the fields keep, when the clients of channel n see a change
that sets the fields of a list. -/
structure Reached (n : Fin 4) (l : List Field) (src : List Nat) (s t : State) : Prop where
  egress : t.ch = s.ch.set n { s.chan n with egress := (t.chan n).egress }
  tok : (t.flow.get n).tok = (s.flow.get n).tok
  others : OthersKept n s t
  fields : FieldsKept l src [n, 4] s t

theorem reached_of_moved {l l' : List Field} {src src' : List Nat} (hf : FieldsKept l src [n, 4] s u) (hch : u.ch = s.ch)
    (hflow : u.flow = s.flow) (hmoved : ClientsMoved n u t)
    (hapart : ∀ m : Fin 4, ∀ g ∈ l, g.key ≠ (LDS_CH_STATE.STATE m).key ∧ g.key ≠ (OPT_STAT.PHASE m).key)
    (hl : ∀ f ∈ l ++ clientFields n, f ∈ l') (hs : ∀ N ∈ src ++ [sourceOf n 0x61], N ∈ src') (hlt : ∀ M ∈ src, M < 2048) :
    Reached n l' src' s t where
  egress := by
    have hchan : u.chan n = s.chan n := congrArg (fun q => Quad.get q n) hch
    rw [hmoved.egress, hchan, hch]
  tok := hmoved.tok.trans (congrArg (fun q => (Quad.get q n).tok) hflow)
  others := (othersKept_of_fieldsKept (.of_eq hflow) (.of_eq hch) hf hlt (scopes_lt n) fun m _ => hapart m).trans hmoved.othersKept
  fields := (hf.widen (fun f hf => hl f (List.mem_append_left _ hf)) (fun N hN => hs N (List.mem_append_left _ hN)) fun _ h => h).trans
    (hmoved.fields.widen (fun f hf => hl f (List.mem_append_right _ hf)) (fun N hN => hs N (List.mem_append_right _ hN)) fun _ h => h)

theorem mem_rotate (a : Field) (l m : List Field) : ∀ f ∈ a :: l ++ m, f ∈ (l ++ [a]) ++ m := by
  intro f
  simp only [List.cons_append, List.mem_cons, List.mem_append, List.not_mem_nil, or_false]
  tauto

theorem rxUp_apart : ∀ n m : Fin 4, (HST_LANES.RX_UP n).key ≠ (LDS_CH_STATE.STATE m).key ∧
    (HST_LANES.RX_UP n).key ≠ (OPT_STAT.PHASE m).key := by decide

theorem laneRefresh_reached {l l' : List Field} {src src' : List Nat} (hf : FieldsKept l src [n, 4] s u) (hch : u.ch = s.ch)
    (hflow : u.flow = s.flow)
    (hapart : ∀ m : Fin 4, ∀ g ∈ l, g.key ≠ (LDS_CH_STATE.STATE m).key ∧ g.key ≠ (OPT_STAT.PHASE m).key)
    (hl : ∀ f ∈ HST_LANES.RX_UP n :: l ++ clientFields n, f ∈ l') (hs : ∀ N ∈ src ++ [sourceOf n 0x61], N ∈ src')
    (hlt : ∀ M ∈ src, M < 2048) : Reached n l' src' s (u.laneRefresh n) := by
  have hup : FieldsKept (HST_LANES.RX_UP n :: l) src [n, 4] s (u.rxUp n) :=
    fieldsKept_put_of (hf.widen (fun f hf => List.mem_cons_of_mem _ hf) (fun _ h => h) fun _ h => h) (List.mem_cons_self ..)
  refine reached_of_moved hup ((put_ch ..).trans hch) ((put_flow ..).trans hflow) (hstRefresh_moved n.isLt) (fun m g hg => ?_) hl hs hlt
  rcases List.mem_cons.1 hg with rfl | hg
  · exact rxUp_apart n m
  · exact hapart m g hg

/-! ## A lane's own fields -/

/-- The fields that a lane's losses show in. -/
def laneFields (n l : Nat) : List Field :=
  [HST_LSTAT_L.LOS n l, HST_LSTAT_L.LOS_EV n l, HST_LCNT_L.LOS n l, HST_LSTAT_L.LOL n l, HST_LSTAT_L.LOL_EV n l,
   HST_LCNT_L.LOL n l, HST_STAT.LANE_EV n]

/-- A field that no notice, no client and no channel's state shows. -/
def LaneKey (n : Fin 4) (k : Nat) : Prop :=
  isQuiet k = true ∧ outside (clientKeys n) k = true ∧ k ≠ (HST_LANES.RX_UP n).key ∧
    ∀ m : Fin 4, k ≠ (LDS_CH_STATE.STATE m).key ∧ k ≠ (OPT_STAT.PHASE m).key

theorem lane_key : ∀ n : Fin 4, ∀ l : Fin 16, ∀ f ∈ laneFields n l, LaneKey n f.key := by
  unfold LaneKey
  decide +kernel

theorem lane_ne (n : Fin 4) (l : Fin 16) (i j : Fin 7) (h : i ≠ j := by decide) :
    ((laneFields n l).get i).key ≠ ((laneFields n l).get j).key := by
  revert n l i j
  decide +kernel

theorem laneRefresh_keeps {f : Field} (h : LaneKey n f.key) : (s.laneRefresh n).rd f = s.rd f :=
  laneRefresh_rd h.2.2.1 h.1 h.2.1

theorem sourceOf_60_lt : ∀ n : Fin 4, ∀ M ∈ [sourceOf n 0x60], M < 2048 := by decide

/-- The source of lane events stays pending. -/
theorem laneRefresh_pend : (s.laneRefresh n).rd (IRQ_PEND (sourceOf n 0x60)) = s.rd (IRQ_PEND (sourceOf n 0x60)) := by
  have hapart : ∀ n : Fin 4, outside (clientKeys n) (IRQ_PEND (sourceOf n 0x60)).key = true ∧
      sourceOf n 0x60 ∉ [sourceOf n 0x61] ++ [n.val, 4].flatMap overflowSources ∧
      (IRQ_PEND (sourceOf n 0x60)).key ≠ (HST_LANES.RX_UP n).key := by decide
  obtain ⟨hout, hsrc, hup⟩ := hapart n
  exact ((hstRefresh_moved n.isLt).fields.readPend (sourceOf_61_lt n) (scopes_lt n) (sourceOf_60_lt n _ (by simp)) hsrc fun g hg =>
    (ne_of_outside hout (clientFields_hit n.isLt hg)).symm).trans (rxUp_rd hup)

/-- A lane's loss of lock shows. -/
theorem lolDeclare_shows : (s.lolDeclare n l).rd (HST_LSTAT_L.LOL n l) = 1 ∧ (s.lolDeclare n l).rd (HST_LSTAT_L.LOL_EV n l) = 1 ∧
    (s.lolDeclare n l).rd (HST_LCNT_L.LOL n l) = s.oneMore (HST_LCNT_L.LOL n l) ∧
    (s.lolDeclare n l).rd (HST_STAT.LANE_EV n) = 1 ∧ (s.lolDeclare n l).rd (IRQ_PEND (sourceOf n 0x60)) = 1 := by
  have hq : ∀ f ∈ laneFields n l, QuietKey f.key := fun f hf => quiet_of_isQuiet (lane_key n l f hf).1
  unfold State.lolDeclare
  refine ⟨?_, ?_, ?_, ?_, raiseCh_pend (by decide)⟩
  all_goals rw [rd_raiseCh_quiet (by decide) (hq _ (by simp [laneFields]))]
  · rw [rd_put_ne (by exact lane_ne n l 3 6), rd_bump_ne (by exact lane_ne n l 3 5), rd_put_ne (by exact lane_ne n l 3 4), rd_put_same]
    rfl
  · rw [rd_put_ne (by exact lane_ne n l 4 6), rd_bump_ne (by exact lane_ne n l 4 5), rd_put_same]
    rfl
  · rw [rd_put_ne (by exact lane_ne n l 5 6), rd_bump_same]
    exact oneMore_congr ((rd_put_ne (by exact lane_ne n l 5 4)).trans (rd_put_ne (by exact lane_ne n l 5 3)))
  · exact (rd_put_same ..).trans rfl

theorem lolDeclare_fields {l' : List Field} (h : FieldsKept l' [sourceOf n 0x60] [n, 4] s t) (hl : ∀ f ∈ [HST_LSTAT_L.LOL n l,
    HST_LSTAT_L.LOL_EV n l, HST_LCNT_L.LOL n l, HST_STAT.LANE_EV n], f ∈ l') :
    FieldsKept l' [sourceOf n 0x60] [n, 4] s (t.lolDeclare n l) :=
  fieldsKept_raiseCh (fieldsKept_put_of (fieldsKept_bump_of (fieldsKept_put_of (fieldsKept_put_of h (hl _ (by simp)))
    (hl _ (by simp))) (hl _ (by simp))) (hl _ (by simp))) (by simp)

theorem lolDeclare_parts : (s.lolDeclare n l).ch = s.ch ∧ (s.lolDeclare n l).flow = s.flow := ⟨raiseCh_ch .., raiseCh_flow ..⟩

/-- A lane's loss of signal shows, its loss of lock apart. -/
def State.losShown (n l : Nat) (s : State) : State :=
  s.put (HST_LSTAT_L.LOS n l) 1 |>.put (HST_LSTAT_L.LOS_EV n l) 1 |>.bump (HST_LCNT_L.LOS n l) |>.put (HST_STAT.LANE_EV n) 1
    |>.raiseCh n 0x60

theorem losShown_shows : (s.losShown n l).rd (HST_LSTAT_L.LOS n l) = 1 ∧ (s.losShown n l).rd (HST_LSTAT_L.LOS_EV n l) = 1 ∧
    (s.losShown n l).rd (HST_LCNT_L.LOS n l) = s.oneMore (HST_LCNT_L.LOS n l) ∧
    (s.losShown n l).rd (HST_STAT.LANE_EV n) = 1 ∧ (s.losShown n l).rd (IRQ_PEND (sourceOf n 0x60)) = 1 := by
  have hq : ∀ f ∈ laneFields n l, QuietKey f.key := fun f hf => quiet_of_isQuiet (lane_key n l f hf).1
  unfold State.losShown
  refine ⟨?_, ?_, ?_, ?_, raiseCh_pend (by decide)⟩
  all_goals rw [rd_raiseCh_quiet (by decide) (hq _ (by simp [laneFields]))]
  · rw [rd_put_ne (by exact lane_ne n l 0 6), rd_bump_ne (by exact lane_ne n l 0 2), rd_put_ne (by exact lane_ne n l 0 1), rd_put_same]
    rfl
  · rw [rd_put_ne (by exact lane_ne n l 1 6), rd_bump_ne (by exact lane_ne n l 1 2), rd_put_same]
    rfl
  · rw [rd_put_ne (by exact lane_ne n l 2 6), rd_bump_same]
    exact oneMore_congr ((rd_put_ne (by exact lane_ne n l 2 1)).trans (rd_put_ne (by exact lane_ne n l 2 0)))
  · exact (rd_put_same ..).trans rfl

theorem losShown_lol {f : Field} (h : f ∈ [HST_LSTAT_L.LOL n l, HST_LCNT_L.LOL n l]) : (s.losShown n l).rd f = s.rd f := by
  have hq : QuietKey f.key := quiet_of_isQuiet (lane_key n l f (by revert h; simp +contextual [laneFields, or_imp])).1
  refine (rd_raiseCh_quiet (by decide) hq).trans ?_
  rcases List.mem_pair.1 h with rfl | rfl
  · exact (rd_put_ne (lane_ne n l 3 6)).trans ((rd_bump_ne (lane_ne n l 3 2)).trans
      ((rd_put_ne (lane_ne n l 3 1)).trans (rd_put_ne (lane_ne n l 3 0))))
  · exact (rd_put_ne (lane_ne n l 5 6)).trans ((rd_bump_ne (lane_ne n l 5 2)).trans
      ((rd_put_ne (lane_ne n l 5 1)).trans (rd_put_ne (lane_ne n l 5 0))))

theorem losShown_fields : FieldsKept (laneFields n l) [sourceOf n 0x60] [n, 4] s (s.losShown n l) :=
  fieldsKept_raiseCh (fieldsKept_put_of (fieldsKept_bump_of (fieldsKept_put_of (fieldsKept_put_of (.refl _ _ _ s)
    (by simp [laneFields])) (by simp [laneFields])) (by simp [laneFields])) (by simp [laneFields])) (by simp)

/-- LOS has been declared, and LOL with it. -/
def State.losDeclared (n l : Nat) (s : State) : State := (s.losShown n l).when (!s.on (HST_LSTAT_L.LOL n l)) (·.lolDeclare n l)

theorem exec_hostLaneLosDeclare (hans : s.answers = true) (hlos : s.on (HST_LSTAT_L.LOS n l) = false) :
    exec (.hostLaneLosDeclare n l) s = .next ((s.losDeclared n l).laneRefresh n) := by
  change Host.Outcome.next (s.when (s.answers && !s.on (HST_LSTAT_L.LOS n l)) _) = _
  rw [hans, hlos]
  rfl

/-- What a declared loss of signal shows. -/
theorem losDeclared_shows : (s.losDeclared n l).rd (HST_LSTAT_L.LOS n l) = 1 ∧
    (s.losDeclared n l).rd (HST_LSTAT_L.LOS_EV n l) = 1 ∧
    (s.losDeclared n l).rd (HST_LCNT_L.LOS n l) = s.oneMore (HST_LCNT_L.LOS n l) ∧
    (s.losDeclared n l).rd (HST_LSTAT_L.LOL n l) = 1 ∧
    (s.on (HST_LSTAT_L.LOL n l) = false → (s.losDeclared n l).rd (HST_LSTAT_L.LOL_EV n l) = 1 ∧
      (s.losDeclared n l).rd (HST_LCNT_L.LOL n l) = s.oneMore (HST_LCNT_L.LOL n l)) ∧
    (s.losDeclared n l).rd (HST_STAT.LANE_EV n) = 1 ∧ (s.losDeclared n l).rd (IRQ_PEND (sourceOf n 0x60)) = 1 := by
  obtain ⟨los, losEv, losCount, laneEv, pend⟩ := losShown_shows (s := s) (n := n) (l := l)
  unfold State.losDeclared
  by_cases hlol : s.on (HST_LSTAT_L.LOL n l) = true
  · rw [hlol]
    exact ⟨los, losEv, losCount, (losShown_lol (by simp)).trans (of_decide_eq_true hlol), fun h => absurd h (by simp), laneEv, pend⟩
  · rw [Bool.not_eq_true] at hlol
    rw [hlol]
    obtain ⟨lol, lolEv, lolCount, laneEv', pend'⟩ := lolDeclare_shows (s := s.losShown n l) (n := n) (l := l)
    have hkeep : ∀ f ∈ [HST_LSTAT_L.LOS n l, HST_LSTAT_L.LOS_EV n l, HST_LCNT_L.LOS n l],
        ((s.losShown n l).lolDeclare n l).rd f = (s.losShown n l).rd f := by
      intro f hf
      have hq : QuietKey f.key := quiet_of_isQuiet (lane_key n l f (by revert hf; simp +contextual [laneFields, or_imp])).1
      refine (rd_raiseCh_quiet (by decide) hq).trans ?_
      simp only [List.mem_cons, List.not_mem_nil, or_false] at hf
      rcases hf with rfl | rfl | rfl
      · exact (rd_put_ne (lane_ne n l 0 6)).trans ((rd_bump_ne (lane_ne n l 0 5)).trans
          ((rd_put_ne (lane_ne n l 0 4)).trans (rd_put_ne (lane_ne n l 0 3))))
      · exact (rd_put_ne (lane_ne n l 1 6)).trans ((rd_bump_ne (lane_ne n l 1 5)).trans
          ((rd_put_ne (lane_ne n l 1 4)).trans (rd_put_ne (lane_ne n l 1 3))))
      · exact (rd_put_ne (lane_ne n l 2 6)).trans ((rd_bump_ne (lane_ne n l 2 5)).trans
          ((rd_put_ne (lane_ne n l 2 4)).trans (rd_put_ne (lane_ne n l 2 3))))
    exact ⟨(hkeep _ (by simp)).trans los, (hkeep _ (by simp)).trans losEv, (hkeep _ (by simp)).trans losCount, lol,
      fun _ => ⟨lolEv, lolCount.trans (oneMore_congr (losShown_lol (by simp)))⟩, laneEv', pend'⟩

theorem losDeclared_fields : FieldsKept (laneFields n l) [sourceOf n 0x60] [n, 4] s (s.losDeclared n l) :=
  fieldsKept_when_fn losShown_fields fun _ hu => lolDeclare_fields hu (by simp [laneFields])

theorem losDeclared_parts : (s.losDeclared n l).ch = s.ch ∧ (s.losDeclared n l).flow = s.flow := by
  unfold State.losDeclared
  cases s.on (HST_LSTAT_L.LOL n l)
  · exact ⟨lolDeclare_parts.1.trans (raiseCh_ch ..), lolDeclare_parts.2.trans (raiseCh_flow ..)⟩
  · exact ⟨raiseCh_ch .., raiseCh_flow ..⟩

theorem lane_fields_apart (n : Fin 4) (l : Fin 16) (m : Fin 4) : ∀ g ∈ laneFields n l, g.key ≠ (LDS_CH_STATE.STATE m).key ∧ g.key ≠ (OPT_STAT.PHASE m).key :=
  fun g hg => (lane_key n l g hg).2.2.2 m

theorem up_of_lol (h : s.rd (HST_LSTAT_L.LOL n l) = 1) : (s.laneRefresh n).rdBit (HST_LANES.RX_UP n) l = false := by
  rw [laneRefresh_up, show s.on (HST_LSTAT_L.LOL n l) = true from decide_eq_true h, Bool.not_true, Bool.and_false]

/-- Clause 1: a lane declares LOS. -/
theorem losDeclare_reports (hans : s.answers = true) (hlos : s.on (HST_LSTAT_L.LOS n l) = false) :
    ∃ t, exec (.hostLaneLosDeclare n l) s = .next t ∧ t.rd (HST_LSTAT_L.LOS n l) = 1 ∧
      t.rd (HST_LSTAT_L.LOS_EV n l) = 1 ∧ t.rd (HST_LCNT_L.LOS n l) = s.oneMore (HST_LCNT_L.LOS n l) ∧
      t.rd (HST_LSTAT_L.LOL n l) = 1 ∧
      (s.on (HST_LSTAT_L.LOL n l) = false → t.rd (HST_LSTAT_L.LOL_EV n l) = 1 ∧ t.rd (HST_LCNT_L.LOL n l) =
        s.oneMore (HST_LCNT_L.LOL n l)) ∧
      t.rd (HST_STAT.LANE_EV n) = 1 ∧ t.rd (IRQ_PEND (sourceOf n 0x60)) = 1 ∧
      t.rdBit (HST_LANES.RX_UP n) l = false ∧
      Reached n ([HST_LSTAT_L.LOS n l, HST_LSTAT_L.LOS_EV n l, HST_LCNT_L.LOS n l, HST_LSTAT_L.LOL n l,
        HST_LSTAT_L.LOL_EV n l, HST_LCNT_L.LOL n l, HST_STAT.LANE_EV n, HST_LANES.RX_UP n] ++ clientFields n)
        [sourceOf n 0x60, sourceOf n 0x61] s t := by
  obtain ⟨los, losEv, losCount, lol, lolMore, laneEv, pend⟩ := losDeclared_shows (s := s) (n := n) (l := l)
  have hkeep : ∀ f ∈ laneFields n l, ((s.losDeclared n l).laneRefresh n).rd f = (s.losDeclared n l).rd f := fun f hf =>
    laneRefresh_keeps (lane_key n l f hf)
  refine ⟨_, exec_hostLaneLosDeclare hans hlos, (hkeep _ (by simp [laneFields])).trans los, (hkeep _ (by simp [laneFields])).trans losEv,
    (hkeep _ (by simp [laneFields])).trans losCount, (hkeep _ (by simp [laneFields])).trans lol, fun h =>
    ⟨(hkeep _ (by simp [laneFields])).trans (lolMore h).1, (hkeep _ (by simp [laneFields])).trans (lolMore h).2⟩,
    (hkeep _ (by simp [laneFields])).trans laneEv, laneRefresh_pend.trans pend, up_of_lol lol,
    laneRefresh_reached losDeclared_fields losDeclared_parts.1 losDeclared_parts.2 (lane_fields_apart n l) (mem_rotate _ _ _) (by simp) (sourceOf_60_lt n)⟩


/-- Clause 2: LOS clears. -/
theorem losClear_reports (hans : s.answers = true) :
    ∃ t, exec (.hostLaneLosClear n l) s = .next t ∧ t.rd (HST_LSTAT_L.LOS n l) = 0 ∧
      t.rd (HST_LSTAT_L.LOL n l) = s.rd (HST_LSTAT_L.LOL n l) ∧
      Reached n ([HST_LSTAT_L.LOS n l, HST_LANES.RX_UP n] ++ clientFields n) [sourceOf n 0x61] s t := by
  have hexec : exec (.hostLaneLosClear n l) s = .next ((s.put (HST_LSTAT_L.LOS n l) 0).laneRefresh n) := by
    change Host.Outcome.next (s.when s.answers _) = _
    rw [hans, when_true]
  refine ⟨_, hexec, (laneRefresh_keeps (lane_key n l _ (by simp [laneFields]))).trans ((rd_put_same ..).trans rfl),
    (laneRefresh_keeps (lane_key n l (HST_LSTAT_L.LOL n l) (by simp [laneFields]))).trans (rd_put_ne (lane_ne n l 3 0)),
    laneRefresh_reached (l := [HST_LSTAT_L.LOS n l]) (src := []) (fieldsKept_put_of (.refl _ _ _ s) (by simp)) (put_ch ..) (put_flow ..)
      (fun m g hg => lane_fields_apart n l m g (by simp [List.mem_singleton.1 hg, laneFields])) (mem_rotate _ _ _) (by simp) (by simp)⟩


/-- Clause 3: a lane declares LOL. -/
theorem lolDeclare_reports (hans : s.answers = true) (hlol : s.on (HST_LSTAT_L.LOL n l) = false) :
    ∃ t, exec (.hostLaneLolDeclare n l) s = .next t ∧ t.rd (HST_LSTAT_L.LOL n l) = 1 ∧
      t.rd (HST_LSTAT_L.LOL_EV n l) = 1 ∧ t.rd (HST_LCNT_L.LOL n l) = s.oneMore (HST_LCNT_L.LOL n l) ∧
      t.rd (HST_STAT.LANE_EV n) = 1 ∧ t.rd (IRQ_PEND (sourceOf n 0x60)) = 1 ∧ t.rdBit (HST_LANES.RX_UP n) l = false ∧
      Reached n ([HST_LSTAT_L.LOL n l, HST_LSTAT_L.LOL_EV n l, HST_LCNT_L.LOL n l, HST_STAT.LANE_EV n,
        HST_LANES.RX_UP n] ++ clientFields n) [sourceOf n 0x60, sourceOf n 0x61] s t := by
  have hexec : exec (.hostLaneLolDeclare n l) s = .next ((s.lolDeclare n l).laneRefresh n) := by
    change Host.Outcome.next (s.when (s.answers && !s.on (HST_LSTAT_L.LOL n l)) _) = _
    rw [hans, hlol]
    rfl
  obtain ⟨lol, lolEv, lolCount, laneEv, pend⟩ := lolDeclare_shows (s := s) (n := n) (l := l)
  have hkeep : ∀ f ∈ laneFields n l, ((s.lolDeclare n l).laneRefresh n).rd f = (s.lolDeclare n l).rd f := fun f hf =>
    laneRefresh_keeps (lane_key n l f hf)
  refine ⟨_, hexec, (hkeep _ (by simp [laneFields])).trans lol, (hkeep _ (by simp [laneFields])).trans lolEv,
    (hkeep _ (by simp [laneFields])).trans lolCount, (hkeep _ (by simp [laneFields])).trans laneEv, laneRefresh_pend.trans pend,
    up_of_lol lol, laneRefresh_reached (lolDeclare_fields (.refl [HST_LSTAT_L.LOL n l, HST_LSTAT_L.LOL_EV n l, HST_LCNT_L.LOL n l,
      HST_STAT.LANE_EV n] _ _ s) fun _ h => h) lolDeclare_parts.1 lolDeclare_parts.2
      (fun m g hg => lane_fields_apart n l m g (by revert hg; simp +contextual [laneFields])) (mem_rotate _ _ _) (by simp) (sourceOf_60_lt n)⟩

theorem exec_hostLaneLolClear (hans : s.answers = true) (hlos : s.on (HST_LSTAT_L.LOS n l) = false) :
    exec (.hostLaneLolClear n l) s = .next ((s.put (HST_LSTAT_L.LOL n l) 0).laneRefresh n) := by
  change Host.Outcome.next (s.when (s.answers && !s.on (HST_LSTAT_L.LOS n l)) _) = _
  rw [hans, hlos]
  rfl

/-- Clause 4: LOL clears. -/
theorem lolClear_reports (hans : s.answers = true) (hlos : s.on (HST_LSTAT_L.LOS n l) = false) :
    ∃ t, exec (.hostLaneLolClear n l) s = .next t ∧ t.rd (HST_LSTAT_L.LOL n l) = 0 ∧
      t.rdBit (HST_LANES.RX_UP n) l = s.on (HST_LSTAT_L.AM_LOCK n l) ∧
      Reached n ([HST_LSTAT_L.LOL n l, HST_LANES.RX_UP n] ++ clientFields n) [sourceOf n 0x61] s t := by
  have hlol : (s.put (HST_LSTAT_L.LOL n l) 0).on (HST_LSTAT_L.LOL n l) = false := on_put_zero ..
  have ham : ∀ n : Fin 4, ∀ l : Fin 16, (HST_LSTAT_L.AM_LOCK n l).key ≠ (HST_LSTAT_L.LOL n l).key := by decide +kernel
  refine ⟨_, exec_hostLaneLolClear hans hlos,
    (laneRefresh_keeps (lane_key n l _ (by simp [laneFields]))).trans ((rd_put_same ..).trans rfl), ?_,
    laneRefresh_reached (l := [HST_LSTAT_L.LOL n l]) (src := []) (fieldsKept_put_of (.refl _ _ _ s) (by simp)) (put_ch ..) (put_flow ..)
      (fun m g hg => lane_fields_apart n l m g (by simp [List.mem_singleton.1 hg, laneFields])) (mem_rotate _ _ _) (by simp) (by simp)⟩
  rw [laneRefresh_up, hlol, on_put_ne (ham n l), on_put_ne (by exact lane_ne n l 0 3), hlos]
  simp

/-- Clause 5: LOL does not clear before LOS. -/
theorem lolClear_waits (hans : s.answers = true) (hlos : s.on (HST_LSTAT_L.LOS n l) = true) :
    exec (.hostLaneLolClear n l) s = .next s := by
  change Host.Outcome.next (s.when (s.answers && !s.on (HST_LSTAT_L.LOS n l)) _) = _
  rw [hans, hlos]
  rfl

/-! ## Alignment (R242) -/

/-- A lane that may lie in a port: a port of eight lanes may begin at any. -/
theorem port_key : ∀ n : Fin 4, ∀ l : Fin 24, LaneKey n (HST_LSTAT_L.AM_LOCK n l).key := by
  unfold LaneKey
  decide +kernel

theorem skew_key : ∀ n : Fin 4, ∀ l : Fin 16, LaneKey n (HST_LSTAT_L.SKEW n l).key := by
  unfold LaneKey
  decide +kernel

theorem typeLanes_le (ty : Nat) : typeLanes ty ≤ 8 := by
  unfold typeLanes
  split <;> decide

theorem portLanes_lt {p k : Nat} (hp : p < 16) (hk : k ∈ s.portLanes n p) : k < 24 := by
  obtain ⟨i, hi, rfl⟩ := List.mem_map.1 hk
  have := typeLanes_le (s.rd (HST_LANE_L.TYPE n p))
  have := List.mem_range.1 hi
  omega

theorem typeLanes_fits (ty : Nat) (q : Fin 16) (h : typeLanes ty = 0 ∨ q.val - q.val % typeLanes ty = q.val) :
    q.val + typeLanes ty ≤ 16 := by
  have key : ∀ k ∈ [0, 1, 2, 4, 8], ∀ q : Fin 16, (k = 0 ∨ q.val - q.val % k = q.val) → q.val + k ≤ 16 := by decide
  refine key _ ?_ q h
  unfold typeLanes
  split <;> decide

/-- The lanes of a port that begins where its type lets it. -/
theorem portLanes_lt_of_first {q : Fin 16} {k : Nat} (hq : s.portOf n q = q) (hk : k ∈ s.portLanes n q) : k < 16 := by
  obtain ⟨i, hi, rfl⟩ := List.mem_map.1 hk
  have hlt := List.mem_range.1 hi
  have hfit := typeLanes_fits (s.rd (HST_LANE_L.TYPE n q)) q (by
    by_cases h0 : typeLanes (s.rd (HST_LANE_L.TYPE n q)) = 0
    · exact .inl h0
    · refine .inr ?_
      unfold State.portOf at hq
      simpa [h0] using hq)
  omega

/-- The lanes lock, each with its skew. -/
def State.lanesAligned (n q : Nat) (skew : List Nat) (lanes : List Nat) (s : State) : State :=
  s.each lanes (fun l u => (u.put (HST_LSTAT_L.AM_LOCK n l) 1).put (HST_LSTAT_L.SKEW n l) (skew.getD (l - q) 0))

theorem align_apart : ∀ n : Fin 4, ∀ k l : Fin 16, (HST_LSTAT_L.AM_LOCK n k).key ≠ (HST_LSTAT_L.SKEW n l).key ∧
    (k ≠ l → (HST_LSTAT_L.AM_LOCK n k).key ≠ (HST_LSTAT_L.AM_LOCK n l).key ∧
      (HST_LSTAT_L.SKEW n k).key ≠ (HST_LSTAT_L.SKEW n l).key) := by decide +kernel

theorem aligned_shows {q : Nat} {skew lanes : List Nat} (hlt : ∀ k ∈ lanes, k < 16) : ∀ k ∈ lanes,
    (s.lanesAligned n q skew lanes).rd (HST_LSTAT_L.AM_LOCK n k) = 1 ∧
      (s.lanesAligned n q skew lanes).rd (HST_LSTAT_L.SKEW n k) = skew.getD (k - q) 0 % 256 := by
  have key : ∀ lanes : List Nat, (∀ k ∈ lanes, k < 16) → ∀ k : Fin 16, ∀ t : State, (k.val ∈ lanes ∨
      t.rd (HST_LSTAT_L.AM_LOCK n k) = 1 ∧ t.rd (HST_LSTAT_L.SKEW n k) = skew.getD (k - q) 0 % 256) →
      (t.lanesAligned n q skew lanes).rd (HST_LSTAT_L.AM_LOCK n k) = 1 ∧
        (t.lanesAligned n q skew lanes).rd (HST_LSTAT_L.SKEW n k) = skew.getD (k - q) 0 % 256 := by
    intro lanes
    induction lanes with
    | nil => exact fun _ _ _ h => h.resolve_left (by simp)
    | cons j lanes ih =>
      intro hl k t h
      have hj : j < 16 := hl j (by simp)
      refine ih (fun i hi => hl i (by simp [hi])) k _ ?_
      by_cases hk : k.val = j
      · subst hk
        exact .inr ⟨(rd_put_ne (align_apart n k k).1).trans ((rd_put_same ..).trans rfl), rd_put_same ..⟩
      · have hne : k ≠ ⟨j, hj⟩ := fun e => hk (congrArg Fin.val e)
        obtain ⟨hlock, hskew⟩ := (align_apart n k ⟨j, hj⟩).2 hne
        refine h.imp (fun h => (List.mem_cons.1 h).resolve_left hk) fun h => ⟨?_, ?_⟩
        · exact (rd_put_ne (align_apart n k ⟨j, hj⟩).1).trans ((rd_put_ne hlock).trans h.1)
        · exact (rd_put_ne hskew).trans ((rd_put_ne (align_apart n ⟨j, hj⟩ k).1.symm).trans h.2)
  exact fun k hk => key lanes hlt ⟨k, hlt k hk⟩ s (.inl hk)

theorem aligned_fields {q : Nat} {skew lanes : List Nat} : FieldsKept (lanes.flatMap (fun l => [HST_LSTAT_L.AM_LOCK n l,
    HST_LSTAT_L.SKEW n l])) [] [n, 4] s (s.lanesAligned n q skew lanes) :=
  fieldsKept_each (.refl _ _ _ s) fun k hk _ hu => fieldsKept_put_of (fieldsKept_put_of hu
    (List.mem_flatMap.2 ⟨k, hk, by simp⟩)) (List.mem_flatMap.2 ⟨k, hk, by simp⟩)

/-- Clause 6: a port aligns. -/
theorem alignmentLock_reports {q : Fin 16} {skew : List Nat} (hans : s.answers = true) (hsome : s.portLanes n q ≠ [])
    (hfirst : s.portOf n q = q) (hskew : skew.all (· ≤ 200) = true)
    (hgood : (s.portLanes n q).all (fun l => !s.on (HST_LSTAT_L.LOS n l) && !s.on (HST_LSTAT_L.LOL n l) && !s.on
      (HST_LSTAT_L.FENCED n l)) = true) :
    ∃ t, exec (.hostAlignmentLock n q skew) s = .next t ∧
      (∀ l ∈ s.portLanes n q, t.rd (HST_LSTAT_L.AM_LOCK n l) = 1 ∧ t.rd (HST_LSTAT_L.SKEW n l) = skew.getD (l -
        q.val) 0 % 256) ∧
      Reached n ((s.portLanes n q).flatMap (fun l => [HST_LSTAT_L.AM_LOCK n l, HST_LSTAT_L.SKEW n l]) ++
        HST_LANES.RX_UP n :: clientFields n) [sourceOf n 0x61] s t := by
  have hexec : exec (.hostAlignmentLock n q skew) s = .next ((s.lanesAligned n q skew (s.portLanes n q)).laneRefresh n) := by
    change Host.Outcome.next (s.when (s.answers && !(s.portLanes n q).isEmpty && decide (s.portOf n q = q) && skew.all (· ≤ 200)
      && _) _) = _
    rw [hans, hskew, hgood, decide_eq_true hfirst, List.isEmpty_eq_false_iff.2 hsome]
    rfl
  have hlt : ∀ k ∈ s.portLanes n q, k < 16 := fun k hk => portLanes_lt_of_first hfirst hk
  refine ⟨_, hexec, fun k hk => ?_, laneRefresh_reached aligned_fields (each_sameArea (x := .ch) fun _ _ => rfl)
    (each_sameArea (x := .flow) fun _ _ => rfl) (fun m g hg => ?_) (fun f => ?_) (by simp) (by simp)⟩
  · exact ⟨(laneRefresh_keeps (port_key n ⟨k, by have := hlt k hk; omega⟩)).trans (aligned_shows hlt k hk).1,
      (laneRefresh_keeps (skew_key n ⟨k, hlt k hk⟩)).trans (aligned_shows hlt k hk).2⟩
  · obtain ⟨k, hk, hg⟩ := List.mem_flatMap.1 hg
    rcases List.mem_pair.1 hg with rfl | rfl
    · exact (port_key n ⟨k, by have := hlt k hk; omega⟩).2.2.2 m
    · exact (skew_key n ⟨k, hlt k hk⟩).2.2.2 m
  · simp only [List.cons_append, List.mem_cons, List.mem_append]
    tauto

/-- The lanes lose their lock. -/
def State.unlocked (n : Nat) (lanes : List Nat) (s : State) : State := s.each lanes (fun l t => t.put (HST_LSTAT_L.AM_LOCK n l) 0)

theorem unlocked_shows {lanes : List Nat} (hlt : ∀ k ∈ lanes, k < 24) : ∀ k ∈ lanes,
    (s.unlocked n lanes).rd (HST_LSTAT_L.AM_LOCK n k) = 0 := by
  have hapart : ∀ n : Fin 4, ∀ k l : Fin 24, k ≠ l → (HST_LSTAT_L.AM_LOCK n k).key ≠ (HST_LSTAT_L.AM_LOCK n l).key := by
    decide +kernel
  have key : ∀ lanes : List Nat, (∀ k ∈ lanes, k < 24) → ∀ k : Fin 24, ∀ t : State, (k.val ∈ lanes ∨
      t.rd (HST_LSTAT_L.AM_LOCK n k) = 0) → (t.unlocked n lanes).rd (HST_LSTAT_L.AM_LOCK n k) = 0 := by
    intro lanes
    induction lanes with
    | nil => exact fun _ _ _ h => h.resolve_left (by simp)
    | cons j lanes ih =>
      intro hl k t h
      have hj : j < 24 := hl j (by simp)
      refine ih (fun i hi => hl i (by simp [hi])) k _ ?_
      by_cases hk : k.val = j
      · subst hk
        exact .inr ((rd_put_same ..).trans rfl)
      · have hne : k ≠ ⟨j, hj⟩ := fun e => hk (congrArg Fin.val e)
        exact h.imp (fun h => (List.mem_cons.1 h).resolve_left hk) fun h => (rd_put_ne (hapart n k ⟨j, hj⟩ hne)).trans h
  exact fun k hk => key lanes hlt ⟨k, hlt k hk⟩ s (.inl hk)

theorem unlocked_fields {lanes : List Nat} :
    FieldsKept (lanes.map (fun l => HST_LSTAT_L.AM_LOCK n l)) [] [n, 4] s (s.unlocked n lanes) :=
  fieldsKept_each (.refl _ _ _ s) fun _ hk _ hu => fieldsKept_put_of hu (List.mem_map_of_mem hk)

theorem portOf_lt (q : Fin 16) : s.portOf n q < 16 := by
  unfold State.portOf
  dsimp only
  split <;> omega

/-- Clause 7: a port loses its alignment. -/
theorem alignmentLoss_reports {q : Fin 16} (hans : s.answers = true) :
    ∃ t, exec (.hostAlignmentLoss n q) s = .next t ∧
      (∀ l ∈ s.portLanes n (s.portOf n q), t.rd (HST_LSTAT_L.AM_LOCK n l) = 0) ∧
      Reached n ((s.portLanes n (s.portOf n q)).map (fun l => HST_LSTAT_L.AM_LOCK n l) ++ HST_LANES.RX_UP n ::
        clientFields n) [sourceOf n 0x61] s t := by
  have hexec : exec (.hostAlignmentLoss n q) s = .next ((s.unlocked n (s.portLanes n (s.portOf n q))).laneRefresh n) := by
    change Host.Outcome.next (s.when s.answers _) = _
    rw [hans, when_true]
    rfl
  have hlt : ∀ k ∈ s.portLanes n (s.portOf n q), k < 24 := fun k hk => portLanes_lt (portOf_lt q) hk
  refine ⟨_, hexec, fun k hk => (laneRefresh_keeps (port_key n ⟨k, hlt k hk⟩)).trans (unlocked_shows hlt k hk),
    laneRefresh_reached unlocked_fields (each_sameArea (x := .ch) fun _ _ => rfl)
      (each_sameArea (x := .flow) fun _ _ => rfl) (fun m g hg => ?_) (fun f => ?_) (by simp) (by simp)⟩
  · obtain ⟨k, hk, rfl⟩ := List.mem_map.1 hg
    exact (port_key n ⟨k, hlt k hk⟩).2.2.2 m
  · simp only [List.cons_append, List.mem_cons, List.mem_append]
    tauto

end

end Sys2Proof.Machine
end

section
/-! O31, the rest: the end of REPLACE, RS-FEC codewords and the host PLL. -/

set_option Elab.async false

namespace Sys2Proof.Machine

section
variable {s t u : State} {n : Fin 4} {c : Fin 256}

/-! ## What the state of a client does not govern -/

/-- Every field but the ingress state of one client is alike. -/
def ButIngress (n : Fin 4) (c : Fin 256) (s t : State) : Prop := Agree (fun k => decide (k ≠ (HST_CLI.IN n c).key)) s t

theorem ButIngress.rd {a l w r : Nat} (h : ButIngress n c s t) (hk : 8 * a + l ≠ (HST_CLI.IN n c).key) :
    t.rd ⟨a, l, w, r⟩ = s.rd ⟨a, l, w, r⟩ := Agree.rd h (decide_eq_true hk)

theorem ingress_key (n : Fin 4) (c : Fin 256) :
    (HST_CLI.IN n c).key = 8 * (0x8700004 + 0x10000 * n + 0x10 * c) + 30 := rfl

theorem ButIngress.slotsOf (h : ButIngress n c s t) {g : Nat} (hg : g < 16) (b d : Nat) : t.slotsOf n g b d = s.slotsOf n g b d := by
  have hkey := ingress_key n c
  have hlist : ∀ f : Field, f.addr = 0x8701000 + 0x10000 * n + 0xA00 * g → f.lo < 32 → t.listed f 4 640 = s.listed f 4 640 :=
    fun f ha hl => Agree.listed h (by decide) fun k hlo hhi => decide_eq_true (by simp only [Field.key] at hlo hhi; omega)
  unfold State.slotsOf
  split
  · rw [hlist _ (by simp [HST_CAL.A_VALID]) (by simp [HST_CAL.A_VALID])]
    refine List.filter_congr fun i hi => ?_
    have hlt := listed_lt hi
    rw [HST_CAL.A_CLIENT, h.rd (by omega)]
  · rw [hlist _ (by simp [HST_CAL.B_VALID]) (by simp [HST_CAL.B_VALID])]
    refine List.filter_congr fun i hi => ?_
    have hlt := listed_lt hi
    rw [HST_CAL.B_CLIENT, h.rd (by omega)]

theorem ButIngress.type (h : ButIngress n c s t) {l : Nat} (_ : l < 24) :
    t.rd (HST_LANE_L.TYPE n l) = s.rd (HST_LANE_L.TYPE n l) := h.rd (by rw [ingress_key]; omega)

theorem ButIngress.client (h : ButIngress n c s t) : t.rd (HST_CLI.HOME n c) = s.rd (HST_CLI.HOME n c) ∧
    t.rd (HST_CLI.EN n c) = s.rd (HST_CLI.EN n c) ∧ t.rd (HST_CLI.KIND n c) = s.rd (HST_CLI.KIND n c) :=
  ⟨h.rd (by rw [ingress_key]; omega), h.rd (by rw [ingress_key]; omega), h.rd (by rw [ingress_key]; omega)⟩

theorem home_lt : s.rd (HST_CLI.HOME n c) < 16 := rd_lt s _

theorem ButIngress.rate5 (h : ButIngress n c s t) : t.rate5 n c = s.rate5 n c := by
  obtain ⟨hhome, hen, hkind⟩ := h.client
  have hlt : s.rd (HST_CLI.HOME n c) < 16 := home_lt
  simp only [State.rate5, hhome, hen, hkind, h.type (show s.rd (HST_CLI.HOME n c) < 24 by omega), h.slotsOf hlt]

theorem ButIngress.defined (h : ButIngress n c s t) : t.defined n c = s.defined n c := by
  simp only [State.defined, State.on, h.rate5, h.client.2.1]

theorem ButIngress.portOf (h : ButIngress n c s t) {l : Nat} (hl : l < 24) : t.portOf n l = s.portOf n l := by
  simp only [State.portOf, h.type hl]

theorem ButIngress.portLanes (h : ButIngress n c s t) {l : Nat} (hl : l < 16) : t.portLanes n l = s.portLanes n l := by
  simp only [State.portLanes, h.type (show l < 24 by omega)]

theorem ButIngress.members (h : ButIngress n c s t) (g : Nat) : t.members n g = s.members n g := by
  unfold State.members
  refine List.filter_congr fun l hl => ?_
  have hlt := List.mem_range.1 hl
  have hflexe : t.rd (HST_LANE_L.FLEXE n l) = s.rd (HST_LANE_L.FLEXE n l) := h.rd (by rw [ingress_key]; omega)
  have hgroup : t.rd (HST_LANE_L.GROUP n l) = s.rd (HST_LANE_L.GROUP n l) := h.rd (by rw [ingress_key]; omega)
  simp only [State.on, h.portOf (show l < 24 by omega), h.type (show l < 24 by omega), hflexe, hgroup]

theorem members_lt {g m : Nat} (h : m ∈ s.members n g) : m < 16 := List.mem_range.1 (List.mem_filter.1 h).1

theorem ButIngress.memberOf (h : ButIngress n c s t) (g i : Nat) : t.memberOf n g i = s.memberOf n g i := by
  unfold State.memberOf
  rw [h.members g]
  split
  · rfl
  · next m ms hm =>
    have hlt : m < 16 := members_lt (g := g) (by rw [hm]; exact List.mem_cons_self ..)
    rw [h.type (show m < 24 by omega)]

theorem memberOf_lt {g i m : Nat} (h : s.memberOf n g i = some m) : m < 16 := by
  unfold State.memberOf at h
  split at h
  · cases h
  · next m' ms hm =>
    exact members_lt (g := g) (by rw [hm]; exact List.mem_of_getElem? h)

/-- First lanes of the members that carry the client's slots. -/
theorem carriers_lt {h b d m : Nat} (hm : m ∈ uniq ((s.slotsOf n h b d).filterMap (fun i => s.memberOf n h i))) : m < 16 := by
  obtain ⟨i, -, hi⟩ := List.mem_filterMap.1 (uniq_mem hm)
  exact memberOf_lt hi

theorem ButIngress.clientLanes (h : ButIngress n c s t) (b : Nat) : t.clientLanes n c b = s.clientLanes n c b := by
  obtain ⟨hhome, -, hkind⟩ := h.client
  have hlt : s.rd (HST_CLI.HOME n c) < 16 := home_lt
  simp only [State.clientLanes, hhome, hkind, h.portLanes hlt, h.slotsOf hlt, h.memberOf]
  split
  · rfl
  · exact List.flatMap_congr fun m hm => h.portLanes (carriers_lt hm)

theorem clientLanes_lt {b l : Nat} (hl : l ∈ s.clientLanes n c b) : l < 24 := by
  simp only [State.clientLanes] at hl
  split at hl
  · exact portLanes_lt home_lt hl
  · obtain ⟨m, hm, hl⟩ := List.mem_flatMap.1 hl
    exact portLanes_lt (carriers_lt hm) hl

theorem ButIngress.laneBad (h : ButIngress n c s t) {l : Nat} (_ : l < 24) : t.laneBad n l = s.laneBad n l := by
  have hlos : t.rd (HST_LSTAT_L.LOS n l) = s.rd (HST_LSTAT_L.LOS n l) := h.rd (by rw [ingress_key]; omega)
  have hlol : t.rd (HST_LSTAT_L.LOL n l) = s.rd (HST_LSTAT_L.LOL n l) := h.rd (by rw [ingress_key]; omega)
  have hlock : t.rd (HST_LSTAT_L.AM_LOCK n l) = s.rd (HST_LSTAT_L.AM_LOCK n l) := h.rd (by rw [ingress_key]; omega)
  have hfence : t.rd (HST_LSTAT_L.FENCED n l) = s.rd (HST_LSTAT_L.FENCED n l) := h.rd (by rw [ingress_key]; omega)
  simp only [State.laneBad, State.on, hlos, hlol, hlock, hfence]

theorem any_congr {α : Type} {l : List α} {p q : α → Bool} (h : ∀ x ∈ l, p x = q x) : l.any p = l.any q := by
  induction l with
  | nil => rfl
  | cons x l ih => rw [List.any_cons, List.any_cons, h x (by simp), ih fun y hy => h y (by simp [hy])]

theorem ButIngress.mustReplace (h : ButIngress n c s t) : t.mustReplace n c = s.mustReplace n c := by
  obtain ⟨hhome, -, hkind⟩ := h.client
  have hlt : s.rd (HST_CLI.HOME n c) < 16 := home_lt
  have hcal : t.rd (HST_FLX_STAT_G.RX_CAL n (s.rd (HST_CLI.HOME n c))) = s.rd (HST_FLX_STAT_G.RX_CAL n (s.rd (HST_CLI.HOME n c))) :=
    h.rd (by rw [ingress_key]; omega)
  have hgnum : t.rd (HST_FLX_STAT_G.GNUM_MISMATCH n (s.rd (HST_CLI.HOME n c))) =
      s.rd (HST_FLX_STAT_G.GNUM_MISMATCH n (s.rd (HST_CLI.HOME n c))) := h.rd (by rw [ingress_key]; omega)
  have hoh : t.rd (HST_FLX_STAT_G.OH_LOCK n (s.rd (HST_CLI.HOME n c))) = s.rd (HST_FLX_STAT_G.OH_LOCK n (s.rd (HST_CLI.HOME n c))) :=
    h.rd (by rw [ingress_key]; omega)
  have hpll : t.rd (HST_STAT.LOL n) = s.rd (HST_STAT.LOL n) := h.rd (by rw [ingress_key]; omega)
  have hbad : ∀ l ∈ s.clientLanes n c (s.rd (HST_FLX_STAT_G.RX_CAL n (s.rd (HST_CLI.HOME n c)))), t.laneBad n l = s.laneBad n l :=
    fun l hl => h.laneBad (clientLanes_lt hl)
  have hport : ∀ l ∈ s.clientLanes n c (s.rd (HST_FLX_STAT_G.RX_CAL n (s.rd (HST_CLI.HOME n c)))), t.portOf n l = s.portOf n l :=
    fun l hl => h.portOf (clientLanes_lt hl)
  simp only [State.mustReplace, State.on, State.rdBit, hhome, hcal, hgnum, hoh, hpll, hkind, h.clientLanes]
  have hcarry : (s.clientLanes n c (s.rd (HST_FLX_STAT_G.RX_CAL n (s.rd (HST_CLI.HOME n c))))).any (fun l =>
      decide (t.portOf n l = l) && !decide (bit (s.rd (HST_FLX_STAT_G.OH_LOCK n (s.rd (HST_CLI.HOME n c)))) l = 1)) =
      (s.clientLanes n c (s.rd (HST_FLX_STAT_G.RX_CAL n (s.rd (HST_CLI.HOME n c))))).any (fun l =>
      decide (s.portOf n l = l) && !decide (bit (s.rd (HST_FLX_STAT_G.OH_LOCK n (s.rd (HST_CLI.HOME n c)))) l = 1)) :=
    any_congr fun l hl => by rw [hport l hl]
  rw [any_congr hbad, hcarry]

/-! ## The end of REPLACE (R239) -/

theorem exec_clientReplaceEnd (hans : s.answers = true) (hin : s.rd (HST_CLI.IN n c) = 2) (hdef : s.defined n c = true)
    (hfree : s.mustReplace n c = false) :
    exec (.clientReplaceEnd n c) s = .next ((s.put (HST_CLI.IN n c) 1).clientRefresh n c) := by
  change Host.Outcome.next (s.when (s.answers && decide (s.rd (HST_CLI.IN n c) = 2) && s.defined n c && !s.mustReplace n c) _) = _
  rw [hans, hdef, hfree, decide_eq_true hin]
  rfl

/-- A defined client that is UP with no condition against it stays UP. -/
theorem clientRefresh_up (hin : s.rd (HST_CLI.IN n c) = 1) (hdef : s.defined n c = true) (hfree : s.mustReplace n c = false) :
    (s.clientRefresh n c).rd (HST_CLI.IN n c) = 1 ∧ (s.clientRefresh n c).ch = s.ch ∧ (s.clientRefresh n c).flow = s.flow ∧
      SameFields [HST_CLI.OUT n c, HST_CLI.MAPPED n c, HST_CLI.CREDITED n c] s (s.clientRefresh n c) := by
  have hzero : decide (s.rd (HST_CLI.IN n c) = 0) = false := by rw [hin]; decide
  unfold State.clientRefresh
  rw [hdef, hfree, hzero]
  refine ⟨?_, rfl, rfl, ?_⟩
  · refine (rd_flag_ne (key_ne_of ?_)).trans ((rd_flag_ne (key_ne_of ?_)).trans ((rd_put_ne (key_ne_of ?_)).trans hin))
    all_goals omega
  · exact sameFields_flag_of (sameFields_flag_of (sameFields_put_of (.refl _ s) (by simp)) (by simp)) (by simp)

/-- Clause 8: a client in REPLACE goes UP. -/
theorem replaceEnd_reports (hans : s.answers = true) (hin : s.rd (HST_CLI.IN n c) = 2) (hdef : s.defined n c = true)
    (hfree : s.mustReplace n c = false) :
    ∃ t, exec (.clientReplaceEnd n c) s = .next t ∧ t.rd (HST_CLI.IN n c) = 1 ∧ t.ch = s.ch ∧ t.flow = s.flow ∧
      SameFields [HST_CLI.IN n c, HST_CLI.OUT n c, HST_CLI.MAPPED n c, HST_CLI.CREDITED n c] s t := by
  have hsame : ButIngress n c s (s.put (HST_CLI.IN n c) 1) := agree_put (.refl _ s) (by simp)
  obtain ⟨up, hch, hflow, hfields⟩ := clientRefresh_up (s := s.put (HST_CLI.IN n c) 1) (n := n) (c := c) ((rd_put_same ..).trans rfl)
    (hsame.defined.trans hdef) (hsame.mustReplace.trans hfree)
  refine ⟨_, exec_clientReplaceEnd hans hin hdef hfree, up, hch, hflow, ?_⟩
  exact (sameFields_put_of (.refl _ s) (by simp)).trans (hfields.mono fun f hf => List.mem_cons_of_mem _ hf)

/-! ## RS-FEC codewords (R243) -/

/-- The counts of a codeword, before its error blocks. -/
def State.codewordCounted (n q corrected : Nat) (uncorr : Bool) (s : State) : State :=
  (s.addSat (HST_FEC_CORR_P.COUNT n q) corrected |>.countFor n .hst 0x01 corrected none).when uncorr
    (fun u => (u.bump (HST_FEC_UNC_P.COUNT n q)).count n .hst 0x02)

/-- One client's error blocks are counted. -/
def State.errorsCounted (n : Nat) (e : Fin 256 × Nat) (s : State) : State :=
  (s.addSat (HST_CLI.ERRBLK n e.1) e.2).countFor n .hst 0x03 e.2 (some e.1.val)

theorem exec_hostFecCodeword {q : Fin 16} {corrected : Nat} {uncorr : Bool} {errs : List (Fin 256 × Nat)} (hans : s.answers = true)
    (hfirst : s.portOf n q = q) (htype : s.rd (HST_LANE_L.TYPE n q) ≠ 0) (hlock : s.on (HST_LSTAT_L.AM_LOCK n q) = true) :
    exec (.hostFecCodeword n q corrected uncorr errs) s =
      .next ((s.codewordCounted n q corrected uncorr).each errs (fun e u => u.errorsCounted n e)) := by
  change Host.Outcome.next (s.when (s.answers && decide (s.portOf n q = q) && decide (s.rd (HST_LANE_L.TYPE n q) ≠ 0)
    && s.on (HST_LSTAT_L.AM_LOCK n q)) _) = _
  rw [hans, hlock, decide_eq_true hfirst, decide_eq_true htype]
  rfl

theorem countFor_sameArea {b ev d : Nat} {k : PmcBlock} {who : Option Nat} (x : Area) : SameArea s (s.countFor b k ev d who) x :=
  (kept_countFor (A := fun _ => False) (.refl s)).same x id

theorem codewordCounted_parts {q corrected : Nat} {uncorr : Bool} : (s.codewordCounted n q corrected uncorr).ch = s.ch ∧
    (s.codewordCounted n q corrected uncorr).flow = s.flow := by
  cases uncorr
  · exact ⟨countFor_sameArea .ch, countFor_sameArea .flow⟩
  · exact ⟨count_ch.trans (countFor_sameArea .ch), count_flow.trans (countFor_sameArea .flow)⟩

theorem codeword_keys : ∀ n : Fin 4, ∀ q : Fin 16, isQuiet (HST_FEC_CORR_P.COUNT n q).key = true ∧
    isQuiet (HST_FEC_UNC_P.COUNT n q).key = true ∧ (HST_FEC_CORR_P.COUNT n q).key ≠ (HST_FEC_UNC_P.COUNT n q).key := by decide +kernel

theorem errblk_keys (n : Fin 4) (q : Fin 16) (e : Fin 256) : isQuiet (HST_CLI.ERRBLK n e).key = true ∧
    (HST_CLI.ERRBLK n e).key ≠ (HST_FEC_CORR_P.COUNT n q).key ∧ (HST_CLI.ERRBLK n e).key ≠ (HST_FEC_UNC_P.COUNT n q).key := by
  have hquiet : ∀ n : Fin 4, ∀ e : Fin 256, isQuiet (HST_CLI.ERRBLK n e).key = true := by decide +kernel
  exact ⟨hquiet n e, key_ne_of (by omega), key_ne_of (by omega)⟩

theorem codewordCounted_shows {q : Fin 16} {corrected : Nat} {uncorr : Bool} :
    (s.codewordCounted n q corrected uncorr).rd (HST_FEC_CORR_P.COUNT n q) =
        Nat.min (s.rd (HST_FEC_CORR_P.COUNT n q) + corrected) (2 ^ 32 - 1) ∧
      ((s.codewordCounted n q corrected uncorr).rd (HST_FEC_UNC_P.COUNT n q) =
        if uncorr then s.oneMore (HST_FEC_UNC_P.COUNT n q) else s.rd (HST_FEC_UNC_P.COUNT n q)) := by
  obtain ⟨hcorr, hunc, hne⟩ := codeword_keys n q
  have hlt := n.isLt
  have hsat : ((s.addSat (HST_FEC_CORR_P.COUNT n q) corrected).countFor n .hst 0x01 corrected none).rd (HST_FEC_CORR_P.COUNT n q) =
      Nat.min (s.rd (HST_FEC_CORR_P.COUNT n q) + corrected) (2 ^ 32 - 1) := by
    refine (rd_countFor_quiet (by omega) (quiet_of_isQuiet hcorr)).trans ((rd_put_same ..).trans (Nat.mod_eq_of_lt ?_))
    exact Nat.lt_of_le_of_lt (Nat.min_le_right _ _) (by change 2 ^ 32 - 1 < 2 ^ 32; decide)
  have hrest : ((s.addSat (HST_FEC_CORR_P.COUNT n q) corrected).countFor n .hst 0x01 corrected none).rd (HST_FEC_UNC_P.COUNT n q) =
      s.rd (HST_FEC_UNC_P.COUNT n q) := (rd_countFor_quiet (by omega) (quiet_of_isQuiet hunc)).trans (rd_addSat_ne hne.symm)
  cases uncorr
  · exact ⟨hsat, hrest⟩
  · refine ⟨(rd_count_quiet (by omega) (quiet_of_isQuiet hcorr)).trans ((rd_bump_ne hne).trans hsat), ?_⟩
    exact (rd_count_quiet (by omega) (quiet_of_isQuiet hunc)).trans ((rd_bump_same _).trans (oneMore_congr hrest))

theorem errorsCounted_rd {e : Fin 256 × Nat} {f : Field} (hq : isQuiet f.key = true) (hf : f.key ≠ (HST_CLI.ERRBLK n e.1).key) :
    (s.errorsCounted n e).rd f = s.rd f :=
  (rd_countFor_quiet (by have := n.isLt; omega) (quiet_of_isQuiet hq)).trans (rd_addSat_ne hf)

theorem errorsCounted_shows {e : Fin 256 × Nat} (q : Fin 16) : (s.errorsCounted n e).rd (HST_CLI.ERRBLK n e.1) =
    Nat.min (s.rd (HST_CLI.ERRBLK n e.1) + e.2) (2 ^ (HST_CLI.ERRBLK n e.1).width - 1) := by
  refine (rd_countFor_quiet (by have := n.isLt; omega) (quiet_of_isQuiet (errblk_keys n q e.1).1)).trans ((rd_put_same ..).trans
    (Nat.mod_eq_of_lt ?_))
  exact Nat.lt_of_le_of_lt (Nat.min_le_right _ _) (by change 2 ^ 16 - 1 < 2 ^ 16; decide)

/-- Error blocks of clients leave the counts of the port. -/
theorem errors_rd {errs : List (Fin 256 × Nat)} {f : Field} (hq : isQuiet f.key = true)
    (hf : ∀ e : Fin 256, f.key ≠ (HST_CLI.ERRBLK n e).key) : (s.each errs (fun e u => u.errorsCounted n e)).rd f = s.rd f := by
  induction errs generalizing s with
  | nil => rfl
  | cons e errs ih => exact ih.trans (errorsCounted_rd hq (hf e.1))

theorem codeword_fields {q : Fin 16} {corrected : Nat} {uncorr : Bool} {errs : List (Fin 256 × Nat)} :
    FieldsKept ([HST_FEC_CORR_P.COUNT n q, HST_FEC_UNC_P.COUNT n q] ++ errs.map (fun e => HST_CLI.ERRBLK n e.1)) [] [n] s
      ((s.codewordCounted n q corrected uncorr).each errs (fun e u => u.errorsCounted n e)) := by
  refine fieldsKept_each (fieldsKept_when_fn ?_ fun u hu => ?_) fun e he u hu => ?_
  · exact fieldsKept_countFor (fieldsKept_put_of (.refl _ _ _ s) (by simp)) (by simp)
  · exact fieldsKept_count (fieldsKept_bump_of hu (by simp)) (by simp)
  · exact fieldsKept_countFor (fieldsKept_put_of hu (List.mem_append_right _ (List.mem_map_of_mem (f := fun e : Fin 256 × Nat =>
      HST_CLI.ERRBLK n e.1) he))) (by simp)

/-- Clause 9: a codeword of an aligned port is counted. -/
theorem codeword_reports {q : Fin 16} {corrected : Nat} {uncorr : Bool} {errs : List (Fin 256 × Nat)} (hans : s.answers = true)
    (hfirst : s.portOf n q = q) (htype : s.rd (HST_LANE_L.TYPE n q) ≠ 0) (hlock : s.on (HST_LSTAT_L.AM_LOCK n q) = true) :
    ∃ t, exec (.hostFecCodeword n q corrected uncorr errs) s = .next t ∧
      t.rd (HST_FEC_CORR_P.COUNT n q) = Nat.min (s.rd (HST_FEC_CORR_P.COUNT n q) + corrected) (2 ^ 32 - 1) ∧
      (t.rd (HST_FEC_UNC_P.COUNT n q) = if uncorr then s.oneMore (HST_FEC_UNC_P.COUNT n q) else s.rd
        (HST_FEC_UNC_P.COUNT n q)) ∧
      (∀ e ∈ errs.head?.toList, errs.tail = [] → t.rd (HST_CLI.ERRBLK n e.1) = Nat.min (s.rd (HST_CLI.ERRBLK n e.1)
        + e.2) (2 ^ (HST_CLI.ERRBLK n e.1).width - 1)) ∧
      t.ch = s.ch ∧ t.flow = s.flow ∧
      (FieldsKept ([HST_FEC_CORR_P.COUNT n q, HST_FEC_UNC_P.COUNT n q] ++ errs.map (fun e => HST_CLI.ERRBLK n e.1))
        [] [n] s t) := by
  obtain ⟨hcorr, hunc, -⟩ := codeword_keys n q
  obtain ⟨corr, unc⟩ := codewordCounted_shows (s := s) (n := n) (q := q) (corrected := corrected) (uncorr := uncorr)
  refine ⟨_, exec_hostFecCodeword hans hfirst htype hlock, (errors_rd hcorr fun e => (errblk_keys n q e).2.1.symm).trans corr,
    (errors_rd hunc fun e => (errblk_keys n q e).2.2.symm).trans unc, ?_,
    Eq.trans (each_sameArea (x := .ch) fun _ _ => countFor_sameArea .ch) codewordCounted_parts.1,
    Eq.trans (each_sameArea (x := .flow) fun _ _ => countFor_sameArea .flow) codewordCounted_parts.2, codeword_fields⟩
  intro e he htail
  cases errs with
  | nil => simp at he
  | cons e' errs =>
    obtain rfl : e = e' := by simpa using he
    obtain rfl : errs = [] := htail
    refine (errorsCounted_shows q).trans ?_
    have hkeep : (s.codewordCounted n q corrected uncorr).rd (HST_CLI.ERRBLK n e.1) = s.rd (HST_CLI.ERRBLK n e.1) :=
      (codeword_fields (errs := [])).read (by simp) (by have := n.isLt; simp; omega)
        ⟨(errblk_keys n q e.1).1, by
          simp only [List.map_nil, List.append_nil, List.forall_mem_cons]
          exact ⟨(errblk_keys n q e.1).2.1.symm, (errblk_keys n q e.1).2.2.symm, fun _ h => nomatch h⟩⟩
    rw [hkeep]

/-! ## The host PLL (R250) -/

/-- The host PLL's fields. -/
def pllFields (n : Nat) : List Field :=
  [HST_STAT.LOL n, HST_PLL_STAT.LOCK n, HST_PLL_STAT.LOL_CNT n, HST_STAT.REFLOSS n, HSTC.LOL_PREV n, HSTC.LOL_LAST n]

theorem pll_key : ∀ n : Fin 4, ∀ f ∈ pllFields n, LaneKey n f.key := by
  unfold LaneKey
  decide +kernel

theorem pll_ne (n : Fin 4) (i j : Fin 6) (h : i ≠ j := by decide) : ((pllFields n).get i).key ≠ ((pllFields n).get j).key := by
  revert n i j
  decide

theorem hstRefresh_keeps {f : Field} (h : LaneKey n f.key) : (s.hstRefresh n).rd f = s.rd f := hstRefresh_rd h.1 h.2.1

theorem sourceOf_64_lt : ∀ n : Fin 4, ∀ M ∈ [sourceOf n 0x64], M < 2048 := by decide

theorem hstRefresh_pend : (s.hstRefresh n).rd (IRQ_PEND (sourceOf n 0x64)) = s.rd (IRQ_PEND (sourceOf n 0x64)) := by
  have hapart : ∀ n : Fin 4, outside (clientKeys n) (IRQ_PEND (sourceOf n 0x64)).key = true ∧
      sourceOf n 0x64 ∉ [sourceOf n 0x61] ++ [n.val, 4].flatMap overflowSources := by decide
  obtain ⟨hout, hsrc⟩ := hapart n
  exact (hstRefresh_moved n.isLt).fields.readPend (sourceOf_61_lt n) (scopes_lt n) (sourceOf_64_lt n _ (by simp)) hsrc fun g hg =>
    (ne_of_outside hout (clientFields_hit n.isLt hg)).symm

/-- The loss of lock shows. -/
def State.pllLost (n : Nat) (ref : Bool) (s : State) : State :=
  s.put (HST_STAT.LOL n) 1 |>.put (HST_PLL_STAT.LOCK n) 0 |>.bump (HST_PLL_STAT.LOL_CNT n)
    |>.when ref (·.put (HST_STAT.REFLOSS n) 1) |>.raiseCh n 0x64
    |>.put (HSTC.LOL_PREV n) (s.rd (HSTC.LOL_LAST n)) |>.put (HSTC.LOL_LAST n) (s.time + 1)

theorem exec_hostPllLossOfLock {ref : Bool} (hans : s.answers = true) (hlol : s.on (HST_STAT.LOL n) = false)
    (hfirst : s.rd (HSTC.LOL_PREV n) = 0 ∨ s.rd (HSTC.LOL_PREV n) + 1000000000 < s.time + 1) :
    exec (.hostPllLossOfLock n ref) s = .next ((s.pllLost n ref).hstRefresh n) := by
  have hthird : (decide (s.rd (HSTC.LOL_PREV n) ≠ 0) && decide (s.time + 1 - s.rd (HSTC.LOL_PREV n) ≤ 1000000000)) = false := by
    rw [Bool.and_eq_false_iff, decide_eq_false_iff_not, decide_eq_false_iff_not]
    omega
  change Host.Outcome.next (s.when (s.answers && !s.on (HST_STAT.LOL n)) (fun t => ((t.pllLost n ref).hstRefresh n).when
    (decide (t.rd (HSTC.LOL_PREV n) ≠ 0) && decide (t.time + 1 - t.rd (HSTC.LOL_PREV n) ≤ 1000000000)) _)) = _
  rw [hans, hlol, Bool.not_false, Bool.and_true, when_true, hthird, when_false]

theorem pllLost_parts {ref : Bool} : (s.pllLost n ref).ch = s.ch ∧ (s.pllLost n ref).flow = s.flow := by
  cases ref <;> exact ⟨(put_ch ..).trans ((put_ch ..).trans (raiseCh_ch ..)), (put_flow ..).trans ((put_flow ..).trans (raiseCh_flow ..))⟩

theorem pllLost_fields {ref : Bool} : FieldsKept (pllFields n) [sourceOf n 0x64] [n, 4] s (s.pllLost n ref) := by
  refine fieldsKept_put_of (fieldsKept_put_of (fieldsKept_raiseCh (fieldsKept_when_fn ?_ fun u hu => ?_) (by simp))
    (by simp [pllFields])) (by simp [pllFields])
  · exact fieldsKept_bump_of (fieldsKept_put_of (fieldsKept_put_of (.refl _ _ _ s) (by simp [pllFields])) (by simp [pllFields]))
      (by simp [pllFields])
  · exact fieldsKept_put_of hu (by simp [pllFields])

theorem pllLost_shows {ref : Bool} : (s.pllLost n ref).rd (HST_STAT.LOL n) = 1 ∧ (s.pllLost n ref).rd (HST_PLL_STAT.LOCK n) = 0 ∧
    (s.pllLost n ref).rd (HST_PLL_STAT.LOL_CNT n) = s.oneMore (HST_PLL_STAT.LOL_CNT n) ∧
    ((s.pllLost n ref).rd (HST_STAT.REFLOSS n) = if ref then 1 else s.rd (HST_STAT.REFLOSS n)) ∧
    (s.pllLost n ref).rd (IRQ_PEND (sourceOf n 0x64)) = 1 := by
  have hq : ∀ f ∈ pllFields n, QuietKey f.key := fun f hf => quiet_of_isQuiet (pll_key n f hf).1
  have hpend : ∀ n : Fin 4, (IRQ_PEND (sourceOf n 0x64)).key ≠ (HSTC.LOL_LAST n).key ∧
      (IRQ_PEND (sourceOf n 0x64)).key ≠ (HSTC.LOL_PREV n).key := by decide
  unfold State.pllLost
  refine ⟨?_, ?_, ?_, ?_, (rd_put_ne (hpend n).1).trans ((rd_put_ne (hpend n).2).trans (raiseCh_pend (by decide)))⟩
  · rw [rd_put_ne (by exact pll_ne n 0 5), rd_put_ne (by exact pll_ne n 0 4), rd_raiseCh_quiet (by decide) (hq _ (by simp [pllFields])),
      rd_when_same fun u => rd_put_ne (by exact pll_ne n 0 3), rd_bump_ne (by exact pll_ne n 0 2), rd_put_ne (by exact pll_ne n 0 1),
      rd_put_same]
    rfl
  · rw [rd_put_ne (by exact pll_ne n 1 5), rd_put_ne (by exact pll_ne n 1 4), rd_raiseCh_quiet (by decide) (hq _ (by simp [pllFields])),
      rd_when_same fun u => rd_put_ne (by exact pll_ne n 1 3), rd_bump_ne (by exact pll_ne n 1 2), rd_put_same]
    rfl
  · rw [rd_put_ne (by exact pll_ne n 2 5), rd_put_ne (by exact pll_ne n 2 4), rd_raiseCh_quiet (by decide) (hq _ (by simp [pllFields])),
      rd_when_same fun u => rd_put_ne (by exact pll_ne n 2 3), rd_bump_same]
    exact oneMore_congr ((rd_put_ne (pll_ne n 2 1)).trans (rd_put_ne (pll_ne n 2 0)))
  · rw [rd_put_ne (by exact pll_ne n 3 5), rd_put_ne (by exact pll_ne n 3 4), rd_raiseCh_quiet (by decide) (hq _ (by simp [pllFields]))]
    cases ref
    · exact (rd_bump_ne (pll_ne n 3 2)).trans ((rd_put_ne (pll_ne n 3 1)).trans (rd_put_ne (pll_ne n 3 0)))
    · exact (rd_put_same ..).trans rfl

theorem pll_apart (n m : Fin 4) : ∀ g ∈ pllFields n, g.key ≠ (LDS_CH_STATE.STATE m).key ∧ g.key ≠ (OPT_STAT.PHASE m).key :=
  fun g hg => (pll_key n g hg).2.2.2 m

/-- Clause 10: the host PLL goes out of lock. -/
theorem pllLossOfLock_reports {ref : Bool} (hans : s.answers = true) (hlol : s.on (HST_STAT.LOL n) = false)
    (hfirst : s.rd (HSTC.LOL_PREV n) = 0 ∨ s.rd (HSTC.LOL_PREV n) + 1000000000 < s.time + 1) :
    ∃ t, exec (.hostPllLossOfLock n ref) s = .next t ∧ t.rd (HST_STAT.LOL n) = 1 ∧ t.rd (HST_PLL_STAT.LOCK n) = 0 ∧
      t.rd (HST_PLL_STAT.LOL_CNT n) = s.oneMore (HST_PLL_STAT.LOL_CNT n) ∧
      (t.rd (HST_STAT.REFLOSS n) = if ref then 1 else s.rd (HST_STAT.REFLOSS n)) ∧
      t.rd (IRQ_PEND (sourceOf n 0x64)) = 1 ∧
      Reached n (pllFields n ++ clientFields n) [sourceOf n 0x64, sourceOf n 0x61] s t := by
  obtain ⟨lol, lock, count, ref', pend⟩ := pllLost_shows (s := s) (n := n) (ref := ref)
  have hkeep : ∀ f ∈ pllFields n, ((s.pllLost n ref).hstRefresh n).rd f = (s.pllLost n ref).rd f := fun f hf =>
    hstRefresh_keeps (pll_key n f hf)
  exact ⟨_, exec_hostPllLossOfLock hans hlol hfirst, (hkeep _ (by simp [pllFields])).trans lol,
    (hkeep _ (by simp [pllFields])).trans lock, (hkeep _ (by simp [pllFields])).trans count,
    (hkeep _ (by simp [pllFields])).trans ref', hstRefresh_pend.trans pend,
    reached_of_moved pllLost_fields pllLost_parts.1 pllLost_parts.2 (hstRefresh_moved n.isLt) (pll_apart n) (fun _ h => h) (by simp)
      (sourceOf_64_lt n)⟩

/-- Clause 11: the host PLL locks. -/
theorem pllLock_reports (hans : s.answers = true) :
    ∃ t, exec (.hostPllLock n) s = .next t ∧ t.rd (HST_STAT.LOL n) = 0 ∧ t.rd (HST_PLL_STAT.LOCK n) = 1 ∧
      t.rd (HST_STAT.REFLOSS n) = 0 ∧
      Reached n ([HST_STAT.LOL n, HST_PLL_STAT.LOCK n, HST_STAT.REFLOSS n] ++ clientFields n) [sourceOf n 0x61] s t := by
  have hexec : exec (.hostPllLock n) s =
      .next ((((s.put (HST_STAT.LOL n) 0).put (HST_PLL_STAT.LOCK n) 1).put (HST_STAT.REFLOSS n) 0).hstRefresh n) := by
    change Host.Outcome.next (s.when s.answers _) = _
    rw [hans, when_true]
  have hkeep : ∀ f ∈ pllFields n, ∀ u : State, (u.hstRefresh n).rd f = u.rd f := fun f hf u => hstRefresh_keeps (pll_key n f hf)
  refine ⟨_, hexec, (hkeep _ (by simp [pllFields]) _).trans ?_, (hkeep _ (by simp [pllFields]) _).trans ?_,
    (hkeep _ (by simp [pllFields]) _).trans ((rd_put_same ..).trans rfl), ?_⟩
  · exact (rd_put_ne (pll_ne n 0 3)).trans ((rd_put_ne (pll_ne n 0 1)).trans ((rd_put_same ..).trans rfl))
  · exact (rd_put_ne (pll_ne n 1 3)).trans ((rd_put_same ..).trans rfl)
  · refine reached_of_moved (l := [HST_STAT.LOL n, HST_PLL_STAT.LOCK n, HST_STAT.REFLOSS n]) (src := [])
      (u := ((s.put (HST_STAT.LOL n) 0).put (HST_PLL_STAT.LOCK n) 1).put (HST_STAT.REFLOSS n) 0) ?_ rfl rfl
      (hstRefresh_moved n.isLt) (fun m g hg => pll_apart n m g (by revert hg; simp only [pllFields, List.mem_cons]; tauto)) (fun _ h => h) (by simp) (by simp)
    exact fieldsKept_put_of (fieldsKept_put_of (fieldsKept_put_of (.refl _ _ _ s) (by simp)) (by simp)) (by simp)

end

/-- Settles O31: a lane's own fields show its losses and its alignment, RX_UP follows them, and each client is looked at anew. -/
theorem hostLanesReportAndAlign : Obligations.HostLanesReportAndAlign := by
  unfold Obligations.HostLanesReportAndAlign
  refine ⟨?_, ?_, ?_, ?_, ?_, ?_, ?_, ?_, ?_, ?_, ?_⟩
  · intro s n l hans hlos
    obtain ⟨t, ht, los, losEv, count, lol, more, laneEv, pend, up, egress, tok, others, fields⟩ := losDeclare_reports hans hlos
    exact ⟨t, ht, los, losEv, count, lol, more, laneEv, pend, up, egress, tok, others, fields⟩
  · intro s n l hans
    obtain ⟨t, ht, los, lol, egress, tok, others, fields⟩ := losClear_reports hans
    exact ⟨t, ht, los, lol, egress, tok, others, fields⟩
  · intro s n l hans hlol
    obtain ⟨t, ht, lol, lolEv, count, laneEv, pend, up, egress, tok, others, fields⟩ := lolDeclare_reports hans hlol
    exact ⟨t, ht, lol, lolEv, count, laneEv, pend, up, egress, tok, others, fields⟩
  · intro s n l hans hlos
    obtain ⟨t, ht, lol, up, egress, tok, others, fields⟩ := lolClear_reports hans hlos
    exact ⟨t, ht, lol, up, egress, tok, others, fields⟩
  · exact fun s n l hans hlos => ⟨s, lolClear_waits hans hlos, rfl⟩
  · intro s n q skew hans hsome hfirst hskew hgood
    obtain ⟨t, ht, lanes, egress, tok, others, fields⟩ := alignmentLock_reports hans hsome hfirst hskew hgood
    exact ⟨t, ht, lanes, egress, tok, others, fields⟩
  · intro s n q hans
    obtain ⟨t, ht, lanes, egress, tok, others, fields⟩ := alignmentLoss_reports hans
    exact ⟨t, ht, lanes, egress, tok, others, fields⟩
  · exact fun s n c hans hin hdef hfree => replaceEnd_reports hans hin hdef hfree
  · exact fun s n q corrected uncorr errs hans hfirst htype hlock => codeword_reports hans hfirst htype hlock
  · intro s n ref hans hlol hfirst
    obtain ⟨t, ht, lol, lock, count, ref', pend, egress, tok, others, fields⟩ := pllLossOfLock_reports hans hlol hfirst
    exact ⟨t, ht, lol, lock, count, ref', pend, egress, tok, others, fields⟩
  · intro s n hans
    obtain ⟨t, ht, lol, lock, ref, egress, tok, others, fields⟩ := pllLock_reports hans
    exact ⟨t, ht, lol, lock, ref, egress, tok, others, fields⟩

end Sys2Proof.Machine
end

section
/-! SUPPORT. What a fence of a unit leaves of a channel that keeps a native mode and resizes nothing (R36, R57, R75): the marks
of the fence, MAXMODE, the reaches and the device mode. -/

set_option Elab.async false

namespace Sys2Proof.Machine

section
variable {s t u : State} {n : Nat}

/-- Fields of the device mode (Table 1.6). -/
def modeFields : List Field := [DEV_MODE.CH_FENCED, DEV_MODE.CH_SERVICE, DEV_MODE.MODE]

theorem fieldsKept_evalMode {l : List Field} {src pmc : List Nat} (h : FieldsKept l src pmc s t) (hl : ∀ f ∈ modeFields, f ∈ l)
    (hs : 0 ∈ src) : FieldsKept l src pmc s t.evalMode := by
  have hput := fieldsKept_put_of (v := ofBits (channels.map (fun n => t.inTraffic n)))
    (fieldsKept_put_of (v := ofBits (channels.map (fun n => t.chSt n = ChSt.fenced))) h (hl DEV_MODE.CH_FENCED (by simp [modeFields])))
    (hl DEV_MODE.CH_SERVICE (by simp [modeFields]))
  unfold State.evalMode
  split
  · exact fieldsKept_setMode hput (hl _ (by simp [modeFields])) hs
  · exact hput

theorem evalMode_sameArea (x : Area) : SameArea s s.evalMode x := (kept_evalMode (A := fun _ => False) (.refl s)).same x id

/-- The reaches of a channel. -/
def reachFields (n : Nat) : List Field := [LDS_PROF_P.REACH n 0, LDS_PROF_P.REACH n 1, LDS_PROF_P.REACH n 2, LDS_PROF_P.REACH n 3]

theorem fieldsKept_reaches {l : List Field} {src pmc : List Nat} {m : List Nat} {g : Nat → State → State} (h : FieldsKept l src pmc s t)
    (hg : ∀ p ∈ m, ∀ u, ∃ v, g p u = u.put (LDS_PROF_P.REACH n p) v) (hl : ∀ p ∈ m, LDS_PROF_P.REACH n p ∈ l) :
    FieldsKept l src pmc s (t.each m g) :=
  fieldsKept_each h fun p hp u hu => by
    obtain ⟨v, hv⟩ := hg p hp u
    rw [hv]
    exact fieldsKept_put_of hu (hl p hp)

/-- A reach is put for each profile. -/
theorem reach_put (n p : Nat) (c : State) (u : State) : ∃ v,
    (match c.profile n p with
      | some pr => u.flag (LDS_PROF_P.REACH n p) (c.reachOf n pr)
      | none => u.put (LDS_PROF_P.REACH n p) 0) = u.put (LDS_PROF_P.REACH n p) v := by
  cases c.profile n p
  · exact ⟨_, rfl⟩
  · exact ⟨_, rfl⟩

theorem recompute_after : FieldsKept (reachFields n) [] [] (s.put (LDS_CH_STATE.MAXMODE n) (s.maxModeOf n)) (s.recompute n) := by
  unfold State.recompute
  refine fieldsKept_reaches (n := n) (.refl _ _ _ _) (fun p _ u => ?_) (by simp [reachFields])
  exact reach_put n p s u

theorem fieldsKept_recompute {l : List Field} {src pmc : List Nat} (h : FieldsKept l src pmc s t)
    (hl : ∀ f ∈ LDS_CH_STATE.MAXMODE n :: reachFields n, f ∈ l) : FieldsKept l src pmc s (t.recompute n) :=
  (fieldsKept_put_of h (hl _ (by simp))).trans (recompute_after.widen (fun f hf => hl f (List.mem_cons_of_mem _ hf)) (by simp) (by simp))

theorem recompute_sameArea (x : Area) : SameArea s (s.recompute n) x := (kept_recompute (A := fun _ => False) (.refl s)).same x id

theorem maxModeOf_lt : s.maxModeOf n < 2 ^ 8 := by
  have hmodes : ∀ r ∈ nativeModes, r.1 < 2 ^ 8 := by decide
  unfold State.maxModeOf
  dsimp only
  split
  · decide
  · split
    · next r hr => exact hmodes r (List.mem_of_find?_eq_some hr)
    · decide

/-- Fields that the highest native mode follows from. -/
def capacityFields (n : Nat) : List Field :=
  [LDS_TILE_SUM.FENCED n, CNV_PLL_STAT.RX_FAULT n, CNV_PLL_STAT.TX_FAULT n, FEC_ENG_ACT.ACTIVE n, CNV_RATE.MAXRS n]

theorem maxModeOf_congr (h : ∀ f ∈ capacityFields n, t.rd f = s.rd f) : t.maxModeOf n = s.maxModeOf n := by
  unfold State.maxModeOf
  rw [h (LDS_TILE_SUM.FENCED n) (by simp [capacityFields]), h (CNV_PLL_STAT.RX_FAULT n) (by simp [capacityFields]),
    h (CNV_PLL_STAT.TX_FAULT n) (by simp [capacityFields]), h (FEC_ENG_ACT.ACTIVE n) (by simp [capacityFields]),
    h (CNV_RATE.MAXRS n) (by simp [capacityFields])]

theorem rszRunning_congr (h : t.rd (LDS_RSZ_STAT.STATE n) = s.rd (LDS_RSZ_STAT.STATE n)) : t.rszRunning n = s.rszRunning n := by
  simp only [State.rszRunning, h]

/-- Fields that a fence or a lift of a unit sets, where the channel keeps its state. -/
def unitFields (n : Nat) : List Field := [FABC.COND n, LDS_CH_STATE.MAXMODE n] ++ reachFields n ++ modeFields

/-- No resize runs, so none is withdrawn. -/
theorem rszFence_of_still (h : s.rszRunning n = false) : s.rszFence n = s := by
  unfold State.rszFence
  dsimp only
  rw [h, Bool.false_and, if_neg Bool.false_ne_true]

/-- The marks of the fence, before the device mode. -/
def State.fenceMarked (n : Nat) (s : State) : State := (s.breach n 2).recompute n

theorem fenceMarked_fields : FieldsKept (FABC.COND n :: LDS_CH_STATE.MAXMODE n :: reachFields n) [] [] s (s.fenceMarked n) :=
  fieldsKept_recompute (fieldsKept_putBit_of (.refl _ _ _ s) (by simp)) fun _ hf => List.mem_cons_of_mem _ hf

theorem fenceMarked_sameArea (x : Area) : SameArea s (s.fenceMarked n) x :=
  ((kept_breach (A := fun _ => False) (.refl s)).same x id).trans (recompute_sameArea x)

end

section
variable {s t u : State} {n : Fin 4}

theorem capacity_apart : ∀ n : Fin 4, ∀ f ∈ LDS_RSZ_STAT.STATE n :: capacityFields n, f.key ≠ (FABC.COND n).key ∧
    isQuiet f.key = true ∧ ∀ g ∈ FABC.COND n :: LDS_CH_STATE.MAXMODE n :: reachFields n, g.key ≠ f.key := by decide +kernel

theorem fenceMarked_maxMode : (s.fenceMarked n).rd (LDS_CH_STATE.MAXMODE n) = s.maxModeOf n := by
  have hreach : ∀ n : Fin 4, isQuiet (LDS_CH_STATE.MAXMODE n).key = true ∧
      ∀ g ∈ reachFields n, g.key ≠ (LDS_CH_STATE.MAXMODE n).key := by decide
  have hcap : (s.breach n 2).maxModeOf n = s.maxModeOf n := maxModeOf_congr fun f hf =>
    rd_putBit_ne (capacity_apart n f (List.mem_cons_of_mem _ hf)).1
  refine (recompute_after.read (by simp) (by simp) (hreach n)).trans ((rd_put_same ..).trans ?_)
  rw [hcap]
  exact Nat.mod_eq_of_lt maxModeOf_lt

theorem fenceMarked_rsz : (s.fenceMarked n).rszRunning n = s.rszRunning n :=
  rszRunning_congr (fenceMarked_fields.read (by simp) (by simp) (capacity_apart n _ (by simp)).2)

/-- Where a native mode is left and no resize runs, a fence shows in the marks and the device mode alone. -/
theorem unitChanged_of_capable (hmax : s.maxModeOf n ≠ 0) (hrsz : s.rszRunning n = false) :
    s.unitChanged n true = if s.operating then (s.fenceMarked n).evalMode else s.fenceMarked n := by
  unfold State.unitChanged
  change (if s.operating = true then (if (true && decide (((s.fenceMarked n).rszFence n).rd (LDS_CH_STATE.MAXMODE n) = 0) &&
    decide (((s.fenceMarked n).rszFence n).chSt n ≠ ChSt.fenced)) = true then ((s.fenceMarked n).rszFence n).fenceChannel n
    else ((s.fenceMarked n).rszFence n).evalMode) else s.fenceMarked n) = _
  rw [rszFence_of_still (fenceMarked_rsz.trans hrsz), fenceMarked_maxMode, decide_eq_false hmax]
  simp

/-- What a fence of a unit shows and keeps, where a native mode is left and no resize runs. -/
structure UnitFenced (n : Fin 4) (s t : State) : Prop where
  fields : FieldsKept (unitFields n) [0] [] s t
  ch : t.ch = s.ch
  flow : t.flow = s.flow
  cond : t.rdBit (FABC.COND n) 2 = true

theorem unitChanged_fences (hmax : s.maxModeOf n ≠ 0) (hrsz : s.rszRunning n = false) : UnitFenced n s (s.unitChanged n true) := by
  have hcond : (s.fenceMarked n).rdBit (FABC.COND n) 2 = true := by
    have happart : ∀ n : Fin 4, isQuiet (FABC.COND n).key = true ∧ ∀ g ∈ LDS_CH_STATE.MAXMODE n :: reachFields n, g.key ≠ (FABC.COND n).key := by
      decide
    have hread : (s.fenceMarked n).rd (FABC.COND n) = (s.breach n 2).rd (FABC.COND n) :=
      (fieldsKept_recompute (.refl (LDS_CH_STATE.MAXMODE n :: reachFields n) [] [] _) fun _ h => h).read (by simp) (by simp) (happart n)
    unfold State.rdBit
    rw [hread]
    exact rdBit_putBit (show 2 < 8 by decide)
  have hfields : FieldsKept (unitFields n) [0] [] s (s.fenceMarked n) :=
    fenceMarked_fields.widen (fun f hf => List.mem_append_left _ hf) (by simp) (by simp)
  rw [unitChanged_of_capable hmax hrsz]
  split
  · refine ⟨fieldsKept_evalMode hfields (fun f hf => List.mem_append_right _ hf) (by simp),
      Eq.trans (evalMode_sameArea .ch) (fenceMarked_sameArea .ch), Eq.trans (evalMode_sameArea .flow) (fenceMarked_sameArea .flow), ?_⟩
    have happart : ∀ n : Fin 4, isQuiet (FABC.COND n).key = true ∧ ∀ g ∈ modeFields, g.key ≠ (FABC.COND n).key := by decide
    have hread : (s.fenceMarked n).evalMode.rd (FABC.COND n) = (s.fenceMarked n).rd (FABC.COND n) :=
      (fieldsKept_evalMode (.refl modeFields [0] [] _) (fun _ h => h) (by simp)).read (by simp) (by simp) (happart n)
    unfold State.rdBit
    rw [hread]
    exact hcond
  · exact ⟨hfields, fenceMarked_sameArea .ch, fenceMarked_sameArea .flow, hcond⟩

theorem unit_apart : ∀ n m : Fin 4, ∀ g ∈ unitFields n, g.key ≠ (LDS_CH_STATE.STATE m).key ∧ g.key ≠ (OPT_STAT.PHASE m).key := by
  decide

theorem UnitFenced.othersKept (h : UnitFenced n s t) : OthersKept n s t :=
  othersKept_of_fieldsKept (.of_eq h.flow) (.of_eq h.ch) h.fields (by simp) (by simp) fun m _ => unit_apart n m

theorem UnitFenced.rd {f : Field} (h : UnitFenced n s t) (hq : isQuiet f.key = true) (hf : ∀ g ∈ unitFields n, g.key ≠ f.key) :
    t.rd f = s.rd f := h.fields.read (by simp) (by simp) ⟨hq, hf⟩

theorem UnitFenced.pend {M : Nat} (h : UnitFenced n s t) (hM : M < 2048) (hne : M ≠ 0) (hf : ∀ g ∈ unitFields n, g.key ≠ (IRQ_PEND M).key) :
    t.rd (IRQ_PEND M) = s.rd (IRQ_PEND M) := h.fields.readPend (by simp) (by simp) hM (by simpa using hne) hf

end

end Sys2Proof.Machine
end

section
/-! O33. Lane detectors and HST_LANE_CMD fence a host lane, the PLL fault all sixteen (R248 to R250). -/

set_option Elab.async false

namespace Sys2Proof.Machine

section
variable {s t u : State} {n : Fin 4} {l : Fin 16} {c : Nat}

/-! ## A lane is fenced -/

/-- A lane's fence, before what it reaches. -/
def State.laneFenceShown (n l c : Nat) (s : State) : State :=
  s.put (HST_LSTAT_L.CAUSE n l) c |>.put (HST_LSTAT_L.FENCED n l) 1 |>.putBit (HST_LANES.FENCED n) l true
    |>.put (HST_STAT.FENCE_EV n) 1 |>.raiseCh n 0x63

theorem fenceLane_of_unfenced (h : s.on (HST_LSTAT_L.FENCED n l) = false) :
    s.fenceLane n l c = ((s.laneFenceShown n l c).laneRefresh n).unitChanged n true := by
  unfold State.fenceLane
  rw [h, if_neg Bool.false_ne_true]
  rfl

theorem fenceLane_of_fenced (h : s.on (HST_LSTAT_L.FENCED n l) = true) : s.fenceLane n l c = s := if_pos h

/-- The fields of a lane's fence. -/
def laneFenceFields (n l : Nat) : List Field :=
  [HST_LSTAT_L.CAUSE n l, HST_LSTAT_L.FENCED n l, HST_LANES.FENCED n, HST_STAT.FENCE_EV n]

/-- A field that a fence of a lane reaches by its own fields alone. -/
def FenceKey (n : Fin 4) (k : Nat) : Prop := LaneKey n k ∧ ∀ g ∈ unitFields n, g.key ≠ k

theorem laneFence_key : ∀ n : Fin 4, ∀ l : Fin 16, ∀ f ∈ laneFenceFields n l, FenceKey n f.key := by
  unfold FenceKey LaneKey
  decide +kernel

theorem laneFence_ne (n : Fin 4) (l : Fin 16) (i j : Fin 4) (h : i ≠ j := by decide) :
    ((laneFenceFields n l).get i).key ≠ ((laneFenceFields n l).get j).key := by
  revert n l i j
  decide +kernel

theorem laneFenceShown_fields : FieldsKept (laneFenceFields n l) [sourceOf n 0x63] [n, 4] s (s.laneFenceShown n l c) :=
  fieldsKept_raiseCh (fieldsKept_put_of (fieldsKept_putBit_of (fieldsKept_put_of (fieldsKept_put_of (.refl _ _ _ s)
    (by simp [laneFenceFields])) (by simp [laneFenceFields])) (by simp [laneFenceFields])) (by simp [laneFenceFields])) (by simp)

theorem laneFenceShown_shows (hc : c < 16) : (s.laneFenceShown n l c).rd (HST_LSTAT_L.FENCED n l) = 1 ∧
    (s.laneFenceShown n l c).rd (HST_LSTAT_L.CAUSE n l) = c ∧ (s.laneFenceShown n l c).rdBit (HST_LANES.FENCED n) l = true ∧
    (s.laneFenceShown n l c).rd (HST_STAT.FENCE_EV n) = 1 ∧ (s.laneFenceShown n l c).rd (IRQ_PEND (sourceOf n 0x63)) = 1 := by
  have hq : ∀ f ∈ laneFenceFields n l, QuietKey f.key := fun f hf => quiet_of_isQuiet (laneFence_key n l f hf).1.1
  unfold State.laneFenceShown
  refine ⟨?_, ?_, ?_, ?_, raiseCh_pend (by decide)⟩
  · rw [rd_raiseCh_quiet (by decide) (hq _ (by simp [laneFenceFields])), rd_put_ne (by exact laneFence_ne n l 1 3),
      rd_putBit_ne (by exact laneFence_ne n l 1 2), rd_put_same]
    rfl
  · rw [rd_raiseCh_quiet (by decide) (hq _ (by simp [laneFenceFields])), rd_put_ne (by exact laneFence_ne n l 0 3),
      rd_putBit_ne (by exact laneFence_ne n l 0 2), rd_put_ne (by exact laneFence_ne n l 0 1), rd_put_same]
    exact Nat.mod_eq_of_lt hc
  · have hread : ∀ u : State, ((u.put (HST_STAT.FENCE_EV n) 1).raiseCh n 0x63).rd (HST_LANES.FENCED n) = u.rd (HST_LANES.FENCED n) :=
      fun u => (rd_raiseCh_quiet (by decide) (hq _ (by simp [laneFenceFields]))).trans (rd_put_ne (laneFence_ne n l 2 3))
    unfold State.rdBit
    rw [hread]
    exact rdBit_putBit (show l.val < 16 from l.isLt)
  · rw [rd_raiseCh_quiet (by decide) (hq _ (by simp [laneFenceFields])), rd_put_same]
    rfl

theorem laneFenceShown_parts : (s.laneFenceShown n l c).ch = s.ch ∧ (s.laneFenceShown n l c).flow = s.flow :=
  ⟨raiseCh_ch .., raiseCh_flow ..⟩

theorem fence_sources_lt : ∀ n : Fin 4, ∀ M ∈ [sourceOf n 0x63], M < 2048 := by decide

theorem fence_sources_lt' : ∀ n : Fin 4, ∀ M ∈ [sourceOf n 0x63, sourceOf n 0x61, 0], M < 2048 := by decide

/-- The lane's fence with what the lanes reach. -/
theorem laneFence_reached : Reached n (HST_LANES.RX_UP n :: laneFenceFields n l ++ clientFields n) [sourceOf n 0x63, sourceOf n 0x61] s
    ((s.laneFenceShown n l c).laneRefresh n) :=
  laneRefresh_reached laneFenceShown_fields laneFenceShown_parts.1 laneFenceShown_parts.2
    (fun m g hg => (laneFence_key n l g hg).1.2.2.2 m) (fun _ h => h) (by simp) (fence_sources_lt n)

theorem capacity_lane : ∀ n : Fin 4, ∀ f ∈ LDS_RSZ_STAT.STATE n :: LDS_CH_STATE.STATE n :: capacityFields n, isQuiet f.key = true ∧
    outside (clientKeys n) f.key = true ∧ f.key ≠ (HST_LANES.RX_UP n).key := by decide

theorem capacity_fence : ∀ n : Fin 4, ∀ l : Fin 16, ∀ f ∈ LDS_RSZ_STAT.STATE n :: LDS_CH_STATE.STATE n :: capacityFields n,
    ∀ g ∈ laneFenceFields n l, g.key ≠ f.key := by decide +kernel

/-- What the channel's capacity, its resize and its state follow from stays through the lanes' change. -/
theorem laneFence_keeps {f : Field} (hf : f ∈ LDS_RSZ_STAT.STATE n :: LDS_CH_STATE.STATE n :: capacityFields n) :
    ((s.laneFenceShown n l c).laneRefresh n).rd f = s.rd f := by
  obtain ⟨hq, hout, hup⟩ := capacity_lane n f hf
  exact (laneRefresh_rd hup hq hout).trans (laneFenceShown_fields.read (fence_sources_lt n) (scopes_lt n)
    ⟨hq, capacity_fence n l f hf⟩)

theorem laneFence_capacity : ((s.laneFenceShown n l c).laneRefresh n).maxModeOf n = s.maxModeOf n ∧
    ((s.laneFenceShown n l c).laneRefresh n).rszRunning n = s.rszRunning n :=
  ⟨maxModeOf_congr fun _ hf => laneFence_keeps (by simp [hf]), rszRunning_congr (laneFence_keeps (by simp))⟩

theorem laneFence_pend : ((s.laneFenceShown n l c).laneRefresh n).rd (IRQ_PEND (sourceOf n 0x63)) = 1 := by
  have hapart : ∀ n : Fin 4, outside (clientKeys n) (IRQ_PEND (sourceOf n 0x63)).key = true ∧
      sourceOf n 0x63 ∉ [sourceOf n 0x61] ++ [n.val, 4].flatMap overflowSources ∧
      (IRQ_PEND (sourceOf n 0x63)).key ≠ (HST_LANES.RX_UP n).key := by decide
  obtain ⟨hout, hsrc, hup⟩ := hapart n
  exact ((hstRefresh_moved n.isLt).fields.readPend (sourceOf_61_lt n) (scopes_lt n) (fence_sources_lt n _ (by simp)) hsrc fun g hg =>
    (ne_of_outside hout (clientFields_hit n.isLt hg)).symm).trans ((rxUp_rd hup).trans (raiseCh_pend (by decide)))

/-- Fields that a fence of lane l may set. -/
def laneFenceReach (n l : Nat) : List Field := HST_LANES.RX_UP n :: laneFenceFields n l ++ clientFields n ++ unitFields n

/-- What a fence of a lane shows and keeps. -/
structure LaneFenced (n : Fin 4) (l : Fin 16) (c : Nat) (s t : State) : Prop where
  fenced : t.rd (HST_LSTAT_L.FENCED n l) = 1
  cause : t.rd (HST_LSTAT_L.CAUSE n l) = c
  mark : t.rdBit (HST_LANES.FENCED n) l = true
  event : t.rd (HST_STAT.FENCE_EV n) = 1
  pend : t.rd (IRQ_PEND (sourceOf n 0x63)) = 1
  cond : t.rdBit (FABC.COND n) 2 = true
  state : t.chSt n = s.chSt n
  tok : (t.flow.get n).tok = (s.flow.get n).tok
  others : OthersKept n s t
  fields : FieldsKept (laneFenceReach n l) [sourceOf n 0x63, sourceOf n 0x61, 0] [n, 4] s t
  capacity : t.maxModeOf n = s.maxModeOf n
  resize : t.rszRunning n = s.rszRunning n

theorem unit_capacity_apart : ∀ n : Fin 4, ∀ f ∈ LDS_RSZ_STAT.STATE n :: LDS_CH_STATE.STATE n :: capacityFields n,
    ∀ g ∈ unitFields n, g.key ≠ f.key := by decide

theorem fenceLane_fences (hmax : s.maxModeOf n ≠ 0) (hrsz : s.rszRunning n = false)
    (hun : s.on (HST_LSTAT_L.FENCED n l) = false) (hc : c < 16) : LaneFenced n l c s (s.fenceLane n l c) := by
  obtain ⟨hmax', hrsz'⟩ := laneFence_capacity (s := s) (n := n) (l := l) (c := c)
  have hunit := unitChanged_fences (s := (s.laneFenceShown n l c).laneRefresh n) (n := n) (by rwa [hmax']) (hrsz'.trans hrsz)
  have hreach := laneFence_reached (s := s) (n := n) (l := l) (c := c)
  obtain ⟨fenced, cause, mark, event, -⟩ := laneFenceShown_shows (s := s) (n := n) (l := l) hc
  have hkeep : ∀ f ∈ laneFenceFields n l, (((s.laneFenceShown n l c).laneRefresh n).unitChanged n true).rd f =
      (s.laneFenceShown n l c).rd f := fun f hf =>
    (hunit.rd (laneFence_key n l f hf).1.1 (laneFence_key n l f hf).2).trans (laneRefresh_keeps (laneFence_key n l f hf).1)
  have hcap : ∀ f ∈ LDS_RSZ_STAT.STATE n :: LDS_CH_STATE.STATE n :: capacityFields n,
      (((s.laneFenceShown n l c).laneRefresh n).unitChanged n true).rd f = s.rd f := fun f hf =>
    (hunit.rd (capacity_lane n f hf).1 (unit_capacity_apart n f hf)).trans (laneFence_keeps hf)
  have hpend : ∀ n : Fin 4, sourceOf n 0x63 < 2048 ∧ sourceOf n 0x63 ≠ 0 ∧
      ∀ g ∈ unitFields n, g.key ≠ (IRQ_PEND (sourceOf n 0x63)).key := by decide
  rw [fenceLane_of_unfenced hun]
  refine ⟨(hkeep _ (by simp [laneFenceFields])).trans fenced, (hkeep _ (by simp [laneFenceFields])).trans cause, ?_,
    (hkeep _ (by simp [laneFenceFields])).trans event, (hunit.pend (hpend n).1 (hpend n).2.1 (hpend n).2.2).trans laneFence_pend,
    hunit.cond, hcap _ (by simp), ?_, hreach.others.trans hunit.othersKept, ?_, maxModeOf_congr fun f hf => hcap f (by simp [hf]),
    rszRunning_congr (hcap _ (by simp))⟩
  · unfold State.rdBit
    rw [hkeep _ (by simp [laneFenceFields])]
    exact mark
  · exact (congrArg (fun q => (Quad.get q n).tok) hunit.flow).trans hreach.tok
  · exact (hreach.fields.widen (fun f hf => List.mem_append_left _ hf) (by simp) fun _ h => h).trans
      (hunit.fields.widen (fun f hf => List.mem_append_right _ hf) (by simp) (by simp))

/-- Clauses 1 to 3, for the command that fences the lane. -/
theorem laneFenced_exists {r : Answer} (h : r = .next (s.fenceLane n l c)) (hmax : s.maxModeOf n ≠ 0) (hrsz : s.rszRunning n = false)
    (hun : s.on (HST_LSTAT_L.FENCED n l) = false) (hc : c < 16) :
    ∃ t, r = .next t ∧ t.rd (HST_LSTAT_L.FENCED n l) = 1 ∧ t.rd (HST_LSTAT_L.CAUSE n l) = c ∧
      t.rdBit (HST_LANES.FENCED n) l = true ∧ t.rd (HST_STAT.FENCE_EV n) = 1 ∧ t.rd (IRQ_PEND (sourceOf n 0x63)) = 1 ∧
      t.rdBit (FABC.COND n) 2 = true ∧ t.chSt n = s.chSt n ∧ (t.flow.get n).tok = (s.flow.get n).tok ∧ OthersKept n s t := by
  have hl := fenceLane_fences hmax hrsz hun hc
  exact ⟨_, h, hl.fenced, hl.cause, hl.mark, hl.event, hl.pend, hl.cond, hl.state, hl.tok, hl.others⟩

/-! ## HST_LANE_CMD -/

/-- An admitted forced fence of a lane that is not fenced. -/
theorem exec_laneForce {win : Fin 7} {value : Word} (hopen : s.writeOpen win 3)
    (hforce : (HST_LANE_CMD.FORCE n).of value.toNat = 1) (hlane : (HST_LANE_CMD.LANE n).of value.toNat = l.val)
    (hun : s.on (HST_LSTAT_L.FENCED n l) = false) : exec (.laneForce win n value 15) s = .next (s.fenceLane n l 4) := by
  refine congrArg Host.Outcome.next (hostWrite_of_commands (f := ⟨HST_LANE_CMD.FORCE n, .wo, .live, 3, .any⟩) hopen rfl (Nat.zero_lt_succ 2)
    fieldsAt_laneCmd (List.mem_cons_self ..) (by simp [CommandsOf]) (fun g _ => ?_) ?_)
  · simp [laneForceHook, hlane, hun]
  · have hwrote : wroteOne [(HST_LANE_CMD.FORCE n, 1), (HST_LANE_CMD.LANE n, l.val)] (HST_LANE_CMD.FORCE n) = true :=
      wroteOne_of_find (List.find?_cons_of_pos (by simp))
    simp only [laneForceHook, List.map_cons, List.map_nil, hforce, hlane, hwrote, when_true]

theorem exec_hostLane (hans : s.answers = true) : exec (.hostLaneTransmitterFault n l) s = .next (s.fenceLane n l 2) ∧
    exec (.hostLaneReceiverFault n l) s = .next (s.fenceLane n l 3) := by
  constructor
  all_goals
    change Host.Outcome.next (s.when s.answers _) = _
    rw [hans, when_true]

/-! ## The host PLL's fault (R250) -/

/-- What the fences of some lanes leave of the state before them. -/
structure LanesFenced (n : Fin 4) (done : List Nat) (s t : State) : Prop where
  fenced : ∀ k : Fin 16, k.val ∈ done → t.rd (HST_LSTAT_L.FENCED n k) = 1 ∧ (s.on (HST_LSTAT_L.FENCED n k) = false →
    t.rd (HST_LSTAT_L.CAUSE n k) = 5 ∧ t.rd (HST_STAT.FENCE_EV n) = 1 ∧ t.rd (IRQ_PEND (sourceOf n 0x63)) = 1)
  rest : ∀ k : Fin 16, k.val ∉ done → t.rd (HST_LSTAT_L.FENCED n k) = s.rd (HST_LSTAT_L.FENCED n k)
  fault : t.rd (HST_PLL_STAT.FAULT n) = s.rd (HST_PLL_STAT.FAULT n)
  state : t.chSt n = s.chSt n
  tok : (t.flow.get n).tok = (s.flow.get n).tok
  others : OthersKept n s t
  capacity : t.maxModeOf n = s.maxModeOf n
  resize : t.rszRunning n = s.rszRunning n

theorem lane_unit_apart : ∀ n : Fin 4, ∀ k : Fin 16, ∀ f ∈ [HST_LSTAT_L.FENCED n k, HST_LSTAT_L.CAUSE n k, HST_PLL_STAT.FAULT n],
    isQuiet f.key = true ∧ outside (clientKeys n) f.key = true ∧ ∀ g ∈ HST_LANES.RX_UP n :: unitFields n, g.key ≠ f.key := by
  decide +kernel

theorem lane_lane_apart : ∀ n : Fin 4, ∀ k l : Fin 16, k ≠ l → ∀ f ∈ [HST_LSTAT_L.FENCED n k, HST_LSTAT_L.CAUSE n k],
    ∀ g ∈ laneFenceFields n l, g.key ≠ f.key := by decide +kernel

theorem lane_fault_apart : ∀ n : Fin 4, ∀ l : Fin 16, ∀ g ∈ laneFenceFields n l, g.key ≠ (HST_PLL_STAT.FAULT n).key := by decide +kernel

/-- A fence of a lane leaves the other lanes and the PLL's mark. -/
theorem LaneFenced.keeps {f : Field} {k : Fin 16} (h : LaneFenced n l c s t)
    (hf : f ∈ [HST_LSTAT_L.FENCED n k, HST_LSTAT_L.CAUSE n k, HST_PLL_STAT.FAULT n])
    (happart : ∀ g ∈ laneFenceFields n l, g.key ≠ f.key) : t.rd f = s.rd f := by
  obtain ⟨hq, hout, hne⟩ := lane_unit_apart n k f hf
  refine h.fields.read (fence_sources_lt' n) (scopes_lt n) ⟨hq, fun g hg => ?_⟩
  rcases List.mem_append.1 hg with hg | hg
  · rcases List.mem_append.1 hg with hg | hg
    · rcases List.mem_cons.1 hg with rfl | hg
      · exact hne _ (by simp)
      · exact happart g hg
    · exact (ne_of_outside hout (clientFields_hit n.isLt hg)).symm
  · exact hne g (List.mem_cons_of_mem _ hg)

theorem lanesFenced_step {done : List Nat} (h : LanesFenced n done s t) (hmax : s.maxModeOf n ≠ 0) (hrsz : s.rszRunning n = false)
    (hl : l.val ∉ done) : LanesFenced n (l.val :: done) s (t.fenceLane n l 5) := by
  by_cases hf : t.on (HST_LSTAT_L.FENCED n l) = true
  · rw [fenceLane_of_fenced hf]
    refine ⟨fun k hk => ?_, fun k hk => h.rest k fun hd => hk (List.mem_cons_of_mem _ hd), h.fault, h.state, h.tok, h.others,
      h.capacity, h.resize⟩
    rcases List.mem_cons.1 hk with hk | hk
    · obtain rfl : k = l := Fin.ext hk
      have hone : t.rd (HST_LSTAT_L.FENCED n k) = 1 := of_decide_eq_true hf
      have hbefore : s.on (HST_LSTAT_L.FENCED n k) = true := decide_eq_true ((h.rest k hl).symm.trans hone)
      exact ⟨hone, fun hoff => absurd (hbefore.symm.trans hoff) (by simp)⟩
    · exact h.fenced k hk
  · have hstep := fenceLane_fences (c := 5) (by rw [h.capacity]; exact hmax) (h.resize.trans hrsz) (by simpa using hf) (by decide)
    refine ⟨fun k hk => ?_, fun k hk => ?_, (hstep.keeps (k := l) (by simp) (lane_fault_apart n l)).trans h.fault,
      hstep.state.trans h.state, hstep.tok.trans h.tok, h.others.trans hstep.others, hstep.capacity.trans h.capacity,
      hstep.resize.trans h.resize⟩
    · by_cases hkl : k = l
      · subst hkl
        exact ⟨hstep.fenced, fun _ => ⟨hstep.cause, hstep.event, hstep.pend⟩⟩
      · have hd : k.val ∈ done := (List.mem_cons.1 hk).resolve_left fun e => hkl (Fin.ext e)
        obtain ⟨hone, hmore⟩ := h.fenced k hd
        refine ⟨(hstep.keeps (k := k) (by simp) (lane_lane_apart n k l hkl _ (by simp))).trans hone, fun hoff => ?_⟩
        exact ⟨(hstep.keeps (k := k) (by simp) (lane_lane_apart n k l hkl _ (by simp))).trans (hmore hoff).1, hstep.event, hstep.pend⟩
    · have hkl : k ≠ l := fun e => hk (by simp [e])
      exact (hstep.keeps (k := k) (by simp) (lane_lane_apart n k l hkl _ (by simp))).trans
        (h.rest k fun hd => hk (List.mem_cons_of_mem _ hd))

theorem lanesFenced_each {done m : List Nat} (h : LanesFenced n done s t) (hmax : s.maxModeOf n ≠ 0) (hrsz : s.rszRunning n = false)
    (hm : ∀ k ∈ m, k < 16) (hnd : m.Nodup) (hd : ∀ k ∈ m, k ∉ done) :
    LanesFenced n (m.reverse ++ done) s (t.each m (fun l u => u.fenceLane n l 5)) := by
  induction m generalizing t done with
  | nil => exact h
  | cons k m ih =>
    obtain ⟨hk, hnd⟩ := List.nodup_cons.1 hnd
    have hstep := lanesFenced_step (l := ⟨k, hm k (by simp)⟩) h hmax hrsz (hd k (by simp))
    have := ih hstep (fun j hj => hm j (by simp [hj])) hnd fun j hj hjd => by
      rcases List.mem_cons.1 hjd with rfl | hjd
      · exact hk hj
      · exact hd j (by simp [hj]) hjd
    rw [each_cons]
    simpa using this

theorem exec_hostPllFault (hans : s.answers = true) (hlol : s.on (HST_STAT.LOL n) = true) (hfault : s.on (HST_PLL_STAT.FAULT n) = false) :
    exec (.hostPllFault n) s = .next ((s.put (HST_PLL_STAT.FAULT n) 1).each (List.range 16) (fun l t => t.fenceLane n l 5)) := by
  change Host.Outcome.next (s.when (s.answers && s.on (HST_STAT.LOL n)) (fun t => t.hostPllFault n)) = _
  rw [hans, hlol, Bool.and_true, when_true]
  exact congrArg Host.Outcome.next (if_neg (by rw [hfault]; exact Bool.false_ne_true))

/-- Clause 4: the PLL's fault fences every lane. -/
theorem hostPllFault_fences (hans : s.answers = true) (hmax : s.maxModeOf n ≠ 0) (hrsz : s.rszRunning n = false)
    (hlol : s.on (HST_STAT.LOL n) = true) (hfault : s.on (HST_PLL_STAT.FAULT n) = false) :
    ∃ t, exec (.hostPllFault n) s = .next t ∧ t.rd (HST_PLL_STAT.FAULT n) = 1 ∧
      (∀ l : Fin 16, t.rd (HST_LSTAT_L.FENCED n l) = 1 ∧ (s.on (HST_LSTAT_L.FENCED n l) = false → t.rd
        (HST_LSTAT_L.CAUSE n l) = 5 ∧ t.rd (HST_STAT.FENCE_EV n) = 1 ∧ t.rd (IRQ_PEND (sourceOf n 0x63)) = 1)) ∧
      t.chSt n = s.chSt n ∧ (t.flow.get n).tok = (s.flow.get n).tok ∧ OthersKept n s t := by
  have hput : ∀ n : Fin 4, ∀ f ∈ LDS_RSZ_STAT.STATE n :: LDS_CH_STATE.STATE n :: capacityFields n, f.key ≠ (HST_PLL_STAT.FAULT n).key := by
    decide
  have hkeep : ∀ f ∈ LDS_RSZ_STAT.STATE n :: LDS_CH_STATE.STATE n :: capacityFields n, (s.put (HST_PLL_STAT.FAULT n) 1).rd f = s.rd f :=
    fun f hf => rd_put_ne (hput n f hf)
  have hlane : ∀ l : Fin 16, (HST_LSTAT_L.FENCED n l).key ≠ (HST_PLL_STAT.FAULT n).key := fun l =>
    (lane_fault_apart n l _ (by simp [laneFenceFields]))
  have hmark : ∀ n m : Fin 4, ∀ g ∈ [HST_PLL_STAT.FAULT n], g.key ≠ (LDS_CH_STATE.STATE m).key ∧ g.key ≠ (OPT_STAT.PHASE m).key := by
    decide
  have hmax' : (s.put (HST_PLL_STAT.FAULT n) 1).maxModeOf n ≠ 0 := by
    rw [maxModeOf_congr fun f hf => hkeep f (by simp [hf])]
    exact hmax
  have hstart : LanesFenced n [] (s.put (HST_PLL_STAT.FAULT n) 1) (s.put (HST_PLL_STAT.FAULT n) 1) :=
    ⟨fun _ h => absurd h (by simp), fun _ _ => rfl, rfl, rfl, rfl, .refl _ _, rfl, rfl⟩
  have hall := lanesFenced_each (m := List.range 16) hstart hmax' ((rszRunning_congr (hkeep _ (by simp))).trans hrsz)
    (fun k hk => List.mem_range.1 hk) List.nodup_range (fun _ _ h => absurd h (by simp))
  refine ⟨_, exec_hostPllFault hans hlol hfault, hall.fault.trans ((rd_put_same ..).trans rfl), fun l => ?_,
    hall.state.trans (hkeep _ (by simp)), hall.tok, ?_⟩
  · obtain ⟨hone, hmore⟩ := hall.fenced l (by simp)
    exact ⟨hone, fun hoff => hmore ((on_put_ne (hlane l)).trans hoff)⟩
  · have hothers : OthersKept n s (s.put (HST_PLL_STAT.FAULT n) 1) :=
      othersKept_of_sameFields (l := [HST_PLL_STAT.FAULT n]) rfl (.of_eq rfl) (sameFields_put_of (.refl _ s) (List.mem_singleton.2 rfl))
        fun m _ => hmark n m
    exact hothers.trans hall.others

end

/-- Settles O33: a lane's fence shows its detector, reaches RX_UP and the clients, and leaves a channel that keeps a native mode
as it is; the host PLL's fault is sixteen of them. -/
theorem hostLaneFences : Obligations.HostLaneFences := by
  unfold Obligations.HostLaneFences
  refine ⟨?_, ?_, ?_, ?_⟩
  · exact fun s n l hans hmax hrsz hun => laneFenced_exists (exec_hostLane hans).1 hmax hrsz hun (by decide)
  · exact fun s n l hans hmax hrsz hun => laneFenced_exists (exec_hostLane hans).2 hmax hrsz hun (by decide)
  · exact fun s win n value l hopen hmax hrsz hforce hlane hun =>
      laneFenced_exists (exec_laneForce hopen hforce hlane hun) hmax hrsz hun (by decide)
  · exact fun s n hans hmax hrsz hlol hfault => hostPllFault_fences hans hmax hrsz hlol hfault

end Sys2Proof.Machine
end

section
/-! SUPPORT. What an operation of one channel leaves of the low registers, of the pending bits and of the other channels, when
the places it writes are known up to a range: the tables, the model's own cells and the values in force all lie above. -/

set_option Elab.async false

namespace Sys2Proof.Machine

/-! ## Pending bits only set -/

/-- Every source that is pending stays pending. -/
def PendMono (s t : State) : Prop := ∀ M < 2048, s.rd (IRQ_PEND M) = 1 → t.rd (IRQ_PEND M) = 1

/-- Keys of the host's pending bits. -/
def pendKeys : Nat × Nat := (8 * 0x30400, 8 * 0x30500)

/-- The key is no pending bit's. -/
def NotPend (k : Nat) : Prop := k < pendKeys.1 ∨ pendKeys.2 ≤ k

section
variable {s t u : State} {f g : Field} {N b i : Nat}

theorem PendMono.refl (s : State) : PendMono s s := fun _ _ h => h

theorem PendMono.trans (h : PendMono s t) (k : PendMono t u) : PendMono s u := fun M hM hs => k M hM (h M hM hs)

theorem PendMono.of_rd (h : ∀ M < 2048, t.rd (IRQ_PEND M) = s.rd (IRQ_PEND M)) : PendMono s t := fun M hM hs => (h M hM).trans hs

theorem pendMono_put {v : Nat} (h : NotPend g.key) : PendMono s (s.put g v) :=
  .of_rd fun M hM => rd_put_ne (by
    simp only [NotPend, pendKeys] at h
    simp only [Field.key, IRQ_PEND] at h ⊢
    omega)

theorem pendMono_raise (hN : N < 2048) : PendMono s (s.raise N) := fun M hM hs => by
  by_cases h : N = M
  · subst h
    exact raise_pend hN
  · exact (raise_pend_other hN hM h).trans hs

theorem pendMono_each {α : Type} {l : List α} {k : α → State → State} (h : ∀ x ∈ l, ∀ u, PendMono u (k x u)) :
    PendMono s (s.each l k) := by
  induction l generalizing s with
  | nil => exact .refl s
  | cons x l ih => exact (h x (by simp) s).trans (ih fun y hy => h y (by simp [hy]))

theorem pmcOvfSource_lt (b : Nat) : pmcOvfSource b < 2048 := by
  unfold pmcOvfSource
  split
  · decide
  · exact sourceOf_lt (by decide)

theorem pendMono_pmcOverflow (hb : b < 5) : PendMono s (s.pmcOverflow b i) := by
  unfold State.pmcOverflow State.flag
  refine PendMono.trans (PendMono.trans (pendMono_put ?_) (pendMono_put ?_)) (pendMono_raise (pmcOvfSource_lt b))
  · simp only [NotPend, pendKeys, Field.key, PMC.STICKY, cell]
    omega
  · simp only [NotPend, pendKeys, Field.key, PMC_CH_STAT.OVF_EV, pmcBase, chanStride]
    split <;> omega

theorem pendMono_pmcAdd {c : Nat} (hb : b < 5) (hi : i < 511) : PendMono s (s.pmcAdd b i c) := by
  have hcnt : ∀ j, j < 512 → NotPend (PMC.CNT b j).key := fun j hj => by
    simp only [NotPend, pendKeys, Field.key, PMC.CNT, cell]
    omega
  have h1 : PendMono s (s.put (PMC.CNT b i) (s.rd (PMC.CNT b i) + c)) := pendMono_put (hcnt i (by omega))
  unfold State.pmcAdd
  dsimp only
  split
  · exact h1
  · split
    · have h2 := fun v => h1.trans (pendMono_put (v := v) (hcnt (i + 1) (by omega)))
      split
      · exact h2 _
      · exact (h2 _).trans (pendMono_pmcOverflow hb)
    · exact h1.trans (pendMono_pmcOverflow hb)

theorem pendMono_countFor {ev c : Nat} {k : PmcBlock} {who : Option Nat} (hb : b < 5) : PendMono s (s.countFor b k ev c who) := by
  unfold State.countFor
  refine pendMono_each fun p hp u => ?_
  have hlt : p.2 < 511 := by
    have hin := (List.mem_filter.1 hp).2
    simp only [Bool.and_eq_true, decide_eq_true_eq] at hin
    exact pmcBlockOf_lt hin.2
  split
  · exact pendMono_pmcAdd hb hlt
  · exact .refl u

theorem pendMono_pmcWrap {n : Nat} (hn : n < 4) : PendMono s (s.pmcWrap n i) := by
  unfold State.pmcWrap State.flag
  refine PendMono.trans (PendMono.trans (pendMono_put ?_) (pendMono_put ?_)) (pendMono_raise (sourceOf_lt (by decide)))
  · simp only [NotPend, pendKeys, Field.key, PMC.STICKY, cell]
    omega
  · simp only [NotPend, pendKeys, Field.key, PMC_CH_STAT.WRAP_EV, pmcBase, chanStride]
    split <;> omega

end

/-! ## Operations of one channel -/

/-- The end of the registers proper: tables, values in force and the model's own cells lie above. -/
def lowEnd : Nat := 8 * 0x8600000

/-- Keys of the tiles' words. -/
def tileKeys : Nat × Nat := (8 * 0x10000000, 8 * 0x10100000)

/-- The key lies above the registers and is no tile's, or lies in one of the ranges. -/
def reach (r : List (Nat × Nat)) (k : Nat) : Bool :=
  (decide (lowEnd ≤ k) && (decide (k < tileKeys.1) || decide (tileKeys.2 ≤ k))) || hits r k

/-- The ranges hold what a notice may write, the pending bits apart, and none of those or of the tiles' words. -/
structure Ranges (r : List (Nat × Nat)) : Prop where
  free : ∀ p ∈ r, (p.2 ≤ pendKeys.1 ∨ pendKeys.2 ≤ p.1) ∧ (p.2 ≤ tileKeys.1 ∨ tileKeys.2 ≤ p.1)
  notice : ∀ p ∈ noticeKeys.tail, p ∈ r

/-- A fenced tile of channel n stays fenced, and every tile keeps the cause of its fence. -/
def TilesKept (n : Nat) (s t : State) : Prop := n < 4 → ∀ k < 96,
  (s.rd (LDS_TILE_STAT.STATE n k) = 2 → t.rd (LDS_TILE_STAT.STATE n k) = 2) ∧
    t.rd (LDS_TILE_STAT.CAUSE n k) = s.rd (LDS_TILE_STAT.CAUSE n k)

/-- From s to t the low registers outside the ranges, the pending bits that were set, the tiles' fences, and the tokens and the line
data of the other channels stay. -/
structure ChannelLocal (n : Nat) (r : List (Nat × Nat)) (s t : State) : Prop where
  ranges : Ranges r
  rd : ∀ f : Field, f.key < lowEnd → outside (pendKeys :: r) f.key = true → t.rd f = s.rd f
  pend : PendMono s t
  tiles : TilesKept n s t
  flow : OnlyFlow n s t
  ch : OnlyChan n s t

section
variable {n : Nat} {r : List (Nat × Nat)} {s t u : State} {f g : Field} {l : List Field}

theorem TilesKept.trans (h : TilesKept n s t) (k : TilesKept n t u) : TilesKept n s u := fun hn i hi =>
  ⟨fun hs => (k hn i hi).1 ((h hn i hi).1 hs), (k hn i hi).2.trans (h hn i hi).2⟩

/-- What leaves every word of the tiles keeps the tiles. -/
theorem TilesKept.of_rd (h : ∀ f : Field, tileKeys.1 ≤ f.key → f.key < tileKeys.2 → t.rd f = s.rd f) : TilesKept n s t := by
  intro hn i hi
  have hstate := h (LDS_TILE_STAT.STATE n i)
    (by simp only [tileKeys, Field.key, LDS_TILE_STAT.STATE]; omega) (by simp only [tileKeys, Field.key, LDS_TILE_STAT.STATE]; omega)
  exact ⟨fun hs => hstate.trans hs, h _ (by simp only [tileKeys, Field.key, LDS_TILE_STAT.CAUSE]; omega)
    (by simp only [tileKeys, Field.key, LDS_TILE_STAT.CAUSE]; omega)⟩

theorem quiet_of_tile {k : Nat} (hlo : tileKeys.1 ≤ k) (hhi : k < tileKeys.2) : QuietKey k := by
  simp only [tileKeys] at hlo hhi
  unfold QuietKey
  omega

theorem ChannelLocal.refl (h : Ranges r) (n : Nat) (s : State) : ChannelLocal n r s s :=
  ⟨h, fun _ _ _ => rfl, .refl s, .of_rd fun _ _ _ => rfl, .of_eq rfl, .of_eq rfl⟩

theorem ChannelLocal.trans (h : ChannelLocal n r s t) (k : ChannelLocal n r t u) : ChannelLocal n r s u :=
  ⟨h.ranges, fun f hlow hf => (k.rd f hlow hf).trans (h.rd f hlow hf), h.pend.trans k.pend, h.tiles.trans k.tiles,
    h.flow.trans k.flow, h.ch.trans k.ch⟩

theorem reach_cases (hr : Ranges r) (h : reach r g.key = true) :
    NotPend g.key ∧ (g.key < tileKeys.1 ∨ tileKeys.2 ≤ g.key) := by
  simp only [reach, Bool.or_eq_true, Bool.and_eq_true, decide_eq_true_eq] at h
  rcases h with ⟨hlow, htile⟩ | h
  · simp only [lowEnd] at hlow
    exact ⟨.inr (by simp only [pendKeys]; omega), htile⟩
  · obtain ⟨p, hp, hin⟩ := List.any_eq_true.1 h
    simp only [Bool.and_eq_true, decide_eq_true_eq] at hin
    obtain ⟨hpend, htile⟩ := hr.free p hp
    unfold NotPend
    omega

theorem ne_of_reach {k : Nat} (hlow : k < lowEnd) (ho : outside (pendKeys :: r) k = true) (h : reach r g.key = true) : k ≠ g.key := by
  simp only [reach, Bool.or_eq_true, Bool.and_eq_true, decide_eq_true_eq] at h
  rcases h with ⟨h, -⟩ | h
  · omega
  · exact ne_of_outside (outside_mono (fun p hp => List.mem_cons_of_mem _ hp) ho) h

/-- A change of fields within the ranges that leaves the channels' tables alone. -/
theorem ChannelLocal.same (h : ChannelLocal n r s t) (k : SameFields l t u) (hl : ∀ g ∈ l, reach r g.key = true)
    (hflow : u.flow = t.flow) (hch : OnlyChan n t u) : ChannelLocal n r s u := by
  refine h.trans ⟨h.ranges, fun f hlow hf => k f fun g hg => (ne_of_reach hlow hf (hl g hg)).symm, .of_rd fun M hM => ?_,
    .of_rd fun f hlo hhi => ?_, .of_eq hflow, hch⟩
  · refine k _ fun g hg => ?_
    obtain ⟨hpend, -⟩ := reach_cases h.ranges (hl g hg)
    simp only [NotPend, pendKeys] at hpend
    simp only [Field.key, IRQ_PEND] at hpend ⊢
    omega
  · refine k f fun g hg => ?_
    obtain ⟨-, htile⟩ := reach_cases h.ranges (hl g hg)
    omega

theorem ChannelLocal.put {v : Nat} (h : ChannelLocal n r s t) (hg : reach r g.key = true) : ChannelLocal n r s (t.put g v) :=
  h.same (l := [g]) (sameFields_put_of (.refl _ t) (by simp)) (by simpa using hg) rfl (.of_eq rfl)

theorem ChannelLocal.flag {b : Bool} (h : ChannelLocal n r s t) (hg : reach r g.key = true) : ChannelLocal n r s (t.flag g b) := h.put hg

theorem ChannelLocal.bump (h : ChannelLocal n r s t) (hg : reach r g.key = true) : ChannelLocal n r s (t.bump g) := h.put hg

theorem ChannelLocal.putBit {i : Nat} {b : Bool} (h : ChannelLocal n r s t) (hg : reach r g.key = true) :
    ChannelLocal n r s (t.putBit g i b) := h.put hg

theorem ChannelLocal.putS {i : Int} (h : ChannelLocal n r s t) (hg : reach r g.key = true) : ChannelLocal n r s (t.putS g i) := h.put hg

theorem ChannelLocal.addWrap {c : Nat} (h : ChannelLocal n r s t) (hg : reach r g.key = true) :
    ChannelLocal n r s (t.addWrap g c) := h.put hg

theorem ChannelLocal.when {b : Bool} {k : State → State} (h : ChannelLocal n r s t)
    (hk : ∀ u, ChannelLocal n r s u → ChannelLocal n r s (k u)) : ChannelLocal n r s (t.when b k) := by
  cases b
  · exact h
  · exact hk t h

theorem ChannelLocal.each {α : Type} {m : List α} {k : α → State → State} (h : ChannelLocal n r s t)
    (hk : ∀ x ∈ m, ∀ u, ChannelLocal n r s u → ChannelLocal n r s (k x u)) : ChannelLocal n r s (t.each m k) := by
  induction m generalizing t with
  | nil => exact h
  | cons x m ih => exact ih (hk x (by simp) t h) fun y hy => hk y (by simp [hy])

theorem ChannelLocal.clear {m : List Field} (h : ChannelLocal n r s t) (hm : ∀ f ∈ m, reach r f.key = true) :
    ChannelLocal n r s (t.clear m) := h.each fun _ hf _ hu => hu.put (hm _ hf)

theorem ChannelLocal.onChan {k : Chan → Chan} (h : ChannelLocal n r s t) : ChannelLocal n r s (t.onChan n k) :=
  h.trans ⟨h.ranges, fun _ _ _ => rfl, .refl t, .of_rd fun _ _ _ => rfl, .of_eq rfl, onlyChan_onChan k⟩

/-- A part of the state that holds no field and no channel. -/
theorem ChannelLocal.of_parts (h : ChannelLocal n r s t) (hregs : u.regs = t.regs) (hflow : u.flow = t.flow) (hch : u.ch = t.ch) :
    ChannelLocal n r s u := by
  have hrd : ∀ f : Field, u.rd f = t.rd f := fun f => by simp only [State.rd, hregs]
  exact h.trans ⟨h.ranges, fun f _ _ => hrd f, .of_rd fun _ _ => hrd _, .of_rd fun f _ _ => hrd f, .of_eq hflow, .of_eq hch⟩

theorem quiet_of_ranges {k : Nat} (hr : Ranges r) (h : outside (pendKeys :: r) k = true) : QuietKey k := by
  refine quiet_of_isQuiet (isQuiet_of_outside (outside_mono (fun p hp => ?_) h))
  rcases List.mem_cons.1 (show p ∈ pendKeys :: noticeKeys.tail from hp) with rfl | hp
  · exact List.mem_cons_self ..
  · exact List.mem_cons_of_mem _ (hr.notice p hp)

theorem ChannelLocal.raise {N : Nat} (h : ChannelLocal n r s t) (hN : N < 2048) : ChannelLocal n r s (t.raise N) :=
  h.trans ⟨h.ranges, fun _ _ hf => rd_raise_quiet hN (quiet_of_ranges h.ranges hf), pendMono_raise hN,
    .of_rd fun _ hlo hhi => rd_raise_quiet hN (quiet_of_tile hlo hhi), .of_eq (raise_flow ..),
    .of_eq (raise_ch ..)⟩

theorem ChannelLocal.raiseCh {m L : Nat} (h : ChannelLocal n r s t) (hL : L < 256) : ChannelLocal n r s (t.raiseCh m L) :=
  h.raise (sourceOf_lt hL)

theorem ChannelLocal.countFor {b ev c : Nat} {k : PmcBlock} {who : Option Nat} (h : ChannelLocal n r s t) (hb : b < 5) :
    ChannelLocal n r s (t.countFor b k ev c who) :=
  h.trans ⟨h.ranges, fun _ _ hf => rd_countFor_quiet hb (quiet_of_ranges h.ranges hf), pendMono_countFor hb,
    .of_rd fun _ hlo hhi => rd_countFor_quiet hb (quiet_of_tile hlo hhi), .of_eq (countFor_sameArea .flow), .of_eq (countFor_sameArea .ch)⟩

theorem ChannelLocal.count {b ev : Nat} {k : PmcBlock} (h : ChannelLocal n r s t) (hb : b < 5) : ChannelLocal n r s (t.count b k ev) :=
  h.countFor hb

theorem ChannelLocal.withdraw {v : Vote} (h : ChannelLocal n r s t) : ChannelLocal n r s (t.withdraw v) :=
  h.of_parts (withdraw_regs _) (withdraw_flow _) (withdraw_ch _)

theorem ChannelLocal.request {v : Vote} (h : ChannelLocal n r s t) : ChannelLocal n r s (t.request v) := h.of_parts rfl rfl rfl

theorem quiet_notice {b : Nat} (hb : b < 5) (hr : Ranges r) : reach r (PMC_CH_STAT.WRAP_EV b).key = true ∧
    reach r (PMC_CH_STAT.OVF_EV b).key = true := by
  have hkeys : ∀ b : Fin 5, hits noticeKeys.tail (PMC_CH_STAT.WRAP_EV b).key = true ∧
      hits noticeKeys.tail (PMC_CH_STAT.OVF_EV b).key = true := by decide
  obtain ⟨hw, ho⟩ := hkeys ⟨b, hb⟩
  exact ⟨Bool.or_eq_true_iff.2 (.inr (hits_mono hr.notice hw)), Bool.or_eq_true_iff.2 (.inr (hits_mono hr.notice ho))⟩

theorem cell_reach (a i w d : Nat) : reach r (cell a i w d).key = true := by
  simp only [reach, Bool.or_eq_true, Bool.and_eq_true, decide_eq_true_eq]
  refine .inl ?_
  simp only [lowEnd, tileKeys, cell, Field.key]
  omega

theorem ChannelLocal.pmcOverflow {b i : Nat} (h : ChannelLocal n r s t) (hb : b < 5) : ChannelLocal n r s (t.pmcOverflow b i) :=
  ((h.put (cell_reach ..)).flag (quiet_notice hb h.ranges).2).raise (pmcOvfSource_lt b)

theorem ChannelLocal.pmcWrap {b i : Nat} (h : ChannelLocal n r s t) (hb : b < 5) : ChannelLocal n r s (t.pmcWrap b i) :=
  ((h.put (cell_reach ..)).flag (quiet_notice hb h.ranges).1).raiseCh (by decide)

theorem ChannelLocal.flowOp {k : Flow → Flow} (h : ChannelLocal n r s t) (hn : n < 4) : ChannelLocal n r s (t.flowOp n k) := by
  have hstart : ChannelLocal n r s (t.onFlow n k) := h.trans ⟨h.ranges, fun _ _ _ => rfl, .refl t,
    .of_rd fun _ _ _ => rfl, ⟨_, rfl⟩, .of_eq rfl⟩
  exact (hstart.each fun _ _ _ hu => (hu.putBit (cell_reach ..)).pmcWrap (by omega)).each fun _ _ _ hu => hu.pmcOverflow (by omega)

end

end Sys2Proof.Machine
end

section
/-! SUPPORT. The steps that a channel takes at a change of its state, each as an operation of one channel: the receive direction
flushed, the frame lost, the resize and the commit ended, the stages stopped, the profile loaded. -/

set_option Elab.async false

namespace Sys2Proof.Machine

/-- Every field of the list lies within the reach of the ranges. -/
abbrev Reaches (r : List (Nat × Nat)) (l : List Field) : Prop := ∀ f ∈ l, reach r f.key = true

/-! ## What each step writes among the registers -/

def flushFields (n : Nat) : List Field := [FEC_OCC.OCC n]

def lofFields (n : Nat) : List Field :=
  [FEC_STAT.CW_ALIGN n, LFR_STAT.FSTATE n, LFR_STAT.LOF_EV n, LFR_CNT_FRM.LOF n, LFR_STAT.SR_VALID n, LFR_STAT.MF_LOCK n,
   OPT_AGC_STAT.UNFRZ_PEND n]

def rszFailFields (n : Nat) : List Field :=
  [LDS_RSZ_STAT.STATE n, LDS_RSZ_STAT.CAUSE n, LDS_RSZ_STAT.FAIL_EV n, LDS_RSZ_TIME.CONV n]

def cmtFields (n : Nat) : List Field :=
  [TRB_CMT_STAT.STATE n, TRB_CMT_STAT.CAUSE n, TRB_CMT_STAT.FAIL_EV n, TRB_CMT_STAT.ENTRY n]

def stageFields (n : Nat) : List Field :=
  [LDS_CLK_STAT.LOCK n, LDS_EQ_STAT.PSYNC n, LDS_EQ_STAT.DFE n, LDS_LQ_STAT.VALID n, LDS_LQ_STAT.BERV n, ISC_STAT.COH n]

def swapFields (n : Nat) : List Field := [CNV_SPARES.FREE n, CNV_STAT.SHADOW n, CNV_STAT.EXHAUST n]

def deviceModeFields : List Field := [DEV_MODE.CH_FENCED, DEV_MODE.CH_SERVICE, DEV_MODE.MODE]

section
variable {n : Nat} {r : List (Nat × Nat)} {s t u : State}

/-! ## Flushes, the frame, the resize and the commit -/

theorem ChannelLocal.flushReceive (h : ChannelLocal n r s t) (hn : n < 4) (hl : Reaches r (flushFields n)) :
    ChannelLocal n r s (t.flushReceive n) := ((h.flowOp hn).put (hl _ (by simp [flushFields]))).onChan

theorem ChannelLocal.flushTransmit (h : ChannelLocal n r s t) (hn : n < 4) : ChannelLocal n r s (t.flushTransmit n) :=
  (h.flowOp hn).onChan

theorem ChannelLocal.declareLof (h : ChannelLocal n r s t) (hl : Reaches r (lofFields n)) : ChannelLocal n r s (t.declareLof n) := by
  refine ChannelLocal.when (ChannelLocal.onChan (.put (.put (.put (.bump (.raiseCh (.put h ?_) (by decide)) ?_) ?_) ?_) (cell_reach ..)))
    fun u hu => hu.put ?_
  all_goals exact hl _ (by simp [lofFields])

theorem ChannelLocal.hunt (h : ChannelLocal n r s t) (hl : Reaches r (lofFields n)) : ChannelLocal n r s (t.hunt n) :=
  (((h.put (hl _ (by simp [lofFields]))).put (cell_reach ..)).put (cell_reach ..)).when fun _ hu => hu.declareLof hl

theorem ChannelLocal.clearAlign (h : ChannelLocal n r s t) (hl : Reaches r (lofFields n)) : ChannelLocal n r s (t.clearAlign n) :=
  (h.put (hl _ (by simp [lofFields]))).hunt hl

theorem ChannelLocal.rszFail {k : Nat} (h : ChannelLocal n r s t) (hl : Reaches r (rszFailFields n)) :
    ChannelLocal n r s (t.rszFail n k) := by
  refine ChannelLocal.onChan (.put (.put (.withdraw (.raiseCh (.put (.put (.put h ?_) ?_) ?_) (by decide))) (cell_reach ..)) ?_)
  all_goals exact hl _ (by simp [rszFailFields])

theorem ChannelLocal.queue {m : Msg} (h : ChannelLocal n r s t) : ChannelLocal n r s (t.queue n m) := h.onChan

theorem ChannelLocal.cmtRefuse {k : Nat} (h : ChannelLocal n r s t) (hn : n < 4) (hl : Reaches r (cmtFields n)) :
    ChannelLocal n r s (t.cmtRefuse n k) := by
  refine ChannelLocal.withdraw (.count (.raiseCh (.put (.put (.put h ?_) ?_) ?_) (by decide)) (by omega))
  all_goals exact hl _ (by simp [cmtFields])

theorem ChannelLocal.commitGo (h : ChannelLocal n r s t) (hn : n < 4) (hl : Reaches r (cmtFields n)) :
    ChannelLocal n r s (t.commitGo n) := by
  have mem : ∀ f ∈ cmtFields n, reach r f.key = true := hl
  simp only [cmtFields, List.forall_mem_cons, List.not_mem_nil, false_implies, implies_true, and_true] at mem
  obtain ⟨hst, hcause, hfail, hentry⟩ := mem
  unfold State.commitGo
  dsimp only
  split
  · split
    · exact (((h.put hcause).put hfail).raiseCh (by decide)).count (by omega)
    · exact h.cmtRefuse hn hl
  · split
    · exact (((h.put hcause).onChan).put hentry).cmtRefuse hn hl
    · exact (((h.put hcause).onChan).put hst).request

/-! ## The receive stages -/

theorem ChannelLocal.unconverge (h : ChannelLocal n r s t) (hl : Reaches r [LDS_CH_STATE.CONVERGED n, LDS_EQ_STAT.WINOK n]) :
    ChannelLocal n r s (t.unconverge n) := (h.put (hl _ (by simp))).put (hl _ (by simp))

theorem ChannelLocal.unagree (h : ChannelLocal n r s t) : ChannelLocal n r s (t.unagree n) := by
  refine h.clear fun f hf => ?_
  simp only [List.mem_cons, List.not_mem_nil, or_false] at hf
  rcases hf with rfl | rfl | rfl | rfl <;> exact cell_reach ..

theorem ChannelLocal.stagesStop (h : ChannelLocal n r s t) (hl : Reaches r (stageFields n)) : ChannelLocal n r s (t.stagesStop n) :=
  h.clear hl

theorem ChannelLocal.warmStart (h : ChannelLocal n r s t)
    (hl : Reaches r (LDS_ACQ_STAT.STEP n :: LDS_ACQ_STAT.COLD n :: stageFields n)) : ChannelLocal n r s (t.warmStart n) := by
  have hstep := hl (LDS_ACQ_STAT.STEP n) (by simp)
  have hcold := (h.stagesStop fun f hf => hl f (by simp [hf])).put (v := 0) (hl (LDS_ACQ_STAT.COLD n) (by simp))
  unfold State.warmStart
  dsimp only
  split
  · exact (hcold.put (cell_reach ..)).put hstep
  · split
    · exact (hcold.unagree.put (cell_reach ..)).put hstep
    · exact (hcold.put (cell_reach ..)).put hstep

theorem ChannelLocal.chipRest {k : Nat} (h : ChannelLocal n r s t) (hl : Reaches r (chipFields n)) :
    ChannelLocal n r s (t.chipRest n k) :=
  h.same (sameFields_chipRest (.refl _ t) fun _ hf => hf) hl rfl (.of_eq rfl)

/-! ## Profiles -/

theorem ChannelLocal.loadTx {p : Nat} (h : ChannelLocal n r s t) (hl : Reaches r (loadTxFields n)) :
    ChannelLocal n r s (t.loadTx n p) :=
  h.same (sameFields_loadTx (.refl _ t) fun _ hf => hf) hl loadTx_flow
    (.of_eq ((kept_loadTx (A := fun _ => False) (.refl t)).same .ch id))

/-- Registers that a profile load of the receive stages sets. -/
def loadRxFields (n : Nat) : List Field :=
  [LDS_NLC_STAT.TRIPLETS n, LDS_NLC_STAT.ALPHA_NOW n, FEC_STAT.CODE n, LDS_TILE_SUM.CD n, LDS_TILE_SUM.MIMO n, LDS_TILE_SUM.NLC n,
   LDS_TILE_BUF.CWBUF n, FEC_BUDGET.ENG n, FEC_BUDGET.EFF n]

theorem ChannelLocal.tileSum (h : ChannelLocal n r s t) (hl : Reaches r (loadRxFields n)) : ChannelLocal n r s (t.tileSum n) := by
  unfold State.tileSum
  split
  · refine ChannelLocal.put (.put (.put h ?_) ?_) ?_
    all_goals exact hl _ (by simp [loadRxFields])
  · exact h

theorem ChannelLocal.rebudget (h : ChannelLocal n r s t) (hl : Reaches r (loadRxFields n)) : ChannelLocal n r s (t.rebudget n) := by
  refine ChannelLocal.put (.put (.put h ?_) ?_) ?_
  all_goals exact hl _ (by simp [loadRxFields])

/-- A tile takes its stage, and goes to work or rests where it is not fenced. -/
def State.tileStage (n k g : Nat) (s : State) : State :=
  (s.put (LDS_TILE_STAT.STAGE n k) g).when (s.rd (LDS_TILE_STAT.STATE n k) ≠ 2 && s.rd (LDS_TILE_STAT.STATE n k) ≠ 3)
    (·.put (LDS_TILE_STAT.STATE n k) (if g = 0 then 1 else 0))

theorem tileStage_ne {k g : Nat} {f : Field} (hstage : f.key ≠ (LDS_TILE_STAT.STAGE n k).key)
    (hstate : f.key ≠ (LDS_TILE_STAT.STATE n k).key) : (s.tileStage n k g).rd f = s.rd f :=
  (rd_when_same fun _ => rd_put_ne hstate).trans (rd_put_ne hstage)

theorem tileStage_fenced {k g : Nat} (h : s.rd (LDS_TILE_STAT.STATE n k) = 2) :
    (s.tileStage n k g).rd (LDS_TILE_STAT.STATE n k) = 2 := by
  have hne : (LDS_TILE_STAT.STATE n k).key ≠ (LDS_TILE_STAT.STAGE n k).key := by
    simp only [Field.key, LDS_TILE_STAT.STATE, LDS_TILE_STAT.STAGE]
    omega
  unfold State.tileStage
  rw [h]
  exact (rd_put_ne hne).trans h

theorem ChannelLocal.tileStage {k g : Nat} (h : ChannelLocal n r s t) (hn : n < 4) (hk : k < 96) :
    ChannelLocal n r s (t.tileStage n k g) := by
  have hzone : ∀ f : Field, f.key < tileKeys.1 → (t.tileStage n k g).rd f = t.rd f := fun f hf => by
    simp only [tileKeys] at hf
    refine tileStage_ne (Nat.ne_of_lt ?_) (Nat.ne_of_lt ?_)
    all_goals
      simp only [Field.key, LDS_TILE_STAT.STATE, LDS_TILE_STAT.STAGE] at hf ⊢
      omega
  have hlow : lowEnd ≤ tileKeys.1 := by decide
  have hsame : ∀ x : Area, SameArea t (t.tileStage n k g) x := fun x => (Kept.same (A := fun _ => False) (kept_when
    (kept_put _ _ (.refl t)) fun u hu => kept_put _ _ hu) x id)
  refine h.trans ⟨h.ranges, fun f hf _ => hzone f (Nat.lt_of_lt_of_le hf hlow), .of_rd fun M hM => hzone _ ?_, ?_,
    .of_eq (hsame .flow), .of_eq (hsame .ch)⟩
  · simp only [tileKeys, Field.key, IRQ_PEND]
    omega
  · intro _ i hi
    refine ⟨fun hs => ?_, tileStage_ne ?_ ?_⟩
    · by_cases hki : i = k
      · subst hki
        exact tileStage_fenced hs
      · refine (tileStage_ne ?_ ?_).trans hs
        all_goals
          simp only [Field.key, LDS_TILE_STAT.STATE, LDS_TILE_STAT.STAGE]
          omega
    all_goals
      simp only [Field.key, LDS_TILE_STAT.STATE, LDS_TILE_STAT.STAGE, LDS_TILE_STAT.CAUSE]
      omega

theorem ChannelLocal.loadRx {p : Nat} (h : ChannelLocal n r s t) (hn : n < 4) (hl : Reaches r (loadRxFields n)) :
    ChannelLocal n r s (t.loadRx n p) := by
  unfold State.loadRx
  split
  · rename_i pr _
    refine ChannelLocal.rebudget (.tileSum (.put (.put (.put ?_ ?_) ?_) ?_) hl) hl
    · exact ChannelLocal.each (ChannelLocal.onChan (h.put (cell_reach ..))) fun k hk u hu => hu.tileStage hn (List.mem_range.1 hk)
    all_goals exact hl _ (by simp [loadRxFields])
  · exact h

theorem ChannelLocal.oorRefresh (h : ChannelLocal n r s t) (hl : Reaches r [LDS_CD_EST.OOR n]) : ChannelLocal n r s (t.oorRefresh n) :=
  h.same (l := [LDS_CD_EST.OOR n, LDSC.EST_RUN n]) (sameFields_oorRefresh (.refl _ t) (by simp) (by simp)) (fun f hf => by
      rcases List.mem_cons.1 hf with rfl | hf
      · exact hl _ (by simp)
      · obtain rfl := List.mem_singleton.1 hf
        exact cell_reach ..) oorRefresh_flow
    (.of_eq ((kept_oorRefresh (A := fun _ => False) (.refl t)).same .ch id))

theorem ChannelLocal.iscMode (h : ChannelLocal n r s t) (hl : Reaches r (chipFields n)) : ChannelLocal n r s (t.iscMode n) :=
  h.same (sameFields_iscMode (.refl _ t) fun _ hf => hf) hl iscMode_flow
    (.of_eq ((kept_iscMode (A := fun _ => False) (.refl t)).same .ch id))

/-! ## The clients -/

/-- A place between the registers and the tiles. -/
theorem reach_of_table {f : Field} (hlo : lowEnd ≤ f.key) (hhi : f.key < tileKeys.1) : reach r f.key = true := by
  simp only [reach, Bool.or_eq_true, Bool.and_eq_true, decide_eq_true_eq]
  exact .inl ⟨hlo, .inl hhi⟩

/-- A place past the tiles. -/
theorem reach_of_le {f : Field} (h : tileKeys.2 ≤ f.key) : reach r f.key = true := by
  simp only [reach, Bool.or_eq_true, Bool.and_eq_true, decide_eq_true_eq]
  refine .inl ⟨?_, .inr h⟩
  simp only [lowEnd, tileKeys] at h ⊢
  omega

/-- The table of the clients lies above the registers. -/
theorem client_reach (r : List (Nat × Nat)) {n c : Nat} (hn : n < 4) (hc : c < 256) : reach r (HST_CLI.IN n c).key = true ∧
    reach r (HST_CLI.OUT n c).key = true ∧ reach r (HST_CLI.REPL n c).key = true ∧ reach r (HST_CLI.MAPPED n c).key = true ∧
    reach r (HST_CLI.CREDITED n c).key = true := by
  refine ⟨reach_of_table ?_ ?_, reach_of_table ?_ ?_, reach_of_table ?_ ?_, reach_of_table ?_ ?_, reach_of_table ?_ ?_⟩
  all_goals
    simp only [lowEnd, tileKeys, Field.key, HST_CLI.IN, HST_CLI.OUT, HST_CLI.REPL, HST_CLI.MAPPED, HST_CLI.CREDITED]
    omega

/-- So does that of the slices. -/
theorem slice_reach (r : List (Nat × Nat)) (n k : Nat) : reach r (CNV_SLC_STAT.STATE n k).key = true ∧
    reach r (CNV_SLC_STAT.POS n k).key = true := by
  refine ⟨reach_of_le ?_, reach_of_le ?_⟩
  all_goals
    simp only [tileKeys, Field.key, CNV_SLC_STAT.STATE, CNV_SLC_STAT.POS]
    omega


theorem ChannelLocal.dropFifo {c : Nat} (h : ChannelLocal n r s t) : ChannelLocal n r s (t.dropFifo n c) :=
  (h.put (cell_reach ..)).onChan

theorem ChannelLocal.replaceEnter {c : Nat} (h : ChannelLocal n r s t) (hn : n < 4) (hc : c < 256)
    (hl : Reaches r [HST_STAT.REPL_EV n]) : ChannelLocal n r s (t.replaceEnter n c) := by
  obtain ⟨hin, -, hrepl, -⟩ := client_reach r hn hc
  exact ((((h.put hin).bump hrepl).put (hl _ (by simp))).raiseCh (by decide)).count (by omega) |>.flowOp hn

theorem ChannelLocal.clientRefresh {c : Nat} (h : ChannelLocal n r s t) (hn : n < 4) (hc : c < 256) (hl : Reaches r [HST_STAT.REPL_EV n]) :
    ChannelLocal n r s (t.clientRefresh n c) := by
  obtain ⟨hin, hout, -, hmapped, hcredited⟩ := client_reach r hn hc
  unfold State.clientRefresh
  dsimp only
  split
  · refine ChannelLocal.dropFifo (h.clear ?_)
    simpa using ⟨hin, hout, hmapped, hcredited⟩
  · refine ChannelLocal.flag (ChannelLocal.flag (ChannelLocal.put ?_ hout) hmapped) hcredited
    split
    · exact h.when fun u hu => hu.replaceEnter hn hc hl
    · exact h.when fun u hu => hu.put hin

theorem ChannelLocal.hstRefresh (h : ChannelLocal n r s t) (hn : n < 4) (hl : Reaches r [HST_STAT.REPL_EV n]) :
    ChannelLocal n r s (t.hstRefresh n) := h.each fun _ hc _ hu => hu.clientRefresh hn (clients_lt hc) hl

/-! ## The slices -/

theorem ChannelLocal.slice {k v : Nat} (h : ChannelLocal n r s t) : ChannelLocal n r s (t.put (CNV_SLC_STAT.STATE n k) v) :=
  h.put (slice_reach ..).1

theorem ChannelLocal.slicePos {k v : Nat} (h : ChannelLocal n r s t) : ChannelLocal n r s (t.put (CNV_SLC_STAT.POS n k) v) :=
  h.put (slice_reach ..).2

theorem ChannelLocal.sliceSum (h : ChannelLocal n r s t) (hl : Reaches r (swapFields n)) : ChannelLocal n r s (t.sliceSum n) :=
  ((h.put (hl _ (by simp [swapFields]))).flag (hl _ (by simp [swapFields]))).put (cell_reach ..)

theorem ChannelLocal.startShadow {w : Swap} (h : ChannelLocal n r s t) (hl : Reaches r (swapFields n)) :
    ChannelLocal n r s (t.startShadow n w).1 := by
  unfold State.startShadow
  split
  · exact h.slice.slicePos
  · exact (h.put (hl _ (by simp [swapFields]))).raiseCh (by decide)

theorem ChannelLocal.shadowScan {todo done : List Swap} (h : ChannelLocal n r s t) (hl : Reaches r (swapFields n)) :
    ChannelLocal n r s (t.shadowScan n done todo) := by
  induction todo generalizing done t with
  | nil => exact h.onChan
  | cons w todo ih =>
    unfold State.shadowScan
    split
    · exact ih (h.startShadow hl)
    · exact ih h

theorem ChannelLocal.startShadows (h : ChannelLocal n r s t) (hl : Reaches r (swapFields n)) :
    ChannelLocal n r s (t.startShadows n) := (h.shadowScan hl).sliceSum hl

theorem ChannelLocal.freeSwap {w : Swap} (h : ChannelLocal n r s t) : ChannelLocal n r s (t.freeSwap n w) := by
  unfold State.freeSwap
  split
  · exact h.slice
  · exact h.slice
  · exact h

theorem ChannelLocal.regainStop (h : ChannelLocal n r s t) (hl : Reaches r (swapFields n)) : ChannelLocal n r s (t.regainStop n) := by
  unfold State.regainStop
  refine ChannelLocal.when h fun u hu => ?_
  have hfreed : ChannelLocal n r s (u.each ((t.chan n).swaps.filter fun w => w.slice.isNone) fun w v => v.freeSwap n w) :=
    hu.each fun _ _ _ hv => hv.freeSwap
  exact ChannelLocal.startShadows hfreed.onChan hl

/-! ## The device mode -/

theorem ChannelLocal.evalMode (h : ChannelLocal n r s t) (hl : Reaches r deviceModeFields) : ChannelLocal n r s t.evalMode := by
  have hshown := fun v w => (h.put (v := v) (hl DEV_MODE.CH_FENCED (by simp [deviceModeFields]))).put (v := w)
    (hl DEV_MODE.CH_SERVICE (by simp [deviceModeFields]))
  unfold State.evalMode State.setMode
  dsimp only
  split
  · split
    · exact hshown ..
    · exact ((hshown ..).put (hl _ (by simp [deviceModeFields]))).raise (by decide)
  · exact hshown ..

end

end Sys2Proof.Machine
end

section
/-! SUPPORT. A channel that reports a state other than DARK shows it, with its cause; what of its registers it touches is a list of
fields. -/

set_option Elab.async false

namespace Sys2Proof.Machine

/-! ## Ranges of a list of fields -/

/-- The fields of a list, and what a notice writes besides the pending bits. -/
def rangesOf (l : List Field) : List (Nat × Nat) := noticeKeys.tail ++ keysOf l

/-- No field of the list is a pending bit, or a tile's. -/
def notPending (l : List Field) : Bool :=
  l.all fun g => (g.key < pendKeys.1 || pendKeys.2 ≤ g.key) && (g.key < tileKeys.1 || tileKeys.2 ≤ g.key)

/-- A register that neither a notice nor the list writes. -/
def apart (l : List Field) (f : Field) : Bool := decide (f.key < lowEnd) && outside (pendKeys :: rangesOf l) f.key

section
variable {n : Nat} {l m : List Field} {s t : State} {f : Field}

theorem ranges_of (h : notPending l = true) : Ranges (rangesOf l) := by
  refine ⟨fun p hp => ?_, fun p hp => List.mem_append_left _ hp⟩
  rcases List.mem_append.1 hp with hp | hp
  · have hnotice : ∀ p ∈ noticeKeys.tail, (p.2 ≤ pendKeys.1 ∨ pendKeys.2 ≤ p.1) ∧ (p.2 ≤ tileKeys.1 ∨ tileKeys.2 ≤ p.1) := by decide
    exact hnotice p hp
  · obtain ⟨g, hg, rfl⟩ := List.mem_map.1 hp
    have := List.all_eq_true.1 h g hg
    simp only [Bool.and_eq_true, Bool.or_eq_true, decide_eq_true_eq] at this
    exact ⟨by omega, by omega⟩

theorem reaches_of (h : ∀ f ∈ m, f ∈ l) : Reaches (rangesOf l) m := fun f hf =>
  Bool.or_eq_true_iff.2 (.inr (hits_mono (fun _ hp => List.mem_append_right _ hp) (hits_keysOf (h f hf))))

theorem ChannelLocal.start (h : notPending l = true) : ChannelLocal n (rangesOf l) s s := .refl (ranges_of h) n s

theorem ChannelLocal.read (h : ChannelLocal n (rangesOf l) s t) (hf : apart l f = true) : t.rd f = s.rd f := by
  simp only [apart, Bool.and_eq_true, decide_eq_true_eq] at hf
  exact h.rd f hf.1 hf.2

/-- The other channels keep what they hold where the list has nothing of their state and light. -/
theorem ChannelLocal.othersKept {n : Fin 4} (h : ChannelLocal n (rangesOf l) s t)
    (hl : ∀ m : Fin 4, m.val ≠ n → apart l (LDS_CH_STATE.STATE m) = true ∧ apart l (OPT_STAT.PHASE m) = true) : OthersKept n s t :=
  fun m hm => ⟨h.flow.get hm, h.ch.get hm, h.read (hl m hm).1, h.read (hl m hm).2⟩

end

/-! ## The report of a state -/

/-- What a channel that leaves DARK behind writes after its report. -/
def settleFields (n : Nat) : List Field := swapFields n ++ deviceModeFields

/-- The report of a state other than DARK. -/
def reportFields (n : Nat) : List Field := LDS_CH_STATE.STATE n :: LDS_CH_STATE.CAUSE n :: settleFields n

section
variable {n st cause : Nat} {r : List (Nat × Nat)} {s t : State}

/-- The state and its cause are shown, a change with its source. -/
def State.reported (n st cause : Nat) (changed : Bool) (s : State) : State :=
  ((s.put (LDS_CH_STATE.STATE n) st).put (LDS_CH_STATE.CAUSE n) cause).when changed (·.raiseCh n 0x20)

theorem setCh_of_ne_dark (h : st ≠ ChSt.dark) :
    s.setCh n st cause = (((s.enter n st cause).reported n st cause (s.chSt n ≠ st)).regainStop n).evalMode := by
  unfold State.setCh State.reported
  dsimp only
  rw [show (decide (st = ChSt.dark)) = false from decide_eq_false h]
  simp only [Bool.false_and, Bool.false_eq_true, if_false, State.when, ne_eq, h, not_false_eq_true, decide_true,
    if_true, decide_false]

theorem ChannelLocal.settled (h : ChannelLocal n r s t) (hl : Reaches r (settleFields n)) :
    ChannelLocal n r s (t.regainStop n).evalMode :=
  (h.regainStop fun f hf => hl f (List.mem_append_left _ hf)).evalMode fun f hf => hl f (List.mem_append_right _ hf)

theorem ChannelLocal.reported {b : Bool} (h : ChannelLocal n r s t) (hl : Reaches r [LDS_CH_STATE.STATE n, LDS_CH_STATE.CAUSE n]) :
    ChannelLocal n r s (t.reported n st cause b) :=
  ((h.put (hl _ (by simp))).put (hl _ (by simp))).when fun _ hu => hu.raiseCh (by decide)

/-- A channel that reports a state other than DARK, from what it has become as it enters it. -/
theorem ChannelLocal.setCh (hst : st ≠ ChSt.dark) (h : ChannelLocal n r s (t.enter n st cause)) (hl : Reaches r (reportFields n)) :
    ChannelLocal n r s (t.setCh n st cause) := by
  rw [setCh_of_ne_dark hst]
  exact (h.reported fun f hf => hl f (by
    simp only [List.mem_cons, List.not_mem_nil, or_false] at hf
    rcases hf with rfl | rfl <;> simp [reportFields])).settled fun f hf => hl f (by simp [reportFields, hf])

/-- Once reported, the state and its cause stay through what follows. -/
theorem setCh_shows {n : Fin 4} (hst : st ≠ ChSt.dark) :
    (s.setCh n st cause).rd (LDS_CH_STATE.STATE n) = st % 2 ^ (LDS_CH_STATE.STATE n).width ∧
    (s.setCh n st cause).rd (LDS_CH_STATE.CAUSE n) = cause % 2 ^ (LDS_CH_STATE.CAUSE n).width ∧
    (s.chSt n ≠ st → (s.setCh n st cause).rd (IRQ_PEND (sourceOf n 0x20)) = 1) := by
  have hkeys : ∀ n : Fin 4, notPending (settleFields n) = true ∧ apart (settleFields n) (LDS_CH_STATE.STATE n) = true ∧
      apart (settleFields n) (LDS_CH_STATE.CAUSE n) = true ∧ isQuiet (LDS_CH_STATE.STATE n).key = true ∧
      isQuiet (LDS_CH_STATE.CAUSE n).key = true ∧ (LDS_CH_STATE.STATE n).key ≠ (LDS_CH_STATE.CAUSE n).key := by decide
  obtain ⟨hpend, hst', hcause, hqst, hqcause, hne⟩ := hkeys n
  have hsettle := ChannelLocal.settled (n := n) (t := (s.enter n st cause).reported n st cause (s.chSt n ≠ st))
    (.start hpend) (reaches_of fun _ h => h)
  rw [setCh_of_ne_dark hst, hsettle.read hst', hsettle.read hcause]
  unfold State.reported
  refine ⟨?_, ?_, fun hchange => hsettle.pend _ (sourceOf_lt (by decide)) ?_⟩
  · exact (rd_when_same fun u => rd_raiseCh_quiet (by decide) (quiet_of_isQuiet hqst)).trans ((rd_put_ne hne).trans (rd_put_same ..))
  · exact (rd_when_same fun u => rd_raiseCh_quiet (by decide) (quiet_of_isQuiet hqcause)).trans (rd_put_same ..)
  · unfold State.reported
    rw [show decide (s.chSt n ≠ st) = true from decide_eq_true hchange]
    exact raiseCh_pend (by decide)

/-- Neither the report nor what follows it moves tokens. -/
theorem setCh_flow (hst : st ≠ ChSt.dark) : (s.setCh n st cause).flow = (s.enter n st cause).flow := by
  rw [setCh_of_ne_dark hst]
  have : Fact ((fun x => x = Area.ch) Area.ch) := ⟨rfl⟩
  refine (kept_evalMode (A := fun x => x = Area.ch) (kept_regainStop ?_)).same .flow (by decide)
  unfold State.reported
  cases decide (s.chSt n ≠ st)
  · exact kept_put _ _ (kept_put _ _ (Kept.refl _))
  · exact kept_raiseCh (kept_put _ _ (kept_put _ _ (Kept.refl _)))

end

end Sys2Proof.Machine
end

section
/-! O23. The steps of Table 6.4 complete, and run over their bounds (R133 to R136, R145 to R147). -/

set_option Elab.async false

namespace Sys2Proof.Machine

section
variable {s t : State} {n : Fin 4} {fofs : Int} {adc : List (List Int)}

/-! ## A step completes -/

theorem exec_acquisitionStepComplete (h : s.chSt n = ChSt.acquiring) :
    exec (.acquisitionStepComplete n fofs adc) s = .next (s.acqStep n fofs adc) := by
  change Host.Outcome.next (s.when (s.chSt n = ChSt.acquiring) _) = _
  rw [decide_eq_true h]
  rfl

theorem sameFields_go {l : List Field} {k : Nat} (h : SameFields l s t) (hl : LDS_ACQ_STAT.STEP n ∈ l) :
    SameFields l s (t.put (LDS_ACQ_STAT.STEP n) k) := sameFields_put_of h hl

theorem rd_go {k : Nat} (hk : k < 16) : (s.put (LDS_ACQ_STAT.STEP n) k).rd (LDS_ACQ_STAT.STEP n) = k :=
  (rd_put_same ..).trans (Nat.mod_eq_of_lt hk)

theorem step_keys : ∀ n : Fin 4, (LDS_CR_STAT.FOFS n).key ≠ (LDS_ACQ_STAT.STEP n).key ∧
    (LDS_EQ_STAT.PSYNC n).key ≠ (LDS_ACQ_STAT.STEP n).key ∧ (LDS_EQ_STAT.PSYNC n).key ≠ (ISC_STAT.COH n).key ∧
    (LDS_EQ_STAT.DFE n).key ≠ (LDS_ACQ_STAT.STEP n).key ∧ (LDS_EQ_STAT.DFE n).key ≠ (LDS_CR_STAT.FOFS n).key ∧
    (LDS_EQ_STAT.DFE n).key ≠ (LDS_NLC_STAT.ALPHA_NOW n).key ∧ isQuiet (LDS_EQ_STAT.DFE n).key = true := by decide

theorem putS_rd {f : Field} {i : Int} : (s.putS f i).rd f = ofSigned f.width i := by
  refine (rd_put_same ..).trans (Nat.mod_eq_of_lt ?_)
  unfold ofSigned
  have hpos : (0 : Int) < (2 ^ f.width : Nat) := by exact_mod_cast Nat.two_pow_pos f.width
  have := Int.emod_lt_of_pos i hpos
  have := Int.emod_nonneg i hpos.ne'
  omega

/-- The taps that the blind regime leaves, and nothing else. -/
theorem blindTaps_lengths : ((s.blindTaps n).chan n).dsp.taps.map List.length = [65, 65, 65, 65] := by
  unfold State.blindTaps State.onDsp State.chan
  rw [onChan_ch, quad_get_set_same]
  simp [List.range_succ]

theorem blindTaps_ch : (s.blindTaps n).ch =
    s.ch.set n { s.ch.get n with dsp := { (s.chan n).dsp with taps := ((s.blindTaps n).chan n).dsp.taps } } := by
  have hch : (s.blindTaps n).ch = s.ch.set n { s.ch.get n with dsp := { (s.ch.get n).dsp with
      taps := (List.range 4).map fun f => (List.range 65).map fun i =>
        ⟨(Config.blindTap s.draw.1 f i).1, (Config.blindTap s.draw.1 f i).2⟩ } } := rfl
  unfold State.chan
  rw [hch, quad_get_set_same]

theorem syncPilots_regs : (s.syncPilots n adc).regs = s.regs := by
  unfold State.syncPilots
  split <;> rfl

theorem syncPilots_flow : (s.syncPilots n adc).flow = s.flow := by
  unfold State.syncPilots
  split <;> rfl

theorem syncPilots_pilot (h : (s.rxProfile n).isSome = true) : ((s.syncPilots n adc).chan n).dsp.pilot.isSome = true := by
  obtain ⟨p, hp⟩ := Option.isSome_iff_exists.1 h
  unfold State.syncPilots State.chan
  rw [hp]
  dsimp only
  rw [show ∀ g, (s.onDsp n g).ch = s.ch.set n { s.ch.get n with dsp := g (s.ch.get n).dsp } from fun _ => rfl, quad_get_set_same]
  rfl

/-- A span shows in the carrier offset and in α, and counts. -/
theorem fieldsKept_receiveSpan :
    FieldsKept [LDS_CR_STAT.FOFS n, LDS_NLC_STAT.ALPHA_NOW n] [] [n] s (s.receiveSpan n adc) := by
  unfold State.receiveSpan
  dsimp only
  split
  · exact .refl _ _ _ s
  · split
    · exact .refl _ _ _ s
    · refine fieldsKept_when_fn (fieldsKept_when_fn (fieldsKept_countFor (fieldsKept_of_regs (.refl _ _ _ s) rfl) (by simp))
        fun u hu => fieldsKept_putS_of hu (by simp)) fun u hu => fieldsKept_put_of hu (by simp)

theorem receiveSpan_flow : (s.receiveSpan n adc).flow = s.flow :=
  have : Fact ((fun x => x = Area.ch) Area.ch) := ⟨rfl⟩
  (kept_receiveSpan (A := fun x => x = Area.ch) (.refl s)).same .flow (by decide)

/-! ## The receiver locks -/

theorem enter_locked {cause : Nat} : s.enter n ChSt.locked cause = s := rfl

/-- The report of LOCKED, and the fields of an acquisition that is over. -/
theorem lockedFields_facts : ∀ n : Fin 4,
    notPending (LDS_ACQ_STAT.STEP n :: LDS_ACQ_STAT.COLD n :: cmtFields n ++ [TRB_CNT.AUTO n] ++ reportFields n) = true ∧
    notPending (cmtFields n ++ [TRB_CNT.AUTO n]) = true ∧
    apart (cmtFields n ++ [TRB_CNT.AUTO n]) (LDS_ACQ_STAT.STEP n) = true ∧
    apart (cmtFields n ++ [TRB_CNT.AUTO n]) (LDS_ACQ_STAT.COLD n) = true ∧
    apart (LDS_ACQ_STAT.STEP n :: LDS_ACQ_STAT.COLD n :: cmtFields n ++ [TRB_CNT.AUTO n]) (LDS_CH_STATE.STATE n) = true ∧
    apart (LDS_ACQ_STAT.STEP n :: LDS_ACQ_STAT.COLD n :: cmtFields n ++ [TRB_CNT.AUTO n]) (LDS_CH_STATE.CAUSE n) = true ∧
    notPending (LDS_ACQ_STAT.STEP n :: LDS_ACQ_STAT.COLD n :: cmtFields n ++ [TRB_CNT.AUTO n]) = true ∧
    (LDS_ACQ_STAT.STEP n).key ≠ (LDS_ACQ_STAT.COLD n).key ∧ (LDS_ACQ_STAT.STEP n).key ≠ (LDSC.FAILS n).key ∧
    (LDS_ACQ_STAT.COLD n).key ≠ (LDSC.FAILS n).key ∧ isQuiet (LDSC.FAILS n).key = true ∧
    (∀ g ∈ cmtFields n ++ [TRB_CNT.AUTO n], g.key ≠ (LDSC.FAILS n).key) := by decide

/-- The state with the acquisition over, before a commit resumes. -/
def State.lockedNow (n : Nat) (s : State) : State :=
  (((s.setCh n ChSt.locked 0x0).put (LDS_ACQ_STAT.STEP n) 0xF).put (LDS_ACQ_STAT.COLD n) 0).put (LDSC.FAILS n) 0

theorem reachLocked_cases : s.reachLocked n = s.lockedNow n ∨
    s.reachLocked n = ((s.lockedNow n).bump (TRB_CNT.AUTO n)).commitGo n := by
  unfold State.reachLocked State.lockedNow
  dsimp only
  split
  · exact .inr rfl
  · exact .inl rfl

theorem commitGo_flow : (s.commitGo n).flow = s.flow :=
  have : Fact ((fun x => x = Area.ch ∨ x = Area.votes) Area.ch) := ⟨.inl rfl⟩
  have : Fact ((fun x => x = Area.ch ∨ x = Area.votes) Area.votes) := ⟨.inr rfl⟩
  (kept_commitGo (A := fun x => x = Area.ch ∨ x = Area.votes) (.refl s)).same .flow (by decide)

theorem fieldsKept_cmtRefuse {k : Nat} {l : List Field} (h : FieldsKept l [sourceOf n 0x51] [n] s t) (hl : ∀ f ∈ cmtFields n, f ∈ l) :
    FieldsKept l [sourceOf n 0x51] [n] s (t.cmtRefuse n k) := by
  refine fieldsKept_of_regs (fieldsKept_count (fieldsKept_raiseCh (fieldsKept_put_of (fieldsKept_put_of (fieldsKept_put_of h ?_) ?_) ?_)
    (by simp)) (by simp)) (withdraw_regs _)
  all_goals exact hl _ (by simp [cmtFields])

theorem fieldsKept_commitGo : FieldsKept (cmtFields n) [sourceOf n 0x51] [n] s (s.commitGo n) := by
  have hcause : FieldsKept (cmtFields n) [sourceOf n 0x51] [n] s (s.put (TRB_CMT_STAT.CAUSE n) (s.cmtRefusal n)) :=
    fieldsKept_put_of (.refl _ _ _ s) (by simp [cmtFields])
  have hlatched : FieldsKept (cmtFields n) [sourceOf n 0x51] [n] s
      ((s.put (TRB_CMT_STAT.CAUSE n) 0).onChan n fun c => { c with latched := s.shadowTable n }) :=
    fieldsKept_of_regs (fieldsKept_put_of (f := TRB_CMT_STAT.CAUSE n) (v := 0) (.refl _ _ _ s) (by simp [cmtFields])) rfl
  unfold State.commitGo
  dsimp only
  split
  · split
    · exact fieldsKept_count (fieldsKept_raiseCh (fieldsKept_put_of hcause (by simp [cmtFields])) (by simp)) (by simp)
    · exact fieldsKept_cmtRefuse (.refl _ _ _ s) fun _ h => h
  · split
    · exact fieldsKept_cmtRefuse (fieldsKept_put_of hlatched (by simp [cmtFields])) fun _ h => h
    · exact fieldsKept_of_regs (fieldsKept_put_of (f := TRB_CMT_STAT.STATE n) (v := 2) hlatched (by simp [cmtFields])) rfl

/-- The clause's fields once the receiver is locked. -/
theorem reachLocked_shows (hch : s.chSt n = ChSt.acquiring) :
    (s.reachLocked n).chSt n = ChSt.locked ∧ (s.reachLocked n).rd (LDS_CH_STATE.CAUSE n) = 0 ∧
    (s.reachLocked n).rd (LDS_ACQ_STAT.STEP n) = 0xF ∧ (s.reachLocked n).rd (LDS_ACQ_STAT.COLD n) = 0 ∧
    (s.reachLocked n).rd (LDSC.FAILS n) = 0 ∧ (s.reachLocked n).rd (IRQ_PEND (sourceOf n 0x20)) = 1 ∧
    (s.reachLocked n).flow = s.flow := by
  obtain ⟨-, hresume, hstep, hcold, hst, hcause, hpend, hne, hfails, hfails', hquiet, hcmt⟩ := lockedFields_facts n
  have hshows := setCh_shows (s := s) (n := n) (st := ChSt.locked) (cause := 0) (by decide)
  obtain ⟨hstate, hwhy, hraise⟩ := hshows
  -- the fields of the acquisition, and then the commit
  have hover : ChannelLocal n (rangesOf (LDS_ACQ_STAT.STEP n :: LDS_ACQ_STAT.COLD n :: cmtFields n ++ [TRB_CNT.AUTO n]))
      (s.setCh n ChSt.locked 0x0) (s.lockedNow n) :=
    (((ChannelLocal.start hpend).put (reaches_of (m := [LDS_ACQ_STAT.STEP n]) (by simp) _ (by simp))).put
      (reaches_of (m := [LDS_ACQ_STAT.COLD n]) (by simp) _ (by simp))).put (cell_reach ..)
  have hcommit : ∀ {r : List (Nat × Nat)} {u v : State}, ChannelLocal n r u v → Reaches r (cmtFields n ++ [TRB_CNT.AUTO n]) →
      ChannelLocal n r u ((v.bump (TRB_CNT.AUTO n)).commitGo n) := fun h hl =>
    (h.bump (hl _ (by simp))).commitGo n.isLt fun f hf => hl f (List.mem_append_left _ hf)
  have hnow : (s.lockedNow n).rd (LDS_ACQ_STAT.STEP n) = 0xF ∧ (s.lockedNow n).rd (LDS_ACQ_STAT.COLD n) = 0 ∧
      (s.lockedNow n).rd (LDSC.FAILS n) = 0 :=
    ⟨(rd_put_ne hfails).trans ((rd_put_ne hne).trans (rd_put_same ..)), (rd_put_ne hfails').trans (rd_put_same ..), rd_put_same ..⟩
  have hflow : (s.lockedNow n).flow = s.flow := setCh_flow (by decide)
  obtain ⟨h15, h0, hf0⟩ := hnow
  have hraised := hraise (by rw [hch]; decide)
  rcases reachLocked_cases (s := s) (n := n) with heq | heq
  · rw [heq]
    exact ⟨(hover.read hst).trans hstate, (hover.read hcause).trans hwhy, h15, h0, hf0,
      hover.pend _ (sourceOf_lt (by decide)) hraised, hflow⟩
  · rw [heq]
    have hall := hcommit hover (reaches_of fun f hf => by simp only [List.cons_append, List.mem_cons]; exact .inr (.inr hf))
    have hafter := hcommit (ChannelLocal.start (s := s.lockedNow n) hresume) (reaches_of fun _ h => h)
    have hkept : FieldsKept (cmtFields n ++ [TRB_CNT.AUTO n]) [sourceOf n 0x51] [n] (s.lockedNow n)
        (((s.lockedNow n).bump (TRB_CNT.AUTO n)).commitGo n) :=
      (fieldsKept_bump_of (f := TRB_CNT.AUTO n) (.refl _ _ _ _) (by simp)).trans
        (fieldsKept_commitGo.mono fun f hf => List.mem_append_left _ hf)
    refine ⟨(hall.read hst).trans hstate, (hall.read hcause).trans hwhy, (hafter.read hstep).trans h15, (hafter.read hcold).trans h0,
      ?_, hall.pend _ (sourceOf_lt (by decide)) hraised, commitGo_flow.trans hflow⟩
    exact (hkept.read (by simp; exact sourceOf_lt (by decide)) (by simp; omega) ⟨hquiet, hcmt⟩).trans hf0

/-! ## A step runs over its bound -/

theorem flushReceive_rd {f : Field} (hq : isQuiet f.key = true) (hf : f.key ≠ (FEC_OCC.OCC n).key) :
    (s.flushReceive n).rd f = s.rd f := by
  have hkept : FieldsKept [FEC_OCC.OCC n] (overflowSources n) [n.val] s (s.flushReceive n) :=
    fieldsKept_of_regs (fieldsKept_put_of (f := FEC_OCC.OCC n) (v := 0)
      (fieldsKept_flowOp (.refl _ _ _ s) (by simp) n.isLt (.inr rfl)) (by simp)) rfl
  have hsrc : ∀ n : Fin 4, ∀ M ∈ overflowSources n, M < 2048 := by decide
  exact hkept.read (hsrc n) (by simp; omega) ⟨hq, by simpa using hf.symm⟩

theorem flushReceive_flow : (s.flushReceive n).flow = s.flow.set n (Flow.flushRx (s.flow.get n)) := flowOp_flow

theorem flushRx_rxRes (f : Flow) : f.flushRx.rxRes = 0 := by
  change (f.tok.filter fun t => !(!t.stage.isTx && true)).countP (fun t => !t.stage.isTx) = 0
  simp [List.countP_eq_zero]

theorem flushRx_counted (f : Flow) : f.flushRx.led.rxFlush = f.led.rxFlush + f.rxRes := by
  change f.led.rxFlush + f.tok.countP (fun t => !t.stage.isTx && true) = _
  simp [Flow.rxRes]

/-- The framer's own marks besides the fields of its loss. -/
def alignFields (n : Nat) : List Field := LFRC.GOOD n :: LFRC.BAD n :: LFRC.MFNV n :: lofFields n

theorem fieldsKept_clearAlign : FieldsKept (alignFields n) [sourceOf n 0x41] [] s (s.clearAlign n) := by
  refine fieldsKept_when_fn (fieldsKept_put_of (fieldsKept_put_of (fieldsKept_put_of (fieldsKept_put_of (.refl _ _ _ s)
    ?_) ?_) ?_) ?_) fun u hu => ?_
  · simp [alignFields, lofFields]
  · simp [alignFields, lofFields]
  · simp [alignFields]
  · simp [alignFields]
  · refine fieldsKept_when_fn (fieldsKept_of_regs (fieldsKept_put_of (fieldsKept_put_of (fieldsKept_put_of (fieldsKept_bump_of
      (fieldsKept_raiseCh (fieldsKept_put_of hu ?_) (by simp)) ?_) ?_) ?_) ?_) (onChan_regs ..)) fun v hv => fieldsKept_put_of hv ?_
    all_goals simp [alignFields, lofFields]

theorem clearAlign_rd {f : Field} (hq : isQuiet f.key = true) (hf : ∀ g ∈ alignFields n, g.key ≠ f.key) :
    (s.clearAlign n).rd f = s.rd f :=
  fieldsKept_clearAlign.read (by simpa using sourceOf_lt (by decide)) (by simp) ⟨hq, hf⟩

theorem clearAlign_flow : (s.clearAlign n).flow = s.flow :=
  have : Fact ((fun x => x = Area.ch) Area.ch) := ⟨rfl⟩
  (kept_clearAlign (A := fun x => x = Area.ch) (.refl s)).same .flow (by decide)

/-- A failure in the row: recorded, and the receive direction flushed. -/
def State.stepFailed (n st : Nat) (s : State) : State :=
  ((((s.put (LDS_ACQ_STAT.LAST_FAIL n) st).addWrap (LDSC.FAILS n) 1).raiseCh n 0x23).flushReceive n).clearAlign n

/-- Registers that a failure and the restart after it write. -/
def failedFields (n : Nat) : List Field := LDS_ACQ_STAT.LAST_FAIL n :: flushFields n ++ lofFields n

def restartFields (n : Nat) : List Field :=
  LDS_ACQ_STAT.STEP n :: LDS_ACQ_STAT.COLD n :: LDS_CD_EST.VALID n :: stageFields n ++ chipFields n

theorem exec_stepTimeout (hch : s.chSt n = ChSt.acquiring) (hlo : 2 ≤ s.rd (LDS_ACQ_STAT.STEP n))
    (hhi : s.rd (LDS_ACQ_STAT.STEP n) ≤ 8) : exec (.acquisitionStepTimeout n) s = .next
      (if (s.stepFailed n (s.rd (LDS_ACQ_STAT.STEP n))).rd (LDSC.FAILS n) % 2 = 1
        then (s.stepFailed n (s.rd (LDS_ACQ_STAT.STEP n))).warmRestart n
        else (s.stepFailed n (s.rd (LDS_ACQ_STAT.STEP n))).coldRestart n) := by
  change Host.Outcome.next (s.when (s.chSt n = ChSt.acquiring && 2 ≤ s.rd (LDS_ACQ_STAT.STEP n) &&
    s.rd (LDS_ACQ_STAT.STEP n) ≤ 8) _) = _
  rw [decide_eq_true hch, decide_eq_true hlo, decide_eq_true hhi]
  rfl

theorem failed_facts : ∀ n : Fin 4,
    isQuiet (LDSC.FAILS n).key = true ∧ isQuiet (LDS_ACQ_STAT.LAST_FAIL n).key = true ∧
    (LDSC.FAILS n).key ≠ (FEC_OCC.OCC n).key ∧ (∀ g ∈ alignFields n, g.key ≠ (LDSC.FAILS n).key) ∧
    (LDS_ACQ_STAT.LAST_FAIL n).key ≠ (FEC_OCC.OCC n).key ∧ (∀ g ∈ alignFields n, g.key ≠ (LDS_ACQ_STAT.LAST_FAIL n).key) ∧
    (LDS_ACQ_STAT.LAST_FAIL n).key ≠ (LDSC.FAILS n).key ∧ (LDSC.FAILS n).key ≠ (LDS_ACQ_STAT.LAST_FAIL n).key ∧
    notPending (flushFields n ++ lofFields n) = true ∧ notPending (failedFields n) = true := by decide

theorem stepFailed_parity {st : Nat} : (s.stepFailed n st).rd (LDSC.FAILS n) % 2 = (s.rd (LDSC.FAILS n) + 1) % 2 := by
  obtain ⟨hq, -, hocc, halign, -, -, -, hne, -, -⟩ := failed_facts n
  unfold State.stepFailed
  rw [clearAlign_rd hq halign, flushReceive_rd hq hocc, rd_raiseCh_quiet (by decide) (quiet_of_isQuiet hq), State.addWrap, rd_put_same,
    rd_put_ne hne, show (LDSC.FAILS n).width = 8 from rfl]
  exact Nat.mod_mod_of_dvd _ (by decide)

theorem stepFailed_lastFail {st : Nat} (hst : st < 16) : (s.stepFailed n st).rd (LDS_ACQ_STAT.LAST_FAIL n) = st := by
  obtain ⟨-, hq, -, -, hocc, halign, hne, -, -, -⟩ := failed_facts n
  unfold State.stepFailed
  rw [clearAlign_rd hq halign, flushReceive_rd hq hocc, rd_raiseCh_quiet (by decide) (quiet_of_isQuiet hq), State.addWrap,
    rd_put_ne hne, rd_put_same]
  exact Nat.mod_eq_of_lt hst

theorem stepFailed_flow {st : Nat} : (s.stepFailed n st).flow = s.flow.set n (Flow.flushRx (s.flow.get n)) := by
  unfold State.stepFailed
  rw [clearAlign_flow, flushReceive_flow, raiseCh_flow]
  rfl

theorem stepFailed_pend {st : Nat} : (s.stepFailed n st).rd (IRQ_PEND (sourceOf n 0x23)) = 1 := by
  obtain ⟨-, -, -, -, -, -, -, -, hnot, -⟩ := failed_facts n
  have hmove : ChannelLocal n (rangesOf (flushFields n ++ lofFields n))
      (((s.put (LDS_ACQ_STAT.LAST_FAIL n) st).addWrap (LDSC.FAILS n) 1).raiseCh n 0x23) (s.stepFailed n st) :=
    ((ChannelLocal.start hnot).flushReceive n.isLt (reaches_of fun _ h => List.mem_append_left _ h)).clearAlign
      (reaches_of fun _ h => List.mem_append_right _ h)
  exact hmove.pend _ (sourceOf_lt (by decide)) (raiseCh_pend (by decide))

theorem ChannelLocal.stepFailed {st : Nat} {r : List (Nat × Nat)} {u : State} (h : ChannelLocal n r u s)
    (hl : Reaches r (failedFields n)) : ChannelLocal n r u (s.stepFailed n st) :=
  ((((h.put (hl _ (by simp [failedFields]))).addWrap (cell_reach ..)).raiseCh (by decide)).flushReceive n.isLt
    fun f hf => hl f (by simp [failedFields, hf])).clearAlign fun f hf => hl f (by simp [failedFields, hf])

theorem ChannelLocal.warmRestart {r : List (Nat × Nat)} {u : State} (h : ChannelLocal n r u s)
    (hl : Reaches r (LDS_ACQ_CNT.WARM n :: restartFields n)) : ChannelLocal n r u (s.warmRestart n) :=
  ((((((h.bump (hl _ (by simp))).count (by omega)).stagesStop fun f hf => hl f (by simp [restartFields, hf])).put
    (hl _ (by simp [restartFields]))).put (cell_reach ..)).put (hl _ (by simp [restartFields])))

/-- A coarse estimate that a measurement starts. -/
theorem coarseStart_of_measured (h : s.on (LDS_CD_CTRL.SRC n) = false) : s.coarseStart n =
    (((s.when (s.rd (LDS_CD_CTRL.SRC n) ≠ s.rd (LDSC.SRC n)) fun t =>
      (t.put (LDS_CD_EST.VALID n) 0).when (2 ≤ t.rd (ISC_STAT.CHIP n)) (·.chipRest n 1)).put (LDSC.SRC n) (s.rd (LDS_CD_CTRL.SRC n))).put
        (LDSC.EST_RUN n) 1) := by
  have hsrc : s.rd (LDS_CD_CTRL.SRC n) ≠ 1 := fun hone => by simp [State.on, hone] at h
  unfold State.coarseStart
  dsimp only
  rw [if_neg hsrc]

/-- Fields that the start of a measured estimate sets. -/
def coarseFields (n : Nat) : List Field := LDSC.SRC n :: LDSC.EST_RUN n :: LDS_CD_EST.VALID n :: chipFields n

theorem sameFields_coarseStart (h : s.on (LDS_CD_CTRL.SRC n) = false) : SameFields (coarseFields n) s (s.coarseStart n) := by
  rw [coarseStart_of_measured h]
  refine sameFields_put_of (sameFields_put_of (sameFields_when_fn (.refl _ s) fun u hu => sameFields_when_fn
    (sameFields_put_of hu ?_) fun v hv => sameFields_chipRest hv fun f hf => ?_) ?_) ?_
  · simp [coarseFields]
  · simp [coarseFields, hf]
  · simp [coarseFields]
  · simp [coarseFields]

theorem coarse_facts : ∀ n : Fin 4, (LDS_CD_EST.VALID n).key ≠ (LDSC.SRC n).key ∧ (LDS_CD_EST.VALID n).key ≠ (LDSC.EST_RUN n).key ∧
    (∀ g ∈ chipFields n, g.key ≠ (LDS_CD_EST.VALID n).key) ∧
    (∀ g ∈ coarseFields n, g.key ≠ (LDS_ACQ_STAT.STEP n).key ∧ g.key ≠ (LDS_ACQ_STAT.COLD n).key ∧ g.key ≠ (LDSC.AGREED n).key) ∧
    (∀ g ∈ chipFields n, g.key ≠ (LDSC.AGREED n).key) := by decide

/-- The coarse estimator runs, and no estimate that was not valid becomes valid. -/
theorem coarseStart_shows (h : s.on (LDS_CD_CTRL.SRC n) = false) (hv : s.rd (LDS_CD_EST.VALID n) = 0) :
    (s.coarseStart n).rd (LDSC.EST_RUN n) = 1 ∧ (s.coarseStart n).rd (LDS_CD_EST.VALID n) = 0 := by
  obtain ⟨hsrc, hrun, hchip, -, -⟩ := coarse_facts n
  rw [coarseStart_of_measured h]
  refine ⟨rd_put_same .., (rd_put_ne hrun).trans ((rd_put_ne hsrc).trans ?_)⟩
  cases decide (s.rd (LDS_CD_CTRL.SRC n) ≠ s.rd (LDSC.SRC n))
  · exact hv
  · exact (rd_when_same fun u => sameFields_chipRest (.refl _ u) (fun _ hf => hf) _ hchip).trans (rd_put_same ..)

/-! ### The warm restart -/

theorem warm_facts : ∀ n : Fin 4,
    notPending (LDS_ACQ_CNT.WARM n :: restartFields n) = true ∧
    notPending (failedFields n ++ (LDS_ACQ_CNT.WARM n :: restartFields n)) = true ∧
    apart (LDS_ACQ_CNT.WARM n :: restartFields n) (LDS_ACQ_STAT.LAST_FAIL n) = true ∧
    apart (failedFields n) (LDS_ACQ_CNT.WARM n) = true ∧ notPending (failedFields n) = true ∧
    apart (failedFields n ++ (LDS_ACQ_CNT.WARM n :: restartFields n)) (LDS_ACQ_CNT.COLD n) = true ∧
    isQuiet (LDS_ACQ_CNT.WARM n).key = true ∧
    (LDS_ACQ_CNT.WARM n).key ≠ (LDS_ACQ_STAT.STEP n).key ∧ (LDS_ACQ_CNT.WARM n).key ≠ (LDSC.WAIT n).key ∧
    (LDS_ACQ_CNT.WARM n).key ≠ (LDS_ACQ_STAT.COLD n).key ∧ (∀ g ∈ stageFields n, g.key ≠ (LDS_ACQ_CNT.WARM n).key) ∧
    (LDS_ACQ_STAT.COLD n).key ≠ (LDS_ACQ_STAT.STEP n).key ∧ (LDS_ACQ_STAT.COLD n).key ≠ (LDSC.WAIT n).key ∧
    (∀ m : Fin 4, m.val ≠ n → apart (failedFields n ++ (LDS_ACQ_CNT.WARM n :: restartFields n)) (LDS_CH_STATE.STATE m) = true ∧
      apart (failedFields n ++ (LDS_ACQ_CNT.WARM n :: restartFields n)) (OPT_STAT.PHASE m) = true) := by decide

theorem valid_facts : ∀ n : Fin 4,
    notPending (failedFields n ++ LDS_ACQ_CNT.WARM n :: LDS_ACQ_STAT.STEP n :: LDS_ACQ_STAT.COLD n :: stageFields n) = true ∧
    apart (failedFields n ++ LDS_ACQ_CNT.WARM n :: LDS_ACQ_STAT.STEP n :: LDS_ACQ_STAT.COLD n :: stageFields n)
      (LDS_CD_EST.VALID n) = true := by decide

theorem warmRestart_shows : (s.warmRestart n).rd (LDS_ACQ_STAT.STEP n) = 2 ∧ (s.warmRestart n).rd (LDS_ACQ_STAT.COLD n) = 0 ∧
    (s.warmRestart n).rd (LDS_ACQ_CNT.WARM n) = s.oneMore (LDS_ACQ_CNT.WARM n) := by
  obtain ⟨-, -, -, -, -, -, hq, hstep, hwait, hcold, hstage, hstep', hwait', -⟩ := warm_facts n
  refine ⟨rd_put_same .., (rd_put_ne hstep').trans ((rd_put_ne hwait').trans (rd_put_same ..)), ?_⟩
  exact (rd_put_ne hstep).trans ((rd_put_ne hwait).trans ((rd_put_ne hcold).trans ((rd_clear_ne hstage).trans
    ((rd_count_quiet (by omega) (quiet_of_isQuiet hq)).trans (rd_bump_same _)))))

theorem warmRestart_flow : (s.warmRestart n).flow = s.flow :=
  (kept_warmRestart (A := fun _ => False) (.refl s)).same .flow id

/-- The clause's fields after an odd failure in the row. -/
theorem stepTimeout_warm {st : Nat} (hst : st < 16) :
    let t := (s.stepFailed n st).warmRestart n
    t.rd (LDS_ACQ_STAT.LAST_FAIL n) = st ∧ t.rd (LDS_ACQ_CNT.WARM n) = s.oneMore (LDS_ACQ_CNT.WARM n) ∧
      t.rd (LDS_ACQ_CNT.COLD n) = s.rd (LDS_ACQ_CNT.COLD n) ∧ t.rd (LDS_ACQ_STAT.STEP n) = 2 ∧ t.rd (LDS_ACQ_STAT.COLD n) = 0 ∧
      t.rd (LDS_CD_EST.VALID n) = s.rd (LDS_CD_EST.VALID n) ∧ t.rd (IRQ_PEND (sourceOf n 0x23)) = 1 ∧
      (t.flow.get n).rxRes = 0 ∧ (t.flow.get n).led.rxFlush = (s.flow.get n).led.rxFlush + (s.flow.get n).rxRes ∧
      OthersKept n s t := by
  intro t
  obtain ⟨hwarm, hall, hlast, hcount, hfailed, hcold, -, -, -, -, -, -, -, hothers⟩ := warm_facts n
  obtain ⟨hnarrow, hvalid⟩ := valid_facts n
  have hrestart : ChannelLocal n (rangesOf (LDS_ACQ_CNT.WARM n :: restartFields n)) (s.stepFailed n st) t :=
    (ChannelLocal.start hwarm).warmRestart (reaches_of fun _ h => h)
  have hwhole : ChannelLocal n (rangesOf (failedFields n ++ (LDS_ACQ_CNT.WARM n :: restartFields n))) s t :=
    ((ChannelLocal.start hall).stepFailed (reaches_of fun _ h => List.mem_append_left _ h)).warmRestart
      (reaches_of fun _ h => List.mem_append_right _ h)
  have hfail : ChannelLocal n (rangesOf (failedFields n)) s (s.stepFailed n st) :=
    (ChannelLocal.start hfailed).stepFailed (reaches_of fun _ h => h)
  obtain ⟨h2, h0, hmore⟩ := warmRestart_shows (s := s.stepFailed n st) (n := n)
  have hflow : t.flow.get n = Flow.flushRx (s.flow.get n) := by
    rw [warmRestart_flow, stepFailed_flow, quad_get_set_same]
  refine ⟨(hrestart.read hlast).trans (stepFailed_lastFail hst), ?_, hwhole.read hcold, h2, h0, ?_,
    hrestart.pend _ (sourceOf_lt (by decide)) stepFailed_pend, ?_, ?_, hwhole.othersKept hothers⟩
  · rw [hmore, State.oneMore, hfail.read hcount]
    rfl
  · have hkeep : ChannelLocal n (rangesOf (failedFields n ++ LDS_ACQ_CNT.WARM n :: LDS_ACQ_STAT.STEP n :: LDS_ACQ_STAT.COLD n ::
        stageFields n)) s t := by
      have hm := ((ChannelLocal.start (s := s) hnarrow).stepFailed (st := st) (reaches_of fun _ h => List.mem_append_left _ h))
      exact (((((hm.bump (reaches_of (m := [LDS_ACQ_CNT.WARM n]) (by simp) _ (by simp))).count (by omega)).stagesStop
        (reaches_of fun f hf => by simp [hf])).put (reaches_of (m := [LDS_ACQ_STAT.COLD n]) (by simp) _ (by simp))).put
        (cell_reach ..)).put (reaches_of (m := [LDS_ACQ_STAT.STEP n]) (by simp) _ (by simp))
    exact hkeep.read hvalid
  · rw [hflow]
    exact flushRx_rxRes _
  · rw [hflow]
    exact flushRx_counted _

/-! ### The cold restart -/

/-- The cold restart up to the agreement that is sought again. -/
def State.coldBegun (n : Nat) (s : State) : State :=
  (((((s.bump (LDS_ACQ_CNT.COLD n)).count n .lds 0x04).stagesStop n).put (LDS_CD_EST.VALID n) 0).put (LDS_ACQ_STAT.COLD n) 1).put
    (LDS_ACQ_STAT.STEP n) 0

/-- What remains before the coarse estimate. -/
def State.coldSought (n : Nat) (chip : Bool) (s : State) : State := (s.unagree n).when chip (·.chipRest n 1)

theorem coldRestart_eq : s.coldRestart n = ((s.coldBegun n).coldSought n (!s.interop n)).coarseStart n := rfl

theorem cold_facts : ∀ n : Fin 4,
    notPending (LDS_ACQ_CNT.COLD n :: restartFields n) = true ∧
    notPending (failedFields n ++ (LDS_ACQ_CNT.COLD n :: restartFields n)) = true ∧
    apart (LDS_ACQ_CNT.COLD n :: restartFields n) (LDS_ACQ_STAT.LAST_FAIL n) = true ∧
    apart (failedFields n) (LDS_ACQ_CNT.COLD n) = true ∧
    apart (failedFields n ++ (LDS_ACQ_CNT.COLD n :: restartFields n)) (LDS_ACQ_CNT.WARM n) = true ∧
    apart (failedFields n ++ (LDS_ACQ_CNT.COLD n :: restartFields n)) (LDS_CD_CTRL.SRC n) = true ∧
    isQuiet (LDS_ACQ_CNT.COLD n).key = true ∧
    (∀ g ∈ stageFields n, g.key ≠ (LDS_ACQ_CNT.COLD n).key) ∧
    (∀ g ∈ [LDS_ACQ_STAT.STEP n, LDS_ACQ_STAT.COLD n, LDS_CD_EST.VALID n], (LDS_ACQ_CNT.COLD n).key ≠ g.key) ∧
    (∀ m : Fin 4, m.val ≠ n → apart (failedFields n ++ (LDS_ACQ_CNT.COLD n :: restartFields n)) (LDS_CH_STATE.STATE m) = true ∧
      apart (failedFields n ++ (LDS_ACQ_CNT.COLD n :: restartFields n)) (OPT_STAT.PHASE m) = true) := by decide

theorem ChannelLocal.coldBegun {r : List (Nat × Nat)} {u : State} (h : ChannelLocal n r u s)
    (hl : Reaches r (LDS_ACQ_CNT.COLD n :: restartFields n)) : ChannelLocal n r u (s.coldBegun n) :=
  ((((h.bump (hl _ (by simp))).count (by omega)).stagesStop fun f hf => hl f (by simp [restartFields, hf])).put
    (hl _ (by simp [restartFields]))).put (hl _ (by simp [restartFields])) |>.put (hl _ (by simp [restartFields]))

theorem ChannelLocal.coldSought {r : List (Nat × Nat)} {u : State} {chip : Bool} (h : ChannelLocal n r u s)
    (hl : Reaches r (restartFields n)) : ChannelLocal n r u (s.coldSought n chip) :=
  h.unagree.when fun _ hv => hv.chipRest fun f hf => hl f (by simp [restartFields, hf])

theorem ChannelLocal.coarseStart {r : List (Nat × Nat)} {u : State} (h : ChannelLocal n r u s)
    (hsrc : s.on (LDS_CD_CTRL.SRC n) = false) (hl : Reaches r (restartFields n)) : ChannelLocal n r u (s.coarseStart n) := by
  rw [coarseStart_of_measured hsrc]
  exact ((h.when fun _ hv => (hv.put (hl _ (by simp [restartFields]))).when fun _ hw =>
    hw.chipRest fun f hf => hl f (by simp [restartFields, hf])).put (cell_reach ..)).put (cell_reach ..)

theorem sought_facts : ∀ n : Fin 4,
    (∀ g ∈ [LDSC.AGREED n, LDSC.SENT_AG n, LDSC.RCVD_AG n, LDSC.NEXT_AG n] ++ coarseFields n,
      g.key ≠ (LDS_ACQ_STAT.STEP n).key ∧ g.key ≠ (LDS_ACQ_STAT.COLD n).key ∧ g.key ≠ (LDS_ACQ_CNT.COLD n).key) ∧
    (∀ g ∈ [LDSC.AGREED n, LDSC.SENT_AG n, LDSC.RCVD_AG n, LDSC.NEXT_AG n] ++ chipFields n, g.key ≠ (LDS_CD_EST.VALID n).key) ∧
    ([LDSC.AGREED n, LDSC.SENT_AG n, LDSC.RCVD_AG n, LDSC.NEXT_AG n].map Field.key).Nodup ∧
    (LDS_ACQ_STAT.COLD n).key ≠ (LDS_ACQ_STAT.STEP n).key ∧ (LDS_CD_EST.VALID n).key ≠ (LDS_ACQ_STAT.STEP n).key ∧
    (LDS_CD_EST.VALID n).key ≠ (LDS_ACQ_STAT.COLD n).key := by decide

theorem sameFields_coldSought {chip : Bool} :
    SameFields ([LDSC.AGREED n, LDSC.SENT_AG n, LDSC.RCVD_AG n, LDSC.NEXT_AG n] ++ chipFields n) s (s.coldSought n chip) :=
  sameFields_when_fn (sameFields_clear (.refl _ s) fun _ hf => List.mem_append_left _ hf) fun _ hu =>
    sameFields_chipRest hu fun _ hf => List.mem_append_right _ hf

theorem coldRestart_shows (hsrc : ((s.coldBegun n).coldSought n (!s.interop n)).on (LDS_CD_CTRL.SRC n) = false) :
    (s.coldRestart n).rd (LDS_ACQ_STAT.STEP n) = 0 ∧ (s.coldRestart n).rd (LDS_ACQ_STAT.COLD n) = 1 ∧
    (s.coldRestart n).rd (LDS_CD_EST.VALID n) = 0 ∧ (s.coldRestart n).rd (LDSC.EST_RUN n) = 1 ∧
    (s.coldRestart n).rd (LDSC.AGREED n) = 0 ∧ (s.coldRestart n).rd (LDS_ACQ_CNT.COLD n) = s.oneMore (LDS_ACQ_CNT.COLD n) := by
  obtain ⟨hsteps, hvalid, hnodup, hcs, hvs, hvc⟩ := sought_facts n
  obtain ⟨-, -, -, hcoarse, hagreed⟩ := coarse_facts n
  obtain ⟨-, -, -, -, -, -, hq, hstage, hcounts, -⟩ := cold_facts n
  -- what the agreement and the estimate leave
  have hrest : SameFields ([LDSC.AGREED n, LDSC.SENT_AG n, LDSC.RCVD_AG n, LDSC.NEXT_AG n] ++ coarseFields n) (s.coldBegun n)
      (s.coldRestart n) := by
    rw [coldRestart_eq]
    refine (sameFields_coldSought.mono fun f hf => ?_).trans ((sameFields_coarseStart hsrc).mono fun f hf => List.mem_append_right _ hf)
    rcases List.mem_append.1 hf with hf | hf
    · exact List.mem_append_left _ hf
    · exact List.mem_append_right _ (by simp [coarseFields, hf])
  have hvalid0 : ((s.coldBegun n).coldSought n (!s.interop n)).rd (LDS_CD_EST.VALID n) = 0 :=
    (sameFields_coldSought _ hvalid).trans ((rd_put_ne hvs).trans ((rd_put_ne hvc).trans (rd_put_same ..)))
  obtain ⟨hrun, hnot⟩ := coarseStart_shows hsrc hvalid0
  rw [coldRestart_eq] at hrest ⊢
  refine ⟨?_, ?_, hnot, hrun, ?_, ?_⟩
  · exact (hrest _ fun g hg => (hsteps g hg).1).trans (rd_put_same ..)
  · exact (hrest _ fun g hg => (hsteps g hg).2.1).trans ((rd_put_ne hcs).trans (rd_put_same ..))
  · refine (sameFields_coarseStart hsrc _ fun g hg => (hcoarse g hg).2.2).trans ?_
    refine (rd_when_same fun u => sameFields_chipRest (.refl _ u) (fun _ hf => hf) _ hagreed).trans ?_
    exact rd_clear_same (by simp) hnodup
  · refine (hrest _ fun g hg => (hsteps g hg).2.2).trans ?_
    exact (rd_put_ne (hcounts _ (by simp))).trans ((rd_put_ne (hcounts _ (by simp))).trans ((rd_put_ne (hcounts _ (by simp))).trans
      ((rd_clear_ne hstage).trans ((rd_count_quiet (by omega) (quiet_of_isQuiet hq)).trans (rd_bump_same _)))))

theorem coldRestart_flow : (s.coldRestart n).flow = s.flow :=
  have : Fact ((fun x => x = Area.ch) Area.ch) := ⟨rfl⟩
  (kept_coldRestart (A := fun x => x = Area.ch) (.refl s)).same .flow (by decide)

/-- The clause's fields after an even failure in the row. -/
theorem stepTimeout_cold {st : Nat} (hst : st < 16) (hsrc : s.on (LDS_CD_CTRL.SRC n) = false) :
    let t := (s.stepFailed n st).coldRestart n
    t.rd (LDS_ACQ_STAT.LAST_FAIL n) = st ∧ t.rd (LDS_ACQ_CNT.COLD n) = s.oneMore (LDS_ACQ_CNT.COLD n) ∧
      t.rd (LDS_ACQ_CNT.WARM n) = s.rd (LDS_ACQ_CNT.WARM n) ∧ t.rd (LDS_ACQ_STAT.STEP n) = 0 ∧ t.rd (LDS_ACQ_STAT.COLD n) = 1 ∧
      t.rd (LDS_CD_EST.VALID n) = 0 ∧ t.rd (LDSC.EST_RUN n) = 1 ∧ t.rd (LDSC.AGREED n) = 0 ∧
      t.rd (IRQ_PEND (sourceOf n 0x23)) = 1 ∧ (t.flow.get n).rxRes = 0 ∧ OthersKept n s t := by
  intro t
  obtain ⟨hcold, hall, hlast, hcount, hwarm, hctrl, -, -, -, hothers⟩ := cold_facts n
  have hfail : ChannelLocal n (rangesOf (failedFields n)) s (s.stepFailed n st) :=
    (ChannelLocal.start (failed_facts n).2.2.2.2.2.2.2.2.2).stepFailed (reaches_of fun _ h => h)
  have hsought : ∀ {l : List Field} {u v : State} {chip : Bool}, ChannelLocal n (rangesOf l) u v →
      (∀ f ∈ LDS_ACQ_CNT.COLD n :: restartFields n, f ∈ l) →
      ChannelLocal n (rangesOf l) u ((v.coldBegun n).coldSought n chip) := fun h hl =>
    (h.coldBegun (reaches_of hl)).coldSought (reaches_of fun f hf => hl f (List.mem_cons_of_mem _ hf))
  have hwhole := hsought (chip := !(s.stepFailed n st).interop n) ((ChannelLocal.start (s := s) hall).stepFailed (st := st) (reaches_of fun _ h => List.mem_append_left _ h))
    fun _ h => List.mem_append_right _ h
  have hoff : (((s.stepFailed n st).coldBegun n).coldSought n (!(s.stepFailed n st).interop n)).on (LDS_CD_CTRL.SRC n) = false := by
    unfold State.on
    rw [hwhole.read hctrl]
    exact hsrc
  have hrestart : ChannelLocal n (rangesOf (LDS_ACQ_CNT.COLD n :: restartFields n)) (s.stepFailed n st) t :=
    (hsought (.start hcold) fun _ h => h).coarseStart hoff (reaches_of fun f hf => List.mem_cons_of_mem _ hf)
  have hend : ChannelLocal n (rangesOf (failedFields n ++ (LDS_ACQ_CNT.COLD n :: restartFields n))) s t :=
    hwhole.coarseStart hoff (reaches_of fun f hf => List.mem_append_right _ (List.mem_cons_of_mem _ hf))
  obtain ⟨h0, h1, hvalid, hrun, hagreed, hmore⟩ := coldRestart_shows hoff
  refine ⟨(hrestart.read hlast).trans (stepFailed_lastFail hst), ?_, hend.read hwarm, h0, h1, hvalid, hrun, hagreed,
    hrestart.pend _ (sourceOf_lt (by decide)) stepFailed_pend, ?_, hend.othersKept hothers⟩
  · rw [hmore, State.oneMore, hfail.read hcount]
    rfl
  · rw [coldRestart_flow, stepFailed_flow, quad_get_set_same]
    exact flushRx_rxRes _

end

/-- Settles O23: each step of Table 6.4 under its condition, and the restarts after a step that runs over its bound. -/
theorem acquisitionSteps : Obligations.AcquisitionSteps := by
  unfold Obligations.AcquisitionSteps
  refine ⟨?clock, ?blind, ?carrier, ?pilots, ?feedback, ?codewords, ?locked, ?warm, ?cold⟩
  case clock =>
    intro s n fofs adc hch hstep hlock
    have hacq : s.acqStep n fofs adc = s.put (LDS_ACQ_STAT.STEP n) 3 := by
      unfold State.acqStep
      rw [hstep, hlock]
      rfl
    exact ⟨_, (exec_acquisitionStepComplete hch).trans (congrArg _ hacq), rd_go (by decide), rfl, rfl,
      sameFields_put_of (.refl _ s) (by simp)⟩
  case blind =>
    intro s n fofs adc hch hstep
    have hacq : s.acqStep n fofs adc = (s.blindTaps n).put (LDS_ACQ_STAT.STEP n) 4 := by
      unfold State.acqStep
      rw [hstep]
      rfl
    refine ⟨_, (exec_acquisitionStepComplete hch).trans (congrArg _ hacq), rd_go (by decide), blindTaps_lengths, blindTaps_ch, rfl, ?_⟩
    exact sameFields_put_of (sameFields_of_regs (.refl _ s) rfl) (by simp)
  case carrier =>
    intro s n fofs adc hch hstep hoffset
    obtain ⟨hfofs, -⟩ := step_keys n
    have hacq : s.acqStep n fofs adc = (s.putS (LDS_CR_STAT.FOFS n) fofs).put (LDS_ACQ_STAT.STEP n) 5 := by
      unfold State.acqStep
      rw [hstep, decide_eq_true hoffset]
      rfl
    exact ⟨_, (exec_acquisitionStepComplete hch).trans (congrArg _ hacq), rd_go (by decide), (rd_put_ne hfofs).trans putS_rd, rfl, rfl,
      sameFields_put_of (sameFields_put_of (.refl _ s) (by simp)) (by simp)⟩
  case pilots =>
    intro s n fofs adc hch hstep
    obtain ⟨-, hpsync, hcoh, -⟩ := step_keys n
    have hacq : s.acqStep n fofs adc = (((s.syncPilots n adc).put (LDS_EQ_STAT.PSYNC n) 1).flag (ISC_STAT.COH n)
        (!s.interop n)).put (LDS_ACQ_STAT.STEP n) 6 := by
      unfold State.acqStep
      rw [hstep]
      rfl
    refine ⟨_, (exec_acquisitionStepComplete hch).trans (congrArg _ hacq), rd_go (by decide),
      (rd_put_ne hpsync).trans ((rd_put_ne hcoh).trans (rd_put_same ..)), fun h => syncPilots_pilot h, syncPilots_flow, ?_⟩
    exact sameFields_put_of (sameFields_put_of (sameFields_put_of (sameFields_of_regs (.refl _ s) syncPilots_regs) (by simp))
      (by simp)) (by simp)
  case feedback =>
    intro s n fofs adc hch hstep
    obtain ⟨-, -, -, hdfe, hfofs, halpha, hquiet⟩ := step_keys n
    have hacq : s.acqStep n fofs adc = (((s.onDsp n (·.feedbackOn ((s.rxProfile n).elim false (·.dfe) && !s.interop n))).flag
        (LDS_EQ_STAT.DFE n) ((s.rxProfile n).elim false (·.dfe) && !s.interop n)).receiveSpan n adc).put (LDS_ACQ_STAT.STEP n) 7 := by
      unfold State.acqStep
      rw [hstep]
      rfl
    have hshown : ∀ (u : State) (b : Bool), (((u.flag (LDS_EQ_STAT.DFE n) b).receiveSpan n adc).put (LDS_ACQ_STAT.STEP n) 7).on
        (LDS_EQ_STAT.DFE n) = b := fun u b => by
      have hkept : (((u.flag (LDS_EQ_STAT.DFE n) b).receiveSpan n adc).put (LDS_ACQ_STAT.STEP n) 7).rd (LDS_EQ_STAT.DFE n) =
          (u.flag (LDS_EQ_STAT.DFE n) b).rd (LDS_EQ_STAT.DFE n) :=
        (rd_put_ne hdfe).trans (fieldsKept_receiveSpan.read (by simp) (by simp; omega) ⟨hquiet, by simp [hfofs.symm, halpha.symm]⟩)
      exact (on_congr hkept).trans (on_flag_same b u Nat.one_pos)
    refine ⟨_, (exec_acquisitionStepComplete hch).trans (congrArg _ hacq), rd_go (by decide), hshown _ _, receiveSpan_flow, ?_⟩
    exact fieldsKept_put_of ((fieldsKept_put_of (f := LDS_EQ_STAT.DFE n) (fieldsKept_of_regs (.refl _ _ _ s) (onDsp_regs ..))
        (by simp)).trans (fieldsKept_receiveSpan.mono (by simp))) (by simp)
  case codewords =>
    intro s n fofs adc hch hstep halign
    have hacq : s.acqStep n fofs adc = s.put (LDS_ACQ_STAT.STEP n) 8 := by
      unfold State.acqStep
      rw [hstep, halign]
      rfl
    exact ⟨_, (exec_acquisitionStepComplete hch).trans (congrArg _ hacq), rd_go (by decide), rfl, rfl,
      sameFields_put_of (.refl _ s) (by simp)⟩
  case locked =>
    intro s n fofs adc hch hstep hframe hfault
    have hacq : s.acqStep n fofs adc = s.reachLocked n := by
      unfold State.acqStep
      rw [hstep, hframe, hfault]
      rfl
    exact ⟨_, (exec_acquisitionStepComplete hch).trans (congrArg _ hacq), reachLocked_shows hch⟩
  case warm =>
    intro s n hch hlo hhi hodd
    have hparity : (s.stepFailed n (s.rd (LDS_ACQ_STAT.STEP n))).rd (LDSC.FAILS n) % 2 = 1 := by
      rw [stepFailed_parity]
      omega
    have hexec := exec_stepTimeout hch hlo hhi
    rw [if_pos hparity] at hexec
    exact ⟨_, hexec, stepTimeout_warm (by omega)⟩
  case cold =>
    intro s n hch hlo hhi heven hsrc
    have hparity : ¬ (s.stepFailed n (s.rd (LDS_ACQ_STAT.STEP n))).rd (LDSC.FAILS n) % 2 = 1 := by
      rw [stepFailed_parity]
      omega
    have hexec := exec_stepTimeout hch hlo hhi
    rw [if_neg hparity] at hexec
    exact ⟨_, hexec, stepTimeout_cold (by omega) hsrc⟩

end Sys2Proof.Machine
end

section
/-! O15. A position that waits may name any converter, and a mark of 1 anywhere among the cells reads as a free spare of one: where a
channel leaves DARK behind, the spare that starts its shadow calibration can be the RESIZE flag of the transmitted header. -/

set_option Elab.async false

namespace Sys2Proof.Machine

/-- A position that waits for a spare of the converter among whose slices a field would stand. -/
def waitingAt (f : Field) : Swap := ⟨sliceAt f / 68, 0, some 0, .waiting⟩

/-- Channel 0 is IN_SERVICE and its armed resize of tributaries alone is at its target; one position is regained, and one waits where
the RESIZE flag counts as a spare. -/
def targetReachedState : State :=
  { (State.reset.put (LDS_CH_STATE.STATE 0) ChSt.inService |>.put (LDS_RSZ_STAT.STATE 0) RszSt.armed) with
    ch := onlyChannel { Chan.reset with
      swaps := [regained .waiting, waitingAt (LFRC.TX_RESIZE 0)], rsz := { Rsz.none with only := true } } }

/-- The flag is marked SHADOW after it has been set. -/
theorem resizeTargetReached_unflags :
    ∃ t, exec (.resizeTargetReached 0) targetReachedState = .next t ∧ t.rd (LFRC.TX_RESIZE 0) ≠ 1 :=
  ⟨_, rfl, by decide +kernel⟩

/-- Refutes O15: clause 4 says that the RESIZE flag is in the transmitted header once the target is reached, and the shadow
calibration that starts as the channel becomes RESIZING can take the flag's cell for its spare. -/
theorem not_resizeDeadlinesAndSwitch : ¬ Obligations.ResizeDeadlinesAndSwitch := by
  unfold Obligations.ResizeDeadlinesAndSwitch
  rintro ⟨-, -, -, switches, -⟩
  obtain ⟨t, ht, -, -, -, -, -, flag, -⟩ := switches targetReachedState 0 (by decide +kernel) (by decide +kernel) rfl
  obtain ⟨u, hu, unflags⟩ := resizeTargetReached_unflags
  cases hu.symm.trans ht
  exact unflags flag

end Sys2Proof.Machine
end

section
/-! O30. The table that a resize latched may name any entry, and an entry past the last stands among the model's own cells: where the
boundary before the target takes the table, such an entry can clear the mark of a fresh vote. -/

set_option Elab.async false

namespace Sys2Proof.Machine

/-- The entry whose START would stand in the word of a field. -/
def entryAt (f : Field) : Nat := (f.addr - 0x8600000) / 16

/-- Channel 0 is lit; its commit's vote approved just now, and its armed resize takes a table with the entry at the mark of that vote
at this boundary. -/
def freshCommitState : State :=
  { (State.reset.put (OPT_STAT.PHASE 0) Phase.lit |>.put (TRB_CMT_STAT.STATE 0) 3 |>.put (TRBC.FRESH 0) 1
      |>.put (LDS_RSZ_STAT.STATE 0) RszSt.armed |>.put (LDS_RSZ_MF.MFN 0) 2) with
    ch := onlyChannel { Chan.reset with
      rsz := { Rsz.none with trib := true, table := [⟨entryAt (TRBC.FRESH 0), false, false, 0, 0, 0⟩] } } }

/-- The mark is gone when the boundary reaches the commit, which is latched as if its vote were old. -/
theorem txMultiframeBoundary_latches :
    ∃ t, exec (.txMultiframeBoundary 0 true) freshCommitState = .next t ∧ t.rd (TRB_CMT_STAT.STATE 0) ≠ 3 :=
  ⟨_, rfl, by decide +kernel⟩

/-- Refutes O30: clause 4 says that a commit whose vote approved less than 10 µs before a boundary waits for the next one, and the
table that a resize takes at the same boundary can clear the mark of that vote first. -/
theorem not_multiframesAndCommits : ¬ Obligations.MultiframesAndCommits := by
  unfold Obligations.MultiframesAndCommits
  rintro ⟨-, -, -, boundary, -⟩
  obtain ⟨t, ht, -, -, waits, -⟩ := boundary freshCommitState 0 true (by decide +kernel) rfl
  obtain ⟨u, hu, latches⟩ := txMultiframeBoundary_latches
  cases hu.symm.trans ht
  exact latches (waits ⟨by decide +kernel, by decide +kernel, rfl⟩)

end Sys2Proof.Machine
end

section
/-! O36. The place of a unit's first byte in the tenant's tokens has no upper limit in the record of an opening: a unit of no bytes past
the last token opens with no token in SEC to drop. -/

set_option Elab.async false

namespace Sys2Proof.Machine

/-- A unit of no bytes, with its tag under the key 0. -/
def emptyUnit : Sealed := ⟨0, 0, 0, 0, 300697977009077917020225871724921345334, 0, false, true⟩

/-- The unit begins in the tenant's second token; an earlier unit spoilt the first. -/
def emptyOpening : Opening := ⟨0, 0, [], [emptyUnit], 64, 0, some false, false⟩

/-- Tenant 0 of channel 0 is ACTIVE with a valid slot, and SEC holds no token of it. -/
def emptyUnitState : State :=
  { (State.reset.put (TRB_TRIB.STATE 0 0) Trib.active |>.put (KEY_SLOT.STATE 0) 2) with
    ch := onlyChannel { Chan.reset with rx := { LineRx.none with opening := [emptyOpening] } } }

theorem emptyUnit_opens : emptyUnitState.unitVerdict 0 0 emptyOpening emptyUnit
    (((emptyUnitState.unitStream 0 0 emptyOpening).drop 64).take 0) = .opens := by
  decide +kernel

/-- No token is dropped as the unit opens. -/
theorem sealedUnitReceived_drops_none :
    ∃ t, exec (.sealedUnitReceived 0 0) emptyUnitState = .next t ∧ (t.flow.get 0).led.rxAuth ≠ 1 :=
  ⟨_, rfl, by decide +kernel⟩

/-- Refutes O36: clause 5 counts one token as dropped where an earlier unit spoilt the first of those that leave, and SEC may hold
none. -/
theorem not_cipherUnitsAndEntropy : ¬ Obligations.CipherUnitsAndEntropy := by
  unfold Obligations.CipherUnitsAndEntropy
  rintro ⟨-, -, -, -, opens, -⟩
  obtain ⟨t, ht, -, -, counted, -⟩ := opens emptyUnitState 0 0 emptyUnit emptyOpening rfl rfl (by decide +kernel)
    (.inl (by decide)) emptyUnit_opens
  obtain ⟨u, hu, none⟩ := sealedUnitReceived_drops_none
  cases hu.symm.trans ht
  exact none (counted.trans rfl)

end Sys2Proof.Machine
end

section
/-! SUPPORT. A channel enters ACQUIRING: from a state that holds lock it falls back, and from any other it flushes what it received
(R39, R60, R148). -/

set_option Elab.async false

namespace Sys2Proof.Machine

/-- Registers that a fall back writes. -/
def fallBackFields (n : Nat) : List Field :=
  rszFailFields n ++ flushFields n ++ lofFields n ++ [LDS_CH_STATE.CONVERGED n, LDS_EQ_STAT.WINOK n, HST_STAT.REPL_EV n] ++
    (LDS_ACQ_STAT.STEP n :: LDS_ACQ_STAT.COLD n :: stageFields n)

/-- Registers that a channel's entry into ACQUIRING writes, with its report. -/
def acquiringFields (n : Nat) : List Field := fallBackFields n ++ reportFields n

section
variable {n cause : Nat} {r : List (Nat × Nat)} {s t : State}

theorem trib_reach {k : Nat} (hn : n < 4) (hk : k < 1024) : reach r (TRB_TRIB.STATE n k).key = true ∧
    reach r (TRB_TRIB.CARRY n k).key = true := by
  refine ⟨reach_of_table ?_ ?_, reach_of_table ?_ ?_⟩
  all_goals
    simp only [lowEnd, tileKeys, Field.key, TRB_TRIB.STATE, TRB_TRIB.CARRY]
    omega

theorem tribs_lt {k : Nat} (hk : k ∈ s.tribs n) : k < 1024 := listed_lt hk

theorem ChannelLocal.fallBack (h : ChannelLocal n r s t) (hn : n < 4) (hl : Reaches r (fallBackFields n)) :
    ChannelLocal n r s (t.fallBack n) := by
  have mem : ∀ {m : List Field}, (∀ f ∈ m, f ∈ fallBackFields n) → Reaches r m := fun hm f hf => hl f (hm f hf)
  have hrsz : ChannelLocal n r s (t.when (t.rszRunning n) (·.rszFail n 0x8)) := h.when fun u hu => hu.rszFail
    (mem fun f hf => by simp [fallBackFields, hf])
  have hlost := ((hrsz.flushReceive hn (mem fun f hf => by simp [fallBackFields, hf])).unconverge
    (mem fun f hf => by
      simp only [List.mem_cons, List.not_mem_nil, or_false] at hf
      rcases hf with rfl | rfl <;> simp [fallBackFields])).clearAlign (mem fun f hf => by simp [fallBackFields, hf])
  refine ChannelLocal.warmStart (ChannelLocal.hstRefresh (hlost.each fun k hk u hu => hu.put ?_) hn ?_)
    (mem fun f hf => List.mem_append_right _ hf)
  · exact (trib_reach hn (tribs_lt (List.mem_of_mem_filter hk))).1
  · exact mem fun f hf => by
      obtain rfl := List.mem_singleton.1 hf
      simp [fallBackFields]

theorem ChannelLocal.enterAcquiring (h : ChannelLocal n r s t) (hn : n < 4) (hl : Reaches r (fallBackFields n)) :
    ChannelLocal n r s (t.enter n ChSt.acquiring cause) := by
  have henter : t.enter n ChSt.acquiring cause = if t.holdsLock n then t.fallBack n else (t.flushReceive n).clearAlign n := rfl
  rw [henter]
  split
  · exact h.fallBack hn hl
  · exact (h.flushReceive hn fun f hf => hl f (by simp [fallBackFields, hf])).clearAlign fun f hf =>
      hl f (by simp [fallBackFields, hf])

/-- A channel becomes ACQUIRING. -/
theorem ChannelLocal.setAcquiring (h : ChannelLocal n r s t) (hn : n < 4) (hl : Reaches r (acquiringFields n)) :
    ChannelLocal n r s (t.setCh n ChSt.acquiring cause) :=
  (h.enterAcquiring hn fun f hf => hl f (List.mem_append_left _ hf)).setCh (by decide) fun f hf => hl f (List.mem_append_right _ hf)

end

/-! ## Tokens -/

section
variable {n : Fin 4} {cause : Nat} {s t : State}

theorem each_flow {α : Type} {xs : List α} {f : α → State → State} (h : ∀ x u, (f x u).flow = u.flow) :
    (s.each xs f).flow = s.flow := each_sameArea (x := .flow) h

theorem rxRes_of_tok {f g : Flow} (h : f.tok = g.tok) : f.rxRes = g.rxRes := by
  unfold Flow.rxRes
  rw [h]

theorem flushReceive_rxRes : ((s.flushReceive n).flow.get n).rxRes = 0 := by
  rw [flushReceive_flow, quad_get_set_same]
  exact flushRx_rxRes _

theorem warmStart_flow : (s.warmStart n).flow = s.flow := (kept_warmStart (A := fun _ => False) (.refl s)).same .flow id

theorem enterAcquiring_rxRes : ((s.enter n ChSt.acquiring cause).flow.get n).rxRes = 0 := by
  have henter : s.enter n ChSt.acquiring cause = if s.holdsLock n then s.fallBack n else (s.flushReceive n).clearAlign n := rfl
  rw [henter]
  split
  · have hheld : ∀ u : State, (u.each (s.tribsIn n Trib.active) (fun t v => v.put (TRB_TRIB.STATE n t) Trib.held)).flow = u.flow :=
      fun u => each_flow fun _ _ => rfl
    unfold State.fallBack
    rw [warmStart_flow, rxRes_of_tok (hstRefresh_moved n.isLt).tok, hheld, clearAlign_flow]
    exact flushReceive_rxRes
  · rw [clearAlign_flow]
    exact flushReceive_rxRes

/-- Once ACQUIRING, a channel holds no token of its receive direction. -/
theorem setAcquiring_rxRes : ((s.setCh n ChSt.acquiring cause).flow.get n).rxRes = 0 := by
  rw [setCh_flow (by decide)]
  exact enterAcquiring_rxRes

theorem acquiring_facts : ∀ n : Fin 4, notPending (acquiringFields n) = true ∧
    (∀ m : Fin 4, m.val ≠ n → apart (acquiringFields n) (LDS_CH_STATE.STATE m) = true ∧ apart (acquiringFields n) (OPT_STAT.PHASE m) = true)
    := by decide

end

end Sys2Proof.Machine
end

section
/-! O17. The receive power monitor, the AGC, and loss of signal (R26, R30, R96, R98, R105, R148). -/

set_option Elab.async false

namespace Sys2Proof.Machine

section
variable {s t : State} {n : Fin 4} {f : Field}

/-! ## The monitors -/

/-- The powers as the monitors show them, and the received power that the AGC keeps. -/
def State.powersShown (n : Nat) (tx rx : Int) (s : State) : State :=
  (((((s.put (OPT_TX_MON.PWR n) (Machine.shown (-3500) tx)).put (OPT_RX_PWR.NOW n) (Machine.shown (-3000) rx)).putS (OPTC.RX n) rx).when
    (s.on (OPTC.MIN_READ n) || toSigned 16 (Machine.shown (-3000) rx) < s.rdS (OPT_RX_PWR.MIN n)) (·.put (OPT_RX_PWR.MIN n) (Machine.shown (-3000) rx))).put
      (OPTC.MIN_READ n) 0)

/-- OVERLOAD sets and clears with its hysteresis. -/
def State.overloadShown (n : Nat) (rx : Int) (s : State) : State :=
  (s.when (600 < rx) (·.put (OPT_STAT.OVERLOAD n) 1)).when (rx < 550) (·.put (OPT_STAT.OVERLOAD n) 0)

/-- The AGC's gain where it tracks. -/
def State.gainShown (n gain : Nat) (tracks : Bool) (s : State) : State := s.when tracks (·.put (OPT_AGC_STAT.GAIN n) gain)

/-- OUT_WIN of a frozen AGC. -/
def State.windowShown (n : Nat) (frozen far : Bool) (s : State) : State := s.when frozen (·.flag (OPT_AGC_STAT.OUT_WIN n) far)

/-- The state after an update. -/
def State.monitored (n : Nat) (tx rx : Int) (gain : Nat) (s : State) : State :=
  ((((s.powersShown n tx rx).overloadShown n rx).gainShown n gain (s.phase n = Phase.lit && s.on (OPT_AGC_STAT.SETTLED n) &&
    !s.on (OPT_AGC_STAT.FROZEN n) && !s.on (OPT_STAT.LOS n))).windowShown n (s.on (OPT_AGC_STAT.FROZEN n))
      (300 < (rx - s.rdS (OPTC.FREEZE_LVL n)).natAbs)).when (s.phase n = Phase.lit) (fun u => u.countFor n .opt 0x06 10 none)

theorem exec_opticalPowerMonitorUpdate {tx rx : Int} {gain : Nat} (h : s.answers = true) :
    exec (.opticalPowerMonitorUpdate n tx rx gain) s = .next (s.monitored n tx rx gain) := by
  change Host.Outcome.next (s.when s.answers _) = _
  rw [h]
  rfl

theorem monitor_facts : ∀ n : Fin 4,
    (∀ f ∈ [OPT_TX_MON.PWR n, OPT_RX_PWR.NOW n, OPT_STAT.OVERLOAD n, OPT_AGC_STAT.GAIN n, OPT_AGC_STAT.OUT_WIN n],
      isQuiet f.key = true) ∧
    (∀ f ∈ [OPT_TX_MON.PWR n, OPT_RX_PWR.NOW n], ∀ g ∈ [OPTC.RX n, OPT_RX_PWR.MIN n, OPTC.MIN_READ n, OPT_STAT.OVERLOAD n,
      OPT_AGC_STAT.GAIN n, OPT_AGC_STAT.OUT_WIN n], f.key ≠ g.key) ∧
    (OPT_TX_MON.PWR n).key ≠ (OPT_RX_PWR.NOW n).key ∧
    (∀ f ∈ [OPT_STAT.OVERLOAD n], ∀ g ∈ [OPT_TX_MON.PWR n, OPT_RX_PWR.NOW n, OPTC.RX n, OPT_RX_PWR.MIN n, OPTC.MIN_READ n,
      OPT_AGC_STAT.GAIN n, OPT_AGC_STAT.OUT_WIN n], f.key ≠ g.key) ∧
    (OPT_AGC_STAT.GAIN n).key ≠ (OPT_AGC_STAT.OUT_WIN n).key := by decide

theorem rd_counted {b : Bool} {c : Nat} {who : Option Nat} (hq : isQuiet f.key = true) :
    (s.when b (fun u => u.countFor n .opt 0x06 c who)).rd f = s.rd f :=
  rd_when_same fun _ => rd_countFor_quiet (by omega) (quiet_of_isQuiet hq)

theorem rd_overloadShown_ne {rx : Int} (h : f.key ≠ (OPT_STAT.OVERLOAD n).key) : (s.overloadShown n rx).rd f = s.rd f :=
  (rd_when_same fun _ => rd_put_ne h).trans (rd_when_same fun _ => rd_put_ne h)

theorem shown_lt {floor p : Int} : shown floor p < 2 ^ 16 := by
  unfold shown ofSigned
  split
  · decide
  · have := Int.emod_lt_of_pos p (show (0 : Int) < (2 ^ 16 : Nat) by decide)
    have := Int.emod_nonneg p (show ((2 ^ 16 : Nat) : Int) ≠ 0 by decide)
    omega

theorem powersShown_tx {tx rx : Int} : (s.powersShown n tx rx).rd (OPT_TX_MON.PWR n) = shown (-3500) tx := by
  obtain ⟨-, hne, hnow, -, -⟩ := monitor_facts n
  have ne := hne (OPT_TX_MON.PWR n) (by simp)
  exact (rd_put_ne (ne _ (by simp))).trans ((rd_when_same fun _ => rd_put_ne (ne _ (by simp))).trans ((rd_put_ne (ne _ (by simp))).trans
    ((rd_put_ne hnow).trans ((rd_put_same ..).trans (Nat.mod_eq_of_lt shown_lt)))))

theorem powersShown_rx {tx rx : Int} : (s.powersShown n tx rx).rd (OPT_RX_PWR.NOW n) = shown (-3000) rx := by
  obtain ⟨-, hne, -, -, -⟩ := monitor_facts n
  have ne := hne (OPT_RX_PWR.NOW n) (by simp)
  exact (rd_put_ne (ne _ (by simp))).trans ((rd_when_same fun _ => rd_put_ne (ne _ (by simp))).trans ((rd_put_ne (ne _ (by simp))).trans
    ((rd_put_same ..).trans (Nat.mod_eq_of_lt shown_lt))))

theorem powersShown_ne {tx rx : Int} (h : ∀ g ∈ [OPT_TX_MON.PWR n, OPT_RX_PWR.NOW n, OPTC.RX n, OPT_RX_PWR.MIN n, OPTC.MIN_READ n],
    f.key ≠ g.key) : (s.powersShown n tx rx).rd f = s.rd f :=
  (rd_put_ne (h _ (by simp))).trans ((rd_when_same fun _ => rd_put_ne (h _ (by simp))).trans ((rd_put_ne (h _ (by simp))).trans
    ((rd_put_ne (h _ (by simp))).trans (rd_put_ne (h _ (by simp))))))

theorem overloadShown_on {rx : Int} : (s.overloadShown n rx).on (OPT_STAT.OVERLOAD n) =
    if 600 < rx then true else if rx < 550 then false else s.on (OPT_STAT.OVERLOAD n) := by
  have set : ∀ (u : State) (v : Nat), (u.put (OPT_STAT.OVERLOAD n) v).on (OPT_STAT.OVERLOAD n) = decide (v % 2 = 1) := fun u v => by
    unfold State.on
    rw [rd_put_same]
    rfl
  unfold State.overloadShown
  by_cases hhi : 600 < rx
  · have hlo : ¬ rx < 550 := by omega
    rw [decide_eq_true hhi, decide_eq_false hlo, if_pos hhi]
    exact set s 1
  · rw [decide_eq_false hhi, if_neg hhi]
    by_cases hlo : rx < 550
    · rw [decide_eq_true hlo, if_pos hlo]
      exact set s 0
    · rw [decide_eq_false hlo, if_neg hlo]
      rfl

/-- The fields that an update shows. -/
theorem monitored_shows {tx rx : Int} {gain : Nat} :
    (s.monitored n tx rx gain).rd (OPT_TX_MON.PWR n) = shown (-3500) tx ∧
    (s.monitored n tx rx gain).rd (OPT_RX_PWR.NOW n) = shown (-3000) rx ∧
    (s.monitored n tx rx gain).on (OPT_STAT.OVERLOAD n) =
      (if 600 < rx then true else if rx < 550 then false else s.on (OPT_STAT.OVERLOAD n)) ∧
    (s.on (OPT_AGC_STAT.FROZEN n) = true → (s.monitored n tx rx gain).on (OPT_AGC_STAT.OUT_WIN n) =
      decide (300 < (rx - s.rdS (OPTC.FREEZE_LVL n)).natAbs)) ∧
    (s.phase n = Phase.lit → s.on (OPT_AGC_STAT.SETTLED n) = true → s.on (OPT_AGC_STAT.FROZEN n) = false →
      s.on (OPT_STAT.LOS n) = false → (s.monitored n tx rx gain).rd (OPT_AGC_STAT.GAIN n) = gain % 256) := by
  obtain ⟨hq, hpow, -, hover, hgain⟩ := monitor_facts n
  have later : ∀ f ∈ [OPT_TX_MON.PWR n, OPT_RX_PWR.NOW n, OPT_STAT.OVERLOAD n], f.key ≠ (OPT_AGC_STAT.GAIN n).key →
      f.key ≠ (OPT_AGC_STAT.OUT_WIN n).key → (s.monitored n tx rx gain).rd f = ((s.powersShown n tx rx).overloadShown n rx).rd f :=
    fun f hf hg hw => (rd_counted (hq f (by simp only [List.mem_cons] at hf ⊢; tauto))).trans
      ((rd_when_same fun _ => rd_put_ne hw).trans (rd_when_same fun _ => rd_put_ne hg))
  have pow := fun f hf => hpow f hf
  refine ⟨?_, ?_, ?_, fun hfrozen => ?_, fun hlit hset hfrozen hlos => ?_⟩
  · rw [later _ (by simp) (pow _ (by simp) _ (by simp)) (pow _ (by simp) _ (by simp)), rd_overloadShown_ne (pow _ (by simp) _ (by simp))]
    exact powersShown_tx
  · rw [later _ (by simp) (pow _ (by simp) _ (by simp)) (pow _ (by simp) _ (by simp)), rd_overloadShown_ne (pow _ (by simp) _ (by simp))]
    exact powersShown_rx
  · have hfar := hover (OPT_STAT.OVERLOAD n) (by simp)
    rw [on_congr (later _ (by simp) (hfar _ (by simp)) (hfar _ (by simp))), overloadShown_on,
      on_congr (powersShown_ne fun g hg => hfar g (by simp only [List.mem_cons, List.not_mem_nil, or_false] at hg ⊢; tauto))]
  · unfold State.monitored State.windowShown
    rw [on_congr (rd_counted (hq _ (by simp))), hfrozen]
    exact on_flag_same _ _ Nat.one_pos
  · have htracks : (s.phase n = Phase.lit && s.on (OPT_AGC_STAT.SETTLED n) && !s.on (OPT_AGC_STAT.FROZEN n) &&
        !s.on (OPT_STAT.LOS n)) = true := by simp [hlit, hset, hfrozen, hlos]
    unfold State.monitored
    rw [rd_counted (hq _ (by simp)), htracks]
    exact (rd_when_same fun _ => rd_put_ne hgain).trans (rd_put_same ..)

theorem fieldsKept_monitored {tx rx : Int} {gain : Nat} : FieldsKept [OPT_TX_MON.PWR n, OPT_RX_PWR.NOW n, OPT_RX_PWR.MIN n,
    OPTC.MIN_READ n, OPTC.RX n, OPT_STAT.OVERLOAD n, OPT_AGC_STAT.GAIN n, OPT_AGC_STAT.OUT_WIN n] [] [n] s (s.monitored n tx rx gain) := by
  refine fieldsKept_when_fn (fieldsKept_when_fn (fieldsKept_when_fn (fieldsKept_when_fn (fieldsKept_when_fn
    (fieldsKept_put_of (fieldsKept_when_fn (fieldsKept_putS_of (fieldsKept_put_of (fieldsKept_put_of (.refl _ _ _ s) ?_) ?_) ?_)
      fun _ h => fieldsKept_put_of h ?_) ?_)
    fun _ h => fieldsKept_put_of h ?_) fun _ h => fieldsKept_put_of h ?_) fun _ h => fieldsKept_put_of h ?_)
    fun _ h => fieldsKept_put_of h ?_) fun _ h => fieldsKept_countFor h (by simp)
  all_goals simp

theorem monitored_sameArea {tx rx : Int} {gain : Nat} (x : Area) : SameArea s (s.monitored n tx rx gain) x :=
  Kept.same (A := fun _ => False) (kept_when (kept_when (kept_when (kept_when (kept_when (kept_put _ _ (kept_when (kept_putS
    (kept_put _ _ (kept_put _ _ (.refl s)))) fun _ h => kept_put _ _ h)) fun _ h => kept_put _ _ h) fun _ h => kept_put _ _ h)
    fun _ h => kept_put _ _ h) fun _ h => kept_put _ _ h) fun _ h => kept_countFor h) x id

/-! ## The AGC -/

/-- The AGC has settled. -/
def State.agcShown (n gain : Nat) (s : State) : State := (s.put (OPT_AGC_STAT.SETTLED n) 1).put (OPT_AGC_STAT.GAIN n) gain

section
variable {gain : Nat}

theorem agc_facts : ∀ n : Fin 4, (OPT_AGC_STAT.SETTLED n).key ≠ (OPT_AGC_STAT.GAIN n).key ∧
    (∀ f ∈ [LDS_CH_STATE.STATE n, LDS_CD_EST.VALID n, LDSC.EST_RUN n, LDS_CD_CTRL.SRC n],
      f.key ≠ (OPT_AGC_STAT.SETTLED n).key ∧ f.key ≠ (OPT_AGC_STAT.GAIN n).key) := by decide

theorem agcShown_shows : (s.agcShown n gain).rd (OPT_AGC_STAT.SETTLED n) = 1 ∧
    (s.agcShown n gain).rd (OPT_AGC_STAT.GAIN n) = gain % 256 :=
  ⟨(rd_put_ne (agc_facts n).1).trans (rd_put_same ..), rd_put_same ..⟩

theorem agcShown_rd (hf : f ∈ [LDS_CH_STATE.STATE n, LDS_CD_EST.VALID n, LDSC.EST_RUN n, LDS_CD_CTRL.SRC n]) :
    (s.agcShown n gain).rd f = s.rd f := by
  obtain ⟨hset, hgain⟩ := (agc_facts n).2 f hf
  exact (rd_put_ne hgain).trans (rd_put_ne hset)

theorem exec_agcSettled (hlit : s.phase n = Phase.lit) (hset : s.on (OPT_AGC_STAT.SETTLED n) = false)
    (hfrozen : s.on (OPT_AGC_STAT.FROZEN n) = false) (hlos : s.on (OPT_STAT.LOS n) = false) :
    exec (.agcSettled n gain) s = .next ((s.agcShown n gain).when (s.chSt n = ChSt.acquiring && !s.on (LDS_CD_EST.VALID n) &&
      !s.on (LDSC.EST_RUN n)) (·.coarseStart n)) := by
  change Host.Outcome.next (s.when (decide (s.phase n = Phase.lit) && !s.on (OPT_AGC_STAT.SETTLED n) &&
    !s.on (OPT_AGC_STAT.FROZEN n) && !s.on (OPT_STAT.LOS n)) _) = _
  rw [hset, hfrozen, hlos, decide_eq_true hlit]
  rfl

/-- Elsewhere than in ACQUIRING nothing more happens. -/
theorem exec_agcSettled_still (hlit : s.phase n = Phase.lit) (hset : s.on (OPT_AGC_STAT.SETTLED n) = false)
    (hfrozen : s.on (OPT_AGC_STAT.FROZEN n) = false) (hlos : s.on (OPT_STAT.LOS n) = false) (hst : s.chSt n ≠ ChSt.acquiring) :
    exec (.agcSettled n gain) s = .next (s.agcShown n gain) := by
  rw [exec_agcSettled hlit hset hfrozen hlos, decide_eq_false hst]
  rfl

/-- In ACQUIRING without an estimate the estimator starts. -/
theorem exec_agcSettled_start (hlit : s.phase n = Phase.lit) (hset : s.on (OPT_AGC_STAT.SETTLED n) = false)
    (hfrozen : s.on (OPT_AGC_STAT.FROZEN n) = false) (hlos : s.on (OPT_STAT.LOS n) = false) (hst : s.chSt n = ChSt.acquiring)
    (hvalid : s.on (LDS_CD_EST.VALID n) = false) (hrun : s.on (LDSC.EST_RUN n) = false) :
    exec (.agcSettled n gain) s = .next ((s.agcShown n gain).coarseStart n) := by
  rw [exec_agcSettled hlit hset hfrozen hlos, decide_eq_true hst, hvalid, hrun]
  rfl

end

/-! ## The coarse estimate -/

/-- Fields that the result of a coarse estimate sets. -/
def coarseDoneFields (n : Nat) : List Field :=
  [LDS_CD_EST.EST n, LDS_CD_EST.FINE n, LDS_CD_EST.VALID n, LDS_CD_EST.OOR n, LDSC.EST_RUN n, ISC_STAT.CHIP n] ++ acqBeginFields n

theorem sameFields_coarseDone {l : List Field} {est : Int} (h : SameFields l s t) (hl : ∀ f ∈ coarseDoneFields n, f ∈ l) :
    SameFields l s (t.coarseDone n est) := by
  unfold State.coarseDone
  refine sameFields_when_fn (sameFields_when_fn (sameFields_flag_of (sameFields_flag_of (sameFields_put_of (sameFields_put_of
    (sameFields_put_of h ?_) ?_) ?_) ?_) ?_) fun u hu => sameFields_put_of hu ?_) fun u hu => sameFields_acqBegin hu fun f hf =>
      hl f (List.mem_append_right _ hf)
  all_goals exact hl _ (by simp [coarseDoneFields])

theorem estimate_facts : ∀ n : Fin 4,
    (∀ g ∈ acqBeginFields n, g.key ≠ (LDS_CD_EST.VALID n).key) ∧
    (∀ f ∈ [LDS_CD_EST.OOR n, LDSC.EST_RUN n, ISC_STAT.CHIP n], (LDS_CD_EST.VALID n).key ≠ f.key) ∧
    (∀ g ∈ coarseDoneFields n, g.key ≠ (LDSC.SRC n).key) ∧ (LDSC.SRC n).key ≠ (LDSC.EST_RUN n).key ∧
    (∀ g ∈ LDSC.SRC n :: LDS_CD_EST.VALID n :: (chipFields n ++ coarseDoneFields n),
      g.key ≠ (OPT_AGC_STAT.SETTLED n).key ∧ g.key ≠ (OPT_AGC_STAT.GAIN n).key) := by decide +kernel

/-- The estimate that a coarse estimate gives is valid. -/
theorem coarseDone_valid {est : Int} : (s.coarseDone n est).rd (LDS_CD_EST.VALID n) = 1 := by
  obtain ⟨hacq, hnear, -, -, -⟩ := estimate_facts n
  unfold State.coarseDone
  exact (rd_when_same fun u => sameFields_acqBegin (.refl _ u) (fun _ hf => hf) _ hacq).trans ((rd_when_same fun u =>
    rd_put_ne (hnear _ (by simp))).trans ((rd_flag_ne (hnear _ (by simp))).trans ((rd_flag_ne (hnear _ (by simp))).trans
      (rd_put_same ..))))

/-- The coarse estimator has sampled its source and runs. -/
def State.coarseBegun (n : Nat) (s : State) : State :=
  ((s.when (s.rd (LDS_CD_CTRL.SRC n) ≠ s.rd (LDSC.SRC n)) fun t =>
    (t.put (LDS_CD_EST.VALID n) 0).when (2 ≤ t.rd (ISC_STAT.CHIP n)) (·.chipRest n 1)).put (LDSC.SRC n) (s.rd (LDS_CD_CTRL.SRC n))).put
      (LDSC.EST_RUN n) 1

theorem coarseStart_eq : s.coarseStart n = if s.rd (LDS_CD_CTRL.SRC n) = 1 then
    (s.coarseBegun n).coarseDone n (s.rdS (LDS_CD_CTRL.FIXED n)) else s.coarseBegun n := rfl

theorem src_lt : s.rd (LDS_CD_CTRL.SRC n) < 2 := rd_lt s (LDS_CD_CTRL.SRC n)

theorem coarseBegun_src : (s.coarseBegun n).rd (LDSC.SRC n) = s.rd (LDS_CD_CTRL.SRC n) :=
  (rd_put_ne (estimate_facts n).2.2.2.1).trans ((rd_put_same ..).trans (Nat.mod_eq_of_lt src_lt))

/-- The source as sampled is what the host set. -/
theorem coarseStart_src : (s.coarseStart n).rd (LDSC.SRC n) = s.rd (LDS_CD_CTRL.SRC n) := by
  obtain ⟨-, -, hsrc, -, -⟩ := estimate_facts n
  rw [coarseStart_eq]
  split
  · exact (sameFields_coarseDone (.refl _ _) (fun _ hf => hf) _ hsrc).trans coarseBegun_src
  · exact coarseBegun_src

theorem sameFields_coarseStarted :
    SameFields (LDSC.SRC n :: LDS_CD_EST.VALID n :: (chipFields n ++ coarseDoneFields n)) s (s.coarseStart n) := by
  have hbegun : SameFields (LDSC.SRC n :: LDS_CD_EST.VALID n :: (chipFields n ++ coarseDoneFields n)) s (s.coarseBegun n) := by
    refine sameFields_put_of (sameFields_put_of (sameFields_when_fn (.refl _ s) fun u hu => sameFields_when_fn
      (sameFields_put_of hu ?_) fun v hv => sameFields_chipRest hv fun f hf => ?_) ?_) ?_
    · simp
    · simp [hf]
    · simp
    · simp [coarseDoneFields]
  rw [coarseStart_eq]
  split
  · exact sameFields_coarseDone hbegun fun f hf => by simp [hf]
  · exact hbegun

theorem coarseStart_flow : (s.coarseStart n).flow = s.flow :=
  haveI : Fact ((fun x => x = Area.ch) Area.ch) := ⟨rfl⟩
  (kept_coarseStart (A := fun x => x = Area.ch) (.refl s)).same .flow (by decide)

/-! ## Loss of frame -/

/-- The AGC is released from its freeze. -/
def State.agcFreed (n : Nat) (s : State) : State :=
  s.clear [OPT_AGC_STAT.UNFRZ_PEND n, OPT_AGC_STAT.FROZEN n, OPT_AGC_STAT.OUT_WIN n]

theorem exec_agcUnfreezeTimeout (h : s.on (OPT_AGC_STAT.UNFRZ_PEND n) = true) :
    exec (.agcUnfreezeTimeout n) s = .next ((s.agcFreed n).agcAcquire n) := by
  change Host.Outcome.next (s.when (s.on (OPT_AGC_STAT.UNFRZ_PEND n)) _) = _
  rw [h]
  rfl

theorem freeze_facts : ∀ n : Fin 4,
    ([OPT_AGC_STAT.UNFRZ_PEND n, OPT_AGC_STAT.FROZEN n, OPT_AGC_STAT.OUT_WIN n].map Field.key).Nodup ∧
    (∀ f ∈ [OPT_AGC_STAT.UNFRZ_PEND n, OPT_AGC_STAT.FROZEN n, OPT_AGC_STAT.OUT_WIN n],
      f.key ≠ (OPT_AGC_STAT.SETTLED n).key ∧ f.key ≠ (OPT_STAT.PHASE n).key ∧ f.reset % 2 ^ f.width = 0) := by decide

theorem agcFreed_rd (hf : f ∈ [OPT_AGC_STAT.UNFRZ_PEND n, OPT_AGC_STAT.FROZEN n, OPT_AGC_STAT.OUT_WIN n]) :
    (s.agcFreed n).rd f = 0 :=
  (rd_clear_same hf (freeze_facts n).1).trans ((freeze_facts n).2 f hf).2.2

theorem agcAcquire_ne (h : f.key ≠ (OPT_AGC_STAT.SETTLED n).key) : (s.agcAcquire n).rd f = s.rd f := rd_when_same fun _ => rd_put_ne h

/-- A lit channel's AGC that is not frozen acquires again. -/
theorem agcAcquire_settled (hlit : s.phase n = Phase.lit) (hfrozen : s.on (OPT_AGC_STAT.FROZEN n) = false) :
    (s.agcAcquire n).rd (OPT_AGC_STAT.SETTLED n) = 0 := by
  unfold State.agcAcquire
  rw [decide_eq_true hlit, hfrozen]
  exact rd_put_same ..

theorem agcFreed_settled (hlit : s.phase n = Phase.lit) : ((s.agcFreed n).agcAcquire n).rd (OPT_AGC_STAT.SETTLED n) = 0 := by
  refine agcAcquire_settled ?_ ?_
  · unfold State.phase at hlit ⊢
    rwa [show (s.agcFreed n).rd (OPT_STAT.PHASE n) = s.rd (OPT_STAT.PHASE n) from
      rd_clear_ne fun g hg => ((freeze_facts n).2 g hg).2.1]
  · unfold State.on
    rw [agcFreed_rd (by simp)]
    rfl

/-! ## Loss of signal -/

/-- Loss of signal is declared. -/
def State.lightLost (n : Nat) (s : State) : State :=
  ((((s.put (OPT_STAT.LOS n) 1).put (CNV_STAT.FE_MISMATCH n) 0).bump (OPT_CNT.LOS n)).raiseCh n 0x01).count n .opt 0x01

theorem exec_opticalLosDeclare (hans : s.answers = true) (hlos : s.on (OPT_STAT.LOS n) = false) :
    exec (.opticalLosDeclare n) s = .next ((s.lightLost n).when (s.holdsLock n) (·.setCh n ChSt.acquiring 0x3)) := by
  change Host.Outcome.next (s.when (s.answers && !s.on (OPT_STAT.LOS n)) _) = _
  rw [hans, hlos]
  rfl

theorem los_facts : ∀ n : Fin 4,
    (∀ f ∈ [OPT_STAT.LOS n, CNV_STAT.FE_MISMATCH n, OPT_CNT.LOS n], isQuiet f.key = true ∧ apart (acquiringFields n) f = true) ∧
    ([OPT_STAT.LOS n, CNV_STAT.FE_MISMATCH n, OPT_CNT.LOS n].map Field.key).Nodup ∧
    notPending ([OPT_STAT.LOS n, CNV_STAT.FE_MISMATCH n, OPT_CNT.LOS n] ++ acquiringFields n) = true ∧
    (∀ m : Fin 4, m.val ≠ n →
      apart ([OPT_STAT.LOS n, CNV_STAT.FE_MISMATCH n, OPT_CNT.LOS n] ++ acquiringFields n) (LDS_CH_STATE.STATE m) = true ∧
      apart ([OPT_STAT.LOS n, CNV_STAT.FE_MISMATCH n, OPT_CNT.LOS n] ++ acquiringFields n) (OPT_STAT.PHASE m) = true) := by decide

theorem lightLost_shows : (s.lightLost n).rd (OPT_STAT.LOS n) = 1 ∧ (s.lightLost n).rd (OPT_CNT.LOS n) = s.oneMore (OPT_CNT.LOS n) ∧
    (s.lightLost n).rd (CNV_STAT.FE_MISMATCH n) = 0 ∧ (s.lightLost n).rd (IRQ_PEND (sourceOf n 1)) = 1 := by
  obtain ⟨hq, hkeys, -, -⟩ := los_facts n
  simp only [List.map_cons, List.map_nil, List.nodup_cons, List.mem_cons, List.not_mem_nil, or_false, not_or] at hkeys
  obtain ⟨⟨hfe, hcnt⟩, hfecnt, -⟩ := hkeys
  have later : ∀ g ∈ [OPT_STAT.LOS n, CNV_STAT.FE_MISMATCH n, OPT_CNT.LOS n], (s.lightLost n).rd g =
      (((s.put (OPT_STAT.LOS n) 1).put (CNV_STAT.FE_MISMATCH n) 0).bump (OPT_CNT.LOS n)).rd g := fun g hg =>
    (rd_count_quiet (by omega) (quiet_of_isQuiet (hq g hg).1)).trans (rd_raiseCh_quiet (by decide) (quiet_of_isQuiet (hq g hg).1))
  refine ⟨?_, ?_, ?_, ?_⟩
  · rw [later _ (by simp)]
    exact (rd_bump_ne hcnt).trans ((rd_put_ne hfe).trans (rd_put_same ..))
  · rw [later _ (by simp), rd_bump_same]
    unfold State.oneMore
    rw [rd_put_ne (Ne.symm hfecnt), rd_put_ne (Ne.symm hcnt)]
  · rw [later _ (by simp)]
    exact (rd_bump_ne hfecnt).trans (rd_put_same ..)
  · unfold State.lightLost
    exact pendMono_countFor (by omega) _ (sourceOf_lt (by decide)) (raiseCh_pend (by decide))

theorem fieldsKept_lightLost :
    FieldsKept [OPT_STAT.LOS n, OPT_CNT.LOS n, CNV_STAT.FE_MISMATCH n] [sourceOf n 1] [n] s (s.lightLost n) := by
  refine fieldsKept_count (fieldsKept_raiseCh (fieldsKept_bump_of (fieldsKept_put_of (fieldsKept_put_of (.refl _ _ _ s) ?_) ?_) ?_)
    ?_) ?_
  all_goals simp

theorem ChannelLocal.lightLost {r : List (Nat × Nat)} {u : State} (h : ChannelLocal n r u s)
    (hl : Reaches r [OPT_STAT.LOS n, CNV_STAT.FE_MISMATCH n, OPT_CNT.LOS n]) : ChannelLocal n r u (s.lightLost n) :=
  ((((h.put (hl _ (by simp))).put (hl _ (by simp))).bump (hl _ (by simp))).raiseCh (by decide)).count (by omega)

/-- A channel that holds lock loses its signal. -/
theorem opticalLosDeclare_locked (hans : s.answers = true) (hlos : s.on (OPT_STAT.LOS n) = false) (hlock : s.holdsLock n = true) :
    ∃ t, exec (.opticalLosDeclare n) s = .next t ∧ t.rd (OPT_STAT.LOS n) = 1 ∧ t.rd (OPT_CNT.LOS n) = s.oneMore (OPT_CNT.LOS n) ∧
      t.rd (IRQ_PEND (sourceOf n 1)) = 1 ∧ t.chSt n = ChSt.acquiring ∧ t.rd (LDS_CH_STATE.CAUSE n) = 3 ∧
      (t.flow.get n).rxRes = 0 ∧ OthersKept n s t := by
  obtain ⟨hquiet, -, hpend, hothers⟩ := los_facts n
  obtain ⟨hlos1, hcnt, -, hirq⟩ := lightLost_shows (s := s) (n := n)
  have hlocal := ChannelLocal.setAcquiring (cause := 0x3) (.start (acquiring_facts n).1) n.isLt (reaches_of fun _ h => h)
    (t := s.lightLost n) (s := s.lightLost n)
  have hall := ChannelLocal.setAcquiring (cause := 0x3) ((ChannelLocal.start (s := s) hpend).lightLost
    (reaches_of fun _ h => List.mem_append_left _ h)) n.isLt (reaches_of fun _ h => List.mem_append_right _ h)
  have hshows := setCh_shows (n := n) (st := ChSt.acquiring) (cause := 0x3) (s := s.lightLost n) (by decide)
  refine ⟨(s.lightLost n).setCh n ChSt.acquiring 0x3, ?_, ?_, ?_, ?_, hshows.1, hshows.2.1, setAcquiring_rxRes, hall.othersKept hothers⟩
  · rw [exec_opticalLosDeclare hans hlos, hlock]
    rfl
  · rw [hlocal.read (hquiet _ (by simp)).2, hlos1]
  · rw [hlocal.read (hquiet _ (by simp)).2, hcnt]
  · exact hlocal.pend _ (sourceOf_lt (by decide)) hirq

/-! ## The end of a loss of signal -/

/-- The signal is back. -/
def State.losEnded (n : Nat) (s : State) : State := ((s.put (OPT_STAT.LOS n) 0).raiseCh n 0x01).agcAcquire n

theorem exec_opticalLosClear (h : s.on (OPT_STAT.LOS n) = true) :
    exec (.opticalLosClear n) s = .next ((s.losEnded n).acqResume n) := by
  change Host.Outcome.next (s.when (s.on (OPT_STAT.LOS n)) _) = _
  rw [h, when_true]
  rfl

theorem sameFields_warmStart {l : List Field} (h : SameFields l s t) (hl : ∀ f ∈ warmFields n, f ∈ l) :
    SameFields l s (t.warmStart n) := by
  have hcold : SameFields l s ((t.stagesStop n).put (LDS_ACQ_STAT.COLD n) 0) :=
    sameFields_put_of (sameFields_clear h fun f hf => hl f (by
      simp only [List.mem_cons, List.not_mem_nil, or_false] at hf
      rcases hf with rfl | rfl | rfl | rfl | rfl | rfl <;> simp [warmFields])) (hl _ (by simp [warmFields]))
  have hwait : LDSC.WAIT n ∈ l := hl _ (by simp [warmFields])
  have hstep : LDS_ACQ_STAT.STEP n ∈ l := hl _ (by simp [warmFields])
  unfold State.warmStart
  dsimp only
  split
  · exact sameFields_put_of (sameFields_put_of hcold hwait) hstep
  · split
    · exact sameFields_put_of (sameFields_put_of (sameFields_clear hcold fun f hf => hl f (by
        simp only [List.mem_cons, List.not_mem_nil, or_false] at hf
        rcases hf with rfl | rfl | rfl | rfl <;> simp [warmFields])) hwait) hstep
    · exact sameFields_put_of (sameFields_put_of hcold hwait) hstep

theorem sameFields_acqResume {l : List Field} (h : SameFields l s t) (hl : ∀ f ∈ warmFields n, f ∈ l) :
    SameFields l s (t.acqResume n) := sameFields_when_fn h fun _ hu => sameFields_warmStart hu hl

theorem resume_facts : ∀ n : Fin 4,
    (∀ g ∈ warmFields n, g.key ≠ (OPT_STAT.LOS n).key ∧ g.key ≠ (OPT_AGC_STAT.SETTLED n).key ∧
      g.key ≠ (IRQ_PEND (sourceOf n 1)).key) ∧
    (OPT_STAT.LOS n).key ≠ (OPT_AGC_STAT.SETTLED n).key ∧ (IRQ_PEND (sourceOf n 1)).key ≠ (OPT_AGC_STAT.SETTLED n).key ∧
    isQuiet (OPT_STAT.LOS n).key = true ∧
    (∀ f ∈ [LDS_CH_STATE.STATE n, LDSC.WAIT n, CNV_STAT.RX_LOL n, LDSC.ABSENT n, OPT_STAT.PHASE n, OPT_AGC_STAT.FROZEN n],
      f.key ≠ (OPT_AGC_STAT.SETTLED n).key ∧ isQuiet f.key = true ∧ f.key ≠ (OPT_STAT.LOS n).key) := by decide

theorem losAlarm_rd (hf : f ∈ [LDS_CH_STATE.STATE n, LDSC.WAIT n, CNV_STAT.RX_LOL n, LDSC.ABSENT n, OPT_STAT.PHASE n,
    OPT_AGC_STAT.FROZEN n]) : ((s.put (OPT_STAT.LOS n) 0).raiseCh n 0x01).rd f = s.rd f := by
  obtain ⟨-, hq, hlos⟩ := (resume_facts n).2.2.2.2 f hf
  exact (rd_raiseCh_quiet (by decide) (quiet_of_isQuiet hq)).trans (rd_put_ne hlos)

theorem losEnded_rd (hf : f ∈ [LDS_CH_STATE.STATE n, LDSC.WAIT n, CNV_STAT.RX_LOL n, LDSC.ABSENT n, OPT_STAT.PHASE n,
    OPT_AGC_STAT.FROZEN n]) : (s.losEnded n).rd f = s.rd f :=
  (agcAcquire_ne ((resume_facts n).2.2.2.2 f hf).1).trans (losAlarm_rd hf)

theorem losEnded_los : (s.losEnded n).rd (OPT_STAT.LOS n) = 0 := by
  obtain ⟨-, hne, -, hq, -⟩ := resume_facts n
  exact (agcAcquire_ne hne).trans ((rd_raiseCh_quiet (by decide) (quiet_of_isQuiet hq)).trans (rd_put_same ..))

/-- An acquisition that waited for the signal stands at step 2. -/
theorem losEnded_step (hst : s.chSt n = ChSt.acquiring) (hwait : s.on (LDSC.WAIT n) = true) (hlol : s.on (CNV_STAT.RX_LOL n) = false)
    (habsent : s.on (LDSC.ABSENT n) = false) : ((s.losEnded n).acqResume n).rd (LDS_ACQ_STAT.STEP n) = 2 := by
  have hst' : (s.losEnded n).chSt n = ChSt.acquiring := by
    unfold State.chSt at hst ⊢
    rwa [losEnded_rd (by simp)]
  have hlos : (s.losEnded n).on (OPT_STAT.LOS n) = false := by
    unfold State.on
    rw [losEnded_los]
    rfl
  unfold State.acqResume
  rw [decide_eq_true hst', on_congr (losEnded_rd (by simp)), hwait,
    Bool.and_true, when_true]
  unfold State.warmStart
  dsimp only
  rw [hlos, on_congr (losEnded_rd (f := CNV_STAT.RX_LOL n) (by simp)), hlol, on_congr (losEnded_rd (f := LDSC.ABSENT n) (by simp)), habsent]
  exact rd_put_same ..

theorem opticalLosClear_resumes (h : s.on (OPT_STAT.LOS n) = true) :
    ∃ t, exec (.opticalLosClear n) s = .next t ∧ t.rd (OPT_STAT.LOS n) = 0 ∧ t.rd (IRQ_PEND (sourceOf n 1)) = 1 ∧
      (s.phase n = Phase.lit → s.on (OPT_AGC_STAT.FROZEN n) = false → t.rd (OPT_AGC_STAT.SETTLED n) = 0) ∧
      (s.chSt n = ChSt.acquiring → s.on (LDSC.WAIT n) = true → s.on (CNV_STAT.RX_LOL n) = false →
        s.on (LDSC.ABSENT n) = false → t.rd (LDS_ACQ_STAT.STEP n) = 2) ∧
      t.ch = s.ch ∧ t.flow = s.flow ∧
      FieldsKept (OPT_STAT.LOS n :: OPT_AGC_STAT.SETTLED n :: warmFields n) [sourceOf n 1] [4] s t := by
  obtain ⟨hwarm, -, hirq, -, -⟩ := resume_facts n
  have hres : SameFields (warmFields n) (s.losEnded n) ((s.losEnded n).acqResume n) := sameFields_acqResume (.refl _ _) fun _ hf => hf
  have harea : ∀ x, SameArea s ((s.losEnded n).acqResume n) x := fun x => (kept_acqResume (kept_agcAcquire
    (kept_raiseCh (kept_put _ _ (Kept.refl (A := fun _ => False) s))))).same x id
  refine ⟨(s.losEnded n).acqResume n, exec_opticalLosClear h, ?_, ?_, fun hlit hfrozen => ?_, losEnded_step, harea .ch, harea .flow, ?_⟩
  · rw [hres _ fun g hg => (hwarm g hg).1, losEnded_los]
  · rw [hres _ fun g hg => (hwarm g hg).2.2]
    exact (agcAcquire_ne hirq).trans (raiseCh_pend (by decide))
  · rw [hres _ fun g hg => (hwarm g hg).2.1]
    refine agcAcquire_settled ?_ ?_
    · unfold State.phase at hlit ⊢
      rwa [losAlarm_rd (by simp)]
    · rw [on_congr (losAlarm_rd (by simp)), hfrozen]
  · have hended : FieldsKept (OPT_STAT.LOS n :: OPT_AGC_STAT.SETTLED n :: warmFields n) [sourceOf n 1] [4] s (s.losEnded n) := by
      unfold State.losEnded State.agcAcquire
      exact fieldsKept_when_fn (fieldsKept_raiseCh (fieldsKept_put_of (.refl _ _ _ s) (by simp)) (by simp)) fun u hu =>
        fieldsKept_put_of hu (by simp)
    have hmono := hres.mono (m := OPT_STAT.LOS n :: OPT_AGC_STAT.SETTLED n :: warmFields n) fun f hf => by simp [hf]
    exact hended.trans hmono.kept

end

/-- Settles O17, from what each event sets, and the fall back of a channel that loses its signal. -/
theorem receivedLightFollowed : Obligations.ReceivedLightFollowed := by
  unfold Obligations.ReceivedLightFollowed
  refine ⟨fun s n tx rx gain hans => ?_, fun s n gain hlit hset hfrozen hlos hst => ?_,
    fun s n gain hlit hset hfrozen hlos hst hvalid hrun => ?_, fun s n hpend => ?_, fun s n hans hlos hlock => ?_,
    fun s n hans hlos hlock => opticalLosDeclare_locked hans hlos hlock, fun s n hlos => opticalLosClear_resumes hlos⟩
  · obtain ⟨htx, hrx, hover, hwin, hgain⟩ := monitored_shows (s := s) (n := n) (tx := tx) (rx := rx) (gain := gain)
    exact ⟨s.monitored n tx rx gain, exec_opticalPowerMonitorUpdate hans, htx, hrx, hover, hwin, hgain, monitored_sameArea .ch,
      monitored_sameArea .flow, fieldsKept_monitored⟩
  · exact ⟨s.agcShown n gain, exec_agcSettled_still hlit hset hfrozen hlos hst, agcShown_shows.1, agcShown_shows.2, rfl, rfl,
      sameFields_put_of (sameFields_put_of (.refl _ s) (by simp)) (by simp)⟩
  · have hkept := (estimate_facts n).2.2.2.2
    have hsrc : (s.agcShown n gain).rd (LDS_CD_CTRL.SRC n) = s.rd (LDS_CD_CTRL.SRC n) := agcShown_rd (by simp)
    refine ⟨(s.agcShown n gain).coarseStart n, exec_agcSettled_start hlit hset hfrozen hlos hst hvalid hrun, ?_, ?_, ?_,
      fun hmeasured => ?_, fun hfixed => ?_, coarseStart_flow⟩
    · rw [sameFields_coarseStarted _ fun g hg => (hkept g hg).1, agcShown_shows.1]
    · rw [sameFields_coarseStarted _ fun g hg => (hkept g hg).2, agcShown_shows.2]
    · rw [coarseStart_src, hsrc]
    · have hoff : (s.agcShown n gain).on (LDS_CD_CTRL.SRC n) = false := by
        have := src_lt (s := s) (n := n)
        rw [on_congr hsrc]
        unfold State.on
        exact decide_eq_false (by omega)
      have hnone : (s.agcShown n gain).rd (LDS_CD_EST.VALID n) = 0 := by
        have hlt : s.rd (LDS_CD_EST.VALID n) < 2 := rd_lt s (LDS_CD_EST.VALID n)
        unfold State.on at hvalid
        rw [agcShown_rd (by simp)]
        have := of_decide_eq_false hvalid
        omega
      obtain ⟨hrun', hvalid'⟩ := coarseStart_shows hoff hnone
      refine ⟨hrun', ?_⟩
      unfold State.on
      rw [hvalid']
      rfl
    · rw [coarseStart_eq, hsrc, if_pos hfixed]
      unfold State.on
      rw [coarseDone_valid]
      rfl
  · have hfreed : ∀ f ∈ [OPT_AGC_STAT.UNFRZ_PEND n, OPT_AGC_STAT.FROZEN n, OPT_AGC_STAT.OUT_WIN n],
        ((s.agcFreed n).agcAcquire n).rd f = 0 := fun f hf => (agcAcquire_ne ((freeze_facts n).2 f hf).1).trans (agcFreed_rd hf)
    refine ⟨(s.agcFreed n).agcAcquire n, exec_agcUnfreezeTimeout hpend, hfreed _ (by simp), hfreed _ (by simp), hfreed _ (by simp),
      agcFreed_settled, ?_, ?_, sameFields_when_fn (sameFields_clear (.refl _ s) fun f hf => ?_) fun u hu => sameFields_put_of hu ?_⟩
    · exact (kept_agcAcquire (A := fun _ => False) (kept_clear (.refl s))).same .ch id
    · exact (kept_agcAcquire (A := fun _ => False) (kept_clear (.refl s))).same .flow id
    · simp only [List.mem_cons, List.not_mem_nil, or_false] at hf ⊢
      tauto
    · simp
  · obtain ⟨hlos1, hcnt, hfe, hirq⟩ := lightLost_shows (s := s) (n := n)
    refine ⟨s.lightLost n, ?_, hlos1, hcnt, hfe, hirq, ?_, ?_, fieldsKept_lightLost⟩
    · rw [exec_opticalLosDeclare hans hlos, hlock]
      rfl
    · exact (kept_count (A := fun _ => False) (kept_raiseCh (kept_bump (kept_put _ _ (kept_put _ _ (.refl s)))))).same .ch id
    · exact (kept_count (A := fun _ => False) (kept_raiseCh (kept_bump (kept_put _ _ (kept_put _ _ (.refl s)))))).same .flow id

end Sys2Proof.Machine
end

section
/-! SUPPORT. A channel leaves service for DARK or FENCED: what every block does is an operation of that channel (R33, R60, R82, R148,
R220, R272, R294). -/

set_option Elab.async false

namespace Sys2Proof.Machine

/-! ## Registers that each step writes -/

def rszDarkFields (n : Nat) : List Field := LDS_RSZ_STAT.INDOUBT n :: rszFailFields n

def rollFields (n : Nat) : List Field := [SEC_ROLL_STAT.STATE n, SEC_ROLL_STAT.CAUSE n, SEC_STAT.ROLLF_EV n]

def tribFields (n : Nat) : List Field := cmtFields n ++ [TRB_STAT.ACTIVE n, TRB_STAT.ENC_SLOTS n, HST_STAT.REPL_EV n]

/-- Registers that follow the framed values. -/
def framedFields (n : Nat) : List Field :=
  loadTxFields n ++ loadRxFields n ++ chipFields n ++
    [LDS_CD_EST.OOR n, LDS_TX_STAT.BOOST_LIM n, LDS_TX_STAT.SKEW_LIM n, LDS_TX_STAT.PEND n]

/-- Registers of the receive DSP in DARK. -/
def dspFields (n : Nat) : List Field :=
  stageFields n ++ [LDS_CH_STATE.CONVERGED n, LDS_EQ_STAT.WINOK n, LDS_CD_EST.VALID n, LDS_ACQ_STAT.STEP n, LDS_ACQ_STAT.COLD n,
    LDS_CR_STAT.FOFS n, LDS_CLK_STAT.PPM n, LDS_CD_EST.FINE n]

def iscDarkFields (n : Nat) : List Field := ISC_HSTAT.HTX_BUSY n :: chipFields n

def agcFields (n : Nat) : List Field :=
  [OPT_AGC_STAT.GAIN n, OPT_AGC_STAT.OUT_WIN n, OPT_AGC_STAT.UNFRZ_PEND n, OPT_AGC_STAT.SETTLED n, OPT_AGC_STAT.FROZEN n]

/-- Registers that a channel writes as it leaves service. -/
def leaveFields (n : Nat) : List Field :=
  rszDarkFields n ++ rollFields n ++ flushFields n ++ tribFields n ++ framedFields n ++ lofFields n ++ dspFields n ++
    iscDarkFields n ++ agcFields n ++ [LDS_TX_STAT.MUTED n, FAB_SLACK_C.NOW n]

section
variable {n cause : Nat} {r : List (Nat × Nat)} {s t : State}

/-- A cell of the model's own takes its reset value. -/
theorem Reaches.sub {l m : List Field} (h : Reaches r l) (hm : ∀ f ∈ m, f ∈ l) : Reaches r m := fun f hf => h f (hm f hf)

theorem ChannelLocal.rszDark (h : ChannelLocal n r s t) (hl : Reaches r (rszDarkFields n)) : ChannelLocal n r s (t.rszDark n cause) :=
  (h.when fun _ hu => hu.rszFail fun f hf => hl f (List.mem_cons_of_mem _ hf)).put (hl _ (List.mem_cons_self ..))

theorem ChannelLocal.rollFail (h : ChannelLocal n r s t) (hl : Reaches r (rollFields n)) : ChannelLocal n r s (t.rollFail n cause) :=
  ((((h.put (hl _ (by simp [rollFields]))).put (hl _ (by simp [rollFields]))).put (hl _ (by simp [rollFields]))).raiseCh
    (by decide)).withdraw

theorem ChannelLocal.trbStat (h : ChannelLocal n r s t) (hl : Reaches r (tribFields n)) : ChannelLocal n r s (t.trbStat n) :=
  (h.put (hl _ (by simp [tribFields]))).put (hl _ (by simp [tribFields]))

theorem ChannelLocal.tribsDark (h : ChannelLocal n r s t) (hn : n < 4) (hl : Reaches r (tribFields n)) :
    ChannelLocal n r s (t.tribsDark n) := by
  unfold State.tribsDark
  refine ChannelLocal.hstRefresh (.trbStat (.each (.each (.each (.each (.flowOp (.when h fun u hu => ?_) hn) fun k hk u hu => ?_)
    fun _ _ _ hu => ?_) fun _ _ _ hu => ?_) fun _ _ _ hu => ?_) hl) hn ?_
  · exact hu.cmtRefuse hn (hl.sub fun f hf => by simp [tribFields, hf])
  · obtain ⟨hstate, hcarry⟩ := trib_reach (r := r) hn (tribs_lt hk)
    exact (((hu.put hstate).put hcarry).put (cell_reach ..)).put (cell_reach ..)
  · exact hu.put (cell_reach ..)
  · exact hu.put (cell_reach ..)
  · exact hu.put (cell_reach ..)
  · exact hl.sub fun f hf => by simp_all [tribFields]

/-! ## Framed values -/

theorem inForce_reach (f : Field) : reach r f.inForce.key = true := by
  refine reach_of_le ?_
  simp only [tileKeys, Field.inForce, Field.key]
  omega

theorem ChannelLocal.skewLimit {l : Nat} (h : ChannelLocal n r s t) (hl : Reaches r [LDS_TX_STAT.SKEW_LIM n]) :
    ChannelLocal n r s (t.skewLimit n l) := h.putBit (hl _ (by simp))

theorem ChannelLocal.boostLimit (h : ChannelLocal n r s t) (hl : Reaches r [LDS_TX_STAT.BOOST_LIM n]) :
    ChannelLocal n r s (t.boostLimit n) := h.put (hl _ (by simp))

theorem ChannelLocal.takeFramed {f : Field} {v : Nat} (h : ChannelLocal n r s t) (hn : n < 4) (hl : Reaches r (framedFields n)) :
    ChannelLocal n r s (t.takeFramed n f v) := by
  have hput := h.put (v := v) (inForce_reach f)
  have hskew : Reaches r [LDS_TX_STAT.SKEW_LIM n] := hl.sub (by simp [framedFields])
  unfold State.takeFramed
  dsimp only
  split
  · exact (((hput.loadTx (hl.sub fun f hf => by simp [framedFields, hf])).when fun _ hu =>
      hu.loadRx hn (hl.sub fun f hf => by simp [framedFields, hf])).oorRefresh (hl.sub (by simp [framedFields]))).iscMode
        (hl.sub fun f hf => by simp [framedFields, hf])
  · split
    · exact hput.boostLimit (hl.sub (by simp [framedFields]))
    · exact (((hput.when fun _ hu => hu.skewLimit hskew).when fun _ hu => hu.skewLimit hskew).when fun _ hu => hu.skewLimit hskew).when
        fun _ hu => hu.skewLimit hskew

theorem ChannelLocal.applyFramed (h : ChannelLocal n r s t) (hn : n < 4) (hl : Reaches r (framedFields n)) :
    ChannelLocal n r s (t.applyFramed n) :=
  ChannelLocal.put (ChannelLocal.each h.onChan fun _ _ _ hu => hu.takeFramed hn hl) (hl _ (by simp [framedFields]))

/-! ## The receiver, the supervisory channel and the AGC -/

theorem ChannelLocal.ldsDark (h : ChannelLocal n r s t) (hl : Reaches r (dspFields n)) : ChannelLocal n r s (t.ldsDark n) := by
  have hstopped := ((h.unconverge (hl.sub (by simp [dspFields]))).unagree).stagesStop (hl.sub fun f hf => by simp [dspFields, hf])
  refine ChannelLocal.onChan (hstopped.clear fun f hf => ?_)
  simp only [List.mem_cons, List.not_mem_nil, or_false] at hf
  rcases hf with rfl | rfl | rfl | rfl | rfl | rfl | rfl | rfl | rfl | rfl
  case inr.inr.inr.inl | inr.inr.inr.inr.inl | inr.inr.inr.inr.inr.inl | inr.inr.inr.inr.inr.inr.inl => exact cell_reach ..
  all_goals exact hl _ (by simp [dspFields])

theorem ChannelLocal.iscDark (h : ChannelLocal n r s t) (hl : Reaches r (iscDarkFields n)) : ChannelLocal n r s (t.iscDark n) :=
  ((h.chipRest (hl.sub fun f hf => by simp [iscDarkFields, hf])).onChan.put (hl _ (by simp [iscDarkFields]))).put
    (hl _ (by simp [iscDarkFields, chipFields]))

theorem ChannelLocal.agcRest (h : ChannelLocal n r s t) (hl : Reaches r (agcFields n)) : ChannelLocal n r s (t.agcRest n) := h.clear hl

/-- All that a channel does as it leaves service. -/
theorem ChannelLocal.leaveService (h : ChannelLocal n r s t) (hn : n < 4) (hl : Reaches r (leaveFields n)) :
    ChannelLocal n r s (t.leaveService n cause) := by
  have hsub : ∀ {m : List Field}, (∀ f ∈ m, f ∈ leaveFields n) → Reaches r m := hl.sub
  unfold State.leaveService
  refine ChannelLocal.put (.put (.agcRest (.iscDark (.ldsDark (.clearAlign (.put (.applyFramed (.tribsDark (.flushReceive (.flushTransmit
    (.when (.rszDark h ?_) fun u hu => hu.rollFail ?_) hn) hn ?_) hn ?_) hn ?_) (cell_reach ..)) ?_) ?_) ?_) ?_) ?_) ?_
  case refine_10 | refine_11 => exact hl _ (by simp [leaveFields])
  all_goals exact hsub fun f hf => by simp [leaveFields, hf]

end

end Sys2Proof.Machine
end

section
/-! SUPPORT. A whole-channel fence: the light goes out, the bias loops hold, the channel leaves service and reports FENCED (R41, R90,
R319, R333), and nothing of it is left in flight (R60). -/

set_option Elab.async false

namespace Sys2Proof.Machine

/-! ## Registers that each step writes -/

def biasFields (n : Nat) : List Field := [MON_BIAS_STAT.STATE n, MON_BIAS_STAT.LOCK n]

/-- Registers that follow the light as it goes out. -/
def lightFields (n : Nat) : List Field := [OPT_STAT.ON_FREQ n, CNV_STAT.FE_MISMATCH n] ++ biasFields n

def darkenFields (n : Nat) : List Field := [OPT_STAT.ENA_PEND n, OPT_STAT.PHASE n] ++ lightFields n

def calLogFields : List Field := [CAL_LOG_PTR.PTR, CAL_LOG_PTR.WRAP]

def pauseFields : List Field := [CAL_RUN_STAT.STATE, CAL_RUN_STAT.PAUSE] ++ calLogFields

/-- Registers that a channel writes as it becomes FENCED. -/
def fencedFields (n : Nat) : List Field := leaveFields n ++ pauseFields ++ reportFields n ++ biasFields n

/-- Registers that a whole-channel fence writes. -/
def fenceFields (n : Nat) : List Field := FABC.COND n :: (darkenFields n ++ fencedFields n)

section
variable {n cause : Nat} {r : List (Nat × Nat)} {s t : State}

theorem ChannelLocal.put64 {a v : Nat} (h : ChannelLocal n r s t) (hlo : reach r (tableWord a).key = true)
    (hhi : reach r (tableWord (a + 4)).key = true) : ChannelLocal n r s (t.put64 a v) := (h.put hlo).put hhi

theorem ChannelLocal.calLog {event scope qty index : Nat} {value limit : Int} (h : ChannelLocal n r s t) (hl : Reaches r calLogFields) :
    ChannelLocal n r s (t.calLog event scope qty index value limit) := by
  have hword : ∀ k ≤ 12, reach r (tableWord (0x8A00000 + 16 * t.rd CAL_LOG_PTR.PTR + k)).key = true := fun k hk => by
    have hptr := calLogPtr_lt (s := t)
    refine reach_of_table ?_ ?_
    all_goals
      simp only [lowEnd, tileKeys, Field.key, tableWord]
      omega
  unfold State.calLog
  refine ChannelLocal.addWrap (.when (.put64 (.put64 h (hword 0 (by omega)) (hword 4 (by omega))) (hword 8 (by omega))
    (hword 12 (by omega))) fun _ hu => hu.put ?_) ?_
  all_goals exact hl _ (by simp [calLogFields])

theorem ChannelLocal.calPause {why : Nat} (h : ChannelLocal n r s t) (hl : Reaches r pauseFields) :
    ChannelLocal n r s (t.calPause n why) := by
  unfold State.calPause
  exact h.when fun _ hu => ((hu.put (hl _ (by simp [pauseFields]))).put (hl _ (by simp [pauseFields]))).calLog
    (hl.sub fun f hf => List.mem_append_right _ hf)

theorem ChannelLocal.biasShow (h : ChannelLocal n r s t) (hl : Reaches r (biasFields n)) : ChannelLocal n r s (t.biasShow n) :=
  (h.put (hl _ (by simp [biasFields]))).put (hl _ (by simp [biasFields]))

theorem ChannelLocal.biasEval (h : ChannelLocal n r s t) (hl : Reaches r (biasFields n)) : ChannelLocal n r s (t.biasEval n) := by
  unfold State.biasEval
  split
  · refine ChannelLocal.biasShow (h.each fun b _ u hu => (hu.put (cell_reach ..)).clear fun f hf => ?_) hl
    simp only [List.mem_cons, List.not_mem_nil, or_false] at hf
    rcases hf with rfl | rfl | rfl | rfl | rfl <;> exact cell_reach ..
  · exact ChannelLocal.biasShow (h.each fun b _ u hu => hu.put (cell_reach ..)) hl

/-- The light is out: what follows it. -/
def State.lightOff (n : Nat) (s : State) : State :=
  (((((s.put (OPT_STAT.ON_FREQ n) 0).put (OPTC.RAMPING n) 0).putS (OPTC.POWER n) (-35000000)).put (OPTC.TUNE_FAILS n) 0).put
    (CNV_STAT.FE_MISMATCH n) 0).biasEval n

theorem darken_eq : s.darken n = ((s.when (s.phase n = Phase.rampDown && s.rd (OPTC.VOTING n) = 0)
    (·.put (OPT_STAT.ENA_PEND n) 0)).put (OPT_STAT.PHASE n) Phase.off).lightOff n := rfl

theorem ChannelLocal.lightOff (h : ChannelLocal n r s t) (hl : Reaches r (lightFields n)) : ChannelLocal n r s (t.lightOff n) :=
  (((((h.put (hl _ (by simp [lightFields]))).put (cell_reach ..)).putS (cell_reach ..)).put (cell_reach ..)).put
    (hl _ (by simp [lightFields]))).biasEval (hl.sub fun f hf => List.mem_append_right _ hf)

theorem ChannelLocal.darken (h : ChannelLocal n r s t) (hl : Reaches r (darkenFields n)) : ChannelLocal n r s (t.darken n) := by
  rw [darken_eq]
  exact ((h.when fun _ hu => hu.put (hl _ (by simp [darkenFields]))).put (hl _ (by simp [darkenFields]))).lightOff
    (hl.sub fun f hf => List.mem_append_right _ hf)

theorem enter_fenced : s.enter n ChSt.fenced cause = (s.leaveService n cause).calPause n 2 := by
  unfold State.enter
  rw [if_neg (show ¬ ChSt.fenced = ChSt.dark by decide), if_pos rfl]

/-- A channel becomes FENCED. -/
theorem ChannelLocal.setFenced (h : ChannelLocal n r s t) (hn : n < 4) (hl : Reaches r (fencedFields n)) :
    ChannelLocal n r s (t.setCh n ChSt.fenced cause) := by
  refine ChannelLocal.setCh (by decide) ?_ (hl.sub fun f hf => by simp [fencedFields, hf])
  rw [enter_fenced]
  exact (h.leaveService hn (hl.sub fun f hf => by simp [fencedFields, hf])).calPause (hl.sub fun f hf => by simp [fencedFields, hf])

/-- A whole-channel fence. -/
theorem ChannelLocal.fenceChannel (h : ChannelLocal n r s t) (hn : n < 4) (hl : Reaches r (fenceFields n)) :
    ChannelLocal n r s (t.fenceChannel n) :=
  (((h.putBit (hl _ (by simp [fenceFields]))).darken (hl.sub fun f hf => by simp [fenceFields, hf])).setFenced hn
    (hl.sub fun f hf => by simp [fenceFields, hf])).biasEval (hl.sub fun f hf => by simp [fenceFields, fencedFields, hf])

end

section
variable {n : Fin 4} {cause : Nat} {s t : State}

/-! ## What a fence shows -/

theorem light_facts : ∀ n : Fin 4, notPending (lightFields n) = true ∧ apart (lightFields n) (OPT_STAT.PHASE n) = true := by decide

/-- The light is out. -/
theorem darken_phase : (s.darken n).phase n = Phase.off := by
  have hlocal := ChannelLocal.lightOff (n := n) (.start (light_facts n).1) (reaches_of fun _ h => h)
    (t := (s.when (s.phase n = Phase.rampDown && s.rd (OPTC.VOTING n) = 0) (·.put (OPT_STAT.ENA_PEND n) 0)).put (OPT_STAT.PHASE n) Phase.off)
  rw [darken_eq]
  exact (hlocal.read (light_facts n).2).trans (rd_put_same ..)

theorem fence_facts : ∀ n : Fin 4, notPending (fenceFields n) = true ∧
    notPending (fencedFields n) = true ∧ notPending (biasFields n) = true ∧ notPending (darkenFields n) = true ∧
    apart (darkenFields n ++ fencedFields n) (FABC.COND n) = true ∧ notPending (darkenFields n ++ fencedFields n) = true ∧
    apart (fencedFields n) (OPT_STAT.PHASE n) = true ∧
    apart (biasFields n) (LDS_CH_STATE.STATE n) = true ∧ apart (biasFields n) (LDS_CH_STATE.CAUSE n) = true ∧
    apart (darkenFields n) (LDS_CH_STATE.STATE n) = true ∧ (LDS_CH_STATE.STATE n).key ≠ (FABC.COND n).key ∧
    (∀ m : Fin 4, m.val ≠ n → apart (fenceFields n) (LDS_CH_STATE.STATE m) = true ∧ apart (fenceFields n) (OPT_STAT.PHASE m) = true) := by
  decide

/-- What a fence of channel n shows and keeps. -/
structure ChannelFenced (n : Fin 4) (s t : State) : Prop where
  within : ChannelLocal n (rangesOf (fenceFields n)) s t
  state : t.chSt n = ChSt.fenced
  cause : t.rd (LDS_CH_STATE.CAUSE n) = 5
  phase : t.phase n = Phase.off
  cond : t.rdBit (FABC.COND n) 2 = true
  pend : s.chSt n ≠ ChSt.fenced → t.rd (IRQ_PEND (sourceOf n 0x20)) = 1

theorem ChannelFenced.othersKept (h : ChannelFenced n s t) : OthersKept n s t :=
  h.within.othersKept (fence_facts n).2.2.2.2.2.2.2.2.2.2.2

/-- The light out and the channel FENCED, before its loops are looked at again. -/
def State.fenceReported (n : Nat) (s : State) : State := ((s.breach n 2).darken n).setCh n ChSt.fenced 0x5

theorem fenceReported_shows : (s.fenceReported n).chSt n = ChSt.fenced ∧ (s.fenceReported n).rd (LDS_CH_STATE.CAUSE n) = 5 ∧
    (s.fenceReported n).phase n = Phase.off ∧ (s.chSt n ≠ ChSt.fenced → (s.fenceReported n).rd (IRQ_PEND (sourceOf n 0x20)) = 1) := by
  obtain ⟨-, hfenced, -, hdark, -, -, hphase, -, -, hstate, hcond, -⟩ := fence_facts n
  have hlocal := ChannelLocal.setFenced (cause := 5) (.start hfenced) n.isLt (reaches_of fun _ h => h) (t := (s.breach n 2).darken n)
  obtain ⟨hst, hcause, hpend⟩ := setCh_shows (n := n) (st := ChSt.fenced) (cause := 0x5) (s := (s.breach n 2).darken n) (by decide)
  refine ⟨hst, hcause, (hlocal.read hphase).trans darken_phase, fun hchange => hpend fun heq => hchange ?_⟩
  have hread := (ChannelLocal.darken (.start hdark) (reaches_of fun _ h => h) (n := n) (t := s.breach n 2)).read hstate
  exact ((hread.trans (rd_putBit_ne hcond)).symm).trans heq

theorem fenceChannel_fenced : ChannelFenced n s (s.fenceChannel n) := by
  obtain ⟨hall, -, hbias, -, hcond, hafter, -, hstate, hcause, -⟩ := fence_facts n
  obtain ⟨hst, hca, hph, hpend⟩ := fenceReported_shows (s := s) (n := n)
  have hlocal := ChannelLocal.biasEval (n := n) (.start hbias) (reaches_of fun _ h => h) (t := s.fenceReported n)
  have hphase : apart (biasFields n) (OPT_STAT.PHASE n) = true := by
    have : ∀ n : Fin 4, apart (biasFields n) (OPT_STAT.PHASE n) = true := by decide
    exact this n
  refine ⟨ChannelLocal.fenceChannel (.start hall) n.isLt (reaches_of fun _ h => h), (hlocal.read hstate).trans hst,
    (hlocal.read hcause).trans hca, (hlocal.read hphase).trans hph, ?_, fun hchange => hlocal.pend _ (sourceOf_lt (by decide)) (hpend hchange)⟩
  have hrest := ChannelLocal.biasEval (ChannelLocal.setFenced (cause := 5) (ChannelLocal.darken (.start hafter)
    (reaches_of fun f hf => List.mem_append_left _ hf) (n := n) (t := s.breach n 2)) n.isLt
      (reaches_of fun f hf => List.mem_append_right _ hf)) (reaches_of fun f hf => by simp [fencedFields, hf])
  unfold State.rdBit State.fenceChannel
  rw [hrest.read hcond]
  exact rdBit_putBit (show 2 < 8 by decide)

/-! ## Nothing is left in flight -/

/-- Nothing of a channel is in flight. -/
def Flow.Empty (f : Flow) : Prop := f.tok = [] ∧ f.cws = [] ∧ f.crd = []

theorem flush_empty (f : Flow) : (Flow.flushRx (Flow.flushTx f)).tok = [] ∧ (Flow.flushRx (Flow.flushTx f)).cws = [] := by
  refine ⟨?_, ?_⟩
  · change ((f.tok.filter fun t => !(t.stage.isTx && true)).filter fun t => !(!t.stage.isTx && true)) = []
    simp only [Bool.and_true, Bool.not_not, List.filter_filter, List.filter_eq_nil_iff]
    intro x _
    cases x.stage.isTx <;> simp
  · change f.cws.filter (fun w => !true) = []
    simp

theorem Flow.Empty.reclaim {f : Flow} {p : Nat → Bool} (h : f.Empty) : (f.crdReclaim p).Empty := by
  obtain ⟨htok, hcws, hcrd⟩ := h
  refine ⟨htok, hcws, ?_⟩
  change f.crd.filter _ = []
  rw [hcrd]
  rfl

theorem clientRefresh_empty {c : Nat} (h : (s.flow.get n).Empty) : ((s.clientRefresh n c).flow.get n).Empty := by
  have hfl : ∀ v : State, ((v.raiseCh n 0x61).count n .hst 0x06).flow = v.flow := fun v => count_flow.trans (raiseCh_flow ..)
  have hreplace : ((s.replaceEnter n c).flow.get n).Empty := by
    unfold State.replaceEnter
    rw [flowOp_flow, hfl, quad_get_set_same]
    exact h.reclaim
  unfold State.clientRefresh
  dsimp only
  split
  · exact h
  · split
    · change ((s.when (s.rd (HST_CLI.IN n c) ≠ 2) (·.replaceEnter n c)).flow.get n).Empty
      cases decide (s.rd (HST_CLI.IN n c) ≠ 2)
      · exact h
      · exact hreplace
    · change ((s.when (s.rd (HST_CLI.IN n c) = 0) (·.put (HST_CLI.IN n c) 1)).flow.get n).Empty
      cases decide (s.rd (HST_CLI.IN n c) = 0) <;> exact h

theorem each_empty {α : Type} {m : List α} {k : α → State → State} (hk : ∀ x u, (u.flow.get n).Empty → ((k x u).flow.get n).Empty)
    (h : (s.flow.get n).Empty) : ((s.each m k).flow.get n).Empty := by
  induction m generalizing s with
  | nil => exact h
  | cons x m ih => exact ih (hk x s h)

theorem tribsDark_empty (htok : (s.flow.get n).tok = []) (hcws : (s.flow.get n).cws = []) : ((s.tribsDark n).flow.get n).Empty := by
  have hput : ∀ (m : List Nat) (k : Nat → State → State) (u : State), (∀ x v, (k x v).flow = v.flow) →
      (u.flow.get n).Empty → ((u.each m k).flow.get n).Empty := fun m k u hk h => by rwa [each_flow hk]
  have hcmt : ∀ u : State, (u.cmtRefuse n 0x1).flow = u.flow := fun u => by
    have : Fact ((fun x => x = Area.votes) Area.votes) := ⟨rfl⟩
    exact (kept_cmtRefuse (A := fun x => x = Area.votes) (.refl u)).same .flow (by decide)
  have hstart : (((s.when (s.cmtRunning n) (·.cmtRefuse n 0x1)).flowOp n (Flow.crdReclaim fun _ => true)).flow.get n).Empty := by
    rw [flowOp_flow, quad_get_set_same]
    have hflow : (s.when (s.cmtRunning n) (·.cmtRefuse n 0x1)).flow = s.flow := by
      cases s.cmtRunning n
      · rfl
      · exact hcmt s
    rw [hflow]
    refine ⟨htok, hcws, ?_⟩
    change (s.flow.get n).crd.filter (fun e => !true) = []
    simp
  unfold State.tribsDark
  refine each_empty (fun c u hu => clientRefresh_empty hu) ?_
  exact hput _ _ _ (fun _ _ => rfl) (hput _ _ _ (fun _ _ => rfl) (hput _ _ _ (fun _ _ => rfl) (hput _ _ _ (fun _ _ => rfl) hstart)))

theorem rszDark_flow : (s.rszDark n cause).flow = s.flow := by
  change (s.when (s.rszRunning n) _).flow = _
  cases s.rszRunning n
  · rfl
  · exact rszFail_flow

/-- A channel that has left service holds nothing. -/
theorem leaveService_empty : ((s.leaveService n cause).flow.get n).Empty := by
  have : Fact ((fun x => x = Area.ch) Area.ch) := ⟨rfl⟩
  have hframed : ∀ u : State, (u.applyFramed n).flow = u.flow := fun u =>
    (kept_applyFramed (A := fun x => x = Area.ch) (.refl u)).same .flow (by decide)
  have hdsp : ∀ u : State, (u.ldsDark n).flow = u.flow := fun u =>
    (kept_ldsDark (A := fun x => x = Area.ch) (.refl u)).same .flow (by decide)
  have hisc : ∀ u : State, (u.iscDark n).flow = u.flow := fun u =>
    (kept_iscDark (A := fun x => x = Area.ch) (.refl u)).same .flow (by decide)
  have hagc : ∀ u : State, (u.agcRest n).flow = u.flow := fun u => (kept_agcRest (A := fun _ => False) (.refl u)).same .flow id
  have hput : ∀ (u : State) (f : Field) (v : Nat), (u.put f v).flow = u.flow := fun _ _ _ => rfl
  unfold State.leaveService
  rw [hput, hput, hagc, hisc, hdsp, clearAlign_flow, hput, hframed]
  refine tribsDark_empty ?_ ?_
  · rw [flushReceive_flow, quad_get_set_same]
    unfold State.flushTransmit
    rw [onChan_flow, flowOp_flow, quad_get_set_same]
    exact (flush_empty _).1
  · rw [flushReceive_flow, quad_get_set_same]
    unfold State.flushTransmit
    rw [onChan_flow, flowOp_flow, quad_get_set_same]
    exact (flush_empty _).2

/-- A fenced channel holds nothing. -/
theorem fenceChannel_empty : ((s.fenceChannel n).flow.get n).Empty := by
  have hbias : ∀ u : State, (u.biasEval n).flow = u.flow := fun u => (kept_biasEval (A := fun _ => False) (.refl u)).same .flow id
  have hpause : ∀ u : State, (u.calPause n 2).flow = u.flow := fun u => (kept_calPause (A := fun _ => False) (.refl u)).same .flow id
  unfold State.fenceChannel
  rw [hbias, setCh_flow (by decide), enter_fenced, hpause]
  exact leaveService_empty

end

end Sys2Proof.Machine
end

section
/-! O28. Decoder engines are fenced by their detectors and by force, and the encoder's second parity fault fences the channel (R192,
R195 to R198). -/

set_option Elab.async false

namespace Sys2Proof.Machine

/-! ## The marks of the fence -/

/-- An engine shows that it is fenced, with its first detector. -/
def State.engineMarked (n e cause : Nat) (s : State) : State :=
  (((((s.put (FEC_ENG_STAT.STATE n e) 2).when (s.rd (FEC_ENG_STAT.CAUSE n e) = 0) (·.put (FEC_ENG_STAT.CAUSE n e) cause)).putBit
    (FEC_ENG_ACT.ACTIVE n) e false).putBit (FEC_ENG_FNC.FENCED n) e true).put (FEC_STAT.FENCE_EV n) 1).raiseCh n 0x32

/-- The codewords that an engine held are dropped and replaced by fill, and the budgets follow. -/
def State.engineEmptied (n e : Nat) (held : List Codeword) (s : State) : State :=
  (((((s.flowOp n (Flow.cwDropAll .fence (fun w => w.engine = some e))).each held fun w t => (t.eraseCw n w.seq w.geo).fill n w.seq w.geo).drainOut
    n).rebudget n).fecOcc n)

theorem engineFence_eq {n e cause : Nat} {s : State} : s.engineFence n e cause =
    ((s.engineMarked n e cause).engineEmptied n e ((s.cws n).filter fun w => w.engine = some e)).unitChanged n true := rfl

/-- Registers that the codewords' drop writes. -/
def emptiedFields (n : Nat) : List Field :=
  [FEC_CNT_DROP.FILL n, LDS_TILE_BUF.CWBUF n, FEC_BUDGET.ENG n, FEC_BUDGET.EFF n, FEC_OCC.OCC n, FEC_OCC.MAX n]

/-- Registers that the marks write. -/
def markFields (n : Nat) : List Field := [FEC_ENG_ACT.ACTIVE n, FEC_ENG_FNC.FENCED n, FEC_STAT.FENCE_EV n]

section
variable {n e cause : Nat} {r : List (Nat × Nat)} {s t : State} {held : List Codeword} {l : List Field} {src pmc : List Nat}

theorem engine_reach (r : List (Nat × Nat)) (n e : Nat) : reach r (FEC_ENG_STAT.STATE n e).key = true ∧
    reach r (FEC_ENG_STAT.CAUSE n e).key = true := by
  refine ⟨reach_of_le ?_, reach_of_le ?_⟩
  all_goals
    simp only [tileKeys, Field.key, FEC_ENG_STAT.STATE, FEC_ENG_STAT.CAUSE]
    omega

theorem ChannelLocal.engineMarked (h : ChannelLocal n r s t) (hl : Reaches r (markFields n)) :
    ChannelLocal n r s (t.engineMarked n e cause) :=
  (((((h.put (engine_reach r n e).1).when fun _ hu => hu.put (engine_reach r n e).2).putBit (hl _ (by simp [markFields]))).putBit
    (hl _ (by simp [markFields]))).put (hl _ (by simp [markFields]))).raiseCh (by decide)

theorem ChannelLocal.fill {q : Nat} {g : Geo} (h : ChannelLocal n r s t) (hn : n < 4) (hl : Reaches r (emptiedFields n)) :
    ChannelLocal n r s (t.fill n q g) := (h.onChan.bump (hl _ (by simp [emptiedFields]))).count (by omega)

theorem ChannelLocal.eraseCw {q : Nat} {g : Geo} (h : ChannelLocal n r s t) : ChannelLocal n r s (t.eraseCw n q g) := by
  unfold State.eraseCw State.onRx
  exact h.onChan

theorem ChannelLocal.drainOut (h : ChannelLocal n r s t) : ChannelLocal n r s (t.drainOut n) := by
  unfold State.drainOut State.onRx
  exact h.onChan

theorem ChannelLocal.fecOcc (h : ChannelLocal n r s t) (hl : Reaches r (emptiedFields n)) : ChannelLocal n r s (t.fecOcc n) :=
  (h.put (hl _ (by simp [emptiedFields]))).put (hl _ (by simp [emptiedFields]))

theorem ChannelLocal.engineEmptied (h : ChannelLocal n r s t) (hn : n < 4) (hl : Reaches r (emptiedFields n)) :
    ChannelLocal n r s (t.engineEmptied n e held) := by
  unfold State.engineEmptied
  refine ChannelLocal.fecOcc (.put (.put (.put (.drainOut (.each (.flowOp h hn) fun w _ u hu => .fill hu.eraseCw hn hl)) ?_) ?_) ?_) hl
  all_goals exact hl _ (by simp [emptiedFields])

theorem fieldsKept_engineEmptied (h : FieldsKept l src pmc s t) (hn : n ∈ pmc) (hlt : n < 4) (hl : ∀ f ∈ emptiedFields n, f ∈ l) :
    FieldsKept l src pmc s (t.engineEmptied n e held) := by
  have hdropped : FieldsKept l src pmc s ((t.flowOp n (Flow.cwDropAll .fence (fun w => w.engine = some e))).each held
      fun w t => (t.eraseCw n w.seq w.geo).fill n w.seq w.geo) :=
    fieldsKept_each (fieldsKept_flowOp h hn hlt (.inr rfl)) fun w _ u hu => by
      have hfill := fieldsKept_of_regs (t := ((u.eraseCw n w.seq w.geo).onRx n fun x =>
        { x with queue := insertOut w.seq (List.replicate w.geo.data (false, true)) x.queue })) hu rfl
      exact fieldsKept_count (fieldsKept_bump_of hfill (hl _ (by simp [emptiedFields]))) hn
  have hdrained := fieldsKept_of_regs (t := ((t.flowOp n (Flow.cwDropAll .fence (fun w => w.engine = some e))).each held
      fun w t => (t.eraseCw n w.seq w.geo).fill n w.seq w.geo).drainOut n) hdropped rfl
  unfold State.engineEmptied
  refine fieldsKept_put_of (fieldsKept_put_of (fieldsKept_put_of (fieldsKept_put_of (fieldsKept_put_of hdrained ?_) ?_) ?_) ?_) ?_
  all_goals exact hl _ (by simp [emptiedFields])

theorem fill_flow {q : Nat} {g : Geo} {u : State} : ((u.eraseCw n q g).fill n q g).flow = u.flow := count_flow

theorem engineEmptied_flow : (s.engineEmptied n e held).flow =
    s.flow.set n (Flow.cwDropAll .fence (fun w => w.engine = some e) (s.flow.get n)) := by
  change ((s.flowOp n (Flow.cwDropAll .fence (fun w => w.engine = some e))).each held fun w t =>
    (t.eraseCw n w.seq w.geo).fill n w.seq w.geo).flow = _
  rw [each_flow fun _ _ => fill_flow]
  exact flowOp_flow

end

section
variable {n : Fin 4} {e : Fin 24} {cause : Nat} {s t : State} {held : List Codeword}

theorem mark_facts : ∀ n : Fin 4,
    notPending (emptiedFields n) = true ∧ notPending (markFields n ++ emptiedFields n) = true ∧
    (∀ f ∈ markFields n, apart (emptiedFields n) f = true) ∧
    (∀ f ∈ LDS_RSZ_STAT.STATE n :: capacityFields n, apart (emptiedFields n) f = true ∧ isQuiet f.key = true) ∧
    (∀ f ∈ markFields n, isQuiet f.key = true ∧ ∀ g ∈ unitFields n, g.key ≠ f.key) ∧
    (FEC_ENG_ACT.ACTIVE n).key ≠ (FEC_ENG_FNC.FENCED n).key ∧ (FEC_ENG_ACT.ACTIVE n).key ≠ (FEC_STAT.FENCE_EV n).key ∧
    (FEC_ENG_FNC.FENCED n).key ≠ (FEC_STAT.FENCE_EV n).key ∧
    (∀ g ∈ unitFields n, g.key ≠ (IRQ_PEND (sourceOf n 0x32)).key) ∧ sourceOf n 0x32 ≠ 0 ∧
    (∀ m : Fin 4, m.val ≠ n → apart (markFields n ++ emptiedFields n) (LDS_CH_STATE.STATE m) = true ∧
      apart (markFields n ++ emptiedFields n) (OPT_STAT.PHASE m) = true) := by decide

theorem engine_facts : ∀ n : Fin 4, ∀ e : Fin 24, (FEC_ENG_STAT.STATE n e).key ≠ (FEC_ENG_STAT.CAUSE n e).key ∧
    ∀ f ∈ [FEC_ENG_STAT.STATE n e, FEC_ENG_STAT.CAUSE n e], isQuiet f.key = true ∧
      ∀ g ∈ markFields n ++ emptiedFields n ++ unitFields n, g.key ≠ f.key := by decide +kernel

theorem capacity_marks : ∀ n : Fin 4, ∀ e : Fin 24, ∀ f ∈ LDS_RSZ_STAT.STATE n :: capacityFields n,
    f.key ≠ (FEC_ENG_STAT.STATE n e).key ∧ f.key ≠ (FEC_ENG_STAT.CAUSE n e).key ∧ f.key ≠ (FEC_ENG_FNC.FENCED n).key ∧
      f.key ≠ (FEC_STAT.FENCE_EV n).key := by decide +kernel

theorem engineMarked_engine : (s.engineMarked n e cause).rd (FEC_ENG_STAT.STATE n e) = 2 ∧
    (cause < 16 → (s.engineMarked n e cause).rd (FEC_ENG_STAT.CAUSE n e) =
      if s.rd (FEC_ENG_STAT.CAUSE n e) = 0 then cause else s.rd (FEC_ENG_STAT.CAUSE n e)) := by
  obtain ⟨hne, hrest⟩ := engine_facts n e
  have later : ∀ f ∈ [FEC_ENG_STAT.STATE n e, FEC_ENG_STAT.CAUSE n e], (s.engineMarked n e cause).rd f =
      ((s.put (FEC_ENG_STAT.STATE n e) 2).when (s.rd (FEC_ENG_STAT.CAUSE n e) = 0) (·.put (FEC_ENG_STAT.CAUSE n e) cause)).rd f :=
    fun f hf => by
      obtain ⟨hq, hkeys⟩ := hrest f hf
      have key : ∀ g ∈ markFields n, f.key ≠ g.key := fun g hg => (hkeys g (by simp [hg])).symm
      exact (rd_raiseCh_quiet (by decide) (quiet_of_isQuiet hq)).trans ((rd_put_ne (key _ (by simp [markFields]))).trans
        ((rd_putBit_ne (key _ (by simp [markFields]))).trans (rd_putBit_ne (key _ (by simp [markFields])))))
  refine ⟨?_, fun hc => ?_⟩
  · rw [later _ (by simp)]
    exact (rd_when_same fun _ => rd_put_ne hne).trans (rd_put_same ..)
  · rw [later _ (by simp)]
    by_cases hz : s.rd (FEC_ENG_STAT.CAUSE n e) = 0
    · rw [decide_eq_true hz, if_pos hz]
      exact (rd_put_same ..).trans (Nat.mod_eq_of_lt hc)
    · rw [decide_eq_false hz, if_neg hz]
      exact rd_put_ne (Ne.symm hne)

theorem engineMarked_marks : (s.engineMarked n e cause).rdBit (FEC_ENG_ACT.ACTIVE n) e = false ∧
    (s.engineMarked n e cause).rdBit (FEC_ENG_FNC.FENCED n) e = true ∧ (s.engineMarked n e cause).rd (FEC_STAT.FENCE_EV n) = 1 ∧
    (s.engineMarked n e cause).rd (IRQ_PEND (sourceOf n 0x32)) = 1 := by
  obtain ⟨-, -, -, -, hq, hactfnc, hactev, hfncev, -⟩ := mark_facts n
  have quiet := fun f hf => quiet_of_isQuiet (hq f hf).1
  refine ⟨?_, ?_, ?_, raiseCh_pend (by decide)⟩
  · unfold State.rdBit State.engineMarked
    rw [rd_raiseCh_quiet (by decide) (quiet _ (by simp [markFields])), rd_put_ne hactev, rd_putBit_ne hactfnc]
    exact rdBit_putBit (show e.val < 24 from e.isLt)
  · unfold State.rdBit State.engineMarked
    rw [rd_raiseCh_quiet (by decide) (quiet _ (by simp [markFields])), rd_put_ne hfncev]
    exact rdBit_putBit (show e.val < 24 from e.isLt)
  · exact (rd_raiseCh_quiet (by decide) (quiet _ (by simp [markFields]))).trans (rd_put_same ..)

/-- The engine before its unit's change. -/
def State.engineOut (n e cause : Nat) (s : State) : State :=
  (s.engineMarked n e cause).engineEmptied n e ((s.cws n).filter fun w => w.engine = some e)

theorem engineOut_read {f : Field} (hf : apart (emptiedFields n) f = true) :
    (s.engineOut n e cause).rd f = (s.engineMarked n e cause).rd f :=
  (ChannelLocal.engineEmptied (n := n) (.start (mark_facts n).1) n.isLt (reaches_of fun _ h => h)).read hf

theorem engineOut_engine {f : Field} (hf : f ∈ [FEC_ENG_STAT.STATE n e, FEC_ENG_STAT.CAUSE n e]) :
    (s.engineOut n e cause).rd f = (s.engineMarked n e cause).rd f := by
  obtain ⟨hq, hkeys⟩ := (engine_facts n e).2 f hf
  have hkept := fieldsKept_engineEmptied (n := n) (e := e) (held := (s.cws n).filter fun w => w.engine = some e.val)
    (.refl (emptiedFields n) [] [n.val] (s.engineMarked n e cause)) (by simp) n.isLt fun _ h => h
  exact hkept.read (by simp) (fun b hb => by rw [List.mem_singleton.1 hb]; omega) ⟨hq, fun g hg => hkeys g (by simp [hg])⟩

/-- The capacity that is left is that of the channel without the engine. -/
theorem engineOut_maxMode : (s.engineOut n e cause).maxModeOf n = (s.putBit (FEC_ENG_ACT.ACTIVE n) e false).maxModeOf n ∧
    (s.engineOut n e cause).rszRunning n = s.rszRunning n := by
  obtain ⟨-, -, -, hcap, -⟩ := mark_facts n
  have hact : ∀ f ∈ LDS_RSZ_STAT.STATE n :: capacityFields n, (s.engineOut n e cause).rd f =
      (((s.put (FEC_ENG_STAT.STATE n e) 2).when (s.rd (FEC_ENG_STAT.CAUSE n e) = 0) (·.put (FEC_ENG_STAT.CAUSE n e) cause)).putBit
        (FEC_ENG_ACT.ACTIVE n) e false).rd f := fun f hf => by
    obtain ⟨happart, hq⟩ := hcap f hf
    obtain ⟨-, -, hfnc, hev⟩ := capacity_marks n e f hf
    rw [engineOut_read happart]
    exact (rd_raiseCh_quiet (by decide) (quiet_of_isQuiet hq)).trans ((rd_put_ne hev).trans (rd_putBit_ne hfnc))
  have hbefore : ∀ f ∈ LDS_RSZ_STAT.STATE n :: capacityFields n, ((s.put (FEC_ENG_STAT.STATE n e) 2).when
      (s.rd (FEC_ENG_STAT.CAUSE n e) = 0) (·.put (FEC_ENG_STAT.CAUSE n e) cause)).rd f = s.rd f := fun f hf =>
    (rd_when_same fun _ => rd_put_ne (capacity_marks n e f hf).2.1).trans (rd_put_ne (capacity_marks n e f hf).1)
  have hput : ∀ f ∈ LDS_RSZ_STAT.STATE n :: capacityFields n, (s.engineOut n e cause).rd f =
      (s.putBit (FEC_ENG_ACT.ACTIVE n) e false).rd f := fun f hf => by
    have hold := hbefore (FEC_ENG_ACT.ACTIVE n) (by simp [capacityFields])
    rw [hact f hf]
    unfold State.putBit
    rw [hold]
    have hcases : ∀ n : Fin 4, ∀ f ∈ LDS_RSZ_STAT.STATE n :: capacityFields n,
        f = FEC_ENG_ACT.ACTIVE n ∨ f.key ≠ (FEC_ENG_ACT.ACTIVE n).key := by decide
    rcases hcases n f hf with rfl | hkey
    · rw [rd_put_same, rd_put_same]
    · rw [rd_put_ne hkey, rd_put_ne hkey, hbefore f hf]
  refine ⟨maxModeOf_congr fun f hf => hput f (List.mem_cons_of_mem _ hf), rszRunning_congr ?_⟩
  rw [hput _ (List.mem_cons_self ..)]
  have : ∀ n : Fin 4, (LDS_RSZ_STAT.STATE n).key ≠ (FEC_ENG_ACT.ACTIVE n).key := by decide
  exact rd_putBit_ne (this n)

/-- What the fence of an engine shows and keeps, where engines are left for a mode and no resize runs. -/
structure EngineFenced (n : Fin 4) (e : Fin 24) (cause : Nat) (s t : State) : Prop where
  state : t.rd (FEC_ENG_STAT.STATE n e) = 2
  cause : t.rd (FEC_ENG_STAT.CAUSE n e) = if s.rd (FEC_ENG_STAT.CAUSE n e) = 0 then cause else s.rd (FEC_ENG_STAT.CAUSE n e)
  active : t.rdBit (FEC_ENG_ACT.ACTIVE n) e = false
  fenced : t.rdBit (FEC_ENG_FNC.FENCED n) e = true
  event : t.rd (FEC_STAT.FENCE_EV n) = 1
  pend : t.rd (IRQ_PEND (sourceOf n 0x32)) = 1
  dropped : (t.flow.get n).led.cwFence = (s.flow.get n).led.cwFence + (s.cws n).countP (fun v => v.engine = some e.val)
  left : t.cws n = (s.cws n).filter (fun v => v.engine ≠ some e.val)
  others : OthersKept n s t

theorem engineOut_flow : (s.engineOut n e cause).flow =
    s.flow.set n (Flow.cwDropAll .fence (fun w => w.engine = some e.val) (s.flow.get n)) := by
  have hmarked : (s.engineMarked n e cause).flow = s.flow := (kept_raiseCh (A := fun _ => False) (kept_put _ _ (kept_putBit (kept_putBit
    (kept_when (kept_put _ _ (.refl s)) fun _ h => kept_put _ _ h))))).same .flow id
  unfold State.engineOut
  rw [engineEmptied_flow, hmarked]

theorem engineFence_fences (hc : cause < 16) (hmax : (s.putBit (FEC_ENG_ACT.ACTIVE n) e false).maxModeOf n ≠ 0)
    (hrsz : s.rszRunning n = false) : EngineFenced n e cause s (s.engineFence n e cause) := by
  obtain ⟨-, hall, hmarks, -, hquiet, -, -, -, hpend, hsource, hothers⟩ := mark_facts n
  obtain ⟨hcap, hstill⟩ := engineOut_maxMode (s := s) (n := n) (e := e) (cause := cause)
  have hunit : UnitFenced n (s.engineOut n e cause) (s.engineFence n e cause) := by
    rw [engineFence_eq]
    exact unitChanged_fences (hcap.trans_ne hmax) (hstill.trans hrsz)
  have hengine : ∀ f ∈ [FEC_ENG_STAT.STATE n e, FEC_ENG_STAT.CAUSE n e], (s.engineFence n e cause).rd f = (s.engineMarked n e cause).rd f :=
    fun f hf => by
      obtain ⟨hq, hkeys⟩ := (engine_facts n e).2 f hf
      exact (hunit.rd hq fun g hg => hkeys g (by simp [hg])).trans (engineOut_engine hf)
  have hmark : ∀ f ∈ markFields n, (s.engineFence n e cause).rd f = (s.engineMarked n e cause).rd f := fun f hf =>
    (hunit.rd (hquiet f hf).1 (hquiet f hf).2).trans (engineOut_read (hmarks f hf))
  have hbit : ∀ f ∈ markFields n, (s.engineFence n e cause).rdBit f e = (s.engineMarked n e cause).rdBit f e := fun f hf => by
    unfold State.rdBit
    rw [hmark f hf]
  obtain ⟨hst, hca⟩ := engineMarked_engine (s := s) (n := n) (e := e) (cause := cause)
  obtain ⟨hact, hfnc, hev, hirq⟩ := engineMarked_marks (s := s) (n := n) (e := e) (cause := cause)
  have hlocal : ChannelLocal n (rangesOf (markFields n ++ emptiedFields n)) s (s.engineOut n e cause) :=
    ((ChannelLocal.start hall).engineMarked (reaches_of fun _ h => List.mem_append_left _ h)).engineEmptied n.isLt
      (reaches_of fun _ h => List.mem_append_right _ h)
  have hdrain : PendMono (s.engineMarked n e cause) (s.engineOut n e cause) :=
    (ChannelLocal.engineEmptied (n := n) (.start (mark_facts n).1) n.isLt (reaches_of fun _ h => h)).pend
  have hflow : (s.engineFence n e cause).flow.get n = Flow.cwDropAll .fence (fun w => w.engine = some e.val) (s.flow.get n) := by
    rw [hunit.flow, engineOut_flow, quad_get_set_same]
  refine ⟨(hengine _ (by simp)).trans hst, (hengine _ (by simp)).trans (hca hc), (hbit _ (by simp [markFields])).trans hact,
    (hbit _ (by simp [markFields])).trans hfnc, (hmark _ (by simp [markFields])).trans hev, ?_, ?_, ?_,
    (hlocal.othersKept hothers).trans hunit.othersKept⟩
  · exact (hunit.pend (sourceOf_lt (by decide)) hsource hpend).trans (hdrain _ (sourceOf_lt (by decide)) hirq)
  · rw [hflow]
    rfl
  · unfold State.cws
    rw [hflow]
    exact List.filter_congr fun w _ => by simp

/-- Clauses 1 to 3, for the command that fences the engine. -/
theorem engineFenced_exists {r : Answer} (h : r = .next (s.engineFence n e cause)) (hc : cause < 16)
    (hmax : (s.putBit (FEC_ENG_ACT.ACTIVE n) e false).maxModeOf n ≠ 0) (hrsz : s.rszRunning n = false) :
    ∃ t, r = .next t ∧ t.rd (FEC_ENG_STAT.STATE n e) = 2 ∧
      (t.rd (FEC_ENG_STAT.CAUSE n e) = (if s.rd (FEC_ENG_STAT.CAUSE n e) = 0 then cause else s.rd (FEC_ENG_STAT.CAUSE n e))) ∧
      t.rdBit (FEC_ENG_ACT.ACTIVE n) e = false ∧ t.rdBit (FEC_ENG_FNC.FENCED n) e = true ∧
      t.rd (FEC_STAT.FENCE_EV n) = 1 ∧ t.rd (IRQ_PEND (sourceOf n 0x32)) = 1 ∧
      ((t.flow.get n).led.cwFence = (s.flow.get n).led.cwFence + (s.cws n).countP (fun v => v.engine = some e.val)) ∧
      ((t.cws n) = (s.cws n).filter (fun v => v.engine ≠ some e.val)) ∧ OthersKept n s t := by
  have hf := engineFence_fences hc hmax hrsz
  exact ⟨_, h, hf.state, hf.cause, hf.active, hf.fenced, hf.event, hf.pend, hf.dropped, hf.left, hf.others⟩

theorem exec_engineFault (hans : s.answers = true) (hst : s.rd (FEC_ENG_STAT.STATE n e) ≤ 1) :
    exec (.engineResidueFault n e) s = .next (s.engineFence n e 2) ∧
      exec (.engineHandshakeFault n e) s = .next (s.engineFence n e 3) := by
  constructor
  all_goals
    change Host.Outcome.next (s.when (s.answers && decide (s.rd (FEC_ENG_STAT.STATE n e) ≤ 1)) _) = _
    rw [hans, decide_eq_true hst, Bool.and_true, when_true]

/-- An admitted forced fault of an engine that may be forced. -/
theorem exec_engineForce {win : Fin 7} {value : Word} (hopen : s.writeOpen win 3) (hforce : bit value.toNat 0 = 1)
    (hsel : s.rd (FEC_ENG_SEL.ENGINE n) = e.val)
    (hlast : s.rdBit (FEC_ENG_ACT.ACTIVE n) e = false ∨ popcount (s.rd (FEC_ENG_ACT.ACTIVE n)) 24 ≠ 1 ∨ s.chSt n = ChSt.dark)
    (hst : s.rd (FEC_ENG_STAT.STATE n e) ≤ 1) : exec (.engineForce win n value 15) s = .next (s.engineFence n e 4) := by
  have hans := hopen.1
  have hone : (FEC_ENG_CMD.FORCE n).of value.toNat = 1 := hforce
  have hmay : s.engineRefused n e = false := by
    unfold State.engineRefused
    rw [decide_eq_false (by omega), Bool.false_or]
    rcases hlast with hact | hpop | hdark
    · rw [hact]; rfl
    · rw [decide_eq_false hpop, Bool.and_false, Bool.false_and]
    · rw [decide_eq_false (not_not.2 hdark), Bool.and_false]
  refine congrArg Host.Outcome.next (hostWrite_of_commands (f := ⟨FEC_ENG_CMD.FORCE n, .wo, .live, 3, .any⟩) hopen rfl (Nat.zero_lt_succ 2)
    fieldsAt_engineCmd (List.mem_cons_self ..) (by simp [CommandsOf]) (fun g hg => ?_) ?_)
  · simp [engineForceHook, hsel, hmay]
  · have hwrote : wroteOne [(FEC_ENG_CMD.FORCE n, 1)] (FEC_ENG_CMD.FORCE n) = true :=
      wroteOne_of_find (List.find?_cons_of_pos (by simp))
    simp only [engineForceHook, List.map_cons, List.map_nil, hone, hwrote, when_true, State.engineFault, hsel, hans,
      decide_eq_true hst, Bool.and_true]

/-! ## The encoder -/

/-- A parity mismatch shows and is counted. -/
def State.parityShown (n : Nat) (s : State) : State := (s.put (FEC_STAT.ENC_EV n) 1).count n .fec 0x09

theorem exec_encoderParityMismatch {second : Bool} (h : s.phase n = Phase.lit) : exec (.encoderParityMismatch n second) s =
    .next ((s.parityShown n).when second (fun u => (u.put (FNC.TXP n) 1).fenceChannel n)) := by
  change Host.Outcome.next (s.when (decide (s.phase n = Phase.lit)) _) = _
  rw [decide_eq_true h, when_true]
  rfl

theorem parity_facts : ∀ n : Fin 4, isQuiet (FEC_STAT.ENC_EV n).key = true ∧ apart (fenceFields n) (FEC_STAT.ENC_EV n) = true ∧
    isQuiet (LDS_CH_STATE.STATE n).key = true ∧ (LDS_CH_STATE.STATE n).key ≠ (FEC_STAT.ENC_EV n).key ∧
    (LDS_CH_STATE.STATE n).key ≠ (FNC.TXP n).key ∧ (FEC_STAT.ENC_EV n).key ≠ (FNC.TXP n).key ∧
    notPending [FEC_STAT.ENC_EV n] = true ∧
    (∀ m : Fin 4, m.val ≠ n → apart [FEC_STAT.ENC_EV n] (LDS_CH_STATE.STATE m) = true ∧
      apart [FEC_STAT.ENC_EV n] (OPT_STAT.PHASE m) = true) := by decide

theorem parityShown_event : (s.parityShown n).rd (FEC_STAT.ENC_EV n) = 1 :=
  (rd_count_quiet (by omega) (quiet_of_isQuiet (parity_facts n).1)).trans (rd_put_same ..)

/-- The second mismatch fences the channel. -/
theorem encoderParity_fences (hlit : s.phase n = Phase.lit) (hst : s.chSt n ≠ ChSt.fenced) :
    ∃ t, exec (.encoderParityMismatch n true) s = .next t ∧ t.rd (FEC_STAT.ENC_EV n) = 1 ∧ t.chSt n = ChSt.fenced ∧
      t.rd (LDS_CH_STATE.CAUSE n) = 5 ∧ t.phase n = Phase.off ∧ t.cws n = [] ∧ (t.flow.get n).tok = [] ∧
      (t.flow.get n).crd = [] ∧ t.rd (IRQ_PEND (sourceOf n 0x20)) = 1 ∧ OthersKept n s t := by
  obtain ⟨-, hev, hqst, hstev, hstp, hevp, hpend, hothers⟩ := parity_facts n
  have hfence := fenceChannel_fenced (n := n) (s := (s.parityShown n).put (FNC.TXP n) 1)
  obtain ⟨htok, hcws, hcrd⟩ := fenceChannel_empty (n := n) (s := (s.parityShown n).put (FNC.TXP n) 1)
  have hbefore : ChannelLocal n (rangesOf [FEC_STAT.ENC_EV n]) s ((s.parityShown n).put (FNC.TXP n) 1) :=
    ((ChannelLocal.put (.start hpend) (reaches_of (fun _ h => h) _ (by simp))).count (by omega)).put (cell_reach ..)
  refine ⟨_, exec_encoderParityMismatch hlit, ?_, hfence.state, hfence.cause, hfence.phase, hcws, htok, hcrd, hfence.pend ?_,
    (hbefore.othersKept hothers).trans hfence.othersKept⟩
  · exact (hfence.within.read hev).trans ((rd_put_ne hevp).trans parityShown_event)
  · have hread : ((s.parityShown n).put (FNC.TXP n) 1).chSt n = s.chSt n :=
      (rd_put_ne hstp).trans ((rd_count_quiet (by omega) (quiet_of_isQuiet hqst)).trans (rd_put_ne hstev))
    rwa [hread]

end

/-- Settles O28, from the fence of an engine, its refusals, and the whole-channel fence. -/
theorem engineFaultsFence : Obligations.EngineFaultsFence := by
  unfold Obligations.EngineFaultsFence
  refine ⟨fun s n e hans hst hrsz hmax => engineFenced_exists (exec_engineFault hans hst).1 (by decide) hmax hrsz,
    fun s n e hans hst hrsz hmax => engineFenced_exists (exec_engineFault hans hst).2 (by decide) hmax hrsz,
    fun s win n value e hopen hforce hsel hlast hst hrsz hmax =>
      engineFenced_exists (exec_engineForce hopen hforce hsel hlast hst) (by decide) hmax hrsz,
    fun s win n value e hopen hforce hsel href => ?_, fun s n hlit => ?_, fun s n hlit hst => encoderParity_fences hlit hst⟩
  · have h := execEngineForce_of_refused hopen hforce hsel href
    exact ⟨_, h, refuse_refusedAs (by omega) (by decide), refuse_flow ..⟩
  · exact ⟨s.parityShown n, exec_encoderParityMismatch hlit, parityShown_event, count_ch, count_flow,
      fieldsKept_count (fieldsKept_put_of (.refl _ _ _ s) (by simp)) (by simp)⟩

end Sys2Proof.Machine
end

section
/-! SUPPORT. What a channel does as it goes DARK, or as a fence of one of its units takes its mode: converters regain and respace,
a calibration apply runs to its end, the light is cut (Tables 1.9, 1.10, 3.7; R116 to R118, R332, R333). -/

set_option Elab.async false

namespace Sys2Proof.Machine

/-! ## Registers that each step writes -/

/-- Registers that the converters' substitutions write, besides rates and COND. -/
def convFields (n : Nat) : List Field :=
  swapFields n ++ [CNV_STAT.SWAP_EV n, CNV_CNT.RESPACE n, CNV_CNT.SWAP n, CNV_RATE.TX_ACT n, CNV_RATE.RX_ACT n]

/-- Registers that an element of a calibration set writes. -/
def elementFields (n : Nat) : List Field :=
  calLogFields ++ [LDS_TX_STAT.SKEW_LIM n, LDS_TX_STAT.BOOST_LIM n] ++ (List.range 4).map (LDS_TX_SKEW_L.CAL n) ++
    (List.range 6).map (MON_BIAS_B.V n)

/-- Registers that the end of a calibration run writes. -/
def finishFields (n : Nat) : List Field :=
  [CAL_SSTAT_S.INFORCE n, CAL_SEQ_S.SEQ n, CAL_CNT_S.COUNT n, CAL_TIME_S.RTC n, CAL_SSTAT_S.TEMP n, CAL_SSTAT_S.SRC n,
   CAL_SSTAT_S.FALLBACK n, CAL_SSTAT_S.PARTIAL n, CAL_SSTAT_S.PEND_DARK n, CAL_RUN_STAT.DONE_EV, CAL_PROG.NEXT]

/-- Registers with a rule of their own in a fall. -/
def ruledFields (n : Nat) : List Field := [FABC.COND n, OPT_STAT.PHASE n, CNV_RATE.MAXRS n, LDS_CH_STATE.MAXMODE n]

/-- What a channel's entry into DARK writes besides those. -/
def enterFields (n : Nat) : List Field := leaveFields n ++ convFields n ++ elementFields n ++ pauseFields ++ finishFields n

/-- All that a fall of a channel writes besides those. -/
def quietFields (n : Nat) : List Field :=
  enterFields n ++ reportFields n ++ (OPT_STAT.ENA_PEND n :: lightFields n) ++ reachFields n

/-! ## Converters and calibration elements -/

section
variable {n : Nat} {r : List (Nat × Nat)} {s t : State}

theorem ChannelLocal.placeSpare {w : Swap} (h : ChannelLocal n r s t) : ChannelLocal n r s (t.placeSpare n w) := by
  unfold State.placeSpare
  split
  · exact h.slicePos
  · exact h.slicePos
  · exact h

theorem ChannelLocal.regain {c : Nat} (h : ChannelLocal n r s t) (hl : Reaches r (swapFields n)) : ChannelLocal n r s (t.regain n c) := by
  unfold State.regain
  dsimp only
  split
  · exact h.onChan.startShadows hl
  · exact h

theorem ChannelLocal.recompute (h : ChannelLocal n r s t) (hl : Reaches r (LDS_CH_STATE.MAXMODE n :: reachFields n)) :
    ChannelLocal n r s (t.recompute n) := by
  unfold State.recompute
  refine ChannelLocal.each (h.put (hl _ (by simp))) fun p hp u hu => ?_
  have hreach : reach r (LDS_PROF_P.REACH n p).key = true := hl _ (by
    simp only [List.mem_cons, List.not_mem_nil, or_false] at hp
    rcases hp with rfl | rfl | rfl | rfl <;> simp [reachFields])
  split
  · exact hu.put hreach
  · exact hu.put hreach

theorem correction_reach (r : List (Nat × Nat)) (n k j : Nat) : reach r (corField n k j).key = true ∧
    reach r (CNV_SLC_STAT.DRIFT n k).key = true := by
  refine ⟨?_, reach_of_le ?_⟩
  · unfold corField
    split
    all_goals
      refine reach_of_le ?_
      simp only [tileKeys, Field.key, CNV_SLC_COR0.OFFSET, CNV_SLC_COR0.GAIN, CNV_SLC_COR0.SKEW, CNV_SLC_COR1.BW]
      omega
  · simp only [tileKeys, Field.key, CNV_SLC_STAT.DRIFT]
    omega

theorem ChannelLocal.takeCor {k : Nat} {v : List Int} (h : ChannelLocal n r s t) : ChannelLocal n r s (t.takeCor n k v) :=
  ChannelLocal.flag (h.each fun j _ _ hu => (hu.putS (correction_reach r n k j).1).putS (cell_reach ..)) (correction_reach r n k 0).2

theorem ChannelLocal.useElement {e b : Nat} {m : List Host.Cell} (h : ChannelLocal n r s t) (hn : n < 4) (hl : Reaches r (elementFields n)) :
    ChannelLocal n r s (t.useElement n e m b) := by
  have happlied := fun a => h.of_parts (u := { t with applied := a }) rfl rfl rfl
  unfold State.useElement
  dsimp only
  rw [if_neg (show ¬ 4 ≤ n by omega)]
  split
  · exact (happlied _).takeCor
  · split
    · exact (((happlied _).put (hl _ (by
        simp only [elementFields, List.mem_append, List.mem_map, List.mem_range]
        exact .inl (.inr ⟨e - 544, by omega, rfl⟩)))).skewLimit (hl.sub (by simp [elementFields]))).boostLimit
          (hl.sub (by simp [elementFields]))
    · split
      · exact (happlied _).each fun i hi _ hu => hu.put (hl _ (by
          simp only [elementFields, List.mem_append, List.mem_map]
          exact .inr ⟨i, hi, rfl⟩))
      · exact happlied _

theorem ChannelLocal.takeElement {e b : Nat} {m : List Host.Cell} (h : ChannelLocal n r s t) (hn : n < 4)
    (hl : Reaches r (elementFields n)) : ChannelLocal n r s (t.takeElement n e m b) := by
  unfold State.takeElement
  split
  · exact h.calLog (hl.sub fun f hf => by simp [elementFields, hf])
  · exact h.useElement hn hl

/-- The set in force shows, for the channel that the run names. -/
theorem ChannelLocal.calFinish (h : ChannelLocal n r s t) (hscope : t.rd CAL_RUN_STAT.SCOPE = n)
    (hl : Reaches r (pauseFields ++ finishFields n)) : ChannelLocal n r s t.calFinish := by
  have hset := h.of_parts (u := { t with sets := memCopy t.runSet 0 (setBase n) 0x2000 t.sets }) rfl rfl rfl
  unfold State.calFinish State.showSet
  rw [hscope]
  refine ChannelLocal.raise (.calLog (.put (.put (.put (.put (.flag (.put (.putS (.put (.put (.put (.put hset ?_) ?_) ?_) ?_) ?_) ?_) ?_)
    ?_) ?_) ?_) ?_) (hl.sub fun f hf => by simp [pauseFields, hf])) (by decide)
  all_goals exact hl _ (by simp [pauseFields, finishFields])

end

/-! ## A fall of a channel -/

/-- The capacity of a channel with a faulted PLL: none (R75, R120). -/
def Shut (n : Nat) (s : State) : Prop :=
  (s.rd (CNV_PLL_STAT.RX_FAULT n) = 1 ∨ s.rd (CNV_PLL_STAT.TX_FAULT n) = 1) ∧ s.rd (CNV_RATE.MAXRS n) = 0 ∧
    s.rd (LDS_CH_STATE.MAXMODE n) = 0

/-- From s to t channel n may only have fallen: of its registers the list, with COND bit 2, a light that is out and a shut converter
kept. -/
structure Fell (n : Nat) (l : List Field) (s t : State) : Prop where
  within : ChannelLocal n (rangesOf (ruledFields n ++ l)) s t
  cond : s.rdBit (FABC.COND n) 2 = true → t.rdBit (FABC.COND n) 2 = true
  off : s.phase n = Phase.off → t.phase n = Phase.off
  shut : Shut n s → Shut n t

/-- A list without the registers that have a rule of their own. -/
structure Calm (n : Nat) (l : List Field) : Prop where
  quiet : notPending l = true
  all : notPending (ruledFields n ++ l) = true
  apart : ∀ f ∈ CNV_PLL_STAT.RX_FAULT n :: CNV_PLL_STAT.TX_FAULT n :: ruledFields n, apart l f = true

section
variable {n : Nat} {l m : List Field} {s t u : State}

theorem ChannelLocal.widen (h : ChannelLocal n (rangesOf l) s t) (hm : ∀ f ∈ l, f ∈ m) (hp : notPending m = true) :
    ChannelLocal n (rangesOf m) s t := by
  have hsub : ∀ p ∈ pendKeys :: rangesOf l, p ∈ pendKeys :: rangesOf m := fun p hp => by
    simp only [rangesOf, keysOf, List.mem_cons, List.mem_append, List.mem_map] at hp ⊢
    rcases hp with rfl | hp | ⟨f, hf, rfl⟩
    · exact .inl rfl
    · exact .inr (.inl hp)
    · exact .inr (.inr ⟨f, hm f hf, rfl⟩)
  exact ⟨ranges_of hp, fun f hlow hf => h.rd f hlow (outside_mono hsub hf), h.pend, h.tiles, h.flow, h.ch⟩

theorem Fell.refl (hc : Calm n l) (s : State) : Fell n l s s := ⟨.start hc.all, id, id, id⟩

theorem Fell.trans (h : Fell n l s t) (k : Fell n l t u) : Fell n l s u :=
  ⟨h.within.trans k.within, k.cond ∘ h.cond, k.off ∘ h.off, k.shut ∘ h.shut⟩

/-- A step within the list. -/
theorem Fell.step (hc : Calm n l) (h : Fell n l s t) (k : ChannelLocal n (rangesOf l) t u) : Fell n l s u := by
  have hread : ∀ f ∈ CNV_PLL_STAT.RX_FAULT n :: CNV_PLL_STAT.TX_FAULT n :: ruledFields n, u.rd f = t.rd f := fun f hf =>
    k.read (hc.apart f hf)
  refine h.trans ⟨k.widen (fun f hf => List.mem_append_right _ hf) hc.all, fun hcond => ?_, fun hoff => ?_, fun hshut => ?_⟩
  · unfold State.rdBit at hcond ⊢
    rwa [hread _ (by simp [ruledFields])]
  · unfold State.phase at hoff ⊢
    rwa [hread _ (by simp [ruledFields])]
  · unfold Shut at hshut ⊢
    rwa [hread _ (by simp), hread _ (by simp), hread _ (by simp [ruledFields]), hread _ (by simp [ruledFields])]

theorem Fell.when {b : Bool} {k : State → State} (h : Fell n l s t) (hk : ∀ u, Fell n l s u → Fell n l s (k u)) :
    Fell n l s (t.when b k) := by
  cases b
  · exact h
  · exact hk t h

theorem Fell.each {α : Type} {xs : List α} {k : α → State → State} (h : Fell n l s t)
    (hk : ∀ x ∈ xs, ∀ u, Fell n l s u → Fell n l s (k x u)) : Fell n l s (t.each xs k) := by
  induction xs generalizing t with
  | nil => exact h
  | cons x xs ih => exact ih (hk x (by simp) t h) fun y hy => hk y (by simp [hy])

theorem Fell.widen (h : Fell n l s t) (hm : ∀ f ∈ l, f ∈ m) (hc : Calm n m) : Fell n m s t :=
  ⟨h.within.widen (fun f hf => by
    rcases List.mem_append.1 hf with hf | hf
    · exact List.mem_append_left _ hf
    · exact List.mem_append_right _ (hm f hf)) hc.all, h.cond, h.off, h.shut⟩

theorem ruled_reach {f : Field} (hf : f ∈ ruledFields n) : reach (rangesOf (ruledFields n ++ l)) f.key = true :=
  reaches_of (fun _ h => h) f (List.mem_append_left _ hf)

end

/-! ## The steps with a rule of their own -/

section
variable {n : Fin 4} {l : List Field} {s t u : State}

theorem ruled_apart : ∀ n : Fin 4, ((CNV_PLL_STAT.RX_FAULT n :: CNV_PLL_STAT.TX_FAULT n :: ruledFields n).map Field.key).Nodup := by decide

/-- A put of a register that the list of rules names leaves the others of them. -/
theorem ruled_put {f g : Field} {v : Nat} (hf : f ∈ CNV_PLL_STAT.RX_FAULT n :: CNV_PLL_STAT.TX_FAULT n :: ruledFields n)
    (hg : g ∈ CNV_PLL_STAT.RX_FAULT n :: CNV_PLL_STAT.TX_FAULT n :: ruledFields n) (hne : f ≠ g) : (s.put g v).rd f = s.rd f :=
  rd_put_ne fun hkey => hne (List.inj_on_of_nodup_map (ruled_apart n) hf hg hkey)

theorem Fell.breach (hc : Calm n l) (h : Fell n l s t) : Fell n l s (t.breach n 2) := by
  have hput : ∀ f ∈ [CNV_PLL_STAT.RX_FAULT n, CNV_PLL_STAT.TX_FAULT n, OPT_STAT.PHASE n, CNV_RATE.MAXRS n, LDS_CH_STATE.MAXMODE n],
      (t.breach n 2).rd f = t.rd f := fun f hf => by
    have hne : ∀ n : Fin 4, ∀ f ∈ [CNV_PLL_STAT.RX_FAULT n, CNV_PLL_STAT.TX_FAULT n, OPT_STAT.PHASE n, CNV_RATE.MAXRS n,
        LDS_CH_STATE.MAXMODE n], f.key ≠ (FABC.COND n).key := by decide
    exact rd_putBit_ne (hne n f hf)
  refine h.trans ⟨(ChannelLocal.start hc.all).putBit (ruled_reach (by simp [ruledFields])),
    fun _ => rdBit_putBit (show 2 < 8 by decide), fun hoff => ?_, fun hshut => ?_⟩
  · unfold State.phase at hoff ⊢
    rwa [hput _ (by simp)]
  · unfold Shut at hshut ⊢
    rwa [hput _ (by simp), hput _ (by simp), hput _ (by simp), hput _ (by simp)]

theorem maxRs_zero {a b : Nat} (h : a = 0 ∨ b = 0) : maxRs a b = 0 := by
  have hmin : Nat.min a b = 0 := by
    rcases h with rfl | rfl
    · exact Nat.zero_min b
    · exact Nat.min_zero a
  unfold maxRs
  rw [hmin]

theorem rate_facts : ∀ n : Fin 4, ∀ f ∈ CNV_PLL_STAT.RX_FAULT n :: CNV_PLL_STAT.TX_FAULT n :: ruledFields n,
    f.key ≠ (CNV_RATE.TX_ACT n).key ∧ f.key ≠ (CNV_RATE.RX_ACT n).key ∧ (f.key = (CNV_RATE.MAXRS n).key → f = CNV_RATE.MAXRS n) := by
  decide

theorem convRates_ne {f : Field} (hf : f ∈ CNV_PLL_STAT.RX_FAULT n :: CNV_PLL_STAT.TX_FAULT n :: ruledFields n)
    (hne : f ≠ CNV_RATE.MAXRS n) : (s.convRates n).rd f = s.rd f := by
  obtain ⟨htx, hrx, hmax⟩ := rate_facts n f hf
  exact (rd_put_ne (mt hmax hne)).trans ((rd_put_ne hrx).trans (rd_put_ne htx))

/-- A faulted PLL leaves no rate (R107, R120). -/
theorem convRates_shut (h : s.rd (CNV_PLL_STAT.RX_FAULT n) = 1 ∨ s.rd (CNV_PLL_STAT.TX_FAULT n) = 1) :
    (s.convRates n).rd (CNV_RATE.MAXRS n) = 0 := by
  have hzero : maxRs (if s.on (CNV_PLL_STAT.TX_FAULT n) then 0 else s.positions n 0)
      (if s.on (CNV_PLL_STAT.RX_FAULT n) then 0 else s.positions n 1) = 0 := by
    refine maxRs_zero ?_
    rcases h with h | h
    · exact .inr (if_pos (decide_eq_true h))
    · exact .inl (if_pos (decide_eq_true h))
  unfold State.convRates
  dsimp only
  rw [hzero]
  exact rd_put_same ..

theorem Fell.convRates (hc : Calm n l) (hl : ∀ f ∈ convFields n, f ∈ l) (h : Fell n l s t) : Fell n l s (t.convRates n) := by
  have hrate : Reaches (rangesOf (ruledFields n ++ l)) (convFields n) := reaches_of fun f hf => List.mem_append_right _ (hl f hf)
  have hne : ∀ n : Fin 4, CNV_PLL_STAT.RX_FAULT n ≠ CNV_RATE.MAXRS n ∧ CNV_PLL_STAT.TX_FAULT n ≠ CNV_RATE.MAXRS n ∧
      FABC.COND n ≠ CNV_RATE.MAXRS n ∧ OPT_STAT.PHASE n ≠ CNV_RATE.MAXRS n ∧ LDS_CH_STATE.MAXMODE n ≠ CNV_RATE.MAXRS n := by decide
  obtain ⟨hrx, htx, hcond, hphase, hmode⟩ := hne n
  refine h.trans ⟨(((ChannelLocal.start hc.all).put (hrate _ (by simp [convFields]))).put (hrate _ (by simp [convFields]))).put
    (ruled_reach (by simp [ruledFields])), fun hbit => ?_, fun hoff => ?_, fun ⟨hfault, _, hmax⟩ => ?_⟩
  · unfold State.rdBit at hbit ⊢
    rwa [convRates_ne (by simp [ruledFields]) hcond]
  · unfold State.phase at hoff ⊢
    rwa [convRates_ne (by simp [ruledFields]) hphase]
  · refine ⟨?_, convRates_shut hfault, (convRates_ne (by simp [ruledFields]) hmode).trans hmax⟩
    rwa [convRates_ne (by simp) hrx, convRates_ne (by simp) htx]

/-- A faulted PLL leaves no native mode (R75). -/
theorem maxModeOf_fault (h : s.rd (CNV_PLL_STAT.RX_FAULT n) = 1 ∨ s.rd (CNV_PLL_STAT.TX_FAULT n) = 1) : s.maxModeOf n = 0 := by
  unfold State.maxModeOf
  dsimp only
  refine if_pos ?_
  rcases h with h | h <;> simp [h]

theorem recompute_ne {f : Field} (hf : isQuiet f.key = true) (hne : f.key ≠ (LDS_CH_STATE.MAXMODE n).key)
    (hreach : ∀ g ∈ reachFields n, g.key ≠ f.key) : (s.recompute n).rd f = s.rd f :=
  (recompute_after.read (by simp) (by simp) ⟨hf, hreach⟩).trans (rd_put_ne hne)

theorem recompute_facts : ∀ n : Fin 4, ∀ f ∈ CNV_PLL_STAT.RX_FAULT n :: CNV_PLL_STAT.TX_FAULT n :: ruledFields n, isQuiet f.key = true ∧
    (f = LDS_CH_STATE.MAXMODE n ∨ f.key ≠ (LDS_CH_STATE.MAXMODE n).key) ∧ ∀ g ∈ reachFields n, g.key ≠ f.key := by decide

theorem recompute_mode : (s.recompute n).rd (LDS_CH_STATE.MAXMODE n) = s.maxModeOf n := by
  obtain ⟨hq, -, hreach⟩ := recompute_facts n (LDS_CH_STATE.MAXMODE n) (by simp [ruledFields])
  exact (recompute_after.read (by simp) (by simp) ⟨hq, hreach⟩).trans ((rd_put_same ..).trans (Nat.mod_eq_of_lt maxModeOf_lt))

theorem Fell.recompute (hc : Calm n l) (hl : ∀ f ∈ reachFields n, f ∈ l) (h : Fell n l s t) : Fell n l s (t.recompute n) := by
  have hkept : ∀ f ∈ CNV_PLL_STAT.RX_FAULT n :: CNV_PLL_STAT.TX_FAULT n :: ruledFields n, f ≠ LDS_CH_STATE.MAXMODE n →
      (t.recompute n).rd f = t.rd f := fun f hf hne => by
    obtain ⟨hq, hmode, hreach⟩ := recompute_facts n f hf
    exact recompute_ne hq (hmode.resolve_left hne) hreach
  have hne : ∀ n : Fin 4, CNV_PLL_STAT.RX_FAULT n ≠ LDS_CH_STATE.MAXMODE n ∧ CNV_PLL_STAT.TX_FAULT n ≠ LDS_CH_STATE.MAXMODE n ∧
      FABC.COND n ≠ LDS_CH_STATE.MAXMODE n ∧ OPT_STAT.PHASE n ≠ LDS_CH_STATE.MAXMODE n ∧ CNV_RATE.MAXRS n ≠ LDS_CH_STATE.MAXMODE n := by
    decide
  obtain ⟨hrx, htx, hcond, hphase, hrate⟩ := hne n
  refine h.trans ⟨(ChannelLocal.start hc.all).recompute fun f hf => ?_, fun hbit => ?_, fun hoff => ?_, fun ⟨hfault, hmax, _⟩ => ?_⟩
  · rcases List.mem_cons.1 hf with rfl | hf
    · exact ruled_reach (by simp [ruledFields])
    · exact reaches_of (fun g hg => List.mem_append_right _ (hl g hg)) f hf
  · unfold State.rdBit at hbit ⊢
    rwa [hkept _ (by simp [ruledFields]) hcond]
  · unfold State.phase at hoff ⊢
    rwa [hkept _ (by simp [ruledFields]) hphase]
  · refine ⟨?_, (hkept _ (by simp [ruledFields]) hrate).trans hmax, recompute_mode.trans (maxModeOf_fault hfault)⟩
    rwa [hkept _ (by simp) hrx, hkept _ (by simp) htx]

theorem Fell.darken (hc : Calm n l) (hl : ∀ f ∈ OPT_STAT.ENA_PEND n :: lightFields n, f ∈ l) (h : Fell n l s t) :
    Fell n l s (t.darken n) := by
  have hpend : Reaches (rangesOf l) (OPT_STAT.ENA_PEND n :: lightFields n) := reaches_of hl
  have hput : ∀ v : State, Fell n l v (v.put (OPT_STAT.PHASE n) Phase.off) := fun v => by
    have hne : ∀ n : Fin 4, CNV_PLL_STAT.RX_FAULT n ≠ OPT_STAT.PHASE n ∧ CNV_PLL_STAT.TX_FAULT n ≠ OPT_STAT.PHASE n ∧
        FABC.COND n ≠ OPT_STAT.PHASE n ∧ LDS_CH_STATE.MAXMODE n ≠ OPT_STAT.PHASE n ∧ CNV_RATE.MAXRS n ≠ OPT_STAT.PHASE n := by decide
    obtain ⟨hrx, htx, hcond, hmode, hrate⟩ := hne n
    have hkept : ∀ f ∈ CNV_PLL_STAT.RX_FAULT n :: CNV_PLL_STAT.TX_FAULT n :: ruledFields n, f ≠ OPT_STAT.PHASE n →
        (v.put (OPT_STAT.PHASE n) Phase.off).rd f = v.rd f := fun f hf hf' => ruled_put (n := n) hf (by simp [ruledFields]) hf'
    refine ⟨(ChannelLocal.start hc.all).put (ruled_reach (by simp [ruledFields])), fun hbit => ?_, fun _ => rd_put_same .., fun hshut => ?_⟩
    · unfold State.rdBit at hbit ⊢
      rwa [hkept _ (by simp [ruledFields]) hcond]
    · unfold Shut at hshut ⊢
      rwa [hkept _ (by simp) hrx, hkept _ (by simp) htx, hkept _ (by simp [ruledFields]) hrate, hkept _ (by simp [ruledFields]) hmode]
  rw [darken_eq]
  have hpending : Fell n l s (t.when (t.phase n = Phase.rampDown && t.rd (OPTC.VOTING n) = 0) (·.put (OPT_STAT.ENA_PEND n) 0)) :=
    h.when fun u hu => hu.step hc ((ChannelLocal.start hc.quiet).put (hpend _ (by simp)))
  exact (hpending.trans (hput _)).step hc ((ChannelLocal.start hc.quiet).lightOff (hpend.sub fun f hf => List.mem_cons_of_mem _ hf))

end

end Sys2Proof.Machine
end

section
/-! SUPPORT. A channel goes DARK, refuses its mode, or is fenced by one of its units: whatever the case, it only falls
(Tables 1.9, 1.10, 3.7; R36, R57, R75, R116 to R118, R332, R333). -/

set_option Elab.async false

namespace Sys2Proof.Machine

section
variable {n : Fin 4} {cause : Nat} {l : List Field} {s t u : State}

/-! ## Converters -/

section
variable (hc : Calm n l) (hl : ∀ f ∈ convFields n, f ∈ l)
include hc

theorem Fell.fenceSlice {k : Nat} (h : Fell n l s t) : Fell n l s (t.fenceSlice n k) :=
  (h.step hc (ChannelLocal.start hc.quiet).slice).breach hc

include hl

theorem Fell.sliceSum (h : Fell n l s t) : Fell n l s (t.sliceSum n) :=
  h.step hc ((ChannelLocal.start hc.quiet).sliceSum (reaches_of fun f hf => hl f (by simp [convFields, hf])))

omit hl in
theorem Fell.spaceConv {act c : Nat} (h : Fell n l s t) : Fell n l s (t.spaceConv n act c) := by
  have start : ∀ v : State, ChannelLocal n (rangesOf l) v v := fun v => .start hc.quiet
  unfold State.spaceConv
  dsimp only
  refine Fell.each (Fell.step hc (.each (.each (.each h fun p _ v hv => ?_) fun k _ v hv => ?_) fun w _ v hv => ?_) (start _).onChan)
    fun w _ v hv => ?_
  · exact hv.step hc ((start v).slicePos.when fun _ hw => hw.slice)
  · split
    · exact hv.fenceSlice hc
    · exact hv.step hc (start v).slice
  · exact hv.step hc (start v).freeSwap
  · exact hv.step hc (start v).placeSpare

theorem Fell.spaceDir {dir : Nat} (h : Fell n l s t) : Fell n l s (t.spaceDir n dir) :=
  Fell.sliceSum hc hl (Fell.convRates hc hl (h.each fun _ _ _ hv => hv.spaceConv hc))

theorem Fell.respaceCore {dir : Nat} (h : Fell n l s t) : Fell n l s (t.respaceCore n dir) := by
  have start : ∀ v : State, ChannelLocal n (rangesOf l) v v := fun v => .start hc.quiet
  have hreach : Reaches (rangesOf l) (convFields n) := reaches_of hl
  unfold State.respaceCore
  dsimp only
  refine Fell.step hc (Fell.spaceDir hc hl (Fell.step hc (.each h fun w _ v hv => ?_) (start _).onChan))
    (((start _).bump (hreach _ (by simp [convFields]))).count (by omega))
  split
  · exact hv.fenceSlice hc
  · exact hv

theorem Fell.substitute {w : Swap} (h : Fell n l s t) : Fell n l s (t.substitute n w) := by
  have start : ∀ v : State, ChannelLocal n (rangesOf l) v v := fun v => .start hc.quiet
  have hreach : Reaches (rangesOf l) (convFields n) := reaches_of hl
  unfold State.substitute
  dsimp only
  split
  · split
    · exact Fell.sliceSum hc hl (((h.step hc ((start _).onChan.slice.slicePos)).fenceSlice hc).step hc
        ((((start _).bump (hreach _ (by simp [convFields]))).put (hreach _ (by simp [convFields]))).count (by omega)))
    · exact (h.step hc ((start _).onChan.slice)).spaceDir hc hl
  · exact h

theorem Fell.convDark (h : Fell n l s t) : Fell n l s (t.convDark n) :=
  ((h.each fun _ _ _ hv => hv.substitute hc hl).when fun _ hv => hv.respaceCore hc hl).when fun _ hv => hv.respaceCore hc hl

end

/-! ## The calibration run -/

/-- Registers that a calibration run writes as it ends at once. -/
def endFields (n : Nat) : List Field := elementFields n ++ pauseFields ++ finishFields n

section
variable (hq : notPending l = true) (hscope : apart l CAL_RUN_STAT.SCOPE = true) (hl : ∀ f ∈ endFields n, f ∈ l)
include hq hscope hl

omit hq in
/-- The next element of a run of channel n. -/
theorem ChannelLocal.calElementNow (h : ChannelLocal n (rangesOf l) s t) (hs : s.rd CAL_RUN_STAT.SCOPE = n) :
    ChannelLocal n (rangesOf l) s t.calElementNow := by
  have hreach : Reaches (rangesOf l) (endFields n) := reaches_of hl
  unfold State.calElementNow
  dsimp only
  refine h.when fun v hv => ?_
  rw [h.read hscope, hs]
  exact (hv.takeElement n.isLt (hreach.sub fun f hf => by simp [endFields, hf])).put (hreach _ (by simp [endFields, finishFields]))

theorem calDark_within : ChannelLocal n (rangesOf l) s (s.calDark n) := by
  have hreach : Reaches (rangesOf l) (endFields n) := reaches_of hl
  have helem : Reaches (rangesOf l) (elementFields n) := hreach.sub fun f hf => by simp [endFields, hf]
  unfold State.calDark
  dsimp only
  refine ChannelLocal.when ?_ fun v hv => ((hv.takeElement n.isLt helem).takeElement n.isLt helem).put
    (hreach _ (by simp [endFields, finishFields]))
  split
  next happly =>
    have hs : s.rd CAL_RUN_STAT.SCOPE = n := by
      unfold State.calApplying at happly
      simp only [Bool.and_eq_true, decide_eq_true_eq] at happly
      exact happly.1
    have hwait : ChannelLocal n (rangesOf l) s { s with calWait := [] } := (ChannelLocal.start hq).of_parts rfl rfl rfl
    refine ChannelLocal.when (.each (.put (.put (.each hwait fun e _ v hv => ?_) ?_) ?_) fun _ _ v hv => ?_) fun v hv =>
      hv.calFinish ((hv.read hscope).trans hs) (hreach.sub fun f hf => ?_)
    · exact hv.takeElement n.isLt helem
    · exact hreach _ (by simp [endFields, pauseFields])
    · exact hreach _ (by simp [endFields, pauseFields])
    · exact hv.calElementNow hscope hl hs
    · simp only [List.mem_append] at hf
      rcases hf with hf | hf <;> simp [endFields, hf]
  · exact .start hq

end

/-! ## The entry into DARK -/

/-- What a channel has become as it enters DARK. -/
def State.darkEntered (n cause : Nat) (s : State) : State := (((s.leaveService n cause).endBoost n).convDark n).calDark n

theorem enter_dark : s.enter n ChSt.dark cause = (s.darkEntered n cause).when (s.darkEntered n cause).operating (·.recompute n) := by
  unfold State.enter
  rw [if_pos rfl]
  rfl

theorem dark_facts : ∀ n : Fin 4,
    notPending (enterFields n) = true ∧ notPending (ruledFields n ++ enterFields n) = true ∧
    (∀ f ∈ CNV_PLL_STAT.RX_FAULT n :: CNV_PLL_STAT.TX_FAULT n :: ruledFields n, apart (enterFields n) f = true) ∧
    apart (enterFields n) CAL_RUN_STAT.SCOPE = true ∧ apart (ruledFields n ++ enterFields n) DEV_MODE.MODE = true ∧
    isQuiet DEV_MODE.MODE.key = true ∧ DEV_MODE.MODE.key ≠ (LDS_CH_STATE.MAXMODE n).key ∧
    (∀ g ∈ reachFields n, g.key ≠ DEV_MODE.MODE.key) := by decide +kernel

theorem quiet_facts : ∀ n : Fin 4,
    notPending (quietFields n) = true ∧ notPending (ruledFields n ++ quietFields n) = true ∧
    (∀ f ∈ CNV_PLL_STAT.RX_FAULT n :: CNV_PLL_STAT.TX_FAULT n :: ruledFields n, apart (quietFields n) f = true) ∧
    (∀ m : Fin 4, m.val ≠ n → apart (ruledFields n ++ quietFields n) (LDS_CH_STATE.STATE m) = true ∧
      apart (ruledFields n ++ quietFields n) (OPT_STAT.PHASE m) = true) := by decide +kernel

theorem calm_enter : Calm n (enterFields n) := ⟨(dark_facts n).1, (dark_facts n).2.1, (dark_facts n).2.2.1⟩

theorem calm_quiet : Calm n (quietFields n) := ⟨(quiet_facts n).1, (quiet_facts n).2.1, (quiet_facts n).2.2.1⟩

theorem Fell.othersKept (h : Fell n (quietFields n) s t) : OthersKept n s t := h.within.othersKept (quiet_facts n).2.2.2

theorem darkEntered_fell : Fell n (enterFields n) s (s.darkEntered n cause) := by
  have hleft : Fell n (enterFields n) s ((s.leaveService n cause).endBoost n) := (Fell.refl calm_enter s).step calm_enter
    (((ChannelLocal.start calm_enter.quiet).leaveService n.isLt (reaches_of fun f hf => by simp [enterFields, hf])).putBit (cell_reach ..))
  exact (hleft.convDark calm_enter fun f hf => by simp [enterFields, hf]).step calm_enter
    (calDark_within calm_enter.quiet (dark_facts n).2.2.2.1 fun f hf => by
      simp only [endFields, List.mem_append] at hf
      rcases hf with (hf | hf) | hf <;> simp [enterFields, hf])

theorem enterDark_fell : Fell n (quietFields n) s (s.enter n ChSt.dark cause) := by
  rw [enter_dark]
  exact (darkEntered_fell.widen (fun f hf => by simp [quietFields, hf]) calm_quiet).when fun v hv =>
    hv.recompute calm_quiet fun f hf => by simp [quietFields, hf]

/-- The device goes on to operate, or not. -/
theorem enterDark_operating : (s.enter n ChSt.dark cause).operating = s.operating := by
  obtain ⟨-, -, -, -, hmode, hq, hne, hreach⟩ := dark_facts n
  have hread : (s.enter n ChSt.dark cause).rd DEV_MODE.MODE = s.rd DEV_MODE.MODE := by
    rw [enter_dark]
    exact (rd_when_same fun v => recompute_ne hq hne hreach).trans (darkEntered_fell.within.read hmode)
  unfold State.operating State.mode
  rw [hread]

/-! ## The report of DARK -/

/-- The state that the channel reports, with its cause. -/
def State.darkReported (n cause : Nat) (gone changed : Bool) (s : State) : State :=
  ((s.put (LDS_CH_STATE.STATE n) (if gone then ChSt.fenced else ChSt.dark)).put (LDS_CH_STATE.CAUSE n) (if gone then 5 else cause)).when
    changed (·.raiseCh n 0x20)

/-- What follows the report. -/
def State.darkSettled (n : Nat) (gone : Bool) (s : State) : State :=
  ((((s.when gone fun t => (t.putBit (FABC.COND n) 2 true).darken n).when ((if gone then ChSt.fenced else ChSt.dark) = ChSt.dark) fun t =>
    t.each (List.range 8) fun c u => u.regain n c).when ((if gone then ChSt.fenced else ChSt.dark) ≠ ChSt.dark) (·.regainStop n))).evalMode

/-- The respacing left no native mode. -/
def State.noMode (n : Nat) (s : State) : Bool := s.operating && s.rd (LDS_CH_STATE.MAXMODE n) = 0

theorem setCh_dark {u : State} (hu : s.enter n ChSt.dark cause = u) : s.setCh n ChSt.dark cause = (u.darkReported n cause (u.noMode n)
    (s.chSt n ≠ (if u.noMode n then ChSt.fenced else ChSt.dark))).darkSettled n (u.noMode n) := by
  subst hu
  unfold State.setCh State.darkSettled State.darkReported State.noMode
  dsimp only
  rw [show decide (ChSt.dark = ChSt.dark) = true from decide_eq_true rfl, Bool.true_and]

theorem Fell.evalMode (h : Fell n (quietFields n) s t) : Fell n (quietFields n) s t.evalMode :=
  h.step calm_quiet ((ChannelLocal.start calm_quiet.quiet).evalMode (reaches_of fun f hf => by
    simp [quietFields, reportFields, settleFields, hf]))

theorem Fell.darkSettled {gone : Bool} (h : Fell n (quietFields n) s t) : Fell n (quietFields n) s (t.darkSettled n gone) := by
  have start : ∀ v : State, ChannelLocal n (rangesOf (quietFields n)) v v := fun v => .start calm_quiet.quiet
  have hswap : Reaches (rangesOf (quietFields n)) (swapFields n) := reaches_of fun f hf => by
    simp [quietFields, reportFields, settleFields, hf]
  refine Fell.evalMode (((h.when fun v hv => ?_).when fun v hv => hv.step calm_quiet ?_).when fun v hv => hv.step calm_quiet ?_)
  · exact (hv.breach calm_quiet).darken calm_quiet fun f hf => by simp only [quietFields, List.mem_append]; exact .inl (.inr hf)
  · exact (start v).each fun c _ _ hw => hw.regain hswap
  · exact (start v).regainStop hswap

/-- A channel that goes DARK falls. -/
theorem setDark_fell : Fell n (quietFields n) s (s.setCh n ChSt.dark cause) := by
  rw [setCh_dark rfl]
  exact Fell.darkSettled (enterDark_fell.step calm_quiet ((((ChannelLocal.start calm_quiet.quiet).put
    (reaches_of (fun _ h => h) _ (by simp [quietFields, reportFields]))).put
      (reaches_of (fun _ h => h) _ (by simp [quietFields, reportFields]))).when fun _ hv => hv.raiseCh (by decide)))

/-- What follows the report leaves the state and its cause. -/
theorem settled_facts : ∀ n : Fin 4, notPending (FABC.COND n :: (darkenFields n ++ settleFields n)) = true ∧
    apart (FABC.COND n :: (darkenFields n ++ settleFields n)) (LDS_CH_STATE.STATE n) = true ∧
    apart (FABC.COND n :: (darkenFields n ++ settleFields n)) (LDS_CH_STATE.CAUSE n) = true ∧
    isQuiet (LDS_CH_STATE.STATE n).key = true ∧ isQuiet (LDS_CH_STATE.CAUSE n).key = true ∧
    (LDS_CH_STATE.STATE n).key ≠ (LDS_CH_STATE.CAUSE n).key := by decide

theorem darkSettled_within {gone : Bool} :
    ChannelLocal n (rangesOf (FABC.COND n :: (darkenFields n ++ settleFields n))) s (s.darkSettled n gone) := by
  have hreach : Reaches (rangesOf (FABC.COND n :: (darkenFields n ++ settleFields n))) (FABC.COND n :: (darkenFields n ++ settleFields n)) :=
    reaches_of fun _ h => h
  have hswap := hreach.sub (m := swapFields n) fun f hf => by simp [settleFields, hf]
  refine ChannelLocal.evalMode ((((ChannelLocal.start (settled_facts n).1).when fun v hv => ?_).when fun v hv => ?_).when fun v hv => ?_)
    (hreach.sub fun f hf => by simp [settleFields, hf])
  · exact (hv.putBit (hreach _ (by simp))).darken (hreach.sub fun f hf => by simp [hf])
  · exact hv.each fun c _ _ hw => hw.regain hswap
  · exact hv.regainStop hswap

/-- A channel that goes DARK reports DARK with its cause, and FENCED with cause 5 where no mode is left. -/
theorem setDark_shows : (s.setCh n ChSt.dark cause).chSt n = (if (s.enter n ChSt.dark cause).noMode n then ChSt.fenced else ChSt.dark) ∧
    (s.setCh n ChSt.dark cause).rd (LDS_CH_STATE.CAUSE n) =
      (if (s.enter n ChSt.dark cause).noMode n then 5 else cause) % 2 ^ (LDS_CH_STATE.CAUSE n).width := by
  obtain ⟨-, hst, hca, hqst, hqca, hne⟩ := settled_facts n
  rw [setCh_dark rfl]
  refine ⟨(darkSettled_within.read hst).trans ?_, (darkSettled_within.read hca).trans ?_⟩
  · refine (rd_when_same fun _ => rd_raiseCh_quiet (by decide) (quiet_of_isQuiet hqst)).trans ((rd_put_ne hne).trans ((rd_put_same ..).trans ?_))
    split <;> rfl
  · exact (rd_when_same fun _ => rd_raiseCh_quiet (by decide) (quiet_of_isQuiet hqca)).trans (rd_put_same ..)

end

end Sys2Proof.Machine
end

section
/-! SUPPORT. A channel refuses its mode, a fence ends a resize, and a unit's fence in every case (Tables 1.10, 3.7; R36, R41, R57, R75,
R90). -/

set_option Elab.async false

namespace Sys2Proof.Machine

section
variable {n : Fin 4} {cause : Nat} {s t u : State}

/-! ## Cuts, refusals and fences -/

theorem Fell.put {f : Field} {v : Nat} (h : Fell n (quietFields n) s t) (hf : reach (rangesOf (quietFields n)) f.key = true) :
    Fell n (quietFields n) s (t.put f v) := h.step calm_quiet ((ChannelLocal.start calm_quiet.quiet).put hf)

theorem Fell.lightOut (h : Fell n (quietFields n) s t) : Fell n (quietFields n) s (t.darken n) :=
  h.darken calm_quiet fun f hf => by simp only [quietFields, List.mem_append]; exact .inl (.inr hf)

theorem Fell.cut (h : Fell n (quietFields n) s t) : Fell n (quietFields n) s (t.cut n cause) :=
  h.lightOut.when fun _ hv => hv.trans setDark_fell

theorem Fell.refuseMode (h : Fell n (quietFields n) s t) : Fell n (quietFields n) s (t.refuseMode n) := h.when fun _ hv => hv.cut

theorem fenced_quiet : Reaches (rangesOf (quietFields n)) (fencedFields n) := reaches_of fun f hf => by
  simp only [fencedFields, List.mem_append] at hf
  rcases hf with ((hf | hf) | hf) | hf <;> simp [quietFields, enterFields, lightFields, hf]

theorem Fell.setFenced (h : Fell n (quietFields n) s t) : Fell n (quietFields n) s (t.setCh n ChSt.fenced cause) :=
  h.step calm_quiet ((ChannelLocal.start calm_quiet.quiet).setFenced n.isLt fenced_quiet)

theorem Fell.fenceChannel (h : Fell n (quietFields n) s t) : Fell n (quietFields n) s (t.fenceChannel n) :=
  (h.breach calm_quiet).lightOut.setFenced.step calm_quiet ((ChannelLocal.start calm_quiet.quiet).biasEval
    (fenced_quiet.sub fun f hf => by simp [fencedFields, hf]))

/-- The resize of a channel ends with its peer told. -/
theorem Fell.rszWithdrawn {c d : Nat} (h : Fell n (quietFields n) s t) : Fell n (quietFields n) s ((t.rszFail n c).rszCancel n d) := by
  refine h.step calm_quiet ?_
  have hfail : ChannelLocal n (rangesOf (quietFields n)) t (t.rszFail n c) :=
    (ChannelLocal.start calm_quiet.quiet).rszFail (reaches_of fun f hf => by
      simp [quietFields, enterFields, leaveFields, rszDarkFields, hf])
  unfold State.rszCancel
  dsimp only
  split
  · exact hfail.queue
  · exact hfail.queue

/-- What a fence does to a resize. -/
theorem rszFence_cases : s.rszFence n = s ∨ s.rszFence n = s.refuseMode n ∨ s.rszFence n = (s.rszFail n 7).rszCancel n 7 := by
  unfold State.rszFence
  dsimp only
  split
  · split
    · exact .inr (.inl rfl)
    · exact .inr (.inr rfl)
  · exact .inl rfl

theorem Fell.rszFence (h : Fell n (quietFields n) s t) : Fell n (quietFields n) s (t.rszFence n) := by
  rcases rszFence_cases (s := t) (n := n) with heq | heq | heq
  · rwa [heq]
  · rw [heq]; exact h.refuseMode
  · rw [heq]; exact h.rszWithdrawn

theorem Fell.recomputed (h : Fell n (quietFields n) s t) : Fell n (quietFields n) s (t.recompute n) :=
  h.recompute calm_quiet fun f hf => by simp [quietFields, hf]

theorem unitChanged_fence : s.unitChanged n true = if s.operating then
    (if (decide (((s.fenceMarked n).rszFence n).rd (LDS_CH_STATE.MAXMODE n) = 0) &&
        decide (((s.fenceMarked n).rszFence n).chSt n ≠ ChSt.fenced)) = true then
      ((s.fenceMarked n).rszFence n).fenceChannel n else ((s.fenceMarked n).rszFence n).evalMode) else s.fenceMarked n := by
  unfold State.unitChanged State.fenceMarked
  dsimp only
  simp only [when_true, Bool.true_and]
  rfl

/-- Whatever else a fence of a unit does, the channel only falls, and COND bit 2 shows it. -/
theorem unitChanged_fell : Fell n (quietFields n) s (s.unitChanged n true) ∧ (s.unitChanged n true).rdBit (FABC.COND n) 2 = true := by
  have hbreach : (s.breach n 2).rdBit (FABC.COND n) 2 = true := rdBit_putBit (show 2 < 8 by decide)
  have hmarked : Fell n (quietFields n) (s.breach n 2) (s.fenceMarked n) := (Fell.refl calm_quiet _).recomputed
  have hrest : Fell n (quietFields n) (s.breach n 2) (s.unitChanged n true) := by
    rw [unitChanged_fence]
    split
    · split
      · exact hmarked.rszFence.fenceChannel
      · exact hmarked.rszFence.evalMode
    · exact hmarked
  exact ⟨((Fell.refl calm_quiet s).breach calm_quiet).trans hrest, hrest.cond hbreach⟩

/-! ## What a refusal shows -/

/-- The channel that refused its mode: dark or fenced, with cause 5. -/
structure Refused (n : Fin 4) (t : State) : Prop where
  state : t.chSt n = ChSt.dark ∨ t.chSt n = ChSt.fenced
  cause : t.rd (LDS_CH_STATE.CAUSE n) = 5
  phase : t.phase n = Phase.off

theorem darken_facts : ∀ n : Fin 4, notPending (darkenFields n) = true ∧ apart (darkenFields n) (LDS_CH_STATE.STATE n) = true := by decide

theorem darken_state : (s.darken n).chSt n = s.chSt n :=
  ((ChannelLocal.start (darken_facts n).1).darken (reaches_of fun _ h => h)).read (darken_facts n).2

/-- A channel with light or a receiver that refuses its mode goes DARK, its light out. -/
theorem refuseMode_eq (h : s.lightUp n = true) : s.refuseMode n = (s.darken n).setCh n ChSt.dark 5 := by
  have hst : s.chSt n ≠ ChSt.fenced := by
    unfold State.lightUp at h
    simp only [Bool.and_eq_true, decide_eq_true_eq] at h
    exact h.2
  unfold State.refuseMode State.cut
  rw [h, when_true, decide_eq_true hst, when_true]

theorem setDark_refused (h : s.phase n = Phase.off) : Refused n (s.setCh n ChSt.dark 5) := by
  obtain ⟨hst, hca⟩ := setDark_shows (s := s) (n := n) (cause := 5)
  refine ⟨?_, ?_, setDark_fell.off h⟩
  · rw [hst]
    split
    · exact .inr rfl
    · exact .inl rfl
  · rw [hca, ite_self]
    rfl

theorem refuseMode_refused (h : s.lightUp n = true) : Refused n (s.refuseMode n) := by
  rw [refuseMode_eq h]
  exact setDark_refused darken_phase

/-- Of a device that operates, a channel whose converter is shut goes FENCED in place of DARK. -/
theorem setDark_shut (hop : s.operating = true) (h : Shut n s) : (s.setCh n ChSt.dark cause).chSt n = ChSt.fenced := by
  have hmode : (s.enter n ChSt.dark cause).noMode n = true := by
    unfold State.noMode
    rw [enterDark_operating, hop, (enterDark_fell.shut h).2.2]
    rfl
  rw [setDark_shows.1, if_pos hmode]

end

end Sys2Proof.Machine
end

section
/-! O21. Converter clocks, their faults, and the converter's own loss of signal (R119 to R122, R148, R176). -/

set_option Elab.async false

namespace Sys2Proof.Machine

section
variable {n : Fin 4} {dir : Fin 2} {s t : State}

/-! ## Loss of lock -/

/-- A PLL has declared loss of lock. -/
def State.pllDropped (n dir : Nat) (s : State) : State :=
  ((((((s.put (pllLol n dir) 1).put (pllLock n dir) 0).bump (pllCount n dir)).raiseCh n 0x12).count n .cnv 0x05).put (CNVC.LOL_PREV n dir)
    (s.rd (CNVC.LOL_LAST n dir))).put (CNVC.LOL_LAST n dir) (s.time + 1)

/-- The last two losses are not within 1 s. -/
def State.farApart (s : State) (n dir : Nat) : Prop :=
  s.rd (CNVC.LOL_PREV n dir) = 0 ∨ s.rd (CNVC.LOL_PREV n dir) + 1000000000 < s.time + 1

/-- A loss of lock that is no third within 1 s. -/
theorem pllLoss_eq (hlol : s.on (pllLol n dir) = false) (hfault : s.on (pllFaultBit n dir) = false) (hfar : s.farApart n dir) :
    s.pllLoss n dir = if dir.val = 1 then (s.pllDropped n dir).loseFrame n else (s.pllDropped n dir).put (LDS_TX_STAT.MUTED n) 1 := by
  have hthird : (decide (s.rd (CNVC.LOL_PREV n dir) ≠ 0) && decide (s.time + 1 - s.rd (CNVC.LOL_PREV n dir) ≤ 1000000000)) = false := by
    rcases hfar with hzero | hlate
    · rw [decide_eq_false (not_not.2 hzero), Bool.false_and]
    · rw [show decide (s.time + 1 - s.rd (CNVC.LOL_PREV n dir) ≤ 1000000000) = false from decide_eq_false (by omega), Bool.and_false]
  unfold State.pllLoss
  dsimp only
  rw [hlol, hfault, hthird]
  rfl

theorem exec_converterPllLossOfLock (hrun : s.convRuns n = true) : exec (.converterPllLossOfLock n dir) s = .next (s.pllLoss n dir) := by
  change Host.Outcome.next (s.when (s.convRuns n) _) = _
  rw [hrun, when_true]

/-- Registers of a PLL's loss of lock. -/
def lossFields (n dir : Nat) : List Field := [pllLol n dir, pllLock n dir, pllCount n dir]

theorem loss_facts : ∀ n : Fin 4, ∀ dir : Fin 2,
    ((lossFields n dir).map Field.key).Nodup ∧ (∀ f ∈ lossFields n dir, isQuiet f.key = true ∧ f.key ≠ (CNVC.LOL_PREV n dir).key ∧
      f.key ≠ (CNVC.LOL_LAST n dir).key) ∧ (IRQ_PEND (sourceOf n 0x12)).key ≠ (CNVC.LOL_PREV n dir).key ∧
    (IRQ_PEND (sourceOf n 0x12)).key ≠ (CNVC.LOL_LAST n dir).key ∧ notPending (lossFields n dir) = true := by decide +kernel

theorem pllDropped_shows : (s.pllDropped n dir).rd (pllLol n dir) = 1 ∧ (s.pllDropped n dir).rd (pllLock n dir) = 0 ∧
    (s.pllDropped n dir).rd (pllCount n dir) = s.oneMore (pllCount n dir) ∧ (s.pllDropped n dir).rd (IRQ_PEND (sourceOf n 0x12)) = 1 := by
  have hbits : ∀ n : Fin 4, ∀ dir : Fin 2, (pllLol n dir).width = 1 := by decide
  obtain ⟨hkeys, hall, hprev, hlast, -⟩ := loss_facts n dir
  simp only [lossFields, List.map_cons, List.map_nil, List.nodup_cons, List.mem_cons, List.not_mem_nil, or_false, not_or] at hkeys
  obtain ⟨⟨hlock, hcnt⟩, hlockcnt, -⟩ := hkeys
  have later : ∀ f ∈ lossFields n dir, (s.pllDropped n dir).rd f =
      (((s.put (pllLol n dir) 1).put (pllLock n dir) 0).bump (pllCount n dir)).rd f := fun f hf => by
    obtain ⟨hq, hp, hl⟩ := hall f hf
    exact (rd_put_ne hl).trans ((rd_put_ne hp).trans ((rd_count_quiet (by omega) (quiet_of_isQuiet hq)).trans
      (rd_raiseCh_quiet (by decide) (quiet_of_isQuiet hq))))
  refine ⟨?_, ?_, ?_, ?_⟩
  · rw [later _ (by simp [lossFields])]
    exact (rd_bump_ne hcnt).trans ((rd_put_ne hlock).trans ((rd_put_same ..).trans (by rw [hbits n dir]; rfl)))
  · rw [later _ (by simp [lossFields])]
    exact (rd_bump_ne hlockcnt).trans ((rd_put_same ..).trans (Nat.zero_mod _))
  · rw [later _ (by simp [lossFields]), rd_bump_same]
    unfold State.oneMore
    rw [rd_put_ne (Ne.symm hlockcnt), rd_put_ne (Ne.symm hcnt)]
  · refine (rd_put_ne hlast).trans ((rd_put_ne hprev).trans ?_)
    exact pendMono_countFor (by omega) _ (sourceOf_lt (by decide)) (raiseCh_pend (by decide))

theorem fieldsKept_pllDropped : FieldsKept (lossFields n dir ++ [CNVC.LOL_PREV n dir, CNVC.LOL_LAST n dir]) [sourceOf n 0x12] [n] s
    (s.pllDropped n dir) := by
  refine fieldsKept_put_of (fieldsKept_put_of (fieldsKept_count (fieldsKept_raiseCh (fieldsKept_bump_of (fieldsKept_put_of
    (fieldsKept_put_of (.refl _ _ _ s) ?_) ?_) ?_) ?_) ?_) ?_) ?_
  all_goals simp [lossFields]

theorem ChannelLocal.pllDropped {r : List (Nat × Nat)} {u : State} (h : ChannelLocal n r u s) (hl : Reaches r (lossFields n dir)) :
    ChannelLocal n r u (s.pllDropped n dir) :=
  ((((((h.put (hl _ (by simp [lossFields]))).put (hl _ (by simp [lossFields]))).bump (hl _ (by simp [lossFields]))).raiseCh
    (by decide)).count (by omega)).put (cell_reach ..)).put (cell_reach ..)

theorem pllDropped_sameArea (x : Area) : SameArea s (s.pllDropped n dir) x :=
  Kept.same (A := fun _ => False) (kept_put _ _ (kept_put _ _ (kept_count (kept_raiseCh (kept_bump (kept_put _ _ (kept_put _ _
    (.refl s)))))))) x id

/-! ## The frame is lost -/

theorem ChannelLocal.loseFrame {r : List (Nat × Nat)} {u : State} (h : ChannelLocal n r u s) (hl : Reaches r (acquiringFields n)) :
    ChannelLocal n r u (s.loseFrame n) := by
  unfold State.loseFrame
  split
  · exact h.setAcquiring n.isLt hl
  · exact h.clearAlign (hl.sub fun f hf => by simp [acquiringFields, fallBackFields, hf])

theorem lof_facts : ∀ n : Fin 4, notPending (lofFields n) = true ∧ apart (lofFields n) (LDS_CH_STATE.STATE n) = true := by decide

theorem loseFrame_state : (s.loseFrame n).chSt n = if s.holdsLock n then ChSt.acquiring else s.chSt n := by
  unfold State.loseFrame
  split
  · exact (setCh_shows (by decide)).1
  · exact ((ChannelLocal.start (lof_facts n).1).clearAlign (reaches_of fun _ h => h)).read (lof_facts n).2

theorem loseFrame_cause (h : s.holdsLock n = true) : (s.loseFrame n).rd (LDS_CH_STATE.CAUSE n) = 4 := by
  unfold State.loseFrame
  rw [if_pos h]
  exact (setCh_shows (by decide)).2.1

/-- What the loss of the receive PLL writes. -/
def receiveLossFields (n : Nat) : List Field := lossFields n 1 ++ acquiringFields n

theorem receive_facts : ∀ n : Fin 4, notPending (receiveLossFields n) = true ∧
    (∀ f ∈ lossFields n 1, apart (acquiringFields n) f = true) ∧
    (∀ m : Fin 4, m.val ≠ n → apart (receiveLossFields n) (LDS_CH_STATE.STATE m) = true ∧
      apart (receiveLossFields n) (OPT_STAT.PHASE m) = true) ∧
    isQuiet (LDS_CH_STATE.STATE n).key = true ∧
    (∀ g ∈ lossFields n 1 ++ [CNVC.LOL_PREV n 1, CNVC.LOL_LAST n 1], g.key ≠ (LDS_CH_STATE.STATE n).key) := by decide +kernel

theorem pllDropped_state : (s.pllDropped n 1).chSt n = s.chSt n ∧ (s.pllDropped n 1).holdsLock n = s.holdsLock n := by
  obtain ⟨-, -, -, hq, hkeys⟩ := receive_facts n
  have hst : (s.pllDropped n 1).chSt n = s.chSt n :=
    (fieldsKept_pllDropped (n := n) (dir := 1)).read (by simpa using sourceOf_lt (by decide)) (by simp; omega) ⟨hq, hkeys⟩
  refine ⟨hst, ?_⟩
  unfold State.holdsLock
  rw [hst]

/-- The receive PLL has lost lock, and with it the frame. -/
structure ReceiveLost (n : Fin 4) (s t : State) : Prop where
  lol : t.rd (CNV_STAT.RX_LOL n) = 1
  lock : t.rd (CNV_PLL_STAT.RX_LOCK n) = 0
  count : t.rd (CNV_PLL_STAT.RX_LOL_CNT n) = s.oneMore (CNV_PLL_STAT.RX_LOL_CNT n)
  pend : t.rd (IRQ_PEND (sourceOf n 0x12)) = 1
  state : t.chSt n = if s.holdsLock n then ChSt.acquiring else s.chSt n
  cause : s.holdsLock n = true → t.rd (LDS_CH_STATE.CAUSE n) = 4
  within : ChannelLocal n (rangesOf (receiveLossFields n)) s t

theorem ReceiveLost.othersKept (h : ReceiveLost n s t) : OthersKept n s t := h.within.othersKept (receive_facts n).2.2.1

theorem receive_lost : ReceiveLost n s ((s.pllDropped n 1).loseFrame n) := by
  obtain ⟨hlol, hlock, hcnt, hpend⟩ := pllDropped_shows (s := s) (n := n) (dir := 1)
  obtain ⟨hst, hhold⟩ := pllDropped_state (s := s) (n := n)
  obtain ⟨hall, happart, -⟩ := receive_facts n
  have hlocal := ChannelLocal.loseFrame (.start (acquiring_facts n).1) (reaches_of fun _ h => h) (n := n) (s := s.pllDropped n 1)
  refine ⟨(hlocal.read (happart _ (by simp [lossFields, pllLol]))).trans hlol, (hlocal.read (happart _ (by simp [lossFields, pllLock]))).trans hlock,
    (hlocal.read (happart _ (by simp [lossFields, pllCount]))).trans hcnt, hlocal.pend _ (sourceOf_lt (by decide)) hpend, ?_, fun hold => ?_,
    ((ChannelLocal.start hall).pllDropped (dir := 1) (reaches_of fun _ h => List.mem_append_left _ h)).loseFrame
      (reaches_of fun _ h => List.mem_append_right _ h)⟩
  · rw [loseFrame_state, hst, hhold]
  · exact loseFrame_cause (hhold.trans hold)

/-! ## The loss of the transmit PLL -/

/-- The transmit PLL has lost lock, and the DACs stand at mid-scale. -/
def State.transmitLost (n : Nat) (s : State) : State := (s.pllDropped n 0).put (LDS_TX_STAT.MUTED n) 1

theorem transmit_facts : ∀ n : Fin 4, (∀ f ∈ lossFields n 0, f.key ≠ (LDS_TX_STAT.MUTED n).key) ∧
    (IRQ_PEND (sourceOf n 0x12)).key ≠ (LDS_TX_STAT.MUTED n).key ∧
    (∀ f ∈ CNV_STAT.REFLOSS n :: CNVC.LOL_PREV n 1 :: LDS_CH_STATE.STATE n :: CNV_PLL_STAT.RX_FAULT n :: lossFields n 1, isQuiet f.key = true ∧
      ∀ g ∈ LDS_TX_STAT.MUTED n :: (lossFields n 0 ++ [CNVC.LOL_PREV n 0, CNVC.LOL_LAST n 0]), g.key ≠ f.key) := by decide +kernel

theorem transmitLost_shows : (s.transmitLost n).rd (CNV_STAT.TX_LOL n) = 1 ∧ (s.transmitLost n).rd (CNV_PLL_STAT.TX_LOCK n) = 0 ∧
    (s.transmitLost n).rd (CNV_PLL_STAT.TX_LOL_CNT n) = s.oneMore (CNV_PLL_STAT.TX_LOL_CNT n) ∧
    (s.transmitLost n).rd (LDS_TX_STAT.MUTED n) = 1 ∧ (s.transmitLost n).rd (IRQ_PEND (sourceOf n 0x12)) = 1 := by
  obtain ⟨hlol, hlock, hcnt, hpend⟩ := pllDropped_shows (s := s) (n := n) (dir := 0)
  obtain ⟨hne, hirq, -⟩ := transmit_facts n
  exact ⟨(rd_put_ne (hne _ (by simp [lossFields, pllLol]))).trans hlol, (rd_put_ne (hne _ (by simp [lossFields, pllLock]))).trans hlock,
    (rd_put_ne (hne _ (by simp [lossFields, pllCount]))).trans hcnt, rd_put_same .., (rd_put_ne hirq).trans hpend⟩

theorem fieldsKept_transmitLost : FieldsKept (LDS_TX_STAT.MUTED n :: (lossFields n 0 ++ [CNVC.LOL_PREV n 0, CNVC.LOL_LAST n 0]))
    [sourceOf n 0x12] [n] s (s.transmitLost n) :=
  fieldsKept_put_of ((fieldsKept_pllDropped (n := n) (dir := 0)).widen (fun f hf => List.mem_cons_of_mem _ hf) (fun _ h => h) fun _ h => h)
    (by simp)

/-! ## The loss of the reference -/

theorem reference_facts : ∀ n : Fin 4, notPending (CNV_STAT.REFLOSS n :: LDS_TX_STAT.MUTED n :: lossFields n 0) = true ∧
    (∀ f ∈ [CNV_STAT.REFLOSS n, CNV_STAT.TX_LOL n, CNV_PLL_STAT.TX_LOL_CNT n], apart (receiveLossFields n) f = true) ∧
    (∀ d : Fin 2, ∀ f ∈ [pllLol n d, pllFaultBit n d, CNVC.LOL_PREV n d, pllCount n d, LDS_CH_STATE.STATE n], f.key ≠ (CNV_STAT.REFLOSS n).key) ∧
    (∀ m : Fin 4, m.val ≠ n → apart (CNV_STAT.REFLOSS n :: LDS_TX_STAT.MUTED n :: lossFields n 0) (LDS_CH_STATE.STATE m) = true ∧
      apart (CNV_STAT.REFLOSS n :: LDS_TX_STAT.MUTED n :: lossFields n 0) (OPT_STAT.PHASE m) = true) := by decide +kernel

theorem referenceLoss_drops (hrun : s.convRuns n = true) (hlol : ∀ d : Fin 2, s.on (pllLol n d) = false)
    (hfault : ∀ d : Fin 2, s.on (pllFaultBit n d) = false) (hfar : ∀ d : Fin 2, s.farApart n d) :
    ∃ t, exec (.converterReferenceLoss n) s = .next t ∧ t.rd (CNV_STAT.REFLOSS n) = 1 ∧
      t.rd (CNV_STAT.TX_LOL n) = 1 ∧ t.rd (CNV_STAT.RX_LOL n) = 1 ∧
      t.rd (CNV_PLL_STAT.TX_LOL_CNT n) = s.oneMore (CNV_PLL_STAT.TX_LOL_CNT n) ∧
      t.rd (CNV_PLL_STAT.RX_LOL_CNT n) = s.oneMore (CNV_PLL_STAT.RX_LOL_CNT n) ∧
      (t.chSt n = (if s.holdsLock n then ChSt.acquiring else s.chSt n)) ∧ OthersKept n s t := by
  obtain ⟨hpend, happart, hne, hothers⟩ := reference_facts n
  obtain ⟨-, -, hkept⟩ := transmit_facts n
  have href : ∀ d : Fin 2, ∀ f ∈ [pllLol n d, pllFaultBit n d, CNVC.LOL_PREV n d, pllCount n d, LDS_CH_STATE.STATE n],
      (s.put (CNV_STAT.REFLOSS n) 1).rd f = s.rd f := fun d f hf => rd_put_ne (hne d f hf)
  have htx : ∀ f ∈ CNV_STAT.REFLOSS n :: CNVC.LOL_PREV n 1 :: LDS_CH_STATE.STATE n :: CNV_PLL_STAT.RX_FAULT n :: lossFields n 1,
      ((s.put (CNV_STAT.REFLOSS n) 1).transmitLost n).rd f = (s.put (CNV_STAT.REFLOSS n) 1).rd f := fun f hf =>
    fieldsKept_transmitLost.read (by simpa using sourceOf_lt (by decide)) (by simp; omega) (hkept f hf)
  have hfirst : (s.put (CNV_STAT.REFLOSS n) 1).pllLoss n 0 = (s.put (CNV_STAT.REFLOSS n) 1).transmitLost n := by
    have heq := pllLoss_eq (s := s.put (CNV_STAT.REFLOSS n) 1) (n := n) (dir := 0) ((on_congr (href 0 _ (by simp))).trans (hlol 0))
      ((on_congr (href 0 _ (by simp))).trans (hfault 0)) (by
        unfold State.farApart
        rw [href 0 _ (by simp)]
        exact hfar 0)
    exact heq
  have hboth : ∀ f ∈ [pllLol n 1, pllFaultBit n 1, CNVC.LOL_PREV n 1, pllCount n 1, LDS_CH_STATE.STATE n],
      ((s.put (CNV_STAT.REFLOSS n) 1).transmitLost n).rd f = s.rd f := fun f hf => by
    refine (htx f ?_).trans (href 1 f hf)
    simp only [List.mem_cons, List.not_mem_nil, or_false] at hf
    rcases hf with rfl | rfl | rfl | rfl | rfl <;> simp [lossFields, pllFaultBit]
  have hsecond : ((s.put (CNV_STAT.REFLOSS n) 1).transmitLost n).pllLoss n 1 =
      (((s.put (CNV_STAT.REFLOSS n) 1).transmitLost n).pllDropped n 1).loseFrame n := by
    have heq := pllLoss_eq (s := (s.put (CNV_STAT.REFLOSS n) 1).transmitLost n) (n := n) (dir := 1)
      ((on_congr (hboth _ (by simp))).trans (hlol 1)) ((on_congr (hboth _ (by simp))).trans (hfault 1)) (by
        unfold State.farApart
        rw [hboth _ (by simp)]
        have htime : ((s.put (CNV_STAT.REFLOSS n) 1).transmitLost n).time = s.time := pllDropped_sameArea (n := n) (dir := 0) .time
        rw [htime]
        exact hfar 1)
    exact heq
  have hlost := receive_lost (n := n) (s := (s.put (CNV_STAT.REFLOSS n) 1).transmitLost n)
  obtain ⟨hlol0, -, hcnt0, -, -⟩ := transmitLost_shows (n := n) (s := s.put (CNV_STAT.REFLOSS n) 1)
  have hst : ((s.put (CNV_STAT.REFLOSS n) 1).transmitLost n).chSt n = s.chSt n := hboth _ (by simp)
  have hhold : ((s.put (CNV_STAT.REFLOSS n) 1).transmitLost n).holdsLock n = s.holdsLock n := by
    unfold State.holdsLock
    rw [hst]
  have hbefore : ChannelLocal n (rangesOf (CNV_STAT.REFLOSS n :: LDS_TX_STAT.MUTED n :: lossFields n 0)) s
      ((s.put (CNV_STAT.REFLOSS n) 1).transmitLost n) :=
    (((ChannelLocal.start hpend).put (reaches_of (fun _ h => h) _ (by simp))).pllDropped (dir := 0)
      (reaches_of fun f hf => List.mem_cons_of_mem _ (List.mem_cons_of_mem _ hf))).put (reaches_of (fun _ h => h) _ (by simp))
  refine ⟨_, ?_, (hlost.within.read (happart _ (by simp))).trans ((htx _ (by simp)).trans (rd_put_same ..)),
    (hlost.within.read (happart _ (by simp))).trans hlol0, hlost.lol, (hlost.within.read (happart _ (by simp))).trans (hcnt0.trans ?_),
    hlost.count.trans ?_, ?_, (hbefore.othersKept hothers).trans hlost.othersKept⟩
  · change Host.Outcome.next (s.when (s.convRuns n) _) = _
    rw [hrun, when_true, hfirst, hsecond]
  · unfold State.oneMore
    rw [show (s.put (CNV_STAT.REFLOSS n) 1).rd (CNV_PLL_STAT.TX_LOL_CNT n) = _ from href 0 (pllCount n 0) (by simp)]
    rfl
  · unfold State.oneMore
    rw [show ((s.put (CNV_STAT.REFLOSS n) 1).transmitLost n).rd (CNV_PLL_STAT.RX_LOL_CNT n) = _ from hboth (pllCount n 1) (by simp)]
    rfl
  · rw [hlost.state, hhold, hst]

end

end Sys2Proof.Machine
end

section
/-! O21. The locks and faults of the converters' PLLs, and the signal detectors (R119 to R122, R148). -/

set_option Elab.async false

namespace Sys2Proof.Machine

section
variable {n : Fin 4} {dir : Fin 2} {s t : State}

theorem pllLoss_transmit (hlol : s.on (CNV_STAT.TX_LOL n) = false) (hfault : s.on (CNV_PLL_STAT.TX_FAULT n) = false)
    (hfar : s.farApart n 0) : s.pllLoss n 0 = s.transmitLost n := by
  have heq := pllLoss_eq (s := s) (n := n) (dir := 0) hlol hfault hfar
  exact heq

theorem pllLoss_receive (hlol : s.on (CNV_STAT.RX_LOL n) = false) (hfault : s.on (CNV_PLL_STAT.RX_FAULT n) = false)
    (hfar : s.farApart n 1) : s.pllLoss n 1 = (s.pllDropped n 1).loseFrame n := by
  have heq := pllLoss_eq (s := s) (n := n) (dir := 1) hlol hfault hfar
  exact heq

/-! ## Lock -/

/-- A PLL has lock, and a reference with it. -/
def State.pllLocked (n dir : Nat) (s : State) : State :=
  ((s.put (pllLol n dir) 0).put (pllLock n dir) 1).put (CNV_STAT.REFLOSS n) 0

theorem exec_converterPllLock (hrun : s.convRuns n = true) (hfault : s.on (pllFaultBit n dir) = false) :
    exec (.converterPllLock n dir) s = .next ((s.pllLocked n dir).when (dir = 1) (·.acqResume n)) := by
  change Host.Outcome.next (s.when (s.convRuns n && !s.on (pllFaultBit n dir)) _) = _
  rw [hrun, hfault]
  rfl

theorem locked_facts : ∀ n : Fin 4, ∀ dir : Fin 2,
    (∀ f ∈ [pllLol n dir, pllLock n dir, CNV_STAT.REFLOSS n], ∀ g ∈ warmFields n, g.key ≠ f.key) ∧
    (pllLol n dir).key ≠ (pllLock n dir).key ∧ (pllLol n dir).key ≠ (CNV_STAT.REFLOSS n).key ∧
    (pllLock n dir).key ≠ (CNV_STAT.REFLOSS n).key ∧ 0 < (pllLock n dir).width ∧
    (∀ f ∈ [LDS_CH_STATE.STATE n, LDSC.WAIT n, OPT_STAT.LOS n, LDSC.ABSENT n],
      f.key ≠ (pllLol n dir).key ∧ f.key ≠ (pllLock n dir).key ∧ f.key ≠ (CNV_STAT.REFLOSS n).key) := by decide +kernel

theorem pllLocked_ne {f : Field} (hf : f ∈ [LDS_CH_STATE.STATE n, LDSC.WAIT n, OPT_STAT.LOS n, LDSC.ABSENT n]) :
    (s.pllLocked n dir).rd f = s.rd f := by
  obtain ⟨hlol, hlock, href⟩ := (locked_facts n dir).2.2.2.2.2 f hf
  exact (rd_put_ne href).trans ((rd_put_ne hlock).trans (rd_put_ne hlol))

theorem pllLocked_shows : (s.pllLocked n dir).rd (pllLol n dir) = 0 ∧ (s.pllLocked n dir).rd (pllLock n dir) = 1 ∧
    (s.pllLocked n dir).rd (CNV_STAT.REFLOSS n) = 0 := by
  obtain ⟨-, hlollock, hlolref, hlockref, hwidth, -⟩ := locked_facts n dir
  refine ⟨(rd_put_ne hlolref).trans ((rd_put_ne hlollock).trans ((rd_put_same ..).trans (Nat.zero_mod _))),
    (rd_put_ne hlockref).trans ((rd_put_same ..).trans (Nat.mod_eq_of_lt ?_)), rd_put_same ..⟩
  exact Nat.one_lt_two_pow (by omega)

/-- An acquisition that waited, with nothing left to wait for, goes on at step 2. -/
theorem acqResume_step (hst : s.chSt n = ChSt.acquiring) (hwait : s.on (LDSC.WAIT n) = true) (hlos : s.on (OPT_STAT.LOS n) = false)
    (hlol : s.on (CNV_STAT.RX_LOL n) = false) (habsent : s.on (LDSC.ABSENT n) = false) :
    (s.acqResume n).rd (LDS_ACQ_STAT.STEP n) = 2 := by
  unfold State.acqResume
  rw [decide_eq_true hst, hwait, Bool.and_true, when_true]
  unfold State.warmStart
  dsimp only
  rw [hlos, hlol, habsent]
  exact rd_put_same ..

theorem acqResume_sameArea (x : Area) : SameArea s (s.acqResume n) x := (kept_acqResume (A := fun _ => False) (.refl s)).same x id

theorem converterPllLock_shows (hrun : s.convRuns n = true) (hfault : s.on (pllFaultBit n dir) = false) :
    ∃ t, exec (.converterPllLock n dir) s = .next t ∧ t.rd (pllLol n dir) = 0 ∧ t.rd (pllLock n dir) = 1 ∧
      t.rd (CNV_STAT.REFLOSS n) = 0 ∧
      (dir = 1 → s.chSt n = ChSt.acquiring → s.on (LDSC.WAIT n) = true → s.on (OPT_STAT.LOS n) = false →
        s.on (LDSC.ABSENT n) = false → t.rd (LDS_ACQ_STAT.STEP n) = 2) ∧
      t.ch = s.ch ∧ t.flow = s.flow ∧
      SameFields (pllLol n dir :: pllLock n dir :: CNV_STAT.REFLOSS n :: warmFields n) s t := by
  obtain ⟨hlol, hlock, href⟩ := pllLocked_shows (s := s) (n := n) (dir := dir)
  have hwarm := (locked_facts n dir).1
  have hresume : SameFields (warmFields n) (s.pllLocked n dir) ((s.pllLocked n dir).when (dir = 1) (·.acqResume n)) :=
    sameFields_when_fn (.refl _ _) fun _ hu => sameFields_acqResume hu fun _ hf => hf
  refine ⟨_, exec_converterPllLock hrun hfault, (hresume _ (hwarm _ (by simp))).trans hlol, (hresume _ (hwarm _ (by simp))).trans hlock,
    (hresume _ (hwarm _ (by simp))).trans href, fun hdir hst hwait hlos habsent => ?_,
    ?_, ?_, ?_⟩
  · subst hdir
    refine acqResume_step ?_ ?_ ?_ ?_ ?_
    · unfold State.chSt at hst ⊢
      rwa [pllLocked_ne (by simp)]
    · rwa [on_congr (pllLocked_ne (by simp))]
    · rwa [on_congr (pllLocked_ne (by simp))]
    · unfold State.on
      rw [show CNV_STAT.RX_LOL n = pllLol n (1 : Fin 2) from rfl, hlol]
      rfl
    · rwa [on_congr (pllLocked_ne (by simp))]
  · cases decide (dir = 1)
    · rfl
    · exact acqResume_sameArea .ch
  · cases decide (dir = 1)
    · rfl
    · exact acqResume_sameArea .flow
  · refine sameFields_when_fn (sameFields_put_of (sameFields_put_of (sameFields_put_of (.refl _ s) ?_) ?_) ?_) fun _ hu =>
      sameFields_acqResume hu fun f hf => ?_
    · simp
    · simp
    · simp
    · simp [hf]

/-! ## A faulted PLL -/

/-- Registers that a PLL's fault writes before the channel is looked at. -/
def pllFaultFields (n dir : Nat) : List Field := [pllFaultBit n dir, CNV_RATE.TX_ACT n, CNV_RATE.RX_ACT n, CNV_RATE.MAXRS n]

/-- The fault shows, and no rate is left. -/
def State.pllFaulted (n dir : Nat) (s : State) : State := (s.put (pllFaultBit n dir) 1).convRates n

theorem faulted_facts : ∀ n : Fin 4, ∀ dir : Fin 2,
    pllFaultBit n dir ∈ [CNV_PLL_STAT.RX_FAULT n, CNV_PLL_STAT.TX_FAULT n] ∧ pllFaultBit n dir ≠ CNV_RATE.MAXRS n ∧
    (pllFaultBit n dir).width = 1 ∧ notPending (pllFaultFields n dir) = true ∧
    apart (ruledFields n ++ quietFields n) (pllFaultBit n dir) = true ∧
    apart (pllFaultFields n dir) (LDS_CH_STATE.STATE n) = true ∧ apart (pllFaultFields n dir) DEV_MODE.MODE = true ∧
    (∀ m : Fin 4, m.val ≠ n → apart (pllFaultFields n dir) (LDS_CH_STATE.STATE m) = true ∧
      apart (pllFaultFields n dir) (OPT_STAT.PHASE m) = true) := by decide +kernel

theorem pllFaulted_within : ChannelLocal n (rangesOf (pllFaultFields n dir)) s (s.pllFaulted n dir) := by
  obtain ⟨-, -, -, hpend, -⟩ := faulted_facts n dir
  have hl : Reaches (rangesOf (pllFaultFields n dir)) (pllFaultFields n dir) := reaches_of fun _ h => h
  exact ((((ChannelLocal.start hpend).put (hl _ (by simp [pllFaultFields]))).put (hl _ (by simp [pllFaultFields]))).put
    (hl _ (by simp [pllFaultFields]))).put (hl _ (by simp [pllFaultFields]))

theorem pllFaulted_bit : (s.pllFaulted n dir).rd (pllFaultBit n dir) = 1 := by
  obtain ⟨hmem, hne, hwidth, -⟩ := faulted_facts n dir
  refine (convRates_ne ?_ hne).trans ((rd_put_same ..).trans (by rw [hwidth]; rfl))
  simp only [List.mem_cons, List.not_mem_nil, or_false] at hmem
  rcases hmem with h | h <;> rw [h] <;> simp

theorem pllFaulted_fault : (s.pllFaulted n dir).rd (CNV_PLL_STAT.RX_FAULT n) = 1 ∨ (s.pllFaulted n dir).rd (CNV_PLL_STAT.TX_FAULT n) = 1 := by
  have hbit := pllFaulted_bit (s := s) (n := n) (dir := dir)
  obtain ⟨hmem, -⟩ := faulted_facts n dir
  simp only [List.mem_cons, List.not_mem_nil, or_false] at hmem
  rcases hmem with h | h
  · exact .inl (by rwa [h] at hbit)
  · exact .inr (by rwa [h] at hbit)

theorem pllFaulted_rate : (s.pllFaulted n dir).rd (CNV_RATE.MAXRS n) = 0 := by
  have hput : (s.put (pllFaultBit n dir) 1).rd (pllFaultBit n dir) = 1 := (rd_put_same ..).trans (by rw [(faulted_facts n dir).2.2.1]; rfl)
  refine convRates_shut ?_
  obtain ⟨hmem, -⟩ := faulted_facts n dir
  simp only [List.mem_cons, List.not_mem_nil, or_false] at hmem
  rcases hmem with h | h
  · exact .inl (by rwa [h] at hput ⊢)
  · exact .inr (by rwa [h] at hput ⊢)

theorem breach_facts : ∀ n : Fin 4, (∀ f ∈ [CNV_PLL_STAT.RX_FAULT n, CNV_PLL_STAT.TX_FAULT n, CNV_RATE.MAXRS n, LDS_CH_STATE.STATE n,
    DEV_MODE.MODE], f.key ≠ (FABC.COND n).key ∧ isQuiet f.key = true ∧ f.key ≠ (LDS_CH_STATE.MAXMODE n).key ∧
      ∀ g ∈ reachFields n, g.key ≠ f.key) := by decide

theorem fenceMarked_ne {f : Field} (hf : f ∈ [CNV_PLL_STAT.RX_FAULT n, CNV_PLL_STAT.TX_FAULT n, CNV_RATE.MAXRS n, LDS_CH_STATE.STATE n,
    DEV_MODE.MODE]) : (s.fenceMarked n).rd f = s.rd f := by
  obtain ⟨hcond, hq, hmode, hreach⟩ := breach_facts n f hf
  exact (recompute_ne hq hmode hreach).trans (rd_putBit_ne hcond)

/-- A faulted PLL leaves the channel shut once its capacity is computed. -/
theorem fenceMarked_shut (hfault : s.rd (CNV_PLL_STAT.RX_FAULT n) = 1 ∨ s.rd (CNV_PLL_STAT.TX_FAULT n) = 1)
    (hrate : s.rd (CNV_RATE.MAXRS n) = 0) : Shut n (s.fenceMarked n) := by
  have hbreach : (s.breach n 2).rd (CNV_PLL_STAT.RX_FAULT n) = 1 ∨ (s.breach n 2).rd (CNV_PLL_STAT.TX_FAULT n) = 1 := by
    rcases hfault with h | h
    · exact .inl ((rd_putBit_ne (breach_facts n _ (by simp)).1).trans h)
    · exact .inr ((rd_putBit_ne (breach_facts n _ (by simp)).1).trans h)
  refine ⟨?_, (fenceMarked_ne (by simp)).trans hrate, recompute_mode.trans (maxModeOf_fault hbreach)⟩
  rcases hfault with h | h
  · exact .inl ((fenceMarked_ne (by simp)).trans h)
  · exact .inr ((fenceMarked_ne (by simp)).trans h)

/-- What the fault of a PLL shows of a channel: the whole of it fenced. -/
structure FencedWhole (n : Fin 4) (t : State) : Prop where
  state : t.chSt n = ChSt.fenced
  cause : t.rd (LDS_CH_STATE.CAUSE n) = 5
  phase : t.phase n = Phase.off

theorem ChannelFenced.whole {u : State} (h : ChannelFenced n u t) : FencedWhole n t := ⟨h.state, h.cause, h.phase⟩

theorem evalMode_whole (h : FencedWhole n s) : FencedWhole n s.evalMode := by
  have hfacts : ∀ n : Fin 4, ∀ f ∈ [LDS_CH_STATE.STATE n, LDS_CH_STATE.CAUSE n, OPT_STAT.PHASE n], isQuiet f.key = true ∧
      ∀ g ∈ modeFields, g.key ≠ f.key := by decide
  have hread : ∀ f ∈ [LDS_CH_STATE.STATE n, LDS_CH_STATE.CAUSE n, OPT_STAT.PHASE n], s.evalMode.rd f = s.rd f := fun f hf =>
    (fieldsKept_evalMode (.refl modeFields [0] [] s) (fun _ h => h) (by simp)).read (by simp) (by simp) (hfacts n f hf)
  exact ⟨(hread _ (by simp)).trans h.state, (hread _ (by simp)).trans h.cause, (hread _ (by simp)).trans h.phase⟩

/-- A shut channel that refuses its mode is FENCED. -/
theorem refuseMode_whole (hop : s.operating = true) (hshut : Shut n s) (hlight : s.lightUp n = true) : FencedWhole n (s.refuseMode n) := by
  have hmode : (s.darken n).operating = s.operating := by
    have hpart : ∀ n : Fin 4, notPending (darkenFields n) = true ∧ apart (darkenFields n) DEV_MODE.MODE = true := by decide
    have hread : (s.darken n).rd DEV_MODE.MODE = s.rd DEV_MODE.MODE :=
      ((ChannelLocal.start (hpart n).1).darken (reaches_of fun _ h => h)).read (hpart n).2
    unfold State.operating State.mode
    rw [hread]
  obtain ⟨-, hcause, hphase⟩ := refuseMode_refused hlight
  refine ⟨?_, hcause, hphase⟩
  rw [refuseMode_eq hlight]
  exact setDark_shut (hmode.trans hop) ((Fell.refl calm_quiet s).lightOut.shut hshut)

theorem withdrawn_facts : ∀ n : Fin 4, notPending (rszFailFields n) = true ∧ apart (rszFailFields n) (LDS_CH_STATE.STATE n) = true := by
  decide

theorem withdrawn_state {c d : Nat} : ((s.rszFail n c).rszCancel n d).chSt n = s.chSt n := by
  have hfail : (s.rszFail n c).chSt n = s.chSt n :=
    ((ChannelLocal.start (withdrawn_facts n).1).rszFail (reaches_of fun _ h => h)).read (withdrawn_facts n).2
  refine Eq.trans ?_ hfail
  unfold State.rszCancel
  dsimp only
  split <;> rfl

/-- A shut channel stays so through the fence of a unit of it. -/
theorem unitChanged_shut (hop : s.operating = true) (hshut : Shut n (s.fenceMarked n)) : Shut n (s.unitChanged n true) := by
  have hmarked := (Fell.refl (calm_quiet (n := n)) (s.fenceMarked n)).rszFence
  rw [unitChanged_fence, if_pos hop]
  split
  · exact hmarked.fenceChannel.shut hshut
  · exact hmarked.evalMode.shut hshut

/-- The fence of a unit of a shut channel fences the whole of it. -/
theorem unitChanged_whole (hop : s.operating = true) (hshut : Shut n (s.fenceMarked n)) (hst : s.chSt n ≠ ChSt.fenced) :
    FencedWhole n (s.unitChanged n true) := by
  have hmarked : (s.fenceMarked n).operating = s.operating := by
    unfold State.operating State.mode
    rw [fenceMarked_ne (by simp)]
  have hstate : (s.fenceMarked n).chSt n = s.chSt n := fenceMarked_ne (by simp)
  have hfence : Shut n ((s.fenceMarked n).rszFence n) := (Fell.refl calm_quiet (s.fenceMarked n)).rszFence.shut hshut
  have hzero : decide (((s.fenceMarked n).rszFence n).rd (LDS_CH_STATE.MAXMODE n) = 0) = true := decide_eq_true hfence.2.2
  have hresize : ((s.fenceMarked n).rszFence n).chSt n ≠ ChSt.fenced ∨ FencedWhole n ((s.fenceMarked n).rszFence n) := by
    rcases rszFence_cases (s := s.fenceMarked n) (n := n) with heq | heq | heq
    · exact .inl (by rwa [heq, hstate])
    · by_cases hlight : (s.fenceMarked n).lightUp n = true
      · exact .inr (by rw [heq]; exact refuseMode_whole (hmarked.trans hop) hshut hlight)
      · refine .inl ?_
        rw [heq]
        unfold State.refuseMode
        rw [eq_false_of_ne_true hlight, when_false]
        rwa [hstate]
    · exact .inl (by rwa [heq, withdrawn_state, hstate])
  rw [unitChanged_fence, if_pos hop, hzero, Bool.true_and]
  rcases hresize with hne | hwhole
  · rw [if_pos (decide_eq_true hne)]
    exact fenceChannel_fenced.whole
  · rw [if_neg (by simpa using hwhole.state)]
    exact evalMode_whole hwhole

theorem exec_converterPllFault (hlol : s.on (pllLol n dir) = true) (hfault : s.on (pllFaultBit n dir) = false) :
    exec (.converterPllFault n dir) s = .next (((s.pllFaulted n dir).unitChanged n true).when
      (((s.pllFaulted n dir).unitChanged n true).chSt n ≠ ChSt.fenced) (·.fenceChannel n)) := by
  change Host.Outcome.next (s.when (s.on (pllLol n dir) && !s.on (pllFaultBit n dir)) _) = _
  rw [hlol, hfault]
  rfl

theorem converterPllFault_fences (hop : s.operating = true) (hlol : s.on (pllLol n dir) = true)
    (hfault : s.on (pllFaultBit n dir) = false) (hst : s.chSt n ≠ ChSt.fenced) :
    ∃ t, exec (.converterPllFault n dir) s = .next t ∧ t.on (pllFaultBit n dir) = true ∧ t.rd (CNV_RATE.MAXRS n) = 0 ∧
      t.rd (LDS_CH_STATE.MAXMODE n) = 0 ∧ t.chSt n = ChSt.fenced ∧ t.rd (LDS_CH_STATE.CAUSE n) = 5 ∧ t.phase n = Phase.off ∧
      OthersKept n s t := by
  obtain ⟨-, -, -, -, hapart, hstate, hmode, hothers⟩ := faulted_facts n dir
  have hop' : (s.pllFaulted n dir).operating = true := by
    unfold State.operating State.mode at hop ⊢
    rwa [pllFaulted_within.read hmode]
  have hshut : Shut n ((s.pllFaulted n dir).fenceMarked n) := fenceMarked_shut pllFaulted_fault pllFaulted_rate
  have hst' : (s.pllFaulted n dir).chSt n ≠ ChSt.fenced := by
    unfold State.chSt at hst ⊢
    rwa [pllFaulted_within.read hstate]
  obtain ⟨hwhole, hcause, hphase⟩ := unitChanged_whole hop' hshut hst'
  have hfell := (unitChanged_fell (s := s.pllFaulted n dir) (n := n)).1
  have hafter : Shut n ((s.pllFaulted n dir).unitChanged n true) := unitChanged_shut hop' hshut
  refine ⟨(s.pllFaulted n dir).unitChanged n true, ?_, ?_, hafter.2.1, hafter.2.2, hwhole, hcause, hphase,
    (pllFaulted_within.othersKept hothers).trans hfell.othersKept⟩
  · rw [exec_converterPllFault hlol hfault, hwhole]
    rfl
  · unfold State.on
    rw [hfell.within.read hapart, pllFaulted_bit]
    rfl

/-! ## The signal detectors -/

theorem detector_facts : ∀ n : Fin 4, (CNV_STAT.LOS n).key ≠ (CNV_STAT.LOS_EV n).key ∧
    (CNV_STAT.LOS n).key ≠ (CNV_STAT.FE_MISMATCH n).key ∧ (CNV_STAT.FE_MISMATCH n).key ≠ (CNV_STAT.LOS_EV n).key ∧
    isQuiet (CNV_STAT.FE_MISMATCH n).key = true ∧ isQuiet (CNV_STAT.LOS_EV n).key = true ∧ isQuiet (CNV_STAT.CLIP_HI n).key = true ∧
    (∀ a : Fin 4, isQuiet (CNV_CLIP_A.COUNT n a).key = true ∧ (CNV_CLIP_A.COUNT n a).key ≠ (CNV_STAT.CLIP_HI n).key) := by
  decide +kernel

theorem adcLosDeclare_shows (hrun : s.convRuns n = true) (hlos : s.on (CNV_STAT.LOS n) = false) :
    ∃ t, exec (.adcLosDeclare n) s = .next t ∧ t.rd (CNV_STAT.LOS n) = 1 ∧ t.rd (CNV_STAT.LOS_EV n) = 1 ∧
      t.ch = s.ch ∧ t.flow = s.flow ∧ SameFields [CNV_STAT.LOS n, CNV_STAT.LOS_EV n] s t := by
  refine ⟨(s.put (CNV_STAT.LOS n) 1).put (CNV_STAT.LOS_EV n) 1, ?_, (rd_put_ne (detector_facts n).1).trans (rd_put_same ..),
    rd_put_same .., rfl, rfl, sameFields_put_of (sameFields_put_of (.refl _ s) (by simp)) (by simp)⟩
  change Host.Outcome.next (s.when (s.convRuns n && !s.on (CNV_STAT.LOS n)) _) = _
  rw [hrun, hlos]
  rfl

theorem adcLosClear_shows (hrun : s.convRuns n = true) (hlos : s.on (CNV_STAT.LOS n) = true) :
    ∃ t, exec (.adcLosClear n) s = .next t ∧ t.rd (CNV_STAT.LOS n) = 0 ∧ t.rd (CNV_STAT.FE_MISMATCH n) = 0 ∧
      t.ch = s.ch ∧ t.flow = s.flow ∧ SameFields [CNV_STAT.LOS n, CNV_STAT.FE_MISMATCH n] s t := by
  refine ⟨(s.put (CNV_STAT.LOS n) 0).put (CNV_STAT.FE_MISMATCH n) 0, ?_, (rd_put_ne (detector_facts n).2.1).trans (rd_put_same ..),
    rd_put_same .., rfl, rfl, sameFields_put_of (sameFields_put_of (.refl _ s) (by simp)) (by simp)⟩
  change Host.Outcome.next (s.when (s.convRuns n && s.on (CNV_STAT.LOS n)) _) = _
  rw [hrun, hlos]
  rfl

theorem frontEndMismatch_shows (hlos : s.on (CNV_STAT.LOS n) = true) (hlit : s.phase n = Phase.lit)
    (hopt : s.on (OPT_STAT.LOS n) = false) (hfe : s.on (CNV_STAT.FE_MISMATCH n) = false) :
    ∃ t, exec (.frontEndMismatch n) s = .next t ∧ t.rd (CNV_STAT.FE_MISMATCH n) = 1 ∧ t.rd (CNV_STAT.LOS_EV n) = 1 ∧
      t.rd (IRQ_PEND (sourceOf n 0x13)) = 1 ∧ t.ch = s.ch ∧ t.flow = s.flow ∧
      FieldsKept [CNV_STAT.FE_MISMATCH n, CNV_STAT.LOS_EV n] [sourceOf n 0x13] [4] s t := by
  obtain ⟨-, -, hne, hqfe, hqev, -⟩ := detector_facts n
  refine ⟨((s.put (CNV_STAT.FE_MISMATCH n) 1).put (CNV_STAT.LOS_EV n) 1).raiseCh n 0x13, ?_,
    (rd_raiseCh_quiet (by decide) (quiet_of_isQuiet hqfe)).trans ((rd_put_ne hne).trans (rd_put_same ..)),
    (rd_raiseCh_quiet (by decide) (quiet_of_isQuiet hqev)).trans (rd_put_same ..), raiseCh_pend (by decide), raiseCh_ch .., raiseCh_flow ..,
    fieldsKept_raiseCh (fieldsKept_put_of (fieldsKept_put_of (.refl _ _ _ s) (by simp)) (by simp)) (by simp)⟩
  change Host.Outcome.next (s.when (s.on (CNV_STAT.LOS n) && decide (s.phase n = Phase.lit) && !s.on (OPT_STAT.LOS n) &&
    !s.on (CNV_STAT.FE_MISMATCH n)) _) = _
  rw [hlos, decide_eq_true hlit, hopt, hfe]
  rfl

/-- A bit of CLIP_HI put leaves the other lanes' bits. -/
theorem clipBit_kept : ∀ a b : Fin 4, b ≠ a → ∀ v < 16, bit (setBit v a % 16) b = bit v b ∧ bit (clrBit v a % 16) b = bit v b := by
  decide

theorem clipHi_others {a b : Fin 4} {x : Bool} (h : b ≠ a) :
    (s.putBit (CNV_STAT.CLIP_HI n) a x).rdBit (CNV_STAT.CLIP_HI n) b = s.rdBit (CNV_STAT.CLIP_HI n) b := by
  obtain ⟨hset, hclr⟩ := clipBit_kept a b h (s.rd (CNV_STAT.CLIP_HI n)) (rd_lt s (CNV_STAT.CLIP_HI n))
  unfold State.rdBit State.putBit
  rw [rd_put_same]
  change decide (bit ((if x = true then _ else _) % 16) b = 1) = _
  cases x
  · rw [if_neg Bool.false_ne_true, hclr]
  · rw [if_pos rfl, hset]

/-- The clipped samples counted. -/
def State.clipCounted (n a clipped : Nat) (s : State) : State :=
  (s.addSat (CNV_CLIP_A.COUNT n a) clipped).countFor n .cnv 0x04 clipped none

theorem adcClipExcess_shows {a : Fin 4} {clipped : Nat} (hrun : s.convRuns n = true) :
    ∃ t, exec (.adcClipExcess n a clipped) s = .next t ∧
      t.rd (CNV_CLIP_A.COUNT n a) = Nat.min (s.rd (CNV_CLIP_A.COUNT n a) + clipped) (2 ^ (CNV_CLIP_A.COUNT n a).width - 1) ∧
      t.rdBit (CNV_STAT.CLIP_HI n) a = decide (6000000 * s.rd (CNV_RATE.RX_ACT n) < 10000 * clipped) ∧
      (∀ b : Fin 4, b ≠ a → t.rdBit (CNV_STAT.CLIP_HI n) b = s.rdBit (CNV_STAT.CLIP_HI n) b) ∧ t.ch = s.ch ∧
      t.flow = s.flow ∧ FieldsKept [CNV_CLIP_A.COUNT n a, CNV_STAT.CLIP_HI n] [] [n] s t := by
  obtain ⟨-, -, -, -, -, hqhi, hcount⟩ := detector_facts n
  obtain ⟨hqcnt, hne⟩ := hcount a
  have hsum : (s.clipCounted n a clipped).rd (CNV_CLIP_A.COUNT n a) =
      Nat.min (s.rd (CNV_CLIP_A.COUNT n a) + clipped) (2 ^ (CNV_CLIP_A.COUNT n a).width - 1) := by
    refine (rd_countFor_quiet (by omega) (quiet_of_isQuiet hqcnt)).trans ((rd_put_same ..).trans (Nat.mod_eq_of_lt ?_))
    have hpos := Nat.two_pow_pos (CNV_CLIP_A.COUNT n a).width
    exact lt_of_le_of_lt (Nat.min_le_right _ _) (by omega)
  have hkept : (s.clipCounted n a clipped).rd (CNV_STAT.CLIP_HI n) = s.rd (CNV_STAT.CLIP_HI n) :=
    (rd_countFor_quiet (by omega) (quiet_of_isQuiet hqhi)).trans (rd_addSat_ne (Ne.symm hne))
  refine ⟨(s.clipCounted n a clipped).putBit (CNV_STAT.CLIP_HI n) a (600 * s.rd (CNV_RATE.RX_ACT n) < clipped), ?_,
    (rd_putBit_ne hne).trans hsum, ?_, fun b hb => ?_, countFor_sameArea .ch, countFor_sameArea .flow,
    fieldsKept_putBit_of (fieldsKept_countFor (fieldsKept_addSat_of (.refl _ _ _ s) (by simp)) (by simp)) (by simp)⟩
  · change Host.Outcome.next (s.when (s.convRuns n) _) = _
    rw [hrun]
    rfl
  · rw [rdBit_putBit (show a.val < 4 from a.isLt)]
    exact decide_eq_decide.2 (by omega)
  · rw [clipHi_others hb]
    unfold State.rdBit
    rw [hkept]

end

/-- Settles O21: loss of lock and lock are plain register writes but for the frame that the receive PLL's loss costs and the step at which
a waiting acquisition goes on; a PLL's fault leaves no rate, so that the channel is fenced whole whether its resize ends first or not. -/
theorem converterClocksAndSignal : Obligations.ConverterClocksAndSignal := by
  unfold Obligations.ConverterClocksAndSignal
  refine ⟨fun s n hrun hlol hfault hfar => ?_, fun s n hrun hlol hfault hfar hlock => ?_, fun s n hrun hlol hfault hfar hlock => ?_,
    fun s n dir hrun hfault => converterPllLock_shows hrun hfault,
    fun s n hrun hlol hfault hfar => referenceLoss_drops hrun hlol hfault hfar,
    fun s n dir hop hlol hfault hst => converterPllFault_fences hop hlol hfault hst,
    fun s n hrun hlos => adcLosDeclare_shows hrun hlos, fun s n hrun hlos => adcLosClear_shows hrun hlos,
    fun s n hlos hlit hopt hfe => frontEndMismatch_shows hlos hlit hopt hfe, fun s n a clipped hrun => adcClipExcess_shows hrun⟩
  · obtain ⟨hlol', hlock, hcnt, hmuted, hpend⟩ := transmitLost_shows (n := n) (s := s)
    refine ⟨s.transmitLost n, ?_, hlol', hlock, hcnt, hmuted, hpend, pllDropped_sameArea (n := n) (dir := 0) .ch,
      pllDropped_sameArea (n := n) (dir := 0) .flow, fieldsKept_transmitLost.widen (fun f hf => ?_) (fun _ h => h) fun _ h => h⟩
    · exact (exec_converterPllLossOfLock (dir := 0) hrun).trans (congrArg _ (pllLoss_transmit hlol hfault hfar))
    · simp only [lossFields, pllLol, pllLock, pllCount, List.mem_cons, List.mem_append, List.not_mem_nil, or_false] at hf ⊢
      tauto
  · have hlost := receive_lost (n := n) (s := s)
    refine ⟨_, ?_, hlost.lol, hlost.lock, hlost.count, hlost.pend, ?_, hlost.cause hlock, hlost.othersKept⟩
    · exact (exec_converterPllLossOfLock (dir := 1) hrun).trans (congrArg _ (pllLoss_receive hlol hfault hfar))
    · rw [hlost.state, hlock]
      rfl
  · have hlost := receive_lost (n := n) (s := s)
    refine ⟨_, ?_, hlost.lol, hlost.lock, hlost.count, hlost.pend, ?_, hlost.othersKept⟩
    · exact (exec_converterPllLossOfLock (dir := 1) hrun).trans (congrArg _ (pllLoss_receive hlol hfault hfar))
    · rw [hlost.state, hlock]
      rfl

end Sys2Proof.Machine
end

section
/-! SUPPORT. The decoder's steps as operations of one channel: release, output, dispatch, and the budgets that follow (R141, R186 to
R192, R202). -/

set_option Elab.async false

namespace Sys2Proof.Machine

/-! ## Registers that the decoder writes -/

/-- Addresses of the sampling records of every channel (Table 8.7). -/
def sampleKeys : Nat × Nat := (8 * 0x8500000, 8 * 0x8600000)

/-- Registers that the decoder and the receive DSP write as codewords come and go. -/
def codeFields (n : Nat) : List Field :=
  [FEC_CNT_UNC.COUNT n, FEC_STAT.UNC_EV n, FEC_STAT.COMP_EV n, FEC_CNT_DROP.COMP n, FEC_SMP_STAT.FULL n, FEC_SMP_STAT.RUN n,
   FEC_SMP_STAT.PTR n, LDS_CR_STAT.FOFS n, LDS_NLC_STAT.ALPHA_NOW n, LDS_TILE_SUM.CD n, LDS_TILE_SUM.MIMO n, LDS_TILE_SUM.NLC n] ++
    emptiedFields n

/-- Keys that the list and the decoder write. -/
def codeRanges (n : Nat) (l : List Field) : List (Nat × Nat) := sampleKeys :: rangesOf (l ++ codeFields n)

/-- A register that neither a notice, the list nor the decoder writes. -/
def codeApart (n : Nat) (l : List Field) (f : Field) : Bool := decide (f.key < lowEnd) && outside (pendKeys :: codeRanges n l) f.key

section
variable {n : Nat} {l m : List Field} {s t : State} {f : Field}

theorem ranges_code (h : notPending (l ++ codeFields n) = true) : Ranges (codeRanges n l) := by
  obtain ⟨hfree, hnotice⟩ := ranges_of h
  have hsample : (sampleKeys.2 ≤ pendKeys.1 ∨ pendKeys.2 ≤ sampleKeys.1) ∧ (sampleKeys.2 ≤ tileKeys.1 ∨ tileKeys.2 ≤ sampleKeys.1) := by
    decide
  exact ⟨fun p hp => (List.mem_cons.1 hp).elim (fun he => he ▸ hsample) (hfree p), fun p hp => List.mem_cons_of_mem _ (hnotice p hp)⟩

theorem reaches_code (h : ∀ f ∈ m, f ∈ l ++ codeFields n) : Reaches (codeRanges n l) m := fun f hf =>
  Bool.or_eq_true_iff.2 (.inr (hits_mono (fun _ hp => List.mem_cons_of_mem _ (List.mem_append_right _ hp)) (hits_keysOf (h f hf))))

theorem code_reach : Reaches (codeRanges n l) (codeFields n) := reaches_code fun _ h => List.mem_append_right _ h

theorem ChannelLocal.code (h : notPending (l ++ codeFields n) = true) : ChannelLocal n (codeRanges n l) s s := .refl (ranges_code h) n s

theorem ChannelLocal.readCode (h : ChannelLocal n (codeRanges n l) s t) (hf : codeApart n l f = true) : t.rd f = s.rd f := by
  simp only [codeApart, Bool.and_eq_true, decide_eq_true_eq] at hf
  exact h.rd f hf.1 hf.2

/-- The other channels keep what they hold where the list has nothing of their state and light. -/
theorem ChannelLocal.othersCode {n : Fin 4} (h : ChannelLocal n (codeRanges n l) s t)
    (hl : ∀ m : Fin 4, m.val ≠ n → codeApart n l (LDS_CH_STATE.STATE m) = true ∧ codeApart n l (OPT_STAT.PHASE m) = true) :
    OthersKept n s t :=
  fun m hm => ⟨h.flow.get hm, h.ch.get hm, h.readCode (hl m hm).1, h.readCode (hl m hm).2⟩

end

/-! ## Releases -/

section
variable {n : Nat} {l : List Field} {s t : State}

theorem ChannelLocal.onRx {r : List (Nat × Nat)} {k : LineRx → LineRx} (h : ChannelLocal n r s t) : ChannelLocal n r s (t.onRx n k) := by
  unfold State.onRx
  exact h.onChan

theorem ChannelLocal.onDsp {r : List (Nat × Nat)} {k : RxDsp → RxDsp} (h : ChannelLocal n r s t) : ChannelLocal n r s (t.onDsp n k) := by
  unfold State.onDsp
  exact h.onChan

theorem sample_reach {a : Nat} (hlo : 0x8500000 ≤ a) (hhi : a < 0x8600000) : reach (codeRanges n l) (tableWord a).key = true := by
  refine Bool.or_eq_true_iff.2 (.inr (List.any_eq_true.2 ⟨sampleKeys, List.mem_cons_self .., ?_⟩))
  change (decide (8 * 0x8500000 ≤ 8 * a + 0) && decide (8 * a + 0 < 8 * 0x8600000)) = true
  rw [decide_eq_true (by omega), decide_eq_true (by omega)]
  rfl

theorem ChannelLocal.sample {w : Codeword} {q : Rel} {uncorr : Bool} {corr comp : Nat} (h : ChannelLocal n (codeRanges n l) s t)
    (hn : n < 4) : ChannelLocal n (codeRanges n l) s (t.sample n w q uncorr corr comp) := by
  have hptr : t.rd (FEC_SMP_STAT.PTR n) < 4096 := rd_lt t (FEC_SMP_STAT.PTR n)
  have hword : ∀ k < 16, reach (codeRanges n l) (tableWord (0x8500000 + 0x10000 * n + 16 * t.rd (FEC_SMP_STAT.PTR n) + k)).key = true :=
    fun k hk => sample_reach (by omega) (by omega)
  have code := fun f hf => code_reach (n := n) (l := l) f (List.mem_append_left _ hf)
  unfold State.sample
  refine ChannelLocal.when (.addWrap (.put64 (.put64 h (hword 8 (by omega)) (hword 12 (by omega))) (hword 0 (by omega)) (hword 4 (by omega)))
    (code _ (by simp))) fun u hu => ?_
  exact ((hu.put (code _ (by simp))).put (code _ (by simp))).raiseCh (by decide)

theorem ChannelLocal.uncorrectable (h : ChannelLocal n (codeRanges n l) s t) (hn : n < 4) :
    ChannelLocal n (codeRanges n l) s (t.uncorrectable n) := by
  have code := fun f hf => code_reach (n := n) (l := l) f (List.mem_append_left _ hf)
  exact ((((((h.bump (code _ (by simp))).put (code _ (by simp))).raiseCh (by decide)).count (by omega)).put (cell_reach ..)).put
    (cell_reach ..)).put (cell_reach ..)

theorem ChannelLocal.cwRelease {w : Codeword} {q : Rel} (h : ChannelLocal n (codeRanges n l) s t) (hn : n < 4) :
    ChannelLocal n (codeRanges n l) s (t.cwRelease n w q) := by
  have code := fun f hf => code_reach (n := n) (l := l) f (List.mem_append_left _ hf)
  unfold State.cwRelease
  refine ChannelLocal.when (.when (.when (.when (.when (.when (.when (.countFor (.when (.onRx (.flowOp h hn)) fun u hu => hu.onRx)
    (by omega)) fun u hu => hu.count (by omega)) fun u hu => hu.count (by omega)) fun u hu => ?_) fun u hu => hu.uncorrectable hn)
    fun u hu => hu.onDsp) fun u hu => (hu.addWrap (cell_reach ..)).addWrap (cell_reach ..)) fun u hu => hu.sample hn
  exact ((hu.put (code _ (by simp))).put (code _ (by simp))).countFor (by omega)

theorem ChannelLocal.releases {k : Nat} (h : ChannelLocal n (codeRanges n l) s t) (hn : n < 4) :
    ChannelLocal n (codeRanges n l) s (t.releases n k) := by
  induction k generalizing t with
  | zero => exact h
  | succ k ih =>
    unfold State.releases
    split
    · exact h
    · dsimp only
      split
      · exact ih (h.cwRelease hn)
      · exact h

/-! ## Engines, dispatch and budgets -/

theorem ChannelLocal.onFlow {r : List (Nat × Nat)} {k : Flow → Flow} (h : ChannelLocal n r s t) : ChannelLocal n r s (t.onFlow n k) :=
  h.trans ⟨h.ranges, fun _ _ _ => rfl, .refl t, .of_rd fun _ _ _ => rfl, ⟨_, rfl⟩, .of_eq rfl⟩

theorem ChannelLocal.assignEngine {r : List (Nat × Nat)} {e : Nat} (h : ChannelLocal n r s t) : ChannelLocal n r s (t.assignEngine n e) := by
  unfold State.assignEngine
  split
  · dsimp only
    split
    · exact h.onFlow
    · exact h
  · exact h

theorem emptied_reach : Reaches (codeRanges n l) (emptiedFields n) := code_reach.sub fun _ h => List.mem_append_right _ h

theorem ChannelLocal.decoderTurn (h : ChannelLocal n (codeRanges n l) s t) (hn : n < 4) :
    ChannelLocal n (codeRanges n l) s (t.decoderTurn n) := by
  unfold State.decoderTurn
  exact ChannelLocal.fecOcc (.each (h.releases hn).drainOut fun _ _ _ hu => hu.assignEngine) emptied_reach

theorem ChannelLocal.passDone {e : Nat} {w : Codeword} {r : List (Nat × Nat)} (h : ChannelLocal n r s t) (hn : n < 4) :
    ChannelLocal n r s (t.passDone n e w) := by
  unfold State.passDone
  exact h.onFlow.count (by omega)

theorem ChannelLocal.pmcAdd {r : List (Nat × Nat)} {b i c : Nat} (h : ChannelLocal n r s t) (hb : b < 5) :
    ChannelLocal n r s (t.pmcAdd b i c) := by
  have hcount : ∀ j v, ChannelLocal n r s (t.put (PMC.CNT b j) v) := fun j v => h.put (cell_reach ..)
  have hchain : ∀ j v w, ChannelLocal n r s ((t.put (PMC.CNT b i) v).put (PMC.CNT b j) w) := fun j v w => (hcount i v).put (cell_reach ..)
  unfold State.pmcAdd
  dsimp only
  split
  · exact hcount _ _
  · split
    · split
      · exact hchain _ _ _
      · exact (hchain _ _ _).pmcOverflow hb
    · exact (hcount _ _).pmcOverflow hb

theorem ChannelLocal.countOcc {r : List (Nat × Nat)} {b ev occ c : Nat} {k : PmcBlock} (h : ChannelLocal n r s t) (hb : b < 5) :
    ChannelLocal n r s (t.countOcc b k ev occ c) := by
  refine h.each fun p _ u hu => ?_
  split
  · exact hu.pmcAdd hb
  · exact hu

theorem ChannelLocal.sampleTurn {r : List (Nat × Nat)} (h : ChannelLocal n r s t) : ChannelLocal n r s (t.sampleTurn n).2 := by
  have hdraw : ChannelLocal n r s t.draw.2 := h.of_parts rfl rfl rfl
  unfold State.sampleTurn
  dsimp only
  split
  · refine ChannelLocal.put ?_ (cell_reach ..)
    split
    · exact hdraw.put (cell_reach ..)
    · exact h
  · exact h

theorem ChannelLocal.dispatchCw {r : List (Nat × Nat)} {g : Geo} {x : List (Int × Int)} (h : ChannelLocal n r s t) (hn : n < 4) :
    ChannelLocal n r s (t.dispatchCw n g x) := by
  unfold State.dispatchCw
  exact (h.sampleTurn.flowOp hn).countOcc (by omega)

theorem ChannelLocal.receiveSpan {adc : List (List Int)} (h : ChannelLocal n (codeRanges n l) s t) (hn : n < 4) :
    ChannelLocal n (codeRanges n l) s (t.receiveSpan n adc) := by
  have code := fun f hf => code_reach (n := n) (l := l) f (List.mem_append_left _ hf)
  unfold State.receiveSpan
  dsimp only
  split
  · exact h
  · split
    · exact h
    · exact ((h.onDsp.countFor (by omega)).when fun u hu => hu.putS (code _ (by simp))).when fun u hu => hu.put (code _ (by simp))

theorem sums_reach : Reaches (codeRanges n l) [LDS_TILE_SUM.CD n, LDS_TILE_SUM.MIMO n, LDS_TILE_SUM.NLC n] :=
  code_reach.sub fun f hf => by simp only [codeFields, List.mem_append]; exact .inl (by simp at hf ⊢; tauto)

theorem ChannelLocal.sums (h : ChannelLocal n (codeRanges n l) s t) : ChannelLocal n (codeRanges n l) s (t.tileSum n) := by
  unfold State.tileSum
  split
  · exact ((h.put (sums_reach _ (by simp))).put (sums_reach _ (by simp))).put (sums_reach _ (by simp))
  · exact h

theorem ChannelLocal.budgets (h : ChannelLocal n (codeRanges n l) s t) : ChannelLocal n (codeRanges n l) s (t.rebudget n) := by
  refine ChannelLocal.put (.put (.put h ?_) ?_) ?_
  all_goals exact emptied_reach _ (by simp [emptiedFields])

end

end Sys2Proof.Machine
end

section
/-! O27. Codewords are dispatched, decoded, dropped and counted (R186 to R189, R193 to R195, R200, R201, R204). -/

set_option Elab.async false

namespace Sys2Proof.Machine

section
variable {n : Fin 4} {s t u : State}

/-! ## What the decoder does to the codeword ledger -/

/-- From f to g codewords may only have left corrected or not: none came, and none was dropped. -/
structure Decoded (f g : Flow) : Prop where
  cwIn : g.led.cwIn = f.led.cwIn
  budget : g.led.cwBudget = f.led.cwBudget
  drops : g.led.cwDrops = f.led.cwDrops

theorem Decoded.refl (f : Flow) : Decoded f f := ⟨rfl, rfl, rfl⟩

theorem Decoded.trans {f g k : Flow} (h : Decoded f g) (i : Decoded g k) : Decoded f k :=
  ⟨i.cwIn.trans h.cwIn, i.budget.trans h.budget, i.drops.trans h.drops⟩

theorem decoded_leave {p : Codeword → Bool} {b : Bool} {f : Flow} : Decoded f (Flow.cwLeave p b f) := by
  unfold Flow.cwLeave
  split
  · exact ⟨rfl, rfl, rfl⟩
  · exact .refl f

theorem when_flow {b : Bool} {k : State → State} (h : ∀ v, (k v).flow = v.flow) : (s.when b k).flow = s.flow := by
  cases b
  · rfl
  · exact h s

theorem uncorrectable_flow : (s.uncorrectable n).flow = s.flow :=
  (kept_uncorrectable (A := fun _ => False) (.refl s)).same .flow id

theorem sample_flow {w : Codeword} {q : Rel} {b : Bool} {corr comp : Nat} : (s.sample n w q b corr comp).flow = s.flow :=
  (kept_sample (A := fun _ => False) (.refl s)).same .flow id

/-- A release takes the codeword from the flow, and nothing else. -/
theorem cwRelease_flow {w : Codeword} {q : Rel} : (s.cwRelease n w q).flow =
    s.flow.set n (Flow.cwLeave (fun x => x.seq = w.seq) (s.decideCw n w q.lost).uncorr (s.flow.get n)) := by
  unfold State.cwRelease
  refine (when_flow ?_).trans ((when_flow ?_).trans ((when_flow ?_).trans ((when_flow ?_).trans ((when_flow ?_).trans ((when_flow ?_).trans
    ((when_flow ?_).trans (Eq.trans (countFor_sameArea .flow) ((when_flow ?_).trans flowOp_flow))))))))
  · exact fun _ => sample_flow
  · exact fun _ => rfl
  · exact fun _ => rfl
  · exact fun _ => uncorrectable_flow
  · exact fun _ => countFor_sameArea .flow
  · exact fun _ => count_flow
  · exact fun _ => count_flow
  · exact fun _ => rfl

/-- What an engine's assignment does to a codeword leaves its number, its iterations and its last engine. -/
theorem assignEngine_cases {e : Nat} : (s.assignEngine n e).flow = s.flow ∨ ∃ k : Codeword → Codeword,
    (s.assignEngine n e).flow = s.flow.set n (Flow.cwMap k (s.flow.get n)) ∧
      ∀ v, (k v).seq = v.seq ∧ (k v).iter = v.iter ∧ (k v).last = v.last := by
  unfold State.assignEngine
  split
  · dsimp only
    split
    · exact .inr ⟨_, rfl, fun v => by split <;> exact ⟨rfl, rfl, rfl⟩⟩
    · exact .inl rfl
  · exact .inl rfl

/-! ## Where a codeword stands -/

/-- Codewords with number q. -/
def numbered (q : Nat) (v : Codeword) : Bool := v.seq = q

/-- Codewords with number q, i iterations and last engine e. -/
def iterated (q i e : Nat) (v : Codeword) : Bool := v.seq = q && v.iter = i && v.last = some e

/-- Since f, codeword q is resident with its count of iterations and its last engine, or it has been released. -/
structure Stands (q i e : Nat) (f g : Flow) : Prop where
  one : g.cws.countP (numbered q) ≤ 1
  held : 1 ≤ g.cws.countP (iterated q i e) ∨ g.cws.countP (numbered q) = 0 ∧ f.led.cwOut < g.led.cwOut
  out : f.led.cwOut ≤ g.led.cwOut

theorem Stands.leave {q i e p : Nat} {b : Bool} {f g : Flow} (h : Stands q i e f g) :
    Stands q i e f (Flow.cwLeave (fun x => x.seq = p) b g) := by
  obtain ⟨hone, hheld, hout⟩ := h
  unfold Flow.cwLeave
  split
  · rename_i a l htake
    obtain ⟨-, hcount⟩ := takeFirst_count htake
    have hall := hcount (numbered q)
    have hmine := hcount (iterated q i e)
    by_cases hq : a.seq = q
    · have hnum : numbered q a = true := decide_eq_true hq
      rw [hnum, if_pos rfl] at hall
      exact ⟨by simp only; omega, .inr ⟨by simp only; omega, Nat.lt_succ_of_le hout⟩, Nat.le_succ_of_le hout⟩
    · have hnum : numbered q a = false := decide_eq_false hq
      have hiter : iterated q i e a = false := by
        unfold iterated
        rw [decide_eq_false hq]
        rfl
      rw [hnum, if_neg Bool.false_ne_true] at hall
      rw [hiter, if_neg Bool.false_ne_true] at hmine
      refine ⟨by simp only; omega, ?_, Nat.le_succ_of_le hout⟩
      rcases hheld with hheld | ⟨hnone, hlt⟩
      · exact .inl (by simp only; omega)
      · exact .inr ⟨by simp only; omega, Nat.lt_succ_of_lt hlt⟩
  · exact ⟨hone, hheld, hout⟩

theorem Stands.map {q i e : Nat} {f g : Flow} {k : Codeword → Codeword} (h : Stands q i e f g)
    (hk : ∀ v, (k v).seq = v.seq ∧ (k v).iter = v.iter ∧ (k v).last = v.last) : Stands q i e f (Flow.cwMap k g) := by
  have hnum : numbered q ∘ k = numbered q := funext fun v => by
    change decide ((k v).seq = q) = decide (v.seq = q)
    rw [(hk v).1]
  have hiter : iterated q i e ∘ k = iterated q i e := funext fun v => by
    change (decide ((k v).seq = q) && decide ((k v).iter = i) && decide ((k v).last = some e)) = iterated q i e v
    rw [(hk v).1, (hk v).2.1, (hk v).2.2]
    rfl
  obtain ⟨hone, hheld, hout⟩ := h
  refine ⟨?_, ?_, hout⟩
  · unfold Flow.cwMap
    rwa [List.countP_map, hnum]
  · unfold Flow.cwMap
    rwa [List.countP_map, List.countP_map, hnum, hiter]

/-! ## The decoder's turn -/

theorem decoded_releases {k : Nat} : Decoded (s.flow.get n) ((s.releases n k).flow.get n) := by
  induction k generalizing s with
  | zero => exact .refl _
  | succ k ih =>
    unfold State.releases
    split
    · exact .refl _
    · dsimp only
      split
      · refine Decoded.trans ?_ ih
        rw [cwRelease_flow, quad_get_set_same]
        exact decoded_leave
      · exact .refl _

theorem stands_releases {k q i e : Nat} {f : Flow} (h : Stands q i e f (s.flow.get n)) : Stands q i e f ((s.releases n k).flow.get n) := by
  induction k generalizing s with
  | zero => exact h
  | succ k ih =>
    unfold State.releases
    split
    · exact h
    · dsimp only
      split
      · refine ih ?_
        rw [cwRelease_flow, quad_get_set_same]
        exact h.leave
      · exact h

/-- A property of a channel's flow that codewords mapped in place keep is kept by the engines' assignments. -/
theorem assigned_keeps {P : Flow → Prop} {l : List Nat} (hP : ∀ g, ∀ k : Codeword → Codeword, P g →
    (∀ v, (k v).seq = v.seq ∧ (k v).iter = v.iter ∧ (k v).last = v.last) → P (Flow.cwMap k g)) (h : P (s.flow.get n)) :
    P ((s.each l fun e t => t.assignEngine n e).flow.get n) := by
  induction l generalizing s with
  | nil => exact h
  | cons e l ih =>
    refine ih ?_
    rcases assignEngine_cases (s := s) (n := n) (e := e) with hsame | ⟨k, hmap, hk⟩
    · rwa [hsame]
    · rw [hmap, quad_get_set_same]
      exact hP _ k h hk

theorem fecOcc_flow : (s.fecOcc n).flow = s.flow := rfl

theorem drainOut_flow : (s.drainOut n).flow = s.flow := rfl

theorem decoded_turn : Decoded (s.flow.get n) ((s.decoderTurn n).flow.get n) := by
  unfold State.decoderTurn
  rw [fecOcc_flow]
  refine assigned_keeps (P := Decoded (s.flow.get n)) (fun _ _ hg _ => ⟨hg.cwIn, hg.budget, hg.drops⟩) ?_
  rw [drainOut_flow]
  exact decoded_releases

theorem stands_turn {q i e : Nat} {f : Flow} (h : Stands q i e f (s.flow.get n)) : Stands q i e f ((s.decoderTurn n).flow.get n) := by
  unfold State.decoderTurn
  rw [fecOcc_flow]
  refine assigned_keeps (P := Stands q i e f) (fun _ _ hg hk => hg.map hk) ?_
  rw [drainOut_flow]
  exact stands_releases h

/-! ## A pass -/

theorem passOver_kept {l : List Codeword} {x : LineRx} {w : Codeword} {P : Codeword → Bool}
    (hP : ∀ u v : Codeword, u.seq = v.seq → u.iter = v.iter → u.engine = v.engine → P u = P v) :
    (passOver l x w).countP P = l.countP P := by
  unfold passOver
  dsimp only
  rw [List.countP_map]
  congr 1
  funext v
  rw [Function.comp_apply]
  split
  · exact hP _ _ rfl rfl rfl
  · split
    · exact hP _ _ rfl rfl rfl
    · rfl


/-- What a pass that an engine has done makes of a codeword. -/
def Codeword.done (e : Nat) (v : Codeword) : Codeword :=
  if v.engine = some e then { v with engine := none, iter := v.iter + 1, last := some e } else v

theorem passDone_flow {e : Nat} {w : Codeword} : (s.passDone n e w).flow = s.flow.set n { s.flow.get n with
    cws := (if w.geo.standard then s.cws n else passOver (s.cws n) (s.chan n).rx w).map (Codeword.done e) } := count_flow

theorem passDone_decoded {e : Nat} {w : Codeword} : Decoded (s.flow.get n) ((s.passDone n e w).flow.get n) := by
  rw [passDone_flow, quad_get_set_same]
  exact ⟨rfl, rfl, rfl⟩

/-- The codeword whose pass is done stands with an iteration more. -/
theorem passDone_stands {e : Nat} {w : Codeword} (hw : w ∈ s.cws n) (he : w.engine = some e)
    (hone : (s.cws n).countP (numbered w.seq) = 1) : Stands w.seq (w.iter + 1) e (s.flow.get n) ((s.passDone n e w).flow.get n) := by
  have hpass : ∀ P : Codeword → Bool, (∀ u v : Codeword, u.seq = v.seq → u.iter = v.iter → u.engine = v.engine → P u = P v) →
      (if w.geo.standard then s.cws n else passOver (s.cws n) (s.chan n).rx w).countP P = (s.cws n).countP P := fun P hP => by
    split
    · rfl
    · exact passOver_kept hP
  have hnum : numbered w.seq ∘ Codeword.done e = numbered w.seq := funext fun v => by
    change decide ((v.done e).seq = w.seq) = decide (v.seq = w.seq)
    unfold Codeword.done
    split <;> rfl
  rw [passDone_flow, quad_get_set_same]
  refine ⟨?_, .inl ?_, Nat.le_refl _⟩
  · rw [List.countP_map, hnum, hpass _ (fun u v hseq _ _ => by unfold numbered; rw [hseq]), hone]
  · have hmine : 1 ≤ (s.cws n).countP fun v => v.seq = w.seq && v.iter = w.iter && v.engine = some e :=
      List.countP_pos_iff.2 ⟨w, hw, by simp [he]⟩
    rw [List.countP_map]
    refine (hmine.trans (hpass _ fun u v hseq hiter heng => by rw [hseq, hiter, heng]).ge).trans (List.countP_mono_left fun v _ hv => ?_)
    simp only [Bool.and_eq_true, decide_eq_true_eq] at hv
    obtain ⟨⟨hseq, hiter⟩, heng⟩ := hv
    change iterated w.seq (w.iter + 1) e (v.done e) = true
    unfold Codeword.done
    rw [if_pos heng]
    unfold iterated
    simp [hseq, hiter]

theorem code_facts : ∀ n : Fin 4, notPending ([] ++ codeFields n) = true ∧
    notPending ([FEC_STAT.DROP_EV n] ++ codeFields n) = true ∧ codeApart n [] (FEC_STAT.DROP_EV n) = true ∧
    (∀ m : Fin 4, m.val ≠ n → (codeApart n [] (LDS_CH_STATE.STATE m) = true ∧ codeApart n [] (OPT_STAT.PHASE m) = true) ∧
      codeApart n [FEC_STAT.DROP_EV n] (LDS_CH_STATE.STATE m) = true ∧ codeApart n [FEC_STAT.DROP_EV n] (OPT_STAT.PHASE m) = true) := by
  decide +kernel

theorem exec_enginePassComplete {e : Fin 24} {w : Codeword} (h : (s.cws n).find? (fun v => v.engine = some e.val) = some w) :
    exec (.enginePassComplete n e) s = .next ((s.passDone n e w).decoderTurn n) := by
  change Host.Outcome.next (match (s.cws n).find? (fun v => v.engine = some e.val) with
    | some w => (s.passDone n e w).decoderTurn n
    | none => s) = _
  rw [h]

theorem passDone_completes {e : Fin 24} {w : Codeword} (hfind : (s.cws n).find? (fun v => v.engine = some e.val) = some w)
    (hone : (s.cws n).countP (fun v => v.seq = w.seq) = 1) :
    ∃ t, exec (.enginePassComplete n e) s = .next t ∧
      ((t.cws n).any (fun v => v.seq = w.seq && v.iter = w.iter + 1 && v.last = some e.val) = true ∨ ((t.cws n).all
        (fun v => v.seq ≠ w.seq) = true ∧ (s.flow.get n).led.cwOut < (t.flow.get n).led.cwOut)) ∧
      (t.flow.get n).led.cwIn = (s.flow.get n).led.cwIn ∧ (t.flow.get n).led.cwDrops = (s.flow.get n).led.cwDrops ∧
      OthersKept n s t := by
  obtain ⟨hcode, -, -, hothers⟩ := code_facts n
  have he : w.engine = some e.val := by simpa using List.find?_some hfind
  have hled := passDone_decoded.trans (decoded_turn (s := s.passDone n e w) (n := n))
  obtain ⟨-, hheld, -⟩ := stands_turn (passDone_stands (List.mem_of_find?_eq_some hfind) he hone)
  refine ⟨_, exec_enginePassComplete hfind, ?_, hled.cwIn, hled.drops,
    (((ChannelLocal.code hcode).passDone n.isLt).decoderTurn n.isLt).othersCode fun m hm => (hothers m hm).1⟩
  rcases hheld with hheld | ⟨hnone, hlt⟩
  · obtain ⟨v, hv, hiter⟩ := List.countP_pos_iff.1 hheld
    exact .inl (List.any_eq_true.2 ⟨v, hv, hiter⟩)
  · refine .inr ⟨List.all_eq_true.2 fun v hv => ?_, hlt⟩
    have hnot := List.countP_eq_zero.1 hnone v hv
    simpa [numbered] using hnot

end

end Sys2Proof.Machine
end

section
/-! O27. An assembled codeword is dispatched or dropped; alignment, the degrade window, and FEC_ITER_CTRL (R188, R193, R194, R200, R201,
R204). -/

set_option Elab.async false

namespace Sys2Proof.Machine

section
variable {n : Fin 4} {s t u : State} {g : Geo} {adc : List (List Int)}

/-! ## Assembly -/

/-- The receive path has gone on, where LLR_INJECT does not feed the decoder. -/
def State.spanTaken (n : Nat) (adc : List (List Int)) (s : State) : State := s.when (!s.injecting n) (·.receiveSpan n adc)

/-- The LLRs of a codeword, of the demapper or of LLR_INJECT. -/
def State.llrsTaken (n k : Nat) (s : State) : List (Int × Int) × State := if s.injecting n then s.injected k else s.takeLlrs n k

/-- What the assembly of a codeword leaves to the decoder. -/
def State.presented (n : Nat) (g : Geo) (drop : Bool) (s : State) : State :=
  if drop then (s.llrsTaken n g.coded).2.dropCw n g else (s.llrsTaken n g.coded).2.dispatchCw n g (s.llrsTaken n g.coded).1

theorem exec_codewordAssembled {p : Profile} {overrun : Bool} (hp : s.rxProfile n = some p) (halign : s.on (FEC_STAT.CW_ALIGN n) = true) :
    exec (.codewordAssembled n overrun adc) s = .next ((((s.spanTaken n adc).presented n p.geo
      (overrun || (s.spanTaken n adc).rd (FEC_BUDGET.EFF n) ≤ ((s.spanTaken n adc).cws n).length)).countOcc n .fec 0x08
        (((s.spanTaken n adc).presented n p.geo (overrun || (s.spanTaken n adc).rd (FEC_BUDGET.EFF n) ≤
          ((s.spanTaken n adc).cws n).length)).cws n).length (llrTokens p.geo.coded)).decoderTurn n) := by
  change execCodewordAssembled n overrun adc s = _
  unfold execCodewordAssembled
  rw [hp]
  dsimp only
  rw [halign, when_true]
  rfl

theorem spanTaken_flow : (s.spanTaken n adc).flow = s.flow := when_flow fun _ => receiveSpan_flow

theorem span_facts : ∀ n : Fin 4, isQuiet (FEC_BUDGET.EFF n).key = true ∧
    ∀ g ∈ [LDS_CR_STAT.FOFS n, LDS_NLC_STAT.ALPHA_NOW n], g.key ≠ (FEC_BUDGET.EFF n).key := by decide

theorem spanTaken_budget : (s.spanTaken n adc).rd (FEC_BUDGET.EFF n) = s.rd (FEC_BUDGET.EFF n) :=
  rd_when_same fun _ => fieldsKept_receiveSpan.read (by simp) (by simp; omega) (span_facts n)

theorem spanTaken_full {overrun : Bool} : (overrun || decide ((s.spanTaken n adc).rd (FEC_BUDGET.EFF n) ≤
    ((s.spanTaken n adc).cws n).length)) = (overrun || decide (s.rd (FEC_BUDGET.EFF n) ≤ (s.cws n).length)) := by
  unfold State.cws
  rw [spanTaken_budget, spanTaken_flow]

theorem llrsTaken_flow {k : Nat} : (s.llrsTaken n k).2.flow = s.flow := by
  unfold State.llrsTaken
  split <;> rfl

theorem ChannelLocal.llrsTaken {r : List (Nat × Nat)} {k : Nat} (h : ChannelLocal n r s t) : ChannelLocal n r s (t.llrsTaken n k).2 := by
  unfold State.llrsTaken
  split
  · exact h.of_parts rfl rfl rfl
  · unfold State.takeLlrs
    dsimp only
    exact h.onDsp

theorem ChannelLocal.dropCw {l : List Field} (h : ChannelLocal n (codeRanges n l) s t)
    (hev : reach (codeRanges n l) (FEC_STAT.DROP_EV n).key = true) : ChannelLocal n (codeRanges n l) s (t.dropCw n g) := by
  unfold State.dropCw
  exact ((h.flowOp n.isLt).eraseCw.put hev).when fun _ hu => hu.fill n.isLt emptied_reach

theorem countOcc_flow {b ev occ c : Nat} {k : PmcBlock} : (s.countOcc b k ev occ c).flow = s.flow :=
  (kept_countOcc (A := fun _ => False) (.refl s)).same .flow id

theorem dropCw_flow : (s.dropCw n g).flow = s.flow.set n (Flow.cwReject .budget (s.flow.get n)) := by
  unfold State.dropCw
  refine (when_flow ?_).trans flowOp_flow
  exact fun _ => count_flow

theorem sampleTurn_flow : (s.sampleTurn n).2.flow = s.flow :=
  have : Fact ((fun x => x = Area.free) Area.free) := ⟨rfl⟩
  (kept_sampleTurn (A := fun x => x = Area.free) (.refl s)).same .flow (by decide)

theorem dispatchCw_flow {x : List (Int × Int)} : ∃ t0 lent cand,
    (s.dispatchCw n g x).flow = s.flow.set n (Flow.cwEnter t0 lent cand g x (s.flow.get n)) := by
  refine ⟨s.time, s.placement n, (s.sampleTurn n).1, ?_⟩
  unfold State.dispatchCw
  rw [countOcc_flow, flowOp_flow, sampleTurn_flow]

theorem dropCw_event : (s.dropCw n g).rd (FEC_STAT.DROP_EV n) = 1 := by
  have hfill : ∀ n : Fin 4, isQuiet (FEC_STAT.DROP_EV n).key = true ∧ (FEC_STAT.DROP_EV n).key ≠ (FEC_CNT_DROP.FILL n).key := by decide
  obtain ⟨hq, hne⟩ := hfill n
  unfold State.dropCw
  refine (rd_when_same fun _ => ?_).trans (rd_put_same ..)
  exact (rd_count_quiet (by omega) (quiet_of_isQuiet hq)).trans (rd_bump_ne hne)

theorem codewordAssembled_drops {overrun : Bool} (hp : (s.rxProfile n).isSome = true) (halign : s.on (FEC_STAT.CW_ALIGN n) = true)
    (hfull : overrun = true ∨ s.rd (FEC_BUDGET.EFF n) ≤ (s.cws n).length) :
    ∃ t, exec (.codewordAssembled n overrun adc) s = .next t ∧
      (t.flow.get n).led.cwIn = (s.flow.get n).led.cwIn + 1 ∧
      (t.flow.get n).led.cwBudget = (s.flow.get n).led.cwBudget + 1 ∧ t.rd (FEC_STAT.DROP_EV n) = 1 ∧ OthersKept n s t := by
  obtain ⟨hcode, hdrop, hev, hothers⟩ := code_facts n
  obtain ⟨p, hp⟩ := Option.isSome_iff_exists.1 hp
  have hcond : (overrun || decide (s.rd (FEC_BUDGET.EFF n) ≤ (s.cws n).length)) = true := by
    rcases hfull with h | h
    · rw [h, Bool.true_or]
    · rw [decide_eq_true h, Bool.or_true]
  have hexec := exec_codewordAssembled (adc := adc) (overrun := overrun) hp halign
  rw [spanTaken_full, hcond] at hexec
  unfold State.presented at hexec
  rw [if_pos rfl] at hexec
  generalize hb : ((s.spanTaken n adc).llrsTaken n p.geo.coded).2.dropCw n p.geo = b at hexec
  have hflow : b.flow.get n = Flow.cwReject .budget (s.flow.get n) := by
    rw [← hb, dropCw_flow, quad_get_set_same, llrsTaken_flow, spanTaken_flow]
  have hled := decoded_turn (s := b.countOcc n .fec 0x08 (b.cws n).length (llrTokens p.geo.coded)) (n := n)
  rw [countOcc_flow, hflow] at hled
  refine ⟨_, hexec, hled.cwIn, hled.budget, ?_, ChannelLocal.othersCode (l := [FEC_STAT.DROP_EV n]) ?_ fun m hm => (hothers m hm).2⟩
  · have hlocal := ((ChannelLocal.code (s := b) hcode).countOcc (b := n) (ev := 0x08) (occ := (b.cws n).length)
      (c := llrTokens p.geo.coded) (k := .fec) (by omega)).decoderTurn n.isLt
    rw [hlocal.readCode hev, ← hb]
    exact dropCw_event
  · refine ChannelLocal.decoderTurn (.countOcc ?_ (by omega)) n.isLt
    rw [← hb]
    exact ChannelLocal.dropCw (.llrsTaken ((ChannelLocal.code hdrop).when fun _ hu => hu.receiveSpan n.isLt))
      (reaches_code (m := [FEC_STAT.DROP_EV n]) (fun f hf => List.mem_append_left _ hf) _ (by simp))

theorem codewordAssembled_dispatches (hp : (s.rxProfile n).isSome = true) (halign : s.on (FEC_STAT.CW_ALIGN n) = true)
    (hroom : (s.cws n).length < s.rd (FEC_BUDGET.EFF n)) :
    ∃ t, exec (.codewordAssembled n false adc) s = .next t ∧ (t.flow.get n).led.cwIn = (s.flow.get n).led.cwIn + 1 ∧
      (t.flow.get n).led.cwBudget = (s.flow.get n).led.cwBudget ∧
      t.rd (FEC_STAT.DROP_EV n) = s.rd (FEC_STAT.DROP_EV n) ∧ OthersKept n s t := by
  obtain ⟨hcode, -, hev, hothers⟩ := code_facts n
  obtain ⟨p, hp⟩ := Option.isSome_iff_exists.1 hp
  have hexec := exec_codewordAssembled (adc := adc) (overrun := false) hp halign
  rw [spanTaken_full, decide_eq_false (by omega), Bool.or_false] at hexec
  unfold State.presented at hexec
  rw [if_neg Bool.false_ne_true] at hexec
  generalize hb : ((s.spanTaken n adc).llrsTaken n p.geo.coded).2.dispatchCw n p.geo
    ((s.spanTaken n adc).llrsTaken n p.geo.coded).1 = b at hexec
  obtain ⟨t0, lent, cand, hdispatch⟩ := dispatchCw_flow (s := ((s.spanTaken n adc).llrsTaken n p.geo.coded).2) (n := n) (g := p.geo)
    (x := ((s.spanTaken n adc).llrsTaken n p.geo.coded).1)
  have hflow : b.flow.get n = Flow.cwEnter t0 lent cand p.geo ((s.spanTaken n adc).llrsTaken n p.geo.coded).1 (s.flow.get n) := by
    rw [← hb, hdispatch, quad_get_set_same, llrsTaken_flow, spanTaken_flow]
  have hled := decoded_turn (s := b.countOcc n .fec 0x08 (b.cws n).length (llrTokens p.geo.coded)) (n := n)
  rw [countOcc_flow, hflow] at hled
  have hlocal : ChannelLocal n (codeRanges n []) s
      ((b.countOcc n .fec 0x08 (b.cws n).length (llrTokens p.geo.coded)).decoderTurn n) := by
    refine ChannelLocal.decoderTurn (.countOcc ?_ (by omega)) n.isLt
    rw [← hb]
    exact ChannelLocal.dispatchCw (.llrsTaken ((ChannelLocal.code hcode).when fun _ hu => hu.receiveSpan n.isLt)) n.isLt
  exact ⟨_, hexec, hled.cwIn, hled.budget, hlocal.readCode hev, hlocal.othersCode fun m hm => (hothers m hm).1⟩

/-! ## Alignment -/

theorem exec_codewordAlignment {p : Profile} {offset : Fin 3500} (hp : s.rxProfile n = some p)
    (halign : s.on (FEC_STAT.CW_ALIGN n) = false) : exec (.codewordAlignment n offset) s = .next (
      if s.injecting n then s.aligned n p.geo 0
      else if s.chSt n = ChSt.acquiring && s.rd (LDS_ACQ_STAT.STEP n) = 7 && (p.interop || alignPasses p.geo offset (s.chan n).dsp.llr) then
        (s.aligned n p.geo offset).put (LDS_ACQ_STAT.STEP n) 8
      else s) := by
  change execCodewordAlignment n offset s = _
  unfold execCodewordAlignment
  rw [hp]
  dsimp only
  rw [halign]
  rfl

theorem aligned_ch {k : Nat} : (s.aligned n g k).ch = s.ch.set n { s.chan n with
    dsp := { (s.chan n).dsp with llr := (s.chan n).dsp.llr.drop (2 * g.m * k) },
    rx := { (s.chan n).rx with zero := s.injecting n } } := by
  unfold State.aligned State.onRx State.onDsp State.onChan
  dsimp only
  rw [quad_get_set_same, quad_set_set]
  rfl

theorem aligned_chan {k : Nat} : (s.aligned n g k).chan n = { s.chan n with
    dsp := { (s.chan n).dsp with llr := (s.chan n).dsp.llr.drop (2 * g.m * k) },
    rx := { (s.chan n).rx with zero := s.injecting n } } := by
  unfold State.chan
  rw [aligned_ch, quad_get_set_same]
  rfl

theorem aligned_rd {k : Nat} {f : Field} : (s.aligned n g k).rd f = (s.put (FEC_STAT.CW_ALIGN n) 1).rd f := rfl

theorem codewordAligned {k : Nat} : (s.aligned n g k).rd (FEC_STAT.CW_ALIGN n) = 1 := aligned_rd.trans (rd_put_same ..)

theorem sameFields_aligned {k : Nat} {l : List Field} (hl : FEC_STAT.CW_ALIGN n ∈ l) : SameFields l s (s.aligned n g k) := fun _ hf =>
  aligned_rd.trans (rd_put_ne (hf _ hl).symm)

theorem align_facts : ∀ n : Fin 4, (FEC_STAT.CW_ALIGN n).key ≠ (LDS_ACQ_STAT.STEP n).key := by decide

theorem codewordAlignment_acquires {offset : Fin 3500} {q : Profile} (hp : s.rxProfile n = some q)
    (halign : s.on (FEC_STAT.CW_ALIGN n) = false) (hinj : s.injecting n = false) (hst : s.chSt n = ChSt.acquiring)
    (hstep : s.rd (LDS_ACQ_STAT.STEP n) = 7) (hpass : q.interop = true ∨ alignPasses q.geo offset (s.chan n).dsp.llr = true) :
    ∃ t, exec (.codewordAlignment n offset) s = .next t ∧ t.rd (FEC_STAT.CW_ALIGN n) = 1 ∧
      t.rd (LDS_ACQ_STAT.STEP n) = 8 ∧ (t.chan n).dsp.llr = (s.chan n).dsp.llr.drop (2 * q.geo.m * offset) ∧
      (t.chan n).rx.zero = false ∧ t.ch = s.ch.set n { s.chan n with dsp := (t.chan n).dsp, rx := (t.chan n).rx } ∧
      t.flow = s.flow ∧ SameFields [FEC_STAT.CW_ALIGN n, LDS_ACQ_STAT.STEP n] s t := by
  have hgo : (decide (s.chSt n = ChSt.acquiring) && decide (s.rd (LDS_ACQ_STAT.STEP n) = 7) &&
      (q.interop || alignPasses q.geo offset (s.chan n).dsp.llr)) = true := by
    rw [decide_eq_true hst, decide_eq_true hstep]
    rcases hpass with h | h <;> simp [h]
  have hchan : ((s.aligned n q.geo offset).put (LDS_ACQ_STAT.STEP n) 8).chan n = _ := aligned_chan
  refine ⟨(s.aligned n q.geo offset).put (LDS_ACQ_STAT.STEP n) 8, ?_, (rd_put_ne (align_facts n)).trans codewordAligned, rd_put_same ..,
    ?_, ?_, ?_, rfl, sameFields_put_of (sameFields_aligned (by simp)) (by simp)⟩
  · rw [exec_codewordAlignment hp halign, hinj, hgo]
    rfl
  · rw [hchan]
  · rw [hchan, hinj]
  · rw [hchan]
    exact aligned_ch

theorem codewordAlignment_injects {offset : Fin 3500} (hp : (s.rxProfile n).isSome = true) (halign : s.on (FEC_STAT.CW_ALIGN n) = false)
    (hinj : s.injecting n = true) :
    ∃ t, exec (.codewordAlignment n offset) s = .next t ∧ t.rd (FEC_STAT.CW_ALIGN n) = 1 ∧
      (t.chan n).dsp.llr = (s.chan n).dsp.llr ∧ (t.chan n).rx.zero = true ∧
      t.ch = s.ch.set n { s.chan n with dsp := (t.chan n).dsp, rx := (t.chan n).rx } ∧ t.flow = s.flow ∧
      SameFields [FEC_STAT.CW_ALIGN n] s t := by
  obtain ⟨q, hp⟩ := Option.isSome_iff_exists.1 hp
  refine ⟨s.aligned n q.geo 0, ?_, codewordAligned, ?_, ?_, ?_, rfl, sameFields_aligned (by simp)⟩
  · rw [exec_codewordAlignment hp halign, hinj]
    rfl
  · rw [aligned_chan]
    rfl
  · rw [aligned_chan, hinj]
  · rw [aligned_chan]
    exact aligned_ch

/-! ## The degrade window -/

/-- A window ends, with LOWWIN as it leaves it. -/
def State.windowEnded (n low : Nat) (s : State) : State := (s.put (FECC.WINCNT n) 0).put (FECC.LOWWIN n) low

theorem window_facts : ∀ n : Fin 4, (FECC.WINCNT n).key ≠ (FECC.LOWWIN n).key ∧
    (∀ f ∈ [FECC.WINCNT n, FECC.LOWWIN n], f.key ≠ (FEC_STAT.DEG n).key ∧ f.key ≠ (FEC_STAT.DEG_EV n).key ∧ isQuiet f.key = true) ∧
    (FEC_STAT.DEG n).key ≠ (FEC_STAT.DEG_EV n).key ∧ isQuiet (FEC_STAT.DEG n).key = true ∧ isQuiet (FEC_STAT.DEG_EV n).key = true := by
  decide

theorem windowEnded_shows {low : Nat} (h : low < 2) : (s.windowEnded n low).rd (FECC.WINCNT n) = 0 ∧
    (s.windowEnded n low).rd (FECC.LOWWIN n) = low :=
  ⟨(rd_put_ne (window_facts n).1).trans ((rd_put_same ..).trans (Nat.zero_mod _)), (rd_put_same ..).trans (Nat.mod_eq_of_lt h)⟩

theorem windowEnded_deg {low : Nat} : (s.windowEnded n low).rd (FEC_STAT.DEG n) = s.rd (FEC_STAT.DEG n) := by
  obtain ⟨-, hne, -⟩ := window_facts n
  exact (rd_put_ne (hne _ (by simp)).1.symm).trans (rd_put_ne (hne _ (by simp)).1.symm)

/-- DEG sets, with its event. -/
def State.degraded (n : Nat) (s : State) : State := ((s.put (FEC_STAT.DEG n) 1).put (FEC_STAT.DEG_EV n) 1).raiseCh n 0x31

theorem exec_fecDegradeWindowEnd_high (hans : s.answers = true) (hthr : s.rd (FEC_DEG_CFG.THR n) ≠ 0)
    (hcnt : s.rd (FEC_DEG_CFG.THR n) ≤ s.rd (FECC.WINCNT n)) : exec (.fecDegradeWindowEnd n) s =
      .next ((s.windowEnded n 0).when (!s.on (FEC_STAT.DEG n)) (·.degraded n)) := by
  change Host.Outcome.next (s.when s.answers _) = _
  rw [hans, when_true]
  dsimp only
  rw [if_neg hthr, if_pos hcnt]
  rfl

theorem exec_fecDegradeWindowEnd_low (hans : s.answers = true) (hcnt : s.rd (FECC.WINCNT n) < s.rd (FEC_DEG_CFG.THR n)) :
    exec (.fecDegradeWindowEnd n) s =
      .next ((s.windowEnded n 1).when (s.on (FECC.LOWWIN n)) (·.put (FEC_STAT.DEG n) 0)) := by
  change Host.Outcome.next (s.when s.answers _) = _
  rw [hans, when_true]
  dsimp only
  rw [if_neg (by omega), if_neg (by omega)]
  rfl

theorem fecDegradeWindowEnd_high (hans : s.answers = true) (hthr : s.rd (FEC_DEG_CFG.THR n) ≠ 0)
    (hcnt : s.rd (FEC_DEG_CFG.THR n) ≤ s.rd (FECC.WINCNT n)) :
    ∃ t, exec (.fecDegradeWindowEnd n) s = .next t ∧ t.rd (FEC_STAT.DEG n) = 1 ∧
      (s.on (FEC_STAT.DEG n) = false → t.rd (FEC_STAT.DEG_EV n) = 1 ∧ t.rd (IRQ_PEND (sourceOf n 0x31)) = 1) ∧
      t.rd (FECC.WINCNT n) = 0 ∧ t.rd (FECC.LOWWIN n) = 0 ∧ t.ch = s.ch ∧ t.flow = s.flow ∧
      FieldsKept [FECC.WINCNT n, FECC.LOWWIN n, FEC_STAT.DEG n, FEC_STAT.DEG_EV n] [sourceOf n 0x31] [4] s t := by
  obtain ⟨-, hwin, hne, hqdeg, hqev⟩ := window_facts n
  obtain ⟨hcntz, hlow⟩ := windowEnded_shows (s := s) (n := n) (low := 0) (by omega)
  have hkept : FieldsKept [FECC.WINCNT n, FECC.LOWWIN n, FEC_STAT.DEG n, FEC_STAT.DEG_EV n] [sourceOf n 0x31] [4] s (s.windowEnded n 0) :=
    fieldsKept_put_of (fieldsKept_put_of (.refl _ _ _ s) (by simp)) (by simp)
  refine ⟨_, exec_fecDegradeWindowEnd_high hans hthr hcnt, ?_⟩
  cases hdeg : s.on (FEC_STAT.DEG n) with
  | true =>
    refine ⟨windowEnded_deg.trans ?_, fun h => (Bool.noConfusion h), hcntz, hlow, rfl, rfl, hkept⟩
    unfold State.on at hdeg
    exact of_decide_eq_true hdeg
  | false =>
    have hread : ∀ f ∈ [FECC.WINCNT n, FECC.LOWWIN n], ((s.windowEnded n 0).degraded n).rd f = (s.windowEnded n 0).rd f := fun f hf => by
      obtain ⟨hd, he, hq⟩ := hwin f hf
      exact (rd_raiseCh_quiet (by decide) (quiet_of_isQuiet hq)).trans ((rd_put_ne he).trans (rd_put_ne hd))
    refine ⟨(rd_raiseCh_quiet (by decide) (quiet_of_isQuiet hqdeg)).trans ((rd_put_ne hne).trans (rd_put_same ..)),
      fun _ => ⟨(rd_raiseCh_quiet (by decide) (quiet_of_isQuiet hqev)).trans (rd_put_same ..), raiseCh_pend (by decide)⟩,
      (hread _ (by simp)).trans hcntz, (hread _ (by simp)).trans hlow, raiseCh_ch .., raiseCh_flow ..,
      fieldsKept_raiseCh (fieldsKept_put_of (fieldsKept_put_of hkept (by simp)) (by simp)) (by simp)⟩

theorem fecDegradeWindowEnd_clears (hans : s.answers = true) (hcnt : s.rd (FECC.WINCNT n) < s.rd (FEC_DEG_CFG.THR n))
    (hlow : s.on (FECC.LOWWIN n) = true) :
    ∃ t, exec (.fecDegradeWindowEnd n) s = .next t ∧ t.rd (FEC_STAT.DEG n) = 0 ∧ t.rd (FECC.WINCNT n) = 0 ∧
      t.ch = s.ch ∧ t.flow = s.flow ∧ SameFields [FECC.WINCNT n, FECC.LOWWIN n, FEC_STAT.DEG n] s t := by
  obtain ⟨-, hwin, -⟩ := window_facts n
  have hexec := exec_fecDegradeWindowEnd_low hans hcnt
  rw [hlow, when_true] at hexec
  exact ⟨_, hexec, rd_put_same .., (rd_put_ne (hwin _ (by simp)).1).trans (windowEnded_shows (by omega)).1, rfl, rfl,
    sameFields_put_of (sameFields_put_of (sameFields_put_of (.refl _ s) (by simp)) (by simp)) (by simp)⟩

theorem fecDegradeWindowEnd_first (hans : s.answers = true) (hcnt : s.rd (FECC.WINCNT n) < s.rd (FEC_DEG_CFG.THR n))
    (hlow : s.on (FECC.LOWWIN n) = false) :
    ∃ t, exec (.fecDegradeWindowEnd n) s = .next t ∧ t.rd (FECC.LOWWIN n) = 1 ∧ t.rd (FECC.WINCNT n) = 0 ∧
      t.ch = s.ch ∧ t.flow = s.flow ∧ SameFields [FECC.WINCNT n, FECC.LOWWIN n] s t := by
  obtain ⟨hcntz, hone⟩ := windowEnded_shows (s := s) (n := n) (low := 1) (by omega)
  have hexec := exec_fecDegradeWindowEnd_low hans hcnt
  rw [hlow, when_false] at hexec
  exact ⟨_, hexec, hone, hcntz, rfl, rfl, sameFields_put_of (sameFields_put_of (.refl _ s) (by simp)) (by simp)⟩

end

/-! ## FEC_ITER_CTRL -/

section
variable {s : State} {w : Wr} {h : Hook} {f : FSpec} {fs : List FSpec} {r : Nat}

/-- A write every field of which is refused for one reason changes nothing, and is answered by the record of that refusal. -/
theorem hostWrite_of_allRefused (hans : s.answers = true) (hfs : s.fieldsAt w.addr = f :: fs) (hwhole : s.wholeReason w (f :: fs) = 0)
    (hr0 : r ≠ 0) (hact : h.act [] s = (s, 0)) (hall : ∀ g ∈ f :: fs,
      (if s.fieldReason (s.level w.win) g (g.fld.of w.value) = 0 && g.writable then h.reason s g.fld (g.fld.of w.value)
        else s.fieldReason (s.level w.win) g (g.fld.of w.value)) = r) :
    s.hostWrite w h = s.refuse w.win w.addr w.value r false := by
  have hjudged : (f :: fs).map (fun g => (g, g.fld.of w.value,
      if s.fieldReason (s.level w.win) g (g.fld.of w.value) = 0 && g.writable then h.reason s g.fld (g.fld.of w.value)
      else s.fieldReason (s.level w.win) g (g.fld.of w.value))) = (f :: fs).map fun g => (g, g.fld.of w.value, r) :=
    List.map_congr_left fun g hg => by rw [hall g hg]
  have hnone : ((f :: fs).map fun g => (g, g.fld.of w.value, r)).filter (fun j => j.1.writable && j.2.2 = 0) = [] :=
    List.filter_eq_nil_iff.2 fun j hj => by
      obtain ⟨g, -, rfl⟩ := List.mem_map.1 hj
      simp [hr0]
  have hfind : ((f :: fs).map fun g => (g, g.fld.of w.value, r)).find? (fun j => j.2.2 ≠ 0) = some (f, f.fld.of w.value, r) :=
    List.find?_cons_of_pos (by simpa using hr0)
  have heach : s.each ([] : List (FSpec × Nat × Nat)) (fun j t => t.applyField w.addr j.1 j.2.1) = s := rfl
  unfold State.hostWrite
  simp only [hfs, hans, hwhole, hjudged, hnone, heach, List.map_nil, hact, hfind]
  rfl

end

section
variable {n : Fin 4} {s : State}

/-- The row of FEC_ITER_CTRL (Table 8.10). -/
def iterRow (n : Nat) : List FSpec :=
  [⟨FEC_ITER_CTRL.HWM n, .rw, .live, 2, .rng 16 1024⟩, ⟨FEC_ITER_CTRL.MIN n, .rw, .live, 2, .rng 1 31⟩,
    ⟨FEC_ITER_CTRL.EARLY n, .rw, .live, 2, .any⟩, ⟨FEC_ITER_CTRL.MAX n, .rw, .live, 2, .rng 1 31⟩]

theorem findReg_iter : ∀ n : Fin 4, findReg (chanAddr n 0x300004) =
    some ((⟨0x1300004, [(4, 0x1000000)], 1, .plain, iterRow 0⟩ : Reg), 0x1000000 * n.val) := by decide

theorem fieldsAt_iter : s.fieldsAt (chanAddr n 0x300004) = iterRow n := by
  rw [State.fieldsAt, findReg_iter]
  match n with
  | 0 | 1 | 2 | 3 => rfl

/-- FEC_ITER_CTRL as a write leaves it. -/
def State.setIter (s : State) (n v : Nat) : State :=
  (((s.put (FEC_ITER_CTRL.HWM n) ((FEC_ITER_CTRL.HWM n).of v)).put (FEC_ITER_CTRL.MIN n) ((FEC_ITER_CTRL.MIN n).of v)).put
    (FEC_ITER_CTRL.EARLY n) ((FEC_ITER_CTRL.EARLY n).of v)).put (FEC_ITER_CTRL.MAX n) ((FEC_ITER_CTRL.MAX n).of v)

theorem iter_keys : ∀ n : Fin 4, ([FEC_ITER_CTRL.HWM n, FEC_ITER_CTRL.MIN n, FEC_ITER_CTRL.EARLY n, FEC_ITER_CTRL.MAX n].map Field.key).Nodup :=
  by decide

theorem setIter_shows {v : Nat} : (s.setIter n v).rd (FEC_ITER_CTRL.HWM n) = (FEC_ITER_CTRL.HWM n).of v ∧
    (s.setIter n v).rd (FEC_ITER_CTRL.MIN n) = (FEC_ITER_CTRL.MIN n).of v ∧
    (s.setIter n v).rd (FEC_ITER_CTRL.MAX n) = (FEC_ITER_CTRL.MAX n).of v ∧
    (s.setIter n v).rd (FEC_ITER_CTRL.EARLY n) = (FEC_ITER_CTRL.EARLY n).of v := by
  have hkeys := iter_keys n
  simp only [List.map_cons, List.map_nil, List.nodup_cons, List.mem_cons, List.not_mem_nil, or_false, not_or] at hkeys
  obtain ⟨⟨hhm, hhe, hhx⟩, ⟨hme, hmx⟩, hex, -⟩ := hkeys
  refine ⟨(rd_put_ne hhx).trans ((rd_put_ne hhe).trans ((rd_put_ne hhm).trans ((rd_put_same ..).trans (Nat.mod_mod _ _)))),
    (rd_put_ne hmx).trans ((rd_put_ne hme).trans ((rd_put_same ..).trans (Nat.mod_mod _ _))),
    (rd_put_same ..).trans (Nat.mod_mod _ _), (rd_put_ne hex).trans ((rd_put_same ..).trans (Nat.mod_mod _ _))⟩

theorem iter_lt {v : Nat} : (FEC_ITER_CTRL.MAX n).of v ≤ 31 ∧ (FEC_ITER_CTRL.MIN n).of v ≤ 31 :=
  ⟨Nat.le_of_lt_succ (Nat.mod_lt _ (Nat.two_pow_pos 5)), Nat.le_of_lt_succ (Nat.mod_lt _ (Nat.two_pow_pos 5))⟩

theorem exec_iterationControlWrite {win : Fin 7} {value : Word} (hopen : s.writeOpen win 2)
    (hhwm : 16 ≤ (FEC_ITER_CTRL.HWM n).of value.toNat ∧ (FEC_ITER_CTRL.HWM n).of value.toNat ≤ 1024)
    (hmin : 1 ≤ (FEC_ITER_CTRL.MIN n).of value.toNat)
    (hmax : (FEC_ITER_CTRL.MIN n).of value.toNat ≤ (FEC_ITER_CTRL.MAX n).of value.toNat) :
    exec (.iterationControlWrite win n value 15) s = .next (s.setIter n value.toNat) := by
  have ⟨hans, hlvl, _⟩ := hopen
  have hlow : ¬ s.level win < 2 := by omega
  obtain ⟨hmax31, hmin31⟩ := iter_lt (n := n) (v := value.toNat)
  have hwhole := wholeReason_of_open (w := ⟨win, chanAddr n 0x300004, value.toNat, 15⟩) (fs := iterRow n)
    (f := ⟨FEC_ITER_CTRL.HWM n, .rw, .live, 2, .rng 16 1024⟩) hopen rfl (by simp [iterRow]) rfl (Nat.zero_lt_succ 1)
  have hok : s.allTaken ⟨win, chanAddr n 0x300004, value.toNat, 15⟩ (iterHook n value.toNat) (iterRow n) := by
    have hmaxone : 1 ≤ (FEC_ITER_CTRL.MAX n).of value.toNat := hmin.trans hmax
    simp [State.allTaken, iterRow, State.fieldReason, hlow, Lim.ok, iterHook, hhwm, hmin, hmax, hmax31, hmin31, hmaxone]
  refine congrArg Host.Outcome.next (hostWrite_of_act hans fieldsAt_iter (by simp [iterRow]) hwhole hok ?_)
  simp [iterHook, iterRow, FSpec.writable, State.takeWord, State.each, State.applyField, State.setIter]

theorem exec_iterationControlWrite_refused {win : Fin 7} {value : Word} (hopen : s.writeOpen win 2)
    (hbad : (FEC_ITER_CTRL.MIN n).of value.toNat = 0 ∨ (FEC_ITER_CTRL.MAX n).of value.toNat < (FEC_ITER_CTRL.MIN n).of value.toNat) :
    exec (.iterationControlWrite win n value 15) s = .next (s.refuse win (chanAddr n 0x300004) value.toNat 4 false) := by
  have ⟨hans, hlvl, _⟩ := hopen
  have hlow : ¬ s.level win < 2 := by omega
  have hwhole := wholeReason_of_open (w := ⟨win, chanAddr n 0x300004, value.toNat, 15⟩) (fs := iterRow n)
    (f := ⟨FEC_ITER_CTRL.HWM n, .rw, .live, 2, .rng 16 1024⟩) hopen rfl (by simp [iterRow]) rfl (Nat.zero_lt_succ 1)
  have hhook : ∀ f v, (iterHook n value.toNat).reason s f v = 4 := fun f v => by
    have hnot : (decide (1 ≤ (FEC_ITER_CTRL.MIN n).of value.toNat) &&
        decide ((FEC_ITER_CTRL.MIN n).of value.toNat ≤ (FEC_ITER_CTRL.MAX n).of value.toNat)) = false := by
      rcases hbad with h | h
      · rw [decide_eq_false (by omega), Bool.false_and]
      · rw [show decide ((FEC_ITER_CTRL.MIN n).of value.toNat ≤ (FEC_ITER_CTRL.MAX n).of value.toNat) = false from
          decide_eq_false (by omega), Bool.and_false]
    unfold iterHook
    dsimp only
    rw [hnot]
    rfl
  refine congrArg Host.Outcome.next (hostWrite_of_allRefused (r := 4) hans fieldsAt_iter hwhole (by decide) rfl fun g hg => ?_)
  rw [hhook]
  have hfield : s.fieldReason (s.level win) g (g.fld.of value.toNat) = if g.lim.ok g.fld.width (g.fld.of value.toNat) then 0 else 4 := by
    simp only [List.mem_cons, List.not_mem_nil, or_false] at hg
    rcases hg with rfl | rfl | rfl | rfl <;> simp [State.fieldReason, hlow]
  have hwrit : g.writable = true := by
    simp only [List.mem_cons, List.not_mem_nil, or_false] at hg
    rcases hg with rfl | rfl | rfl | rfl <;> rfl
  rw [hfield, hwrit]
  cases g.lim.ok g.fld.width (g.fld.of value.toNat) <;> rfl

end

/-- Settles O27: the decoder's turn releases and assigns, so no codeword comes or is dropped in it; the rest are single steps and the
judgement of one word. -/
theorem decoderAccountsForCodewords : Obligations.DecoderAccountsForCodewords := by
  unfold Obligations.DecoderAccountsForCodewords
  refine ⟨fun s n adc overrun hp halign hfull => codewordAssembled_drops hp halign hfull,
    fun s n adc hp halign hroom => codewordAssembled_dispatches hp halign hroom,
    fun s n e w hfind hone => passDone_completes hfind hone,
    fun s n e hbusy => ?_,
    fun s n offset q hp halign hinj hst hstep hpass => codewordAlignment_acquires hp halign hinj hst hstep hpass,
    fun s n offset hp halign hinj => codewordAlignment_injects hp halign hinj,
    fun s n hans hthr hcnt => fecDegradeWindowEnd_high hans hthr hcnt,
    fun s n hans hcnt hlow => fecDegradeWindowEnd_clears hans hcnt hlow,
    fun s n hans hcnt hlow => fecDegradeWindowEnd_first hans hcnt hlow,
    fun s win n value hopen hlo hhi hmin hmax => ?_, fun s win n value hopen hbad => ?_⟩
  · refine ⟨s.bump (FEC_ENG_STAT.ERRCNT n e), ?_, rd_bump_same _, rfl, rfl, sameFields_put_of (.refl _ s) (by simp)⟩
    change Host.Outcome.next (s.when ((s.cws n).any fun w => w.engine = some e.val) _) = _
    rw [hbusy, when_true]
  · obtain ⟨hhwm', hmin', hmax', hearly'⟩ := setIter_shows (s := s) (n := n) (v := value.toNat)
    refine ⟨_, exec_iterationControlWrite hopen ⟨hlo, hhi⟩ hmin hmax, hhwm', hmin', hmax', hearly', rfl, ?_⟩
    exact sameFields_put_of (sameFields_put_of (sameFields_put_of (sameFields_put_of (.refl _ s) (by simp)) (by simp)) (by simp)) (by simp)
  · exact ⟨_, exec_iterationControlWrite_refused hopen hbad, refuse_refusedAs (by omega) (by decide), refuse_flow⟩

end Sys2Proof.Machine
end

section
/-! O24. A profile of a channel lists the tiles of each stage by number, and the word that shows a tile's state has no upper limit:
where a tile is fenced, the notice of the fence can fall on a word that the profile counts among its stage's tiles. -/

set_option Elab.async false

namespace Sys2Proof.Machine

/-- The number of a tile of channel 0 whose state would stand in the word of a field. -/
def tileAt (f : Field) : Nat := (f.addr - 0x10000000) / 4

/-- A custom mode whose MIMO stage costs one tile, and has one: a word of the supervisors' pending bits. -/
def aliasedProfile : Profile :=
  { mode := 6, rs := 4000, m := 2, hx := 200, code := 1, tslots := 1, cd := 0, trip := 0, dfe := false, roll := 2,
    nCd := 0, nMimo := 1, nNlc := 0, tCd := [], tMimo := [tileAt (SUPC.PEND 0 (sourceOf 0 0x22))], tNlc := [] }

/-- Channel 0 is IN_SERVICE with that profile, and its tile 0 is at work in the MIMO stage. -/
def aliasedState : State :=
  { (State.reset.put DEV_MODE.MODE 4 |>.put (FEC_ENG_ACT.ACTIVE 0) 0xFFFFFF |>.put (LDS_CH_STATE.STATE 0) ChSt.inService
      |>.put (LDS_TILE_STAT.STATE 0 0) 0 |>.put (LDS_TILE_STAT.STAGE 0 0) 2) with
    ch := onlyChannel { Chan.reset with prof := [some aliasedProfile] } }

/-- The tile's fence pends its source, the stage counts no tile any more, and the channel refuses its mode. -/
theorem tileResidueFault_refuses : ∃ t, exec (.tileResidueFault 0 0) aliasedState = .next t ∧ t.rd (LDSC.REPART 0) ≠ 1 :=
  ⟨_, rfl, by decide +kernel⟩

/-- Refutes O24: clause 2 says that a stage that stays covered repartitions, and the stage that was covered with the tile fenced is not
once the fence has been reported. -/
theorem not_tilesFenced : ¬ Obligations.TilesFenced := by
  unfold Obligations.TilesFenced
  rintro ⟨-, repartitions, -⟩
  obtain ⟨t, ht, -, -, -, repart, -⟩ := repartitions aliasedState 0 0 (by decide +kernel) (by decide +kernel) (by decide +kernel)
    (by decide +kernel) (by decide +kernel) (by decide +kernel) (by decide +kernel)
  obtain ⟨u, hu, still⟩ := tileResidueFault_refuses
  cases hu.symm.trans ht
  exact still repart

end Sys2Proof.Machine
end

section
/-! O40, part 1. Host accesses to a monitor converter: its held result, urgent requests, configuration and coefficients (R305, R310, R311,
R313). -/

set_option Elab.async false

namespace Sys2Proof.Machine

section
variable {b : Fin 5} {s : State} {win : Fin 7} {value : Word}

/-! ## Rows (Tables 13.7, 13.8) -/

/-- The row of MON_CTRL. -/
def monCtrlRow (b : Nat) : List FSpec :=
  [⟨MON_CTRL.DCK b, .rw, .live, 2, .rng 4 16⟩, ⟨MON_CTRL.CS b, .rw, .live, 2, .any⟩, ⟨MON_CTRL.PRESET b, .rw, .live, 2, .any⟩]

/-- The row of MON_URG. -/
def monUrgRow (b : Nat) : List FSpec := [⟨MON_URG.GO b, .wo, .live, 2, .any⟩, ⟨MON_URG.INPUT b, .wo, .live, 2, .any⟩]

/-- The row of MON_COEF_DATA, of coefficient i. -/
def monCoefRow (b i : Nat) : List FSpec := [⟨MON_COEF_DATA.COEF b i, .rw, .live, 2, .any⟩]

/-- What the map gives of an access, where its register lies without a selection. -/
def plainFields (p : Reg × Nat) : Sel × List FSpec :=
  (p.1.sel, p.1.fields.map fun f => { f with fld := (f.fld.shift p.2).reseat })

theorem fieldsAt_of_plainFields {a : Nat} {fs : List FSpec} (h : (findReg a).map plainFields = some (.plain, fs)) : s.fieldsAt a = fs := by
  obtain ⟨⟨r, d⟩, hreg, hshown⟩ := Option.map_eq_some_iff.1 h
  exact fieldsAt_of_plain hreg (congrArg Prod.fst hshown) (congrArg Prod.snd hshown)

theorem monRow_facts : ∀ b : Fin 5, (findReg (monBase b)).map plainFields = some (.plain, monCtrlRow b) ∧
    (findReg (0xC + monBase b)).map plainFields = some (.plain, monUrgRow b) := by decide

theorem monCoef_facts : ∀ b : Fin 5, (findReg (0x34 + monBase b)).map (fun p => (p.1.sel, p.1.fields, p.2)) =
    some (.coef, monCoefRow b 0, 0) ∧ scopeOf (0x34 + monBase b) = b := by decide

theorem fieldsAt_monCtrl : s.fieldsAt (monBase b) = monCtrlRow b := fieldsAt_of_plainFields (monRow_facts b).1

theorem fieldsAt_monUrg : s.fieldsAt (0xC + monBase b) = monUrgRow b := fieldsAt_of_plainFields (monRow_facts b).2

/-- The coefficient that MON_COEF_SEL selects stands at MON_COEF_DATA. -/
theorem fieldsAt_monCoef {set : Fin 2} {tap : Fin 5} (hset : s.rd (MON_COEF_SEL.SET b) = set.val) (htap : s.rd (MON_COEF_SEL.TAP b) = tap.val) :
    s.fieldsAt (0x34 + monBase b) = monCoefRow b (8 * set + tap) := by
  obtain ⟨hrow, hscope⟩ := monCoef_facts b
  obtain ⟨⟨r, d⟩, hreg, hshown⟩ := Option.map_eq_some_iff.1 hrow
  obtain ⟨hsel, hfields, rfl⟩ : r.sel = .coef ∧ r.fields = monCoefRow b 0 ∧ d = 0 := by simpa using hshown
  have hlow : ¬ (0x10200000 ≤ 0x10400000 + 0x1000 * b.val + 4 * (8 * set.val + tap.val) ∧
      0x10400000 + 0x1000 * b.val + 4 * (8 * set.val + tap.val) < 0x10204000) := by omega
  have hbank : ¬ (0x70100 ≤ 0x10400000 + 0x1000 * b.val + 4 * (8 * set.val + tap.val) ∧
      0x10400000 + 0x1000 * b.val + 4 * (8 * set.val + tap.val) < 0x70200) := by omega
  rw [State.fieldsAt, hreg]
  simp only [State.fieldShift, hsel, hfields, hscope, State.coefSel, hset, htap, monCoefRow, List.map_cons, List.map_nil, Field.shift,
    Field.reseat, MON_COEF_DATA.COEF, Nat.mul_zero, Nat.add_zero, Bool.and_eq_true, decide_eq_true_eq, if_neg hlow, if_neg hbank]

/-! ## MON_RES and MON_URG (R310, R313) -/

theorem monKey_facts : ∀ b : Fin 5, (MON_STAT.URG_PEND b).key ≠ (MONC.URG_IN b).key ∧ (MON_STAT.PRESET_ACT b).key ≠ (MON_CTRL.DCK b).key ∧
    (MON_STAT.PRESET_ACT b).key ≠ (MON_CTRL.CS b).key ∧ (MON_STAT.PRESET_ACT b).key ≠ (MON_CTRL.PRESET b).key ∧
    (MONC.CS_ACT b).key ≠ (MON_CTRL.DCK b).key ∧ (MONC.CS_ACT b).key ≠ (MON_CTRL.CS b).key ∧
    (MONC.CS_ACT b).key ≠ (MON_CTRL.PRESET b).key ∧ (MON_CTRL.DCK b).key ≠ (MON_CTRL.CS b).key ∧
    (MON_CTRL.DCK b).key ≠ (MON_CTRL.PRESET b).key ∧ (MON_CTRL.CS b).key ≠ (MON_CTRL.PRESET b).key := by decide

theorem monitorResultRead_returns (hans : s.answers = true) (hlvl : readLevel (8 + monBase b) ≤ s.level win) :
    ∃ t, exec (.monitorResultRead win b) s = .next t ∧
      (t.out = .readData (8 + monBase b) (s.readWord (8 + monBase b)) :: s.out) ∧ t.rd (MON_STAT.FULL b) = 0 ∧
      t.ch = s.ch ∧ t.flow = s.flow ∧ SameFields [MON_STAT.FULL b] s t :=
  ⟨_, congrArg Host.Outcome.next (hostRead_of_level hans hlvl), rfl, rd_put_same .., rfl, rfl,
    sameFields_put_of (sameFields_of_regs (.refl _ s) rfl) (by simp)⟩

theorem monUrg_commands : CommandsOf 2 (monUrgRow b) := by simp [CommandsOf, monUrgRow]

theorem monitorUrgentRequest_waits (hopen : s.writeOpen win 2) (hgo : (MON_URG.GO b).of value.toNat = 1)
    (hfree : s.on (MON_STAT.URG_PEND b) = false) :
    ∃ t, exec (.monitorUrgentRequest win b value 15) s = .next t ∧ t.rd (MON_STAT.URG_PEND b) = 1 ∧
      t.rd (MONC.URG_IN b) = (MON_URG.INPUT b).of value.toNat ∧ t.ch = s.ch ∧ t.flow = s.flow ∧
      SameFields [MON_STAT.URG_PEND b, MONC.URG_IN b] s t := by
  have hne : MON_URG.GO b ≠ MON_URG.INPUT b := by simp [MON_URG.GO, MON_URG.INPUT]
  have hexec : exec (.monitorUrgentRequest win b value 15) s =
      .next ((s.put (MON_STAT.URG_PEND b) 1).put (MONC.URG_IN b) ((MON_URG.INPUT b).of value.toNat)) := by
    refine congrArg Host.Outcome.next (hostWrite_of_commands (f := ⟨MON_URG.GO b, .wo, .live, 2, .any⟩) hopen rfl (Nat.zero_lt_succ 1)
      fieldsAt_monUrg (by simp [monUrgRow]) monUrg_commands (fun g _ => ?_) ?_)
    · simp [urgentHook, hfree]
    · simp [urgentHook, monUrgRow, wroteOne, wrote, hgo, hne]
  refine ⟨_, hexec, (rd_put_ne (monKey_facts b).1).trans (rd_put_same ..), (rd_put_same ..).trans (Nat.mod_mod _ _), rfl, rfl, ?_⟩
  exact sameFields_put_of (sameFields_put_of (.refl _ s) (by simp)) (by simp)

theorem monitorUrgentRequest_refused (hopen : s.writeOpen win 2) (hgo : (MON_URG.GO b).of value.toNat = 1)
    (hbusy : s.on (MON_STAT.URG_PEND b) = true) :
    ∃ t, exec (.monitorUrgentRequest win b value 15) s = .next t ∧ s.refusedAs t win (0xC + monBase b) 5 false ∧ t.ch = s.ch ∧
      t.flow = s.flow := by
  have hexec : exec (.monitorUrgentRequest win b value 15) s = .next (s.refuse win (0xC + monBase b) value.toNat 5 false) := by
    refine congrArg Host.Outcome.next (hostWrite_of_refused_command (rest := [⟨MON_URG.INPUT b, .wo, .live, 2, .any⟩])
      hopen rfl (Nat.zero_lt_succ 1) fieldsAt_monUrg monUrg_commands ?_ (by decide) ?_)
    · simp [urgentHook, hgo, hbusy]
    · intro l hl
      have hne : MON_URG.INPUT b ≠ MON_URG.GO b := by simp [MON_URG.GO, MON_URG.INPUT]
      have hoff := wroteOne_of_absent (f := MON_URG.GO b) fun p hp => by
        rw [List.mem_singleton.1 (hl p hp)]
        exact hne
      simp [urgentHook, hoff]
  exact ⟨_, hexec, refuse_refusedAs (by omega) (by decide), refuse_ch, refuse_flow⟩

/-! ## MON_CTRL (R305, R311) -/

/-- MON_CTRL as a write leaves it. -/
def State.setMonCtrl (s : State) (b v : Nat) : State :=
  ((s.put (MON_CTRL.DCK b) ((MON_CTRL.DCK b).of v)).put (MON_CTRL.CS b) ((MON_CTRL.CS b).of v)).put (MON_CTRL.PRESET b)
    ((MON_CTRL.PRESET b).of v)

theorem setMonCtrl_shows {v : Nat} : (s.setMonCtrl b v).rd (MON_CTRL.PRESET b) = (MON_CTRL.PRESET b).of v ∧
    (s.setMonCtrl b v).rd (MON_CTRL.CS b) = (MON_CTRL.CS b).of v ∧
    (s.setMonCtrl b v).rd (MON_CTRL.DCK b) = (MON_CTRL.DCK b).of v ∧
    (s.setMonCtrl b v).rd (MON_STAT.PRESET_ACT b) = s.rd (MON_STAT.PRESET_ACT b) ∧
    (s.setMonCtrl b v).rd (MONC.CS_ACT b) = s.rd (MONC.CS_ACT b) ∧ (s.setMonCtrl b v).ch = s.ch ∧ (s.setMonCtrl b v).flow = s.flow ∧
    SameFields [MON_CTRL.PRESET b, MON_CTRL.CS b, MON_CTRL.DCK b] s (s.setMonCtrl b v) := by
  obtain ⟨-, hpd, hpc, hpp, had, hac, hap, hdc, hdp, hcp⟩ := monKey_facts b
  refine ⟨(rd_put_same ..).trans (Nat.mod_mod _ _), (rd_put_ne hcp).trans ((rd_put_same ..).trans (Nat.mod_mod _ _)),
    (rd_put_ne hdp).trans ((rd_put_ne hdc).trans ((rd_put_same ..).trans (Nat.mod_mod _ _))),
    (rd_put_ne hpp).trans ((rd_put_ne hpc).trans (rd_put_ne hpd)), (rd_put_ne hap).trans ((rd_put_ne hac).trans (rd_put_ne had)), rfl, rfl,
    ?_⟩
  exact sameFields_put_of (sameFields_put_of (sameFields_put_of (.refl _ s) (by simp)) (by simp)) (by simp)

/-- A write of MON_CTRL that keeps CS, or meets no fade, is taken. -/
theorem hostWrite_monCtrl (hopen : s.writeOpen win 2)
    (hcs : (MON_CTRL.CS b).of value.toNat = s.rd (MON_CTRL.CS b) ∨ s.on (MON_STAT.XFADE b) = false)
    (hdck : 4 ≤ (MON_CTRL.DCK b).of value.toNat ∧ (MON_CTRL.DCK b).of value.toNat ≤ 16) :
    s.hostWrite ⟨win, monBase b, value.toNat, 15⟩ (monCtrlHook b) = s.setMonCtrl b value.toNat := by
  have ⟨hans, hlvl, _⟩ := hopen
  have hlow : ¬ s.level win < 2 := by omega
  have hreason : ∀ g ∈ monCtrlRow b, (monCtrlHook b).reason s g.fld (g.fld.of value.toNat) = 0 := by
    intro g hg
    have hdc : MON_CTRL.DCK b ≠ MON_CTRL.CS b := by simp [MON_CTRL.DCK, MON_CTRL.CS]
    have hpc : MON_CTRL.PRESET b ≠ MON_CTRL.CS b := by simp [MON_CTRL.PRESET, MON_CTRL.CS]
    simp only [monCtrlRow, List.mem_cons, List.not_mem_nil, or_false] at hg
    rcases hg with rfl | rfl | rfl
    · simp [monCtrlHook, hdc]
    · rcases hcs with h | h <;> simp [monCtrlHook, h]
    · simp [monCtrlHook, hpc]
  have hwhole := wholeReason_of_open (w := ⟨win, monBase b, value.toNat, 15⟩) (fs := monCtrlRow b)
    (f := ⟨MON_CTRL.DCK b, .rw, .live, 2, .rng 4 16⟩) hopen rfl (by simp [monCtrlRow]) rfl (Nat.zero_lt_succ 1)
  have hok : s.allTaken ⟨win, monBase b, value.toNat, 15⟩ (monCtrlHook b) (monCtrlRow b) := fun g hg => by
    refine ⟨?_, fun _ => hreason g hg⟩
    simp only [monCtrlRow, List.mem_cons, List.not_mem_nil, or_false] at hg
    rcases hg with rfl | rfl | rfl <;> simp [State.fieldReason, hlow, Lim.ok, hdck]
  refine hostWrite_of_act hans fieldsAt_monCtrl (by simp [monCtrlRow]) hwhole hok ?_
  simp [monCtrlHook, monCtrlRow, FSpec.writable, State.takeWord, State.each, State.applyField, State.setMonCtrl]

/-! ## MON_COEF_DATA (R306) -/

theorem coefficientWrite_taken {set : Fin 2} {tap : Fin 5} (hopen : s.writeOpen win 2) (hset : s.rd (MON_COEF_SEL.SET b) = set.val)
    (htap : s.rd (MON_COEF_SEL.TAP b) = tap.val) (hfree : s.setInUse b (2 + set) = false) :
    ∃ t, exec (.coefficientWrite win b value 15) s = .next t ∧
      t.rd (MON_COEF_DATA.COEF b (8 * set + tap)) = value.toNat % 2 ^ 18 ∧ t.ch = s.ch ∧ t.flow = s.flow ∧
      SameFields [MON_COEF_DATA.COEF b (8 * set + tap)] s t := by
  have ⟨hans, hlvl, _⟩ := hopen
  have hlow : ¬ s.level win < 2 := by omega
  have hwhole := wholeReason_of_open (w := ⟨win, 0x34 + monBase b, value.toNat, 15⟩) (fs := monCoefRow b (8 * set + tap))
    (f := ⟨MON_COEF_DATA.COEF b (8 * set + tap), .rw, .live, 2, .any⟩) hopen rfl (by simp [monCoefRow]) rfl (Nat.zero_lt_succ 1)
  have hok : s.allTaken ⟨win, 0x34 + monBase b, value.toNat, 15⟩ (coefHook b) (monCoefRow b (8 * set + tap)) := by
    simp [State.allTaken, monCoefRow, State.fieldReason, hlow, Lim.ok, coefHook, hset, hfree]
  have hexec : exec (.coefficientWrite win b value 15) s = .next (s.put (MON_COEF_DATA.COEF b (8 * set + tap))
      ((MON_COEF_DATA.COEF b (8 * set + tap)).of value.toNat)) := by
    refine congrArg Host.Outcome.next (hostWrite_of_act hans (fieldsAt_monCoef hset htap) (by simp [monCoefRow]) hwhole hok ?_)
    simp [coefHook, monCoefRow, FSpec.writable, State.takeWord, State.each, State.applyField]
  refine ⟨_, hexec, (rd_put_same ..).trans ((Nat.mod_mod _ _).trans ?_), rfl, rfl, sameFields_put_of (.refl _ s) (by simp)⟩
  simp [MON_COEF_DATA.COEF]

end

end Sys2Proof.Machine
end

section
/-! O40, part 2. The monitor clock is lost and found again; the bias loops skip a block, move their drive, or lose their operating point
(R315, R317 to R319). -/

set_option Elab.async false

namespace Sys2Proof.Machine

section
variable {s t : State} {n b : Nat}

/-! ## Loops that are held -/

/-- A field that each step leaves at x, and one step sets to x, ends at x. -/
theorem rd_each_set {l : List Nat} {k : Nat → State → State} {f : Field} {x i : Nat} (hi : i ∈ l) (hset : ∀ u, (k i u).rd f = x)
    (hkeep : ∀ j ∈ l, ∀ u : State, u.rd f = x → (k j u).rd f = x) : (s.each l k).rd f = x := by
  have hstays : ∀ (m : List Nat) (u : State), (∀ j ∈ m, j ∈ l) → u.rd f = x → (u.each m k).rd f = x := by
    intro m
    induction m with
    | nil => exact fun u _ hu => hu
    | cons j m ih => exact fun u hm hu => ih _ (fun i hi => hm i (by simp [hi])) (hkeep j (hm j (by simp)) u hu)
  obtain ⟨before, after, hsplit⟩ := List.append_of_mem hi
  rw [hsplit, State.each, List.foldl_append, List.foldl_cons]
  exact hstays after _ (fun j hj => by rw [hsplit]; simp [hj]) (hset _)

/-- Loops that may not run are in HOLD, and none shows LOCK. -/
theorem biasEval_held (h : s.biasRuns n = false) (hn : n < 4) :
    (∀ l < 6, (s.biasEval n).rd (BIASC.STATE n l) = 0) ∧ (s.biasEval n).rd (MON_BIAS_STAT.LOCK n) = 0 := by
  have hkey : ∀ (n : Fin 4) (l : Fin 6), (BIASC.STATE n l).key ≠ (MON_BIAS_STAT.STATE n).key ∧
      (BIASC.STATE n l).key ≠ (MON_BIAS_STAT.LOCK n).key := by decide
  have hheld : ∀ l < 6, (s.each (List.range 6) (fun b t => t.put (BIASC.STATE n b) 0)).rd (BIASC.STATE n l) = 0 := fun l hl =>
    rd_each_set (List.mem_range.2 hl) (fun _ => rd_put_same ..) fun j hj u hu => by
      by_cases heq : j = l
      · rw [heq]
        exact rd_put_same ..
      · exact (rd_put_ne (by
          have := List.mem_range.1 hj
          simp only [Field.key, BIASC.STATE, cell]
          omega)).trans hu
  unfold State.biasEval
  rw [h, if_neg Bool.false_ne_true]
  generalize s.each (List.range 6) (fun b t => t.put (BIASC.STATE n b) 0) = u at hheld
  refine ⟨fun l hl => ?_, ?_⟩
  · obtain ⟨hst, hlock⟩ := hkey ⟨n, hn⟩ ⟨l, hl⟩
    exact (rd_put_ne hlock).trans ((rd_put_ne hst).trans (hheld l hl))
  · have hmap : (List.range 6).map (fun b => u.rd (BIASC.STATE n b)) = List.replicate 6 0 :=
      List.map_eq_replicate_iff.2 fun l hl => hheld l (List.mem_range.1 hl)
    unfold State.biasShow
    rw [hmap]
    exact rd_put_same ..

/-- The cells of a channel's loops that a look at the loops may write, and what MON_BIAS_STAT shows of them. -/
def loopFields (n : Nat) : List Field :=
  biasFields n ++ (List.range 6).flatMap fun b =>
    [BIASC.STATE n b, BIASC.SMALL n b, BIASC.TRIES n b, BIASC.LARGE n b, BIASC.RAIL n b, BIASC.VPI_BAD n b]

theorem biasEval_fieldsKept : FieldsKept (loopFields n) [] [] s (s.biasEval n) := by
  have hshow : ∀ u, FieldsKept (loopFields n) [] [] s u → FieldsKept (loopFields n) [] [] s (u.biasShow n) := fun u hu =>
    fieldsKept_put_of (fieldsKept_put_of hu (by simp [loopFields, biasFields])) (by simp [loopFields, biasFields])
  have hloop : ∀ b < 6, ∀ f ∈ [BIASC.STATE n b, BIASC.SMALL n b, BIASC.TRIES n b, BIASC.LARGE n b, BIASC.RAIL n b, BIASC.VPI_BAD n b],
      f ∈ loopFields n := fun b hb f hf => List.mem_append_right _ (List.mem_flatMap.2 ⟨b, List.mem_range.2 hb, hf⟩)
  unfold State.biasEval
  split
  · refine hshow _ (fieldsKept_each (.refl _ _ _ s) fun b hb u hu => ?_)
    have hb6 := List.mem_range.1 (List.mem_filter.1 hb).1
    exact fieldsKept_clear (fieldsKept_put_of hu (hloop b hb6 _ (by simp))) fun f hf => hloop b hb6 f (by simp [hf])
  · exact hshow _ (fieldsKept_each (.refl _ _ _ s) fun b hb u hu => fieldsKept_put_of hu (hloop b (List.mem_range.1 hb) _ (by simp)))

theorem biasEval_parts : (s.biasEval n).ch = s.ch ∧ (s.biasEval n).flow = s.flow :=
  have h := kept_biasEval (A := fun _ => False) (n := n) (.refl s)
  ⟨h.same .ch id, h.same .flow id⟩

end

section
variable {s : State} {b : Fin 5}

/-! ## Loss of the clock (R315) -/

/-- The source of a notice of converter b. -/
def monSource (b k : Nat) : Nat := if b < 4 then sourceOf b (0x80 + k) else 80 + k

theorem raiseMon_eq (b k : Nat) : s.raiseMon b k = s.raise (monSource b k) := by
  unfold State.raiseMon monSource
  split <;> rfl

theorem monSource_lt {b k : Nat} (hk : k < 3) : monSource b k < 2048 := by
  unfold monSource
  split
  · exact sourceOf_lt (by omega)
  · omega

/-- The clock of converter b is reported lost. -/
def State.clockLost (b : Nat) (s : State) : State := (s.put (MON_STAT.CLK_LOSS b) 1 |>.put (MON_STAT.CLK_EV b) 1).raiseMon b 2

theorem exec_monitorClockLoss (hans : s.answers = true) (hclk : s.on (MON_STAT.CLK_LOSS b) = false) :
    exec (.monitorClockLoss b) s = .next ((s.clockLost b).when (b.val < 4) (·.biasEval b)) := by
  change Host.Outcome.next (s.when (s.answers && !s.on (MON_STAT.CLK_LOSS b)) _) = _
  rw [hans, hclk]
  rfl

theorem clock_facts : ∀ b : Fin 5, isQuiet (MON_STAT.CLK_LOSS b).key = true ∧ isQuiet (MON_STAT.CLK_EV b).key = true ∧
    (MON_STAT.CLK_LOSS b).key ≠ (MON_STAT.CLK_EV b).key ∧
    ∀ l : Fin 6, isQuiet (MON_BIAS_B.V b l).key = true ∧ (MON_BIAS_B.V b l).key ≠ (MON_STAT.CLK_EV b).key ∧
      (MON_BIAS_B.V b l).key ≠ (MON_STAT.CLK_LOSS b).key := by decide

theorem clockLost_shows : (s.clockLost b).rd (MON_STAT.CLK_LOSS b) = 1 ∧ (s.clockLost b).rd (MON_STAT.CLK_EV b) = 1 ∧
    (s.clockLost b).rd (IRQ_PEND (monSource b 2)) = 1 ∧ (∀ l : Fin 6, (s.clockLost b).rd (MON_BIAS_B.V b l) = s.rd (MON_BIAS_B.V b l)) ∧
    (s.clockLost b).ch = s.ch ∧ (s.clockLost b).flow = s.flow := by
  obtain ⟨hloss, hev, hne, hv⟩ := clock_facts b
  have hlt := monSource_lt (b := b) (k := 2) (by decide)
  unfold State.clockLost
  rw [raiseMon_eq]
  refine ⟨(rd_raise_quiet hlt (quiet_of_isQuiet hloss)).trans ((rd_put_ne hne).trans (rd_put_same ..)),
    (rd_raise_quiet hlt (quiet_of_isQuiet hev)).trans (rd_put_same ..), raise_pend hlt, fun l => ?_, raise_ch .., raise_flow ..⟩
  obtain ⟨hq, hvev, hvloss⟩ := hv l
  exact (rd_raise_quiet hlt (quiet_of_isQuiet hq)).trans ((rd_put_ne hvev).trans (rd_put_ne hvloss))

theorem loop_facts : ∀ n : Fin 4, (∀ g ∈ loopFields n, g.key ≠ (MON_STAT.CLK_LOSS n).key ∧ g.key ≠ (MON_STAT.CLK_EV n).key ∧
    g.key ≠ (IRQ_PEND (monSource n 2)).key) ∧ ∀ l : Fin 6, ∀ g ∈ loopFields n, g.key ≠ (MON_BIAS_B.V n l).key := by decide

theorem monitorClockLoss_holds (hans : s.answers = true) (hclk : s.on (MON_STAT.CLK_LOSS b) = false) :
    ∃ t, exec (.monitorClockLoss b) s = .next t ∧ t.rd (MON_STAT.CLK_LOSS b) = 1 ∧ t.rd (MON_STAT.CLK_EV b) = 1 ∧
      t.rd (IRQ_PEND (monSource b 2)) = 1 ∧
      (b.val < 4 → t.rd (MON_BIAS_STAT.LOCK b) = 0 ∧ ∀ l : Fin 6, t.rd (BIASC.STATE b l) = 0 ∧
        t.rd (MON_BIAS_B.V b l) = s.rd (MON_BIAS_B.V b l)) ∧ t.ch = s.ch ∧ t.flow = s.flow := by
  obtain ⟨hloss, hev, hpend, hv, hch, hflow⟩ := clockLost_shows (s := s) (b := b)
  have hexec := exec_monitorClockLoss hans hclk
  by_cases hb : b.val < 4
  · rw [decide_eq_true hb, when_true] at hexec
    have hruns : (s.clockLost b).biasRuns b = false := by
      unfold State.biasRuns State.on
      rw [hloss]
      simp
    obtain ⟨hheld, hlock⟩ := biasEval_held hruns hb
    obtain ⟨hqloss, hqev, -, hqv⟩ := clock_facts b
    obtain ⟨hfar, hfarv⟩ := loop_facts ⟨b, hb⟩
    have hkept := biasEval_fieldsKept (s := s.clockLost b) (n := b)
    have hparts := biasEval_parts (s := s.clockLost b) (n := b)
    refine ⟨_, hexec, ?_, ?_, ?_, fun _ => ⟨hlock, fun l => ⟨hheld l l.isLt, ?_⟩⟩, hparts.1.trans hch, hparts.2.trans hflow⟩
    · exact (hkept.read (by simp) (by simp) ⟨hqloss, fun g hg => (hfar g hg).1⟩).trans hloss
    · exact (hkept.read (by simp) (by simp) ⟨hqev, fun g hg => (hfar g hg).2.1⟩).trans hev
    · exact (hkept.readPend (by simp) (by simp) (monSource_lt (by decide)) (by simp) fun g hg => (hfar g hg).2.2).trans hpend
    · exact (hkept.read (by simp) (by simp) ⟨(hqv l).1, hfarv l⟩).trans (hv l)
  · rw [decide_eq_false hb, when_false] at hexec
    exact ⟨_, hexec, hloss, hev, hpend, fun h => absurd h hb, hch, hflow⟩

/-! ## The clock is back (R315) -/

theorem exec_monitorClockRelock (hclk : s.on (MON_STAT.CLK_LOSS b) = true) :
    exec (.monitorClockRelock b) s = .next (((s.put (MON_STAT.CLK_LOSS b) 0).monRestart b).when (b.val < 4) (·.biasEval b)) := by
  change Host.Outcome.next (s.when (s.on (MON_STAT.CLK_LOSS b)) _) = _
  rw [hclk]
  rfl

theorem uns_key_ne {b i j : Nat} (hi : i < 32) (hj : j < 32) (h : i ≠ j) : (MONC.UNS b i).key ≠ (MONC.UNS b j).key := by
  simp only [Field.key, MONC.UNS, cell]
  omega

/-- A restart leaves every input unsettled, and its mean to be preloaded. -/
theorem monRestart_shows {k : Nat} (hk : k < 32) : (s.monRestart b).rd (MONC.UNS b k) = settleCount (s.rd (MON_STAT.PRESET_ACT b)) ∧
    (s.monRestart b).rd (MONC.PRELOAD b) = 2 ^ 32 - 1 := by
  have hcell : (MONC.UNS b k).key ≠ (MONC.PRELOAD b).key := by
    simp only [Field.key, MONC.UNS, MONC.PRELOAD, cell]
    omega
  have hcount : settleCount (s.rd (MON_STAT.PRESET_ACT b)) < 2 ^ 5 := by
    unfold settleCount
    split <;> decide
  have hset : ∀ u : State, (u.put (MONC.UNS b k) (settleCount (s.rd (MON_STAT.PRESET_ACT b)))).rd (MONC.UNS b k) =
      settleCount (s.rd (MON_STAT.PRESET_ACT b)) := fun _ => (rd_put_same ..).trans (Nat.mod_eq_of_lt hcount)
  refine ⟨(rd_put_ne hcell).trans (rd_each_set (List.mem_range.2 hk) hset fun j hj u hu => ?_), rd_put_same ..⟩
  by_cases heq : j = k
  · rw [heq]
    exact hset u
  · exact (rd_put_ne (uns_key_ne hk (List.mem_range.1 hj) (Ne.symm heq))).trans hu

theorem monRestart_kept {f : Field} (hf : f.key < 8 * 0x20000000) : (s.monRestart b).rd f = s.rd f := by
  have hlow : ∀ i, f.key ≠ (MONC.UNS b i).key ∧ f.key ≠ (MONC.PRELOAD b).key := fun i => by
    simp only [Field.key, MONC.UNS, MONC.PRELOAD, cell] at hf ⊢
    omega
  have heach : ∀ (l : List Nat) (u : State) (x : Nat), (u.each l (fun i t => t.put (MONC.UNS b i) x)).rd f = u.rd f := by
    intro l
    induction l with
    | nil => exact fun _ _ => rfl
    | cons i l ih => exact fun u x => (ih _ x).trans (rd_put_ne (hlow i).1)
  unfold State.monRestart
  exact (rd_put_ne (hlow 0).2).trans ((heach _ _ _).trans rfl)

theorem monRestart_parts : (s.monRestart b).ch = s.ch ∧ (s.monRestart b).flow = s.flow :=
  have : Fact ((fun x => x = Area.mon) Area.mon) := ⟨rfl⟩
  have h := kept_monRestart (A := fun x => x = Area.mon) (b := b) (.refl s)
  ⟨h.same .ch (by decide), h.same .flow (by decide)⟩

theorem relock_facts : ∀ b : Fin 5, (MON_STAT.PRESET_ACT b).key ≠ (MON_STAT.CLK_LOSS b).key ∧
    (MON_STAT.CLK_LOSS b).key < 8 * 0x20000000 ∧ isQuiet (MONC.PRELOAD b).key = true ∧ (∀ k : Fin 32, isQuiet (MONC.UNS b k).key = true) := by
  decide

theorem loop_cell_facts : ∀ n : Fin 4, ∀ g ∈ loopFields n, g.key < 8 * 0x21B00000 := by decide

theorem preload_bits : ∀ k : Fin 32, bit (2 ^ 32 - 1) k = 1 := by decide

theorem monitorClockRelock_restarts (k : Fin 32) (hclk : s.on (MON_STAT.CLK_LOSS b) = true) :
    ∃ t, exec (.monitorClockRelock b) s = .next t ∧ t.rd (MON_STAT.CLK_LOSS b) = 0 ∧
      t.rd (MONC.UNS b k) = settleCount (s.rd (MON_STAT.PRESET_ACT b)) ∧ t.rdBit (MONC.PRELOAD b) k = true ∧
      t.ch = s.ch ∧ t.flow = s.flow := by
  obtain ⟨hpreset, hlow, hqpre, hquns⟩ := relock_facts b
  have hexec := exec_monitorClockRelock hclk
  generalize hu : (s.put (MON_STAT.CLK_LOSS b) 0).monRestart b = u at hexec
  obtain ⟨huns, hpre⟩ := monRestart_shows (s := s.put (MON_STAT.CLK_LOSS b) 0) (b := b) k.isLt
  have hparts := monRestart_parts (s := s.put (MON_STAT.CLK_LOSS b) 0) (b := b)
  have hloss := (monRestart_kept (s := s.put (MON_STAT.CLK_LOSS b) 0) (b := b) hlow).trans (rd_put_same ..)
  rw [rd_put_ne hpreset] at huns
  rw [hu] at huns hpre hparts hloss
  have hbit : ∀ {w : State}, w.rd (MONC.PRELOAD b) = 2 ^ 32 - 1 → w.rdBit (MONC.PRELOAD b) k = true := fun h => by
    unfold State.rdBit
    rw [h, preload_bits]
    rfl
  by_cases hb : b.val < 4
  · rw [decide_eq_true hb, when_true] at hexec
    have hkept := biasEval_fieldsKept (s := u) (n := b)
    have hbias := biasEval_parts (s := u) (n := b)
    have hfar : ∀ g ∈ loopFields b, g.key < 8 * 0x21B00000 := loop_cell_facts ⟨b, hb⟩
    obtain ⟨hq, -⟩ := clock_facts b
    refine ⟨_, hexec, ?_, ?_, hbit ?_, hbias.1.trans hparts.1, hbias.2.trans hparts.2⟩
    · exact (hkept.read (by simp) (by simp) ⟨hq, fun g hg => ((loop_facts ⟨b, hb⟩).1 g hg).1⟩).trans hloss
    · exact (hkept.read (by simp) (by simp) ⟨hquns k, fun g hg => Nat.ne_of_lt (Nat.lt_of_lt_of_le (hfar g hg) (by
        simp only [Field.key, MONC.UNS, cell]
        omega))⟩).trans huns
    · exact (hkept.read (by simp) (by simp) ⟨hqpre, fun g hg => Nat.ne_of_lt (Nat.lt_of_lt_of_le (hfar g hg) (by
        simp only [Field.key, MONC.PRELOAD, cell]
        omega))⟩).trans hpre
  · rw [decide_eq_false hb, when_false] at hexec
    exact ⟨_, hexec, hloss, huns, hbit hpre, hparts.1, hparts.2⟩

end

end Sys2Proof.Machine
end

section
/-! O40, part 3. The bias loops: a block that is skipped, an update of a locked loop, and the loss of an operating point at the rail (R317 to
R319). -/

set_option Elab.async false

namespace Sys2Proof.Machine

section
variable {s t : State} {n b : Nat} {e : Int} {vpi : Nat}

/-! ## One update, part by part -/

/-- The drive that an update moves a loop to, in mV, before the limits. -/
def State.biasTarget (s : State) (n b : Nat) (e : Int) : Int :=
  s.rdS (MON_BIAS_B.V n b) - roundQ (e * 10000) (65536 * 2 ^ s.rd (MON_BIAS_CTRL.GAIN n))

/-- The drive within its rails. -/
def railed (v : Int) : Int := if v < -10000 then -10000 else if 10000 < v then 10000 else v

/-- Consecutive updates at a rail, with one that drives to v. -/
def State.railCount (s : State) (n b : Nat) (v : Int) : Nat :=
  if railed v = 10000 || railed v = -10000 then Nat.min 16 (s.rd (BIASC.RAIL n b) + 1) else 0

/-- Consecutive small errors of a loop in ACQ, with e. -/
def State.smallCount (s : State) (n b : Nat) (e : Int) : Nat :=
  if s.rd (BIASC.STATE n b) = 1 && e.natAbs < s.rd (MON_BIAS_CTRL.LOCK_THR n) then s.rd (BIASC.SMALL n b) + 1 else 0

/-- Updates of a loop since it entered ACQ. -/
def State.tryCount (s : State) (n b : Nat) : Nat := if s.rd (BIASC.STATE n b) = 1 then s.rd (BIASC.TRIES n b) + 1 else 0

/-- Consecutive large errors of a loop in LOCK, with e. -/
def State.largeCount (s : State) (n b : Nat) (e : Int) : Nat :=
  if s.rd (BIASC.STATE n b) = 2 && 4 * s.rd (MON_BIAS_CTRL.LOCK_THR n) < e.natAbs then s.rd (BIASC.LARGE n b) + 1 else 0

/-- An error as MON_BIAS_B shows it. -/
def shownError (e : Int) : Int := if e < -32768 then -32768 else if 32767 < e then 32767 else e

/-- A loop's drive, error and counts after an update. -/
def State.loopStepped (n b : Nat) (v e : Int) (small tries large rail : Nat) (s : State) : State :=
  s.putS (MON_BIAS_B.V n b) v |>.putS (MON_BIAS_B.ERR n b) e |>.addWrap (BIASC.UPD n b) 1 |>.put (BIASC.SMALL n b) small
    |>.put (BIASC.TRIES n b) tries |>.put (BIASC.LARGE n b) large |>.put (BIASC.RAIL n b) rail |>.count n .mon 0x04

/-- A loop after an update, before it is judged. -/
def State.loopUpdated (n b : Nat) (e : Int) (vpi : Nat) (s : State) : State :=
  (s.loopStepped n b (railed (s.biasTarget n b e)) (shownError e) (s.smallCount n b e) (Nat.min 2048 (s.tryCount n b)) (s.largeCount n b e)
      (s.railCount n b (s.biasTarget n b e))
    |>.when (s.rd (BIASC.UPD n b) = 63) (·.vpiEstimate n b vpi))
    |>.when (s.rd (BIASC.STATE n b) = 1 && 8 ≤ s.smallCount n b e)
      (fun t => (t.put (BIASC.STATE n b) 2 |>.put (BIASC.LARGE n b) 0).biasShow n)

theorem biasUpdate_eq : s.biasUpdate n b e vpi =
    if 16 ≤ s.railCount n b (s.biasTarget n b e) then (s.loopUpdated n b e vpi).biasLoss n b 1
    else if s.rd (BIASC.STATE n b) = 1 && 2048 ≤ s.tryCount n b && s.smallCount n b e < 8 then (s.loopUpdated n b e vpi).biasLoss n b 2
    else if 64 ≤ s.largeCount n b e then (s.loopUpdated n b e vpi).biasLoss n b 3
    else if 4 ≤ (s.loopUpdated n b e vpi).rd (BIASC.VPI_BAD n b) then (s.loopUpdated n b e vpi).biasLoss n b 4
    else s.loopUpdated n b e vpi := rfl

end

section
variable {s : State} {n : Fin 4} {tap : Fin 2} {vpi : List Nat} {l : List (Int × Bool)} {e v : Int}

/-! ## The block of a tap -/

/-- The demodulated error of loop b over a tap's block, newest result first. -/
def demodulated (b : Nat) (l : List (Int × Bool)) : Int :=
  roundQ ((l.reverse.zipIdx.map (fun (p : (Int × Bool) × Nat) => p.1.1 * chipSign b (p.2 / 2))).sum * 65536)
    (l.reverse.map Prod.fst).sum.natAbs

/-- The turn of one loop in a block's end. -/
def State.loopTurn (n : Nat) (vpi : List Nat) (l : List (Int × Bool)) (b : Nat) (s : State) : State :=
  if s.rd (BIASC.STATE n b) = 0 then s else s.biasUpdate n b (demodulated b l) (vpi.getD (b % 3) 0)

theorem exec_biasBlockEnd (hruns : s.biasRuns n = true) (hkey : keyed (2 * n + tap) s.taps = some l) (hlen : l.length = 16) :
    exec (.biasBlockEnd n tap vpi) s = .next
      (if l.any Prod.snd = true ∨ (l.map Prod.fst).sum * 200 < 2 * 16 * 2 ^ 23 * (s.monGain n tap : Int) then
        (s.bump (MON_BIAS_STAT.SKIP n)).count n .mon 0x05
      else (((s.loopTurn n vpi l (3 * tap)).loopTurn n vpi l (3 * tap + 1)).loopTurn n vpi l (3 * tap + 2))) := by
  have hsum : (l.reverse.map Prod.fst).sum = (l.map Prod.fst).sum := ((List.reverse_perm l).map Prod.fst).sum_eq
  change Host.Outcome.next (s.biasBlock n tap vpi) = _
  unfold State.biasBlock
  rw [hkey]
  dsimp only [Option.getD]
  rw [List.length_reverse, hlen, hruns, List.any_reverse]
  simp only [Bool.or_eq_true, decide_eq_true_eq]
  rw [if_neg (by simp), ← hsum]
  rfl

theorem skip_facts : ∀ n : Fin 4, isQuiet (MON_BIAS_STAT.SKIP n).key = true := by decide

theorem biasBlockEnd_skips (hruns : s.biasRuns n = true) (hkey : keyed (2 * n + tap) s.taps = some l) (hlen : l.length = 16)
    (hskip : l.any Prod.snd = true ∨ (l.map Prod.fst).sum * 200 < 2 * 16 * 2 ^ 23 * (s.monGain n tap : Int)) :
    ∃ t, exec (.biasBlockEnd n tap vpi) s = .next t ∧
      t.rd (MON_BIAS_STAT.SKIP n) = s.oneMore (MON_BIAS_STAT.SKIP n) ∧ t.ch = s.ch ∧ t.flow = s.flow ∧
      FieldsKept [MON_BIAS_STAT.SKIP n] [] [n] s t := by
  have hexec := exec_biasBlockEnd (vpi := vpi) hruns hkey hlen
  rw [if_pos hskip] at hexec
  exact ⟨_, hexec, (rd_count_quiet (by omega) (quiet_of_isQuiet (skip_facts n))).trans (rd_bump_same _), count_ch, count_flow,
    fieldsKept_count (fieldsKept_bump_of (.refl _ _ _ s) (by simp)) (by simp)⟩

/-- The end of a block that is not skipped, where the tap's other two loops are held. -/
theorem exec_biasBlockEnd_first (hruns : s.biasRuns n = true) (hkey : keyed (2 * n + tap) s.taps = some l) (hlen : l.length = 16)
    (hsettled : l.any Prod.snd = false) (hmean : 2 * 16 * 2 ^ 23 * (s.monGain n tap : Int) ≤ (l.map Prod.fst).sum * 200)
    {u : State} (hturn : s.loopTurn n vpi l (3 * tap) = u) (h1 : u.rd (BIASC.STATE n (3 * tap + 1)) = 0)
    (h2 : u.rd (BIASC.STATE n (3 * tap + 2)) = 0) : exec (.biasBlockEnd n tap vpi) s = .next u := by
  have hexec := exec_biasBlockEnd (vpi := vpi) hruns hkey hlen
  rw [if_neg (by rw [hsettled]; simpa using hmean), hturn] at hexec
  rw [hexec, State.loopTurn, State.loopTurn, if_pos h1, if_pos h2]

/-! ## A locked loop moves its drive -/

/-- The fields of a loop that an update short of a new state writes. -/
def stepFields (n b : Nat) : List Field :=
  [MON_BIAS_B.V n b, MON_BIAS_B.ERR n b, BIASC.UPD n b, BIASC.SMALL n b, BIASC.TRIES n b, BIASC.LARGE n b, BIASC.RAIL n b]

theorem loopStepped_fieldsKept {b small tries large rail : Nat} :
    FieldsKept (stepFields n b) [] [n] s (s.loopStepped n b v e small tries large rail) := by
  unfold State.loopStepped
  refine fieldsKept_count (fieldsKept_put_of (fieldsKept_put_of (fieldsKept_put_of (fieldsKept_put_of (fieldsKept_addWrap_of
    (fieldsKept_putS_of (fieldsKept_putS_of (.refl _ _ _ s) ?_) ?_) ?_) ?_) ?_) ?_) ?_) (by simp)
  all_goals simp [stepFields]

theorem step_facts : ∀ (n : Fin 4) (b : Fin 6), isQuiet (MON_BIAS_B.V n b).key = true ∧ isQuiet (MON_BIAS_B.ERR n b).key = true ∧
    isQuiet (BIASC.LARGE n b).key = true ∧ (∀ c : Fin 6, isQuiet (BIASC.STATE n c).key = true ∧
      ∀ g ∈ stepFields n b, g.key ≠ (BIASC.STATE n c).key) ∧
    isQuiet (BIASC.VPI_BAD n b).key = true ∧ (∀ g ∈ stepFields n b, g.key ≠ (BIASC.VPI_BAD n b).key) ∧
    (stepFields n b |>.map Field.key).Nodup := by decide

theorem loopStepped_shows {b : Fin 6} {small tries large rail : Nat} (hv : -10000 ≤ v ∧ v ≤ 10000) (he : -32768 ≤ e ∧ e < 32768) :
    (s.loopStepped n b v e small tries large rail).rdS (MON_BIAS_B.V n b) = v ∧
    (s.loopStepped n b v e small tries large rail).rdS (MON_BIAS_B.ERR n b) = e ∧
    (s.loopStepped n b v e small tries large rail).rd (BIASC.LARGE n b) = large % 2 ^ 7 := by
  obtain ⟨hqv, hqe, hql, -, -, -, hkeys⟩ := step_facts n b
  simp only [stepFields, List.map_cons, List.map_nil, List.nodup_cons, List.mem_cons, List.not_mem_nil, or_false, not_or] at hkeys
  obtain ⟨⟨hve, hvu, hvs, hvt, hvl, hvr⟩, ⟨heu, hes, het, hel, her⟩, -, -, -, hlr, -⟩ := hkeys
  have hcount : ∀ {f : Field} (u : State), isQuiet f.key = true → (u.count n .mon 0x04).rdS f = u.rdS f := fun u hq => by
    rw [State.rdS, rd_count_quiet (by omega) (quiet_of_isQuiet hq), State.rdS]
  unfold State.loopStepped
  refine ⟨(hcount _ hqv).trans ?_, (hcount _ hqe).trans ?_, (rd_count_quiet (by omega) (quiet_of_isQuiet hql)).trans
    ((rd_put_ne hlr).trans (rd_put_same ..))⟩
  · rw [rdS_put_ne hvr, rdS_put_ne hvl, rdS_put_ne hvt, rdS_put_ne hvs, State.addWrap, rdS_put_ne hvu, State.putS, rdS_put_ne hve]
    exact rdS_putS_same (show 0 < 16 by decide) (show -(2 ^ 15) ≤ v by omega) (show v < 2 ^ 15 by omega)
  · rw [rdS_put_ne her, rdS_put_ne hel, rdS_put_ne het, rdS_put_ne hes, State.addWrap, rdS_put_ne heu]
    exact rdS_putS_same (show 0 < 16 by decide) (show -(2 ^ 15) ≤ e by omega) (show e < 2 ^ 15 by omega)

/-- A locked loop that is short of the rails, of a large error and of a due estimate takes its step and stays locked. -/
theorem biasUpdate_locked {b : Fin 6} {p : Nat} (hst : s.rd (BIASC.STATE n b) = 2) (hv : s.biasTarget n b e = v)
    (hrail : -10000 < v ∧ v < 10000) (hsmall : e.natAbs ≤ 4 * s.rd (MON_BIAS_CTRL.LOCK_THR n)) (he : -32768 ≤ e ∧ e < 32768)
    (hupd : s.rd (BIASC.UPD n b) ≠ 63) (hvpi : s.rd (BIASC.VPI_BAD n b) < 4) :
    s.biasUpdate n b e p = s.loopStepped n b v e 0 0 0 0 := by
  have hrailed : railed v = v := by rw [railed, if_neg (by omega), if_neg (by omega)]
  have hshown : shownError e = e := by rw [shownError, if_neg (by omega), if_neg (by omega)]
  have hcount : s.railCount n b v = 0 := by
    rw [State.railCount, hrailed, decide_eq_false (by omega), decide_eq_false (by omega)]
    rfl
  have hlarge : s.largeCount n b e = 0 := by
    rw [State.largeCount, decide_eq_false (show ¬ 4 * s.rd (MON_BIAS_CTRL.LOCK_THR n) < e.natAbs by omega), Bool.and_false]
    rfl
  have hsm : s.smallCount n b e = 0 := by simp [State.smallCount, hst]
  have htry : s.tryCount n b = 0 := by simp [State.tryCount, hst]
  have hupdated : s.loopUpdated n b e p = s.loopStepped n b v e 0 0 0 0 := by
    unfold State.loopUpdated
    rw [hv, hrailed, hshown, hcount, hlarge, hsm, htry, decide_eq_false hupd, hst]
    rfl
  have hbad : (s.loopStepped n b v e 0 0 0 0).rd (BIASC.VPI_BAD n b) = s.rd (BIASC.VPI_BAD n b) :=
    loopStepped_fieldsKept.read (by simp) (by simp; omega) ⟨(step_facts n b).2.2.2.2.1, (step_facts n b).2.2.2.2.2.1⟩
  rw [biasUpdate_eq, hv, hcount, hlarge, hsm, htry, hupdated, hbad, hst, if_neg (by omega), if_neg (by decide), if_neg (by omega),
    if_neg (by omega)]

/-- The first loop of a tap. -/
def firstLoop (tap : Fin 2) : Fin 6 := ⟨3 * tap, by omega⟩

theorem biasBlockEnd_moves (hruns : s.biasRuns n = true) (hkey : keyed (2 * n + tap) s.taps = some l) (hlen : l.length = 16)
    (hsettled : l.any Prod.snd = false) (hmean : 2 * 16 * 2 ^ 23 * (s.monGain n tap : Int) ≤ (l.map Prod.fst).sum * 200)
    (h1 : s.rd (BIASC.STATE n (3 * tap + 1)) = 0) (h2 : s.rd (BIASC.STATE n (3 * tap + 2)) = 0) (he : e = demodulated (3 * tap) l)
    (hv : v = s.biasTarget n (3 * tap) e) (hst : s.rd (BIASC.STATE n (3 * tap)) = 2) (hrail : -10000 < v ∧ v < 10000)
    (hsmall : e.natAbs ≤ 4 * s.rd (MON_BIAS_CTRL.LOCK_THR n)) (hshown : -32768 ≤ e ∧ e < 32768)
    (hupd : s.rd (BIASC.UPD n (3 * tap)) ≠ 63) (hvpi : s.rd (BIASC.VPI_BAD n (3 * tap)) < 4) :
    ∃ t, exec (.biasBlockEnd n tap vpi) s = .next t ∧ t.rdS (MON_BIAS_B.V n (3 * tap)) = v ∧
      t.rdS (MON_BIAS_B.ERR n (3 * tap)) = e ∧ t.rd (BIASC.STATE n (3 * tap)) = 2 ∧
      t.rd (BIASC.LARGE n (3 * tap)) = 0 ∧ t.ch = s.ch ∧ t.flow = s.flow ∧ FieldsKept (stepFields n (3 * tap)) [] [n] s t := by
  have hturn : s.loopTurn n vpi l (3 * tap) = s.loopStepped n (3 * tap) v e 0 0 0 0 := by
    unfold State.loopTurn
    rw [if_neg (by omega), ← he]
    exact biasUpdate_locked (b := firstLoop tap) hst hv.symm hrail hsmall hshown hupd hvpi
  have hkept : FieldsKept (stepFields n (3 * tap)) [] [n] s (s.loopStepped n (3 * tap) v e 0 0 0 0) := loopStepped_fieldsKept
  have hread : ∀ c : Fin 6, (s.loopStepped n (3 * tap) v e 0 0 0 0).rd (BIASC.STATE n c) = s.rd (BIASC.STATE n c) := fun c =>
    hkept.read (by simp) (by simp; omega) ((step_facts n (firstLoop tap)).2.2.2.1 c)
  obtain ⟨hshowv, hshowe, hlarge⟩ := loopStepped_shows (s := s) (n := n) (b := firstLoop tap) (small := 0) (tries := 0) (large := 0)
    (rail := 0) ⟨hrail.1.le, hrail.2.le⟩ hshown
  refine ⟨_, exec_biasBlockEnd_first hruns hkey hlen hsettled hmean hturn ((hread ⟨3 * tap + 1, by omega⟩).trans h1)
    ((hread ⟨3 * tap + 2, by omega⟩).trans h2), hshowv, hshowe, (hread (firstLoop tap)).trans hst, hlarge, ?_, ?_, hkept⟩
  · exact count_ch
  · exact count_flow

/-! ## A loop at the rail loses its operating point -/

/-- Registers that an update and its judgement write, short of a loss. -/
def updateFields (n : Nat) : List Field :=
  ((List.range 6).flatMap fun b => [MON_BIAS_B.V n b, MON_BIAS_B.ERR n b]) ++
    ((List.range 4).flatMap fun k => [MON_BIAS_R.VPI n k, MON_BIAS_R.RATIO n k]) ++ biasFields n

/-- Fields of a loss of an operating point. -/
def pointLossFields (n : Nat) : List Field :=
  [MON_BIAS_STAT.LOSS_CAUSE n, MON_BIAS_STAT.LOSS_LOOP n, MON_BIAS_STAT.LOSS_EV n, OPT_FAULT.BIAS n]

theorem pointLoss_facts : ∀ n : Fin 4, notPending (updateFields n) = true ∧ (∀ f ∈ pointLossFields n, apart (fenceFields n) f = true) ∧
    (∀ f ∈ pointLossFields n, isQuiet f.key = true) ∧ apart (updateFields n) (MON_BIAS_STAT.LOSS_CAUSE n) = true ∧
    notPending (fenceFields n) = true ∧ (pointLossFields n |>.map Field.key).Nodup ∧ notPending (pointLossFields n) = true := by decide

theorem childLane_lt {b k : Nat} (h : childLane b = some k) : k < 4 := by
  unfold childLane at h
  split at h
  all_goals
    simp only [Option.some.injEq, reduceCtorEq] at h
    try omega

theorem ChannelLocal.loopUpdated {b : Fin 6} {p : Nat} : ChannelLocal n (rangesOf (updateFields n)) s (s.loopUpdated n b e p) := by
  have hreach : Reaches (rangesOf (updateFields n)) (updateFields n) := reaches_of fun _ h => h
  have hloop : ∀ f ∈ [MON_BIAS_B.V n b, MON_BIAS_B.ERR n b], reach (rangesOf (updateFields n)) f.key = true := fun f hf =>
    hreach f (List.mem_append_left _ (List.mem_append_left _ (List.mem_flatMap.2 ⟨b, List.mem_range.2 b.isLt, hf⟩)))
  have hlane : ∀ k < 4, ∀ f ∈ [MON_BIAS_R.VPI n k, MON_BIAS_R.RATIO n k], reach (rangesOf (updateFields n)) f.key = true :=
    fun k hk f hf => hreach f (List.mem_append_left _ (List.mem_append_right _ (List.mem_flatMap.2 ⟨k, List.mem_range.2 hk, hf⟩)))
  have hstart : ChannelLocal n (rangesOf (updateFields n)) s s := .start (pointLoss_facts n).1
  unfold State.loopUpdated State.loopStepped
  refine ChannelLocal.when (.when (.count (((((((hstart.putS (hloop _ (by simp))).putS (hloop _ (by simp))).addWrap (cell_reach ..)).put
    (cell_reach ..)).put (cell_reach ..)).put (cell_reach ..)).put (cell_reach ..)) (by omega)) fun u hu => ?_) fun u hu => ?_
  · unfold State.vpiEstimate
    split
    · rename_i k hk
      have hk4 := childLane_lt hk
      exact (((hu.put (hlane k hk4 _ (by simp))).put (hlane k hk4 _ (by simp))).put (cell_reach ..)).put (cell_reach ..)
    · exact hu
  · exact ((hu.put (cell_reach ..)).put (cell_reach ..)).biasShow (hreach.sub fun f hf => List.mem_append_right _ hf)

/-- The loss of a loop's operating point as it is reported. -/
def State.lossReported (n b cause : Nat) (s : State) : State :=
  s.when (s.rd (MON_BIAS_STAT.LOSS_CAUSE n) = 0) (fun t =>
      (t.put (MON_BIAS_STAT.LOSS_CAUSE n) cause).put (MON_BIAS_STAT.LOSS_LOOP n) b)
    |>.put (MON_BIAS_STAT.LOSS_EV n) 1 |>.raiseCh n 0x83

theorem biasLoss_eq {b cause : Nat} : s.biasLoss n b cause =
    (((s.lossReported n b cause).put (OPT_FAULT.BIAS n) 1).raiseCh n 0x03).fenceChannel n := rfl

/-- Fields and pending bits as a loss leaves them, and the loops held. -/
theorem biasLoss_shows {b : Fin 6} {cause : Nat} (hcause : cause < 16) : (s.biasLoss n b cause).rd (MON_BIAS_STAT.LOSS_EV n) = 1 ∧
    (s.biasLoss n b cause).rd (IRQ_PEND (sourceOf n 0x83)) = 1 ∧
    (s.rd (MON_BIAS_STAT.LOSS_CAUSE n) = 0 → (s.biasLoss n b cause).rd (MON_BIAS_STAT.LOSS_CAUSE n) = cause ∧
      (s.biasLoss n b cause).rd (MON_BIAS_STAT.LOSS_LOOP n) = b) ∧
    (s.biasLoss n b cause).rd (OPT_FAULT.BIAS n) = 1 ∧ ∀ c < 6, (s.biasLoss n b cause).rd (BIASC.STATE n c) = 0 := by
  obtain ⟨-, hapart, hquiet, -, hfence, hkeys, hloss⟩ := pointLoss_facts n
  simp only [pointLossFields, List.map_cons, List.map_nil, List.nodup_cons, List.mem_cons, List.not_mem_nil, or_false, not_or] at hkeys
  obtain ⟨⟨hcl, hce, hcb⟩, ⟨hle, hlb⟩, heb, -⟩ := hkeys
  generalize hu : ((s.lossReported n b cause).put (OPT_FAULT.BIAS n) 1).raiseCh n 0x03 = u
  have hfenced : ChannelFenced n u (s.biasLoss n b cause) := by
    rw [biasLoss_eq, hu]
    exact fenceChannel_fenced
  have hread : ∀ f ∈ pointLossFields n, (s.biasLoss n b cause).rd f = ((s.lossReported n b cause).put (OPT_FAULT.BIAS n) 1).rd f := fun f hf =>
    (hfenced.within.read (hapart f hf)).trans (by rw [← hu]; exact rd_raiseCh_quiet (by decide) (quiet_of_isQuiet (hquiet f hf)))
  have hreport : ∀ f ∈ pointLossFields n, f.key ≠ (OPT_FAULT.BIAS n).key → (s.biasLoss n b cause).rd f =
      ((s.when (s.rd (MON_BIAS_STAT.LOSS_CAUSE n) = 0) (fun t =>
        (t.put (MON_BIAS_STAT.LOSS_CAUSE n) cause).put (MON_BIAS_STAT.LOSS_LOOP n) b)).put (MON_BIAS_STAT.LOSS_EV n) 1).rd f := fun f hf hne =>
    (hread f hf).trans ((rd_put_ne hne).trans (rd_raiseCh_quiet (by decide) (quiet_of_isQuiet (hquiet f hf))))
  refine ⟨(hreport _ (by simp [pointLossFields]) heb).trans (rd_put_same ..), ?_, fun hnone => ⟨?_, ?_⟩,
    (hread _ (by simp [pointLossFields])).trans (rd_put_same ..), ?_⟩
  · have hnot : ChannelLocal n (rangesOf (pointLossFields n)) (s.lossReported n b cause) u := by
      rw [← hu]
      exact ((ChannelLocal.start hloss).put (reaches_of (fun _ h => h) _ (by simp [pointLossFields]))).raiseCh (by decide)
    exact hfenced.within.pend _ (sourceOf_lt (by decide)) (hnot.pend _ (sourceOf_lt (by decide)) (raiseCh_pend (by decide)))
  · rw [hreport _ (by simp [pointLossFields]) hcb, hnone]
    exact (rd_put_ne hce).trans ((rd_put_ne hcl).trans ((rd_put_same ..).trans (Nat.mod_eq_of_lt hcause)))
  · rw [hreport _ (by simp [pointLossFields]) hlb, hnone]
    exact (rd_put_ne hle).trans ((rd_put_same ..).trans (Nat.mod_eq_of_lt (show b.val < 2 ^ 3 by omega)))
  · rw [biasLoss_eq, hu]
    have hruns : (u.fenceReported n).biasRuns n = false := by
      unfold State.biasRuns
      rw [fenceReported_shows.1]
      simp
    exact (biasEval_held hruns n.isLt).1

theorem biasBlockEnd_loses (hruns : s.biasRuns n = true) (hkey : keyed (2 * n + tap) s.taps = some l) (hlen : l.length = 16)
    (hsettled : l.any Prod.snd = false) (hmean : 2 * 16 * 2 ^ 23 * (s.monGain n tap : Int) ≤ (l.map Prod.fst).sum * 200)
    (he : e = demodulated (3 * tap) l) (hv : v = s.biasTarget n (3 * tap) e) (hst : s.rd (BIASC.STATE n (3 * tap)) ≠ 0)
    (hrail : v ≤ -10000 ∨ 10000 ≤ v) (hcount : s.rd (BIASC.RAIL n (3 * tap)) = 15) :
    ∃ t, exec (.biasBlockEnd n tap vpi) s = .next t ∧ t.rd (MON_BIAS_STAT.LOSS_EV n) = 1 ∧ t.rd (IRQ_PEND (sourceOf n 0x83)) = 1 ∧
      (s.rd (MON_BIAS_STAT.LOSS_CAUSE n) = 0 → t.rd (MON_BIAS_STAT.LOSS_CAUSE n) = 1 ∧ t.rd (MON_BIAS_STAT.LOSS_LOOP n) = 3 * tap) ∧
      t.rd (OPT_FAULT.BIAS n) = 1 := by
  have hfull : s.railCount n (3 * tap) v = 16 := by
    have hat : railed v = 10000 ∨ railed v = -10000 := by
      unfold railed
      split
      · exact .inr rfl
      · split <;> omega
    rw [State.railCount, hcount, if_pos (by simpa using hat)]
    rfl
  have hturn : s.loopTurn n vpi l (3 * tap) =
      (s.loopUpdated n (firstLoop tap) e (vpi.getD (3 * tap % 3) 0)).biasLoss n (firstLoop tap) 1 := by
    unfold State.loopTurn
    rw [if_neg hst, ← he, biasUpdate_eq, ← hv, hfull, if_pos (Nat.le_refl 16)]
    rfl
  generalize hu : s.loopUpdated n (firstLoop tap) e (vpi.getD (3 * tap % 3) 0) = u at hturn
  have hnone : u.rd (MON_BIAS_STAT.LOSS_CAUSE n) = s.rd (MON_BIAS_STAT.LOSS_CAUSE n) := by
    rw [← hu]
    exact ChannelLocal.loopUpdated.read (pointLoss_facts n).2.2.2.1
  obtain ⟨hev, hpend, hcause, hfault, hheld⟩ := biasLoss_shows (s := u) (n := n) (b := firstLoop tap) (cause := 1) (by decide)
  refine ⟨_, exec_biasBlockEnd_first hruns hkey hlen hsettled hmean hturn (hheld _ (by omega)) (hheld _ (by omega)), hev, hpend,
    fun h => hcause (hnone.trans h), hfault⟩

end

end Sys2Proof.Machine
end

section
/-! O40, part 4. What the inputs of a converter make of a conversion period: the filters of each and its result (R303 to R311). -/

set_option Elab.async false

namespace Sys2Proof.Machine

/-! ## Keyed lists -/

section
variable {α : Type} {k j : Nat} {a : α} {l : List (Nat × α)}

theorem keyed_cons {p : Nat × α} : keyed k (p :: l) = if p.1 = k then some p.2 else keyed k l := by
  unfold keyed
  rw [List.find?_cons]
  by_cases h : p.1 = k <;> simp [h]

theorem keyed_setKeyed_same : keyed k (setKeyed k a l) = some a := by
  induction l with
  | nil => simp [setKeyed, keyed_cons]
  | cons p l ih =>
    rw [setKeyed]
    split
    · simp [keyed_cons]
    · rename_i h
      rw [keyed_cons, if_neg h, ih]

theorem keyed_setKeyed_ne (h : j ≠ k) : keyed k (setKeyed j a l) = keyed k l := by
  induction l with
  | nil => simp [setKeyed, keyed_cons, h]
  | cons p l ih =>
    rw [setKeyed]
    split
    · rename_i hp
      rw [keyed_cons, keyed_cons, if_neg h, if_neg (by rw [hp]; exact h)]
    · rw [keyed_cons, keyed_cons, ih]

end

section
variable {s t u : State} {b i k : Nat} {codes : List Int} {all : List (List Int)}

/-! ## One input -/

/-- The value of a whole quotient. -/
theorem roundQ_mul {x : Int} {d : Nat} (hd : 0 < d) : roundQ (d * x) d = x := by
  have hd' : (d : Int) ≠ 0 := by omega
  rw [roundQ, if_pos (Int.mul_emod_right ..), Int.mul_ediv_cancel_left _ hd']

/-- The flat set passes the CIC output at the filter's centre. -/
theorem compFilter_flat {h : List Int} : s.compFilter b 0 h = h.getD 4 0 := by
  have hsum : ((List.range 9).map (fun j => s.compTap b 0 (if j ≤ 4 then 4 - j else j - 4) * h.getD j 0)).sum =
      ((65536 : Nat) : Int) * h.getD 4 0 := by
    simp [List.range_succ, State.compTap]
  unfold State.compFilter
  rw [hsum]
  exact roundQ_mul (by decide)

/-- A period's output enters the history before the four at the filter's centre. -/
theorem next_centre {p : Nat} {c : MonInput} : (c.next p codes).2.hist.getD 4 0 = c.hist.getD 3 0 := by
  unfold MonInput.next
  simp [List.getD_eq_getElem?_getD]

/-- Outside the settling count and the preload of input i, an input's part leaves every field. -/
theorem monInput_rd {f : Field} (huns : f.key ≠ (MONC.UNS b i).key) (hpre : f.key ≠ (MONC.PRELOAD b).key) :
    (s.monInput b i codes).2.rd f = s.rd f := by
  unfold State.monInput
  exact (rd_when_same fun _ => rd_putBit_ne hpre).trans (rd_put_ne huns)

/-- What a period leaves of the filters of input i. -/
def State.decimated (s : State) (b i : Nat) (codes : List Int) : MonInput :=
  (((keyed (32 * b + i) s.monHist).getD MonInput.zero).next (s.rd (MON_STAT.PRESET_ACT b)) codes).2

theorem monInput_monHist : (s.monInput b i codes).2.monHist = setKeyed (32 * b + i) (s.decimated b i codes) s.monHist := by
  unfold State.monInput
  dsimp only
  cases decide (s.rd (MONC.UNS b i) = 0) && s.rdBit (MONC.PRELOAD b) i <;> rfl

/-- The filters of an input take its samples. -/
theorem monInput_hist : keyed (32 * b + i) (s.monInput b i codes).2.monHist = some (s.decimated b i codes) := by
  rw [monInput_monHist, keyed_setKeyed_same]

theorem monInput_hist_other (h : i ≠ k) : keyed (32 * b + k) (s.monInput b i codes).2.monHist = keyed (32 * b + k) s.monHist := by
  rw [monInput_monHist, keyed_setKeyed_ne (by omega)]

/-- A settled input outside a fade and a DC block delivers, under the flat set, the output at the filter's centre. -/
theorem monInput_flat {v : Int} (hset : s.rd (MONC.CS_ACT b) = 0) (hfade : s.rd (MONC.FADE b) = 0)
    (hblock : s.rdBit (MON_DCB_EN.EN b) i = false) (huns : s.rd (MONC.UNS b i) = 0)
    (hv : v = ((keyed (32 * b + i) s.monHist).getD MonInput.zero).hist.getD 3 0) (hrange : -(2 ^ 23) ≤ v ∧ v < 2 ^ 23) :
    (s.monInput b i codes).1 = ⟨v, v, false, false⟩ := by
  have hres : s.monResult b (((keyed (32 * b + i) s.monHist).getD MonInput.zero).next (s.rd (MON_STAT.PRESET_ACT b)) codes).2.hist = v := by
    unfold State.monResult
    rw [hfade, if_pos rfl, hset, compFilter_flat, next_centre, hv]
  have hclip : clipRes v = v := by rw [clipRes, if_neg (by omega), if_neg (by omega)]
  unfold State.monInput
  dsimp only
  rw [hres, hclip, huns, hblock]
  simp

/-! ## All inputs -/

theorem monInputs_succ {m : Nat} {acc : List MonOut} : s.monInputs b all (m + 1) acc =
    (s.monInput b acc.length (all.getD acc.length [])).2.monInputs b all m ((s.monInput b acc.length (all.getD acc.length [])).1 :: acc) := rfl

/-- Outside the settling counts and the preload, the inputs leave every field. -/
theorem monInputs_rd {f : Field} {m : Nat} {acc : List MonOut} (huns : ∀ i, f.key ≠ (MONC.UNS b i).key)
    (hpre : f.key ≠ (MONC.PRELOAD b).key) : (s.monInputs b all m acc).2.rd f = s.rd f := by
  induction m generalizing s acc with
  | zero => rfl
  | succ m ih =>
    rw [monInputs_succ]
    exact ih.trans (monInput_rd (huns _) hpre)

theorem monInputs_hist_other {m : Nat} {acc : List MonOut} (h : k < acc.length) :
    keyed (32 * b + k) (s.monInputs b all m acc).2.monHist = keyed (32 * b + k) s.monHist := by
  induction m generalizing s acc with
  | zero => rfl
  | succ m ih =>
    rw [monInputs_succ]
    exact (ih (by simp; omega)).trans (monInput_hist_other (by omega))

/-- The results so far come first. -/
theorem monInputs_prefix {m : Nat} {acc : List MonOut} : acc.reverse <+: (s.monInputs b all m acc).1 := by
  induction m generalizing s acc with
  | zero => exact List.prefix_refl _
  | succ m ih =>
    rw [monInputs_succ]
    refine List.IsPrefix.trans ?_ ih
    rw [List.reverse_cons]
    exact List.prefix_append ..

/-- What input k meets when its turn comes: every field but the other inputs' counts, and its own history. -/
structure BeforeInput (b k : Nat) (s u : State) : Prop where
  rd : ∀ f : Field, f.key ≠ (MONC.PRELOAD b).key → (∀ i < 32, i ≠ k → f.key ≠ (MONC.UNS b i).key) → u.rd f = s.rd f
  hist : keyed (32 * b + k) u.monHist = keyed (32 * b + k) s.monHist

/-- Each input has its turn, and its result and history stay. -/
theorem monInputs_input {m : Nat} {acc : List MonOut} (hlo : acc.length ≤ k) (hhi : k < acc.length + m) (hall : acc.length + m ≤ 32) :
    ∃ u, BeforeInput b k s u ∧ (s.monInputs b all m acc).1[k]? = some (u.monInput b k (all.getD k [])).1 ∧
      keyed (32 * b + k) (s.monInputs b all m acc).2.monHist = some (u.decimated b k (all.getD k [])) := by
  induction m generalizing s acc with
  | zero => omega
  | succ m ih =>
    rw [monInputs_succ]
    by_cases hk : acc.length = k
    · refine ⟨s, ⟨fun _ _ _ => rfl, rfl⟩, ?_, ?_⟩
      · obtain ⟨rest, hrest⟩ := monInputs_prefix (s := (s.monInput b acc.length (all.getD acc.length [])).2) (b := b) (all := all) (m := m)
          (acc := (s.monInput b acc.length (all.getD acc.length [])).1 :: acc)
        rw [← hrest, List.getElem?_append_left (by simp; omega), ← hk]
        simp
      · rw [monInputs_hist_other (by simp; omega), hk, monInput_hist]
    · obtain ⟨u, hu, hout, hhist⟩ := ih (s := (s.monInput b acc.length (all.getD acc.length [])).2)
        (acc := (s.monInput b acc.length (all.getD acc.length [])).1 :: acc) (by simp; omega) (by simp; omega) (by simp; omega)
      refine ⟨u, ⟨fun f hpre huns => (hu.rd f hpre huns).trans (monInput_rd (huns _ (by omega) hk) hpre), ?_⟩, hout, ?_⟩
      · exact hu.hist.trans (monInput_hist_other hk)
      · exact hhist

end

end Sys2Proof.Machine
end

section
/-! O40, part 5. The end of a conversion period: what is delivered, and what the changes that waited for it leave alone (R305, R310 to
R314). -/

set_option Elab.async false

namespace Sys2Proof.Machine

section
variable {a s t : State} {b i k : Nat} {r : List (Nat × Nat)} {outs : List MonOut} {all : List (List Int)}

/-! ## The parts of a period's end -/

theorem Frames.countFor {ev c : Nat} {p : PmcBlock} {who : Option Nat} (h : Frames r a s) (hb : b < 5) (hr : ∀ q ∈ noticeKeys, q ∈ r) :
    Frames r a (s.countFor b p ev c who) :=
  fun _ hf => (rd_countFor_quiet hb (quiet_of_isQuiet (isQuiet_of_outside (outside_mono hr hf)))).trans (h _ hf)

theorem Frames.raiseMon (h : Frames r a s) (hk : k < 3) (hr : ∀ q ∈ noticeKeys, q ∈ r) : Frames r a (s.raiseMon b k) := by
  rw [raiseMon_eq]
  exact h.raise (monSource_lt hk) hr

/-- Keys of the inputs' counts and of the drive swings. -/
def inputKeys : Nat × Nat := (8 * 0x21B00000, 8 * 0x21C00000)

theorem hits_inputs {m w d : Nat} (h : inputKeys ∈ r) : hits r (cell 27 m w d).key = true :=
  List.any_eq_true.2 ⟨inputKeys, h, Bool.and_eq_true_iff.2 ⟨decide_eq_true (by simp only [inputKeys, Field.key, cell]; omega),
    decide_eq_true (by simp only [inputKeys, Field.key, cell]; omega)⟩⟩

/-- Keys that a period's end writes before its delivery. -/
def beforeKeys (b : Nat) : List (Nat × Nat) :=
  inputKeys :: (keysOf [MONC.PRELOAD b, MON_LIM_STAT.ACT b, MON_LIM_STAT.EV b] ++ noticeKeys)

/-- A period's end, up to its delivery. -/
def State.beforeDelivery (b : Nat) (all : List (List Int)) (s : State) : State :=
  (s.monInputs b all 32 []).2.when (b < 4) (fun t => (t.tapResults b (s.monInputs b all 32 []).1).countFor b .mon 0x01 32 none
      |>.countFor b .mon 0x02 ((s.monInputs b all 32 []).1.countP (·.uns)) none)
    |>.each (List.range 8) (fun k t => t.limitCheck b k (s.monInputs b all 32 []).1)

theorem monEnd_eq : s.monEnd b all =
    (((s.beforeDelivery b all).monDeliver b (s.monInputs b all 32 []).1).monChanges b).calMonitorPeriod b := rfl

/-! ## Before the delivery -/

theorem Frames.limitCheck (h : Frames r a s) (hb : b < 5) (hr : ∀ q ∈ beforeKeys b, q ∈ r) : Frames r a (s.limitCheck b k outs) := by
  have hact : hits r (MON_LIM_STAT.ACT b).key = true := hits_mono (fun q hq => hr q (by simp [beforeKeys, hq])) (hits_keysOf
    (l := [MONC.PRELOAD b, MON_LIM_STAT.ACT b, MON_LIM_STAT.EV b]) (by simp))
  have hev : hits r (MON_LIM_STAT.EV b).key = true := hits_mono (fun q hq => hr q (by simp [beforeKeys, hq])) (hits_keysOf
    (l := [MONC.PRELOAD b, MON_LIM_STAT.ACT b, MON_LIM_STAT.EV b]) (by simp))
  have hnotice : ∀ q ∈ noticeKeys, q ∈ r := fun q hq => hr q (by simp [beforeKeys, hq])
  unfold State.limitCheck
  split
  · dsimp only
    split
    · exact h
    · split
      · exact (h.put hact).when fun u hu => ((hu.put hev).raiseMon (by decide) hnotice).when fun v hv => hv.countFor hb hnotice
      · exact h.put hact
  · exact h

theorem Frames.tapResults (h : Frames r a s) (hr : inputKeys ∈ r) : Frames r a (s.tapResults b outs) := by
  unfold State.tapResults
  refine Frames.each (h.of_rd fun _ => rfl) fun l _ u hu => ?_
  split
  · split
    · exact hu
    · exact hu.put (hits_inputs hr)
  · exact hu

theorem monInputs_frames {m : Nat} {acc : List MonOut} : Frames (beforeKeys b) s (s.monInputs b all m acc).2 := fun f hf => by
  refine monInputs_rd (fun i => ne_of_outside hf (hits_inputs (by simp [beforeKeys]))) (ne_of_outside hf ?_)
  exact hits_mono (fun q hq => by simp [beforeKeys, hq]) (hits_keysOf (l := [MONC.PRELOAD b, MON_LIM_STAT.ACT b, MON_LIM_STAT.EV b])
    (by simp))

theorem beforeDelivery_frames (hb : b < 5) : Frames (beforeKeys b) s (s.beforeDelivery b all) := by
  have hnotice : ∀ q ∈ noticeKeys, q ∈ beforeKeys b := fun q hq => by simp [beforeKeys, hq]
  unfold State.beforeDelivery
  exact (monInputs_frames.when fun u hu => ((hu.tapResults (by simp [beforeKeys])).countFor hb hnotice).countFor hb hnotice).each
    fun k _ u hu => hu.limitCheck hb fun _ hq => hq

theorem each_monHist {α : Type} {l : List α} {f : α → State → State} (h : ∀ x u, (f x u).monHist = u.monHist) :
    (s.each l f).monHist = s.monHist := by
  induction l generalizing s with
  | nil => rfl
  | cons x l ih => exact ih.trans (h x s)

theorem when_monHist {c : Bool} {f : State → State} (h : ∀ u, (f u).monHist = u.monHist) : (s.when c f).monHist = s.monHist := by
  cases c
  · rfl
  · exact h s

theorem countFor_monHist {ev c : Nat} {p : PmcBlock} {who : Option Nat} : (s.countFor b p ev c who).monHist = s.monHist :=
  ((kept_countFor (A := fun _ => False) (.refl s)).same .mon id).1

theorem tapResults_monHist : (s.tapResults b outs).monHist = s.monHist := by
  unfold State.tapResults
  refine (each_monHist fun l u => ?_).trans rfl
  split
  · split <;> rfl
  · rfl

theorem beforeDelivery_monHist : (s.beforeDelivery b all).monHist = (s.monInputs b all 32 []).2.monHist := by
  unfold State.beforeDelivery
  refine (each_monHist fun k u => ((kept_limitCheck (A := fun _ => False) (.refl u)).same .mon id).1).trans (when_monHist fun u => ?_)
  exact countFor_monHist.trans (countFor_monHist.trans tapResults_monHist)

/-! ## After the delivery -/

/-- Fields of the changes that wait for a period's end, the preset apart. -/
def changeFields (b : Nat) : List Field := [MONC.PRELOAD b, MONC.CHG b, MONC.FADE b, MON_STAT.XFADE b, MONC.CS_OLD b, MONC.CS_ACT b]

/-- Their keys, with those of the inputs' counts. -/
def changeKeys (b : Nat) : List (Nat × Nat) := inputKeys :: keysOf (changeFields b)

/-- Keys that a period's end writes after its delivery, where no calibration is at work. -/
def afterKeys (b : Nat) : List (Nat × Nat) := keysOf [MON_STAT.PRESET_ACT b] ++ (changeKeys b ++ releaseKeys)

/-- Inputs whose gain or source changed are unsettled. -/
def State.inputsChanged (b : Nat) (s : State) : State :=
  (s.each ((List.range 32).filter (fun i => bit (s.rd (MONC.CHG b)) i = 1)) (fun i t =>
    (t.put (MONC.UNS b i) (settleCount (s.rd (MON_STAT.PRESET_ACT b)))).putBit (MONC.PRELOAD b) i true)).put (MONC.CHG b) 0

/-- A cross-fade goes on. -/
def State.fadeStepped (b : Nat) (s : State) : State :=
  if s.rd (MONC.FADE b) = 0 then s else if s.rd (MONC.FADE b) < 16 then s.put (MONC.FADE b) (s.rd (MONC.FADE b) + 1)
  else (s.put (MONC.FADE b) 0).put (MON_STAT.XFADE b) 0

/-- A cross-fade to the selected set starts. -/
def State.fadeStarted (b : Nat) (s : State) : State :=
  if s.rd (MONC.FADE b) = 0 && s.rd (MON_CTRL.CS b) ≠ s.rd (MONC.CS_ACT b) then
    (s.put (MONC.CS_OLD b) (s.rd (MONC.CS_ACT b)) |>.put (MONC.CS_ACT b) (s.rd (MON_CTRL.CS b)) |>.put (MONC.FADE b) 1
      |>.put (MON_STAT.XFADE b) 1).each (List.range 32) (fun i t => t.put (MONC.UNS b i) 16)
    |>.put (MONC.PRELOAD b) (2 ^ 32 - 1)
  else s

/-- The changes of gains, sources and compensation that waited. -/
def State.setsChanged (b : Nat) (s : State) : State := ((s.inputsChanged b).fadeStepped b).fadeStarted b

/-- The preset that waited comes into force. -/
def State.presetChanged (b : Nat) (s : State) : State :=
  (s.put (MON_STAT.PRESET_ACT b) (s.rd (MON_CTRL.PRESET b)) |>.put (MONC.FADE b) 0 |>.put (MON_STAT.XFADE b) 0).monRestart b

theorem monChanges_eq : s.monChanges b =
    if (s.setsChanged b).rd (MON_CTRL.PRESET b) ≠ (s.setsChanged b).rd (MON_STAT.PRESET_ACT b) then (s.setsChanged b).presetChanged b
    else s.setsChanged b := rfl

theorem Frames.setsChanged (h : Frames r a s) (hr : ∀ q ∈ changeKeys b, q ∈ r) : Frames r a (s.setsChanged b) := by
  have hfield : ∀ f ∈ changeFields b, hits r f.key = true := fun f hf =>
    hits_mono (fun q hq => hr q (by simp [changeKeys, hq])) (hits_keysOf hf)
  simp only [changeFields, List.forall_mem_cons, List.not_mem_nil, false_implies, implies_true, and_true] at hfield
  obtain ⟨hpre, hchg, hfade, hx, hold, hact⟩ := hfield
  have huns : ∀ {m w d}, hits r (cell 27 m w d).key = true := hits_inputs (hr _ (by simp [changeKeys]))
  unfold State.setsChanged
  have hinputs : Frames r a (s.inputsChanged b) := (h.each fun i _ u hu => (hu.put huns).put hpre).put hchg
  have hstep : Frames r a ((s.inputsChanged b).fadeStepped b) := by
    unfold State.fadeStepped
    split
    · exact hinputs
    · split
      · exact hinputs.put hfade
      · exact (hinputs.put hfade).put hx
  generalize (s.inputsChanged b).fadeStepped b = v at hstep
  unfold State.fadeStarted
  split
  · exact Frames.put (.each (.put (.put (.put (.put hstep hold) hact) hfade) hx) fun i _ u hu => hu.put huns) hpre
  · exact hstep

theorem Frames.monRestart (h : Frames r a s) (hr : inputKeys ∈ r) (hpre : hits r (MONC.PRELOAD b).key = true) :
    Frames r a (s.monRestart b) := by
  unfold State.monRestart
  refine Frames.put (Frames.each ?_ fun i _ u hu => hu.put (hits_inputs hr)) hpre
  exact h.of_rd fun _ => rfl

theorem monChanges_frames : Frames (afterKeys b) s (s.monChanges b) := by
  have hchange : ∀ q ∈ changeKeys b, q ∈ afterKeys b := fun q hq => List.mem_append_right _ (List.mem_append_left _ hq)
  have hfield : ∀ f ∈ changeFields b, hits (afterKeys b) f.key = true := fun f hf =>
    hits_mono (fun q hq => hchange q (by simp [changeKeys, hq])) (hits_keysOf hf)
  have hsets : Frames (afterKeys b) s (s.setsChanged b) := (Frames.refl _ s).setsChanged hchange
  rw [monChanges_eq]
  split
  · unfold State.presetChanged
    refine Frames.monRestart (((hsets.put ?_).put ?_).put ?_) (hchange _ (by simp [changeKeys])) ?_
    · exact hits_mono (fun q hq => List.mem_append_left _ hq) (hits_keysOf (l := [MON_STAT.PRESET_ACT b]) (by simp))
    all_goals exact hfield _ (by simp [changeFields])
  · exact hsets

theorem setsChanged_monHist : (s.setsChanged b).monHist = s.monHist := by
  have hinputs : (s.inputsChanged b).monHist = s.monHist := each_monHist fun _ _ => rfl
  have hstep : ∀ v : State, (v.fadeStepped b).monHist = v.monHist := fun v => by
    unfold State.fadeStepped
    split
    · rfl
    · split <;> rfl
  have hput : ∀ (v : State) (f : Field) (x : Nat), (v.put f x).monHist = v.monHist := fun _ _ _ => rfl
  have hstart : ∀ v : State, (v.fadeStarted b).monHist = v.monHist := fun v => by
    unfold State.fadeStarted
    split
    · rw [hput, each_monHist fun _ _ => hput _ _ _]
      simp only [hput]
    · rfl
  unfold State.setsChanged
  rw [hstart, hstep, hinputs]

/-- Where no calibration is at work, a period's end may only release a laser that a run held. -/
theorem calMonitorPeriod_idle (h : s.rd CAL_RUN_STAT.STATE = 0) : s.calMonitorPeriod b = s.calRelease := by
  have hcheck : s.calCheckEnd = s := by
    unfold State.calCheckEnd
    rw [h]
    rfl
  have hboundary : ∀ n p, s.calBoundary n p = s := fun n p => by
    unfold State.calBoundary State.calApplying
    rw [h, if_neg (by simp)]
  have hnow : s.when (b = 4 && s.rd CAL_RUN_STAT.STATE = 5 && s.rd CAL_RUN_STAT.SCOPE = 4) State.calElementNow = s := by
    rw [h]
    simp
  unfold State.calMonitorPeriod
  dsimp only
  rw [hnow, hcheck, hboundary, ite_self]

/-! ## The delivery -/

/-- A result that finds MON_RES full is noted as an overrun. -/
def State.overrunNoted (b : Nat) (s : State) : State :=
  s.when (s.on (MON_STAT.FULL b)) (fun t => (t.put (MON_STAT.OVR b) 1).bump (MON_CNT.OVR b) |>.when (b < 4) (·.count b .mon 0x03))

/-- A result stands in MON_RES. -/
def State.resultShown (b i : Nat) (urgent : Bool) (o : MonOut) (s : State) : State :=
  s.flag (MON_RES.URGENT b) urgent |>.flag (MON_RES.UNSETTLED b) o.uns |>.flag (MON_RES.CLIP b) o.clip
    |>.put (MON_RES.INPUT b) i |>.putS (MON_RES.VALUE b) o.out |>.put (MON_STAT.FULL b) 1 |>.addWrap (MON_STAT.SEQ b) 1

theorem deliver_eq {urgent : Bool} {o : MonOut} : s.deliver b i urgent o = ((s.overrunNoted b).resultShown b i urgent o).raiseMon b 0 := rfl

/-- Fields of a result that is delivered. -/
def resultFields (b : Nat) : List Field :=
  [MON_RES.URGENT b, MON_RES.UNSETTLED b, MON_RES.CLIP b, MON_RES.INPUT b, MON_RES.VALUE b, MON_STAT.FULL b, MON_STAT.SEQ b]

/-- Fields of a delivery. -/
def deliveryFields (b : Nat) : List Field :=
  MON_STAT.OVR b :: MON_CNT.OVR b :: MON_STAT.URG_PEND b :: MONC.LASTIN b :: resultFields b

/-- Keys that a delivery writes. -/
def deliveryKeys (b : Nat) : List (Nat × Nat) := keysOf (deliveryFields b) ++ noticeKeys

theorem Frames.resultShown {urgent : Bool} {o : MonOut} (h : Frames r a s) (hr : ∀ f ∈ resultFields b, hits r f.key = true) :
    Frames r a (s.resultShown b i urgent o) := by
  simp only [resultFields, List.forall_mem_cons, List.not_mem_nil, false_implies, implies_true, and_true] at hr
  obtain ⟨hurg, huns, hclip, hin, hval, hfull, hseq⟩ := hr
  exact ((((((h.put hurg).put huns).put hclip).put hin).put hval).put hfull).put hseq

theorem Frames.overrunNoted (h : Frames r a s) (hb : b < 5) (hovr : hits r (MON_STAT.OVR b).key = true)
    (hcnt : hits r (MON_CNT.OVR b).key = true) (hr : ∀ q ∈ noticeKeys, q ∈ r) : Frames r a (s.overrunNoted b) :=
  h.when fun _ hu => ((hu.put hovr).put hcnt).when fun _ hv => hv.countFor hb hr

theorem Frames.monDeliver (h : Frames r a s) (hb : b < 5) (hr : ∀ q ∈ deliveryKeys b, q ∈ r) : Frames r a (s.monDeliver b outs) := by
  have hfield : ∀ f ∈ deliveryFields b, hits r f.key = true := fun f hf =>
    hits_mono (fun q hq => hr q (List.mem_append_left _ hq)) (hits_keysOf hf)
  have hnotice : ∀ q ∈ noticeKeys, q ∈ r := fun q hq => hr q (List.mem_append_right _ hq)
  have hdeliver : ∀ (u : State) (i : Nat) (urgent : Bool) (o : MonOut), Frames r a u → Frames r a (u.deliver b i urgent o) :=
    fun u i urgent o hu => by
      rw [deliver_eq]
      exact ((hu.overrunNoted hb (hfield _ (by simp [deliveryFields])) (hfield _ (by simp [deliveryFields])) hnotice).resultShown
        fun f hf => hfield f (by simp [deliveryFields, hf])).raiseMon (by decide) hnotice
  unfold State.monDeliver
  dsimp only
  split
  · exact hdeliver _ _ _ _ (h.put (hfield _ (by simp [deliveryFields])))
  · split
    · exact hdeliver _ _ _ _ (h.put (hfield _ (by simp [deliveryFields])))
    · exact h

theorem monDeliver_monHist : (s.monDeliver b outs).monHist = s.monHist :=
  ((kept_monDeliver (A := fun _ => False) (.refl s)).same .mon id).1

end

end Sys2Proof.Machine
end

section
/-! O40, part 6. The delivered result and the filters after a conversion period, and the obligation. -/

set_option Elab.async false

namespace Sys2Proof.Machine

section
variable {b : Fin 5} {s t u : State} {k : Fin 32} {v : Int} {urgent : Bool} {codes : List (List Int)}

/-! ## What a delivery shows -/

theorem result_facts : ∀ b : Fin 5, (deliveryFields b |>.map Field.key).Nodup ∧ (∀ f ∈ deliveryFields b, isQuiet f.key = true) := by decide

theorem overrunNoted_same {f : Field} (hovr : f.key ≠ (MON_STAT.OVR b).key) (hcnt : f.key ≠ (MON_CNT.OVR b).key)
    (hq : isQuiet f.key = true) : (s.overrunNoted b).rd f = s.rd f := by
  unfold State.overrunNoted
  refine rd_when_same fun u => (rd_when_same fun w => rd_count_quiet b.isLt (quiet_of_isQuiet hq)).trans ?_
  exact (rd_bump_ne hcnt).trans (rd_put_ne hovr)

theorem overrunNoted_full (h : s.on (MON_STAT.FULL b) = true) : (s.overrunNoted b).rd (MON_STAT.OVR b) = 1 ∧
    (s.overrunNoted b).rd (MON_CNT.OVR b) = s.oneMore (MON_CNT.OVR b) := by
  obtain ⟨hkeys, hquiet⟩ := result_facts b
  simp only [deliveryFields, List.map_cons, List.nodup_cons, List.mem_cons, not_or] at hkeys
  obtain ⟨⟨hoc, -⟩, -⟩ := hkeys
  have hcount : ∀ (u : State), ∀ f ∈ deliveryFields b, (u.when (b.val < 4) (·.count b .mon 0x03)).rd f = u.rd f := fun u f hf =>
    rd_when_same fun _ => rd_count_quiet b.isLt (quiet_of_isQuiet (hquiet f hf))
  unfold State.overrunNoted
  rw [h, when_true]
  refine ⟨(hcount _ _ (by simp [deliveryFields])).trans ((rd_bump_ne hoc).trans (rd_put_same ..)),
    (hcount _ _ (by simp [deliveryFields])).trans ((rd_bump_same _).trans ?_)⟩
  unfold State.oneMore
  rw [rd_put_ne (Ne.symm hoc)]

/-- A field of the delivery list that the shown result leaves. -/
theorem resultShown_same {i : Nat} {o : MonOut} {f : Field} (hf : ∀ g ∈ resultFields b, f.key ≠ g.key) :
    (s.resultShown b i urgent o).rd f = s.rd f := by
  simp only [resultFields, List.forall_mem_cons, List.not_mem_nil, false_implies, implies_true, and_true] at hf
  obtain ⟨hurg, huns, hclip, hin, hval, hfull, hseq⟩ := hf
  exact (rd_addWrap_ne hseq).trans ((rd_put_ne hfull).trans ((rd_putS_ne hval).trans ((rd_put_ne hin).trans
    ((rd_flag_ne hclip).trans ((rd_flag_ne huns).trans (rd_flag_ne hurg))))))

theorem resultShown_shows (hrange : -(2 ^ 23) ≤ v ∧ v < 2 ^ 23) :
    (s.resultShown b k urgent ⟨v, v, false, false⟩).rdS (MON_RES.VALUE b) = v ∧
    (s.resultShown b k urgent ⟨v, v, false, false⟩).rd (MON_RES.INPUT b) = k ∧
    (s.resultShown b k urgent ⟨v, v, false, false⟩).rd (MON_RES.URGENT b) = (if urgent then 1 else 0) ∧
    (s.resultShown b k urgent ⟨v, v, false, false⟩).rd (MON_RES.UNSETTLED b) = 0 ∧
    (s.resultShown b k urgent ⟨v, v, false, false⟩).rd (MON_RES.CLIP b) = 0 ∧
    (s.resultShown b k urgent ⟨v, v, false, false⟩).rd (MON_STAT.FULL b) = 1 ∧
    (s.resultShown b k urgent ⟨v, v, false, false⟩).rd (MON_STAT.SEQ b) = (s.rd (MON_STAT.SEQ b) + 1) % 2 ^ 16 := by
  have hkeys := (result_facts b).1
  simp only [deliveryFields, resultFields, List.map_cons, List.map_nil, List.nodup_cons, List.mem_cons, List.not_mem_nil, or_false,
    not_or] at hkeys
  obtain ⟨-, -, -, -, ⟨huu, huc, hui, huv, huf, hus⟩, ⟨hnc, hni, hnv, hnf, hns⟩, ⟨hci, hcv, hcf, hcs⟩,
    ⟨hiv, hif, his⟩, ⟨hvf, hvs⟩, hfs, -⟩ := hkeys
  unfold State.resultShown
  refine ⟨?_, ?_, ?_, ?_, ?_, (rd_addWrap_ne hfs).trans (rd_put_same ..), ?_⟩
  · rw [State.addWrap, rdS_put_ne hvs, rdS_put_ne hvf]
    exact rdS_putS_same (show 0 < 24 by decide) hrange.1 hrange.2
  · exact (rd_addWrap_ne his).trans ((rd_put_ne hif).trans ((rd_putS_ne hiv).trans ((rd_put_same ..).trans (Nat.mod_eq_of_lt k.isLt))))
  · refine (rd_addWrap_ne hus).trans ((rd_put_ne huf).trans ((rd_putS_ne huv).trans ((rd_put_ne hui).trans ((rd_flag_ne huc).trans
      ((rd_flag_ne huu).trans ((rd_put_same ..).trans ?_))))))
    cases urgent <;> rfl
  · exact (rd_addWrap_ne hns).trans ((rd_put_ne hnf).trans ((rd_putS_ne hnv).trans ((rd_put_ne hni).trans ((rd_flag_ne hnc).trans
      (rd_put_same ..)))))
  · exact (rd_addWrap_ne hcs).trans ((rd_put_ne hcf).trans ((rd_putS_ne hcv).trans ((rd_put_ne hci).trans (rd_put_same ..))))
  · refine (rd_put_same ..).trans (congrArg (fun x => (x + 1) % 2 ^ 16) ?_)
    exact (rd_put_ne (Ne.symm hfs)).trans ((rd_putS_ne (Ne.symm hvs)).trans ((rd_put_ne (Ne.symm his)).trans
      ((rd_flag_ne (Ne.symm hcs)).trans ((rd_flag_ne (Ne.symm hns)).trans (rd_flag_ne (Ne.symm hus))))))

/-- What the end of a period shows of the result v of input k, from what s held. -/
structure Delivered (b : Fin 5) (k : Fin 32) (v : Int) (s t : State) : Prop where
  value : t.rdS (MON_RES.VALUE b) = v
  input : t.rd (MON_RES.INPUT b) = k
  urgent : t.rd (MON_RES.URGENT b) = s.rd (MON_STAT.URG_PEND b)
  unsettled : t.rd (MON_RES.UNSETTLED b) = 0
  clip : t.rd (MON_RES.CLIP b) = 0
  full : t.rd (MON_STAT.FULL b) = 1
  overrun : s.on (MON_STAT.FULL b) = true → t.rd (MON_STAT.OVR b) = 1 ∧ t.rd (MON_CNT.OVR b) = s.oneMore (MON_CNT.OVR b)
  none : t.rd (MON_STAT.URG_PEND b) = 0
  seq : t.rd (MON_STAT.SEQ b) = (s.rd (MON_STAT.SEQ b) + 1) % 2 ^ 16
  pend : t.rd (IRQ_PEND (monSource b 0)) = 1

/-- Fields that a delivery starts from. -/
def sourceFields (b : Nat) : List Field := [MON_STAT.FULL b, MON_CNT.OVR b, MON_STAT.SEQ b]

/-- A result that is delivered, where the request that it answers has been taken. -/
theorem deliver_delivered (hrange : -(2 ^ 23) ≤ v ∧ v < 2 ^ 23) (hsource : ∀ f ∈ sourceFields b, u.rd f = s.rd f)
    (hurgent : s.rd (MON_STAT.URG_PEND b) = if urgent then 1 else 0) (hnone : u.rd (MON_STAT.URG_PEND b) = 0) :
    Delivered b k v s (u.deliver b k urgent ⟨v, v, false, false⟩) := by
  obtain ⟨hkeys, hquiet⟩ := result_facts b
  have hread : ∀ f ∈ deliveryFields b, (u.deliver b k urgent ⟨v, v, false, false⟩).rd f =
      ((u.overrunNoted b).resultShown b k urgent ⟨v, v, false, false⟩).rd f := fun f hf => by
    rw [deliver_eq, raiseMon_eq]
    exact rd_raise_quiet (monSource_lt (by decide)) (quiet_of_isQuiet (hquiet f hf))
  obtain ⟨hval, hin, hurg, huns, hclip, hfull, hseq⟩ := resultShown_shows (s := u.overrunNoted b) (b := b) (k := k) (urgent := urgent) hrange
  simp only [sourceFields, List.forall_mem_cons, List.not_mem_nil, false_implies, implies_true, and_true] at hsource
  obtain ⟨hsfull, hscnt, hsseq⟩ := hsource
  rw [deliveryFields, List.map_cons, List.map_cons, List.map_cons, List.map_cons] at hkeys
  simp only [List.nodup_cons, List.mem_cons, not_or, List.mem_map, not_exists, not_and] at hkeys
  obtain ⟨⟨hoc, hop, -, ho⟩, ⟨hcp, -, hc⟩, ⟨-, hp⟩, -, -⟩ := hkeys
  have hseqmem : MON_STAT.SEQ b ∈ resultFields b := by simp [resultFields]
  have hmem : ∀ f ∈ resultFields b, f ∈ deliveryFields b := fun f hf => by simp [deliveryFields, hf]
  refine ⟨?_, (hread _ (hmem _ (by simp [resultFields]))).trans hin, ?_, (hread _ (hmem _ (by simp [resultFields]))).trans huns,
    (hread _ (hmem _ (by simp [resultFields]))).trans hclip, (hread _ (hmem _ (by simp [resultFields]))).trans hfull, fun hon => ?_, ?_, ?_, ?_⟩
  · rw [State.rdS, hread _ (hmem _ (by simp [resultFields]))]
    exact hval
  · exact (hread _ (hmem _ (by simp [resultFields]))).trans (hurg.trans hurgent.symm)
  · obtain ⟨hovr, hcnt⟩ := overrunNoted_full ((on_congr hsfull).trans hon)
    refine ⟨(hread _ (by simp [deliveryFields])).trans ((resultShown_same fun g hg h => ho g hg h.symm).trans hovr),
      (hread _ (by simp [deliveryFields])).trans ((resultShown_same fun g hg h => hc g hg h.symm).trans (hcnt.trans ?_))⟩
    unfold State.oneMore
    rw [hscnt]
  · exact (hread _ (by simp [deliveryFields])).trans ((resultShown_same fun g hg h => hp g hg h.symm).trans
      ((overrunNoted_same (Ne.symm hop) (Ne.symm hcp) (hquiet _ (by simp [deliveryFields]))).trans hnone))
  · refine (hread _ (hmem _ hseqmem)).trans (hseq.trans ?_)
    rw [overrunNoted_same (fun h => ho _ hseqmem h) (fun h => hc _ hseqmem h) (hquiet _ (hmem _ hseqmem)), hsseq]
  · rw [deliver_eq, raiseMon_eq]
    exact raise_pend (monSource_lt (by decide))

/-- What follows a delivery leaves it. -/
theorem Delivered.of_frames (h : Delivered b k v s t) (hf : Frames (afterKeys b) t u) : Delivered b k v s u := by
  have hout : ∀ b : Fin 5, (∀ f ∈ MON_STAT.OVR b :: MON_CNT.OVR b :: MON_STAT.URG_PEND b :: resultFields b,
      outside (afterKeys b) f.key = true) ∧ outside (afterKeys b) (IRQ_PEND (monSource b 0)).key = true := by decide
  obtain ⟨hfields, hpend⟩ := hout b
  have hread : ∀ f ∈ MON_STAT.OVR b :: MON_CNT.OVR b :: MON_STAT.URG_PEND b :: resultFields b, u.rd f = t.rd f := fun f hm => hf f (hfields f hm)
  simp only [resultFields, List.forall_mem_cons, List.not_mem_nil, false_implies, implies_true, and_true] at hread
  obtain ⟨hovr, hcnt, hup, hurg, huns, hclip, hin, hval, hfull, hseq⟩ := hread
  refine ⟨?_, hin.trans h.input, hurg.trans h.urgent, huns.trans h.unsettled, hclip.trans h.clip, hfull.trans h.full, fun hon => ?_,
    hup.trans h.none, hseq.trans h.seq, (hf _ hpend).trans h.pend⟩
  · rw [State.rdS, hval]
    exact h.value
  · obtain ⟨ho, hc⟩ := h.overrun hon
    exact ⟨hovr.trans ho, hcnt.trans hc⟩

/-! ## The period's end -/

/-- Fields that a period's end finds as they were, when it comes to its delivery. -/
def deliverySources (b : Nat) : List Field :=
  [MON_STAT.URG_PEND b, MONC.URG_IN b, MON_DLV.MASK b, MONC.LASTIN b, CAL_RUN_STAT.STATE] ++ sourceFields b

theorem before_facts : ∀ b : Fin 5, (∀ f ∈ deliverySources b, outside (beforeKeys b) f.key = true) ∧
    (∀ f ∈ sourceFields b, f.key ≠ (MON_STAT.URG_PEND b).key ∧ f.key ≠ (MONC.LASTIN b).key) ∧
    (MON_STAT.URG_PEND b).key ≠ (MONC.LASTIN b).key ∧ (MONC.URG_IN b).key ≠ (MON_STAT.URG_PEND b).key ∧
    outside (beforeKeys b ++ deliveryKeys b ++ changeKeys b) (MON_STAT.PRESET_ACT b).key = true ∧
    outside (beforeKeys b ++ deliveryKeys b ++ changeKeys b) (MON_CTRL.PRESET b).key = true ∧
    outside (beforeKeys b ++ deliveryKeys b ++ afterKeys b) CAL_RUN_STAT.STATE.key = true := by decide

/-- The delivery of the input whose turn it is. -/
theorem monDeliver_delivered {outs : List MonOut} (hrange : -(2 ^ 23) ≤ v ∧ v < 2 ^ 23) (hsource : ∀ f ∈ deliverySources b, u.rd f = s.rd f)
    (hturn : (if s.on (MON_STAT.URG_PEND b) = true then some (s.rd (MONC.URG_IN b)) else nextInput (s.rd (MON_DLV.MASK b))
      (s.rd (MONC.LASTIN b))) = some k.val) (hout : outs[k.val]? = some ⟨v, v, false, false⟩) :
    Delivered b k v s (u.monDeliver b outs) := by
  obtain ⟨-, hfar, hpl, hip, -⟩ := before_facts b
  have hget : ∀ z, outs.getD k.val z = ⟨v, v, false, false⟩ := fun z => by rw [List.getD_eq_getElem?_getD, hout]; rfl
  have hrest : ∀ f ∈ sourceFields b, u.rd f = s.rd f := fun f hf => hsource f (List.mem_append_right _ hf)
  simp only [deliverySources, List.cons_append, List.nil_append, List.forall_mem_cons] at hsource
  obtain ⟨hurg, hin, hmask, hlast, -⟩ := hsource
  unfold State.monDeliver
  dsimp only
  by_cases hon : s.on (MON_STAT.URG_PEND b) = true
  · rw [if_pos hon, Option.some_inj] at hturn
    have hone : s.rd (MON_STAT.URG_PEND b) = 1 := of_decide_eq_true hon
    rw [if_pos ((on_congr hurg).trans hon), hin, hturn, hget]
    refine deliver_delivered (urgent := true) hrange (fun f hf => (rd_put_ne (hfar f hf).1).trans (hrest f hf)) hone (rd_put_same ..)
  · rw [if_neg hon] at hturn
    have hzero : s.rd (MON_STAT.URG_PEND b) = 0 := by
      have hlt := rd_lt s (MON_STAT.URG_PEND b)
      have hne : s.rd (MON_STAT.URG_PEND b) ≠ 1 := fun h => hon (decide_eq_true h)
      simp only [MON_STAT.URG_PEND] at hlt hne ⊢
      omega
    rw [if_neg (by rw [on_congr hurg]; exact hon), hmask, hlast, hturn]
    dsimp only
    rw [hget]
    exact deliver_delivered (urgent := false) hrange (fun f hf => (rd_put_ne (hfar f hf).2).trans (hrest f hf)) hzero
      ((rd_put_ne hpl).trans (hurg.trans hzero))

theorem exec_monitorConversionEnd (hans : s.answers = true) (hclk : s.on (MON_STAT.CLK_LOSS b) = false) :
    exec (.monitorConversionEnd b codes) s = .next (s.monEnd b codes) := by
  change Host.Outcome.next (s.when (s.answers && !s.on (MON_STAT.CLK_LOSS b)) (·.monEnd b codes)) = _
  rw [hans, hclk]
  rfl

theorem monEnd_flow : (s.monEnd b codes).flow = s.flow := by
  have h1 : Fact ((fun x => x ≠ Area.flow) Area.votes) := ⟨by decide⟩
  have h2 : Fact ((fun x => x ≠ Area.flow) Area.mon) := ⟨by decide⟩
  have h3 : Fact ((fun x => x ≠ Area.flow) Area.sets) := ⟨by decide⟩
  have h4 : Fact ((fun x => x ≠ Area.flow) Area.applied) := ⟨by decide⟩
  have h5 : Fact ((fun x => x ≠ Area.flow) Area.calWait) := ⟨by decide⟩
  exact (kept_monEnd (A := fun x => x ≠ Area.flow) (.refl s)).same .flow (fun h => h rfl)

theorem calMonitorPeriod_monHist : (s.calMonitorPeriod b).monHist = s.monHist := by
  have h1 : Fact ((fun x => x ≠ Area.mon) Area.votes) := ⟨by decide⟩
  have h3 : Fact ((fun x => x ≠ Area.mon) Area.sets) := ⟨by decide⟩
  have h4 : Fact ((fun x => x ≠ Area.mon) Area.applied) := ⟨by decide⟩
  have h5 : Fact ((fun x => x ≠ Area.mon) Area.calWait) := ⟨by decide⟩
  exact ((kept_calMonitorPeriod (A := fun x => x ≠ Area.mon) (.refl s)).same .mon (fun h => h rfl)).1

/-- Before its turn an input meets every field but the other inputs' counts. -/
theorem before_input_facts : ∀ b : Fin 5, ∀ f ∈ [MONC.CS_ACT b, MONC.FADE b, MON_DCB_EN.EN b, MON_STAT.PRESET_ACT b],
    f.key ≠ (MONC.PRELOAD b).key ∧ outside [inputKeys] f.key = true := by decide

theorem BeforeInput.read (h : BeforeInput b k s u) {f : Field}
    (hf : f ∈ [MONC.CS_ACT b, MONC.FADE b, MON_DCB_EN.EN b, MON_STAT.PRESET_ACT b]) : u.rd f = s.rd f := by
  obtain ⟨hpre, hout⟩ := before_input_facts b f hf
  exact h.rd f hpre fun i _ _ => ne_of_outside hout (hits_inputs (by simp))

theorem BeforeInput.uns (h : BeforeInput b k s u) : u.rd (MONC.UNS b k) = s.rd (MONC.UNS b k) := by
  refine h.rd _ ?_ fun i hi hne => uns_key_ne k.isLt hi (Ne.symm hne)
  simp only [Field.key, MONC.UNS, MONC.PRELOAD, cell]
  omega

theorem monitorConversionEnd_delivers (hans : s.answers = true) (hclk : s.on (MON_STAT.CLK_LOSS b) = false) (hset : s.rd (MONC.CS_ACT b) = 0)
    (hfade : s.rd (MONC.FADE b) = 0)
    (hturn : (if s.on (MON_STAT.URG_PEND b) = true then some (s.rd (MONC.URG_IN b)) else nextInput (s.rd (MON_DLV.MASK b))
      (s.rd (MONC.LASTIN b))) = some k.val) (hblock : s.rdBit (MON_DCB_EN.EN b) k = false) (huns : s.rd (MONC.UNS b k) = 0)
    (hv : v = ((keyed (32 * b.val + k.val) s.monHist).getD MonInput.zero).hist.getD 3 0) (hrange : -(2 ^ 23) ≤ v ∧ v < 2 ^ 23)
    (hcal : s.rd CAL_RUN_STAT.STATE = 0) :
    ∃ t, exec (.monitorConversionEnd b codes) s = .next t ∧ Delivered b k v s t ∧ t.flow = s.flow := by
  obtain ⟨hsources, -, -, -, -, -, hstate⟩ := before_facts b
  obtain ⟨u, hu, hout, -⟩ := monInputs_input (s := s) (b := b) (k := k) (all := codes) (m := 32) (acc := []) (by simp) (by simp) (by simp)
  have hflat : (u.monInput b k (codes.getD k [])).1 = ⟨v, v, false, false⟩ :=
    monInput_flat ((hu.read (by simp)).trans hset) ((hu.read (by simp)).trans hfade)
      (by unfold State.rdBit at hblock ⊢; rw [hu.read (by simp)]; exact hblock) (hu.uns.trans huns) (by rw [hu.hist]; exact hv) hrange
  rw [hflat] at hout
  refine ⟨_, exec_monitorConversionEnd hans hclk, ?_, monEnd_flow⟩
  rw [monEnd_eq]
  have hbefore := beforeDelivery_frames (s := s) (all := codes) b.isLt
  have hdelivered := monDeliver_delivered (u := s.beforeDelivery b codes) hrange (fun f hf => hbefore f (hsources f hf)) hturn hout
  have hwhole : Frames (beforeKeys b ++ deliveryKeys b ++ afterKeys b) s
      (((s.beforeDelivery b codes).monDeliver b (s.monInputs b codes 32 []).1).monChanges b) := by
    refine Frames.trans ?_ (monChanges_frames.mono fun q hq => List.mem_append_right _ hq)
    exact (hbefore.mono fun q hq => by simp [hq]).monDeliver b.isLt fun q hq => by simp [hq]
  rw [calMonitorPeriod_idle ((hwhole _ hstate).trans hcal)]
  refine (hdelivered.of_frames monChanges_frames).of_frames ((Frames.refl _ _).calRelease fun q hq => ?_)
  simp [afterKeys, hq]

theorem monitorConversionEnd_filters (hans : s.answers = true) (hclk : s.on (MON_STAT.CLK_LOSS b) = false)
    (hpreset : s.rd (MON_CTRL.PRESET b) = s.rd (MON_STAT.PRESET_ACT b)) :
    ∃ t, exec (.monitorConversionEnd b codes) s = .next t ∧
      keyed (32 * b.val + k.val) t.monHist = some (((keyed (32 * b.val + k.val) s.monHist).getD MonInput.zero).next
        (s.rd (MON_STAT.PRESET_ACT b)) (codes.getD k [])).2 ∧ t.flow = s.flow := by
  obtain ⟨-, -, -, -, hact, hsel, -⟩ := before_facts b
  obtain ⟨u, hu, -, hhist⟩ := monInputs_input (s := s) (b := b) (k := k) (all := codes) (m := 32) (acc := []) (by simp) (by simp) (by simp)
  refine ⟨_, exec_monitorConversionEnd hans hclk, ?_, monEnd_flow⟩
  have hwhole : Frames (beforeKeys b ++ deliveryKeys b ++ changeKeys b) s
      (((s.beforeDelivery b codes).monDeliver b (s.monInputs b codes 32 []).1).setsChanged b) := by
    refine Frames.setsChanged (Frames.monDeliver ((beforeDelivery_frames b.isLt).mono fun q hq => ?_) b.isLt fun q hq => ?_) fun q hq => ?_
    all_goals simp [hq]
  rw [monEnd_eq, calMonitorPeriod_monHist, monChanges_eq, if_neg (by rw [hwhole _ hact, hwhole _ hsel]; exact not_not.2 hpreset),
    setsChanged_monHist, monDeliver_monHist, beforeDelivery_monHist, hhist]
  unfold State.decimated
  rw [hu.hist, hu.read (by simp)]

end

/-- Settles O40: a period's end is its inputs' parts, each in turn, then the delivery and the changes that waited, which write apart; the
loops of a tap take their turns one by one. -/
theorem monitorConvertersDeliver : Obligations.MonitorConvertersDeliver := by
  unfold Obligations.MonitorConvertersDeliver
  refine ⟨fun s b codes k v hans hclk hset hfade hturn hblock huns hv hrange hcal => ?_, fun s b codes hoff => ⟨s, ?_, rfl⟩,
    fun s b codes k hans hclk hpreset => monitorConversionEnd_filters hans hclk hpreset,
    fun s win b hans hlvl => monitorResultRead_returns hans hlvl,
    fun s win b value hopen hgo hfree => monitorUrgentRequest_waits hopen hgo hfree,
    fun s win b value hopen hgo hbusy => monitorUrgentRequest_refused hopen hgo hbusy,
    fun s win b value hopen hcs hdck => ?_, fun s win b value hopen hfade hdck => ?_,
    fun s win b value set tap hopen hset htap hfree => coefficientWrite_taken hopen hset htap hfree,
    fun s b hans hclk => monitorClockLoss_holds hans hclk,
    fun s b k hclk => monitorClockRelock_restarts k hclk,
    fun s n tap vpi l hruns hkey hlen hskip => biasBlockEnd_skips hruns hkey hlen hskip,
    fun s n tap vpi l e v hruns hkey hlen hsettled hmean h1 h2 he hv hst hrail hsmall hshown hupd hvpi =>
      biasBlockEnd_moves hruns hkey hlen hsettled hmean h1 h2 he hv hst hrail hsmall hshown hupd hvpi,
    fun s n tap vpi l e v hruns hkey hlen hsettled hmean _ _ he hv hst hrail hcount =>
      biasBlockEnd_loses hruns hkey hlen hsettled hmean he hv hst hrail hcount⟩
  · obtain ⟨t, hexec, hd, hflow⟩ := monitorConversionEnd_delivers (codes := codes) hans hclk hset hfade hturn hblock huns hv hrange hcal
    exact ⟨t, hexec, hd.value, hd.input, ⟨hd.urgent, hd.unsettled, hd.clip⟩, hd.full, hd.overrun, hd.none, hd.seq, hd.pend, hflow⟩
  · change Host.Outcome.next (s.when (s.answers && !s.on (MON_STAT.CLK_LOSS b)) _) = _
    rcases hoff with h | h <;> simp [h, when_false]
  · obtain ⟨hpreset, hset, hdecim, hact, -, hch, hflow, hsame⟩ := setMonCtrl_shows (s := s) (b := b) (v := value.toNat)
    exact ⟨_, congrArg Host.Outcome.next (hostWrite_monCtrl hopen hcs hdck), hpreset, hact, hset, hdecim, hch, hflow, hsame⟩
  · obtain ⟨hpreset, hset, hdecim, -, hact, hch, hflow, hsame⟩ := setMonCtrl_shows (s := s) (b := b) (v := value.toNat)
    exact ⟨_, congrArg Host.Outcome.next (hostWrite_monCtrl hopen (.inr hfade) hdck), hset, hact, hpreset, hdecim, hch, hflow, hsame⟩

end Sys2Proof.Machine
end
